-- ==== Sys2Proof/Word.lean ====
section
/-!
DEFINITION. The word types of the register window (00 R17: every register is 64 bits wide).
-/
namespace Sys2Proof

/-- A register of the window (00 R17). -/
abbrev Word := BitVec 64

/-- A byte of an image bank, of the certificate store or of the trace buffer. -/
abbrev Byte := BitVec 8

end Sys2Proof
end

