-- ==== Sys2Proof/Syntax.lean ====
section
/-!
DEFINITION. The commands of the block: one constructor per row of spec/opcode_table.json, with the operands the row's rule gives
it, and the payloads that the operands carry. The first operand of every command is its stamp in ns of the hub time base, or of
the island's own time base where the comment says so (00 R9; log entry 7).
-/
namespace Sys2Proof

/-- The status codes of 00 R14. -/
inductive Status where
  | ok | eAbsent | ePriv | eLoopClosed | eAlign | eRange | eImage | eOverrun | eBroken | eNest
deriving DecidableEq, Repr

/-- Who presents a request: an initiator of the register port with its privilege (18 R534), a queued posted write
(18 R540), or the facility port (18 R554). -/
inductive Port where
  | reg (init : Nat) (priv : Bool)
  | posted (init : Nat) (priv : Bool)
  | fac
deriving DecidableEq, Repr

/-- A channel end (03 R110): the hub's to its child at TREE position k, node engine n's to its parent (j 0) or to its child
at position j, leaf agent n's to its parent. -/
inductive ChEnd where
  | hub (k : Nat)
  | node (n j : Nat)
  | leaf (n : Nat)
deriving DecidableEq, Repr

/-- The head of a command request (03 R89). -/
structure CmdReq where
  dest : Nat
  reqid : Nat
  op : Nat
  off : Nat
deriving DecidableEq, Repr

/-- Where a count comes from (17 R496): sub-gate A (false) or B (true) of an issue gate, by port number; a core clock port or
another input, with the context tag it reports, if it reports one. -/
inductive ActSrc where
  | gate (port : Nat) (sub : Bool)
  | core (port : Nat) (ctx : Option Nat)
  | input (ctx : Option Nat)
deriving DecidableEq, Repr

/-- A count that a leaf forms from a report (04 R111): class, number of units, source, and the stamp of the report. -/
structure Act where
  cls : Nat
  n : Nat
  src : ActSrc
  time : Nat
deriving DecidableEq, Repr

/-- What a port of a leaf reports in one of its cycles. -/
inductive PortRep where
  /-- sub-gate A (false) or B of an issue gate (09 R259): VCNT, FMT, ZSKIP, TOGGLE, BUBBLE, WLOAD, BUSY -/
  | gate (port : Nat) (sub : Bool) (vcnt fmt zskip toggle bubble wload : Nat) (busy : Bool)
  /-- the engine clock of an issue gate ran: GP_CLKEN (09 R259) -/
  | clk (port : Nat)
  /-- a core clock port (20 R584): CCYC, CVEC and the context tag, if valid -/
  | core (port ccyc cvec : Nat) (ctx : Option Nat)
  /-- a stack port (20 R587): BYTES, REFRESH, and the context tag of the bytes, if valid -/
  | stack (port bytes refresh : Nat) (ctx : Option Nat)
  /-- a byte-count input (20 R587): 0 BC_L1, 1 BC_NET, 2 BC_CLINK, 3 BC_XLINK, its units and its context tag, if valid -/
  | bytes (input units : Nat) (ctx : Option Nat)
deriving DecidableEq, Repr

/-- A report that reaches a leaf (04 R113; 00 R9): the stamp that the leaf gives it, and the number of cycles of that stamp in which
the port reported the same. -/
structure Rep where
  time : Nat
  n : Nat
  rep : PortRep
deriving DecidableEq, Repr

/-- Who presents a sync operation (08 R232): SYNC_CMD or the context page of a slot through a port, or a SYNC message of a
sub-gate (SOP, slot, epoch, leaf, sub-gate number 2 × GATE + SUB) received at a channel end with a tag. -/
inductive SyncOrg where
  | port (p : Port) (page : Option Nat)
  | gate (e : ChEnd) (tag sop ctx epoch leaf q : Nat)
deriving DecidableEq, Repr

/-- The head of a received Dandoxa frame (15 R448) on a link port, and whether its MAC verifies. -/
structure FrameHdr where
  port : Nat
  src : Nat
  seq : Nat
  keyid : Nat
  macOk : Bool
deriving DecidableEq, Repr

/-- Input levels that a write meets: COOLANT_OK has been high for COOL_CLEAR, a site's analog comparator reports (12 R377); and
the fault inputs of what is written that are high: bit 0 a phase channel's FAULT (10 R330) or GP_FAULT_A, bit 1 GP_FAULT_B
(20 R583). -/
structure Pins where
  coolOk : Bool
  absHigh : Bool
  faults : Nat
deriving DecidableEq, Repr

/-- A read of a word of a protected store (12 R382, R383): the scrub's, of the word under its pointer, or a foreground read (02 R79); and
what it finds: 0 sound, 1 an error that is corrected, 2 and above an uncorrectable one. -/
inductive EccRead where
  | scrub (err : Nat)
  | fore (store word err : Nat)
deriving DecidableEq, Repr

/-- How a message reached the facility port (18 R552, R553, R556): whether its PEC verifies, its MCTP message type, the SPDM
session that it was sent in, and whether its MAC verifies there. -/
structure FacMsg where
  pecOk : Bool
  typ : Nat
  ses : Option Nat
  macOk : Bool
deriving DecidableEq, Repr

/-- The commands, in the table's order. -/
inductive Instr where
  /-- AON_SUPPLY_LOSS (R40). The always-on supply falls below its threshold and the package goes to OFF, clearing everything that the always-on power-on reset clears. -/
  | aonSupplyLoss (t : Nat)
  /-- POWER_ON_RESET_END (R410). The always-on power-on reset ends once the supply has been valid for tPOR, the hub PLL has locked and the oscillator calibration is complete; the time base starts, the straps are sampled and the hub enters AON. -/
  | powerOnResetEnd (t n : Nat)
  /-- PKG_CMD_NONE (R47). A write of CMD 0x0 to HUB_PKG_CMD is accepted in every state and has no effect. -/
  | pkgCmdNone (t : Nat) (p : Port)
  /-- HOLD (R40). Package command HOLD moves RUN to HOLD; other states reject it under R46. -/
  | pkgHold (t : Nat) (p : Port)
  /-- RESUME (R44). Package command RESUME moves HOLD to RUN, waiting out any loader hold; after HOLD_MAX has passed it also resends GRANTs in every class. -/
  | pkgResume (t : Nat) (p : Port)
  /-- SLEEP (R43). Package command SLEEP moves RUN to SLEEP, or aborts the entry and sets ABORTED if a wake source is pending. -/
  | pkgSleep (t : Nat) (p : Port)
  /-- DEEP_SLEEP (R43). Package command DEEP_SLEEP starts the orderly ramp-down into DEEP_SLEEP, or aborts if a wake source is pending. -/
  | pkgDeepSleep (t : Nat) (p : Port)
  /-- WAKE (R40). Package command WAKE moves SLEEP to RUN, or DEEP_SLEEP to RAMP. -/
  | pkgWake (t : Nat) (p : Port)
  /-- RECOVER (R378). Package command RECOVER is accepted in TRIPPED after REST_TRIP with the stopping latches clear; it sends HALT_CLEAR, releases THERMTRIP_N and enters RAMP. -/
  | pkgRecover (t : Nat) (p : Port)
  /-- FAIL (R40). Package command FAIL moves RUN, HOLD or TRIPPED to FAIL. -/
  | pkgFail (t : Nat) (p : Port)
  /-- RESET_TO_AON (R415). Package command RESET_TO_AON drains and fences, asserts CRUST_STOP and ramps the rails down in descending step order before AON. -/
  | pkgResetToAon (t : Nat) (p : Port)
  /-- HOLD_TIMEOUT (R44). HOLD_MAX passes in HOLD; the hub applies each leaf's SAFE limit, sets HOLD_TIMEOUT and stays in HOLD. -/
  | holdTimeout (t : Nat)
  /-- BG_LATE (R50). A background pass exceeds its late limit and the hub raises BG_LATE while the pass continues. -/
  | bgLate (t act start : Nat)
  /-- SCRUB_STEP (R382). The ECC scrub reads, corrects and writes back one word of the protected stores. -/
  | scrubStep (t : Nat) (read : EccRead)
  /-- OPEN (R72). Loader command OPEN zeroes the staging bank, sets the pointer to 0, enters FILLING and makes the issuing port the owner. -/
  | ldrOpen (t : Nat) (p : Port)
  /-- COMMIT (R73). Loader command COMMIT moves FILLING to CHECKING and starts the checks. -/
  | ldrCommit (t : Nat) (p : Port)
  /-- ABORT (R72). Loader command ABORT returns FILLING, CHECKING or STAGED to IDLE, discarding staged content or stopping the checks. -/
  | ldrAbort (t : Nat) (p : Port)
  /-- COMMIT_SVN (R70). Loader command COMMIT_SVN is accepted in RUN when the active SVN exceeds the fused SVN, and starts fusing. -/
  | commitSvn (t : Nat) (p : Port)
  /-- FUSING_DONE (R70). Fusing ends with the fused SVN equal to the active SVN, and FUSING clears. -/
  | fusingDone (t : Nat)
  /-- IMG_WADDR (R72). A write of IMG_WADDR sets the staging pointer, only in FILLING and only for an aligned value within the bank. -/
  | imgWaddr (t : Nat) (p : Port) (w : Nat)
  /-- IMG_WDATA (R80). A 64-bit write of IMG_WDATA stores eight bytes at the pointer and advances it by 8. -/
  | imgWdata (t : Nat) (p : Port) (wide : Bool) (w : Word)
  /-- CHECK_DONE (R73). CHECKING ends: on failure the loader returns to FILLING; on success a full image goes to VERIFYING or STAGED and a delta goes to APPLYING. -/
  | checkDone (t : Nat) (ecc : Bool)
  /-- VERIFY_DONE (R74). VERIFYING ends: on acceptance the bank becomes active and the package enters RAMP; on rejection the bank is marked and the package returns to AON. -/
  | verifyDone (t : Nat) (ecc : Bool)
  /-- PARAM (R76). A PARAM message delivers image fields or a shadow confirmation; after the last confirmation the loader broadcasts the activation stamp tA. -/
  | paramMsg (t : Nat) (e : ChEnd) (tag d kind : Nat)
  /-- DELTA_ACTIVATE (R76). At the first tick at or after tA each island moves its shadow to its live registers, and the loader holds end. -/
  | deltaActivate (t : Nat)
  /-- APPLY_TIMEOUT (R76). A present island has not confirmed 50 µs after its items were sent; no island activates and the delta fails. -/
  | applyTimeout (t : Nat)
  /-- CHAN_ALIVE_RISE (R95). Both ALIVE levels are high at a DOWN channel end; the end enters LINKING and sends HELLO. -/
  | chanAliveRise (t : Nat) (e : ChEnd)
  /-- CHAN_ALIVE_FALL (R95). The far ALIVE level falls; the end goes to DOWN, advances its epoch, discards queued messages and the guard answers pending requests. -/
  | chanAliveFall (t : Nat) (e : ChEnd)
  /-- HELLO (R96). A received HELLO yields the new epoch, which is answered with HELLO_ACK; an UP end returns to LINKING. -/
  | hello (t : Nat) (e : ChEnd) (epoch : Nat)
  /-- HELLO_ACK (R96). A received HELLO_ACK that matches the one sent puts the end in UP, or makes it send HELLO again. -/
  | helloAck (t : Nat) (e : ChEnd) (epoch : Nat)
  /-- FENCE (R102). A received FENCE makes the child answer earlier requests, fence its own children for SCOPE 1, and then send FENCE_ACK. -/
  | fence (t : Nat) (e : ChEnd) (tag scope id : Nat)
  /-- FENCE_ACK (R102). A received FENCE_ACK moves the parent end from FENCING to FENCED. -/
  | fenceAck (t : Nat) (e : ChEnd) (tag id st : Nat)
  /-- FENCE_TIMEOUT (R95). 10 µs pass after a FENCE without FENCE_ACK; the end goes to FENCED and sets FENCE_TO. -/
  | fenceTimeout (t : Nat) (e : ChEnd)
  /-- CMD_REQ (R89). A command request reaches an island, which executes it or forwards it; a guard answers E_ABSENT when the child cannot answer. -/
  | cmdReq (t : Nat) (e : ChEnd) (tag dest reqid op off : Nat)
  /-- CMD_DATA (R89). The data that accompanies a write request or a read response is delivered. -/
  | cmdData (t : Nat) (e : ChEnd) (tag : Nat) (w : Word) (pins : Pins)
  /-- CMD_RSP (R90). A command response retires its pending entry and travels on toward the hub; an unmatched one is dropped. -/
  | cmdRsp (t : Nat) (e : ChEnd) (tag src reqid st : Nat)
  /-- CMD_TIMEOUT (R100). No CMD_RSP arrives within tCMDTO; the hub answers E_ABSENT, raises CHAN_TIMEOUT and resets the destination island. -/
  | cmdTimeout (t : Nat) (e : ChEnd) (reqid : Nat)
  /-- ESTIMATE (R30). A child's ESTIMATE arrives; a node engine forwards the slot sum after the last child report arrives. -/
  | estimate (t : Nat) (e : ChEnd) (tag ra rb slot ea eb : Nat)
  /-- ESTIMATE_SLOT_TIMEOUT (R30). A child report is missing at the end of the following slot; the node substitutes the last report and counts STALE_EST. -/
  | estimateSlotTimeout (t d slot : Nat)
  /-- TIME_SEND (R393). At each multiple of 1,000 ns the hub raises REQ for TIME on each child channel. -/
  | timeSend (t d : Nat) (rts : List (Nat × Nat))
  /-- TIME (R394). A TIME message aligns the receiver's time base and restarts the leaf silence timer; a node forwards it to its children. -/
  | timeMsg (t : Nat) (e : ChEnd) (tag delay usec cap : Nat)
  /-- PARENT_SILENT (R107). tSILENT passes without TIME; the leaf applies SAFE_LIMIT and SAFE_FMAX and sets SILENT. -/
  | parentSilent (t l : Nat)
  /-- LEAF_SLOT_CLOSE (R115). A 64 ns slot closes; the leaf computes its per-rail estimates and sends them in ESTIMATE messages. -/
  | leafSlotClose (t l slot : Nat) (reps : List Rep) (removed : List (Nat × Nat))
  /-- LEAF_INTERVAL_CLOSE (R129). A 1 µs interval closes at a leaf; it sends INTERVAL reports (and GROUP reports at a KNEAD window close) and converts budget to limits again. -/
  | leafIntervalClose (t l j : Nat)
  /-- INTERVAL_REPORT (R130). A MEASURE of form INTERVAL arrives; a node forwards it unchanged, and the hub uses it for attribution. -/
  | intervalReport (t : Nat) (e : ChEnd) (tag leaf ra rb seq pa pb : Nat) (rsvd : Bool)
  /-- GROUP_REPORT (R130). A MEASURE of form GROUP arrives; a node sums these and sends the sum once every present child has reported. -/
  | groupReport (t : Nat) (e : ChEnd) (tag nleaf rail g seq : Nat) (en : Int)
  /-- GROUP_SUM_TIMEOUT (R130). 10 µs pass after a KNEAD window close; the node sends its GROUP sums without the missing children. -/
  | groupSumTimeout (t n w : Nat)
  /-- APPLIED (R161). A MEASURE of form APPLIED travels up to the loop's host, which records the applied value. -/
  | applied (t : Nat) (e : ChEnd) (tag dom loop cls rail amt : Nat)
  /-- HUB_INTERVAL_CLOSE (R134). At each 1 µs interval close the hub forms measurements and fused values, attributes them, and evaluates fusion state and divergence. -/
  | hubIntervalClose (t j : Nat)
  /-- KNEAD_WINDOW_CLOSE (R139). A 1 ms KNEAD window closes; the hub runs or skips the RLS update and writes the new θ to the leaves. -/
  | kneadWindowClose (t w : Nat)
  /-- LEAF_THETA_WRITE (R140). A hub command writes LEAF_THETA_k_LO or HI at a leaf. -/
  | leafThetaWrite (t l k : Nat) (hi : Bool) (w : Nat)
  /-- KNEAD_RESET (R141). A write of RAIL_KNEAD.RESET resets θ and P of the rail in HOLD, TRIPPED or FAIL. -/
  | kneadReset (t : Nat) (p : Port) (r : Nat) (freeze : Bool)
  /-- PHASE_CYCLE (R309). A phase channel starts a switching cycle, ends the on-time by peak current mode and delivers its current sample. -/
  | phaseCycle (t p : Nat) (cur : List (Nat × Int)) (mean : Int) (range fault : Bool)
  /-- LOOP_TICK (R156). At a scheduled tick a governor loop samples its input and runs the control law and commit if CLOSED, or records and manually commits if OPEN. -/
  | loopTick (t l : Nat)
  /-- LOOP_OPEN (R163). LOOP_CTRL command OPEN moves a loop to OPEN with its output held. -/
  | loopOpen (t : Nat) (p : Port) (l : Nat)
  /-- LOOP_CLOSE (R163). LOOP_CTRL command CLOSE preloads the integrator and closes the loop, or puts it in CLOSING under a loader hold. -/
  | loopClose (t : Nat) (p : Port) (l : Nat)
  /-- GRANT (R177). A BUDGET GRANT arrives and updates the domain's parent grant or a loop commit, or is forwarded toward DEST. -/
  | grant (t : Nat) (e : ChEnd) (tag cls rail dest loop : Nat) (lc : Bool) (amt : Nat) (rsvd : Bool)
  /-- NEED (R180). A BUDGET NEED arrives at its node engine, which updates the child's need and weight and splits again, or forwards it. -/
  | need (t : Nat) (e : ChEnd) (tag child weight node need : Nat)
  /-- CREDIT_WINDOW (R263). A 64-cycle credit window starts; the leaf loads each sub-gate's bucket from EFF, less debt, and advances SCORE ramps. -/
  | creditWindow (t l : Nat) (rows : List (Nat × Nat))
  /-- GATE_FAULT (R195). A rising GP_FAULT_x latches a sub-gate fault, sets its EFF to 0, cancels credits and starts REST. -/
  | gateFault (t l q : Nat)
  /-- REST_END (R196). REST expires at tR; the faulted sub-gate leaves the split and its share passes to the others in its partition. -/
  | restEnd (t l q : Nat)
  /-- FAULT_CLEAR (R196). A W1C of LEAF_GATE_n.FAULT_A or FAULT_B clears the fault while GP_FAULT_x is low, ending REST or rejoining the split. -/
  | faultClear (t l q : Nat) (low : Bool)
  /-- HUB_MODE_REQ (R200). A write of HUB_MODE.REQ in HOLD requests a mode that takes effect at RESUME. -/
  | hubModeReq (t : Nat) (p : Port) (m : Nat)
  /-- WEAR_PASS (R193). The 10 s wear pass reads ageing margins, lowers wear ceilings and closes each rail's RISE exposure window. -/
  | wearPass (t : Nat) (ages : List (Nat × Nat × Option Nat))
  /-- LEVEL_WINDOW (R201). A 10 ms LEVEL window closes and LEVEL_MISS is set if any sub-gate was held below LEVEL_LIMIT by another source. -/
  | levelWindow (t : Nat)
  /-- VF_SLOT_LOWER (R192). Requested FMAX has stayed at or below the lower VF entry for 1 ms; the hub lowers FMAX and then the slot. -/
  | vfSlotLower (t r : Nat)
  /-- ENTER (R209). Mark ENTER closes any present visit and opens a visit of the named phase. -/
  | strEnter (t : Nat) (p : Port) (c phase : Nat)
  /-- EXIT (R209). Mark EXIT closes the present visit and puts the slot in NONE. -/
  | strExit (t : Nat) (p : Port) (c : Nat)
  /-- INV_SLOT (R222). STR_CMD INV_SLOT starts the invalidation of all 256 entries of a slot. -/
  | invSlot (t : Nat) (p : Port) (c : Nat)
  /-- INV_ENTRY (R222). STR_CMD INV_ENTRY invalidates one STARTER entry. -/
  | invEntry (t : Nat) (p : Port) (c phase : Nat)
  /-- INVALIDATION_DONE (R222). The slot invalidation ends, BUSY clears and marks held for the slot are applied with their stamps. -/
  | invalidationDone (t : Nat)
  /-- STARTER_SAMPLE (R213). A 10 µs sample closes; the hub classifies it and updates the active entry's free or bound point and elasticity. -/
  | starterSample (t k c cyc : Nat)
  /-- INIT (R235). Sync operation INIT sets an object's type, target or value and generation. -/
  | syncInit (t : Nat) (o : SyncOrg) (obj a0 a1 a2 : Nat)
  /-- TAG (R235). Sync operation TAG sets the phase tag of a BARRIER or SPAN object. -/
  | syncTag (t : Nat) (o : SyncOrg) (obj a0 a1 a2 : Nat)
  /-- ARRIVE (R237). Sync operation ARRIVE counts an arrival by generation, optionally registers a watch, and may complete the generation. -/
  | syncArrive (t : Nat) (o : SyncOrg) (obj a0 a1 a2 : Nat)
  /-- SIGNAL (R240). Sync operation SIGNAL adds n to a semaphore and serves wake-one claims, then wake-all watches. -/
  | syncSignal (t : Nat) (o : SyncOrg) (obj a0 a1 a2 : Nat)
  /-- SET (R240). Sync operation SET sets a flag, firing wake-all watches and then one wake-one claim. -/
  | syncSet (t : Nat) (o : SyncOrg) (obj a0 a1 a2 : Nat)
  /-- CLEAR (R235). Sync operation CLEAR clears a flag. -/
  | syncClear (t : Nat) (o : SyncOrg) (obj a0 a1 a2 : Nat)
  /-- WAIT (R239). Sync operation WAIT registers a watch, or fires at once for a completed generation or an available object. -/
  | syncWait (t : Nat) (o : SyncOrg) (obj a0 a1 a2 : Nat)
  /-- CANCEL (R242). Sync operation CANCEL removes a core waiter's watches on an object. -/
  | syncCancel (t : Nat) (o : SyncOrg) (obj a0 a1 a2 : Nat)
  /-- FREE (R235). Sync operation FREE returns an object without watches to FREE. -/
  | syncFree (t : Nat) (o : SyncOrg) (obj a0 a1 a2 : Nat)
  /-- BREAK (R235). Sync operation BREAK sets BROKEN and fires every watch with E_BROKEN. -/
  | syncBreak (t : Nat) (o : SyncOrg) (obj a0 a1 a2 : Nat)
  /-- RESET (R235). Sync operation RESET clears BROKEN and the counts and sets a new GEN. -/
  | syncReset (t : Nat) (o : SyncOrg) (obj a0 a1 a2 : Nat)
  /-- FORCE (R252). Sync operation FORCE completes the current generation of a BARRIER. -/
  | syncForce (t : Nat) (o : SyncOrg) (obj a0 a1 a2 : Nat)
  /-- SET_COUNT (R252). Sync operation SET_COUNT writes COUNT and NEXT or V, completing or serving as the new value requires. -/
  | syncSetCount (t : Nat) (o : SyncOrg) (obj a0 a1 a2 : Nat)
  /-- CTX_SWITCH (R250). Sync operation CTX_SWITCH raises the slot epoch and starts clearing the slot's waits, objects, watches and STARTER state. -/
  | ctxSwitch (t : Nat) (o : SyncOrg) (obj a0 a1 a2 : Nat)
  /-- CTX_SWITCH_DONE (R250). The context switch finishes its steps, clears SWITCHING and raises CTX_SWITCHED. -/
  | ctxSwitchDone (t : Nat)
  /-- MIRROR_CONFIRM (R246). The mirror confirms an operation's changes and the hub sends its RELEASE, DIRECT and register status. -/
  | mirrorConfirm (t : Nat)
  /-- GATE_SYNC_OP (R243). A sub-gate presents a sync operation; the leaf takes it and sends a SYNC message, or serves a local register. -/
  | gateSyncOp (t l q sop : Nat) (loc : Bool) (obj arg : Nat) (mode : Bool)
  /-- RELEASE (R245). A downward RELEASE ends matching wake-all waits at a leaf, at once or through PROOF wave holds. -/
  | release (t : Nat) (e : ChEnd) (tag ctx lobj gen st shape : Nat) (busy : List Nat)
  /-- DIRECT (R245). A downward DIRECT ends one wait or answers a gate operation, or pulses WAKE on a core port. -/
  | direct (t : Nat) (e : ChEnd) (tag ctx lobj gen st leaf : Nat) (core : Bool) (wid : Nat) (wake : Bool)
  /-- CTX_CLEAR (R250). A leaf ends every wait of the slot with E_BROKEN, disables its local registers and adopts the new epoch. -/
  | ctxClear (t : Nat) (e : ChEnd) (tag c ep : Nat)
  /-- SYNC_ABSENT_REPORT (R249). A guard's E_ABSENT for a SYNC message frees the waiter's watches and restores wake-one claims. -/
  | syncAbsentReport (t d : Nat)
  /-- LSYNC_WRITE (R254). A write to LEAF_LSYNC_k configures the register; EN 0 ends its waits with E_BROKEN and clears it. -/
  | lsyncWrite (t l k w : Nat)
  /-- SCORE_TRIP (R271). A droop detector sees FILT consecutive codes at or below threshold and clamps its gates with source SCORE. -/
  | scoreTrip (t d : Nat) (fill : Bool) (codes : List Nat)
  /-- SCORE_HOLD_EXPIRY (R272). SCORE_HOLD passes after the last trip sample and the clamp begins to ramp up at each window start. -/
  | scoreHoldExpiry (t l p : Nat)
  /-- DD_CALIBRATE (R269). An idle window of CAL_IDLE ends and the leaf calibrates the detector's CODE_CAL and V_CAL. -/
  | ddCalibrate (t d sum : Nat)
  /-- DD_CAL_REQ (R269). A write of DD_CTRL.CAL_REQ requests a calibration at the next idle window. -/
  | ddCalReq (t : Nat) (p : Port) (d : Nat)
  /-- DD_CAL_STALE (R270). CAL_MAX passes without calibration; CAL_STALE sets and DD_CAL_STALE is raised. -/
  | ddCalStale (t d : Nat)
  /-- RISE_OPEN (R279). At t̂ − RISE_LEAD the hub opens a RISE request on each rail whose predicted step reaches RISE_THR. -/
  | riseOpen (t obj rail : Nat)
  /-- RISE_END (R280). A completed generation's RISE request ends at release plus the wave span plus RISE_POST. -/
  | riseEnd (t : Nat)
  /-- RISE_TIMEOUT (R280). RISE_HOLD passes without completion and the request ends. -/
  | riseTimeout (t obj rail : Nat)
  /-- RISE_SLEW_STEP (R281). The RISE offset moves one 0.5 mV step toward its target. -/
  | riseSlewStep (t r : Nat)
  /-- RISE_EXHAUSTED (R282). A rail's exposure reaches RISE_EXPO_MAX; EXH sets and no new request opens. -/
  | riseExhausted (t r : Nat)
  /-- WAVE_RELEASE (R288). A wave hold expires and the leaf presents the release with a prorated credit load. -/
  | waveRelease (t l q : Nat)
  /-- SPAN_STAGGER_EXPIRY (R290). The stagger delay after a peer RELEASE passes and the hub completes the SPAN generation locally. -/
  | spanStaggerExpiry (t obj : Nat)
  /-- RAIL_LOOP_SAMPLE (R311). At the loop sample the rail controller computes the new current command and evaluates adds and sheds. -/
  | railLoopSample (t r vs : Nat) (opn : Bool)
  /-- SHED_DISABLE (R325). At its next cycle start the shed position goes to mid-level PWM, becomes DISABLED and u1 is scaled. -/
  | shedDisable (t r : Nat)
  /-- SHED_TIMEOUT (R326). Confirmations are not complete after 1 µs and the shed is aborted. -/
  | shedTimeout (t r : Nat)
  /-- LEAF_SHED (R327). A LEAF_SHED command sets SHED ceilings at BUD for the rail's sub-gates for 2 µs. -/
  | leafShed (t l r : Nat)
  /-- SHED_HOLD_EXPIRY (R327). The shed hold expires at the leaf and source SHED leaves every sub-gate. -/
  | shedHoldExpiry (t l : Nat)
  /-- SLEW_STEP (R314). Vb moves one code toward the base target, setting DONE and raising RAIL_TARGET on arrival. -/
  | slewStep (t r : Nat)
  /-- RAIL_VSEL_WRITE (R313). A write of RAIL_VSEL.SEL in HOLD selects a slot and retargets the slew. -/
  | railVselWrite (t : Nat) (p : Port) (r k : Nat)
  /-- RAIL_VSLOT_WRITE (R315). A write of RAIL_VSLOT_k within limits sets the slot and retargets the slew if it is selected. -/
  | railVslotWrite (t : Nat) (p : Port) (r k code : Nat)
  /-- LEAF_VREF_CHECK (R316). Every 500 ns the hub compares each rail's reference with the value last sent and writes LEAF_VREF where they differ. -/
  | leafVrefCheck (t l : Nat)
  /-- LEAF_VREF (R316). A leaf adopts the rail references carried by a LEAF_VREF command. -/
  | leafVref (t l w : Nat)
  /-- MEAS_DONE (R319). After 16 VSENSE conversions MEASURE records V_pre and enters START_NS, or halts on open sense. -/
  | measDone (t r : Nat)
  /-- TARGET_PG (R321). VSENSE has stayed within PG_WIN of the start target for PG_DLY; the rail enters ON. -/
  | targetPg (t r : Nat)
  /-- PHASE_FAULT (R329). FAULT_N goes low; the channel goes mid-level and PEN low, becomes FAULTED and leaves the enabled set. -/
  | phaseFault (t p : Nat)
  /-- CLR_FAULT (R330). PH_CTRL.CLR_FAULT returns a FAULTED channel to DISABLED while FAULT_N is high. -/
  | clrFault (t : Nat) (p : Port) (ph : Nat) (high : Bool)
  /-- PH_CAL_REQ (R331). PH_CTRL.CAL_REQ requests a sense offset calibration, held until the channel can run it. -/
  | phCalReq (t : Nat) (p : Port) (ph : Nat)
  /-- ISNS_CALIBRATION (R331). A channel that has been DISABLED with PEN low for 5 µs calibrates its sense offset. -/
  | isnsCalibration (t ph : Nat) (ofs : Int)
  /-- TS_CONVERSION_DONE (R338). A sensor site completes its conversion and the island applies thresholds, levels and bands. -/
  | tsConversionDone (t n : Nat) (raw : Int) (fault : Bool)
  /-- CONVERSION_LAPSE (R339). 40 µs pass after a valid conversion and the site has no valid conversion. -/
  | conversionLapse (t n : Nat)
  /-- LEAF_TEMP_PERIOD (R340). At each conversion period the leaf forms its temperature and band and sends a TEMP report. -/
  | leafTempPeriod (t l : Nat)
  /-- TEMP_REPORT (R341). A TEMP report arrives; nodes keep and forward it, and the hub updates guard-band offsets. -/
  | tempReport (t : Nat) (e : ChEnd) (tag : Nat) (x : Int) (band level : Nat) (fb loss : Bool) (leaf seq site : Nat)
  /-- REPORT_LAPSE (R356). A leaf's last report becomes unusable after 40 µs and G takes GB[r][5] for it. -/
  | reportLapse (t l : Nat)
  /-- CAL_PASS_START (R342). The 1 s thermal calibration pass starts collecting pairs. -/
  | calPassStart (t : Nat)
  /-- CAL_PASS_END (R343). The calibration pass ends and each site's correction is stepped, or the site is marked BAD. -/
  | calPassEnd (t : Nat)
  /-- CAL_RST (R343). TS_CTRL.CAL_RST clears a site's correction and BAD mark. -/
  | calRst (t : Nat) (p : Port) (n : Nat)
  /-- SENSOR_LOSS (R346). STALE_MAX passes without a valid conversion; the leaf enters sensor loss at level THROTTLE. -/
  | sensorLoss (t d : Nat)
  /-- TCELL_APPLY (R349). At the next 128-input-cycle point a throttle cell applies its new effective setting. -/
  | tcellApply (t x : Nat)
  /-- LEAF_THR_REQ (R353). A LEAF_THR_REQ command sets the governor mask of each GOV cell at the leaf. -/
  | leafThrReq (t l k : Nat)
  /-- STACK_UPDATE (R357). A valid stack temperature update sets the stack's band, level and refresh multiplier. -/
  | stackUpdate (t n : Nat) (x : Int)
  /-- STK_STALE (R357). STK_STALE passes without an update; the stack takes band B5 and level THROTTLE. -/
  | stkStale (t n : Nat)
  /-- ABS_TRIP (R345). A site's analog comparator reports ABS_TRIP on the CRUST thermal path. -/
  | absTrip (t n : Nat)
  /-- OC_TRIP (R364). A persistent peak limit, or rail current above RAIL_OC for OC_RAIL_CNT cycles, fires class OC. -/
  | ocTrip (t r : Nat)
  /-- OV_TRIP (R364). VSENSE exceeds the OV limit for OV_CNT loop samples and class OV fires. -/
  | ovTrip (t r : Nat)
  /-- UV_TRIP (R364). VSENSE stays below the UV limit for UV_CNT loop samples in ON and class UV fires. -/
  | uvTrip (t r : Nat)
  /-- UV_HALT_EXPIRY (R373). UV_HALT passes after a UV trip with UV still counting, and the hub halts the rail. -/
  | uvHaltExpiry (t r : Nat)
  /-- COOLANT_TRIP (R364). COOLANT_OK stays low for COOL_FILT and class COOLANT fires. -/
  | coolantTrip (t : Nat)
  /-- BRAKE (R375). PWR_BRAKE_N is sampled low twice and the hub writes LEAF_BRAKE to every leaf. -/
  | brake (t : Nat)
  /-- LEAF_BRAKE (R375). A leaf applies or releases BRAKE_LIMIT and BRAKE_FMAX with source BRAKE. -/
  | leafBrake (t l w : Nat)
  /-- BRAKE_RELEASE (R376). PWR_BRAKE_N has been high for BRAKE_REL and the brake ends. -/
  | brakeRelease (t : Nat)
  /-- CRUST_LATCH_CLEAR (R377). A W1C of CRUST_LATCH clears each class bit whose clear condition holds. -/
  | crustLatchClear (t : Nat) (p : Port) (w : Nat) (pins : Pins)
  /-- STEP_TIMEOUT (R413). A rail is not complete within STEP_TO; UV latches for the incomplete rails and the package trips. -/
  | stepTimeout (t : Nat)
  /-- CLK_FAIL (R403). The clock monitor declares failure; the root stops, switches to the oscillator and reports CLOCK to CRUST. -/
  | clkFail (t u cause : Nat)
  /-- QUIET_PERIOD_END (R403). 16 oscillator cycles after clock failure the island resumes on the oscillator. -/
  | quietPeriodEnd (t u : Nat)
  /-- MUX_HUNG (R400). MUX_BUSY has stayed 1 for 1.5 µs and the monitor completes the switch to the oscillator by the forced path. -/
  | muxHung (t u : Nat)
  /-- CLK_SEL (R399). A write of CLK_CTRL.SEL starts an ordinary multiplexer switch. -/
  | clkSel (t : Nat) (p : Port) (u sel : Nat)
  /-- RECAL (R401). CLK_CTRL.RECAL starts an oscillator calibration. -/
  | recal (t : Nat) (p : Port) (u : Nat)
  /-- OSC_CAL_DONE (R401). An oscillator calibration over 2,000 REFCLK cycles sets OSC_KHZ, INC, WIN and GAP, or raises OSC_BAD. -/
  | oscCalDone (t u n : Nat)
  /-- RETURN (R405). HUB_CLK_CMD.RETURN switches each ready clock unit back to REFCLK and counts the units it skips. -/
  | clkReturn (t : Nat) (p : Port)
  /-- WARM (R406). RST_CMD WARM performs a hub warm reset in AON. -/
  | rstWarm (t : Nat) (p : Port)
  /-- ISL_RST (R407). RST_CMD ISL_RST resets a named island and its subtree. -/
  | islRst (t : Nat) (p : Port) (d : Nat)
  /-- ISL_RST_END (R407). The tIRST island reset pulse ends. -/
  | islRstEnd (t d : Nat)
  /-- ISLAND_RELEASE (R409). The reset tree releases an island, which locks, calibrates, raises ALIVE and links. -/
  | islandRelease (t d : Nat)
  /-- ISL_NOSTART (R409). An island has not raised ALIVE 200 µs after release and the hub raises ISL_NOSTART. -/
  | islNostart (t d : Nat)
  /-- TEST_MODE_ENTRY (R406). An IEEE 1149.1 or 1500 test mode is entered in AON and the functional logic is held in reset. -/
  | testModeEntry (t : Nat)
  /-- TEST_MODE_EXIT (R406). Exit from a test mode ends with a hub warm reset. -/
  | testModeExit (t : Nat)
  /-- RAMP_STEP_START (R412). SEQ_DLY passes after the previous step completes and the hub sends SEQ_ON to the rails of the next step. -/
  | rampStepStart (t : Nat)
  /-- SLEEP_QUIESCE_DONE (R397). Every GP_BUSY of a leaf is low and the leaf stops its engine branches at their throttle cells. -/
  | sleepQuiesceDone (t l : Nat)
  /-- CCP_QACK (R586). A core acknowledges quiescence and the leaf drives its port to FMAX code 0. -/
  | ccpQack (t l p : Nat)
  /-- FMAX_LAG (R585). CCP_FCUR exceeds CCP_FMAX for longer than tFDN and the leaf counts an invalid ageing report. -/
  | fmaxLag (t l p : Nat)
  /-- EVENT (R423). An EVENT message of kind LEVEL updates a source level or latch at the hub. -/
  | eventMsg (t : Nat) (e : ChEnd) (tag code inst detail : Nat) (lvl rsvd : Bool)
  /-- EVC_ACK (R428). A read of EVC_ACK_t acknowledges the most urgent presentable source and pushes it on the target's stack. -/
  | evcAck (t : Nat) (p : Port) (k : Nat) (upper : Bool)
  /-- EVC_EOI (R429). A write of EVC_EOI_t completes the top source, or is a nesting fault. -/
  | evcEoi (t : Nat) (p : Port) (k x : Nat)
  /-- UNWIND (R434). Recovery command UNWIND pops every stack entry and clears FROZEN. -/
  | evcUnwind (t : Nat) (p : Port) (k : Nat)
  /-- POP_TO (R434). Recovery command POP_TO pops entries down to and including SRC and clears FROZEN. -/
  | evcPopTo (t : Nat) (p : Port) (k x : Nat)
  /-- THAW (R434). Recovery command THAW clears FROZEN and leaves the stack as it is. -/
  | evcThaw (t : Nat) (p : Port) (k : Nat)
  /-- SETPEND (R425). A write of SETPEND sets a source pending. -/
  | setpend (t : Nat) (p : Port) (k : Nat)
  /-- CLRPEND (R425). A write of CLRPEND clears PEND, which sets again while the level is 1. -/
  | clrpend (t : Nat) (p : Port) (k : Nat)
  /-- EVC_SRC_CFG_WRITE (R432). A write of EVC_SRC_s CFG changes routing at the next selection, and fires the group if it removes a member. -/
  | evcSrcCfgWrite (t : Nat) (p : Port) (k w : Nat)
  /-- PRIGROUP_WRITE (R432). A write of EVC_CTRL.PRIGROUP is accepted only while every stack is empty. -/
  | prigroupWrite (t : Nat) (p : Port) (g : Nat)
  /-- EVC_GRP_WRITE (R438). A write of a group's CNT_TH or TIME_TH fires that group at once. -/
  | evcGrpWrite (t : Nat) (p : Port) (g cnt us : Nat)
  /-- GROUP_FIRE (R437). A coalescing window closes, or COUNT reaches CNT_TH, and the held members are released. -/
  | groupFire (t g : Nat)
  /-- WAKE_TRIGGER (R439). An enabled wake entry's source triggers in SLEEP or DEEP_SLEEP and the package wakes. -/
  | wakeTrigger (t k : Nat)
  /-- LINK_UP (R450). DXL_LINK_UP rises on a present port and the port enters AUTH to run an SPDM session. -/
  | linkUp (t n : Nat)
  /-- LINK_DOWN (R452). DXL_LINK_UP falls and the port goes to DOWN, breaking SPAN objects and ending leases. -/
  | linkDown (t n : Nat)
  /-- AUTH_DONE (R450). The SPDM session is established, keys are derived and the port enters UP, or authentication fails. -/
  | authDone (t n : Nat) (ok : Bool)
  /-- AUTH_BACKOFF_END (R452). AUTH_BACKOFF passes with LINK_UP high and the port re-enters AUTH. -/
  | authBackoffEnd (t n : Nat)
  /-- LINK_SILENT (R452). LINK_SILENT passes without an accepted frame and the port goes to DOWN. -/
  | linkSilent (t n : Nat)
  /-- DXL_HEARTBEAT_SEND (R453). HB_INTERVAL passes without a sent frame and the hub sends HEARTBEAT. -/
  | dxlHeartbeatSend (t n : Nat)
  /-- DXL_KEY_UPDATE (R451). SEQ reaches 0xC000_0000 and the requester runs SPDM KEY_UPDATE for both directions. -/
  | dxlKeyUpdate (t n : Nat)
  /-- HEARTBEAT (R452). A HEARTBEAT frame is accepted; a state other than FAIL returns a PFAIL port to UP. -/
  | dxlHeartbeat (t : Nat) (h : FrameHdr) (state rx sys : Nat)
  /-- ARRIVE_FRAME (R457). An ARRIVE frame from a child sets an arrival bit and may gather the generation. -/
  | arriveFrame (t : Nat) (h : FrameHdr) (obj gen job : Nat)
  /-- RELEASE_FRAME (R458). A RELEASE frame from the parent is forwarded to the children and completes locally after the stagger. -/
  | releaseFrame (t : Nat) (h : FrameHdr) (obj gen job : Nat)
  /-- BREAK_FRAME (R459). A BREAK frame breaks one or all SPAN objects of the job and is forwarded on the other tree ports. -/
  | breakFrame (t : Nat) (h : FrameHdr) (obj gen job : Nat) (all : Bool) (reason : Nat)
  /-- LEASE_GRID (R462). On the 100 µs lease grid the hub sends LEASE_OFFER with SPARE and WANT on each UP lease peer. -/
  | leaseGrid (t : Nat)
  /-- LEASE_OFFER (R462). A peer's LEASE_OFFER is received and recorded for the cycle. -/
  | leaseOffer (t : Nat) (h : FrameHdr) (spare want feed : Nat)
  /-- LEASE_DECISION (R463). After the offers of a cycle the lender divides SPARE and sends LEASE_GRANT renewals. -/
  | leaseDecision (t : Nat)
  /-- LEASE_GRANT (R464). A borrower accepts a grant, adds it to BORROWED and holds it until T_EXP. -/
  | leaseGrant (t : Nat) (h : FrameHdr) (amt lseq : Nat) (texp : Int)
  /-- LEASE_RECALL (R466). A borrower accepts a recall and schedules the reduction at T_EFF. -/
  | leaseRecall (t : Nat) (h : FrameHdr) (amt lseq : Nat) (teff : Int)
  /-- LEASE_EXPIRY (R466). T_EXP passes without renewal and the borrower removes the lease. -/
  | leaseExpiry (t n : Nat)
  /-- RECALL_EFFECT (R466). T_EFF passes and the borrower reduces BORROWED to the recalled amount. -/
  | recallEffect (t n : Nat)
  /-- LEASE_GUARD_EXPIRY (R466). An end time plus LEASE_GUARD passes and the lender removes the lease from LENT. -/
  | leaseGuardExpiry (t n : Nat)
  /-- TSYNC_SEND (R454). Every TSYNC_INT a non-root package sends a TIME_SYNC request to its tree parent. -/
  | tsyncSend (t : Nat)
  /-- TIME_SYNC_REQUEST (R454). A parent answers a TIME_SYNC request with T2, D32 and T1_LO. -/
  | timeSyncRequest (t : Nat) (h : FrameHdr) (t1 : Nat)
  /-- TIME_SYNC_REPLY (R455). A child steps or slews SYS_OFS by the computed error. -/
  | timeSyncReply (t : Nat) (h : FrameHdr) (t2 : Int) (d32 t1lo : Nat)
  /-- FAIL_NOTICE (R467). An accepted FAIL_NOTICE puts the port in PFAIL, breaks SPAN objects and ends leases with that peer. -/
  | failNotice (t : Nat) (h : FrameHdr) (lo hi : Nat)
  /-- MIRROR_HEARTBEAT_MISS (R483). No heartbeat arrives for HB_MISS × HB_PERIOD and the standby requests takeover. -/
  | mirrorHeartbeatMiss (t : Nat)
  /-- MIRROR_PORT_DOWN (R476). The mirror port goes DOWN while the active hub's HUB_OK toggles and the other hub becomes DETACHED. -/
  | mirrorPortDown (t : Nat)
  /-- HUB_OK_LAPSE (R485). The active hub's HUB_OK stops toggling for tOKTO; the port select moves PWM and PEN to the standby. -/
  | hubOkLapse (t : Nat)
  /-- TAKEOVER_GRANT (R486). The port select grants takeover; the new active hub replays, resends, regrants, resumes and holds the old hub DOWN. -/
  | takeoverGrant (t resent : Nat)
  /-- SWITCH (R488). MIR_CMD SWITCH finishes work, drains, sends final copies and stops the heartbeat for a planned takeover. -/
  | mirSwitch (t : Nat) (p : Port)
  /-- REJOIN (R489). MIR_CMD REJOIN releases the DOWN or DETACHED hub into SYNCING. -/
  | mirRejoin (t : Nat) (p : Port)
  /-- DETACH (R480). MIR_CMD DETACH moves the non-active SYNCING or STANDBY hub to DETACHED. -/
  | mirDetach (t : Nat) (p : Port)
  /-- BULK_COPY_DONE (R490). The bulk copy completes and the hub reaches STANDBY and raises MIRROR_SYNCED. -/
  | bulkCopyDone (t : Nat)
  /-- LAZY_COPY (R481). Every LAZY_PERIOD the active hub copies changed lazy-class state to the standby. -/
  | lazyCopy (t : Nat)
  /-- PRIMARY_SWITCH (R479). With PRIMARY 1, once hub 1 is STANDBY in RUN or HOLD, the active hub issues SWITCH once. -/
  | primarySwitch (t : Nat)
  /-- LEAF_COUNTER_WINDOW (R498). A 10 µs counter window closes and the leaf sends its COUNTER reports and END. -/
  | leafCounterWindow (t l : Nat) (reps : List Rep)
  /-- COUNTER (R499). A COUNTER report is summed at a node engine or added to its bank at the hub. -/
  | counterMsg (t : Nat) (e : ChEnd) (tag lk cidx ctx seq nleaf : Nat) (ua : Bool) (delta : Nat)
  /-- COUNTER_SUM_TIMEOUT (R499). 5 µs after a window close a node sends its sums and END without the missing children. -/
  | counterSumTimeout (t n lk ctx seq : Nat)
  /-- COUNTER_WINDOW_COMPLETE (R500). Every child has sent END, or 10 µs have passed, and the window is complete at the hub. -/
  | counterWindowComplete (t k : Nat)
  /-- LATCH_START (R506). A START latch write opens a latch slot and creates a latch point. -/
  | latchStart (t : Nat) (p : Port) (page : Option Nat) (c k addr : Nat)
  /-- LATCH_END (R506). An END latch write closes a latch slot at a new latch point. -/
  | latchEnd (t : Nat) (p : Port) (page : Option Nat) (c k addr : Nat)
  /-- LEAF_CNT_LATCH (R507). A leaf splits its latch accumulator at tL, or at receipt if late, and sends the latch reports. -/
  | leafCntLatch (t l c num : Nat) (reps : List Rep)
  /-- LATCH_POINT_COMPLETE (R508). Every child has sent END for a latch point, or 20 µs have passed; a closing point writes its LATCH record. -/
  | latchPointComplete (t c num : Nat)
  /-- TELEMETRY_WINDOW (R513). A 1 ms window closes and the hub writes a TELEMETRY record. -/
  | telemetryWindow (t : Nat)
  /-- RECORD_WRITE_DONE (R549). A record port write completes; the header follows the body, or HEAD advances, or an error disables the ring. -/
  | recordWriteDone (t : Nat) (err : Bool)
  /-- REC_RING_ENABLE (R517). Setting REC_RING_n_A.EN resets HEAD, TAIL and SEQ to 0 and enables the ring. -/
  | recRingEnable (t : Nat) (p : Port) (n base size : Nat) (clr : Bool)
  /-- ARM (R523). Trace command ARM clears the buffer, enqueues MARK ARM and enters ARMED. -/
  | trcArm (t : Nat) (p : Port)
  /-- TRIG (R523). Trace command TRIG is a software trigger. -/
  | trcTrig (t : Nat) (p : Port)
  /-- FREEZE (R523). Trace command FREEZE freezes the buffer with cause SW. -/
  | trcFreeze (t : Nat) (p : Port)
  /-- OFF (R523). Trace command OFF stops recording and enters OFF. -/
  | trcOff (t : Nat) (p : Port)
  /-- DUMP (R527). Trace command DUMP replays every stored frame on the port between MARK DUMP_START and DUMP_END. -/
  | trcDump (t : Nat) (p : Port)
  /-- DUMP_DONE (R527). The DUMP replay ends with MARK DUMP_END. -/
  | trcDumpDone (t : Nat)
  /-- TRACE_STALL (R526). TRC_READY has been low for STALL_TO with a frame waiting and the whole buffer freezes. -/
  | traceStall (t : Nat)
  /-- TRC_FRAME_SENT (R524). The last beat of a frame is taken; U falls and dropped classes may resume with a LOSS frame. -/
  | trcFrameSent (t : Nat)
  /-- REGISTER_WRITE (R19). A write to a register without a row of its own takes effect under its access code, with the checks of R16. -/
  | registerWrite (t : Nat) (p : Port) (addr size : Nat) (post : Bool) (w : Word) (pins : Pins)
  /-- POSTED_WRITE_PERFORM (R540). A queued posted write is performed in queue order, and an error found is recorded in HOST_ERR. -/
  | postedWritePerform (t : Nat) (pins : Pins)
  /-- QUEUE_DRAIN_DONE (R541). No queued write targets the islands being drained and the planned power-down or reset proceeds. -/
  | queueDrainDone (t : Nat)
  /-- RSP_TIMEOUT (R537). No status has been produced at tRSP − 100 ns and the port answers E_ABSENT. -/
  | rspTimeout (t init : Nat)
  /-- PKG_CMD (R554). A vendor PKG_CMD message performs a package command as HUB_PKG_CMD does. -/
  | facPkgCmd (t : Nat) (m : FacMsg) (tag cmd : Nat)
  /-- GET_STATE (R554). A vendor GET_STATE message returns HUB_PKG_STATE, CRUST_LATCH and HUB_CAPS. -/
  | facGetState (t : Nat) (m : FacMsg) (tag : Nat)
  /-- READ_REG (R554). A vendor READ_REG message performs a privileged 64-bit read. -/
  | facReadReg (t : Nat) (m : FacMsg) (tag off : Nat)
  /-- IMG_OPEN (R554). A vendor IMG_OPEN message performs loader OPEN from the facility port. -/
  | facImgOpen (t : Nat) (m : FacMsg) (tag : Nat)
  /-- IMG_DATA (R554). A vendor IMG_DATA message sets the pointer and writes image data until the first error. -/
  | facImgData (t : Nat) (m : FacMsg) (tag ptr : Nat) (data : List Byte)
  /-- IMG_COMMIT (R554). A vendor IMG_COMMIT message performs loader COMMIT. -/
  | facImgCommit (t : Nat) (m : FacMsg) (tag : Nat)
  /-- IMG_ABORT (R554). A vendor IMG_ABORT message performs loader ABORT. -/
  | facImgAbort (t : Nat) (m : FacMsg) (tag : Nat)
  /-- FAC_COMMIT_SVN (R554). A vendor COMMIT_SVN message performs loader COMMIT_SVN. -/
  | facCommitSvn (t : Nat) (m : FacMsg) (tag : Nat)
  /-- IMG_STATUS (R554). A vendor IMG_STATUS message returns IMG_STATUS and IMG_INFO. -/
  | facImgStatus (t : Nat) (m : FacMsg) (tag : Nat)
  /-- TRC_READ (R554). A vendor TRC_READ message returns up to 7 trace frames. -/
  | facTrcRead (t : Nat) (m : FacMsg) (tag slot count : Nat)
  /-- ALERT_CLR (R554). A vendor ALERT_CLR message clears FAC_ALERT.PEND bits. -/
  | facAlertClr (t : Nat) (m : FacMsg) (tag mask : Nat)
  /-- SIGN_TRIP (R563). A vendor SIGN_TRIP message returns the latest TRIP record signed with the nonce. -/
  | facSignTrip (t : Nat) (m : FacMsg) (tag : Nat) (nonce : List Byte)
  /-- CERT_OPEN (R562). A vendor CERT_OPEN message opens the certificate store. -/
  | facCertOpen (t : Nat) (m : FacMsg) (tag : Nat)
  /-- CERT_DATA (R562). A vendor CERT_DATA message writes certificate chain bytes. -/
  | facCertData (t : Nat) (m : FacMsg) (tag ptr : Nat) (data : List Byte)
  /-- CERT_COMMIT (R562). A vendor CERT_COMMIT message accepts the chain only if its leaf key is the hub's own. -/
  | facCertCommit (t : Nat) (m : FacMsg) (tag len : Nat)
  /-- SET_ENDPOINT_ID (R553). MCTP Set Endpoint ID assigns the port's EID. -/
  | setEndpointId (t : Nat) (m : FacMsg) (op eid : Nat)
  /-- GET_ENDPOINT_ID (R553). MCTP Get Endpoint ID returns the EID. -/
  | getEndpointId (t : Nat) (m : FacMsg)
  /-- GET_MCTP_VERSION_SUPPORT (R553). MCTP Get MCTP Version Support returns the supported versions. -/
  | getMctpVersionSupport (t : Nat) (m : FacMsg) (typ : Nat)
  /-- GET_MESSAGE_TYPE_SUPPORT (R553). MCTP Get Message Type Support returns control, SPDM and vendor-defined IANA. -/
  | getMessageTypeSupport (t : Nat) (m : FacMsg)
  /-- GET_VENDOR_DEFINED_MESSAGE_SUPPORT (R553). MCTP Get Vendor Defined Message Support returns the fused IANA number. -/
  | getVendorDefinedMessageSupport (t : Nat) (m : FacMsg) (sel : Nat)
  /-- GET_VERSION (R556). SPDM GET_VERSION is answered with version 1.2. -/
  | getVersion (t : Nat) (m : FacMsg)
  /-- GET_CAPABILITIES (R556). SPDM GET_CAPABILITIES reports the responder's capabilities. -/
  | getCapabilities (t : Nat) (m : FacMsg)
  /-- NEGOTIATE_ALGORITHMS (R556). SPDM NEGOTIATE_ALGORITHMS settles on P-384, SHA-384, secp384r1 and AES-256-GCM. -/
  | negotiateAlgorithms (t : Nat) (m : FacMsg) (offers : Bool)
  /-- GET_DIGESTS (R556). SPDM GET_DIGESTS returns the chain digest, or an ERROR without a valid store. -/
  | getDigests (t : Nat) (m : FacMsg)
  /-- GET_CERTIFICATE (R556). SPDM GET_CERTIFICATE returns the slot 0 chain, or an ERROR without a valid store. -/
  | getCertificate (t : Nat) (m : FacMsg) (slot off len : Nat)
  /-- CHALLENGE (R556). SPDM CHALLENGE is answered with a signature by the identity key. -/
  | challenge (t : Nat) (m : FacMsg) (slot : Nat) (nonce : List Byte)
  /-- GET_MEASUREMENTS (R557). SPDM GET_MEASUREMENTS returns the version, image digest, delta chain and SVN blocks, signed. -/
  | getMeasurements (t : Nat) (m : FacMsg) (idx : Nat) (sign : Bool) (nonce : List Byte)
  /-- KEY_EXCHANGE (R556). SPDM KEY_EXCHANGE starts a session, up to 2. -/
  | keyExchange (t : Nat) (m : FacMsg) (slot : Nat) (exch : List Byte)
  /-- FINISH (R556). SPDM FINISH completes session establishment. -/
  | finish (t : Nat) (m : FacMsg) (k : Nat) (ok : Bool)
  /-- SPDM_HEARTBEAT (R556). SPDM HEARTBEAT keeps a session alive. -/
  | spdmHeartbeat (t : Nat) (m : FacMsg)
  /-- SPDM_KEY_UPDATE (R556). SPDM KEY_UPDATE rekeys a facility session. -/
  | spdmKeyUpdate (t : Nat) (m : FacMsg) (op : Nat)
  /-- END_SESSION (R556). SPDM END_SESSION closes a session. -/
  | endSession (t : Nat) (m : FacMsg)
  /-- PAGE (R558). PMBus PAGE reads or sets the selected rail or package page, NACKing undefined rails. -/
  | pmbPage (t : Nat) (pec : Bool) (w : Option Nat)
  /-- VOUT_MODE (R558). PMBus VOUT_MODE returns ULINEAR16 with exponent −11 for a rail page. -/
  | voutMode (t : Nat) (pec : Bool)
  /-- READ_VOUT (R558). PMBus READ_VOUT returns the rail's VSENSE. -/
  | readVout (t : Nat) (pec : Bool)
  /-- READ_IOUT (R559). PMBus READ_IOUT returns the rail current in LINEAR11. -/
  | readIout (t : Nat) (pec : Bool)
  /-- READ_POUT (R559). PMBus READ_POUT returns rail or package power in LINEAR11. -/
  | readPout (t : Nat) (pec : Bool)
  /-- READ_TEMPERATURE_1 (R558). PMBus READ_TEMPERATURE_1 returns the hottest relevant usable temperature. -/
  | readTemperature1 (t : Nat) (pec : Bool)
  /-- MFR_FACILITY_CAP_WRITE (R559). A PMBus MFR_FACILITY_CAP write sets SP of every facility loop, or is NACKed. -/
  | mfrFacilityCapWrite (t : Nat) (pec : Bool) (w : Nat)
  /-- MFR_FACILITY_CAP_READ (R559). A PMBus MFR_FACILITY_CAP read returns the lowest facility SP in W. -/
  | mfrFacilityCapRead (t : Nat) (pec : Bool)
  /-- SETDASA (R552). The I3C CCC SETDASA assigns a dynamic address from the static address. -/
  | setdasa (t sa da : Nat) (ibi : Bool)
  /-- ENTDAA (R552). The I3C CCC ENTDAA assigns a dynamic address using the provisional ID. -/
  | entdaa (t da : Nat) (won ibi : Bool)
  /-- ALERT_RESPONSE_ADDRESS (R552). In SMBus mode the port answers the Alert Response Address. -/
  | alertResponseAddress (t : Nat)
  /-- FAC_ALERT_SW (R561). A write of FAC_ALERT.SW sets PEND bit 6. -/
  | facAlertSw (t : Nat) (p : Port)
  /-- KEYGEN_DONE (R562). The identity key pair has been derived from the fused seed and KEY_READY sets. -/
  | keygenDone (t : Nat)
  /-- ID_CERT_OPEN (R562). ID_CERT_CTRL OPEN clears the certificate store and sets its pointer to 0. -/
  | idCertOpen (t : Nat) (p : Port)
  /-- ID_CERT_WDATA (R562). A write of ID_CERT_WDATA stores eight chain bytes and advances the pointer. -/
  | idCertWdata (t : Nat) (p : Port) (w : Word)
  /-- ID_CERT_COMMIT (R562). ID_CERT_CTRL COMMIT accepts the chain and sets CERT_VALID, or rejects it. -/
  | idCertCommit (t : Nat) (p : Port) (len : Nat)
  /-- TRIP_LAPSE (R41). A counted trip reaches s + TRIP_WINDOW and leaves the sliding window, lowering TRIPCOUNT. -/
  | tripLapse (t : Nat)
  /-- MON_GOOD (R404). After REFCLK returns to a unit on its oscillator, the fourth good monitor window ends with the PLL locked and MON_GOOD rises. -/
  | monGood (t u : Nat)
  /-- MUX_SWITCH_COMPLETE (R399). An ordinary glitch-free multiplexer switch finishes within tMUX, clearing MUX_BUSY and setting ON_OSC to the new selection. -/
  | muxSwitchComplete (t u : Nat)
  /-- MIRROR_HEARTBEAT (R483). Every HB_PERIOD the active hub sends a heartbeat on the mirror port, and the standby restarts its miss count on receipt. -/
  | mirrorHeartbeat (t : Nat)
  /-- PER_TICK_COPY (R481). Every 1 µs the active hub copies event controller PEND, LATCH and group windows, and EXC_CNT, to the standby. -/
  | perTickCopy (t : Nat)
  /-- RESERVED_TYPE_MESSAGE (R85). A channel message of reserved type 0xF, or one sent in a direction that the type does not allow, is dropped and CHAN_PROTO is raised. -/
  | reservedTypeMessage (t : Nat) (e : ChEnd)
  /-- RESERVED_TYPE_FRAME (R448). A Dandoxa frame of reserved type with a valid MAC is dropped and counted in DXL_PORT_n.B.RSVD. -/
  | reservedTypeFrame (t : Nat) (h : FrameHdr)
deriving DecidableEq, Repr

end Sys2Proof
end

