-- ==== Sys2Proof/Decode.lean ====
section
/-!
DEFINITION. The command that a word spells. The table gives no row any bits: the commands are register accesses, messages and
events, not words, so no word spells one.
-/
namespace Sys2Proof

/-- The command that a word of some bits spells by the table: none. -/
def decodeTableWord (_nbits _w : Nat) : Option Instr := none

end Sys2Proof
end

