-- ==== Sys2Proof/Machine/Bits.lean ====
section
/-!
DEFINITION. Number formats and bit fields: signed values in fixed widths (00 R4), rounding to nearest with ties to even and
saturation (00 R6), and bit fields of a word.
-/
namespace Sys2Proof.Machine

/-- The w-bit pattern v as a two's complement number (00 R4). -/
def toSigned (w v : Nat) : Int :=
  if v % 2 ^ w < 2 ^ (w - 1) then (v % 2 ^ w : Nat) else (v % 2 ^ w : Nat) - (2 ^ w : Nat)

/-- The w-bit two's complement pattern of a number, wrapping. -/
def ofSigned (w : Nat) (x : Int) : Nat :=
  (x % (2 ^ w : Nat)).toNat

/-- A number held to lo and hi. -/
def clampInt (lo hi x : Int) : Int :=
  if x < lo then lo else if hi < x then hi else x

/-- Saturation to an unsigned format of w bits (00 R6). -/
def satU (w : Nat) (x : Int) : Nat :=
  (clampInt 0 ((2 ^ w : Nat) - 1) x).toNat

/-- Saturation to a signed format of w bits (00 R6). -/
def satS (w : Nat) (x : Int) : Int :=
  clampInt (-((2 ^ (w - 1) : Nat) : Int)) ((2 ^ (w - 1) : Nat) - 1) x

/-- A quotient rounded to nearest, ties to even (00 R6); 0 for a divisor of 0. -/
def roundDiv (n : Int) (d : Nat) : Int :=
  if d = 0 then 0
  else
    let q := n / (d : Int)
    let r := n % (d : Int)
    if 2 * r < (d : Int) then q
    else if (d : Int) < 2 * r then q + 1
    else if q % 2 = 0 then q else q + 1

/-- A quotient toward 0 rounded away from its fraction, for unsigned numbers; 0 for a divisor of 0. -/
def ceilDiv (n d : Nat) : Nat :=
  if d = 0 then 0 else (n + d - 1) / d

/-- Bit k of a number. -/
def bitOf (v k : Nat) : Bool :=
  v / 2 ^ k % 2 = 1

/-- 1 or 0. -/
def b2n (b : Bool) : Nat :=
  if b then 1 else 0

/-- The field of w bits at bit lsb. -/
def getBits (x : Word) (lsb w : Nat) : Nat :=
  (x.extractLsb' lsb w).toNat

/-- The mask of w bits at bit lsb. -/
def maskBits (lsb w : Nat) : Word :=
  BitVec.ofNat 64 (2 ^ w - 1) <<< lsb

/-- A word with the field of w bits at bit lsb set to v modulo 2^w. -/
def setBits (x : Word) (lsb w v : Nat) : Word :=
  (x &&& ~~~ maskBits lsb w) ||| (BitVec.ofNat 64 (v % 2 ^ w) <<< lsb)

/-- The bits set in a mask, lowest first, below n. -/
def bitList (mask n : Nat) : List Nat :=
  (List.range n).filter fun k => bitOf mask k

/-- A mask of the bits listed. -/
def maskOf (l : List Nat) : Nat :=
  l.foldl (fun m k => if bitOf m k then m else m + 2 ^ k) 0

/-- Saturating addition in a field of w bits. -/
def satAddN (w v d : Nat) : Nat :=
  min (2 ^ w - 1) (v + d)

/-- The sum of a list. -/
def sumNat (l : List Nat) : Nat :=
  l.foldl (· + ·) 0

/-- The sum of a list. -/
def sumInt (l : List Int) : Int :=
  l.foldl (· + ·) 0

end Sys2Proof.Machine
end

