-- ==== Sys2Proof/Machine/Float32.lean ====
section
/-!
DEFINITION. IEEE 754 binary32 values and operations for KNEAD (04 R138, R139): a finite value is an integer number of units of
2^-149; every operation rounds once, to nearest with ties to even, subnormal numbers included. A zero has no sign here: no
operation of R139 shows it.
-/
namespace Sys2Proof.Machine

/-- A binary32 value: finite, in units of 2^-149; an infinity, negative or not; a NaN. -/
inductive F32 where
  | fin (m : Int)
  | inf (neg : Bool)
  | nan
deriving DecidableEq, Repr

/-- A rational num / den, in units of 2^-149, rounded to the binary32 grid; from 2^128 an infinity. -/
def f32Round (num : Int) (den : Nat) : F32 :=
  let a := num.natAbs
  let k := Nat.log2 (a / den) + 1 - 24
  let r := roundDiv a (den * 2 ^ k) * (2 ^ k : Nat)
  if Nat.ble (2 ^ 277) r.natAbs then .inf (decide (num < 0)) else .fin (if num < 0 then -r else r)

/-- Whether a value is neither an infinity nor a NaN. -/
def F32.finite : F32 → Bool
  | .fin _ => true
  | _ => false

/-- The opposite of a value. -/
def F32.neg : F32 → F32
  | .fin m => .fin (-m)
  | .inf b => .inf (!b)
  | .nan => .nan

/-- Sum. -/
def f32Add : F32 → F32 → F32
  | .fin x, .fin y => f32Round (x + y) 1
  | .nan, _ => .nan
  | _, .nan => .nan
  | .inf a, .inf b => if a = b then .inf a else .nan
  | .inf a, .fin _ => .inf a
  | .fin _, .inf b => .inf b

/-- Difference. -/
def f32Sub (x y : F32) : F32 := f32Add x y.neg

/-- Product. -/
def f32Mul : F32 → F32 → F32
  | .fin x, .fin y => f32Round (x * y) (2 ^ 149)
  | .nan, _ => .nan
  | _, .nan => .nan
  | .inf a, .inf b => .inf (a != b)
  | .inf a, .fin y => if y = 0 then .nan else .inf (a != decide (y < 0))
  | .fin x, .inf b => if x = 0 then .nan else .inf (b != decide (x < 0))

/-- Quotient. -/
def f32Div : F32 → F32 → F32
  | .fin x, .fin y =>
    if y = 0 then (if x = 0 then .nan else .inf (decide (x < 0)))
    else f32Round ((if y < 0 then -x else x) * (2 ^ 149 : Nat)) y.natAbs
  | .nan, _ => .nan
  | _, .nan => .nan
  | .inf _, .inf _ => .nan
  | .inf a, .fin y => .inf (a != decide (y < 0))
  | .fin _, .inf _ => .fin 0

/-- Whether x ≤ y; false where one is a NaN. -/
def f32Le : F32 → F32 → Bool
  | .fin x, .fin y => decide (x ≤ y)
  | .nan, _ => false
  | _, .nan => false
  | .inf true, _ => true
  | _, .inf false => true
  | _, _ => false

/-- A value held to [lo, hi], finite bounds; a NaN stays one. -/
def f32Clamp (lo hi : Int) : F32 → F32
  | .fin x => .fin (clampInt lo hi x)
  | .inf true => .fin lo
  | .inf false => .fin hi
  | .nan => .nan

/-- The units of a finite value. -/
def F32.units : F32 → Int
  | .fin m => m
  | _ => 0

/-- A rational number num / den of ordinary units, rounded to binary32. -/
def f32OfRat (num : Int) (den : Nat) : F32 := f32Round (num * (2 ^ 149 : Nat)) den

/-- The finite value of a binary32 bit pattern. -/
def f32OfBits (b : Nat) : Int :=
  let ex := b / 2 ^ 23 % 256
  let fr := b % 2 ^ 23
  let m : Nat := if ex = 0 then fr else (2 ^ 23 + fr) * 2 ^ (ex - 1)
  if bitOf b 31 then -(m : Int) else (m : Int)

end Sys2Proof.Machine
end

