-- ==== Sys2Proof/Config.lean ====
section
/-!
DEFINITION. What is fixed outside the spec's own rules: the licensee's netlist, fuses and straps, the named cryptographic
standards, and the free values. None of them has a body, so no proof can see a value (log entries 3, 4 and 5).
-/
namespace Sys2Proof

/-- What the licensee's netlist connects (19 R573, 02 R65, R71, 06 R186, 20 R581). -/
structure Netlist where
  mirror : Bool
  trace : Bool
  record : Bool
  dxlPorts : Nat
  hubSites : Nat
  hubTcells : Nat
  /-- physical instances of a TYPE code of 02 R64 (1 node engine, 2 leaf agent) -/
  present : Nat → Nat
  /-- whether the netlist has the physical instance of a TYPE code with a PHYSICAL number as 02 R65 encodes it (02 R68) -/
  has : Nat → Nat → Bool
  /-- rows per engine cycle at full issue of a physical gate, by physical leaf and port (06 R186) -/
  rows : Nat → Nat → Nat
deriving Inhabited

/-- What the fuses hold (02 R58, R68, R69; 18 R552, R553, R562). -/
structure Fuses where
  disabled : Nat → Nat → Bool
  disabledCount : Nat → Nat
  svn : Nat
  keyHash : BitVec 384
  iana : Nat
  provisionalId : BitVec 48
deriving Inhabited

/-- The board's straps (13 R410, 18 R552). -/
structure Straps where
  bootVsel : Nat
  facMode : Nat
  facAddr : Nat
deriving Inhabited

/-- The licensee's netlist. -/
opaque Config.netlist : Netlist
/-- The fuses as they leave manufacture. -/
opaque Config.fuses : Fuses
/-- The board's straps. -/
opaque Config.straps : Straps

/-- SHA-384 (02 R55, R58; 18 R557). -/
opaque Config.sha384 : List Byte → BitVec 384
/-- ECDSA P-384 verification of a signature (r then s) over a digest by a public key (X then Y) (02 R58). -/
opaque Config.ecdsaVerify : List Byte → BitVec 384 → List Byte → Bool
/-- ECDSA P-384 signature (r then s, 96 bytes) by the identity key of hub k over a message (18 R556, R557, R563). -/
opaque Config.idSign : Nat → List Byte → List Byte
/-- The identity public key of hub k, X then Y, derived from its fused seed (18 R562). -/
opaque Config.idPubKey : Nat → List Byte
/-- Whether a certificate chain parses and its leaf certificate holds this public key (18 R562). -/
opaque Config.chainLeafKeyIs : List Byte → List Byte → Bool
/-- The bytes a named external standard leaves to it: a response body by message name and input (18 R553, R556). -/
opaque Config.standardBody : String → List Byte → List Byte

/-- A free value: nothing constrains it; the argument is the state's counter of free values (log entry 5). -/
opaque Config.freeValue : Nat → Nat

end Sys2Proof
end

