-- ==== Sys2Proof/Machine/Image.lean ====
section
/-!
DEFINITION. The parsed topology image (02): the structural records and the parameter items the loader takes from a bank, and
the banks themselves. A parameter item keeps its value bytes, as 02 R61 lays them out.
-/
namespace Sys2Proof.Machine

/-- A domain record of TREE (02 R62). -/
structure DomRec where
  dom : Nat
  parent : Nat
  kind : Nat
  level : Nat
  phys : Nat
  railmask : Nat
  optional : Bool
deriving DecidableEq, Repr

/-- A record of INSTANCE_MAP (02 R64). -/
structure InstRec where
  typ : Nat
  optional : Bool
  logical : Nat
  physical : Nat
  owner : Nat
deriving DecidableEq, Repr

/-- A record of RAIL_MAP (10 R300). -/
structure RailRec where
  rail : Nat
  monitored : Bool
  retained : Bool
  rampStep : Nat
  bootGroup : Nat
  nph : Nat
  seqDly : Nat
deriving DecidableEq, Repr

/-- A record of LOOP_ALLOC (05 R146). -/
structure LoopRec where
  loop : Nat
  host : Nat
  engine : Nat
  pclass : Nat
  sleepRun : Bool
  phase : Nat
deriving DecidableEq, Repr

/-- A record of SYNC_PART (08 R230). -/
structure PartRec where
  ctx : Nat
  objBase : Nat
  objCount : Nat
  watchBase : Nat
  watchCount : Nat
deriving DecidableEq, Repr

/-- A port record of DXL_CONFIG (15 R471). -/
structure DxlPortRec where
  present : Bool
  peerId : Nat
deriving DecidableEq, Repr

/-- The body of DXL_CONFIG (15 R471). -/
structure DxlConfig where
  pkgId : Nat
  parentPort : Nat
  childMask : Nat
  depth : Nat
  leaseMask : Nat
  feed : Nat
  caHash : List Byte
  ports : List DxlPortRec
deriving DecidableEq, Repr

/-- The body of MIRROR_CONFIG (16 R475). -/
structure MirrorConfig where
  primary : Nat
  autoRejoin : Bool
  hbPeriod : Nat
  hbMiss : Nat
  lazyPeriod : Nat
deriving DecidableEq, Repr

/-- A record of EVENT_SOURCES (14 R421). -/
structure SrcRec where
  src : Nat
  code : Nat
  inst : Nat
deriving DecidableEq, Repr

/-- A parameter item (02 R61): section type, KEY, INDEX and the value's bytes. -/
structure Item where
  sec : Nat
  key : Nat
  idx : Nat
  val : List Byte
deriving DecidableEq, Repr

/-- An image as the loader reads it (02 R55 to R61). -/
structure Image where
  delta : Bool
  minor : Nat
  svn : Nat
  paramSeq : Nat
  imageId : Nat
  digest : BitVec 384
  structDigest : BitVec 384
  tree : List DomRec
  insts : List InstRec
  rails : List RailRec
  loops : List LoopRec
  parts : List PartRec
  dxl : Option DxlConfig
  mirror : Option MirrorConfig
  sources : List SrcRec
  items : List Item
deriving DecidableEq, Repr

/-- A bank of the image store (02 R52 to R54): its bytes, the extent written since OPEN, whether it holds a full image accepted
before, whether it is marked rejected until rewritten, and whether it was rejected since the entry to AON (02 R74). -/
structure Bank where
  mem : List Host.Cell
  written : Nat
  accepted : Bool
  rejected : Bool
deriving DecidableEq, Repr

/-- An empty bank (02 R52). -/
def Bank.empty : Bank := { mem := [], written := 0, accepted := false, rejected := false }

end Sys2Proof.Machine
end

