-- ==== Sys2Proof/Machine/Mem.lean ====
section
/-!
DEFINITION. The addressed byte stores of the block (an image bank, 02 R52; the certificate store, 18 R562): a list of
(address, byte) cells in one canonical form, addresses strictly rising and no cell holding 0, which is what an unlisted
address reads as (02 R72: OPEN zeroes the staging bank; log entry 6).
-/
namespace Sys2Proof.Machine

/-- A byte store. -/
abbrev Mem := List Host.Cell

/-- The byte at an address; 0 where none is listed. -/
def Mem.read (m : Mem) (a : Nat) : Byte :=
  match m with
  | [] => 0
  | (b, v) :: r => if b = a then v else Mem.read r a

/-- Remove an address. -/
def Mem.erase (m : Mem) (a : Nat) : Mem :=
  m.filter fun c => decide (c.1 ≠ a)

/-- Put a byte at an address, keeping the order. -/
def Mem.insert (m : Mem) (a : Nat) (v : Byte) : Mem :=
  match m with
  | [] => [(a, v)]
  | (b, w) :: r => if b = a then (a, v) :: r else if a < b then (a, v) :: (b, w) :: r else (b, w) :: Mem.insert r a v

/-- Write one byte: writing 0 removes the cell. -/
def Mem.write (m : Mem) (a : Nat) (v : Byte) : Mem :=
  if v = 0 then Mem.erase m a else Mem.insert m a v

/-- Write bytes from an address upward. -/
def Mem.writeBytes (m : Mem) (a : Nat) : List Byte → Mem
  | [] => m
  | v :: r => Mem.writeBytes (Mem.write m a v) (a + 1) r

/-- The n bytes from an address upward, in one pass over cells that start at or above it. -/
def Mem.dense (m : Mem) (a n : Nat) : List Byte :=
  match n, m with
  | 0, _ => []
  | n + 1, [] => 0 :: Mem.dense [] (a + 1) n
  | n + 1, (b, v) :: r => if b = a then v :: Mem.dense r (a + 1) n else 0 :: Mem.dense ((b, v) :: r) (a + 1) n

/-- The n bytes from an address upward. -/
def Mem.bytes (m : Mem) (a n : Nat) : List Byte :=
  Mem.dense (m.dropWhile fun c => Nat.blt c.1 a) a n

/-- The canonical form. -/
def Mem.wf : Mem → Bool
  | [] => true
  | (a, v) :: r => decide (v ≠ 0) && r.all (fun c => Nat.blt a c.1) && Mem.wf r

/-- The eight bytes of a word, least significant first (00 R3). -/
def wordBytes (w : Word) : List Byte :=
  (List.range 8).map fun k => w.extractLsb' (8 * k) 8

/-- n bytes of a number, least significant first (00 R3). -/
def leBytes (n v : Nat) : List Byte :=
  (List.range n).map fun k => BitVec.ofNat 8 (v / 2 ^ (8 * k))

/-- The number n little-endian bytes spell (00 R3). -/
def leNat : List Byte → Nat
  | [] => 0
  | b :: r => b.toNat + 256 * leNat r

/-- The unsigned number of len bytes at an offset of a byte list (00 R3). -/
def fieldAt (l : List Byte) (off len : Nat) : Nat :=
  leNat ((l.drop off).take len)

end Sys2Proof.Machine
end

