-- ==== Sys2Proof/Machine/ImgParse.lean ====
section
/-!
DEFINITION. From bytes to an image: the header, the sections, the structural records and the parameter items (02 R55 to R66), and
the checks C1 to C3 and C7 to C10 of 02 R71 on them. A check gives the byte offset of what fails.
-/
namespace Sys2Proof.Machine

/-- A check: none where it holds, else the byte offset of what fails (02 R71). -/
abbrev Chk := Option Nat

/-- A check of one condition. -/
def must (c : Bool) (off : Nat) : Chk := if c then none else some off

/-- The first failure of a list of checks. -/
def firstBad (l : List Chk) : Chk := l.findSome? id

/-- The first failure over a list of things. -/
def badOf {α : Type} (l : List α) (f : α → Chk) : Chk := l.findSome? f

/-- Whether all bytes are 0. -/
def zeros (l : List Byte) : Bool := l.all fun b => b == 0

/-- The bytes [off, off + n) of a list. -/
def slice (l : List Byte) (off n : Nat) : List Byte := (l.drop off).take n

/-- A list cut into k pieces of n bytes. -/
def chunks (n : Nat) : Nat → List Byte → List (List Byte)
  | 0, _ => []
  | k + 1, l => l.take n :: chunks n k (l.drop n)

/-- A 48-byte digest as a number, its first byte least significant. -/
def digestOf (l : List Byte) : BitVec 384 := BitVec.ofNat 384 (leNat (l.take 48))

/-! ### Header and sections -/

/-- Block version 4.2 (00, 02): the hub's own major and minor version. -/
abbrev blkMajor : Nat := 4
/-- The hub's own minor version. -/
abbrev blkMinor : Nat := 2

/-- C1 (02 R55, R53, R71) on the header of 128 bytes, with the bytes written since OPEN. -/
def checkC1 (h : List Byte) (written : Nat) : Chk :=
  let delta := bitOf (fieldAt h 6 2) 0
  let len := fieldAt h 0x0C 4
  firstBad [
    must (fieldAt h 0 4 = 0x495A4753) 0, must (fieldAt h 4 2 = 1) 4, must (Nat.blt (fieldAt h 6 2) 2) 6,
    must (Nat.ble 328 len && Nat.ble len (if delta then 65536 else 524288) && Nat.ble len written) 0x0C,
    must (Nat.ble (fieldAt h 0x10 4) 127) 0x10, must (zeros (slice h 0x1A 2)) 0x1A, must (fieldAt h 0x1C 4 = 0x80) 0x1C,
    must (zeros (slice h 0x64 28)) 0x64]

/-- C2 (00 R25). -/
def checkC2 (h : List Byte) : Chk :=
  firstBad [must (fieldAt h 8 1 = blkMajor) 8, must (Nat.ble (fieldAt h 9 1) blkMinor) 9]

/-- A section as C3 finds it: type, offset of its header, body, and the bytes from its header to the end of its padding. -/
structure RawSec where
  typ : Nat
  off : Nat
  body : List Byte
  whole : List Byte
deriving DecidableEq, Repr

/-- Bytes up to the next multiple of 8. -/
def pad8 (n : Nat) : Nat := (8 - n % 8) % 8

/-- The section framing of 02 R56: n sections from an offset to the signature block, in ascending type order from the lowest type that
may follow. -/
def sections : (n off low : Nat) → List Byte → Except Nat (List RawSec)
  | 0, off, _, l => if l.isEmpty then .ok [] else .error off
  | n + 1, off, low, l =>
    let typ := fieldAt l 0 2
    let len := fieldAt l 4 4
    let size := 8 + len + pad8 len
    if Nat.ble 8 l.length && Nat.ble low typ && fieldAt l 2 2 = 0 && Nat.ble size l.length && zeros (slice l (8 + len) (pad8 len)) then
      match sections n (off + size) (typ + 1) (l.drop size) with
      | .ok r => .ok ({ typ := typ, off := off, body := slice l 8 len, whole := l.take size } :: r)
      | .error e => .error e
    else .error off

/-- C3 (02 R56, R57) on the whole image. -/
def checkC3 (b : List Byte) : Except Nat (List RawSec) :=
  let total := fieldAt b 0x0C 4
  let sig := fieldAt b 0x60 4
  let cnt := fieldAt b 0x18 2
  if sig + 200 ≠ total then .error 0x60
  else if cnt = 0 || Nat.blt 255 cnt then .error 0x18
  else if fieldAt b sig 4 ≠ 0x4B424753 then .error sig
  else if !zeros (slice b (sig + 4) 4) then .error (sig + 4)
  else sections cnt 0x80 0 (slice b 0x80 (sig - 0x80))

/-- The structural section types of 02 R59. -/
def structTypes : List Nat := [1, 2, 3, 4, 5, 6, 7, 8]
/-- The parameter section types of 02 R59. -/
def paramTypes : List Nat := (List.range 14).map (· + 0x100)

/-- C7 but for the digests (02 R59, R60). -/
def checkC7 (delta : Bool) (l : List RawSec) : Chk :=
  let has (t : Nat) : Bool := l.any fun x => Nat.beq x.typ t
  let known (t : Nat) : Bool := structTypes.contains t || paramTypes.contains t || Nat.ble 0xF000 t
  let need := if delta then [] else [1, 2, 3, 4, 5, 8] ++ paramTypes.filter fun t => !([0x108, 0x109, 0x10D].contains t)
  firstBad [
    badOf l fun x => must (known x.typ && !(delta && structTypes.contains x.typ)) x.off,
    badOf need fun t => must (has t) 0,
    must (!delta || l.any fun x => paramTypes.contains x.typ) 0]

/-! ### Records -/

/-- The records of a section body with their offsets; a body that is no whole number of records gives its own offset. -/
def records (size : Nat) (x : RawSec) : Except Nat (List (Nat × List Byte)) :=
  if x.body.length % size ≠ 0 then .error x.off
  else
    let n := x.body.length / size
    .ok (((List.range n).map fun k => x.off + 8 + size * k).zip (chunks size n x.body))

/-- The section of a type. -/
def secOf (l : List RawSec) (t : Nat) : Option RawSec := l.find? fun x => Nat.beq x.typ t

/-- The records of the section of a type; none where it is absent. -/
def recsOf (l : List RawSec) (t size : Nat) : Except Nat (List (Nat × List Byte)) :=
  match secOf l t with
  | some x => records size x
  | none => .ok []

/-- A TREE record (02 R62). -/
def domRec (v : List Byte) : DomRec :=
  { dom := fieldAt v 0 2, parent := fieldAt v 2 2, kind := fieldAt v 4 1, level := fieldAt v 5 1, phys := fieldAt v 6 2,
    railmask := fieldAt v 8 4, optional := bitOf (fieldAt v 0xC 2) 0 }

/-- An INSTANCE_MAP record (02 R64). -/
def instRec (v : List Byte) : InstRec :=
  { typ := fieldAt v 0 1, optional := bitOf (fieldAt v 1 1) 0, logical := fieldAt v 2 2, physical := fieldAt v 4 2,
    owner := fieldAt v 6 2 }

/-- A RAIL_MAP record (10 R300). -/
def railRec (v : List Byte) : RailRec :=
  { rail := fieldAt v 0 1, monitored := bitOf (fieldAt v 1 1) 0, retained := bitOf (fieldAt v 1 1) 1, rampStep := fieldAt v 2 1,
    bootGroup := fieldAt v 3 1, nph := fieldAt v 4 1, seqDly := fieldAt v 6 2 }

/-- A LOOP_ALLOC record (05 R146). -/
def loopRec (v : List Byte) : LoopRec :=
  { loop := fieldAt v 0 2, host := fieldAt v 2 2, engine := fieldAt v 4 1, pclass := fieldAt v 5 1,
    sleepRun := bitOf (fieldAt v 6 2) 0, phase := fieldAt v 8 4 }

/-- A SYNC_PART record (08 R230). -/
def partRec (v : List Byte) : PartRec :=
  { ctx := fieldAt v 0 1, objBase := fieldAt v 2 2, objCount := fieldAt v 4 2, watchBase := fieldAt v 8 4,
    watchCount := fieldAt v 0xC 4 }

/-- An EVENT_SOURCES record (14 R421). -/
def srcRec (v : List Byte) : SrcRec := { src := fieldAt v 0 2, code := fieldAt v 2 1, inst := fieldAt v 4 2 }

/-- The DXL_CONFIG body (15 R471). -/
def dxlConfig (v : List Byte) : DxlConfig :=
  { pkgId := fieldAt v 0 2, parentPort := fieldAt v 2 1, childMask := fieldAt v 3 1, depth := fieldAt v 4 1,
    leaseMask := fieldAt v 5 1, feed := fieldAt v 6 2, caHash := slice v 8 48,
    ports := (List.range 8).map fun n => { present := bitOf (fieldAt v (0x40 + 8 * n) 1) 0, peerId := fieldAt v (0x42 + 8 * n) 2 } }

/-- The MIRROR_CONFIG body (16 R475). -/
def mirrorConfig (v : List Byte) : MirrorConfig :=
  { primary := fieldAt v 0 1, autoRejoin := bitOf (fieldAt v 1 1) 0, hbPeriod := fieldAt v 2 2, hbMiss := fieldAt v 4 1,
    lazyPeriod := fieldAt v 8 4 }

/-- The maximum number of instances of a TYPE code of 02 R64, 1 and 2 included (01 R26). -/
def maxInst (typ : Nat) : Nat := [0, 64, 512, 16384, 4096, 32, 8208, 1024, 512, 32, 256].getD typ 0

/-- The maximum of a TYPE at one leaf, and in the hub (01 R26). -/
def maxPorts (typ : Nat) (hub : Bool) : Nat :=
  match typ, hub with
  | 3, false => 32 | 4, false => 8 | 5, false => 4 | 6, false => 16 | 7, false => 16 | 8, false => 8
  | 6, true => 16 | 7, true => 64
  | _, _ => 0

/-- Whether strictly rising. -/
def rising : List Nat → Bool
  | [] => true
  | a :: r => (match r with | [] => true | b :: _ => Nat.blt a b) && rising r

/-- Whether no element repeats. -/
def distinct : List Nat → Bool
  | [] => true
  | a :: r => !r.contains a && distinct r

/-! ### C8 -/

/-- C8 on one TREE record, with the records before it (02 R62, R63; 01 R28). -/
def checkDom (before : List DomRec) (off : Nat) (v : List Byte) : Chk :=
  let r := domRec v
  let kindOk := match r.kind with
    | 0 => before.isEmpty && r.dom = 0 && r.parent = 0xFFFF && r.level = 0 && r.phys = 0
    | 1 => Nat.ble 0x1000 r.dom && Nat.blt r.dom 0x1040
    | 2 => Nat.ble 0x2000 r.dom && Nat.blt r.dom 0x2200
    | _ => false
  let parentOk := r.kind = 0 || before.any fun p => Nat.beq p.dom r.parent && Nat.blt p.kind 2 && Nat.beq r.level (p.level + 1)
  must (kindOk && parentOk && Nat.ble r.level 7 && Nat.blt (fieldAt v 0xC 2) 2 && fieldAt v 0xE 2 = 0
    && !(before.any fun p => Nat.beq p.dom r.dom) && !(before.isEmpty && r.kind ≠ 0)) off

/-- C8 on each TREE record in turn. -/
def checkDoms : List DomRec → List (Nat × List Byte) → Chk
  | _, [] => none
  | before, (off, v) :: r =>
    match checkDom before off v with
    | some e => some e
    | none => checkDoms (before ++ [domRec v]) r

/-- The union of masks. -/
def orMasks (l : List Nat) : Nat := l.foldl Nat.lor 0

/-- C8 (01 R26, R28; 02 R62, R63), with the rails that RAIL_MAP defines. -/
def checkC8 (l : List (Nat × List Byte)) (rails : List Nat) : Chk :=
  let tree := l.map fun x => domRec x.2
  let kids (d : Nat) := tree.filter fun r => Nat.beq r.parent d && r.kind ≠ 0
  let nums (k : Nat) := (tree.filter fun r => Nat.beq r.kind k).map fun r => r.dom % 0x1000
  let dense (k : Nat) : Bool := (nums k).all fun n => Nat.blt n (nums k).length
  firstBad [
    must (!l.isEmpty) 0,
    checkDoms [] l,
    badOf l fun x =>
      let r := domRec x.2
      must (r.kind = 2 || (Nat.ble 1 (kids r.dom).length && Nat.ble (kids r.dom).length 64
        && Nat.beq r.railmask (orMasks ((kids r.dom).map (·.railmask))))) x.1,
    must (dense 1 && dense 2) 0,
    must (rails.all fun r => bitOf ((tree.headD ⟨0, 0, 0, 0, 0, 0, false⟩).railmask) r) 0]

/-! ### C9 -/

/-- Whether a named physical instance may stand: present, and not disabled unless OPTIONAL (02 R68). DESIGN CHOICE: one that the netlist
does not have fails the image though its record is OPTIONAL (log entry 142). -/
def physOk (typ phys : Nat) (optional : Bool) : Bool :=
  Config.netlist.has typ phys && (optional || !Config.fuses.disabled typ phys)

/-- C9 on one INSTANCE_MAP record (02 R64 to R66, R68; 01 R26). -/
def checkInst (tree : List DomRec) (rcs : List Nat) (off : Nat) (v : List Byte) : Chk :=
  let r := instRec v
  let leafOwned (t : Nat) : Bool := tree.any (fun d => Nat.beq d.dom r.owner && Nat.beq d.kind 2 && Nat.beq d.phys (r.physical / 32))
    && Nat.blt r.physical 0x4000 && Nat.blt (r.physical % 32) (maxPorts t false)
  let hubOwned (t : Nat) : Bool := r.owner = 0 && Nat.ble 0x8000 r.physical && Nat.blt (r.physical - 0x8000) (maxPorts t true)
  let place := match r.typ with
    | 3 | 4 | 5 | 8 => leafOwned r.typ
    | 6 | 7 => leafOwned r.typ || hubOwned r.typ
    | 9 => r.owner = 0 && Nat.blt r.physical 32
    | 10 => rcs.contains r.owner && Nat.blt r.physical 256
    | _ => false
  must (place && Nat.blt r.logical (maxInst r.typ) && Nat.blt (fieldAt v 1 1) 2 && physOk r.typ r.physical r.optional) off

/-- C9 (02 R64 to R68). -/
def checkC9 (tree : List (Nat × DomRec)) (l : List (Nat × List Byte)) : Chk :=
  let recs := l.map fun x => instRec x.2
  let rcs := (recs.filter fun r => Nat.beq r.typ 9).map (·.logical)
  let doms := tree.map (·.2)
  let count (t : Nat) := (recs.filter fun r => Nat.beq r.typ t).length
  firstBad [
    badOf tree fun x => must (x.2.kind = 0 || physOk x.2.kind x.2.phys x.2.optional) x.1,
    must (distinct (doms.filterMap fun d => if d.kind = 0 then none else some (65536 * d.kind + d.phys))) 0,
    badOf l fun x => checkInst doms rcs x.1 x.2,
    must (rising (recs.map fun r => 65536 * r.typ + r.logical)) 0,
    must (distinct (recs.map fun r => 65536 * r.typ + r.physical)) 0,
    must ((List.range 11).all fun t => Nat.ble (count t) (maxInst t)) 0]

/-! ### C10 -/

/-- RAIL_MAP (10 R300, R301). -/
def checkRails (insts : List InstRec) (l : List (Nat × List Byte)) : Chk :=
  let recs := l.map fun x => railRec x.2
  let rcs := (insts.filter fun r => Nat.beq r.typ 9).map (·.logical)
  let nph (r : Nat) := (insts.filter fun x => Nat.beq x.typ 10 && Nat.beq x.owner r).length
  firstBad [
    badOf l fun x =>
      let v := x.2
      let r := railRec v
      must (Nat.ble r.rail 31 && rcs.contains r.rail && Nat.blt (fieldAt v 1 1) 4 && Nat.ble r.rampStep 31
        && (Nat.ble r.bootGroup 3 || r.bootGroup = 0xFF) && Nat.ble r.nph 32 && fieldAt v 5 1 = 0 && Nat.ble r.seqDly 10000
        && zeros (slice v 8 8) && Nat.beq r.nph (nph r.rail) && (r.monitored == Nat.beq r.nph 0) && !(r.retained && r.monitored)) x.1,
    must (rising (recs.map (·.rail))) 0,
    must (rcs.all fun k => recs.any fun r => Nat.beq r.rail k) 0]

/-- LOOP_ALLOC (05 R146, R148). -/
def checkLoops (tree : List DomRec) (l : List (Nat × List Byte)) : Chk :=
  let recs := l.map fun x => loopRec x.2
  let period (c : Nat) : Nat := [1000, 10000, 100000, 1000000].getD c 1000
  let onEngine (r : LoopRec) := recs.filter fun x => Nat.beq x.host r.host && Nat.beq x.engine r.engine
  firstBad [
    badOf l fun x =>
      let v := x.2
      let r := loopRec v
      must (Nat.ble r.loop 511 && tree.any (fun d => Nat.beq d.dom r.host && Nat.blt d.kind 2)
        && Nat.ble r.engine (if r.host = 0 then 7 else 1) && Nat.ble r.pclass 3 && Nat.blt (fieldAt v 6 2) 2
        && Nat.blt r.phase (period r.pclass) && fieldAt v 0xC 4 = 0) x.1,
    must (rising (recs.map (·.loop))) 0,
    badOf l fun x =>
      let e := onEngine (loopRec x.2)
      must (Nat.ble e.length 64 && (e.all fun r => Nat.ble (128 * e.length) (period r.pclass))
        && Nat.ble (sumNat (e.map fun r => 64 * (1000000 / period r.pclass))) 600000) x.1]

/-- Whether two ranges of numbers are disjoint. -/
def apart (a n b m : Nat) : Bool := n = 0 || m = 0 || Nat.ble (a + n) b || Nat.ble (b + m) a

/-- SYNC_PART (08 R230). -/
def checkParts (l : List (Nat × List Byte)) : Chk :=
  let recs := l.map fun x => partRec x.2
  firstBad [
    badOf l fun x =>
      let v := x.2
      let r := partRec v
      must (Nat.ble r.ctx 15 && fieldAt v 1 1 = 0 && fieldAt v 6 2 = 0 && Nat.ble r.objCount 2048 && Nat.ble r.watchCount 65536
        && Nat.ble (r.objBase + r.objCount) 16384 && Nat.ble (r.watchBase + r.watchCount) 65536
        && recs.all fun o => Nat.beq o.ctx r.ctx || (apart o.objBase o.objCount r.objBase r.objCount
          && apart o.watchBase o.watchCount r.watchBase r.watchCount)) x.1,
    must (rising (recs.map (·.ctx))) 0]

/-- DXL_CONFIG (15 R471; 19 R573). -/
def checkDxl (x : RawSec) : Chk :=
  let v := x.body
  let d := dxlConfig v
  let present (n : Nat) : Bool := match d.ports[n]? with | some p => p.present | none => false
  let root := d.parentPort = 0xFF
  firstBad [
    must (v.length = 128) x.off,
    must ((root || (Nat.ble d.parentPort 7 && present d.parentPort && !bitOf d.childMask d.parentPort))
      && ((List.range 8).all fun n => present n || !(bitOf d.childMask n || bitOf d.leaseMask n))
      && Nat.ble d.depth 6 && (!root || d.depth = 0) && zeros (slice v 0x38 8)) (x.off + 8),
    badOf (List.range 8) fun n =>
      must ((!present n || (Nat.blt n Config.netlist.dxlPorts && !Nat.beq (fieldAt v (0x42 + 8 * n) 2) d.pkgId))
        && Nat.blt (fieldAt v (0x40 + 8 * n) 1) 2 && fieldAt v (0x41 + 8 * n) 1 = 0 && zeros (slice v (0x44 + 8 * n) 4))
        (x.off + 8 + 0x40 + 8 * n)]

/-- MIRROR_CONFIG (16 R475; 19 R573). -/
def checkMirror (x : RawSec) : Chk :=
  let v := x.body
  let m := mirrorConfig v
  must (v.length = 16 && Nat.ble m.primary 1 && Nat.blt (fieldAt v 1 1) 2 && Nat.ble 200 m.hbPeriod && Nat.ble m.hbPeriod 2000
    && Nat.ble 2 m.hbMiss && Nat.ble m.hbMiss 8 && zeros (slice v 5 3) && Nat.ble 100 m.lazyPeriod && Nat.ble m.lazyPeriod 100000
    && zeros (slice v 0xC 4) && Nat.ble (m.hbPeriod * m.hbMiss) 16000 && Config.netlist.mirror) x.off

/-- The event codes of 14 R420 that are not reserved. -/
def eventCodes : List Nat :=
  (List.range 10).map (· + 1) ++ [0x10, 0x11, 0x12, 0x13] ++ (List.range 9).map (· + 0x18) ++ [0x28, 0x29, 0x2A, 0x2B, 0x30, 0x31,
    0x32, 0x33] ++ (List.range 6).map (· + 0x38) ++ (List.range 5).map (· + 0x40) ++ [0x48, 0x49, 0x4A, 0x50, 0x51, 0x52, 0x53, 0x54,
    0x58] ++ (List.range 7).map (· + 0x60) ++ [0x70, 0x71, 0x72, 0x73] ++ (List.range 5).map (· + 0x78) ++ [0x88, 0x89, 0x8A, 0x8B]

/-- EVENT_SOURCES (14 R421). -/
def checkSources (l : List (Nat × List Byte)) : Chk :=
  let recs := l.map fun x => srcRec x.2
  firstBad [
    badOf l fun x =>
      let v := x.2
      let r := srcRec v
      must (Nat.ble r.src 1023 && eventCodes.contains r.code && fieldAt v 3 1 = 0 && fieldAt v 6 2 = 0
        && recs.all fun o => Nat.beq o.src r.src || !(Nat.beq o.code r.code && Nat.beq o.inst r.inst)) x.1,
    must (rising (recs.map (·.src))) 0]

/-! ### Items -/

/-- Parse the items of a parameter section body, in strictly ascending (KEY, INDEX) order (02 R61). -/
def parseItems : (fuel sec off last : Nat) → List Byte → Except Nat (List (Nat × Item))
  | 0, _, off, _, l => if l.isEmpty then .ok [] else .error off
  | n + 1, sec, off, last, l =>
    if l.isEmpty then .ok []
    else
      let key := fieldAt l 0 2
      let len := fieldAt l 2 2
      let idx := fieldAt l 4 4
      let size := 8 + len + pad8 len
      let order := key * 2 ^ 32 + idx + 1
      if Nat.ble 8 l.length && Nat.ble size l.length && zeros (slice l (8 + len) (pad8 len)) && Nat.blt last order then
        match parseItems n sec (off + size) order (l.drop size) with
        | .ok r => .ok ((off, { sec := sec, key := key, idx := idx, val := slice l 8 len }) :: r)
        | .error e => .error e
      else .error off

/-- The items of every parameter section, with their offsets. -/
def allItems : List RawSec → Except Nat (List (Nat × Item))
  | [] => .ok []
  | x :: r =>
    if paramTypes.contains x.typ then
      match parseItems (x.body.length / 8) x.typ (x.off + 8) 0 x.body, allItems r with
      | .ok a, .ok b => .ok (a ++ b)
      | .error e, _ => .error e
      | _, .error e => .error e
    else allItems r

/-- Effective items after a delta's (02 R61): an item for every instance replaces all of its key, another its own. -/
def mergeItems (old new : List Item) : List Item :=
  (old.filter fun x => !(new.any fun y => Nat.beq y.sec x.sec && Nat.beq y.key x.key
    && (Nat.beq y.idx 0xFFFF_FFFF || Nat.beq y.idx x.idx))) ++ new

/-! ### Dropping disabled instances (02 R68) -/

/-- The TREE records that stay, in order. -/
def dropTree (tree : List DomRec) : List DomRec :=
  tree.foldl (fun kept r =>
    if r.kind = 0 then kept ++ [r]
    else if r.optional && Config.fuses.disabled r.kind r.phys then kept
    else if kept.any fun p => Nat.beq p.dom r.parent then kept ++ [r] else kept) []

/-- The structure that stays (02 R68; 05 R149; 10 R300). DESIGN CHOICE: the places of a rail's phase channels close up over a dropped
one (02 R66; log entry 143). -/
def Image.dropped (g : Image) : Image :=
  let tree := dropTree g.tree
  let has (d : Nat) : Bool := tree.any fun r => Nat.beq r.dom d
  let own := g.insts.filter fun r => !(r.optional && Config.fuses.disabled r.typ r.physical) && (r.typ = 10 || has r.owner)
  let rc (k : Nat) : Bool := own.any fun r => Nat.beq r.typ 9 && Nat.beq r.logical k
  { g with tree := tree, insts := own.filter (fun r => r.typ ≠ 10 || rc r.owner), rails := g.rails.filter (fun r => rc r.rail), loops := g.loops.filter (fun l => has l.host) }

end Sys2Proof.Machine
end

