-- ==== Sys2Proof/Machine/KMap.lean ====
section
/-!
DEFINITION. Sparse data by key, in one canonical form: a list of (key, value) pairs with strictly rising keys and no pair
whose value is what an unlisted key reads as. The register file and the block's internal variables are such maps, so that
equal maps are equal data.
-/
namespace Sys2Proof.Machine

/-- A key: a name and two indices (instance numbers; 0 where a name has fewer). -/
structure Key (ν : Type) where
  n : ν
  i : Nat
  j : Nat
deriving DecidableEq, Repr

/-- Lexicographic order of two numbered keys. -/
def keyLt {ν : Type} (num : ν → Nat) (a b : Key ν) : Bool :=
  Nat.blt (num a.n) (num b.n)
    || (Nat.beq (num a.n) (num b.n) && (Nat.blt a.i b.i || (Nat.beq a.i b.i && Nat.blt a.j b.j)))

/-- A sparse map. -/
abbrev KMap (ν α : Type) := List (Key ν × α)

/-- The listed value of a key. -/
def KMap.find? {ν α : Type} [DecidableEq ν] (m : KMap ν α) (k : Key ν) : Option α :=
  match m with
  | [] => none
  | (k', v) :: r => if k' = k then some v else KMap.find? r k

/-- What a key reads as: its listed value, or its default. -/
def KMap.get {ν α : Type} [DecidableEq ν] (dflt : Key ν → α) (m : KMap ν α) (k : Key ν) : α :=
  (KMap.find? m k).getD (dflt k)

/-- Remove a key. -/
def KMap.erase {ν α : Type} [DecidableEq ν] (m : KMap ν α) (k : Key ν) : KMap ν α :=
  m.filter fun p => decide (p.1 ≠ k)

/-- Put a value at a key, keeping the order. -/
def KMap.insert {ν α : Type} [DecidableEq ν] (num : ν → Nat) (m : KMap ν α) (k : Key ν) (v : α) : KMap ν α :=
  match m with
  | [] => [(k, v)]
  | (k', v') :: r =>
    if k' = k then (k, v) :: r
    else if keyLt num k k' then (k, v) :: (k', v') :: r
    else (k', v') :: KMap.insert num r k v

/-- Write a value: writing the default removes the entry. -/
def KMap.set {ν α : Type} [DecidableEq ν] [DecidableEq α] (num : ν → Nat) (dflt : Key ν → α) (m : KMap ν α)
    (k : Key ν) (v : α) : KMap ν α :=
  if v = dflt k then KMap.erase m k else KMap.insert num m k v

/-- The canonical form: strictly rising keys, no entry equal to its default. -/
def KMap.wf {ν α : Type} [DecidableEq ν] [DecidableEq α] (num : ν → Nat) (dflt : Key ν → α) : KMap ν α → Bool
  | [] => true
  | (k, v) :: r => decide (v ≠ dflt k) && r.all (fun p => keyLt num k p.1) && KMap.wf num dflt r

end Sys2Proof.Machine
end

