-- ==== Sys2Proof/Machine/Regs.lean ====
section
/-!
DEFINITION. The register window: every register of the spec's tables by its name, its fields (bits, access code and
reset value as the tables of chapters 01 to 19 give them) and its place in the 64 MiB window (19 R568 to R580).
A replicated register has up to two indices; a word of a multi-word entry is a register of its own (HUB_SPLIT_A, STR_W0).
A field whose reset the tables give as "Img" has the reset word 0 until an image is applied (log entry 2); one whose reset is
"Netlist", "Fuse" or "Strap" takes it from Config (log entry 3).
-/
namespace Sys2Proof.Machine

/-- The access codes of 00 R19. -/
inductive Acc where
  | RO | RW | W1C | W1S | WO | RWO | RWL
deriving DecidableEq, Repr

/-- Every register of the window, named as the spec names it. -/
inductive Reg where
  | HUB_VERSION | HUB_CAP | HUB_LIMITS | HUB_PKG_STATE | HUB_PKG_CMD | HUB_BUDGET | HUB_CAPS | HUB_MODE | STR_MARK
  | STR_CMD | STR_STATUS | STR_CTX | SYNC_CMD | SYNC_STATUS | SYNC_CTX | SYNC_CTXW | SHP_CTRL | SHP_STATUS | SHP_LAST
  | SHP_LAST_I | THM_STATUS | HUB_TCELL | HUB_CHAN | CRUST_STATUS | CRUST_LATCH | CRUST_LAST | CRUST_RAIL
  | CRUST_RAIL_UV | ECC_STATUS | ECC_COUNT | RST_STATUS | RST_CMD | HUB_CLK_CMD | HUB_TIME | HOST_STATUS | HOST_ERR_A
  | HOST_ERR_B | REC_PERR | FAC_STATUS | FAC_ALERT | HUB_SPLIT_A | HUB_SPLIT_B | HUB_SPLIT_C | IMG_CTRL | IMG_STATUS
  | IMG_WADDR | IMG_WDATA | IMG_INFO | IMG_ID | IMG_FUSE | IMG_INV | ID_STATUS | ID_CERT_CTRL | ID_CERT_WDATA
  | ID_PUBKEY | ID_MEAS3 | EVC_CTRL | EVC_STATUS | EVC_ACK | EVC_EOI | EVC_TSTAT | EVC_RECOVER | EVC_NMI | EVC_STACK
  | EVC_GRP_A | EVC_GRP_B | EVC_WAKE | EVC_SRC_CFG | EVC_SRC_STATE | CLK_CTRL | CLK_STAT | CLK_MON | CLK_OSC | CLK_TB
  | LOOP_CTRL | LOOP_CFG | LOOP_SP | LOOP_SP_MAX | LOOP_OUT_LIM | LOOP_INT_LIM | LOOP_DEST | LOOP_SCHED | LOOP_VAL
  | LOOP_ERR | LOOP_MANUAL | LOOP_STAT | LOOP_LAT | LOOP_LATE | LOOP_COUNT | GT_A | GT_B | ENG_STATUS | STR_W0 | STR_W1
  | STR_W2 | STR_W3 | STR_W4 | STR_W5 | STR_W6 | STR_W7 | RAIL_STATE | RAIL_VSEL | RAIL_LIM | RAIL_SYNC | RAIL_COMP_A
  | RAIL_COMP_B | RAIL_LOOP | RAIL_PCM | RAIL_SHED | RAIL_SHED_STAT | RAIL_PH | RAIL_VSLOT | RAIL_FUSE_STATUS
  | RAIL_MEAS | RAIL_ESTM | RAIL_FUSED | RAIL_THETA_LO | RAIL_THETA_HI | RAIL_KNEAD | RAIL_KNEAD_RES | RAIL_RISE
  | RAIL_RISE_EXPO | RAIL_SHAPE_PRED | PH_CTRL | PH_STAT | PH_SAMPLE | PH_CAL | TS_CTRL | TS_VAL | TS_CAL | TS_THR
  | TS_STAT | TS_HYST | DD_CTRL | DD_MAP | DD_CAL | DD_THR | DD_STAT | NODE_ID | NODE_STATUS | NODE_BUDGET
  | NODE_SPLIT_STAT | NODE_SPLIT_A | NODE_SPLIT_B | NODE_SPLIT_C | NODE_CHAN | LEAF_ID | LEAF_EST_STATUS | LEAF_EST
  | LEAF_THETA_LO | LEAF_THETA_HI | LEAF_VREF | LEAF_BUDGET | LEAF_RAIL_BUDGET | LEAF_CONV | LEAF_SHED | LEAF_PART
  | LEAF_GATE | LEAF_CORE | LEAF_LSYNC | LEAF_SYNC_STAT | LEAF_SYNC_EPOCH | LEAF_SYNC_WAIT | LEAF_SYNC_LAST | LEAF_SCORE
  | LEAF_PROOF | LEAF_SCORE_CNT | LEAF_CREDIT | LEAF_THERM | LEAF_THR_REQ | LEAF_STACK | LEAF_TCELL | LEAF_CHAN
  | LEAF_BRAKE | LEAF_CNT_SEL | LEAF_CNT_LATCH | SYNC_OBJ_A | SYNC_OBJ_B | WATCH_A | WATCH_B | CNT_STATUS | CNT_LATCH
  | CNT_GLOBAL | CNT_CTX | CNT_UA | CNT_CTX_E | REC_RING_A | REC_RING_B | REC_RING_C | REC_ROUTE | REC_STATUS | TRC_CTRL
  | TRC_STATUS | TRC_PTR | TRC_LOSS | TRC_BUF | DXL_STATUS | DXL_TIME | DXL_TERR | DXL_LEASE | DXL_OFFER | DXL_JOB
  | DXL_PORT_A | DXL_PORT_B | DXL_PORT_C | DXL_PORT_D | MIR_STATUS | MIR_CMD | MIR_LAST | MIR_LAG | CTX_SYNC_OP
  | CTX_SYNC_STAT | CTX_LATCH | CTX_LATCH_STAT | CTX_CNT | CTX_ENERGY | CTX_LSNAP | CTX_SYNC_OBJ_A | CTX_SYNC_OBJ_B
deriving DecidableEq, Repr

/-- A field: its register, lowest bit and width. -/
structure Fld where
  r : Reg
  lsb : Nat
  w : Nat
deriving DecidableEq, Repr

/-- A row of a register table: field name, lowest bit, width, access code. -/
structure FieldRow where
  name : String
  lsb : Nat
  w : Nat
  acc : Acc
deriving DecidableEq, Repr

/-- Where a register lies: address = base + i * s1 + j * s2 for i in [lo1, lo1 + n1) and j in [lo2, lo2 + n2). -/
structure Place where
  base : Nat
  s1 : Nat
  lo1 : Nat
  n1 : Nat
  s2 : Nat
  lo2 : Nat
  n2 : Nat
deriving DecidableEq, Repr

/-- The place of each register (19 R568, R574 to R578 and the register sections of each chapter). -/
def Reg.place : Reg → Place
  | .HUB_VERSION => ⟨0x0, 0x0, 0, 1, 0x0, 0, 1⟩
  | .HUB_CAP => ⟨0x8, 0x0, 0, 1, 0x0, 0, 1⟩
  | .HUB_LIMITS => ⟨0x10, 0x0, 0, 1, 0x0, 0, 1⟩
  | .HUB_PKG_STATE => ⟨0x100, 0x0, 0, 1, 0x0, 0, 1⟩
  | .HUB_PKG_CMD => ⟨0x108, 0x0, 0, 1, 0x0, 0, 1⟩
  | .HUB_BUDGET => ⟨0x200, 0x0, 0, 1, 0x0, 0, 1⟩
  | .HUB_CAPS => ⟨0x208, 0x0, 0, 1, 0x0, 0, 1⟩
  | .HUB_MODE => ⟨0x210, 0x0, 0, 1, 0x0, 0, 1⟩
  | .STR_MARK => ⟨0x300, 0x0, 0, 1, 0x0, 0, 1⟩
  | .STR_CMD => ⟨0x308, 0x0, 0, 1, 0x0, 0, 1⟩
  | .STR_STATUS => ⟨0x310, 0x0, 0, 1, 0x0, 0, 1⟩
  | .STR_CTX => ⟨0x380, 0x8, 0, 16, 0x0, 0, 1⟩
  | .SYNC_CMD => ⟨0x400, 0x0, 0, 1, 0x0, 0, 1⟩
  | .SYNC_STATUS => ⟨0x408, 0x0, 0, 1, 0x0, 0, 1⟩
  | .SYNC_CTX => ⟨0x480, 0x8, 0, 16, 0x0, 0, 1⟩
  | .SYNC_CTXW => ⟨0x500, 0x8, 0, 16, 0x0, 0, 1⟩
  | .SHP_CTRL => ⟨0x600, 0x0, 0, 1, 0x0, 0, 1⟩
  | .SHP_STATUS => ⟨0x608, 0x0, 0, 1, 0x0, 0, 1⟩
  | .SHP_LAST => ⟨0x610, 0x0, 0, 1, 0x0, 0, 1⟩
  | .SHP_LAST_I => ⟨0x618, 0x0, 0, 1, 0x0, 0, 1⟩
  | .THM_STATUS => ⟨0x680, 0x0, 0, 1, 0x0, 0, 1⟩
  | .HUB_TCELL => ⟨0x700, 0x8, 0, 16, 0x0, 0, 1⟩
  | .HUB_CHAN => ⟨0x800, 0x8, 1, 64, 0x0, 0, 1⟩
  | .CRUST_STATUS => ⟨0xc00, 0x0, 0, 1, 0x0, 0, 1⟩
  | .CRUST_LATCH => ⟨0xc08, 0x0, 0, 1, 0x0, 0, 1⟩
  | .CRUST_LAST => ⟨0xc10, 0x0, 0, 1, 0x0, 0, 1⟩
  | .CRUST_RAIL => ⟨0xc18, 0x0, 0, 1, 0x0, 0, 1⟩
  | .CRUST_RAIL_UV => ⟨0xc20, 0x0, 0, 1, 0x0, 0, 1⟩
  | .ECC_STATUS => ⟨0xc40, 0x0, 0, 1, 0x0, 0, 1⟩
  | .ECC_COUNT => ⟨0xc48, 0x8, 0, 4, 0x0, 0, 1⟩
  | .RST_STATUS => ⟨0xd00, 0x0, 0, 1, 0x0, 0, 1⟩
  | .RST_CMD => ⟨0xd08, 0x0, 0, 1, 0x0, 0, 1⟩
  | .HUB_CLK_CMD => ⟨0xd10, 0x0, 0, 1, 0x0, 0, 1⟩
  | .HUB_TIME => ⟨0xd18, 0x0, 0, 1, 0x0, 0, 1⟩
  | .HOST_STATUS => ⟨0xe00, 0x0, 0, 1, 0x0, 0, 1⟩
  | .HOST_ERR_A => ⟨0xe08, 0x0, 0, 1, 0x0, 0, 1⟩
  | .HOST_ERR_B => ⟨0xe10, 0x0, 0, 1, 0x0, 0, 1⟩
  | .REC_PERR => ⟨0xe18, 0x0, 0, 1, 0x0, 0, 1⟩
  | .FAC_STATUS => ⟨0xf00, 0x0, 0, 1, 0x0, 0, 1⟩
  | .FAC_ALERT => ⟨0xf08, 0x0, 0, 1, 0x0, 0, 1⟩
  | .HUB_SPLIT_A => ⟨0xfe0, 0x20, 1, 64, 0x0, 0, 1⟩
  | .HUB_SPLIT_B => ⟨0xfe8, 0x20, 1, 64, 0x0, 0, 1⟩
  | .HUB_SPLIT_C => ⟨0xff0, 0x20, 1, 64, 0x0, 0, 1⟩
  | .IMG_CTRL => ⟨0x10000, 0x0, 0, 1, 0x0, 0, 1⟩
  | .IMG_STATUS => ⟨0x10008, 0x0, 0, 1, 0x0, 0, 1⟩
  | .IMG_WADDR => ⟨0x10010, 0x0, 0, 1, 0x0, 0, 1⟩
  | .IMG_WDATA => ⟨0x10018, 0x0, 0, 1, 0x0, 0, 1⟩
  | .IMG_INFO => ⟨0x10020, 0x0, 0, 1, 0x0, 0, 1⟩
  | .IMG_ID => ⟨0x10028, 0x0, 0, 1, 0x0, 0, 1⟩
  | .IMG_FUSE => ⟨0x10030, 0x0, 0, 1, 0x0, 0, 1⟩
  | .IMG_INV => ⟨0x10100, 0x8, 1, 10, 0x0, 0, 1⟩
  | .ID_STATUS => ⟨0x10800, 0x0, 0, 1, 0x0, 0, 1⟩
  | .ID_CERT_CTRL => ⟨0x10808, 0x0, 0, 1, 0x0, 0, 1⟩
  | .ID_CERT_WDATA => ⟨0x10810, 0x0, 0, 1, 0x0, 0, 1⟩
  | .ID_PUBKEY => ⟨0x10840, 0x8, 0, 12, 0x0, 0, 1⟩
  | .ID_MEAS3 => ⟨0x108a0, 0x8, 0, 6, 0x0, 0, 1⟩
  | .EVC_CTRL => ⟨0x20000, 0x0, 0, 1, 0x0, 0, 1⟩
  | .EVC_STATUS => ⟨0x20008, 0x0, 0, 1, 0x0, 0, 1⟩
  | .EVC_ACK => ⟨0x20100, 0x80, 0, 4, 0x0, 0, 1⟩
  | .EVC_EOI => ⟨0x20108, 0x80, 0, 4, 0x0, 0, 1⟩
  | .EVC_TSTAT => ⟨0x20110, 0x80, 0, 4, 0x0, 0, 1⟩
  | .EVC_RECOVER => ⟨0x20118, 0x80, 0, 4, 0x0, 0, 1⟩
  | .EVC_NMI => ⟨0x20120, 0x80, 0, 4, 0x0, 0, 1⟩
  | .EVC_STACK => ⟨0x20140, 0x80, 0, 4, 0x8, 0, 4⟩
  | .EVC_GRP_A => ⟨0x20800, 0x10, 0, 64, 0x0, 0, 1⟩
  | .EVC_GRP_B => ⟨0x20808, 0x10, 0, 64, 0x0, 0, 1⟩
  | .EVC_WAKE => ⟨0x20c00, 0x8, 0, 32, 0x0, 0, 1⟩
  | .EVC_SRC_CFG => ⟨0x21000, 0x10, 0, 1024, 0x0, 0, 1⟩
  | .EVC_SRC_STATE => ⟨0x21008, 0x10, 0, 1024, 0x0, 0, 1⟩
  | .CLK_CTRL => ⟨0x30000, 0x40, 0, 578, 0x0, 0, 1⟩
  | .CLK_STAT => ⟨0x30008, 0x40, 0, 578, 0x0, 0, 1⟩
  | .CLK_MON => ⟨0x30010, 0x40, 0, 578, 0x0, 0, 1⟩
  | .CLK_OSC => ⟨0x30018, 0x40, 0, 578, 0x0, 0, 1⟩
  | .CLK_TB => ⟨0x30020, 0x40, 0, 578, 0x0, 0, 1⟩
  | .LOOP_CTRL => ⟨0x40000, 0x80, 0, 512, 0x0, 0, 1⟩
  | .LOOP_CFG => ⟨0x40008, 0x80, 0, 512, 0x0, 0, 1⟩
  | .LOOP_SP => ⟨0x40010, 0x80, 0, 512, 0x0, 0, 1⟩
  | .LOOP_SP_MAX => ⟨0x40018, 0x80, 0, 512, 0x0, 0, 1⟩
  | .LOOP_OUT_LIM => ⟨0x40020, 0x80, 0, 512, 0x0, 0, 1⟩
  | .LOOP_INT_LIM => ⟨0x40028, 0x80, 0, 512, 0x0, 0, 1⟩
  | .LOOP_DEST => ⟨0x40030, 0x80, 0, 512, 0x0, 0, 1⟩
  | .LOOP_SCHED => ⟨0x40038, 0x80, 0, 512, 0x0, 0, 1⟩
  | .LOOP_VAL => ⟨0x40040, 0x80, 0, 512, 0x0, 0, 1⟩
  | .LOOP_ERR => ⟨0x40048, 0x80, 0, 512, 0x0, 0, 1⟩
  | .LOOP_MANUAL => ⟨0x40050, 0x80, 0, 512, 0x0, 0, 1⟩
  | .LOOP_STAT => ⟨0x40058, 0x80, 0, 512, 0x0, 0, 1⟩
  | .LOOP_LAT => ⟨0x40060, 0x80, 0, 512, 0x0, 0, 1⟩
  | .LOOP_LATE => ⟨0x40068, 0x80, 0, 512, 0x0, 0, 1⟩
  | .LOOP_COUNT => ⟨0x40070, 0x80, 0, 512, 0x0, 0, 1⟩
  | .GT_A => ⟨0x50000, 0x200, 0, 128, 0x10, 0, 32⟩
  | .GT_B => ⟨0x50008, 0x200, 0, 128, 0x10, 0, 32⟩
  | .ENG_STATUS => ⟨0x60000, 0x40, 0, 136, 0x0, 0, 1⟩
  | .STR_W0 => ⟨0x80000, 0x4000, 0, 16, 0x40, 0, 256⟩
  | .STR_W1 => ⟨0x80008, 0x4000, 0, 16, 0x40, 0, 256⟩
  | .STR_W2 => ⟨0x80010, 0x4000, 0, 16, 0x40, 0, 256⟩
  | .STR_W3 => ⟨0x80018, 0x4000, 0, 16, 0x40, 0, 256⟩
  | .STR_W4 => ⟨0x80020, 0x4000, 0, 16, 0x40, 0, 256⟩
  | .STR_W5 => ⟨0x80028, 0x4000, 0, 16, 0x40, 0, 256⟩
  | .STR_W6 => ⟨0x80030, 0x4000, 0, 16, 0x40, 0, 256⟩
  | .STR_W7 => ⟨0x80038, 0x4000, 0, 16, 0x40, 0, 256⟩
  | .RAIL_STATE => ⟨0xc0000, 0x400, 0, 32, 0x0, 0, 1⟩
  | .RAIL_VSEL => ⟨0xc0008, 0x400, 0, 32, 0x0, 0, 1⟩
  | .RAIL_LIM => ⟨0xc0010, 0x400, 0, 32, 0x0, 0, 1⟩
  | .RAIL_SYNC => ⟨0xc0018, 0x400, 0, 32, 0x0, 0, 1⟩
  | .RAIL_COMP_A => ⟨0xc0020, 0x400, 0, 32, 0x0, 0, 1⟩
  | .RAIL_COMP_B => ⟨0xc0028, 0x400, 0, 32, 0x0, 0, 1⟩
  | .RAIL_LOOP => ⟨0xc0030, 0x400, 0, 32, 0x0, 0, 1⟩
  | .RAIL_PCM => ⟨0xc0038, 0x400, 0, 32, 0x0, 0, 1⟩
  | .RAIL_SHED => ⟨0xc0040, 0x400, 0, 32, 0x0, 0, 1⟩
  | .RAIL_SHED_STAT => ⟨0xc0048, 0x400, 0, 32, 0x0, 0, 1⟩
  | .RAIL_PH => ⟨0xc0050, 0x400, 0, 32, 0x0, 0, 1⟩
  | .RAIL_VSLOT => ⟨0xc0080, 0x400, 0, 32, 0x8, 0, 8⟩
  | .RAIL_FUSE_STATUS => ⟨0xc0300, 0x400, 0, 32, 0x0, 0, 1⟩
  | .RAIL_MEAS => ⟨0xc0308, 0x400, 0, 32, 0x0, 0, 1⟩
  | .RAIL_ESTM => ⟨0xc0310, 0x400, 0, 32, 0x0, 0, 1⟩
  | .RAIL_FUSED => ⟨0xc0318, 0x400, 0, 32, 0x0, 0, 1⟩
  | .RAIL_THETA_LO => ⟨0xc0320, 0x400, 0, 32, 0x0, 0, 1⟩
  | .RAIL_THETA_HI => ⟨0xc0328, 0x400, 0, 32, 0x0, 0, 1⟩
  | .RAIL_KNEAD => ⟨0xc0330, 0x400, 0, 32, 0x0, 0, 1⟩
  | .RAIL_KNEAD_RES => ⟨0xc0338, 0x400, 0, 32, 0x0, 0, 1⟩
  | .RAIL_RISE => ⟨0xc0340, 0x400, 0, 32, 0x0, 0, 1⟩
  | .RAIL_RISE_EXPO => ⟨0xc0348, 0x400, 0, 32, 0x0, 0, 1⟩
  | .RAIL_SHAPE_PRED => ⟨0xc0350, 0x400, 0, 32, 0x0, 0, 1⟩
  | .PH_CTRL => ⟨0xd0000, 0x100, 0, 256, 0x0, 0, 1⟩
  | .PH_STAT => ⟨0xd0008, 0x100, 0, 256, 0x0, 0, 1⟩
  | .PH_SAMPLE => ⟨0xd0010, 0x100, 0, 256, 0x0, 0, 1⟩
  | .PH_CAL => ⟨0xd0018, 0x100, 0, 256, 0x0, 0, 1⟩
  | .TS_CTRL => ⟨0xe0000, 0x40, 0, 1024, 0x0, 0, 1⟩
  | .TS_VAL => ⟨0xe0008, 0x40, 0, 1024, 0x0, 0, 1⟩
  | .TS_CAL => ⟨0xe0010, 0x40, 0, 1024, 0x0, 0, 1⟩
  | .TS_THR => ⟨0xe0018, 0x40, 0, 1024, 0x0, 0, 1⟩
  | .TS_STAT => ⟨0xe0020, 0x40, 0, 1024, 0x0, 0, 1⟩
  | .TS_HYST => ⟨0xe0028, 0x40, 0, 1024, 0x0, 0, 1⟩
  | .DD_CTRL => ⟨0xf0000, 0x40, 0, 512, 0x0, 0, 1⟩
  | .DD_MAP => ⟨0xf0008, 0x40, 0, 512, 0x0, 0, 1⟩
  | .DD_CAL => ⟨0xf0010, 0x40, 0, 512, 0x0, 0, 1⟩
  | .DD_THR => ⟨0xf0018, 0x40, 0, 512, 0x0, 0, 1⟩
  | .DD_STAT => ⟨0xf0020, 0x40, 0, 512, 0x0, 0, 1⟩
  | .NODE_ID => ⟨0x100000, 0x1000, 0, 64, 0x0, 0, 1⟩
  | .NODE_STATUS => ⟨0x100008, 0x1000, 0, 64, 0x0, 0, 1⟩
  | .NODE_BUDGET => ⟨0x1002e0, 0x1000, 0, 64, 0x0, 0, 1⟩
  | .NODE_SPLIT_STAT => ⟨0x1002e8, 0x1000, 0, 64, 0x0, 0, 1⟩
  | .NODE_SPLIT_A => ⟨0x1002e0, 0x1000, 0, 64, 0x20, 1, 64⟩
  | .NODE_SPLIT_B => ⟨0x1002e8, 0x1000, 0, 64, 0x20, 1, 64⟩
  | .NODE_SPLIT_C => ⟨0x1002f0, 0x1000, 0, 64, 0x20, 1, 64⟩
  | .NODE_CHAN => ⟨0x100c00, 0x1000, 0, 64, 0x8, 0, 65⟩
  | .LEAF_ID => ⟨0x400000, 0x1000, 0, 512, 0x0, 0, 1⟩
  | .LEAF_EST_STATUS => ⟨0x400200, 0x1000, 0, 512, 0x0, 0, 1⟩
  | .LEAF_EST => ⟨0x400208, 0x1000, 0, 512, 0x8, 0, 4⟩
  | .LEAF_THETA_LO => ⟨0x400240, 0x1000, 0, 512, 0x10, 0, 4⟩
  | .LEAF_THETA_HI => ⟨0x400248, 0x1000, 0, 512, 0x10, 0, 4⟩
  | .LEAF_VREF => ⟨0x400280, 0x1000, 0, 512, 0x0, 0, 1⟩
  | .LEAF_BUDGET => ⟨0x400400, 0x1000, 0, 512, 0x0, 0, 1⟩
  | .LEAF_RAIL_BUDGET => ⟨0x400408, 0x1000, 0, 512, 0x8, 0, 4⟩
  | .LEAF_CONV => ⟨0x400428, 0x1000, 0, 512, 0x0, 0, 1⟩
  | .LEAF_SHED => ⟨0x400430, 0x1000, 0, 512, 0x0, 0, 1⟩
  | .LEAF_PART => ⟨0x400440, 0x1000, 0, 512, 0x8, 0, 4⟩
  | .LEAF_GATE => ⟨0x400500, 0x1000, 0, 512, 0x8, 0, 32⟩
  | .LEAF_CORE => ⟨0x400600, 0x1000, 0, 512, 0x8, 0, 8⟩
  | .LEAF_LSYNC => ⟨0x400700, 0x1000, 0, 512, 0x8, 0, 8⟩
  | .LEAF_SYNC_STAT => ⟨0x400740, 0x1000, 0, 512, 0x0, 0, 1⟩
  | .LEAF_SYNC_EPOCH => ⟨0x400748, 0x1000, 0, 512, 0x0, 0, 1⟩
  | .LEAF_SYNC_WAIT => ⟨0x400800, 0x1000, 0, 512, 0x8, 0, 32⟩
  | .LEAF_SYNC_LAST => ⟨0x400900, 0x1000, 0, 512, 0x8, 0, 32⟩
  | .LEAF_SCORE => ⟨0x400a00, 0x1000, 0, 512, 0x0, 0, 1⟩
  | .LEAF_PROOF => ⟨0x400a08, 0x1000, 0, 512, 0x0, 0, 1⟩
  | .LEAF_SCORE_CNT => ⟨0x400a10, 0x1000, 0, 512, 0x0, 0, 1⟩
  | .LEAF_CREDIT => ⟨0x400a40, 0x1000, 0, 512, 0x8, 0, 32⟩
  | .LEAF_THERM => ⟨0x400b40, 0x1000, 0, 512, 0x0, 0, 1⟩
  | .LEAF_THR_REQ => ⟨0x400b48, 0x1000, 0, 512, 0x0, 0, 1⟩
  | .LEAF_STACK => ⟨0x400b50, 0x1000, 0, 512, 0x8, 0, 4⟩
  | .LEAF_TCELL => ⟨0x400b80, 0x1000, 0, 512, 0x8, 0, 16⟩
  | .LEAF_CHAN => ⟨0x400c00, 0x1000, 0, 512, 0x0, 0, 1⟩
  | .LEAF_BRAKE => ⟨0x400d00, 0x1000, 0, 512, 0x0, 0, 1⟩
  | .LEAF_CNT_SEL => ⟨0x400e00, 0x1000, 0, 512, 0x8, 0, 8⟩
  | .LEAF_CNT_LATCH => ⟨0x400e40, 0x1000, 0, 512, 0x0, 0, 1⟩
  | .SYNC_OBJ_A => ⟨0x800000, 0x10, 0, 16384, 0x0, 0, 1⟩
  | .SYNC_OBJ_B => ⟨0x800008, 0x10, 0, 16384, 0x0, 0, 1⟩
  | .WATCH_A => ⟨0xc00000, 0x10, 0, 65536, 0x0, 0, 1⟩
  | .WATCH_B => ⟨0xc00008, 0x10, 0, 65536, 0x0, 0, 1⟩
  | .CNT_STATUS => ⟨0x1000000, 0x0, 0, 1, 0x0, 0, 1⟩
  | .CNT_LATCH => ⟨0x1000008, 0x0, 0, 1, 0x0, 0, 1⟩
  | .CNT_GLOBAL => ⟨0x1001000, 0x8, 0, 512, 0x0, 0, 1⟩
  | .CNT_CTX => ⟨0x1010000, 0x200, 0, 16, 0x8, 0, 64⟩
  | .CNT_UA => ⟨0x1012000, 0x8, 0, 64, 0x0, 0, 1⟩
  | .CNT_CTX_E => ⟨0x1013000, 0x8, 0, 16, 0x0, 0, 1⟩
  | .REC_RING_A => ⟨0x1020000, 0x20, 0, 4, 0x0, 0, 1⟩
  | .REC_RING_B => ⟨0x1020008, 0x20, 0, 4, 0x0, 0, 1⟩
  | .REC_RING_C => ⟨0x1020010, 0x20, 0, 4, 0x0, 0, 1⟩
  | .REC_ROUTE => ⟨0x1020100, 0x0, 0, 1, 0x0, 0, 1⟩
  | .REC_STATUS => ⟨0x1020108, 0x0, 0, 1, 0x0, 0, 1⟩
  | .TRC_CTRL => ⟨0x1030000, 0x0, 0, 1, 0x0, 0, 1⟩
  | .TRC_STATUS => ⟨0x1030008, 0x0, 0, 1, 0x0, 0, 1⟩
  | .TRC_PTR => ⟨0x1030010, 0x0, 0, 1, 0x0, 0, 1⟩
  | .TRC_LOSS => ⟨0x1030020, 0x8, 0, 8, 0x0, 0, 1⟩
  | .TRC_BUF => ⟨0x1040000, 0x8, 0, 32768, 0x0, 0, 1⟩
  | .DXL_STATUS => ⟨0x1400000, 0x0, 0, 1, 0x0, 0, 1⟩
  | .DXL_TIME => ⟨0x1400008, 0x0, 0, 1, 0x0, 0, 1⟩
  | .DXL_TERR => ⟨0x1400010, 0x0, 0, 1, 0x0, 0, 1⟩
  | .DXL_LEASE => ⟨0x1400018, 0x0, 0, 1, 0x0, 0, 1⟩
  | .DXL_OFFER => ⟨0x1400020, 0x0, 0, 1, 0x0, 0, 1⟩
  | .DXL_JOB => ⟨0x1400100, 0x8, 0, 16, 0x0, 0, 1⟩
  | .DXL_PORT_A => ⟨0x1400200, 0x20, 0, 8, 0x0, 0, 1⟩
  | .DXL_PORT_B => ⟨0x1400208, 0x20, 0, 8, 0x0, 0, 1⟩
  | .DXL_PORT_C => ⟨0x1400210, 0x20, 0, 8, 0x0, 0, 1⟩
  | .DXL_PORT_D => ⟨0x1400218, 0x20, 0, 8, 0x0, 0, 1⟩
  | .MIR_STATUS => ⟨0x1408000, 0x0, 0, 1, 0x0, 0, 1⟩
  | .MIR_CMD => ⟨0x1408008, 0x0, 0, 1, 0x0, 0, 1⟩
  | .MIR_LAST => ⟨0x1408010, 0x0, 0, 1, 0x0, 0, 1⟩
  | .MIR_LAG => ⟨0x1408018, 0x0, 0, 1, 0x0, 0, 1⟩
  | .CTX_SYNC_OP => ⟨0x2000000, 0x10000, 0, 16, 0x0, 0, 1⟩
  | .CTX_SYNC_STAT => ⟨0x2000008, 0x10000, 0, 16, 0x0, 0, 1⟩
  | .CTX_LATCH => ⟨0x2000010, 0x10000, 0, 16, 0x0, 0, 1⟩
  | .CTX_LATCH_STAT => ⟨0x2000018, 0x10000, 0, 16, 0x0, 0, 1⟩
  | .CTX_CNT => ⟨0x2001000, 0x10000, 0, 16, 0x8, 0, 63⟩
  | .CTX_ENERGY => ⟨0x2001200, 0x10000, 0, 16, 0x0, 0, 1⟩
  | .CTX_LSNAP => ⟨0x2001400, 0x10000, 0, 16, 0x8, 0, 40⟩
  | .CTX_SYNC_OBJ_A => ⟨0x2008000, 0x10000, 0, 16, 0x10, 0, 2048⟩
  | .CTX_SYNC_OBJ_B => ⟨0x2008008, 0x10000, 0, 16, 0x10, 0, 2048⟩

/-- The fields of each register, in table order. -/
def Reg.rows : Reg → List FieldRow
  | .HUB_VERSION => [⟨"MAJOR", 0, 8, .RO⟩, ⟨"MINOR", 8, 8, .RO⟩, ⟨"PATCH", 16, 16, .RO⟩, ⟨"FAMILY", 32, 8, .RO⟩, ⟨"BLOCK", 40, 8, .RO⟩]
  | .HUB_CAP => [⟨"MIRROR", 0, 1, .RO⟩, ⟨"TRACE", 1, 1, .RO⟩, ⟨"RECORD", 2, 1, .RO⟩, ⟨"DXL_PORTS", 8, 4, .RO⟩, ⟨"HUB_SITES", 16, 7, .RO⟩, ⟨"HUB_TCELLS", 24, 5, .RO⟩]
  | .HUB_LIMITS => [⟨"CTX_SLOTS", 0, 8, .RO⟩, ⟨"TARGETS", 8, 8, .RO⟩, ⟨"HUB_ENGINES", 16, 8, .RO⟩, ⟨"MAX_LEVELS", 24, 8, .RO⟩, ⟨"LOOPS", 32, 16, .RO⟩, ⟨"EVT_SOURCES", 48, 16, .RO⟩]
  | .HUB_PKG_STATE => [⟨"STATE", 0, 4, .RO⟩, ⟨"PREV", 4, 4, .RO⟩, ⟨"CAUSE", 8, 8, .RO⟩, ⟨"BADCMD", 16, 1, .W1C⟩, ⟨"ABORTED", 17, 1, .W1C⟩, ⟨"HOLD_TIMEOUT", 18, 1, .W1C⟩, ⟨"TRIPCOUNT", 24, 8, .RO⟩, ⟨"ENTRY_TIME", 32, 32, .RO⟩]
  | .HUB_PKG_CMD => [⟨"CMD", 0, 4, .WO⟩]
  | .HUB_BUDGET => [⟨"AVG", 0, 32, .RO⟩, ⟨"FAST", 32, 32, .RO⟩]
  | .HUB_CAPS => [⟨"EDP_EXH", 0, 1, .RO⟩, ⟨"SHORT", 1, 1, .W1C⟩, ⟨"LEVEL_MISS", 2, 1, .W1C⟩, ⟨"EXC_CNT", 16, 14, .RO⟩, ⟨"SURPLUS", 32, 32, .RO⟩]
  | .HUB_MODE => [⟨"MODE", 0, 2, .RO⟩, ⟨"REQ", 2, 2, .RW⟩, ⟨"PENDING", 4, 1, .RO⟩]
  | .STR_MARK => [⟨"CTX", 0, 4, .WO⟩, ⟨"PHASE", 4, 8, .WO⟩, ⟨"OP", 12, 2, .WO⟩]
  | .STR_CMD => [⟨"CTX", 0, 4, .WO⟩, ⟨"CMD", 4, 4, .WO⟩, ⟨"PHASE", 8, 8, .WO⟩]
  | .STR_STATUS => [⟨"BUSY", 0, 1, .RO⟩, ⟨"BUSY_CTX", 1, 4, .RO⟩, ⟨"ECC_INV", 5, 1, .W1C⟩, ⟨"ECC_COUNT", 16, 16, .RO⟩, ⟨"MARKS", 32, 32, .RO⟩]
  | .STR_CTX => [⟨"PHASE", 0, 8, .RO⟩, ⟨"IN_PHASE", 8, 1, .RO⟩, ⟨"LEARN", 9, 1, .RW⟩, ⟨"RETAIN", 10, 1, .RW⟩, ⟨"AUTO_PART", 11, 1, .RW⟩, ⟨"PRED_VALID", 12, 1, .RO⟩, ⟨"PRED", 16, 8, .RO⟩, ⟨"QUARTERS", 32, 32, .RO⟩]
  | .SYNC_CMD => [⟨"OP", 0, 5, .WO⟩, ⟨"OBJ", 8, 14, .WO⟩, ⟨"ARG0", 24, 16, .WO⟩, ⟨"ARG1", 40, 16, .WO⟩, ⟨"ARG2", 56, 8, .WO⟩]
  | .SYNC_STATUS => [⟨"SWITCH_BUSY", 0, 1, .RO⟩, ⟨"SWITCH_CTX", 1, 4, .RO⟩, ⟨"WATCH_FULL", 5, 1, .W1C⟩, ⟨"ABSENT", 16, 16, .RO⟩, ⟨"STALE", 32, 16, .RO⟩, ⟨"OVERRUNS", 48, 16, .RO⟩]
  | .SYNC_CTX => [⟨"OBJ_BASE", 0, 14, .RO⟩, ⟨"OBJ_COUNT", 14, 12, .RO⟩, ⟨"CEPOCH", 26, 4, .RO⟩, ⟨"SWITCHING", 30, 1, .RO⟩, ⟨"WATCH_BASE", 32, 16, .RO⟩]
  | .SYNC_CTXW => [⟨"WATCH_COUNT", 0, 17, .RO⟩, ⟨"WATCH_USED", 32, 17, .RO⟩]
  | .SHP_CTRL => [⟨"RISE_EN", 0, 1, .RW⟩, ⟨"PROOF_EN", 1, 1, .RW⟩, ⟨"ARM_FULL", 2, 1, .W1C⟩]
  | .SHP_STATUS => [⟨"SHAPED", 0, 16, .RO⟩, ⟨"RISE_REQS", 16, 16, .RO⟩, ⟨"RISE_CANCEL", 32, 16, .RO⟩, ⟨"RISE_TIMEOUT", 48, 16, .RO⟩]
  | .SHP_LAST => [⟨"OBJ", 0, 14, .RO⟩, ⟨"SPAN", 14, 1, .RO⟩, ⟨"WM1", 16, 4, .RO⟩, ⟨"GAPC", 20, 4, .RO⟩, ⟨"ROT", 24, 10, .RO⟩]
  | .SHP_LAST_I => [⟨"DI_MAX", 0, 32, .RO⟩, ⟨"RAIL", 32, 5, .RO⟩]
  | .THM_STATUS => [⟨"HUB_TEMP", 0, 16, .RO⟩, ⟨"HUB_BAND", 16, 3, .RO⟩, ⟨"HUB_LEVEL", 19, 2, .RO⟩, ⟨"CAL_BUSY", 21, 1, .RO⟩, ⟨"CAL_PASSES", 32, 16, .RO⟩, ⟨"BAD_SITES", 48, 16, .RO⟩]
  | .HUB_TCELL => [⟨"DIV", 0, 2, .RO⟩, ⟨"FLOOR", 2, 1, .RO⟩, ⟨"GOV", 3, 1, .RO⟩, ⟨"SKIP", 16, 16, .RO⟩, ⟨"THR_SKIP", 32, 16, .RO⟩, ⟨"THR_DIV", 48, 2, .RO⟩, ⟨"THR_ACTIVE", 50, 1, .RO⟩, ⟨"GOV_ACTIVE", 51, 1, .RO⟩, ⟨"MODE_ACTIVE", 52, 1, .RO⟩]
  | .HUB_CHAN => [⟨"STATE", 0, 3, .RO⟩, ⟨"FAR_ALIVE", 3, 1, .RO⟩, ⟨"PRESENT", 4, 1, .RO⟩, ⟨"SILENT", 5, 1, .W1C⟩, ⟨"FENCE_TO", 6, 1, .W1C⟩, ⟨"PENDING", 8, 8, .RO⟩, ⟨"EPOCH", 16, 16, .RO⟩, ⟨"STALE_DROPS", 32, 16, .RO⟩, ⟨"ABSENT_REPLIES", 48, 16, .RO⟩]
  | .CRUST_STATUS => [⟨"STOP", 0, 1, .RO⟩, ⟨"THERMTRIP", 1, 1, .RO⟩, ⟨"BRAKE_ACTIVE", 2, 1, .RO⟩, ⟨"UV_HALTED", 3, 1, .W1C⟩, ⟨"COOLANT_OK", 4, 1, .RO⟩, ⟨"PWR_BRAKE_N", 5, 1, .RO⟩]
  | .CRUST_LATCH => [⟨"OC", 0, 1, .W1C⟩, ⟨"OV", 1, 1, .W1C⟩, ⟨"UV", 2, 1, .W1C⟩, ⟨"THERMAL", 3, 1, .W1C⟩, ⟨"COOLANT", 4, 1, .W1C⟩, ⟨"CLOCK", 5, 1, .W1C⟩, ⟨"BRAKE", 6, 1, .W1C⟩]
  | .CRUST_LAST => [⟨"CLASS", 0, 8, .RO⟩, ⟨"STAMP", 16, 48, .RO⟩]
  | .CRUST_RAIL => [⟨"OC", 0, 32, .W1C⟩, ⟨"OV", 32, 32, .W1C⟩]
  | .CRUST_RAIL_UV => [⟨"UV", 0, 32, .W1C⟩]
  | .ECC_STATUS => [⟨"UNCORR", 0, 4, .W1C⟩, ⟨"POS", 8, 24, .RO⟩, ⟨"STORE", 32, 2, .RO⟩]
  | .ECC_COUNT => [⟨"CORR", 0, 32, .RO⟩, ⟨"UNCORR", 32, 16, .RO⟩]
  | .RST_STATUS => [⟨"LAST", 0, 2, .RO⟩, ⟨"BOOT_VSEL", 8, 12, .RO⟩, ⟨"WARM", 32, 16, .RO⟩]
  | .RST_CMD => [⟨"CMD", 0, 2, .WO⟩, ⟨"DOMAIN", 16, 16, .WO⟩]
  | .HUB_CLK_CMD => [⟨"CMD", 0, 2, .WO⟩, ⟨"PENDING", 16, 10, .RO⟩]
  | .HUB_TIME => [⟨"TIME", 0, 64, .RO⟩]
  | .HOST_STATUS => [⟨"WRITES_LOST", 0, 16, .RO⟩, ⟨"PERR_SEEN", 16, 1, .W1C⟩, ⟨"RSPTO_SEEN", 17, 1, .W1C⟩, ⟨"PQ_DEPTH", 18, 6, .RO⟩, ⟨"OUTSTANDING", 24, 6, .RO⟩, ⟨"POSTED", 32, 32, .RO⟩]
  | .HOST_ERR_A => [⟨"ADDR", 0, 48, .RO⟩, ⟨"STATUS", 48, 8, .RO⟩, ⟨"WRITE", 56, 1, .RO⟩, ⟨"POSTED", 57, 1, .RO⟩, ⟨"VALID", 58, 1, .RO⟩]
  | .HOST_ERR_B => [⟨"INIT", 0, 16, .RO⟩, ⟨"TIME", 32, 32, .RO⟩]
  | .REC_PERR => [⟨"RING", 0, 2, .RO⟩, ⟨"FAULT_SEEN", 2, 1, .W1C⟩, ⟨"ADDR", 16, 48, .RO⟩]
  | .FAC_STATUS => [⟨"MODE", 0, 1, .RO⟩, ⟨"ADDR", 1, 7, .RO⟩, ⟨"DA_VALID", 8, 1, .RO⟩, ⟨"DYN_ADDR", 9, 7, .RO⟩, ⟨"EID", 16, 8, .RO⟩, ⟨"SESSIONS", 24, 2, .RO⟩, ⟨"ERRORS", 32, 16, .RO⟩]
  | .FAC_ALERT => [⟨"PEND", 0, 8, .W1C⟩, ⟨"EN", 8, 8, .RW⟩, ⟨"SW", 16, 1, .W1S⟩, ⟨"LEVEL", 17, 1, .RO⟩]
  | .HUB_SPLIT_A => [⟨"NEED", 0, 32, .RO⟩, ⟨"WEIGHT", 32, 16, .RO⟩, ⟨"UP", 48, 1, .RO⟩]
  | .HUB_SPLIT_B => [⟨"FLOOR", 0, 32, .RO⟩, ⟨"CEIL", 32, 32, .RO⟩]
  | .HUB_SPLIT_C => [⟨"GRANT_AVG", 0, 32, .RO⟩, ⟨"GRANT_FAST", 32, 32, .RO⟩]
  | .IMG_CTRL => [⟨"CMD", 0, 4, .WO⟩]
  | .IMG_STATUS => [⟨"LOADER", 0, 3, .RO⟩, ⟨"OWNER_FAC", 3, 1, .RO⟩, ⟨"ACTIVE_BANK", 4, 1, .RO⟩, ⟨"FALLBACK", 5, 1, .RO⟩, ⟨"FUSING", 6, 1, .RO⟩, ⟨"PARAM_ECC", 7, 1, .W1C⟩, ⟨"STATUS", 8, 8, .RO⟩, ⟨"DETAIL", 16, 8, .RO⟩, ⟨"STEP", 24, 4, .RO⟩, ⟨"FAIL_OFFSET", 32, 32, .RO⟩]
  | .IMG_WADDR => [⟨"PTR", 0, 20, .RW⟩]
  | .IMG_WDATA => [⟨"DATA", 0, 64, .WO⟩]
  | .IMG_INFO => [⟨"SVN", 0, 8, .RO⟩, ⟨"MINOR", 8, 8, .RO⟩, ⟨"PARAM_SEQ", 32, 32, .RO⟩]
  | .IMG_ID => [⟨"IMAGE_ID", 0, 64, .RO⟩]
  | .IMG_FUSE => [⟨"FUSED_SVN", 0, 8, .RO⟩]
  | .IMG_INV => [⟨"PRESENT", 0, 16, .RO⟩, ⟨"DISABLED", 16, 16, .RO⟩]
  | .ID_STATUS => [⟨"KEY_READY", 0, 1, .RO⟩, ⟨"CERT_VALID", 1, 1, .RO⟩, ⟨"FILLING", 2, 1, .RO⟩, ⟨"CERT_LEN", 16, 13, .RO⟩]
  | .ID_CERT_CTRL => [⟨"CMD", 0, 2, .WO⟩, ⟨"LEN", 16, 13, .WO⟩]
  | .ID_CERT_WDATA => [⟨"DATA", 0, 64, .WO⟩]
  | .ID_PUBKEY => [⟨"KEY", 0, 64, .RO⟩]
  | .ID_MEAS3 => [⟨"D", 0, 64, .RO⟩]
  | .EVC_CTRL => [⟨"PRIGROUP", 0, 3, .RW⟩]
  | .EVC_STATUS => [⟨"UNMAPPED", 0, 16, .RO⟩, ⟨"WAKE_IGN", 16, 16, .RO⟩, ⟨"PG_PEND", 32, 1, .RO⟩]
  | .EVC_ACK => [⟨"SRC", 0, 10, .RO⟩, ⟨"VALID", 16, 1, .RO⟩, ⟨"PRI", 24, 8, .RO⟩]
  | .EVC_EOI => [⟨"SRC", 0, 10, .WO⟩]
  | .EVC_TSTAT => [⟨"DEPTH", 0, 5, .RO⟩, ⟨"FROZEN", 5, 1, .RO⟩, ⟨"FULL", 6, 1, .RO⟩, ⟨"IRQ", 7, 1, .RO⟩, ⟨"NMI", 8, 1, .RO⟩, ⟨"FAULT_SRC", 16, 10, .RO⟩, ⟨"NESTFAULTS", 32, 16, .RO⟩]
  | .EVC_RECOVER => [⟨"CMD", 0, 2, .WO⟩, ⟨"SRC", 16, 10, .WO⟩]
  | .EVC_NMI => [⟨"SRC", 0, 10, .RO⟩, ⟨"VALID", 16, 1, .RO⟩]
  | .EVC_STACK => [⟨"ENTRY0", 0, 10, .RO⟩, ⟨"ENTRY1", 16, 10, .RO⟩, ⟨"ENTRY2", 32, 10, .RO⟩, ⟨"ENTRY3", 48, 10, .RO⟩]
  | .EVC_GRP_A => [⟨"CNT_TH", 0, 8, .RW⟩, ⟨"TIME_TH", 16, 16, .RW⟩, ⟨"OPEN", 32, 1, .RO⟩, ⟨"COUNT", 40, 8, .RO⟩, ⟨"FIRES", 48, 16, .RO⟩]
  | .EVC_GRP_B => [⟨"OPEN_TIME", 0, 64, .RO⟩]
  | .EVC_WAKE => [⟨"SOURCE", 0, 10, .RW⟩, ⟨"EN", 16, 1, .RW⟩, ⟨"SEEN", 17, 1, .W1C⟩, ⟨"IGNORED", 18, 1, .W1C⟩]
  | .EVC_SRC_CFG => [⟨"EN", 0, 1, .RW⟩, ⟨"TARGET", 1, 2, .RW⟩, ⟨"PRI", 8, 8, .RW⟩, ⟨"NMI_MASK", 16, 4, .RW⟩, ⟨"GROUP", 24, 6, .RW⟩, ⟨"GRP_EN", 30, 1, .RW⟩, ⟨"CODE", 32, 8, .RO⟩, ⟨"INSTANCE", 48, 16, .RO⟩]
  | .EVC_SRC_STATE => [⟨"LEVEL", 0, 1, .RO⟩, ⟨"LATCH", 1, 1, .W1C⟩, ⟨"PEND", 2, 1, .RO⟩, ⟨"ACTIVE", 3, 1, .RO⟩, ⟨"HELD", 4, 1, .RO⟩, ⟨"SETPEND", 5, 1, .WO⟩, ⟨"CLRPEND", 6, 1, .WO⟩, ⟨"OCC", 16, 16, .RO⟩, ⟨"LAST_TIME", 32, 32, .RO⟩]
  | .CLK_CTRL => [⟨"SEL", 0, 1, .RW⟩, ⟨"RECAL", 1, 1, .WO⟩]
  | .CLK_STAT => [⟨"PLL_RUN", 0, 1, .RO⟩, ⟨"OSC_RUN", 1, 1, .RO⟩, ⟨"PLL_LOCK", 2, 1, .RO⟩, ⟨"ON_OSC", 3, 1, .RO⟩, ⟨"MUX_BUSY", 4, 1, .RO⟩, ⟨"MON_GOOD", 5, 1, .RO⟩, ⟨"FAIL_SEEN", 6, 1, .W1C⟩, ⟨"MUX_HUNG", 7, 1, .W1C⟩, ⟨"FAIL_CAUSE", 8, 2, .RO⟩, ⟨"TB_STEP", 10, 1, .W1C⟩, ⟨"TB_ERR", 11, 1, .W1C⟩, ⟨"FAILS", 16, 16, .RO⟩, ⟨"FAIL_TIME", 32, 32, .RO⟩]
  | .CLK_MON => [⟨"LAST_CNT", 0, 16, .RO⟩, ⟨"WIN", 16, 16, .RO⟩, ⟨"GAP", 32, 16, .RO⟩, ⟨"GOOD_WIN", 48, 8, .RO⟩]
  | .CLK_OSC => [⟨"OSC_KHZ", 0, 24, .RO⟩, ⟨"CAL_VALID", 24, 1, .RO⟩, ⟨"INC", 32, 32, .RO⟩]
  | .CLK_TB => [⟨"ERR", 0, 32, .RO⟩, ⟨"DELAY", 32, 8, .RO⟩]
  | .LOOP_CTRL => [⟨"STATE", 0, 2, .RO⟩, ⟨"CMD", 4, 2, .WO⟩, ⟨"LDR_HOLD", 8, 1, .RO⟩, ⟨"SLEEP_RUN", 9, 1, .RO⟩]
  | .LOOP_CFG => [⟨"IN_KIND", 0, 3, .RWL⟩, ⟨"IN_SEL", 3, 1, .RWL⟩, ⟨"LIMIT_KIND", 4, 3, .RWL⟩, ⟨"GTABLE", 8, 7, .RWL⟩, ⟨"SP_LINK_EN", 15, 1, .RWL⟩, ⟨"SP_LINK", 16, 9, .RWL⟩, ⟨"IN_INDEX", 32, 16, .RWL⟩]
  | .LOOP_SP => [⟨"SP", 0, 32, .RW⟩, ⟨"EFF_SP", 32, 32, .RO⟩]
  | .LOOP_SP_MAX => [⟨"SP_MAX", 0, 32, .RWL⟩]
  | .LOOP_OUT_LIM => [⟨"OUT_MIN", 0, 32, .RWL⟩, ⟨"OUT_MAX", 32, 32, .RWL⟩]
  | .LOOP_INT_LIM => [⟨"INT_MIN", 0, 32, .RWL⟩, ⟨"INT_MAX", 32, 32, .RWL⟩]
  | .LOOP_DEST => [⟨"DEST_KIND", 0, 2, .RWL⟩, ⟨"BCLASS", 2, 2, .RWL⟩, ⟨"DEST", 16, 16, .RWL⟩]
  | .LOOP_SCHED => [⟨"ENGINE", 0, 3, .RO⟩, ⟨"PCLASS", 4, 2, .RO⟩, ⟨"HOST", 16, 16, .RO⟩, ⟨"PHASE", 32, 32, .RO⟩]
  | .LOOP_VAL => [⟨"I", 0, 32, .RO⟩, ⟨"U", 32, 32, .RO⟩]
  | .LOOP_ERR => [⟨"E", 0, 32, .RO⟩, ⟨"Y", 32, 32, .RO⟩]
  | .LOOP_MANUAL => [⟨"MANUAL", 0, 32, .RWL⟩, ⟨"MAN_EN", 32, 1, .RWL⟩]
  | .LOOP_STAT => [⟨"SAT_P", 0, 1, .W1C⟩, ⟨"SAT_I", 1, 1, .W1C⟩, ⟨"SAT_OUT", 2, 1, .W1C⟩, ⟨"WR_REJ", 3, 1, .W1C⟩, ⟨"SLIP", 4, 1, .W1C⟩, ⟨"DEST_ABSENT", 5, 1, .W1C⟩, ⟨"OVERRIDDEN", 8, 1, .RO⟩, ⟨"CLAMP_HI", 9, 1, .RO⟩, ⟨"CLAMP_LO", 10, 1, .RO⟩, ⟨"BAND", 16, 5, .RO⟩]
  | .LOOP_LAT => [⟨"COMMIT_LAT", 0, 16, .RO⟩, ⟨"COMMIT_MAX", 16, 16, .RO⟩, ⟨"APPLIED", 32, 32, .RO⟩]
  | .LOOP_LATE => [⟨"LATE", 0, 32, .RO⟩, ⟨"MAX_LATE", 32, 32, .RO⟩]
  | .LOOP_COUNT => [⟨"TICKS", 0, 32, .RO⟩, ⟨"SLIPS", 32, 16, .RO⟩, ⟨"MISSED", 48, 16, .RO⟩]
  | .GT_A => [⟨"EDGE", 0, 32, .RWL⟩, ⟨"KP_M", 32, 32, .RWL⟩]
  | .GT_B => [⟨"KI_M", 0, 32, .RWL⟩, ⟨"KP_S", 32, 5, .RWL⟩, ⟨"KI_S", 40, 5, .RWL⟩]
  | .ENG_STATUS => [⟨"LOOPS", 0, 7, .RO⟩, ⟨"LOAD", 8, 10, .RO⟩, ⟨"SLIPS", 32, 16, .RO⟩]
  | .STR_W0 => [⟨"NQ", 0, 32, .RW⟩, ⟨"PB", 32, 32, .RW⟩]
  | .STR_W1 => [⟨"RF", 0, 32, .RW⟩, ⟨"RB", 32, 32, .RW⟩]
  | .STR_W2 => [⟨"ELAST", 0, 16, .RW⟩, ⟨"NEXT", 16, 8, .RW⟩, ⟨"CONF", 24, 4, .RW⟩, ⟨"VISITS", 32, 16, .RW⟩]
  | .STR_W3 => [⟨"DUR", 0, 32, .RW⟩, ⟨"LAST_DUR", 32, 32, .RO⟩]
  | .STR_W4 => [⟨"ENTRY_TIME", 0, 64, .RO⟩]
  | .STR_W5 => [⟨"VF", 0, 1, .RW⟩, ⟨"VB", 1, 1, .RW⟩, ⟨"VE", 2, 1, .RW⟩, ⟨"SEEDED", 3, 1, .RO⟩, ⟨"ACTIVE", 4, 1, .RO⟩, ⟨"SAMPLES_F", 16, 16, .RO⟩, ⟨"SAMPLES_B", 32, 16, .RO⟩]
  | .STR_W6 => [⟨"PREF_LIMIT", 0, 9, .RW⟩, ⟨"PREF_WEIGHT", 16, 16, .RW⟩, ⟨"PREF_EN", 32, 1, .RW⟩]
  | .STR_W7 => []
  | .RAIL_STATE => [⟨"STATE", 0, 3, .RO⟩, ⟨"PG", 3, 1, .RO⟩, ⟨"NOSINK", 4, 1, .RO⟩, ⟨"HALT_SEEN", 5, 1, .W1C⟩, ⟨"NPH_EN", 8, 6, .RO⟩, ⟨"V_PRE", 16, 12, .RO⟩, ⟨"VSENSE", 32, 12, .RO⟩]
  | .RAIL_VSEL => [⟨"SEL", 0, 3, .RW⟩, ⟨"DONE", 3, 1, .RO⟩, ⟨"RET_SLOT", 4, 3, .RO⟩, ⟨"FW", 7, 1, .RO⟩, ⟨"BASE_TGT", 16, 12, .RO⟩, ⟨"BASE_REF", 32, 12, .RO⟩, ⟨"REF", 48, 12, .RO⟩]
  | .RAIL_LIM => [⟨"VMIN", 0, 12, .RO⟩, ⟨"VMAX", 16, 12, .RO⟩, ⟨"GB", 32, 8, .RO⟩, ⟨"BAND", 40, 3, .RO⟩]
  | .RAIL_SYNC => [⟨"DIV", 0, 13, .RO⟩, ⟨"OFS", 16, 13, .RO⟩, ⟨"PHASE_LOST", 29, 1, .RO⟩, ⟨"PHASE_LOST_SEEN", 30, 1, .W1C⟩, ⟨"FB_DIV", 32, 12, .RO⟩]
  | .RAIL_COMP_A => [⟨"B0_M", 0, 32, .RO⟩, ⟨"B1_M", 32, 32, .RO⟩]
  | .RAIL_COMP_B => [⟨"A1_M", 0, 32, .RO⟩, ⟨"B0_S", 32, 5, .RO⟩, ⟨"B1_S", 40, 5, .RO⟩, ⟨"A1_S", 48, 5, .RO⟩]
  | .RAIL_LOOP => [⟨"U", 0, 32, .RO⟩, ⟨"E", 32, 13, .RO⟩, ⟨"SAT", 48, 1, .RO⟩, ⟨"SAT_SEEN", 49, 1, .W1C⟩]
  | .RAIL_PCM => [⟨"SLOPE", 0, 8, .RO⟩, ⟨"L_NH", 16, 16, .RO⟩, ⟨"IPK_CMD_MAX", 32, 32, .RO⟩]
  | .RAIL_SHED => [⟨"NMIN", 0, 6, .RO⟩, ⟨"SHED_EN", 8, 1, .RW⟩, ⟨"ADD_PP", 16, 16, .RO⟩, ⟨"SHED_PP", 32, 16, .RO⟩, ⟨"DWELL", 48, 16, .RO⟩]
  | .RAIL_SHED_STAT => [⟨"SHST", 0, 2, .RO⟩, ⟨"SHED_POS", 8, 8, .RO⟩, ⟨"SHEDS", 16, 16, .RO⟩, ⟨"ABORTS", 32, 16, .RO⟩, ⟨"ADDS", 48, 16, .RO⟩]
  | .RAIL_PH => [⟨"EN", 0, 32, .RO⟩, ⟨"FAULT", 32, 32, .RO⟩]
  | .RAIL_VSLOT => [⟨"CODE", 0, 12, .RW⟩]
  | .RAIL_FUSE_STATUS => [⟨"STATE", 0, 2, .RO⟩, ⟨"DIVERGE", 2, 1, .W1C⟩, ⟨"INVALID_SEEN", 3, 1, .W1C⟩, ⟨"DIAG_WRITTEN", 4, 1, .W1C⟩, ⟨"HELD", 5, 1, .RO⟩, ⟨"INVALID_CAUSE", 8, 8, .RO⟩, ⟨"DIV_CNT", 16, 12, .RO⟩, ⟨"CLR_CNT", 32, 16, .RO⟩, ⟨"DIVERGE_COUNT", 48, 16, .RO⟩]
  | .RAIL_MEAS => [⟨"POWER", 0, 32, .RO⟩, ⟨"CURRENT", 32, 32, .RO⟩]
  | .RAIL_ESTM => [⟨"EST_1US", 0, 32, .RO⟩, ⟨"EST_FAST", 32, 32, .RO⟩]
  | .RAIL_FUSED => [⟨"FAST", 0, 32, .RO⟩, ⟨"F1US", 32, 32, .RO⟩]
  | .RAIL_THETA_LO => [⟨"G0", 0, 16, .RO⟩, ⟨"G1", 16, 16, .RO⟩, ⟨"G2", 32, 16, .RO⟩, ⟨"G3", 48, 16, .RO⟩]
  | .RAIL_THETA_HI => [⟨"G4", 0, 16, .RO⟩, ⟨"G5", 16, 16, .RO⟩, ⟨"G6", 32, 16, .RO⟩, ⟨"G7", 48, 16, .RO⟩]
  | .RAIL_KNEAD => [⟨"ENABLED", 0, 1, .RO⟩, ⟨"FREEZE", 1, 1, .RW⟩, ⟨"RESET", 2, 1, .WO⟩, ⟨"FROZEN", 3, 1, .RO⟩, ⟨"LAST_SKIP", 8, 8, .RO⟩, ⟨"UPDATES", 32, 32, .RO⟩]
  | .RAIL_KNEAD_RES => [⟨"RESIDUAL", 0, 32, .RO⟩, ⟨"SKIPS", 32, 16, .RO⟩, ⟨"STALE_REP", 48, 16, .RO⟩]
  | .RAIL_RISE => [⟨"STATE", 0, 2, .RO⟩, ⟨"EXH", 2, 1, .RO⟩, ⟨"EXH_SEEN", 3, 1, .W1C⟩, ⟨"REQS", 8, 8, .RO⟩, ⟨"OFFSET", 16, 12, .RO⟩, ⟨"TARGET", 32, 12, .RO⟩]
  | .RAIL_RISE_EXPO => [⟨"EXPO", 0, 32, .RO⟩, ⟨"LAST", 32, 32, .RO⟩]
  | .RAIL_SHAPE_PRED => [⟨"DI", 0, 32, .RO⟩, ⟨"STAMP", 32, 32, .RO⟩]
  | .PH_CTRL => [⟨"CLR_FAULT", 0, 1, .WO⟩, ⟨"CAL_REQ", 1, 1, .WO⟩]
  | .PH_STAT => [⟨"PHST", 0, 2, .RO⟩, ⟨"FAULT_N", 2, 1, .RO⟩, ⟨"FAULT_SEEN", 3, 1, .W1C⟩, ⟨"CBC_SEEN", 4, 1, .W1C⟩, ⟨"NEG_SEEN", 5, 1, .W1C⟩, ⟨"ADC_INV", 6, 1, .W1C⟩, ⟨"POS", 8, 8, .RO⟩, ⟨"RAIL", 16, 5, .RO⟩, ⟨"CBC", 32, 16, .RO⟩, ⟨"FAULTS", 48, 16, .RO⟩]
  | .PH_SAMPLE => [⟨"I", 0, 32, .RO⟩, ⟨"OFS_TICKS", 32, 13, .RO⟩]
  | .PH_CAL => [⟨"ISNS_OFS", 0, 16, .RO⟩, ⟨"CAL_VALID", 16, 1, .RO⟩, ⟨"CAL_PEND", 17, 1, .RO⟩, ⟨"CAL_TIME", 32, 32, .RO⟩]
  | .TS_CTRL => [⟨"EN", 0, 1, .RW⟩, ⟨"CAL_RST", 1, 1, .WO⟩]
  | .TS_VAL => [⟨"TEMP", 0, 16, .RO⟩, ⟨"VALID", 16, 1, .RO⟩, ⟨"FAULT", 17, 1, .RO⟩, ⟨"STAMP", 32, 32, .RO⟩]
  | .TS_CAL => [⟨"OFS_CORR", 0, 16, .RO⟩, ⟨"REF", 16, 1, .RO⟩, ⟨"BAD", 17, 1, .RO⟩, ⟨"BAD_SEEN", 18, 1, .W1C⟩, ⟨"CAL_VALID", 19, 1, .RO⟩, ⟨"PAIRS", 20, 4, .RO⟩, ⟨"REF_SITE", 32, 10, .RO⟩, ⟨"MISSES", 48, 16, .RO⟩]
  | .TS_THR => [⟨"WARN", 0, 16, .RO⟩, ⟨"THROTTLE", 16, 16, .RO⟩, ⟨"SHUTDOWN", 32, 16, .RO⟩]
  | .TS_STAT => [⟨"LEVEL", 0, 2, .RO⟩, ⟨"WARN_F", 2, 1, .RO⟩, ⟨"THR_F", 3, 1, .RO⟩, ⟨"SHUT_F", 4, 1, .RO⟩, ⟨"WARN_SEEN", 5, 1, .W1C⟩, ⟨"THR_SEEN", 6, 1, .W1C⟩, ⟨"SHUT_SEEN", 7, 1, .W1C⟩, ⟨"ABS_SEEN", 8, 1, .W1C⟩, ⟨"TMAX", 16, 16, .RO⟩, ⟨"CONV", 32, 32, .RO⟩]
  | .TS_HYST => [⟨"WARN_HYST", 0, 16, .RO⟩, ⟨"THR_HYST", 16, 16, .RO⟩, ⟨"SHUT_HYST", 32, 16, .RO⟩]
  | .DD_CTRL => [⟨"EN", 0, 1, .RW⟩, ⟨"TRIM", 1, 6, .RO⟩, ⟨"FILT", 7, 3, .RO⟩, ⟨"CAL_REQ", 10, 1, .WO⟩]
  | .DD_MAP => [⟨"LEAF", 0, 9, .RO⟩, ⟨"RAIL", 9, 5, .RO⟩, ⟨"GATEMASK", 32, 32, .RO⟩]
  | .DD_CAL => [⟨"CODE_CAL", 0, 8, .RO⟩, ⟨"V_CAL", 8, 12, .RO⟩, ⟨"CAL_VALID", 20, 1, .RO⟩, ⟨"CAL_STALE", 21, 1, .W1C⟩, ⟨"CAL_TIME", 32, 32, .RO⟩]
  | .DD_THR => [⟨"THR_CODE", 0, 8, .RO⟩, ⟨"THR_MV", 8, 8, .RO⟩, ⟨"BAND", 16, 3, .RO⟩, ⟨"FILL", 19, 1, .RO⟩, ⟨"CODE", 20, 8, .RO⟩]
  | .DD_STAT => [⟨"TRIP", 0, 1, .RO⟩, ⟨"TRIP_SEEN", 1, 1, .W1C⟩, ⟨"SAT", 2, 1, .W1C⟩, ⟨"CODE_MIN", 8, 8, .RO⟩, ⟨"TRIPS", 32, 32, .RO⟩]
  | .NODE_ID => [⟨"DOMAIN", 0, 16, .RO⟩, ⟨"PARENT", 16, 16, .RO⟩, ⟨"LEVEL", 32, 3, .RO⟩, ⟨"PHYS", 40, 9, .RO⟩, ⟨"CHILDREN", 56, 7, .RO⟩]
  | .NODE_STATUS => [⟨"STALE_EST", 0, 16, .RO⟩]
  | .NODE_BUDGET => [⟨"AVG", 0, 32, .RO⟩, ⟨"FAST", 32, 32, .RO⟩]
  | .NODE_SPLIT_STAT => [⟨"SHORT", 0, 1, .W1C⟩, ⟨"SURPLUS", 32, 32, .RO⟩]
  | .NODE_SPLIT_A => [⟨"NEED", 0, 32, .RO⟩, ⟨"WEIGHT", 32, 16, .RO⟩, ⟨"UP", 48, 1, .RO⟩]
  | .NODE_SPLIT_B => [⟨"FLOOR", 0, 32, .RO⟩, ⟨"CEIL", 32, 32, .RO⟩]
  | .NODE_SPLIT_C => [⟨"GRANT_AVG", 0, 32, .RO⟩, ⟨"GRANT_FAST", 32, 32, .RO⟩]
  | .NODE_CHAN => [⟨"STATE", 0, 3, .RO⟩, ⟨"FAR_ALIVE", 3, 1, .RO⟩, ⟨"PRESENT", 4, 1, .RO⟩, ⟨"SILENT", 5, 1, .W1C⟩, ⟨"FENCE_TO", 6, 1, .W1C⟩, ⟨"PENDING", 8, 8, .RO⟩, ⟨"EPOCH", 16, 16, .RO⟩, ⟨"STALE_DROPS", 32, 16, .RO⟩, ⟨"ABSENT_REPLIES", 48, 16, .RO⟩]
  | .LEAF_ID => [⟨"DOMAIN", 0, 16, .RO⟩, ⟨"PARENT", 16, 16, .RO⟩, ⟨"LEVEL", 32, 3, .RO⟩, ⟨"PHYS", 40, 9, .RO⟩, ⟨"CHILDREN", 56, 7, .RO⟩]
  | .LEAF_EST_STATUS => [⟨"RAILS", 0, 4, .RO⟩, ⟨"RAIL_0", 4, 5, .RO⟩, ⟨"RAIL_1", 9, 5, .RO⟩, ⟨"RAIL_2", 14, 5, .RO⟩, ⟨"RAIL_3", 19, 5, .RO⟩, ⟨"COUNT_SAT", 24, 1, .W1C⟩, ⟨"NEG_CLAMP", 25, 1, .W1C⟩, ⟨"TEMP_FALLBACK", 26, 1, .W1C⟩, ⟨"SLOT", 32, 32, .RO⟩]
  | .LEAF_EST => [⟨"EST", 0, 25, .RO⟩, ⟨"STATIC", 32, 25, .RO⟩]
  | .LEAF_THETA_LO => [⟨"G0", 0, 16, .RO⟩, ⟨"G1", 16, 16, .RO⟩, ⟨"G2", 32, 16, .RO⟩, ⟨"G3", 48, 16, .RO⟩]
  | .LEAF_THETA_HI => [⟨"G4", 0, 16, .RO⟩, ⟨"G5", 16, 16, .RO⟩, ⟨"G6", 32, 16, .RO⟩, ⟨"G7", 48, 16, .RO⟩]
  | .LEAF_VREF => [⟨"V0", 0, 12, .RO⟩, ⟨"V1", 16, 12, .RO⟩, ⟨"V2", 32, 12, .RO⟩, ⟨"V3", 48, 12, .RO⟩]
  | .LEAF_BUDGET => [⟨"AVG", 0, 32, .RO⟩, ⟨"FAST", 32, 32, .RO⟩]
  | .LEAF_RAIL_BUDGET => [⟨"RAIL", 0, 32, .RO⟩, ⟨"FIXED", 32, 32, .RO⟩]
  | .LEAF_CONV => [⟨"FIXED", 0, 32, .RO⟩, ⟨"ROWS", 32, 4, .RO⟩, ⟨"EPS_COLD", 40, 24, .RO⟩]
  | .LEAF_SHED => [⟨"RAIL", 0, 5, .RO⟩, ⟨"HOLD", 5, 1, .RO⟩, ⟨"EXPIRE", 32, 32, .RO⟩]
  | .LEAF_PART => [⟨"WEIGHT", 0, 16, .RW⟩, ⟨"CTX", 16, 4, .RW⟩, ⟨"ALLOW", 32, 32, .RO⟩]
  | .LEAF_GATE => [⟨"EFF_A", 0, 9, .RO⟩, ⟨"EFF_B", 9, 9, .RO⟩, ⟨"BUD_A", 18, 9, .RO⟩, ⟨"BUD_B", 27, 9, .RO⟩, ⟨"SRC_A", 36, 4, .RO⟩, ⟨"SRC_B", 40, 4, .RO⟩, ⟨"PART_A", 44, 2, .RW⟩, ⟨"PART_B", 46, 2, .RW⟩, ⟨"ARR_A", 48, 3, .RW⟩, ⟨"EN_A", 51, 1, .RW⟩, ⟨"EN_B", 52, 1, .RW⟩, ⟨"FAULT_A", 53, 1, .W1C⟩, ⟨"FAULT_B", 54, 1, .W1C⟩, ⟨"REST_A", 55, 1, .RO⟩, ⟨"REST_B", 56, 1, .RO⟩, ⟨"ROWS", 57, 4, .RO⟩]
  | .LEAF_CORE => [⟨"EFF", 0, 8, .RO⟩, ⟨"BUD", 8, 8, .RO⟩, ⟨"WEAR", 16, 8, .RO⟩, ⟨"MODE_CEIL", 24, 8, .RO⟩, ⟨"SRC", 32, 4, .RO⟩, ⟨"AGE_INVALID", 36, 1, .W1C⟩, ⟨"AGE", 40, 8, .RO⟩]
  | .LEAF_LSYNC => [⟨"EN", 0, 1, .RW⟩, ⟨"TYPE", 1, 1, .RW⟩, ⟨"CTX", 2, 4, .RW⟩, ⟨"TARGET", 6, 7, .RW⟩, ⟨"COUNT", 13, 7, .RO⟩, ⟨"NEXT", 20, 7, .RO⟩, ⟨"GEN", 27, 4, .RO⟩, ⟨"FLAG", 31, 1, .RO⟩]
  | .LEAF_SYNC_STAT => [⟨"DUP", 0, 16, .RO⟩, ⟨"STALE", 16, 16, .RO⟩, ⟨"NACKS", 32, 16, .RO⟩]
  | .LEAF_SYNC_EPOCH => [⟨"CEPOCH0", 0, 4, .RO⟩, ⟨"CEPOCH1", 4, 4, .RO⟩, ⟨"CEPOCH2", 8, 4, .RO⟩, ⟨"CEPOCH3", 12, 4, .RO⟩, ⟨"CEPOCH4", 16, 4, .RO⟩, ⟨"CEPOCH5", 20, 4, .RO⟩, ⟨"CEPOCH6", 24, 4, .RO⟩, ⟨"CEPOCH7", 28, 4, .RO⟩, ⟨"CEPOCH8", 32, 4, .RO⟩, ⟨"CEPOCH9", 36, 4, .RO⟩, ⟨"CEPOCH10", 40, 4, .RO⟩, ⟨"CEPOCH11", 44, 4, .RO⟩, ⟨"CEPOCH12", 48, 4, .RO⟩, ⟨"CEPOCH13", 52, 4, .RO⟩, ⟨"CEPOCH14", 56, 4, .RO⟩, ⟨"CEPOCH15", 60, 4, .RO⟩]
  | .LEAF_SYNC_WAIT => [⟨"VALID_A", 0, 1, .RO⟩, ⟨"VALID_B", 32, 1, .RO⟩, ⟨"VALUE_A", 1, 1, .RO⟩, ⟨"VALUE_B", 33, 1, .RO⟩, ⟨"MODE_A", 2, 1, .RO⟩, ⟨"MODE_B", 34, 1, .RO⟩, ⟨"CTX_A", 3, 4, .RO⟩, ⟨"CTX_B", 35, 4, .RO⟩, ⟨"LOBJ_A", 7, 11, .RO⟩, ⟨"LOBJ_B", 39, 11, .RO⟩, ⟨"GEN_WANT_A", 18, 10, .RO⟩, ⟨"GEN_WANT_B", 50, 10, .RO⟩, ⟨"LOCAL_A", 28, 1, .RO⟩, ⟨"LOCAL_B", 60, 1, .RO⟩]
  | .LEAF_SYNC_LAST => [⟨"CTX_A", 0, 4, .RO⟩, ⟨"CTX_B", 32, 4, .RO⟩, ⟨"LOBJ_A", 4, 11, .RO⟩, ⟨"LOBJ_B", 36, 11, .RO⟩, ⟨"GEN_A", 15, 10, .RO⟩, ⟨"GEN_B", 47, 10, .RO⟩, ⟨"VALID_A", 25, 1, .RO⟩, ⟨"VALID_B", 57, 1, .RO⟩]
  | .LEAF_SCORE => [⟨"CLAMP", 0, 8, .RO⟩, ⟨"ACTIVE", 8, 1, .RO⟩, ⟨"FILL", 9, 1, .RO⟩, ⟨"CODE", 16, 9, .RO⟩, ⟨"TRIPS", 32, 32, .RO⟩]
  | .LEAF_PROOF => [⟨"HELD", 0, 7, .RO⟩, ⟨"RELEASES", 16, 16, .RO⟩, ⟨"BUSY_EARLY", 32, 16, .RO⟩]
  | .LEAF_SCORE_CNT => [⟨"CLAMP_CYC", 0, 64, .RO⟩]
  | .LEAF_CREDIT => [⟨"LOAD_A", 0, 16, .RO⟩, ⟨"LOAD_B", 32, 16, .RO⟩, ⟨"DEBT_A", 16, 8, .RO⟩, ⟨"DEBT_B", 48, 8, .RO⟩, ⟨"REM_A", 24, 4, .RO⟩, ⟨"REM_B", 56, 4, .RO⟩]
  | .LEAF_THERM => [⟨"TEMP", 0, 16, .RO⟩, ⟨"BAND", 16, 3, .RO⟩, ⟨"LEVEL", 19, 2, .RO⟩, ⟨"FALLBACK", 21, 1, .RO⟩, ⟨"LOSS", 22, 1, .RO⟩, ⟨"LOSS_SEEN", 23, 1, .W1C⟩, ⟨"HOT_SITE", 32, 10, .RO⟩]
  | .LEAF_THR_REQ => [⟨"K", 0, 9, .RO⟩]
  | .LEAF_STACK => [⟨"TEMP", 0, 16, .RO⟩, ⟨"VALID", 16, 1, .RO⟩, ⟨"MULT", 17, 2, .RO⟩, ⟨"BAND", 19, 3, .RO⟩, ⟨"LEVEL", 22, 2, .RO⟩, ⟨"STALE", 24, 1, .RO⟩, ⟨"STALE_SEEN", 25, 1, .W1C⟩, ⟨"THR_SEEN", 26, 1, .W1C⟩, ⟨"WARN_SEEN", 27, 1, .W1C⟩, ⟨"STAMP", 32, 32, .RO⟩]
  | .LEAF_TCELL => [⟨"DIV", 0, 2, .RO⟩, ⟨"FLOOR", 2, 1, .RO⟩, ⟨"GOV", 3, 1, .RO⟩, ⟨"SKIP", 16, 16, .RO⟩, ⟨"THR_SKIP", 32, 16, .RO⟩, ⟨"THR_DIV", 48, 2, .RO⟩, ⟨"THR_ACTIVE", 50, 1, .RO⟩, ⟨"GOV_ACTIVE", 51, 1, .RO⟩, ⟨"MODE_ACTIVE", 52, 1, .RO⟩]
  | .LEAF_CHAN => [⟨"STATE", 0, 3, .RO⟩, ⟨"FAR_ALIVE", 3, 1, .RO⟩, ⟨"PRESENT", 4, 1, .RO⟩, ⟨"SILENT", 5, 1, .W1C⟩, ⟨"FENCE_TO", 6, 1, .W1C⟩, ⟨"PENDING", 8, 8, .RO⟩, ⟨"EPOCH", 16, 16, .RO⟩, ⟨"STALE_DROPS", 32, 16, .RO⟩, ⟨"ABSENT_REPLIES", 48, 16, .RO⟩]
  | .LEAF_BRAKE => [⟨"ACTIVE", 0, 1, .RO⟩, ⟨"LIMIT", 8, 9, .RO⟩, ⟨"FMAX", 24, 8, .RO⟩]
  | .LEAF_CNT_SEL => [⟨"SEL", 0, 4, .RW⟩, ⟨"CLASS", 4, 5, .RW⟩, ⟨"THRESH", 9, 9, .RW⟩, ⟨"SRCSEL", 18, 4, .RW⟩, ⟨"DET", 22, 3, .RW⟩, ⟨"TCELL", 25, 4, .RW⟩, ⟨"GMASK", 32, 32, .RW⟩]
  | .LEAF_CNT_LATCH => [⟨"CTX", 0, 4, .RO⟩, ⟨"LNUM", 4, 4, .RO⟩, ⟨"LATE", 8, 1, .RO⟩, ⟨"TL", 32, 32, .RO⟩]
  | .SYNC_OBJ_A => [⟨"TYPE", 0, 3, .RO⟩, ⟨"BROKEN", 3, 1, .RO⟩, ⟨"SHAPE_EN", 4, 1, .RO⟩, ⟨"PTAG_EN", 5, 1, .RO⟩, ⟨"PTAG_EXIT", 6, 1, .RO⟩, ⟨"UP", 7, 1, .RO⟩, ⟨"PTAG_PHASE", 8, 8, .RO⟩, ⟨"CTX", 16, 4, .RO⟩, ⟨"PRIV", 20, 1, .RO⟩, ⟨"GEN", 32, 16, .RO⟩, ⟨"TARGET", 48, 16, .RO⟩]
  | .SYNC_OBJ_B => [⟨"COUNT", 0, 16, .RO⟩, ⟨"NEXT", 16, 16, .RO⟩, ⟨"WATCHES", 32, 17, .RO⟩]
  | .WATCH_A => [⟨"OBJ", 0, 14, .RO⟩, ⟨"KIND", 14, 1, .RO⟩, ⟨"MODE", 15, 1, .RO⟩, ⟨"VALID", 16, 1, .RO⟩, ⟨"CTX", 20, 4, .RO⟩, ⟨"GEN_WANT", 24, 16, .RO⟩, ⟨"NEXT", 40, 17, .RO⟩]
  | .WATCH_B => [⟨"LEAF", 0, 9, .RO⟩, ⟨"WID", 9, 6, .RO⟩, ⟨"REG_TIME", 32, 32, .RO⟩]
  | .CNT_STATUS => [⟨"WIN", 0, 32, .RO⟩, ⟨"LATE_REPS", 32, 32, .RO⟩]
  | .CNT_LATCH => [⟨"OP", 0, 2, .WO⟩, ⟨"SLOT", 2, 2, .WO⟩, ⟨"CMD_ADDR", 6, 42, .WO⟩, ⟨"CTX", 48, 4, .WO⟩]
  | .CNT_GLOBAL => [⟨"VAL", 0, 64, .RO⟩]
  | .CNT_CTX => [⟨"VAL", 0, 64, .RO⟩]
  | .CNT_UA => [⟨"VAL", 0, 64, .RO⟩]
  | .CNT_CTX_E => [⟨"VAL", 0, 64, .RO⟩]
  | .REC_RING_A => [⟨"BASE", 0, 48, .RW⟩, ⟨"SIZE", 48, 4, .RW⟩, ⟨"EN", 52, 1, .RW⟩, ⟨"LOSS_SEEN", 53, 1, .W1C⟩]
  | .REC_RING_B => [⟨"HEAD", 0, 32, .RO⟩, ⟨"TAIL", 32, 32, .RW⟩]
  | .REC_RING_C => [⟨"LOST", 0, 32, .RO⟩, ⟨"SEQ", 32, 32, .RO⟩]
  | .REC_ROUTE => [⟨"MASK1", 4, 4, .RW⟩, ⟨"MASK2", 8, 4, .RW⟩, ⟨"MASK3", 12, 4, .RW⟩, ⟨"MASK4", 16, 4, .RW⟩, ⟨"MASK5", 20, 4, .RW⟩, ⟨"MASK6", 24, 4, .RW⟩, ⟨"MASK7", 28, 4, .RW⟩]
  | .REC_STATUS => [⟨"QUEUED", 0, 6, .RO⟩, ⟨"NOROUTE", 16, 16, .RO⟩, ⟨"WRITTEN", 32, 32, .RO⟩]
  | .TRC_CTRL => [⟨"CMD", 0, 3, .WO⟩]
  | .TRC_STATUS => [⟨"STATE", 0, 2, .RO⟩, ⟨"CAUSE", 2, 3, .RO⟩, ⟨"FROZEN_SEEN", 5, 1, .W1C⟩, ⟨"TRIP_OVF", 6, 1, .W1C⟩, ⟨"DUMPING", 7, 1, .RO⟩, ⟨"DROPPING", 8, 8, .RO⟩, ⟨"TRIGS", 16, 16, .RO⟩, ⟨"UNSENT", 32, 13, .RO⟩, ⟨"TRIPRECS", 45, 6, .RO⟩]
  | .TRC_PTR => [⟨"OLDEST", 0, 13, .RO⟩, ⟨"TRIG_SLOT", 16, 13, .RO⟩, ⟨"COUNT", 32, 13, .RO⟩]
  | .TRC_LOSS => [⟨"DROPPED", 0, 32, .RO⟩]
  | .TRC_BUF => [⟨"VAL", 0, 64, .RO⟩]
  | .DXL_STATUS => [⟨"UP", 0, 8, .RO⟩, ⟨"PFAIL", 8, 8, .RO⟩, ⟨"ROOT", 16, 1, .RO⟩, ⟨"JOBMISS", 32, 16, .RO⟩]
  | .DXL_TIME => [⟨"SYS_OFS", 0, 64, .RO⟩]
  | .DXL_TERR => [⟨"ERR", 0, 32, .RO⟩, ⟨"DELAY", 32, 16, .RO⟩, ⟨"STEPPED", 48, 1, .W1C⟩, ⟨"ERR_SEEN", 49, 1, .W1C⟩]
  | .DXL_LEASE => [⟨"LENT", 0, 32, .RO⟩, ⟨"BORROWED", 32, 32, .RO⟩]
  | .DXL_OFFER => [⟨"SPARE", 0, 32, .RO⟩, ⟨"WANT", 32, 32, .RO⟩]
  | .DXL_JOB => [⟨"JOB", 0, 16, .RW⟩]
  | .DXL_PORT_A => [⟨"STATE", 0, 2, .RO⟩, ⟨"LINK_UP", 2, 1, .RO⟩, ⟨"KEYID", 3, 1, .RO⟩, ⟨"REQUESTER", 4, 1, .RO⟩, ⟨"ROLE", 8, 8, .RO⟩, ⟨"PEER_ID", 16, 16, .RO⟩, ⟨"TX_SEQ", 32, 32, .RO⟩]
  | .DXL_PORT_B => [⟨"MACFAIL", 0, 16, .RO⟩, ⟨"RSVD", 16, 16, .RO⟩, ⟨"DOWNS", 32, 16, .RO⟩, ⟨"LFAULT", 48, 16, .RO⟩]
  | .DXL_PORT_C => [⟨"LEASE", 0, 32, .RO⟩, ⟨"LENDER", 32, 1, .RO⟩, ⟨"LSEQ", 48, 16, .RO⟩]
  | .DXL_PORT_D => [⟨"T_END", 0, 64, .RO⟩]
  | .MIR_STATUS => [⟨"ROLE_0", 0, 3, .RO⟩, ⟨"ROLE_1", 3, 3, .RO⟩, ⟨"SELF", 6, 1, .RO⟩, ⟨"FAILOVERS", 16, 16, .RO⟩, ⟨"REFUSED", 32, 16, .RO⟩]
  | .MIR_CMD => [⟨"CMD", 0, 2, .WO⟩]
  | .MIR_LAST => [⟨"CAUSE", 0, 4, .RO⟩, ⟨"APPLIED", 4, 12, .RO⟩, ⟨"RESENT", 16, 16, .RO⟩, ⟨"TIME", 32, 32, .RO⟩]
  | .MIR_LAG => [⟨"CONF_LAST", 0, 16, .RO⟩, ⟨"CONF_MAX", 16, 16, .RO⟩, ⟨"LAZY_AGE", 32, 32, .RO⟩]
  | .CTX_SYNC_OP => [⟨"OP", 0, 5, .WO⟩, ⟨"OBJ", 8, 14, .WO⟩, ⟨"ARG0", 24, 16, .WO⟩, ⟨"ARG1", 40, 16, .WO⟩, ⟨"ARG2", 56, 8, .WO⟩]
  | .CTX_SYNC_STAT => [⟨"CEPOCH", 0, 4, .RO⟩, ⟨"SWITCHING", 4, 1, .RO⟩, ⟨"OBJ_COUNT", 16, 12, .RO⟩, ⟨"WATCH_USED", 32, 17, .RO⟩]
  | .CTX_LATCH => [⟨"OP", 0, 2, .WO⟩, ⟨"SLOT", 2, 2, .WO⟩, ⟨"CMD_ADDR", 6, 42, .WO⟩, ⟨"CTX", 48, 4, .WO⟩]
  | .CTX_LATCH_STAT => [⟨"OPEN", 0, 4, .RO⟩, ⟨"PENDING", 4, 3, .RO⟩, ⟨"LNUM", 8, 4, .RO⟩, ⟨"LAST_FLAGS", 16, 8, .RO⟩]
  | .CTX_CNT => [⟨"VAL", 0, 64, .RO⟩]
  | .CTX_ENERGY => [⟨"VAL", 0, 64, .RO⟩]
  | .CTX_LSNAP => [⟨"VAL", 0, 64, .RO⟩]
  | .CTX_SYNC_OBJ_A => [⟨"TYPE", 0, 3, .RO⟩, ⟨"BROKEN", 3, 1, .RO⟩, ⟨"SHAPE_EN", 4, 1, .RO⟩, ⟨"PTAG_EN", 5, 1, .RO⟩, ⟨"PTAG_EXIT", 6, 1, .RO⟩, ⟨"UP", 7, 1, .RO⟩, ⟨"PTAG_PHASE", 8, 8, .RO⟩, ⟨"CTX", 16, 4, .RO⟩, ⟨"PRIV", 20, 1, .RO⟩, ⟨"GEN", 32, 16, .RO⟩, ⟨"TARGET", 48, 16, .RO⟩]
  | .CTX_SYNC_OBJ_B => [⟨"COUNT", 0, 16, .RO⟩, ⟨"NEXT", 16, 16, .RO⟩, ⟨"WATCHES", 32, 17, .RO⟩]

/-- The word each register reads after reset, from the Reset column; an "Img" field counts as 0 (log entry 2). -/
def Reg.resetConst : Reg → Nat
  | .HUB_VERSION => 0x40100000204
  | .HUB_CAP => 0x0
  | .HUB_LIMITS => 0x400020008080410
  | .HUB_PKG_STATE => 0x1
  | .HUB_PKG_CMD => 0x0
  | .HUB_BUDGET => 0xffffffffffffffff
  | .HUB_CAPS => 0x0
  | .HUB_MODE => 0x0
  | .STR_MARK => 0x0
  | .STR_CMD => 0x0
  | .STR_STATUS => 0x0
  | .STR_CTX => 0x200
  | .SYNC_CMD => 0x0
  | .SYNC_STATUS => 0x0
  | .SYNC_CTX => 0x0
  | .SYNC_CTXW => 0x0
  | .SHP_CTRL => 0x3
  | .SHP_STATUS => 0x0
  | .SHP_LAST => 0x0
  | .SHP_LAST_I => 0x0
  | .THM_STATUS => 0x50000
  | .HUB_TCELL => 0xffff0000
  | .HUB_CHAN => 0x0
  | .CRUST_STATUS => 0x21
  | .CRUST_LATCH => 0x0
  | .CRUST_LAST => 0x0
  | .CRUST_RAIL => 0x0
  | .CRUST_RAIL_UV => 0x0
  | .ECC_STATUS => 0x0
  | .ECC_COUNT => 0x0
  | .RST_STATUS => 0x0
  | .RST_CMD => 0x0
  | .HUB_CLK_CMD => 0x0
  | .HUB_TIME => 0x0
  | .HOST_STATUS => 0x0
  | .HOST_ERR_A => 0x0
  | .HOST_ERR_B => 0x0
  | .REC_PERR => 0x0
  | .FAC_STATUS => 0x0
  | .FAC_ALERT => 0x0
  | .HUB_SPLIT_A => 0x0
  | .HUB_SPLIT_B => 0x0
  | .HUB_SPLIT_C => 0x0
  | .IMG_CTRL => 0x0
  | .IMG_STATUS => 0x0
  | .IMG_WADDR => 0x0
  | .IMG_WDATA => 0x0
  | .IMG_INFO => 0x0
  | .IMG_ID => 0x0
  | .IMG_FUSE => 0x0
  | .IMG_INV => 0x0
  | .ID_STATUS => 0x0
  | .ID_CERT_CTRL => 0x0
  | .ID_CERT_WDATA => 0x0
  | .ID_PUBKEY => 0x0
  | .ID_MEAS3 => 0x0
  | .EVC_CTRL => 0x0
  | .EVC_STATUS => 0x0
  | .EVC_ACK => 0x0
  | .EVC_EOI => 0x0
  | .EVC_TSTAT => 0x0
  | .EVC_RECOVER => 0x0
  | .EVC_NMI => 0x0
  | .EVC_STACK => 0x0
  | .EVC_GRP_A => 0x0
  | .EVC_GRP_B => 0x0
  | .EVC_WAKE => 0x0
  | .EVC_SRC_CFG => 0x0
  | .EVC_SRC_STATE => 0x0
  | .CLK_CTRL => 0x0
  | .CLK_STAT => 0x0
  | .CLK_MON => 0x0
  | .CLK_OSC => 0x640000000000000
  | .CLK_TB => 0x0
  | .LOOP_CTRL => 0x0
  | .LOOP_CFG => 0x0
  | .LOOP_SP => 0x0
  | .LOOP_SP_MAX => 0x0
  | .LOOP_OUT_LIM => 0x0
  | .LOOP_INT_LIM => 0x0
  | .LOOP_DEST => 0x0
  | .LOOP_SCHED => 0x0
  | .LOOP_VAL => 0x0
  | .LOOP_ERR => 0x0
  | .LOOP_MANUAL => 0x0
  | .LOOP_STAT => 0x0
  | .LOOP_LAT => 0x0
  | .LOOP_LATE => 0x0
  | .LOOP_COUNT => 0x0
  | .GT_A => 0x0
  | .GT_B => 0x0
  | .ENG_STATUS => 0x0
  | .STR_W0 => 0x0
  | .STR_W1 => 0x0
  | .STR_W2 => 0x0
  | .STR_W3 => 0x0
  | .STR_W4 => 0x0
  | .STR_W5 => 0x0
  | .STR_W6 => 0x0
  | .STR_W7 => 0x0
  | .RAIL_STATE => 0x0
  | .RAIL_VSEL => 0x0
  | .RAIL_LIM => 0x0
  | .RAIL_SYNC => 0x0
  | .RAIL_COMP_A => 0x0
  | .RAIL_COMP_B => 0x0
  | .RAIL_LOOP => 0x0
  | .RAIL_PCM => 0x0
  | .RAIL_SHED => 0x100
  | .RAIL_SHED_STAT => 0xff00
  | .RAIL_PH => 0x0
  | .RAIL_VSLOT => 0x0
  | .RAIL_FUSE_STATUS => 0x2
  | .RAIL_MEAS => 0x0
  | .RAIL_ESTM => 0x0
  | .RAIL_FUSED => 0x0
  | .RAIL_THETA_LO => 0x4000400040004000
  | .RAIL_THETA_HI => 0x4000400040004000
  | .RAIL_KNEAD => 0x0
  | .RAIL_KNEAD_RES => 0x0
  | .RAIL_RISE => 0x0
  | .RAIL_RISE_EXPO => 0x0
  | .RAIL_SHAPE_PRED => 0x0
  | .PH_CTRL => 0x0
  | .PH_STAT => 0x4
  | .PH_SAMPLE => 0x0
  | .PH_CAL => 0x0
  | .TS_CTRL => 0x1
  | .TS_VAL => 0x0
  | .TS_CAL => 0x0
  | .TS_THR => 0x0
  | .TS_STAT => 0x80000000
  | .TS_HYST => 0x0
  | .DD_CTRL => 0x1
  | .DD_MAP => 0x0
  | .DD_CAL => 0x64000
  | .DD_THR => 0x0
  | .DD_STAT => 0xff00
  | .NODE_ID => 0x0
  | .NODE_STATUS => 0x0
  | .NODE_BUDGET => 0xffffffffffffffff
  | .NODE_SPLIT_STAT => 0x0
  | .NODE_SPLIT_A => 0x0
  | .NODE_SPLIT_B => 0x0
  | .NODE_SPLIT_C => 0x0
  | .NODE_CHAN => 0x0
  | .LEAF_ID => 0x0
  | .LEAF_EST_STATUS => 0x0
  | .LEAF_EST => 0x0
  | .LEAF_THETA_LO => 0x4000400040004000
  | .LEAF_THETA_HI => 0x4000400040004000
  | .LEAF_VREF => 0x0
  | .LEAF_BUDGET => 0xffffffffffffffff
  | .LEAF_RAIL_BUDGET => 0xffffffff
  | .LEAF_CONV => 0x0
  | .LEAF_SHED => 0x1f
  | .LEAF_PART => 0x100
  | .LEAF_GATE => 0xc099000000000
  | .LEAF_CORE => 0x700000000
  | .LEAF_LSYNC => 0x0
  | .LEAF_SYNC_STAT => 0x0
  | .LEAF_SYNC_EPOCH => 0x0
  | .LEAF_SYNC_WAIT => 0x0
  | .LEAF_SYNC_LAST => 0x0
  | .LEAF_SCORE => 0x1000000
  | .LEAF_PROOF => 0x0
  | .LEAF_SCORE_CNT => 0x0
  | .LEAF_CREDIT => 0x0
  | .LEAF_THERM => 0x3ff00050000
  | .LEAF_THR_REQ => 0x100
  | .LEAF_STACK => 0x2c0000
  | .LEAF_TCELL => 0xffff0000
  | .LEAF_CHAN => 0x0
  | .LEAF_BRAKE => 0x0
  | .LEAF_CNT_SEL => 0x0
  | .LEAF_CNT_LATCH => 0x0
  | .SYNC_OBJ_A => 0x0
  | .SYNC_OBJ_B => 0x0
  | .WATCH_A => 0x1ffff0000000000
  | .WATCH_B => 0x0
  | .CNT_STATUS => 0x0
  | .CNT_LATCH => 0x0
  | .CNT_GLOBAL => 0x0
  | .CNT_CTX => 0x0
  | .CNT_UA => 0x0
  | .CNT_CTX_E => 0x0
  | .REC_RING_A => 0x0
  | .REC_RING_B => 0x0
  | .REC_RING_C => 0x0
  | .REC_ROUTE => 0x11111110
  | .REC_STATUS => 0x0
  | .TRC_CTRL => 0x0
  | .TRC_STATUS => 0x0
  | .TRC_PTR => 0x0
  | .TRC_LOSS => 0x0
  | .TRC_BUF => 0x0
  | .DXL_STATUS => 0x0
  | .DXL_TIME => 0x0
  | .DXL_TERR => 0x0
  | .DXL_LEASE => 0x0
  | .DXL_OFFER => 0x0
  | .DXL_JOB => 0x0
  | .DXL_PORT_A => 0x0
  | .DXL_PORT_B => 0x0
  | .DXL_PORT_C => 0x0
  | .DXL_PORT_D => 0x0
  | .MIR_STATUS => 0x29
  | .MIR_CMD => 0x0
  | .MIR_LAST => 0x0
  | .MIR_LAG => 0x0
  | .CTX_SYNC_OP => 0x0
  | .CTX_SYNC_STAT => 0x0
  | .CTX_LATCH => 0x0
  | .CTX_LATCH_STAT => 0x0
  | .CTX_CNT => 0x0
  | .CTX_ENERGY => 0x0
  | .CTX_LSNAP => 0x0
  | .CTX_SYNC_OBJ_A => 0x0
  | .CTX_SYNC_OBJ_B => 0x0

/-- All registers, in window order of their blocks. -/
def Reg.all : List Reg := [
  .HUB_VERSION, .HUB_CAP, .HUB_LIMITS, .HUB_PKG_STATE, .HUB_PKG_CMD, .HUB_BUDGET, .HUB_CAPS, .HUB_MODE, .STR_MARK,
  .STR_CMD, .STR_STATUS, .STR_CTX, .SYNC_CMD, .SYNC_STATUS, .SYNC_CTX, .SYNC_CTXW, .SHP_CTRL, .SHP_STATUS, .SHP_LAST,
  .SHP_LAST_I, .THM_STATUS, .HUB_TCELL, .HUB_CHAN, .CRUST_STATUS, .CRUST_LATCH, .CRUST_LAST, .CRUST_RAIL,
  .CRUST_RAIL_UV, .ECC_STATUS, .ECC_COUNT, .RST_STATUS, .RST_CMD, .HUB_CLK_CMD, .HUB_TIME, .HOST_STATUS, .HOST_ERR_A,
  .HOST_ERR_B, .REC_PERR, .FAC_STATUS, .FAC_ALERT, .HUB_SPLIT_A, .HUB_SPLIT_B, .HUB_SPLIT_C, .IMG_CTRL, .IMG_STATUS,
  .IMG_WADDR, .IMG_WDATA, .IMG_INFO, .IMG_ID, .IMG_FUSE, .IMG_INV, .ID_STATUS, .ID_CERT_CTRL, .ID_CERT_WDATA,
  .ID_PUBKEY, .ID_MEAS3, .EVC_CTRL, .EVC_STATUS, .EVC_ACK, .EVC_EOI, .EVC_TSTAT, .EVC_RECOVER, .EVC_NMI, .EVC_STACK,
  .EVC_GRP_A, .EVC_GRP_B, .EVC_WAKE, .EVC_SRC_CFG, .EVC_SRC_STATE, .CLK_CTRL, .CLK_STAT, .CLK_MON, .CLK_OSC, .CLK_TB,
  .LOOP_CTRL, .LOOP_CFG, .LOOP_SP, .LOOP_SP_MAX, .LOOP_OUT_LIM, .LOOP_INT_LIM, .LOOP_DEST, .LOOP_SCHED, .LOOP_VAL,
  .LOOP_ERR, .LOOP_MANUAL, .LOOP_STAT, .LOOP_LAT, .LOOP_LATE, .LOOP_COUNT, .GT_A, .GT_B, .ENG_STATUS, .STR_W0,
  .STR_W1, .STR_W2, .STR_W3, .STR_W4, .STR_W5, .STR_W6, .STR_W7, .RAIL_STATE, .RAIL_VSEL, .RAIL_LIM, .RAIL_SYNC,
  .RAIL_COMP_A, .RAIL_COMP_B, .RAIL_LOOP, .RAIL_PCM, .RAIL_SHED, .RAIL_SHED_STAT, .RAIL_PH, .RAIL_VSLOT,
  .RAIL_FUSE_STATUS, .RAIL_MEAS, .RAIL_ESTM, .RAIL_FUSED, .RAIL_THETA_LO, .RAIL_THETA_HI, .RAIL_KNEAD,
  .RAIL_KNEAD_RES, .RAIL_RISE, .RAIL_RISE_EXPO, .RAIL_SHAPE_PRED, .PH_CTRL, .PH_STAT, .PH_SAMPLE, .PH_CAL, .TS_CTRL,
  .TS_VAL, .TS_CAL, .TS_THR, .TS_STAT, .TS_HYST, .DD_CTRL, .DD_MAP, .DD_CAL, .DD_THR, .DD_STAT, .NODE_ID,
  .NODE_STATUS, .NODE_BUDGET, .NODE_SPLIT_STAT, .NODE_SPLIT_A, .NODE_SPLIT_B, .NODE_SPLIT_C, .NODE_CHAN, .LEAF_ID,
  .LEAF_EST_STATUS, .LEAF_EST, .LEAF_THETA_LO, .LEAF_THETA_HI, .LEAF_VREF, .LEAF_BUDGET, .LEAF_RAIL_BUDGET,
  .LEAF_CONV, .LEAF_SHED, .LEAF_PART, .LEAF_GATE, .LEAF_CORE, .LEAF_LSYNC, .LEAF_SYNC_STAT, .LEAF_SYNC_EPOCH,
  .LEAF_SYNC_WAIT, .LEAF_SYNC_LAST, .LEAF_SCORE, .LEAF_PROOF, .LEAF_SCORE_CNT, .LEAF_CREDIT, .LEAF_THERM,
  .LEAF_THR_REQ, .LEAF_STACK, .LEAF_TCELL, .LEAF_CHAN, .LEAF_BRAKE, .LEAF_CNT_SEL, .LEAF_CNT_LATCH, .SYNC_OBJ_A,
  .SYNC_OBJ_B, .WATCH_A, .WATCH_B, .CNT_STATUS, .CNT_LATCH, .CNT_GLOBAL, .CNT_CTX, .CNT_UA, .CNT_CTX_E, .REC_RING_A,
  .REC_RING_B, .REC_RING_C, .REC_ROUTE, .REC_STATUS, .TRC_CTRL, .TRC_STATUS, .TRC_PTR, .TRC_LOSS, .TRC_BUF,
  .DXL_STATUS, .DXL_TIME, .DXL_TERR, .DXL_LEASE, .DXL_OFFER, .DXL_JOB, .DXL_PORT_A, .DXL_PORT_B, .DXL_PORT_C,
  .DXL_PORT_D, .MIR_STATUS, .MIR_CMD, .MIR_LAST, .MIR_LAG, .CTX_SYNC_OP, .CTX_SYNC_STAT, .CTX_LATCH, .CTX_LATCH_STAT,
  .CTX_CNT, .CTX_ENERGY, .CTX_LSNAP, .CTX_SYNC_OBJ_A, .CTX_SYNC_OBJ_B]

namespace F
abbrev HUB_VERSION_MAJOR : Fld := ⟨.HUB_VERSION, 0, 8⟩
abbrev HUB_VERSION_MINOR : Fld := ⟨.HUB_VERSION, 8, 8⟩
abbrev HUB_VERSION_PATCH : Fld := ⟨.HUB_VERSION, 16, 16⟩
abbrev HUB_VERSION_FAMILY : Fld := ⟨.HUB_VERSION, 32, 8⟩
abbrev HUB_VERSION_BLOCK : Fld := ⟨.HUB_VERSION, 40, 8⟩
abbrev HUB_CAP_MIRROR : Fld := ⟨.HUB_CAP, 0, 1⟩
abbrev HUB_CAP_TRACE : Fld := ⟨.HUB_CAP, 1, 1⟩
abbrev HUB_CAP_RECORD : Fld := ⟨.HUB_CAP, 2, 1⟩
abbrev HUB_CAP_DXL_PORTS : Fld := ⟨.HUB_CAP, 8, 4⟩
abbrev HUB_CAP_HUB_SITES : Fld := ⟨.HUB_CAP, 16, 7⟩
abbrev HUB_CAP_HUB_TCELLS : Fld := ⟨.HUB_CAP, 24, 5⟩
abbrev HUB_LIMITS_CTX_SLOTS : Fld := ⟨.HUB_LIMITS, 0, 8⟩
abbrev HUB_LIMITS_TARGETS : Fld := ⟨.HUB_LIMITS, 8, 8⟩
abbrev HUB_LIMITS_HUB_ENGINES : Fld := ⟨.HUB_LIMITS, 16, 8⟩
abbrev HUB_LIMITS_MAX_LEVELS : Fld := ⟨.HUB_LIMITS, 24, 8⟩
abbrev HUB_LIMITS_LOOPS : Fld := ⟨.HUB_LIMITS, 32, 16⟩
abbrev HUB_LIMITS_EVT_SOURCES : Fld := ⟨.HUB_LIMITS, 48, 16⟩
abbrev HUB_PKG_STATE_STATE : Fld := ⟨.HUB_PKG_STATE, 0, 4⟩
abbrev HUB_PKG_STATE_PREV : Fld := ⟨.HUB_PKG_STATE, 4, 4⟩
abbrev HUB_PKG_STATE_CAUSE : Fld := ⟨.HUB_PKG_STATE, 8, 8⟩
abbrev HUB_PKG_STATE_BADCMD : Fld := ⟨.HUB_PKG_STATE, 16, 1⟩
abbrev HUB_PKG_STATE_ABORTED : Fld := ⟨.HUB_PKG_STATE, 17, 1⟩
abbrev HUB_PKG_STATE_HOLD_TIMEOUT : Fld := ⟨.HUB_PKG_STATE, 18, 1⟩
abbrev HUB_PKG_STATE_TRIPCOUNT : Fld := ⟨.HUB_PKG_STATE, 24, 8⟩
abbrev HUB_PKG_STATE_ENTRY_TIME : Fld := ⟨.HUB_PKG_STATE, 32, 32⟩
abbrev HUB_PKG_CMD_CMD : Fld := ⟨.HUB_PKG_CMD, 0, 4⟩
abbrev HUB_BUDGET_AVG : Fld := ⟨.HUB_BUDGET, 0, 32⟩
abbrev HUB_BUDGET_FAST : Fld := ⟨.HUB_BUDGET, 32, 32⟩
abbrev HUB_CAPS_EDP_EXH : Fld := ⟨.HUB_CAPS, 0, 1⟩
abbrev HUB_CAPS_SHORT : Fld := ⟨.HUB_CAPS, 1, 1⟩
abbrev HUB_CAPS_LEVEL_MISS : Fld := ⟨.HUB_CAPS, 2, 1⟩
abbrev HUB_CAPS_EXC_CNT : Fld := ⟨.HUB_CAPS, 16, 14⟩
abbrev HUB_CAPS_SURPLUS : Fld := ⟨.HUB_CAPS, 32, 32⟩
abbrev HUB_MODE_MODE : Fld := ⟨.HUB_MODE, 0, 2⟩
abbrev HUB_MODE_REQ : Fld := ⟨.HUB_MODE, 2, 2⟩
abbrev HUB_MODE_PENDING : Fld := ⟨.HUB_MODE, 4, 1⟩
abbrev STR_MARK_CTX : Fld := ⟨.STR_MARK, 0, 4⟩
abbrev STR_MARK_PHASE : Fld := ⟨.STR_MARK, 4, 8⟩
abbrev STR_MARK_OP : Fld := ⟨.STR_MARK, 12, 2⟩
abbrev STR_CMD_CTX : Fld := ⟨.STR_CMD, 0, 4⟩
abbrev STR_CMD_CMD : Fld := ⟨.STR_CMD, 4, 4⟩
abbrev STR_CMD_PHASE : Fld := ⟨.STR_CMD, 8, 8⟩
abbrev STR_STATUS_BUSY : Fld := ⟨.STR_STATUS, 0, 1⟩
abbrev STR_STATUS_BUSY_CTX : Fld := ⟨.STR_STATUS, 1, 4⟩
abbrev STR_STATUS_ECC_INV : Fld := ⟨.STR_STATUS, 5, 1⟩
abbrev STR_STATUS_ECC_COUNT : Fld := ⟨.STR_STATUS, 16, 16⟩
abbrev STR_STATUS_MARKS : Fld := ⟨.STR_STATUS, 32, 32⟩
abbrev STR_CTX_PHASE : Fld := ⟨.STR_CTX, 0, 8⟩
abbrev STR_CTX_IN_PHASE : Fld := ⟨.STR_CTX, 8, 1⟩
abbrev STR_CTX_LEARN : Fld := ⟨.STR_CTX, 9, 1⟩
abbrev STR_CTX_RETAIN : Fld := ⟨.STR_CTX, 10, 1⟩
abbrev STR_CTX_AUTO_PART : Fld := ⟨.STR_CTX, 11, 1⟩
abbrev STR_CTX_PRED_VALID : Fld := ⟨.STR_CTX, 12, 1⟩
abbrev STR_CTX_PRED : Fld := ⟨.STR_CTX, 16, 8⟩
abbrev STR_CTX_QUARTERS : Fld := ⟨.STR_CTX, 32, 32⟩
abbrev SYNC_CMD_OP : Fld := ⟨.SYNC_CMD, 0, 5⟩
abbrev SYNC_CMD_OBJ : Fld := ⟨.SYNC_CMD, 8, 14⟩
abbrev SYNC_CMD_ARG0 : Fld := ⟨.SYNC_CMD, 24, 16⟩
abbrev SYNC_CMD_ARG1 : Fld := ⟨.SYNC_CMD, 40, 16⟩
abbrev SYNC_CMD_ARG2 : Fld := ⟨.SYNC_CMD, 56, 8⟩
abbrev SYNC_STATUS_SWITCH_BUSY : Fld := ⟨.SYNC_STATUS, 0, 1⟩
abbrev SYNC_STATUS_SWITCH_CTX : Fld := ⟨.SYNC_STATUS, 1, 4⟩
abbrev SYNC_STATUS_WATCH_FULL : Fld := ⟨.SYNC_STATUS, 5, 1⟩
abbrev SYNC_STATUS_ABSENT : Fld := ⟨.SYNC_STATUS, 16, 16⟩
abbrev SYNC_STATUS_STALE : Fld := ⟨.SYNC_STATUS, 32, 16⟩
abbrev SYNC_STATUS_OVERRUNS : Fld := ⟨.SYNC_STATUS, 48, 16⟩
abbrev SYNC_CTX_OBJ_BASE : Fld := ⟨.SYNC_CTX, 0, 14⟩
abbrev SYNC_CTX_OBJ_COUNT : Fld := ⟨.SYNC_CTX, 14, 12⟩
abbrev SYNC_CTX_CEPOCH : Fld := ⟨.SYNC_CTX, 26, 4⟩
abbrev SYNC_CTX_SWITCHING : Fld := ⟨.SYNC_CTX, 30, 1⟩
abbrev SYNC_CTX_WATCH_BASE : Fld := ⟨.SYNC_CTX, 32, 16⟩
abbrev SYNC_CTXW_WATCH_COUNT : Fld := ⟨.SYNC_CTXW, 0, 17⟩
abbrev SYNC_CTXW_WATCH_USED : Fld := ⟨.SYNC_CTXW, 32, 17⟩
abbrev SHP_CTRL_RISE_EN : Fld := ⟨.SHP_CTRL, 0, 1⟩
abbrev SHP_CTRL_PROOF_EN : Fld := ⟨.SHP_CTRL, 1, 1⟩
abbrev SHP_CTRL_ARM_FULL : Fld := ⟨.SHP_CTRL, 2, 1⟩
abbrev SHP_STATUS_SHAPED : Fld := ⟨.SHP_STATUS, 0, 16⟩
abbrev SHP_STATUS_RISE_REQS : Fld := ⟨.SHP_STATUS, 16, 16⟩
abbrev SHP_STATUS_RISE_CANCEL : Fld := ⟨.SHP_STATUS, 32, 16⟩
abbrev SHP_STATUS_RISE_TIMEOUT : Fld := ⟨.SHP_STATUS, 48, 16⟩
abbrev SHP_LAST_OBJ : Fld := ⟨.SHP_LAST, 0, 14⟩
abbrev SHP_LAST_SPAN : Fld := ⟨.SHP_LAST, 14, 1⟩
abbrev SHP_LAST_WM1 : Fld := ⟨.SHP_LAST, 16, 4⟩
abbrev SHP_LAST_GAPC : Fld := ⟨.SHP_LAST, 20, 4⟩
abbrev SHP_LAST_ROT : Fld := ⟨.SHP_LAST, 24, 10⟩
abbrev SHP_LAST_I_DI_MAX : Fld := ⟨.SHP_LAST_I, 0, 32⟩
abbrev SHP_LAST_I_RAIL : Fld := ⟨.SHP_LAST_I, 32, 5⟩
abbrev THM_STATUS_HUB_TEMP : Fld := ⟨.THM_STATUS, 0, 16⟩
abbrev THM_STATUS_HUB_BAND : Fld := ⟨.THM_STATUS, 16, 3⟩
abbrev THM_STATUS_HUB_LEVEL : Fld := ⟨.THM_STATUS, 19, 2⟩
abbrev THM_STATUS_CAL_BUSY : Fld := ⟨.THM_STATUS, 21, 1⟩
abbrev THM_STATUS_CAL_PASSES : Fld := ⟨.THM_STATUS, 32, 16⟩
abbrev THM_STATUS_BAD_SITES : Fld := ⟨.THM_STATUS, 48, 16⟩
abbrev HUB_TCELL_DIV : Fld := ⟨.HUB_TCELL, 0, 2⟩
abbrev HUB_TCELL_FLOOR : Fld := ⟨.HUB_TCELL, 2, 1⟩
abbrev HUB_TCELL_GOV : Fld := ⟨.HUB_TCELL, 3, 1⟩
abbrev HUB_TCELL_SKIP : Fld := ⟨.HUB_TCELL, 16, 16⟩
abbrev HUB_TCELL_THR_SKIP : Fld := ⟨.HUB_TCELL, 32, 16⟩
abbrev HUB_TCELL_THR_DIV : Fld := ⟨.HUB_TCELL, 48, 2⟩
abbrev HUB_TCELL_THR_ACTIVE : Fld := ⟨.HUB_TCELL, 50, 1⟩
abbrev HUB_TCELL_GOV_ACTIVE : Fld := ⟨.HUB_TCELL, 51, 1⟩
abbrev HUB_TCELL_MODE_ACTIVE : Fld := ⟨.HUB_TCELL, 52, 1⟩
abbrev HUB_CHAN_STATE : Fld := ⟨.HUB_CHAN, 0, 3⟩
abbrev HUB_CHAN_FAR_ALIVE : Fld := ⟨.HUB_CHAN, 3, 1⟩
abbrev HUB_CHAN_PRESENT : Fld := ⟨.HUB_CHAN, 4, 1⟩
abbrev HUB_CHAN_SILENT : Fld := ⟨.HUB_CHAN, 5, 1⟩
abbrev HUB_CHAN_FENCE_TO : Fld := ⟨.HUB_CHAN, 6, 1⟩
abbrev HUB_CHAN_PENDING : Fld := ⟨.HUB_CHAN, 8, 8⟩
abbrev HUB_CHAN_EPOCH : Fld := ⟨.HUB_CHAN, 16, 16⟩
abbrev HUB_CHAN_STALE_DROPS : Fld := ⟨.HUB_CHAN, 32, 16⟩
abbrev HUB_CHAN_ABSENT_REPLIES : Fld := ⟨.HUB_CHAN, 48, 16⟩
abbrev CRUST_STATUS_STOP : Fld := ⟨.CRUST_STATUS, 0, 1⟩
abbrev CRUST_STATUS_THERMTRIP : Fld := ⟨.CRUST_STATUS, 1, 1⟩
abbrev CRUST_STATUS_BRAKE_ACTIVE : Fld := ⟨.CRUST_STATUS, 2, 1⟩
abbrev CRUST_STATUS_UV_HALTED : Fld := ⟨.CRUST_STATUS, 3, 1⟩
abbrev CRUST_STATUS_COOLANT_OK : Fld := ⟨.CRUST_STATUS, 4, 1⟩
abbrev CRUST_STATUS_PWR_BRAKE_N : Fld := ⟨.CRUST_STATUS, 5, 1⟩
abbrev CRUST_LATCH_OC : Fld := ⟨.CRUST_LATCH, 0, 1⟩
abbrev CRUST_LATCH_OV : Fld := ⟨.CRUST_LATCH, 1, 1⟩
abbrev CRUST_LATCH_UV : Fld := ⟨.CRUST_LATCH, 2, 1⟩
abbrev CRUST_LATCH_THERMAL : Fld := ⟨.CRUST_LATCH, 3, 1⟩
abbrev CRUST_LATCH_COOLANT : Fld := ⟨.CRUST_LATCH, 4, 1⟩
abbrev CRUST_LATCH_CLOCK : Fld := ⟨.CRUST_LATCH, 5, 1⟩
abbrev CRUST_LATCH_BRAKE : Fld := ⟨.CRUST_LATCH, 6, 1⟩
abbrev CRUST_LAST_CLASS : Fld := ⟨.CRUST_LAST, 0, 8⟩
abbrev CRUST_LAST_STAMP : Fld := ⟨.CRUST_LAST, 16, 48⟩
abbrev CRUST_RAIL_OC : Fld := ⟨.CRUST_RAIL, 0, 32⟩
abbrev CRUST_RAIL_OV : Fld := ⟨.CRUST_RAIL, 32, 32⟩
abbrev CRUST_RAIL_UV_UV : Fld := ⟨.CRUST_RAIL_UV, 0, 32⟩
abbrev ECC_STATUS_UNCORR : Fld := ⟨.ECC_STATUS, 0, 4⟩
abbrev ECC_STATUS_POS : Fld := ⟨.ECC_STATUS, 8, 24⟩
abbrev ECC_STATUS_STORE : Fld := ⟨.ECC_STATUS, 32, 2⟩
abbrev ECC_COUNT_CORR : Fld := ⟨.ECC_COUNT, 0, 32⟩
abbrev ECC_COUNT_UNCORR : Fld := ⟨.ECC_COUNT, 32, 16⟩
abbrev RST_STATUS_LAST : Fld := ⟨.RST_STATUS, 0, 2⟩
abbrev RST_STATUS_BOOT_VSEL : Fld := ⟨.RST_STATUS, 8, 12⟩
abbrev RST_STATUS_WARM : Fld := ⟨.RST_STATUS, 32, 16⟩
abbrev RST_CMD_CMD : Fld := ⟨.RST_CMD, 0, 2⟩
abbrev RST_CMD_DOMAIN : Fld := ⟨.RST_CMD, 16, 16⟩
abbrev HUB_CLK_CMD_CMD : Fld := ⟨.HUB_CLK_CMD, 0, 2⟩
abbrev HUB_CLK_CMD_PENDING : Fld := ⟨.HUB_CLK_CMD, 16, 10⟩
abbrev HUB_TIME_TIME : Fld := ⟨.HUB_TIME, 0, 64⟩
abbrev HOST_STATUS_WRITES_LOST : Fld := ⟨.HOST_STATUS, 0, 16⟩
abbrev HOST_STATUS_PERR_SEEN : Fld := ⟨.HOST_STATUS, 16, 1⟩
abbrev HOST_STATUS_RSPTO_SEEN : Fld := ⟨.HOST_STATUS, 17, 1⟩
abbrev HOST_STATUS_PQ_DEPTH : Fld := ⟨.HOST_STATUS, 18, 6⟩
abbrev HOST_STATUS_OUTSTANDING : Fld := ⟨.HOST_STATUS, 24, 6⟩
abbrev HOST_STATUS_POSTED : Fld := ⟨.HOST_STATUS, 32, 32⟩
abbrev HOST_ERR_A_ADDR : Fld := ⟨.HOST_ERR_A, 0, 48⟩
abbrev HOST_ERR_A_STATUS : Fld := ⟨.HOST_ERR_A, 48, 8⟩
abbrev HOST_ERR_A_WRITE : Fld := ⟨.HOST_ERR_A, 56, 1⟩
abbrev HOST_ERR_A_POSTED : Fld := ⟨.HOST_ERR_A, 57, 1⟩
abbrev HOST_ERR_A_VALID : Fld := ⟨.HOST_ERR_A, 58, 1⟩
abbrev HOST_ERR_B_INIT : Fld := ⟨.HOST_ERR_B, 0, 16⟩
abbrev HOST_ERR_B_TIME : Fld := ⟨.HOST_ERR_B, 32, 32⟩
abbrev REC_PERR_RING : Fld := ⟨.REC_PERR, 0, 2⟩
abbrev REC_PERR_FAULT_SEEN : Fld := ⟨.REC_PERR, 2, 1⟩
abbrev REC_PERR_ADDR : Fld := ⟨.REC_PERR, 16, 48⟩
abbrev FAC_STATUS_MODE : Fld := ⟨.FAC_STATUS, 0, 1⟩
abbrev FAC_STATUS_ADDR : Fld := ⟨.FAC_STATUS, 1, 7⟩
abbrev FAC_STATUS_DA_VALID : Fld := ⟨.FAC_STATUS, 8, 1⟩
abbrev FAC_STATUS_DYN_ADDR : Fld := ⟨.FAC_STATUS, 9, 7⟩
abbrev FAC_STATUS_EID : Fld := ⟨.FAC_STATUS, 16, 8⟩
abbrev FAC_STATUS_SESSIONS : Fld := ⟨.FAC_STATUS, 24, 2⟩
abbrev FAC_STATUS_ERRORS : Fld := ⟨.FAC_STATUS, 32, 16⟩
abbrev FAC_ALERT_PEND : Fld := ⟨.FAC_ALERT, 0, 8⟩
abbrev FAC_ALERT_EN : Fld := ⟨.FAC_ALERT, 8, 8⟩
abbrev FAC_ALERT_SW : Fld := ⟨.FAC_ALERT, 16, 1⟩
abbrev FAC_ALERT_LEVEL : Fld := ⟨.FAC_ALERT, 17, 1⟩
abbrev HUB_SPLIT_A_NEED : Fld := ⟨.HUB_SPLIT_A, 0, 32⟩
abbrev HUB_SPLIT_A_WEIGHT : Fld := ⟨.HUB_SPLIT_A, 32, 16⟩
abbrev HUB_SPLIT_A_UP : Fld := ⟨.HUB_SPLIT_A, 48, 1⟩
abbrev HUB_SPLIT_B_FLOOR : Fld := ⟨.HUB_SPLIT_B, 0, 32⟩
abbrev HUB_SPLIT_B_CEIL : Fld := ⟨.HUB_SPLIT_B, 32, 32⟩
abbrev HUB_SPLIT_C_GRANT_AVG : Fld := ⟨.HUB_SPLIT_C, 0, 32⟩
abbrev HUB_SPLIT_C_GRANT_FAST : Fld := ⟨.HUB_SPLIT_C, 32, 32⟩
abbrev IMG_CTRL_CMD : Fld := ⟨.IMG_CTRL, 0, 4⟩
abbrev IMG_STATUS_LOADER : Fld := ⟨.IMG_STATUS, 0, 3⟩
abbrev IMG_STATUS_OWNER_FAC : Fld := ⟨.IMG_STATUS, 3, 1⟩
abbrev IMG_STATUS_ACTIVE_BANK : Fld := ⟨.IMG_STATUS, 4, 1⟩
abbrev IMG_STATUS_FALLBACK : Fld := ⟨.IMG_STATUS, 5, 1⟩
abbrev IMG_STATUS_FUSING : Fld := ⟨.IMG_STATUS, 6, 1⟩
abbrev IMG_STATUS_PARAM_ECC : Fld := ⟨.IMG_STATUS, 7, 1⟩
abbrev IMG_STATUS_STATUS : Fld := ⟨.IMG_STATUS, 8, 8⟩
abbrev IMG_STATUS_DETAIL : Fld := ⟨.IMG_STATUS, 16, 8⟩
abbrev IMG_STATUS_STEP : Fld := ⟨.IMG_STATUS, 24, 4⟩
abbrev IMG_STATUS_FAIL_OFFSET : Fld := ⟨.IMG_STATUS, 32, 32⟩
abbrev IMG_WADDR_PTR : Fld := ⟨.IMG_WADDR, 0, 20⟩
abbrev IMG_WDATA_DATA : Fld := ⟨.IMG_WDATA, 0, 64⟩
abbrev IMG_INFO_SVN : Fld := ⟨.IMG_INFO, 0, 8⟩
abbrev IMG_INFO_MINOR : Fld := ⟨.IMG_INFO, 8, 8⟩
abbrev IMG_INFO_PARAM_SEQ : Fld := ⟨.IMG_INFO, 32, 32⟩
abbrev IMG_ID_IMAGE_ID : Fld := ⟨.IMG_ID, 0, 64⟩
abbrev IMG_FUSE_FUSED_SVN : Fld := ⟨.IMG_FUSE, 0, 8⟩
abbrev IMG_INV_PRESENT : Fld := ⟨.IMG_INV, 0, 16⟩
abbrev IMG_INV_DISABLED : Fld := ⟨.IMG_INV, 16, 16⟩
abbrev ID_STATUS_KEY_READY : Fld := ⟨.ID_STATUS, 0, 1⟩
abbrev ID_STATUS_CERT_VALID : Fld := ⟨.ID_STATUS, 1, 1⟩
abbrev ID_STATUS_FILLING : Fld := ⟨.ID_STATUS, 2, 1⟩
abbrev ID_STATUS_CERT_LEN : Fld := ⟨.ID_STATUS, 16, 13⟩
abbrev ID_CERT_CTRL_CMD : Fld := ⟨.ID_CERT_CTRL, 0, 2⟩
abbrev ID_CERT_CTRL_LEN : Fld := ⟨.ID_CERT_CTRL, 16, 13⟩
abbrev ID_CERT_WDATA_DATA : Fld := ⟨.ID_CERT_WDATA, 0, 64⟩
abbrev ID_PUBKEY_KEY : Fld := ⟨.ID_PUBKEY, 0, 64⟩
abbrev ID_MEAS3_D : Fld := ⟨.ID_MEAS3, 0, 64⟩
abbrev EVC_CTRL_PRIGROUP : Fld := ⟨.EVC_CTRL, 0, 3⟩
abbrev EVC_STATUS_UNMAPPED : Fld := ⟨.EVC_STATUS, 0, 16⟩
abbrev EVC_STATUS_WAKE_IGN : Fld := ⟨.EVC_STATUS, 16, 16⟩
abbrev EVC_STATUS_PG_PEND : Fld := ⟨.EVC_STATUS, 32, 1⟩
abbrev EVC_ACK_SRC : Fld := ⟨.EVC_ACK, 0, 10⟩
abbrev EVC_ACK_VALID : Fld := ⟨.EVC_ACK, 16, 1⟩
abbrev EVC_ACK_PRI : Fld := ⟨.EVC_ACK, 24, 8⟩
abbrev EVC_EOI_SRC : Fld := ⟨.EVC_EOI, 0, 10⟩
abbrev EVC_TSTAT_DEPTH : Fld := ⟨.EVC_TSTAT, 0, 5⟩
abbrev EVC_TSTAT_FROZEN : Fld := ⟨.EVC_TSTAT, 5, 1⟩
abbrev EVC_TSTAT_FULL : Fld := ⟨.EVC_TSTAT, 6, 1⟩
abbrev EVC_TSTAT_IRQ : Fld := ⟨.EVC_TSTAT, 7, 1⟩
abbrev EVC_TSTAT_NMI : Fld := ⟨.EVC_TSTAT, 8, 1⟩
abbrev EVC_TSTAT_FAULT_SRC : Fld := ⟨.EVC_TSTAT, 16, 10⟩
abbrev EVC_TSTAT_NESTFAULTS : Fld := ⟨.EVC_TSTAT, 32, 16⟩
abbrev EVC_RECOVER_CMD : Fld := ⟨.EVC_RECOVER, 0, 2⟩
abbrev EVC_RECOVER_SRC : Fld := ⟨.EVC_RECOVER, 16, 10⟩
abbrev EVC_NMI_SRC : Fld := ⟨.EVC_NMI, 0, 10⟩
abbrev EVC_NMI_VALID : Fld := ⟨.EVC_NMI, 16, 1⟩
abbrev EVC_STACK_ENTRY0 : Fld := ⟨.EVC_STACK, 0, 10⟩
abbrev EVC_STACK_ENTRY1 : Fld := ⟨.EVC_STACK, 16, 10⟩
abbrev EVC_STACK_ENTRY2 : Fld := ⟨.EVC_STACK, 32, 10⟩
abbrev EVC_STACK_ENTRY3 : Fld := ⟨.EVC_STACK, 48, 10⟩
abbrev EVC_GRP_A_CNT_TH : Fld := ⟨.EVC_GRP_A, 0, 8⟩
abbrev EVC_GRP_A_TIME_TH : Fld := ⟨.EVC_GRP_A, 16, 16⟩
abbrev EVC_GRP_A_OPEN : Fld := ⟨.EVC_GRP_A, 32, 1⟩
abbrev EVC_GRP_A_COUNT : Fld := ⟨.EVC_GRP_A, 40, 8⟩
abbrev EVC_GRP_A_FIRES : Fld := ⟨.EVC_GRP_A, 48, 16⟩
abbrev EVC_GRP_B_OPEN_TIME : Fld := ⟨.EVC_GRP_B, 0, 64⟩
abbrev EVC_WAKE_SOURCE : Fld := ⟨.EVC_WAKE, 0, 10⟩
abbrev EVC_WAKE_EN : Fld := ⟨.EVC_WAKE, 16, 1⟩
abbrev EVC_WAKE_SEEN : Fld := ⟨.EVC_WAKE, 17, 1⟩
abbrev EVC_WAKE_IGNORED : Fld := ⟨.EVC_WAKE, 18, 1⟩
abbrev EVC_SRC_CFG_EN : Fld := ⟨.EVC_SRC_CFG, 0, 1⟩
abbrev EVC_SRC_CFG_TARGET : Fld := ⟨.EVC_SRC_CFG, 1, 2⟩
abbrev EVC_SRC_CFG_PRI : Fld := ⟨.EVC_SRC_CFG, 8, 8⟩
abbrev EVC_SRC_CFG_NMI_MASK : Fld := ⟨.EVC_SRC_CFG, 16, 4⟩
abbrev EVC_SRC_CFG_GROUP : Fld := ⟨.EVC_SRC_CFG, 24, 6⟩
abbrev EVC_SRC_CFG_GRP_EN : Fld := ⟨.EVC_SRC_CFG, 30, 1⟩
abbrev EVC_SRC_CFG_CODE : Fld := ⟨.EVC_SRC_CFG, 32, 8⟩
abbrev EVC_SRC_CFG_INSTANCE : Fld := ⟨.EVC_SRC_CFG, 48, 16⟩
abbrev EVC_SRC_STATE_LEVEL : Fld := ⟨.EVC_SRC_STATE, 0, 1⟩
abbrev EVC_SRC_STATE_LATCH : Fld := ⟨.EVC_SRC_STATE, 1, 1⟩
abbrev EVC_SRC_STATE_PEND : Fld := ⟨.EVC_SRC_STATE, 2, 1⟩
abbrev EVC_SRC_STATE_ACTIVE : Fld := ⟨.EVC_SRC_STATE, 3, 1⟩
abbrev EVC_SRC_STATE_HELD : Fld := ⟨.EVC_SRC_STATE, 4, 1⟩
abbrev EVC_SRC_STATE_SETPEND : Fld := ⟨.EVC_SRC_STATE, 5, 1⟩
abbrev EVC_SRC_STATE_CLRPEND : Fld := ⟨.EVC_SRC_STATE, 6, 1⟩
abbrev EVC_SRC_STATE_OCC : Fld := ⟨.EVC_SRC_STATE, 16, 16⟩
abbrev EVC_SRC_STATE_LAST_TIME : Fld := ⟨.EVC_SRC_STATE, 32, 32⟩
abbrev CLK_CTRL_SEL : Fld := ⟨.CLK_CTRL, 0, 1⟩
abbrev CLK_CTRL_RECAL : Fld := ⟨.CLK_CTRL, 1, 1⟩
abbrev CLK_STAT_PLL_RUN : Fld := ⟨.CLK_STAT, 0, 1⟩
abbrev CLK_STAT_OSC_RUN : Fld := ⟨.CLK_STAT, 1, 1⟩
abbrev CLK_STAT_PLL_LOCK : Fld := ⟨.CLK_STAT, 2, 1⟩
abbrev CLK_STAT_ON_OSC : Fld := ⟨.CLK_STAT, 3, 1⟩
abbrev CLK_STAT_MUX_BUSY : Fld := ⟨.CLK_STAT, 4, 1⟩
abbrev CLK_STAT_MON_GOOD : Fld := ⟨.CLK_STAT, 5, 1⟩
abbrev CLK_STAT_FAIL_SEEN : Fld := ⟨.CLK_STAT, 6, 1⟩
abbrev CLK_STAT_MUX_HUNG : Fld := ⟨.CLK_STAT, 7, 1⟩
abbrev CLK_STAT_FAIL_CAUSE : Fld := ⟨.CLK_STAT, 8, 2⟩
abbrev CLK_STAT_TB_STEP : Fld := ⟨.CLK_STAT, 10, 1⟩
abbrev CLK_STAT_TB_ERR : Fld := ⟨.CLK_STAT, 11, 1⟩
abbrev CLK_STAT_FAILS : Fld := ⟨.CLK_STAT, 16, 16⟩
abbrev CLK_STAT_FAIL_TIME : Fld := ⟨.CLK_STAT, 32, 32⟩
abbrev CLK_MON_LAST_CNT : Fld := ⟨.CLK_MON, 0, 16⟩
abbrev CLK_MON_WIN : Fld := ⟨.CLK_MON, 16, 16⟩
abbrev CLK_MON_GAP : Fld := ⟨.CLK_MON, 32, 16⟩
abbrev CLK_MON_GOOD_WIN : Fld := ⟨.CLK_MON, 48, 8⟩
abbrev CLK_OSC_OSC_KHZ : Fld := ⟨.CLK_OSC, 0, 24⟩
abbrev CLK_OSC_CAL_VALID : Fld := ⟨.CLK_OSC, 24, 1⟩
abbrev CLK_OSC_INC : Fld := ⟨.CLK_OSC, 32, 32⟩
abbrev CLK_TB_ERR : Fld := ⟨.CLK_TB, 0, 32⟩
abbrev CLK_TB_DELAY : Fld := ⟨.CLK_TB, 32, 8⟩
abbrev LOOP_CTRL_STATE : Fld := ⟨.LOOP_CTRL, 0, 2⟩
abbrev LOOP_CTRL_CMD : Fld := ⟨.LOOP_CTRL, 4, 2⟩
abbrev LOOP_CTRL_LDR_HOLD : Fld := ⟨.LOOP_CTRL, 8, 1⟩
abbrev LOOP_CTRL_SLEEP_RUN : Fld := ⟨.LOOP_CTRL, 9, 1⟩
abbrev LOOP_CFG_IN_KIND : Fld := ⟨.LOOP_CFG, 0, 3⟩
abbrev LOOP_CFG_IN_SEL : Fld := ⟨.LOOP_CFG, 3, 1⟩
abbrev LOOP_CFG_LIMIT_KIND : Fld := ⟨.LOOP_CFG, 4, 3⟩
abbrev LOOP_CFG_GTABLE : Fld := ⟨.LOOP_CFG, 8, 7⟩
abbrev LOOP_CFG_SP_LINK_EN : Fld := ⟨.LOOP_CFG, 15, 1⟩
abbrev LOOP_CFG_SP_LINK : Fld := ⟨.LOOP_CFG, 16, 9⟩
abbrev LOOP_CFG_IN_INDEX : Fld := ⟨.LOOP_CFG, 32, 16⟩
abbrev LOOP_SP_SP : Fld := ⟨.LOOP_SP, 0, 32⟩
abbrev LOOP_SP_EFF_SP : Fld := ⟨.LOOP_SP, 32, 32⟩
abbrev LOOP_SP_MAX_SP_MAX : Fld := ⟨.LOOP_SP_MAX, 0, 32⟩
abbrev LOOP_OUT_LIM_OUT_MIN : Fld := ⟨.LOOP_OUT_LIM, 0, 32⟩
abbrev LOOP_OUT_LIM_OUT_MAX : Fld := ⟨.LOOP_OUT_LIM, 32, 32⟩
abbrev LOOP_INT_LIM_INT_MIN : Fld := ⟨.LOOP_INT_LIM, 0, 32⟩
abbrev LOOP_INT_LIM_INT_MAX : Fld := ⟨.LOOP_INT_LIM, 32, 32⟩
abbrev LOOP_DEST_DEST_KIND : Fld := ⟨.LOOP_DEST, 0, 2⟩
abbrev LOOP_DEST_BCLASS : Fld := ⟨.LOOP_DEST, 2, 2⟩
abbrev LOOP_DEST_DEST : Fld := ⟨.LOOP_DEST, 16, 16⟩
abbrev LOOP_SCHED_ENGINE : Fld := ⟨.LOOP_SCHED, 0, 3⟩
abbrev LOOP_SCHED_PCLASS : Fld := ⟨.LOOP_SCHED, 4, 2⟩
abbrev LOOP_SCHED_HOST : Fld := ⟨.LOOP_SCHED, 16, 16⟩
abbrev LOOP_SCHED_PHASE : Fld := ⟨.LOOP_SCHED, 32, 32⟩
abbrev LOOP_VAL_I : Fld := ⟨.LOOP_VAL, 0, 32⟩
abbrev LOOP_VAL_U : Fld := ⟨.LOOP_VAL, 32, 32⟩
abbrev LOOP_ERR_E : Fld := ⟨.LOOP_ERR, 0, 32⟩
abbrev LOOP_ERR_Y : Fld := ⟨.LOOP_ERR, 32, 32⟩
abbrev LOOP_MANUAL_MANUAL : Fld := ⟨.LOOP_MANUAL, 0, 32⟩
abbrev LOOP_MANUAL_MAN_EN : Fld := ⟨.LOOP_MANUAL, 32, 1⟩
abbrev LOOP_STAT_SAT_P : Fld := ⟨.LOOP_STAT, 0, 1⟩
abbrev LOOP_STAT_SAT_I : Fld := ⟨.LOOP_STAT, 1, 1⟩
abbrev LOOP_STAT_SAT_OUT : Fld := ⟨.LOOP_STAT, 2, 1⟩
abbrev LOOP_STAT_WR_REJ : Fld := ⟨.LOOP_STAT, 3, 1⟩
abbrev LOOP_STAT_SLIP : Fld := ⟨.LOOP_STAT, 4, 1⟩
abbrev LOOP_STAT_DEST_ABSENT : Fld := ⟨.LOOP_STAT, 5, 1⟩
abbrev LOOP_STAT_OVERRIDDEN : Fld := ⟨.LOOP_STAT, 8, 1⟩
abbrev LOOP_STAT_CLAMP_HI : Fld := ⟨.LOOP_STAT, 9, 1⟩
abbrev LOOP_STAT_CLAMP_LO : Fld := ⟨.LOOP_STAT, 10, 1⟩
abbrev LOOP_STAT_BAND : Fld := ⟨.LOOP_STAT, 16, 5⟩
abbrev LOOP_LAT_COMMIT_LAT : Fld := ⟨.LOOP_LAT, 0, 16⟩
abbrev LOOP_LAT_COMMIT_MAX : Fld := ⟨.LOOP_LAT, 16, 16⟩
abbrev LOOP_LAT_APPLIED : Fld := ⟨.LOOP_LAT, 32, 32⟩
abbrev LOOP_LATE_LATE : Fld := ⟨.LOOP_LATE, 0, 32⟩
abbrev LOOP_LATE_MAX_LATE : Fld := ⟨.LOOP_LATE, 32, 32⟩
abbrev LOOP_COUNT_TICKS : Fld := ⟨.LOOP_COUNT, 0, 32⟩
abbrev LOOP_COUNT_SLIPS : Fld := ⟨.LOOP_COUNT, 32, 16⟩
abbrev LOOP_COUNT_MISSED : Fld := ⟨.LOOP_COUNT, 48, 16⟩
abbrev GT_A_EDGE : Fld := ⟨.GT_A, 0, 32⟩
abbrev GT_A_KP_M : Fld := ⟨.GT_A, 32, 32⟩
abbrev GT_B_KI_M : Fld := ⟨.GT_B, 0, 32⟩
abbrev GT_B_KP_S : Fld := ⟨.GT_B, 32, 5⟩
abbrev GT_B_KI_S : Fld := ⟨.GT_B, 40, 5⟩
abbrev ENG_STATUS_LOOPS : Fld := ⟨.ENG_STATUS, 0, 7⟩
abbrev ENG_STATUS_LOAD : Fld := ⟨.ENG_STATUS, 8, 10⟩
abbrev ENG_STATUS_SLIPS : Fld := ⟨.ENG_STATUS, 32, 16⟩
abbrev STR_W0_NQ : Fld := ⟨.STR_W0, 0, 32⟩
abbrev STR_W0_PB : Fld := ⟨.STR_W0, 32, 32⟩
abbrev STR_W1_RF : Fld := ⟨.STR_W1, 0, 32⟩
abbrev STR_W1_RB : Fld := ⟨.STR_W1, 32, 32⟩
abbrev STR_W2_ELAST : Fld := ⟨.STR_W2, 0, 16⟩
abbrev STR_W2_NEXT : Fld := ⟨.STR_W2, 16, 8⟩
abbrev STR_W2_CONF : Fld := ⟨.STR_W2, 24, 4⟩
abbrev STR_W2_VISITS : Fld := ⟨.STR_W2, 32, 16⟩
abbrev STR_W3_DUR : Fld := ⟨.STR_W3, 0, 32⟩
abbrev STR_W3_LAST_DUR : Fld := ⟨.STR_W3, 32, 32⟩
abbrev STR_W4_ENTRY_TIME : Fld := ⟨.STR_W4, 0, 64⟩
abbrev STR_W5_VF : Fld := ⟨.STR_W5, 0, 1⟩
abbrev STR_W5_VB : Fld := ⟨.STR_W5, 1, 1⟩
abbrev STR_W5_VE : Fld := ⟨.STR_W5, 2, 1⟩
abbrev STR_W5_SEEDED : Fld := ⟨.STR_W5, 3, 1⟩
abbrev STR_W5_ACTIVE : Fld := ⟨.STR_W5, 4, 1⟩
abbrev STR_W5_SAMPLES_F : Fld := ⟨.STR_W5, 16, 16⟩
abbrev STR_W5_SAMPLES_B : Fld := ⟨.STR_W5, 32, 16⟩
abbrev STR_W6_PREF_LIMIT : Fld := ⟨.STR_W6, 0, 9⟩
abbrev STR_W6_PREF_WEIGHT : Fld := ⟨.STR_W6, 16, 16⟩
abbrev STR_W6_PREF_EN : Fld := ⟨.STR_W6, 32, 1⟩
abbrev RAIL_STATE_STATE : Fld := ⟨.RAIL_STATE, 0, 3⟩
abbrev RAIL_STATE_PG : Fld := ⟨.RAIL_STATE, 3, 1⟩
abbrev RAIL_STATE_NOSINK : Fld := ⟨.RAIL_STATE, 4, 1⟩
abbrev RAIL_STATE_HALT_SEEN : Fld := ⟨.RAIL_STATE, 5, 1⟩
abbrev RAIL_STATE_NPH_EN : Fld := ⟨.RAIL_STATE, 8, 6⟩
abbrev RAIL_STATE_V_PRE : Fld := ⟨.RAIL_STATE, 16, 12⟩
abbrev RAIL_STATE_VSENSE : Fld := ⟨.RAIL_STATE, 32, 12⟩
abbrev RAIL_VSEL_SEL : Fld := ⟨.RAIL_VSEL, 0, 3⟩
abbrev RAIL_VSEL_DONE : Fld := ⟨.RAIL_VSEL, 3, 1⟩
abbrev RAIL_VSEL_RET_SLOT : Fld := ⟨.RAIL_VSEL, 4, 3⟩
abbrev RAIL_VSEL_FW : Fld := ⟨.RAIL_VSEL, 7, 1⟩
abbrev RAIL_VSEL_BASE_TGT : Fld := ⟨.RAIL_VSEL, 16, 12⟩
abbrev RAIL_VSEL_BASE_REF : Fld := ⟨.RAIL_VSEL, 32, 12⟩
abbrev RAIL_VSEL_REF : Fld := ⟨.RAIL_VSEL, 48, 12⟩
abbrev RAIL_LIM_VMIN : Fld := ⟨.RAIL_LIM, 0, 12⟩
abbrev RAIL_LIM_VMAX : Fld := ⟨.RAIL_LIM, 16, 12⟩
abbrev RAIL_LIM_GB : Fld := ⟨.RAIL_LIM, 32, 8⟩
abbrev RAIL_LIM_BAND : Fld := ⟨.RAIL_LIM, 40, 3⟩
abbrev RAIL_SYNC_DIV : Fld := ⟨.RAIL_SYNC, 0, 13⟩
abbrev RAIL_SYNC_OFS : Fld := ⟨.RAIL_SYNC, 16, 13⟩
abbrev RAIL_SYNC_PHASE_LOST : Fld := ⟨.RAIL_SYNC, 29, 1⟩
abbrev RAIL_SYNC_PHASE_LOST_SEEN : Fld := ⟨.RAIL_SYNC, 30, 1⟩
abbrev RAIL_SYNC_FB_DIV : Fld := ⟨.RAIL_SYNC, 32, 12⟩
abbrev RAIL_COMP_A_B0_M : Fld := ⟨.RAIL_COMP_A, 0, 32⟩
abbrev RAIL_COMP_A_B1_M : Fld := ⟨.RAIL_COMP_A, 32, 32⟩
abbrev RAIL_COMP_B_A1_M : Fld := ⟨.RAIL_COMP_B, 0, 32⟩
abbrev RAIL_COMP_B_B0_S : Fld := ⟨.RAIL_COMP_B, 32, 5⟩
abbrev RAIL_COMP_B_B1_S : Fld := ⟨.RAIL_COMP_B, 40, 5⟩
abbrev RAIL_COMP_B_A1_S : Fld := ⟨.RAIL_COMP_B, 48, 5⟩
abbrev RAIL_LOOP_U : Fld := ⟨.RAIL_LOOP, 0, 32⟩
abbrev RAIL_LOOP_E : Fld := ⟨.RAIL_LOOP, 32, 13⟩
abbrev RAIL_LOOP_SAT : Fld := ⟨.RAIL_LOOP, 48, 1⟩
abbrev RAIL_LOOP_SAT_SEEN : Fld := ⟨.RAIL_LOOP, 49, 1⟩
abbrev RAIL_PCM_SLOPE : Fld := ⟨.RAIL_PCM, 0, 8⟩
abbrev RAIL_PCM_L_NH : Fld := ⟨.RAIL_PCM, 16, 16⟩
abbrev RAIL_PCM_IPK_CMD_MAX : Fld := ⟨.RAIL_PCM, 32, 32⟩
abbrev RAIL_SHED_NMIN : Fld := ⟨.RAIL_SHED, 0, 6⟩
abbrev RAIL_SHED_SHED_EN : Fld := ⟨.RAIL_SHED, 8, 1⟩
abbrev RAIL_SHED_ADD_PP : Fld := ⟨.RAIL_SHED, 16, 16⟩
abbrev RAIL_SHED_SHED_PP : Fld := ⟨.RAIL_SHED, 32, 16⟩
abbrev RAIL_SHED_DWELL : Fld := ⟨.RAIL_SHED, 48, 16⟩
abbrev RAIL_SHED_STAT_SHST : Fld := ⟨.RAIL_SHED_STAT, 0, 2⟩
abbrev RAIL_SHED_STAT_SHED_POS : Fld := ⟨.RAIL_SHED_STAT, 8, 8⟩
abbrev RAIL_SHED_STAT_SHEDS : Fld := ⟨.RAIL_SHED_STAT, 16, 16⟩
abbrev RAIL_SHED_STAT_ABORTS : Fld := ⟨.RAIL_SHED_STAT, 32, 16⟩
abbrev RAIL_SHED_STAT_ADDS : Fld := ⟨.RAIL_SHED_STAT, 48, 16⟩
abbrev RAIL_PH_EN : Fld := ⟨.RAIL_PH, 0, 32⟩
abbrev RAIL_PH_FAULT : Fld := ⟨.RAIL_PH, 32, 32⟩
abbrev RAIL_VSLOT_CODE : Fld := ⟨.RAIL_VSLOT, 0, 12⟩
abbrev RAIL_FUSE_STATUS_STATE : Fld := ⟨.RAIL_FUSE_STATUS, 0, 2⟩
abbrev RAIL_FUSE_STATUS_DIVERGE : Fld := ⟨.RAIL_FUSE_STATUS, 2, 1⟩
abbrev RAIL_FUSE_STATUS_INVALID_SEEN : Fld := ⟨.RAIL_FUSE_STATUS, 3, 1⟩
abbrev RAIL_FUSE_STATUS_DIAG_WRITTEN : Fld := ⟨.RAIL_FUSE_STATUS, 4, 1⟩
abbrev RAIL_FUSE_STATUS_HELD : Fld := ⟨.RAIL_FUSE_STATUS, 5, 1⟩
abbrev RAIL_FUSE_STATUS_INVALID_CAUSE : Fld := ⟨.RAIL_FUSE_STATUS, 8, 8⟩
abbrev RAIL_FUSE_STATUS_DIV_CNT : Fld := ⟨.RAIL_FUSE_STATUS, 16, 12⟩
abbrev RAIL_FUSE_STATUS_CLR_CNT : Fld := ⟨.RAIL_FUSE_STATUS, 32, 16⟩
abbrev RAIL_FUSE_STATUS_DIVERGE_COUNT : Fld := ⟨.RAIL_FUSE_STATUS, 48, 16⟩
abbrev RAIL_MEAS_POWER : Fld := ⟨.RAIL_MEAS, 0, 32⟩
abbrev RAIL_MEAS_CURRENT : Fld := ⟨.RAIL_MEAS, 32, 32⟩
abbrev RAIL_ESTM_EST_1US : Fld := ⟨.RAIL_ESTM, 0, 32⟩
abbrev RAIL_ESTM_EST_FAST : Fld := ⟨.RAIL_ESTM, 32, 32⟩
abbrev RAIL_FUSED_FAST : Fld := ⟨.RAIL_FUSED, 0, 32⟩
abbrev RAIL_FUSED_F1US : Fld := ⟨.RAIL_FUSED, 32, 32⟩
abbrev RAIL_THETA_LO_G0 : Fld := ⟨.RAIL_THETA_LO, 0, 16⟩
abbrev RAIL_THETA_LO_G1 : Fld := ⟨.RAIL_THETA_LO, 16, 16⟩
abbrev RAIL_THETA_LO_G2 : Fld := ⟨.RAIL_THETA_LO, 32, 16⟩
abbrev RAIL_THETA_LO_G3 : Fld := ⟨.RAIL_THETA_LO, 48, 16⟩
abbrev RAIL_THETA_HI_G4 : Fld := ⟨.RAIL_THETA_HI, 0, 16⟩
abbrev RAIL_THETA_HI_G5 : Fld := ⟨.RAIL_THETA_HI, 16, 16⟩
abbrev RAIL_THETA_HI_G6 : Fld := ⟨.RAIL_THETA_HI, 32, 16⟩
abbrev RAIL_THETA_HI_G7 : Fld := ⟨.RAIL_THETA_HI, 48, 16⟩
abbrev RAIL_KNEAD_ENABLED : Fld := ⟨.RAIL_KNEAD, 0, 1⟩
abbrev RAIL_KNEAD_FREEZE : Fld := ⟨.RAIL_KNEAD, 1, 1⟩
abbrev RAIL_KNEAD_RESET : Fld := ⟨.RAIL_KNEAD, 2, 1⟩
abbrev RAIL_KNEAD_FROZEN : Fld := ⟨.RAIL_KNEAD, 3, 1⟩
abbrev RAIL_KNEAD_LAST_SKIP : Fld := ⟨.RAIL_KNEAD, 8, 8⟩
abbrev RAIL_KNEAD_UPDATES : Fld := ⟨.RAIL_KNEAD, 32, 32⟩
abbrev RAIL_KNEAD_RES_RESIDUAL : Fld := ⟨.RAIL_KNEAD_RES, 0, 32⟩
abbrev RAIL_KNEAD_RES_SKIPS : Fld := ⟨.RAIL_KNEAD_RES, 32, 16⟩
abbrev RAIL_KNEAD_RES_STALE_REP : Fld := ⟨.RAIL_KNEAD_RES, 48, 16⟩
abbrev RAIL_RISE_STATE : Fld := ⟨.RAIL_RISE, 0, 2⟩
abbrev RAIL_RISE_EXH : Fld := ⟨.RAIL_RISE, 2, 1⟩
abbrev RAIL_RISE_EXH_SEEN : Fld := ⟨.RAIL_RISE, 3, 1⟩
abbrev RAIL_RISE_REQS : Fld := ⟨.RAIL_RISE, 8, 8⟩
abbrev RAIL_RISE_OFFSET : Fld := ⟨.RAIL_RISE, 16, 12⟩
abbrev RAIL_RISE_TARGET : Fld := ⟨.RAIL_RISE, 32, 12⟩
abbrev RAIL_RISE_EXPO_EXPO : Fld := ⟨.RAIL_RISE_EXPO, 0, 32⟩
abbrev RAIL_RISE_EXPO_LAST : Fld := ⟨.RAIL_RISE_EXPO, 32, 32⟩
abbrev RAIL_SHAPE_PRED_DI : Fld := ⟨.RAIL_SHAPE_PRED, 0, 32⟩
abbrev RAIL_SHAPE_PRED_STAMP : Fld := ⟨.RAIL_SHAPE_PRED, 32, 32⟩
abbrev PH_CTRL_CLR_FAULT : Fld := ⟨.PH_CTRL, 0, 1⟩
abbrev PH_CTRL_CAL_REQ : Fld := ⟨.PH_CTRL, 1, 1⟩
abbrev PH_STAT_PHST : Fld := ⟨.PH_STAT, 0, 2⟩
abbrev PH_STAT_FAULT_N : Fld := ⟨.PH_STAT, 2, 1⟩
abbrev PH_STAT_FAULT_SEEN : Fld := ⟨.PH_STAT, 3, 1⟩
abbrev PH_STAT_CBC_SEEN : Fld := ⟨.PH_STAT, 4, 1⟩
abbrev PH_STAT_NEG_SEEN : Fld := ⟨.PH_STAT, 5, 1⟩
abbrev PH_STAT_ADC_INV : Fld := ⟨.PH_STAT, 6, 1⟩
abbrev PH_STAT_POS : Fld := ⟨.PH_STAT, 8, 8⟩
abbrev PH_STAT_RAIL : Fld := ⟨.PH_STAT, 16, 5⟩
abbrev PH_STAT_CBC : Fld := ⟨.PH_STAT, 32, 16⟩
abbrev PH_STAT_FAULTS : Fld := ⟨.PH_STAT, 48, 16⟩
abbrev PH_SAMPLE_I : Fld := ⟨.PH_SAMPLE, 0, 32⟩
abbrev PH_SAMPLE_OFS_TICKS : Fld := ⟨.PH_SAMPLE, 32, 13⟩
abbrev PH_CAL_ISNS_OFS : Fld := ⟨.PH_CAL, 0, 16⟩
abbrev PH_CAL_CAL_VALID : Fld := ⟨.PH_CAL, 16, 1⟩
abbrev PH_CAL_CAL_PEND : Fld := ⟨.PH_CAL, 17, 1⟩
abbrev PH_CAL_CAL_TIME : Fld := ⟨.PH_CAL, 32, 32⟩
abbrev TS_CTRL_EN : Fld := ⟨.TS_CTRL, 0, 1⟩
abbrev TS_CTRL_CAL_RST : Fld := ⟨.TS_CTRL, 1, 1⟩
abbrev TS_VAL_TEMP : Fld := ⟨.TS_VAL, 0, 16⟩
abbrev TS_VAL_VALID : Fld := ⟨.TS_VAL, 16, 1⟩
abbrev TS_VAL_FAULT : Fld := ⟨.TS_VAL, 17, 1⟩
abbrev TS_VAL_STAMP : Fld := ⟨.TS_VAL, 32, 32⟩
abbrev TS_CAL_OFS_CORR : Fld := ⟨.TS_CAL, 0, 16⟩
abbrev TS_CAL_REF : Fld := ⟨.TS_CAL, 16, 1⟩
abbrev TS_CAL_BAD : Fld := ⟨.TS_CAL, 17, 1⟩
abbrev TS_CAL_BAD_SEEN : Fld := ⟨.TS_CAL, 18, 1⟩
abbrev TS_CAL_CAL_VALID : Fld := ⟨.TS_CAL, 19, 1⟩
abbrev TS_CAL_PAIRS : Fld := ⟨.TS_CAL, 20, 4⟩
abbrev TS_CAL_REF_SITE : Fld := ⟨.TS_CAL, 32, 10⟩
abbrev TS_CAL_MISSES : Fld := ⟨.TS_CAL, 48, 16⟩
abbrev TS_THR_WARN : Fld := ⟨.TS_THR, 0, 16⟩
abbrev TS_THR_THROTTLE : Fld := ⟨.TS_THR, 16, 16⟩
abbrev TS_THR_SHUTDOWN : Fld := ⟨.TS_THR, 32, 16⟩
abbrev TS_STAT_LEVEL : Fld := ⟨.TS_STAT, 0, 2⟩
abbrev TS_STAT_WARN_F : Fld := ⟨.TS_STAT, 2, 1⟩
abbrev TS_STAT_THR_F : Fld := ⟨.TS_STAT, 3, 1⟩
abbrev TS_STAT_SHUT_F : Fld := ⟨.TS_STAT, 4, 1⟩
abbrev TS_STAT_WARN_SEEN : Fld := ⟨.TS_STAT, 5, 1⟩
abbrev TS_STAT_THR_SEEN : Fld := ⟨.TS_STAT, 6, 1⟩
abbrev TS_STAT_SHUT_SEEN : Fld := ⟨.TS_STAT, 7, 1⟩
abbrev TS_STAT_ABS_SEEN : Fld := ⟨.TS_STAT, 8, 1⟩
abbrev TS_STAT_TMAX : Fld := ⟨.TS_STAT, 16, 16⟩
abbrev TS_STAT_CONV : Fld := ⟨.TS_STAT, 32, 32⟩
abbrev TS_HYST_WARN_HYST : Fld := ⟨.TS_HYST, 0, 16⟩
abbrev TS_HYST_THR_HYST : Fld := ⟨.TS_HYST, 16, 16⟩
abbrev TS_HYST_SHUT_HYST : Fld := ⟨.TS_HYST, 32, 16⟩
abbrev DD_CTRL_EN : Fld := ⟨.DD_CTRL, 0, 1⟩
abbrev DD_CTRL_TRIM : Fld := ⟨.DD_CTRL, 1, 6⟩
abbrev DD_CTRL_FILT : Fld := ⟨.DD_CTRL, 7, 3⟩
abbrev DD_CTRL_CAL_REQ : Fld := ⟨.DD_CTRL, 10, 1⟩
abbrev DD_MAP_LEAF : Fld := ⟨.DD_MAP, 0, 9⟩
abbrev DD_MAP_RAIL : Fld := ⟨.DD_MAP, 9, 5⟩
abbrev DD_MAP_GATEMASK : Fld := ⟨.DD_MAP, 32, 32⟩
abbrev DD_CAL_CODE_CAL : Fld := ⟨.DD_CAL, 0, 8⟩
abbrev DD_CAL_V_CAL : Fld := ⟨.DD_CAL, 8, 12⟩
abbrev DD_CAL_CAL_VALID : Fld := ⟨.DD_CAL, 20, 1⟩
abbrev DD_CAL_CAL_STALE : Fld := ⟨.DD_CAL, 21, 1⟩
abbrev DD_CAL_CAL_TIME : Fld := ⟨.DD_CAL, 32, 32⟩
abbrev DD_THR_THR_CODE : Fld := ⟨.DD_THR, 0, 8⟩
abbrev DD_THR_THR_MV : Fld := ⟨.DD_THR, 8, 8⟩
abbrev DD_THR_BAND : Fld := ⟨.DD_THR, 16, 3⟩
abbrev DD_THR_FILL : Fld := ⟨.DD_THR, 19, 1⟩
abbrev DD_THR_CODE : Fld := ⟨.DD_THR, 20, 8⟩
abbrev DD_STAT_TRIP : Fld := ⟨.DD_STAT, 0, 1⟩
abbrev DD_STAT_TRIP_SEEN : Fld := ⟨.DD_STAT, 1, 1⟩
abbrev DD_STAT_SAT : Fld := ⟨.DD_STAT, 2, 1⟩
abbrev DD_STAT_CODE_MIN : Fld := ⟨.DD_STAT, 8, 8⟩
abbrev DD_STAT_TRIPS : Fld := ⟨.DD_STAT, 32, 32⟩
abbrev NODE_ID_DOMAIN : Fld := ⟨.NODE_ID, 0, 16⟩
abbrev NODE_ID_PARENT : Fld := ⟨.NODE_ID, 16, 16⟩
abbrev NODE_ID_LEVEL : Fld := ⟨.NODE_ID, 32, 3⟩
abbrev NODE_ID_PHYS : Fld := ⟨.NODE_ID, 40, 9⟩
abbrev NODE_ID_CHILDREN : Fld := ⟨.NODE_ID, 56, 7⟩
abbrev NODE_STATUS_STALE_EST : Fld := ⟨.NODE_STATUS, 0, 16⟩
abbrev NODE_BUDGET_AVG : Fld := ⟨.NODE_BUDGET, 0, 32⟩
abbrev NODE_BUDGET_FAST : Fld := ⟨.NODE_BUDGET, 32, 32⟩
abbrev NODE_SPLIT_STAT_SHORT : Fld := ⟨.NODE_SPLIT_STAT, 0, 1⟩
abbrev NODE_SPLIT_STAT_SURPLUS : Fld := ⟨.NODE_SPLIT_STAT, 32, 32⟩
abbrev NODE_SPLIT_A_NEED : Fld := ⟨.NODE_SPLIT_A, 0, 32⟩
abbrev NODE_SPLIT_A_WEIGHT : Fld := ⟨.NODE_SPLIT_A, 32, 16⟩
abbrev NODE_SPLIT_A_UP : Fld := ⟨.NODE_SPLIT_A, 48, 1⟩
abbrev NODE_SPLIT_B_FLOOR : Fld := ⟨.NODE_SPLIT_B, 0, 32⟩
abbrev NODE_SPLIT_B_CEIL : Fld := ⟨.NODE_SPLIT_B, 32, 32⟩
abbrev NODE_SPLIT_C_GRANT_AVG : Fld := ⟨.NODE_SPLIT_C, 0, 32⟩
abbrev NODE_SPLIT_C_GRANT_FAST : Fld := ⟨.NODE_SPLIT_C, 32, 32⟩
abbrev NODE_CHAN_STATE : Fld := ⟨.NODE_CHAN, 0, 3⟩
abbrev NODE_CHAN_FAR_ALIVE : Fld := ⟨.NODE_CHAN, 3, 1⟩
abbrev NODE_CHAN_PRESENT : Fld := ⟨.NODE_CHAN, 4, 1⟩
abbrev NODE_CHAN_SILENT : Fld := ⟨.NODE_CHAN, 5, 1⟩
abbrev NODE_CHAN_FENCE_TO : Fld := ⟨.NODE_CHAN, 6, 1⟩
abbrev NODE_CHAN_PENDING : Fld := ⟨.NODE_CHAN, 8, 8⟩
abbrev NODE_CHAN_EPOCH : Fld := ⟨.NODE_CHAN, 16, 16⟩
abbrev NODE_CHAN_STALE_DROPS : Fld := ⟨.NODE_CHAN, 32, 16⟩
abbrev NODE_CHAN_ABSENT_REPLIES : Fld := ⟨.NODE_CHAN, 48, 16⟩
abbrev LEAF_ID_DOMAIN : Fld := ⟨.LEAF_ID, 0, 16⟩
abbrev LEAF_ID_PARENT : Fld := ⟨.LEAF_ID, 16, 16⟩
abbrev LEAF_ID_LEVEL : Fld := ⟨.LEAF_ID, 32, 3⟩
abbrev LEAF_ID_PHYS : Fld := ⟨.LEAF_ID, 40, 9⟩
abbrev LEAF_ID_CHILDREN : Fld := ⟨.LEAF_ID, 56, 7⟩
abbrev LEAF_EST_STATUS_RAILS : Fld := ⟨.LEAF_EST_STATUS, 0, 4⟩
abbrev LEAF_EST_STATUS_RAIL_0 : Fld := ⟨.LEAF_EST_STATUS, 4, 5⟩
abbrev LEAF_EST_STATUS_RAIL_1 : Fld := ⟨.LEAF_EST_STATUS, 9, 5⟩
abbrev LEAF_EST_STATUS_RAIL_2 : Fld := ⟨.LEAF_EST_STATUS, 14, 5⟩
abbrev LEAF_EST_STATUS_RAIL_3 : Fld := ⟨.LEAF_EST_STATUS, 19, 5⟩
abbrev LEAF_EST_STATUS_COUNT_SAT : Fld := ⟨.LEAF_EST_STATUS, 24, 1⟩
abbrev LEAF_EST_STATUS_NEG_CLAMP : Fld := ⟨.LEAF_EST_STATUS, 25, 1⟩
abbrev LEAF_EST_STATUS_TEMP_FALLBACK : Fld := ⟨.LEAF_EST_STATUS, 26, 1⟩
abbrev LEAF_EST_STATUS_SLOT : Fld := ⟨.LEAF_EST_STATUS, 32, 32⟩
abbrev LEAF_EST_EST : Fld := ⟨.LEAF_EST, 0, 25⟩
abbrev LEAF_EST_STATIC : Fld := ⟨.LEAF_EST, 32, 25⟩
abbrev LEAF_THETA_LO_G0 : Fld := ⟨.LEAF_THETA_LO, 0, 16⟩
abbrev LEAF_THETA_LO_G1 : Fld := ⟨.LEAF_THETA_LO, 16, 16⟩
abbrev LEAF_THETA_LO_G2 : Fld := ⟨.LEAF_THETA_LO, 32, 16⟩
abbrev LEAF_THETA_LO_G3 : Fld := ⟨.LEAF_THETA_LO, 48, 16⟩
abbrev LEAF_THETA_HI_G4 : Fld := ⟨.LEAF_THETA_HI, 0, 16⟩
abbrev LEAF_THETA_HI_G5 : Fld := ⟨.LEAF_THETA_HI, 16, 16⟩
abbrev LEAF_THETA_HI_G6 : Fld := ⟨.LEAF_THETA_HI, 32, 16⟩
abbrev LEAF_THETA_HI_G7 : Fld := ⟨.LEAF_THETA_HI, 48, 16⟩
abbrev LEAF_VREF_V0 : Fld := ⟨.LEAF_VREF, 0, 12⟩
abbrev LEAF_VREF_V1 : Fld := ⟨.LEAF_VREF, 16, 12⟩
abbrev LEAF_VREF_V2 : Fld := ⟨.LEAF_VREF, 32, 12⟩
abbrev LEAF_VREF_V3 : Fld := ⟨.LEAF_VREF, 48, 12⟩
abbrev LEAF_BUDGET_AVG : Fld := ⟨.LEAF_BUDGET, 0, 32⟩
abbrev LEAF_BUDGET_FAST : Fld := ⟨.LEAF_BUDGET, 32, 32⟩
abbrev LEAF_RAIL_BUDGET_RAIL : Fld := ⟨.LEAF_RAIL_BUDGET, 0, 32⟩
abbrev LEAF_RAIL_BUDGET_FIXED : Fld := ⟨.LEAF_RAIL_BUDGET, 32, 32⟩
abbrev LEAF_CONV_FIXED : Fld := ⟨.LEAF_CONV, 0, 32⟩
abbrev LEAF_CONV_ROWS : Fld := ⟨.LEAF_CONV, 32, 4⟩
abbrev LEAF_CONV_EPS_COLD : Fld := ⟨.LEAF_CONV, 40, 24⟩
abbrev LEAF_SHED_RAIL : Fld := ⟨.LEAF_SHED, 0, 5⟩
abbrev LEAF_SHED_HOLD : Fld := ⟨.LEAF_SHED, 5, 1⟩
abbrev LEAF_SHED_EXPIRE : Fld := ⟨.LEAF_SHED, 32, 32⟩
abbrev LEAF_PART_WEIGHT : Fld := ⟨.LEAF_PART, 0, 16⟩
abbrev LEAF_PART_CTX : Fld := ⟨.LEAF_PART, 16, 4⟩
abbrev LEAF_PART_ALLOW : Fld := ⟨.LEAF_PART, 32, 32⟩
abbrev LEAF_GATE_EFF_A : Fld := ⟨.LEAF_GATE, 0, 9⟩
abbrev LEAF_GATE_EFF_B : Fld := ⟨.LEAF_GATE, 9, 9⟩
abbrev LEAF_GATE_BUD_A : Fld := ⟨.LEAF_GATE, 18, 9⟩
abbrev LEAF_GATE_BUD_B : Fld := ⟨.LEAF_GATE, 27, 9⟩
abbrev LEAF_GATE_SRC_A : Fld := ⟨.LEAF_GATE, 36, 4⟩
abbrev LEAF_GATE_SRC_B : Fld := ⟨.LEAF_GATE, 40, 4⟩
abbrev LEAF_GATE_PART_A : Fld := ⟨.LEAF_GATE, 44, 2⟩
abbrev LEAF_GATE_PART_B : Fld := ⟨.LEAF_GATE, 46, 2⟩
abbrev LEAF_GATE_ARR_A : Fld := ⟨.LEAF_GATE, 48, 3⟩
abbrev LEAF_GATE_EN_A : Fld := ⟨.LEAF_GATE, 51, 1⟩
abbrev LEAF_GATE_EN_B : Fld := ⟨.LEAF_GATE, 52, 1⟩
abbrev LEAF_GATE_FAULT_A : Fld := ⟨.LEAF_GATE, 53, 1⟩
abbrev LEAF_GATE_FAULT_B : Fld := ⟨.LEAF_GATE, 54, 1⟩
abbrev LEAF_GATE_REST_A : Fld := ⟨.LEAF_GATE, 55, 1⟩
abbrev LEAF_GATE_REST_B : Fld := ⟨.LEAF_GATE, 56, 1⟩
abbrev LEAF_GATE_ROWS : Fld := ⟨.LEAF_GATE, 57, 4⟩
abbrev LEAF_CORE_EFF : Fld := ⟨.LEAF_CORE, 0, 8⟩
abbrev LEAF_CORE_BUD : Fld := ⟨.LEAF_CORE, 8, 8⟩
abbrev LEAF_CORE_WEAR : Fld := ⟨.LEAF_CORE, 16, 8⟩
abbrev LEAF_CORE_MODE_CEIL : Fld := ⟨.LEAF_CORE, 24, 8⟩
abbrev LEAF_CORE_SRC : Fld := ⟨.LEAF_CORE, 32, 4⟩
abbrev LEAF_CORE_AGE_INVALID : Fld := ⟨.LEAF_CORE, 36, 1⟩
abbrev LEAF_CORE_AGE : Fld := ⟨.LEAF_CORE, 40, 8⟩
abbrev LEAF_LSYNC_EN : Fld := ⟨.LEAF_LSYNC, 0, 1⟩
abbrev LEAF_LSYNC_TYPE : Fld := ⟨.LEAF_LSYNC, 1, 1⟩
abbrev LEAF_LSYNC_CTX : Fld := ⟨.LEAF_LSYNC, 2, 4⟩
abbrev LEAF_LSYNC_TARGET : Fld := ⟨.LEAF_LSYNC, 6, 7⟩
abbrev LEAF_LSYNC_COUNT : Fld := ⟨.LEAF_LSYNC, 13, 7⟩
abbrev LEAF_LSYNC_NEXT : Fld := ⟨.LEAF_LSYNC, 20, 7⟩
abbrev LEAF_LSYNC_GEN : Fld := ⟨.LEAF_LSYNC, 27, 4⟩
abbrev LEAF_LSYNC_FLAG : Fld := ⟨.LEAF_LSYNC, 31, 1⟩
abbrev LEAF_SYNC_STAT_DUP : Fld := ⟨.LEAF_SYNC_STAT, 0, 16⟩
abbrev LEAF_SYNC_STAT_STALE : Fld := ⟨.LEAF_SYNC_STAT, 16, 16⟩
abbrev LEAF_SYNC_STAT_NACKS : Fld := ⟨.LEAF_SYNC_STAT, 32, 16⟩
abbrev LEAF_SYNC_EPOCH_CEPOCH0 : Fld := ⟨.LEAF_SYNC_EPOCH, 0, 4⟩
abbrev LEAF_SYNC_EPOCH_CEPOCH1 : Fld := ⟨.LEAF_SYNC_EPOCH, 4, 4⟩
abbrev LEAF_SYNC_EPOCH_CEPOCH2 : Fld := ⟨.LEAF_SYNC_EPOCH, 8, 4⟩
abbrev LEAF_SYNC_EPOCH_CEPOCH3 : Fld := ⟨.LEAF_SYNC_EPOCH, 12, 4⟩
abbrev LEAF_SYNC_EPOCH_CEPOCH4 : Fld := ⟨.LEAF_SYNC_EPOCH, 16, 4⟩
abbrev LEAF_SYNC_EPOCH_CEPOCH5 : Fld := ⟨.LEAF_SYNC_EPOCH, 20, 4⟩
abbrev LEAF_SYNC_EPOCH_CEPOCH6 : Fld := ⟨.LEAF_SYNC_EPOCH, 24, 4⟩
abbrev LEAF_SYNC_EPOCH_CEPOCH7 : Fld := ⟨.LEAF_SYNC_EPOCH, 28, 4⟩
abbrev LEAF_SYNC_EPOCH_CEPOCH8 : Fld := ⟨.LEAF_SYNC_EPOCH, 32, 4⟩
abbrev LEAF_SYNC_EPOCH_CEPOCH9 : Fld := ⟨.LEAF_SYNC_EPOCH, 36, 4⟩
abbrev LEAF_SYNC_EPOCH_CEPOCH10 : Fld := ⟨.LEAF_SYNC_EPOCH, 40, 4⟩
abbrev LEAF_SYNC_EPOCH_CEPOCH11 : Fld := ⟨.LEAF_SYNC_EPOCH, 44, 4⟩
abbrev LEAF_SYNC_EPOCH_CEPOCH12 : Fld := ⟨.LEAF_SYNC_EPOCH, 48, 4⟩
abbrev LEAF_SYNC_EPOCH_CEPOCH13 : Fld := ⟨.LEAF_SYNC_EPOCH, 52, 4⟩
abbrev LEAF_SYNC_EPOCH_CEPOCH14 : Fld := ⟨.LEAF_SYNC_EPOCH, 56, 4⟩
abbrev LEAF_SYNC_EPOCH_CEPOCH15 : Fld := ⟨.LEAF_SYNC_EPOCH, 60, 4⟩
abbrev LEAF_SYNC_WAIT_VALID_A : Fld := ⟨.LEAF_SYNC_WAIT, 0, 1⟩
abbrev LEAF_SYNC_WAIT_VALID_B : Fld := ⟨.LEAF_SYNC_WAIT, 32, 1⟩
abbrev LEAF_SYNC_WAIT_VALUE_A : Fld := ⟨.LEAF_SYNC_WAIT, 1, 1⟩
abbrev LEAF_SYNC_WAIT_VALUE_B : Fld := ⟨.LEAF_SYNC_WAIT, 33, 1⟩
abbrev LEAF_SYNC_WAIT_MODE_A : Fld := ⟨.LEAF_SYNC_WAIT, 2, 1⟩
abbrev LEAF_SYNC_WAIT_MODE_B : Fld := ⟨.LEAF_SYNC_WAIT, 34, 1⟩
abbrev LEAF_SYNC_WAIT_CTX_A : Fld := ⟨.LEAF_SYNC_WAIT, 3, 4⟩
abbrev LEAF_SYNC_WAIT_CTX_B : Fld := ⟨.LEAF_SYNC_WAIT, 35, 4⟩
abbrev LEAF_SYNC_WAIT_LOBJ_A : Fld := ⟨.LEAF_SYNC_WAIT, 7, 11⟩
abbrev LEAF_SYNC_WAIT_LOBJ_B : Fld := ⟨.LEAF_SYNC_WAIT, 39, 11⟩
abbrev LEAF_SYNC_WAIT_GEN_WANT_A : Fld := ⟨.LEAF_SYNC_WAIT, 18, 10⟩
abbrev LEAF_SYNC_WAIT_GEN_WANT_B : Fld := ⟨.LEAF_SYNC_WAIT, 50, 10⟩
abbrev LEAF_SYNC_WAIT_LOCAL_A : Fld := ⟨.LEAF_SYNC_WAIT, 28, 1⟩
abbrev LEAF_SYNC_WAIT_LOCAL_B : Fld := ⟨.LEAF_SYNC_WAIT, 60, 1⟩
abbrev LEAF_SYNC_LAST_CTX_A : Fld := ⟨.LEAF_SYNC_LAST, 0, 4⟩
abbrev LEAF_SYNC_LAST_CTX_B : Fld := ⟨.LEAF_SYNC_LAST, 32, 4⟩
abbrev LEAF_SYNC_LAST_LOBJ_A : Fld := ⟨.LEAF_SYNC_LAST, 4, 11⟩
abbrev LEAF_SYNC_LAST_LOBJ_B : Fld := ⟨.LEAF_SYNC_LAST, 36, 11⟩
abbrev LEAF_SYNC_LAST_GEN_A : Fld := ⟨.LEAF_SYNC_LAST, 15, 10⟩
abbrev LEAF_SYNC_LAST_GEN_B : Fld := ⟨.LEAF_SYNC_LAST, 47, 10⟩
abbrev LEAF_SYNC_LAST_VALID_A : Fld := ⟨.LEAF_SYNC_LAST, 25, 1⟩
abbrev LEAF_SYNC_LAST_VALID_B : Fld := ⟨.LEAF_SYNC_LAST, 57, 1⟩
abbrev LEAF_SCORE_CLAMP : Fld := ⟨.LEAF_SCORE, 0, 8⟩
abbrev LEAF_SCORE_ACTIVE : Fld := ⟨.LEAF_SCORE, 8, 1⟩
abbrev LEAF_SCORE_FILL : Fld := ⟨.LEAF_SCORE, 9, 1⟩
abbrev LEAF_SCORE_CODE : Fld := ⟨.LEAF_SCORE, 16, 9⟩
abbrev LEAF_SCORE_TRIPS : Fld := ⟨.LEAF_SCORE, 32, 32⟩
abbrev LEAF_PROOF_HELD : Fld := ⟨.LEAF_PROOF, 0, 7⟩
abbrev LEAF_PROOF_RELEASES : Fld := ⟨.LEAF_PROOF, 16, 16⟩
abbrev LEAF_PROOF_BUSY_EARLY : Fld := ⟨.LEAF_PROOF, 32, 16⟩
abbrev LEAF_SCORE_CNT_CLAMP_CYC : Fld := ⟨.LEAF_SCORE_CNT, 0, 64⟩
abbrev LEAF_CREDIT_LOAD_A : Fld := ⟨.LEAF_CREDIT, 0, 16⟩
abbrev LEAF_CREDIT_LOAD_B : Fld := ⟨.LEAF_CREDIT, 32, 16⟩
abbrev LEAF_CREDIT_DEBT_A : Fld := ⟨.LEAF_CREDIT, 16, 8⟩
abbrev LEAF_CREDIT_DEBT_B : Fld := ⟨.LEAF_CREDIT, 48, 8⟩
abbrev LEAF_CREDIT_REM_A : Fld := ⟨.LEAF_CREDIT, 24, 4⟩
abbrev LEAF_CREDIT_REM_B : Fld := ⟨.LEAF_CREDIT, 56, 4⟩
abbrev LEAF_THERM_TEMP : Fld := ⟨.LEAF_THERM, 0, 16⟩
abbrev LEAF_THERM_BAND : Fld := ⟨.LEAF_THERM, 16, 3⟩
abbrev LEAF_THERM_LEVEL : Fld := ⟨.LEAF_THERM, 19, 2⟩
abbrev LEAF_THERM_FALLBACK : Fld := ⟨.LEAF_THERM, 21, 1⟩
abbrev LEAF_THERM_LOSS : Fld := ⟨.LEAF_THERM, 22, 1⟩
abbrev LEAF_THERM_LOSS_SEEN : Fld := ⟨.LEAF_THERM, 23, 1⟩
abbrev LEAF_THERM_HOT_SITE : Fld := ⟨.LEAF_THERM, 32, 10⟩
abbrev LEAF_THR_REQ_K : Fld := ⟨.LEAF_THR_REQ, 0, 9⟩
abbrev LEAF_STACK_TEMP : Fld := ⟨.LEAF_STACK, 0, 16⟩
abbrev LEAF_STACK_VALID : Fld := ⟨.LEAF_STACK, 16, 1⟩
abbrev LEAF_STACK_MULT : Fld := ⟨.LEAF_STACK, 17, 2⟩
abbrev LEAF_STACK_BAND : Fld := ⟨.LEAF_STACK, 19, 3⟩
abbrev LEAF_STACK_LEVEL : Fld := ⟨.LEAF_STACK, 22, 2⟩
abbrev LEAF_STACK_STALE : Fld := ⟨.LEAF_STACK, 24, 1⟩
abbrev LEAF_STACK_STALE_SEEN : Fld := ⟨.LEAF_STACK, 25, 1⟩
abbrev LEAF_STACK_THR_SEEN : Fld := ⟨.LEAF_STACK, 26, 1⟩
abbrev LEAF_STACK_WARN_SEEN : Fld := ⟨.LEAF_STACK, 27, 1⟩
abbrev LEAF_STACK_STAMP : Fld := ⟨.LEAF_STACK, 32, 32⟩
abbrev LEAF_TCELL_DIV : Fld := ⟨.LEAF_TCELL, 0, 2⟩
abbrev LEAF_TCELL_FLOOR : Fld := ⟨.LEAF_TCELL, 2, 1⟩
abbrev LEAF_TCELL_GOV : Fld := ⟨.LEAF_TCELL, 3, 1⟩
abbrev LEAF_TCELL_SKIP : Fld := ⟨.LEAF_TCELL, 16, 16⟩
abbrev LEAF_TCELL_THR_SKIP : Fld := ⟨.LEAF_TCELL, 32, 16⟩
abbrev LEAF_TCELL_THR_DIV : Fld := ⟨.LEAF_TCELL, 48, 2⟩
abbrev LEAF_TCELL_THR_ACTIVE : Fld := ⟨.LEAF_TCELL, 50, 1⟩
abbrev LEAF_TCELL_GOV_ACTIVE : Fld := ⟨.LEAF_TCELL, 51, 1⟩
abbrev LEAF_TCELL_MODE_ACTIVE : Fld := ⟨.LEAF_TCELL, 52, 1⟩
abbrev LEAF_CHAN_STATE : Fld := ⟨.LEAF_CHAN, 0, 3⟩
abbrev LEAF_CHAN_FAR_ALIVE : Fld := ⟨.LEAF_CHAN, 3, 1⟩
abbrev LEAF_CHAN_PRESENT : Fld := ⟨.LEAF_CHAN, 4, 1⟩
abbrev LEAF_CHAN_SILENT : Fld := ⟨.LEAF_CHAN, 5, 1⟩
abbrev LEAF_CHAN_FENCE_TO : Fld := ⟨.LEAF_CHAN, 6, 1⟩
abbrev LEAF_CHAN_PENDING : Fld := ⟨.LEAF_CHAN, 8, 8⟩
abbrev LEAF_CHAN_EPOCH : Fld := ⟨.LEAF_CHAN, 16, 16⟩
abbrev LEAF_CHAN_STALE_DROPS : Fld := ⟨.LEAF_CHAN, 32, 16⟩
abbrev LEAF_CHAN_ABSENT_REPLIES : Fld := ⟨.LEAF_CHAN, 48, 16⟩
abbrev LEAF_BRAKE_ACTIVE : Fld := ⟨.LEAF_BRAKE, 0, 1⟩
abbrev LEAF_BRAKE_LIMIT : Fld := ⟨.LEAF_BRAKE, 8, 9⟩
abbrev LEAF_BRAKE_FMAX : Fld := ⟨.LEAF_BRAKE, 24, 8⟩
abbrev LEAF_CNT_SEL_SEL : Fld := ⟨.LEAF_CNT_SEL, 0, 4⟩
abbrev LEAF_CNT_SEL_CLASS : Fld := ⟨.LEAF_CNT_SEL, 4, 5⟩
abbrev LEAF_CNT_SEL_THRESH : Fld := ⟨.LEAF_CNT_SEL, 9, 9⟩
abbrev LEAF_CNT_SEL_SRCSEL : Fld := ⟨.LEAF_CNT_SEL, 18, 4⟩
abbrev LEAF_CNT_SEL_DET : Fld := ⟨.LEAF_CNT_SEL, 22, 3⟩
abbrev LEAF_CNT_SEL_TCELL : Fld := ⟨.LEAF_CNT_SEL, 25, 4⟩
abbrev LEAF_CNT_SEL_GMASK : Fld := ⟨.LEAF_CNT_SEL, 32, 32⟩
abbrev LEAF_CNT_LATCH_CTX : Fld := ⟨.LEAF_CNT_LATCH, 0, 4⟩
abbrev LEAF_CNT_LATCH_LNUM : Fld := ⟨.LEAF_CNT_LATCH, 4, 4⟩
abbrev LEAF_CNT_LATCH_LATE : Fld := ⟨.LEAF_CNT_LATCH, 8, 1⟩
abbrev LEAF_CNT_LATCH_TL : Fld := ⟨.LEAF_CNT_LATCH, 32, 32⟩
abbrev SYNC_OBJ_A_TYPE : Fld := ⟨.SYNC_OBJ_A, 0, 3⟩
abbrev SYNC_OBJ_A_BROKEN : Fld := ⟨.SYNC_OBJ_A, 3, 1⟩
abbrev SYNC_OBJ_A_SHAPE_EN : Fld := ⟨.SYNC_OBJ_A, 4, 1⟩
abbrev SYNC_OBJ_A_PTAG_EN : Fld := ⟨.SYNC_OBJ_A, 5, 1⟩
abbrev SYNC_OBJ_A_PTAG_EXIT : Fld := ⟨.SYNC_OBJ_A, 6, 1⟩
abbrev SYNC_OBJ_A_UP : Fld := ⟨.SYNC_OBJ_A, 7, 1⟩
abbrev SYNC_OBJ_A_PTAG_PHASE : Fld := ⟨.SYNC_OBJ_A, 8, 8⟩
abbrev SYNC_OBJ_A_CTX : Fld := ⟨.SYNC_OBJ_A, 16, 4⟩
abbrev SYNC_OBJ_A_PRIV : Fld := ⟨.SYNC_OBJ_A, 20, 1⟩
abbrev SYNC_OBJ_A_GEN : Fld := ⟨.SYNC_OBJ_A, 32, 16⟩
abbrev SYNC_OBJ_A_TARGET : Fld := ⟨.SYNC_OBJ_A, 48, 16⟩
abbrev SYNC_OBJ_B_COUNT : Fld := ⟨.SYNC_OBJ_B, 0, 16⟩
abbrev SYNC_OBJ_B_NEXT : Fld := ⟨.SYNC_OBJ_B, 16, 16⟩
abbrev SYNC_OBJ_B_WATCHES : Fld := ⟨.SYNC_OBJ_B, 32, 17⟩
abbrev WATCH_A_OBJ : Fld := ⟨.WATCH_A, 0, 14⟩
abbrev WATCH_A_KIND : Fld := ⟨.WATCH_A, 14, 1⟩
abbrev WATCH_A_MODE : Fld := ⟨.WATCH_A, 15, 1⟩
abbrev WATCH_A_VALID : Fld := ⟨.WATCH_A, 16, 1⟩
abbrev WATCH_A_CTX : Fld := ⟨.WATCH_A, 20, 4⟩
abbrev WATCH_A_GEN_WANT : Fld := ⟨.WATCH_A, 24, 16⟩
abbrev WATCH_A_NEXT : Fld := ⟨.WATCH_A, 40, 17⟩
abbrev WATCH_B_LEAF : Fld := ⟨.WATCH_B, 0, 9⟩
abbrev WATCH_B_WID : Fld := ⟨.WATCH_B, 9, 6⟩
abbrev WATCH_B_REG_TIME : Fld := ⟨.WATCH_B, 32, 32⟩
abbrev CNT_STATUS_WIN : Fld := ⟨.CNT_STATUS, 0, 32⟩
abbrev CNT_STATUS_LATE_REPS : Fld := ⟨.CNT_STATUS, 32, 32⟩
abbrev CNT_LATCH_OP : Fld := ⟨.CNT_LATCH, 0, 2⟩
abbrev CNT_LATCH_SLOT : Fld := ⟨.CNT_LATCH, 2, 2⟩
abbrev CNT_LATCH_CMD_ADDR : Fld := ⟨.CNT_LATCH, 6, 42⟩
abbrev CNT_LATCH_CTX : Fld := ⟨.CNT_LATCH, 48, 4⟩
abbrev CNT_GLOBAL_VAL : Fld := ⟨.CNT_GLOBAL, 0, 64⟩
abbrev CNT_CTX_VAL : Fld := ⟨.CNT_CTX, 0, 64⟩
abbrev CNT_UA_VAL : Fld := ⟨.CNT_UA, 0, 64⟩
abbrev CNT_CTX_E_VAL : Fld := ⟨.CNT_CTX_E, 0, 64⟩
abbrev REC_RING_A_BASE : Fld := ⟨.REC_RING_A, 0, 48⟩
abbrev REC_RING_A_SIZE : Fld := ⟨.REC_RING_A, 48, 4⟩
abbrev REC_RING_A_EN : Fld := ⟨.REC_RING_A, 52, 1⟩
abbrev REC_RING_A_LOSS_SEEN : Fld := ⟨.REC_RING_A, 53, 1⟩
abbrev REC_RING_B_HEAD : Fld := ⟨.REC_RING_B, 0, 32⟩
abbrev REC_RING_B_TAIL : Fld := ⟨.REC_RING_B, 32, 32⟩
abbrev REC_RING_C_LOST : Fld := ⟨.REC_RING_C, 0, 32⟩
abbrev REC_RING_C_SEQ : Fld := ⟨.REC_RING_C, 32, 32⟩
abbrev REC_ROUTE_MASK1 : Fld := ⟨.REC_ROUTE, 4, 4⟩
abbrev REC_ROUTE_MASK2 : Fld := ⟨.REC_ROUTE, 8, 4⟩
abbrev REC_ROUTE_MASK3 : Fld := ⟨.REC_ROUTE, 12, 4⟩
abbrev REC_ROUTE_MASK4 : Fld := ⟨.REC_ROUTE, 16, 4⟩
abbrev REC_ROUTE_MASK5 : Fld := ⟨.REC_ROUTE, 20, 4⟩
abbrev REC_ROUTE_MASK6 : Fld := ⟨.REC_ROUTE, 24, 4⟩
abbrev REC_ROUTE_MASK7 : Fld := ⟨.REC_ROUTE, 28, 4⟩
abbrev REC_STATUS_QUEUED : Fld := ⟨.REC_STATUS, 0, 6⟩
abbrev REC_STATUS_NOROUTE : Fld := ⟨.REC_STATUS, 16, 16⟩
abbrev REC_STATUS_WRITTEN : Fld := ⟨.REC_STATUS, 32, 32⟩
abbrev TRC_CTRL_CMD : Fld := ⟨.TRC_CTRL, 0, 3⟩
abbrev TRC_STATUS_STATE : Fld := ⟨.TRC_STATUS, 0, 2⟩
abbrev TRC_STATUS_CAUSE : Fld := ⟨.TRC_STATUS, 2, 3⟩
abbrev TRC_STATUS_FROZEN_SEEN : Fld := ⟨.TRC_STATUS, 5, 1⟩
abbrev TRC_STATUS_TRIP_OVF : Fld := ⟨.TRC_STATUS, 6, 1⟩
abbrev TRC_STATUS_DUMPING : Fld := ⟨.TRC_STATUS, 7, 1⟩
abbrev TRC_STATUS_DROPPING : Fld := ⟨.TRC_STATUS, 8, 8⟩
abbrev TRC_STATUS_TRIGS : Fld := ⟨.TRC_STATUS, 16, 16⟩
abbrev TRC_STATUS_UNSENT : Fld := ⟨.TRC_STATUS, 32, 13⟩
abbrev TRC_STATUS_TRIPRECS : Fld := ⟨.TRC_STATUS, 45, 6⟩
abbrev TRC_PTR_OLDEST : Fld := ⟨.TRC_PTR, 0, 13⟩
abbrev TRC_PTR_TRIG_SLOT : Fld := ⟨.TRC_PTR, 16, 13⟩
abbrev TRC_PTR_COUNT : Fld := ⟨.TRC_PTR, 32, 13⟩
abbrev TRC_LOSS_DROPPED : Fld := ⟨.TRC_LOSS, 0, 32⟩
abbrev TRC_BUF_VAL : Fld := ⟨.TRC_BUF, 0, 64⟩
abbrev DXL_STATUS_UP : Fld := ⟨.DXL_STATUS, 0, 8⟩
abbrev DXL_STATUS_PFAIL : Fld := ⟨.DXL_STATUS, 8, 8⟩
abbrev DXL_STATUS_ROOT : Fld := ⟨.DXL_STATUS, 16, 1⟩
abbrev DXL_STATUS_JOBMISS : Fld := ⟨.DXL_STATUS, 32, 16⟩
abbrev DXL_TIME_SYS_OFS : Fld := ⟨.DXL_TIME, 0, 64⟩
abbrev DXL_TERR_ERR : Fld := ⟨.DXL_TERR, 0, 32⟩
abbrev DXL_TERR_DELAY : Fld := ⟨.DXL_TERR, 32, 16⟩
abbrev DXL_TERR_STEPPED : Fld := ⟨.DXL_TERR, 48, 1⟩
abbrev DXL_TERR_ERR_SEEN : Fld := ⟨.DXL_TERR, 49, 1⟩
abbrev DXL_LEASE_LENT : Fld := ⟨.DXL_LEASE, 0, 32⟩
abbrev DXL_LEASE_BORROWED : Fld := ⟨.DXL_LEASE, 32, 32⟩
abbrev DXL_OFFER_SPARE : Fld := ⟨.DXL_OFFER, 0, 32⟩
abbrev DXL_OFFER_WANT : Fld := ⟨.DXL_OFFER, 32, 32⟩
abbrev DXL_JOB_JOB : Fld := ⟨.DXL_JOB, 0, 16⟩
abbrev DXL_PORT_A_STATE : Fld := ⟨.DXL_PORT_A, 0, 2⟩
abbrev DXL_PORT_A_LINK_UP : Fld := ⟨.DXL_PORT_A, 2, 1⟩
abbrev DXL_PORT_A_KEYID : Fld := ⟨.DXL_PORT_A, 3, 1⟩
abbrev DXL_PORT_A_REQUESTER : Fld := ⟨.DXL_PORT_A, 4, 1⟩
abbrev DXL_PORT_A_ROLE : Fld := ⟨.DXL_PORT_A, 8, 8⟩
abbrev DXL_PORT_A_PEER_ID : Fld := ⟨.DXL_PORT_A, 16, 16⟩
abbrev DXL_PORT_A_TX_SEQ : Fld := ⟨.DXL_PORT_A, 32, 32⟩
abbrev DXL_PORT_B_MACFAIL : Fld := ⟨.DXL_PORT_B, 0, 16⟩
abbrev DXL_PORT_B_RSVD : Fld := ⟨.DXL_PORT_B, 16, 16⟩
abbrev DXL_PORT_B_DOWNS : Fld := ⟨.DXL_PORT_B, 32, 16⟩
abbrev DXL_PORT_B_LFAULT : Fld := ⟨.DXL_PORT_B, 48, 16⟩
abbrev DXL_PORT_C_LEASE : Fld := ⟨.DXL_PORT_C, 0, 32⟩
abbrev DXL_PORT_C_LENDER : Fld := ⟨.DXL_PORT_C, 32, 1⟩
abbrev DXL_PORT_C_LSEQ : Fld := ⟨.DXL_PORT_C, 48, 16⟩
abbrev DXL_PORT_D_T_END : Fld := ⟨.DXL_PORT_D, 0, 64⟩
abbrev MIR_STATUS_ROLE_0 : Fld := ⟨.MIR_STATUS, 0, 3⟩
abbrev MIR_STATUS_ROLE_1 : Fld := ⟨.MIR_STATUS, 3, 3⟩
abbrev MIR_STATUS_SELF : Fld := ⟨.MIR_STATUS, 6, 1⟩
abbrev MIR_STATUS_FAILOVERS : Fld := ⟨.MIR_STATUS, 16, 16⟩
abbrev MIR_STATUS_REFUSED : Fld := ⟨.MIR_STATUS, 32, 16⟩
abbrev MIR_CMD_CMD : Fld := ⟨.MIR_CMD, 0, 2⟩
abbrev MIR_LAST_CAUSE : Fld := ⟨.MIR_LAST, 0, 4⟩
abbrev MIR_LAST_APPLIED : Fld := ⟨.MIR_LAST, 4, 12⟩
abbrev MIR_LAST_RESENT : Fld := ⟨.MIR_LAST, 16, 16⟩
abbrev MIR_LAST_TIME : Fld := ⟨.MIR_LAST, 32, 32⟩
abbrev MIR_LAG_CONF_LAST : Fld := ⟨.MIR_LAG, 0, 16⟩
abbrev MIR_LAG_CONF_MAX : Fld := ⟨.MIR_LAG, 16, 16⟩
abbrev MIR_LAG_LAZY_AGE : Fld := ⟨.MIR_LAG, 32, 32⟩
abbrev CTX_SYNC_OP_OP : Fld := ⟨.CTX_SYNC_OP, 0, 5⟩
abbrev CTX_SYNC_OP_OBJ : Fld := ⟨.CTX_SYNC_OP, 8, 14⟩
abbrev CTX_SYNC_OP_ARG0 : Fld := ⟨.CTX_SYNC_OP, 24, 16⟩
abbrev CTX_SYNC_OP_ARG1 : Fld := ⟨.CTX_SYNC_OP, 40, 16⟩
abbrev CTX_SYNC_OP_ARG2 : Fld := ⟨.CTX_SYNC_OP, 56, 8⟩
abbrev CTX_SYNC_STAT_CEPOCH : Fld := ⟨.CTX_SYNC_STAT, 0, 4⟩
abbrev CTX_SYNC_STAT_SWITCHING : Fld := ⟨.CTX_SYNC_STAT, 4, 1⟩
abbrev CTX_SYNC_STAT_OBJ_COUNT : Fld := ⟨.CTX_SYNC_STAT, 16, 12⟩
abbrev CTX_SYNC_STAT_WATCH_USED : Fld := ⟨.CTX_SYNC_STAT, 32, 17⟩
abbrev CTX_LATCH_OP : Fld := ⟨.CTX_LATCH, 0, 2⟩
abbrev CTX_LATCH_SLOT : Fld := ⟨.CTX_LATCH, 2, 2⟩
abbrev CTX_LATCH_CMD_ADDR : Fld := ⟨.CTX_LATCH, 6, 42⟩
abbrev CTX_LATCH_CTX : Fld := ⟨.CTX_LATCH, 48, 4⟩
abbrev CTX_LATCH_STAT_OPEN : Fld := ⟨.CTX_LATCH_STAT, 0, 4⟩
abbrev CTX_LATCH_STAT_PENDING : Fld := ⟨.CTX_LATCH_STAT, 4, 3⟩
abbrev CTX_LATCH_STAT_LNUM : Fld := ⟨.CTX_LATCH_STAT, 8, 4⟩
abbrev CTX_LATCH_STAT_LAST_FLAGS : Fld := ⟨.CTX_LATCH_STAT, 16, 8⟩
abbrev CTX_CNT_VAL : Fld := ⟨.CTX_CNT, 0, 64⟩
abbrev CTX_ENERGY_VAL : Fld := ⟨.CTX_ENERGY, 0, 64⟩
abbrev CTX_LSNAP_VAL : Fld := ⟨.CTX_LSNAP, 0, 64⟩
abbrev CTX_SYNC_OBJ_A_TYPE : Fld := ⟨.CTX_SYNC_OBJ_A, 0, 3⟩
abbrev CTX_SYNC_OBJ_A_BROKEN : Fld := ⟨.CTX_SYNC_OBJ_A, 3, 1⟩
abbrev CTX_SYNC_OBJ_A_SHAPE_EN : Fld := ⟨.CTX_SYNC_OBJ_A, 4, 1⟩
abbrev CTX_SYNC_OBJ_A_PTAG_EN : Fld := ⟨.CTX_SYNC_OBJ_A, 5, 1⟩
abbrev CTX_SYNC_OBJ_A_PTAG_EXIT : Fld := ⟨.CTX_SYNC_OBJ_A, 6, 1⟩
abbrev CTX_SYNC_OBJ_A_UP : Fld := ⟨.CTX_SYNC_OBJ_A, 7, 1⟩
abbrev CTX_SYNC_OBJ_A_PTAG_PHASE : Fld := ⟨.CTX_SYNC_OBJ_A, 8, 8⟩
abbrev CTX_SYNC_OBJ_A_CTX : Fld := ⟨.CTX_SYNC_OBJ_A, 16, 4⟩
abbrev CTX_SYNC_OBJ_A_PRIV : Fld := ⟨.CTX_SYNC_OBJ_A, 20, 1⟩
abbrev CTX_SYNC_OBJ_A_GEN : Fld := ⟨.CTX_SYNC_OBJ_A, 32, 16⟩
abbrev CTX_SYNC_OBJ_A_TARGET : Fld := ⟨.CTX_SYNC_OBJ_A, 48, 16⟩
abbrev CTX_SYNC_OBJ_B_COUNT : Fld := ⟨.CTX_SYNC_OBJ_B, 0, 16⟩
abbrev CTX_SYNC_OBJ_B_NEXT : Fld := ⟨.CTX_SYNC_OBJ_B, 16, 16⟩
abbrev CTX_SYNC_OBJ_B_WATCHES : Fld := ⟨.CTX_SYNC_OBJ_B, 32, 17⟩
end F

end Sys2Proof.Machine
end

