-- ==== Sys2Proof/Machine/Vars.lean ====
section
/-!
DEFINITION. The block's internal variables: quantities the spec gives the block that no register shows, one name each, with
the rule that names it. Indices are the instance numbers that the comment names. Every variable reads 0 after reset unless
Var.dflt says otherwise.
-/
namespace Sys2Proof.Machine

/-- The internal variables. -/
inductive Var where
  /-- next buffer sequence number of the trace unit (17 R521) -/
  | trcSeq
  /-- frames stored since the first trigger (17 R523) -/
  | trcPost
  /-- frames of class i dropped since the last LOSS frame, saturating at 65,535 (17 R522, R524) -/
  | trcLoss
  /-- deferred PRIGROUP plus 1, 0 for none (14 R432) -/
  | evtPg
  /-- value plus 1 of the HELLO_ACK that a channel end (numbered i) last sent in this LINKING, 0 for none (03 R96) -/
  | chAckSent
  /-- value plus 1 of the HELLO_ACK that end i received in this LINKING (03 R96) -/
  | chAckRcvd
  /-- epoch plus 1 of a HELLO that end i holds from DOWN (03 R95) -/
  | chHello
  /-- REASON that both ends of domain i's parent channel give in their next HELLO: 0 power-on, 1 reset, 2 wake (03 R87) -/
  | chWhy
  /-- FENCE_ID plus 1 of the FENCE pending at parent end i (03 R102) -/
  | chFence
  /-- FENCE_ID plus 1 of the FENCE from its parent that island i (domain) is carrying out (03 R102) -/
  | chFenceUp
  /-- 1 when a child's fence completed with E_ABSENT for the FENCE that island i carries out (03 R102) -/
  | chFenceBad
  /-- FENCE_ID of the next FENCE of island i (03 R88) -/
  | chFenceSeq
  /-- 1 while the loader holds end i in DOWN until tA (03 R104) -/
  | chHold
  /-- 1 while the reset tree holds domain i in reset (13 R408) -/
  | islHeld
  /-- 1 once domain i holds all its image fields (02 R77) -/
  | islFields
  /-- sum of P over the slots that start in interval m, rail slot k of leaf i: j = k + 4m (04 R129) -/
  | estSum
  /-- slots that start in interval j and have closed at leaf i (04 R129) -/
  | estSlots
  /-- slots of KNEAD window w in which leaf i estimated for rail slot k, j = k + 4w (04 R129) -/
  | estWin
  /-- unscaled energy of leaf i over KNEAD window w, rail slot k and group g, j = 8k + g + 32w, in units of 2^-47 pJ (04 R129) -/
  | estGrp
  /-- LEAF_THETA_LO word written at leaf i for rail slot j and not yet adopted (04 R140) -/
  | estThLo
  /-- LEAF_THETA_HI word written at leaf i for rail slot j and not yet adopted (04 R140) -/
  | estThHi
  /-- 1 when the HI word has come and the pair is to be adopted at the next slot boundary (04 R140) -/
  | estThNew
  /-- 1 when a LO word has come since the last adoption (04 R140) -/
  | estThLoNew
  /-- last estimate reported by child domain i for rail j, mW (01 R30) -/
  | estLast
  /-- slot number plus 1 of estVal (01 R30) -/
  | estFresh
  /-- sum of E(r, k) over the slots of rail i that start in interval j (04 R132) -/
  | estRailSum
  /-- slots summed in estRailSum (04 R132) -/
  | estRailN
  /-- last INTERVAL power of leaf i on rail j at the hub, mW (04 R131) -/
  | ivLast
  /-- SEQ plus 1 of leaf i's last INTERVAL report for rail j at the hub, 0 once used (04 R131) -/
  | ivFresh
  /-- F(d, r, j) of domain i for rail j, mW, of the last interval (04 R131) -/
  | attr
  /-- GROUP energy that node i has summed for 8r + g, not yet sent (04 R130) -/
  | ngE
  /-- NLEAF that node i has summed for 8r + g (04 R130) -/
  | ngN
  /-- SEQ plus 1 of child domain i's GROUP report for 8r + g not yet sent on (04 R130) -/
  | ngRep
  /-- SEQ plus 1 of node i's last GROUP report for 8r + g (04 R130) -/
  | ngSent
  /-- GROUP energy at the hub for 8r + g (i), window number mod 16 j (04 R138) -/
  | hgE
  /-- NLEAF at the hub for 8r + g, window number mod 16 j (04 R138) -/
  | hgN
  /-- sum of M(r, j) over the KNEAD window of number mod 16 j of rail i (04 R138) -/
  | kwM
  /-- intervals summed in kwM -/
  | kwN
  /-- 1 when rail i was not NORMAL at an interval close of the window of number mod 16 j (04 R138 code 2) -/
  | kwBad
  /-- 1 when the package was outside RUN and HOLD in the window of number mod 16 j (i 0) (04 R138 code 3) -/
  | kwPkg
  /-- 1 when a delta or a RESET touched rail i in the window of number mod 16 j (04 R138 code 4) -/
  | kwTouch
  /-- theta of rail i, group j, in units of 2^-149 (04 R139) -/
  | kTheta
  /-- P of rail i, entry 8a + b, in units of 2^-149 (04 R139) -/
  | kP
  /-- sum of cycle powers of rail i over the cycles that end in interval j, mW (04 R125) -/
  | cyP
  /-- sum of rail currents over those cycles, mA (04 R124) -/
  | cyI
  /-- sum of VSENSE at the ends of those cycles (04 R135) -/
  | cyV
  /-- number of those cycles (04 R125) -/
  | cyN
  /-- last cycle power of rail i (04 R125) -/
  | cyLastP
  /-- last rail current of rail i at a cycle end (04 R124) -/
  | cyLastI
  /-- stamp plus 1 at which rail i's first cycle since it was enabled ended, 0 for none (04 R126) -/
  | cySeen
  /-- causes of R126 seen in interval j of rail i -/
  | invBits
  /-- consecutive valid intervals of rail i (04 R134) -/
  | validRun
  /-- sum of M over rail i's present run of DIV_CNT (04 R137) -/
  | divM
  /-- sum of Ebar over rail i's present run of DIV_CNT (04 R137) -/
  | divE
  /-- sum of VSENSE over the cycles of rail i's present run of DIV_CNT (04 R137) -/
  | divV
  /-- cycles summed in divV -/
  | divVN
  /-- sum of samples of phase channel i over its cycles that ended in interval j while it was enabled (04 R137) -/
  | phSum
  /-- cycles summed in phSum -/
  | phN
  /-- M of the last interval of rail i whose fused value has been formed (04 R132) -/
  | latestM
  /-- last INTERVAL power that node n forwarded for leaf l (i 512n + l) on rail j, mW (06 R183) -/
  | nivLast
  /-- 1 once leaf i has received a GRANT in class AVG since it left reset (06 R184) -/
  | gotAvg
  /-- 1 once leaf i has received a GRANT in class FAST since it left reset (06 R184) -/
  | gotFast
  /-- 1 while leaf i does not convert: from entry to HOLD to its first GRANT after RESUME (06 R189) -/
  | leafFrozen
  /-- 1 while leaf i holds SAFE_LIMIT for HOLD_MAX (01 R44) -/
  | safeHold
  /-- 1 while leaf i is silent, 2 after PARENT_BACK and before the first BUDGET (03 R107, R108) -/
  | safeSil
  /-- fixed-part energy of leaf i, rail slot k over the slots that start in interval m, j = k + 4m, units of 2^-61 pJ (06 R185) -/
  | fxAcc
  /-- the same over the last interval, rail slot j -/
  | fxLast
  /-- slots of leaf i's last interval (04 R129) -/
  | slotsLast
  /-- rows of sub-gate q of leaf i over the slots that start in interval m, j = q + 64m (06 R186) -/
  | sgRows
  /-- the same over the last interval, sub-gate j -/
  | sgRowsLast
  /-- issue energy of sub-gate q of leaf i on rail slot k over the slots of interval m, j = q + 64(k + 4m), units of 2^-61 pJ (06 R186) -/
  | sgE
  /-- the same of the last interval, j = q + 64k (06 R186) -/
  | sgELast
  /-- ECYC of gate p of leaf i over the slots that start in interval m, j = p + 32m (06 R186) -/
  | ecyc
  /-- the same over the last interval, gate j -/
  | ecycLast
  /-- CCYC of core port p of leaf i over those slots, j = p + 32m (06 R188) -/
  | ccyc
  /-- the same over the last interval, core port j -/
  | ccycLast
  /-- energy of the cycles of core port p of leaf i in interval m, j = p + 32m, units of 2^-61 pJ (06 R188) -/
  | coreE
  /-- the same of the last interval (06 R188) -/
  | coreELast
  /-- share of a sub-gate at leaf i, numerator; j = 8 × sub-gate + (0 AVG, 1 FAST, 2 + k RAIL of slot k) (06 R187) -/
  | shNum
  /-- its denominator -/
  | shDen
  /-- 1 while that share is held through REST (06 R196) -/
  | shHold
  /-- 1 while sub-gate j of leaf i is out of its split after REST (06 R196) -/
  | dropped
  /-- tR of sub-gate j of leaf i (06 R195) -/
  | restEnd
  /-- BUD of sub-gate j of leaf i in force since the last credit window (06 R190) -/
  | winBud
  /-- LEVEL limit of leaf i in force since the last credit window, 512 for none (06 R190) -/
  | winLevel
  /-- SAFE limit of leaf i in force since the last credit window, 512 for none (06 R190) -/
  | winSafe
  /-- 1 while source RESET is in force at leaf i's gates (06 R190) -/
  | rstHold
  /-- SHED ceiling of sub-gate j of leaf i (10 R327) -/
  | shedBud
  /-- 1 while sub-gate j of leaf i is held for a wave (09 R288) -/
  | proofHold
  /-- SCORE clamp code of gate j of leaf i, 256 for none (09 R271) -/
  | scoreCode
  /-- FMAX of source SLOT at core port j of leaf i, 256 for none (06 R191, R192) -/
  | coreSlot
  /-- CCP_QREQ of core port j of leaf i (13 R397) -/
  | ccpQreq
  /-- CCP_QACK of core port j of leaf i (13 R397) -/
  | ccpQack
  /-- 1 while core port j of leaf i is driven to code 0 in SLEEP (13 R397) -/
  | ccpZero
  /-- cycles of 16 that the FIXED-mode mask of core port j of leaf i keeps (06 R199) -/
  | fixKeep
  /-- ns of LEVEL window n in which sub-gate q of leaf i was held below LEVEL_LIMIT by another source, j = q + 64n (06 R201) -/
  | levHeld
  /-- applied value loop i last received, mW (05 R161, R162) -/
  | appliedMw
  /-- value loop i last committed, mW, before the lease adjustment; -1 for none (05 R159, 15 R465) -/
  | lpCommit
  /-- nominal time of loop i's next tick; -1 while its engine stands (05 R170, R600) -/
  | lpNom
  /-- scheduled start of loop i's next tick (05 R170) -/
  | lpDue
  /-- e of loop i's last OPEN or CLOSING tick since the image was applied, 0 for none (05 R165) -/
  | lpE0
  /-- LEAF_THR_REQ value that loop i last sent (11 R352) -/
  | thrSent
  /-- F(r, j) of rail i, interval number mod 1000 j (05 R151) -/
  | fHist
  /-- fused values formed since the image was applied (05 R151) -/
  | fHistN
  /-- F(d, r, j) of domain i, j = 32 × (interval number mod 1000) + rail (05 R151) -/
  | aHist
  /-- numerator of the last attribution share of domain i on rail j (04 R131, 05 R151) -/
  | shareN
  /-- denominator of the last attribution of rail i -/
  | shareD
  /-- sum of package F_fast over the slots that start in interval j (06 R178) -/
  | exSum
  /-- slots summed in exSum (06 R178) -/
  | exN
  /-- LENT, mW (15 R463) -/
  | leaseLent
  /-- BORROWED, mW (15 R464) -/
  | leaseBorrowed
  /-- footprint Q(c, l) of leaf i: j = c, and 16 for Qtot(l), in quarters (07 R210) -/
  | fp
  /-- 1 when sample j of slot i is to be discarded (07 R212) -/
  | smpBad
  /-- ROWS_c of slot i over window j, as reported before its completion (07 R211, 17 R500) -/
  | smpRows
  /-- STALL_BUD of slot i over that window (07 R212) -/
  | smpBud
  /-- STALL_SCORE, STALL_PROOF and STALL_OTHER of slot i over that window (07 R212) -/
  | smpOth
  /-- phase plus 1 whose NEXT slot i trained last, 0 for none (07 R214) -/
  | strLast
  /-- NEXT + 256 × CONF of that entry before that training (07 R214) -/
  | strSaved
  /-- stamp that opened slot i's present visit (07 R214) -/
  | visOpen
  /-- phase plus 1 of the visit of slot i that closed at stamp j, 0 for none (07 R211) -/
  | vhPhase
  /-- stamp that opened it -/
  | vhOpen
  /-- NEED last sent for domain i, mW; -1 for the image's (07 R219) -/
  | needSent
  /-- WEIGHT last sent for domain i; -1 for the image's (07 R219) -/
  | wtSent
  /-- w(c) of slot i when last formed (07 R220) -/
  | wLast
  /-- stamp up to which the cycles of sub-gate j of leaf i are accounted to EFF's source -/
  | effAt
  /-- remainder below one cycle, in 1/64 cycle, of the cycles of leaf i with EFF below 256, j = 4 × sub-gate + (0 BUDGET or LEVEL, 1 SCORE, 2 PROOF, 3 other) (17 R495) -/
  | stl
  /-- cycles of leaf i with source SCORE, in 1/64 cycle (09 R273) -/
  | scoreCyc
  /-- 1 while leaf i has stopped its engine branches for SLEEP (13 R397) -/
  | engStop
  /-- stamp of leaf i's last credit window start (09 R263) -/
  | cwAt
  /-- rows that sub-gate j of leaf i's bucket held at its last load or revocation (09 R263, R265) -/
  | bkt
  /-- bits [52:44] written to LEAF_GATE j of leaf i and in force from the next credit window, plus 1 (06, LEAF_GATE_n) -/
  | gatePend
  /-- stamp at which the clamp of gate j of leaf i may ramp (09 R272) -/
  | scHold
  /-- 1 while that clamp ramps (09 R272) -/
  | scRamp
  /-- consecutive samples of detector i at or below its threshold (09 R266) -/
  | ddRun
  /-- 1 while detector i has a calibration request (09 R269) -/
  | ddReq
  /-- stamp of detector i's last calibration, or of its leaf's release (09 R270) -/
  | ddCalAt
  /-- expiry of the wave hold of sub-gate j of leaf i (09 R288) -/
  | wvAt
  /-- status code that wave hold carries -/
  | wvStat
  /-- stamp of rail i's last change of fusion state -/
  | fuseAt
  /-- stamp of rail i's last change of reference or RISE offset (09 R269) -/
  | refAt
  /-- u1 of rail i, mA (10 R311) -/
  | rlU1
  /-- w1 of rail i -/
  | rlW1
  /-- e1 of rail i -/
  | rlE1
  /-- stamp at which rail i's step interval started (10 R314) -/
  | slewAt
  /-- sum of VSENSE conversions of rail i in MEASURE (10 R319) -/
  | measSum
  /-- conversions in that sum -/
  | measN
  /-- stamp since which rail i's VSENSE has stayed within PG_WIN of its reference; -1 for none (10 R321) -/
  | pgFrom
  /-- 1 once rail i has sampled at a cycle start since it was enabled (10 R305) -/
  | cycOn
  /-- rail current of rail i's last cycle, mA (04 R124) -/
  | railI
  /-- stamp since which rail i's shed conditions hold; -1 for none (10 R324) -/
  | dwellFrom
  /-- stamp at which rail i's HANDSHAKE started (10 R326) -/
  | shedAt
  /-- LEAF_SHED responses outstanding for rail i (10 R325) -/
  | shedWait
  /-- tick plus 1 of the loop sample at which rail i's shed passed the check of DISABLING, 0 before (10 R325) -/
  | shedChk
  /-- commanded RISE offset of rail i, codes (09 R281) -/
  | riseOff
  /-- stamp of rail i's last RISE step -/
  | riseAt
  /-- exposure of rail i in the open wear window, in codes × µs (09 R282) -/
  | riseExpo
  /-- consecutive samples of rail i over the OV limit (12 R364) -/
  | ovCnt
  /-- consecutive samples of rail i under the UV limit (12 R364) -/
  | uvCnt
  /-- consecutive cycles of rail i above RAIL_OC (12 R364) -/
  | ocCnt
  /-- consecutive cycles of phase channel i at its peak limit (10 R329) -/
  | cbcRun
  /-- PWM of phase channel i: 0 mid-level, 1 high, 2 low (10 R303) -/
  | phPwm
  /-- PEN of phase channel i; after it fell, low from phOffAt (10 R303) -/
  | phPen
  /-- stamp at which PEN of phase channel i went low (10 R331) -/
  | phOffAt
  /-- 1 once phase channel i has calibrated since PEN went low (10 R331) -/
  | phCalDone
  /-- 1 while a calibration of phase channel i is requested (10 R331) -/
  | phCalReq
  /-- reference last sent to leaf i for rail slot j (10 R316) -/
  | vrefSent
  /-- next SEQ that link port i accepts under KEYID j (15 R449) -/
  | rxSeq
  /-- stamp of the last frame accepted on link port i (15 R452) -/
  | rxLast
  /-- stamp of the last frame sent on link port i (15 R453) -/
  | txLast
  /-- stamp from which link port i may enter AUTH (15 R452) -/
  | authAt
  /-- 1 once link port i has accepted a frame under its newest KEYID (15 R451) -/
  | rxKeyNew
  /-- arrival bits of SPAN object i for its GEN (15 R457) -/
  | spArr
  /-- arrival bits of SPAN object i for GEN + 1 (15 R457) -/
  | spNxt
  /-- expiry of SPAN object i's stagger, ps; -1 for none (09 R290) -/
  | spAt
  /-- ROT of object i (09 R286) -/
  | obRot
  /-- predicted completion time of armed object i; -1 when not armed (09 R277, R278) -/
  | obThat
  /-- stamp plus 1 of the first arrival of object i's generation, 0 for none (09 R277) -/
  | obFirst
  /-- stamp plus 1 of its latest arrival -/
  | obLastA
  /-- stamp plus 1 of the first arrival toward object i's next generation, 0 for none -/
  | obNFirst
  /-- stamp plus 1 of the latest arrival toward it -/
  | obNLast
  /-- operation of sub-gate j of leaf i that is not yet answered: 1 + SOP + 16 × epoch + 256 × slot + 4096 × index, 0 for none (08 R232, R251) -/
  | sgOut
  /-- hub stamp of slot i's last CTX_SWITCH; -1 for none (17 R504) -/
  | swTime
  /-- 1 when link port i would have had to send SEQ 0xFFFF_FFFF (15 R451) -/
  | txStop
  /-- LSEQ last sent on link port i (15 R464) -/
  | lsSent
  /-- LSEQ last accepted on link port i (15 R464) -/
  | lsAcc
  /-- SPARE of the last offer received on link port i, mW (15 R462) -/
  | ofSpare
  /-- WANT of the offer received on link port i in the present cycle, mW (15 R462) -/
  | ofWant
  /-- number of the present lease grid cycle: system time over 100 µs (15 R462) -/
  | lsGrid
  /-- 1 while a recall of the lease on link port i runs (15 R466) -/
  | lsRecall
  /-- AMOUNT of that recall, mW -/
  | lsTo
  /-- its T_EFF, in hub time -/
  | lsEff
  /-- T_EXP of the lease on link port i, in hub time (15 R464, R466) -/
  | lsEnd
  /-- T1 of the outstanding TIME_SYNC request plus 1, 0 for none (15 R454) -/
  | tsT1
  /-- stamp of the last TIME_SYNC request (15 R454) -/
  | tsAt
  /-- 1 until the first reply since the parent port entered UP (15 R455) -/
  | tsFirst
  /-- correction of SYS_OFS that is being made, ns (15 R455) -/
  | tsRem
  /-- stamp at which that correction began -/
  | tsRemAt
  /-- stamp plus 1 at which the reset pulse of domain i ends, 0 for none (13 R407, R408) -/
  | islRst
  /-- stamp of domain i's release while its ALIVE has not risen, -1 for none (13 R409) -/
  | islRel
  /-- 1 while domain i holds up its ALIVE level (03 R81) -/
  | islAlive
  /-- 1 from a planned SEQ_OFF until SEQ_ON at rail i: its islands are held in reset (13 R408) -/
  | railPlan
  /-- 1 once domain i has loaded its time base since it left reset (13 R394) -/
  | tbSet
  /-- stamp of the last TIME delivered at leaf i, or of its entry to UP (03 R106) -/
  | timeAt
  /-- stamp at which node i delivered a TIME that it has not yet sent on, plus 1 (13 R393) -/
  | timeFwd
  /-- stamp at which the ordinary switch of clock unit i began (13 R399) -/
  | muxAt
  /-- selection to which clock unit i is switching -/
  | muxSel
  /-- 1 while clock unit i is in its quiet period (13 R403) -/
  | clkQuiet
  /-- 1 while clock unit i calibrates its oscillator (13 R401) -/
  | clkCal
  /-- 1 while clock unit i returns to REFCLK (13 R405) -/
  | clkRet
  /-- stamp of entry to the present package state (01 R39) -/
  | pkgAt
  /-- RAMP_STEP of the step that RAMP runs, -1 for none (13 R412) -/
  | rampNow
  /-- start of that step -/
  | rampAt
  /-- 1 while that step is the first -/
  | rampFirst
  /-- stamp of SEQ_ON at rail i in this RAMP, -1 for none (13 R413) -/
  | rampOn
  /-- RAMP_STEP of the step that the ramp-down runs, -1 for none (13 R415) -/
  | downNow
  /-- what the ramp-down is for: 0 none, 1 RESET_TO_AON, 2 DEEP_SLEEP, 3 a stop of CRUST -/
  | downFor
  /-- 1 while the ramp-down waits for fences and the posted-write queue (13 R415, 18 R541) -/
  | downWait
  /-- stamp plus 1 of the counted trip of number mod 256 i (01 R41) -/
  | tripAt
  /-- counted trips since power-on -/
  | tripN
  /-- expiry of rail i's UV hold, -1 for none (12 R373) -/
  | uvEnd
  /-- 1 once HOLD_MAX has passed in the present HOLD (01 R44) -/
  | holdOut
  /-- package commands accepted while a delta is being applied that wait for its end, four bits each, the latest lowest (01 R40; 02 R75) -/
  | resumeWait
  /-- stamp since which every request of rail i has stayed at or below the FMAX of VF entry j, -1 for none (06 R192) -/
  | slowSlot
  /-- latest valid conversion of site i, 1/64 degree (11 R339) -/
  | tsGood
  /-- its stamp, -1 for none -/
  | tsGoodAt
  /-- conversion period of site i's latest valid conversion, -1 for none (11 R342) -/
  | tsPer
  /-- stamp plus 1 at which EN of site i last became 1, 0 for since reset (11 R339) -/
  | tsEn
  /-- consecutive valid results of body i at or above SHUTDOWN; a body is a site, or 0x8000 + a stack port (11 R344) -/
  | tsShut
  /-- consecutive valid results of body i below threshold j less its hysteresis (11 R344) -/
  | tsLow
  /-- flag of threshold j of stack port i (11 R344, R358) -/
  | stkFlag
  /-- stamp of stack port i's last valid update, -1 for none (11 R357) -/
  | stkAt
  /-- stamp from which domain i's sites and stacks convert (11 R338) -/
  | thFrom
  /-- start of the open calibration pass (11 R342) -/
  | calAt
  /-- pairs of site i in that pass -/
  | calN
  /-- sum of T_r - T_s over them -/
  | calSum
  /-- T_r - T_s of site i's candidate pair -/
  | calCand
  /-- its conversion period, -1 for none -/
  | calCandPer
  /-- conversion period in which site i changed its correction, -1 for none (11 R342) -/
  | calOld
  /-- sum of leaf i's estimates over the open conversion period, all rails, mW (11 R342) -/
  | tpSum
  /-- slots of it -/
  | tpN
  /-- number of that period -/
  | tpPer
  /-- T of leaf i's last TEMP report, kept at host j: 0 the hub, 1 + n node n (11 R341) -/
  | repTemp
  /-- stamp at which it was received, -1 for none -/
  | repAt
  /-- 1 when its FALLBACK was 1 (11 R340) -/
  | repFallback
  /-- its BAND -/
  | repBand
  /-- 1 while leaf i has no usable report for its rails' G (11 R356) -/
  | repLapsed
  /-- count of leaf i in counter window w; j = CIDX + 64 × (context slot, 16 for unattributed) + 2048w (17 R497) -/
  | cwAcc
  /-- number of the last counter window that leaf i has reported, -1 before the first -/
  | cwNum
  /-- latch accumulator of leaf i, j = CIDX + 64 × context slot + 2048b: b = 0 what no pending point takes, 1 + n what point n takes (17 R507) -/
  | clAcc
  /-- word of LEAF_CNT_SEL_k (j) that leaf i counts by before the window cntFrom (17 R502) -/
  | cntSel
  /-- sum that node i has formed and not sent: j = LK + 2 × (CIDX + 64 × (slot or 16) + 2048 × SEQ) (17 R499) -/
  | cnSum
  /-- NLEAF of that sum -/
  | cnLeaf
  /-- 1 once child domain i has sent END for j = LK + 2 × SEQ, and 64 × slot more for a latch; 2 where that END was LATE (17 R499, R500) -/
  | cnEnd
  /-- 1 once node i has sent its END for that j (17 R499) -/
  | cnSent
  /-- next latch number of context slot i (17 R507) -/
  | latNum
  /-- context energy of slot i since the hub's last reset, nJ (17 R494, R509) -/
  | ctxNj
  /-- global energy counter of index i, nJ (17 R501) -/
  | gNj
  /-- stamp up to which STATE_T is accounted (17 R501) -/
  | pkgT
  /-- sum of package F over the open telemetry window, mW (17 R513) -/
  | telM
  /-- sum of package Ebar over it -/
  | telE
  /-- intervals summed in it -/
  | telN
  /-- SCORE_TRIPS at its open -/
  | telTrips
  /-- SHAPED at its open -/
  | telShaped
  /-- loop slips at its open -/
  | telSlips
  /-- slots since the last EST trace frames (17 R522) -/
  | estDiv
  /-- frames of the DUMP replay that the port has taken (17 R527) -/
  | dumpAt
  /-- staging pointer of the loader (02 R72) -/
  | imgPtr
  /-- bank being verified (02 R74) -/
  | imgCand
  /-- pointer of the certificate store (18 R562) -/
  | certPtr
  /-- PMBus PAGE (18 R558) -/
  | facPage
  /-- SPDM connection: 0 none, 1 version, 2 capabilities, 3 algorithms negotiated (18 R556) -/
  | spdmSt
  /-- 1 + state of session i: 0 none, 1 handshake, 2 established (18 R556) -/
  | spdmSes
  /-- 1 while the I3C controller enables in-band interrupts (18 R561) -/
  | ibiOn
  /-- stamp of the last heartbeat that the standby received (16 R483) -/
  | hbLast
  /-- 1 while the active hub has stopped its heartbeat for a SWITCH (16 R488) -/
  | hbStop
  /-- PRIMARY since power-on: 0 no image accepted, 2 a SWITCH is due, 1 acted on or nothing due (16 R479) -/
  | priDone
  /-- cause of the standby's present request for takeover: 0 none, 1 heartbeat, 2 ALIVE, 3 SWITCH (16 R483) -/
  | mirMiss
  /-- 1 while the active hub's HUB_OK has lapsed for tOKTO (16 R485) -/
  | okLapse
  /-- 1 once no hub is in charge (16 R476) -/
  | mirNoHub
  /-- stamp of the last complete lazy copy (16 R481) -/
  | lazyAt
  /-- fused SVN after a COMMIT_SVN, -1 for the manufactured one (02 R70) -/
  | fuseSvn
  /-- number of the last LEVEL window closed (06 R201) -/
  | levAt
  /-- 1 while image fields are due to domain i and not yet sent (02 R77) -/
  | keyUp
  /-- SITE of leaf i's last TEMP report at the hub (11 R341) -/
  | repSite
  /-- body of the FAIL_NOTICE of the present FAIL (12 R380) -/
  | failBody
  /-- wear ceiling of core port j of leaf i, in the always-on island (06 R194) -/
  | wear
  /-- 1 while a test mode holds the hub's functional logic in reset (13 R406) -/
  | testOn
  /-- 1 from clock unit i's failure until its root is the PLL again (13 R402, R403) -/
  | clkFailed
  /-- 1 once channel end i has sent a TIME since its entry to UP (13 R393) -/
  | timeSent
  /-- 1 once the identity key pair of this power-on has been derived (18 R562) -/
  | keyDue
  /-- 1 while the hub is in sensor loss (11 R346) -/
  | hubLoss
  /-- 1 while a delta's items are due to domain i and not yet sent (02 R76, 03 R103) -/
  | dltSend
  /-- 1 while the fence of child end i serves the loader (03 R103) -/
  | ldrFence
  /-- 1 while parameter section 0x100 + i of the active bank holds an uncorrectable error (02 R79) -/
  | eccSec
  /-- stamp of the FENCE pending at parent end i (03 R95) -/
  | chFenceAt
  /-- remainder below one cycle of WAIT_CYC of sub-gate j of leaf i, in 1/64 cycle (17 R495) -/
  | wcCyc
  /-- remainder below one cycle of selector k of leaf i at a sub-gate, j = 8 × sub-gate + k, in 1/64 cycle (17 R502) -/
  | cfgCyc
  /-- latch command that leaf i holds for number n of context slot c, j = c + 16n: 1 + 2 × the stamp at which it splits, and 1 more where it came late; 0 for none (17 R507) -/
  | latPend
  /-- ctxNj of slot i when its bank was last cleared (17 R504) -/
  | ctxNj0
  /-- number of the last 1 µs interval that the hub has closed (17 R509) -/
  | hubIv
  /-- slot number plus 1 of the last slot of number j mod 16 that domain i has summed (01 R30) -/
  | estSlotAt
  /-- LEVEL of leaf i's last TEMP report at the hub (11 R341) -/
  | repLevel
  /-- number of the last complete counter window (17 R500) -/
  | smpDone
  /-- number of the last telemetry window closed (17 R513) -/
  | telAt
  /-- key updates of SPDM session i (18 R556) -/
  | spdmUpd
  /-- REASON of the exchange that end i is in, or was in last (03 R87) -/
  | chReason
  /-- messages of classes 0 to 2 that end i has sent since the oldest bulk message began to wait (03 R92) -/
  | laneBulk
  /-- stamp plus 1 of the last stopping trip, counted or not (06 R197; 12 R368) -/
  | tripLast
  /-- scheduled start of the next pass of background activity i (01 R48) -/
  | bgNext
  /-- scheduled start of the pass of activity i that has not finished (01 R50) -/
  | bgAt
  /-- 1 once the unfinished pass of activity i has been reported late (01 R50) -/
  | bgLate
  /-- ISL_RST of domain i: 1 while queued writes drain, 2 while its channel is fenced (03 R103; 18 R541) -/
  | islPlan
  /-- word A of band j of gain table i % 128 in node engine i / 128's copy, plus 1, where it differs from the hub's copy (05 R168) -/
  | gtNodeA
  /-- word B of band j of gain table i % 128 in node engine i / 128's copy, plus 1, where it differs from the hub's copy (05 R168) -/
  | gtNodeB
  /-- the hub's copy of word j of node-hosted loop i's window, plus 1, where it differs from the node's (05 R168) -/
  | lpHub
  /-- number of the next slot that leaf i closes (04 R113) -/
  | slotNext
  /-- number of the next 1 µs interval that leaf i closes (04 R129) -/
  | ivNext
  /-- number of the counter window from which leaf i counts by the present word of LEAF_CNT_SEL_k (j) (17 R502) -/
  | cntFrom
  /-- estimate of child domain i for rail r in the slot of number mod 16 m, j = r + 32m, mW (01 R30) -/
  | estVal
  /-- fusion state of rail i before its last change (04 R134) -/
  | fuseWas
  /-- stamp of rail i's last fall of power good (04 R126) -/
  | pgFell
  /-- stamp of rail i's last rise of power good (04 R126) -/
  | pgRose
  /-- 1 until phase channel i, newly enabled, has ended its first cycle (04 R124) -/
  | phNew
  /-- number of the last KNEAD window that the hub has closed (04 R138) -/
  | kwDone
  /-- number of the KNEAD window whose update of rail i a RESET discards, -1 for none (04 R141) -/
  | kwDrop
  /-- stamp plus 1 of the last report of gate j of leaf i with a row or with BUSY high, 0 for none (09 R269) -/
  | gateActAt
  /-- tick at which phase channel i started its present cycle, -1 for none (10 R305) -/
  | phStart
  /-- current command of phase channel i's present cycle, mA (10 R311) -/
  | phU
  /-- on-time of phase channel i's last cycle, ns (10 R309) -/
  | phTon
  /-- stamp at which PEN of phase channel i rose (10 R324) -/
  | phPenAt
  /-- 1 while phase channel i stops at its next cycle start (10 R322) -/
  | phStop
  /-- 1 once phase channel i has started on the grid since the hub returned to REFCLK (10 R308) -/
  | phOnGrid
  /-- offset of phase channel i on fallback, oscillator cycles (10 R307) -/
  | phOfsFb
  /-- 1 from the hub's return to REFCLK until PHASE_LOST of rail i clears (10 R308) -/
  | railRegrid
  /-- tick of rail i's last loop sample, -1 for none (10 R305) -/
  | rlTick
  /-- current command of rail i before its last loop sample, mA (10 R311) -/
  | rlUPrev
  /-- number of rail i's present or last shed (10 R325) -/
  | shedNum
  /-- stamp at which rail i's shed disable waits for the loop sample of that stamp, -1 for none (10 R332) -/
  | shedPendAt
  /-- credits granted to sub-gate q of leaf i in LEVEL window n, j = q + 64n (06 R201) -/
  | levCred
  /-- cycles of 16 that leaf i's engine branch kept at the end of the last interval (06 R186) -/
  | engKept
  /-- its divide there (06 R186) -/
  | engDiv
  /-- GP_ISSUE_EN of sub-gate j of leaf i, as last driven (09 R259, R264) -/
  | gpEn
  /-- load of R263 without PROOF of sub-gate j of leaf i at the present window (09 R288) -/
  | wvLoad
  /-- SCORE_RAMP that the clamp of gate j of leaf i began with (09 R292) -/
  | scStep
  /-- SCORE_HOLD that it began with (09 R292) -/
  | scFor
  /-- RISE_SLEW that the last request of rail i opened with (09 R292) -/
  | riseSlew
  /-- enabled sub-gates of slot j in the footprint at leaf i (07 R210; 09 R276) -/
  | fpN
  /-- stamp plus 1 of the last invalidation or seed of entry j of slot i, j = 256 for the whole slot (07 R224) -/
  | strWipe
  /-- number of the next sample of slot i to be taken (07 R211) -/
  | smpNext
  /-- stamp at which the delta's items were sent to island i (02 R76) -/
  | dltAt
  /-- activation stamp that island i has received for the delta (02 R76) -/
  | dltTa
  /-- conversion period plus 1 of site i's last conversion (11 R338) -/
  | tsDone
  /-- conversion period plus 1 of leaf i's last leaf temperature (11 R340) -/
  | ltPer
  /-- stamp at which a site of domain i last completed a valid conversion (11 R346) -/
  | thGood
  /-- correction of site i before its change in period calOld (11 R360) -/
  | calPrev
  /-- the time base of domain i at its last TIME less the hub time then, in ns (13 R394) -/
  | tbOff
  /-- the correction of domain i that its last TIME set, in ns, made at 1 ns per 16 ns (13 R394) -/
  | tbErr
  /-- hub time of the last TIME of domain i (13 R394) -/
  | tbAt
deriving DecidableEq, Repr

/-- What a variable reads as until it is written. -/
def Var.dflt : Var → Int
  | .islHeld => 1
  | .kTheta => 713623846352979940529142984724747568191373312
  | .shDen => 1
  | .winLevel => 512
  | .winSafe => 512
  | .rstHold => 1
  | .scoreCode => 256
  | .coreSlot => 256
  | .fixKeep => 16
  | .lpCommit => -1
  | .lpNom => -1
  | .thrSent => 256
  | .needSent => -1
  | .wtSent => -1
  | .wLast => -1
  | .pgFrom => -1
  | .dwellFrom => -1
  | .spAt => -1
  | .obThat => -1
  | .swTime => -1
  | .tsFirst => 1
  | .islRel => -1
  | .rampNow => -1
  | .rampOn => -1
  | .downNow => -1
  | .uvEnd => -1
  | .slowSlot => -1
  | .tsGoodAt => -1
  | .tsPer => -1
  | .stkAt => -1
  | .calCandPer => -1
  | .calOld => -1
  | .tpPer => -1
  | .repAt => -1
  | .repBand => 5
  | .repLapsed => 1
  | .cwNum => -1
  | .facPage => 255
  | .fuseSvn => -1
  | .hubIv => -1
  | .smpDone => -1
  | .bgAt => -1
  | .fuseWas => 2
  | .kwDone => -1
  | .kwDrop => -1
  | .phStart => -1
  | .rlTick => -1
  | .shedPendAt => -1
  | .engKept => 16
  | .scStep => 8
  | .riseSlew => 10
  | .thGood => -1
  | _ => 0

end Sys2Proof.Machine
end

