-- ==== Sys2Proof/Machine/State.lean ====
section
/-!
DEFINITION. The state of the block: plain data. The register file holds every register field of the spec, the variable file
holds every per-instance quantity that no register shows, and the lists hold the stores, queues and tables.
-/
namespace Sys2Proof.Machine

/-- A key of the register file. -/
abbrev RegKey := Key Reg
/-- A key of the variable file. -/
abbrev VarKey := Key Var
/-- The register file. -/
abbrev RegFile := KMap Reg Word
/-- The variable file. -/
abbrev VarFile := KMap Var Int

/-- A frame of the trace buffer (17 R521); its DATA as two little-endian words. -/
structure TFrame where
  cls : Nat
  kind : Nat
  src : Nat
  seq : Nat
  time : Nat
  d0 : Nat
  d1 : Nat
  sent : Bool
deriving DecidableEq, Repr

/-- The trace unit's store (17 R521 to R528): the main region oldest first with the slot of its oldest frame, the trip region,
the slot of the first MARK TRIGGER, and the events the unit has yet to raise. -/
structure Trc where
  main : List TFrame
  base : Nat
  trip : List TFrame
  postEv : List (Nat × Nat)
deriving DecidableEq, Repr

/-- A record (17 R511, R512): type, context slot, phase, stamp, body, and the rings it is still to be written to. -/
structure Rec where
  typ : Nat
  ctx : Nat
  phase : Nat
  time : Nat
  body : List Byte
  rings : List Nat
deriving DecidableEq, Repr

/-- The record write at the record port (18 R549): the record, its ring, and whether the header is outstanding (else the
body). -/
structure RecFly where
  rcd : Rec
  ring : Nat
  hdr : Bool
deriving DecidableEq, Repr

/-- The losses of a ring since its last LOSS record (17 R516, R517). -/
structure RingLoss where
  ring : Nat
  count : Nat
  first : Nat
  last : Nat
  types : Nat
deriving DecidableEq, Repr

/-- The event controller's state beside its registers: the four stacks, bottom first, with the group priority recorded at
each push (14 R427, R428), and the flag-kind levels that are 1 by (code, instance) (14 R422, R423). -/
structure Evt where
  evStk : List (List (Nat × Nat))
  levels : List (Nat × Nat)
deriving DecidableEq, Repr

/-- A delta that the loader is applying (02 R75, R76): its image, the present islands that are still to confirm their shadow,
those that have, the activation stamp, and the loops that the loader holds. -/
structure DeltaRun where
  img : Image
  wait : List Nat
  conf : List Nat
  tA : Option Nat
  loops : List Nat
deriving DecidableEq, Repr

/-- The image store and the loader beside their registers (02): the banks, the owner of the staging bank, the image that runs,
its effective items, the delta chain, a delta being applied, and the (rail, KEY)s of RAIL_PARAMS whose new values wait for a loop
sample, with the items that hold until then (10 R332). -/
structure ImgSt where
  bank0 : Bank
  bank1 : Bank
  owner : Option Port
  active : Option Image
  items : List Item
  chain : BitVec 384
  delta : Option DeltaRun
  railOld : List Item
  railPend : List (Nat × Nat)
deriving DecidableEq, Repr

/-- The image store after a power-on reset (02 R52). -/
def ImgSt.empty : ImgSt :=
  { bank0 := Bank.empty, bank1 := Bank.empty, owner := none, active := none, items := [], chain := 0, delta := none,
    railOld := [], railPend := [] }

/-- Whom the hub's command to an island answers (03 R100): a request forwarded by a node engine, a request of a port, a
LEAF_SHED of a rail's shed handshake, by the number of the shed (10 R325), a READ_REG of the facility port with its TAG (18 R554), or the hub's own
write. -/
inductive CmdSrc where
  | relay
  | port (p : Port) (addr : Nat) (wrt : Bool)
  | shed (rail num : Nat)
  | fac (tag : Nat)
  /-- a write that changes the copies of node engines, of which rest are still to take it, and then the hub's (05 R168) -/
  | copy (ans : Option Port) (addr : Nat) (data : Word) (wide : Bool) (rest : List Nat)
  | own
deriving DecidableEq, Repr

/-- An entry of a parent end's pending table (03 R100). -/
structure CmdPend where
  chEnd : ChEnd
  req : CmdReq
  time : Nat
  src : CmdSrc
deriving DecidableEq, Repr

/-- A request that waits for room in a pending table, with the data of a write (03 R100). -/
structure CmdWait where
  pend : CmdPend
  data : Nat
deriving DecidableEq, Repr

/-- The channels beside their registers (03): pending tables, requests that wait for room in one, quarantined REQIDs, writes that await their CMD_DATA at an end,
and read responses (SRC, REQID) that await theirs. -/
structure ChanSt where
  pend : List CmdPend
  wait : List CmdWait
  quar : List (ChEnd × Nat)
  await : List (ChEnd × CmdReq)
  rspWait : List (ChEnd × Nat × Nat)
deriving DecidableEq, Repr

/-- A registered waiter (08 R239): its index, object, waiter, and what it waits for; wid is 2 × GATE + SUB, or the core port. -/
structure Watch where
  idx : Nat
  obj : Nat
  core : Bool
  one : Bool
  ctx : Nat
  gen : Nat
  leaf : Nat
  wid : Nat
  time : Nat
deriving DecidableEq, Repr

/-- What an operation of the sync unit sends (08 R244, R246): a RELEASE, a DIRECT, its status at a port, the mark that a
generation's messages have left (09 R280), and a link frame (15). -/
inductive SyncOut where
  | rel (ctx lobj gen st shape : Nat)
  | dir (ctx lobj gen st leaf : Nat) (core : Bool) (wid : Nat) (wake : Bool)
  | ans (p : Port) (addr : Nat) (st : Status)
  | fin (obj : Nat)
  | frm (port typ payload : Nat)
deriving DecidableEq, Repr

/-- A RISE request (09 R279, R280): post holds, once its generation has completed, what is added to the RELEASE's stamp. -/
structure RiseReq where
  obj : Nat
  gen : Nat
  rail : Nat
  opened : Nat
  live : Bool
  post : Option Nat
  stop : Option Nat
  amp : Nat
  life : Nat
  after : Nat
deriving DecidableEq, Repr

/-- The sync unit beside its registers (08): watches in registration order, wake-one claims in flight with their GEN, the
batches that wait for the mirror's confirmation with their stamps, what the present operation sends, RISE requests. -/
structure SyncSt where
  watches : List Watch
  claims : List (Watch × Nat)
  held : List (Nat × List SyncOut)
  cur : List SyncOut
  rise : List RiseReq
deriving DecidableEq, Repr

/-- A queued posted write (18 R539, R540); busy once its command to an island has left. -/
structure PostedWr where
  init : Nat
  priv : Bool
  addr : Nat
  data : Word
  wide : Bool
  busy : Bool
deriving DecidableEq, Repr

/-- A latch point (17 R507, R508): its serial number, context, latch number and tL, the children of the hub that have sent
END, whether an END was LATE, the point PARTIAL, or complete, the sums of its latch reports by CIDX, the context's cumulative
energy up to tL in nJ, and the slot's phase at tL (0xFF for none). -/
structure LatchPt where
  ser : Nat
  ctx : Nat
  num : Nat
  tL : Nat
  ends : List Nat
  late : Bool
  part : Bool
  done : Bool
  rep : List Nat
  nj : Nat
  phase : Nat
deriving DecidableEq, Repr

/-- A latch slot (17 R506): its command address, the serial numbers of its start point and of the point that closes it,
whether a mark of the slot fell in the command, and whether CTX_SWITCH closed it. -/
structure LatchSlot where
  ctx : Nat
  slot : Nat
  addr : Nat
  start : Nat
  stop : Option Nat
  marks : Bool
  aborted : Bool
deriving DecidableEq, Repr

/-- The latches beside their registers (17 R506 to R510): the serial number of the next point, the points, the slots. -/
structure LatchSt where
  next : Nat
  pts : List LatchPt
  slots : List LatchSlot
deriving DecidableEq, Repr

/-- The facility port and the identity beside their registers (18): the certificate store, the latest TRIP record. -/
structure FacSt where
  cert : List Host.Cell
  trip : List Byte
deriving DecidableEq, Repr

/-- An upward SYNC message of a gate at the hub (08 R243). -/
structure GateOp where
  e : ChEnd
  sop : Nat
  ctx : Nat
  epoch : Nat
  leaf : Nat
  q : Nat
  lobj : Nat
  arg : Nat
  mode : Bool
deriving DecidableEq, Repr

/-- What the hub that is not active holds for itself: the per-tick and lazy classes at their last copies (16 R481), the upward
SYNC messages captured since the active hub stopped, oldest first (16 R477, R486), and its own certificate store and ID_STATUS
(18 R562). -/
structure MirSt where
  tickRegs : RegFile
  lazyRegs : RegFile
  lazyVars : VarFile
  captured : List GateOp
  cert : List Host.Cell
  idStatus : Word
deriving DecidableEq, Repr

/-- A mark held while its slot is being invalidated (07 R222): ENTER of a phase, or EXIT. -/
structure HeldMark where
  ctx : Nat
  enter : Bool
  phase : Nat
  time : Nat
  port : Option Port
deriving DecidableEq, Repr

/-- A budget that stands at a domain in a class (and rail; 0x1F for AVG and FAST): the parent's grant (loop none) or a loop's
last commit; none where it imposes no limit (05 R161, 06 R177). As an entry of the sent list: the last grant sent to a child. -/
structure Grant where
  dom : Nat
  cls : Nat
  rail : Nat
  loop : Option Nat
  amt : Option Nat
deriving DecidableEq, Repr

/-- What the block sends or shows in the course of a command; messages and frames reach their receiver as commands of
their own (log entry 8). -/
inductive Out where
  | rsp (p : Port) (st : Status) (data : Word)
  | trc (f : TFrame)
  /-- a channel message that an end queues on its lane: type, TAG[3:0], payload (03 R85, R92) -/
  | msg (e : ChEnd) (typ tag payload : Nat)
  /-- a channel message that leaves on an end's lane (03 R92) -/
  | wire (e : ChEnd) (typ tag payload : Nat)
  /-- the status an island's operation gives, which its CMD_RSP carries (03 R90) -/
  | status (dom : Nat) (st : Status)
  | ibi (pend : Nat)
  /-- a leaf answers a sub-gate's sync operation or ends its wait, with a status code (20 R581) -/
  | srsp (leaf q st : Nat)
  /-- a leaf takes a sub-gate's sync operation (20 R581) -/
  | sack (leaf q : Nat)
  /-- a leaf pulses WAKE at a core clock port (08 R245) -/
  | wake (leaf port : Nat)
  /-- a Dandoxa frame is queued on a link port: type, payload (15) -/
  | frame (port typ payload : Nat)
  /-- a write of the record port (18 R547, R549) -/
  | recWrite (addr : Nat) (bytes : List Byte)
  /-- a response, or the data of a read, on the facility port (18 R554, R556, R558) -/
  | fac (bytes : List Byte)
  /-- the facility port does not acknowledge (18 R558, R559) -/
  | nack
  /-- a heartbeat, or a request for takeover, on the mirror port (16 R483) -/
  | mirror (takeover : Bool)
deriving DecidableEq, Repr

/-- A message that a channel end has yet to send (03 R92): its end, type, TAG[3:0] and payload, and whether it may not pass an earlier
CMD_RSP of its lane (03 R98). -/
structure LaneMsg where
  chEnd : ChEnd
  typ : Nat
  tag : Nat
  payload : Nat
  follows : Bool
deriving DecidableEq, Repr

/-- A response of the register port that waits for the mirror's confirmation (16 R481). -/
structure AnsHeld where
  time : Nat
  port : Port
  addr : Nat
  wrt : Bool
  st : Status
  data : Word
deriving DecidableEq, Repr

/-- A write that the register port has accepted and the hub has not begun (18 R536): the status that the checks of its acceptance gave
(R538), and what it presents. -/
structure RegReq where
  time : Nat
  init : Nat
  priv : Bool
  addr : Nat
  size : Nat
  post : Bool
  data : Word
  pins : Pins
  st : Status
deriving DecidableEq, Repr

/-- The state of the block. -/
structure State where
  regs : RegFile
  vars : VarFile
  time : Nat
  img : ImgSt
  evt : Evt
  trc : Trc
  chan : ChanSt
  grants : List Grant
  sentGrants : List Grant
  recs : List Rec
  recFly : Option RecFly
  ringLoss : List RingLoss
  marks : List HeldMark
  sync : SyncSt
  posted : List PostedWr
  /-- the accepted writes that wait for an earlier request, in acceptance order (18 R536) -/
  reqWait : List RegReq
  latch : LatchSt
  /-- the counts of the open slot that a leaf took at a boundary within the slot, with the leaf (17 R497, R507) -/
  slotActs : List (Nat × Act)
  fac : FacSt
  mir : MirSt
  free : Nat
  /-- the W1C bits that hardware has set in the present cycle, by register (00 R21) -/
  setNow : List (RegKey × Nat)
  /-- the messages that the channel ends have yet to send, oldest first (03 R92) -/
  lanes : List LaneMsg
  /-- the responses that wait for the mirror, oldest first (16 R481) -/
  ansHeld : List AnsHeld
  pending : List Instr
  out : List Out
deriving DecidableEq, Repr

/-- No command of the block stops it with a fault: every command is answered, rejected with a status, or has no effect, as
the spec says. The type is empty. -/
inductive Fault where
deriving DecidableEq, Repr

/-- Why a command has no meaning. -/
inductive Refusal where
  /-- Raised by exec's arm of a command whose meaning is not written; safe. -/
  | notModelled (mnemonic : String)
deriving DecidableEq, Repr

/-- The block right after the always-on power-on reset: every register at the reset value of its table, every variable at
its reset value, empty stores and queues. -/
def State.reset : State where
  regs := []
  vars := []
  time := 0
  img := ImgSt.empty
  evt := { evStk := [[], [], [], []], levels := [] }
  trc := { main := [], base := 0, trip := [], postEv := [] }
  chan := { pend := [], wait := [], quar := [], await := [], rspWait := [] }
  grants := []
  sentGrants := []
  recs := []
  recFly := none
  ringLoss := []
  marks := []
  sync := { watches := [], claims := [], held := [], cur := [], rise := [] }
  posted := []
  reqWait := []
  latch := { next := 0, pts := [], slots := [] }
  slotActs := []
  fac := { cert := [], trip := [] }
  mir := { tickRegs := [], lazyRegs := [], lazyVars := [], captured := [], cert := [], idStatus := 0 }
  free := 0
  setNow := []
  lanes := []
  ansHeld := []
  pending := []
  out := []

end Sys2Proof.Machine
end

