-- ==== Sys2Proof/Machine/Ops.lean ====
section
/-!
DEFINITION. The named operations over the state that every family uses: registers and variables, image parameters, the domain
tree, answers to the ports.
-/
namespace Sys2Proof

/-- The code of a status (00 R14). -/
def Status.code : Status → Nat
  | .ok => 0
  | .eAbsent => 1
  | .ePriv => 2
  | .eLoopClosed => 3
  | .eAlign => 4
  | .eRange => 5
  | .eImage => 6
  | .eOverrun => 7
  | .eBroken => 8
  | .eNest => 9

/-- Whether a port holds the privileged window (00 R22, 18 R555). -/
def Port.priv : Port → Bool
  | .reg _ p => p
  | .posted _ p => p
  | .fac => true

end Sys2Proof

namespace Sys2Proof.Machine

/-- What a register reads after reset: the Reset column, with netlist, fuse and strap fields from Config (log entries 2, 3). -/
def Reg.resetWord (k : RegKey) : Word :=
  match k.n with
  | .HUB_CAP =>
    BitVec.ofNat 64 (b2n Config.netlist.mirror + 2 * b2n Config.netlist.trace + 4 * b2n Config.netlist.record
      + 2 ^ 8 * (Config.netlist.dxlPorts % 16) + 2 ^ 16 * (Config.netlist.hubSites % 128)
      + 2 ^ 24 * (Config.netlist.hubTcells % 32))
  | .IMG_FUSE => BitVec.ofNat 64 (Config.fuses.svn % 256)
  | .IMG_INV => BitVec.ofNat 64 (Config.netlist.present k.i % 2 ^ 16 + 2 ^ 16 * (Config.fuses.disabledCount k.i % 2 ^ 16))
  | .RST_STATUS => BitVec.ofNat 64 (2 ^ 8 * (Config.straps.bootVsel % 2 ^ 12))
  | .FAC_STATUS => BitVec.ofNat 64 (Config.straps.facMode % 2 + 2 * (Config.straps.facAddr % 128))
  | r => BitVec.ofNat 64 r.resetConst

/-- What a variable reads after reset. -/
def Var.reset (k : VarKey) : Int := k.n.dflt

/-- A register's word. -/
def State.reg (s : State) (r : Reg) (i j : Nat := 0) : Word :=
  KMap.get Reg.resetWord s.regs ⟨r, i, j⟩

/-- Set a register's word. -/
def State.setReg (s : State) (r : Reg) (w : Word) (i j : Nat := 0) : State :=
  { s with regs := KMap.set Reg.ctorIdx Reg.resetWord s.regs ⟨r, i, j⟩ w }

/-- A field's value. -/
def State.rd (s : State) (f : Fld) (i j : Nat := 0) : Nat :=
  getBits (s.reg f.r i j) f.lsb f.w

/-- A one-bit field. -/
def State.is (s : State) (f : Fld) (i j : Nat := 0) : Bool :=
  Nat.beq (s.rd f i j) 1

/-- A field's value as a two's complement number. -/
def State.rdI (s : State) (f : Fld) (i j : Nat := 0) : Int :=
  toSigned f.w (s.rd f i j)

/-- Set a field, modulo its width. -/
def State.wr (s : State) (f : Fld) (v : Nat) (i j : Nat := 0) : State :=
  s.setReg f.r (setBits (s.reg f.r i j) f.lsb f.w v) i j

/-- Set a field to a two's complement number. -/
def State.wrI (s : State) (f : Fld) (v : Int) (i j : Nat := 0) : State :=
  s.wr f (ofSigned f.w v) i j

/-- Set a field to a number saturated to its unsigned width (00 R6). -/
def State.wrSat (s : State) (f : Fld) (v : Int) (i j : Nat := 0) : State :=
  s.wr f (satU f.w v) i j

/-- Add to a saturating counter field. -/
def State.incSat (s : State) (f : Fld) (d : Nat := 1) (i j : Nat := 0) : State :=
  s.wr f (satAddN f.w (s.rd f i j) d) i j

/-- Add to a wrapping counter field. -/
def State.incWrap (s : State) (f : Fld) (d : Nat := 1) (i j : Nat := 0) : State :=
  s.wr f (s.rd f i j + d) i j

/-- A variable's value. -/
def State.v (s : State) (x : Var) (i j : Nat := 0) : Int :=
  KMap.get Var.reset s.vars ⟨x, i, j⟩

/-- A variable's value as a natural number. -/
def State.vn (s : State) (x : Var) (i j : Nat := 0) : Nat :=
  (s.v x i j).toNat

/-- Set a variable. -/
def State.setV (s : State) (x : Var) (y : Int) (i j : Nat := 0) : State :=
  { s with vars := KMap.set Var.ctorIdx Var.reset s.vars ⟨x, i, j⟩ y }

/-- Add to a variable. -/
def State.addV (s : State) (x : Var) (d : Int) (i j : Nat := 0) : State :=
  s.setV x (s.v x i j + d) i j

/-- Return a variable of instance i to its reset value at every index j that a test selects. -/
def State.dropV (s : State) (x : Var) (i : Nat) (sel : Nat → Bool) : State :=
  { s with vars := s.vars.filter fun p => !(decide (p.1.n = x) && Nat.beq p.1.i i && sel p.1.j) }

/-- Apply an operation for each member of a list, in order. -/
def State.each {α : Type} (s : State) (l : List α) (f : State → α → State) : State :=
  l.foldl f s

/-- Apply an operation where a condition holds. -/
def State.when (s : State) (c : Bool) (f : State → State) : State :=
  if c then f s else s

/-- Append to what the command sends. -/
def State.emit (s : State) (o : Out) : State :=
  { s with out := s.out ++ [o] }

/-- Hardware sets bits of a W1C field; in the cycle of the present stamp software cannot clear them (00 R21). -/
def State.flag (s : State) (f : Fld) (i j : Nat := 0) (m : Nat := 1) : State :=
  { s.wr f (Nat.lor (s.rd f i j) m) i j with setNow := (⟨f.r, i, j⟩, 2 ^ f.lsb * (m % 2 ^ f.w)) :: s.setNow }

/-- The bits of a register that hardware has set in the present cycle (00 R21). -/
def State.justSet (s : State) (r : Reg) (i j : Nat := 0) : Word :=
  s.setNow.foldl (fun m x => if x.1 = ⟨r, i, j⟩ then m ||| BitVec.ofNat 64 x.2 else m) 0

/-- The 1 bits of a W1C write that can clear: those that hardware does not set in the same cycle (00 R21). -/
def clearBits (w : Nat) (set : Word) : Nat := (BitVec.ofNat 64 w &&& ~~~set).toNat

/-- Start of a command at stamp t: nothing sent yet, and hub time not before t (00 R9, R13; log entry 7); a later stamp is a later
cycle (00 R21). -/
def State.start (s : State) (t : Nat) : State :=
  { s with time := max s.time t, out := [], setNow := if s.time < t then [] else s.setNow }

/-- Take the next free value (log entry 5). -/
def State.freshFree (s : State) : Nat × State :=
  (Config.freeValue s.free, { s with free := s.free + 1 })

/-- Section types of 02 R59. -/
abbrev Sec.loopParams : Nat := 0x0100
abbrev Sec.gainTables : Nat := 0x0101
abbrev Sec.railParams : Nat := 0x0102
abbrev Sec.estCoeff : Nat := 0x0103
abbrev Sec.leakage : Nat := 0x0104
abbrev Sec.limits : Nat := 0x0105
abbrev Sec.thermal : Nat := 0x0106
abbrev Sec.droop : Nat := 0x0107
abbrev Sec.shaping : Nat := 0x0108
abbrev Sec.starterSeed : Nat := 0x0109
abbrev Sec.eventRouting : Nat := 0x010A
abbrev Sec.timing : Nat := 0x010B
abbrev Sec.mode : Nat := 0x010C
abbrev Sec.trace : Nat := 0x010D

/-- The INDEX that names every instance (02 R61). -/
abbrev idxAll : Nat := 0xFFFF_FFFF

/-- The value of a parameter item: the particular item where one stands, else the item of every instance (02 R61). -/
def findItem (items : List Item) (sec key idx : Nat) : Option (List Byte) :=
  match items.find? (fun x => Nat.beq x.sec sec && Nat.beq x.key key && Nat.beq x.idx idx) with
  | some x => some x.val
  | none => (items.find? fun x => Nat.beq x.sec sec && Nat.beq x.key key && Nat.beq x.idx idxAll).map (·.val)

/-- The bytes of an effective parameter item. -/
def State.item? (s : State) (sec key idx : Nat) : Option (List Byte) :=
  findItem s.img.items sec key idx

/-- An unsigned field of an effective parameter item, or its default where no item stands. -/
def State.par (s : State) (sec key idx off len dflt : Nat) : Nat :=
  match s.item? sec key idx with
  | some l => fieldAt l off len
  | none => dflt

/-- A signed field of an effective parameter item, or its default. -/
def State.parI (s : State) (sec key idx off len : Nat) (dflt : Int) : Int :=
  match s.item? sec key idx with
  | some l => toSigned (8 * len) (fieldAt l off len)
  | none => dflt

/-- Domain IDs (02 R62). -/
abbrev hubDom : Nat := 0x0000
/-- The domain ID of node engine n. -/
def nodeDom (n : Nat) : Nat := 0x1000 + n
/-- The domain ID of leaf agent n. -/
def leafDom (n : Nat) : Nat := 0x2000 + n
/-- Whether a domain is a leaf agent. -/
def isLeaf (d : Nat) : Bool := Nat.ble 0x2000 d
/-- Whether a domain is a node engine. -/
def isNode (d : Nat) : Bool := Nat.ble 0x1000 d && Nat.blt d 0x2000
/-- The logical number of a domain within its kind. -/
def domNum (d : Nat) : Nat := d % 0x1000

/-- The clock unit of a domain (13 R419): 0 hub, 1 the mirror hub, 2 + n node engine n, 66 + n leaf agent n. -/
def unitOf (d : Nat) : Nat := if isLeaf d then 66 + domNum d else if isNode d then 2 + domNum d else 0

/-- The TREE of the active image (02 R62, R68). -/
def State.tree (s : State) : List DomRec :=
  match s.img.active with
  | some g => g.tree
  | none => []

/-- The INSTANCE_MAP of the active image. -/
def State.insts (s : State) : List InstRec :=
  match s.img.active with
  | some g => g.insts
  | none => []

/-- The RAIL_MAP of the active image. -/
def State.rails (s : State) : List RailRec :=
  match s.img.active with
  | some g => g.rails
  | none => []

/-- The LOOP_ALLOC of the active image. -/
def State.loops (s : State) : List LoopRec :=
  match s.img.active with
  | some g => g.loops
  | none => []

/-- The domain record of a domain ID. -/
def State.dom? (s : State) (d : Nat) : Option DomRec :=
  s.tree.find? fun r => Nat.beq r.dom d

/-- Whether the image defines a domain. -/
def State.hasDom (s : State) (d : Nat) : Bool :=
  (s.dom? d).isSome

/-- The parent of a domain; 0xFFFF for the hub or an undefined domain. -/
def State.parent (s : State) (d : Nat) : Nat :=
  match s.dom? d with
  | some r => r.parent
  | none => 0xFFFF

/-- The children of a domain in TREE order (02 R63). -/
def State.children (s : State) (d : Nat) : List Nat :=
  (s.tree.filter fun r => Nat.beq r.parent d && !Nat.beq r.dom d).map (·.dom)

/-- The position, from 1, of a child among its parent's children. -/
def State.childPos (s : State) (d : Nat) : Nat :=
  (s.children (s.parent d)).findIdx (fun c => Nat.beq c d) + 1

/-- RAILMASK of a domain (02 R62). -/
def State.railmask (s : State) (d : Nat) : Nat :=
  match s.dom? d with
  | some r => r.railmask
  | none => 0

/-- The leaves of the image, by logical number, in TREE order. -/
def State.leaves (s : State) : List Nat :=
  (s.tree.filter fun r => Nat.beq r.kind 2).map fun r => domNum r.dom

/-- The node engines of the image, by logical number, in TREE order. -/
def State.nodes (s : State) : List Nat :=
  (s.tree.filter fun r => Nat.beq r.kind 1).map fun r => domNum r.dom

/-- The domains from d up to a child of the hub, d first (at most 8 levels, 01 R28). -/
def State.pathUp (s : State) (d fuel : Nat) : List Nat :=
  match fuel with
  | 0 => []
  | f + 1 => if d = hubDom then [] else if s.hasDom d then d :: s.pathUp (s.parent d) f else [d]

/-- A domain and all its ancestors but the hub. -/
def State.path (s : State) (d : Nat) : List Nat := s.pathUp d 8

/-- Whether a domain lies in the subtree of another, itself included. -/
def State.beneath (s : State) (d top : Nat) : Bool :=
  top = hubDom || (s.path d).any fun x => Nat.beq x top

/-- The subtree of a domain, itself included, in TREE order. -/
def State.subtree (s : State) (top : Nat) : List Nat :=
  (s.tree.map (·.dom)).filter fun d => s.beneath d top

/-- The rail record of a logical rail. -/
def State.rail? (s : State) (r : Nat) : Option RailRec :=
  s.rails.find? fun x => Nat.beq x.rail r

/-- Whether a rail is MONITORED (10 R300). -/
def State.monitored (s : State) (r : Nat) : Bool :=
  match s.rail? r with
  | some x => x.monitored
  | none => false

/-- The loop record of a loop. -/
def State.loop? (s : State) (l : Nat) : Option LoopRec :=
  s.loops.find? fun x => Nat.beq x.loop l

/-- The instance record of a TYPE and logical number (02 R64). -/
def State.inst? (s : State) (typ logical : Nat) : Option InstRec :=
  s.insts.find? fun x => Nat.beq x.typ typ && Nat.beq x.logical logical

/-- The instances of a type that a domain owns, by logical number. -/
def State.instsOf (s : State) (typ owner : Nat) : List InstRec :=
  s.insts.filter fun x => Nat.beq x.typ typ && Nat.beq x.owner owner

/-- The logical number of a leaf's port of a type (02 R65: PHYSICAL[4:0] is the port number); 0xFFFF where none is mapped. -/
def State.logicalOf (s : State) (typ leaf port : Nat) : Nat :=
  match (s.instsOf typ (leafDom leaf)).find? (fun x => Nat.beq (x.physical % 32) port) with
  | some x => x.logical
  | none => 0xFFFF

/-- The ports of a type that a leaf has mapped, in ascending order of record. -/
def State.portsOf (s : State) (typ leaf : Nat) : List Nat :=
  (s.instsOf typ (leafDom leaf)).map fun x => x.physical % 32

/-- The package states of 01 R39. -/
abbrev Pkg.off : Nat := 0
abbrev Pkg.aon : Nat := 1
abbrev Pkg.verify : Nat := 2
abbrev Pkg.ramp : Nat := 3
abbrev Pkg.run : Nat := 4
abbrev Pkg.hold : Nat := 5
abbrev Pkg.sleep : Nat := 6
abbrev Pkg.deepSleep : Nat := 7
abbrev Pkg.tripped : Nat := 8
abbrev Pkg.fail : Nat := 9

/-- The present package state (01 R39). -/
def State.pkg (s : State) : Nat := s.rd F.HUB_PKG_STATE_STATE

/-- Record an answered error in HOST_ERR (18 R545, R567; POSTED under R540). -/
def State.hostErr (s : State) (addr init : Nat) (wrt posted : Bool) (st : Status) : State :=
  let s := s.wr F.HOST_ERR_A_ADDR addr
  let s := s.wr F.HOST_ERR_A_STATUS st.code
  let s := s.wr F.HOST_ERR_A_WRITE (b2n wrt)
  let s := s.wr F.HOST_ERR_A_POSTED (b2n posted)
  let s := s.wr F.HOST_ERR_A_VALID 1
  let s := s.wr F.HOST_ERR_B_INIT init
  s.wr F.HOST_ERR_B_TIME s.time

/-- The address of a register in the window (19 R568). -/
def regAddr (r : Reg) (i j : Nat := 0) : Nat :=
  r.place.base + i * r.place.s1 + j * r.place.s2

/-- Answer a request on its port, with read data (0 on an error, 18 R534); an error on the register port is recorded
(18 R567). A posted write has been answered when it entered its queue (18 R539, R540). The facility port's answer goes back on
that port (18 R554). -/
def State.answerD (s : State) (p : Port) (addr : Nat) (wrt : Bool) (st : Status) (data : Word) : State :=
  let d : Word := if st = .ok then data else 0
  match p with
  | .reg init _ =>
    let s := s.emit (.rsp p st d)
    if st = .ok then s else s.hostErr addr init wrt false st
  | .posted init _ => if st = .ok then s else s.hostErr addr init wrt true st
  | .fac => s.emit (.rsp p st d)

/-- Whether synchronous changes wait for a mirror (08 R246, 16 R480): the other hub is STANDBY or SYNCING. -/
def State.mirrorOn (s : State) : Bool :=
  let role := if s.is F.MIR_STATUS_SELF then s.rd F.MIR_STATUS_ROLE_0 else s.rd F.MIR_STATUS_ROLE_1
  role = 2 || role = 3

/-- Whether a register's status waits for the copy of what it changed (16 R481): EVC_ACK, and the registers that carry a command. -/
def Reg.waitsCopy (r : Reg) : Bool := r = .EVC_ACK || r.rows.any fun f => f.acc = .WO

/-- Answer a request that names a register: with a mirror, the status of a change that it must hold first waits for its confirmation
(16 R481). -/
def State.answerReg (s : State) (p : Port) (r : Reg) (addr : Nat) (wrt : Bool) (st : Status) (data : Word) : State :=
  match p with
  | .reg _ _ =>
    if s.mirrorOn && (st = .ok || st = .eNest) && r.waitsCopy then
      { s with ansHeld := s.ansHeld ++ [{ time := s.time, port := p, addr := addr, wrt := wrt, st := st, data := if st = .ok then data else 0 }] }
    else s.answerD p addr wrt st data
  | _ => s.answerD p addr wrt st data

/-- Answer a write or a command. -/
def State.answer (s : State) (p : Port) (r : Reg) (st : Status) (i j : Nat := 0) : State :=
  s.answerReg p r (regAddr r i j) true st 0

/-- A domain's own time base (13 R394): hub time, its offset at the last TIME, and the part made since of the correction that this TIME
set, at 1 ns per 16 ns. -/
def State.islTime (s : State) (d : Nat) : Int :=
  let n : Int := (s.time - s.vn .tbAt d) / 16
  s.time + s.v .tbOff d + clampInt (-n) n (s.v .tbErr d)

/-- The stamp that a domain gives to what happens in it (00 R9). -/
def State.islNow (s : State) (d : Nat) : Nat := (s.islTime d).toNat

/-- Whether a hub runs: not in OFF, nor held in reset by a test mode (13 R406, R410), nor stopped while no other has taken over
(16 R476, R487). -/
def State.hubUp (s : State) : Bool := !(s.pkg = Pkg.off) && s.v .testOn = 0 && s.v .okLapse = 0 && s.v .mirNoHub = 0

/-- The always-on responder's answer while the hub does not run; the facility port does not respond (13 R410; 18 R542). -/
def State.deadAnswer (s : State) (p : Port) : State :=
  match p with
  | .fac => s.emit .nack
  | .reg _ _ => s.emit (.rsp p .eAbsent 0)
  | .posted _ _ => s

/-- The oldest response that waits for the mirror is given (16 R481). -/
def State.ansGive (s : State) : State :=
  match s.ansHeld with
  | [] => s
  | x :: r => State.answerD { s with ansHeld := r } x.port x.addr x.wrt x.st x.data

/-- The port on which a command's answer is owed, with the address, and whether it is a write. -/
def CmdSrc.owes : CmdSrc → Option (Port × Nat × Bool)
  | .port p a w => some (p, a, w)
  | .copy (some p) a _ _ _ => some (p, a, true)
  | _ => none

/-- The port of a status that a batch of the sync unit holds. -/
def SyncOut.owes : SyncOut → Option (Port × Nat × Bool)
  | .ans p a _ => some (p, a, true)
  | _ => none

/-- Whether a port is the register port. -/
def portIsReg : Port → Bool
  | .reg _ _ => true
  | _ => false

/-- The requests of the register port that the hub has begun and not yet answered (18 R536), each with its stamp. -/
def State.begun (s : State) : List (Nat × Port × Nat × Bool) :=
  let l := ((s.chan.pend ++ s.chan.wait.map (·.pend)).filterMap fun p => p.src.owes.map fun x => (p.time, x))
    ++ (s.sync.held.flatMap fun h => h.2.filterMap fun x => x.owes.map fun y => (h.1, y))
    ++ (s.ansHeld.map fun x => (x.time, x.port, x.addr, x.wrt))
    ++ (s.marks.filterMap fun m => m.port.map fun q => (m.time, q, regAddr .STR_MARK, true))
  l.filter fun x => portIsReg x.2.1

/-- The requests of the register port that are accepted and not yet answered (18 R536). -/
def State.accepted (s : State) : List (Nat × Port × Nat × Bool) :=
  s.begun ++ s.reqWait.map fun x => (x.time, Port.reg x.init x.priv, x.addr, true)

/-- What the hub does with a command whose answer has been given already. -/
def CmdSrc.silent (x : CmdSrc) (gone : Port → Bool) : CmdSrc :=
  match x with
  | .port p _ _ => if gone p then .own else x
  | .copy (some p) a w wide rest => if gone p then .copy none a w wide rest else x
  | _ => x

/-- Answer E_ABSENT to the requests of the register port that a test of stamp and port selects; nothing answers them again (18 R537,
R542). -/
def State.answerAbsent (s : State) (sel : Nat → Port → Bool) : State :=
  let late (t : Nat) (p : Port) : Bool := portIsReg p && sel t p
  let l := s.accepted.filter fun x => sel x.1 x.2.1
  let mute (p : CmdPend) : CmdPend := { p with src := p.src.silent (late p.time) }
  let s : State := { s with
    chan := { s.chan with pend := s.chan.pend.map mute, wait := s.chan.wait.map fun w => { w with pend := mute w.pend } }
    sync := { s.sync with held := s.sync.held.map fun h => (h.1, h.2.filter fun x =>
      match x.owes with | some y => !late h.1 y.1 | none => true) }
    ansHeld := s.ansHeld.filter fun x => !late x.time x.port
    marks := s.marks.map fun m => match m.port with | some q => if late m.time q then { m with port := none } else m | none => m
    reqWait := s.reqWait.filter fun x => !late x.time (.reg x.init x.priv) }
  s.each l fun s x => s.answerD x.2.1 x.2.2.1 x.2.2.2 .eAbsent 0

/-- A command register outside the context pages: E_PRIV without the privileged window (00 R22), else the operation, which
gives the status and the state after it. -/
def State.command (s : State) (p : Port) (r : Reg) (op : State → Status × State) (i j : Nat := 0) : State :=
  if !s.hubUp then s.deadAnswer p
  else if p.priv then
    let (st, s') := op s
    s'.answer p r st i j
  else s.answer p r .ePriv i j

end Sys2Proof.Machine
end

