-- ==== Sys2Proof/Machine/ImgItems.lean ====
section
/-!
DEFINITION. The parameter items of an image: keys, lengths and ranges, and the rules across items and structure that check C11
applies (02 R61, R71 and the owning chapters' item tables).
-/
namespace Sys2Proof.Machine

/-- The effective value of an item in an image. -/
def Image.item? (g : Image) (sec key idx : Nat) : Option (List Byte) := findItem g.items sec key idx

/-- An unsigned field of an item, or its default. -/
def Image.par (g : Image) (sec key idx off len dflt : Nat) : Nat :=
  match g.item? sec key idx with
  | some l => fieldAt l off len
  | none => dflt

/-- A signed field of an item, or its default. -/
def Image.parI (g : Image) (sec key idx off len : Nat) (dflt : Int) : Int :=
  match g.item? sec key idx with
  | some l => toSigned (8 * len) (fieldAt l off len)
  | none => dflt

/-- What an item's INDEX names: every instance alone, a number below a bound, a domain ID. -/
inductive IxKind where
  | glob
  | upto (n : Nat)
  | dom
deriving DecidableEq, Repr

/-- Whether an INDEX is of a kind (02 R61). -/
def ixOk (k : IxKind) (idx : Nat) : Bool :=
  idx = idxAll || match k with
    | .glob => false
    | .upto n => Nat.blt idx n
    | .dom => idx = 0 || (Nat.ble 0x1000 idx && Nat.blt idx 0x1040) || (Nat.ble 0x2000 idx && Nat.blt idx 0x2200)

/-- RAIL_PARAMS: value lengths (10 R333). -/
def railForm (key : Nat) : Option (IxKind × Nat) :=
  (match key with
    | 0x0001 => some 16 | 0x0002 => some 1 | 0x0010 => some 4 | 0x0011 => some 4 | 0x0012 => some 4 | 0x0013 => some 2
    | 0x0020 => some 2 | 0x0021 => some 2 | 0x0030 => some 16 | 0x0031 => some 4 | 0x0040 => some 1 | 0x0041 => some 8
    | 0x0042 => some 2 | 0x0050 => some 8 | 0x0051 => some 32 | 0x0060 => some 8
    | _ => none).map fun n => (IxKind.upto 32, n)

/-- EST_COEFF (04 R119, R120). -/
def estForm (key : Nat) : Option (IxKind × Nat) :=
  match key with
  | 0x0001 => some (.glob, 2)
  | 0x0002 | 0x0005 | 0x0008 | 0x0009 => some (.upto 32, 1)
  | 0x0003 | 0x0004 | 0x0007 => some (.upto 32, 4)
  | 0x0006 => some (.upto 32, 2)
  | 0x000A => some (.upto 512, 2)
  | _ => if Nat.ble 0x100 key && Nat.ble key 0x114 then some (.upto 512, 16) else none

/-- LIMITS (06 R202). -/
def limForm (key : Nat) : Option (IxKind × Nat) :=
  match key with
  | 0x0001 | 0x0002 => some (.upto 512, 4)
  | 0x0003 | 0x0004 => some (.upto 512, 2)
  | 0x0010 => some (.dom, 8) | 0x0011 => some (.dom, 2) | 0x0012 => some (.dom, 4)
  | _ => none

/-- THERMAL (11 R361). -/
def thermForm (key : Nat) : Option (IxKind × Nat) :=
  match key with
  | 0x0001 => some (.glob, 10) | 0x0002 => some (.glob, 2) | 0x0010 => some (.upto 1024, 12) | 0x0011 => some (.upto 1024, 8)
  | 0x0012 => some (.glob, 2) | 0x0013 => some (.glob, 1) | 0x0014 => some (.glob, 2) | 0x0020 => some (.glob, 8)
  | 0x0030 => some (.upto 8208, 4) | 0x0040 => some (.upto 32, 12) | 0x0041 => some (.glob, 2) | 0x0050 => some (.upto 32, 6)
  | 0x0051 => some (.glob, 6)
  | _ => none

/-- DROOP (09 R293). -/
def droopForm (key : Nat) : Option (IxKind × Nat) :=
  match key with
  | 0x0001 => some (.upto 512, 6) | 0x0002 => some (.upto 512, 12) | 0x0003 => some (.upto 512, 4)
  | 0x0004 | 0x0005 | 0x0006 | 0x0007 | 0x0008 | 0x000B => some (.upto 512, 1)
  | 0x0009 | 0x000A | 0x000C => some (.upto 512, 2)
  | 0x000D => some (.glob, 4)
  | _ => none

/-- SHAPING (09 R294). -/
def shapeForm (key : Nat) : Option (IxKind × Nat) :=
  match key with
  | 0x0001 | 0x0003 | 0x0004 | 0x0005 => some (.upto 32, 2)
  | 0x0002 => some (.upto 32, 1)
  | 0x0006 | 0x0007 | 0x0008 | 0x0009 | 0x000A => some (.upto 32, 4)
  | 0x0010 | 0x0013 | 0x0015 => some (.glob, 1)
  | 0x0011 | 0x0012 | 0x0014 => some (.glob, 2)
  | 0x0016 => some (.glob, 4)
  | _ => none

/-- STARTER_SEED (07 R225). -/
def seedForm (key : Nat) : Option (IxKind × Nat) :=
  match key with
  | 0x0001 | 0x0007 | 0x0008 => some (.glob, 1)
  | 0x0002 | 0x0006 => some (.glob, 4)
  | 0x0003 | 0x0004 | 0x0005 => some (.glob, 2)
  | 0x0010 => some (.upto 512, 4) | 0x0100 => some (.upto 4096, 64)
  | _ => none

/-- EVENT_ROUTING (14 R443). -/
def evtForm (key : Nat) : Option (IxKind × Nat) :=
  match key with
  | 0x0001 => some (.glob, 1) | 0x0010 => some (.upto 1024, 4) | 0x0011 => some (.upto 1024, 2)
  | 0x0020 => some (.upto 64, 4) | 0x0030 => some (.upto 32, 4)
  | _ => none

/-- TIMING (03 R109; 06 R204; 12 R386; 13 R417; 15 R472; 17 R531). -/
def timForm (key : Nat) : Option (IxKind × Nat) :=
  match key with
  | 0x0001 => some (.upto 512, 2) | 0x0002 => some (.upto 512, 1)
  | 0x0003 | 0x0004 | 0x0006 | 0x0007 | 0x0034 | 0x0035 | 0x0036 => some (.glob, 4)
  | 0x0005 => some (.glob, 1)
  | 0x0010 => some (.upto 32, 8) | 0x0011 => some (.upto 32, 4) | 0x0012 | 0x0013 => some (.glob, 4)
  | 0x0020 | 0x0030 | 0x0031 | 0x0032 | 0x0033 | 0x0037 | 0x0040 => some (.glob, 2)
  | _ => none

/-- MODE (06 R203). -/
def modeForm (key : Nat) : Option (IxKind × Nat) :=
  match key with
  | 0x0001 => some (.glob, 1) | 0x0002 => some (.upto 4096, 4) | 0x0003 => some (.upto 512, 2) | 0x0004 => some (.upto 32, 16)
  | 0x0005 => some (.upto 32, 4) | 0x0006 | 0x0007 => some (.upto 4096, 1)
  | _ => none

/-- TRACE (17 R531). -/
def trcForm (key : Nat) : Option (IxKind × Nat) :=
  match key with
  | 0x0001 | 0x0002 => some (.glob, 1) | 0x0003 | 0x0004 => some (.glob, 2) | 0x0005 => some (.glob, 16)
  | 0x0010 => some (.upto 8, 4) | 0x0011 => some (.upto 512, 1)
  | _ => none

/-- What a key of a section takes: the kind of its INDEX and VLEN; none for a key that is not defined. -/
def itemForm (sec key : Nat) : Option (IxKind × Nat) :=
  if sec = Sec.loopParams then
    (match key with | 1 | 3 | 4 | 5 | 6 => some 8 | 2 => some 4 | _ => none).map fun n => (IxKind.upto 512, n)
  else if sec = Sec.gainTables then (if key = 1 then some (.upto 128, 512) else none)
  else if sec = Sec.railParams then railForm key
  else if sec = Sec.estCoeff then estForm key
  else if sec = Sec.leakage then (if Nat.ble 0x100 key && Nat.blt key 0x120 then some (.upto 512, 160) else none)
  else if sec = Sec.limits then limForm key
  else if sec = Sec.thermal then thermForm key
  else if sec = Sec.droop then droopForm key
  else if sec = Sec.shaping then shapeForm key
  else if sec = Sec.starterSeed then seedForm key
  else if sec = Sec.eventRouting then evtForm key
  else if sec = Sec.timing then timForm key
  else if sec = Sec.mode then modeForm key
  else if sec = Sec.trace then trcForm key
  else none

/-! ### Ranges of one value -/

/-- Whether lo ≤ x ≤ hi. -/
def within (lo hi x : Nat) : Bool := Nat.ble lo x && Nat.ble x hi

/-- Every field of len bytes from off, n of them, within a range. -/
def eachIn (v : List Byte) (off len n lo hi : Nat) : Bool :=
  (List.range n).all fun k => within lo hi (fieldAt v (off + len * k) len)

/-- A signed 16-bit field within a range. -/
def sIn (v : List Byte) (off : Nat) (lo hi : Int) : Bool :=
  let x := toSigned 16 (fieldAt v off 2)
  decide (lo ≤ x) && decide (x ≤ hi)

/-- WARN ≤ THROTTLE < SHUTDOWN with hystereses of 0 to 20 degrees (11 R361). -/
def thrOk (v : List Byte) : Bool :=
  let x (o : Nat) := toSigned 16 (fieldAt v o 2)
  decide (x 0 ≤ x 4) && decide (x 4 < x 8) && sIn v 2 0 1280 && sIn v 6 0 1280 && sIn v 10 0 1280

/-- RAIL_PARAMS (10 R333). -/
def railRange (key : Nat) (v : List Byte) : Bool :=
  let u := fieldAt v
  match key with
  | 0x0001 => eachIn v 0 2 8 0 0xFFF
  | 0x0002 => Nat.ble (u 0 1) 7
  | 0x0010 => Nat.blt (u 0 2) (u 2 2) && Nat.ble (u 2 2) 0xFFF
  | 0x0011 => eachIn v 0 1 4 1 100
  | 0x0012 => within 5 100 (u 0 1) && within 2 50 (u 1 1) && within 1 1000 (u 2 2)
  | 0x0020 => within 500 4000 (u 0 2)
  | 0x0030 => eachIn v 12 1 3 0 31 && u 15 1 = 0
  | 0x0040 => Nat.ble 1 (u 0 1)
  | 0x0041 => Nat.ble 1 (u 0 2) && Nat.ble (u 6 1) 50 && u 7 1 = 0
  | 0x0042 => within 500 20000 (u 0 2)
  | 0x0050 => u 1 1 = 0 && Nat.blt (u 4 2) (u 2 2) && within 1 10000 (u 6 2)
  | 0x0060 => Nat.ble 1 (u 6 1) && u 7 1 = 0
  | _ => true

/-- EST_COEFF (04 R119); the bounds of P0 and PMAX are binary32 patterns. -/
def estRange (key : Nat) (v : List Byte) : Bool :=
  let u := fieldAt v
  match key with
  | 0x0001 => within 0x3E8 0x7D0 (u 0 2)
  | 0x0002 => within 3 16 (u 0 1)
  | 0x0003 => within 0x322BCC77 0x3C23D70A (u 0 4)
  | 0x0004 => Nat.ble (u 0 4) 0x3F800000
  | 0x0005 => Nat.ble (u 0 1) 100
  | 0x0006 => within 50 2000 (u 0 2)
  | 0x0007 => Nat.ble (u 0 4) 100000
  | 0x0008 => Nat.ble (u 0 1) 1
  | 0x0009 => within 1 50 (u 0 1)
  | 0x000A => sIn v 0 (-1280) 8000
  | _ => Nat.blt (u 0 1) 32 && within 1 7 (u 1 1) && Nat.ble (u 4 1) 31 && Nat.ble (u 5 1) 31 && u 6 2 = 0
      && (if u 2 1 = 0xFF then u 3 1 = 0 else Nat.blt (u 2 1) 32 && within 1 7 (u 3 1))

/-- LEAKAGE (04 R121). -/
def leakRange (v : List Byte) : Bool :=
  let t := (List.range 8).map fun k => ((toSigned 16 (fieldAt v (8 + 2 * k) 2)) + 0x8000).toNat
  let x := (List.range 4).map fun k => fieldAt v (0x18 + 2 * k) 2
  (fieldAt v 0 2 = 0xFFFF || Nat.blt (fieldAt v 0 2) 1024) && zeros (slice v 2 6) && rising t && rising x

/-- LIMITS (06 R202). -/
def limRange (key : Nat) (v : List Byte) : Bool :=
  let u := fieldAt v
  match key with
  | 0x0001 => Nat.blt (u 0 4) (2 ^ 31)
  | 0x0003 => within 1 1000 (u 0 2)
  | 0x0004 => within 1 10000 (u 0 2)
  | 0x0010 => Nat.ble (u 0 4) (u 4 4)
  | _ => true

/-- THERMAL (11 R361). -/
def thermRange (key : Nat) (v : List Byte) : Bool :=
  let u := fieldAt v
  match key with
  | 0x0001 => rising ((List.range 5).map fun k => ((toSigned 16 (u (2 * k) 2)) + 0x8000).toNat)
  | 0x0002 => sIn v 0 0 640
  | 0x0010 | 0x0040 => thrOk v
  | 0x0011 => (u 0 2 = 0xFFFF || Nat.blt (u 0 2) 1024) && Nat.ble (u 2 1) 1 && u 3 1 = 0 && u 6 2 = 0
  | 0x0012 => sIn v 0 6400 8960
  | 0x0013 => within 1 4 (u 0 1)
  | 0x0014 => within 40 10000 (u 0 2)
  | 0x0020 => sIn v 0 64 1024 && sIn v 2 1 64
  | 0x0030 => Nat.ble (u 0 1) 3 && Nat.ble (u 1 1) 1 && Nat.ble 4 (bitList (u 2 2) 16).length
  | 0x0041 => within 1100 10000 (u 0 2)
  | 0x0050 => (List.range 6).all fun k => decide (-64 ≤ toSigned 8 (u k 1))
  | 0x0051 => eachIn v 0 1 6 0 2
  | _ => true

/-- DROOP (09 R293). -/
def droopRange (key : Nat) (v : List Byte) : Bool :=
  let u := fieldAt v
  match key with
  | 0x0001 => eachIn v 0 1 6 4 100
  | 0x0002 => eachIn v 0 2 6 0x0100 0x4000
  | 0x0004 => Nat.blt (u 0 1) 32
  | 0x0005 => within 1 4 (u 0 1)
  | 0x0006 => Nat.ble (u 0 1) 63
  | 0x0007 => within 1 254 (u 0 1)
  | 0x0009 => within 32 65535 (u 0 2)
  | 0x000A => within 1 256 (u 0 2)
  | 0x000B => Nat.ble (u 0 1) 20
  | 0x000C => within 1 100 (u 0 2)
  | 0x000D => within 10 10000 (u 0 4)
  | _ => true

/-- SHAPING (09 R294). -/
def shapeRange (key : Nat) (v : List Byte) : Bool :=
  let u := fieldAt v
  match key with
  | 0x0001 => Nat.ble (u 0 2) 100
  | 0x0002 => within 1 100 (u 0 1)
  | 0x0003 => within 500 10000 (u 0 2)
  | 0x0004 => within 1000 20000 (u 0 2)
  | 0x0005 => Nat.ble (u 0 2) 10000
  | 0x0008 => Nat.ble 1000 (u 0 4)
  | 0x0010 => within 1 16 (u 0 1)
  | 0x0011 => within 125 2000 (u 0 2) && u 0 2 % 125 = 0
  | 0x0012 => Nat.ble (u 0 2) 8000
  | 0x0013 => Nat.ble 1 (u 0 1)
  | 0x0014 => Nat.ble (u 0 2) 20000
  | 0x0015 => Nat.ble (u 0 1) 63
  | 0x0016 => Nat.ble (u 0 4) 63492
  | _ => true

/-- STARTER_SEED (07 R225). -/
def seedRange (key : Nat) (v : List Byte) : Bool :=
  let u := fieldAt v
  match key with
  | 0x0001 => within 1 8 (u 0 1)
  | 0x0002 => Nat.ble (u 0 4) 1000
  | 0x0003 => Nat.ble 1 (u 0 2)
  | 0x0006 => Nat.ble 1 (u 0 4)
  | 0x0007 => within 1 15 (u 0 1)
  | 0x0008 => within 2 10 (u 0 1)
  | 0x0010 => Nat.ble (u 0 4) 33554430
  | 0x0100 =>
    u 16 8 / 2 ^ 28 % 16 = 0 && u 16 8 / 2 ^ 48 = 0 && u 40 8 / 2 ^ 4 % 2 ^ 12 = 0 && u 40 8 / 2 ^ 48 = 0
      && Nat.ble (u 48 8 % 2 ^ 9) 256 && u 48 8 / 2 ^ 9 % 2 ^ 7 = 0 && u 48 8 / 2 ^ 33 = 0 && u 56 8 = 0
  | _ => true

/-- EVENT_ROUTING (14 R443). -/
def evtRange (key : Nat) (v : List Byte) : Bool :=
  let u := fieldAt v
  match key with
  | 0x0001 => Nat.ble (u 0 1) 7
  | 0x0010 => Nat.ble (u 0 1) 1 && Nat.ble (u 1 1) 3 && Nat.blt (u 3 1) 16
  | 0x0011 => Nat.ble (u 0 1) 63 && Nat.ble (u 1 1) 1
  | 0x0020 => Nat.ble 1 (u 0 1) && u 1 1 = 0 && Nat.ble 1 (u 2 2)
  | 0x0030 => Nat.ble (u 0 2) 1023 && Nat.ble (u 2 1) 1 && u 3 1 = 0
  | _ => true

/-- TIMING (03 R109; 06 R204; 12 R386; 13 R417; 15 R472; 17 R531). -/
def timRange (key : Nat) (v : List Byte) : Bool :=
  let u := fieldAt v
  match key with
  | 0x0001 => Nat.ble (u 0 2) 256
  | 0x0003 => Nat.ble (u 0 4) 1000000
  | 0x0004 => within 1000 60000000 (u 0 4)
  | 0x0005 => Nat.ble 1 (u 0 1)
  | 0x0006 => within 1000 3600000 (u 0 4)
  | 0x0007 => within 1 1000 (u 0 4)
  | 0x0010 => Nat.ble 20 (u 0 1) && Nat.ble 20 (u 1 1) && within 1 8 (u 2 1) && within 1 64 (u 3 1) && within 1 10000 (u 6 2)
  | 0x0011 => Nat.ble 1 (u 2 1) && u 3 1 = 0
  | 0x0012 => within 8 10000 (u 0 2) && within 1 60000 (u 2 2)
  | 0x0013 => Nat.ble (u 0 2) 256 && Nat.ble 1 (u 3 1)
  | 0x0020 => within 1 100 (u 0 2)
  | 0x0030 => within 1 50 (u 0 2)
  | 0x0031 => within 30 100 (u 0 2)
  | 0x0032 => within 5 100 (u 0 2)
  | 0x0033 => within 1 10000 (u 0 2)
  | 0x0034 => within 300 100000 (u 0 4)
  | 0x0035 => Nat.ble 200 (u 0 4)
  | 0x0036 => Nat.ble (u 0 4) 1000000
  | 0x0037 => within 1 100 (u 0 2)
  | 0x0040 => within 500 20000 (u 0 2)
  | _ => true

/-- The (slot, FMAX) pairs of a VF_LIST value, unused pairs left out (06 R203). -/
def vfPairs (v : List Byte) : List (Nat × Nat) :=
  ((List.range 8).map fun k => (fieldAt v (2 * k) 1, fieldAt v (2 * k + 1) 1)).filter fun p => !(p.1 = 0xFF && p.2 = 0xFF)

/-- MODE (06 R203). -/
def modeRange (key : Nat) (v : List Byte) : Bool :=
  let u := fieldAt v
  match key with
  | 0x0001 => Nat.ble (u 0 1) 2
  | 0x0002 => Nat.ble (u 3 1) (u 2 1) && Nat.ble (u 2 1) (u 1 1) && Nat.ble (u 1 1) (u 0 1)
  | 0x0003 => Nat.ble (u 0 2) 256
  | 0x0004 =>
    let l := vfPairs v
    (l.all fun p => Nat.ble p.1 7) && rising (l.map (·.2))
      && (List.range 8).all fun k => Nat.blt k l.length || (u (2 * k) 1 = 0xFF && u (2 * k + 1) 1 = 0xFF)
  | 0x0005 => eachIn v 0 1 3 0 7 && u 3 1 = 0
  | 0x0006 => within 1 50 (u 0 1)
  | _ => true

/-- TRACE (17 R531). -/
def trcRange (key : Nat) (v : List Byte) : Bool :=
  let u := fieldAt v
  match key with
  | 0x0001 | 0x0011 => Nat.ble (u 0 1) 1
  | 0x0003 => Nat.ble 16 (u 0 2)
  | 0x0004 => within 1 1000 (u 0 2)
  | 0x0005 => (List.range 8).all fun k => u (2 * k) 2 = 0xFFFF || Nat.blt (u (2 * k) 2) 0x200
  | 0x0010 => Nat.ble (u 1 1) 3
  | _ => true

/-- Whether one item's value lies in its ranges (02 R61). -/
def itemRange (x : Item) : Bool :=
  if x.sec = Sec.railParams then railRange x.key x.val
  else if x.sec = Sec.estCoeff then estRange x.key x.val
  else if x.sec = Sec.leakage then leakRange x.val
  else if x.sec = Sec.limits then limRange x.key x.val
  else if x.sec = Sec.thermal then thermRange x.key x.val
  else if x.sec = Sec.droop then droopRange x.key x.val
  else if x.sec = Sec.shaping then shapeRange x.key x.val
  else if x.sec = Sec.starterSeed then seedRange x.key x.val
  else if x.sec = Sec.eventRouting then evtRange x.key x.val
  else if x.sec = Sec.timing then timRange x.key x.val
  else if x.sec = Sec.mode then modeRange x.key x.val
  else if x.sec = Sec.trace then trcRange x.key x.val
  else true

/-- Key, VLEN, INDEX and range of one item (02 R61). -/
def itemOk (x : Item) : Bool :=
  match itemForm x.sec x.key with
  | some (k, n) => ixOk k x.idx && Nat.beq x.val.length n && itemRange x
  | none => false

/-! ### Loops: rules that register writes share (05 R150 to R153, R159; 06; 11 R352) -/

/-- The words of a loop that its rules read: LOOP_CFG, LOOP_DEST, LOOP_OUT_LIM. -/
structure LoopWords where
  cfg : Nat
  dest : Nat
  lim : Nat
deriving DecidableEq, Repr

/-- Whether a domain lies beneath another in a tree, itself included. -/
def treeUnder (tree : List DomRec) (top : Nat) : (d fuel : Nat) → Bool
  | d, 0 => d = top
  | d, n + 1 => d = top || match tree.find? (fun r => Nat.beq r.dom d) with
    | some r => r.kind ≠ 0 && treeUnder tree top r.parent n
    | none => false

/-- The loops a chain of setpoint links reaches from a loop. -/
def linkChain (w : Nat → LoopWords) : (l fuel : Nat) → List Nat
  | _, 0 => []
  | l, n + 1 => if bitOf (w l).cfg 15 then let k := (w l).cfg / 2 ^ 16 % 512; k :: linkChain w k n else []

/-- The rules on a loop's words within a structure (05 R150 to R153, R159; 06; 11 R352). -/
def loopRule (tree : List DomRec) (loops : List LoopRec) (rails : List Nat) (w : Nat → LoopWords) (r : LoopRec) : Bool :=
  let c := (w r.loop).cfg
  let d := (w r.loop).dest
  let inKind := c % 8
  let avg := bitOf c 3
  let lim := c / 16 % 8
  let ix := c / 2 ^ 32 % 2 ^ 16
  let dk := d % 4
  let bc := d / 4 % 4
  let dst := d / 2 ^ 16 % 2 ^ 16
  let known (x : Nat) : Bool := tree.any fun y => Nat.beq y.dom x
  let hub := r.host = 0
  let input := match inKind with
    | 0 => hub
    | 1 | 2 => hub && rails.contains ix
    | 3 => if hub then known ix else !avg && (ix = r.host || tree.any fun y => Nat.beq y.dom ix && Nat.beq y.parent r.host)
    | 4 => known ix && (hub || treeUnder tree r.host ix 8)
    | _ => false
  let limit := match lim with
    | 0 | 1 => !avg
    | 2 | 3 | 5 => avg
    | 4 => inKind = 4
    | 6 => true
    | _ => false
  let links := linkChain w r.loop 512
  let link := !bitOf c 15 || ((loops.any fun x => Nat.beq x.loop (c / 2 ^ 16 % 512) && Nat.beq x.host r.host)
    && !links.contains r.loop && Nat.blt links.length 512)
  let s32 (x : Nat) := toSigned 32 (x % 2 ^ 32)
  let omin := s32 (w r.loop).lim
  let omax := s32 ((w r.loop).lim / 2 ^ 32)
  let dest := match dk with
    | 0 => true
    | 1 => treeUnder tree r.host dst 8
    | 2 => hub && treeUnder tree r.host dst 8 && decide (0 ≤ omin) && decide (omin ≤ 16777216) && decide (0 ≤ omax)
        && decide (omax ≤ 16777216)
    | _ => false
  input && limit && link && dest && Nat.blt bc 3 && (bc ≠ 2 || inKind = 1 || inKind = 2)
    && !(r.pclass = 0 && avg && inKind ≠ 4)

/-! ### Rules across items -/

/-- The offset of the item of this image that sets a value, 0 where none does. -/
def offOf (l : List (Nat × Item)) (sec key idx : Nat) : Nat :=
  let pick (i : Nat) := l.find? fun x => Nat.beq x.2.sec sec && Nat.beq x.2.key key && Nat.beq x.2.idx i
  match pick idx with
  | some x => x.1
  | none => match pick idxAll with | some x => x.1 | none => 0

/-- The loop words that an image sets (05 R173). -/
def Image.loopWords (g : Image) (l : Nat) : LoopWords :=
  { cfg := g.par Sec.loopParams 1 l 0 8 0, dest := g.par Sec.loopParams 5 l 0 8 0, lim := g.par Sec.loopParams 3 l 0 8 0 }

/-- Loops (05 R150 to R154, R159, R173, R174; 06 R202). -/
def crossLoop (g : Image) (off : Nat → Nat → Nat → Nat) (r : LoopRec) : Chk :=
  let l := r.loop
  let has (sec key : Nat) : Bool := (g.item? sec key l).isSome
  let c := (g.loopWords l).cfg
  let spMax := g.par Sec.limits 1 l 0 4 0
  firstBad [
    must (has Sec.loopParams 1 && has Sec.loopParams 3 && has Sec.loopParams 5 && has Sec.limits 1) 0,
    must (loopRule g.tree g.loops (g.rails.map (·.rail)) g.loopWords r) (off Sec.loopParams 1 l),
    must (g.item? Sec.gainTables 1 (c / 256 % 128)).isSome (off Sec.loopParams 1 l),
    must (decide (g.parI Sec.loopParams 2 l 0 4 spMax ≤ spMax)) (off Sec.loopParams 2 l),
    must (c / 16 % 8 ≠ 0 || has Sec.limits 2) 0,
    must (!has Sec.limits 2 || decide (g.parI Sec.limits 2 l 0 4 0 ≤ spMax)) (off Sec.limits 2 l)]

/-- The slope rule of 10 R310 at an output code: −0.5 < α < 0.5. -/
def slopeOk (code lnh vin slope : Nat) : Bool :=
  let a : Int := 4 * code - slope * lnh
  let b : Int := 8 * vin - 4 * code + slope * lnh
  decide (0 < b) && decide (-b < 2 * a) && decide (2 * a < b)

/-- Rails (10 R310, R312, R333). -/
def crossRail (g : Image) (off : Nat → Nat → Nat → Nat) (r : RailRec) : Chk :=
  let k := r.rail
  let u (key o n d : Nat) := g.par Sec.railParams key k o n d
  let si (o : Nat) := g.parI Sec.railParams 0x0030 k o 4 0
  let has (key : Nat) : Bool := (g.item? Sec.railParams key k).isSome
  let vmin := u 0x10 0 2 0
  let vmax := u 0x10 2 2 0
  let o (key : Nat) := off Sec.railParams key k
  let ipk := u 0x60 0 4 80000
  let ok (key : Nat) (c : Bool) : Chk := must (!has key || c) (o key)
  let order := (List.range 32).map fun n => u 0x51 n 1 0xFF
  firstBad [
    must (has 0x10) 0,
    if r.monitored then badOf [0x01, 0x02, 0x11, 0x13, 0x20, 0x21, 0x30, 0x31, 0x40, 0x41, 0x42, 0x50, 0x51, 0x60] fun key =>
      must (!(g.items.any fun x => Nat.beq x.sec Sec.railParams && Nat.beq x.key key && Nat.beq x.idx k)) (o key)
    else firstBad [
      must (has 0x01 && has 0x30 && has 0x40 && has 0x41) 0,
      must ((List.range 8).all fun n => within vmin vmax (u 1 (2 * n) 2 0)) (o 1),
      must (Nat.blt (u 0x13 0 2 0x190) vmin) (o 0x13),
      must (Nat.blt (u 0x21 0 2 0) (u 0x20 0 2 1000)) (o 0x21),
      must (decide (0 < si 0) && decide (si 4 ≤ 0) && decide (-(si 4) * (2 ^ u 0x30 12 1 0 : Nat) < si 0 * (2 ^ u 0x30 13 1 0 : Nat))
        && decide (0 ≤ si 8) && decide (si 8 < (2 ^ u 0x30 14 1 0 : Nat))) (o 0x30),
      ok 0x31 (within 1000 (ipk - 1000) (u 0x31 0 4 0)),
      must (slopeOk vmax (u 0x41 0 2 1) (u 0x41 2 2 0) (u 0x40 0 1 1) && slopeOk vmin (u 0x41 0 2 1) (u 0x41 2 2 0) (u 0x40 0 1 1)) (o 0x40),
      ok 0x50 (within 1 r.nph (u 0x50 0 1 0) && Nat.ble (100 * u 0x50 2 2 0) ipk),
      ok 0x51 ((order.drop r.nph).all (Nat.beq · 0xFF) && distinct (order.take r.nph) && (order.take r.nph).all (Nat.blt · r.nph))]]

/-- The rails that a leaf's COEFF and LEAKAGE items bind (04 R119 to R121). -/
def Image.boundRails (g : Image) (l : Nat) : List (Nat × Nat) :=
  ((List.range 0x15).flatMap fun c =>
      match g.item? Sec.estCoeff (0x100 + c) l with
      | some v => [(0x100 + c, fieldAt v 0 1)] ++ if fieldAt v 2 1 = 0xFF then [] else [(0x100 + c, fieldAt v 2 1)]
      | none => [])
    ++ (List.range 32).filterMap fun r => if (g.item? Sec.leakage (0x100 + r) l).isSome then some (0, r) else none

/-- Leaves: estimation (04 R120), CORE ports and droop detectors they own (06 R203; 09 R293). -/
def crossLeaf (g : Image) (off : Nat → Nat → Nat → Nat) (d : DomRec) : Chk :=
  let l := d.dom % 0x1000
  let b := g.boundRails l
  let own (t : Nat) := g.insts.filter fun x => Nat.beq x.typ t && Nat.beq x.owner d.dom
  let gates := (own 3).map fun x => x.physical % 32
  firstBad [
    badOf b fun x => must (bitOf d.railmask x.2) (if x.1 = 0 then off Sec.leakage (0x100 + x.2) l else off Sec.estCoeff x.1 l),
    must (Nat.ble ((List.range 32).filter fun r => b.any fun x => Nat.beq x.2 r).length 4) 0,
    badOf (own 4) fun x =>
      let p (key o dflt : Nat) := g.par Sec.mode key x.logical o 1 dflt
      must (within (p 2 3 0x28) (p 2 0 0x90) (p 7 0 (p 2 3 0x28))) (off Sec.mode 7 x.logical),
    badOf (own 8) fun x =>
      let n := x.logical
      firstBad [
        must ((bitList (g.par Sec.droop 3 n 0 4 0) 32).all fun k => gates.contains k) (off Sec.droop 3 n),
        must (match g.item? Sec.droop 4 n with | some v => bitOf d.railmask (fieldAt v 0 1) | none => true) (off Sec.droop 4 n),
        must ((List.range 6).all fun k => Nat.blt (g.par Sec.droop 0xB l 0 1 6) (g.par Sec.droop 1 n k 1 25)) (off Sec.droop 0xB l)]]

/-- The NMI_MASK a source takes (14 R435, R443). -/
def Image.srcNmi (g : Image) (x : SrcRec) : Nat :=
  let dflt := if x.code = 0x58 then (if x.inst = 0xFFFF then 0xF else 2 ^ (x.inst % 4))
    else if [0x48, 0x4A, 0x50].contains x.code then 0xF else 0
  g.par Sec.eventRouting 0x10 x.src 3 1 dflt

/-- C11's rules across items (04 R119; 07 R225; 09 R294; 11 R361; 12 R386; 14 R443; 15 R472). -/
def crossItems (g : Image) (off : Nat → Nat → Nat → Nat) : Chk :=
  let u (sec key idx o n d : Nat) := g.par sec key idx o n d
  let nums := g.rails.map (·.rail)
  let insts (t : Nat) := (g.insts.filter fun x => Nat.beq x.typ t).map (·.logical)
  firstBad [
    badOf g.loops (crossLoop g off),
    badOf g.rails (crossRail g off),
    badOf (g.tree.filter fun d => d.kind = 2) (crossLeaf g off),
    badOf nums fun r =>
      must (decide (8 * f32OfBits (u Sec.estCoeff 3 r 0 4 0x3727C5AC) ≤ f32OfBits (u Sec.estCoeff 4 r 0 4 0x3A83126F)))
        (off Sec.estCoeff 4 r),
    badOf (insts 7) fun x =>
      let ref := u Sec.thermal 0x11 x 0 2 0xFFFF
      firstBad [
        must (decide (g.parI Sec.thermal 0x10 x 8 2 7360 ≤ g.parI Sec.thermal 0x12 idxAll 0 2 8000)) (off Sec.thermal 0x10 x),
        must (ref = 0xFFFF || (ref ≠ x && (insts 7).contains ref && bitOf (u Sec.thermal 0x11 ref 2 1 0) 0)) (off Sec.thermal 0x11 x)],
    must (Nat.ble ((u Sec.shaping 0x10 idxAll 0 1 4 - 1) * u Sec.shaping 0x11 idxAll 0 2 500) (u Sec.shaping 0x12 idxAll 0 2 2000))
      (off Sec.shaping 0x10 idxAll),
    badOf nums fun r =>
      let never := 0xFFFF_FFFF
      firstBad [
        must ((u Sec.shaping 6 r 0 4 never = never && u Sec.shaping 8 r 0 4 never = never) || (g.item? Sec.shaping 0xA r).isSome)
          (max (off Sec.shaping 6 r) (off Sec.shaping 8 r)),
        must ((g.item? Sec.shaping 0xA r).isNone || Nat.ble (u Sec.shaping 9 r 0 4 0) (u Sec.shaping 0xA r 0 4 0)) (off Sec.shaping 0xA r)],
    (let lo := u Sec.starterSeed 3 idxAll 0 2 0x0010
     let hi := u Sec.starterSeed 4 idxAll 0 2 0x0400
     firstBad [
       must (Nat.ble lo hi) (off Sec.starterSeed 3 idxAll),
       must (within lo hi (u Sec.starterSeed 5 idxAll 0 2 0x0100)) (off Sec.starterSeed 5 idxAll)]),
    badOf nums fun r =>
      must (match g.item? Sec.timing 0x10 r with
        | some v => Nat.blt (u Sec.railParams 0x10 r 2 2 0) (fieldAt v 4 2)
        | none => true) (off Sec.timing 0x10 r),
    must (Nat.ble (3 * u Sec.timing 0x30 idxAll 0 2 10) (u Sec.timing 0x31 idxAll 0 2 50)) (off Sec.timing 0x31 idxAll),
    must (Nat.ble (u Sec.timing 0x35 idxAll 0 4 200) (u Sec.timing 0x34 idxAll 0 4 1000)) (off Sec.timing 0x35 idxAll),
    badOf g.sources fun x =>
      firstBad [
        must (!(Nat.beq (u Sec.eventRouting 0x11 x.src 1 1 0) 1) || g.srcNmi x = 0) (off Sec.eventRouting 0x11 x.src),
        must (!([0x48, 0x4A, 0x50, 0x58].contains x.code) || g.srcNmi x ≠ 0) (off Sec.eventRouting 0x10 x.src)]]

/-- C11 (02 R61 and the owning chapters): every item by itself, then the rules across the effective items. -/
def checkC11 (g : Image) (own : List (Nat × Item)) : Chk :=
  firstBad [badOf own fun x => must (itemOk x.2) x.1, crossItems g (offOf own)]

end Sys2Proof.Machine
end

