-- ==== Sys2Proof/Machine/Trace.lean ====
section
/-!
DEFINITION. The trace unit's operations (17 R520 to R528): entering frames in the buffer, dropping classes, triggers, freezing,
the trip region. The events the unit raises are left in trc.postEv for the event controller (Event.lean).
-/
namespace Sys2Proof.Machine

/-- Slots of the main region (17, "The buffer"). -/
abbrev trcMainSlots : Nat := 8064
/-- Post-trigger slots (17 R523). -/
abbrev trcPostSlots : Nat := 6016

/-- TRC_STATUS.STATE: 0 OFF, 1 ARMED, 2 TRIGGERED, 3 FROZEN (17 R523). -/
def State.trcState (s : State) : Nat := s.rd F.TRC_STATUS_STATE

/-- U, the unsent frames of the main region (17, "The buffer"). -/
def State.trcUnsent (s : State) : Nat := (s.trc.main.filter fun f => !f.sent).length

/-- Whether class k of 0 to 7 is dropped at U unsent frames, being dropped before or not (17 R524). -/
def dropHyst (u k : Nat) (was : Bool) : Bool :=
  if was then Nat.blt (1007 * (k + 1) - 504) u else Nat.ble (1007 * (k + 1)) u

/-- The set of dropped classes: every class below a dropped one is dropped as well (17 R524). -/
def dropMask (u old : Nat) : Nat :=
  let hi := (List.range 8).filter fun k => dropHyst u k (bitOf old k)
  maskOf ((List.range 8).filter fun k => hi.any fun h => Nat.ble k h)

/-- Two 64-bit words of a list of eight 16-bit counts. -/
def packCounts (l : List Nat) : Nat :=
  l.foldr (fun c acc => c % 2 ^ 16 + 2 ^ 16 * acc) 0

/-- Bring TRC_PTR and TRC_STATUS.UNSENT up to the store. -/
def State.trcSync (s : State) : State :=
  let s := s.wr F.TRC_PTR_COUNT s.trc.main.length
  let s := s.wr F.TRC_PTR_OLDEST s.trc.base
  s.wr F.TRC_STATUS_UNSENT s.trcUnsent

/-- Store a frame in the main region, overwriting the oldest when the region is full; a frame that would overwrite an unsent
one is not stored. In TRIGGERED it counts toward the post-trigger slots (17 R523). -/
def State.trcStore (s : State) (cls kind src time d0 d1 : Nat) : State :=
  let f : TFrame := { cls := cls, kind := kind, src := src, seq := s.vn .trcSeq % 2 ^ 32, time := time, d0 := d0, d1 := d1, sent := false }
  let s := s.setV .trcSeq (s.v .trcSeq + 1)
  let full := Nat.ble trcMainSlots s.trc.main.length
  let blocked := full && (match s.trc.main with | g :: _ => !g.sent | [] => false)
  if blocked then s
  else
    let old := if full then s.trc.main.drop 1 else s.trc.main
    let base := if full then (s.trc.base + 1) % trcMainSlots else s.trc.base
    let s : State := { s with trc := { s.trc with main := old ++ [f], base := base } }
    (s.when (s.trcState = 2) fun s => s.addV .trcPost 1).trcSync

/-- Note an event the trace unit raises. -/
def State.trcRaise (s : State) (code inst : Nat) : State :=
  { s with trc := { s.trc with postEv := s.trc.postEv ++ [(code, inst)] } }

/-- A frame that is no happening of a class has been stored: the set of dropped classes may grow (17 R524). -/
def State.trcDropShow (s : State) : State := s.wr F.TRC_STATUS_DROPPING (dropMask s.trcUnsent (s.rd F.TRC_STATUS_DROPPING))

/-- The LOSS frame: frames dropped per class since the last one, counts restarted, TRACE_LOSS raised (17 R522, R524). -/
def State.trcLossFrame (s : State) : State :=
  let c := (List.range 8).map fun k => s.vn .trcLoss k
  let s := (s.trcStore 0xE 0 0 s.time (packCounts (c.take 4)) (packCounts (c.drop 4))).trcDropShow
  let s := s.each (List.range 8) fun s k => s.setV .trcLoss 0 k
  s.trcRaise 0x7A 0

/-- Bring the set of dropped classes up to U; a LOSS frame when the set shrinks (17 R524). -/
def State.trcDropUpdate (s : State) : State :=
  let old := s.rd F.TRC_STATUS_DROPPING
  let new := dropMask s.trcUnsent old
  let s := s.wr F.TRC_STATUS_DROPPING new
  if (List.range 8).any (fun k => bitOf old k && !bitOf new k) then s.trcLossFrame else s

/-- Data of a MARK frame: cause and trigger count (17 R522). -/
def State.markData (s : State) (cause : Nat) : Nat :=
  cause % 256 + 256 * min 255 (s.rd F.TRC_STATUS_TRIGS)

/-- Enter FROZEN with a cause: MARK FREEZE, FROZEN_SEEN and TRACE_FROZEN (17 R523, R530). The SRC of a freeze that software
did not ask for is 0 (log entry 20). -/
def State.trcFreezeFor (s : State) (cause : Nat) : State :=
  let s := s.trcStore 0xD 2 (if cause = 2 then 0xFF else 0) s.time (s.markData cause) 0
  let s := s.wr F.TRC_STATUS_STATE 3
  let s := s.wr F.TRC_STATUS_CAUSE cause
  let s := s.flag F.TRC_STATUS_FROZEN_SEEN
  s.trcRaise 0x79 0

/-- After frames are stored: in TRIGGERED, freeze when 6,016 frames are stored since the trigger (17 R523). -/
def State.trcCount (s : State) : State :=
  if s.trcState = 2 && Nat.ble trcPostSlots (s.vn .trcPost) then s.trcFreezeFor 1 else s

/-- Whether the trace clock is turned off by the package state (13 R396). -/
def State.trcOff (s : State) : Bool := [Pkg.off, Pkg.aon, Pkg.verify, Pkg.deepSleep].contains s.pkg

/-- Whether the trace clock runs: not turned off, and not stopped because the hub runs on its oscillator (13 R396, R403). -/
def State.trcClk (s : State) : Bool := !s.trcOff && !s.is F.CLK_STAT_ON_OSC 0

/-- CLASS_EN of the image (17 R531). -/
def State.trcClassEn (s : State) (k : Nat) : Bool :=
  bitOf (s.par Sec.trace 0x0002 idxAll 0 1 0xFF) k

/-- A happening of class 0 to 7: recorded in ARMED and TRIGGERED while its class is enabled and not dropped (17 R522 to
R524). -/
def State.frame (s : State) (cls kind src time d0 d1 : Nat) : State :=
  if !(s.trcState = 1 || s.trcState = 2) || !s.trcClassEn cls then s
  else if bitOf (s.rd F.TRC_STATUS_DROPPING) cls then
    let s := s.incSat F.TRC_LOSS_DROPPED 1 cls
    let n := min 65535 (s.vn .trcLoss cls + 1)
    let s := s.setV .trcLoss n cls
    if n = 65535 then s.trcLossFrame.trcCount else s
  else
    ((s.trcStore cls kind src time d0 d1).trcDropUpdate).trcCount

/-- A trigger by an entry, 0xFE for CRUST or 0xFF for software (17 R523). -/
def State.trcTrigger (s : State) (entry : Nat) : State :=
  match s.trcState with
  | 1 =>
    let s := s.incSat F.TRC_STATUS_TRIGS
    let slot := (s.trc.base + s.trc.main.length) % trcMainSlots
    let s := (s.trcStore 0xD 1 entry s.time (s.markData 0) 0).trcDropShow
    let s := s.wr F.TRC_PTR_TRIG_SLOT slot
    let s := s.wr F.TRC_STATUS_STATE 2
    let s := s.setV .trcPost 1
    s.trcRaise 0x78 entry
  | 2 =>
    let s := s.incSat F.TRC_STATUS_TRIGS
    let s := ((s.trcStore 0xD 1 entry s.time (s.markData 0) 0).trcDropShow).trcCount
    s.trcRaise 0x78 entry
  | 3 => (s.incSat F.TRC_STATUS_TRIGS).trcRaise 0x78 entry
  | _ => s

/-- The four frames of a TRIP or FAIL record in the trip region, in every state but OFF; the 32nd record is rewritten when
the region is full (17 R522, R525). -/
def State.trcTrip (s : State) (typ : Nat) (bytes : List Byte) : State :=
  if s.trcState = 0 then s
  else
    let fr := (List.range 4).map fun k =>
      ({ cls := 0xF, kind := k, src := typ, seq := (s.vn .trcSeq + k) % 2 ^ 32, time := s.time,
         d0 := fieldAt bytes (16 * k) 8, d1 := fieldAt bytes (16 * k + 8) 8, sent := false } : TFrame)
    let spill := Nat.ble 128 s.trc.trip.length
    let s : State := { s with trc := { s.trc with trip := (if spill then s.trc.trip.take 124 else s.trc.trip) ++ fr } }
    let s := s.setV .trcSeq (s.v .trcSeq + 4)
    let s := s.wr F.TRC_STATUS_TRIPRECS (s.trc.trip.length / 4)
    s.when spill fun s => s.flag F.TRC_STATUS_TRIP_OVF

end Sys2Proof.Machine
end

