-- ==== Sys2Proof/Machine/Event.lean ====
section
/-!
DEFINITION. The event controller's operations (14): levels, occurrences, PEND, coalescing, presentation, stacks.
-/
namespace Sys2Proof.Machine

/-- The event codes of flag kind (14 R422, R599 and the owning chapters); every other code is of pulse kind. -/
def flagKind (code : Nat) : Bool :=
  [0x02, 0x06, 0x08, 0x12, 0x18, 0x19, 0x1B, 0x1C, 0x1E, 0x1F, 0x28, 0x29, 0x30, 0x31, 0x33, 0x39, 0x3D, 0x3C,
   0x40, 0x41, 0x42, 0x44, 0x50, 0x51, 0x53, 0x65, 0x79, 0x7B, 0x88, 0x89, 0x8A].contains code

/-- The source a (code, instance) pair maps to: its exact pair, else the source of every instance (14 R421). -/
def State.findSrc (s : State) (code inst : Nat) : Option Nat :=
  match s.img.active with
  | none => none
  | some g =>
    match g.sources.find? (fun x => Nat.beq x.code code && Nat.beq x.inst inst) with
    | some x => some x.src
    | none => (g.sources.find? fun x => Nat.beq x.code code && Nat.beq x.inst 0xFFFF).map (·.src)

/-- Whether the image defines a source number (14 R421). -/
def State.srcDefined (s : State) (k : Nat) : Bool :=
  match s.img.active with
  | none => false
  | some g => g.sources.any fun x => Nat.beq x.src k

/-- The level of a source (14 R422): its flag bits, their OR for INSTANCE 0xFFFF, or its LATCH. -/
def State.srcLevel (s : State) (k : Nat) : Bool :=
  let code := s.rd F.EVC_SRC_CFG_CODE k
  let inst := s.rd F.EVC_SRC_CFG_INSTANCE k
  if flagKind code then
    if inst = 0xFFFF then
      -- a pair with a source of its own maps there, not here (14 R421)
      s.evt.levels.any fun p => Nat.beq p.1 code && (s.findSrc p.1 p.2 == some k)
    else s.evt.levels.contains (code, inst)
  else s.is F.EVC_SRC_STATE_LATCH k

/-- Show a source's level in EVC_SRC_s.LEVEL. -/
def State.srcSync (s : State) (k : Nat) : State :=
  s.wr F.EVC_SRC_STATE_LEVEL (b2n (s.srcLevel k)) k

/-- The members of a coalescing group (14 R437). -/
def State.grpMembers (s : State) (g : Nat) : List Nat :=
  match s.img.active with
  | none => []
  | some im => (im.sources.map (·.src)).filter fun k => s.is F.EVC_SRC_CFG_GRP_EN k && Nat.beq (s.rd F.EVC_SRC_CFG_GROUP k) g

/-- A group fires: HELD clears on every member, the window closes, COUNT is 0 (14 R437). -/
def State.grpFire (s : State) (g : Nat) : State :=
  if s.is F.EVC_GRP_A_OPEN g then
    let s := s.each (s.grpMembers g) fun s k => s.wr F.EVC_SRC_STATE_HELD 0 k
    let s := s.wr F.EVC_GRP_A_OPEN 0 g
    let s := s.wr F.EVC_GRP_A_COUNT 0 g
    s.incSat F.EVC_GRP_A_FIRES 1 g
  else s

/-- Whether a group's window [t0, t0 + TIME_TH) has closed by now (14 R437, 00 R10). -/
def State.grpLapsed (s : State) (g : Nat) : Bool :=
  s.is F.EVC_GRP_A_OPEN g && Nat.ble (s.rd F.EVC_GRP_B_OPEN_TIME g + 1000 * s.rd F.EVC_GRP_A_TIME_TH g) s.time

/-- A source becomes pending; a member of a group is HELD, and opens the group's window if it is closed (14 R425, R437). -/
def State.setPend (s : State) (k : Nat) : State :=
  if s.is F.EVC_SRC_STATE_PEND k || s.is F.EVC_SRC_STATE_ACTIVE k then s
  else
    let s := s.wr F.EVC_SRC_STATE_PEND 1 k
    if s.is F.EVC_SRC_CFG_GRP_EN k then
      let g := s.rd F.EVC_SRC_CFG_GROUP k
      let s := s.when (s.grpLapsed g) fun s => (s.grpFire g)
      let s := s.when (!s.is F.EVC_GRP_A_OPEN g) fun s =>
        ((s.wr F.EVC_GRP_A_OPEN 1 g).wr F.EVC_GRP_B_OPEN_TIME s.time g).wr F.EVC_GRP_A_COUNT 0 g
      s.wr F.EVC_SRC_STATE_HELD 1 k
    else s

/-- An occurrence of a source (14 R424): counted in OCC, stamped, pending under R425, counted and held in its group under
R437 and R438. -/
def State.occur (s : State) (k : Nat) : State :=
  let s := s.incSat F.EVC_SRC_STATE_OCC 1 k
  let s := s.wr F.EVC_SRC_STATE_LAST_TIME s.time k
  let s := s.srcSync k
  let g := s.rd F.EVC_SRC_CFG_GROUP k
  let member := s.is F.EVC_SRC_CFG_GRP_EN k
  let s := s.when (member && s.grpLapsed g) fun s => s.grpFire g
  let s := s.setPend k
  if member && s.is F.EVC_GRP_A_OPEN g then
    let s := s.incSat F.EVC_GRP_A_COUNT 1 g
    s.when (Nat.ble (s.rd F.EVC_GRP_A_CNT_TH g) (s.rd F.EVC_GRP_A_COUNT g)) fun s => s.grpFire g
  else s

/-- Whether ALERT_N is low (18 R561, 12 R374). -/
def State.alertLow (s : State) : Bool :=
  !Nat.beq (getBits (s.reg .CRUST_LATCH) 0 7) 0 || s.pkg = Pkg.fail || s.v .mirNoHub = 1
    || !Nat.beq (Nat.land (s.rd F.FAC_ALERT_PEND) (s.rd F.FAC_ALERT_EN)) 0

/-- After a change of a cause of ALERT_N: in I3C mode a rise of their OR raises one in-band interrupt, where the controller
has enabled them (18 R561). -/
def State.alertRise (s : State) (before : Bool) : State :=
  s.when (!before && s.alertLow && !s.is F.FAC_STATUS_MODE && s.v .ibiOn = 1) fun s =>
    s.emit (.ibi (s.rd F.FAC_ALERT_PEND))

/-- Set a bit of FAC_ALERT.PEND (18 R561). -/
def State.facAlert (s : State) (bit : Nat) : State :=
  let before := s.alertLow
  (s.flag F.FAC_ALERT_PEND 0 0 (2 ^ bit)).alertRise before

/-- The FAC_ALERT cause an event code is (18 R561); TS_WARN, TS_THROTTLE and STK_STALE of a stack are rises of its level. -/
def alertBit (code inst : Nat) : Option Nat :=
  match code with
  | 0x01 => some 0
  | 0x12 => some 3
  | 0x66 => some 4
  | 0x79 => some 5
  | 0x40 | 0x41 => if Nat.ble 0x8000 inst then some 2 else none
  | 0x44 => some 2
  | _ => none

/-- The trace trigger entries that match an occurrence (17 R523, R531). -/
def State.trigEntries (s : State) (code inst : Nat) : List Nat :=
  (List.range 8).filter fun e =>
    match s.item? Sec.trace 0x0010 e with
    | some l => bitOf (fieldAt l 1 1) 0 && Nat.beq (fieldAt l 0 1) code && (bitOf (fieldAt l 1 1) 1 || Nat.beq (fieldAt l 2 2) inst)
    | none => false

/-- One occurrence of (code, instance) at the event controller, with its trace frame and triggers (14 R421, R424; 17 R522,
R523). A flag-kind bit that is already 1 does not rise. -/
def State.eventOne (s : State) (code inst detail : Nat) : State :=
  if flagKind code && s.evt.levels.contains (code, inst) then s
  else
    let s := s.when (flagKind code) fun s => { s with evt := { s.evt with levels := s.evt.levels ++ [(code, inst)] } }
    let s := match alertBit code inst with | some b => s.facAlert b | none => s
    let s := s.when (Nat.beq code 0x30) fun s => s.incWrap F.CNT_GLOBAL_VAL 1 0xA0
    let s := match s.findSrc code inst with
      | none => s.incSat F.EVC_STATUS_UNMAPPED
      | some k =>
        let s := s.when (!flagKind code) fun s => s.flag F.EVC_SRC_STATE_LATCH k
        let s := s.occur k
        s.frame 7 0 k s.time (code % 256 + 2 ^ 8 + 2 ^ 16 * (inst % 2 ^ 16) + 2 ^ 32 * (detail % 2 ^ 32)) 0
    s.each (s.trigEntries code inst) fun s e => s.trcTrigger e

/-- Raise the events the trace unit has noted; each may make the unit note another (log entry 21). -/
def State.evtDrain (s : State) (fuel : Nat) : State :=
  match fuel with
  | 0 => s
  | n + 1 =>
    match s.trc.postEv with
    | [] => s
    | (c, i) :: r => (({ s with trc := { s.trc with postEv := r } }).eventOne c i 0).evtDrain n

/-- Raise an event at the hub (14 R424), with the owning chapter's detail. -/
def State.eventD (s : State) (code inst detail : Nat) : State :=
  (s.eventOne code inst detail).evtDrain 8

/-- Raise an event at the hub (14 R424). -/
def State.event (s : State) (code inst : Nat) : State :=
  s.eventD code inst 0

/-- A flag-kind bit cleared: its level goes to 0; PEND stays (14 R422, R423). -/
def State.evtClear (s : State) (code inst : Nat) : State :=
  let s : State := { s with evt := { s.evt with levels := s.evt.levels.filter fun p => !(Nat.beq p.1 code && Nat.beq p.2 inst) } }
  match s.findSrc code inst with
  | some k => s.srcSync k
  | none => s

/-- Whether a source is an NMI source (14 R426). -/
def State.isNmi (s : State) (k : Nat) : Bool := !Nat.beq (s.rd F.EVC_SRC_CFG_NMI_MASK k) 0

/-- Group priority under PRIGROUP (14 R426). -/
def State.groupPri (s : State) (k : Nat) : Nat :=
  s.rd F.EVC_SRC_CFG_PRI k / 2 ^ s.rd F.EVC_CTRL_PRIGROUP

/-- Sub-priority under PRIGROUP (14 R426). -/
def State.subPri (s : State) (k : Nat) : Nat :=
  s.rd F.EVC_SRC_CFG_PRI k % 2 ^ s.rd F.EVC_CTRL_PRIGROUP

/-- A target's stack, bottom first. -/
def State.stackOf (s : State) (t : Nat) : List (Nat × Nat) := s.evt.evStk.getD t []

/-- Replace a target's stack; DEPTH follows. -/
def State.setStack (s : State) (t : Nat) (l : List (Nat × Nat)) : State :=
  { s with evt := { s.evt with evStk := s.evt.evStk.set t l } }

/-- The running group of a target (14 R427). -/
def State.running (s : State) (t : Nat) : Option Nat := (s.stackOf t).getLast?.map (·.2)

/-- Whether a source is presentable to a target (14 R427). -/
def State.presentable (s : State) (t k : Nat) : Bool :=
  s.is F.EVC_SRC_CFG_EN k && s.is F.EVC_SRC_STATE_PEND k && !s.isNmi k && Nat.beq (s.rd F.EVC_SRC_CFG_TARGET k) t
    && !s.is F.EVC_SRC_STATE_HELD k
    && (match s.running t with | none => true | some g => Nat.blt (s.groupPri k) g)

/-- The more urgent of two sources: lowest group priority, then sub-priority, then number (14 R426). -/
def State.moreUrgent (s : State) (a b : Nat) : Bool :=
  let ka := (s.groupPri a, s.subPri a, a)
  let kb := (s.groupPri b, s.subPri b, b)
  ka.1 < kb.1 || (ka.1 = kb.1 && (ka.2.1 < kb.2.1 || (ka.2.1 = kb.2.1 && ka.2.2 < kb.2.2)))

/-- The source numbers the image defines. -/
def State.srcNums (s : State) : List Nat :=
  match s.img.active with
  | none => []
  | some g => g.sources.map (·.src)

/-- The source an acknowledge of a target selects (14 R426, R428). -/
def State.selectSrc (s : State) (t : Nat) : Option Nat :=
  (s.srcNums.filter (s.presentable t)).foldl
    (fun best k => match best with | none => some k | some b => if s.moreUrgent k b then some k else some b) none

/-- EVC_TSTAT_t.FROZEN (14 R433). -/
def State.frozen (s : State) (t : Nat) : Bool := s.is F.EVC_TSTAT_FROZEN t

/-- FULL: the stack holds 16 entries (14 R431). -/
def State.stackFull (s : State) (t : Nat) : Bool := Nat.ble 16 (s.stackOf t).length

/-- IRQ_N[t] is low (14 R427). -/
def State.irqLow (s : State) (t : Nat) : Bool :=
  (s.selectSrc t).isSome && !s.frozen t && !s.stackFull t

/-- The NMI sources pending for a target (14 R435, R436). -/
def State.nmiPending (s : State) (t : Nat) : List Nat :=
  s.srcNums.filter fun k => s.isNmi k && s.is F.EVC_SRC_CFG_EN k && bitOf (s.rd F.EVC_SRC_CFG_NMI_MASK k) t
    && s.is F.EVC_SRC_STATE_PEND k

/-- NMI_N[t] is low (14 R435). -/
def State.nmiLow (s : State) (t : Nat) : Bool := !(s.nmiPending t).isEmpty

/-- A deferred PRIGROUP takes effect once every stack is empty (14 R432). -/
def State.pgSettle (s : State) : State :=
  if s.is F.EVC_STATUS_PG_PEND && s.evt.evStk.all (·.isEmpty) then
    ((s.wr F.EVC_CTRL_PRIGROUP (s.vn .evtPg - 1)).wr F.EVC_STATUS_PG_PEND 0).setV .evtPg 0
  else s

/-- A popped source: ACTIVE clears and its level is sampled, PEND setting at once if it is 1 (14 R429). -/
def State.popped (s : State) (k : Nat) : State :=
  let s := s.wr F.EVC_SRC_STATE_ACTIVE 0 k
  s.when (s.srcLevel k) fun s => s.setPend k

/-- The codes that are always NMI sources (14 R435). -/
def alwaysNmi (code : Nat) : Bool := [0x48, 0x4A, 0x50, 0x58].contains code

/-! ### Background activities (01 R48 to R50), numbered in the order of R48 -/

/-- The period of an activity, in ns; droop calibration has none. -/
def bgPeriod (act : Nat) : Nat := [100000000, 1000000000, 0, 1000000, 10000000000, 1000000].getD act 0

/-- The late limit of an activity, in ns (01 R48); droop calibration has none and never runs here. -/
def bgLimit (act : Nat) : Nat := [200000000, 2000000000, 0, 2000000, 20000000000, 2000000].getD act 0

/-- Whether a pass of an activity has started and not finished. -/
def State.bgOpen (s : State) (act : Nat) : Bool := decide (0 ≤ s.v .bgAt act)

/-- Whether the next pass of an activity may start: its scheduled start has come and no pass is open (01 R48, R50). -/
def State.bgDue (s : State) (act : Nat) : Bool := !s.bgOpen act && Nat.ble (s.vn .bgNext act) s.time

/-- The scheduled start of the pass that has not finished, where there is one: an open pass, or one that is due (01 R50). A pass that
no state let run has no start of its own: the last period's start counts (log entry 133). -/
def State.bgSched (s : State) (act : Nat) : Option Nat :=
  if s.bgOpen act then some (s.vn .bgAt act)
  else if s.bgDue act then some (s.vn .bgNext act) else none

/-- A pass starts: its schedule is the last start on the activity's grid (01 R48). -/
def State.bgStart (s : State) (act : Nat) : State :=
  let n := s.vn .bgNext act
  let p := bgPeriod act
  s.setV .bgAt (n + (s.time - n) / p * p : Nat) act

/-- A pass finishes: the next is scheduled a period after its start, or after its end where it was late (01 R50). -/
def State.bgEnd (s : State) (act : Nat) : State :=
  let at0 := s.vn .bgAt act
  let next := if Nat.ble (at0 + bgLimit act) s.time then s.time + bgPeriod act else at0 + bgPeriod act
  ((s.setV .bgNext next act).setV .bgAt (-1) act).setV .bgLate 0 act

end Sys2Proof.Machine
end

