-- ==== Sys2Proof/Machine/Record.lean ====
section
/-!
DEFINITION. Records and rings (17 R511 to R519) and the record port (18 R547 to R551).
-/
namespace Sys2Proof.Machine

/-- The keep types (17 R512). -/
def keepType (t : Nat) : Bool := [3, 4, 6, 7].contains t

/-- The header of a record (17 R511) of ring sequence number q, with PASS of index i in a ring of n entries (17 R517). -/
def recHeader (r : Rec) (q i n : Nat) : List Byte :=
  leBytes 1 r.typ ++ leBytes 1 (b2n (i / n % 2 = 0)) ++ leBytes 1 r.ctx ++ leBytes 1 r.phase ++ leBytes 4 q ++ leBytes 8 r.time

/-- N, the entries of a ring (17 R517). -/
def State.recN (s : State) (n : Nat) : Nat := 2 ^ (s.rd F.REC_RING_A_SIZE n + 6)

/-- F, the free entries of a ring (17 R517). -/
def State.recFree (s : State) (n : Nat) : Nat :=
  s.recN n - (s.rd F.REC_RING_B_HEAD n + 2 ^ 32 - s.rd F.REC_RING_B_TAIL n) % 2 ^ 32

/-- Whether a record of a type may be written to a ring now (17 R517). -/
def State.recRoom (s : State) (n typ : Nat) : Bool :=
  Nat.blt (if keepType typ then 0 else 4) (s.recFree n)

/-- A record lost to a ring (17 R516, R517). -/
def State.recLost (s : State) (n typ : Nat) : State :=
  let s := s.incSat F.REC_RING_C_LOST 1 n
  let s : State := match s.ringLoss.find? (fun l => Nat.beq l.ring n) with
    | none => { s with ringLoss := s.ringLoss ++ [{ ring := n, count := 1, first := s.time, last := s.time, types := 2 ^ typ }] }
    | some _ => { s with ringLoss := s.ringLoss.map fun l =>
        if l.ring = n then { l with count := l.count + 1, last := s.time, types := Nat.lor l.types (2 ^ typ) } else l }
  let s := s.flag F.REC_RING_A_LOSS_SEEN n
  s.event 0x7B n

/-- The LOSS record of a ring (17 R516). -/
def State.lossRec (s : State) (l : RingLoss) : Rec :=
  { typ := 7, ctx := 0xFF, phase := 0xFF, time := s.time, rings := [],
    body := leBytes 4 l.ring ++ leBytes 4 (min (2 ^ 32 - 1) l.count) ++ leBytes 8 l.first ++ leBytes 8 l.last ++ leBytes 1 l.types
      ++ leBytes 23 0 }

/-- Address of a ring's next entry (17 R517). -/
def State.recAddr (s : State) (n : Nat) : Nat :=
  s.rd F.REC_RING_A_BASE n + 64 * (s.rd F.REC_RING_B_HEAD n % s.recN n)

/-- Issue the body of a record (18 R549). -/
def State.recIssue (s : State) (r : Rec) (n : Nat) : State :=
  ({ s with recFly := some { rcd := r, ring := n, hdr := false } }).emit (.recWrite (s.recAddr n + 16) r.body)

/-- The ring that takes a LOSS record now: a loss noted, EN 1 and an entry free (17 R517). -/
def State.lossReady (s : State) : Option RingLoss :=
  s.ringLoss.find? fun l => s.is F.REC_RING_A_EN l.ring && Nat.blt 0 (s.recFree l.ring)

/-- While the port is connected (19 R573) and free: a LOSS record goes ahead, else the oldest queued record's next ring; a record that the rules of
F or a disabled ring shut out is lost to that ring (17 R517, R518). -/
def State.recPump (s : State) (fuel : Nat) : State :=
  match fuel with
  | 0 => s
  | k + 1 =>
    if s.recFly.isSome || !Config.netlist.record then s
    else match s.lossReady with
      | some l =>
        let r := s.lossRec l
        ({ s with ringLoss := s.ringLoss.filter fun x => !Nat.beq x.ring l.ring }).recIssue r l.ring
      | none =>
        match s.recs with
        | [] => s
        | r :: rest =>
          match r.rings with
          | [] => State.recPump { s with recs := rest } k
          | n :: more =>
            let s : State := { s with recs := (if more.isEmpty then rest else { r with rings := more } :: rest) }
            if s.is F.REC_RING_A_EN n && s.recRoom n r.typ then s.recIssue r n
            else State.recPump (s.recLost n r.typ) k

/-- Run the record port, and show the queue's length. -/
def State.recRun (s : State) : State :=
  let s := s.recPump 256
  s.wr F.REC_STATUS_QUEUED s.recs.length

/-- The rings a type goes to (17 R519). -/
def State.recRoute (s : State) (typ : Nat) : List Nat :=
  let m := getBits (s.reg .REC_ROUTE) (4 * typ) 4
  (bitList m 4).filter fun n => s.is F.REC_RING_A_EN n

/-- Lose a record to each of a list of rings. -/
def State.recLostAll (s : State) (l : List Nat) (typ : Nat) : State :=
  s.each l fun s n => s.recLost n typ

/-- Write a record with a stamp (17 R518, R519): to the queue of 32, a keep type displacing the newest record of another
type when it is full. -/
def State.recordAt (s : State) (typ ctx phase time : Nat) (body : List Byte) : State :=
  let body := (body ++ List.replicate 48 (0 : Byte)).take 48
  let rings := s.recRoute typ
  if rings.isEmpty then s.incSat F.REC_STATUS_NOROUTE
  else
    let r : Rec := { typ := typ, ctx := ctx, phase := phase, time := time, body := body, rings := rings }
    let s : State :=
      if s.recs.length < 32 then { s with recs := s.recs ++ [r] }
      else
        match (if keepType typ then s.recs.reverse.findIdx? (fun x => !keepType x.typ) else none) with
        | some k =>
          let i := s.recs.length - 1 - k
          let old := s.recs.getD i r
          ({ s with recs := s.recs.eraseIdx i ++ [r] }).recLostAll old.rings old.typ
        | none => s.recLostAll rings typ
    s.recRun

/-- A record stamped now, with no context; a TRIP or FAIL record goes to the trip region as well (17 R525). -/
def State.record (s : State) (typ : Nat) (body : List Byte) : State :=
  let s := s.recordAt typ 0xFF 0xFF s.time body
  if typ = 3 ∨ typ = 4 then
    let r : Rec := { typ := typ, ctx := 0xFF, phase := 0xFF, time := s.time, body := [], rings := [] }
    (s.trcTrip typ (recHeader r 0 0 1 ++ (body ++ List.replicate 48 (0 : Byte)).take 48)).evtDrain 8
  else s

/-- PHASE of a slot for a record's header (17 R511). -/
def State.recPhase (s : State) (c : Nat) : Nat :=
  if s.is F.STR_CTX_IN_PHASE c then s.rd F.STR_CTX_PHASE c else 0xFF

/-- RECORD_WRITE_DONE (18 R549, R551): the outstanding write completes; a TRIP record written is the latest (18 R563). -/
def State.recDone (s : State) (err : Bool) : State :=
  match s.recFly with
  | none => s
  | some f =>
    let n := f.ring
    if err then
      let s : State := { s with recFly := none }
      let addr := s.recAddr n + (if f.hdr then 0 else 16)
      let s := s.recLost n f.rcd.typ
      let s := s.wr F.REC_RING_A_EN 0 n
      let s := ((s.wr F.REC_PERR_RING n).wr F.REC_PERR_ADDR addr).flag F.REC_PERR_FAULT_SEEN
      (s.event 0x8A n).recRun
    else if f.hdr then
      let h := recHeader f.rcd (s.rd F.REC_RING_C_SEQ n) (s.rd F.REC_RING_B_HEAD n) (s.recN n)
      let trip := if f.rcd.typ = 3 then h ++ f.rcd.body else s.fac.trip
      let s : State := { s with recFly := none, fac := { s.fac with trip := trip } }
      let s := s.incWrap F.REC_RING_B_HEAD 1 n
      let s := s.incWrap F.REC_RING_C_SEQ 1 n
      (s.incWrap F.REC_STATUS_WRITTEN).recRun
    else
      let i := s.rd F.REC_RING_B_HEAD n
      let h := recHeader f.rcd (s.rd F.REC_RING_C_SEQ n) i (s.recN n)
      ({ s with recFly := some { f with hdr := true } }).emit (.recWrite (s.recAddr n) h)

/-- RECORD_WRITE_DONE. -/
def execRecordWriteDone (t : Nat) (err : Bool) (s : State) : Host.Outcome State Fault Refusal :=
  .next ((s.start t).recDone err)

/-- Set REC_RING_n_A.EN (17 R517): HEAD, TAIL and SEQ to 0. -/
def State.ringEnable (s : State) (n : Nat) : State :=
  let s := ((s.wr F.REC_RING_B_HEAD 0 n).wr F.REC_RING_B_TAIL 0 n).wr F.REC_RING_C_SEQ 0 n
  (s.wr F.REC_RING_A_EN 1 n).recRun

end Sys2Proof.Machine
end

