-- ==== Sys2Proof/Machine/Channel.lean ====
section
/-!
DEFINITION. Channels (03): ends, message payloads, sending, the guard, the re-link exchange, fences. Messages leave in the
order sent; lane queues and handshakes are not modelled (log entry 8).
-/
namespace Sys2Proof.Machine

/-- The register of an end (03 R110). -/
def endReg : ChEnd → Reg
  | .hub _ => .HUB_CHAN
  | .node _ _ => .NODE_CHAN
  | .leaf _ => .LEAF_CHAN

/-- First index of an end's register. -/
def endI : ChEnd → Nat
  | .hub k => k
  | .node n _ => n
  | .leaf n => n

/-- Second index of an end's register. -/
def endJ : ChEnd → Nat
  | .node _ j => j
  | _ => 0

/-- One number for each end, the index of the per-end variables. -/
def endNum : ChEnd → Nat
  | .hub k => k
  | .node n j => 1000 + 65 * n + j
  | .leaf n => 10000 + n

/-- The domain whose end this is. -/
def endDom : ChEnd → Nat
  | .hub _ => hubDom
  | .node n _ => nodeDom n
  | .leaf n => leafDom n

/-- Whether an end is a parent end (03). -/
def endIsParent : ChEnd → Bool
  | .hub _ => true
  | .node _ j => !Nat.beq j 0
  | .leaf _ => false

/-- A field of CHAN_STATUS at an end, named by the hub's layout, which all ends share (03 R110). -/
def State.ch (s : State) (e : ChEnd) (f : Fld) : Nat :=
  s.rd { f with r := endReg e } (endI e) (endJ e)

/-- Set a field of CHAN_STATUS. -/
def State.chW (s : State) (e : ChEnd) (f : Fld) (v : Nat) : State :=
  s.wr { f with r := endReg e } v (endI e) (endJ e)

/-- Hardware sets a W1C bit of CHAN_STATUS (00 R21). -/
def State.chFlag (s : State) (e : ChEnd) (f : Fld) : State := s.flag { f with r := endReg e } (endI e) (endJ e)

/-- Add to a saturating counter of CHAN_STATUS. -/
def State.chInc (s : State) (e : ChEnd) (f : Fld) (d : Nat := 1) : State :=
  s.incSat { f with r := endReg e } d (endI e) (endJ e)

/-- States of an end (03 R95). -/
abbrev Ch.down : Nat := 0
abbrev Ch.linking : Nat := 1
abbrev Ch.up : Nat := 2
abbrev Ch.fencing : Nat := 3
abbrev Ch.fenced : Nat := 4

/-- STATE of an end. -/
def State.chSt (s : State) (e : ChEnd) : Nat := s.ch e F.HUB_CHAN_STATE

/-- The child domain of a parent end: the child at its TREE position (03 R110). -/
def State.endChild (s : State) (e : ChEnd) : Option Nat :=
  match e with
  | .hub k => if k = 0 then none else (s.children hubDom)[k - 1]?
  | .node n j => if j = 0 then none else (s.children (nodeDom n))[j - 1]?
  | .leaf _ => none

/-- The child end of a domain's parent channel. -/
def childEnd (d : Nat) : ChEnd :=
  if isLeaf d then .leaf (domNum d) else .node (domNum d) 0

/-- The parent end of a domain's parent channel. -/
def State.parentEnd (s : State) (d : Nat) : ChEnd :=
  let p := s.parent d
  if p = hubDom then .hub (s.childPos d) else .node (domNum p) (s.childPos d)

/-- The other end of an end's channel. -/
def State.farEnd (s : State) (e : ChEnd) : Option ChEnd :=
  if endIsParent e then (s.endChild e).map childEnd
  else if s.hasDom (endDom e) then some (s.parentEnd (endDom e)) else none

/-- The parent ends of a domain's child channels, in TREE order. -/
def State.childEnds (s : State) (d : Nat) : List ChEnd :=
  (List.range (s.children d).length).map fun k => if d = hubDom then .hub (k + 1) else .node (domNum d) (k + 1)

/-- A payload from (lowest bit, width, value) triples. -/
def pack (l : List (Nat × Nat × Nat)) : Nat :=
  l.foldl (fun acc f => acc + 2 ^ f.1 * (f.2.2 % 2 ^ f.2.1)) 0

/-- Message types (03 R85). -/
abbrev Mt.hello : Nat := 0
abbrev Mt.helloAck : Nat := 1
abbrev Mt.fence : Nat := 2
abbrev Mt.fenceAck : Nat := 3
abbrev Mt.syncMsg : Nat := 4
abbrev Mt.budget : Nat := 5
abbrev Mt.timeMsg : Nat := 6
abbrev Mt.estimate : Nat := 7
abbrev Mt.measure : Nat := 8
abbrev Mt.event : Nat := 9
abbrev Mt.cmdReq : Nat := 10
abbrev Mt.cmdData : Nat := 11
abbrev Mt.cmdRsp : Nat := 12
abbrev Mt.param : Nat := 13
abbrev Mt.counter : Nat := 14

/-- Whether an end may send a type now (03 R95 to R97, R102): only HELLO and HELLO_ACK in DOWN and LINKING; no CMD_REQ,
CMD_DATA or PARAM at a parent end after its FENCE. -/
def State.canSend (s : State) (e : ChEnd) (typ : Nat) : Bool :=
  let st := s.chSt e
  if typ ≤ 1 then true
  else if st = Ch.up then true
  else if st = Ch.fencing || st = Ch.fenced then !(typ = Mt.cmdReq || typ = Mt.cmdData || typ = Mt.param)
  else false

/-- Queue a message on an end's lane (03 R92). -/
def State.laneAdd (s : State) (m : LaneMsg) : State := { s with lanes := s.lanes ++ [m] }

/-- Put a message on an end's lane, tagged with its epoch (03 R85). -/
def State.put (s : State) (e : ChEnd) (typ payload : Nat) : State :=
  let tag := s.ch e F.HUB_CHAN_EPOCH % 16
  (s.emit (.msg e typ tag payload)).laneAdd { chEnd := e, typ := typ, tag := tag, payload := payload, follows := false }

/-- What an end has queued is discarded (03 R98). -/
def State.laneDrop (s : State) (e : ChEnd) : State :=
  State.setV { s with lanes := s.lanes.filter fun m => !(m.chEnd = e) } .laneBulk 0 (endNum e)

/-- The class of a message type (03 R85). -/
def typClass (typ : Nat) : Nat := if typ ≤ 3 then 0 else if typ ≤ 5 then 1 else if typ ≤ 8 then 2 else 3

/-- The oldest message of a class on a lane, unless it must follow a CMD_RSP of its island that still waits (03 R92, R98). -/
def laneFirst (all q : List LaneMsg) (c : Nat) : Option LaneMsg :=
  match q.find? fun m => typClass m.typ = c with
  | some m =>
    if m.follows && (all.takeWhile fun x => !(x = m)).any (fun x => x.typ = Mt.cmdRsp && Nat.beq (endDom x.chEnd) (endDom m.chEnd)) then none
    else some m
  | none => none

/-- The message that a free lane takes (03 R92): the oldest of the lowest class, or a bulk message that has waited for 16 others. -/
def lanePick (all q : List LaneMsg) (n : Nat) : Option LaneMsg :=
  match (if Nat.ble 16 n then laneFirst all q 3 else none) with
  | some m => some m
  | none => [0, 1, 2, 3].findSome? fun c => laneFirst all q c

/-- An end sends the next message of its lane (03 R92). -/
def State.laneSend (s : State) (e : ChEnd) : State :=
  let q := s.lanes.filter fun m => m.chEnd = e
  match lanePick s.lanes q (s.vn .laneBulk (endNum e)) with
  | none => s
  | some m =>
    let s : State := { s with lanes := s.lanes.erase m }
    let waits := typClass m.typ ≠ 3 && q.any fun x => typClass x.typ = 3
    (s.setV .laneBulk (if waits then s.v .laneBulk (endNum e) + 1 else 0) (endNum e)).emit (.wire e m.typ m.tag m.payload)

/-- A round in which no command waits (log entry 1): every lane that holds a message sends one (03 R92). -/
def State.laneRound (s : State) : State :=
  if s.lanes.isEmpty then s
  else State.each { s with out := [] } ((s.lanes.map (·.chEnd)).eraseDups) fun s e => s.laneSend e

/-- Send a message at an end; the guard of a parent end counts one it drops (03 R99). -/
def State.send (s : State) (e : ChEnd) (typ payload : Nat) : State :=
  if s.canSend e typ then s.put e typ payload
  else if endIsParent e then s.chInc e F.HUB_CHAN_ABSENT_REPLIES else s

/-- Send a message down to a child domain; false where its guard drops it and reports E_ABSENT (03 R99). -/
def State.sendDown (s : State) (d typ payload : Nat) : Bool × State :=
  let e := s.parentEnd d
  (s.canSend e typ, s.send e typ payload)

/-- Send a message from a domain to its parent. -/
def State.sendUp (s : State) (d typ payload : Nat) : State :=
  s.send (childEnd d) typ payload

/-- Whether a received message is delivered: the tag is the epoch's and the end is UP, FENCING or FENCED (03 R97). -/
def State.delivers (s : State) (e : ChEnd) (tag : Nat) : Bool :=
  Nat.beq (tag % 16) (s.ch e F.HUB_CHAN_EPOCH % 16) && Nat.ble 2 (s.chSt e)

/-- Deliver a message, or drop it and count it in STALE_DROPS (03 R97). -/
def State.deliver (s : State) (e : ChEnd) (tag : Nat) (f : State → State) : State :=
  if s.delivers e tag then f s else s.chInc e F.HUB_CHAN_STALE_DROPS

/-- Whether every channel end from the hub to a domain is UP (18 R538). -/
def State.pathUpTo (s : State) (d : Nat) : Bool :=
  s.hasDom d && (s.path d).all fun x => Nat.beq (s.chSt (s.parentEnd x)) Ch.up && Nat.beq (s.chSt (childEnd x)) Ch.up

/-- Whether a child is present: mapped, not dropped, and its parent end UP, FENCING or FENCED (03 R95, R99). -/
def State.childUp (s : State) (d : Nat) : Bool :=
  Nat.ble 2 (s.chSt (s.parentEnd d))

/-- The next domain on the way from a domain down to another. -/
def State.hop (s : State) (x d : Nat) : Option Nat :=
  (s.path d).find? fun y => Nat.beq (s.parent y) x

/-- The payload of an EVENT message of kind LEVEL (14 R423). -/
def eventPayload (code inst detail : Nat) (lvl : Bool) : Nat :=
  pack [(52, 8, code), (51, 1, b2n lvl), (32, 16, inst), (0, 32, detail)]

/-- An island reports an event or a flag's change to its parent; the hub raises its own at once (14 R423, R424). -/
def State.evFrom (s : State) (d code inst : Nat) (detail : Nat := 0) (lvl : Bool := true) : State :=
  if d = hubDom then (if lvl then s.eventD code inst detail else s.evtClear code inst)
  else s.sendUp d Mt.event (eventPayload code inst detail lvl)

/-- The hub's local domain number that an event of an end names: the child's domain ID (03 R85, R95). -/
def State.endInst (s : State) (e : ChEnd) : Nat :=
  if endIsParent e then (s.endChild e).getD 0xFFFF else endDom e

/-- The payload of HELLO and HELLO_ACK (03 R87). -/
def State.helloPayload (s : State) (e : ChEnd) (epoch reason : Nat) : Nat :=
  let d := endDom e
  let phys := match s.dom? d with | some r => r.phys | none => 0
  pack [(0, 16, epoch), (16, 10, phys), (26, 2, if isLeaf d then 2 else if isNode d then 1 else 0), (32, 8, reason)]

/-- Send HELLO with the present epoch (03 R96). -/
def State.sayHello (s : State) (e : ChEnd) (reason : Nat) : State :=
  (s.put e Mt.hello (s.helloPayload e (s.ch e F.HUB_CHAN_EPOCH) reason)).setV .chReason reason (endNum e)

/-- Answer the far end's HELLO (03 R96), with the REASON of the exchange (03 R87). -/
def State.helloAck (s : State) (e : ChEnd) (far : Nat) : State :=
  let new := (max (s.ch e F.HUB_CHAN_EPOCH) far + 1) % 65536
  (s.put e Mt.helloAck (s.helloPayload e new (s.vn .chReason (endNum e)))).setV .chAckSent (new + 1) (endNum e)

/-- Take a HELLO that came in DOWN (03 R95). -/
def State.helloStored (s : State) (e : ChEnd) : State :=
  let h := s.vn .chHello (endNum e)
  if h = 0 then s else (s.setV .chHello 0 (endNum e)).helloAck e (h - 1)

/-- Show the number of pending entries of an end (03 R110). -/
def State.pendSync (s : State) (e : ChEnd) : State :=
  s.chW e F.HUB_CHAN_PENDING (s.chan.pend.filter fun p => p.chEnd = e).length

/-- Enter a request in an end's pending table (03 R100). -/
def State.pendAdd (s : State) (e : ChEnd) (r : CmdReq) (src : CmdSrc) : State :=
  State.pendSync { s with chan := { s.chan with pend := s.chan.pend ++ [{ chEnd := e, req := r, time := s.time, src := src }] } } e

/-- The entry of a REQID at an end. -/
def State.pend? (s : State) (e : ChEnd) (reqid : Nat) : Option CmdPend :=
  s.chan.pend.find? fun p => p.chEnd = e && Nat.beq p.req.reqid reqid

/-- The payload of CMD_REQ (03 R89). -/
def cmdPayload (r : CmdReq) : Nat :=
  pack [(48, 16, r.dest), (40, 8, r.reqid), (37, 3, r.op), (0, 24, r.off)]

/-- Whether an OP is a write (03 R89). -/
def opWrites (op : Nat) : Bool := op = 2 || op = 3

/-- Send a request, with the data of a write, and enter it in the pending table (03 R89, R100). -/
def State.cmdSend (s : State) (e : ChEnd) (r : CmdReq) (data : Nat) (src : CmdSrc) : State :=
  let s := s.pendAdd e r src
  let s := s.put e Mt.cmdReq (cmdPayload r)
  if opWrites r.op then s.put e Mt.cmdData data else s

/-- Whether a parent end's pending table of 32 entries is full (03 R100). -/
def State.pendFull (s : State) (e : ChEnd) : Bool := Nat.ble 32 (s.chan.pend.filter fun p => p.chEnd = e).length

/-- Forward a request at a parent end that can take it (03 R89, R100); it waits for room where the table is full. -/
def State.cmdForward (s : State) (e : ChEnd) (r : CmdReq) (data : Nat) (src : CmdSrc) : State :=
  if s.pendFull e then
    let w : CmdWait := { pend := { chEnd := e, req := r, time := s.time, src := src }, data := data }
    { s with chan := { s.chan with wait := s.chan.wait ++ [w] } }
  else s.cmdSend e r data src

/-- The lowest REQID that an end has neither pending nor in quarantine (03 R100; log entry 22). -/
def State.freeReqid (s : State) (e : ChEnd) : Nat :=
  ((List.range 256).find? fun k => (s.pend? e k).isNone && !s.chan.quar.contains (e, k)).getD 0

/-- The oldest request that waits at an end leaves, where there is room (03 R100). -/
def State.cmdNext (s : State) (e : ChEnd) : State :=
  match s.chan.wait.find? fun w => w.pend.chEnd = e with
  | none => s
  | some w =>
    if s.canSend e Mt.cmdReq && !s.pendFull e then
      let s : State := { s with chan := { s.chan with wait := s.chan.wait.erase w } }
      let r := if w.pend.src = .relay then w.pend.req else { w.pend.req with reqid := s.freeReqid e }
      s.cmdSend e r w.data w.pend.src
    else s

/-- Retire an entry by REQID (03 R101); a request that waits may take its place. -/
def State.pendDrop (s : State) (e : ChEnd) (reqid : Nat) : State :=
  (State.pendSync { s with chan := { s.chan with pend := s.chan.pend.filter fun p => !(p.chEnd = e && Nat.beq p.req.reqid reqid) } } e).cmdNext e

/-- A command of the hub to an island: the guard on the way answers E_ABSENT (false), or the command leaves (03 R86, R99). -/
def State.hubCmd (s : State) (dest op off data : Nat) (src : CmdSrc) : Bool × State :=
  match s.hop hubDom dest with
  | none => (false, s)
  | some c =>
    let e := s.parentEnd c
    if s.canSend e Mt.cmdReq then
      (true, s.cmdForward e { dest := dest, reqid := s.freeReqid e, op := op, off := off } data src)
    else (false, s.chInc e F.HUB_CHAN_ABSENT_REPLIES)

/-- The byte offset of an island register in its window (19 R568). -/
def islOff (r : Reg) (j : Nat) : Nat := regAddr r 0 j % 0x1000

/-- The hub's own 64-bit write of an island register (03 R89). -/
def State.hubWrite (s : State) (dest : Nat) (r : Reg) (j data : Nat) : State :=
  (s.hubCmd dest 3 (islOff r j) data .own).2

/-- The payload of CMD_RSP (03 R90). -/
def rspPayload (src reqid : Nat) (st : Status) : Nat :=
  pack [(48, 16, src), (40, 8, reqid), (32, 8, st.code)]

/-- FENCE payload (03 R88). -/
def fencePayload (scope id : Nat) : Nat := pack [(0, 1, scope), (8, 8, id)]

/-- Issue a FENCE at a parent end (03 R95, R102): true where it completes at once, with its status. -/
def State.fenceAt (s : State) (e : ChEnd) (scope : Nat) : Option Status × State :=
  match s.chSt e with
  | 0 => (some .ok, s)
  | 1 => (some .eAbsent, s)
  | 2 =>
    let d := endDom e
    let id := s.vn .chFenceSeq d % 256
    let s := s.setV .chFenceSeq (id + 1) d
    let s := s.put e Mt.fence (fencePayload scope id)
    let s := (s.setV .chFence (id + 1) (endNum e)).setV .chFenceAt s.time (endNum e)
    (none, s.chW e F.HUB_CHAN_STATE Ch.fencing)
  | 3 => (none, s)
  | _ => (some .ok, s)

/-- Resume a channel in FENCED: HELLO with REASON 0x03, and the exchange of R96 (03 R95). -/
def State.resumeEnd (s : State) (e : ChEnd) : State :=
  if s.chSt e = Ch.fenced then
    let s := s.chW e F.HUB_CHAN_STATE Ch.linking
    let s := (s.setV .chAckSent 0 (endNum e)).setV .chAckRcvd 0 (endNum e)
    s.sayHello e 3
  else s

/-- The island in whose window an address lies (19 R568): a node engine or a leaf agent. -/
def addrIsland (a : Nat) : Option Nat :=
  if Nat.ble 0x10_0000 a && Nat.blt a 0x14_0000 then some (nodeDom ((a - 0x10_0000) / 0x1000))
  else if Nat.ble 0x40_0000 a && Nat.blt a 0x60_0000 then some (leafDom ((a - 0x40_0000) / 0x1000))
  else none

/-- The indices of a register at an 8-byte-aligned address, or none (19 R568). -/
def placeIndex (p : Place) (a : Nat) : Option (Nat × Nat) :=
  if Nat.blt a p.base then none
  else
    let d := a - p.base
    let i := if p.s1 = 0 then 0 else d / p.s1
    let e := if p.s1 = 0 then d else d % p.s1
    let j := if p.s2 = 0 then 0 else e / p.s2
    let f := if p.s2 = 0 then e else e % p.s2
    if f = 0 && Nat.ble p.lo1 i && Nat.blt i (p.lo1 + p.n1) && Nat.ble p.lo2 j && Nat.blt j (p.lo2 + p.n2) then some (i, j) else none

/-- The register at an address: none where the offset is reserved (00 R20; 19 R568). -/
def decodeAddr (a : Nat) : Option (Reg × Nat × Nat) :=
  let w := a / 8 * 8
  Reg.all.findSome? fun r => (placeIndex r.place w).map fun x => (r, x.1, x.2)

/-- The half of a word that a 32-bit access selects, in its place; the word of a 64-bit access (00 R17). -/
def halfOf (a : Nat) (wide : Bool) (w : Word) : Word :=
  if wide then w else if a % 8 = 4 then w &&& 0xFFFF_FFFF_0000_0000 else w &&& 0xFFFF_FFFF

/-- The mask of a register's fields with one of some access codes. -/
def Reg.mask (r : Reg) (p : Acc → Bool) : Word :=
  r.rows.foldl (fun m f => if p f.acc then m ||| maskBits f.lsb f.w else m) 0

/-- Whether a code is one whose value a write sets (RW, RWL). -/
def accSets (a : Acc) : Bool := a = .RW || a = .RWL

/-- A word after a write to the fields that take their values from one (00 R17, R19). -/
def putWord (r : Reg) (a : Nat) (wide : Bool) (old new : Word) : Word :=
  let m := halfOf a wide (r.mask accSets)
  (old &&& ~~~m) ||| (new &&& m)

/-- RESERVED_TYPE_MESSAGE (03 R85): the message is dropped and CHAN_PROTO raised (0x05). -/
def execReservedTypeMessage (t : Nat) (e : ChEnd) (s : State) : Host.Outcome State Fault Refusal :=
  let s := s.start t
  .next (s.evFrom (endDom e) 0x05 (s.endInst e))

end Sys2Proof.Machine
end

