-- ==== Sys2Proof/Machine/Estimate.lean ====
section
/-!
DEFINITION. Estimation and measurement (04): the leaf's slot estimate, leakage, reports, the sums of node engines and the hub,
attribution, KNEAD.
-/
namespace Sys2Proof.Machine

/-! ### The leaf's model -/

/-- The COEFF_c item of a leaf (04 R119). -/
def State.coeff? (s : State) (leaf c : Nat) : Option (List Byte) := s.item? Sec.estCoeff (0x100 + c) leaf

/-- The LEAKAGE table of a leaf and rail (04 R121). -/
def State.leakTab? (s : State) (leaf r : Nat) : Option (List Byte) := s.item? Sec.leakage (0x100 + r) leaf

/-- The bindings (class, rail, group, energy in units of 2^-31 pJ) of a leaf (04 R119). -/
def State.bindings (s : State) (leaf : Nat) : List (Nat × Nat × Nat × Int) :=
  (List.range 0x15).flatMap fun c =>
    match s.coeff? leaf c with
    | none => []
    | some v =>
      let e (m sh : Nat) : Int := toSigned 32 (fieldAt v m 4) * (2 ^ (31 - fieldAt v sh 1) : Nat)
      let a := (c, fieldAt v 0 1, fieldAt v 1 1, e 8 4)
      if fieldAt v 2 1 = 0xFF then [a] else [a, (c, fieldAt v 2 1, fieldAt v 3 1, e 12 5)]

/-- The rails a leaf estimates for, in ascending order, at most 4 (04 R118). -/
def State.leafRails (s : State) (leaf : Nat) : List Nat :=
  let bs := s.bindings leaf
  ((List.range 32).filter fun r => bs.any (fun b => Nat.beq b.2.1 r) || (s.leakTab? leaf r).isSome).take 4

/-- The rail slot of a rail at a leaf (04 R118). -/
def State.railSlot (s : State) (leaf r : Nat) : Option Nat := (s.leafRails leaf).findIdx? fun x => Nat.beq x r

/-- V_r of rail slot k at a leaf, the register LEAF_VREF (04 R117). -/
def State.leafV (s : State) (leaf k : Nat) : Nat := getBits (s.reg .LEAF_VREF leaf) (16 * k) 12

/-- VREF (04 R119). -/
def State.vref (s : State) : Nat := s.par Sec.estCoeff 0x0001 idxAll 0 2 0x640

/-- q of R115 (04). -/
def State.estQ (s : State) (leaf k : Nat) : Nat :=
  (roundDiv (65536 * s.leafV leaf k ^ 2 : Nat) (s.vref ^ 2)).toNat

/-- Theta of rail slot k and group g that a leaf has adopted (04 R140). -/
def State.leafTheta (s : State) (leaf k g : Nat) : Nat :=
  if g < 4 then getBits (s.reg .LEAF_THETA_LO leaf k) (16 * g) 16 else getBits (s.reg .LEAF_THETA_HI leaf k) (16 * (g - 4)) 16

/-- The counts of a report, for a port that the leaf owns (04 R111, R112; 17 R496; 20 R587). The tag of a stack port is that of its
bytes: its REFRESH count carries none (log entry 135). -/
def State.repActs (s : State) (leaf : Nat) (x : Rep) : List Act :=
  let one (src : ActSrc) (c n : Nat) : Act := { cls := c, n := x.n * n, src := src, time := x.time }
  let l : List Act := match x.rep with
    | .gate p b vcnt fmt zskip toggle bubble wload _ =>
      let a := one (.gate p b)
      let v := vcnt % 16
      if (s.portsOf 3 leaf).contains p then
        [a (fmt % 8) v, a 0x08 (v * (bitList toggle 16).length), a 0x09 (if v = 0 then 0 else zskip % 256), a 0x0A (bubble % 16),
          a 0x0C (8 * (wload % 256))]
      else []
    | .clk p => if (s.portsOf 3 leaf).contains p then [one (.gate p false) 0x0B 1] else []
    | .core p ccyc cvec ctx =>
      if (s.portsOf 4 leaf).contains p then [one (.core p ctx) 0x13 (ccyc % 16), one (.core p ctx) 0x14 (cvec % 16)] else []
    | .stack p b rf ctx =>
      if (s.portsOf 5 leaf).contains p then [one (.input ctx) 0x0F (64 * (b % 256)), one (.input none) 0x10 (rf % 4)] else []
    | .bytes k n ctx => [one (.input ctx) ([0x0D, 0x0E, 0x11, 0x12].getD (k % 4) 0x0D) (16 * (n % 256))]
  l.filter fun a => Nat.blt 0 a.n

/-- The counts of the reports that have come by the present stamp. -/
def State.repsActs (s : State) (leaf : Nat) (reps : List Rep) : List Act :=
  (reps.filter fun x => Nat.ble x.time s.time).flatMap fun x => s.repActs leaf x

/-- The last activity of a leaf's gates, by its reports: a row, or BUSY high (09 R269). -/
def State.repMark (s : State) (leaf : Nat) (reps : List Rep) : State :=
  s.each (reps.filter fun x => Nat.ble x.time s.time) fun s x =>
    match x.rep with
    | .gate p _ vcnt _ _ _ _ _ busy =>
      s.when (busy || Nat.blt 0 (vcnt % 16)) fun s => s.setV .gateActAt (max (s.v .gateActAt leaf p) (x.time + 1 : Nat)) leaf p
    | _ => s

/-- The count of a class in a slot, saturating (04 R111). -/
def slotCount (acts : List Act) (c : Nat) : Nat :=
  min (2 ^ 32 - 1) (sumNat ((acts.filter fun a => Nat.beq a.cls c).map (·.n)))

/-- D_g of a leaf and rail in a slot, in units of 2^-31 pJ (04 R115 step 1). -/
def groupSum (bs : List (Nat × Nat × Nat × Int)) (acts : List Act) (r g : Nat) : Int :=
  sumInt ((bs.filter fun b => Nat.beq b.2.1 r && Nat.beq b.2.2.1 g).map fun b => b.2.2.2 * (slotCount acts b.1 : Int))

/-- A sensor site's latest valid conversion, which stands for 40 µs (11 R339). -/
def State.siteTemp? (s : State) (site : Nat) : Option Int :=
  if s.is F.TS_CTRL_EN site && decide (0 ≤ s.v .tsGoodAt site) && decide ((s.time : Int) < s.v .tsGoodAt site + 40000) then
    some (s.v .tsGood site)
  else none

/-- The highest of a list of temperatures. -/
def maxInt? (l : List Int) : Option Int :=
  l.foldl (fun b x => match b with | none => some x | some y => some (max x y)) none

/-- The leakage temperature of a leaf for a rail, and whether it is the fallback (04 R122). -/
def State.leakTemp (s : State) (leaf r : Nat) : Int × Bool :=
  let own := (s.instsOf 7 (leafDom leaf)).filterMap fun x => s.siteTemp? x.logical
  match maxInt? own with
  | some t => (t, false)
  | none =>
    let site := match s.leakTab? leaf r with | some v => fieldAt v 0 2 | none => 0xFFFF
    match s.siteTemp? site with
    | some t => (t, false)
    | none => (s.parI Sec.estCoeff 0x000A leaf 0 2 0x1A40, true)

/-- Where a value lies on an ascending axis: the lower point's index and the weight in 1/65,536, clamped at the ends
(04 R123). -/
def axisPos (axis : List Int) (x : Int) : Nat × Int :=
  let n := axis.length
  if x ≤ axis.getD 0 0 then (0, 0)
  else if axis.getD (n - 1) 0 ≤ x then (n - 2, 65536)
  else
    let i := (axis.filter fun a => decide (a ≤ x)).length - 1
    let a := axis.getD i 0
    let b := axis.getD (i + 1) 0
    (i, roundDiv ((x - a) * 65536) (b - a).natAbs)

/-- S(l, r), by bilinear interpolation (04 R123). -/
def State.leakEval (s : State) (leaf r v : Nat) : Nat :=
  match s.leakTab? leaf r with
  | none => 0
  | some tab =>
    let ta := (List.range 8).map fun i => toSigned 16 (fieldAt tab (8 + 2 * i) 2)
    let va := (List.range 4).map fun i => (fieldAt tab (0x18 + 2 * i) 2 : Int)
    let (i, wt) := axisPos ta (s.leakTemp leaf r).1
    let (j, wv) := axisPos va v
    let e (a b : Nat) : Int := (fieldAt tab (0x20 + 4 * (4 * a + b)) 4 : Nat)
    let lo := e i j * (65536 - wv) + e i (j + 1) * wv
    let hi := e (i + 1) j * (65536 - wv) + e (i + 1) (j + 1) * wv
    (roundDiv (lo * (65536 - wt) + hi * wt) (2 ^ 32)).toNat

/-- LEAKAGE_EVAL: a leaf forms S for each of its rails (04 R123). -/
def State.leakUpdate (s : State) (leaf : Nat) : State :=
  s.each (s.leafRails leaf).zipIdx fun s rk =>
    let s := s.when (s.leakTemp leaf rk.1).2 fun s => s.flag F.LEAF_EST_STATUS_TEMP_FALLBACK leaf
    s.wrSat F.LEAF_EST_STATIC (s.leakEval leaf rk.1 (s.leafV leaf rk.2)) leaf rk.2

/-- P(l, r, k) of R114 in the order of R115: the dynamic sum before its clamp, and the estimate in mW. -/
def State.slotEst (s : State) (leaf r k : Nat) (bs : List (Nat × Nat × Nat × Int)) (acts : List Act) : Int × Nat :=
  let d := sumInt ((List.range 8).map fun g => if g = 0 then 0 else groupSum bs acts r g * (s.leafTheta leaf k g : Int))
  let d0 : Int := max d 0
  let st := (s.leafTheta leaf k 0 * s.rd F.LEAF_EST_STATIC leaf k : Nat)
  let num : Int := d0 * (s.estQ leaf k : Int) + (st * 2 ^ 53 : Nat)
  (d, min 33554431 (roundDiv num (2 ^ 67)).toNat)

/-- THETA_ADOPT: at the slot boundary a leaf adopts a pair whose HI word has come (04 R140). -/
def State.thetaAdopt (s : State) (leaf k : Nat) : State :=
  if s.v .estThNew leaf k = 1 then
    let s := s.when (s.v .estThLoNew leaf k = 1) fun s => s.setReg .LEAF_THETA_LO (BitVec.ofNat 64 (s.vn .estThLo leaf k)) leaf k
    let s := s.setReg .LEAF_THETA_HI (BitVec.ofNat 64 (s.vn .estThHi leaf k)) leaf k
    (s.setV .estThNew 0 leaf k).setV .estThLoNew 0 leaf k
  else s

/-- A write of LEAF_THETA_k_LO or HI by the hub (04 R140). -/
def State.thetaWrite (s : State) (leaf k : Nat) (hi : Bool) (w : Nat) : State :=
  if hi then (s.setV .estThHi w leaf k).setV .estThNew 1 leaf k
  else (s.setV .estThLo w leaf k).setV .estThLoNew 1 leaf k

/-- The payload of ESTIMATE (03 R91). -/
def estPayload (ra rb slot ea eb : Nat) : Nat :=
  pack [(59, 5, ra), (54, 5, rb), (50, 4, slot), (25, 25, eb), (0, 25, ea)]

/-- Values by rail, two at a time: (rail A, value A, rail B or 0x1F, value B). -/
def railPairs : List (Nat × Nat) → List (Nat × Nat × Nat × Nat)
  | [] => []
  | [a] => [(a.1, a.2, 0x1F, 0)]
  | a :: b :: r => (a.1, a.2, b.1, b.2) :: railPairs r

/-- Send estimates of a slot upward (03 R91, 04 R116). -/
def State.sendEst (s : State) (d slot : Nat) (l : List (Nat × Nat)) : State :=
  s.each (railPairs l) fun s p => s.sendUp d Mt.estimate (estPayload p.1 p.2.2.1 slot p.2.1 p.2.2.2)

/-- Slot k closes at a leaf: estimates, sums for the reports, ESTIMATE messages, adoption (04 R113 to R116, R129). -/
def State.leafSlot (s : State) (leaf slot : Nat) (acts : List Act) : State :=
  let bs := s.bindings leaf
  let rails := s.leafRails leaf
  let j := 64 * slot / 1000
  let w := 64 * slot / 1000000
  let s := s.when ((List.range 0x15).any fun c => Nat.ble (2 ^ 32) (sumNat ((acts.filter fun a => Nat.beq a.cls c).map (·.n))))
    fun s => s.flag F.LEAF_EST_STATUS_COUNT_SAT leaf
  let s := s.each rails.zipIdx fun s rk =>
    let (r, k) := rk
    let (d, p) := s.slotEst leaf r k bs acts
    let s := s.when (decide (d < 0)) fun s => s.flag F.LEAF_EST_STATUS_NEG_CLAMP leaf
    let s := s.wr F.LEAF_EST_EST p leaf k
    let s := s.addV .estSum p leaf (k + 4 * j)
    let s := s.addV .estWin 1 leaf (k + 4 * w)
    let q : Int := s.estQ leaf k
    s.each (List.range 8) fun s g =>
      let x : Int := if g = 0 then 64 * (s.rd F.LEAF_EST_STATIC leaf k : Int) * (2 ^ 47 : Nat) else groupSum bs acts r g * q
      s.addV .estGrp x leaf (8 * k + g + 32 * w)
  let s := s.addV .estSlots 1 leaf j
  let s := s.wr F.LEAF_EST_STATUS_SLOT slot leaf
  let s := s.sendEst (leafDom leaf) slot (rails.zipIdx.map fun rk => (rk.1, s.rd F.LEAF_EST_EST leaf rk.2))
  s.each (List.range 4) fun s k => s.thetaAdopt leaf k

/-- The payload of an INTERVAL report (04 R128). -/
def intervalPayload (leaf ra rb seq pa pb : Nat) : Nat :=
  pack [(53, 9, leaf), (48, 5, ra), (43, 5, rb), (39, 4, seq), (18, 18, pa), (0, 18, pb)]

/-- The payload of a GROUP report (04 R128). -/
def groupPayload (nleaf rail g seq : Nat) (e : Int) : Nat :=
  pack [(62, 2, 1), (52, 10, nleaf), (47, 5, rail), (44, 3, g), (40, 4, seq), (0, 32, ofSigned 32 (satS 32 e))]

/-- The groups bound on a rail at a leaf, group 0 included (04 R129). -/
def State.leafGroups (s : State) (leaf r : Nat) : List Nat :=
  let bs := s.bindings leaf
  (List.range 8).filter fun g => g = 0 || bs.any fun b => Nat.beq b.2.1 r && Nat.beq b.2.2.1 g

/-- The INTERVAL reports of interval j at a leaf: the mean over the slots that start in it (04 R129). -/
def State.leafInterval (s : State) (leaf j : Nat) : State :=
  let n := s.vn .estSlots leaf j
  let l := (s.leafRails leaf).zipIdx.map fun rk => (rk.1, satU 18 (roundDiv (s.v .estSum leaf (rk.2 + 4 * j)) (8 * n)))
  s.each (railPairs l) fun s p =>
    s.sendUp (leafDom leaf) Mt.measure (intervalPayload leaf p.1 p.2.2.1 j p.2.1 p.2.2.2)

/-- The sums of interval j and of those before it are done. -/
def State.intervalDone (s : State) (leaf j : Nat) : State :=
  (s.dropV .estSum leaf fun x => Nat.ble (x / 4) j).dropV .estSlots leaf fun x => Nat.ble x j

/-- A leaf that re-links did not estimate in every slot of the open KNEAD window (04 R129). -/
def State.winBreak (s : State) (leaf : Nat) : State :=
  s.each (List.range 4) fun s k => s.setV .estWin (-1) leaf (k + 4 * (s.time / 1000000))

/-- The GROUP reports of KNEAD window w at a leaf (04 R129). -/
def State.leafGroupsReport (s : State) (leaf w : Nat) : State :=
  let s := s.each (s.leafRails leaf).zipIdx fun s rk =>
    let (r, k) := rk
    s.when (s.v .estWin leaf (k + 4 * w) = 15625) fun s =>
      s.each (s.leafGroups leaf r) fun s g =>
        s.sendUp (leafDom leaf) Mt.measure
          (groupPayload 1 r g w (roundDiv (s.v .estGrp leaf (8 * k + g + 32 * w)) (1000000 * 2 ^ 47)))
  (s.dropV .estWin leaf fun x => Nat.ble (x / 4) w).dropV .estGrp leaf fun x => Nat.ble (x / 32) w

/-! ### Sums on the way up -/

/-- The leaves beneath a domain, itself included. -/
def State.leavesIn (s : State) (d : Nat) : List Nat := (s.leaves.filter fun l => s.beneath (leafDom l) d)

/-- The rails a domain's estimates name: those of the leaves beneath it. -/
def State.domRails (s : State) (d : Nat) : List Nat :=
  let ls := s.leavesIn d
  (List.range 32).filter fun r => ls.any fun l => (s.leafRails l).contains r

/-- The number of a slot whose last four bits a message of the present stamp carries: the last such slot that has begun (03 R91). -/
def State.slotNum (s : State) (slot : Nat) : Nat :=
  let k := s.time / 64
  k - (k + 16 - slot % 16) % 16

/-- Record a child's report for a slot (01 R30). -/
def State.estTake (s : State) (child rail slot mw : Nat) : State :=
  if rail = 0x1F then s
  else
    let j := rail + 32 * (slot % 16)
    ((s.setV .estLast mw child rail).setV .estVal mw child j).setV .estFresh (slot + 1 : Nat) child j

/-- Whether a child has reported a rail for a slot (01 R30). -/
def State.estHas (s : State) (child rail slot : Nat) : Bool :=
  decide (s.v .estFresh child (rail + 32 * (slot % 16)) = (slot + 1 : Nat))

/-- A child's estimate of a rail for a slot: its report, or its last one where that is missing (01 R30). -/
def State.estOf (s : State) (child rail slot : Nat) : Int :=
  if s.estHas child rail slot then s.v .estVal child (rail + 32 * (slot % 16)) else s.v .estLast child rail

/-- Whether every child of a domain has reported every rail of a slot (01 R30). -/
def State.estAll (s : State) (d slot : Nat) : Bool :=
  (s.children d).all fun c => (s.domRails c).all fun r => s.estHas c r slot

/-- The children whose reports of a slot are missing (01 R30). -/
def State.estMissing (s : State) (d slot : Nat) : Nat :=
  ((s.children d).filter fun c => (s.domRails c).any fun r => !s.estHas c r slot).length

/-- The levels of domains from a domain down to the leaves beneath it: 1 over leaves alone. -/
def State.leafDepth (s : State) (d : Nat) : Nat :=
  (s.leavesIn d).foldl (fun m l => max m ((s.path (leafDom l)).takeWhile fun x => !Nat.beq x d).length) 0

/-- Whether a slot's missing reports are no longer waited for at a domain: a report is expected in the slot after that in which the
level beneath is due, and the slot after that one has ended (01 R30; 04 R116; log entry 23). -/
def State.estOver (s : State) (d slot : Nat) : Bool := Nat.ble (64 * (slot + s.leafDepth d + 2)) s.time

/-- The sum of the children's estimates of a rail for a slot (01 R30). -/
def State.estSumOf (s : State) (d r slot : Nat) : Int := sumInt ((s.children d).map fun c => s.estOf c r slot)

/-- A node engine sends its slot sums (01 R30). -/
def State.nodeSlot (s : State) (n slot : Nat) : State :=
  let d := nodeDom n
  s.sendEst d slot ((s.domRails d).map fun r => (r, min 33554431 (s.estSumOf d r slot).toNat))

/-- G × x: the guard margin of a rail (04 R132). -/
def State.guard (s : State) (r : Nat) (x : Int) : Int :=
  roundDiv (x * (100 + s.par Sec.estCoeff 0x0005 r 0 1 15 : Nat)) 100

/-- The fusion state of a rail in a slot: a change takes effect with the first slot that starts after its close (04 R134). -/
def State.fuseIn (s : State) (r slot : Nat) : Nat :=
  if s.v .fuseAt r ≤ (64 * slot : Nat) then s.rd F.RAIL_FUSE_STATUS_STATE r else s.vn .fuseWas r

/-- F_fast of a rail for the estimate of a slot (04 R132). -/
def State.fFast (s : State) (r slot : Nat) (e : Int) : Int :=
  match s.fuseIn r slot with
  | 0 => e
  | 1 => max e (s.v .latestM r)
  | _ => s.guard r e

/-- The logical rails of the image, in order. -/
def State.railNums (s : State) : List Nat := s.rails.map (·.rail)

/-- A slot's estimates at the hub: E, F_fast and the sums of the interval in which the slot starts (04 R132, R134). -/
def State.hubSlotEst (s : State) (slot : Nat) : State :=
  s.each s.railNums fun s r =>
    let e := s.estSumOf hubDom r slot
    let j := 64 * slot / 1000
    let s := s.wrSat F.RAIL_ESTM_EST_FAST e r
    let s := s.wrSat F.RAIL_FUSED_FAST (s.fFast r slot e) r
    (s.addV .estRailSum e r j).addV .estRailN 1 r j

/-! ### Measurement and fusion at the hub -/

/-- The phase channel records of a rail, in LOGICAL order (02 R66). -/
def State.railPhases (s : State) (r : Nat) : List Nat := (s.instsOf 0x0A r).map (·.logical)

/-- The leaves that estimate for a rail. -/
def State.railLeaves (s : State) (r : Nat) : List Nat := s.leaves.filter fun l => (s.leafRails l).contains r

/-- Attribution of a rail's fused value over an interval (04 R131): a report counts for the interval that its SEQ names. -/
def State.attribute (s : State) (r f j : Nat) : State :=
  let part := (s.railLeaves r).filter fun l => s.pathUpTo (leafDom l)
  let now : Int := (j % 16 + 1 : Nat)
  let s := s.each part fun s l => s.when (decide (s.v .ivFresh l r ≠ now)) fun s => s.incSat F.RAIL_KNEAD_RES_STALE_REP 1 r
  let tot := sumInt (part.map fun l => s.v .ivLast l r)
  let den : Int := if tot = 0 then part.length else tot
  let s := s.setV .shareD den r
  let s := s.each (s.tree.map (·.dom)) fun s d =>
    if bitOf (s.railmask d) r then
      let mine := part.filter fun l => s.beneath (leafDom l) d
      let num : Int := if tot = 0 then mine.length else sumInt (mine.map fun l => s.v .ivLast l r)
      let x := roundDiv ((f : Int) * num) den.toNat
      let s := (s.setV .attr x d r).setV .shareN num d r
      s.setV .aHist x d (32 * (j % 1000) + r)
    else s
  s.each (s.railLeaves r) fun s l => s.when (decide (s.v .ivFresh l r = now)) fun s => s.setV .ivFresh 0 l r

/-- An INTERVAL report at the hub (04 R131): its leaf, rail, SEQ and power. -/
def State.ivTake (s : State) (leaf rail seq pwr : Nat) : State :=
  if rail = 0x1F then s else (s.setV .ivLast (8 * pwr) leaf rail).setV .ivFresh (seq % 16 + 1 : Nat) leaf rail

/-- Reset theta and P of a rail (04 R141). -/
def State.kneadCov (s : State) (r : Nat) : State :=
  let p0 := f32OfBits (s.par Sec.estCoeff 0x0003 r 0 4 0x3727C5AC)
  s.each (List.range 64) fun s k => s.setV .kP (if k / 8 = k % 8 then p0 else 0) r k

/-- The quantised theta of a group, unsigned Q2.14 (04 R140). -/
def State.thetaQ (s : State) (r g : Nat) : Nat := satU 16 (roundDiv (s.v .kTheta r g) (2 ^ 135))

/-- The LO or HI word of a rail's quantised theta (04 R140). -/
def State.thetaWord (s : State) (r : Nat) (hi : Bool) : Nat :=
  let b := if hi then 4 else 0
  pack ((List.range 4).map fun g => (16 * g, 16, s.thetaQ r (b + g)))

/-- Show a rail's theta in its registers. -/
def State.thetaShow (s : State) (r : Nat) : State :=
  (s.setReg .RAIL_THETA_LO (BitVec.ofNat 64 (s.thetaWord r false)) r).setReg .RAIL_THETA_HI (BitVec.ofNat 64 (s.thetaWord r true)) r

/-- KNEAD sets theta to 1.0 and P to P0 × I (04 R141). -/
def State.kneadReset (s : State) (r : Nat) : State :=
  let s := s.each (List.range 8) fun s g => s.setV .kTheta (2 ^ 149) r g
  ((s.kneadCov r).thetaShow r).wr F.RAIL_KNEAD_UPDATES 0 r

/-- Write a rail's theta to the leaves that estimate for it (04 R140). -/
def State.thetaSend (s : State) (r : Nat) : State :=
  s.each (s.railLeaves r) fun s l =>
    match s.railSlot l r with
    | none => s
    | some k =>
      let s := s.hubWrite (leafDom l) .LEAF_THETA_LO k (s.thetaWord r false)
      s.hubWrite (leafDom l) .LEAF_THETA_HI k (s.thetaWord r true)

/-- Enter a fusion state at a stamp: the divergence, clear and valid counters restart (04 R134), and with them the sums of a run of
DIV_CNT (04 R137). -/
def State.fuseTo (s : State) (r st stamp : Nat) : State :=
  let s := (s.setV .fuseWas (s.rd F.RAIL_FUSE_STATUS_STATE r) r).wr F.RAIL_FUSE_STATUS_STATE st r
  let s := (s.wr F.RAIL_FUSE_STATUS_DIV_CNT 0 r).wr F.RAIL_FUSE_STATUS_CLR_CNT 0 r
  let s := (s.setV .divM 0 r).setV .divE 0 r
  let s := (s.setV .divV 0 r).setV .divVN 0 r
  (s.setV .validRun 0 r).setV .fuseAt stamp r

/-- The enabled phase channels' sums over the last 10 intervals, the last of them j: (channel, sum of samples, cycles) (04 R137); a
channel being shed is enabled until it is disabled (04 R124). -/
def State.phaseMeans (s : State) (r j : Nat) : List (Nat × Int × Nat) :=
  let en := (s.railPhases r).filter fun p => Nat.beq (s.rd F.PH_STAT_PHST p) 1 || Nat.beq (s.rd F.PH_STAT_PHST p) 2
  let last := (List.range 10).filter fun k => Nat.ble k j
  en.map fun p => (p, sumInt (last.map fun k => s.v .phSum p (j - k)), sumNat (last.map fun k => s.vn .phN p (j - k)))

/-- The shares in Q2.14 of R137: each channel's mean over the mean of the means. -/
def shares (l : List (Nat × Int × Nat)) : List (Nat × Int) :=
  let means := l.map fun x => (x.1, roundDiv (x.2.1 * 2 ^ 20) x.2.2)
  let tot := sumInt (means.map (·.2))
  means.map fun m => (m.1, if 0 < tot then roundDiv (m.2 * 16384 * (means.length : Int)) tot.toNat else 0)

/-- Where a rail's hottest leakage temperature lies among its leaves (04 R137). -/
def State.railLeakMax (s : State) (r : Nat) : Int :=
  (maxInt? ((s.railLeaves r).map fun l => (s.leakTemp l r).1)).getD 0

/-- The EST_DIAG record of a declaration at the close of interval j, from the sums of M, of the mean estimate and of VSENSE over its
DIV_TIME + 1 intervals (04 R137). DESIGN CHOICE: the band test takes the share rounded to Q2.14; of two shares equally far from 1.0
the first channel is OUTLIER; with no channel enabled SHARE_MIN is 65535 and SHARE_MAX 0 (log entry 136). -/
def State.estDiag (s : State) (r j : Nat) (sumM sumE sumV : Int) (nV : Nat) : State :=
  let n := s.par Sec.estCoeff 0x0006 r 0 2 200 + 1
  if 100 * sumM > 130 * sumE then
    let sh := shares (s.phaseMeans r j)
    let band := s.par Sec.estCoeff 0x0009 r 0 1 12
    let far (x : Int) : Nat := (x - 16384).natAbs
    let out := sh.filter fun x => decide (100 * far x.2 > 16384 * band)
    let worst := out.foldl (fun b x => match b with | none => some x | some y => if far y.2 < far x.2 then some x else some y) none
    let vm := (roundDiv sumV nV).toNat
    let vr := s.rd F.RAIL_VSEL_REF r
    let verdict := if !out.isEmpty then 1 else if 50 < (vm - vr) + (vr - vm) then 2 else 3
    let lo := sh.foldl (fun b x => min b x.2) 65535
    let hi := sh.foldl (fun b x => max b x.2) 0
    let body := leBytes 1 r ++ leBytes 1 verdict ++ leBytes 1 sh.length ++ leBytes 1 (match worst with | some x => x.1 % 256 | none => 0xFF)
      ++ leBytes 4 0 ++ leBytes 8 s.time ++ leBytes 4 (satU 32 (roundDiv sumM n)) ++ leBytes 4 (satU 32 (roundDiv sumE n))
      ++ leBytes 2 (satU 16 lo) ++ leBytes 2 (satU 16 hi) ++ leBytes 2 vm ++ leBytes 2 vr ++ leBytes 2 (ofSigned 16 (s.railLeakMax r))
    (s.record 5 body).flag F.RAIL_FUSE_STATUS_DIAG_WRITTEN r
  else s

/-- Divergence at the close of a valid interval j in NORMAL (04 R135); n and sv are the cycles and the VSENSE sum of Vm. -/
def State.divergence (s : State) (r j : Nat) (m e : Int) (n : Nat) (sv : Int) : State :=
  let d : Int := ((m - e).natAbs : Nat)
  if 10 * d > m && d * n > 10 * sv then
    let s := s.incSat F.RAIL_FUSE_STATUS_DIV_CNT 1 r
    let s := (s.addV .divM m r).addV .divE e r
    let s := (s.addV .divV sv r).addV .divVN n r
    if s.par Sec.estCoeff 0x0006 r 0 2 200 + 1 ≤ s.rd F.RAIL_FUSE_STATUS_DIV_CNT r then
      let (sm, se, sV, nV) := (s.v .divM r, s.v .divE r, s.v .divV r, s.vn .divVN r)
      let s := s.fuseTo r 1 (1000 * j + 1000)
      let s := s.flag F.RAIL_FUSE_STATUS_DIVERGE r
      let s := s.event 0x12 r
      let s := s.incSat F.RAIL_FUSE_STATUS_DIVERGE_COUNT 1 r
      s.estDiag r j sm se sV nV
    else s
  else
    let s := s.wr F.RAIL_FUSE_STATUS_DIV_CNT 0 r
    let s := (s.setV .divM 0 r).setV .divE 0 r
    (s.setV .divV 0 r).setV .divVN 0 r

/-- Clearing in DIVERGED at the close of a valid interval j (04 R136). -/
def State.divClear (s : State) (r j : Nat) (m e : Int) (n : Nat) (sv : Int) : State :=
  let d : Int := ((m - e).natAbs : Nat)
  if 20 * d ≤ m || d * n ≤ 5 * sv then
    let s := s.incSat F.RAIL_FUSE_STATUS_CLR_CNT 1 r
    if 1000 ≤ s.rd F.RAIL_FUSE_STATUS_CLR_CNT r then
      ((s.fuseTo r 0 (1000 * j + 1000)).kneadCov r).event 0x13 r
    else s
  else s.wr F.RAIL_FUSE_STATUS_CLR_CNT 0 r

/-- Whether a rail was out of regulation in interval j: a change of power good within it is noted, and one that lasted all of it shows
in the stamps of the last changes (04 R126). -/
def State.pgWasLow (s : State) (r j : Nat) : Bool :=
  bitOf (s.vn .invBits r j) 3 || (!s.is F.RAIL_STATE_PG r && decide (s.v .pgFell r < (1000 * j + 1000 : Nat)))
    || (decide (s.v .pgFell r ≤ (1000 * j : Nat)) && decide ((1000 * j + 1000 : Nat) ≤ s.v .pgRose r))

/-- INVALID_CAUSE of interval j of a rail (04 R126). -/
def State.invCauses (s : State) (r j : Nat) : Nat :=
  let low := (s.railPhases r).any fun p => Nat.beq (s.rd F.PH_STAT_PHST p) 1 && !s.is F.PH_STAT_FAULT_N p
  let none1 := s.v .cySeen r = 0 || decide ((1000 * j + 1000 : Nat) < s.v .cySeen r)
  [(1, low), (3, s.pgWasLow r j), (5, none1)].foldl (fun b x => if x.2 && !bitOf b x.1 then b + 2 ^ x.1 else b) (s.vn .invBits r j)

/-- The measurement, fusion state and fused value of a rail at the close of interval j (04 R125, R126, R132 to R136). DESIGN CHOICE: Vm
of an interval in which no cycle ended is the VSENSE last shown (log entry 136). -/
def State.railInterval (s : State) (r j : Nat) : State :=
  let n := s.vn .cyN r j
  let e := roundDiv (s.v .estRailSum r j) (s.vn .estRailN r j)
  let m : Int := if n = 0 then s.v .cyLastP r else roundDiv (s.v .cyP r j) n
  let cur : Int := if n = 0 then s.v .cyLastI r else roundDiv (s.v .cyI r j) n
  let (nv, sv) : Nat × Int := if n = 0 then (1, (s.rd F.RAIL_STATE_VSENSE r : Int)) else (n, s.v .cyV r j)
  let estOnly := Nat.beq (s.rd F.RAIL_FUSE_STATUS_STATE r) 3
  let s := s.wrSat F.RAIL_ESTM_EST_1US e r
  let s :=
    if estOnly then s
    else
      let s := s.wrSat F.RAIL_MEAS_POWER m r
      let s := s.wrI F.RAIL_MEAS_CURRENT (satS 32 cur) r
      let s := s.wr F.RAIL_FUSE_STATUS_HELD (b2n (n = 0)) r
      let inv := s.invCauses r j
      let s := s.wr F.RAIL_FUSE_STATUS_INVALID_CAUSE inv r
      if inv ≠ 0 then
        let s := s.flag F.RAIL_FUSE_STATUS_INVALID_SEEN r
        if s.rd F.RAIL_FUSE_STATUS_STATE r = 2 then s.setV .validRun 0 r
        else (s.fuseTo r 2 (1000 * j + 1000)).event 0x10 r
      else
        match s.rd F.RAIL_FUSE_STATUS_STATE r with
        | 0 => s.divergence r j m e nv sv
        | 1 => s.divClear r j m e nv sv
        | _ =>
          let s := s.addV .validRun 1 r
          if 10 ≤ s.v .validRun r then (s.fuseTo r 0 (1000 * j + 1000)).event 0x11 r else s
  let f : Int := match s.rd F.RAIL_FUSE_STATUS_STATE r with
    | 0 => m
    | 1 => max e m
    | _ => s.guard r e
  let s := s.wrSat F.RAIL_FUSED_F1US f r
  let s := s.setV .latestM m r
  let w := j / 1000 % 16
  let s := (s.addV .kwM m r w).addV .kwN 1 r w
  let s := s.when (!Nat.beq (s.rd F.RAIL_FUSE_STATUS_STATE r) 0) fun s => s.setV .kwBad 1 r w
  (s.setV .fHist (s.rd F.RAIL_FUSED_F1US r) r (j % 1000)).attribute r (s.rd F.RAIL_FUSED_F1US r) j

/-- The sums of a rail for interval j and those before it are done; of the phase samples the last 9 intervals stay (04 R137). -/
def State.railDone (s : State) (r j : Nat) : State :=
  let s := s.each (s.railPhases r) fun s p => (s.dropV .phSum p fun x => Nat.ble (x + 9) j).dropV .phN p fun x => Nat.ble (x + 9) j
  let s := s.each [Var.cyP, .cyI, .cyV, .cyN, .invBits, .estRailSum, .estRailN] fun s x => s.dropV x r fun y => Nat.ble y j
  s

/-! ### KNEAD -/

/-- The members of an 8-vector in the order of R139. -/
abbrev idx8 : List Nat := List.range 8

/-- One update of R139: theta and P in units of 2^-149, the regressors, the target, λ and PMAX in, theta, P and the residual out; none
where a d, k, step, theta, P or res is an infinity or a NaN, or d is not greater than 0. -/
def kneadUpdate (th p : List Int) (x : List F32) (y lam pmax : F32) : Option (List Int × List Int × Int) :=
  let thF := th.map F32.fin
  let g (l : List F32) (k : Nat) : F32 := l.getD k (.fin 0)
  let e := idx8.foldl (fun e k => f32Sub e (f32Mul (g thF k) (g x k))) y
  let p0 := p.map F32.fin
  let px := idx8.map fun a => idx8.foldl (fun acc b => f32Add acc (f32Mul (g p0 (8 * a + b)) (g x b))) (.fin 0)
  let d := idx8.foldl (fun d a => f32Add d (f32Mul (g x a) (g px a))) lam
  if f32Le d (.fin 0) then none
  else
    let k := idx8.map fun a => f32Div (g px a) d
    let step := k.map fun ka => f32Clamp (-(2 ^ 144 : Nat)) (2 ^ 144 : Nat) (f32Mul ka e)
    let th' := idx8.map fun a => f32Clamp (2 ^ 148 : Nat) (2 ^ 150 : Nat) (f32Add (g thF a) (g step a))
    let p1 := (List.range 64).map fun q => f32Sub (g p0 q) (f32Mul (g k (q / 8)) (g px (q % 8)))
    let t := idx8.foldl (fun t a => f32Add t (g p1 (9 * a))) (.fin 0)
    let p2 := if f32Le (f32Div t lam) pmax then p1.map fun v => f32Div v lam else p1
    let half : F32 := .fin (2 ^ 148 : Nat)
    let p3 := (List.range 64).map fun q =>
      let a := q / 8
      let b := q % 8
      if a = b then g p2 q
      else
        let lo := min a b
        let hi := max a b
        f32Mul (f32Add (g p2 (8 * lo + hi)) (g p2 (8 * hi + lo))) half
    let res := idx8.foldl (fun r q => f32Sub r (f32Mul (g th' q) (g x q))) y
    if ([d, res] ++ k ++ step ++ th' ++ p1 ++ p2 ++ p3).all F32.finite then some (th'.map F32.units, p3.map F32.units, res.units) else none

/-- The skip code of a window of a rail, tested in R138's order; 0 for none. -/
def State.kneadSkip (s : State) (r w : Nat) : Nat :=
  let q := w % 16
  let ls := s.railLeaves r
  if s.par Sec.estCoeff 0x0008 r 0 1 1 = 0 || s.is F.RAIL_KNEAD_FREEZE r then 1
  else if s.v .kwBad r q = 1 || s.v .kwN r q ≠ 1000 then 2
  else if s.v .kwPkg 0 q = 1 then 3
  else if s.v .kwTouch r q = 1 then 4
  else if idx8.any (fun g =>
    (g = 0 || decide (0 < s.v .hgN (8 * r + g) q)) && decide (s.v .hgN (8 * r + g) q < (ls.length : Nat))) then 5
  else if sumInt (idx8.map fun g => s.v .hgE (8 * r + g) q) < (s.par Sec.estCoeff 0x0007 r 0 4 5000 : Int) then 6
  else 0

/-- A skipped window (04 R138). -/
def State.kneadSkipped (s : State) (r code : Nat) : State :=
  let s := s.wr F.RAIL_KNEAD_LAST_SKIP code r
  let s := s.wr F.RAIL_KNEAD_FROZEN (b2n (code = 1 || code = 2)) r
  s.incSat F.RAIL_KNEAD_RES_SKIPS 1 r

/-- A KNEAD window of a rail is run or skipped (04 R138 to R140); a RESET that came while its update was due has discarded it (04
R141). -/
def State.kneadRail (s : State) (r w : Nat) : State :=
  let q := w % 16
  let code := s.kneadSkip r w
  if s.v .kwDrop r = (w : Int) then s
  else if code ≠ 0 then s.kneadSkipped r code
  else
    let x := idx8.map fun g => f32OfRat (s.v .hgE (8 * r + g) q) 1000
    let y := f32OfRat (s.v .kwM r q) 1000000
    let sh := s.par Sec.estCoeff 0x0002 r 0 1 8
    let lam : F32 := .fin (2 ^ 149 - 2 ^ (149 - sh) : Nat)
    let pmax : F32 := .fin (f32OfBits (s.par Sec.estCoeff 0x0004 r 0 4 0x3A83126F))
    match kneadUpdate (idx8.map fun g => s.v .kTheta r g) ((List.range 64).map fun k => s.v .kP r k) x y lam pmax with
    | none => s.kneadSkipped r 7
    | some (th, p, res) =>
      let s := s.each th.zipIdx fun s a => s.setV .kTheta a.1 r a.2
      let s := s.each p.zipIdx fun s a => s.setV .kP a.1 r a.2
      let s := s.wr F.RAIL_KNEAD_LAST_SKIP 0 r
      let s := s.wr F.RAIL_KNEAD_FROZEN 0 r
      let s := s.incSat F.RAIL_KNEAD_UPDATES 1 r
      let s := s.wrI F.RAIL_KNEAD_RES_RESIDUAL (satS 32 (roundDiv (res * 1000) (2 ^ 149))) r
      (s.thetaShow r).thetaSend r

/-- The accumulators of a window are free for the window 16 later. -/
def State.kneadClear (s : State) (w : Nat) : State :=
  let q := w % 16
  let s := s.each s.railNums fun s r =>
    let s := ((s.setV .kwM 0 r q).setV .kwN 0 r q).setV .kwBad 0 r q
    let s := s.setV .kwTouch 0 r q
    s.each idx8 fun s g => (s.setV .hgE 0 (8 * r + g) q).setV .hgN 0 (8 * r + g) q
  (s.setV .kwPkg 0 0 q).setV .kwDone w

/-- A delta activation or a RESET touches a rail at a stamp (04 R138 code 4). -/
def State.kneadTouch (s : State) (r stamp : Nat) : State := s.setV .kwTouch 1 r (stamp / 1000000 % 16)

/-- A GROUP report at the hub (04 R138): its window is the last closed one whose number ends in SEQ; of a window that is done it is too
late. -/
def State.groupHub (s : State) (r g nleaf seq : Nat) (en : Int) : State :=
  let w1 := s.time / 1000000
  let back := (w1 + 15 - seq % 16) % 16 + 1
  if Nat.blt w1 back || decide ((w1 - back : Nat) ≤ s.v .kwDone) then s
  else (s.addV .hgE en (8 * r + g) (seq % 16)).addV .hgN nleaf (8 * r + g) (seq % 16)

/-! ### GROUP sums -/

/-- Whether a child of a node is expected to report a group of a rail: a leaf beneath it binds it (04 R129, R130). -/
def State.grpExpects (s : State) (child r g : Nat) : Bool :=
  (s.leavesIn child).any fun l => (s.leafRails l).contains r && (s.leafGroups l r).contains g

/-- A node sends its GROUP sum (04 R130). -/
def State.grpSend (s : State) (n r g seq : Nat) : State :=
  let k := 8 * r + g
  let s := s.sendUp (nodeDom n) Mt.measure (groupPayload (s.vn .ngN n k) r g seq (s.v .ngE n k))
  let s := ((s.setV .ngN 0 n k).setV .ngE 0 n k).setV .ngSent (seq % 16 + 1) n k
  s.each (s.children (nodeDom n)) fun s c => s.setV .ngRep 0 c k

/-- A GROUP report at a node engine (04 R130); one that comes after the sum was sent is sent on alone (log entry 23). -/
def State.grpAtNode (s : State) (n child nleaf r g seq : Nat) (e : Int) : State :=
  let k := 8 * r + g
  if s.v .ngSent n k = (seq % 16 + 1 : Nat) then s.sendUp (nodeDom n) Mt.measure (groupPayload nleaf r g seq e)
  else
    let s := (s.addV .ngE e n k).addV .ngN nleaf n k
    let s := s.setV .ngRep (seq % 16 + 1) child k
    if (s.children (nodeDom n)).all (fun c => !s.childUp c || !s.grpExpects c r g || s.v .ngRep c k = (seq % 16 + 1 : Nat))
    then s.grpSend n r g seq else s

end Sys2Proof.Machine
end

