-- ==== Sys2Proof/Machine/Latch.lean ====
section
/-!
DEFINITION. Latches at the hub (17 R506 to R510): latch slots, latch points, their completion and the LATCH record.
-/
namespace Sys2Proof.Machine

/-- LATCH_LEAD in ns (17 R507). -/
def State.latchLead (s : State) : Nat := s.par Sec.timing 0x0040 idxAll 0 2 2000

/-- Points of a context that are not complete (17 R506). -/
def State.latchOpenPts (s : State) (c : Nat) : List LatchPt := s.latch.pts.filter fun p => Nat.beq p.ctx c && !p.done

/-- The open latch slot of a context (17 R506). -/
def State.latchSlot? (s : State) (c k : Nat) : Option LatchSlot :=
  s.latch.slots.find? fun x => Nat.beq x.ctx c && Nat.beq x.slot k && x.stop.isNone

/-- The latch point of a serial number. -/
def State.latchPt? (s : State) (n : Nat) : Option LatchPt := s.latch.pts.find? fun p => Nat.beq p.ser n

/-- Create a latch point (17 R507): the command goes to every present leaf; a mapped leaf that cannot be reached makes the
point PARTIAL (R508). -/
def State.latchPoint (s : State) (c : Nat) : Nat × State :=
  let ser := s.latch.next
  let num := s.vn .latNum c
  let tL := s.time + s.latchLead
  let w := c + 16 * num + 2 ^ 32 * (tL % 2 ^ 32)
  let away := s.leaves.any fun l => !s.pathUpTo (leafDom l)
  let zero := List.replicate 64 0
  let p : LatchPt := {
    ser := ser, ctx := c, num := num, tL := tL, ends := [], late := false, part := away, done := false, rep := zero,
    nj := s.vn .ctxNj c, phase := s.recPhase c }
  let s : State := { s with latch := { s.latch with next := ser + 1, pts := s.latch.pts ++ [p] } }
  let s := s.setV .latNum ((num + 1) % 16 : Nat) c
  (ser, s.each (s.leaves.filter fun l => s.pathUpTo (leafDom l)) fun s l => s.hubWrite (leafDom l) .LEAF_CNT_LATCH 0 w)

/-- A latch write of a context: OP, latch slot, CMD_ADDR [47:6] (17 R506). -/
def State.latchOp (s : State) (c op k addr : Nat) : Status × State :=
  let full := Nat.ble 4 (s.latchOpenPts c).length
  match op with
  | 0 => (.ok, s)
  | 1 =>
    if (s.latchSlot? c k).isSome || full then (.eOverrun, s)
    else
      let (ser, s) := s.latchPoint c
      let x : LatchSlot := { ctx := c, slot := k, addr := addr, start := ser, stop := none, marks := false, aborted := false }
      (.ok, { s with latch := { s.latch with slots := s.latch.slots ++ [x] } })
  | 2 =>
    match s.latchSlot? c k with
    | none => (.eRange, s)
    | some x =>
      if x.addr ≠ addr then (.eRange, s)
      else if full then (.eOverrun, s)
      else
        let (ser, s) := s.latchPoint c
        let l := s.latch.slots.map fun y => if y = x then { y with stop := some ser } else y
        (.ok, { s with latch := { s.latch with slots := l } })
  | _ => (.eRange, s)

/-- CTX_SWITCH closes every open latch slot of a context at one point (17 R510). -/
def State.latchAbort (s : State) (c : Nat) : State :=
  let mine (x : LatchSlot) : Bool := Nat.beq x.ctx c && x.stop.isNone
  if s.latch.slots.any mine then
    let (ser, s) := s.latchPoint c
    let l := s.latch.slots.map fun y => if mine y then { y with stop := some ser, aborted := true } else y
    { s with latch := { s.latch with slots := l } }
  else s

/-- A mark of a slot with its stamp, which enters a phase (0xFF for EXIT): the phase at the points at or after it, and the
commands that it fell in (17 R514). -/
def State.latchMark (s : State) (c τ phase : Nat) : State :=
  let tLof (n : Nat) : Nat := match s.latchPt? n with | some p => p.tL | none => 0
  let within (x : LatchSlot) : Bool :=
    Nat.beq x.ctx c && Nat.ble (tLof x.start) τ && (match x.stop with | none => true | some n => Nat.blt τ (tLof n))
  let ps := s.latch.pts.map fun p => if Nat.beq p.ctx c && Nat.ble τ p.tL then { p with phase := phase } else p
  let xs := s.latch.slots.map fun x => if within x then { x with marks := true } else x
  { s with latch := { s.latch with pts := ps, slots := xs } }

/-- T(c, E) - T(c, S) for each CIDX: the sums of the points after S up to E (17 R508, R509). -/
def State.latchDiff (s : State) (c a b : Nat) : List Nat :=
  let ps := s.latch.pts.filter fun p => Nat.beq p.ctx c && Nat.blt a p.ser && Nat.ble p.ser b
  (List.range 64).map fun k => sumNat (ps.map fun p => p.rep.getD k 0)

/-- The LATCH record of a slot that closes at a complete point, and CTX_LSNAP (17 R509, R514). -/
def State.latchRecord (s : State) (x : LatchSlot) (e : LatchPt) : State :=
  match s.latchPt? x.start with
  | none => s
  | some a =>
    let d := s.latchDiff x.ctx a.ser e.ser
    let flags := b2n (a.late || e.late) + 2 * b2n (a.part || e.part) + 4 * b2n x.marks + 8 * b2n x.aborted
    let s := s.each (List.range 0x28) fun s k => s.wr F.CTX_LSNAP_VAL (d.getD k 0) x.ctx k
    let s := s.wr F.CTX_LATCH_STAT_LAST_FLAGS flags x.ctx
    let body := leBytes 8 (64 * x.addr) ++ leBytes 8 a.tL ++ leBytes 8 ((e.nj - a.nj) / 1000) ++ leBytes 8 (sumNat (d.take 8))
      ++ leBytes 8 (d.getD 0x0F 0) ++ leBytes 4 (min (2 ^ 32 - 1) (d.getD 0x15 0 / 1024)) ++ leBytes 1 a.phase ++ leBytes 1 flags
      ++ leBytes 1 x.slot ++ leBytes 1 0
    s.recordAt 2 x.ctx e.phase e.tL body

/-- Points that no latch slot still needs are dropped. -/
def State.latchPrune (s : State) (c : Nat) : State :=
  let oldest := (s.latch.slots.filter fun x => Nat.beq x.ctx c).foldl (fun m x => min m x.start) s.latch.next
  { s with latch := { s.latch with pts := s.latch.pts.filter fun p => !(Nat.beq p.ctx c && p.done && Nat.blt p.ser oldest) } }

/-- The children of the hub whose END a latch point or a counter window waits for (17 R500, R508). -/
def State.cntKids (s : State) : List Nat := (s.children hubDom).filter fun d => s.childUp d

/-- LATCH_POINT_COMPLETE (17 R508, R509): every present child has sent END and the interval of tL has closed, or 20 µs have
passed since tL. -/
def State.latchComplete (s : State) (n : Nat) : State :=
  match s.latchPt? n with
  | none => s
  | some p =>
    let all := s.cntKids.all fun d => p.ends.contains d
    if p.done || !((all && decide ((p.tL : Int) ≤ 1000 * (s.v .hubIv + 1))) || Nat.ble (p.tL + 20000) s.time) then s
    else
      let e : LatchPt := { p with done := true, part := p.part || !all }
      let s : State := { s with latch := { s.latch with pts := s.latch.pts.map fun y => if Nat.beq y.ser n then e else y } }
      let s := s.when e.part fun s => s.event 0x7C p.ctx
      let ends := s.latch.slots.filter fun x => x.stop == some n
      let s := s.each ends fun s x => s.latchRecord x e
      let s : State := { s with latch := { s.latch with slots := s.latch.slots.filter fun x => !(x.stop == some n) } }
      s.latchPrune p.ctx

/-- LATCH_POINT_COMPLETE: the point of a context and latch number that is not complete. -/
def execLatchPointComplete (t c num : Nat) (s : State) : Host.Outcome State Fault Refusal :=
  let s := s.start t
  match (s.latchOpenPts (c % 16)).find? fun p => Nat.beq p.num (num % 16) with
  | some p => .next (s.latchComplete p.ser)
  | none => .next s

end Sys2Proof.Machine
end

