-- ==== Sys2Proof/Machine/Budget.lean ====
section
/-!
DEFINITION. Budgets (06): the grants that stand at a domain, the split among children, GRANT and NEED messages, the leaf's
conversion to issue limits and FMAX ceilings, and the precedence of limits at a gate and at a core.
-/
namespace Sys2Proof.Machine

/-! ### Budgets and splits -/

/-- The lowest of two budgets; none imposes no limit (06 R177). -/
def minAmt (a b : Option Nat) : Option Nat :=
  match a, b with
  | none, y => y
  | x, none => x
  | some x, some y => some (min x y)

/-- The budget of a domain in a class (and rail) (06 R177). -/
def State.budget (s : State) (d cls rail : Nat) : Option Nat :=
  (s.grants.filter fun g => Nat.beq g.dom d && Nat.beq g.cls cls && Nat.beq g.rail rail).foldl (fun b g => minAmt b g.amt) none

/-- A budget as a 32-bit register shows it: all ones when unbound. -/
def amtReg (a : Option Nat) : Nat :=
  match a with
  | none => 0xFFFF_FFFF
  | some x => min 0xFFFF_FFFF x

/-- A budget as AMOUNT of a message carries it (06 R180). -/
def amtMsg (a : Option Nat) : Nat :=
  match a with
  | none => 0x1FF_FFFF
  | some x => min 33554430 x

/-- AMOUNT of a message as a budget (06 R180). -/
def msgAmt (x : Nat) : Option Nat := if x = 0x1FF_FFFF then none else some x

/-- The payload of GRANT (06 R180). -/
def grantPayload (cls rail dest : Nat) (loop : Option Nat) (amt : Option Nat) : Nat :=
  pack [(60, 2, cls), (55, 5, rail), (39, 16, dest), (30, 9, loop.getD 0), (29, 1, b2n loop.isSome), (0, 25, amtMsg amt)]

/-- The payload of NEED (06 R180). -/
def needPayload (child weight node need : Nat) : Nat :=
  pack [(62, 2, 1), (56, 6, child), (40, 16, weight), (34, 6, node), (0, 25, min 33554431 need)]

/-- A domain's split words, named by the hub's layout: register and indices of the child at position k (06 R206). -/
def splitKey (d k : Nat) (f : Fld) : Fld × Nat × Nat :=
  if d = hubDom then (f, k, 0)
  else
    let r := match f.r with
      | .HUB_SPLIT_A => .NODE_SPLIT_A
      | .HUB_SPLIT_B => .NODE_SPLIT_B
      | .HUB_SPLIT_C => .NODE_SPLIT_C
      | r => r
    ({ f with r := r }, domNum d, k)

/-- A field of a split entry. -/
def State.sp (s : State) (d k : Nat) (f : Fld) : Nat :=
  let (f, i, j) := splitKey d k f
  s.rd f i j

/-- Set a field of a split entry. -/
def State.spW (s : State) (d k : Nat) (f : Fld) (v : Nat) : State :=
  let (f, i, j) := splitKey d k f
  s.wr f v i j

/-- One child in a split (06 R182). -/
structure Share where
  id : Nat
  lo : Nat
  hi1 : Nat
  hi2 : Nat
  w : Nat
  g : Nat
deriving DecidableEq, Repr

/-- One round of the give of R182 over the eligible members, in order. -/
def giveRound (hi : Share → Nat) (elig : Share → Bool) : List Share → Nat → List Share × Nat
  | [], r => ([], r)
  | x :: rest, r =>
    if elig x && Nat.blt x.g (hi x) && Nat.blt 0 r then
      let (l, r') := giveRound hi elig rest (r - 1)
      ({ x with g := x.g + 1 } :: l, r')
    else
      let (l, r') := giveRound hi elig rest r
      (x :: l, r')

/-- The function give of R182 (06). -/
def give (hi : Share → Nat) (elig : Share → Bool) (l : List Share) (r fuel : Nat) : List Share × Nat :=
  match fuel with
  | 0 => (l, r)
  | k + 1 =>
    if r = 0 || !l.any (fun x => elig x && Nat.blt x.g (hi x)) then (l, r)
    else
      let (l', r') := giveRound hi elig l r
      give hi elig l' r' k

/-- The function fill of R182 (06); active members are named by id. -/
def fill (hi : Share → Nat) (l : List Share) (active : List Nat) (r fuel : Nat) : List Share × Nat :=
  match fuel with
  | 0 => (l, r)
  | k + 1 =>
    if r = 0 || active.isEmpty then (l, r)
    else
      let act (x : Share) : Bool := active.contains x.id
      let tot := sumNat ((l.filter act).map (·.w))
      let share (x : Share) : Nat := r * x.w / tot
      let caps (x : Share) : Bool := Nat.ble (hi x) (x.g + share x)
      let d (x : Share) : Nat := if caps x then hi x - x.g else share x
      let used := sumNat ((l.filter act).map d)
      let capped := ((l.filter act).filter caps).map (·.id)
      let l' := l.map fun x => if act x then { x with g := x.g + d x } else x
      if capped.isEmpty then (l', r - used)
      else fill hi l' (active.filter fun i => !capped.contains i) (r - used) k

/-- The members that a fill starts with. -/
def fillActive (hi : Share → Nat) (l : List Share) : List Nat :=
  (l.filter fun x => Nat.blt x.g (hi x) && Nat.blt 0 x.w).map (·.id)

/-- The split of R182: shares, SHORT, SURPLUS. -/
def splitShares (l : List Share) (b : Nat) : List Share × Bool × Nat :=
  let sumLo := sumNat (l.map (·.lo))
  if b < sumLo then
    let l1 := l.map fun x => { x with g := x.lo * b / sumLo }
    let r := b - sumNat (l1.map (·.g))
    ((give (·.lo) (fun _ => true) l1 r 66).1, true, 0)
  else
    let l0 := l.map fun x => { x with g := x.lo }
    let (l1, r1) := fill (·.hi1) l0 (fillActive (·.hi1) l0) (b - sumLo) 66
    let (l2, r2) := fill (·.hi2) l1 (fillActive (·.hi2) l1) r1 66
    let (l3, r3) := give (·.hi2) (fun x => Nat.blt 0 x.w) l2 r2 66
    (l3, false, r3)

/-- The children of a domain with their positions whose channel is UP (06 R182). -/
def State.upChildren (s : State) (d : Nat) : List (Nat × Nat) :=
  ((s.children d).zipIdx.map fun c => (c.1, c.2 + 1)).filter fun c => Nat.beq (s.chSt (s.parentEnd c.1)) Ch.up

/-- The last grant sent to a child in a class (and rail), if any. -/
def State.sent? (s : State) (child cls rail : Nat) : Option Grant :=
  s.sentGrants.find? fun g => Nat.beq g.dom child && Nat.beq g.cls cls && Nat.beq g.rail rail

/-- Send one GRANT to a child, with its trace frame (06 R180, 17 R522). -/
def State.grantSend (s : State) (d child k cls rail : Nat) (a : Option Nat) : State :=
  let g : Grant := { dom := child, cls := cls, rail := rail, loop := none, amt := a }
  let s : State := { s with sentGrants := (s.sentGrants.filter fun x => !(Nat.beq x.dom child && Nat.beq x.cls cls && Nat.beq x.rail rail)) ++ [g] }
  let s := if cls = 0 then s.spW d k F.HUB_SPLIT_C_GRANT_AVG (amtReg a)
    else if cls = 1 then s.spW d k F.HUB_SPLIT_C_GRANT_FAST (amtReg a) else s
  let s := s.frame 3 0 child s.time (cls + 2 ^ 32 * amtReg a) (s.sp d k F.HUB_SPLIT_A_NEED + 2 ^ 32 * s.sp d k F.HUB_SPLIT_A_WEIGHT)
  (s.sendDown child Mt.budget (grantPayload cls rail child none a)).2

/-- Whether a grant is lower than the last one sent. -/
def amtLess (a b : Option Nat) : Bool :=
  match a, b with
  | some x, some y => Nat.blt x y
  | some _, none => true
  | none, _ => false

/-- Send the changed grants of a split, decreases before increases (06 R181). -/
def State.grantsOut (s : State) (d cls rail : Nat) (l : List (Nat × Nat × Option Nat)) : State :=
  let changed := l.filter fun c => match s.sent? c.1 cls rail with | some g => decide (g.amt ≠ c.2.2) | none => true
  let dec := changed.filter fun c => match s.sent? c.1 cls rail with | some g => amtLess c.2.2 g.amt | none => false
  let inc := changed.filter fun c => match s.sent? c.1 cls rail with | some g => !amtLess c.2.2 g.amt | none => true
  s.each (dec ++ inc) fun s c => s.grantSend d c.1 c.2.1 cls rail c.2.2

/-- The estimate of a child on a rail that class RAIL is split by (06 R183). -/
def State.railWeight (s : State) (d child r : Nat) : Nat :=
  let ls := s.leavesIn child
  if d = hubDom then sumNat ((ls.filter fun l => s.pathUpTo (leafDom l)).map fun l => s.vn .ivLast l r)
  else sumNat (ls.map fun l => s.vn .nivLast (512 * domNum d + l) r)

/-- The split of class RAIL (06 R183). -/
def State.railSplit (s : State) (d r b : Nat) : List (Nat × Nat × Option Nat) :=
  let cs := (s.upChildren d).filter fun c => bitOf (s.railmask c.1) r
  let tot := sumNat (cs.map fun c => s.railWeight d c.1 r)
  let sh := cs.map fun c => (c, if tot = 0 then b / cs.length else b * s.railWeight d c.1 r / tot)
  let rest := b - sumNat (sh.map (·.2))
  sh.zipIdx.map fun x => (x.1.1.1, x.1.1.2, some (x.1.2 + b2n (Nat.blt x.2 rest)))

/-- DOMAIN_SPLIT: split a class among a domain's children and send the changed grants (06 R181 to R183). DESIGN CHOICE: while the
budget in class AVG is unbound, SURPLUS keeps its last value (log entry 139). -/
def State.split (s : State) (d cls rail : Nat) : State :=
  if isLeaf d then s
  else
    match s.budget d cls rail with
    | none =>
      let cs := (s.upChildren d).filter fun c => cls ≠ 2 || bitOf (s.railmask c.1) rail
      s.grantsOut d cls rail (cs.map fun c => (c.1, c.2, none))
    | some b =>
      if cls = 2 then s.grantsOut d cls rail (s.railSplit d rail b)
      else
        let cs := s.upChildren d
        let l := cs.map fun c =>
          let fl := s.sp d c.2 F.HUB_SPLIT_B_FLOOR
          let ce := s.sp d c.2 F.HUB_SPLIT_B_CEIL
          ({ id := c.2, lo := fl, hi1 := min ce (max fl (s.sp d c.2 F.HUB_SPLIT_A_NEED)), hi2 := ce,
             w := s.sp d c.2 F.HUB_SPLIT_A_WEIGHT, g := 0 } : Share)
        let (l', short, surplus) := splitShares l b
        let s := s.when short fun s =>
          let s := if d = hubDom then s.flag F.HUB_CAPS_SHORT else s.flag F.NODE_SPLIT_STAT_SHORT (domNum d)
          s.evFrom d 0x1B d
        let s := s.when (Nat.beq cls 0) fun s =>
          if d = hubDom then s.wrSat F.HUB_CAPS_SURPLUS surplus else s.wrSat F.NODE_SPLIT_STAT_SURPLUS surplus (domNum d)
        s.grantsOut d cls rail ((cs.zip l').map fun c => (c.1.1, c.1.2, some c.2.g))

/-- Split every class of a domain again (06 R181). -/
def State.splitAll (s : State) (d : Nat) : State :=
  let s := (s.split d 0 0x1F).split d 1 0x1F
  s.each (bitList (s.railmask d) 32) fun s r => s.split d 2 r

/-- Send a child a GRANT in every class, unbound ones included (06 R181, 01 R44). -/
def State.grantAll (s : State) (child : Nat) : State :=
  let d := s.parent child
  let s : State := { s with sentGrants := s.sentGrants.filter fun g => !Nat.beq g.dom child }
  s.splitAll d

/-- The payload of a MEASURE of form APPLIED (05 R161). -/
def appliedPayload (d loop cls rail : Nat) (a : Option Nat) : Nat :=
  pack [(62, 2, 2), (46, 16, d), (37, 9, loop), (35, 2, cls), (30, 5, rail), (0, 25, amtMsg a)]

/-- Q16.16 watts as mW, rounded (05 R159). -/
def wToMw (u : Int) : Int := roundDiv (u * 1000) 65536

/-- mW as Q16.16 watts, rounded and saturated (05 R150). -/
def mwToQ (x : Int) : Int := satS 32 (roundDiv (x * 65536) 1000)

/-- OVERRIDDEN of a loop: CLOSED with U above the applied value (05 R162). DESIGN CHOICE: before the first APPLIED is received the
applied value is LOOP_APPLIED's reset value 0 (log entry 134). -/
def State.loopOvr (s : State) (l : Nat) : State :=
  let o := Nat.beq (s.rd F.LOOP_CTRL_STATE l) 2 && Nat.beq (s.rd F.LOOP_DEST_DEST_KIND l) 1
    && decide (s.v .appliedMw l < wToMw (s.rdI F.LOOP_VAL_U l))
  s.wr F.LOOP_STAT_OVERRIDDEN (b2n o) l

/-- A loop's engine records an applied value it has received (05 R161). -/
def State.appliedTake (s : State) (l : Nat) (a : Option Nat) : State :=
  let x : Int := match a with | some x => x | none => 33554431
  ((s.wrI F.LOOP_LAT_APPLIED (mwToQ x) l).setV .appliedMw x l).loopOvr l

/-- Return the applied value to every loop with a commit standing at a domain (05 R161). -/
def State.appliedOut (s : State) (d cls rail : Nat) : State :=
  let a := s.budget d cls rail
  let ls := (s.grants.filter fun g => Nat.beq g.dom d && Nat.beq g.cls cls && Nat.beq g.rail rail).filterMap (·.loop)
  s.each ls fun s l =>
    match s.loop? l with
    | none => s
    | some r => if r.host = d then s.appliedTake l a else s.sendUp d Mt.measure (appliedPayload d l cls rail a)

/-- Show a domain's budgets in its registers (06 R206). -/
def State.budgetShow (s : State) (d : Nat) : State :=
  let a := amtReg (s.budget d 0 0x1F)
  let f := amtReg (s.budget d 1 0x1F)
  if d = hubDom then (s.wr F.HUB_BUDGET_AVG a).wr F.HUB_BUDGET_FAST f
  else if isLeaf d then
    let n := domNum d
    let s := (s.wr F.LEAF_BUDGET_AVG a n).wr F.LEAF_BUDGET_FAST f n
    s.each (s.leafRails n).zipIdx fun s rk => s.wr F.LEAF_RAIL_BUDGET_RAIL (amtReg (s.budget d 2 rk.1)) n rk.2
  else (s.wr F.NODE_BUDGET_AVG a (domNum d)).wr F.NODE_BUDGET_FAST f (domNum d)

/-! ### The leaf: limits at a gate and at a core -/

/-- A sub-gate's number at its leaf: 2 × port, plus 1 for B. -/
def sgPort (q : Nat) : Nat := q / 2

/-- A field of a sub-gate, by its A and B names. -/
def sgF (q : Nat) (a b : Fld) : Fld := if q % 2 = 0 then a else b

/-- The issue gate ports a leaf has mapped. -/
def State.gates (s : State) (leaf : Nat) : List Nat := s.portsOf 3 leaf

/-- The core clock ports a leaf has mapped. -/
def State.cores (s : State) (leaf : Nat) : List Nat := s.portsOf 4 leaf

/-- The sub-gates of a leaf's mapped gates. -/
def State.subGates (s : State) (leaf : Nat) : List Nat := (s.gates leaf).flatMap fun p => [2 * p, 2 * p + 1]

/-- Whether a sub-gate is enabled. -/
def State.sgEn (s : State) (leaf q : Nat) : Bool := s.is (sgF q F.LEAF_GATE_EN_A F.LEAF_GATE_EN_B) leaf (sgPort q)

/-- A sub-gate's share in quarters (06, LEAF_GATE_n). -/
def State.sgQuarters (s : State) (leaf q : Nat) : Nat :=
  let a := s.rd F.LEAF_GATE_ARR_A leaf (sgPort q)
  if q % 2 = 0 then a else 4 - a

/-- A sub-gate's partition. -/
def State.sgPart (s : State) (leaf q : Nat) : Nat := s.rd (sgF q F.LEAF_GATE_PART_A F.LEAF_GATE_PART_B) leaf (sgPort q)

/-- Whether a sub-gate's fault stands (06 R195). -/
def State.sgFault (s : State) (leaf q : Nat) : Bool := s.is (sgF q F.LEAF_GATE_FAULT_A F.LEAF_GATE_FAULT_B) leaf (sgPort q)

/-- Whether REST runs for a sub-gate (06 R195). -/
def State.sgRest (s : State) (leaf q : Nat) : Bool := s.is (sgF q F.LEAF_GATE_REST_A F.LEAF_GATE_REST_B) leaf (sgPort q)

/-- The present mode (06 R198). -/
def State.mode (s : State) : Nat := s.rd F.HUB_MODE_MODE

/-- LEVEL_LIMIT of a leaf (06 R203). -/
def State.levelLimit (s : State) (leaf : Nat) : Nat := s.par Sec.mode 0x0003 leaf 0 2 256

/-- SAFE_LIMIT of a leaf (03 R109). -/
def State.safeLimit (s : State) (leaf : Nat) : Nat := s.par Sec.timing 0x0001 leaf 0 2 102

/-- SAFE_FMAX of a leaf (03 R109). -/
def State.safeFmax (s : State) (leaf : Nat) : Nat := s.par Sec.timing 0x0002 leaf 0 1 0x28

/-- Whether the conditions of source RESET hold at a leaf (06 R184, R190; 02 R77). -/
def State.rstCond (s : State) (leaf : Nat) : Bool :=
  s.v .islHeld (leafDom leaf) = 1 || s.v .islFields (leafDom leaf) = 0 || s.v .gotAvg leaf = 0 || s.v .gotFast leaf = 0
    || Nat.ble s.pkg Pkg.ramp

/-- Whether CRUST_STOP is asserted (01 R33). -/
def State.crustStop (s : State) : Bool := s.is F.CRUST_STATUS_STOP

/-- The sources in force at a sub-gate, by rising code, with their values (06 R190). -/
def State.gateSources (s : State) (leaf q : Nat) : List (Nat × Nat) :=
  let opt (c : Bool) (x : Nat × Nat) : List (Nat × Nat) := if c then [x] else []
  [(0, s.vn .winBud leaf q)] ++ opt (Nat.blt (s.vn .winLevel leaf) 512) (1, s.vn .winLevel leaf)
    ++ opt (s.is F.LEAF_SHED_HOLD leaf) (2, s.vn .shedBud leaf q)
    ++ opt (s.is F.LEAF_BRAKE_ACTIVE leaf) (3, s.rd F.LEAF_BRAKE_LIMIT leaf)
    ++ opt (Nat.blt (s.vn .winSafe leaf) 512) (4, s.vn .winSafe leaf)
    ++ opt (s.v .proofHold leaf q = 1) (5, 0)
    ++ opt (Nat.blt (s.vn .scoreCode leaf (sgPort q)) 256) (6, s.vn .scoreCode leaf (sgPort q))
    ++ opt (s.sgFault leaf q) (7, 0) ++ opt s.crustStop (8, 0)
    ++ opt (s.v .rstHold leaf = 1 || s.rstCond leaf) (9, 0)

/-- The lowest value of a list of sources and the highest-coded source that gives it (06 R190, R191). -/
def lowest (l : List (Nat × Nat)) : Nat × Nat :=
  match l with
  | [] => (0, 0)
  | x :: r => r.foldl (fun b y => if y.2 ≤ b.2 then y else b) x

/-- Engine cycles of a leaf in a span of ns, in 1/64 cycle: 2 per ns, divided and skipped by the throttle cell of the engine
branch (11 R348; log entry 24). -/
def State.cycles64 (s : State) (leaf dt : Nat) : Nat :=
  if s.v .engStop leaf = 1 then 0
  else dt * 8 * (bitList (s.rd F.LEAF_TCELL_SKIP leaf 0) 16).length / 2 ^ s.rd F.LEAF_TCELL_DIV leaf 0

/-- The cycle of the credit window that a stamp lies in, at a leaf (09 R271, R288). -/
def State.winCycle (s : State) (leaf : Nat) : Nat := min 64 (s.cycles64 leaf (s.time - s.vn .cwAt leaf) / 64)

/-- The SCORE pattern of R271 (09) for clamp code c in cycle i of a window; code 256, no clamp, enables every cycle. -/
def scorePat (c i : Nat) : Bool := Nat.blt (i * c / 256) ((i + 1) * c / 256)

/-- Whether a leaf keeps GP_ISSUE_EN low for SLEEP: in SLEEP, and after WAKE until its next credit window starts (13 R397). -/
def State.issueAsleep (s : State) (leaf : Nat) : Bool :=
  s.pkg = Pkg.sleep || (s.pkg = Pkg.run && s.is F.HUB_PKG_STATE_PREV Pkg.sleep && decide (s.v .cwAt leaf < s.v .pkgAt))

/-- GP_ISSUE_EN_x of a sub-gate in cycle i of its present credit window, once rows rows have been reported in it: the bucket is above
0, ANDed with the SCORE pattern (09 R259, R264, R271); low in SLEEP (13 R397). -/
def State.issueEn (s : State) (leaf q i rows : Nat) : Bool :=
  !s.issueAsleep leaf && decide ((rows : Int) < s.v .bkt leaf q) && scorePat (min 256 (s.vn .scoreCode leaf (sgPort q))) i

/-- Drive GP_ISSUE_EN_x for the present cycle, rows reported in its window being still unknown (09 R264; log entry 140). -/
def State.issueDrive (s : State) (leaf q : Nat) : State :=
  s.setV .gpEn (b2n (s.issueEn leaf q (s.winCycle leaf) 0)) leaf q

/-- Revoke a sub-gate's credits; a debt stays (09 R265). -/
def State.creditRevoke (s : State) (l q : Nat) : State := (s.setV .bkt (min 0 (s.v .bkt l q)) l q).issueDrive l q

/-- Revoke the credits of every sub-gate of a leaf. -/
def State.leafRevoke (s : State) (l : Nat) : State := s.each (s.subGates l) fun s q => s.creditRevoke l q

/-- The index of a source's stall counter (17 R495): 0 BUDGET and LEVEL, 1 SCORE, 2 PROOF, 3 any other. -/
def stallClass (src : Nat) : Nat := if src ≤ 1 then 0 else if src = 6 then 1 else if src = 5 then 2 else 3

/-- The stamp at which a leaf splits for the latch point of a context's number, if one is pending (17 R507). -/
def State.latSplit (s : State) (l c num : Nat) : Option Nat :=
  let v := s.vn .latPend l (c + 16 * num)
  if v = 0 then none else some ((v - 1) / 2)

/-- Which part of a context's latch accumulator takes a count of a stamp: that of the pending point with the earliest split after
it, or the open part (17 R507; 00 R10). -/
def State.latPart (s : State) (l c stamp : Nat) : Nat :=
  ((List.range 16).foldl (fun (b : Nat × Nat) n =>
    match s.latSplit l c n with
    | some x => if Nat.blt stamp x && (Nat.beq b.1 0 || Nat.blt x b.2) then (n + 1, x) else b
    | none => b) (0, 0)).1

/-- Count at a leaf, by the stamp of what is counted: in the window of the stamp and, for a context, in its latch accumulator; slot
16 is unattributed (17 R496, R497, R507). -/
def State.cntAdd (s : State) (l cidx ctx n stamp : Nat) : State :=
  if n = 0 then s
  else (s.addV .cwAcc n l (cidx + 64 * ctx + 2048 * (stamp / 10000))).when (Nat.blt ctx 16) fun s =>
    s.addV .clAcc n l (cidx + 64 * ctx + 2048 * s.latPart l ctx stamp)

/-- Add 1/64 cycles to a remainder, and count the whole cycles at a stamp. -/
def State.cycCount (s : State) (x : Var) (l j n cidx ctx stamp : Nat) : State :=
  let tot := s.vn x l j + n
  (s.setV x (tot % 64 : Nat) l j).cntAdd l cidx ctx (tot / 64) stamp

/-- The context of a sub-gate: CTX of its partition (17 R496). -/
def State.sgCtx (s : State) (l q : Nat) : Nat := s.rd F.LEAF_PART_CTX l (s.sgPart l q)

/-- A field of selector k that a leaf counts by at a stamp, in the layout of LEAF_CNT_SEL_k: a write takes effect at the next
counter window (17 R502). -/
def State.selF (s : State) (l k : Nat) (f : Fld) (stamp : Nat) : Nat :=
  let w := if s.v .cntFrom l k ≤ (stamp / 10000 : Nat) then (s.reg .LEAF_CNT_SEL l k).toNat else s.vn .cntSel l k
  w / 2 ^ f.lsb % 2 ^ f.w

/-- A write of LEAF_CNT_SEL_k: until the next window the leaf counts by the word before it (17 R502). -/
def State.selTake (s : State) (l k : Nat) (w : Word) : State :=
  let n := s.time / 10000
  let s := s.when (s.v .cntFrom l k ≤ (n : Int)) fun s => s.setV .cntSel (s.reg .LEAF_CNT_SEL l k).toNat l k
  (s.setV .cntFrom (n + 1 : Nat) l k).setReg .LEAF_CNT_SEL w l k

/-- The selectors of a code at a leaf, at a stamp. -/
def State.selsOf (s : State) (l code stamp : Nat) : List Nat :=
  (List.range 8).filter fun k => Nat.beq (s.selF l k F.LEAF_CNT_SEL_SEL stamp) code

/-- The selectors of a code whose GMASK holds a gate, at a stamp (17 R502). -/
def State.selsAt (s : State) (l code p stamp : Nat) : List Nat :=
  (s.selsOf l code stamp).filter fun k => bitOf (s.selF l k F.LEAF_CNT_SEL_GMASK stamp) p

/-- Whether a sub-gate's wait register is valid (17 R495, WAIT_CYC). -/
def State.sgWaits (s : State) (l q : Nat) : Bool :=
  s.is (sgF q F.LEAF_SYNC_WAIT_VALID_A F.LEAF_SYNC_WAIT_VALID_B) l (sgPort q)

/-- Account a sub-gate's engine cycles up to a stamp, from where they were last accounted: to EFF's source, its wait, and the
selectors (17 R495, R502; 09 R273), and the time below LEVEL_LIMIT by another source (06 R201). -/
def State.effPiece (s : State) (leaf q upTo : Nat) : State :=
  let a := s.vn .effAt leaf q
  let n := s.cycles64 leaf (upTo - a)
  let src := s.rd (sgF q F.LEAF_GATE_SRC_A F.LEAF_GATE_SRC_B) leaf (sgPort q)
  let eff := s.rd (sgF q F.LEAF_GATE_EFF_A F.LEAF_GATE_EFF_B) leaf (sgPort q)
  let s := (s.setV .effAt upTo leaf q).when
    (Nat.beq s.mode 1 && s.sgEn leaf q && Nat.blt eff (s.levelLimit leaf) && !Nat.beq src 1) fun s =>
      s.addV .levHeld (upTo - a : Nat) leaf (q + 64 * (a / 10000000))
  if n = 0 || !s.sgEn leaf q then s
  else
    let ctx := s.sgCtx leaf q
    let s := s.when (s.sgWaits leaf q) fun s => s.cycCount .wcCyc leaf q n 0x1A ctx a
    let s := s.each (s.selsAt leaf 2 (sgPort q) a) fun s k =>
      s.when (Nat.blt eff (s.selF leaf k F.LEAF_CNT_SEL_THRESH a)) fun s => s.cycCount .cfgCyc leaf (8 * q + k) n (0x20 + k) ctx a
    let s := s.each (s.selsAt leaf 3 (sgPort q) a) fun s k =>
      s.when (Nat.beq src (s.selF leaf k F.LEAF_CNT_SEL_SRCSEL a)) fun s => s.cycCount .cfgCyc leaf (8 * q + k) n (0x20 + k) ctx a
    if eff < 256 then
      let s := s.cycCount .stl leaf (4 * q + stallClass src) n (0x15 + stallClass src) ctx a
      if src = 6 then
        let s := s.addV .scoreCyc n leaf
        s.setReg .LEAF_SCORE_CNT (BitVec.ofNat 64 (s.vn .scoreCyc leaf / 64)) leaf
      else s
    else s

/-- Where the next piece of a sub-gate's cycles ends: the start of the present LEVEL window or counter window, a split of a latch point of its
context, or the present stamp, whichever comes first (06 R201; 17 R497, R507). -/
def State.effCut (s : State) (leaf q : Nat) : Nat :=
  let a := s.vn .effAt leaf q
  let w := s.time / 10000 * 10000
  let m := s.time / 10000000 * 10000000
  let b := if Nat.blt a m then m else if Nat.blt a w then w else s.time
  (List.range 16).foldl (fun b n =>
    match s.latSplit leaf (s.sgCtx leaf q) n with
    | some x => if Nat.blt a x && Nat.blt x b then x else b
    | none => b) b

/-- Account a sub-gate's engine cycles up to the present stamp, in at most the given number of pieces. -/
def State.effRun (s : State) (leaf q fuel : Nat) : State :=
  match fuel with
  | 0 => s.effPiece leaf q s.time
  | f + 1 =>
    let b := s.effCut leaf q
    if Nat.blt b s.time then (s.effPiece leaf q b).effRun leaf q f else s.effPiece leaf q s.time

/-- Account a sub-gate's engine cycles since they were last accounted: at most 16 latch points and two windows split them. -/
def State.effAcct (s : State) (leaf q : Nat) : State :=
  if s.sgEn leaf q then s.effRun leaf q 18 else s.setV .effAt s.time leaf q

/-- Account every sub-gate of a leaf, before what the account depends on changes. -/
def State.leafAcct (s : State) (l : Nat) : State := s.each (s.subGates l) fun s q => s.effAcct l q

/-- The context that a count is attributed to, 16 for none (17 R496). -/
def State.actCtx (s : State) (l : Nat) (a : Act) : Nat :=
  match a.src with
  | .gate p b => s.sgCtx l (2 * p + b2n b)
  | .core _ c => c.getD 16
  | .input c => c.getD 16

/-- The counts that a leaf's reports give, in their classes and in the selectors of code 1 (17 R495, R496, R502). -/
def State.cntActs (s : State) (l : Nat) (acts : List Act) : State :=
  s.each (acts.filter fun a => Nat.ble a.cls 0x14) fun s a =>
    let s := s.cntAdd l a.cls (s.actCtx l a) a.n a.time
    s.each ((s.selsOf l 1 a.time).filter fun k => Nat.beq (s.selF l k F.LEAF_CNT_SEL_CLASS a.time) a.cls) fun s k =>
      match a.src with
      | .gate p _ =>
        if 0x0C < a.cls then s.cntAdd l (0x20 + k) 16 a.n a.time
        else if bitOf (s.selF l k F.LEAF_CNT_SEL_GMASK a.time) p then s.cntAdd l (0x20 + k) (s.actCtx l a) a.n a.time else s
      | _ => if a.cls ≤ 0x0C then s else s.cntAdd l (0x20 + k) 16 a.n a.time

/-- Form EFF and SRC of a sub-gate (06 R190). -/
def State.gateEff (s : State) (leaf q : Nat) : State :=
  let s := s.effAcct leaf q
  let (src, v) := lowest (s.gateSources leaf q)
  let s := s.wr (sgF q F.LEAF_GATE_EFF_A F.LEAF_GATE_EFF_B) v leaf (sgPort q)
  s.wr (sgF q F.LEAF_GATE_SRC_A F.LEAF_GATE_SRC_B) src leaf (sgPort q)

/-- The FMAX codes BOOST, LEVEL, FIXED and MIN of a core port (06 R203). -/
def State.coreFmax (s : State) (leaf p k : Nat) : Nat :=
  let d := [0x90, 0x78, 0x70, 0x28].getD k 0
  s.par Sec.mode 0x0002 (s.logicalOf 4 leaf p) k 1 d

/-- The sources in force at a core clock port (06 R191). -/
def State.coreSources (s : State) (leaf p : Nat) : List (Nat × Nat) :=
  let opt (c : Bool) (x : Nat × Nat) : List (Nat × Nat) := if c then [x] else []
  opt ((s.gates leaf).isEmpty && !Nat.beq s.mode 2) (0, s.rd F.LEAF_CORE_BUD leaf p)
    ++ [(1, s.rd F.LEAF_CORE_MODE_CEIL leaf p), (2, s.rd F.LEAF_CORE_WEAR leaf p)]
    ++ opt (Nat.beq s.mode 0 && Nat.blt (s.vn .coreSlot leaf p) 256) (3, s.vn .coreSlot leaf p)
    ++ opt (s.is F.LEAF_BRAKE_ACTIVE leaf) (4, s.rd F.LEAF_BRAKE_FMAX leaf)
    ++ opt (!(s.v .safeSil leaf = 0)) (5, s.safeFmax leaf)
    ++ opt s.crustStop (6, 0)
    ++ opt (s.v .islHeld (leafDom leaf) = 1 || s.v .islFields (leafDom leaf) = 0) (7, 0)

/-- Form EFF and SRC of a core clock port (06 R191). -/
def State.coreEff (s : State) (leaf p : Nat) : State :=
  let (src, v) := lowest (s.coreSources leaf p)
  (s.wr F.LEAF_CORE_EFF v leaf p).wr F.LEAF_CORE_SRC src leaf p

/-- Form every limit of a leaf again after a change that takes effect at once; source RESET sets at once and revokes credits (06 R190,
R191; 09 R265). -/
def State.leafEff (s : State) (leaf : Nat) : State :=
  let s := s.when (s.rstCond leaf) fun s => (s.setV .rstHold 1 leaf).leafRevoke leaf
  let s := s.each (s.subGates leaf) fun s q => s.gateEff leaf q
  s.each (s.cores leaf) fun s p => s.coreEff leaf p

/-- Form every limit of every leaf. -/
def State.allEff (s : State) : State := s.each s.leaves fun s l => s.leafEff l

/-! ### The leaf's conversion -/

/-- A rational rounded to nearest, ties to even (00 R6). -/
def ratRound (q : ℚ) : Int := roundDiv q.num q.den

/-- Energies of a unit of class c at a leaf over the rail slots ks, theta- and V-scaled, in pJ (06 R176, R186; 04 R115). -/
def State.unitEnergy (s : State) (leaf : Nat) (ks : List Nat) (c : Nat) : ℚ :=
  ((s.bindings leaf).filter fun b => Nat.beq b.1 c).foldl (fun acc b =>
    match s.railSlot leaf b.2.1 with
    | none => acc
    | some k =>
      if ks.contains k then
        acc + ((b.2.2.2 * (s.leafTheta leaf k b.2.2.1 : Int) * (s.estQ leaf k : Int) : Int) : ℚ) / (2 ^ 61 : Nat)
      else acc) 0

/-- The rail slots that a class index of a leaf covers: 0 AVG and 1 FAST every rail, 2 + k class RAIL of slot k alone (06 R176). -/
def classRails (c : Nat) : List Nat := if c < 2 then [0, 1, 2, 3] else [c - 2]

/-- ε_cold over the rail slots ks (06 R186). -/
def State.epsCold (s : State) (leaf : Nat) (ks : List Nat) : ℚ :=
  ((List.range 8).foldl (fun b c => max b (s.unitEnergy leaf ks c)) 0) + 16 * s.unitEnergy leaf ks 8

/-- ε_s over the rail slots ks (06 R186). -/
def State.epsSub (s : State) (leaf q : Nat) (ks : List Nat) : ℚ :=
  let cold := s.epsCold leaf ks
  let rows := s.vn .sgRowsLast leaf q
  let en := sumInt (ks.map fun k => s.v .sgELast leaf (q + 64 * k))
  let e : ℚ := if 256 ≤ rows then (en : ℚ) / ((2 ^ 61 * rows : Nat) : ℚ) else cold
  max (cold / 8) (min cold e)

/-- Kept cycles of 16 of a skip mask. -/
def maskKept (m : Nat) : Nat := (bitList m 16).length

/-- The clock rate of the engine branch, cycles per ns, after the throttle cell at the leaf's port 0, at the end of the last interval
(06 R186, 11 R348; log entry 24). -/
def State.engineRate (s : State) (leaf : Nat) : ℚ :=
  2 * ((s.vn .engKept leaf : Nat) : ℚ) / (16 * (2 ^ s.vn .engDiv leaf : Nat))

/-- f_s (06 R186). -/
def State.sgRate (s : State) (leaf q : Nat) : ℚ :=
  let n := s.vn .slotsLast leaf
  let c := s.vn .ecycLast leaf (sgPort q)
  if c = 0 || n = 0 then s.engineRate leaf else (c : ℚ) / ((64 * n : Nat) : ℚ)

/-- Pfull_s of a sub-gate for class index c (0 AVG, 1 FAST, 2 + k RAIL of slot k), mW (06 R186). -/
def State.pfull (s : State) (leaf q c : Nat) : ℚ :=
  let ks := classRails c
  let e := if c = 0 then s.epsSub leaf q ks else (s.epsSub leaf q ks + s.epsCold leaf ks) / 2
  e * (s.rd F.LEAF_GATE_ROWS leaf (sgPort q) : Nat) * ((s.sgQuarters leaf q : Nat) : ℚ) / 4 * s.sgRate leaf q

/-- The fixed part of a rail slot, mW, unrounded (06 R185). -/
def State.fixedRail (s : State) (leaf k : Nat) : ℚ :=
  let n := s.vn .slotsLast leaf
  let st : ℚ := ((s.leafTheta leaf k 0 * s.rd F.LEAF_EST_STATIC leaf k : Nat) : ℚ) / 16384
  if n = 0 then st else st + ((s.v .fxLast leaf k : Int) : ℚ) / ((2 ^ 61 * 64 * n : Nat) : ℚ)

/-- The allowance for a budget and a fixed part (06 R185). -/
def allowance (g : Option Nat) (x : Int) : Option Nat := g.map fun a => ((a : Int) - x).toNat

/-- The sub-gates that take part in a split: enabled and not dropped (06 R187, R196). -/
def State.sgIn (s : State) (leaf : Nat) : List Nat :=
  (s.subGates leaf).filter fun q => s.sgEn leaf q && s.v .dropped leaf q = 0

/-- The allowances of the leaf's partitions for a class (06 R187): one without a taking part has need 0 and still takes its weight's
portion of what is left over the needs (log entry 25). -/
def State.partShares (s : State) (leaf c a : Nat) : List (Nat × Nat) :=
  let subs := s.sgIn leaf
  let l := (List.range 4).map fun p =>
    let need := (ratRound ((subs.filter fun q => Nat.beq (s.sgPart leaf q) p).foldl (fun acc q => acc + s.pfull leaf q c) 0)).toNat
    ({ id := p, lo := 0, hi1 := need, hi2 := 2 ^ 40, w := s.rd F.LEAF_PART_WEIGHT leaf p, g := 0 } : Share)
  (splitShares l a).1.map fun x => (x.id, x.g)

/-- A sub-gate's share of its partition's allowance, mW (06 R187, R196). -/
def State.sgShare (s : State) (leaf q c : Nat) (part : Nat) : ℚ :=
  let p := s.sgPart leaf q
  let held (x : Nat) : Bool := decide (s.v .shHold leaf (8 * x + c) = 1)
  let heldAmt (x : Nat) : ℚ := ((s.v .shNum leaf (8 * x + c) : Int) : ℚ) / ((s.vn .shDen leaf (8 * x + c) : Nat) : ℚ)
  let mem := (s.subGates leaf).filter fun x => s.sgEn leaf x && Nat.beq (s.sgPart leaf x) p
  if held q then heldAmt q
  else
    let rest := ((part : Nat) : ℚ) - (mem.filter held).foldl (fun acc x => acc + heldAmt x) 0
    let free := mem.filter fun x => !held x
    let w (x : Nat) : ℚ := (s.sgQuarters leaf x : Nat)
    let tot := free.foldl (fun acc x => acc + w x) 0
    let base (x : Nat) : ℚ := if tot = 0 then 0 else max 0 rest * w x / tot
    let out := free.filter fun x => s.v .dropped leaf x = 1
    let extra := out.foldl (fun acc x =>
      let others := free.filter fun y => s.v .dropped leaf y = 0 && !Nat.beq (sgPort y) (sgPort x)
      let ow := others.foldl (fun a y => a + w y) 0
      if others.contains q && ow ≠ 0 then acc + base x * w q / ow else acc) 0
    base q + extra

/-- The code of a share (06 R187). -/
def shareCode (share pf : ℚ) : Nat :=
  if pf = 0 then 256 else (clampInt 0 256 (ratRound (256 * share / pf))).toNat

/-- The classes a leaf converts: index (0 AVG, 1 FAST, 2 + k RAIL), allowance (06 R185). -/
def State.leafClasses (s : State) (leaf : Nat) : List (Nat × Option Nat) :=
  let d := leafDom leaf
  let rails := (s.leafRails leaf).zipIdx
  let x := ratRound (rails.foldl (fun acc rk => acc + s.fixedRail leaf rk.2) 0)
  [(0, allowance (s.budget d 0 0x1F) x), (1, allowance (s.budget d 1 0x1F) x)]
    ++ rails.map fun rk => (2 + rk.2, allowance (s.budget d 2 rk.1) (ratRound (s.fixedRail leaf rk.2)))

/-- Whether a core clock port is stopped (06 R188). -/
def State.coreStopped (s : State) (leaf p : Nat) : Bool :=
  (Nat.beq (lowest ((s.coreSources leaf p).filter fun x => !Nat.beq x.1 0)).2 0)
    || (s.v .ccpQreq leaf p = 1 && s.v .ccpQack leaf p = 1)

/-- ε_core, pJ per cycle: the energy that the core's cycles took in the last interval, by its cycles (06 R188). -/
def State.epsCore (s : State) (leaf p : Nat) : ℚ :=
  let n := s.vn .ccycLast leaf p
  if n < 256 then s.unitEnergy leaf [0, 1, 2, 3] 0x13 + s.unitEnergy leaf [0, 1, 2, 3] 0x14
  else ((s.v .coreELast leaf p : Int) : ℚ) / ((2 ^ 61 * n : Nat) : ℚ)

/-- Conversion at a leaf without issue gates (06 R188), and the FIXED-mode mask (06 R199; log entry 26). -/
def State.coreConvert (s : State) (leaf : Nat) : State :=
  let run := (s.cores leaf).filter fun p => !s.coreStopped leaf p
  let a := (s.leafClasses leaf).foldl (fun b c => minAmt b c.2) none
  s.each run fun s p =>
    let e := s.epsCore leaf p
    let ceil := s.rd F.LEAF_CORE_MODE_CEIL leaf p
    let share : Option ℚ := a.map fun x => ((x : Nat) : ℚ) / ((run.length : Nat) : ℚ)
    let code : Int := match share with
      | none => ceil
      | some sh => if e = 0 then ceil else ratRound (sh / (e / 40))
    let s := s.wr F.LEAF_CORE_BUD (max (min ceil (s.coreFmax leaf p 3)) (min ceil code.toNat)) leaf p
    let keep : Int := match share with
      | none => 16
      | some sh =>
        let pf := e * ((s.coreFmax leaf p 2 : Nat) : ℚ) / 40
        if pf = 0 then 16 else (16 * sh / pf).floor
    let s := s.setV .fixKeep (if s.mode = 2 then clampInt 4 16 keep else 16) leaf p
    s.coreEff leaf p

/-- LEAF_CONVERSION (06 R185 to R188); not while the leaf is frozen for HOLD (R189). -/
def State.convert (s : State) (leaf : Nat) : State :=
  let rails := (s.leafRails leaf).zipIdx
  let s := s.wrSat F.LEAF_CONV_FIXED (ratRound (rails.foldl (fun acc rk => acc + s.fixedRail leaf rk.2) 0)) leaf
  let s := s.each rails fun s rk => s.wrSat F.LEAF_RAIL_BUDGET_FIXED (ratRound (s.fixedRail leaf rk.2)) leaf rk.2
  let s := s.wrSat F.LEAF_CONV_EPS_COLD (ratRound (256 * s.epsCold leaf [0, 1, 2, 3])) leaf
  if s.v .leafFrozen leaf = 1 then s
  else if (s.gates leaf).isEmpty then s.coreConvert leaf
  else
    let cls := s.leafClasses leaf
    let parts := cls.map fun c => (c.1, c.2, match c.2 with | some a => s.partShares leaf c.1 a | none => [])
    let partOf (l : List (Nat × Nat)) (p : Nat) : Nat := match l.find? (fun x => Nat.beq x.1 p) with | some x => x.2 | none => 0
    let s := s.each (List.range 4) fun s p =>
      s.wr F.LEAF_PART_ALLOW (match parts with | (_, _, l) :: _ => min 0xFFFF_FFFF (partOf l p) | [] => 0) leaf p
    s.each (s.subGates leaf) fun s q =>
      let shares := parts.map fun c => (c.1, c.2.1, s.sgShare leaf q c.1 (partOf c.2.2 (s.sgPart leaf q)))
      let code :=
        if !s.sgEn leaf q || s.v .dropped leaf q = 1 then 0
        else shares.foldl (fun b c => match c.2.1 with
          | none => b
          | some _ => min b (shareCode c.2.2 (s.pfull leaf q c.1))) 256
      let s := s.each shares fun s c =>
        if s.v .shHold leaf (8 * q + c.1) = 1 then s
        else (s.setV .shNum c.2.2.num leaf (8 * q + c.1)).setV .shDen c.2.2.den leaf (8 * q + c.1)
      s.wr (sgF q F.LEAF_GATE_BUD_A F.LEAF_GATE_BUD_B) code leaf (sgPort q)

/-! ### Standing grants -/

/-- A grant or commit comes to stand at a domain: the budget, its registers, the split or conversion, and the applied value
returned (05 R161, 06 R177, R181, R185). -/
def State.budgetSet (s : State) (d cls rail : Nat) (loop : Option Nat) (a : Option Nat) : State :=
  let old := s.budget d cls rail
  let s : State := { s with grants := (s.grants.filter fun g => !(Nat.beq g.dom d && Nat.beq g.cls cls && Nat.beq g.rail rail && g.loop == loop))
      ++ [{ dom := d, cls := cls, rail := rail, loop := loop, amt := a }] }
  let s := s.budgetShow d
  let new := s.budget d cls rail
  let s := s.when (loop.isSome || decide (new ≠ old)) fun s => s.appliedOut d cls rail
  if isLeaf d then s.convert (domNum d)
  else s.when (decide (new ≠ old)) fun s => s.split d cls rail

/-- A domain's island resets: its grants, commits and registers fall (05 R161). -/
def State.budgetDrop (s : State) (d : Nat) : State :=
  State.budgetShow { s with grants := s.grants.filter fun g => !Nat.beq g.dom d } d

/-- A loop's commit in class BCLASS toward a domain from its host (05 R159, 06 R180): false where a guard dropped it. -/
def State.commitTo (s : State) (host dest cls rail loop : Nat) (a : Option Nat) : Bool × State :=
  if host = dest then (true, s.budgetSet dest cls rail (some loop) a)
  else
    match s.hop host dest with
    | none => (false, s)
    | some c => s.sendDown c Mt.budget (grantPayload cls rail dest (some loop) a)

/-- A GRANT delivered at its destination (06 R180, R184, R189; 03 R108; 01 R44). DESIGN CHOICE: where HOLD ended by a trip and no
RESUME was taken, the limit of 01 R44 falls with the first GRANT outside HOLD (log entry 138). -/
def State.grantAt (s : State) (d cls rail : Nat) (loop : Option Nat) (a : Option Nat) : State :=
  if isLeaf d then
    let n := domNum d
    let s := s.when (cls = 0) fun s => s.setV .gotAvg 1 n
    let s := s.when (cls = 1) fun s => s.setV .gotFast 1 n
    let s := s.when (s.v .safeSil n = 2) fun s => s.setV .safeSil 0 n
    let s := s.when (!Nat.beq s.pkg Pkg.hold) fun s => (s.setV .leafFrozen 0 n).setV .safeHold 0 n
    (s.budgetSet d cls rail loop a).leafEff n
  else s.budgetSet d cls rail loop a

/-- A NEED that reaches its node engine, or the hub's own children: every class is split again (06 R180, R181). -/
def State.needAt (s : State) (d k need weight : Nat) : State :=
  ((s.spW d k F.HUB_SPLIT_A_NEED need).spW d k F.HUB_SPLIT_A_WEIGHT weight).splitAll d

/-- The hub gives a domain's parent its NEED and WEIGHT (06 R180). -/
def State.needSend (s : State) (d need weight : Nat) : State :=
  let p := s.parent d
  let k := s.childPos d
  if p = hubDom then s.needAt hubDom k need weight
  else
    match s.hop hubDom p with
    | none => s
    | some c => (s.sendDown c Mt.budget (needPayload (k - 1) weight (domNum p) need)).2

/-! ### The open interval's sums for conversion -/

/-- Add a slot's counts to the sums of R185, R186 and R188 of the interval in which the slot starts. -/
def State.convAccum (s : State) (leaf j : Nat) (acts : List Act) : State :=
  let bs := s.bindings leaf
  let hasGates := !(s.gates leaf).isEmpty
  let inX (c : Nat) : Bool := Nat.ble 10 c && (hasGates || !(c = 0x13 || c = 0x14))
  let e (sel : Act → Bool) (k r : Nat) : Int :=
    sumInt ((bs.filter fun b => Nat.beq b.2.1 r).map fun b =>
      b.2.2.2 * (s.leafTheta leaf k b.2.2.1 : Int) * (s.estQ leaf k : Int)
        * (sumNat ((acts.filter fun a => Nat.beq a.cls b.1 && sel a).map (·.n)) : Nat))
  let rails := (s.leafRails leaf).zipIdx
  let s := s.each rails fun s rk => s.addV .fxAcc (e (fun a => inX a.cls) rk.2 rk.1) leaf (rk.2 + 4 * j)
  let s := s.each (s.subGates leaf) fun s q =>
    let mine (a : Act) : Bool := a.src = .gate (sgPort q) (q % 2 = 1) && Nat.ble a.cls 9
    let rows := sumNat ((acts.filter fun a => mine a && Nat.ble a.cls 7).map (·.n))
    let s := s.addV .sgRows rows leaf (q + 64 * j)
    s.each rails fun s rk => s.addV .sgE (e mine rk.2 rk.1) leaf (q + 64 * (rk.2 + 4 * j))
  let s := s.each (s.gates leaf) fun s p =>
    s.addV .ecyc (sumNat ((acts.filter fun a => Nat.beq a.cls 0x0B && a.src = .gate p false).map (·.n))) leaf (p + 32 * j)
  s.each (s.cores leaf) fun s p =>
    let mine (a : Act) : Bool := (a.cls = 0x13 || a.cls = 0x14) && (match a.src with | .core q _ => Nat.beq q p | _ => false)
    let n := sumNat ((acts.filter fun a => mine a && Nat.beq a.cls 0x13).map (·.n))
    (s.addV .ccyc n leaf (p + 32 * j)).addV .coreE (sumInt (rails.map fun rk => e mine rk.2 rk.1)) leaf (p + 32 * j)

/-- Interval j closes: its sums become the last interval's, and the engine branch's rate is noted (06 R185, R186). -/
def State.convRoll (s : State) (leaf j : Nat) : State :=
  let s := (s.setV .engKept (maskKept (s.rd F.LEAF_TCELL_SKIP leaf 0)) leaf).setV .engDiv (s.rd F.LEAF_TCELL_DIV leaf 0) leaf
  let s := s.setV .slotsLast (s.v .estSlots leaf j) leaf
  let s := s.each (List.range 4) fun s k => s.setV .fxLast (s.v .fxAcc leaf (k + 4 * j)) leaf k
  let s := s.each (s.subGates leaf) fun s q =>
    let s := s.setV .sgRowsLast (s.v .sgRows leaf (q + 64 * j)) leaf q
    s.each (List.range 4) fun s k => s.setV .sgELast (s.v .sgE leaf (q + 64 * (k + 4 * j))) leaf (q + 64 * k)
  let s := s.each (s.gates leaf) fun s p => s.setV .ecycLast (s.v .ecyc leaf (p + 32 * j)) leaf p
  let s := s.each (s.cores leaf) fun s p =>
    (s.setV .ccycLast (s.v .ccyc leaf (p + 32 * j)) leaf p).setV .coreELast (s.v .coreE leaf (p + 32 * j)) leaf p
  let s := (s.dropV .fxAcc leaf fun x => Nat.ble (x / 4) j).dropV .sgRows leaf fun x => Nat.ble (x / 64) j
  let s := (s.dropV .sgE leaf fun x => Nat.ble (x / 256) j).dropV .ecyc leaf fun x => Nat.ble (x / 32) j
  (s.dropV .ccyc leaf fun x => Nat.ble (x / 32) j).dropV .coreE leaf fun x => Nat.ble (x / 32) j

end Sys2Proof.Machine
end

