-- ==== Sys2Proof/Machine/Governor.lean ====
section
/-!
DEFINITION. Governor loops (05): inputs and setpoints, the control law, commits, loop states, scheduling.
-/
namespace Sys2Proof.Machine

/-! ### Arithmetic (05 R156) -/

/-- x × 2^-n rounded to nearest, ties to even (05 R156). -/
def rne (x : Int) (n : Nat) : Int := roundDiv x (2 ^ n)

/-- Saturation to 32 bits (05 R156). -/
def sat32 (x : Int) : Int := satS 32 x

/-- The period of a period class, ns (05 R145). -/
def periodNs (c : Nat) : Nat := [1000, 10000, 100000, 1000000].getD c 1000

/-- P of a loop. -/
def State.loopP (s : State) (l : Nat) : Nat := periodNs (s.rd F.LOOP_SCHED_PCLASS l)

/-- The first nominal tick time of a loop at or after an instant (05 R147). -/
def State.nominalFrom (s : State) (l a : Nat) : Nat :=
  let p := s.loopP l
  let ph := s.rd F.LOOP_SCHED_PHASE l
  if a ≤ ph then ph else ph + p * ceilDiv (a - ph) p

/-- The state of a loop (05 R163): 0 OPEN, 1 CLOSING, 2 CLOSED. -/
def State.loopSt (s : State) (l : Nat) : Nat := s.rd F.LOOP_CTRL_STATE l

/-! ### Inputs and setpoints -/

/-- The mean of a rail's fused values over the last n intervals whose values the hub holds (05 R151). DESIGN CHOICE: over those held
where they are fewer, 0 where there are none (log entry 134). -/
def State.meanF (s : State) (r n : Nat) : ℚ :=
  let m := min n (s.vn .fHistN)
  if m = 0 then 0
  else (sumInt ((List.range m).map fun k => s.v .fHist r ((s.vn .hubIv + 1000 - k) % 1000)) : Int) / ((m : Nat) : ℚ)

/-- The mean of a domain's attributed power on a rail over the last n intervals (05 R151), as meanF takes it. -/
def State.meanA (s : State) (d r n : Nat) : ℚ :=
  let m := min n (s.vn .fHistN)
  if m = 0 then 0
  else (sumInt ((List.range m).map fun k => s.v .aHist d (32 * ((s.vn .hubIv + 1000 - k) % 1000) + r)) : Int) / ((m : Nat) : ℚ)

/-- A rail's value for IN_SEL, mW (05 R151). -/
def State.railValue (s : State) (r : Nat) (avg : Bool) (n : Nat) : ℚ :=
  if avg then s.meanF r n else (s.rd F.RAIL_FUSED_FAST r : Nat)

/-- The sum of a rational over a list. -/
def sumRat {α : Type} (l : List α) (f : α → ℚ) : ℚ := l.foldl (fun acc x => acc + f x) 0

/-- Domain power, mW (05 R150, R151 kind 3). DESIGN CHOICE: a rail in which no leaf participates (shareD 0) adds 0 (log entry 134). -/
def State.domPower (s : State) (host d : Nat) (avg : Bool) (n : Nat) : ℚ :=
  let rails := bitList (s.railmask d) 32
  if host ≠ hubDom then
    if d = host then sumRat (s.domRails d) fun r => sumInt ((s.children d).map fun c => s.v .estLast c r)
    else sumRat (s.domRails d) fun r => (s.v .estLast d r : Int)
  else if avg then sumRat rails fun r => s.meanA d r n
  else sumRat rails fun r =>
    let den := s.v .shareD r
    if den = 0 then 0 else ((s.rd F.RAIL_FUSED_FAST r : Nat) : ℚ) * (s.v .shareN d r : Int) / (den : Int)

/-- Where a host keeps its leaves' TEMP reports: 0 the hub, 1 + n node engine n (11 R341). -/
def repHost (host : Nat) : Nat := if isNode host then 1 + domNum host else 0

/-- Whether the report of a leaf that a host keeps is usable (11 R341). -/
def State.repUsable (s : State) (h l : Nat) : Bool :=
  decide (0 ≤ s.v .repAt l h) && decide ((s.time : Int) - 40000 < s.v .repAt l h)

/-- The hottest temperature of a domain at a loop's host, 1/64 degree (11 R351). -/
def State.domTemp (s : State) (host d : Nat) : Int :=
  let ls := s.leavesIn d
  let reps := (ls.filter fun l => s.repUsable (repHost host) l).map fun l => s.v .repTemp l (repHost host)
  let hub := if d = hubDom then (s.instsOf 7 hubDom).filterMap fun x => s.siteTemp? x.logical else []
  match maxInt? (reps ++ hub) with
  | some t => t
  | none => (maxInt? (ls.map fun l => s.parI Sec.estCoeff 0x000A l 0 2 0x1A40)).getD (105 * 64)

/-- The input sample of a loop, Q16.16 (05 R150). -/
def State.sample (s : State) (l : Nat) : Int :=
  let avg := s.is F.LOOP_CFG_IN_SEL l
  let n := s.loopP l / 1000
  let ix := s.rd F.LOOP_CFG_IN_INDEX l
  let q (mw : ℚ) : Int := satS 32 (ratRound (mw * 65536 / 1000))
  match s.rd F.LOOP_CFG_IN_KIND l with
  | 0 => q (sumRat s.railNums fun r => s.railValue r avg n)
  | 1 => q (s.railValue ix avg n)
  | 2 =>
    let ref := s.rd F.RAIL_VSEL_REF ix
    if ref = 0 then 0 else satS 32 (ratRound (s.railValue ix avg n * 2 * 65536 / ((ref : Nat) : ℚ)))
  | 3 => q (s.domPower (s.rd F.LOOP_SCHED_HOST l) ix avg n)
  | _ => satS 32 (s.domTemp (s.rd F.LOOP_SCHED_HOST l) ix * 1024)

/-- The effective setpoint of a loop (05 R153, 06 R178). DESIGN CHOICE: U of a linked loop that has never committed is its stored U,
which is MANUAL of the image (log entry 134). -/
def State.effSp (s : State) (l : Nat) : Int :=
  let sp := min (s.rdI F.LOOP_SP_SP l) (s.rdI F.LOOP_SP_MAX_SP_MAX l)
  let sp := if s.is F.LOOP_CFG_SP_LINK_EN l then min sp (s.rdI F.LOOP_VAL_U (s.rd F.LOOP_CFG_SP_LINK l)) else sp
  if Nat.beq (s.rd F.LOOP_CFG_LIMIT_KIND l) 0 && s.is F.HUB_CAPS_EDP_EXH then min sp (s.parI Sec.limits 0x0002 l 0 4 0x7FFF_FFFF) else sp

/-- The word of a gain table that an engine of a host uses: a node engine has a copy of its own (05 R168). -/
def State.gtWord (s : State) (r : Reg) (host t b : Nat) : Word :=
  let c := if host = hubDom then 0 else s.v (if r = .GT_A then .gtNodeA else .gtNodeB) (t + 128 * domNum host) b
  if c = 0 then s.reg r t b else BitVec.ofInt 64 (c - 1)

/-- A field of band b of a loop's gain table. -/
def State.gt (s : State) (l : Nat) (f : Fld) (b : Nat) : Nat :=
  getBits (s.gtWord f.r (s.rd F.LOOP_SCHED_HOST l) (s.rd F.LOOP_CFG_GTABLE l) b) f.lsb f.w

/-- A signed field of band b of a loop's gain table. -/
def State.gtI (s : State) (l : Nat) (f : Fld) (b : Nat) : Int := toSigned f.w (s.gt l f b)

/-- A node engine's copy of a gain table takes a word (05 R168). -/
def State.gtNodeSet (s : State) (r : Reg) (d t b : Nat) (w : Word) : State :=
  s.setV (if r = .GT_A then .gtNodeA else .gtNodeB) (if w = s.reg r t b then 0 else (w.toNat + 1 : Nat)) (t + 128 * domNum d) b

/-- The hub's copy of a gain table takes a word; the node engines' copies stay (05 R168). -/
def State.gtHubSet (s : State) (r : Reg) (t b : Nat) (w : Word) (nodes : List Nat) : State :=
  let old := nodes.map fun d => (d, s.gtWord r d t b)
  (if r = .GT_A then s.setReg .GT_A w t b else s.setReg .GT_B w t b).each old fun s x => s.gtNodeSet r x.1 t b x.2

/-- The band of an error in a loop's gain table (05 R155). -/
def State.band (s : State) (l : Nat) (e : Int) : Nat :=
  ((List.range 31).map (· + 1)).foldl (fun b k => if s.gtI l F.GT_A_EDGE k ≤ e then k else b) 0

/-- Set sticky saturation bits; LOOP_SAT when their OR rises (05 R157). -/
def State.loopSat (s : State) (l : Nat) (p i o : Bool) : State :=
  let before := s.is F.LOOP_STAT_SAT_P l || s.is F.LOOP_STAT_SAT_I l || s.is F.LOOP_STAT_SAT_OUT l
  let s := s.when p fun s => s.flag F.LOOP_STAT_SAT_P l
  let s := s.when i fun s => s.flag F.LOOP_STAT_SAT_I l
  let s := s.when o fun s => s.flag F.LOOP_STAT_SAT_OUT l
  s.when (!before && (p || i || o)) fun s => s.evFrom (s.rd F.LOOP_SCHED_HOST l) 0x18 l

/-! ### Commit -/

/-- LEAF_THR_REQ to every present leaf beneath DEST when k changes (11 R352). -/
def State.thrCommit (s : State) (l : Nat) (u : Int) : State :=
  let k := (roundDiv u 65536).toNat
  if s.v .thrSent l = (k : Int) then s
  else
    let s := s.setV .thrSent k l
    s.each (s.leavesIn (s.rd F.LOOP_DEST_DEST l)) fun s n => s.hubWrite (leafDom n) .LEAF_THR_REQ 0 k

/-- The value a loop's commit gives the destination: for LIMIT_KIND 5 with BORROWED − LENT added, floored at 0 (15 R465). -/
def State.leased (s : State) (l : Nat) (mw : Int) : Nat :=
  if Nat.beq (s.rd F.LOOP_CFG_LIMIT_KIND l) 5 then (mw + s.v .leaseBorrowed - s.v .leaseLent).toNat else mw.toNat

/-- Commit U (05 R159, R160). DESIGN CHOICE: the commit stamp is the tick's own, the tick taking no time (log entry 134). -/
def State.loopCommit (s : State) (l : Nat) (u : Int) (nom : Nat) : State :=
  let lat := min 65535 (s.time - nom)
  let s := s.wr F.LOOP_LAT_COMMIT_LAT lat l
  let s := s.wr F.LOOP_LAT_COMMIT_MAX (max lat (s.rd F.LOOP_LAT_COMMIT_MAX l)) l
  match s.rd F.LOOP_DEST_DEST_KIND l with
  | 1 =>
    let mw := wToMw u
    let s := s.setV .lpCommit mw l
    let cls := s.rd F.LOOP_DEST_BCLASS l
    let rail := if cls = 2 then s.rd F.LOOP_CFG_IN_INDEX l else 0x1F
    let (ok, s) := s.commitTo (s.rd F.LOOP_SCHED_HOST l) (s.rd F.LOOP_DEST_DEST l) cls rail l (some (s.leased l mw))
    let s := s.when (!ok) fun s => s.flag F.LOOP_STAT_DEST_ABSENT l
    s.loopOvr l
  | 2 => s.thrCommit l u
  | _ => s

/-- A change of LENT or BORROWED adjusts the facility loops' commits at once (15 R465). -/
def State.leaseAdjust (s : State) : State :=
  s.each (s.loops.filter fun r => Nat.beq (s.rd F.LOOP_CFG_LIMIT_KIND r.loop) 5 && Nat.beq (s.rd F.LOOP_DEST_DEST_KIND r.loop) 1
      && decide (0 ≤ s.v .lpCommit r.loop)) fun s r =>
    let l := r.loop
    (s.commitTo r.host (s.rd F.LOOP_DEST_DEST l) (s.rd F.LOOP_DEST_BCLASS l) 0x1F l (some (s.leased l (s.v .lpCommit l)))).2

/-! ### Ticks -/

/-- Clamp to two limits. -/
def clampTo (lo hi x : Int) : Int := min (max x lo) hi

/-- The law of a CLOSED tick (05 R156). -/
def State.closedTick (s : State) (l nom : Nat) : State :=
  let y := s.sample l
  let sp := s.effSp l
  let e := sat32 (sp - y)
  let b := s.band l e
  let p0 := rne (s.gtI l F.GT_A_KP_M b * e) (s.gt l F.GT_B_KP_S b)
  let p := sat32 p0
  let d0 := rne (s.gtI l F.GT_B_KI_M b * e) (s.gt l F.GT_B_KI_S b)
  let d1 := sat32 d0
  let hi := s.is F.LOOP_STAT_CLAMP_HI l
  let lo := s.is F.LOOP_STAT_CLAMP_LO l
  let ovr := s.is F.LOOP_STAT_OVERRIDDEN l
  let d2 := if 0 < d1 && (hi || ovr) then 0 else d1
  let di := if d2 < 0 && lo then 0 else d2
  let i0 := s.rdI F.LOOP_VAL_I l + di
  let i1 := sat32 i0
  let i := clampTo (s.rdI F.LOOP_INT_LIM_INT_MIN l) (s.rdI F.LOOP_INT_LIM_INT_MAX l) i1
  let v0 := p + i
  let v := sat32 v0
  let omin := s.rdI F.LOOP_OUT_LIM_OUT_MIN l
  let omax := s.rdI F.LOOP_OUT_LIM_OUT_MAX l
  let u := clampTo omin omax v
  let s := s.loopSat l (decide (e ≠ sp - y) || decide (p ≠ p0)) (decide (d1 ≠ d0) || decide (i1 ≠ i0) || decide (i ≠ i1))
    (decide (v ≠ v0) || decide (u ≠ v))
  let s := s.wr F.LOOP_STAT_CLAMP_HI (b2n (omax < v)) l
  let s := s.wr F.LOOP_STAT_CLAMP_LO (b2n (v < omin)) l
  let s := s.wr F.LOOP_STAT_BAND b l
  let s := (s.wrI F.LOOP_ERR_E e l).wrI F.LOOP_ERR_Y y l
  let s := s.wrI F.LOOP_SP_EFF_SP sp l
  let s := (s.wrI F.LOOP_VAL_I i l).wrI F.LOOP_VAL_U u l
  s.loopCommit l u nom

/-- An OPEN or CLOSING tick (05 R165). -/
def State.openTick (s : State) (l nom : Nat) : State :=
  let y := s.sample l
  let sp := s.effSp l
  let e := sat32 (sp - y)
  let s := s.loopSat l (decide (e ≠ sp - y)) false false
  let s := s.wr F.LOOP_STAT_BAND (s.band l e) l
  let s := (s.wrI F.LOOP_ERR_E e l).wrI F.LOOP_ERR_Y y l
  let s := (s.wrI F.LOOP_SP_EFF_SP sp l).setV .lpE0 e l
  if s.is F.LOOP_MANUAL_MAN_EN l then
    let m := s.rdI F.LOOP_MANUAL_MANUAL l
    let u := clampTo (s.rdI F.LOOP_OUT_LIM_OUT_MIN l) (s.rdI F.LOOP_OUT_LIM_OUT_MAX l) m
    let s := s.loopSat l false false (decide (u ≠ m))
    (s.wrI F.LOOP_VAL_U u l).loopCommit l u nom
  else s

/-- Whether a loop's engine stands (05 R600). -/
def State.engineStands (s : State) (l : Nat) : Bool :=
  let p := s.pkg
  let h := s.rd F.LOOP_SCHED_HOST l
  p = Pkg.off || p = Pkg.aon || p = Pkg.verify || p = Pkg.ramp || p = Pkg.deepSleep || (!(h = hubDom) && decide (s.v .islHeld h = 1))

/-- A stand begins for a loop, or ends (05 R600). -/
def State.loopArm (s : State) (l : Nat) : State :=
  if s.engineStands l then s.setV .lpNom (-1) l
  else if 0 ≤ s.v .lpNom l then s
  else
    let n := s.nominalFrom l s.time
    (s.setV .lpNom n l).setV .lpDue n l

/-- Arm or stand every loop after a change of the package state or of a host's reset (05 R600). -/
def State.loopsArm (s : State) : State := s.each s.loops fun s r => s.loopArm r.loop

/-- Whether a loop's tick may start: it is armed and its scheduled start has come (05 R169, R170). -/
def State.tickDue (s : State) (l : Nat) : Bool := decide (0 ≤ s.v .lpNom l) && decide (s.v .lpDue l ≤ (s.time : Int))

/-- Whether a loop's tick goes before another's on one engine: the earliest nominal time, then the shorter period, then the lower
loop number (05 R169). -/
def State.tickBefore (s : State) (m l : Nat) : Bool :=
  decide (s.v .lpNom m < s.v .lpNom l)
    || (s.v .lpNom m = s.v .lpNom l && (Nat.blt (s.loopP m) (s.loopP l) || (Nat.beq (s.loopP m) (s.loopP l) && Nat.blt m l)))

/-- Whether another loop of a loop's engine is to run first (05 R169). -/
def State.tickWaits (s : State) (l : Nat) : Bool :=
  s.loops.any fun r => !Nat.beq r.loop l && Nat.beq (s.rd F.LOOP_SCHED_HOST r.loop) (s.rd F.LOOP_SCHED_HOST l)
    && Nat.beq (s.rd F.LOOP_SCHED_ENGINE r.loop) (s.rd F.LOOP_SCHED_ENGINE l) && s.tickDue r.loop && s.tickBefore r.loop l

/-- The engine index of a loop (05 R175). -/
def State.loopEngine (s : State) (l : Nat) : Nat :=
  let h := s.rd F.LOOP_SCHED_HOST l
  let e := s.rd F.LOOP_SCHED_ENGINE l
  if h = hubDom then e else 8 + 2 * domNum h + e

/-- The LOOP trace frame (17 R522). -/
def State.loopFrame (s : State) (l : Nat) : State :=
  if s.par Sec.trace 0x0011 l 0 1 0 = 1 then
    s.frame 2 0 l s.time (s.rd F.LOOP_ERR_Y l + 2 ^ 32 * s.rd F.LOOP_ERR_E l)
      (s.rd F.LOOP_VAL_U l + 2 ^ 32 * s.rd F.LOOP_STAT_BAND l + 2 ^ 40 * getBits (s.reg .LOOP_STAT l) 0 8)
  else s

/-- A tick that starts now (05 R156, R165, R169 to R171): none before its scheduled start, before another tick that the engine is to
run first, or while the engine stands. -/
def State.loopTick (s : State) (l : Nat) : State :=
  if (s.loop? l).isNone || s.engineStands l then s
  else
    let s := s.loopArm l
    if !s.tickDue l || s.tickWaits l then s
    else
      let nom := s.vn .lpNom l
      let p := s.loopP l
      let a := s.time
      let late := a - nom
      let s := s.wr F.LOOP_LATE_LATE (min 0xFFFF_FFFF late) l
      let s := s.wr F.LOOP_LATE_MAX_LATE (max (min 0xFFFF_FFFF late) (s.rd F.LOOP_LATE_MAX_LATE l)) l
      let s := if s.loopSt l = 2 then s.closedTick l nom else s.openTick l nom
      let s := s.incWrap F.LOOP_COUNT_TICKS 1 l
      let s := s.loopFrame l
      if 4 * p < late then
        let n' := s.nominalFrom l (a + 3 * p / 4)
        let s := s.flag F.LOOP_STAT_SLIP l
        let s := s.evFrom (s.rd F.LOOP_SCHED_HOST l) 0x19 l
        let s := s.incSat F.LOOP_COUNT_SLIPS 1 l
        let s := s.incSat F.ENG_STATUS_SLIPS 1 (s.loopEngine l)
        let s := s.incSat F.LOOP_COUNT_MISSED ((n' - nom) / p - 1) l
        (s.setV .lpNom n' l).setV .lpDue n' l
      else
        (s.setV .lpNom ((nom + p : Nat) : Int) l).setV .lpDue ((a + max (3 * p / 4) (p - late) : Nat) : Int) l

/-! ### Loop states -/

/-- PRELOAD (05 R165). -/
def State.preload (s : State) (l : Nat) : State :=
  let e0 : Int := s.v .lpE0 l
  let b := s.band l e0
  let p0 := sat32 (rne (s.gtI l F.GT_A_KP_M b * e0) (s.gt l F.GT_B_KP_S b))
  let x := s.rdI F.LOOP_VAL_U l - p0
  let i1 := sat32 x
  let i := clampTo (s.rdI F.LOOP_INT_LIM_INT_MIN l) (s.rdI F.LOOP_INT_LIM_INT_MAX l) i1
  let s := s.loopSat l false (decide (i ≠ x)) false
  let s := s.wrI F.LOOP_VAL_I i l
  let s := (s.wr F.LOOP_STAT_CLAMP_HI 0 l).wr F.LOOP_STAT_CLAMP_LO 0 l
  s.wr F.LOOP_STAT_OVERRIDDEN 0 l

/-- Close an OPEN loop: CLOSING under a loader hold, else preload and CLOSED (05 R163). -/
def State.loopClose (s : State) (l : Nat) : State :=
  if s.loopSt l ≠ 0 then s
  else if s.is F.LOOP_CTRL_LDR_HOLD l then s.wr F.LOOP_CTRL_STATE 1 l
  else (s.preload l).wr F.LOOP_CTRL_STATE 2 l

/-- To OPEN, the output held (05 R163). -/
def State.loopOpen (s : State) (l : Nat) : State :=
  (s.wr F.LOOP_CTRL_STATE 0 l).wr F.LOOP_STAT_OVERRIDDEN 0 l

/-- The loader hold on a loop ends (05 R163). -/
def State.loopUnhold (s : State) (l : Nat) : State :=
  let s := s.wr F.LOOP_CTRL_LDR_HOLD 0 l
  if s.loopSt l = 1 then (s.preload l).wr F.LOOP_CTRL_STATE 2 l else s

/-- The package enters RUN: every loop takes the trigger (05 R163). -/
def State.loopsRun (s : State) : State := s.each s.loops fun s r => s.loopClose r.loop

/-- The package leaves RUN, or SLEEP for a state other than RUN (05 R163). -/
def State.loopsLeave (s : State) (toSleep : Bool) : State :=
  s.each s.loops fun s r => if toSleep && s.is F.LOOP_CTRL_SLEEP_RUN r.loop && Nat.beq (s.loopSt r.loop) 2 then s else s.loopOpen r.loop

/-- The loops hosted at a node engine. -/
def State.loopsAt (s : State) (d : Nat) : List Nat := (s.loops.filter fun r => Nat.beq r.host d).map (·.loop)

/-- A host node engine holds its image fields again (05 R163). -/
def State.loopsHostBack (s : State) (d : Nat) : State :=
  s.each (s.loopsAt d) fun s l =>
    let s := s.loopArm l
    if s.pkg = Pkg.run || (s.pkg = Pkg.sleep && s.is F.LOOP_CTRL_SLEEP_RUN l) then s.loopClose l else s

/-- LOOP_CTRL command OPEN or CLOSE at a loop (05 R163): the status and the state. -/
def State.loopCmd (s : State) (l cmd : Nat) : Status × State :=
  if (s.loop? l).isNone then (.eAbsent, s)
  else
    match cmd with
    | 0 => (.ok, s)
    | 1 => (.ok, if s.loopSt l = 0 then s else s.loopOpen l)
    | 2 =>
      if s.loopSt l ≠ 0 then (.ok, s)
      else if s.pkg = Pkg.run || (s.pkg = Pkg.sleep && s.is F.LOOP_CTRL_SLEEP_RUN l) then (.ok, s.loopClose l)
      else (.eRange, s)
    | _ => (.eRange, s)

/-- A loop's host island, reached through UP channels (05 R175, 18 R538). -/
def State.loopReach (s : State) (l : Nat) : Bool :=
  match s.loop? l with
  | none => false
  | some r => r.host = hubDom || s.pathUpTo r.host

end Sys2Proof.Machine
end

