-- ==== Sys2Proof/Machine/LinkBase.lean ====
section
/-!
DEFINITION. The Dandoxa link's ports and sent frames (15 R446 to R459), as the sync unit and the link use them.
-/
namespace Sys2Proof.Machine

/-- DXL_CONFIG of the active image (15 R471). -/
def State.dxl? (s : State) : Option DxlConfig :=
  match s.img.active with
  | some g => g.dxl
  | none => none

/-- The states of a link port (15 R452). -/
abbrev Lk.down : Nat := 0
abbrev Lk.auth : Nat := 1
abbrev Lk.up : Nat := 2
abbrev Lk.pfail : Nat := 3

/-- STATE of a link port. -/
def State.portSt (s : State) (n : Nat) : Nat := s.rd F.DXL_PORT_A_STATE n

/-- Whether a link port is UP. -/
def State.portUp (s : State) (n : Nat) : Bool := Nat.beq (s.portSt n) Lk.up

/-- The port of the tree parent; none at the root, and without DXL_CONFIG (15 R456; log entry 33). -/
def State.treeParent (s : State) : Option Nat :=
  match s.dxl? with
  | some d => if d.parentPort = 0xFF then none else some d.parentPort
  | none => none

/-- The ports to tree children (15 R456). -/
def State.treeChildren (s : State) : List Nat :=
  match s.dxl? with
  | some d => bitList d.childMask 8
  | none => []

/-- The tree ports, in port order. -/
def State.treePorts (s : State) : List Nat :=
  (List.range 8).filter fun n => decide (s.treeParent = some n) || s.treeChildren.contains n

/-- SYS_OFS (15 R455): the offset held, and the part made so far of the correction that is under way at 1 ns per 16 ns. -/
def State.sysOfs (s : State) : Int :=
  let n : Int := (s.time - s.vn .tsRemAt) / 16
  s.rdI F.DXL_TIME_SYS_OFS + clampInt (-n) n (s.v .tsRem)

/-- System time (15, "System time"). -/
def State.sysTime (s : State) : Int := (s.time : Int) + s.sysOfs

/-- Frame types (15 R448). -/
abbrev Ft.arrive : Nat := 1
abbrev Ft.release : Nat := 2
abbrev Ft.brk : Nat := 3
abbrev Ft.offer : Nat := 4
abbrev Ft.grant : Nat := 5
abbrev Ft.recall : Nat := 6
abbrev Ft.timeSync : Nat := 7
abbrev Ft.heartbeat : Nat := 8
abbrev Ft.failNotice : Nat := 9

/-- Send a frame on a port that is UP (15 R448); SEQ 0xFFFF_FFFF is never sent (R451). -/
def State.frameOut (s : State) (n typ body : Nat) : State :=
  if !s.portUp n then s
  else if s.rd F.DXL_PORT_A_TX_SEQ n = 0xFFFF_FFFF then s.setV .txStop 1 n
  else ((s.emit (.frame n typ body)).incWrap F.DXL_PORT_A_TX_SEQ 1 n).setV .txLast s.time n

/-- The body of ARRIVE and RELEASE (15 R448). -/
def spanBody (obj gen job : Nat) : Nat := pack [(0, 14, obj), (16, 16, gen), (32, 16, job)]

/-- The body of BREAK (15 R448). -/
def breakBody (obj gen job : Nat) (all : Bool) (reason : Nat) : Nat :=
  pack [(0, 14, obj), (16, 16, gen), (32, 16, job), (48, 1, b2n all), (56, 8, reason)]

/-- The causes of a BREAK (15 R448). -/
abbrev Br.own : Nat := 1
abbrev Br.lost : Nat := 2
abbrev Br.failed : Nat := 3
abbrev Br.protocol : Nat := 4
abbrev Br.ecc : Nat := 5

end Sys2Proof.Machine
end

