-- ==== Sys2Proof/Machine/Lease.lean ====
section
/-!
DEFINITION. Budget leases (15 R462 to R466), and the governor commands whose commits a lease follows.
-/
namespace Sys2Proof.Machine

/-- A link item of TIMING (15 R472). -/
def State.lnk (s : State) (key len dflt : Nat) : Nat := s.par Sec.timing key idxAll 0 len dflt

/-- The ports that DXL_CONFIG marks LEASE (15 R462, R471). -/
def State.leasePorts (s : State) : List Nat :=
  match s.dxl? with
  | some d => bitList d.leaseMask 8
  | none => []

/-- The present lease with a port's peer, mW. -/
def State.leaseAmt (s : State) (n : Nat) : Nat := s.rd F.DXL_PORT_C_LEASE n
/-- Whether this package lends on a port. -/
def State.lends (s : State) (n : Nat) : Bool := s.is F.DXL_PORT_C_LENDER n

/-- Set a port's lease; LENT or BORROWED follows, and with it the facility loops' commits (15 R465). -/
def State.leaseSet (s : State) (n amt : Nat) (lender : Bool) : State :=
  let d : Int := (amt : Int) - s.leaseAmt n
  let s := (s.wr F.DXL_PORT_C_LEASE amt n).wr F.DXL_PORT_C_LENDER (b2n lender) n
  let s := if lender then s.addV .leaseLent d else s.addV .leaseBorrowed d
  let s := (s.wrSat F.DXL_LEASE_LENT (s.v .leaseLent)).wrSat F.DXL_LEASE_BORROWED (s.v .leaseBorrowed)
  s.when (decide (d ≠ 0)) fun s => s.leaseAdjust

/-- End a port's lease; an end other than by expiry raises LEASE_LOST (15 R466). -/
def State.leaseEnd (s : State) (n : Nat) (lost : Bool) : State :=
  let held := !Nat.beq (s.leaseAmt n) 0
  let s := ((s.leaseSet n 0 (s.lends n)).setV .lsRecall 0 n).wr F.DXL_PORT_C_LENDER 0 n
  s.when (lost && held) fun s => s.event 0x66 n

/-- The lowest class AVG commit at the hub of the loops that a test of LIMIT_KIND selects (15 R462). -/
def State.hubCommit (s : State) (sel : Nat → Bool) : Option Nat :=
  let l := s.grants.filterMap fun g =>
    match g.loop with
    | some k => if g.dom = hubDom && g.cls = 0 && sel (s.rd F.LOOP_CFG_LIMIT_KIND k) then g.amt else none
    | none => none
  l.foldl (fun a x => minAmt a (some x)) none

/-- ΣNEED of the hub's children, mW. -/
def State.needSum (s : State) : Nat :=
  sumNat ((List.range (s.children hubDom).length).map fun k => s.sp hubDom (k + 1) F.HUB_SPLIT_A_NEED)

/-- WANT (15 R462), mW. -/
def State.leaseWant (s : State) : Nat :=
  match s.hubCommit (fun k => k = 5) with
  | none => 0
  | some bf => (match s.hubCommit (fun k => k ≠ 5) with | some bx => min s.needSum bx | none => s.needSum) - bf

/-- Whether this package may trade: RUN or HOLD (15 R462). -/
def State.leaseTrades (s : State) : Bool := s.pkg = Pkg.run || s.pkg = Pkg.hold

/-- The ports on which a lease is lent out. -/
def State.lentPorts (s : State) : List Nat :=
  (List.range 8).filter fun n => s.lends n && !Nat.beq (s.leaseAmt n) 0

/-- Show an end time of a lease, in system time (15 R474). -/
def State.leaseTEnd (s : State) (n : Nat) (hub : Int) : State :=
  s.wrI F.DXL_PORT_D_T_END (hub + s.sysOfs) n

/-- The next LSEQ of a port. -/
def State.leaseSeq (s : State) (n : Nat) : Nat × State :=
  let x := (s.vn .lsSent n + 1) % 65536
  (x, (s.setV .lsSent x n).wr F.DXL_PORT_C_LSEQ x n)

/-- Body of LEASE_GRANT and LEASE_RECALL (15 R448), with a time in system time. -/
def leaseBody (amt lseq : Nat) (sys : Int) : Nat := pack [(0, 32, amt), (32, 16, lseq), (64, 64, ofSigned 64 sys)]

/-- LEASE_RECALL of a lease that this package lends (15 R466). -/
def State.leaseRecallSend (s : State) (n amt : Nat) : State :=
  let eff := min (s.v .lsEnd n) ((s.time : Int) + 1000 * s.lnk 0x0035 4 200)
  let (q, s) := s.leaseSeq n
  let s := ((s.setV .lsRecall 1 n).setV .lsTo amt n).setV .lsEff eff n
  (s.leaseTEnd n eff).frameOut n Ft.recall (leaseBody amt q (eff + s.sysOfs))

/-- A lender whose WANT is above 0, or whose tray value is below LENT, recalls every lease it holds out (15 R466). -/
def State.leaseCheck (s : State) : State :=
  let l := s.lentPorts.filter fun n => s.v .lsRecall n = 0
  let trays := s.loops.filterMap fun r =>
    if Nat.beq (s.rd F.LOOP_CFG_LIMIT_KIND r.loop) 5 && decide (0 ≤ s.v .lpCommit r.loop) then some (s.v .lpCommit r.loop) else none
  if l.isEmpty then s
  else if s.leaseTrades && Nat.blt 0 s.leaseWant || trays.any (fun x => decide (x < s.v .leaseLent)) then
    s.each l fun s n => s.leaseRecallSend n 0
  else s

/-- LEASE_GRID (15 R462): a new cycle of the lease grid begins; its offers are skipped while no hub runs (R469). -/
def execLeaseGrid (t : Nat) (s : State) : Host.Outcome State Fault Refusal :=
  let s := s.start t
  let k := s.sysTime / 100000
  .next (if k = s.v .lsGrid then s
    else
      let s := (s.setV .lsGrid k).each (List.range 8) fun s n => s.setV .ofWant 0 n
      if !s.hubUp then s
      else
      let s := s.leaseCheck
      let recalls := s.lentPorts.any fun n => decide (s.v .lsRecall n = 1)
      let want := if s.leaseTrades then s.leaseWant else 0
      let spare := if !s.leaseTrades || recalls || decide (0 < s.v .leaseBorrowed) || 0 < want then 0
        else s.rd F.HUB_CAPS_SURPLUS - s.lnk 0x0036 4 50000
      let s := (s.wr F.DXL_OFFER_SPARE spare).wr F.DXL_OFFER_WANT want
      let ups := s.leasePorts.filter fun n => s.portUp n
      let seller := ups.find? fun n => decide (0 < s.v .ofSpare n)
      let feed := match s.dxl? with | some d => d.feed | none => 0
      s.each ups fun s n =>
        s.frameOut n Ft.offer (pack [(0, 32, spare), (32, 32, if seller = some n then want else 0), (64, 16, feed)]))

/-- LEASE_DECISION (15 R463). -/
def execLeaseDecision (t : Nat) (s : State) : Host.Outcome State Fault Refusal :=
  let s := s.start t
  let spare := s.rd F.DXL_OFFER_SPARE
  let ups := s.leasePorts.filter fun n => s.portUp n
  let wants := sumNat (ups.map fun n => s.vn .ofWant n)
  let lender := 0 < spare || !s.lentPorts.isEmpty
  let texp : Int := 100000 * s.v .lsGrid + 1000 * s.lnk 0x0034 4 1000
  .next (if !lender || !s.hubUp then s
    else
      let s := s.each ups fun s n =>
        let want := s.vn .ofWant n
        let out := s.lentPorts.contains n
        -- a lease borrowed from the peer stands in the port's registers
        if (!out && (want = 0 || !Nat.beq (s.leaseAmt n) 0)) || decide (s.v .lsRecall n = 1) then s
        else
          let share := if wants = 0 then 0 else min want (spare * want / wants)
          let s := s.leaseSet n ((if out then s.leaseAmt n else 0) + share) true
          let s := (s.setV .lsEnd (texp - s.sysOfs) n).wrI F.DXL_PORT_D_T_END texp n
          let (q, s) := s.leaseSeq n
          s.frameOut n Ft.grant (leaseBody (s.leaseAmt n) q texp)
      s.each ups fun s n => s.setV .ofWant 0 n)

/-- LEASE_EXPIRY (15 R466): at the borrower, T_EXP has come. -/
def execLeaseExpiry (t n : Nat) (s : State) : Host.Outcome State Fault Refusal :=
  let s := s.start t
  .next (if !s.lends n && 0 < s.leaseAmt n && s.v .lsEnd n ≤ s.time then s.leaseEnd n false else s)

/-- RECALL_EFFECT (15 R466): at the borrower, T_EFF has come. -/
def execRecallEffect (t n : Nat) (s : State) : Host.Outcome State Fault Refusal :=
  let s := s.start t
  .next (if !s.lends n && s.v .lsRecall n = 1 && s.v .lsEff n ≤ s.time then
      if s.v .lsTo n = 0 then s.leaseEnd n true
      else ((s.leaseSet n (min (s.leaseAmt n) (s.vn .lsTo n)) false).setV .lsRecall 0 n).leaseTEnd n (s.v .lsEnd n)
    else s)

/-- LEASE_GUARD_EXPIRY (15 R466): at the lender, an end time plus LEASE_GUARD has come. -/
def execLeaseGuardExpiry (t n : Nat) (s : State) : Host.Outcome State Fault Refusal :=
  let s := s.start t
  let g : Int := 1000 * s.lnk 0x0037 2 1
  .next (if !s.lends n || s.leaseAmt n = 0 then s
    else if s.v .lsRecall n = 1 && s.v .lsEff n + g ≤ s.time then
      if s.v .lsTo n = 0 then s.leaseEnd n true
      else ((s.leaseSet n (min (s.leaseAmt n) (s.vn .lsTo n)) true).setV .lsRecall 0 n).leaseTEnd n (s.v .lsEnd n)
    else if s.v .lsEnd n + g ≤ s.time then s.leaseEnd n (!s.portUp n)
    else s)

/-- A port leaves UP (15 R466): the borrower's lease ends at once; the lender's end is brought forward, and a recall that runs stands. -/
def State.leasePortDown (s : State) (n : Nat) (failed : Bool) : State :=
  if s.leaseAmt n = 0 then s
  else if s.lends n && !failed then
    let e := min (s.v .lsEnd n) (s.v .rxLast n + 100000)
    (s.setV .lsEnd e n).when (decide (s.v .lsRecall n = 0)) fun s => s.leaseTEnd n e
  else s.leaseEnd n true

/-- Entry to FAIL ends every lease at once (15 R466, 12 R379). -/
def State.leaseFail (s : State) : State := s.each (List.range 8) fun s n => s.when (!Nat.beq (s.leaseAmt n) 0) fun s => s.leaseEnd n true

/-- Whether an LSEQ is greater, modulo 65,536, than the last one accepted on a port (15 R464). -/
def State.lseqNew (s : State) (n q : Nat) : Bool :=
  let d := (q + 65536 - s.vn .lsAcc n) % 65536
  Nat.ble 1 d && Nat.ble d 32767

/-- Accept an LSEQ. -/
def State.lseqTake (s : State) (n q : Nat) : State := (s.setV .lsAcc q n).wr F.DXL_PORT_C_LSEQ q n

/-- A LEASE_OFFER accepted from a port (15 R462). -/
def State.offerTake (s : State) (n spare want feed : Nat) : State :=
  let mine := match s.dxl? with | some d => Nat.beq d.feed feed | none => false
  if mine && s.leasePorts.contains n then (s.setV .ofSpare spare n).setV .ofWant want n else s

/-- A LEASE_GRANT accepted from a port (15 R464): T_EXP is in system time. -/
def State.grantTake (s : State) (n amt lseq : Nat) (texp : Int) : State :=
  if !s.leasePorts.contains n || !s.lseqNew n lseq then s
  else
    let s := s.lseqTake n lseq
    if s.lends n || amt < s.leaseAmt n then (s.incSat F.DXL_PORT_B_LFAULT 1 n).leaseEnd n true
    else
      let s := (s.leaseSet n amt false).setV .lsEnd (texp - s.sysOfs) n
      s.when (decide (s.v .lsRecall n = 0)) fun s => s.wrI F.DXL_PORT_D_T_END texp n

/-- A LEASE_RECALL accepted from a port (15 R466): T_EFF is in system time. -/
def State.recallTake (s : State) (n amt lseq : Nat) (teff : Int) : State :=
  if !s.leasePorts.contains n || !s.lseqNew n lseq then s
  else
    let s := s.lseqTake n lseq
    if s.lends n || s.leaseAmt n = 0 then s
    else
      let s := ((s.setV .lsRecall 1 n).setV .lsTo amt n).setV .lsEff (teff - s.sysOfs) n
      s.wrI F.DXL_PORT_D_T_END teff n

/-! ### Governor commands -/

/-- Whether a loop's engine is held up, with its ticks running late (05 R171): no hub runs, or the host's clock is in its quiet
period (13 R403). -/
def State.engineHeld (s : State) (l : Nat) : Bool :=
  let h := s.rd F.LOOP_SCHED_HOST l
  (h = hubDom && !s.hubUp) || decide (0 < s.v .clkQuiet (unitOf h))

/-- LOOP_TICK (05 R156). -/
def execLoopTick (t l : Nat) (s : State) : Host.Outcome State Fault Refusal :=
  let s := s.start t
  .next (if s.engineHeld l then s else (s.loopTick l).leaseCheck)

/-- A command of LOOP_CTRL at the loop's host, where that can be reached (05 R163, R175). -/
def State.loopOp (s : State) (l cmd : Nat) : Status × State := if s.loopReach l then s.loopCmd l cmd else (.eAbsent, s)

/-- A command in LOOP_CTRL: at the hub, or sent on to the node engine that hosts the loop (05 R163, R168). -/
def State.loopCtrl (s : State) (p : Port) (l cmd : Nat) : State :=
  let d := match s.loop? l with | some r => r.host | none => hubDom
  if d = hubDom || !s.hubUp || !p.priv || (s.loopOp l cmd).1 ≠ .ok then s.command p .LOOP_CTRL (fun s => s.loopOp l cmd) l
  else
    let a := regAddr .LOOP_CTRL l
    let w : Word := BitVec.ofNat 64 (16 * cmd)
    let (sent, s) := s.hubCmd d 3 a w.toNat (.copy (some p) a w true [])
    if sent then s else s.answer p .LOOP_CTRL .eAbsent l

/-- LOOP_CTRL command OPEN (05 R163). -/
def execLoopOpen (t : Nat) (p : Port) (l : Nat) (s : State) : Host.Outcome State Fault Refusal :=
  .next ((s.start t).loopCtrl p l 1)

/-- LOOP_CTRL command CLOSE (05 R163). -/
def execLoopClose (t : Nat) (p : Port) (l : Nat) (s : State) : Host.Outcome State Fault Refusal :=
  .next ((s.start t).loopCtrl p l 2)

end Sys2Proof.Machine
end

