-- ==== Sys2Proof/Machine/Starter.lean ====
section
/-!
DEFINITION. STARTER (07): marks and visits, learning, NEED and WEIGHT, invalidation, and its commands.
-/
namespace Sys2Proof.Machine

/-- A global parameter of STARTER_SEED (07 R225). -/
def State.strPar (s : State) (key len dflt : Nat) : Nat := s.par Sec.starterSeed key idxAll 0 len dflt

/-- LEARN_SHIFT. -/
def State.learnShift (s : State) : Nat := s.strPar 1 1 3
/-- WEIGHT_MIN. -/
def State.weightMin (s : State) : Nat := s.strPar 3 2 0x0010
/-- WEIGHT_MAX. -/
def State.weightMax (s : State) : Nat := s.strPar 4 2 0x0400
/-- A leaf's LEAF_BASE, mW. -/
def State.leafBase (s : State) (l : Nat) : Nat := s.par Sec.starterSeed 0x0010 l 0 4 0

/-- A weight held to [WEIGHT_MIN, WEIGHT_MAX]. -/
def State.weightClamp (s : State) (w : Int) : Nat := (min (max w s.weightMin) s.weightMax).toNat

/-- The slots. -/
abbrev slots16 : List Nat := List.range 16

/-! ### Footprint -/

/-- Q(c, l) of a present leaf (07 R210). -/
def State.foot (s : State) (l c : Nat) : Nat := if s.pathUpTo (leafDom l) then s.vn .fp l c else 0

/-- Q(c). -/
def State.footAll (s : State) (c : Nat) : Nat := sumNat (s.leaves.map fun l => s.foot l c)

/-- Show Q(c) in STR_CTX_c. -/
def State.footShow (s : State) : State :=
  s.each slots16 fun s c => s.wr F.STR_CTX_QUARTERS (s.footAll c) c

/-- The sample that a stamp lies in is to be discarded for a slot (07 R212). -/
def State.smpSpoil (s : State) (c : Nat) : State := s.setV .smpBad 1 c (s.time / 10000)

/-- A gate's written fields PART, ARR and EN, bits [52:44], come into force (06, LEAF_GATE_n). -/
def State.gateTake (s : State) (l p : Nat) : State :=
  if s.v .gatePend l p = 0 then s else s.setReg .LEAF_GATE (setBits (s.reg .LEAF_GATE l p) 44 9 (s.vn .gatePend l p - 1)) l p

/-- The hub takes a leaf's footprint from its partitions and gates (07 R210). -/
def State.footTake (s : State) (l : Nat) : State :=
  let old := slots16.map fun c => s.footAll c
  -- a gate's write that waits for the credit window counts as written
  let z := s.each (s.gates l) fun z p => z.gateTake l p
  let subs := z.sgIn l
  let q (sel : Nat → Bool) : Nat := sumNat ((subs.filter sel).map fun x => z.sgQuarters l x)
  let s := s.each slots16 fun s c =>
    let mine (x : Nat) : Bool := Nat.beq (z.rd F.LEAF_PART_CTX l (z.sgPart l x)) c
    (s.setV .fp (q mine) l c).setV .fpN (subs.filter mine).length l c
  let s := s.setV .fp (q fun _ => true) l 16
  let s := s.each slots16 fun s c => s.when (!Nat.beq (s.footAll c) (old.getD c 0)) fun s => s.smpSpoil c
  s.footShow

/-! ### NEED and WEIGHT -/

/-- CEIL of a domain, mW (06 R203). -/
def State.domCeil (s : State) (d : Nat) : Nat := s.par Sec.limits 0x0010 d 4 4 0xFFFF_FFFF
/-- FLOOR of a domain, mW. -/
def State.domFloor (s : State) (d : Nat) : Nat := s.par Sec.limits 0x0010 d 0 4 0
/-- DOM_NEED of a domain, mW. -/
def State.domNeed (s : State) (d : Nat) : Nat := s.par Sec.limits 0x0012 d 0 4 (s.domCeil d)
/-- DOM_WEIGHT of a domain. -/
def State.domWeight (s : State) (d : Nat) : Nat := s.par Sec.limits 0x0011 d 0 2 0x0100

/-- Whether a slot is in a phase whose entry is usable (07 R216). -/
def State.slotUsable (s : State) (c : Nat) : Bool :=
  s.is F.STR_CTX_IN_PHASE c && s.is F.STR_W5_VF c (s.rd F.STR_CTX_PHASE c)

/-- lineP of R216 (07). -/
def State.lineP (s : State) (c p r : Nat) : Nat :=
  let nq := s.rd F.STR_W0_NQ c p
  let pb := s.rd F.STR_W0_PB c p
  let rf := s.rd F.STR_W1_RF c p
  let rb := s.rd F.STR_W1_RB c p
  let ve := s.is F.STR_W5_VE c p
  if rf ≤ r then nq
  else if ve && Nat.blt rb rf && Nat.ble rb r then
    ((pb : Int) + roundDiv (((nq : Int) - pb) * ((r : Int) - rb)) (rf - rb)).toNat
  else if ve && Nat.blt rb rf then (roundDiv (pb * r : Nat) rb).toNat
  else (roundDiv (nq * r : Nat) rf).toNat

/-- nq of a usable entry (07 R216). -/
def State.entryNq (s : State) (c p : Nat) : Nat :=
  if s.is F.STR_W6_PREF_EN c p then
    s.lineP c p (roundDiv (s.strPar 6 4 512000 * s.rd F.STR_W6_PREF_LIMIT c p : Nat) 256).toNat
  else s.rd F.STR_W0_NQ c p

/-- nq(c) (07 R216), for a slot whose phase is usable. -/
def State.slotNq (s : State) (c : Nat) : Nat := s.entryNq c (s.rd F.STR_CTX_PHASE c)

/-- w(c) (07 R216), for a slot whose phase is usable. -/
def State.slotW (s : State) (c : Nat) : Nat :=
  let p := s.rd F.STR_CTX_PHASE c
  let base := if s.is F.STR_W5_VE c p then s.rd F.STR_W2_ELAST c p else s.strPar 5 2 0x0100
  let pw := if s.is F.STR_W6_PREF_EN c p then s.rd F.STR_W6_PREF_WEIGHT c p else 256
  s.weightClamp (roundDiv (base * pw : Nat) 256)

/-- U(l), the usable quarters of a leaf (07 R217). -/
def State.usableQ (s : State) (l : Nat) : Nat :=
  sumNat ((slots16.filter s.slotUsable).map fun c => s.foot l c)

/-- NEED and WEIGHT of a leaf (07 R217). -/
def State.leafNeed (s : State) (l : Nat) : Nat × Nat :=
  let d := leafDom l
  let u := s.usableQ l
  if u = 0 || (s.gates l).isEmpty then (s.domNeed d, s.domWeight d)
  else
    let cs := (slots16.filter s.slotUsable).filter fun c => Nat.blt 0 (s.foot l c)
    let nc : ℚ := (sumNat (cs.map fun c => s.foot l c * s.slotNq c) : Nat)
    let base := s.leafBase l
    let qt := s.vn .fp l 16
    let no : ℚ := ((s.domNeed d - base : Nat) : ℚ) * ((qt - u : Nat) : ℚ) / ((qt : Nat) : ℚ) * 1000
    let need := (ratRound ((((1000 * base : Nat) : ℚ) + nc + no) / 1000)).toNat
    let wt : ℚ := (sumNat (cs.map fun c => s.foot l c * s.slotNq c * s.slotW c) : Nat)
    let w := if nc + no = 0 then s.domWeight d else (ratRound ((wt + no * ((s.domWeight d : Nat) : ℚ)) / (nc + no))).toNat
    (need, w)

/-- NEED and WEIGHT of a domain (07 R217, R218). The mean weight of children that need nothing is a free value: value fv + d
(log entries 5, 27). -/
def State.needOf (s : State) (fv d fuel : Nat) : Nat × Nat :=
  match fuel with
  | 0 => (s.domNeed d, s.domWeight d)
  | k + 1 =>
    if isLeaf d then s.leafNeed (domNum d)
    else if (s.leavesIn d).all (fun l => Nat.beq (s.usableQ l) 0) then (s.domNeed d, s.domWeight d)
    else
      let cs := ((s.children d).filter fun c => Nat.beq (s.chSt (s.parentEnd c)) Ch.up).map fun c => s.needOf fv c k
      let n := sumNat (cs.map (·.1))
      let w := sumNat (cs.map fun c => c.1 * c.2)
      (min 33554430 n, if n = 0 then Config.freeValue (fv + d) % 65536 else (roundDiv w n).toNat)

/-- NEED_RECOMPUTE (07 R219): for the domains that a change at some leaves reaches. HUB_SPLIT takes every changed value of the hub's own
children. After a mark every changed value is sent; after another change only those that moved far enough. -/
def State.needRecompute (s : State) (ls : List Nat) (mark : Bool) : State :=
  let fv := s.free
  let used := s.tree.any fun r => Nat.beq r.kind 1
  let ds := (s.tree.map (·.dom)).filter fun d => !Nat.beq d hubDom && ls.any fun l => s.beneath (leafDom l) d
  let s := s.each ds fun s d =>
    let (n, w) := s.needOf fv d 8
    let n0 : Int := if s.v .needSent d < 0 then s.domNeed d else s.v .needSent d
    let w0 : Int := if s.v .wtSent d < 0 then s.domWeight d else s.v .wtSent d
    let dn := ((n : Int) - n0).natAbs
    let dw := ((w : Int) - w0).natAbs
    let far := mark || Nat.beq (s.parent d) hubDom || decide (n0.toNat / 2 ^ s.strPar 8 1 6 ≤ dn) || decide (8 ≤ dw)
    if (dn = 0 && dw = 0) || !far || !(s.parent d = hubDom || s.pathUpTo (s.parent d)) then s
    else ((s.setV .needSent n d).setV .wtSent w d).needSend d n w
  let s : State := if used then { s with free := s.free + 65536 } else s
  s.leaseCheck

/-- The leaves where a slot has a footprint. -/
def State.slotLeaves (s : State) (c : Nat) : List Nat := s.leaves.filter fun l => Nat.blt 0 (s.foot l c)

/-- AUTO_PART (07 R220): a change of w(c) is written to the slot's partitions. -/
def State.autoPart (s : State) (c : Nat) : State :=
  if !s.slotUsable c then s
  else
    let w := s.slotW c
    if s.v .wLast c = (w : Int) then s
    else
      let s := s.setV .wLast w c
      if s.is F.STR_CTX_AUTO_PART c then
        s.each (s.slotLeaves c) fun s l =>
          s.each ((List.range 4).filter fun p => Nat.beq (s.rd F.LEAF_PART_CTX l p) c) fun s p =>
            s.hubWrite (leafDom l) .LEAF_PART p (w + 2 ^ 16 * c)
      else s

/-- Show a slot's prediction (07 R215). -/
def State.predShow (s : State) (c : Nat) : State :=
  let a := s.rd F.STR_CTX_PHASE c
  let ok := s.is F.STR_CTX_IN_PHASE c && Nat.ble (s.strPar 7 1 4) (s.rd F.STR_W2_CONF c a)
  let s := s.wr F.STR_CTX_PRED_VALID (b2n ok) c
  s.wr F.STR_CTX_PRED (if ok then s.rd F.STR_W2_NEXT c a else 0) c

/-- After a slot's entry, phase or preference changed: its prediction, NEED and WEIGHT, partition weights. -/
def State.strChanged (s : State) (c : Nat) (mark : Bool) : State :=
  ((s.predShow c).needRecompute (s.slotLeaves c) mark).autoPart c

/-- Items of STARTER_SEED or LIMITS have been activated (07 R219, R220, R223): every slot's prediction, the needs of every domain, and
the partition weights follow. -/
def State.strItems (s : State) : State :=
  let s := (s.each slots16 fun s c => s.predShow c).needRecompute s.leaves false
  s.each slots16 fun s c => s.autoPart c

/-- ACTIVE of the STARTER entries follows the present phases (07; 16 R481). -/
def State.activeShow (s : State) : State :=
  let ks := (s.regs.filter fun p => decide (p.1.n = Reg.STR_W5)).map fun p => (p.1.i, p.1.j)
  let s := s.each ks fun s k => s.wr F.STR_W5_ACTIVE 0 k.1 k.2
  s.each slots16 fun s c => s.when (s.is F.STR_CTX_IN_PHASE c) fun s => s.wr F.STR_W5_ACTIVE 1 c (s.rd F.STR_CTX_PHASE c)

/-! ### Marks -/

/-- Train NEXT and CONF of an entry with the phase that followed (07 R214). -/
def State.trainNext (s : State) (c a b : Nat) : State :=
  let conf := s.rd F.STR_W2_CONF c a
  if 0 < conf && Nat.beq (s.rd F.STR_W2_NEXT c a) b then s.wr F.STR_W2_CONF (min (conf + 1) 15) c a
  else if 0 < conf then s.wr F.STR_W2_CONF (conf - 1) c a
  else (s.wr F.STR_W2_NEXT b c a).wr F.STR_W2_CONF 1 c a

/-- Close a slot's visit at a stamp; b is the phase that the closing mark enters, none for EXIT (07 R214). A bounce undoes
the training that named it and trains the phase before it with the one that follows. -/
def State.closeVisit (s : State) (c τ : Nat) (b : Option Nat) : State :=
  let a := s.rd F.STR_CTX_PHASE c
  let d := (roundDiv (τ - s.rd F.STR_W4_ENTRY_TIME c a : Nat) 1000).toNat
  let learn := s.is F.STR_CTX_LEARN c
  let s := s.wr F.STR_W5_ACTIVE 0 c a
  let s := s.when (Nat.blt (s.vn .visOpen c) τ) fun s => (s.setV .vhPhase (a + 1) c τ).setV .vhOpen (s.v .visOpen c) c τ
  if d < 1 then
    if s.v .strLast c = 0 then s
    else
      let x := s.vn .strLast c - 1
      let s := (s.wr F.STR_W2_NEXT (s.vn .strSaved c % 256) c x).wr F.STR_W2_CONF (s.vn .strSaved c / 256) c x
      match b with
      | none => s.setV .strLast 0 c
      | some y => s.when learn fun s => s.trainNext c x y
  else if learn then
    let n := s.rd F.STR_W2_VISITS c a
    let dur := s.rd F.STR_W3_DUR c a
    let s := s.wrSat F.STR_W3_DUR (if n = 0 then d else dur + rne ((d : Int) - dur) s.learnShift) c a
    let s := s.wrSat F.STR_W3_LAST_DUR d c a
    let s := s.incSat F.STR_W2_VISITS 1 c a
    match b with
    | none => s.setV .strLast 0 c
    | some y =>
      let s := (s.setV .strLast (a + 1) c).setV .strSaved (s.rd F.STR_W2_NEXT c a + 256 * s.rd F.STR_W2_CONF c a : Nat) c
      s.trainNext c a y
  else s.setV .strLast 0 c

/-- Apply a mark with its stamp (07 R208, R209); EXIT in NONE has no effect. -/
def State.markApply (s : State) (c : Nat) (enter : Option Nat) (τ : Nat) : State :=
  if enter.isNone && !s.is F.STR_CTX_IN_PHASE c then s else
  let s := (s.incWrap F.STR_STATUS_MARKS).latchMark c τ (enter.getD 0xFF)
  let s := s.when (s.is F.STR_CTX_IN_PHASE c) fun s => s.closeVisit c τ enter
  let s := match enter with
    | none => s.wr F.STR_CTX_IN_PHASE 0 c
    | some p =>
      let s := (s.wr F.STR_CTX_PHASE p c).wr F.STR_CTX_IN_PHASE 1 c
      let s := (s.wr F.STR_W4_ENTRY_TIME τ c p).wr F.STR_W5_ACTIVE 1 c p
      s.setV .visOpen τ c
  s.strChanged c true

/-- Whether a slot is being invalidated (07 R222). -/
def State.strBusy (s : State) (c : Nat) : Bool :=
  s.is F.STR_STATUS_BUSY && Nat.beq (s.rd F.STR_STATUS_BUSY_CTX) c

/-- A mark of a tagged release (07 R208, R209): none in AON and VERIFY, held while its slot is being invalidated. -/
def State.tagMark (s : State) (c : Nat) (enter : Option Nat) (τ : Nat) : State :=
  if s.pkg ≤ Pkg.verify then s
  else if s.strBusy c then
    { s with marks := s.marks ++ [{ ctx := c, enter := enter.isSome, phase := enter.getD 0, time := τ, port := none }] }
  else s.markApply c enter τ

/-- A mark of STR_MARK (07 R208, R209, R222): answered when it is applied. -/
def State.portMark (s : State) (p : Port) (c : Nat) (enter : Option Nat) : State :=
  if !s.hubUp then s.deadAnswer p
  else if !p.priv then s.answer p .STR_MARK .ePriv
  else if s.pkg ≤ Pkg.verify then s.answer p .STR_MARK .eRange
  else if s.img.active.isNone then s.answer p .STR_MARK .eImage
  else if s.strBusy c then
    { s with marks := s.marks ++ [{ ctx := c, enter := enter.isSome, phase := enter.getD 0, time := s.time, port := some p }] }
  else (s.markApply c enter s.time).answer p .STR_MARK .ok

/-- Clear an entry (07 R222); ACTIVE stays true of the slot's phase (log entry 28). -/
def State.entryClear (s : State) (c p : Nat) : State :=
  let act := s.is F.STR_CTX_IN_PHASE c && Nat.beq (s.rd F.STR_CTX_PHASE c) p
  let s := s.each [Reg.STR_W0, .STR_W1, .STR_W2, .STR_W3, .STR_W4, .STR_W5, .STR_W6] fun s r => s.setReg r 0 c p
  let s := s.wr F.STR_W5_ACTIVE (b2n act) c p
  s.when (s.v .strLast c = (p + 1 : Nat)) fun s => s.setV .strLast 0 c

/-- An entry is invalidated or seeded now: a sample update of it that is still to come is discarded (07 R212, R224). Phase 256 stands
for every entry of the slot. -/
def State.strWiped (s : State) (c p : Nat) : State := s.setV .strWipe (s.time + 1 : Nat) c p

/-- Invalidate one entry (07 R222). -/
def State.entryInv (s : State) (c p : Nat) : State := ((s.entryClear c p).strWiped c p).strChanged c false

/-- Invalidate a slot's entries (07 R222). -/
def State.slotClear (s : State) (c : Nat) : State :=
  ((s.each (List.range 256) fun s p => s.entryClear c p).strWiped c 256).strChanged c false

/-- An invalidation is in progress on a slot (07 R222). -/
def State.strBegin (s : State) (c : Nat) : State := (s.wr F.STR_STATUS_BUSY 1).wr F.STR_STATUS_BUSY_CTX c

/-- STR_CMD (07 R222): the entries clear when the command is accepted, and BUSY stands until the invalidation ends (log entry 28). -/
def State.strCmd (s : State) (cmd c p : Nat) : Status × State :=
  match cmd with
  | 0 => (.ok, s)
  | 1 => if s.is F.STR_STATUS_BUSY then (.eOverrun, s) else (.ok, (s.strBegin c).slotClear c)
  | 2 => if s.is F.STR_STATUS_BUSY then (.eOverrun, s) else (.ok, (s.strBegin c).entryInv c p)
  | _ => (.eRange, s)

/-- A context switch invalidates its slot (07 R222), as a command does; one on a slot while another slot's invalidation runs clears it
at once (log entry 28). -/
def State.strSwitch (s : State) (c : Nat) : State := (s.when (!s.is F.STR_STATUS_BUSY) fun s => s.strBegin c).slotClear c

/-- The marks held for a slot are applied with their stamps (07 R222). -/
def State.heldMarks (s : State) (c : Nat) : State :=
  let l := s.marks.filter fun m => Nat.beq m.ctx c
  let s : State := { s with marks := s.marks.filter fun m => !Nat.beq m.ctx c }
  s.each l fun s m =>
    let s := s.markApply c (if m.enter then some m.phase else none) m.time
    match m.port with
    | some p => s.answer p .STR_MARK .ok
    | none => s

/-- At the close of 1 µs interval j: the conditions of R212 that last (07). -/
def State.smpWatch (s : State) (j : Nat) : State :=
  s.each slots16 fun s c =>
    let rails := (s.slotLeaves c).flatMap fun l => s.leafRails l
    let bad := !Nat.beq s.pkg Pkg.run || !s.is F.STR_CTX_LEARN c || Nat.beq (s.footAll c) 0
      || rails.any fun r => !Nat.beq (s.rd F.RAIL_FUSE_STATUS_STATE r) 0
    s.when bad fun s => s.setV .smpBad 1 c (j / 10)

/-- P of a sample (07 R211), in microwatts per quarter. -/
def State.smpP (s : State) (c k : Nat) : Nat :=
  let q := s.footAll c
  let js := (List.range 10).map fun i => 10 * k + i
  let one (l j : Nat) : ℚ :=
    let f := sumInt ((s.leafRails l).map fun r => s.v .aHist (leafDom l) (32 * (j % 1000) + r))
    let x : Int := max (f - s.leafBase l) 0
    (1000 : ℚ) * ((x : Int) : ℚ) * ((s.foot l c : Nat) : ℚ) / ((s.vn .fp l 16 : Nat) : ℚ)
  (ratRound (sumRat js (fun j => sumRat (s.slotLeaves c) fun l => one l j) / ((10 * q : Nat) : ℚ))).toNat

/-- The visit that holds the whole sample k of a slot, beginning at least SETTLE after it opened: the present one, or one that closed at
or after the sample's close (07 R211). -/
def State.smpVisit (s : State) (c k : Nat) : Option Nat :=
  let a := 10000 * k
  let b := a + 10000
  let settle := 1000 * s.strPar 2 4 20
  if s.is F.STR_CTX_IN_PHASE c && Nat.ble (s.vn .visOpen c + settle) a then some (s.rd F.STR_CTX_PHASE c)
  else
    ((s.vars.filter fun p => decide (p.1.n = Var.vhPhase) && Nat.beq p.1.i c).map (·.1.j)).findSome? fun τ =>
      if Nat.ble b τ && Nat.ble (s.vn .vhOpen c τ + settle) a then some (s.vn .vhPhase c τ - 1) else none

/-- Move a field of an entry toward a value by the learning shift. -/
def State.smpMove (s : State) (f : Fld) (x c p : Nat) : State :=
  s.wrSat f ((s.rd f c p : Int) + rne ((x : Int) - s.rd f c p) s.learnShift) c p

/-- The update of R213 (07) for class FREE (true) or BOUND. -/
def State.smpLearn (s : State) (c p : Nat) (free : Bool) (pw rt : Nat) : State :=
  let s :=
    if free then
      let s := if s.is F.STR_W5_VF c p then (s.smpMove F.STR_W0_NQ pw c p).smpMove F.STR_W1_RF rt c p
        else ((s.wrSat F.STR_W0_NQ pw c p).wrSat F.STR_W1_RF rt c p).wr F.STR_W5_VF 1 c p
      s.incSat F.STR_W5_SAMPLES_F 1 c p
    else
      let s := if s.is F.STR_W5_VB c p then (s.smpMove F.STR_W0_PB pw c p).smpMove F.STR_W1_RB rt c p
        else ((s.wrSat F.STR_W0_PB pw c p).wrSat F.STR_W1_RB rt c p).wr F.STR_W5_VB 1 c p
      s.incSat F.STR_W5_SAMPLES_B 1 c p
  let nq : Int := s.rd F.STR_W0_NQ c p
  let pb : Int := s.rd F.STR_W0_PB c p
  let rf : Int := s.rd F.STR_W1_RF c p
  let rb : Int := s.rd F.STR_W1_RB c p
  if s.is F.STR_W5_VF c p && s.is F.STR_W5_VB c p && decide (0 < rf) && decide (nq ≤ 16 * (nq - pb)) then
    let w : ℚ := ((256 * (rf - rb) * nq : Int) : ℚ) / ((rf * (nq - pb) : Int) : ℚ)
    (s.wr F.STR_W2_ELAST (s.weightClamp (ratRound w)) c p).wr F.STR_W5_VE 1 c p
  else s

/-- Sample k of a slot, with the number of its sub-gates' engine cycles in it (07 R211 to R213; log entry 29): once, after its window is
complete at the hub (17 R500). -/
def State.strSample (s : State) (k c cyc : Nat) : State :=
  if s.v .smpDone < k || decide ((k : Int) < s.v .smpNext c) then s else
  let rows := s.vn .smpRows c k
  let lb := s.vn .smpBud c k
  let lo := s.vn .smpOth c k
  let visit := s.smpVisit c k
  let wiped (p : Nat) : Bool := Nat.blt (10000 * k) (s.vn .strWipe c p) || Nat.blt (10000 * k) (s.vn .strWipe c 256)
  let bad := s.v .smpBad c k = 1
  let s := (s.setV .smpNext (k + 1 : Nat) c).dropV .smpBad c fun x => Nat.ble x k
  let s := ((s.dropV .smpRows c fun x => Nat.ble x k).dropV .smpBud c fun x => Nat.ble x k).dropV .smpOth c fun x => Nat.ble x k
  let s := (s.dropV .vhPhase c fun x => Nat.blt x (10000 * (k + 2))).dropV .vhOpen c fun x => Nat.blt x (10000 * (k + 2))
  match visit with
  | none => s
  | some p =>
    if bad || wiped p || Nat.beq (s.footAll c) 0 || cyc < 64 * lo then s
    else if 16 * lb ≤ cyc || cyc ≤ 2 * lb then
      let free := decide (16 * lb ≤ cyc)
      let rt := (roundDiv (256 * rows : Nat) (10 * s.footAll c)).toNat
      let s := s.smpLearn c p free (s.smpP c k) rt
      if s.is F.STR_W5_ACTIVE c p then s.strChanged c false else s
    else s

/-- A seed for entry 256 × c + p replaces it whole (07 R223); ENTRY_TIME and ACTIVE keep theirs. -/
def State.seedEntry (s : State) (x : Nat) (v : List Byte) : State :=
  let c := x / 256 % 16
  let p := x % 256
  let act := s.is F.STR_W5_ACTIVE c p
  let s := s.each [(Reg.STR_W0, 0), (.STR_W1, 8), (.STR_W2, 16), (.STR_W3, 24), (.STR_W5, 40), (.STR_W6, 48)] fun s r =>
    s.setReg r.1 (BitVec.ofNat 64 (fieldAt v r.2 8)) c p
  let s := (s.wr F.STR_W5_SEEDED 1 c p).wr F.STR_W5_ACTIVE (b2n act) c p
  let s := s.when (s.v .strLast c = (p + 1 : Nat)) fun s => s.setV .strLast 0 c
  (s.strWiped c p).predShow c

/-- The SEED_ENTRY items of a list; one for every instance reaches the entries that no other item names (02 R61). -/
def State.seedAll (s : State) (l : List Item) : State :=
  let seeds := l.filter fun x => Nat.beq x.sec Sec.starterSeed && Nat.beq x.key 0x0100
  s.each seeds fun s x =>
    if x.idx = idxAll then
      s.each ((List.range 4096).filter fun k => !(seeds.any fun y => Nat.beq y.idx k)) fun s k => s.seedEntry k x.val
    else s.seedEntry x.idx x.val

/-- A full image is accepted (07 R207, R221): every slot in NONE, every entry 0, then the seeds. -/
def State.strAccept (s : State) : State :=
  let s := s.each slots16 fun s c =>
    let s := (s.wr F.STR_CTX_PHASE 0 c).wr F.STR_CTX_IN_PHASE 0 c
    let s := ((s.dropV .vhPhase c fun _ => true).dropV .vhOpen c fun _ => true).setV .wLast (-1) c
    ((s.each (List.range 256) fun s p => s.entryClear c p).strWiped c 256).smpSpoil c
  s.seedAll s.img.items

end Sys2Proof.Machine
end

