-- ==== Sys2Proof/Machine/Island.lean ====
section
/-!
DEFINITION. Island resets (13 R406 to R408; 03 R84): which islands the reset tree holds, and what a reset clears.
-/
namespace Sys2Proof.Machine

/-- The domain of a clock unit: none for the mirror hub's (13 R419). -/
def unitDom (u : Nat) : Option Nat :=
  if u = 0 then some hubDom else if u = 1 then none else if u < 66 then some (nodeDom (u - 2)) else some (leafDom (u - 66))

/-- Make a change that footprints may follow (07 R210): the open sample of each slot whose footprint changed is discarded. -/
def State.footShift (s : State) (f : State → State) : State :=
  let old := slots16.map fun c => s.footAll c
  let s := f s
  let s := s.each slots16 fun s c => s.when (!Nat.beq (s.footAll c) (old.getD c 0)) fun s => s.smpSpoil c
  s.footShow

/-- A child channel to d has changed between UP and any other state (06 R181; 07 R219). -/
def State.upChanged (s : State) (d : Nat) : State :=
  (s.splitAll (s.parent d)).needRecompute (s.leavesIn d) false

/-- Issue a FENCE at a parent end, which leaves UP (03 R95, R102). -/
def State.fenceStart (s : State) (e : ChEnd) (scope : Nat) : Option Status × State :=
  if s.chSt e = Ch.up then
    let s := s.footShift fun s => (s.fenceAt e scope).2
    (none, match s.endChild e with | some d => s.upChanged d | none => s)
  else s.fenceAt e scope

/-- The variables of a leaf agent, by its logical number, that its reset clears. -/
def leafVars : List Var :=
  [.estSum, .estSlots, .estWin, .estGrp, .estThLo, .estThHi, .estThNew, .estThLoNew, .gotAvg, .gotFast, .leafFrozen, .safeHold,
   .safeSil, .fxAcc, .fxLast, .slotsLast, .sgRows, .sgRowsLast, .sgE, .sgELast, .ecyc, .ecycLast, .ccyc, .ccycLast, .coreE,
   .coreELast, .engKept, .engDiv, .levCred, .shNum, .shDen, .shHold, .dropped, .restEnd, .winBud, .winLevel, .winSafe, .rstHold, .shedBud, .proofHold,
   .scoreCode, .coreSlot, .ccpQreq, .ccpQack, .ccpZero, .fixKeep, .levHeld, .effAt, .stl, .scoreCyc, .engStop, .cwAt, .bkt, .gpEn, .wvLoad, .scStep, .scFor,
   .gatePend, .scHold, .scRamp, .wvAt, .wvStat, .sgOut, .timeAt, .tpSum, .tpN, .tpPer, .cwAcc, .clAcc,
   .cwNum, .cntSel, .cntFrom, .cfgCyc, .wcCyc, .latPend, .slotNext, .ivNext, .gateActAt, .ltPer]

/-- The variables of a droop detector that its leaf's reset clears. -/
def ddVars : List Var := [.ddRun, .ddReq, .ddCalAt]

/-- The variables of a sensor site, or of a body, that its island's reset clears. -/
def siteVars : List Var := [.tsGood, .tsGoodAt, .tsPer, .tsEn, .tsDone, .tsShut, .tsLow]

/-- The variables of a domain, by its domain ID, that its reset clears. -/
def domVars : List Var := [.estSlotAt, .chFenceUp, .chFenceBad, .chFenceSeq, .islFields, .islHeld, .islRel, .islAlive, .tbSet, .tbOff, .tbErr, .tbAt, .thFrom, .thGood]

/-- The variables of a node engine, by its logical number, that its reset clears. -/
def nodeVars : List Var := [.ngE, .ngN, .ngSent, .timeFwd, .cnSum, .cnLeaf, .cnSent]

/-- The variables that a node engine holds for a child domain. -/
def childVars : List Var := [.estLast, .estFresh, .estVal, .ngRep, .needSent, .wtSent, .cnEnd]

/-- The variables of a channel end, by its number, that its island's reset clears. -/
def endVars : List Var := [.chAckSent, .chAckRcvd, .chHello, .chFence, .chFenceAt, .chReason, .laneBulk]

/-- The stack ports of a leaf, by logical number (TYPE 0x05 of 02 R64). -/
def State.stackPorts (s : State) (l : Nat) : List Nat := (s.instsOf 5 (leafDom l)).map (·.logical)

/-- The sites that a domain owns, by logical number. -/
def State.sitesOf (s : State) (d : Nat) : List Nat := (s.instsOf 7 d).map (·.logical)

/-- The bodies of 11 R344 that a domain owns. -/
def State.bodiesOf (s : State) (d : Nat) : List Nat :=
  s.sitesOf d ++ (if isLeaf d then (s.stackPorts (domNum d)).map fun k => 0x8000 + k else [])

/-- Whether the reset of a domain returns a register to its reset value (13 R406; 05 R163). A site's correction and BAD mark
stay (11 R343). -/
def State.regOf (s : State) (d : Nat) (k : RegKey) : Bool :=
  let base := k.n.place.base
  if isLeaf d && Nat.ble 0x40_0000 base && Nat.blt base 0x60_0000 then Nat.beq k.i (domNum d)
  else if isNode d && Nat.ble 0x10_0000 base && Nat.blt base 0x14_0000 then Nat.beq k.i (domNum d)
  else
    match k.n with
    | .DD_CTRL | .DD_MAP | .DD_CAL | .DD_THR | .DD_STAT => (s.instsOf 8 d).any fun x => Nat.beq x.logical k.i
    | .TS_CTRL | .TS_VAL | .TS_THR | .TS_STAT | .TS_HYST => (s.sitesOf d).contains k.i
    | .LOOP_CTRL | .LOOP_CFG | .LOOP_SP | .LOOP_SP_MAX | .LOOP_OUT_LIM | .LOOP_INT_LIM | .LOOP_DEST | .LOOP_VAL
    | .LOOP_ERR | .LOOP_MANUAL | .LOOP_STAT | .LOOP_LAT | .LOOP_LATE | .LOOP_COUNT =>
      match s.loop? k.i with | some r => Nat.beq r.host d | none => false
    | .CLK_TB => Nat.beq k.i (unitOf d)
    | _ => false

/-- Whether the reset of a domain clears a variable. -/
def State.varOf (s : State) (d : Nat) (k : VarKey) : Bool :=
  let num := domNum d
  (domVars.contains k.n && Nat.beq k.i d)
    || (isLeaf d && leafVars.contains k.n && Nat.beq k.i num)
    || (isNode d && nodeVars.contains k.n && Nat.beq k.i num)
    || (isNode d && childVars.contains k.n && Nat.beq (s.parent k.i) d)
    || (isNode d && Nat.beq k.j (1 + num) && [Var.repTemp, .repAt, .repFallback].contains k.n)
    || (isNode d && (k.n = .gtNodeA || k.n = .gtNodeB) && Nat.beq (k.i / 128) num)
    || (isNode d && decide (k.n = .nivLast) && Nat.beq (k.i / 512) num)
    || (ddVars.contains k.n && (s.instsOf 8 d).any fun x => Nat.beq x.logical k.i)
    || (siteVars.contains k.n && (s.bodiesOf d).contains k.i)
    || ([Var.stkFlag, .stkAt].contains k.n && isLeaf d && (s.stackPorts num).contains k.i)
    || (endVars.contains k.n && ((if isLeaf d then Nat.beq k.i (10000 + num) else isNode d && Nat.ble (1000 + 65 * num) k.i
        && Nat.blt k.i (1065 + 65 * num))))
    || ([Var.lpCommit, .lpNom, .lpDue, .lpE0, .appliedMw, .lpHub].contains k.n
        && match s.loop? k.i with | some r => Nat.beq r.host d | none => false)

/-- What an island holds leaves the state: its registers, its clock unit's with its supply, its variables, its tables. -/
def State.islandDrop (s : State) (d : Nat) (supply : Bool) : State :=
  { s with
    regs := s.regs.filter fun p => !(s.regOf d p.1
      || !supply && Nat.beq p.1.i (unitOf d) && [Reg.CLK_CTRL, .CLK_STAT, .CLK_MON, .CLK_OSC].contains p.1.n)
    vars := s.vars.filter fun p => !(s.varOf d p.1)
    slotActs := s.slotActs.filter fun x => !(isLeaf d && Nat.beq x.1 (domNum d))
    sentGrants := s.sentGrants.filter fun g => !(isNode d && Nat.beq (s.parent g.dom) d)
    lanes := s.lanes.filter fun m => !Nat.beq (endDom m.chEnd) d
    chan := {
      pend := s.chan.pend.filter fun p => !Nat.beq (endDom p.chEnd) d
      wait := s.chan.wait.filter fun w => !Nat.beq (endDom w.pend.chEnd) d
      quar := s.chan.quar.filter fun p => !Nat.beq (endDom p.1) d
      await := s.chan.await.filter fun p => !Nat.beq (endDom p.1) d
      rspWait := s.chan.rspWait.filter fun p => !Nat.beq (endDom p.1) d } }

/-- The reset of an island: its logic and registers, and its channel ends with epoch 0 (13 R406; 03 R95). Where its supply has
gone, its clock unit goes too. -/
def State.islandClear (s : State) (d : Nat) (supply : Bool) : State :=
  let s := (s.budgetDrop d).islandDrop d supply
  if supply then s
  else
    let u := unitOf d
    ((((s.setV .muxAt 0 u).setV .muxSel 0 u).setV .clkQuiet 0 u).setV .clkCal 0 u).setV .clkRet 0 u

/-- The non-MONITORED rails of a domain's RAILMASK. -/
def State.supplyRails (s : State) (d : Nat) : List Nat :=
  (bitList (s.railmask d) 32).filter fun r => (s.rail? r).isSome && !s.monitored r

/-- Whether a domain's supply holds: every non-MONITORED rail of its RAILMASK is in ON or STOP (13 R408). -/
def State.supplied (s : State) (d : Nat) : Bool :=
  (s.supplyRails d).all fun r => let st := s.rd F.RAIL_STATE_STATE r; st = 4 || st = 5

/-- Whether the reset tree holds a domain in reset for a cause of its own (13 R396, R408). -/
def State.ownHold (s : State) (d : Nat) : Bool :=
  Nat.ble s.pkg Pkg.verify || !s.supplied d || (s.supplyRails d).any (fun r => s.v .railPlan r = 1) || !(s.v .islRst d = 0)

/-- Whether the reset tree holds a domain in reset (13 R408; 03 R84). -/
def State.rstHeld (s : State) (d : Nat) : Bool := (s.path d).any fun x => s.ownHold x

/-- Put into reset every island that the reset tree holds and that is out of reset (13 R408). -/
def State.rstSync (s : State) : State :=
  s.each (s.tree.filter fun r => !Nat.beq r.kind 0) fun s r =>
    if s.v .islHeld r.dom = 0 && s.rstHeld r.dom then
      let why := if s.pkg ≤ Pkg.verify then 0 else if s.v .downFor = 2 then 2 else 1
      (s.islandClear r.dom (s.supplied r.dom)).setV .chWhy why r.dom
    else s

end Sys2Proof.Machine
end

