-- ==== Sys2Proof/Machine/Rail.lean ====
section
/-!
DEFINITION. Rail controllers and phase channels (10): references and slots, the state table, the voltage loop, shedding, phase
protection, LEAF_VREF, and their commands.
-/
namespace Sys2Proof.Machine

/-- States of a rail controller (10 R317). -/
abbrev Rs.off : Nat := 0
abbrev Rs.measure : Nat := 1
abbrev Rs.startNs : Nat := 2
abbrev Rs.soft : Nat := 3
abbrev Rs.on : Nat := 4
abbrev Rs.stop : Nat := 5
abbrev Rs.halt : Nat := 6
abbrev Rs.monitor : Nat := 7

/-- STATE of a rail. -/
def State.railSt (s : State) (r : Nat) : Nat := s.rd F.RAIL_STATE_STATE r

/-- A code held to the rail's [VMIN, VMAX]. -/
def State.railClamp (s : State) (r : Nat) (x : Int) : Nat :=
  (clampInt (s.rd F.RAIL_LIM_VMIN r) (s.rd F.RAIL_LIM_VMAX r) x).toNat

/-- The RAIL_PARAMS item that a rail works by: where a delta's waits for a loop sample, the one before it (10 R332, R333). -/
def State.railItem? (s : State) (key r : Nat) : Option (List Byte) :=
  if s.img.railPend.contains (r, key) then findItem s.img.railOld Sec.railParams key r else s.item? Sec.railParams key r

/-- An unsigned field of it, or its default. -/
def State.railPar (s : State) (key r off len dflt : Nat) : Nat :=
  match s.railItem? key r with
  | some l => fieldAt l off len
  | none => dflt

/-- One of the four rates of SLEW (10 R333), mV per µs: 0 up, 1 down, 2 soft, 3 stop. -/
def State.slewRate (s : State) (r k : Nat) : Nat := s.railPar 0x0011 r k 1 ([10, 10, 2, 5].getD k 10)

/-- PG_WIN, mV. -/
def State.pgWin (s : State) (r : Nat) : Nat := s.railPar 0x0012 r 0 1 30
/-- PB_MARGIN, mV. -/
def State.pbMargin (s : State) (r : Nat) : Nat := s.railPar 0x0012 r 1 1 10
/-- PG_DLY, µs. -/
def State.pgDly (s : State) (r : Nat) : Nat := s.railPar 0x0012 r 2 2 10
/-- STOP_FLOOR, code. -/
def State.stopFloor (s : State) (r : Nat) : Nat := s.railPar 0x0013 r 0 2 0x190
/-- NEG_LIM, mA (10 R333). -/
def State.negLim (s : State) (r : Nat) : Nat := 100 * s.railPar 0x0060 r 4 2 200
/-- IPK_LIM, mA. -/
def State.ipkLim (s : State) (r : Nat) : Nat := s.railPar 0x0060 r 0 4 80000

/-- The trace frame of a rail (17 R522): kind 0 select change, 1 RAIL_TARGET, 2 shed start, 3 shed end, 4 shed abort, 5 phase
fault, 6 HALT (log entry 32). -/
def State.railFrame (s : State) (r kind : Nat) : State :=
  s.frame 6 kind r s.time
    (s.rd F.RAIL_VSEL_REF r + 2 ^ 16 * s.rd F.RAIL_STATE_VSENSE r + 2 ^ 32 * ofSigned 32 (s.v .railI r))
    (s.rd F.RAIL_SHED_STAT_SHED_POS r)

/-! ### Positions -/

/-- The phase channels of a rail whose PHST is a code. -/
def State.phIn (s : State) (r st : Nat) : List Nat := (s.railPhases r).filter fun p => Nat.beq (s.rd F.PH_STAT_PHST p) st

/-- The enabled phase channels of a rail; one being shed is enabled until it is disabled (04 R124). -/
def State.phOn (s : State) (r : Nat) : List Nat :=
  (s.railPhases r).filter fun p => Nat.beq (s.rd F.PH_STAT_PHST p) 1 || Nat.beq (s.rd F.PH_STAT_PHST p) 2

/-- The phase channel at a position of a rail (10, "The rail map"). -/
def State.phAt (s : State) (r k : Nat) : Option Nat := (s.railPhases r)[k]?

/-- The position of a phase channel in its rail. -/
def State.phPos (s : State) (r p : Nat) : Nat := (s.railPhases r).findIdx fun x => Nat.beq x p

/-- The rail that owns a phase channel (02 R64). -/
def State.phRail (s : State) (p : Nat) : Nat :=
  match s.inst? 0x0A p with
  | some x => x.owner
  | none => 0xFFFF

/-- Show a rail's enabled and faulted positions. -/
def State.phShow (s : State) (r : Nat) : State :=
  let pos (st : List Nat) : Nat := maskOf (st.map fun p => s.phPos r p)
  let s := s.wr F.RAIL_PH_EN (pos (s.phOn r)) r
  let s := s.wr F.RAIL_PH_FAULT (pos (s.phIn r 3)) r
  s.wr F.RAIL_STATE_NPH_EN (s.phOn r).length r

/-- u1 follows the number of enabled phases (10 R311). -/
def State.phScale (s : State) (r old : Nat) : State :=
  let n := (s.phOn r).length
  s.when (decide (n ≠ old) && decide (0 < n)) fun s => s.setV .rlU1 (roundDiv (s.v .rlU1 r * old) n) r

/-- Take a channel out of service: PWM to mid-level, PEN low from the given stamp (10 R322, R325, R329). -/
def State.phOut (s : State) (p st off : Nat) : State :=
  let s := s.wr F.PH_STAT_PHST st p
  let s := ((s.setV .phPwm 0 p).setV .phPen 0 p).setV .phOffAt off p
  (((s.setV .phCalDone 0 p).setV .cbcRun 0 p).setV .phStart (-1) p).setV .phStop 0 p

/-- Put a channel in service (10 R317, R324): PEN rises; PWM stays at mid-level until its first cycle. -/
def State.phIn1 (s : State) (p : Nat) : State :=
  (((s.wr F.PH_STAT_PHST 1 p).setV .phPen 1 p).setV .phPenAt s.time p).setV .phNew 1 p

/-! ### Switching grid (10 R305 to R308) -/

/-- The tick of 0.5 ns within the present stamp at which a grid of a period and an offset has a point: tick τ carries the stamp
ceil(τ / 2) ns (10 R305). -/
def State.gridTick (s : State) (div ofs : Nat) : Option Nat :=
  let hit (x : Nat) : Bool := Nat.beq ((x + (div - ofs % div)) % div) 0
  if div = 0 then none
  else if hit (2 * s.time) then some (2 * s.time)
  else if Nat.blt 0 s.time && hit (2 * s.time - 1) then some (2 * s.time - 1)
  else none

/-- Whether a rail's channels switch from the oscillator: the hub has lost the grid and has not returned (10 R307, R308). -/
def State.offGrid (s : State) (r : Nat) : Bool := s.is F.RAIL_SYNC_PHASE_LOST r && s.v .railRegrid r = 0

/-- The period of a rail's cycles in ticks: T, or FB_DIV oscillator cycles (10 R307). -/
def State.perTicks (s : State) (r : Nat) : Nat :=
  if s.offGrid r then (roundDiv (s.rd F.RAIL_SYNC_FB_DIV r * 2000000 : Nat) (s.rd F.CLK_OSC_OSC_KHZ 0)).toNat
  else s.rd F.RAIL_SYNC_DIV r

/-- The tick of the present stamp at which a phase channel starts a cycle, if it does (10 R305, R307, R308, R324). On the oscillator
a cycle starts a period after the last; its instant is no function of hub time (log entry 137). After the return the first grid
point at least T after the last start counts. A channel newly enabled starts at a point at least tPENON after PEN rose. -/
def State.phTick (s : State) (r p : Nat) : Option Nat :=
  let last := s.v .phStart p
  let late (x : Nat) : Option Nat :=
    if last < 0 then (if s.v .phPenAt p + 100 ≤ (s.time : Int) then some x else none)
    else if last + s.perTicks r ≤ (x : Int) then some x else none
  if s.offGrid r then late (2 * s.time)
  else match s.gridTick (s.rd F.RAIL_SYNC_DIV r) (s.rd F.PH_SAMPLE_OFS_TICKS p) with
    | some x => late x
    | none => none

/-- The tick of the present stamp at which a rail is sampled, if it is: the cycle start of position 0; a MONITORED rail is converted on
a grid of 2 MHz (10 R302, R305). -/
def State.rlTick (s : State) (r : Nat) : Option Nat :=
  let fresh (x : Nat) : Option Nat := if s.v .rlTick r < (x : Int) then some x else none
  if s.monitored r then match s.gridTick 1000 0 with | some x => fresh x | none => none
  else if s.offGrid r then
    (if s.v .rlTick r < 0 || s.v .rlTick r + s.perTicks r ≤ (2 * s.time : Nat) then fresh (2 * s.time) else none)
  else match s.gridTick (s.rd F.RAIL_SYNC_DIV r) (s.rd F.RAIL_SYNC_OFS r) with
    | some x => fresh x
    | none => none

/-- The hub falls back to its oscillator: each rail takes FB_DIV and offsets in oscillator cycles, and loses the grid (10 R307). -/
def State.gridLost (s : State) : State :=
  let khz := s.rd F.CLK_OSC_OSC_KHZ 0
  s.each (s.rails.filter fun x => !x.monitored) fun s x =>
    let r := x.rail
    let div := s.rd F.RAIL_SYNC_DIV r
    let fb := (roundDiv (div * khz : Nat) 2000000).toNat
    let s := s.wr F.RAIL_SYNC_FB_DIV fb r
    let s := s.each (s.railPhases r) fun s p =>
      (s.setV .phOfsFb (roundDiv (s.rd F.PH_SAMPLE_OFS_TICKS p * fb : Nat) div) p).setV .phOnGrid 0 p
    let s := (s.wr F.RAIL_SYNC_PHASE_LOST 1 r).flag F.RAIL_SYNC_PHASE_LOST_SEEN r
    (s.setV .railRegrid 0 r).event 0x3D r

/-- Every switching channel of a rail has started on the grid again (10 R308). -/
def State.gridCheck (s : State) (r : Nat) : State :=
  s.when (s.v .railRegrid r = 1 && (s.phOn r).all fun p => decide (s.v .phStart p < 0) || decide (s.v .phOnGrid p = 1)) fun s =>
    (s.wr F.RAIL_SYNC_PHASE_LOST 0 r).setV .railRegrid 0 r

/-- The hub returns to REFCLK: the channels go back to the grid (10 R308). -/
def State.gridBack (s : State) : State :=
  s.each (s.railNums.filter fun r => s.is F.RAIL_SYNC_PHASE_LOST r) fun s r => (s.setV .railRegrid 1 r).gridCheck r

/-! ### Fields of a rail (10 R305, R333) -/

/-- OFS_k of a rail's phase channels (10 R305). -/
def State.loadOfs (s : State) (r : Nat) : State :=
  let div := s.rd F.RAIL_SYNC_DIV r
  let nph := match s.rail? r with | some x => x.nph | none => 1
  s.each (s.railPhases r).zipIdx fun s pk =>
    s.wr F.PH_SAMPLE_OFS_TICKS ((s.rd F.RAIL_SYNC_OFS r + (roundDiv (pk.2 * div : Nat) nph).toNat) % max 1 div) pk.1

/-- One item of a rail (10 R333). -/
def State.loadRail (s : State) (key r : Nat) : State :=
  let u (o n d : Nat) := s.par Sec.railParams key r o n d
  let ipk := s.par Sec.railParams 0x0060 r 0 4 80000
  let nph := match s.rail? r with | some x => x.nph | none => 0
  match key with
  | 0x0001 => s.each (List.range 8) fun s k => s.wr F.RAIL_VSLOT_CODE (u (2 * k) 2 0) r k
  | 0x0002 => s.wr F.RAIL_VSEL_RET_SLOT (u 0 1 0) r
  | 0x0010 => (s.wr F.RAIL_LIM_VMIN (u 0 2 0) r).wr F.RAIL_LIM_VMAX (u 2 2 0) r
  | 0x0020 => (s.wr F.RAIL_SYNC_DIV (u 0 2 1000) r).loadOfs r
  | 0x0021 => (s.wr F.RAIL_SYNC_OFS (u 0 2 0) r).loadOfs r
  | 0x0030 =>
    let s := (s.wr F.RAIL_COMP_A_B0_M (u 0 4 0) r).wr F.RAIL_COMP_A_B1_M (u 4 4 0) r
    let s := (s.wr F.RAIL_COMP_B_A1_M (u 8 4 0) r).wr F.RAIL_COMP_B_B0_S (u 12 1 0) r
    (s.wr F.RAIL_COMP_B_B1_S (u 13 1 0) r).wr F.RAIL_COMP_B_A1_S (u 14 1 0) r
  | 0x0031 => s.wr F.RAIL_PCM_IPK_CMD_MAX (u 0 4 (ipk - 1000)) r
  | 0x0040 => s.wr F.RAIL_PCM_SLOPE (u 0 1 0) r
  | 0x0041 => s.wr F.RAIL_PCM_L_NH (u 0 2 0) r
  | 0x0050 =>
    let s := (s.wr F.RAIL_SHED_NMIN (u 0 1 nph) r).wr F.RAIL_SHED_ADD_PP (u 2 2 (ipk / 100)) r
    (s.wr F.RAIL_SHED_SHED_PP (u 4 2 0) r).wr F.RAIL_SHED_DWELL (u 6 2 1000) r
  | _ => s

/-! ### Reference -/

/-- Form the reference and the effective RISE offset of a rail (10 R316; 09 R281). -/
def State.refForm (s : State) (r : Nat) : State :=
  let vb := s.rd F.RAIL_VSEL_BASE_REF r
  let st := s.railSt r
  let ref := if st = Rs.on then s.railClamp r ((vb : Int) + s.v .riseOff r)
    else if st = Rs.startNs || st = Rs.soft || st = Rs.stop then vb else 0
  let eff := if st = Rs.on then ref - vb else 0
  let s := s.when (!Nat.beq ref (s.rd F.RAIL_VSEL_REF r) || !Nat.beq eff (s.rd F.RAIL_RISE_OFFSET r)) fun s => s.setV .refAt s.time r
  (s.wr F.RAIL_VSEL_REF ref r).wr F.RAIL_RISE_OFFSET eff r

/-- The start target of a rail (13 R411). -/
def State.startTarget (s : State) (r : Nat) : Nat :=
  let g := match s.rail? r with | some x => x.bootGroup | none => 0xFF
  let slot := if g = 0xFF then 0 else s.rd F.RST_STATUS_BOOT_VSEL / 8 ^ g % 8
  s.railClamp r ((s.rd F.RAIL_VSLOT_CODE r slot : Int) + s.rdI F.RAIL_LIM_GB r)

/-- The base target of a rail in ON (10 R313): the start target until the package enters RUN, then the selected slot with G. -/
def State.baseTarget (s : State) (r : Nat) : Nat :=
  if s.pkg ≤ Pkg.ramp then s.startTarget r
  else s.railClamp r ((s.rd F.RAIL_VSLOT_CODE r (s.rd F.RAIL_VSEL_SEL r) : Int) + s.rdI F.RAIL_LIM_GB r)

/-- The cores of a rail: those of the leaves whose class 0x13 binds to it (log entry 31). -/
def State.railCores (s : State) (r : Nat) : List (Nat × Nat) :=
  (s.leaves.filter fun l => match s.coeff? l 0x13 with | some v => Nat.beq (fieldAt v 0 1) r | none => false).flatMap
    fun l => (s.cores l).map fun p => (l, p)

/-- The entries of a rail's VF_LIST, (slot, FMAX), in ascending order (06 R192). -/
def State.vfList (s : State) (r : Nat) : List (Nat × Nat) :=
  match s.item? Sec.mode 0x0004 r with
  | none => []
  | some v => ((List.range 8).map fun k => (fieldAt v (2 * k) 1, fieldAt v (2 * k + 1) 1)).filter fun e => Nat.ble e.1 7

/-- The FMAX of source SLOT at a rail's cores, 256 for none (06 R191, R192). -/
def State.slotHold (s : State) (r fmax : Nat) : State :=
  s.each (s.railCores r) fun s lp =>
    s.when (!(s.v .coreSlot lp.1 lp.2 = fmax)) fun s => (s.setV .coreSlot fmax lp.1 lp.2).coreEff lp.1 lp.2

/-- Vb equals the base target: DONE and RAIL_TARGET (10 R314); source SLOT follows to the present VF entry's FMAX (06 R192). -/
def State.targetReached (s : State) (r : Nat) : State :=
  let s := (s.wr F.RAIL_VSEL_DONE 1 r).event 0x38 r
  let s := s.railFrame r 1
  s.slotHold r (match (s.vfList r).find? (fun e => Nat.beq e.1 (s.rd F.RAIL_VSEL_SEL r)) with | some e => e.2 | none => 256)

/-- The leaf that owns a detector. -/
def State.ddLeaf (s : State) (d : Nat) : Option Nat := (s.inst? 8 d).map fun x => domNum x.owner

/-- The detectors of a leaf, by logical number. -/
def State.leafDetectors (s : State) (l : Nat) : List Nat := (s.instsOf 8 (leafDom l)).map (·.logical)

/-- Form THR_CODE of a detector (09 R267, R268). -/
def State.ddThr (s : State) (d : Nat) : State :=
  match s.ddLeaf d with
  | none => s
  | some l =>
    let band := s.rd F.LEAF_THERM_BAND l
    let mv := s.par Sec.droop 0x0001 d band 1 25
    let slope := s.par Sec.droop 0x0002 d (2 * band) 2 0x0400
    let mv' := if s.is F.DD_THR_FILL d then mv - s.par Sec.droop 0x000B l 0 1 6 else mv
    let vb := s.rd F.RAIL_VSEL_BASE_TGT (s.rd F.DD_MAP_RAIL d)
    let x := (s.rd F.DD_CAL_CODE_CAL d : Int)
      + roundDiv (((vb : Int) - s.rd F.DD_CAL_V_CAL d - 2 * mv') * slope) 8192
    let s := s.wr F.DD_THR_THR_CODE (clampInt 0 254 x).toNat d
    (s.wr F.DD_THR_THR_MV mv d).wr F.DD_THR_BAND band d

/-- The threshold follows a change of a rail's base target (09 R267). -/
def State.ddRail (s : State) (r : Nat) : State :=
  s.each (s.insts.filter fun x => Nat.beq x.typ 8 && Nat.beq (s.rd F.DD_MAP_RAIL x.logical) r) fun s x => s.ddThr x.logical

/-- Take a rail's base target anew (10 R314); the thresholds of its detectors follow (09 R267). -/
def State.retarget (s : State) (r : Nat) : State :=
  if s.railSt r = Rs.on then
    let b := s.baseTarget r
    if b = s.rd F.RAIL_VSEL_BASE_TGT r then s
    else
      let s := ((s.wr F.RAIL_VSEL_BASE_TGT b r).setV .slewAt s.time r).ddRail r
      if b = s.rd F.RAIL_VSEL_BASE_REF r then s.when (!s.is F.RAIL_VSEL_DONE r) fun s => s.targetReached r
      else s.wr F.RAIL_VSEL_DONE 0 r
  else (s.wr F.RAIL_VSEL_BASE_TGT (s.startTarget r) r).ddRail r

/-- Select a slot for a rail (10 R313). -/
def State.selectSlot (s : State) (r k : Nat) : State :=
  if s.rd F.RAIL_VSEL_SEL r = k then s.retarget r
  else ((s.wr F.RAIL_VSEL_SEL k r).railFrame r 0).retarget r

/-- The rails that are not MONITORED. -/
def State.ctlRails (s : State) : List Nat := (s.rails.filter fun x => !x.monitored).map (·.rail)

/-! ### States -/

/-- Note a cause of R126 (04) for interval j of a rail. -/
def State.invNote (s : State) (r k j : Nat) : State :=
  if bitOf (s.vn .invBits r j) k then s else s.addV .invBits (2 ^ k : Nat) r j

/-- Show power good; a fall is noted in the interval of its stamp, a rise in that of the instant before it (04 R126). -/
def State.pgSet (s : State) (r : Nat) (pg : Bool) : State :=
  let was := s.is F.RAIL_STATE_PG r
  let s := s.wr F.RAIL_STATE_PG (b2n pg) r
  if was && !pg then (s.setV .pgFell s.time r).invNote r 3 (s.time / 1000)
  else if pg && !was then (s.setV .pgRose s.time r).invNote r 3 ((s.time - 1) / 1000)
  else s

/-- Enter a state; a rail that is in neither ON nor STOP holds its islands in reset (13 R408). -/
def State.railTo (s : State) (r st : Nat) : State :=
  let s := ((s.wr F.RAIL_STATE_STATE st r).pgSet r false).wr F.RAIL_STATE_NOSINK (b2n (st = Rs.startNs)) r
  s.when (!(st = Rs.on || st = Rs.stop)) State.rstSync

/-- No shed is in progress on a rail. -/
def State.shedIdle (s : State) (r : Nat) : State :=
  let s := (s.wr F.RAIL_SHED_STAT_SHST 0 r).wr F.RAIL_SHED_STAT_SHED_POS 0xFF r
  ((s.setV .dwellFrom (-1) r).setV .shedWait 0 r).setV .shedChk 0 r

/-- A shed in progress is aborted (10 R326). -/
def State.shedAbort (s : State) (r : Nat) : State :=
  if 2 ≤ s.rd F.RAIL_SHED_STAT_SHST r then
    let s := s.setV .shedPendAt (-1) r
    let s := s.each (s.phIn r 2) fun s p => s.wr F.PH_STAT_PHST 1 p
    let s := (s.incSat F.RAIL_SHED_STAT_ABORTS 1 r).event 0x3B r
    (s.railFrame r 4).shedIdle r
  else s

/-- A rail without reference: OFF or HALT. HALT takes every channel out of service at once; after FLOOR each stops at its next cycle
start (10 R322, R323). -/
def State.railDown (s : State) (r st : Nat) : State :=
  let s := s.shedAbort r
  let s := (s.railTo r st).shedIdle r
  let s := s.each (s.phOn r) fun s p =>
    if st = Rs.off && decide (0 ≤ s.v .phStart p) then s.setV .phStop 1 p else s.phOut p 0 s.time
  let s := (s.wr F.RAIL_VSEL_BASE_REF 0 r).wr F.RAIL_VSEL_DONE 0 r
  let s := ((s.setV .cycOn 0 r).setV .cySeen 0 r).setV .pgFrom (-1) r
  let s := ((s.setV .ovCnt 0 r).setV .uvCnt 0 r).setV .ocCnt 0 r
  ((s.refForm r).phShow r).gridCheck r

/-- HALT_REQ (10 R318, R323). -/
def State.haltReq (s : State) (r : Nat) : State :=
  let st := s.railSt r
  if st = Rs.halt || st = Rs.monitor || s.monitored r then s
  else
    let s := (s.railDown r Rs.halt).flag F.RAIL_STATE_HALT_SEEN r
    (s.event 0x39 r).railFrame r 6

/-- HALT_CLEAR (10 R318). -/
def State.haltClear (s : State) (r : Nat) : State := if s.railSt r = Rs.halt then s.railTo r Rs.off else s

/-- SEQ_ON (10 R318). -/
def State.seqOn (s : State) (r : Nat) : State :=
  let st := s.railSt r
  let s := s.setV .railPlan 0 r
  if s.monitored r then s
  else if st = Rs.off then ((s.railTo r Rs.measure).setV .measSum 0 r).setV .measN 0 r
  else if st = Rs.stop then ((s.railTo r Rs.soft).setV .slewAt s.time r).refForm r
  else s

/-- SEQ_OFF (10 R318); before it, the hub holds the rail's islands in reset (13 R408). -/
def State.seqOff (s : State) (r : Nat) : State :=
  let st := s.railSt r
  let s := (s.setV .railPlan 1 r).rstSync
  if st = Rs.measure || st = Rs.startNs then s.railDown r Rs.off
  else if st = Rs.soft || st = Rs.on then
    let s := s.shedAbort r
    let s := s.wr F.RAIL_VSEL_BASE_REF (s.rd F.RAIL_VSEL_REF r) r
    (((s.railTo r Rs.stop).wr F.RAIL_VSEL_DONE 0 r).setV .slewAt s.time r).refForm r
  else s

/-- REF_PASS (10 R320), at the present reference and VSENSE. -/
def State.refPass (s : State) (r : Nat) : State :=
  let ref := s.rd F.RAIL_VSEL_REF r
  let pass := if ref = s.startTarget r then Nat.ble (s.rd F.RAIL_STATE_VSENSE r) ref
    else Nat.ble (s.rd F.RAIL_STATE_V_PRE r + 2 * s.pbMargin r) ref
  if s.railSt r = Rs.startNs && pass then s.railTo r Rs.soft else s

/-- The rail enters ON (10 R314, R318). -/
def State.railOn (s : State) (r : Nat) : State :=
  let s := (s.railTo r Rs.on).pgSet r true
  let b := s.baseTarget r
  let s := ((s.wr F.RAIL_VSEL_BASE_TGT b r).setV .slewAt s.time r).ddRail r
  let s := if b = s.rd F.RAIL_VSEL_BASE_REF r then s.targetReached r else s.wr F.RAIL_VSEL_DONE 0 r
  s.refForm r

/-- MEAS_DONE (10 R319): the 16 conversions are in. -/
def State.measDone (s : State) (r : Nat) : State :=
  if s.railSt r = Rs.measure && decide (16 ≤ s.v .measN r) then
    let v := (roundDiv (s.v .measSum r) 16).toNat
    let s := (s.wr F.RAIL_STATE_V_PRE v r).railTo r Rs.startNs
    let s := s.each (s.phIn r 0) fun s p => s.phIn1 p
    let s := ((s.setV .rlU1 0 r).setV .rlW1 0 r).setV .rlE1 0 r
    let s := (s.wr F.RAIL_VSEL_BASE_REF (min v (s.startTarget r)) r).wr F.RAIL_VSEL_BASE_TGT (s.startTarget r) r
    let s := ((s.setV .slewAt s.time r).refForm r).phShow r
    if (s.phOn r).isEmpty then s.haltReq r else s.refPass r
  else s

/-- TARGET_PG (10 R321). -/
def State.targetPg (s : State) (r : Nat) : State :=
  let st := s.railSt r
  if (st = Rs.startNs || st = Rs.soft) && Nat.beq (s.rd F.RAIL_VSEL_REF r) (s.startTarget r) && decide (0 ≤ s.v .pgFrom r)
      && decide (s.v .pgFrom r + 1000 * s.pgDly r ≤ s.time) then s.railOn r
  else s

/-- The step interval of a rail in ns (10 R314): round(500 / rate). -/
def stepNs (rate : Nat) : Nat := (roundDiv 500 rate).toNat

/-- Move Vb to a code. -/
def State.slewTo (s : State) (r x : Nat) : State := ((s.wr F.RAIL_VSEL_BASE_REF x r).setV .slewAt s.time r).refForm r

/-- SLEW_STEP (10 R314, R317, R322): one code toward the target, when the step is due. -/
def State.slewStep (s : State) (r : Nat) : State :=
  let st := s.railSt r
  let vb := s.rd F.RAIL_VSEL_BASE_REF r
  let due (rate : Nat) : Bool := Nat.ble (s.vn .slewAt r + stepNs rate) s.time
  if st = Rs.on then
    let b := s.rd F.RAIL_VSEL_BASE_TGT r
    if vb = b then s
    else if due (s.slewRate r (if vb < b then 0 else 1)) then
      let s := s.slewTo r (if vb < b then vb + 1 else vb - 1)
      if s.rd F.RAIL_VSEL_BASE_REF r = b then s.targetReached r else s
    else s
  else if st = Rs.startNs || st = Rs.soft then
    let b := s.startTarget r
    if vb = b || !due (s.slewRate r 2) then s
    else (s.slewTo r (if vb < b then vb + 1 else vb - 1)).refPass r
  else if st = Rs.stop then
    if !due (s.slewRate r 3) then s
    else
      let s := if s.stopFloor r < vb then s.slewTo r (vb - 1) else s
      if s.rd F.RAIL_VSEL_BASE_REF r ≤ s.stopFloor r then s.railDown r Rs.off else s
  else s

/-! ### The voltage loop -/

/-- One loop sample of R311 (10). -/
def State.loopLaw (s : State) (r vs : Nat) : State :=
  let e : Int := (s.rd F.RAIL_VSEL_REF r : Int) - vs
  let w := sat32 (rne (s.rdI F.RAIL_COMP_B_A1_M r * s.v .rlW1 r) (s.rd F.RAIL_COMP_B_A1_S r)
    + rne (s.rdI F.RAIL_COMP_A_B0_M r * e) (s.rd F.RAIL_COMP_B_B0_S r)
    + rne (s.rdI F.RAIL_COMP_A_B1_M r * s.v .rlE1 r) (s.rd F.RAIL_COMP_B_B1_S r))
  let u1 := s.v .rlU1 r
  let v := sat32 (u1 + w)
  let u := min (max v 0) (s.rd F.RAIL_PCM_IPK_CMD_MAX r : Int)
  let w := if u ≠ v then u - u1 else w
  let s := ((s.setV .rlW1 w r).setV .rlE1 e r).setV .rlU1 u r
  let s := (s.wrI F.RAIL_LOOP_U u r).wrI F.RAIL_LOOP_E e r
  let s := s.wr F.RAIL_LOOP_SAT (b2n (decide (u ≠ v))) r
  s.when (decide (u ≠ v)) fun s => s.flag F.RAIL_LOOP_SAT_SEEN r

/-- The shed order of a rail, positions (10 R333): SHED_ORDER, or descending. -/
def State.shedOrder (s : State) (r : Nat) : List Nat :=
  match s.railItem? 0x0051 r with
  | some v => (v.map (·.toNat)).filter fun k => decide (k ≠ 0xFF)
  | none => (List.range (s.railPhases r).length).reverse

/-- The issue rail of a leaf (09 R274). -/
def State.issueRail (s : State) (l : Nat) : Option Nat :=
  match s.coeff? l 1 with
  | some v => some (fieldAt v 0 1)
  | none => (List.range 32).find? fun r => (s.bindings l).any fun b => Nat.ble b.1 7 && Nat.beq b.2.1 r

/-- The leaves whose issue rail is a rail. -/
def State.issueLeaves (s : State) (r : Nat) : List Nat := s.leaves.filter fun l => decide (s.issueRail l = some r)

/-- LEAF_SHED to every leaf whose issue rail is the rail (10 R325, R330). -/
def State.shedSend (s : State) (r : Nat) (src : CmdSrc) : State :=
  s.each (s.issueLeaves r) fun s l =>
    let (ok, s) := s.hubCmd (leafDom l) 3 (islOff .LEAF_SHED 0) r src
    s.when (ok && decide (src ≠ .own)) fun s => s.addV .shedWait 1 r

/-- Start a shed (10 R325). -/
def State.shedStart (s : State) (r k : Nat) : State :=
  match s.phAt r k with
  | none => s
  | some p =>
    let s := (s.wr F.RAIL_SHED_STAT_SHST 2 r).wr F.RAIL_SHED_STAT_SHED_POS k r
    let s := (s.wr F.PH_STAT_PHST 2 p).railFrame r 2
    let s := ((s.setV .shedAt s.time r).setV .shedWait 0 r).setV .shedChk 0 r
    let s := s.addV .shedNum 1 r
    let s := s.shedSend r (.shed r (s.vn .shedNum r))
    s.when (s.v .shedWait r = 0) fun s => s.wr F.RAIL_SHED_STAT_SHST 3 r

/-- A LEAF_SHED response of a rail's shed of a number has come in (10 R325); one of an earlier shed confirms nothing. -/
def State.shedConfirm (s : State) (r num : Nat) : State :=
  if s.rd F.RAIL_SHED_STAT_SHST r = 2 && Nat.beq (s.vn .shedNum r) num then
    let s := s.addV .shedWait (-1) r
    s.when (decide (s.v .shedWait r ≤ 0)) fun s => s.wr F.RAIL_SHED_STAT_SHST 3 r
  else s

/-- Adding and shedding at a loop sample in ON (10 R324 to R326), at rail current i. -/
def State.shedRun (s : State) (r : Nat) (i : Int) : State :=
  let n : Nat := (s.phOn r).length
  let tooHigh := decide (i > (s.rd F.RAIL_SHED_ADD_PP r * 100 * n : Nat))
  let order := s.shedOrder r
  let s := s.when tooHigh fun s => s.shedAbort r
  let s := s.when (Nat.beq (s.rd F.RAIL_SHED_STAT_SHST r) 3 && s.v .shedChk r = 0) fun s => s.setV .shedChk (s.v .rlTick r + 1) r
  let dis := order.filter fun k => match s.phAt r k with | some p => Nat.beq (s.rd F.PH_STAT_PHST p) 0 | none => false
  match (if tooHigh || Nat.blt n (s.rd F.RAIL_SHED_NMIN r) then dis.getLast? else none) with
  | some k =>
    let s := match s.phAt r k with | some p => s.phIn1 p | none => s
    let s := (s.phShow r).phScale r n
    (s.incSat F.RAIL_SHED_STAT_ADDS 1 r).setV .dwellFrom (-1) r
  | none =>
    if 2 ≤ s.rd F.RAIL_SHED_STAT_SHST r then s
    else
      let low := Nat.blt (s.rd F.RAIL_SHED_NMIN r) n && decide (i < (s.rd F.RAIL_SHED_SHED_PP r * 100 * (n - 1) : Nat))
      if !low then (s.setV .dwellFrom (-1) r).wr F.RAIL_SHED_STAT_SHST 0 r
      else
        let s := s.when (decide (s.v .dwellFrom r < 0)) fun s => s.setV .dwellFrom s.time r
        let s := s.wr F.RAIL_SHED_STAT_SHST 1 r
        if decide (s.v .dwellFrom r + 1000 * s.rd F.RAIL_SHED_DWELL r ≤ s.time) && s.is F.RAIL_SHED_SHED_EN r
            && Nat.beq (s.rd F.RAIL_RISE_STATE r) 0 then
          match order.find? (fun k => match s.phAt r k with | some p => Nat.beq (s.rd F.PH_STAT_PHST p) 1 | none => false) with
          | some k => s.shedStart r k
          | none => s
        else s

/-- A field of the RAIL_OVUV item (12 R386), with the default given. -/
def State.ovuv (s : State) (r off len dflt : Nat) : Nat := s.par Sec.timing 0x0010 r off len dflt

/-- A count of consecutive samples. -/
def State.runCnt (s : State) (x : Var) (r : Nat) (c : Bool) : State := s.setV x (if c then s.v x r + 1 else 0) r

/-- RAIL_OC, mA (12 R386). -/
def State.railOc (s : State) (r : Nat) : Nat := 100 * s.par Sec.timing 0x0011 r 0 2 (750 * (s.railPhases r).length)

/-- A cycle of a rail has ended at a VSENSE code (04 R124, R125; 12 R364): the sum of the samples of its enabled channels; one newly
enabled has none until its first cycle ends. -/
def State.cycleEnd (s : State) (r vs : Nat) : State :=
  let i := sumInt (((s.phOn r).filter fun p => s.v .phNew p = 0).map fun p => s.rdI F.PH_SAMPLE_I p)
  let p := roundDiv (i * vs) 2000
  let j := s.time / 1000
  let s := ((s.addV .cyP p r j).addV .cyI i r j).addV .cyV vs r j
  let s := ((s.addV .cyN 1 r j).setV .cyLastP p r).setV .cyLastI i r
  let s := s.when (s.v .cySeen r = 0) fun s => s.setV .cySeen (s.time + 1 : Nat) r
  (s.runCnt .ocCnt r (decide ((s.railOc r : Int) < i))).setV .railI i r

/-- The OV and UV counts at a conversion (12 R364, R365); margins are in mV, two codes each. -/
def State.ovuvCount (s : State) (r vs : Nat) : State :=
  let st := s.railSt r
  let vmax := s.rd F.RAIL_LIM_VMAX r
  let ref := s.rd F.RAIL_VSEL_REF r
  if st = Rs.monitor then
    (s.runCnt .ovCnt r (Nat.blt vmax vs)).runCnt .uvCnt r (Nat.blt vs (s.rd F.RAIL_LIM_VMIN r))
  else
    let hot := st = Rs.startNs || st = Rs.soft || st = Rs.on || st = Rs.stop
    let ov := Nat.ble (min (ref + 2 * s.ovuv r 0 1 80) (s.ovuv r 4 2 (vmax + 200))) vs
    let uv := Nat.ble (vs + 2 * s.ovuv r 1 1 100) ref
    (s.runCnt .ovCnt r (hot && ov)).runCnt .uvCnt r (st = Rs.on && uv)

/-- PG and the PG_DLY timer at a conversion (10 R302, R321). -/
def State.pgCheck (s : State) (r vs : Nat) : State :=
  let st := s.railSt r
  if st = Rs.monitor then
    s.pgSet r (Nat.ble (s.rd F.RAIL_LIM_VMIN r) vs && Nat.ble vs (s.rd F.RAIL_LIM_VMAX r))
  else
    let ref := s.rd F.RAIL_VSEL_REF r
    let near := Nat.ble ((vs - ref) + (ref - vs)) (2 * s.pgWin r)
    let s := s.pgSet r (st = Rs.on && near)
    if (st = Rs.startNs || st = Rs.soft) && near && Nat.beq ref (s.startTarget r) then
      s.when (decide (s.v .pgFrom r < 0)) fun s => s.setV .pgFrom s.time r
    else s.setV .pgFrom (-1) r

/-- The shed position goes to mid-level and becomes DISABLED (10 R325); PEN falls 200 ns later. -/
def State.shedDisable (s : State) (r : Nat) : State :=
  let n := (s.phOn r).length
  let s := s.each (s.phIn r 2) fun s p => s.phOut p 0 (s.time + 200)
  let s := ((s.phShow r).phScale r n).railFrame r 3
  ((s.incSat F.RAIL_SHED_STAT_SHEDS 1 r).shedIdle r).setV .shedPendAt (-1) r

/-- Whether the position being shed has passed the check of DISABLING at a loop sample before a tick (10 R325). -/
def State.shedReady (s : State) (r tick : Nat) : Bool :=
  Nat.beq (s.rd F.RAIL_SHED_STAT_SHST r) 3 && decide (0 < s.v .shedChk r) && decide (s.v .shedChk r ≤ (tick : Int))

/-- The cycle start at which the shed position goes to mid-level; a loop sample of the same stamp comes first (10 R325, R332). -/
def State.shedEdge (s : State) (r : Nat) : State :=
  if (s.rlTick r).isSome then s.setV .shedPendAt s.time r else s.shedDisable r

/-- A delta's RAIL_PARAMS KEY takes effect at a rail (10 R332, R333): with PROT the defaults that name IPK_LIM follow. -/
def State.railKeyLoad (s : State) (r key : Nat) : State :=
  let s : State := { s with img := { s.img with railPend := s.img.railPend.filter fun x => !(Nat.beq x.1 r && Nat.beq x.2 key) } }
  let s := s.each (if key = 0x0060 then [0x0031, 0x0050] else [key]) fun s k => s.loadRail k r
  s.when ((key = 0x0001 || key = 0x0010) && !s.monitored r) fun s => s.retarget r

/-- A loop sample of a rail: a VSENSE conversion, or open sense (10 R311, R316, R319 to R321, R324, R326). -/
def State.loopSample (s : State) (r vs : Nat) (opn : Bool) : State :=
  if (s.rail? r).isNone then s
  else match s.rlTick r with
  | none => s
  | some tick =>
    let s := s.setV .rlTick tick r
    let s := s.each (s.img.railPend.filter fun x => Nat.beq x.1 r) fun s x => s.railKeyLoad r x.2
    let st := s.railSt r
    let s := s.wr F.RAIL_STATE_VSENSE (min 4095 vs) r
    if s.monitored r then if st = Rs.monitor then (s.pgCheck r vs).ovuvCount r vs else s
    else if st = Rs.off || st = Rs.halt then s
    else if opn then ((s.invNote r 2 (s.time / 1000)).event 0x3A r).haltReq r
    else if st = Rs.measure then
      if s.v .measN r < 16 then (s.addV .measSum vs r).addV .measN 1 r else s
    else
      let s := s.when (s.v .cycOn r = 1) fun s => s.cycleEnd r vs
      let s := s.setV .cycOn 1 r
      let s := (s.pgCheck r vs).ovuvCount r vs
      let s := s.when (Nat.blt 4095 vs) fun s => s.invNote r 2 (s.time / 1000)
      let s := s.setV .rlUPrev (s.rdI F.RAIL_LOOP_U r) r
      let s := (s.loopLaw r vs).refPass r
      let s := if st = Rs.on then s.shedRun r (s.v .railI r) else s
      s.when (s.v .shedPendAt r = (s.time : Int)) fun s => s.shedDisable r

/-! ### Phase channels -/

/-- How far a cycle has come: PWM (0 mid-level, 1 high, 2 low), the on-time in ns, and the limits met (10 R309, R329). -/
structure Cyc where
  pwm : Nat
  ton : Nat
  cbc : Bool
  neg : Bool
deriving DecidableEq, Repr

/-- What a cycle goes by: the command u, SLOPE, IPK_LIM and NEG_LIM in mA, the period in ticks, no-sink mode (10 R309). -/
structure CycPar where
  u : Int
  slope : Nat
  ipk : Nat
  neg : Nat
  per : Nat
  noSink : Bool
deriving DecidableEq, Repr

/-- One instant of a cycle: x ns after its start the stage's current is i mA (10 R309, R329). The on-time ends where i meets
u - Se × t_on, at IPK_LIM, or with 20 ns left, but not before 10 ns. -/
def cycStep (c : CycPar) (y : Cyc) (x : Nat) (i : Int) : Cyc :=
  if y.pwm = 0 then y
  else if i ≤ -(c.neg : Int) then { y with pwm := 0, neg := true, ton := if y.pwm = 1 then x else y.ton }
  else if y.pwm = 1 then
    let y := { y with cbc := y.cbc || decide ((c.ipk : Int) ≤ i) }
    let meets := decide (8 * (c.u - i) ≤ (c.slope * x : Nat)) || y.cbc || Nat.ble c.per (2 * x + 40)
    if meets && Nat.ble 10 x then { y with pwm := 2, ton := x } else y
  else if c.noSink && decide (i ≤ 0) then { y with pwm := 0 }
  else y

/-- A cycle over the current that the stage showed; an on-time that nothing has ended ends with 20 ns left. -/
def cycRun (c : CycPar) (cur : List (Nat × Int)) : Cyc :=
  let y := cur.foldl (fun y x => cycStep c y x.1 x.2) { pwm := 1, ton := 0, cbc := false, neg := false }
  if y.pwm = 1 then { y with pwm := 2, ton := max 10 ((c.per - 40) / 2) } else y

/-- A channel's cycle ends: the current that its stage showed, its mean sample in mA, and whether its ADC flagged that (04 R124, R126,
R137; 10 R309, R329). -/
def State.cycleDone (s : State) (p r : Nat) (cur : List (Nat × Int)) (mean : Int) (inv : Bool) : State :=
  let y := cycRun ⟨s.v .phU p, s.rd F.RAIL_PCM_SLOPE r, s.ipkLim r, s.negLim r, s.perTicks r, s.is F.RAIL_STATE_NOSINK r⟩ cur
  let s := (s.wrI F.PH_SAMPLE_I (satS 32 mean) p).setV .phTon y.ton p
  let s := s.setV .phPwm y.pwm p
  let s := s.when y.cbc fun s => (s.flag F.PH_STAT_CBC_SEEN p).incSat F.PH_STAT_CBC 1 p
  let s := s.setV .cbcRun (if y.cbc then s.v .cbcRun p + 1 else 0) p
  let s := s.when y.neg fun s => s.flag F.PH_STAT_NEG_SEEN p
  let s := s.when inv fun s => (s.flag F.PH_STAT_ADC_INV p).invNote r 0 (s.time / 1000)
  let k := s.time / 1000
  ((s.setV .phNew 0 p).addV .phSum mean p k).addV .phN 1 p k

/-- A channel starts a cycle at a tick: PWM high, and the command of the last loop sample before it (10 R309, R311). -/
def State.cycleStart (s : State) (p r tick : Nat) : State :=
  let u := if s.v .rlTick r = (tick : Int) then s.v .rlUPrev r else s.rdI F.RAIL_LOOP_U r
  let s := ((s.setV .phPwm 1 p).setV .phU u p).setV .phStart tick p
  s.when (s.v .railRegrid r = 1) fun s => (s.setV .phOnGrid 1 p).gridCheck r

/-- A cycle start of a channel in service (10 R305, R309): the cycle before it ends, and a new one starts, unless the channel stops here
(10 R322, R325). -/
def State.phaseCycle (s : State) (p : Nat) (cur : List (Nat × Int)) (mean : Int) (inv : Bool) : State :=
  let st := s.rd F.PH_STAT_PHST p
  if (s.inst? 0x0A p).isNone || !(st = 1 || st = 2) then s
  else
    let r := s.phRail p
    match s.phTick r p with
    | none => s
    | some tick =>
      let s := s.when (decide (0 ≤ s.v .phStart p)) fun s => s.cycleDone p r cur mean inv
      if s.v .phStop p = 1 then ((s.phOut p 0 s.time).phShow r).gridCheck r
      else if st = 2 && s.shedReady r tick then s.shedEdge r
      else s.cycleStart p r tick

/-- SHED_DISABLE (10 R325): the position being shed has its next cycle start after the check. -/
def State.shedDisableAt (s : State) (r : Nat) : State :=
  match s.phIn r 2 with
  | p :: _ =>
    match s.phTick r p with
    | some tick => if s.shedReady r tick then s.shedEdge r else s
    | none => s
  | [] => s

/-- FAULT_N of a channel goes low (10 R324, R326, R329, R330). -/
def State.phaseFault (s : State) (p : Nat) : State :=
  if (s.inst? 0x0A p).isNone then s
  else
    let r := s.phRail p
    let n := (s.phOn r).length
    let on := (s.phOn r).contains p
    let s := s.wr F.PH_STAT_FAULT_N 0 p
    let s := (s.when on fun s => s.invNote r 1 (s.time / 1000)).shedAbort r
    let s := s.phOut p 3 s.time
    let s := (s.flag F.PH_STAT_FAULT_SEEN p).incSat F.PH_STAT_FAULTS 1 p
    let s := (s.event 0x3C p).phShow r
    let s := (s.railFrame r 5).gridCheck r
    let s := s.when on fun s => s.phScale r n
    let s := (s.setV .dwellFrom (-1) r).shedSend r .own
    if on && (s.phOn r).isEmpty then s.haltReq r else s

/-- Whether a channel has been DISABLED with PEN low for 5 µs (10 R331). -/
def State.phCalReady (s : State) (p : Nat) : Bool :=
  Nat.beq (s.rd F.PH_STAT_PHST p) 0 && s.v .phPen p = 0 && Nat.ble (s.vn .phOffAt p + 5000) s.time

/-- PH_CTRL.CAL_REQ (10 R331). -/
def State.phCalReq (s : State) (p : Nat) : Status × State :=
  if (s.inst? 0x0A p).isNone then (.eAbsent, s)
  else
    let s := s.setV .phCalReq 1 p
    (.ok, if s.phCalReady p then s else s.wr F.PH_CAL_CAL_PEND 1 p)

/-- PH_CTRL.CLR_FAULT, with the level of FAULT_N (10 R330). -/
def State.clrFault (s : State) (p : Nat) (high : Bool) : Status × State :=
  if (s.inst? 0x0A p).isNone then (.eAbsent, s)
  else if !high then (.eRange, s)
  else
    let s := s.wr F.PH_STAT_FAULT_N 1 p
    (.ok, if s.rd F.PH_STAT_PHST p = 3 then (s.wr F.PH_STAT_PHST 0 p).phShow (s.phRail p) else s)

/-! ### Slots -/

/-- A write of RAIL_VSEL.SEL (10 R313). -/
def State.vselWrite (s : State) (r k : Nat) : Status × State :=
  if (s.rail? r).isNone then (.eAbsent, s)
  else if s.pkg ≠ Pkg.hold then (.eRange, s)
  else (.ok, (s.wr F.RAIL_VSEL_FW 1 r).selectSlot r (k % 8))

/-- A write of RAIL_VSLOT_k (10 R315). -/
def State.vslotWrite (s : State) (r k code : Nat) : Status × State :=
  if (s.rail? r).isNone then (.eAbsent, s)
  else if code < s.rd F.RAIL_LIM_VMIN r || s.rd F.RAIL_LIM_VMAX r < code then (.eRange, s)
  else (.ok, (s.wr F.RAIL_VSLOT_CODE code r k).retarget r)

/-! ### LEAF_VREF -/

/-- The references of a leaf's rails, by rail slot. -/
def State.vrefs (s : State) (l : Nat) : List (Nat × Nat) :=
  (s.leafRails l).zipIdx.map fun rk => (rk.2, s.rd F.RAIL_VSEL_REF rk.1)

/-- The word of LEAF_VREF (10 R337). -/
def vrefWord (l : List (Nat × Nat)) : Nat := pack (l.map fun x => (16 * x.1, 12, x.2))

/-- The references sent to a leaf. -/
def State.vrefNote (s : State) (l : Nat) : State :=
  s.each (s.vrefs l) fun s x => s.setV .vrefSent x.2 l x.1

/-- The comparison for a leaf on the 500 ns grid of the hub time base (10 R316). -/
def State.vrefCheck (s : State) (l : Nat) : State :=
  if Nat.beq (s.time % 500) 0 && (s.vrefs l).any fun x => !(s.v .vrefSent l x.1 = (x.2 : Int)) then
    let (ok, s) := s.hubCmd (leafDom l) 3 (islOff .LEAF_VREF 0) (vrefWord (s.vrefs l)) .own
    if ok then s.vrefNote l else s
  else s

/-- A leaf adopts LEAF_VREF (10 R316, 04 R117). -/
def State.vrefTake (s : State) (l w : Nat) : State := s.setReg .LEAF_VREF (BitVec.ofNat 64 w &&& 0x0FFF0FFF0FFF0FFF) l

/-! ### LEAF_SHED at the leaf -/

/-- LEAF_SHED: ceilings at BUD for the sub-gates of the leaf, whose issue rail is the named rail (10 R327). -/
def State.shedTake (s : State) (l r : Nat) : State :=
  let s := s.wr F.LEAF_SHED_RAIL r l
  if s.issueRail l = some r then
    let held := s.is F.LEAF_SHED_HOLD l
    let s := s.each (s.subGates l) fun s q =>
      let b := s.rd (sgF q F.LEAF_GATE_BUD_A F.LEAF_GATE_BUD_B) l (sgPort q)
      s.setV .shedBud (if held then min (s.v .shedBud l q) b else b) l q
    ((s.wr F.LEAF_SHED_HOLD 1 l).wr F.LEAF_SHED_EXPIRE (s.islNow (leafDom l) + 2000) l).leafEff l
  else s

/-- The hold of LEAF_SHED expires (10 R327). -/
def State.shedExpire (s : State) (l : Nat) : State :=
  if s.is F.LEAF_SHED_HOLD l && decide (2 ^ 31 ≤ (s.rd F.LEAF_SHED_EXPIRE l + 2 ^ 32 - s.islNow (leafDom l) % 2 ^ 32 - 1) % 2 ^ 32) then
    (s.wr F.LEAF_SHED_HOLD 0 l).leafEff l
  else s

/-! ### Commands -/

/-- SHED_TIMEOUT (10 R326). -/
def execShedTimeout (t r : Nat) (s : State) : Host.Outcome State Fault Refusal :=
  let s := s.start t
  .next (if Nat.beq (s.rd F.RAIL_SHED_STAT_SHST r) 2 && Nat.ble (s.vn .shedAt r + 1000) s.time then s.shedAbort r else s)

/-- LEAF_SHED at a leaf (10 R327). -/
def execLeafShed (t l r : Nat) (s : State) : Host.Outcome State Fault Refusal :=
  .next ((s.start t).shedTake l (r % 32))

/-- SHED_HOLD_EXPIRY (10 R327). -/
def execShedHoldExpiry (t l : Nat) (s : State) : Host.Outcome State Fault Refusal :=
  .next ((s.start t).shedExpire l)

/-- RAIL_VSEL_WRITE (10 R313). -/
def execRailVselWrite (t : Nat) (p : Port) (r k : Nat) (s : State) : Host.Outcome State Fault Refusal :=
  .next ((s.start t).command p .RAIL_VSEL (fun s => s.vselWrite r k) r)

/-- RAIL_VSLOT_WRITE (10 R315). -/
def execRailVslotWrite (t : Nat) (p : Port) (r k code : Nat) (s : State) : Host.Outcome State Fault Refusal :=
  .next ((s.start t).command p .RAIL_VSLOT (fun s => s.vslotWrite r (k % 8) code) r (k % 8))

/-- LEAF_VREF_CHECK (10 R316). -/
def execLeafVrefCheck (t l : Nat) (s : State) : Host.Outcome State Fault Refusal :=
  .next ((s.start t).vrefCheck l)

/-- LEAF_VREF at a leaf (10 R316). -/
def execLeafVref (t l w : Nat) (s : State) : Host.Outcome State Fault Refusal :=
  .next ((s.start t).vrefTake l w)

/-- CLR_FAULT (10 R330), with the level of FAULT_N. -/
def execClrFault (t : Nat) (p : Port) (ph : Nat) (high : Bool) (s : State) : Host.Outcome State Fault Refusal :=
  .next ((s.start t).command p .PH_CTRL (fun s => s.clrFault ph high) ph)

/-- PH_CAL_REQ (10 R331). -/
def execPhCalReq (t : Nat) (p : Port) (ph : Nat) (s : State) : Host.Outcome State Fault Refusal :=
  .next ((s.start t).command p .PH_CTRL (fun s => s.phCalReq ph) ph)

/-- ISNS_CALIBRATION (10 R331), with the offset measured, µV. -/
def execIsnsCalibration (t ph : Nat) (ofs : Int) (s : State) : Host.Outcome State Fault Refusal :=
  let s := s.start t
  .next (if (s.inst? 0x0A ph).isSome && s.phCalReady ph && (s.v .phCalDone ph = 0 || s.v .phCalReq ph = 1) then
      let s := (s.wrI F.PH_CAL_ISNS_OFS (satS 16 ofs) ph).wr F.PH_CAL_CAL_VALID 1 ph
      let s := (s.wr F.PH_CAL_CAL_PEND 0 ph).wr F.PH_CAL_CAL_TIME (s.time / 1024) ph
      ((s.setV .phCalDone 1 ph).setV .phCalReq 0 ph).invNote (s.phRail ph) 4 (s.time / 1000)
    else s)

end Sys2Proof.Machine
end

