-- ==== Sys2Proof/Machine/Guard.lean ====
section
/-!
DEFINITION. The guard of a parent end (03 R99, R100), the answers that reach what the hub sent a command for (18 R537, R540), and the
progress of a node engine's fence (03 R102).
-/
namespace Sys2Proof.Machine

/-- A write that left the posted-write queue's front (18 R540). -/
def State.postedDone (s : State) (bad : Bool) : State :=
  let s : State := { s with posted := s.posted.drop 1 }
  let s := s.wr F.HOST_STATUS_PQ_DEPTH s.posted.length
  s.when bad fun s => (s.flag F.HOST_STATUS_PERR_SEEN).event 0x88 0

/-- The leaf register writes that a footprint follows (07 R210). -/
def footOff (off : Nat) : Bool := Nat.ble 0x440 off && Nat.blt off 0x600

/-- The hub's copy of a loop's configuration word (05 R168). -/
def State.lpHubWord (s : State) (r : Reg) (l : Nat) : Word :=
  let c := s.v .lpHub l (r.place.base % 0x80 / 8)
  if c = 0 then s.reg r l else BitVec.ofInt 64 (c - 1)

/-- The hub's copy of a loop's configuration word takes a value. -/
def State.lpHubSet (s : State) (r : Reg) (l : Nat) (w : Word) : State :=
  let m := r.mask accSets
  s.setV .lpHub (if w &&& m = s.reg r l &&& m then 0 else (w.toNat + 1 : Nat)) l (r.place.base % 0x80 / 8)

/-- The loops that name a gain table, as the hub's copies of their descriptors say (05 R167). -/
def State.gtOwners (s : State) (t : Nat) : List Nat :=
  (s.loops.map (·.loop)).filter fun l => Nat.beq (getBits (s.lpHubWord .LOOP_CFG l) F.LOOP_CFG_GTABLE.lsb F.LOOP_CFG_GTABLE.w) t

/-- A domain but the hub, as a list. -/
def notHub (d : Nat) : List Nat := if d = hubDom then [] else [d]

/-- The node engines that hold a copy of a gain table (05 R168). -/
def State.gtNodes (s : State) (t : Nat) : List Nat :=
  ((s.gtOwners t).flatMap fun l => notHub (s.rd F.LOOP_SCHED_HOST l)).eraseDups

/-- The registers of a loop that a write sets (05, the loop window). -/
def loopCfgRegs : List Reg := [.LOOP_CFG, .LOOP_SP, .LOOP_SP_MAX, .LOOP_OUT_LIM, .LOOP_INT_LIM, .LOOP_DEST, .LOOP_MANUAL]

/-- Whether a register lies in a loop's window. -/
def isLoopReg (a : Nat) : Bool := Nat.ble 0x4_0000 a && Nat.blt a 0x5_0000

/-- The node engines that hold what a hub address names: a loop's host, or the hosts of a gain table's loops (05 R168). -/
def State.copyNodes (s : State) (a : Nat) : List Nat :=
  if isLoopReg a then (match s.loop? ((a - 0x4_0000) / 0x80) with | some r => notHub r.host | none => [])
  else if Nat.ble 0x5_0000 a && Nat.blt a 0x6_0000 then s.gtNodes ((a - 0x5_0000) / 0x200)
  else []

/-- The hub's own copy takes a write that the node engines have taken (05 R168). -/
def State.hubCopy (s : State) (a : Nat) (wide : Bool) (w : Word) : State :=
  match decodeAddr a with
  | none => s
  | some (r, i, j) =>
    if r = .GT_A || r = .GT_B then s.gtHubSet r i j (putWord r a wide (s.reg r i j) w) (s.gtNodes i)
    else if loopCfgRegs.contains r then s.lpHubSet r i (putWord r a wide (s.lpHubWord r i) w)
    else s

/-- The hub sends a write on to the next node engine that holds a copy (05 R168; the OFFSET is the register's own address: log
entry 109). -/
def State.copySend (s : State) (ans : Option Port) (a : Nat) (w : Word) (wide : Bool) (d : Nat) (rest : List Nat) : Bool × State :=
  s.hubCmd d (if wide then 3 else 2) a w.toNat (.copy ans a w wide rest)

/-- Answer a port that waits for a write at node engines. -/
def State.copyAns (s : State) (ans : Option Port) (a : Nat) (st : Status) : State :=
  match ans with
  | none => s
  | some p =>
    let s := s.answerD p a true st 0
    match p with
    | .posted _ _ => s.postedDone (st ≠ .ok)
    | _ => s

/-- The status of a command reaches what the hub sent it for (03 R100; 07 R210; 10 R325; 18 R537, R540). -/
def State.cmdAnswered (s : State) (p : CmdPend) (st : Status) (data : Word) : State :=
  let s := if isLeaf p.req.dest && opWrites p.req.op && footOff p.req.off && st = .ok then
      let l := domNum p.req.dest
      ((s.footTake l).needRecompute [l] false)
    else s
  match p.src with
  | .port q addr w =>
    let s := s.answerD q addr w st data
    match q with
    | .posted _ _ => s.postedDone (st ≠ .ok)
    | _ => s
  | .shed r n => s.shedConfirm r n
  | .copy ans a w wide rest =>
    if st = .ok then
      match rest with
      | [] => (s.hubCopy a wide w).copyAns ans a .ok
      | d :: rest =>
        let (sent, s) := s.copySend ans a w wide d rest
        if sent then s else s.copyAns ans a .eAbsent
    else s.copyAns ans a st
  | .fac tag => s.emit (.fac ([3, BitVec.ofNat 8 tag, BitVec.ofNat 8 st.code] ++ if st = .ok then wordBytes data else []))
  | _ => s

/-- A node engine that carries out a FENCE acknowledges it once its own fences have completed and it has answered every earlier
request (03 R102). -/
def State.fenceProgress (s : State) (d : Nat) : State :=
  let id := s.vn .chFenceUp d
  if d = hubDom || id = 0 then s
  else
    let ends := s.childEnds d
    let busy := ends.any (fun e => s.chSt e = Ch.fencing) || s.chan.pend.any (fun p => Nat.beq (endDom p.chEnd) d)
      || s.chan.await.any (fun p => Nat.beq (endDom p.1) d)
      || s.chan.wait.any (fun w => Nat.beq (endDom w.pend.chEnd) d)
    if busy then s
    else
      let st : Status := if s.v .chFenceBad d = 1 then .eAbsent else .ok
      let s := (s.setV .chFenceUp 0 d).setV .chFenceBad 0 d
      s.sendUp d Mt.fenceAck (pack [(8, 8, id - 1), (16, 8, st.code)])

/-- The guard of a parent end answers one entry of its pending table with E_ABSENT (03 R99, R100). -/
def State.guardAnswer (s : State) (p : CmdPend) : State :=
  let e := p.chEnd
  let s := (s.pendDrop e p.req.reqid).chInc e F.HUB_CHAN_ABSENT_REPLIES
  let d := endDom e
  if d = hubDom then s.cmdAnswered p .eAbsent 0
  else (s.sendUp d Mt.cmdRsp (rspPayload p.req.dest p.req.reqid .eAbsent)).fenceProgress d

/-- The guard answers every request that waits for room at a parent end (03 R99, R100). -/
def State.guardWait (s : State) (e : ChEnd) : State :=
  let l := s.chan.wait.filter fun w => w.pend.chEnd = e
  let s : State := { s with chan := { s.chan with wait := s.chan.wait.filter fun w => !(w.pend.chEnd = e) } }
  s.each l fun s w => s.guardAnswer w.pend

/-- The guard answers every entry and every waiting request of a parent end (03 R100). -/
def State.guardAll (s : State) (e : ChEnd) : State :=
  let s := s.guardWait e
  s.each (s.chan.pend.filter fun p => p.chEnd = e) fun s p => s.guardAnswer p

/-- Issue a FENCE at a parent end: it sends no further request (03 R102). -/
def State.fenceIssue (s : State) (e : ChEnd) (scope : Nat) : Option Status × State :=
  let (done, s) := s.fenceStart e scope
  (done, s.guardWait e)

end Sys2Proof.Machine
end

