-- ==== Sys2Proof/Machine/Droop.lean ====
section
/-!
DEFINITION. The issue gate's credit bucket, droop detectors, SCORE and wave holds at a leaf (09), and their commands.
-/
namespace Sys2Proof.Machine

/-! ### The credit bucket -/

/-- The load L of R263 (09) for an effective limit, and the remainder carried. -/
def State.creditLoad (s : State) (l q eff : Nat) : Nat × Nat :=
  let x := eff * s.rd F.LEAF_GATE_ROWS l (sgPort q) * s.sgQuarters l q + s.rd (sgF q F.LEAF_CREDIT_REM_A F.LEAF_CREDIT_REM_B) l (sgPort q)
  (x / 16, x % 16)

/-- The debt of the window that ends: the rows reported in it, or since the credits were revoked, beyond the bucket (09 R264). -/
def State.creditDebt (s : State) (l q rows : Nat) : Nat :=
  min ((rows : Int) - s.v .bkt l q).toNat (s.rd F.LEAF_GATE_ROWS l (sgPort q) * s.sgQuarters l q)

/-- A credit window starts for a sub-gate (09 R263): a debt above the load leaves the bucket below 0; the load counts as granted
(06 R201). -/
def State.creditStart (s : State) (l q rows : Nat) : State :=
  let p := sgPort q
  let debt := s.creditDebt l q rows
  let s := s.when (Nat.blt 0 debt) fun s => s.each (s.selsAt l 5 p s.time) fun s k => s.cntAdd l (0x20 + k) (s.sgCtx l q) 1 s.time
  -- what the window would load without PROOF, for a hold that ends in it (R288)
  let s := s.setV .wvLoad (s.creditLoad l q (lowest ((s.gateSources l q).filter fun x => !Nat.beq x.1 5)).2).1 l q
  let (x, rem) := s.creditLoad l q (s.rd (sgF q F.LEAF_GATE_EFF_A F.LEAF_GATE_EFF_B) l p)
  let s := s.wr (sgF q F.LEAF_CREDIT_LOAD_A F.LEAF_CREDIT_LOAD_B) x l p
  let s := s.wr (sgF q F.LEAF_CREDIT_DEBT_A F.LEAF_CREDIT_DEBT_B) debt l p
  let s := s.wr (sgF q F.LEAF_CREDIT_REM_A F.LEAF_CREDIT_REM_B) rem l p
  let s := s.addV .levCred (x : Int) l (q + 64 * (s.time / 10000000))
  (s.setV .bkt ((x : Int) - (debt : Int)) l q).issueDrive l q

/-- A gate's clamp ramps at a window start (09 R272). -/
def State.scoreRamp (s : State) (l p : Nat) : State :=
  if s.v .scRamp l p = 1 then
    let c := s.v .scoreCode l p + s.v .scStep l p
    if 256 ≤ c then (s.setV .scoreCode 256 l p).setV .scRamp 0 l p else s.setV .scoreCode c l p
  else s

/-- Show the lowest clamp in force at a leaf (09 R298). -/
def State.scoreShow (s : State) (l : Nat) : State :=
  let c := (s.gates l).foldl (fun b p => min b (s.vn .scoreCode l p)) 256
  (s.wr F.LEAF_SCORE_ACTIVE (b2n (Nat.blt c 256)) l).wr F.LEAF_SCORE_CODE c l

/-- Limits that take effect at a window (06 R190). -/
def State.winLatch (s : State) (l : Nat) : State :=
  let s := s.each (s.subGates l) fun s q => s.setV .winBud (s.rd (sgF q F.LEAF_GATE_BUD_A F.LEAF_GATE_BUD_B) l (sgPort q)) l q
  let s := s.setV .winLevel (if s.mode = 1 then s.levelLimit l else 512) l
  let s := s.setV .winSafe (if s.v .safeHold l = 1 || !(s.v .safeSil l = 0) then s.safeLimit l else 512) l
  s.setV .rstHold (b2n (s.rstCond l)) l

/-- A credit window starts at a leaf; rows lists what each sub-gate reported in the window that ends, or since its credits were revoked
in it (09 R263, R272; 06 R190). -/
def State.creditWindow (s : State) (l : Nat) (rows : List (Nat × Nat)) : State :=
  let s := (s.leafAcct l).setV .cwAt s.time l
  let s := s.each (rows.filter fun x => Nat.blt 0 x.2 && (s.subGates l).contains x.1) fun s x =>
    s.setV .gateActAt (max (s.v .gateActAt l (sgPort x.1)) (s.time : Nat)) l (sgPort x.1)
  let s := s.each (s.gates l) fun s p => (s.gateTake l p).setV .gatePend 0 l p
  let s := s.each (s.gates l) fun s p => s.scoreRamp l p
  let s := ((s.winLatch l).leafEff l).scoreShow l
  s.each (s.subGates l) fun s q =>
    s.creditStart l q (match rows.find? (fun x => Nat.beq x.1 q) with | some x => x.2 | none => 0)

/-- CREDIT_WINDOW (09 R263). -/
def execCreditWindow (t l : Nat) (rows : List (Nat × Nat)) (s : State) : Host.Outcome State Fault Refusal :=
  .next ((s.start t).creditWindow l rows)

/-! ### Droop detectors -/

/-- Whether a detector works: present at a released leaf. -/
def State.ddPresent (s : State) (d : Nat) : Bool :=
  match s.ddLeaf d with
  | some l => s.v .islHeld (leafDom l) = 0
  | none => false

/-- SHAPE frame of a detector's trip (17 R522). -/
def State.shapeFrame (s : State) (kind src di shape ofs : Nat) : State :=
  s.frame 5 kind src s.time (di % 2 ^ 32 + 2 ^ 32 * shape) ofs

/-- A trip clamps the gates of a detector's mask (09 R271, R272); the clamp keeps its hold and its ramp step (R292). -/
def State.scoreClamp (s : State) (l d : Nat) (fresh : Bool) : State :=
  let gs := (s.gates l).filter fun p => bitOf (s.rd F.DD_MAP_GATEMASK d) p
  let hold := s.par Sec.droop 0x0009 l 0 2 256
  let s := s.each gs fun s p =>
    let s := s.when fresh fun s =>
      let s := (s.setV .scoreCode (s.rd F.LEAF_SCORE_CLAMP l) l p).setV .scRamp 0 l p
      (s.setV .scStep (s.par Sec.droop 0x000A l 0 2 8) l p).setV .scFor hold l p
    s.when (s.v .scRamp l p = 0) fun s => s.setV .scHold (s.time + s.vn .scFor l p : Nat) l p
  let s := (s.leafEff l).scoreShow l
  s.each (s.subGates l) fun s q => s.issueDrive l q

/-- A detector's number at its leaf (02 R65). -/
def State.ddLocal (s : State) (d : Nat) : Nat :=
  match s.inst? 8 d with
  | some x => x.physical % 32
  | none => 0xFF

/-- One sample of a detector (09 R266, R271, R273). -/
def State.ddSample (s : State) (d c : Nat) : State :=
  match s.ddLeaf d with
  | none => s
  | some l =>
    let s := (s.wr F.DD_THR_CODE c d).wr F.DD_STAT_CODE_MIN (min c (s.rd F.DD_STAT_CODE_MIN d)) d
    let s := s.when (Nat.beq c 0 || Nat.beq c 255) fun s => s.flag F.DD_STAT_SAT d
    let s := s.each (s.selsOf l 4 s.time) fun s k =>
      s.when (Nat.beq (s.ddLocal d) (s.selF l k F.LEAF_CNT_SEL_DET s.time)
          && Nat.ble c (s.selF l k F.LEAF_CNT_SEL_THRESH s.time)) fun s =>
        s.cntAdd l (0x20 + k) 16 1 s.time
    if s.rd F.DD_THR_THR_CODE d < c then (s.setV .ddRun 0 d).wr F.DD_STAT_TRIP 0 d
    else if !s.is F.DD_CTRL_EN d then s
    else
      let s := s.addV .ddRun 1 d
      if s.is F.DD_STAT_TRIP d then s.scoreClamp l d false
      else if s.par Sec.droop 0x0005 d 0 1 2 ≤ s.vn .ddRun d then
        let s := ((s.wr F.DD_STAT_TRIP 1 d).flag F.DD_STAT_TRIP_SEEN d).incSat F.DD_STAT_TRIPS 1 d
        let s := (s.incSat F.LEAF_SCORE_TRIPS 1 l).scoreClamp l d true
        let s := s.shapeFrame 3 d 0 0 0
        s.evFrom (leafDom l) 0x30 d
      else s

/-- SCORE_TRIP (09 R271): the samples of a detector since the last command, and whether a covered gate is in fill mode. -/
def execScoreTrip (t d : Nat) (fill : Bool) (codes : List Nat) (s : State) : Host.Outcome State Fault Refusal :=
  let s := s.start t
  .next (if s.ddPresent d then
      let l := (s.ddLeaf d).getD 0
      let s := (s.wr F.DD_THR_FILL (b2n fill) d).ddThr d
      let s := s.wr F.LEAF_SCORE_FILL (b2n ((s.leafDetectors l).any fun x => s.is F.DD_THR_FILL x)) l
      s.each codes fun s c => s.ddSample d (c % 256)
    else s)

/-- SCORE_HOLD_EXPIRY (09 R272): the clamp of a gate starts to ramp. -/
def execScoreHoldExpiry (t l p : Nat) (s : State) : Host.Outcome State Fault Refusal :=
  let s := s.start t
  .next (if s.v .scoreCode l p < 256 && s.v .scRamp l p = 0 && Nat.ble (s.vn .scHold l p) s.time then s.setV .scRamp 1 l p else s)

/-- A calibration request of a detector (09 R269): the owning leaf is absent, or takes it. -/
def State.ddCalReq (s : State) (d : Nat) : Status × State :=
  if (s.ddLeaf d).isNone then (.eAbsent, s) else (.ok, s.setV .ddReq 1 d)

/-- DD_CAL_REQ (09 R269, R299). -/
def execDdCalReq (t : Nat) (p : Port) (d : Nat) (s : State) : Host.Outcome State Fault Refusal :=
  .next ((s.start t).command p .DD_CTRL (fun s =>
    if s.pathUpTo (leafDom ((s.ddLeaf d).getD 0xFFF)) then s.ddCalReq d else (.eAbsent, s)) d)

/-- Whether the gates that a detector covers have reported no row and no BUSY in a span up to now (09 R269). -/
def State.ddIdle (s : State) (l d span : Nat) : Bool :=
  ((s.gates l).filter fun p => bitOf (s.rd F.DD_MAP_GATEMASK d) p).all fun p => Nat.ble (s.vn .gateActAt l p + span) (s.time + 1)

/-- DD_CALIBRATE (09 R269; 01 R51): an idle window ends, with the sum of the 256 samples. For CAL_IDLE the covered gates were idle, the
rail was NORMAL, and its reference and RISE offset did not change. -/
def execDdCalibrate (t d sum : Nat) (s : State) : Host.Outcome State Fault Refusal :=
  let s := s.start t
  let l := (s.ddLeaf d).getD 0
  let r := s.rd F.DD_MAP_RAIL d
  let span := 1000 * s.par Sec.droop 0x000C l 0 2 2
  .next (if s.ddPresent d && (s.pkg = Pkg.run || s.pkg = Pkg.hold) && s.ddIdle l d span && Nat.beq (s.rd F.RAIL_FUSE_STATUS_STATE r) 0 && Nat.ble (s.vn .fuseAt r + span) s.time
      && Nat.ble (s.vn .refAt r + span) s.time then
      let s := s.wr F.DD_CAL_CODE_CAL (roundDiv sum 256).toNat d
      let s := s.wr F.DD_CAL_V_CAL (s.railClamp r ((s.rd F.RAIL_VSEL_BASE_TGT r : Int) + s.v .riseOff r)) d
      let s := (s.wr F.DD_CAL_CAL_VALID 1 d).wr F.DD_CAL_CAL_TIME (s.islNow (leafDom l) / 1024) d
      ((s.setV .ddReq 0 d).setV .ddCalAt s.time d).ddThr d
    else s)

/-- DD_CAL_STALE (09 R270). -/
def execDdCalStale (t d : Nat) (s : State) : Host.Outcome State Fault Refusal :=
  let s := s.start t
  .next (if s.ddPresent d && Nat.ble (s.vn .ddCalAt d + 1000000 * s.par Sec.droop 0x000D idxAll 0 4 1000) s.time then
      (s.flag F.DD_CAL_CAL_STALE d).evFrom (leafDom ((s.ddLeaf d).getD 0)) 0x31 d
    else s)

/-! ### Releases and wave holds at a leaf -/

/-- The wait a sub-gate's port is given back: its release or answer, with the status (08 R245; 20 R581). -/
def State.gateRsp (s : State) (l q st : Nat) : State :=
  let s := s.emit (.srsp l q st)
  s.when (decide (st ≠ 0)) fun s => s.incSat F.LEAF_SYNC_STAT_NACKS 1 l

/-- The number of sub-gates in a wave hold (09 R298). -/
def State.heldShow (s : State) (l : Nat) : State :=
  s.wr F.LEAF_PROOF_HELD ((s.subGates l).filter fun q => decide (s.v .proofHold l q = 1)).length l

/-- Place a sub-gate in a wave hold (09 R288). -/
def State.waveHold (s : State) (l q tE st : Nat) : State :=
  let s := s.each (s.selsAt l 6 (sgPort q) s.time) fun s k => s.cntAdd l (0x20 + k) (s.sgCtx l q) 1 s.time
  let s := ((s.setV .proofHold 1 l q).setV .wvAt tE l q).setV .wvStat st l q
  (s.gateEff l q).heldShow l

/-- A wave hold ends: the release is presented, and the rest of the window is loaded in proportion to the load that R263 gives at its
start without PROOF (09 R288). -/
def State.waveEnd (s : State) (l q : Nat) : State :=
  let s := s.gateRsp l q (s.vn .wvStat l q)
  let s := (s.setV .proofHold 0 l q).gateEff l q
  ((s.addV .bkt (s.vn .wvLoad l q * (64 - s.winCycle l) / 64 : Nat) l q).issueDrive l q).heldShow l

/-- The wave holds of a leaf that have expired end (09 R291). -/
def State.wavesDue (s : State) (l : Nat) : State :=
  s.each ((s.subGates l).filter fun q => decide (s.v .proofHold l q = 1) && Nat.ble (s.vn .wvAt l q) s.time) fun s q => s.waveEnd l q

/-- WAVE_RELEASE (09 R288, R291): deferred while CRUST_STOP is asserted. -/
def execWaveRelease (t l q : Nat) (s : State) : Host.Outcome State Fault Refusal :=
  let s := s.start t
  .next (if s.v .proofHold l q = 1 && Nat.ble (s.vn .wvAt l q) s.time && !s.crustStop then s.waveEnd l q else s)

/-- The bits of a 5-bit number reversed (09 R287). -/
def bitrev5 (g : Nat) : Nat := (List.range 5).foldl (fun a k => a + (if bitOf g k then 2 ^ (4 - k) else 0)) 0

/-- The wave of a sub-gate (09 R287). -/
def waveOf (l q rot w : Nat) : Nat :=
  let u := 32 * bitrev5 (q / 2) + (l + 16 * (q % 2)) % 32
  (u + rot) % 1024 * w / 1024

end Sys2Proof.Machine
end

