-- ==== Sys2Proof/Machine/Shape.lean ====
section
/-!
DEFINITION. Release shaping at the hub (09 R274 to R286, R290 to R292): predicted steps, predicted completion times, RISE
requests, the PROOF decision.
-/
namespace Sys2Proof.Machine

/-- GEN of an object. -/
def State.objGen (s : State) (o : Nat) : Nat := s.rd F.SYNC_OBJ_A_GEN o
/-- COUNT of an object: arrivals, V, or the flag. -/
def State.objCount (s : State) (o : Nat) : Nat := s.rd F.SYNC_OBJ_B_COUNT o
/-- TARGET of an object. -/
def State.objTarget (s : State) (o : Nat) : Nat := s.rd F.SYNC_OBJ_A_TARGET o
/-- TYPE of an object (08 R228). -/
def State.objType (s : State) (o : Nat) : Nat := s.rd F.SYNC_OBJ_A_TYPE o
/-- Whether an object counts arrivals: BARRIER or SPAN. -/
def State.objBar (s : State) (o : Nat) : Bool := s.objType o = 1 || s.objType o = 4
/-- The watches of an object, oldest first (08 R239). -/
def State.objW (s : State) (o : Nat) : List Watch := s.sync.watches.filter fun w => Nat.beq w.obj o

/-- The slot that owns an object; none for a privileged one (08 R230). -/
def State.slotOf (s : State) (o : Nat) : Option Nat :=
  slots16.find? fun c => Nat.ble (s.rd F.SYNC_CTX_OBJ_BASE c) o
    && Nat.blt o (s.rd F.SYNC_CTX_OBJ_BASE c + s.rd F.SYNC_CTX_OBJ_COUNT c)

/-- The slot and local index that messages name an object by; 0 and 0 for a privileged one (08 R231; log entry 34). -/
def State.lobjOf (s : State) (o : Nat) : Nat × Nat :=
  match s.slotOf o with
  | some c => (c, o - s.rd F.SYNC_CTX_OBJ_BASE c)
  | none => (0, 0)

/-- A rail item of SHAPING (09 R294). -/
def State.shp (s : State) (key r len dflt : Nat) : Nat := s.par Sec.shaping key r 0 len dflt
/-- The stagger of the package, ps (09 R290). -/
def State.stagger (s : State) : Nat := s.shp 0x0015 idxAll 1 0 * s.shp 0x0016 idxAll 4 62500

/-! ### Predicted steps -/

/-- The phase that an object's release will enter (09 R275). -/
def State.nextPhase (s : State) (o c : Nat) : Option Nat :=
  if s.is F.SYNC_OBJ_A_PTAG_EN o && !s.is F.SYNC_OBJ_A_PTAG_EXIT o then some (s.rd F.SYNC_OBJ_A_PTAG_PHASE o)
  else if s.is F.STR_CTX_PRED_VALID c then some (s.rd F.STR_CTX_PRED c)
  else none

/-- The step per quarter on a rail, µW (09 R275); none where it needs a COLD_Q that the image does not give (log entry 35). -/
def State.stepQ (s : State) (o c r : Nat) : Option Nat :=
  let wait := s.shp 0x0009 r 4 0
  let cold := (s.item? Sec.shaping 0x000A r).map fun l => fieldAt l 0 4 - wait
  match s.nextPhase o c with
  | some p => if s.is F.STR_W5_VF c p then some (s.entryNq c p - wait) else cold
  | none => cold

/-- A power in µW as mA at a rail's reference (09 R276); 0 where the reference is 0. -/
def State.stepMa (s : State) (r : Nat) (p : ℚ) : Nat :=
  let code := s.rd F.RAIL_VSEL_REF r
  if code = 0 then 0 else (ratRound (2 * p / ((code : Nat) : ℚ))).toNat

/-- NSUB(c): the enabled sub-gates in the slot's footprint that the hub keeps (09 R276, 07 R210). -/
def State.nsub (s : State) (c : Nat) : Nat :=
  sumNat ((s.leaves.filter fun l => s.pathUpTo (leafDom l)).map fun l => s.vn .fpN l c)

/-- ΔI of a rail before completion, mA (09 R276). -/
def State.riseStep (s : State) (o c r : Nat) : Option Nat :=
  (s.stepQ o c r).map fun q =>
    let n := s.nsub c
    let tot := sumNat ((s.issueLeaves r).map fun l => s.foot l c) * q
    let frac : ℚ := if n ≤ s.objTarget o then 1 else ((s.objTarget o : Nat) : ℚ) / ((n : Nat) : ℚ)
    s.stepMa r (((tot : Nat) : ℚ) * frac)

/-- ΔI of a rail at completion, mA, over the sub-gate watches that fire (09 R276). -/
def State.proofStep (s : State) (o c r : Nat) (ws : List Watch) : Option Nat :=
  (s.stepQ o c r).map fun q =>
    let here := ws.filter fun w => !w.core && (s.issueLeaves r).contains w.leaf
    s.stepMa r ((sumNat (here.map fun w => s.sgQuarters w.leaf w.wid) * q : Nat) : ℚ)

/-- The hub records a predicted step (09 R276). -/
def State.predNote (s : State) (r di : Nat) : State :=
  (s.wrSat F.RAIL_SHAPE_PRED_DI di r).wr F.RAIL_SHAPE_PRED_STAMP s.time r

/-- The rails of the image, by logical number. -/
def State.allRails (s : State) : List Nat := s.rails.map (·.rail)

/-! ### RISE -/

/-- The live requests of a rail (09 R281). -/
def State.riseLive (s : State) (r : Nat) : List RiseReq := s.sync.rise.filter fun q => q.live && Nat.beq q.rail r

/-- The commanded offset as RAIL_RISE.STATE shows it: IDLE, RAISING, HELD, WITHDRAWING (09 R297). -/
def riseState (target off : Nat) : Nat :=
  if target = 0 && off = 0 then 0 else if off < target then 1 else if off = target then 2 else 3

/-- REQS, TARGET and STATE of a rail's RISE (09 R281): live requests keep the RISE_AMP they opened with (R292). DESIGN CHOICE: the highest
of them is the target (log entry 141). -/
def State.riseShow (s : State) (r : Nat) : State :=
  let n := (s.riseLive r).length
  let target := (s.riseLive r).foldl (fun b q => max b q.amp) 0
  let off := s.vn .riseOff r
  let still := Nat.beq off (s.rd F.RAIL_RISE_TARGET r)
  let s := s.when (still && !Nat.beq target off) fun s => s.setV .riseAt s.time r
  let s := (s.wr F.RAIL_RISE_TARGET target r).wr F.RAIL_RISE_REQS (min n 255) r
  s.wr F.RAIL_RISE_STATE (riseState target off) r

/-- Replace the list of requests. -/
def State.setRise (s : State) (l : List RiseReq) : State := { s with sync := { s.sync with rise := l } }

/-- End the live requests that a test selects (09 R280): RISE end frames, the rails' targets. A request that has ended stays
listed until its generation is over, so that no second one opens for it (R279). -/
def State.riseStop (s : State) (sel : RiseReq → Bool) : State :=
  let hit := s.sync.rise.filter fun q => q.live && sel q
  let s := s.setRise ((s.sync.rise.map fun q => if q.live && sel q then { q with live := false } else q).filter
    fun q => q.live || q.post.isNone)
  let s := s.each hit fun s q => s.shapeFrame 1 q.rail (s.rd F.RAIL_SHAPE_PRED_DI q.rail) 0 (s.rd F.RAIL_RISE_OFFSET q.rail)
  let s := s.each (hit.map (·.rail)).eraseDups fun s r => s.riseShow r
  s.each (hit.map (·.obj)).eraseDups fun s o =>
    s.when (!s.sync.rise.any fun q => q.live && q.post.isNone && Nat.beq q.obj o) fun s => s.setV .obThat (-1) o

/-- Open a RISE request for a rail, where the conditions of R279 hold (09). -/
def State.riseOpen (s : State) (o r : Nat) : State :=
  let g := s.objGen o
  let thr := s.shp 0x0006 r 4 0xFFFF_FFFF
  let may := s.is F.SHP_CTRL_RISE_EN && !s.is F.RAIL_RISE_EXH r && (s.pkg = Pkg.run || s.pkg = Pkg.hold)
    && !s.sync.rise.any fun q => Nat.beq q.obj o && Nat.beq q.gen g && Nat.beq q.rail r && q.post.isNone
  match s.slotOf o with
  | none => s
  | some c =>
    match s.riseStep o c r with
    | none => s
    | some di =>
      if !may then s
      else
        let s := s.predNote r di
        if di < thr || di = 0 then s
        else
          let q : RiseReq := { obj := o, gen := g, rail := r, opened := s.time, live := true, post := none, stop := none,
                               amp := s.shp 0x0001 r 2 40, life := s.shp 0x0004 r 2 20000, after := s.shp 0x0005 r 2 2000 }
          let s := (s.setV .riseSlew (s.shp 0x0002 r 1 10) r).setRise (s.sync.rise ++ [q])
          let s := (s.incSat F.SHP_STATUS_RISE_REQS).shedAbort r
          (s.shapeFrame 0 r di 0 (s.rd F.RAIL_RISE_OFFSET r)).riseShow r

/-- RISE_LEAD of a rail, ns. -/
def State.riseLead (s : State) (r : Nat) : Nat := s.shp 0x0003 r 2 3000

/-- The estimate t_P (09 R277), where it exists. -/
def State.tP (s : State) (o : Nat) : Option Int :=
  let n := s.objCount o
  let target := s.objTarget o
  let need := max 2 (ceilDiv (target * s.shp 0x0013 idxAll 1 128) 256)
  let a := s.vn .obFirst o
  let b := s.vn .obLastA o
  if n < need || a = 0 || n < 2 then none
  else some ((b : Int) - 1 + roundDiv (((target : Int) - n) * ((b : Int) - a)) (n - 1))

/-- The estimate t_S (09 R277, 07 R215), where it exists. -/
def State.tS (s : State) (o c : Nat) : Option Int :=
  if s.is F.STR_CTX_PRED_VALID c && s.is F.SYNC_OBJ_A_PTAG_EN o then
    let p := s.rd F.STR_CTX_PHASE c
    some ((s.rd F.STR_W4_ENTRY_TIME c p : Int) + 1000 * s.rd F.STR_W3_DUR c p)
  else none

/-- The number of armed objects (09 R278). -/
def State.armed (s : State) : Nat := (s.vars.filter fun p => decide (p.1.n = Var.obThat)).length

/-- Form t̂ of an object (09 R277, R278), and open its RISE requests whose lead has come (R279). An object of no slot has no
prediction and no footprint. -/
def State.formThat (s : State) (o : Nat) : State :=
  if !s.is F.SYNC_OBJ_A_SHAPE_EN o || s.is F.SYNC_OBJ_A_BROKEN o || !s.objBar o then s
  else
    let est := ((s.slotOf o).bind fun c => s.tS o c).toList ++ (s.tP o).toList
    match est with
    | [] => s.setV .obThat (-1) o
    | x :: l =>
      let span : Int := if s.objType o = 4 then s.shp 0x0014 idxAll 2 1000 + roundDiv s.stagger 1000 else 0
      let that := max 0 (l.foldl min x + span)
      if s.v .obThat o < 0 && Nat.ble 64 s.armed then s.flag F.SHP_CTRL_ARM_FULL
      else
        let s := s.setV .obThat that o
        s.each s.allRails fun s r => s.when (decide (that - s.riseLead r ≤ s.time)) fun s => s.riseOpen o r

/-- The SHAPE_EN objects of a slot: after a mark or a change of its prediction (09 R277). -/
def State.slotShape (s : State) (c : Nat) : State :=
  let l := s.regs.filter fun p => decide (p.1.n = Reg.SYNC_OBJ_A)
    && decide (s.slotOf p.1.i = some c) && s.is F.SYNC_OBJ_A_SHAPE_EN p.1.i
  s.each l fun s p => s.formThat p.1.i

/-- A cancellation report of an object (08 R247; 09 R278, R280, R292). -/
def State.shapeCancel (s : State) (o : Nat) : State :=
  let sel (q : RiseReq) : Bool := Nat.beq q.obj o && q.post.isNone
  let n := (s.sync.rise.filter fun q => q.live && sel q).length
  let s := (s.incSat F.SHP_STATUS_RISE_CANCEL n).riseStop sel
  (s.setRise (s.sync.rise.filter fun q => q.live || !sel q)).setV .obThat (-1) o

/-- The generation of an object completes: its requests will end by the completion row of R280 (09); it disarms (R278). -/
def State.riseComplete (s : State) (o g span : Nat) : State :=
  let mine (q : RiseReq) : Bool := Nat.beq q.obj o && Nat.beq q.gen g && q.post.isNone
  let l := (s.sync.rise.filter fun q => q.live || !mine q).map fun q =>
    if mine q then { q with post := some (span + q.after) } else q
  (s.setRise l).setV .obThat (-1) o

/-- The RELEASE of an object's completed generation has been enqueued (09 R280). -/
def State.riseSent (s : State) (o : Nat) : State :=
  s.setRise (s.sync.rise.map fun q =>
    match q.post with
    | some d => if q.obj = o && q.stop.isNone then { q with stop := some (s.time + d) } else q
    | none => q)

/-- CRUST trip of a stopping class: every request ends at once (09 R280, 01 R37). -/
def State.riseStopAll (s : State) : State := s.riseStop fun _ => true

/-! ### PROOF -/

/-- The decision at completion: SHAPE, and the added span (W − 1) × GAP in ns (09 R284 to R286). -/
def State.proofShape (s : State) (o : Nat) (ws : List Watch) : Nat × Nat × State :=
  if !s.is F.SYNC_OBJ_A_SHAPE_EN o then (0, 0, s)
  else
    match s.slotOf o with
    | none => (0, 0, s)
    | some c =>
      let di := s.allRails.filterMap fun r => (s.proofStep o c r ws).map fun x => (r, x)
      let s := s.each di fun s x => s.predNote x.1 x.2
      let thr (r : Nat) : Nat := s.shp 0x0008 r 4 0xFFFF_FFFF
      let big := di.filter fun x => Nat.blt (thr x.1) x.2
      let waves := s.shp 0x0010 idxAll 1 4
      if !s.is F.SHP_CTRL_PROOF_EN || waves < 2 || s.shp 0x0012 idxAll 2 2000 = 0 || big.isEmpty then (0, 0, s)
      else
        let w := min waves ((big.map fun x => ceilDiv x.2 (thr x.1)).foldl max 2)
        let gap := s.shp 0x0011 idxAll 2 500
        let gapc := gap / 125 - 1
        let rot := s.vn .obRot o
        let shape := pack [(26, 1, 1), (22, 4, w - 1), (18, 4, gapc), (8, 10, rot)]
        let top := di.foldl (fun a x => if a.2 < x.2 then x else a) (0, 0)
        let s := (s.setV .obRot ((rot + 1024 / w) % 1024 : Nat) o).incSat F.SHP_STATUS_SHAPED
        let s := (s.wr F.SHP_LAST_OBJ o).wr F.SHP_LAST_SPAN (b2n (s.objType o = 4))
        let s := ((s.wr F.SHP_LAST_WM1 (w - 1)).wr F.SHP_LAST_GAPC gapc).wr F.SHP_LAST_ROT rot
        let s := (s.wrSat F.SHP_LAST_I_DI_MAX top.2).wr F.SHP_LAST_I_RAIL top.1
        let s := s.incWrap F.CNT_GLOBAL_VAL 1 0xA1
        let s := s.shapeFrame 2 o top.2 shape (s.rd F.RAIL_RISE_OFFSET top.1)
        (shape, (w - 1) * gap, s)

/-! ### Commands -/

/-- RISE_OPEN (09 R279): t̂ − RISE_LEAD of a rail has come. -/
def execRiseOpen (t obj rail : Nat) (s : State) : Host.Outcome State Fault Refusal :=
  let s := s.start t
  .next (if 0 ≤ s.v .obThat obj && s.v .obThat obj - s.riseLead rail ≤ s.time && s.allRails.contains rail then s.riseOpen obj rail
    else s)

/-- RISE_END (09 R280). -/
def execRiseEnd (t : Nat) (s : State) : Host.Outcome State Fault Refusal :=
  let s := s.start t
  .next (s.riseStop fun q => match q.stop with | some x => Nat.ble x s.time | none => false)

/-- RISE_TIMEOUT (09 R280). -/
def execRiseTimeout (t obj rail : Nat) (s : State) : Host.Outcome State Fault Refusal :=
  let s := s.start t
  let sel (q : RiseReq) : Bool := Nat.beq q.obj obj && Nat.beq q.rail rail && q.post.isNone
    && Nat.ble (q.opened + q.life) s.time
  let n := (s.sync.rise.filter fun q => q.live && sel q).length
  .next (if n = 0 then s
    else (((s.incSat F.SHP_STATUS_RISE_TIMEOUT n).event 0x32 rail).riseStop sel))

/-- RISE_SLEW_STEP (09 R281): one 0.5 mV step toward the target, not faster than the RISE_SLEW that the last
request opened with (R292). -/
def execRiseSlewStep (t r : Nat) (s : State) : Host.Outcome State Fault Refusal :=
  let s := s.start t
  let off := s.v .riseOff r
  let target : Int := s.rd F.RAIL_RISE_TARGET r
  .next (if off = target || (s.time - s.vn .riseAt r) * s.vn .riseSlew r < 500 then s
    else
      let s := (s.setV .riseOff (if off < target then off + 1 else off - 1) r).setV .riseAt s.time r
      (s.refForm r).riseShow r)

/-- RISE_EXHAUSTED (09 R282). -/
def execRiseExhausted (t r : Nat) (s : State) : Host.Outcome State Fault Refusal :=
  let s := s.start t
  .next (if !s.is F.RAIL_RISE_EXH r && Nat.ble (1000 * s.shp 0x0007 r 4 50000) (s.rd F.RAIL_RISE_EXPO_EXPO r) then
      ((s.wr F.RAIL_RISE_EXH 1 r).flag F.RAIL_RISE_EXH_SEEN r).event 0x33 r
    else s)

end Sys2Proof.Machine
end

