-- ==== Sys2Proof/Machine/Sync.lean ====
section
/-!
DEFINITION. The synchronisation unit of the hub (08 R228 to R252, R255, R256) with spanning objects (15 R455 to R459): objects,
watches, claims, releases, context switch.
-/
namespace Sys2Proof.Machine

/-! ### Messages -/

/-- The payload of RELEASE (08 R244). -/
def relPayload (ctx lobj gen st shape : Nat) : Nat :=
  pack [(60, 4, 8), (56, 4, ctx), (45, 11, lobj), (35, 10, gen), (27, 8, st), (0, 27, shape)]

/-- The payload of DIRECT (08 R244); wid is 2 × GATE + SUB, or the core port. -/
def dirPayload (ctx lobj gen st leaf : Nat) (core : Bool) (wid : Nat) (wake : Bool) : Nat :=
  pack [(60, 4, 9), (56, 4, ctx), (45, 11, lobj), (35, 10, gen), (27, 8, st), (18, 9, leaf), (17, 1, b2n core), (11, 6, wid),
    (10, 1, b2n wake)]

/-- The payload of CTX_CLEAR (08 R244). -/
def clrPayload (ctx epoch : Nat) : Nat := pack [(60, 4, 10), (56, 4, ctx), (52, 4, epoch)]

/-- The payload of an upward SYNC message (08 R243). -/
def gatePayload (sop ctx epoch lobj leaf q : Nat) (mode : Bool) (arg : Nat) : Nat :=
  pack [(60, 4, sop), (56, 4, ctx), (52, 4, epoch), (41, 11, lobj), (32, 9, leaf), (27, 5, q / 2), (26, 1, q % 2),
    (25, 1, b2n mode), (8, 16, arg)]

/-- Add to what the present operation sends. -/
def State.syncPut (s : State) (x : SyncOut) : State := { s with sync := { s.sync with cur := s.sync.cur ++ [x] } }

/-- Replace the watches. -/
def State.setWatches (s : State) (l : List Watch) : State := { s with sync := { s.sync with watches := l } }

/-! ### Watches and claims -/

/-- SYNC frame (17 R522). -/
def State.syncFrame (s : State) (op o n st : Nat) : State :=
  s.frame 4 op o s.time
    (s.objGen o + 2 ^ 16 * s.objCount o + 2 ^ 32 * s.objTarget o + 2 ^ 48 * (n % 2 ^ 16)) (n / 2 ^ 16 + 2 ^ 16 * st)

/-- A DIRECT that ends a watch (08 R244). -/
def State.syncDir (s : State) (w : Watch) (gen st : Nat) : State :=
  let (c, i) := s.lobjOf w.obj
  s.syncPut (.dir c i (gen % 1024) st w.leaf w.core w.wid true)

/-- Fire the watches of an object that a test selects (08 R240): one RELEASE for the wake-all sub-gates, a DIRECT for each
other watch. A watch that fires is freed. -/
def State.fire (s : State) (o gen st shape : Nat) (sel : Watch → Bool) : State :=
  let ws := (s.objW o).filter sel
  let (c, i) := s.lobjOf o
  let s := s.setWatches (s.sync.watches.filter fun w => !(Nat.beq w.obj o && sel w))
  let s := s.when (ws.any fun w => !w.core && !w.one) fun s => s.syncPut (.rel c i (gen % 1024) st shape)
  s.each (ws.filter fun w => w.core || w.one) fun s w => s.syncDir w gen st

/-- A wake-one claim (08 R240, R241): V falls by 1, or the flag clears; GEN advances; a DIRECT leaves. -/
def State.claim (s : State) (w : Watch) : State :=
  let o := w.obj
  let g := s.objGen o
  let s : State := { s with sync := { s.sync with watches := s.sync.watches.filter (fun x => decide (x ≠ w)),
                                                  claims := s.sync.claims ++ [(w, g)] } }
  let s := s.syncDir w g 0
  let s := if s.objType o = 3 then s.wr F.SYNC_OBJ_B_COUNT 0 o else s.wr F.SYNC_OBJ_B_COUNT (s.objCount o - 1) o
  s.incWrap F.SYNC_OBJ_A_GEN 1 o

/-- Serve a semaphore (08 R240): claims while V > 0, oldest first; then, if V > 0, every wake-all watch. -/
def State.semServe (s : State) (o fuel : Nat) : State :=
  match fuel with
  | 0 => s
  | k + 1 =>
    if s.objCount o = 0 then s
    else match (s.objW o).find? (·.one) with
      | some w => (s.claim w).semServe o k
      | none => s.fire o (s.objGen o) 0 0 fun _ => true

/-- Serve a semaphore after an operation. -/
def State.semRun (s : State) (o : Nat) : State := s.semServe o ((s.objW o).length + 1)

/-- The oldest wake-one waiter of a set flag claims it (08 R240). -/
def State.flagServe (s : State) (o : Nat) : State :=
  if s.objCount o = 1 then
    match (s.objW o).find? (·.one) with
    | some w => s.claim w
    | none => s
  else s

/-- SET of a flag (08 R229, R240): while clear, wake-all watches fire, GEN advances, then one claim. -/
def State.flagSet (s : State) (o : Nat) : State :=
  if s.objCount o = 1 then s
  else
    let s := s.fire o (s.objGen o) 0 0 fun w => !w.one
    ((s.wr F.SYNC_OBJ_B_COUNT 1 o).incWrap F.SYNC_OBJ_A_GEN 1 o).flagServe o

/-- A restored claim (08 R241): V + 1, or the flag set without wake-all watches; then the next wake-one watch. -/
def State.claimBack (s : State) (w : Watch) : State :=
  let o := w.obj
  if s.objType o = 2 then (s.incSat F.SYNC_OBJ_B_COUNT 1 o).semRun o
  else if s.objType o = 3 then (s.wr F.SYNC_OBJ_B_COUNT 1 o).flagServe o
  else s

/-- A channel to a domain is absent (08 R249): the watches beneath it are freed, its claims in flight restored. -/
def State.syncAbsent (s : State) (d : Nat) : State :=
  let gone (w : Watch) : Bool := s.beneath (leafDom w.leaf) d
  let n := (s.sync.watches.filter gone).length
  let back := s.sync.claims.filter fun x => gone x.1
  let s := s.setWatches (s.sync.watches.filter fun w => !gone w)
  let s : State := { s with sync := { s.sync with claims := s.sync.claims.filter fun x => !gone x.1 } }
  let s := s.incSat F.SYNC_STATUS_ABSENT (n + back.length)
  s.each back fun s x => s.claimBack x.1

/-! ### Spanning objects -/

/-- The job tag of an object's slot (15 R456); a privileged object has none: a free value (log entry 36). -/
def State.jobOf (s : State) (o : Nat) : Nat × State :=
  match s.slotOf o with
  | some c => (s.rd F.DXL_JOB_JOB c, s)
  | none => let (x, s) := s.freshFree; (x % 65536, s)

/-- Send BREAK for an object on every tree port that is UP but one (15 R459). -/
def State.breakSend (s : State) (o reason : Nat) (skip : Option Nat) : State :=
  let (job, s) := s.jobOf o
  s.each (s.treePorts.filter fun n => s.portUp n && decide (skip ≠ some n)) fun s n =>
    s.syncPut (.frm n Ft.brk (breakBody o (s.objGen o) job false reason))

/-- Break an object (08 R235, R240): BROKEN; every watch fires with E_BROKEN; shaping sees a cancellation (R247). -/
def State.objBreak (s : State) (o : Nat) : State :=
  let s := s.syncFrame 0x0A o (s.objW o).length Status.eBroken.code
  let s := (s.wr F.SYNC_OBJ_A_BROKEN 1 o).setV .spAt (-1) o
  let g (w : Watch) : Nat := if s.objBar o then w.gen else s.objGen o
  let gens := ((s.objW o).map g).eraseDups
  let s := s.each gens fun s x => s.fire o x Status.eBroken.code 0 fun w => Nat.beq (g w) x
  s.when (s.is F.SYNC_OBJ_A_SHAPE_EN o) fun s => s.shapeCancel o

/-- Break a spanning object and tell the peers (15 R459). -/
def State.spanBreak (s : State) (o reason : Nat) (skip : Option Nat) : State := (s.objBreak o).breakSend o reason skip

/-- The SPAN objects that are not FREE. -/
def State.spans (s : State) : List Nat :=
  (s.regs.filter fun p => decide (p.1.n = Reg.SYNC_OBJ_A) && decide (s.objType p.1.i = 4)).map (·.1.i)

/-- Break every SPAN object whose slot's tag passes, and send one BREAK with ALL 1 per tag (15 R459). OBJ and GEN of such a
frame are free values. -/
def State.spanBreakAll (s : State) (tag : Nat → Bool) (reason : Nat) (skip : Option Nat) : State :=
  let os := s.spans.filterMap fun o => (s.slotOf o).map fun c => (o, s.rd F.DXL_JOB_JOB c)
  let os := os.filter fun x => tag x.2
  let s := s.each os fun s x => s.when (!s.is F.SYNC_OBJ_A_BROKEN x.1) fun s => s.objBreak x.1
  s.each (os.map (·.2)).eraseDups fun s job =>
    let (x, s) := s.freshFree
    s.each (s.treePorts.filter fun n => s.portUp n && decide (skip ≠ some n)) fun s n =>
      s.syncPut (.frm n Ft.brk (breakBody (x % 16384) (x / 16384 % 65536) job true reason))

/-! ### Completion -/

/-- One generation of a BARRIER or SPAN completes (08 R238), under the operation code that its trace frame names. -/
def State.complete1 (s : State) (o op : Nat) : State :=
  let g := s.objGen o
  let ws := (s.objW o).filter fun w => Nat.beq w.gen g
  let s := s.syncFrame op o ws.length 0
  let (shape, span, s) := s.proofShape o ws
  let s := s.fire o g 0 shape fun w => Nat.beq w.gen g
  let s := (s.riseComplete o g span).syncPut (.fin o)
  let mark := if s.is F.SYNC_OBJ_A_PTAG_EN o then s.slotOf o else none
  let s := match mark with
    | some c => s.tagMark c (if s.is F.SYNC_OBJ_A_PTAG_EXIT o then none else some (s.rd F.SYNC_OBJ_A_PTAG_PHASE o)) s.time
    | none => s
  let s := (s.wr F.SYNC_OBJ_A_GEN (g + 1) o).wr F.SYNC_OBJ_B_COUNT (s.rd F.SYNC_OBJ_B_NEXT o) o
  let s := (s.wr F.SYNC_OBJ_B_NEXT 0 o).setV .spArr (s.v .spNxt o) o
  let s := ((s.setV .spNxt 0 o).setV .obFirst (s.v .obNFirst o) o).setV .obLastA (s.v .obNLast o) o
  let s := (s.setV .obNFirst 0 o).setV .obNLast 0 o
  match mark with
  | some c => s.slotShape c
  | none => s

/-- A RELEASE that R255 accepts: UP clears; the completion follows after the stagger (15 R458, 09 R290). True where there is
none. -/
def State.spanAccept (s : State) (o : Nat) : Bool × State :=
  let s := s.wr F.SYNC_OBJ_A_UP 0 o
  if s.stagger = 0 then (true, s) else (false, s.setV .spAt (1000 * s.time + s.stagger : Nat) o)

/-- The gathering of a spanning object (15 R457): ARRIVE to the parent, or at the root RELEASE to the children and here. True
where the generation completes at once. -/
def State.spanGather (s : State) (o : Nat) : Bool × State :=
  let all := s.treeChildren.all fun n => bitOf (s.vn .spArr o) n
  if s.is F.SYNC_OBJ_A_UP o && all then
    let (job, s) := s.jobOf o
    match s.treeParent with
    | some n => (false, s.syncPut (.frm n Ft.arrive (spanBody o (s.objGen o) job)))
    | none =>
      let s := s.each s.treeChildren fun s n => s.syncPut (.frm n Ft.release (spanBody o (s.objGen o) job))
      s.spanAccept o
  else (false, s)

/-- COUNT has reached TARGET (08 R238, R255): a BARRIER completes, a SPAN object goes UP; a cascade completes one generation
more. -/
def State.reached (s : State) (o op : Nat) : State :=
  let full (s : State) : Bool := Nat.beq (s.objCount o) (s.objTarget o)
  if s.objType o = 4 then
    let (done, s) := (s.wr F.SYNC_OBJ_A_UP 1 o).spanGather o
    if done then
      let s := s.complete1 o op
      if full s then
        let (again, s) := (s.wr F.SYNC_OBJ_A_UP 1 o).spanGather o
        if again then s.complete1 o op else s
      else s
    else s
  else
    let s := s.complete1 o op
    if full s then s.complete1 o op else s

/-- The local completion of a spanning object (08 R255). -/
def State.spanComplete (s : State) (o : Nat) : State :=
  let s := (s.setV .spAt (-1) o).complete1 o 0x03
  if s.objCount o = s.objTarget o then s.reached o 0x03 else s

/-! ### A port leaves UP -/

/-- Show a port's state in DXL_STATUS (15 R474). -/
def State.portShow (s : State) (n st : Nat) : State :=
  let s := s.wr F.DXL_PORT_A_STATE st n
  let m (x : Nat) : Nat := maskOf ((List.range 8).filter fun k => Nat.beq (s.portSt k) x)
  (s.wr F.DXL_STATUS_UP (m Lk.up)).wr F.DXL_STATUS_PFAIL (m Lk.pfail)

/-- A port leaves UP, for DOWN or PFAIL (15 R459, R466): its spanning objects break, its lease ends, system time holds. -/
def State.portLeaves (s : State) (n reason : Nat) (failed : Bool) : State :=
  let s := s.when (s.treePorts.contains n) fun s => s.spanBreakAll (fun _ => true) reason (some n)
  let s := s.leasePortDown n failed
  s.when (decide (s.treeParent = some n)) fun s =>
    let o := s.sysOfs
    (((s.wrI F.DXL_TIME_SYS_OFS o).setV .tsRem 0).setV .tsFirst 1).setV .tsT1 0

/-- A port goes to DOWN (15 R452): DXL_DOWN from UP and PFAIL; AUTH_BACKOFF starts. -/
def State.portDown (s : State) (n : Nat) : State :=
  let st := s.portSt n
  if st = Lk.down then s
  else
    let s := ((s.portShow n Lk.down).incSat F.DXL_PORT_B_DOWNS 1 n).setV .txStop 0 n
    let s := s.setV .authAt (s.time + 1000000 * s.lnk 0x0033 2 100 : Nat) n
    let s := s.when (st = Lk.up) fun s => s.portLeaves n Br.lost false
    s.when (st = Lk.up || st = Lk.pfail) fun s => s.event 0x61 n

/-! ### Sending -/

/-- Send a SYNC message on every child channel of the hub; one that the guard drops is an absence (08 R244, R249). -/
def State.toHubChildren (s : State) (payload : Nat) : State :=
  s.each (s.children hubDom) fun s d =>
    let (ok, s) := s.sendDown d Mt.syncMsg payload
    if ok then s else s.syncAbsent d

/-- Send one item (08 R244): a RELEASE to every child channel, a DIRECT toward its leaf; one that the guard drops is an absence
(R249). -/
def State.syncSend (s : State) (x : SyncOut) : State :=
  match x with
  | .rel c i g st sh =>
    s.toHubChildren (relPayload c i g st sh)
  | .dir c i g st l core wid wake =>
    match s.hop hubDom (leafDom l) with
    | none => s
    | some d =>
      let (ok, s) := s.sendDown d Mt.syncMsg (dirPayload c i g st l core wid wake)
      if ok then s else s.syncAbsent d
  | .ans p addr st => s.answerD p addr true st 0
  | .fin o => s.riseSent o
  | .frm n typ body =>
    let s := s.frameOut n typ body
    if s.v .txStop n = 1 then s.portDown n else s

/-- Send everything that the operation has gathered; an absence on the way may add claims. -/
def State.syncDrain (s : State) (fuel : Nat) : State :=
  match fuel with
  | 0 => s
  | k + 1 =>
    match s.sync.cur with
    | [] => s
    | x :: r => (State.syncSend { s with sync := { s.sync with cur := r } } x).syncDrain k

/-- Send, or hold the batch for the mirror's confirmation (08 R246). -/
def State.syncFlush (s : State) : State :=
  if s.sync.cur.isEmpty then s
  else if s.mirrorOn then
    { s with sync := { s.sync with held := s.sync.held ++ [(s.time, s.sync.cur)], cur := [] } }
  else s.syncDrain 262144

/-- Send the oldest held batch (08 R246). -/
def State.heldSend (s : State) : State :=
  match s.sync.held with
  | [] => s
  | (_, l) :: r => State.syncDrain { s with sync := { s.sync with held := r, cur := l } } 262144

/-- Send every held batch, and give every response that waits: no mirror waits any more (16 R480). -/
def State.heldAll (s : State) : State := (s.each s.sync.held fun s _ => s.heldSend).each s.ansHeld fun s _ => s.ansGive

/-! ### Operations -/

/-- A waiter: a core port, or a sub-gate, of a leaf; and the slot whose watch range serves it, none for the privileged pool
(08 R239). -/
structure Waiter where
  core : Bool
  leaf : Nat
  wid : Nat
  pool : Option Nat

/-- The lowest index from a base that the watches do not use and that a test allows (08 R239; log entry 37). -/
def freeIndex (used : List Nat) (ok : Nat → Bool) (base fuel : Nat) : Option Nat :=
  match fuel with
  | 0 => none
  | k + 1 => if ok base && !used.contains base then some base else freeIndex used ok (base + 1) k

/-- Whether a watch index lies in a slot's range (08 R230). -/
def State.watchOwned (s : State) (i : Nat) : Bool :=
  slots16.any fun c => Nat.ble (s.rd F.SYNC_CTX_WATCH_BASE c) i
    && Nat.blt i (s.rd F.SYNC_CTX_WATCH_BASE c + s.rd F.SYNC_CTXW_WATCH_COUNT c)

/-- A free watch for a waiter. -/
def State.watchFree (s : State) (pool : Option Nat) : Option Nat :=
  let used := s.sync.watches.map (·.idx)
  match pool with
  | some c => freeIndex used (fun _ => true) (s.rd F.SYNC_CTX_WATCH_BASE c) (s.rd F.SYNC_CTXW_WATCH_COUNT c)
  | none => freeIndex used (fun i => !s.watchOwned i) 0 65536

/-- Register a watch (08 R239); none where no watch is free, with WATCH_FULL. -/
def State.watchAdd (s : State) (o gen : Nat) (one : Bool) (w : Waiter) : Bool × State :=
  match s.watchFree w.pool with
  | none => (false, (s.flag F.SYNC_STATUS_WATCH_FULL).event 0x29 0)
  | some i =>
    let x : Watch := { idx := i, obj := o, core := w.core, one := one, ctx := (s.slotOf o).getD 0, gen := gen, leaf := w.leaf,
                       wid := w.wid, time := s.time }
    (true, s.setWatches (s.sync.watches ++ [x]))

/-- The watch of an optional waiter of an arrival. -/
def State.watchOpt (s : State) (o gen : Nat) (w : Option Waiter) : Bool × State :=
  match w with
  | some w => s.watchAdd o gen false w
  | none => (true, s)

/-- An arrival (08 R237), with the waiter of an arrival with WAIT. -/
def State.arrive (s : State) (o agen : Nat) (w : Option Waiter) : Status × State :=
  let d := (agen + 65536 - s.objGen o) % 65536
  let now : Int := s.time + 1
  if s.is F.SYNC_OBJ_A_BROKEN o then (.eBroken, s)
  else if d = 0 then
    if s.objCount o = s.objTarget o then (.eOverrun, s)
    else
      let (ok, s) := s.watchOpt o agen w
      if !ok then (.eRange, s)
      else
        let s := s.wr F.SYNC_OBJ_B_COUNT (s.objCount o + 1) o
        let s := (s.when (s.v .obFirst o = 0) fun s => s.setV .obFirst now o).setV .obLastA now o
        let full := decide (s.objCount o = s.objTarget o)
        if full && s.objType o = 1 then (.ok, s.reached o 0x03)
        else
          let s := s.formThat o
          (.ok, if full then s.reached o 0x03 else s)
  else if d = 1 then
    if s.rd F.SYNC_OBJ_B_NEXT o = s.objTarget o then (.eOverrun, s)
    else
      let (ok, s) := s.watchOpt o agen w
      if !ok then (.eRange, s)
      else
        let s := s.incSat F.SYNC_OBJ_B_NEXT 1 o
        let s := (s.when (s.v .obNFirst o = 0) fun s => s.setV .obNFirst now o).setV .obNLast now o
        (.ok, s.formThat o)
  else if d ≤ 32767 then (.eOverrun, s)
  else (.eRange, s)

/-- A wait (08 R239, R240). -/
def State.waitOp (s : State) (o gen : Nat) (one : Bool) (w : Waiter) : Status × State :=
  if s.is F.SYNC_OBJ_A_BROKEN o then (.eBroken, s)
  else if s.objBar o then
    let d := (gen + 65536 - s.objGen o) % 65536
    if 32768 ≤ d then
      let (c, i) := s.lobjOf o
      (.ok, s.syncPut (if w.core then .dir c i (gen % 1024) 0 w.leaf true w.wid true else .rel c i (gen % 1024) 0 0))
    else if 2 ≤ d then (.eOverrun, s)
    else
      let (ok, s) := s.watchAdd o gen false w
      (if ok then .ok else .eRange, s)
  else
    let new := s.watchFree w.pool
    let (ok, s) := s.watchAdd o 0 one w
    if !ok then (.eRange, s)
    else if s.objType o = 2 then (.ok, s.semRun o)
    else if s.objCount o = 1 then
      (.ok, if one then s.flagServe o else s.fire o (s.objGen o) 0 0 fun w => decide (new = some w.idx))
    else (.ok, s)

/-- The words of an object at 0 (08 R250). -/
def State.objZero (s : State) (o : Nat) : State :=
  let s := ((s.setReg .SYNC_OBJ_A 0 o).setReg .SYNC_OBJ_B 0 o).setV .spAt (-1) o
  let s := s.each [Var.spArr, .spNxt, .obRot, .obFirst, .obLastA, .obNFirst, .obNLast] fun s x => s.setV x 0 o
  s.setV .obThat (-1) o

/-- INIT (08 R235). -/
def State.objInit (s : State) (o a0 a1 a2 : Nat) : State :=
  let typ := a2 % 8
  let bar := typ = 1 || typ = 4
  let s := s.objZero o
  let s := (s.wr F.SYNC_OBJ_A_TYPE typ o).wr F.SYNC_OBJ_A_SHAPE_EN (a2 / 8) o
  let s := match s.slotOf o with
    | some c => s.wr F.SYNC_OBJ_A_CTX c o
    | none => s.wr F.SYNC_OBJ_A_PRIV 1 o
  let s := (s.wr F.SYNC_OBJ_A_GEN a1 o).wr F.SYNC_OBJ_A_TARGET (if bar then a0 else 0) o
  s.wr F.SYNC_OBJ_B_COUNT (if bar then 0 else a0) o

/-- RESET (08 R235). -/
def State.objReset (s : State) (o gen : Nat) : State :=
  let s := (s.wr F.SYNC_OBJ_A_BROKEN 0 o).wr F.SYNC_OBJ_A_UP 0 o
  let s := ((s.wr F.SYNC_OBJ_B_COUNT 0 o).wr F.SYNC_OBJ_B_NEXT 0 o).setV .spAt (-1) o
  let s := s.each [Var.spArr, .spNxt, .obFirst, .obLastA, .obNFirst, .obNLast] fun s x => s.setV x 0 o
  s.wr F.SYNC_OBJ_A_GEN gen o

/-- A local BREAK, RESET, FREE or CTX_SWITCH reaches the shaping logic and the peers (08 R247, R255). -/
def State.objLeave (s : State) (o : Nat) : State :=
  let s := s.when (s.is F.SYNC_OBJ_A_SHAPE_EN o) fun s => s.shapeCancel o
  s.when (s.objType o = 4) fun s => s.breakSend o Br.own none

/-- SET_COUNT (08 R252). -/
def State.setCount (s : State) (o a0 a1 : Nat) : State :=
  if s.objType o = 1 then
    let s := (s.wr F.SYNC_OBJ_B_COUNT a0 o).wr F.SYNC_OBJ_B_NEXT a1 o
    if a0 = s.objTarget o then s.reached o 0x11 else s
  else (s.wr F.SYNC_OBJ_B_COUNT a0 o).semRun o

/-- Whether an operation's object and arguments are within its rule (08 R235, R236): E_RANGE otherwise. -/
def State.opFits (s : State) (op o a0 a1 a2 : Nat) : Bool :=
  let typ := s.objType o
  let noW := (s.objW o).isEmpty
  match op with
  | 0x01 =>
    let t := a2 % 8
    (typ = 0 || (noW && s.objCount o = 0 && s.rd F.SYNC_OBJ_B_NEXT o = 0 && !s.is F.SYNC_OBJ_A_UP o))
      && Nat.ble 1 t && Nat.ble t 4 && Nat.blt a2 16 && (if t = 1 || t = 4 then Nat.ble 1 a0 else t = 2 || Nat.ble a0 1)
  | 0x02 => s.objBar o && Nat.blt a0 4
  | 0x03 => s.objBar o && (a2 = 0 || (a2 = 0x10 && Nat.blt a0 4096))
  | 0x04 => typ = 2 && Nat.ble 1 a0 && Nat.ble (s.objCount o + a0) 65535
  | 0x05 => typ = 3
  | 0x06 => typ = 3
  | 0x07 => typ ≠ 0 && (a2 = 0 || (a2 = 0x20 && !s.objBar o)) && Nat.blt a0 4096
  | 0x08 => typ ≠ 0 && Nat.blt a0 4096
      && (s.objW o).any fun w => w.core && Nat.beq w.leaf (a0 % 512) && Nat.beq w.wid (a0 / 512)
  | 0x09 => noW
  | 0x0A => typ ≠ 0
  | 0x0B => typ ≠ 0 && noW
  | 0x10 => typ = 1
  | 0x11 => (typ = 1 && Nat.ble a0 (s.objTarget o) && Nat.ble a1 (s.objTarget o)) || typ = 2
  | _ => false

/-- Whether a core waiter is there (08 R236): its leaf present, its port mapped. -/
def State.corePresent (s : State) (a0 : Nat) : Bool :=
  s.pathUpTo (leafDom (a0 % 512)) && (s.cores (a0 % 512)).contains (a0 / 512 % 8)

/-- Whether an operation names a core waiter. -/
def opNamesCore (op a2 : Nat) : Bool := op = 7 || op = 8 || (op = 3 && bitOf a2 4)

/-- The status that its generation gives an arrival or a wait (08 R237, R239). -/
def State.genStatus (s : State) (op o a1 : Nat) : Status :=
  let d := (a1 + 65536 - s.objGen o) % 65536
  if !s.objBar o then .ok
  else if op = 3 then
    if 32768 ≤ d then .eRange
    else if 2 ≤ d || (d = 0 && s.objCount o = s.objTarget o) || (d = 1 && s.rd F.SYNC_OBJ_B_NEXT o = s.objTarget o) then .eOverrun
    else .ok
  else if op = 7 && 2 ≤ d && Nat.blt d 32768 then .eOverrun
  else .ok

/-- Whether an operation that its arguments and generation allow finds no free watch (08 R239). -/
def State.opShort (s : State) (op o a0 a1 a2 : Nat) (w : Option Waiter) : Bool :=
  match w with
  | none => false
  | some w => s.opFits op o a0 a1 a2 && s.genStatus op o a1 = .ok && (s.watchFree w.pool).isNone
      && !(op = 7 && s.objBar o && Nat.ble 32768 ((a1 + 65536 - s.objGen o) % 65536))

/-- The status that R236 gives an operation before its effect, in the order of R16 (00; 08 R236, R237, R239); bad where reserved
bits of the operation word are set, w the waiter of an arrival or a wait. -/
def State.opStatus (s : State) (bad : Bool) (op o a0 a1 a2 : Nat) (core : Bool) (w : Option Waiter) : Status :=
  let sw := match s.slotOf o with | some c => s.is F.SYNC_CTX_SWITCHING c | none => false
  if core && opNamesCore op a2 && !s.corePresent a0 then .eAbsent
  else if bad || !s.opFits op o a0 a1 a2 || s.genStatus op o a1 = .eRange || s.opShort op o a0 a1 a2 w then .eRange
  else if sw || s.genStatus op o a1 = .eOverrun then .eOverrun
  else if s.is F.SYNC_OBJ_A_BROKEN o && !(op = 0x09 || op = 0x0A || op = 0x0B) then .eBroken
  else .ok

/-- A rejection for want of a watch sets WATCH_FULL (08 R239). -/
def State.shortFlag (s : State) (short : Bool) : State := s.when short fun s => (s.flag F.SYNC_STATUS_WATCH_FULL).event 0x29 0

/-- The waiter of a port's operation (08 R234). -/
def portWaiter (page : Option Nat) (op a0 a2 : Nat) : Option Waiter :=
  if opNamesCore op a2 && !(op = 8) then some { core := true, leaf := a0 % 512, wid := a0 / 512, pool := page } else none

/-- An operation's effect (08 R235), where its status is OK so far; w is the waiter of an arrival or a wait. -/
def State.opEffect (s : State) (op o a0 a1 a2 : Nat) (w : Option Waiter) : Status × State :=
  match op with
  | 0x01 => (.ok, s.objInit o a0 a1 a2)
  | 0x02 => (.ok, ((s.wr F.SYNC_OBJ_A_PTAG_EN (a0 % 2) o).wr F.SYNC_OBJ_A_PTAG_EXIT (a0 / 2) o).wr F.SYNC_OBJ_A_PTAG_PHASE a2 o)
  | 0x03 => s.arrive o a1 w
  | 0x04 => (.ok, (s.wr F.SYNC_OBJ_B_COUNT (s.objCount o + a0) o).semRun o)
  | 0x05 => (.ok, s.flagSet o)
  | 0x06 => (.ok, s.wr F.SYNC_OBJ_B_COUNT 0 o)
  | 0x07 => match w with
    | some w => s.waitOp o a1 (bitOf a2 5) w
    | none => (.eRange, s)
  | 0x08 => (.ok, s.setWatches (s.sync.watches.filter fun w =>
      !(Nat.beq w.obj o && w.core && Nat.beq w.leaf (a0 % 512) && Nat.beq w.wid (a0 / 512))))
  | 0x09 => (.ok, (s.objLeave o).objZero o)
  | 0x0A => (.ok, (s.objBreak o).when (s.objType o = 4) fun s => s.breakSend o Br.own none)
  | 0x0B => (.ok, (s.objLeave o).objReset o a1)
  | 0x10 => (.ok, s.reached o 0x10)
  | 0x11 => (.ok, s.setCount o a0 a1)
  | _ => (.eRange, s)

/-- Count an E_OVERRUN answer (08, SYNC_STATUS). -/
def State.syncOver (s : State) (st : Status) : State := s.when (decide (st = .eOverrun)) fun s => s.incSat F.SYNC_STATUS_OVERRUNS

/-- The register that a port writes (08 R234). -/
def syncAddr (page : Option Nat) : Nat :=
  match page with
  | some c => regAddr .CTX_SYNC_OP c
  | none => regAddr .SYNC_CMD

/-- Answer a port: a rejection at once, OK with what the operation sends (08 R246). -/
def State.syncAnswer (s : State) (p : Port) (page : Option Nat) (st : Status) : State :=
  let s := s.syncOver st
  if st = .ok then (s.syncPut (.ans p (syncAddr page) .ok)).syncFlush
  else s.answerD p (syncAddr page) true st 0

/-- The object that a port's operation names (08 R231). -/
def State.portObj (s : State) (page : Option Nat) (obj : Nat) : Option Nat :=
  match page with
  | some c => if obj < s.rd F.SYNC_CTX_OBJ_COUNT c then some (s.rd F.SYNC_CTX_OBJ_BASE c + obj) else none
  | none => if obj < 16384 then some obj else none

/-- An operation of a port but CTX_SWITCH (08 R232 to R236). -/
def State.portOp (s : State) (p : Port) (page : Option Nat) (bad : Bool) (op obj a0 a1 a2 : Nat) : State :=
  if !s.hubUp then s.deadAnswer p
  else if page.isNone && !p.priv then s.syncAnswer p page .ePriv
  else if page.isSome && (op = 0x10 || op = 0x11) then s.syncAnswer p page .ePriv
  else match s.portObj page obj with
    | none =>
      s.syncAnswer p page (if opNamesCore op a2 && !s.corePresent a0 then .eAbsent else .eRange)
    | some o =>
      let w := portWaiter page op a0 a2
      let st := s.opStatus bad op o a0 a1 a2 true w
      if st ≠ .ok then (s.shortFlag (st = .eRange && !bad && s.opShort op o a0 a1 a2 w)).syncAnswer p page st
      else
        let (st, s) := s.opEffect op o a0 a1 a2 w
        s.syncAnswer p page st

/-- The operation that a SOP asks for (08 R235, R243): OP and whether it waits. -/
def sopOp (sop : Nat) : Nat × Bool :=
  match sop with
  | 1 => (3, false)
  | 2 => (3, true)
  | 3 => (7, true)
  | 4 => (4, false)
  | 5 => (5, false)
  | 6 => (6, false)
  | _ => (7, true)

/-- An answer of a gate operation by DIRECT (08 R244; log entry 30). -/
def State.gateAnswer (s : State) (ctx lobj gen : Nat) (st : Status) (leaf q : Nat) (wake : Bool) : State :=
  (s.syncOver st).syncPut (.dir ctx lobj (gen % 1024) st.code leaf false q wake)

/-- A gate operation at the hub (08 R232, R237, R239, R243, R251): its SOP decides what it asks. -/
def State.gateOp (s : State) (sop ctx epoch leaf q lobj arg : Nat) (mode : Bool) : State :=
  if epoch % 16 ≠ s.rd F.SYNC_CTX_CEPOCH ctx then s.incSat F.SYNC_STATUS_STALE
  else
    let (op, waits) := sopOp sop
    let bad (g : Nat) (st : Status) : State := (s.gateAnswer ctx lobj g st leaf q waits).syncFlush
    match s.portObj (some ctx) lobj with
    | none => bad arg .eRange
    | some o =>
      let gen := if sop ≤ 3 then arg else s.objGen o
      let a0 := if sop = 4 then arg else 0
      let a2 := if op = 7 && mode then 0x20 else 0
      let pair := if sop = 3 then s.objBar o else if sop = 7 then !s.objBar o else true
      let has := waits && s.sync.watches.any fun w => !w.core && Nat.beq w.leaf leaf && Nat.beq w.wid q
      let w : Option Waiter := if waits then some { core := false, leaf := leaf, wid := q, pool := some ctx } else none
      let st := s.opStatus false op o a0 arg a2 false w
      if !pair || has then bad gen .eRange
      else if st ≠ .ok then
        ((s.shortFlag (st = .eRange && s.opShort op o a0 arg a2 w)).gateAnswer ctx lobj gen st leaf q waits).syncFlush
      else
        let (st, s) := s.opEffect op o a0 arg a2 w
        if st = .ok && waits then s.syncFlush
        else (s.gateAnswer ctx lobj gen st leaf q waits).syncFlush

/-- An upward SYNC message at the hub (08 R243). -/
def State.gateApply (s : State) (e : ChEnd) (sop ctx epoch leaf q lobj arg : Nat) (mode : Bool) : State :=
  if sop = 0 || 8 ≤ sop then s.event 0x05 (s.endInst e)
  else s.gateOp sop (ctx % 16) epoch (leaf % 512) (q % 64) (lobj % 2048) (arg % 65536) mode

/-- An upward SYNC message at a channel end (08 R243): a node engine sends it on unchanged; the hub applies it, or where it has
stopped, the standby has captured it (16 R486). -/
def State.gateMsg (s : State) (e : ChEnd) (tag sop ctx epoch leaf q lobj arg : Nat) (mode : Bool) : State :=
  s.deliver e tag fun s =>
    match e with
    | .hub _ =>
      if s.v .okLapse = 1 then
        { s with mir := { s.mir with captured := s.mir.captured ++ [⟨e, sop, ctx, epoch, leaf, q, lobj, arg, mode⟩] } }
      else s.gateApply e sop ctx epoch leaf q lobj arg mode
    | .node n 0 => s.evFrom (nodeDom n) 0x05 (s.endInst e)
    | .node n _ => s.sendUp (nodeDom n) Mt.syncMsg (gatePayload sop ctx epoch lobj leaf q mode arg)
    | .leaf n => s.evFrom (leafDom n) 0x05 (s.endInst e)

/-- A sync operation of a port, or of a gate's message, whose SOP says what it asks: ARG is in ARG1, MODE in ARG2 bit 5, and
n of SIGNAL in ARG0. -/
def State.syncRow (s : State) (org : SyncOrg) (op obj a0 a1 a2 : Nat) : State :=
  match org with
  | .port p page => s.portOp p page false op obj (a0 % 65536) (a1 % 65536) (a2 % 256)
  | .gate e tag sop ctx epoch leaf q =>
    s.gateMsg e tag sop ctx epoch leaf q obj (if sop = 4 then a0 else a1) (bitOf a2 5)

/-! ### Context switch -/

/-- The objects of a slot that hold anything. -/
def State.slotObjs (s : State) (c : Nat) : List Nat :=
  ((s.regs.filter fun p => (decide (p.1.n = Reg.SYNC_OBJ_A) || decide (p.1.n = Reg.SYNC_OBJ_B))
    && decide (s.slotOf p.1.i = some c)).map (·.1.i)).eraseDups

/-- The context bank of a slot clears (17 R504). -/
def State.ctxBankClear (s : State) (c : Nat) : State :=
  let s := s.each (List.range 64) fun s k => s.setReg .CNT_CTX 0 c k
  ((s.setReg .CNT_CTX_E 0 c).setV .ctxNj0 (s.v .ctxNj c) c).setV .swTime s.time c

/-- CTX_SWITCH, steps 1 and 2 of R250 (08). -/
def State.switchStart (s : State) (c : Nat) : State :=
  let s := (s.wr F.SYNC_CTX_SWITCHING 1 c).incWrap F.SYNC_CTX_CEPOCH 1 c
  let s := (s.wr F.SYNC_STATUS_SWITCH_BUSY 1).wr F.SYNC_STATUS_SWITCH_CTX c
  let s := (s.ctxBankClear c).latchAbort c
  s.toHubChildren (clrPayload c (s.rd F.SYNC_CTX_CEPOCH c))

/-- Steps 3 to 8 of R250 (08). -/
def State.switchEnd (s : State) (c : Nat) : State :=
  let os := s.slotObjs c
  let s := s.frame 4 0x12 c s.time 0 0
  let s := s.each (os.filter fun o => s.objType o = 4) fun s o => s.breakSend o Br.own none
  let s := s.each (os.filter fun o => s.is F.SYNC_OBJ_A_SHAPE_EN o) fun s o => s.shapeCancel o
  let mine (w : Watch) : Bool := decide (s.slotOf w.obj = some c)
  let s : State := { s with sync := { s.sync with watches := s.sync.watches.filter (fun w => !mine w),
                                                  claims := s.sync.claims.filter fun x => !mine x.1 } }
  let s := s.each os fun s o => s.objZero o
  let s := s.tagMark c none s.time
  let s := s.when (!s.is F.STR_CTX_RETAIN c) fun s => (s.strSwitch c).slotShape c
  let s := s.wr F.SYNC_CTX_SWITCHING 0 c
  let s := (s.wr F.SYNC_STATUS_SWITCH_BUSY 0).wr F.SYNC_STATUS_SWITCH_CTX 0
  (s.event 0x2A c).syncFlush

/-! ### Commands -/

/-- INIT (08 R235). -/
def execSyncInit (t : Nat) (o : SyncOrg) (obj a0 a1 a2 : Nat) (s : State) : Host.Outcome State Fault Refusal :=
  .next ((s.start t).syncRow o 0x01 obj a0 a1 a2)

/-- TAG (08 R235). -/
def execSyncTag (t : Nat) (o : SyncOrg) (obj a0 a1 a2 : Nat) (s : State) : Host.Outcome State Fault Refusal :=
  .next ((s.start t).syncRow o 0x02 obj a0 a1 a2)

/-- ARRIVE (08 R237). -/
def execSyncArrive (t : Nat) (o : SyncOrg) (obj a0 a1 a2 : Nat) (s : State) : Host.Outcome State Fault Refusal :=
  .next ((s.start t).syncRow o 0x03 obj a0 a1 a2)

/-- SIGNAL (08 R235, R240). -/
def execSyncSignal (t : Nat) (o : SyncOrg) (obj a0 a1 a2 : Nat) (s : State) : Host.Outcome State Fault Refusal :=
  .next ((s.start t).syncRow o 0x04 obj a0 a1 a2)

/-- SET (08 R235, R240). -/
def execSyncSet (t : Nat) (o : SyncOrg) (obj a0 a1 a2 : Nat) (s : State) : Host.Outcome State Fault Refusal :=
  .next ((s.start t).syncRow o 0x05 obj a0 a1 a2)

/-- CLEAR (08 R235). -/
def execSyncClear (t : Nat) (o : SyncOrg) (obj a0 a1 a2 : Nat) (s : State) : Host.Outcome State Fault Refusal :=
  .next ((s.start t).syncRow o 0x06 obj a0 a1 a2)

/-- WAIT (08 R239). -/
def execSyncWait (t : Nat) (o : SyncOrg) (obj a0 a1 a2 : Nat) (s : State) : Host.Outcome State Fault Refusal :=
  .next ((s.start t).syncRow o 0x07 obj a0 a1 a2)

/-- CANCEL (08 R242). -/
def execSyncCancel (t : Nat) (o : SyncOrg) (obj a0 a1 a2 : Nat) (s : State) : Host.Outcome State Fault Refusal :=
  .next ((s.start t).syncRow o 0x08 obj a0 a1 a2)

/-- FREE (08 R235). -/
def execSyncFree (t : Nat) (o : SyncOrg) (obj a0 a1 a2 : Nat) (s : State) : Host.Outcome State Fault Refusal :=
  .next ((s.start t).syncRow o 0x09 obj a0 a1 a2)

/-- BREAK (08 R235). -/
def execSyncBreak (t : Nat) (o : SyncOrg) (obj a0 a1 a2 : Nat) (s : State) : Host.Outcome State Fault Refusal :=
  .next ((s.start t).syncRow o 0x0A obj a0 a1 a2)

/-- RESET (08 R235). -/
def execSyncReset (t : Nat) (o : SyncOrg) (obj a0 a1 a2 : Nat) (s : State) : Host.Outcome State Fault Refusal :=
  .next ((s.start t).syncRow o 0x0B obj a0 a1 a2)

/-- FORCE (08 R252). -/
def execSyncForce (t : Nat) (o : SyncOrg) (obj a0 a1 a2 : Nat) (s : State) : Host.Outcome State Fault Refusal :=
  .next ((s.start t).syncRow o 0x10 obj a0 a1 a2)

/-- SET_COUNT (08 R252). -/
def execSyncSetCount (t : Nat) (o : SyncOrg) (obj a0 a1 a2 : Nat) (s : State) : Host.Outcome State Fault Refusal :=
  .next ((s.start t).syncRow o 0x11 obj a0 a1 a2)

/-- CTX_SWITCH of a port: its status once step 1 has run (08 R236, R250). -/
def State.portSwitch (s : State) (p : Port) (page : Option Nat) (bad : Bool) (a2 : Nat) : State :=
  if !s.hubUp then s.deadAnswer p
  else if page.isSome || !p.priv then s.syncAnswer p page .ePriv
  else if bad || 16 ≤ a2 then s.syncAnswer p page .eRange
  else if s.is F.SYNC_STATUS_SWITCH_BUSY then s.syncAnswer p page .eOverrun
  else (s.switchStart a2).syncAnswer p page .ok

/-- CTX_SWITCH (08 R250). -/
def execCtxSwitch (t : Nat) (o : SyncOrg) (obj a0 a1 a2 : Nat) (s : State) : Host.Outcome State Fault Refusal :=
  let s := s.start t
  match o with
  | .port p page => .next (s.portSwitch p page false (a2 % 256))
  | .gate .. => .next (s.syncRow o 0x12 obj a0 a1 a2)

/-- CTX_SWITCH_DONE (08 R250). -/
def execCtxSwitchDone (t : Nat) (s : State) : Host.Outcome State Fault Refusal :=
  let s := s.start t
  .next (if s.is F.SYNC_STATUS_SWITCH_BUSY then s.switchEnd (s.rd F.SYNC_STATUS_SWITCH_CTX) else s)

/-- What a confirmation of the mirror that answers a copy of stamp t0 shows (16, MIR_LAG). -/
def State.confShow (s : State) (t0 : Nat) : State :=
  let s := s.wrSat F.MIR_LAG_CONF_LAST (s.time - t0 : Nat)
  s.wr F.MIR_LAG_CONF_MAX (max (s.rd F.MIR_LAG_CONF_MAX) (s.rd F.MIR_LAG_CONF_LAST))

/-- MIRROR_CONFIRM (08 R246; 16 R481, MIR_LAG): the oldest of what waits, a batch or a response. -/
def execMirrorConfirm (t : Nat) (s : State) : Host.Outcome State Fault Refusal :=
  let s := s.start t
  .next (match s.sync.held, s.ansHeld with
    | (t0, _) :: _, x :: _ => if Nat.ble t0 x.time then (s.confShow t0).heldSend else (s.confShow x.time).ansGive
    | (t0, _) :: _, [] => (s.confShow t0).heldSend
    | [], x :: _ => (s.confShow x.time).ansGive
    | [], [] => s)

/-- SYNC_ABSENT_REPORT (08 R249): the channel to a domain. -/
def execSyncAbsentReport (t d : Nat) (s : State) : Host.Outcome State Fault Refusal :=
  .next (((s.start t).syncAbsent d).syncFlush)

/-- SPAN_STAGGER_EXPIRY (09 R290, 15 R458). -/
def execSpanStaggerExpiry (t obj : Nat) (s : State) : Host.Outcome State Fault Refusal :=
  let s := s.start t
  .next (if 0 ≤ s.v .spAt obj && s.v .spAt obj ≤ 1000 * (s.time : Int) then (s.spanComplete obj).syncFlush else s)

/-! ### STARTER commands that reach the shaping logic (09 R277) -/

/-- ENTER (07 R209). -/
def execStrEnter (t : Nat) (p : Port) (c phase : Nat) (s : State) : Host.Outcome State Fault Refusal :=
  .next (((s.start t).portMark p (c % 16) (some (phase % 256))).slotShape (c % 16))

/-- EXIT (07 R209). -/
def execStrExit (t : Nat) (p : Port) (c : Nat) (s : State) : Host.Outcome State Fault Refusal :=
  .next (((s.start t).portMark p (c % 16) none).slotShape (c % 16))

/-- STR_CMD (07 R222): the objects of the slot follow a change of its prediction (09 R277). -/
def State.strOp (s : State) (cmd c p : Nat) : Status × State :=
  let (st, s) := s.strCmd cmd c p
  (st, s.when (st = .ok) fun s => s.slotShape c)

/-- INV_SLOT (07 R222; 09 R277). -/
def execInvSlot (t : Nat) (p : Port) (c : Nat) (s : State) : Host.Outcome State Fault Refusal :=
  .next ((s.start t).command p .STR_CMD fun s => s.strOp 1 (c % 16) 0)

/-- INV_ENTRY (07 R222; 09 R277). -/
def execInvEntry (t : Nat) (p : Port) (c phase : Nat) (s : State) : Host.Outcome State Fault Refusal :=
  .next ((s.start t).command p .STR_CMD fun s => s.strOp 2 (c % 16) (phase % 256))

/-- INVALIDATION_DONE (07 R222). -/
def execInvalidationDone (t : Nat) (s : State) : Host.Outcome State Fault Refusal :=
  let s := s.start t
  .next (if s.is F.STR_STATUS_BUSY then
      let c := s.rd F.STR_STATUS_BUSY_CTX
      (((s.wr F.STR_STATUS_BUSY 0).wr F.STR_STATUS_BUSY_CTX 0).heldMarks c).slotShape c
    else s)

/-- STARTER_SAMPLE (07 R213). -/
def execStarterSample (t k c cyc : Nat) (s : State) : Host.Outcome State Fault Refusal :=
  .next (((s.start t).strSample k (c % 16) cyc).slotShape (c % 16))

end Sys2Proof.Machine
end

