-- ==== Sys2Proof/Machine/SyncLeaf.lean ====
section
/-!
DEFINITION. The synchronisation unit at a leaf (08 R232, R244, R245, R250, R251, R253, R254; 09 R287 to R289; 20 R581, R582):
gate operations, wait registers, releases, local sync registers.
-/
namespace Sys2Proof.Machine

/-! ### Wait registers -/

/-- A field of a sub-gate's wait register. -/
def State.wt (s : State) (l q : Nat) (a b : Fld) : Nat := s.rd (sgF q a b) l (q / 2)

/-- Whether a sub-gate waits. -/
def State.waiting (s : State) (l q : Nat) : Bool := s.wt l q F.LEAF_SYNC_WAIT_VALID_A F.LEAF_SYNC_WAIT_VALID_B = 1
/-- Whether it waits on a local register. -/
def State.waitLocal (s : State) (l q : Nat) : Bool := s.wt l q F.LEAF_SYNC_WAIT_LOCAL_A F.LEAF_SYNC_WAIT_LOCAL_B = 1
/-- The slot of its wait. -/
def State.waitCtx (s : State) (l q : Nat) : Nat := s.wt l q F.LEAF_SYNC_WAIT_CTX_A F.LEAF_SYNC_WAIT_CTX_B
/-- The local index of its wait. -/
def State.waitObj (s : State) (l q : Nat) : Nat := s.wt l q F.LEAF_SYNC_WAIT_LOBJ_A F.LEAF_SYNC_WAIT_LOBJ_B
/-- GEN_WANT of its wait. -/
def State.waitGen (s : State) (l q : Nat) : Nat := s.wt l q F.LEAF_SYNC_WAIT_GEN_WANT_A F.LEAF_SYNC_WAIT_GEN_WANT_B

/-- Set the wait register of a sub-gate (08 R245). -/
def State.waitSet (s : State) (l q : Nat) (value mode : Bool) (ctx lobj gen : Nat) (loc : Bool) : State :=
  let s := s.effAcct l q
  let v := pack [(0, 1, 1), (1, 1, b2n value), (2, 1, b2n mode), (3, 4, ctx), (7, 11, lobj), (18, 10, gen), (28, 1, b2n loc)]
  s.setReg .LEAF_SYNC_WAIT (setBits (s.reg .LEAF_SYNC_WAIT l (q / 2)) (32 * (q % 2)) 32 v) l (q / 2)

/-- Clear the wait register of a sub-gate. -/
def State.waitClear (s : State) (l q : Nat) : State :=
  let s := s.effAcct l q
  s.setReg .LEAF_SYNC_WAIT (setBits (s.reg .LEAF_SYNC_WAIT l (q / 2)) (32 * (q % 2)) 32 0) l (q / 2)

/-- Whether LAST of a sub-gate holds a release (08 R245). -/
def State.isLast (s : State) (l q ctx lobj gen : Nat) : Bool :=
  let a := 32 * (q % 2)
  let w := s.reg .LEAF_SYNC_LAST l (q / 2)
  Nat.beq (getBits w (a + 25) 1) 1 && Nat.beq (getBits w a 4) ctx && Nat.beq (getBits w (a + 4) 11) lobj
    && Nat.beq (getBits w (a + 15) 10) gen

/-- A wait ends: LAST records the release where it is one, and the wait register clears (08 R245). -/
def State.waitEnd (s : State) (l q : Nat) (last : Option (Nat × Nat × Nat)) : State :=
  let s := match last with
    | some (c, i, g) =>
      let v := pack [(0, 4, c), (4, 11, i), (15, 10, g), (25, 1, 1)]
      s.setReg .LEAF_SYNC_LAST (setBits (s.reg .LEAF_SYNC_LAST l (q / 2)) (32 * (q % 2)) 32 v) l (q / 2)
    | none => s
  (s.waitClear l q).setV .sgOut 0 l q

/-- A discard under R245 (08). -/
def State.leafDup (s : State) (l : Nat) : State := s.incSat F.LEAF_SYNC_STAT_DUP 1 l

/-- The epoch of a slot at a leaf (08 R250). -/
def State.leafEpoch (s : State) (l c : Nat) : Nat := getBits (s.reg .LEAF_SYNC_EPOCH l) (4 * (c % 16)) 4

/-- An operation of a sub-gate that is on its way: SOP, epoch, slot, index (08 R251). -/
def State.outOp (s : State) (l q : Nat) : Option (Nat × Nat × Nat × Nat) :=
  let v := s.vn .sgOut l q
  if v = 0 then none else some ((v - 1) % 16, (v - 1) / 16 % 16, (v - 1) / 256 % 16, (v - 1) / 4096)

/-- Whether a sub-gate may have an operation taken (08 R232): none outstanding, or only one of an epoch that has passed. -/
def State.sgReady (s : State) (l q : Nat) : Bool :=
  !s.waiting l q && s.v .proofHold l q = 0 && match s.outOp l q with
    | none => true
    | some (_, ep, c, _) => decide (ep ≠ s.leafEpoch l c)

/-! ### Local sync registers -/

/-- The sub-gates that wait on a local register (08 R253). -/
def State.lWaiters (s : State) (l k : Nat) : List Nat :=
  (s.subGates l).filter fun q => s.waiting l q && s.waitLocal l q && Nat.beq (s.waitObj l q) k

/-- End the waits on a local register that a test selects. -/
def State.lRelease (s : State) (l k st : Nat) (sel : Nat → Bool) : State :=
  s.each ((s.lWaiters l k).filter sel) fun s q => (s.waitEnd l q none).gateRsp l q st

/-- A local barrier completes, and cascades at most once (08 R238, R253). -/
def State.lComplete (s : State) (l k fuel : Nat) : State :=
  match fuel with
  | 0 => s
  | n + 1 =>
    if s.rd F.LEAF_LSYNC_COUNT l k = s.rd F.LEAF_LSYNC_TARGET l k then
      let g := s.rd F.LEAF_LSYNC_GEN l k
      let s := s.lRelease l k 0 fun q => Nat.beq (s.waitGen l q % 16) g
      let s := (s.wr F.LEAF_LSYNC_GEN (g + 1) l k).wr F.LEAF_LSYNC_COUNT (s.rd F.LEAF_LSYNC_NEXT l k) l k
      (s.wr F.LEAF_LSYNC_NEXT 0 l k).lComplete l k n
    else s

/-- A local arrival (08 R237, R253). -/
def State.lArrive (s : State) (l q k arg : Nat) (waits : Bool) : State :=
  let d := (arg + 16 - s.rd F.LEAF_LSYNC_GEN l k) % 16
  let target := s.rd F.LEAF_LSYNC_TARGET l k
  let hold (s : State) : State :=
    if waits then s.waitSet l q false false (s.rd F.LEAF_LSYNC_CTX l k) k (arg % 16) true else s.gateRsp l q 0
  if d = 0 then
    if s.rd F.LEAF_LSYNC_COUNT l k = target then s.gateRsp l q Status.eOverrun.code
    else ((hold s).wr F.LEAF_LSYNC_COUNT (s.rd F.LEAF_LSYNC_COUNT l k + 1) l k).lComplete l k 2
  else if d = 1 then
    if s.rd F.LEAF_LSYNC_NEXT l k = target then s.gateRsp l q Status.eOverrun.code
    else (hold s).wr F.LEAF_LSYNC_NEXT (s.rd F.LEAF_LSYNC_NEXT l k + 1) l k
  else if d ≤ 7 then s.gateRsp l q Status.eOverrun.code
  else s.gateRsp l q Status.eRange.code

/-- A gate operation on a local register (08 R253). -/
def State.lOp (s : State) (l q sop k arg : Nat) (mode : Bool) : State :=
  let flag := s.is F.LEAF_LSYNC_TYPE l k
  if !Nat.beq (s.rd F.LEAF_PART_CTX l (s.sgPart l q)) (s.rd F.LEAF_LSYNC_CTX l k) then s.gateRsp l q Status.ePriv.code
  else if !s.is F.LEAF_LSYNC_EN l k then s.gateRsp l q Status.eRange.code
  else if flag then
    match sop with
    | 5 =>
      if s.is F.LEAF_LSYNC_FLAG l k then s.gateRsp l q 0
      else
        let s := s.lRelease l k 0 fun _ => true
        ((s.wr F.LEAF_LSYNC_FLAG 1 l k).incWrap F.LEAF_LSYNC_GEN 1 l k).gateRsp l q 0
    | 6 => (s.wr F.LEAF_LSYNC_FLAG 0 l k).gateRsp l q 0
    | 7 =>
      if mode then s.gateRsp l q Status.eRange.code
      else if s.is F.LEAF_LSYNC_FLAG l k then s.gateRsp l q 0
      else s.waitSet l q true false (s.rd F.LEAF_LSYNC_CTX l k) k 0 true
    | _ => s.gateRsp l q Status.eRange.code
  else
    match sop with
    | 1 => s.lArrive l q k arg false
    | 2 => s.lArrive l q k arg true
    | 3 =>
      let d := (arg + 16 - s.rd F.LEAF_LSYNC_GEN l k) % 16
      if 8 ≤ d then s.gateRsp l q 0
      else if 2 ≤ d then s.gateRsp l q Status.eOverrun.code
      else s.waitSet l q false false (s.rd F.LEAF_LSYNC_CTX l k) k (arg % 16) true
    | _ => s.gateRsp l q Status.eRange.code

/-- EN 0 of a local register: its waits end with E_BROKEN and it clears (08 R254). -/
def State.lDisable (s : State) (l k : Nat) : State :=
  let s := s.lRelease l k Status.eBroken.code fun _ => true
  let s := ((s.wr F.LEAF_LSYNC_EN 0 l k).wr F.LEAF_LSYNC_COUNT 0 l k).wr F.LEAF_LSYNC_NEXT 0 l k
  (s.wr F.LEAF_LSYNC_GEN 0 l k).wr F.LEAF_LSYNC_FLAG 0 l k

/-- A write of LEAF_LSYNC_k (08 R254). -/
def State.lsyncWr (s : State) (l k w : Nat) : Status × State :=
  let typ := w / 2 % 2
  let ctx := w / 4 % 16
  let target := w / 64 % 128
  let same := typ = s.rd F.LEAF_LSYNC_TYPE l k && ctx = s.rd F.LEAF_LSYNC_CTX l k && target = s.rd F.LEAF_LSYNC_TARGET l k
  let busy := !Nat.beq (s.rd F.LEAF_LSYNC_COUNT l k) 0 || !Nat.beq (s.rd F.LEAF_LSYNC_NEXT l k) 0 || !(s.lWaiters l k).isEmpty
  let put (s : State) : State :=
    ((s.wr F.LEAF_LSYNC_TYPE typ l k).wr F.LEAF_LSYNC_CTX ctx l k).wr F.LEAF_LSYNC_TARGET target l k
  if w % 2 = 0 then (.ok, put (s.lDisable l k))
  else if target = 0 || 64 < target then (.eRange, s)
  else if s.is F.LEAF_LSYNC_EN l k && !same && busy then (.eRange, s)
  else (.ok, (put s).wr F.LEAF_LSYNC_EN 1 l k)

/-! ### Messages at a leaf -/

/-- Whether a wait is one that a RELEASE ends (08 R245). -/
def State.relMatch (s : State) (l q ctx lobj gen : Nat) : Bool :=
  s.waiting l q && !s.waitLocal l q && s.wt l q F.LEAF_SYNC_WAIT_MODE_A F.LEAF_SYNC_WAIT_MODE_B = 0
    && Nat.beq (s.waitCtx l q) ctx && Nat.beq (s.waitObj l q) lobj
    && (s.wt l q F.LEAF_SYNC_WAIT_VALUE_A F.LEAF_SYNC_WAIT_VALUE_B = 1 || Nat.beq (s.waitGen l q) gen)
    && !s.isLast l q ctx lobj gen

/-- A RELEASE at a leaf (08 R245; 09 R285, R287, R288), with the sub-gates whose GP_BUSY is high. -/
def State.leafRelease (s : State) (l ctx lobj gen st shape : Nat) (busy : List Nat) : State :=
  let en := bitOf shape 26
  let w := shape / 2 ^ 22 % 16 + 1
  let gap := 125 * (shape / 2 ^ 18 % 16 + 1)
  let rot := shape / 2 ^ 8 % 1024
  let qs := (s.subGates l).filter fun q => s.relMatch l q ctx lobj gen
  let s := s.when en fun s => s.incSat F.LEAF_PROOF_RELEASES 1 l
  if qs.isEmpty then s.leafDup l
  else s.each qs fun s q =>
    let s := s.waitEnd l q (some (ctx, lobj, gen))
    let k := if en then waveOf l q rot w else 0
    if k = 0 then s.gateRsp l q st
    else if busy.contains q then (s.incSat F.LEAF_PROOF_BUSY_EARLY 1 l).gateRsp l q st
    else s.waveHold l q (s.time + k * gap) st

/-- A DIRECT at a leaf for a sub-gate (08 R245, R251; log entry 30). -/
def State.leafDirect (s : State) (l ctx lobj gen st q : Nat) (wake : Bool) : State :=
  if wake then
    if s.waiting l q && !s.waitLocal l q && Nat.beq (s.waitCtx l q) ctx && Nat.beq (s.waitObj l q) lobj
        && !s.isLast l q ctx lobj gen then
      (s.waitEnd l q (some (ctx, lobj, gen))).gateRsp l q st
    else s.leafDup l
  else
    match s.outOp l q with
    | some (_, ep, c, i) =>
      if s.waiting l q || c ≠ ctx || i ≠ lobj then s.leafDup l
      else if ep ≠ s.leafEpoch l c then (s.incSat F.LEAF_SYNC_STAT_STALE 1 l).setV .sgOut 0 l q
      else (s.setV .sgOut 0 l q).gateRsp l q st
    | none => s.leafDup l

/-- CTX_CLEAR at a leaf (08 R245, R250). -/
def State.leafClear (s : State) (l c ep : Nat) : State :=
  let qs := (s.subGates l).filter fun q => s.waiting l q && Nat.beq (s.waitCtx l q) c
  let s := s.each qs fun s q =>
    let last := if s.waitLocal l q then none else some (c, s.waitObj l q, s.waitGen l q)
    (s.waitEnd l q last).gateRsp l q Status.eBroken.code
  let s := s.each (List.range 8) fun s k => if s.rd F.LEAF_LSYNC_CTX l k = c then s.lDisable l k else s
  s.setReg .LEAF_SYNC_EPOCH (setBits (s.reg .LEAF_SYNC_EPOCH l) (4 * c) 4 ep) l

/-- A downward SYNC message at a channel end (08 R244): node engines send it on, a leaf acts, another end refuses it. -/
def State.syncDown (s : State) (e : ChEnd) (tag : Nat) (node : Nat → State → State) (leaf : Nat → State → State) : State :=
  s.deliver e tag fun s =>
    match e with
    | .node n 0 => node n s
    | .leaf l => leaf l s
    | _ => s.evFrom (endDom e) 0x05 (s.endInst e)

/-- Send a message on to every child channel of a node; its guard drops and counts one that it cannot send (03 R99; 08 R244). -/
def State.toChildren (s : State) (n typ payload : Nat) : State :=
  s.each (s.childEnds (nodeDom n)) fun s e => s.send e typ payload

/-! ### Commands -/

/-- GATE_SYNC_OP (08 R232, R243, R253; 20 R581, R582): a sub-gate presents an operation. -/
def execGateSyncOp (t l q sop : Nat) (loc : Bool) (obj arg : Nat) (mode : Bool) (s : State) : Host.Outcome State Fault Refusal :=
  let s := s.start t
  let sop := sop % 8
  let obj := obj % 2048
  let arg := arg % 65536
  let c := s.rd F.LEAF_PART_CTX l (s.sgPart l q)
  .next (if !(s.subGates l).contains q || !s.sgReady l q then s
    else
      let s := (s.emit (.sack l q)).cntAdd l 0x19 c 1 s.time
      if loc then
        if 8 ≤ obj then s.gateRsp l q Status.eRange.code else s.lOp l q sop obj arg mode
      else
        let ep := s.leafEpoch l c
        let s := s.setV .sgOut (1 + sop + 16 * ep + 256 * c + 4096 * obj : Nat) l q
        let s := if sop = 2 || sop = 3 then s.waitSet l q false false c obj (arg % 1024) false
          else if sop = 7 then s.waitSet l q true mode c obj 0 false else s
        s.sendUp (leafDom l) Mt.syncMsg (gatePayload sop c ep obj l q (mode && sop = 7) arg))

/-- RELEASE (08 R244, R245). -/
def execRelease (t : Nat) (e : ChEnd) (tag ctx lobj gen st shape : Nat) (busy : List Nat) (s : State) :
    Host.Outcome State Fault Refusal :=
  .next ((s.start t).syncDown e tag
    (fun n s => s.toChildren n Mt.syncMsg (relPayload ctx lobj gen st shape))
    (fun l s => s.leafRelease l (ctx % 16) (lobj % 2048) (gen % 1024) (st % 256) (shape % 2 ^ 27) busy))

/-- DIRECT (08 R244, R245): toward its leaf; at the leaf the claim that it carries has been delivered (R241). -/
def execDirect (t : Nat) (e : ChEnd) (tag ctx lobj gen st leaf : Nat) (core : Bool) (wid : Nat) (wake : Bool) (s : State) :
    Host.Outcome State Fault Refusal :=
  .next ((s.start t).syncDown e tag
    (fun n s => match s.hop (nodeDom n) (leafDom leaf) with
      | some d => (s.sendDown d Mt.syncMsg (dirPayload ctx lobj gen st leaf core wid wake)).2
      | none => s)
    (fun l s =>
      if l ≠ leaf then s
      else
        let s : State := { s with sync := { s.sync with claims := s.sync.claims.filter fun x =>
          !(Nat.beq x.1.leaf l && Nat.beq x.1.wid wid && x.1.core == core && Nat.beq (x.2 % 1024) (gen % 1024)
            && decide (s.lobjOf x.1.obj = (ctx, lobj))) } }
        if core then s.emit (.wake l wid)
        else s.leafDirect l (ctx % 16) (lobj % 2048) (gen % 1024) (st % 256) (wid % 64) wake))

/-- CTX_CLEAR (08 R250). -/
def execCtxClear (t : Nat) (e : ChEnd) (tag c ep : Nat) (s : State) : Host.Outcome State Fault Refusal :=
  .next ((s.start t).syncDown e tag
    (fun n s => s.toChildren n Mt.syncMsg (clrPayload c ep))
    (fun l s => s.leafClear l (c % 16) (ep % 16)))

/-- LSYNC_WRITE (08 R254): a hub command's write of LEAF_LSYNC_k at a leaf. -/
def execLsyncWrite (t l k w : Nat) (s : State) : Host.Outcome State Fault Refusal :=
  let s := s.start t
  let (st, s) := s.lsyncWr l (k % 8) w
  .next (s.emit (.status (leafDom l) st))

end Sys2Proof.Machine
end

