-- ==== Sys2Proof/Machine/Link.lean ====
section
/-!
DEFINITION. The Dandoxa link (15 R446 to R469): link states, received frames, system time, leases' frames, failed peers.
-/
namespace Sys2Proof.Machine

/-! ### Link states -/

/-- The port record of DXL_CONFIG (15 R471). -/
def State.portRec? (s : State) (n : Nat) : Option DxlPortRec := s.dxl?.bind fun d => d.ports[n]?

/-- Whether a port is present (15 R471). -/
def State.portPresent (s : State) (n : Nat) : Bool :=
  match s.portRec? n with
  | some r => r.present
  | none => false

/-- PEER_ID of a port. -/
def State.peerId (s : State) (n : Nat) : Nat :=
  match s.portRec? n with
  | some r => r.peerId
  | none => 0

/-- Enter AUTH (15 R450, R452): present, LINK_UP high, AUTH_BACKOFF passed. -/
def State.tryAuth (s : State) (n : Nat) : State :=
  if s.portSt n = Lk.down && s.portPresent n && s.is F.DXL_PORT_A_LINK_UP n && Nat.ble (s.vn .authAt n) s.time then
    let me := match s.dxl? with | some d => d.pkgId | none => 0
    (s.portShow n Lk.auth).wr F.DXL_PORT_A_REQUESTER (b2n (Nat.blt me (s.peerId n))) n
  else s

/-- Enter UP (15 R450, R452); a package in FAIL sends its notice again (12 R379). -/
def State.portToUp (s : State) (n : Nat) : State :=
  let s := (s.portShow n Lk.up).event 0x60 n
  let s := s.when (s.pkg = Pkg.fail) fun s => s.frameOut n Ft.failNotice (s.vn .failBody)
  s.when (decide (s.treeParent = some n)) fun s => (s.setV .tsFirst 1).setV .tsT1 0

/-- A received frame (15 R449): accepted, or dropped with MACFAIL, DXL_MAC_FAIL and the port to DOWN. A port outside UP and
PFAIL has no session key. -/
def State.frameIn (s : State) (h : FrameHdr) (f : State → State) : State :=
  let n := h.port
  let st := s.portSt n
  let newest := s.rd F.DXL_PORT_A_KEYID n
  let keyOk := h.keyid = newest || (h.keyid < 2 && s.v .rxKeyNew n = 0)
  if (st = Lk.up || st = Lk.pfail) && h.macOk && keyOk && Nat.beq h.seq (s.vn .rxSeq n h.keyid) && Nat.beq h.src (s.peerId n) then
    let s := (s.setV .rxSeq ((h.seq + 1) % 2 ^ 32 : Nat) n h.keyid).setV .rxLast s.time n
    (f (s.when (h.keyid = newest) fun s => s.setV .rxKeyNew 1 n)).syncFlush
  else
    (((s.incSat F.DXL_PORT_B_MACFAIL 1 n).event 0x63 n).portDown n).syncFlush

/-- LINK_UP (15 R450). -/
def execLinkUp (t n : Nat) (s : State) : Host.Outcome State Fault Refusal :=
  .next (((s.start t).wr F.DXL_PORT_A_LINK_UP 1 n).tryAuth n)

/-- LINK_DOWN (15 R452). -/
def execLinkDown (t n : Nat) (s : State) : Host.Outcome State Fault Refusal :=
  .next ((((s.start t).wr F.DXL_PORT_A_LINK_UP 0 n).portDown n).syncFlush)

/-- AUTH_DONE (15 R450): the session is established, or has failed. -/
def execAuthDone (t n : Nat) (ok : Bool) (s : State) : Host.Outcome State Fault Refusal :=
  let s := s.start t
  .next (if s.portSt n ≠ Lk.auth then s
    else if ok then
      let s := (s.wr F.DXL_PORT_A_TX_SEQ 0 n).wr F.DXL_PORT_A_KEYID 0 n
      let s := ((s.setV .rxSeq 0 n 0).setV .rxSeq 0 n 1).setV .rxKeyNew 1 n
      ((s.setV .rxLast s.time n).setV .txLast s.time n).portToUp n
    else (s.event 0x64 n).portDown n)

/-- AUTH_BACKOFF_END (15 R452). -/
def execAuthBackoffEnd (t n : Nat) (s : State) : Host.Outcome State Fault Refusal :=
  .next ((s.start t).tryAuth n)

/-- LINK_SILENT (15 R452): measured from the last accepted frame of the session (log entry 38). -/
def execLinkSilent (t n : Nat) (s : State) : Host.Outcome State Fault Refusal :=
  let s := s.start t
  .next (if 2 ≤ s.portSt n && Nat.ble (s.vn .rxLast n + 1000 * s.lnk 0x0031 2 50) s.time then (s.portDown n).syncFlush else s)

/-- DXL_HEARTBEAT_SEND (15 R448, R453): RX_SEQ is the last SEQ accepted. -/
def execDxlHeartbeatSend (t n : Nat) (s : State) : Host.Outcome State Fault Refusal :=
  let s := s.start t
  .next (if s.hubUp && s.portUp n && Nat.ble (s.vn .txLast n + 1000 * s.lnk 0x0030 2 10) s.time then
      let rx := (s.vn .rxSeq n (s.rd F.DXL_PORT_A_KEYID n) + 2 ^ 32 - 1) % 2 ^ 32
      (s.syncPut (.frm n Ft.heartbeat (pack [(0, 8, s.pkg), (32, 32, rx), (64, 64, ofSigned 64 s.sysTime)]))).syncDrain 16
    else s)

/-- DXL_KEY_UPDATE (15 R451). -/
def execDxlKeyUpdate (t n : Nat) (s : State) : Host.Outcome State Fault Refusal :=
  let s := s.start t
  let k := s.rd F.DXL_PORT_A_KEYID n
  let due := Nat.ble 0xC000_0000 (s.rd F.DXL_PORT_A_TX_SEQ n) || Nat.ble 0xC000_0000 (s.vn .rxSeq n k)
  .next (if 2 ≤ s.portSt n && (due || !s.is F.DXL_PORT_A_REQUESTER n) then
      let s := (s.wr F.DXL_PORT_A_KEYID (1 - k) n).wr F.DXL_PORT_A_TX_SEQ 0 n
      (s.setV .rxSeq 0 n (1 - k)).setV .rxKeyNew 0 n
    else s)

/-- HEARTBEAT (15 R452): a state other than FAIL returns PFAIL to UP. -/
def execDxlHeartbeat (t : Nat) (h : FrameHdr) (state rx sys : Nat) (s : State) : Host.Outcome State Fault Refusal :=
  let _ := (rx, sys)
  .next ((s.start t).frameIn h fun s =>
    if s.portSt h.port = Lk.pfail && state % 16 ≠ Pkg.fail then s.portToUp h.port else s)

/-- RESERVED_TYPE_FRAME (15 R448). -/
def execReservedTypeFrame (t : Nat) (h : FrameHdr) (s : State) : Host.Outcome State Fault Refusal :=
  .next ((s.start t).frameIn h fun s => s.incSat F.DXL_PORT_B_RSVD 1 h.port)

/-! ### Spanning objects -/

/-- A frame's job against the tag of its object's slot (15 R456). -/
def State.jobMatch (s : State) (obj job : Nat) (f : State → State) : State :=
  match s.slotOf obj with
  | some c => if Nat.beq (s.rd F.DXL_JOB_JOB c) job then f s else s.incSat F.DXL_STATUS_JOBMISS
  | none => s.incSat F.DXL_STATUS_JOBMISS

/-- Whether an object is a SPAN object that stands. -/
def State.spanLive (s : State) (o : Nat) : Bool := s.objType o = 4 && !s.is F.SYNC_OBJ_A_BROKEN o

/-- A dropped frame of a spanning object (15 R457, 08 R255). -/
def State.spanStale (s : State) : State := s.incSat F.SYNC_STATUS_STALE

/-- ARRIVE_FRAME (15 R457). -/
def execArriveFrame (t : Nat) (h : FrameHdr) (obj gen job : Nat) (s : State) : Host.Outcome State Fault Refusal :=
  .next ((s.start t).frameIn h fun s => s.jobMatch obj job fun s =>
    let d := (gen + 65536 - s.objGen obj) % 65536
    let bit (v : Nat) : Nat := if bitOf v h.port then v else v + 2 ^ h.port
    if !s.spanLive obj || !s.treeChildren.contains h.port then s
    else if d = 0 then
      if bitOf (s.vn .spArr obj) h.port then s
      else
        let (done, s) := (s.setV .spArr (bit (s.vn .spArr obj) : Nat) obj).spanGather obj
        if done then s.spanComplete obj else s
    else if d = 1 then s.setV .spNxt (bit (s.vn .spNxt obj) : Nat) obj
    else if d ≤ 32767 then s.spanBreak obj Br.protocol none
    else s.spanStale)

/-- RELEASE_FRAME (15 R458): from the parent; sent on at once to the children that are UP. -/
def execReleaseFrame (t : Nat) (h : FrameHdr) (obj gen job : Nat) (s : State) : Host.Outcome State Fault Refusal :=
  .next ((s.start t).frameIn h fun s => s.jobMatch obj job fun s =>
    if !s.spanLive obj || s.treeParent ≠ some h.port then s
    else if gen ≠ s.objGen obj then s.spanStale
    else if !s.is F.SYNC_OBJ_A_UP obj then s.spanBreak obj Br.protocol none
    else
      let s := s.each s.treeChildren fun s n => s.frameOut n Ft.release (spanBody obj gen job)
      let (done, s) := s.spanAccept obj
      if done then s.spanComplete obj else s)

/-- BREAK_FRAME (15 R459), from a tree port. -/
def execBreakFrame (t : Nat) (h : FrameHdr) (obj gen job : Nat) (all : Bool) (reason : Nat) (s : State) :
    Host.Outcome State Fault Refusal :=
  let fwd (s : State) : State :=
    s.each (s.treePorts.filter fun n => s.portUp n && decide (n ≠ h.port)) fun s n =>
      s.syncPut (.frm n Ft.brk (breakBody obj gen job all reason))
  .next ((s.start t).frameIn h fun s =>
    if !s.treePorts.contains h.port then s
    else if all then
      let os := s.spans.filter fun o => match s.slotOf o with
        | some c => Nat.beq (s.rd F.DXL_JOB_JOB c) job
        | none => false
      fwd (s.each os fun s o => if s.is F.SYNC_OBJ_A_BROKEN o then s else s.objBreak o)
    else s.jobMatch obj job fun s => if s.spanLive obj then fwd (s.objBreak obj) else s)

/-! ### Leases -/

/-- LEASE_OFFER (15 R462). -/
def execLeaseOffer (t : Nat) (h : FrameHdr) (spare want feed : Nat) (s : State) : Host.Outcome State Fault Refusal :=
  .next ((s.start t).frameIn h fun s => s.offerTake h.port (spare % 2 ^ 32) (want % 2 ^ 32) (feed % 2 ^ 16))

/-- LEASE_GRANT (15 R464); T_EXP in system time. -/
def execLeaseGrant (t : Nat) (h : FrameHdr) (amt lseq : Nat) (texp : Int) (s : State) : Host.Outcome State Fault Refusal :=
  .next ((s.start t).frameIn h fun s => s.grantTake h.port (amt % 2 ^ 32) (lseq % 2 ^ 16) texp)

/-- LEASE_RECALL (15 R466); T_EFF in system time. -/
def execLeaseRecall (t : Nat) (h : FrameHdr) (amt lseq : Nat) (teff : Int) (s : State) : Host.Outcome State Fault Refusal :=
  .next ((s.start t).frameIn h fun s => s.recallTake h.port (amt % 2 ^ 32) (lseq % 2 ^ 16) teff)

/-! ### System time -/

/-- TSYNC_SEND (15 R454). -/
def execTsyncSend (t : Nat) (s : State) : Host.Outcome State Fault Refusal :=
  let s := s.start t
  match s.treeParent with
  | none => .next s
  | some n =>
    .next (if s.hubUp && s.portUp n && Nat.ble (s.vn .tsAt + 1000 * s.lnk 0x0032 2 10) s.time then
        let t1 := ofSigned 64 s.sysTime
        ((s.setV .tsAt s.time).setV .tsT1 (t1 + 1 : Nat)).frameOut n Ft.timeSync t1
      else s)

/-- TIME_SYNC_REQUEST (15 R454): T2, D32 and T1_LO go back at the stamp of receipt; bit 128 of the frame sent is REPLY. -/
def execTimeSyncRequest (t : Nat) (h : FrameHdr) (t1 : Nat) (s : State) : Host.Outcome State Fault Refusal :=
  .next ((s.start t).frameIn h fun s =>
    s.frameOut h.port Ft.timeSync (pack [(0, 64, ofSigned 64 s.sysTime), (96, 32, t1), (128, 1, 1)]))

/-- TIME_SYNC_REPLY (15 R454, R455). -/
def execTimeSyncReply (t : Nat) (h : FrameHdr) (t2 : Int) (d32 t1lo : Nat) (s : State) : Host.Outcome State Fault Refusal :=
  .next ((s.start t).frameIn h fun s =>
    if s.treeParent ≠ some h.port || s.portSt h.port ≠ Lk.up || s.v .tsT1 = 0 || (s.vn .tsT1 - 1) % 2 ^ 32 ≠ t1lo % 2 ^ 32 then s
    else
      let t1 := toSigned 64 (s.vn .tsT1 - 1)
      let t4 := s.sysTime
      let err := roundDiv ((t2 - t1) + (t2 + d32 - t4)) 2
      let delay := roundDiv ((t4 - t1) - d32) 2
      let ofs := s.sysOfs
      let s := ((s.setV .tsT1 0).wrI F.DXL_TERR_ERR (satS 32 err)).wrSat F.DXL_TERR_DELAY delay
      if s.v .tsFirst = 1 then
        (((s.wrI F.DXL_TIME_SYS_OFS (ofs + err)).setV .tsRem 0).setV .tsFirst 0).flag F.DXL_TERR_STEPPED
      else
        let s := ((s.wrI F.DXL_TIME_SYS_OFS ofs).setV .tsRem err).setV .tsRemAt s.time
        if 50 < err.natAbs then (s.flag F.DXL_TERR_ERR_SEEN).event 0x65 0 else s)

/-! ### Failed peers -/

/-- FAIL_NOTICE (15 R467; 12 R380), its body in two words: accepted from an UP port whose peer it names. -/
def execFailNotice (t : Nat) (h : FrameHdr) (lo hi : Nat) (s : State) : Host.Outcome State Fault Refusal :=
  let _ := hi
  .next ((s.start t).frameIn h fun s =>
    if s.portSt h.port ≠ Lk.up || lo % 65536 ≠ h.src then s
    else
      let s := (s.portShow h.port Lk.pfail).event 0x62 h.port
      (s.portLeaves h.port Br.failed true).setReg .DXL_PORT_D (BitVec.ofNat 64 lo) h.port)

end Sys2Proof.Machine
end

