-- ==== Sys2Proof/Machine/Pkg.lean ====
section
/-!
DEFINITION. The package states (01 R39 to R47): entering a state, the selection of slots and the mode, RAMP and the ramp-down
(13 R411 to R415), the loader's side of AON and of a delta's end, trips and FAIL (12 R364 to R381).
-/
namespace Sys2Proof.Machine

/-- Add to a counter of the global bank (17 R501). -/
def State.gCount (s : State) (i d : Nat) : State := s.incWrap F.CNT_GLOBAL_VAL d i

/-- Account the time in the present package state (17 R501, STATE_T). -/
def State.stateTime (s : State) : State :=
  (s.gCount (0x40 + s.pkg) (s.time - s.vn .pkgT)).setV .pkgT s.time

/-- Enter a package state (01 R39, R40). -/
def State.pkgTo (s : State) (st cause : Nat) : State :=
  let s := s.stateTime
  let s := (s.wr F.HUB_PKG_STATE_PREV s.pkg).wr F.HUB_PKG_STATE_STATE st
  let s := (s.wr F.HUB_PKG_STATE_CAUSE cause).wr F.HUB_PKG_STATE_ENTRY_TIME s.time
  let s := s.when (!(st = Pkg.run || st = Pkg.hold)) fun s => s.setV .kwPkg 1 0 (s.time / 1000000 % 16)
  -- RUN does not hold throughout the sample (07 R212)
  let s := s.each slots16 fun s c => s.smpSpoil c
  ((s.setV .pkgAt s.time).loopsArm).event 0x01 0

/-! ### Trip count -/

/-- A global item of the TIMING section. -/
def State.tim (s : State) (key off len dflt : Nat) : Nat := s.par Sec.timing key idxAll off len dflt

/-- The counted trips whose stamps lie in the window (01 R41). -/
def State.tripsIn (s : State) : List Nat :=
  (List.range 256).filter fun k =>
    !(s.v .tripAt k = 0) && decide ((s.time : Int) < s.v .tripAt k - 1 + 1000000 * s.tim 6 0 4 60000)

/-- Show TRIPCOUNT (01, HUB_PKG_STATE). -/
def State.tripShow (s : State) : State := s.wr F.HUB_PKG_STATE_TRIPCOUNT (min 255 s.tripsIn.length)

/-! ### Stopping compute -/

/-- Assert CRUST_STOP (12 R367, R371): every gate at 0, credits revoked (09 R265). -/
def State.stopOn (s : State) : State :=
  let s := s.wr F.CRUST_STATUS_STOP 1
  let s := s.each s.leaves fun s l => s.leafRevoke l
  s.allEff

/-- Release CRUST_STOP (12 R370, R371); the wave holds that expired under it end (09 R291). -/
def State.stopOff (s : State) : State :=
  let was := s.crustStop
  let s := (s.wr F.CRUST_STATUS_STOP 0).allEff
  s.when was fun s => s.each s.leaves fun s l => s.wavesDue l

/-! ### Slots and mode -/

/-- The requested FMAX of a rail: the highest effective value of its cores without source SLOT (06 R192). -/
def State.vfReq (s : State) (r : Nat) : Nat :=
  (s.railCores r).foldl (fun b lp => max b (lowest ((s.coreSources lp.1 lp.2).filter fun x => !Nat.beq x.1 3)).2) 0

/-- The slot that SLOT_MODE gives a rail for the mode (06 R192, R203). -/
def State.modeSlot (s : State) (r : Nat) : Nat := s.par Sec.mode 0x0005 r s.mode 1 0 % 8

/-- The index of the first entry whose FMAX is at least the requested one, or of the last (06 R192). -/
def vfWanted (l : List (Nat × Nat)) (req : Nat) : Nat :=
  match l.findIdx? (fun e => Nat.ble req e.2) with
  | some i => i
  | none => l.length - 1

/-- Each entry keeps the stamp since which every request has stayed at or below its FMAX: those from want on keep or take one, those
below it have none (06 R192). -/
def State.slowFrom (s : State) (r want : Nat) : State :=
  s.each (List.range 8) fun s e =>
    if e < want then s.setV .slowSlot (-1) r e
    else s.when (decide (s.v .slowSlot r e < 0)) fun s => s.setV .slowSlot s.time r e

/-- The selection of a rail in RUN (06 R192; 10 R313): a higher entry at once, with the cores held at the present one until its target
is reached, a lower one after 1 ms; a rail whose slot is no entry takes the wanted one at once (log entry 40). -/
def State.vfRail (s : State) (r : Nat) : State :=
  let l := s.vfList r
  if !Nat.beq s.mode 0 || l.isEmpty then ((s.slowFrom r 8).slotHold r 256).selectSlot r (s.modeSlot r)
  else
    let want := vfWanted l (s.vfReq r)
    let go := (l.getD want (0, 0)).1
    let s := s.slowFrom r want
    match l.findIdx? (fun e => Nat.beq e.1 (s.rd F.RAIL_VSEL_SEL r)) with
    | none => s.selectSlot r go
    | some k =>
      let s := s.when (s.is F.RAIL_VSEL_DONE r) fun s => s.slotHold r (l.getD k (0, 0)).2
      if k < want then s.selectSlot r go else s.retarget r

/-- The selections of every controlled rail, in RUN (10 R313). -/
def State.vfRun (s : State) : State :=
  if s.pkg = Pkg.run then s.each s.ctlRails fun s r => s.vfRail r else s

/-- VF_SLOT_LOWER (06 R192): every request has stayed at or below a lower entry's FMAX for 1 ms; FMAX goes down to the lowest such
entry's, then the slot. -/
def State.vfLower (s : State) (r : Nat) : State :=
  let l := s.vfList r
  let low (e : Nat) : Bool := decide (0 ≤ s.v .slowSlot r e) && decide (s.v .slowSlot r e + 1000000 ≤ s.time)
  if s.pkg = Pkg.run && Nat.beq s.mode 0 then
    match l.findIdx? (fun e => Nat.beq e.1 (s.rd F.RAIL_VSEL_SEL r)), (List.range l.length).find? low with
    | some k, some e =>
      if e < k then (s.slotHold r (l.getD e (0, 0)).2).selectSlot r (l.getD e (0, 0)).1 else s
    | _, _ => s
  else s

/-- The ceilings of the present mode at the core clock ports of a leaf (06 R191, R198). -/
def State.modeCeil (s : State) (l : Nat) : State :=
  let s := s.each (s.cores l) fun s p => s.wr F.LEAF_CORE_MODE_CEIL (s.coreFmax l p s.mode) l p
  s.leafEff l

/-- The mode changes (06 R198, R200). -/
def State.modeTo (s : State) (m : Nat) : State :=
  let s := s.each s.leaves fun s l => s.leafAcct l
  let s := (s.wr F.HUB_MODE_MODE m).wr F.HUB_MODE_PENDING 0
  s.each (s.leaves.filter fun l => s.v .islFields (leafDom l) = 1) fun s l => s.modeCeil l

/-! ### The loader's side -/

/-- The result of the last check or apply (02 R71, IMG_STATUS); FAC_ALERT bit 1 (18 R561). -/
def State.ldrResult (s : State) (st : Status) (detail step off : Nat) : State :=
  let s := (s.wr F.IMG_STATUS_STATUS st.code).wr F.IMG_STATUS_DETAIL detail
  let s := (s.wr F.IMG_STATUS_STEP step).wr F.IMG_STATUS_FAIL_OFFSET off
  s.facAlert 1

/-- LOADER state. -/
def State.ldr (s : State) : Nat := s.rd F.IMG_STATUS_LOADER

/-- A bank of the image store. -/
def State.bank (s : State) (k : Nat) : Bank := if k = 0 then s.img.bank0 else s.img.bank1

/-- Set the certificate store (18 R562). -/
def State.setCert (s : State) (m : Mem) : State := { s with fac := { s.fac with cert := m } }

/-- Set a bank. -/
def State.setBank (s : State) (k : Nat) (b : Bank) : State :=
  if k = 0 then { s with img := { s.img with bank0 := b } } else { s with img := { s.img with bank1 := b } }

/-- The active and the staging bank. -/
def State.activeBank (s : State) : Nat := s.rd F.IMG_STATUS_ACTIVE_BANK
/-- The staging bank (02 R53). -/
def State.stageBank (s : State) : Nat := 1 - s.activeBank

/-- FALLBACK: the other bank holds an accepted full image that is not rejected (02, IMG_STATUS). -/
def State.fallbackShow (s : State) : State :=
  let b := s.bank s.stageBank
  s.wr F.IMG_STATUS_FALLBACK (b2n (b.accepted && !b.rejected))

/-- CANDIDATE_SELECT (02 R74): the first candidate bank of AON goes to VERIFY. -/
def State.candidate (s : State) : State :=
  let usable (k : Nat) : Bool := (s.bank k).accepted && !(s.bank k).rejected
  let pick := if s.ldr = 3 then some s.stageBank
    else if usable s.activeBank then some s.activeBank
    else if usable s.stageBank then some s.stageBank else none
  match pick with
  | none => s
  | some k =>
    let s : State := { s with img := { s.img with owner := none } }
    (((s.setV .imgCand k).pkgTo Pkg.verify 1).wr F.IMG_STATUS_LOADER 5).wr F.IMG_STATUS_OWNER_FAC 0

/-- The loader's holds end (02 R75): the loops it held. -/
def State.loopsUnhold (s : State) (l : List Nat) : State := s.each l fun s x => s.loopUnhold x

/-- RESET_TO_AON before tA, or during CHECKING, ends the loader's operation (02 R71, R76). -/
def State.ldrAborted (s : State) : State :=
  if s.ldr = 2 then (s.wr F.IMG_STATUS_LOADER 1).ldrResult .eImage 0x0F 0 0
  else if s.ldr = 4 then
    let s := match s.img.delta with | some d => s.loopsUnhold d.loops | none => s
    let s : State := { s with img := { s.img with delta := none } }
    (s.wr F.IMG_STATUS_LOADER 0).ldrResult .eImage 0x0F 0 0
  else s

/-! ### FAIL and trips -/

/-- The lowest bit of a mask, or 0xFF (12 R380; 17 R515). -/
def lowBit (m : Nat) : Nat := (bitList m 32).headD 0xFF

/-- The hottest temperature at the hub with its site: usable leaf reports, the hub's sites, and fresh stack updates
(17 R515; log entry 41). -/
def State.hottest (s : State) : Option (Int × Nat) :=
  let reps := (s.leaves.filter fun l => s.repUsable 0 l).map fun l => (s.v .repTemp l, s.vn .repSite l)
  let hub := (s.sitesOf hubDom).filterMap fun x => (s.siteTemp? x).map fun t => (t, x)
  (reps ++ hub).foldl (fun b x => match b with | none => some x | some y => if y.1 < x.1 then some x else some y) none

/-- The TRIP body (17 R515). -/
def State.tripBody (s : State) (cls prev : Nat) : List Byte × State :=
  let oc := s.rd F.CRUST_RAIL_OC
  let ov := s.rd F.CRUST_RAIL_OV
  let uv := s.rd F.CRUST_RAIL_UV_UV
  let r := lowBit (Nat.lor (Nat.lor oc ov) uv)
  let (h, s) := match s.hottest with
    | some x => (x, s)
    | none => let (x, s) := s.freshFree; (((x % 65536 : Nat), x / 65536 % 65536), s)
  let fast := sumNat (s.railNums.map fun r => s.rd F.RAIL_FUSED_FAST r)
  let b := leBytes 1 cls ++ leBytes 1 (getBits (s.reg .CRUST_LATCH) 0 7) ++ leBytes 1 prev
    ++ leBytes 1 (s.rd F.HUB_PKG_STATE_TRIPCOUNT) ++ leBytes 1 r ++ leBytes 3 0 ++ leBytes 8 s.time
    ++ leBytes 4 oc ++ leBytes 4 ov ++ leBytes 4 uv
    ++ leBytes 2 (if r = 0xFF then 0 else s.rd F.RAIL_STATE_VSENSE r) ++ leBytes 2 0
    ++ leBytes 4 (if r = 0xFF then 0 else s.rd F.RAIL_MEAS_CURRENT r) ++ leBytes 4 (min fast 0xFFFF_FFFF)
    ++ leBytes 2 (ofSigned 16 h.1) ++ leBytes 2 h.2 ++ leBytes 4 0
  (b, s)

/-- Write a TRIP or FAIL record to the record port and to the trip region (12 R367, R379; 17 R525). The trace frames carry the
record as it is before a ring numbers it. -/
def State.faultRecord (s : State) (typ : Nat) (body : List Byte) : State :=
  let body := (body ++ List.replicate 48 (0 : Byte)).take 48
  let r : Rec := { typ := typ, ctx := 0xFF, phase := 0xFF, time := s.time, body := body, rings := [] }
  (s.recordAt typ 0xFF 0xFF s.time body).trcTrip typ (recHeader r 0 0 1 ++ body)

/-- The link ports that are UP. -/
def State.upPorts (s : State) : List Nat := (List.range 8).filter fun n => s.portUp n

/-- The body of FAIL_NOTICE (12 R380). -/
def State.failNotice (s : State) (cls : Nat) : Nat :=
  let pkg := match s.dxl? with | some d => d.pkgId | none => 0
  pack [(0, 16, pkg), (16, 8, s.rd F.HUB_PKG_STATE_CAUSE), (24, 8, cls), (32, 8, s.rd F.HUB_PKG_STATE_TRIPCOUNT),
    (40, 8, lowBit (Nat.lor (s.rd F.CRUST_RAIL_OC) (s.rd F.CRUST_RAIL_OV))), (64, 64, s.time)]

/-- Resume each fenced channel whose far island stays up (03 R103). -/
def State.resumeUp (s : State) : State :=
  let ends := hubDom :: s.nodes.map nodeDom
  s.each (ends.flatMap fun d => s.childEnds d) fun s e =>
    match s.endChild e with
    | some c => if s.v .islHeld c = 0 then s.resumeEnd e else s
    | none => s

/-- Whether an ISL_RST waits for its drain or its fence (03 R103). -/
def State.islPlanned (s : State) : Bool := s.tree.any fun x => !(s.v .islPlan x.dom = 0)

/-- A ramp-down for DEEP_SLEEP that a wake, a trip or FAIL gives up (03 R103): the channels of islands that stay up resume. -/
def State.downGiveUp (s : State) : State :=
  if s.v .downFor = 2 then (((s.setV .downFor 0).setV .downNow (-1)).setV .downWait 0).resumeUp else s

/-- FAIL_ENTRY (12 R379). -/
def State.failEnter (s : State) (cause : Nat) : State :=
  let before := s.alertLow
  let tripped := s.pkg = Pkg.tripped
  let s := s.tripShow
  let s := (s.pkgTo Pkg.fail cause).stopOn
  let s := ((s.loopsLeave false).setV .rampNow (-1)).setV .resumeWait 0
  let s := s.downGiveUp
  let body := s.failNotice (if tripped then s.rd F.CRUST_LAST_CLASS else 0)
  let s := s.setV .failBody body
  let ups := s.upPorts
  let s := s.each ups fun s n => s.frameOut n Ft.failNotice body
  let n := s.spans.length
  let s := (s.each s.spans fun s o => s.spanBreak o Br.own none).syncFlush
  let s := s.leaseFail.event 0x4A 0
  let s := s.faultRecord 4 (leBytes 16 body ++ leBytes 1 (maskOf ups) ++ leBytes 1 ups.length ++ leBytes 2 n)
  s.alertRise before

/-- The controlled rails of a ramp-down (13 R415): all, or those that are not RETAINED for DEEP_SLEEP. -/
def State.downRails (s : State) (why : Nat) : List RailRec :=
  s.rails.filter fun x => !x.monitored && !(why = 2 && x.retained)

/-- The RAMP steps of a ramp-down below a step, highest first. -/
def State.downNext (s : State) (why : Nat) (below : Int) : Option Nat :=
  (s.downRails why).foldl (fun b x => if (x.rampStep : Int) < below then some (max (b.getD 0) x.rampStep) else b) none

/-- Start a step of the ramp-down: its islands are held, and its rails receive SEQ_OFF (13 R415). -/
def State.downStep (s : State) (why k : Nat) : State :=
  let rs := ((s.downRails why).filter fun x => Nat.beq x.rampStep k).map (·.rail)
  let s := (s.each rs fun s r => s.setV .railPlan 1 r).rstSync
  (s.setV .downNow k).each rs fun s r => s.seqOff r

/-- The hub child channels that the ramp-down fences (03 R103). -/
def State.downEnds (s : State) (why : Nat) : List ChEnd :=
  let gone := (s.downRails why).map (·.rail)
  (s.childEnds hubDom).filter fun e =>
    match s.endChild e with
    | some c => why = 1 || (s.subtree c).any fun d => (s.supplyRails d).any fun r => gone.contains r
    | none => false

/-- The queued writes that the ramp-down must see drained (18 R541): those to islands. -/
def State.drainDone (s : State) : Bool := s.posted.all fun w => !(Nat.ble 0x10_0000 w.addr && Nat.blt w.addr 0x60_0000)

/-- The end of RESET_TO_AON: halted rails go to OFF; AON, and its candidate (01 R40; 02 R74; 10 R318; 12 R374). -/
def State.aonEnter (s : State) : State :=
  let s := (s.setV .downFor 0).wr F.CRUST_STATUS_THERMTRIP 0
  let s := s.each s.ctlRails fun s r => s.haltClear r
  let s := (s.pkgTo Pkg.aon 5).rstSync
  s.candidate

/-- Whether no queued write targets an island or one beneath it (18 R541). -/
def State.islDrained (s : State) (d : Nat) : Bool :=
  s.posted.all fun w => match addrIsland w.addr with | some x => !s.beneath x d | none => true

/-- ISL_RST of a domain goes on (03 R103; 13 R407; 18 R541): its writes drain, the hub child channel above it is fenced with SCOPE 1,
it is held in reset, and the fenced channels whose far islands stay up resume. -/
def State.islPlanStep (s : State) (d : Nat) : State :=
  match s.hop hubDom d with
  | none => s.setV .islPlan 0 d
  | some c =>
    let e := s.parentEnd c
    let s := if s.v .islPlan d = 1 && s.islDrained d then (s.fenceIssue e 1).2.setV .islPlan 2 d else s
    if s.v .islPlan d = 2 && !Nat.beq (s.chSt e) Ch.fencing then
      let s := ((s.setV .islPlan 0 d).setV .islRst (s.time + 1) d).rstSync
      s.when (decide (s.v .downFor = 0) && !s.islPlanned) fun s => s.resumeUp
    else s

/-- Every ISL_RST that waits goes on. -/
def State.islPlanRun (s : State) : State :=
  s.each ((s.tree.map (·.dom)).filter fun d => !(s.v .islPlan d = 0)) fun s d => s.islPlanStep d

/-- The ramp-down goes on as far as it can (13 R415; 03 R103; 18 R541). -/
def State.downRun (s : State) (fuel : Nat) : State :=
  match fuel with
  | 0 => s
  | n + 1 =>
    let why := s.vn .downFor
    if why = 0 then s
    else if s.v .downWait = 1 then
      if s.drainDone then
        let s := s.each (s.downEnds why) fun s e => (s.fenceIssue e 1).2
        State.downRun (s.setV .downWait 2) n
      else s
    else if s.v .downWait = 2 then
      if (s.downEnds why).all fun e => !Nat.beq (s.chSt e) Ch.fencing then
        let s := (s.setV .downWait 0).stopOn
        match s.downNext why 256 with
        | some k => State.downRun (s.downStep why k) n
        | none => State.downRun (s.setV .downNow (-1)) n
      else s
    else
      let now := s.v .downNow
      let step := (s.downRails why).filter fun x => decide ((x.rampStep : Int) = now)
      if step.all fun x => s.railSt x.rail = Rs.off || s.railSt x.rail = Rs.halt then
        match s.downNext why now with
        | some k => State.downRun (s.downStep why k) n
        | none =>
          let s := s.setV .downNow (-1)
          if why = 1 then s.aonEnter else (s.setV .downFor 0).resumeUp
      else s

/-- Begin a ramp-down: with drain and fences, or the stop of CRUST without them (13 R415). -/
def State.downStart (s : State) (why : Nat) : State :=
  let s := (s.setV .downFor why).setV .rampNow (-1)
  if why = 3 then
    match s.downNext 3 256 with
    | some k => ((s.setV .downWait 0).downStep 3 k).downRun 64
    | none => s.setV .downFor 0
  else ((s.setV .downWait 1).setV .downNow (-1)).downRun 64

/-- CRUST_TRIP: a stopping class fires for some rails (12 R364 to R372). In AON and VERIFY the causes of R366 are only
latched. -/
def State.trip (s : State) (cls : Nat) (rs : List Nat) : State :=
  let before := s.alertLow
  let mask := maskOf rs
  let latch (s : State) : State :=
    let s := s.flag ⟨.CRUST_LATCH, cls - 1, 1⟩
    if cls = 1 then s.flag F.CRUST_RAIL_OC 0 0 mask
    else if cls = 2 then s.flag F.CRUST_RAIL_OV 0 0 mask
    else if cls = 3 then s.flag F.CRUST_RAIL_UV_UV 0 0 mask else s
  let pkg := s.pkg
  if pkg ≤ Pkg.verify then if pkg ≠ Pkg.off && (cls = 4 || cls = 5) then (latch s).alertRise before else s
  else
    let s := ((latch s).setV .tripLast (s.time + 1)).stopOn
    let same := Nat.beq (s.rd F.CRUST_LAST_STAMP) (s.time % 2 ^ 48) && !Nat.beq (s.rd F.CRUST_LAST_CLASS) 0
    let s := if cls = 1 || cls = 2 then s.each rs fun s r => s.haltReq r
      else if cls = 3 then
        s.each (rs.filter fun r => !s.monitored r) fun s r => s.setV .uvEnd (s.time + 1000 * s.ovuv r 6 2 20) r
      else s
    let s := s.when (cls = 4) fun s => s.wr F.CRUST_STATUS_THERMTRIP 1
    let counted := pkg ≠ Pkg.tripped && pkg ≠ Pkg.fail
    let s := s.setV .rampNow (-1)
    let s := s.downGiveUp
    let s := s.when counted fun s =>
      let s := (s.setV .resumeWait 0).pkgTo Pkg.tripped 7
      let s := s.loopsLeave false
      let k := s.vn .tripN
      ((s.setV .tripAt (s.time + 1) (k % 256)).setV .tripN (k + 1)).tripShow
    let s := (s.wr F.CRUST_LAST_CLASS (if same then min cls (s.rd F.CRUST_LAST_CLASS) else cls)).wr F.CRUST_LAST_STAMP s.time
    let s := s.riseStopAll.event 0x48 0
    let (b, s) := s.tripBody cls pkg
    let s := (s.faultRecord 3 b).trcTrigger 0xFE
    let s := s.when counted fun s => (s.each s.spans fun s o => s.breakSend o Br.own none).syncFlush
    let s := s.when ((cls = 4 || cls = 5) && !(s.v .downFor = 1) && !(s.v .downFor = 3)) fun s => s.downStart 3
    let s := s.when (counted && Nat.ble (s.tim 5 0 1 3) s.tripsIn.length) fun s => s.failEnter 8
    s.alertRise before

/-! ### RAMP -/

/-- The stopping classes now latched (12 R366, R371). -/
def State.stopLatched (s : State) : List Nat := ((List.range 6).filter fun k => bitOf (s.reg .CRUST_LATCH).toNat k).map (· + 1)

/-- Whether a rail is complete for its step (13 R412, R414). -/
def State.rampOk (s : State) (x : RailRec) : Bool :=
  if x.monitored then s.is F.RAIL_STATE_PG x.rail else s.railSt x.rail = Rs.on

/-- The rails of the present step. -/
def State.rampStepRails (s : State) : List RailRec := s.rails.filter fun x => decide ((x.rampStep : Int) = s.v .rampNow)

/-- The lowest RAMP_STEP above a step. -/
def State.rampNext (s : State) (above : Int) : Option Nat :=
  s.rails.foldl (fun b x => if above < (x.rampStep : Int) then some (match b with | some y => min y x.rampStep | none => x.rampStep)
    else b) none

/-- The stamp at which a rail of the present step is due its SEQ_ON: the first step starts at once (13 R412). -/
def State.seqDue (s : State) (x : RailRec) : Int :=
  s.v .rampAt + (if s.v .rampFirst = 1 then 0 else (1000 * x.seqDly : Nat))

/-- Send SEQ_ON to the rails of the present step that are due it (13 R412, R414). -/
def State.seqDueOn (s : State) : State :=
  s.each (s.rampStepRails.filter fun x => !x.monitored && !(s.railSt x.rail = Rs.on) && decide (s.v .rampOn x.rail < 0)
      && decide (s.seqDue x ≤ s.time)) fun s x => (s.setV .rampOn s.time x.rail).seqOn x.rail

/-- Enter RUN (01 R40): the slots, the loops, the gates. -/
def State.runEnter (s : State) (cause : Nat) : State :=
  let s := (s.pkgTo Pkg.run cause).vfRun
  s.loopsRun.allEff

/-- Start a step of RAMP. -/
def State.rampStepTo (s : State) (k : Nat) (first : Bool) : State :=
  let s := ((s.setV .rampNow k).setV .rampAt s.time).setV .rampFirst (b2n first)
  (s.each s.rampStepRails fun s x => s.setV .rampOn (-1) x.rail).seqDueOn

/-- RAMP goes on as far as it can (13 R412). -/
def State.rampRun (s : State) (fuel : Nat) : State :=
  match fuel with
  | 0 => s
  | n + 1 =>
    if s.pkg = Pkg.ramp && decide (0 ≤ s.v .rampNow) && s.rampStepRails.all (fun x => s.rampOk x) then
      match s.rampNext (s.v .rampNow) with
      | some k => State.rampRun (s.rampStepTo k false) n
      | none => (s.setV .rampNow (-1)).runEnter 4
    else s

/-- Enter RAMP (01 R40; 12 R366, R370, R371; 13 R403): a latched stopping cause trips at once. -/
def State.rampEnter (s : State) (cause : Nat) : State :=
  let s := (s.downGiveUp.setV .downFor 0).setV .downNow (-1)
  -- a UV hold is measured from a trip; it does not outlive the package state of its trip (12 R373, R378)
  let s := s.each s.railNums fun s r => s.setV .uvEnd (-1) r
  let s := s.pkgTo Pkg.ramp cause
  let latched := s.stopLatched
  let clock := s.is F.CLK_STAT_ON_OSC 0 && !latched.contains 6
  if !latched.isEmpty || clock then s.each (latched ++ if clock then [6] else []) fun s c => s.trip c []
  else
    let s := s.stopOff
    match s.rampNext (-1) with
    | some k => (s.rampStepTo k true).rampRun 300
    | none => s.runEnter 4

/-- What the rails' and the channels' changes bring about: the next step of RAMP, of a ramp-down, or of an ISL_RST. -/
def State.pkgRun (s : State) : State := ((s.rampRun 300).downRun 300).islPlanRun

/-- RAMP_STEP_START (13 R412). -/
def execRampStepStart (t : Nat) (s : State) : Host.Outcome State Fault Refusal :=
  let s := s.start t
  .next (if s.pkg = Pkg.ramp then (s.seqDueOn).pkgRun else s)

/-- The start of a rail's STEP_TO (13 R413). -/
def State.stepStart (s : State) (x : RailRec) : Int :=
  if 0 ≤ s.v .rampOn x.rail then s.v .rampOn x.rail else s.v .rampAt + (1000 * x.seqDly : Nat)

/-- STEP_TIMEOUT (13 R413). -/
def execStepTimeout (t : Nat) (s : State) : Host.Outcome State Fault Refusal :=
  let s := s.start t
  let bad := s.rampStepRails.filter fun x => !s.rampOk x
  let late := bad.any fun x => decide (s.stepStart x + 1000000 * s.tim 0x20 0 2 10 ≤ s.time)
  .next (if s.pkg = Pkg.ramp && decide (0 ≤ s.v .rampNow) && late then
      (s.event 0x54 0).trip 3 (bad.map (·.rail))
    else s)

end Sys2Proof.Machine
end

