-- ==== Sys2Proof/Machine/RailCmd.lean ====
section
/-!
DEFINITION. The rail commands that may end a step of RAMP or of a ramp-down (10 R309 to R329; 13 R412, R415).
-/
namespace Sys2Proof.Machine

/-- RAIL_LOOP_SAMPLE (10 R311), with the conversion of VSENSE. -/
def execRailLoopSample (t r vs : Nat) (opn : Bool) (s : State) : Host.Outcome State Fault Refusal :=
  .next ((s.start t).loopSample r vs opn).pkgRun

/-- SLEW_STEP (10 R314). -/
def execSlewStep (t r : Nat) (s : State) : Host.Outcome State Fault Refusal :=
  .next ((s.start t).slewStep r).pkgRun

/-- MEAS_DONE (10 R319). -/
def execMeasDone (t r : Nat) (s : State) : Host.Outcome State Fault Refusal :=
  .next ((s.start t).measDone r).pkgRun

/-- TARGET_PG (10 R321). -/
def execTargetPg (t r : Nat) (s : State) : Host.Outcome State Fault Refusal :=
  .next ((s.start t).targetPg r).pkgRun

/-- PHASE_FAULT (10 R329). -/
def execPhaseFault (t p : Nat) (s : State) : Host.Outcome State Fault Refusal :=
  .next ((s.start t).phaseFault p).pkgRun

/-- SHED_DISABLE (10 R325). -/
def execShedDisable (t r : Nat) (s : State) : Host.Outcome State Fault Refusal :=
  .next ((s.start t).shedDisableAt r).pkgRun

/-- PHASE_CYCLE (10 R309): a channel's cycle start, with the cycle that ends there: the current that its stage showed as (ns since its
start, mA), its mean sample, whether the ADC was out of range, and whether its conversion had a fault (10 R329). -/
def execPhaseCycle (t p : Nat) (cur : List (Nat × Int)) (mean : Int) (range fault : Bool) (s : State) :
    Host.Outcome State Fault Refusal :=
  .next ((s.start t).phaseCycle p cur mean (range || fault)).pkgRun

end Sys2Proof.Machine
end

