-- ==== Sys2Proof/Machine/PkgCmd.lean ====
section
/-!
DEFINITION. The package commands (01 R40 to R47), their timers, the wake sources (14 R439, R440), the mode (06 R200), the wear
pass (06 R193, R194) and SLEEP's quiescence (13 R397).
-/
namespace Sys2Proof.Machine

/-- Reject a package command (01 R46). -/
def State.pkgReject (s : State) : Status × State := (.eRange, s.flag F.HUB_PKG_STATE_BADCMD)

/-- Accept a package command. -/
def State.pkgOk (s : State) : Status × State := (.ok, s)

/-- The leaves that hold their image fields. -/
def State.liveLeaves (s : State) : List Nat := s.leaves.filter fun l => s.v .islFields (leafDom l) = 1

/-! ### Wake sources -/

/-- Whether a wake entry triggers (14 R439). -/
def State.wakeOn (s : State) (k : Nat) : Bool :=
  let src := s.rd F.EVC_WAKE_SOURCE k
  s.is F.EVC_WAKE_EN k && s.srcDefined src && (s.srcLevel src || s.is F.EVC_SRC_STATE_PEND src)

/-- The wake entries that trigger. -/
def State.wakes (s : State) : List Nat := (List.range 32).filter fun k => s.wakeOn k

/-- The domain in which the level of an occurrence lies, by its event code and instance (14 R420, R422). -/
def State.levelDom (s : State) (code inst : Nat) : Nat :=
  let own (typ : Nat) : Nat := match s.inst? typ inst with | some x => x.owner | none => hubDom
  if [0x08, 0x09].contains code then leafDom inst
  else if code = 0x06 then s.parent inst
  else if [0x50, 0x51, 0x53].contains code then (unitDom inst).getD hubDom
  else if [0x1D, 0x1E].contains code then own 4
  else if [0x1F, 0x20].contains code then own 3
  else if [0x30, 0x31].contains code then own 8
  else if [0x40, 0x41, 0x42].contains code then
    if Nat.ble 0x8000 inst then match s.inst? 5 (inst - 0x8000) with | some x => x.owner | none => hubDom else own 7
  else if code = 0x43 then (if inst = 0xFFFE then hubDom else leafDom inst)
  else if code = 0x44 then own 5
  else if code = 0x1B then (if s.hasDom inst then inst else hubDom)
  else if [0x18, 0x19].contains code then match s.loop? inst with | some r => r.host | none => hubDom
  else hubDom

/-- Whether a domain loses its supply in DEEP_SLEEP: one of its non-MONITORED rails is not RETAINED (13 R408, R415). -/
def State.downInDeep (s : State) (d : Nat) : Bool :=
  (s.path d).any fun x => (s.supplyRails x).any fun r => match s.rail? r with | some y => !y.retained | none => false

/-- At entry to DEEP_SLEEP, an entry whose source's level lies in an island that is powered down cannot trigger (14 R440). -/
def State.wakeIgnore (s : State) : State :=
  s.each (List.range 32) fun s k =>
    let src := s.rd F.EVC_WAKE_SOURCE k
    let code := s.rd F.EVC_SRC_CFG_CODE src
    let inst := s.rd F.EVC_SRC_CFG_INSTANCE src
    if s.is F.EVC_WAKE_EN k && s.srcDefined src && flagKind code && !Nat.beq inst 0xFFFF && s.downInDeep (s.levelDom code inst)
    then (s.flag F.EVC_WAKE_IGNORED k).incSat F.EVC_STATUS_WAKE_IGN else s

/-- A SLEEP or DEEP_SLEEP entry is aborted (01 R43): each entry that triggers is SEEN. -/
def State.sleepAbort (s : State) : State :=
  (s.each s.wakes fun s k => s.flag F.EVC_WAKE_SEEN k).flag F.HUB_PKG_STATE_ABORTED

/-! ### The states' entries -/

/-- Select RET_SLOT on some rails (10 R313, R333). -/
def State.retSlots (s : State) (l : List Nat) : State :=
  s.each l fun s r => s.selectSlot r (s.rd F.RAIL_VSEL_RET_SLOT r)

/-- Entry to HOLD (01 R39; 06 R189). -/
def State.holdEnter (s : State) : State :=
  let s := (s.pkgTo Pkg.hold 5).setV .holdOut 0
  let s := s.loopsLeave false
  s.each s.liveLeaves fun s l => s.setV .leafFrozen 1 l

/-- HOLD ends in RUN (01 R40, R44; 06 R200; 10 R313). -/
def State.resumeRun (s : State) : State :=
  let s := s.when (s.is F.HUB_MODE_PENDING) fun s => s.modeTo (s.rd F.HUB_MODE_REQ)
  let s := s.each s.ctlRails fun s r => s.wr F.RAIL_VSEL_FW 0 r
  let out := s.v .holdOut = 1
  let s := (s.setV .resumeWait 0).setV .holdOut 0
  let s := (s.pkgTo Pkg.run 5).vfRun
  let s := s.loopsRun
  let s := s.when out fun s =>
    let s : State := { s with sentGrants := [] }
    s.each (hubDom :: s.nodes.map nodeDom) fun s d => s.splitAll d
  s.allEff

/-- Entry to SLEEP (01 R39; 13 R397). -/
def State.sleepEnter (s : State) : State :=
  let s := (s.pkgTo Pkg.sleep 5).loopsLeave true
  let s := s.retSlots s.ctlRails
  s.each s.liveLeaves fun s l =>
    (s.each (s.subGates l) fun s q => s.issueDrive l q).each (s.cores l) fun s p => s.setV .ccpQreq 1 l p

/-- SLEEP ends in RUN (01 R40; 13 R397). -/
def State.sleepWake (s : State) (cause : Nat) : State :=
  let s := s.each s.leaves fun s l =>
    s.each (s.cores l) (fun s p => ((s.setV .ccpQreq 0 l p).setV .ccpQack 0 l p).setV .ccpZero 0 l p)
  let s := s.each s.leaves fun s l => (s.leafAcct l).setV .engStop 0 l
  let s := (s.pkgTo Pkg.run cause).vfRun
  s.loopsRun.allEff

/-- Entry to DEEP_SLEEP (01 R39; 13 R415; 14 R440). -/
def State.deepEnter (s : State) : State :=
  let s := (s.pkgTo Pkg.deepSleep 5).loopsLeave false
  let s := s.retSlots ((s.rails.filter fun x => !x.monitored && x.retained).map (·.rail))
  s.wakeIgnore.downStart 2

/-- A wake from SLEEP or DEEP_SLEEP. -/
def State.wakeUp (s : State) (cause : Nat) : State :=
  if s.pkg = Pkg.sleep then s.sleepWake cause else if s.pkg = Pkg.deepSleep then s.rampEnter cause else s

/-- RECOVER as it is taken (12 R378). -/
def State.recoverRun (s : State) : State :=
  let s := (s.setV .resumeWait 0).wr F.CRUST_STATUS_THERMTRIP 0
  let s := s.each s.railNums fun s r => (s.haltClear r).setV .uvEnd (-1) r
  s.rampEnter 5

/-- Whether RECOVER is accepted in TRIPPED (06 R197; 12 R378). -/
def State.recoverOk (s : State) : Bool :=
  s.stopLatched.isEmpty && decide (s.v .tripLast - 1 + 1000 * (s.tim 4 0 4 100000 : Nat) ≤ (s.time : Int))

/-- Whether the present state lists a package command (01 R40, R46). -/
def State.pkgLists (s : State) (c : Nat) : Bool :=
  let st := s.pkg
  match c with
  | 1 | 3 | 4 => st = Pkg.run
  | 2 => st = Pkg.hold
  | 5 => st = Pkg.sleep || st = Pkg.deepSleep
  | 6 => st = Pkg.tripped && s.recoverOk
  | 7 => st = Pkg.run || st = Pkg.hold || st = Pkg.tripped
  | 8 => st = Pkg.hold || st = Pkg.tripped || st = Pkg.fail
  | _ => false

/-- What a listed package command does as it is taken (01 R40, R43, R44). -/
def State.pkgTake (s : State) (c : Nat) : State :=
  match c with
  | 1 => s.holdEnter
  | 2 => s.resumeRun
  | 3 => if s.wakes.isEmpty then s.sleepEnter else s.sleepAbort
  | 4 => if s.wakes.isEmpty then s.deepEnter else s.sleepAbort
  | 5 => s.wakeUp 5
  | 6 => s.recoverRun
  | 7 => s.failEnter 5
  | 8 => ((s.setV .resumeWait 0).ldrAborted).downStart 1
  | _ => s

/-- A package command (01 R40, R46, R47): its status and its effect. While a delta is being applied the package state is held: a
command waits for the end, but for RESET_TO_AON, which ends the apply (02 R75, R76; log entry 132). -/
def State.pkgCmd (s : State) (c : Nat) : Status × State :=
  if c = 0 then s.pkgOk
  else if s.v .downFor = 1 || !s.pkgLists c then s.pkgReject
  else if s.img.delta.isSome && c ≠ 8 then (s.setV .resumeWait (16 * s.v .resumeWait + c)).pkgOk
  else (s.pkgTake c).pkgOk

/-- The commands that wait for the end of a loader hold, oldest first. -/
def waitCmds (n fuel : Nat) : List Nat :=
  match fuel with
  | 0 => []
  | k + 1 => if n = 0 then [] else waitCmds (n / 16) k ++ [n % 16]

/-- The commands that waited for the end of a loader hold are taken, each where the state then lists it (01 R40; 02 R75). -/
def State.holdEnd (s : State) : State :=
  let l := waitCmds (s.vn .resumeWait) 64
  (s.setV .resumeWait 0).each l fun s c => if s.pkgLists c then s.pkgTake c else s

/-- PKG_CMD_NONE (01 R47). -/
def execPkgCmdNone (t : Nat) (p : Port) (s : State) : Host.Outcome State Fault Refusal :=
  .next ((s.start t).command p .HUB_PKG_CMD fun s => s.pkgCmd 0)

/-- HOLD (01 R40). -/
def execPkgHold (t : Nat) (p : Port) (s : State) : Host.Outcome State Fault Refusal :=
  .next ((s.start t).command p .HUB_PKG_CMD fun s => s.pkgCmd 1)

/-- RESUME (01 R40, R44). -/
def execPkgResume (t : Nat) (p : Port) (s : State) : Host.Outcome State Fault Refusal :=
  .next ((s.start t).command p .HUB_PKG_CMD fun s => s.pkgCmd 2)

/-- SLEEP (01 R40, R43). -/
def execPkgSleep (t : Nat) (p : Port) (s : State) : Host.Outcome State Fault Refusal :=
  .next ((s.start t).command p .HUB_PKG_CMD fun s => s.pkgCmd 3)

/-- DEEP_SLEEP (01 R40, R43; 13 R415). -/
def execPkgDeepSleep (t : Nat) (p : Port) (s : State) : Host.Outcome State Fault Refusal :=
  .next ((s.start t).command p .HUB_PKG_CMD fun s => s.pkgCmd 4)

/-- WAKE (01 R40). -/
def execPkgWake (t : Nat) (p : Port) (s : State) : Host.Outcome State Fault Refusal :=
  .next ((s.start t).command p .HUB_PKG_CMD fun s => s.pkgCmd 5)

/-- RECOVER (12 R378). -/
def execPkgRecover (t : Nat) (p : Port) (s : State) : Host.Outcome State Fault Refusal :=
  .next ((s.start t).command p .HUB_PKG_CMD fun s => s.pkgCmd 6)

/-- FAIL (01 R40). -/
def execPkgFail (t : Nat) (p : Port) (s : State) : Host.Outcome State Fault Refusal :=
  .next ((s.start t).command p .HUB_PKG_CMD fun s => s.pkgCmd 7)

/-- RESET_TO_AON (01 R40; 13 R415). -/
def execPkgResetToAon (t : Nat) (p : Port) (s : State) : Host.Outcome State Fault Refusal :=
  .next ((s.start t).command p .HUB_PKG_CMD fun s => s.pkgCmd 8)

/-- HOLD_TIMEOUT (01 R44). -/
def execHoldTimeout (t : Nat) (s : State) : Host.Outcome State Fault Refusal :=
  let s := s.start t
  .next (if s.pkg = Pkg.hold && s.v .holdOut = 0 && Nat.ble (s.vn .pkgAt + 1000000 * s.tim 7 0 4 100) s.time then
      let s := s.setV .holdOut 1
      let s := s.each s.liveLeaves fun s l => s.setV .safeHold 1 l
      (s.flag F.HUB_PKG_STATE_HOLD_TIMEOUT).event 0x02 0
    else s)

/-- QUEUE_DRAIN_DONE (18 R541). -/
def execQueueDrainDone (t : Nat) (s : State) : Host.Outcome State Fault Refusal :=
  .next (s.start t).pkgRun

/-- WAKE_TRIGGER (14 R439). -/
def execWakeTrigger (t k : Nat) (s : State) : Host.Outcome State Fault Refusal :=
  let s := s.start t
  let deep := s.pkg = Pkg.deepSleep
  .next (if (s.pkg = Pkg.sleep || deep) && Nat.ble k 31 && s.wakeOn k && !(deep && s.is F.EVC_WAKE_IGNORED k) then
      (s.flag F.EVC_WAKE_SEEN k).wakeUp 6
    else s)

/-- TRIP_LAPSE (01 R41). -/
def execTripLapse (t : Nat) (s : State) : Host.Outcome State Fault Refusal :=
  .next (s.start t).tripShow

/-- SLEEP_QUIESCE_DONE (13 R396, R397). -/
def execSleepQuiesceDone (t l : Nat) (s : State) : Host.Outcome State Fault Refusal :=
  let s := s.start t
  .next (if (s.pkg = Pkg.sleep || s.pkg = Pkg.fail) && s.leaves.contains l then (s.leafAcct l).setV .engStop 1 l else s)

/-- CCP_QACK (13 R397; 20 R586). -/
def execCcpQack (t l p : Nat) (s : State) : Host.Outcome State Fault Refusal :=
  let s := s.start t
  .next (if (s.cores l).contains p && s.v .ccpQreq l p = 1 then (s.setV .ccpQack 1 l p).setV .ccpZero 1 l p else s)

/-- FMAX_LAG (20 R585): an ageing report with AGE_VALID low (06 R193). -/
def execFmaxLag (t l p : Nat) (s : State) : Host.Outcome State Fault Refusal :=
  let s := s.start t
  .next (if (s.cores l).contains p then
      (s.flag F.LEAF_CORE_AGE_INVALID l p).event 0x1E (s.logicalOf 4 l p)
    else s)

/-- VF_SLOT_LOWER (06 R192). -/
def execVfSlotLower (t r : Nat) (s : State) : Host.Outcome State Fault Refusal :=
  .next ((s.start t).vfLower r)

/-- HUB_MODE_REQ (06 R200). -/
def State.modeReq (s : State) (m : Nat) : Status × State :=
  if !(s.pkg = Pkg.hold) || Nat.ble 3 m then (.eRange, s)
  else (.ok, (s.wr F.HUB_MODE_REQ m).wr F.HUB_MODE_PENDING (b2n (!Nat.beq m s.mode)))

/-- HUB_MODE_REQ (06 R200). -/
def execHubModeReq (t : Nat) (p : Port) (m : Nat) (s : State) : Host.Outcome State Fault Refusal :=
  .next ((s.start t).command p .HUB_MODE fun s => s.modeReq (m % 4))

/-! ### Wear -/

/-- The wear pass runs in this state (01 R51). -/
def State.wearRuns (s : State) : Bool := [Pkg.run, Pkg.hold, Pkg.sleep, Pkg.tripped, Pkg.fail].contains s.pkg

/-- The wear pass at one core clock port (06 R193). -/
def State.wearPort (s : State) (l p : Nat) (age : Option Nat) : State :=
  let n := s.logicalOf 4 l p
  match age with
  | none => (s.flag F.LEAF_CORE_AGE_INVALID l p).event 0x1E n
  | some a =>
    let s := s.wr F.LEAF_CORE_AGE a l p
    let floor := s.par Sec.mode 0x0007 n 0 1 (s.par Sec.mode 0x0002 n 3 1 0x28)
    if a < s.par Sec.mode 0x0006 n 0 1 5 && floor < s.vn .wear l p then
      let s := s.setV .wear (s.v .wear l p - 1) l p
      ((s.wr F.LEAF_CORE_WEAR (s.vn .wear l p) l p).coreEff l p).event 0x1D n
    else s

/-- A rail's RISE exposure window closes (09 R282). -/
def State.expoClose (s : State) (r : Nat) : State :=
  let s := s.wr F.RAIL_RISE_EXPO_LAST (s.rd F.RAIL_RISE_EXPO_EXPO r) r
  let s := (s.wr F.RAIL_RISE_EXPO_EXPO 0 r).setV .riseExpo 0 r
  s.wr F.RAIL_RISE_EXH 0 r

/-- WEAR_PASS (06 R193, R194), with the report of each core clock port: leaf, port, margin or invalid. -/
def execWearPass (t : Nat) (ages : List (Nat × Nat × Option Nat)) (s : State) : Host.Outcome State Fault Refusal :=
  let s := s.start t
  .next (if s.wearRuns && s.bgDue 4 then
      let s := s.bgStart 4
      let s := s.each ages fun s a =>
        if (s.cores a.1).contains a.2.1 && s.pathUpTo (leafDom a.1) then s.wearPort a.1 a.2.1 a.2.2 else s
      (s.each s.railNums fun s r => s.expoClose r).bgEnd 4
    else s)

end Sys2Proof.Machine
end

