-- ==== Sys2Proof/Machine/Crust.lean ====
section
/-!
DEFINITION. The CRUST causes, the power brake, and the clearing of latches (12 R364 to R377). Each cause is a command that tests
what its detector counts; a class whose bit is latched for the same rail, or latched at all, does not fire again.
-/
namespace Sys2Proof.Machine

/-- A class of a rail fires, unless it is latched for that rail (12 R364). -/
def State.railTrip (s : State) (cls r : Nat) (f : Fld) (c : Bool) : State :=
  if c && (s.rail? r).isSome && !(bitOf (s.rd f) r && bitOf (s.reg .CRUST_LATCH).toNat (cls - 1)) then (s.trip cls [r]).pkgRun else s

/-- OC_TRIP (10 R329; 12 R364). -/
def execOcTrip (t r : Nat) (s : State) : Host.Outcome State Fault Refusal :=
  let s := s.start t
  let peak := (s.railPhases r).any fun p => Nat.ble (s.railPar 0x0060 r 6 1 8) (s.vn .cbcRun p)
  let rail := Nat.ble (s.par Sec.timing 0x0011 r 2 1 4) (s.vn .ocCnt r)
  .next (s.railTrip 1 r F.CRUST_RAIL_OC ((peak || rail) && !s.monitored r))

/-- OV_TRIP (12 R364, R365). -/
def execOvTrip (t r : Nat) (s : State) : Host.Outcome State Fault Refusal :=
  let s := s.start t
  .next (s.railTrip 2 r F.CRUST_RAIL_OV (Nat.ble (s.ovuv r 2 1 2) (s.vn .ovCnt r)))

/-- UV_TRIP (12 R364, R365). -/
def execUvTrip (t r : Nat) (s : State) : Host.Outcome State Fault Refusal :=
  let s := s.start t
  .next (s.railTrip 3 r F.CRUST_RAIL_UV_UV (Nat.ble (s.ovuv r 3 1 4) (s.vn .uvCnt r)))

/-- UV_HALT_EXPIRY (12 R373): a conversion of the rail still counts toward UV at or after tE. -/
def execUvHaltExpiry (t r : Nat) (s : State) : Host.Outcome State Fault Refusal :=
  let s := s.start t
  .next (if decide (0 ≤ s.v .uvEnd r) && decide (2 * s.v .uvEnd r ≤ s.v .rlTick r) then
      let bad := Nat.blt 0 (s.vn .uvCnt r) && s.railSt r = Rs.on
      let s := s.setV .uvEnd (-1) r
      if bad then ((s.haltReq r).flag F.CRUST_STATUS_UV_HALTED).pkgRun else s
    else s)

/-- COOLANT_TRIP (12 R364, R366): COOLANT_OK has been low for COOL_FILT. -/
def execCoolantTrip (t : Nat) (s : State) : Host.Outcome State Fault Refusal :=
  let s := (s.start t).wr F.CRUST_STATUS_COOLANT_OK 0
  .next (if s.is F.CRUST_LATCH_COOLANT then s else s.trip 5 [])

/-- The domain that owns a body of 11 R344: a site, or 0x8000 + a stack port. -/
def State.bodyOwner (s : State) (n : Nat) : Option Nat :=
  if Nat.ble 0x8000 n then (s.inst? 5 (n - 0x8000)).map (·.owner) else (s.inst? 7 n).map (·.owner)

/-- The hub sees a thermal shutdown report (11 R345; 12 R364). -/
def State.thermalTrip (s : State) : State := if s.is F.CRUST_LATCH_THERMAL then s else s.trip 4 []

/-- ABS_TRIP (11 R345): a site's analog comparator. -/
def execAbsTrip (t n : Nat) (s : State) : Host.Outcome State Fault Refusal :=
  let s := s.start t
  .next (match s.bodyOwner n with
    | some d =>
      if n < 0x8000 && (d = hubDom || s.supplied d) then (s.flag F.TS_STAT_ABS_SEEN n).thermalTrip else s
    | none => s)

/-! ### The power brake -/

/-- The word of LEAF_BRAKE while the brake is in force (12 R375). -/
def State.brakeWord (s : State) : Nat :=
  pack [(0, 1, 1), (8, 9, s.par Sec.timing 0x0013 idxAll 0 2 64), (24, 8, s.par Sec.timing 0x0013 idxAll 2 1 0x28)]

/-- Write LEAF_BRAKE to every present leaf (12 R375, R376). -/
def State.brakeSend (s : State) (w : Nat) : State := s.each s.leaves fun s l => s.hubWrite (leafDom l) .LEAF_BRAKE 0 w

/-- A leaf takes LEAF_BRAKE (12 R375). -/
def State.brakeTake (s : State) (l w : Nat) : State :=
  let w := if bitOf w 0 then Nat.land w 0xFF01_FF01 else 0
  (s.setReg .LEAF_BRAKE (BitVec.ofNat 64 w) l).leafEff l

/-- BRAKE (12 R366, R375). -/
def execBrake (t : Nat) (s : State) : Host.Outcome State Fault Refusal :=
  let s := (s.start t).wr F.CRUST_STATUS_PWR_BRAKE_N 0
  .next (if s.pkg = Pkg.off || s.is F.CRUST_STATUS_BRAKE_ACTIVE then s
    else
      let before := s.alertLow
      let s := (s.wr F.CRUST_STATUS_BRAKE_ACTIVE 1).flag F.CRUST_LATCH_BRAKE
      ((s.brakeSend s.brakeWord).event 0x49 0).alertRise before)

/-- LEAF_BRAKE at a leaf (12 R375, R376). -/
def execLeafBrake (t l w : Nat) (s : State) : Host.Outcome State Fault Refusal :=
  let s := s.start t
  .next (if s.leaves.contains l && s.v .islHeld (leafDom l) = 0 then s.brakeTake l w else s)

/-- BRAKE_RELEASE (12 R376): PWR_BRAKE_N has been high for BRAKE_REL. -/
def execBrakeRelease (t : Nat) (s : State) : Host.Outcome State Fault Refusal :=
  let s := (s.start t).wr F.CRUST_STATUS_PWR_BRAKE_N 1
  .next (if s.is F.CRUST_STATUS_BRAKE_ACTIVE then (s.wr F.CRUST_STATUS_BRAKE_ACTIVE 0).brakeSend 0 else s)

/-! ### Clearing -/

/-- Whether every phase channel of a rail has FAULT_N high and is not FAULTED (12 R377). -/
def State.ocClear (s : State) (r : Nat) : Bool :=
  (s.railPhases r).all fun p => s.is F.PH_STAT_FAULT_N p && !Nat.beq (s.rd F.PH_STAT_PHST p) 3

/-- Whether a rail is in HALT or OFF, or no conversion counts toward the class (12 R377). -/
def State.vClear (s : State) (r : Nat) (cnt : Var) : Bool := s.railSt r = Rs.halt || s.railSt r = Rs.off || s.v cnt r = 0

/-- Whether the cause of a thermal trip is clear (11 R345). -/
def State.thermClear (s : State) (pins : Pins) : Bool :=
  !pins.absHigh && (s.insts.all fun x => !(Nat.beq x.typ 7 && s.is F.TS_STAT_SHUT_F x.logical))
    && (s.insts.all fun x => !(Nat.beq x.typ 5 && s.v .stkFlag x.logical 2 = 1))

/-- Whether every island out of reset runs on REFCLK with a good monitor (12 R377; 13 R404). -/
def State.clockClear (s : State) : Bool :=
  let on (u : Nat) : Bool := !s.is F.CLK_STAT_ON_OSC u && s.is F.CLK_STAT_MON_GOOD u
  on 0 && (s.tree.all fun x => Nat.beq x.kind 0 || !(s.v .islHeld x.dom = 0) || on (unitOf x.dom))

/-- The clear condition of a class (12 R377). -/
def State.classClear (s : State) (pins : Pins) (k : Nat) : Bool :=
  match k with
  | 0 => (bitList (s.rd F.CRUST_RAIL_OC) 32).all fun r => s.ocClear r
  | 1 => (bitList (s.rd F.CRUST_RAIL_OV) 32).all fun r => s.vClear r .ovCnt
  | 2 => (bitList (s.rd F.CRUST_RAIL_UV_UV) 32).all fun r => s.vClear r .uvCnt
  | 3 => s.thermClear pins
  | 4 => pins.coolOk
  | 5 => s.clockClear
  | _ => !s.is F.CRUST_STATUS_BRAKE_ACTIVE

/-- A W1C of CRUST_LATCH (12 R377). -/
def State.latchClear (s : State) (pins : Pins) (w : Nat) : State :=
  let before := s.alertLow
  let s := s.when pins.coolOk fun s => s.wr F.CRUST_STATUS_COOLANT_OK 1
  let w := clearBits w (s.justSet .CRUST_LATCH)
  let go := (List.range 7).filter fun k => bitOf w k && s.classClear pins k
  (s.each go fun s k => s.setReg .CRUST_LATCH (setBits (s.reg .CRUST_LATCH) k 1 0)).alertRise before

/-- The rails of a mask that keep their bit after a W1C (12 R377). -/
def keepBits (old w : Nat) (ok : Nat → Bool) : Nat := maskOf ((bitList old 32).filter fun r => !(bitOf w r && ok r))

/-- A W1C of CRUST_RAIL (12 R377). -/
def State.railClear (s : State) (w : Nat) : State :=
  let w := clearBits w (s.justSet .CRUST_RAIL)
  let oc := keepBits (s.rd F.CRUST_RAIL_OC) w fun r => s.ocClear r
  let ov := keepBits (s.rd F.CRUST_RAIL_OV) (w / 2 ^ 32) fun r => s.vClear r .ovCnt
  (s.wr F.CRUST_RAIL_OC oc).wr F.CRUST_RAIL_OV ov

/-- A W1C of CRUST_RAIL_UV (12 R377). -/
def State.railUvClear (s : State) (w : Nat) : State :=
  s.wr F.CRUST_RAIL_UV_UV (keepBits (s.rd F.CRUST_RAIL_UV_UV) (clearBits w (s.justSet .CRUST_RAIL_UV)) fun r => s.vClear r .uvCnt)

/-- CRUST_LATCH_CLEAR (12 R377). -/
def execCrustLatchClear (t : Nat) (p : Port) (w : Nat) (pins : Pins) (s : State) : Host.Outcome State Fault Refusal :=
  .next ((s.start t).command p .CRUST_LATCH fun s => (.ok, s.latchClear pins w))

end Sys2Proof.Machine
end

