-- ==== Sys2Proof/Machine/Clock.lean ====
section
/-!
DEFINITION. Clocks, resets and the time base (13 R391 to R410; 03 R106 to R108). A clock unit is named by its index of 13 R419.
-/
namespace Sys2Proof.Machine

/-! ### Clock units -/

/-- Whether a clock unit is present and powered (13 R419). -/
def State.unitOn (s : State) (u : Nat) : Bool :=
  match unitDom u with
  | some d => d = hubDom || (s.hasDom d && s.supplied d && !(Nat.ble s.pkg Pkg.verify))
  | none => Config.netlist.mirror

/-- The event of a clock unit, raised by its island (13 R394, R400 to R403). -/
def State.unitEvent (s : State) (u code : Nat) : State :=
  s.evFrom ((unitDom u).getD hubDom) code u

/-- The forced path selects the oscillator (13 R403). -/
def State.clkForce (s : State) (u : Nat) : State :=
  let s := ((s.wr F.CLK_STAT_ON_OSC 1 u).wr F.CLK_STAT_MUX_BUSY 0 u).setV .clkQuiet (s.time + 1 : Nat) u
  let s := s.setV .clkRet 0 u
  s.when (u = 0) fun s => (s.each s.railNums fun s r => s.shedAbort r).gridLost

/-- CLK_FAIL (13 R402, R403): clock unit u declares failure with a cause, at its island's time. -/
def execClkFail (t u cause : Nat) (s : State) : Host.Outcome State Fault Refusal :=
  let s := s.start t
  .next (if s.unitOn u && s.is F.CLK_OSC_CAL_VALID u && s.v .clkFailed u = 0 && Nat.ble 1 cause && Nat.ble cause 3
        && !(cause = 3 && s.is F.CLK_STAT_ON_OSC u) then
      let s := (s.clkForce u).setV .clkFailed 1 u
      let s := (s.wr F.CLK_STAT_FAIL_CAUSE cause u).wr F.CLK_STAT_FAIL_TIME (s.islNow ((unitDom u).getD hubDom)) u
      let s := (s.wr F.CLK_STAT_MON_GOOD 0 u).wr F.CLK_MON_GOOD_WIN 0 u
      let s := s.when (cause = 3) fun s => s.wr F.CLK_STAT_PLL_LOCK 0 u
      -- the count of the window that failed: a free value outside [950, 1,050] (log entry 5)
      let s := s.when (cause = 2) fun s =>
        let (x, s) := s.freshFree
        let y := x % (65536 - 101)
        s.wr F.CLK_MON_LAST_CNT (if y < 950 then y else y + 101) u
      let s := ((s.flag F.CLK_STAT_FAIL_SEEN u).incSat F.CLK_STAT_FAILS 1 u).unitEvent u 0x50
      if s.is F.CRUST_LATCH_CLOCK then s else s.trip 6 []
    else s)

/-- QUIET_PERIOD_END (13 R403): 16 oscillator cycles, of 5 ns at the least, after the failure. -/
def execQuietPeriodEnd (t u : Nat) (s : State) : Host.Outcome State Fault Refusal :=
  let s := s.start t
  .next (if Nat.ble (s.vn .clkQuiet u - 1 + 80) s.time then s.setV .clkQuiet 0 u else s)

/-- MUX_HUNG (13 R400). -/
def execMuxHung (t u : Nat) (s : State) : Host.Outcome State Fault Refusal :=
  let s := s.start t
  .next (if s.is F.CLK_STAT_MUX_BUSY u && Nat.ble (s.vn .muxAt u + 1500) s.time then
      (((s.clkForce u).wr F.CLK_CTRL_SEL 1 u).flag F.CLK_STAT_MUX_HUNG u).unitEvent u 0x51
    else s)

/-- Start an ordinary switch (13 R399). -/
def State.muxStart (s : State) (u sel : Nat) : State :=
  let s := (s.wr F.CLK_CTRL_SEL sel u).wr F.CLK_STAT_MUX_BUSY 1 u
  (s.setV .muxAt s.time u).setV .muxSel sel u

/-- A write of CLK_CTRL.SEL (13 R399). A SEL that the root already has starts no switch. -/
def State.clkSel (s : State) (u sel : Nat) : Status × State :=
  if !s.unitOn u then (.eAbsent, s)
  else if !([Pkg.aon, Pkg.verify, Pkg.hold, Pkg.tripped, Pkg.fail].contains s.pkg) then (.eRange, s)
  else if s.is F.CLK_STAT_MUX_BUSY u then (.eOverrun, s)
  else if Nat.beq (s.rd F.CLK_STAT_ON_OSC u) sel then (.ok, s.wr F.CLK_CTRL_SEL sel u)
  else (.ok, s.muxStart u sel)

/-- CLK_SEL (13 R399). -/
def execClkSel (t : Nat) (p : Port) (u sel : Nat) (s : State) : Host.Outcome State Fault Refusal :=
  .next ((s.start t).command p .CLK_CTRL (fun s => s.clkSel u (sel % 2)) u)

/-- CLK_CTRL.RECAL (13 R401; CLK_CTRL). -/
def State.recal (s : State) (u : Nat) : Status × State :=
  if !s.unitOn u then (.eAbsent, s)
  else if s.is F.CLK_STAT_ON_OSC u then (.eRange, s)
  else (.ok, s.setV .clkCal (s.time + 1 : Nat) u)

/-- RECAL (13 R401). -/
def execRecal (t : Nat) (p : Port) (u : Nat) (s : State) : Host.Outcome State Fault Refusal :=
  .next ((s.start t).command p .CLK_CTRL (fun s => s.recal u) u)

/-- A calibration that counted n oscillator cycles (13 R401). -/
def State.oscCal (s : State) (u n : Nat) : State :=
  let s := s.setV .clkCal 0 u
  let s := ((s.wr F.CLK_STAT_PLL_LOCK 1 u).wr F.CLK_STAT_PLL_RUN 1 u).wr F.CLK_STAT_OSC_RUN 1 u
  if 2400 ≤ n && n ≤ 4000 then
    let s := (s.wr F.CLK_OSC_OSC_KHZ (n * 50) u).wr F.CLK_OSC_INC (roundDiv (2 ^ 24 * 20000) n).toNat u
    let s := (s.wr F.CLK_MON_WIN (roundDiv n 2).toNat u).wr F.CLK_MON_GAP (roundDiv n 20).toNat u
    s.wr F.CLK_OSC_CAL_VALID 1 u
  else (s.wr F.CLK_OSC_CAL_VALID 0 u).unitEvent u 0x52

/-- OSC_CAL_DONE (13 R401), with the number of oscillator cycles counted over 20 µs. -/
def execOscCalDone (t u n : Nat) (s : State) : Host.Outcome State Fault Refusal :=
  let s := s.start t
  .next (if 0 < s.v .clkCal u && Nat.ble (s.vn .clkCal u - 1 + 20000) s.time && s.unitOn u then s.oscCal u n else s)

/-- MUX_SWITCH_COMPLETE (13 R399, R405). -/
def execMuxSwitchComplete (t u : Nat) (s : State) : Host.Outcome State Fault Refusal :=
  let s := s.start t
  .next (if s.is F.CLK_STAT_MUX_BUSY u then
      let sel := s.vn .muxSel u
      let s := (s.wr F.CLK_STAT_MUX_BUSY 0 u).wr F.CLK_STAT_ON_OSC sel u
      let s := s.when (sel = 0) fun s => s.setV .clkFailed 0 u
      let s := s.when (u = 0) fun s => if sel = 0 then s.gridBack else s.gridLost
      s.when (s.v .clkRet u = 1) fun s => (s.setV .clkRet 0 u).setV .clkCal (s.time + 1 : Nat) u
    else s)

/-- MON_GOOD (13 R404): the fourth good window has ended and the PLL is locked. LAST_CNT is a free value within the good range
(log entry 5). -/
def execMonGood (t u : Nat) (s : State) : Host.Outcome State Fault Refusal :=
  let s := s.start t
  .next (if s.unitOn u then
      let (x, s) := s.freshFree
      let s := ((s.wr F.CLK_STAT_PLL_LOCK 1 u).wr F.CLK_STAT_PLL_RUN 1 u).wr F.CLK_STAT_OSC_RUN 1 u
      let s := (s.wr F.CLK_MON_LAST_CNT (990 + x % 21) u).wr F.CLK_MON_GOOD_WIN (max 4 (s.rd F.CLK_MON_GOOD_WIN u)) u
      s.wr F.CLK_STAT_MON_GOOD 1 u
    else s)

/-- The clock units in tree order: the hub, the mirror hub, then the domains by level (13 R405). -/
def State.unitOrder (s : State) : List Nat :=
  0 :: 1 :: (List.range 8).flatMap fun k =>
    (s.tree.filter fun x => Nat.beq x.level k && !Nat.beq x.kind 0).map fun x => unitOf x.dom

/-- HUB_CLK_CMD.RETURN (13 R405). -/
def State.clkReturn (s : State) : State :=
  let s := s.wr F.HUB_CLK_CMD_PENDING 0
  s.each (s.unitOrder.filter fun u => s.is F.CLK_STAT_ON_OSC u) fun s u =>
    let reach := match unitDom u with | some d => d = hubDom || s.pathUpTo d | none => true
    if reach && s.is F.CLK_STAT_MON_GOOD u && s.is F.CLK_STAT_PLL_RUN u && s.is F.CLK_STAT_OSC_RUN u
        && !s.is F.CLK_STAT_MUX_BUSY u then (s.muxStart u 0).setV .clkRet 1 u
    else s.incWrap F.HUB_CLK_CMD_PENDING

/-- RETURN (13 R405). -/
def execClkReturn (t : Nat) (p : Port) (s : State) : Host.Outcome State Fault Refusal :=
  .next ((s.start t).command p .HUB_CLK_CMD fun s => (.ok, s.clkReturn))

/-! ### Resets of the hub -/

/-- The registers that a hub warm reset keeps whole (13 R406; 12 R384; 17 R528; 18 R542, R562). -/
def warmRegs : List Reg :=
  [.IMG_INFO, .IMG_ID, .IMG_FUSE, .RAIL_THETA_LO, .RAIL_THETA_HI, .STR_W0, .STR_W1, .STR_W2, .STR_W3, .STR_W4, .STR_W5, .STR_W6,
   .STR_W7, .CRUST_LATCH, .CRUST_LAST, .CRUST_RAIL, .CRUST_RAIL_UV, .CRUST_STATUS, .RST_STATUS, .HUB_PKG_STATE, .HOST_STATUS,
   .TS_CAL, .TRC_STATUS, .TRC_PTR, .TRC_LOSS, .ID_STATUS, .ID_PUBKEY, .CLK_CTRL, .CLK_STAT, .CLK_MON, .CLK_OSC, .CLK_TB,
   .IMG_STATUS, .MIR_STATUS]

/-- The variables that a hub warm reset keeps. -/
def warmVars : List Var :=
  [.kTheta, .kP, .wear, .tripAt, .tripN, .muxAt, .muxSel, .clkQuiet, .clkCal, .clkRet, .clkFailed, .fuseSvn, .certPtr, .keyDue,
   .trcSeq, .trcPost, .trcLoss, .dumpAt, .pkgAt, .pkgT, .priDone, .mirNoHub, .tripLast]

/-- The register port answers every outstanding request with E_ABSENT (18 R542). -/
def State.portsAbsent (s : State) : State := s.answerAbsent fun _ _ => true

/-- What a hub warm reset drops (13 R406). -/
def State.warmDrop (s : State) : State :=
  { s with
    regs := s.regs.filter fun p => warmRegs.contains p.1.n
    vars := s.vars.filter fun p => warmVars.contains p.1.n
    evt := State.reset.evt, trc := { s.trc with postEv := [] }, chan := State.reset.chan, grants := [], sentGrants := [], recs := [], recFly := none
    ringLoss := [], marks := [], sync := State.reset.sync, posted := [], latch := State.reset.latch, lanes := []
    mir := { State.reset.mir with cert := s.mir.cert, idStatus := s.mir.idStatus }
    img := { s.img with owner := none, active := none, items := [], delta := none, railOld := [], railPend := [] } }

/-- A hub warm reset, with its code in RST_STATUS.LAST (13 R406; 14 R441; 17 R505, R528; 18 R542). -/
def State.warm (s : State) (last : Nat) : State :=
  let s := s.portsAbsent
  let s := s.incSat F.HOST_STATUS_WRITES_LOST s.posted.length
  let hold := Nat.ble 1 s.trcState && !(s.trc.main.isEmpty && s.trc.trip.isEmpty)
  let s := s.when hold fun s => s.trcFreezeFor 4
  let s := s.warmDrop.activeShow
  let s := ((s.wr F.IMG_STATUS_LOADER 0).wr F.IMG_STATUS_OWNER_FAC 0).wr F.IMG_STATUS_PARAM_ECC 0
  let s := ((s.wr F.IMG_STATUS_STATUS 0).wr F.IMG_STATUS_DETAIL 0).wr F.IMG_STATUS_STEP 0
  let s := (s.wr F.IMG_STATUS_FAIL_OFFSET 0).wr F.CRUST_STATUS_UV_HALTED 0
  let s := (s.wr F.CRUST_STATUS_STOP 1).wr F.CRUST_STATUS_THERMTRIP 0
  let s := ((s.wr F.HUB_PKG_STATE_BADCMD 0).wr F.HUB_PKG_STATE_ABORTED 0).wr F.HUB_PKG_STATE_HOLD_TIMEOUT 0
  let s := ((s.wr F.HOST_STATUS_PQ_DEPTH 0).wr F.HOST_STATUS_PERR_SEEN 0).wr F.HOST_STATUS_RSPTO_SEEN 0
  let s := (s.wr F.RST_STATUS_LAST last).incSat F.RST_STATUS_WARM
  (s.wr F.RST_STATUS_BOOT_VSEL Config.straps.bootVsel).candidate

/-- RST_CMD WARM (13 R406). -/
def State.rstWarm (s : State) : Status × State := if s.pkg = Pkg.aon then (.ok, s.warm 1) else (.eRange, s)

/-- WARM (13 R406). -/
def execRstWarm (t : Nat) (p : Port) (s : State) : Host.Outcome State Fault Refusal :=
  .next ((s.start t).command p .RST_CMD State.rstWarm)

/-- TEST_MODE_ENTRY (13 R406): in AON only; the functional logic is held in reset. -/
def execTestModeEntry (t : Nat) (s : State) : Host.Outcome State Fault Refusal :=
  let s := s.start t
  .next (if s.pkg = Pkg.aon && s.v .testOn = 0 then (s.setV .testOn 1).portsAbsent else s)

/-- TEST_MODE_EXIT (13 R406). -/
def execTestModeExit (t : Nat) (s : State) : Host.Outcome State Fault Refusal :=
  let s := s.start t
  .next (if s.v .testOn = 1 then (s.setV .testOn 0).warm 2 else s)

/-- Everything cleared: only the queue, what the command sends, the count of free values and the stamp stand. -/
def State.blank (s : State) : State := { State.reset with free := s.free, pending := s.pending, out := s.out, time := s.time }

/-- The block without its always-on supply (01 R40; 13 R406): fuses stay. A COMMIT_SVN that was running leaves the fused SVN at a
free value between the old and the new (02 R70; log entry 5). -/
def State.supplyLost (s : State) : State :=
  let fused := s.rd F.IMG_FUSE_FUSED_SVN
  let want := s.rd F.IMG_INFO_SVN
  let mid := s.is F.IMG_STATUS_FUSING && Nat.blt fused want
  let (x, s) := if mid then s.freshFree else (0, s)
  let svn := if mid then fused + x % (want - fused + 1) else fused
  let z := s.blank.when (!(s.v .fuseSvn < 0) || mid) fun z => (z.setV .fuseSvn svn).wr F.IMG_FUSE_FUSED_SVN svn
  (z.wr F.HUB_PKG_STATE_STATE Pkg.off).wr F.CRUST_STATUS_STOP 0

/-- AON_SUPPLY_LOSS (01 R40; 13 R406). -/
def execAonSupplyLoss (t : Nat) (s : State) : Host.Outcome State Fault Refusal :=
  .next (s.start t).supplyLost

/-- POWER_ON_RESET_END (13 R392, R410), with the count of the hub's oscillator calibration: the time base starts at 0. -/
def execPowerOnResetEnd (t n : Nat) (s : State) : Host.Outcome State Fault Refusal :=
  let s := s.start t
  .next (if s.pkg = Pkg.off then
      let z := ({ s.blank with time := 0 } : State).when (decide (0 ≤ s.v .fuseSvn)) fun z => (z.setV .fuseSvn (s.v .fuseSvn)).wr F.IMG_FUSE_FUSED_SVN (s.vn .fuseSvn)
      ((z.wr F.HUB_PKG_STATE_STATE Pkg.aon).oscCal 0 n).candidate
    else s)

/-! ### Resets of islands -/

/-- RST_CMD ISL_RST of a domain (13 R407): queued writes drain and its channel is fenced first (03 R103; 18 R541). -/
def State.islReset (s : State) (d : Nat) : Status × State :=
  if !([Pkg.hold, Pkg.tripped, Pkg.fail].contains s.pkg) || d = hubDom then (.eRange, s)
  else if !s.hasDom d then (.eAbsent, s)
  else (.ok, (s.setV .islPlan 1 d).islPlanRun)

/-- ISL_RST (13 R407). -/
def execIslRst (t : Nat) (p : Port) (d : Nat) (s : State) : Host.Outcome State Fault Refusal :=
  .next ((s.start t).command p .RST_CMD fun s => s.islReset d)

/-- ISL_RST_END (13 R407): tIRST, of 1 µs at the least (R418), has passed. -/
def execIslRstEnd (t d : Nat) (s : State) : Host.Outcome State Fault Refusal :=
  let s := s.start t
  .next (if Nat.ble (s.vn .islRst d - 1 + 1000) s.time then s.setV .islRst 0 d else s)

/-- ISLAND_RELEASE (13 R408, R409): its PLL locks and calibrates where it is not locked. -/
def execIslandRelease (t d : Nat) (s : State) : Host.Outcome State Fault Refusal :=
  let s := s.start t
  .next (if s.hasDom d && !(d = hubDom) && s.v .islHeld d = 1 && !s.rstHeld d
        && (s.parent d = hubDom || s.v .islHeld (s.parent d) = 0) then
      let s := ((s.setV .islHeld 0 d).setV .islRel s.time d).setV .keyUp 1 d
      let u := unitOf d
      s.when (!s.is F.CLK_STAT_PLL_LOCK u) fun s => s.setV .clkCal (s.time + 1 : Nat) u
    else s)

/-- ISL_NOSTART (13 R409). -/
def execIslNostart (t d : Nat) (s : State) : Host.Outcome State Fault Refusal :=
  let s := s.start t
  .next (if s.v .islHeld d = 0 && s.v .islAlive d = 0 && decide (0 ≤ s.v .islRel d) && decide (s.v .islRel d + 200000 ≤ s.time) then
      (s.setV .islRel (-1) d).event 0x0A d
    else s)

/-! ### The time base -/

/-- The payload of TIME (13 R393). -/
def timePayload (delay usec : Nat) : Nat := pack [(56, 8, delay), (0, 54, usec)]

/-- Send TIME on each child channel of a domain, with the round trips measured, by child (13 R393; 03 R106): a node engine on those
that take it; the hub on all, where the guard drops what it cannot send and counts it (03 R99). -/
def State.timeOut (s : State) (d : Nat) (rts : List (Nat × Nat)) : State :=
  s.each (s.children d) fun s c =>
    let e := s.parentEnd c
    if s.canSend e Mt.timeMsg then
      let rt := match rts.find? (fun x => Nat.beq x.1 c) with | some x => x.2 | none => 0
      let delay := if s.v .timeSent (endNum e) = 0 then 0 else min 255 (rt / 2)
      (s.setV .timeSent 1 (endNum e)).send e Mt.timeMsg (timePayload delay ((s.islTime d).toNat / 1000))
    else s.when (d = hubDom) fun s => s.send e Mt.timeMsg (timePayload 0 (s.time / 1000))

/-- TIME_SEND (13 R393; 03 R106): the hub at each multiple of 1,000 ns, a node engine at the first of its own time base after each
TIME from its parent. -/
def execTimeSend (t d : Nat) (rts : List (Nat × Nat)) (s : State) : Host.Outcome State Fault Refusal :=
  let s := s.start t
  .next (if d = hubDom then (if s.hubUp && Nat.beq (s.time % 1000) 0 then s.timeOut d rts else s)
    else if isNode d && s.v .islHeld d = 0 && !(s.v .timeFwd (domNum d) = 0) && s.islTime d % 1000 = 0 then
      (s.setV .timeFwd 0 (domNum d)).timeOut d rts
    else s)

/-- An island takes a TIME (13 R394; 03 R106, R108), with its own time at capture: it loads the reference the first time, and corrects
by a deviation above 1 ns from then on, in place of what was still outstanding. -/
def State.timeTake (s : State) (d delay usec cap : Nat) : State :=
  let u := unitOf d
  let ref : Int := (1000 * usec + delay + 2 : Nat)
  let err : Int := ref - (cap : Int)
  let first := decide (s.v .tbSet d = 0)
  let s := (s.wrI F.CLK_TB_ERR (satS 32 err) u).wr F.CLK_TB_DELAY delay u
  let s := (s.setV .tbOff ((if first then ref else (cap : Int)) - s.time) d).setV .tbAt s.time d
  let s := s.setV .tbErr (if first || err.natAbs ≤ 1 then 0 else err) d
  let s := if first then (s.setV .tbSet 1 d).flag F.CLK_STAT_TB_STEP u
    else s.when (decide (64 < err.natAbs)) fun s => (s.flag F.CLK_STAT_TB_ERR u).unitEvent u 0x53
  if isLeaf d then
    let n := domNum d
    let s := s.setV .timeAt s.time n
    s.when (s.v .safeSil n = 1) fun s => (s.setV .safeSil 2 n).evFrom d 0x09 n
  else s.setV .timeFwd (s.time + 1) (domNum d)

/-- TIME (13 R394); one that comes up a channel is dropped with CHAN_PROTO (03 R85). -/
def execTimeMsg (t : Nat) (e : ChEnd) (tag delay usec cap : Nat) (s : State) : Host.Outcome State Fault Refusal :=
  .next ((s.start t).deliver e tag fun s =>
    if endIsParent e then s.evFrom (endDom e) 0x05 (s.endInst e) else s.timeTake (endDom e) (delay % 256) usec cap)

/-- PARENT_SILENT (03 R107): also after a PARENT_BACK whose BUDGET has not come (03 R108). -/
def execParentSilent (t l : Nat) (s : State) : Host.Outcome State Fault Refusal :=
  let s := s.start t
  .next (if s.v .islHeld (leafDom l) = 0 && Nat.blt 0 (s.vn .timeAt l) && !(s.v .safeSil l = 1)
        && Nat.ble (s.vn .timeAt l + 50000) s.time then
      let s := (s.setV .safeSil 1 l).flag F.LEAF_CHAN_SILENT l
      (s.evFrom (leafDom l) 0x08 l).leafEff l
    else s)

end Sys2Proof.Machine
end

