-- ==== Sys2Proof/Machine/Thermal.lean ====
section
/-!
DEFINITION. Thermal sensing and management (11): conversions, thresholds and levels, bands and what they select, throttle cells,
stacks, calibration.
-/
namespace Sys2Proof.Machine

/-- A temperature of an item of the THERMAL section, 1/64 degree. -/
def State.thI (s : State) (key idx off : Nat) (dflt : Int) : Int := s.parI Sec.thermal key idx off 2 dflt

/-! ### Bands -/

/-- The edge E_k, k = 1 to 5 (11 R354). -/
def State.edge (s : State) (k : Nat) : Int := s.thI 1 idxAll (2 * (k - 1)) ([0, 2880, 5440, 6080, 6720].getD (k - 1) 0)

/-- The band that follows a new temperature (11 R354). -/
def State.bandNext (s : State) (b : Nat) (x : Int) : Nat :=
  let h := s.thI 2 idxAll 0 128
  match ((List.range 6).reverse.find? fun k => Nat.blt b k && decide (s.edge k ≤ x)) with
  | some k => k
  | none =>
    match (List.range 6).find? fun k => Nat.blt k b && decide (x < s.edge (k + 1) - h) with
    | some k => k
    | none => b

/-! ### The guard band -/

/-- GB[r][b] (11 R356). -/
def State.gbOf (s : State) (r b : Nat) : Int := s.parI Sec.thermal 0x0050 r b 1 0

/-- G of a rail and the band that gives it, over the present leaves that estimate for it (11 R356). -/
def State.gbForm (s : State) (r : Nat) : Int × Nat :=
  let leaves := (s.railLeaves r).filter fun l => s.pathUpTo (leafDom l)
  if leaves.isEmpty then let b := s.rd F.THM_STATUS_HUB_BAND; (s.gbOf r b, b)
  else
    let bands := leaves.map fun l => if s.repUsable 0 l then s.vn .repBand l else 5
    bands.foldl (fun best b =>
      let g := s.gbOf r b
      if best.1 < g || (best.1 = g && best.2 < b) then (g, b) else best) (-129, 0)

/-- The guard-band offset of a rail is formed again (11 R356; 10 R314). -/
def State.gbRail (s : State) (r : Nat) : State :=
  let (g, b) := s.gbForm r
  let was := s.rdI F.RAIL_LIM_GB r
  let s := (s.wrI F.RAIL_LIM_GB g r).wr F.RAIL_LIM_BAND b r
  if was = g || s.monitored r then s else s.retarget r

/-- Every rail's guard-band offset. -/
def State.gbAll (s : State) : State := s.each s.railNums fun s r => s.gbRail r

/-! ### Levels and throttle cells -/

/-- The level of a set of flags (11 R344). -/
def levelOf (warn thr shut : Bool) : Nat := if shut then 3 else if thr then 2 else if warn then 1 else 0

/-- The stack port (leaf, port) of a logical stack. -/
def State.stackAt (s : State) (k : Nat) : Option (Nat × Nat) :=
  (s.inst? 5 k).map fun x => (domNum x.owner, x.physical % 32)

/-- The level of a leaf, or of the hub (11 R344, R346). -/
def State.levelFor (s : State) (d : Nat) : Nat :=
  let sites := (s.sitesOf d).map fun x => s.rd F.TS_STAT_LEVEL x
  if isLeaf d then
    let l := domNum d
    if s.is F.LEAF_THERM_LOSS l then 2
    else (sites ++ ((s.instsOf 5 d).map fun x => s.rd F.LEAF_STACK_LEVEL l (x.physical % 32))).foldl max 0
  else if s.v .hubLoss = 1 then 2 else sites.foldl max 0

/-- The level an owner now has. -/
def State.levelNow (s : State) (d : Nat) : Nat :=
  if isLeaf d then s.rd F.LEAF_THERM_LEVEL (domNum d) else s.rd F.THM_STATUS_HUB_LEVEL

/-- The governor's mask for k (11 R353). -/
def evenMask (n : Nat) : Nat := maskOf ((List.range 16).filter fun i => Nat.blt (i * n / 16) ((i + 1) * n / 16))

/-- The kept cycles of LEAF_THR_REQ (11 R353). -/
def govKept (k : Nat) : Nat := max 4 (roundDiv (16 * k : Nat) 256).toNat

/-- A register field of a throttle cell: at its leaf, or in the hub. -/
def cellF (hub : Bool) (a b : Fld) : Fld := if hub then b else a

/-- Where a throttle cell's register stands: whether in the hub, and its indices (02 R65; 11 R363). -/
def State.cellAt (s : State) (x : Nat) : Option (Bool × Nat × Nat) :=
  (s.inst? 6 x).map fun r =>
    if r.owner = hubDom then (true, r.physical % 64, 0) else (false, domNum r.owner, r.physical % 32)

/-- The inputs in force at a cell (11 R348): THROTTLE, governor, FIXED mask, as (DIV, mask). The FIXED mask of a leaf without
gates acts on the cell of the core's port number. -/
def State.cellInputs (s : State) (x : Nat) : Option (Nat × Nat) × Option (Nat × Nat) × Option (Nat × Nat) :=
  match s.inst? 6 x, s.cellAt x with
  | some r, some (hub, i, j) =>
    let div := s.rd (cellF hub F.LEAF_TCELL_THR_DIV F.HUB_TCELL_THR_DIV) i j
    let skip := s.rd (cellF hub F.LEAF_TCELL_THR_SKIP F.HUB_TCELL_THR_SKIP) i j
    let thr := if 2 ≤ s.levelNow r.owner then some (div, skip) else none
    let k := if hub then 256 else s.rd F.LEAF_THR_REQ_K i
    let gov := if s.is (cellF hub F.LEAF_TCELL_GOV F.HUB_TCELL_GOV) i j && Nat.blt k 256 then some (0, evenMask (govKept k)) else none
    let keep := s.vn .fixKeep i j
    let fix := if !hub && (s.gates i).isEmpty && (s.cores i).contains j && s.mode = 2 && Nat.blt keep 16 then some (0, evenMask keep)
      else none
    (thr, gov, fix)
  | _, _ => (none, none, none)

/-- Show which inputs are in force at a cell. -/
def State.cellShow (s : State) (x : Nat) : State :=
  match s.cellAt x with
  | none => s
  | some (hub, i, j) =>
    let (thr, gov, fix) := s.cellInputs x
    let s := s.wr (cellF hub F.LEAF_TCELL_THR_ACTIVE F.HUB_TCELL_THR_ACTIVE) (b2n thr.isSome) i j
    let s := s.wr (cellF hub F.LEAF_TCELL_GOV_ACTIVE F.HUB_TCELL_GOV_ACTIVE) (b2n gov.isSome) i j
    s.wr (cellF hub F.LEAF_TCELL_MODE_ACTIVE F.HUB_TCELL_MODE_ACTIVE) (b2n fix.isSome) i j

/-- The cells of a domain. -/
def State.cellsOf (s : State) (d : Nat) : List Nat := (s.instsOf 6 d).map (·.logical)

/-- A cell applies its effective setting (11 R348, R349). -/
def State.cellApply (s : State) (x : Nat) : State :=
  match s.cellAt x with
  | none => s
  | some (hub, i, j) =>
    let (thr, gov, fix) := s.cellInputs x
    let ins := thr.toList ++ gov.toList ++ fix.toList
    let div := ins.foldl (fun m y => max m y.1) 0
    let m := ins.foldl (fun m y => Nat.land m y.2) 0xFFFF
    let low := (bitList m 16).length < 4
    let s := s.when (!hub && Nat.beq j 0) fun s => s.leafAcct i
    let s := (s.cellShow x).wr (cellF hub F.LEAF_TCELL_DIV F.HUB_TCELL_DIV) div i j
    let s := s.wr (cellF hub F.LEAF_TCELL_FLOOR F.HUB_TCELL_FLOOR) (b2n low) i j
    s.wr (cellF hub F.LEAF_TCELL_SKIP F.HUB_TCELL_SKIP) (if low then 0x1111 else m) i j

/-- TCELL_APPLY (11 R349): the cell's count of input cycles is a multiple of 128. A leaf's cell leaves its reset value once the
leaf holds its image fields. -/
def execTcellApply (t x : Nat) (s : State) : Host.Outcome State Fault Refusal :=
  let s := s.start t
  .next (match s.inst? 6 x with
    | some r => if r.owner = hubDom || s.v .islFields r.owner = 1 then s.cellApply x else s
    | none => s)

/-- An owner's level follows its bodies (11 R344); a rise of the hub's is a cause of ALERT_N (18 R561). -/
def State.levelShow (s : State) (d : Nat) : State :=
  let v := s.levelFor d
  let rise := !isLeaf d && Nat.blt (s.levelNow d) v
  let s := if isLeaf d then s.wr F.LEAF_THERM_LEVEL v (domNum d) else s.wr F.THM_STATUS_HUB_LEVEL v
  (s.when rise fun s => s.facAlert 2).each (s.cellsOf d) fun s x => s.cellShow x

/-! ### Thresholds -/

/-- A body's flag of threshold j: 0 WARN, 1 THROTTLE, 2 SHUTDOWN. -/
def State.flagOf (s : State) (n j : Nat) : Bool :=
  if Nat.ble 0x8000 n then s.v .stkFlag (n - 0x8000) j = 1
  else s.is ([F.TS_STAT_WARN_F, F.TS_STAT_THR_F, F.TS_STAT_SHUT_F].getD j F.TS_STAT_WARN_F) n

/-- Set or clear a body's flag. -/
def State.flagPut (s : State) (n j : Nat) (b : Bool) : State :=
  if Nat.ble 0x8000 n then s.setV .stkFlag (b2n b) (n - 0x8000) j
  else s.wr ([F.TS_STAT_WARN_F, F.TS_STAT_THR_F, F.TS_STAT_SHUT_F].getD j F.TS_STAT_WARN_F) (b2n b) n

/-- A body's threshold and hysteresis (11 R344, R358). -/
def State.thrOf (s : State) (n j : Nat) : Int × Int :=
  if Nat.ble 0x8000 n then
    let k := n - 0x8000
    (s.thI 0x0040 k (4 * j) ([5760, 6400, 7040].getD j 0), s.thI 0x0040 k (4 * j + 2) ([128, 192, 320].getD j 0))
  else
    (s.rdI ([F.TS_THR_WARN, F.TS_THR_THROTTLE, F.TS_THR_SHUTDOWN].getD j F.TS_THR_WARN) n,
     s.rdI ([F.TS_HYST_WARN_HYST, F.TS_HYST_THR_HYST, F.TS_HYST_SHUT_HYST].getD j F.TS_HYST_WARN_HYST) n)

/-- A body's flag sets: its SEEN bit and its event, or the report of SHUTDOWN (11 R344, R345). -/
def State.flagRise (s : State) (d n j : Nat) : State :=
  let s := s.flagPut n j true
  if Nat.ble 0x8000 n then
    match s.stackAt (n - 0x8000) with
    | some (l, k) =>
      if j = 0 then (s.flag F.LEAF_STACK_WARN_SEEN l k).evFrom d 0x40 n
      else if j = 1 then (s.flag F.LEAF_STACK_THR_SEEN l k).evFrom d 0x41 n
      else s.thermalTrip
    | none => s
  else if j = 0 then (s.flag F.TS_STAT_WARN_SEEN n).evFrom d 0x40 n
  else if j = 1 then (s.flag F.TS_STAT_THR_SEEN n).evFrom d 0x41 n
  else (s.flag F.TS_STAT_SHUT_SEEN n).thermalTrip

/-- A body's level from its flags. -/
def State.bodyLevel (s : State) (n : Nat) : State :=
  let v := levelOf (s.flagOf n 0) (s.flagOf n 1) (s.flagOf n 2)
  if Nat.ble 0x8000 n then
    match s.stackAt (n - 0x8000) with
    | some (l, k) => s.wr F.LEAF_STACK_LEVEL v l k
    | none => s
  else s.wr F.TS_STAT_LEVEL v n

/-- A valid temperature meets threshold j of a body: the run below it for clearing (11 R344). -/
def State.flagLow (s : State) (n j : Nat) (x : Int) : State :=
  let (th, h) := s.thrOf n j
  if s.flagOf n j && x < th - h then
    let s := s.addV .tsLow 1 n j
    if 2 ≤ s.v .tsLow n j then (s.flagPut n j false).setV .tsLow 0 n j else s
  else s.setV .tsLow 0 n j

/-- The thresholds of a body at a valid temperature (11 R344, R358). -/
def State.bodyTemp (s : State) (d n : Nat) (x : Int) : State :=
  let s := s.each (List.range 3) fun s j =>
    let th := (s.thrOf n j).1
    let hot := decide (th ≤ x)
    let s := s.when (j = 2) fun s => s.setV .tsShut (if hot then s.v .tsShut n + 1 else 0) n
    let need := if j = 2 then decide ((s.par Sec.thermal 0x0013 idxAll 0 1 2 : Int) ≤ s.v .tsShut n) else true
    let s := s.flagLow n j x
    if hot && need && !s.flagOf n j then s.flagRise d n j else s
  s.bodyLevel n

/-- The flags of an owner's BAD sites follow its other sites (11 R360). -/
def State.badFlags (s : State) (d n : Nat) (x : Int) : State :=
  s.each ((s.sitesOf d).filter fun y => !Nat.beq y n && s.is F.TS_CAL_BAD y) fun s y =>
    (s.each (List.range 3) fun s j => s.flagLow y j x).bodyLevel y

/-! ### Conversions -/

/-- The ordinary sites that name a reference site. -/
def State.calSites (s : State) : List Nat :=
  ((s.insts.filter fun x => Nat.beq x.typ 7).map (·.logical)).filter fun x =>
    !s.is F.TS_CAL_REF x && !Nat.beq (s.rd F.TS_CAL_REF_SITE x) 0x3FF

/-- The states in which the calibration pass runs (01 R51). -/
def State.calRuns (s : State) : Bool :=
  [Pkg.run, Pkg.hold, Pkg.sleep, Pkg.deepSleep, Pkg.tripped, Pkg.fail].contains s.pkg

/-- Count a pair of a site (11 R342). -/
def State.pairCount (s : State) (x : Nat) : State :=
  if s.v .calN x < 8 then (s.addV .calN 1 x).addV .calSum (s.v .calCand x) x else s

/-- A valid conversion may complete a pair of a period (11 R342): hub sites have no leaf estimate and count at once; a leaf's
pair waits for the end of the period. -/
def State.pairTry (s : State) (n : Nat) : State :=
  if !s.is F.THM_STATUS_CAL_BUSY || !s.calRuns then s
  else
    s.each (s.calSites.filter fun x => Nat.beq x n || Nat.beq (s.rd F.TS_CAL_REF_SITE x) n) fun s x =>
      let r := s.rd F.TS_CAL_REF_SITE x
      let per := s.v .tsPer x
      if per = s.v .tsPer r && per = (s.time / 20000 : Nat) && per ≠ s.v .calOld x && per ≠ s.v .calOld r && s.v .calCandPer x ≠ per
          && (s.siteTemp? x).isSome && (s.siteTemp? r).isSome then
        let s := (s.setV .calCand (s.v .tsGood r - s.v .tsGood x) x).setV .calCandPer per x
        match s.inst? 7 x with
        | some y => if y.owner = hubDom then s.pairCount x else s
        | none => s
      else s

/-- A conversion period of a leaf has ended with its mean estimate: its candidate pairs count where the mean is below CAL_PMAX
(11 R342). -/
def State.periodRoll (s : State) (l : Nat) : State :=
  let per := s.v .tpPer l
  let ok := decide (0 < s.v .tpN l) && decide (s.v .tpSum l < (s.par Sec.thermal 0x0020 idxAll 4 4 3000 : Nat) * s.v .tpN l)
  let s := s.each ((s.sitesOf (leafDom l)).filter fun x => decide (s.v .calCandPer x = per) && decide (0 ≤ per)) fun s x =>
    (if ok && s.calRuns && s.is F.THM_STATUS_CAL_BUSY then s.pairCount x else s).setV .calCandPer (-1) x
  (s.setV .tpSum 0 l).setV .tpN 0 l

/-- A slot's estimate joins the mean of the leaf's conversion period in which the slot starts (11 R342). -/
def State.periodSlot (s : State) (l slot mw : Nat) : State :=
  let per : Int := (64 * slot / 20000 : Nat)
  let s := if s.v .tpPer l = per then s else (s.periodRoll l).setV .tpPer per l
  (s.addV .tpSum mw l).addV .tpN 1 l

/-- HUB_TEMP and the hub's band (11 R355). -/
def State.hubTemp (s : State) (fresh : Bool) : State :=
  match maxInt? ((s.sitesOf hubDom).filterMap fun x => s.siteTemp? x) with
  | none => s
  | some x =>
    let s := s.wrI F.THM_STATUS_HUB_TEMP x
    if fresh then
      let b := s.bandNext (s.rd F.THM_STATUS_HUB_BAND) x
      if Nat.beq b (s.rd F.THM_STATUS_HUB_BAND) then s else (s.wr F.THM_STATUS_HUB_BAND b).gbAll
    else s

/-- Sensor loss ends at the first valid conversion of an owner's sites (11 R346). -/
def State.lossEnd (s : State) (d : Nat) : State :=
  if isLeaf d then s.wr F.LEAF_THERM_LOSS 0 (domNum d) else s.setV .hubLoss 0

/-- The correction that a conversion of a site in the present period uses: the one before a change in this period (11 R360). -/
def State.corrOf (s : State) (n : Nat) : Int :=
  if s.v .calOld n = (s.time / 20000 : Nat) then s.v .calPrev n else s.rdI F.TS_CAL_OFS_CORR n

/-- Change a site's correction: what converts in this period still uses the old one (11 R343, R360). -/
def State.corrSet (s : State) (n : Nat) (c : Int) : State :=
  let per : Int := (s.time / 20000 : Nat)
  let s := s.when (!(s.v .calOld n = per)) fun s => (s.setV .calPrev (s.rdI F.TS_CAL_OFS_CORR n) n).setV .calOld per n
  s.wrI F.TS_CAL_OFS_CORR c n

/-- A conversion of a site completes with its raw result plus the fused trim (11 R338, R339). It is valid only if EN was 1 from the
period's start. -/
def State.conversion (s : State) (n d : Nat) (raw : Int) (fault : Bool) : State :=
  let per := s.time / 20000
  let x := satS 16 (raw + s.corrOf n)
  let ok := !fault && decide (-2560 ≤ x) && decide (x ≤ 9600) && !s.is F.TS_CAL_BAD n && Nat.ble (s.vn .tsEn n) (20000 * per + 1)
  let s := ((s.wrI F.TS_VAL_TEMP x n).wr F.TS_VAL_FAULT (b2n fault) n).wr F.TS_VAL_STAMP (s.islNow d) n
  let s := (s.incWrap F.TS_STAT_CONV 1 n).setV .tsDone (per + 1 : Nat) n
  if !ok then s.wr F.TS_VAL_VALID (b2n (s.siteTemp? n).isSome) n
  else
    let s := (((s.setV .tsGood x n).setV .tsGoodAt s.time n).setV .tsPer per n).setV .thGood s.time d
    let s := (s.wr F.TS_VAL_VALID 1 n).wrI F.TS_STAT_TMAX (max x (s.rdI F.TS_STAT_TMAX n)) n
    let s := ((s.lossEnd d).bodyTemp d n x).badFlags d n x
    let s := (s.levelShow d).pairTry n
    s.when (d = hubDom) fun s => s.hubTemp true

/-- TS_CONVERSION_DONE (11 R338, R339, R344): one conversion a period. -/
def execTsConversionDone (t n : Nat) (raw : Int) (fault : Bool) (s : State) : Host.Outcome State Fault Refusal :=
  let s := s.start t
  .next (match s.inst? 7 n with
    | some y =>
      if s.is F.TS_CTRL_EN n && (if y.owner = hubDom then s.hubUp else decide (s.v .islFields y.owner = 1)) && n < 0x8000
          && !(s.v .tsDone n = (s.time / 20000 + 1 : Nat)) then s.conversion n y.owner raw fault
      else s
    | none => s)

/-- CONVERSION_LAPSE (11 R339). -/
def execConversionLapse (t n : Nat) (s : State) : Host.Outcome State Fault Refusal :=
  let s := s.start t
  .next (if (s.siteTemp? n).isNone then (s.wr F.TS_VAL_VALID 0 n).hubTemp false else s)

/-- The latest stamp at which an owner's sites completed a valid conversion, or began to convert (11 R346). -/
def State.lastGood (s : State) (d : Nat) : Int := max (s.v .thGood d) (s.v .thFrom d)

/-- SENSOR_LOSS (11 R346) at a leaf or the hub. DEDUCED: STALE_MAX runs from the last valid conversion (log entry 144). -/
def execSensorLoss (t d : Nat) (s : State) : Host.Outcome State Fault Refusal :=
  let s := s.start t
  let l := domNum d
  let own := if isLeaf d then s.v .islFields d = 1 && !s.is F.LEAF_THERM_LOSS l else d = hubDom && s.v .hubLoss = 0
  .next (if own && !(s.sitesOf d).isEmpty && decide (s.lastGood d + 1000 * (s.par Sec.thermal 0x0014 idxAll 0 2 200 : Nat) ≤ s.time) then
      let s := s.each ((s.sitesOf d).filter fun x => s.is F.TS_CAL_BAD x) fun s x =>
        (s.each (List.range 3) fun s j => s.flagPut x j false).bodyLevel x
      let s := if isLeaf d then (s.wr F.LEAF_THERM_LOSS 1 l).flag F.LEAF_THERM_LOSS_SEEN l else s.setV .hubLoss 1
      (s.evFrom d 0x43 (if isLeaf d then l else 0xFFFE)).levelShow d
    else s)

/-! ### Leaf temperature and reports -/

/-- The leaf temperature, its site, and whether it is T_FALLBACK (11 R340). DESIGN CHOICE: of equally hot sites HOT_SITE names the lowest
(log entry 145). -/
def State.leafTempOf (s : State) (l : Nat) : Int × Nat × Bool :=
  let best (sites : List Nat) : Option (Int × Nat) :=
    sites.foldl (fun b x => match s.siteTemp? x, b with
      | some y, some z => if z.1 < y then some (y, x) else b
      | some y, none => some (y, x)
      | none, _ => b) none
  let named := (s.leafRails l).filterMap fun r => (s.leakTab? l r).map fun v => fieldAt v 0 2
  match best (s.sitesOf (leafDom l)) with
  | some (y, x) => (y, x, false)
  | none =>
    match best named with
    | some (y, x) => (y, x, false)
    | none => (s.parI Sec.estCoeff 0x000A l 0 2 0x1A40, 0x3FF, true)

/-- The payload of a TEMP report (11 R341). -/
def tempPayload (x : Int) (band level : Nat) (fb loss : Bool) (leaf seq site : Nat) : Nat :=
  pack [(60, 4, 1), (32, 16, ofSigned 16 x), (29, 3, band), (27, 2, level), (26, 1, b2n fb), (25, 1, b2n loss), (16, 9, leaf),
    (10, 6, seq), (0, 10, site)]

/-- LEAF_TEMP_PERIOD (11 R340, R341, R355, R356): once a period, after its last conversion. -/
def execLeafTempPeriod (t l : Nat) (s : State) : Host.Outcome State Fault Refusal :=
  let s := s.start t
  let per := s.time / 20000
  .next (if s.v .islFields (leafDom l) = 1 && !(s.v .ltPer l = (per + 1 : Nat)) then
      let s := s.setV .ltPer (per + 1 : Nat) l
      let (x, site, fb) := s.leafTempOf l
      let was := s.rd F.LEAF_THERM_BAND l
      let band := s.bandNext was x
      let s := ((s.wrI F.LEAF_THERM_TEMP x l).wr F.LEAF_THERM_BAND band l).wr F.LEAF_THERM_FALLBACK (b2n fb) l
      let s := (s.wr F.LEAF_THERM_HOT_SITE site l).levelShow (leafDom l)
      let s := if Nat.beq band was then s else s.each (s.leafDetectors l) fun s d => s.ddThr d
      s.sendUp (leafDom l) Mt.event (tempPayload x band (s.rd F.LEAF_THERM_LEVEL l) fb (s.is F.LEAF_THERM_LOSS l) l
        (per % 64) site)
    else s)

/-- A domain keeps a leaf's report (11 R341, R351). -/
def State.repKeep (s : State) (h l : Nat) (x : Int) (fb : Bool) : State :=
  ((s.setV .repTemp x l h).setV .repAt s.time l h).setV .repFallback (b2n fb) l h

/-- TEMP_REPORT (11 R341, R356). -/
def execTempReport (t : Nat) (e : ChEnd) (tag : Nat) (x : Int) (band level : Nat) (fb loss : Bool) (leaf seq site : Nat) (s : State) :
    Host.Outcome State Fault Refusal :=
  .next ((s.start t).deliver e tag fun s =>
    let d := endDom e
    if !endIsParent e then s.evFrom d 0x05 (s.endInst e)
    else if d = hubDom then
      let s := s.when (Nat.blt (s.vn .repLevel leaf) (min 3 level)) fun s => s.facAlert 2
      let s := (((s.repKeep 0 leaf x fb).setV .repBand (min 5 band) leaf).setV .repSite site leaf).setV .repLevel (min 3 level) leaf
      let s := s.setV .repLapsed 0 leaf
      s.each (s.leafRails leaf) fun s r => s.gbRail r
    else (s.repKeep (1 + domNum d) leaf x fb).sendUp d Mt.event (tempPayload x band level fb loss leaf seq site))

/-- REPORT_LAPSE (11 R356). -/
def execReportLapse (t l : Nat) (s : State) : Host.Outcome State Fault Refusal :=
  let s := s.start t
  .next (if s.repUsable 0 l then s else (s.setV .repLapsed 1 l).each (s.leafRails l) fun s r => s.gbRail r)

/-- LEAF_THR_REQ at a leaf (11 R352, R353). -/
def State.thrTake (s : State) (l k : Nat) : State :=
  let s := s.wr F.LEAF_THR_REQ_K (min 256 (k % 512)) l
  s.each (s.cellsOf (leafDom l)) fun s x => s.cellShow x

/-- LEAF_THR_REQ (11 R353). -/
def execLeafThrReq (t l k : Nat) (s : State) : Host.Outcome State Fault Refusal :=
  let s := s.start t
  .next (if s.leaves.contains l && s.v .islHeld (leafDom l) = 0 then (s.thrTake l k).emit (.status (leafDom l) .ok) else s)

/-! ### Stacks -/

/-- The band of a stack port with its refresh multiplier (11 R356, R359). -/
def State.stackBand (s : State) (l k b : Nat) : State :=
  (s.wr F.LEAF_STACK_BAND b l k).wr F.LEAF_STACK_MULT (s.par Sec.thermal 0x0051 idxAll b 1 ([0, 0, 0, 1, 2, 2].getD b 2)) l k

/-- STACK_UPDATE (11 R357, R358, R359): a valid update of a stack's temperature. -/
def execStackUpdate (t n : Nat) (x : Int) (s : State) : Host.Outcome State Fault Refusal :=
  let s := s.start t
  .next (match s.stackAt n with
    | some (l, k) =>
      if s.v .islFields (leafDom l) = 1 then
        let x := satS 16 x
        let s := ((s.wrI F.LEAF_STACK_TEMP x l k).wr F.LEAF_STACK_VALID 1 l k).wr F.LEAF_STACK_STAMP (s.islNow (leafDom l)) l k
        let s := (s.setV .stkAt s.time n).wr F.LEAF_STACK_STALE 0 l k
        let s := s.stackBand l k (s.bandNext (s.rd F.LEAF_STACK_BAND l k) x)
        (s.bodyTemp (leafDom l) (0x8000 + n) x).levelShow (leafDom l)
      else s
    | none => s)

/-- STK_STALE (11 R357). -/
def execStkStale (t n : Nat) (s : State) : Host.Outcome State Fault Refusal :=
  let s := s.start t
  .next (match s.stackAt n with
    | some (l, k) =>
      let d := leafDom l
      if s.v .islFields d = 1 && !s.is F.LEAF_STACK_STALE l k
          && decide (max (s.v .stkAt n) (s.v .thFrom d) + 1000 * (s.par Sec.thermal 0x0041 idxAll 0 2 2000 : Nat) ≤ s.time) then
        let s := ((s.wr F.LEAF_STACK_STALE 1 l k).flag F.LEAF_STACK_STALE_SEEN l k).wr F.LEAF_STACK_LEVEL 2 l k
        ((s.stackBand l k 5).evFrom d 0x44 n).levelShow d
      else s
    | none => s)

/-! ### Calibration -/

/-- CAL_PASS_START (11 R342). -/
def execCalPassStart (t : Nat) (s : State) : Host.Outcome State Fault Refusal :=
  let s := s.start t
  .next (if s.calRuns && s.bgDue 1 && !s.is F.THM_STATUS_CAL_BUSY then
      let s := ((s.bgStart 1).wr F.THM_STATUS_CAL_BUSY 1).setV .calAt s.time
      s.each s.calSites fun s x => ((s.setV .calN 0 x).setV .calSum 0 x).setV .calCandPer (-1) x
    else s)

/-- The sites that a pass corrects; in DEEP_SLEEP those of islands kept up (01 R51). -/
def State.passSites (s : State) : List Nat :=
  if s.pkg = Pkg.deepSleep then
    s.calSites.filter fun x => match s.inst? 7 x with | some y => !(y.owner = hubDom) && decide (s.v .islFields y.owner = 1) | none => false
  else s.calSites

/-- BAD_SITES (11, THM_STATUS). -/
def State.badShow (s : State) : State :=
  s.wr F.THM_STATUS_BAD_SITES ((s.insts.filter fun x => Nat.beq x.typ 7 && s.is F.TS_CAL_BAD x.logical).length)

/-- The end of a pass at one site (11 R343). -/
def State.calSite (s : State) (x : Nat) : State :=
  let n := s.vn .calN x
  let s := s.wr F.TS_CAL_PAIRS n x
  if n < 4 then s.incSat F.TS_CAL_MISSES 1 x
  else
    let step : Int := s.par Sec.thermal 0x0020 idxAll 2 2 16
    let lim := s.par Sec.thermal 0x0020 idxAll 0 2 256
    let d := roundDiv (s.v .calSum x - n * s.thI 0x0011 x 4 0) n
    let c := s.rdI F.TS_CAL_OFS_CORR x + clampInt (-step) step d
    if lim < c.natAbs then
      ((s.wr F.TS_CAL_BAD 1 x).flag F.TS_CAL_BAD_SEEN x).event 0x42 x
    else (s.corrSet x c).wr F.TS_CAL_CAL_VALID 1 x

/-- CAL_PASS_END (11 R342, R343). -/
def execCalPassEnd (t : Nat) (s : State) : Host.Outcome State Fault Refusal :=
  let s := s.start t
  let full := s.passSites.all fun x => decide (8 ≤ s.v .calN x)
  .next (if s.calRuns && s.is F.THM_STATUS_CAL_BUSY && (full || Nat.ble (s.vn .calAt + 1000000000) s.time) then
      let s := (s.each s.passSites fun s x => s.calSite x).wr F.THM_STATUS_CAL_BUSY 0
      ((s.incWrap F.THM_STATUS_CAL_PASSES).badShow).bgEnd 1
    else s)

/-- TS_CTRL.CAL_RST (11 R343). -/
def State.calRst (s : State) (n : Nat) : Status × State :=
  if (s.inst? 7 n).isNone then (.eAbsent, s)
  else (.ok, ((s.corrSet n 0).wr F.TS_CAL_BAD 0 n).badShow)

/-- CAL_RST (11 R343). -/
def execCalRst (t : Nat) (p : Port) (n : Nat) (s : State) : Host.Outcome State Fault Refusal :=
  .next ((s.start t).command p .TS_CTRL (fun s => s.calRst n) n)

end Sys2Proof.Machine
end

