-- ==== Sys2Proof/Machine/TraceCmd.lean ====
section
/-!
DEFINITION. The trace unit's commands and its port (17 R523 to R527).
-/
namespace Sys2Proof.Machine

/-- ARM's effect: the buffer is cleared, MARK ARM, to ARMED (17 R523). -/
def State.trcArm (s : State) : State :=
  let s : State := { s with trc := { s.trc with main := [], base := 0, trip := [] } }
  let s := ((s.setV .trcSeq 0).setV .trcPost 0).wr F.TRC_STATUS_TRIGS 0
  let s := ((s.wr F.TRC_STATUS_TRIPRECS 0).wr F.TRC_STATUS_CAUSE 0).wr F.TRC_STATUS_DROPPING 0
  let s := s.each (List.range 8) fun s k => (s.setV .trcLoss 0 k).wr F.TRC_LOSS_DROPPED 0 k
  let s := (s.wr F.TRC_STATUS_DUMPING 0).wr F.TRC_STATUS_STATE 1
  s.trcStore 0xD 0 0xFF s.time (s.markData 0) 0

/-- Whether the buffer may be read or dumped (17 R527). -/
def State.trcReadable (s : State) : Bool := s.trcState = 0 || s.trcState = 3

/-- A command of TRC_CTRL (17 R523, R527). -/
def State.trcCmd (s : State) (c : Nat) : Status × State :=
  let st := s.trcState
  match c with
  | 0 => (.ok, s)
  | 1 => if st = 0 || st = 3 then (.ok, s.trcArm) else (.eRange, s)
  | 2 => (.ok, (s.trcTrigger 0xFF).evtDrain 8)
  | 3 => if st = 0 then (.eRange, s) else if st = 3 then (.ok, s) else (.ok, (s.trcFreezeFor 2).evtDrain 8)
  | 4 => (.ok, s.wr F.TRC_STATUS_STATE 0)
  | 5 =>
    if !s.trcReadable || s.is F.TRC_STATUS_DUMPING then (.eOverrun, s)
    else (.ok, (s.wr F.TRC_STATUS_DUMPING 1).setV .dumpAt 0)
  | _ => (.eRange, s)

/-- ARM (17 R523). -/
def execTrcArm (t : Nat) (p : Port) (s : State) : Host.Outcome State Fault Refusal :=
  .next ((s.start t).command p .TRC_CTRL fun s => s.trcCmd 1)

/-- TRIG (17 R523). -/
def execTrcTrig (t : Nat) (p : Port) (s : State) : Host.Outcome State Fault Refusal :=
  .next ((s.start t).command p .TRC_CTRL fun s => s.trcCmd 2)

/-- FREEZE (17 R523). -/
def execTrcFreeze (t : Nat) (p : Port) (s : State) : Host.Outcome State Fault Refusal :=
  .next ((s.start t).command p .TRC_CTRL fun s => s.trcCmd 3)

/-- OFF (17 R523). -/
def execTrcOff (t : Nat) (p : Port) (s : State) : Host.Outcome State Fault Refusal :=
  .next ((s.start t).command p .TRC_CTRL fun s => s.trcCmd 4)

/-- DUMP (17 R527). -/
def execTrcDump (t : Nat) (p : Port) (s : State) : Host.Outcome State Fault Refusal :=
  .next ((s.start t).command p .TRC_CTRL fun s => s.trcCmd 5)

/-- A MARK frame of a DUMP replay, which the buffer does not store (17 R522, R527). -/
def State.dumpMark (s : State) (kind : Nat) : TFrame :=
  { cls := 0xD, kind := kind, src := 0xFF, seq := s.vn .trcSeq % 2 ^ 32, time := s.time, d0 := s.markData 0, d1 := 0, sent := true }

/-- Mark the first unsent frame of a list as sent. -/
def markSent : List TFrame → List TFrame
  | [] => []
  | f :: r => if f.sent then f :: markSent r else { f with sent := true } :: r

/-- The next frame that waits for the port: trip region first, then the main region, oldest first, then the replay up to its
last stored frame (17 R523, R527). -/
def State.trcNext (s : State) : Option TFrame :=
  match s.trc.trip.find? (fun f => !f.sent) with
  | some f => some f
  | none =>
    match s.trc.main.find? (fun f => !f.sent) with
    | some f => some f
    | none =>
      if !s.is F.TRC_STATUS_DUMPING then none
      else if s.vn .dumpAt = 0 then some (s.dumpMark 3)
      else (s.trc.main ++ s.trc.trip)[s.vn .dumpAt - 1]?

/-- The last beat of the waiting frame is taken (17 R521, R524). -/
def State.trcTake (s : State) : State :=
  match s.trcNext with
  | none => s
  | some f =>
    let s := s.emit (.trc f)
    if s.trc.trip.any fun f => !f.sent then { s with trc := { s.trc with trip := markSent s.trc.trip } }
    else if s.trc.main.any fun f => !f.sent then
      let s : State := { s with trc := { s.trc with main := markSent s.trc.main } }
      let s := s.trcSync
      (s.when (s.trcState = 1 || s.trcState = 2) fun s => s.trcDropUpdate.trcCount).evtDrain 8
    else s.addV .dumpAt 1

/-- TRC_FRAME_SENT (17 R524): only where the netlist connects the trace port and its clock runs (19 R573; 13 R396, R403). -/
def execTrcFrameSent (t : Nat) (s : State) : Host.Outcome State Fault Refusal :=
  let s := s.start t
  .next (if Config.netlist.trace && s.trcClk then s.trcTake else s)

/-- DUMP_DONE (17 R527): MARK DUMP_END goes out after every stored frame. -/
def execTrcDumpDone (t : Nat) (s : State) : Host.Outcome State Fault Refusal :=
  let s := s.start t
  .next (if s.is F.TRC_STATUS_DUMPING && s.trcClk && (s.trcNext).isNone then
      (s.emit (.trc (s.dumpMark 4))).wr F.TRC_STATUS_DUMPING 0
    else s)

/-- TRACE_STALL (17 R523, R526): the buffer freezes; in FROZEN sending stops. The timer holds while the state turns the clock off. -/
def execTraceStall (t : Nat) (s : State) : Host.Outcome State Fault Refusal :=
  let s := s.start t
  .next (if (s.trcNext).isSome && !s.trcOff then
      (s.when (s.trcState = 1 || s.trcState = 2) fun s => s.trcFreezeFor 3).evtDrain 8
    else s)

end Sys2Proof.Machine
end

