-- ==== Sys2Proof/Machine/Fields.lean ====
section
/-!
DEFINITION. The image fields (00, access code Img; 02 R74, R76, R77): what the image's items and structure set in the hub's and
the islands' registers, when a full image is accepted, when a delta is activated and when an island leaves reset.
-/
namespace Sys2Proof.Machine

/-- Drop listed registers, which then read their reset values. -/
def State.forget (s : State) (p : RegKey → Bool) : State := { s with regs := s.regs.filter fun x => !p x.1 }

/-- Drop listed variables. -/
def State.forgetV (s : State) (l : List Var) : State := { s with vars := s.vars.filter fun x => !l.contains x.1.n }

/-- Whether a domain's island-held registers may be loaded now: the hub, or an island that holds its image fields. -/
def State.loaded (s : State) (d : Nat) : Bool := d = hubDom || s.v .islFields d = 1

/-! ### Loops (05 R166, R173, R174) -/

/-- The registers of a loop that a reset of its host clears. -/
def loopRegs : List Reg :=
  [.LOOP_CTRL, .LOOP_CFG, .LOOP_SP, .LOOP_SP_MAX, .LOOP_OUT_LIM, .LOOP_INT_LIM, .LOOP_DEST, .LOOP_VAL, .LOOP_ERR, .LOOP_MANUAL,
   .LOOP_STAT, .LOOP_LAT, .LOOP_LATE, .LOOP_COUNT]

/-- The word of a LOOP_PARAMS item. -/
def State.loopWord (s : State) (key l dflt : Nat) : Word := BitVec.ofNat 64 (s.par Sec.loopParams key l 0 8 dflt)

/-- One item of a loop (05 R173; 06 R202). -/
def State.loadLoop (s : State) (key l : Nat) : State :=
  let lim := s.par Sec.loopParams 3 l 0 8 0
  match key with
  | 1 => s.setReg .LOOP_CFG (s.loopWord 1 l 0 &&& 0x0000FFFF01FFFF7F) l
  | 2 => s.wr F.LOOP_SP_SP (s.par Sec.loopParams 2 l 0 4 (s.par Sec.limits 1 l 0 4 0)) l
  | 3 => s.setReg .LOOP_OUT_LIM (s.loopWord 3 l 0) l
  | 4 => s.setReg .LOOP_INT_LIM (s.loopWord 4 l lim) l
  | 5 => s.setReg .LOOP_DEST (s.loopWord 5 l 0 &&& 0x00000000FFFF000F) l
  | _ => s.setReg .LOOP_MANUAL (s.loopWord 6 l (lim % 2 ^ 32) &&& 0x00000001FFFFFFFF) l

/-- SP_MAX (06 R202). -/
def State.loadSpMax (s : State) (l : Nat) : State := s.wr F.LOOP_SP_MAX_SP_MAX (s.par Sec.limits 1 l 0 4 0) l

/-- Whether the loader holds a loop for a delta (02 R75). -/
def State.ldrHolds (s : State) (l : Nat) : Bool := match s.img.delta with | some d => d.loops.contains l | none => false

/-- A loop as its image fields leave it: OPEN, with U from MANUAL, under the loader hold that stands (05 R163, R166). -/
def State.loopFresh (s : State) (l : Nat) : State :=
  let s := (s.forget fun k => loopRegs.contains k.n && Nat.beq k.i l).wr F.LOOP_CTRL_LDR_HOLD (b2n (s.ldrHolds l)) l
  let s := s.each (List.range 16) fun s k => s.setV .lpHub 0 l k
  let s := s.each [Var.lpCommit, .lpNom, .lpDue, .lpE0, .appliedMw] fun s x => s.setV x x.dflt l
  let s := (s.each [1, 2, 3, 4, 5, 6] fun s k => s.loadLoop k l).loadSpMax l
  let s := s.wr F.LOOP_VAL_U (s.rd F.LOOP_MANUAL_MANUAL l) l
  match s.loop? l with
  | some r => s.wr F.LOOP_CTRL_SLEEP_RUN (b2n r.sleepRun) l
  | none => s

/-- LOOP_SCHED of every loop, and the load of every engine (05 R148, R175). -/
def State.loopSched (s : State) : State :=
  let s := s.forget fun k => k.n = .LOOP_SCHED || k.n = .ENG_STATUS
  s.each s.loops fun s r =>
    let s := (s.wr F.LOOP_SCHED_ENGINE r.engine r.loop).wr F.LOOP_SCHED_PCLASS r.pclass r.loop
    let s := (s.wr F.LOOP_SCHED_HOST r.host r.loop).wr F.LOOP_SCHED_PHASE r.phase r.loop
    let e := s.loopEngine r.loop
    let load := sumNat ((s.loops.filter fun x => x.host = r.host && x.engine = r.engine).map fun x => 64000000 / periodNs x.pclass)
    (s.incSat F.ENG_STATUS_LOOPS 1 e).wr F.ENG_STATUS_LOAD (roundDiv (load : Int) 1000).toNat e

/-- The words of a band of a gain table in the image's items (05 R174). -/
def gainWords (v : List Byte) (b : Nat) : Word × Word :=
  (BitVec.ofNat 64 (fieldAt v (16 * b) 8), BitVec.ofNat 64 (fieldAt v (16 * b + 8) 8) &&& 0x00001F1FFFFFFFFF)

/-- Whether a loop of the items names a gain table (05 R173, R174). -/
def State.gainNamed (s : State) (items : List Item) (t : Nat) : Bool :=
  s.loops.any fun r => match findItem items Sec.loopParams 1 r.loop with | some v => Nat.beq (fieldAt v 1 1 % 128) t | none => Nat.beq t 0

/-- Every copy of a gain table returns to 0 (05 R174). -/
def State.gainDrop (s : State) (t : Nat) : State :=
  { s with
    regs := s.regs.filter fun x => !((x.1.n = .GT_A || x.1.n = .GT_B) && Nat.beq x.1.i t)
    vars := s.vars.filter fun x => !((x.1.n = .gtNodeA || x.1.n = .gtNodeB) && Nat.beq (x.1.i % 128) t) }

/-- A gain table: the item's bands where a loop names it, else 0; every copy of it takes them (05 R168, R174). -/
def State.loadGain (s : State) (t : Nat) : State :=
  let s := s.gainDrop t
  match s.item? Sec.gainTables 1 t with
  | some v =>
    if s.gainNamed s.img.items t then
      s.each (List.range 32) fun s b => (s.setReg .GT_A (gainWords v b).1 t b).setReg .GT_B (gainWords v b).2 t b
    else s
  | none => s

/-- The gain tables of a node engine's loops arrive with its image fields: its copies take the image's words (02 R77; 05 R168). -/
def State.gainCopies (s : State) (d : Nat) : State :=
  s.each ((s.loopsAt d).map fun l => s.par Sec.loopParams 1 l 1 1 0 % 128).eraseDups fun s t =>
    match s.item? Sec.gainTables 1 t with
    | some v => s.each (List.range 32) fun s b =>
        (s.gtNodeSet .GT_A d t b (gainWords v b).1).gtNodeSet .GT_B d t b (gainWords v b).2
    | none => s

/-- A delta that changes which gain tables the loops name loads a table newly named and zeroes one no longer named (05 R174). -/
def State.gainsRename (s : State) (old : List Item) : State :=
  s.each ((List.range 128).filter fun t => !(s.gainNamed old t == s.gainNamed s.img.items t)) fun s t => s.loadGain t

/-! ### Rails and phase channels (10 R300, R305, R333) -/

/-- Every field of a rail and its channels at image application (10 R302, R333; 04 R127, R134). -/
def State.railFresh (s : State) (x : RailRec) : State :=
  let r := x.rail
  let keys := if x.monitored then [0x0010] else [0x0001, 0x0002, 0x0010, 0x0020, 0x0021, 0x0030, 0x0031, 0x0040, 0x0041, 0x0050]
  let s := s.each keys fun s k => s.loadRail k r
  let s := s.each (s.railPhases r).zipIdx fun s pk => (s.wr F.PH_STAT_POS pk.2 pk.1).wr F.PH_STAT_RAIL r pk.1
  let s := s.when x.monitored fun s => s.wr F.RAIL_STATE_STATE Rs.monitor r
  let st := if (s.railPhases r).isEmpty then 3 else 2
  let s := ((s.fuseTo r st s.time).setV .fuseWas st r).kneadReset r
  s.wr F.RAIL_KNEAD_ENABLED (s.par Sec.estCoeff 0x0008 r 0 1 1) r

/-! ### Domains, splits, ports -/

/-- The split entry of a child at its parent, whose NEED and WEIGHT follow the image until the child reports (06 R180, R202). -/
def State.loadSplit (s : State) (c : Nat) : State :=
  let p := s.parent c
  let k := s.childPos c
  let s := (s.spW p k F.HUB_SPLIT_B_FLOOR (s.domFloor c)).spW p k F.HUB_SPLIT_B_CEIL (s.domCeil c)
  let s := s.when (decide (s.v .needSent c < 0)) fun s => s.spW p k F.HUB_SPLIT_A_NEED (s.domNeed c)
  s.when (decide (s.v .wtSent c < 0)) fun s => s.spW p k F.HUB_SPLIT_A_WEIGHT (s.domWeight c)

/-- NODE_ID or LEAF_ID (19). -/
def State.loadId (s : State) (d : Nat) : State :=
  match s.dom? d with
  | some x =>
    let w := pack [(0, 16, x.dom), (16, 16, x.parent), (32, 3, x.level), (40, 9, x.phys), (56, 7, (s.children d).length)]
    s.setReg (if isLeaf d then .LEAF_ID else .NODE_ID) (BitVec.ofNat 64 w) (domNum d)
  | none => s

/-- The thresholds of a site (11 R361). -/
def State.loadSite (s : State) (n : Nat) : State :=
  let u (o d : Nat) := s.par Sec.thermal 0x0010 n o 2 d
  let s := ((s.wr F.TS_THR_WARN (u 0 6080) n).wr F.TS_THR_THROTTLE (u 4 6720) n).wr F.TS_THR_SHUTDOWN (u 8 7360) n
  ((s.wr F.TS_HYST_WARN_HYST (u 2 128) n).wr F.TS_HYST_THR_HYST (u 6 320) n).wr F.TS_HYST_SHUT_HYST (u 10 640) n

/-- The reference of a site (11 R361). -/
def State.loadCal (s : State) (n : Nat) : State :=
  let ref := s.par Sec.thermal 0x0011 n 0 2 0xFFFF
  let s := s.wr F.TS_CAL_REF (s.par Sec.thermal 0x0011 n 2 1 0 % 2) n
  s.wr F.TS_CAL_REF_SITE (if ref = 0xFFFF then 0x3FF else ref) n

/-- The setting of a throttle cell (11 R361). -/
def State.loadCell (s : State) (x : Nat) : State :=
  match s.cellAt x with
  | some (hub, i, j) =>
    let u (o n d : Nat) := s.par Sec.thermal 0x0030 x o n d
    let s := s.wr (cellF hub F.LEAF_TCELL_THR_DIV F.HUB_TCELL_THR_DIV) (u 0 1 1) i j
    let s := s.wr (cellF hub F.LEAF_TCELL_GOV F.HUB_TCELL_GOV) (u 1 1 1) i j
    s.wr (cellF hub F.LEAF_TCELL_THR_SKIP F.HUB_TCELL_THR_SKIP) (u 2 2 0xFFFF) i j
  | none => s

/-- The fields of a droop detector (09 R293). -/
def State.loadDet (s : State) (l d : Nat) : State :=
  let u (key n dflt : Nat) := s.par Sec.droop key d 0 n dflt
  let s := (s.wr F.DD_CTRL_TRIM (u 6 1 32) d).wr F.DD_CTRL_FILT (u 5 1 2) d
  let s := (s.wr F.DD_MAP_LEAF l d).wr F.DD_MAP_RAIL (u 4 1 ((s.issueRail l).getD 0)) d
  let s := s.wr F.DD_MAP_GATEMASK (u 3 4 (maskOf (s.gates l))) d
  (s.when (!s.is F.DD_CAL_CAL_VALID d) fun s => (s.wr F.DD_CAL_CODE_CAL (u 7 1 128) d).wr F.DD_CAL_V_CAL s.vref d).ddThr d

/-- The rails of a leaf's slots (04). -/
def State.loadEst (s : State) (l : Nat) : State :=
  let rails := s.leafRails l
  let s := s.wr F.LEAF_EST_STATUS_RAILS (2 ^ rails.length - 1) l
  let f := [F.LEAF_EST_STATUS_RAIL_0, F.LEAF_EST_STATUS_RAIL_1, F.LEAF_EST_STATUS_RAIL_2, F.LEAF_EST_STATUS_RAIL_3]
  s.each f.zipIdx fun s x => s.wr x.1 (rails.getD x.2 0x1F) l

/-! ### Events (14 R441, R443) -/

/-- NMI_MASK of a source by the image (14 R435, R443). -/
def State.srcNmi (s : State) (x : SrcRec) : Nat :=
  match s.img.active with
  | some g => ({ g with items := s.img.items } : Image).srcNmi x
  | none => 0

/-- EN, TARGET, PRI and NMI_MASK of a source (14 R443). -/
def State.loadSrc (s : State) (x : SrcRec) : State :=
  let u (o d : Nat) := s.par Sec.eventRouting 0x0010 x.src o 1 d
  let s := ((s.wr F.EVC_SRC_CFG_EN (u 0 0) x.src).wr F.EVC_SRC_CFG_TARGET (u 1 0) x.src).wr F.EVC_SRC_CFG_PRI (u 2 0x80) x.src
  s.wr F.EVC_SRC_CFG_NMI_MASK (s.srcNmi x) x.src

/-- A source leaves a group where it is a member and is to be none of it: the group fires (14 R438). -/
def State.grpLeave (s : State) (k grp : Nat) (en : Bool) : State :=
  let g := s.rd F.EVC_SRC_CFG_GROUP k
  if s.is F.EVC_SRC_CFG_GRP_EN k && (!en || !Nat.beq g grp) then s.grpFire g else s

/-- GROUP and GRP_EN of a source (14 R438, R443). -/
def State.loadSrcGroup (s : State) (k : Nat) : State :=
  let g := s.par Sec.eventRouting 0x0011 k 0 1 0
  let e := s.par Sec.eventRouting 0x0011 k 1 1 0
  ((s.grpLeave k g (e = 1)).wr F.EVC_SRC_CFG_GROUP g k).wr F.EVC_SRC_CFG_GRP_EN e k

/-- A coalescing group's thresholds: the group fires (14 R438, R443). -/
def State.loadGroup (s : State) (g : Nat) : State :=
  let u (o n d : Nat) := s.par Sec.eventRouting 0x0020 g o n d
  ((s.grpFire g).wr F.EVC_GRP_A_CNT_TH (u 0 1 1) g).wr F.EVC_GRP_A_TIME_TH (u 2 2 1000) g

/-- A wake entry (14 R443). -/
def State.loadWake (s : State) (k : Nat) : State :=
  let u (o n : Nat) := s.par Sec.eventRouting 0x0030 k o n 0
  (s.wr F.EVC_WAKE_SOURCE (u 0 2) k).wr F.EVC_WAKE_EN (u 2 1) k

/-- PRIGROUP by the image, deferred while any stack is non-empty (14 R432). -/
def State.loadPri (s : State) : State :=
  let v := s.par Sec.eventRouting 0x0001 idxAll 0 1 4
  ((s.setV .evtPg (v + 1)).wr F.EVC_STATUS_PG_PEND 1).pgSettle

/-- The event controller starts afresh, and takes the levels of flag kind again from their bits (14 R441). -/
def State.evtFresh (s : State) : State :=
  let s := s.forget fun k => [Reg.EVC_CTRL, .EVC_TSTAT, .EVC_GRP_A, .EVC_GRP_B, .EVC_WAKE, .EVC_SRC_CFG, .EVC_SRC_STATE].contains k.n
  let s := (s.setV .evtPg 0).wr F.EVC_STATUS_PG_PEND 0
  let s : State := { s with evt := { s.evt with evStk := [[], [], [], []] } }
  match s.img.active with
  | none => s
  | some g =>
    let s := s.each g.sources fun s x =>
      let s := (s.wr F.EVC_SRC_CFG_CODE x.code x.src).wr F.EVC_SRC_CFG_INSTANCE x.inst x.src
      (s.loadSrc x).loadSrcGroup x.src
    let s := (s.each (List.range 64) fun s k => s.loadGroup k).loadPri
    let s := s.each (List.range 32) fun s k => s.loadWake k
    s.each g.sources fun s x => if s.srcLevel x.src then (s.srcSync x.src).setPend x.src else s

/-! ### A full image is accepted (02 R74) -/

/-- The hub's accumulators that start with the image (04, 05 R151, 06 R178, 07). -/
def hubVars : List Var :=
  [.estLast, .estFresh, .estVal, .estSlotAt, .kwDrop, .estRailSum, .estRailN, .ivLast, .ivFresh, .attr, .hgE, .hgN, .kwM, .kwN, .kwBad, .kwPkg, .kwTouch, .cyP, .cyI,
   .cyV, .cyN, .cyLastP, .cyLastI, .cySeen, .invBits, .divM, .divE, .divV, .divVN, .latestM, .fHist, .fHistN, .aHist, .shareN, .shareD,
   .exSum, .exN, .fp, .fpN, .riseSlew, .smpNext, .needSent, .wtSent, .smpBad, .smpRows, .smpBud, .smpOth, .obRot, .obThat, .obFirst, .obLastA, .obNFirst, .obNLast,
   .spArr, .spNxt, .spAt, .riseOff, .riseAt, .repTemp, .repAt, .repFallback, .repBand, .repLapsed, .repSite, .repLevel, .thrSent, .slowSlot,
   .keyUp, .dltSend, .calCand, .calCandPer, .calOld, .calPrev]

/-- The sync unit is cleared, and takes its partitions (08 R230, R253). -/
def State.syncFresh (s : State) : State :=
  let s := s.forget fun k => [Reg.SYNC_OBJ_A, .SYNC_OBJ_B, .SYNC_CTX, .SYNC_CTXW].contains k.n
  let s : State := { s with sync := { watches := [], claims := [], held := [], cur := [], rise := [] } }
  match s.img.active with
  | none => s
  | some g => s.each g.parts fun s x =>
    let s := (s.wr F.SYNC_CTX_OBJ_BASE x.objBase x.ctx).wr F.SYNC_CTX_OBJ_COUNT x.objCount x.ctx
    (s.wr F.SYNC_CTX_WATCH_BASE x.watchBase x.ctx).wr F.SYNC_CTXW_WATCH_COUNT x.watchCount x.ctx

/-- Tree position of the links (15 R471; log entry 33). -/
def State.dxlFresh (s : State) : State :=
  let root := s.treeParent.isNone
  let s := s.wr F.DXL_STATUS_ROOT (b2n root)
  s.each (List.range 8) fun s n =>
    let on (m : DxlConfig → Nat) : Nat := match s.dxl? with | some d => b2n (bitOf (m d) n) | none => 0
    let role := b2n (s.treeParent = some n) + 2 * on (·.childMask) + 4 * on (·.leaseMask)
    let peer := match s.dxl? with | some d => (match d.ports[n]? with | some p => p.peerId | none => 0) | none => 0
    (s.wr F.DXL_PORT_A_ROLE role n).wr F.DXL_PORT_A_PEER_ID peer n

/-- Apply the hub-resident fields of an image (02 R74, and the chapters' rules on acceptance). -/
def State.hubFields (s : State) : State :=
  let s := s.forgetV hubVars
  let s := s.forget fun k => loopRegs.contains k.n || [Reg.GT_A, .GT_B, .HUB_SPLIT_A, .HUB_SPLIT_B, .HUB_SPLIT_C, .HUB_BUDGET].contains k.n
  let s : State := { s with grants := [], sentGrants := [] }
  let s := s.loopSched
  let s := s.each s.loops fun s r => if r.host = hubDom then s.loopFresh r.loop else s
  let s := s.each (List.range 128) fun s t => s.loadGain t
  let s := s.each s.rails fun s x => s.railFresh x
  let m := s.par Sec.mode 0x0001 idxAll 0 1 0
  let s := ((s.wr F.HUB_MODE_MODE m).wr F.HUB_MODE_REQ m).wr F.HUB_MODE_PENDING 0
  let s := s.each (s.children hubDom) fun s c => s.loadSplit c
  let s := s.strAccept
  let s := s.syncFresh
  let s := s.each s.leaves fun s l => s.each (s.cores l) fun s p => s.setV .wear (s.coreFmax l p 0) l p
  let s := s.each (s.insts.filter fun x => x.typ = 7) fun s x => (s.setReg .TS_CAL 0 x.logical).loadCal x.logical
  let s := s.each (s.sitesOf hubDom) fun s n => s.loadSite n
  let s := s.each (s.cellsOf hubDom) fun s x => s.loadCell x
  let s := s.dxlFresh
  let s := s.evtFresh
  let s := s.each (s.railNums.filter fun r => Nat.beq (s.rd F.RAIL_FUSE_STATUS_STATE r) 2) fun s r => s.event 0x10 r
  let s := s.gbAll
  s.when (s.trcState = 0 && Nat.beq (s.par Sec.trace 0x0001 idxAll 0 1 0) 1) fun s => s.trcArm

/-! ### An island's image fields (02 R77) -/

/-- The hub-held values that a leaf receives with its fields (02 R77: θ of 04 R140, references of 10 R316, corrections of 11
R343, the request of 11 R352, the brake of 12 R375). -/
def State.heldFields (s : State) (l : Nat) : State :=
  let s := s.each (s.leafRails l).zipIdx fun s rk =>
    let s := s.setReg .LEAF_THETA_LO (BitVec.ofNat 64 (s.thetaWord rk.1 false)) l rk.2
    s.setReg .LEAF_THETA_HI (BitVec.ofNat 64 (s.thetaWord rk.1 true)) l rk.2
  let s := (s.vrefTake l (vrefWord (s.vrefs l))).vrefNote l
  let ks := (s.loops.filter fun r => Nat.beq (s.rd F.LOOP_DEST_DEST_KIND r.loop) 2
    && s.beneath (leafDom l) (s.rd F.LOOP_DEST_DEST r.loop)).map fun r => s.vn .thrSent r.loop
  let s := s.thrTake l (ks.foldl min 256)
  s.when (s.is F.CRUST_STATUS_BRAKE_ACTIVE) fun s => s.brakeTake l s.brakeWord

/-- The image's own fields at a leaf. -/
def State.leafFields (s : State) (l : Nat) : State :=
  let d := leafDom l
  let s := (s.loadId d).loadEst l
  let s := s.wr F.LEAF_SCORE_CLAMP (s.par Sec.droop 0x0008 l 0 1 64) l
  let s := s.each (s.leafDetectors l) fun s n => s.loadDet l n
  let s := s.each (s.sitesOf d) fun s n => s.loadSite n
  let s := s.each (s.cellsOf d) fun s x => s.loadCell x
  s.each (s.cores l) fun s p =>
    (s.wr F.LEAF_CORE_MODE_CEIL (s.coreFmax l p s.mode) l p).wr F.LEAF_CORE_WEAR (s.vn .wear l p) l p

/-- An island holds all its image fields (02 R77): from reset its timers start and, at a node engine, its loops take the trigger
of 05 R163; after a re-link the fields are written again. A leaf that comes to hold them in HOLD does not convert in it (06 R189). -/
def State.islandFields (s : State) (d : Nat) : State :=
  let fresh : Bool := decide (s.v .islFields d = 0)
  let n := domNum d
  if isLeaf d then
    let s := s.leafFields n
    let s := s.when fresh fun s =>
      let s := (s.setV .islFields 1 d).setV .thFrom s.time d
      let s := s.when (Nat.beq s.pkg Pkg.hold) fun s => s.setV .leafFrozen 1 n
      s.each (s.leafDetectors n) fun s x => s.setV .ddCalAt s.time x
    (s.heldFields n).leafEff n
  else
    let s := (s.loadId d)
    let s := s.each (s.children d) fun s c => s.loadSplit c
    if fresh then
      let s := (s.setV .islFields 1 d).setV .thFrom s.time d
      let s := s.each [0, 1] fun s k => s.wr F.ENG_STATUS_SLIPS 0 (8 + 2 * n + k)
      let s := s.each (s.loopsAt d) fun s l => s.loopFresh l
      (s.gainCopies d).loopsHostBack d
    else s

/-! ### A delta's items (02 R76) -/

/-- The instances an INDEX reaches: all of a list, or the one named. -/
def reach (idx : Nat) (all : List Nat) : List Nat := if idx = idxAll then all else all.filter (Nat.beq · idx)

/-- The leaf that owns a numbered instance of a type, or the hub. -/
def State.ownerOf (s : State) (typ n : Nat) : Nat :=
  match s.inst? typ n with
  | some x => x.owner
  | none => hubDom

/-- The logical numbers of a type. -/
def State.numsOf (s : State) (typ : Nat) : List Nat := (s.insts.filter fun x => Nat.beq x.typ typ).map (·.logical)

/-- The registers that one item of an activated delta changes; items that set no register are read where they are used, and the seeds
of STARTER are taken together (Machine/Loader.lean, deltaApply). -/
def State.itemLoad (s : State) (x : Item) : State :=
  if x.sec = Sec.loopParams then
    s.each (reach x.idx (s.loops.map (·.loop))) fun s l => if s.loaded (s.rd F.LOOP_SCHED_HOST l) then s.loadLoop x.key l else s
  else if x.sec = Sec.gainTables then s.each (reach x.idx (List.range 128)) fun s t => s.loadGain t
  else if x.sec = Sec.railParams then
    s.each (reach x.idx s.railNums) fun s r =>
      let st := s.railSt r
      if s.monitored r && !(x.key = 0x0010) then s
      else if st = Rs.off || st = Rs.halt || st = Rs.monitor then s.railKeyLoad r x.key
      else { s with img := { s.img with railPend := s.img.railPend ++ [(r, x.key)] } }
  else if x.sec = Sec.estCoeff && x.key = 0x0008 then
    s.each (reach x.idx s.railNums) fun s r => s.wr F.RAIL_KNEAD_ENABLED (s.par Sec.estCoeff 0x0008 r 0 1 1) r
  else if x.sec = Sec.limits && x.key = 0x0001 then
    s.each (reach x.idx (s.loops.map (·.loop))) fun s l => if s.loaded (s.rd F.LOOP_SCHED_HOST l) then s.loadSpMax l else s
  else if x.sec = Sec.limits && Nat.ble 0x0010 x.key then
    s.each (reach x.idx ((s.tree.map (·.dom)).filter fun d => !(d = hubDom))) fun s d =>
      if s.loaded (s.parent d) then (s.loadSplit d).splitAll (s.parent d) else s
  else if x.sec = Sec.thermal && x.key = 0x0010 then
    s.each (reach x.idx (s.numsOf 7)) fun s n => if s.loaded (s.ownerOf 7 n) then s.loadSite n else s
  else if x.sec = Sec.thermal && x.key = 0x0011 then s.each (reach x.idx (s.numsOf 7)) fun s n => s.loadCal n
  else if x.sec = Sec.thermal && x.key = 0x0030 then
    s.each (reach x.idx (s.numsOf 6)) fun s n => if s.loaded (s.ownerOf 6 n) then (s.loadCell n).cellShow n else s
  else if x.sec = Sec.thermal && x.key = 0x0050 then s.gbAll
  else if x.sec = Sec.droop then
    s.each s.leaves fun s l =>
      if s.loaded (leafDom l) then
        let s := s.when (x.key = 0x0008) fun s => s.wr F.LEAF_SCORE_CLAMP (s.par Sec.droop 0x0008 l 0 1 64) l
        s.each (s.leafDetectors l) fun s n => s.loadDet l n
      else s
  else if x.sec = Sec.eventRouting then
    match s.img.active with
    | none => s
    | some g =>
      match x.key with
      | 0x0001 => s.loadPri
      | 0x0010 => s.each (g.sources.filter fun y => x.idx = idxAll || Nat.beq y.src x.idx) fun s y => s.loadSrc y
      | 0x0011 => s.each (reach x.idx (g.sources.map (·.src))) fun s k => s.loadSrcGroup k
      | 0x0020 => s.each (reach x.idx (List.range 64)) fun s k => s.loadGroup k
      | _ => s.each (reach x.idx (List.range 32)) fun s k => s.loadWake k
  else if x.sec = Sec.mode && x.key = 0x0001 then
    let m := s.par Sec.mode 0x0001 idxAll 0 1 0
    (s.wr F.HUB_MODE_REQ m).modeTo m
  else if x.sec = Sec.mode && x.key = 0x0002 then
    s.each s.leaves fun s l => if s.loaded (leafDom l) then s.modeCeil l else s
  else s

/-- The rails whose θ and P an activated item resets (04 R141), by the items before and after. -/
def State.itemRails (s : State) (old : List Item) (x : Item) : List Nat :=
  let ls := reach x.idx s.leaves
  if x.sec = Sec.leakage then s.railNums.filter fun r => Nat.beq x.key (0x100 + r)
  else if !(x.sec = Sec.estCoeff) then []
  else match x.key with
    | 0x0001 => s.railNums
    | 0x0002 | 0x0003 | 0x0004 => reach x.idx s.railNums
    | 0x000A => s.railNums.filter fun r => ls.any fun l => (s.leafRails l).contains r
    | k =>
      if Nat.blt k 0x100 then []
      else
        let named (v : List Byte) : List Nat := [fieldAt v 0 1, fieldAt v 2 1]
        let was := ls.filterMap fun l => findItem old x.sec k l
        s.railNums.filter fun r => ((x.val :: was).flatMap named).contains r

/-- The rails for which an activated item changes EST_COEFF or LEAKAGE (04 R138 code 4): those that it resets, and those of GUARD_PCT,
DIV_TIME, MIN_POWER, KNEAD_EN and SHARE_BAND. -/
def State.touchRails (s : State) (old : List Item) (x : Item) : List Nat :=
  if x.sec = Sec.estCoeff && Nat.ble 5 x.key && Nat.ble x.key 9 then reach x.idx s.railNums else s.itemRails old x

end Sys2Proof.Machine
end

