-- ==== Sys2Proof/Machine/Loader.lean ====
section
/-!
DEFINITION. The loader (02 R52 to R80): the staging bank, the checks C1 to C12, VERIFY, deltas, the image-field messages, and the
fused SVN.
-/
namespace Sys2Proof.Machine

/-! ### The checks -/

/-- The fused SVN (02 R69). -/
def State.fusedSvn (s : State) : Nat := s.rd F.IMG_FUSE_FUSED_SVN

/-- C1 to C7 on a bank (02 R71): the bytes, the sections and the length up to the signature block; a failure gives its step and
offset. -/
def State.checkHead (s : State) (k : Nat) : Except (Nat × Nat) (List Byte × List RawSec) :=
  let m := (s.bank k).mem
  let h := Mem.bytes m 0 128
  match checkC1 h (s.bank k).written with
  | some e => .error (1, e)
  | none =>
    match checkC2 h with
    | some e => .error (2, e)
    | none =>
      let b := Mem.bytes m 0 (fieldAt h 0x0C 4)
      match checkC3 b with
      | .error e => .error (3, e)
      | .ok secs =>
        let sig := fieldAt b 0x60 4
        let key := slice b (sig + 8) 96
        let delta := bitOf (fieldAt b 6 2) 0
        let svn := fieldAt b 0x10 4
        let structs := (secs.filter fun x => structTypes.contains x.typ).flatMap (·.whole)
        let own := if delta then (match s.img.active with | some g => some g.structDigest | none => none)
          else some (Config.sha384 structs)
        if !(Config.sha384 key == Config.fuses.keyHash) then .error (4, sig + 8)
        else if !Config.ecdsaVerify key (Config.sha384 (b.take sig)) (slice b (sig + 0x68) 96) then .error (5, sig + 0x68)
        else if delta && !Nat.beq svn (s.rd F.IMG_INFO_SVN) then .error (6, 0x10)
        else if delta && Nat.ble (fieldAt b 0x14 4) (s.rd F.IMG_INFO_PARAM_SEQ) then .error (6, 0x14)
        else if !delta && Nat.blt svn s.fusedSvn then .error (6, 0x10)
        else match checkC7 delta secs with
          | some e => .error (7, e)
          | none => if own = some (digestOf (slice b 0x30 48)) then .ok (b, secs) else .error (7, 0x30)

/-- Keep a result, or name the step of a failure. -/
def atStep {α : Type} (step : Nat) : Except Nat α → Except (Nat × Nat) α
  | .ok x => .ok x
  | .error e => .error (step, e)

/-- Fail a step where its check does. -/
def stepChk (step : Nat) (c : Chk) : Except (Nat × Nat) Unit :=
  match c with
  | some e => .error (step, e)
  | none => .ok ()

/-- The structure of a full image, C8 to C10 (02 R71), with no items yet. -/
def checkStruct (b : List Byte) (secs : List RawSec) : Except (Nat × Nat) Image := do
  let tree ← atStep 8 (recsOf secs 1 16)
  let railsSeen := match recsOf secs 3 16 with | .ok l => l | .error _ => []
  stepChk 8 (checkC8 tree (railsSeen.map fun x => (railRec x.2).rail))
  let insts ← atStep 9 (recsOf secs 2 8)
  stepChk 9 (checkC9 (tree.map fun x => (x.1, domRec x.2)) insts)
  let rails ← atStep 10 (recsOf secs 3 16)
  let loops ← atStep 10 (recsOf secs 4 16)
  let parts ← atStep 10 (recsOf secs 5 16)
  let srcs ← atStep 10 (recsOf secs 8 8)
  let doms := tree.map fun x => domRec x.2
  let recs := insts.map fun x => instRec x.2
  stepChk 10 (checkRails recs rails)
  stepChk 10 (checkLoops doms loops)
  stepChk 10 (checkParts parts)
  stepChk 10 (badOf (secOf secs 6).toList checkDxl)
  stepChk 10 (badOf (secOf secs 7).toList checkMirror)
  stepChk 10 (checkSources srcs)
  .ok {
    delta := false, minor := fieldAt b 9 1, svn := fieldAt b 0x10 4, paramSeq := fieldAt b 0x14 4, imageId := fieldAt b 0x28 8,
    digest := Config.sha384 (b.take (fieldAt b 0x60 4)), structDigest := digestOf (slice b 0x30 48), tree := doms, insts := recs,
    rails := rails.map fun x => railRec x.2, loops := loops.map fun x => loopRec x.2, parts := parts.map fun x => partRec x.2,
    dxl := (secOf secs 6).map fun x => dxlConfig x.body, mirror := (secOf secs 7).map fun x => mirrorConfig x.body,
    sources := srcs.map fun x => srcRec x.2, items := [] }

/-- C1 to C11 on a bank (02 R71). -/
def State.check (s : State) (k : Nat) : Except (Nat × Nat) Image := do
  let (b, secs) ← s.checkHead k
  if bitOf (fieldAt b 6 2) 0 then
    match s.img.active with
    | none => .error (7, 0x30)
    | some g =>
      let own ← atStep 11 (allItems secs)
      let items := own.map (·.2)
      stepChk 11 (checkC11 { g with items := mergeItems s.img.items items } own)
      .ok { g with
        delta := true, minor := fieldAt b 9 1, svn := fieldAt b 0x10 4, paramSeq := fieldAt b 0x14 4, imageId := fieldAt b 0x28 8
        digest := Config.sha384 (b.take (fieldAt b 0x60 4)), items := items }
  else
    let g ← checkStruct b secs
    let own ← atStep 11 (allItems secs)
    let g := { g with items := own.map (·.2) }
    stepChk 11 (checkC11 g own)
    .ok g

/-! ### The staging bank (02 R54, R72) -/

/-- Whether a port is the facility port. -/
def isFac : Port → Bool
  | .fac => true
  | _ => false

/-- Whether the other port owns the staging bank (02 R54). -/
def State.ldrForeign (s : State) (p : Port) : Bool :=
  match s.img.owner with
  | some q => isFac q != isFac p
  | none => false

/-- Change the owner of the staging bank (02 R54). -/
def State.ldrOwner (s : State) (o : Option Port) : State :=
  let s : State := { s with img := { s.img with owner := o } }
  s.wr F.IMG_STATUS_OWNER_FAC (match o with | some q => b2n (isFac q) | none => 0)

/-- The loader enters IDLE (02 R54, R72). -/
def State.ldrIdle (s : State) : State := (s.wr F.IMG_STATUS_LOADER 0).ldrOwner none

/-- OPEN (02 R54, R72). -/
def State.ldrOpen (s : State) (p : Port) : Status × State :=
  if s.ldrForeign p then (.ePriv, s)
  else if s.ldr = 0 || s.ldr = 1 || s.ldr = 3 then
    let s := (s.setBank s.stageBank Bank.empty).fallbackShow
    let s := (s.setV .imgPtr 0).wr F.IMG_WADDR_PTR 0
    (.ok, (s.wr F.IMG_STATUS_LOADER 1).ldrOwner (some p))
  else (.eOverrun, s)

/-- COMMIT (02 R72, R73). -/
def State.ldrCommit (s : State) (p : Port) : Status × State :=
  if s.ldrForeign p then (.ePriv, s)
  else if s.ldr = 1 then (.ok, s.wr F.IMG_STATUS_LOADER 2)
  else if s.ldr = 0 || s.ldr = 3 then (.eRange, s)
  else (.eOverrun, s)

/-- ABORT (02 R72). -/
def State.ldrAbort (s : State) (p : Port) : Status × State :=
  if s.ldrForeign p then (.ePriv, s)
  else match s.ldr with
    | 0 => (.ok, s)
    | 1 | 3 => (.ok, s.ldrIdle)
    | 2 => (.ok, s.ldrIdle.ldrResult .eImage 0x0F 0 0)
    | _ => (.eOverrun, s)

/-- COMMIT_SVN (02 R70). -/
def State.ldrFuse (s : State) : Status × State :=
  if s.pkg = Pkg.run && Nat.blt s.fusedSvn (s.rd F.IMG_INFO_SVN) then (.ok, s.wr F.IMG_STATUS_FUSING 1) else (.eRange, s)

/-- A command of IMG_CTRL (02 R72). -/
def State.ldrCmd (s : State) (p : Port) (c : Nat) : Status × State :=
  match c with
  | 0 => (.ok, s)
  | 1 => s.ldrOpen p
  | 2 => s.ldrCommit p
  | 3 => s.ldrAbort p
  | 4 => s.ldrFuse
  | _ => (.eRange, s)

/-- A write of IMG_WADDR (02 R54, IMG_WADDR). -/
def State.ldrAddr (s : State) (p : Port) (w : Nat) : Status × State :=
  let ptr := w % 2 ^ 20
  if s.ldrForeign p then (.ePriv, s)
  else if s.ldr = 1 && ptr % 8 = 0 && Nat.ble ptr 0x7FFF8 then (.ok, (s.setV .imgPtr ptr).wr F.IMG_WADDR_PTR ptr)
  else (.eRange, s)

/-- A write of IMG_WDATA (02 R72, R80). -/
def State.ldrData (s : State) (p : Port) (wide : Bool) (w : Word) : Status × State :=
  let ptr := s.vn .imgPtr
  if s.ldrForeign p then (.ePriv, s)
  else if !wide then (.eRange, s)
  else match s.ldr with
    | 0 | 3 => (.eRange, s)
    | 1 =>
      if Nat.ble (ptr + 8) 0x80000 then
        let b := s.bank s.stageBank
        let b : Bank := { mem := Mem.writeBytes b.mem ptr (wordBytes w), written := max b.written (ptr + 8), accepted := false, rejected := false }
        (.ok, ((s.setBank s.stageBank b).setV .imgPtr ((ptr + 8 : Nat) : Int)).wr F.IMG_WADDR_PTR (ptr + 8))
      else (.eRange, s)
    | _ => (.eOverrun, s)

/-- OPEN (02 R72). -/
def execLdrOpen (t : Nat) (p : Port) (s : State) : Host.Outcome State Fault Refusal :=
  .next ((s.start t).command p .IMG_CTRL fun s => s.ldrCmd p 1)

/-- COMMIT (02 R73). -/
def execLdrCommit (t : Nat) (p : Port) (s : State) : Host.Outcome State Fault Refusal :=
  .next ((s.start t).command p .IMG_CTRL fun s => s.ldrCmd p 2)

/-- ABORT (02 R72). -/
def execLdrAbort (t : Nat) (p : Port) (s : State) : Host.Outcome State Fault Refusal :=
  .next ((s.start t).command p .IMG_CTRL fun s => s.ldrCmd p 3)

/-- COMMIT_SVN (02 R70). -/
def execCommitSvn (t : Nat) (p : Port) (s : State) : Host.Outcome State Fault Refusal :=
  .next ((s.start t).command p .IMG_CTRL fun s => s.ldrCmd p 4)

/-- FUSING_DONE (02 R70): the fused SVN equals the active SVN. -/
def execFusingDone (t : Nat) (s : State) : Host.Outcome State Fault Refusal :=
  let s := s.start t
  .next (if s.is F.IMG_STATUS_FUSING then
      let v := s.rd F.IMG_INFO_SVN
      ((s.wr F.IMG_STATUS_FUSING 0).setV .fuseSvn v).wr F.IMG_FUSE_FUSED_SVN v
    else s)

/-- IMG_WADDR (02 R72). -/
def execImgWaddr (t : Nat) (p : Port) (w : Nat) (s : State) : Host.Outcome State Fault Refusal :=
  .next ((s.start t).command p .IMG_WADDR fun s => s.ldrAddr p w)

/-- IMG_WDATA (02 R80): a write of 64 or of 32 bits. -/
def execImgWdata (t : Nat) (p : Port) (wide : Bool) (w : Word) (s : State) : Host.Outcome State Fault Refusal :=
  .next ((s.start t).command p .IMG_WDATA fun s => s.ldrData p wide w)

/-! ### Deltas (02 R75, R76) -/

/-- The loops that an item names: by INDEX, by the table they use, or by the limit they enforce (02 R75; 06 R202). -/
def State.itemLoops (s : State) (x : Item) : List Nat :=
  let all := s.loops.map (·.loop)
  if x.sec = Sec.loopParams then reach x.idx all
  else if x.sec = Sec.gainTables then all.filter fun l => x.idx = idxAll || Nat.beq (s.rd F.LOOP_CFG_GTABLE l) x.idx
  else if x.sec = Sec.limits then
    (if Nat.blt x.key 0x0010 then reach x.idx all else all.filter fun l => Nat.beq (s.rd F.LOOP_DEST_DEST_KIND l) 1)
  else []

/-- Whether an item's section needs HOLD (02 R59, R75). -/
def needsHold (x : Item) : Bool :=
  (x.sec = Sec.railParams && Nat.blt 2 x.key) || [Sec.estCoeff, Sec.leakage, Sec.thermal, Sec.droop, Sec.mode].contains x.sec

/-- C12 (02 R75): the package state, then each item's precondition; the first item that fails gives its offset (02 R71). -/
def State.checkC12 (s : State) (own : List (Nat × Item)) : Chk :=
  let held := s.pkg = Pkg.hold || s.pkg = Pkg.tripped
  firstBad [
    must (held || s.pkg = Pkg.run) 0,
    badOf own fun x => must ((!needsHold x.2 || held) && (s.itemLoops x.2).all fun l => s.loopSt l = 0) x.1]

/-- The items of a bank with their offsets (02 R61). -/
def State.bankItems (s : State) (k : Nat) : List (Nat × Item) :=
  match s.checkHead k with
  | .ok (_, secs) => (match allItems secs with | .ok l => l | .error _ => [])
  | .error _ => []

/-- The islands that hold fields of an item (02 R76). -/
def State.itemDoms (s : State) (x : Item) : List Nat :=
  let leavesOf (l : List Nat) := l.map leafDom
  let hosts (l : List Nat) := l.map fun n => s.rd F.LOOP_SCHED_HOST n
  let owners (typ : Nat) := (reach x.idx (s.numsOf typ)).map fun n => s.ownerOf typ n
  if x.sec = Sec.loopParams || x.sec = Sec.gainTables || (x.sec = Sec.limits && Nat.blt x.key 0x0010) then hosts (s.itemLoops x)
  else if x.sec = Sec.limits then (reach x.idx (s.tree.map (·.dom))).map fun d => s.parent d
  else if x.sec = Sec.estCoeff then
    (if x.key = 0x0001 then leavesOf s.leaves else if Nat.ble 0x000A x.key then leavesOf (reach x.idx s.leaves) else [])
  else if x.sec = Sec.leakage then leavesOf (reach x.idx s.leaves)
  else if x.sec = Sec.thermal then
    (match x.key with
      | 0x0010 | 0x0011 => owners 7
      | 0x0030 => owners 6
      | 0x0040 => owners 5
      | 0x0020 | 0x0050 => []
      | _ => leavesOf s.leaves)
  else if x.sec = Sec.droop then
    (if Nat.ble x.key 7 then owners 8 else if x.key = 0x000D then leavesOf s.leaves else leavesOf (reach x.idx s.leaves))
  else if x.sec = Sec.mode then
    (match x.key with
      | 0x0001 => leavesOf s.leaves
      | 0x0002 => owners 4
      | 0x0003 => leavesOf (reach x.idx s.leaves)
      | _ => [])
  else if x.sec = Sec.timing then
    (match x.key with
      | 0x0001 | 0x0002 => leavesOf (reach x.idx s.leaves)
      | 0x0003 | 0x0004 => leavesOf s.leaves
      | _ => [])
  else []

/-- The payload of PARAM: the island, and 0 image fields, 1 shadow items, 2 the island's confirmation, 3 the activation stamp
(log entry 42). -/
def paramPayload (d kind : Nat) : Nat := pack [(48, 16, d), (0, 2, kind)]

/-- Change the delta being applied. -/
def State.setDelta (s : State) (d : Option DeltaRun) : State := { s with img := { s.img with delta := d } }

/-- Send a PARAM message to an island through the hub's child channel; false where a guard dropped it. -/
def State.paramSend (s : State) (d kind : Nat) : Bool × State :=
  match s.hop hubDom d with
  | some h => s.sendDown h Mt.param (paramPayload d kind)
  | none => (false, s)

/-- Once every present island has confirmed, tA is 2 µs later, and goes out to the islands that confirmed (02 R76; log entry 43). -/
def State.deltaReady (s : State) : State :=
  match s.img.delta with
  | some d =>
    if d.wait.isEmpty && d.tA.isNone then
      (s.setDelta (some { d with tA := some (s.time + 2000) })).each d.conf fun s x => (s.paramSend x 3).2
    else s
  | none => s

/-- An island is absent for the delta being applied: it is skipped (02 R76; 03 R99, R105). -/
def State.deltaAbsent (s : State) (x : Nat) : State :=
  match s.img.delta with
  | some d => ((s.setDelta (some { d with wait := d.wait.filter fun y => !Nat.beq y x })).setV .dltSend 0 x).deltaReady
  | none => s

/-- Send a delta's items to the islands beneath a hub child that wait for them (02 R76). -/
def State.deltaSend (s : State) (c : Nat) : State :=
  match s.img.delta with
  | none => s
  | some d =>
    let due := d.wait.filter fun x => s.v .dltSend x = 1 && s.beneath x c
    if due.isEmpty then s
    else
      s.each due fun s x =>
        let (ok, s) := s.sendDown c Mt.param (paramPayload x 1)
        if ok then (s.setV .dltSend 0 x).setV .dltAt s.time x else s.deltaAbsent x

/-- A delta that has passed goes to APPLYING (02 R73, R75, R76; 03 R103): its loops are held, and each affected hub channel is
fenced with SCOPE 0 before its items go out. -/
def State.deltaStart (s : State) (g : Image) : State :=
  let loops := (g.items.flatMap fun x => s.itemLoops x).eraseDups
  let doms := ((g.items.flatMap fun x => s.itemDoms x).eraseDups).filter fun d =>
    !(d = hubDom) && s.v .islFields d = 1 && s.pathUpTo d
  let s := s.each loops fun s l => s.wr F.LOOP_CTRL_LDR_HOLD 1 l
  let s := (s.wr F.IMG_STATUS_LOADER 4).setDelta (some { img := g, wait := doms, conf := [], tA := none, loops := loops })
  let s := s.each doms fun s d => s.setV .dltSend 1 d
  let s := s.each ((s.children hubDom).filter fun c => doms.any fun d => s.beneath d c) fun s c =>
    let e := s.parentEnd c
    (s.fenceIssue e 0).2.setV .ldrFence 1 (endNum e)
  s.deltaReady

/-- The channels held for tA may link again (03 R104). -/
def State.chReleased (s : State) : State :=
  s.each ((s.tree.map (·.dom)).filter fun d => !(d = hubDom)) fun s d =>
    let e := s.parentEnd d
    if s.v .chHold (endNum e) = 1 then
      let s := s.setV .chHold 0 (endNum e)
      if s.chSt e = Ch.down && Nat.beq (s.ch e F.HUB_CHAN_FAR_ALIVE) 1 then
        ((s.chW e F.HUB_CHAN_STATE Ch.linking).sayHello e (s.vn .chWhy d)).helloStored e
      else s
    else s

/-- The loader's operation on a delta ends (02 R75): its loops, its channels and the package state are released. -/
def State.deltaEnd (s : State) (loops : List Nat) : State :=
  let s := s.each (s.tree.map (·.dom)) fun s d => s.setV .dltSend 0 d
  let s := s.each (s.childEnds hubDom) fun s e => s.setV .ldrFence 0 (endNum e)
  ((((s.setDelta none).ldrIdle).loopsUnhold loops).chReleased).holdEnd

/-- The 48 bytes of a digest. -/
def digestBytes (d : BitVec 384) : List Byte := leBytes 48 d.toNat

/-- DELTA_ACTIVATE (02 R61, R69, R76, R79; 04 R141; 18 R557). -/
def State.deltaApply (s : State) (d : DeltaRun) : State :=
  let g := d.img
  let old := s.img.items
  let kept := old.filter fun x => !(g.items.any fun y => Nat.beq y.sec x.sec && Nat.beq y.key x.key && (Nat.beq y.idx idxAll || Nat.beq y.idx x.idx))
  let s := s.each (List.range 14) fun s k =>
    if kept.any fun x => Nat.beq x.sec (0x100 + k) then s else s.setV .eccSec 0 k
  let s := s.each s.img.railPend fun s x => s.railKeyLoad x.1 x.2
  let s : State := { s with
    img := { s.img with railOld := old, items := mergeItems old g.items, chain := Config.sha384 (digestBytes s.img.chain ++ digestBytes g.digest) } }
  let s := s.wr F.IMG_INFO_PARAM_SEQ g.paramSeq
  let s := ((s.each g.items fun s x => s.itemLoad x).gainsRename old).seedAll g.items
  let s := s.when (g.items.any fun x => Nat.beq x.sec Sec.starterSeed || Nat.beq x.sec Sec.limits) fun s =>
    s.strItems.each slots16 fun s c => s.slotShape c
  let rails := (g.items.flatMap fun x => s.itemRails old x).eraseDups
  let s := s.each rails fun s r => (s.kneadReset r).thetaSend r
  let s := s.each (g.items.flatMap fun x => s.touchRails old x).eraseDups fun s r => s.kneadTouch r (d.tA.getD s.time)
  (s.allEff.vfRun.deltaEnd d.loops).ldrResult .ok 0 0 0

/-- DELTA_ACTIVATE (02 R76). -/
def execDeltaActivate (t : Nat) (s : State) : Host.Outcome State Fault Refusal :=
  let s := s.start t
  .next (match s.img.delta with
    | some d =>
      match d.tA with
      | some a => if a ≤ s.time then (s.deltaApply d).pkgRun else s
      | none => s
    | none => s)

/-- APPLY_TIMEOUT (02 R71, R76): an island has not confirmed 50 µs after its own items were sent. -/
def execApplyTimeout (t : Nat) (s : State) : Host.Outcome State Fault Refusal :=
  let s := s.start t
  .next (match s.img.delta with
    | some d =>
      if d.wait.any fun x => decide (s.v .dltSend x = 0) && Nat.ble (s.vn .dltAt x + 50000) s.time then
        (s.deltaEnd d.loops).ldrResult .eImage 0x0E 0 0
      else s
    | none => s)

/-! ### Ends of the checks -/

/-- An image goes to VERIFY (02 R73, R74). -/
def State.toVerify (s : State) (k : Nat) : State :=
  ((s.setV .imgCand k).pkgTo Pkg.verify 1).wr F.IMG_STATUS_LOADER 5

/-- CHECKING ends (02 R71, R73). -/
def State.checkEnd (s : State) (ecc : Bool) : State :=
  if ecc then (s.wr F.IMG_STATUS_LOADER 1).ldrResult .eImage 0x0D 0 0
  else match s.check s.stageBank with
    | .error e => (s.wr F.IMG_STATUS_LOADER 1).ldrResult .eImage e.1 e.1 e.2
    | .ok g =>
      if g.delta then
        match s.checkC12 (s.bankItems s.stageBank) with
        | none => ((s.ldrResult .ok 0 0 0).ldrOwner none).deltaStart g
        | some off => (s.wr F.IMG_STATUS_LOADER 1).ldrResult .eImage 0x0C 12 off
      else
        let s := (s.ldrResult .ok 0 0 0).ldrOwner none
        if s.pkg = Pkg.aon then s.toVerify s.stageBank else s.wr F.IMG_STATUS_LOADER 3

/-- CHECK_DONE (02 R73); ecc: the check has met an uncorrectable ECC error in the bank. -/
def execCheckDone (t : Nat) (ecc : Bool) (s : State) : Host.Outcome State Fault Refusal :=
  let s := s.start t
  .next (if s.ldr = 2 then s.checkEnd ecc else s)

/-- A bank is rejected in VERIFYING (02 R74, R79): marked, and the package takes its next candidate in AON. -/
def State.verifyFail (s : State) (ecc : Bool) (detail step off : Nat) : State :=
  let k := s.vn .imgCand
  let s := (s.setBank k { s.bank k with rejected := true }).fallbackShow
  let s := ((s.wr F.IMG_STATUS_LOADER 0).ldrResult .eImage detail step off).when ecc fun s => s.event 0x04 0
  (s.pkgTo Pkg.aon 3).candidate

/-- The role of hub k (16 R476). -/
def State.mirRole (s : State) (k : Nat) : Nat := if k = 0 then s.rd F.MIR_STATUS_ROLE_0 else s.rd F.MIR_STATUS_ROLE_1

/-- Set the role of hub k. -/
def State.mirSet (s : State) (k r : Nat) : State := if k = 0 then s.wr F.MIR_STATUS_ROLE_0 r else s.wr F.MIR_STATUS_ROLE_1 r

/-- The hub that is not active. -/
def State.mirOther (s : State) : Nat := 1 - s.rd F.MIR_STATUS_SELF

/-- What the acceptance of a full image does to the other hub, and to PRIMARY at the first (16 R476, R479). -/
def State.mirImage (s : State) (g : Image) : State :=
  let k := s.mirOther
  let r := s.mirRole k
  match g.mirror with
  | some m =>
    let s := s.when (r = 5 || r = 0) fun s => s.mirSet k 3
    s.when (s.v .priDone = 0) fun s => s.setV .priDone (if m.primary = 1 then 2 else 1)
  | none =>
    let s := s.when (r = 5 && k = 1) fun s => s.mirSet k 0
    s.when (s.v .priDone = 0) fun s => s.setV .priDone 1

/-- A full image is accepted (02 R69, R74): its bank becomes active, the hub-resident fields apply, and the package ramps. -/
def State.verifyOk (s : State) (g : Image) : State :=
  let k := s.vn .imgCand
  let s := s.setBank k { s.bank k with accepted := true, rejected := false }
  let s := (s.wr F.IMG_STATUS_ACTIVE_BANK k).fallbackShow
  let s := (s.wr F.IMG_STATUS_LOADER 0).ldrResult .ok 0 0 0
  let s := ((s.wr F.IMG_INFO_SVN g.svn).wr F.IMG_INFO_MINOR g.minor).wr F.IMG_INFO_PARAM_SEQ g.paramSeq
  let s := s.wr F.IMG_ID_IMAGE_ID g.imageId
  let s : State := { s with img := { s.img with active := some g.dropped, items := g.items, chain := 0, railOld := [], railPend := [] } }
  let s := s.each (List.range 14) fun s k => s.setV .eccSec 0 k
  ((s.mirImage g).hubFields.rampEnter 2).pkgRun

/-- VERIFY_DONE (02 R74); ecc: the check has met an uncorrectable ECC error in the bank. -/
def execVerifyDone (t : Nat) (ecc : Bool) (s : State) : Host.Outcome State Fault Refusal :=
  let s := s.start t
  .next (if s.ldr = 5 && s.pkg = Pkg.verify then
      if ecc then s.verifyFail true 0x0D 0 0
      else match s.check (s.vn .imgCand) with
        | .error e => s.verifyFail false e.1 e.1 e.2
        | .ok g => if g.delta then s.verifyFail false 7 7 6 else s.verifyOk g
    else s)

/-! ### PARAM (02 R76, R77) -/

/-- The parameter sections that carry fields to an island (02 R59): a leaf's, and a node engine's. -/
def fieldSecs (d : Nat) : List Nat := if isLeaf d then [3, 4, 6, 7, 11, 12] else [0, 1, 5, 11]

/-- Send the image fields due to the islands beneath a domain that the hub reaches (02 R77). -/
def State.fieldsSend (s : State) (c : Nat) : State :=
  s.each (s.subtree c) fun s d =>
    if s.v .keyUp d = 1 && (s.path d).all (fun x => Nat.beq (s.chSt (s.parentEnd x)) Ch.up) then
      match s.hop hubDom d with
      | some h => (s.setV .keyUp 0 d).sendDown h Mt.param (paramPayload d 0) |>.2
      | none => s
    else s

/-- PARAM reaches its island (02 R76, R77, R79): fields, unless a section that carries some holds an uncorrectable error; items,
which go to the shadow and are confirmed; the activation stamp. -/
def State.paramTake (s : State) (d kind : Nat) : State :=
  if kind = 0 then
    if (fieldSecs d).any fun k => s.v .eccSec k = 1 then
      (s.when (isLeaf d) fun s => s.setV .safeHold 1 (domNum d)).emit (.status d .eImage)
    else (s.islandFields d).pkgRun
  else if kind = 3 then
    match s.img.delta with
    | some r => s.setV .dltTa (r.tA.getD 0) d
    | none => s
  else if s.v .islFields d = 1 then s.sendUp d Mt.param (paramPayload d 2)
  else s

/-- A confirmation reaches the hub (02 R76). -/
def State.paramConfirm (s : State) (d : Nat) : State :=
  match s.img.delta with
  | some r =>
    if r.wait.contains d then
      (s.setDelta (some { r with wait := r.wait.filter fun y => !Nat.beq y d, conf := r.conf ++ [d] })).deltaReady
    else s
  | none => s

/-- PARAM (02 R76): downward to its island, upward with a confirmation; node engines forward it. -/
def execParamMsg (t : Nat) (e : ChEnd) (tag d kind : Nat) (s : State) : Host.Outcome State Fault Refusal :=
  .next ((s.start t).deliver e tag fun s =>
    let x := endDom e
    if endIsParent e then
      if x = hubDom then (if kind = 2 then s.paramConfirm d else s) else s.sendUp x Mt.param (paramPayload d kind)
    else if x = d then s.paramTake d kind
    else match s.hop x d with
      | some c =>
        let (ok, s) := s.sendDown c Mt.param (paramPayload d kind)
        if ok then s else if kind = 1 then s.deltaAbsent d else s.when (Nat.beq kind 0) fun s => s.setV .keyUp 1 d
      | none => s)

end Sys2Proof.Machine
end

