-- ==== Sys2Proof/Machine/Chan.lean ====
section
/-!
DEFINITION. The life of a channel (03 R95 to R105): ALIVE levels, the exchange of HELLO, fences, and what a change of a child
channel brings about at its parent and at the hub.
-/
namespace Sys2Proof.Machine

/-! ### What a child channel's change brings about -/

/-- The levels of flag kind whose instances lie beneath a domain go to 0 (14 R423). -/
def State.levelsFall (s : State) (d : Nat) : State :=
  s.each (s.evt.levels.filter fun p => s.beneath (s.levelDom p.1 p.2) d && !(s.levelDom p.1 p.2 = hubDom)) fun s p => s.evtClear p.1 p.2

/-! ### Fences (03 R102, R103) -/

/-- The fence of a parent end has completed: at a node engine its own FENCE goes on; at the hub, the loader resumes the channel
and a ramp-down goes on (03 R102, R103). -/
def State.fenceDone (s : State) (e : ChEnd) (bad : Bool) : State :=
  let s := s.setV .chFence 0 (endNum e)
  let d := endDom e
  if d = hubDom then
    if s.v .ldrFence (endNum e) = 1 then (s.setV .ldrFence 0 (endNum e)).resumeEnd e
    else (s.when (decide (s.v .downFor = 0) && !s.islPlanned) fun s => s.resumeUp).pkgRun
  else (s.when bad fun s => s.setV .chFenceBad 1 d).fenceProgress d

/-- A fence of a parent end that its channel's fall cuts short completes with E_ABSENT (03 R95). -/
def State.fenceCut (s : State) (e : ChEnd) (was : Nat) : State :=
  if was = Ch.fencing then s.fenceDone e true else s

/-! ### DOWN and LINKING -/

/-- A delta and the channel of a domain that falls (02 R76; 03 R104, R105): islands that have not confirmed are skipped, and the
channels of confirmed ones are held in DOWN until tA. -/
def State.deltaFall (s : State) (d : Nat) : State :=
  match s.img.delta with
  | none => s
  | some r =>
    let s := s.each (r.conf.filter fun x => s.beneath x d) fun s x => s.setV .chHold 1 (endNum (s.parentEnd x))
    s.each (r.wait.filter fun x => s.beneath x d) fun s x => s.deltaAbsent x

/-- The end forgets what it holds of the old epoch (03 R98, R100). -/
def State.endForget (s : State) (e : ChEnd) : State :=
  let s : State := { s with chan := { s.chan with
    quar := s.chan.quar.filter fun p => !(p.1 = e)
    await := s.chan.await.filter fun p => !(p.1 = e)
    rspWait := s.chan.rspWait.filter fun p => !(p.1 = e) } }
  (s.setV .chAckSent 0 (endNum e)).setV .chAckRcvd 0 (endNum e)

/-- A parent end leaves UP, FENCING or FENCED (03 R95, R100): the guard answers, and what hangs on the channel follows. -/
def State.parentLeaves (s : State) (e : ChEnd) (st : Nat) : State :=
  let was := s.chSt e
  match s.endChild e with
  | none => (s.chW e F.HUB_CHAN_STATE st).endForget e
  | some d =>
    let s := s.footShift fun s => s.chW e F.HUB_CHAN_STATE st
    let s := ((s.fenceCut e was).guardAll e).endForget e
    let s := s.each (s.subtree d) fun s x => s.setV .keyUp 1 x
    if 2 ≤ was then ((s.deltaFall d).upChanged d).gbAll else s

/-- An end goes to DOWN (03 R95, R98): its epoch advances. -/
def State.endDown (s : State) (e : ChEnd) : State :=
  if s.chSt e = Ch.down then s
  else
    let s := s.setV .chHello 0 (endNum e)
    let s := s.chW e F.HUB_CHAN_EPOCH (s.ch e F.HUB_CHAN_EPOCH + 1)
    if endIsParent e then
      let s := (s.parentLeaves e Ch.down).laneDrop e
      match s.endChild e with
      | some d => ((s.syncAbsent d).syncFlush).levelsFall d
      | none => s
    else (((s.chW e F.HUB_CHAN_STATE Ch.down).endForget e).laneDrop e).setV .chFenceUp 0 (endDom e)

/-- An island whose ALIVE falls while the reset tree does not hold it has been reset by the licensee's logic, with everything
beneath it (03 R84, R98). -/
def State.islandFell (s : State) (d : Nat) : State :=
  s.each ((s.subtree d).filter fun x => s.v .islHeld x = 0) fun s x => (s.islandClear x true).setV .chWhy 1 x

/-- CHAN_ALIVE_FALL (03 R95): the far ALIVE level falls at an end. -/
def execChanAliveFall (t : Nat) (e : ChEnd) (s : State) : Host.Outcome State Fault Refusal :=
  let s := s.start t
  .next (
    let s := s.chW e F.HUB_CHAN_FAR_ALIVE 0
    let s := match s.endChild e with
      | some d => (s.islandFell d).setV .islAlive 0 d
      | none => s
    (s.endDown e).pkgRun)

/-- An end in LINKING that has both sent and received HELLO_ACK (03 R96, R106; 02 R77; 06 R181): UP where the values agree, with
what follows; else HELLO again. -/
def State.linkStep (s : State) (e : ChEnd) (again : State → State) : State :=
  let a := s.vn .chAckSent (endNum e)
  let b := s.vn .chAckRcvd (endNum e)
  if a = 0 || b = 0 then s
  else if a = b then
    let up (s : State) : State := (s.chW e F.HUB_CHAN_STATE Ch.up).chW e F.HUB_CHAN_EPOCH (a - 1)
    let s := s.endForget e
    match s.endChild e with
    | some d =>
      let s := (s.setV .timeSent 0 (endNum e)).footShift fun s => (up s).each (s.leavesIn d) fun s l => s.footTake l
      let s := (((s.grantAll d).needRecompute (s.leavesIn d) false).gbAll).deltaSend d
      s.fieldsSend d
    | none =>
      let d := endDom e
      let s := s.footShift fun s => (up s).each (s.leavesIn d) fun s l => s.footTake l
      let s := (s.needRecompute (s.leavesIn d) false).gbAll
      match e with
      | .leaf n => ((s.setV .timeAt s.time n).winBreak n).fieldsSend (leafDom n)
      | .node n 0 => s.fieldsSend (nodeDom n)
      | _ => s
  else again (s.chInc e F.HUB_CHAN_STALE_DROPS)

/-- The HELLO that an end sends again, with the REASON of its exchange (03 R87, R96). -/
def State.helloAgain (s : State) (e : ChEnd) : State := s.sayHello e (s.vn .chReason (endNum e))

/-- A received HELLO in LINKING (03 R96). -/
def State.helloTake (s : State) (e : ChEnd) (far : Nat) : State :=
  (s.helloAck e far).linkStep e fun s => s.helloAgain e

/-- CHAN_ALIVE_RISE (03 R95, R104; 13 R409): both ALIVE levels are high at an end in DOWN. A channel that the loader holds stays in
DOWN. A HELLO that came in DOWN is taken now. -/
def execChanAliveRise (t : Nat) (e : ChEnd) (s : State) : Host.Outcome State Fault Refusal :=
  let s := s.start t
  let own := endDom e
  let far := match s.endChild e with | some d => d | none => s.parent own
  let isOut (d : Nat) : Bool := d = hubDom || (s.hasDom d && s.v .islHeld d = 0)
  .next (if s.chSt e = Ch.down && isOut own && isOut far && !(own = hubDom && far = hubDom) then
      let s := s.chW e F.HUB_CHAN_FAR_ALIVE 1
      let s := s.when (endIsParent e) fun s => (s.setV .islAlive 1 far).setV .islRel (-1) far
      if s.v .chHold (endNum e) = 1 then s
      else
        let s := (s.chW e F.HUB_CHAN_STATE Ch.linking).endForget e
        (s.sayHello e (s.vn .chWhy ((s.endChild e).getD own))).helloStored e
    else s)

/-- HELLO (03 R95, R96), by the state of the end that receives it. -/
def execHello (t : Nat) (e : ChEnd) (epoch : Nat) (s : State) : Host.Outcome State Fault Refusal :=
  let s := s.start t
  let far := epoch % 65536
  .next (if s.chSt e = Ch.down then s.setV .chHello (far + 1) (endNum e)
    else if s.chSt e = Ch.linking then s.helloTake e far
    else
      let s := if endIsParent e then s.parentLeaves e Ch.linking else (s.chW e F.HUB_CHAN_STATE Ch.linking).endForget e
      ((s.sayHello e 4).helloTake e far).pkgRun)

/-- HELLO_ACK (03 R96): counted only in LINKING. -/
def execHelloAck (t : Nat) (e : ChEnd) (epoch : Nat) (s : State) : Host.Outcome State Fault Refusal :=
  let s := s.start t
  .next (if s.chSt e = Ch.linking then
      ((s.setV .chAckRcvd (epoch % 65536 + 1) (endNum e)).linkStep e fun s => s.helloAgain e).pkgRun
    else s)

/-! ### FENCE and FENCE_ACK -/

/-- A FENCE at its child end (03 R102): with SCOPE 1 the island fences its own children first. -/
def State.fenceTake (s : State) (d scope id : Nat) : State :=
  let s := (s.setV .chFenceUp (id % 256 + 1) d).setV .chFenceBad 0 d
  let s := s.when (scope = 1) fun s => s.each (s.childEnds d) fun s e =>
    let (done, s) := s.fenceIssue e 1
    s.when (decide (done = some .eAbsent)) fun s => s.setV .chFenceBad 1 d
  s.fenceProgress d

/-- FENCE (03 R102). -/
def execFence (t : Nat) (e : ChEnd) (tag scope id : Nat) (s : State) : Host.Outcome State Fault Refusal :=
  .next ((s.start t).deliver e tag fun s =>
    if endIsParent e then s.evFrom (endDom e) 0x05 (s.endInst e) else s.fenceTake (endDom e) (scope % 2) id)

/-- FENCE_ACK (03 R95, R102): from FENCING to FENCED; in UP it is dropped with CHAN_PROTO, and elsewhere dropped. -/
def execFenceAck (t : Nat) (e : ChEnd) (tag id st : Nat) (s : State) : Host.Outcome State Fault Refusal :=
  .next ((s.start t).deliver e tag fun s =>
    if !endIsParent e || s.chSt e = Ch.up then s.evFrom (endDom e) 0x05 (s.endInst e)
    else if s.chSt e = Ch.fencing && Nat.beq (s.vn .chFence (endNum e)) (id % 256 + 1) then
      (s.chW e F.HUB_CHAN_STATE Ch.fenced).fenceDone e (!Nat.beq (st % 256) 0)
    else s)

/-- FENCE_TIMEOUT (03 R95): 10 µs after a FENCE without FENCE_ACK. -/
def execFenceTimeout (t : Nat) (e : ChEnd) (s : State) : Host.Outcome State Fault Refusal :=
  let s := s.start t
  .next (if s.chSt e = Ch.fencing && Nat.ble (s.vn .chFenceAt (endNum e) + 10000) s.time then
      let s := (s.chW e F.HUB_CHAN_STATE Ch.fenced).chFlag e F.HUB_CHAN_FENCE_TO
      (s.evFrom (endDom e) 0x06 (s.endInst e)).fenceDone e true
    else s)

end Sys2Proof.Machine
end

