-- ==== Sys2Proof/Machine/EstCmd.lean ====
section
/-!
DEFINITION. The commands of estimation and measurement (04; 01 R30), and the close of the hub's 1 µs interval (04 R125 to R136;
06 R178; 09 R282; 17 R501).
-/
namespace Sys2Proof.Machine

/-! ### A leaf's slot and interval -/

/-- Whether a leaf's engine runs: out of reset, with its image fields (02 R77). -/
def State.leafRuns (s : State) (l : Nat) : Bool :=
  s.leaves.contains l && s.v .islHeld (leafDom l) = 0 && s.v .islFields (leafDom l) = 1

/-- The cycles that local throttle cells removed in a slot, in the selectors of code 7 (17 R502). -/
def State.cntRemoved (s : State) (l slot : Nat) (removed : List (Nat × Nat)) : State :=
  let a := 64 * slot
  s.each removed fun s x =>
    s.each ((s.selsOf l 7 a).filter fun k => Nat.beq (s.selF l k F.LEAF_CNT_SEL_TCELL a) x.1) fun s k =>
      s.cntAdd l (0x20 + k) 16 x.2 a

/-- Whether a count is stamped in slot k (04 R113). -/
def inSlot (k : Nat) (a : Act) : Bool := Nat.ble (64 * k) a.time && Nat.blt a.time (64 * k + 64)

/-- LEAF_SLOT_CLOSE (04 R111 to R116): the slot, the reports that the leaf has not taken yet, and the cycles that local throttle
cells removed. A report of a later slot waits for the close of its own. -/
def execLeafSlotClose (t l slot : Nat) (reps : List Rep) (removed : List (Nat × Nat)) (s : State) :
    Host.Outcome State Fault Refusal :=
  let s := s.start t
  .next (if s.leafRuns l && decide (s.v .slotNext l ≤ slot) && Nat.ble (64 * slot + 64) s.time then
      let acts := s.repsActs l reps
      let all := (s.slotActs.filter fun x => Nat.beq x.1 l).map (·.2) ++ acts
      let mine := all.filter (inSlot slot)
      let later := (all.filter fun a => Nat.ble (64 * slot + 64) a.time).map fun a => (l, a)
      let s : State := { s with slotActs := s.slotActs.filter (fun x => !Nat.beq x.1 l) ++ later }
      let s := (((s.repMark l reps).cntActs l acts).cntRemoved l slot removed).setV .slotNext (slot + 1 : Nat) l
      let s := (s.leafSlot l slot mine).convAccum l (64 * slot / 1000) mine
      s.periodSlot l slot (sumNat ((s.leafRails l).zipIdx.map fun rk => s.rd F.LEAF_EST_EST l rk.2))
    else s)

/-- LEAF_INTERVAL_CLOSE (04 R123, R129; 06 R185 to R188): the leaf's interval number. Its last slot ends at the first slot boundary at
or after its close. -/
def execLeafIntervalClose (t l j : Nat) (s : State) : Host.Outcome State Fault Refusal :=
  let s := s.start t
  .next (if s.leafRuns l && decide (s.v .ivNext l ≤ j) && Nat.ble (((1000 * j + 999) / 64 + 1) * 64) s.time then
      let s := (s.convRoll l j).setV .ivNext (j + 1 : Nat) l
      let s := s.when (!(s.v .estSlots l j = 0)) fun s => s.leafInterval l j
      let s := ((s.intervalDone l j).leakUpdate l).convert l
      s.when (Nat.beq ((j + 1) % 1000) 0) fun s => s.leafGroupsReport l (j / 1000)
    else s)

/-! ### Messages on the way up -/

/-- A message that travels only upward, from a child: the parent end's domain and the child; another end refuses it with
CHAN_PROTO (0x05). -/
def State.upMsg (s : State) (e : ChEnd) (tag : Nat) (rsvd : Bool) (f : Nat → Nat → State → State) : State :=
  s.deliver e tag fun s =>
    match s.endChild e with
    | some c => if rsvd then s.evFrom (endDom e) 0x05 (s.endInst e) else f (endDom e) c s
    | none => s.evFrom (endDom e) 0x05 (s.endInst e)

/-- Package F_fast of a slot joins the interval in which the slot starts (06 R178). -/
def State.pkgFast (s : State) (slot : Nat) : State :=
  let j := 64 * slot / 1000
  (s.addV .exSum (sumNat (s.railNums.map fun r => s.rd F.RAIL_FUSED_FAST r)) 0 j).addV .exN 1 0 j

/-- EST trace frames, every EST_DIV slots, one per rail (17 R522). -/
def State.estFrames (s : State) : State :=
  let n := s.vn .estDiv + 1
  if n < s.par Sec.trace 0x0003 idxAll 0 2 16 then s.setV .estDiv n
  else
    s.each s.railNums (fun s r =>
      s.frame 1 0 r s.time (s.rd F.RAIL_ESTM_EST_FAST r + 2 ^ 32 * s.rd F.RAIL_FUSED_FAST r)
        (min (2 ^ 32 - 1) (s.vn .latestM r) + 2 ^ 32 * s.rd F.RAIL_FUSE_STATUS_STATE r)) |>.setV .estDiv 0

/-- A domain forms and sends its sums of a slot (01 R30; 04 R132). -/
def State.slotSum (s : State) (d slot : Nat) : State :=
  let s := s.setV .estSlotAt (slot + 1 : Nat) d (slot % 16)
  if d = hubDom then ((s.hubSlotEst slot).pkgFast slot).estFrames else s.nodeSlot (domNum d) slot

/-- Whether a domain has summed a slot. -/
def State.slotSent (s : State) (d slot : Nat) : Bool := decide (s.v .estSlotAt d (slot % 16) = (slot + 1 : Nat))

/-- ESTIMATE (01 R30; 03 R91): rails A and B (0x1F for none), slot, and their estimates. A report of a slot whose sum has left counts
as its child's last. -/
def execEstimate (t : Nat) (e : ChEnd) (tag ra rb slot ea eb : Nat) (s : State) : Host.Outcome State Fault Refusal :=
  .next ((s.start t).upMsg e tag false fun d c s =>
    let k := s.slotNum slot
    let s := (s.estTake c (ra % 32) k (ea % 2 ^ 25)).estTake c (rb % 32) k (eb % 2 ^ 25)
    if !s.slotSent d k && s.estAll d k then s.slotSum d k else s)

/-- ESTIMATE_SLOT_TIMEOUT (01 R30): the slot after the expected one has ended at a domain with a child's report of a slot missing. -/
def execEstimateSlotTimeout (t d slot : Nat) (s : State) : Host.Outcome State Fault Refusal :=
  let s := s.start t
  .next (if (s.hasDom d && !isLeaf d && s.v .islHeld d = 0 || d = hubDom && s.hubUp) && s.estOver d slot then
      if s.slotSent d slot then s
      else
        let s := s.when (isNode d) fun s => s.incSat F.NODE_STATUS_STALE_EST (s.estMissing d slot) (domNum d)
        s.slotSum d slot
    else s)

/-- INTERVAL_REPORT (04 R128, R130, R131): a reserved MKIND is dropped with CHAN_PROTO. -/
def execIntervalReport (t : Nat) (e : ChEnd) (tag leaf ra rb seq pa pb : Nat) (rsvd : Bool) (s : State) :
    Host.Outcome State Fault Refusal :=
  .next ((s.start t).upMsg e tag rsvd fun d _ s =>
    if d = hubDom then (s.ivTake (leaf % 512) (ra % 32) seq (pa % 2 ^ 18)).ivTake (leaf % 512) (rb % 32) seq (pb % 2 ^ 18)
    else
      let keep (s : State) (r p : Nat) : State :=
        if r = 0x1F then s else s.setV .nivLast (8 * p : Nat) (512 * domNum d + leaf % 512) r
      let s := keep (keep s (ra % 32) (pa % 2 ^ 18)) (rb % 32) (pb % 2 ^ 18)
      s.sendUp d Mt.measure (intervalPayload leaf ra rb seq pa pb))

/-- GROUP_REPORT (04 R128, R130): ENERGY in µJ. -/
def execGroupReport (t : Nat) (e : ChEnd) (tag nleaf rail g seq : Nat) (en : Int) (s : State) :
    Host.Outcome State Fault Refusal :=
  .next ((s.start t).upMsg e tag false fun d c s =>
    let r := rail % 32
    let g := g % 8
    if d = hubDom then s.groupHub r g (nleaf % 1024) seq en
    else s.grpAtNode (domNum d) c (nleaf % 1024) r g (seq % 16) en)

/-- GROUP_SUM_TIMEOUT (04 R130): a node sends the sums of a KNEAD window that it has not sent, 10 µs after its close. -/
def execGroupSumTimeout (t n w : Nat) (s : State) : Host.Outcome State Fault Refusal :=
  let s := s.start t
  .next (if s.hasDom (nodeDom n) && s.v .islHeld (nodeDom n) = 0 && Nat.ble ((w + 1) * 1000000 + 10000) s.time then
      s.each (List.range 256) fun s k =>
        if s.v .ngN n k = 0 || s.v .ngSent n k = (w % 16 + 1 : Nat) then s else s.grpSend n (k / 8) (k % 8) w
    else s)

/-- APPLIED (05 R161): up to the loop's host, which records the applied value. -/
def execApplied (t : Nat) (e : ChEnd) (tag dom loop cls rail amt : Nat) (s : State) : Host.Outcome State Fault Refusal :=
  .next ((s.start t).upMsg e tag false fun d _ s =>
    match s.loop? (loop % 512) with
    | some r =>
      if r.host = d then s.appliedTake (loop % 512) (msgAmt (amt % 2 ^ 25))
      else if d = hubDom then s
      else s.sendUp d Mt.measure (appliedPayload dom loop cls rail (msgAmt (amt % 2 ^ 25)))
    | none => if d = hubDom then s else s.sendUp d Mt.measure (appliedPayload dom loop cls rail (msgAmt (amt % 2 ^ 25))))

/-! ### The hub's interval -/

/-- EDP exhaustion at the close of interval j (06 R178). DESIGN CHOICE: of several loops with LIMIT_KIND 0 the lowest EDP_SP_AFTER and
EDP_TIME and the highest EDP_RECOVER count, for EXC_CNT is one (log entry 107). -/
def State.edpRun (s : State) (j : Nat) : State :=
  let sum := s.v .exSum 0 j
  let n := s.v .exN 0 j
  let s := (s.dropV .exSum 0 fun x => Nat.ble x j).dropV .exN 0 fun x => Nat.ble x j
  let ls := (s.loops.map (·.loop)).filter fun l => Nat.beq (s.rd F.LOOP_CFG_LIMIT_KIND l) 0
  if ls.isEmpty then s
  else
    let time := ls.foldl (fun b l => min b (s.par Sec.limits 0x0003 l 0 2 20)) 65535
    let rec_ := ls.foldl (fun b l => max b (s.par Sec.limits 0x0004 l 0 2 20)) 0
    let hi := ls.any fun l => decide (s.parI Sec.limits 0x0002 l 0 4 0x7FFF_FFFF * 1000 * n < sum * 65536)
    let c := s.rd F.HUB_CAPS_EXC_CNT
    if s.is F.HUB_CAPS_EDP_EXH then
      if hi then s.wr F.HUB_CAPS_EXC_CNT 0
      else if rec_ ≤ c + 1 then (s.wr F.HUB_CAPS_EDP_EXH 0).wr F.HUB_CAPS_EXC_CNT 0
      else s.wr F.HUB_CAPS_EXC_CNT (c + 1)
    else if !hi then s.wr F.HUB_CAPS_EXC_CNT 0
    else if time ≤ c + 1 then ((s.wr F.HUB_CAPS_EDP_EXH 1).wr F.HUB_CAPS_EXC_CNT 0).event 0x1A 0
    else s.wr F.HUB_CAPS_EXC_CNT (c + 1)

/-- Add nJ to an energy counter of the global bank, which reads in µJ (17 R494, R501). -/
def State.gEnergy (s : State) (i : Nat) (nj : Int) : State :=
  let s := s.addV .gNj nj i
  s.wr F.CNT_GLOBAL_VAL (s.vn .gNj i / 1000) i

/-- The LIMIT_KINDs whose loops committed the lowest root value in class AVG (17 R501). -/
def State.capKinds (s : State) : List Nat :=
  match s.hubCommit fun _ => true with
  | none => []
  | some m => (List.range 7).filter fun k => s.hubCommit (Nat.beq k) == some m

/-- The global counters of an interval (17 R501) and RISE exposure (09 R282). -/
def State.ivCounters (s : State) : State :=
  let s := s.each s.railNums fun s r =>
    let f := s.rd F.RAIL_FUSED_F1US r
    let s := (s.gEnergy r f).gEnergy (0x20 + r) (s.rd F.RAIL_ESTM_EST_1US r)
    let s := s.gEnergy 0x40 f
    let off := s.rd F.RAIL_RISE_OFFSET r
    let s := s.addV .riseExpo off r
    let s := s.wr F.RAIL_RISE_EXPO_EXPO (min (2 ^ 32 - 1) (s.vn .riseExpo r / 2)) r
    let s := s.addV .gNj off 0xA2
    s.wr F.CNT_GLOBAL_VAL (s.vn .gNj 0xA2 / 2) 0xA2
  let s := s.each s.capKinds fun s k => s.gCount (0x50 + k) 1
  (s.gEnergy 0xA3 (s.v .leaseLent)).gEnergy 0xA4 (s.v .leaseBorrowed)

/-- The context energy of the interval that starts at a stamp: no rule says how it is formed, so each slot's is a free value
(17 R494, R509). -/
def State.ctxEnergy (s : State) (from_ : Nat) : State :=
  let s := s.each slots16 fun s c =>
    let e := Config.freeValue (s.free + c)
    let s := s.addV .ctxNj e c
    let s := s.wr F.CNT_CTX_E_VAL ((s.v .ctxNj c - s.v .ctxNj0 c).toNat / 1000) c
    let ps := s.latch.pts.map fun p => if Nat.beq p.ctx c && !p.done && Nat.blt from_ p.tL then { p with nj := p.nj + e } else p
    { s with latch := { s.latch with pts := ps } }
  { s with free := s.free + 16 }

/-- COUNT trace frames, every 1 ms, one per CNT_SEL entry (17 R522, R531). -/
def State.countFrames (s : State) : State :=
  s.each ((List.range 8).map fun k => s.par Sec.trace 0x0005 idxAll (2 * k) 2 (if k = 0 then 0x0040 else 0xFFFF)) fun s i =>
    if i = 0xFFFF then s else s.frame 0 0 i s.time (s.rd F.CNT_GLOBAL_VAL i) 0

/-- HUB_INTERVAL_CLOSE (04 R125 to R136): interval j of the hub time base closes. -/
def State.hubInterval (s : State) (j : Nat) : State :=
  let s := s.each s.railNums fun s r => (s.railInterval r j).railDone r j
  let s := (s.addV .fHistN 1 0).setV .hubIv j
  let s := s.when (!(s.pkg = Pkg.run || s.pkg = Pkg.hold)) fun s => s.setV .kwPkg 1 0 (j / 1000 % 16)
  let s := (s.addV .telM (sumNat (s.railNums.map fun r => s.rd F.RAIL_FUSED_F1US r))).addV .telE
    (sumNat (s.railNums.map fun r => s.rd F.RAIL_ESTM_EST_1US r))
  let s := ((s.addV .telN 1).ivCounters).ctxEnergy (1000 * j)
  let s := ((s.smpWatch j).edpRun j).vfRun
  s.when (Nat.beq ((j + 1) % 1000) 0) fun s => s.countFrames

/-- HUB_INTERVAL_CLOSE: once for each interval, from its close. -/
def execHubIntervalClose (t j : Nat) (s : State) : Host.Outcome State Fault Refusal :=
  let s := s.start t
  .next (if s.hubUp && s.img.active.isSome && decide (s.v .hubIv < j) && Nat.ble (1000 * j + 1000) s.time then s.hubInterval j else s)

/-! ### KNEAD -/

/-- KNEAD_WINDOW_CLOSE (04 R138 to R140): window w, once, from its close; no run where KNEAD does not run (01 R51), nor for a rail
without phase channels. -/
def execKneadWindowClose (t w : Nat) (s : State) : Host.Outcome State Fault Refusal :=
  let s := s.start t
  .next (if s.hubUp && decide (s.v .kwDone < w) && Nat.ble (1000000 * w + 1000000) s.time then
      if Nat.ble Pkg.run s.pkg && s.img.active.isSome then
        if s.bgDue 3 then
          let s := s.bgStart 3
          let s := s.each s.railNums fun s r => if s.rd F.RAIL_FUSE_STATUS_STATE r = 3 then s else s.kneadRail r w
          (s.kneadClear w).bgEnd 3
        else s
      else s.kneadClear w
    else s)

/-- LEAF_THETA_WRITE (04 R140): the hub's command at a leaf. -/
def execLeafThetaWrite (t l k : Nat) (hi : Bool) (w : Nat) (s : State) : Host.Outcome State Fault Refusal :=
  let s := s.start t
  .next (if s.leaves.contains l && s.v .islHeld (leafDom l) = 0 then
      (s.thetaWrite l (k % 4) hi (w % 2 ^ 64)).emit (.status (leafDom l) .ok)
    else s)

/-- RAIL_KNEAD.RESET (04 R141): the update of the last window, where it is still due, is discarded. -/
def State.kneadRst (s : State) (r : Nat) : Status × State :=
  let w : Int := (s.time / 1000000 : Nat) - 1
  if (s.rail? r).isNone then (.eAbsent, s)
  else if s.pkg = Pkg.hold || s.pkg = Pkg.tripped || s.pkg = Pkg.fail then
    let s := s.when (decide (s.v .kwDone < w)) fun s => s.setV .kwDrop w r
    (.ok, ((s.kneadReset r).thetaSend r).kneadTouch r s.time)
  else (.eRange, s)

/-- KNEAD_RESET (04 R141): a write of RAIL_KNEAD with RESET 1, and its FREEZE bit. -/
def execKneadReset (t : Nat) (p : Port) (r : Nat) (freeze : Bool) (s : State) : Host.Outcome State Fault Refusal :=
  .next ((s.start t).command p .RAIL_KNEAD (fun s =>
    let (st, s') := s.kneadRst r
    if st = .ok then (.ok, s'.wr F.RAIL_KNEAD_FREEZE (b2n freeze) r) else (st, s)) r)

end Sys2Proof.Machine
end

