-- ==== Sys2Proof/Machine/BudgetCmd.lean ====
section
/-!
DEFINITION. The commands of budgets (06): GRANT and NEED messages, faults of sub-gates and their rest, the LEVEL window.
-/
namespace Sys2Proof.Machine

/-- A message that travels only downward, at the end of a domain's parent channel; another end refuses it with CHAN_PROTO
(0x05). -/
def State.downMsg (s : State) (e : ChEnd) (tag : Nat) (rsvd : Bool) (f : Nat → State → State) : State :=
  s.deliver e tag fun s =>
    if endIsParent e || rsvd then s.evFrom (endDom e) 0x05 (s.endInst e) else f (endDom e) s

/-- A node engine sends a BUDGET message on toward a domain (06 R180); none leads to a domain that is not beneath it. -/
def State.budgetOn (s : State) (d dest payload : Nat) : State :=
  match s.hop d dest with
  | some c => (s.sendDown c Mt.budget payload).2
  | none => s

/-- GRANT (06 R177, R180): a parent's grant, or with LC 1 a loop's commit; a reserved BKIND, or a grant for another domain, is
dropped with CHAN_PROTO. -/
def execGrant (t : Nat) (e : ChEnd) (tag cls rail dest loop : Nat) (lc : Bool) (amt : Nat) (rsvd : Bool) (s : State) :
    Host.Outcome State Fault Refusal :=
  .next ((s.start t).downMsg e tag rsvd fun d s =>
    let a := msgAmt (amt % 2 ^ 25)
    let lp := if lc then some (loop % 512) else none
    if dest % 65536 = d then s.grantAt d (cls % 4) (rail % 32) lp a
    else if lc then s.budgetOn d (dest % 65536) (grantPayload cls rail dest lp a)
    else s.evFrom d 0x05 (s.endInst e))

/-- NEED (06 R180, R181). -/
def execNeed (t : Nat) (e : ChEnd) (tag child weight node need : Nat) (s : State) : Host.Outcome State Fault Refusal :=
  .next ((s.start t).downMsg e tag false fun d s =>
    if nodeDom (node % 64) = d then s.needAt d (child % 64 + 1) (need % 2 ^ 25) (weight % 65536)
    else s.budgetOn d (nodeDom (node % 64)) (needPayload child weight node need))

/-! ### Faults of sub-gates (06 R195, R196) -/

/-- Hold, or let go, a sub-gate's shares. -/
def State.shareHold (s : State) (l q : Nat) (b : Bool) : State :=
  s.each (List.range 6) fun s c => s.setV .shHold (b2n b) l (8 * q + c)

/-- The level of GATE_FAULT of a gate: either sub-gate's flag. -/
def State.gateFlag (s : State) (l q : Nat) : State :=
  let lvl := s.sgFault l (2 * sgPort q) || s.sgFault l (2 * sgPort q + 1)
  s.evFrom (leafDom l) 0x1F (s.logicalOf 3 l (sgPort q)) 0 lvl

/-- GATE_FAULT (06 R195; 20 R583): GP_FAULT of a sub-gate rises. On an unsplit gate, one with sub-gate B disabled, it is a fault on
sub-gate A; a REST that runs is not extended (06 R196). -/
def execGateFault (t l q : Nat) (s : State) : Host.Outcome State Fault Refusal :=
  let s := s.start t
  let q := if Nat.beq (q % 2) 1 && !s.sgEn l q then q - 1 else q
  .next (if s.v .islHeld (leafDom l) = 0 && (s.subGates l).contains q then
      let s := s.flag (sgF q F.LEAF_GATE_FAULT_A F.LEAF_GATE_FAULT_B) l (sgPort q)
      let s := s.when (!s.sgRest l q) fun s =>
        s.setV .restEnd (s.time + 1000 * s.par Sec.timing 0x0003 idxAll 0 4 200 : Nat) l q
      let s := s.wr (sgF q F.LEAF_GATE_REST_A F.LEAF_GATE_REST_B) 1 l (sgPort q)
      let s := s.when (s.v .dropped l q = 0) fun s => s.shareHold l q true
      ((s.gateEff l q).creditRevoke l q).gateFlag l q
    else s)

/-- REST_END (06 R196): the sub-gate leaves the split; the hub forms NEED again when the event reaches it. -/
def execRestEnd (t l q : Nat) (s : State) : Host.Outcome State Fault Refusal :=
  let s := s.start t
  .next (if s.sgRest l q && Nat.ble (s.vn .restEnd l q) s.time then
      let s := s.wr (sgF q F.LEAF_GATE_REST_A F.LEAF_GATE_REST_B) 0 l (sgPort q)
      let s := ((s.setV .dropped 1 l q).shareHold l q false).convert l
      s.evFrom (leafDom l) 0x20 (s.logicalOf 3 l (sgPort q))
    else s)

/-- A W1C of a sub-gate's FAULT, which stays while GP_FAULT is high (06 R196; 20 R583). -/
def State.faultClear (s : State) (l q : Nat) (low : Bool) : State :=
  let now := getBits (s.justSet .LEAF_GATE l (sgPort q)) (53 + q % 2) 1
  if s.sgFault l q && low && Nat.beq now 0 then
    let s := s.wr (sgF q F.LEAF_GATE_FAULT_A F.LEAF_GATE_FAULT_B) 0 l (sgPort q)
    let s := s.wr (sgF q F.LEAF_GATE_REST_A F.LEAF_GATE_REST_B) 0 l (sgPort q)
    let s := ((s.setV .dropped 0 l q).shareHold l q false).convert l
    (s.gateEff l q).gateFlag l q
  else s

/-- FAULT_CLEAR (06 R196): the hub's command at the leaf; the footprint and NEED follow a sub-gate that rejoins (07 R210, R219). -/
def execFaultClear (t l q : Nat) (low : Bool) (s : State) : Host.Outcome State Fault Refusal :=
  let s := s.start t
  .next (if s.leaves.contains l && s.v .islHeld (leafDom l) = 0 then
      (((s.faultClear l q low).footTake l).needRecompute [l] false).emit (.status (leafDom l) .ok)
    else s)

/-! ### LEVEL -/

/-- LEVEL_WINDOW (06 R201): a 10 ms window of the hub's time base has closed; the granted credits of the last one are kept. -/
def execLevelWindow (t : Nat) (s : State) : Host.Outcome State Fault Refusal :=
  let s := s.start t
  let w : Int := (s.time / 10000000 : Nat)
  .next (if s.hubUp && decide (s.v .levAt < w) then
      let s := s.each s.leaves fun s l => s.leafAcct l
      let ws := (List.range (s.time / 10000000)).filter fun (n : Nat) => decide (s.v .levAt ≤ (n : Int))
      let miss := s.leaves.any fun l => (s.subGates l).any fun q => ws.any fun (n : Nat) => decide (100000 < s.v .levHeld l (q + 64 * n))
      let s := (s.setV .levAt w).each s.leaves fun s l =>
        (s.dropV .levHeld l fun x => Nat.blt (x / 64) (s.time / 10000000)).dropV .levCred l fun x =>
          Nat.blt (x / 64 + 1) (s.time / 10000000)
      if s.mode = 1 && miss then (s.flag F.HUB_CAPS_LEVEL_MISS).event 0x1C 0 else s
    else s)

end Sys2Proof.Machine
end

