-- ==== Sys2Proof/Machine/Counter.lean ====
section
/-!
DEFINITION. Counters (17 R494 to R505): a leaf's window and latch reports, the sums of node engines, the hub's banks; the
latch writes (R506, R507); the TELEMETRY record (R513); a ring's control word (R517).
-/
namespace Sys2Proof.Machine

/-! ### At the leaf -/

/-- The payload of COUNTER (17 R497); slot 16 is unattributed. -/
def counterPayload (lk cidx slot seq nleaf delta : Nat) : Nat :=
  pack [(63, 1, lk), (57, 6, cidx), (53, 4, if slot = 16 then 0 else slot), (49, 4, seq), (39, 10, nleaf),
    (38, 1, b2n (Nat.beq slot 16)), (0, 38, min (2 ^ 38 - 1) delta)]

/-- The payload of END: LATE and the number of reports sent (17 R497); a latch's END names its context. -/
def endPayload (lk ctx seq count : Nat) (late : Bool) : Nat :=
  pack [(63, 1, lk), (57, 6, 0x3F), (53, 4, ctx), (49, 4, seq), (39, 10, 1), (37, 1, b2n late), (0, 16, min 65535 count)]

/-- Add a count under an index to a list of counts, one entry for each index. -/
def accJoin (l : List (Nat × Nat)) (x : Nat × Nat) : List (Nat × Nat) :=
  if l.any fun y => Nat.beq y.1 x.1 then l.map fun y => if Nat.beq y.1 x.1 then (y.1, y.2 + x.2) else y else l ++ [x]

/-- The non-zero counts of a leaf in an accumulator: (CIDX, slot, count), over the indices that a test selects. -/
def State.accOf (s : State) (x : Var) (l : Nat) (sel : Nat → Bool) : List (Nat × Nat × Nat) :=
  let es := (s.vars.filter fun p => decide (p.1.n = x) && Nat.beq p.1.i l && sel p.1.j).map fun p => (p.1.j % 2048, p.2.toNat)
  ((es.foldl accJoin []).map fun p => (p.1 % 64, p.1 / 64, p.2)).filter fun c => Nat.blt 0 c.2.2

/-- A leaf takes the reports that have come before a boundary within its open slot, and accounts the engine cycles; the counts wait
for the close of their slot. -/
def State.cntTake (s : State) (l : Nat) (reps : List Rep) : State :=
  let acts := s.repsActs l reps
  let s := (s.repMark l reps).cntActs l acts
  let s : State := { s with slotActs := s.slotActs ++ acts.map fun a => (l, a) }
  s.leafAcct l

/-- Reports and END of a leaf. -/
def State.leafReports (s : State) (l lk ctx seq : Nat) (late : Bool) (c : List (Nat × Nat × Nat)) : State :=
  let s := s.each c fun s x => s.sendUp (leafDom l) Mt.counter (counterPayload lk x.1 x.2.1 seq 1 x.2.2)
  s.sendUp (leafDom l) Mt.counter (endPayload lk ctx seq c.length late)

/-- LEAF_COUNTER_WINDOW (17 R497, R498): the close of the counter window that has closed last; reps are the reports that the leaf
has not taken yet. Each count falls in the window of its stamp (00 R8, R10). -/
def execLeafCounterWindow (t l : Nat) (reps : List Rep) (s : State) : Host.Outcome State Fault Refusal :=
  let s := s.start t
  let n := s.time / 10000
  .next (if s.leafRuns l && decide (s.v .cwNum l + 1 < (n : Int)) then
      let s := s.cntTake l reps
      let s := s.leafReports l 0 0 ((n - 1) % 16) false (s.accOf .cwAcc l fun j => Nat.blt (j / 2048) n)
      (s.dropV .cwAcc l fun j => Nat.blt (j / 2048) n).setV .cwNum ((n : Int) - 1) l
    else s)

/-- The hub's write of LEAF_CNT_LATCH at a leaf (17 R507; 19 R577): tL is completed from its 32 bits to the nearest stamp; one
that has passed is LATE, and the leaf splits now. What the open part of the accumulator holds was stamped before the split. -/
def State.latchTake (s : State) (l w : Nat) : State :=
  let d := toSigned 32 (w / 2 ^ 32 + 2 ^ 32 - s.time % 2 ^ 32)
  let tL := max 0 (s.time + d)
  let late := decide (tL ≤ s.time)
  let c := w % 16
  let n := w / 16 % 16
  let s := (s.leafAcct l).setReg .LEAF_CNT_LATCH (BitVec.ofNat 64 (w % 2 ^ 8 + 2 ^ 8 * b2n late + 2 ^ 32 * (w / 2 ^ 32 % 2 ^ 32))) l
  let s := s.setV .latPend (1 + 2 * max tL s.time + b2n late) l (c + 16 * n)
  let s := s.each ((List.range 64).map fun k => k + 64 * c) fun s k => s.addV .clAcc (s.v .clAcc l k) l (k + 2048 * (n + 1))
  s.dropV .clAcc l fun j => Nat.blt j 2048 && Nat.beq (j / 64) c

/-- LEAF_CNT_LATCH (17 R507): a leaf's split for a point of a context has passed: it reports what was stamped before the split. -/
def execLeafCntLatch (t l c num : Nat) (reps : List Rep) (s : State) : Host.Outcome State Fault Refusal :=
  let s := s.start t
  let c := c % 16
  let num := num % 16
  let v := s.vn .latPend l (c + 16 * num)
  let mine (j : Nat) : Bool := Nat.beq (j / 2048) (num + 1) && Nat.beq (j / 64 % 32) c
  .next (if s.leafRuns l && decide (0 < v) && Nat.ble ((v - 1) / 2) s.time then
      let s := s.cntTake l reps
      let s := s.leafReports l 1 c num (Nat.beq ((v - 1) % 2) 1) (s.accOf .clAcc l mine)
      (s.dropV .clAcc l mine).setV .latPend 0 l (c + 16 * num)
    else s)

/-! ### At a node engine -/

/-- The index of a sum. -/
def sumKey (lk cidx slot seq : Nat) : Nat := lk + 2 * (cidx + 64 * slot + 2048 * seq)

/-- The index of an END: a latch's by its context. -/
def endKey (lk ctx seq : Nat) : Nat := lk + 2 * seq + (if lk = 1 then 64 * ctx else 0)

/-- A node engine sends its sums of a SEQ, then its END; LATE where a child's was (17 R499). -/
def State.counterSend (s : State) (n lk ctx seq : Nat) : State :=
  let d := nodeDom n
  let ek := endKey lk ctx seq
  let mine (k : VarKey) : Bool :=
    decide (k.n = .cnLeaf) && Nat.beq k.i n && Nat.beq (k.j % 2) lk && Nat.beq (k.j / 4096) seq
      && (lk = 0 || Nat.beq (k.j / 128 % 32) ctx)
  let ks := (s.vars.filter fun p => mine p.1).map (·.1.j)
  let s := s.each ks fun s j =>
    s.sendUp d Mt.counter (counterPayload lk (j / 2 % 64) (j / 128 % 32) seq (s.vn .cnLeaf n j) (s.vn .cnSum n j))
  let s := s.each ks fun s j => (s.setV .cnLeaf 0 n j).setV .cnSum 0 n j
  let late := (s.children d).any fun c => s.v .cnEnd c ek = 2
  let s := s.sendUp d Mt.counter (endPayload lk ctx seq ks.length late)
  s.setV .cnSent 1 n ek

/-- Forget the marks of the SEQ that comes 8 later, so that it starts anew. -/
def State.counterForget (s : State) (d child lk ctx seq : Nat) : State :=
  let ek := endKey lk ctx ((seq + 8) % 16)
  let s := s.setV .cnEnd 0 child ek
  if isNode d then s.setV .cnSent 0 (domNum d) ek else s

/-- A COUNTER message at a node engine (17 R499). -/
def State.counterNode (s : State) (n c lk cidx slot seq nleaf delta : Nat) : State :=
  let ctx := if slot = 16 then 0 else slot
  let ek := endKey lk ctx seq
  if cidx = 0x3F then
    let s := (s.counterForget (nodeDom n) c lk ctx seq).setV .cnEnd (if bitOf delta 37 then 2 else 1) c ek
    let all := (s.children (nodeDom n)).all fun x => !s.childUp x || decide (s.v .cnEnd x ek ≠ 0)
    if all && s.v .cnSent n ek = 0 then s.counterSend n lk ctx seq else s
  else if s.v .cnSent n ek = 1 then s.sendUp (nodeDom n) Mt.counter (counterPayload lk cidx slot seq nleaf delta)
  else
    let k := sumKey lk cidx slot seq
    (s.addV .cnSum delta n k).addV .cnLeaf nleaf n k

/-- COUNTER_SUM_TIMEOUT (17 R499): 5 µs after a window's close a node sends what it has; no rule gives a latch's sums a time,
which is the command's own. -/
def execCounterSumTimeout (t n lk ctx seq : Nat) (s : State) : Host.Outcome State Fault Refusal :=
  let s := s.start t
  let lk := lk % 2
  let ctx := ctx % 16
  let seq := seq % 16
  let k0 := s.time / 10000 + 15
  let close := s.time / 10000 - (k0 - seq) % 16
  .next (if s.hasDom (nodeDom n) && s.v .islHeld (nodeDom n) = 0 && s.v .cnSent n (endKey lk ctx seq) = 0
        && (lk = 1 || Nat.ble (10000 * close + 5000) s.time) then
      s.counterSend n lk ctx seq
    else s)

/-! ### At the hub -/

/-- The global class total of a CIDX (17 R501). -/
def classTotal (cidx : Nat) : Option Nat :=
  if cidx ≤ 0x1A then some (0x60 + cidx) else if 0x20 ≤ cidx && cidx ≤ 0x27 then some (0x60 + cidx) else none

/-- The part of a window report that STARTER samples (07 R211, R212). -/
def State.smpAdd (s : State) (k cidx c delta : Nat) : State :=
  if cidx ≤ 7 then s.addV .smpRows delta c k
  else if cidx = 0x15 then s.addV .smpBud delta c k
  else if 0x16 ≤ cidx && cidx ≤ 0x18 then s.addV .smpOth delta c k
  else s

/-- A window report at the hub (17 R500, R504). -/
def State.winReport (s : State) (k cidx slot delta : Nat) : State :=
  match classTotal cidx with
  | none => s
  | some g =>
    let s := s.gCount g delta
    if slot = 16 then s.incWrap F.CNT_UA_VAL delta cidx
    else
      let s := s.when (decide (s.v .smpDone < k)) fun s => s.smpAdd k cidx slot delta
      if decide ((10000 * k : Nat) < s.v .swTime slot) then s else s.incWrap F.CNT_CTX_VAL delta slot cidx

/-- The newest latch point of a context with a latch number. -/
def State.latchOf (s : State) (c num : Nat) : Option LatchPt :=
  s.latch.pts.reverse.find? fun p => Nat.beq p.ctx c && Nat.beq p.num num

/-- Change a latch point. -/
def State.latchSet (s : State) (p : LatchPt) : State :=
  { s with latch := { s.latch with pts := s.latch.pts.map fun y => if Nat.beq y.ser p.ser then p else y } }

/-- A COUNTER message at the hub (17 R500, R508). -/
def State.counterHub (s : State) (c lk cidx slot seq delta : Nat) : State :=
  let ctx := if slot = 16 then 0 else slot
  let ek := endKey lk ctx seq
  if cidx = 0x3F then
    let s := (s.counterForget hubDom c lk ctx seq).setV .cnEnd (if bitOf delta 37 then 2 else 1) c ek
    if lk = 0 then s
    else
      match s.latchOf ctx seq with
      | some p => s.latchSet { p with ends := p.ends ++ [c], late := p.late || bitOf delta 37 }
      | none => s
  else
    let s := s.when (decide (s.v .cnEnd c ek ≠ 0)) fun s => s.incSat F.CNT_STATUS_LATE_REPS
    if lk = 0 then s.winReport (s.time / 10000 - 1 - (s.time / 10000 + 15 - seq) % 16) cidx slot delta
    else
      match s.latchOf ctx seq with
      | some p => s.latchSet { p with rep := p.rep.set cidx (p.rep.getD cidx 0 + delta) }
      | none => s

/-- COUNTER (17 R497, R499, R500): LK, CIDX, CTX, SEQ, NLEAF, UA, DELTA. -/
def execCounterMsg (t : Nat) (e : ChEnd) (tag lk cidx ctx seq nleaf : Nat) (ua : Bool) (delta : Nat) (s : State) :
    Host.Outcome State Fault Refusal :=
  .next ((s.start t).upMsg e tag false fun d c s =>
    let slot := if ua then 16 else ctx % 16
    let lk := lk % 2
    let cidx := cidx % 64
    let seq := seq % 16
    let delta := delta % 2 ^ 38
    if d = hubDom then s.counterHub c lk cidx slot seq delta
    else s.counterNode (domNum d) c lk cidx slot seq (nleaf % 1024) delta)

/-- COUNTER_WINDOW_COMPLETE (17 R500): every present child has sent END for window k, or 10 µs have passed. -/
def execCounterWindowComplete (t k : Nat) (s : State) : Host.Outcome State Fault Refusal :=
  let s := s.start t
  let all := s.cntKids.all fun d => decide (s.v .cnEnd d (endKey 0 0 (k % 16)) ≠ 0)
  .next (if s.hubUp && decide (s.v .smpDone < k)
        && Nat.ble ((k + 1) * 10000 + (if all then 0 else 10000)) s.time then
      (s.wr F.CNT_STATUS_WIN k).setV .smpDone k
    else s)

/-! ### Latch writes -/

/-- A write of CTX_LATCH in a context's page, or of CNT_LATCH (17 R506). -/
def State.latchWrite (s : State) (p : Port) (page : Option Nat) (c op k addr : Nat) : State :=
  if !s.hubUp then s.deadAnswer p
  else
    match page with
    | some g =>
      let (st, s) := s.latchOp (g % 16) op (k % 4) (addr % 2 ^ 42)
      s.answer p .CTX_LATCH st (g % 16)
    | none =>
      if !p.priv then s.answer p .CNT_LATCH .ePriv
      else
        let (st, s) := s.latchOp (c % 16) op (k % 4) (addr % 2 ^ 42)
        s.answer p .CNT_LATCH st

/-- LATCH_START (17 R506, R507): page of the context or CNT_LATCH, context, latch slot, CMD_ADDR [47:6]. -/
def execLatchStart (t : Nat) (p : Port) (page : Option Nat) (c k addr : Nat) (s : State) : Host.Outcome State Fault Refusal :=
  .next ((s.start t).latchWrite p page c 1 k addr)

/-- LATCH_END (17 R506, R507). -/
def execLatchEnd (t : Nat) (p : Port) (page : Option Nat) (c k addr : Nat) (s : State) : Host.Outcome State Fault Refusal :=
  .next ((s.start t).latchWrite p page c 2 k addr)

/-! ### Telemetry -/

/-- Whether TELEMETRY records are written (01 R51). -/
def State.telRuns (s : State) : Bool := [Pkg.ramp, Pkg.run, Pkg.hold, Pkg.sleep, Pkg.tripped, Pkg.fail].contains s.pkg

/-- The slips of every loop. -/
def State.slipSum (s : State) : Nat := sumNat (s.loops.map fun r => s.rd F.LOOP_COUNT_SLIPS r.loop)

/-- The TELEMETRY body (17 R513); T_MAX is a free value where no leaf temperature is usable. -/
def State.telBody (s : State) : List Byte × State :=
  let n := s.vn .telN
  let temps := (s.leaves.filter fun l => s.repUsable 0 l).map fun l => s.v .repTemp l
  let (tm, s) := match maxInt? temps with
    | some x => (x, s)
    | none => let (x, s) := s.freshFree; ((x : Int), s)
  let band := s.leaves.foldl (fun b l => max b (if s.repUsable 0 l then s.vn .repBand l else 5)) 0
  let level := s.leaves.foldl (fun b l => max b (s.vn .repLevel l)) 0
  let bad := (s.railNums.filter fun r => !Nat.beq (s.rd F.RAIL_FUSE_STATUS_STATE r) 0).length
  let dif (w : Nat) (x : Var) (now : Nat) : Nat := min (2 ^ w - 1) (now - s.vn x)
  let b := leBytes 4 (satU 32 (roundDiv (s.v .telM) n)) ++ leBytes 4 (satU 32 (roundDiv (s.v .telE) n))
    ++ leBytes 4 (s.rd F.HUB_BUDGET_AVG) ++ leBytes 4 (amtReg (s.hubCommit fun k => Nat.beq k 5)) ++ leBytes 2 (ofSigned 16 tm)
    ++ leBytes 1 s.pkg ++ leBytes 1 s.mode ++ leBytes 1 band ++ leBytes 1 level ++ leBytes 1 (getBits (s.reg .CRUST_LATCH) 0 7)
    ++ leBytes 1 (min 255 bad) ++ leBytes 8 (s.rd F.CNT_GLOBAL_VAL 0x40)
    ++ leBytes 4 (dif 32 .telTrips (s.rd F.CNT_GLOBAL_VAL 0xA0)) ++ leBytes 2 (dif 16 .telShaped (s.rd F.CNT_GLOBAL_VAL 0xA1))
    ++ leBytes 2 (dif 16 .telSlips s.slipSum) ++ leBytes 4 (ofSigned 32 (s.v .leaseBorrowed - s.v .leaseLent)) ++ leBytes 4 0
  (b, s)

/-- TELEMETRY_WINDOW (17 R513; 01 R51): a 1 ms window of hub time closes. -/
def execTelemetryWindow (t : Nat) (s : State) : Host.Outcome State Fault Refusal :=
  let s := s.start t
  let k := s.time / 1000000
  .next (if s.hubUp && Nat.blt (s.vn .telAt) k && (s.bgDue 5 || !s.telRuns) then
      let s := s.setV .telAt k
      let s := if s.telRuns then
          let (b, s) := (s.bgStart 5).telBody
          (s.recordAt 1 0xFF 0xFF (1000000 * k) b).bgEnd 5
        else s
      let s := ((s.setV .telM 0).setV .telE 0).setV .telN 0
      ((s.setV .telTrips (s.rd F.CNT_GLOBAL_VAL 0xA0)).setV .telShaped (s.rd F.CNT_GLOBAL_VAL 0xA1)).setV .telSlips s.slipSum
    else s)

/-! ### Rings -/

/-- A write of REC_RING_n_A (17 R517): BASE and SIZE while EN is 0; setting EN starts the ring. -/
def State.ringAWrite (s : State) (n w : Nat) : Status × State :=
  let base := w % 2 ^ 48
  let size := w / 2 ^ 48 % 16
  let en := bitOf w 52
  let on := s.is F.REC_RING_A_EN n
  let moved := base ≠ s.rd F.REC_RING_A_BASE n || size ≠ s.rd F.REC_RING_A_SIZE n
  if 4 ≤ n then (.eAbsent, s)
  else if base % 64 ≠ 0 || on && moved then (.eRange, s)
  else
    let s := (s.wr F.REC_RING_A_BASE base n).wr F.REC_RING_A_SIZE size n
    let s := s.when (bitOf (clearBits w (s.justSet .REC_RING_A n)) 53 && s.is F.REC_RING_A_LOSS_SEEN n) fun s => (s.wr F.REC_RING_A_LOSS_SEEN 0 n).evtClear 0x7B n
    (.ok, if en && !on then s.ringEnable n else if en then s else s.wr F.REC_RING_A_EN 0 n)

/-- REC_RING_ENABLE (17 R517): a write of REC_RING_n_A whose EN bit is 1. -/
def execRecRingEnable (t : Nat) (p : Port) (n base size : Nat) (clr : Bool) (s : State) : Host.Outcome State Fault Refusal :=
  .next ((s.start t).command p .REC_RING_A
    (fun s => s.ringAWrite n (base % 2 ^ 48 + 2 ^ 48 * (size % 16) + 2 ^ 52 + 2 ^ 53 * b2n clr)) n)

end Sys2Proof.Machine
end

