-- ==== Sys2Proof/Machine/EventCmd.lean ====
section
/-!
DEFINITION. The commands of the event controller (14): messages, acknowledge and completion, recovery, routing, coalescing.
-/
namespace Sys2Proof.Machine

/-- EVENT of kind LEVEL (14 R423): a node engine passes it on; the hub keeps the level, and counts the occurrence. Its leaf's
parent answers PARENT_BACK with the leaf's present budget (03 R108). A reserved EKIND is dropped with CHAN_PROTO. -/
def State.eventMsg (s : State) (e : ChEnd) (code inst detail : Nat) (lvl rsvd : Bool) : State :=
  let d := endDom e
  if !endIsParent e || rsvd then s.evFrom d 0x05 (s.endInst e)
  else
    let s := s.when (code = 0x09 && lvl && s.endChild e = some (leafDom inst)) fun s => s.grantAll (leafDom inst)
    let s := s.evFrom d code inst detail lvl
    -- at a REST_END the hub forms the leaf's footprint and NEED again, and each domain above splits (06 R181, R196; 07 R210, R219)
    if code = 0x20 && lvl then
      let s := match s.inst? 3 inst with
        | some x => s.when (Nat.beq d hubDom) fun s => (s.footTake (domNum x.owner)).needRecompute [domNum x.owner] false
        | none => s
      s.splitAll d
    else s

/-- EVENT (14 R423). -/
def execEventMsg (t : Nat) (e : ChEnd) (tag code inst detail : Nat) (lvl rsvd : Bool) (s : State) :
    Host.Outcome State Fault Refusal :=
  .next ((s.start t).deliver e tag fun s => s.eventMsg e code inst detail lvl rsvd)

/-- The word of EVC_ACK or EVC_NMI for a source (14 R445). -/
def State.srcWord (s : State) (src : Option Nat) (pri : Bool) : Word :=
  match src with
  | some k => BitVec.ofNat 64 (k + 2 ^ 16 + (if pri then 2 ^ 24 * s.rd F.EVC_SRC_CFG_PRI k else 0))
  | none => 0

/-- An acknowledge of target k (14 R428, R431, R433). -/
def State.acknowledge (s : State) (k : Nat) : Word × State :=
  let src := if s.frozen k || s.stackFull k then none else s.selectSrc k
  match src with
  | some x =>
    let st := s.stackOf k ++ [(x, s.groupPri x)]
    let w := s.srcWord src true
    (w, ((s.wr F.EVC_SRC_STATE_PEND 0 x).wr F.EVC_SRC_STATE_ACTIVE 1 x).setStack k st)
  | none => (0, s)

/-- EVC_ACK (14 R428): a read of target k; upper: a 32-bit read of the upper half, which acknowledges nothing. -/
def execEvcAck (t : Nat) (p : Port) (k : Nat) (upper : Bool) (s : State) : Host.Outcome State Fault Refusal :=
  let s := s.start t
  let addr := regAddr .EVC_ACK k + (if upper then 4 else 0)
  .next (if !s.hubUp then s.deadAnswer p
    else if !p.priv then s.answerD p addr false .ePriv 0
    else if upper then s.answerD p addr false .ok 0
    else
      let (w, s) := s.acknowledge k
      s.answerReg p .EVC_ACK addr false .ok w)

/-- A nesting fault (14 R433). -/
def State.nestFault (s : State) (k x : Nat) : State :=
  let s := ((s.wr F.EVC_TSTAT_FROZEN 1 k).wr F.EVC_TSTAT_FAULT_SRC x k).incSat F.EVC_TSTAT_NESTFAULTS 1 k
  s.event 0x58 k

/-- A completion of source x at target k (14 R429, R433). -/
def State.complete (s : State) (k x : Nat) : Status × State :=
  if s.frozen k then (.eNest, s)
  else
    let l := s.stackOf k
    match l.getLast? with
    | some top =>
      if top.1 = x then (.ok, ((s.setStack k l.dropLast).popped x).pgSettle) else (.eNest, s.nestFault k x)
    | none => (.eNest, s.nestFault k x)

/-- EVC_EOI (14 R429). -/
def execEvcEoi (t : Nat) (p : Port) (k x : Nat) (s : State) : Host.Outcome State Fault Refusal :=
  .next ((s.start t).command p .EVC_EOI (fun s => s.complete k (x % 1024)) k)

/-- Pop every entry of a target's stack above a number of entries, top first (14 R434). -/
def State.popTo (s : State) (k keep : Nat) : State :=
  let l := s.stackOf k
  let s := s.setStack k (l.take keep)
  (s.each (l.drop keep).reverse fun s y => s.popped y.1).pgSettle

/-- EVC_RECOVER_k (14 R434). -/
def State.recover (s : State) (k cmd x : Nat) : Status × State :=
  let thaw (s : State) : State := s.wr F.EVC_TSTAT_FROZEN 0 k
  if cmd = 0 then (.ok, s)
  else if !s.frozen k then (.eRange, s)
  else if cmd = 1 then (.ok, thaw (s.popTo k 0))
  else if cmd = 2 then
    match (s.stackOf k).findIdx? (fun y => Nat.beq y.1 x) with
    | some n => (.ok, thaw (s.popTo k n))
    | none => (.eRange, s)
  else (.ok, thaw s)

/-- UNWIND (14 R434). -/
def execEvcUnwind (t : Nat) (p : Port) (k : Nat) (s : State) : Host.Outcome State Fault Refusal :=
  .next ((s.start t).command p .EVC_RECOVER (fun s => s.recover k 1 0) k)

/-- POP_TO (14 R434). -/
def execEvcPopTo (t : Nat) (p : Port) (k x : Nat) (s : State) : Host.Outcome State Fault Refusal :=
  .next ((s.start t).command p .EVC_RECOVER (fun s => s.recover k 2 (x % 1024)) k)

/-- THAW (14 R434). -/
def execEvcThaw (t : Nat) (p : Port) (k : Nat) (s : State) : Host.Outcome State Fault Refusal :=
  .next ((s.start t).command p .EVC_RECOVER (fun s => s.recover k 3 0) k)

/-- A write of EVC_SRC_s.STATE (14 R422, R425): LATCH clears first, then CLRPEND, then SETPEND. -/
def State.srcStateWrite (s : State) (k : Nat) (w : Nat) : Status × State :=
  if !s.srcDefined k then (.eAbsent, s)
  else if bitOf w 5 && s.is F.EVC_SRC_STATE_ACTIVE k then (.eOverrun, s)
  else
    let s := s.when (bitOf (clearBits w (s.justSet .EVC_SRC_STATE k)) 1) fun s => (s.wr F.EVC_SRC_STATE_LATCH 0 k).srcSync k
    let s := s.when (bitOf w 6) fun s =>
      let s := s.wr F.EVC_SRC_STATE_PEND 0 k
      if s.srcLevel k then s.setPend k else s
    (.ok, if bitOf w 5 then s.setPend k else s)

/-- SETPEND (14 R425). -/
def execSetpend (t : Nat) (p : Port) (k : Nat) (s : State) : Host.Outcome State Fault Refusal :=
  .next ((s.start t).command p .EVC_SRC_STATE (fun s => s.srcStateWrite k (2 ^ 5)) k)

/-- CLRPEND (14 R425). -/
def execClrpend (t : Nat) (p : Port) (k : Nat) (s : State) : Host.Outcome State Fault Refusal :=
  .next ((s.start t).command p .EVC_SRC_STATE (fun s => s.srcStateWrite k (2 ^ 6)) k)

/-- A write of EVC_SRC_s.CFG (14 R421, R432, R435, R438). -/
def State.srcCfgWrite (s : State) (k : Nat) (w : Nat) : Status × State :=
  let mask := w / 2 ^ 16 % 16
  let grp := w / 2 ^ 24 % 64
  if !s.srcDefined k then (.eAbsent, s)
  else if mask = 0 && alwaysNmi (s.rd F.EVC_SRC_CFG_CODE k) then (.eRange, s)
  else if !(mask = 0) && bitOf w 30 then (.eRange, s)
  else
    let s := s.grpLeave k grp (bitOf w 30)
    let s := ((s.wr F.EVC_SRC_CFG_EN (w % 2) k).wr F.EVC_SRC_CFG_TARGET (w / 2) k).wr F.EVC_SRC_CFG_PRI (w / 2 ^ 8) k
    let s := (s.wr F.EVC_SRC_CFG_NMI_MASK mask k).wr F.EVC_SRC_CFG_GROUP grp k
    (.ok, s.wr F.EVC_SRC_CFG_GRP_EN (b2n (bitOf w 30)) k)

/-- EVC_SRC_CFG_WRITE (14 R432, R435, R438). -/
def execEvcSrcCfgWrite (t : Nat) (p : Port) (k w : Nat) (s : State) : Host.Outcome State Fault Refusal :=
  .next ((s.start t).command p .EVC_SRC_CFG (fun s => s.srcCfgWrite k w) k)

/-- A write of EVC_CTRL.PRIGROUP (14 R432). -/
def State.prigroupSet (s : State) (g : Nat) : Status × State :=
  if s.evt.evStk.all (·.isEmpty) then (.ok, s.wr F.EVC_CTRL_PRIGROUP g) else (.eOverrun, s)

/-- PRIGROUP_WRITE (14 R432). -/
def execPrigroupWrite (t : Nat) (p : Port) (g : Nat) (s : State) : Host.Outcome State Fault Refusal :=
  .next ((s.start t).command p .EVC_CTRL fun s => s.prigroupSet (g % 8))

/-- A write of EVC_GRP_A_g (14 R438; EVC_GRP_A): the group fires. -/
def State.grpWrite (s : State) (g cnt us : Nat) : Status × State :=
  if cnt = 0 || us = 0 then (.eRange, s)
  else (.ok, ((s.grpFire g).wr F.EVC_GRP_A_CNT_TH cnt g).wr F.EVC_GRP_A_TIME_TH us g)

/-- EVC_GRP_WRITE (14 R438). -/
def execEvcGrpWrite (t : Nat) (p : Port) (g cnt us : Nat) (s : State) : Host.Outcome State Fault Refusal :=
  .next ((s.start t).command p .EVC_GRP_A (fun s => s.grpWrite g (cnt % 256) (us % 65536)) g)

/-- GROUP_FIRE (14 R437): the window has closed; a COUNT that reaches CNT_TH fires at its occurrence. -/
def execGroupFire (t g : Nat) (s : State) : Host.Outcome State Fault Refusal :=
  let s := s.start t
  .next (if s.grpLapsed g then s.grpFire g else s)

end Sys2Proof.Machine
end

