-- ==== Sys2Proof/Machine/Mirror.lean ====
section
/-!
DEFINITION. The mirrored hub pair (16): copies, requests for takeover, the grant, and the commands of MIR_CMD. One state stands
for the pair: the synchronous class is the active hub's; the per-tick and lazy classes have copies in MirSt, which a takeover
puts in force.
-/
namespace Sys2Proof.Machine

/-- Roles (16 R476). -/
abbrev Mr.active : Nat := 1
abbrev Mr.standby : Nat := 2
abbrev Mr.syncing : Nat := 3
abbrev Mr.detached : Nat := 4
abbrev Mr.down : Nat := 5

/-- MIRROR_CONFIG of the active image (16 R475). -/
def State.mirCfg (s : State) : Option MirrorConfig := s.img.active.bind (·.mirror)

/-- The role of the hub that is not active. -/
def State.mirRole2 (s : State) : Nat := s.mirRole s.mirOther

/-! ### Copies -/

/-- The registers of the per-tick class that the commits and loop samples do not carry at once (16 R481): PEND, LATCH and HELD of
the sources, the group windows, EXC_CNT. -/
def tickClass : List Reg := [.EVC_SRC_STATE, .EVC_GRP_A, .EVC_GRP_B, .HUB_CAPS]

/-- The registers of the lazy class (16 R481). -/
def lazyClass : List Reg :=
  [.STR_W0, .STR_W1, .STR_W2, .STR_W3, .STR_W4, .STR_W5, .STR_W6, .RAIL_THETA_LO, .RAIL_THETA_HI, .TS_CAL, .CNT_GLOBAL, .CNT_CTX,
   .CNT_UA, .CNT_CTX_E]

/-- The variables of the lazy class. -/
def lazyNames : List Var := [.kTheta, .kP, .wear, .gNj, .ctxNj, .ctxNj0]

/-- A per-tick copy. -/
def State.copyTick (s : State) : State :=
  { s with mir := { s.mir with tickRegs := s.regs.filter fun p => tickClass.contains p.1.n } }

/-- A lazy copy, complete at once. -/
def State.copyLazy (s : State) : State :=
  let s : State := { s with mir := { s.mir with
    lazyRegs := s.regs.filter fun p => lazyClass.contains p.1.n
    lazyVars := s.vars.filter fun p => lazyNames.contains p.1.n } }
  s.setV .lazyAt s.time

/-- LAZY_AGE: µs since the last complete lazy copy (16, MIR_LAG). -/
def State.lazyAge (s : State) : Nat := min 0xFFFF_FFFF ((s.time - s.vn .lazyAt) / 1000)

/-- Put the per-tick copy in force (16 R487); ACTIVE bits and levels are not of that class (R481, R482). -/
def State.tickRestore (s : State) : State :=
  let old (r : Reg) (i : Nat) : Word := KMap.get Reg.resetWord s.mir.tickRegs ⟨r, i, 0⟩
  let s := s.each s.srcNums fun s k =>
    let w := old .EVC_SRC_STATE k
    ((s.wr F.EVC_SRC_STATE_LATCH (getBits w 1 1) k).wr F.EVC_SRC_STATE_PEND (getBits w 2 1) k).wr F.EVC_SRC_STATE_HELD (getBits w 4 1) k
  let s := s.each (List.range 64) fun s g => (s.setReg .EVC_GRP_A (old .EVC_GRP_A g) g).setReg .EVC_GRP_B (old .EVC_GRP_B g) g
  s.wr F.HUB_CAPS_EXC_CNT (getBits (old .HUB_CAPS 0) 16 14)

/-- Put the lazy copy in force (16 R487). -/
def State.lazyRestore (s : State) : State :=
  let keepR := s.regs.filter fun p => !lazyClass.contains p.1.n
  let keepV := s.vars.filter fun p => !lazyNames.contains p.1.n
  { s with
    regs := s.mir.lazyRegs.foldl (fun m p => KMap.set Reg.ctorIdx Reg.resetWord m p.1 p.2) keepR
    vars := s.mir.lazyVars.foldl (fun m p => KMap.set Var.ctorIdx Var.reset m p.1 p.2) keepV }

/-! ### Takeover -/

/-- No operation waits for a mirror any more: the other hub goes to DETACHED (16 R480). -/
def State.mirDetached (s : State) : State := ((s.mirSet s.mirOther Mr.detached).setV .mirMiss 0).heldAll

/-- The port select refuses a request (16 R484). -/
def State.mirRefuse (s : State) : State := (s.mirDetached.incSat F.MIR_STATUS_REFUSED).event 0x71 0

/-- What ends with the old hub (16 R487): requests and commands outstanding, posted writes, the trace buffer, SPDM sessions, a
loader's run, armed predictions, the KNEAD windows. The trace unit arms as at an acceptance (17 R528). -/
def State.mirLosses (s : State) : State :=
  let s := s.portsAbsent
  let isHub (e : ChEnd) : Bool := Nat.beq (endDom e) hubDom
  let s : State := { s with chan := { s.chan with
    pend := s.chan.pend.filter fun p => !isHub p.chEnd
    wait := s.chan.wait.filter fun w => !isHub w.pend.chEnd
    await := s.chan.await.filter fun p => !isHub p.1
    rspWait := s.chan.rspWait.filter fun p => !isHub p.1 } }
  let s := s.each (s.childEnds hubDom) fun s e => s.pendSync e
  let s := s.incSat F.HOST_STATUS_WRITES_LOST s.posted.length
  let s : State := { s with posted := [], trc := { main := [], base := 0, trip := [], postEv := s.trc.postEv } }
  let s := s.wr F.HOST_STATUS_PQ_DEPTH 0
  let s := s.forget fun k => k.n = .TRC_STATUS || k.n = .TRC_PTR || k.n = .TRC_LOSS
  let s := s.forgetV [.trcSeq, .trcPost, .trcLoss, .dumpAt, .obThat, .spdmSt, .spdmSes]
  let s := s.when (Nat.beq (s.par Sec.trace 0x0001 idxAll 0 1 0) 1) fun s => s.trcArm
  let s := (s.wr F.FAC_STATUS_SESSIONS 0).setV .facPage 0xFF
  let s := s.each s.railNums fun s r => s.kneadTouch r s.time
  s.ldrAborted

/-- The two hubs' certificate stores and ID_STATUS change places. -/
def State.certSwap (s : State) : State :=
  { s with mir := { s.mir with cert := s.fac.cert, idStatus := s.reg .ID_STATUS }, fac := { s.fac with cert := s.mir.cert } }

/-- The new hub attests with its own certificate and key (16 R487; 18 R562). -/
def State.idSwap (s : State) (new : Nat) : State :=
  let w := s.mir.idStatus
  let s := s.certSwap.setReg .ID_STATUS w
  let key := if bitOf w.toNat 0 then Config.idPubKey new else []
  s.each (List.range 12) fun s k => s.setReg .ID_PUBKEY (BitVec.ofNat 64 (fieldAt key (8 * k) 8)) k

/-- The order of R486 on a grant (16): resent counts the messages and frames that were confirmed and not seen acknowledged. -/
def State.takeover (s : State) (resent : Nat) : State :=
  let cause := s.vn .mirMiss
  let old := s.rd F.MIR_STATUS_SELF
  let new := s.mirOther
  let age := s.lazyAge
  let s := s.mirLosses
  let s := if cause = 3 then s else (s.tickRestore.lazyRestore.activeShow.each slots16 fun s c => (s.predShow c).slotShape c)
  let s := s.idSwap new
  let s := ((s.mirSet new Mr.active).mirSet old Mr.down).wr F.MIR_STATUS_SELF new
  let s := ((s.setV .okLapse 0).setV .mirMiss 0).setV .hbStop 0
  let caught := s.mir.captured
  let sent := sumNat (s.sync.held.map fun h => (h.2.filter fun x => match x with | .rel .. => true | .dir .. => true | .frm .. => true | _ => false).length)
  let s : State := { s with mir := { s.mir with captured := [] } }
  let s := s.each caught fun s g => s.gateApply g.e g.sop g.ctx g.epoch g.leaf g.q g.lobj g.arg g.mode
  let s := s.heldAll
  let s := s.each ((s.children hubDom).filter fun c => s.childUp c) fun s c => s.grantAll c
  let s := s.each ((s.tree.map (·.dom)).filter fun d => decide (0 ≤ s.v .needSent d)) fun s d =>
    s.needSend d (s.vn .needSent d) (s.vn .wtSent d)
  let s := s.incSat F.MIR_STATUS_FAILOVERS
  let s := ((s.wr F.MIR_LAST_CAUSE cause).wrSat F.MIR_LAST_APPLIED caught.length).wrSat F.MIR_LAST_RESENT (resent + sent : Nat)
  let s := s.wr F.MIR_LAST_TIME s.time
  let body := leBytes 1 cause ++ leBytes 1 old ++ leBytes 2 (min 0xFFF caught.length) ++ leBytes 4 (resent + sent) ++ leBytes 4 age
  let s := (s.record 6 body).event 0x70 0
  match s.mirCfg with
  | some m => s.when m.autoRejoin fun s => s.mirSet old Mr.syncing
  | none => s

/-- MIRROR_HEARTBEAT (16 R483): every HB_PERIOD the active hub sends a heartbeat; the standby restarts its count. -/
def execMirrorHeartbeat (t : Nat) (s : State) : Host.Outcome State Fault Refusal :=
  let s := s.start t
  .next (if s.hubUp && s.mirCfg.isSome && s.v .hbStop = 0 && s.mirrorOn then (s.emit (.mirror false)).setV .hbLast s.time else s)

/-- MIRROR_HEARTBEAT_MISS (16 R483, R484): the request stands where HUB_OK has lapsed; else it is refused. -/
def execMirrorHeartbeatMiss (t : Nat) (s : State) : Host.Outcome State Fault Refusal :=
  let s := s.start t
  match s.mirCfg with
  | none => .next s
  | some m =>
    .next (if s.mirRole2 = Mr.standby && s.v .mirMiss = 0 && Nat.ble (s.vn .hbLast + m.hbMiss * m.hbPeriod) s.time then
        let s := s.emit (.mirror true)
        if s.v .okLapse = 1 then s.setV .mirMiss 1 else s.mirRefuse
      else s)

/-- MIRROR_PORT_DOWN (16 R476, R483, R484). -/
def execMirrorPortDown (t : Nat) (s : State) : Host.Outcome State Fault Refusal :=
  let s := s.start t
  .next (if s.mirRole2 = Mr.standby && s.v .mirMiss = 0 then
      let s := s.emit (.mirror true)
      if s.v .okLapse = 1 then s.setV .mirMiss 2 else s.mirRefuse
    else if s.mirRole2 = Mr.syncing && s.v .okLapse = 0 then s.mirDetached
    else s)

/-- HUB_OK_LAPSE (16 R476, R485): with a STANDBY hub the rails go on from it; without one no hub is in charge. -/
def execHubOkLapse (t : Nat) (s : State) : Host.Outcome State Fault Refusal :=
  let s := s.start t
  .next (if !Config.netlist.mirror || !s.hubUp then s
    else if s.mirRole2 = Mr.standby then s.setV .okLapse 1
    else
      let r := s.mirRole2
      let s := s.when (r = Mr.syncing || r = Mr.detached) fun s => s.mirSet (1 - s.mirOther) Mr.down
      let s := s.each ((s.insts.filter fun x => Nat.beq x.typ 0x0A).map (·.logical)) fun s p => (s.setV .phPwm 0 p).setV .phPen 0 p
      ((s.stopOn.portsAbsent).wr F.CRUST_STATUS_THERMTRIP 1).setV .mirNoHub 1)

/-- TAKEOVER_GRANT (16 R484, R486, R488): the port select grants a SWITCH once the posted-write queue has been answered, and
another request where HUB_OK has lapsed. -/
def execTakeoverGrant (t resent : Nat) (s : State) : Host.Outcome State Fault Refusal :=
  let s := s.start t
  let ok := (s.v .mirMiss = 3 && s.posted.isEmpty) || (!(s.v .mirMiss = 0) && s.v .okLapse = 1)
  .next (if s.mirRole2 = Mr.standby && ok then s.takeover resent else s)

/-- SWITCH is issued: final copies, and no heartbeat any more (16 R488). -/
def State.mirIssue (s : State) : State := ((s.copyTick.copyLazy).setV .hbStop 1).setV .mirMiss 3

/-- MIR_CMD (16 R480, R488, R489, R491). -/
def State.mirCmd (s : State) (c : Nat) : Status × State :=
  let r := s.mirRole2
  if c = 0 then (.ok, s)
  else if c = 1 then
    if (s.pkg = Pkg.run || s.pkg = Pkg.hold) && r = Mr.standby then (.ok, s.mirIssue) else (.eRange, s)
  else if c = 2 then
    if r = Mr.syncing then (.eOverrun, s)
    else if !(s.pkg = Pkg.fail) && (r = Mr.down || r = Mr.detached) then
      (.ok, s.when s.mirCfg.isSome fun s => s.mirSet s.mirOther Mr.syncing)
    else (.eRange, s)
  else if r = Mr.syncing || r = Mr.standby then (.ok, s.mirDetached)
  else (.eRange, s)

/-- SWITCH (16 R488). -/
def execMirSwitch (t : Nat) (p : Port) (s : State) : Host.Outcome State Fault Refusal :=
  .next ((s.start t).command p .MIR_CMD fun s => s.mirCmd 1)

/-- REJOIN (16 R489, R491). -/
def execMirRejoin (t : Nat) (p : Port) (s : State) : Host.Outcome State Fault Refusal :=
  .next ((s.start t).command p .MIR_CMD fun s => s.mirCmd 2)

/-- DETACH (16 R480). -/
def execMirDetach (t : Nat) (p : Port) (s : State) : Host.Outcome State Fault Refusal :=
  .next ((s.start t).command p .MIR_CMD fun s => s.mirCmd 3)

/-- BULK_COPY_DONE (16 R490): the copies are complete. -/
def execBulkCopyDone (t : Nat) (s : State) : Host.Outcome State Fault Refusal :=
  let s := s.start t
  .next (if s.hubUp && s.mirRole2 = Mr.syncing then
      let s := (s.copyTick.copyLazy).mirSet s.mirOther Mr.standby
      (s.setV .hbLast s.time).event 0x72 0
    else s)

/-- LAZY_COPY (16 R481): every LAZY_PERIOD. -/
def execLazyCopy (t : Nat) (s : State) : Host.Outcome State Fault Refusal :=
  let s := s.start t
  match s.mirCfg with
  | none => .next s
  | some m => .next (if s.hubUp && s.mirRole2 = Mr.standby && Nat.ble (s.vn .lazyAt + 1000 * m.lazyPeriod) s.time then s.copyLazy else s)

/-- PER_TICK_COPY (16 R481): every 1 µs. -/
def execPerTickCopy (t : Nat) (s : State) : Host.Outcome State Fault Refusal :=
  let s := s.start t
  .next (if s.hubUp && s.mirRole2 = Mr.standby then s.copyTick else s)

/-- PRIMARY_SWITCH (16 R479): with PRIMARY 1 the active hub issues SWITCH on its own, once. -/
def execPrimarySwitch (t : Nat) (s : State) : Host.Outcome State Fault Refusal :=
  let s := s.start t
  .next (if s.v .priDone = 2 && s.rd F.MIR_STATUS_SELF = 0 && s.mirRole2 = Mr.standby && (s.pkg = Pkg.run || s.pkg = Pkg.hold)
      && s.v .mirMiss = 0 then
      (s.mirCmd 1).2.setV .priDone 1
    else s)

end Sys2Proof.Machine
end

