-- ==== Sys2Proof/Machine/RegView.lean ====
section
/-!
DEFINITION. Register access (00 R14 to R22; 18 R534 to R538; 19 R568 to R571): the decoding of an address, the checks of a
request, and what a read shows where the register file does not hold it.
-/
namespace Sys2Proof.Machine

/-! ### Addresses -/

/-- Whether an address lies in a context page (00 R22). -/
def inPage (a : Nat) : Bool := Nat.ble 0x200_0000 a && Nat.blt a 0x210_0000

/-- The address of an offset in an island's window. -/
def islandAddr (d off : Nat) : Nat :=
  (if isLeaf d then 0x40_0000 else 0x10_0000) + 0x1000 * domNum d + off % 0x1000

/-- The islands that hold what an address names, besides the hub; none where the image does not define the instance (00 R18;
19 R569, R570; 05 R168). -/
def State.addrOwner (s : State) (a : Nat) : Option (List Nat) :=
  let inst (typ n : Nat) : Option (List Nat) := (s.inst? typ n).map fun x => notHub x.owner
  if Nat.blt a 0x3_0000 then some []
  else if Nat.blt a 0x3_9080 then
    let u := (a - 0x3_0000) / 0x40
    match unitDom u with
    | some d => if d = hubDom then some [] else if s.hasDom d then some [d] else none
    | none => if s.mirCfg.isSome then some [] else none
  else if Nat.blt a 0x4_0000 then some []
  else if Nat.blt a 0x5_0000 then (s.loop? ((a - 0x4_0000) / 0x80)).map fun r => notHub r.host
  else if Nat.blt a 0x6_0000 then
    some (s.gtNodes ((a - 0x5_0000) / 0x200))
  else if Nat.blt a 0x6_2200 then
    let e := (a - 0x6_0000) / 0x40
    let d := nodeDom ((e - 8) / 2)
    if Nat.blt e 8 then some [] else if s.hasDom d then some [d] else none
  else if Nat.blt a 0xC_0000 then some []
  else if Nat.blt a 0xC_8000 then (s.rail? ((a - 0xC_0000) / 0x400)).map fun _ => []
  else if Nat.blt a 0xD_0000 then some []
  else if Nat.blt a 0xE_0000 then (s.inst? 0x0A ((a - 0xD_0000) / 0x100)).map fun _ => []
  else if Nat.blt a 0xF_0000 then inst 7 ((a - 0xE_0000) / 0x40)
  else if Nat.blt a 0xF_8000 then inst 8 ((a - 0xF_0000) / 0x40)
  else match addrIsland a with
    | some d => if s.hasDom d then some [d] else none
    | none => some []

/-! ### The checks of a request -/

/-- The status of a request before its register is examined, in the order of R16 (00 R16, R22; 18 R535, R538; 19 R569, R570). -/
def State.accessStatus (s : State) (p : Port) (a size : Nat) : Status :=
  if !(size = 2 || size = 3) || !(a % 2 ^ size = 0) then .eAlign
  else if !inPage a && !p.priv then .ePriv
  else match s.addrOwner a with
    | none => .eAbsent
    | some l => if l.all fun d => s.pathUpTo d then .ok else .eAbsent

/-! ### Reads -/

/-- Put a field's value into a word. -/
def putF (f : Fld) (v : Nat) (w : Word) : Word := setBits w f.lsb f.w v

/-- A word of the trace buffer (17 R521, R527): slot k / 4, word k mod 4. -/
def State.trcWord (s : State) (k : Nat) : Word :=
  let slot := k / 4
  let n := s.trc.main.length
  let f := if Nat.blt slot trcMainSlots then
      let i := (slot + trcMainSlots - s.trc.base) % trcMainSlots
      if Nat.blt i n then s.trc.main[i]? else none
    else s.trc.trip[slot - trcMainSlots]?
  match f with
  | none => 0
  | some f => BitVec.ofNat 64 ([f.cls + 2 ^ 8 * f.kind + 2 ^ 16 * f.src + 2 ^ 32 * f.seq, f.time, f.d0, f.d1].getD (k % 4) 0)

/-- The global number of the object that a context page's view shows (08 R231, R258). -/
def State.viewObj (s : State) (c i : Nat) : Option Nat :=
  if Nat.blt i (s.rd F.SYNC_CTX_OBJ_COUNT c) then some (s.rd F.SYNC_CTX_OBJ_BASE c + i) else none

/-- SYNC_OBJ_B with its count of watches (08 R239). -/
def State.objWordB (s : State) (o : Nat) : Word := putF F.SYNC_OBJ_B_WATCHES (s.objW o).length (s.reg .SYNC_OBJ_B o)

/-- The words of a watch (08 R239, R258). -/
def State.watchWords (s : State) (k : Nat) : Word × Word :=
  match s.sync.watches.find? fun w => Nat.beq w.idx k with
  | none => (s.reg .WATCH_A k, s.reg .WATCH_B k)
  | some w =>
    let later := (s.sync.watches.dropWhile fun x => !Nat.beq x.idx k).drop 1
    let next := match later.find? fun x => Nat.beq x.obj w.obj with | some x => x.idx | none => 0x1_FFFF
    (BitVec.ofNat 64 (pack [(0, 14, w.obj), (14, 1, b2n w.core), (15, 1, b2n w.one), (16, 1, 1), (20, 4, w.ctx),
        (24, 16, if s.objBar w.obj then w.gen else 0), (40, 17, next)]),
      BitVec.ofNat 64 (pack [(0, 9, w.leaf), (9, 6, w.wid), (32, 32, w.time)]))

/-- The watches that a slot's objects hold. -/
def State.slotWatches (s : State) (c : Nat) : Nat := (s.sync.watches.filter fun w => decide (s.slotOf w.obj = some c)).length

/-- What a register reads (00 R19): the register file's word, with what the rest of the state shows in it; WO fields read 0. -/
def State.view (s : State) (r : Reg) (i j : Nat) : Word :=
  let w := s.reg r i j
  match r with
  | .HUB_TIME => BitVec.ofNat 64 s.time
  | .HUB_CHAN => putF F.HUB_CHAN_PRESENT (b2n (s.endChild (.hub i)).isSome) w
  | .NODE_CHAN => putF F.HUB_CHAN_PRESENT (b2n (j = 0 || (s.endChild (.node i j)).isSome)) w
  | .LEAF_CHAN => putF F.HUB_CHAN_PRESENT 1 w
  | .HUB_SPLIT_A => putF F.HUB_SPLIT_A_UP (match s.endChild (.hub i) with | some d => b2n (Nat.beq (s.chSt (s.parentEnd d)) Ch.up) | none => 0) w
  | .NODE_SPLIT_A =>
    putF F.NODE_SPLIT_A_UP (match s.endChild (.node i j) with | some d => b2n (Nat.beq (s.chSt (s.parentEnd d)) Ch.up) | none => 0) w
  | .HOST_STATUS => putF F.HOST_STATUS_OUTSTANDING (min 63 s.accepted.length) w
  | .FAC_ALERT => putF F.FAC_ALERT_LEVEL (b2n s.alertLow) w
  | .ID_MEAS3 => BitVec.ofNat 64 (fieldAt (leBytes 48 s.img.chain.toNat) (8 * i) 8)
  | .EVC_TSTAT =>
    putF F.EVC_TSTAT_DEPTH (s.stackOf i).length (putF F.EVC_TSTAT_FULL (b2n (s.stackFull i))
      (putF F.EVC_TSTAT_IRQ (b2n (s.irqLow i)) (putF F.EVC_TSTAT_NMI (b2n (s.nmiLow i)) w)))
  | .EVC_STACK => BitVec.ofNat 64 (pack ((List.range 4).map fun k => (16 * k, 10, ((s.stackOf i).getD (4 * j + k) (0, 0)).1)))
  | .EVC_NMI => s.srcWord (s.nmiPending i).head? false
  | .SYNC_CTXW => putF F.SYNC_CTXW_WATCH_USED (s.slotWatches i) w
  | .SYNC_OBJ_B => s.objWordB i
  | .WATCH_A => (s.watchWords i).1
  | .WATCH_B => (s.watchWords i).2
  | .TRC_BUF => s.trcWord i
  | .DXL_TIME => BitVec.ofInt 64 s.sysOfs
  | .MIR_LAG => putF F.MIR_LAG_LAZY_AGE s.lazyAge w
  | .CTX_SYNC_STAT =>
    putF F.CTX_SYNC_STAT_CEPOCH (s.rd F.SYNC_CTX_CEPOCH i) (putF F.CTX_SYNC_STAT_SWITCHING (s.rd F.SYNC_CTX_SWITCHING i)
      (putF F.CTX_SYNC_STAT_OBJ_COUNT (s.rd F.SYNC_CTX_OBJ_COUNT i) (putF F.CTX_SYNC_STAT_WATCH_USED (s.slotWatches i) w)))
  | .CTX_LATCH_STAT =>
    let open_ := maskOf ((s.latch.slots.filter fun x => Nat.beq x.ctx i && x.stop.isNone).map (·.slot))
    putF F.CTX_LATCH_STAT_OPEN open_ (putF F.CTX_LATCH_STAT_PENDING (s.latchOpenPts i).length
      (putF F.CTX_LATCH_STAT_LNUM (s.vn .latNum i) w))
  | .CTX_CNT => s.reg .CNT_CTX i j
  | .CTX_ENERGY => s.reg .CNT_CTX_E i
  | .CTX_SYNC_OBJ_A => match s.viewObj i j with | some o => s.reg .SYNC_OBJ_A o | none => 0
  | .CTX_SYNC_OBJ_B => match s.viewObj i j with | some o => s.objWordB o | none => 0
  | _ => w

/-- The status of a read of a register (08 R258; 17 R527). -/
def State.readStatus (s : State) (r : Reg) (i j : Nat) : Status :=
  match r with
  | .CTX_SYNC_OBJ_A | .CTX_SYNC_OBJ_B => if (s.viewObj i j).isSome then .ok else .eRange
  | .TRC_BUF => if s.trcReadable then .ok else .eOverrun
  | .EVC_SRC_CFG | .EVC_SRC_STATE => if s.srcDefined i then .ok else .eAbsent
  | _ => .ok

/-- A read performed: a read of EVC_ACK acknowledges, unless it takes the upper half only (14 R428). -/
def State.regRead (s : State) (a : Nat) (wide : Bool) : Status × Word × State :=
  match decodeAddr a with
  | none => (.ok, 0, s)
  | some (r, i, j) =>
    let st := s.readStatus r i j
    if st ≠ .ok then (st, 0, s)
    else if r = .EVC_ACK then
      if !wide && a % 8 = 4 then (.ok, 0, s)
      else let (w, s) := s.acknowledge i; (.ok, halfOf a wide w, s)
    else (.ok, halfOf a wide (s.view r i j), s)

end Sys2Proof.Machine
end

