-- ==== Sys2Proof/Machine/Ident.lean ====
section
/-!
DEFINITION. The identity of a hub (18 R562): its key pair and its certificate store.
-/
namespace Sys2Proof.Machine

/-- KEYGEN_DONE (18 R562): each hub has derived its key pair after the always-on power-on reset. -/
def execKeygenDone (t : Nat) (s : State) : Host.Outcome State Fault Refusal :=
  let s := s.start t
  .next (if s.pkg = Pkg.off || s.v .keyDue = 1 then s
    else
      let key := Config.idPubKey (s.rd F.MIR_STATUS_SELF)
      let s := (s.setV .keyDue 1).wr F.ID_STATUS_KEY_READY 1
      let s := s.each (List.range 12) fun s k => s.setReg .ID_PUBKEY (BitVec.ofNat 64 (fieldAt key (8 * k) 8)) k
      { s with mir := { s.mir with idStatus := putF F.ID_STATUS_KEY_READY (b2n Config.netlist.mirror) s.mir.idStatus } })

/-- The store emptied, with its pointer at 0 (18 R562). -/
def State.certEmpty (s : State) (filling : Bool) : State :=
  let s := s.setCert []
  let s := (s.setV .certPtr 0).wr F.ID_STATUS_FILLING (b2n filling)
  (s.wr F.ID_STATUS_CERT_VALID 0).wr F.ID_STATUS_CERT_LEN 0

/-- ID_CERT_CTRL (18 R562): OPEN and COMMIT with the chain's length. -/
def State.certCmd (s : State) (c len : Nat) : Status × State :=
  match c with
  | 0 => (.ok, s)
  | 1 => (.ok, s.certEmpty true)
  | 2 =>
    if !s.is F.ID_STATUS_FILLING || len = 0 || 4096 < len then (.eRange, s)
    else if s.is F.ID_STATUS_KEY_READY
        && Config.chainLeafKeyIs (Mem.bytes s.fac.cert 0 len) (Config.idPubKey (s.rd F.MIR_STATUS_SELF)) then
      (.ok, ((s.wr F.ID_STATUS_FILLING 0).wr F.ID_STATUS_CERT_VALID 1).wr F.ID_STATUS_CERT_LEN len)
    else (.eRange, s.certEmpty false)
  | _ => (.eRange, s)

/-- Eight bytes at the pointer of the store (18, ID_CERT_WDATA). -/
def State.certData (s : State) (w : Word) : Status × State :=
  let ptr := s.vn .certPtr
  if !s.is F.ID_STATUS_FILLING || Nat.ble 4096 ptr then (.eRange, s)
  else
    (.ok, (s.setCert (Mem.writeBytes s.fac.cert ptr (wordBytes w))).setV .certPtr ((ptr + 8 : Nat) : Int))

/-- ID_CERT_OPEN (18 R562). -/
def execIdCertOpen (t : Nat) (p : Port) (s : State) : Host.Outcome State Fault Refusal :=
  .next ((s.start t).command p .ID_CERT_CTRL fun s => s.certCmd 1 0)

/-- ID_CERT_COMMIT (18 R562), with LEN. -/
def execIdCertCommit (t : Nat) (p : Port) (len : Nat) (s : State) : Host.Outcome State Fault Refusal :=
  .next ((s.start t).command p .ID_CERT_CTRL fun s => s.certCmd 2 (len % 8192))

/-- ID_CERT_WDATA (18 R562). -/
def execIdCertWdata (t : Nat) (p : Port) (w : Word) (s : State) : Host.Outcome State Fault Refusal :=
  .next ((s.start t).command p .ID_CERT_WDATA fun s => s.certData w)

end Sys2Proof.Machine
end

