-- ==== Sys2Proof/Machine/RegAccess.lean ====
section
/-!
DEFINITION. Register writes (00 R16, R19 to R22; 18 R535 to R541): access codes, what each register's write does beside, and the
island's part of a command (03 R89).
-/
namespace Sys2Proof.Machine

/-! ### Access codes -/

/-- Whether a write reaches a field that it can act on: a 32-bit access reaches one half only (00 R17). -/
def Reg.reached (r : Reg) (a : Nat) (wide : Bool) : Bool :=
  wide || !(halfOf a false 0xFFFF_FFFF_FFFF_FFFF &&& r.mask (fun c => !(c = .RO)) == 0)

/-- The word that a write presents: a 32-bit access leaves the other half's values, and triggers nothing in it (00 R17); a W1C bit
that hardware sets in the same cycle stays set (00 R21). -/
def State.merge (s : State) (r : Reg) (i j a : Nat) (wide : Bool) (w : Word) : Word :=
  let w := if wide then w
    else
      let other : Word := if a % 8 = 4 then 0xFFFF_FFFF else 0xFFFF_FFFF_0000_0000
      halfOf a false w ||| (s.reg r i j &&& r.mask accSets &&& other)
  w &&& ~~~(s.justSet r i j)

/-- The effect of the access codes alone: RW and RWL fields take their values, each 1 clears a W1C bit (00 R19). -/
def State.plain (s : State) (r : Reg) (i j : Nat) (w : Word) : State :=
  let m := r.mask accSets
  let c := r.mask fun a => a = .W1C
  let old := s.reg r i j
  s.setReg r (((old &&& ~~~m) ||| (w &&& m)) &&& ~~~(c &&& w)) i j

/-- The flag bits of a register whose OR is the level of an event, with its code (14 R422, R423 and the chapters' events). -/
def flagRows (r : Reg) : List (List Fld × Nat) :=
  match r with
  | .HUB_PKG_STATE => [([F.HUB_PKG_STATE_HOLD_TIMEOUT], 0x02)]
  | .HUB_CAPS => [([F.HUB_CAPS_SHORT], 0x1B), ([F.HUB_CAPS_LEVEL_MISS], 0x1C)]
  | .STR_STATUS => [([F.STR_STATUS_ECC_INV], 0x28)]
  | .SYNC_STATUS => [([F.SYNC_STATUS_WATCH_FULL], 0x29)]
  | .HUB_CHAN => [([F.HUB_CHAN_FENCE_TO], 0x06)]
  | .NODE_CHAN => [([F.NODE_CHAN_FENCE_TO], 0x06)]
  | .LEAF_CHAN => [([F.LEAF_CHAN_SILENT], 0x08)]
  | .HOST_STATUS => [([F.HOST_STATUS_PERR_SEEN], 0x88), ([F.HOST_STATUS_RSPTO_SEEN], 0x89)]
  | .REC_PERR => [([F.REC_PERR_FAULT_SEEN], 0x8A)]
  | .CLK_STAT => [([F.CLK_STAT_FAIL_SEEN], 0x50), ([F.CLK_STAT_MUX_HUNG], 0x51), ([F.CLK_STAT_TB_ERR], 0x53)]
  | .LOOP_STAT => [([F.LOOP_STAT_SAT_P, F.LOOP_STAT_SAT_I, F.LOOP_STAT_SAT_OUT], 0x18), ([F.LOOP_STAT_SLIP], 0x19)]
  | .RAIL_STATE => [([F.RAIL_STATE_HALT_SEEN], 0x39)]
  | .RAIL_SYNC => [([F.RAIL_SYNC_PHASE_LOST_SEEN], 0x3D)]
  | .RAIL_FUSE_STATUS => [([F.RAIL_FUSE_STATUS_DIVERGE], 0x12)]
  | .RAIL_RISE => [([F.RAIL_RISE_EXH_SEEN], 0x33)]
  | .PH_STAT => [([F.PH_STAT_FAULT_SEEN], 0x3C)]
  | .TS_CAL => [([F.TS_CAL_BAD_SEEN], 0x42)]
  | .TS_STAT => [([F.TS_STAT_WARN_SEEN], 0x40), ([F.TS_STAT_THR_SEEN], 0x41)]
  | .DD_CAL => [([F.DD_CAL_CAL_STALE], 0x31)]
  | .DD_STAT => [([F.DD_STAT_TRIP_SEEN], 0x30)]
  | .NODE_SPLIT_STAT => [([F.NODE_SPLIT_STAT_SHORT], 0x1B)]
  | .LEAF_CORE => [([F.LEAF_CORE_AGE_INVALID], 0x1E)]
  | .LEAF_STACK => [([F.LEAF_STACK_STALE_SEEN], 0x44), ([F.LEAF_STACK_THR_SEEN], 0x41), ([F.LEAF_STACK_WARN_SEEN], 0x40)]
  | .TRC_STATUS => [([F.TRC_STATUS_FROZEN_SEEN], 0x79)]
  | .DXL_TERR => [([F.DXL_TERR_ERR_SEEN], 0x65)]
  | _ => []

/-- The domain that raises an event of a register's flag, and its instance. -/
def State.flagPlace (s : State) (r : Reg) (i j code : Nat) : Nat × Nat :=
  match r with
  | .HUB_CHAN => (hubDom, s.endInst (.hub i))
  | .NODE_CHAN => (nodeDom i, s.endInst (.node i j))
  | .LEAF_CHAN => (leafDom i, i)
  | .REC_PERR => (hubDom, s.rd F.REC_PERR_RING)
  | .CLK_STAT => ((unitDom i).getD hubDom, i)
  | .LOOP_STAT => (s.rd F.LOOP_SCHED_HOST i, i)
  | .RAIL_STATE | .RAIL_SYNC | .RAIL_FUSE_STATUS | .RAIL_RISE | .PH_STAT => (hubDom, i)
  | .TS_CAL => (hubDom, i)
  | .TS_STAT => ((match s.inst? 7 i with | some x => x.owner | none => hubDom), i)
  | .DD_CAL | .DD_STAT => (leafDom ((s.ddLeaf i).getD 0), i)
  | .NODE_SPLIT_STAT => (nodeDom i, nodeDom i)
  | .LEAF_CORE => (leafDom i, s.logicalOf 4 i j)
  | .LEAF_STACK =>
    let n := s.logicalOf 5 i j
    (leafDom i, if code = 0x44 then n else 0x8000 + n)
  | _ => (hubDom, 0)

/-- The effect of the access codes, and the fall of the levels whose flags it clears (14 R422). -/
def State.plainFlags (s : State) (r : Reg) (i j : Nat) (w : Word) : State :=
  let up (s : State) (l : List Fld) : Bool := l.any fun f => s.is f i j
  let z := s.plain r i j w
  z.each ((flagRows r).filter fun x => up s x.1 && !up z x.1) fun z x =>
    let (d, inst) := z.flagPlace r i j x.2
    z.evFrom d x.2 inst 0 false

/-! ### Loops and gain tables (05 R153, R154, R158, R159, R167) -/

/-- The words of a loop, with a write in place. -/
def State.loopWords (s : State) (l : Nat) (r : Reg) (w : Word) (k : Nat) : LoopWords :=
  let pick (x : Reg) : Nat := (if k = l && r = x then w else s.reg x k).toNat
  { cfg := pick .LOOP_CFG, dest := pick .LOOP_DEST, lim := pick .LOOP_OUT_LIM }

/-- Whether a write of a loop's register is within its rules. -/
def State.loopFits (s : State) (l : Nat) (r : Reg) (w : Word) : Bool :=
  let lo := toSigned 32 (getBits w 0 32)
  let hi := toSigned 32 (getBits w 32 32)
  match r with
  | .LOOP_SP => decide (lo ≤ s.rdI F.LOOP_SP_MAX_SP_MAX l)
  | .LOOP_INT_LIM => decide (lo ≤ hi)
  | .LOOP_CFG | .LOOP_OUT_LIM | .LOOP_DEST =>
    let x := if r = .LOOP_OUT_LIM then w else s.reg .LOOP_OUT_LIM l
    let d := if r = .LOOP_DEST then w else s.reg .LOOP_DEST l
    let omin := toSigned 32 (getBits x 0 32)
    match s.loop? l with
    | some rec => decide (omin ≤ toSigned 32 (getBits x 32 32)) && (getBits d 0 2 ≠ 1 || decide (0 ≤ omin))
        && loopRule s.tree s.loops (s.rails.map (·.rail)) (s.loopWords l r w) rec
    | none => false
  | _ => true

/-- A write that would change an RWL field meets the owning loops (05 R167): E_LOOP_CLOSED with WR_REJ in those that are CLOSED,
else E_OVERRUN under a loader hold. -/
def State.rwlWrite (s : State) (owners : List Nat) (r : Reg) (i j : Nat) (w : Word) : Status × State :=
  let m := r.mask fun a => a = .RWL
  let moved := !(s.reg r i j &&& m == w &&& m)
  let closed := owners.filter fun l => s.loopSt l = 2
  if moved && !closed.isEmpty then (.eLoopClosed, s.each closed fun s l => s.flag F.LOOP_STAT_WR_REJ l)
  else if moved && owners.any fun l => s.is F.LOOP_CTRL_LDR_HOLD l then (.eOverrun, s)
  else (.ok, s.plainFlags r i j w)

/-- A write of a loop's register. -/
def State.loopWrite (s : State) (l : Nat) (r : Reg) (w : Word) : Status × State :=
  if !s.loopFits l r w then (.eRange, s)
  else
    let (st, s) := s.rwlWrite [l] r l 0 w
    (st, if st = .ok && r = .LOOP_SP then s.leaseCheck else s)

/-! ### STARTER entries (07) -/

/-- A write of a STARTER word: the conditional fields only while LEARN is 0 and the entry is not ACTIVE. -/
def State.strWrite (s : State) (r : Reg) (c p : Nat) (touched : Word) (w : Word) : Status × State :=
  let cond := r ≠ .STR_W6 && !(touched &&& r.mask accSets == 0)
  if cond && (s.is F.STR_CTX_LEARN c || s.is F.STR_W5_ACTIVE c p) then (.eRange, s)
  else if r = .STR_W2 && !(touched &&& 0xFFFF == 0) && (Nat.blt (getBits w 0 16) s.weightMin || Nat.blt s.weightMax (getBits w 0 16)) then
    (.eRange, s)
  else if r = .STR_W6 && Nat.blt 256 (getBits w 0 9) then (.eRange, s)
  else (.ok, ((s.plain r c p w).strChanged c false).slotShape c)

/-! ### Operations of the hub's registers -/

/-- Two operations of one write: neither takes effect where one of them is rejected (00 R16). -/
def both (s : State) (a b : State → Status × State) : Status × State :=
  let (st, z) := a s
  if st ≠ .ok then (st, s)
  else
    let (st, z) := b z
    if st ≠ .ok then (st, s) else (.ok, z)

/-- An operation where a bit of the write asks for it. -/
def onBit (w : Nat) (k : Nat) (f : State → Status × State) (s : State) : Status × State := if bitOf w k then f s else (.ok, s)

/-- TS_CTRL (11 R338, R339, R343): EN and CAL_RST. -/
def State.tsCtrl (s : State) (n w : Nat) : Status × State :=
  let off := s.is F.TS_CTRL_EN n && !bitOf w 0
  let on := !s.is F.TS_CTRL_EN n && bitOf w 0
  let s := (s.wr F.TS_CTRL_EN (w % 2) n).when on fun s => s.setV .tsEn (s.time + 1 : Nat) n
  let s := s.when off fun s => ((s.setV .tsGoodAt (-1) n).wr F.TS_VAL_VALID 0 n).hubTemp false
  if bitOf w 1 then s.calRst n else (.ok, s)

/-- REC_RING_n_B (17 R517): TAIL. -/
def State.ringTail (s : State) (n w : Nat) : Status × State :=
  let tail := w / 2 ^ 32 % 2 ^ 32
  let used := (s.rd F.REC_RING_B_HEAD n + 2 ^ 32 - tail) % 2 ^ 32
  if Nat.blt (s.recN n) used then (.eRange, s) else (.ok, (s.wr F.REC_RING_B_TAIL tail n).recRun)

/-- FAC_ALERT (18 R561): PEND, EN, then SW. -/
def State.facAlertWrite (s : State) (w : Word) : State :=
  let z := (s.plain .FAC_ALERT 0 0 w).alertRise s.alertLow
  if getBits w 16 1 = 1 then z.facAlert 6 else z

/-- The registers that the hub writes only through its command path (19 R574 to R577; marked H): a write of the register port is
ignored. -/
def hubOnly : List Reg := [.LEAF_THETA_LO, .LEAF_THETA_HI, .LEAF_VREF, .LEAF_SHED, .LEAF_THR_REQ, .LEAF_BRAKE, .LEAF_CNT_LATCH]

/-- What a register's operation gives at once: its status. -/
def gotSt (x : Status × State) : Option Status × State := (some x.1, x.2)

/-- What a register's operation gives that answers by itself. -/
def byItself (x : State) : Option Status × State := (none, x)

/-- The last part of regOp: STARTER, rails, phase channels, sites, detectors, latches, rings, the trace unit, links, the mirror;
a register with no operation of its own. -/
def State.regOpHeld (s : State) (p : Port) (r : Reg) (i j a : Nat) (wide : Bool) (w : Word) (pins : Pins) : Option Status × State :=
  let v := w.toNat
  let f (lsb n : Nat) : Nat := getBits w lsb n
  let touched : Word := halfOf a wide 0xFFFF_FFFF_FFFF_FFFF
  if r = .STR_CTX then
    let spoil := !s.is F.STR_CTX_LEARN i || !(f 9 1 = 1)
    (some .ok, ((((s.plain r i j w).when spoil fun s => s.smpSpoil i).strChanged i false).slotShape i))
  else if [Reg.STR_W0, .STR_W1, .STR_W2, .STR_W3, .STR_W5, .STR_W6].contains r then gotSt (s.strWrite r i j touched w)
  else if r = .RAIL_VSEL then gotSt (s.vselWrite i (f 0 3))
  else if r = .RAIL_VSLOT then gotSt (s.vslotWrite i j (f 0 12))
  else if r = .RAIL_KNEAD then gotSt (both s (onBit v 2 fun s => s.kneadRst i) fun s => (.ok, s.plainFlags r i j w))
  else if r = .PH_CTRL then gotSt (both s (onBit v 0 fun s => s.clrFault i (bitOf pins.faults 0)) (onBit v 1 fun s => s.phCalReq i))
  else if r = .TS_CTRL then gotSt (s.tsCtrl i v)
  else if r = .DD_CTRL then gotSt (both s (onBit v 10 fun s => s.ddCalReq i) fun s => (.ok, s.plainFlags r i j w))
  else if r = .DD_STAT then
    let s := s.plainFlags r i j w
    (some .ok, if bitOf v 1 then s.wr F.DD_STAT_CODE_MIN 0xFF i else s)
  else if r = .CNT_LATCH then
    match f 0 2 with
    | 0 => (some .ok, s)
    | 3 => (some .eRange, s)
    | k => byItself (s.latchWrite p none (f 48 4) k (f 2 2) (f 6 42))
  else if r = .CTX_LATCH then
    match f 0 2 with
    | 0 => (some .ok, s)
    | 3 => (some .eRange, s)
    | k => byItself (s.latchWrite p (some i) i k (f 2 2) (f 6 42))
  else if r = .REC_RING_A then gotSt (s.ringAWrite i v)
  else if r = .REC_RING_B then gotSt (s.ringTail i v)
  else if r = .TRC_CTRL then gotSt (s.trcCmd (f 0 3))
  else if r = .DXL_JOB then
    if s.spans.any fun o => decide (s.slotOf o = some i) then (some .eOverrun, s) else (some .ok, s.plain r i j w)
  else if r = .MIR_CMD then gotSt (s.mirCmd (f 0 2))
  else (some .ok, s.plainFlags r i j w)

/-- The second part of regOp: the loader, the identity, the event controller, clock units, loops, gain tables. -/
def State.regOpUnit (s : State) (p : Port) (r : Reg) (i j a : Nat) (wide : Bool) (w : Word) (pins : Pins) : Option Status × State :=
  let v := w.toNat
  let f (lsb n : Nat) : Nat := getBits w lsb n
  let touched : Word := halfOf a wide 0xFFFF_FFFF_FFFF_FFFF
  if r = .IMG_CTRL then gotSt (s.ldrCmd p (f 0 4))
  else if r = .IMG_WADDR then gotSt (s.ldrAddr p (f 0 20))
  else if r = .IMG_WDATA then gotSt (s.ldrData p wide w)
  else if r = .ID_CERT_CTRL then gotSt (s.certCmd (f 0 2) (f 16 13))
  else if r = .ID_CERT_WDATA then gotSt (s.certData w)
  else if r = .EVC_CTRL then gotSt (s.prigroupSet (f 0 3))
  else if r = .EVC_EOI then if touched &&& 0x3FF == 0 then (some .ok, s) else gotSt (s.complete i (f 0 10))
  else if r = .EVC_RECOVER then gotSt (s.recover i (f 0 2) (f 16 10))
  else if r = .EVC_GRP_A then gotSt (s.grpWrite i (f 0 8) (f 16 16))
  else if r = .EVC_SRC_CFG then gotSt (s.srcCfgWrite i v)
  else if r = .EVC_SRC_STATE then gotSt (s.srcStateWrite i v)
  else if r = .CLK_CTRL then gotSt (both s (fun s => if f 0 1 = s.rd F.CLK_CTRL_SEL i then (.ok, s) else s.clkSel i (f 0 1)) (onBit v 1 fun s => s.recal i))
  else if r = .LOOP_CTRL then gotSt (s.loopCmd i (f 4 2))
  else if [Reg.LOOP_CFG, .LOOP_SP, .LOOP_SP_MAX, .LOOP_OUT_LIM, .LOOP_INT_LIM, .LOOP_DEST, .LOOP_MANUAL].contains r then gotSt (s.loopWrite i r w)
  else if r = .GT_A || r = .GT_B then gotSt (s.rwlWrite (s.gtOwners i) r i j w)
  else s.regOpHeld p r i j a wide w pins

/-- A write of a register of the hub, or of one whose island's copy this state holds (05 R168; 19 R570): the status, or none
where the operation answers by itself. page says that the write comes through a context page. -/
def State.regOp (s : State) (p : Port) (r : Reg) (i j a : Nat) (wide : Bool) (data : Word) (pins : Pins) : Option Status × State :=
  let w := s.merge r i j a wide data
  let v := w.toNat
  let f (lsb n : Nat) : Nat := getBits w lsb n
  if !r.reached a wide then (some .ok, s)
  else if r = .HUB_PKG_CMD then gotSt (s.pkgCmd (f 0 4))
  else if r = .HUB_MODE then gotSt (s.modeReq (f 2 2))
  else if r = .STR_MARK then
    let c := f 0 4
    match f 12 2 with
    | 0 => (some .ok, s)
    | 1 => byItself ((s.portMark p c (some (f 4 8))).slotShape c)
    | 2 => byItself ((s.portMark p c none).slotShape c)
    | _ => (some .eRange, s)
  else if r = .STR_CMD then gotSt (s.strOp (f 4 4) (f 0 4) (f 8 8))
  else if r = .SYNC_CMD || r = .CTX_SYNC_OP then
    let page := if r = .SYNC_CMD then none else some i
    let bad := decide (v / 2 ^ 5 % 8 ≠ 0) || decide (v / 2 ^ 22 % 4 ≠ 0)
    if f 0 5 = 0x12 then byItself (s.portSwitch p page bad (f 56 8))
    else byItself (s.portOp p page bad (f 0 5) (f 8 14) (f 24 16) (f 40 16) (f 56 8))
  else if r = .CRUST_LATCH then (some .ok, s.latchClear pins v)
  else if r = .CRUST_RAIL then (some .ok, s.railClear v)
  else if r = .CRUST_RAIL_UV then (some .ok, s.railUvClear v)
  else if r = .RST_CMD then gotSt (match f 0 2 with | 0 => (.ok, s) | 1 => s.rstWarm | 2 => s.islReset (f 16 16) | _ => (.eRange, s))
  else if r = .HUB_CLK_CMD then gotSt (match f 0 2 with | 0 => (.ok, s) | 1 => (.ok, s.clkReturn) | _ => (.eRange, s))
  else if r = .FAC_ALERT then (some .ok, s.facAlertWrite w)
  else s.regOpUnit p r i j a wide w pins

/-! ### Operations of an island's registers -/

/-- LEAF_GATE_n at its leaf (06 R195, R196): PART, ARR and EN wait for the next credit window; FAULT bits clear at once. -/
def State.gateWrite (s : State) (l p : Nat) (w : Word) (pins : Pins) : Status × State :=
  let arr := getBits w 48 3
  if Nat.blt 4 arr || (getBits w 51 1 = 1 && arr = 0) || (getBits w 52 1 = 1 && arr = 4) then (.eRange, s)
  else
    let s := s.setV .gatePend (getBits w 44 9 + 1 : Nat) l p
    let s := s.when (getBits w 53 1 = 1) fun s => s.faultClear l (2 * p) (!bitOf pins.faults 0)
    (.ok, s.when (getBits w 54 1 = 1) fun s => s.faultClear l (2 * p + 1) (!bitOf pins.faults 1))

/-- A write at the island that owns the register (03 R89, R90; 19 R574 to R577). -/
def State.islandOp (s : State) (r : Reg) (i j a : Nat) (wide : Bool) (data : Word) (pins : Pins) : Status × State :=
  let w := s.merge r i j a wide data
  let v := w.toNat
  if !r.reached a wide then (.ok, s)
  else match r with
  | .LEAF_THETA_LO => (.ok, s.thetaWrite i j false v)
  | .LEAF_THETA_HI => (.ok, s.thetaWrite i j true v)
  | .LEAF_VREF => (.ok, s.vrefTake i v)
  | .LEAF_SHED => (.ok, s.shedTake i (v % 32))
  | .LEAF_THR_REQ => (.ok, s.thrTake i (v % 512))
  | .LEAF_BRAKE => (.ok, s.brakeTake i v)
  | .LEAF_CNT_LATCH => (.ok, s.latchTake i v)
  | .LEAF_PART => (.ok, (s.leafAcct i).plain r i j w)
  | .LEAF_GATE =>
    -- a 32-bit write keeps what waits for the credit window
    let w := if wide || s.v .gatePend i j = 0 || a % 8 = 4 then w else setBits w 44 9 (s.vn .gatePend i j - 1)
    s.gateWrite i j w pins
  | .LEAF_LSYNC => s.lsyncWr i j v
  | .LEAF_CNT_SEL =>
    -- class of 04 R111, issue limit code of R5, source code of 06 R190
    if Nat.blt 0x14 (getBits w 4 5) || Nat.blt 256 (getBits w 9 9) || Nat.blt 9 (getBits w 18 4) then (.eRange, s)
    else (.ok, s.selTake i j w)
  | _ => (.ok, s.plainFlags r i j w)

/-- Whether a command's OFFSET names a loop or a gain table at a node engine (05 R168; log entry 109). -/
def isCopyOff (d off : Nat) : Bool := isNode d && Nat.ble 0x4_0000 off && Nat.blt off 0x6_0000

/-- A write of a loop's register or of a gain table at the node engine that holds it (05 R167, R168). -/
def State.copyOp (s : State) (d a : Nat) (wide : Bool) (data : Word) (pins : Pins) : Status × State :=
  match decodeAddr a with
  | none => (.ok, s)
  | some (r, i, j) =>
    if r = .GT_A || r = .GT_B then
      let own := (s.gtOwners i).filter fun l => s.rd F.LOOP_SCHED_HOST l = d
      let new := putWord r a wide (s.gtWord r d i j) data
      let moved := !(new == s.gtWord r d i j)
      let closed := own.filter fun l => s.loopSt l = 2
      if moved && !closed.isEmpty then (.eLoopClosed, s.each closed fun s l => s.flag F.LOOP_STAT_WR_REJ l)
      else if moved && own.any fun l => s.is F.LOOP_CTRL_LDR_HOLD l then (.eOverrun, s)
      else (.ok, s.gtNodeSet r d i j new)
    else
      let hub := s.lpHubWord r i
      let (st, z) := s.regOp .fac r i j a wide data pins
      (st.getD .ok, z.when (loopCfgRegs.contains r) fun z => z.lpHubSet r i hub)

/-- A write of an offset in an island's window, at the island. -/
def State.islandWrite (s : State) (d off : Nat) (wide : Bool) (data : Word) (pins : Pins) : Status × State :=
  if isCopyOff d off then s.copyOp d off wide data pins
  else
    let a := islandAddr d off
    match decodeAddr a with
    | none => (.ok, s)
    | some (r, i, j) => s.islandOp r i j a wide data pins

/-- A read at the island. -/
def State.islandRead (s : State) (d off : Nat) (wide : Bool) : Word :=
  let a := if isCopyOff d off then off else islandAddr d off
  match decodeAddr a with
  | none => 0
  | some (r, i, j) => halfOf a wide (if r = .GT_A || r = .GT_B then s.gtWord r d i j else s.view r i j)

/-! ### Requests -/

/-- Whether a register's write may be posted (18 R539): every field is RW, W1C, W1S or RO. -/
def postable (a : Nat) : Bool :=
  match decodeAddr a with
  | none => true
  | some (r, _, _) => r.rows.all fun f => f.acc = .RO || f.acc = .RW || f.acc = .W1C || f.acc = .W1S

/-- Whether a write is to a register that only the hub's command path writes. -/
def isHubOnly (a : Nat) : Bool := match decodeAddr a with | some (r, _, _) => hubOnly.contains r | none => false

/-- Perform a write that has passed the checks of acceptance: a register of an island, and a loop or gain table that node engines
hold, by a command (03 R89; 05 R168). -/
def State.perform (s : State) (p : Port) (a : Nat) (wide : Bool) (w : Word) (pins : Pins) : Option Status × State :=
  match addrIsland a with
  | some d =>
    if isHubOnly a then (some .ok, s)
    else
      let (sent, s) := s.hubCmd d (if wide then 3 else 2) (a % 0x1000) w.toNat (.port p a true)
      (if sent then none else some .eAbsent, s)
  | none =>
    match decodeAddr a with
    | none => (some .ok, s)
    | some (r, i, j) =>
      match s.copyNodes a with
      | [] => s.regOp p r i j a wide w pins
      | d :: rest =>
        -- the hub forwards an accepted write (05 R168)
        let (st, z) := s.regOp p r i j a wide w pins
        if st = some .ok then
          let (sent, s) := s.copySend (some p) a w wide d rest
          (if sent then none else some .eAbsent, s)
        else (st, z)

/-- Perform a write and answer it. -/
def State.performAns (s : State) (p : Port) (a : Nat) (wide : Bool) (w : Word) (pins : Pins) : State :=
  match s.perform p a wide w pins with
  | (some st, s) =>
    match decodeAddr a with
    | some (r, _, _) => s.answerReg p r a true st 0
    | none => s.answerD p a true st 0
  | (none, s) => s

/-- A posted write enters the queue and is answered OK (18 R539). -/
def State.postAdd (s : State) (init : Nat) (priv : Bool) (a : Nat) (w : Word) (wide : Bool) : State :=
  let x : PostedWr := { init := init, priv := priv, addr := a, data := w, wide := wide, busy := false }
  let s : State := { s with posted := s.posted ++ [x] }
  let s := (s.incWrap F.HOST_STATUS_POSTED).wr F.HOST_STATUS_PQ_DEPTH s.posted.length
  s.emit (.rsp (.reg init priv) .ok 0)

/-- Whether a drain runs for the island that an address lies in: before the ramp-down's fences, or before ISL_RST of it or of an island
above it (18 R541; 03 R103). -/
def State.draining (s : State) (a : Nat) : Bool :=
  match addrIsland a with
  | none => false
  | some x => s.v .downWait = 1 || s.tree.any fun r => decide (s.v .islPlan r.dom = 1) && s.beneath x r.dom

/-- Whether a write enters the posted-write queue (18 R539, R541). -/
def State.posts (s : State) (post : Bool) (a : Nat) : Bool := post && postable a && !s.draining a

/-- Whether a write of an initiator may not begin yet (18 R536, R540): an earlier request of the initiator stands unanswered, one that
it may not pass waits, or, for a write that is not posted, the queue holds a write of the initiator or of the same register. -/
def State.reqBlocked (s : State) (init a : Nat) (post : Bool) (before : List RegReq) : Bool :=
  (before.any fun x => Nat.beq x.init init || Nat.beq (x.addr / 8) (a / 8))
    || (s.begun.any fun x => match x.2.1 with | .reg k _ => Nat.beq k init | _ => false)
    || (!post && s.posted.any fun x => Nat.beq x.init init || Nat.beq (x.addr / 8) (a / 8))

/-- Begin an accepted write of the register port (18 R538, R539). -/
def State.reqBegin (s : State) (x : RegReq) : State :=
  let p := Port.reg x.init x.priv
  let wide := Nat.beq x.size 3
  if x.st ≠ .ok then s.answerD p x.addr true x.st 0
  else if s.posts x.post x.addr then s.postAdd x.init x.priv x.addr x.data wide
  else s.performAns p x.addr wide x.data x.pins

/-- The oldest waiting write that may begin now; a posted one waits for room in the queue (18 R536, R539). -/
def State.reqNext (s : State) : Option RegReq :=
  (s.reqWait.zipIdx.find? fun y =>
    let post := s.posts y.1.post y.1.addr
    !s.reqBlocked y.1.init y.1.addr post (s.reqWait.take y.2) && !(post && y.1.st = .ok && Nat.ble 32 s.posted.length)).map (·.1)

/-- Begin the waiting writes that may begin, at most as many as given. -/
def State.reqPump (s : State) (fuel : Nat) : State :=
  match fuel with
  | 0 => s
  | f + 1 =>
    match s.reqNext with
    | none => s
    | some x => (State.reqBegin { s with reqWait := s.reqWait.erase x } x).reqPump f

/-- Requests have been answered or performed: those that waited for them begin (18 R536). -/
def State.reqRun (s : State) : State := if s.hubUp then s.reqPump 32 else s

/-- A step on an empty queue of commands: the lanes send (03 R92), and the waiting writes that may begin do (18 R536; log entry 1). -/
def State.idle (s : State) : State :=
  if s.reqWait.isEmpty then s.laneRound
  else (if s.lanes.isEmpty then { s with out := [] } else s.laneRound).reqRun

/-- REGISTER_WRITE (00 R16, R19; 18 R534 to R541): size is log2 of the bytes. A request of the register port waits for the earlier ones
that it may not pass. One that may not be accepted now, because 32 are outstanding or a posted write finds the queue full, has no
effect. -/
def execRegisterWrite (t : Nat) (p : Port) (addr size : Nat) (post : Bool) (w : Word) (pins : Pins) (s : State) :
    Host.Outcome State Fault Refusal :=
  let s := s.start t
  let a := addr % 2 ^ 26
  let st := s.accessStatus p a size
  .next (if !s.hubUp then s.deadAnswer p
    else match p with
      | .reg init priv =>
        let x : RegReq := { time := s.time, init := init, priv := priv, addr := a, size := size, post := post, data := w, pins := pins, st := st }
        let posts := s.posts post a
        if Nat.ble 32 s.accepted.length then s
        else if posts && st = .ok && Nat.ble 32 s.posted.length then s
        else if s.reqBlocked init a posts s.reqWait then { s with reqWait := s.reqWait ++ [x] }
        else s.reqBegin x
      | _ => if st ≠ .ok then s.answerD p a true st 0 else s.performAns p a (Nat.beq size 3) w pins)

/-- POSTED_WRITE_PERFORM (18 R540): the oldest queued write. -/
def execPostedWritePerform (t : Nat) (pins : Pins) (s : State) : Host.Outcome State Fault Refusal :=
  let s := s.start t
  match s.posted with
  | [] => .next s
  | x :: rest =>
    .next (if x.busy || !s.hubUp then s
      else
        let p := Port.posted x.init x.priv
        let st := s.accessStatus p x.addr (if x.wide then 3 else 2)
        if (addrIsland x.addr).isNone && st ≠ .ok then ((s.answerD p x.addr true st 0).postedDone true).pkgRun.reqRun
        else match s.perform p x.addr x.wide x.data pins with
        | (some st, s) => ((s.answerD p x.addr true st 0).postedDone (st ≠ .ok)).pkgRun.reqRun
        | (none, s) => { s with posted := { x with busy := true } :: rest })

end Sys2Proof.Machine
end

