-- ==== Sys2Proof/Machine/Command.lean ====
section
/-!
DEFINITION. The command path of the channels (03 R86, R89, R90, R98 to R101): requests with their data, responses, and the
time-outs of the hub and of the register port (18 R537).
-/
namespace Sys2Proof.Machine

/-- The status of a code (00 R14); a code that the block never returns counts as a failed operation (00 R15). -/
def statusOf (n : Nat) : Status :=
  [Status.ok, .eAbsent, .ePriv, .eLoopClosed, .eAlign, .eRange, .eImage, .eOverrun, .eBroken, .eNest].getD n .eAbsent

/-- An island answers a request: CMD_RSP to its parent, and the data of a read that is OK (03 R90). -/
def State.islandAns (s : State) (d reqid : Nat) (st : Status) (data : Option Word) : State :=
  let s := s.sendUp d Mt.cmdRsp (rspPayload d reqid st)
  match data with
  | some w => if st = .ok then s.sendUp d Mt.cmdData w.toNat else s
  | none => s

/-- An island performs a request that is its own: the response leaves before any message that the command causes (03 R98). -/
def State.islandRun (s : State) (d : Nat) (r : CmdReq) (data : Word) (pins : Pins) : State :=
  if Nat.ble 4 r.op then s.islandAns d r.reqid .eRange none
  else if opWrites r.op then
    let n := s.out.length
    let k := s.lanes.length
    let (st, z) := s.islandWrite d r.off (r.op = 3) data pins
    let z1 := State.islandAns { z with out := z.out.take n, lanes := z.lanes.take k } d r.reqid st none
    { z1 with out := z1.out ++ z.out.drop n, lanes := z1.lanes ++ (z.lanes.drop k).map fun m => { m with follows := true } }
  else s.islandAns d r.reqid .ok (some (s.islandRead d r.off (r.op = 1)))

/-- A node engine sends a request on toward its destination, or its guard answers E_ABSENT (03 R86, R89, R99). -/
def State.cmdOn (s : State) (d : Nat) (r : CmdReq) (data : Word) : State :=
  match s.hop d r.dest with
  | none => s.sendUp d Mt.cmdRsp (rspPayload r.dest r.reqid .eAbsent)
  | some c =>
    let e := s.parentEnd c
    if s.canSend e Mt.cmdReq then s.cmdForward e r data.toNat .relay
    else (s.chInc e F.HUB_CHAN_ABSENT_REPLIES).sendUp d Mt.cmdRsp (rspPayload r.dest r.reqid .eAbsent)

/-- A complete request at a child end: performed, or sent on. -/
def State.cmdRun (s : State) (d : Nat) (r : CmdReq) (data : Word) (pins : Pins) : State :=
  (if r.dest = d then s.islandRun d r data pins else s.cmdOn d r data).fenceProgress d

/-- CMD_REQ (03 R89): the request of a write waits for its CMD_DATA. One that comes up a channel is dropped with CHAN_PROTO
(0x05). -/
def execCmdReq (t : Nat) (e : ChEnd) (tag dest reqid op off : Nat) (s : State) : Host.Outcome State Fault Refusal :=
  let r : CmdReq := { dest := dest % 65536, reqid := reqid % 256, op := op % 8, off := off % 2 ^ 24 }
  .next ((s.start t).deliver e tag fun s =>
    if endIsParent e then s.evFrom (endDom e) 0x05 (s.endInst e)
    else if opWrites r.op then { s with chan := { s.chan with await := s.chan.await ++ [(e, r)] } }
    else s.cmdRun (endDom e) r 0 { coolOk := false, absHigh := false, faults := 0 })

/-- A request that a parent end forwarded has its answer (03 R90, R101): to what the hub sent it for, or on toward the hub. -/
def State.cmdFinish (s : State) (e : ChEnd) (p : CmdPend) (src : Nat) (st : Status) (data : Option Word) : State :=
  let s := s.pendDrop e p.req.reqid
  let d := endDom e
  if d = hubDom then (s.cmdAnswered p st (data.getD 0)).pkgRun.reqRun
  else
    let s := s.sendUp d Mt.cmdRsp (rspPayload src p.req.reqid st)
    (match data with | some w => s.sendUp d Mt.cmdData w.toNat | none => s).fenceProgress d

/-- CMD_DATA (03 R89, R90): the data of the write, or of the read response, that came before it on the lane; one that belongs to
neither is dropped. -/
def execCmdData (t : Nat) (e : ChEnd) (tag : Nat) (w : Word) (pins : Pins) (s : State) : Host.Outcome State Fault Refusal :=
  .next ((s.start t).deliver e tag fun s =>
    if endIsParent e then
      match s.chan.rspWait.find? fun x => x.1 = e with
      | none => s
      | some (_, src, reqid) =>
        let s : State := { s with chan := { s.chan with rspWait := s.chan.rspWait.erase (e, src, reqid) } }
        match s.pend? e reqid with
        | some p => s.cmdFinish e p src .ok (some w)
        | none => s
    else
      match s.chan.await.find? fun x => x.1 = e with
      | none => s
      | some (_, r) =>
        let s : State := { s with chan := { s.chan with await := s.chan.await.erase (e, r) } }
        s.cmdRun (endDom e) r w pins)

/-- CMD_RSP (03 R90, R101): it retires its entry; a read that is OK waits for its data. -/
def execCmdRsp (t : Nat) (e : ChEnd) (tag src reqid st : Nat) (s : State) : Host.Outcome State Fault Refusal :=
  .next ((s.start t).deliver e tag fun s =>
    if !endIsParent e then s.evFrom (endDom e) 0x05 (s.endInst e)
    else match s.pend? e (reqid % 256) with
      | none => s.chInc e F.HUB_CHAN_STALE_DROPS
      | some p =>
        if st % 256 = 0 && !opWrites p.req.op then
          { s with chan := { s.chan with rspWait := s.chan.rspWait ++ [(e, src % 65536, reqid % 256)] } }
        else s.cmdFinish e p (src % 65536) (statusOf (st % 256)) none)

/-- CMD_TIMEOUT (03 R100): tCMDTO after the hub forwarded a request. -/
def execCmdTimeout (t : Nat) (e : ChEnd) (reqid : Nat) (s : State) : Host.Outcome State Fault Refusal :=
  let s := s.start t
  match s.pend? e reqid with
  | none => .next s
  | some p =>
    .next (if endDom e = hubDom && Nat.ble (p.time + 3000) s.time then
        let s := s.pendDrop e reqid
        let s : State := { s with chan := { s.chan with quar := s.chan.quar ++ [(e, reqid)] } }
        let s := (s.cmdAnswered p .eAbsent 0).event 0x07 p.req.dest
        ((s.setV .islRst (s.time + 1) p.req.dest).rstSync).pkgRun.reqRun
      else s)

/-- Whether a port is the register port under an initiator. -/
def isInit (init : Nat) (p : Port) : Bool := match p with | .reg k _ => Nat.beq k init | _ => false

/-- RSP_TIMEOUT (18 R537): the requests of an initiator for which no status stands at tRSP − 100 ns are answered E_ABSENT. -/
def execRspTimeout (t init : Nat) (s : State) : Host.Outcome State Fault Refusal :=
  let s := s.start t
  let late (x : Nat) (p : Port) : Bool := isInit init p && Nat.ble (x + 3900) s.time
  .next (if s.accepted.any fun x => late x.1 x.2.1 then
      (((s.answerAbsent late).flag F.HOST_STATUS_RSPTO_SEEN).event 0x89 0).reqRun
    else s)

end Sys2Proof.Machine
end

