-- ==== Sys2Proof/Machine/Facility.lean ====
section
/-!
DEFINITION. The facility port (18 R552 to R561): its transports, MCTP control, the vendor-defined messages, the SPDM responder and
the PMBus subset. What a named external standard leaves to it comes from Config.standardBody (log entry 4).
-/
namespace Sys2Proof.Machine

/-! ### Messages -/

/-- A message that the port discards (18, FAC_STATUS.ERRORS; R565): 0 transport, 1 MCTP, 2 SPDM. -/
def State.facErr (s : State) (k : Nat) : State := (s.incSat F.FAC_STATUS_ERRORS).event 0x8B k

/-- Whether a request of the facility port is in progress (18 R553). -/
def State.facBusy (s : State) : Bool := s.chan.pend.any fun p => match p.src with | .fac _ => true | _ => false

/-- The state of an SPDM session: 0 none, 1 in establishment, 2 established (18 R556). -/
def State.sesSt (s : State) (k : Nat) : Nat := s.vn .spdmSes k

/-- A message on the facility port (18 R553, R556): taken while the hub runs and no request is in progress; discarded when its PEC
fails, its type is not supported, or it fails in its session. -/
def State.facMsg (s : State) (m : FacMsg) (op : State → State) : State :=
  if !s.hubUp || s.facBusy then s.emit .nack
  else if !m.pecOk then s.facErr 0
  else if !([0x00, 0x05, 0x7F].contains m.typ) then s.facErr 1
  else match m.ses with
    | some k => if m.macOk && Nat.beq (s.sesSt k) 2 then op s else s.facErr 2
    | none => op s

/-- A response on the facility port. -/
def State.facSend (s : State) (b : List Byte) : State := s.emit (.fac b)

/-! ### Vendor-defined messages (18 R554, R555) -/

/-- The payload of a status that is OK. -/
def okBytes (st : Status) (b : List Byte) : List Byte := if st = .ok then b else []

/-- A vendor-defined request: the operation gives the status, the payload and the state. -/
def State.vendor (s : State) (m : FacMsg) (opcode tag : Nat) (op : State → Status × List Byte × State) : State :=
  s.facMsg m fun s =>
    let (st, b, s) := op s
    s.facSend ([BitVec.ofNat 8 opcode, BitVec.ofNat 8 tag, BitVec.ofNat 8 st.code] ++ okBytes st b)

/-- An operation without a payload. -/
def noPayload (x : Status × State) : Status × List Byte × State := (x.1, [], x.2)

/-- The eight bytes that a register reads. -/
def State.regBytes (s : State) (r : Reg) (i : Nat := 0) : List Byte := wordBytes (s.view r i 0)

/-- PKG_CMD (18 R554). -/
def execFacPkgCmd (t : Nat) (m : FacMsg) (tag cmd : Nat) (s : State) : Host.Outcome State Fault Refusal :=
  .next ((s.start t).vendor m 1 tag fun s =>
    if Nat.blt 15 cmd then noPayload (.eRange, s) else noPayload (s.pkgCmd cmd))

/-- GET_STATE (18 R554). -/
def execFacGetState (t : Nat) (m : FacMsg) (tag : Nat) (s : State) : Host.Outcome State Fault Refusal :=
  .next ((s.start t).vendor m 2 tag fun s =>
    (.ok, s.regBytes .HUB_PKG_STATE ++ s.regBytes .CRUST_LATCH ++ s.regBytes .HUB_CAPS, s))

/-- READ_REG (18 R554, R555): a register of an island, and a loop or gain table that a node engine holds (05 R168), is read by a
command, and its response follows the answer. -/
def execFacReadReg (t : Nat) (m : FacMsg) (tag off : Nat) (s : State) : Host.Outcome State Fault Refusal :=
  .next ((s.start t).facMsg m fun s =>
    let ans (st : Status) (w : Word) (s : State) : State :=
      s.facSend ([3, BitVec.ofNat 8 tag, BitVec.ofNat 8 st.code] ++ okBytes st (wordBytes w))
    if off % 8 ≠ 0 then ans .eAlign 0 s
    else if Nat.ble (2 ^ 26) off then ans .eRange 0 s
    else
      let st := s.accessStatus .fac off 3
      if st ≠ .ok then ans st 0 s
      else match (addrIsland off).map (fun d => (d, off % 0x1000)) <|> (s.copyNodes off).head?.map (fun d => (d, off)) with
        | some (d, o) =>
          let (sent, s) := s.hubCmd d 1 o 0 (.fac tag)
          if sent then s else ans .eAbsent 0 s
        | none =>
          let (st, w, s) := s.regRead off true
          ans st w s)

/-- IMG_OPEN (18 R554; 02 R54, R72). -/
def execFacImgOpen (t : Nat) (m : FacMsg) (tag : Nat) (s : State) : Host.Outcome State Fault Refusal :=
  .next ((s.start t).vendor m 4 tag fun s => noPayload (s.ldrCmd .fac 1))

/-- The bytes of a message as words, the last one filled with zeros. -/
def byteWords : Nat → List Byte → List Word
  | 0, _ => []
  | n + 1, l => BitVec.ofNat 64 (leNat (l.take 8)) :: byteWords n (l.drop 8)

/-- Write words until the first error (18 R554). -/
def State.writeWords (s : State) (f : State → Word → Status × State) : List Word → Status × State
  | [] => (.ok, s)
  | w :: l =>
    let (st, z) := f s w
    if st = .ok then z.writeWords f l else (st, z)

/-- Whether a data message carries 8 to 240 bytes, a multiple of 8. -/
def dataFits (b : List Byte) : Bool := Nat.ble 8 b.length && Nat.ble b.length 240 && Nat.beq (b.length % 8) 0

/-- IMG_DATA (18 R554): the pointer, then one write per 8 bytes. -/
def execFacImgData (t : Nat) (m : FacMsg) (tag ptr : Nat) (data : List Byte) (s : State) : Host.Outcome State Fault Refusal :=
  .next ((s.start t).vendor m 5 tag fun s =>
    if !dataFits data || Nat.ble (2 ^ 20) ptr then noPayload (.eRange, s)
    else
      let (st, s) := s.ldrAddr .fac ptr
      if st ≠ .ok then noPayload (st, s)
      else noPayload (s.writeWords (fun s w => s.ldrData .fac true w) (byteWords (data.length / 8) data)))

/-- IMG_COMMIT (18 R554). -/
def execFacImgCommit (t : Nat) (m : FacMsg) (tag : Nat) (s : State) : Host.Outcome State Fault Refusal :=
  .next ((s.start t).vendor m 6 tag fun s => noPayload (s.ldrCmd .fac 2))

/-- IMG_ABORT (18 R554). -/
def execFacImgAbort (t : Nat) (m : FacMsg) (tag : Nat) (s : State) : Host.Outcome State Fault Refusal :=
  .next ((s.start t).vendor m 7 tag fun s => noPayload (s.ldrCmd .fac 3))

/-- COMMIT_SVN (18 R554; 02 R70). -/
def execFacCommitSvn (t : Nat) (m : FacMsg) (tag : Nat) (s : State) : Host.Outcome State Fault Refusal :=
  .next ((s.start t).vendor m 8 tag fun s => noPayload (s.ldrCmd .fac 4))

/-- IMG_STATUS (18 R554). -/
def execFacImgStatus (t : Nat) (m : FacMsg) (tag : Nat) (s : State) : Host.Outcome State Fault Refusal :=
  .next ((s.start t).vendor m 9 tag fun s => (.ok, s.regBytes .IMG_STATUS ++ s.regBytes .IMG_INFO, s))

/-- TRC_READ (18 R554; 17 R527): frames of 32 bytes from a slot on. -/
def execFacTrcRead (t : Nat) (m : FacMsg) (tag slot count : Nat) (s : State) : Host.Outcome State Fault Refusal :=
  .next ((s.start t).vendor m 0x0A tag fun s =>
    if count = 0 || Nat.blt 7 count || Nat.blt 8192 (slot + count) then noPayload (.eRange, s)
    else
      let st := s.readStatus .TRC_BUF (4 * slot) 0
      (st, (List.range (4 * count)).flatMap fun k => s.regBytes .TRC_BUF (4 * slot + k), s))

/-- ALERT_CLR (18 R554, R561). -/
def execFacAlertClr (t : Nat) (m : FacMsg) (tag mask : Nat) (s : State) : Host.Outcome State Fault Refusal :=
  .next ((s.start t).vendor m 0x0B tag fun s =>
    let s := s.setReg .FAC_ALERT (s.reg .FAC_ALERT &&& ~~~(BitVec.ofNat 64 (clearBits (mask % 256) (s.justSet .FAC_ALERT))))
    (.ok, s.regBytes .FAC_ALERT, s))

/-- SIGN_TRIP (18 R563). -/
def execFacSignTrip (t : Nat) (m : FacMsg) (tag : Nat) (nonce : List Byte) (s : State) : Host.Outcome State Fault Refusal :=
  .next ((s.start t).vendor m 0x0C tag fun s =>
    if s.fac.trip.isEmpty || nonce.length ≠ 32 then noPayload (.eRange, s)
    else (.ok, s.fac.trip ++ Config.idSign (s.rd F.MIR_STATUS_SELF) (s.fac.trip ++ nonce), s))

/-- CERT_OPEN (18 R554, R562). -/
def execFacCertOpen (t : Nat) (m : FacMsg) (tag : Nat) (s : State) : Host.Outcome State Fault Refusal :=
  .next ((s.start t).vendor m 0x0D tag fun s => noPayload (s.certCmd 1 0))

/-- CERT_DATA (18 R554, R562): the pointer, then one write per 8 bytes. -/
def execFacCertData (t : Nat) (m : FacMsg) (tag ptr : Nat) (data : List Byte) (s : State) : Host.Outcome State Fault Refusal :=
  .next ((s.start t).vendor m 0x0E tag fun s =>
    if !dataFits data || ptr % 8 ≠ 0 || Nat.ble 4096 ptr || !s.is F.ID_STATUS_FILLING then noPayload (.eRange, s)
    else noPayload ((s.setV .certPtr (ptr : Int)).writeWords (fun s w => s.certData w) (byteWords (data.length / 8) data)))

/-- CERT_COMMIT (18 R554, R562). -/
def execFacCertCommit (t : Nat) (m : FacMsg) (tag len : Nat) (s : State) : Host.Outcome State Fault Refusal :=
  .next ((s.start t).vendor m 0x0F tag fun s =>
    if Nat.blt 8191 len then noPayload (.eRange, s) else noPayload (s.certCmd 2 len))

/-- FAC_ALERT_SW (18 R561): firmware sets PEND bit 6. -/
def execFacAlertSw (t : Nat) (p : Port) (s : State) : Host.Outcome State Fault Refusal :=
  .next ((s.start t).command p .FAC_ALERT fun s => (.ok, s.facAlert 6))

/-! ### MCTP control (18 R553) -/

/-- A response whose layout an external standard gives, over the content that the spec gives it. -/
def State.standard (s : State) (name : String) (content : List Byte) : State := s.facSend (Config.standardBody name content)

/-- Set Endpoint ID: operations 0 and 1 assign an EID that is neither 0 nor 0xFF. -/
def execSetEndpointId (t : Nat) (m : FacMsg) (op eid : Nat) (s : State) : Host.Outcome State Fault Refusal :=
  .next ((s.start t).facMsg m fun s =>
    let ok := Nat.blt op 2 && !(eid % 256 = 0 || eid % 256 = 255)
    let s := s.when ok fun s => s.wr F.FAC_STATUS_EID eid
    s.standard "Set Endpoint ID" [BitVec.ofNat 8 op, BitVec.ofNat 8 eid, BitVec.ofNat 8 (s.rd F.FAC_STATUS_EID)])

/-- Get Endpoint ID. -/
def execGetEndpointId (t : Nat) (m : FacMsg) (s : State) : Host.Outcome State Fault Refusal :=
  .next ((s.start t).facMsg m fun s => s.standard "Get Endpoint ID" [BitVec.ofNat 8 (s.rd F.FAC_STATUS_EID)])

/-- Get MCTP Version Support, for a message type. -/
def execGetMctpVersionSupport (t : Nat) (m : FacMsg) (typ : Nat) (s : State) : Host.Outcome State Fault Refusal :=
  .next ((s.start t).facMsg m fun s => s.standard "Get MCTP Version Support" [BitVec.ofNat 8 typ])

/-- Get Message Type Support: control, SPDM and vendor-defined IANA. -/
def execGetMessageTypeSupport (t : Nat) (m : FacMsg) (s : State) : Host.Outcome State Fault Refusal :=
  .next ((s.start t).facMsg m fun s => s.standard "Get Message Type Support" [0x00, 0x05, 0x7F])

/-- Get Vendor Defined Message Support: the enterprise number of FAC_IANA. -/
def execGetVendorDefinedMessageSupport (t : Nat) (m : FacMsg) (sel : Nat) (s : State) : Host.Outcome State Fault Refusal :=
  .next ((s.start t).facMsg m fun s =>
    s.standard "Get Vendor Defined Message Support" (BitVec.ofNat 8 sel :: leBytes 4 Config.fuses.iana))

/-! ### The SPDM responder (18 R556, R557) -/

/-- An ERROR response, by the name of its code. -/
def State.spdmError (s : State) (code : String) : State := s.standard ("ERROR " ++ code) []

/-- A request that needs the connection at a state. -/
def State.spdmAt (s : State) (n : Nat) (op : State → State) : State :=
  if Nat.ble n (s.vn .spdmSt) then op s else s.spdmError "UnexpectedRequest"

/-- A request that is signed: the key pair must be there. -/
def State.spdmSigned (s : State) (name : String) (content : List Byte) : State :=
  s.facSend (Config.standardBody name content
    ++ Config.idSign (s.rd F.MIR_STATUS_SELF) (Config.standardBody (name ++ " transcript") content))

/-- The accepted certificate chain (18 R562). -/
def State.certChain (s : State) : List Byte := Mem.bytes s.fac.cert 0 (s.rd F.ID_STATUS_CERT_LEN)

/-- Set a session's state, with SESSIONS. -/
def State.sesSet (s : State) (k n : Nat) : State :=
  let s := s.setV .spdmSes (n : Int) k
  s.wr F.FAC_STATUS_SESSIONS (b2n (s.sesSt 0 ≠ 0) + b2n (s.sesSt 1 ≠ 0))

/-- GET_VERSION: version 1.2; the connection begins again. -/
def execGetVersion (t : Nat) (m : FacMsg) (s : State) : Host.Outcome State Fault Refusal :=
  .next ((s.start t).facMsg m fun s => (s.setV .spdmSt 1).standard "VERSION" [0x12])

/-- GET_CAPABILITIES. -/
def execGetCapabilities (t : Nat) (m : FacMsg) (s : State) : Host.Outcome State Fault Refusal :=
  .next ((s.start t).facMsg m fun s => s.spdmAt 1 fun s =>
    (s.setV .spdmSt 2).standard "CAPABILITIES CERT CHAL MEAS_SIG KEY_EX ENCRYPT MAC HBEAT" [])

/-- NEGOTIATE_ALGORITHMS: offers tells whether the requester offers the four that the responder negotiates. -/
def execNegotiateAlgorithms (t : Nat) (m : FacMsg) (offers : Bool) (s : State) : Host.Outcome State Fault Refusal :=
  .next ((s.start t).facMsg m fun s => s.spdmAt 2 fun s =>
    if offers then (s.setV .spdmSt 3).standard "ALGORITHMS ECDSA_P384 SHA_384 SECP384R1 AES_256_GCM" []
    else s.spdmError "InvalidRequest")

/-- GET_DIGESTS. -/
def execGetDigests (t : Nat) (m : FacMsg) (s : State) : Host.Outcome State Fault Refusal :=
  .next ((s.start t).facMsg m fun s => s.spdmAt 3 fun s =>
    if s.is F.ID_STATUS_CERT_VALID then s.standard "DIGESTS" (digestBytes (Config.sha384 s.certChain))
    else s.spdmError "Unspecified")

/-- GET_CERTIFICATE: slot 0 only. -/
def execGetCertificate (t : Nat) (m : FacMsg) (slot off len : Nat) (s : State) : Host.Outcome State Fault Refusal :=
  .next ((s.start t).facMsg m fun s => s.spdmAt 3 fun s =>
    if slot ≠ 0 then s.spdmError "InvalidRequest"
    else if !s.is F.ID_STATUS_CERT_VALID then s.spdmError "Unspecified"
    else
      let rest := s.certChain.drop off
      let part := rest.take len
      s.standard "CERTIFICATE" (leBytes 2 part.length ++ leBytes 2 (rest.length - part.length) ++ part))

/-- CHALLENGE: signed by the identity key. -/
def execChallenge (t : Nat) (m : FacMsg) (slot : Nat) (nonce : List Byte) (s : State) : Host.Outcome State Fault Refusal :=
  .next ((s.start t).facMsg m fun s => s.spdmAt 3 fun s =>
    if slot ≠ 0 then s.spdmError "InvalidRequest"
    else if !s.is F.ID_STATUS_KEY_READY then s.spdmError "Unspecified"
    else s.spdmSigned "CHALLENGE_AUTH" (nonce ++ digestBytes (Config.sha384 s.certChain)))

/-- The content of a measurement block (18 R557); without an active full image its digest has no value. -/
def State.measBlock (s : State) (k : Nat) : List Byte :=
  match k with
  | 1 => [4, 2, 0, 0]
  | 2 =>
    match s.img.active with
    | some g => digestBytes g.digest
    | none => leBytes 48 (Config.freeValue s.free)
  | 3 => digestBytes s.img.chain
  | 4 => [BitVec.ofNat 8 s.fusedSvn, BitVec.ofNat 8 (s.rd F.IMG_INFO_SVN)] ++ leBytes 4 (s.rd F.IMG_INFO_PARAM_SEQ)
  | _ => []

/-- GET_MEASUREMENTS: 0 asks for the number of blocks, 1 to 4 for one, 0xFF for all. -/
def execGetMeasurements (t : Nat) (m : FacMsg) (idx : Nat) (sign : Bool) (nonce : List Byte) (s : State) :
    Host.Outcome State Fault Refusal :=
  .next ((s.start t).facMsg m fun s => s.spdmAt 3 fun s =>
    let blocks := if idx = 0 then [] else if idx = 0xFF then [1, 2, 3, 4] else [idx]
    let body := if idx = 0 then [4] else blocks.flatMap fun k => BitVec.ofNat 8 k :: s.measBlock k
    if Nat.blt 4 idx && idx ≠ 0xFF then s.spdmError "InvalidRequest"
    else if sign && !s.is F.ID_STATUS_KEY_READY then s.spdmError "Unspecified"
    else
      let s := s.freshFree.2
      if sign then s.spdmSigned "MEASUREMENTS" (body ++ nonce) else s.standard "MEASUREMENTS" body)

/-- KEY_EXCHANGE: a session of at most 2 begins. -/
def execKeyExchange (t : Nat) (m : FacMsg) (slot : Nat) (exch : List Byte) (s : State) : Host.Outcome State Fault Refusal :=
  .next ((s.start t).facMsg m fun s => s.spdmAt 3 fun s =>
    if slot ≠ 0 then s.spdmError "InvalidRequest"
    else if !s.is F.ID_STATUS_KEY_READY then s.spdmError "Unspecified"
    else match [0, 1].find? fun k => Nat.beq (s.sesSt k) 0 with
      | none => s.spdmError "SessionLimitExceeded"
      | some k => ((s.sesSet k 1).setV .spdmUpd 0 k).spdmSigned "KEY_EXCHANGE_RSP" (BitVec.ofNat 8 k :: exch))

/-- FINISH: ok tells whether the requester's proof verifies. -/
def execFinish (t : Nat) (m : FacMsg) (k : Nat) (ok : Bool) (s : State) : Host.Outcome State Fault Refusal :=
  .next ((s.start t).facMsg m fun s =>
    if !(Nat.blt k 2 && Nat.beq (s.sesSt k) 1) then s.spdmError "UnexpectedRequest"
    else if ok then (s.sesSet k 2).standard "FINISH_RSP" [BitVec.ofNat 8 k]
    else ((s.sesSet k 0).facErr 2).spdmError "DecryptError")

/-- A request that is sent in a session. -/
def State.inSession (s : State) (m : FacMsg) (op : Nat → State → State) : State :=
  match m.ses with
  | some k => op k s
  | none => s.spdmError "UnexpectedRequest"

/-- HEARTBEAT. -/
def execSpdmHeartbeat (t : Nat) (m : FacMsg) (s : State) : Host.Outcome State Fault Refusal :=
  .next ((s.start t).facMsg m fun s => s.inSession m fun _ s => s.standard "HEARTBEAT_ACK" [])

/-- KEY_UPDATE: operations 1 and 2 rekey the session, 3 verifies the new key. -/
def execSpdmKeyUpdate (t : Nat) (m : FacMsg) (op : Nat) (s : State) : Host.Outcome State Fault Refusal :=
  .next ((s.start t).facMsg m fun s => s.inSession m fun k s =>
    if op = 0 || Nat.blt 3 op then s.spdmError "InvalidRequest"
    else (s.when (Nat.blt op 3) fun s => s.addV .spdmUpd 1 k).standard "KEY_UPDATE_ACK" [BitVec.ofNat 8 op])

/-- END_SESSION. -/
def execEndSession (t : Nat) (m : FacMsg) (s : State) : Host.Outcome State Fault Refusal :=
  .next ((s.start t).facMsg m fun s => s.inSession m fun k s => (s.sesSet k 0).standard "END_SESSION_ACK" [])

/-! ### The PMBus subset (18 R558, R559) -/

/-- A PMBus command: taken while the hub runs, with a PEC that verifies. -/
def State.pmbus (s : State) (pec : Bool) (op : State → State) : State :=
  if !s.hubUp then s.emit .nack
  else if !pec then (s.facErr 0).emit .nack
  else op s

/-- The selected page: a defined rail, or the package. -/
def State.facPg (s : State) : Nat := s.vn .facPage

/-- Whether the page selects a rail of the image. -/
def State.onRail (s : State) : Bool := (s.rail? s.facPg).isSome

/-- The data of a read. -/
def State.pmbWord (s : State) (w : Nat) : State := s.facSend (leBytes 2 w)

/-- LINEAR11 (18 R559) of a value n / d. -/
def linear11 (n : Int) (d : Nat) : Nat :=
  let y (k : Nat) : Int := roundDiv (n * 2 ^ 16) (d * 2 ^ k)
  let k := ((List.range 32).find? fun k => decide (Int.natAbs (y k) ≤ 1023)).getD 31
  2048 * ((k + 16) % 32) + ofSigned 11 (y k)

/-- PAGE (18 R558): a read, or a write of a page. -/
def execPmbPage (t : Nat) (pec : Bool) (w : Option Nat) (s : State) : Host.Outcome State Fault Refusal :=
  .next ((s.start t).pmbus pec fun s =>
    match w with
    | none => s.facSend [BitVec.ofNat 8 s.facPg]
    | some v => if v = 0xFF || (s.rail? v).isSome then s.setV .facPage v else s.emit .nack)

/-- VOUT_MODE (18 R558). -/
def execVoutMode (t : Nat) (pec : Bool) (s : State) : Host.Outcome State Fault Refusal :=
  .next ((s.start t).pmbus pec fun s => if s.onRail then s.facSend [0x15] else s.emit .nack)

/-- READ_VOUT (18 R558): VSENSE counts 0.5 mV. -/
def execReadVout (t : Nat) (pec : Bool) (s : State) : Host.Outcome State Fault Refusal :=
  .next ((s.start t).pmbus pec fun s =>
    if s.onRail then s.pmbWord (roundDiv (s.rd F.RAIL_STATE_VSENSE s.facPg * 2048 : Nat) 2000).toNat else s.emit .nack)

/-- READ_IOUT (18 R558, R559). -/
def execReadIout (t : Nat) (pec : Bool) (s : State) : Host.Outcome State Fault Refusal :=
  .next ((s.start t).pmbus pec fun s =>
    if s.onRail && !s.monitored s.facPg then s.pmbWord (linear11 (s.rdI F.RAIL_MEAS_CURRENT s.facPg) 1000) else s.emit .nack)

/-- READ_POUT (18 R558, R559): a rail's measured power; the package's is the sum over the rails of what RAIL_E integrates. -/
def execReadPout (t : Nat) (pec : Bool) (s : State) : Host.Outcome State Fault Refusal :=
  .next ((s.start t).pmbus pec fun s =>
    if s.facPg = 0xFF then s.pmbWord (linear11 (sumNat (s.railNums.map fun r => s.rd F.RAIL_FUSED_F1US r) : Nat) 1000)
    else if s.onRail && !s.monitored s.facPg then s.pmbWord (linear11 (s.rd F.RAIL_MEAS_POWER s.facPg : Nat) 1000)
    else s.emit .nack)

/-- The hottest usable temperature that a page shows, 1/64 degree. -/
def State.pageTemp (s : State) : Option Int :=
  let pkg := s.facPg = 0xFF
  let ls := if pkg then s.leaves else s.railLeaves s.facPg
  let reps := (ls.filter fun l => s.repUsable 0 l).map fun l => s.v .repTemp l 0
  let hub := if pkg then (s.instsOf 7 hubDom).filterMap fun x => s.siteTemp? x.logical else []
  maxInt? (reps ++ hub)

/-- READ_TEMPERATURE_1 (18 R558, R559); without a usable temperature the value is free. -/
def execReadTemperature1 (t : Nat) (pec : Bool) (s : State) : Host.Outcome State Fault Refusal :=
  .next ((s.start t).pmbus pec fun s =>
    if !(s.facPg = 0xFF || s.onRail) then s.emit .nack
    else match s.pageTemp with
      | some x => s.pmbWord (linear11 x 64)
      | none => let (x, s) := s.freshFree; s.pmbWord x)

/-- The loops of LIMIT_KIND 5 (18 R559). -/
def State.capLoops (s : State) : List Nat :=
  (s.loops.map (·.loop)).filter fun l => Nat.beq (s.rd F.LOOP_CFG_LIMIT_KIND l) 5

/-- MFR_FACILITY_CAP, write (18 R559): the cap in W. -/
def execMfrFacilityCapWrite (t : Nat) (pec : Bool) (w : Nat) (s : State) : Host.Outcome State Fault Refusal :=
  .next ((s.start t).pmbus pec fun s =>
    let sp : Int := (w % 65536 * 65536 : Nat)
    let ls := s.capLoops
    if s.facPg ≠ 0xFF || w % 65536 = 0 || ls.isEmpty || ls.any fun l => decide (s.rdI F.LOOP_SP_MAX_SP_MAX l < sp) then s.emit .nack
    else (s.each ls fun s l => s.wrI F.LOOP_SP_SP sp l).leaseCheck)

/-- MFR_FACILITY_CAP, read (18 R559): the lowest setpoint, in W. -/
def execMfrFacilityCapRead (t : Nat) (pec : Bool) (s : State) : Host.Outcome State Fault Refusal :=
  .next ((s.start t).pmbus pec fun s =>
    let sps := s.capLoops.map fun l => s.rdI F.LOOP_SP_SP l
    match sps with
    | [] => s.emit .nack
    | x :: l => if s.facPg = 0xFF then s.pmbWord (satU 16 (roundDiv (l.foldl min x) 65536)) else s.emit .nack)

/-! ### I3C and SMBus (18 R552) -/

/-- Whether the port is an I3C target without a dynamic address. -/
def State.i3cFree (s : State) : Bool := s.hubUp && !s.is F.FAC_STATUS_MODE && !s.is F.FAC_STATUS_DA_VALID

/-- The port takes a dynamic address; ibi tells whether the controller leaves in-band interrupts enabled. -/
def State.dynAddr (s : State) (da : Nat) (ibi : Bool) : State :=
  ((s.wr F.FAC_STATUS_DA_VALID 1).wr F.FAC_STATUS_DYN_ADDR da).setV .ibiOn (b2n ibi)

/-- SETDASA (18 R552): to the static address. -/
def execSetdasa (t sa da : Nat) (ibi : Bool) (s : State) : Host.Outcome State Fault Refusal :=
  let s := s.start t
  .next (if s.i3cFree && Nat.beq sa (s.rd F.FAC_STATUS_ADDR) then s.dynAddr da ibi else s.emit .nack)

/-- ENTDAA (18 R552): the port sends its provisional ID; where it wins the arbitration it takes the address. -/
def execEntdaa (t da : Nat) (won ibi : Bool) (s : State) : Host.Outcome State Fault Refusal :=
  let s := s.start t
  .next (if !s.i3cFree then s.emit .nack
    else
      let s := s.facSend (leBytes 6 Config.fuses.provisionalId.toNat).reverse
      if won then s.dynAddr da ibi else s)

/-- ALERT_RESPONSE_ADDRESS (18 R552): the address of the port while ALERT_N is low. -/
def execAlertResponseAddress (t : Nat) (s : State) : Host.Outcome State Fault Refusal :=
  let s := s.start t
  .next (if s.hubUp && s.is F.FAC_STATUS_MODE && s.alertLow then s.facSend [BitVec.ofNat 8 (2 * s.rd F.FAC_STATUS_ADDR)]
    else s.emit .nack)

end Sys2Proof.Machine
end

