-- ==== Sys2Proof/Machine/Scrub.lean ====
section
/-!
DEFINITION. Background activities (01 R48 to R51) and the ECC scrub of the image store, the sync objects, the watch table and the
STARTER table (12 R382, R383; 02 R79).
-/
namespace Sys2Proof.Machine

/-- Whether a background activity, in the order of 01 R48, runs in the present package state (01 R51). -/
def State.bgRuns (s : State) (act : Nat) : Bool :=
  let st := s.pkg
  match act with
  | 0 => st ≠ Pkg.off
  | 1 => s.calRuns
  | 3 => st = Pkg.run || st = Pkg.hold
  | 4 => [Pkg.run, Pkg.hold, Pkg.sleep, Pkg.tripped, Pkg.fail].contains st
  | 5 => [Pkg.ramp, Pkg.run, Pkg.hold, Pkg.sleep, Pkg.tripped, Pkg.fail].contains st
  | _ => false

/-- BG_LATE (01 R50): the pass of an activity that was scheduled to start at a stamp has not finished within its late limit. It is
reported once, and goes on. -/
def execBgLate (t act start : Nat) (s : State) : Host.Outcome State Fault Refusal :=
  let s := s.start t
  .next (if s.hubUp && s.bgRuns act && decide (s.bgSched act = some start) && s.v .bgLate act = 0
        && Nat.blt (start + bgLimit act) s.time then
      (s.setV .bgLate 1 act).event 0x03 act
    else s)

/-- The words of the four stores (12 R382). -/
def storeWords (k : Nat) : Nat := [131072, 32768, 131072, 32768].getD k 0

/-- The type of the section that holds a byte of a bank, with its framing. -/
def State.bankSection (s : State) (k off : Nat) : Option Nat :=
  let m := (s.bank k).mem
  match checkC3 (Mem.bytes m 0 (fieldAt (Mem.bytes m 0 128) 0x0C 4)) with
  | .ok l => (l.find? fun x => Nat.ble x.off off && Nat.blt off (x.off + x.whole.length)).map (·.typ)
  | .error _ => none

/-- A bank is marked rejected until rewritten, with IMAGE_ECC (02 R79; 12 R383). -/
def State.bankReject (s : State) (k : Nat) : State :=
  ((s.setBank k { s.bank k with rejected := true }).fallbackShow).event 0x04 0

/-- An uncorrectable error in a word of a bank (02 R79; 12 R383). -/
def State.bankEcc (s : State) (k off : Nat) : State :=
  if s.ldr = 2 && Nat.beq k s.stageBank then s.checkEnd true
  else if s.ldr = 5 && Nat.beq k (s.vn .imgCand) then s.verifyFail true 0x0D 0 0
  else if Nat.beq k s.activeBank then
    match s.bankSection k off with
    | none => s
    | some typ =>
      if structTypes.contains typ then
        if s.pkg = Pkg.aon || s.pkg = Pkg.verify then s.bankReject k
        else if s.pkg = Pkg.fail then s
        else s.failEnter 9
      else if paramTypes.contains typ then ((s.flag F.IMG_STATUS_PARAM_ECC).setV .eccSec 1 (typ - 0x100)).event 0x04 0
      else s
  else if (s.bank k).accepted && !(s.bank k).rejected then s.bankReject k
  else s

/-- An uncorrectable error in a word of a sync object (12 R383): a lost first word leaves its GEN without a value. -/
def State.objEcc (s : State) (o : Nat) (first : Bool) : State :=
  let s := s.when first fun s => let (x, s) := s.freshFree; s.wr F.SYNC_OBJ_A_GEN x o
  let s := ((s.objBreak o).breakSend o Br.ecc none).objZero o
  (s.event 0x2B 0).syncFlush

/-- The objects, not FREE, of the slot whose watch range holds an entry; of the privileged pool, every privileged object. -/
def State.watchObjs (s : State) (i : Nat) : List Nat :=
  let own := slots16.find? fun c => Nat.ble (s.rd F.SYNC_CTX_WATCH_BASE c) i
    && Nat.blt i (s.rd F.SYNC_CTX_WATCH_BASE c + s.rd F.SYNC_CTXW_WATCH_COUNT c)
  let l := match own with
    | some c => s.slotObjs c
    | none => (List.range 16384).filter fun o => (s.slotOf o).isNone
  l.filter fun o => s.objType o ≠ 0

/-- An uncorrectable error in a watch entry (12 R383). -/
def State.watchEcc (s : State) (i : Nat) : State :=
  let os := s.watchObjs i
  let s := s.setWatches (s.sync.watches.filter fun w => !Nat.beq w.idx i)
  let s := s.each os fun s o => (s.objBreak o).when (s.objType o = 4) fun s => s.breakSend o Br.ecc none
  (s.event 0x2B 0).syncFlush

/-- An uncorrectable error in an entry of the STARTER table (07 R221). -/
def State.strEcc (s : State) (c p : Nat) : State :=
  let s := ((s.entryInv c p).flag F.STR_STATUS_ECC_INV).incSat F.STR_STATUS_ECC_COUNT
  (s.event 0x28 0).slotShape c

/-- The outcome of an uncorrectable error in a word of a store (12 R383). -/
def State.storeEcc (s : State) (k n : Nat) : State :=
  let s := (s.incSat F.ECC_COUNT_UNCORR 1 k).flag ⟨.ECC_STATUS, k, 1⟩
  match k with
  | 0 => s.bankEcc (n / 65536) (8 * (n % 65536))
  | 1 => s.objEcc (n / 2) (n % 2 = 0)
  | 2 => s.watchEcc (n / 2)
  | _ => s.strEcc (n / 8 / 256) (n / 8 % 256)

/-- The scrub's pointer after a step; in AON and VERIFY it stays in the image store (01 R51). A pass ends with the last store. -/
def State.scrubNext (s : State) : State :=
  let k := s.rd F.ECC_STATUS_STORE
  let n := s.rd F.ECC_STATUS_POS + 1
  if Nat.blt n (storeWords k) then s.wr F.ECC_STATUS_POS n
  else
    let k := if s.pkg = Pkg.aon || s.pkg = Pkg.verify then 0 else (k + 1) % 4
    let s := (s.wr F.ECC_STATUS_POS 0).wr F.ECC_STATUS_STORE k
    if k = 0 then s.bgEnd 0 else s

/-- A word of a store has been read: sound (0), corrected and written back (1) or uncorrectable (2 and above) (12 R382, R383). -/
def State.wordRead (s : State) (k n err : Nat) : State :=
  match err with
  | 0 => s
  | 1 => s.incSat F.ECC_COUNT_CORR 1 k
  | _ => (s.storeEcc k n).pkgRun

/-- SCRUB_STEP (12 R382; 01 R48): the word under the pointer, with what its read finds. A step runs in a pass; a pass starts at its
scheduled start. A foreground read of a word is no step of the scrub (12 R383; 02 R79). -/
def execScrubStep (t : Nat) (read : EccRead) (s : State) : Host.Outcome State Fault Refusal :=
  let s := s.start t
  match read with
  | .fore k n err => .next (if s.hubUp && Nat.blt k 4 && Nat.blt n (storeWords k) then s.wordRead k n err else s)
  | .scrub err =>
    .next (if !s.hubUp || !(s.bgOpen 0 || s.bgDue 0) then s
      else
        let s := s.when (!s.bgOpen 0) fun s => s.bgStart 0
        let away := (s.pkg = Pkg.aon || s.pkg = Pkg.verify) && !Nat.beq (s.rd F.ECC_STATUS_STORE) 0
        let s := s.when away fun s => (s.wr F.ECC_STATUS_POS 0).wr F.ECC_STATUS_STORE 0
        let k := s.rd F.ECC_STATUS_STORE
        let n := s.rd F.ECC_STATUS_POS
        s.scrubNext.wordRead k n err)

end Sys2Proof.Machine
end

