-- ==== Sys2Proof/Machine/Dispatch.lean ====
section
/-!
DEFINITION. The dispatch: one arm per command, each one direct call of its meaning.
-/
namespace Sys2Proof.Machine

def exec (i : Instr) (s : State) : Host.Outcome State Fault Refusal :=
  match i with
  | .aonSupplyLoss t => Sys2Proof.Machine.execAonSupplyLoss t s
  | .powerOnResetEnd t n => Sys2Proof.Machine.execPowerOnResetEnd t n s
  | .pkgCmdNone t p => Sys2Proof.Machine.execPkgCmdNone t p s
  | .pkgHold t p => Sys2Proof.Machine.execPkgHold t p s
  | .pkgResume t p => Sys2Proof.Machine.execPkgResume t p s
  | .pkgSleep t p => Sys2Proof.Machine.execPkgSleep t p s
  | .pkgDeepSleep t p => Sys2Proof.Machine.execPkgDeepSleep t p s
  | .pkgWake t p => Sys2Proof.Machine.execPkgWake t p s
  | .pkgRecover t p => Sys2Proof.Machine.execPkgRecover t p s
  | .pkgFail t p => Sys2Proof.Machine.execPkgFail t p s
  | .pkgResetToAon t p => Sys2Proof.Machine.execPkgResetToAon t p s
  | .holdTimeout t => Sys2Proof.Machine.execHoldTimeout t s
  | .bgLate t act start => Sys2Proof.Machine.execBgLate t act start s
  | .scrubStep t read => Sys2Proof.Machine.execScrubStep t read s
  | .ldrOpen t p => Sys2Proof.Machine.execLdrOpen t p s
  | .ldrCommit t p => Sys2Proof.Machine.execLdrCommit t p s
  | .ldrAbort t p => Sys2Proof.Machine.execLdrAbort t p s
  | .commitSvn t p => Sys2Proof.Machine.execCommitSvn t p s
  | .fusingDone t => Sys2Proof.Machine.execFusingDone t s
  | .imgWaddr t p w => Sys2Proof.Machine.execImgWaddr t p w s
  | .imgWdata t p wide w => Sys2Proof.Machine.execImgWdata t p wide w s
  | .checkDone t ecc => Sys2Proof.Machine.execCheckDone t ecc s
  | .verifyDone t ecc => Sys2Proof.Machine.execVerifyDone t ecc s
  | .paramMsg t e tag d kind => Sys2Proof.Machine.execParamMsg t e tag d kind s
  | .deltaActivate t => Sys2Proof.Machine.execDeltaActivate t s
  | .applyTimeout t => Sys2Proof.Machine.execApplyTimeout t s
  | .chanAliveRise t e => Sys2Proof.Machine.execChanAliveRise t e s
  | .chanAliveFall t e => Sys2Proof.Machine.execChanAliveFall t e s
  | .hello t e epoch => Sys2Proof.Machine.execHello t e epoch s
  | .helloAck t e epoch => Sys2Proof.Machine.execHelloAck t e epoch s
  | .fence t e tag scope id => Sys2Proof.Machine.execFence t e tag scope id s
  | .fenceAck t e tag id st => Sys2Proof.Machine.execFenceAck t e tag id st s
  | .fenceTimeout t e => Sys2Proof.Machine.execFenceTimeout t e s
  | .cmdReq t e tag dest reqid op off => Sys2Proof.Machine.execCmdReq t e tag dest reqid op off s
  | .cmdData t e tag w pins => Sys2Proof.Machine.execCmdData t e tag w pins s
  | .cmdRsp t e tag src reqid st => Sys2Proof.Machine.execCmdRsp t e tag src reqid st s
  | .cmdTimeout t e reqid => Sys2Proof.Machine.execCmdTimeout t e reqid s
  | .estimate t e tag ra rb slot ea eb => Sys2Proof.Machine.execEstimate t e tag ra rb slot ea eb s
  | .estimateSlotTimeout t d slot => Sys2Proof.Machine.execEstimateSlotTimeout t d slot s
  | .timeSend t d rts => Sys2Proof.Machine.execTimeSend t d rts s
  | .timeMsg t e tag delay usec cap => Sys2Proof.Machine.execTimeMsg t e tag delay usec cap s
  | .parentSilent t l => Sys2Proof.Machine.execParentSilent t l s
  | .leafSlotClose t l slot reps removed => Sys2Proof.Machine.execLeafSlotClose t l slot reps removed s
  | .leafIntervalClose t l j => Sys2Proof.Machine.execLeafIntervalClose t l j s
  | .intervalReport t e tag leaf ra rb seq pa pb rsvd => Sys2Proof.Machine.execIntervalReport t e tag leaf ra rb seq pa pb rsvd s
  | .groupReport t e tag nleaf rail g seq en => Sys2Proof.Machine.execGroupReport t e tag nleaf rail g seq en s
  | .groupSumTimeout t n w => Sys2Proof.Machine.execGroupSumTimeout t n w s
  | .applied t e tag dom loop cls rail amt => Sys2Proof.Machine.execApplied t e tag dom loop cls rail amt s
  | .hubIntervalClose t j => Sys2Proof.Machine.execHubIntervalClose t j s
  | .kneadWindowClose t w => Sys2Proof.Machine.execKneadWindowClose t w s
  | .leafThetaWrite t l k hi w => Sys2Proof.Machine.execLeafThetaWrite t l k hi w s
  | .kneadReset t p r freeze => Sys2Proof.Machine.execKneadReset t p r freeze s
  | .phaseCycle t p cur mean range fault => Sys2Proof.Machine.execPhaseCycle t p cur mean range fault s
  | .loopTick t l => Sys2Proof.Machine.execLoopTick t l s
  | .loopOpen t p l => Sys2Proof.Machine.execLoopOpen t p l s
  | .loopClose t p l => Sys2Proof.Machine.execLoopClose t p l s
  | .grant t e tag cls rail dest loop lc amt rsvd => Sys2Proof.Machine.execGrant t e tag cls rail dest loop lc amt rsvd s
  | .need t e tag child weight node need => Sys2Proof.Machine.execNeed t e tag child weight node need s
  | .creditWindow t l rows => Sys2Proof.Machine.execCreditWindow t l rows s
  | .gateFault t l q => Sys2Proof.Machine.execGateFault t l q s
  | .restEnd t l q => Sys2Proof.Machine.execRestEnd t l q s
  | .faultClear t l q low => Sys2Proof.Machine.execFaultClear t l q low s
  | .hubModeReq t p m => Sys2Proof.Machine.execHubModeReq t p m s
  | .wearPass t ages => Sys2Proof.Machine.execWearPass t ages s
  | .levelWindow t => Sys2Proof.Machine.execLevelWindow t s
  | .vfSlotLower t r => Sys2Proof.Machine.execVfSlotLower t r s
  | .strEnter t p c phase => Sys2Proof.Machine.execStrEnter t p c phase s
  | .strExit t p c => Sys2Proof.Machine.execStrExit t p c s
  | .invSlot t p c => Sys2Proof.Machine.execInvSlot t p c s
  | .invEntry t p c phase => Sys2Proof.Machine.execInvEntry t p c phase s
  | .invalidationDone t => Sys2Proof.Machine.execInvalidationDone t s
  | .starterSample t k c cyc => Sys2Proof.Machine.execStarterSample t k c cyc s
  | .syncInit t o obj a0 a1 a2 => Sys2Proof.Machine.execSyncInit t o obj a0 a1 a2 s
  | .syncTag t o obj a0 a1 a2 => Sys2Proof.Machine.execSyncTag t o obj a0 a1 a2 s
  | .syncArrive t o obj a0 a1 a2 => Sys2Proof.Machine.execSyncArrive t o obj a0 a1 a2 s
  | .syncSignal t o obj a0 a1 a2 => Sys2Proof.Machine.execSyncSignal t o obj a0 a1 a2 s
  | .syncSet t o obj a0 a1 a2 => Sys2Proof.Machine.execSyncSet t o obj a0 a1 a2 s
  | .syncClear t o obj a0 a1 a2 => Sys2Proof.Machine.execSyncClear t o obj a0 a1 a2 s
  | .syncWait t o obj a0 a1 a2 => Sys2Proof.Machine.execSyncWait t o obj a0 a1 a2 s
  | .syncCancel t o obj a0 a1 a2 => Sys2Proof.Machine.execSyncCancel t o obj a0 a1 a2 s
  | .syncFree t o obj a0 a1 a2 => Sys2Proof.Machine.execSyncFree t o obj a0 a1 a2 s
  | .syncBreak t o obj a0 a1 a2 => Sys2Proof.Machine.execSyncBreak t o obj a0 a1 a2 s
  | .syncReset t o obj a0 a1 a2 => Sys2Proof.Machine.execSyncReset t o obj a0 a1 a2 s
  | .syncForce t o obj a0 a1 a2 => Sys2Proof.Machine.execSyncForce t o obj a0 a1 a2 s
  | .syncSetCount t o obj a0 a1 a2 => Sys2Proof.Machine.execSyncSetCount t o obj a0 a1 a2 s
  | .ctxSwitch t o obj a0 a1 a2 => Sys2Proof.Machine.execCtxSwitch t o obj a0 a1 a2 s
  | .ctxSwitchDone t => Sys2Proof.Machine.execCtxSwitchDone t s
  | .mirrorConfirm t => Sys2Proof.Machine.execMirrorConfirm t s
  | .gateSyncOp t l q sop loc obj arg mode => Sys2Proof.Machine.execGateSyncOp t l q sop loc obj arg mode s
  | .release t e tag ctx lobj gen st shape busy => Sys2Proof.Machine.execRelease t e tag ctx lobj gen st shape busy s
  | .direct t e tag ctx lobj gen st leaf core wid wake => Sys2Proof.Machine.execDirect t e tag ctx lobj gen st leaf core wid wake s
  | .ctxClear t e tag c ep => Sys2Proof.Machine.execCtxClear t e tag c ep s
  | .syncAbsentReport t d => Sys2Proof.Machine.execSyncAbsentReport t d s
  | .lsyncWrite t l k w => Sys2Proof.Machine.execLsyncWrite t l k w s
  | .scoreTrip t d fill codes => Sys2Proof.Machine.execScoreTrip t d fill codes s
  | .scoreHoldExpiry t l p => Sys2Proof.Machine.execScoreHoldExpiry t l p s
  | .ddCalibrate t d sum => Sys2Proof.Machine.execDdCalibrate t d sum s
  | .ddCalReq t p d => Sys2Proof.Machine.execDdCalReq t p d s
  | .ddCalStale t d => Sys2Proof.Machine.execDdCalStale t d s
  | .riseOpen t obj rail => Sys2Proof.Machine.execRiseOpen t obj rail s
  | .riseEnd t => Sys2Proof.Machine.execRiseEnd t s
  | .riseTimeout t obj rail => Sys2Proof.Machine.execRiseTimeout t obj rail s
  | .riseSlewStep t r => Sys2Proof.Machine.execRiseSlewStep t r s
  | .riseExhausted t r => Sys2Proof.Machine.execRiseExhausted t r s
  | .waveRelease t l q => Sys2Proof.Machine.execWaveRelease t l q s
  | .spanStaggerExpiry t obj => Sys2Proof.Machine.execSpanStaggerExpiry t obj s
  | .railLoopSample t r vs opn => Sys2Proof.Machine.execRailLoopSample t r vs opn s
  | .shedDisable t r => Sys2Proof.Machine.execShedDisable t r s
  | .shedTimeout t r => Sys2Proof.Machine.execShedTimeout t r s
  | .leafShed t l r => Sys2Proof.Machine.execLeafShed t l r s
  | .shedHoldExpiry t l => Sys2Proof.Machine.execShedHoldExpiry t l s
  | .slewStep t r => Sys2Proof.Machine.execSlewStep t r s
  | .railVselWrite t p r k => Sys2Proof.Machine.execRailVselWrite t p r k s
  | .railVslotWrite t p r k code => Sys2Proof.Machine.execRailVslotWrite t p r k code s
  | .leafVrefCheck t l => Sys2Proof.Machine.execLeafVrefCheck t l s
  | .leafVref t l w => Sys2Proof.Machine.execLeafVref t l w s
  | .measDone t r => Sys2Proof.Machine.execMeasDone t r s
  | .targetPg t r => Sys2Proof.Machine.execTargetPg t r s
  | .phaseFault t p => Sys2Proof.Machine.execPhaseFault t p s
  | .clrFault t p ph high => Sys2Proof.Machine.execClrFault t p ph high s
  | .phCalReq t p ph => Sys2Proof.Machine.execPhCalReq t p ph s
  | .isnsCalibration t ph ofs => Sys2Proof.Machine.execIsnsCalibration t ph ofs s
  | .tsConversionDone t n raw fault => Sys2Proof.Machine.execTsConversionDone t n raw fault s
  | .conversionLapse t n => Sys2Proof.Machine.execConversionLapse t n s
  | .leafTempPeriod t l => Sys2Proof.Machine.execLeafTempPeriod t l s
  | .tempReport t e tag x band level fb loss leaf seq site => Sys2Proof.Machine.execTempReport t e tag x band level fb loss leaf seq site s
  | .reportLapse t l => Sys2Proof.Machine.execReportLapse t l s
  | .calPassStart t => Sys2Proof.Machine.execCalPassStart t s
  | .calPassEnd t => Sys2Proof.Machine.execCalPassEnd t s
  | .calRst t p n => Sys2Proof.Machine.execCalRst t p n s
  | .sensorLoss t d => Sys2Proof.Machine.execSensorLoss t d s
  | .tcellApply t x => Sys2Proof.Machine.execTcellApply t x s
  | .leafThrReq t l k => Sys2Proof.Machine.execLeafThrReq t l k s
  | .stackUpdate t n x => Sys2Proof.Machine.execStackUpdate t n x s
  | .stkStale t n => Sys2Proof.Machine.execStkStale t n s
  | .absTrip t n => Sys2Proof.Machine.execAbsTrip t n s
  | .ocTrip t r => Sys2Proof.Machine.execOcTrip t r s
  | .ovTrip t r => Sys2Proof.Machine.execOvTrip t r s
  | .uvTrip t r => Sys2Proof.Machine.execUvTrip t r s
  | .uvHaltExpiry t r => Sys2Proof.Machine.execUvHaltExpiry t r s
  | .coolantTrip t => Sys2Proof.Machine.execCoolantTrip t s
  | .brake t => Sys2Proof.Machine.execBrake t s
  | .leafBrake t l w => Sys2Proof.Machine.execLeafBrake t l w s
  | .brakeRelease t => Sys2Proof.Machine.execBrakeRelease t s
  | .crustLatchClear t p w pins => Sys2Proof.Machine.execCrustLatchClear t p w pins s
  | .stepTimeout t => Sys2Proof.Machine.execStepTimeout t s
  | .clkFail t u cause => Sys2Proof.Machine.execClkFail t u cause s
  | .quietPeriodEnd t u => Sys2Proof.Machine.execQuietPeriodEnd t u s
  | .muxHung t u => Sys2Proof.Machine.execMuxHung t u s
  | .clkSel t p u sel => Sys2Proof.Machine.execClkSel t p u sel s
  | .recal t p u => Sys2Proof.Machine.execRecal t p u s
  | .oscCalDone t u n => Sys2Proof.Machine.execOscCalDone t u n s
  | .clkReturn t p => Sys2Proof.Machine.execClkReturn t p s
  | .rstWarm t p => Sys2Proof.Machine.execRstWarm t p s
  | .islRst t p d => Sys2Proof.Machine.execIslRst t p d s
  | .islRstEnd t d => Sys2Proof.Machine.execIslRstEnd t d s
  | .islandRelease t d => Sys2Proof.Machine.execIslandRelease t d s
  | .islNostart t d => Sys2Proof.Machine.execIslNostart t d s
  | .testModeEntry t => Sys2Proof.Machine.execTestModeEntry t s
  | .testModeExit t => Sys2Proof.Machine.execTestModeExit t s
  | .rampStepStart t => Sys2Proof.Machine.execRampStepStart t s
  | .sleepQuiesceDone t l => Sys2Proof.Machine.execSleepQuiesceDone t l s
  | .ccpQack t l p => Sys2Proof.Machine.execCcpQack t l p s
  | .fmaxLag t l p => Sys2Proof.Machine.execFmaxLag t l p s
  | .eventMsg t e tag code inst detail lvl rsvd => Sys2Proof.Machine.execEventMsg t e tag code inst detail lvl rsvd s
  | .evcAck t p k upper => Sys2Proof.Machine.execEvcAck t p k upper s
  | .evcEoi t p k x => Sys2Proof.Machine.execEvcEoi t p k x s
  | .evcUnwind t p k => Sys2Proof.Machine.execEvcUnwind t p k s
  | .evcPopTo t p k x => Sys2Proof.Machine.execEvcPopTo t p k x s
  | .evcThaw t p k => Sys2Proof.Machine.execEvcThaw t p k s
  | .setpend t p k => Sys2Proof.Machine.execSetpend t p k s
  | .clrpend t p k => Sys2Proof.Machine.execClrpend t p k s
  | .evcSrcCfgWrite t p k w => Sys2Proof.Machine.execEvcSrcCfgWrite t p k w s
  | .prigroupWrite t p g => Sys2Proof.Machine.execPrigroupWrite t p g s
  | .evcGrpWrite t p g cnt us => Sys2Proof.Machine.execEvcGrpWrite t p g cnt us s
  | .groupFire t g => Sys2Proof.Machine.execGroupFire t g s
  | .wakeTrigger t k => Sys2Proof.Machine.execWakeTrigger t k s
  | .linkUp t n => Sys2Proof.Machine.execLinkUp t n s
  | .linkDown t n => Sys2Proof.Machine.execLinkDown t n s
  | .authDone t n ok => Sys2Proof.Machine.execAuthDone t n ok s
  | .authBackoffEnd t n => Sys2Proof.Machine.execAuthBackoffEnd t n s
  | .linkSilent t n => Sys2Proof.Machine.execLinkSilent t n s
  | .dxlHeartbeatSend t n => Sys2Proof.Machine.execDxlHeartbeatSend t n s
  | .dxlKeyUpdate t n => Sys2Proof.Machine.execDxlKeyUpdate t n s
  | .dxlHeartbeat t h state rx sys => Sys2Proof.Machine.execDxlHeartbeat t h state rx sys s
  | .arriveFrame t h obj gen job => Sys2Proof.Machine.execArriveFrame t h obj gen job s
  | .releaseFrame t h obj gen job => Sys2Proof.Machine.execReleaseFrame t h obj gen job s
  | .breakFrame t h obj gen job all reason => Sys2Proof.Machine.execBreakFrame t h obj gen job all reason s
  | .leaseGrid t => Sys2Proof.Machine.execLeaseGrid t s
  | .leaseOffer t h spare want feed => Sys2Proof.Machine.execLeaseOffer t h spare want feed s
  | .leaseDecision t => Sys2Proof.Machine.execLeaseDecision t s
  | .leaseGrant t h amt lseq texp => Sys2Proof.Machine.execLeaseGrant t h amt lseq texp s
  | .leaseRecall t h amt lseq teff => Sys2Proof.Machine.execLeaseRecall t h amt lseq teff s
  | .leaseExpiry t n => Sys2Proof.Machine.execLeaseExpiry t n s
  | .recallEffect t n => Sys2Proof.Machine.execRecallEffect t n s
  | .leaseGuardExpiry t n => Sys2Proof.Machine.execLeaseGuardExpiry t n s
  | .tsyncSend t => Sys2Proof.Machine.execTsyncSend t s
  | .timeSyncRequest t h t1 => Sys2Proof.Machine.execTimeSyncRequest t h t1 s
  | .timeSyncReply t h t2 d32 t1lo => Sys2Proof.Machine.execTimeSyncReply t h t2 d32 t1lo s
  | .failNotice t h lo hi => Sys2Proof.Machine.execFailNotice t h lo hi s
  | .mirrorHeartbeatMiss t => Sys2Proof.Machine.execMirrorHeartbeatMiss t s
  | .mirrorPortDown t => Sys2Proof.Machine.execMirrorPortDown t s
  | .hubOkLapse t => Sys2Proof.Machine.execHubOkLapse t s
  | .takeoverGrant t resent => Sys2Proof.Machine.execTakeoverGrant t resent s
  | .mirSwitch t p => Sys2Proof.Machine.execMirSwitch t p s
  | .mirRejoin t p => Sys2Proof.Machine.execMirRejoin t p s
  | .mirDetach t p => Sys2Proof.Machine.execMirDetach t p s
  | .bulkCopyDone t => Sys2Proof.Machine.execBulkCopyDone t s
  | .lazyCopy t => Sys2Proof.Machine.execLazyCopy t s
  | .primarySwitch t => Sys2Proof.Machine.execPrimarySwitch t s
  | .leafCounterWindow t l reps => Sys2Proof.Machine.execLeafCounterWindow t l reps s
  | .counterMsg t e tag lk cidx ctx seq nleaf ua delta => Sys2Proof.Machine.execCounterMsg t e tag lk cidx ctx seq nleaf ua delta s
  | .counterSumTimeout t n lk ctx seq => Sys2Proof.Machine.execCounterSumTimeout t n lk ctx seq s
  | .counterWindowComplete t k => Sys2Proof.Machine.execCounterWindowComplete t k s
  | .latchStart t p page c k addr => Sys2Proof.Machine.execLatchStart t p page c k addr s
  | .latchEnd t p page c k addr => Sys2Proof.Machine.execLatchEnd t p page c k addr s
  | .leafCntLatch t l c num reps => Sys2Proof.Machine.execLeafCntLatch t l c num reps s
  | .latchPointComplete t c num => Sys2Proof.Machine.execLatchPointComplete t c num s
  | .telemetryWindow t => Sys2Proof.Machine.execTelemetryWindow t s
  | .recordWriteDone t err => Sys2Proof.Machine.execRecordWriteDone t err s
  | .recRingEnable t p n base size clr => Sys2Proof.Machine.execRecRingEnable t p n base size clr s
  | .trcArm t p => Sys2Proof.Machine.execTrcArm t p s
  | .trcTrig t p => Sys2Proof.Machine.execTrcTrig t p s
  | .trcFreeze t p => Sys2Proof.Machine.execTrcFreeze t p s
  | .trcOff t p => Sys2Proof.Machine.execTrcOff t p s
  | .trcDump t p => Sys2Proof.Machine.execTrcDump t p s
  | .trcDumpDone t => Sys2Proof.Machine.execTrcDumpDone t s
  | .traceStall t => Sys2Proof.Machine.execTraceStall t s
  | .trcFrameSent t => Sys2Proof.Machine.execTrcFrameSent t s
  | .registerWrite t p addr size post w pins => Sys2Proof.Machine.execRegisterWrite t p addr size post w pins s
  | .postedWritePerform t pins => Sys2Proof.Machine.execPostedWritePerform t pins s
  | .queueDrainDone t => Sys2Proof.Machine.execQueueDrainDone t s
  | .rspTimeout t init => Sys2Proof.Machine.execRspTimeout t init s
  | .facPkgCmd t m tag cmd => Sys2Proof.Machine.execFacPkgCmd t m tag cmd s
  | .facGetState t m tag => Sys2Proof.Machine.execFacGetState t m tag s
  | .facReadReg t m tag off => Sys2Proof.Machine.execFacReadReg t m tag off s
  | .facImgOpen t m tag => Sys2Proof.Machine.execFacImgOpen t m tag s
  | .facImgData t m tag ptr data => Sys2Proof.Machine.execFacImgData t m tag ptr data s
  | .facImgCommit t m tag => Sys2Proof.Machine.execFacImgCommit t m tag s
  | .facImgAbort t m tag => Sys2Proof.Machine.execFacImgAbort t m tag s
  | .facCommitSvn t m tag => Sys2Proof.Machine.execFacCommitSvn t m tag s
  | .facImgStatus t m tag => Sys2Proof.Machine.execFacImgStatus t m tag s
  | .facTrcRead t m tag slot count => Sys2Proof.Machine.execFacTrcRead t m tag slot count s
  | .facAlertClr t m tag mask => Sys2Proof.Machine.execFacAlertClr t m tag mask s
  | .facSignTrip t m tag nonce => Sys2Proof.Machine.execFacSignTrip t m tag nonce s
  | .facCertOpen t m tag => Sys2Proof.Machine.execFacCertOpen t m tag s
  | .facCertData t m tag ptr data => Sys2Proof.Machine.execFacCertData t m tag ptr data s
  | .facCertCommit t m tag len => Sys2Proof.Machine.execFacCertCommit t m tag len s
  | .setEndpointId t m op eid => Sys2Proof.Machine.execSetEndpointId t m op eid s
  | .getEndpointId t m => Sys2Proof.Machine.execGetEndpointId t m s
  | .getMctpVersionSupport t m typ => Sys2Proof.Machine.execGetMctpVersionSupport t m typ s
  | .getMessageTypeSupport t m => Sys2Proof.Machine.execGetMessageTypeSupport t m s
  | .getVendorDefinedMessageSupport t m sel => Sys2Proof.Machine.execGetVendorDefinedMessageSupport t m sel s
  | .getVersion t m => Sys2Proof.Machine.execGetVersion t m s
  | .getCapabilities t m => Sys2Proof.Machine.execGetCapabilities t m s
  | .negotiateAlgorithms t m offers => Sys2Proof.Machine.execNegotiateAlgorithms t m offers s
  | .getDigests t m => Sys2Proof.Machine.execGetDigests t m s
  | .getCertificate t m slot off len => Sys2Proof.Machine.execGetCertificate t m slot off len s
  | .challenge t m slot nonce => Sys2Proof.Machine.execChallenge t m slot nonce s
  | .getMeasurements t m idx sign nonce => Sys2Proof.Machine.execGetMeasurements t m idx sign nonce s
  | .keyExchange t m slot exch => Sys2Proof.Machine.execKeyExchange t m slot exch s
  | .finish t m k ok => Sys2Proof.Machine.execFinish t m k ok s
  | .spdmHeartbeat t m => Sys2Proof.Machine.execSpdmHeartbeat t m s
  | .spdmKeyUpdate t m op => Sys2Proof.Machine.execSpdmKeyUpdate t m op s
  | .endSession t m => Sys2Proof.Machine.execEndSession t m s
  | .pmbPage t pec w => Sys2Proof.Machine.execPmbPage t pec w s
  | .voutMode t pec => Sys2Proof.Machine.execVoutMode t pec s
  | .readVout t pec => Sys2Proof.Machine.execReadVout t pec s
  | .readIout t pec => Sys2Proof.Machine.execReadIout t pec s
  | .readPout t pec => Sys2Proof.Machine.execReadPout t pec s
  | .readTemperature1 t pec => Sys2Proof.Machine.execReadTemperature1 t pec s
  | .mfrFacilityCapWrite t pec w => Sys2Proof.Machine.execMfrFacilityCapWrite t pec w s
  | .mfrFacilityCapRead t pec => Sys2Proof.Machine.execMfrFacilityCapRead t pec s
  | .setdasa t sa da ibi => Sys2Proof.Machine.execSetdasa t sa da ibi s
  | .entdaa t da won ibi => Sys2Proof.Machine.execEntdaa t da won ibi s
  | .alertResponseAddress t => Sys2Proof.Machine.execAlertResponseAddress t s
  | .facAlertSw t p => Sys2Proof.Machine.execFacAlertSw t p s
  | .keygenDone t => Sys2Proof.Machine.execKeygenDone t s
  | .idCertOpen t p => Sys2Proof.Machine.execIdCertOpen t p s
  | .idCertWdata t p w => Sys2Proof.Machine.execIdCertWdata t p w s
  | .idCertCommit t p len => Sys2Proof.Machine.execIdCertCommit t p len s
  | .tripLapse t => Sys2Proof.Machine.execTripLapse t s
  | .monGood t u => Sys2Proof.Machine.execMonGood t u s
  | .muxSwitchComplete t u => Sys2Proof.Machine.execMuxSwitchComplete t u s
  | .mirrorHeartbeat t => Sys2Proof.Machine.execMirrorHeartbeat t s
  | .perTickCopy t => Sys2Proof.Machine.execPerTickCopy t s
  | .reservedTypeMessage t e => Sys2Proof.Machine.execReservedTypeMessage t e s
  | .reservedTypeFrame t h => Sys2Proof.Machine.execReservedTypeFrame t h s

end Sys2Proof.Machine
end

