-- ==== Sys2Proof/Machine/Scope.lean ====
section
/-!
DEFINITION. The scope of every command: the registers, the variables and the parts of the state that it may change, by name. A
statement of the frame says that a command changes nothing outside its scope.
-/
namespace Sys2Proof.Machine

/-- The parts of the state beside the registers and the variables: the image banks, who owns the staging bank, the image that runs,
a delta being applied, the event controller's stacks and levels, the trace store, the channels' tables, the budgets, the records,
the held marks, the sync unit's tables, what the present sync operation sends, the posted writes, the latches, the counts of the
open slot, the certificate store, the latest TRIP record, what the other hub holds, the count of free values taken, the accepted writes
that wait. -/
inductive Part where
  | banks | owner | image | delta | evt | trc | chan | grants | recs | marks | sync | cur | posted | latch | slotActs | cert | trip
  | mir | free | reqWait
deriving DecidableEq, Repr

/-- A scope. -/
structure Scope where
  regs : List Reg
  vars : List Var
  parts : List Part

/-- What lies in any of some scopes. -/
def Scope.join (l : List Scope) : Scope := ⟨l.flatMap (·.regs), l.flatMap (·.vars), l.flatMap (·.parts)⟩

/-- Every register and every variable. -/
def Scope.everything : Scope := ⟨Reg.all, (List.range 358).map Var.ofNat, []⟩

/-- The record of an answered error. -/
def Scope.refused : Scope :=
  ⟨[.HOST_ERR_A, .HOST_ERR_B], [], []⟩

/-- The CHAN_STATUS of the channel ends. -/
def Scope.ends : Scope :=
  ⟨[.HUB_CHAN, .NODE_CHAN, .LEAF_CHAN], [], []⟩

/-- What a trace frame may change. -/
def Scope.frames : Scope :=
  ⟨[.TRC_STATUS, .TRC_PTR, .TRC_LOSS], [.trcSeq, .trcPost, .trcLoss], [.trc]⟩

/-- What new sources of one gate may change. -/
def Scope.gate : Scope :=
  ⟨[.LEAF_GATE, .LEAF_SCORE_CNT, .LEAF_CNT_SEL], [.levHeld, .effAt, .stl, .scoreCyc, .cwAcc, .clAcc, .wcCyc, .cfgCyc], []⟩

/-- What new sources of a leaf's gates may change: effective levels and their accounts. -/
def Scope.gates : Scope :=
  Scope.join [.gate, ⟨[.LEAF_CORE], [.rstHold, .bkt, .gpEn], []⟩]

/-- What a record handed to the record port may change. -/
def Scope.record : Scope :=
  Scope.join [.frames, ⟨[.FAC_ALERT, .EVC_STATUS, .EVC_GRP_A, .EVC_GRP_B, .EVC_SRC_STATE, .CNT_GLOBAL, .REC_RING_A, .REC_RING_C,
   .REC_STATUS], [], [.evt, .recs]⟩]

/-- What an event raised at the hub may change: its source, its group, the trace unit, ALERT_N's causes. -/
def Scope.event : Scope :=
  Scope.join [.frames, ⟨[.FAC_ALERT, .EVC_STATUS, .EVC_GRP_A, .EVC_GRP_B, .EVC_SRC_STATE, .CNT_GLOBAL], [], [.evt]⟩]

/-- What a new split of the budgets may change. -/
def Scope.budgets : Scope :=
  Scope.join [.event, .ends, ⟨[.HUB_BUDGET, .HUB_CAPS, .HUB_SPLIT_A, .HUB_SPLIT_B, .HUB_SPLIT_C, .NODE_BUDGET, .NODE_SPLIT_STAT,
   .NODE_SPLIT_A, .NODE_SPLIT_B, .NODE_SPLIT_C, .LEAF_BUDGET, .LEAF_RAIL_BUDGET], [], [.grants]⟩]

/-- What the messages and frames that a sync operation sends may change. -/
def Scope.flush : Scope :=
  Scope.join [.budgets, .refused, ⟨[.SYNC_STATUS, .SHP_STATUS, .LOOP_STAT, .LOOP_LAT, .RAIL_RISE, .LEAF_CONV, .LEAF_PART,
   .LEAF_GATE, .LEAF_CORE, .SYNC_OBJ_A, .SYNC_OBJ_B, .DXL_STATUS, .DXL_TIME, .DXL_LEASE, .DXL_PORT_A, .DXL_PORT_B, .DXL_PORT_C,
   .DXL_PORT_D], [.shNum, .shDen, .fixKeep, .appliedMw, .leaseLent, .leaseBorrowed, .riseAt, .txLast, .authAt, .spAt, .obThat,
   .txStop, .lsRecall, .lsEnd, .tsT1, .tsFirst, .tsRem], [.sync, .cur, .free]⟩]

/-- What an operation of the sync unit may change: objects, watches, spans, and what their release starts. -/
def Scope.syncOp : Scope :=
  Scope.join [.flush, ⟨[.STR_STATUS, .STR_CTX, .SHP_CTRL, .SHP_LAST, .SHP_LAST_I, .STR_W2, .STR_W3, .STR_W4, .STR_W5,
   .RAIL_SHED_STAT, .RAIL_SHAPE_PRED, .PH_STAT], [.strLast, .strSaved, .visOpen, .vhPhase, .vhOpen, .needSent, .wtSent, .wLast,
   .dwellFrom, .shedWait, .shedChk, .spArr, .spNxt, .obRot, .obFirst, .obLastA, .obNFirst, .obNLast, .lsSent, .lsTo, .lsEff,
   .shedPendAt, .riseSlew], [.chan, .marks, .latch, .mir]⟩]

/-- What goes on by itself after a rail or a channel has changed: the steps of RAMP and of a ramp-down. -/
def Scope.sequence : Scope :=
  Scope.join [.budgets, .gates, .refused, ⟨[.HUB_PKG_STATE, .STR_CTX, .CRUST_STATUS, .HOST_STATUS, .IMG_STATUS, .CLK_CTRL,
   .CLK_STAT, .CLK_MON, .CLK_OSC, .CLK_TB, .LOOP_CTRL, .LOOP_CFG, .LOOP_SP, .LOOP_SP_MAX, .LOOP_OUT_LIM, .LOOP_INT_LIM,
   .LOOP_DEST, .LOOP_VAL, .LOOP_ERR, .LOOP_MANUAL, .LOOP_STAT, .LOOP_LAT, .LOOP_LATE, .LOOP_COUNT, .GT_A, .GT_B, .RAIL_STATE,
   .RAIL_VSEL, .RAIL_SYNC, .RAIL_SHED_STAT, .RAIL_PH, .RAIL_RISE, .PH_STAT, .TS_CTRL, .TS_VAL, .TS_THR, .TS_STAT, .TS_HYST,
   .DD_CTRL, .DD_MAP, .DD_CAL, .DD_THR, .DD_STAT, .NODE_ID, .NODE_STATUS, .LEAF_ID, .LEAF_EST_STATUS, .LEAF_EST, .LEAF_THETA_LO,
   .LEAF_THETA_HI, .LEAF_VREF, .LEAF_CONV, .LEAF_SHED, .LEAF_PART, .LEAF_LSYNC, .LEAF_SYNC_STAT, .LEAF_SYNC_EPOCH,
   .LEAF_SYNC_WAIT, .LEAF_SYNC_LAST, .LEAF_SCORE, .LEAF_PROOF, .LEAF_CREDIT, .LEAF_THERM, .LEAF_THR_REQ, .LEAF_STACK,
   .LEAF_TCELL, .LEAF_BRAKE, .LEAF_CNT_LATCH, .DXL_PORT_A, .DXL_PORT_C, .DXL_PORT_D], [.chAckSent, .chAckRcvd, .chHello, .chWhy,
   .chFence, .chFenceUp, .chFenceBad, .chFenceSeq, .islHeld, .islFields, .estSum, .estSlots, .estWin, .estGrp, .estThLo,
   .estThHi, .estThNew, .estThLoNew, .estLast, .estFresh, .ngE, .ngN, .ngRep, .ngSent, .kwPkg, .cySeen, .invBits, .nivLast,
   .gotAvg, .gotFast, .leafFrozen, .safeHold, .safeSil, .fxAcc, .fxLast, .slotsLast, .sgRows, .sgRowsLast, .sgE, .sgELast,
   .ecyc, .ecycLast, .ccyc, .ccycLast, .coreE, .coreELast, .shNum, .shDen, .shHold, .dropped, .restEnd, .winBud, .winLevel,
   .winSafe, .shedBud, .proofHold, .scoreCode, .coreSlot, .ccpQreq, .ccpQack, .ccpZero, .fixKeep, .appliedMw, .lpCommit, .lpNom,
   .lpDue, .lpE0, .fp, .smpBad, .needSent, .wtSent, .engStop, .cwAt, .gatePend, .scHold, .scRamp, .ddRun, .ddReq, .ddCalAt,
   .wvAt, .wvStat, .refAt, .slewAt, .measSum, .measN, .pgFrom, .cycOn, .dwellFrom, .shedWait, .shedChk, .ovCnt, .uvCnt, .ocCnt,
   .cbcRun, .phPwm, .phPen, .phOffAt, .phCalDone, .txLast, .sgOut, .txStop, .lsSent, .lsRecall, .lsTo, .lsEff, .islRst, .islRel,
   .islAlive, .railPlan, .tbSet, .timeAt, .timeFwd, .muxAt, .muxSel, .clkQuiet, .clkCal, .clkRet, .pkgAt, .rampNow, .rampAt,
   .rampFirst, .rampOn, .downNow, .downFor, .downWait, .slowSlot, .tsGood, .tsGoodAt, .tsPer, .tsEn, .tsShut, .tsLow, .stkFlag,
   .stkAt, .thFrom, .tpSum, .tpN, .tpPer, .repTemp, .repAt, .repFallback, .cwNum, .cntSel, .cnSum, .cnLeaf, .cnEnd, .cnSent,
   .pkgT, .imgCand, .chFenceAt, .latPend, .estSlotAt, .chReason, .laneBulk, .islPlan, .gtNodeA, .gtNodeB, .lpHub, .slotNext,
   .ivNext, .cntFrom, .estVal, .pgFell, .pgRose, .gateActAt, .phStart, .phStop, .railRegrid, .shedPendAt, .levCred, .engKept,
   .engDiv, .wvLoad, .scStep, .scFor, .fpN, .tsDone, .ltPer, .thGood, .tbOff, .tbErr, .tbAt], [.owner, .chan, .posted,
   .slotActs, .free]⟩]

/-- What a package command, a trip or a wake may change: the package state, the rails and islands that come and go with it,
the loops, the gates. -/
def Scope.package : Scope :=
  Scope.join [.sequence, .flush, .record, ⟨[.HUB_MODE, .CRUST_LATCH, .CRUST_LAST, .CRUST_RAIL, .CRUST_RAIL_UV, .EVC_WAKE],
   [.tripAt, .tripN, .uvEnd, .holdOut, .resumeWait, .failBody, .tripLast], [.delta]⟩]

/-- The scopes that together are the scope of a command. -/
def Scope.table : Instr → List Scope
  | .aonSupplyLoss .. =>
    [.everything, ⟨[], [], [.banks, .owner, .image, .delta, .evt, .trc, .chan, .grants, .recs, .marks, .sync, .cur, .posted, .latch,
     .slotActs, .cert, .trip, .mir, .free, .reqWait]⟩]
  | .powerOnResetEnd .. =>
    [.everything, ⟨[], [], [.banks, .owner, .image, .delta, .evt, .trc, .chan, .grants, .recs, .marks, .sync, .cur, .posted, .latch,
     .slotActs, .cert, .trip, .mir, .reqWait]⟩]
  | .pkgCmdNone .. | .pkgHold .. | .pkgResume .. | .pkgSleep .. | .pkgDeepSleep .. | .pkgWake .. | .pkgRecover .. | .pkgFail ..
    | .pkgResetToAon .. =>
    [.flush, .record, .gates, ⟨[.HUB_PKG_STATE, .HUB_MODE, .STR_CTX, .CRUST_STATUS, .CRUST_LATCH, .CRUST_LAST, .CRUST_RAIL,
     .CRUST_RAIL_UV, .HOST_STATUS, .IMG_STATUS, .EVC_WAKE, .CLK_CTRL, .CLK_STAT, .CLK_MON, .CLK_OSC, .CLK_TB, .LOOP_CTRL,
     .LOOP_CFG, .LOOP_SP, .LOOP_SP_MAX, .LOOP_OUT_LIM, .LOOP_INT_LIM, .LOOP_DEST, .LOOP_VAL, .LOOP_ERR, .LOOP_MANUAL,
     .LOOP_LATE, .LOOP_COUNT, .GT_A, .GT_B, .RAIL_STATE, .RAIL_VSEL, .RAIL_SYNC, .RAIL_SHED_STAT, .RAIL_PH, .PH_STAT, .TS_CTRL,
     .TS_VAL, .TS_THR, .TS_STAT, .TS_HYST, .DD_CTRL, .DD_MAP, .DD_CAL, .DD_THR, .DD_STAT, .NODE_ID, .NODE_STATUS, .LEAF_ID,
     .LEAF_EST_STATUS, .LEAF_EST, .LEAF_THETA_LO, .LEAF_THETA_HI, .LEAF_VREF, .LEAF_SHED, .LEAF_LSYNC, .LEAF_SYNC_STAT,
     .LEAF_SYNC_EPOCH, .LEAF_SYNC_WAIT, .LEAF_SYNC_LAST, .LEAF_SCORE, .LEAF_PROOF, .LEAF_CREDIT, .LEAF_THERM, .LEAF_THR_REQ,
     .LEAF_STACK, .LEAF_TCELL, .LEAF_BRAKE, .LEAF_CNT_LATCH], [.chAckSent, .chAckRcvd, .chHello, .chWhy, .chFence, .chFenceUp,
     .chFenceBad, .chFenceSeq, .islHeld, .islFields, .estSum, .estSlots, .estWin, .estGrp, .estThLo, .estThHi, .estThNew,
     .estThLoNew, .estLast, .estFresh, .ngE, .ngN, .ngRep, .ngSent, .kwPkg, .cySeen, .invBits, .nivLast, .gotAvg, .gotFast,
     .leafFrozen, .safeHold, .safeSil, .fxAcc, .fxLast, .slotsLast, .sgRows, .sgRowsLast, .sgE, .sgELast, .ecyc, .ecycLast,
     .ccyc, .ccycLast, .coreE, .coreELast, .shHold, .dropped, .restEnd, .winBud, .winLevel, .winSafe, .shedBud, .proofHold,
     .scoreCode, .coreSlot, .ccpQreq, .ccpQack, .ccpZero, .lpCommit, .lpNom, .lpDue, .lpE0, .fp, .smpBad, .needSent, .wtSent,
     .engStop, .cwAt, .gatePend, .scHold, .scRamp, .ddRun, .ddReq, .ddCalAt, .wvAt, .wvStat, .refAt, .slewAt, .measSum, .measN,
     .pgFrom, .cycOn, .dwellFrom, .shedWait, .shedChk, .ovCnt, .uvCnt, .ocCnt, .cbcRun, .phPwm, .phPen, .phOffAt, .phCalDone,
     .sgOut, .lsSent, .lsTo, .lsEff, .islRel, .islAlive, .railPlan, .tbSet, .timeAt, .timeFwd, .muxAt, .muxSel, .clkQuiet,
     .clkCal, .clkRet, .pkgAt, .rampNow, .rampAt, .rampFirst, .rampOn, .downNow, .downFor, .downWait, .tripAt, .tripN, .uvEnd,
     .holdOut, .resumeWait, .slowSlot, .tsGood, .tsGoodAt, .tsPer, .tsEn, .tsShut, .tsLow, .stkFlag, .stkAt, .thFrom, .tpSum,
     .tpN, .tpPer, .repTemp, .repAt, .repFallback, .cwNum, .cntSel, .cnSum, .cnLeaf, .cnEnd, .cnSent, .pkgT, .imgCand,
     .failBody, .chFenceAt, .latPend, .estSlotAt, .chReason, .laneBulk, .tripLast, .gtNodeA, .gtNodeB, .lpHub, .slotNext,
     .ivNext, .cntFrom, .estVal, .pgFell, .pgRose, .gateActAt, .phStart, .phStop, .railRegrid, .shedPendAt, .levCred, .engKept,
     .engDiv, .wvLoad, .scStep, .scFor, .fpN, .tsDone, .ltPer, .thGood, .tbOff, .tbErr, .tbAt], [.owner, .delta, .chan, .posted,
     .slotActs]⟩]
  | .holdTimeout .. =>
    [.event, ⟨[.HUB_PKG_STATE], [.safeHold, .holdOut], []⟩]
  | .bgLate .. =>
    [.event, ⟨[], [.bgLate], []⟩]
  | .scrubStep .. =>
    [.sequence, .flush, .record, ⟨[.STR_STATUS, .SHP_CTRL, .ECC_STATUS, .ECC_COUNT, .STR_W0, .STR_W1, .STR_W2, .STR_W3, .STR_W4,
     .STR_W5, .STR_W6, .RAIL_SHAPE_PRED], [.strLast, .wLast, .spArr, .spNxt, .obRot, .obFirst, .obLastA, .obNFirst, .obNLast,
     .resumeWait, .failBody, .dltSend, .ldrFence, .eccSec, .bgNext, .bgAt, .bgLate, .riseSlew, .strWipe], [.banks, .delta]⟩]
  | .ldrOpen .. | .ldrCommit .. | .ldrAbort .. | .commitSvn .. =>
    [.refused, ⟨[.FAC_ALERT, .IMG_STATUS, .IMG_WADDR], [.imgPtr], [.banks, .owner]⟩]
  | .fusingDone .. =>
    [⟨[.IMG_STATUS, .IMG_FUSE], [.fuseSvn], []⟩]
  | .imgWaddr .. =>
    [.refused, ⟨[.IMG_WADDR], [.imgPtr], []⟩]
  | .imgWdata .. =>
    [.refused, ⟨[.IMG_WADDR], [.imgPtr], [.banks]⟩]
  | .checkDone .. =>
    [.event, .ends, .refused, ⟨[.HUB_PKG_STATE, .HUB_CAPS, .STR_CTX, .HOST_STATUS, .HUB_SPLIT_A, .HUB_SPLIT_B, .HUB_SPLIT_C,
     .IMG_STATUS, .LOOP_CTRL, .LOOP_CFG, .LOOP_SP, .LOOP_SP_MAX, .LOOP_OUT_LIM, .LOOP_INT_LIM, .LOOP_DEST, .LOOP_MANUAL, .GT_A,
     .GT_B, .RAIL_SHED_STAT, .NODE_SPLIT_STAT, .NODE_SPLIT_A, .NODE_SPLIT_B, .NODE_SPLIT_C, .LEAF_GATE, .DXL_PORT_A,
     .DXL_PORT_C, .DXL_PORT_D], [.chFence, .chFenceUp, .chFenceBad, .chFenceSeq, .kwPkg, .lpNom, .lpDue, .fp, .smpBad,
     .needSent, .wtSent, .shedWait, .txLast, .txStop, .lsSent, .lsRecall, .lsTo, .lsEff, .pkgAt, .pkgT, .imgCand, .dltSend,
     .ldrFence, .chFenceAt, .gtNodeA, .gtNodeB, .lpHub, .fpN], [.owner, .delta, .chan, .grants, .posted, .free]⟩]
  | .verifyDone .. =>
    [.sequence, .flush, .record, ⟨[.HUB_MODE, .SYNC_CTX, .SYNC_CTXW, .HUB_TCELL, .CRUST_LATCH, .CRUST_LAST, .CRUST_RAIL,
     .CRUST_RAIL_UV, .IMG_INFO, .IMG_ID, .EVC_CTRL, .EVC_TSTAT, .EVC_WAKE, .EVC_SRC_CFG, .LOOP_SCHED, .ENG_STATUS, .STR_W0,
     .STR_W1, .STR_W2, .STR_W3, .STR_W4, .STR_W5, .STR_W6, .RAIL_LIM, .RAIL_COMP_A, .RAIL_COMP_B, .RAIL_PCM, .RAIL_SHED,
     .RAIL_VSLOT, .RAIL_FUSE_STATUS, .RAIL_THETA_LO, .RAIL_THETA_HI, .RAIL_KNEAD, .PH_SAMPLE, .TS_CAL, .MIR_STATUS], [.evtPg,
     .estRailSum, .estRailN, .ivLast, .ivFresh, .attr, .hgE, .hgN, .kwM, .kwN, .kwBad, .kwTouch, .kTheta, .kP, .cyP, .cyI, .cyV,
     .cyN, .cyLastP, .cyLastI, .validRun, .divM, .divE, .divV, .divVN, .latestM, .thrSent, .fHist, .fHistN, .aHist, .shareN,
     .shareD, .exSum, .exN, .smpRows, .smpBud, .smpOth, .strLast, .vhPhase, .vhOpen, .wLast, .fuseAt, .riseOff, .spArr, .spNxt,
     .obRot, .obFirst, .obLastA, .obNFirst, .obNLast, .tripAt, .tripN, .uvEnd, .resumeWait, .calCand, .calCandPer, .calOld,
     .repBand, .repLapsed, .priDone, .keyUp, .repSite, .failBody, .wear, .dltSend, .eccSec, .repLevel, .tripLast, .fuseWas,
     .kwDrop, .riseSlew, .strWipe, .smpNext, .calPrev], [.banks, .image]⟩]
  | .paramMsg .. =>
    [.sequence, ⟨[.HUB_TCELL, .ENG_STATUS], [.vrefSent, .keyUp, .dltSend, .dltTa], [.delta]⟩]
  | .deltaActivate .. =>
    [.package, ⟨[.SHP_CTRL, .HUB_TCELL, .IMG_INFO, .EVC_CTRL, .EVC_SRC_CFG, .STR_W0, .STR_W1, .STR_W2, .STR_W3, .STR_W5, .STR_W6,
     .RAIL_LIM, .RAIL_COMP_A, .RAIL_COMP_B, .RAIL_PCM, .RAIL_SHED, .RAIL_VSLOT, .RAIL_THETA_LO, .RAIL_THETA_HI, .RAIL_KNEAD,
     .RAIL_SHAPE_PRED, .PH_SAMPLE, .TS_CAL], [.evtPg, .chHold, .kwTouch, .kTheta, .kP, .strLast, .wLast, .dltSend, .ldrFence,
     .eccSec, .riseSlew, .strWipe], [.image]⟩]
  | .applyTimeout .. =>
    [.flush, .record, .gates, ⟨[.HUB_PKG_STATE, .HUB_MODE, .STR_CTX, .CRUST_STATUS, .CRUST_LATCH, .CRUST_LAST, .CRUST_RAIL,
     .CRUST_RAIL_UV, .HOST_STATUS, .IMG_STATUS, .EVC_WAKE, .CLK_CTRL, .CLK_STAT, .CLK_MON, .CLK_OSC, .CLK_TB, .LOOP_CTRL,
     .LOOP_CFG, .LOOP_SP, .LOOP_SP_MAX, .LOOP_OUT_LIM, .LOOP_INT_LIM, .LOOP_DEST, .LOOP_VAL, .LOOP_ERR, .LOOP_MANUAL,
     .LOOP_LATE, .LOOP_COUNT, .GT_A, .GT_B, .RAIL_STATE, .RAIL_VSEL, .RAIL_SYNC, .RAIL_SHED_STAT, .RAIL_PH, .PH_STAT, .TS_CTRL,
     .TS_VAL, .TS_THR, .TS_STAT, .TS_HYST, .DD_CTRL, .DD_MAP, .DD_CAL, .DD_THR, .DD_STAT, .NODE_ID, .NODE_STATUS, .LEAF_ID,
     .LEAF_EST_STATUS, .LEAF_EST, .LEAF_THETA_LO, .LEAF_THETA_HI, .LEAF_VREF, .LEAF_SHED, .LEAF_LSYNC, .LEAF_SYNC_STAT,
     .LEAF_SYNC_EPOCH, .LEAF_SYNC_WAIT, .LEAF_SYNC_LAST, .LEAF_SCORE, .LEAF_PROOF, .LEAF_CREDIT, .LEAF_THERM, .LEAF_THR_REQ,
     .LEAF_STACK, .LEAF_TCELL, .LEAF_BRAKE, .LEAF_CNT_LATCH], [.chAckSent, .chAckRcvd, .chHello, .chWhy, .chFence, .chFenceUp,
     .chFenceBad, .chFenceSeq, .chHold, .islHeld, .islFields, .estSum, .estSlots, .estWin, .estGrp, .estThLo, .estThHi,
     .estThNew, .estThLoNew, .estLast, .estFresh, .ngE, .ngN, .ngRep, .ngSent, .kwPkg, .cySeen, .invBits, .nivLast, .gotAvg,
     .gotFast, .leafFrozen, .safeHold, .safeSil, .fxAcc, .fxLast, .slotsLast, .sgRows, .sgRowsLast, .sgE, .sgELast, .ecyc,
     .ecycLast, .ccyc, .ccycLast, .coreE, .coreELast, .shHold, .dropped, .restEnd, .winBud, .winLevel, .winSafe, .shedBud,
     .proofHold, .scoreCode, .coreSlot, .ccpQreq, .ccpQack, .ccpZero, .lpCommit, .lpNom, .lpDue, .lpE0, .fp, .smpBad, .needSent,
     .wtSent, .engStop, .cwAt, .gatePend, .scHold, .scRamp, .ddRun, .ddReq, .ddCalAt, .wvAt, .wvStat, .refAt, .slewAt, .measSum,
     .measN, .pgFrom, .cycOn, .dwellFrom, .shedWait, .shedChk, .ovCnt, .uvCnt, .ocCnt, .cbcRun, .phPwm, .phPen, .phOffAt,
     .phCalDone, .sgOut, .lsSent, .lsTo, .lsEff, .islRel, .islAlive, .railPlan, .tbSet, .timeAt, .timeFwd, .muxAt, .muxSel,
     .clkQuiet, .clkCal, .clkRet, .pkgAt, .rampNow, .rampAt, .rampFirst, .rampOn, .downNow, .downFor, .downWait, .tripAt,
     .tripN, .uvEnd, .holdOut, .resumeWait, .slowSlot, .tsGood, .tsGoodAt, .tsPer, .tsEn, .tsShut, .tsLow, .stkFlag, .stkAt,
     .thFrom, .tpSum, .tpN, .tpPer, .repTemp, .repAt, .repFallback, .cwNum, .cntSel, .cnSum, .cnLeaf, .cnEnd, .cnSent, .pkgT,
     .imgCand, .failBody, .dltSend, .ldrFence, .chFenceAt, .latPend, .estSlotAt, .chReason, .laneBulk, .tripLast, .gtNodeA,
     .gtNodeB, .lpHub, .slotNext, .ivNext, .cntFrom, .estVal, .pgFell, .pgRose, .gateActAt, .phStart, .phStop, .railRegrid,
     .shedPendAt, .levCred, .engKept, .engDiv, .wvLoad, .scStep, .scFor, .fpN, .tsDone, .ltPer, .thGood, .tbOff, .tbErr, .tbAt],
     [.owner, .delta, .chan, .posted, .slotActs]⟩]
  | .chanAliveRise .. =>
    [.ends, ⟨[], [.chAckSent, .chAckRcvd, .chHello, .islRel, .islAlive, .chReason], [.chan]⟩]
  | .chanAliveFall .. =>
    [.sequence, .flush, ⟨[.RAIL_LIM], [.chHold, .keyUp, .dltSend, .ldrFence], [.delta]⟩]
  | .hello .. =>
    [.sequence, ⟨[.RAIL_LIM], [.chHold, .keyUp, .timeSent, .dltSend, .ldrFence, .dltAt], [.delta]⟩]
  | .helloAck .. =>
    [.sequence, ⟨[.RAIL_LIM], [.keyUp, .timeSent, .dltSend, .dltAt], [.delta]⟩]
  | .fence .. =>
    [.event, .ends, .refused, ⟨[.HUB_CAPS, .STR_CTX, .HOST_STATUS, .HUB_SPLIT_A, .HUB_SPLIT_B, .HUB_SPLIT_C, .LOOP_CFG, .LOOP_SP,
     .LOOP_SP_MAX, .LOOP_OUT_LIM, .LOOP_INT_LIM, .LOOP_DEST, .LOOP_MANUAL, .GT_A, .GT_B, .RAIL_SHED_STAT, .NODE_SPLIT_STAT,
     .NODE_SPLIT_A, .NODE_SPLIT_B, .NODE_SPLIT_C, .LEAF_GATE, .DXL_PORT_A, .DXL_PORT_C, .DXL_PORT_D], [.chFence, .chFenceUp,
     .chFenceBad, .chFenceSeq, .fp, .smpBad, .needSent, .wtSent, .shedWait, .txLast, .txStop, .lsSent, .lsRecall, .lsTo, .lsEff,
     .chFenceAt, .gtNodeA, .gtNodeB, .lpHub, .fpN], [.chan, .grants, .posted, .free]⟩]
  | .fenceAck .. | .fenceTimeout .. =>
    [.sequence, ⟨[], [.ldrFence], []⟩]
  | .cmdReq .. | .cmdData .. | .cmdRsp .. | .cmdTimeout .. | .registerWrite .. | .postedWritePerform .. | .rspTimeout .. =>
    [.everything, ⟨[], [], [.banks, .owner, .image, .delta, .evt, .trc, .chan, .grants, .recs, .marks, .sync, .cur, .posted, .latch,
     .slotActs, .cert, .mir, .free, .reqWait]⟩]
  | .estimate .. =>
    [.event, .ends, ⟨[.RAIL_ESTM, .RAIL_FUSED], [.estLast, .estFresh, .estRailSum, .estRailN, .exSum, .exN, .estDiv, .estSlotAt,
     .estVal], []⟩]
  | .estimateSlotTimeout .. =>
    [.frames, .ends, ⟨[.RAIL_ESTM, .RAIL_FUSED, .NODE_STATUS], [.estRailSum, .estRailN, .exSum, .exN, .estDiv, .estSlotAt], []⟩]
  | .timeSend .. =>
    [.ends, ⟨[], [.timeFwd, .timeSent], []⟩]
  | .timeMsg .. =>
    [.event, .ends, ⟨[.CLK_STAT, .CLK_TB], [.safeSil, .tbSet, .timeAt, .timeFwd, .tbOff, .tbErr, .tbAt], []⟩]
  | .parentSilent .. =>
    [.event, .gates, .ends, ⟨[], [.safeSil], []⟩]
  | .leafSlotClose .. =>
    [.ends, ⟨[.LEAF_EST_STATUS, .LEAF_EST, .LEAF_THETA_LO, .LEAF_THETA_HI, .LEAF_CNT_SEL], [.estSum, .estSlots, .estWin, .estGrp,
     .estThNew, .estThLoNew, .fxAcc, .sgRows, .sgE, .ecyc, .ccyc, .coreE, .calN, .calSum, .calCandPer, .tpSum, .tpN, .tpPer,
     .cwAcc, .clAcc, .slotNext, .gateActAt], [.slotActs]⟩]
  | .leafIntervalClose .. =>
    [.ends, ⟨[.LEAF_EST_STATUS, .LEAF_EST, .LEAF_RAIL_BUDGET, .LEAF_CONV, .LEAF_PART, .LEAF_GATE, .LEAF_CORE], [.estSum, .estSlots,
     .estWin, .estGrp, .fxAcc, .fxLast, .slotsLast, .sgRows, .sgRowsLast, .sgE, .sgELast, .ecyc, .ecycLast, .ccyc, .ccycLast,
     .coreE, .coreELast, .shNum, .shDen, .fixKeep, .ivNext, .engKept, .engDiv], []⟩]
  | .intervalReport .. =>
    [.event, .ends, ⟨[], [.ivLast, .ivFresh, .nivLast], []⟩]
  | .groupReport .. =>
    [.event, .ends, ⟨[], [.ngE, .ngN, .ngRep, .ngSent, .hgE, .hgN], []⟩]
  | .groupSumTimeout .. =>
    [.ends, ⟨[], [.ngE, .ngN, .ngRep, .ngSent], []⟩]
  | .applied .. =>
    [.event, .ends, ⟨[.LOOP_STAT, .LOOP_LAT], [.appliedMw], []⟩]
  | .hubIntervalClose .. =>
    [.event, .record, ⟨[.HUB_CAPS, .RAIL_VSEL, .RAIL_FUSE_STATUS, .RAIL_MEAS, .RAIL_ESTM, .RAIL_FUSED, .RAIL_KNEAD_RES,
     .RAIL_RISE_EXPO, .DD_THR, .LEAF_CORE, .CNT_CTX_E], [.estRailSum, .estRailN, .ivFresh, .attr, .kwM, .kwN, .kwBad, .kwPkg,
     .kP, .cyP, .cyI, .cyV, .cyN, .invBits, .validRun, .divM, .divE, .divV, .divVN, .phSum, .phN, .latestM, .coreSlot, .fHist,
     .fHistN, .aHist, .shareN, .shareD, .exSum, .exN, .smpBad, .fuseAt, .slewAt, .riseExpo, .slowSlot, .ctxNj, .gNj, .telM,
     .telE, .telN, .hubIv, .fuseWas], [.latch, .free]⟩]
  | .kneadWindowClose .. =>
    [.ends, ⟨[.RAIL_THETA_LO, .RAIL_THETA_HI, .RAIL_KNEAD, .RAIL_KNEAD_RES, .LEAF_THETA_LO, .LEAF_THETA_HI], [.hgE, .hgN, .kwM,
     .kwN, .kwBad, .kwPkg, .kwTouch, .kTheta, .kP, .bgNext, .bgAt, .bgLate, .kwDone], [.chan]⟩]
  | .leafThetaWrite .. =>
    [⟨[], [.estThLo, .estThHi, .estThNew, .estThLoNew], []⟩]
  | .kneadReset .. =>
    [.ends, .refused, ⟨[.RAIL_THETA_LO, .RAIL_THETA_HI, .RAIL_KNEAD, .LEAF_THETA_LO, .LEAF_THETA_HI], [.kwTouch, .kTheta, .kP,
     .kwDrop], [.chan]⟩]
  | .phaseCycle .. =>
    [.sequence, ⟨[.PH_SAMPLE], [.phSum, .phN, .rlU1, .phNew, .phU, .phTon, .phOnGrid], []⟩]
  | .loopTick .. =>
    [.budgets, ⟨[.LOOP_SP, .LOOP_VAL, .LOOP_ERR, .LOOP_STAT, .LOOP_LAT, .LOOP_LATE, .LOOP_COUNT, .GT_A, .GT_B, .ENG_STATUS,
     .LEAF_CONV, .LEAF_PART, .LEAF_GATE, .LEAF_CORE, .LEAF_THR_REQ, .DXL_PORT_A, .DXL_PORT_C, .DXL_PORT_D], [.shNum, .shDen,
     .fixKeep, .appliedMw, .lpCommit, .lpNom, .lpDue, .lpE0, .thrSent, .txLast, .txStop, .lsSent, .lsRecall, .lsTo, .lsEff],
     [.chan]⟩]
  | .loopOpen .. | .loopClose .. =>
    [.event, .ends, .refused, ⟨[.LOOP_CTRL, .LOOP_VAL, .LOOP_STAT, .GT_A, .GT_B], [], [.chan]⟩]
  | .grant .. =>
    [.budgets, .gates, ⟨[.LOOP_STAT, .LOOP_LAT, .LEAF_CONV, .LEAF_PART], [.gotAvg, .gotFast, .leafFrozen, .safeHold, .safeSil,
     .shNum, .shDen, .fixKeep, .appliedMw], []⟩]
  | .need .. =>
    [.event, .ends, ⟨[.HUB_CAPS, .HUB_SPLIT_A, .HUB_SPLIT_B, .HUB_SPLIT_C, .NODE_SPLIT_STAT, .NODE_SPLIT_A, .NODE_SPLIT_B,
     .NODE_SPLIT_C], [], [.grants]⟩]
  | .creditWindow .. =>
    [.gates, ⟨[.LEAF_SCORE, .LEAF_CREDIT], [.winBud, .winLevel, .winSafe, .scoreCode, .cwAt, .gatePend, .scRamp, .gateActAt,
     .levCred, .wvLoad], []⟩]
  | .gateFault .. =>
    [.event, .gate, .ends, ⟨[], [.shHold, .restEnd, .bkt, .gpEn], []⟩]
  | .restEnd .. =>
    [.event, .ends, ⟨[.LEAF_RAIL_BUDGET, .LEAF_CONV, .LEAF_PART, .LEAF_GATE, .LEAF_CORE], [.shNum, .shDen, .shHold, .dropped,
     .fixKeep], []⟩]
  | .faultClear .. =>
    [.event, .gate, .ends, ⟨[.HUB_CAPS, .STR_CTX, .HUB_SPLIT_A, .HUB_SPLIT_B, .HUB_SPLIT_C, .NODE_SPLIT_STAT, .NODE_SPLIT_A,
     .NODE_SPLIT_B, .NODE_SPLIT_C, .LEAF_RAIL_BUDGET, .LEAF_CONV, .LEAF_PART, .LEAF_CORE, .DXL_PORT_A, .DXL_PORT_C,
     .DXL_PORT_D], [.shNum, .shDen, .shHold, .dropped, .fixKeep, .fp, .smpBad, .needSent, .wtSent, .txLast, .txStop, .lsSent,
     .lsRecall, .lsTo, .lsEff, .fpN], [.grants, .free]⟩]
  | .hubModeReq .. =>
    [.refused, ⟨[.HUB_MODE], [], []⟩]
  | .wearPass .. =>
    [.event, ⟨[.RAIL_RISE, .RAIL_RISE_EXPO, .LEAF_CORE], [.riseExpo, .wear, .bgNext, .bgAt, .bgLate], []⟩]
  | .levelWindow .. =>
    [.event, .gate, ⟨[.HUB_CAPS], [.levAt, .levCred], []⟩]
  | .vfSlotLower .. =>
    [.event, ⟨[.RAIL_VSEL, .DD_THR, .LEAF_CORE], [.coreSlot, .slewAt], []⟩]
  | .strEnter .. | .strExit .. | .invalidationDone .. =>
    [.event, .ends, .refused, ⟨[.HUB_CAPS, .STR_STATUS, .STR_CTX, .SHP_CTRL, .SHP_STATUS, .HUB_SPLIT_A, .HUB_SPLIT_B, .HUB_SPLIT_C,
     .STR_W2, .STR_W3, .STR_W4, .STR_W5, .RAIL_SHED_STAT, .RAIL_RISE, .RAIL_SHAPE_PRED, .PH_STAT, .NODE_SPLIT_STAT,
     .NODE_SPLIT_A, .NODE_SPLIT_B, .NODE_SPLIT_C, .LEAF_PART, .DXL_PORT_A, .DXL_PORT_C, .DXL_PORT_D], [.strLast, .strSaved,
     .visOpen, .vhPhase, .vhOpen, .needSent, .wtSent, .wLast, .dwellFrom, .shedWait, .shedChk, .riseAt, .txLast, .obThat,
     .txStop, .lsSent, .lsRecall, .lsTo, .lsEff, .shedPendAt, .riseSlew], [.chan, .grants, .marks, .sync, .latch, .free]⟩]
  | .invSlot .. | .invEntry .. =>
    [.event, .ends, .refused, ⟨[.HUB_CAPS, .STR_STATUS, .STR_CTX, .SHP_CTRL, .SHP_STATUS, .HUB_SPLIT_A, .HUB_SPLIT_B, .HUB_SPLIT_C,
     .STR_W0, .STR_W1, .STR_W2, .STR_W3, .STR_W4, .STR_W5, .STR_W6, .RAIL_SHED_STAT, .RAIL_RISE, .RAIL_SHAPE_PRED, .PH_STAT,
     .NODE_SPLIT_STAT, .NODE_SPLIT_A, .NODE_SPLIT_B, .NODE_SPLIT_C, .LEAF_PART, .DXL_PORT_A, .DXL_PORT_C, .DXL_PORT_D],
     [.strLast, .needSent, .wtSent, .wLast, .dwellFrom, .shedWait, .shedChk, .riseAt, .txLast, .obThat, .txStop, .lsSent,
     .lsRecall, .lsTo, .lsEff, .shedPendAt, .riseSlew, .strWipe], [.chan, .grants, .sync, .free]⟩]
  | .starterSample .. =>
    [.event, .ends, ⟨[.HUB_CAPS, .STR_CTX, .SHP_CTRL, .SHP_STATUS, .HUB_SPLIT_A, .HUB_SPLIT_B, .HUB_SPLIT_C, .STR_W0, .STR_W1,
     .STR_W2, .STR_W5, .RAIL_SHED_STAT, .RAIL_RISE, .RAIL_SHAPE_PRED, .PH_STAT, .NODE_SPLIT_STAT, .NODE_SPLIT_A, .NODE_SPLIT_B,
     .NODE_SPLIT_C, .LEAF_PART, .DXL_PORT_A, .DXL_PORT_C, .DXL_PORT_D], [.smpBad, .smpRows, .smpBud, .smpOth, .vhPhase, .vhOpen,
     .needSent, .wtSent, .wLast, .dwellFrom, .shedWait, .shedChk, .riseAt, .txLast, .obThat, .txStop, .lsSent, .lsRecall, .lsTo,
     .lsEff, .shedPendAt, .riseSlew, .smpNext], [.chan, .grants, .sync, .free]⟩]
  | .syncInit .. | .syncTag .. | .syncArrive .. | .syncSignal .. | .syncSet .. | .syncClear .. | .syncWait .. | .syncCancel .. |
    .syncFree .. | .syncBreak .. | .syncReset .. | .syncForce .. | .syncSetCount .. =>
    [.syncOp]
  | .ctxSwitch .. =>
    [.syncOp, ⟨[.SYNC_CTX, .LEAF_CNT_LATCH, .CNT_CTX, .CNT_CTX_E], [.swTime, .latNum, .ctxNj0], []⟩]
  | .ctxSwitchDone .. =>
    [.flush, ⟨[.STR_STATUS, .STR_CTX, .SYNC_CTX, .SHP_CTRL, .STR_W0, .STR_W1, .STR_W2, .STR_W3, .STR_W4, .STR_W5, .STR_W6,
     .RAIL_SHED_STAT, .RAIL_SHAPE_PRED, .PH_STAT], [.strLast, .strSaved, .visOpen, .vhPhase, .vhOpen, .needSent, .wtSent,
     .wLast, .dwellFrom, .shedWait, .shedChk, .spArr, .spNxt, .obRot, .obFirst, .obLastA, .obNFirst, .obNLast, .lsSent, .lsTo,
     .lsEff, .shedPendAt, .riseSlew, .strWipe], [.chan, .marks, .latch]⟩]
  | .mirrorConfirm .. =>
    [.flush, ⟨[.MIR_LAG], [], []⟩]
  | .gateSyncOp .. =>
    [.gate, .ends, ⟨[.LEAF_LSYNC, .LEAF_SYNC_STAT, .LEAF_SYNC_WAIT, .LEAF_SYNC_LAST], [.sgOut], []⟩]
  | .release .. =>
    [.event, .gate, .ends, ⟨[.LEAF_SYNC_STAT, .LEAF_SYNC_WAIT, .LEAF_SYNC_LAST, .LEAF_PROOF], [.proofHold, .wvAt, .wvStat, .sgOut],
     []⟩]
  | .direct .. =>
    [.event, .gate, .ends, ⟨[.LEAF_SYNC_STAT, .LEAF_SYNC_WAIT, .LEAF_SYNC_LAST], [.sgOut], [.sync]⟩]
  | .ctxClear .. =>
    [.event, .gate, .ends, ⟨[.LEAF_LSYNC, .LEAF_SYNC_STAT, .LEAF_SYNC_EPOCH, .LEAF_SYNC_WAIT, .LEAF_SYNC_LAST], [.sgOut], []⟩]
  | .syncAbsentReport .. | .linkDown .. | .linkSilent .. | .dxlHeartbeatSend .. =>
    [.flush]
  | .lsyncWrite .. =>
    [.gate, ⟨[.LEAF_LSYNC, .LEAF_SYNC_STAT, .LEAF_SYNC_WAIT, .LEAF_SYNC_LAST], [.sgOut], []⟩]
  | .scoreTrip .. =>
    [.event, .gates, .ends, ⟨[.DD_THR, .DD_STAT, .LEAF_SCORE], [.scoreCode, .scHold, .scRamp, .ddRun, .scStep, .scFor], []⟩]
  | .scoreHoldExpiry .. =>
    [⟨[], [.scRamp], []⟩]
  | .ddCalibrate .. =>
    [⟨[.DD_CAL, .DD_THR], [.ddReq, .ddCalAt], []⟩]
  | .ddCalReq .. =>
    [.refused, ⟨[], [.ddReq], []⟩]
  | .ddCalStale .. =>
    [.event, .ends, ⟨[.DD_CAL], [], []⟩]
  | .riseOpen .. =>
    [.event, ⟨[.SHP_STATUS, .RAIL_SHED_STAT, .RAIL_RISE, .RAIL_SHAPE_PRED, .PH_STAT], [.dwellFrom, .shedWait, .shedChk, .riseAt,
     .shedPendAt, .riseSlew], [.sync]⟩]
  | .riseEnd .. =>
    [.frames, ⟨[.RAIL_RISE], [.riseAt, .obThat], [.sync]⟩]
  | .riseTimeout .. =>
    [.event, ⟨[.SHP_STATUS, .RAIL_RISE], [.riseAt, .obThat], [.sync]⟩]
  | .riseSlewStep .. =>
    [⟨[.RAIL_VSEL, .RAIL_RISE], [.refAt, .riseOff, .riseAt], []⟩]
  | .riseExhausted .. =>
    [.event, ⟨[.RAIL_RISE], [], []⟩]
  | .waveRelease .. =>
    [.gate, ⟨[.LEAF_SYNC_STAT, .LEAF_PROOF], [.proofHold, .bkt, .gpEn], []⟩]
  | .spanStaggerExpiry .. =>
    [.flush, ⟨[.STR_STATUS, .STR_CTX, .SHP_CTRL, .SHP_LAST, .SHP_LAST_I, .STR_W2, .STR_W3, .STR_W4, .STR_W5, .RAIL_SHED_STAT,
     .RAIL_SHAPE_PRED, .PH_STAT], [.strLast, .strSaved, .visOpen, .vhPhase, .vhOpen, .needSent, .wtSent, .wLast, .dwellFrom,
     .shedWait, .shedChk, .spArr, .spNxt, .obRot, .obFirst, .obLastA, .obNFirst, .obNLast, .lsSent, .lsTo, .lsEff, .shedPendAt,
     .riseSlew], [.chan, .marks, .latch]⟩]
  | .railLoopSample .. =>
    [.sequence, ⟨[.RAIL_LIM, .RAIL_COMP_A, .RAIL_COMP_B, .RAIL_LOOP, .RAIL_PCM, .RAIL_SHED, .RAIL_VSLOT, .PH_SAMPLE], [.cyP, .cyI,
     .cyV, .cyN, .cyLastP, .cyLastI, .rlU1, .rlW1, .rlE1, .railI, .shedAt, .phNew, .phPenAt, .rlTick, .rlUPrev, .shedNum], []⟩]
  | .shedDisable .. | .phaseFault .. =>
    [.sequence, ⟨[], [.rlU1], []⟩]
  | .shedTimeout .. =>
    [.event, ⟨[.RAIL_SHED_STAT, .PH_STAT], [.dwellFrom, .shedWait, .shedChk, .shedPendAt], []⟩]
  | .leafShed .. =>
    [.gates, ⟨[.LEAF_SHED], [.shedBud], []⟩]
  | .shedHoldExpiry .. =>
    [.gates, ⟨[.LEAF_SHED], [], []⟩]
  | .slewStep .. | .targetPg .. | .rampStepStart .. | .queueDrainDone .. =>
    [.sequence]
  | .railVselWrite .. =>
    [.event, .refused, ⟨[.RAIL_VSEL, .DD_THR, .LEAF_CORE], [.coreSlot, .slewAt], []⟩]
  | .railVslotWrite .. =>
    [.event, .refused, ⟨[.RAIL_VSEL, .RAIL_VSLOT, .DD_THR, .LEAF_CORE], [.coreSlot, .slewAt], []⟩]
  | .leafVrefCheck .. =>
    [.ends, ⟨[.LEAF_VREF], [.vrefSent], [.chan]⟩]
  | .leafVref .. =>
    [⟨[.LEAF_VREF], [], []⟩]
  | .measDone .. =>
    [.sequence, ⟨[], [.rlU1, .rlW1, .rlE1, .phNew, .phPenAt], []⟩]
  | .clrFault .. =>
    [.refused, ⟨[.RAIL_STATE, .RAIL_PH, .PH_STAT], [], []⟩]
  | .phCalReq .. =>
    [.refused, ⟨[.PH_CAL], [.phCalReq], []⟩]
  | .isnsCalibration .. =>
    [⟨[.PH_CAL], [.invBits, .phCalDone, .phCalReq], []⟩]
  | .tsConversionDone .. =>
    [.flush, .record, .gates, ⟨[.HUB_PKG_STATE, .STR_CTX, .THM_STATUS, .HUB_TCELL, .CRUST_STATUS, .CRUST_LATCH, .CRUST_LAST,
     .CRUST_RAIL, .CRUST_RAIL_UV, .HOST_STATUS, .IMG_STATUS, .CLK_CTRL, .CLK_STAT, .CLK_MON, .CLK_OSC, .CLK_TB, .LOOP_CTRL,
     .LOOP_CFG, .LOOP_SP, .LOOP_SP_MAX, .LOOP_OUT_LIM, .LOOP_INT_LIM, .LOOP_DEST, .LOOP_VAL, .LOOP_ERR, .LOOP_MANUAL,
     .LOOP_LATE, .LOOP_COUNT, .GT_A, .GT_B, .RAIL_STATE, .RAIL_VSEL, .RAIL_LIM, .RAIL_SYNC, .RAIL_SHED_STAT, .RAIL_PH, .PH_STAT,
     .TS_CTRL, .TS_VAL, .TS_THR, .TS_STAT, .TS_HYST, .DD_CTRL, .DD_MAP, .DD_CAL, .DD_THR, .DD_STAT, .NODE_ID, .NODE_STATUS,
     .LEAF_ID, .LEAF_EST_STATUS, .LEAF_EST, .LEAF_THETA_LO, .LEAF_THETA_HI, .LEAF_VREF, .LEAF_SHED, .LEAF_LSYNC,
     .LEAF_SYNC_STAT, .LEAF_SYNC_EPOCH, .LEAF_SYNC_WAIT, .LEAF_SYNC_LAST, .LEAF_SCORE, .LEAF_PROOF, .LEAF_CREDIT, .LEAF_THERM,
     .LEAF_THR_REQ, .LEAF_STACK, .LEAF_TCELL, .LEAF_BRAKE, .LEAF_CNT_LATCH], [.chAckSent, .chAckRcvd, .chHello, .chWhy,
     .chFence, .chFenceUp, .chFenceBad, .chFenceSeq, .islHeld, .islFields, .estSum, .estSlots, .estWin, .estGrp, .estThLo,
     .estThHi, .estThNew, .estThLoNew, .estLast, .estFresh, .ngE, .ngN, .ngRep, .ngSent, .kwPkg, .cySeen, .invBits, .nivLast,
     .gotAvg, .gotFast, .leafFrozen, .safeHold, .safeSil, .fxAcc, .fxLast, .slotsLast, .sgRows, .sgRowsLast, .sgE, .sgELast,
     .ecyc, .ecycLast, .ccyc, .ccycLast, .coreE, .coreELast, .shHold, .dropped, .restEnd, .winBud, .winLevel, .winSafe,
     .shedBud, .proofHold, .scoreCode, .coreSlot, .ccpQreq, .ccpQack, .ccpZero, .lpCommit, .lpNom, .lpDue, .lpE0, .fp, .smpBad,
     .needSent, .wtSent, .engStop, .cwAt, .gatePend, .scHold, .scRamp, .ddRun, .ddReq, .ddCalAt, .wvAt, .wvStat, .refAt,
     .slewAt, .pgFrom, .cycOn, .dwellFrom, .shedWait, .shedChk, .ovCnt, .uvCnt, .ocCnt, .cbcRun, .phPwm, .phPen, .phOffAt,
     .phCalDone, .sgOut, .lsSent, .lsTo, .lsEff, .islRel, .islAlive, .railPlan, .tbSet, .timeAt, .timeFwd, .muxAt, .muxSel,
     .clkQuiet, .clkCal, .clkRet, .pkgAt, .rampNow, .downNow, .downFor, .downWait, .tripAt, .tripN, .uvEnd, .resumeWait,
     .tsGood, .tsGoodAt, .tsPer, .tsEn, .tsShut, .tsLow, .stkFlag, .stkAt, .thFrom, .calN, .calSum, .calCand, .calCandPer,
     .tpSum, .tpN, .tpPer, .repTemp, .repAt, .repFallback, .cwNum, .cntSel, .cnSum, .cnLeaf, .cnEnd, .cnSent, .pkgT, .imgCand,
     .failBody, .hubLoss, .chFenceAt, .latPend, .estSlotAt, .chReason, .laneBulk, .tripLast, .gtNodeA, .gtNodeB, .lpHub,
     .slotNext, .ivNext, .cntFrom, .estVal, .pgFell, .pgRose, .gateActAt, .phStart, .phStop, .railRegrid, .shedPendAt, .levCred,
     .engKept, .engDiv, .wvLoad, .scStep, .scFor, .fpN, .tsDone, .ltPer, .thGood, .tbOff, .tbErr, .tbAt], [.owner, .chan,
     .posted, .slotActs]⟩]
  | .conversionLapse .. =>
    [.event, ⟨[.THM_STATUS, .RAIL_VSEL, .RAIL_LIM, .TS_VAL, .DD_THR, .LEAF_CORE], [.coreSlot, .slewAt], []⟩]
  | .leafTempPeriod .. =>
    [.event, .ends, ⟨[.THM_STATUS, .HUB_TCELL, .DD_THR, .LEAF_THERM, .LEAF_TCELL], [.ltPer], []⟩]
  | .tempReport .. =>
    [.event, .ends, ⟨[.RAIL_VSEL, .RAIL_LIM, .DD_THR, .LEAF_CORE], [.coreSlot, .slewAt, .repTemp, .repAt, .repFallback, .repBand,
     .repLapsed, .repSite, .repLevel], []⟩]
  | .reportLapse .. =>
    [.event, ⟨[.RAIL_VSEL, .RAIL_LIM, .DD_THR, .LEAF_CORE], [.coreSlot, .slewAt, .repLapsed], []⟩]
  | .calPassStart .. =>
    [⟨[.THM_STATUS], [.calAt, .calN, .calSum, .calCandPer, .bgAt], []⟩]
  | .calPassEnd .. =>
    [.event, ⟨[.THM_STATUS, .TS_CAL], [.calOld, .bgNext, .bgAt, .bgLate, .calPrev], []⟩]
  | .calRst .. =>
    [.refused, ⟨[.THM_STATUS, .TS_CAL], [.calOld, .calPrev], []⟩]
  | .sensorLoss .. =>
    [.event, .ends, ⟨[.THM_STATUS, .HUB_TCELL, .TS_STAT, .LEAF_THERM, .LEAF_STACK, .LEAF_TCELL], [.stkFlag, .hubLoss], []⟩]
  | .tcellApply .. =>
    [.gate, ⟨[.HUB_TCELL, .LEAF_TCELL], [], []⟩]
  | .leafThrReq .. =>
    [⟨[.HUB_TCELL, .LEAF_THR_REQ, .LEAF_TCELL], [], []⟩]
  | .stackUpdate .. =>
    [.flush, .record, .gates, ⟨[.HUB_PKG_STATE, .STR_CTX, .THM_STATUS, .HUB_TCELL, .CRUST_STATUS, .CRUST_LATCH, .CRUST_LAST,
     .CRUST_RAIL, .CRUST_RAIL_UV, .HOST_STATUS, .IMG_STATUS, .CLK_CTRL, .CLK_STAT, .CLK_MON, .CLK_OSC, .CLK_TB, .LOOP_CTRL,
     .LOOP_CFG, .LOOP_SP, .LOOP_SP_MAX, .LOOP_OUT_LIM, .LOOP_INT_LIM, .LOOP_DEST, .LOOP_VAL, .LOOP_ERR, .LOOP_MANUAL,
     .LOOP_LATE, .LOOP_COUNT, .GT_A, .GT_B, .RAIL_STATE, .RAIL_VSEL, .RAIL_SYNC, .RAIL_SHED_STAT, .RAIL_PH, .PH_STAT, .TS_CTRL,
     .TS_VAL, .TS_THR, .TS_STAT, .TS_HYST, .DD_CTRL, .DD_MAP, .DD_CAL, .DD_THR, .DD_STAT, .NODE_ID, .NODE_STATUS, .LEAF_ID,
     .LEAF_EST_STATUS, .LEAF_EST, .LEAF_THETA_LO, .LEAF_THETA_HI, .LEAF_VREF, .LEAF_SHED, .LEAF_LSYNC, .LEAF_SYNC_STAT,
     .LEAF_SYNC_EPOCH, .LEAF_SYNC_WAIT, .LEAF_SYNC_LAST, .LEAF_SCORE, .LEAF_PROOF, .LEAF_CREDIT, .LEAF_THERM, .LEAF_THR_REQ,
     .LEAF_STACK, .LEAF_TCELL, .LEAF_BRAKE, .LEAF_CNT_LATCH], [.chAckSent, .chAckRcvd, .chHello, .chWhy, .chFence, .chFenceUp,
     .chFenceBad, .chFenceSeq, .islHeld, .islFields, .estSum, .estSlots, .estWin, .estGrp, .estThLo, .estThHi, .estThNew,
     .estThLoNew, .estLast, .estFresh, .ngE, .ngN, .ngRep, .ngSent, .kwPkg, .cySeen, .invBits, .nivLast, .gotAvg, .gotFast,
     .leafFrozen, .safeHold, .safeSil, .fxAcc, .fxLast, .slotsLast, .sgRows, .sgRowsLast, .sgE, .sgELast, .ecyc, .ecycLast,
     .ccyc, .ccycLast, .coreE, .coreELast, .shHold, .dropped, .restEnd, .winBud, .winLevel, .winSafe, .shedBud, .proofHold,
     .scoreCode, .coreSlot, .ccpQreq, .ccpQack, .ccpZero, .lpCommit, .lpNom, .lpDue, .lpE0, .fp, .smpBad, .needSent, .wtSent,
     .engStop, .cwAt, .gatePend, .scHold, .scRamp, .ddRun, .ddReq, .ddCalAt, .wvAt, .wvStat, .refAt, .slewAt, .pgFrom, .cycOn,
     .dwellFrom, .shedWait, .shedChk, .ovCnt, .uvCnt, .ocCnt, .cbcRun, .phPwm, .phPen, .phOffAt, .phCalDone, .sgOut, .lsSent,
     .lsTo, .lsEff, .islRel, .islAlive, .railPlan, .tbSet, .timeAt, .timeFwd, .muxAt, .muxSel, .clkQuiet, .clkCal, .clkRet,
     .pkgAt, .rampNow, .downNow, .downFor, .downWait, .tripAt, .tripN, .uvEnd, .resumeWait, .tsGood, .tsGoodAt, .tsPer, .tsEn,
     .tsShut, .tsLow, .stkFlag, .stkAt, .thFrom, .tpSum, .tpN, .tpPer, .repTemp, .repAt, .repFallback, .cwNum, .cntSel, .cnSum,
     .cnLeaf, .cnEnd, .cnSent, .pkgT, .imgCand, .failBody, .chFenceAt, .latPend, .estSlotAt, .chReason, .laneBulk, .tripLast,
     .gtNodeA, .gtNodeB, .lpHub, .slotNext, .ivNext, .cntFrom, .estVal, .pgFell, .pgRose, .gateActAt, .phStart, .phStop,
     .railRegrid, .shedPendAt, .levCred, .engKept, .engDiv, .wvLoad, .scStep, .scFor, .fpN, .tsDone, .ltPer, .thGood, .tbOff,
     .tbErr, .tbAt], [.owner, .chan, .posted, .slotActs]⟩]
  | .stkStale .. =>
    [.event, .ends, ⟨[.THM_STATUS, .HUB_TCELL, .LEAF_THERM, .LEAF_STACK, .LEAF_TCELL], [], []⟩]
  | .absTrip .. | .coolantTrip .. | .stepTimeout .. =>
    [.flush, .record, .gates, ⟨[.HUB_PKG_STATE, .STR_CTX, .CRUST_STATUS, .CRUST_LATCH, .CRUST_LAST, .CRUST_RAIL, .CRUST_RAIL_UV,
     .HOST_STATUS, .IMG_STATUS, .CLK_CTRL, .CLK_STAT, .CLK_MON, .CLK_OSC, .CLK_TB, .LOOP_CTRL, .LOOP_CFG, .LOOP_SP,
     .LOOP_SP_MAX, .LOOP_OUT_LIM, .LOOP_INT_LIM, .LOOP_DEST, .LOOP_VAL, .LOOP_ERR, .LOOP_MANUAL, .LOOP_LATE, .LOOP_COUNT, .GT_A,
     .GT_B, .RAIL_STATE, .RAIL_VSEL, .RAIL_SYNC, .RAIL_SHED_STAT, .RAIL_PH, .PH_STAT, .TS_CTRL, .TS_VAL, .TS_THR, .TS_STAT,
     .TS_HYST, .DD_CTRL, .DD_MAP, .DD_CAL, .DD_THR, .DD_STAT, .NODE_ID, .NODE_STATUS, .LEAF_ID, .LEAF_EST_STATUS, .LEAF_EST,
     .LEAF_THETA_LO, .LEAF_THETA_HI, .LEAF_VREF, .LEAF_SHED, .LEAF_LSYNC, .LEAF_SYNC_STAT, .LEAF_SYNC_EPOCH, .LEAF_SYNC_WAIT,
     .LEAF_SYNC_LAST, .LEAF_SCORE, .LEAF_PROOF, .LEAF_CREDIT, .LEAF_THERM, .LEAF_THR_REQ, .LEAF_STACK, .LEAF_TCELL, .LEAF_BRAKE,
     .LEAF_CNT_LATCH], [.chAckSent, .chAckRcvd, .chHello, .chWhy, .chFence, .chFenceUp, .chFenceBad, .chFenceSeq, .islHeld,
     .islFields, .estSum, .estSlots, .estWin, .estGrp, .estThLo, .estThHi, .estThNew, .estThLoNew, .estLast, .estFresh, .ngE,
     .ngN, .ngRep, .ngSent, .kwPkg, .cySeen, .invBits, .nivLast, .gotAvg, .gotFast, .leafFrozen, .safeHold, .safeSil, .fxAcc,
     .fxLast, .slotsLast, .sgRows, .sgRowsLast, .sgE, .sgELast, .ecyc, .ecycLast, .ccyc, .ccycLast, .coreE, .coreELast, .shHold,
     .dropped, .restEnd, .winBud, .winLevel, .winSafe, .shedBud, .proofHold, .scoreCode, .coreSlot, .ccpQreq, .ccpQack,
     .ccpZero, .lpCommit, .lpNom, .lpDue, .lpE0, .fp, .smpBad, .needSent, .wtSent, .engStop, .cwAt, .gatePend, .scHold, .scRamp,
     .ddRun, .ddReq, .ddCalAt, .wvAt, .wvStat, .refAt, .slewAt, .pgFrom, .cycOn, .dwellFrom, .shedWait, .shedChk, .ovCnt,
     .uvCnt, .ocCnt, .cbcRun, .phPwm, .phPen, .phOffAt, .phCalDone, .sgOut, .lsSent, .lsTo, .lsEff, .islRel, .islAlive,
     .railPlan, .tbSet, .timeAt, .timeFwd, .muxAt, .muxSel, .clkQuiet, .clkCal, .clkRet, .pkgAt, .rampNow, .downNow, .downFor,
     .downWait, .tripAt, .tripN, .uvEnd, .resumeWait, .tsGood, .tsGoodAt, .tsPer, .tsEn, .tsShut, .tsLow, .stkFlag, .stkAt,
     .thFrom, .tpSum, .tpN, .tpPer, .repTemp, .repAt, .repFallback, .cwNum, .cntSel, .cnSum, .cnLeaf, .cnEnd, .cnSent, .pkgT,
     .imgCand, .failBody, .chFenceAt, .latPend, .estSlotAt, .chReason, .laneBulk, .tripLast, .gtNodeA, .gtNodeB, .lpHub,
     .slotNext, .ivNext, .cntFrom, .estVal, .pgFell, .pgRose, .gateActAt, .phStart, .phStop, .railRegrid, .shedPendAt, .levCred,
     .engKept, .engDiv, .wvLoad, .scStep, .scFor, .fpN, .tsDone, .ltPer, .thGood, .tbOff, .tbErr, .tbAt], [.owner, .chan,
     .posted, .slotActs]⟩]
  | .ocTrip .. | .ovTrip .. | .uvTrip .. =>
    [.sequence, .flush, .record, ⟨[.CRUST_LATCH, .CRUST_LAST, .CRUST_RAIL, .CRUST_RAIL_UV], [.tripAt, .tripN, .uvEnd, .resumeWait,
     .failBody, .tripLast], []⟩]
  | .uvHaltExpiry .. =>
    [.sequence, ⟨[], [.uvEnd], []⟩]
  | .brake .. =>
    [.event, .ends, ⟨[.CRUST_STATUS, .CRUST_LATCH, .LEAF_BRAKE], [], [.chan]⟩]
  | .leafBrake .. =>
    [.gates, ⟨[.LEAF_BRAKE], [], []⟩]
  | .brakeRelease .. =>
    [.ends, ⟨[.CRUST_STATUS, .LEAF_BRAKE], [], [.chan]⟩]
  | .crustLatchClear .. =>
    [.refused, ⟨[.CRUST_STATUS, .CRUST_LATCH], [], []⟩]
  | .clkFail .. =>
    [.flush, .record, .gates, ⟨[.HUB_PKG_STATE, .STR_CTX, .CRUST_STATUS, .CRUST_LATCH, .CRUST_LAST, .CRUST_RAIL, .CRUST_RAIL_UV,
     .HOST_STATUS, .IMG_STATUS, .CLK_CTRL, .CLK_STAT, .CLK_MON, .CLK_OSC, .CLK_TB, .LOOP_CTRL, .LOOP_CFG, .LOOP_SP,
     .LOOP_SP_MAX, .LOOP_OUT_LIM, .LOOP_INT_LIM, .LOOP_DEST, .LOOP_VAL, .LOOP_ERR, .LOOP_MANUAL, .LOOP_LATE, .LOOP_COUNT, .GT_A,
     .GT_B, .RAIL_STATE, .RAIL_VSEL, .RAIL_SYNC, .RAIL_SHED_STAT, .RAIL_PH, .PH_STAT, .TS_CTRL, .TS_VAL, .TS_THR, .TS_STAT,
     .TS_HYST, .DD_CTRL, .DD_MAP, .DD_CAL, .DD_THR, .DD_STAT, .NODE_ID, .NODE_STATUS, .LEAF_ID, .LEAF_EST_STATUS, .LEAF_EST,
     .LEAF_THETA_LO, .LEAF_THETA_HI, .LEAF_VREF, .LEAF_SHED, .LEAF_LSYNC, .LEAF_SYNC_STAT, .LEAF_SYNC_EPOCH, .LEAF_SYNC_WAIT,
     .LEAF_SYNC_LAST, .LEAF_SCORE, .LEAF_PROOF, .LEAF_CREDIT, .LEAF_THERM, .LEAF_THR_REQ, .LEAF_STACK, .LEAF_TCELL, .LEAF_BRAKE,
     .LEAF_CNT_LATCH], [.chAckSent, .chAckRcvd, .chHello, .chWhy, .chFence, .chFenceUp, .chFenceBad, .chFenceSeq, .islHeld,
     .islFields, .estSum, .estSlots, .estWin, .estGrp, .estThLo, .estThHi, .estThNew, .estThLoNew, .estLast, .estFresh, .ngE,
     .ngN, .ngRep, .ngSent, .kwPkg, .cySeen, .invBits, .nivLast, .gotAvg, .gotFast, .leafFrozen, .safeHold, .safeSil, .fxAcc,
     .fxLast, .slotsLast, .sgRows, .sgRowsLast, .sgE, .sgELast, .ecyc, .ecycLast, .ccyc, .ccycLast, .coreE, .coreELast, .shHold,
     .dropped, .restEnd, .winBud, .winLevel, .winSafe, .shedBud, .proofHold, .scoreCode, .coreSlot, .ccpQreq, .ccpQack,
     .ccpZero, .lpCommit, .lpNom, .lpDue, .lpE0, .fp, .smpBad, .needSent, .wtSent, .engStop, .cwAt, .gatePend, .scHold, .scRamp,
     .ddRun, .ddReq, .ddCalAt, .wvAt, .wvStat, .refAt, .slewAt, .pgFrom, .cycOn, .dwellFrom, .shedWait, .shedChk, .ovCnt,
     .uvCnt, .ocCnt, .cbcRun, .phPwm, .phPen, .phOffAt, .phCalDone, .sgOut, .lsSent, .lsTo, .lsEff, .islRel, .islAlive,
     .railPlan, .tbSet, .timeAt, .timeFwd, .muxAt, .muxSel, .clkQuiet, .clkCal, .clkRet, .pkgAt, .rampNow, .downNow, .downFor,
     .downWait, .tripAt, .tripN, .uvEnd, .resumeWait, .tsGood, .tsGoodAt, .tsPer, .tsEn, .tsShut, .tsLow, .stkFlag, .stkAt,
     .thFrom, .tpSum, .tpN, .tpPer, .repTemp, .repAt, .repFallback, .cwNum, .cntSel, .cnSum, .cnLeaf, .cnEnd, .cnSent, .pkgT,
     .imgCand, .failBody, .clkFailed, .chFenceAt, .latPend, .estSlotAt, .chReason, .laneBulk, .tripLast, .gtNodeA, .gtNodeB,
     .lpHub, .slotNext, .ivNext, .cntFrom, .estVal, .pgFell, .pgRose, .gateActAt, .phStart, .phStop, .phOnGrid, .phOfsFb,
     .railRegrid, .shedPendAt, .levCred, .engKept, .engDiv, .wvLoad, .scStep, .scFor, .fpN, .tsDone, .ltPer, .thGood, .tbOff,
     .tbErr, .tbAt], [.owner, .chan, .posted, .slotActs]⟩]
  | .quietPeriodEnd .. =>
    [⟨[], [.clkQuiet], []⟩]
  | .muxHung .. =>
    [.event, .ends, ⟨[.CLK_CTRL, .CLK_STAT, .RAIL_SYNC, .RAIL_SHED_STAT, .PH_STAT], [.dwellFrom, .shedWait, .shedChk, .clkQuiet,
     .clkRet, .phOnGrid, .phOfsFb, .railRegrid, .shedPendAt], []⟩]
  | .clkSel .. =>
    [.refused, ⟨[.CLK_CTRL, .CLK_STAT], [.muxAt, .muxSel], []⟩]
  | .recal .. =>
    [.refused, ⟨[], [.clkCal], []⟩]
  | .oscCalDone .. =>
    [.event, .ends, ⟨[.CLK_STAT, .CLK_MON, .CLK_OSC], [.clkCal], []⟩]
  | .clkReturn .. =>
    [.refused, ⟨[.HUB_CLK_CMD, .CLK_CTRL, .CLK_STAT], [.muxAt, .muxSel, .clkRet], []⟩]
  | .rstWarm .. | .testModeExit .. =>
    [.everything, ⟨[], [], [.owner, .image, .delta, .evt, .trc, .chan, .grants, .recs, .marks, .sync, .cur, .posted, .latch, .mir,
     .reqWait]⟩]
  | .islRst .. =>
    [.budgets, .gates, .refused, ⟨[.STR_CTX, .HOST_STATUS, .CLK_CTRL, .CLK_STAT, .CLK_MON, .CLK_OSC, .CLK_TB, .LOOP_CTRL, .LOOP_CFG,
     .LOOP_SP, .LOOP_SP_MAX, .LOOP_OUT_LIM, .LOOP_INT_LIM, .LOOP_DEST, .LOOP_VAL, .LOOP_ERR, .LOOP_MANUAL, .LOOP_STAT,
     .LOOP_LAT, .LOOP_LATE, .LOOP_COUNT, .GT_A, .GT_B, .RAIL_SHED_STAT, .TS_CTRL, .TS_VAL, .TS_THR, .TS_STAT, .TS_HYST,
     .DD_CTRL, .DD_MAP, .DD_CAL, .DD_THR, .DD_STAT, .NODE_ID, .NODE_STATUS, .LEAF_ID, .LEAF_EST_STATUS, .LEAF_EST,
     .LEAF_THETA_LO, .LEAF_THETA_HI, .LEAF_VREF, .LEAF_CONV, .LEAF_SHED, .LEAF_PART, .LEAF_LSYNC, .LEAF_SYNC_STAT,
     .LEAF_SYNC_EPOCH, .LEAF_SYNC_WAIT, .LEAF_SYNC_LAST, .LEAF_SCORE, .LEAF_PROOF, .LEAF_CREDIT, .LEAF_THERM, .LEAF_THR_REQ,
     .LEAF_STACK, .LEAF_TCELL, .LEAF_BRAKE, .LEAF_CNT_LATCH, .DXL_PORT_A, .DXL_PORT_C, .DXL_PORT_D], [.chAckSent, .chAckRcvd,
     .chHello, .chWhy, .chFence, .chFenceUp, .chFenceBad, .chFenceSeq, .islHeld, .islFields, .estSum, .estSlots, .estWin,
     .estGrp, .estThLo, .estThHi, .estThNew, .estThLoNew, .estLast, .estFresh, .ngE, .ngN, .ngRep, .ngSent, .nivLast, .gotAvg,
     .gotFast, .leafFrozen, .safeHold, .safeSil, .fxAcc, .fxLast, .slotsLast, .sgRows, .sgRowsLast, .sgE, .sgELast, .ecyc,
     .ecycLast, .ccyc, .ccycLast, .coreE, .coreELast, .shNum, .shDen, .shHold, .dropped, .restEnd, .winBud, .winLevel, .winSafe,
     .shedBud, .proofHold, .scoreCode, .coreSlot, .ccpQreq, .ccpQack, .ccpZero, .fixKeep, .appliedMw, .lpCommit, .lpNom, .lpDue,
     .lpE0, .fp, .smpBad, .needSent, .wtSent, .engStop, .cwAt, .gatePend, .scHold, .scRamp, .ddRun, .ddReq, .ddCalAt, .wvAt,
     .wvStat, .shedWait, .txLast, .sgOut, .txStop, .lsSent, .lsRecall, .lsTo, .lsEff, .islRst, .islRel, .islAlive, .tbSet,
     .timeAt, .timeFwd, .muxAt, .muxSel, .clkQuiet, .clkCal, .clkRet, .tsGood, .tsGoodAt, .tsPer, .tsEn, .tsShut, .tsLow,
     .stkFlag, .stkAt, .thFrom, .tpSum, .tpN, .tpPer, .repTemp, .repAt, .repFallback, .cwNum, .cntSel, .cnSum, .cnLeaf, .cnEnd,
     .cnSent, .chFenceAt, .latPend, .estSlotAt, .chReason, .laneBulk, .islPlan, .gtNodeA, .gtNodeB, .lpHub, .slotNext, .ivNext,
     .cntFrom, .estVal, .gateActAt, .levCred, .engKept, .engDiv, .wvLoad, .scStep, .scFor, .fpN, .tsDone, .ltPer, .thGood,
     .tbOff, .tbErr, .tbAt], [.chan, .posted, .slotActs, .free]⟩]
  | .islRstEnd .. =>
    [⟨[], [.islRst], []⟩]
  | .islandRelease .. =>
    [⟨[], [.islHeld, .islRel, .clkCal, .keyUp], []⟩]
  | .islNostart .. =>
    [.event, ⟨[], [.islRel], []⟩]
  | .testModeEntry .. =>
    [.refused, ⟨[], [.testOn], [.chan, .marks, .sync, .reqWait]⟩]
  | .sleepQuiesceDone .. =>
    [.gate, ⟨[], [.engStop], []⟩]
  | .ccpQack .. =>
    [⟨[], [.ccpQack, .ccpZero], []⟩]
  | .fmaxLag .. =>
    [.event, ⟨[.LEAF_CORE], [], []⟩]
  | .eventMsg .. =>
    [.event, .ends, ⟨[.HUB_CAPS, .STR_CTX, .HUB_SPLIT_A, .HUB_SPLIT_B, .HUB_SPLIT_C, .NODE_SPLIT_STAT, .NODE_SPLIT_A, .NODE_SPLIT_B,
     .NODE_SPLIT_C, .LEAF_GATE, .DXL_PORT_A, .DXL_PORT_C, .DXL_PORT_D], [.fp, .smpBad, .needSent, .wtSent, .txLast, .txStop,
     .lsSent, .lsRecall, .lsTo, .lsEff, .fpN], [.grants, .free]⟩]
  | .evcAck .. =>
    [.refused, ⟨[.EVC_ACK, .EVC_SRC_STATE], [], [.evt]⟩]
  | .evcEoi .. =>
    [.event, .refused, ⟨[.EVC_CTRL, .EVC_TSTAT], [.evtPg], []⟩]
  | .evcUnwind .. | .evcPopTo .. | .evcThaw .. =>
    [.refused, ⟨[.EVC_CTRL, .EVC_STATUS, .EVC_TSTAT, .EVC_GRP_A, .EVC_GRP_B, .EVC_SRC_STATE], [.evtPg], [.evt]⟩]
  | .setpend .. | .clrpend .. =>
    [.refused, ⟨[.EVC_GRP_A, .EVC_GRP_B, .EVC_SRC_STATE], [], []⟩]
  | .evcSrcCfgWrite .. =>
    [.refused, ⟨[.EVC_GRP_A, .EVC_SRC_CFG, .EVC_SRC_STATE], [], []⟩]
  | .prigroupWrite .. =>
    [.refused, ⟨[.EVC_CTRL], [], []⟩]
  | .evcGrpWrite .. =>
    [.refused, ⟨[.EVC_GRP_A, .EVC_SRC_STATE], [], []⟩]
  | .groupFire .. =>
    [⟨[.EVC_GRP_A, .EVC_SRC_STATE], [], []⟩]
  | .wakeTrigger .. =>
    [.flush, .record, .gates, ⟨[.HUB_PKG_STATE, .STR_CTX, .CRUST_STATUS, .CRUST_LATCH, .CRUST_LAST, .CRUST_RAIL, .CRUST_RAIL_UV,
     .HOST_STATUS, .IMG_STATUS, .EVC_WAKE, .CLK_CTRL, .CLK_STAT, .CLK_MON, .CLK_OSC, .CLK_TB, .LOOP_CTRL, .LOOP_CFG, .LOOP_SP,
     .LOOP_SP_MAX, .LOOP_OUT_LIM, .LOOP_INT_LIM, .LOOP_DEST, .LOOP_VAL, .LOOP_ERR, .LOOP_MANUAL, .LOOP_LATE, .LOOP_COUNT, .GT_A,
     .GT_B, .RAIL_STATE, .RAIL_VSEL, .RAIL_SYNC, .RAIL_SHED_STAT, .RAIL_PH, .PH_STAT, .TS_CTRL, .TS_VAL, .TS_THR, .TS_STAT,
     .TS_HYST, .DD_CTRL, .DD_MAP, .DD_CAL, .DD_THR, .DD_STAT, .NODE_ID, .NODE_STATUS, .LEAF_ID, .LEAF_EST_STATUS, .LEAF_EST,
     .LEAF_THETA_LO, .LEAF_THETA_HI, .LEAF_VREF, .LEAF_SHED, .LEAF_LSYNC, .LEAF_SYNC_STAT, .LEAF_SYNC_EPOCH, .LEAF_SYNC_WAIT,
     .LEAF_SYNC_LAST, .LEAF_SCORE, .LEAF_PROOF, .LEAF_CREDIT, .LEAF_THERM, .LEAF_THR_REQ, .LEAF_STACK, .LEAF_TCELL, .LEAF_BRAKE,
     .LEAF_CNT_LATCH], [.chAckSent, .chAckRcvd, .chHello, .chWhy, .chFence, .chFenceUp, .chFenceBad, .chFenceSeq, .islHeld,
     .islFields, .estSum, .estSlots, .estWin, .estGrp, .estThLo, .estThHi, .estThNew, .estThLoNew, .estLast, .estFresh, .ngE,
     .ngN, .ngRep, .ngSent, .kwPkg, .cySeen, .invBits, .nivLast, .gotAvg, .gotFast, .leafFrozen, .safeHold, .safeSil, .fxAcc,
     .fxLast, .slotsLast, .sgRows, .sgRowsLast, .sgE, .sgELast, .ecyc, .ecycLast, .ccyc, .ccycLast, .coreE, .coreELast, .shHold,
     .dropped, .restEnd, .winBud, .winLevel, .winSafe, .shedBud, .proofHold, .scoreCode, .coreSlot, .ccpQreq, .ccpQack,
     .ccpZero, .lpCommit, .lpNom, .lpDue, .lpE0, .fp, .smpBad, .needSent, .wtSent, .engStop, .cwAt, .gatePend, .scHold, .scRamp,
     .ddRun, .ddReq, .ddCalAt, .wvAt, .wvStat, .refAt, .slewAt, .measSum, .measN, .pgFrom, .cycOn, .dwellFrom, .shedWait,
     .shedChk, .ovCnt, .uvCnt, .ocCnt, .cbcRun, .phPwm, .phPen, .phOffAt, .phCalDone, .sgOut, .lsSent, .lsTo, .lsEff, .islRel,
     .islAlive, .railPlan, .tbSet, .timeAt, .timeFwd, .muxAt, .muxSel, .clkQuiet, .clkCal, .clkRet, .pkgAt, .rampNow, .rampAt,
     .rampFirst, .rampOn, .downNow, .downFor, .downWait, .tripAt, .tripN, .uvEnd, .resumeWait, .slowSlot, .tsGood, .tsGoodAt,
     .tsPer, .tsEn, .tsShut, .tsLow, .stkFlag, .stkAt, .thFrom, .tpSum, .tpN, .tpPer, .repTemp, .repAt, .repFallback, .cwNum,
     .cntSel, .cnSum, .cnLeaf, .cnEnd, .cnSent, .pkgT, .imgCand, .failBody, .chFenceAt, .latPend, .estSlotAt, .chReason,
     .laneBulk, .tripLast, .gtNodeA, .gtNodeB, .lpHub, .slotNext, .ivNext, .cntFrom, .estVal, .pgFell, .pgRose, .gateActAt,
     .phStart, .phStop, .railRegrid, .shedPendAt, .levCred, .engKept, .engDiv, .wvLoad, .scStep, .scFor, .fpN, .tsDone, .ltPer,
     .thGood, .tbOff, .tbErr, .tbAt], [.owner, .chan, .posted, .slotActs]⟩]
  | .linkUp .. | .authBackoffEnd .. =>
    [⟨[.DXL_STATUS, .DXL_PORT_A], [], []⟩]
  | .authDone .. =>
    [.budgets, ⟨[.SHP_STATUS, .LOOP_STAT, .LOOP_LAT, .RAIL_RISE, .LEAF_CONV, .LEAF_PART, .LEAF_GATE, .LEAF_CORE, .SYNC_OBJ_A,
     .DXL_STATUS, .DXL_TIME, .DXL_LEASE, .DXL_PORT_A, .DXL_PORT_B, .DXL_PORT_C, .DXL_PORT_D], [.shNum, .shDen, .fixKeep,
     .appliedMw, .leaseLent, .leaseBorrowed, .riseAt, .rxSeq, .rxLast, .txLast, .authAt, .rxKeyNew, .spAt, .obThat, .txStop,
     .lsRecall, .lsEnd, .tsT1, .tsFirst, .tsRem], [.sync, .cur, .free]⟩]
  | .dxlKeyUpdate .. =>
    [⟨[.DXL_PORT_A], [.rxSeq, .rxKeyNew], []⟩]
  | .dxlHeartbeat .. | .breakFrame .. | .timeSyncRequest .. | .failNotice .. | .reservedTypeFrame .. =>
    [.flush, ⟨[], [.rxSeq, .rxLast, .rxKeyNew], []⟩]
  | .arriveFrame .. | .releaseFrame .. =>
    [.flush, ⟨[.STR_STATUS, .STR_CTX, .SHP_CTRL, .SHP_LAST, .SHP_LAST_I, .STR_W2, .STR_W3, .STR_W4, .STR_W5, .RAIL_SHED_STAT,
     .RAIL_SHAPE_PRED, .PH_STAT], [.strLast, .strSaved, .visOpen, .vhPhase, .vhOpen, .needSent, .wtSent, .wLast, .dwellFrom,
     .shedWait, .shedChk, .rxSeq, .rxLast, .rxKeyNew, .spArr, .spNxt, .obRot, .obFirst, .obLastA, .obNFirst, .obNLast, .lsSent,
     .lsTo, .lsEff, .shedPendAt, .riseSlew], [.chan, .marks, .latch]⟩]
  | .leaseGrid .. =>
    [.frames, ⟨[.DXL_OFFER, .DXL_PORT_A, .DXL_PORT_C, .DXL_PORT_D], [.txLast, .txStop, .lsSent, .ofWant, .lsGrid, .lsRecall, .lsTo,
     .lsEff], []⟩]
  | .leaseOffer .. =>
    [.flush, ⟨[], [.rxSeq, .rxLast, .rxKeyNew, .ofSpare, .ofWant], []⟩]
  | .leaseDecision .. =>
    [.budgets, ⟨[.LOOP_STAT, .LOOP_LAT, .LEAF_CONV, .LEAF_PART, .LEAF_GATE, .LEAF_CORE, .DXL_LEASE, .DXL_PORT_A, .DXL_PORT_C,
     .DXL_PORT_D], [.shNum, .shDen, .fixKeep, .appliedMw, .leaseLent, .leaseBorrowed, .txLast, .txStop, .lsSent, .ofWant,
     .lsEnd], []⟩]
  | .leaseGrant .. =>
    [.flush, ⟨[], [.rxSeq, .rxLast, .rxKeyNew, .lsAcc], []⟩]
  | .leaseRecall .. =>
    [.flush, ⟨[], [.rxSeq, .rxLast, .rxKeyNew, .lsAcc, .lsTo, .lsEff], []⟩]
  | .leaseExpiry .. =>
    [.budgets, ⟨[.LOOP_STAT, .LOOP_LAT, .LEAF_CONV, .LEAF_PART, .LEAF_GATE, .LEAF_CORE, .DXL_LEASE, .DXL_PORT_C], [.shNum, .shDen,
     .fixKeep, .appliedMw, .leaseLent, .leaseBorrowed, .lsRecall], []⟩]
  | .recallEffect .. | .leaseGuardExpiry .. =>
    [.budgets, ⟨[.LOOP_STAT, .LOOP_LAT, .LEAF_CONV, .LEAF_PART, .LEAF_GATE, .LEAF_CORE, .DXL_LEASE, .DXL_PORT_C, .DXL_PORT_D],
     [.shNum, .shDen, .fixKeep, .appliedMw, .leaseLent, .leaseBorrowed, .lsRecall], []⟩]
  | .tsyncSend .. =>
    [.frames, ⟨[.DXL_PORT_A], [.txLast, .txStop, .tsT1, .tsAt], []⟩]
  | .timeSyncReply .. =>
    [.flush, ⟨[.DXL_TERR], [.rxSeq, .rxLast, .rxKeyNew, .tsRemAt], []⟩]
  | .mirrorHeartbeatMiss .. | .mirrorPortDown .. =>
    [.flush, ⟨[.MIR_STATUS], [.mirMiss], []⟩]
  | .hubOkLapse .. =>
    [.gates, .refused, ⟨[.CRUST_STATUS, .MIR_STATUS], [.phPwm, .phPen, .okLapse, .mirNoHub], [.chan, .marks, .sync, .reqWait]⟩]
  | .takeoverGrant .. =>
    [.everything, ⟨[], [], [.delta, .evt, .trc, .chan, .grants, .recs, .marks, .sync, .cur, .posted, .latch, .cert, .mir, .free,
     .reqWait]⟩]
  | .mirSwitch .. | .mirRejoin .. | .mirDetach .. =>
    [.flush, ⟨[.MIR_STATUS], [.kTheta, .kP, .ctxNj, .gNj, .hbStop, .mirMiss, .lazyAt, .wear, .ctxNj0], [.mir]⟩]
  | .bulkCopyDone .. =>
    [.event, ⟨[.MIR_STATUS], [.kTheta, .kP, .ctxNj, .gNj, .hbLast, .lazyAt, .wear, .ctxNj0], [.mir]⟩]
  | .lazyCopy .. =>
    [⟨[], [.kTheta, .kP, .ctxNj, .gNj, .lazyAt, .wear, .ctxNj0], [.mir]⟩]
  | .primarySwitch .. =>
    [.flush, ⟨[.MIR_STATUS], [.kTheta, .kP, .ctxNj, .gNj, .hbStop, .priDone, .mirMiss, .lazyAt, .wear, .ctxNj0], [.mir]⟩]
  | .leafCounterWindow .. =>
    [.gate, .ends, ⟨[], [.cwNum, .gateActAt], [.slotActs]⟩]
  | .counterMsg .. =>
    [.event, .ends, ⟨[.CNT_STATUS, .CNT_CTX, .CNT_UA], [.smpRows, .smpBud, .smpOth, .cnSum, .cnLeaf, .cnEnd, .cnSent], [.latch]⟩]
  | .counterSumTimeout .. =>
    [.ends, ⟨[], [.cnSum, .cnLeaf, .cnSent], []⟩]
  | .counterWindowComplete .. =>
    [⟨[.CNT_STATUS], [.smpDone], []⟩]
  | .latchStart .. | .latchEnd .. =>
    [.ends, .refused, ⟨[.LEAF_CNT_LATCH], [.latNum], [.chan, .marks, .latch]⟩]
  | .leafCntLatch .. =>
    [.gate, .ends, ⟨[], [.latPend, .gateActAt], [.slotActs]⟩]
  | .latchPointComplete .. =>
    [.event, .record, ⟨[.CTX_LATCH_STAT, .CTX_LSNAP], [], [.latch]⟩]
  | .telemetryWindow .. =>
    [.event, .record, ⟨[], [.telM, .telE, .telN, .telTrips, .telShaped, .telSlips, .telAt, .bgNext, .bgAt, .bgLate], [.free]⟩]
  | .recordWriteDone .. =>
    [.event, .record, ⟨[.REC_PERR, .REC_RING_B], [], [.trip]⟩]
  | .recRingEnable .. =>
    [.event, .record, .refused, ⟨[.REC_RING_B], [], []⟩]
  | .trcArm .. | .trcTrig .. | .trcFreeze .. | .trcOff .. | .trcDump .. =>
    [.event, .refused, ⟨[], [.dumpAt], []⟩]
  | .trcDumpDone .. =>
    [⟨[.TRC_STATUS], [], []⟩]
  | .traceStall .. =>
    [.event]
  | .trcFrameSent .. =>
    [.event, ⟨[], [.dumpAt], []⟩]
  | .facPkgCmd .. =>
    [.flush, .record, .gates, ⟨[.HUB_PKG_STATE, .HUB_MODE, .STR_CTX, .CRUST_STATUS, .CRUST_LATCH, .CRUST_LAST, .CRUST_RAIL,
     .CRUST_RAIL_UV, .HOST_STATUS, .FAC_STATUS, .IMG_STATUS, .EVC_WAKE, .CLK_CTRL, .CLK_STAT, .CLK_MON, .CLK_OSC, .CLK_TB,
     .LOOP_CTRL, .LOOP_CFG, .LOOP_SP, .LOOP_SP_MAX, .LOOP_OUT_LIM, .LOOP_INT_LIM, .LOOP_DEST, .LOOP_VAL, .LOOP_ERR,
     .LOOP_MANUAL, .LOOP_LATE, .LOOP_COUNT, .GT_A, .GT_B, .RAIL_STATE, .RAIL_VSEL, .RAIL_SYNC, .RAIL_SHED_STAT, .RAIL_PH,
     .PH_STAT, .TS_CTRL, .TS_VAL, .TS_THR, .TS_STAT, .TS_HYST, .DD_CTRL, .DD_MAP, .DD_CAL, .DD_THR, .DD_STAT, .NODE_ID,
     .NODE_STATUS, .LEAF_ID, .LEAF_EST_STATUS, .LEAF_EST, .LEAF_THETA_LO, .LEAF_THETA_HI, .LEAF_VREF, .LEAF_SHED, .LEAF_LSYNC,
     .LEAF_SYNC_STAT, .LEAF_SYNC_EPOCH, .LEAF_SYNC_WAIT, .LEAF_SYNC_LAST, .LEAF_SCORE, .LEAF_PROOF, .LEAF_CREDIT, .LEAF_THERM,
     .LEAF_THR_REQ, .LEAF_STACK, .LEAF_TCELL, .LEAF_BRAKE, .LEAF_CNT_LATCH], [.chAckSent, .chAckRcvd, .chHello, .chWhy,
     .chFence, .chFenceUp, .chFenceBad, .chFenceSeq, .islHeld, .islFields, .estSum, .estSlots, .estWin, .estGrp, .estThLo,
     .estThHi, .estThNew, .estThLoNew, .estLast, .estFresh, .ngE, .ngN, .ngRep, .ngSent, .kwPkg, .cySeen, .invBits, .nivLast,
     .gotAvg, .gotFast, .leafFrozen, .safeHold, .safeSil, .fxAcc, .fxLast, .slotsLast, .sgRows, .sgRowsLast, .sgE, .sgELast,
     .ecyc, .ecycLast, .ccyc, .ccycLast, .coreE, .coreELast, .shHold, .dropped, .restEnd, .winBud, .winLevel, .winSafe,
     .shedBud, .proofHold, .scoreCode, .coreSlot, .ccpQreq, .ccpQack, .ccpZero, .lpCommit, .lpNom, .lpDue, .lpE0, .fp, .smpBad,
     .needSent, .wtSent, .engStop, .cwAt, .gatePend, .scHold, .scRamp, .ddRun, .ddReq, .ddCalAt, .wvAt, .wvStat, .refAt,
     .slewAt, .measSum, .measN, .pgFrom, .cycOn, .dwellFrom, .shedWait, .shedChk, .ovCnt, .uvCnt, .ocCnt, .cbcRun, .phPwm,
     .phPen, .phOffAt, .phCalDone, .sgOut, .lsSent, .lsTo, .lsEff, .islRel, .islAlive, .railPlan, .tbSet, .timeAt, .timeFwd,
     .muxAt, .muxSel, .clkQuiet, .clkCal, .clkRet, .pkgAt, .rampNow, .rampAt, .rampFirst, .rampOn, .downNow, .downFor,
     .downWait, .tripAt, .tripN, .uvEnd, .holdOut, .resumeWait, .slowSlot, .tsGood, .tsGoodAt, .tsPer, .tsEn, .tsShut, .tsLow,
     .stkFlag, .stkAt, .thFrom, .tpSum, .tpN, .tpPer, .repTemp, .repAt, .repFallback, .cwNum, .cntSel, .cnSum, .cnLeaf, .cnEnd,
     .cnSent, .pkgT, .imgCand, .failBody, .chFenceAt, .latPend, .estSlotAt, .chReason, .laneBulk, .tripLast, .gtNodeA, .gtNodeB,
     .lpHub, .slotNext, .ivNext, .cntFrom, .estVal, .pgFell, .pgRose, .gateActAt, .phStart, .phStop, .railRegrid, .shedPendAt,
     .levCred, .engKept, .engDiv, .wvLoad, .scStep, .scFor, .fpN, .tsDone, .ltPer, .thGood, .tbOff, .tbErr, .tbAt], [.owner,
     .delta, .chan, .posted, .slotActs]⟩]
  | .facGetState .. | .facImgStatus .. | .facTrcRead .. | .facAlertClr .. | .facSignTrip .. | .setEndpointId .. | .getEndpointId
    .. | .getMctpVersionSupport .. | .getMessageTypeSupport .. | .getVendorDefinedMessageSupport .. | .getDigests .. |
    .getCertificate .. | .challenge .. | .spdmHeartbeat .. | .voutMode .. | .readVout .. | .readIout .. | .readPout .. |
    .mfrFacilityCapRead .. =>
    [.event, ⟨[.FAC_STATUS], [], []⟩]
  | .facReadReg .. =>
    [.event, .ends, ⟨[.FAC_STATUS, .EVC_ACK], [], [.chan]⟩]
  | .facImgOpen .. | .facImgCommit .. | .facImgAbort .. | .facCommitSvn .. =>
    [.event, ⟨[.FAC_STATUS, .IMG_STATUS, .IMG_WADDR], [.imgPtr], [.banks, .owner]⟩]
  | .facImgData .. =>
    [.event, ⟨[.FAC_STATUS, .IMG_WADDR], [.imgPtr], [.banks]⟩]
  | .facCertOpen .. | .facCertCommit .. =>
    [.event, ⟨[.FAC_STATUS, .ID_STATUS], [.certPtr], [.cert]⟩]
  | .facCertData .. =>
    [.event, ⟨[.FAC_STATUS], [.certPtr], [.cert]⟩]
  | .getVersion .. | .getCapabilities .. | .negotiateAlgorithms .. =>
    [.event, ⟨[.FAC_STATUS], [.spdmSt], []⟩]
  | .getMeasurements .. | .readTemperature1 .. =>
    [.event, ⟨[.FAC_STATUS], [], [.free]⟩]
  | .keyExchange .. =>
    [.event, ⟨[.FAC_STATUS], [.spdmSes, .spdmUpd], []⟩]
  | .finish .. | .endSession .. =>
    [.event, ⟨[.FAC_STATUS], [.spdmSes], []⟩]
  | .spdmKeyUpdate .. =>
    [.event, ⟨[.FAC_STATUS], [.spdmUpd], []⟩]
  | .pmbPage .. =>
    [.event, ⟨[.FAC_STATUS], [.facPage], []⟩]
  | .mfrFacilityCapWrite .. =>
    [.event, ⟨[.FAC_STATUS, .LOOP_SP, .DXL_PORT_A, .DXL_PORT_C, .DXL_PORT_D], [.txLast, .txStop, .lsSent, .lsRecall, .lsTo, .lsEff],
     []⟩]
  | .setdasa .. | .entdaa .. =>
    [⟨[.FAC_STATUS], [.ibiOn], []⟩]
  | .alertResponseAddress .. =>
    []
  | .facAlertSw .. =>
    [.refused, ⟨[.FAC_ALERT], [], []⟩]
  | .keygenDone .. =>
    [⟨[.ID_STATUS, .ID_PUBKEY], [.keyDue], [.mir]⟩]
  | .idCertOpen .. | .idCertCommit .. =>
    [.refused, ⟨[.ID_STATUS], [.certPtr], [.cert]⟩]
  | .idCertWdata .. =>
    [.refused, ⟨[], [.certPtr], [.cert]⟩]
  | .tripLapse .. =>
    [⟨[.HUB_PKG_STATE], [], []⟩]
  | .monGood .. =>
    [⟨[.CLK_STAT, .CLK_MON], [], [.free]⟩]
  | .muxSwitchComplete .. =>
    [.event, ⟨[.CLK_STAT, .RAIL_SYNC], [.clkCal, .clkRet, .clkFailed, .phOnGrid, .phOfsFb, .railRegrid], []⟩]
  | .mirrorHeartbeat .. =>
    [⟨[], [.hbLast], []⟩]
  | .perTickCopy .. =>
    [⟨[], [], [.mir]⟩]
  | .reservedTypeMessage .. =>
    [.event, .ends]

/-- The scope of a command. -/
def scopeOf (c : Instr) : Scope := Scope.join (Scope.table c)

end Sys2Proof.Machine
end

