-- ==== Sys2Proof/Safety.lean ====
section
/-!
DEFINITION. The terms that the statements use: what a command answers, the canonical form of every store, and what a command keeps.
-/
namespace Sys2Proof.Machine

/-- A command, run in a state, gives a next state of which Q holds. -/
def Answers (c : Instr) (s : State) (Q : State → Prop) : Prop :=
  ∃ u, exec c s = .next u ∧ Q u

/-- A register file in canonical form. -/
abbrev RegFile.wf (m : RegFile) : Prop := KMap.wf Reg.ctorIdx Reg.resetWord m = true

/-- A variable file in canonical form. -/
abbrev VarFile.wf (m : VarFile) : Prop := KMap.wf Var.ctorIdx Var.reset m = true

/-- The canonical form of every store of the state: the register and variable files, those that the other hub holds, the two
image banks and the certificate stores. -/
structure State.Canon (s : State) : Prop where
  regs : RegFile.wf s.regs
  vars : VarFile.wf s.vars
  bank0 : Mem.wf s.img.bank0.mem = true
  bank1 : Mem.wf s.img.bank1.mem = true
  cert : Mem.wf s.fac.cert = true
  tickRegs : RegFile.wf s.mir.tickRegs
  lazyRegs : RegFile.wf s.mir.lazyRegs
  lazyVars : VarFile.wf s.mir.lazyVars
  mirCert : Mem.wf s.mir.cert = true

/-- A state that the work of a command in another has reached: the queue is the same, and every store is in canonical form if it
was. -/
structure Keeps (z u : State) : Prop where
  pending : u.pending = z.pending
  canon : z.Canon → u.Canon

/-- What a part holds. -/
abbrev Part.Val : Part → Type
  | .banks => Bank × Bank
  | .owner => Option Port
  | .image => Option Image × List Item × BitVec 384
  | .delta => Option DeltaRun
  | .evt => Evt
  | .trc => Trc
  | .chan => ChanSt
  | .grants => List Grant × List Grant
  | .recs => List Rec × Option RecFly × List RingLoss
  | .marks => List HeldMark
  | .sync => List Watch × List (Watch × Nat) × List (Nat × List SyncOut) × List RiseReq
  | .cur => List SyncOut
  | .posted => List PostedWr
  | .latch => LatchSt
  | .slotActs => List (Nat × Act)
  | .cert => Mem
  | .trip => List Byte
  | .mir => MirSt
  | .free => Nat
  | .reqWait => List RegReq

/-- A part of a state. -/
def State.part (s : State) : (p : Part) → p.Val
  | .banks => (s.img.bank0, s.img.bank1)
  | .owner => s.img.owner
  | .image => (s.img.active, s.img.items, s.img.chain)
  | .delta => s.img.delta
  | .evt => s.evt
  | .trc => s.trc
  | .chan => s.chan
  | .grants => (s.grants, s.sentGrants)
  | .recs => (s.recs, s.recFly, s.ringLoss)
  | .marks => s.marks
  | .sync => (s.sync.watches, s.sync.claims, s.sync.held, s.sync.rise)
  | .cur => s.sync.cur
  | .posted => s.posted
  | .latch => s.latch
  | .slotActs => s.slotActs
  | .cert => s.fac.cert
  | .trip => s.fac.trip
  | .mir => s.mir
  | .free => s.free
  | .reqWait => s.reqWait

/-- The frame of a piece of work of some scope: what lies outside the scope is as it was. Hub time, the cycle's own W1C
sets, what a command sends and what waits to be sent are no part of it. -/
structure Frame (g : Scope) (s u : State) : Prop where
  regs : ∀ (r : Reg) (i j : Nat), r ∉ g.regs → u.reg r i j = s.reg r i j
  vars : ∀ (x : Var) (i j : Nat), x ∉ g.vars → u.v x i j = s.v x i j
  parts : ∀ p, p ∉ g.parts → u.part p = s.part p

/-- The scope of work that changes nothing. -/
def Scope.none : Scope := ⟨[], [], []⟩

/-- What a port is told: the answer of a request, with its data. On the register port the answer of a change that a mirror must hold
first waits for the mirror's confirmation (16 R481). A posted write has been answered before (18 R539). -/
def Told (p : Port) (st : Status) (w : Word) (u : State) : Prop :=
  match p with
  | .reg _ _ => Out.rsp p st w ∈ u.out ∨ ∃ x ∈ u.ansHeld, x.time = u.time ∧ x.port = p ∧ x.st = st ∧ x.data = w
  | .posted _ _ => True
  | .fac => Out.rsp p st w ∈ u.out

/-- The hub takes a command of a port: it runs, and the port has the privileged window (00 R22). -/
def Takes (s : State) (p : Port) : Prop := s.hubUp = true ∧ p.priv = true

end Sys2Proof.Machine
end

