-- ==== Sys2Proof/Machine/Terms.lean ====
section
/-!
DEFINITION. More terms of the statements: which register a command of a port writes, and when a message, a frame or a request of the
facility port is taken.
-/
namespace Sys2Proof.Machine

/-- A write of a command register: the port, and the register with its instance. -/
structure CmdWrite where
  port : Port
  reg : Reg
  i : Nat
  j : Nat
deriving DecidableEq, Repr

/-- The command register that a command writes outside the context pages (00 R22; 19 R568); none for every other command. -/
def cmdWrite : Instr → Option CmdWrite
  | .pkgCmdNone _ p => some ⟨p, .HUB_PKG_CMD, 0, 0⟩
  | .pkgHold _ p => some ⟨p, .HUB_PKG_CMD, 0, 0⟩
  | .pkgResume _ p => some ⟨p, .HUB_PKG_CMD, 0, 0⟩
  | .pkgSleep _ p => some ⟨p, .HUB_PKG_CMD, 0, 0⟩
  | .pkgDeepSleep _ p => some ⟨p, .HUB_PKG_CMD, 0, 0⟩
  | .pkgWake _ p => some ⟨p, .HUB_PKG_CMD, 0, 0⟩
  | .pkgRecover _ p => some ⟨p, .HUB_PKG_CMD, 0, 0⟩
  | .pkgFail _ p => some ⟨p, .HUB_PKG_CMD, 0, 0⟩
  | .pkgResetToAon _ p => some ⟨p, .HUB_PKG_CMD, 0, 0⟩
  | .ldrOpen _ p => some ⟨p, .IMG_CTRL, 0, 0⟩
  | .ldrCommit _ p => some ⟨p, .IMG_CTRL, 0, 0⟩
  | .ldrAbort _ p => some ⟨p, .IMG_CTRL, 0, 0⟩
  | .commitSvn _ p => some ⟨p, .IMG_CTRL, 0, 0⟩
  | .imgWaddr _ p _ => some ⟨p, .IMG_WADDR, 0, 0⟩
  | .imgWdata _ p _ _ => some ⟨p, .IMG_WDATA, 0, 0⟩
  | .kneadReset _ p r _ => some ⟨p, .RAIL_KNEAD, r, 0⟩
  | .loopOpen _ p l => some ⟨p, .LOOP_CTRL, l, 0⟩
  | .loopClose _ p l => some ⟨p, .LOOP_CTRL, l, 0⟩
  | .hubModeReq _ p _ => some ⟨p, .HUB_MODE, 0, 0⟩
  | .invSlot _ p _ => some ⟨p, .STR_CMD, 0, 0⟩
  | .invEntry _ p _ _ => some ⟨p, .STR_CMD, 0, 0⟩
  | .ddCalReq _ p d => some ⟨p, .DD_CTRL, d, 0⟩
  | .railVselWrite _ p r _ => some ⟨p, .RAIL_VSEL, r, 0⟩
  | .railVslotWrite _ p r k _ => some ⟨p, .RAIL_VSLOT, r, (k % 8)⟩
  | .clrFault _ p ph _ => some ⟨p, .PH_CTRL, ph, 0⟩
  | .phCalReq _ p ph => some ⟨p, .PH_CTRL, ph, 0⟩
  | .calRst _ p n => some ⟨p, .TS_CTRL, n, 0⟩
  | .crustLatchClear _ p _ _ => some ⟨p, .CRUST_LATCH, 0, 0⟩
  | .clkSel _ p u _ => some ⟨p, .CLK_CTRL, u, 0⟩
  | .recal _ p u => some ⟨p, .CLK_CTRL, u, 0⟩
  | .clkReturn _ p => some ⟨p, .HUB_CLK_CMD, 0, 0⟩
  | .rstWarm _ p => some ⟨p, .RST_CMD, 0, 0⟩
  | .islRst _ p _ => some ⟨p, .RST_CMD, 0, 0⟩
  | .evcEoi _ p k _ => some ⟨p, .EVC_EOI, k, 0⟩
  | .evcUnwind _ p k => some ⟨p, .EVC_RECOVER, k, 0⟩
  | .evcPopTo _ p k _ => some ⟨p, .EVC_RECOVER, k, 0⟩
  | .evcThaw _ p k => some ⟨p, .EVC_RECOVER, k, 0⟩
  | .setpend _ p k => some ⟨p, .EVC_SRC_STATE, k, 0⟩
  | .clrpend _ p k => some ⟨p, .EVC_SRC_STATE, k, 0⟩
  | .evcSrcCfgWrite _ p k _ => some ⟨p, .EVC_SRC_CFG, k, 0⟩
  | .prigroupWrite _ p _ => some ⟨p, .EVC_CTRL, 0, 0⟩
  | .evcGrpWrite _ p g _ _ => some ⟨p, .EVC_GRP_A, g, 0⟩
  | .mirSwitch _ p => some ⟨p, .MIR_CMD, 0, 0⟩
  | .mirRejoin _ p => some ⟨p, .MIR_CMD, 0, 0⟩
  | .mirDetach _ p => some ⟨p, .MIR_CMD, 0, 0⟩
  | .recRingEnable _ p n _ _ _ => some ⟨p, .REC_RING_A, n, 0⟩
  | .trcArm _ p => some ⟨p, .TRC_CTRL, 0, 0⟩
  | .trcTrig _ p => some ⟨p, .TRC_CTRL, 0, 0⟩
  | .trcFreeze _ p => some ⟨p, .TRC_CTRL, 0, 0⟩
  | .trcOff _ p => some ⟨p, .TRC_CTRL, 0, 0⟩
  | .trcDump _ p => some ⟨p, .TRC_CTRL, 0, 0⟩
  | .facAlertSw _ p => some ⟨p, .FAC_ALERT, 0, 0⟩
  | .idCertOpen _ p => some ⟨p, .ID_CERT_CTRL, 0, 0⟩
  | .idCertWdata _ p _ => some ⟨p, .ID_CERT_WDATA, 0, 0⟩
  | .idCertCommit _ p _ => some ⟨p, .ID_CERT_CTRL, 0, 0⟩
  | _ => none

/-- The command of a port for a code of HUB_PKG_CMD (01, HUB_PKG_CMD); none for a reserved code. -/
def pkgRow (k t : Nat) (p : Port) : Option Instr :=
  [Instr.pkgCmdNone t p, .pkgHold t p, .pkgResume t p, .pkgSleep t p, .pkgDeepSleep t p, .pkgWake t p, .pkgRecover t p, .pkgFail t p,
    .pkgResetToAon t p][k]?

/-- Whether a code of HUB_PKG_CMD is listed for the present state (01 R40, R46, R47; 12 R378). -/
def State.pkgListed (s : State) (k : Nat) : Bool :=
  k = 0 || s.v .downFor ≠ 1 && match k with
    | 1 => s.pkg = Pkg.run
    | 2 => s.pkg = Pkg.hold
    | 3 => s.pkg = Pkg.run
    | 4 => s.pkg = Pkg.run
    | 5 => s.pkg = Pkg.sleep || s.pkg = Pkg.deepSleep
    | 6 => s.pkg = Pkg.tripped && s.recoverOk
    | 7 => s.pkg = Pkg.run || s.pkg = Pkg.hold || s.pkg = Pkg.tripped
    | 8 => s.pkg = Pkg.hold || s.pkg = Pkg.tripped || s.pkg = Pkg.fail
    | _ => false

/-- The facility port takes a message (18 R552, R553, R556): the hub runs, no READ_REG is in progress, the PEC verifies, the type is
supported, and in a session the MAC verifies. -/
abbrev FacOk (s : State) (m : FacMsg) : Prop :=
  s.hubUp = true ∧ s.facBusy = false ∧ m.pecOk = true ∧ [0x00, 0x05, 0x7F].contains m.typ = true
    ∧ (match m.ses with | some k => m.macOk && Nat.beq (s.sesSt k) 2 | none => true) = true

/-- A link port takes a frame (15 R448): it is UP or in PFAIL, the MAC verifies under a key in use, the sequence number is the
expected one, and the source is the peer. -/
abbrev LinkOk (s : State) (h : FrameHdr) : Prop :=
  (s.portSt h.port = Lk.up ∨ s.portSt h.port = Lk.pfail) ∧ h.macOk = true
    ∧ (h.keyid = s.rd F.DXL_PORT_A_KEYID h.port ∨ h.keyid < 2 ∧ s.v .rxKeyNew h.port = 0)
    ∧ h.seq = s.vn .rxSeq h.port h.keyid ∧ h.src = s.peerId h.port

/-- The sync unit performs an operation of a port at once (08 R231 to R236, R246): the hub runs, the port may ask for it, the object
exists, R236 gives the operation no other status, nothing of an earlier operation waits to be sent, and no mirror has to confirm. -/
abbrev SyncTakes (s : State) (p : Port) (page : Option Nat) (op obj o a0 a1 a2 : Nat) : Prop :=
  s.hubUp = true ∧ (page = none → p.priv = true) ∧ (page ≠ none → op ≠ 0x10 ∧ op ≠ 0x11) ∧ s.portObj page obj = some o
    ∧ s.opStatus false op o (a0 % 65536) (a1 % 65536) (a2 % 256) true (portWaiter page op (a0 % 65536) (a2 % 256)) = .ok ∧ s.sync.cur = [] ∧ s.mirrorOn = false

end Sys2Proof.Machine
end

