-- ==== Sys2Proof/Certificates/Slice0/Obligations.lean ====
section
/-!
DEFINITION. The statements for the provers. Each says in its comment what it states; OBLIGATIONS.json gives the rules it rests on.
-/
open Sys2Proof Sys2Proof.Machine

/-- For every state, command and rest of a queue: a step of the state with that command in front of that rest is exec of the command
on the state with the rest as its queue. On an empty queue a step is the block's own work: each lane sends its next message and
the accepted writes that may begin do; where nothing waits to be sent and no write waits, it answers the same state (the model's
choice, log entry 1). -/
def Obligations.StepRunsTheFrontCommand : Prop :=
  (∀ (s : State) (c : Instr) (rest : List Instr), step { s with pending := c :: rest } = exec c { s with pending := rest })
    ∧ (∀ s : State, s.pending = [] → step s = .next s.idle)
    ∧ ∀ s : State, s.pending = [] → s.lanes = [] → s.reqWait = [] → step s = .next s

/-- For every command and state, exec answers a next state, never a fault or a refusal, and leaves the queue of waiting commands as
it is. So a step takes exactly the front command off the queue. -/
def Obligations.EveryCommandRuns : Prop :=
  (∀ (c : Instr) (s : State), Answers c s fun u => u.pending = s.pending)
    ∧ ∀ (s u : State) (c : Instr) (rest : List Instr), s.pending = c :: rest → step s = .next u → u.pending = rest

/-- Every store of the state after reset (register and variable files, image banks, certificate stores, what the other hub holds) is
in canonical form. -/
def Obligations.ResetIsCanonical : Prop :=
  State.reset.Canon

/-- From every state whose stores are in canonical form (addresses and keys strictly rising, no entry equal to what an unlisted one
reads as), whatever command stands at the front of the queue, a step gives a state whose stores are in canonical form. -/
def Obligations.EveryStepKeepsTheCanonicalForm : Prop :=
  ∀ s u : State, s.Canon → step s = .next u → u.Canon

/-- For every command, scopeOf names the registers, the hidden variables and the stores and tables that it may change. Whatever the
state, after the command every other register, every other variable and every other store reads as before. -/
def Obligations.EveryCommandKeepsItsFrame : Prop :=
  ∀ (c : Instr) (s u : State), exec c s = .next u → Frame (scopeOf c) s u

/-- For every command that writes a command register outside the context pages, on a port without the privileged window while the
hub runs: the command is answered E_PRIV and has no effect but the record of the answered error in HOST_ERR. A command is one of
55 rows of the table, and cmdWrite names the port and the register of each. -/
def Obligations.CommandsNeedThePrivilegedWindow : Prop :=
  ∀ (c : Instr) (w : CmdWrite) (s : State), cmdWrite c = some w → s.hubUp = true → w.port.priv = false →
    Answers c s fun u => Told w.port .ePriv 0 u ∧ Frame Scope.refused s u

/-- For every command that writes a command register outside the context pages while no hub runs (OFF, a test mode, both hubs
stopped): a request of the register port is answered E_ABSENT, a request of the facility port is not acknowledged, and nothing
in the state changes. -/
def Obligations.CommandsWhileNoHubRuns : Prop :=
  ∀ (c : Instr) (w : CmdWrite) (s : State), cmdWrite c = some w → s.hubUp = false →
    Answers c s fun u => (∀ k q, w.port = .reg k q → Out.rsp w.port .eAbsent 0 ∈ u.out)
      ∧ (w.port = .fac → Out.nack ∈ u.out) ∧ Frame Scope.none s u

/-- On a port with the privileged window, while the hub runs and neither a RESET_TO_AON nor a loader hold is in progress: HOLD in
RUN enters HOLD; RESUME in HOLD enters RUN; SLEEP and DEEP_SLEEP in RUN enter their states, or, with an enabled wake source
pending, stay in RUN with ABORTED set; WAKE in SLEEP enters RUN, and in DEEP_SLEEP with no latched stopping cause RAMP, which
may already have reached RUN; RECOVER in TRIPPED, where it is accepted, likewise (said for no rail halted, from which HALT_CLEAR
changes nothing); FAIL in RUN, HOLD and TRIPPED enters FAIL with CRUST_STOP asserted; RESET_TO_AON in HOLD, TRIPPED and FAIL
begins the ramp-down, or has already reached AON or the VERIFY that follows it. Each is answered OK, and an entry by command
shows CAUSE 5. During a loader hold a listed command other than RESET_TO_AON is answered OK and waits for the hold's end (log
entry 132). CMD 0 is accepted in every state and changes nothing. It says where these commands complete: pkgCmdNone, pkgHold,
pkgResume, pkgSleep, pkgDeepSleep, pkgWake, pkgRecover, pkgFail, pkgResetToAon. -/
def Obligations.PackageCommandsEnterTheirStates : Prop :=
  (∀ (s : State) (t : Nat) (p : Port), Takes s p →
    Answers (.pkgCmdNone t p) s fun u => Told p .ok 0 u ∧ Frame Scope.none s u)
  ∧ (∀ (s : State) (t : Nat) (p : Port), Takes s p → s.v .downFor ≠ 1 → s.img.delta = none →
    (s.pkg = Pkg.run → Answers (.pkgHold t p) s fun u => Told p .ok 0 u ∧ u.pkg = Pkg.hold
      ∧ u.rd F.HUB_PKG_STATE_PREV = Pkg.run ∧ u.rd F.HUB_PKG_STATE_CAUSE = 5)
    ∧ (s.pkg = Pkg.hold → Answers (.pkgResume t p) s fun u => Told p .ok 0 u ∧ u.pkg = Pkg.run
      ∧ u.rd F.HUB_PKG_STATE_PREV = Pkg.hold ∧ u.rd F.HUB_PKG_STATE_CAUSE = 5)
    ∧ (s.pkg = Pkg.run → s.wakes = [] → Answers (.pkgSleep t p) s fun u => Told p .ok 0 u ∧ u.pkg = Pkg.sleep
      ∧ u.rd F.HUB_PKG_STATE_CAUSE = 5)
    ∧ (s.pkg = Pkg.run → s.wakes = [] → Answers (.pkgDeepSleep t p) s fun u => Told p .ok 0 u ∧ u.pkg = Pkg.deepSleep
      ∧ u.rd F.HUB_PKG_STATE_CAUSE = 5)
    ∧ (s.pkg = Pkg.run → s.wakes ≠ [] → Answers (.pkgSleep t p) s fun u => Told p .ok 0 u ∧ u.pkg = Pkg.run
      ∧ u.rd F.HUB_PKG_STATE_ABORTED = 1)
    ∧ (s.pkg = Pkg.run → s.wakes ≠ [] → Answers (.pkgDeepSleep t p) s fun u => Told p .ok 0 u ∧ u.pkg = Pkg.run
      ∧ u.rd F.HUB_PKG_STATE_ABORTED = 1)
    ∧ (s.pkg = Pkg.sleep → Answers (.pkgWake t p) s fun u => Told p .ok 0 u ∧ u.pkg = Pkg.run
      ∧ u.rd F.HUB_PKG_STATE_CAUSE = 5)
    ∧ (s.pkg = Pkg.deepSleep → s.stopLatched = [] → s.is F.CLK_STAT_ON_OSC 0 = false →
      Answers (.pkgWake t p) s fun u => Told p .ok 0 u ∧ (u.pkg = Pkg.ramp ∨ u.pkg = Pkg.run))
    ∧ (s.pkg = Pkg.tripped → (s.start t).recoverOk = true → s.is F.CLK_STAT_ON_OSC 0 = false →
      (∀ r, r ∈ s.railNums → s.railSt r ≠ Rs.halt) → Answers (.pkgRecover t p) s fun u => Told p .ok 0 u ∧ (u.pkg = Pkg.ramp ∨ u.pkg = Pkg.run))
    ∧ (s.pkg = Pkg.run ∨ s.pkg = Pkg.hold ∨ s.pkg = Pkg.tripped → Answers (.pkgFail t p) s fun u => Told p .ok 0 u
      ∧ u.pkg = Pkg.fail ∧ u.rd F.HUB_PKG_STATE_CAUSE = 5 ∧ u.rd F.CRUST_STATUS_STOP = 1)
    ∧ (s.pkg = Pkg.hold ∨ s.pkg = Pkg.tripped ∨ s.pkg = Pkg.fail → Answers (.pkgResetToAon t p) s fun u => Told p .ok 0 u
      ∧ (u.v .downFor = 1 ∨ u.pkg = Pkg.aon ∨ u.pkg = Pkg.verify)))
  ∧ (∀ (s : State) (t k : Nat) (p : Port) (c : Instr), Takes s p → pkgRow k t p = some c → 0 < k → k ≠ 8 → s.img.delta ≠ none →
    (s.start t).pkgListed k = true →
    Answers c s fun u => Told p .ok 0 u ∧ u.pkg = s.pkg ∧ u.v .resumeWait = 16 * s.v .resumeWait + k ∧ Frame ⟨[], [.resumeWait], []⟩ s u)

/-- A package command that is not listed for the present state, sent through HUB_PKG_CMD or as the facility port's vendor command,
and a reserved command code, sent as the vendor command, is answered E_RANGE; BADCMD is set, and nothing else changes but the
record of the answered error. From the acceptance of RESET_TO_AON until AON, every command other than CMD 0 is rejected so. It
says where this command completes: facPkgCmd. -/
def Obligations.UnlistedPackageCommandsAreRejected : Prop :=
  (∀ (s : State) (t k : Nat) (p : Port) (c : Instr), Takes s p → pkgRow k t p = some c → (s.start t).pkgListed k = false →
    Answers c s fun u => Told p .eRange 0 u ∧ u.pkg = s.pkg ∧ u.rd F.HUB_PKG_STATE_BADCMD = 1
      ∧ Frame ⟨[.HUB_PKG_STATE, .HOST_ERR_A, .HOST_ERR_B], [], []⟩ s u)
  ∧ (∀ (s : State) (t k tag : Nat) (m : FacMsg), FacOk s m → k < 16 → (s.start t).pkgListed k = false →
    Answers (.facPkgCmd t m tag k) s fun u => Out.fac [1, BitVec.ofNat 8 tag, 5] ∈ u.out ∧ u.pkg = s.pkg
      ∧ u.rd F.HUB_PKG_STATE_BADCMD = 1 ∧ Frame ⟨[.HUB_PKG_STATE], [], []⟩ s u)
  ∧ (∀ (s : State) (k : Nat), 9 ≤ k → s.pkgListed k = false)
  ∧ (∀ (s : State) (k : Nat), 0 < k → s.v .downFor = 1 → s.pkgListed k = false)

/-- HOLD_TIMEOUT, when HOLD_MAX has passed in HOLD, sets the flag, applies SAFE at every leaf that holds its image fields, and
leaves the package in HOLD. A trip that lapses leaves TRIPCOUNT at the trips still in the window. When the queue of writes to
islands has drained, a waiting ramp-down goes on. STEP_TIMEOUT, when a rail of RAMP's step has not completed in time, trips
CRUST with class UV. RAMP_STEP_START sends SEQ_ON to every rail of RAMP's step that is due it, unless the step is complete
already. It says where these commands complete: holdTimeout, tripLapse, queueDrainDone, stepTimeout, rampStepStart. -/
def Obligations.PackageTimersActAtTheirTime : Prop :=
  (∀ (s : State) (t : Nat), s.pkg = Pkg.hold → s.v .holdOut = 0 → s.vn .pkgAt + 1000000 * s.tim 7 0 4 100 ≤ max s.time t →
    Answers (.holdTimeout t) s fun u => u.pkg = Pkg.hold ∧ u.rd F.HUB_PKG_STATE_HOLD_TIMEOUT = 1
      ∧ ∀ l, l ∈ s.liveLeaves → u.v .safeHold l = 1)
  ∧ (∀ (s : State) (t : Nat), Answers (.tripLapse t) s fun u =>
      u.rd F.HUB_PKG_STATE_TRIPCOUNT = min 255 (s.start t).tripsIn.length ∧ u.pkg = s.pkg)
  ∧ (∀ (s : State) (t : Nat), s.pkg ≠ Pkg.ramp → (s.v .downFor = 1 ∨ s.v .downFor = 2) → s.v .downWait = 1 → s.drainDone = true →
    Answers (.queueDrainDone t) s fun u => u.v .downWait ≠ 1)
  ∧ (∀ (s : State) (t : Nat) (x : RailRec), s.pkg = Pkg.ramp → 0 ≤ s.v .rampNow → x ∈ s.rampStepRails → s.rampOk x = false →
      s.stepStart x + 1000000 * s.tim 0x20 0 2 10 ≤ (max s.time t : Nat) →
    Answers (.stepTimeout t) s fun u => u.rd F.CRUST_STATUS_STOP = 1 ∧ (u.pkg = Pkg.tripped ∨ u.pkg = Pkg.fail))
  ∧ (∀ (s : State) (t : Nat) (x : RailRec), s.pkg = Pkg.ramp → x ∈ s.rampStepRails → x.monitored = false → s.railSt x.rail ≠ Rs.on →
      s.v .rampOn x.rail < 0 → (s.start t).seqDue x ≤ (max s.time t : Nat) →
    Answers (.rampStepStart t) s fun u => 0 ≤ u.v .rampOn x.rail ∨ u.v .rampNow ≠ s.v .rampNow)

/-- A wake entry that triggers in SLEEP is SEEN and the package is in RUN with CAUSE 6; one that triggers in DEEP_SLEEP, not IGNORED
and with no stopping cause latched, is SEEN and the package is in RAMP, or has already reached RUN. In SLEEP and FAIL a quiesced
leaf stops its engine branches; a core that acknowledges stands at FMAX code 0; a core above its FMAX for longer than tFDN
counts as an invalid ageing report. It says where these commands complete: wakeTrigger, sleepQuiesceDone, ccpQack, fmaxLag. -/
def Obligations.SleepQuiescesAndWakes : Prop :=
  (∀ (s : State) (t k : Nat), s.pkg = Pkg.sleep → k ≤ 31 → s.wakeOn k = true → Answers (.wakeTrigger t k) s fun u =>
      u.rd F.EVC_WAKE_SEEN k = 1 ∧ u.pkg = Pkg.run ∧ u.rd F.HUB_PKG_STATE_CAUSE = 6)
  ∧ (∀ (s : State) (t k : Nat), s.pkg = Pkg.deepSleep → k ≤ 31 → s.wakeOn k = true → s.is F.EVC_WAKE_IGNORED k = false →
      s.stopLatched = [] → s.is F.CLK_STAT_ON_OSC 0 = false → Answers (.wakeTrigger t k) s fun u =>
      u.rd F.EVC_WAKE_SEEN k = 1 ∧ (u.pkg = Pkg.ramp ∨ u.pkg = Pkg.run))
  ∧ (∀ (s : State) (t l : Nat), (s.pkg = Pkg.sleep ∨ s.pkg = Pkg.fail) → l ∈ s.leaves →
      Answers (.sleepQuiesceDone t l) s fun u => u.v .engStop l = 1 ∧ u.pkg = s.pkg)
  ∧ (∀ (s : State) (t l p : Nat), p ∈ s.cores l → s.v .ccpQreq l p = 1 →
      Answers (.ccpQack t l p) s fun u => u.v .ccpQack l p = 1 ∧ u.v .ccpZero l p = 1)
  ∧ (∀ (s : State) (t l p : Nat), p ∈ s.cores l → Answers (.fmaxLag t l p) s fun u => u.rd F.LEAF_CORE_AGE_INVALID l p = 1)

/-- Loss of the always-on supply, in every state, goes to OFF: no hub runs, the image store is empty, and every register but the
fused SVN, the package state and CRUST_STATUS is at its reset value. The end of the power-on reset, in OFF, goes to AON with the
hub's oscillator calibrated from its count and the time base at 0. WARM in AON is answered OK and restarts the hub: LAST 1,
CRUST_STOP asserted, AON or the VERIFY of its candidate; in other states it is rejected with E_RANGE. The test mode starts in
AON and holds the hub in reset; its end is a warm reset with LAST 2. It says where these commands complete: aonSupplyLoss,
powerOnResetEnd, rstWarm, testModeEntry, testModeExit. -/
def Obligations.ResetsOfTheHub : Prop :=
  (∀ (s : State) (t : Nat), Answers (.aonSupplyLoss t) s fun u => u.pkg = Pkg.off ∧ u.hubUp = false ∧ u.img = ImgSt.empty
      ∧ ∀ (r : Reg) (i j : Nat), r ≠ .HUB_PKG_STATE → r ≠ .CRUST_STATUS → r ≠ .IMG_FUSE → u.reg r i j = State.reset.reg r i j)
  ∧ (∀ (s : State) (t n : Nat), s.pkg = Pkg.off → 2400 ≤ n → n ≤ 4000 → Answers (.powerOnResetEnd t n) s fun u =>
      u.pkg = Pkg.aon ∧ u.time = 0 ∧ u.rd F.CLK_OSC_CAL_VALID 0 = 1 ∧ u.rd F.CLK_OSC_OSC_KHZ 0 = n * 50)
  ∧ (∀ (s : State) (t : Nat) (p : Port), Takes s p → s.pkg = Pkg.aon → Answers (.rstWarm t p) s fun u =>
      Told p .ok 0 u ∧ u.rd F.RST_STATUS_LAST = 1 ∧ u.rd F.CRUST_STATUS_STOP = 1 ∧ (u.pkg = Pkg.aon ∨ u.pkg = Pkg.verify))
  ∧ (∀ (s : State) (t : Nat) (p : Port), Takes s p → s.pkg ≠ Pkg.aon → Answers (.rstWarm t p) s fun u =>
      Told p .eRange 0 u ∧ Frame Scope.refused s u)
  ∧ (∀ (s : State) (t : Nat), s.pkg = Pkg.aon → s.v .testOn = 0 → Answers (.testModeEntry t) s fun u =>
      u.v .testOn = 1 ∧ u.hubUp = false ∧ u.pkg = Pkg.aon)
  ∧ (∀ (s : State) (t : Nat), s.v .testOn = 1 → s.pkg = Pkg.aon → Answers (.testModeExit t) s fun u =>
      u.v .testOn = 0 ∧ u.rd F.RST_STATUS_LAST = 2 ∧ (u.pkg = Pkg.aon ∨ u.pkg = Pkg.verify))

/-- ISL_RST of an island of the image in HOLD, TRIPPED or FAIL is answered OK and stands planned until its writes have drained and
its channel is fenced; where nothing is queued, its branch's channel is down and no other reset is planned, the cause of reset
stands at once and the island is in reset; in other states, or of the hub, it is rejected with E_RANGE, and of an island that is
absent with E_ABSENT. When tIRST has passed the cause ends. An island whose causes have all ended, below the hub or an island
out of reset, leaves reset. One that shows no life 200 µs after that raises ISL_NOSTART once. It says where these commands
complete: islRst, islRstEnd, islandRelease, islNostart. -/
def Obligations.ResetsOfIslands : Prop :=
  (∀ (s : State) (t d : Nat) (p : Port), Takes s p → [Pkg.hold, Pkg.tripped, Pkg.fail].contains s.pkg = true → d ≠ hubDom →
      s.hasDom d = true → s.hop hubDom d ≠ none → Answers (.islRst t p d) s fun u => Told p .ok 0 u
        ∧ (u.v .islPlan d = 1 ∨ u.v .islPlan d = 2 ∨ u.v .islPlan d = 0 ∧ u.v .islRst d = (max s.time t : Nat) + 1))
  ∧ (∀ (s : State) (t d c : Nat) (p : Port), Takes s p → [Pkg.hold, Pkg.tripped, Pkg.fail].contains s.pkg = true → d ≠ hubDom →
      s.hasDom d = true → s.hop hubDom d = some c → s.posted = [] → s.chSt (s.parentEnd c) = Ch.down →
      (∀ x, x ∈ s.tree → s.v .islPlan x.dom = 0) →
      Answers (.islRst t p d) s fun u => Told p .ok 0 u ∧ u.v .islPlan d = 0 ∧ u.v .islRst d = (max s.time t : Nat) + 1
        ∧ ((∃ x, x ∈ s.tree ∧ x.dom = d ∧ x.kind ≠ 0) → (s.v .islHeld d = 0 ∨ s.v .islHeld d = 1) → u.v .islHeld d = 1))
  ∧ (∀ (s : State) (t d : Nat) (p : Port), Takes s p → ([Pkg.hold, Pkg.tripped, Pkg.fail].contains s.pkg = false ∨ d = hubDom) →
      Answers (.islRst t p d) s fun u => Told p .eRange 0 u ∧ Frame Scope.refused s u)
  ∧ (∀ (s : State) (t d : Nat) (p : Port), Takes s p → [Pkg.hold, Pkg.tripped, Pkg.fail].contains s.pkg = true → d ≠ hubDom →
      s.hasDom d = false → Answers (.islRst t p d) s fun u => Told p .eAbsent 0 u ∧ Frame Scope.refused s u)
  ∧ (∀ (s : State) (t d : Nat), s.vn .islRst d - 1 + 1000 ≤ max s.time t → Answers (.islRstEnd t d) s fun u => u.v .islRst d = 0 ∧ Frame ⟨[], [.islRst], []⟩ s u)
  ∧ (∀ (s : State) (t d : Nat), s.hasDom d = true → d ≠ hubDom → s.v .islHeld d = 1 → s.rstHeld d = false →
      (s.parent d = hubDom ∨ s.v .islHeld (s.parent d) = 0) →
      Answers (.islandRelease t d) s fun u => u.v .islHeld d = 0 ∧ u.v .islRel d = (max s.time t : Nat))
  ∧ (∀ (s : State) (t d : Nat), s.v .islHeld d = 0 → s.v .islAlive d = 0 → 0 ≤ s.v .islRel d →
      s.v .islRel d + 200000 ≤ (max s.time t : Nat) → Answers (.islNostart t d) s fun u => u.v .islRel d = -1)

/-- A write of SEL to a clock unit that is on is accepted in AON, VERIFY, HOLD, TRIPPED and FAIL: while no switch runs it is
answered OK, and where the root is not the one selected the switch starts (SEL, MUX_BUSY). In other states it is rejected with
E_RANGE, during a switch with E_OVERRUN, at a unit that is not on with E_ABSENT. RECAL at a unit on its PLL is answered OK and
the calibration stands requested; on its oscillator it is rejected with E_RANGE. RETURN is answered OK in every state. It says
where these commands complete: clkSel, recal, clkReturn. -/
def Obligations.ClockUnitCommands : Prop :=
  (∀ (s : State) (t u0 sel : Nat) (p : Port), Takes s p → s.unitOn u0 = true →
      [Pkg.aon, Pkg.verify, Pkg.hold, Pkg.tripped, Pkg.fail].contains s.pkg = true → s.is F.CLK_STAT_MUX_BUSY u0 = false →
      Answers (.clkSel t p u0 sel) s fun u => Told p .ok 0 u ∧ u.rd F.CLK_CTRL_SEL u0 = sel % 2
        ∧ (s.rd F.CLK_STAT_ON_OSC u0 ≠ sel % 2 → u.rd F.CLK_STAT_MUX_BUSY u0 = 1 ∧ u.v .muxSel u0 = sel % 2))
  ∧ (∀ (s : State) (t u0 sel : Nat) (p : Port), Takes s p → s.unitOn u0 = true →
      [Pkg.aon, Pkg.verify, Pkg.hold, Pkg.tripped, Pkg.fail].contains s.pkg = false →
      Answers (.clkSel t p u0 sel) s fun u => Told p .eRange 0 u ∧ Frame Scope.refused s u)
  ∧ (∀ (s : State) (t u0 sel : Nat) (p : Port), Takes s p → s.unitOn u0 = true →
      [Pkg.aon, Pkg.verify, Pkg.hold, Pkg.tripped, Pkg.fail].contains s.pkg = true → s.is F.CLK_STAT_MUX_BUSY u0 = true →
      Answers (.clkSel t p u0 sel) s fun u => Told p .eOverrun 0 u ∧ Frame Scope.refused s u)
  ∧ (∀ (s : State) (t u0 : Nat) (p : Port), Takes s p → s.unitOn u0 = true → s.is F.CLK_STAT_ON_OSC u0 = false →
      Answers (.recal t p u0) s fun u => Told p .ok 0 u ∧ u.v .clkCal u0 = (max s.time t + 1 : Nat) ∧ Frame ⟨[], [.clkCal], []⟩ s u)
  ∧ (∀ (s : State) (t u0 : Nat) (p : Port), Takes s p → s.unitOn u0 = true → s.is F.CLK_STAT_ON_OSC u0 = true →
      Answers (.recal t p u0) s fun u => Told p .eRange 0 u ∧ Frame Scope.refused s u)
  ∧ (∀ (s : State) (t u0 sel : Nat) (p : Port), Takes s p → s.unitOn u0 = false →
      (Answers (.clkSel t p u0 sel) s fun u => Told p .eAbsent 0 u ∧ Frame Scope.refused s u)
      ∧ Answers (.recal t p u0) s fun u => Told p .eAbsent 0 u ∧ Frame Scope.refused s u)
  ∧ (∀ (s : State) (t : Nat) (p : Port), Takes s p → (∀ u0, u0 ∈ s.unitOrder → s.is F.CLK_STAT_ON_OSC u0 = false) →
      Answers (.clkReturn t p) s fun u => Told p .ok 0 u ∧ u.rd F.HUB_CLK_CMD_PENDING = 0)
  ∧ (∀ (s : State) (t : Nat) (p : Port), Takes s p → s.is F.CLK_STAT_ON_OSC 0 = true → s.is F.CLK_STAT_MON_GOOD 0 = true →
      s.is F.CLK_STAT_PLL_RUN 0 = true → s.is F.CLK_STAT_OSC_RUN 0 = true → s.is F.CLK_STAT_MUX_BUSY 0 = false →
      Answers (.clkReturn t p) s fun u => Told p .ok 0 u ∧ u.rd F.CLK_STAT_MUX_BUSY 0 = 1 ∧ u.v .clkRet 0 = 1)

/-- A unit that declares clock failure moves to its oscillator, shows the cause, counts it and starts the quiet period; where the
CLOCK latch was clear and the package may trip, CRUST trips with class CLOCK. The quiet period ends when it is over. A hung
multiplexer is released to the oscillator with SEL 1. A calibration whose 20 µs have passed gives OSC_KHZ from its count and
CAL_VALID, or clears CAL_VALID where the count is out of range. Four good windows with lock set MON_GOOD. A completed switch
puts the root on what was selected, ends a declared failure when that is the PLL, and requests the calibration that follows
RETURN. It says where these commands complete: clkFail, quietPeriodEnd, muxHung, oscCalDone, monGood, muxSwitchComplete. -/
def Obligations.ClockUnitEvents : Prop :=
  (∀ (s : State) (t n cause : Nat), s.unitOn n = true → s.is F.CLK_OSC_CAL_VALID n = true → s.v .clkFailed n = 0 → 1 ≤ cause → cause ≤ 3 →
      (cause = 3 → s.is F.CLK_STAT_ON_OSC n = false) →
      (s.is F.CRUST_LATCH_CLOCK = true → Answers (.clkFail t n cause) s fun u => u.rd F.CLK_STAT_ON_OSC n = 1
        ∧ u.rd F.CLK_STAT_FAIL_CAUSE n = cause ∧ u.rd F.CLK_STAT_FAIL_SEEN n = 1 ∧ u.v .clkQuiet n = (max s.time t + 1 : Nat) ∧ u.pkg = s.pkg)
      ∧ (s.is F.CRUST_LATCH_CLOCK = false → Pkg.verify < s.pkg → s.pkg ≠ Pkg.tripped → s.pkg ≠ Pkg.fail →
        Answers (.clkFail t n cause) s fun u => u.rd F.CRUST_LATCH_CLOCK = 1 ∧ (u.pkg = Pkg.tripped ∨ u.pkg = Pkg.fail)
          ∧ u.rd F.CRUST_STATUS_STOP = 1))
  ∧ (∀ (s : State) (t n : Nat), s.vn .clkQuiet n - 1 + 80 ≤ max s.time t → Answers (.quietPeriodEnd t n) s fun u => u.v .clkQuiet n = 0 ∧ Frame ⟨[], [.clkQuiet], []⟩ s u)
  ∧ (∀ (s : State) (t n : Nat), s.is F.CLK_STAT_MUX_BUSY n = true → s.vn .muxAt n + 1500 ≤ max s.time t →
      Answers (.muxHung t n) s fun u => u.rd F.CLK_STAT_ON_OSC n = 1 ∧ u.rd F.CLK_CTRL_SEL n = 1 ∧ u.rd F.CLK_STAT_MUX_HUNG n = 1
        ∧ u.rd F.CLK_STAT_MUX_BUSY n = 0)
  ∧ (∀ (s : State) (t n cnt : Nat), 0 < s.v .clkCal n → s.vn .clkCal n - 1 + 20000 ≤ max s.time t → s.unitOn n = true →
      Answers (.oscCalDone t n cnt) s fun u => u.v .clkCal n = 0
        ∧ (2400 ≤ cnt → cnt ≤ 4000 → u.rd F.CLK_OSC_OSC_KHZ n = cnt * 50 ∧ u.rd F.CLK_OSC_CAL_VALID n = 1)
        ∧ (cnt < 2400 ∨ 4000 < cnt → u.rd F.CLK_OSC_CAL_VALID n = 0))
  ∧ (∀ (s : State) (t n : Nat), s.unitOn n = true → Answers (.monGood t n) s fun u => u.rd F.CLK_STAT_MON_GOOD n = 1
      ∧ u.rd F.CLK_STAT_PLL_LOCK n = 1 ∧ 990 ≤ u.rd F.CLK_MON_LAST_CNT n ∧ u.rd F.CLK_MON_LAST_CNT n ≤ 1010)
  ∧ (∀ (s : State) (t n : Nat), s.is F.CLK_STAT_MUX_BUSY n = true → s.vn .muxSel n < 2 →
      Answers (.muxSwitchComplete t n) s fun u => u.rd F.CLK_STAT_MUX_BUSY n = 0 ∧ u.rd F.CLK_STAT_ON_OSC n = s.vn .muxSel n
        ∧ (s.vn .muxSel n = 0 → u.v .clkFailed n = 0) ∧ (s.v .clkRet n = 1 → u.v .clkCal n = (max s.time t + 1 : Nat)))

/-- At a multiple of 1,000 ns of its time base the hub sends TIME on each child channel that is up, and a node engine that is out of
reset does so once after each TIME from its parent. An island that takes TIME shows the path delay and the error of its time
base; a leaf notes the time, a node engine will send it on. A leaf out of reset that has heard no TIME for 50 µs since its last
goes to SAFE for SILENT and says so; a TIME ends the silence as a cause. It says where these commands complete: timeSend,
timeMsg, parentSilent. -/
def Obligations.TimeReachesTheIslands : Prop :=
  (∀ (s : State) (t : Nat) (rts : List (Nat × Nat)) (c : Nat), s.hubUp = true → s.children hubDom = [c] → s.chSt (s.parentEnd c) = Ch.up →
      max s.time t % 1000 = 0 → Answers (.timeSend t hubDom rts) s fun u => u.v .timeSent (endNum (s.parentEnd c)) = 1)
  ∧ (∀ (s : State) (t n : Nat) (rts : List (Nat × Nat)), isNode (nodeDom n) = true → s.v .islHeld (nodeDom n) = 0 →
      s.v .timeFwd (domNum (nodeDom n)) ≠ 0 → (s.start t).islTime (nodeDom n) % 1000 = 0 →
      Answers (.timeSend t (nodeDom n) rts) s fun u => u.v .timeFwd (domNum (nodeDom n)) = 0)
  ∧ (∀ (s : State) (t l tag delay usec cap : Nat), s.delivers (.leaf l) tag = true → isLeaf (leafDom l) = true →
      Answers (.timeMsg t (.leaf l) tag delay usec cap) s fun u => u.v .timeAt (domNum (leafDom l)) = (max s.time t : Nat)
        ∧ u.v .tbSet (leafDom l) ≠ 0 ∧ u.rd F.CLK_TB_DELAY (unitOf (leafDom l)) = delay % 256
        ∧ (s.v .safeSil (domNum (leafDom l)) = 1 → u.v .safeSil (domNum (leafDom l)) = 2))
  ∧ (∀ (s : State) (t l : Nat), s.v .islHeld (leafDom l) = 0 → 0 < s.vn .timeAt l → s.v .safeSil l ≠ 1 →
      s.vn .timeAt l + 50000 ≤ max s.time t →
      Answers (.parentSilent t l) s fun u => u.v .safeSil l = 1 ∧ u.rd F.LEAF_CHAN_SILENT l = 1)

/-- OPEN, with the staging bank IDLE, FILLING or STAGED, empties it and starts filling for the port, with the pointer at 0; the
active bank is as it was. COMMIT in FILLING starts the checks, and in IDLE or STAGED is rejected with E_RANGE. ABORT in FILLING
or STAGED gives the bank up, and in CHECKING also ends the check with detail 0x0F. COMMIT_SVN in RUN with a greater SVN in the
image starts fusing, otherwise E_RANGE. While the checks, the verification or the application of a delta run, OPEN is rejected
with E_OVERRUN. Each of OPEN, COMMIT and ABORT by the port that does not own the bank is rejected with E_PRIV. A rejected
command changes nothing else. It says where these commands complete: ldrOpen, ldrCommit, ldrAbort, commitSvn. -/
def Obligations.LoaderCommands : Prop :=
  (∀ (s : State) (t : Nat) (p : Port), Takes s p → s.ldrForeign p = false → (s.ldr = 0 ∨ s.ldr = 1 ∨ s.ldr = 3) → Answers (.ldrOpen t p) s fun u =>
      Told p .ok 0 u ∧ u.ldr = 1 ∧ u.bank s.stageBank = Bank.empty ∧ u.bank (1 - s.stageBank) = s.bank (1 - s.stageBank)
        ∧ u.v .imgPtr = 0 ∧ u.rd F.IMG_WADDR_PTR = 0 ∧ u.img.owner = some p)
  ∧ (∀ (s : State) (t : Nat) (p : Port), Takes s p → s.ldrForeign p = false → s.ldr = 1 → Answers (.ldrCommit t p) s fun u =>
      Told p .ok 0 u ∧ u.ldr = 2 ∧ Frame ⟨[.IMG_STATUS], [], []⟩ s u)
  ∧ (∀ (s : State) (t : Nat) (p : Port), Takes s p → s.ldrForeign p = false → (s.ldr = 0 ∨ s.ldr = 3) → Answers (.ldrCommit t p) s fun u =>
      Told p .eRange 0 u ∧ Frame Scope.refused s u)
  ∧ (∀ (s : State) (t : Nat) (p : Port), Takes s p → s.ldrForeign p = false → (s.ldr = 1 ∨ s.ldr = 2 ∨ s.ldr = 3) → Answers (.ldrAbort t p) s fun u =>
      Told p .ok 0 u ∧ u.ldr = 0 ∧ u.img.owner = none ∧ (s.ldr = 2 → u.rd F.IMG_STATUS_DETAIL = 0x0F))
  ∧ (∀ (s : State) (t : Nat) (p : Port), Takes s p → s.pkg = Pkg.run → s.fusedSvn < s.rd F.IMG_INFO_SVN → Answers (.commitSvn t p) s fun u =>
      Told p .ok 0 u ∧ u.rd F.IMG_STATUS_FUSING = 1 ∧ u.rd F.IMG_FUSE_FUSED_SVN = s.fusedSvn)
  ∧ (∀ (s : State) (t : Nat) (p : Port), Takes s p → (s.pkg ≠ Pkg.run ∨ s.rd F.IMG_INFO_SVN ≤ s.fusedSvn) → Answers (.commitSvn t p) s fun u =>
      Told p .eRange 0 u ∧ Frame Scope.refused s u)
  ∧ (∀ (s : State) (t : Nat) (p : Port), Takes s p → s.ldrForeign p = false → s.ldr ≠ 0 → s.ldr ≠ 1 → s.ldr ≠ 3 →
      Answers (.ldrOpen t p) s fun u => Told p .eOverrun 0 u ∧ Frame Scope.refused s u)
  ∧ (∀ (s : State) (t : Nat) (p : Port) (c : Instr), Takes s p → s.ldrForeign p = true → c ∈ [Instr.ldrOpen t p, .ldrCommit t p, .ldrAbort t p] →
      Answers c s fun u => Told p .ePriv 0 u ∧ Frame Scope.refused s u)

/-- In FILLING, by the owner, a write of IMG_WADDR with a pointer that is a multiple of 8 and at most 0x7FFF8 sets the pointer. A
64-bit write of IMG_WDATA stores its eight bytes at the pointer in the staging bank, least significant first, moves the pointer
by 8, and leaves every other byte of that bank, and the other bank, as it was. IMG_WDATA in IDLE or STAGED, or written with 32
bits, and IMG_WADDR outside FILLING, are rejected with E_RANGE; by the port that does not own the bank both are rejected with
E_PRIV. A rejected write changes nothing else. It says where these commands complete: imgWaddr, imgWdata. -/
def Obligations.ImageBytesFillTheBank : Prop :=
  (∀ (s : State) (t w : Nat) (p : Port), Takes s p → s.ldrForeign p = false → s.ldr = 1 → w % 2 ^ 20 % 8 = 0 → w % 2 ^ 20 ≤ 0x7FFF8 →
      Answers (.imgWaddr t p w) s fun u => Told p .ok 0 u ∧ u.v .imgPtr = (w % 2 ^ 20 : Nat) ∧ u.rd F.IMG_WADDR_PTR = w % 2 ^ 20
        ∧ Frame ⟨[.IMG_WADDR], [.imgPtr], []⟩ s u)
  ∧ (∀ (s : State) (t w : Nat) (p : Port), Takes s p → s.ldrForeign p = false → s.ldr ≠ 1 →
      Answers (.imgWaddr t p w) s fun u => Told p .eRange 0 u ∧ Frame Scope.refused s u)
  ∧ (∀ (s : State) (t : Nat) (p : Port) (w : Word), Takes s p → s.ldrForeign p = false → s.ldr = 1 → s.vn .imgPtr + 8 ≤ 0x80000 →
      Answers (.imgWdata t p true w) s fun u => Told p .ok 0 u ∧ u.v .imgPtr = (s.vn .imgPtr + 8 : Nat)
        ∧ (∀ a, Mem.read (u.bank s.stageBank).mem a = if s.vn .imgPtr ≤ a ∧ a < s.vn .imgPtr + 8 then w.extractLsb' (8 * (a - s.vn .imgPtr)) 8
            else Mem.read (s.bank s.stageBank).mem a)
        ∧ u.bank (1 - s.stageBank) = s.bank (1 - s.stageBank))
  ∧ (∀ (s : State) (t : Nat) (p : Port) (wide : Bool) (w : Word), Takes s p → s.ldrForeign p = false → (wide = false ∨ s.ldr = 0 ∨ s.ldr = 3) →
      Answers (.imgWdata t p wide w) s fun u => Told p .eRange 0 u ∧ Frame Scope.refused s u)
  ∧ (∀ (s : State) (t x : Nat) (p : Port) (wide : Bool) (w : Word) (c : Instr), Takes s p → s.ldrForeign p = true →
      c ∈ [Instr.imgWaddr t p x, .imgWdata t p wide w] → Answers c s fun u => Told p .ePriv 0 u ∧ Frame Scope.refused s u)

/-- CHECKING ends. With an ECC error, or the first step that fails, the bank goes back to FILLING with E_IMAGE and the step. A full
image goes to VERIFY from AON, otherwise it is STAGED; a delta that passes C12 is applied. VERIFYING ends in VERIFY: a failure,
an ECC error or a delta marks the bank rejected, with E_IMAGE, and the package is in AON or in VERIFY with its next candidate; a
full image becomes the active one, its bank active and accepted. The end of the fusing shows the image's SVN as the fused SVN.
It says where these commands complete: checkDone, verifyDone, fusingDone. -/
def Obligations.ImageChecksEnd : Prop :=
  (∀ (s : State) (t : Nat), s.ldr = 2 → Answers (.checkDone t true) s fun u =>
      u.ldr = 1 ∧ u.rd F.IMG_STATUS_STATUS = Status.eImage.code ∧ u.rd F.IMG_STATUS_DETAIL = 0x0D)
  ∧ (∀ (s : State) (t : Nat), s.ldr = 2 → Answers (.checkDone t false) s fun u =>
      match s.check s.stageBank with
      | .error e => u.ldr = 1 ∧ u.rd F.IMG_STATUS_STATUS = Status.eImage.code ∧ u.rd F.IMG_STATUS_STEP = e.1 % 16
      | .ok g => if g.delta then (s.checkC12 (s.bankItems s.stageBank) ≠ none → u.ldr = 1 ∧ u.rd F.IMG_STATUS_DETAIL = 0x0C)
          else u.rd F.IMG_STATUS_STATUS = 0 ∧ (if s.pkg = Pkg.aon then u.pkg = Pkg.verify ∧ u.ldr = 5 ∧ u.vn .imgCand = s.stageBank
            else u.ldr = 3 ∧ u.pkg = s.pkg))
  ∧ (∀ (s : State) (t : Nat) (ecc : Bool), s.ldr = 5 → s.pkg = Pkg.verify → Answers (.verifyDone t ecc) s fun u =>
      match s.check (s.vn .imgCand) with
      | .error _ => (u.bank (s.vn .imgCand)).rejected = true ∧ (u.pkg = Pkg.aon ∨ u.pkg = Pkg.verify)
      | .ok g => if ecc || g.delta then (u.bank (s.vn .imgCand)).rejected = true ∧ (u.pkg = Pkg.aon ∨ u.pkg = Pkg.verify)
          else u.img.active = some g.dropped ∧ (u.bank (s.vn .imgCand)).accepted = true ∧ (u.bank (s.vn .imgCand)).rejected = false)
  ∧ (∀ (s : State) (t : Nat), s.is F.IMG_STATUS_FUSING = true → Answers (.fusingDone t) s fun u =>
      u.rd F.IMG_STATUS_FUSING = 0 ∧ u.rd F.IMG_FUSE_FUSED_SVN = s.rd F.IMG_INFO_SVN ∧ Frame ⟨[.IMG_STATUS, .IMG_FUSE], [.fuseSvn], []⟩ s u)

/-- A confirmation that reaches the hub takes its island off the list of those waited for. When the activation stamp has come, the
delta's items replace those of their key, the parameter sequence number is the delta's, and no delta is applied any more. When
an island that has been sent its items has not confirmed within 50 µs of that, the delta fails: E_IMAGE with detail 0x0E, and no
item has changed. Image fields that reach an island make its fields valid. It says where these commands complete: paramMsg,
deltaActivate, applyTimeout. -/
def Obligations.DeltasReachTheIslands : Prop :=
  (∀ (s : State) (t k tag d : Nat) (r : DeltaRun), s.delivers (.hub k) tag = true → k ≠ 0 → s.img.delta = some r → r.wait.contains d = true →
      Answers (.paramMsg t (.hub k) tag d 2) s fun u => ∃ r', u.img.delta = some r' ∧ r'.wait = (r.wait.filter fun y => !Nat.beq y d) ∧ r'.conf = r.conf ++ [d])
  ∧ (∀ (s : State) (t : Nat) (d : DeltaRun) (a : Nat), s.img.delta = some d → d.tA = some a → a ≤ max s.time t →
      Answers (.deltaActivate t) s fun u => u.img.delta = none ∧ u.img.items = mergeItems s.img.items d.img.items
        ∧ u.rd F.IMG_INFO_PARAM_SEQ = d.img.paramSeq % 2 ^ F.IMG_INFO_PARAM_SEQ.w)
  ∧ (∀ (s : State) (t : Nat) (d : DeltaRun), s.img.delta = some d → (∃ x ∈ d.wait, s.v .dltSend x = 0 ∧ s.vn .dltAt x + 50000 ≤ max s.time t) →
      Answers (.applyTimeout t) s fun u => u.img.delta = none ∧ u.img.items = s.img.items ∧ u.rd F.IMG_STATUS_STATUS = Status.eImage.code
        ∧ u.rd F.IMG_STATUS_DETAIL = 0x0E)
  ∧ (∀ (s : State) (t n tag : Nat), s.delivers (.leaf n) tag = true → ((fieldSecs (leafDom n)).any fun k => s.v .eccSec k = 1) = false →
      s.hasDom (leafDom n) = true → s.pkg ≠ Pkg.ramp → s.v .downFor = 0 →
      Answers (.paramMsg t (.leaf n) tag (leafDom n) 0) s fun u => u.v .islFields (leafDom n) ≠ 0)

/-- A step of the scrub, in a pass that is open or due, while a hub runs in a state in which the STARTER and synchronization stores
are in use, moves the pointer to the next word of its store, or to the first word of the next store after the last word. A
corrected error is counted for its store, also where a foreground read meets it, which leaves the scrub's pointer alone. In AON
the pointer is in the image store after a step. A pass of a running background activity that has not ended within its late limit
of its scheduled start, and was not reported, is marked so and raises BG_LATE. It says where these commands complete: scrubStep,
bgLate. -/
def Obligations.ScrubAndBackgroundPasses : Prop :=
  (∀ (s : State) (t : Nat), s.hubUp = true → s.pkg ≠ Pkg.aon → s.pkg ≠ Pkg.verify → (s.bgOpen 0 || (s.start t).bgDue 0) = true →
      Answers (.scrubStep t (.scrub 0)) s fun u =>
        if s.rd F.ECC_STATUS_POS + 1 < storeWords (s.rd F.ECC_STATUS_STORE) then
          u.rd F.ECC_STATUS_POS = s.rd F.ECC_STATUS_POS + 1 ∧ u.rd F.ECC_STATUS_STORE = s.rd F.ECC_STATUS_STORE
        else u.rd F.ECC_STATUS_POS = 0 ∧ u.rd F.ECC_STATUS_STORE = (s.rd F.ECC_STATUS_STORE + 1) % 4)
  ∧ (∀ (s : State) (t : Nat), s.hubUp = true → s.pkg ≠ Pkg.aon → s.pkg ≠ Pkg.verify → s.rd F.ECC_COUNT_CORR (s.rd F.ECC_STATUS_STORE) < 0xFFFFFFFF →
      (s.bgOpen 0 || (s.start t).bgDue 0) = true →
      Answers (.scrubStep t (.scrub 1)) s fun u => u.rd F.ECC_COUNT_CORR (s.rd F.ECC_STATUS_STORE) = s.rd F.ECC_COUNT_CORR (s.rd F.ECC_STATUS_STORE) + 1)
  ∧ (∀ (s : State) (t k n : Nat), s.hubUp = true → k < 4 → n < storeWords k → s.rd F.ECC_COUNT_CORR k < 0xFFFFFFFF →
      Answers (.scrubStep t (.fore k n 1)) s fun u => u.rd F.ECC_COUNT_CORR k = s.rd F.ECC_COUNT_CORR k + 1
        ∧ Frame ⟨[.ECC_COUNT], [], []⟩ s u)
  ∧ (∀ (s : State) (t : Nat), s.hubUp = true → s.pkg = Pkg.aon → (s.bgOpen 0 || (s.start t).bgDue 0) = true →
      Answers (.scrubStep t (.scrub 0)) s fun u => u.rd F.ECC_STATUS_STORE = 0)
  ∧ (∀ (s : State) (t act start : Nat), s.hubUp = true → s.bgRuns act = true → (s.start t).bgSched act = some start → s.v .bgLate act = 0 →
      start + bgLimit act < max s.time t →
      Answers (.bgLate t act start) s fun u => u = ((s.start t).setV .bgLate 1 act).event 0x03 act)

/-- A rise of ALIVE at a leaf's end in DOWN, the leaf and its parent out of reset, shows FAR_ALIVE and goes to LINKING. A fall of
ALIVE at a leaf's end that is not DOWN goes to DOWN with the next epoch (said, as the last sentence, where no reset by command
is planned). A HELLO in DOWN is kept. A HELLO in LINKING is answered with an epoch greater by one than the greater of the two. A
HELLO_ACK with the epoch that the end has answered makes a leaf's end UP with that epoch. It says where these commands complete:
chanAliveRise, chanAliveFall, hello, helloAck. -/
def Obligations.ChannelsLink : Prop :=
  (∀ (s : State) (t n : Nat), s.chSt (.leaf n) = Ch.down → s.hasDom (leafDom n) = true → s.v .islHeld (leafDom n) = 0 →
      (s.parent (leafDom n) = hubDom ∨ s.hasDom (s.parent (leafDom n)) = true ∧ s.v .islHeld (s.parent (leafDom n)) = 0) →
      s.v .chHold (endNum (.leaf n)) = 0 → s.v .chHello (endNum (.leaf n)) = 0 →
      Answers (.chanAliveRise t (.leaf n)) s fun u => u.ch (.leaf n) F.HUB_CHAN_FAR_ALIVE = 1 ∧ u.chSt (.leaf n) = Ch.linking)
  ∧ (∀ (s : State) (t n : Nat), s.chSt (.leaf n) ≠ Ch.down → s.pkg ≠ Pkg.ramp → s.v .downFor = 0 → s.islPlanned = false →
      Answers (.chanAliveFall t (.leaf n)) s fun u => u.chSt (.leaf n) = Ch.down ∧ u.ch (.leaf n) F.HUB_CHAN_FAR_ALIVE = 0
        ∧ u.ch (.leaf n) F.HUB_CHAN_EPOCH = (s.ch (.leaf n) F.HUB_CHAN_EPOCH + 1) % 65536)
  ∧ (∀ (s : State) (t epoch : Nat) (e : ChEnd), s.chSt e = Ch.down → Answers (.hello t e epoch) s fun u =>
      u.v .chHello (endNum e) = (epoch % 65536 + 1 : Nat))
  ∧ (∀ (s : State) (t epoch : Nat) (e : ChEnd), s.chSt e = Ch.linking → s.v .chAckRcvd (endNum e) = 0 → Answers (.hello t e epoch) s fun u =>
      u.v .chAckSent (endNum e) = ((max (s.ch e F.HUB_CHAN_EPOCH) (epoch % 65536) + 1) % 65536 + 1 : Nat))
  ∧ (∀ (s : State) (t epoch n : Nat), s.chSt (.leaf n) = Ch.linking → s.v .chAckSent (endNum (.leaf n)) = (epoch % 65536 + 1 : Nat) →
      s.pkg ≠ Pkg.ramp → s.v .downFor = 0 → s.islPlanned = false → Answers (.helloAck t (.leaf n) epoch) s fun u =>
        u.chSt (.leaf n) = Ch.up ∧ u.ch (.leaf n) F.HUB_CHAN_EPOCH = epoch % 65536)

/-- A FENCE taken by a leaf that has no command to wait for is acknowledged at once: no fence waits there, and the acknowledgement
leaves where the end can send. A FENCE_ACK with the identity that a node engine's end in FENCING has sent takes the end to
FENCED. A fence of a node engine's end that has not been acknowledged within 10 µs takes the end to FENCED with FENCE_TO set. A
message of a reserved type is dropped: it raises CHAN_RSVD at the domain of the end and changes nothing outside the scope of an
event. It says where these commands complete: fence, fenceAck, fenceTimeout, reservedTypeMessage. -/
def Obligations.ChannelFences : Prop :=
  (∀ (s : State) (t n tag scope id : Nat), s.delivers (.leaf n) tag = true → (s.chan.pend.any fun p => endDom p.chEnd = leafDom n) = false →
      (s.chan.await.any fun p => endDom p.1 = leafDom n) = false → (s.chan.wait.any fun w => endDom w.pend.chEnd = leafDom n) = false → (s.childEnds (leafDom n)) = [] →
      s.canSend (.leaf n) Mt.fenceAck = true → n < 4096 →
      Answers (.fence t (.leaf n) tag scope id) s fun u => u.v .chFenceUp (leafDom n) = 0
        ∧ Out.msg (.leaf n) Mt.fenceAck (s.ch (.leaf n) F.HUB_CHAN_EPOCH % 16) (pack [(8, 8, id % 256), (16, 8, 0)]) ∈ u.out)
  ∧ (∀ (s : State) (t n j tag id st : Nat), s.delivers (.node n j) tag = true → j ≠ 0 → s.chSt (.node n j) = Ch.fencing →
      s.vn .chFence (endNum (.node n j)) = id % 256 + 1 →
      Answers (.fenceAck t (.node n j) tag id st) s fun u => u.chSt (.node n j) = Ch.fenced ∧ u.v .chFence (endNum (.node n j)) = 0)
  ∧ (∀ (s : State) (t n j : Nat), s.chSt (.node n j) = Ch.fencing → s.vn .chFenceAt (endNum (.node n j)) + 10000 ≤ max s.time t →
      Answers (.fenceTimeout t (.node n j)) s fun u => u.chSt (.node n j) = Ch.fenced ∧ u.ch (.node n j) F.HUB_CHAN_FENCE_TO = 1)
  ∧ (∀ (s : State) (t : Nat) (e : ChEnd), Answers (.reservedTypeMessage t e) s fun u =>
      u = (s.start t).evFrom (endDom e) 0x05 (s.endInst e) ∧ ∀ x, u.chSt x = s.chSt x)

/-- A CMD_RSP that a parent end delivers, and whose REQID matches no pending entry of that end, is dropped: the end's STALE_DROPS
counts it, saturating, nothing is sent, and no other register, no variable and no store changes. It says where this command
completes: cmdRsp. -/
def Obligations.ResponseOfNoCommandIsDropped : Prop :=
  ∀ (s : State) (t tag src reqid st : Nat) (e : ChEnd), s.delivers e tag = true → endIsParent e = true → s.pend? e (reqid % 256) = none →
    Answers (.cmdRsp t e tag src reqid st) s fun u => u.ch e F.HUB_CHAN_STALE_DROPS = min 0xFFFF (s.ch e F.HUB_CHAN_STALE_DROPS + 1)
      ∧ u.out = [] ∧ Frame ⟨[endReg e], [], []⟩ s u

/-- The CMD_REQ of a write waits at its island for the data. A CMD_RSP with status OK for a read that a parent end has pending waits
for its CMD_DATA, and the data ends the wait and the pending entry of a node engine's end. When a command of the hub has had no
response for 3 µs, its destination is reset. When an accepted request of an initiator has had no answer for 3900 ns, RSPTO_SEEN
is set and no command that waits for an overdue answer of that initiator still names it. The two time-outs are said where no
register write of the port waits for an earlier one. It says where these commands complete: cmdReq, cmdRsp, cmdData, cmdTimeout,
rspTimeout. -/
def Obligations.CommandMessages : Prop :=
  (∀ (s : State) (t tag dest reqid op off : Nat) (e : ChEnd), s.delivers e tag = true → endIsParent e = false → opWrites (op % 8) = true →
      Answers (.cmdReq t e tag dest reqid op off) s fun u =>
        u.chan.await = s.chan.await ++ [(e, { dest := dest % 65536, reqid := reqid % 256, op := op % 8, off := off % 2 ^ 24 })])
  ∧ (∀ (s : State) (t tag src reqid : Nat) (e : ChEnd) (p : CmdPend), s.delivers e tag = true → endIsParent e = true →
      s.pend? e (reqid % 256) = some p → opWrites p.req.op = false →
      Answers (.cmdRsp t e tag src reqid 0) s fun u => u.chan.rspWait = s.chan.rspWait ++ [(e, src % 65536, reqid % 256)])
  ∧ (∀ (s : State) (t n j tag src reqid : Nat) (w : Word) (pins : Pins) (p : CmdPend), s.delivers (.node n j) tag = true → j ≠ 0 →
      s.chan.rspWait.find? (fun x => x.1 = .node n j) = some (.node n j, src, reqid) → s.pend? (.node n j) reqid = some p →
      Answers (.cmdData t (.node n j) tag w pins) s fun u => u.chan.rspWait = s.chan.rspWait.erase (.node n j, src, reqid)
        ∧ u.pend? (.node n j) p.req.reqid = none)
  ∧ (∀ (s : State) (t k reqid : Nat) (p : CmdPend), s.pend? (.hub k) reqid = some p → p.time + 3000 ≤ max s.time t → s.reqWait = [] →
      Answers (.cmdTimeout t (.hub k) reqid) s fun u => u.v .islRst p.req.dest ≠ 0)
  ∧ (∀ (s : State) (t init x : Nat) (q : Port) (a : Nat) (w : Bool), (x, q, a, w) ∈ s.accepted → isInit init q = true →
      x + 3900 ≤ max s.time t → s.reqWait = [] →
      Answers (.rspTimeout t init) s fun u => u.rd F.HOST_STATUS_RSPTO_SEEN = 1
        ∧ ∀ x ∈ u.chan.pend, ∀ (q : Port) (a : Nat) (w : Bool), x.src = .port q a w → isInit init q = true → max s.time t < x.time + 3900)

/-- An ESTIMATE from a child shows the estimates of the rails it names. The sum of a slot that times out at the hub or at a node
engine out of reset is taken with what is there, and the slot is done. From its end on, the close of a slot at a running leaf
counts the slot in the interval in which it starts, shows its number, and the next slot is the one to close. A theta word
written at a leaf out of reset waits for the leaf to adopt it. It says where these commands complete: estimate,
estimateSlotTimeout, leafSlotClose, leafThetaWrite. -/
def Obligations.EstimatesOfASlot : Prop :=
  (∀ (s : State) (t tag ra rb slot ea eb c : Nat) (e : ChEnd), s.delivers e tag = true → s.endChild e = some c → rb % 32 ≠ 0x1F →
      Answers (.estimate t e tag ra rb slot ea eb) s fun u => u.v .estLast c (rb % 32) = (eb % 2 ^ 25 : Nat)
        ∧ (ra % 32 ≠ 0x1F → ra % 32 ≠ rb % 32 → u.v .estLast c (ra % 32) = (ea % 2 ^ 25 : Nat)))
  ∧ (∀ (s : State) (t tag ra rb slot ea eb c : Nat) (e : ChEnd), s.delivers e tag = true → s.endChild e = some c → ra % 32 ≠ 0x1F → rb % 32 = 0x1F →
      Answers (.estimate t e tag ra rb slot ea eb) s fun u => u.v .estLast c (ra % 32) = (ea % 2 ^ 25 : Nat))
  ∧ (∀ (s : State) (t d slot : Nat), (d = hubDom ∧ s.hubUp = true ∨ s.hasDom d = true ∧ isLeaf d = false ∧ s.v .islHeld d = 0) →
      64 * (slot + s.leafDepth d + 2) ≤ max s.time t →
      Answers (.estimateSlotTimeout t d slot) s fun u => u.v .estSlotAt d (slot % 16) = (slot + 1 : Nat))
  ∧ (∀ (s : State) (t l slot : Nat) (reps : List Rep) (removed : List (Nat × Nat)), s.leafRuns l = true → s.v .slotNext l ≤ slot →
      64 * slot + 64 ≤ max s.time t →
      Answers (.leafSlotClose t l slot reps removed) s fun u => u.v .estSlots l (64 * slot / 1000) = s.v .estSlots l (64 * slot / 1000) + 1
        ∧ u.v .slotNext l = (slot + 1 : Nat) ∧ u.rd F.LEAF_EST_STATUS_SLOT l = slot % 2 ^ F.LEAF_EST_STATUS_SLOT.w)
  ∧ (∀ (s : State) (t l k w : Nat), s.leaves.contains l = true → s.v .islHeld (leafDom l) = 0 →
      Answers (.leafThetaWrite t l k true w) s fun u => u.v .estThHi l (k % 4) = (w % 2 ^ 64 : Nat) ∧ u.v .estThNew l (k % 4) = 1)
  ∧ (∀ (s : State) (t l k w : Nat), s.leaves.contains l = true → s.v .islHeld (leafDom l) = 0 →
      Answers (.leafThetaWrite t l k false w) s fun u => u.v .estThLo l (k % 4) = (w % 2 ^ 64 : Nat) ∧ u.v .estThLoNew l (k % 4) = 1)

/-- The close of an interval at a running leaf, from the end of its last slot on, clears its sum of slots, and the next interval is
the one to close. An INTERVAL report at the hub shows the power of its rails for its leaf and its sequence number. A GROUP
report at the hub, of a window that is closed and not yet done, adds its energy and its number of leaves to its group. When the
wait of a node engine for group reports ends, every group sum of the window has been sent. APPLIED at the host of its loop shows
the amount. The hub's close of an interval, from its end on, names it. The close of a KNEAD window, where KNEAD does not run or
its pass is due, names the window and clears its sums. KNEAD_RESET in HOLD, TRIPPED or FAIL sets the updates of a rail of the
image to 0 and FREEZE as written; in other states it is rejected with E_RANGE, and for a rail that is absent with E_ABSENT. It
says where these commands complete: leafIntervalClose, intervalReport, groupReport, groupSumTimeout, applied, hubIntervalClose,
kneadWindowClose, kneadReset. -/
def Obligations.IntervalsAndGroups : Prop :=
  (∀ (s : State) (t l j : Nat), s.leafRuns l = true → s.v .ivNext l ≤ j → ((1000 * j + 999) / 64 + 1) * 64 ≤ max s.time t →
      Answers (.leafIntervalClose t l j) s fun u => u.v .estSlots l j = 0 ∧ u.v .ivNext l = (j + 1 : Nat))
  ∧ (∀ (s : State) (t tag leaf ra rb seq pa pb c : Nat) (e : ChEnd), s.delivers e tag = true → s.endChild e = some c → endDom e = hubDom →
      ra % 32 ≠ 0x1F → rb % 32 ≠ ra % 32 →
      Answers (.intervalReport t e tag leaf ra rb seq pa pb false) s fun u => u.v .ivLast (leaf % 512) (ra % 32) = 8 * (pa % 2 ^ 18 : Nat)
        ∧ u.v .ivFresh (leaf % 512) (ra % 32) = (seq % 16 + 1 : Nat) ∧ (rb % 32 ≠ 0x1F → u.v .ivLast (leaf % 512) (rb % 32) = 8 * (pb % 2 ^ 18 : Nat)))
  ∧ (∀ (s : State) (t tag nleaf rail g w c : Nat) (en : Int) (e : ChEnd), s.delivers e tag = true → s.endChild e = some c → endDom e = hubDom →
      s.v .kwDone < w → 1000000 * w + 1000000 ≤ max s.time t → max s.time t < 1000000 * w + 17000000 →
      Answers (.groupReport t e tag nleaf rail g (w % 16) en) s fun u =>
        u.v .hgE (8 * (rail % 32) + g % 8) (w % 16) = s.v .hgE (8 * (rail % 32) + g % 8) (w % 16) + en
        ∧ u.v .hgN (8 * (rail % 32) + g % 8) (w % 16) = s.v .hgN (8 * (rail % 32) + g % 8) (w % 16) + (nleaf % 1024 : Nat))
  ∧ (∀ (s : State) (t n w : Nat), s.hasDom (nodeDom n) = true → s.v .islHeld (nodeDom n) = 0 → (w + 1) * 1000000 + 10000 ≤ max s.time t →
      Answers (.groupSumTimeout t n w) s fun u => ∀ k, k < 256 → u.v .ngN n k = 0 ∨ u.v .ngSent n k = (w % 16 + 1 : Nat))
  ∧ (∀ (s : State) (t tag dom loop cls rail amt c : Nat) (r : LoopRec) (e : ChEnd), s.delivers e tag = true → s.endChild e = some c →
      s.loop? (loop % 512) = some r → r.host = endDom e →
      Answers (.applied t e tag dom loop cls rail amt) s fun u => u.v .appliedMw (loop % 512) = (match msgAmt (amt % 2 ^ 25) with | some x => (x : Int) | none => 33554431))
  ∧ (∀ (s : State) (t j : Nat), s.hubUp = true → s.img.active.isSome = true → s.v .hubIv < j → 1000 * j + 1000 ≤ max s.time t →
      Answers (.hubIntervalClose t j) s fun u => u.v .hubIv = j)
  ∧ (∀ (s : State) (t w : Nat), s.hubUp = true → s.v .kwDone < w → 1000000 * w + 1000000 ≤ max s.time t →
      (s.pkg < Pkg.run ∨ s.img.active = none ∨ (s.start t).bgDue 3 = true) →
      Answers (.kneadWindowClose t w) s fun u => u.v .kwDone = w ∧ u.v .kwPkg 0 (w % 16) = 0 ∧ ∀ r ∈ s.railNums, u.v .kwN r (w % 16) = 0
        ∧ u.v .kwM r (w % 16) = 0)
  ∧ (∀ (s : State) (t r : Nat) (p : Port) (fr : Bool), Takes s p → (s.rail? r).isSome = true → (s.pkg = Pkg.hold ∨ s.pkg = Pkg.tripped ∨ s.pkg = Pkg.fail) →
      Answers (.kneadReset t p r fr) s fun u => Told p .ok 0 u ∧ u.rd F.RAIL_KNEAD_UPDATES r = 0 ∧ u.rd F.RAIL_KNEAD_FREEZE r = b2n fr)
  ∧ (∀ (s : State) (t r : Nat) (p : Port) (fr : Bool), Takes s p → (s.rail? r).isSome = true → s.pkg ≠ Pkg.hold → s.pkg ≠ Pkg.tripped → s.pkg ≠ Pkg.fail →
      Answers (.kneadReset t p r fr) s fun u => Told p .eRange 0 u ∧ Frame Scope.refused s u)
  ∧ (∀ (s : State) (t r : Nat) (p : Port) (fr : Bool), Takes s p → (s.rail? r).isSome = false →
      Answers (.kneadReset t p r fr) s fun u => Told p .eAbsent 0 u ∧ Frame Scope.refused s u)

/-- A loop whose engine does not stand, whose tick is due and before which no other loop of the engine ticks, ticks: LOOP_LATE.LATE
shows how late, saturated at 32 bits, and LOOP_COUNT.TICKS counts it. OPEN opens a loop that the hub hosts. CLOSE in RUN takes
such a loop, when open, to CLOSED, or to CLOSING under a loader hold. OPEN of a loop that a node engine hosts is a write command
to that engine, and the hub's copy waits for its response. CLOSE of an open loop outside RUN, and outside SLEEP for a loop that
runs in SLEEP, is rejected with E_RANGE. A loop that is absent or unreachable is refused with E_ABSENT. It says where these
commands complete: loopTick, loopOpen, loopClose. -/
def Obligations.LoopsTickAndObey : Prop :=
  (∀ (s : State) (t l : Nat) (r : LoopRec), s.loop? l = some r → s.engineStands l = false → s.engineHeld l = false →
      0 ≤ s.v .lpNom l → s.v .lpDue l ≤ (max s.time t : Nat) → (s.start t).tickWaits l = false →
      Answers (.loopTick t l) s fun u => u.rd F.LOOP_COUNT_TICKS l = (s.rd F.LOOP_COUNT_TICKS l + 1) % 2 ^ F.LOOP_COUNT_TICKS.w
        ∧ u.rd F.LOOP_LATE_LATE l = min 0xFFFF_FFFF (max s.time t - s.vn .lpNom l))
  ∧ (∀ (s : State) (t l : Nat) (p : Port) (r : LoopRec), Takes s p → s.loop? l = some r → r.host = hubDom →
      Answers (.loopOpen t p l) s fun u => Told p .ok 0 u ∧ u.rd F.LOOP_CTRL_STATE l = 0)
  ∧ (∀ (s : State) (t l : Nat) (p : Port) (r : LoopRec), Takes s p → s.loop? l = some r → r.host = hubDom → s.loopSt l = 0 → s.pkg = Pkg.run →
      Answers (.loopClose t p l) s fun u => Told p .ok 0 u ∧ u.rd F.LOOP_CTRL_STATE l = if s.is F.LOOP_CTRL_LDR_HOLD l then 1 else 2)
  ∧ (∀ (s : State) (t l c : Nat) (p : Port) (r : LoopRec), Takes s p → s.loop? l = some r → r.host ≠ hubDom → s.loopReach l = true →
      s.hop hubDom r.host = some c → s.canSend (s.parentEnd c) Mt.cmdReq = true → s.pendFull (s.parentEnd c) = false →
      Answers (.loopOpen t p l) s fun u => u.chan.pend = s.chan.pend ++
          [⟨s.parentEnd c, ⟨r.host, s.freeReqid (s.parentEnd c), 3, regAddr .LOOP_CTRL l⟩, max s.time t,
            .copy (some p) (regAddr .LOOP_CTRL l) (BitVec.ofNat 64 (16 * 1)) true []⟩]
        ∧ u.rd F.LOOP_CTRL_STATE l = s.rd F.LOOP_CTRL_STATE l)
  ∧ (∀ (s : State) (t l : Nat) (p : Port), Takes s p → s.loopReach l = true → s.loopSt l = 0 → s.pkg ≠ Pkg.run →
      (s.pkg ≠ Pkg.sleep ∨ s.is F.LOOP_CTRL_SLEEP_RUN l = false) →
      Answers (.loopClose t p l) s fun u => Told p .eRange 0 u ∧ Frame Scope.refused s u)
  ∧ (∀ (s : State) (t l : Nat) (p : Port), Takes s p → s.loopReach l = false →
      Answers (.loopClose t p l) s fun u => Told p .eAbsent 0 u ∧ Frame Scope.refused s u)
  ∧ (∀ (s : State) (t l : Nat) (p : Port), Takes s p → s.loopReach l = false →
      Answers (.loopOpen t p l) s fun u => Told p .eAbsent 0 u ∧ Frame Scope.refused s u)

/-- A fault of a sub-gate of a leaf out of reset sets its FAULT and REST, starts its rest of REST_FAULT where none runs, and revokes
its credit at once; one of the B operand of a gate that is not split is a fault of its sub-gate A. The end of the rest clears
REST, and the sub-gate stays dropped. FAULT_CLR while the fault signal is low clears FAULT and REST and takes the sub-gate back;
while the signal is high it changes neither, and a FAULT set at the same stamp stays. A credit window takes every waiting
setting of the leaf's gates. It says where these commands complete: gateFault, restEnd, faultClear, creditWindow. -/
def Obligations.GatesOfALeaf : Prop :=
  (∀ (s : State) (t l q : Nat), s.v .islHeld (leafDom l) = 0 → (s.subGates l).contains q = true →
      (q % 2 = 0 ∨ s.sgEn l q = true) →
      Answers (.gateFault t l q) s fun u => u.sgFault l q = true ∧ u.sgRest l q = true ∧ u.v .bkt l q = min 0 (s.v .bkt l q)
        ∧ u.v .restEnd l q = if s.sgRest l q then s.v .restEnd l q
          else (max s.time t + 1000 * s.par Sec.timing 0x0003 idxAll 0 4 200 : Nat))
  ∧ (∀ (s : State) (t l q : Nat), s.v .islHeld (leafDom l) = 0 → (s.subGates l).contains (q - 1) = true → q % 2 = 1 → s.sgEn l q = false →
      Answers (.gateFault t l q) s fun u => u.sgFault l (q - 1) = true ∧ u.sgRest l (q - 1) = true)
  ∧ (∀ (s : State) (t l q : Nat), s.sgRest l q = true → s.vn .restEnd l q ≤ max s.time t →
      Answers (.restEnd t l q) s fun u => u.sgRest l q = false ∧ u.sgFault l q = s.sgFault l q ∧ u.v .dropped l q = 1)
  ∧ (∀ (s : State) (t l q : Nat), s.leaves.contains l = true → s.v .islHeld (leafDom l) = 0 → s.sgFault l q = true →
      getBits ((s.start t).justSet .LEAF_GATE l (sgPort q)) (53 + q % 2) 1 = 0 →
      Answers (.faultClear t l q true) s fun u => u.sgFault l q = false ∧ u.sgRest l q = false ∧ u.v .dropped l q = 0)
  ∧ (∀ (s : State) (t l q : Nat), getBits ((s.start t).justSet .LEAF_GATE l (sgPort q)) (53 + q % 2) 1 ≠ 0 →
      Answers (.faultClear t l q true) s fun u => u.sgFault l q = s.sgFault l q)
  ∧ (∀ (s : State) (t l q : Nat), Answers (.faultClear t l q false) s fun u => u.sgFault l q = s.sgFault l q ∧ u.sgRest l q = s.sgRest l q
        ∧ u.v .dropped l q = s.v .dropped l q)
  ∧ (∀ (s : State) (t l : Nat) (rows : List (Nat × Nat)), Answers (.creditWindow t l rows) s fun u => ∀ p ∈ s.gates l, u.v .gatePend l p = 0)

/-- A GRANT that reaches the leaf it names is held with its class, rail and amount, and the leaf knows that it has a grant of its
class. A NEED that reaches the node engine it names sets the NEED of the child it names. A request of a package mode in HOLD
sets HUB_MODE.REQ, and PENDING where the mode differs; mode 3, and any mode outside HOLD, is rejected with E_RANGE. At the end
of a LEVEL window the hub clears the times of every sub-gate in the windows that have ended, and in LEVEL mode LEVEL_MISS is set
where a sub-gate was held too long in one of them. It says where these commands complete: grant, need, hubModeReq, levelWindow. -/
def Obligations.GrantsNeedsAndModes : Prop :=
  (∀ (s : State) (t n tag cls rail dest loop amt : Nat), s.delivers (.leaf n) tag = true → dest % 65536 = leafDom n →
      Answers (.grant t (.leaf n) tag cls rail dest loop false amt false) s fun u =>
        ({ dom := leafDom n, cls := cls % 4, rail := rail % 32, loop := none, amt := msgAmt (amt % 2 ^ 25) } : Grant) ∈ u.grants
        ∧ (cls % 4 = 0 → u.v .gotAvg (domNum (leafDom n)) = 1) ∧ (cls % 4 = 1 → u.v .gotFast (domNum (leafDom n)) = 1))
  ∧ (∀ (s : State) (t n tag child weight need : Nat), s.delivers (.node n 0) tag = true → n < 64 →
      Answers (.need t (.node n 0) tag child weight n need) s fun u =>
        u.rd F.NODE_SPLIT_A_NEED n (child % 64 + 1) = need % 2 ^ 25)
  ∧ (∀ (s : State) (t m : Nat) (p : Port), Takes s p → s.pkg = Pkg.hold → m % 4 ≠ 3 →
      Answers (.hubModeReq t p m) s fun u => Told p .ok 0 u ∧ u.rd F.HUB_MODE_REQ = m % 4
        ∧ u.rd F.HUB_MODE_PENDING = b2n (decide (m % 4 ≠ s.mode)))
  ∧ (∀ (s : State) (t m : Nat) (p : Port), Takes s p → (s.pkg ≠ Pkg.hold ∨ m % 4 = 3) →
      Answers (.hubModeReq t p m) s fun u => Told p .eRange 0 u ∧ Frame Scope.refused s u)
  ∧ (∀ (s : State) (t : Nat), s.hubUp = true → s.v .levAt < (max s.time t / 10000000 : Nat) →
      Answers (.levelWindow t) s fun u => u.v .levAt = (max s.time t / 10000000 : Nat)
        ∧ (∀ l ∈ s.leaves, ∀ q ∈ s.subGates l, ∀ n, n < max s.time t / 10000000 → q < 64 → u.v .levHeld l (q + 64 * n) = 0)
        ∧ (∀ l ∈ s.leaves, ∀ q ∈ s.subGates l, ∀ n, n < max s.time t / 10000000 → s.mode = 1 → s.v .levAt ≤ (n : Nat) →
            100000 < s.v .levHeld l (q + 64 * n) → u.rd F.HUB_CAPS_LEVEL_MISS = 1))

/-- A mark ENTER of a slot that is not being invalidated opens a visit of its phase at the mark's stamp, and EXIT leaves the slot in
no phase. A mark of the slot that is being invalidated is held. INV_SLOT clears all 256 entries of its slot and starts the
invalidation, INV_ENTRY clears one entry, and either is rejected with E_OVERRUN while an invalidation runs. The end of the
invalidation clears BUSY. A sample that has closed and was not taken yet, of a visit that held the phase through its window, and
that counts as free or bound, makes that point of the entry valid. The wear pass, when due, starts the exposure of every rail
again. The hub lowers the VF slot of a rail to the lowest slot that has been enough for 1 ms. It says where these commands
complete: strEnter, strExit, invSlot, invEntry, invalidationDone, starterSample, wearPass, vfSlotLower. -/
def Obligations.StarterAndWear : Prop :=
  (∀ (s : State) (t c phase : Nat) (p : Port), Takes s p → Pkg.verify < s.pkg → s.img.active.isSome = true → s.strBusy (c % 16) = false →
      Answers (.strEnter t p c phase) s fun u => u.rd F.STR_CTX_PHASE (c % 16) = phase % 256 ∧ u.rd F.STR_CTX_IN_PHASE (c % 16) = 1
        ∧ u.v .visOpen (c % 16) = (max s.time t : Nat))
  ∧ (∀ (s : State) (t c : Nat) (p : Port), Takes s p → Pkg.verify < s.pkg → s.img.active.isSome = true → s.strBusy (c % 16) = false →
      Answers (.strExit t p c) s fun u => u.rd F.STR_CTX_IN_PHASE (c % 16) = 0)
  ∧ (∀ (s : State) (t c phase : Nat) (p : Port), Takes s p → Pkg.verify < s.pkg → s.img.active.isSome = true → s.strBusy (c % 16) = true →
      Answers (.strEnter t p c phase) s fun u =>
        u.marks = s.marks ++ [{ ctx := c % 16, enter := true, phase := phase % 256, time := max s.time t, port := some p }])
  ∧ (∀ (s : State) (t c : Nat) (p : Port), Takes s p → s.is F.STR_STATUS_BUSY = false →
      Answers (.invSlot t p c) s fun u => Told p .ok 0 u ∧ u.rd F.STR_STATUS_BUSY = 1 ∧ u.rd F.STR_STATUS_BUSY_CTX = c % 16
        ∧ ∀ ph, ph < 256 → ∀ r ∈ [Reg.STR_W0, .STR_W1, .STR_W2, .STR_W3, .STR_W4, .STR_W6], u.reg r (c % 16) ph = 0)
  ∧ (∀ (s : State) (t c ph : Nat) (p : Port), Takes s p → s.is F.STR_STATUS_BUSY = false →
      Answers (.invEntry t p c ph) s fun u => Told p .ok 0 u
        ∧ ∀ r ∈ [Reg.STR_W0, .STR_W1, .STR_W2, .STR_W3, .STR_W4, .STR_W6], u.reg r (c % 16) (ph % 256) = 0)
  ∧ (∀ (s : State) (t c : Nat) (p : Port), Takes s p → s.is F.STR_STATUS_BUSY = true →
      Answers (.invSlot t p c) s fun u => Told p .eOverrun 0 u ∧ Frame Scope.refused s u)
  ∧ (∀ (s : State) (t c ph : Nat) (p : Port), Takes s p → s.is F.STR_STATUS_BUSY = true →
      Answers (.invEntry t p c ph) s fun u => Told p .eOverrun 0 u ∧ Frame Scope.refused s u)
  ∧ (∀ (s : State) (t : Nat), s.is F.STR_STATUS_BUSY = true → Answers (.invalidationDone t) s fun u => u.rd F.STR_STATUS_BUSY = 0)
  ∧ (∀ (s : State) (t k c cyc p : Nat), k ≤ s.vn .smpDone → 0 ≤ s.v .smpDone → s.v .smpNext (c % 16) ≤ (k : Nat) →
      s.smpVisit (c % 16) k = some p → s.v .smpBad (c % 16) k ≠ 1 → s.footAll (c % 16) ≠ 0 →
      s.vn .strWipe (c % 16) p ≤ 10000 * k → s.vn .strWipe (c % 16) 256 ≤ 10000 * k →
      64 * s.vn .smpOth (c % 16) k ≤ cyc → (16 * s.vn .smpBud (c % 16) k ≤ cyc ∨ cyc ≤ 2 * s.vn .smpBud (c % 16) k) →
      Answers (.starterSample t k c cyc) s fun u => u.v .smpNext (c % 16) = (k + 1 : Nat) ∧
        if 16 * s.vn .smpBud (c % 16) k ≤ cyc then u.rd F.STR_W5_VF (c % 16) p = 1 else u.rd F.STR_W5_VB (c % 16) p = 1)
  ∧ (∀ (s : State) (t : Nat) (ages : List (Nat × Nat × Option Nat)), s.wearRuns = true → (s.start t).bgDue 4 = true →
      Answers (.wearPass t ages) s fun u => ∀ r ∈ s.railNums, u.rd F.RAIL_RISE_EXPO_EXPO r = 0 ∧ u.rd F.RAIL_RISE_EXH r = 0)
  ∧ (∀ (s : State) (t r k e : Nat), s.pkg = Pkg.run → s.mode = 0 →
      (s.vfList r).findIdx? (fun x => Nat.beq x.1 (s.rd F.RAIL_VSEL_SEL r)) = some k → e < k →
      0 ≤ s.v .slowSlot r e → s.v .slowSlot r e + 1000000 ≤ (max s.time t : Nat) →
      (∀ x, x < e → ¬ (0 ≤ s.v .slowSlot r x ∧ s.v .slowSlot r x + 1000000 ≤ (max s.time t : Nat))) →
      Answers (.vfSlotLower t r) s fun u => u.rd F.RAIL_VSEL_SEL r = ((s.vfList r).getD e (0, 0)).1)

/-- What each operation does to its object, when a port asks for it and the unit takes it at once. INIT sets type, generation,
target and count. TAG sets the phase tag. ARRIVE of the present generation that does not complete it adds 1 to the count. SIGNAL
adds its amount to a semaphore that nothing waits for. SET and CLEAR of a flag that nothing waits for leave 1 and 0 in the
count. WAIT of a core on a semaphore at 0 adds the lowest free watch of its pool. CANCEL ends the watches of its core on the
object. FREE sets both words of the object to 0. BREAK of an object that nothing waits for and that is neither shaped nor
spanning sets BROKEN. RESET sets the generation and clears BROKEN and the counts. FORCE of a barrier that nothing waits for and
that carries no phase tag completes its generation, and SET_COUNT of a semaphore that nothing waits for sets its count. Each
answers OK. It says where these commands complete: syncInit, syncTag, syncArrive, syncSignal, syncSet, syncClear, syncWait,
syncCancel, syncFree, syncBreak, syncReset, syncForce, syncSetCount. -/
def Obligations.SyncOperations : Prop :=
  (∀ (s : State) (t obj o a0 a1 a2 : Nat) (p : Port) (pg : Option Nat), SyncTakes s p pg 0x01 obj o a0 a1 a2 →
      Answers (.syncInit t (.port p pg) obj a0 a1 a2) s fun u => Told p .ok 0 u ∧ u.objType o = a2 % 8 ∧ u.objGen o = a1 % 65536
        ∧ u.objTarget o = (if a2 % 8 = 1 ∨ a2 % 8 = 4 then a0 % 65536 else 0) ∧ u.objCount o = (if a2 % 8 = 1 ∨ a2 % 8 = 4 then 0 else a0 % 65536))
  ∧ (∀ (s : State) (t obj o a0 a1 a2 : Nat) (p : Port) (pg : Option Nat), SyncTakes s p pg 0x02 obj o a0 a1 a2 →
      Answers (.syncTag t (.port p pg) obj a0 a1 a2) s fun u => Told p .ok 0 u ∧ u.rd F.SYNC_OBJ_A_PTAG_EN o = a0 % 2
        ∧ u.rd F.SYNC_OBJ_A_PTAG_EXIT o = a0 % 65536 / 2 % 2 ∧ u.rd F.SYNC_OBJ_A_PTAG_PHASE o = a2 % 256)
  ∧ (∀ (s : State) (t obj o a0 a1 : Nat) (p : Port) (pg : Option Nat), SyncTakes s p pg 0x03 obj o a0 a1 0 → a1 % 65536 = s.objGen o →
      s.objCount o + 1 < s.objTarget o →
      Answers (.syncArrive t (.port p pg) obj a0 a1 0) s fun u => Told p .ok 0 u ∧ u.objCount o = s.objCount o + 1)
  ∧ (∀ (s : State) (t obj o a0 a1 a2 : Nat) (p : Port) (pg : Option Nat), SyncTakes s p pg 0x04 obj o a0 a1 a2 → s.objW o = [] →
      Answers (.syncSignal t (.port p pg) obj a0 a1 a2) s fun u => Told p .ok 0 u ∧ u.objCount o = s.objCount o + a0 % 65536)
  ∧ (∀ (s : State) (t obj o a0 a1 a2 : Nat) (p : Port) (pg : Option Nat), SyncTakes s p pg 0x05 obj o a0 a1 a2 → s.objW o = [] →
      Answers (.syncSet t (.port p pg) obj a0 a1 a2) s fun u => Told p .ok 0 u ∧ u.objCount o = 1)
  ∧ (∀ (s : State) (t obj o a0 a1 a2 : Nat) (p : Port) (pg : Option Nat), SyncTakes s p pg 0x06 obj o a0 a1 a2 →
      Answers (.syncClear t (.port p pg) obj a0 a1 a2) s fun u => Told p .ok 0 u ∧ u.objCount o = 0)
  ∧ (∀ (s : State) (t obj o a0 a1 a2 i : Nat) (p : Port) (pg : Option Nat), SyncTakes s p pg 0x07 obj o a0 a1 a2 → s.objType o = 2 → s.objCount o = 0 →
      s.watchFree pg = some i →
      Answers (.syncWait t (.port p pg) obj a0 a1 a2) s fun u => Told p .ok 0 u ∧ u.sync.watches = s.sync.watches ++
        [{ idx := i, obj := o, core := true, one := bitOf (a2 % 256) 5, ctx := (s.slotOf o).getD 0, gen := 0, leaf := a0 % 65536 % 512,
           wid := a0 % 65536 / 512, time := max s.time t }])
  ∧ (∀ (s : State) (t obj o a0 a1 a2 : Nat) (p : Port) (pg : Option Nat), SyncTakes s p pg 0x08 obj o a0 a1 a2 →
      Answers (.syncCancel t (.port p pg) obj a0 a1 a2) s fun u => Told p .ok 0 u ∧ ∀ w, w ∈ u.sync.watches ↔
        w ∈ s.sync.watches ∧ ¬ (w.obj = o ∧ w.core = true ∧ w.leaf = a0 % 65536 % 512 ∧ w.wid = a0 % 65536 / 512))
  ∧ (∀ (s : State) (t obj o a0 a1 a2 : Nat) (p : Port) (pg : Option Nat), SyncTakes s p pg 0x09 obj o a0 a1 a2 → s.objType o ≠ 4 →
      Answers (.syncFree t (.port p pg) obj a0 a1 a2) s fun u => Told p .ok 0 u ∧ u.reg .SYNC_OBJ_A o = 0 ∧ u.reg .SYNC_OBJ_B o = 0)
  ∧ (∀ (s : State) (t obj o a0 a1 a2 : Nat) (p : Port) (pg : Option Nat), SyncTakes s p pg 0x0A obj o a0 a1 a2 → s.objW o = [] → s.objType o ≠ 4 →
      s.is F.SYNC_OBJ_A_SHAPE_EN o = false →
      Answers (.syncBreak t (.port p pg) obj a0 a1 a2) s fun u => Told p .ok 0 u ∧ u.rd F.SYNC_OBJ_A_BROKEN o = 1)
  ∧ (∀ (s : State) (t obj o a0 a1 a2 : Nat) (p : Port) (pg : Option Nat), SyncTakes s p pg 0x0B obj o a0 a1 a2 → s.objType o ≠ 4 →
      Answers (.syncReset t (.port p pg) obj a0 a1 a2) s fun u => Told p .ok 0 u ∧ u.objGen o = a1 % 65536 ∧ u.rd F.SYNC_OBJ_A_BROKEN o = 0
        ∧ u.objCount o = 0 ∧ u.rd F.SYNC_OBJ_B_NEXT o = 0)
  ∧ (∀ (s : State) (t obj o a0 a1 a2 : Nat) (p : Port), SyncTakes s p none 0x10 obj o a0 a1 a2 → s.objW o = [] →
      s.is F.SYNC_OBJ_A_PTAG_EN o = false → s.rd F.SYNC_OBJ_B_NEXT o ≠ s.objTarget o →
      Answers (.syncForce t (.port p none) obj a0 a1 a2) s fun u => u.objGen o = (s.objGen o + 1) % 65536 ∧ u.objCount o = s.rd F.SYNC_OBJ_B_NEXT o)
  ∧ (∀ (s : State) (t obj o a0 a1 a2 : Nat) (p : Port), SyncTakes s p none 0x11 obj o a0 a1 a2 → s.objType o = 2 → s.objW o = [] →
      Answers (.syncSetCount t (.port p none) obj a0 a1 a2) s fun u => Told p .ok 0 u ∧ u.objCount o = a0 % 65536)

/-- CTX_SWITCH by a port marks its slot as switching, with BUSY and a new epoch of the slot, and answers OK; while a switch runs it
is answered E_OVERRUN. The end of a switch of a slot without spanning objects clears BUSY and SWITCHING and leaves no watch of
the slot. The mirror's confirmation of the oldest of what is held, a batch or a response of the register port, shows how long it
waited, and a response is given. The report that the channel to a domain is absent frees every watch beneath the domain and
counts the absences. When the stagger of a spanning object that nothing waits for, and that carries no phase tag, is over, its
generation completes. It says where these commands complete: ctxSwitch, ctxSwitchDone, mirrorConfirm, syncAbsentReport,
spanStaggerExpiry. -/
def Obligations.SyncSwitchAndMirror : Prop :=
  (∀ (s : State) (t obj a0 a1 a2 : Nat) (p : Port), Takes s p → a2 % 256 < 16 → s.is F.SYNC_STATUS_SWITCH_BUSY = false → s.sync.cur = [] →
      s.mirrorOn = false →
      Answers (.ctxSwitch t (.port p none) obj a0 a1 a2) s fun u => Told p .ok 0 u ∧ u.rd F.SYNC_CTX_SWITCHING (a2 % 256) = 1
        ∧ u.rd F.SYNC_CTX_CEPOCH (a2 % 256) = (s.rd F.SYNC_CTX_CEPOCH (a2 % 256) + 1) % 16 ∧ u.rd F.SYNC_STATUS_SWITCH_BUSY = 1
        ∧ u.rd F.SYNC_STATUS_SWITCH_CTX = a2 % 256)
  ∧ (∀ (s : State) (t obj a0 a1 a2 : Nat) (p : Port), Takes s p → a2 % 256 < 16 → s.is F.SYNC_STATUS_SWITCH_BUSY = true →
      Answers (.ctxSwitch t (.port p none) obj a0 a1 a2) s fun u => Told p .eOverrun 0 u ∧ u.reg .SYNC_CTX (a2 % 256) = s.reg .SYNC_CTX (a2 % 256))
  ∧ (∀ (s : State) (t c : Nat), s.is F.SYNC_STATUS_SWITCH_BUSY = true → s.rd F.SYNC_STATUS_SWITCH_CTX = c → s.sync.cur = [] →
      (∀ o ∈ s.slotObjs c, s.objType o ≠ 4) →
      Answers (.ctxSwitchDone t) s fun u => u.rd F.SYNC_STATUS_SWITCH_BUSY = 0 ∧ u.rd F.SYNC_CTX_SWITCHING c = 0
        ∧ ∀ w ∈ u.sync.watches, s.slotOf w.obj ≠ some c)
  ∧ (∀ (s : State) (t t0 : Nat) (l : List SyncOut) (r : List (Nat × List SyncOut)), s.sync.held = (t0, l) :: r → (∀ x ∈ s.ansHeld.head?, t0 ≤ x.time) →
      Answers (.mirrorConfirm t) s fun u => u.rd F.MIR_LAG_CONF_LAST = min (2 ^ F.MIR_LAG_CONF_LAST.w - 1) (max s.time t - t0))
  ∧ (∀ (s : State) (t : Nat) (x : AnsHeld) (r : List AnsHeld), s.ansHeld = x :: r → (∀ h ∈ s.sync.held.head?, x.time < h.1) → x.st = .ok →
      Answers (.mirrorConfirm t) s fun u => u.rd F.MIR_LAG_CONF_LAST = min (2 ^ F.MIR_LAG_CONF_LAST.w - 1) (max s.time t - x.time)
        ∧ u.ansHeld = r ∧ Told x.port .ok x.data u)
  ∧ (∀ (s : State) (t d : Nat), s.sync.cur = [] → (∀ x ∈ s.sync.claims, s.beneath (leafDom x.1.leaf) d = false) →
      Answers (.syncAbsentReport t d) s fun u => u.sync.watches = s.sync.watches.filter (fun w => !s.beneath (leafDom w.leaf) d)
        ∧ u.rd F.SYNC_STATUS_ABSENT = min (2 ^ F.SYNC_STATUS_ABSENT.w - 1)
            (s.rd F.SYNC_STATUS_ABSENT + (s.sync.watches.filter fun w => s.beneath (leafDom w.leaf) d).length))
  ∧ (∀ (s : State) (t o : Nat), 0 ≤ s.v .spAt o → s.v .spAt o ≤ 1000 * (max s.time t : Nat) → s.objW o = [] →
      s.is F.SYNC_OBJ_A_PTAG_EN o = false → s.rd F.SYNC_OBJ_B_NEXT o ≠ s.objTarget o → s.sync.cur = [] → s.mirrorOn = false →
      Answers (.spanStaggerExpiry t o) s fun u => u.objGen o = (s.objGen o + 1) % 65536 ∧ u.objCount o = s.rd F.SYNC_OBJ_B_NEXT o ∧ u.v .spAt o = -1)

/-- A sync operation of a ready sub-gate to the hub is taken, and the leaf holds it as outstanding with the gate's slot and epoch.
One to an object of the leaf that does not exist is answered E_RANGE. A RELEASE at a leaf ends the wait of every sub-gate it
matches, and counts a shaped release. A DIRECT for a core wakes its port, and one that answers the outstanding operation of a
sub-gate ends it. CTX_CLEAR at a leaf sets the epoch of its slot. A write of a leaf's sync object sets its fields and enables it
where its target is from 1 to 64, answers E_RANGE for another target, and disables it where EN is 0. It says where these
commands complete: gateSyncOp, release, direct, ctxClear, lsyncWrite. -/
def Obligations.SyncAtTheLeaves : Prop :=
  (∀ (s : State) (t l q sop obj arg : Nat) (m : Bool), (s.subGates l).contains q = true → s.sgReady l q = true →
      Answers (.gateSyncOp t l q sop false obj arg m) s fun u => Out.sack l q ∈ u.out
        ∧ u.outOp l q = some (sop % 8, s.leafEpoch l (s.sgCtx l q), s.sgCtx l q, obj % 2048))
  ∧ (∀ (s : State) (t l q sop obj arg : Nat) (m : Bool), (s.subGates l).contains q = true → s.sgReady l q = true → 8 ≤ obj % 2048 →
      Answers (.gateSyncOp t l q sop true obj arg m) s fun u => Out.sack l q ∈ u.out ∧ Out.srsp l q Status.eRange.code ∈ u.out)
  ∧ (∀ (s : State) (t tag l ctx lobj gen st shape : Nat) (busy : List Nat), s.delivers (.leaf l) tag = true →
      Answers (.release t (.leaf l) tag ctx lobj gen st shape busy) s fun u =>
        ∀ q ∈ s.subGates l, s.relMatch l q (ctx % 16) (lobj % 2048) (gen % 1024) = true → u.waiting l q = false ∧ u.v .sgOut l q = 0)
  ∧ (∀ (s : State) (t tag l ctx lobj gen st wid : Nat) (wk : Bool), s.delivers (.leaf l) tag = true →
      Answers (.direct t (.leaf l) tag ctx lobj gen st l true wid wk) s fun u => Out.wake l wid ∈ u.out)
  ∧ (∀ (s : State) (t tag l ctx lobj gen st wid sop : Nat), s.delivers (.leaf l) tag = true →
      s.outOp l (wid % 64) = some (sop, s.leafEpoch l (ctx % 16), ctx % 16, lobj % 2048) → s.waiting l (wid % 64) = false →
      Answers (.direct t (.leaf l) tag ctx lobj gen st l false wid false) s fun u => u.v .sgOut l (wid % 64) = 0
        ∧ Out.srsp l (wid % 64) (st % 256) ∈ u.out)
  ∧ (∀ (s : State) (t tag l c ep : Nat), s.delivers (.leaf l) tag = true →
      Answers (.ctxClear t (.leaf l) tag c ep) s fun u => u.leafEpoch l (c % 16) = ep % 16)
  ∧ (∀ (s : State) (t l k w : Nat), w % 2 = 1 → 1 ≤ w / 64 % 128 → w / 64 % 128 ≤ 64 → s.is F.LEAF_LSYNC_EN l (k % 8) = false →
      Answers (.lsyncWrite t l k w) s fun u => Out.status (leafDom l) .ok ∈ u.out ∧ u.rd F.LEAF_LSYNC_EN l (k % 8) = 1
        ∧ u.rd F.LEAF_LSYNC_TARGET l (k % 8) = w / 64 % 128 ∧ u.rd F.LEAF_LSYNC_CTX l (k % 8) = w / 4 % 16 ∧ u.rd F.LEAF_LSYNC_TYPE l (k % 8) = w / 2 % 2)
  ∧ (∀ (s : State) (t l k w : Nat), w % 2 = 1 → (w / 64 % 128 = 0 ∨ 64 < w / 64 % 128) →
      Answers (.lsyncWrite t l k w) s fun u => Out.status (leafDom l) .eRange ∈ u.out ∧ Frame Scope.none s u)
  ∧ (∀ (s : State) (t l k w : Nat), w % 2 = 0 →
      Answers (.lsyncWrite t l k w) s fun u => Out.status (leafDom l) .ok ∈ u.out ∧ u.rd F.LEAF_LSYNC_EN l (k % 8) = 0)

/-- The samples of a present detector set FILL and its code, and the last of enough samples at or under its threshold trips an
enabled detector. When SCORE's hold is over, its ramp starts. A calibration that its conditions allow sets CODE_CAL and
CAL_VALID and ends the request. CAL_REQ for a detector of a reachable leaf is taken, and refused with E_ABSENT where the leaf is
out of reach. A calibration that is older than its limit is marked stale. It says where these commands complete: scoreTrip,
scoreHoldExpiry, ddCalibrate, ddCalReq, ddCalStale. -/
def Obligations.DroopAndScore : Prop :=
  (∀ (s : State) (t d c : Nat) (fill : Bool), s.ddPresent d = true →
      Answers (.scoreTrip t d fill [c]) s fun u => u.rd F.DD_THR_FILL d = b2n fill ∧ u.rd F.DD_THR_CODE d = c % 256
        ∧ (c % 256 ≤ u.rd F.DD_THR_THR_CODE d → s.is F.DD_CTRL_EN d = true → (s.par Sec.droop 0x0005 d 0 1 2 : Int) ≤ s.v .ddRun d + 1 →
            u.rd F.DD_STAT_TRIP d = 1))
  ∧ (∀ (s : State) (t l p : Nat), s.v .scoreCode l p < 256 → s.v .scRamp l p = 0 → s.vn .scHold l p ≤ max s.time t →
      Answers (.scoreHoldExpiry t l p) s fun u => u.v .scRamp l p = 1)
  ∧ (∀ (s : State) (t d sum : Nat), s.ddPresent d = true → (s.pkg = Pkg.run ∨ s.pkg = Pkg.hold) →
      (s.start t).ddIdle ((s.ddLeaf d).getD 0) d (1000 * s.par Sec.droop 0x000C ((s.ddLeaf d).getD 0) 0 2 2) = true →
      s.rd F.RAIL_FUSE_STATUS_STATE (s.rd F.DD_MAP_RAIL d) = 0 →
      s.vn .fuseAt (s.rd F.DD_MAP_RAIL d) + 1000 * s.par Sec.droop 0x000C ((s.ddLeaf d).getD 0) 0 2 2 ≤ max s.time t →
      s.vn .refAt (s.rd F.DD_MAP_RAIL d) + 1000 * s.par Sec.droop 0x000C ((s.ddLeaf d).getD 0) 0 2 2 ≤ max s.time t →
      Answers (.ddCalibrate t d sum) s fun u => u.rd F.DD_CAL_CODE_CAL d = (roundDiv sum 256).toNat % 2 ^ F.DD_CAL_CODE_CAL.w
        ∧ u.rd F.DD_CAL_CAL_VALID d = 1 ∧ u.v .ddReq d = 0)
  ∧ (∀ (s : State) (t d l : Nat) (p : Port), Takes s p → s.ddLeaf d = some l → s.pathUpTo (leafDom l) = true →
      Answers (.ddCalReq t p d) s fun u => Told p .ok 0 u ∧ u.v .ddReq d = 1)
  ∧ (∀ (s : State) (t d l : Nat) (p : Port), Takes s p → s.ddLeaf d = some l → s.pathUpTo (leafDom l) = false →
      Answers (.ddCalReq t p d) s fun u => Told p .eAbsent 0 u ∧ Frame Scope.refused s u)
  ∧ (∀ (s : State) (t d : Nat), s.ddPresent d = true → s.vn .ddCalAt d + 1000000 * s.par Sec.droop 0x000D idxAll 0 4 1000 ≤ max s.time t →
      Answers (.ddCalStale t d) s fun u => u.rd F.DD_CAL_CAL_STALE d = 1)

/-- A RISE request opens for an object and a rail when the step expected of the object's slot reaches the rail's threshold and RISE
may act, and RISE_REQS counts it. When requests end, no request is live past its end. A request that times out is no longer
live, and RISE_TIMEOUT counts it. The offset of a rail that is not at its target moves by one step. A rail whose exposure has
reached its limit is exhausted. A sub-gate that a wave holds is released at its time. It says where these commands complete:
riseOpen, riseEnd, riseTimeout, riseSlewStep, riseExhausted, waveRelease. -/
def Obligations.RiseAndWaves : Prop :=
  (∀ (s : State) (t o r c di : Nat), 0 ≤ s.v .obThat o → s.v .obThat o - s.riseLead r ≤ (max s.time t : Nat) → s.allRails.contains r = true →
      s.is F.SHP_CTRL_RISE_EN = true → s.is F.RAIL_RISE_EXH r = false → (s.pkg = Pkg.run ∨ s.pkg = Pkg.hold) →
      (s.sync.rise.any fun q => Nat.beq q.obj o && Nat.beq q.gen (s.objGen o) && Nat.beq q.rail r && q.post.isNone) = false →
      s.slotOf o = some c → s.riseStep o c r = some di → di ≠ 0 → s.shp 0x0006 r 4 0xFFFF_FFFF ≤ di →
      Answers (.riseOpen t o r) s fun u => u.sync.rise = s.sync.rise ++
          [{ obj := o, gen := s.objGen o, rail := r, opened := max s.time t, live := true, post := none, stop := none,
             amp := s.shp 0x0001 r 2 40, life := s.shp 0x0004 r 2 20000, after := s.shp 0x0005 r 2 2000 }]
        ∧ u.rd F.SHP_STATUS_RISE_REQS = min (2 ^ F.SHP_STATUS_RISE_REQS.w - 1) (s.rd F.SHP_STATUS_RISE_REQS + 1))
  ∧ (∀ (s : State) (t : Nat), Answers (.riseEnd t) s fun u => ∀ q ∈ u.sync.rise, q.live = true → ∀ x, q.stop = some x → max s.time t < x)
  ∧ (∀ (s : State) (t o r : Nat) (q : RiseReq), q ∈ s.sync.rise → q.live = true → q.obj = o → q.rail = r → q.post = none →
      q.opened + q.life ≤ max s.time t →
      Answers (.riseTimeout t o r) s fun u => q ∉ u.sync.rise
        ∧ u.rd F.SHP_STATUS_RISE_TIMEOUT = min (2 ^ F.SHP_STATUS_RISE_TIMEOUT.w - 1) (s.rd F.SHP_STATUS_RISE_TIMEOUT
            + (s.sync.rise.filter fun x => x.live && (Nat.beq x.obj o && Nat.beq x.rail r && x.post.isNone
                && Nat.ble (x.opened + x.life) (max s.time t))).length))
  ∧ (∀ (s : State) (t r : Nat), s.v .riseOff r ≠ s.rd F.RAIL_RISE_TARGET r → 500 ≤ (max s.time t - s.vn .riseAt r) * s.vn .riseSlew r →
      Answers (.riseSlewStep t r) s fun u =>
        u.v .riseOff r = if s.v .riseOff r < s.rd F.RAIL_RISE_TARGET r then s.v .riseOff r + 1 else s.v .riseOff r - 1)
  ∧ (∀ (s : State) (t r : Nat), s.is F.RAIL_RISE_EXH r = false → 1000 * s.shp 0x0007 r 4 50000 ≤ s.rd F.RAIL_RISE_EXPO_EXPO r →
      Answers (.riseExhausted t r) s fun u => u.rd F.RAIL_RISE_EXH r = 1 ∧ u.rd F.RAIL_RISE_EXH_SEEN r = 1)
  ∧ (∀ (s : State) (t l q : Nat), s.v .proofHold l q = 1 → s.vn .wvAt l q ≤ max s.time t → s.crustStop = false →
      Answers (.waveRelease t l q) s fun u => u.v .proofHold l q = 0 ∧ Out.srsp l q (s.vn .wvStat l q) ∈ u.out)

/-- At a cycle start of a channel in service the cycle before it ends: its mean sample is stored and counted, its on-time is the one
that its current gives, a limit that it met is seen, and the channel starts the next cycle there. A sample of a rail's output at
its loop's grid is shown, and in MEASURE it is summed. Sixteen samples of MEASURE give V_PRE. A rail in ON whose reference is
not at its target and whose step is due moves by one step. A starting rail that has been in range at its target for its delay is
ON. A phase fault takes the phase out, and is seen and counted. Each holds outside RAMP and while no orderly stop runs, which
may move other rails in the same step. It says where these commands complete: phaseCycle, railLoopSample, measDone, slewStep,
targetPg, phaseFault. -/
def Obligations.RailStepsAndPhases : Prop :=
  (∀ (s : State) (t p tick : Nat) (cur : List (Nat × Int)) (mean : Int) (range fault : Bool) (y : Cyc), s.pkg ≠ Pkg.ramp → s.v .downFor = 0 →
      (s.inst? 0x0A p).isSome = true → (s.rd F.PH_STAT_PHST p = 1 ∨ s.rd F.PH_STAT_PHST p = 2) →
      (s.start t).phTick (s.phRail p) p = some tick → 0 ≤ s.v .phStart p →
      y = cycRun ⟨s.v .phU p, s.rd F.RAIL_PCM_SLOPE (s.phRail p), s.ipkLim (s.phRail p), s.negLim (s.phRail p), s.perTicks (s.phRail p),
        s.is F.RAIL_STATE_NOSINK (s.phRail p)⟩ cur →
      Answers (.phaseCycle t p cur mean range fault) s fun u => u.rdI F.PH_SAMPLE_I p = satS 32 mean
        ∧ u.v .phN p (max s.time t / 1000) = s.v .phN p (max s.time t / 1000) + 1 ∧ u.v .phTon p = y.ton
        ∧ (y.cbc = true → u.rd F.PH_STAT_CBC_SEEN p = 1) ∧ (y.neg = true → u.rd F.PH_STAT_NEG_SEEN p = 1)
        ∧ (s.rd F.PH_STAT_PHST p = 1 → s.v .phStop p = 0 → u.v .phStart p = tick ∧ u.v .phPwm p = 1))
  ∧ (∀ (s : State) (t r vs tick : Nat), s.pkg ≠ Pkg.ramp → s.v .downFor = 0 → (s.rail? r).isSome = true → s.monitored r = false →
      s.railSt r = Rs.measure → s.v .measN r < 16 → (s.start t).rlTick r = some tick →
      Answers (.railLoopSample t r vs false) s fun u => u.v .rlTick r = tick ∧ u.rd F.RAIL_STATE_VSENSE r = min 4095 vs ∧ u.v .measSum r = s.v .measSum r + vs
        ∧ u.v .measN r = s.v .measN r + 1)
  ∧ (∀ (s : State) (t r : Nat), s.pkg ≠ Pkg.ramp → s.v .downFor = 0 → s.railSt r = Rs.measure → 16 ≤ s.v .measN r →
      Answers (.measDone t r) s fun u => u.rd F.RAIL_STATE_V_PRE r = (roundDiv (s.v .measSum r) 16).toNat % 4096)
  ∧ (∀ (s : State) (t r : Nat), s.pkg ≠ Pkg.ramp → s.v .downFor = 0 → s.railSt r = Rs.on →
      s.rd F.RAIL_VSEL_BASE_REF r < s.rd F.RAIL_VSEL_BASE_TGT r → s.vn .slewAt r + stepNs (s.slewRate r 0) ≤ max s.time t →
      Answers (.slewStep t r) s fun u => u.rd F.RAIL_VSEL_BASE_REF r = s.rd F.RAIL_VSEL_BASE_REF r + 1)
  ∧ (∀ (s : State) (t r : Nat), s.pkg ≠ Pkg.ramp → s.v .downFor = 0 → s.railSt r = Rs.on →
      s.rd F.RAIL_VSEL_BASE_TGT r < s.rd F.RAIL_VSEL_BASE_REF r → s.vn .slewAt r + stepNs (s.slewRate r 1) ≤ max s.time t →
      Answers (.slewStep t r) s fun u => u.rd F.RAIL_VSEL_BASE_REF r = s.rd F.RAIL_VSEL_BASE_REF r - 1)
  ∧ (∀ (s : State) (t r : Nat), s.pkg ≠ Pkg.ramp → s.v .downFor = 0 → (s.railSt r = Rs.startNs ∨ s.railSt r = Rs.soft) →
      s.rd F.RAIL_VSEL_REF r = s.startTarget r → 0 ≤ s.v .pgFrom r → s.v .pgFrom r + 1000 * s.pgDly r ≤ (max s.time t : Nat) →
      Answers (.targetPg t r) s fun u => u.railSt r = Rs.on ∧ u.rd F.RAIL_STATE_PG r = 1)
  ∧ (∀ (s : State) (t p : Nat), s.pkg ≠ Pkg.ramp → s.v .downFor = 0 → (s.inst? 0x0A p).isSome = true →
      Answers (.phaseFault t p) s fun u => u.rd F.PH_STAT_PHST p = 3 ∧ u.rd F.PH_STAT_FAULT_SEEN p = 1
        ∧ u.rd F.PH_STAT_FAULTS p = min (2 ^ F.PH_STAT_FAULTS.w - 1) (s.rd F.PH_STAT_FAULTS p + 1))

/-- A write of VSEL in HOLD selects its slot, one of VSLOT within the rail's limits sets its code; outside HOLD or the limits each
is rejected with E_RANGE, and for an absent rail with E_ABSENT. CLR_FAULT of a phase whose fault signal is high takes the phase
out of FAULT; otherwise it is rejected with E_RANGE. CAL_REQ of a phase is held. A calibration of a phase that stands idle is
stored. Shedding that was confirmed and checked ends, at the next cycle start of the shed position, with SHEDS counted and its
PEN low 200 ns later; where the loop samples at the same stamp, it ends after that sample (said where no ramp runs and no reset
is planned), and shedding whose confirmation is late ends with ABORTS counted. A shed command at a leaf holds its gates for 2 µs
where the rail is the leaf's issue rail, and the hold lapses. The references of a leaf's rails are sent when they differ from
those sent, and a leaf takes them. It says where these commands complete: railVselWrite, railVslotWrite, clrFault, phCalReq,
isnsCalibration, shedDisable, shedTimeout, leafShed, shedHoldExpiry, leafVrefCheck, leafVref. -/
def Obligations.RailCommandsAndShedding : Prop :=
  (∀ (s : State) (t r k : Nat) (p : Port), Takes s p → (s.rail? r).isSome = true → s.pkg = Pkg.hold →
      Answers (.railVselWrite t p r k) s fun u => Told p .ok 0 u ∧ u.rd F.RAIL_VSEL_SEL r = k % 8 ∧ u.rd F.RAIL_VSEL_FW r = 1)
  ∧ (∀ (s : State) (t r k : Nat) (p : Port), Takes s p → (s.rail? r).isSome = true → s.pkg ≠ Pkg.hold →
      Answers (.railVselWrite t p r k) s fun u => Told p .eRange 0 u ∧ Frame Scope.refused s u)
  ∧ (∀ (s : State) (t r k : Nat) (p : Port), Takes s p → (s.rail? r).isSome = false →
      Answers (.railVselWrite t p r k) s fun u => Told p .eAbsent 0 u ∧ Frame Scope.refused s u)
  ∧ (∀ (s : State) (t r k code : Nat) (p : Port), Takes s p → (s.rail? r).isSome = true → s.rd F.RAIL_LIM_VMIN r ≤ code →
      code ≤ s.rd F.RAIL_LIM_VMAX r →
      Answers (.railVslotWrite t p r k code) s fun u => Told p .ok 0 u ∧ u.rd F.RAIL_VSLOT_CODE r (k % 8) = code)
  ∧ (∀ (s : State) (t r k code : Nat) (p : Port), Takes s p → (s.rail? r).isSome = true →
      (code < s.rd F.RAIL_LIM_VMIN r ∨ s.rd F.RAIL_LIM_VMAX r < code) →
      Answers (.railVslotWrite t p r k code) s fun u => Told p .eRange 0 u ∧ Frame Scope.refused s u)
  ∧ (∀ (s : State) (t ph : Nat) (p : Port), Takes s p → (s.inst? 0x0A ph).isSome = true →
      Answers (.clrFault t p ph true) s fun u => Told p .ok 0 u ∧ u.rd F.PH_STAT_FAULT_N ph = 1 ∧ u.rd F.PH_STAT_PHST ph ≠ 3)
  ∧ (∀ (s : State) (t ph : Nat) (p : Port), Takes s p → (s.inst? 0x0A ph).isSome = true →
      Answers (.clrFault t p ph false) s fun u => Told p .eRange 0 u ∧ Frame Scope.refused s u)
  ∧ (∀ (s : State) (t ph : Nat) (p : Port), Takes s p → (s.inst? 0x0A ph).isSome = true →
      Answers (.phCalReq t p ph) s fun u => Told p .ok 0 u ∧ u.v .phCalReq ph = 1)
  ∧ (∀ (s : State) (t ph : Nat) (ofs : Int), (s.inst? 0x0A ph).isSome = true → (s.start t).phCalReady ph = true →
      (s.v .phCalDone ph = 0 ∨ s.v .phCalReq ph = 1) →
      Answers (.isnsCalibration t ph ofs) s fun u => u.rdI F.PH_CAL_ISNS_OFS ph = satS 16 ofs ∧ u.rd F.PH_CAL_CAL_VALID ph = 1 ∧ u.v .phCalReq ph = 0)
  ∧ (∀ (s : State) (t r p tick : Nat) (ps : List Nat), s.pkg ≠ Pkg.ramp → s.v .downFor = 0 → s.islPlanned = false → s.phIn r 2 = p :: ps →
      (s.start t).phTick r p = some tick → s.shedReady r tick = true → (s.start t).rlTick r = none →
      Answers (.shedDisable t r) s fun u => u.rd F.RAIL_SHED_STAT_SHST r = 0
        ∧ u.rd F.RAIL_SHED_STAT_SHEDS r = min 0xFFFF (s.rd F.RAIL_SHED_STAT_SHEDS r + 1) ∧ u.v .phOffAt p = (max s.time t + 200 : Nat))
  ∧ (∀ (s : State) (t r p tick : Nat) (ps : List Nat), s.pkg ≠ Pkg.ramp → s.v .downFor = 0 → s.phIn r 2 = p :: ps →
      (s.start t).phTick r p = some tick → s.shedReady r tick = true → ((s.start t).rlTick r).isSome = true →
      Answers (.shedDisable t r) s fun u => u.v .shedPendAt r = (max s.time t : Nat))
  ∧ (∀ (s : State) (t r : Nat), s.rd F.RAIL_SHED_STAT_SHST r = 2 → s.vn .shedAt r + 1000 ≤ max s.time t →
      Answers (.shedTimeout t r) s fun u => u.rd F.RAIL_SHED_STAT_SHST r = 0
        ∧ u.rd F.RAIL_SHED_STAT_ABORTS r = min 0xFFFF (s.rd F.RAIL_SHED_STAT_ABORTS r + 1))
  ∧ (∀ (s : State) (t l r : Nat), Answers (.leafShed t l r) s fun u => u.rd F.LEAF_SHED_RAIL l = r % 32
        ∧ (s.issueRail l = some (r % 32) → u.rd F.LEAF_SHED_HOLD l = 1))
  ∧ (∀ (s : State) (t l : Nat), s.is F.LEAF_SHED_HOLD l = true →
      2 ^ 31 ≤ (s.rd F.LEAF_SHED_EXPIRE l + 2 ^ 32 - (s.start t).islNow (leafDom l) % 2 ^ 32 - 1) % 2 ^ 32 →
      Answers (.shedHoldExpiry t l) s fun u => u.rd F.LEAF_SHED_HOLD l = 0)
  ∧ (∀ (s : State) (t l : Nat), max s.time t % 500 = 0 → (∃ x ∈ s.vrefs l, s.v .vrefSent l x.1 ≠ (x.2 : Int)) →
      (s.hubCmd (leafDom l) 3 (islOff .LEAF_VREF 0) (vrefWord (s.vrefs l)) .own).1 = true →
      Answers (.leafVrefCheck t l) s fun u => ∀ x ∈ s.vrefs l, u.v .vrefSent l x.1 = (x.2 : Int))
  ∧ (∀ (s : State) (t l w : Nat), Answers (.leafVref t l w) s fun u => u.reg .LEAF_VREF l = (BitVec.ofNat 64 w &&& 0x0FFF0FFF0FFF0FFF))

/-- The first conversion of a period of an enabled site is stored with its offset and counted, and one of a site that was enabled
before the period began, that is valid and below SHUTDOWN, becomes the site's temperature. A conversion that grows too old is no
longer valid. Each period a leaf stores its temperature and its band. A report at the hub is kept for its leaf, and lapses when
it is too old. A calibration pass that is due starts every site's pairs again, and its end counts it. CAL_RST of a site that is
present clears its offset and BAD. A leaf whose sites have had no valid conversion for STALE_MAX enters sensor loss. It says
where these commands complete: tsConversionDone, conversionLapse, leafTempPeriod, tempReport, reportLapse, calPassStart,
calPassEnd, calRst, sensorLoss. -/
def Obligations.SitesAndReports : Prop :=
  (∀ (s : State) (t n : Nat) (raw : Int) (y : InstRec), s.inst? 7 n = some y → s.is F.TS_CTRL_EN n = true →
      (y.owner = hubDom ∧ s.hubUp = true ∨ y.owner ≠ hubDom ∧ s.v .islFields y.owner = 1) → n < 0x8000 →
      s.v .tsDone n ≠ (max s.time t / 20000 + 1 : Nat) →
      Answers (.tsConversionDone t n raw true) s fun u => u.rdI F.TS_VAL_TEMP n = satS 16 (raw + (s.start t).corrOf n)
        ∧ u.rd F.TS_VAL_FAULT n = 1 ∧ u.rd F.TS_STAT_CONV n = (s.rd F.TS_STAT_CONV n + 1) % 2 ^ F.TS_STAT_CONV.w)
  ∧ (∀ (s : State) (t n : Nat) (raw x : Int) (y : InstRec), s.inst? 7 n = some y → s.is F.TS_CTRL_EN n = true →
      (y.owner = hubDom ∧ s.hubUp = true ∨ y.owner ≠ hubDom ∧ s.v .islFields y.owner = 1) → n < 0x8000 →
      s.v .tsDone n ≠ (max s.time t / 20000 + 1 : Nat) → x = satS 16 (raw + (s.start t).corrOf n) → -2560 ≤ x → x ≤ 9600 →
      x < (s.thrOf n 2).1 → s.is F.TS_CAL_BAD n = false → s.vn .tsEn n ≤ 20000 * (max s.time t / 20000) + 1 →
      Answers (.tsConversionDone t n raw false) s fun u => u.v .tsGood n = x ∧ u.v .tsGoodAt n = (max s.time t : Nat) ∧ u.rd F.TS_VAL_VALID n = 1)
  ∧ (∀ (s : State) (t n : Nat), (s.start t).siteTemp? n = none → Answers (.conversionLapse t n) s fun u => u.rd F.TS_VAL_VALID n = 0)
  ∧ (∀ (s : State) (t l : Nat), s.v .islFields (leafDom l) = 1 → s.v .ltPer l ≠ (max s.time t / 20000 + 1 : Nat) →
      Answers (.leafTempPeriod t l) s fun u => u.rd F.LEAF_THERM_HOT_SITE l = ((s.start t).leafTempOf l).2.1 % 2 ^ F.LEAF_THERM_HOT_SITE.w
        ∧ u.rd F.LEAF_THERM_BAND l = s.bandNext (s.rd F.LEAF_THERM_BAND l) ((s.start t).leafTempOf l).1 % 8
        ∧ u.rd F.LEAF_THERM_FALLBACK l = b2n ((s.start t).leafTempOf l).2.2)
  ∧ (∀ (s : State) (t tag k band level leaf seq site : Nat) (x : Int) (fb loss : Bool), s.delivers (.hub k) tag = true →
      Answers (.tempReport t (.hub k) tag x band level fb loss leaf seq site) s fun u => u.v .repTemp leaf 0 = x
        ∧ u.v .repAt leaf 0 = (max s.time t : Nat) ∧ u.v .repBand leaf = (min 5 band : Nat) ∧ u.v .repLevel leaf = (min 3 level : Nat))
  ∧ (∀ (s : State) (t l : Nat), (s.start t).repUsable 0 l = false → Answers (.reportLapse t l) s fun u => u.v .repLapsed l = 1)
  ∧ (∀ (s : State) (t : Nat), s.calRuns = true → (s.start t).bgDue 1 = true → s.is F.THM_STATUS_CAL_BUSY = false →
      Answers (.calPassStart t) s fun u => u.rd F.THM_STATUS_CAL_BUSY = 1 ∧ ∀ x ∈ s.calSites, u.v .calN x = 0 ∧ u.v .calSum x = 0)
  ∧ (∀ (s : State) (t : Nat), s.calRuns = true → s.is F.THM_STATUS_CAL_BUSY = true →
      ((s.passSites.all fun x => decide (8 ≤ s.v .calN x)) = true ∨ s.vn .calAt + 1000000000 ≤ max s.time t) →
      Answers (.calPassEnd t) s fun u => u.rd F.THM_STATUS_CAL_BUSY = 0
        ∧ u.rd F.THM_STATUS_CAL_PASSES = (s.rd F.THM_STATUS_CAL_PASSES + 1) % 2 ^ F.THM_STATUS_CAL_PASSES.w)
  ∧ (∀ (s : State) (t n : Nat) (p : Port), Takes s p → (s.inst? 7 n).isSome = true →
      Answers (.calRst t p n) s fun u => Told p .ok 0 u ∧ u.rd F.TS_CAL_OFS_CORR n = 0 ∧ u.rd F.TS_CAL_BAD n = 0)
  ∧ (∀ (s : State) (t n : Nat) (p : Port), Takes s p → (s.inst? 7 n).isSome = false →
      Answers (.calRst t p n) s fun u => Told p .eAbsent 0 u ∧ Frame Scope.refused s u)
  ∧ (∀ (s : State) (t d : Nat), isLeaf d = true → s.v .islFields d = 1 → s.is F.LEAF_THERM_LOSS (domNum d) = false → s.sitesOf d ≠ [] →
      s.lastGood d + 1000 * (s.par Sec.thermal 0x0014 idxAll 0 2 200 : Nat) ≤ (max s.time t : Nat) →
      Answers (.sensorLoss t d) s fun u => u.rd F.LEAF_THERM_LOSS (domNum d) = 1 ∧ u.rd F.LEAF_THERM_LOSS_SEEN (domNum d) = 1)

/-- A throttle cell of a leaf with no input in force passes every cycle, and with one input of at least 4 cycles in 16 it takes that
input's divider and mask. LEAF_THR_REQ sets K, at most 256. An update of a stack port below its SHUTDOWN threshold is stored,
valid and not stale. A port whose updates stop is stale, at level 2 and in the highest band. It says where these commands
complete: tcellApply, leafThrReq, stackUpdate, stkStale. -/
def Obligations.CellsAndStacks : Prop :=
  (∀ (s : State) (t x l j : Nat) (r : InstRec), s.inst? 6 x = some r → r.owner ≠ hubDom → s.v .islFields r.owner = 1 →
      s.cellAt x = some (false, l, j) → s.cellInputs x = (none, none, none) →
      Answers (.tcellApply t x) s fun u => u.rd F.LEAF_TCELL_DIV l j = 0 ∧ u.rd F.LEAF_TCELL_SKIP l j = 0xFFFF ∧ u.rd F.LEAF_TCELL_FLOOR l j = 0)
  ∧ (∀ (s : State) (t x l j d m : Nat) (r : InstRec), s.inst? 6 x = some r → r.owner ≠ hubDom → s.v .islFields r.owner = 1 →
      s.cellAt x = some (false, l, j) → s.cellInputs x = (some (d, m), none, none) → m < 65536 → 4 ≤ (bitList m 16).length →
      Answers (.tcellApply t x) s fun u => u.rd F.LEAF_TCELL_DIV l j = d % 2 ^ F.LEAF_TCELL_DIV.w ∧ u.rd F.LEAF_TCELL_SKIP l j = m
        ∧ u.rd F.LEAF_TCELL_THR_ACTIVE l j = 1)
  ∧ (∀ (s : State) (t l k : Nat), s.leaves.contains l = true → s.v .islHeld (leafDom l) = 0 →
      Answers (.leafThrReq t l k) s fun u => u.rd F.LEAF_THR_REQ_K l = min 256 (k % 512) ∧ Out.status (leafDom l) .ok ∈ u.out)
  ∧ (∀ (s : State) (t n l k : Nat) (x : Int), s.stackAt n = some (l, k) → s.v .islFields (leafDom l) = 1 → satS 16 x < (s.thrOf (0x8000 + n) 2).1 →
      Answers (.stackUpdate t n x) s fun u => u.rdI F.LEAF_STACK_TEMP l k = satS 16 x ∧ u.rd F.LEAF_STACK_VALID l k = 1
        ∧ u.rd F.LEAF_STACK_STALE l k = 0 ∧ u.v .stkAt n = (max s.time t : Nat))
  ∧ (∀ (s : State) (t n l k : Nat), s.stackAt n = some (l, k) → s.v .islFields (leafDom l) = 1 → s.is F.LEAF_STACK_STALE l k = false →
      max (s.v .stkAt n) (s.v .thFrom (leafDom l)) + 1000 * (s.par Sec.thermal 0x0041 idxAll 0 2 2000 : Nat) ≤ (max s.time t : Nat) →
      Answers (.stkStale t n) s fun u => u.rd F.LEAF_STACK_STALE l k = 1 ∧ u.rd F.LEAF_STACK_LEVEL l k = 2 ∧ u.rd F.LEAF_STACK_BAND l k = 5)

/-- Above VERIFY, an absolute over-temperature of a supplied site, an over-current, over-voltage or under-voltage of a rail whose
detection condition holds, and a loss of coolant each latch their class. When the hold of a UV trip has ended and a loop sample
from its end on still counts the rail as under voltage, the rail halts. The brake latches its class and is active; its release
ends it. A leaf takes the word of the brake. A write of CRUST_LATCH clears exactly the written classes whose clear condition
holds and that were not set at the same stamp. It says where these commands complete: absTrip, ocTrip, ovTrip, uvTrip,
coolantTrip, uvHaltExpiry, brake, brakeRelease, leafBrake, crustLatchClear. -/
def Obligations.TripsBrakeAndLatches : Prop :=
  (∀ (s : State) (t n d : Nat), Pkg.verify < s.pkg → s.bodyOwner n = some d → n < 0x8000 → (d = hubDom ∨ s.supplied d = true) →
      Answers (.absTrip t n) s fun u => u.rd F.CRUST_LATCH_THERMAL = 1)
  ∧ (∀ (s : State) (t r : Nat), Pkg.verify < s.pkg → (s.rail? r).isSome = true → s.monitored r = false → bitOf (s.rd F.CRUST_RAIL_OC) r = false →
      s.par Sec.timing 0x0011 r 2 1 4 ≤ s.vn .ocCnt r → Answers (.ocTrip t r) s fun u => u.rd F.CRUST_LATCH_OC = 1)
  ∧ (∀ (s : State) (t r : Nat), Pkg.verify < s.pkg → (s.rail? r).isSome = true → bitOf (s.rd F.CRUST_RAIL_OV) r = false →
      s.ovuv r 2 1 2 ≤ s.vn .ovCnt r → Answers (.ovTrip t r) s fun u => u.rd F.CRUST_LATCH_OV = 1)
  ∧ (∀ (s : State) (t r : Nat), Pkg.verify < s.pkg → (s.rail? r).isSome = true → bitOf (s.rd F.CRUST_RAIL_UV_UV) r = false →
      s.ovuv r 3 1 4 ≤ s.vn .uvCnt r → Answers (.uvTrip t r) s fun u => u.rd F.CRUST_LATCH_UV = 1)
  ∧ (∀ (s : State) (t : Nat), Pkg.verify < s.pkg → Answers (.coolantTrip t) s fun u => u.rd F.CRUST_LATCH_COOLANT = 1)
  ∧ (∀ (s : State) (t r : Nat), s.pkg ≠ Pkg.ramp → s.v .downFor = 0 → 0 ≤ s.v .uvEnd r → 2 * s.v .uvEnd r ≤ s.v .rlTick r → 0 < s.vn .uvCnt r →
      s.railSt r = Rs.on → s.monitored r = false →
      Answers (.uvHaltExpiry t r) s fun u => u.railSt r = Rs.halt ∧ u.rd F.CRUST_STATUS_UV_HALTED = 1 ∧ u.v .uvEnd r = -1)
  ∧ (∀ (s : State) (t : Nat), s.pkg ≠ Pkg.off → s.is F.CRUST_STATUS_BRAKE_ACTIVE = false →
      Answers (.brake t) s fun u => u.rd F.CRUST_STATUS_BRAKE_ACTIVE = 1 ∧ u.rd F.CRUST_LATCH_BRAKE = 1 ∧ u.rd F.CRUST_STATUS_PWR_BRAKE_N = 0)
  ∧ (∀ (s : State) (t : Nat), s.is F.CRUST_STATUS_BRAKE_ACTIVE = true →
      Answers (.brakeRelease t) s fun u => u.rd F.CRUST_STATUS_BRAKE_ACTIVE = 0 ∧ u.rd F.CRUST_STATUS_PWR_BRAKE_N = 1)
  ∧ (∀ (s : State) (t l w : Nat), s.leaves.contains l = true → s.v .islHeld (leafDom l) = 0 →
      Answers (.leafBrake t l w) s fun u => u.reg .LEAF_BRAKE l = BitVec.ofNat 64 (if bitOf w 0 then Nat.land w 0xFF01_FF01 else 0))
  ∧ (∀ (s : State) (t w : Nat) (p : Port) (pins : Pins), Takes s p →
      Answers (.crustLatchClear t p w pins) s fun u => Told p .ok 0 u ∧ ∀ k, k < 7 →
        getBits (u.reg .CRUST_LATCH) k 1 =
          if bitOf (clearBits w ((s.start t).justSet .CRUST_LATCH)) k && s.classClear pins k then 0 else getBits (s.reg .CRUST_LATCH) k 1)

/-- A read of EVC_ACK at a target that is neither FROZEN nor FULL returns the selected source with VALID and its priority, clears
its PEND, sets its ACTIVE, and pushes it with its group priority; with nothing to present, or FROZEN or FULL, it returns 0 and
changes nothing, and so does a read of the upper half. A completion of the top source pops it and clears its ACTIVE, and PEND
sets at once where the level is 1. A completion of another source answers E_NEST, freezes the target, records the source,
counts, and leaves the stack; at a FROZEN target it changes nothing. UNWIND pops all, POP_TO pops down to and including the
source, THAW keeps the stack; each ends FROZEN, and is rejected with E_RANGE at a target that is not FROZEN. It says where these
commands complete: evcAck, evcEoi, evcUnwind, evcPopTo, evcThaw. -/
def Obligations.AcknowledgeAndCompletion : Prop :=
  (∀ (s : State) (t k x : Nat) (p : Port), Takes s p → s.frozen k = false → s.stackFull k = false → s.selectSrc k = some x →
      k < s.evt.evStk.length →
      Answers (.evcAck t p k false) s fun u => Told p .ok (BitVec.ofNat 64 (x + 2 ^ 16 + 2 ^ 24 * s.rd F.EVC_SRC_CFG_PRI x)) u
        ∧ u.rd F.EVC_SRC_STATE_PEND x = 0 ∧ u.rd F.EVC_SRC_STATE_ACTIVE x = 1 ∧ u.stackOf k = s.stackOf k ++ [(x, s.groupPri x)])
  ∧ (∀ (s : State) (t k : Nat) (p : Port), Takes s p → (s.frozen k = true ∨ s.stackFull k = true ∨ s.selectSrc k = none) →
      Answers (.evcAck t p k false) s fun u => Told p .ok 0 u ∧ Frame Scope.none s u)
  ∧ (∀ (s : State) (t k : Nat) (p : Port), Takes s p → Answers (.evcAck t p k true) s fun u => Told p .ok 0 u ∧ Frame Scope.none s u)
  ∧ (∀ (s : State) (t k x g : Nat) (p : Port), Takes s p → s.frozen k = false → (s.stackOf k).getLast? = some (x % 1024, g) →
      k < s.evt.evStk.length →
      Answers (.evcEoi t p k x) s fun u => Told p .ok 0 u ∧ u.stackOf k = (s.stackOf k).dropLast ∧ u.rd F.EVC_SRC_STATE_ACTIVE (x % 1024) = 0
        ∧ (s.srcLevel (x % 1024) = true → u.rd F.EVC_SRC_STATE_PEND (x % 1024) = 1))
  ∧ (∀ (s : State) (t k x : Nat) (p : Port), Takes s p → s.frozen k = false → ((s.stackOf k).getLast?.map (·.1)) ≠ some (x % 1024) →
      Answers (.evcEoi t p k x) s fun u => Told p .eNest 0 u ∧ u.frozen k = true ∧ u.rd F.EVC_TSTAT_FAULT_SRC k = x % 1024
        ∧ u.rd F.EVC_TSTAT_NESTFAULTS k = satAddN 16 (s.rd F.EVC_TSTAT_NESTFAULTS k) 1 ∧ u.stackOf k = s.stackOf k)
  ∧ (∀ (s : State) (t k x : Nat) (p : Port), Takes s p → s.frozen k = true →
      Answers (.evcEoi t p k x) s fun u => Told p .eNest 0 u ∧ Frame Scope.refused s u)
  ∧ (∀ (s : State) (t k : Nat) (p : Port), Takes s p → s.frozen k = true →
      Answers (.evcUnwind t p k) s fun u => Told p .ok 0 u ∧ u.frozen k = false ∧ u.stackOf k = []
        ∧ ∀ y ∈ s.stackOf k, u.rd F.EVC_SRC_STATE_ACTIVE y.1 = 0)
  ∧ (∀ (s : State) (t k x n : Nat) (p : Port), Takes s p → s.frozen k = true → (s.stackOf k).findIdx? (fun y => Nat.beq y.1 (x % 1024)) = some n →
      k < s.evt.evStk.length →
      Answers (.evcPopTo t p k x) s fun u => Told p .ok 0 u ∧ u.frozen k = false ∧ u.stackOf k = (s.stackOf k).take n
        ∧ ∀ y ∈ (s.stackOf k).drop n, u.rd F.EVC_SRC_STATE_ACTIVE y.1 = 0)
  ∧ (∀ (s : State) (t k x : Nat) (p : Port), Takes s p → s.frozen k = true → (s.stackOf k).findIdx? (fun y => Nat.beq y.1 (x % 1024)) = none →
      Answers (.evcPopTo t p k x) s fun u => Told p .eRange 0 u ∧ Frame Scope.refused s u)
  ∧ (∀ (s : State) (t k : Nat) (p : Port), Takes s p → s.frozen k = true →
      Answers (.evcThaw t p k) s fun u => Told p .ok 0 u ∧ u.frozen k = false ∧ u.stackOf k = s.stackOf k)
  ∧ (∀ (s : State) (t k x : Nat) (p : Port), Takes s p → s.frozen k = false → ∀ c ∈ [Instr.evcUnwind t p k, .evcPopTo t p k x, .evcThaw t p k],
      Answers c s fun u => Told p .eRange 0 u ∧ Frame Scope.refused s u)

/-- An EVENT of a pulse kind that the hub receives sets the LATCH of its source, and the source is pending or active. SETPEND makes
a source pending, is answered E_OVERRUN on an active source and E_ABSENT on an undefined one. CLRPEND clears PEND, and PEND sets
again where the level is 1. A write of CFG sets its fields; NMI_MASK 0 on a code of R435, and GRP_EN on an NMI source, are
rejected with E_RANGE. PRIGROUP changes while every stack is empty, and is else rejected with E_OVERRUN. A write of a group's
thresholds fires the group and sets them; 0 is rejected with E_RANGE. A group whose window has closed fires: no member is held,
the window is closed, COUNT is 0. It says where these commands complete: eventMsg, setpend, clrpend, evcSrcCfgWrite,
prigroupWrite, evcGrpWrite, groupFire. -/
def Obligations.SourcesAndGroups : Prop :=
  (∀ (s : State) (t tag k code inst detail x : Nat), s.delivers (.hub k) tag = true → code ≠ 0x09 → code ≠ 0x20 → flagKind code = false →
      s.findSrc code inst = some x →
      Answers (.eventMsg t (.hub k) tag code inst detail true false) s fun u => u.rd F.EVC_SRC_STATE_LATCH x = 1
        ∧ (u.rd F.EVC_SRC_STATE_PEND x = 1 ∨ u.rd F.EVC_SRC_STATE_ACTIVE x = 1))
  ∧ (∀ (s : State) (t k : Nat) (p : Port), Takes s p → s.srcDefined k = true → s.is F.EVC_SRC_STATE_ACTIVE k = false →
      Answers (.setpend t p k) s fun u => Told p .ok 0 u ∧ u.rd F.EVC_SRC_STATE_PEND k = 1)
  ∧ (∀ (s : State) (t k : Nat) (p : Port), Takes s p → s.srcDefined k = true → s.is F.EVC_SRC_STATE_ACTIVE k = true →
      Answers (.setpend t p k) s fun u => Told p .eOverrun 0 u ∧ Frame Scope.refused s u)
  ∧ (∀ (s : State) (t k w : Nat) (p : Port), Takes s p → s.srcDefined k = false → ∀ c ∈ [Instr.setpend t p k, .clrpend t p k, .evcSrcCfgWrite t p k w],
      Answers c s fun u => Told p .eAbsent 0 u ∧ Frame Scope.refused s u)
  ∧ (∀ (s : State) (t k : Nat) (p : Port), Takes s p → s.srcDefined k = true → (s.srcLevel k = true → s.is F.EVC_SRC_STATE_ACTIVE k = false) →
      Answers (.clrpend t p k) s fun u => Told p .ok 0 u ∧ u.rd F.EVC_SRC_STATE_PEND k = b2n (s.srcLevel k))
  ∧ (∀ (s : State) (t k w : Nat) (p : Port), Takes s p → s.srcDefined k = true →
      (w / 2 ^ 16 % 16 = 0 → alwaysNmi (s.rd F.EVC_SRC_CFG_CODE k) = false) → (w / 2 ^ 16 % 16 ≠ 0 → bitOf w 30 = false) →
      Answers (.evcSrcCfgWrite t p k w) s fun u => Told p .ok 0 u ∧ u.rd F.EVC_SRC_CFG_EN k = w % 2 ∧ u.rd F.EVC_SRC_CFG_TARGET k = w / 2 % 4
        ∧ u.rd F.EVC_SRC_CFG_PRI k = w / 2 ^ 8 % 256 ∧ u.rd F.EVC_SRC_CFG_NMI_MASK k = w / 2 ^ 16 % 16
        ∧ u.rd F.EVC_SRC_CFG_GROUP k = w / 2 ^ 24 % 64 ∧ u.rd F.EVC_SRC_CFG_GRP_EN k = w / 2 ^ 30 % 2)
  ∧ (∀ (s : State) (t k w : Nat) (p : Port), Takes s p → s.srcDefined k = true →
      (w / 2 ^ 16 % 16 = 0 ∧ alwaysNmi (s.rd F.EVC_SRC_CFG_CODE k) = true ∨ w / 2 ^ 16 % 16 ≠ 0 ∧ bitOf w 30 = true) →
      Answers (.evcSrcCfgWrite t p k w) s fun u => Told p .eRange 0 u ∧ Frame Scope.refused s u)
  ∧ (∀ (s : State) (t g : Nat) (p : Port), Takes s p →
      Answers (.prigroupWrite t p g) s fun u =>
        if s.evt.evStk.all (·.isEmpty) = true then Told p .ok 0 u ∧ u.rd F.EVC_CTRL_PRIGROUP = g % 8
        else Told p .eOverrun 0 u ∧ Frame Scope.refused s u)
  ∧ (∀ (s : State) (t g cnt us : Nat) (p : Port), Takes s p →
      Answers (.evcGrpWrite t p g cnt us) s fun u =>
        if cnt % 256 = 0 ∨ us % 65536 = 0 then Told p .eRange 0 u ∧ Frame Scope.refused s u
        else Told p .ok 0 u ∧ u.rd F.EVC_GRP_A_CNT_TH g = cnt % 256 ∧ u.rd F.EVC_GRP_A_TIME_TH g = us % 65536 ∧ u.rd F.EVC_GRP_A_OPEN g = 0)
  ∧ (∀ (s : State) (t g : Nat), (s.start t).grpLapsed g = true →
      Answers (.groupFire t g) s fun u => u.rd F.EVC_GRP_A_OPEN g = 0 ∧ u.rd F.EVC_GRP_A_COUNT g = 0
        ∧ u.rd F.EVC_GRP_A_FIRES g = satAddN 16 (s.rd F.EVC_GRP_A_FIRES g) 1 ∧ ∀ k ∈ s.grpMembers g, u.rd F.EVC_SRC_STATE_HELD k = 0)

/-- A port in DOWN that is present enters AUTH when LINK_UP is high and AUTH_BACKOFF has passed, and the package with the lower ID
is the requester. A session sets SEQ 0 and KEYID 0 and enters UP; a failure holds the port in DOWN for AUTH_BACKOFF. A fall of
LINK_UP, a silence of LINK_SILENT, or a frame that R449 does not accept takes the port to DOWN; such a frame is counted. An UP
port without a frame for HB_INTERVAL sends HEARTBEAT. A key update takes the other KEYID with SEQ 0. A HEARTBEAT with a state
other than FAIL takes PFAIL to UP. A FAIL_NOTICE of the peer takes UP to PFAIL and is recorded. A frame of a reserved type with
a valid MAC is counted. It says where these commands complete: linkUp, authBackoffEnd, linkDown, linkSilent, authDone,
dxlHeartbeatSend, dxlKeyUpdate, dxlHeartbeat, failNotice, reservedTypeFrame. -/
def Obligations.LinkPortsAndFrames : Prop :=
  (∀ (s : State) (t n : Nat) (d : DxlConfig) (r : DxlPortRec), s.portSt n = Lk.down → s.dxl? = some d → d.ports[n]? = some r → r.present = true →
      s.vn .authAt n ≤ max s.time t →
      Answers (.linkUp t n) s fun u => u.portSt n = Lk.auth ∧ u.rd F.DXL_PORT_A_LINK_UP n = 1
        ∧ u.rd F.DXL_PORT_A_REQUESTER n = (if d.pkgId < r.peerId then 1 else 0))
  ∧ (∀ (s : State) (t n : Nat) (d : DxlConfig) (r : DxlPortRec), s.portSt n = Lk.down → s.dxl? = some d → d.ports[n]? = some r → r.present = true →
      s.is F.DXL_PORT_A_LINK_UP n = true → s.vn .authAt n ≤ max s.time t →
      Answers (.authBackoffEnd t n) s fun u => u.portSt n = Lk.auth)
  ∧ (∀ (s : State) (t n : Nat), s.portSt n ≠ Lk.down →
      Answers (.linkDown t n) s fun u => u.portSt n = Lk.down ∧ u.rd F.DXL_PORT_A_LINK_UP n = 0
        ∧ u.rd F.DXL_PORT_B_DOWNS n = satAddN F.DXL_PORT_B_DOWNS.w (s.rd F.DXL_PORT_B_DOWNS n) 1)
  ∧ (∀ (s : State) (t n : Nat), 2 ≤ s.portSt n → s.vn .rxLast n + 1000 * s.lnk 0x0031 2 50 ≤ max s.time t →
      Answers (.linkSilent t n) s fun u => u.portSt n = Lk.down)
  ∧ (∀ (s : State) (t n : Nat), s.portSt n = Lk.auth → s.pkg ≠ Pkg.fail →
      Answers (.authDone t n true) s fun u => u.portSt n = Lk.up ∧ u.rd F.DXL_PORT_A_TX_SEQ n = 0 ∧ u.rd F.DXL_PORT_A_KEYID n = 0
        ∧ u.v .rxSeq n 0 = 0 ∧ u.v .rxLast n = (max s.time t : Nat))
  ∧ (∀ (s : State) (t n : Nat), s.portSt n = Lk.auth →
      Answers (.authDone t n false) s fun u => u.portSt n = Lk.down ∧ u.vn .authAt n = max s.time t + 1000000 * s.lnk 0x0033 2 100)
  ∧ (∀ (s : State) (t n : Nat), s.hubUp = true → s.portSt n = Lk.up → s.vn .txLast n + 1000 * s.lnk 0x0030 2 10 ≤ max s.time t → s.sync.cur = [] →
      s.rd F.DXL_PORT_A_TX_SEQ n ≠ 0xFFFF_FFFF → s.v .txStop n = 0 →
      Answers (.dxlHeartbeatSend t n) s fun u => Out.frame n Ft.heartbeat (pack [(0, 8, s.pkg),
          (32, 32, (s.vn .rxSeq n (s.rd F.DXL_PORT_A_KEYID n) + 2 ^ 32 - 1) % 2 ^ 32), (64, 64, ofSigned 64 (s.start t).sysTime)]) ∈ u.out
        ∧ u.rd F.DXL_PORT_A_TX_SEQ n = s.rd F.DXL_PORT_A_TX_SEQ n + 1 ∧ u.v .txLast n = (max s.time t : Nat))
  ∧ (∀ (s : State) (t n k : Nat), 2 ≤ s.portSt n → s.rd F.DXL_PORT_A_KEYID n = k →
      (0xC000_0000 ≤ s.rd F.DXL_PORT_A_TX_SEQ n ∨ 0xC000_0000 ≤ s.vn .rxSeq n k ∨ s.is F.DXL_PORT_A_REQUESTER n = false) →
      Answers (.dxlKeyUpdate t n) s fun u => u.rd F.DXL_PORT_A_KEYID n = 1 - k ∧ u.rd F.DXL_PORT_A_TX_SEQ n = 0 ∧ u.v .rxSeq n (1 - k) = 0
        ∧ u.v .rxKeyNew n = 0)
  ∧ (∀ (s : State) (t state rx sys : Nat) (h : FrameHdr), LinkOk s h → s.sync.cur = [] →
      Answers (.dxlHeartbeat t h state rx sys) s fun u =>
        u.portSt h.port = (if state % 16 = Pkg.fail then s.portSt h.port else Lk.up) ∧ u.v .rxSeq h.port h.keyid = ((h.seq + 1) % 2 ^ 32 : Nat)
          ∧ u.v .rxLast h.port = (max s.time t : Nat))
  ∧ (∀ (s : State) (t lo hi : Nat) (h : FrameHdr), LinkOk s h → s.sync.cur = [] → s.portSt h.port = Lk.up → lo % 65536 = h.src →
      s.v .txStop h.port = 0 →
      Answers (.failNotice t h lo hi) s fun u => u.portSt h.port = Lk.pfail ∧ u.reg .DXL_PORT_D h.port = BitVec.ofNat 64 lo)
  ∧ (∀ (s : State) (t : Nat) (h : FrameHdr), LinkOk s h → s.sync.cur = [] →
      Answers (.reservedTypeFrame t h) s fun u => u.portSt h.port = s.portSt h.port
        ∧ u.rd F.DXL_PORT_B_RSVD h.port = satAddN F.DXL_PORT_B_RSVD.w (s.rd F.DXL_PORT_B_RSVD h.port) 1)
  ∧ (∀ (s : State) (t a b c : Nat) (x : Int) (f : Bool) (h : FrameHdr), ¬ LinkOk s h →
      ∀ i ∈ [Instr.dxlHeartbeat t h a b c, .arriveFrame t h a b c, .releaseFrame t h a b c, .breakFrame t h a b c f a, .leaseOffer t h a b c,
        .leaseGrant t h a b x, .leaseRecall t h a b x, .timeSyncRequest t h a, .timeSyncReply t h x a b, .failNotice t h a b, .reservedTypeFrame t h],
      Answers i s fun u => u.portSt h.port = Lk.down
        ∧ u.rd F.DXL_PORT_B_MACFAIL h.port = satAddN F.DXL_PORT_B_MACFAIL.w (s.rd F.DXL_PORT_B_MACFAIL h.port) 1)

/-- An ARRIVE of a child port for the object's generation sets its present bit, and one for the next generation its next bit; when
UP is set and every child has arrived, a package that is not the root sends ARRIVE to its parent. A RELEASE of the parent for
the present generation with UP set is forwarded to every child port that is UP, clears UP, and the local completion is due after
the stagger. BREAK breaks its object, and with ALL every spanning object of the job. Every TSYNC_INT a child sends TIME_SYNC
with its system time, and a request is answered with the system time and T1_LO. The first reply steps the offset by err; a later
one corrects by err, and an error above 50 ns is shown. It says where these commands complete: arriveFrame, releaseFrame,
breakFrame, tsyncSend, timeSyncRequest, timeSyncReply. -/
def Obligations.SpanningBarriersAndSystemTime : Prop :=
  (∀ (s : State) (t obj gen c : Nat) (h : FrameHdr), LinkOk s h → s.sync.cur = [] → s.slotOf obj = some c → s.treeChildren.contains h.port = true →
      s.spanLive obj = true → s.is F.SYNC_OBJ_A_UP obj = false → gen = s.objGen obj →
      Answers (.arriveFrame t h obj gen (s.rd F.DXL_JOB_JOB c)) s fun u => bitOf (u.vn .spArr obj) h.port = true ∧ u.objGen obj = s.objGen obj)
  ∧ (∀ (s : State) (t obj gen c : Nat) (h : FrameHdr), LinkOk s h → s.sync.cur = [] → s.slotOf obj = some c → s.treeChildren.contains h.port = true →
      s.spanLive obj = true → gen = (s.objGen obj + 1) % 65536 →
      Answers (.arriveFrame t h obj gen (s.rd F.DXL_JOB_JOB c)) s fun u => bitOf (u.vn .spNxt obj) h.port = true ∧ u.objGen obj = s.objGen obj)
  ∧ (∀ (s : State) (t obj c n : Nat) (h : FrameHdr), LinkOk s h → s.sync.cur = [] → s.slotOf obj = some c → s.treeChildren.contains h.port = true →
      s.spanLive obj = true → s.is F.SYNC_OBJ_A_UP obj = true → bitOf (s.vn .spArr obj) h.port = false →
      (∀ k ∈ s.treeChildren, k ≠ h.port → bitOf (s.vn .spArr obj) k = true) → s.treeParent = some n → s.portUp n = true → s.mirrorOn = false →
      s.rd F.DXL_PORT_A_TX_SEQ n ≠ 0xFFFF_FFFF → s.v .txStop n = 0 →
      Answers (.arriveFrame t h obj (s.objGen obj) (s.rd F.DXL_JOB_JOB c)) s fun u =>
        Out.frame n Ft.arrive (spanBody obj (s.objGen obj) (s.rd F.DXL_JOB_JOB c)) ∈ u.out)
  ∧ (∀ (s : State) (t obj gen job c : Nat) (h : FrameHdr), LinkOk s h → s.sync.cur = [] → s.slotOf obj = some c → job ≠ s.rd F.DXL_JOB_JOB c →
      ∀ i ∈ [Instr.arriveFrame t h obj gen job, .releaseFrame t h obj gen job],
      Answers i s fun u => u.rd F.DXL_STATUS_JOBMISS = satAddN F.DXL_STATUS_JOBMISS.w (s.rd F.DXL_STATUS_JOBMISS) 1
        ∧ u.reg .SYNC_OBJ_A obj = s.reg .SYNC_OBJ_A obj ∧ u.v .spArr obj = s.v .spArr obj)
  ∧ (∀ (s : State) (t obj c : Nat) (h : FrameHdr), LinkOk s h → s.sync.cur = [] → s.slotOf obj = some c → s.treeParent = some h.port →
      s.spanLive obj = true → s.is F.SYNC_OBJ_A_UP obj = true → s.stagger ≠ 0 →
      Answers (.releaseFrame t h obj (s.objGen obj) (s.rd F.DXL_JOB_JOB c)) s fun u => u.rd F.SYNC_OBJ_A_UP obj = 0
        ∧ u.v .spAt obj = (1000 * max s.time t + s.stagger : Nat)
        ∧ ∀ n ∈ s.treeChildren, s.portUp n = true → s.rd F.DXL_PORT_A_TX_SEQ n ≠ 0xFFFF_FFFF →
            Out.frame n Ft.release (spanBody obj (s.objGen obj) (s.rd F.DXL_JOB_JOB c)) ∈ u.out)
  ∧ (∀ (s : State) (t obj gen reason c : Nat) (h : FrameHdr), LinkOk s h → s.sync.cur = [] → s.slotOf obj = some c →
      s.treePorts.contains h.port = true → s.spanLive obj = true →
      Answers (.breakFrame t h obj gen (s.rd F.DXL_JOB_JOB c) false reason) s fun u => u.rd F.SYNC_OBJ_A_BROKEN obj = 1)
  ∧ (∀ (s : State) (t obj gen job reason : Nat) (h : FrameHdr), LinkOk s h → s.sync.cur = [] → s.treePorts.contains h.port = true →
      Answers (.breakFrame t h obj gen job true reason) s fun u =>
        ∀ o ∈ s.spans, ∀ c, s.slotOf o = some c → s.rd F.DXL_JOB_JOB c = job → u.rd F.SYNC_OBJ_A_BROKEN o = 1)
  ∧ (∀ (s : State) (t n : Nat), s.hubUp = true → s.treeParent = some n → s.portUp n = true → s.vn .tsAt + 1000 * s.lnk 0x0032 2 10 ≤ max s.time t →
      s.rd F.DXL_PORT_A_TX_SEQ n ≠ 0xFFFF_FFFF →
      Answers (.tsyncSend t) s fun u => Out.frame n Ft.timeSync (ofSigned 64 (s.start t).sysTime) ∈ u.out ∧ u.v .tsAt = (max s.time t : Nat)
        ∧ u.v .tsT1 = (ofSigned 64 (s.start t).sysTime + 1 : Nat))
  ∧ (∀ (s : State) (t t1 : Nat) (h : FrameHdr), LinkOk s h → s.sync.cur = [] → s.portUp h.port = true → s.rd F.DXL_PORT_A_TX_SEQ h.port ≠ 0xFFFF_FFFF →
      Answers (.timeSyncRequest t h t1) s fun u =>
        Out.frame h.port Ft.timeSync (pack [(0, 64, ofSigned 64 (s.start t).sysTime), (96, 32, t1), (128, 1, 1)]) ∈ u.out)
  ∧ (∀ (s : State) (t d32 t1lo : Nat) (t2 err : Int) (h : FrameHdr), LinkOk s h → s.sync.cur = [] → s.treeParent = some h.port →
      s.portSt h.port = Lk.up → s.v .tsT1 ≠ 0 → (s.vn .tsT1 - 1) % 2 ^ 32 = t1lo % 2 ^ 32 →
      err = roundDiv ((t2 - toSigned 64 (s.vn .tsT1 - 1)) + (t2 + d32 - (s.start t).sysTime)) 2 →
      -(2 ^ 63 : Nat) ≤ (s.start t).sysOfs + err → (s.start t).sysOfs + err < (2 ^ 63 : Nat) → s.v .tsFirst = 1 →
      Answers (.timeSyncReply t h t2 d32 t1lo) s fun u => u.rdI F.DXL_TIME_SYS_OFS = (s.start t).sysOfs + err ∧ u.v .tsRem = 0
        ∧ u.rd F.DXL_TERR_STEPPED = 1 ∧ u.rdI F.DXL_TERR_ERR = satS 32 err)
  ∧ (∀ (s : State) (t d32 t1lo : Nat) (t2 err : Int) (h : FrameHdr), LinkOk s h → s.sync.cur = [] → s.treeParent = some h.port →
      s.portSt h.port = Lk.up → s.v .tsT1 ≠ 0 → (s.vn .tsT1 - 1) % 2 ^ 32 = t1lo % 2 ^ 32 →
      err = roundDiv ((t2 - toSigned 64 (s.vn .tsT1 - 1)) + (t2 + d32 - (s.start t).sysTime)) 2 → s.v .tsFirst = 0 →
      Answers (.timeSyncReply t h t2 d32 t1lo) s fun u => u.v .tsRem = err ∧ u.rdI F.DXL_TERR_ERR = satS 32 err
        ∧ (50 < err.natAbs → u.rd F.DXL_TERR_ERR_SEEN = 1))

/-- At a new grid cycle of a package whose hub runs and which lends nothing, SPARE is what its surplus leaves above LEASE_KEEP, or 0
where it borrows, wants, or is in neither RUN nor HOLD; every lease peer that is UP is offered SPARE, and WANT goes to the first
peer whose last offer had SPARE. An offer of the package's feed is kept. The lender's decision divides SPARE in proportion to
WANT, adds each share to the lease, and sends the grants, to peers from which it has not borrowed. A grant that is not below the
lease sets the borrower's lease and its end; one below it ends the lease and is counted; one with an old LSEQ is dropped. A
recall to a borrower sets the amount and time of its effect. A borrower's lease ends at its end, or is cut to the recalled
amount at its effect; the lender's a guard time later. It says where these commands complete: leaseGrid, leaseOffer,
leaseDecision, leaseGrant, leaseRecall, leaseExpiry, recallEffect, leaseGuardExpiry. -/
def Obligations.LeaseProtocol : Prop :=
  (∀ (s : State) (t spare want : Nat), s.hubUp = true → (s.start t).sysTime / 100000 ≠ s.v .lsGrid → s.lentPorts = [] →
      want = (if s.leaseTrades = true then s.leaseWant else 0) →
      spare = (if s.leaseTrades = false ∨ 0 < s.v .leaseBorrowed ∨ 0 < want then 0 else s.rd F.HUB_CAPS_SURPLUS - s.lnk 0x0036 4 50000) →
      Answers (.leaseGrid t) s fun u => u.v .lsGrid = (s.start t).sysTime / 100000 ∧ u.rd F.DXL_OFFER_SPARE = spare % 2 ^ F.DXL_OFFER_SPARE.w
        ∧ u.rd F.DXL_OFFER_WANT = want % 2 ^ F.DXL_OFFER_WANT.w ∧ (∀ n < 8, u.v .ofWant n = 0)
        ∧ ∀ (d : DxlConfig), s.dxl? = some d → ∀ n ∈ s.leasePorts, s.portUp n = true → s.rd F.DXL_PORT_A_TX_SEQ n ≠ 0xFFFF_FFFF →
            Out.frame n Ft.offer (pack [(0, 32, spare), (32, 32,
              if (s.leasePorts.filter fun n => s.portUp n).find? (fun n => decide (0 < s.v .ofSpare n)) = some n then want else 0), (64, 16, d.feed)]) ∈ u.out)
  ∧ (∀ (s : State) (t spare want feed : Nat) (h : FrameHdr) (d : DxlConfig), LinkOk s h → s.sync.cur = [] → s.dxl? = some d → d.feed = feed % 2 ^ 16 →
      s.leasePorts.contains h.port = true →
      Answers (.leaseOffer t h spare want feed) s fun u => u.v .ofSpare h.port = (spare % 2 ^ 32 : Nat) ∧ u.v .ofWant h.port = (want % 2 ^ 32 : Nat))
  ∧ (∀ (s : State) (t spare wants : Nat) (texp : Int), s.hubUp = true → s.rd F.DXL_OFFER_SPARE = spare → 0 < spare →
      wants = sumNat ((s.leasePorts.filter fun n => s.portUp n).map fun n => s.vn .ofWant n) →
      texp = 100000 * s.v .lsGrid + 1000 * s.lnk 0x0034 4 1000 →
      Answers (.leaseDecision t) s fun u => ∀ n ∈ s.leasePorts, s.portUp n = true → s.vn .ofWant n ≠ 0 → s.v .lsRecall n ≠ 1 → (s.lentPorts.contains n = true ∨ s.leaseAmt n = 0) →
        u.lends n = true ∧ u.v .ofWant n = 0 ∧ u.leaseAmt n = ((if s.lentPorts.contains n then s.leaseAmt n else 0)
            + min (s.vn .ofWant n) (spare * s.vn .ofWant n / wants)) % 2 ^ F.DXL_PORT_C_LEASE.w
          ∧ (s.rd F.DXL_PORT_A_TX_SEQ n ≠ 0xFFFF_FFFF →
              Out.frame n Ft.grant (leaseBody (u.leaseAmt n) ((s.vn .lsSent n + 1) % 65536) texp) ∈ u.out))
  ∧ (∀ (s : State) (t amt lseq : Nat) (texp : Int) (h : FrameHdr), LinkOk s h → s.sync.cur = [] → s.leasePorts.contains h.port = true →
      s.lseqNew h.port (lseq % 2 ^ 16) = true → s.lends h.port = false → s.leaseAmt h.port ≤ amt % 2 ^ 32 →
      Answers (.leaseGrant t h amt lseq texp) s fun u => u.leaseAmt h.port = amt % 2 ^ 32 ∧ u.lends h.port = false
        ∧ u.v .lsEnd h.port = texp - (s.start t).sysOfs ∧ u.rd F.DXL_PORT_C_LSEQ h.port = lseq % 2 ^ 16)
  ∧ (∀ (s : State) (t amt lseq : Nat) (texp : Int) (h : FrameHdr), LinkOk s h → s.sync.cur = [] → s.leasePorts.contains h.port = true →
      s.lseqNew h.port (lseq % 2 ^ 16) = true → s.lends h.port = false → amt % 2 ^ 32 < s.leaseAmt h.port →
      Answers (.leaseGrant t h amt lseq texp) s fun u => u.leaseAmt h.port = 0
        ∧ u.rd F.DXL_PORT_B_LFAULT h.port = satAddN F.DXL_PORT_B_LFAULT.w (s.rd F.DXL_PORT_B_LFAULT h.port) 1)
  ∧ (∀ (s : State) (t amt lseq : Nat) (x : Int) (h : FrameHdr), LinkOk s h → s.sync.cur = [] → s.lseqNew h.port (lseq % 2 ^ 16) = false →
      ∀ i ∈ [Instr.leaseGrant t h amt lseq x, .leaseRecall t h amt lseq x],
      Answers i s fun u => u.reg .DXL_PORT_C h.port = s.reg .DXL_PORT_C h.port ∧ u.v .lsRecall h.port = s.v .lsRecall h.port)
  ∧ (∀ (s : State) (t amt lseq : Nat) (teff : Int) (h : FrameHdr), LinkOk s h → s.sync.cur = [] → s.leasePorts.contains h.port = true →
      s.lseqNew h.port (lseq % 2 ^ 16) = true → s.lends h.port = false → s.leaseAmt h.port ≠ 0 →
      Answers (.leaseRecall t h amt lseq teff) s fun u => u.v .lsRecall h.port = 1 ∧ u.v .lsTo h.port = (amt % 2 ^ 32 : Nat)
        ∧ u.v .lsEff h.port = teff - (s.start t).sysOfs ∧ u.leaseAmt h.port = s.leaseAmt h.port)
  ∧ (∀ (s : State) (t n : Nat), s.lends n = false → 0 < s.leaseAmt n → s.v .lsEnd n ≤ (max s.time t : Nat) →
      Answers (.leaseExpiry t n) s fun u => u.leaseAmt n = 0)
  ∧ (∀ (s : State) (t n : Nat), s.lends n = false → s.v .lsRecall n = 1 → s.v .lsEff n ≤ (max s.time t : Nat) →
      Answers (.recallEffect t n) s fun u => u.leaseAmt n = min (s.leaseAmt n) (s.vn .lsTo n) ∧ u.v .lsRecall n = 0)
  ∧ (∀ (s : State) (t n : Nat), s.lends n = true → s.leaseAmt n ≠ 0 → s.v .lsRecall n = 1 →
      s.v .lsEff n + 1000 * s.lnk 0x0037 2 1 ≤ (max s.time t : Nat) →
      Answers (.leaseGuardExpiry t n) s fun u => u.leaseAmt n = min (s.leaseAmt n) (s.vn .lsTo n) ∧ u.v .lsRecall n = 0)
  ∧ (∀ (s : State) (t n : Nat), s.lends n = true → s.leaseAmt n ≠ 0 → s.v .lsRecall n ≠ 1 →
      s.v .lsEnd n + 1000 * s.lnk 0x0037 2 1 ≤ (max s.time t : Nat) →
      Answers (.leaseGuardExpiry t n) s fun u => u.leaseAmt n = 0)

/-- With a standby, the active hub sends heartbeats. A heartbeat that is missing for HB_MISS periods, or the fall of the mirror
port, makes the standby request takeover: where HUB_OK has lapsed the request stands, else it is refused, counted, and the other
hub is DETACHED. A lapse of HUB_OK with no standby asserts CRUST_STOP and THERMTRIP. A granted takeover makes the other hub
active, the old one DOWN or, with AUTO_REJOIN, SYNCING, and records the cause; one after SWITCH counts. SWITCH is taken in RUN
and HOLD with a standby and stops the heartbeat. REJOIN makes a DOWN or DETACHED hub SYNCING; during a bulk copy it answers
E_OVERRUN. DETACH makes a syncing or standby hub DETACHED. The end of the bulk copy makes the hub STANDBY. The per-tick and the
lazy copy hold the registers of their class. It says where these commands complete: mirrorHeartbeat, mirrorHeartbeatMiss,
mirrorPortDown, hubOkLapse, takeoverGrant, mirSwitch, mirRejoin, mirDetach, bulkCopyDone, lazyCopy, perTickCopy, primarySwitch. -/
def Obligations.MirroredPair : Prop :=
  (∀ (s : State) (t : Nat), s.hubUp = true → s.mirCfg.isSome = true → s.v .hbStop = 0 → s.mirrorOn = true →
      Answers (.mirrorHeartbeat t) s fun u => Out.mirror false ∈ u.out ∧ u.v .hbLast = (max s.time t : Nat))
  ∧ (∀ (s : State) (t : Nat) (m : MirrorConfig), s.mirCfg = some m → s.mirRole2 = Mr.standby → s.v .mirMiss = 0 →
      s.vn .hbLast + m.hbMiss * m.hbPeriod ≤ max s.time t →
      Answers (.mirrorHeartbeatMiss t) s fun u => Out.mirror true ∈ u.out ∧ if s.v .okLapse = 1 then u.v .mirMiss = 1 ∧ u.mirRole2 = Mr.standby
        else u.mirRole2 = Mr.detached ∧ u.rd F.MIR_STATUS_REFUSED = satAddN F.MIR_STATUS_REFUSED.w (s.rd F.MIR_STATUS_REFUSED) 1)
  ∧ (∀ (s : State) (t : Nat), s.mirRole2 = Mr.standby → s.v .mirMiss = 0 →
      Answers (.mirrorPortDown t) s fun u => Out.mirror true ∈ u.out ∧ if s.v .okLapse = 1 then u.v .mirMiss = 2 ∧ u.mirRole2 = Mr.standby
        else u.mirRole2 = Mr.detached ∧ u.rd F.MIR_STATUS_REFUSED = satAddN F.MIR_STATUS_REFUSED.w (s.rd F.MIR_STATUS_REFUSED) 1)
  ∧ (∀ (s : State) (t : Nat), s.mirRole2 = Mr.syncing → s.v .okLapse = 0 → Answers (.mirrorPortDown t) s fun u => u.mirRole2 = Mr.detached)
  ∧ (∀ (s : State) (t : Nat), s.hubUp = true →
      Answers (.hubOkLapse t) s fun u => Config.netlist.mirror = true → if s.mirRole2 = Mr.standby then u.v .okLapse = 1
        else u.rd F.CRUST_STATUS_STOP = 1 ∧ u.rd F.CRUST_STATUS_THERMTRIP = 1 ∧ u.v .mirNoHub = 1 ∧ u.hubUp = false)
  ∧ (∀ (s : State) (t resent : Nat) (m : MirrorConfig), s.mirCfg = some m → s.mirRole2 = Mr.standby →
      (s.v .mirMiss = 3 ∧ s.posted = [] ∨ s.v .mirMiss ≠ 0 ∧ s.v .okLapse = 1) →
      Answers (.takeoverGrant t resent) s fun u => u.rd F.MIR_STATUS_SELF = s.mirOther ∧ u.mirRole s.mirOther = Mr.active
        ∧ u.mirRole (s.rd F.MIR_STATUS_SELF) = (if m.autoRejoin = true then Mr.syncing else Mr.down)
        ∧ (s.v .mirMiss = 3 → u.rd F.MIR_STATUS_FAILOVERS = satAddN F.MIR_STATUS_FAILOVERS.w (s.rd F.MIR_STATUS_FAILOVERS) 1)
        ∧ u.rd F.MIR_LAST_CAUSE = s.vn .mirMiss % 2 ^ F.MIR_LAST_CAUSE.w ∧ u.v .okLapse = 0 ∧ u.v .mirMiss = 0 ∧ u.posted = [] ∧ u.mir.captured = [])
  ∧ (∀ (s : State) (t : Nat) (p : Port), Takes s p →
      Answers (.mirSwitch t p) s fun u => if (s.pkg = Pkg.run ∨ s.pkg = Pkg.hold) ∧ s.mirRole2 = Mr.standby then
          Told p .ok 0 u ∧ u.v .mirMiss = 3 ∧ u.v .hbStop = 1 ∧ u.v .lazyAt = (max s.time t : Nat)
        else Told p .eRange 0 u ∧ Frame Scope.refused s u)
  ∧ (∀ (s : State) (t : Nat) (p : Port), Takes s p → s.mirCfg.isSome = true →
      Answers (.mirRejoin t p) s fun u => if s.mirRole2 = Mr.syncing then Told p .eOverrun 0 u ∧ Frame Scope.refused s u
        else if s.pkg ≠ Pkg.fail ∧ (s.mirRole2 = Mr.down ∨ s.mirRole2 = Mr.detached) then Told p .ok 0 u ∧ u.mirRole2 = Mr.syncing
        else Told p .eRange 0 u ∧ Frame Scope.refused s u)
  ∧ (∀ (s : State) (t : Nat) (p : Port), Takes s p →
      Answers (.mirDetach t p) s fun u => if s.mirRole2 = Mr.syncing ∨ s.mirRole2 = Mr.standby then Told p .ok 0 u ∧ u.mirRole2 = Mr.detached
        else Told p .eRange 0 u ∧ Frame Scope.refused s u)
  ∧ (∀ (s : State) (t : Nat), s.hubUp = true → s.mirRole2 = Mr.syncing →
      Answers (.bulkCopyDone t) s fun u => u.mirRole2 = Mr.standby ∧ u.v .hbLast = (max s.time t : Nat))
  ∧ (∀ (s : State) (t : Nat) (m : MirrorConfig), s.mirCfg = some m → s.hubUp = true → s.mirRole2 = Mr.standby →
      s.vn .lazyAt + 1000 * m.lazyPeriod ≤ max s.time t →
      Answers (.lazyCopy t) s fun u => u.v .lazyAt = (max s.time t : Nat) ∧ u.mir.lazyRegs = s.regs.filter fun p => lazyClass.contains p.1.n)
  ∧ (∀ (s : State) (t : Nat), s.hubUp = true → s.mirRole2 = Mr.standby →
      Answers (.perTickCopy t) s fun u => u.mir.tickRegs = s.regs.filter fun p => tickClass.contains p.1.n)
  ∧ (∀ (s : State) (t : Nat), s.v .priDone = 2 → s.rd F.MIR_STATUS_SELF = 0 → s.mirRole2 = Mr.standby → (s.pkg = Pkg.run ∨ s.pkg = Pkg.hold) →
      s.v .mirMiss = 0 → Answers (.primarySwitch t) s fun u => u.v .mirMiss = 3 ∧ u.v .hbStop = 1 ∧ u.v .priDone = 1)

/-- At a window's close a leaf sends its reports and one END with the window's SEQ, clears the counts stamped before the close, and
the selectors written by then are in force. A window report of a context adds to its bank and to the class total at the hub, one
without context to the unattributed bank; an END is noted for its child. A node engine whose sums are due sends them once. A
complete window shows in CNT_STATUS. START of a closed latch slot opens it at a new point; it answers E_OVERRUN where the slot
is open or 4 points wait. END with the slot's address closes it at a new point; END of a closed slot, or with another address,
answers E_RANGE. A leaf reports and clears what it counted for a latch point before its split. A latch point is complete 20 us
after tL, and the slots it closes are gone. The telemetry window starts its sums anew, and where telemetry runs and its pass is
due a record is written. It says where these commands complete: leafCounterWindow, counterMsg, counterSumTimeout,
counterWindowComplete, latchStart, latchEnd, leafCntLatch, latchPointComplete, telemetryWindow. -/
def Obligations.CountersAndLatches : Prop :=
  (∀ (s : State) (t l : Nat) (reps : List Rep), s.leafRuns l = true → s.v .cwNum l + 1 < ((max s.time t / 10000 : Nat) : Int) →
      Answers (.leafCounterWindow t l reps) s fun u => u.v .cwNum l = ((max s.time t / 10000 : Nat) : Int) - 1
        ∧ (∀ j, j / 2048 < max s.time t / 10000 → u.v .cwAcc l j = 0)
        ∧ (∀ k < 8, s.v .cntFrom l k ≤ (max s.time t / 10000 : Nat) →
            u.selF l k F.LEAF_CNT_SEL_SEL (max s.time t) = u.rd F.LEAF_CNT_SEL_SEL l k)
        ∧ (s.chSt (childEnd (leafDom l)) = Ch.up → ∃ n, Out.msg (childEnd (leafDom l)) Mt.counter (s.ch (childEnd (leafDom l)) F.HUB_CHAN_EPOCH % 16)
            (endPayload 0 0 ((max s.time t / 10000 - 1) % 16) n false) ∈ u.out))
  ∧ (∀ (s : State) (t tag c k cidx ctx seq nleaf delta lk w : Nat), s.delivers (.hub k) tag = true → s.endChild (.hub k) = some c → lk % 2 = 0 →
      cidx ≤ 0x1A → w = max s.time t / 10000 - 1 - (max s.time t / 10000 + 15 - seq % 16) % 16 → s.v .swTime (ctx % 16) ≤ (10000 * w : Nat) →
      Answers (.counterMsg t (.hub k) tag lk cidx ctx seq nleaf false delta) s fun u =>
        u.rd F.CNT_CTX_VAL (ctx % 16) cidx = (s.rd F.CNT_CTX_VAL (ctx % 16) cidx + delta % 2 ^ 38) % 2 ^ F.CNT_CTX_VAL.w
          ∧ u.rd F.CNT_GLOBAL_VAL (0x60 + cidx) = (s.rd F.CNT_GLOBAL_VAL (0x60 + cidx) + delta % 2 ^ 38) % 2 ^ F.CNT_GLOBAL_VAL.w)
  ∧ (∀ (s : State) (t tag c k cidx ctx seq nleaf delta lk : Nat), s.delivers (.hub k) tag = true → s.endChild (.hub k) = some c → lk % 2 = 0 →
      cidx ≤ 0x1A →
      Answers (.counterMsg t (.hub k) tag lk cidx ctx seq nleaf true delta) s fun u =>
        u.rd F.CNT_UA_VAL cidx = (s.rd F.CNT_UA_VAL cidx + delta % 2 ^ 38) % 2 ^ F.CNT_UA_VAL.w)
  ∧ (∀ (s : State) (t tag c k ctx seq nleaf delta lk : Nat) (ua : Bool), s.delivers (.hub k) tag = true → s.endChild (.hub k) = some c → lk % 2 = 0 →
      Answers (.counterMsg t (.hub k) tag lk 0x3F ctx seq nleaf ua delta) s fun u =>
        u.v .cnEnd c (2 * (seq % 16)) = (if bitOf (delta % 2 ^ 38) 37 = true then 2 else 1))
  ∧ (∀ (s : State) (t n lk ctx seq : Nat), s.hasDom (nodeDom n) = true → s.v .islHeld (nodeDom n) = 0 →
      s.v .cnSent n (endKey (lk % 2) (ctx % 16) (seq % 16)) = 0 →
      (lk % 2 = 1 ∨ 10000 * (max s.time t / 10000 - (max s.time t / 10000 + 15 - seq % 16) % 16) + 5000 ≤ max s.time t) →
      Answers (.counterSumTimeout t n lk ctx seq) s fun u => u.v .cnSent n (endKey (lk % 2) (ctx % 16) (seq % 16)) = 1)
  ∧ (∀ (s : State) (t k : Nat), s.hubUp = true → s.v .smpDone < k →
      ((k + 1) * 10000 + 10000 ≤ max s.time t ∨ (k + 1) * 10000 ≤ max s.time t ∧ ∀ d ∈ s.cntKids, s.v .cnEnd d (2 * (k % 16)) ≠ 0) →
      Answers (.counterWindowComplete t k) s fun u => u.rd F.CNT_STATUS_WIN = k % 2 ^ F.CNT_STATUS_WIN.w ∧ u.v .smpDone = k)
  ∧ (∀ (s : State) (t c k addr : Nat) (p : Port), Takes s p →
      Answers (.latchStart t p none c k addr) s fun u =>
        if (s.latchSlot? (c % 16) (k % 4)).isSome = true ∨ 4 ≤ (s.latchOpenPts (c % 16)).length then Told p .eOverrun 0 u ∧ Frame Scope.refused s u
        else Told p .ok 0 u ∧ u.latch.slots = s.latch.slots ++ [⟨c % 16, k % 4, addr % 2 ^ 42, s.latch.next, none, false, false⟩]
          ∧ u.latch.next = s.latch.next + 1 ∧ u.v .latNum (c % 16) = ((s.vn .latNum (c % 16) + 1) % 16 : Nat))
  ∧ (∀ (s : State) (t c k addr : Nat) (p : Port), Takes s p →
      ((s.latchSlot? (c % 16) (k % 4)).map (·.addr)) ≠ some (addr % 2 ^ 42) →
      Answers (.latchEnd t p none c k addr) s fun u => Told p .eRange 0 u ∧ Frame Scope.refused s u)
  ∧ (∀ (s : State) (t c k addr : Nat) (p : Port) (x : LatchSlot), Takes s p → s.latchSlot? (c % 16) (k % 4) = some x → x.addr = addr % 2 ^ 42 →
      (s.latchOpenPts (c % 16)).length < 4 →
      Answers (.latchEnd t p none c k addr) s fun u => Told p .ok 0 u ∧ { x with stop := some s.latch.next } ∈ u.latch.slots
        ∧ u.latch.next = s.latch.next + 1 ∧ u.latchSlot? (c % 16) (k % 4) = (s.latch.slots.filter fun y => decide (y ≠ x)).find?
            fun y => Nat.beq y.ctx (c % 16) && Nat.beq y.slot (k % 4) && y.stop.isNone)
  ∧ (∀ (s : State) (t l c num : Nat) (reps : List Rep), s.leafRuns l = true → 0 < s.vn .latPend l (c % 16 + 16 * (num % 16)) →
      (s.vn .latPend l (c % 16 + 16 * (num % 16)) - 1) / 2 ≤ max s.time t →
      Answers (.leafCntLatch t l c num reps) s fun u => u.v .latPend l (c % 16 + 16 * (num % 16)) = 0 ∧ ∀ j, j / 2048 = num % 16 + 1 → j / 64 % 32 = c % 16 → u.v .clAcc l j = 0)
  ∧ (∀ (s : State) (t c num : Nat) (p : LatchPt), (s.latchOpenPts (c % 16)).find? (fun y => Nat.beq y.num (num % 16)) = some p →
      s.latchPt? p.ser = some p → p.tL + 20000 ≤ max s.time t →
      Answers (.latchPointComplete t c num) s fun u => (∀ x ∈ u.latch.slots, x.stop ≠ some p.ser) ∧ ∀ y ∈ u.latch.pts, y.ser = p.ser → y.done = true)
  ∧ (∀ (s : State) (t : Nat), s.hubUp = true → s.vn .telAt < max s.time t / 1000000 →
      ((s.start t).bgDue 5 = true ∨ s.telRuns = false) →
      Answers (.telemetryWindow t) s fun u => u.v .telAt = (max s.time t / 1000000 : Nat) ∧ u.v .telM = 0 ∧ u.v .telE = 0 ∧ u.v .telN = 0
        ∧ (s.telRuns = true → s.recRoute 1 ≠ [] → s.recs.length < 32 → s.recFly.isSome = true → ∃ b, u.recs = s.recs ++
            [⟨1, 0xFF, 0xFF, 1000000 * (max s.time t / 1000000), b, s.recRoute 1⟩]))

/-- When a record's body is written its header follows, and when the header is written the ring's HEAD and SEQ advance and the
record counts. A write error disables the ring and is recorded. A write of EN to a ring that is off starts it with HEAD, TAIL
and SEQ 0 at BASE; BASE not aligned to 64 bytes, or a move of a running ring, answers E_RANGE. ARM in OFF or FROZEN clears the
buffer, stores a MARK and enters ARMED; else E_RANGE. TRIG takes ARMED to TRIGGERED and counts, and is ignored in OFF. FREEZE
takes ARMED and TRIGGERED to FROZEN, answers E_RANGE in OFF. OFF leaves OFF. DUMP starts a replay in OFF or FROZEN, else
E_OVERRUN; it ends with a MARK after the last frame. A stall freezes the buffer where no package state turns the trace clock
off. The port, where connected and clocked, takes the next frame. It says where these commands complete: recordWriteDone,
recRingEnable, trcArm, trcTrig, trcFreeze, trcOff, trcDump, trcDumpDone, traceStall, trcFrameSent. -/
def Obligations.RecordsAndTrace : Prop :=
  (∀ (s : State) (t : Nat) (f : RecFly), s.recFly = some f → f.hdr = false →
      Answers (.recordWriteDone t false) s fun u => u.recFly = some { f with hdr := true } ∧ Out.recWrite (s.recAddr f.ring)
        (recHeader f.rcd (s.rd F.REC_RING_C_SEQ f.ring) (s.rd F.REC_RING_B_HEAD f.ring) (s.recN f.ring)) ∈ u.out)
  ∧ (∀ (s : State) (t : Nat) (f : RecFly), s.recFly = some f → f.hdr = true →
      Answers (.recordWriteDone t false) s fun u => u.rd F.REC_RING_B_HEAD f.ring = (s.rd F.REC_RING_B_HEAD f.ring + 1) % 2 ^ F.REC_RING_B_HEAD.w
        ∧ u.rd F.REC_RING_C_SEQ f.ring = (s.rd F.REC_RING_C_SEQ f.ring + 1) % 2 ^ F.REC_RING_C_SEQ.w
        ∧ u.rd F.REC_STATUS_WRITTEN = (s.rd F.REC_STATUS_WRITTEN + 1) % 2 ^ F.REC_STATUS_WRITTEN.w)
  ∧ (∀ (s : State) (t : Nat) (f : RecFly), s.recFly = some f → f.ring < 4 →
      Answers (.recordWriteDone t true) s fun u => u.rd F.REC_RING_A_EN f.ring = 0 ∧ u.rd F.REC_PERR_RING = f.ring ∧ u.rd F.REC_PERR_FAULT_SEEN = 1
        ∧ u.rd F.REC_PERR_ADDR = (s.recAddr f.ring + (if f.hdr = true then 0 else 16)) % 2 ^ F.REC_PERR_ADDR.w)
  ∧ (∀ (s : State) (t n base size : Nat) (clr : Bool) (p : Port), Takes s p → n < 4 → base % 2 ^ 48 % 64 = 0 → s.is F.REC_RING_A_EN n = false →
      Answers (.recRingEnable t p n base size clr) s fun u => Told p .ok 0 u ∧ u.rd F.REC_RING_A_EN n = 1 ∧ u.rd F.REC_RING_A_BASE n = base % 2 ^ 48
        ∧ u.rd F.REC_RING_A_SIZE n = size % 16 ∧ u.rd F.REC_RING_B_HEAD n = 0 ∧ u.rd F.REC_RING_B_TAIL n = 0 ∧ u.rd F.REC_RING_C_SEQ n = 0)
  ∧ (∀ (s : State) (t n base size : Nat) (clr : Bool) (p : Port), Takes s p → n < 4 → (base % 2 ^ 48 % 64 ≠ 0 ∨
        s.is F.REC_RING_A_EN n = true ∧ (base % 2 ^ 48 ≠ s.rd F.REC_RING_A_BASE n ∨ size % 16 ≠ s.rd F.REC_RING_A_SIZE n)) →
      Answers (.recRingEnable t p n base size clr) s fun u => Told p .eRange 0 u ∧ Frame Scope.refused s u)
  ∧ (∀ (s : State) (t : Nat) (p : Port), Takes s p →
      Answers (.trcArm t p) s fun u => if s.trcState = 0 ∨ s.trcState = 3 then Told p .ok 0 u ∧ u.trcState = 1 ∧ u.trc.trip = []
          ∧ (∃ f, u.trc.main = [f] ∧ f.cls = 0xD ∧ f.kind = 0 ∧ f.time = max s.time t) else Told p .eRange 0 u ∧ Frame Scope.refused s u)
  ∧ (∀ (s : State) (t : Nat) (p : Port), Takes s p → s.trc.postEv = [] →
      Answers (.trcTrig t p) s fun u => Told p .ok 0 u ∧ (s.trcState = 1 → u.trcState ≠ 1 ∧ u.rd F.TRC_STATUS_TRIGS ≠ 0) ∧ (s.trcState = 0 → u.trcState = 0)
        ∧ (s.trcState = 3 → u.trcState = 3 ∧ u.rd F.TRC_STATUS_TRIGS ≠ 0))
  ∧ (∀ (s : State) (t : Nat) (p : Port), Takes s p →
      Answers (.trcFreeze t p) s fun u => if s.trcState = 0 then Told p .eRange 0 u ∧ Frame Scope.refused s u
        else Told p .ok 0 u ∧ u.trcState = 3 ∧ (s.trcState ≠ 3 → u.rd F.TRC_STATUS_CAUSE = 2 ∧ u.rd F.TRC_STATUS_FROZEN_SEEN = 1))
  ∧ (∀ (s : State) (t : Nat) (p : Port), Takes s p → Answers (.trcOff t p) s fun u => Told p .ok 0 u ∧ u.trcState = 0 ∧ u.trc = s.trc)
  ∧ (∀ (s : State) (t : Nat) (p : Port), Takes s p →
      Answers (.trcDump t p) s fun u => if (s.trcState = 0 ∨ s.trcState = 3) ∧ s.is F.TRC_STATUS_DUMPING = false then
          Told p .ok 0 u ∧ u.rd F.TRC_STATUS_DUMPING = 1 ∧ u.v .dumpAt = 0
        else Told p .eOverrun 0 u ∧ Frame Scope.refused s u)
  ∧ (∀ (s : State) (t : Nat), s.is F.TRC_STATUS_DUMPING = true → s.trcClk = true → (s.start t).trcNext = none →
      Answers (.trcDumpDone t) s fun u => u.rd F.TRC_STATUS_DUMPING = 0 ∧ Out.trc ((s.start t).dumpMark 4) ∈ u.out)
  ∧ (∀ (s : State) (t : Nat), (s.start t).trcNext ≠ none → s.trcOff = false → (s.trcState = 1 ∨ s.trcState = 2) →
      Answers (.traceStall t) s fun u => u.trcState = 3 ∧ u.rd F.TRC_STATUS_CAUSE = 3 ∧ u.rd F.TRC_STATUS_FROZEN_SEEN = 1)
  ∧ (∀ (s : State) (t : Nat) (f : TFrame), (s.start t).trcNext = some f → s.trcClk = true →
      Answers (.trcFrameSent t) s fun u => Config.netlist.trace = true → Out.trc f ∈ u.out)

/-- A 64-bit write that the hub accepts of a register whose write does nothing beside answers OK: each RW bit takes the written
value, each W1C bit clears where 1 is written and it was not set at the same stamp, every other bit stays, and so does every
other register. A write of the register port that an earlier request holds up waits with the status that its acceptance gives
it, with no other effect. A write that R18 to R22 reject answers their status and changes only the error record. A posted write
that finds room in the queue is answered OK at once and waits at the end of the queue; one that finds it full waits outside,
with no effect. The oldest posted write is performed in the same way, and leaves the queue (said where no ramp runs, no reset is
planned, and no write waits for it). It says where these commands complete: registerWrite, postedWritePerform. -/
def Obligations.RegistersAreWritten : Prop :=
  (∀ (s : State) (t addr i j : Nat) (w c : Word) (pins : Pins) (r : Reg) (p : Port), s.hubUp = true →
      (p = .fac ∨ ∃ init, p = .reg init true ∧ s.accepted.length < 32 ∧ s.reqBlocked init (addr % 2 ^ 26) false s.reqWait = false) → s.accessStatus p (addr % 2 ^ 26) 3 = .ok →
      decodeAddr (addr % 2 ^ 26) = some (r, i, j) → addrIsland (addr % 2 ^ 26) = none →
      r ∈ [Reg.SHP_CTRL, .CRUST_STATUS, .ECC_STATUS, .IMG_STATUS, .EVC_WAKE, .RAIL_LOOP, .RAIL_SHED, .REC_ROUTE] →
      c = w &&& ~~~((s.start t).justSet r i j) →
      Answers (.registerWrite t p addr 3 false w pins) s fun u => Told p .ok 0 u
        ∧ (∀ k < 64, (u.reg r i j).getLsbD k = if (r.mask accSets).getLsbD k then c.getLsbD k
            else (s.reg r i j).getLsbD k && !((r.mask fun a => a = .W1C).getLsbD k && c.getLsbD k))
        ∧ ∀ x a b, ¬ (x = r ∧ a = i ∧ b = j) → u.reg x a b = s.reg x a b)
  ∧ (∀ (s : State) (t addr size : Nat) (post : Bool) (w : Word) (pins : Pins) (p : Port), s.hubUp = true →
      (p = .fac ∨ ∃ init priv, p = .reg init priv ∧ s.accepted.length < 32
        ∧ s.reqBlocked init (addr % 2 ^ 26) (s.posts post (addr % 2 ^ 26)) s.reqWait = false) → s.accessStatus p (addr % 2 ^ 26) size ≠ .ok →
      Answers (.registerWrite t p addr size post w pins) s fun u => Told p (s.accessStatus p (addr % 2 ^ 26) size) 0 u ∧ Frame Scope.refused s u)
  ∧ (∀ (s : State) (t addr init : Nat) (priv : Bool) (w : Word) (pins : Pins), s.hubUp = true → s.accepted.length < 32 →
      s.accessStatus (.reg init priv) (addr % 2 ^ 26) 3 = .ok → postable (addr % 2 ^ 26) = true → s.draining (addr % 2 ^ 26) = false →
      s.reqBlocked init (addr % 2 ^ 26) true s.reqWait = false →
      Answers (.registerWrite t (.reg init priv) addr 3 true w pins) s fun u => if s.posted.length < 32 then
          Told (.reg init priv) .ok 0 u ∧ u.posted = s.posted ++ [⟨init, priv, addr % 2 ^ 26, w, true, false⟩]
            ∧ u.rd F.HOST_STATUS_PQ_DEPTH = s.posted.length + 1
        else u.posted = s.posted ∧ Frame Scope.none s u)
  ∧ (∀ (s : State) (t addr size init : Nat) (priv post : Bool) (w : Word) (pins : Pins), s.hubUp = true → s.accepted.length < 32 →
      (s.posts post (addr % 2 ^ 26) = true → s.posted.length < 32) → s.reqBlocked init (addr % 2 ^ 26) (s.posts post (addr % 2 ^ 26)) s.reqWait = true →
      Answers (.registerWrite t (.reg init priv) addr size post w pins) s fun u => u = { s.start t with reqWait := s.reqWait ++
        [⟨max s.time t, init, priv, addr % 2 ^ 26, size, post, w, pins, s.accessStatus (.reg init priv) (addr % 2 ^ 26) size⟩] })
  ∧ (∀ (s : State) (t i j : Nat) (c : Word) (x : PostedWr) (rest : List PostedWr) (pins : Pins) (r : Reg), s.hubUp = true → s.posted = x :: rest →
      x.busy = false → x.wide = true → s.accessStatus (.posted x.init x.priv) x.addr 3 = .ok → decodeAddr x.addr = some (r, i, j) →
      addrIsland x.addr = none → r ∈ [Reg.SHP_CTRL, .CRUST_STATUS, .ECC_STATUS, .IMG_STATUS, .EVC_WAKE, .RAIL_LOOP, .RAIL_SHED, .REC_ROUTE] →
      s.pkg ≠ Pkg.ramp → s.v .downFor = 0 → s.islPlanned = false → s.reqWait = [] → c = x.data &&& ~~~((s.start t).justSet r i j) →
      Answers (.postedWritePerform t pins) s fun u => u.posted = rest
        ∧ ∀ k < 64, (u.reg r i j).getLsbD k = if (r.mask accSets).getLsbD k then c.getLsbD k
            else (s.reg r i j).getLsbD k && !((r.mask fun a => a = .W1C).getLsbD k && c.getLsbD k))

/-- Each vendor message that the port takes is answered with its opcode, TAG, status and payload. GET_STATE and IMG_STATUS return
their registers, READ_REG the register of the hub or E_ALIGN. IMG_OPEN, IMG_COMMIT, IMG_ABORT and COMMIT_SVN act on the loader
as through the register port, and IMG_DATA stores its bytes at its pointer in the staging bank. TRC_READ returns stored frames
in OFF and FROZEN. ALERT_CLR clears the named PEND bits but those set at the same stamp. SIGN_TRIP returns the latest TRIP
record with its signature, or E_RANGE without one. CERT_OPEN empties the certificate store for filling, CERT_DATA stores its
bytes, CERT_COMMIT accepts the chain where its leaf key is the hub's, and else empties the store. A message whose PEC fails is
counted and not answered; one during a READ_REG is not acknowledged. It says where these commands complete: facGetState,
facImgStatus, facReadReg, facImgOpen, facImgData, facImgCommit, facImgAbort, facCommitSvn, facTrcRead, facAlertClr, facSignTrip,
facCertOpen, facCertData, facCertCommit. -/
def Obligations.VendorMessages : Prop :=
  (∀ (s : State) (t tag : Nat) (m : FacMsg), FacOk s m →
      Answers (.facGetState t m tag) s fun u => Out.fac ([2, BitVec.ofNat 8 tag, 0] ++ (wordBytes ((s.start t).view .HUB_PKG_STATE 0 0)
        ++ wordBytes ((s.start t).view .CRUST_LATCH 0 0) ++ wordBytes ((s.start t).view .HUB_CAPS 0 0))) ∈ u.out ∧ Frame Scope.none s u)
  ∧ (∀ (s : State) (t tag : Nat) (m : FacMsg), FacOk s m →
      Answers (.facImgStatus t m tag) s fun u => Out.fac ([9, BitVec.ofNat 8 tag, 0] ++ (wordBytes ((s.start t).view .IMG_STATUS 0 0)
        ++ wordBytes ((s.start t).view .IMG_INFO 0 0))) ∈ u.out ∧ Frame Scope.none s u)
  ∧ (∀ (s : State) (t tag off : Nat) (m : FacMsg), FacOk s m → off % 8 ≠ 0 →
      Answers (.facReadReg t m tag off) s fun u => Out.fac [3, BitVec.ofNat 8 tag, BitVec.ofNat 8 Status.eAlign.code] ∈ u.out ∧ Frame Scope.none s u)
  ∧ (∀ (s : State) (t tag off i j : Nat) (m : FacMsg) (r : Reg), FacOk s m → off % 8 = 0 → off < 2 ^ 26 → s.accessStatus .fac off 3 = .ok →
      addrIsland off = none → s.copyNodes off = [] → decodeAddr off = some (r, i, j) → r ≠ .EVC_ACK → s.readStatus r i j = .ok →
      Answers (.facReadReg t m tag off) s fun u => Out.fac ([3, BitVec.ofNat 8 tag, 0] ++ wordBytes ((s.start t).view r i j)) ∈ u.out ∧ Frame Scope.none s u)
  ∧ (∀ (s : State) (t tag : Nat) (m : FacMsg), FacOk s m → s.ldrForeign .fac = false → (s.ldr = 0 ∨ s.ldr = 1 ∨ s.ldr = 3) →
      Answers (.facImgOpen t m tag) s fun u => Out.fac [4, BitVec.ofNat 8 tag, 0] ∈ u.out ∧ u.ldr = 1 ∧ u.bank s.stageBank = Bank.empty
        ∧ u.v .imgPtr = 0 ∧ u.img.owner = some .fac)
  ∧ (∀ (s : State) (t tag ptr : Nat) (m : FacMsg) (data : List Byte), FacOk s m → s.ldrForeign .fac = false → s.ldr = 1 → dataFits data = true →
      ptr % 8 = 0 → ptr + data.length ≤ 0x80000 →
      Answers (.facImgData t m tag ptr data) s fun u => Out.fac [5, BitVec.ofNat 8 tag, 0] ∈ u.out ∧ u.v .imgPtr = (ptr + data.length : Nat)
        ∧ ∀ a, Mem.read (u.bank s.stageBank).mem a = if ptr ≤ a ∧ a < ptr + data.length then data.getD (a - ptr) 0 else Mem.read (s.bank s.stageBank).mem a)
  ∧ (∀ (s : State) (t tag : Nat) (m : FacMsg), FacOk s m → s.ldrForeign .fac = false → s.ldr = 1 →
      Answers (.facImgCommit t m tag) s fun u => Out.fac [6, BitVec.ofNat 8 tag, 0] ∈ u.out ∧ u.ldr = 2)
  ∧ (∀ (s : State) (t tag : Nat) (m : FacMsg), FacOk s m → s.ldrForeign .fac = false → (s.ldr = 1 ∨ s.ldr = 2 ∨ s.ldr = 3) →
      Answers (.facImgAbort t m tag) s fun u => Out.fac [7, BitVec.ofNat 8 tag, 0] ∈ u.out ∧ u.ldr = 0 ∧ u.img.owner = none)
  ∧ (∀ (s : State) (t tag : Nat) (m : FacMsg), FacOk s m → s.pkg = Pkg.run → s.fusedSvn < s.rd F.IMG_INFO_SVN →
      Answers (.facCommitSvn t m tag) s fun u => Out.fac [8, BitVec.ofNat 8 tag, 0] ∈ u.out ∧ u.rd F.IMG_STATUS_FUSING = 1)
  ∧ (∀ (s : State) (t tag slot count : Nat) (m : FacMsg), FacOk s m → 0 < count → count ≤ 7 → slot + count ≤ 8192 → (s.trcState = 0 ∨ s.trcState = 3) →
      Answers (.facTrcRead t m tag slot count) s fun u => Out.fac ([10, BitVec.ofNat 8 tag, 0]
        ++ (List.range (4 * count)).flatMap fun k => wordBytes ((s.start t).trcWord (4 * slot + k))) ∈ u.out ∧ Frame Scope.none s u)
  ∧ (∀ (s : State) (t tag slot count : Nat) (m : FacMsg), FacOk s m → 0 < count → count ≤ 7 → slot + count ≤ 8192 → s.trcState ≠ 0 → s.trcState ≠ 3 →
      Answers (.facTrcRead t m tag slot count) s fun u => Out.fac [10, BitVec.ofNat 8 tag, BitVec.ofNat 8 Status.eOverrun.code] ∈ u.out ∧ Frame Scope.none s u)
  ∧ (∀ (s : State) (t tag mask : Nat) (m : FacMsg), FacOk s m →
      Answers (.facAlertClr t m tag mask) s fun u => u.reg .FAC_ALERT = s.reg .FAC_ALERT &&& ~~~(BitVec.ofNat 64 (clearBits (mask % 256) ((s.start t).justSet .FAC_ALERT)))
        ∧ Out.fac ([11, BitVec.ofNat 8 tag, 0] ++ wordBytes (u.view .FAC_ALERT 0 0)) ∈ u.out)
  ∧ (∀ (s : State) (t tag : Nat) (m : FacMsg) (nonce : List Byte), FacOk s m →
      Answers (.facSignTrip t m tag nonce) s fun u => Frame Scope.none s u ∧ if s.fac.trip = [] ∨ nonce.length ≠ 32 then
          Out.fac [12, BitVec.ofNat 8 tag, BitVec.ofNat 8 Status.eRange.code] ∈ u.out
        else Out.fac ([12, BitVec.ofNat 8 tag, 0] ++ (s.fac.trip ++ Config.idSign (s.rd F.MIR_STATUS_SELF) (s.fac.trip ++ nonce))) ∈ u.out)
  ∧ (∀ (s : State) (t tag : Nat) (m : FacMsg), FacOk s m →
      Answers (.facCertOpen t m tag) s fun u => Out.fac [13, BitVec.ofNat 8 tag, 0] ∈ u.out ∧ u.rd F.ID_STATUS_FILLING = 1
        ∧ u.rd F.ID_STATUS_CERT_VALID = 0 ∧ u.fac.cert = [] ∧ u.v .certPtr = 0)
  ∧ (∀ (s : State) (t tag ptr : Nat) (m : FacMsg) (data : List Byte), FacOk s m → s.is F.ID_STATUS_FILLING = true → dataFits data = true →
      ptr % 8 = 0 → ptr + data.length ≤ 4096 →
      Answers (.facCertData t m tag ptr data) s fun u => Out.fac [14, BitVec.ofNat 8 tag, 0] ∈ u.out ∧ u.v .certPtr = (ptr + data.length : Nat)
        ∧ ∀ a, Mem.read u.fac.cert a = if ptr ≤ a ∧ a < ptr + data.length then data.getD (a - ptr) 0 else Mem.read s.fac.cert a)
  ∧ (∀ (s : State) (t tag len : Nat) (m : FacMsg), FacOk s m → s.is F.ID_STATUS_FILLING = true → 0 < len → len ≤ 4096 →
      Answers (.facCertCommit t m tag len) s fun u => if s.is F.ID_STATUS_KEY_READY = true
            ∧ Config.chainLeafKeyIs (Mem.bytes s.fac.cert 0 len) (Config.idPubKey (s.rd F.MIR_STATUS_SELF)) = true then
          Out.fac [15, BitVec.ofNat 8 tag, 0] ∈ u.out ∧ u.rd F.ID_STATUS_CERT_VALID = 1 ∧ u.rd F.ID_STATUS_CERT_LEN = len ∧ u.fac.cert = s.fac.cert
        else Out.fac [15, BitVec.ofNat 8 tag, BitVec.ofNat 8 Status.eRange.code] ∈ u.out ∧ u.rd F.ID_STATUS_CERT_VALID = 0 ∧ u.fac.cert = [])
  ∧ (∀ (s : State) (t tag x y : Nat) (m : FacMsg) (b : List Byte), s.hubUp = true → s.facBusy = false → m.pecOk = false →
      ∀ c ∈ [Instr.facGetState t m tag, .facReadReg t m tag x, .facImgOpen t m tag, .facImgData t m tag x b, .facImgCommit t m tag, .facImgAbort t m tag,
        .facCommitSvn t m tag, .facImgStatus t m tag, .facTrcRead t m tag x y, .facAlertClr t m tag x, .facSignTrip t m tag b, .facCertOpen t m tag,
        .facCertData t m tag x b, .facCertCommit t m tag x],
      Answers c s fun u => u.rd F.FAC_STATUS_ERRORS = satAddN F.FAC_STATUS_ERRORS.w (s.rd F.FAC_STATUS_ERRORS) 1 ∧ ∀ d, Out.fac d ∉ u.out)
  ∧ (∀ (s : State) (t tag x y : Nat) (m : FacMsg) (b : List Byte), s.facBusy = true →
      ∀ c ∈ [Instr.facGetState t m tag, .facReadReg t m tag x, .facImgOpen t m tag, .facImgData t m tag x b, .facImgCommit t m tag, .facImgAbort t m tag,
        .facCommitSvn t m tag, .facImgStatus t m tag, .facTrcRead t m tag x y, .facAlertClr t m tag x, .facSignTrip t m tag b, .facCertOpen t m tag,
        .facCertData t m tag x b, .facCertCommit t m tag x],
      Answers c s fun u => u.out = [Out.nack] ∧ Frame Scope.none s u)

/-- After a power-on reset the hub's key pair is derived: KEY_READY is set and ID_PUBKEY shows the public key; a second end of
derivation changes nothing. OPEN empties the certificate store, which then fills; each write of ID_CERT_WDATA stores 8 bytes at
the pointer and moves it, and is rejected with E_RANGE where the store does not fill or is full. COMMIT accepts the chain where
its leaf key is the hub's, and else empties the store and answers E_RANGE; COMMIT of a store that does not fill changes nothing.
Firmware's write of FAC_ALERT.SW sets PEND bit 6. It says where these commands complete: keygenDone, idCertOpen, idCertWdata,
idCertCommit, facAlertSw. -/
def Obligations.IdentityAndAlert : Prop :=
  (∀ (s : State) (t : Nat), s.pkg ≠ Pkg.off → s.v .keyDue ≠ 1 →
      Answers (.keygenDone t) s fun u => u.rd F.ID_STATUS_KEY_READY = 1 ∧ u.v .keyDue = 1
        ∧ ∀ k < 12, u.reg .ID_PUBKEY k = BitVec.ofNat 64 (fieldAt (Config.idPubKey (s.rd F.MIR_STATUS_SELF)) (8 * k) 8))
  ∧ (∀ (s : State) (t : Nat), s.v .keyDue = 1 → Answers (.keygenDone t) s fun u => Frame Scope.none s u)
  ∧ (∀ (s : State) (t : Nat) (p : Port), Takes s p →
      Answers (.idCertOpen t p) s fun u => Told p .ok 0 u ∧ u.rd F.ID_STATUS_FILLING = 1 ∧ u.rd F.ID_STATUS_CERT_VALID = 0
        ∧ u.rd F.ID_STATUS_CERT_LEN = 0 ∧ u.fac.cert = [] ∧ u.v .certPtr = 0)
  ∧ (∀ (s : State) (t : Nat) (p : Port) (w : Word), Takes s p → s.is F.ID_STATUS_FILLING = true → s.vn .certPtr < 4096 →
      Answers (.idCertWdata t p w) s fun u => Told p .ok 0 u ∧ u.v .certPtr = (s.vn .certPtr + 8 : Nat)
        ∧ ∀ a, Mem.read u.fac.cert a = if s.vn .certPtr ≤ a ∧ a < s.vn .certPtr + 8 then w.extractLsb' (8 * (a - s.vn .certPtr)) 8
            else Mem.read s.fac.cert a)
  ∧ (∀ (s : State) (t : Nat) (p : Port) (w : Word), Takes s p → (s.is F.ID_STATUS_FILLING = false ∨ 4096 ≤ s.vn .certPtr) →
      Answers (.idCertWdata t p w) s fun u => Told p .eRange 0 u ∧ Frame Scope.refused s u)
  ∧ (∀ (s : State) (t len : Nat) (p : Port), Takes s p → s.is F.ID_STATUS_FILLING = true → 0 < len → len ≤ 4096 →
      Answers (.idCertCommit t p len) s fun u => if s.is F.ID_STATUS_KEY_READY = true
            ∧ Config.chainLeafKeyIs (Mem.bytes s.fac.cert 0 len) (Config.idPubKey (s.rd F.MIR_STATUS_SELF)) = true then
          Told p .ok 0 u ∧ u.rd F.ID_STATUS_FILLING = 0 ∧ u.rd F.ID_STATUS_CERT_VALID = 1 ∧ u.rd F.ID_STATUS_CERT_LEN = len ∧ u.fac.cert = s.fac.cert
        else Told p .eRange 0 u ∧ u.rd F.ID_STATUS_CERT_VALID = 0 ∧ u.fac.cert = [])
  ∧ (∀ (s : State) (t len : Nat) (p : Port), Takes s p → (s.is F.ID_STATUS_FILLING = false ∨ len % 8192 = 0 ∨ 4096 < len % 8192) →
      Answers (.idCertCommit t p len) s fun u => Told p .eRange 0 u ∧ Frame Scope.refused s u)
  ∧ (∀ (s : State) (t : Nat) (p : Port), Takes s p → Answers (.facAlertSw t p) s fun u => Told p .ok 0 u ∧ (u.reg .FAC_ALERT).getLsbD 6 = true
        ∧ ∀ k, k ≠ 6 → (u.reg .FAC_ALERT).getLsbD k = (s.reg .FAC_ALERT).getLsbD k)

/-- An I3C target without a dynamic address takes one by SETDASA with its static address, or by ENTDAA when it wins; else the port
does not acknowledge. In SMBus mode it answers the Alert Response Address while ALERT_N is low. Set Endpoint ID with an EID that
is neither 0 nor 0xFF sets it, and each MCTP control command is answered. PAGE selects a rail of the image or the package;
VOUT_MODE, READ_VOUT, READ_IOUT, READ_POUT and READ_TEMPERATURE_1 answer the values of the page in their formats, and do not
acknowledge where the table says so. A write of the facility cap sets the setpoint of every facility loop, unless it is 0 or
above the largest setpoint of one; a read returns the lowest. It says where these commands complete: setdasa, entdaa,
alertResponseAddress, setEndpointId, getEndpointId, getMctpVersionSupport, getMessageTypeSupport,
getVendorDefinedMessageSupport, pmbPage, voutMode, readVout, readIout, readPout, readTemperature1, mfrFacilityCapWrite,
mfrFacilityCapRead. -/
def Obligations.TransportsAndPMBus : Prop :=
  (∀ (s : State) (t sa da : Nat) (ibi : Bool), s.i3cFree = true →
      Answers (.setdasa t sa da ibi) s fun u => if sa = s.rd F.FAC_STATUS_ADDR then u.rd F.FAC_STATUS_DA_VALID = 1 ∧ u.rd F.FAC_STATUS_DYN_ADDR = da % 128
          ∧ u.v .ibiOn = (b2n ibi : Nat) else u.out = [Out.nack] ∧ Frame Scope.none s u)
  ∧ (∀ (s : State) (t da : Nat) (ibi : Bool), s.i3cFree = true →
      Answers (.entdaa t da true ibi) s fun u => u.rd F.FAC_STATUS_DA_VALID = 1 ∧ u.rd F.FAC_STATUS_DYN_ADDR = da % 128
        ∧ Out.fac (leBytes 6 Config.fuses.provisionalId.toNat).reverse ∈ u.out)
  ∧ (∀ (s : State) (t sa da : Nat) (won ibi : Bool), s.i3cFree = false → ∀ c ∈ [Instr.setdasa t sa da ibi, .entdaa t da won ibi],
      Answers c s fun u => u.out = [Out.nack] ∧ Frame Scope.none s u)
  ∧ (∀ (s : State) (t : Nat), s.hubUp = true → s.is F.FAC_STATUS_MODE = true →
      Answers (.alertResponseAddress t) s fun u => u.out = [if s.alertLow = true then Out.fac [BitVec.ofNat 8 (2 * s.rd F.FAC_STATUS_ADDR)] else Out.nack])
  ∧ (∀ (s : State) (t op eid : Nat) (m : FacMsg), FacOk s m → op < 2 → eid % 256 ≠ 0 → eid % 256 ≠ 255 →
      Answers (.setEndpointId t m op eid) s fun u => u.rd F.FAC_STATUS_EID = eid % 256
        ∧ Out.fac (Config.standardBody "Set Endpoint ID" [BitVec.ofNat 8 op, BitVec.ofNat 8 eid, BitVec.ofNat 8 (eid % 256)]) ∈ u.out)
  ∧ (∀ (s : State) (t : Nat) (m : FacMsg), FacOk s m → Answers (.getEndpointId t m) s fun u =>
      Out.fac (Config.standardBody "Get Endpoint ID" [BitVec.ofNat 8 (s.rd F.FAC_STATUS_EID)]) ∈ u.out ∧ Frame Scope.none s u)
  ∧ (∀ (s : State) (t typ : Nat) (m : FacMsg), FacOk s m → Answers (.getMctpVersionSupport t m typ) s fun u =>
      Out.fac (Config.standardBody "Get MCTP Version Support" [BitVec.ofNat 8 typ]) ∈ u.out ∧ Frame Scope.none s u)
  ∧ (∀ (s : State) (t : Nat) (m : FacMsg), FacOk s m → Answers (.getMessageTypeSupport t m) s fun u =>
      Out.fac (Config.standardBody "Get Message Type Support" [0x00, 0x05, 0x7F]) ∈ u.out ∧ Frame Scope.none s u)
  ∧ (∀ (s : State) (t sel : Nat) (m : FacMsg), FacOk s m → Answers (.getVendorDefinedMessageSupport t m sel) s fun u =>
      Out.fac (Config.standardBody "Get Vendor Defined Message Support" (BitVec.ofNat 8 sel :: leBytes 4 Config.fuses.iana)) ∈ u.out ∧ Frame Scope.none s u)
  ∧ (∀ (s : State) (t : Nat), s.hubUp = true → Answers (.pmbPage t true none) s fun u => u.out = [Out.fac [BitVec.ofNat 8 s.facPg]])
  ∧ (∀ (s : State) (t v : Nat), s.hubUp = true → Answers (.pmbPage t true (some v)) s fun u =>
      if v = 0xFF ∨ (s.rail? v).isSome = true then u.facPg = v ∧ u.out = [] else u.facPg = s.facPg ∧ u.out = [Out.nack])
  ∧ (∀ (s : State) (t : Nat), s.hubUp = true → Answers (.voutMode t true) s fun u => u.out = [if s.onRail = true then Out.fac [0x15] else Out.nack])
  ∧ (∀ (s : State) (t : Nat), s.hubUp = true → Answers (.readVout t true) s fun u => u.out = [if s.onRail = true then
      Out.fac (leBytes 2 (roundDiv (s.rd F.RAIL_STATE_VSENSE s.facPg * 2048 : Nat) 2000).toNat) else Out.nack])
  ∧ (∀ (s : State) (t : Nat), s.hubUp = true → Answers (.readIout t true) s fun u => u.out = [if s.onRail = true ∧ s.monitored s.facPg = false then
      Out.fac (leBytes 2 (linear11 (s.rdI F.RAIL_MEAS_CURRENT s.facPg) 1000)) else Out.nack])
  ∧ (∀ (s : State) (t : Nat), s.hubUp = true → s.facPg ≠ 0xFF → Answers (.readPout t true) s fun u =>
      u.out = [if s.onRail = true ∧ s.monitored s.facPg = false then Out.fac (leBytes 2 (linear11 (s.rd F.RAIL_MEAS_POWER s.facPg : Nat) 1000)) else Out.nack])
  ∧ (∀ (s : State) (t : Nat), s.hubUp = true → s.facPg = 0xFF → Answers (.readPout t true) s fun u =>
      u.out = [Out.fac (leBytes 2 (linear11 (sumNat (s.railNums.map fun r => s.rd F.RAIL_FUSED_F1US r) : Nat) 1000))])
  ∧ (∀ (s : State) (t : Nat) (x : Int), s.hubUp = true → (s.facPg = 0xFF ∨ s.onRail = true) → (s.start t).pageTemp = some x →
      Answers (.readTemperature1 t true) s fun u => u.out = [Out.fac (leBytes 2 (linear11 x 64))])
  ∧ (∀ (s : State) (t w : Nat), s.hubUp = true → s.facPg = 0xFF → w % 65536 ≠ 0 → s.capLoops ≠ [] →
      (∀ l ∈ s.capLoops, ((w % 65536 * 65536 : Nat) : Int) ≤ s.rdI F.LOOP_SP_MAX_SP_MAX l) →
      Answers (.mfrFacilityCapWrite t true w) s fun u => ∀ l ∈ s.capLoops, u.rdI F.LOOP_SP_SP l = (w % 65536 * 65536 : Nat))
  ∧ (∀ (s : State) (t w : Nat), s.hubUp = true → (s.facPg ≠ 0xFF ∨ w % 65536 = 0 ∨ s.capLoops = [] ∨
        ∃ l ∈ s.capLoops, s.rdI F.LOOP_SP_MAX_SP_MAX l < ((w % 65536 * 65536 : Nat) : Int)) →
      Answers (.mfrFacilityCapWrite t true w) s fun u => u.out = [Out.nack] ∧ Frame Scope.none s u)
  ∧ (∀ (s : State) (t : Nat) (x : Int), s.hubUp = true → s.facPg = 0xFF → x ∈ s.capLoops.map (fun l => s.rdI F.LOOP_SP_SP l) →
      (∀ l ∈ s.capLoops, x ≤ s.rdI F.LOOP_SP_SP l) →
      Answers (.mfrFacilityCapRead t true) s fun u => u.out = [Out.fac (leBytes 2 (satU 16 (roundDiv x 65536)))])
  ∧ (∀ (s : State) (t w : Nat), s.hubUp = true → ∀ c ∈ [Instr.pmbPage t false (some w), .voutMode t false, .readVout t false, .readIout t false,
        .readPout t false, .readTemperature1 t false, .mfrFacilityCapWrite t false w, .mfrFacilityCapRead t false],
      Answers c s fun u => Out.nack ∈ u.out ∧ u.rd F.FAC_STATUS_ERRORS = satAddN F.FAC_STATUS_ERRORS.w (s.rd F.FAC_STATUS_ERRORS) 1 ∧ u.facPg = s.facPg)

/-- GET_VERSION begins the connection again, and each of GET_CAPABILITIES and NEGOTIATE_ALGORITHMS with the four algorithms takes it
one state on; a request in an earlier state is answered UnexpectedRequest. With them done, GET_DIGESTS and GET_CERTIFICATE
answer the digest and the asked part of the accepted chain, or Unspecified without a valid chain; CHALLENGE is signed by the
identity key; GET_MEASUREMENTS answers the blocks, signed where asked. KEY_EXCHANGE opens one of at most two sessions, FINISH
establishes it or, where the proof fails, ends it and counts an error. In a session HEARTBEAT is acknowledged, KEY_UPDATE
counts, END_SESSION ends it; outside one they are answered UnexpectedRequest. It says where these commands complete: getVersion,
getCapabilities, negotiateAlgorithms, getDigests, getCertificate, challenge, getMeasurements, keyExchange, finish,
spdmHeartbeat, spdmKeyUpdate, endSession. -/
def Obligations.SpdmResponder : Prop :=
  (∀ (s : State) (t : Nat) (m : FacMsg), FacOk s m → Answers (.getVersion t m) s fun u => u.v .spdmSt = 1
      ∧ Out.fac (Config.standardBody "VERSION" [0x12]) ∈ u.out)
  ∧ (∀ (s : State) (t : Nat) (m : FacMsg), FacOk s m → 1 ≤ s.vn .spdmSt → Answers (.getCapabilities t m) s fun u => u.v .spdmSt = 2
      ∧ Out.fac (Config.standardBody "CAPABILITIES CERT CHAL MEAS_SIG KEY_EX ENCRYPT MAC HBEAT" []) ∈ u.out)
  ∧ (∀ (s : State) (t : Nat) (m : FacMsg), FacOk s m → 2 ≤ s.vn .spdmSt → Answers (.negotiateAlgorithms t m true) s fun u => u.v .spdmSt = 3
      ∧ Out.fac (Config.standardBody "ALGORITHMS ECDSA_P384 SHA_384 SECP384R1 AES_256_GCM" []) ∈ u.out)
  ∧ (∀ (s : State) (t slot idx x y : Nat) (m : FacMsg) (sign : Bool) (b : List Byte), FacOk s m → s.vn .spdmSt < 3 →
      ∀ c ∈ [Instr.getDigests t m, .getCertificate t m slot x y, .challenge t m slot b, .getMeasurements t m idx sign b, .keyExchange t m slot b],
      Answers c s fun u => u.out = [Out.fac (Config.standardBody "ERROR UnexpectedRequest" [])] ∧ Frame Scope.none s u)
  ∧ (∀ (s : State) (t : Nat) (m : FacMsg), FacOk s m → 3 ≤ s.vn .spdmSt → Answers (.getDigests t m) s fun u =>
      Frame Scope.none s u ∧ u.out = [Out.fac (if s.is F.ID_STATUS_CERT_VALID = true then
        Config.standardBody "DIGESTS" (leBytes 48 (Config.sha384 (Mem.bytes s.fac.cert 0 (s.rd F.ID_STATUS_CERT_LEN))).toNat)
        else Config.standardBody "ERROR Unspecified" [])])
  ∧ (∀ (s : State) (t off len : Nat) (m : FacMsg) (rest : List Byte), FacOk s m → 3 ≤ s.vn .spdmSt → s.is F.ID_STATUS_CERT_VALID = true →
      rest = (Mem.bytes s.fac.cert 0 (s.rd F.ID_STATUS_CERT_LEN)).drop off →
      Answers (.getCertificate t m 0 off len) s fun u => Frame Scope.none s u ∧ u.out = [Out.fac (Config.standardBody "CERTIFICATE"
        (leBytes 2 (rest.take len).length ++ leBytes 2 (rest.length - (rest.take len).length) ++ rest.take len))])
  ∧ (∀ (s : State) (t : Nat) (m : FacMsg) (nonce : List Byte), FacOk s m → 3 ≤ s.vn .spdmSt → s.is F.ID_STATUS_KEY_READY = true →
      Answers (.challenge t m 0 nonce) s fun u => Frame Scope.none s u ∧ ∃ body, u.out = [Out.fac (Config.standardBody "CHALLENGE_AUTH" body
        ++ Config.idSign (s.rd F.MIR_STATUS_SELF) (Config.standardBody "CHALLENGE_AUTH transcript" body))] ∧ body.take nonce.length = nonce)
  ∧ (∀ (s : State) (t : Nat) (m : FacMsg) (nonce : List Byte), FacOk s m → 3 ≤ s.vn .spdmSt →
      Answers (.getMeasurements t m 0 false nonce) s fun u => u.out = [Out.fac (Config.standardBody "MEASUREMENTS" [4])])
  ∧ (∀ (s : State) (t : Nat) (m : FacMsg) (nonce : List Byte), FacOk s m → 3 ≤ s.vn .spdmSt → s.is F.ID_STATUS_KEY_READY = true →
      Answers (.getMeasurements t m 4 true nonce) s fun u => ∃ body, u.out = [Out.fac (Config.standardBody "MEASUREMENTS" body
        ++ Config.idSign (s.rd F.MIR_STATUS_SELF) (Config.standardBody "MEASUREMENTS transcript" body))]
        ∧ body = [4, BitVec.ofNat 8 s.fusedSvn, BitVec.ofNat 8 (s.rd F.IMG_INFO_SVN)] ++ leBytes 4 (s.rd F.IMG_INFO_PARAM_SEQ) ++ nonce)
  ∧ (∀ (s : State) (t k : Nat) (m : FacMsg) (exch : List Byte), FacOk s m → 3 ≤ s.vn .spdmSt → s.is F.ID_STATUS_KEY_READY = true →
      ([0, 1].find? fun k => Nat.beq (s.sesSt k) 0) = some k →
      Answers (.keyExchange t m 0 exch) s fun u => u.sesSt k = 1 ∧ u.sesSt (1 - k) = s.sesSt (1 - k) ∧ u.v .spdmUpd k = 0
        ∧ u.rd F.FAC_STATUS_SESSIONS = 1 + (if s.sesSt (1 - k) = 0 then 0 else 1))
  ∧ (∀ (s : State) (t : Nat) (m : FacMsg) (exch : List Byte), FacOk s m → 3 ≤ s.vn .spdmSt → s.is F.ID_STATUS_KEY_READY = true →
      s.sesSt 0 ≠ 0 → s.sesSt 1 ≠ 0 →
      Answers (.keyExchange t m 0 exch) s fun u => u.out = [Out.fac (Config.standardBody "ERROR SessionLimitExceeded" [])] ∧ Frame Scope.none s u)
  ∧ (∀ (s : State) (t k : Nat) (m : FacMsg), FacOk s m → k < 2 → s.sesSt k = 1 →
      Answers (.finish t m k true) s fun u => u.sesSt k = 2 ∧ Out.fac (Config.standardBody "FINISH_RSP" [BitVec.ofNat 8 k]) ∈ u.out)
  ∧ (∀ (s : State) (t k : Nat) (m : FacMsg), FacOk s m → k < 2 → s.sesSt k = 1 →
      Answers (.finish t m k false) s fun u => u.sesSt k = 0 ∧ Out.fac (Config.standardBody "ERROR DecryptError" []) ∈ u.out
        ∧ u.rd F.FAC_STATUS_ERRORS = satAddN F.FAC_STATUS_ERRORS.w (s.rd F.FAC_STATUS_ERRORS) 1)
  ∧ (∀ (s : State) (t k : Nat) (m : FacMsg), FacOk s m → m.ses = some k →
      Answers (.spdmHeartbeat t m) s fun u => u.out = [Out.fac (Config.standardBody "HEARTBEAT_ACK" [])] ∧ Frame Scope.none s u)
  ∧ (∀ (s : State) (t k op : Nat) (m : FacMsg), FacOk s m → m.ses = some k → 1 ≤ op → op ≤ 3 →
      Answers (.spdmKeyUpdate t m op) s fun u => u.out = [Out.fac (Config.standardBody "KEY_UPDATE_ACK" [BitVec.ofNat 8 op])]
        ∧ u.v .spdmUpd k = s.v .spdmUpd k + (if op = 3 then 0 else 1))
  ∧ (∀ (s : State) (t k : Nat) (m : FacMsg), FacOk s m → m.ses = some k →
      Answers (.endSession t m) s fun u => u.sesSt k = 0 ∧ u.out = [Out.fac (Config.standardBody "END_SESSION_ACK" [])])
  ∧ (∀ (s : State) (t op : Nat) (m : FacMsg), FacOk s m → m.ses = none → ∀ c ∈ [Instr.spdmHeartbeat t m, .spdmKeyUpdate t m op, .endSession t m],
      Answers c s fun u => u.out = [Out.fac (Config.standardBody "ERROR UnexpectedRequest" [])] ∧ Frame Scope.none s u)
end

