-- ==== Sys2Proof/Laws/Store.lean ====
section
/-!
SUPPORT. The laws of the sparse maps and of the byte stores: read after write, and the canonical form under every operation.
-/
namespace Sys2Proof.Machine

theorem keyLt_trans {ν : Type} (num : ν → Nat) (a b c : Key ν) (h1 : keyLt num a b = true) (h2 : keyLt num b c = true) :
    keyLt num a c = true := by
  simp only [keyLt, Bool.or_eq_true, Bool.and_eq_true, Nat.blt_eq, Nat.beq_eq] at *
  omega

theorem keyLt_total {ν : Type} {num : ν → Nat} (hn : Function.Injective num) (a b : Key ν) (h : a ≠ b) (hlt : ¬ keyLt num a b = true) :
    keyLt num b a = true := by
  obtain ⟨an, ai, aj⟩ := a
  obtain ⟨bn, bi, bj⟩ := b
  have hne : ¬ (num an = num bn ∧ ai = bi ∧ aj = bj) := by
    rintro ⟨e, rfl, rfl⟩
    exact h (by rw [hn e])
  simp only [keyLt, Bool.or_eq_true, Bool.and_eq_true, Nat.blt_eq, Nat.beq_eq] at *
  omega

section Maps
variable {ν α : Type} [DecidableEq ν] {num : ν → Nat} {dflt : Key ν → α}

theorem KMap.find_insert_same (m : KMap ν α) (k : Key ν) (v : α) : KMap.find? (KMap.insert num m k v) k = some v := by
  induction m with
  | nil => simp [KMap.insert, KMap.find?]
  | cons p r ih =>
    obtain ⟨k', v'⟩ := p
    simp only [KMap.insert]
    split
    · simp [KMap.find?]
    · split
      · simp [KMap.find?]
      · next h _ => simp [KMap.find?, h, ih]

theorem KMap.find_insert_ne (m : KMap ν α) (k x : Key ν) (v : α) (hx : x ≠ k) :
    KMap.find? (KMap.insert num m k v) x = KMap.find? m x := by
  induction m with
  | nil => simp [KMap.insert, KMap.find?, hx.symm]
  | cons p r ih =>
    obtain ⟨k', v'⟩ := p
    simp only [KMap.insert]
    split
    · next h => subst h; simp [KMap.find?, hx.symm]
    · split
      · simp [KMap.find?, hx.symm]
      · simp [KMap.find?, ih]

theorem KMap.find_erase_same (m : KMap ν α) (k : Key ν) : KMap.find? (KMap.erase m k) k = none := by
  induction m with
  | nil => rfl
  | cons p r ih =>
    obtain ⟨k', v'⟩ := p
    by_cases h : k' = k
    · simpa [KMap.erase, h] using ih
    · simpa [KMap.erase, h, KMap.find?] using ih

theorem KMap.find_erase_ne (m : KMap ν α) (k x : Key ν) (hx : x ≠ k) : KMap.find? (KMap.erase m k) x = KMap.find? m x := by
  induction m with
  | nil => rfl
  | cons p r ih =>
    obtain ⟨k', v'⟩ := p
    by_cases h : k' = k
    · subst h; simpa [KMap.erase, KMap.find?, hx.symm] using ih
    · simp only [KMap.erase, List.filter, h, ne_eq, not_false_eq_true, decide_true, KMap.find?]
      split
      · rfl
      · simpa [KMap.erase] using ih

/-- A key that was written reads as what was written. -/
@[simp] theorem KMap.get_set_same [DecidableEq α] (m : KMap ν α) (k : Key ν) (v : α) :
    KMap.get dflt (KMap.set num dflt m k v) k = v := by
  unfold KMap.set KMap.get
  split
  · next h => simp [KMap.find_erase_same, h]
  · simp [KMap.find_insert_same]

/-- Every other key reads as before. -/
theorem KMap.get_set_ne [DecidableEq α] (m : KMap ν α) (k x : Key ν) (v : α) (hx : x ≠ k) :
    KMap.get dflt (KMap.set num dflt m k v) x = KMap.get dflt m x := by
  unfold KMap.set KMap.get
  split
  · rw [KMap.find_erase_ne m k x hx]
  · rw [KMap.find_insert_ne m k x v hx]

theorem KMap.wf_filter [DecidableEq α] (m : KMap ν α) (p : Key ν × α → Bool) (h : KMap.wf num dflt m = true) :
    KMap.wf num dflt (m.filter p) = true := by
  induction m with
  | nil => rfl
  | cons q r ih =>
    obtain ⟨k, v⟩ := q
    simp only [KMap.wf, Bool.and_eq_true] at h
    by_cases hp : p (k, v) = true
    · simp only [List.filter, hp, KMap.wf, Bool.and_eq_true]
      refine ⟨⟨h.1.1, ?_⟩, ih h.2⟩
      rw [List.all_eq_true] at h ⊢
      exact fun x hx => h.1.2 x (List.mem_of_mem_filter hx)
    · simp only [List.filter, hp]
      exact ih h.2

theorem KMap.all_insert (m : KMap ν α) (k : Key ν) (v : α) (q : Key ν × α → Bool) (hk : q (k, v) = true)
    (h : m.all q = true) : (KMap.insert num m k v).all q = true := by
  induction m with
  | nil => simp [KMap.insert, hk]
  | cons p r ih =>
    obtain ⟨k', v'⟩ := p
    simp only [List.all_cons, Bool.and_eq_true] at h
    simp only [KMap.insert]
    split
    · simp [hk, h.2]
    · split
      · simp [hk, h.1, h.2]
      · simp [h.1, ih h.2]

theorem KMap.wf_insert [DecidableEq α] (hn : Function.Injective num) (m : KMap ν α) (k : Key ν) (v : α) (hv : v ≠ dflt k)
    (h : KMap.wf num dflt m = true) : KMap.wf num dflt (KMap.insert num m k v) = true := by
  induction m with
  | nil => simp [KMap.insert, KMap.wf, hv]
  | cons p r ih =>
    obtain ⟨k', v'⟩ := p
    have h0 := h
    simp only [KMap.wf, Bool.and_eq_true, decide_eq_true_eq] at h
    simp only [KMap.insert]
    split
    · next e => subst e; simp [KMap.wf, hv, h.1.2, h.2]
    · next hne =>
      split
      · next hlt =>
        have hall : r.all (fun p => keyLt num k p.1) = true := by
          rw [List.all_eq_true] at h ⊢
          exact fun x hx => keyLt_trans num _ _ _ hlt (h.1.2 x hx)
        rw [KMap.wf, h0]
        simp [hv, hlt, hall]
      · next hlt =>
        have h3 : keyLt num k' k = true := keyLt_total hn k k' (Ne.symm hne) hlt
        rw [KMap.wf, ih h.2, KMap.all_insert r k v (fun p => keyLt num k' p.1) h3 h.1.2]
        simp [h.1.1]

/-- A write keeps the canonical form. -/
theorem KMap.wf_set [DecidableEq α] (hn : Function.Injective num) (m : KMap ν α) (k : Key ν) (v : α) (h : KMap.wf num dflt m = true) :
    KMap.wf num dflt (KMap.set num dflt m k v) = true := by
  unfold KMap.set
  split
  · exact KMap.wf_filter m _ h
  · next hv => exact KMap.wf_insert hn m k v hv h

/-- A run of writes keeps the canonical form. -/
theorem KMap.wf_puts [DecidableEq α] (hn : Function.Injective num) (l m : KMap ν α) (h : KMap.wf num dflt m = true) :
    KMap.wf num dflt (l.foldl (fun m p => KMap.set num dflt m p.1 p.2) m) = true := by
  induction l generalizing m with
  | nil => exact h
  | cons p r ih => exact ih _ (KMap.wf_set hn m p.1 p.2 h)

end Maps

theorem Mem.read_insert_same (m : Mem) (a : Nat) (v : Byte) : Mem.read (Mem.insert m a v) a = v := by
  induction m with
  | nil => simp [Mem.insert, Mem.read]
  | cons p r ih =>
    obtain ⟨b, w⟩ := p
    simp only [Mem.insert]
    split
    · simp [Mem.read]
    · split
      · simp [Mem.read]
      · next h _ => simp [Mem.read, h, ih]

theorem Mem.read_insert_ne (m : Mem) (a x : Nat) (v : Byte) (hx : x ≠ a) : Mem.read (Mem.insert m a v) x = Mem.read m x := by
  induction m with
  | nil => simp [Mem.insert, Mem.read, hx.symm]
  | cons p r ih =>
    obtain ⟨b, w⟩ := p
    simp only [Mem.insert]
    split
    · next h => subst h; simp [Mem.read, hx.symm]
    · split
      · simp [Mem.read, hx.symm]
      · simp [Mem.read, ih]

theorem Mem.read_erase_same (m : Mem) (a : Nat) : Mem.read (Mem.erase m a) a = 0 := by
  induction m with
  | nil => rfl
  | cons p r ih =>
    obtain ⟨b, w⟩ := p
    by_cases h : b = a
    · simpa [Mem.erase, h] using ih
    · simpa [Mem.erase, h, Mem.read] using ih

theorem Mem.read_erase_ne (m : Mem) (a x : Nat) (hx : x ≠ a) : Mem.read (Mem.erase m a) x = Mem.read m x := by
  induction m with
  | nil => rfl
  | cons p r ih =>
    obtain ⟨b, w⟩ := p
    by_cases h : b = a
    · subst h; simpa [Mem.erase, Mem.read, hx.symm] using ih
    · simp only [Mem.erase, List.filter, h, ne_eq, not_false_eq_true, decide_true, Mem.read]
      split
      · rfl
      · simpa [Mem.erase] using ih

/-- A byte that was written reads as what was written. -/
@[simp] theorem Mem.read_write_same (m : Mem) (a : Nat) (v : Byte) : Mem.read (Mem.write m a v) a = v := by
  unfold Mem.write
  split
  · next h => rw [Mem.read_erase_same, h]
  · exact Mem.read_insert_same m a v

/-- Every other byte reads as before. -/
theorem Mem.read_write_ne (m : Mem) (a x : Nat) (v : Byte) (hx : x ≠ a) : Mem.read (Mem.write m a v) x = Mem.read m x := by
  unfold Mem.write
  split
  · exact Mem.read_erase_ne m a x hx
  · exact Mem.read_insert_ne m a x v hx

/-- Bytes outside a written run read as before. -/
theorem Mem.read_writeBytes_out (l : List Byte) (m : Mem) (a x : Nat) (hx : x < a ∨ a + l.length ≤ x) :
    Mem.read (Mem.writeBytes m a l) x = Mem.read m x := by
  induction l generalizing m a with
  | nil => rfl
  | cons v r ih =>
    simp only [List.length_cons] at hx
    rw [Mem.writeBytes, ih (Mem.write m a v) (a + 1) (by omega), Mem.read_write_ne m a x v (by omega)]

/-- Bytes of a written run read as what was written. -/
theorem Mem.read_writeBytes_in (l : List Byte) (m : Mem) (a k : Nat) (hk : k < l.length) :
    Mem.read (Mem.writeBytes m a l) (a + k) = l.getD k 0 := by
  induction l generalizing m a k with
  | nil => simp at hk
  | cons v r ih =>
    cases k with
    | zero => rw [Mem.writeBytes, Mem.read_writeBytes_out r _ _ _ (by omega)]; simp
    | succ k =>
      simp only [List.length_cons] at hk
      rw [Mem.writeBytes, show a + (k + 1) = a + 1 + k by omega, ih (Mem.write m a v) (a + 1) k (by omega)]
      simp

theorem Mem.wf_filter (m : Mem) (p : Host.Cell → Bool) (h : Mem.wf m = true) : Mem.wf (m.filter p) = true := by
  induction m with
  | nil => rfl
  | cons q r ih =>
    obtain ⟨a, v⟩ := q
    simp only [Mem.wf, Bool.and_eq_true] at h
    by_cases hp : p (a, v) = true
    · simp only [List.filter, hp, Mem.wf, Bool.and_eq_true]
      refine ⟨⟨h.1.1, ?_⟩, ih h.2⟩
      rw [List.all_eq_true] at h ⊢
      exact fun x hx => h.1.2 x (List.mem_of_mem_filter hx)
    · simp only [List.filter, hp]
      exact ih h.2

theorem Mem.all_insert (m : Mem) (a : Nat) (v : Byte) (q : Host.Cell → Bool) (hk : q (a, v) = true)
    (h : m.all q = true) : (Mem.insert m a v).all q = true := by
  induction m with
  | nil => simp [Mem.insert, hk]
  | cons p r ih =>
    obtain ⟨b, w⟩ := p
    simp only [List.all_cons, Bool.and_eq_true] at h
    simp only [Mem.insert]
    split
    · simp [hk, h.2]
    · split
      · simp [hk, h.1, h.2]
      · simp [h.1, ih h.2]

theorem Mem.wf_insert (m : Mem) (a : Nat) (v : Byte) (hv : v ≠ 0) (h : Mem.wf m = true) : Mem.wf (Mem.insert m a v) = true := by
  have hv' : ¬ v = 0#8 := hv
  induction m with
  | nil => simp [Mem.insert, Mem.wf, hv']
  | cons p r ih =>
    obtain ⟨b, w⟩ := p
    have h0 := h
    simp only [Mem.wf, Bool.and_eq_true, decide_eq_true_eq] at h
    simp only [Mem.insert]
    split
    · next e => subst e; simp [Mem.wf, hv', h.1.2, h.2]
    · next hne =>
      split
      · next hlt =>
        have hall : r.all (fun c => Nat.blt a c.1) = true := by
          rw [List.all_eq_true] at h ⊢
          intro x hx
          have := h.1.2 x hx
          rw [Nat.blt_eq] at *
          omega
        rw [Mem.wf, h0]
        simp [hv', Nat.blt_eq.mpr hlt, hall]
      · next hlt =>
        have h3 : Nat.blt b a = true := by rw [Nat.blt_eq]; omega
        rw [Mem.wf, ih h.2, Mem.all_insert r a v (fun c => Nat.blt b c.1) h3 h.1.2]
        simpa using h.1.1

/-- A write of a byte keeps the canonical form. -/
theorem Mem.wf_write (m : Mem) (a : Nat) (v : Byte) (h : Mem.wf m = true) : Mem.wf (Mem.write m a v) = true := by
  unfold Mem.write
  split
  · exact Mem.wf_filter m _ h
  · next hv => exact Mem.wf_insert m a v hv h

/-- A write of a run keeps the canonical form. -/
theorem Mem.wf_writeBytes (l : List Byte) (m : Mem) (a : Nat) (h : Mem.wf m = true) : Mem.wf (Mem.writeBytes m a l) = true := by
  induction l generalizing m a with
  | nil => exact h
  | cons v r ih => exact ih _ _ (Mem.wf_write m a v h)

end Sys2Proof.Machine
end

