-- ==== Sys2Proof/Laws/State.lean ====
section
/-!
SUPPORT. The laws of the state's own operations: what each update leaves of each field of the state, reads of registers, fields
and variables after writes, and that the writes keep the queue and the canonical form (Keeps).
-/
namespace Sys2Proof.Machine

theorem Reg.ctorIdx_injective : Function.Injective Reg.ctorIdx := fun a b h => by
  rw [← Reg.ofNat_ctorIdx a, ← Reg.ofNat_ctorIdx b, h]

theorem Var.ctorIdx_injective : Function.Injective Var.ctorIdx := fun a b h => by
  rw [← Var.ofNat_ctorIdx a, ← Var.ofNat_ctorIdx b, h]

/-! ### Fields of a word -/

theorem maskBits_getLsbD (lsb w k : Nat) (h : lsb + w ≤ 64) :
    (maskBits lsb w).getLsbD k = (decide (lsb ≤ k) && decide (k < lsb + w)) := by
  simp only [maskBits, BitVec.getLsbD_shiftLeft, BitVec.getLsbD_ofNat, Nat.testBit_two_pow_sub_one]
  by_cases h1 : lsb ≤ k <;> by_cases h2 : k < lsb + w <;> simp [h1, h2] <;> omega

theorem setBits_getLsbD (x : Word) (lsb w v k : Nat) (h : lsb + w ≤ 64) :
    (setBits x lsb w v).getLsbD k
      = if lsb ≤ k ∧ k < lsb + w then v.testBit (k - lsb) else x.getLsbD k := by
  simp only [setBits, BitVec.getLsbD_or, BitVec.getLsbD_and, BitVec.getLsbD_not, maskBits_getLsbD lsb w k h,
    BitVec.getLsbD_shiftLeft, BitVec.getLsbD_ofNat, Nat.testBit_mod_two_pow]
  by_cases h1 : lsb ≤ k
  · by_cases h2 : k < lsb + w
    · have h3 : k < 64 := by omega
      have h4 : k - lsb < w := by omega
      have h5 : k - lsb < 64 := by omega
      simp [h1, h2, h3, h4, h5, Nat.not_lt.mpr h1]
    · have h4 : ¬ k - lsb < w := by omega
      by_cases h3 : k < 64
      · simp [h1, h2, h3, h4]
      · simp [h1, h2, h3, BitVec.getLsbD_of_ge x k (by omega)]
  · by_cases h3 : k < 64
    · simp [h1, h3, Nat.lt_of_not_le h1]
    · omega

/-- The field just set. -/
theorem getBits_setBits_same (x : Word) (lsb w v : Nat) (h : lsb + w ≤ 64) : getBits (setBits x lsb w v) lsb w = v % 2 ^ w := by
  apply Nat.eq_of_testBit_eq
  intro k
  simp only [getBits, BitVec.testBit_toNat, BitVec.getLsbD_extractLsb', setBits_getLsbD x lsb w v _ h, Nat.testBit_mod_two_pow]
  by_cases hk : k < w <;> simp [hk]

/-- A field that shares no bit with the one set. -/
theorem getBits_setBits_ne (x : Word) (lsb w v a b : Nat) (h : lsb + w ≤ 64) (hd : a + b ≤ lsb ∨ lsb + w ≤ a) :
    getBits (setBits x lsb w v) a b = getBits x a b := by
  apply Nat.eq_of_testBit_eq
  intro k
  simp only [getBits, BitVec.testBit_toNat, BitVec.getLsbD_extractLsb', setBits_getLsbD x lsb w v _ h]
  by_cases hk : k < b
  · have : ¬ (lsb ≤ a + k ∧ a + k < lsb + w) := by omega
    simp [hk, this]
  · simp [hk]

/-! ### Registers -/

@[simp] theorem State.reg_setReg_same (s : State) (r : Reg) (w : Word) (i j : Nat) : (s.setReg r w i j).reg r i j = w := by
  simp [State.setReg, State.reg]

theorem State.reg_setReg_ne (s : State) (r q : Reg) (w : Word) (i j a b : Nat) (h : (⟨q, a, b⟩ : RegKey) ≠ ⟨r, i, j⟩) :
    (s.setReg r w i j).reg q a b = s.reg q a b := by
  simp only [State.setReg, State.reg]
  exact KMap.get_set_ne _ _ _ _ h

theorem State.reg_setReg_reg (s : State) (r q : Reg) (w : Word) (i j a b : Nat) (h : q ≠ r) :
    (s.setReg r w i j).reg q a b = s.reg q a b :=
  s.reg_setReg_ne r q w i j a b fun e => h (congrArg Key.n e)

/-- A field reads what was written to it. -/
theorem State.rd_wr_same (s : State) (f : Fld) (v i j : Nat) (h : f.lsb + f.w ≤ 64) :
    (s.wr f v i j).rd f i j = v % 2 ^ f.w := by
  simp [State.wr, State.rd, getBits_setBits_same _ _ _ _ h]

/-- A field of another register, or of another instance, reads as before. -/
theorem State.rd_wr_ne (s : State) (f g : Fld) (v i j a b : Nat) (h : (⟨g.r, a, b⟩ : RegKey) ≠ ⟨f.r, i, j⟩) :
    (s.wr f v i j).rd g a b = s.rd g a b := by
  simp only [State.wr, State.rd, State.reg_setReg_ne _ _ _ _ _ _ _ _ h]

/-- A field of another register reads as before. -/
theorem State.rd_wr_reg (s : State) (f g : Fld) (v i j a b : Nat) (h : g.r ≠ f.r) : (s.wr f v i j).rd g a b = s.rd g a b :=
  s.rd_wr_ne f g v i j a b fun e => h (congrArg Key.n e)

/-- A field that shares no bit with the one written reads as before. -/
theorem State.rd_wr_apart (s : State) (f g : Fld) (v i j a b : Nat) (h : f.lsb + f.w ≤ 64)
    (hd : g.lsb + g.w ≤ f.lsb ∨ f.lsb + f.w ≤ g.lsb) : (s.wr f v i j).rd g a b = s.rd g a b := by
  by_cases hk : (⟨g.r, a, b⟩ : RegKey) = ⟨f.r, i, j⟩
  · injection hk with h1 h2 h3
    subst h2 h3
    simp only [State.wr, State.rd, h1, State.reg_setReg_same]
    exact getBits_setBits_ne _ _ _ _ _ _ h hd
  · exact s.rd_wr_ne f g v i j a b hk

theorem State.rd_setReg_reg (s : State) (r : Reg) (g : Fld) (w : Word) (i j a b : Nat) (h : g.r ≠ r) :
    (s.setReg r w i j).rd g a b = s.rd g a b := by
  simp only [State.rd, State.reg_setReg_reg _ _ _ _ _ _ _ _ h]

@[simp] theorem State.rd_setV (s : State) (x : Var) (y : Int) (i j : Nat) (g : Fld) (a b : Nat) :
    (s.setV x y i j).rd g a b = s.rd g a b := rfl
@[simp] theorem State.rd_emit (s : State) (o : Out) (g : Fld) (a b : Nat) : (s.emit o).rd g a b = s.rd g a b := rfl
@[simp] theorem State.rd_start (s : State) (t : Nat) (g : Fld) (a b : Nat) : (s.start t).rd g a b = s.rd g a b := rfl

/-! ### Variables -/

@[simp] theorem State.v_setV_same (s : State) (x : Var) (y : Int) (i j : Nat) : (s.setV x y i j).v x i j = y := by
  simp [State.setV, State.v]

theorem State.v_setV_ne (s : State) (x q : Var) (y : Int) (i j a b : Nat) (h : (⟨q, a, b⟩ : VarKey) ≠ ⟨x, i, j⟩) :
    (s.setV x y i j).v q a b = s.v q a b := by
  simp only [State.setV, State.v]
  exact KMap.get_set_ne _ _ _ _ h

theorem State.v_setV_var (s : State) (x q : Var) (y : Int) (i j a b : Nat) (h : q ≠ x) :
    (s.setV x y i j).v q a b = s.v q a b :=
  s.v_setV_ne x q y i j a b fun e => h (congrArg Key.n e)

@[simp] theorem State.v_setReg (s : State) (r : Reg) (w : Word) (i j : Nat) (x : Var) (a b : Nat) :
    (s.setReg r w i j).v x a b = s.v x a b := rfl
@[simp] theorem State.v_wr (s : State) (f : Fld) (v i j : Nat) (x : Var) (a b : Nat) : (s.wr f v i j).v x a b = s.v x a b := rfl
@[simp] theorem State.v_emit (s : State) (o : Out) (x : Var) (a b : Nat) : (s.emit o).v x a b = s.v x a b := rfl
@[simp] theorem State.v_start (s : State) (t : Nat) (x : Var) (a b : Nat) : (s.start t).v x a b = s.v x a b := rfl

/-! ### The other fields of the state -/

@[simp] theorem State.vars_setReg (s : State) (r : Reg) (w : Word) (i j : Nat) : (s.setReg r w i j).vars = s.vars := rfl
@[simp] theorem State.time_setReg (s : State) (r : Reg) (w : Word) (i j : Nat) : (s.setReg r w i j).time = s.time := rfl
@[simp] theorem State.img_setReg (s : State) (r : Reg) (w : Word) (i j : Nat) : (s.setReg r w i j).img = s.img := rfl
@[simp] theorem State.evt_setReg (s : State) (r : Reg) (w : Word) (i j : Nat) : (s.setReg r w i j).evt = s.evt := rfl
@[simp] theorem State.trc_setReg (s : State) (r : Reg) (w : Word) (i j : Nat) : (s.setReg r w i j).trc = s.trc := rfl
@[simp] theorem State.chan_setReg (s : State) (r : Reg) (w : Word) (i j : Nat) : (s.setReg r w i j).chan = s.chan := rfl
@[simp] theorem State.grants_setReg (s : State) (r : Reg) (w : Word) (i j : Nat) : (s.setReg r w i j).grants = s.grants := rfl
@[simp] theorem State.sentGrants_setReg (s : State) (r : Reg) (w : Word) (i j : Nat) : (s.setReg r w i j).sentGrants = s.sentGrants := rfl
@[simp] theorem State.recs_setReg (s : State) (r : Reg) (w : Word) (i j : Nat) : (s.setReg r w i j).recs = s.recs := rfl
@[simp] theorem State.recFly_setReg (s : State) (r : Reg) (w : Word) (i j : Nat) : (s.setReg r w i j).recFly = s.recFly := rfl
@[simp] theorem State.ringLoss_setReg (s : State) (r : Reg) (w : Word) (i j : Nat) : (s.setReg r w i j).ringLoss = s.ringLoss := rfl
@[simp] theorem State.marks_setReg (s : State) (r : Reg) (w : Word) (i j : Nat) : (s.setReg r w i j).marks = s.marks := rfl
@[simp] theorem State.sync_setReg (s : State) (r : Reg) (w : Word) (i j : Nat) : (s.setReg r w i j).sync = s.sync := rfl
@[simp] theorem State.posted_setReg (s : State) (r : Reg) (w : Word) (i j : Nat) : (s.setReg r w i j).posted = s.posted := rfl
@[simp] theorem State.latch_setReg (s : State) (r : Reg) (w : Word) (i j : Nat) : (s.setReg r w i j).latch = s.latch := rfl
@[simp] theorem State.slotActs_setReg (s : State) (r : Reg) (w : Word) (i j : Nat) : (s.setReg r w i j).slotActs = s.slotActs := rfl
@[simp] theorem State.fac_setReg (s : State) (r : Reg) (w : Word) (i j : Nat) : (s.setReg r w i j).fac = s.fac := rfl
@[simp] theorem State.mir_setReg (s : State) (r : Reg) (w : Word) (i j : Nat) : (s.setReg r w i j).mir = s.mir := rfl
@[simp] theorem State.free_setReg (s : State) (r : Reg) (w : Word) (i j : Nat) : (s.setReg r w i j).free = s.free := rfl
@[simp] theorem State.reqWait_setReg (s : State) (r : Reg) (w : Word) (i j : Nat) : (s.setReg r w i j).reqWait = s.reqWait := rfl
@[simp] theorem State.setNow_setReg (s : State) (r : Reg) (w : Word) (i j : Nat) : (s.setReg r w i j).setNow = s.setNow := rfl
@[simp] theorem State.lanes_setReg (s : State) (r : Reg) (w : Word) (i j : Nat) : (s.setReg r w i j).lanes = s.lanes := rfl
@[simp] theorem State.ansHeld_setReg (s : State) (r : Reg) (w : Word) (i j : Nat) : (s.setReg r w i j).ansHeld = s.ansHeld := rfl
@[simp] theorem State.pending_setReg (s : State) (r : Reg) (w : Word) (i j : Nat) : (s.setReg r w i j).pending = s.pending := rfl
@[simp] theorem State.out_setReg (s : State) (r : Reg) (w : Word) (i j : Nat) : (s.setReg r w i j).out = s.out := rfl

@[simp] theorem State.vars_wr (s : State) (f : Fld) (v i j : Nat) : (s.wr f v i j).vars = s.vars := rfl
@[simp] theorem State.time_wr (s : State) (f : Fld) (v i j : Nat) : (s.wr f v i j).time = s.time := rfl
@[simp] theorem State.img_wr (s : State) (f : Fld) (v i j : Nat) : (s.wr f v i j).img = s.img := rfl
@[simp] theorem State.evt_wr (s : State) (f : Fld) (v i j : Nat) : (s.wr f v i j).evt = s.evt := rfl
@[simp] theorem State.trc_wr (s : State) (f : Fld) (v i j : Nat) : (s.wr f v i j).trc = s.trc := rfl
@[simp] theorem State.chan_wr (s : State) (f : Fld) (v i j : Nat) : (s.wr f v i j).chan = s.chan := rfl
@[simp] theorem State.grants_wr (s : State) (f : Fld) (v i j : Nat) : (s.wr f v i j).grants = s.grants := rfl
@[simp] theorem State.sentGrants_wr (s : State) (f : Fld) (v i j : Nat) : (s.wr f v i j).sentGrants = s.sentGrants := rfl
@[simp] theorem State.recs_wr (s : State) (f : Fld) (v i j : Nat) : (s.wr f v i j).recs = s.recs := rfl
@[simp] theorem State.recFly_wr (s : State) (f : Fld) (v i j : Nat) : (s.wr f v i j).recFly = s.recFly := rfl
@[simp] theorem State.ringLoss_wr (s : State) (f : Fld) (v i j : Nat) : (s.wr f v i j).ringLoss = s.ringLoss := rfl
@[simp] theorem State.marks_wr (s : State) (f : Fld) (v i j : Nat) : (s.wr f v i j).marks = s.marks := rfl
@[simp] theorem State.sync_wr (s : State) (f : Fld) (v i j : Nat) : (s.wr f v i j).sync = s.sync := rfl
@[simp] theorem State.posted_wr (s : State) (f : Fld) (v i j : Nat) : (s.wr f v i j).posted = s.posted := rfl
@[simp] theorem State.latch_wr (s : State) (f : Fld) (v i j : Nat) : (s.wr f v i j).latch = s.latch := rfl
@[simp] theorem State.slotActs_wr (s : State) (f : Fld) (v i j : Nat) : (s.wr f v i j).slotActs = s.slotActs := rfl
@[simp] theorem State.fac_wr (s : State) (f : Fld) (v i j : Nat) : (s.wr f v i j).fac = s.fac := rfl
@[simp] theorem State.mir_wr (s : State) (f : Fld) (v i j : Nat) : (s.wr f v i j).mir = s.mir := rfl
@[simp] theorem State.free_wr (s : State) (f : Fld) (v i j : Nat) : (s.wr f v i j).free = s.free := rfl
@[simp] theorem State.reqWait_wr (s : State) (f : Fld) (v i j : Nat) : (s.wr f v i j).reqWait = s.reqWait := rfl
@[simp] theorem State.setNow_wr (s : State) (f : Fld) (v i j : Nat) : (s.wr f v i j).setNow = s.setNow := rfl
@[simp] theorem State.lanes_wr (s : State) (f : Fld) (v i j : Nat) : (s.wr f v i j).lanes = s.lanes := rfl
@[simp] theorem State.ansHeld_wr (s : State) (f : Fld) (v i j : Nat) : (s.wr f v i j).ansHeld = s.ansHeld := rfl
@[simp] theorem State.pending_wr (s : State) (f : Fld) (v i j : Nat) : (s.wr f v i j).pending = s.pending := rfl
@[simp] theorem State.out_wr (s : State) (f : Fld) (v i j : Nat) : (s.wr f v i j).out = s.out := rfl

@[simp] theorem State.regs_setV (s : State) (x : Var) (y : Int) (i j : Nat) : (s.setV x y i j).regs = s.regs := rfl
@[simp] theorem State.time_setV (s : State) (x : Var) (y : Int) (i j : Nat) : (s.setV x y i j).time = s.time := rfl
@[simp] theorem State.img_setV (s : State) (x : Var) (y : Int) (i j : Nat) : (s.setV x y i j).img = s.img := rfl
@[simp] theorem State.evt_setV (s : State) (x : Var) (y : Int) (i j : Nat) : (s.setV x y i j).evt = s.evt := rfl
@[simp] theorem State.trc_setV (s : State) (x : Var) (y : Int) (i j : Nat) : (s.setV x y i j).trc = s.trc := rfl
@[simp] theorem State.chan_setV (s : State) (x : Var) (y : Int) (i j : Nat) : (s.setV x y i j).chan = s.chan := rfl
@[simp] theorem State.grants_setV (s : State) (x : Var) (y : Int) (i j : Nat) : (s.setV x y i j).grants = s.grants := rfl
@[simp] theorem State.sentGrants_setV (s : State) (x : Var) (y : Int) (i j : Nat) : (s.setV x y i j).sentGrants = s.sentGrants := rfl
@[simp] theorem State.recs_setV (s : State) (x : Var) (y : Int) (i j : Nat) : (s.setV x y i j).recs = s.recs := rfl
@[simp] theorem State.recFly_setV (s : State) (x : Var) (y : Int) (i j : Nat) : (s.setV x y i j).recFly = s.recFly := rfl
@[simp] theorem State.ringLoss_setV (s : State) (x : Var) (y : Int) (i j : Nat) : (s.setV x y i j).ringLoss = s.ringLoss := rfl
@[simp] theorem State.marks_setV (s : State) (x : Var) (y : Int) (i j : Nat) : (s.setV x y i j).marks = s.marks := rfl
@[simp] theorem State.sync_setV (s : State) (x : Var) (y : Int) (i j : Nat) : (s.setV x y i j).sync = s.sync := rfl
@[simp] theorem State.posted_setV (s : State) (x : Var) (y : Int) (i j : Nat) : (s.setV x y i j).posted = s.posted := rfl
@[simp] theorem State.latch_setV (s : State) (x : Var) (y : Int) (i j : Nat) : (s.setV x y i j).latch = s.latch := rfl
@[simp] theorem State.slotActs_setV (s : State) (x : Var) (y : Int) (i j : Nat) : (s.setV x y i j).slotActs = s.slotActs := rfl
@[simp] theorem State.fac_setV (s : State) (x : Var) (y : Int) (i j : Nat) : (s.setV x y i j).fac = s.fac := rfl
@[simp] theorem State.mir_setV (s : State) (x : Var) (y : Int) (i j : Nat) : (s.setV x y i j).mir = s.mir := rfl
@[simp] theorem State.free_setV (s : State) (x : Var) (y : Int) (i j : Nat) : (s.setV x y i j).free = s.free := rfl
@[simp] theorem State.reqWait_setV (s : State) (x : Var) (y : Int) (i j : Nat) : (s.setV x y i j).reqWait = s.reqWait := rfl
@[simp] theorem State.setNow_setV (s : State) (x : Var) (y : Int) (i j : Nat) : (s.setV x y i j).setNow = s.setNow := rfl
@[simp] theorem State.lanes_setV (s : State) (x : Var) (y : Int) (i j : Nat) : (s.setV x y i j).lanes = s.lanes := rfl
@[simp] theorem State.ansHeld_setV (s : State) (x : Var) (y : Int) (i j : Nat) : (s.setV x y i j).ansHeld = s.ansHeld := rfl
@[simp] theorem State.pending_setV (s : State) (x : Var) (y : Int) (i j : Nat) : (s.setV x y i j).pending = s.pending := rfl
@[simp] theorem State.out_setV (s : State) (x : Var) (y : Int) (i j : Nat) : (s.setV x y i j).out = s.out := rfl

@[simp] theorem State.regs_emit (s : State) (o : Out) : (s.emit o).regs = s.regs := rfl
@[simp] theorem State.vars_emit (s : State) (o : Out) : (s.emit o).vars = s.vars := rfl
@[simp] theorem State.time_emit (s : State) (o : Out) : (s.emit o).time = s.time := rfl
@[simp] theorem State.img_emit (s : State) (o : Out) : (s.emit o).img = s.img := rfl
@[simp] theorem State.evt_emit (s : State) (o : Out) : (s.emit o).evt = s.evt := rfl
@[simp] theorem State.trc_emit (s : State) (o : Out) : (s.emit o).trc = s.trc := rfl
@[simp] theorem State.chan_emit (s : State) (o : Out) : (s.emit o).chan = s.chan := rfl
@[simp] theorem State.grants_emit (s : State) (o : Out) : (s.emit o).grants = s.grants := rfl
@[simp] theorem State.sentGrants_emit (s : State) (o : Out) : (s.emit o).sentGrants = s.sentGrants := rfl
@[simp] theorem State.recs_emit (s : State) (o : Out) : (s.emit o).recs = s.recs := rfl
@[simp] theorem State.recFly_emit (s : State) (o : Out) : (s.emit o).recFly = s.recFly := rfl
@[simp] theorem State.ringLoss_emit (s : State) (o : Out) : (s.emit o).ringLoss = s.ringLoss := rfl
@[simp] theorem State.marks_emit (s : State) (o : Out) : (s.emit o).marks = s.marks := rfl
@[simp] theorem State.sync_emit (s : State) (o : Out) : (s.emit o).sync = s.sync := rfl
@[simp] theorem State.posted_emit (s : State) (o : Out) : (s.emit o).posted = s.posted := rfl
@[simp] theorem State.latch_emit (s : State) (o : Out) : (s.emit o).latch = s.latch := rfl
@[simp] theorem State.slotActs_emit (s : State) (o : Out) : (s.emit o).slotActs = s.slotActs := rfl
@[simp] theorem State.fac_emit (s : State) (o : Out) : (s.emit o).fac = s.fac := rfl
@[simp] theorem State.mir_emit (s : State) (o : Out) : (s.emit o).mir = s.mir := rfl
@[simp] theorem State.free_emit (s : State) (o : Out) : (s.emit o).free = s.free := rfl
@[simp] theorem State.reqWait_emit (s : State) (o : Out) : (s.emit o).reqWait = s.reqWait := rfl
@[simp] theorem State.setNow_emit (s : State) (o : Out) : (s.emit o).setNow = s.setNow := rfl
@[simp] theorem State.lanes_emit (s : State) (o : Out) : (s.emit o).lanes = s.lanes := rfl
@[simp] theorem State.ansHeld_emit (s : State) (o : Out) : (s.emit o).ansHeld = s.ansHeld := rfl
@[simp] theorem State.pending_emit (s : State) (o : Out) : (s.emit o).pending = s.pending := rfl

@[simp] theorem State.regs_start (s : State) (t : Nat) : (s.start t).regs = s.regs := rfl
@[simp] theorem State.vars_start (s : State) (t : Nat) : (s.start t).vars = s.vars := rfl
@[simp] theorem State.img_start (s : State) (t : Nat) : (s.start t).img = s.img := rfl
@[simp] theorem State.evt_start (s : State) (t : Nat) : (s.start t).evt = s.evt := rfl
@[simp] theorem State.trc_start (s : State) (t : Nat) : (s.start t).trc = s.trc := rfl
@[simp] theorem State.chan_start (s : State) (t : Nat) : (s.start t).chan = s.chan := rfl
@[simp] theorem State.grants_start (s : State) (t : Nat) : (s.start t).grants = s.grants := rfl
@[simp] theorem State.sentGrants_start (s : State) (t : Nat) : (s.start t).sentGrants = s.sentGrants := rfl
@[simp] theorem State.recs_start (s : State) (t : Nat) : (s.start t).recs = s.recs := rfl
@[simp] theorem State.recFly_start (s : State) (t : Nat) : (s.start t).recFly = s.recFly := rfl
@[simp] theorem State.ringLoss_start (s : State) (t : Nat) : (s.start t).ringLoss = s.ringLoss := rfl
@[simp] theorem State.marks_start (s : State) (t : Nat) : (s.start t).marks = s.marks := rfl
@[simp] theorem State.sync_start (s : State) (t : Nat) : (s.start t).sync = s.sync := rfl
@[simp] theorem State.posted_start (s : State) (t : Nat) : (s.start t).posted = s.posted := rfl
@[simp] theorem State.latch_start (s : State) (t : Nat) : (s.start t).latch = s.latch := rfl
@[simp] theorem State.slotActs_start (s : State) (t : Nat) : (s.start t).slotActs = s.slotActs := rfl
@[simp] theorem State.fac_start (s : State) (t : Nat) : (s.start t).fac = s.fac := rfl
@[simp] theorem State.mir_start (s : State) (t : Nat) : (s.start t).mir = s.mir := rfl
@[simp] theorem State.free_start (s : State) (t : Nat) : (s.start t).free = s.free := rfl
@[simp] theorem State.reqWait_start (s : State) (t : Nat) : (s.start t).reqWait = s.reqWait := rfl
@[simp] theorem State.lanes_start (s : State) (t : Nat) : (s.start t).lanes = s.lanes := rfl
@[simp] theorem State.ansHeld_start (s : State) (t : Nat) : (s.start t).ansHeld = s.ansHeld := rfl
@[simp] theorem State.pending_start (s : State) (t : Nat) : (s.start t).pending = s.pending := rfl

@[simp] theorem State.vars_flag (s : State) (f : Fld) (i j m : Nat) : (s.flag f i j m).vars = s.vars := rfl
@[simp] theorem State.time_flag (s : State) (f : Fld) (i j m : Nat) : (s.flag f i j m).time = s.time := rfl
@[simp] theorem State.img_flag (s : State) (f : Fld) (i j m : Nat) : (s.flag f i j m).img = s.img := rfl
@[simp] theorem State.evt_flag (s : State) (f : Fld) (i j m : Nat) : (s.flag f i j m).evt = s.evt := rfl
@[simp] theorem State.trc_flag (s : State) (f : Fld) (i j m : Nat) : (s.flag f i j m).trc = s.trc := rfl
@[simp] theorem State.chan_flag (s : State) (f : Fld) (i j m : Nat) : (s.flag f i j m).chan = s.chan := rfl
@[simp] theorem State.grants_flag (s : State) (f : Fld) (i j m : Nat) : (s.flag f i j m).grants = s.grants := rfl
@[simp] theorem State.sentGrants_flag (s : State) (f : Fld) (i j m : Nat) : (s.flag f i j m).sentGrants = s.sentGrants := rfl
@[simp] theorem State.recs_flag (s : State) (f : Fld) (i j m : Nat) : (s.flag f i j m).recs = s.recs := rfl
@[simp] theorem State.recFly_flag (s : State) (f : Fld) (i j m : Nat) : (s.flag f i j m).recFly = s.recFly := rfl
@[simp] theorem State.ringLoss_flag (s : State) (f : Fld) (i j m : Nat) : (s.flag f i j m).ringLoss = s.ringLoss := rfl
@[simp] theorem State.marks_flag (s : State) (f : Fld) (i j m : Nat) : (s.flag f i j m).marks = s.marks := rfl
@[simp] theorem State.sync_flag (s : State) (f : Fld) (i j m : Nat) : (s.flag f i j m).sync = s.sync := rfl
@[simp] theorem State.posted_flag (s : State) (f : Fld) (i j m : Nat) : (s.flag f i j m).posted = s.posted := rfl
@[simp] theorem State.latch_flag (s : State) (f : Fld) (i j m : Nat) : (s.flag f i j m).latch = s.latch := rfl
@[simp] theorem State.slotActs_flag (s : State) (f : Fld) (i j m : Nat) : (s.flag f i j m).slotActs = s.slotActs := rfl
@[simp] theorem State.fac_flag (s : State) (f : Fld) (i j m : Nat) : (s.flag f i j m).fac = s.fac := rfl
@[simp] theorem State.mir_flag (s : State) (f : Fld) (i j m : Nat) : (s.flag f i j m).mir = s.mir := rfl
@[simp] theorem State.free_flag (s : State) (f : Fld) (i j m : Nat) : (s.flag f i j m).free = s.free := rfl
@[simp] theorem State.reqWait_flag (s : State) (f : Fld) (i j m : Nat) : (s.flag f i j m).reqWait = s.reqWait := rfl
@[simp] theorem State.lanes_flag (s : State) (f : Fld) (i j m : Nat) : (s.flag f i j m).lanes = s.lanes := rfl
@[simp] theorem State.ansHeld_flag (s : State) (f : Fld) (i j m : Nat) : (s.flag f i j m).ansHeld = s.ansHeld := rfl
@[simp] theorem State.pending_flag (s : State) (f : Fld) (i j m : Nat) : (s.flag f i j m).pending = s.pending := rfl
@[simp] theorem State.out_flag (s : State) (f : Fld) (i j m : Nat) : (s.flag f i j m).out = s.out := rfl
@[simp] theorem State.regs_flag (s : State) (f : Fld) (i j m : Nat) :
    (s.flag f i j m).regs = (s.wr f (Nat.lor (s.rd f i j) m) i j).regs := rfl
@[simp] theorem State.setNow_flag (s : State) (f : Fld) (i j m : Nat) :
    (s.flag f i j m).setNow = (⟨f.r, i, j⟩, 2 ^ f.lsb * (m % 2 ^ f.w)) :: s.setNow := rfl

@[simp] theorem State.regs_dropV (s : State) (x : Var) (i : Nat) (sel : Nat → Bool) : (s.dropV x i sel).regs = s.regs := rfl
@[simp] theorem State.setNow_dropV (s : State) (x : Var) (i : Nat) (sel : Nat → Bool) : (s.dropV x i sel).setNow = s.setNow := rfl
@[simp] theorem State.time_dropV (s : State) (x : Var) (i : Nat) (sel : Nat → Bool) : (s.dropV x i sel).time = s.time := rfl
@[simp] theorem State.img_dropV (s : State) (x : Var) (i : Nat) (sel : Nat → Bool) : (s.dropV x i sel).img = s.img := rfl
@[simp] theorem State.evt_dropV (s : State) (x : Var) (i : Nat) (sel : Nat → Bool) : (s.dropV x i sel).evt = s.evt := rfl
@[simp] theorem State.trc_dropV (s : State) (x : Var) (i : Nat) (sel : Nat → Bool) : (s.dropV x i sel).trc = s.trc := rfl
@[simp] theorem State.chan_dropV (s : State) (x : Var) (i : Nat) (sel : Nat → Bool) : (s.dropV x i sel).chan = s.chan := rfl
@[simp] theorem State.grants_dropV (s : State) (x : Var) (i : Nat) (sel : Nat → Bool) : (s.dropV x i sel).grants = s.grants := rfl
@[simp] theorem State.sentGrants_dropV (s : State) (x : Var) (i : Nat) (sel : Nat → Bool) : (s.dropV x i sel).sentGrants = s.sentGrants := rfl
@[simp] theorem State.recs_dropV (s : State) (x : Var) (i : Nat) (sel : Nat → Bool) : (s.dropV x i sel).recs = s.recs := rfl
@[simp] theorem State.recFly_dropV (s : State) (x : Var) (i : Nat) (sel : Nat → Bool) : (s.dropV x i sel).recFly = s.recFly := rfl
@[simp] theorem State.ringLoss_dropV (s : State) (x : Var) (i : Nat) (sel : Nat → Bool) : (s.dropV x i sel).ringLoss = s.ringLoss := rfl
@[simp] theorem State.marks_dropV (s : State) (x : Var) (i : Nat) (sel : Nat → Bool) : (s.dropV x i sel).marks = s.marks := rfl
@[simp] theorem State.sync_dropV (s : State) (x : Var) (i : Nat) (sel : Nat → Bool) : (s.dropV x i sel).sync = s.sync := rfl
@[simp] theorem State.posted_dropV (s : State) (x : Var) (i : Nat) (sel : Nat → Bool) : (s.dropV x i sel).posted = s.posted := rfl
@[simp] theorem State.latch_dropV (s : State) (x : Var) (i : Nat) (sel : Nat → Bool) : (s.dropV x i sel).latch = s.latch := rfl
@[simp] theorem State.slotActs_dropV (s : State) (x : Var) (i : Nat) (sel : Nat → Bool) : (s.dropV x i sel).slotActs = s.slotActs := rfl
@[simp] theorem State.fac_dropV (s : State) (x : Var) (i : Nat) (sel : Nat → Bool) : (s.dropV x i sel).fac = s.fac := rfl
@[simp] theorem State.mir_dropV (s : State) (x : Var) (i : Nat) (sel : Nat → Bool) : (s.dropV x i sel).mir = s.mir := rfl
@[simp] theorem State.free_dropV (s : State) (x : Var) (i : Nat) (sel : Nat → Bool) : (s.dropV x i sel).free = s.free := rfl
@[simp] theorem State.reqWait_dropV (s : State) (x : Var) (i : Nat) (sel : Nat → Bool) : (s.dropV x i sel).reqWait = s.reqWait := rfl
@[simp] theorem State.lanes_dropV (s : State) (x : Var) (i : Nat) (sel : Nat → Bool) : (s.dropV x i sel).lanes = s.lanes := rfl
@[simp] theorem State.ansHeld_dropV (s : State) (x : Var) (i : Nat) (sel : Nat → Bool) : (s.dropV x i sel).ansHeld = s.ansHeld := rfl
@[simp] theorem State.pending_dropV (s : State) (x : Var) (i : Nat) (sel : Nat → Bool) : (s.dropV x i sel).pending = s.pending := rfl
@[simp] theorem State.out_dropV (s : State) (x : Var) (i : Nat) (sel : Nat → Bool) : (s.dropV x i sel).out = s.out := rfl

@[simp] theorem State.out_emit (s : State) (o : Out) : (s.emit o).out = s.out ++ [o] := rfl
@[simp] theorem State.out_start (s : State) (t : Nat) : (s.start t).out = [] := rfl
@[simp] theorem State.time_start (s : State) (t : Nat) : (s.start t).time = max s.time t := rfl
@[simp] theorem State.setNow_start (s : State) (t : Nat) : (s.start t).setNow = if s.time < t then [] else s.setNow := rfl

/-- A flag set reads as its old bits with the new ones. -/
theorem State.rd_flag_same (s : State) (f : Fld) (i j m : Nat) (h : f.lsb + f.w ≤ 64) :
    (s.flag f i j m).rd f i j = Nat.lor (s.rd f i j) m % 2 ^ f.w := s.rd_wr_same f _ i j h

/-- A field of another register reads as before a flag was set. -/
theorem State.rd_flag_reg (s : State) (f g : Fld) (i j m a b : Nat) (h : g.r ≠ f.r) : (s.flag f i j m).rd g a b = s.rd g a b :=
  s.rd_wr_reg f g _ i j a b h

@[simp] theorem State.v_flag (s : State) (f : Fld) (i j m : Nat) (x : Var) (a b : Nat) : (s.flag f i j m).v x a b = s.v x a b := rfl
@[simp] theorem State.rd_dropV (s : State) (x : Var) (i : Nat) (sel : Nat → Bool) (g : Fld) (a b : Nat) :
    (s.dropV x i sel).rd g a b = s.rd g a b := rfl

end Sys2Proof.Machine
end

