-- ==== Sys2Proof/Laws/Foot.lean ====
section
/-!
SUPPORT. Does, the relation that every piece of work of a command is in, with its footprint: which registers, variables and parts it
may change. It is a preorder, every write of the state is in it, and so is what is built of such work by cases and by runs over lists.
-/
namespace Sys2Proof.Machine

/-- A footprint: a mask of registers and one of variables, by constructor number, and one of parts. -/
structure Foot where
  regs : Nat
  vars : Nat
  parts : Nat

/-- Whether a footprint has a register. -/
def Foot.hasR (g : Foot) (r : Reg) : Bool := Nat.testBit g.regs r.ctorIdx
/-- Whether a footprint has a variable. -/
def Foot.hasV (g : Foot) (x : Var) : Bool := Nat.testBit g.vars x.ctorIdx
/-- Whether a footprint has a part. -/
def Foot.hasP (g : Foot) (p : Part) : Bool := Nat.testBit g.parts p.ctorIdx

/-- Whether a footprint is within another. -/
def Foot.leB (a b : Foot) : Bool :=
  Nat.beq (Nat.lor a.regs b.regs) b.regs && Nat.beq (Nat.lor a.vars b.vars) b.vars && Nat.beq (Nat.lor a.parts b.parts) b.parts

theorem testBit_of_lor {a b k : Nat} (h : Nat.lor a b = b) (ha : Nat.testBit a k = true) : Nat.testBit b k = true := by
  have e : Nat.testBit (a ||| b) k = Nat.testBit b k := congrArg (Nat.testBit · k) h
  rw [Nat.testBit_or, ha] at e
  simpa using e.symm

theorem Foot.leB_iff {a b : Foot} :
    Foot.leB a b = true ↔ Nat.lor a.regs b.regs = b.regs ∧ Nat.lor a.vars b.vars = b.vars ∧ Nat.lor a.parts b.parts = b.parts := by
  simp [Foot.leB, and_assoc]

variable {a b g : Foot} {z s : State}

theorem Foot.upR {r : Reg} (h : Foot.leB a b = true) (hr : a.hasR r = true) : b.hasR r = true :=
  testBit_of_lor (Foot.leB_iff.mp h).1 hr

theorem Foot.upV {x : Var} (h : Foot.leB a b = true) (hx : a.hasV x = true) : b.hasV x = true :=
  testBit_of_lor (Foot.leB_iff.mp h).2.1 hx

theorem Foot.upP {p : Part} (h : Foot.leB a b = true) (hp : a.hasP p = true) : b.hasP p = true :=
  testBit_of_lor (Foot.leB_iff.mp h).2.2 hp

theorem lor_trans {x y w : Nat} (h : Nat.lor x y = y) (k : Nat.lor y w = w) : Nat.lor x w = w := by
  have e : (x ||| y) ||| w = x ||| (y ||| w) := Nat.or_assoc x y w
  change Nat.lor (Nat.lor x y) w = Nat.lor x (Nat.lor y w) at e
  rw [h, k] at e
  exact e.symm

theorem Foot.up {c : Foot} (h : Foot.leB b c = true) (k : Foot.leB a b = true) : Foot.leB a c = true := by
  obtain ⟨h1, h2, h3⟩ := Foot.leB_iff.mp h
  obtain ⟨k1, k2, k3⟩ := Foot.leB_iff.mp k
  exact Foot.leB_iff.mpr ⟨lor_trans k1 h1, lor_trans k2 h2, lor_trans k3 h3⟩

theorem Foot.le_refl (g : Foot) : Foot.leB g g = true := by
  simp [Foot.leB_iff]

/-- Work within a footprint: it keeps the queue and the canonical form, and changes only what the footprint has. -/
structure Does (g : Foot) (z u : State) : Prop extends Keeps z u where
  regs : ∀ k : RegKey, g.hasR k.n = false → KMap.get Reg.resetWord u.regs k = KMap.get Reg.resetWord z.regs k
  vars : ∀ k : VarKey, g.hasV k.n = false → KMap.get Var.reset u.vars k = KMap.get Var.reset z.vars k
  parts : ∀ p, g.hasP p = false → u.part p = z.part p

/-- A register outside the footprint reads as before. -/
theorem Does.reg (h : Does g z s) {r : Reg} (hr : g.hasR r = false) (i j : Nat) : s.reg r i j = z.reg r i j := h.regs ⟨r, i, j⟩ hr

/-- A field of a register outside the footprint reads as before. -/
theorem Does.rd (h : Does g z s) {f : Fld} (hr : g.hasR f.r = false) (i j : Nat) : s.rd f i j = z.rd f i j := by
  simp only [State.rd, h.reg hr]

/-- A one-bit field of a register outside the footprint reads as before. -/
theorem Does.is (h : Does g z s) {f : Fld} (hr : g.hasR f.r = false) (i j : Nat) : s.is f i j = z.is f i j := by
  simp only [State.is, h.rd hr]

/-- A variable outside the footprint reads as before. -/
theorem Does.v (h : Does g z s) {x : Var} (hx : g.hasV x = false) (i j : Nat) : s.v x i j = z.v x i j := h.vars ⟨x, i, j⟩ hx

theorem Does.refl (g : Foot) (s : State) : Does g s s := ⟨⟨rfl, id⟩, fun _ _ => rfl, fun _ _ => rfl, fun _ _ => rfl⟩

theorem Does.trans {x y w : State} (h : Does g x y) (k : Does g y w) : Does g x w :=
  ⟨⟨k.pending.trans h.pending, fun c => k.canon (h.canon c)⟩, fun q e => (k.regs q e).trans (h.regs q e),
    fun q e => (k.vars q e).trans (h.vars q e), fun q e => (k.parts q e).trans (h.parts q e)⟩

theorem Does.mono (h : Does a z s) (k : Foot.leB a b = true) : Does b z s :=
  ⟨h.toKeeps, fun q e => h.regs q (by
      by_contra n
      simp [Foot.upR k (by simpa using n)] at e),
    fun q e => h.vars q (by
      by_contra n
      simp [Foot.upV k (by simpa using n)] at e),
    fun q e => h.parts q (by
      by_contra n
      simp [Foot.upP k (by simpa using n)] at e)⟩

/-- A change of parts. -/
theorem Does.mk' {regs : RegFile} {vars : VarFile} {time : Nat} {img : ImgSt} {evt : Evt} {trc : Trc} {chan : ChanSt}
    {grants sentGrants : List Grant} {recs : List Rec} {recFly : Option RecFly} {ringLoss : List RingLoss} {marks : List HeldMark}
    {sync : SyncSt} {posted : List PostedWr} {latch : LatchSt} {slotActs : List (Nat × Act)} {fac : FacSt} {mir : MirSt} {free : Nat}
    {reqWait : List RegReq} {setNow : List (RegKey × Nat)} {lanes : List LaneMsg} {ansHeld : List AnsHeld} {pending : List Instr}
    {out : List Out}
    (h : Does g z s) (hp : pending = s.pending) (hr : regs = s.regs) (hv : vars = s.vars)
    (h0 : img.bank0.mem = s.img.bank0.mem) (h1 : img.bank1.mem = s.img.bank1.mem) (hc : fac.cert = s.fac.cert)
    (hm : mir.tickRegs = s.mir.tickRegs) (hl : mir.lazyRegs = s.mir.lazyRegs) (hw : mir.lazyVars = s.mir.lazyVars)
    (hd : mir.cert = s.mir.cert)
    (hq : ∀ p, g.hasP p = false →
      (⟨regs, vars, time, img, evt, trc, chan, grants, sentGrants, recs, recFly, ringLoss, marks, sync, posted, reqWait, latch,
        slotActs, fac, mir, free, setNow, lanes, ansHeld, pending, out⟩ : State).part p = s.part p) :
    Does g z ⟨regs, vars, time, img, evt, trc, chan, grants, sentGrants, recs, recFly, ringLoss, marks, sync, posted, reqWait, latch,
      slotActs, fac, mir, free, setNow, lanes, ansHeld, pending, out⟩ := by
  subst hr hv
  refine ⟨⟨hp.trans h.pending, fun c => ?_⟩, h.regs, h.vars, fun p e => (hq p e).trans (h.parts p e)⟩
  have k := h.canon c
  exact ⟨k.regs, k.vars, h0 ▸ k.bank0, h1 ▸ k.bank1, hc ▸ k.cert, hm ▸ k.tickRegs, hl ▸ k.lazyRegs, hw ▸ k.lazyVars, hd ▸ k.mirCert⟩

/-- A part outside a footprint is not in it. -/
theorem Foot.noP {α : Prop} {p : Part} (h : Foot.leB a b = true) (hp : a.hasP p = true) (e : b.hasP p = false) : α := by
  simp [Foot.upP h hp] at e

theorem Does.ite {x y : State} {c : Prop} [Decidable c] (ha : Does g z x) (hb : Does g z y) : Does g z (if c then x else y) := by
  split
  · exact ha
  · exact hb

theorem Does.ite_snd {α : Type} {x y : α × State} {c : Prop} [Decidable c] (ha : Does g z x.2) (hb : Does g z y.2) :
    Does g z (if c then x else y).2 := by
  split
  · exact ha
  · exact hb

/-- Work that gives a pair. -/
theorem Does.snd {α : Type} {p : α × State} {x : α} (e : p = (x, s)) (h : Does g z p.2) : Does g z s := by
  subst e
  exact h

theorem Does.setReg (h : Does g z s) {r : Reg} (hr : g.hasR r = true) (w : Word) (i j : Nat) : Does g z (s.setReg r w i j) :=
  ⟨⟨h.pending, fun c =>
      let k := h.canon c
      { k with regs := KMap.wf_set Reg.ctorIdx_injective _ _ _ k.regs }⟩,
    fun k e => (KMap.get_set_ne _ _ _ _ fun n => by
      subst n
      simp [hr] at e).trans (h.regs k e),
    h.vars, h.parts⟩

theorem Does.setV (h : Does g z s) {x : Var} (hx : g.hasV x = true) (y : Int) (i j : Nat) : Does g z (s.setV x y i j) :=
  ⟨⟨h.pending, fun c =>
      let k := h.canon c
      { k with vars := KMap.wf_set Var.ctorIdx_injective _ _ _ k.vars }⟩,
    h.regs,
    fun k e => (KMap.get_set_ne _ _ _ _ fun n => by
      subst n
      simp [hx] at e).trans (h.vars k e),
    h.parts⟩

theorem Does.wr (h : Does g z s) {f : Fld} (hr : g.hasR f.r = true) (v i j : Nat) : Does g z (s.wr f v i j) := h.setReg hr _ _ _

theorem Does.flag (h : Does g z s) {f : Fld} (hr : g.hasR f.r = true) (i j m : Nat) : Does g z (s.flag f i j m) := by
  have k := h.wr hr (Nat.lor (s.rd f i j) m) i j
  exact ⟨⟨k.pending, fun c => let q := k.canon c; { q with }⟩, k.regs, k.vars, k.parts⟩

theorem Does.emit (h : Does g z s) (o : Out) : Does g z (s.emit o) :=
  ⟨⟨h.pending, fun c => let k := h.canon c; { k with }⟩, h.regs, h.vars, h.parts⟩

theorem Does.start (h : Does g z s) (t : Nat) : Does g z (s.start t) :=
  ⟨⟨h.pending, fun c => let k := h.canon c; { k with }⟩, h.regs, h.vars, h.parts⟩

theorem Does.when (h : Does g z s) (c : Bool) (f : State → State) (hf : ∀ u, Does g z u → Does g z (f u)) : Does g z (s.when c f) := by
  unfold State.when
  split
  · exact hf s h
  · exact h

theorem Does.each {α : Type} (h : Does g z s) (l : List α) (f : State → α → State)
    (hf : ∀ u x, x ∈ l → Does g z u → Does g z (f u x)) : Does g z (s.each l f) := by
  unfold State.each
  induction l generalizing s with
  | nil => exact h
  | cons x r ih => exact ih (hf s x List.mem_cons_self h) fun u y hy => hf u y (List.mem_cons_of_mem _ hy)

theorem Does.freshFree (h : Does g z s) (hp : g.hasP .free = true) : Does g z s.freshFree.2 :=
  ⟨⟨h.pending, fun c => let k := h.canon c; { k with }⟩, h.regs, h.vars, fun p e => (by
    cases p <;> first | rfl | simp [hp] at e : s.freshFree.2.part p = s.part p).trans (h.parts p e)⟩

/-- Dropping listed values leaves what the other keys read. -/
theorem KMap.get_filter_keep {ν α : Type} [DecidableEq ν] (dflt : Key ν → α) (m : KMap ν α) (p : Key ν × α → Bool) (k : Key ν)
    (h : ∀ v, p (k, v) = true) : KMap.get dflt (m.filter p) k = KMap.get dflt m k := by
  have e : KMap.find? (m.filter p) k = KMap.find? m k := by
    induction m with
    | nil => rfl
    | cons x r ih =>
      obtain ⟨q, v⟩ := x
      by_cases hq : q = k
      · subst hq
        simp [List.filter, h, KMap.find?]
      · by_cases hp : p (q, v) = true
        · simp [List.filter, hp, KMap.find?, hq, ih]
        · simp [List.filter, hp, KMap.find?, hq, ih]
  simp only [KMap.get, e]

/-- Work that drops registers and variables. -/
theorem Does.drop {u : State} (h : Does g z s) (p : RegKey → Bool) (hr : u.regs = s.regs.filter fun x => !p x.1)
    (hpr : ∀ k, p k = true → g.hasR k.n = true) (q : VarKey → Bool) (hv : u.vars = s.vars.filter fun x => !q x.1)
    (hqv : ∀ k, q k = true → g.hasV k.n = true) (hp : u.pending = s.pending)
    (h0 : u.img.bank0.mem = s.img.bank0.mem) (h1 : u.img.bank1.mem = s.img.bank1.mem) (hc : u.fac.cert = s.fac.cert)
    (hm : u.mir.tickRegs = s.mir.tickRegs) (hl : u.mir.lazyRegs = s.mir.lazyRegs) (hw : u.mir.lazyVars = s.mir.lazyVars)
    (hd : u.mir.cert = s.mir.cert) (hq : ∀ p, g.hasP p = false → u.part p = s.part p) : Does g z u := by
  refine ⟨⟨hp.trans h.pending, fun c => ?_⟩, fun k e => ?_, fun k e => ?_, fun p e => (hq p e).trans (h.parts p e)⟩
  · have k := h.canon c
    exact ⟨by rw [hr]; exact KMap.wf_filter _ _ k.regs, by rw [hv]; exact KMap.wf_filter _ _ k.vars, h0 ▸ k.bank0, h1 ▸ k.bank1,
      hc ▸ k.cert, hm ▸ k.tickRegs, hl ▸ k.lazyRegs, hw ▸ k.lazyVars, hd ▸ k.mirCert⟩
  · rw [hr, KMap.get_filter_keep _ _ _ _ fun v => ?_]
    · exact h.regs k e
    · cases hk : p k
      · simp
      · simp [hpr k hk] at e
  · rw [hv, KMap.get_filter_keep _ _ _ _ fun v => ?_]
    · exact h.vars k e
    · cases hk : q k
      · simp
      · simp [hqv k hk] at e

/-- The filter that drops nothing. -/
theorem filter_none {α : Type} (l : List α) : l = l.filter fun _ => !false := by simp

theorem Does.dropV (h : Does g z s) {x : Var} (hx : g.hasV x = true) (i : Nat) (sel : Nat → Bool) : Does g z (s.dropV x i sel) :=
  h.drop (fun _ => false) (filter_none _) (fun _ e => by simp at e)
    (fun k => decide (k.n = x) && Nat.beq k.i i && sel k.j) rfl (fun k e => by
      simp only [Bool.and_eq_true, decide_eq_true_eq] at e
      rw [e.1.1]
      exact hx) rfl rfl rfl rfl rfl rfl rfl rfl (fun p _ => by cases p <;> rfl)

/-- A list of registers within a footprint. -/
theorem Foot.upL {l : List Reg} {r : Reg} (h : Foot.leB a b = true) (hl : l.all a.hasR = true) (hr : l.contains r = true) : b.hasR r = true :=
  Foot.upR h (List.all_eq_true.mp hl r (by simpa using hr))

/-- A list of variables within a footprint. -/
theorem Foot.upLV {l : List Var} {x : Var} (h : Foot.leB a b = true) (hl : l.all a.hasV = true) (hx : l.contains x = true) : b.hasV x = true :=
  Foot.upV h (List.all_eq_true.mp hl x (by simpa using hx))

/-- All of a list of variables within a footprint. -/
theorem Foot.upAll {l : List Var} (h : Foot.leB a b = true) (hl : l.all a.hasV = true) : l.all b.hasV = true :=
  List.all_eq_true.mpr fun x hx => Foot.upV h (List.all_eq_true.mp hl x hx)

/-- A member of a list of variables within a footprint. -/
theorem Foot.upM {l : List Var} {x : Var} (h : Foot.leB a b = true) (hx : x ∈ l) (hl : l.all a.hasV = true) : b.hasV x = true :=
  Foot.upV h (List.all_eq_true.mp hl x hx)

/-- The register of a member of a list within a footprint. -/
theorem Foot.upMR {α : Type} {l : List α} {f : α → Reg} {x : α} (h : Foot.leB a b = true) (hx : x ∈ l)
    (hl : (l.all fun y => a.hasR (f y)) = true) : b.hasR (f x) = true :=
  Foot.upR h (List.all_eq_true.mp hl x hx)

/-- The field of a member of a numbered list within a footprint. -/
theorem Foot.upZip {l : List Fld} {x : Fld × Nat} (h : Foot.leB a b = true) (hx : x ∈ l.zipIdx)
    (hl : (l.all fun f => a.hasR f.r) = true) : b.hasR x.1.r = true :=
  Foot.upR h (List.all_eq_true.mp hl x.1 (List.fst_mem_of_mem_zipIdx hx))

/-- A field picked from a list within a footprint. -/
theorem Foot.upGetD {l : List Fld} {f : Fld} {k : Nat} (h : Foot.leB a b = true) (hl : ((f :: l).all fun f => a.hasR f.r) = true) :
    b.hasR (l.getD k f).r = true := by
  refine Foot.upR h ?_
  rw [List.getD_eq_getElem?_getD]
  cases e : l[k]? with
  | none => exact List.all_eq_true.mp hl f List.mem_cons_self
  | some x => exact List.all_eq_true.mp hl x (List.mem_cons_of_mem _ (List.mem_of_getElem? e))

theorem Foot.orK {Q : RegKey → Prop} {p q : RegKey → Bool} (hp : ∀ k, p k = true → Q k) (hq : ∀ k, q k = true → Q k) :
    ∀ k, (p k || q k) = true → Q k := fun k h => (Bool.or_eq_true_iff.mp h).elim (hp k) (hq k)

theorem Foot.andK {Q : RegKey → Prop} {p q : RegKey → Bool} (hp : ∀ k, p k = true → Q k) :
    ∀ k, (p k && q k) = true → Q k := fun k h => hp k (Bool.and_eq_true_iff.mp h).1

theorem Foot.eqK {r : Reg} (h : g.hasR r = true) : ∀ k : RegKey, decide (k.n = r) = true → g.hasR k.n = true := fun _ e =>
  (of_decide_eq_true e).symm ▸ h

theorem Foot.conK {l : List Reg} (h : Foot.leB a b = true) (hl : l.all a.hasR = true) :
    ∀ k : RegKey, l.contains k.n = true → b.hasR k.n = true := fun _ e => Foot.upL h hl e

/-- The register of an end's CHAN_STATUS within a footprint. -/
theorem Foot.upEnd (h : Foot.leB a b = true) (h1 : a.hasR .HUB_CHAN = true) (h2 : a.hasR .NODE_CHAN = true)
    (h3 : a.hasR .LEAF_CHAN = true) (e : ChEnd) : b.hasR (endReg e) = true := by
  cases e
  · exact Foot.upR h h1
  · exact Foot.upR h h2
  · exact Foot.upR h h3

/-- One of two fields within a footprint. -/
theorem Foot.pick {f k : Fld} {c : Prop} [Decidable c] (hf : g.hasR f.r = true) (hk : g.hasR k.r = true) :
    g.hasR (if c then f else k).r = true := by
  split
  · exact hf
  · exact hk

/-- Work that a meaning answers with a next state. -/
def Runs (g : Foot) (z : State) (o : Host.Outcome State Fault Refusal) : Prop := ∃ u, o = .next u ∧ Does g z u

theorem Runs.next (h : Does g z s) : Runs g z (.next s) := ⟨s, rfl, h⟩

theorem Runs.ite {x y : Host.Outcome State Fault Refusal} {c : Prop} [Decidable c] (ha : Runs g z x) (hb : Runs g z y) :
    Runs g z (if c then x else y) := by
  split
  · exact ha
  · exact hb


/-- A mask of the constructor numbers in a list. -/
def maskIdx {α : Type} (num : α → Nat) (l : List α) : Nat := l.foldl (fun m x => Nat.lor m (Nat.shiftLeft 1 (num x))) 0

theorem testBit_maskIdx {α : Type} (num : α → Nat) (hi : Function.Injective num) (l : List α) (x : α)
    (h : Nat.testBit (maskIdx num l) (num x) = true) : x ∈ l := by
  have key : ∀ (l : List α) (m : Nat), Nat.testBit (l.foldl (fun m x => Nat.lor m (Nat.shiftLeft 1 (num x))) m) (num x) = true →
      Nat.testBit m (num x) = true ∨ x ∈ l := by
    intro l
    induction l with
    | nil => exact fun m h => .inl h
    | cons y r ih =>
      intro m h
      rcases ih _ h with h | h
      · have e : Nat.testBit (m ||| 1 <<< num y) (num x) = true := h
        rw [Nat.testBit_or, Nat.testBit_shiftLeft, Bool.or_eq_true, Bool.and_eq_true] at e
        rcases e with e | e
        · exact .inl e
        · refine .inr (List.mem_cons.mpr (.inl (hi ?_)))
          have h1 : num y ≤ num x := by simpa using e.1
          have h2 : num x - num y = 0 := by
            by_contra n
            have : Nat.testBit 1 (num x - num y) = false := by
              rw [show (1 : Nat) = 2 ^ 0 from rfl, Nat.testBit_two_pow]
              simpa using fun q => n q.symm
            simp [this] at e
          omega
      · exact .inr (List.mem_cons_of_mem _ h)
  rcases key l 0 h with h | h
  · simp at h
  · exact h

theorem Part.ctorIdx_injective : Function.Injective Part.ctorIdx := fun a b h => by
  cases a <;> cases b <;> first | rfl | cases h

/-- The footprint of a scope. -/
def Scope.foot (g : Scope) : Foot := ⟨maskIdx Reg.ctorIdx g.regs, maskIdx Var.ctorIdx g.vars, maskIdx Part.ctorIdx g.parts⟩

/-- Work whose footprint lies in a scope's has the frame of that scope. -/
theorem Does.within {w : Scope} (h : Does g z s) (hg : g.leB w.foot = true) : Frame w z s := by
  have k := h.mono hg
  refine ⟨fun r i j hr => k.reg ?_ i j, fun x i j hx => k.v ?_ i j, fun p hp => k.parts p ?_⟩
  · by_contra n
    exact hr (testBit_maskIdx _ Reg.ctorIdx_injective _ _ (Bool.of_not_eq_false n))
  · by_contra n
    exact hx (testBit_maskIdx _ Var.ctorIdx_injective _ _ (Bool.of_not_eq_false n))
  · by_contra n
    exact hp (testBit_maskIdx _ Part.ctorIdx_injective _ _ (Bool.of_not_eq_false n))

theorem Foot.sgF {f k : Fld} {q : Nat} (hf : g.hasR f.r = true) (hk : g.hasR k.r = true) : g.hasR (Machine.sgF q f k).r = true := by
  unfold Machine.sgF
  exact Foot.pick hf hk

theorem Foot.cellF {f k : Fld} {hub : Bool} (hf : g.hasR f.r = true) (hk : g.hasR k.r = true) : g.hasR (Machine.cellF hub f k).r = true := by
  unfold Machine.cellF
  exact Foot.pick hk hf

end Sys2Proof.Machine
end

