-- ==== Sys2Proof/Laws/FootA.lean ====
section
/-!
SUPPORT. Does, with its footprint, for the operations of Ops, Trace, Event, Record, Channel, Float32, Estimate, Budget, Governor.
-/
set_option linter.tactic.unusedName false
set_option linter.unusedVariables false
set_option linter.unusedTactic false
set_option linter.unreachableTactic false
namespace Sys2Proof.Machine

theorem Does.wrI {G : Foot} {z s : State} (h : Does G z s) {f : Fld} (hf : G.hasR f.r = true) (v : Int) (i j : Nat) : Does G z (State.wrI s f v i j) := h.setReg hf _ _ _

theorem Does.wrSat {G : Foot} {z s : State} (h : Does G z s) {f : Fld} (hf : G.hasR f.r = true) (v : Int) (i j : Nat) : Does G z (State.wrSat s f v i j) := h.setReg hf _ _ _

theorem Does.incSat {G : Foot} {z s : State} (h : Does G z s) {f : Fld} (hf : G.hasR f.r = true) (d i j : Nat) : Does G z (State.incSat s f d i j) := h.setReg hf _ _ _

theorem Does.incWrap {G : Foot} {z s : State} (h : Does G z s) {f : Fld} (hf : G.hasR f.r = true) (d i j : Nat) : Does G z (State.incWrap s f d i j) := h.setReg hf _ _ _

theorem Does.addV {G : Foot} {z s : State} (h : Does G z s) {x : Var} (hx : G.hasV x = true) (d : Int) (i j : Nat) : Does G z (State.addV s x d i j) := h.setV hx _ _ _

def Foot.hostErr : Foot := ⟨0x1800000000, 0, 0⟩

theorem Does.hostErr {G : Foot} {z s : State} (h : Does G z s) (hg : Foot.hostErr.leB G = true) (addr : Nat) (init : Nat) (wrt : Bool) (posted : Bool) (st : Status) : Does G z (State.hostErr s addr init wrt posted st) := by
  unfold State.hostErr
  with_reducible repeat' first
    | assumption
    | (extract_lets +onlyGivenNames a; first | (refine (fun (k : Does G z a) => ?_) ?_; rotate_left; unfold a; clear a; rotate_left; clear_value a; revert a; intros) | (clear_value a; revert a; intros))
    | refine Does.wr ?_ ?_ _ _ _ | exact Foot.upR hg (by decide)

def Foot.answerD : Foot := ⟨0x1800000000, 0, 0⟩

theorem Does.answerD {G : Foot} {z s : State} (h : Does G z s) (hg : Foot.answerD.leB G = true) (p : Port) (addr : Nat) (wrt : Bool) (st : Status) (data : Word) : Does G z (State.answerD s p addr wrt st data) := by
  unfold State.answerD
  with_reducible repeat' first
    | assumption
    | (extract_lets +onlyGivenNames a; first | (refine (fun (k : Does G z a) => ?_) ?_; rotate_left; unfold a; clear a; rotate_left; clear_value a; revert a; intros) | (clear_value a; revert a; intros))
    | refine Does.emit ?_ _ | refine Does.hostErr ?_ (Foot.up hg (by decide)) _ _ _ _ _ | (dsimp -zeta only)
    | refine Does.ite ?_ ?_ | refine Does.ite_snd ?_ ?_ | refine Foot.pick ?_ ?_ | split

def Foot.answerReg : Foot := ⟨0x1800000000, 0, 0⟩

theorem Does.answerReg {G : Foot} {z s : State} (h : Does G z s) (hg : Foot.answerReg.leB G = true) (p : Port) (r : Reg) (addr : Nat) (wrt : Bool) (st : Status) (data : Word) : Does G z (State.answerReg s p r addr wrt st data) := by
  unfold State.answerReg
  with_reducible repeat' first
    | assumption | refine Does.answerD ?_ (Foot.up hg (by decide)) _ _ _ _ _ | (dsimp -zeta only) | refine Does.ite ?_ ?_
    | refine Does.ite_snd ?_ ?_ | refine Foot.pick ?_ ?_ | split | refine Does.snd ‹_ = (_, _)› ?_
    | (refine Does.mk' ?_ rfl rfl rfl rfl rfl rfl rfl rfl rfl rfl ?_; rotate_left; intro p hn; cases p <;> first | with_unfolding_all rfl | exact Foot.noP hg (by decide) hn)

def Foot.answer : Foot := ⟨0x1800000000, 0, 0⟩

theorem Does.answer {G : Foot} {z s : State} (h : Does G z s) (hg : Foot.answer.leB G = true) (p : Port) (r : Reg) (st : Status) (i : Nat) (j : Nat) : Does G z (State.answer s p r st i j) := by
  unfold State.answer
  with_reducible repeat' first
    | assumption | refine Does.answerReg ?_ (Foot.up hg (by decide)) _ _ _ _ _ _

def Foot.deadAnswer : Foot := ⟨0, 0, 0⟩

theorem Does.deadAnswer {G : Foot} {z s : State} (h : Does G z s) (hg : Foot.deadAnswer.leB G = true) (p : Port) : Does G z (State.deadAnswer s p) := by
  unfold State.deadAnswer
  with_reducible repeat' first
    | assumption | refine Does.emit ?_ _ | (dsimp -zeta only) | split

def Foot.ansGive : Foot := ⟨0x1800000000, 0, 0⟩

theorem Does.ansGive {G : Foot} {z s : State} (h : Does G z s) (hg : Foot.ansGive.leB G = true) : Does G z (State.ansGive s) := by
  unfold State.ansGive
  with_reducible repeat' first
    | assumption | refine Does.answerD ?_ (Foot.up hg (by decide)) _ _ _ _ _ | (dsimp -zeta only) | split
    | refine Does.snd ‹_ = (_, _)› ?_
    | (refine Does.mk' ?_ rfl rfl rfl rfl rfl rfl rfl rfl rfl rfl ?_; rotate_left; intro p hn; cases p <;> first | with_unfolding_all rfl | exact Foot.noP hg (by decide) hn)

def Foot.answerAbsent : Foot := ⟨0x1800000000, 0, 0x80640⟩

theorem Does.answerAbsent {G : Foot} {z s : State} (h : Does G z s) (hg : Foot.answerAbsent.leB G = true) (sel : Nat → Port → Bool) : Does G z (State.answerAbsent s sel) := by
  unfold State.answerAbsent
  with_reducible repeat' first
    | assumption
    | (extract_lets +onlyGivenNames a; first | (refine (fun (k : Does G z a) => ?_) ?_; rotate_left; unfold a; clear a; rotate_left; clear_value a; revert a; intros) | ((have b : SyncSt := a; clear b); unfold a; clear a) | (clear_value a; revert a; intros))
    | (refine Does.each ?_ _ _ fun _ _ _ _ => ?_) | refine Does.answerD ?_ (Foot.up hg (by decide)) _ _ _ _ _
    | (dsimp -zeta only) | refine Does.ite ?_ ?_ | refine Does.ite_snd ?_ ?_ | refine Foot.pick ?_ ?_ | split
    | refine Does.snd ‹_ = (_, _)› ?_
    | (refine Does.mk' ?_ rfl rfl rfl rfl rfl rfl rfl rfl rfl rfl ?_; rotate_left; intro p hn; cases p <;> first | with_unfolding_all rfl | exact Foot.noP hg (by decide) hn)

def Foot.command : Foot := ⟨0x1800000000, 0, 0⟩

theorem Does.command {G : Foot} {z s : State} (h : Does G z s) (hg : Foot.command.leB G = true) (p : Port) (r : Reg) (op : State → Status × State) (hop : ∀ x0, Does G z x0 → Does G z (op x0).2) (i : Nat) (j : Nat) : Does G z (State.command s p r op i j) := by
  unfold State.command
  with_reducible repeat' first
    | assumption
    | (extract_lets +onlyGivenNames a; first | (refine (fun (k : Does G z a) => ?_) ?_; rotate_left; unfold a; clear a; rotate_left; clear_value a; revert a; intros) | (clear_value a; revert a; intros))
    | refine Does.deadAnswer ?_ (Foot.up hg (by decide)) _ | refine Does.answer ?_ (Foot.up hg (by decide)) _ _ _ _ _
    | refine hop _ ?_ | (dsimp -zeta only) | refine Does.ite ?_ ?_

def Foot.trcSync : Foot := ⟨0x3000000000000000000000000000000000000000000000000, 0, 0⟩

theorem Does.trcSync {G : Foot} {z s : State} (h : Does G z s) (hg : Foot.trcSync.leB G = true) : Does G z (State.trcSync s) := by
  unfold State.trcSync
  with_reducible repeat' first
    | assumption
    | (extract_lets +onlyGivenNames a; first | (refine (fun (k : Does G z a) => ?_) ?_; rotate_left; unfold a; clear a; rotate_left; clear_value a; revert a; intros) | (clear_value a; revert a; intros))
    | refine Does.wr ?_ ?_ _ _ _ | exact Foot.upR hg (by decide)

def Foot.trcStore : Foot := ⟨0x3000000000000000000000000000000000000000000000000, 0x3, 0x20⟩

theorem Does.trcStore {G : Foot} {z s : State} (h : Does G z s) (hg : Foot.trcStore.leB G = true) (cls : Nat) (kind : Nat) (src : Nat) (time : Nat) (d0 : Nat) (d1 : Nat) : Does G z (State.trcStore s cls kind src time d0 d1) := by
  unfold State.trcStore
  with_reducible repeat' first
    | assumption
    | (extract_lets +onlyGivenNames a; first | (refine (fun (k : Does G z a) => ?_) ?_; rotate_left; unfold a; clear a; rotate_left; clear_value a; revert a; intros) | (clear_value a; revert a; intros))
    | refine Does.setV ?_ ?_ _ _ _ | (refine Does.when ?_ _ _ fun _ _ => ?_) | refine Does.addV ?_ ?_ _ _ _
    | refine Does.trcSync ?_ (Foot.up hg (by decide)) | exact Foot.upV hg (by decide) | (dsimp -zeta only)
    | refine Does.ite ?_ ?_ | refine Does.ite_snd ?_ ?_ | refine Foot.pick ?_ ?_ | split | refine Does.snd ‹_ = (_, _)› ?_
    | (refine Does.mk' ?_ rfl rfl rfl rfl rfl rfl rfl rfl rfl rfl ?_; rotate_left; intro p hn; cases p <;> first | with_unfolding_all rfl | exact Foot.noP hg (by decide) hn)

def Foot.trcRaise : Foot := ⟨0, 0, 0x20⟩

theorem Does.trcRaise {G : Foot} {z s : State} (h : Does G z s) (hg : Foot.trcRaise.leB G = true) (code : Nat) (inst : Nat) : Does G z (State.trcRaise s code inst) := by
  unfold State.trcRaise
  with_reducible repeat' first
    | assumption | (dsimp -zeta only) | split | refine Does.snd ‹_ = (_, _)› ?_
    | (refine Does.mk' ?_ rfl rfl rfl rfl rfl rfl rfl rfl rfl rfl ?_; rotate_left; intro p hn; cases p <;> first | with_unfolding_all rfl | exact Foot.noP hg (by decide) hn)

def Foot.trcDropShow : Foot := ⟨0x1000000000000000000000000000000000000000000000000, 0, 0⟩

theorem Does.trcDropShow {G : Foot} {z s : State} (h : Does G z s) (hg : Foot.trcDropShow.leB G = true) : Does G z (State.trcDropShow s) := by
  unfold State.trcDropShow
  with_reducible repeat' first
    | assumption | refine Does.wr ?_ ?_ _ _ _ | exact Foot.upR hg (by decide)

def Foot.trcLossFrame : Foot := ⟨0x3000000000000000000000000000000000000000000000000, 0x7, 0x20⟩

theorem Does.trcLossFrame {G : Foot} {z s : State} (h : Does G z s) (hg : Foot.trcLossFrame.leB G = true) : Does G z (State.trcLossFrame s) := by
  unfold State.trcLossFrame
  with_reducible repeat' first
    | assumption
    | (extract_lets +onlyGivenNames a; first | (refine (fun (k : Does G z a) => ?_) ?_; rotate_left; unfold a; clear a; rotate_left; clear_value a; revert a; intros) | (clear_value a; revert a; intros))
    | refine Does.setV ?_ ?_ _ _ _ | (refine Does.each ?_ _ _ fun _ _ _ _ => ?_)
    | refine Does.trcStore ?_ (Foot.up hg (by decide)) _ _ _ _ _ _ | refine Does.trcDropShow ?_ (Foot.up hg (by decide))
    | refine Does.trcRaise ?_ (Foot.up hg (by decide)) _ _ | exact Foot.upV hg (by decide)

def Foot.trcDropUpdate : Foot := ⟨0x3000000000000000000000000000000000000000000000000, 0x7, 0x20⟩

theorem Does.trcDropUpdate {G : Foot} {z s : State} (h : Does G z s) (hg : Foot.trcDropUpdate.leB G = true) : Does G z (State.trcDropUpdate s) := by
  unfold State.trcDropUpdate
  with_reducible repeat' first
    | assumption
    | (extract_lets +onlyGivenNames a; first | (refine (fun (k : Does G z a) => ?_) ?_; rotate_left; unfold a; clear a; rotate_left; clear_value a; revert a; intros) | (clear_value a; revert a; intros))
    | refine Does.wr ?_ ?_ _ _ _ | refine Does.trcLossFrame ?_ (Foot.up hg (by decide)) | exact Foot.upR hg (by decide)
    | (dsimp -zeta only) | refine Does.ite ?_ ?_

def Foot.trcFreezeFor : Foot := ⟨0x3000000000000000000000000000000000000000000000000, 0x3, 0x20⟩

theorem Does.trcFreezeFor {G : Foot} {z s : State} (h : Does G z s) (hg : Foot.trcFreezeFor.leB G = true) (cause : Nat) : Does G z (State.trcFreezeFor s cause) := by
  unfold State.trcFreezeFor
  with_reducible repeat' first
    | assumption
    | (extract_lets +onlyGivenNames a; first | (refine (fun (k : Does G z a) => ?_) ?_; rotate_left; unfold a; clear a; rotate_left; clear_value a; revert a; intros) | (clear_value a; revert a; intros))
    | refine Does.wr ?_ ?_ _ _ _ | refine Does.flag ?_ ?_ _ _ _ | refine Does.trcStore ?_ (Foot.up hg (by decide)) _ _ _ _ _ _
    | refine Does.trcRaise ?_ (Foot.up hg (by decide)) _ _ | exact Foot.upR hg (by decide)

def Foot.trcCount : Foot := ⟨0x3000000000000000000000000000000000000000000000000, 0x3, 0x20⟩

theorem Does.trcCount {G : Foot} {z s : State} (h : Does G z s) (hg : Foot.trcCount.leB G = true) : Does G z (State.trcCount s) := by
  unfold State.trcCount
  with_reducible repeat' first
    | assumption | refine Does.trcFreezeFor ?_ (Foot.up hg (by decide)) _ | (dsimp -zeta only) | refine Does.ite ?_ ?_

def Foot.frame : Foot := ⟨0x7000000000000000000000000000000000000000000000000, 0x7, 0x20⟩

theorem Does.frame {G : Foot} {z s : State} (h : Does G z s) (hg : Foot.frame.leB G = true) (cls : Nat) (kind : Nat) (src : Nat) (time : Nat) (d0 : Nat) (d1 : Nat) : Does G z (State.frame s cls kind src time d0 d1) := by
  unfold State.frame
  with_reducible repeat' first
    | assumption
    | (extract_lets +onlyGivenNames a; first | (refine (fun (k : Does G z a) => ?_) ?_; rotate_left; unfold a; clear a; rotate_left; clear_value a; revert a; intros) | (clear_value a; revert a; intros))
    | refine Does.setV ?_ ?_ _ _ _ | refine Does.incSat ?_ ?_ _ _ _ | refine Does.trcLossFrame ?_ (Foot.up hg (by decide))
    | refine Does.trcCount ?_ (Foot.up hg (by decide)) | refine Does.trcStore ?_ (Foot.up hg (by decide)) _ _ _ _ _ _
    | refine Does.trcDropUpdate ?_ (Foot.up hg (by decide)) | exact Foot.upR hg (by decide) | exact Foot.upV hg (by decide)
    | (dsimp -zeta only) | refine Does.ite ?_ ?_

def Foot.trcTrigger : Foot := ⟨0x3000000000000000000000000000000000000000000000000, 0x3, 0x20⟩

theorem Does.trcTrigger {G : Foot} {z s : State} (h : Does G z s) (hg : Foot.trcTrigger.leB G = true) (entry : Nat) : Does G z (State.trcTrigger s entry) := by
  unfold State.trcTrigger
  with_reducible repeat' first
    | assumption
    | (extract_lets +onlyGivenNames a; first | (refine (fun (k : Does G z a) => ?_) ?_; rotate_left; unfold a; clear a; rotate_left; clear_value a; revert a; intros) | (clear_value a; revert a; intros))
    | refine Does.wr ?_ ?_ _ _ _ | refine Does.setV ?_ ?_ _ _ _ | refine Does.incSat ?_ ?_ _ _ _
    | refine Does.trcStore ?_ (Foot.up hg (by decide)) _ _ _ _ _ _ | refine Does.trcDropShow ?_ (Foot.up hg (by decide))
    | refine Does.trcRaise ?_ (Foot.up hg (by decide)) _ _ | refine Does.trcCount ?_ (Foot.up hg (by decide))
    | exact Foot.upR hg (by decide) | exact Foot.upV hg (by decide) | (dsimp -zeta only) | split

def Foot.trcTrip : Foot := ⟨0x1000000000000000000000000000000000000000000000000, 0x1, 0x20⟩

theorem Does.trcTrip {G : Foot} {z s : State} (h : Does G z s) (hg : Foot.trcTrip.leB G = true) (typ : Nat) (bytes : List Byte) : Does G z (State.trcTrip s typ bytes) := by
  unfold State.trcTrip
  with_reducible repeat' first
    | assumption
    | (extract_lets +onlyGivenNames a; first | (refine (fun (k : Does G z a) => ?_) ?_; rotate_left; unfold a; clear a; rotate_left; clear_value a; revert a; intros) | (clear_value a; revert a; intros))
    | refine Does.wr ?_ ?_ _ _ _ | refine Does.flag ?_ ?_ _ _ _ | refine Does.setV ?_ ?_ _ _ _
    | (refine Does.when ?_ _ _ fun _ _ => ?_) | exact Foot.upR hg (by decide) | exact Foot.upV hg (by decide)
    | (dsimp -zeta only) | refine Does.ite ?_ ?_ | refine Does.ite_snd ?_ ?_ | refine Foot.pick ?_ ?_ | split
    | refine Does.snd ‹_ = (_, _)› ?_
    | (refine Does.mk' ?_ rfl rfl rfl rfl rfl rfl rfl rfl rfl rfl ?_; rotate_left; intro p hn; cases p <;> first | with_unfolding_all rfl | exact Foot.noP hg (by decide) hn)

def Foot.srcSync : Foot := ⟨0x100000000000000000, 0, 0⟩

theorem Does.srcSync {G : Foot} {z s : State} (h : Does G z s) (hg : Foot.srcSync.leB G = true) (k : Nat) : Does G z (State.srcSync s k) := by
  unfold State.srcSync
  with_reducible repeat' first
    | assumption | refine Does.wr ?_ ?_ _ _ _ | exact Foot.upR hg (by decide)

def Foot.grpFire : Foot := ⟨0x110000000000000000, 0, 0⟩

theorem Does.grpFire {G : Foot} {z s : State} (h : Does G z s) (hg : Foot.grpFire.leB G = true) (g : Nat) : Does G z (State.grpFire s g) := by
  unfold State.grpFire
  with_reducible repeat' first
    | assumption
    | (extract_lets +onlyGivenNames a; first | (refine (fun (k : Does G z a) => ?_) ?_; rotate_left; unfold a; clear a; rotate_left; clear_value a; revert a; intros) | (clear_value a; revert a; intros))
    | refine Does.wr ?_ ?_ _ _ _ | (refine Does.each ?_ _ _ fun _ _ _ _ => ?_) | refine Does.incSat ?_ ?_ _ _ _
    | exact Foot.upR hg (by decide) | (dsimp -zeta only) | refine Does.ite ?_ ?_

def Foot.setPend : Foot := ⟨0x130000000000000000, 0, 0⟩

theorem Does.setPend {G : Foot} {z s : State} (h : Does G z s) (hg : Foot.setPend.leB G = true) (k : Nat) : Does G z (State.setPend s k) := by
  unfold State.setPend
  with_reducible repeat' first
    | assumption
    | (extract_lets +onlyGivenNames a; first | (refine (fun (k : Does G z a) => ?_) ?_; rotate_left; unfold a; clear a; rotate_left; clear_value a; revert a; intros) | (clear_value a; revert a; intros))
    | refine Does.wr ?_ ?_ _ _ _ | (refine Does.when ?_ _ _ fun _ _ => ?_) | refine Does.grpFire ?_ (Foot.up hg (by decide)) _
    | exact Foot.upR hg (by decide) | (dsimp -zeta only) | refine Does.ite ?_ ?_

def Foot.occur : Foot := ⟨0x130000000000000000, 0, 0⟩

theorem Does.occur {G : Foot} {z s : State} (h : Does G z s) (hg : Foot.occur.leB G = true) (k : Nat) : Does G z (State.occur s k) := by
  unfold State.occur
  with_reducible repeat' first
    | assumption
    | (extract_lets +onlyGivenNames a; first | (refine (fun (k : Does G z a) => ?_) ?_; rotate_left; unfold a; clear a; rotate_left; clear_value a; revert a; intros) | (clear_value a; revert a; intros))
    | refine Does.wr ?_ ?_ _ _ _ | (refine Does.when ?_ _ _ fun _ _ => ?_) | refine Does.incSat ?_ ?_ _ _ _
    | refine Does.srcSync ?_ (Foot.up hg (by decide)) _ | refine Does.grpFire ?_ (Foot.up hg (by decide)) _
    | refine Does.setPend ?_ (Foot.up hg (by decide)) _ | exact Foot.upR hg (by decide) | (dsimp -zeta only)
    | refine Does.ite ?_ ?_

def Foot.alertRise : Foot := ⟨0, 0, 0⟩

theorem Does.alertRise {G : Foot} {z s : State} (h : Does G z s) (hg : Foot.alertRise.leB G = true) (before : Bool) : Does G z (State.alertRise s before) := by
  unfold State.alertRise
  with_reducible repeat' first
    | assumption | refine Does.emit ?_ _ | (refine Does.when ?_ _ _ fun _ _ => ?_)

def Foot.facAlert : Foot := ⟨0x8000000000, 0, 0⟩

theorem Does.facAlert {G : Foot} {z s : State} (h : Does G z s) (hg : Foot.facAlert.leB G = true) (bit : Nat) : Does G z (State.facAlert s bit) := by
  unfold State.facAlert
  with_reducible repeat' first
    | assumption
    | (extract_lets +onlyGivenNames a; first | (refine (fun (k : Does G z a) => ?_) ?_; rotate_left; unfold a; clear a; rotate_left; clear_value a; revert a; intros) | (clear_value a; revert a; intros))
    | refine Does.flag ?_ ?_ _ _ _ | refine Does.alertRise ?_ (Foot.up hg (by decide)) _ | exact Foot.upR hg (by decide)

def Foot.eventOne : Foot := ⟨0x7004000000000000000000000000000130200008000000000, 0x7, 0x30⟩

theorem Does.eventOne {G : Foot} {z s : State} (h : Does G z s) (hg : Foot.eventOne.leB G = true) (code : Nat) (inst : Nat) (detail : Nat) : Does G z (State.eventOne s code inst detail) := by
  unfold State.eventOne
  with_reducible repeat' first
    | assumption
    | (extract_lets +onlyGivenNames a; first | (refine (fun (k : Does G z a) => ?_) ?_; rotate_left; unfold a; clear a; rotate_left; clear_value a; revert a; intros) | (clear_value a; revert a; intros))
    | refine Does.flag ?_ ?_ _ _ _ | (refine Does.when ?_ _ _ fun _ _ => ?_) | (refine Does.each ?_ _ _ fun _ _ _ _ => ?_)
    | refine Does.facAlert ?_ (Foot.up hg (by decide)) _ | refine Does.incWrap ?_ ?_ _ _ _ | refine Does.incSat ?_ ?_ _ _ _
    | refine Does.occur ?_ (Foot.up hg (by decide)) _ | refine Does.frame ?_ (Foot.up hg (by decide)) _ _ _ _ _ _
    | refine Does.trcTrigger ?_ (Foot.up hg (by decide)) _ | exact Foot.upR hg (by decide) | (dsimp -zeta only)
    | refine Does.ite ?_ ?_ | refine Does.ite_snd ?_ ?_ | refine Foot.pick ?_ ?_ | split | refine Does.snd ‹_ = (_, _)› ?_
    | (refine Does.mk' ?_ rfl rfl rfl rfl rfl rfl rfl rfl rfl rfl ?_; rotate_left; intro p hn; cases p <;> first | with_unfolding_all rfl | exact Foot.noP hg (by decide) hn)

def Foot.evtDrain : Foot := ⟨0x7004000000000000000000000000000130200008000000000, 0x7, 0x30⟩

theorem Does.evtDrain {G : Foot} {z s : State} (h : Does G z s) (hg : Foot.evtDrain.leB G = true) (fuel : Nat) : Does G z (State.evtDrain s fuel) := by
  induction fuel generalizing s with
  | zero =>
    unfold State.evtDrain
    exact h
  | succ fuel ih =>
    unfold State.evtDrain
    with_reducible repeat' first
      | assumption | refine Does.eventOne ?_ (Foot.up hg (by decide)) _ _ _ | refine ih ?_ | (dsimp -zeta only) | split
      | refine Does.snd ‹_ = (_, _)› ?_
      | (refine Does.mk' ?_ rfl rfl rfl rfl rfl rfl rfl rfl rfl rfl ?_; rotate_left; intro p hn; cases p <;> first | with_unfolding_all rfl | exact Foot.noP hg (by decide) hn)
  
def Foot.eventD : Foot := ⟨0x7004000000000000000000000000000130200008000000000, 0x7, 0x30⟩

theorem Does.eventD {G : Foot} {z s : State} (h : Does G z s) (hg : Foot.eventD.leB G = true) (code : Nat) (inst : Nat) (detail : Nat) : Does G z (State.eventD s code inst detail) := by
  unfold State.eventD
  with_reducible repeat' first
    | assumption | refine Does.eventOne ?_ (Foot.up hg (by decide)) _ _ _ | refine Does.evtDrain ?_ (Foot.up hg (by decide)) _

def Foot.event : Foot := ⟨0x7004000000000000000000000000000130200008000000000, 0x7, 0x30⟩

theorem Does.event {G : Foot} {z s : State} (h : Does G z s) (hg : Foot.event.leB G = true) (code : Nat) (inst : Nat) : Does G z (State.event s code inst) := by
  unfold State.event
  with_reducible repeat' first
    | assumption | refine Does.eventD ?_ (Foot.up hg (by decide)) _ _ _

def Foot.evtClear : Foot := ⟨0x100000000000000000, 0, 0x10⟩

theorem Does.evtClear {G : Foot} {z s : State} (h : Does G z s) (hg : Foot.evtClear.leB G = true) (code : Nat) (inst : Nat) : Does G z (State.evtClear s code inst) := by
  unfold State.evtClear
  with_reducible repeat' first
    | assumption
    | (extract_lets +onlyGivenNames a; first | (refine (fun (k : Does G z a) => ?_) ?_; rotate_left; unfold a; clear a; rotate_left; clear_value a; revert a; intros) | (clear_value a; revert a; intros))
    | refine Does.srcSync ?_ (Foot.up hg (by decide)) _ | (dsimp -zeta only) | split | refine Does.snd ‹_ = (_, _)› ?_
    | (refine Does.mk' ?_ rfl rfl rfl rfl rfl rfl rfl rfl rfl rfl ?_; rotate_left; intro p hn; cases p <;> first | with_unfolding_all rfl | exact Foot.noP hg (by decide) hn)

def Foot.setStack : Foot := ⟨0, 0, 0x10⟩

theorem Does.setStack {G : Foot} {z s : State} (h : Does G z s) (hg : Foot.setStack.leB G = true) (t : Nat) (l : List (Nat × Nat)) : Does G z (State.setStack s t l) := by
  unfold State.setStack
  with_reducible repeat' first
    | assumption | (dsimp -zeta only) | split | refine Does.snd ‹_ = (_, _)› ?_
    | (refine Does.mk' ?_ rfl rfl rfl rfl rfl rfl rfl rfl rfl rfl ?_; rotate_left; intro p hn; cases p <;> first | with_unfolding_all rfl | exact Foot.noP hg (by decide) hn)

def Foot.pgSettle : Foot := ⟨0x300000000000000, 0x8, 0⟩

theorem Does.pgSettle {G : Foot} {z s : State} (h : Does G z s) (hg : Foot.pgSettle.leB G = true) : Does G z (State.pgSettle s) := by
  unfold State.pgSettle
  with_reducible repeat' first
    | assumption | refine Does.wr ?_ ?_ _ _ _ | refine Does.setV ?_ ?_ _ _ _ | exact Foot.upR hg (by decide)
    | exact Foot.upV hg (by decide) | (dsimp -zeta only) | refine Does.ite ?_ ?_

def Foot.popped : Foot := ⟨0x130000000000000000, 0, 0⟩

theorem Does.popped {G : Foot} {z s : State} (h : Does G z s) (hg : Foot.popped.leB G = true) (k : Nat) : Does G z (State.popped s k) := by
  unfold State.popped
  with_reducible repeat' first
    | assumption
    | (extract_lets +onlyGivenNames a; first | (refine (fun (k : Does G z a) => ?_) ?_; rotate_left; unfold a; clear a; rotate_left; clear_value a; revert a; intros) | (clear_value a; revert a; intros))
    | refine Does.wr ?_ ?_ _ _ _ | (refine Does.when ?_ _ _ fun _ _ => ?_) | refine Does.setPend ?_ (Foot.up hg (by decide)) _
    | exact Foot.upR hg (by decide)

def Foot.bgStart : Foot := ⟨0, 0x200000000000000000000000000000000000000000000000000000000000000000000000000000, 0⟩

theorem Does.bgStart {G : Foot} {z s : State} (h : Does G z s) (hg : Foot.bgStart.leB G = true) (act : Nat) : Does G z (State.bgStart s act) := by
  unfold State.bgStart
  with_reducible repeat' first
    | assumption
    | (extract_lets +onlyGivenNames a; first | (refine (fun (k : Does G z a) => ?_) ?_; rotate_left; unfold a; clear a; rotate_left; clear_value a; revert a; intros) | (clear_value a; revert a; intros))
    | refine Does.setV ?_ ?_ _ _ _ | exact Foot.upV hg (by decide)

def Foot.bgEnd : Foot := ⟨0, 0x700000000000000000000000000000000000000000000000000000000000000000000000000000, 0⟩

theorem Does.bgEnd {G : Foot} {z s : State} (h : Does G z s) (hg : Foot.bgEnd.leB G = true) (act : Nat) : Does G z (State.bgEnd s act) := by
  unfold State.bgEnd
  with_reducible repeat' first
    | assumption
    | (extract_lets +onlyGivenNames a; first | (refine (fun (k : Does G z a) => ?_) ?_; rotate_left; unfold a; clear a; rotate_left; clear_value a; revert a; intros) | (clear_value a; revert a; intros))
    | refine Does.setV ?_ ?_ _ _ _ | exact Foot.upV hg (by decide)

def Foot.recLost : Foot := ⟨0x7144000000000000000000000000000130200008000000000, 0x7, 0x130⟩

theorem Does.recLost {G : Foot} {z s : State} (h : Does G z s) (hg : Foot.recLost.leB G = true) (n : Nat) (typ : Nat) : Does G z (State.recLost s n typ) := by
  unfold State.recLost
  with_reducible repeat' first
    | assumption
    | (extract_lets +onlyGivenNames a; first | (refine (fun (k : Does G z a) => ?_) ?_; rotate_left; unfold a; clear a; rotate_left; clear_value a; revert a; intros) | (clear_value a; revert a; intros))
    | refine Does.flag ?_ ?_ _ _ _ | refine Does.incSat ?_ ?_ _ _ _ | refine Does.event ?_ (Foot.up hg (by decide)) _ _
    | exact Foot.upR hg (by decide) | (dsimp -zeta only) | refine Does.ite ?_ ?_ | refine Does.ite_snd ?_ ?_
    | refine Foot.pick ?_ ?_ | split | refine Does.snd ‹_ = (_, _)› ?_
    | (refine Does.mk' ?_ rfl rfl rfl rfl rfl rfl rfl rfl rfl rfl ?_; rotate_left; intro p hn; cases p <;> first | with_unfolding_all rfl | exact Foot.noP hg (by decide) hn)

def Foot.recIssue : Foot := ⟨0, 0, 0x100⟩

theorem Does.recIssue {G : Foot} {z s : State} (h : Does G z s) (hg : Foot.recIssue.leB G = true) (r : Rec) (n : Nat) : Does G z (State.recIssue s r n) := by
  unfold State.recIssue
  with_reducible repeat' first
    | assumption | refine Does.emit ?_ _ | (dsimp -zeta only) | split | refine Does.snd ‹_ = (_, _)› ?_
    | (refine Does.mk' ?_ rfl rfl rfl rfl rfl rfl rfl rfl rfl rfl ?_; rotate_left; intro p hn; cases p <;> first | with_unfolding_all rfl | exact Foot.noP hg (by decide) hn)

def Foot.recPump : Foot := ⟨0x7144000000000000000000000000000130200008000000000, 0x7, 0x130⟩

theorem Does.recPump {G : Foot} {z s : State} (h : Does G z s) (hg : Foot.recPump.leB G = true) (fuel : Nat) : Does G z (State.recPump s fuel) := by
  induction fuel generalizing s with
  | zero =>
    unfold State.recPump
    exact h
  | succ fuel ih =>
    unfold State.recPump
    with_reducible repeat' first
      | assumption
      | (extract_lets +onlyGivenNames a; first | (refine (fun (k : Does G z a) => ?_) ?_; rotate_left; unfold a; clear a; rotate_left; clear_value a; revert a; intros) | (clear_value a; revert a; intros))
      | refine Does.recIssue ?_ (Foot.up hg (by decide)) _ _ | refine Does.recLost ?_ (Foot.up hg (by decide)) _ _
      | refine ih ?_ | (dsimp -zeta only) | refine Does.ite ?_ ?_ | refine Does.ite_snd ?_ ?_ | refine Foot.pick ?_ ?_ | split
      | refine Does.snd ‹_ = (_, _)› ?_
      | (refine Does.mk' ?_ rfl rfl rfl rfl rfl rfl rfl rfl rfl rfl ?_; rotate_left; intro p hn; cases p <;> first | with_unfolding_all rfl | exact Foot.noP hg (by decide) hn)
  
def Foot.recRun : Foot := ⟨0x7544000000000000000000000000000130200008000000000, 0x7, 0x130⟩

theorem Does.recRun {G : Foot} {z s : State} (h : Does G z s) (hg : Foot.recRun.leB G = true) : Does G z (State.recRun s) := by
  unfold State.recRun
  with_reducible repeat' first
    | assumption
    | (extract_lets +onlyGivenNames a; first | (refine (fun (k : Does G z a) => ?_) ?_; rotate_left; unfold a; clear a; rotate_left; clear_value a; revert a; intros) | (clear_value a; revert a; intros))
    | refine Does.wr ?_ ?_ _ _ _ | refine Does.recPump ?_ (Foot.up hg (by decide)) _ | exact Foot.upR hg (by decide)

def Foot.recLostAll : Foot := ⟨0x7144000000000000000000000000000130200008000000000, 0x7, 0x130⟩

theorem Does.recLostAll {G : Foot} {z s : State} (h : Does G z s) (hg : Foot.recLostAll.leB G = true) (l : List Nat) (typ : Nat) : Does G z (State.recLostAll s l typ) := by
  unfold State.recLostAll
  with_reducible repeat' first
    | assumption | (refine Does.each ?_ _ _ fun _ _ _ _ => ?_) | refine Does.recLost ?_ (Foot.up hg (by decide)) _ _

def Foot.recordAt : Foot := ⟨0x7544000000000000000000000000000130200008000000000, 0x7, 0x130⟩

theorem Does.recordAt {G : Foot} {z s : State} (h : Does G z s) (hg : Foot.recordAt.leB G = true) (typ : Nat) (ctx : Nat) (phase : Nat) (time : Nat) (body : List Byte) : Does G z (State.recordAt s typ ctx phase time body) := by
  unfold State.recordAt
  with_reducible repeat' first
    | assumption
    | (extract_lets +onlyGivenNames a; first | (refine (fun (k : Does G z a) => ?_) ?_; rotate_left; unfold a; clear a; rotate_left; clear_value a; revert a; intros) | (clear_value a; revert a; intros))
    | refine Does.incSat ?_ ?_ _ _ _ | refine Does.recLostAll ?_ (Foot.up hg (by decide)) _ _
    | refine Does.recRun ?_ (Foot.up hg (by decide)) | exact Foot.upR hg (by decide) | (dsimp -zeta only)
    | refine Does.ite ?_ ?_ | refine Does.ite_snd ?_ ?_ | refine Foot.pick ?_ ?_ | split | refine Does.snd ‹_ = (_, _)› ?_
    | (refine Does.mk' ?_ rfl rfl rfl rfl rfl rfl rfl rfl rfl rfl ?_; rotate_left; intro p hn; cases p <;> first | with_unfolding_all rfl | exact Foot.noP hg (by decide) hn)

def Foot.record : Foot := ⟨0x7544000000000000000000000000000130200008000000000, 0x7, 0x130⟩

theorem Does.record {G : Foot} {z s : State} (h : Does G z s) (hg : Foot.record.leB G = true) (typ : Nat) (body : List Byte) : Does G z (State.record s typ body) := by
  unfold State.record
  with_reducible repeat' first
    | assumption
    | (extract_lets +onlyGivenNames a; first | (refine (fun (k : Does G z a) => ?_) ?_; rotate_left; unfold a; clear a; rotate_left; clear_value a; revert a; intros) | (clear_value a; revert a; intros))
    | refine Does.recordAt ?_ (Foot.up hg (by decide)) _ _ _ _ _ | refine Does.trcTrip ?_ (Foot.up hg (by decide)) _ _
    | refine Does.evtDrain ?_ (Foot.up hg (by decide)) _ | (dsimp -zeta only) | refine Does.ite ?_ ?_

def Foot.recDone : Foot := ⟨0x75C400000000000000000000000000013020000A000000000, 0x7, 0x10130⟩

theorem Does.recDone {G : Foot} {z s : State} (h : Does G z s) (hg : Foot.recDone.leB G = true) (err : Bool) : Does G z (State.recDone s err) := by
  unfold State.recDone
  with_reducible repeat' first
    | assumption
    | (extract_lets +onlyGivenNames a; first | (refine (fun (k : Does G z a) => ?_) ?_; rotate_left; unfold a; clear a; rotate_left; clear_value a; revert a; intros) | ((have b : FacSt := a; clear b); unfold a; clear a) | (clear_value a; revert a; intros))
    | refine Does.wr ?_ ?_ _ _ _ | refine Does.flag ?_ ?_ _ _ _ | refine Does.emit ?_ _
    | refine Does.recLost ?_ (Foot.up hg (by decide)) _ _ | refine Does.event ?_ (Foot.up hg (by decide)) _ _
    | refine Does.recRun ?_ (Foot.up hg (by decide)) | refine Does.incWrap ?_ ?_ _ _ _ | exact Foot.upR hg (by decide)
    | (dsimp -zeta only) | refine Does.ite ?_ ?_ | refine Does.ite_snd ?_ ?_ | refine Foot.pick ?_ ?_ | split
    | refine Does.snd ‹_ = (_, _)› ?_
    | (refine Does.mk' ?_ rfl rfl rfl rfl rfl rfl rfl rfl rfl rfl ?_; rotate_left; intro p hn; cases p <;> first | with_unfolding_all rfl | exact Foot.noP hg (by decide) hn)

def Foot.ringEnable : Foot := ⟨0x75C4000000000000000000000000000130200008000000000, 0x7, 0x130⟩

theorem Does.ringEnable {G : Foot} {z s : State} (h : Does G z s) (hg : Foot.ringEnable.leB G = true) (n : Nat) : Does G z (State.ringEnable s n) := by
  unfold State.ringEnable
  with_reducible repeat' first
    | assumption
    | (extract_lets +onlyGivenNames a; first | (refine (fun (k : Does G z a) => ?_) ?_; rotate_left; unfold a; clear a; rotate_left; clear_value a; revert a; intros) | (clear_value a; revert a; intros))
    | refine Does.wr ?_ ?_ _ _ _ | refine Does.recRun ?_ (Foot.up hg (by decide)) | exact Foot.upR hg (by decide)

def Foot.chW : Foot := ⟨0x10000002000000000000000000000000000000400000, 0, 0⟩

theorem Does.chW {G : Foot} {z s : State} (h : Does G z s) (hg : Foot.chW.leB G = true) (e : ChEnd) (f : Fld) (v : Nat) : Does G z (State.chW s e f v) :=
  h.wr (Foot.upEnd hg (by decide) (by decide) (by decide) e) _ _ _

def Foot.chFlag : Foot := ⟨0x10000002000000000000000000000000000000400000, 0, 0⟩

theorem Does.chFlag {G : Foot} {z s : State} (h : Does G z s) (hg : Foot.chFlag.leB G = true) (e : ChEnd) (f : Fld) : Does G z (State.chFlag s e f) :=
  h.flag (Foot.upEnd hg (by decide) (by decide) (by decide) e) _ _ _

def Foot.chInc : Foot := ⟨0x10000002000000000000000000000000000000400000, 0, 0⟩

theorem Does.chInc {G : Foot} {z s : State} (h : Does G z s) (hg : Foot.chInc.leB G = true) (e : ChEnd) (f : Fld) (d : Nat) : Does G z (State.chInc s e f d) :=
  h.setReg (Foot.upEnd hg (by decide) (by decide) (by decide) e) _ _ _

def Foot.laneAdd : Foot := ⟨0, 0, 0⟩

theorem Does.laneAdd {G : Foot} {z s : State} (h : Does G z s) (hg : Foot.laneAdd.leB G = true) (m : LaneMsg) : Does G z (State.laneAdd s m) := by
  unfold State.laneAdd
  with_reducible repeat' first
    | assumption | (dsimp -zeta only) | split | refine Does.snd ‹_ = (_, _)› ?_
    | (refine Does.mk' ?_ rfl rfl rfl rfl rfl rfl rfl rfl rfl rfl ?_; rotate_left; intro p hn; cases p <;> first | with_unfolding_all rfl | exact Foot.noP hg (by decide) hn)

def Foot.put : Foot := ⟨0x400000, 0, 0⟩

theorem Does.put {G : Foot} {z s : State} (h : Does G z s) (hg : Foot.put.leB G = true) (e : ChEnd) (typ : Nat) (payload : Nat) : Does G z (State.put s e typ payload) := by
  unfold State.put
  with_reducible repeat' first
    | assumption
    | (extract_lets +onlyGivenNames a; first | (refine (fun (k : Does G z a) => ?_) ?_; rotate_left; unfold a; clear a; rotate_left; clear_value a; revert a; intros) | (clear_value a; revert a; intros))
    | refine Does.emit ?_ _ | refine Does.laneAdd ?_ (Foot.up hg (by decide)) _

def Foot.laneDrop : Foot := ⟨0, 0x40000000000000000000000000000000000000000000000000000000000000000000000000000, 0⟩

theorem Does.laneDrop {G : Foot} {z s : State} (h : Does G z s) (hg : Foot.laneDrop.leB G = true) (e : ChEnd) : Does G z (State.laneDrop s e) := by
  unfold State.laneDrop
  with_reducible repeat' first
    | assumption | refine Does.setV ?_ ?_ _ _ _ | exact Foot.upV hg (by decide) | (dsimp -zeta only) | split
    | refine Does.snd ‹_ = (_, _)› ?_
    | (refine Does.mk' ?_ rfl rfl rfl rfl rfl rfl rfl rfl rfl rfl ?_; rotate_left; intro p hn; cases p <;> first | with_unfolding_all rfl | exact Foot.noP hg (by decide) hn)

def Foot.laneSend : Foot := ⟨0, 0x40000000000000000000000000000000000000000000000000000000000000000000000000000, 0⟩

theorem Does.laneSend {G : Foot} {z s : State} (h : Does G z s) (hg : Foot.laneSend.leB G = true) (e : ChEnd) : Does G z (State.laneSend s e) := by
  unfold State.laneSend
  with_reducible repeat' first
    | assumption
    | (extract_lets +onlyGivenNames a; first | (refine (fun (k : Does G z a) => ?_) ?_; rotate_left; unfold a; clear a; rotate_left; clear_value a; revert a; intros) | (clear_value a; revert a; intros))
    | refine Does.setV ?_ ?_ _ _ _ | refine Does.emit ?_ _ | exact Foot.upV hg (by decide) | (dsimp -zeta only)
    | refine Does.ite ?_ ?_ | refine Does.ite_snd ?_ ?_ | refine Foot.pick ?_ ?_ | split | refine Does.snd ‹_ = (_, _)› ?_
    | (refine Does.mk' ?_ rfl rfl rfl rfl rfl rfl rfl rfl rfl rfl ?_; rotate_left; intro p hn; cases p <;> first | with_unfolding_all rfl | exact Foot.noP hg (by decide) hn)

def Foot.laneRound : Foot := ⟨0, 0x40000000000000000000000000000000000000000000000000000000000000000000000000000, 0⟩

theorem Does.laneRound {G : Foot} {z s : State} (h : Does G z s) (hg : Foot.laneRound.leB G = true) : Does G z (State.laneRound s) := by
  unfold State.laneRound
  with_reducible repeat' first
    | assumption | (refine Does.each ?_ _ _ fun _ _ _ _ => ?_) | refine Does.laneSend ?_ (Foot.up hg (by decide)) _
    | (dsimp -zeta only) | refine Does.ite ?_ ?_ | refine Does.ite_snd ?_ ?_ | refine Foot.pick ?_ ?_ | split
    | refine Does.snd ‹_ = (_, _)› ?_
    | (refine Does.mk' ?_ rfl rfl rfl rfl rfl rfl rfl rfl rfl rfl ?_; rotate_left; intro p hn; cases p <;> first | with_unfolding_all rfl | exact Foot.noP hg (by decide) hn)

def Foot.send : Foot := ⟨0x10000002000000000000000000000000000000400000, 0, 0⟩

theorem Does.send {G : Foot} {z s : State} (h : Does G z s) (hg : Foot.send.leB G = true) (e : ChEnd) (typ : Nat) (payload : Nat) : Does G z (State.send s e typ payload) := by
  unfold State.send
  with_reducible repeat' first
    | assumption | refine Does.put ?_ (Foot.up hg (by decide)) _ _ _ | refine Does.chInc ?_ (Foot.up hg (by decide)) _ _ _
    | (dsimp -zeta only) | refine Does.ite ?_ ?_

def Foot.sendDown : Foot := ⟨0x10000002000000000000000000000000000000400000, 0, 0⟩

theorem Does.sendDown {G : Foot} {z s : State} (h : Does G z s) (hg : Foot.sendDown.leB G = true) (d : Nat) (typ : Nat) (payload : Nat) : Does G z (State.sendDown s d typ payload).2 := by
  unfold State.sendDown
  with_reducible repeat' first
    | assumption
    | (extract_lets +onlyGivenNames a; first | (refine (fun (k : Does G z a) => ?_) ?_; rotate_left; unfold a; clear a; rotate_left; clear_value a; revert a; intros) | (clear_value a; revert a; intros))
    | refine Does.send ?_ (Foot.up hg (by decide)) _ _ _

def Foot.sendUp : Foot := ⟨0x10000002000000000000000000000000000000400000, 0, 0⟩

theorem Does.sendUp {G : Foot} {z s : State} (h : Does G z s) (hg : Foot.sendUp.leB G = true) (d : Nat) (typ : Nat) (payload : Nat) : Does G z (State.sendUp s d typ payload) := by
  unfold State.sendUp
  with_reducible repeat' first
    | assumption | refine Does.send ?_ (Foot.up hg (by decide)) _ _ _

def Foot.deliver : Foot := ⟨0x10000002000000000000000000000000000000400000, 0, 0⟩

theorem Does.deliver {G : Foot} {z s : State} (h : Does G z s) (hg : Foot.deliver.leB G = true) (e : ChEnd) (tag : Nat) (f : State → State) (hf : ∀ x0, Does G z x0 → Does G z (f x0)) : Does G z (State.deliver s e tag f) := by
  unfold State.deliver
  with_reducible repeat' first
    | assumption | refine Does.chInc ?_ (Foot.up hg (by decide)) _ _ _ | refine hf _ ?_ | (dsimp -zeta only)
    | refine Does.ite ?_ ?_

def Foot.evFrom : Foot := ⟨0x7004010000002000000000000000000130200008000400000, 0x7, 0x30⟩

theorem Does.evFrom {G : Foot} {z s : State} (h : Does G z s) (hg : Foot.evFrom.leB G = true) (d : Nat) (code : Nat) (inst : Nat) (detail : Nat) (lvl : Bool) : Does G z (State.evFrom s d code inst detail lvl) := by
  unfold State.evFrom
  with_reducible repeat' first
    | assumption | refine Does.eventD ?_ (Foot.up hg (by decide)) _ _ _ | refine Does.evtClear ?_ (Foot.up hg (by decide)) _ _
    | refine Does.sendUp ?_ (Foot.up hg (by decide)) _ _ _ | refine Does.event ?_ (Foot.up hg (by decide)) _ _
    | (dsimp -zeta only) | refine Does.ite ?_ ?_

def Foot.sayHello : Foot := ⟨0x400000, 0x20000000000000000000000000000000000000000000000000000000000000000000000000000, 0⟩

theorem Does.sayHello {G : Foot} {z s : State} (h : Does G z s) (hg : Foot.sayHello.leB G = true) (e : ChEnd) (reason : Nat) : Does G z (State.sayHello s e reason) := by
  unfold State.sayHello
  with_reducible repeat' first
    | assumption | refine Does.setV ?_ ?_ _ _ _ | refine Does.put ?_ (Foot.up hg (by decide)) _ _ _
    | exact Foot.upV hg (by decide)

def Foot.helloAck : Foot := ⟨0x400000, 0x10, 0⟩

theorem Does.helloAck {G : Foot} {z s : State} (h : Does G z s) (hg : Foot.helloAck.leB G = true) (e : ChEnd) (far : Nat) : Does G z (State.helloAck s e far) := by
  unfold State.helloAck
  with_reducible repeat' first
    | assumption
    | (extract_lets +onlyGivenNames a; first | (refine (fun (k : Does G z a) => ?_) ?_; rotate_left; unfold a; clear a; rotate_left; clear_value a; revert a; intros) | (clear_value a; revert a; intros))
    | refine Does.setV ?_ ?_ _ _ _ | refine Does.put ?_ (Foot.up hg (by decide)) _ _ _ | exact Foot.upV hg (by decide)

def Foot.helloStored : Foot := ⟨0x400000, 0x50, 0⟩

theorem Does.helloStored {G : Foot} {z s : State} (h : Does G z s) (hg : Foot.helloStored.leB G = true) (e : ChEnd) : Does G z (State.helloStored s e) := by
  unfold State.helloStored
  with_reducible repeat' first
    | assumption
    | (extract_lets +onlyGivenNames a; first | (refine (fun (k : Does G z a) => ?_) ?_; rotate_left; unfold a; clear a; rotate_left; clear_value a; revert a; intros) | (clear_value a; revert a; intros))
    | refine Does.setV ?_ ?_ _ _ _ | refine Does.helloAck ?_ (Foot.up hg (by decide)) _ _ | exact Foot.upV hg (by decide)
    | (dsimp -zeta only) | refine Does.ite ?_ ?_

def Foot.pendSync : Foot := ⟨0x10000002000000000000000000000000000000400000, 0, 0⟩

theorem Does.pendSync {G : Foot} {z s : State} (h : Does G z s) (hg : Foot.pendSync.leB G = true) (e : ChEnd) : Does G z (State.pendSync s e) := by
  unfold State.pendSync
  with_reducible repeat' first
    | assumption | refine Does.chW ?_ (Foot.up hg (by decide)) _ _ _

def Foot.pendAdd : Foot := ⟨0x10000002000000000000000000000000000000400000, 0, 0x40⟩

theorem Does.pendAdd {G : Foot} {z s : State} (h : Does G z s) (hg : Foot.pendAdd.leB G = true) (e : ChEnd) (r : CmdReq) (src : CmdSrc) : Does G z (State.pendAdd s e r src) := by
  unfold State.pendAdd
  with_reducible repeat' first
    | assumption | refine Does.pendSync ?_ (Foot.up hg (by decide)) _ | (dsimp -zeta only) | split
    | refine Does.snd ‹_ = (_, _)› ?_
    | (refine Does.mk' ?_ rfl rfl rfl rfl rfl rfl rfl rfl rfl rfl ?_; rotate_left; intro p hn; cases p <;> first | with_unfolding_all rfl | exact Foot.noP hg (by decide) hn)

def Foot.cmdSend : Foot := ⟨0x10000002000000000000000000000000000000400000, 0, 0x40⟩

theorem Does.cmdSend {G : Foot} {z s : State} (h : Does G z s) (hg : Foot.cmdSend.leB G = true) (e : ChEnd) (r : CmdReq) (data : Nat) (src : CmdSrc) : Does G z (State.cmdSend s e r data src) := by
  unfold State.cmdSend
  with_reducible repeat' first
    | assumption
    | (extract_lets +onlyGivenNames a; first | (refine (fun (k : Does G z a) => ?_) ?_; rotate_left; unfold a; clear a; rotate_left; clear_value a; revert a; intros) | (clear_value a; revert a; intros))
    | refine Does.pendAdd ?_ (Foot.up hg (by decide)) _ _ _ | refine Does.put ?_ (Foot.up hg (by decide)) _ _ _
    | (dsimp -zeta only) | refine Does.ite ?_ ?_

def Foot.cmdForward : Foot := ⟨0x10000002000000000000000000000000000000400000, 0, 0x40⟩

theorem Does.cmdForward {G : Foot} {z s : State} (h : Does G z s) (hg : Foot.cmdForward.leB G = true) (e : ChEnd) (r : CmdReq) (data : Nat) (src : CmdSrc) : Does G z (State.cmdForward s e r data src) := by
  unfold State.cmdForward
  with_reducible repeat' first
    | assumption
    | (extract_lets +onlyGivenNames a; first | (refine (fun (k : Does G z a) => ?_) ?_; rotate_left; unfold a; clear a; rotate_left; clear_value a; revert a; intros) | (clear_value a; revert a; intros))
    | refine Does.cmdSend ?_ (Foot.up hg (by decide)) _ _ _ _ | (dsimp -zeta only) | refine Does.ite ?_ ?_
    | refine Does.ite_snd ?_ ?_ | refine Foot.pick ?_ ?_ | split | refine Does.snd ‹_ = (_, _)› ?_
    | (refine Does.mk' ?_ rfl rfl rfl rfl rfl rfl rfl rfl rfl rfl ?_; rotate_left; intro p hn; cases p <;> first | with_unfolding_all rfl | exact Foot.noP hg (by decide) hn)

def Foot.cmdNext : Foot := ⟨0x10000002000000000000000000000000000000400000, 0, 0x40⟩

theorem Does.cmdNext {G : Foot} {z s : State} (h : Does G z s) (hg : Foot.cmdNext.leB G = true) (e : ChEnd) : Does G z (State.cmdNext s e) := by
  unfold State.cmdNext
  with_reducible repeat' first
    | assumption
    | (extract_lets +onlyGivenNames a; first | (refine (fun (k : Does G z a) => ?_) ?_; rotate_left; unfold a; clear a; rotate_left; clear_value a; revert a; intros) | (clear_value a; revert a; intros))
    | refine Does.cmdSend ?_ (Foot.up hg (by decide)) _ _ _ _ | (dsimp -zeta only) | refine Does.ite ?_ ?_
    | refine Does.ite_snd ?_ ?_ | refine Foot.pick ?_ ?_ | split | refine Does.snd ‹_ = (_, _)› ?_
    | (refine Does.mk' ?_ rfl rfl rfl rfl rfl rfl rfl rfl rfl rfl ?_; rotate_left; intro p hn; cases p <;> first | with_unfolding_all rfl | exact Foot.noP hg (by decide) hn)

def Foot.pendDrop : Foot := ⟨0x10000002000000000000000000000000000000400000, 0, 0x40⟩

theorem Does.pendDrop {G : Foot} {z s : State} (h : Does G z s) (hg : Foot.pendDrop.leB G = true) (e : ChEnd) (reqid : Nat) : Does G z (State.pendDrop s e reqid) := by
  unfold State.pendDrop
  with_reducible repeat' first
    | assumption | refine Does.pendSync ?_ (Foot.up hg (by decide)) _ | refine Does.cmdNext ?_ (Foot.up hg (by decide)) _
    | (dsimp -zeta only) | split | refine Does.snd ‹_ = (_, _)› ?_
    | (refine Does.mk' ?_ rfl rfl rfl rfl rfl rfl rfl rfl rfl rfl ?_; rotate_left; intro p hn; cases p <;> first | with_unfolding_all rfl | exact Foot.noP hg (by decide) hn)

def Foot.hubCmd : Foot := ⟨0x10000002000000000000000000000000000000400000, 0, 0x40⟩

theorem Does.hubCmd {G : Foot} {z s : State} (h : Does G z s) (hg : Foot.hubCmd.leB G = true) (dest : Nat) (op : Nat) (off : Nat) (data : Nat) (src : CmdSrc) : Does G z (State.hubCmd s dest op off data src).2 := by
  unfold State.hubCmd
  with_reducible repeat' first
    | assumption
    | (extract_lets +onlyGivenNames a; first | (refine (fun (k : Does G z a) => ?_) ?_; rotate_left; unfold a; clear a; rotate_left; clear_value a; revert a; intros) | (clear_value a; revert a; intros))
    | refine Does.cmdForward ?_ (Foot.up hg (by decide)) _ _ _ _ | refine Does.chInc ?_ (Foot.up hg (by decide)) _ _ _
    | (dsimp -zeta only) | refine Does.ite ?_ ?_ | refine Does.ite_snd ?_ ?_ | refine Foot.pick ?_ ?_ | split

def Foot.hubWrite : Foot := ⟨0x10000002000000000000000000000000000000400000, 0, 0x40⟩

theorem Does.hubWrite {G : Foot} {z s : State} (h : Does G z s) (hg : Foot.hubWrite.leB G = true) (dest : Nat) (r : Reg) (j : Nat) (data : Nat) : Does G z (State.hubWrite s dest r j data) := by
  unfold State.hubWrite
  with_reducible repeat' first
    | assumption | refine Does.hubCmd ?_ (Foot.up hg (by decide)) _ _ _ _ _

def Foot.fenceAt : Foot := ⟨0x10000002000000000000000000000000000000400000, 0x40000000000000000000000000000000000000000000000000000000000000000000000900, 0⟩

theorem Does.fenceAt {G : Foot} {z s : State} (h : Does G z s) (hg : Foot.fenceAt.leB G = true) (e : ChEnd) (scope : Nat) : Does G z (State.fenceAt s e scope).2 := by
  unfold State.fenceAt
  with_reducible repeat' first
    | assumption
    | (extract_lets +onlyGivenNames a; first | (refine (fun (k : Does G z a) => ?_) ?_; rotate_left; unfold a; clear a; rotate_left; clear_value a; revert a; intros) | (clear_value a; revert a; intros))
    | refine Does.setV ?_ ?_ _ _ _ | refine Does.put ?_ (Foot.up hg (by decide)) _ _ _
    | refine Does.chW ?_ (Foot.up hg (by decide)) _ _ _ | exact Foot.upV hg (by decide) | (dsimp -zeta only) | split

def Foot.resumeEnd : Foot := ⟨0x10000002000000000000000000000000000000400000, 0x20000000000000000000000000000000000000000000000000000000000000000000000000030, 0⟩

theorem Does.resumeEnd {G : Foot} {z s : State} (h : Does G z s) (hg : Foot.resumeEnd.leB G = true) (e : ChEnd) : Does G z (State.resumeEnd s e) := by
  unfold State.resumeEnd
  with_reducible repeat' first
    | assumption
    | (extract_lets +onlyGivenNames a; first | (refine (fun (k : Does G z a) => ?_) ?_; rotate_left; unfold a; clear a; rotate_left; clear_value a; revert a; intros) | (clear_value a; revert a; intros))
    | refine Does.setV ?_ ?_ _ _ _ | refine Does.chW ?_ (Foot.up hg (by decide)) _ _ _
    | refine Does.sayHello ?_ (Foot.up hg (by decide)) _ _ | exact Foot.upV hg (by decide) | (dsimp -zeta only)
    | refine Does.ite ?_ ?_

def Foot.repMark : Foot := ⟨0, 0x2000000000000000000000000000000000000000000000000000000000000000000000000000000000, 0⟩

theorem Does.repMark {G : Foot} {z s : State} (h : Does G z s) (hg : Foot.repMark.leB G = true) (leaf : Nat) (reps : List Rep) : Does G z (State.repMark s leaf reps) := by
  unfold State.repMark
  with_reducible repeat' first
    | assumption | refine Does.setV ?_ ?_ _ _ _ | (refine Does.when ?_ _ _ fun _ _ => ?_)
    | (refine Does.each ?_ _ _ fun _ _ _ _ => ?_) | exact Foot.upV hg (by decide) | exact Foot.upM hg ‹_ ∈ _› (by decide)
    | (dsimp -zeta only) | split

def Foot.leakUpdate : Foot := ⟨0x18000000000000000000000000000000000000, 0, 0⟩

theorem Does.leakUpdate {G : Foot} {z s : State} (h : Does G z s) (hg : Foot.leakUpdate.leB G = true) (leaf : Nat) : Does G z (State.leakUpdate s leaf) := by
  unfold State.leakUpdate
  with_reducible repeat' first
    | assumption
    | (extract_lets +onlyGivenNames a; first | (refine (fun (k : Does G z a) => ?_) ?_; rotate_left; unfold a; clear a; rotate_left; clear_value a; revert a; intros) | (clear_value a; revert a; intros))
    | refine Does.flag ?_ ?_ _ _ _ | (refine Does.when ?_ _ _ fun _ _ => ?_) | (refine Does.each ?_ _ _ fun _ _ _ _ => ?_)
    | refine Does.wrSat ?_ ?_ _ _ _ | exact Foot.upR hg (by decide)

def Foot.thetaAdopt : Foot := ⟨0x60000000000000000000000000000000000000, 0x600000, 0⟩

theorem Does.thetaAdopt {G : Foot} {z s : State} (h : Does G z s) (hg : Foot.thetaAdopt.leB G = true) (leaf : Nat) (k : Nat) : Does G z (State.thetaAdopt s leaf k) := by
  unfold State.thetaAdopt
  with_reducible repeat' first
    | assumption
    | (extract_lets +onlyGivenNames a; first | (refine (fun (k : Does G z a) => ?_) ?_; rotate_left; unfold a; clear a; rotate_left; clear_value a; revert a; intros) | (clear_value a; revert a; intros))
    | refine Does.setV ?_ ?_ _ _ _ | refine Does.setReg ?_ ?_ _ _ _ | (refine Does.when ?_ _ _ fun _ _ => ?_)
    | exact Foot.upR hg (by decide) | exact Foot.upV hg (by decide) | (dsimp -zeta only) | refine Does.ite ?_ ?_

def Foot.thetaWrite : Foot := ⟨0, 0x780000, 0⟩

theorem Does.thetaWrite {G : Foot} {z s : State} (h : Does G z s) (hg : Foot.thetaWrite.leB G = true) (leaf : Nat) (k : Nat) (hi : Bool) (w : Nat) : Does G z (State.thetaWrite s leaf k hi w) := by
  unfold State.thetaWrite
  with_reducible repeat' first
    | assumption | refine Does.setV ?_ ?_ _ _ _ | exact Foot.upV hg (by decide) | (dsimp -zeta only) | refine Does.ite ?_ ?_

def Foot.sendEst : Foot := ⟨0x10000002000000000000000000000000000000400000, 0, 0⟩

theorem Does.sendEst {G : Foot} {z s : State} (h : Does G z s) (hg : Foot.sendEst.leB G = true) (d : Nat) (slot : Nat) (l : List (Nat × Nat)) : Does G z (State.sendEst s d slot l) := by
  unfold State.sendEst
  with_reducible repeat' first
    | assumption | (refine Does.each ?_ _ _ fun _ _ _ _ => ?_) | refine Does.sendUp ?_ (Foot.up hg (by decide)) _ _ _

def Foot.leafSlot : Foot := ⟨0x1000007A000000000000000000000000000000400000, 0x678000, 0⟩

theorem Does.leafSlot {G : Foot} {z s : State} (h : Does G z s) (hg : Foot.leafSlot.leB G = true) (leaf : Nat) (slot : Nat) (acts : List Act) : Does G z (State.leafSlot s leaf slot acts) := by
  unfold State.leafSlot
  with_reducible repeat' first
    | assumption
    | (extract_lets +onlyGivenNames a; first | (refine (fun (k : Does G z a) => ?_) ?_; rotate_left; unfold a; clear a; rotate_left; clear_value a; revert a; intros) | (clear_value a; revert a; intros))
    | refine Does.wr ?_ ?_ _ _ _ | refine Does.flag ?_ ?_ _ _ _ | (refine Does.when ?_ _ _ fun _ _ => ?_)
    | (refine Does.each ?_ _ _ fun _ _ _ _ => ?_) | refine Does.addV ?_ ?_ _ _ _
    | refine Does.sendEst ?_ (Foot.up hg (by decide)) _ _ _ | refine Does.thetaAdopt ?_ (Foot.up hg (by decide)) _ _
    | exact Foot.upR hg (by decide) | exact Foot.upV hg (by decide)

def Foot.leafInterval : Foot := ⟨0x10000002000000000000000000000000000000400000, 0, 0⟩

theorem Does.leafInterval {G : Foot} {z s : State} (h : Does G z s) (hg : Foot.leafInterval.leB G = true) (leaf : Nat) (j : Nat) : Does G z (State.leafInterval s leaf j) := by
  unfold State.leafInterval
  with_reducible repeat' first
    | assumption
    | (extract_lets +onlyGivenNames a; first | (refine (fun (k : Does G z a) => ?_) ?_; rotate_left; unfold a; clear a; rotate_left; clear_value a; revert a; intros) | (clear_value a; revert a; intros))
    | (refine Does.each ?_ _ _ fun _ _ _ _ => ?_) | refine Does.sendUp ?_ (Foot.up hg (by decide)) _ _ _

def Foot.intervalDone : Foot := ⟨0, 0x18000, 0⟩

theorem Does.intervalDone {G : Foot} {z s : State} (h : Does G z s) (hg : Foot.intervalDone.leB G = true) (leaf : Nat) (j : Nat) : Does G z (State.intervalDone s leaf j) := by
  unfold State.intervalDone
  with_reducible repeat' first
    | assumption | refine Does.dropV ?_ ?_ _ _ | exact Foot.upV hg (by decide)

def Foot.winBreak : Foot := ⟨0, 0x20000, 0⟩

theorem Does.winBreak {G : Foot} {z s : State} (h : Does G z s) (hg : Foot.winBreak.leB G = true) (leaf : Nat) : Does G z (State.winBreak s leaf) := by
  unfold State.winBreak
  with_reducible repeat' first
    | assumption | refine Does.setV ?_ ?_ _ _ _ | (refine Does.each ?_ _ _ fun _ _ _ _ => ?_) | exact Foot.upV hg (by decide)

def Foot.leafGroupsReport : Foot := ⟨0x10000002000000000000000000000000000000400000, 0x60000, 0⟩

theorem Does.leafGroupsReport {G : Foot} {z s : State} (h : Does G z s) (hg : Foot.leafGroupsReport.leB G = true) (leaf : Nat) (w : Nat) : Does G z (State.leafGroupsReport s leaf w) := by
  unfold State.leafGroupsReport
  with_reducible repeat' first
    | assumption
    | (extract_lets +onlyGivenNames a; first | (refine (fun (k : Does G z a) => ?_) ?_; rotate_left; unfold a; clear a; rotate_left; clear_value a; revert a; intros) | (clear_value a; revert a; intros))
    | refine Does.dropV ?_ ?_ _ _ | (refine Does.when ?_ _ _ fun _ _ => ?_) | (refine Does.each ?_ _ _ fun _ _ _ _ => ?_)
    | refine Does.sendUp ?_ (Foot.up hg (by decide)) _ _ _ | exact Foot.upV hg (by decide)

def Foot.estTake : Foot := ⟨0, 0x40000000000000000000000000000000000000000000000000000000000000000000000001800000, 0⟩

theorem Does.estTake {G : Foot} {z s : State} (h : Does G z s) (hg : Foot.estTake.leB G = true) (child : Nat) (rail : Nat) (slot : Nat) (mw : Nat) : Does G z (State.estTake s child rail slot mw) := by
  unfold State.estTake
  with_reducible repeat' first
    | assumption
    | (extract_lets +onlyGivenNames a; first | (refine (fun (k : Does G z a) => ?_) ?_; rotate_left; unfold a; clear a; rotate_left; clear_value a; revert a; intros) | (clear_value a; revert a; intros))
    | refine Does.setV ?_ ?_ _ _ _ | exact Foot.upV hg (by decide) | (dsimp -zeta only) | refine Does.ite ?_ ?_

def Foot.nodeSlot : Foot := ⟨0x10000002000000000000000000000000000000400000, 0, 0⟩

theorem Does.nodeSlot {G : Foot} {z s : State} (h : Does G z s) (hg : Foot.nodeSlot.leB G = true) (n : Nat) (slot : Nat) : Does G z (State.nodeSlot s n slot) := by
  unfold State.nodeSlot
  with_reducible repeat' first
    | assumption
    | (extract_lets +onlyGivenNames a; first | (refine (fun (k : Does G z a) => ?_) ?_; rotate_left; unfold a; clear a; rotate_left; clear_value a; revert a; intros) | (clear_value a; revert a; intros))
    | refine Does.sendEst ?_ (Foot.up hg (by decide)) _ _ _

def Foot.hubSlotEst : Foot := ⟨0xC0000000000000000000000000000, 0x6000000, 0⟩

theorem Does.hubSlotEst {G : Foot} {z s : State} (h : Does G z s) (hg : Foot.hubSlotEst.leB G = true) (slot : Nat) : Does G z (State.hubSlotEst s slot) := by
  unfold State.hubSlotEst
  with_reducible repeat' first
    | assumption
    | (extract_lets +onlyGivenNames a; first | (refine (fun (k : Does G z a) => ?_) ?_; rotate_left; unfold a; clear a; rotate_left; clear_value a; revert a; intros) | (clear_value a; revert a; intros))
    | (refine Does.each ?_ _ _ fun _ _ _ _ => ?_) | refine Does.wrSat ?_ ?_ _ _ _ | refine Does.addV ?_ ?_ _ _ _
    | exact Foot.upR hg (by decide) | exact Foot.upV hg (by decide)

def Foot.attribute : Foot := ⟨0x800000000000000000000000000000, 0x700000000000000000030000000, 0⟩

theorem Does.attribute {G : Foot} {z s : State} (h : Does G z s) (hg : Foot.attribute.leB G = true) (r : Nat) (f : Nat) (j : Nat) : Does G z (State.attribute s r f j) := by
  unfold State.attribute
  with_reducible repeat' first
    | assumption
    | (extract_lets +onlyGivenNames a; first | (refine (fun (k : Does G z a) => ?_) ?_; rotate_left; unfold a; clear a; rotate_left; clear_value a; revert a; intros) | (clear_value a; revert a; intros))
    | refine Does.setV ?_ ?_ _ _ _ | (refine Does.when ?_ _ _ fun _ _ => ?_) | (refine Does.each ?_ _ _ fun _ _ _ _ => ?_)
    | refine Does.incSat ?_ ?_ _ _ _ | exact Foot.upR hg (by decide) | exact Foot.upV hg (by decide)
    | exact Foot.upM hg ‹_ ∈ _› (by decide) | (dsimp -zeta only) | refine Does.ite ?_ ?_

def Foot.ivTake : Foot := ⟨0, 0x18000000, 0⟩

theorem Does.ivTake {G : Foot} {z s : State} (h : Does G z s) (hg : Foot.ivTake.leB G = true) (leaf : Nat) (rail : Nat) (seq : Nat) (pwr : Nat) : Does G z (State.ivTake s leaf rail seq pwr) := by
  unfold State.ivTake
  with_reducible repeat' first
    | assumption | refine Does.setV ?_ ?_ _ _ _ | exact Foot.upV hg (by decide) | (dsimp -zeta only) | refine Does.ite ?_ ?_

def Foot.kneadCov : Foot := ⟨0, 0x40000000000, 0⟩

theorem Does.kneadCov {G : Foot} {z s : State} (h : Does G z s) (hg : Foot.kneadCov.leB G = true) (r : Nat) : Does G z (State.kneadCov s r) := by
  unfold State.kneadCov
  with_reducible repeat' first
    | assumption
    | (extract_lets +onlyGivenNames a; first | (refine (fun (k : Does G z a) => ?_) ?_; rotate_left; unfold a; clear a; rotate_left; clear_value a; revert a; intros) | (clear_value a; revert a; intros))
    | refine Does.setV ?_ ?_ _ _ _ | (refine Does.each ?_ _ _ fun _ _ _ _ => ?_) | exact Foot.upV hg (by decide)

def Foot.thetaShow : Foot := ⟨0x300000000000000000000000000000, 0, 0⟩

theorem Does.thetaShow {G : Foot} {z s : State} (h : Does G z s) (hg : Foot.thetaShow.leB G = true) (r : Nat) : Does G z (State.thetaShow s r) := by
  unfold State.thetaShow
  with_reducible repeat' first
    | assumption | refine Does.setReg ?_ ?_ _ _ _ | exact Foot.upR hg (by decide)

def Foot.kneadReset : Foot := ⟨0x700000000000000000000000000000, 0x60000000000, 0⟩

theorem Does.kneadReset {G : Foot} {z s : State} (h : Does G z s) (hg : Foot.kneadReset.leB G = true) (r : Nat) : Does G z (State.kneadReset s r) := by
  unfold State.kneadReset
  with_reducible repeat' first
    | assumption
    | (extract_lets +onlyGivenNames a; first | (refine (fun (k : Does G z a) => ?_) ?_; rotate_left; unfold a; clear a; rotate_left; clear_value a; revert a; intros) | (clear_value a; revert a; intros))
    | refine Does.wr ?_ ?_ _ _ _ | refine Does.setV ?_ ?_ _ _ _ | (refine Does.each ?_ _ _ fun _ _ _ _ => ?_)
    | refine Does.kneadCov ?_ (Foot.up hg (by decide)) _ | refine Does.thetaShow ?_ (Foot.up hg (by decide)) _
    | exact Foot.upR hg (by decide) | exact Foot.upV hg (by decide)

def Foot.thetaSend : Foot := ⟨0x10000062000000000000000000000000000000400000, 0, 0x40⟩

theorem Does.thetaSend {G : Foot} {z s : State} (h : Does G z s) (hg : Foot.thetaSend.leB G = true) (r : Nat) : Does G z (State.thetaSend s r) := by
  unfold State.thetaSend
  with_reducible repeat' first
    | assumption
    | (extract_lets +onlyGivenNames a; first | (refine (fun (k : Does G z a) => ?_) ?_; rotate_left; unfold a; clear a; rotate_left; clear_value a; revert a; intros) | (clear_value a; revert a; intros))
    | (refine Does.each ?_ _ _ fun _ _ _ _ => ?_) | refine Does.hubWrite ?_ (Foot.up hg (by decide)) _ _ _ _
    | (dsimp -zeta only) | split

def Foot.fuseTo : Foot := ⟨0x10000000000000000000000000000, 0x800000000000000000000000000000000000000000000400000000000000000000F8000000000000, 0⟩

theorem Does.fuseTo {G : Foot} {z s : State} (h : Does G z s) (hg : Foot.fuseTo.leB G = true) (r : Nat) (st : Nat) (stamp : Nat) : Does G z (State.fuseTo s r st stamp) := by
  unfold State.fuseTo
  with_reducible repeat' first
    | assumption
    | (extract_lets +onlyGivenNames a; first | (refine (fun (k : Does G z a) => ?_) ?_; rotate_left; unfold a; clear a; rotate_left; clear_value a; revert a; intros) | (clear_value a; revert a; intros))
    | refine Does.wr ?_ ?_ _ _ _ | refine Does.setV ?_ ?_ _ _ _ | exact Foot.upR hg (by decide) | exact Foot.upV hg (by decide)

def Foot.estDiag : Foot := ⟨0x7544000000000000000010000000000130200008000000000, 0x7, 0x130⟩

theorem Does.estDiag {G : Foot} {z s : State} (h : Does G z s) (hg : Foot.estDiag.leB G = true) (r : Nat) (j : Nat) (sumM : Int) (sumE : Int) (sumV : Int) (nV : Nat) : Does G z (State.estDiag s r j sumM sumE sumV nV) := by
  unfold State.estDiag
  with_reducible repeat' first
    | assumption
    | (extract_lets +onlyGivenNames a; first | (refine (fun (k : Does G z a) => ?_) ?_; rotate_left; unfold a; clear a; rotate_left; clear_value a; revert a; intros) | (clear_value a; revert a; intros))
    | refine Does.flag ?_ ?_ _ _ _ | refine Does.record ?_ (Foot.up hg (by decide)) _ _ | exact Foot.upR hg (by decide)
    | (dsimp -zeta only) | refine Does.ite ?_ ?_

def Foot.divergence : Foot := ⟨0x7544000000000000000010000000000130200008000000000, 0x800000000000000000000000000000000000000000000400000000000000000000F8000000000007, 0x130⟩

theorem Does.divergence {G : Foot} {z s : State} (h : Does G z s) (hg : Foot.divergence.leB G = true) (r : Nat) (j : Nat) (m : Int) (e : Int) (n : Nat) (sv : Int) : Does G z (State.divergence s r j m e n sv) := by
  unfold State.divergence
  with_reducible repeat' first
    | assumption
    | (extract_lets +onlyGivenNames a; first | (refine (fun (k : Does G z a) => ?_) ?_; rotate_left; unfold a; clear a; rotate_left; clear_value a; revert a; intros) | (clear_value a; revert a; intros))
    | refine Does.wr ?_ ?_ _ _ _ | refine Does.flag ?_ ?_ _ _ _ | refine Does.setV ?_ ?_ _ _ _ | refine Does.incSat ?_ ?_ _ _ _
    | refine Does.addV ?_ ?_ _ _ _ | refine Does.fuseTo ?_ (Foot.up hg (by decide)) _ _ _
    | refine Does.event ?_ (Foot.up hg (by decide)) _ _ | refine Does.estDiag ?_ (Foot.up hg (by decide)) _ _ _ _ _ _
    | exact Foot.upR hg (by decide) | exact Foot.upV hg (by decide) | (dsimp -zeta only) | refine Does.ite ?_ ?_

def Foot.divClear : Foot := ⟨0x7004000000000000000010000000000130200008000000000, 0x800000000000000000000000000000000000000000000400000000000000000000F8040000000007, 0x30⟩

theorem Does.divClear {G : Foot} {z s : State} (h : Does G z s) (hg : Foot.divClear.leB G = true) (r : Nat) (j : Nat) (m : Int) (e : Int) (n : Nat) (sv : Int) : Does G z (State.divClear s r j m e n sv) := by
  unfold State.divClear
  with_reducible repeat' first
    | assumption
    | (extract_lets +onlyGivenNames a; first | (refine (fun (k : Does G z a) => ?_) ?_; rotate_left; unfold a; clear a; rotate_left; clear_value a; revert a; intros) | (clear_value a; revert a; intros))
    | refine Does.wr ?_ ?_ _ _ _ | refine Does.incSat ?_ ?_ _ _ _ | refine Does.fuseTo ?_ (Foot.up hg (by decide)) _ _ _
    | refine Does.kneadCov ?_ (Foot.up hg (by decide)) _ | refine Does.event ?_ (Foot.up hg (by decide)) _ _
    | exact Foot.upR hg (by decide) | (dsimp -zeta only) | refine Does.ite ?_ ?_

def Foot.railInterval : Foot := ⟨0x75440000000000000008F0000000000130200008000000000, 0x800000000000000000000000000000000000000000000400000007400000000004F8047030000007, 0x130⟩

theorem Does.railInterval {G : Foot} {z s : State} (h : Does G z s) (hg : Foot.railInterval.leB G = true) (r : Nat) (j : Nat) : Does G z (State.railInterval s r j) := by
  unfold State.railInterval
  with_reducible repeat' first
    | assumption
    | (extract_lets +onlyGivenNames a; first | (refine (fun (k : Does G z a) => ?_) ?_; rotate_left; unfold a; clear a; rotate_left; clear_value a; revert a; intros) | (clear_value a; revert a; intros))
    | refine Does.wr ?_ ?_ _ _ _ | refine Does.flag ?_ ?_ _ _ _ | refine Does.setV ?_ ?_ _ _ _
    | (refine Does.when ?_ _ _ fun _ _ => ?_) | refine Does.wrSat ?_ ?_ _ _ _ | refine Does.wrI ?_ ?_ _ _ _
    | refine Does.fuseTo ?_ (Foot.up hg (by decide)) _ _ _ | refine Does.event ?_ (Foot.up hg (by decide)) _ _
    | refine Does.divergence ?_ (Foot.up hg (by decide)) _ _ _ _ _ _
    | refine Does.divClear ?_ (Foot.up hg (by decide)) _ _ _ _ _ _ | refine Does.addV ?_ ?_ _ _ _
    | refine Does.attribute ?_ (Foot.up hg (by decide)) _ _ _ | exact Foot.upR hg (by decide) | exact Foot.upV hg (by decide)
    | (dsimp -zeta only) | refine Does.ite ?_ ?_ | refine Does.ite_snd ?_ ?_ | refine Foot.pick ?_ ?_ | split

def Foot.railDone : Foot := ⟨0, 0x304780006000000, 0⟩

theorem Does.railDone {G : Foot} {z s : State} (h : Does G z s) (hg : Foot.railDone.leB G = true) (r : Nat) (j : Nat) : Does G z (State.railDone s r j) := by
  unfold State.railDone
  with_reducible repeat' first
    | assumption
    | (extract_lets +onlyGivenNames a; first | (refine (fun (k : Does G z a) => ?_) ?_; rotate_left; unfold a; clear a; rotate_left; clear_value a; revert a; intros) | (clear_value a; revert a; intros))
    | refine Does.dropV ?_ ?_ _ _ | (refine Does.each ?_ _ _ fun _ _ _ _ => ?_) | exact Foot.upV hg (by decide)
    | exact Foot.upM hg ‹_ ∈ _› (by decide)

def Foot.kneadSkipped : Foot := ⟨0xC00000000000000000000000000000, 0, 0⟩

theorem Does.kneadSkipped {G : Foot} {z s : State} (h : Does G z s) (hg : Foot.kneadSkipped.leB G = true) (r : Nat) (code : Nat) : Does G z (State.kneadSkipped s r code) := by
  unfold State.kneadSkipped
  with_reducible repeat' first
    | assumption
    | (extract_lets +onlyGivenNames a; first | (refine (fun (k : Does G z a) => ?_) ?_; rotate_left; unfold a; clear a; rotate_left; clear_value a; revert a; intros) | (clear_value a; revert a; intros))
    | refine Does.wr ?_ ?_ _ _ _ | refine Does.incSat ?_ ?_ _ _ _ | exact Foot.upR hg (by decide)

def Foot.kneadRail : Foot := ⟨0x10000062000000F00000000000000000000000400000, 0x60000000000, 0x40⟩

theorem Does.kneadRail {G : Foot} {z s : State} (h : Does G z s) (hg : Foot.kneadRail.leB G = true) (r : Nat) (w : Nat) : Does G z (State.kneadRail s r w) := by
  unfold State.kneadRail
  with_reducible repeat' first
    | assumption
    | (extract_lets +onlyGivenNames a; first | (refine (fun (k : Does G z a) => ?_) ?_; rotate_left; unfold a; clear a; rotate_left; clear_value a; revert a; intros) | (clear_value a; revert a; intros))
    | refine Does.wr ?_ ?_ _ _ _ | refine Does.setV ?_ ?_ _ _ _ | (refine Does.each ?_ _ _ fun _ _ _ _ => ?_)
    | refine Does.kneadSkipped ?_ (Foot.up hg (by decide)) _ _ | refine Does.incSat ?_ ?_ _ _ _ | refine Does.wrI ?_ ?_ _ _ _
    | refine Does.thetaShow ?_ (Foot.up hg (by decide)) _ | refine Does.thetaSend ?_ (Foot.up hg (by decide)) _
    | exact Foot.upR hg (by decide) | exact Foot.upV hg (by decide) | exact Foot.upM hg ‹_ ∈ _› (by decide)
    | exact Foot.upZip hg ‹_ ∈ _› (by decide) | (dsimp -zeta only) | refine Does.ite ?_ ?_ | refine Does.ite_snd ?_ ?_
    | refine Foot.pick ?_ ?_ | split

def Foot.kneadClear : Foot := ⟨0, 0x80000000000000000000000000000000000000000000000000000000000000000000001FC00000000, 0⟩

theorem Does.kneadClear {G : Foot} {z s : State} (h : Does G z s) (hg : Foot.kneadClear.leB G = true) (w : Nat) : Does G z (State.kneadClear s w) := by
  unfold State.kneadClear
  with_reducible repeat' first
    | assumption
    | (extract_lets +onlyGivenNames a; first | (refine (fun (k : Does G z a) => ?_) ?_; rotate_left; unfold a; clear a; rotate_left; clear_value a; revert a; intros) | (clear_value a; revert a; intros))
    | refine Does.setV ?_ ?_ _ _ _ | (refine Does.each ?_ _ _ fun _ _ _ _ => ?_) | exact Foot.upV hg (by decide)

def Foot.kneadTouch : Foot := ⟨0, 0x10000000000, 0⟩

theorem Does.kneadTouch {G : Foot} {z s : State} (h : Does G z s) (hg : Foot.kneadTouch.leB G = true) (r : Nat) (stamp : Nat) : Does G z (State.kneadTouch s r stamp) := by
  unfold State.kneadTouch
  with_reducible repeat' first
    | assumption | refine Does.setV ?_ ?_ _ _ _ | exact Foot.upV hg (by decide)

def Foot.groupHub : Foot := ⟨0, 0xC00000000, 0⟩

theorem Does.groupHub {G : Foot} {z s : State} (h : Does G z s) (hg : Foot.groupHub.leB G = true) (r : Nat) (g : Nat) (nleaf : Nat) (seq : Nat) (en : Int) : Does G z (State.groupHub s r g nleaf seq en) := by
  unfold State.groupHub
  with_reducible repeat' first
    | assumption
    | (extract_lets +onlyGivenNames a; first | (refine (fun (k : Does G z a) => ?_) ?_; rotate_left; unfold a; clear a; rotate_left; clear_value a; revert a; intros) | (clear_value a; revert a; intros))
    | refine Does.addV ?_ ?_ _ _ _ | exact Foot.upV hg (by decide) | (dsimp -zeta only) | refine Does.ite ?_ ?_

def Foot.grpSend : Foot := ⟨0x10000002000000000000000000000000000000400000, 0x3C0000000, 0⟩

theorem Does.grpSend {G : Foot} {z s : State} (h : Does G z s) (hg : Foot.grpSend.leB G = true) (n : Nat) (r : Nat) (g : Nat) (seq : Nat) : Does G z (State.grpSend s n r g seq) := by
  unfold State.grpSend
  with_reducible repeat' first
    | assumption
    | (extract_lets +onlyGivenNames a; first | (refine (fun (k : Does G z a) => ?_) ?_; rotate_left; unfold a; clear a; rotate_left; clear_value a; revert a; intros) | (clear_value a; revert a; intros))
    | refine Does.setV ?_ ?_ _ _ _ | (refine Does.each ?_ _ _ fun _ _ _ _ => ?_)
    | refine Does.sendUp ?_ (Foot.up hg (by decide)) _ _ _ | exact Foot.upV hg (by decide)

def Foot.grpAtNode : Foot := ⟨0x10000002000000000000000000000000000000400000, 0x3C0000000, 0⟩

theorem Does.grpAtNode {G : Foot} {z s : State} (h : Does G z s) (hg : Foot.grpAtNode.leB G = true) (n : Nat) (child : Nat) (nleaf : Nat) (r : Nat) (g : Nat) (seq : Nat) (e : Int) : Does G z (State.grpAtNode s n child nleaf r g seq e) := by
  unfold State.grpAtNode
  with_reducible repeat' first
    | assumption
    | (extract_lets +onlyGivenNames a; first | (refine (fun (k : Does G z a) => ?_) ?_; rotate_left; unfold a; clear a; rotate_left; clear_value a; revert a; intros) | (clear_value a; revert a; intros))
    | refine Does.setV ?_ ?_ _ _ _ | refine Does.sendUp ?_ (Foot.up hg (by decide)) _ _ _ | refine Does.addV ?_ ?_ _ _ _
    | refine Does.grpSend ?_ (Foot.up hg (by decide)) _ _ _ _ | exact Foot.upV hg (by decide) | (dsimp -zeta only)
    | refine Does.ite ?_ ?_

def Foot.spW : Foot := ⟨0x1C00000000000000000000000000000000000, 0, 0⟩

theorem Does.spW {G : Foot} {z s : State} (h : Does G z s) (hg : Foot.spW.leB G = true) (d k : Nat) (f : Fld) (hf : G.hasR f.r = true) (v : Nat) : Does G z (State.spW s d k f v) := by
  unfold State.spW splitKey
  split
  · rename_i e
    split at e
    · injection e with e1 e2
      subst e1
      exact h.wr hf _ _ _
    · injection e with e1 e2
      subst e1
      refine h.wr ?_ _ _ _
      dsimp only
      split
      · exact Foot.upR hg (by decide)
      · exact Foot.upR hg (by decide)
      · exact Foot.upR hg (by decide)
      · exact hf

def Foot.grantSend : Foot := ⟨0x7000010000003C00000000000000000000000050000400000, 0x7, 0xA0⟩

theorem Does.grantSend {G : Foot} {z s : State} (h : Does G z s) (hg : Foot.grantSend.leB G = true) (d : Nat) (child : Nat) (k : Nat) (cls : Nat) (rail : Nat) (a : Option Nat) : Does G z (State.grantSend s d child k cls rail a) := by
  unfold State.grantSend
  with_reducible repeat' first
    | assumption
    | (extract_lets +onlyGivenNames a; first | (refine (fun (k : Does G z a) => ?_) ?_; rotate_left; unfold a; clear a; rotate_left; clear_value a; revert a; intros) | (clear_value a; revert a; intros))
    | refine Does.spW ?_ (Foot.up hg (by decide)) _ _ _ ?_ _ | refine Does.frame ?_ (Foot.up hg (by decide)) _ _ _ _ _ _
    | refine Does.sendDown ?_ (Foot.up hg (by decide)) _ _ _ | exact Foot.upR hg (by decide) | (dsimp -zeta only)
    | refine Does.ite ?_ ?_ | refine Does.ite_snd ?_ ?_ | refine Foot.pick ?_ ?_ | split | refine Does.snd ‹_ = (_, _)› ?_
    | (refine Does.mk' ?_ rfl rfl rfl rfl rfl rfl rfl rfl rfl rfl ?_; rotate_left; intro p hn; cases p <;> first | with_unfolding_all rfl | exact Foot.noP hg (by decide) hn)

def Foot.grantsOut : Foot := ⟨0x7000010000003C00000000000000000000000050000400000, 0x7, 0xA0⟩

theorem Does.grantsOut {G : Foot} {z s : State} (h : Does G z s) (hg : Foot.grantsOut.leB G = true) (d : Nat) (cls : Nat) (rail : Nat) (l : List (Nat × Nat × Option Nat)) : Does G z (State.grantsOut s d cls rail l) := by
  unfold State.grantsOut
  with_reducible repeat' first
    | assumption
    | (extract_lets +onlyGivenNames a; first | (refine (fun (k : Does G z a) => ?_) ?_; rotate_left; unfold a; clear a; rotate_left; clear_value a; revert a; intros) | (clear_value a; revert a; intros))
    | (refine Does.each ?_ _ _ fun _ _ _ _ => ?_) | refine Does.grantSend ?_ (Foot.up hg (by decide)) _ _ _ _ _ _

def Foot.split : Foot := ⟨0x7004010000003E00000000000000000130200078000400040, 0x7, 0xB0⟩

theorem Does.split {G : Foot} {z s : State} (h : Does G z s) (hg : Foot.split.leB G = true) (d : Nat) (cls : Nat) (rail : Nat) : Does G z (State.split s d cls rail) := by
  unfold State.split
  with_reducible repeat' first
    | assumption
    | (extract_lets +onlyGivenNames a; first | (refine (fun (k : Does G z a) => ?_) ?_; rotate_left; unfold a; clear a; rotate_left; clear_value a; revert a; intros) | (clear_value a; revert a; intros))
    | refine Does.flag ?_ ?_ _ _ _ | (refine Does.when ?_ _ _ fun _ _ => ?_)
    | refine Does.grantsOut ?_ (Foot.up hg (by decide)) _ _ _ _ | refine Does.evFrom ?_ (Foot.up hg (by decide)) _ _ _ _ _
    | refine Does.wrSat ?_ ?_ _ _ _ | exact Foot.upR hg (by decide) | (dsimp -zeta only) | refine Does.ite ?_ ?_
    | refine Does.ite_snd ?_ ?_ | refine Foot.pick ?_ ?_ | split

def Foot.splitAll : Foot := ⟨0x7004010000003E00000000000000000130200078000400040, 0x7, 0xB0⟩

theorem Does.splitAll {G : Foot} {z s : State} (h : Does G z s) (hg : Foot.splitAll.leB G = true) (d : Nat) : Does G z (State.splitAll s d) := by
  unfold State.splitAll
  with_reducible repeat' first
    | assumption
    | (extract_lets +onlyGivenNames a; first | (refine (fun (k : Does G z a) => ?_) ?_; rotate_left; unfold a; clear a; rotate_left; clear_value a; revert a; intros) | (clear_value a; revert a; intros))
    | (refine Does.each ?_ _ _ fun _ _ _ _ => ?_) | refine Does.split ?_ (Foot.up hg (by decide)) _ _ _

def Foot.grantAll : Foot := ⟨0x7004010000003E00000000000000000130200078000400040, 0x7, 0xB0⟩

theorem Does.grantAll {G : Foot} {z s : State} (h : Does G z s) (hg : Foot.grantAll.leB G = true) (child : Nat) : Does G z (State.grantAll s child) := by
  unfold State.grantAll
  with_reducible repeat' first
    | assumption
    | (extract_lets +onlyGivenNames a; first | (refine (fun (k : Does G z a) => ?_) ?_; rotate_left; unfold a; clear a; rotate_left; clear_value a; revert a; intros) | (clear_value a; revert a; intros))
    | refine Does.splitAll ?_ (Foot.up hg (by decide)) _ | (dsimp -zeta only) | split | refine Does.snd ‹_ = (_, _)› ?_
    | (refine Does.mk' ?_ rfl rfl rfl rfl rfl rfl rfl rfl rfl rfl ?_; rotate_left; intro p hn; cases p <;> first | with_unfolding_all rfl | exact Foot.noP hg (by decide) hn)

def Foot.loopOvr : Foot := ⟨0x2000000000000000000000, 0, 0⟩

theorem Does.loopOvr {G : Foot} {z s : State} (h : Does G z s) (hg : Foot.loopOvr.leB G = true) (l : Nat) : Does G z (State.loopOvr s l) := by
  unfold State.loopOvr
  with_reducible repeat' first
    | assumption
    | (extract_lets +onlyGivenNames a; first | (refine (fun (k : Does G z a) => ?_) ?_; rotate_left; unfold a; clear a; rotate_left; clear_value a; revert a; intros) | (clear_value a; revert a; intros))
    | refine Does.wr ?_ ?_ _ _ _ | exact Foot.upR hg (by decide)

def Foot.appliedTake : Foot := ⟨0x6000000000000000000000, 0x1000000000000000000000000, 0⟩

theorem Does.appliedTake {G : Foot} {z s : State} (h : Does G z s) (hg : Foot.appliedTake.leB G = true) (l : Nat) (a : Option Nat) : Does G z (State.appliedTake s l a) := by
  unfold State.appliedTake
  with_reducible repeat' first
    | assumption
    | (extract_lets +onlyGivenNames a; first | (refine (fun (k : Does G z a) => ?_) ?_; rotate_left; unfold a; clear a; rotate_left; clear_value a; revert a; intros) | (clear_value a; revert a; intros))
    | refine Does.setV ?_ ?_ _ _ _ | refine Does.wrI ?_ ?_ _ _ _ | refine Does.loopOvr ?_ (Foot.up hg (by decide)) _
    | exact Foot.upR hg (by decide) | exact Foot.upV hg (by decide)

def Foot.appliedOut : Foot := ⟨0x10000002000000000000006000000000000000400000, 0x1000000000000000000000000, 0⟩

theorem Does.appliedOut {G : Foot} {z s : State} (h : Does G z s) (hg : Foot.appliedOut.leB G = true) (d : Nat) (cls : Nat) (rail : Nat) : Does G z (State.appliedOut s d cls rail) := by
  unfold State.appliedOut
  with_reducible repeat' first
    | assumption
    | (extract_lets +onlyGivenNames a; first | (refine (fun (k : Does G z a) => ?_) ?_; rotate_left; unfold a; clear a; rotate_left; clear_value a; revert a; intros) | (clear_value a; revert a; intros))
    | (refine Does.each ?_ _ _ fun _ _ _ _ => ?_) | refine Does.appliedTake ?_ (Foot.up hg (by decide)) _ _
    | refine Does.sendUp ?_ (Foot.up hg (by decide)) _ _ _ | (dsimp -zeta only) | refine Does.ite ?_ ?_
    | refine Does.ite_snd ?_ ?_ | refine Foot.pick ?_ ?_ | split

def Foot.budgetShow : Foot := ⟨0x300100000000000000000000000000000000020, 0, 0⟩

theorem Does.budgetShow {G : Foot} {z s : State} (h : Does G z s) (hg : Foot.budgetShow.leB G = true) (d : Nat) : Does G z (State.budgetShow s d) := by
  unfold State.budgetShow
  with_reducible repeat' first
    | assumption
    | (extract_lets +onlyGivenNames a; first | (refine (fun (k : Does G z a) => ?_) ?_; rotate_left; unfold a; clear a; rotate_left; clear_value a; revert a; intros) | (clear_value a; revert a; intros))
    | refine Does.wr ?_ ?_ _ _ _ | (refine Does.each ?_ _ _ fun _ _ _ _ => ?_) | exact Foot.upR hg (by decide)
    | exact Foot.upZip hg ‹_ ∈ _› (by decide) | (dsimp -zeta only) | refine Does.ite ?_ ?_

def Foot.issueDrive : Foot := ⟨0, 0x20000000000000000000000000000000000000000000000000000000000000000000000000000000000000, 0⟩

theorem Does.issueDrive {G : Foot} {z s : State} (h : Does G z s) (hg : Foot.issueDrive.leB G = true) (leaf : Nat) (q : Nat) : Does G z (State.issueDrive s leaf q) := by
  unfold State.issueDrive
  with_reducible repeat' first
    | assumption | refine Does.setV ?_ ?_ _ _ _ | exact Foot.upV hg (by decide)

def Foot.creditRevoke : Foot := ⟨0, 0x20000000000000000000000000000000000000000000000000000200000000000000000000000000000000, 0⟩

theorem Does.creditRevoke {G : Foot} {z s : State} (h : Does G z s) (hg : Foot.creditRevoke.leB G = true) (l : Nat) (q : Nat) : Does G z (State.creditRevoke s l q) := by
  unfold State.creditRevoke
  with_reducible repeat' first
    | assumption | refine Does.setV ?_ ?_ _ _ _ | refine Does.issueDrive ?_ (Foot.up hg (by decide)) _ _
    | exact Foot.upV hg (by decide)

def Foot.leafRevoke : Foot := ⟨0, 0x20000000000000000000000000000000000000000000000000000200000000000000000000000000000000, 0⟩

theorem Does.leafRevoke {G : Foot} {z s : State} (h : Does G z s) (hg : Foot.leafRevoke.leB G = true) (l : Nat) : Does G z (State.leafRevoke s l) := by
  unfold State.leafRevoke
  with_reducible repeat' first
    | assumption | (refine Does.each ?_ _ _ fun _ _ _ _ => ?_) | refine Does.creditRevoke ?_ (Foot.up hg (by decide)) _ _

def Foot.cntAdd : Foot := ⟨0, 0x140000000000000000000000000000000000000000000000000000000000000, 0⟩

theorem Does.cntAdd {G : Foot} {z s : State} (h : Does G z s) (hg : Foot.cntAdd.leB G = true) (l : Nat) (cidx : Nat) (ctx : Nat) (n : Nat) (stamp : Nat) : Does G z (State.cntAdd s l cidx ctx n stamp) := by
  unfold State.cntAdd
  with_reducible repeat' first
    | assumption | (refine Does.when ?_ _ _ fun _ _ => ?_) | refine Does.addV ?_ ?_ _ _ _ | exact Foot.upV hg (by decide)
    | (dsimp -zeta only) | refine Does.ite ?_ ?_

def Foot.cycCount : Foot := ⟨0, 0x140000000000000000000000000000000000000000000000000000000000000, 0⟩

theorem Does.cycCount {G : Foot} {z s : State} (h : Does G z s) (hg : Foot.cycCount.leB G = true) (x : Var) (hx : G.hasV x = true) (l : Nat) (j : Nat) (n : Nat) (cidx : Nat) (ctx : Nat) (stamp : Nat) : Does G z (State.cycCount s x l j n cidx ctx stamp) := by
  unfold State.cycCount
  with_reducible repeat' first
    | assumption
    | (extract_lets +onlyGivenNames a; first | (refine (fun (k : Does G z a) => ?_) ?_; rotate_left; unfold a; clear a; rotate_left; clear_value a; revert a; intros) | (clear_value a; revert a; intros))
    | refine Does.setV ?_ ?_ _ _ _ | refine Does.cntAdd ?_ (Foot.up hg (by decide)) _ _ _ _ _

def Foot.selTake : Foot := ⟨0x40000000000000000000000000000000000000000000, 0x20000000000000000200000000000000000000000000000000000000000000000000000000000000, 0⟩

theorem Does.selTake {G : Foot} {z s : State} (h : Does G z s) (hg : Foot.selTake.leB G = true) (l : Nat) (k : Nat) (w : Word) : Does G z (State.selTake s l k w) := by
  unfold State.selTake
  with_reducible repeat' first
    | assumption
    | (extract_lets +onlyGivenNames a; first | (refine (fun (k : Does G z a) => ?_) ?_; rotate_left; unfold a; clear a; rotate_left; clear_value a; revert a; intros) | (clear_value a; revert a; intros))
    | refine Does.setV ?_ ?_ _ _ _ | refine Does.setReg ?_ ?_ _ _ _ | (refine Does.when ?_ _ _ fun _ _ => ?_)
    | exact Foot.upR hg (by decide) | exact Foot.upV hg (by decide)

def Foot.effPiece : Foot := ⟨0x40402000000000000000000000000000000000000000, 0x180000000000140000000000000000000000000000070000000800000000000000000000000, 0⟩

theorem Does.effPiece {G : Foot} {z s : State} (h : Does G z s) (hg : Foot.effPiece.leB G = true) (leaf : Nat) (q : Nat) (upTo : Nat) : Does G z (State.effPiece s leaf q upTo) := by
  unfold State.effPiece
  with_reducible repeat' first
    | assumption
    | (extract_lets +onlyGivenNames a; first | (refine (fun (k : Does G z a) => ?_) ?_; rotate_left; unfold a; clear a; rotate_left; clear_value a; revert a; intros) | (clear_value a; revert a; intros))
    | refine Does.setV ?_ ?_ _ _ _ | refine Does.setReg ?_ ?_ _ _ _ | (refine Does.when ?_ _ _ fun _ _ => ?_)
    | (refine Does.each ?_ _ _ fun _ _ _ _ => ?_) | refine Does.addV ?_ ?_ _ _ _
    | refine Does.cycCount ?_ (Foot.up hg (by decide)) _ ?_ _ _ _ _ _ _ | exact Foot.upR hg (by decide)
    | exact Foot.upV hg (by decide) | exact Foot.upM hg ‹_ ∈ _› (by decide) | refine Foot.sgF ?_ ?_ | (dsimp -zeta only)
    | refine Does.ite ?_ ?_

def Foot.effRun : Foot := ⟨0x40402000000000000000000000000000000000000000, 0x180000000000140000000000000000000000000000070000000800000000000000000000000, 0⟩

theorem Does.effRun {G : Foot} {z s : State} (h : Does G z s) (hg : Foot.effRun.leB G = true) (leaf : Nat) (q : Nat) (fuel : Nat) : Does G z (State.effRun s leaf q fuel) := by
  induction fuel generalizing s with
  | zero =>
    unfold State.effRun
    with_reducible repeat' first
      | assumption
      | (extract_lets +onlyGivenNames a; first | (refine (fun (k : Does G z a) => ?_) ?_; rotate_left; unfold a; clear a; rotate_left; clear_value a; revert a; intros) | ((first | (have b : Prop := a; clear b) | (have b : List Fld := a; clear b) | (have b : SyncSt := a; clear b) | (have b : State → State := a; clear b) | (have b : Nat → Status → State := a; clear b) | (have b : Bank := a; clear b) | (have b : ImgSt := a; clear b) | (have b : FacSt := a; clear b) | (have b : MirSt := a; clear b) | (have b : Status × State → Option Status × State := a; clear b) | (have b : Status → Word → State → State := a; clear b) | (have b : State → Nat → Nat → State := a; clear b)); unfold a; clear a) | (clear_value a; revert a; intros))
      | refine Does.effPiece ?_ (Foot.up hg (by decide)) _ _ _
  
  | succ fuel ih =>
    unfold State.effRun
    with_reducible repeat' first
      | assumption
      | (extract_lets +onlyGivenNames a; first | (refine (fun (k : Does G z a) => ?_) ?_; rotate_left; unfold a; clear a; rotate_left; clear_value a; revert a; intros) | ((first | (have b : Prop := a; clear b) | (have b : List Fld := a; clear b) | (have b : SyncSt := a; clear b) | (have b : State → State := a; clear b) | (have b : Nat → Status → State := a; clear b) | (have b : Bank := a; clear b) | (have b : ImgSt := a; clear b) | (have b : FacSt := a; clear b) | (have b : MirSt := a; clear b) | (have b : Status × State → Option Status × State := a; clear b) | (have b : Status → Word → State → State := a; clear b) | (have b : State → Nat → Nat → State := a; clear b)); unfold a; clear a) | (clear_value a; revert a; intros))
      | refine Does.effPiece ?_ (Foot.up hg (by decide)) _ _ _ | refine ih ?_ | (dsimp -zeta only) | refine Does.ite ?_ ?_
  
def Foot.effAcct : Foot := ⟨0x40402000000000000000000000000000000000000000, 0x180000000000140000000000000000000000000000070000000800000000000000000000000, 0⟩

theorem Does.effAcct {G : Foot} {z s : State} (h : Does G z s) (hg : Foot.effAcct.leB G = true) (leaf : Nat) (q : Nat) : Does G z (State.effAcct s leaf q) := by
  unfold State.effAcct
  with_reducible repeat' first
    | assumption | refine Does.setV ?_ ?_ _ _ _ | refine Does.effRun ?_ (Foot.up hg (by decide)) _ _ _
    | exact Foot.upV hg (by decide) | (dsimp -zeta only) | refine Does.ite ?_ ?_

def Foot.leafAcct : Foot := ⟨0x40402000000000000000000000000000000000000000, 0x180000000000140000000000000000000000000000070000000800000000000000000000000, 0⟩

theorem Does.leafAcct {G : Foot} {z s : State} (h : Does G z s) (hg : Foot.leafAcct.leB G = true) (l : Nat) : Does G z (State.leafAcct s l) := by
  unfold State.leafAcct
  with_reducible repeat' first
    | assumption | (refine Does.each ?_ _ _ fun _ _ _ _ => ?_) | refine Does.effAcct ?_ (Foot.up hg (by decide)) _ _

def Foot.cntActs : Foot := ⟨0x40000000000000000000000000000000000000000000, 0x140000000000000000000000000000000000000000000000000000000000000, 0⟩

theorem Does.cntActs {G : Foot} {z s : State} (h : Does G z s) (hg : Foot.cntActs.leB G = true) (l : Nat) (acts : List Act) : Does G z (State.cntActs s l acts) := by
  unfold State.cntActs
  with_reducible repeat' first
    | assumption
    | (extract_lets +onlyGivenNames a; first | (refine (fun (k : Does G z a) => ?_) ?_; rotate_left; unfold a; clear a; rotate_left; clear_value a; revert a; intros) | (clear_value a; revert a; intros))
    | (refine Does.each ?_ _ _ fun _ _ _ _ => ?_) | refine Does.cntAdd ?_ (Foot.up hg (by decide)) _ _ _ _ _
    | (dsimp -zeta only) | refine Does.ite ?_ ?_ | refine Does.ite_snd ?_ ?_ | refine Foot.pick ?_ ?_ | split

def Foot.gateEff : Foot := ⟨0x40402000000000000000000000000000000000000000, 0x180000000000140000000000000000000000000000070000000800000000000000000000000, 0⟩

theorem Does.gateEff {G : Foot} {z s : State} (h : Does G z s) (hg : Foot.gateEff.leB G = true) (leaf : Nat) (q : Nat) : Does G z (State.gateEff s leaf q) := by
  unfold State.gateEff
  with_reducible repeat' first
    | assumption
    | (extract_lets +onlyGivenNames a; first | (refine (fun (k : Does G z a) => ?_) ?_; rotate_left; unfold a; clear a; rotate_left; clear_value a; revert a; intros) | (clear_value a; revert a; intros))
    | refine Does.wr ?_ ?_ _ _ _ | refine Does.effAcct ?_ (Foot.up hg (by decide)) _ _ | exact Foot.upR hg (by decide)
    | refine Foot.sgF ?_ ?_

def Foot.coreEff : Foot := ⟨0x4000000000000000000000000000000000000000, 0, 0⟩

theorem Does.coreEff {G : Foot} {z s : State} (h : Does G z s) (hg : Foot.coreEff.leB G = true) (leaf : Nat) (p : Nat) : Does G z (State.coreEff s leaf p) := by
  unfold State.coreEff
  with_reducible repeat' first
    | assumption
    | (extract_lets +onlyGivenNames a; first | (refine (fun (k : Does G z a) => ?_) ?_; rotate_left; unfold a; clear a; rotate_left; clear_value a; revert a; intros) | (clear_value a; revert a; intros))
    | refine Does.wr ?_ ?_ _ _ _ | exact Foot.upR hg (by decide)

def Foot.leafEff : Foot := ⟨0x40406000000000000000000000000000000000000000, 0x20000000000180000000000140000000000000000000000000000270000000804000000000000000000000, 0⟩

theorem Does.leafEff {G : Foot} {z s : State} (h : Does G z s) (hg : Foot.leafEff.leB G = true) (leaf : Nat) : Does G z (State.leafEff s leaf) := by
  unfold State.leafEff
  with_reducible repeat' first
    | assumption
    | (extract_lets +onlyGivenNames a; first | (refine (fun (k : Does G z a) => ?_) ?_; rotate_left; unfold a; clear a; rotate_left; clear_value a; revert a; intros) | (clear_value a; revert a; intros))
    | refine Does.setV ?_ ?_ _ _ _ | (refine Does.when ?_ _ _ fun _ _ => ?_) | (refine Does.each ?_ _ _ fun _ _ _ _ => ?_)
    | refine Does.leafRevoke ?_ (Foot.up hg (by decide)) _ | refine Does.gateEff ?_ (Foot.up hg (by decide)) _ _
    | refine Does.coreEff ?_ (Foot.up hg (by decide)) _ _ | exact Foot.upV hg (by decide)

def Foot.allEff : Foot := ⟨0x40406000000000000000000000000000000000000000, 0x20000000000180000000000140000000000000000000000000000270000000804000000000000000000000, 0⟩

theorem Does.allEff {G : Foot} {z s : State} (h : Does G z s) (hg : Foot.allEff.leB G = true) : Does G z (State.allEff s) := by
  unfold State.allEff
  with_reducible repeat' first
    | assumption | (refine Does.each ?_ _ _ fun _ _ _ _ => ?_) | refine Does.leafEff ?_ (Foot.up hg (by decide)) _

def Foot.coreConvert : Foot := ⟨0x4000000000000000000000000000000000000000, 0x400000000000000000000000, 0⟩

theorem Does.coreConvert {G : Foot} {z s : State} (h : Does G z s) (hg : Foot.coreConvert.leB G = true) (leaf : Nat) : Does G z (State.coreConvert s leaf) := by
  unfold State.coreConvert
  with_reducible repeat' first
    | assumption
    | (extract_lets +onlyGivenNames a; first | (refine (fun (k : Does G z a) => ?_) ?_; rotate_left; unfold a; clear a; rotate_left; clear_value a; revert a; intros) | (clear_value a; revert a; intros))
    | refine Does.wr ?_ ?_ _ _ _ | refine Does.setV ?_ ?_ _ _ _ | (refine Does.each ?_ _ _ fun _ _ _ _ => ?_)
    | refine Does.coreEff ?_ (Foot.up hg (by decide)) _ _ | exact Foot.upR hg (by decide) | exact Foot.upV hg (by decide)

def Foot.convert : Foot := ⟨0x7600000000000000000000000000000000000000, 0x4000C0000000000000000000, 0⟩

theorem Does.convert {G : Foot} {z s : State} (h : Does G z s) (hg : Foot.convert.leB G = true) (leaf : Nat) : Does G z (State.convert s leaf) := by
  unfold State.convert
  with_reducible repeat' first
    | assumption
    | (extract_lets +onlyGivenNames a; first | (refine (fun (k : Does G z a) => ?_) ?_; rotate_left; unfold a; clear a; rotate_left; clear_value a; revert a; intros) | (clear_value a; revert a; intros))
    | refine Does.wr ?_ ?_ _ _ _ | refine Does.setV ?_ ?_ _ _ _ | (refine Does.each ?_ _ _ fun _ _ _ _ => ?_)
    | refine Does.wrSat ?_ ?_ _ _ _ | refine Does.coreConvert ?_ (Foot.up hg (by decide)) _ | exact Foot.upR hg (by decide)
    | exact Foot.upV hg (by decide) | exact Foot.upM hg ‹_ ∈ _› (by decide) | refine Foot.sgF ?_ ?_
    | exact Foot.upZip hg ‹_ ∈ _› (by decide) | (dsimp -zeta only) | refine Does.ite ?_ ?_

def Foot.budgetSet : Foot := ⟨0x7004010007703F00000000000006000130200078000400060, 0x14000C0000000000000000007, 0xB0⟩

theorem Does.budgetSet {G : Foot} {z s : State} (h : Does G z s) (hg : Foot.budgetSet.leB G = true) (d : Nat) (cls : Nat) (rail : Nat) (loop : Option Nat) (a : Option Nat) : Does G z (State.budgetSet s d cls rail loop a) := by
  unfold State.budgetSet
  with_reducible repeat' first
    | assumption
    | (extract_lets +onlyGivenNames a; first | (refine (fun (k : Does G z a) => ?_) ?_; rotate_left; unfold a; clear a; rotate_left; clear_value a; revert a; intros) | (clear_value a; revert a; intros))
    | (refine Does.when ?_ _ _ fun _ _ => ?_) | refine Does.budgetShow ?_ (Foot.up hg (by decide)) _
    | refine Does.appliedOut ?_ (Foot.up hg (by decide)) _ _ _ | refine Does.convert ?_ (Foot.up hg (by decide)) _
    | refine Does.split ?_ (Foot.up hg (by decide)) _ _ _ | (dsimp -zeta only) | refine Does.ite ?_ ?_
    | refine Does.ite_snd ?_ ?_ | refine Foot.pick ?_ ?_ | split | refine Does.snd ‹_ = (_, _)› ?_
    | (refine Does.mk' ?_ rfl rfl rfl rfl rfl rfl rfl rfl rfl rfl ?_; rotate_left; intro p hn; cases p <;> first | with_unfolding_all rfl | exact Foot.noP hg (by decide) hn)

def Foot.budgetDrop : Foot := ⟨0x300100000000000000000000000000000000020, 0, 0x80⟩

theorem Does.budgetDrop {G : Foot} {z s : State} (h : Does G z s) (hg : Foot.budgetDrop.leB G = true) (d : Nat) : Does G z (State.budgetDrop s d) := by
  unfold State.budgetDrop
  with_reducible repeat' first
    | assumption | refine Does.budgetShow ?_ (Foot.up hg (by decide)) _ | (dsimp -zeta only) | split
    | refine Does.snd ‹_ = (_, _)› ?_
    | (refine Does.mk' ?_ rfl rfl rfl rfl rfl rfl rfl rfl rfl rfl ?_; rotate_left; intro p hn; cases p <;> first | with_unfolding_all rfl | exact Foot.noP hg (by decide) hn)

def Foot.commitTo : Foot := ⟨0x7004010007703F00000000000006000130200078000400060, 0x14000C0000000000000000007, 0xB0⟩

theorem Does.commitTo {G : Foot} {z s : State} (h : Does G z s) (hg : Foot.commitTo.leB G = true) (host : Nat) (dest : Nat) (cls : Nat) (rail : Nat) (loop : Nat) (a : Option Nat) : Does G z (State.commitTo s host dest cls rail loop a).2 := by
  unfold State.commitTo
  with_reducible repeat' first
    | assumption | refine Does.budgetSet ?_ (Foot.up hg (by decide)) _ _ _ _ _
    | refine Does.sendDown ?_ (Foot.up hg (by decide)) _ _ _ | (dsimp -zeta only) | refine Does.ite ?_ ?_
    | refine Does.ite_snd ?_ ?_ | refine Foot.pick ?_ ?_ | split

def Foot.grantAt : Foot := ⟨0x7004050407703F00000000000006000130200078000400060, 0x20000000000180000000000140000000000000000000000000000270000001C040C001F000000000000007, 0xB0⟩

theorem Does.grantAt {G : Foot} {z s : State} (h : Does G z s) (hg : Foot.grantAt.leB G = true) (d : Nat) (cls : Nat) (rail : Nat) (loop : Option Nat) (a : Option Nat) : Does G z (State.grantAt s d cls rail loop a) := by
  unfold State.grantAt
  with_reducible repeat' first
    | assumption
    | (extract_lets +onlyGivenNames a; first | (refine (fun (k : Does G z a) => ?_) ?_; rotate_left; unfold a; clear a; rotate_left; clear_value a; revert a; intros) | (clear_value a; revert a; intros))
    | refine Does.setV ?_ ?_ _ _ _ | (refine Does.when ?_ _ _ fun _ _ => ?_)
    | refine Does.budgetSet ?_ (Foot.up hg (by decide)) _ _ _ _ _ | refine Does.leafEff ?_ (Foot.up hg (by decide)) _
    | exact Foot.upV hg (by decide) | (dsimp -zeta only) | refine Does.ite ?_ ?_

def Foot.needAt : Foot := ⟨0x7004010000003E00000000000000000130200078000400040, 0x7, 0xB0⟩

theorem Does.needAt {G : Foot} {z s : State} (h : Does G z s) (hg : Foot.needAt.leB G = true) (d : Nat) (k : Nat) (need : Nat) (weight : Nat) : Does G z (State.needAt s d k need weight) := by
  unfold State.needAt
  with_reducible repeat' first
    | assumption | refine Does.spW ?_ (Foot.up hg (by decide)) _ _ _ ?_ _ | refine Does.splitAll ?_ (Foot.up hg (by decide)) _
    | exact Foot.upR hg (by decide)

def Foot.needSend : Foot := ⟨0x7004010000003E00000000000000000130200078000400040, 0x7, 0xB0⟩

theorem Does.needSend {G : Foot} {z s : State} (h : Does G z s) (hg : Foot.needSend.leB G = true) (d : Nat) (need : Nat) (weight : Nat) : Does G z (State.needSend s d need weight) := by
  unfold State.needSend
  with_reducible repeat' first
    | assumption
    | (extract_lets +onlyGivenNames a; first | (refine (fun (k : Does G z a) => ?_) ?_; rotate_left; unfold a; clear a; rotate_left; clear_value a; revert a; intros) | (clear_value a; revert a; intros))
    | refine Does.needAt ?_ (Foot.up hg (by decide)) _ _ _ _ | refine Does.sendDown ?_ (Foot.up hg (by decide)) _ _ _
    | (dsimp -zeta only) | refine Does.ite ?_ ?_ | refine Does.ite_snd ?_ ?_ | refine Foot.pick ?_ ?_ | split

def Foot.convAccum : Foot := ⟨0, 0x15520000000000000000, 0⟩

theorem Does.convAccum {G : Foot} {z s : State} (h : Does G z s) (hg : Foot.convAccum.leB G = true) (leaf : Nat) (j : Nat) (acts : List Act) : Does G z (State.convAccum s leaf j acts) := by
  unfold State.convAccum
  with_reducible repeat' first
    | assumption
    | (extract_lets +onlyGivenNames a; first | (refine (fun (k : Does G z a) => ?_) ?_; rotate_left; unfold a; clear a; rotate_left; clear_value a; revert a; intros) | (clear_value a; revert a; intros))
    | (refine Does.each ?_ _ _ fun _ _ _ _ => ?_) | refine Does.addV ?_ ?_ _ _ _ | exact Foot.upV hg (by decide)

def Foot.convRoll : Foot := ⟨0, 0x1800000000000000000000000000000000000000000000000000000000000000003FFE0000000000000000, 0⟩

theorem Does.convRoll {G : Foot} {z s : State} (h : Does G z s) (hg : Foot.convRoll.leB G = true) (leaf : Nat) (j : Nat) : Does G z (State.convRoll s leaf j) := by
  unfold State.convRoll
  with_reducible repeat' first
    | assumption
    | (extract_lets +onlyGivenNames a; first | (refine (fun (k : Does G z a) => ?_) ?_; rotate_left; unfold a; clear a; rotate_left; clear_value a; revert a; intros) | (clear_value a; revert a; intros))
    | refine Does.dropV ?_ ?_ _ _ | refine Does.setV ?_ ?_ _ _ _ | (refine Does.each ?_ _ _ fun _ _ _ _ => ?_)
    | exact Foot.upV hg (by decide)

def Foot.gtNodeSet : Foot := ⟨0x20000000000000000000000, 0x3000000000000000000000000000000000000000000000000000000000000000000000000000000, 0⟩

theorem Does.gtNodeSet {G : Foot} {z s : State} (h : Does G z s) (hg : Foot.gtNodeSet.leB G = true) (r : Reg) (d : Nat) (t : Nat) (b : Nat) (w : Word) : Does G z (State.gtNodeSet s r d t b w) := by
  unfold State.gtNodeSet
  with_reducible repeat' first
    | assumption | refine Does.setV ?_ ?_ _ _ _ | exact Foot.upV hg (by decide) | (dsimp -zeta only) | refine Does.ite ?_ ?_
    | refine Does.ite_snd ?_ ?_ | refine Foot.pick ?_ ?_ | split

def Foot.gtHubSet : Foot := ⟨0x60000000000000000000000, 0x3000000000000000000000000000000000000000000000000000000000000000000000000000000, 0⟩

theorem Does.gtHubSet {G : Foot} {z s : State} (h : Does G z s) (hg : Foot.gtHubSet.leB G = true) (r : Reg) (t : Nat) (b : Nat) (w : Word) (nodes : List Nat) : Does G z (State.gtHubSet s r t b w nodes) := by
  unfold State.gtHubSet
  with_reducible repeat' first
    | assumption
    | (extract_lets +onlyGivenNames a; first | (refine (fun (k : Does G z a) => ?_) ?_; rotate_left; unfold a; clear a; rotate_left; clear_value a; revert a; intros) | ((first | (have b : Prop := a; clear b) | (have b : List Fld := a; clear b) | (have b : SyncSt := a; clear b) | (have b : State → State := a; clear b) | (have b : Nat → Status → State := a; clear b) | (have b : Bank := a; clear b) | (have b : ImgSt := a; clear b) | (have b : FacSt := a; clear b) | (have b : MirSt := a; clear b) | (have b : Status × State → Option Status × State := a; clear b) | (have b : Status → Word → State → State := a; clear b) | (have b : State → Nat → Nat → State := a; clear b)); unfold a; clear a) | (clear_value a; revert a; intros))
    | refine Does.setReg ?_ ?_ _ _ _ | (refine Does.each ?_ _ _ fun _ _ _ _ => ?_)
    | refine Does.gtNodeSet ?_ (Foot.up hg (by decide)) _ _ _ _ _ | exact Foot.upR hg (by decide) | (dsimp -zeta only)
    | refine Does.ite ?_ ?_

def Foot.loopSat : Foot := ⟨0x7004010000002000000000000002000130200008000400000, 0x7, 0x30⟩

theorem Does.loopSat {G : Foot} {z s : State} (h : Does G z s) (hg : Foot.loopSat.leB G = true) (l : Nat) (p : Bool) (i : Bool) (o : Bool) : Does G z (State.loopSat s l p i o) := by
  unfold State.loopSat
  with_reducible repeat' first
    | assumption
    | (extract_lets +onlyGivenNames a; first | (refine (fun (k : Does G z a) => ?_) ?_; rotate_left; unfold a; clear a; rotate_left; clear_value a; revert a; intros) | (clear_value a; revert a; intros))
    | refine Does.flag ?_ ?_ _ _ _ | (refine Does.when ?_ _ _ fun _ _ => ?_)
    | refine Does.evFrom ?_ (Foot.up hg (by decide)) _ _ _ _ _ | exact Foot.upR hg (by decide)

def Foot.thrCommit : Foot := ⟨0x12000002000000000000000000000000000000400000, 0x20000000000000000000000000, 0x40⟩

theorem Does.thrCommit {G : Foot} {z s : State} (h : Does G z s) (hg : Foot.thrCommit.leB G = true) (l : Nat) (u : Int) : Does G z (State.thrCommit s l u) := by
  unfold State.thrCommit
  with_reducible repeat' first
    | assumption
    | (extract_lets +onlyGivenNames a; first | (refine (fun (k : Does G z a) => ?_) ?_; rotate_left; unfold a; clear a; rotate_left; clear_value a; revert a; intros) | (clear_value a; revert a; intros))
    | refine Does.setV ?_ ?_ _ _ _ | (refine Does.each ?_ _ _ fun _ _ _ _ => ?_)
    | refine Does.hubWrite ?_ (Foot.up hg (by decide)) _ _ _ _ | exact Foot.upV hg (by decide)
    | exact Foot.upM hg ‹_ ∈ _› (by decide) | (dsimp -zeta only) | refine Does.ite ?_ ?_

def Foot.loopCommit : Foot := ⟨0x7004012007703F00000000000006000130200078000400060, 0x234000C0000000000000000007, 0xF0⟩

theorem Does.loopCommit {G : Foot} {z s : State} (h : Does G z s) (hg : Foot.loopCommit.leB G = true) (l : Nat) (u : Int) (nom : Nat) : Does G z (State.loopCommit s l u nom) := by
  unfold State.loopCommit
  with_reducible repeat' first
    | assumption
    | (extract_lets +onlyGivenNames a; first | (refine (fun (k : Does G z a) => ?_) ?_; rotate_left; unfold a; clear a; rotate_left; clear_value a; revert a; intros) | (clear_value a; revert a; intros))
    | refine Does.wr ?_ ?_ _ _ _ | refine Does.flag ?_ ?_ _ _ _ | refine Does.setV ?_ ?_ _ _ _
    | (refine Does.when ?_ _ _ fun _ _ => ?_) | refine Does.commitTo ?_ (Foot.up hg (by decide)) _ _ _ _ _ _
    | refine Does.loopOvr ?_ (Foot.up hg (by decide)) _ | refine Does.thrCommit ?_ (Foot.up hg (by decide)) _ _
    | exact Foot.upR hg (by decide) | exact Foot.upV hg (by decide) | (dsimp -zeta only) | refine Does.ite ?_ ?_
    | refine Does.ite_snd ?_ ?_ | refine Foot.pick ?_ ?_ | split

def Foot.leaseAdjust : Foot := ⟨0x7004010007703F00000000000006000130200078000400060, 0x14000C0000000000000000007, 0xB0⟩

theorem Does.leaseAdjust {G : Foot} {z s : State} (h : Does G z s) (hg : Foot.leaseAdjust.leB G = true) : Does G z (State.leaseAdjust s) := by
  unfold State.leaseAdjust
  with_reducible repeat' first
    | assumption
    | (extract_lets +onlyGivenNames a; first | (refine (fun (k : Does G z a) => ?_) ?_; rotate_left; unfold a; clear a; rotate_left; clear_value a; revert a; intros) | (clear_value a; revert a; intros))
    | (refine Does.each ?_ _ _ fun _ _ _ _ => ?_) | refine Does.commitTo ?_ (Foot.up hg (by decide)) _ _ _ _ _ _

def Foot.closedTick : Foot := ⟨0x7004012007703F00000000000066C10130200078000400060, 0x234000C0000000000000000007, 0xF0⟩

theorem Does.closedTick {G : Foot} {z s : State} (h : Does G z s) (hg : Foot.closedTick.leB G = true) (l : Nat) (nom : Nat) : Does G z (State.closedTick s l nom) := by
  unfold State.closedTick
  with_reducible repeat' first
    | assumption
    | (extract_lets +onlyGivenNames a; first | (refine (fun (k : Does G z a) => ?_) ?_; rotate_left; unfold a; clear a; rotate_left; clear_value a; revert a; intros) | (clear_value a; revert a; intros))
    | refine Does.wr ?_ ?_ _ _ _ | refine Does.loopSat ?_ (Foot.up hg (by decide)) _ _ _ _ | refine Does.wrI ?_ ?_ _ _ _
    | refine Does.loopCommit ?_ (Foot.up hg (by decide)) _ _ _ | exact Foot.upR hg (by decide)

def Foot.openTick : Foot := ⟨0x7004012007703F00000000000006C10130200078000400060, 0x334000C0000000000000000007, 0xF0⟩

theorem Does.openTick {G : Foot} {z s : State} (h : Does G z s) (hg : Foot.openTick.leB G = true) (l : Nat) (nom : Nat) : Does G z (State.openTick s l nom) := by
  unfold State.openTick
  with_reducible repeat' first
    | assumption
    | (extract_lets +onlyGivenNames a; first | (refine (fun (k : Does G z a) => ?_) ?_; rotate_left; unfold a; clear a; rotate_left; clear_value a; revert a; intros) | (clear_value a; revert a; intros))
    | refine Does.wr ?_ ?_ _ _ _ | refine Does.setV ?_ ?_ _ _ _ | refine Does.loopSat ?_ (Foot.up hg (by decide)) _ _ _ _
    | refine Does.wrI ?_ ?_ _ _ _ | refine Does.loopCommit ?_ (Foot.up hg (by decide)) _ _ _ | exact Foot.upR hg (by decide)
    | exact Foot.upV hg (by decide) | (dsimp -zeta only) | refine Does.ite ?_ ?_

def Foot.loopArm : Foot := ⟨0, 0xC000000000000000000000000, 0⟩

theorem Does.loopArm {G : Foot} {z s : State} (h : Does G z s) (hg : Foot.loopArm.leB G = true) (l : Nat) : Does G z (State.loopArm s l) := by
  unfold State.loopArm
  with_reducible repeat' first
    | assumption
    | (extract_lets +onlyGivenNames a; first | (refine (fun (k : Does G z a) => ?_) ?_; rotate_left; unfold a; clear a; rotate_left; clear_value a; revert a; intros) | (clear_value a; revert a; intros))
    | refine Does.setV ?_ ?_ _ _ _ | exact Foot.upV hg (by decide) | (dsimp -zeta only) | refine Does.ite ?_ ?_

def Foot.loopsArm : Foot := ⟨0, 0xC000000000000000000000000, 0⟩

theorem Does.loopsArm {G : Foot} {z s : State} (h : Does G z s) (hg : Foot.loopsArm.leB G = true) : Does G z (State.loopsArm s) := by
  unfold State.loopsArm
  with_reducible repeat' first
    | assumption | (refine Does.each ?_ _ _ fun _ _ _ _ => ?_) | refine Does.loopArm ?_ (Foot.up hg (by decide)) _

def Foot.loopFrame : Foot := ⟨0x7000000000000000000000000000000000000000000000000, 0x7, 0x20⟩

theorem Does.loopFrame {G : Foot} {z s : State} (h : Does G z s) (hg : Foot.loopFrame.leB G = true) (l : Nat) : Does G z (State.loopFrame s l) := by
  unfold State.loopFrame
  with_reducible repeat' first
    | assumption | refine Does.frame ?_ (Foot.up hg (by decide)) _ _ _ _ _ _ | (dsimp -zeta only) | refine Does.ite ?_ ?_

def Foot.loopTick : Foot := ⟨0x7004012007703F000000000000FEC10130200078000400060, 0x3F4000C0000000000000000007, 0xF0⟩

theorem Does.loopTick {G : Foot} {z s : State} (h : Does G z s) (hg : Foot.loopTick.leB G = true) (l : Nat) : Does G z (State.loopTick s l) := by
  unfold State.loopTick
  with_reducible repeat' first
    | assumption
    | (extract_lets +onlyGivenNames a; first | (refine (fun (k : Does G z a) => ?_) ?_; rotate_left; unfold a; clear a; rotate_left; clear_value a; revert a; intros) | (clear_value a; revert a; intros))
    | refine Does.wr ?_ ?_ _ _ _ | refine Does.flag ?_ ?_ _ _ _ | refine Does.setV ?_ ?_ _ _ _
    | refine Does.loopArm ?_ (Foot.up hg (by decide)) _ | refine Does.closedTick ?_ (Foot.up hg (by decide)) _ _
    | refine Does.openTick ?_ (Foot.up hg (by decide)) _ _ | refine Does.incWrap ?_ ?_ _ _ _
    | refine Does.loopFrame ?_ (Foot.up hg (by decide)) _ | refine Does.evFrom ?_ (Foot.up hg (by decide)) _ _ _ _ _
    | refine Does.incSat ?_ ?_ _ _ _ | exact Foot.upR hg (by decide) | exact Foot.upV hg (by decide) | (dsimp -zeta only)
    | refine Does.ite ?_ ?_

def Foot.preload : Foot := ⟨0x7004010000002000000000000062400130200008000400000, 0x7, 0x30⟩

theorem Does.preload {G : Foot} {z s : State} (h : Does G z s) (hg : Foot.preload.leB G = true) (l : Nat) : Does G z (State.preload s l) := by
  unfold State.preload
  with_reducible repeat' first
    | assumption
    | (extract_lets +onlyGivenNames a; first | (refine (fun (k : Does G z a) => ?_) ?_; rotate_left; unfold a; clear a; rotate_left; clear_value a; revert a; intros) | (clear_value a; revert a; intros))
    | refine Does.wr ?_ ?_ _ _ _ | refine Does.loopSat ?_ (Foot.up hg (by decide)) _ _ _ _ | refine Does.wrI ?_ ?_ _ _ _
    | exact Foot.upR hg (by decide)

def Foot.loopClose : Foot := ⟨0x7004010000002000000000000062404130200008000400000, 0x7, 0x30⟩

theorem Does.loopClose {G : Foot} {z s : State} (h : Does G z s) (hg : Foot.loopClose.leB G = true) (l : Nat) : Does G z (State.loopClose s l) := by
  unfold State.loopClose
  with_reducible repeat' first
    | assumption | refine Does.wr ?_ ?_ _ _ _ | refine Does.preload ?_ (Foot.up hg (by decide)) _
    | exact Foot.upR hg (by decide) | (dsimp -zeta only) | refine Does.ite ?_ ?_

def Foot.loopOpen : Foot := ⟨0x2004000000000000000000, 0, 0⟩

theorem Does.loopOpen {G : Foot} {z s : State} (h : Does G z s) (hg : Foot.loopOpen.leB G = true) (l : Nat) : Does G z (State.loopOpen s l) := by
  unfold State.loopOpen
  with_reducible repeat' first
    | assumption | refine Does.wr ?_ ?_ _ _ _ | exact Foot.upR hg (by decide)

def Foot.loopUnhold : Foot := ⟨0x7004010000002000000000000062404130200008000400000, 0x7, 0x30⟩

theorem Does.loopUnhold {G : Foot} {z s : State} (h : Does G z s) (hg : Foot.loopUnhold.leB G = true) (l : Nat) : Does G z (State.loopUnhold s l) := by
  unfold State.loopUnhold
  with_reducible repeat' first
    | assumption
    | (extract_lets +onlyGivenNames a; first | (refine (fun (k : Does G z a) => ?_) ?_; rotate_left; unfold a; clear a; rotate_left; clear_value a; revert a; intros) | (clear_value a; revert a; intros))
    | refine Does.wr ?_ ?_ _ _ _ | refine Does.preload ?_ (Foot.up hg (by decide)) _ | exact Foot.upR hg (by decide)
    | (dsimp -zeta only) | refine Does.ite ?_ ?_

def Foot.loopsRun : Foot := ⟨0x7004010000002000000000000062404130200008000400000, 0x7, 0x30⟩

theorem Does.loopsRun {G : Foot} {z s : State} (h : Does G z s) (hg : Foot.loopsRun.leB G = true) : Does G z (State.loopsRun s) := by
  unfold State.loopsRun
  with_reducible repeat' first
    | assumption | (refine Does.each ?_ _ _ fun _ _ _ _ => ?_) | refine Does.loopClose ?_ (Foot.up hg (by decide)) _

def Foot.loopsLeave : Foot := ⟨0x2004000000000000000000, 0, 0⟩

theorem Does.loopsLeave {G : Foot} {z s : State} (h : Does G z s) (hg : Foot.loopsLeave.leB G = true) (toSleep : Bool) : Does G z (State.loopsLeave s toSleep) := by
  unfold State.loopsLeave
  with_reducible repeat' first
    | assumption | (refine Does.each ?_ _ _ fun _ _ _ _ => ?_) | refine Does.loopOpen ?_ (Foot.up hg (by decide)) _
    | (dsimp -zeta only) | refine Does.ite ?_ ?_

def Foot.loopsHostBack : Foot := ⟨0x7004010000002000000000000062404130200008000400000, 0xC000000000000000000000007, 0x30⟩

theorem Does.loopsHostBack {G : Foot} {z s : State} (h : Does G z s) (hg : Foot.loopsHostBack.leB G = true) (d : Nat) : Does G z (State.loopsHostBack s d) := by
  unfold State.loopsHostBack
  with_reducible repeat' first
    | assumption
    | (extract_lets +onlyGivenNames a; first | (refine (fun (k : Does G z a) => ?_) ?_; rotate_left; unfold a; clear a; rotate_left; clear_value a; revert a; intros) | (clear_value a; revert a; intros))
    | (refine Does.each ?_ _ _ fun _ _ _ _ => ?_) | refine Does.loopArm ?_ (Foot.up hg (by decide)) _
    | refine Does.loopClose ?_ (Foot.up hg (by decide)) _ | (dsimp -zeta only) | refine Does.ite ?_ ?_

def Foot.loopCmd : Foot := ⟨0x7004010000002000000000000062404130200008000400000, 0x7, 0x30⟩

theorem Does.loopCmd {G : Foot} {z s : State} (h : Does G z s) (hg : Foot.loopCmd.leB G = true) (l : Nat) (cmd : Nat) : Does G z (State.loopCmd s l cmd).2 := by
  unfold State.loopCmd
  with_reducible repeat' first
    | assumption | refine Does.loopOpen ?_ (Foot.up hg (by decide)) _ | refine Does.loopClose ?_ (Foot.up hg (by decide)) _
    | (dsimp -zeta only) | refine Does.ite ?_ ?_ | refine Does.ite_snd ?_ ?_ | refine Foot.pick ?_ ?_ | split


end Sys2Proof.Machine
end

