-- ==== Sys2Proof/Laws/FootB.lean ====
section
/-!
SUPPORT. Does, with its footprint, for the operations of LinkBase, Lease, Latch, Starter, Island, Rail, Guard, Droop, Shape.
-/
set_option linter.tactic.unusedName false
set_option linter.unusedVariables false
set_option linter.unusedTactic false
set_option linter.unreachableTactic false
namespace Sys2Proof.Machine

def Foot.frameOut : Foot := ⟨0x407000000000000000000000000000000000000000000000000, 0x4001000000000000000000000000000000000000000007, 0x20⟩

theorem Does.frameOut {G : Foot} {z s : State} (h : Does G z s) (hg : Foot.frameOut.leB G = true) (n : Nat) (typ : Nat) (body : Nat) : Does G z (State.frameOut s n typ body) := by
  unfold State.frameOut
  with_reducible repeat' first
    | assumption | refine Does.setV ?_ ?_ _ _ _ | refine Does.emit ?_ _
    | refine Does.frame ?_ (Foot.up hg (by decide)) _ _ _ _ _ _ | refine Does.incWrap ?_ ?_ _ _ _
    | exact Foot.upR hg (by decide) | exact Foot.upV hg (by decide) | (dsimp -zeta only) | refine Does.ite ?_ ?_

def Foot.leaseSet : Foot := ⟨0x1087004010007703F00000000000006000130200078000400060, 0x60014000C0000000000000000007, 0xB0⟩

theorem Does.leaseSet {G : Foot} {z s : State} (h : Does G z s) (hg : Foot.leaseSet.leB G = true) (n : Nat) (amt : Nat) (lender : Bool) : Does G z (State.leaseSet s n amt lender) := by
  unfold State.leaseSet
  with_reducible repeat' first
    | assumption
    | (extract_lets +onlyGivenNames a; first | (refine (fun (k : Does G z a) => ?_) ?_; rotate_left; unfold a; clear a; rotate_left; clear_value a; revert a; intros) | (clear_value a; revert a; intros))
    | refine Does.wr ?_ ?_ _ _ _ | (refine Does.when ?_ _ _ fun _ _ => ?_) | refine Does.addV ?_ ?_ _ _ _
    | refine Does.wrSat ?_ ?_ _ _ _ | refine Does.leaseAdjust ?_ (Foot.up hg (by decide)) | exact Foot.upR hg (by decide)
    | exact Foot.upV hg (by decide) | (dsimp -zeta only) | refine Does.ite ?_ ?_

def Foot.leaseEnd : Foot := ⟨0x1087004010007703F00000000000006000130200078000400060, 0x1000000000000000000060014000C0000000000000000007, 0xB0⟩

theorem Does.leaseEnd {G : Foot} {z s : State} (h : Does G z s) (hg : Foot.leaseEnd.leB G = true) (n : Nat) (lost : Bool) : Does G z (State.leaseEnd s n lost) := by
  unfold State.leaseEnd
  with_reducible repeat' first
    | assumption
    | (extract_lets +onlyGivenNames a; first | (refine (fun (k : Does G z a) => ?_) ?_; rotate_left; unfold a; clear a; rotate_left; clear_value a; revert a; intros) | (clear_value a; revert a; intros))
    | refine Does.wr ?_ ?_ _ _ _ | refine Does.setV ?_ ?_ _ _ _ | (refine Does.when ?_ _ _ fun _ _ => ?_)
    | refine Does.leaseSet ?_ (Foot.up hg (by decide)) _ _ _ | refine Does.event ?_ (Foot.up hg (by decide)) _ _
    | exact Foot.upR hg (by decide) | exact Foot.upV hg (by decide)

def Foot.leaseTEnd : Foot := ⟨0x2000000000000000000000000000000000000000000000000000, 0, 0⟩

theorem Does.leaseTEnd {G : Foot} {z s : State} (h : Does G z s) (hg : Foot.leaseTEnd.leB G = true) (n : Nat) (hub : Int) : Does G z (State.leaseTEnd s n hub) := by
  unfold State.leaseTEnd
  with_reducible repeat' first
    | assumption | refine Does.wrI ?_ ?_ _ _ _ | exact Foot.upR hg (by decide)

def Foot.leaseSeq : Foot := ⟨0x1000000000000000000000000000000000000000000000000000, 0x8000000000000000000000000000000000000000000000, 0⟩

theorem Does.leaseSeq {G : Foot} {z s : State} (h : Does G z s) (hg : Foot.leaseSeq.leB G = true) (n : Nat) : Does G z (State.leaseSeq s n).2 := by
  unfold State.leaseSeq
  with_reducible repeat' first
    | assumption
    | (extract_lets +onlyGivenNames a; first | (refine (fun (k : Does G z a) => ?_) ?_; rotate_left; unfold a; clear a; rotate_left; clear_value a; revert a; intros) | (clear_value a; revert a; intros))
    | refine Does.wr ?_ ?_ _ _ _ | refine Does.setV ?_ ?_ _ _ _ | exact Foot.upR hg (by decide) | exact Foot.upV hg (by decide)

def Foot.leaseRecallSend : Foot := ⟨0x3407000000000000000000000000000000000000000000000000, 0x70C001000000000000000000000000000000000000000007, 0x20⟩

theorem Does.leaseRecallSend {G : Foot} {z s : State} (h : Does G z s) (hg : Foot.leaseRecallSend.leB G = true) (n : Nat) (amt : Nat) : Does G z (State.leaseRecallSend s n amt) := by
  unfold State.leaseRecallSend
  with_reducible repeat' first
    | assumption
    | (extract_lets +onlyGivenNames a; first | (refine (fun (k : Does G z a) => ?_) ?_; rotate_left; unfold a; clear a; rotate_left; clear_value a; revert a; intros) | (clear_value a; revert a; intros))
    | refine Does.setV ?_ ?_ _ _ _ | refine Does.leaseSeq ?_ (Foot.up hg (by decide)) _
    | refine Does.leaseTEnd ?_ (Foot.up hg (by decide)) _ _ | refine Does.frameOut ?_ (Foot.up hg (by decide)) _ _ _
    | exact Foot.upV hg (by decide)

def Foot.leaseCheck : Foot := ⟨0x3407000000000000000000000000000000000000000000000000, 0x70C001000000000000000000000000000000000000000007, 0x20⟩

theorem Does.leaseCheck {G : Foot} {z s : State} (h : Does G z s) (hg : Foot.leaseCheck.leB G = true) : Does G z (State.leaseCheck s) := by
  unfold State.leaseCheck
  with_reducible repeat' first
    | assumption
    | (extract_lets +onlyGivenNames a; first | (refine (fun (k : Does G z a) => ?_) ?_; rotate_left; unfold a; clear a; rotate_left; clear_value a; revert a; intros) | (clear_value a; revert a; intros))
    | (refine Does.each ?_ _ _ fun _ _ _ _ => ?_) | refine Does.leaseRecallSend ?_ (Foot.up hg (by decide)) _ _
    | (dsimp -zeta only) | refine Does.ite ?_ ?_

def Foot.leasePortDown : Foot := ⟨0x3087004010007703F00000000000006000130200078000400060, 0x9000000000000000000060014000C0000000000000000007, 0xB0⟩

theorem Does.leasePortDown {G : Foot} {z s : State} (h : Does G z s) (hg : Foot.leasePortDown.leB G = true) (n : Nat) (failed : Bool) : Does G z (State.leasePortDown s n failed) := by
  unfold State.leasePortDown
  with_reducible repeat' first
    | assumption
    | (extract_lets +onlyGivenNames a; first | (refine (fun (k : Does G z a) => ?_) ?_; rotate_left; unfold a; clear a; rotate_left; clear_value a; revert a; intros) | (clear_value a; revert a; intros))
    | refine Does.setV ?_ ?_ _ _ _ | (refine Does.when ?_ _ _ fun _ _ => ?_)
    | refine Does.leaseTEnd ?_ (Foot.up hg (by decide)) _ _ | refine Does.leaseEnd ?_ (Foot.up hg (by decide)) _ _
    | exact Foot.upV hg (by decide) | (dsimp -zeta only) | refine Does.ite ?_ ?_

def Foot.leaseFail : Foot := ⟨0x1087004010007703F00000000000006000130200078000400060, 0x1000000000000000000060014000C0000000000000000007, 0xB0⟩

theorem Does.leaseFail {G : Foot} {z s : State} (h : Does G z s) (hg : Foot.leaseFail.leB G = true) : Does G z (State.leaseFail s) := by
  unfold State.leaseFail
  with_reducible repeat' first
    | assumption | (refine Does.when ?_ _ _ fun _ _ => ?_) | (refine Does.each ?_ _ _ fun _ _ _ _ => ?_)
    | refine Does.leaseEnd ?_ (Foot.up hg (by decide)) _ _

def Foot.lseqTake : Foot := ⟨0x1000000000000000000000000000000000000000000000000000, 0x10000000000000000000000000000000000000000000000, 0⟩

theorem Does.lseqTake {G : Foot} {z s : State} (h : Does G z s) (hg : Foot.lseqTake.leB G = true) (n : Nat) (q : Nat) : Does G z (State.lseqTake s n q) := by
  unfold State.lseqTake
  with_reducible repeat' first
    | assumption | refine Does.wr ?_ ?_ _ _ _ | refine Does.setV ?_ ?_ _ _ _ | exact Foot.upR hg (by decide)
    | exact Foot.upV hg (by decide)

def Foot.offerTake : Foot := ⟨0, 0x60000000000000000000000000000000000000000000000, 0⟩

theorem Does.offerTake {G : Foot} {z s : State} (h : Does G z s) (hg : Foot.offerTake.leB G = true) (n : Nat) (spare : Nat) (want : Nat) (feed : Nat) : Does G z (State.offerTake s n spare want feed) := by
  unfold State.offerTake
  with_reducible repeat' first
    | assumption
    | (extract_lets +onlyGivenNames a; first | (refine (fun (k : Does G z a) => ?_) ?_; rotate_left; unfold a; clear a; rotate_left; clear_value a; revert a; intros) | (clear_value a; revert a; intros))
    | refine Does.setV ?_ ?_ _ _ _ | exact Foot.upV hg (by decide) | (dsimp -zeta only) | refine Does.ite ?_ ?_

def Foot.grantTake : Foot := ⟨0x3887004010007703F00000000000006000130200078000400060, 0x9100000000000000000060014000C0000000000000000007, 0xB0⟩

theorem Does.grantTake {G : Foot} {z s : State} (h : Does G z s) (hg : Foot.grantTake.leB G = true) (n : Nat) (amt : Nat) (lseq : Nat) (texp : Int) : Does G z (State.grantTake s n amt lseq texp) := by
  unfold State.grantTake
  with_reducible repeat' first
    | assumption
    | (extract_lets +onlyGivenNames a; first | (refine (fun (k : Does G z a) => ?_) ?_; rotate_left; unfold a; clear a; rotate_left; clear_value a; revert a; intros) | (clear_value a; revert a; intros))
    | refine Does.setV ?_ ?_ _ _ _ | (refine Does.when ?_ _ _ fun _ _ => ?_)
    | refine Does.lseqTake ?_ (Foot.up hg (by decide)) _ _ | refine Does.incSat ?_ ?_ _ _ _
    | refine Does.leaseEnd ?_ (Foot.up hg (by decide)) _ _ | refine Does.leaseSet ?_ (Foot.up hg (by decide)) _ _ _
    | refine Does.wrI ?_ ?_ _ _ _ | exact Foot.upR hg (by decide) | exact Foot.upV hg (by decide) | (dsimp -zeta only)
    | refine Does.ite ?_ ?_

def Foot.recallTake : Foot := ⟨0x3000000000000000000000000000000000000000000000000000, 0x710000000000000000000000000000000000000000000000, 0⟩

theorem Does.recallTake {G : Foot} {z s : State} (h : Does G z s) (hg : Foot.recallTake.leB G = true) (n : Nat) (amt : Nat) (lseq : Nat) (teff : Int) : Does G z (State.recallTake s n amt lseq teff) := by
  unfold State.recallTake
  with_reducible repeat' first
    | assumption
    | (extract_lets +onlyGivenNames a; first | (refine (fun (k : Does G z a) => ?_) ?_; rotate_left; unfold a; clear a; rotate_left; clear_value a; revert a; intros) | (clear_value a; revert a; intros))
    | refine Does.setV ?_ ?_ _ _ _ | refine Does.lseqTake ?_ (Foot.up hg (by decide)) _ _ | refine Does.wrI ?_ ?_ _ _ _
    | exact Foot.upR hg (by decide) | exact Foot.upV hg (by decide) | (dsimp -zeta only) | refine Does.ite ?_ ?_

def Foot.loopOp : Foot := ⟨0x7004010000002000000000000062404130200008000400000, 0x7, 0x30⟩

theorem Does.loopOp {G : Foot} {z s : State} (h : Does G z s) (hg : Foot.loopOp.leB G = true) (l : Nat) (cmd : Nat) : Does G z (State.loopOp s l cmd).2 := by
  unfold State.loopOp
  with_reducible repeat' first
    | assumption | refine Does.loopCmd ?_ (Foot.up hg (by decide)) _ _ | (dsimp -zeta only) | refine Does.ite ?_ ?_
    | refine Does.ite_snd ?_ ?_

def Foot.loopCtrl : Foot := ⟨0x7004010000002000000000000062404130200009800400000, 0x7, 0x70⟩

theorem Does.loopCtrl {G : Foot} {z s : State} (h : Does G z s) (hg : Foot.loopCtrl.leB G = true) (p : Port) (l : Nat) (cmd : Nat) : Does G z (State.loopCtrl s p l cmd) := by
  unfold State.loopCtrl
  with_reducible repeat' first
    | assumption
    | (extract_lets +onlyGivenNames a; first | (refine (fun (k : Does G z a) => ?_) ?_; rotate_left; unfold a; clear a; rotate_left; clear_value a; revert a; intros) | ((first | (have b : Prop := a; clear b) | (have b : List Fld := a; clear b) | (have b : SyncSt := a; clear b) | (have b : State → State := a; clear b) | (have b : Nat → Status → State := a; clear b) | (have b : Bank := a; clear b) | (have b : ImgSt := a; clear b) | (have b : FacSt := a; clear b) | (have b : MirSt := a; clear b) | (have b : Status × State → Option Status × State := a; clear b) | (have b : Status → Word → State → State := a; clear b) | (have b : State → Nat → Nat → State := a; clear b)); unfold a; clear a) | (clear_value a; revert a; intros))
    | refine Does.loopOp ?_ (Foot.up hg (by decide)) _ _
    | refine Does.command ?_ (Foot.up hg (by decide)) _ _ _ (fun _ _ => ?_) _ _
    | refine Does.hubCmd ?_ (Foot.up hg (by decide)) _ _ _ _ _ | refine Does.answer ?_ (Foot.up hg (by decide)) _ _ _ _ _
    | (dsimp -zeta only) | refine Does.ite ?_ ?_

def Foot.latchPoint : Foot := ⟨0x90000002000000000000000000000000000000400000, 0x4000000000000000000000000000000000000000000000000000000000000000, 0x2040⟩

theorem Does.latchPoint {G : Foot} {z s : State} (h : Does G z s) (hg : Foot.latchPoint.leB G = true) (c : Nat) : Does G z (State.latchPoint s c).2 := by
  unfold State.latchPoint
  with_reducible repeat' first
    | assumption
    | (extract_lets +onlyGivenNames a; first | (refine (fun (k : Does G z a) => ?_) ?_; rotate_left; unfold a; clear a; rotate_left; clear_value a; revert a; intros) | (clear_value a; revert a; intros))
    | refine Does.setV ?_ ?_ _ _ _ | (refine Does.each ?_ _ _ fun _ _ _ _ => ?_)
    | refine Does.hubWrite ?_ (Foot.up hg (by decide)) _ _ _ _ | exact Foot.upV hg (by decide)
    | exact Foot.upM hg ‹_ ∈ _› (by decide) | (dsimp -zeta only) | split | refine Does.snd ‹_ = (_, _)› ?_
    | (refine Does.mk' ?_ rfl rfl rfl rfl rfl rfl rfl rfl rfl rfl ?_; rotate_left; intro p hn; cases p <;> first | with_unfolding_all rfl | exact Foot.noP hg (by decide) hn)

def Foot.latchOp : Foot := ⟨0x90000002000000000000000000000000000000400000, 0x4000000000000000000000000000000000000000000000000000000000000000, 0x2240⟩

theorem Does.latchOp {G : Foot} {z s : State} (h : Does G z s) (hg : Foot.latchOp.leB G = true) (c : Nat) (op : Nat) (k : Nat) (addr : Nat) : Does G z (State.latchOp s c op k addr).2 := by
  unfold State.latchOp
  with_reducible repeat' first
    | assumption
    | (extract_lets +onlyGivenNames a; first | (refine (fun (k : Does G z a) => ?_) ?_; rotate_left; unfold a; clear a; rotate_left; clear_value a; revert a; intros) | (clear_value a; revert a; intros))
    | refine Does.start ?_ _ | refine Does.latchPoint ?_ (Foot.up hg (by decide)) _ | (dsimp -zeta only)
    | refine Does.ite ?_ ?_ | refine Does.ite_snd ?_ ?_ | refine Foot.pick ?_ ?_ | split | refine Does.snd ‹_ = (_, _)› ?_
    | (refine Does.mk' ?_ rfl rfl rfl rfl rfl rfl rfl rfl rfl rfl ?_; rotate_left; intro p hn; cases p <;> first | with_unfolding_all rfl | exact Foot.noP hg (by decide) hn)

def Foot.latchAbort : Foot := ⟨0x90000002000000000000000000000000000000400000, 0x4000000000000000000000000000000000000000000000000000000000000000, 0x2040⟩

theorem Does.latchAbort {G : Foot} {z s : State} (h : Does G z s) (hg : Foot.latchAbort.leB G = true) (c : Nat) : Does G z (State.latchAbort s c) := by
  unfold State.latchAbort
  with_reducible repeat' first
    | assumption
    | (extract_lets +onlyGivenNames a; first | (refine (fun (k : Does G z a) => ?_) ?_; rotate_left; unfold a; clear a; rotate_left; clear_value a; revert a; intros) | (clear_value a; revert a; intros))
    | refine Does.latchPoint ?_ (Foot.up hg (by decide)) _ | (dsimp -zeta only) | refine Does.ite ?_ ?_
    | refine Does.ite_snd ?_ ?_ | refine Foot.pick ?_ ?_ | split | refine Does.snd ‹_ = (_, _)› ?_
    | (refine Does.mk' ?_ rfl rfl rfl rfl rfl rfl rfl rfl rfl rfl ?_; rotate_left; intro p hn; cases p <;> first | with_unfolding_all rfl | exact Foot.noP hg (by decide) hn)

def Foot.latchMark : Foot := ⟨0, 0, 0x2200⟩

theorem Does.latchMark {G : Foot} {z s : State} (h : Does G z s) (hg : Foot.latchMark.leB G = true) (c : Nat) (τ : Nat) (phase : Nat) : Does G z (State.latchMark s c τ phase) := by
  unfold State.latchMark
  with_reducible repeat' first
    | assumption
    | (extract_lets +onlyGivenNames a; first | (refine (fun (k : Does G z a) => ?_) ?_; rotate_left; unfold a; clear a; rotate_left; clear_value a; revert a; intros) | (clear_value a; revert a; intros))
    | refine Does.start ?_ _ | (dsimp -zeta only) | refine Does.ite ?_ ?_ | refine Does.ite_snd ?_ ?_ | refine Foot.pick ?_ ?_
    | split | refine Does.snd ‹_ = (_, _)› ?_
    | (refine Does.mk' ?_ rfl rfl rfl rfl rfl rfl rfl rfl rfl rfl ?_; rotate_left; intro p hn; cases p <;> first | with_unfolding_all rfl | exact Foot.noP hg (by decide) hn)

def Foot.latchRecord : Foot := ⟨0x1200007544000000000000000000000000000130200008000000000, 0x7, 0x130⟩

theorem Does.latchRecord {G : Foot} {z s : State} (h : Does G z s) (hg : Foot.latchRecord.leB G = true) (x : LatchSlot) (e : LatchPt) : Does G z (State.latchRecord s x e) := by
  unfold State.latchRecord
  with_reducible repeat' first
    | assumption
    | (extract_lets +onlyGivenNames a; first | (refine (fun (k : Does G z a) => ?_) ?_; rotate_left; unfold a; clear a; rotate_left; clear_value a; revert a; intros) | (clear_value a; revert a; intros))
    | refine Does.wr ?_ ?_ _ _ _ | refine Does.start ?_ _ | (refine Does.each ?_ _ _ fun _ _ _ _ => ?_)
    | refine Does.recordAt ?_ (Foot.up hg (by decide)) _ _ _ _ _ | exact Foot.upR hg (by decide) | (dsimp -zeta only) | split

def Foot.latchPrune : Foot := ⟨0, 0, 0x2000⟩

theorem Does.latchPrune {G : Foot} {z s : State} (h : Does G z s) (hg : Foot.latchPrune.leB G = true) (c : Nat) : Does G z (State.latchPrune s c) := by
  unfold State.latchPrune
  with_reducible repeat' first
    | assumption
    | (extract_lets +onlyGivenNames a; first | (refine (fun (k : Does G z a) => ?_) ?_; rotate_left; unfold a; clear a; rotate_left; clear_value a; revert a; intros) | (clear_value a; revert a; intros))
    | refine Does.start ?_ _ | (dsimp -zeta only) | split | refine Does.snd ‹_ = (_, _)› ?_
    | (refine Does.mk' ?_ rfl rfl rfl rfl rfl rfl rfl rfl rfl rfl ?_; rotate_left; intro p hn; cases p <;> first | with_unfolding_all rfl | exact Foot.noP hg (by decide) hn)

def Foot.latchComplete : Foot := ⟨0x1200007544000000000000000000000000000130200008000000000, 0x7, 0x2130⟩

theorem Does.latchComplete {G : Foot} {z s : State} (h : Does G z s) (hg : Foot.latchComplete.leB G = true) (n : Nat) : Does G z (State.latchComplete s n) := by
  unfold State.latchComplete
  with_reducible repeat' first
    | assumption
    | (extract_lets +onlyGivenNames a; first | (refine (fun (k : Does G z a) => ?_) ?_; rotate_left; unfold a; clear a; rotate_left; clear_value a; revert a; intros) | (clear_value a; revert a; intros))
    | (refine Does.when ?_ _ _ fun _ _ => ?_) | (refine Does.each ?_ _ _ fun _ _ _ _ => ?_)
    | refine Does.event ?_ (Foot.up hg (by decide)) _ _ | refine Does.latchRecord ?_ (Foot.up hg (by decide)) _ _
    | refine Does.latchPrune ?_ (Foot.up hg (by decide)) _ | (dsimp -zeta only) | refine Does.ite ?_ ?_
    | refine Does.ite_snd ?_ ?_ | refine Foot.pick ?_ ?_ | split | refine Does.snd ‹_ = (_, _)› ?_
    | (refine Does.mk' ?_ rfl rfl rfl rfl rfl rfl rfl rfl rfl rfl ?_; rotate_left; intro p hn; cases p <;> first | with_unfolding_all rfl | exact Foot.noP hg (by decide) hn)

def Foot.footShow : Foot := ⟨0x800, 0, 0⟩

theorem Does.footShow {G : Foot} {z s : State} (h : Does G z s) (hg : Foot.footShow.leB G = true) : Does G z (State.footShow s) := by
  unfold State.footShow
  with_reducible repeat' first
    | assumption | refine Does.wr ?_ ?_ _ _ _ | (refine Does.each ?_ _ _ fun _ _ _ _ => ?_) | exact Foot.upR hg (by decide)

def Foot.smpSpoil : Foot := ⟨0, 0x10000000000000000000000000000, 0⟩

theorem Does.smpSpoil {G : Foot} {z s : State} (h : Does G z s) (hg : Foot.smpSpoil.leB G = true) (c : Nat) : Does G z (State.smpSpoil s c) := by
  unfold State.smpSpoil
  with_reducible repeat' first
    | assumption | refine Does.setV ?_ ?_ _ _ _ | exact Foot.upV hg (by decide)

def Foot.gateTake : Foot := ⟨0x2000000000000000000000000000000000000000, 0, 0⟩

theorem Does.gateTake {G : Foot} {z s : State} (h : Does G z s) (hg : Foot.gateTake.leB G = true) (l : Nat) (p : Nat) : Does G z (State.gateTake s l p) := by
  unfold State.gateTake
  with_reducible repeat' first
    | assumption | refine Does.setReg ?_ ?_ _ _ _ | exact Foot.upR hg (by decide) | (dsimp -zeta only) | refine Does.ite ?_ ?_

def Foot.footTake : Foot := ⟨0x2000000000000000000000000000000000000800, 0x400000000000000000000000000000000000000000000000000000000018000000000000000000000000000, 0⟩

theorem Does.footTake {G : Foot} {z s : State} (h : Does G z s) (hg : Foot.footTake.leB G = true) (l : Nat) : Does G z (State.footTake s l) := by
  unfold State.footTake
  with_reducible repeat' first
    | assumption
    | (extract_lets +onlyGivenNames a; first | (refine (fun (k : Does G z a) => ?_) ?_; rotate_left; unfold a; clear a; rotate_left; clear_value a; revert a; intros) | (clear_value a; revert a; intros))
    | refine Does.setV ?_ ?_ _ _ _ | (refine Does.when ?_ _ _ fun _ _ => ?_) | (refine Does.each ?_ _ _ fun _ _ _ _ => ?_)
    | refine Does.gateTake ?_ (Foot.up hg (by decide)) _ _ | refine Does.smpSpoil ?_ (Foot.up hg (by decide)) _
    | refine Does.footShow ?_ (Foot.up hg (by decide)) | exact Foot.upV hg (by decide)

def Foot.needRecompute : Foot := ⟨0x3407004010000003E00000000000000000130200078000400040, 0x70C001000000000006000000000000000000000000000007, 0x400B0⟩

theorem Does.needRecompute {G : Foot} {z s : State} (h : Does G z s) (hg : Foot.needRecompute.leB G = true) (ls : List Nat) (mark : Bool) : Does G z (State.needRecompute s ls mark) := by
  unfold State.needRecompute
  with_reducible repeat' first
    | assumption
    | (extract_lets +onlyGivenNames a; first | (refine (fun (k : Does G z a) => ?_) ?_; rotate_left; unfold a; clear a; rotate_left; clear_value a; revert a; intros) | (clear_value a; revert a; intros))
    | refine Does.setV ?_ ?_ _ _ _ | (refine Does.each ?_ _ _ fun _ _ _ _ => ?_)
    | refine Does.needSend ?_ (Foot.up hg (by decide)) _ _ _ | refine Does.leaseCheck ?_ (Foot.up hg (by decide))
    | exact Foot.upV hg (by decide) | exact Foot.upM hg ‹_ ∈ _› (by decide) | (dsimp -zeta only) | refine Does.ite ?_ ?_
    | refine Does.ite_snd ?_ ?_ | refine Foot.pick ?_ ?_ | split | refine Does.snd ‹_ = (_, _)› ?_
    | (refine Does.mk' ?_ rfl rfl rfl rfl rfl rfl rfl rfl rfl rfl ?_; rotate_left; intro p hn; cases p <;> first | with_unfolding_all rfl | exact Foot.noP hg (by decide) hn)

def Foot.autoPart : Foot := ⟨0x10001002000000000000000000000000000000400000, 0x8000000000000000000000000000000, 0x40⟩

theorem Does.autoPart {G : Foot} {z s : State} (h : Does G z s) (hg : Foot.autoPart.leB G = true) (c : Nat) : Does G z (State.autoPart s c) := by
  unfold State.autoPart
  with_reducible repeat' first
    | assumption
    | (extract_lets +onlyGivenNames a; first | (refine (fun (k : Does G z a) => ?_) ?_; rotate_left; unfold a; clear a; rotate_left; clear_value a; revert a; intros) | (clear_value a; revert a; intros))
    | refine Does.setV ?_ ?_ _ _ _ | (refine Does.each ?_ _ _ fun _ _ _ _ => ?_)
    | refine Does.hubWrite ?_ (Foot.up hg (by decide)) _ _ _ _ | exact Foot.upV hg (by decide)
    | exact Foot.upM hg ‹_ ∈ _› (by decide) | (dsimp -zeta only) | refine Does.ite ?_ ?_

def Foot.predShow : Foot := ⟨0x800, 0, 0⟩

theorem Does.predShow {G : Foot} {z s : State} (h : Does G z s) (hg : Foot.predShow.leB G = true) (c : Nat) : Does G z (State.predShow s c) := by
  unfold State.predShow
  with_reducible repeat' first
    | assumption
    | (extract_lets +onlyGivenNames a; first | (refine (fun (k : Does G z a) => ?_) ?_; rotate_left; unfold a; clear a; rotate_left; clear_value a; revert a; intros) | (clear_value a; revert a; intros))
    | refine Does.wr ?_ ?_ _ _ _ | exact Foot.upR hg (by decide)

def Foot.strChanged : Foot := ⟨0x3407004010001003E00000000000000000130200078000400840, 0x70C00100000000000E000000000000000000000000000007, 0x400F0⟩

theorem Does.strChanged {G : Foot} {z s : State} (h : Does G z s) (hg : Foot.strChanged.leB G = true) (c : Nat) (mark : Bool) : Does G z (State.strChanged s c mark) := by
  unfold State.strChanged
  with_reducible repeat' first
    | assumption | refine Does.predShow ?_ (Foot.up hg (by decide)) _
    | refine Does.needRecompute ?_ (Foot.up hg (by decide)) _ _ | refine Does.autoPart ?_ (Foot.up hg (by decide)) _

def Foot.strItems : Foot := ⟨0x3407004010001003E00000000000000000130200078000400840, 0x70C00100000000000E000000000000000000000000000007, 0x400F0⟩

theorem Does.strItems {G : Foot} {z s : State} (h : Does G z s) (hg : Foot.strItems.leB G = true) : Does G z (State.strItems s) := by
  unfold State.strItems
  with_reducible repeat' first
    | assumption
    | (extract_lets +onlyGivenNames a; first | (refine (fun (k : Does G z a) => ?_) ?_; rotate_left; unfold a; clear a; rotate_left; clear_value a; revert a; intros) | (clear_value a; revert a; intros))
    | (refine Does.each ?_ _ _ fun _ _ _ _ => ?_) | refine Does.predShow ?_ (Foot.up hg (by decide)) _
    | refine Does.needRecompute ?_ (Foot.up hg (by decide)) _ _ | refine Does.autoPart ?_ (Foot.up hg (by decide)) _

def Foot.activeShow : Foot := ⟨0x2000000000000000000000000, 0, 0⟩

theorem Does.activeShow {G : Foot} {z s : State} (h : Does G z s) (hg : Foot.activeShow.leB G = true) : Does G z (State.activeShow s) := by
  unfold State.activeShow
  with_reducible repeat' first
    | assumption
    | (extract_lets +onlyGivenNames a; first | (refine (fun (k : Does G z a) => ?_) ?_; rotate_left; unfold a; clear a; rotate_left; clear_value a; revert a; intros) | (clear_value a; revert a; intros))
    | refine Does.wr ?_ ?_ _ _ _ | (refine Does.when ?_ _ _ fun _ _ => ?_) | (refine Does.each ?_ _ _ fun _ _ _ _ => ?_)
    | exact Foot.upR hg (by decide)

def Foot.trainNext : Foot := ⟨0x400000000000000000000000, 0, 0⟩

theorem Does.trainNext {G : Foot} {z s : State} (h : Does G z s) (hg : Foot.trainNext.leB G = true) (c : Nat) (a : Nat) (b : Nat) : Does G z (State.trainNext s c a b) := by
  unfold State.trainNext
  with_reducible repeat' first
    | assumption
    | (extract_lets +onlyGivenNames a; first | (refine (fun (k : Does G z a) => ?_) ?_; rotate_left; unfold a; clear a; rotate_left; clear_value a; revert a; intros) | (clear_value a; revert a; intros))
    | refine Does.wr ?_ ?_ _ _ _ | exact Foot.upR hg (by decide) | (dsimp -zeta only) | refine Does.ite ?_ ?_

def Foot.closeVisit : Foot := ⟨0x2C00000000000000000000000, 0x1B00000000000000000000000000000, 0⟩

theorem Does.closeVisit {G : Foot} {z s : State} (h : Does G z s) (hg : Foot.closeVisit.leB G = true) (c : Nat) (τ : Nat) (b : Option Nat) : Does G z (State.closeVisit s c τ b) := by
  unfold State.closeVisit
  with_reducible repeat' first
    | assumption
    | (extract_lets +onlyGivenNames a; first | (refine (fun (k : Does G z a) => ?_) ?_; rotate_left; unfold a; clear a; rotate_left; clear_value a; revert a; intros) | (clear_value a; revert a; intros))
    | refine Does.wr ?_ ?_ _ _ _ | refine Does.setV ?_ ?_ _ _ _ | (refine Does.when ?_ _ _ fun _ _ => ?_)
    | refine Does.trainNext ?_ (Foot.up hg (by decide)) _ _ _ | refine Does.wrSat ?_ ?_ _ _ _ | refine Does.incSat ?_ ?_ _ _ _
    | exact Foot.upR hg (by decide) | exact Foot.upV hg (by decide) | (dsimp -zeta only) | refine Does.ite ?_ ?_
    | refine Does.ite_snd ?_ ?_ | refine Foot.pick ?_ ?_ | split

def Foot.markApply : Foot := ⟨0x3407004010001003E00000000003C00000130200078000400C40, 0x70C00100000000000FF00000000000000000000000000007, 0x422F0⟩

theorem Does.markApply {G : Foot} {z s : State} (h : Does G z s) (hg : Foot.markApply.leB G = true) (c : Nat) (enter : Option Nat) (τ : Nat) : Does G z (State.markApply s c enter τ) := by
  unfold State.markApply
  with_reducible repeat' first
    | assumption
    | (extract_lets +onlyGivenNames a; first | (refine (fun (k : Does G z a) => ?_) ?_; rotate_left; unfold a; clear a; rotate_left; clear_value a; revert a; intros) | (clear_value a; revert a; intros))
    | refine Does.wr ?_ ?_ _ _ _ | refine Does.setV ?_ ?_ _ _ _ | (refine Does.when ?_ _ _ fun _ _ => ?_)
    | refine Does.incWrap ?_ ?_ _ _ _ | refine Does.latchMark ?_ (Foot.up hg (by decide)) _ _ _
    | refine Does.closeVisit ?_ (Foot.up hg (by decide)) _ _ _ | refine Does.strChanged ?_ (Foot.up hg (by decide)) _ _
    | exact Foot.upR hg (by decide) | exact Foot.upV hg (by decide) | (dsimp -zeta only) | refine Does.ite ?_ ?_
    | refine Does.ite_snd ?_ ?_ | refine Foot.pick ?_ ?_ | split

def Foot.tagMark : Foot := ⟨0x3407004010001003E00000000003C00000130200078000400C40, 0x70C00100000000000FF00000000000000000000000000007, 0x422F0⟩

theorem Does.tagMark {G : Foot} {z s : State} (h : Does G z s) (hg : Foot.tagMark.leB G = true) (c : Nat) (enter : Option Nat) (τ : Nat) : Does G z (State.tagMark s c enter τ) := by
  unfold State.tagMark
  with_reducible repeat' first
    | assumption | refine Does.markApply ?_ (Foot.up hg (by decide)) _ _ _ | (dsimp -zeta only) | refine Does.ite ?_ ?_
    | refine Does.ite_snd ?_ ?_ | refine Foot.pick ?_ ?_ | split | refine Does.snd ‹_ = (_, _)› ?_
    | (refine Does.mk' ?_ rfl rfl rfl rfl rfl rfl rfl rfl rfl rfl ?_; rotate_left; intro p hn; cases p <;> first | with_unfolding_all rfl | exact Foot.noP hg (by decide) hn)

def Foot.portMark : Foot := ⟨0x3407004010001003E00000000003C00000130200079800400C40, 0x70C00100000000000FF00000000000000000000000000007, 0x422F0⟩

theorem Does.portMark {G : Foot} {z s : State} (h : Does G z s) (hg : Foot.portMark.leB G = true) (p : Port) (c : Nat) (enter : Option Nat) : Does G z (State.portMark s p c enter) := by
  unfold State.portMark
  with_reducible repeat' first
    | assumption | refine Does.deadAnswer ?_ (Foot.up hg (by decide)) _
    | refine Does.answer ?_ (Foot.up hg (by decide)) _ _ _ _ _ | refine Does.markApply ?_ (Foot.up hg (by decide)) _ _ _
    | (dsimp -zeta only) | refine Does.ite ?_ ?_ | refine Does.ite_snd ?_ ?_ | refine Foot.pick ?_ ?_ | split
    | refine Does.snd ‹_ = (_, _)› ?_
    | (refine Does.mk' ?_ rfl rfl rfl rfl rfl rfl rfl rfl rfl rfl ?_; rotate_left; intro p hn; cases p <;> first | with_unfolding_all rfl | exact Foot.noP hg (by decide) hn)

def Foot.entryClear : Foot := ⟨0x7F00000000000000000000000, 0x100000000000000000000000000000, 0⟩

theorem Does.entryClear {G : Foot} {z s : State} (h : Does G z s) (hg : Foot.entryClear.leB G = true) (c : Nat) (p : Nat) : Does G z (State.entryClear s c p) := by
  unfold State.entryClear
  with_reducible repeat' first
    | assumption
    | (extract_lets +onlyGivenNames a; first | (refine (fun (k : Does G z a) => ?_) ?_; rotate_left; unfold a; clear a; rotate_left; clear_value a; revert a; intros) | (clear_value a; revert a; intros))
    | refine Does.wr ?_ ?_ _ _ _ | refine Does.setV ?_ ?_ _ _ _ | refine Does.setReg ?_ ?_ _ _ _
    | (refine Does.when ?_ _ _ fun _ _ => ?_) | (refine Does.each ?_ _ _ fun _ _ _ _ => ?_) | exact Foot.upR hg (by decide)
    | exact Foot.upV hg (by decide) | exact Foot.upM hg ‹_ ∈ _› (by decide)
    | exact Foot.upMR (f := fun y => y) hg ‹_ ∈ _› (by decide)

def Foot.strWiped : Foot := ⟨0, 0x800000000000000000000000000000000000000000000000000000000000000000000000000000000000000, 0⟩

theorem Does.strWiped {G : Foot} {z s : State} (h : Does G z s) (hg : Foot.strWiped.leB G = true) (c : Nat) (p : Nat) : Does G z (State.strWiped s c p) := by
  unfold State.strWiped
  with_reducible repeat' first
    | assumption | refine Does.setV ?_ ?_ _ _ _ | exact Foot.upV hg (by decide)

def Foot.entryInv : Foot := ⟨0x3407004010001003E00000000007F00000130200078000400840, 0x80000000000000000000000000000000000000070C00100000000000E100000000000000000000000000007, 0x400F0⟩

theorem Does.entryInv {G : Foot} {z s : State} (h : Does G z s) (hg : Foot.entryInv.leB G = true) (c : Nat) (p : Nat) : Does G z (State.entryInv s c p) := by
  unfold State.entryInv
  with_reducible repeat' first
    | assumption | refine Does.entryClear ?_ (Foot.up hg (by decide)) _ _
    | refine Does.strWiped ?_ (Foot.up hg (by decide)) _ _ | refine Does.strChanged ?_ (Foot.up hg (by decide)) _ _

def Foot.slotClear : Foot := ⟨0x3407004010001003E00000000007F00000130200078000400840, 0x80000000000000000000000000000000000000070C00100000000000E100000000000000000000000000007, 0x400F0⟩

theorem Does.slotClear {G : Foot} {z s : State} (h : Does G z s) (hg : Foot.slotClear.leB G = true) (c : Nat) : Does G z (State.slotClear s c) := by
  unfold State.slotClear
  with_reducible repeat' first
    | assumption | (refine Does.each ?_ _ _ fun _ _ _ _ => ?_) | refine Does.entryClear ?_ (Foot.up hg (by decide)) _ _
    | refine Does.strWiped ?_ (Foot.up hg (by decide)) _ _ | refine Does.strChanged ?_ (Foot.up hg (by decide)) _ _

def Foot.strBegin : Foot := ⟨0x400, 0, 0⟩

theorem Does.strBegin {G : Foot} {z s : State} (h : Does G z s) (hg : Foot.strBegin.leB G = true) (c : Nat) : Does G z (State.strBegin s c) := by
  unfold State.strBegin
  with_reducible repeat' first
    | assumption | refine Does.wr ?_ ?_ _ _ _ | exact Foot.upR hg (by decide)

def Foot.strCmd : Foot := ⟨0x3407004010001003E00000000007F00000130200078000400C40, 0x80000000000000000000000000000000000000070C00100000000000E100000000000000000000000000007, 0x400F0⟩

theorem Does.strCmd {G : Foot} {z s : State} (h : Does G z s) (hg : Foot.strCmd.leB G = true) (cmd : Nat) (c : Nat) (p : Nat) : Does G z (State.strCmd s cmd c p).2 := by
  unfold State.strCmd
  with_reducible repeat' first
    | assumption | refine Does.strBegin ?_ (Foot.up hg (by decide)) _ | refine Does.slotClear ?_ (Foot.up hg (by decide)) _
    | refine Does.entryInv ?_ (Foot.up hg (by decide)) _ _ | (dsimp -zeta only) | refine Does.ite ?_ ?_
    | refine Does.ite_snd ?_ ?_ | refine Foot.pick ?_ ?_ | split

def Foot.strSwitch : Foot := ⟨0x3407004010001003E00000000007F00000130200078000400C40, 0x80000000000000000000000000000000000000070C00100000000000E100000000000000000000000000007, 0x400F0⟩

theorem Does.strSwitch {G : Foot} {z s : State} (h : Does G z s) (hg : Foot.strSwitch.leB G = true) (c : Nat) : Does G z (State.strSwitch s c) := by
  unfold State.strSwitch
  with_reducible repeat' first
    | assumption | (refine Does.when ?_ _ _ fun _ _ => ?_) | refine Does.strBegin ?_ (Foot.up hg (by decide)) _
    | refine Does.slotClear ?_ (Foot.up hg (by decide)) _

def Foot.heldMarks : Foot := ⟨0x3407004010001003E00000000003C00000130200079800400C40, 0x70C00100000000000FF00000000000000000000000000007, 0x422F0⟩

theorem Does.heldMarks {G : Foot} {z s : State} (h : Does G z s) (hg : Foot.heldMarks.leB G = true) (c : Nat) : Does G z (State.heldMarks s c) := by
  unfold State.heldMarks
  with_reducible repeat' first
    | assumption
    | (extract_lets +onlyGivenNames a; first | (refine (fun (k : Does G z a) => ?_) ?_; rotate_left; unfold a; clear a; rotate_left; clear_value a; revert a; intros) | (clear_value a; revert a; intros))
    | (refine Does.each ?_ _ _ fun _ _ _ _ => ?_) | refine Does.markApply ?_ (Foot.up hg (by decide)) _ _ _
    | refine Does.answer ?_ (Foot.up hg (by decide)) _ _ _ _ _ | (dsimp -zeta only) | refine Does.ite ?_ ?_
    | refine Does.ite_snd ?_ ?_ | refine Foot.pick ?_ ?_ | split | refine Does.snd ‹_ = (_, _)› ?_
    | (refine Does.mk' ?_ rfl rfl rfl rfl rfl rfl rfl rfl rfl rfl ?_; rotate_left; intro p hn; cases p <;> first | with_unfolding_all rfl | exact Foot.noP hg (by decide) hn)

def Foot.smpWatch : Foot := ⟨0, 0x10000000000000000000000000000, 0⟩

theorem Does.smpWatch {G : Foot} {z s : State} (h : Does G z s) (hg : Foot.smpWatch.leB G = true) (j : Nat) : Does G z (State.smpWatch s j) := by
  unfold State.smpWatch
  with_reducible repeat' first
    | assumption
    | (extract_lets +onlyGivenNames a; first | (refine (fun (k : Does G z a) => ?_) ?_; rotate_left; unfold a; clear a; rotate_left; clear_value a; revert a; intros) | (clear_value a; revert a; intros))
    | refine Does.setV ?_ ?_ _ _ _ | (refine Does.when ?_ _ _ fun _ _ => ?_) | (refine Does.each ?_ _ _ fun _ _ _ _ => ?_)
    | exact Foot.upV hg (by decide)

def Foot.smpMove : Foot := ⟨0, 0, 0⟩

theorem Does.smpMove {G : Foot} {z s : State} (h : Does G z s) (hg : Foot.smpMove.leB G = true) (f : Fld) (hf : G.hasR f.r = true) (x : Nat) (c : Nat) (p : Nat) : Does G z (State.smpMove s f x c p) := by
  unfold State.smpMove
  with_reducible repeat' first
    | assumption | refine Does.wrSat ?_ ?_ _ _ _

def Foot.smpLearn : Foot := ⟨0x2700000000000000000000000, 0, 0⟩

theorem Does.smpLearn {G : Foot} {z s : State} (h : Does G z s) (hg : Foot.smpLearn.leB G = true) (c : Nat) (p : Nat) (free : Bool) (pw : Nat) (rt : Nat) : Does G z (State.smpLearn s c p free pw rt) := by
  unfold State.smpLearn
  with_reducible repeat' first
    | assumption
    | (extract_lets +onlyGivenNames a; first | (refine (fun (k : Does G z a) => ?_) ?_; rotate_left; unfold a; clear a; rotate_left; clear_value a; revert a; intros) | (clear_value a; revert a; intros))
    | refine Does.wr ?_ ?_ _ _ _ | refine Does.smpMove ?_ (Foot.up hg (by decide)) _ ?_ _ _ _ | refine Does.wrSat ?_ ?_ _ _ _
    | refine Does.incSat ?_ ?_ _ _ _ | exact Foot.upR hg (by decide) | (dsimp -zeta only) | refine Does.ite ?_ ?_

def Foot.strSample : Foot := ⟨0x3407004010001003E00000000002700000130200078000400840, 0x100000000000000000000000000000000000000070C00100000000000F8F0000000000000000000000000007, 0x400F0⟩

theorem Does.strSample {G : Foot} {z s : State} (h : Does G z s) (hg : Foot.strSample.leB G = true) (k : Nat) (c : Nat) (cyc : Nat) : Does G z (State.strSample s k c cyc) := by
  unfold State.strSample
  with_reducible repeat' first
    | assumption
    | (extract_lets +onlyGivenNames a; first | (refine (fun (k : Does G z a) => ?_) ?_; rotate_left; unfold a; clear a; rotate_left; clear_value a; revert a; intros) | ((have b : Prop := a; clear b); unfold a; clear a) | (clear_value a; revert a; intros))
    | refine Does.dropV ?_ ?_ _ _ | refine Does.setV ?_ ?_ _ _ _ | refine Does.smpLearn ?_ (Foot.up hg (by decide)) _ _ _ _ _
    | refine Does.strChanged ?_ (Foot.up hg (by decide)) _ _ | exact Foot.upV hg (by decide) | (dsimp -zeta only)
    | refine Does.ite ?_ ?_ | refine Does.ite_snd ?_ ?_ | refine Foot.pick ?_ ?_ | split

def Foot.seedEntry : Foot := ⟨0x6F00000000000000000000800, 0x800000000000000000000000000000000000000000000000000000000100000000000000000000000000000, 0⟩

theorem Does.seedEntry {G : Foot} {z s : State} (h : Does G z s) (hg : Foot.seedEntry.leB G = true) (x : Nat) (v : List Byte) : Does G z (State.seedEntry s x v) := by
  unfold State.seedEntry
  with_reducible repeat' first
    | assumption
    | (extract_lets +onlyGivenNames a; first | (refine (fun (k : Does G z a) => ?_) ?_; rotate_left; unfold a; clear a; rotate_left; clear_value a; revert a; intros) | (clear_value a; revert a; intros))
    | refine Does.wr ?_ ?_ _ _ _ | refine Does.setV ?_ ?_ _ _ _ | refine Does.setReg ?_ ?_ _ _ _
    | (refine Does.when ?_ _ _ fun _ _ => ?_) | (refine Does.each ?_ _ _ fun _ _ _ _ => ?_)
    | refine Does.strWiped ?_ (Foot.up hg (by decide)) _ _ | refine Does.predShow ?_ (Foot.up hg (by decide)) _
    | exact Foot.upR hg (by decide) | exact Foot.upV hg (by decide) | exact Foot.upM hg ‹_ ∈ _› (by decide)
    | exact Foot.upMR (f := fun y => y) hg ‹_ ∈ _› (by decide) | exact Foot.upMR (f := Prod.fst) hg ‹_ ∈ _› (by decide)

def Foot.seedAll : Foot := ⟨0x6F00000000000000000000800, 0x800000000000000000000000000000000000000000000000000000000100000000000000000000000000000, 0⟩

theorem Does.seedAll {G : Foot} {z s : State} (h : Does G z s) (hg : Foot.seedAll.leB G = true) (l : List Item) : Does G z (State.seedAll s l) := by
  unfold State.seedAll
  with_reducible repeat' first
    | assumption
    | (extract_lets +onlyGivenNames a; first | (refine (fun (k : Does G z a) => ?_) ?_; rotate_left; unfold a; clear a; rotate_left; clear_value a; revert a; intros) | (clear_value a; revert a; intros))
    | (refine Does.each ?_ _ _ fun _ _ _ _ => ?_) | refine Does.seedEntry ?_ (Foot.up hg (by decide)) _ _ | (dsimp -zeta only)
    | refine Does.ite ?_ ?_

def Foot.strAccept : Foot := ⟨0x7F00000000000000000000800, 0x800000000000000000000000000000000000000000000000000000009910000000000000000000000000000, 0⟩

theorem Does.strAccept {G : Foot} {z s : State} (h : Does G z s) (hg : Foot.strAccept.leB G = true) : Does G z (State.strAccept s) := by
  unfold State.strAccept
  with_reducible repeat' first
    | assumption
    | (extract_lets +onlyGivenNames a; first | (refine (fun (k : Does G z a) => ?_) ?_; rotate_left; unfold a; clear a; rotate_left; clear_value a; revert a; intros) | (clear_value a; revert a; intros))
    | refine Does.wr ?_ ?_ _ _ _ | refine Does.dropV ?_ ?_ _ _ | refine Does.setV ?_ ?_ _ _ _
    | (refine Does.each ?_ _ _ fun _ _ _ _ => ?_) | refine Does.entryClear ?_ (Foot.up hg (by decide)) _ _
    | refine Does.strWiped ?_ (Foot.up hg (by decide)) _ _ | refine Does.smpSpoil ?_ (Foot.up hg (by decide)) _
    | refine Does.seedAll ?_ (Foot.up hg (by decide)) _ | exact Foot.upR hg (by decide) | exact Foot.upV hg (by decide)

def Foot.footShift : Foot := ⟨0x800, 0x10000000000000000000000000000, 0⟩

theorem Does.footShift {G : Foot} {z s : State} (h : Does G z s) (hg : Foot.footShift.leB G = true) (f : State → State) (hf : ∀ x0, Does G z x0 → Does G z (f x0)) : Does G z (State.footShift s f) := by
  unfold State.footShift
  with_reducible repeat' first
    | assumption
    | (extract_lets +onlyGivenNames a; first | (refine (fun (k : Does G z a) => ?_) ?_; rotate_left; unfold a; clear a; rotate_left; clear_value a; revert a; intros) | (clear_value a; revert a; intros))
    | (refine Does.when ?_ _ _ fun _ _ => ?_) | (refine Does.each ?_ _ _ fun _ _ _ _ => ?_)
    | refine Does.smpSpoil ?_ (Foot.up hg (by decide)) _ | refine Does.footShow ?_ (Foot.up hg (by decide)) | refine hf _ ?_

def Foot.upChanged : Foot := ⟨0x3407004010000003E00000000000000000130200078000400040, 0x70C001000000000006000000000000000000000000000007, 0x400B0⟩

theorem Does.upChanged {G : Foot} {z s : State} (h : Does G z s) (hg : Foot.upChanged.leB G = true) (d : Nat) : Does G z (State.upChanged s d) := by
  unfold State.upChanged
  with_reducible repeat' first
    | assumption | refine Does.splitAll ?_ (Foot.up hg (by decide)) _
    | refine Does.needRecompute ?_ (Foot.up hg (by decide)) _ _

def Foot.fenceStart : Foot := ⟨0x3407004010000003E00000000000000000130200078000400840, 0x4000000000000000000000000070C001000000000006010000000000000000000000000907, 0x400B0⟩

theorem Does.fenceStart {G : Foot} {z s : State} (h : Does G z s) (hg : Foot.fenceStart.leB G = true) (e : ChEnd) (scope : Nat) : Does G z (State.fenceStart s e scope).2 := by
  unfold State.fenceStart
  with_reducible repeat' first
    | assumption
    | (extract_lets +onlyGivenNames a; first | (refine (fun (k : Does G z a) => ?_) ?_; rotate_left; unfold a; clear a; rotate_left; clear_value a; revert a; intros) | ((first | (have b : Prop := a; clear b) | (have b : List Fld := a; clear b) | (have b : SyncSt := a; clear b) | (have b : State → State := a; clear b) | (have b : Nat → Status → State := a; clear b) | (have b : Bank := a; clear b) | (have b : ImgSt := a; clear b) | (have b : FacSt := a; clear b) | (have b : MirSt := a; clear b) | (have b : Status × State → Option Status × State := a; clear b) | (have b : Status → Word → State → State := a; clear b) | (have b : State → Nat → Nat → State := a; clear b)); unfold a; clear a) | (clear_value a; revert a; intros))
    | refine Does.footShift ?_ (Foot.up hg (by decide)) _ (fun _ _ => ?_) | refine Does.fenceAt ?_ (Foot.up hg (by decide)) _ _
    | refine Does.upChanged ?_ (Foot.up hg (by decide)) _ | (dsimp -zeta only) | refine Does.ite ?_ ?_
    | refine Does.ite_snd ?_ ?_ | refine Foot.pick ?_ ?_ | split

def Foot.islandDrop : Foot := ⟨0xFFFFFFFFFFFD8000000001FDFFE00000000000000000, 0x3B81FC00207F0613C0000000003FCFC0FF80000EC000100000000003FFF600001FFFFFFFFFF8000003C1FFEF70, 0x40C0⟩

theorem State.regOf_islandDrop {s : State} {d : Nat} {k : RegKey} (h : s.regOf d k = true) : Foot.islandDrop.hasR k.n = true := by
  obtain ⟨n, i, j⟩ := k
  change Foot.islandDrop.hasR n = true
  revert h
  unfold State.regOf
  cases n <;> first
    | exact fun _ => by decide
    | (intro h; revert h; simp [Reg.place])

theorem State.varOf_islandDrop {s : State} {d : Nat} {k : VarKey} (h : s.varOf d k = true) : Foot.islandDrop.hasV k.n = true := by
  have up {l : List Var} (hl : l.all Foot.islandDrop.hasV = true) (hk : l.contains k.n = true) : Foot.islandDrop.hasV k.n = true :=
    List.all_eq_true.mp hl _ (by simpa using hk)
  simp only [State.varOf, Bool.or_eq_true, Bool.and_eq_true] at h
  rcases h with (((((((((((h | h) | h) | h) | h) | h) | h) | h) | h) | h) | h) | h)
  · exact up (l := domVars) (by decide) h.1
  · exact up (l := leafVars) (by decide) h.1.2
  · exact up (l := nodeVars) (by decide) h.1.2
  · exact up (l := childVars) (by decide) h.1.2
  · exact up (by decide) h.2
  · rcases h.1.2 with e | e <;> · rw [of_decide_eq_true e]; decide
  · have e : k.n = .nivLast := by simpa using h.1.2
    rw [e]
    decide
  · exact up (l := ddVars) (by decide) h.1
  · exact up (l := siteVars) (by decide) h.1
  · exact up (by decide) h.1.1
  · exact up (l := endVars) (by decide) h.1
  · exact up (by decide) h.1

theorem Does.islandDrop {G : Foot} {z s : State} (h : Does G z s) (hg : Foot.islandDrop.leB G = true) (d : Nat) (supply : Bool) : Does G z (State.islandDrop s d supply) := by
  refine h.drop (fun k => s.regOf d k || !supply && Nat.beq k.i (unitOf d) && [Reg.CLK_CTRL, .CLK_STAT, .CLK_MON, .CLK_OSC].contains k.n) rfl
    (fun k e => ?_) (s.varOf d) rfl (fun k e => Foot.upV hg (State.varOf_islandDrop e)) rfl rfl rfl rfl rfl rfl rfl rfl (fun p hn => ?_)
  · simp only [Bool.or_eq_true, Bool.and_eq_true] at e
    rcases e with e | e
    · exact Foot.upR hg (State.regOf_islandDrop e)
    · exact Foot.upL hg (by decide) e.2
  · cases p <;> first | rfl | exact Foot.noP hg (by decide) hn

def Foot.islandClear : Foot := ⟨0xFFFFFFFFFFFD8000000001FDFFE00000000000000020, 0x3B81FC00207F0613C0000000003FCFC0FF8001FEC000100000000003FFF600001FFFFFFFFFF8000003C1FFEF70, 0x40C0⟩

theorem Does.islandClear {G : Foot} {z s : State} (h : Does G z s) (hg : Foot.islandClear.leB G = true) (d : Nat) (supply : Bool) : Does G z (State.islandClear s d supply) := by
  unfold State.islandClear
  with_reducible repeat' first
    | assumption
    | (extract_lets +onlyGivenNames a; first | (refine (fun (k : Does G z a) => ?_) ?_; rotate_left; unfold a; clear a; rotate_left; clear_value a; revert a; intros) | (clear_value a; revert a; intros))
    | refine Does.setV ?_ ?_ _ _ _ | refine Does.budgetDrop ?_ (Foot.up hg (by decide)) _
    | refine Does.islandDrop ?_ (Foot.up hg (by decide)) _ _ | exact Foot.upV hg (by decide) | (dsimp -zeta only)
    | refine Does.ite ?_ ?_

def Foot.rstSync : Foot := ⟨0xFFFFFFFFFFFD8000000001FDFFE00000000000000020, 0x3B81FC00207F0613C0000000003FCFC0FF8001FEC000100000000003FFF600001FFFFFFFFFF8000003C1FFEFF0, 0x40C0⟩

theorem Does.rstSync {G : Foot} {z s : State} (h : Does G z s) (hg : Foot.rstSync.leB G = true) : Does G z (State.rstSync s) := by
  unfold State.rstSync
  with_reducible repeat' first
    | assumption
    | (extract_lets +onlyGivenNames a; first | (refine (fun (k : Does G z a) => ?_) ?_; rotate_left; unfold a; clear a; rotate_left; clear_value a; revert a; intros) | (clear_value a; revert a; intros))
    | refine Does.setV ?_ ?_ _ _ _ | (refine Does.each ?_ _ _ fun _ _ _ _ => ?_)
    | refine Does.islandClear ?_ (Foot.up hg (by decide)) _ _ | exact Foot.upV hg (by decide)
    | exact Foot.upM hg ‹_ ∈ _› (by decide) | (dsimp -zeta only) | refine Does.ite ?_ ?_

def Foot.railFrame : Foot := ⟨0x7000000000000000000000000000000000000000000000000, 0x7, 0x20⟩

theorem Does.railFrame {G : Foot} {z s : State} (h : Does G z s) (hg : Foot.railFrame.leB G = true) (r : Nat) (kind : Nat) : Does G z (State.railFrame s r kind) := by
  unfold State.railFrame
  with_reducible repeat' first
    | assumption | refine Does.frame ?_ (Foot.up hg (by decide)) _ _ _ _ _ _

def Foot.phShow : Foot := ⟨0x4010000000000000000000000000, 0, 0⟩

theorem Does.phShow {G : Foot} {z s : State} (h : Does G z s) (hg : Foot.phShow.leB G = true) (r : Nat) : Does G z (State.phShow s r) := by
  unfold State.phShow
  with_reducible repeat' first
    | assumption
    | (extract_lets +onlyGivenNames a; first | (refine (fun (k : Does G z a) => ?_) ?_; rotate_left; unfold a; clear a; rotate_left; clear_value a; revert a; intros) | (clear_value a; revert a; intros))
    | refine Does.wr ?_ ?_ _ _ _ | exact Foot.upR hg (by decide)

def Foot.phScale : Foot := ⟨0, 0x100000000000000000000000000000000000, 0⟩

theorem Does.phScale {G : Foot} {z s : State} (h : Does G z s) (hg : Foot.phScale.leB G = true) (r : Nat) (old : Nat) : Does G z (State.phScale s r old) := by
  unfold State.phScale
  with_reducible repeat' first
    | assumption
    | (extract_lets +onlyGivenNames a; first | (refine (fun (k : Does G z a) => ?_) ?_; rotate_left; unfold a; clear a; rotate_left; clear_value a; revert a; intros) | (clear_value a; revert a; intros))
    | refine Does.setV ?_ ?_ _ _ _ | (refine Does.when ?_ _ _ fun _ _ => ?_) | exact Foot.upV hg (by decide)

def Foot.phOut : Foot := ⟨0x10000000000000000000000000000000, 0x440000000000000000000000000000000000000000F8000000000000000000000000000000000000000, 0⟩

theorem Does.phOut {G : Foot} {z s : State} (h : Does G z s) (hg : Foot.phOut.leB G = true) (p : Nat) (st : Nat) (off : Nat) : Does G z (State.phOut s p st off) := by
  unfold State.phOut
  with_reducible repeat' first
    | assumption
    | (extract_lets +onlyGivenNames a; first | (refine (fun (k : Does G z a) => ?_) ?_; rotate_left; unfold a; clear a; rotate_left; clear_value a; revert a; intros) | (clear_value a; revert a; intros))
    | refine Does.wr ?_ ?_ _ _ _ | refine Does.setV ?_ ?_ _ _ _ | exact Foot.upR hg (by decide) | exact Foot.upV hg (by decide)

def Foot.phIn1 : Foot := ⟨0x10000000000000000000000000000000, 0x20400000000000000000000000000000000000000020000000000000000000000000000000000000000, 0⟩

theorem Does.phIn1 {G : Foot} {z s : State} (h : Does G z s) (hg : Foot.phIn1.leB G = true) (p : Nat) : Does G z (State.phIn1 s p) := by
  unfold State.phIn1
  with_reducible repeat' first
    | assumption | refine Does.wr ?_ ?_ _ _ _ | refine Does.setV ?_ ?_ _ _ _ | exact Foot.upR hg (by decide)
    | exact Foot.upV hg (by decide)

def Foot.gridLost : Foot := ⟨0x7004000000000000000000080000000130200008000000000, 0x380000000000000000000000000000000000000000000000000000000000000000000000000000000007, 0x30⟩

theorem Does.gridLost {G : Foot} {z s : State} (h : Does G z s) (hg : Foot.gridLost.leB G = true) : Does G z (State.gridLost s) := by
  unfold State.gridLost
  with_reducible repeat' first
    | assumption
    | (extract_lets +onlyGivenNames a; first | (refine (fun (k : Does G z a) => ?_) ?_; rotate_left; unfold a; clear a; rotate_left; clear_value a; revert a; intros) | (clear_value a; revert a; intros))
    | refine Does.wr ?_ ?_ _ _ _ | refine Does.flag ?_ ?_ _ _ _ | refine Does.setV ?_ ?_ _ _ _
    | (refine Does.each ?_ _ _ fun _ _ _ _ => ?_) | refine Does.event ?_ (Foot.up hg (by decide)) _ _
    | exact Foot.upR hg (by decide) | exact Foot.upV hg (by decide)

def Foot.gridCheck : Foot := ⟨0x80000000000000000000000000, 0x200000000000000000000000000000000000000000000000000000000000000000000000000000000000, 0⟩

theorem Does.gridCheck {G : Foot} {z s : State} (h : Does G z s) (hg : Foot.gridCheck.leB G = true) (r : Nat) : Does G z (State.gridCheck s r) := by
  unfold State.gridCheck
  with_reducible repeat' first
    | assumption | refine Does.wr ?_ ?_ _ _ _ | refine Does.setV ?_ ?_ _ _ _ | (refine Does.when ?_ _ _ fun _ _ => ?_)
    | exact Foot.upR hg (by decide) | exact Foot.upV hg (by decide)

def Foot.gridBack : Foot := ⟨0x80000000000000000000000000, 0x200000000000000000000000000000000000000000000000000000000000000000000000000000000000, 0⟩

theorem Does.gridBack {G : Foot} {z s : State} (h : Does G z s) (hg : Foot.gridBack.leB G = true) : Does G z (State.gridBack s) := by
  unfold State.gridBack
  with_reducible repeat' first
    | assumption | refine Does.setV ?_ ?_ _ _ _ | (refine Does.each ?_ _ _ fun _ _ _ _ => ?_)
    | refine Does.gridCheck ?_ (Foot.up hg (by decide)) _ | exact Foot.upV hg (by decide)

def Foot.loadOfs : Foot := ⟨0x20000000000000000000000000000000, 0, 0⟩

theorem Does.loadOfs {G : Foot} {z s : State} (h : Does G z s) (hg : Foot.loadOfs.leB G = true) (r : Nat) : Does G z (State.loadOfs s r) := by
  unfold State.loadOfs
  with_reducible repeat' first
    | assumption
    | (extract_lets +onlyGivenNames a; first | (refine (fun (k : Does G z a) => ?_) ?_; rotate_left; unfold a; clear a; rotate_left; clear_value a; revert a; intros) | (clear_value a; revert a; intros))
    | refine Does.wr ?_ ?_ _ _ _ | (refine Does.each ?_ _ _ fun _ _ _ _ => ?_) | exact Foot.upR hg (by decide)

def Foot.loadRail : Foot := ⟨0x20009BE0000000000000000000000000, 0, 0⟩

theorem Does.loadRail {G : Foot} {z s : State} (h : Does G z s) (hg : Foot.loadRail.leB G = true) (key : Nat) (r : Nat) : Does G z (State.loadRail s key r) := by
  unfold State.loadRail
  with_reducible repeat' first
    | assumption
    | (extract_lets +onlyGivenNames a; first | (refine (fun (k : Does G z a) => ?_) ?_; rotate_left; unfold a; clear a; rotate_left; clear_value a; revert a; intros) | (clear_value a; revert a; intros))
    | refine Does.wr ?_ ?_ _ _ _ | (refine Does.each ?_ _ _ fun _ _ _ _ => ?_)
    | refine Does.loadOfs ?_ (Foot.up hg (by decide)) _ | exact Foot.upR hg (by decide) | (dsimp -zeta only) | split

def Foot.refForm : Foot := ⟨0x1000020000000000000000000000000, 0x80000000000000000000000000000000000, 0⟩

theorem Does.refForm {G : Foot} {z s : State} (h : Does G z s) (hg : Foot.refForm.leB G = true) (r : Nat) : Does G z (State.refForm s r) := by
  unfold State.refForm
  with_reducible repeat' first
    | assumption
    | (extract_lets +onlyGivenNames a; first | (refine (fun (k : Does G z a) => ?_) ?_; rotate_left; unfold a; clear a; rotate_left; clear_value a; revert a; intros) | (clear_value a; revert a; intros))
    | refine Does.wr ?_ ?_ _ _ _ | refine Does.setV ?_ ?_ _ _ _ | (refine Does.when ?_ _ _ fun _ _ => ?_)
    | exact Foot.upR hg (by decide) | exact Foot.upV hg (by decide)

def Foot.slotHold : Foot := ⟨0x4000000000000000000000000000000000000000, 0x40000000000000000000000, 0⟩

theorem Does.slotHold {G : Foot} {z s : State} (h : Does G z s) (hg : Foot.slotHold.leB G = true) (r : Nat) (fmax : Nat) : Does G z (State.slotHold s r fmax) := by
  unfold State.slotHold
  with_reducible repeat' first
    | assumption | refine Does.setV ?_ ?_ _ _ _ | (refine Does.when ?_ _ _ fun _ _ => ?_)
    | (refine Does.each ?_ _ _ fun _ _ _ _ => ?_) | refine Does.coreEff ?_ (Foot.up hg (by decide)) _ _
    | exact Foot.upV hg (by decide)

def Foot.targetReached : Foot := ⟨0x7004000004000000000000020000000130200008000000000, 0x40000000000000000000007, 0x30⟩

theorem Does.targetReached {G : Foot} {z s : State} (h : Does G z s) (hg : Foot.targetReached.leB G = true) (r : Nat) : Does G z (State.targetReached s r) := by
  unfold State.targetReached
  with_reducible repeat' first
    | assumption
    | (extract_lets +onlyGivenNames a; first | (refine (fun (k : Does G z a) => ?_) ?_; rotate_left; unfold a; clear a; rotate_left; clear_value a; revert a; intros) | (clear_value a; revert a; intros))
    | refine Does.wr ?_ ?_ _ _ _ | refine Does.event ?_ (Foot.up hg (by decide)) _ _
    | refine Does.railFrame ?_ (Foot.up hg (by decide)) _ _ | refine Does.slotHold ?_ (Foot.up hg (by decide)) _ _
    | exact Foot.upR hg (by decide)

def Foot.ddThr : Foot := ⟨0x10000000000000000000000000000000000, 0, 0⟩

theorem Does.ddThr {G : Foot} {z s : State} (h : Does G z s) (hg : Foot.ddThr.leB G = true) (d : Nat) : Does G z (State.ddThr s d) := by
  unfold State.ddThr
  with_reducible repeat' first
    | assumption
    | (extract_lets +onlyGivenNames a; first | (refine (fun (k : Does G z a) => ?_) ?_; rotate_left; unfold a; clear a; rotate_left; clear_value a; revert a; intros) | (clear_value a; revert a; intros))
    | refine Does.wr ?_ ?_ _ _ _ | exact Foot.upR hg (by decide) | (dsimp -zeta only) | refine Does.ite ?_ ?_
    | refine Does.ite_snd ?_ ?_ | refine Foot.pick ?_ ?_ | split

def Foot.ddRail : Foot := ⟨0x10000000000000000000000000000000000, 0, 0⟩

theorem Does.ddRail {G : Foot} {z s : State} (h : Does G z s) (hg : Foot.ddRail.leB G = true) (r : Nat) : Does G z (State.ddRail s r) := by
  unfold State.ddRail
  with_reducible repeat' first
    | assumption | (refine Does.each ?_ _ _ fun _ _ _ _ => ?_) | refine Does.ddThr ?_ (Foot.up hg (by decide)) _

def Foot.retarget : Foot := ⟨0x7004000004000010000000020000000130200008000000000, 0x800000000000040000000000000000000007, 0x30⟩

theorem Does.retarget {G : Foot} {z s : State} (h : Does G z s) (hg : Foot.retarget.leB G = true) (r : Nat) : Does G z (State.retarget s r) := by
  unfold State.retarget
  with_reducible repeat' first
    | assumption
    | (extract_lets +onlyGivenNames a; first | (refine (fun (k : Does G z a) => ?_) ?_; rotate_left; unfold a; clear a; rotate_left; clear_value a; revert a; intros) | (clear_value a; revert a; intros))
    | refine Does.wr ?_ ?_ _ _ _ | refine Does.setV ?_ ?_ _ _ _ | (refine Does.when ?_ _ _ fun _ _ => ?_)
    | refine Does.ddRail ?_ (Foot.up hg (by decide)) _ | refine Does.targetReached ?_ (Foot.up hg (by decide)) _
    | exact Foot.upR hg (by decide) | exact Foot.upV hg (by decide) | (dsimp -zeta only) | refine Does.ite ?_ ?_

def Foot.selectSlot : Foot := ⟨0x7004000004000010000000020000000130200008000000000, 0x800000000000040000000000000000000007, 0x30⟩

theorem Does.selectSlot {G : Foot} {z s : State} (h : Does G z s) (hg : Foot.selectSlot.leB G = true) (r : Nat) (k : Nat) : Does G z (State.selectSlot s r k) := by
  unfold State.selectSlot
  with_reducible repeat' first
    | assumption | refine Does.wr ?_ ?_ _ _ _ | refine Does.retarget ?_ (Foot.up hg (by decide)) _
    | refine Does.railFrame ?_ (Foot.up hg (by decide)) _ _ | exact Foot.upR hg (by decide) | (dsimp -zeta only)
    | refine Does.ite ?_ ?_

def Foot.invNote : Foot := ⟨0, 0x4000000000000, 0⟩

theorem Does.invNote {G : Foot} {z s : State} (h : Does G z s) (hg : Foot.invNote.leB G = true) (r : Nat) (k : Nat) (j : Nat) : Does G z (State.invNote s r k j) := by
  unfold State.invNote
  with_reducible repeat' first
    | assumption | refine Does.addV ?_ ?_ _ _ _ | exact Foot.upV hg (by decide) | (dsimp -zeta only) | refine Does.ite ?_ ?_

def Foot.pgSet : Foot := ⟨0x10000000000000000000000000, 0x300000000000000000000000000000000000000000000000000000000000000000004000000000000, 0⟩

theorem Does.pgSet {G : Foot} {z s : State} (h : Does G z s) (hg : Foot.pgSet.leB G = true) (r : Nat) (pg : Bool) : Does G z (State.pgSet s r pg) := by
  unfold State.pgSet
  with_reducible repeat' first
    | assumption
    | (extract_lets +onlyGivenNames a; first | (refine (fun (k : Does G z a) => ?_) ?_; rotate_left; unfold a; clear a; rotate_left; clear_value a; revert a; intros) | (clear_value a; revert a; intros))
    | refine Does.wr ?_ ?_ _ _ _ | refine Does.setV ?_ ?_ _ _ _ | refine Does.invNote ?_ (Foot.up hg (by decide)) _ _ _
    | exact Foot.upR hg (by decide) | exact Foot.upV hg (by decide) | (dsimp -zeta only) | refine Does.ite ?_ ?_

def Foot.railTo : Foot := ⟨0xFFFFFFFFFFFD8000001001FDFFE00000000000000020, 0x3B81FC00237F0613C0000000003FCFC0FF8001FEC000100000000003FFF600001FFFFFFFFFF8040003C1FFEFF0, 0x40C0⟩

theorem Does.railTo {G : Foot} {z s : State} (h : Does G z s) (hg : Foot.railTo.leB G = true) (r : Nat) (st : Nat) : Does G z (State.railTo s r st) := by
  unfold State.railTo
  with_reducible repeat' first
    | assumption
    | (extract_lets +onlyGivenNames a; first | (refine (fun (k : Does G z a) => ?_) ?_; rotate_left; unfold a; clear a; rotate_left; clear_value a; revert a; intros) | (clear_value a; revert a; intros))
    | refine Does.wr ?_ ?_ _ _ _ | (refine Does.when ?_ _ _ fun _ _ => ?_) | refine Does.pgSet ?_ (Foot.up hg (by decide)) _ _
    | refine Does.rstSync ?_ (Foot.up hg (by decide)) | exact Foot.upR hg (by decide)

def Foot.shedIdle : Foot := ⟨0x2000000000000000000000000000, 0x1A0000000000000000000000000000000000000, 0⟩

theorem Does.shedIdle {G : Foot} {z s : State} (h : Does G z s) (hg : Foot.shedIdle.leB G = true) (r : Nat) : Does G z (State.shedIdle s r) := by
  unfold State.shedIdle
  with_reducible repeat' first
    | assumption
    | (extract_lets +onlyGivenNames a; first | (refine (fun (k : Does G z a) => ?_) ?_; rotate_left; unfold a; clear a; rotate_left; clear_value a; revert a; intros) | (clear_value a; revert a; intros))
    | refine Does.wr ?_ ?_ _ _ _ | refine Does.setV ?_ ?_ _ _ _ | exact Foot.upR hg (by decide) | exact Foot.upV hg (by decide)

def Foot.shedAbort : Foot := ⟨0x7004000000000000010002000000000130200008000000000, 0x20000000000000000000000000000000000000000000001A0000000000000000000000000000000000007, 0x30⟩

theorem Does.shedAbort {G : Foot} {z s : State} (h : Does G z s) (hg : Foot.shedAbort.leB G = true) (r : Nat) : Does G z (State.shedAbort s r) := by
  unfold State.shedAbort
  with_reducible repeat' first
    | assumption
    | (extract_lets +onlyGivenNames a; first | (refine (fun (k : Does G z a) => ?_) ?_; rotate_left; unfold a; clear a; rotate_left; clear_value a; revert a; intros) | (clear_value a; revert a; intros))
    | refine Does.wr ?_ ?_ _ _ _ | refine Does.setV ?_ ?_ _ _ _ | (refine Does.each ?_ _ _ fun _ _ _ _ => ?_)
    | refine Does.incSat ?_ ?_ _ _ _ | refine Does.event ?_ (Foot.up hg (by decide)) _ _
    | refine Does.railFrame ?_ (Foot.up hg (by decide)) _ _ | refine Does.shedIdle ?_ (Foot.up hg (by decide)) _
    | exact Foot.upR hg (by decide) | exact Foot.upV hg (by decide) | exact Foot.upM hg ‹_ ∈ _› (by decide)
    | (dsimp -zeta only) | refine Does.ite ?_ ?_

def Foot.railDown : Foot := ⟨0x70040FFFFFFFFFFFD910060B001FDFFF30200008000000020, 0x3B81FE24637F0613C0000000003FCFC0FF8001FEC00010000FF1AC0BFFF600001FFFFFFFFFF8060003C1FFEFF7, 0x40F0⟩

theorem Does.railDown {G : Foot} {z s : State} (h : Does G z s) (hg : Foot.railDown.leB G = true) (r : Nat) (st : Nat) : Does G z (State.railDown s r st) := by
  unfold State.railDown
  with_reducible repeat' first
    | assumption
    | (extract_lets +onlyGivenNames a; first | (refine (fun (k : Does G z a) => ?_) ?_; rotate_left; unfold a; clear a; rotate_left; clear_value a; revert a; intros) | (clear_value a; revert a; intros))
    | refine Does.wr ?_ ?_ _ _ _ | refine Does.setV ?_ ?_ _ _ _ | (refine Does.each ?_ _ _ fun _ _ _ _ => ?_)
    | refine Does.shedAbort ?_ (Foot.up hg (by decide)) _ | refine Does.railTo ?_ (Foot.up hg (by decide)) _ _
    | refine Does.shedIdle ?_ (Foot.up hg (by decide)) _ | refine Does.phOut ?_ (Foot.up hg (by decide)) _ _ _
    | refine Does.refForm ?_ (Foot.up hg (by decide)) _ | refine Does.phShow ?_ (Foot.up hg (by decide)) _
    | refine Does.gridCheck ?_ (Foot.up hg (by decide)) _ | exact Foot.upR hg (by decide) | exact Foot.upV hg (by decide)
    | exact Foot.upM hg ‹_ ∈ _› (by decide) | (dsimp -zeta only) | refine Does.ite ?_ ?_

def Foot.haltReq : Foot := ⟨0x70040FFFFFFFFFFFD910060B001FDFFF30200008000000020, 0x3B81FE24637F0613C0000000003FCFC0FF8001FEC00010000FF1AC0BFFF600001FFFFFFFFFF8060003C1FFEFF7, 0x40F0⟩

theorem Does.haltReq {G : Foot} {z s : State} (h : Does G z s) (hg : Foot.haltReq.leB G = true) (r : Nat) : Does G z (State.haltReq s r) := by
  unfold State.haltReq
  with_reducible repeat' first
    | assumption
    | (extract_lets +onlyGivenNames a; first | (refine (fun (k : Does G z a) => ?_) ?_; rotate_left; unfold a; clear a; rotate_left; clear_value a; revert a; intros) | (clear_value a; revert a; intros))
    | refine Does.flag ?_ ?_ _ _ _ | refine Does.railDown ?_ (Foot.up hg (by decide)) _ _
    | refine Does.event ?_ (Foot.up hg (by decide)) _ _ | refine Does.railFrame ?_ (Foot.up hg (by decide)) _ _
    | exact Foot.upR hg (by decide) | (dsimp -zeta only) | refine Does.ite ?_ ?_

def Foot.haltClear : Foot := ⟨0xFFFFFFFFFFFD8000001001FDFFE00000000000000020, 0x3B81FC00237F0613C0000000003FCFC0FF8001FEC000100000000003FFF600001FFFFFFFFFF8040003C1FFEFF0, 0x40C0⟩

theorem Does.haltClear {G : Foot} {z s : State} (h : Does G z s) (hg : Foot.haltClear.leB G = true) (r : Nat) : Does G z (State.haltClear s r) := by
  unfold State.haltClear
  with_reducible repeat' first
    | assumption | refine Does.railTo ?_ (Foot.up hg (by decide)) _ _ | (dsimp -zeta only) | refine Does.ite ?_ ?_

def Foot.seqOn : Foot := ⟨0xFFFFFFFFFFFD8100003001FDFFE00000000000000020, 0x3B81FC00237F0613C0000000003FCFC0FF8001FFC00010000000038BFFF600001FFFFFFFFFF8040003C1FFEFF0, 0x40C0⟩

theorem Does.seqOn {G : Foot} {z s : State} (h : Does G z s) (hg : Foot.seqOn.leB G = true) (r : Nat) : Does G z (State.seqOn s r) := by
  unfold State.seqOn
  with_reducible repeat' first
    | assumption
    | (extract_lets +onlyGivenNames a; first | (refine (fun (k : Does G z a) => ?_) ?_; rotate_left; unfold a; clear a; rotate_left; clear_value a; revert a; intros) | (clear_value a; revert a; intros))
    | refine Does.setV ?_ ?_ _ _ _ | refine Does.railTo ?_ (Foot.up hg (by decide)) _ _
    | refine Does.refForm ?_ (Foot.up hg (by decide)) _ | exact Foot.upV hg (by decide) | (dsimp -zeta only)
    | refine Does.ite ?_ ?_

def Foot.seqOff : Foot := ⟨0x70040FFFFFFFFFFFD910060B001FDFFF30200008000000020, 0x3B81FE24637F0613C0000000003FCFC0FF8001FFC00010000FF1AC8BFFF600001FFFFFFFFFF8060003C1FFEFF7, 0x40F0⟩

theorem Does.seqOff {G : Foot} {z s : State} (h : Does G z s) (hg : Foot.seqOff.leB G = true) (r : Nat) : Does G z (State.seqOff s r) := by
  unfold State.seqOff
  with_reducible repeat' first
    | assumption
    | (extract_lets +onlyGivenNames a; first | (refine (fun (k : Does G z a) => ?_) ?_; rotate_left; unfold a; clear a; rotate_left; clear_value a; revert a; intros) | (clear_value a; revert a; intros))
    | refine Does.wr ?_ ?_ _ _ _ | refine Does.setV ?_ ?_ _ _ _ | refine Does.rstSync ?_ (Foot.up hg (by decide))
    | refine Does.railDown ?_ (Foot.up hg (by decide)) _ _ | refine Does.shedAbort ?_ (Foot.up hg (by decide)) _
    | refine Does.railTo ?_ (Foot.up hg (by decide)) _ _ | refine Does.refForm ?_ (Foot.up hg (by decide)) _
    | exact Foot.upR hg (by decide) | exact Foot.upV hg (by decide) | (dsimp -zeta only) | refine Does.ite ?_ ?_

def Foot.refPass : Foot := ⟨0xFFFFFFFFFFFD8000001001FDFFE00000000000000020, 0x3B81FC00237F0613C0000000003FCFC0FF8001FEC000100000000003FFF600001FFFFFFFFFF8040003C1FFEFF0, 0x40C0⟩

theorem Does.refPass {G : Foot} {z s : State} (h : Does G z s) (hg : Foot.refPass.leB G = true) (r : Nat) : Does G z (State.refPass s r) := by
  unfold State.refPass
  with_reducible repeat' first
    | assumption
    | (extract_lets +onlyGivenNames a; first | (refine (fun (k : Does G z a) => ?_) ?_; rotate_left; unfold a; clear a; rotate_left; clear_value a; revert a; intros) | (clear_value a; revert a; intros))
    | refine Does.railTo ?_ (Foot.up hg (by decide)) _ _ | (dsimp -zeta only) | refine Does.ite ?_ ?_

def Foot.railOn : Foot := ⟨0x70040FFFFFFFFFFFD8100003001FDFFF30200008000000020, 0x3B81FC00237F0613C0000000003FCFC0FF8001FEC00010000000008BFFF600001FFFFFFFFFF8040003C1FFEFF7, 0x40F0⟩

theorem Does.railOn {G : Foot} {z s : State} (h : Does G z s) (hg : Foot.railOn.leB G = true) (r : Nat) : Does G z (State.railOn s r) := by
  unfold State.railOn
  with_reducible repeat' first
    | assumption
    | (extract_lets +onlyGivenNames a; first | (refine (fun (k : Does G z a) => ?_) ?_; rotate_left; unfold a; clear a; rotate_left; clear_value a; revert a; intros) | (clear_value a; revert a; intros))
    | refine Does.wr ?_ ?_ _ _ _ | refine Does.setV ?_ ?_ _ _ _ | refine Does.railTo ?_ (Foot.up hg (by decide)) _ _
    | refine Does.pgSet ?_ (Foot.up hg (by decide)) _ _ | refine Does.ddRail ?_ (Foot.up hg (by decide)) _
    | refine Does.targetReached ?_ (Foot.up hg (by decide)) _ | refine Does.refForm ?_ (Foot.up hg (by decide)) _
    | exact Foot.upR hg (by decide) | exact Foot.upV hg (by decide) | (dsimp -zeta only) | refine Does.ite ?_ ?_

def Foot.measDone : Foot := ⟨0x70040FFFFFFFFFFFD910060B001FDFFF30200008000000020, 0x3B81FE26677F0613C0000000003FCFC0FF8001FEC00010000FF1ACFBFFF600001FFFFFFFFFF8060003C1FFEFF7, 0x40F0⟩

theorem Does.measDone {G : Foot} {z s : State} (h : Does G z s) (hg : Foot.measDone.leB G = true) (r : Nat) : Does G z (State.measDone s r) := by
  unfold State.measDone
  with_reducible repeat' first
    | assumption
    | (extract_lets +onlyGivenNames a; first | (refine (fun (k : Does G z a) => ?_) ?_; rotate_left; unfold a; clear a; rotate_left; clear_value a; revert a; intros) | (clear_value a; revert a; intros))
    | refine Does.wr ?_ ?_ _ _ _ | refine Does.setV ?_ ?_ _ _ _ | (refine Does.each ?_ _ _ fun _ _ _ _ => ?_)
    | refine Does.railTo ?_ (Foot.up hg (by decide)) _ _ | refine Does.phIn1 ?_ (Foot.up hg (by decide)) _
    | refine Does.refForm ?_ (Foot.up hg (by decide)) _ | refine Does.phShow ?_ (Foot.up hg (by decide)) _
    | refine Does.haltReq ?_ (Foot.up hg (by decide)) _ | refine Does.refPass ?_ (Foot.up hg (by decide)) _
    | exact Foot.upR hg (by decide) | exact Foot.upV hg (by decide) | exact Foot.upM hg ‹_ ∈ _› (by decide)
    | (dsimp -zeta only) | refine Does.ite ?_ ?_

def Foot.targetPg : Foot := ⟨0x70040FFFFFFFFFFFD8100003001FDFFF30200008000000020, 0x3B81FC00237F0613C0000000003FCFC0FF8001FEC00010000000008BFFF600001FFFFFFFFFF8040003C1FFEFF7, 0x40F0⟩

theorem Does.targetPg {G : Foot} {z s : State} (h : Does G z s) (hg : Foot.targetPg.leB G = true) (r : Nat) : Does G z (State.targetPg s r) := by
  unfold State.targetPg
  with_reducible repeat' first
    | assumption
    | (extract_lets +onlyGivenNames a; first | (refine (fun (k : Does G z a) => ?_) ?_; rotate_left; unfold a; clear a; rotate_left; clear_value a; revert a; intros) | (clear_value a; revert a; intros))
    | refine Does.railOn ?_ (Foot.up hg (by decide)) _ | (dsimp -zeta only) | refine Does.ite ?_ ?_

def Foot.slewTo : Foot := ⟨0x1000020000000000000000000000000, 0x880000000000000000000000000000000000, 0⟩

theorem Does.slewTo {G : Foot} {z s : State} (h : Does G z s) (hg : Foot.slewTo.leB G = true) (r : Nat) (x : Nat) : Does G z (State.slewTo s r x) := by
  unfold State.slewTo
  with_reducible repeat' first
    | assumption | refine Does.wr ?_ ?_ _ _ _ | refine Does.setV ?_ ?_ _ _ _
    | refine Does.refForm ?_ (Foot.up hg (by decide)) _ | exact Foot.upR hg (by decide) | exact Foot.upV hg (by decide)

def Foot.slewStep : Foot := ⟨0x70040FFFFFFFFFFFD910060B001FDFFF30200008000000020, 0x3B81FE24637F0613C0000000003FCFC0FF8001FEC00010000FF1AC8BFFF600001FFFFFFFFFF8060003C1FFEFF7, 0x40F0⟩

theorem Does.slewStep {G : Foot} {z s : State} (h : Does G z s) (hg : Foot.slewStep.leB G = true) (r : Nat) : Does G z (State.slewStep s r) := by
  unfold State.slewStep
  with_reducible repeat' first
    | assumption
    | (extract_lets +onlyGivenNames a; first | (refine (fun (k : Does G z a) => ?_) ?_; rotate_left; unfold a; clear a; rotate_left; clear_value a; revert a; intros) | (clear_value a; revert a; intros))
    | refine Does.slewTo ?_ (Foot.up hg (by decide)) _ _ | refine Does.targetReached ?_ (Foot.up hg (by decide)) _
    | refine Does.refPass ?_ (Foot.up hg (by decide)) _ | refine Does.railDown ?_ (Foot.up hg (by decide)) _ _
    | (dsimp -zeta only) | refine Does.ite ?_ ?_

def Foot.loopLaw : Foot := ⟨0x400000000000000000000000000, 0x700000000000000000000000000000000000, 0⟩

theorem Does.loopLaw {G : Foot} {z s : State} (h : Does G z s) (hg : Foot.loopLaw.leB G = true) (r : Nat) (vs : Nat) : Does G z (State.loopLaw s r vs) := by
  unfold State.loopLaw
  with_reducible repeat' first
    | assumption
    | (extract_lets +onlyGivenNames a; first | (refine (fun (k : Does G z a) => ?_) ?_; rotate_left; unfold a; clear a; rotate_left; clear_value a; revert a; intros) | (clear_value a; revert a; intros))
    | refine Does.wr ?_ ?_ _ _ _ | refine Does.flag ?_ ?_ _ _ _ | refine Does.setV ?_ ?_ _ _ _
    | (refine Does.when ?_ _ _ fun _ _ => ?_) | refine Does.wrI ?_ ?_ _ _ _ | exact Foot.upR hg (by decide)
    | exact Foot.upV hg (by decide)

def Foot.shedSend : Foot := ⟨0x10000802000000000000000000000000000000400000, 0x80000000000000000000000000000000000000, 0x40⟩

theorem Does.shedSend {G : Foot} {z s : State} (h : Does G z s) (hg : Foot.shedSend.leB G = true) (r : Nat) (src : CmdSrc) : Does G z (State.shedSend s r src) := by
  unfold State.shedSend
  with_reducible repeat' first
    | assumption
    | (extract_lets +onlyGivenNames a; first | (refine (fun (k : Does G z a) => ?_) ?_; rotate_left; unfold a; clear a; rotate_left; clear_value a; revert a; intros) | (clear_value a; revert a; intros))
    | (refine Does.when ?_ _ _ fun _ _ => ?_) | (refine Does.each ?_ _ _ fun _ _ _ _ => ?_)
    | refine Does.hubCmd ?_ (Foot.up hg (by decide)) _ _ _ _ _ | refine Does.addV ?_ ?_ _ _ _ | exact Foot.upV hg (by decide)

def Foot.shedStart : Foot := ⟨0x7000010000802000010002000000000000000000000400000, 0x10000000000000000000000000000000000000000000001C0000000000000000000000000000000000007, 0x60⟩

theorem Does.shedStart {G : Foot} {z s : State} (h : Does G z s) (hg : Foot.shedStart.leB G = true) (r : Nat) (k : Nat) : Does G z (State.shedStart s r k) := by
  unfold State.shedStart
  with_reducible repeat' first
    | assumption
    | (extract_lets +onlyGivenNames a; first | (refine (fun (k : Does G z a) => ?_) ?_; rotate_left; unfold a; clear a; rotate_left; clear_value a; revert a; intros) | (clear_value a; revert a; intros))
    | refine Does.wr ?_ ?_ _ _ _ | refine Does.setV ?_ ?_ _ _ _ | (refine Does.when ?_ _ _ fun _ _ => ?_)
    | refine Does.railFrame ?_ (Foot.up hg (by decide)) _ _ | refine Does.addV ?_ ?_ _ _ _
    | refine Does.shedSend ?_ (Foot.up hg (by decide)) _ _ | exact Foot.upR hg (by decide) | exact Foot.upV hg (by decide)
    | (dsimp -zeta only) | split

def Foot.shedConfirm : Foot := ⟨0x2000000000000000000000000000, 0x80000000000000000000000000000000000000, 0⟩

theorem Does.shedConfirm {G : Foot} {z s : State} (h : Does G z s) (hg : Foot.shedConfirm.leB G = true) (r : Nat) (num : Nat) : Does G z (State.shedConfirm s r num) := by
  unfold State.shedConfirm
  with_reducible repeat' first
    | assumption
    | (extract_lets +onlyGivenNames a; first | (refine (fun (k : Does G z a) => ?_) ?_; rotate_left; unfold a; clear a; rotate_left; clear_value a; revert a; intros) | (clear_value a; revert a; intros))
    | refine Does.wr ?_ ?_ _ _ _ | (refine Does.when ?_ _ _ fun _ _ => ?_) | refine Does.addV ?_ ?_ _ _ _
    | exact Foot.upR hg (by decide) | exact Foot.upV hg (by decide) | (dsimp -zeta only) | refine Does.ite ?_ ?_

def Foot.shedRun : Foot := ⟨0x7004010000802000010006010000000130200008000400000, 0x30204000000000000000000000000000000000000000201E0100000000000000000000000000000000007, 0x70⟩

theorem Does.shedRun {G : Foot} {z s : State} (h : Does G z s) (hg : Foot.shedRun.leB G = true) (r : Nat) (i : Int) : Does G z (State.shedRun s r i) := by
  unfold State.shedRun
  with_reducible repeat' first
    | assumption
    | (extract_lets +onlyGivenNames a; first | (refine (fun (k : Does G z a) => ?_) ?_; rotate_left; unfold a; clear a; rotate_left; clear_value a; revert a; intros) | (clear_value a; revert a; intros))
    | refine Does.wr ?_ ?_ _ _ _ | refine Does.setV ?_ ?_ _ _ _ | (refine Does.when ?_ _ _ fun _ _ => ?_)
    | refine Does.shedAbort ?_ (Foot.up hg (by decide)) _ | refine Does.phIn1 ?_ (Foot.up hg (by decide)) _
    | refine Does.phShow ?_ (Foot.up hg (by decide)) _ | refine Does.phScale ?_ (Foot.up hg (by decide)) _ _
    | refine Does.incSat ?_ ?_ _ _ _ | refine Does.shedStart ?_ (Foot.up hg (by decide)) _ _ | exact Foot.upR hg (by decide)
    | exact Foot.upV hg (by decide) | (dsimp -zeta only) | refine Does.ite ?_ ?_ | refine Does.ite_snd ?_ ?_
    | refine Foot.pick ?_ ?_ | split

def Foot.runCnt : Foot := ⟨0, 0, 0⟩

theorem Does.runCnt {G : Foot} {z s : State} (h : Does G z s) (hg : Foot.runCnt.leB G = true) (x : Var) (hx : G.hasV x = true) (r : Nat) (c : Bool) : Does G z (State.runCnt s x r c) := by
  unfold State.runCnt
  with_reducible repeat' first
    | assumption | refine Does.setV ?_ ?_ _ _ _

def Foot.cycleEnd : Foot := ⟨0, 0x4010000000000000000000000003F80000000000, 0⟩

theorem Does.cycleEnd {G : Foot} {z s : State} (h : Does G z s) (hg : Foot.cycleEnd.leB G = true) (r : Nat) (vs : Nat) : Does G z (State.cycleEnd s r vs) := by
  unfold State.cycleEnd
  with_reducible repeat' first
    | assumption
    | (extract_lets +onlyGivenNames a; first | (refine (fun (k : Does G z a) => ?_) ?_; rotate_left; unfold a; clear a; rotate_left; clear_value a; revert a; intros) | (clear_value a; revert a; intros))
    | refine Does.setV ?_ ?_ _ _ _ | (refine Does.when ?_ _ _ fun _ _ => ?_) | refine Does.addV ?_ ?_ _ _ _
    | refine Does.runCnt ?_ (Foot.up hg (by decide)) _ ?_ _ _ | exact Foot.upV hg (by decide)

def Foot.ovuvCount : Foot := ⟨0, 0x3000000000000000000000000000000000000000, 0⟩

theorem Does.ovuvCount {G : Foot} {z s : State} (h : Does G z s) (hg : Foot.ovuvCount.leB G = true) (r : Nat) (vs : Nat) : Does G z (State.ovuvCount s r vs) := by
  unfold State.ovuvCount
  with_reducible repeat' first
    | assumption
    | (extract_lets +onlyGivenNames a; first | (refine (fun (k : Does G z a) => ?_) ?_; rotate_left; unfold a; clear a; rotate_left; clear_value a; revert a; intros) | (clear_value a; revert a; intros))
    | refine Does.runCnt ?_ (Foot.up hg (by decide)) _ ?_ _ _ | exact Foot.upV hg (by decide) | (dsimp -zeta only)
    | refine Does.ite ?_ ?_

def Foot.pgCheck : Foot := ⟨0x10000000000000000000000000, 0x300000000000000000000000000000000000000000004000000000000000000000004000000000000, 0⟩

theorem Does.pgCheck {G : Foot} {z s : State} (h : Does G z s) (hg : Foot.pgCheck.leB G = true) (r : Nat) (vs : Nat) : Does G z (State.pgCheck s r vs) := by
  unfold State.pgCheck
  with_reducible repeat' first
    | assumption
    | (extract_lets +onlyGivenNames a; first | (refine (fun (k : Does G z a) => ?_) ?_; rotate_left; unfold a; clear a; rotate_left; clear_value a; revert a; intros) | (clear_value a; revert a; intros))
    | refine Does.setV ?_ ?_ _ _ _ | (refine Does.when ?_ _ _ fun _ _ => ?_)
    | refine Does.pgSet ?_ (Foot.up hg (by decide)) _ _ | exact Foot.upV hg (by decide) | (dsimp -zeta only)
    | refine Does.ite ?_ ?_

def Foot.shedDisable : Foot := ⟨0x7000000000000000010006010000000000000000000000000, 0x20440000000000000000000000000000000000000000F81A0100000000000000000000000000000000007, 0x20⟩

theorem Does.shedDisable {G : Foot} {z s : State} (h : Does G z s) (hg : Foot.shedDisable.leB G = true) (r : Nat) : Does G z (State.shedDisable s r) := by
  unfold State.shedDisable
  with_reducible repeat' first
    | assumption
    | (extract_lets +onlyGivenNames a; first | (refine (fun (k : Does G z a) => ?_) ?_; rotate_left; unfold a; clear a; rotate_left; clear_value a; revert a; intros) | (clear_value a; revert a; intros))
    | refine Does.setV ?_ ?_ _ _ _ | (refine Does.each ?_ _ _ fun _ _ _ _ => ?_)
    | refine Does.phOut ?_ (Foot.up hg (by decide)) _ _ _ | refine Does.phShow ?_ (Foot.up hg (by decide)) _
    | refine Does.phScale ?_ (Foot.up hg (by decide)) _ _ | refine Does.railFrame ?_ (Foot.up hg (by decide)) _ _
    | refine Does.incSat ?_ ?_ _ _ _ | refine Does.shedIdle ?_ (Foot.up hg (by decide)) _ | exact Foot.upR hg (by decide)
    | exact Foot.upV hg (by decide)

def Foot.shedEdge : Foot := ⟨0x7000000000000000010006010000000000000000000000000, 0x20440000000000000000000000000000000000000000F81A0100000000000000000000000000000000007, 0x20⟩

theorem Does.shedEdge {G : Foot} {z s : State} (h : Does G z s) (hg : Foot.shedEdge.leB G = true) (r : Nat) : Does G z (State.shedEdge s r) := by
  unfold State.shedEdge
  with_reducible repeat' first
    | assumption | refine Does.setV ?_ ?_ _ _ _ | refine Does.shedDisable ?_ (Foot.up hg (by decide)) _
    | exact Foot.upV hg (by decide) | (dsimp -zeta only) | refine Does.ite ?_ ?_

def Foot.railKeyLoad : Foot := ⟨0x7004000004000010020009BE0000000130200008000000000, 0x800000000000040000000000000000000007, 0x30⟩

theorem Does.railKeyLoad {G : Foot} {z s : State} (h : Does G z s) (hg : Foot.railKeyLoad.leB G = true) (r : Nat) (key : Nat) : Does G z (State.railKeyLoad s r key) := by
  unfold State.railKeyLoad
  with_reducible repeat' first
    | assumption
    | (extract_lets +onlyGivenNames a; first | (refine (fun (k : Does G z a) => ?_) ?_; rotate_left; unfold a; clear a; rotate_left; clear_value a; revert a; intros) | ((have b : ImgSt := a; clear b); unfold a; clear a) | (clear_value a; revert a; intros))
    | (refine Does.when ?_ _ _ fun _ _ => ?_) | (refine Does.each ?_ _ _ fun _ _ _ _ => ?_)
    | refine Does.loadRail ?_ (Foot.up hg (by decide)) _ _ | refine Does.retarget ?_ (Foot.up hg (by decide)) _
    | (dsimp -zeta only) | refine Does.ite ?_ ?_ | refine Does.ite_snd ?_ ?_ | refine Foot.pick ?_ ?_ | split
    | refine Does.snd ‹_ = (_, _)› ?_
    | (refine Does.mk' ?_ rfl rfl rfl rfl rfl rfl rfl rfl rfl rfl ?_; rotate_left; intro p hn; cases p <;> first | with_unfolding_all rfl | exact Foot.noP hg (by decide) hn)

def Foot.loopSample : Foot := ⟨0x70040FFFFFFFFFFFDB100FFF001FDFFF30200008000400020, 0x3B81FFE6677F0613C0000000003FCFC0FF8001FEC00010000FF1FFFBFFF600001FFFFFFFFFF807F803C1FFEFF7, 0x40F0⟩

theorem Does.loopSample {G : Foot} {z s : State} (h : Does G z s) (hg : Foot.loopSample.leB G = true) (r : Nat) (vs : Nat) (opn : Bool) : Does G z (State.loopSample s r vs opn) := by
  unfold State.loopSample
  with_reducible repeat' first
    | assumption
    | (extract_lets +onlyGivenNames a; first | (refine (fun (k : Does G z a) => ?_) ?_; rotate_left; unfold a; clear a; rotate_left; clear_value a; revert a; intros) | (clear_value a; revert a; intros))
    | refine Does.wr ?_ ?_ _ _ _ | refine Does.setV ?_ ?_ _ _ _ | (refine Does.when ?_ _ _ fun _ _ => ?_)
    | (refine Does.each ?_ _ _ fun _ _ _ _ => ?_) | refine Does.railKeyLoad ?_ (Foot.up hg (by decide)) _ _
    | refine Does.pgCheck ?_ (Foot.up hg (by decide)) _ _ | refine Does.ovuvCount ?_ (Foot.up hg (by decide)) _ _
    | refine Does.invNote ?_ (Foot.up hg (by decide)) _ _ _ | refine Does.event ?_ (Foot.up hg (by decide)) _ _
    | refine Does.haltReq ?_ (Foot.up hg (by decide)) _ | refine Does.addV ?_ ?_ _ _ _
    | refine Does.cycleEnd ?_ (Foot.up hg (by decide)) _ _ | refine Does.loopLaw ?_ (Foot.up hg (by decide)) _ _
    | refine Does.refPass ?_ (Foot.up hg (by decide)) _ | refine Does.shedRun ?_ (Foot.up hg (by decide)) _ _
    | refine Does.shedDisable ?_ (Foot.up hg (by decide)) _ | exact Foot.upR hg (by decide) | exact Foot.upV hg (by decide)
    | exact Foot.upM hg ‹_ ∈ _› (by decide) | (dsimp -zeta only) | refine Does.ite ?_ ?_ | refine Does.ite_snd ?_ ?_
    | refine Foot.pick ?_ ?_ | split

def Foot.cycleDone : Foot := ⟨0x30000000000000000000000000000000, 0x10400000000000000000000000000000000000000018000000000000000000000000304000000000000, 0⟩

theorem Does.cycleDone {G : Foot} {z s : State} (h : Does G z s) (hg : Foot.cycleDone.leB G = true) (p : Nat) (r : Nat) (cur : List (Nat × Int)) (mean : Int) (inv : Bool) : Does G z (State.cycleDone s p r cur mean inv) := by
  unfold State.cycleDone
  with_reducible repeat' first
    | assumption
    | (extract_lets +onlyGivenNames a; first | (refine (fun (k : Does G z a) => ?_) ?_; rotate_left; unfold a; clear a; rotate_left; clear_value a; revert a; intros) | (clear_value a; revert a; intros))
    | refine Does.flag ?_ ?_ _ _ _ | refine Does.setV ?_ ?_ _ _ _ | (refine Does.when ?_ _ _ fun _ _ => ?_)
    | refine Does.wrI ?_ ?_ _ _ _ | refine Does.incSat ?_ ?_ _ _ _ | refine Does.invNote ?_ (Foot.up hg (by decide)) _ _ _
    | refine Does.addV ?_ ?_ _ _ _ | exact Foot.upR hg (by decide) | exact Foot.upV hg (by decide)

def Foot.cycleStart : Foot := ⟨0x80000000000000000000000000, 0x28C000000000000000000000000000000000000000010000000000000000000000000000000000000000, 0⟩

theorem Does.cycleStart {G : Foot} {z s : State} (h : Does G z s) (hg : Foot.cycleStart.leB G = true) (p : Nat) (r : Nat) (tick : Nat) : Does G z (State.cycleStart s p r tick) := by
  unfold State.cycleStart
  with_reducible repeat' first
    | assumption
    | (extract_lets +onlyGivenNames a; first | (refine (fun (k : Does G z a) => ?_) ?_; rotate_left; unfold a; clear a; rotate_left; clear_value a; revert a; intros) | (clear_value a; revert a; intros))
    | refine Does.setV ?_ ?_ _ _ _ | (refine Does.when ?_ _ _ fun _ _ => ?_)
    | refine Does.gridCheck ?_ (Foot.up hg (by decide)) _ | exact Foot.upV hg (by decide)

def Foot.phaseCycle : Foot := ⟨0x7000000000000000030006090000000000000000000000000, 0x22DC4000000000000000000000000000000000000000F81A0100000000000000000000304000000000007, 0x20⟩

theorem Does.phaseCycle {G : Foot} {z s : State} (h : Does G z s) (hg : Foot.phaseCycle.leB G = true) (p : Nat) (cur : List (Nat × Int)) (mean : Int) (inv : Bool) : Does G z (State.phaseCycle s p cur mean inv) := by
  unfold State.phaseCycle
  with_reducible repeat' first
    | assumption
    | (extract_lets +onlyGivenNames a; first | (refine (fun (k : Does G z a) => ?_) ?_; rotate_left; unfold a; clear a; rotate_left; clear_value a; revert a; intros) | (clear_value a; revert a; intros))
    | (refine Does.when ?_ _ _ fun _ _ => ?_) | refine Does.cycleDone ?_ (Foot.up hg (by decide)) _ _ _ _ _
    | refine Does.phOut ?_ (Foot.up hg (by decide)) _ _ _ | refine Does.phShow ?_ (Foot.up hg (by decide)) _
    | refine Does.gridCheck ?_ (Foot.up hg (by decide)) _ | refine Does.shedEdge ?_ (Foot.up hg (by decide)) _
    | refine Does.cycleStart ?_ (Foot.up hg (by decide)) _ _ _ | (dsimp -zeta only) | refine Does.ite ?_ ?_
    | refine Does.ite_snd ?_ ?_ | refine Foot.pick ?_ ?_ | split

def Foot.shedDisableAt : Foot := ⟨0x7000000000000000010006010000000000000000000000000, 0x20440000000000000000000000000000000000000000F81A0100000000000000000000000000000000007, 0x20⟩

theorem Does.shedDisableAt {G : Foot} {z s : State} (h : Does G z s) (hg : Foot.shedDisableAt.leB G = true) (r : Nat) : Does G z (State.shedDisableAt s r) := by
  unfold State.shedDisableAt
  with_reducible repeat' first
    | assumption | refine Does.shedEdge ?_ (Foot.up hg (by decide)) _ | (dsimp -zeta only) | refine Does.ite ?_ ?_
    | refine Does.ite_snd ?_ ?_ | refine Foot.pick ?_ ?_ | split

def Foot.phaseFault : Foot := ⟨0x70040FFFFFFFFFFFD910060B001FDFFF30200008000400020, 0x3B81FE24637F0613C0000000003FCFC0FF8001FEC00010000FF1AC1BFFF600001FFFFFFFFFF8060003C1FFEFF7, 0x40F0⟩

theorem Does.phaseFault {G : Foot} {z s : State} (h : Does G z s) (hg : Foot.phaseFault.leB G = true) (p : Nat) : Does G z (State.phaseFault s p) := by
  unfold State.phaseFault
  with_reducible repeat' first
    | assumption
    | (extract_lets +onlyGivenNames a; first | (refine (fun (k : Does G z a) => ?_) ?_; rotate_left; unfold a; clear a; rotate_left; clear_value a; revert a; intros) | (clear_value a; revert a; intros))
    | refine Does.wr ?_ ?_ _ _ _ | refine Does.flag ?_ ?_ _ _ _ | refine Does.setV ?_ ?_ _ _ _
    | (refine Does.when ?_ _ _ fun _ _ => ?_) | refine Does.invNote ?_ (Foot.up hg (by decide)) _ _ _
    | refine Does.shedAbort ?_ (Foot.up hg (by decide)) _ | refine Does.phOut ?_ (Foot.up hg (by decide)) _ _ _
    | refine Does.incSat ?_ ?_ _ _ _ | refine Does.event ?_ (Foot.up hg (by decide)) _ _
    | refine Does.phShow ?_ (Foot.up hg (by decide)) _ | refine Does.railFrame ?_ (Foot.up hg (by decide)) _ _
    | refine Does.gridCheck ?_ (Foot.up hg (by decide)) _ | refine Does.phScale ?_ (Foot.up hg (by decide)) _ _
    | refine Does.shedSend ?_ (Foot.up hg (by decide)) _ _ | refine Does.haltReq ?_ (Foot.up hg (by decide)) _
    | exact Foot.upR hg (by decide) | exact Foot.upV hg (by decide) | (dsimp -zeta only) | refine Does.ite ?_ ?_

def Foot.phCalReq : Foot := ⟨0x40000000000000000000000000000000, 0x100000000000000000000000000000000000000000, 0⟩

theorem Does.phCalReq {G : Foot} {z s : State} (h : Does G z s) (hg : Foot.phCalReq.leB G = true) (p : Nat) : Does G z (State.phCalReq s p).2 := by
  unfold State.phCalReq
  with_reducible repeat' first
    | assumption
    | (extract_lets +onlyGivenNames a; first | (refine (fun (k : Does G z a) => ?_) ?_; rotate_left; unfold a; clear a; rotate_left; clear_value a; revert a; intros) | (clear_value a; revert a; intros))
    | refine Does.wr ?_ ?_ _ _ _ | refine Does.setV ?_ ?_ _ _ _ | exact Foot.upR hg (by decide) | exact Foot.upV hg (by decide)
    | (dsimp -zeta only) | refine Does.ite ?_ ?_ | refine Does.ite_snd ?_ ?_

def Foot.clrFault : Foot := ⟨0x10004010000000000000000000000000, 0, 0⟩

theorem Does.clrFault {G : Foot} {z s : State} (h : Does G z s) (hg : Foot.clrFault.leB G = true) (p : Nat) (high : Bool) : Does G z (State.clrFault s p high).2 := by
  unfold State.clrFault
  with_reducible repeat' first
    | assumption
    | (extract_lets +onlyGivenNames a; first | (refine (fun (k : Does G z a) => ?_) ?_; rotate_left; unfold a; clear a; rotate_left; clear_value a; revert a; intros) | (clear_value a; revert a; intros))
    | refine Does.wr ?_ ?_ _ _ _ | refine Does.phShow ?_ (Foot.up hg (by decide)) _ | exact Foot.upR hg (by decide)
    | (dsimp -zeta only) | refine Does.ite ?_ ?_ | refine Does.ite_snd ?_ ?_

def Foot.vselWrite : Foot := ⟨0x7004000004000010000000020000000130200008000000000, 0x800000000000040000000000000000000007, 0x30⟩

theorem Does.vselWrite {G : Foot} {z s : State} (h : Does G z s) (hg : Foot.vselWrite.leB G = true) (r : Nat) (k : Nat) : Does G z (State.vselWrite s r k).2 := by
  unfold State.vselWrite
  with_reducible repeat' first
    | assumption | refine Does.wr ?_ ?_ _ _ _ | refine Does.selectSlot ?_ (Foot.up hg (by decide)) _ _
    | exact Foot.upR hg (by decide) | (dsimp -zeta only) | refine Does.ite ?_ ?_ | refine Does.ite_snd ?_ ?_

def Foot.vslotWrite : Foot := ⟨0x7004000004000010000008020000000130200008000000000, 0x800000000000040000000000000000000007, 0x30⟩

theorem Does.vslotWrite {G : Foot} {z s : State} (h : Does G z s) (hg : Foot.vslotWrite.leB G = true) (r : Nat) (k : Nat) (code : Nat) : Does G z (State.vslotWrite s r k code).2 := by
  unfold State.vslotWrite
  with_reducible repeat' first
    | assumption | refine Does.wr ?_ ?_ _ _ _ | refine Does.retarget ?_ (Foot.up hg (by decide)) _
    | exact Foot.upR hg (by decide) | (dsimp -zeta only) | refine Does.ite ?_ ?_ | refine Does.ite_snd ?_ ?_

def Foot.vrefNote : Foot := ⟨0, 0x200000000000000000000000000000000000000000, 0⟩

theorem Does.vrefNote {G : Foot} {z s : State} (h : Does G z s) (hg : Foot.vrefNote.leB G = true) (l : Nat) : Does G z (State.vrefNote s l) := by
  unfold State.vrefNote
  with_reducible repeat' first
    | assumption | refine Does.setV ?_ ?_ _ _ _ | (refine Does.each ?_ _ _ fun _ _ _ _ => ?_) | exact Foot.upV hg (by decide)

def Foot.vrefCheck : Foot := ⟨0x10000082000000000000000000000000000000400000, 0x200000000000000000000000000000000000000000, 0x40⟩

theorem Does.vrefCheck {G : Foot} {z s : State} (h : Does G z s) (hg : Foot.vrefCheck.leB G = true) (l : Nat) : Does G z (State.vrefCheck s l) := by
  unfold State.vrefCheck
  with_reducible repeat' first
    | assumption
    | (extract_lets +onlyGivenNames a; first | (refine (fun (k : Does G z a) => ?_) ?_; rotate_left; unfold a; clear a; rotate_left; clear_value a; revert a; intros) | (clear_value a; revert a; intros))
    | refine Does.hubCmd ?_ (Foot.up hg (by decide)) _ _ _ _ _ | refine Does.vrefNote ?_ (Foot.up hg (by decide)) _
    | (dsimp -zeta only) | refine Does.ite ?_ ?_

def Foot.vrefTake : Foot := ⟨0x80000000000000000000000000000000000000, 0, 0⟩

theorem Does.vrefTake {G : Foot} {z s : State} (h : Does G z s) (hg : Foot.vrefTake.leB G = true) (l : Nat) (w : Nat) : Does G z (State.vrefTake s l w) := by
  unfold State.vrefTake
  with_reducible repeat' first
    | assumption | refine Does.setReg ?_ ?_ _ _ _ | exact Foot.upR hg (by decide)

def Foot.shedTake : Foot := ⟨0x40406800000000000000000000000000000000000000, 0x2000000000018000000000014000000000000000000000000000027000000080C000000000000000000000, 0⟩

theorem Does.shedTake {G : Foot} {z s : State} (h : Does G z s) (hg : Foot.shedTake.leB G = true) (l : Nat) (r : Nat) : Does G z (State.shedTake s l r) := by
  unfold State.shedTake
  with_reducible repeat' first
    | assumption
    | (extract_lets +onlyGivenNames a; first | (refine (fun (k : Does G z a) => ?_) ?_; rotate_left; unfold a; clear a; rotate_left; clear_value a; revert a; intros) | (clear_value a; revert a; intros))
    | refine Does.wr ?_ ?_ _ _ _ | refine Does.setV ?_ ?_ _ _ _ | (refine Does.each ?_ _ _ fun _ _ _ _ => ?_)
    | refine Does.leafEff ?_ (Foot.up hg (by decide)) _ | exact Foot.upR hg (by decide) | exact Foot.upV hg (by decide)
    | exact Foot.upM hg ‹_ ∈ _› (by decide) | refine Foot.sgF ?_ ?_ | (dsimp -zeta only) | refine Does.ite ?_ ?_

def Foot.shedExpire : Foot := ⟨0x40406800000000000000000000000000000000000000, 0x20000000000180000000000140000000000000000000000000000270000000804000000000000000000000, 0⟩

theorem Does.shedExpire {G : Foot} {z s : State} (h : Does G z s) (hg : Foot.shedExpire.leB G = true) (l : Nat) : Does G z (State.shedExpire s l) := by
  unfold State.shedExpire
  with_reducible repeat' first
    | assumption | refine Does.wr ?_ ?_ _ _ _ | refine Does.leafEff ?_ (Foot.up hg (by decide)) _
    | exact Foot.upR hg (by decide) | (dsimp -zeta only) | refine Does.ite ?_ ?_

def Foot.postedDone : Foot := ⟨0x7004000000000000000000000000000130200008400000000, 0x7, 0x1030⟩

theorem Does.postedDone {G : Foot} {z s : State} (h : Does G z s) (hg : Foot.postedDone.leB G = true) (bad : Bool) : Does G z (State.postedDone s bad) := by
  unfold State.postedDone
  with_reducible repeat' first
    | assumption
    | (extract_lets +onlyGivenNames a; first | (refine (fun (k : Does G z a) => ?_) ?_; rotate_left; unfold a; clear a; rotate_left; clear_value a; revert a; intros) | (clear_value a; revert a; intros))
    | refine Does.wr ?_ ?_ _ _ _ | refine Does.flag ?_ ?_ _ _ _ | (refine Does.when ?_ _ _ fun _ _ => ?_)
    | refine Does.event ?_ (Foot.up hg (by decide)) _ _ | exact Foot.upR hg (by decide) | (dsimp -zeta only) | split
    | refine Does.snd ‹_ = (_, _)› ?_
    | (refine Does.mk' ?_ rfl rfl rfl rfl rfl rfl rfl rfl rfl rfl ?_; rotate_left; intro p hn; cases p <;> first | with_unfolding_all rfl | exact Foot.noP hg (by decide) hn)

def Foot.lpHubSet : Foot := ⟨0, 0x4000000000000000000000000000000000000000000000000000000000000000000000000000000, 0⟩

theorem Does.lpHubSet {G : Foot} {z s : State} (h : Does G z s) (hg : Foot.lpHubSet.leB G = true) (r : Reg) (l : Nat) (w : Word) : Does G z (State.lpHubSet s r l w) := by
  unfold State.lpHubSet
  with_reducible repeat' first
    | assumption
    | (extract_lets +onlyGivenNames a; first | (refine (fun (k : Does G z a) => ?_) ?_; rotate_left; unfold a; clear a; rotate_left; clear_value a; revert a; intros) | (clear_value a; revert a; intros))
    | refine Does.setV ?_ ?_ _ _ _ | exact Foot.upV hg (by decide)

def Foot.hubCopy : Foot := ⟨0x611F8000000000000000000, 0x7000000000000000000000000000000000000000000000000000000000000000000000000000000, 0⟩

theorem Does.hubCopy {G : Foot} {z s : State} (h : Does G z s) (hg : Foot.hubCopy.leB G = true) (a : Nat) (wide : Bool) (w : Word) : Does G z (State.hubCopy s a wide w) := by
  unfold State.hubCopy
  with_reducible repeat' first
    | assumption | refine Does.gtHubSet ?_ (Foot.up hg (by decide)) _ _ _ _ _
    | refine Does.lpHubSet ?_ (Foot.up hg (by decide)) _ _ _ | (dsimp -zeta only) | refine Does.ite ?_ ?_
    | refine Does.ite_snd ?_ ?_ | refine Foot.pick ?_ ?_ | split

def Foot.copySend : Foot := ⟨0x10000002000000000000000000000000000000400000, 0, 0x40⟩

theorem Does.copySend {G : Foot} {z s : State} (h : Does G z s) (hg : Foot.copySend.leB G = true) (ans : Option Port) (a : Nat) (w : Word) (wide : Bool) (d : Nat) (rest : List Nat) : Does G z (State.copySend s ans a w wide d rest).2 := by
  unfold State.copySend
  with_reducible repeat' first
    | assumption | refine Does.hubCmd ?_ (Foot.up hg (by decide)) _ _ _ _ _

def Foot.copyAns : Foot := ⟨0x7004000000000000000000000000000130200009C00000000, 0x7, 0x1030⟩

theorem Does.copyAns {G : Foot} {z s : State} (h : Does G z s) (hg : Foot.copyAns.leB G = true) (ans : Option Port) (a : Nat) (st : Status) : Does G z (State.copyAns s ans a st) := by
  unfold State.copyAns
  with_reducible repeat' first
    | assumption
    | (extract_lets +onlyGivenNames a; first | (refine (fun (k : Does G z a) => ?_) ?_; rotate_left; unfold a; clear a; rotate_left; clear_value a; revert a; intros) | (clear_value a; revert a; intros))
    | refine Does.answerD ?_ (Foot.up hg (by decide)) _ _ _ _ _ | refine Does.postedDone ?_ (Foot.up hg (by decide)) _
    | (dsimp -zeta only) | split

def Foot.cmdAnswered : Foot := ⟨0x3407004010002003E000000020000611F8130200079C00400840, 0x40000000700000000000000000000000000000070C001000080000006018000000000000000000000000007, 0x410F0⟩

theorem Does.cmdAnswered {G : Foot} {z s : State} (h : Does G z s) (hg : Foot.cmdAnswered.leB G = true) (p : CmdPend) (st : Status) (data : Word) : Does G z (State.cmdAnswered s p st data) := by
  unfold State.cmdAnswered
  with_reducible repeat' first
    | assumption
    | (extract_lets +onlyGivenNames a; first | (refine (fun (k : Does G z a) => ?_) ?_; rotate_left; unfold a; clear a; rotate_left; clear_value a; revert a; intros) | (clear_value a; revert a; intros))
    | refine Does.emit ?_ _ | refine Does.footTake ?_ (Foot.up hg (by decide)) _
    | refine Does.needRecompute ?_ (Foot.up hg (by decide)) _ _ | refine Does.answerD ?_ (Foot.up hg (by decide)) _ _ _ _ _
    | refine Does.postedDone ?_ (Foot.up hg (by decide)) _ | refine Does.shedConfirm ?_ (Foot.up hg (by decide)) _ _
    | refine Does.hubCopy ?_ (Foot.up hg (by decide)) _ _ _ | refine Does.copyAns ?_ (Foot.up hg (by decide)) _ _ _
    | refine Does.copySend ?_ (Foot.up hg (by decide)) _ _ _ _ _ _ | (dsimp -zeta only) | refine Does.ite ?_ ?_
    | refine Does.ite_snd ?_ ?_ | refine Foot.pick ?_ ?_ | split

def Foot.fenceProgress : Foot := ⟨0x10000002000000000000000000000000000000400000, 0x600, 0⟩

theorem Does.fenceProgress {G : Foot} {z s : State} (h : Does G z s) (hg : Foot.fenceProgress.leB G = true) (d : Nat) : Does G z (State.fenceProgress s d) := by
  unfold State.fenceProgress
  with_reducible repeat' first
    | assumption
    | (extract_lets +onlyGivenNames a; first | (refine (fun (k : Does G z a) => ?_) ?_; rotate_left; unfold a; clear a; rotate_left; clear_value a; revert a; intros) | (clear_value a; revert a; intros))
    | refine Does.setV ?_ ?_ _ _ _ | refine Does.sendUp ?_ (Foot.up hg (by decide)) _ _ _ | exact Foot.upV hg (by decide)
    | (dsimp -zeta only) | refine Does.ite ?_ ?_

def Foot.guardAnswer : Foot := ⟨0x3407004010002003E000000020000611F8130200079C00400840, 0x40000000700000000000000000000000000000070C001000080000006018000000000000000000000000607, 0x410F0⟩

theorem Does.guardAnswer {G : Foot} {z s : State} (h : Does G z s) (hg : Foot.guardAnswer.leB G = true) (p : CmdPend) : Does G z (State.guardAnswer s p) := by
  unfold State.guardAnswer
  with_reducible repeat' first
    | assumption
    | (extract_lets +onlyGivenNames a; first | (refine (fun (k : Does G z a) => ?_) ?_; rotate_left; unfold a; clear a; rotate_left; clear_value a; revert a; intros) | (clear_value a; revert a; intros))
    | refine Does.pendDrop ?_ (Foot.up hg (by decide)) _ _ | refine Does.chInc ?_ (Foot.up hg (by decide)) _ _ _
    | refine Does.cmdAnswered ?_ (Foot.up hg (by decide)) _ _ _ | refine Does.sendUp ?_ (Foot.up hg (by decide)) _ _ _
    | refine Does.fenceProgress ?_ (Foot.up hg (by decide)) _ | (dsimp -zeta only) | refine Does.ite ?_ ?_

def Foot.guardWait : Foot := ⟨0x3407004010002003E000000020000611F8130200079C00400840, 0x40000000700000000000000000000000000000070C001000080000006018000000000000000000000000607, 0x410F0⟩

theorem Does.guardWait {G : Foot} {z s : State} (h : Does G z s) (hg : Foot.guardWait.leB G = true) (e : ChEnd) : Does G z (State.guardWait s e) := by
  unfold State.guardWait
  with_reducible repeat' first
    | assumption
    | (extract_lets +onlyGivenNames a; first | (refine (fun (k : Does G z a) => ?_) ?_; rotate_left; unfold a; clear a; rotate_left; clear_value a; revert a; intros) | (clear_value a; revert a; intros))
    | (refine Does.each ?_ _ _ fun _ _ _ _ => ?_) | refine Does.guardAnswer ?_ (Foot.up hg (by decide)) _ | (dsimp -zeta only)
    | split | refine Does.snd ‹_ = (_, _)› ?_
    | (refine Does.mk' ?_ rfl rfl rfl rfl rfl rfl rfl rfl rfl rfl ?_; rotate_left; intro p hn; cases p <;> first | with_unfolding_all rfl | exact Foot.noP hg (by decide) hn)

def Foot.guardAll : Foot := ⟨0x3407004010002003E000000020000611F8130200079C00400840, 0x40000000700000000000000000000000000000070C001000080000006018000000000000000000000000607, 0x410F0⟩

theorem Does.guardAll {G : Foot} {z s : State} (h : Does G z s) (hg : Foot.guardAll.leB G = true) (e : ChEnd) : Does G z (State.guardAll s e) := by
  unfold State.guardAll
  with_reducible repeat' first
    | assumption
    | (extract_lets +onlyGivenNames a; first | (refine (fun (k : Does G z a) => ?_) ?_; rotate_left; unfold a; clear a; rotate_left; clear_value a; revert a; intros) | (clear_value a; revert a; intros))
    | (refine Does.each ?_ _ _ fun _ _ _ _ => ?_) | refine Does.guardWait ?_ (Foot.up hg (by decide)) _
    | refine Does.guardAnswer ?_ (Foot.up hg (by decide)) _

def Foot.fenceIssue : Foot := ⟨0x3407004010002003E000000020000611F8130200079C00400840, 0x40000000700004000000000000000000000000070C001000080000006018000000000000000000000000F07, 0x410F0⟩

theorem Does.fenceIssue {G : Foot} {z s : State} (h : Does G z s) (hg : Foot.fenceIssue.leB G = true) (e : ChEnd) (scope : Nat) : Does G z (State.fenceIssue s e scope).2 := by
  unfold State.fenceIssue
  with_reducible repeat' first
    | assumption
    | (extract_lets +onlyGivenNames a; first | (refine (fun (k : Does G z a) => ?_) ?_; rotate_left; unfold a; clear a; rotate_left; clear_value a; revert a; intros) | (clear_value a; revert a; intros))
    | refine Does.fenceStart ?_ (Foot.up hg (by decide)) _ _ | refine Does.guardWait ?_ (Foot.up hg (by decide)) _

def Foot.creditStart : Foot := ⟨0x802000000000000000000000000000000000000000, 0x64000000000000000000000140000000000000000000000000000200000000000000000000000000000000, 0⟩

theorem Does.creditStart {G : Foot} {z s : State} (h : Does G z s) (hg : Foot.creditStart.leB G = true) (l : Nat) (q : Nat) (rows : Nat) : Does G z (State.creditStart s l q rows) := by
  unfold State.creditStart
  with_reducible repeat' first
    | assumption
    | (extract_lets +onlyGivenNames a; first | (refine (fun (k : Does G z a) => ?_) ?_; rotate_left; unfold a; clear a; rotate_left; clear_value a; revert a; intros) | (clear_value a; revert a; intros))
    | refine Does.wr ?_ ?_ _ _ _ | refine Does.setV ?_ ?_ _ _ _ | (refine Does.when ?_ _ _ fun _ _ => ?_)
    | (refine Does.each ?_ _ _ fun _ _ _ _ => ?_) | refine Does.cntAdd ?_ (Foot.up hg (by decide)) _ _ _ _ _
    | refine Does.addV ?_ ?_ _ _ _ | refine Does.issueDrive ?_ (Foot.up hg (by decide)) _ _ | exact Foot.upR hg (by decide)
    | exact Foot.upV hg (by decide) | exact Foot.upM hg ‹_ ∈ _› (by decide) | refine Foot.sgF ?_ ?_

def Foot.scoreRamp : Foot := ⟨0, 0x1000000000020000000000000000000000, 0⟩

theorem Does.scoreRamp {G : Foot} {z s : State} (h : Does G z s) (hg : Foot.scoreRamp.leB G = true) (l : Nat) (p : Nat) : Does G z (State.scoreRamp s l p) := by
  unfold State.scoreRamp
  with_reducible repeat' first
    | assumption
    | (extract_lets +onlyGivenNames a; first | (refine (fun (k : Does G z a) => ?_) ?_; rotate_left; unfold a; clear a; rotate_left; clear_value a; revert a; intros) | (clear_value a; revert a; intros))
    | refine Does.setV ?_ ?_ _ _ _ | exact Foot.upV hg (by decide) | (dsimp -zeta only) | refine Does.ite ?_ ?_

def Foot.scoreShow : Foot := ⟨0x100000000000000000000000000000000000000000, 0, 0⟩

theorem Does.scoreShow {G : Foot} {z s : State} (h : Does G z s) (hg : Foot.scoreShow.leB G = true) (l : Nat) : Does G z (State.scoreShow s l) := by
  unfold State.scoreShow
  with_reducible repeat' first
    | assumption
    | (extract_lets +onlyGivenNames a; first | (refine (fun (k : Does G z a) => ?_) ?_; rotate_left; unfold a; clear a; rotate_left; clear_value a; revert a; intros) | (clear_value a; revert a; intros))
    | refine Does.wr ?_ ?_ _ _ _ | exact Foot.upR hg (by decide)

def Foot.winLatch : Foot := ⟨0x2000000000000000000000000000000000000000, 0x7800000000000000000000, 0⟩

theorem Does.winLatch {G : Foot} {z s : State} (h : Does G z s) (hg : Foot.winLatch.leB G = true) (l : Nat) : Does G z (State.winLatch s l) := by
  unfold State.winLatch
  with_reducible repeat' first
    | assumption
    | (extract_lets +onlyGivenNames a; first | (refine (fun (k : Does G z a) => ?_) ?_; rotate_left; unfold a; clear a; rotate_left; clear_value a; revert a; intros) | (clear_value a; revert a; intros))
    | refine Does.setV ?_ ?_ _ _ _ | (refine Does.each ?_ _ _ fun _ _ _ _ => ?_) | exact Foot.upV hg (by decide)

def Foot.creditWindow : Foot := ⟨0x40D06000000000000000000000000000000000000000, 0x64002000000180000000000140000000000000000000000000001770000000827800000000000000000000, 0⟩

theorem Does.creditWindow {G : Foot} {z s : State} (h : Does G z s) (hg : Foot.creditWindow.leB G = true) (l : Nat) (rows : List (Nat × Nat)) : Does G z (State.creditWindow s l rows) := by
  unfold State.creditWindow
  with_reducible repeat' first
    | assumption
    | (extract_lets +onlyGivenNames a; first | (refine (fun (k : Does G z a) => ?_) ?_; rotate_left; unfold a; clear a; rotate_left; clear_value a; revert a; intros) | (clear_value a; revert a; intros))
    | refine Does.setV ?_ ?_ _ _ _ | (refine Does.each ?_ _ _ fun _ _ _ _ => ?_)
    | refine Does.leafAcct ?_ (Foot.up hg (by decide)) _ | refine Does.gateTake ?_ (Foot.up hg (by decide)) _ _
    | refine Does.scoreRamp ?_ (Foot.up hg (by decide)) _ _ | refine Does.winLatch ?_ (Foot.up hg (by decide)) _
    | refine Does.leafEff ?_ (Foot.up hg (by decide)) _ | refine Does.scoreShow ?_ (Foot.up hg (by decide)) _
    | refine Does.creditStart ?_ (Foot.up hg (by decide)) _ _ _ | exact Foot.upV hg (by decide)

def Foot.shapeFrame : Foot := ⟨0x7000000000000000000000000000000000000000000000000, 0x7, 0x20⟩

theorem Does.shapeFrame {G : Foot} {z s : State} (h : Does G z s) (hg : Foot.shapeFrame.leB G = true) (kind : Nat) (src : Nat) (di : Nat) (shape : Nat) (ofs : Nat) : Does G z (State.shapeFrame s kind src di shape ofs) := by
  unfold State.shapeFrame
  with_reducible repeat' first
    | assumption | refine Does.frame ?_ (Foot.up hg (by decide)) _ _ _ _ _ _

def Foot.scoreClamp : Foot := ⟨0x40506000000000000000000000000000000000000000, 0x1A0000000000180000000000140000000000000000000000000001A70000000824000000000000000000000, 0⟩

theorem Does.scoreClamp {G : Foot} {z s : State} (h : Does G z s) (hg : Foot.scoreClamp.leB G = true) (l : Nat) (d : Nat) (fresh : Bool) : Does G z (State.scoreClamp s l d fresh) := by
  unfold State.scoreClamp
  with_reducible repeat' first
    | assumption
    | (extract_lets +onlyGivenNames a; first | (refine (fun (k : Does G z a) => ?_) ?_; rotate_left; unfold a; clear a; rotate_left; clear_value a; revert a; intros) | (clear_value a; revert a; intros))
    | refine Does.setV ?_ ?_ _ _ _ | (refine Does.when ?_ _ _ fun _ _ => ?_) | (refine Does.each ?_ _ _ fun _ _ _ _ => ?_)
    | refine Does.leafEff ?_ (Foot.up hg (by decide)) _ | refine Does.scoreShow ?_ (Foot.up hg (by decide)) _
    | refine Does.issueDrive ?_ (Foot.up hg (by decide)) _ _ | exact Foot.upV hg (by decide)

def Foot.ddSample : Foot := ⟨0x7004050506002030000000000000000130200008000400000, 0x1A0000000000180000000000140000000000000000000000000003A70000000824000000000000000000007, 0x30⟩

theorem Does.ddSample {G : Foot} {z s : State} (h : Does G z s) (hg : Foot.ddSample.leB G = true) (d : Nat) (c : Nat) : Does G z (State.ddSample s d c) := by
  unfold State.ddSample
  with_reducible repeat' first
    | assumption
    | (extract_lets +onlyGivenNames a; first | (refine (fun (k : Does G z a) => ?_) ?_; rotate_left; unfold a; clear a; rotate_left; clear_value a; revert a; intros) | (clear_value a; revert a; intros))
    | refine Does.wr ?_ ?_ _ _ _ | refine Does.flag ?_ ?_ _ _ _ | refine Does.setV ?_ ?_ _ _ _
    | (refine Does.when ?_ _ _ fun _ _ => ?_) | (refine Does.each ?_ _ _ fun _ _ _ _ => ?_)
    | refine Does.cntAdd ?_ (Foot.up hg (by decide)) _ _ _ _ _ | refine Does.addV ?_ ?_ _ _ _
    | refine Does.scoreClamp ?_ (Foot.up hg (by decide)) _ _ _ | refine Does.incSat ?_ ?_ _ _ _
    | refine Does.shapeFrame ?_ (Foot.up hg (by decide)) _ _ _ _ _ | refine Does.evFrom ?_ (Foot.up hg (by decide)) _ _ _ _ _
    | exact Foot.upR hg (by decide) | exact Foot.upV hg (by decide) | exact Foot.upM hg ‹_ ∈ _› (by decide)
    | (dsimp -zeta only) | refine Does.ite ?_ ?_ | refine Does.ite_snd ?_ ?_ | refine Foot.pick ?_ ?_ | split

def Foot.ddCalReq : Foot := ⟨0, 0x4000000000000000000000000000000000, 0⟩

theorem Does.ddCalReq {G : Foot} {z s : State} (h : Does G z s) (hg : Foot.ddCalReq.leB G = true) (d : Nat) : Does G z (State.ddCalReq s d).2 := by
  unfold State.ddCalReq
  with_reducible repeat' first
    | assumption | refine Does.setV ?_ ?_ _ _ _ | exact Foot.upV hg (by decide) | (dsimp -zeta only) | refine Does.ite ?_ ?_
    | refine Does.ite_snd ?_ ?_

def Foot.gateRsp : Foot := ⟨0x10000000000000000000000000000000000000000, 0, 0⟩

theorem Does.gateRsp {G : Foot} {z s : State} (h : Does G z s) (hg : Foot.gateRsp.leB G = true) (l : Nat) (q : Nat) (st : Nat) : Does G z (State.gateRsp s l q st) := by
  unfold State.gateRsp
  with_reducible repeat' first
    | assumption
    | (extract_lets +onlyGivenNames a; first | (refine (fun (k : Does G z a) => ?_) ?_; rotate_left; unfold a; clear a; rotate_left; clear_value a; revert a; intros) | (clear_value a; revert a; intros))
    | refine Does.emit ?_ _ | (refine Does.when ?_ _ _ fun _ _ => ?_) | refine Does.incSat ?_ ?_ _ _ _
    | exact Foot.upR hg (by decide)

def Foot.heldShow : Foot := ⟨0x200000000000000000000000000000000000000000, 0, 0⟩

theorem Does.heldShow {G : Foot} {z s : State} (h : Does G z s) (hg : Foot.heldShow.leB G = true) (l : Nat) : Does G z (State.heldShow s l) := by
  unfold State.heldShow
  with_reducible repeat' first
    | assumption | refine Does.wr ?_ ?_ _ _ _ | exact Foot.upR hg (by decide)

def Foot.waveHold : Foot := ⟨0x40602000000000000000000000000000000000000000, 0x180000000000140000000000000000000000000030070000000810000000000000000000000, 0⟩

theorem Does.waveHold {G : Foot} {z s : State} (h : Does G z s) (hg : Foot.waveHold.leB G = true) (l : Nat) (q : Nat) (tE : Nat) (st : Nat) : Does G z (State.waveHold s l q tE st) := by
  unfold State.waveHold
  with_reducible repeat' first
    | assumption
    | (extract_lets +onlyGivenNames a; first | (refine (fun (k : Does G z a) => ?_) ?_; rotate_left; unfold a; clear a; rotate_left; clear_value a; revert a; intros) | (clear_value a; revert a; intros))
    | refine Does.setV ?_ ?_ _ _ _ | (refine Does.each ?_ _ _ fun _ _ _ _ => ?_)
    | refine Does.cntAdd ?_ (Foot.up hg (by decide)) _ _ _ _ _ | refine Does.gateEff ?_ (Foot.up hg (by decide)) _ _
    | refine Does.heldShow ?_ (Foot.up hg (by decide)) _ | exact Foot.upV hg (by decide)

def Foot.waveEnd : Foot := ⟨0x40612000000000000000000000000000000000000000, 0x20000000000180000000000140000000000000000000000000000270000000810000000000000000000000, 0⟩

theorem Does.waveEnd {G : Foot} {z s : State} (h : Does G z s) (hg : Foot.waveEnd.leB G = true) (l : Nat) (q : Nat) : Does G z (State.waveEnd s l q) := by
  unfold State.waveEnd
  with_reducible repeat' first
    | assumption
    | (extract_lets +onlyGivenNames a; first | (refine (fun (k : Does G z a) => ?_) ?_; rotate_left; unfold a; clear a; rotate_left; clear_value a; revert a; intros) | (clear_value a; revert a; intros))
    | refine Does.setV ?_ ?_ _ _ _ | refine Does.gateRsp ?_ (Foot.up hg (by decide)) _ _ _
    | refine Does.gateEff ?_ (Foot.up hg (by decide)) _ _ | refine Does.addV ?_ ?_ _ _ _
    | refine Does.issueDrive ?_ (Foot.up hg (by decide)) _ _ | refine Does.heldShow ?_ (Foot.up hg (by decide)) _
    | exact Foot.upV hg (by decide)

def Foot.wavesDue : Foot := ⟨0x40612000000000000000000000000000000000000000, 0x20000000000180000000000140000000000000000000000000000270000000810000000000000000000000, 0⟩

theorem Does.wavesDue {G : Foot} {z s : State} (h : Does G z s) (hg : Foot.wavesDue.leB G = true) (l : Nat) : Does G z (State.wavesDue s l) := by
  unfold State.wavesDue
  with_reducible repeat' first
    | assumption | (refine Does.each ?_ _ _ fun _ _ _ _ => ?_) | refine Does.waveEnd ?_ (Foot.up hg (by decide)) _ _

def Foot.predNote : Foot := ⟨0x4000000000000000000000000000000, 0, 0⟩

theorem Does.predNote {G : Foot} {z s : State} (h : Does G z s) (hg : Foot.predNote.leB G = true) (r : Nat) (di : Nat) : Does G z (State.predNote s r di) := by
  unfold State.predNote
  with_reducible repeat' first
    | assumption | refine Does.wr ?_ ?_ _ _ _ | refine Does.wrSat ?_ ?_ _ _ _ | exact Foot.upR hg (by decide)

def Foot.riseShow : Foot := ⟨0x1000000000000000000000000000000, 0x400000000000000000000000000000000000000, 0⟩

theorem Does.riseShow {G : Foot} {z s : State} (h : Does G z s) (hg : Foot.riseShow.leB G = true) (r : Nat) : Does G z (State.riseShow s r) := by
  unfold State.riseShow
  with_reducible repeat' first
    | assumption
    | (extract_lets +onlyGivenNames a; first | (refine (fun (k : Does G z a) => ?_) ?_; rotate_left; unfold a; clear a; rotate_left; clear_value a; revert a; intros) | (clear_value a; revert a; intros))
    | refine Does.wr ?_ ?_ _ _ _ | refine Does.setV ?_ ?_ _ _ _ | (refine Does.when ?_ _ _ fun _ _ => ?_)
    | exact Foot.upR hg (by decide) | exact Foot.upV hg (by decide)

def Foot.setRise : Foot := ⟨0, 0, 0x400⟩

theorem Does.setRise {G : Foot} {z s : State} (h : Does G z s) (hg : Foot.setRise.leB G = true) (l : List RiseReq) : Does G z (State.setRise s l) := by
  unfold State.setRise
  with_reducible repeat' first
    | assumption | (dsimp -zeta only) | split | refine Does.snd ‹_ = (_, _)› ?_
    | (refine Does.mk' ?_ rfl rfl rfl rfl rfl rfl rfl rfl rfl rfl ?_; rotate_left; intro p hn; cases p <;> first | with_unfolding_all rfl | exact Foot.noP hg (by decide) hn)

def Foot.riseStop : Foot := ⟨0x7000000000000000001000000000000000000000000000000, 0x80000400000000000000000000000000000000000007, 0x420⟩

theorem Does.riseStop {G : Foot} {z s : State} (h : Does G z s) (hg : Foot.riseStop.leB G = true) (sel : RiseReq → Bool) : Does G z (State.riseStop s sel) := by
  unfold State.riseStop
  with_reducible repeat' first
    | assumption
    | (extract_lets +onlyGivenNames a; first | (refine (fun (k : Does G z a) => ?_) ?_; rotate_left; unfold a; clear a; rotate_left; clear_value a; revert a; intros) | (clear_value a; revert a; intros))
    | refine Does.setV ?_ ?_ _ _ _ | (refine Does.when ?_ _ _ fun _ _ => ?_) | (refine Does.each ?_ _ _ fun _ _ _ _ => ?_)
    | refine Does.setRise ?_ (Foot.up hg (by decide)) _ | refine Does.shapeFrame ?_ (Foot.up hg (by decide)) _ _ _ _ _
    | refine Does.riseShow ?_ (Foot.up hg (by decide)) _ | exact Foot.upV hg (by decide)

def Foot.riseOpen : Foot := ⟨0x7004000000000000015002000000000130200008000020000, 0x2020000000000000000000000000000000000000000000005A0000000000000000000000000000000000007, 0x430⟩

theorem Does.riseOpen {G : Foot} {z s : State} (h : Does G z s) (hg : Foot.riseOpen.leB G = true) (o : Nat) (r : Nat) : Does G z (State.riseOpen s o r) := by
  unfold State.riseOpen
  with_reducible repeat' first
    | assumption
    | (extract_lets +onlyGivenNames a; first | (refine (fun (k : Does G z a) => ?_) ?_; rotate_left; unfold a; clear a; rotate_left; clear_value a; revert a; intros) | (clear_value a; revert a; intros))
    | refine Does.setV ?_ ?_ _ _ _ | refine Does.predNote ?_ (Foot.up hg (by decide)) _ _
    | refine Does.setRise ?_ (Foot.up hg (by decide)) _ | refine Does.incSat ?_ ?_ _ _ _
    | refine Does.shedAbort ?_ (Foot.up hg (by decide)) _ | refine Does.shapeFrame ?_ (Foot.up hg (by decide)) _ _ _ _ _
    | refine Does.riseShow ?_ (Foot.up hg (by decide)) _ | exact Foot.upR hg (by decide) | exact Foot.upV hg (by decide)
    | (dsimp -zeta only) | refine Does.ite ?_ ?_ | refine Does.ite_snd ?_ ?_ | refine Foot.pick ?_ ?_ | split

def Foot.formThat : Foot := ⟨0x7004000000000000015002000000000130200008000030000, 0x2020000000000000000000000000000000000000000800005A0000000000000000000000000000000000007, 0x430⟩

theorem Does.formThat {G : Foot} {z s : State} (h : Does G z s) (hg : Foot.formThat.leB G = true) (o : Nat) : Does G z (State.formThat s o) := by
  unfold State.formThat
  with_reducible repeat' first
    | assumption
    | (extract_lets +onlyGivenNames a; first | (refine (fun (k : Does G z a) => ?_) ?_; rotate_left; unfold a; clear a; rotate_left; clear_value a; revert a; intros) | (clear_value a; revert a; intros))
    | refine Does.flag ?_ ?_ _ _ _ | refine Does.setV ?_ ?_ _ _ _ | (refine Does.when ?_ _ _ fun _ _ => ?_)
    | (refine Does.each ?_ _ _ fun _ _ _ _ => ?_) | refine Does.riseOpen ?_ (Foot.up hg (by decide)) _ _
    | exact Foot.upR hg (by decide) | exact Foot.upV hg (by decide) | exact Foot.upM hg ‹_ ∈ _› (by decide)
    | (dsimp -zeta only) | refine Does.ite ?_ ?_ | refine Does.ite_snd ?_ ?_ | refine Foot.pick ?_ ?_ | split

def Foot.slotShape : Foot := ⟨0x7004000000000000015002000000000130200008000030000, 0x2020000000000000000000000000000000000000000800005A0000000000000000000000000000000000007, 0x430⟩

theorem Does.slotShape {G : Foot} {z s : State} (h : Does G z s) (hg : Foot.slotShape.leB G = true) (c : Nat) : Does G z (State.slotShape s c) := by
  unfold State.slotShape
  with_reducible repeat' first
    | assumption
    | (extract_lets +onlyGivenNames a; first | (refine (fun (k : Does G z a) => ?_) ?_; rotate_left; unfold a; clear a; rotate_left; clear_value a; revert a; intros) | (clear_value a; revert a; intros))
    | (refine Does.each ?_ _ _ fun _ _ _ _ => ?_) | refine Does.formThat ?_ (Foot.up hg (by decide)) _

def Foot.shapeCancel : Foot := ⟨0x7000000000000000001000000000000000000000000020000, 0x80000400000000000000000000000000000000000007, 0x420⟩

theorem Does.shapeCancel {G : Foot} {z s : State} (h : Does G z s) (hg : Foot.shapeCancel.leB G = true) (o : Nat) : Does G z (State.shapeCancel s o) := by
  unfold State.shapeCancel
  with_reducible repeat' first
    | assumption
    | (extract_lets +onlyGivenNames a; first | (refine (fun (k : Does G z a) => ?_) ?_; rotate_left; unfold a; clear a; rotate_left; clear_value a; revert a; intros) | (clear_value a; revert a; intros))
    | refine Does.setV ?_ ?_ _ _ _ | refine Does.incSat ?_ ?_ _ _ _ | refine Does.riseStop ?_ (Foot.up hg (by decide)) _
    | refine Does.setRise ?_ (Foot.up hg (by decide)) _ | exact Foot.upR hg (by decide) | exact Foot.upV hg (by decide)

def Foot.riseComplete : Foot := ⟨0, 0x80000000000000000000000000000000000000000000, 0x400⟩

theorem Does.riseComplete {G : Foot} {z s : State} (h : Does G z s) (hg : Foot.riseComplete.leB G = true) (o : Nat) (g : Nat) (span : Nat) : Does G z (State.riseComplete s o g span) := by
  unfold State.riseComplete
  with_reducible repeat' first
    | assumption
    | (extract_lets +onlyGivenNames a; first | (refine (fun (k : Does G z a) => ?_) ?_; rotate_left; unfold a; clear a; rotate_left; clear_value a; revert a; intros) | (clear_value a; revert a; intros))
    | refine Does.setV ?_ ?_ _ _ _ | refine Does.setRise ?_ (Foot.up hg (by decide)) _ | exact Foot.upV hg (by decide)

def Foot.riseSent : Foot := ⟨0, 0, 0x400⟩

theorem Does.riseSent {G : Foot} {z s : State} (h : Does G z s) (hg : Foot.riseSent.leB G = true) (o : Nat) : Does G z (State.riseSent s o) := by
  unfold State.riseSent
  with_reducible repeat' first
    | assumption | refine Does.setRise ?_ (Foot.up hg (by decide)) _

def Foot.riseStopAll : Foot := ⟨0x7000000000000000001000000000000000000000000000000, 0x80000400000000000000000000000000000000000007, 0x420⟩

theorem Does.riseStopAll {G : Foot} {z s : State} (h : Does G z s) (hg : Foot.riseStopAll.leB G = true) : Does G z (State.riseStopAll s) := by
  unfold State.riseStopAll
  with_reducible repeat' first
    | assumption | refine Does.riseStop ?_ (Foot.up hg (by decide)) _

def Foot.proofShape : Foot := ⟨0x70040000000000000040000000000000000000000000E0000, 0x40000000000000000000000000000000000000000007, 0x20⟩

theorem Does.proofShape {G : Foot} {z s : State} (h : Does G z s) (hg : Foot.proofShape.leB G = true) (o : Nat) (ws : List Watch) : Does G z (State.proofShape s o ws).2.2 := by
  unfold State.proofShape
  with_reducible repeat' first
    | assumption
    | (extract_lets +onlyGivenNames a; first | (refine (fun (k : Does G z a) => ?_) ?_; rotate_left; unfold a; clear a; rotate_left; clear_value a; revert a; intros) | (clear_value a; revert a; intros))
    | refine Does.wr ?_ ?_ _ _ _ | refine Does.setV ?_ ?_ _ _ _ | (refine Does.each ?_ _ _ fun _ _ _ _ => ?_)
    | refine Does.predNote ?_ (Foot.up hg (by decide)) _ _ | refine Does.incSat ?_ ?_ _ _ _ | refine Does.wrSat ?_ ?_ _ _ _
    | refine Does.incWrap ?_ ?_ _ _ _ | refine Does.shapeFrame ?_ (Foot.up hg (by decide)) _ _ _ _ _
    | exact Foot.upR hg (by decide) | exact Foot.upV hg (by decide) | exact Foot.upM hg ‹_ ∈ _› (by decide)
    | (dsimp -zeta only) | refine Does.ite ?_ ?_ | refine Does.ite_snd ?_ ?_ | refine Foot.pick ?_ ?_ | split


end Sys2Proof.Machine
end

