-- ==== Sys2Proof/Laws/FootC.lean ====
section
/-!
SUPPORT. Does, with its footprint, for the operations of Sync, SyncLeaf, Link, Pkg, RailCmd, PkgCmd, Crust.
-/
set_option linter.tactic.unusedName false
set_option linter.unusedVariables false
set_option linter.unusedTactic false
set_option linter.unreachableTactic false
namespace Sys2Proof.Machine

def Foot.syncPut : Foot := ⟨0, 0, 0x800⟩

theorem Does.syncPut {G : Foot} {z s : State} (h : Does G z s) (hg : Foot.syncPut.leB G = true) (x : SyncOut) : Does G z (State.syncPut s x) := by
  unfold State.syncPut
  with_reducible repeat' first
    | assumption | (dsimp -zeta only) | split | refine Does.snd ‹_ = (_, _)› ?_
    | (refine Does.mk' ?_ rfl rfl rfl rfl rfl rfl rfl rfl rfl rfl ?_; rotate_left; intro p hn; cases p <;> first | with_unfolding_all rfl | exact Foot.noP hg (by decide) hn)

def Foot.setWatches : Foot := ⟨0, 0, 0x400⟩

theorem Does.setWatches {G : Foot} {z s : State} (h : Does G z s) (hg : Foot.setWatches.leB G = true) (l : List Watch) : Does G z (State.setWatches s l) := by
  unfold State.setWatches
  with_reducible repeat' first
    | assumption | (dsimp -zeta only) | split | refine Does.snd ‹_ = (_, _)› ?_
    | (refine Does.mk' ?_ rfl rfl rfl rfl rfl rfl rfl rfl rfl rfl ?_; rotate_left; intro p hn; cases p <;> first | with_unfolding_all rfl | exact Foot.noP hg (by decide) hn)

def Foot.syncFrame : Foot := ⟨0x7000000000000000000000000000000000000000000000000, 0x7, 0x20⟩

theorem Does.syncFrame {G : Foot} {z s : State} (h : Does G z s) (hg : Foot.syncFrame.leB G = true) (op : Nat) (o : Nat) (n : Nat) (st : Nat) : Does G z (State.syncFrame s op o n st) := by
  unfold State.syncFrame
  with_reducible repeat' first
    | assumption | refine Does.frame ?_ (Foot.up hg (by decide)) _ _ _ _ _ _

def Foot.syncDir : Foot := ⟨0, 0, 0x800⟩

theorem Does.syncDir {G : Foot} {z s : State} (h : Does G z s) (hg : Foot.syncDir.leB G = true) (w : Watch) (gen : Nat) (st : Nat) : Does G z (State.syncDir s w gen st) := by
  unfold State.syncDir
  with_reducible repeat' first
    | assumption
    | (extract_lets +onlyGivenNames a; first | (refine (fun (k : Does G z a) => ?_) ?_; rotate_left; unfold a; clear a; rotate_left; clear_value a; revert a; intros) | (clear_value a; revert a; intros))
    | refine Does.syncPut ?_ (Foot.up hg (by decide)) _

def Foot.fire : Foot := ⟨0, 0, 0xC00⟩

theorem Does.fire {G : Foot} {z s : State} (h : Does G z s) (hg : Foot.fire.leB G = true) (o : Nat) (gen : Nat) (st : Nat) (shape : Nat) (sel : Watch → Bool) : Does G z (State.fire s o gen st shape sel) := by
  unfold State.fire
  with_reducible repeat' first
    | assumption
    | (extract_lets +onlyGivenNames a; first | (refine (fun (k : Does G z a) => ?_) ?_; rotate_left; unfold a; clear a; rotate_left; clear_value a; revert a; intros) | (clear_value a; revert a; intros))
    | (refine Does.when ?_ _ _ fun _ _ => ?_) | (refine Does.each ?_ _ _ fun _ _ _ _ => ?_)
    | refine Does.setWatches ?_ (Foot.up hg (by decide)) _ | refine Does.syncPut ?_ (Foot.up hg (by decide)) _
    | refine Does.syncDir ?_ (Foot.up hg (by decide)) _ _ _

def Foot.claim : Foot := ⟨0x300000000000000000000000000000000000000000000, 0, 0xC00⟩

theorem Does.claim {G : Foot} {z s : State} (h : Does G z s) (hg : Foot.claim.leB G = true) (w : Watch) : Does G z (State.claim s w) := by
  unfold State.claim
  with_reducible repeat' first
    | assumption
    | (extract_lets +onlyGivenNames a; first | (refine (fun (k : Does G z a) => ?_) ?_; rotate_left; unfold a; clear a; rotate_left; clear_value a; revert a; intros) | (clear_value a; revert a; intros))
    | refine Does.wr ?_ ?_ _ _ _ | refine Does.syncDir ?_ (Foot.up hg (by decide)) _ _ _ | refine Does.incWrap ?_ ?_ _ _ _
    | exact Foot.upR hg (by decide) | (dsimp -zeta only) | refine Does.ite ?_ ?_ | refine Does.ite_snd ?_ ?_
    | refine Foot.pick ?_ ?_ | split | refine Does.snd ‹_ = (_, _)› ?_
    | (refine Does.mk' ?_ rfl rfl rfl rfl rfl rfl rfl rfl rfl rfl ?_; rotate_left; intro p hn; cases p <;> first | with_unfolding_all rfl | exact Foot.noP hg (by decide) hn)

def Foot.semServe : Foot := ⟨0x300000000000000000000000000000000000000000000, 0, 0xC00⟩

theorem Does.semServe {G : Foot} {z s : State} (h : Does G z s) (hg : Foot.semServe.leB G = true) (o : Nat) (fuel : Nat) : Does G z (State.semServe s o fuel) := by
  induction fuel generalizing s with
  | zero =>
    unfold State.semServe
    exact h
  | succ fuel ih =>
    unfold State.semServe
    with_reducible repeat' first
      | assumption | refine Does.claim ?_ (Foot.up hg (by decide)) _ | refine Does.fire ?_ (Foot.up hg (by decide)) _ _ _ _ _
      | refine ih ?_ | (dsimp -zeta only) | refine Does.ite ?_ ?_ | refine Does.ite_snd ?_ ?_ | refine Foot.pick ?_ ?_ | split
  
def Foot.semRun : Foot := ⟨0x300000000000000000000000000000000000000000000, 0, 0xC00⟩

theorem Does.semRun {G : Foot} {z s : State} (h : Does G z s) (hg : Foot.semRun.leB G = true) (o : Nat) : Does G z (State.semRun s o) := by
  unfold State.semRun
  with_reducible repeat' first
    | assumption | refine Does.semServe ?_ (Foot.up hg (by decide)) _ _

def Foot.flagServe : Foot := ⟨0x300000000000000000000000000000000000000000000, 0, 0xC00⟩

theorem Does.flagServe {G : Foot} {z s : State} (h : Does G z s) (hg : Foot.flagServe.leB G = true) (o : Nat) : Does G z (State.flagServe s o) := by
  unfold State.flagServe
  with_reducible repeat' first
    | assumption | refine Does.claim ?_ (Foot.up hg (by decide)) _ | (dsimp -zeta only) | refine Does.ite ?_ ?_
    | refine Does.ite_snd ?_ ?_ | refine Foot.pick ?_ ?_ | split

def Foot.flagSet : Foot := ⟨0x300000000000000000000000000000000000000000000, 0, 0xC00⟩

theorem Does.flagSet {G : Foot} {z s : State} (h : Does G z s) (hg : Foot.flagSet.leB G = true) (o : Nat) : Does G z (State.flagSet s o) := by
  unfold State.flagSet
  with_reducible repeat' first
    | assumption
    | (extract_lets +onlyGivenNames a; first | (refine (fun (k : Does G z a) => ?_) ?_; rotate_left; unfold a; clear a; rotate_left; clear_value a; revert a; intros) | (clear_value a; revert a; intros))
    | refine Does.wr ?_ ?_ _ _ _ | refine Does.fire ?_ (Foot.up hg (by decide)) _ _ _ _ _ | refine Does.incWrap ?_ ?_ _ _ _
    | refine Does.flagServe ?_ (Foot.up hg (by decide)) _ | exact Foot.upR hg (by decide) | (dsimp -zeta only)
    | refine Does.ite ?_ ?_

def Foot.claimBack : Foot := ⟨0x300000000000000000000000000000000000000000000, 0, 0xC00⟩

theorem Does.claimBack {G : Foot} {z s : State} (h : Does G z s) (hg : Foot.claimBack.leB G = true) (w : Watch) : Does G z (State.claimBack s w) := by
  unfold State.claimBack
  with_reducible repeat' first
    | assumption
    | (extract_lets +onlyGivenNames a; first | (refine (fun (k : Does G z a) => ?_) ?_; rotate_left; unfold a; clear a; rotate_left; clear_value a; revert a; intros) | (clear_value a; revert a; intros))
    | refine Does.wr ?_ ?_ _ _ _ | refine Does.incSat ?_ ?_ _ _ _ | refine Does.semRun ?_ (Foot.up hg (by decide)) _
    | refine Does.flagServe ?_ (Foot.up hg (by decide)) _ | exact Foot.upR hg (by decide) | (dsimp -zeta only)
    | refine Does.ite ?_ ?_

def Foot.syncAbsent : Foot := ⟨0x300000000000000000000000000000000000000002000, 0, 0xC00⟩

theorem Does.syncAbsent {G : Foot} {z s : State} (h : Does G z s) (hg : Foot.syncAbsent.leB G = true) (d : Nat) : Does G z (State.syncAbsent s d) := by
  unfold State.syncAbsent
  with_reducible repeat' first
    | assumption
    | (extract_lets +onlyGivenNames a; first | (refine (fun (k : Does G z a) => ?_) ?_; rotate_left; unfold a; clear a; rotate_left; clear_value a; revert a; intros) | (clear_value a; revert a; intros))
    | (refine Does.each ?_ _ _ fun _ _ _ _ => ?_) | refine Does.setWatches ?_ (Foot.up hg (by decide)) _
    | refine Does.incSat ?_ ?_ _ _ _ | refine Does.claimBack ?_ (Foot.up hg (by decide)) _ | exact Foot.upR hg (by decide)
    | (dsimp -zeta only) | split | refine Does.snd ‹_ = (_, _)› ?_
    | (refine Does.mk' ?_ rfl rfl rfl rfl rfl rfl rfl rfl rfl rfl ?_; rotate_left; intro p hn; cases p <;> first | with_unfolding_all rfl | exact Foot.noP hg (by decide) hn)

def Foot.jobOf : Foot := ⟨0, 0, 0x40000⟩

theorem Does.jobOf {G : Foot} {z s : State} (h : Does G z s) (hg : Foot.jobOf.leB G = true) (o : Nat) : Does G z (State.jobOf s o).2 := by
  unfold State.jobOf
  with_reducible repeat' first
    | assumption
    | (extract_lets +onlyGivenNames a; first | (refine (fun (k : Does G z a) => ?_) ?_; rotate_left; unfold a; clear a; rotate_left; clear_value a; revert a; intros) | (clear_value a; revert a; intros))
    | refine Does.freshFree ?_ (Foot.upP hg (by decide)) | (dsimp -zeta only) | split

def Foot.breakSend : Foot := ⟨0, 0, 0x40800⟩

theorem Does.breakSend {G : Foot} {z s : State} (h : Does G z s) (hg : Foot.breakSend.leB G = true) (o : Nat) (reason : Nat) (skip : Option Nat) : Does G z (State.breakSend s o reason skip) := by
  unfold State.breakSend
  with_reducible repeat' first
    | assumption
    | (extract_lets +onlyGivenNames a; first | (refine (fun (k : Does G z a) => ?_) ?_; rotate_left; unfold a; clear a; rotate_left; clear_value a; revert a; intros) | (clear_value a; revert a; intros))
    | (refine Does.each ?_ _ _ fun _ _ _ _ => ?_) | refine Does.jobOf ?_ (Foot.up hg (by decide)) _
    | refine Does.syncPut ?_ (Foot.up hg (by decide)) _

def Foot.objBreak : Foot := ⟨0x7000100000000000001000000000000000000000000020000, 0xA0000400000000000000000000000000000000000007, 0xC20⟩

theorem Does.objBreak {G : Foot} {z s : State} (h : Does G z s) (hg : Foot.objBreak.leB G = true) (o : Nat) : Does G z (State.objBreak s o) := by
  unfold State.objBreak
  with_reducible repeat' first
    | assumption
    | (extract_lets +onlyGivenNames a; first | (refine (fun (k : Does G z a) => ?_) ?_; rotate_left; unfold a; clear a; rotate_left; clear_value a; revert a; intros) | (clear_value a; revert a; intros))
    | refine Does.wr ?_ ?_ _ _ _ | refine Does.setV ?_ ?_ _ _ _ | (refine Does.when ?_ _ _ fun _ _ => ?_)
    | (refine Does.each ?_ _ _ fun _ _ _ _ => ?_) | refine Does.syncFrame ?_ (Foot.up hg (by decide)) _ _ _ _
    | refine Does.fire ?_ (Foot.up hg (by decide)) _ _ _ _ _ | refine Does.shapeCancel ?_ (Foot.up hg (by decide)) _
    | exact Foot.upR hg (by decide) | exact Foot.upV hg (by decide)

def Foot.spanBreak : Foot := ⟨0x7000100000000000001000000000000000000000000020000, 0xA0000400000000000000000000000000000000000007, 0x40C20⟩

theorem Does.spanBreak {G : Foot} {z s : State} (h : Does G z s) (hg : Foot.spanBreak.leB G = true) (o : Nat) (reason : Nat) (skip : Option Nat) : Does G z (State.spanBreak s o reason skip) := by
  unfold State.spanBreak
  with_reducible repeat' first
    | assumption | refine Does.objBreak ?_ (Foot.up hg (by decide)) _ | refine Does.breakSend ?_ (Foot.up hg (by decide)) _ _ _

def Foot.spanBreakAll : Foot := ⟨0x7000100000000000001000000000000000000000000020000, 0xA0000400000000000000000000000000000000000007, 0x40C20⟩

theorem Does.spanBreakAll {G : Foot} {z s : State} (h : Does G z s) (hg : Foot.spanBreakAll.leB G = true) (tag : Nat → Bool) (reason : Nat) (skip : Option Nat) : Does G z (State.spanBreakAll s tag reason skip) := by
  unfold State.spanBreakAll
  with_reducible repeat' first
    | assumption
    | (extract_lets +onlyGivenNames a; first | (refine (fun (k : Does G z a) => ?_) ?_; rotate_left; unfold a; clear a; rotate_left; clear_value a; revert a; intros) | (clear_value a; revert a; intros))
    | (refine Does.when ?_ _ _ fun _ _ => ?_) | (refine Does.each ?_ _ _ fun _ _ _ _ => ?_)
    | refine Does.freshFree ?_ (Foot.upP hg (by decide)) | refine Does.objBreak ?_ (Foot.up hg (by decide)) _
    | refine Does.syncPut ?_ (Foot.up hg (by decide)) _

def Foot.complete1 : Foot := ⟨0x3407004310001003E00015002003C000001302000780004F0C40, 0x20200000000000000000000000000000000000070CFD90005A000000FF00000000000000000000000000007, 0x42EF0⟩

theorem Does.complete1 {G : Foot} {z s : State} (h : Does G z s) (hg : Foot.complete1.leB G = true) (o : Nat) (op : Nat) : Does G z (State.complete1 s o op) := by
  unfold State.complete1
  with_reducible repeat' first
    | assumption
    | (extract_lets +onlyGivenNames a; first | (refine (fun (k : Does G z a) => ?_) ?_; rotate_left; unfold a; clear a; rotate_left; clear_value a; revert a; intros) | (clear_value a; revert a; intros))
    | refine Does.wr ?_ ?_ _ _ _ | refine Does.setV ?_ ?_ _ _ _ | refine Does.syncFrame ?_ (Foot.up hg (by decide)) _ _ _ _
    | refine Does.proofShape ?_ (Foot.up hg (by decide)) _ _ | refine Does.fire ?_ (Foot.up hg (by decide)) _ _ _ _ _
    | refine Does.riseComplete ?_ (Foot.up hg (by decide)) _ _ _ | refine Does.syncPut ?_ (Foot.up hg (by decide)) _
    | refine Does.tagMark ?_ (Foot.up hg (by decide)) _ _ _ | refine Does.slotShape ?_ (Foot.up hg (by decide)) _
    | exact Foot.upR hg (by decide) | exact Foot.upV hg (by decide) | (dsimp -zeta only) | refine Does.ite ?_ ?_
    | refine Does.ite_snd ?_ ?_ | refine Foot.pick ?_ ?_ | split

def Foot.spanAccept : Foot := ⟨0x100000000000000000000000000000000000000000000, 0x20000000000000000000000000000000000000000000, 0⟩

theorem Does.spanAccept {G : Foot} {z s : State} (h : Does G z s) (hg : Foot.spanAccept.leB G = true) (o : Nat) : Does G z (State.spanAccept s o).2 := by
  unfold State.spanAccept
  with_reducible repeat' first
    | assumption
    | (extract_lets +onlyGivenNames a; first | (refine (fun (k : Does G z a) => ?_) ?_; rotate_left; unfold a; clear a; rotate_left; clear_value a; revert a; intros) | (clear_value a; revert a; intros))
    | refine Does.wr ?_ ?_ _ _ _ | refine Does.setV ?_ ?_ _ _ _ | exact Foot.upR hg (by decide) | exact Foot.upV hg (by decide)
    | (dsimp -zeta only) | refine Does.ite ?_ ?_ | refine Does.ite_snd ?_ ?_

def Foot.spanGather : Foot := ⟨0x100000000000000000000000000000000000000000000, 0x20000000000000000000000000000000000000000000, 0x40800⟩

theorem Does.spanGather {G : Foot} {z s : State} (h : Does G z s) (hg : Foot.spanGather.leB G = true) (o : Nat) : Does G z (State.spanGather s o).2 := by
  unfold State.spanGather
  with_reducible repeat' first
    | assumption
    | (extract_lets +onlyGivenNames a; first | (refine (fun (k : Does G z a) => ?_) ?_; rotate_left; unfold a; clear a; rotate_left; clear_value a; revert a; intros) | (clear_value a; revert a; intros))
    | (refine Does.each ?_ _ _ fun _ _ _ _ => ?_) | refine Does.jobOf ?_ (Foot.up hg (by decide)) _
    | refine Does.syncPut ?_ (Foot.up hg (by decide)) _ | refine Does.spanAccept ?_ (Foot.up hg (by decide)) _
    | (dsimp -zeta only) | refine Does.ite ?_ ?_ | refine Does.ite_snd ?_ ?_ | refine Foot.pick ?_ ?_ | split

def Foot.reached : Foot := ⟨0x3407004310001003E00015002003C000001302000780004F0C40, 0x20200000000000000000000000000000000000070CFF90005A000000FF00000000000000000000000000007, 0x42EF0⟩

theorem Does.reached {G : Foot} {z s : State} (h : Does G z s) (hg : Foot.reached.leB G = true) (o : Nat) (op : Nat) : Does G z (State.reached s o op) := by
  unfold State.reached
  with_reducible repeat' first
    | assumption
    | (extract_lets +onlyGivenNames a; first | (refine (fun (k : Does G z a) => ?_) ?_; rotate_left; unfold a; clear a; rotate_left; clear_value a; revert a; intros) | (clear_value a; revert a; intros))
    | refine Does.wr ?_ ?_ _ _ _ | refine Does.spanGather ?_ (Foot.up hg (by decide)) _
    | refine Does.complete1 ?_ (Foot.up hg (by decide)) _ _ | exact Foot.upR hg (by decide) | (dsimp -zeta only)
    | refine Does.ite ?_ ?_

def Foot.spanComplete : Foot := ⟨0x3407004310001003E00015002003C000001302000780004F0C40, 0x20200000000000000000000000000000000000070CFF90005A000000FF00000000000000000000000000007, 0x42EF0⟩

theorem Does.spanComplete {G : Foot} {z s : State} (h : Does G z s) (hg : Foot.spanComplete.leB G = true) (o : Nat) : Does G z (State.spanComplete s o) := by
  unfold State.spanComplete
  with_reducible repeat' first
    | assumption
    | (extract_lets +onlyGivenNames a; first | (refine (fun (k : Does G z a) => ?_) ?_; rotate_left; unfold a; clear a; rotate_left; clear_value a; revert a; intros) | (clear_value a; revert a; intros))
    | refine Does.setV ?_ ?_ _ _ _ | refine Does.complete1 ?_ (Foot.up hg (by decide)) _ _
    | refine Does.reached ?_ (Foot.up hg (by decide)) _ _ | exact Foot.upV hg (by decide) | (dsimp -zeta only)
    | refine Does.ite ?_ ?_

def Foot.portShow : Foot := ⟨0x410000000000000000000000000000000000000000000000000, 0, 0⟩

theorem Does.portShow {G : Foot} {z s : State} (h : Does G z s) (hg : Foot.portShow.leB G = true) (n : Nat) (st : Nat) : Does G z (State.portShow s n st) := by
  unfold State.portShow
  with_reducible repeat' first
    | assumption
    | (extract_lets +onlyGivenNames a; first | (refine (fun (k : Does G z a) => ?_) ?_; rotate_left; unfold a; clear a; rotate_left; clear_value a; revert a; intros) | (clear_value a; revert a; intros))
    | refine Does.wr ?_ ?_ _ _ _ | exact Foot.upR hg (by decide)

def Foot.portLeaves : Foot := ⟨0x30A7004110007703F00001000000006000130200078000420060, 0xD9000A00004000000000060014000C0000000000000000007, 0x40CB0⟩

theorem Does.portLeaves {G : Foot} {z s : State} (h : Does G z s) (hg : Foot.portLeaves.leB G = true) (n : Nat) (reason : Nat) (failed : Bool) : Does G z (State.portLeaves s n reason failed) := by
  unfold State.portLeaves
  with_reducible repeat' first
    | assumption
    | (extract_lets +onlyGivenNames a; first | (refine (fun (k : Does G z a) => ?_) ?_; rotate_left; unfold a; clear a; rotate_left; clear_value a; revert a; intros) | (clear_value a; revert a; intros))
    | refine Does.setV ?_ ?_ _ _ _ | (refine Does.when ?_ _ _ fun _ _ => ?_)
    | refine Does.spanBreakAll ?_ (Foot.up hg (by decide)) _ _ _ | refine Does.leasePortDown ?_ (Foot.up hg (by decide)) _ _
    | refine Does.wrI ?_ ?_ _ _ _ | exact Foot.upR hg (by decide) | exact Foot.upV hg (by decide)

def Foot.portDown : Foot := ⟨0x3CB7004110007703F00001000000006000130200078000420060, 0xD9040A20004000000000060014000C0000000000000000007, 0x40CB0⟩

theorem Does.portDown {G : Foot} {z s : State} (h : Does G z s) (hg : Foot.portDown.leB G = true) (n : Nat) : Does G z (State.portDown s n) := by
  unfold State.portDown
  with_reducible repeat' first
    | assumption
    | (extract_lets +onlyGivenNames a; first | (refine (fun (k : Does G z a) => ?_) ?_; rotate_left; unfold a; clear a; rotate_left; clear_value a; revert a; intros) | (clear_value a; revert a; intros))
    | refine Does.setV ?_ ?_ _ _ _ | (refine Does.when ?_ _ _ fun _ _ => ?_)
    | refine Does.portShow ?_ (Foot.up hg (by decide)) _ _ | refine Does.incSat ?_ ?_ _ _ _
    | refine Does.portLeaves ?_ (Foot.up hg (by decide)) _ _ _ | refine Does.event ?_ (Foot.up hg (by decide)) _ _
    | exact Foot.upR hg (by decide) | exact Foot.upV hg (by decide) | (dsimp -zeta only) | refine Does.ite ?_ ?_

def Foot.toHubChildren : Foot := ⟨0x310000002000000000000000000000000000000402000, 0, 0xC00⟩

theorem Does.toHubChildren {G : Foot} {z s : State} (h : Does G z s) (hg : Foot.toHubChildren.leB G = true) (payload : Nat) : Does G z (State.toHubChildren s payload) := by
  unfold State.toHubChildren
  with_reducible repeat' first
    | assumption
    | (extract_lets +onlyGivenNames a; first | (refine (fun (k : Does G z a) => ?_) ?_; rotate_left; unfold a; clear a; rotate_left; clear_value a; revert a; intros) | (clear_value a; revert a; intros))
    | (refine Does.each ?_ _ _ fun _ _ _ _ => ?_) | refine Does.sendDown ?_ (Foot.up hg (by decide)) _ _ _
    | refine Does.syncAbsent ?_ (Foot.up hg (by decide)) _ | (dsimp -zeta only) | refine Does.ite ?_ ?_

def Foot.syncSend : Foot := ⟨0x3CB7004310007703F00001000000006000130200079800422060, 0xD9040A30004000000000060014000C0000000000000000007, 0x40CB0⟩

theorem Does.syncSend {G : Foot} {z s : State} (h : Does G z s) (hg : Foot.syncSend.leB G = true) (x : SyncOut) : Does G z (State.syncSend s x) := by
  unfold State.syncSend
  with_reducible repeat' first
    | assumption
    | (extract_lets +onlyGivenNames a; first | (refine (fun (k : Does G z a) => ?_) ?_; rotate_left; unfold a; clear a; rotate_left; clear_value a; revert a; intros) | (clear_value a; revert a; intros))
    | refine Does.toHubChildren ?_ (Foot.up hg (by decide)) _ | refine Does.sendDown ?_ (Foot.up hg (by decide)) _ _ _
    | refine Does.syncAbsent ?_ (Foot.up hg (by decide)) _ | refine Does.answerD ?_ (Foot.up hg (by decide)) _ _ _ _ _
    | refine Does.riseSent ?_ (Foot.up hg (by decide)) _ | refine Does.frameOut ?_ (Foot.up hg (by decide)) _ _ _
    | refine Does.portDown ?_ (Foot.up hg (by decide)) _ | (dsimp -zeta only) | refine Does.ite ?_ ?_
    | refine Does.ite_snd ?_ ?_ | refine Foot.pick ?_ ?_ | split

def Foot.syncDrain : Foot := ⟨0x3CB7004310007703F00001000000006000130200079800422060, 0xD9040A30004000000000060014000C0000000000000000007, 0x40CB0⟩

theorem Does.syncDrain {G : Foot} {z s : State} (h : Does G z s) (hg : Foot.syncDrain.leB G = true) (fuel : Nat) : Does G z (State.syncDrain s fuel) := by
  induction fuel generalizing s with
  | zero =>
    unfold State.syncDrain
    exact h
  | succ fuel ih =>
    unfold State.syncDrain
    with_reducible repeat' first
      | assumption | refine Does.syncSend ?_ (Foot.up hg (by decide)) _ | refine ih ?_ | (dsimp -zeta only) | split
      | refine Does.snd ‹_ = (_, _)› ?_
      | (refine Does.mk' ?_ rfl rfl rfl rfl rfl rfl rfl rfl rfl rfl ?_; rotate_left; intro p hn; cases p <;> first | with_unfolding_all rfl | exact Foot.noP hg (by decide) hn)
  
def Foot.syncFlush : Foot := ⟨0x3CB7004310007703F00001000000006000130200079800422060, 0xD9040A30004000000000060014000C0000000000000000007, 0x40CB0⟩

theorem Does.syncFlush {G : Foot} {z s : State} (h : Does G z s) (hg : Foot.syncFlush.leB G = true) : Does G z (State.syncFlush s) := by
  unfold State.syncFlush
  with_reducible repeat' first
    | assumption | refine Does.syncDrain ?_ (Foot.up hg (by decide)) _ | (dsimp -zeta only) | refine Does.ite ?_ ?_
    | refine Does.ite_snd ?_ ?_ | refine Foot.pick ?_ ?_ | split | refine Does.snd ‹_ = (_, _)› ?_
    | (refine Does.mk' ?_ rfl rfl rfl rfl rfl rfl rfl rfl rfl rfl ?_; rotate_left; intro p hn; cases p <;> first | with_unfolding_all rfl | exact Foot.noP hg (by decide) hn)

def Foot.heldSend : Foot := ⟨0x3CB7004310007703F00001000000006000130200079800422060, 0xD9040A30004000000000060014000C0000000000000000007, 0x40CB0⟩

theorem Does.heldSend {G : Foot} {z s : State} (h : Does G z s) (hg : Foot.heldSend.leB G = true) : Does G z (State.heldSend s) := by
  unfold State.heldSend
  with_reducible repeat' first
    | assumption | refine Does.syncDrain ?_ (Foot.up hg (by decide)) _ | (dsimp -zeta only) | split
    | refine Does.snd ‹_ = (_, _)› ?_
    | (refine Does.mk' ?_ rfl rfl rfl rfl rfl rfl rfl rfl rfl rfl ?_; rotate_left; intro p hn; cases p <;> first | with_unfolding_all rfl | exact Foot.noP hg (by decide) hn)

def Foot.heldAll : Foot := ⟨0x3CB7004310007703F00001000000006000130200079800422060, 0xD9040A30004000000000060014000C0000000000000000007, 0x40CB0⟩

theorem Does.heldAll {G : Foot} {z s : State} (h : Does G z s) (hg : Foot.heldAll.leB G = true) : Does G z (State.heldAll s) := by
  unfold State.heldAll
  with_reducible repeat' first
    | assumption | (refine Does.each ?_ _ _ fun _ _ _ _ => ?_) | refine Does.heldSend ?_ (Foot.up hg (by decide))
    | refine Does.ansGive ?_ (Foot.up hg (by decide))

def Foot.watchAdd : Foot := ⟨0x7004000000000000000000000000000130200008000002000, 0x7, 0x430⟩

theorem Does.watchAdd {G : Foot} {z s : State} (h : Does G z s) (hg : Foot.watchAdd.leB G = true) (o : Nat) (gen : Nat) (one : Bool) (w : Waiter) : Does G z (State.watchAdd s o gen one w).2 := by
  unfold State.watchAdd
  with_reducible repeat' first
    | assumption
    | (extract_lets +onlyGivenNames a; first | (refine (fun (k : Does G z a) => ?_) ?_; rotate_left; unfold a; clear a; rotate_left; clear_value a; revert a; intros) | (clear_value a; revert a; intros))
    | refine Does.flag ?_ ?_ _ _ _ | refine Does.event ?_ (Foot.up hg (by decide)) _ _
    | refine Does.setWatches ?_ (Foot.up hg (by decide)) _ | exact Foot.upR hg (by decide) | (dsimp -zeta only) | split

def Foot.watchOpt : Foot := ⟨0x7004000000000000000000000000000130200008000002000, 0x7, 0x430⟩

theorem Does.watchOpt {G : Foot} {z s : State} (h : Does G z s) (hg : Foot.watchOpt.leB G = true) (o : Nat) (gen : Nat) (w : Option Waiter) : Does G z (State.watchOpt s o gen w).2 := by
  unfold State.watchOpt
  with_reducible repeat' first
    | assumption | refine Does.watchAdd ?_ (Foot.up hg (by decide)) _ _ _ _ | (dsimp -zeta only) | split

def Foot.arrive : Foot := ⟨0x3407004310001003E00015002003C000001302000780004F2C40, 0x20200000000000000000000000000000000000070CFF90005A000000FF00000000000000000000000000007, 0x42EF0⟩

theorem Does.arrive {G : Foot} {z s : State} (h : Does G z s) (hg : Foot.arrive.leB G = true) (o : Nat) (agen : Nat) (w : Option Waiter) : Does G z (State.arrive s o agen w).2 := by
  unfold State.arrive
  with_reducible repeat' first
    | assumption
    | (extract_lets +onlyGivenNames a; first | (refine (fun (k : Does G z a) => ?_) ?_; rotate_left; unfold a; clear a; rotate_left; clear_value a; revert a; intros) | (clear_value a; revert a; intros))
    | refine Does.wr ?_ ?_ _ _ _ | refine Does.setV ?_ ?_ _ _ _ | (refine Does.when ?_ _ _ fun _ _ => ?_)
    | refine Does.watchOpt ?_ (Foot.up hg (by decide)) _ _ _ | refine Does.reached ?_ (Foot.up hg (by decide)) _ _
    | refine Does.formThat ?_ (Foot.up hg (by decide)) _ | refine Does.incSat ?_ ?_ _ _ _ | exact Foot.upR hg (by decide)
    | exact Foot.upV hg (by decide) | (dsimp -zeta only) | refine Does.ite ?_ ?_ | refine Does.ite_snd ?_ ?_

def Foot.waitOp : Foot := ⟨0x7004300000000000000000000000000130200008000002000, 0x7, 0xC30⟩

theorem Does.waitOp {G : Foot} {z s : State} (h : Does G z s) (hg : Foot.waitOp.leB G = true) (o : Nat) (gen : Nat) (one : Bool) (w : Waiter) : Does G z (State.waitOp s o gen one w).2 := by
  unfold State.waitOp
  with_reducible repeat' first
    | assumption
    | (extract_lets +onlyGivenNames a; first | (refine (fun (k : Does G z a) => ?_) ?_; rotate_left; unfold a; clear a; rotate_left; clear_value a; revert a; intros) | (clear_value a; revert a; intros))
    | refine Does.syncPut ?_ (Foot.up hg (by decide)) _ | refine Does.watchAdd ?_ (Foot.up hg (by decide)) _ _ _ _
    | refine Does.semRun ?_ (Foot.up hg (by decide)) _ | refine Does.flagServe ?_ (Foot.up hg (by decide)) _
    | refine Does.fire ?_ (Foot.up hg (by decide)) _ _ _ _ _ | (dsimp -zeta only) | refine Does.ite ?_ ?_
    | refine Does.ite_snd ?_ ?_

def Foot.objZero : Foot := ⟨0x300000000000000000000000000000000000000000000, 0xFF8000000000000000000000000000000000000000000, 0⟩

theorem Does.objZero {G : Foot} {z s : State} (h : Does G z s) (hg : Foot.objZero.leB G = true) (o : Nat) : Does G z (State.objZero s o) := by
  unfold State.objZero
  with_reducible repeat' first
    | assumption
    | (extract_lets +onlyGivenNames a; first | (refine (fun (k : Does G z a) => ?_) ?_; rotate_left; unfold a; clear a; rotate_left; clear_value a; revert a; intros) | (clear_value a; revert a; intros))
    | refine Does.setV ?_ ?_ _ _ _ | refine Does.setReg ?_ ?_ _ _ _ | (refine Does.each ?_ _ _ fun _ _ _ _ => ?_)
    | exact Foot.upR hg (by decide) | exact Foot.upV hg (by decide) | exact Foot.upM hg ‹_ ∈ _› (by decide)

def Foot.objInit : Foot := ⟨0x300000000000000000000000000000000000000000000, 0xFF8000000000000000000000000000000000000000000, 0⟩

theorem Does.objInit {G : Foot} {z s : State} (h : Does G z s) (hg : Foot.objInit.leB G = true) (o : Nat) (a0 : Nat) (a1 : Nat) (a2 : Nat) : Does G z (State.objInit s o a0 a1 a2) := by
  unfold State.objInit
  with_reducible repeat' first
    | assumption
    | (extract_lets +onlyGivenNames a; first | (refine (fun (k : Does G z a) => ?_) ?_; rotate_left; unfold a; clear a; rotate_left; clear_value a; revert a; intros) | (clear_value a; revert a; intros))
    | refine Does.wr ?_ ?_ _ _ _ | refine Does.objZero ?_ (Foot.up hg (by decide)) _ | exact Foot.upR hg (by decide)
    | (dsimp -zeta only) | refine Does.ite ?_ ?_ | refine Does.ite_snd ?_ ?_ | refine Foot.pick ?_ ?_ | split

def Foot.objReset : Foot := ⟨0x300000000000000000000000000000000000000000000, 0xF38000000000000000000000000000000000000000000, 0⟩

theorem Does.objReset {G : Foot} {z s : State} (h : Does G z s) (hg : Foot.objReset.leB G = true) (o : Nat) (gen : Nat) : Does G z (State.objReset s o gen) := by
  unfold State.objReset
  with_reducible repeat' first
    | assumption
    | (extract_lets +onlyGivenNames a; first | (refine (fun (k : Does G z a) => ?_) ?_; rotate_left; unfold a; clear a; rotate_left; clear_value a; revert a; intros) | (clear_value a; revert a; intros))
    | refine Does.wr ?_ ?_ _ _ _ | refine Does.setV ?_ ?_ _ _ _ | (refine Does.each ?_ _ _ fun _ _ _ _ => ?_)
    | exact Foot.upR hg (by decide) | exact Foot.upV hg (by decide) | exact Foot.upM hg ‹_ ∈ _› (by decide)

def Foot.objLeave : Foot := ⟨0x7000000000000000001000000000000000000000000020000, 0x80000400000000000000000000000000000000000007, 0x40C20⟩

theorem Does.objLeave {G : Foot} {z s : State} (h : Does G z s) (hg : Foot.objLeave.leB G = true) (o : Nat) : Does G z (State.objLeave s o) := by
  unfold State.objLeave
  with_reducible repeat' first
    | assumption
    | (extract_lets +onlyGivenNames a; first | (refine (fun (k : Does G z a) => ?_) ?_; rotate_left; unfold a; clear a; rotate_left; clear_value a; revert a; intros) | (clear_value a; revert a; intros))
    | (refine Does.when ?_ _ _ fun _ _ => ?_) | refine Does.shapeCancel ?_ (Foot.up hg (by decide)) _
    | refine Does.breakSend ?_ (Foot.up hg (by decide)) _ _ _

def Foot.setCount : Foot := ⟨0x3407004310001003E00015002003C000001302000780004F0C40, 0x20200000000000000000000000000000000000070CFF90005A000000FF00000000000000000000000000007, 0x42EF0⟩

theorem Does.setCount {G : Foot} {z s : State} (h : Does G z s) (hg : Foot.setCount.leB G = true) (o : Nat) (a0 : Nat) (a1 : Nat) : Does G z (State.setCount s o a0 a1) := by
  unfold State.setCount
  with_reducible repeat' first
    | assumption
    | (extract_lets +onlyGivenNames a; first | (refine (fun (k : Does G z a) => ?_) ?_; rotate_left; unfold a; clear a; rotate_left; clear_value a; revert a; intros) | (clear_value a; revert a; intros))
    | refine Does.wr ?_ ?_ _ _ _ | refine Does.reached ?_ (Foot.up hg (by decide)) _ _
    | refine Does.semRun ?_ (Foot.up hg (by decide)) _ | exact Foot.upR hg (by decide) | (dsimp -zeta only)
    | refine Does.ite ?_ ?_

def Foot.shortFlag : Foot := ⟨0x7004000000000000000000000000000130200008000002000, 0x7, 0x30⟩

theorem Does.shortFlag {G : Foot} {z s : State} (h : Does G z s) (hg : Foot.shortFlag.leB G = true) (short : Bool) : Does G z (State.shortFlag s short) := by
  unfold State.shortFlag
  with_reducible repeat' first
    | assumption | refine Does.flag ?_ ?_ _ _ _ | (refine Does.when ?_ _ _ fun _ _ => ?_)
    | refine Does.event ?_ (Foot.up hg (by decide)) _ _ | exact Foot.upR hg (by decide)

def Foot.opEffect : Foot := ⟨0x3407004310001003E00015002003C000001302000780004F2C40, 0x20200000000000000000000000000000000000070CFF90005A000000FF00000000000000000000000000007, 0x42EF0⟩

theorem Does.opEffect {G : Foot} {z s : State} (h : Does G z s) (hg : Foot.opEffect.leB G = true) (op : Nat) (o : Nat) (a0 : Nat) (a1 : Nat) (a2 : Nat) (w : Option Waiter) : Does G z (State.opEffect s op o a0 a1 a2 w).2 := by
  unfold State.opEffect
  with_reducible repeat' first
    | assumption | refine Does.wr ?_ ?_ _ _ _ | (refine Does.when ?_ _ _ fun _ _ => ?_)
    | refine Does.objInit ?_ (Foot.up hg (by decide)) _ _ _ _ | refine Does.arrive ?_ (Foot.up hg (by decide)) _ _ _
    | refine Does.semRun ?_ (Foot.up hg (by decide)) _ | refine Does.flagSet ?_ (Foot.up hg (by decide)) _
    | refine Does.waitOp ?_ (Foot.up hg (by decide)) _ _ _ _ | refine Does.setWatches ?_ (Foot.up hg (by decide)) _
    | refine Does.objLeave ?_ (Foot.up hg (by decide)) _ | refine Does.objZero ?_ (Foot.up hg (by decide)) _
    | refine Does.objBreak ?_ (Foot.up hg (by decide)) _ | refine Does.breakSend ?_ (Foot.up hg (by decide)) _ _ _
    | refine Does.objReset ?_ (Foot.up hg (by decide)) _ _ | refine Does.reached ?_ (Foot.up hg (by decide)) _ _
    | refine Does.setCount ?_ (Foot.up hg (by decide)) _ _ _ | exact Foot.upR hg (by decide) | (dsimp -zeta only) | split

def Foot.syncOver : Foot := ⟨0x2000, 0, 0⟩

theorem Does.syncOver {G : Foot} {z s : State} (h : Does G z s) (hg : Foot.syncOver.leB G = true) (st : Status) : Does G z (State.syncOver s st) := by
  unfold State.syncOver
  with_reducible repeat' first
    | assumption | (refine Does.when ?_ _ _ fun _ _ => ?_) | refine Does.incSat ?_ ?_ _ _ _ | exact Foot.upR hg (by decide)

def Foot.syncAnswer : Foot := ⟨0x3CB7004310007703F00001000000006000130200079800422060, 0xD9040A30004000000000060014000C0000000000000000007, 0x40CB0⟩

theorem Does.syncAnswer {G : Foot} {z s : State} (h : Does G z s) (hg : Foot.syncAnswer.leB G = true) (p : Port) (page : Option Nat) (st : Status) : Does G z (State.syncAnswer s p page st) := by
  unfold State.syncAnswer
  with_reducible repeat' first
    | assumption
    | (extract_lets +onlyGivenNames a; first | (refine (fun (k : Does G z a) => ?_) ?_; rotate_left; unfold a; clear a; rotate_left; clear_value a; revert a; intros) | (clear_value a; revert a; intros))
    | refine Does.syncOver ?_ (Foot.up hg (by decide)) _ | refine Does.syncPut ?_ (Foot.up hg (by decide)) _
    | refine Does.syncFlush ?_ (Foot.up hg (by decide)) | refine Does.answerD ?_ (Foot.up hg (by decide)) _ _ _ _ _
    | (dsimp -zeta only) | refine Does.ite ?_ ?_

def Foot.portOp : Foot := ⟨0x3CB7004310007703F00015002003C060001302000798004F2C60, 0x20200000000000000000000000000000000000DF0CFFB0005A000000FF060014000C0000000000000000007, 0x42EF0⟩

theorem Does.portOp {G : Foot} {z s : State} (h : Does G z s) (hg : Foot.portOp.leB G = true) (p : Port) (page : Option Nat) (bad : Bool) (op : Nat) (obj : Nat) (a0 : Nat) (a1 : Nat) (a2 : Nat) : Does G z (State.portOp s p page bad op obj a0 a1 a2) := by
  unfold State.portOp
  with_reducible repeat' first
    | assumption
    | (extract_lets +onlyGivenNames a; first | (refine (fun (k : Does G z a) => ?_) ?_; rotate_left; unfold a; clear a; rotate_left; clear_value a; revert a; intros) | (clear_value a; revert a; intros))
    | refine Does.deadAnswer ?_ (Foot.up hg (by decide)) _ | refine Does.syncAnswer ?_ (Foot.up hg (by decide)) _ _ _
    | refine Does.shortFlag ?_ (Foot.up hg (by decide)) _ | refine Does.opEffect ?_ (Foot.up hg (by decide)) _ _ _ _ _ _
    | (dsimp -zeta only) | refine Does.ite ?_ ?_ | refine Does.ite_snd ?_ ?_ | refine Foot.pick ?_ ?_ | split

def Foot.gateAnswer : Foot := ⟨0x2000, 0, 0x800⟩

theorem Does.gateAnswer {G : Foot} {z s : State} (h : Does G z s) (hg : Foot.gateAnswer.leB G = true) (ctx : Nat) (lobj : Nat) (gen : Nat) (st : Status) (leaf : Nat) (q : Nat) (wake : Bool) : Does G z (State.gateAnswer s ctx lobj gen st leaf q wake) := by
  unfold State.gateAnswer
  with_reducible repeat' first
    | assumption | refine Does.syncOver ?_ (Foot.up hg (by decide)) _ | refine Does.syncPut ?_ (Foot.up hg (by decide)) _

def Foot.gateOp : Foot := ⟨0x3CB7004310007703F00015002003C060001302000798004F2C60, 0x20200000000000000000000000000000000000DF0CFFB0005A000000FF060014000C0000000000000000007, 0x42EF0⟩

theorem Does.gateOp {G : Foot} {z s : State} (h : Does G z s) (hg : Foot.gateOp.leB G = true) (sop : Nat) (ctx : Nat) (epoch : Nat) (leaf : Nat) (q : Nat) (lobj : Nat) (arg : Nat) (mode : Bool) : Does G z (State.gateOp s sop ctx epoch leaf q lobj arg mode) := by
  unfold State.gateOp
  with_reducible repeat' first
    | assumption
    | (extract_lets +onlyGivenNames a; first | (refine (fun (k : Does G z a) => ?_) ?_; rotate_left; unfold a; clear a; rotate_left; clear_value a; revert a; intros) | ((have b : Nat → Status → State := a; clear b); unfold a; clear a) | (clear_value a; revert a; intros))
    | refine Does.incSat ?_ ?_ _ _ _ | refine Does.gateAnswer ?_ (Foot.up hg (by decide)) _ _ _ _ _ _ _
    | refine Does.syncFlush ?_ (Foot.up hg (by decide)) | refine Does.shortFlag ?_ (Foot.up hg (by decide)) _
    | refine Does.opEffect ?_ (Foot.up hg (by decide)) _ _ _ _ _ _ | exact Foot.upR hg (by decide) | (dsimp -zeta only)
    | refine Does.ite ?_ ?_ | refine Does.ite_snd ?_ ?_ | refine Foot.pick ?_ ?_ | split

def Foot.gateApply : Foot := ⟨0x3CB7004310007703F00015002003C060001302000798004F2C60, 0x20200000000000000000000000000000000000DF0CFFB0005A000000FF060014000C0000000000000000007, 0x42EF0⟩

theorem Does.gateApply {G : Foot} {z s : State} (h : Does G z s) (hg : Foot.gateApply.leB G = true) (e : ChEnd) (sop : Nat) (ctx : Nat) (epoch : Nat) (leaf : Nat) (q : Nat) (lobj : Nat) (arg : Nat) (mode : Bool) : Does G z (State.gateApply s e sop ctx epoch leaf q lobj arg mode) := by
  unfold State.gateApply
  with_reducible repeat' first
    | assumption | refine Does.event ?_ (Foot.up hg (by decide)) _ _
    | refine Does.gateOp ?_ (Foot.up hg (by decide)) _ _ _ _ _ _ _ _ | (dsimp -zeta only) | refine Does.ite ?_ ?_

def Foot.gateMsg : Foot := ⟨0x3CB7004310007703F00015002003C060001302000798004F2C60, 0x20200000000000000000000000000000000000DF0CFFB0005A000000FF060014000C0000000000000000007, 0x62EF0⟩

theorem Does.gateMsg {G : Foot} {z s : State} (h : Does G z s) (hg : Foot.gateMsg.leB G = true) (e : ChEnd) (tag : Nat) (sop : Nat) (ctx : Nat) (epoch : Nat) (leaf : Nat) (q : Nat) (lobj : Nat) (arg : Nat) (mode : Bool) : Does G z (State.gateMsg s e tag sop ctx epoch leaf q lobj arg mode) := by
  unfold State.gateMsg
  with_reducible repeat' first
    | assumption | refine Does.deliver ?_ (Foot.up hg (by decide)) _ _ _ (fun _ _ => ?_)
    | refine Does.gateApply ?_ (Foot.up hg (by decide)) _ _ _ _ _ _ _ _ _
    | refine Does.evFrom ?_ (Foot.up hg (by decide)) _ _ _ _ _ | refine Does.sendUp ?_ (Foot.up hg (by decide)) _ _ _
    | (dsimp -zeta only) | refine Does.ite ?_ ?_ | refine Does.ite_snd ?_ ?_ | refine Foot.pick ?_ ?_ | split
    | refine Does.snd ‹_ = (_, _)› ?_
    | (refine Does.mk' ?_ rfl rfl rfl rfl rfl rfl rfl rfl rfl rfl ?_; rotate_left; intro p hn; cases p <;> first | with_unfolding_all rfl | exact Foot.noP hg (by decide) hn)

def Foot.syncRow : Foot := ⟨0x3CB7004310007703F00015002003C060001302000798004F2C60, 0x20200000000000000000000000000000000000DF0CFFB0005A000000FF060014000C0000000000000000007, 0x62EF0⟩

theorem Does.syncRow {G : Foot} {z s : State} (h : Does G z s) (hg : Foot.syncRow.leB G = true) (org : SyncOrg) (op : Nat) (obj : Nat) (a0 : Nat) (a1 : Nat) (a2 : Nat) : Does G z (State.syncRow s org op obj a0 a1 a2) := by
  unfold State.syncRow
  with_reducible repeat' first
    | assumption | refine Does.portOp ?_ (Foot.up hg (by decide)) _ _ _ _ _ _ _ _
    | refine Does.gateMsg ?_ (Foot.up hg (by decide)) _ _ _ _ _ _ _ _ _ _ | (dsimp -zeta only) | refine Does.ite ?_ ?_
    | refine Does.ite_snd ?_ ?_ | refine Foot.pick ?_ ?_ | split

def Foot.ctxBankClear : Foot := ⟨0x28000000000000000000000000000000000000000000000, 0x400000000000000000000000000002000000000000000000000000000000000000000000000, 0⟩

theorem Does.ctxBankClear {G : Foot} {z s : State} (h : Does G z s) (hg : Foot.ctxBankClear.leB G = true) (c : Nat) : Does G z (State.ctxBankClear s c) := by
  unfold State.ctxBankClear
  with_reducible repeat' first
    | assumption
    | (extract_lets +onlyGivenNames a; first | (refine (fun (k : Does G z a) => ?_) ?_; rotate_left; unfold a; clear a; rotate_left; clear_value a; revert a; intros) | (clear_value a; revert a; intros))
    | refine Does.setV ?_ ?_ _ _ _ | refine Does.setReg ?_ ?_ _ _ _ | (refine Does.each ?_ _ _ fun _ _ _ _ => ?_)
    | exact Foot.upR hg (by decide) | exact Foot.upV hg (by decide)

def Foot.switchStart : Foot := ⟨0x28390000002000000000000000000000000000000406000, 0x400000000004000000000000000002000000000000000000000000000000000000000000000, 0x2C40⟩

theorem Does.switchStart {G : Foot} {z s : State} (h : Does G z s) (hg : Foot.switchStart.leB G = true) (c : Nat) : Does G z (State.switchStart s c) := by
  unfold State.switchStart
  with_reducible repeat' first
    | assumption
    | (extract_lets +onlyGivenNames a; first | (refine (fun (k : Does G z a) => ?_) ?_; rotate_left; unfold a; clear a; rotate_left; clear_value a; revert a; intros) | (clear_value a; revert a; intros))
    | refine Does.wr ?_ ?_ _ _ _ | refine Does.incWrap ?_ ?_ _ _ _ | refine Does.ctxBankClear ?_ (Foot.up hg (by decide)) _
    | refine Does.latchAbort ?_ (Foot.up hg (by decide)) _ | refine Does.toHubChildren ?_ (Foot.up hg (by decide)) _
    | exact Foot.upR hg (by decide)

def Foot.switchEnd : Foot := ⟨0x3CB7004310007703F00015002007F06000130200079800436C60, 0xA0200000000000000000000000000000000000DF0CFFB0005A000000FF060014000C0000000000000000007, 0x42EF0⟩

theorem Does.switchEnd {G : Foot} {z s : State} (h : Does G z s) (hg : Foot.switchEnd.leB G = true) (c : Nat) : Does G z (State.switchEnd s c) := by
  unfold State.switchEnd
  with_reducible repeat' first
    | assumption
    | (extract_lets +onlyGivenNames a; first | (refine (fun (k : Does G z a) => ?_) ?_; rotate_left; unfold a; clear a; rotate_left; clear_value a; revert a; intros) | (clear_value a; revert a; intros))
    | refine Does.wr ?_ ?_ _ _ _ | (refine Does.when ?_ _ _ fun _ _ => ?_) | (refine Does.each ?_ _ _ fun _ _ _ _ => ?_)
    | refine Does.frame ?_ (Foot.up hg (by decide)) _ _ _ _ _ _ | refine Does.breakSend ?_ (Foot.up hg (by decide)) _ _ _
    | refine Does.shapeCancel ?_ (Foot.up hg (by decide)) _ | refine Does.objZero ?_ (Foot.up hg (by decide)) _
    | refine Does.tagMark ?_ (Foot.up hg (by decide)) _ _ _ | refine Does.strSwitch ?_ (Foot.up hg (by decide)) _
    | refine Does.slotShape ?_ (Foot.up hg (by decide)) _ | refine Does.event ?_ (Foot.up hg (by decide)) _ _
    | refine Does.syncFlush ?_ (Foot.up hg (by decide)) | exact Foot.upR hg (by decide) | (dsimp -zeta only) | split
    | refine Does.snd ‹_ = (_, _)› ?_
    | (refine Does.mk' ?_ rfl rfl rfl rfl rfl rfl rfl rfl rfl rfl ?_; rotate_left; intro p hn; cases p <;> first | with_unfolding_all rfl | exact Foot.noP hg (by decide) hn)

def Foot.portSwitch : Foot := ⟨0x3CB702C390007703F00001000000006000130200079800426060, 0x40000000000400000000000000D9060A30004000000000060014000C0000000000000000007, 0x42CF0⟩

theorem Does.portSwitch {G : Foot} {z s : State} (h : Does G z s) (hg : Foot.portSwitch.leB G = true) (p : Port) (page : Option Nat) (bad : Bool) (a2 : Nat) : Does G z (State.portSwitch s p page bad a2) := by
  unfold State.portSwitch
  with_reducible repeat' first
    | assumption | refine Does.deadAnswer ?_ (Foot.up hg (by decide)) _
    | refine Does.syncAnswer ?_ (Foot.up hg (by decide)) _ _ _ | refine Does.switchStart ?_ (Foot.up hg (by decide)) _
    | (dsimp -zeta only) | refine Does.ite ?_ ?_

def Foot.confShow : Foot := ⟨0x20000000000000000000000000000000000000000000000000000, 0, 0⟩

theorem Does.confShow {G : Foot} {z s : State} (h : Does G z s) (hg : Foot.confShow.leB G = true) (t0 : Nat) : Does G z (State.confShow s t0) := by
  unfold State.confShow
  with_reducible repeat' first
    | assumption
    | (extract_lets +onlyGivenNames a; first | (refine (fun (k : Does G z a) => ?_) ?_; rotate_left; unfold a; clear a; rotate_left; clear_value a; revert a; intros) | (clear_value a; revert a; intros))
    | refine Does.wr ?_ ?_ _ _ _ | refine Does.wrSat ?_ ?_ _ _ _ | exact Foot.upR hg (by decide)

def Foot.strOp : Foot := ⟨0x3407004010001003E00015002007F00000130200078000430C40, 0xA0200000000000000000000000000000000000070C0810005A000000E100000000000000000000000000007, 0x404F0⟩

theorem Does.strOp {G : Foot} {z s : State} (h : Does G z s) (hg : Foot.strOp.leB G = true) (cmd : Nat) (c : Nat) (p : Nat) : Does G z (State.strOp s cmd c p).2 := by
  unfold State.strOp
  with_reducible repeat' first
    | assumption
    | (extract_lets +onlyGivenNames a; first | (refine (fun (k : Does G z a) => ?_) ?_; rotate_left; unfold a; clear a; rotate_left; clear_value a; revert a; intros) | (clear_value a; revert a; intros))
    | (refine Does.when ?_ _ _ fun _ _ => ?_) | refine Does.strCmd ?_ (Foot.up hg (by decide)) _ _ _
    | refine Does.slotShape ?_ (Foot.up hg (by decide)) _

def Foot.waitSet : Foot := ⟨0x40442000000000000000000000000000000000000000, 0x180000000000140000000000000000000000000000070000000800000000000000000000000, 0⟩

theorem Does.waitSet {G : Foot} {z s : State} (h : Does G z s) (hg : Foot.waitSet.leB G = true) (l : Nat) (q : Nat) (value : Bool) (mode : Bool) (ctx : Nat) (lobj : Nat) (gen : Nat) (loc : Bool) : Does G z (State.waitSet s l q value mode ctx lobj gen loc) := by
  unfold State.waitSet
  with_reducible repeat' first
    | assumption
    | (extract_lets +onlyGivenNames a; first | (refine (fun (k : Does G z a) => ?_) ?_; rotate_left; unfold a; clear a; rotate_left; clear_value a; revert a; intros) | (clear_value a; revert a; intros))
    | refine Does.setReg ?_ ?_ _ _ _ | refine Does.effAcct ?_ (Foot.up hg (by decide)) _ _ | exact Foot.upR hg (by decide)

def Foot.waitClear : Foot := ⟨0x40442000000000000000000000000000000000000000, 0x180000000000140000000000000000000000000000070000000800000000000000000000000, 0⟩

theorem Does.waitClear {G : Foot} {z s : State} (h : Does G z s) (hg : Foot.waitClear.leB G = true) (l : Nat) (q : Nat) : Does G z (State.waitClear s l q) := by
  unfold State.waitClear
  with_reducible repeat' first
    | assumption
    | (extract_lets +onlyGivenNames a; first | (refine (fun (k : Does G z a) => ?_) ?_; rotate_left; unfold a; clear a; rotate_left; clear_value a; revert a; intros) | (clear_value a; revert a; intros))
    | refine Does.setReg ?_ ?_ _ _ _ | refine Does.effAcct ?_ (Foot.up hg (by decide)) _ _ | exact Foot.upR hg (by decide)

def Foot.waitEnd : Foot := ⟨0x404C2000000000000000000000000000000000000000, 0x180000000000140000000000000001000000000000070000000800000000000000000000000, 0⟩

theorem Does.waitEnd {G : Foot} {z s : State} (h : Does G z s) (hg : Foot.waitEnd.leB G = true) (l : Nat) (q : Nat) (last : Option (Nat × Nat × Nat)) : Does G z (State.waitEnd s l q last) := by
  unfold State.waitEnd
  with_reducible repeat' first
    | assumption
    | (extract_lets +onlyGivenNames a; first | (refine (fun (k : Does G z a) => ?_) ?_; rotate_left; unfold a; clear a; rotate_left; clear_value a; revert a; intros) | (clear_value a; revert a; intros))
    | refine Does.setV ?_ ?_ _ _ _ | refine Does.setReg ?_ ?_ _ _ _ | refine Does.waitClear ?_ (Foot.up hg (by decide)) _ _
    | exact Foot.upR hg (by decide) | exact Foot.upV hg (by decide) | (dsimp -zeta only) | split

def Foot.leafDup : Foot := ⟨0x10000000000000000000000000000000000000000, 0, 0⟩

theorem Does.leafDup {G : Foot} {z s : State} (h : Does G z s) (hg : Foot.leafDup.leB G = true) (l : Nat) : Does G z (State.leafDup s l) := by
  unfold State.leafDup
  with_reducible repeat' first
    | assumption | refine Does.incSat ?_ ?_ _ _ _ | exact Foot.upR hg (by decide)

def Foot.lRelease : Foot := ⟨0x404D2000000000000000000000000000000000000000, 0x180000000000140000000000000001000000000000070000000800000000000000000000000, 0⟩

theorem Does.lRelease {G : Foot} {z s : State} (h : Does G z s) (hg : Foot.lRelease.leB G = true) (l : Nat) (k : Nat) (st : Nat) (sel : Nat → Bool) : Does G z (State.lRelease s l k st sel) := by
  unfold State.lRelease
  with_reducible repeat' first
    | assumption | (refine Does.each ?_ _ _ fun _ _ _ _ => ?_) | refine Does.waitEnd ?_ (Foot.up hg (by decide)) _ _ _
    | refine Does.gateRsp ?_ (Foot.up hg (by decide)) _ _ _

def Foot.lComplete : Foot := ⟨0x404DA000000000000000000000000000000000000000, 0x180000000000140000000000000001000000000000070000000800000000000000000000000, 0⟩

theorem Does.lComplete {G : Foot} {z s : State} (h : Does G z s) (hg : Foot.lComplete.leB G = true) (l : Nat) (k : Nat) (fuel : Nat) : Does G z (State.lComplete s l k fuel) := by
  induction fuel generalizing s with
  | zero =>
    unfold State.lComplete
    exact h
  | succ fuel ih =>
    unfold State.lComplete
    with_reducible repeat' first
      | assumption
      | (extract_lets +onlyGivenNames a; first | (refine (fun (k : Does G z a) => ?_) ?_; rotate_left; unfold a; clear a; rotate_left; clear_value a; revert a; intros) | (clear_value a; revert a; intros))
      | refine Does.wr ?_ ?_ _ _ _ | refine Does.lRelease ?_ (Foot.up hg (by decide)) _ _ _ _ | refine ih ?_
      | exact Foot.upR hg (by decide) | (dsimp -zeta only) | refine Does.ite ?_ ?_
  
def Foot.lArrive : Foot := ⟨0x404DA000000000000000000000000000000000000000, 0x180000000000140000000000000001000000000000070000000800000000000000000000000, 0⟩

theorem Does.lArrive {G : Foot} {z s : State} (h : Does G z s) (hg : Foot.lArrive.leB G = true) (l : Nat) (q : Nat) (k : Nat) (arg : Nat) (waits : Bool) : Does G z (State.lArrive s l q k arg waits) := by
  unfold State.lArrive
  with_reducible repeat' first
    | assumption
    | (extract_lets +onlyGivenNames a; first | (refine (fun (k : Does G z a) => ?_) ?_; rotate_left; unfold a; clear a; rotate_left; clear_value a; revert a; intros) | ((have b : State → State := a; clear b); unfold a; clear a) | (clear_value a; revert a; intros))
    | refine Does.wr ?_ ?_ _ _ _ | refine Does.waitSet ?_ (Foot.up hg (by decide)) _ _ _ _ _ _ _ _
    | refine Does.gateRsp ?_ (Foot.up hg (by decide)) _ _ _ | refine Does.lComplete ?_ (Foot.up hg (by decide)) _ _ _
    | exact Foot.upR hg (by decide) | (dsimp -zeta only) | refine Does.ite ?_ ?_

def Foot.lOp : Foot := ⟨0x404DA000000000000000000000000000000000000000, 0x180000000000140000000000000001000000000000070000000800000000000000000000000, 0⟩

theorem Does.lOp {G : Foot} {z s : State} (h : Does G z s) (hg : Foot.lOp.leB G = true) (l : Nat) (q : Nat) (sop : Nat) (k : Nat) (arg : Nat) (mode : Bool) : Does G z (State.lOp s l q sop k arg mode) := by
  unfold State.lOp
  with_reducible repeat' first
    | assumption
    | (extract_lets +onlyGivenNames a; first | (refine (fun (k : Does G z a) => ?_) ?_; rotate_left; unfold a; clear a; rotate_left; clear_value a; revert a; intros) | (clear_value a; revert a; intros))
    | refine Does.wr ?_ ?_ _ _ _ | refine Does.flag ?_ ?_ _ _ _ | refine Does.gateRsp ?_ (Foot.up hg (by decide)) _ _ _
    | refine Does.lRelease ?_ (Foot.up hg (by decide)) _ _ _ _ | refine Does.incWrap ?_ ?_ _ _ _
    | refine Does.waitSet ?_ (Foot.up hg (by decide)) _ _ _ _ _ _ _ _
    | refine Does.lArrive ?_ (Foot.up hg (by decide)) _ _ _ _ _ | exact Foot.upR hg (by decide) | (dsimp -zeta only)
    | refine Does.ite ?_ ?_ | refine Does.ite_snd ?_ ?_ | refine Foot.pick ?_ ?_ | split

def Foot.lDisable : Foot := ⟨0x404DA000000000000000000000000000000000000000, 0x180000000000140000000000000001000000000000070000000800000000000000000000000, 0⟩

theorem Does.lDisable {G : Foot} {z s : State} (h : Does G z s) (hg : Foot.lDisable.leB G = true) (l : Nat) (k : Nat) : Does G z (State.lDisable s l k) := by
  unfold State.lDisable
  with_reducible repeat' first
    | assumption
    | (extract_lets +onlyGivenNames a; first | (refine (fun (k : Does G z a) => ?_) ?_; rotate_left; unfold a; clear a; rotate_left; clear_value a; revert a; intros) | (clear_value a; revert a; intros))
    | refine Does.wr ?_ ?_ _ _ _ | refine Does.lRelease ?_ (Foot.up hg (by decide)) _ _ _ _ | exact Foot.upR hg (by decide)

def Foot.lsyncWr : Foot := ⟨0x404DA000000000000000000000000000000000000000, 0x180000000000140000000000000001000000000000070000000800000000000000000000000, 0⟩

theorem Does.lsyncWr {G : Foot} {z s : State} (h : Does G z s) (hg : Foot.lsyncWr.leB G = true) (l : Nat) (k : Nat) (w : Nat) : Does G z (State.lsyncWr s l k w).2 := by
  unfold State.lsyncWr
  with_reducible repeat' first
    | assumption
    | (extract_lets +onlyGivenNames a; first | (refine (fun (k : Does G z a) => ?_) ?_; rotate_left; unfold a; clear a; rotate_left; clear_value a; revert a; intros) | ((have b : State → State := a; clear b); unfold a; clear a) | (clear_value a; revert a; intros))
    | refine Does.wr ?_ ?_ _ _ _ | refine Does.lDisable ?_ (Foot.up hg (by decide)) _ _ | exact Foot.upR hg (by decide)
    | (dsimp -zeta only) | refine Does.ite ?_ ?_ | refine Does.ite_snd ?_ ?_

def Foot.leafRelease : Foot := ⟨0x406D2000000000000000000000000000000000000000, 0x180000000000140000000000000001000000000030070000000810000000000000000000000, 0⟩

theorem Does.leafRelease {G : Foot} {z s : State} (h : Does G z s) (hg : Foot.leafRelease.leB G = true) (l : Nat) (ctx : Nat) (lobj : Nat) (gen : Nat) (st : Nat) (shape : Nat) (busy : List Nat) : Does G z (State.leafRelease s l ctx lobj gen st shape busy) := by
  unfold State.leafRelease
  with_reducible repeat' first
    | assumption
    | (extract_lets +onlyGivenNames a; first | (refine (fun (k : Does G z a) => ?_) ?_; rotate_left; unfold a; clear a; rotate_left; clear_value a; revert a; intros) | (clear_value a; revert a; intros))
    | (refine Does.when ?_ _ _ fun _ _ => ?_) | (refine Does.each ?_ _ _ fun _ _ _ _ => ?_) | refine Does.incSat ?_ ?_ _ _ _
    | refine Does.leafDup ?_ (Foot.up hg (by decide)) _ | refine Does.waitEnd ?_ (Foot.up hg (by decide)) _ _ _
    | refine Does.gateRsp ?_ (Foot.up hg (by decide)) _ _ _ | refine Does.waveHold ?_ (Foot.up hg (by decide)) _ _ _ _
    | exact Foot.upR hg (by decide) | (dsimp -zeta only) | refine Does.ite ?_ ?_

def Foot.leafDirect : Foot := ⟨0x404D2000000000000000000000000000000000000000, 0x180000000000140000000000000001000000000000070000000800000000000000000000000, 0⟩

theorem Does.leafDirect {G : Foot} {z s : State} (h : Does G z s) (hg : Foot.leafDirect.leB G = true) (l : Nat) (ctx : Nat) (lobj : Nat) (gen : Nat) (st : Nat) (q : Nat) (wake : Bool) : Does G z (State.leafDirect s l ctx lobj gen st q wake) := by
  unfold State.leafDirect
  with_reducible repeat' first
    | assumption | refine Does.setV ?_ ?_ _ _ _ | refine Does.waitEnd ?_ (Foot.up hg (by decide)) _ _ _
    | refine Does.gateRsp ?_ (Foot.up hg (by decide)) _ _ _ | refine Does.leafDup ?_ (Foot.up hg (by decide)) _
    | refine Does.incSat ?_ ?_ _ _ _ | exact Foot.upR hg (by decide) | exact Foot.upV hg (by decide) | (dsimp -zeta only)
    | refine Does.ite ?_ ?_ | refine Does.ite_snd ?_ ?_ | refine Foot.pick ?_ ?_ | split

def Foot.leafClear : Foot := ⟨0x404FA000000000000000000000000000000000000000, 0x180000000000140000000000000001000000000000070000000800000000000000000000000, 0⟩

theorem Does.leafClear {G : Foot} {z s : State} (h : Does G z s) (hg : Foot.leafClear.leB G = true) (l : Nat) (c : Nat) (ep : Nat) : Does G z (State.leafClear s l c ep) := by
  unfold State.leafClear
  with_reducible repeat' first
    | assumption
    | (extract_lets +onlyGivenNames a; first | (refine (fun (k : Does G z a) => ?_) ?_; rotate_left; unfold a; clear a; rotate_left; clear_value a; revert a; intros) | (clear_value a; revert a; intros))
    | refine Does.setReg ?_ ?_ _ _ _ | (refine Does.each ?_ _ _ fun _ _ _ _ => ?_)
    | refine Does.waitEnd ?_ (Foot.up hg (by decide)) _ _ _ | refine Does.gateRsp ?_ (Foot.up hg (by decide)) _ _ _
    | refine Does.lDisable ?_ (Foot.up hg (by decide)) _ _ | exact Foot.upR hg (by decide) | (dsimp -zeta only)
    | refine Does.ite ?_ ?_

def Foot.syncDown : Foot := ⟨0x7004010000002000000000000000000130200008000400000, 0x7, 0x30⟩

theorem Does.syncDown {G : Foot} {z s : State} (h : Does G z s) (hg : Foot.syncDown.leB G = true) (e : ChEnd) (tag : Nat) (node : Nat → State → State) (hnode : ∀ x0 x1, Does G z x1 → Does G z (node x0 x1)) (leaf : Nat → State → State) (hleaf : ∀ x0 x1, Does G z x1 → Does G z (leaf x0 x1)) : Does G z (State.syncDown s e tag node leaf) := by
  unfold State.syncDown
  with_reducible repeat' first
    | assumption | refine Does.deliver ?_ (Foot.up hg (by decide)) _ _ _ (fun _ _ => ?_)
    | refine Does.evFrom ?_ (Foot.up hg (by decide)) _ _ _ _ _ | refine hnode _ _ ?_ | refine hleaf _ _ ?_ | (dsimp -zeta only)
    | split

def Foot.toChildren : Foot := ⟨0x10000002000000000000000000000000000000400000, 0, 0⟩

theorem Does.toChildren {G : Foot} {z s : State} (h : Does G z s) (hg : Foot.toChildren.leB G = true) (n : Nat) (typ : Nat) (payload : Nat) : Does G z (State.toChildren s n typ payload) := by
  unfold State.toChildren
  with_reducible repeat' first
    | assumption | (refine Does.each ?_ _ _ fun _ _ _ _ => ?_) | refine Does.send ?_ (Foot.up hg (by decide)) _ _ _

def Foot.tryAuth : Foot := ⟨0x410000000000000000000000000000000000000000000000000, 0, 0⟩

theorem Does.tryAuth {G : Foot} {z s : State} (h : Does G z s) (hg : Foot.tryAuth.leB G = true) (n : Nat) : Does G z (State.tryAuth s n) := by
  unfold State.tryAuth
  with_reducible repeat' first
    | assumption
    | (extract_lets +onlyGivenNames a; first | (refine (fun (k : Does G z a) => ?_) ?_; rotate_left; unfold a; clear a; rotate_left; clear_value a; revert a; intros) | (clear_value a; revert a; intros))
    | refine Does.wr ?_ ?_ _ _ _ | refine Does.portShow ?_ (Foot.up hg (by decide)) _ _ | exact Foot.upR hg (by decide)
    | (dsimp -zeta only) | refine Does.ite ?_ ?_

def Foot.portToUp : Foot := ⟨0x417004000000000000000000000000000130200008000000000, 0x5004001000000000000000000000000000000000000000007, 0x30⟩

theorem Does.portToUp {G : Foot} {z s : State} (h : Does G z s) (hg : Foot.portToUp.leB G = true) (n : Nat) : Does G z (State.portToUp s n) := by
  unfold State.portToUp
  with_reducible repeat' first
    | assumption
    | (extract_lets +onlyGivenNames a; first | (refine (fun (k : Does G z a) => ?_) ?_; rotate_left; unfold a; clear a; rotate_left; clear_value a; revert a; intros) | (clear_value a; revert a; intros))
    | refine Does.setV ?_ ?_ _ _ _ | (refine Does.when ?_ _ _ fun _ _ => ?_)
    | refine Does.portShow ?_ (Foot.up hg (by decide)) _ _ | refine Does.event ?_ (Foot.up hg (by decide)) _ _
    | refine Does.frameOut ?_ (Foot.up hg (by decide)) _ _ _ | exact Foot.upV hg (by decide)

def Foot.frameIn : Foot := ⟨0x3CB7004310007703F00001000000006000130200079800422060, 0xD9040A7C004000000000060014000C0000000000000000007, 0x40CB0⟩

theorem Does.frameIn {G : Foot} {z s : State} (h : Does G z s) (hg : Foot.frameIn.leB G = true) (h : FrameHdr) (f : State → State) (hf : ∀ x0, Does G z x0 → Does G z (f x0)) : Does G z (State.frameIn s h f) := by
  unfold State.frameIn
  with_reducible repeat' first
    | assumption
    | (extract_lets +onlyGivenNames a; first | (refine (fun (k : Does G z a) => ?_) ?_; rotate_left; unfold a; clear a; rotate_left; clear_value a; revert a; intros) | (clear_value a; revert a; intros))
    | refine Does.setV ?_ ?_ _ _ _ | (refine Does.when ?_ _ _ fun _ _ => ?_)
    | refine Does.syncFlush ?_ (Foot.up hg (by decide)) | refine Does.incSat ?_ ?_ _ _ _
    | refine Does.event ?_ (Foot.up hg (by decide)) _ _ | refine Does.portDown ?_ (Foot.up hg (by decide)) _ | refine hf _ ?_
    | exact Foot.upR hg (by decide) | exact Foot.upV hg (by decide) | (dsimp -zeta only) | refine Does.ite ?_ ?_

def Foot.jobMatch : Foot := ⟨0x10000000000000000000000000000000000000000000000000, 0, 0⟩

theorem Does.jobMatch {G : Foot} {z s : State} (h : Does G z s) (hg : Foot.jobMatch.leB G = true) (obj : Nat) (job : Nat) (f : State → State) (hf : ∀ x0, Does G z x0 → Does G z (f x0)) : Does G z (State.jobMatch s obj job f) := by
  unfold State.jobMatch
  with_reducible repeat' first
    | assumption | refine Does.incSat ?_ ?_ _ _ _ | refine hf _ ?_ | exact Foot.upR hg (by decide) | (dsimp -zeta only)
    | refine Does.ite ?_ ?_ | refine Does.ite_snd ?_ ?_ | refine Foot.pick ?_ ?_ | split

def Foot.spanStale : Foot := ⟨0x2000, 0, 0⟩

theorem Does.spanStale {G : Foot} {z s : State} (h : Does G z s) (hg : Foot.spanStale.leB G = true) : Does G z (State.spanStale s) := by
  unfold State.spanStale
  with_reducible repeat' first
    | assumption | refine Does.incSat ?_ ?_ _ _ _ | exact Foot.upR hg (by decide)

def Foot.gCount : Foot := ⟨0x4000000000000000000000000000000000000000000000, 0, 0⟩

theorem Does.gCount {G : Foot} {z s : State} (h : Does G z s) (hg : Foot.gCount.leB G = true) (i : Nat) (d : Nat) : Does G z (State.gCount s i d) := by
  unfold State.gCount
  with_reducible repeat' first
    | assumption | refine Does.incWrap ?_ ?_ _ _ _ | exact Foot.upR hg (by decide)

def Foot.stateTime : Foot := ⟨0x4000000000000000000000000000000000000000000000, 0x20000000000000000000000000000000000000000000000000000000000000000, 0⟩

theorem Does.stateTime {G : Foot} {z s : State} (h : Does G z s) (hg : Foot.stateTime.leB G = true) : Does G z (State.stateTime s) := by
  unfold State.stateTime
  with_reducible repeat' first
    | assumption | refine Does.setV ?_ ?_ _ _ _ | refine Does.gCount ?_ (Foot.up hg (by decide)) _ _
    | exact Foot.upV hg (by decide)

def Foot.pkgTo : Foot := ⟨0x7004000000000000000000000000000130200008000000008, 0x2000000000002000000000000000000000001000C000000000000008000000007, 0x30⟩

theorem Does.pkgTo {G : Foot} {z s : State} (h : Does G z s) (hg : Foot.pkgTo.leB G = true) (st : Nat) (cause : Nat) : Does G z (State.pkgTo s st cause) := by
  unfold State.pkgTo
  with_reducible repeat' first
    | assumption
    | (extract_lets +onlyGivenNames a; first | (refine (fun (k : Does G z a) => ?_) ?_; rotate_left; unfold a; clear a; rotate_left; clear_value a; revert a; intros) | (clear_value a; revert a; intros))
    | refine Does.wr ?_ ?_ _ _ _ | refine Does.setV ?_ ?_ _ _ _ | (refine Does.when ?_ _ _ fun _ _ => ?_)
    | (refine Does.each ?_ _ _ fun _ _ _ _ => ?_) | refine Does.stateTime ?_ (Foot.up hg (by decide))
    | refine Does.smpSpoil ?_ (Foot.up hg (by decide)) _ | refine Does.loopsArm ?_ (Foot.up hg (by decide))
    | refine Does.event ?_ (Foot.up hg (by decide)) _ _ | exact Foot.upR hg (by decide) | exact Foot.upV hg (by decide)

def Foot.tripShow : Foot := ⟨0x8, 0, 0⟩

theorem Does.tripShow {G : Foot} {z s : State} (h : Does G z s) (hg : Foot.tripShow.leB G = true) : Does G z (State.tripShow s) := by
  unfold State.tripShow
  with_reducible repeat' first
    | assumption | refine Does.wr ?_ ?_ _ _ _ | exact Foot.upR hg (by decide)

def Foot.stopOn : Foot := ⟨0x40406000000000000000000000000000000000800000, 0x20000000000180000000000140000000000000000000000000000270000000804000000000000000000000, 0⟩

theorem Does.stopOn {G : Foot} {z s : State} (h : Does G z s) (hg : Foot.stopOn.leB G = true) : Does G z (State.stopOn s) := by
  unfold State.stopOn
  with_reducible repeat' first
    | assumption
    | (extract_lets +onlyGivenNames a; first | (refine (fun (k : Does G z a) => ?_) ?_; rotate_left; unfold a; clear a; rotate_left; clear_value a; revert a; intros) | (clear_value a; revert a; intros))
    | refine Does.wr ?_ ?_ _ _ _ | (refine Does.each ?_ _ _ fun _ _ _ _ => ?_)
    | refine Does.leafRevoke ?_ (Foot.up hg (by decide)) _ | refine Does.allEff ?_ (Foot.up hg (by decide))
    | exact Foot.upR hg (by decide)

def Foot.stopOff : Foot := ⟨0x40616000000000000000000000000000000000800000, 0x20000000000180000000000140000000000000000000000000000270000000814000000000000000000000, 0⟩

theorem Does.stopOff {G : Foot} {z s : State} (h : Does G z s) (hg : Foot.stopOff.leB G = true) : Does G z (State.stopOff s) := by
  unfold State.stopOff
  with_reducible repeat' first
    | assumption
    | (extract_lets +onlyGivenNames a; first | (refine (fun (k : Does G z a) => ?_) ?_; rotate_left; unfold a; clear a; rotate_left; clear_value a; revert a; intros) | (clear_value a; revert a; intros))
    | refine Does.wr ?_ ?_ _ _ _ | (refine Does.when ?_ _ _ fun _ _ => ?_) | (refine Does.each ?_ _ _ fun _ _ _ _ => ?_)
    | refine Does.allEff ?_ (Foot.up hg (by decide)) | refine Does.wavesDue ?_ (Foot.up hg (by decide)) _
    | exact Foot.upR hg (by decide)

def Foot.slowFrom : Foot := ⟨0, 0x40000000000000000000000000000000000000000000000000000000, 0⟩

theorem Does.slowFrom {G : Foot} {z s : State} (h : Does G z s) (hg : Foot.slowFrom.leB G = true) (r : Nat) (want : Nat) : Does G z (State.slowFrom s r want) := by
  unfold State.slowFrom
  with_reducible repeat' first
    | assumption | refine Does.setV ?_ ?_ _ _ _ | (refine Does.when ?_ _ _ fun _ _ => ?_)
    | (refine Does.each ?_ _ _ fun _ _ _ _ => ?_) | exact Foot.upV hg (by decide) | exact Foot.upM hg ‹_ ∈ _› (by decide)
    | (dsimp -zeta only) | refine Does.ite ?_ ?_

def Foot.vfRail : Foot := ⟨0x7004000004000010000000020000000130200008000000000, 0x40000000000000000000800000000000040000000000000000000007, 0x30⟩

theorem Does.vfRail {G : Foot} {z s : State} (h : Does G z s) (hg : Foot.vfRail.leB G = true) (r : Nat) : Does G z (State.vfRail s r) := by
  unfold State.vfRail
  with_reducible repeat' first
    | assumption
    | (extract_lets +onlyGivenNames a; first | (refine (fun (k : Does G z a) => ?_) ?_; rotate_left; unfold a; clear a; rotate_left; clear_value a; revert a; intros) | (clear_value a; revert a; intros))
    | (refine Does.when ?_ _ _ fun _ _ => ?_) | refine Does.slowFrom ?_ (Foot.up hg (by decide)) _ _
    | refine Does.slotHold ?_ (Foot.up hg (by decide)) _ _ | refine Does.selectSlot ?_ (Foot.up hg (by decide)) _ _
    | refine Does.retarget ?_ (Foot.up hg (by decide)) _ | (dsimp -zeta only) | refine Does.ite ?_ ?_
    | refine Does.ite_snd ?_ ?_ | refine Foot.pick ?_ ?_ | split

def Foot.vfRun : Foot := ⟨0x7004000004000010000000020000000130200008000000000, 0x40000000000000000000800000000000040000000000000000000007, 0x30⟩

theorem Does.vfRun {G : Foot} {z s : State} (h : Does G z s) (hg : Foot.vfRun.leB G = true) : Does G z (State.vfRun s) := by
  unfold State.vfRun
  with_reducible repeat' first
    | assumption | (refine Does.each ?_ _ _ fun _ _ _ _ => ?_) | refine Does.vfRail ?_ (Foot.up hg (by decide)) _
    | (dsimp -zeta only) | refine Does.ite ?_ ?_

def Foot.vfLower : Foot := ⟨0x7004000004000010000000020000000130200008000000000, 0x800000000000040000000000000000000007, 0x30⟩

theorem Does.vfLower {G : Foot} {z s : State} (h : Does G z s) (hg : Foot.vfLower.leB G = true) (r : Nat) : Does G z (State.vfLower s r) := by
  unfold State.vfLower
  with_reducible repeat' first
    | assumption
    | (extract_lets +onlyGivenNames a; first | (refine (fun (k : Does G z a) => ?_) ?_; rotate_left; unfold a; clear a; rotate_left; clear_value a; revert a; intros) | (clear_value a; revert a; intros))
    | refine Does.slotHold ?_ (Foot.up hg (by decide)) _ _ | refine Does.selectSlot ?_ (Foot.up hg (by decide)) _ _
    | (dsimp -zeta only) | refine Does.ite ?_ ?_ | refine Does.ite_snd ?_ ?_ | refine Foot.pick ?_ ?_ | split

def Foot.modeCeil : Foot := ⟨0x40406000000000000000000000000000000000000000, 0x20000000000180000000000140000000000000000000000000000270000000804000000000000000000000, 0⟩

theorem Does.modeCeil {G : Foot} {z s : State} (h : Does G z s) (hg : Foot.modeCeil.leB G = true) (l : Nat) : Does G z (State.modeCeil s l) := by
  unfold State.modeCeil
  with_reducible repeat' first
    | assumption
    | (extract_lets +onlyGivenNames a; first | (refine (fun (k : Does G z a) => ?_) ?_; rotate_left; unfold a; clear a; rotate_left; clear_value a; revert a; intros) | (clear_value a; revert a; intros))
    | refine Does.wr ?_ ?_ _ _ _ | (refine Does.each ?_ _ _ fun _ _ _ _ => ?_)
    | refine Does.leafEff ?_ (Foot.up hg (by decide)) _ | exact Foot.upR hg (by decide)

def Foot.modeTo : Foot := ⟨0x40406000000000000000000000000000000000000080, 0x20000000000180000000000140000000000000000000000000000270000000804000000000000000000000, 0⟩

theorem Does.modeTo {G : Foot} {z s : State} (h : Does G z s) (hg : Foot.modeTo.leB G = true) (m : Nat) : Does G z (State.modeTo s m) := by
  unfold State.modeTo
  with_reducible repeat' first
    | assumption
    | (extract_lets +onlyGivenNames a; first | (refine (fun (k : Does G z a) => ?_) ?_; rotate_left; unfold a; clear a; rotate_left; clear_value a; revert a; intros) | (clear_value a; revert a; intros))
    | refine Does.wr ?_ ?_ _ _ _ | (refine Does.each ?_ _ _ fun _ _ _ _ => ?_)
    | refine Does.leafAcct ?_ (Foot.up hg (by decide)) _ | refine Does.modeCeil ?_ (Foot.up hg (by decide)) _
    | exact Foot.upR hg (by decide)

def Foot.ldrResult : Foot := ⟨0x108000000000, 0, 0⟩

theorem Does.ldrResult {G : Foot} {z s : State} (h : Does G z s) (hg : Foot.ldrResult.leB G = true) (st : Status) (detail : Nat) (step : Nat) (off : Nat) : Does G z (State.ldrResult s st detail step off) := by
  unfold State.ldrResult
  with_reducible repeat' first
    | assumption
    | (extract_lets +onlyGivenNames a; first | (refine (fun (k : Does G z a) => ?_) ?_; rotate_left; unfold a; clear a; rotate_left; clear_value a; revert a; intros) | (clear_value a; revert a; intros))
    | refine Does.wr ?_ ?_ _ _ _ | refine Does.facAlert ?_ (Foot.up hg (by decide)) _ | exact Foot.upR hg (by decide)

theorem Does.setCert {G : Foot} {z s : State} (h : Does G z s) (hp : G.hasP .cert = true) (m : Mem) (hm : s.Canon → Mem.wf m = true) : Does G z (State.setCert s m) :=
  ⟨⟨h.pending, fun c => { h.canon c with cert := hm (h.canon c) }⟩, h.regs, h.vars, fun p e => (by
    cases p <;> first | rfl | simp [hp] at e : (s.setCert m).part p = s.part p).trans (h.parts p e)⟩

theorem Does.setBank {G : Foot} {z s : State} (h : Does G z s) (hp : G.hasP .banks = true) (k : Nat) (b : Bank) (hb : s.Canon → Mem.wf b.mem = true) :
    Does G z (State.setBank s k b) := by
  unfold State.setBank
  split
  · exact ⟨⟨h.pending, fun c => { h.canon c with bank0 := hb (h.canon c) }⟩, h.regs, h.vars, fun p e => Eq.trans (by
      cases p <;> first | rfl | simp [hp] at e) (h.parts p e)⟩
  · exact ⟨⟨h.pending, fun c => { h.canon c with bank1 := hb (h.canon c) }⟩, h.regs, h.vars, fun p e => Eq.trans (by
      cases p <;> first | rfl | simp [hp] at e) (h.parts p e)⟩

theorem State.Canon.bank {s : State} (c : s.Canon) (k : Nat) : Mem.wf (s.bank k).mem = true := by
  unfold State.bank
  split
  · exact c.bank0
  · exact c.bank1

def Foot.fallbackShow : Foot := ⟨0x100000000000, 0, 0⟩

theorem Does.fallbackShow {G : Foot} {z s : State} (h : Does G z s) (hg : Foot.fallbackShow.leB G = true) : Does G z (State.fallbackShow s) := by
  unfold State.fallbackShow
  with_reducible repeat' first
    | assumption
    | (extract_lets +onlyGivenNames a; first | (refine (fun (k : Does G z a) => ?_) ?_; rotate_left; unfold a; clear a; rotate_left; clear_value a; revert a; intros) | (clear_value a; revert a; intros))
    | refine Does.wr ?_ ?_ _ _ _ | exact Foot.upR hg (by decide)

def Foot.candidate : Foot := ⟨0x7004000000000000000000000000000130200108000000008, 0x802000000000002000000000000000000000001000C000000000000008000000007, 0x32⟩

theorem Does.candidate {G : Foot} {z s : State} (h : Does G z s) (hg : Foot.candidate.leB G = true) : Does G z (State.candidate s) := by
  unfold State.candidate
  with_reducible repeat' first
    | assumption
    | (extract_lets +onlyGivenNames a; first | (refine (fun (k : Does G z a) => ?_) ?_; rotate_left; unfold a; clear a; rotate_left; clear_value a; revert a; intros) | ((have b : ImgSt := a; clear b); unfold a; clear a) | (clear_value a; revert a; intros))
    | refine Does.wr ?_ ?_ _ _ _ | refine Does.setV ?_ ?_ _ _ _ | refine Does.pkgTo ?_ (Foot.up hg (by decide)) _ _
    | exact Foot.upR hg (by decide) | exact Foot.upV hg (by decide) | (dsimp -zeta only) | refine Does.ite ?_ ?_
    | refine Does.ite_snd ?_ ?_ | refine Foot.pick ?_ ?_ | split | refine Does.snd ‹_ = (_, _)› ?_
    | (refine Does.mk' ?_ rfl rfl rfl rfl rfl rfl rfl rfl rfl rfl ?_; rotate_left; intro p hn; cases p <;> first | with_unfolding_all rfl | exact Foot.noP hg (by decide) hn)

def Foot.loopsUnhold : Foot := ⟨0x7004010000002000000000000062404130200008000400000, 0x7, 0x30⟩

theorem Does.loopsUnhold {G : Foot} {z s : State} (h : Does G z s) (hg : Foot.loopsUnhold.leB G = true) (l : List Nat) : Does G z (State.loopsUnhold s l) := by
  unfold State.loopsUnhold
  with_reducible repeat' first
    | assumption | (refine Does.each ?_ _ _ fun _ _ _ _ => ?_) | refine Does.loopUnhold ?_ (Foot.up hg (by decide)) _

def Foot.ldrAborted : Foot := ⟨0x7004010000002000000000000062404130200108000400000, 0x7, 0x38⟩

theorem Does.ldrAborted {G : Foot} {z s : State} (h : Does G z s) (hg : Foot.ldrAborted.leB G = true) : Does G z (State.ldrAborted s) := by
  unfold State.ldrAborted
  with_reducible repeat' first
    | assumption
    | (extract_lets +onlyGivenNames a; first | (refine (fun (k : Does G z a) => ?_) ?_; rotate_left; unfold a; clear a; rotate_left; clear_value a; revert a; intros) | ((have b : ImgSt := a; clear b); unfold a; clear a) | (clear_value a; revert a; intros))
    | refine Does.wr ?_ ?_ _ _ _ | refine Does.ldrResult ?_ (Foot.up hg (by decide)) _ _ _ _
    | refine Does.loopsUnhold ?_ (Foot.up hg (by decide)) _ | exact Foot.upR hg (by decide) | (dsimp -zeta only)
    | refine Does.ite ?_ ?_ | refine Does.ite_snd ?_ ?_ | refine Foot.pick ?_ ?_ | split | refine Does.snd ‹_ = (_, _)› ?_
    | (refine Does.mk' ?_ rfl rfl rfl rfl rfl rfl rfl rfl rfl rfl ?_; rotate_left; intro p hn; cases p <;> first | with_unfolding_all rfl | exact Foot.noP hg (by decide) hn)

def Foot.tripBody : Foot := ⟨0, 0, 0x40000⟩

theorem Does.tripBody {G : Foot} {z s : State} (h : Does G z s) (hg : Foot.tripBody.leB G = true) (cls : Nat) (prev : Nat) : Does G z (State.tripBody s cls prev).2 := by
  unfold State.tripBody
  with_reducible repeat' first
    | assumption
    | (extract_lets +onlyGivenNames a; first | (refine (fun (k : Does G z a) => ?_) ?_; rotate_left; unfold a; clear a; rotate_left; clear_value a; revert a; intros) | (clear_value a; revert a; intros))
    | refine Does.freshFree ?_ (Foot.upP hg (by decide)) | (dsimp -zeta only) | refine Does.ite ?_ ?_
    | refine Does.ite_snd ?_ ?_ | refine Foot.pick ?_ ?_ | split

def Foot.faultRecord : Foot := ⟨0x7544000000000000000000000000000130200008000000000, 0x7, 0x130⟩

theorem Does.faultRecord {G : Foot} {z s : State} (h : Does G z s) (hg : Foot.faultRecord.leB G = true) (typ : Nat) (body : List Byte) : Does G z (State.faultRecord s typ body) := by
  unfold State.faultRecord
  with_reducible repeat' first
    | assumption
    | (extract_lets +onlyGivenNames a; first | (refine (fun (k : Does G z a) => ?_) ?_; rotate_left; unfold a; clear a; rotate_left; clear_value a; revert a; intros) | (clear_value a; revert a; intros))
    | refine Does.recordAt ?_ (Foot.up hg (by decide)) _ _ _ _ _ | refine Does.trcTrip ?_ (Foot.up hg (by decide)) _ _

def Foot.resumeUp : Foot := ⟨0x10000002000000000000000000000000000000400000, 0x20000000000000000000000000000000000000000000000000000000000000000000000000030, 0⟩

theorem Does.resumeUp {G : Foot} {z s : State} (h : Does G z s) (hg : Foot.resumeUp.leB G = true) : Does G z (State.resumeUp s) := by
  unfold State.resumeUp
  with_reducible repeat' first
    | assumption
    | (extract_lets +onlyGivenNames a; first | (refine (fun (k : Does G z a) => ?_) ?_; rotate_left; unfold a; clear a; rotate_left; clear_value a; revert a; intros) | (clear_value a; revert a; intros))
    | (refine Does.each ?_ _ _ fun _ _ _ _ => ?_) | refine Does.resumeEnd ?_ (Foot.up hg (by decide)) _ | (dsimp -zeta only)
    | refine Does.ite ?_ ?_ | refine Does.ite_snd ?_ ?_ | refine Foot.pick ?_ ?_ | split

def Foot.downGiveUp : Foot := ⟨0x10000002000000000000000000000000000000400000, 0x20000000000000000000001C00000000000000000000000000000000000000000000000000030, 0⟩

theorem Does.downGiveUp {G : Foot} {z s : State} (h : Does G z s) (hg : Foot.downGiveUp.leB G = true) : Does G z (State.downGiveUp s) := by
  unfold State.downGiveUp
  with_reducible repeat' first
    | assumption | refine Does.setV ?_ ?_ _ _ _ | refine Does.resumeUp ?_ (Foot.up hg (by decide))
    | exact Foot.upV hg (by decide) | (dsimp -zeta only) | refine Does.ite ?_ ?_

def Foot.failEnter : Foot := ⟨0x3CB7544350407703F00001000000006004130200079800C22068, 0x20000000020180100000020140000021C6000D9040A300040000027001600DC040C0000000008000000037, 0x40DB0⟩

theorem Does.failEnter {G : Foot} {z s : State} (h : Does G z s) (hg : Foot.failEnter.leB G = true) (cause : Nat) : Does G z (State.failEnter s cause) := by
  unfold State.failEnter
  with_reducible repeat' first
    | assumption
    | (extract_lets +onlyGivenNames a; first | (refine (fun (k : Does G z a) => ?_) ?_; rotate_left; unfold a; clear a; rotate_left; clear_value a; revert a; intros) | (clear_value a; revert a; intros))
    | refine Does.setV ?_ ?_ _ _ _ | (refine Does.each ?_ _ _ fun _ _ _ _ => ?_)
    | refine Does.tripShow ?_ (Foot.up hg (by decide)) | refine Does.pkgTo ?_ (Foot.up hg (by decide)) _ _
    | refine Does.stopOn ?_ (Foot.up hg (by decide)) | refine Does.loopsLeave ?_ (Foot.up hg (by decide)) _
    | refine Does.downGiveUp ?_ (Foot.up hg (by decide)) | refine Does.frameOut ?_ (Foot.up hg (by decide)) _ _ _
    | refine Does.spanBreak ?_ (Foot.up hg (by decide)) _ _ _ | refine Does.syncFlush ?_ (Foot.up hg (by decide))
    | refine Does.leaseFail ?_ (Foot.up hg (by decide)) | refine Does.event ?_ (Foot.up hg (by decide)) _ _
    | refine Does.faultRecord ?_ (Foot.up hg (by decide)) _ _ | refine Does.alertRise ?_ (Foot.up hg (by decide)) _
    | exact Foot.upV hg (by decide)

def Foot.downStep : Foot := ⟨0x70040FFFFFFFFFFFD910060B001FDFFF30200008000000020, 0x3B81FE24637F0613C0000000003FCFC0FF8041FFC00010000FF1AC8BFFF600001FFFFFFFFFF8060003C1FFEFF7, 0x40F0⟩

theorem Does.downStep {G : Foot} {z s : State} (h : Does G z s) (hg : Foot.downStep.leB G = true) (why : Nat) (k : Nat) : Does G z (State.downStep s why k) := by
  unfold State.downStep
  with_reducible repeat' first
    | assumption
    | (extract_lets +onlyGivenNames a; first | (refine (fun (k : Does G z a) => ?_) ?_; rotate_left; unfold a; clear a; rotate_left; clear_value a; revert a; intros) | (clear_value a; revert a; intros))
    | refine Does.setV ?_ ?_ _ _ _ | (refine Does.each ?_ _ _ fun _ _ _ _ => ?_)
    | refine Does.rstSync ?_ (Foot.up hg (by decide)) | refine Does.seqOff ?_ (Foot.up hg (by decide)) _
    | exact Foot.upV hg (by decide)

def Foot.aonEnter : Foot := ⟨0x70040FFFFFFFFFFFD8000001001FDFFF30200108000800028, 0x3B81FC00237F0613C0000008023FCFC0FF8083FEC000100000000003FFF601001FFFFFFFFFF8040083C1FFEFF7, 0x40F2⟩

theorem Does.aonEnter {G : Foot} {z s : State} (h : Does G z s) (hg : Foot.aonEnter.leB G = true) : Does G z (State.aonEnter s) := by
  unfold State.aonEnter
  with_reducible repeat' first
    | assumption
    | (extract_lets +onlyGivenNames a; first | (refine (fun (k : Does G z a) => ?_) ?_; rotate_left; unfold a; clear a; rotate_left; clear_value a; revert a; intros) | (clear_value a; revert a; intros))
    | refine Does.wr ?_ ?_ _ _ _ | refine Does.setV ?_ ?_ _ _ _ | (refine Does.each ?_ _ _ fun _ _ _ _ => ?_)
    | refine Does.haltClear ?_ (Foot.up hg (by decide)) _ | refine Does.pkgTo ?_ (Foot.up hg (by decide)) _ _
    | refine Does.rstSync ?_ (Foot.up hg (by decide)) | refine Does.candidate ?_ (Foot.up hg (by decide))
    | exact Foot.upR hg (by decide) | exact Foot.upV hg (by decide)

def Foot.islPlanStep : Foot := ⟨0x34070040FFFFFFFFFFFD8000200007FDFFF30200079C00400860, 0x3B85FC00207F8613C0000000003FCFC0FF8001FEE070D00100008003FFF601801FFFFFFFFFF8000003C1FFEFF7, 0x450F0⟩

theorem Does.islPlanStep {G : Foot} {z s : State} (h : Does G z s) (hg : Foot.islPlanStep.leB G = true) (d : Nat) : Does G z (State.islPlanStep s d) := by
  unfold State.islPlanStep
  with_reducible repeat' first
    | assumption
    | (extract_lets +onlyGivenNames a; first | (refine (fun (k : Does G z a) => ?_) ?_; rotate_left; unfold a; clear a; rotate_left; clear_value a; revert a; intros) | (clear_value a; revert a; intros))
    | refine Does.setV ?_ ?_ _ _ _ | (refine Does.when ?_ _ _ fun _ _ => ?_)
    | refine Does.fenceIssue ?_ (Foot.up hg (by decide)) _ _ | refine Does.rstSync ?_ (Foot.up hg (by decide))
    | refine Does.resumeUp ?_ (Foot.up hg (by decide)) | exact Foot.upV hg (by decide) | (dsimp -zeta only)
    | refine Does.ite ?_ ?_ | refine Does.ite_snd ?_ ?_ | refine Foot.pick ?_ ?_ | split

def Foot.islPlanRun : Foot := ⟨0x34070040FFFFFFFFFFFD8000200007FDFFF30200079C00400860, 0x3B85FC00207F8613C0000000003FCFC0FF8001FEE070D00100008003FFF601801FFFFFFFFFF8000003C1FFEFF7, 0x450F0⟩

theorem Does.islPlanRun {G : Foot} {z s : State} (h : Does G z s) (hg : Foot.islPlanRun.leB G = true) : Does G z (State.islPlanRun s) := by
  unfold State.islPlanRun
  with_reducible repeat' first
    | assumption | (refine Does.each ?_ _ _ fun _ _ _ _ => ?_) | refine Does.islPlanStep ?_ (Foot.up hg (by decide)) _

def Foot.downRun : Foot := ⟨0x34070040FFFFFFFFFFFD910060B007FDFFF30200179C00C00868, 0x3B85FE24637F0613C0000008023FCFC0FF81C3FFC070D0010FF1AC8BFFF601801FFFFFFFFFF8060083C1FFEFF7, 0x450F2⟩

theorem Does.downRun {G : Foot} {z s : State} (h : Does G z s) (hg : Foot.downRun.leB G = true) (fuel : Nat) : Does G z (State.downRun s fuel) := by
  induction fuel generalizing s with
  | zero =>
    unfold State.downRun
    exact h
  | succ fuel ih =>
    unfold State.downRun
    with_reducible repeat' first
      | assumption
      | (extract_lets +onlyGivenNames a; first | (refine (fun (k : Does G z a) => ?_) ?_; rotate_left; unfold a; clear a; rotate_left; clear_value a; revert a; intros) | (clear_value a; revert a; intros))
      | refine Does.setV ?_ ?_ _ _ _ | (refine Does.each ?_ _ _ fun _ _ _ _ => ?_)
      | refine Does.fenceIssue ?_ (Foot.up hg (by decide)) _ _ | refine Does.stopOn ?_ (Foot.up hg (by decide))
      | refine Does.downStep ?_ (Foot.up hg (by decide)) _ _ | refine Does.aonEnter ?_ (Foot.up hg (by decide))
      | refine Does.resumeUp ?_ (Foot.up hg (by decide)) | refine ih ?_ | exact Foot.upV hg (by decide)
      | exact Foot.upM hg ‹_ ∈ _› (by decide) | (dsimp -zeta only) | refine Does.ite ?_ ?_ | refine Does.ite_snd ?_ ?_
      | refine Foot.pick ?_ ?_ | split
  
def Foot.downStart : Foot := ⟨0x34070040FFFFFFFFFFFD910060B007FDFFF30200179C00C00868, 0x3B85FE24637F0613C0000008023FCFC0FF81C7FFC070D0010FF1AC8BFFF601801FFFFFFFFFF8060083C1FFEFF7, 0x450F2⟩

theorem Does.downStart {G : Foot} {z s : State} (h : Does G z s) (hg : Foot.downStart.leB G = true) (why : Nat) : Does G z (State.downStart s why) := by
  unfold State.downStart
  with_reducible repeat' first
    | assumption
    | (extract_lets +onlyGivenNames a; first | (refine (fun (k : Does G z a) => ?_) ?_; rotate_left; unfold a; clear a; rotate_left; clear_value a; revert a; intros) | (clear_value a; revert a; intros))
    | refine Does.setV ?_ ?_ _ _ _ | refine Does.downStep ?_ (Foot.up hg (by decide)) _ _
    | refine Does.downRun ?_ (Foot.up hg (by decide)) _ | exact Foot.upV hg (by decide) | (dsimp -zeta only)
    | refine Does.ite ?_ ?_ | refine Does.ite_snd ?_ ?_ | refine Foot.pick ?_ ?_ | split

def Foot.trip : Foot := ⟨0x3CB75443FFFFFFFFFFFD910060B007FDFFF30200179C0FC22868, 0x3B85FE24637F0E13C0100008023FCFC0FFAFC7FFCDF0D0A30FF5AC8BFFF601E01FFFFFFFFFF8060083C1FFEFF7, 0x45DF2⟩

theorem Does.trip {G : Foot} {z s : State} (h : Does G z s) (hg : Foot.trip.leB G = true) (cls : Nat) (rs : List Nat) : Does G z (State.trip s cls rs) := by
  unfold State.trip
  with_reducible repeat' first
    | assumption
    | (extract_lets +onlyGivenNames a; first | (refine (fun (k : Does G z a) => ?_) ?_; rotate_left; unfold a; clear a; rotate_left; clear_value a; revert a; intros) | ((have b : State → State := a; clear b); unfold a; clear a) | (clear_value a; revert a; intros))
    | refine Does.wr ?_ ?_ _ _ _ | refine Does.flag ?_ ?_ _ _ _ | refine Does.setV ?_ ?_ _ _ _
    | (refine Does.when ?_ _ _ fun _ _ => ?_) | (refine Does.each ?_ _ _ fun _ _ _ _ => ?_)
    | refine Does.alertRise ?_ (Foot.up hg (by decide)) _ | refine Does.stopOn ?_ (Foot.up hg (by decide))
    | refine Does.haltReq ?_ (Foot.up hg (by decide)) _ | refine Does.downGiveUp ?_ (Foot.up hg (by decide))
    | refine Does.pkgTo ?_ (Foot.up hg (by decide)) _ _ | refine Does.loopsLeave ?_ (Foot.up hg (by decide)) _
    | refine Does.tripShow ?_ (Foot.up hg (by decide)) | refine Does.riseStopAll ?_ (Foot.up hg (by decide))
    | refine Does.event ?_ (Foot.up hg (by decide)) _ _ | refine Does.tripBody ?_ (Foot.up hg (by decide)) _ _
    | refine Does.faultRecord ?_ (Foot.up hg (by decide)) _ _ | refine Does.trcTrigger ?_ (Foot.up hg (by decide)) _
    | refine Does.breakSend ?_ (Foot.up hg (by decide)) _ _ _ | refine Does.syncFlush ?_ (Foot.up hg (by decide))
    | refine Does.downStart ?_ (Foot.up hg (by decide)) _ | refine Does.failEnter ?_ (Foot.up hg (by decide)) _
    | exact Foot.upR hg (by decide) | exact Foot.upV hg (by decide) | exact Foot.upM hg ‹_ ∈ _› (by decide)
    | (dsimp -zeta only) | refine Does.ite ?_ ?_

def Foot.seqDueOn : Foot := ⟨0xFFFFFFFFFFFD8100003001FDFFE00000000000000020, 0x3B81FC00237F0613C0000000003FCFC0FF8021FFC00010000000038BFFF600001FFFFFFFFFF8040003C1FFEFF0, 0x40C0⟩

theorem Does.seqDueOn {G : Foot} {z s : State} (h : Does G z s) (hg : Foot.seqDueOn.leB G = true) : Does G z (State.seqDueOn s) := by
  unfold State.seqDueOn
  with_reducible repeat' first
    | assumption | refine Does.setV ?_ ?_ _ _ _ | (refine Does.each ?_ _ _ fun _ _ _ _ => ?_)
    | refine Does.seqOn ?_ (Foot.up hg (by decide)) _ | exact Foot.upV hg (by decide)

def Foot.runEnter : Foot := ⟨0x7004050406002010000000020062404130200008000400008, 0x2000000000018000000002014000004002000000000000000080027001000C844000000000008000000007, 0x30⟩

theorem Does.runEnter {G : Foot} {z s : State} (h : Does G z s) (hg : Foot.runEnter.leB G = true) (cause : Nat) : Does G z (State.runEnter s cause) := by
  unfold State.runEnter
  with_reducible repeat' first
    | assumption
    | (extract_lets +onlyGivenNames a; first | (refine (fun (k : Does G z a) => ?_) ?_; rotate_left; unfold a; clear a; rotate_left; clear_value a; revert a; intros) | (clear_value a; revert a; intros))
    | refine Does.pkgTo ?_ (Foot.up hg (by decide)) _ _ | refine Does.vfRun ?_ (Foot.up hg (by decide))
    | refine Does.loopsRun ?_ (Foot.up hg (by decide)) | refine Does.allEff ?_ (Foot.up hg (by decide))

def Foot.rampStepTo : Foot := ⟨0xFFFFFFFFFFFD8100003001FDFFE00000000000000020, 0x3B81FC00237F0613C0000000003FCFC0FF803DFFC00010000000038BFFF600001FFFFFFFFFF8040003C1FFEFF0, 0x40C0⟩

theorem Does.rampStepTo {G : Foot} {z s : State} (h : Does G z s) (hg : Foot.rampStepTo.leB G = true) (k : Nat) (first : Bool) : Does G z (State.rampStepTo s k first) := by
  unfold State.rampStepTo
  with_reducible repeat' first
    | assumption
    | (extract_lets +onlyGivenNames a; first | (refine (fun (k : Does G z a) => ?_) ?_; rotate_left; unfold a; clear a; rotate_left; clear_value a; revert a; intros) | (clear_value a; revert a; intros))
    | refine Does.setV ?_ ?_ _ _ _ | (refine Does.each ?_ _ _ fun _ _ _ _ => ?_)
    | refine Does.seqDueOn ?_ (Foot.up hg (by decide)) | exact Foot.upV hg (by decide)

def Foot.rampRun : Foot := ⟨0x70040FFFFFFFFFFFD8100003007FDFFF30200008000400028, 0x3B81FC00237F0613C0000000023FCFC0FFC03FFFC00010000000038BFFF601001FFFFFFFFFF8040083C1FFEFF7, 0x40F0⟩

theorem Does.rampRun {G : Foot} {z s : State} (h : Does G z s) (hg : Foot.rampRun.leB G = true) (fuel : Nat) : Does G z (State.rampRun s fuel) := by
  induction fuel generalizing s with
  | zero =>
    unfold State.rampRun
    exact h
  | succ fuel ih =>
    unfold State.rampRun
    with_reducible repeat' first
      | assumption | refine Does.setV ?_ ?_ _ _ _ | refine Does.rampStepTo ?_ (Foot.up hg (by decide)) _ _
      | refine Does.runEnter ?_ (Foot.up hg (by decide)) _ | refine ih ?_ | exact Foot.upV hg (by decide) | (dsimp -zeta only)
      | refine Does.ite ?_ ?_ | refine Does.ite_snd ?_ ?_ | refine Foot.pick ?_ ?_ | split
  
def Foot.rampEnter : Foot := ⟨0x3CB75443FFFFFFFFFFFD910060B007FDFFF30200179C0FC22868, 0x3B85FE24637F0E13C0100008023FCFC0FFEFFFFFCDF0D0A30FF5AF8BFFF601E01FFFFFFFFFF8060083C1FFEFF7, 0x45DF2⟩

theorem Does.rampEnter {G : Foot} {z s : State} (h : Does G z s) (hg : Foot.rampEnter.leB G = true) (cause : Nat) : Does G z (State.rampEnter s cause) := by
  unfold State.rampEnter
  with_reducible repeat' first
    | assumption
    | (extract_lets +onlyGivenNames a; first | (refine (fun (k : Does G z a) => ?_) ?_; rotate_left; unfold a; clear a; rotate_left; clear_value a; revert a; intros) | (clear_value a; revert a; intros))
    | refine Does.setV ?_ ?_ _ _ _ | (refine Does.each ?_ _ _ fun _ _ _ _ => ?_)
    | refine Does.downGiveUp ?_ (Foot.up hg (by decide)) | refine Does.pkgTo ?_ (Foot.up hg (by decide)) _ _
    | refine Does.trip ?_ (Foot.up hg (by decide)) _ _ | refine Does.stopOff ?_ (Foot.up hg (by decide))
    | refine Does.rampStepTo ?_ (Foot.up hg (by decide)) _ _ | refine Does.rampRun ?_ (Foot.up hg (by decide)) _
    | refine Does.runEnter ?_ (Foot.up hg (by decide)) _ | exact Foot.upV hg (by decide)
    | exact Foot.upM hg ‹_ ∈ _› (by decide) | (dsimp -zeta only) | refine Does.ite ?_ ?_ | refine Does.ite_snd ?_ ?_
    | refine Foot.pick ?_ ?_ | split

def Foot.pkgRun : Foot := ⟨0x34070040FFFFFFFFFFFD910060B007FDFFF30200179C00C00868, 0x3B85FE24637F8613C0000008023FCFC0FFC1FFFFE070D0010FF1AF8BFFF601801FFFFFFFFFF8060083C1FFEFF7, 0x450F2⟩

theorem Does.pkgRun {G : Foot} {z s : State} (h : Does G z s) (hg : Foot.pkgRun.leB G = true) : Does G z (State.pkgRun s) := by
  unfold State.pkgRun
  with_reducible repeat' first
    | assumption | refine Does.rampRun ?_ (Foot.up hg (by decide)) _ | refine Does.downRun ?_ (Foot.up hg (by decide)) _
    | refine Does.islPlanRun ?_ (Foot.up hg (by decide))

def Foot.pkgReject : Foot := ⟨0x8, 0, 0⟩

theorem Does.pkgReject {G : Foot} {z s : State} (h : Does G z s) (hg : Foot.pkgReject.leB G = true) : Does G z (State.pkgReject s).2 := by
  unfold State.pkgReject
  with_reducible repeat' first
    | assumption | refine Does.flag ?_ ?_ _ _ _ | exact Foot.upR hg (by decide)

def Foot.pkgOk : Foot := ⟨0, 0, 0⟩

theorem Does.pkgOk {G : Foot} {z s : State} (h : Does G z s) (hg : Foot.pkgOk.leB G = true) : Does G z (State.pkgOk s).2 := by
  unfold State.pkgOk
  with_reducible repeat' first
    | assumption

def Foot.wakeIgnore : Foot := ⟨0x40200000000000000, 0, 0⟩

theorem Does.wakeIgnore {G : Foot} {z s : State} (h : Does G z s) (hg : Foot.wakeIgnore.leB G = true) : Does G z (State.wakeIgnore s) := by
  unfold State.wakeIgnore
  with_reducible repeat' first
    | assumption
    | (extract_lets +onlyGivenNames a; first | (refine (fun (k : Does G z a) => ?_) ?_; rotate_left; unfold a; clear a; rotate_left; clear_value a; revert a; intros) | (clear_value a; revert a; intros))
    | refine Does.flag ?_ ?_ _ _ _ | (refine Does.each ?_ _ _ fun _ _ _ _ => ?_) | refine Does.incSat ?_ ?_ _ _ _
    | exact Foot.upR hg (by decide) | (dsimp -zeta only) | refine Does.ite ?_ ?_

def Foot.sleepAbort : Foot := ⟨0x40000000000000008, 0, 0⟩

theorem Does.sleepAbort {G : Foot} {z s : State} (h : Does G z s) (hg : Foot.sleepAbort.leB G = true) : Does G z (State.sleepAbort s) := by
  unfold State.sleepAbort
  with_reducible repeat' first
    | assumption | refine Does.flag ?_ ?_ _ _ _ | (refine Does.each ?_ _ _ fun _ _ _ _ => ?_) | exact Foot.upR hg (by decide)

def Foot.retSlots : Foot := ⟨0x7004000004000010000000020000000130200008000000000, 0x800000000000040000000000000000000007, 0x30⟩

theorem Does.retSlots {G : Foot} {z s : State} (h : Does G z s) (hg : Foot.retSlots.leB G = true) (l : List Nat) : Does G z (State.retSlots s l) := by
  unfold State.retSlots
  with_reducible repeat' first
    | assumption | (refine Does.each ?_ _ _ fun _ _ _ _ => ?_) | refine Does.selectSlot ?_ (Foot.up hg (by decide)) _ _

def Foot.holdEnter : Foot := ⟨0x7004000000000000000000000002004130200008000000008, 0x2000000001002000000000000000000000001000C000000004000008000000007, 0x30⟩

theorem Does.holdEnter {G : Foot} {z s : State} (h : Does G z s) (hg : Foot.holdEnter.leB G = true) : Does G z (State.holdEnter s) := by
  unfold State.holdEnter
  with_reducible repeat' first
    | assumption
    | (extract_lets +onlyGivenNames a; first | (refine (fun (k : Does G z a) => ?_) ?_; rotate_left; unfold a; clear a; rotate_left; clear_value a; revert a; intros) | (clear_value a; revert a; intros))
    | refine Does.setV ?_ ?_ _ _ _ | (refine Does.each ?_ _ _ fun _ _ _ _ => ?_)
    | refine Does.pkgTo ?_ (Foot.up hg (by decide)) _ _ | refine Does.loopsLeave ?_ (Foot.up hg (by decide)) _
    | exact Foot.upV hg (by decide)

def Foot.resumeRun : Foot := ⟨0x7004050406003E100000000200624041302000780004000C8, 0x2000000000018000000002014000007002000000000000000080027001000C844000000000008000000007, 0xB0⟩

theorem Does.resumeRun {G : Foot} {z s : State} (h : Does G z s) (hg : Foot.resumeRun.leB G = true) : Does G z (State.resumeRun s) := by
  unfold State.resumeRun
  with_reducible repeat' first
    | assumption
    | (extract_lets +onlyGivenNames a; first | (refine (fun (k : Does G z a) => ?_) ?_; rotate_left; unfold a; clear a; rotate_left; clear_value a; revert a; intros) | (clear_value a; revert a; intros))
    | refine Does.wr ?_ ?_ _ _ _ | refine Does.setV ?_ ?_ _ _ _ | (refine Does.when ?_ _ _ fun _ _ => ?_)
    | (refine Does.each ?_ _ _ fun _ _ _ _ => ?_) | refine Does.modeTo ?_ (Foot.up hg (by decide)) _
    | refine Does.pkgTo ?_ (Foot.up hg (by decide)) _ _ | refine Does.vfRun ?_ (Foot.up hg (by decide))
    | refine Does.loopsRun ?_ (Foot.up hg (by decide)) | refine Does.splitAll ?_ (Foot.up hg (by decide)) _
    | refine Does.allEff ?_ (Foot.up hg (by decide)) | exact Foot.upR hg (by decide) | exact Foot.upV hg (by decide)
    | exact Foot.upM hg ‹_ ∈ _› (by decide) | (dsimp -zeta only) | split | refine Does.snd ‹_ = (_, _)› ?_
    | (refine Does.mk' ?_ rfl rfl rfl rfl rfl rfl rfl rfl rfl rfl ?_; rotate_left; intro p hn; cases p <;> first | with_unfolding_all rfl | exact Foot.noP hg (by decide) hn)

def Foot.sleepEnter : Foot := ⟨0x7004000004000010000000020002004130200008000000008, 0x2000000000000000000002000000000002000000000000000080000001000C0C0000000000008000000007, 0x30⟩

theorem Does.sleepEnter {G : Foot} {z s : State} (h : Does G z s) (hg : Foot.sleepEnter.leB G = true) : Does G z (State.sleepEnter s) := by
  unfold State.sleepEnter
  with_reducible repeat' first
    | assumption
    | (extract_lets +onlyGivenNames a; first | (refine (fun (k : Does G z a) => ?_) ?_; rotate_left; unfold a; clear a; rotate_left; clear_value a; revert a; intros) | (clear_value a; revert a; intros))
    | refine Does.setV ?_ ?_ _ _ _ | (refine Does.each ?_ _ _ fun _ _ _ _ => ?_)
    | refine Does.pkgTo ?_ (Foot.up hg (by decide)) _ _ | refine Does.loopsLeave ?_ (Foot.up hg (by decide)) _
    | refine Does.retSlots ?_ (Foot.up hg (by decide)) _ | refine Does.issueDrive ?_ (Foot.up hg (by decide)) _ _
    | exact Foot.upV hg (by decide)

def Foot.sleepWake : Foot := ⟨0x7004050406002010000000020062404130200008000400008, 0x200000000001800000000201400000400200000000000000008002F001000CBC4000000000008000000007, 0x30⟩

theorem Does.sleepWake {G : Foot} {z s : State} (h : Does G z s) (hg : Foot.sleepWake.leB G = true) (cause : Nat) : Does G z (State.sleepWake s cause) := by
  unfold State.sleepWake
  with_reducible repeat' first
    | assumption
    | (extract_lets +onlyGivenNames a; first | (refine (fun (k : Does G z a) => ?_) ?_; rotate_left; unfold a; clear a; rotate_left; clear_value a; revert a; intros) | (clear_value a; revert a; intros))
    | refine Does.setV ?_ ?_ _ _ _ | (refine Does.each ?_ _ _ fun _ _ _ _ => ?_)
    | refine Does.leafAcct ?_ (Foot.up hg (by decide)) _ | refine Does.pkgTo ?_ (Foot.up hg (by decide)) _ _
    | refine Does.vfRun ?_ (Foot.up hg (by decide)) | refine Does.loopsRun ?_ (Foot.up hg (by decide))
    | refine Does.allEff ?_ (Foot.up hg (by decide)) | exact Foot.upV hg (by decide)

def Foot.deepEnter : Foot := ⟨0x34070040FFFFFFFFFFFD910060B007FDFFF70200179C00C00868, 0x3B85FE24637F0613C0000008023FCFC0FF81C7FFC070D0010FF1AC8BFFF601801FFFFFFFFFF8060083C1FFEFF7, 0x450F2⟩

theorem Does.deepEnter {G : Foot} {z s : State} (h : Does G z s) (hg : Foot.deepEnter.leB G = true) : Does G z (State.deepEnter s) := by
  unfold State.deepEnter
  with_reducible repeat' first
    | assumption
    | (extract_lets +onlyGivenNames a; first | (refine (fun (k : Does G z a) => ?_) ?_; rotate_left; unfold a; clear a; rotate_left; clear_value a; revert a; intros) | (clear_value a; revert a; intros))
    | refine Does.pkgTo ?_ (Foot.up hg (by decide)) _ _ | refine Does.loopsLeave ?_ (Foot.up hg (by decide)) _
    | refine Does.retSlots ?_ (Foot.up hg (by decide)) _ | refine Does.wakeIgnore ?_ (Foot.up hg (by decide))
    | refine Does.downStart ?_ (Foot.up hg (by decide)) _

def Foot.wakeUp : Foot := ⟨0x3CB75443FFFFFFFFFFFD910060B007FDFFF30200179C0FC22868, 0x3B85FE24637F0E13C0100008023FCFC0FFEFFFFFCDF0D0A30FF5AF8BFFF601E01FFFFFFFFFF8060083C1FFEFF7, 0x45DF2⟩

theorem Does.wakeUp {G : Foot} {z s : State} (h : Does G z s) (hg : Foot.wakeUp.leB G = true) (cause : Nat) : Does G z (State.wakeUp s cause) := by
  unfold State.wakeUp
  with_reducible repeat' first
    | assumption | refine Does.sleepWake ?_ (Foot.up hg (by decide)) _ | refine Does.rampEnter ?_ (Foot.up hg (by decide)) _
    | (dsimp -zeta only) | refine Does.ite ?_ ?_

def Foot.recoverRun : Foot := ⟨0x3CB75443FFFFFFFFFFFD910060B007FDFFF30200179C0FC22868, 0x3B85FE24637F0E13C0100008023FCFC0FFEFFFFFCDF0D0A30FF5AF8BFFF601E01FFFFFFFFFF8060083C1FFEFF7, 0x45DF2⟩

theorem Does.recoverRun {G : Foot} {z s : State} (h : Does G z s) (hg : Foot.recoverRun.leB G = true) : Does G z (State.recoverRun s) := by
  unfold State.recoverRun
  with_reducible repeat' first
    | assumption
    | (extract_lets +onlyGivenNames a; first | (refine (fun (k : Does G z a) => ?_) ?_; rotate_left; unfold a; clear a; rotate_left; clear_value a; revert a; intros) | (clear_value a; revert a; intros))
    | refine Does.wr ?_ ?_ _ _ _ | refine Does.setV ?_ ?_ _ _ _ | (refine Does.each ?_ _ _ fun _ _ _ _ => ?_)
    | refine Does.haltClear ?_ (Foot.up hg (by decide)) _ | refine Does.rampEnter ?_ (Foot.up hg (by decide)) _
    | exact Foot.upR hg (by decide) | exact Foot.upV hg (by decide)

def Foot.pkgTake : Foot := ⟨0x3CB75443FFFFFFFFFFFD910060B007FDFFF70200179C0FC228E8, 0x3B85FE24637F0E13C0100008023FCFC0FFFFFFFFCDF0D0A30FF5AF8BFFF601E01FFFFFFFFFF8060083C1FFEFF7, 0x45DFA⟩

theorem Does.pkgTake {G : Foot} {z s : State} (h : Does G z s) (hg : Foot.pkgTake.leB G = true) (c : Nat) : Does G z (State.pkgTake s c) := by
  unfold State.pkgTake
  with_reducible repeat' first
    | assumption | refine Does.setV ?_ ?_ _ _ _ | refine Does.holdEnter ?_ (Foot.up hg (by decide))
    | refine Does.resumeRun ?_ (Foot.up hg (by decide)) | refine Does.sleepEnter ?_ (Foot.up hg (by decide))
    | refine Does.sleepAbort ?_ (Foot.up hg (by decide)) | refine Does.deepEnter ?_ (Foot.up hg (by decide))
    | refine Does.wakeUp ?_ (Foot.up hg (by decide)) _ | refine Does.recoverRun ?_ (Foot.up hg (by decide))
    | refine Does.failEnter ?_ (Foot.up hg (by decide)) _ | refine Does.ldrAborted ?_ (Foot.up hg (by decide))
    | refine Does.downStart ?_ (Foot.up hg (by decide)) _ | exact Foot.upV hg (by decide) | (dsimp -zeta only)
    | refine Does.ite ?_ ?_ | refine Does.ite_snd ?_ ?_ | refine Foot.pick ?_ ?_ | split

def Foot.pkgCmd : Foot := ⟨0x3CB75443FFFFFFFFFFFD910060B007FDFFF70200179C0FC228E8, 0x3B85FE24637F0E13C0100008023FCFC0FFFFFFFFCDF0D0A30FF5AF8BFFF601E01FFFFFFFFFF8060083C1FFEFF7, 0x45DFA⟩

theorem Does.pkgCmd {G : Foot} {z s : State} (h : Does G z s) (hg : Foot.pkgCmd.leB G = true) (c : Nat) : Does G z (State.pkgCmd s c).2 := by
  unfold State.pkgCmd
  with_reducible repeat' first
    | assumption | refine Does.setV ?_ ?_ _ _ _ | refine Does.pkgOk ?_ (Foot.up hg (by decide))
    | refine Does.pkgReject ?_ (Foot.up hg (by decide)) | refine Does.pkgTake ?_ (Foot.up hg (by decide)) _
    | exact Foot.upV hg (by decide) | (dsimp -zeta only) | refine Does.ite ?_ ?_ | refine Does.ite_snd ?_ ?_

def Foot.holdEnd : Foot := ⟨0x3CB75443FFFFFFFFFFFD910060B007FDFFF70200179C0FC228E8, 0x3B85FE24637F0E13C0100008023FCFC0FFFFFFFFCDF0D0A30FF5AF8BFFF601E01FFFFFFFFFF8060083C1FFEFF7, 0x45DFA⟩

theorem Does.holdEnd {G : Foot} {z s : State} (h : Does G z s) (hg : Foot.holdEnd.leB G = true) : Does G z (State.holdEnd s) := by
  unfold State.holdEnd
  with_reducible repeat' first
    | assumption
    | (extract_lets +onlyGivenNames a; first | (refine (fun (k : Does G z a) => ?_) ?_; rotate_left; unfold a; clear a; rotate_left; clear_value a; revert a; intros) | (clear_value a; revert a; intros))
    | refine Does.setV ?_ ?_ _ _ _ | (refine Does.each ?_ _ _ fun _ _ _ _ => ?_)
    | refine Does.pkgTake ?_ (Foot.up hg (by decide)) _ | exact Foot.upV hg (by decide) | exact Foot.upM hg ‹_ ∈ _› (by decide)
    | (dsimp -zeta only) | refine Does.ite ?_ ?_

def Foot.modeReq : Foot := ⟨0x80, 0, 0⟩

theorem Does.modeReq {G : Foot} {z s : State} (h : Does G z s) (hg : Foot.modeReq.leB G = true) (m : Nat) : Does G z (State.modeReq s m).2 := by
  unfold State.modeReq
  with_reducible repeat' first
    | assumption | refine Does.wr ?_ ?_ _ _ _ | exact Foot.upR hg (by decide) | (dsimp -zeta only) | refine Does.ite ?_ ?_
    | refine Does.ite_snd ?_ ?_

def Foot.wearPort : Foot := ⟨0x7004000004000000000000000000000130200008000000000, 0x200000000000000000000000000000000000000000000000000000000000000000000007, 0x30⟩

theorem Does.wearPort {G : Foot} {z s : State} (h : Does G z s) (hg : Foot.wearPort.leB G = true) (l : Nat) (p : Nat) (age : Option Nat) : Does G z (State.wearPort s l p age) := by
  unfold State.wearPort
  with_reducible repeat' first
    | assumption
    | (extract_lets +onlyGivenNames a; first | (refine (fun (k : Does G z a) => ?_) ?_; rotate_left; unfold a; clear a; rotate_left; clear_value a; revert a; intros) | (clear_value a; revert a; intros))
    | refine Does.wr ?_ ?_ _ _ _ | refine Does.flag ?_ ?_ _ _ _ | refine Does.setV ?_ ?_ _ _ _
    | refine Does.event ?_ (Foot.up hg (by decide)) _ _ | refine Does.coreEff ?_ (Foot.up hg (by decide)) _ _
    | exact Foot.upR hg (by decide) | exact Foot.upV hg (by decide) | (dsimp -zeta only) | refine Does.ite ?_ ?_
    | refine Does.ite_snd ?_ ?_ | refine Foot.pick ?_ ?_ | split

def Foot.expoClose : Foot := ⟨0x3000000000000000000000000000000, 0x800000000000000000000000000000000000000, 0⟩

theorem Does.expoClose {G : Foot} {z s : State} (h : Does G z s) (hg : Foot.expoClose.leB G = true) (r : Nat) : Does G z (State.expoClose s r) := by
  unfold State.expoClose
  with_reducible repeat' first
    | assumption
    | (extract_lets +onlyGivenNames a; first | (refine (fun (k : Does G z a) => ?_) ?_; rotate_left; unfold a; clear a; rotate_left; clear_value a; revert a; intros) | (clear_value a; revert a; intros))
    | refine Does.wr ?_ ?_ _ _ _ | refine Does.setV ?_ ?_ _ _ _ | exact Foot.upR hg (by decide) | exact Foot.upV hg (by decide)

def Foot.railTrip : Foot := ⟨0x3CB75443FFFFFFFFFFFD910060B007FDFFF30200179C0FC22868, 0x3B85FE24637F8E13C0100008023FCFC0FFEFFFFFEDF0D0A30FF5AF8BFFF601E01FFFFFFFFFF8060083C1FFEFF7, 0x45DF2⟩

theorem Does.railTrip {G : Foot} {z s : State} (h : Does G z s) (hg : Foot.railTrip.leB G = true) (cls : Nat) (r : Nat) (f : Fld) (hf : G.hasR f.r = true) (c : Bool) : Does G z (State.railTrip s cls r f c) := by
  unfold State.railTrip
  with_reducible repeat' first
    | assumption | refine Does.trip ?_ (Foot.up hg (by decide)) _ _ | refine Does.pkgRun ?_ (Foot.up hg (by decide))
    | (dsimp -zeta only) | refine Does.ite ?_ ?_

def Foot.thermalTrip : Foot := ⟨0x3CB75443FFFFFFFFFFFD910060B007FDFFF30200179C0FC22868, 0x3B85FE24637F0E13C0100008023FCFC0FFAFC7FFCDF0D0A30FF5AC8BFFF601E01FFFFFFFFFF8060083C1FFEFF7, 0x45DF2⟩

theorem Does.thermalTrip {G : Foot} {z s : State} (h : Does G z s) (hg : Foot.thermalTrip.leB G = true) : Does G z (State.thermalTrip s) := by
  unfold State.thermalTrip
  with_reducible repeat' first
    | assumption | refine Does.trip ?_ (Foot.up hg (by decide)) _ _ | (dsimp -zeta only) | refine Does.ite ?_ ?_

def Foot.brakeSend : Foot := ⟨0x30000002000000000000000000000000000000400000, 0, 0x40⟩

theorem Does.brakeSend {G : Foot} {z s : State} (h : Does G z s) (hg : Foot.brakeSend.leB G = true) (w : Nat) : Does G z (State.brakeSend s w) := by
  unfold State.brakeSend
  with_reducible repeat' first
    | assumption | (refine Does.each ?_ _ _ fun _ _ _ _ => ?_) | refine Does.hubWrite ?_ (Foot.up hg (by decide)) _ _ _ _

def Foot.brakeTake : Foot := ⟨0x60406000000000000000000000000000000000000000, 0x20000000000180000000000140000000000000000000000000000270000000804000000000000000000000, 0⟩

theorem Does.brakeTake {G : Foot} {z s : State} (h : Does G z s) (hg : Foot.brakeTake.leB G = true) (l : Nat) (w : Nat) : Does G z (State.brakeTake s l w) := by
  unfold State.brakeTake
  with_reducible repeat' first
    | assumption
    | (extract_lets +onlyGivenNames a; first | (refine (fun (k : Does G z a) => ?_) ?_; rotate_left; unfold a; clear a; rotate_left; clear_value a; revert a; intros) | (clear_value a; revert a; intros))
    | refine Does.setReg ?_ ?_ _ _ _ | refine Does.leafEff ?_ (Foot.up hg (by decide)) _ | exact Foot.upR hg (by decide)

def Foot.latchClear : Foot := ⟨0x1800000, 0, 0⟩

theorem Does.latchClear {G : Foot} {z s : State} (h : Does G z s) (hg : Foot.latchClear.leB G = true) (pins : Pins) (w : Nat) : Does G z (State.latchClear s pins w) := by
  unfold State.latchClear
  with_reducible repeat' first
    | assumption
    | (extract_lets +onlyGivenNames a; first | (refine (fun (k : Does G z a) => ?_) ?_; rotate_left; unfold a; clear a; rotate_left; clear_value a; revert a; intros) | (clear_value a; revert a; intros))
    | refine Does.wr ?_ ?_ _ _ _ | refine Does.setReg ?_ ?_ _ _ _ | (refine Does.when ?_ _ _ fun _ _ => ?_)
    | (refine Does.each ?_ _ _ fun _ _ _ _ => ?_) | refine Does.alertRise ?_ (Foot.up hg (by decide)) _
    | exact Foot.upR hg (by decide)

def Foot.railClear : Foot := ⟨0x4000000, 0x1000000000000000000000000000000000000000, 0⟩

theorem Does.railClear {G : Foot} {z s : State} (h : Does G z s) (hg : Foot.railClear.leB G = true) (w : Nat) : Does G z (State.railClear s w) := by
  unfold State.railClear
  with_reducible repeat' first
    | assumption
    | (extract_lets +onlyGivenNames a; first | (refine (fun (k : Does G z a) => ?_) ?_; rotate_left; unfold a; clear a; rotate_left; clear_value a; revert a; intros) | (clear_value a; revert a; intros))
    | refine Does.wr ?_ ?_ _ _ _ | exact Foot.upR hg (by decide)

def Foot.railUvClear : Foot := ⟨0x8000000, 0x2000000000000000000000000000000000000000, 0⟩

theorem Does.railUvClear {G : Foot} {z s : State} (h : Does G z s) (hg : Foot.railUvClear.leB G = true) (w : Nat) : Does G z (State.railUvClear s w) := by
  unfold State.railUvClear
  with_reducible repeat' first
    | assumption | refine Does.wr ?_ ?_ _ _ _ | exact Foot.upR hg (by decide)


end Sys2Proof.Machine
end

