-- ==== Sys2Proof/Laws/FootD.lean ====
section
/-!
SUPPORT. Does, with its footprint, for the operations of Clock, Thermal, ImgParse, ImgItems, TraceCmd, Fields.
-/
set_option linter.tactic.unusedName false
set_option linter.unusedVariables false
set_option linter.unusedTactic false
set_option linter.unreachableTactic false
namespace Sys2Proof.Machine

def Foot.unitEvent : Foot := ⟨0x7004010000002000000000000000000130200008000400000, 0x7, 0x30⟩

theorem Does.unitEvent {G : Foot} {z s : State} (h : Does G z s) (hg : Foot.unitEvent.leB G = true) (u : Nat) (code : Nat) : Does G z (State.unitEvent s u code) := by
  unfold State.unitEvent
  with_reducible repeat' first
    | assumption | refine Does.evFrom ?_ (Foot.up hg (by decide)) _ _ _ _ _

def Foot.clkForce : Foot := ⟨0x7004000000000000010002080000000530200008000000000, 0x23800000000000000000000000000000140000000000001A0000000000000000000000000000000000007, 0x30⟩

theorem Does.clkForce {G : Foot} {z s : State} (h : Does G z s) (hg : Foot.clkForce.leB G = true) (u : Nat) : Does G z (State.clkForce s u) := by
  unfold State.clkForce
  with_reducible repeat' first
    | assumption
    | (extract_lets +onlyGivenNames a; first | (refine (fun (k : Does G z a) => ?_) ?_; rotate_left; unfold a; clear a; rotate_left; clear_value a; revert a; intros) | (clear_value a; revert a; intros))
    | refine Does.wr ?_ ?_ _ _ _ | refine Does.setV ?_ ?_ _ _ _ | (refine Does.when ?_ _ _ fun _ _ => ?_)
    | (refine Does.each ?_ _ _ fun _ _ _ _ => ?_) | refine Does.shedAbort ?_ (Foot.up hg (by decide)) _
    | refine Does.gridLost ?_ (Foot.up hg (by decide)) | exact Foot.upR hg (by decide) | exact Foot.upV hg (by decide)

def Foot.muxStart : Foot := ⟨0x600000000000000000, 0x3000000000000000000000000000000000000000000000000000, 0⟩

theorem Does.muxStart {G : Foot} {z s : State} (h : Does G z s) (hg : Foot.muxStart.leB G = true) (u : Nat) (sel : Nat) : Does G z (State.muxStart s u sel) := by
  unfold State.muxStart
  with_reducible repeat' first
    | assumption
    | (extract_lets +onlyGivenNames a; first | (refine (fun (k : Does G z a) => ?_) ?_; rotate_left; unfold a; clear a; rotate_left; clear_value a; revert a; intros) | (clear_value a; revert a; intros))
    | refine Does.wr ?_ ?_ _ _ _ | refine Does.setV ?_ ?_ _ _ _ | exact Foot.upR hg (by decide) | exact Foot.upV hg (by decide)

def Foot.clkSel : Foot := ⟨0x600000000000000000, 0x3000000000000000000000000000000000000000000000000000, 0⟩

theorem Does.clkSel {G : Foot} {z s : State} (h : Does G z s) (hg : Foot.clkSel.leB G = true) (u : Nat) (sel : Nat) : Does G z (State.clkSel s u sel).2 := by
  unfold State.clkSel
  with_reducible repeat' first
    | assumption | refine Does.wr ?_ ?_ _ _ _ | refine Does.muxStart ?_ (Foot.up hg (by decide)) _ _
    | exact Foot.upR hg (by decide) | (dsimp -zeta only) | refine Does.ite ?_ ?_ | refine Does.ite_snd ?_ ?_

def Foot.recal : Foot := ⟨0, 0x8000000000000000000000000000000000000000000000000000, 0⟩

theorem Does.recal {G : Foot} {z s : State} (h : Does G z s) (hg : Foot.recal.leB G = true) (u : Nat) : Does G z (State.recal s u).2 := by
  unfold State.recal
  with_reducible repeat' first
    | assumption | refine Does.setV ?_ ?_ _ _ _ | exact Foot.upV hg (by decide) | (dsimp -zeta only) | refine Does.ite ?_ ?_
    | refine Does.ite_snd ?_ ?_

def Foot.oscCal : Foot := ⟨0x7004010000002000000000000000001D30200008000400000, 0x8000000000000000000000000000000000000000000000000007, 0x30⟩

theorem Does.oscCal {G : Foot} {z s : State} (h : Does G z s) (hg : Foot.oscCal.leB G = true) (u : Nat) (n : Nat) : Does G z (State.oscCal s u n) := by
  unfold State.oscCal
  with_reducible repeat' first
    | assumption
    | (extract_lets +onlyGivenNames a; first | (refine (fun (k : Does G z a) => ?_) ?_; rotate_left; unfold a; clear a; rotate_left; clear_value a; revert a; intros) | (clear_value a; revert a; intros))
    | refine Does.wr ?_ ?_ _ _ _ | refine Does.setV ?_ ?_ _ _ _ | refine Does.unitEvent ?_ (Foot.up hg (by decide)) _ _
    | exact Foot.upR hg (by decide) | exact Foot.upV hg (by decide) | (dsimp -zeta only) | refine Does.ite ?_ ?_

def Foot.clkReturn : Foot := ⟨0x600000000100000000, 0x13000000000000000000000000000000000000000000000000000, 0⟩

theorem Does.clkReturn {G : Foot} {z s : State} (h : Does G z s) (hg : Foot.clkReturn.leB G = true) : Does G z (State.clkReturn s) := by
  unfold State.clkReturn
  with_reducible repeat' first
    | assumption
    | (extract_lets +onlyGivenNames a; first | (refine (fun (k : Does G z a) => ?_) ?_; rotate_left; unfold a; clear a; rotate_left; clear_value a; revert a; intros) | (clear_value a; revert a; intros))
    | refine Does.wr ?_ ?_ _ _ _ | refine Does.setV ?_ ?_ _ _ _ | (refine Does.each ?_ _ _ fun _ _ _ _ => ?_)
    | refine Does.muxStart ?_ (Foot.up hg (by decide)) _ _ | refine Does.incWrap ?_ ?_ _ _ _ | exact Foot.upR hg (by decide)
    | exact Foot.upV hg (by decide) | exact Foot.upM hg ‹_ ∈ _› (by decide) | (dsimp -zeta only) | refine Does.ite ?_ ?_

def Foot.portsAbsent : Foot := ⟨0x1800000000, 0, 0x80640⟩

theorem Does.portsAbsent {G : Foot} {z s : State} (h : Does G z s) (hg : Foot.portsAbsent.leB G = true) : Does G z (State.portsAbsent s) := by
  unfold State.portsAbsent
  with_reducible repeat' first
    | assumption | refine Does.answerAbsent ?_ (Foot.up hg (by decide)) _

def Foot.warmDrop : Foot := ⟨0x7FFFFFFFFFFFFFFFFFFFFFFFFFFFFFFFFFFFFFFFFFFFFFFFFFFFFFF, 0x3FFFFFFFFFFFFFFFFFFFFFFFFFFFFFFFFFFFFFFFFFFFFFFFFFFFFFFFFFFFFFFFFFFFFFFFFFFFFFFFFFFFFFFFFF, 0x23FFE⟩

theorem Does.warmDrop {G : Foot} {z s : State} (h : Does G z s) (hg : Foot.warmDrop.leB G = true) : Does G z (State.warmDrop s) :=
  ⟨⟨h.pending, fun c =>
      let k := h.canon c
      ⟨KMap.wf_filter _ _ k.regs, KMap.wf_filter _ _ k.vars, k.bank0, k.bank1, k.cert, rfl, rfl, rfl, k.mirCert⟩⟩,
    fun k e => by simp [Foot.upR hg (show Foot.warmDrop.hasR k.n = true by cases k.n <;> decide)] at e,
    fun k e => by simp [Foot.upV hg (show Foot.warmDrop.hasV k.n = true by cases k.n <;> decide)] at e,
    fun p e => Eq.trans (by cases p <;> first | rfl | exact Foot.noP hg (by decide) e) (h.parts p e)⟩

def Foot.warm : Foot := ⟨0x7FFFFFFFFFFFFFFFFFFFFFFFFFFFFFFFFFFFFFFFFFFFFFFFFFFFFFF, 0x3FFFFFFFFFFFFFFFFFFFFFFFFFFFFFFFFFFFFFFFFFFFFFFFFFFFFFFFFFFFFFFFFFFFFFFFFFFFFFFFFFFFFFFFFF, 0xA3FFE⟩

theorem Does.warm {G : Foot} {z s : State} (h : Does G z s) (hg : Foot.warm.leB G = true) (last : Nat) : Does G z (State.warm s last) := by
  unfold State.warm
  with_reducible repeat' first
    | assumption
    | (extract_lets +onlyGivenNames a; first | (refine (fun (k : Does G z a) => ?_) ?_; rotate_left; unfold a; clear a; rotate_left; clear_value a; revert a; intros) | (clear_value a; revert a; intros))
    | refine Does.wr ?_ ?_ _ _ _ | (refine Does.when ?_ _ _ fun _ _ => ?_)
    | refine Does.portsAbsent ?_ (Foot.up hg (by decide)) | refine Does.incSat ?_ ?_ _ _ _
    | refine Does.trcFreezeFor ?_ (Foot.up hg (by decide)) _ | refine Does.warmDrop ?_ (Foot.up hg (by decide))
    | refine Does.activeShow ?_ (Foot.up hg (by decide)) | refine Does.candidate ?_ (Foot.up hg (by decide))
    | exact Foot.upR hg (by decide)

def Foot.rstWarm : Foot := ⟨0x7FFFFFFFFFFFFFFFFFFFFFFFFFFFFFFFFFFFFFFFFFFFFFFFFFFFFFF, 0x3FFFFFFFFFFFFFFFFFFFFFFFFFFFFFFFFFFFFFFFFFFFFFFFFFFFFFFFFFFFFFFFFFFFFFFFFFFFFFFFFFFFFFFFFF, 0xA3FFE⟩

theorem Does.rstWarm {G : Foot} {z s : State} (h : Does G z s) (hg : Foot.rstWarm.leB G = true) : Does G z (State.rstWarm s).2 := by
  unfold State.rstWarm
  with_reducible repeat' first
    | assumption | refine Does.warm ?_ (Foot.up hg (by decide)) _ | (dsimp -zeta only) | refine Does.ite ?_ ?_
    | refine Does.ite_snd ?_ ?_

def Foot.blank : Foot := ⟨0x7FFFFFFFFFFFFFFFFFFFFFFFFFFFFFFFFFFFFFFFFFFFFFFFFFFFFFF, 0x3FFFFFFFFFFFFFFFFFFFFFFFFFFFFFFFFFFFFFFFFFFFFFFFFFFFFFFFFFFFFFFFFFFFFFFFFFFFFFFFFFFFFFFFFF, 0xBFFFF⟩

theorem Does.blank {G : Foot} {z s : State} (h : Does G z s) (hg : Foot.blank.leB G = true) : Does G z (State.blank s) :=
  ⟨⟨h.pending, fun _ => ⟨rfl, rfl, rfl, rfl, rfl, rfl, rfl, rfl, rfl⟩⟩,
    fun k e => by simp [Foot.upR hg (show Foot.blank.hasR k.n = true by cases k.n <;> decide)] at e,
    fun k e => by simp [Foot.upV hg (show Foot.blank.hasV k.n = true by cases k.n <;> decide)] at e,
    fun p e => Eq.trans (by cases p <;> first | rfl | exact Foot.noP hg (by decide) e) (h.parts p e)⟩

def Foot.supplyLost : Foot := ⟨0x7FFFFFFFFFFFFFFFFFFFFFFFFFFFFFFFFFFFFFFFFFFFFFFFFFFFFFF, 0x3FFFFFFFFFFFFFFFFFFFFFFFFFFFFFFFFFFFFFFFFFFFFFFFFFFFFFFFFFFFFFFFFFFFFFFFFFFFFFFFFFFFFFFFFF, 0xFFFFF⟩

theorem Does.supplyLost {G : Foot} {z s : State} (h : Does G z s) (hg : Foot.supplyLost.leB G = true) : Does G z (State.supplyLost s) := by
  unfold State.supplyLost
  with_reducible repeat' first
    | assumption
    | (extract_lets +onlyGivenNames a; first | (refine (fun (k : Does G z a) => ?_) ?_; rotate_left; unfold a; clear a; rotate_left; clear_value a; revert a; intros) | (clear_value a; revert a; intros))
    | refine Does.wr ?_ ?_ _ _ _ | refine Does.setV ?_ ?_ _ _ _ | (refine Does.when ?_ _ _ fun _ _ => ?_)
    | refine Does.freshFree ?_ (Foot.upP hg (by decide)) | refine Does.blank ?_ (Foot.up hg (by decide))
    | exact Foot.upR hg (by decide) | exact Foot.upV hg (by decide) | (dsimp -zeta only) | refine Does.ite ?_ ?_
    | refine Does.ite_snd ?_ ?_

def Foot.islReset : Foot := ⟨0x34070040FFFFFFFFFFFD8000200007FDFFF30200079C00400860, 0x3B85FC00207F8613C0000000003FCFC0FF8001FEE070D00100008003FFF601801FFFFFFFFFF8000003C1FFEFF7, 0x450F0⟩

theorem Does.islReset {G : Foot} {z s : State} (h : Does G z s) (hg : Foot.islReset.leB G = true) (d : Nat) : Does G z (State.islReset s d).2 := by
  unfold State.islReset
  with_reducible repeat' first
    | assumption | refine Does.setV ?_ ?_ _ _ _ | refine Does.islPlanRun ?_ (Foot.up hg (by decide))
    | exact Foot.upV hg (by decide) | (dsimp -zeta only) | refine Does.ite ?_ ?_ | refine Does.ite_snd ?_ ?_

def Foot.timeOut : Foot := ⟨0x10000002000000000000000000000000000000400000, 0x1000000000000000000000000000000000000000000000000000000000000000000000000, 0⟩

theorem Does.timeOut {G : Foot} {z s : State} (h : Does G z s) (hg : Foot.timeOut.leB G = true) (d : Nat) (rts : List (Nat × Nat)) : Does G z (State.timeOut s d rts) := by
  unfold State.timeOut
  with_reducible repeat' first
    | assumption
    | (extract_lets +onlyGivenNames a; first | (refine (fun (k : Does G z a) => ?_) ?_; rotate_left; unfold a; clear a; rotate_left; clear_value a; revert a; intros) | (clear_value a; revert a; intros))
    | refine Does.setV ?_ ?_ _ _ _ | (refine Does.when ?_ _ _ fun _ _ => ?_) | (refine Does.each ?_ _ _ fun _ _ _ _ => ?_)
    | refine Does.send ?_ (Foot.up hg (by decide)) _ _ _ | exact Foot.upV hg (by decide)
    | exact Foot.upM hg ‹_ ∈ _› (by decide) | (dsimp -zeta only) | refine Does.ite ?_ ?_

def Foot.timeTake : Foot := ⟨0x7004010000002000000000000000002530200008000400000, 0x380000000000000000000000000000000000000E00000000000000000000000000000000010000000000000007, 0x30⟩

theorem Does.timeTake {G : Foot} {z s : State} (h : Does G z s) (hg : Foot.timeTake.leB G = true) (d : Nat) (delay : Nat) (usec : Nat) (cap : Nat) : Does G z (State.timeTake s d delay usec cap) := by
  unfold State.timeTake
  with_reducible repeat' first
    | assumption
    | (extract_lets +onlyGivenNames a; first | (refine (fun (k : Does G z a) => ?_) ?_; rotate_left; unfold a; clear a; rotate_left; clear_value a; revert a; intros) | (clear_value a; revert a; intros))
    | refine Does.wr ?_ ?_ _ _ _ | refine Does.flag ?_ ?_ _ _ _ | refine Does.setV ?_ ?_ _ _ _
    | (refine Does.when ?_ _ _ fun _ _ => ?_) | refine Does.wrI ?_ ?_ _ _ _
    | refine Does.unitEvent ?_ (Foot.up hg (by decide)) _ _ | refine Does.evFrom ?_ (Foot.up hg (by decide)) _ _ _ _ _
    | exact Foot.upR hg (by decide) | exact Foot.upV hg (by decide) | (dsimp -zeta only) | refine Does.ite ?_ ?_

def Foot.gbRail : Foot := ⟨0x7004000004000010000000060000000130200008000000000, 0x800000000000040000000000000000000007, 0x30⟩

theorem Does.gbRail {G : Foot} {z s : State} (h : Does G z s) (hg : Foot.gbRail.leB G = true) (r : Nat) : Does G z (State.gbRail s r) := by
  unfold State.gbRail
  with_reducible repeat' first
    | assumption
    | (extract_lets +onlyGivenNames a; first | (refine (fun (k : Does G z a) => ?_) ?_; rotate_left; unfold a; clear a; rotate_left; clear_value a; revert a; intros) | (clear_value a; revert a; intros))
    | refine Does.wr ?_ ?_ _ _ _ | refine Does.wrI ?_ ?_ _ _ _ | refine Does.retarget ?_ (Foot.up hg (by decide)) _
    | exact Foot.upR hg (by decide) | (dsimp -zeta only) | refine Does.ite ?_ ?_

def Foot.gbAll : Foot := ⟨0x7004000004000010000000060000000130200008000000000, 0x800000000000040000000000000000000007, 0x30⟩

theorem Does.gbAll {G : Foot} {z s : State} (h : Does G z s) (hg : Foot.gbAll.leB G = true) : Does G z (State.gbAll s) := by
  unfold State.gbAll
  with_reducible repeat' first
    | assumption | (refine Does.each ?_ _ _ fun _ _ _ _ => ?_) | refine Does.gbRail ?_ (Foot.up hg (by decide)) _

def Foot.cellShow : Foot := ⟨0x8000000000000000000000000000000000000200000, 0, 0⟩

theorem Does.cellShow {G : Foot} {z s : State} (h : Does G z s) (hg : Foot.cellShow.leB G = true) (x : Nat) : Does G z (State.cellShow s x) := by
  unfold State.cellShow
  with_reducible repeat' first
    | assumption
    | (extract_lets +onlyGivenNames a; first | (refine (fun (k : Does G z a) => ?_) ?_; rotate_left; unfold a; clear a; rotate_left; clear_value a; revert a; intros) | (clear_value a; revert a; intros))
    | refine Does.wr ?_ ?_ _ _ _ | exact Foot.upR hg (by decide) | refine Foot.cellF ?_ ?_ | (dsimp -zeta only) | split

def Foot.cellApply : Foot := ⟨0x48402000000000000000000000000000000000200000, 0x180000000000140000000000000000000000000000070000000800000000000000000000000, 0⟩

theorem Does.cellApply {G : Foot} {z s : State} (h : Does G z s) (hg : Foot.cellApply.leB G = true) (x : Nat) : Does G z (State.cellApply s x) := by
  unfold State.cellApply
  with_reducible repeat' first
    | assumption
    | (extract_lets +onlyGivenNames a; first | (refine (fun (k : Does G z a) => ?_) ?_; rotate_left; unfold a; clear a; rotate_left; clear_value a; revert a; intros) | (clear_value a; revert a; intros))
    | refine Does.wr ?_ ?_ _ _ _ | (refine Does.when ?_ _ _ fun _ _ => ?_) | refine Does.leafAcct ?_ (Foot.up hg (by decide)) _
    | refine Does.cellShow ?_ (Foot.up hg (by decide)) _ | exact Foot.upR hg (by decide) | refine Foot.cellF ?_ ?_
    | (dsimp -zeta only) | refine Does.ite ?_ ?_ | refine Does.ite_snd ?_ ?_ | refine Foot.pick ?_ ?_ | split

def Foot.levelShow : Foot := ⟨0x9000000000000000000000000000000008000300000, 0, 0⟩

theorem Does.levelShow {G : Foot} {z s : State} (h : Does G z s) (hg : Foot.levelShow.leB G = true) (d : Nat) : Does G z (State.levelShow s d) := by
  unfold State.levelShow
  with_reducible repeat' first
    | assumption
    | (extract_lets +onlyGivenNames a; first | (refine (fun (k : Does G z a) => ?_) ?_; rotate_left; unfold a; clear a; rotate_left; clear_value a; revert a; intros) | (clear_value a; revert a; intros))
    | refine Does.wr ?_ ?_ _ _ _ | (refine Does.when ?_ _ _ fun _ _ => ?_) | (refine Does.each ?_ _ _ fun _ _ _ _ => ?_)
    | refine Does.facAlert ?_ (Foot.up hg (by decide)) _ | refine Does.cellShow ?_ (Foot.up hg (by decide)) _
    | exact Foot.upR hg (by decide) | (dsimp -zeta only) | refine Does.ite ?_ ?_

def Foot.flagPut : Foot := ⟨0x800000000000000000000000000000000, 0x2000000000000000000000000000000000000000000000000000000000, 0⟩

theorem Does.flagPut {G : Foot} {z s : State} (h : Does G z s) (hg : Foot.flagPut.leB G = true) (n : Nat) (j : Nat) (b : Bool) : Does G z (State.flagPut s n j b) := by
  unfold State.flagPut
  with_reducible repeat' first
    | assumption | refine Does.wr ?_ ?_ _ _ _ | refine Does.setV ?_ ?_ _ _ _ | exact Foot.upR hg (by decide)
    | exact Foot.upV hg (by decide) | exact Foot.upGetD hg (by decide) | (dsimp -zeta only) | refine Does.ite ?_ ?_

def Foot.flagRise : Foot := ⟨0x3CB75443FFFFFFFFFFFD910060B007FDFFF30200179C0FC22868, 0x3B85FE24637F0E13C0100008023FCFC0FFAFC7FFCDF0D0A30FF5AC8BFFF601E01FFFFFFFFFF8060083C1FFEFF7, 0x45DF2⟩

theorem Does.flagRise {G : Foot} {z s : State} (h : Does G z s) (hg : Foot.flagRise.leB G = true) (d : Nat) (n : Nat) (j : Nat) : Does G z (State.flagRise s d n j) := by
  unfold State.flagRise
  with_reducible repeat' first
    | assumption
    | (extract_lets +onlyGivenNames a; first | (refine (fun (k : Does G z a) => ?_) ?_; rotate_left; unfold a; clear a; rotate_left; clear_value a; revert a; intros) | (clear_value a; revert a; intros))
    | refine Does.flag ?_ ?_ _ _ _ | refine Does.flagPut ?_ (Foot.up hg (by decide)) _ _ _
    | refine Does.evFrom ?_ (Foot.up hg (by decide)) _ _ _ _ _ | refine Does.thermalTrip ?_ (Foot.up hg (by decide))
    | exact Foot.upR hg (by decide) | (dsimp -zeta only) | refine Does.ite ?_ ?_ | refine Does.ite_snd ?_ ?_
    | refine Foot.pick ?_ ?_ | split

def Foot.bodyLevel : Foot := ⟨0x4000000000800000000000000000000000000000000, 0, 0⟩

theorem Does.bodyLevel {G : Foot} {z s : State} (h : Does G z s) (hg : Foot.bodyLevel.leB G = true) (n : Nat) : Does G z (State.bodyLevel s n) := by
  unfold State.bodyLevel
  with_reducible repeat' first
    | assumption
    | (extract_lets +onlyGivenNames a; first | (refine (fun (k : Does G z a) => ?_) ?_; rotate_left; unfold a; clear a; rotate_left; clear_value a; revert a; intros) | (clear_value a; revert a; intros))
    | refine Does.wr ?_ ?_ _ _ _ | exact Foot.upR hg (by decide) | (dsimp -zeta only) | refine Does.ite ?_ ?_
    | refine Does.ite_snd ?_ ?_ | refine Foot.pick ?_ ?_ | split

def Foot.flagLow : Foot := ⟨0x800000000000000000000000000000000, 0x3000000000000000000000000000000000000000000000000000000000, 0⟩

theorem Does.flagLow {G : Foot} {z s : State} (h : Does G z s) (hg : Foot.flagLow.leB G = true) (n : Nat) (j : Nat) (x : Int) : Does G z (State.flagLow s n j x) := by
  unfold State.flagLow
  with_reducible repeat' first
    | assumption
    | (extract_lets +onlyGivenNames a; first | (refine (fun (k : Does G z a) => ?_) ?_; rotate_left; unfold a; clear a; rotate_left; clear_value a; revert a; intros) | (clear_value a; revert a; intros))
    | refine Does.setV ?_ ?_ _ _ _ | refine Does.addV ?_ ?_ _ _ _ | refine Does.flagPut ?_ (Foot.up hg (by decide)) _ _ _
    | exact Foot.upV hg (by decide) | (dsimp -zeta only) | refine Does.ite ?_ ?_

def Foot.bodyTemp : Foot := ⟨0x3CB75443FFFFFFFFFFFD910060B007FDFFF30200179C0FC22868, 0x3B85FE24637F0E13C0100008023FCFC0FFAFC7FFCDF0D0A30FF5AC8BFFF601E01FFFFFFFFFF8060083C1FFEFF7, 0x45DF2⟩

theorem Does.bodyTemp {G : Foot} {z s : State} (h : Does G z s) (hg : Foot.bodyTemp.leB G = true) (d : Nat) (n : Nat) (x : Int) : Does G z (State.bodyTemp s d n x) := by
  unfold State.bodyTemp
  with_reducible repeat' first
    | assumption
    | (extract_lets +onlyGivenNames a; first | (refine (fun (k : Does G z a) => ?_) ?_; rotate_left; unfold a; clear a; rotate_left; clear_value a; revert a; intros) | (clear_value a; revert a; intros))
    | refine Does.setV ?_ ?_ _ _ _ | (refine Does.when ?_ _ _ fun _ _ => ?_) | (refine Does.each ?_ _ _ fun _ _ _ _ => ?_)
    | refine Does.flagLow ?_ (Foot.up hg (by decide)) _ _ _ | refine Does.flagRise ?_ (Foot.up hg (by decide)) _ _ _
    | refine Does.bodyLevel ?_ (Foot.up hg (by decide)) _ | exact Foot.upV hg (by decide)
    | exact Foot.upM hg ‹_ ∈ _› (by decide) | (dsimp -zeta only) | refine Does.ite ?_ ?_

def Foot.badFlags : Foot := ⟨0x4000000000800000000000000000000000000000000, 0x3000000000000000000000000000000000000000000000000000000000, 0⟩

theorem Does.badFlags {G : Foot} {z s : State} (h : Does G z s) (hg : Foot.badFlags.leB G = true) (d : Nat) (n : Nat) (x : Int) : Does G z (State.badFlags s d n x) := by
  unfold State.badFlags
  with_reducible repeat' first
    | assumption | (refine Does.each ?_ _ _ fun _ _ _ _ => ?_) | refine Does.flagLow ?_ (Foot.up hg (by decide)) _ _ _
    | refine Does.bodyLevel ?_ (Foot.up hg (by decide)) _

def Foot.pairCount : Foot := ⟨0, 0x60000000000000000000000000000000000000000000000000000000000, 0⟩

theorem Does.pairCount {G : Foot} {z s : State} (h : Does G z s) (hg : Foot.pairCount.leB G = true) (x : Nat) : Does G z (State.pairCount s x) := by
  unfold State.pairCount
  with_reducible repeat' first
    | assumption | refine Does.addV ?_ ?_ _ _ _ | exact Foot.upV hg (by decide) | (dsimp -zeta only) | refine Does.ite ?_ ?_

def Foot.pairTry : Foot := ⟨0, 0x1E0000000000000000000000000000000000000000000000000000000000, 0⟩

theorem Does.pairTry {G : Foot} {z s : State} (h : Does G z s) (hg : Foot.pairTry.leB G = true) (n : Nat) : Does G z (State.pairTry s n) := by
  unfold State.pairTry
  with_reducible repeat' first
    | assumption
    | (extract_lets +onlyGivenNames a; first | (refine (fun (k : Does G z a) => ?_) ?_; rotate_left; unfold a; clear a; rotate_left; clear_value a; revert a; intros) | (clear_value a; revert a; intros))
    | refine Does.setV ?_ ?_ _ _ _ | (refine Does.each ?_ _ _ fun _ _ _ _ => ?_)
    | refine Does.pairCount ?_ (Foot.up hg (by decide)) _ | exact Foot.upV hg (by decide)
    | exact Foot.upM hg ‹_ ∈ _› (by decide) | (dsimp -zeta only) | refine Does.ite ?_ ?_ | refine Does.ite_snd ?_ ?_
    | refine Foot.pick ?_ ?_ | split

def Foot.periodRoll : Foot := ⟨0, 0xD60000000000000000000000000000000000000000000000000000000000, 0⟩

theorem Does.periodRoll {G : Foot} {z s : State} (h : Does G z s) (hg : Foot.periodRoll.leB G = true) (l : Nat) : Does G z (State.periodRoll s l) := by
  unfold State.periodRoll
  with_reducible repeat' first
    | assumption
    | (extract_lets +onlyGivenNames a; first | (refine (fun (k : Does G z a) => ?_) ?_; rotate_left; unfold a; clear a; rotate_left; clear_value a; revert a; intros) | (clear_value a; revert a; intros))
    | refine Does.setV ?_ ?_ _ _ _ | (refine Does.each ?_ _ _ fun _ _ _ _ => ?_)
    | refine Does.pairCount ?_ (Foot.up hg (by decide)) _ | exact Foot.upV hg (by decide)
    | exact Foot.upM hg ‹_ ∈ _› (by decide) | (dsimp -zeta only) | refine Does.ite ?_ ?_

def Foot.periodSlot : Foot := ⟨0, 0x1D60000000000000000000000000000000000000000000000000000000000, 0⟩

theorem Does.periodSlot {G : Foot} {z s : State} (h : Does G z s) (hg : Foot.periodSlot.leB G = true) (l : Nat) (slot : Nat) (mw : Nat) : Does G z (State.periodSlot s l slot mw) := by
  unfold State.periodSlot
  with_reducible repeat' first
    | assumption
    | (extract_lets +onlyGivenNames a; first | (refine (fun (k : Does G z a) => ?_) ?_; rotate_left; unfold a; clear a; rotate_left; clear_value a; revert a; intros) | (clear_value a; revert a; intros))
    | refine Does.setV ?_ ?_ _ _ _ | refine Does.periodRoll ?_ (Foot.up hg (by decide)) _ | refine Does.addV ?_ ?_ _ _ _
    | exact Foot.upV hg (by decide) | (dsimp -zeta only) | refine Does.ite ?_ ?_

def Foot.hubTemp : Foot := ⟨0x7004000004000010000000060000000130200008000100000, 0x800000000000040000000000000000000007, 0x30⟩

theorem Does.hubTemp {G : Foot} {z s : State} (h : Does G z s) (hg : Foot.hubTemp.leB G = true) (fresh : Bool) : Does G z (State.hubTemp s fresh) := by
  unfold State.hubTemp
  with_reducible repeat' first
    | assumption
    | (extract_lets +onlyGivenNames a; first | (refine (fun (k : Does G z a) => ?_) ?_; rotate_left; unfold a; clear a; rotate_left; clear_value a; revert a; intros) | (clear_value a; revert a; intros))
    | refine Does.wr ?_ ?_ _ _ _ | refine Does.wrI ?_ ?_ _ _ _ | refine Does.gbAll ?_ (Foot.up hg (by decide))
    | exact Foot.upR hg (by decide) | (dsimp -zeta only) | refine Does.ite ?_ ?_ | refine Does.ite_snd ?_ ?_
    | refine Foot.pick ?_ ?_ | split

def Foot.lossEnd : Foot := ⟨0x1000000000000000000000000000000000000000000, 0x4000000000000000000000000000000000000000000000000000000000000000000000000, 0⟩

theorem Does.lossEnd {G : Foot} {z s : State} (h : Does G z s) (hg : Foot.lossEnd.leB G = true) (d : Nat) : Does G z (State.lossEnd s d) := by
  unfold State.lossEnd
  with_reducible repeat' first
    | assumption | refine Does.wr ?_ ?_ _ _ _ | refine Does.setV ?_ ?_ _ _ _ | exact Foot.upR hg (by decide)
    | exact Foot.upV hg (by decide) | (dsimp -zeta only) | refine Does.ite ?_ ?_

def Foot.corrSet : Foot := ⟨0x200000000000000000000000000000000, 0x40000000000000000000000000000200000000000000000000000000000000000000000000000000000000000, 0⟩

theorem Does.corrSet {G : Foot} {z s : State} (h : Does G z s) (hg : Foot.corrSet.leB G = true) (n : Nat) (c : Int) : Does G z (State.corrSet s n c) := by
  unfold State.corrSet
  with_reducible repeat' first
    | assumption
    | (extract_lets +onlyGivenNames a; first | (refine (fun (k : Does G z a) => ?_) ?_; rotate_left; unfold a; clear a; rotate_left; clear_value a; revert a; intros) | (clear_value a; revert a; intros))
    | refine Does.setV ?_ ?_ _ _ _ | (refine Does.when ?_ _ _ fun _ _ => ?_) | refine Does.wrI ?_ ?_ _ _ _
    | exact Foot.upR hg (by decide) | exact Foot.upV hg (by decide)

def Foot.conversion : Foot := ⟨0x3CB75443FFFFFFFFFFFD910060F007FDFFF30200179C0FF22868, 0x3B85FE24637F0E13C4100008023FCFDEFFAFC7FFCDF0D0A30FF5AC8BFFF601E01FFFFFFFFFF8060083C1FFEFF7, 0x45DF2⟩

theorem Does.conversion {G : Foot} {z s : State} (h : Does G z s) (hg : Foot.conversion.leB G = true) (n : Nat) (d : Nat) (raw : Int) (fault : Bool) : Does G z (State.conversion s n d raw fault) := by
  unfold State.conversion
  with_reducible repeat' first
    | assumption
    | (extract_lets +onlyGivenNames a; first | (refine (fun (k : Does G z a) => ?_) ?_; rotate_left; unfold a; clear a; rotate_left; clear_value a; revert a; intros) | (clear_value a; revert a; intros))
    | refine Does.wr ?_ ?_ _ _ _ | refine Does.setV ?_ ?_ _ _ _ | (refine Does.when ?_ _ _ fun _ _ => ?_)
    | refine Does.wrI ?_ ?_ _ _ _ | refine Does.incWrap ?_ ?_ _ _ _ | refine Does.lossEnd ?_ (Foot.up hg (by decide)) _
    | refine Does.bodyTemp ?_ (Foot.up hg (by decide)) _ _ _ | refine Does.badFlags ?_ (Foot.up hg (by decide)) _ _ _
    | refine Does.levelShow ?_ (Foot.up hg (by decide)) _ | refine Does.pairTry ?_ (Foot.up hg (by decide)) _
    | refine Does.hubTemp ?_ (Foot.up hg (by decide)) _ | exact Foot.upR hg (by decide) | exact Foot.upV hg (by decide)
    | (dsimp -zeta only) | refine Does.ite ?_ ?_

def Foot.repKeep : Foot := ⟨0, 0xE000000000000000000000000000000000000000000000000000000000000, 0⟩

theorem Does.repKeep {G : Foot} {z s : State} (h : Does G z s) (hg : Foot.repKeep.leB G = true) (h : Nat) (l : Nat) (x : Int) (fb : Bool) : Does G z (State.repKeep s h l x fb) := by
  unfold State.repKeep
  with_reducible repeat' first
    | assumption | refine Does.setV ?_ ?_ _ _ _ | exact Foot.upV hg (by decide)

def Foot.thrTake : Foot := ⟨0xA000000000000000000000000000000000000200000, 0, 0⟩

theorem Does.thrTake {G : Foot} {z s : State} (h : Does G z s) (hg : Foot.thrTake.leB G = true) (l : Nat) (k : Nat) : Does G z (State.thrTake s l k) := by
  unfold State.thrTake
  with_reducible repeat' first
    | assumption
    | (extract_lets +onlyGivenNames a; first | (refine (fun (k : Does G z a) => ?_) ?_; rotate_left; unfold a; clear a; rotate_left; clear_value a; revert a; intros) | (clear_value a; revert a; intros))
    | refine Does.wr ?_ ?_ _ _ _ | (refine Does.each ?_ _ _ fun _ _ _ _ => ?_)
    | refine Does.cellShow ?_ (Foot.up hg (by decide)) _ | exact Foot.upR hg (by decide)

def Foot.stackBand : Foot := ⟨0x4000000000000000000000000000000000000000000, 0, 0⟩

theorem Does.stackBand {G : Foot} {z s : State} (h : Does G z s) (hg : Foot.stackBand.leB G = true) (l : Nat) (k : Nat) (b : Nat) : Does G z (State.stackBand s l k b) := by
  unfold State.stackBand
  with_reducible repeat' first
    | assumption | refine Does.wr ?_ ?_ _ _ _ | exact Foot.upR hg (by decide)

def Foot.badShow : Foot := ⟨0x100000, 0, 0⟩

theorem Does.badShow {G : Foot} {z s : State} (h : Does G z s) (hg : Foot.badShow.leB G = true) : Does G z (State.badShow s) := by
  unfold State.badShow
  with_reducible repeat' first
    | assumption | refine Does.wr ?_ ?_ _ _ _ | exact Foot.upR hg (by decide)

def Foot.calSite : Foot := ⟨0x7004000000000000200000000000000130200008000000000, 0x40000000000000000000000000000200000000000000000000000000000000000000000000000000000000007, 0x30⟩

theorem Does.calSite {G : Foot} {z s : State} (h : Does G z s) (hg : Foot.calSite.leB G = true) (x : Nat) : Does G z (State.calSite s x) := by
  unfold State.calSite
  with_reducible repeat' first
    | assumption
    | (extract_lets +onlyGivenNames a; first | (refine (fun (k : Does G z a) => ?_) ?_; rotate_left; unfold a; clear a; rotate_left; clear_value a; revert a; intros) | (clear_value a; revert a; intros))
    | refine Does.wr ?_ ?_ _ _ _ | refine Does.flag ?_ ?_ _ _ _ | refine Does.incSat ?_ ?_ _ _ _
    | refine Does.event ?_ (Foot.up hg (by decide)) _ _ | refine Does.corrSet ?_ (Foot.up hg (by decide)) _ _
    | exact Foot.upR hg (by decide) | (dsimp -zeta only) | refine Does.ite ?_ ?_

def Foot.calRst : Foot := ⟨0x200000000000000000000000000100000, 0x40000000000000000000000000000200000000000000000000000000000000000000000000000000000000000, 0⟩

theorem Does.calRst {G : Foot} {z s : State} (h : Does G z s) (hg : Foot.calRst.leB G = true) (n : Nat) : Does G z (State.calRst s n).2 := by
  unfold State.calRst
  with_reducible repeat' first
    | assumption | refine Does.wr ?_ ?_ _ _ _ | refine Does.corrSet ?_ (Foot.up hg (by decide)) _ _
    | refine Does.badShow ?_ (Foot.up hg (by decide)) | exact Foot.upR hg (by decide) | (dsimp -zeta only)
    | refine Does.ite ?_ ?_ | refine Does.ite_snd ?_ ?_

def Foot.trcArm : Foot := ⟨0x7000000000000000000000000000000000000000000000000, 0x7, 0x20⟩

theorem Does.trcArm {G : Foot} {z s : State} (h : Does G z s) (hg : Foot.trcArm.leB G = true) : Does G z (State.trcArm s) := by
  unfold State.trcArm
  with_reducible repeat' first
    | assumption
    | (extract_lets +onlyGivenNames a; first | (refine (fun (k : Does G z a) => ?_) ?_; rotate_left; unfold a; clear a; rotate_left; clear_value a; revert a; intros) | (clear_value a; revert a; intros))
    | refine Does.wr ?_ ?_ _ _ _ | refine Does.setV ?_ ?_ _ _ _ | (refine Does.each ?_ _ _ fun _ _ _ _ => ?_)
    | refine Does.trcStore ?_ (Foot.up hg (by decide)) _ _ _ _ _ _ | exact Foot.upR hg (by decide)
    | exact Foot.upV hg (by decide) | exact Foot.upM hg ‹_ ∈ _› (by decide) | (dsimp -zeta only) | split
    | refine Does.snd ‹_ = (_, _)› ?_
    | (refine Does.mk' ?_ rfl rfl rfl rfl rfl rfl rfl rfl rfl rfl ?_; rotate_left; intro p hn; cases p <;> first | with_unfolding_all rfl | exact Foot.noP hg (by decide) hn)

def Foot.trcCmd : Foot := ⟨0x7004000000000000000000000000000130200008000000000, 0x2000000000000000000000000000000000000000000000000000000000000000007, 0x30⟩

theorem Does.trcCmd {G : Foot} {z s : State} (h : Does G z s) (hg : Foot.trcCmd.leB G = true) (c : Nat) : Does G z (State.trcCmd s c).2 := by
  unfold State.trcCmd
  with_reducible repeat' first
    | assumption
    | (extract_lets +onlyGivenNames a; first | (refine (fun (k : Does G z a) => ?_) ?_; rotate_left; unfold a; clear a; rotate_left; clear_value a; revert a; intros) | (clear_value a; revert a; intros))
    | refine Does.wr ?_ ?_ _ _ _ | refine Does.setV ?_ ?_ _ _ _ | refine Does.trcArm ?_ (Foot.up hg (by decide))
    | refine Does.trcTrigger ?_ (Foot.up hg (by decide)) _ | refine Does.evtDrain ?_ (Foot.up hg (by decide)) _
    | refine Does.trcFreezeFor ?_ (Foot.up hg (by decide)) _ | exact Foot.upR hg (by decide) | exact Foot.upV hg (by decide)
    | (dsimp -zeta only) | refine Does.ite ?_ ?_ | refine Does.ite_snd ?_ ?_ | refine Foot.pick ?_ ?_ | split

def Foot.trcTake : Foot := ⟨0x7004000000000000000000000000000130200008000000000, 0x2000000000000000000000000000000000000000000000000000000000000000007, 0x30⟩

theorem Does.trcTake {G : Foot} {z s : State} (h : Does G z s) (hg : Foot.trcTake.leB G = true) : Does G z (State.trcTake s) := by
  unfold State.trcTake
  with_reducible repeat' first
    | assumption
    | (extract_lets +onlyGivenNames a; first | (refine (fun (k : Does G z a) => ?_) ?_; rotate_left; unfold a; clear a; rotate_left; clear_value a; revert a; intros) | (clear_value a; revert a; intros))
    | refine Does.emit ?_ _ | (refine Does.when ?_ _ _ fun _ _ => ?_) | refine Does.trcSync ?_ (Foot.up hg (by decide))
    | refine Does.trcDropUpdate ?_ (Foot.up hg (by decide)) | refine Does.trcCount ?_ (Foot.up hg (by decide))
    | refine Does.evtDrain ?_ (Foot.up hg (by decide)) _ | refine Does.addV ?_ ?_ _ _ _ | exact Foot.upV hg (by decide)
    | (dsimp -zeta only) | refine Does.ite ?_ ?_ | refine Does.ite_snd ?_ ?_ | refine Foot.pick ?_ ?_ | split
    | refine Does.snd ‹_ = (_, _)› ?_
    | (refine Does.mk' ?_ rfl rfl rfl rfl rfl rfl rfl rfl rfl rfl ?_; rotate_left; intro p hn; cases p <;> first | with_unfolding_all rfl | exact Foot.noP hg (by decide) hn)

theorem Does.forget {G : Foot} {z s : State} (h : Does G z s) (p : RegKey → Bool) (hp : ∀ k, p k = true → G.hasR k.n = true) : Does G z (State.forget s p) :=
  h.drop p rfl hp (fun _ => false) (filter_none _) (fun _ e => by simp at e) rfl rfl rfl rfl rfl rfl rfl rfl (fun p _ => by cases p <;> rfl)

theorem Does.forgetV {G : Foot} {z s : State} (h : Does G z s) (l : List Var) (hl : l.all G.hasV = true) : Does G z (State.forgetV s l) :=
  h.drop (fun _ => false) (filter_none _) (fun _ e => by simp at e) (fun k => l.contains k.n) rfl
    (fun _ e => List.all_eq_true.mp hl _ (by simpa using e)) rfl rfl rfl rfl rfl rfl rfl rfl (fun p _ => by cases p <;> rfl)

def Foot.loadLoop : Foot := ⟨0x11D8000000000000000000, 0, 0⟩

theorem Does.loadLoop {G : Foot} {z s : State} (h : Does G z s) (hg : Foot.loadLoop.leB G = true) (key : Nat) (l : Nat) : Does G z (State.loadLoop s key l) := by
  unfold State.loadLoop
  with_reducible repeat' first
    | assumption
    | (extract_lets +onlyGivenNames a; first | (refine (fun (k : Does G z a) => ?_) ?_; rotate_left; unfold a; clear a; rotate_left; clear_value a; revert a; intros) | (clear_value a; revert a; intros))
    | refine Does.wr ?_ ?_ _ _ _ | refine Does.setReg ?_ ?_ _ _ _ | exact Foot.upR hg (by decide) | (dsimp -zeta only) | split

def Foot.loadSpMax : Foot := ⟨0x20000000000000000000, 0, 0⟩

theorem Does.loadSpMax {G : Foot} {z s : State} (h : Does G z s) (hg : Foot.loadSpMax.leB G = true) (l : Nat) : Does G z (State.loadSpMax s l) := by
  unfold State.loadSpMax
  with_reducible repeat' first
    | assumption | refine Does.wr ?_ ?_ _ _ _ | exact Foot.upR hg (by decide)

def Foot.loopFresh : Foot := ⟨0x1FDFC000000000000000000, 0x400000000000000000000000000000000000000000000000000001F000000000000000000000000, 0⟩

theorem Does.loopFresh {G : Foot} {z s : State} (h : Does G z s) (hg : Foot.loopFresh.leB G = true) (l : Nat) : Does G z (State.loopFresh s l) := by
  unfold State.loopFresh
  with_reducible repeat' first
    | assumption
    | (extract_lets +onlyGivenNames a; first | (refine (fun (k : Does G z a) => ?_) ?_; rotate_left; unfold a; clear a; rotate_left; clear_value a; revert a; intros) | (clear_value a; revert a; intros))
    | refine Does.wr ?_ ?_ _ _ _ | refine Does.setV ?_ ?_ _ _ _ | (refine Does.each ?_ _ _ fun _ _ _ _ => ?_)
    | refine Does.forget ?_ _ ?_ | refine Does.loadLoop ?_ (Foot.up hg (by decide)) _ _
    | refine Does.loadSpMax ?_ (Foot.up hg (by decide)) _ | exact Foot.upR hg (by decide) | exact Foot.upV hg (by decide)
    | exact Foot.upM hg ‹_ ∈ _› (by decide) | refine Foot.orK ?_ ?_ | refine Foot.andK ?_ | refine Foot.eqK ?_
    | exact Foot.conK hg (by decide) | (dsimp -zeta only) | split

def Foot.loopSched : Foot := ⟨0x80200000000000000000000, 0, 0⟩

theorem Does.loopSched {G : Foot} {z s : State} (h : Does G z s) (hg : Foot.loopSched.leB G = true) : Does G z (State.loopSched s) := by
  unfold State.loopSched
  with_reducible repeat' first
    | assumption
    | (extract_lets +onlyGivenNames a; first | (refine (fun (k : Does G z a) => ?_) ?_; rotate_left; unfold a; clear a; rotate_left; clear_value a; revert a; intros) | (clear_value a; revert a; intros))
    | refine Does.wr ?_ ?_ _ _ _ | (refine Does.each ?_ _ _ fun _ _ _ _ => ?_) | refine Does.forget ?_ _ ?_
    | refine Does.incSat ?_ ?_ _ _ _ | exact Foot.upR hg (by decide) | refine Foot.orK ?_ ?_ | refine Foot.andK ?_
    | refine Foot.eqK ?_

def Foot.gainDrop : Foot := ⟨0x60000000000000000000000, 0x3000000000000000000000000000000000000000000000000000000000000000000000000000000, 0⟩

theorem Does.gainDrop {G : Foot} {z s : State} (h : Does G z s) (hg : Foot.gainDrop.leB G = true) (t : Nat) : Does G z (State.gainDrop s t) :=
  h.drop (fun k => (k.n = .GT_A || k.n = .GT_B) && Nat.beq k.i t) rfl
    (fun k e => by
      simp only [Bool.and_eq_true, Bool.or_eq_true, decide_eq_true_eq] at e
      rcases e.1 with e | e <;> · rw [e]; exact Foot.upR hg (by decide))
    (fun k => (k.n = .gtNodeA || k.n = .gtNodeB) && Nat.beq (k.i % 128) t) rfl
    (fun k e => by
      simp only [Bool.and_eq_true, Bool.or_eq_true, decide_eq_true_eq] at e
      rcases e.1 with e | e <;> · rw [e]; exact Foot.upV hg (by decide))
    rfl rfl rfl rfl rfl rfl rfl rfl (fun p _ => by cases p <;> rfl)

def Foot.loadGain : Foot := ⟨0x60000000000000000000000, 0x3000000000000000000000000000000000000000000000000000000000000000000000000000000, 0⟩

theorem Does.loadGain {G : Foot} {z s : State} (h : Does G z s) (hg : Foot.loadGain.leB G = true) (t : Nat) : Does G z (State.loadGain s t) := by
  unfold State.loadGain
  with_reducible repeat' first
    | assumption
    | (extract_lets +onlyGivenNames a; first | (refine (fun (k : Does G z a) => ?_) ?_; rotate_left; unfold a; clear a; rotate_left; clear_value a; revert a; intros) | ((first | (have b : Prop := a; clear b) | (have b : List Fld := a; clear b) | (have b : SyncSt := a; clear b) | (have b : State → State := a; clear b) | (have b : Nat → Status → State := a; clear b) | (have b : Bank := a; clear b) | (have b : ImgSt := a; clear b) | (have b : FacSt := a; clear b) | (have b : MirSt := a; clear b) | (have b : Status × State → Option Status × State := a; clear b) | (have b : Status → Word → State → State := a; clear b) | (have b : State → Nat → Nat → State := a; clear b)); unfold a; clear a) | (clear_value a; revert a; intros))
    | refine Does.setReg ?_ ?_ _ _ _ | (refine Does.each ?_ _ _ fun _ _ _ _ => ?_)
    | refine Does.gainDrop ?_ (Foot.up hg (by decide)) _ | exact Foot.upR hg (by decide) | (dsimp -zeta only)
    | refine Does.ite ?_ ?_ | refine Does.ite_snd ?_ ?_ | refine Foot.pick ?_ ?_ | split

def Foot.gainCopies : Foot := ⟨0x60000000000000000000000, 0x3000000000000000000000000000000000000000000000000000000000000000000000000000000, 0⟩

theorem Does.gainCopies {G : Foot} {z s : State} (h : Does G z s) (hg : Foot.gainCopies.leB G = true) (d : Nat) : Does G z (State.gainCopies s d) := by
  unfold State.gainCopies
  with_reducible repeat' first
    | assumption | (refine Does.each ?_ _ _ fun _ _ _ _ => ?_) | refine Does.gtNodeSet ?_ (Foot.up hg (by decide)) _ _ _ _ _
    | (dsimp -zeta only) | split

def Foot.gainsRename : Foot := ⟨0x60000000000000000000000, 0x3000000000000000000000000000000000000000000000000000000000000000000000000000000, 0⟩

theorem Does.gainsRename {G : Foot} {z s : State} (h : Does G z s) (hg : Foot.gainsRename.leB G = true) (old : List Item) : Does G z (State.gainsRename s old) := by
  unfold State.gainsRename
  with_reducible repeat' first
    | assumption | (refine Does.each ?_ _ _ fun _ _ _ _ => ?_) | refine Does.loadGain ?_ (Foot.up hg (by decide)) _

def Foot.railFresh : Foot := ⟨0x30719BF0000000000000000000000000, 0x800000000000000000000000000000000000000000000400000000000000000000F8060000000000, 0⟩

theorem Does.railFresh {G : Foot} {z s : State} (h : Does G z s) (hg : Foot.railFresh.leB G = true) (x : RailRec) : Does G z (State.railFresh s x) := by
  unfold State.railFresh
  with_reducible repeat' first
    | assumption
    | (extract_lets +onlyGivenNames a; first | (refine (fun (k : Does G z a) => ?_) ?_; rotate_left; unfold a; clear a; rotate_left; clear_value a; revert a; intros) | (clear_value a; revert a; intros))
    | refine Does.wr ?_ ?_ _ _ _ | refine Does.setV ?_ ?_ _ _ _ | (refine Does.when ?_ _ _ fun _ _ => ?_)
    | (refine Does.each ?_ _ _ fun _ _ _ _ => ?_) | refine Does.loadRail ?_ (Foot.up hg (by decide)) _ _
    | refine Does.fuseTo ?_ (Foot.up hg (by decide)) _ _ _ | refine Does.kneadReset ?_ (Foot.up hg (by decide)) _
    | exact Foot.upR hg (by decide) | exact Foot.upV hg (by decide)

def Foot.loadSplit : Foot := ⟨0x1C00000000000000000000000030000000000, 0, 0⟩

theorem Does.loadSplit {G : Foot} {z s : State} (h : Does G z s) (hg : Foot.loadSplit.leB G = true) (c : Nat) : Does G z (State.loadSplit s c) := by
  unfold State.loadSplit
  with_reducible repeat' first
    | assumption
    | (extract_lets +onlyGivenNames a; first | (refine (fun (k : Does G z a) => ?_) ?_; rotate_left; unfold a; clear a; rotate_left; clear_value a; revert a; intros) | (clear_value a; revert a; intros))
    | (refine Does.when ?_ _ _ fun _ _ => ?_) | refine Does.spW ?_ (Foot.up hg (by decide)) _ _ _ ?_ _
    | exact Foot.upR hg (by decide)

def Foot.loadId : Foot := ⟨0x4040000000000000000000000000000000000, 0, 0⟩

theorem Does.loadId {G : Foot} {z s : State} (h : Does G z s) (hg : Foot.loadId.leB G = true) (d : Nat) : Does G z (State.loadId s d) := by
  unfold State.loadId
  with_reducible repeat' first
    | assumption
    | (extract_lets +onlyGivenNames a; first | (refine (fun (k : Does G z a) => ?_) ?_; rotate_left; unfold a; clear a; rotate_left; clear_value a; revert a; intros) | (clear_value a; revert a; intros))
    | refine Does.setReg ?_ ?_ _ _ _ | exact Foot.upR hg (by decide) | (dsimp -zeta only) | refine Does.ite ?_ ?_
    | refine Does.ite_snd ?_ ?_ | refine Foot.pick ?_ ?_ | split

def Foot.loadSite : Foot := ⟨0x1400000000000000000000000000000000, 0, 0⟩

theorem Does.loadSite {G : Foot} {z s : State} (h : Does G z s) (hg : Foot.loadSite.leB G = true) (n : Nat) : Does G z (State.loadSite s n) := by
  unfold State.loadSite
  with_reducible repeat' first
    | assumption
    | (extract_lets +onlyGivenNames a; first | (refine (fun (k : Does G z a) => ?_) ?_; rotate_left; unfold a; clear a; rotate_left; clear_value a; revert a; intros) | (clear_value a; revert a; intros))
    | refine Does.wr ?_ ?_ _ _ _ | exact Foot.upR hg (by decide)

def Foot.loadCal : Foot := ⟨0x200000000000000000000000000000000, 0, 0⟩

theorem Does.loadCal {G : Foot} {z s : State} (h : Does G z s) (hg : Foot.loadCal.leB G = true) (n : Nat) : Does G z (State.loadCal s n) := by
  unfold State.loadCal
  with_reducible repeat' first
    | assumption
    | (extract_lets +onlyGivenNames a; first | (refine (fun (k : Does G z a) => ?_) ?_; rotate_left; unfold a; clear a; rotate_left; clear_value a; revert a; intros) | (clear_value a; revert a; intros))
    | refine Does.wr ?_ ?_ _ _ _ | exact Foot.upR hg (by decide)

def Foot.loadCell : Foot := ⟨0x8000000000000000000000000000000000000200000, 0, 0⟩

theorem Does.loadCell {G : Foot} {z s : State} (h : Does G z s) (hg : Foot.loadCell.leB G = true) (x : Nat) : Does G z (State.loadCell s x) := by
  unfold State.loadCell
  with_reducible repeat' first
    | assumption
    | (extract_lets +onlyGivenNames a; first | (refine (fun (k : Does G z a) => ?_) ?_; rotate_left; unfold a; clear a; rotate_left; clear_value a; revert a; intros) | (clear_value a; revert a; intros))
    | refine Does.wr ?_ ?_ _ _ _ | exact Foot.upR hg (by decide) | refine Foot.cellF ?_ ?_ | (dsimp -zeta only) | split

def Foot.loadDet : Foot := ⟨0x1E000000000000000000000000000000000, 0, 0⟩

theorem Does.loadDet {G : Foot} {z s : State} (h : Does G z s) (hg : Foot.loadDet.leB G = true) (l : Nat) (d : Nat) : Does G z (State.loadDet s l d) := by
  unfold State.loadDet
  with_reducible repeat' first
    | assumption
    | (extract_lets +onlyGivenNames a; first | (refine (fun (k : Does G z a) => ?_) ?_; rotate_left; unfold a; clear a; rotate_left; clear_value a; revert a; intros) | (clear_value a; revert a; intros))
    | refine Does.wr ?_ ?_ _ _ _ | (refine Does.when ?_ _ _ fun _ _ => ?_) | refine Does.ddThr ?_ (Foot.up hg (by decide)) _
    | exact Foot.upR hg (by decide)

def Foot.loadEst : Foot := ⟨0x8000000000000000000000000000000000000, 0, 0⟩

theorem Does.loadEst {G : Foot} {z s : State} (h : Does G z s) (hg : Foot.loadEst.leB G = true) (l : Nat) : Does G z (State.loadEst s l) := by
  unfold State.loadEst
  with_reducible repeat' first
    | assumption
    | (extract_lets +onlyGivenNames a; first | (refine (fun (k : Does G z a) => ?_) ?_; rotate_left; unfold a; clear a; rotate_left; clear_value a; revert a; intros) | ((have b : List Fld := a; clear b); unfold a; clear a) | (clear_value a; revert a; intros))
    | refine Does.wr ?_ ?_ _ _ _ | (refine Does.each ?_ _ _ fun _ _ _ _ => ?_) | exact Foot.upR hg (by decide)
    | exact Foot.upZip hg ‹_ ∈ _› (by decide)

def Foot.loadSrc : Foot := ⟨0x80000000000000000, 0, 0⟩

theorem Does.loadSrc {G : Foot} {z s : State} (h : Does G z s) (hg : Foot.loadSrc.leB G = true) (x : SrcRec) : Does G z (State.loadSrc s x) := by
  unfold State.loadSrc
  with_reducible repeat' first
    | assumption
    | (extract_lets +onlyGivenNames a; first | (refine (fun (k : Does G z a) => ?_) ?_; rotate_left; unfold a; clear a; rotate_left; clear_value a; revert a; intros) | (clear_value a; revert a; intros))
    | refine Does.wr ?_ ?_ _ _ _ | exact Foot.upR hg (by decide)

def Foot.grpLeave : Foot := ⟨0x110000000000000000, 0, 0⟩

theorem Does.grpLeave {G : Foot} {z s : State} (h : Does G z s) (hg : Foot.grpLeave.leB G = true) (k : Nat) (grp : Nat) (en : Bool) : Does G z (State.grpLeave s k grp en) := by
  unfold State.grpLeave
  with_reducible repeat' first
    | assumption
    | (extract_lets +onlyGivenNames a; first | (refine (fun (k : Does G z a) => ?_) ?_; rotate_left; unfold a; clear a; rotate_left; clear_value a; revert a; intros) | (clear_value a; revert a; intros))
    | refine Does.grpFire ?_ (Foot.up hg (by decide)) _ | (dsimp -zeta only) | refine Does.ite ?_ ?_

def Foot.loadSrcGroup : Foot := ⟨0x190000000000000000, 0, 0⟩

theorem Does.loadSrcGroup {G : Foot} {z s : State} (h : Does G z s) (hg : Foot.loadSrcGroup.leB G = true) (k : Nat) : Does G z (State.loadSrcGroup s k) := by
  unfold State.loadSrcGroup
  with_reducible repeat' first
    | assumption
    | (extract_lets +onlyGivenNames a; first | (refine (fun (k : Does G z a) => ?_) ?_; rotate_left; unfold a; clear a; rotate_left; clear_value a; revert a; intros) | (clear_value a; revert a; intros))
    | refine Does.wr ?_ ?_ _ _ _ | refine Does.grpLeave ?_ (Foot.up hg (by decide)) _ _ _ | exact Foot.upR hg (by decide)

def Foot.loadGroup : Foot := ⟨0x110000000000000000, 0, 0⟩

theorem Does.loadGroup {G : Foot} {z s : State} (h : Does G z s) (hg : Foot.loadGroup.leB G = true) (g : Nat) : Does G z (State.loadGroup s g) := by
  unfold State.loadGroup
  with_reducible repeat' first
    | assumption
    | (extract_lets +onlyGivenNames a; first | (refine (fun (k : Does G z a) => ?_) ?_; rotate_left; unfold a; clear a; rotate_left; clear_value a; revert a; intros) | (clear_value a; revert a; intros))
    | refine Does.wr ?_ ?_ _ _ _ | refine Does.grpFire ?_ (Foot.up hg (by decide)) _ | exact Foot.upR hg (by decide)

def Foot.loadWake : Foot := ⟨0x40000000000000000, 0, 0⟩

theorem Does.loadWake {G : Foot} {z s : State} (h : Does G z s) (hg : Foot.loadWake.leB G = true) (k : Nat) : Does G z (State.loadWake s k) := by
  unfold State.loadWake
  with_reducible repeat' first
    | assumption
    | (extract_lets +onlyGivenNames a; first | (refine (fun (k : Does G z a) => ?_) ?_; rotate_left; unfold a; clear a; rotate_left; clear_value a; revert a; intros) | (clear_value a; revert a; intros))
    | refine Does.wr ?_ ?_ _ _ _ | exact Foot.upR hg (by decide)

def Foot.loadPri : Foot := ⟨0x300000000000000, 0x8, 0⟩

theorem Does.loadPri {G : Foot} {z s : State} (h : Does G z s) (hg : Foot.loadPri.leB G = true) : Does G z (State.loadPri s) := by
  unfold State.loadPri
  with_reducible repeat' first
    | assumption
    | (extract_lets +onlyGivenNames a; first | (refine (fun (k : Does G z a) => ?_) ?_; rotate_left; unfold a; clear a; rotate_left; clear_value a; revert a; intros) | (clear_value a; revert a; intros))
    | refine Does.wr ?_ ?_ _ _ _ | refine Does.setV ?_ ?_ _ _ _ | refine Does.pgSettle ?_ (Foot.up hg (by decide))
    | exact Foot.upR hg (by decide) | exact Foot.upV hg (by decide)

def Foot.evtFresh : Foot := ⟨0x1F1300000000000000, 0x8, 0x10⟩

theorem Does.evtFresh {G : Foot} {z s : State} (h : Does G z s) (hg : Foot.evtFresh.leB G = true) : Does G z (State.evtFresh s) := by
  unfold State.evtFresh
  with_reducible repeat' first
    | assumption
    | (extract_lets +onlyGivenNames a; first | (refine (fun (k : Does G z a) => ?_) ?_; rotate_left; unfold a; clear a; rotate_left; clear_value a; revert a; intros) | (clear_value a; revert a; intros))
    | refine Does.wr ?_ ?_ _ _ _ | refine Does.setV ?_ ?_ _ _ _ | (refine Does.each ?_ _ _ fun _ _ _ _ => ?_)
    | refine Does.forget ?_ _ ?_ | refine Does.loadSrc ?_ (Foot.up hg (by decide)) _
    | refine Does.loadSrcGroup ?_ (Foot.up hg (by decide)) _ | refine Does.loadGroup ?_ (Foot.up hg (by decide)) _
    | refine Does.loadPri ?_ (Foot.up hg (by decide)) | refine Does.loadWake ?_ (Foot.up hg (by decide)) _
    | refine Does.srcSync ?_ (Foot.up hg (by decide)) _ | refine Does.setPend ?_ (Foot.up hg (by decide)) _
    | exact Foot.upR hg (by decide) | exact Foot.upV hg (by decide) | exact Foot.upM hg ‹_ ∈ _› (by decide)
    | refine Foot.orK ?_ ?_ | refine Foot.andK ?_ | refine Foot.eqK ?_ | exact Foot.conK hg (by decide) | (dsimp -zeta only)
    | refine Does.ite ?_ ?_ | refine Does.ite_snd ?_ ?_ | refine Foot.pick ?_ ?_ | split | refine Does.snd ‹_ = (_, _)› ?_
    | (refine Does.mk' ?_ rfl rfl rfl rfl rfl rfl rfl rfl rfl rfl ?_; rotate_left; intro p hn; cases p <;> first | with_unfolding_all rfl | exact Foot.noP hg (by decide) hn)

def Foot.syncFresh : Foot := ⟨0x30000000000000000000000000000000000000000C000, 0, 0xC00⟩

theorem Does.syncFresh {G : Foot} {z s : State} (h : Does G z s) (hg : Foot.syncFresh.leB G = true) : Does G z (State.syncFresh s) := by
  unfold State.syncFresh
  with_reducible repeat' first
    | assumption
    | (extract_lets +onlyGivenNames a; first | (refine (fun (k : Does G z a) => ?_) ?_; rotate_left; unfold a; clear a; rotate_left; clear_value a; revert a; intros) | (clear_value a; revert a; intros))
    | refine Does.wr ?_ ?_ _ _ _ | (refine Does.each ?_ _ _ fun _ _ _ _ => ?_) | refine Does.forget ?_ _ ?_
    | exact Foot.upR hg (by decide) | refine Foot.orK ?_ ?_ | refine Foot.andK ?_ | refine Foot.eqK ?_
    | exact Foot.conK hg (by decide) | (dsimp -zeta only) | split | refine Does.snd ‹_ = (_, _)› ?_
    | (refine Does.mk' ?_ rfl rfl rfl rfl rfl rfl rfl rfl rfl rfl ?_; rotate_left; intro p hn; cases p <;> first | with_unfolding_all rfl | exact Foot.noP hg (by decide) hn)

def Foot.dxlFresh : Foot := ⟨0x410000000000000000000000000000000000000000000000000, 0, 0⟩

theorem Does.dxlFresh {G : Foot} {z s : State} (h : Does G z s) (hg : Foot.dxlFresh.leB G = true) : Does G z (State.dxlFresh s) := by
  unfold State.dxlFresh
  with_reducible repeat' first
    | assumption
    | (extract_lets +onlyGivenNames a; first | (refine (fun (k : Does G z a) => ?_) ?_; rotate_left; unfold a; clear a; rotate_left; clear_value a; revert a; intros) | (clear_value a; revert a; intros))
    | refine Does.wr ?_ ?_ _ _ _ | (refine Does.each ?_ _ _ fun _ _ _ _ => ?_) | exact Foot.upR hg (by decide)

def Foot.hubFields : Foot := ⟨0x417004308004001C11630719BF7FFFFFC1F130007800020C8A0, 0x41E000010C70030082C000000003E380040000000000FF800060084000F9F9FFF0400000004FFFFFC3F80000F, 0xCB0⟩

theorem Does.hubFields {G : Foot} {z s : State} (h : Does G z s) (hg : Foot.hubFields.leB G = true) : Does G z (State.hubFields s) := by
  unfold State.hubFields
  with_reducible repeat' first
    | assumption
    | (extract_lets +onlyGivenNames a; first | (refine (fun (k : Does G z a) => ?_) ?_; rotate_left; unfold a; clear a; rotate_left; clear_value a; revert a; intros) | (clear_value a; revert a; intros))
    | refine Does.wr ?_ ?_ _ _ _ | refine Does.setV ?_ ?_ _ _ _ | refine Does.setReg ?_ ?_ _ _ _
    | (refine Does.when ?_ _ _ fun _ _ => ?_) | (refine Does.each ?_ _ _ fun _ _ _ _ => ?_)
    | refine Does.forgetV ?_ _ (Foot.upAll hg (by decide)) | refine Does.forget ?_ _ ?_
    | refine Does.loopSched ?_ (Foot.up hg (by decide)) | refine Does.loopFresh ?_ (Foot.up hg (by decide)) _
    | refine Does.loadGain ?_ (Foot.up hg (by decide)) _ | refine Does.railFresh ?_ (Foot.up hg (by decide)) _
    | refine Does.loadSplit ?_ (Foot.up hg (by decide)) _ | refine Does.strAccept ?_ (Foot.up hg (by decide))
    | refine Does.syncFresh ?_ (Foot.up hg (by decide)) | refine Does.loadCal ?_ (Foot.up hg (by decide)) _
    | refine Does.loadSite ?_ (Foot.up hg (by decide)) _ | refine Does.loadCell ?_ (Foot.up hg (by decide)) _
    | refine Does.dxlFresh ?_ (Foot.up hg (by decide)) | refine Does.evtFresh ?_ (Foot.up hg (by decide))
    | refine Does.event ?_ (Foot.up hg (by decide)) _ _ | refine Does.gbAll ?_ (Foot.up hg (by decide))
    | refine Does.trcArm ?_ (Foot.up hg (by decide)) | exact Foot.upR hg (by decide) | exact Foot.upV hg (by decide)
    | exact Foot.upM hg ‹_ ∈ _› (by decide) | refine Foot.orK ?_ ?_ | refine Foot.andK ?_ | refine Foot.eqK ?_
    | exact Foot.conK hg (by decide) | (dsimp -zeta only) | refine Does.ite ?_ ?_ | refine Does.ite_snd ?_ ?_
    | refine Foot.pick ?_ ?_ | split | refine Does.snd ‹_ = (_, _)› ?_
    | (refine Does.mk' ?_ rfl rfl rfl rfl rfl rfl rfl rfl rfl rfl ?_; rotate_left; intro p hn; cases p <;> first | with_unfolding_all rfl | exact Foot.noP hg (by decide) hn)

def Foot.heldFields : Foot := ⟨0x6A4060E0000000000000000000000000000000200000, 0x20000000000180000000000140000000000000000000200000000270000000804000000000000000000000, 0⟩

theorem Does.heldFields {G : Foot} {z s : State} (h : Does G z s) (hg : Foot.heldFields.leB G = true) (l : Nat) : Does G z (State.heldFields s l) := by
  unfold State.heldFields
  with_reducible repeat' first
    | assumption
    | (extract_lets +onlyGivenNames a; first | (refine (fun (k : Does G z a) => ?_) ?_; rotate_left; unfold a; clear a; rotate_left; clear_value a; revert a; intros) | (clear_value a; revert a; intros))
    | refine Does.setReg ?_ ?_ _ _ _ | (refine Does.when ?_ _ _ fun _ _ => ?_) | (refine Does.each ?_ _ _ fun _ _ _ _ => ?_)
    | refine Does.vrefTake ?_ (Foot.up hg (by decide)) _ _ | refine Does.vrefNote ?_ (Foot.up hg (by decide)) _
    | refine Does.thrTake ?_ (Foot.up hg (by decide)) _ _ | refine Does.brakeTake ?_ (Foot.up hg (by decide)) _ _
    | exact Foot.upR hg (by decide)

def Foot.leafFields : Foot := ⟨0x810400C05F400000000000000000000000000200000, 0, 0⟩

theorem Does.leafFields {G : Foot} {z s : State} (h : Does G z s) (hg : Foot.leafFields.leB G = true) (l : Nat) : Does G z (State.leafFields s l) := by
  unfold State.leafFields
  with_reducible repeat' first
    | assumption
    | (extract_lets +onlyGivenNames a; first | (refine (fun (k : Does G z a) => ?_) ?_; rotate_left; unfold a; clear a; rotate_left; clear_value a; revert a; intros) | (clear_value a; revert a; intros))
    | refine Does.wr ?_ ?_ _ _ _ | (refine Does.each ?_ _ _ fun _ _ _ _ => ?_)
    | refine Does.loadId ?_ (Foot.up hg (by decide)) _ | refine Does.loadEst ?_ (Foot.up hg (by decide)) _
    | refine Does.loadDet ?_ (Foot.up hg (by decide)) _ _ | refine Does.loadSite ?_ (Foot.up hg (by decide)) _
    | refine Does.loadCell ?_ (Foot.up hg (by decide)) _ | exact Foot.upR hg (by decide)

def Foot.islandFields : Foot := ⟨0x700407A5060EFC5F4000000000FFDFC130200038000600000, 0x2000000700018000000000014000800000000000000020000000827000001F804000004000000000004007, 0x30⟩

theorem Does.islandFields {G : Foot} {z s : State} (h : Does G z s) (hg : Foot.islandFields.leB G = true) (d : Nat) : Does G z (State.islandFields s d) := by
  unfold State.islandFields
  with_reducible repeat' first
    | assumption
    | (extract_lets +onlyGivenNames a; first | (refine (fun (k : Does G z a) => ?_) ?_; rotate_left; unfold a; clear a; rotate_left; clear_value a; revert a; intros) | (clear_value a; revert a; intros))
    | refine Does.wr ?_ ?_ _ _ _ | refine Does.setV ?_ ?_ _ _ _ | (refine Does.when ?_ _ _ fun _ _ => ?_)
    | (refine Does.each ?_ _ _ fun _ _ _ _ => ?_) | refine Does.leafFields ?_ (Foot.up hg (by decide)) _
    | refine Does.heldFields ?_ (Foot.up hg (by decide)) _ | refine Does.leafEff ?_ (Foot.up hg (by decide)) _
    | refine Does.loadId ?_ (Foot.up hg (by decide)) _ | refine Does.loadSplit ?_ (Foot.up hg (by decide)) _
    | refine Does.loopFresh ?_ (Foot.up hg (by decide)) _ | refine Does.gainCopies ?_ (Foot.up hg (by decide)) _
    | refine Does.loopsHostBack ?_ (Foot.up hg (by decide)) _ | exact Foot.upR hg (by decide) | exact Foot.upV hg (by decide)
    | exact Foot.upM hg ‹_ ∈ _› (by decide) | (dsimp -zeta only) | refine Does.ite ?_ ?_

def Foot.itemLoad : Foot := ⟨0x7004058506003E1F620409BE00611F81F03000780006000C0, 0x2000000300018000000000014000000000000000000000000080027000000084400000000000000000000F, 0xB0⟩

theorem Does.itemLoad {G : Foot} {z s : State} (h : Does G z s) (hg : Foot.itemLoad.leB G = true) (x : Item) : Does G z (State.itemLoad s x) := by
  unfold State.itemLoad
  with_reducible repeat' first
    | assumption
    | (extract_lets +onlyGivenNames a; first | (refine (fun (k : Does G z a) => ?_) ?_; rotate_left; unfold a; clear a; rotate_left; clear_value a; revert a; intros) | ((have b : ImgSt := a; clear b); unfold a; clear a) | (clear_value a; revert a; intros))
    | refine Does.wr ?_ ?_ _ _ _ | (refine Does.when ?_ _ _ fun _ _ => ?_) | (refine Does.each ?_ _ _ fun _ _ _ _ => ?_)
    | refine Does.loadLoop ?_ (Foot.up hg (by decide)) _ _ | refine Does.loadGain ?_ (Foot.up hg (by decide)) _
    | refine Does.railKeyLoad ?_ (Foot.up hg (by decide)) _ _ | refine Does.loadSpMax ?_ (Foot.up hg (by decide)) _
    | refine Does.loadSplit ?_ (Foot.up hg (by decide)) _ | refine Does.splitAll ?_ (Foot.up hg (by decide)) _
    | refine Does.loadSite ?_ (Foot.up hg (by decide)) _ | refine Does.loadCal ?_ (Foot.up hg (by decide)) _
    | refine Does.loadCell ?_ (Foot.up hg (by decide)) _ | refine Does.cellShow ?_ (Foot.up hg (by decide)) _
    | refine Does.gbAll ?_ (Foot.up hg (by decide)) | refine Does.loadDet ?_ (Foot.up hg (by decide)) _ _
    | refine Does.loadPri ?_ (Foot.up hg (by decide)) | refine Does.loadSrc ?_ (Foot.up hg (by decide)) _
    | refine Does.loadSrcGroup ?_ (Foot.up hg (by decide)) _ | refine Does.loadGroup ?_ (Foot.up hg (by decide)) _
    | refine Does.loadWake ?_ (Foot.up hg (by decide)) _ | refine Does.modeTo ?_ (Foot.up hg (by decide)) _
    | refine Does.modeCeil ?_ (Foot.up hg (by decide)) _ | exact Foot.upR hg (by decide) | (dsimp -zeta only)
    | refine Does.ite ?_ ?_ | refine Does.ite_snd ?_ ?_ | refine Foot.pick ?_ ?_ | split | refine Does.snd ‹_ = (_, _)› ?_
    | (refine Does.mk' ?_ rfl rfl rfl rfl rfl rfl rfl rfl rfl rfl ?_; rotate_left; intro p hn; cases p <;> first | with_unfolding_all rfl | exact Foot.noP hg (by decide) hn)


end Sys2Proof.Machine
end

