-- ==== Sys2Proof/Laws/FootE.lean ====
section
/-!
SUPPORT. Does, with its footprint, for the operations of Loader, Chan, EstCmd, BudgetCmd, Counter, EventCmd.
-/
set_option linter.tactic.unusedName false
set_option linter.unusedVariables false
set_option linter.unusedTactic false
set_option linter.unreachableTactic false
namespace Sys2Proof.Machine

def Foot.ldrOwner : Foot := ⟨0x100000000000, 0, 0x2⟩

theorem Does.ldrOwner {G : Foot} {z s : State} (h : Does G z s) (hg : Foot.ldrOwner.leB G = true) (o : Option Port) : Does G z (State.ldrOwner s o) := by
  unfold State.ldrOwner
  with_reducible repeat' first
    | assumption
    | (extract_lets +onlyGivenNames a; first | (refine (fun (k : Does G z a) => ?_) ?_; rotate_left; unfold a; clear a; rotate_left; clear_value a; revert a; intros) | ((have b : ImgSt := a; clear b); unfold a; clear a) | (clear_value a; revert a; intros))
    | refine Does.wr ?_ ?_ _ _ _ | exact Foot.upR hg (by decide) | (dsimp -zeta only) | split | refine Does.snd ‹_ = (_, _)› ?_
    | (refine Does.mk' ?_ rfl rfl rfl rfl rfl rfl rfl rfl rfl rfl ?_; rotate_left; intro p hn; cases p <;> first | with_unfolding_all rfl | exact Foot.noP hg (by decide) hn)

def Foot.ldrIdle : Foot := ⟨0x100000000000, 0, 0x2⟩

theorem Does.ldrIdle {G : Foot} {z s : State} (h : Does G z s) (hg : Foot.ldrIdle.leB G = true) : Does G z (State.ldrIdle s) := by
  unfold State.ldrIdle
  with_reducible repeat' first
    | assumption | refine Does.wr ?_ ?_ _ _ _ | refine Does.ldrOwner ?_ (Foot.up hg (by decide)) _
    | exact Foot.upR hg (by decide)

def Foot.ldrOpen : Foot := ⟨0x300000000000, 0x4000000000000000000000000000000000000000000000000000000000000000000, 0x3⟩

theorem Does.ldrOpen {G : Foot} {z s : State} (h : Does G z s) (hg : Foot.ldrOpen.leB G = true) (p : Port) : Does G z (State.ldrOpen s p).2 := by
  unfold State.ldrOpen
  with_reducible repeat' first
    | assumption
    | (extract_lets +onlyGivenNames a; first | (refine (fun (k : Does G z a) => ?_) ?_; rotate_left; unfold a; clear a; rotate_left; clear_value a; revert a; intros) | (clear_value a; revert a; intros))
    | refine Does.wr ?_ ?_ _ _ _ | refine Does.setV ?_ ?_ _ _ _
    | (refine Does.setBank ?_ (Foot.upP hg (by decide)) _ _ ?_; rotate_left; with_unfolding_all first | exact fun c => Mem.wf_writeBytes _ _ _ (State.Canon.bank c _) | exact fun c => State.Canon.bank c _ | exact fun _ => (rfl : Mem.wf [] = true))
    | refine Does.fallbackShow ?_ (Foot.up hg (by decide)) | refine Does.ldrOwner ?_ (Foot.up hg (by decide)) _
    | exact Foot.upR hg (by decide) | exact Foot.upV hg (by decide) | (dsimp -zeta only) | refine Does.ite ?_ ?_
    | refine Does.ite_snd ?_ ?_

def Foot.ldrCommit : Foot := ⟨0x100000000000, 0, 0⟩

theorem Does.ldrCommit {G : Foot} {z s : State} (h : Does G z s) (hg : Foot.ldrCommit.leB G = true) (p : Port) : Does G z (State.ldrCommit s p).2 := by
  unfold State.ldrCommit
  with_reducible repeat' first
    | assumption | refine Does.wr ?_ ?_ _ _ _ | exact Foot.upR hg (by decide) | (dsimp -zeta only) | refine Does.ite ?_ ?_
    | refine Does.ite_snd ?_ ?_

def Foot.ldrAbort : Foot := ⟨0x108000000000, 0, 0x2⟩

theorem Does.ldrAbort {G : Foot} {z s : State} (h : Does G z s) (hg : Foot.ldrAbort.leB G = true) (p : Port) : Does G z (State.ldrAbort s p).2 := by
  unfold State.ldrAbort
  with_reducible repeat' first
    | assumption | refine Does.ldrIdle ?_ (Foot.up hg (by decide)) | refine Does.ldrResult ?_ (Foot.up hg (by decide)) _ _ _ _
    | (dsimp -zeta only) | refine Does.ite ?_ ?_ | refine Does.ite_snd ?_ ?_ | refine Foot.pick ?_ ?_ | split

def Foot.ldrFuse : Foot := ⟨0x100000000000, 0, 0⟩

theorem Does.ldrFuse {G : Foot} {z s : State} (h : Does G z s) (hg : Foot.ldrFuse.leB G = true) : Does G z (State.ldrFuse s).2 := by
  unfold State.ldrFuse
  with_reducible repeat' first
    | assumption | refine Does.wr ?_ ?_ _ _ _ | exact Foot.upR hg (by decide) | (dsimp -zeta only) | refine Does.ite ?_ ?_
    | refine Does.ite_snd ?_ ?_

def Foot.ldrCmd : Foot := ⟨0x308000000000, 0x4000000000000000000000000000000000000000000000000000000000000000000, 0x3⟩

theorem Does.ldrCmd {G : Foot} {z s : State} (h : Does G z s) (hg : Foot.ldrCmd.leB G = true) (p : Port) (c : Nat) : Does G z (State.ldrCmd s p c).2 := by
  unfold State.ldrCmd
  with_reducible repeat' first
    | assumption | refine Does.ldrOpen ?_ (Foot.up hg (by decide)) _ | refine Does.ldrCommit ?_ (Foot.up hg (by decide)) _
    | refine Does.ldrAbort ?_ (Foot.up hg (by decide)) _ | refine Does.ldrFuse ?_ (Foot.up hg (by decide)) | (dsimp -zeta only)
    | split

def Foot.ldrAddr : Foot := ⟨0x200000000000, 0x4000000000000000000000000000000000000000000000000000000000000000000, 0⟩

theorem Does.ldrAddr {G : Foot} {z s : State} (h : Does G z s) (hg : Foot.ldrAddr.leB G = true) (p : Port) (w : Nat) : Does G z (State.ldrAddr s p w).2 := by
  unfold State.ldrAddr
  with_reducible repeat' first
    | assumption
    | (extract_lets +onlyGivenNames a; first | (refine (fun (k : Does G z a) => ?_) ?_; rotate_left; unfold a; clear a; rotate_left; clear_value a; revert a; intros) | (clear_value a; revert a; intros))
    | refine Does.wr ?_ ?_ _ _ _ | refine Does.setV ?_ ?_ _ _ _ | exact Foot.upR hg (by decide) | exact Foot.upV hg (by decide)
    | (dsimp -zeta only) | refine Does.ite ?_ ?_ | refine Does.ite_snd ?_ ?_

def Foot.ldrData : Foot := ⟨0x200000000000, 0x4000000000000000000000000000000000000000000000000000000000000000000, 0x1⟩

theorem Does.ldrData {G : Foot} {z s : State} (h : Does G z s) (hg : Foot.ldrData.leB G = true) (p : Port) (wide : Bool) (w : Word) : Does G z (State.ldrData s p wide w).2 := by
  unfold State.ldrData
  extract_lets ptr
  split
  · exact h
  split
  · exact h
  split
  · exact h
  · exact h
  · split
    · refine Does.wr (Does.setV (Does.setBank h (Foot.upP hg (by decide)) _ _ fun c => ?_) (Foot.upV hg (by decide)) _ _ _) (Foot.upR hg (by decide)) _ _ _
      exact Mem.wf_writeBytes _ _ _ (State.Canon.bank c _)
    · exact h
  · exact h

def Foot.setDelta : Foot := ⟨0, 0, 0x8⟩

theorem Does.setDelta {G : Foot} {z s : State} (h : Does G z s) (hg : Foot.setDelta.leB G = true) (d : Option DeltaRun) : Does G z (State.setDelta s d) := by
  unfold State.setDelta
  with_reducible repeat' first
    | assumption | (dsimp -zeta only) | split | refine Does.snd ‹_ = (_, _)› ?_
    | (refine Does.mk' ?_ rfl rfl rfl rfl rfl rfl rfl rfl rfl rfl ?_; rotate_left; intro p hn; cases p <;> first | with_unfolding_all rfl | exact Foot.noP hg (by decide) hn)

def Foot.paramSend : Foot := ⟨0x10000002000000000000000000000000000000400000, 0, 0⟩

theorem Does.paramSend {G : Foot} {z s : State} (h : Does G z s) (hg : Foot.paramSend.leB G = true) (d : Nat) (kind : Nat) : Does G z (State.paramSend s d kind).2 := by
  unfold State.paramSend
  with_reducible repeat' first
    | assumption | refine Does.sendDown ?_ (Foot.up hg (by decide)) _ _ _ | (dsimp -zeta only) | split

def Foot.deltaReady : Foot := ⟨0x10000002000000000000000000000000000000400000, 0, 0x8⟩

theorem Does.deltaReady {G : Foot} {z s : State} (h : Does G z s) (hg : Foot.deltaReady.leB G = true) : Does G z (State.deltaReady s) := by
  unfold State.deltaReady
  with_reducible repeat' first
    | assumption | (refine Does.each ?_ _ _ fun _ _ _ _ => ?_) | refine Does.setDelta ?_ (Foot.up hg (by decide)) _
    | refine Does.paramSend ?_ (Foot.up hg (by decide)) _ _ | (dsimp -zeta only) | refine Does.ite ?_ ?_
    | refine Does.ite_snd ?_ ?_ | refine Foot.pick ?_ ?_ | split

def Foot.deltaAbsent : Foot := ⟨0x10000002000000000000000000000000000000400000, 0x8000000000000000000000000000000000000000000000000000000000000000000000000, 0x8⟩

theorem Does.deltaAbsent {G : Foot} {z s : State} (h : Does G z s) (hg : Foot.deltaAbsent.leB G = true) (x : Nat) : Does G z (State.deltaAbsent s x) := by
  unfold State.deltaAbsent
  with_reducible repeat' first
    | assumption | refine Does.setV ?_ ?_ _ _ _ | refine Does.setDelta ?_ (Foot.up hg (by decide)) _
    | refine Does.deltaReady ?_ (Foot.up hg (by decide)) | exact Foot.upV hg (by decide) | (dsimp -zeta only) | split

def Foot.deltaSend : Foot := ⟨0x10000002000000000000000000000000000000400000, 0x2000000000000008000000000000000000000000000000000000000000000000000000000000000000000000, 0x8⟩

theorem Does.deltaSend {G : Foot} {z s : State} (h : Does G z s) (hg : Foot.deltaSend.leB G = true) (c : Nat) : Does G z (State.deltaSend s c) := by
  unfold State.deltaSend
  with_reducible repeat' first
    | assumption
    | (extract_lets +onlyGivenNames a; first | (refine (fun (k : Does G z a) => ?_) ?_; rotate_left; unfold a; clear a; rotate_left; clear_value a; revert a; intros) | (clear_value a; revert a; intros))
    | refine Does.setV ?_ ?_ _ _ _ | (refine Does.each ?_ _ _ fun _ _ _ _ => ?_)
    | refine Does.sendDown ?_ (Foot.up hg (by decide)) _ _ _ | refine Does.deltaAbsent ?_ (Foot.up hg (by decide)) _
    | exact Foot.upV hg (by decide) | exact Foot.upM hg ‹_ ∈ _› (by decide) | (dsimp -zeta only) | refine Does.ite ?_ ?_
    | refine Does.ite_snd ?_ ?_ | refine Foot.pick ?_ ?_ | split

def Foot.deltaStart : Foot := ⟨0x3407004010002003E000000020000611FC130200179C00400840, 0x40000000700005800000000000000000000000070C001000080000006018000000000000000000000000F07, 0x410F8⟩

theorem Does.deltaStart {G : Foot} {z s : State} (h : Does G z s) (hg : Foot.deltaStart.leB G = true) (g : Image) : Does G z (State.deltaStart s g) := by
  unfold State.deltaStart
  with_reducible repeat' first
    | assumption
    | (extract_lets +onlyGivenNames a; first | (refine (fun (k : Does G z a) => ?_) ?_; rotate_left; unfold a; clear a; rotate_left; clear_value a; revert a; intros) | (clear_value a; revert a; intros))
    | refine Does.wr ?_ ?_ _ _ _ | refine Does.setV ?_ ?_ _ _ _ | (refine Does.each ?_ _ _ fun _ _ _ _ => ?_)
    | refine Does.setDelta ?_ (Foot.up hg (by decide)) _ | refine Does.fenceIssue ?_ (Foot.up hg (by decide)) _ _
    | refine Does.deltaReady ?_ (Foot.up hg (by decide)) | exact Foot.upR hg (by decide) | exact Foot.upV hg (by decide)

def Foot.chReleased : Foot := ⟨0x10000002000000000000000000000000000000400000, 0x20000000000000000000000000000000000000000000000000000000000000000000000001050, 0⟩

theorem Does.chReleased {G : Foot} {z s : State} (h : Does G z s) (hg : Foot.chReleased.leB G = true) : Does G z (State.chReleased s) := by
  unfold State.chReleased
  with_reducible repeat' first
    | assumption
    | (extract_lets +onlyGivenNames a; first | (refine (fun (k : Does G z a) => ?_) ?_; rotate_left; unfold a; clear a; rotate_left; clear_value a; revert a; intros) | (clear_value a; revert a; intros))
    | refine Does.setV ?_ ?_ _ _ _ | (refine Does.each ?_ _ _ fun _ _ _ _ => ?_)
    | refine Does.chW ?_ (Foot.up hg (by decide)) _ _ _ | refine Does.sayHello ?_ (Foot.up hg (by decide)) _ _
    | refine Does.helloStored ?_ (Foot.up hg (by decide)) _ | exact Foot.upV hg (by decide)
    | exact Foot.upM hg ‹_ ∈ _› (by decide) | (dsimp -zeta only) | refine Does.ite ?_ ?_

def Foot.deltaEnd : Foot := ⟨0x3CB75443FFFFFFFFFFFD910060B007FDFFF70200179C0FC228E8, 0x3B85FE24637F0E13D8100008023FCFC0FFFFFFFFCDF0D0A30FF5AF8BFFF601E01FFFFFFFFFF8060083C1FFFFF7, 0x45DFA⟩

theorem Does.deltaEnd {G : Foot} {z s : State} (h : Does G z s) (hg : Foot.deltaEnd.leB G = true) (loops : List Nat) : Does G z (State.deltaEnd s loops) := by
  unfold State.deltaEnd
  with_reducible repeat' first
    | assumption
    | (extract_lets +onlyGivenNames a; first | (refine (fun (k : Does G z a) => ?_) ?_; rotate_left; unfold a; clear a; rotate_left; clear_value a; revert a; intros) | (clear_value a; revert a; intros))
    | refine Does.setV ?_ ?_ _ _ _ | (refine Does.each ?_ _ _ fun _ _ _ _ => ?_)
    | refine Does.setDelta ?_ (Foot.up hg (by decide)) _ | refine Does.ldrIdle ?_ (Foot.up hg (by decide))
    | refine Does.loopsUnhold ?_ (Foot.up hg (by decide)) _ | refine Does.chReleased ?_ (Foot.up hg (by decide))
    | refine Does.holdEnd ?_ (Foot.up hg (by decide)) | exact Foot.upV hg (by decide)

def Foot.deltaApply : Foot := ⟨0x3CB75443FFFFFFFFFFFFB570FBF6F7FDFFFF0300979C0FE328E8, 0x3B8FFE24637F0E13F8100008023FCFC0FFFFFFFFCDF0D0A30FF5AF8BFFFE11E01FFFFFFFFFF8060783C1FFFFFF, 0x45DFE⟩

theorem Does.deltaApply {G : Foot} {z s : State} (h : Does G z s) (hg : Foot.deltaApply.leB G = true) (d : DeltaRun) : Does G z (State.deltaApply s d) := by
  unfold State.deltaApply
  with_reducible repeat' first
    | assumption
    | (extract_lets +onlyGivenNames a; first | (refine (fun (k : Does G z a) => ?_) ?_; rotate_left; unfold a; clear a; rotate_left; clear_value a; revert a; intros) | ((have b : ImgSt := a; clear b); unfold a; clear a) | (clear_value a; revert a; intros))
    | refine Does.wr ?_ ?_ _ _ _ | refine Does.setV ?_ ?_ _ _ _ | (refine Does.when ?_ _ _ fun _ _ => ?_)
    | (refine Does.each ?_ _ _ fun _ _ _ _ => ?_) | refine Does.railKeyLoad ?_ (Foot.up hg (by decide)) _ _
    | refine Does.itemLoad ?_ (Foot.up hg (by decide)) _ | refine Does.gainsRename ?_ (Foot.up hg (by decide)) _
    | refine Does.seedAll ?_ (Foot.up hg (by decide)) _ | refine Does.strItems ?_ (Foot.up hg (by decide))
    | refine Does.slotShape ?_ (Foot.up hg (by decide)) _ | refine Does.kneadReset ?_ (Foot.up hg (by decide)) _
    | refine Does.thetaSend ?_ (Foot.up hg (by decide)) _ | refine Does.kneadTouch ?_ (Foot.up hg (by decide)) _ _
    | refine Does.allEff ?_ (Foot.up hg (by decide)) | refine Does.vfRun ?_ (Foot.up hg (by decide))
    | refine Does.deltaEnd ?_ (Foot.up hg (by decide)) _ | refine Does.ldrResult ?_ (Foot.up hg (by decide)) _ _ _ _
    | exact Foot.upR hg (by decide) | exact Foot.upV hg (by decide) | exact Foot.upM hg ‹_ ∈ _› (by decide)
    | (dsimp -zeta only) | refine Does.ite ?_ ?_ | refine Does.ite_snd ?_ ?_ | refine Foot.pick ?_ ?_ | split
    | refine Does.snd ‹_ = (_, _)› ?_
    | (refine Does.mk' ?_ rfl rfl rfl rfl rfl rfl rfl rfl rfl rfl ?_; rotate_left; intro p hn; cases p <;> first | with_unfolding_all rfl | exact Foot.noP hg (by decide) hn)

def Foot.toVerify : Foot := ⟨0x7004000000000000000000000000000130200108000000008, 0x802000000000002000000000000000000000001000C000000000000008000000007, 0x30⟩

theorem Does.toVerify {G : Foot} {z s : State} (h : Does G z s) (hg : Foot.toVerify.leB G = true) (k : Nat) : Does G z (State.toVerify s k) := by
  unfold State.toVerify
  with_reducible repeat' first
    | assumption | refine Does.wr ?_ ?_ _ _ _ | refine Does.setV ?_ ?_ _ _ _
    | refine Does.pkgTo ?_ (Foot.up hg (by decide)) _ _ | exact Foot.upR hg (by decide) | exact Foot.upV hg (by decide)

def Foot.checkEnd : Foot := ⟨0x3407004010002003E000000020000611FC130200179C00400848, 0x40000000700005800000802000000000002000070C00100008000000601800C000000000000008000000F07, 0x410FA⟩

theorem Does.checkEnd {G : Foot} {z s : State} (h : Does G z s) (hg : Foot.checkEnd.leB G = true) (ecc : Bool) : Does G z (State.checkEnd s ecc) := by
  unfold State.checkEnd
  with_reducible repeat' first
    | assumption
    | (extract_lets +onlyGivenNames a; first | (refine (fun (k : Does G z a) => ?_) ?_; rotate_left; unfold a; clear a; rotate_left; clear_value a; revert a; intros) | (clear_value a; revert a; intros))
    | refine Does.wr ?_ ?_ _ _ _ | refine Does.ldrResult ?_ (Foot.up hg (by decide)) _ _ _ _
    | refine Does.ldrOwner ?_ (Foot.up hg (by decide)) _ | refine Does.deltaStart ?_ (Foot.up hg (by decide)) _
    | refine Does.toVerify ?_ (Foot.up hg (by decide)) _ | exact Foot.upR hg (by decide) | (dsimp -zeta only)
    | refine Does.ite ?_ ?_ | refine Does.ite_snd ?_ ?_ | refine Foot.pick ?_ ?_ | split

def Foot.verifyFail : Foot := ⟨0x7004000000000000000000000000000130200108000000008, 0x802000000000002000000000000000000000001000C000000000000008000000007, 0x33⟩

theorem Does.verifyFail {G : Foot} {z s : State} (h : Does G z s) (hg : Foot.verifyFail.leB G = true) (ecc : Bool) (detail : Nat) (step : Nat) (off : Nat) : Does G z (State.verifyFail s ecc detail step off) := by
  unfold State.verifyFail
  with_reducible repeat' first
    | assumption
    | (extract_lets +onlyGivenNames a; first | (refine (fun (k : Does G z a) => ?_) ?_; rotate_left; unfold a; clear a; rotate_left; clear_value a; revert a; intros) | ((have b : Bank := a; clear b); unfold a; clear a) | (clear_value a; revert a; intros))
    | refine Does.wr ?_ ?_ _ _ _ | (refine Does.when ?_ _ _ fun _ _ => ?_)
    | (refine Does.setBank ?_ (Foot.upP hg (by decide)) _ _ ?_; rotate_left; with_unfolding_all first | exact fun c => Mem.wf_writeBytes _ _ _ (State.Canon.bank c _) | exact fun c => State.Canon.bank c _ | exact fun _ => (rfl : Mem.wf [] = true))
    | refine Does.fallbackShow ?_ (Foot.up hg (by decide)) | refine Does.ldrResult ?_ (Foot.up hg (by decide)) _ _ _ _
    | refine Does.event ?_ (Foot.up hg (by decide)) _ _ | refine Does.pkgTo ?_ (Foot.up hg (by decide)) _ _
    | refine Does.candidate ?_ (Foot.up hg (by decide)) | exact Foot.upR hg (by decide)

def Foot.mirSet : Foot := ⟨0x4000000000000000000000000000000000000000000000000000, 0, 0⟩

theorem Does.mirSet {G : Foot} {z s : State} (h : Does G z s) (hg : Foot.mirSet.leB G = true) (k : Nat) (r : Nat) : Does G z (State.mirSet s k r) := by
  unfold State.mirSet
  with_reducible repeat' first
    | assumption | refine Does.wr ?_ ?_ _ _ _ | exact Foot.upR hg (by decide) | (dsimp -zeta only) | refine Does.ite ?_ ?_

def Foot.mirImage : Foot := ⟨0x4000000000000000000000000000000000000000000000000000, 0x800000000000000000000000000000000000000000000000000000000000000000000, 0⟩

theorem Does.mirImage {G : Foot} {z s : State} (h : Does G z s) (hg : Foot.mirImage.leB G = true) (g : Image) : Does G z (State.mirImage s g) := by
  unfold State.mirImage
  with_reducible repeat' first
    | assumption
    | (extract_lets +onlyGivenNames a; first | (refine (fun (k : Does G z a) => ?_) ?_; rotate_left; unfold a; clear a; rotate_left; clear_value a; revert a; intros) | (clear_value a; revert a; intros))
    | refine Does.setV ?_ ?_ _ _ _ | (refine Does.when ?_ _ _ fun _ _ => ?_)
    | refine Does.mirSet ?_ (Foot.up hg (by decide)) _ _ | exact Foot.upV hg (by decide) | (dsimp -zeta only)
    | refine Does.ite ?_ ?_ | refine Does.ite_snd ?_ ?_ | refine Foot.pick ?_ ?_ | split

def Foot.verifyOk : Foot := ⟨0x7CB75443FFFFFFFFFFFFB171FBF7FFFFFFFF1301979C0FE2E8E8, 0x3F9FFE2473FF8E33E83C0808023FFFF8FFEFFFFFEDF0DFFB0FF7AF8FFFFF9FFFFFFFFFFFFFFCFFFFFFFFFFEFFF, 0x45DF7⟩

theorem Does.verifyOk {G : Foot} {z s : State} (h : Does G z s) (hg : Foot.verifyOk.leB G = true) (g : Image) : Does G z (State.verifyOk s g) := by
  unfold State.verifyOk
  with_reducible repeat' first
    | assumption
    | (extract_lets +onlyGivenNames a; first | (refine (fun (k : Does G z a) => ?_) ?_; rotate_left; unfold a; clear a; rotate_left; clear_value a; revert a; intros) | ((first | (have b : Prop := a; clear b) | (have b : List Fld := a; clear b) | (have b : SyncSt := a; clear b) | (have b : State → State := a; clear b) | (have b : Nat → Status → State := a; clear b) | (have b : Bank := a; clear b) | (have b : ImgSt := a; clear b) | (have b : FacSt := a; clear b) | (have b : MirSt := a; clear b) | (have b : Status × State → Option Status × State := a; clear b) | (have b : Status → Word → State → State := a; clear b) | (have b : State → Nat → Nat → State := a; clear b)); unfold a; clear a) | (clear_value a; revert a; intros))
    | refine Does.wr ?_ ?_ _ _ _ | refine Does.setV ?_ ?_ _ _ _ | (refine Does.each ?_ _ _ fun _ _ _ _ => ?_)
    | (refine Does.setBank ?_ (Foot.upP hg (by decide)) _ _ ?_; rotate_left; with_unfolding_all first | exact fun c => Mem.wf_writeBytes _ _ _ (State.Canon.bank c _) | exact fun c => State.Canon.bank c _ | exact fun _ => (rfl : Mem.wf [] = true))
    | refine Does.fallbackShow ?_ (Foot.up hg (by decide)) | refine Does.ldrResult ?_ (Foot.up hg (by decide)) _ _ _ _
    | refine Does.mirImage ?_ (Foot.up hg (by decide)) _ | refine Does.hubFields ?_ (Foot.up hg (by decide))
    | refine Does.rampEnter ?_ (Foot.up hg (by decide)) _ | refine Does.pkgRun ?_ (Foot.up hg (by decide))
    | exact Foot.upR hg (by decide) | exact Foot.upV hg (by decide) | exact Foot.upM hg ‹_ ∈ _› (by decide)
    | (dsimp -zeta only) | split | refine Does.snd ‹_ = (_, _)› ?_
    | (refine Does.mk' ?_ rfl rfl rfl rfl rfl rfl rfl rfl rfl rfl ?_; rotate_left; intro p hn; cases p <;> first | with_unfolding_all rfl | exact Foot.noP hg (by decide) hn)

def Foot.fieldsSend : Foot := ⟨0x10000002000000000000000000000000000000400000, 0x40000000000000000000000000000000000000000000000000000000000000000000000, 0⟩

theorem Does.fieldsSend {G : Foot} {z s : State} (h : Does G z s) (hg : Foot.fieldsSend.leB G = true) (c : Nat) : Does G z (State.fieldsSend s c) := by
  unfold State.fieldsSend
  with_reducible repeat' first
    | assumption | refine Does.setV ?_ ?_ _ _ _ | (refine Does.each ?_ _ _ fun _ _ _ _ => ?_)
    | refine Does.sendDown ?_ (Foot.up hg (by decide)) _ _ _ | exact Foot.upV hg (by decide)
    | exact Foot.upM hg ‹_ ∈ _› (by decide) | (dsimp -zeta only) | refine Does.ite ?_ ?_ | refine Does.ite_snd ?_ ?_
    | refine Foot.pick ?_ ?_ | split

def Foot.paramTake : Foot := ⟨0x34070040FFFFFFFFFFFD910060B00FFDFFF30200179C00E00868, 0x3BC5FE24637F8613C0000008023FCFC0FFC1FFFFE070D0012FF1AF8BFFF601801FFFFFFFFFF8060083C1FFEFF7, 0x450F2⟩

theorem Does.paramTake {G : Foot} {z s : State} (h : Does G z s) (hg : Foot.paramTake.leB G = true) (d : Nat) (kind : Nat) : Does G z (State.paramTake s d kind) := by
  unfold State.paramTake
  with_reducible repeat' first
    | assumption | refine Does.setV ?_ ?_ _ _ _ | refine Does.emit ?_ _ | (refine Does.when ?_ _ _ fun _ _ => ?_)
    | refine Does.islandFields ?_ (Foot.up hg (by decide)) _ | refine Does.pkgRun ?_ (Foot.up hg (by decide))
    | refine Does.sendUp ?_ (Foot.up hg (by decide)) _ _ _ | exact Foot.upV hg (by decide) | (dsimp -zeta only)
    | refine Does.ite ?_ ?_ | refine Does.ite_snd ?_ ?_ | refine Foot.pick ?_ ?_ | split

def Foot.paramConfirm : Foot := ⟨0x10000002000000000000000000000000000000400000, 0, 0x8⟩

theorem Does.paramConfirm {G : Foot} {z s : State} (h : Does G z s) (hg : Foot.paramConfirm.leB G = true) (d : Nat) : Does G z (State.paramConfirm s d) := by
  unfold State.paramConfirm
  with_reducible repeat' first
    | assumption | refine Does.setDelta ?_ (Foot.up hg (by decide)) _ | refine Does.deltaReady ?_ (Foot.up hg (by decide))
    | (dsimp -zeta only) | refine Does.ite ?_ ?_ | refine Does.ite_snd ?_ ?_ | refine Foot.pick ?_ ?_ | split

def Foot.levelsFall : Foot := ⟨0x100000000000000000, 0, 0x10⟩

theorem Does.levelsFall {G : Foot} {z s : State} (h : Does G z s) (hg : Foot.levelsFall.leB G = true) (d : Nat) : Does G z (State.levelsFall s d) := by
  unfold State.levelsFall
  with_reducible repeat' first
    | assumption | (refine Does.each ?_ _ _ fun _ _ _ _ => ?_) | refine Does.evtClear ?_ (Foot.up hg (by decide)) _ _

def Foot.fenceDone : Foot := ⟨0x34070040FFFFFFFFFFFD910060B007FDFFF30200179C00C00868, 0x3B85FE24637F8613D0000008023FCFC0FFC1FFFFE070D0010FF1AF8BFFF601801FFFFFFFFFF8060083C1FFEFF7, 0x450F2⟩

theorem Does.fenceDone {G : Foot} {z s : State} (h : Does G z s) (hg : Foot.fenceDone.leB G = true) (e : ChEnd) (bad : Bool) : Does G z (State.fenceDone s e bad) := by
  unfold State.fenceDone
  with_reducible repeat' first
    | assumption
    | (extract_lets +onlyGivenNames a; first | (refine (fun (k : Does G z a) => ?_) ?_; rotate_left; unfold a; clear a; rotate_left; clear_value a; revert a; intros) | (clear_value a; revert a; intros))
    | refine Does.setV ?_ ?_ _ _ _ | (refine Does.when ?_ _ _ fun _ _ => ?_)
    | refine Does.resumeEnd ?_ (Foot.up hg (by decide)) _ | refine Does.resumeUp ?_ (Foot.up hg (by decide))
    | refine Does.pkgRun ?_ (Foot.up hg (by decide)) | refine Does.fenceProgress ?_ (Foot.up hg (by decide)) _
    | exact Foot.upV hg (by decide) | (dsimp -zeta only) | refine Does.ite ?_ ?_

def Foot.fenceCut : Foot := ⟨0x34070040FFFFFFFFFFFD910060B007FDFFF30200179C00C00868, 0x3B85FE24637F8613D0000008023FCFC0FFC1FFFFE070D0010FF1AF8BFFF601801FFFFFFFFFF8060083C1FFEFF7, 0x450F2⟩

theorem Does.fenceCut {G : Foot} {z s : State} (h : Does G z s) (hg : Foot.fenceCut.leB G = true) (e : ChEnd) (was : Nat) : Does G z (State.fenceCut s e was) := by
  unfold State.fenceCut
  with_reducible repeat' first
    | assumption | refine Does.fenceDone ?_ (Foot.up hg (by decide)) _ _ | (dsimp -zeta only) | refine Does.ite ?_ ?_

def Foot.deltaFall : Foot := ⟨0x10000002000000000000000000000000000000400000, 0x8000000000000000000000000000000000000000000000000000000000000000000001000, 0x8⟩

theorem Does.deltaFall {G : Foot} {z s : State} (h : Does G z s) (hg : Foot.deltaFall.leB G = true) (d : Nat) : Does G z (State.deltaFall s d) := by
  unfold State.deltaFall
  with_reducible repeat' first
    | assumption
    | (extract_lets +onlyGivenNames a; first | (refine (fun (k : Does G z a) => ?_) ?_; rotate_left; unfold a; clear a; rotate_left; clear_value a; revert a; intros) | (clear_value a; revert a; intros))
    | refine Does.setV ?_ ?_ _ _ _ | (refine Does.each ?_ _ _ fun _ _ _ _ => ?_)
    | refine Does.deltaAbsent ?_ (Foot.up hg (by decide)) _ | exact Foot.upV hg (by decide)
    | exact Foot.upM hg ‹_ ∈ _› (by decide) | (dsimp -zeta only) | split

def Foot.endForget : Foot := ⟨0, 0x30, 0x40⟩

theorem Does.endForget {G : Foot} {z s : State} (h : Does G z s) (hg : Foot.endForget.leB G = true) (e : ChEnd) : Does G z (State.endForget s e) := by
  unfold State.endForget
  with_reducible repeat' first
    | assumption
    | (extract_lets +onlyGivenNames a; first | (refine (fun (k : Does G z a) => ?_) ?_; rotate_left; unfold a; clear a; rotate_left; clear_value a; revert a; intros) | (clear_value a; revert a; intros))
    | refine Does.setV ?_ ?_ _ _ _ | exact Foot.upV hg (by decide) | (dsimp -zeta only) | split
    | refine Does.snd ‹_ = (_, _)› ?_
    | (refine Does.mk' ?_ rfl rfl rfl rfl rfl rfl rfl rfl rfl rfl ?_; rotate_left; intro p hn; cases p <;> first | with_unfolding_all rfl | exact Foot.noP hg (by decide) hn)

def Foot.parentLeaves : Foot := ⟨0x34070040FFFFFFFFFFFD910060F007FDFFF30200179C00C00868, 0x3B85FE24637F8613D8040008023FCFC0FFC1FFFFE070D0010FF1AF8BFFF601801FFFFFFFFFF8060083C1FFFFF7, 0x450FA⟩

theorem Does.parentLeaves {G : Foot} {z s : State} (h : Does G z s) (hg : Foot.parentLeaves.leB G = true) (e : ChEnd) (st : Nat) : Does G z (State.parentLeaves s e st) := by
  unfold State.parentLeaves
  with_reducible repeat' first
    | assumption
    | (extract_lets +onlyGivenNames a; first | (refine (fun (k : Does G z a) => ?_) ?_; rotate_left; unfold a; clear a; rotate_left; clear_value a; revert a; intros) | (clear_value a; revert a; intros))
    | refine Does.setV ?_ ?_ _ _ _ | (refine Does.each ?_ _ _ fun _ _ _ _ => ?_)
    | refine Does.chW ?_ (Foot.up hg (by decide)) _ _ _ | refine Does.endForget ?_ (Foot.up hg (by decide)) _
    | refine Does.footShift ?_ (Foot.up hg (by decide)) _ (fun _ _ => ?_)
    | refine Does.fenceCut ?_ (Foot.up hg (by decide)) _ _ | refine Does.guardAll ?_ (Foot.up hg (by decide)) _
    | refine Does.deltaFall ?_ (Foot.up hg (by decide)) _ | refine Does.upChanged ?_ (Foot.up hg (by decide)) _
    | refine Does.gbAll ?_ (Foot.up hg (by decide)) | exact Foot.upV hg (by decide) | exact Foot.upM hg ‹_ ∈ _› (by decide)
    | (dsimp -zeta only) | refine Does.ite ?_ ?_ | refine Does.ite_snd ?_ ?_ | refine Foot.pick ?_ ?_ | split

def Foot.endDown : Foot := ⟨0x3CB70043FFFFFFFFFFFD910060F007FDFFF30200179C00C22868, 0x3B85FE24637F8613D8040008023FCFC0FFC1FFFFEDF0D0A30FF5AF8BFFF601E01FFFFFFFFFF8060083C1FFFFF7, 0x45CFA⟩

theorem Does.endDown {G : Foot} {z s : State} (h : Does G z s) (hg : Foot.endDown.leB G = true) (e : ChEnd) : Does G z (State.endDown s e) := by
  unfold State.endDown
  with_reducible repeat' first
    | assumption
    | (extract_lets +onlyGivenNames a; first | (refine (fun (k : Does G z a) => ?_) ?_; rotate_left; unfold a; clear a; rotate_left; clear_value a; revert a; intros) | (clear_value a; revert a; intros))
    | refine Does.setV ?_ ?_ _ _ _ | refine Does.chW ?_ (Foot.up hg (by decide)) _ _ _
    | refine Does.parentLeaves ?_ (Foot.up hg (by decide)) _ _ | refine Does.laneDrop ?_ (Foot.up hg (by decide)) _
    | refine Does.syncAbsent ?_ (Foot.up hg (by decide)) _ | refine Does.syncFlush ?_ (Foot.up hg (by decide))
    | refine Does.levelsFall ?_ (Foot.up hg (by decide)) _ | refine Does.endForget ?_ (Foot.up hg (by decide)) _
    | exact Foot.upV hg (by decide) | (dsimp -zeta only) | refine Does.ite ?_ ?_ | refine Does.ite_snd ?_ ?_
    | refine Foot.pick ?_ ?_ | split

def Foot.islandFell : Foot := ⟨0xFFFFFFFFFFFD8000000001FDFFE00000000000000020, 0x3B81FC00207F0613C0000000003FCFC0FF8001FEC000100000000003FFF600001FFFFFFFFFF8000003C1FFEFF0, 0x40C0⟩

theorem Does.islandFell {G : Foot} {z s : State} (h : Does G z s) (hg : Foot.islandFell.leB G = true) (d : Nat) : Does G z (State.islandFell s d) := by
  unfold State.islandFell
  with_reducible repeat' first
    | assumption | refine Does.setV ?_ ?_ _ _ _ | (refine Does.each ?_ _ _ fun _ _ _ _ => ?_)
    | refine Does.islandClear ?_ (Foot.up hg (by decide)) _ _ | exact Foot.upV hg (by decide)

def Foot.linkStep : Foot := ⟨0x3407004010006003E10000000060000000130200078000400840, 0x240000000000000904000000000000000000040070C001000000800006018000040000000000000000020037, 0x400F8⟩

theorem Does.linkStep {G : Foot} {z s : State} (h : Does G z s) (hg : Foot.linkStep.leB G = true) (e : ChEnd) (again : State → State) (hagain : ∀ x0, Does G z x0 → Does G z (again x0)) : Does G z (State.linkStep s e again) := by
  unfold State.linkStep
  with_reducible repeat' first
    | assumption
    | (extract_lets +onlyGivenNames a; first | (refine (fun (k : Does G z a) => ?_) ?_; rotate_left; unfold a; clear a; rotate_left; clear_value a; revert a; intros) | ((have b : State → State := a; clear b); unfold a; clear a) | (clear_value a; revert a; intros))
    | refine Does.setV ?_ ?_ _ _ _ | (refine Does.each ?_ _ _ fun _ _ _ _ => ?_)
    | refine Does.chW ?_ (Foot.up hg (by decide)) _ _ _ | refine Does.endForget ?_ (Foot.up hg (by decide)) _
    | refine Does.footShift ?_ (Foot.up hg (by decide)) _ (fun _ _ => ?_) | refine Does.footTake ?_ (Foot.up hg (by decide)) _
    | refine Does.grantAll ?_ (Foot.up hg (by decide)) _ | refine Does.needRecompute ?_ (Foot.up hg (by decide)) _ _
    | refine Does.gbAll ?_ (Foot.up hg (by decide)) | refine Does.deltaSend ?_ (Foot.up hg (by decide)) _
    | refine Does.fieldsSend ?_ (Foot.up hg (by decide)) _ | refine Does.winBreak ?_ (Foot.up hg (by decide)) _
    | refine Does.chInc ?_ (Foot.up hg (by decide)) _ _ _ | refine hagain _ ?_ | exact Foot.upV hg (by decide)
    | exact Foot.upM hg ‹_ ∈ _› (by decide) | (dsimp -zeta only) | refine Does.ite ?_ ?_ | refine Does.ite_snd ?_ ?_
    | refine Foot.pick ?_ ?_ | split

def Foot.helloAgain : Foot := ⟨0x400000, 0x20000000000000000000000000000000000000000000000000000000000000000000000000000, 0⟩

theorem Does.helloAgain {G : Foot} {z s : State} (h : Does G z s) (hg : Foot.helloAgain.leB G = true) (e : ChEnd) : Does G z (State.helloAgain s e) := by
  unfold State.helloAgain
  with_reducible repeat' first
    | assumption | refine Does.sayHello ?_ (Foot.up hg (by decide)) _ _

def Foot.helloTake : Foot := ⟨0x3407004010006003E10000000060000000130200078000400840, 0x240000000002000904000000000000000000040070C001000000800006018000040000000000000000020037, 0x400F8⟩

theorem Does.helloTake {G : Foot} {z s : State} (h : Does G z s) (hg : Foot.helloTake.leB G = true) (e : ChEnd) (far : Nat) : Does G z (State.helloTake s e far) := by
  unfold State.helloTake
  with_reducible repeat' first
    | assumption | refine Does.helloAck ?_ (Foot.up hg (by decide)) _ _
    | refine Does.linkStep ?_ (Foot.up hg (by decide)) _ _ (fun _ _ => ?_)
    | refine Does.helloAgain ?_ (Foot.up hg (by decide)) _

def Foot.fenceTake : Foot := ⟨0x3407004010002003E000000020000611F8130200079C00400840, 0x40000000700004000000000000000000000000070C001000080000006018000000000000000000000000F07, 0x410F0⟩

theorem Does.fenceTake {G : Foot} {z s : State} (h : Does G z s) (hg : Foot.fenceTake.leB G = true) (d : Nat) (scope : Nat) (id : Nat) : Does G z (State.fenceTake s d scope id) := by
  unfold State.fenceTake
  with_reducible repeat' first
    | assumption
    | (extract_lets +onlyGivenNames a; first | (refine (fun (k : Does G z a) => ?_) ?_; rotate_left; unfold a; clear a; rotate_left; clear_value a; revert a; intros) | (clear_value a; revert a; intros))
    | refine Does.setV ?_ ?_ _ _ _ | (refine Does.when ?_ _ _ fun _ _ => ?_) | (refine Does.each ?_ _ _ fun _ _ _ _ => ?_)
    | refine Does.fenceIssue ?_ (Foot.up hg (by decide)) _ _ | refine Does.fenceProgress ?_ (Foot.up hg (by decide)) _
    | exact Foot.upV hg (by decide)

def Foot.cntRemoved : Foot := ⟨0x40000000000000000000000000000000000000000000, 0x140000000000000000000000000000000000000000000000000000000000000, 0⟩

theorem Does.cntRemoved {G : Foot} {z s : State} (h : Does G z s) (hg : Foot.cntRemoved.leB G = true) (l : Nat) (slot : Nat) (removed : List (Nat × Nat)) : Does G z (State.cntRemoved s l slot removed) := by
  unfold State.cntRemoved
  with_reducible repeat' first
    | assumption
    | (extract_lets +onlyGivenNames a; first | (refine (fun (k : Does G z a) => ?_) ?_; rotate_left; unfold a; clear a; rotate_left; clear_value a; revert a; intros) | (clear_value a; revert a; intros))
    | (refine Does.each ?_ _ _ fun _ _ _ _ => ?_) | refine Does.cntAdd ?_ (Foot.up hg (by decide)) _ _ _ _ _

def Foot.upMsg : Foot := ⟨0x7004010000002000000000000000000130200008000400000, 0x7, 0x30⟩

theorem Does.upMsg {G : Foot} {z s : State} (h : Does G z s) (hg : Foot.upMsg.leB G = true) (e : ChEnd) (tag : Nat) (rsvd : Bool) (f : Nat → Nat → State → State) (hf : ∀ x0 x1 x2, Does G z x2 → Does G z (f x0 x1 x2)) : Does G z (State.upMsg s e tag rsvd f) := by
  unfold State.upMsg
  with_reducible repeat' first
    | assumption | refine Does.deliver ?_ (Foot.up hg (by decide)) _ _ _ (fun _ _ => ?_)
    | refine Does.evFrom ?_ (Foot.up hg (by decide)) _ _ _ _ _ | refine hf _ _ _ ?_ | (dsimp -zeta only)
    | refine Does.ite ?_ ?_ | refine Does.ite_snd ?_ ?_ | refine Foot.pick ?_ ?_ | split

def Foot.pkgFast : Foot := ⟨0, 0x1800000000000000000000000000, 0⟩

theorem Does.pkgFast {G : Foot} {z s : State} (h : Does G z s) (hg : Foot.pkgFast.leB G = true) (slot : Nat) : Does G z (State.pkgFast s slot) := by
  unfold State.pkgFast
  with_reducible repeat' first
    | assumption
    | (extract_lets +onlyGivenNames a; first | (refine (fun (k : Does G z a) => ?_) ?_; rotate_left; unfold a; clear a; rotate_left; clear_value a; revert a; intros) | (clear_value a; revert a; intros))
    | refine Does.addV ?_ ?_ _ _ _ | exact Foot.upV hg (by decide)

def Foot.estFrames : Foot := ⟨0x7000000000000000000000000000000000000000000000000, 0x1000000000000000000000000000000000000000000000000000000000000000007, 0x20⟩

theorem Does.estFrames {G : Foot} {z s : State} (h : Does G z s) (hg : Foot.estFrames.leB G = true) : Does G z (State.estFrames s) := by
  unfold State.estFrames
  with_reducible repeat' first
    | assumption
    | (extract_lets +onlyGivenNames a; first | (refine (fun (k : Does G z a) => ?_) ?_; rotate_left; unfold a; clear a; rotate_left; clear_value a; revert a; intros) | (clear_value a; revert a; intros))
    | refine Does.setV ?_ ?_ _ _ _ | (refine Does.each ?_ _ _ fun _ _ _ _ => ?_)
    | refine Does.frame ?_ (Foot.up hg (by decide)) _ _ _ _ _ _ | exact Foot.upV hg (by decide)
    | exact Foot.upM hg ‹_ ∈ _› (by decide) | (dsimp -zeta only) | refine Does.ite ?_ ?_

def Foot.slotSum : Foot := ⟨0x70000100000020000000C0000000000000000000000400000, 0x1000000001000000000000000000000000000000000000001800000000000000000006000007, 0x20⟩

theorem Does.slotSum {G : Foot} {z s : State} (h : Does G z s) (hg : Foot.slotSum.leB G = true) (d : Nat) (slot : Nat) : Does G z (State.slotSum s d slot) := by
  unfold State.slotSum
  with_reducible repeat' first
    | assumption
    | (extract_lets +onlyGivenNames a; first | (refine (fun (k : Does G z a) => ?_) ?_; rotate_left; unfold a; clear a; rotate_left; clear_value a; revert a; intros) | (clear_value a; revert a; intros))
    | refine Does.setV ?_ ?_ _ _ _ | refine Does.hubSlotEst ?_ (Foot.up hg (by decide)) _
    | refine Does.pkgFast ?_ (Foot.up hg (by decide)) _ | refine Does.estFrames ?_ (Foot.up hg (by decide))
    | refine Does.nodeSlot ?_ (Foot.up hg (by decide)) _ _ | exact Foot.upV hg (by decide) | (dsimp -zeta only)
    | refine Does.ite ?_ ?_

def Foot.edpRun : Foot := ⟨0x7004000000000000000000000000000130200008000000040, 0x1800000000000000000000000007, 0x30⟩

theorem Does.edpRun {G : Foot} {z s : State} (h : Does G z s) (hg : Foot.edpRun.leB G = true) (j : Nat) : Does G z (State.edpRun s j) := by
  unfold State.edpRun
  with_reducible repeat' first
    | assumption
    | (extract_lets +onlyGivenNames a; first | (refine (fun (k : Does G z a) => ?_) ?_; rotate_left; unfold a; clear a; rotate_left; clear_value a; revert a; intros) | (clear_value a; revert a; intros))
    | refine Does.wr ?_ ?_ _ _ _ | refine Does.dropV ?_ ?_ _ _ | refine Does.event ?_ (Foot.up hg (by decide)) _ _
    | exact Foot.upR hg (by decide) | exact Foot.upV hg (by decide) | (dsimp -zeta only) | refine Does.ite ?_ ?_

def Foot.gEnergy : Foot := ⟨0x4000000000000000000000000000000000000000000000, 0x10000000000000000000000000000000000000000000000000000000000000000, 0⟩

theorem Does.gEnergy {G : Foot} {z s : State} (h : Does G z s) (hg : Foot.gEnergy.leB G = true) (i : Nat) (nj : Int) : Does G z (State.gEnergy s i nj) := by
  unfold State.gEnergy
  with_reducible repeat' first
    | assumption
    | (extract_lets +onlyGivenNames a; first | (refine (fun (k : Does G z a) => ?_) ?_; rotate_left; unfold a; clear a; rotate_left; clear_value a; revert a; intros) | (clear_value a; revert a; intros))
    | refine Does.wr ?_ ?_ _ _ _ | refine Does.addV ?_ ?_ _ _ _ | exact Foot.upR hg (by decide) | exact Foot.upV hg (by decide)

def Foot.ivCounters : Foot := ⟨0x4000000000000002000000000000000000000000000000, 0x10000000000000000000000000800000000000000000000000000000000000000, 0⟩

theorem Does.ivCounters {G : Foot} {z s : State} (h : Does G z s) (hg : Foot.ivCounters.leB G = true) : Does G z (State.ivCounters s) := by
  unfold State.ivCounters
  with_reducible repeat' first
    | assumption
    | (extract_lets +onlyGivenNames a; first | (refine (fun (k : Does G z a) => ?_) ?_; rotate_left; unfold a; clear a; rotate_left; clear_value a; revert a; intros) | (clear_value a; revert a; intros))
    | refine Does.wr ?_ ?_ _ _ _ | (refine Does.each ?_ _ _ fun _ _ _ _ => ?_)
    | refine Does.gEnergy ?_ (Foot.up hg (by decide)) _ _ | refine Does.addV ?_ ?_ _ _ _
    | refine Does.gCount ?_ (Foot.up hg (by decide)) _ _ | exact Foot.upR hg (by decide) | exact Foot.upV hg (by decide)

def Foot.ctxEnergy : Foot := ⟨0x20000000000000000000000000000000000000000000000, 0x8000000000000000000000000000000000000000000000000000000000000000, 0x42000⟩

theorem Does.ctxEnergy {G : Foot} {z s : State} (h : Does G z s) (hg : Foot.ctxEnergy.leB G = true) (from_ : Nat) : Does G z (State.ctxEnergy s from_) := by
  unfold State.ctxEnergy
  with_reducible repeat' first
    | assumption
    | (extract_lets +onlyGivenNames a; first | (refine (fun (k : Does G z a) => ?_) ?_; rotate_left; unfold a; clear a; rotate_left; clear_value a; revert a; intros) | (clear_value a; revert a; intros))
    | refine Does.wr ?_ ?_ _ _ _ | (refine Does.each ?_ _ _ fun _ _ _ _ => ?_) | refine Does.addV ?_ ?_ _ _ _
    | exact Foot.upR hg (by decide) | exact Foot.upV hg (by decide) | exact Foot.upM hg ‹_ ∈ _› (by decide)
    | (dsimp -zeta only) | refine Does.ite ?_ ?_ | refine Does.ite_snd ?_ ?_ | refine Foot.pick ?_ ?_ | split
    | refine Does.snd ‹_ = (_, _)› ?_
    | (refine Does.mk' ?_ rfl rfl rfl rfl rfl rfl rfl rfl rfl rfl ?_; rotate_left; intro p hn; cases p <;> first | with_unfolding_all rfl | exact Foot.noP hg (by decide) hn)

def Foot.countFrames : Foot := ⟨0x7000000000000000000000000000000000000000000000000, 0x7, 0x20⟩

theorem Does.countFrames {G : Foot} {z s : State} (h : Does G z s) (hg : Foot.countFrames.leB G = true) : Does G z (State.countFrames s) := by
  unfold State.countFrames
  with_reducible repeat' first
    | assumption | (refine Does.each ?_ _ _ fun _ _ _ _ => ?_) | refine Does.frame ?_ (Foot.up hg (by decide)) _ _ _ _ _ _
    | (dsimp -zeta only) | refine Does.ite ?_ ?_

def Foot.hubInterval : Foot := ⟨0x75640000040000100028F0020000000130200008000000040, 0x800008000000001D8000000040000000000000000800840000011FC00400000007FC7CF036000007, 0x42130⟩

theorem Does.hubInterval {G : Foot} {z s : State} (h : Does G z s) (hg : Foot.hubInterval.leB G = true) (j : Nat) : Does G z (State.hubInterval s j) := by
  unfold State.hubInterval
  with_reducible repeat' first
    | assumption
    | (extract_lets +onlyGivenNames a; first | (refine (fun (k : Does G z a) => ?_) ?_; rotate_left; unfold a; clear a; rotate_left; clear_value a; revert a; intros) | (clear_value a; revert a; intros))
    | refine Does.setV ?_ ?_ _ _ _ | (refine Does.when ?_ _ _ fun _ _ => ?_) | (refine Does.each ?_ _ _ fun _ _ _ _ => ?_)
    | refine Does.railInterval ?_ (Foot.up hg (by decide)) _ _ | refine Does.railDone ?_ (Foot.up hg (by decide)) _ _
    | refine Does.addV ?_ ?_ _ _ _ | refine Does.ivCounters ?_ (Foot.up hg (by decide))
    | refine Does.ctxEnergy ?_ (Foot.up hg (by decide)) _ | refine Does.smpWatch ?_ (Foot.up hg (by decide)) _
    | refine Does.edpRun ?_ (Foot.up hg (by decide)) _ | refine Does.vfRun ?_ (Foot.up hg (by decide))
    | refine Does.countFrames ?_ (Foot.up hg (by decide)) | exact Foot.upV hg (by decide)

def Foot.kneadRst : Foot := ⟨0x10000062000000700000000000000000000000400000, 0x1000000000000000000000000000000000000000000000000000000000000000000000070000000000, 0x40⟩

theorem Does.kneadRst {G : Foot} {z s : State} (h : Does G z s) (hg : Foot.kneadRst.leB G = true) (r : Nat) : Does G z (State.kneadRst s r).2 := by
  unfold State.kneadRst
  with_reducible repeat' first
    | assumption
    | (extract_lets +onlyGivenNames a; first | (refine (fun (k : Does G z a) => ?_) ?_; rotate_left; unfold a; clear a; rotate_left; clear_value a; revert a; intros) | (clear_value a; revert a; intros))
    | refine Does.setV ?_ ?_ _ _ _ | (refine Does.when ?_ _ _ fun _ _ => ?_)
    | refine Does.kneadReset ?_ (Foot.up hg (by decide)) _ | refine Does.thetaSend ?_ (Foot.up hg (by decide)) _
    | refine Does.kneadTouch ?_ (Foot.up hg (by decide)) _ _ | exact Foot.upV hg (by decide) | (dsimp -zeta only)
    | refine Does.ite ?_ ?_ | refine Does.ite_snd ?_ ?_

def Foot.downMsg : Foot := ⟨0x7004010000002000000000000000000130200008000400000, 0x7, 0x30⟩

theorem Does.downMsg {G : Foot} {z s : State} (h : Does G z s) (hg : Foot.downMsg.leB G = true) (e : ChEnd) (tag : Nat) (rsvd : Bool) (f : Nat → State → State) (hf : ∀ x0 x1, Does G z x1 → Does G z (f x0 x1)) : Does G z (State.downMsg s e tag rsvd f) := by
  unfold State.downMsg
  with_reducible repeat' first
    | assumption | refine Does.deliver ?_ (Foot.up hg (by decide)) _ _ _ (fun _ _ => ?_)
    | refine Does.evFrom ?_ (Foot.up hg (by decide)) _ _ _ _ _ | refine hf _ _ ?_ | (dsimp -zeta only) | refine Does.ite ?_ ?_

def Foot.budgetOn : Foot := ⟨0x10000002000000000000000000000000000000400000, 0, 0⟩

theorem Does.budgetOn {G : Foot} {z s : State} (h : Does G z s) (hg : Foot.budgetOn.leB G = true) (d : Nat) (dest : Nat) (payload : Nat) : Does G z (State.budgetOn s d dest payload) := by
  unfold State.budgetOn
  with_reducible repeat' first
    | assumption | refine Does.sendDown ?_ (Foot.up hg (by decide)) _ _ _ | (dsimp -zeta only) | split

def Foot.shareHold : Foot := ⟨0, 0x100000000000000000000, 0⟩

theorem Does.shareHold {G : Foot} {z s : State} (h : Does G z s) (hg : Foot.shareHold.leB G = true) (l : Nat) (q : Nat) (b : Bool) : Does G z (State.shareHold s l q b) := by
  unfold State.shareHold
  with_reducible repeat' first
    | assumption | refine Does.setV ?_ ?_ _ _ _ | (refine Does.each ?_ _ _ fun _ _ _ _ => ?_) | exact Foot.upV hg (by decide)

def Foot.gateFlag : Foot := ⟨0x7004010000002000000000000000000130200008000400000, 0x7, 0x30⟩

theorem Does.gateFlag {G : Foot} {z s : State} (h : Does G z s) (hg : Foot.gateFlag.leB G = true) (l : Nat) (q : Nat) : Does G z (State.gateFlag s l q) := by
  unfold State.gateFlag
  with_reducible repeat' first
    | assumption
    | (extract_lets +onlyGivenNames a; first | (refine (fun (k : Does G z a) => ?_) ?_; rotate_left; unfold a; clear a; rotate_left; clear_value a; revert a; intros) | (clear_value a; revert a; intros))
    | refine Does.evFrom ?_ (Foot.up hg (by decide)) _ _ _ _ _

def Foot.faultClear : Foot := ⟨0x7004050407602000000000000000000130200008000400000, 0x180000000000140000000000000000000000000000070000000C003C0000000000000000007, 0x30⟩

theorem Does.faultClear {G : Foot} {z s : State} (h : Does G z s) (hg : Foot.faultClear.leB G = true) (l : Nat) (q : Nat) (low : Bool) : Does G z (State.faultClear s l q low) := by
  unfold State.faultClear
  with_reducible repeat' first
    | assumption
    | (extract_lets +onlyGivenNames a; first | (refine (fun (k : Does G z a) => ?_) ?_; rotate_left; unfold a; clear a; rotate_left; clear_value a; revert a; intros) | (clear_value a; revert a; intros))
    | refine Does.wr ?_ ?_ _ _ _ | refine Does.setV ?_ ?_ _ _ _ | refine Does.shareHold ?_ (Foot.up hg (by decide)) _ _ _
    | refine Does.convert ?_ (Foot.up hg (by decide)) _ | refine Does.gateEff ?_ (Foot.up hg (by decide)) _ _
    | refine Does.gateFlag ?_ (Foot.up hg (by decide)) _ _ | exact Foot.upR hg (by decide) | exact Foot.upV hg (by decide)
    | refine Foot.sgF ?_ ?_ | (dsimp -zeta only) | refine Does.ite ?_ ?_

def Foot.cntTake : Foot := ⟨0x40402000000000000000000000000000000000000000, 0x2000000180000000000140000000000000000000000000000070000000800000000000000000000000, 0x4000⟩

theorem Does.cntTake {G : Foot} {z s : State} (h : Does G z s) (hg : Foot.cntTake.leB G = true) (l : Nat) (reps : List Rep) : Does G z (State.cntTake s l reps) := by
  unfold State.cntTake
  with_reducible repeat' first
    | assumption
    | (extract_lets +onlyGivenNames a; first | (refine (fun (k : Does G z a) => ?_) ?_; rotate_left; unfold a; clear a; rotate_left; clear_value a; revert a; intros) | (clear_value a; revert a; intros))
    | refine Does.repMark ?_ (Foot.up hg (by decide)) _ _ | refine Does.cntActs ?_ (Foot.up hg (by decide)) _ _
    | refine Does.leafAcct ?_ (Foot.up hg (by decide)) _ | (dsimp -zeta only) | split | refine Does.snd ‹_ = (_, _)› ?_
    | (refine Does.mk' ?_ rfl rfl rfl rfl rfl rfl rfl rfl rfl rfl ?_; rotate_left; intro p hn; cases p <;> first | with_unfolding_all rfl | exact Foot.noP hg (by decide) hn)

def Foot.leafReports : Foot := ⟨0x10000002000000000000000000000000000000400000, 0, 0⟩

theorem Does.leafReports {G : Foot} {z s : State} (h : Does G z s) (hg : Foot.leafReports.leB G = true) (l : Nat) (lk : Nat) (ctx : Nat) (seq : Nat) (late : Bool) (c : List (Nat × Nat × Nat)) : Does G z (State.leafReports s l lk ctx seq late c) := by
  unfold State.leafReports
  with_reducible repeat' first
    | assumption
    | (extract_lets +onlyGivenNames a; first | (refine (fun (k : Does G z a) => ?_) ?_; rotate_left; unfold a; clear a; rotate_left; clear_value a; revert a; intros) | (clear_value a; revert a; intros))
    | (refine Does.each ?_ _ _ fun _ _ _ _ => ?_) | refine Does.sendUp ?_ (Foot.up hg (by decide)) _ _ _

def Foot.latchTake : Foot := ⟨0xC0402000000000000000000000000000000000000000, 0x380000000000140000000000000000000000000000070000000800000000000000000000000, 0⟩

theorem Does.latchTake {G : Foot} {z s : State} (h : Does G z s) (hg : Foot.latchTake.leB G = true) (l : Nat) (w : Nat) : Does G z (State.latchTake s l w) := by
  unfold State.latchTake
  with_reducible repeat' first
    | assumption
    | (extract_lets +onlyGivenNames a; first | (refine (fun (k : Does G z a) => ?_) ?_; rotate_left; unfold a; clear a; rotate_left; clear_value a; revert a; intros) | (clear_value a; revert a; intros))
    | refine Does.dropV ?_ ?_ _ _ | refine Does.setV ?_ ?_ _ _ _ | refine Does.setReg ?_ ?_ _ _ _
    | (refine Does.each ?_ _ _ fun _ _ _ _ => ?_) | refine Does.leafAcct ?_ (Foot.up hg (by decide)) _
    | refine Does.addV ?_ ?_ _ _ _ | exact Foot.upR hg (by decide) | exact Foot.upV hg (by decide)

def Foot.counterSend : Foot := ⟨0x10000002000000000000000000000000000000400000, 0x2C00000000000000000000000000000000000000000000000000000000000000, 0⟩

theorem Does.counterSend {G : Foot} {z s : State} (h : Does G z s) (hg : Foot.counterSend.leB G = true) (n : Nat) (lk : Nat) (ctx : Nat) (seq : Nat) : Does G z (State.counterSend s n lk ctx seq) := by
  unfold State.counterSend
  with_reducible repeat' first
    | assumption
    | (extract_lets +onlyGivenNames a; first | (refine (fun (k : Does G z a) => ?_) ?_; rotate_left; unfold a; clear a; rotate_left; clear_value a; revert a; intros) | (clear_value a; revert a; intros))
    | refine Does.setV ?_ ?_ _ _ _ | (refine Does.each ?_ _ _ fun _ _ _ _ => ?_)
    | refine Does.sendUp ?_ (Foot.up hg (by decide)) _ _ _ | exact Foot.upV hg (by decide)

def Foot.counterForget : Foot := ⟨0, 0x3000000000000000000000000000000000000000000000000000000000000000, 0⟩

theorem Does.counterForget {G : Foot} {z s : State} (h : Does G z s) (hg : Foot.counterForget.leB G = true) (d : Nat) (child : Nat) (lk : Nat) (ctx : Nat) (seq : Nat) : Does G z (State.counterForget s d child lk ctx seq) := by
  unfold State.counterForget
  with_reducible repeat' first
    | assumption
    | (extract_lets +onlyGivenNames a; first | (refine (fun (k : Does G z a) => ?_) ?_; rotate_left; unfold a; clear a; rotate_left; clear_value a; revert a; intros) | (clear_value a; revert a; intros))
    | refine Does.setV ?_ ?_ _ _ _ | exact Foot.upV hg (by decide) | (dsimp -zeta only) | refine Does.ite ?_ ?_

def Foot.counterNode : Foot := ⟨0x10000002000000000000000000000000000000400000, 0x3C00000000000000000000000000000000000000000000000000000000000000, 0⟩

theorem Does.counterNode {G : Foot} {z s : State} (h : Does G z s) (hg : Foot.counterNode.leB G = true) (n : Nat) (c : Nat) (lk : Nat) (cidx : Nat) (slot : Nat) (seq : Nat) (nleaf : Nat) (delta : Nat) : Does G z (State.counterNode s n c lk cidx slot seq nleaf delta) := by
  unfold State.counterNode
  with_reducible repeat' first
    | assumption
    | (extract_lets +onlyGivenNames a; first | (refine (fun (k : Does G z a) => ?_) ?_; rotate_left; unfold a; clear a; rotate_left; clear_value a; revert a; intros) | (clear_value a; revert a; intros))
    | refine Does.setV ?_ ?_ _ _ _ | refine Does.counterForget ?_ (Foot.up hg (by decide)) _ _ _ _ _
    | refine Does.counterSend ?_ (Foot.up hg (by decide)) _ _ _ _ | refine Does.sendUp ?_ (Foot.up hg (by decide)) _ _ _
    | refine Does.addV ?_ ?_ _ _ _ | exact Foot.upV hg (by decide) | (dsimp -zeta only) | refine Does.ite ?_ ?_

def Foot.smpAdd : Foot := ⟨0, 0xE0000000000000000000000000000, 0⟩

theorem Does.smpAdd {G : Foot} {z s : State} (h : Does G z s) (hg : Foot.smpAdd.leB G = true) (k : Nat) (cidx : Nat) (c : Nat) (delta : Nat) : Does G z (State.smpAdd s k cidx c delta) := by
  unfold State.smpAdd
  with_reducible repeat' first
    | assumption | refine Does.addV ?_ ?_ _ _ _ | exact Foot.upV hg (by decide) | (dsimp -zeta only) | refine Does.ite ?_ ?_

def Foot.winReport : Foot := ⟨0x1C000000000000000000000000000000000000000000000, 0xE0000000000000000000000000000, 0⟩

theorem Does.winReport {G : Foot} {z s : State} (h : Does G z s) (hg : Foot.winReport.leB G = true) (k : Nat) (cidx : Nat) (slot : Nat) (delta : Nat) : Does G z (State.winReport s k cidx slot delta) := by
  unfold State.winReport
  with_reducible repeat' first
    | assumption
    | (extract_lets +onlyGivenNames a; first | (refine (fun (k : Does G z a) => ?_) ?_; rotate_left; unfold a; clear a; rotate_left; clear_value a; revert a; intros) | (clear_value a; revert a; intros))
    | (refine Does.when ?_ _ _ fun _ _ => ?_) | refine Does.gCount ?_ (Foot.up hg (by decide)) _ _
    | refine Does.incWrap ?_ ?_ _ _ _ | refine Does.smpAdd ?_ (Foot.up hg (by decide)) _ _ _ _ | exact Foot.upR hg (by decide)
    | (dsimp -zeta only) | refine Does.ite ?_ ?_ | refine Does.ite_snd ?_ ?_ | refine Foot.pick ?_ ?_ | split

def Foot.latchSet : Foot := ⟨0, 0, 0x2000⟩

theorem Does.latchSet {G : Foot} {z s : State} (h : Does G z s) (hg : Foot.latchSet.leB G = true) (p : LatchPt) : Does G z (State.latchSet s p) := by
  unfold State.latchSet
  with_reducible repeat' first
    | assumption | (dsimp -zeta only) | refine Does.ite ?_ ?_ | refine Does.ite_snd ?_ ?_ | refine Foot.pick ?_ ?_ | split
    | refine Does.snd ‹_ = (_, _)› ?_
    | (refine Does.mk' ?_ rfl rfl rfl rfl rfl rfl rfl rfl rfl rfl ?_; rotate_left; intro p hn; cases p <;> first | with_unfolding_all rfl | exact Foot.noP hg (by decide) hn)

def Foot.counterHub : Foot := ⟨0x1D000000000000000000000000000000000000000000000, 0x30000000000000000000000000000000000E0000000000000000000000000000, 0x2000⟩

theorem Does.counterHub {G : Foot} {z s : State} (h : Does G z s) (hg : Foot.counterHub.leB G = true) (c : Nat) (lk : Nat) (cidx : Nat) (slot : Nat) (seq : Nat) (delta : Nat) : Does G z (State.counterHub s c lk cidx slot seq delta) := by
  unfold State.counterHub
  with_reducible repeat' first
    | assumption
    | (extract_lets +onlyGivenNames a; first | (refine (fun (k : Does G z a) => ?_) ?_; rotate_left; unfold a; clear a; rotate_left; clear_value a; revert a; intros) | (clear_value a; revert a; intros))
    | refine Does.setV ?_ ?_ _ _ _ | (refine Does.when ?_ _ _ fun _ _ => ?_)
    | refine Does.counterForget ?_ (Foot.up hg (by decide)) _ _ _ _ _ | refine Does.latchSet ?_ (Foot.up hg (by decide)) _
    | refine Does.incSat ?_ ?_ _ _ _ | refine Does.winReport ?_ (Foot.up hg (by decide)) _ _ _ _
    | exact Foot.upR hg (by decide) | exact Foot.upV hg (by decide) | (dsimp -zeta only) | refine Does.ite ?_ ?_
    | refine Does.ite_snd ?_ ?_ | refine Foot.pick ?_ ?_ | split

def Foot.latchWrite : Foot := ⟨0x90000002000000000000000000000000001800400000, 0x4000000000000000000000000000000000000000000000000000000000000000, 0x2240⟩

theorem Does.latchWrite {G : Foot} {z s : State} (h : Does G z s) (hg : Foot.latchWrite.leB G = true) (p : Port) (page : Option Nat) (c : Nat) (op : Nat) (k : Nat) (addr : Nat) : Does G z (State.latchWrite s p page c op k addr) := by
  unfold State.latchWrite
  with_reducible repeat' first
    | assumption
    | (extract_lets +onlyGivenNames a; first | (refine (fun (k : Does G z a) => ?_) ?_; rotate_left; unfold a; clear a; rotate_left; clear_value a; revert a; intros) | (clear_value a; revert a; intros))
    | refine Does.deadAnswer ?_ (Foot.up hg (by decide)) _ | refine Does.latchOp ?_ (Foot.up hg (by decide)) _ _ _ _
    | refine Does.answer ?_ (Foot.up hg (by decide)) _ _ _ _ _ | (dsimp -zeta only) | refine Does.ite ?_ ?_
    | refine Does.ite_snd ?_ ?_ | refine Foot.pick ?_ ?_ | split

def Foot.telBody : Foot := ⟨0, 0xE00000000000000000000000000000000000000000000000000000000000000000, 0x40000⟩

theorem Does.telBody {G : Foot} {z s : State} (h : Does G z s) (hg : Foot.telBody.leB G = true) : Does G z (State.telBody s).2 := by
  unfold State.telBody
  with_reducible repeat' first
    | assumption
    | (extract_lets +onlyGivenNames a; first | (refine (fun (k : Does G z a) => ?_) ?_; rotate_left; unfold a; clear a; rotate_left; clear_value a; revert a; intros) | (clear_value a; revert a; intros))
    | refine Does.freshFree ?_ (Foot.upP hg (by decide)) | (dsimp -zeta only) | refine Does.ite ?_ ?_
    | refine Does.ite_snd ?_ ?_ | refine Foot.pick ?_ ?_ | split

def Foot.ringAWrite : Foot := ⟨0x75C4000000000000000000000000000130200008000000000, 0x7, 0x130⟩

theorem Does.ringAWrite {G : Foot} {z s : State} (h : Does G z s) (hg : Foot.ringAWrite.leB G = true) (n : Nat) (w : Nat) : Does G z (State.ringAWrite s n w).2 := by
  unfold State.ringAWrite
  with_reducible repeat' first
    | assumption
    | (extract_lets +onlyGivenNames a; first | (refine (fun (k : Does G z a) => ?_) ?_; rotate_left; unfold a; clear a; rotate_left; clear_value a; revert a; intros) | (clear_value a; revert a; intros))
    | refine Does.wr ?_ ?_ _ _ _ | (refine Does.when ?_ _ _ fun _ _ => ?_)
    | refine Does.evtClear ?_ (Foot.up hg (by decide)) _ _ | refine Does.ringEnable ?_ (Foot.up hg (by decide)) _
    | exact Foot.upR hg (by decide) | (dsimp -zeta only) | refine Does.ite ?_ ?_ | refine Does.ite_snd ?_ ?_

def Foot.eventMsg : Foot := ⟨0x3407004010002003E00000000000000000130200078000400840, 0x40000000000000000000000000000000000000070C001000000000006018000000000000000000000000007, 0x400B0⟩

theorem Does.eventMsg {G : Foot} {z s : State} (h : Does G z s) (hg : Foot.eventMsg.leB G = true) (e : ChEnd) (code : Nat) (inst : Nat) (detail : Nat) (lvl : Bool) (rsvd : Bool) : Does G z (State.eventMsg s e code inst detail lvl rsvd) := by
  unfold State.eventMsg
  with_reducible repeat' first
    | assumption
    | (extract_lets +onlyGivenNames a; first | (refine (fun (k : Does G z a) => ?_) ?_; rotate_left; unfold a; clear a; rotate_left; clear_value a; revert a; intros) | (clear_value a; revert a; intros))
    | (refine Does.when ?_ _ _ fun _ _ => ?_) | (refine Does.each ?_ _ _ fun _ _ _ _ => ?_)
    | refine Does.evFrom ?_ (Foot.up hg (by decide)) _ _ _ _ _ | refine Does.grantAll ?_ (Foot.up hg (by decide)) _
    | refine Does.footTake ?_ (Foot.up hg (by decide)) _ | refine Does.needRecompute ?_ (Foot.up hg (by decide)) _ _
    | refine Does.splitAll ?_ (Foot.up hg (by decide)) _ | (dsimp -zeta only) | refine Does.ite ?_ ?_
    | refine Does.ite_snd ?_ ?_ | refine Foot.pick ?_ ?_ | split

def Foot.acknowledge : Foot := ⟨0x100000000000000000, 0, 0x10⟩

theorem Does.acknowledge {G : Foot} {z s : State} (h : Does G z s) (hg : Foot.acknowledge.leB G = true) (k : Nat) : Does G z (State.acknowledge s k).2 := by
  unfold State.acknowledge
  with_reducible repeat' first
    | assumption
    | (extract_lets +onlyGivenNames a; first | (refine (fun (k : Does G z a) => ?_) ?_; rotate_left; unfold a; clear a; rotate_left; clear_value a; revert a; intros) | (clear_value a; revert a; intros))
    | refine Does.wr ?_ ?_ _ _ _ | refine Does.setStack ?_ (Foot.up hg (by decide)) _ _ | exact Foot.upR hg (by decide)
    | (dsimp -zeta only) | refine Does.ite ?_ ?_ | refine Does.ite_snd ?_ ?_ | refine Foot.pick ?_ ?_ | split

def Foot.nestFault : Foot := ⟨0x7004000000000000000000000000000131200008000000000, 0x7, 0x30⟩

theorem Does.nestFault {G : Foot} {z s : State} (h : Does G z s) (hg : Foot.nestFault.leB G = true) (k : Nat) (x : Nat) : Does G z (State.nestFault s k x) := by
  unfold State.nestFault
  with_reducible repeat' first
    | assumption
    | (extract_lets +onlyGivenNames a; first | (refine (fun (k : Does G z a) => ?_) ?_; rotate_left; unfold a; clear a; rotate_left; clear_value a; revert a; intros) | (clear_value a; revert a; intros))
    | refine Does.wr ?_ ?_ _ _ _ | refine Does.incSat ?_ ?_ _ _ _ | refine Does.event ?_ (Foot.up hg (by decide)) _ _
    | exact Foot.upR hg (by decide)

def Foot.complete : Foot := ⟨0x7004000000000000000000000000000131300008000000000, 0xF, 0x30⟩

theorem Does.complete {G : Foot} {z s : State} (h : Does G z s) (hg : Foot.complete.leB G = true) (k : Nat) (x : Nat) : Does G z (State.complete s k x).2 := by
  unfold State.complete
  with_reducible repeat' first
    | assumption
    | (extract_lets +onlyGivenNames a; first | (refine (fun (k : Does G z a) => ?_) ?_; rotate_left; unfold a; clear a; rotate_left; clear_value a; revert a; intros) | (clear_value a; revert a; intros))
    | refine Does.setStack ?_ (Foot.up hg (by decide)) _ _ | refine Does.popped ?_ (Foot.up hg (by decide)) _
    | refine Does.pgSettle ?_ (Foot.up hg (by decide)) | refine Does.nestFault ?_ (Foot.up hg (by decide)) _ _
    | (dsimp -zeta only) | refine Does.ite ?_ ?_ | refine Does.ite_snd ?_ ?_ | refine Foot.pick ?_ ?_ | split

def Foot.popTo : Foot := ⟨0x130300000000000000, 0x8, 0x10⟩

theorem Does.popTo {G : Foot} {z s : State} (h : Does G z s) (hg : Foot.popTo.leB G = true) (k : Nat) (keep : Nat) : Does G z (State.popTo s k keep) := by
  unfold State.popTo
  with_reducible repeat' first
    | assumption
    | (extract_lets +onlyGivenNames a; first | (refine (fun (k : Does G z a) => ?_) ?_; rotate_left; unfold a; clear a; rotate_left; clear_value a; revert a; intros) | (clear_value a; revert a; intros))
    | (refine Does.each ?_ _ _ fun _ _ _ _ => ?_) | refine Does.setStack ?_ (Foot.up hg (by decide)) _ _
    | refine Does.popped ?_ (Foot.up hg (by decide)) _ | refine Does.pgSettle ?_ (Foot.up hg (by decide))

def Foot.recover : Foot := ⟨0x131300000000000000, 0x8, 0x10⟩

theorem Does.recover {G : Foot} {z s : State} (h : Does G z s) (hg : Foot.recover.leB G = true) (k : Nat) (cmd : Nat) (x : Nat) : Does G z (State.recover s k cmd x).2 := by
  unfold State.recover
  with_reducible repeat' first
    | assumption
    | (extract_lets +onlyGivenNames a; first | (refine (fun (k : Does G z a) => ?_) ?_; rotate_left; unfold a; clear a; rotate_left; clear_value a; revert a; intros) | ((have b : State → State := a; clear b); unfold a; clear a) | (clear_value a; revert a; intros))
    | refine Does.wr ?_ ?_ _ _ _ | refine Does.popTo ?_ (Foot.up hg (by decide)) _ _ | exact Foot.upR hg (by decide)
    | (dsimp -zeta only) | refine Does.ite ?_ ?_ | refine Does.ite_snd ?_ ?_ | refine Foot.pick ?_ ?_ | split

def Foot.srcStateWrite : Foot := ⟨0x130000000000000000, 0, 0⟩

theorem Does.srcStateWrite {G : Foot} {z s : State} (h : Does G z s) (hg : Foot.srcStateWrite.leB G = true) (k : Nat) (w : Nat) : Does G z (State.srcStateWrite s k w).2 := by
  unfold State.srcStateWrite
  with_reducible repeat' first
    | assumption
    | (extract_lets +onlyGivenNames a; first | (refine (fun (k : Does G z a) => ?_) ?_; rotate_left; unfold a; clear a; rotate_left; clear_value a; revert a; intros) | (clear_value a; revert a; intros))
    | refine Does.wr ?_ ?_ _ _ _ | (refine Does.when ?_ _ _ fun _ _ => ?_) | refine Does.srcSync ?_ (Foot.up hg (by decide)) _
    | refine Does.setPend ?_ (Foot.up hg (by decide)) _ | exact Foot.upR hg (by decide) | (dsimp -zeta only)
    | refine Does.ite ?_ ?_ | refine Does.ite_snd ?_ ?_

def Foot.srcCfgWrite : Foot := ⟨0x190000000000000000, 0, 0⟩

theorem Does.srcCfgWrite {G : Foot} {z s : State} (h : Does G z s) (hg : Foot.srcCfgWrite.leB G = true) (k : Nat) (w : Nat) : Does G z (State.srcCfgWrite s k w).2 := by
  unfold State.srcCfgWrite
  with_reducible repeat' first
    | assumption
    | (extract_lets +onlyGivenNames a; first | (refine (fun (k : Does G z a) => ?_) ?_; rotate_left; unfold a; clear a; rotate_left; clear_value a; revert a; intros) | (clear_value a; revert a; intros))
    | refine Does.wr ?_ ?_ _ _ _ | refine Does.grpLeave ?_ (Foot.up hg (by decide)) _ _ _ | exact Foot.upR hg (by decide)
    | (dsimp -zeta only) | refine Does.ite ?_ ?_ | refine Does.ite_snd ?_ ?_

def Foot.prigroupSet : Foot := ⟨0x100000000000000, 0, 0⟩

theorem Does.prigroupSet {G : Foot} {z s : State} (h : Does G z s) (hg : Foot.prigroupSet.leB G = true) (g : Nat) : Does G z (State.prigroupSet s g).2 := by
  unfold State.prigroupSet
  with_reducible repeat' first
    | assumption | refine Does.wr ?_ ?_ _ _ _ | exact Foot.upR hg (by decide) | (dsimp -zeta only) | refine Does.ite ?_ ?_
    | refine Does.ite_snd ?_ ?_

def Foot.grpWrite : Foot := ⟨0x110000000000000000, 0, 0⟩

theorem Does.grpWrite {G : Foot} {z s : State} (h : Does G z s) (hg : Foot.grpWrite.leB G = true) (g : Nat) (cnt : Nat) (us : Nat) : Does G z (State.grpWrite s g cnt us).2 := by
  unfold State.grpWrite
  with_reducible repeat' first
    | assumption | refine Does.wr ?_ ?_ _ _ _ | refine Does.grpFire ?_ (Foot.up hg (by decide)) _
    | exact Foot.upR hg (by decide) | (dsimp -zeta only) | refine Does.ite ?_ ?_ | refine Does.ite_snd ?_ ?_


end Sys2Proof.Machine
end

