-- ==== Sys2Proof/Laws/FootF.lean ====
section
/-!
SUPPORT. Does, with its footprint, for the operations of Mirror, RegView, Ident, RegAccess, Command, Facility, Scrub.
-/
set_option linter.tactic.unusedName false
set_option linter.unusedVariables false
set_option linter.unusedTactic false
set_option linter.unreachableTactic false
namespace Sys2Proof.Machine

def Foot.copyTick : Foot := ⟨0, 0, 0x20000⟩

theorem Does.copyTick {G : Foot} {z s : State} (h : Does G z s) (hg : Foot.copyTick.leB G = true) : Does G z (State.copyTick s) :=
  ⟨⟨h.pending, fun c =>
      let k := h.canon c
      { k with tickRegs := KMap.wf_filter _ _ k.regs }⟩,
    h.regs, h.vars, fun p e => Eq.trans (by cases p <;> first | rfl | exact Foot.noP hg (by decide) e) (h.parts p e)⟩

def Foot.copyLazy : Foot := ⟨0, 0x400208000018000000000000000000000000000000000000000000000000000060000000000, 0x20000⟩

theorem Does.copyLazy {G : Foot} {z s : State} (h : Does G z s) (hg : Foot.copyLazy.leB G = true) : Does G z (State.copyLazy s) := by
  unfold State.copyLazy
  refine Does.setV ?_ (Foot.upV hg (by decide)) _ _ _
  exact ⟨⟨h.pending, fun c =>
      let k := h.canon c
      { k with lazyRegs := KMap.wf_filter _ _ k.regs, lazyVars := KMap.wf_filter _ _ k.vars }⟩,
    h.regs, h.vars, fun p e => Eq.trans (by cases p <;> first | rfl | exact Foot.noP hg (by decide) e) (h.parts p e)⟩

def Foot.tickRestore : Foot := ⟨0x130000000000000040, 0, 0⟩

theorem Does.tickRestore {G : Foot} {z s : State} (h : Does G z s) (hg : Foot.tickRestore.leB G = true) : Does G z (State.tickRestore s) := by
  unfold State.tickRestore
  with_reducible repeat' first
    | assumption
    | (extract_lets +onlyGivenNames a; first | (refine (fun (k : Does G z a) => ?_) ?_; rotate_left; unfold a; clear a; rotate_left; clear_value a; revert a; intros) | (clear_value a; revert a; intros))
    | refine Does.wr ?_ ?_ _ _ _ | refine Does.setReg ?_ ?_ _ _ _ | (refine Does.each ?_ _ _ fun _ _ _ _ => ?_)
    | exact Foot.upR hg (by decide)

def Foot.lazyRestore : Foot := ⟨0x7FFFFFFFFFFFFFFFFFFFFFFFFFFFFFFFFFFFFFFFFFFFFFFFFFFFFFF, 0x3FFFFFFFFFFFFFFFFFFFFFFFFFFFFFFFFFFFFFFFFFFFFFFFFFFFFFFFFFFFFFFFFFFFFFFFFFFFFFFFFFFFFFFFFF, 0⟩

theorem Does.lazyRestore {G : Foot} {z s : State} (h : Does G z s) (hg : Foot.lazyRestore.leB G = true) : Does G z (State.lazyRestore s) :=
  ⟨⟨h.pending, fun c =>
      let k := h.canon c
      { k with
        regs := KMap.wf_puts Reg.ctorIdx_injective _ _ (KMap.wf_filter _ _ k.regs)
        vars := KMap.wf_puts Var.ctorIdx_injective _ _ (KMap.wf_filter _ _ k.vars) }⟩,
    fun k e => by simp [Foot.upR hg (show Foot.lazyRestore.hasR k.n = true by cases k.n <;> decide)] at e,
    fun k e => by simp [Foot.upV hg (show Foot.lazyRestore.hasV k.n = true by cases k.n <;> decide)] at e,
    fun p e => Eq.trans (by cases p <;> rfl) (h.parts p e)⟩

def Foot.mirDetached : Foot := ⟨0x7CB7004310007703F00001000000006000130200079800422060, 0x100000000000000000000D9040A30004000000000060014000C0000000000000000007, 0x40CB0⟩

theorem Does.mirDetached {G : Foot} {z s : State} (h : Does G z s) (hg : Foot.mirDetached.leB G = true) : Does G z (State.mirDetached s) := by
  unfold State.mirDetached
  with_reducible repeat' first
    | assumption | refine Does.setV ?_ ?_ _ _ _ | refine Does.mirSet ?_ (Foot.up hg (by decide)) _ _
    | refine Does.heldAll ?_ (Foot.up hg (by decide)) | exact Foot.upV hg (by decide)

def Foot.mirRefuse : Foot := ⟨0x7CB7004310007703F00001000000006000130200079800422060, 0x100000000000000000000D9040A30004000000000060014000C0000000000000000007, 0x40CB0⟩

theorem Does.mirRefuse {G : Foot} {z s : State} (h : Does G z s) (hg : Foot.mirRefuse.leB G = true) : Does G z (State.mirRefuse s) := by
  unfold State.mirRefuse
  with_reducible repeat' first
    | assumption | refine Does.mirDetached ?_ (Foot.up hg (by decide)) | refine Does.incSat ?_ ?_ _ _ _
    | refine Does.event ?_ (Foot.up hg (by decide)) _ _ | exact Foot.upR hg (by decide)

def Foot.mirLosses : Foot := ⟨0x700401000000200000000000006240413020010DC00400000, 0xE2000000000000000000000080000000000000000000000000000000010000000007, 0x81678⟩

theorem Does.mirLosses {G : Foot} {z s : State} (h : Does G z s) (hg : Foot.mirLosses.leB G = true) : Does G z (State.mirLosses s) := by
  unfold State.mirLosses
  with_reducible repeat' first
    | assumption
    | (extract_lets +onlyGivenNames a; first | (refine (fun (k : Does G z a) => ?_) ?_; rotate_left; unfold a; clear a; rotate_left; clear_value a; revert a; intros) | (clear_value a; revert a; intros))
    | refine Does.wr ?_ ?_ _ _ _ | refine Does.setV ?_ ?_ _ _ _ | (refine Does.when ?_ _ _ fun _ _ => ?_)
    | (refine Does.each ?_ _ _ fun _ _ _ _ => ?_) | refine Does.portsAbsent ?_ (Foot.up hg (by decide))
    | refine Does.pendSync ?_ (Foot.up hg (by decide)) _ | refine Does.incSat ?_ ?_ _ _ _ | refine Does.forget ?_ _ ?_
    | refine Does.forgetV ?_ _ (Foot.upAll hg (by decide)) | refine Does.trcArm ?_ (Foot.up hg (by decide))
    | refine Does.kneadTouch ?_ (Foot.up hg (by decide)) _ _ | refine Does.ldrAborted ?_ (Foot.up hg (by decide))
    | exact Foot.upR hg (by decide) | exact Foot.upV hg (by decide) | exact Foot.upM hg ‹_ ∈ _› (by decide)
    | refine Foot.orK ?_ ?_ | refine Foot.andK ?_ | refine Foot.eqK ?_ | exact Foot.conK hg (by decide) | (dsimp -zeta only)
    | split | refine Does.snd ‹_ = (_, _)› ?_
    | (refine Does.mk' ?_ rfl rfl rfl rfl rfl rfl rfl rfl rfl rfl ?_; rotate_left; intro p hn; cases p <;> first | with_unfolding_all rfl | exact Foot.noP hg (by decide) hn)

def Foot.certSwap : Foot := ⟨0, 0, 0x28000⟩

theorem Does.certSwap {G : Foot} {z s : State} (h : Does G z s) (hg : Foot.certSwap.leB G = true) : Does G z (State.certSwap s) :=
  ⟨⟨h.pending, fun c =>
      let k := h.canon c
      { k with cert := k.mirCert, mirCert := k.cert }⟩,
    h.regs, h.vars, fun p e => Eq.trans (by cases p <;> first | rfl | exact Foot.noP hg (by decide) e) (h.parts p e)⟩

def Foot.idSwap : Foot := ⟨0x48000000000000, 0, 0x28000⟩

theorem Does.idSwap {G : Foot} {z s : State} (h : Does G z s) (hg : Foot.idSwap.leB G = true) (new : Nat) : Does G z (State.idSwap s new) := by
  unfold State.idSwap
  with_reducible repeat' first
    | assumption
    | (extract_lets +onlyGivenNames a; first | (refine (fun (k : Does G z a) => ?_) ?_; rotate_left; unfold a; clear a; rotate_left; clear_value a; revert a; intros) | (clear_value a; revert a; intros))
    | refine Does.setReg ?_ ?_ _ _ _ | (refine Does.each ?_ _ _ fun _ _ _ _ => ?_)
    | refine Does.certSwap ?_ (Foot.up hg (by decide)) | exact Foot.upR hg (by decide)

def Foot.takeover : Foot := ⟨0x7FFFFFFFFFFFFFFFFFFFFFFFFFFFFFFFFFFFFFFFFFFFFFFFFFFFFFF, 0x3FFFFFFFFFFFFFFFFFFFFFFFFFFFFFFFFFFFFFFFFFFFFFFFFFFFFFFFFFFFFFFFFFFFFFFFFFFFFFFFFFFFFFFFFF, 0xEBFF8⟩

theorem Does.takeover {G : Foot} {z s : State} (h : Does G z s) (hg : Foot.takeover.leB G = true) (resent : Nat) : Does G z (State.takeover s resent) := by
  unfold State.takeover
  with_reducible repeat' first
    | assumption
    | (extract_lets +onlyGivenNames a; first | (refine (fun (k : Does G z a) => ?_) ?_; rotate_left; unfold a; clear a; rotate_left; clear_value a; revert a; intros) | ((have b : MirSt := a; clear b); unfold a; clear a) | (clear_value a; revert a; intros))
    | refine Does.wr ?_ ?_ _ _ _ | refine Does.setV ?_ ?_ _ _ _ | (refine Does.when ?_ _ _ fun _ _ => ?_)
    | (refine Does.each ?_ _ _ fun _ _ _ _ => ?_) | refine Does.mirLosses ?_ (Foot.up hg (by decide))
    | refine Does.tickRestore ?_ (Foot.up hg (by decide)) | refine Does.lazyRestore ?_ (Foot.up hg (by decide))
    | refine Does.activeShow ?_ (Foot.up hg (by decide)) | refine Does.predShow ?_ (Foot.up hg (by decide)) _
    | refine Does.slotShape ?_ (Foot.up hg (by decide)) _ | refine Does.idSwap ?_ (Foot.up hg (by decide)) _
    | refine Does.mirSet ?_ (Foot.up hg (by decide)) _ _ | refine Does.gateApply ?_ (Foot.up hg (by decide)) _ _ _ _ _ _ _ _ _
    | refine Does.heldAll ?_ (Foot.up hg (by decide)) | refine Does.grantAll ?_ (Foot.up hg (by decide)) _
    | refine Does.needSend ?_ (Foot.up hg (by decide)) _ _ _ | refine Does.incSat ?_ ?_ _ _ _ | refine Does.wrSat ?_ ?_ _ _ _
    | refine Does.record ?_ (Foot.up hg (by decide)) _ _ | refine Does.event ?_ (Foot.up hg (by decide)) _ _
    | exact Foot.upR hg (by decide) | exact Foot.upV hg (by decide) | exact Foot.upM hg ‹_ ∈ _› (by decide)
    | (dsimp -zeta only) | refine Does.ite ?_ ?_ | refine Does.ite_snd ?_ ?_ | refine Foot.pick ?_ ?_ | split
    | refine Does.snd ‹_ = (_, _)› ?_
    | (refine Does.mk' ?_ rfl rfl rfl rfl rfl rfl rfl rfl rfl rfl ?_; rotate_left; intro p hn; cases p <;> first | with_unfolding_all rfl | exact Foot.noP hg (by decide) hn)

def Foot.mirIssue : Foot := ⟨0, 0x400209400018000000000000000000000000000000000000000000000000000060000000000, 0x20000⟩

theorem Does.mirIssue {G : Foot} {z s : State} (h : Does G z s) (hg : Foot.mirIssue.leB G = true) : Does G z (State.mirIssue s) := by
  unfold State.mirIssue
  with_reducible repeat' first
    | assumption | refine Does.setV ?_ ?_ _ _ _ | refine Does.copyTick ?_ (Foot.up hg (by decide))
    | refine Does.copyLazy ?_ (Foot.up hg (by decide)) | exact Foot.upV hg (by decide)

def Foot.mirCmd : Foot := ⟨0x7CB7004310007703F00001000000006000130200079800422060, 0x40020940001800000000000000D9040A30004000000000060014000C0000000060000000007, 0x60CB0⟩

theorem Does.mirCmd {G : Foot} {z s : State} (h : Does G z s) (hg : Foot.mirCmd.leB G = true) (c : Nat) : Does G z (State.mirCmd s c).2 := by
  unfold State.mirCmd
  with_reducible repeat' first
    | assumption
    | (extract_lets +onlyGivenNames a; first | (refine (fun (k : Does G z a) => ?_) ?_; rotate_left; unfold a; clear a; rotate_left; clear_value a; revert a; intros) | (clear_value a; revert a; intros))
    | (refine Does.when ?_ _ _ fun _ _ => ?_) | refine Does.mirIssue ?_ (Foot.up hg (by decide))
    | refine Does.mirSet ?_ (Foot.up hg (by decide)) _ _ | refine Does.mirDetached ?_ (Foot.up hg (by decide))
    | (dsimp -zeta only) | refine Does.ite ?_ ?_ | refine Does.ite_snd ?_ ?_

def Foot.regRead : Foot := ⟨0x100400000000000000, 0, 0x10⟩

theorem Does.regRead {G : Foot} {z s : State} (h : Does G z s) (hg : Foot.regRead.leB G = true) (a : Nat) (wide : Bool) : Does G z (State.regRead s a wide).2.2 := by
  unfold State.regRead
  with_reducible repeat' first
    | assumption
    | (extract_lets +onlyGivenNames a; first | (refine (fun (k : Does G z a) => ?_) ?_; rotate_left; unfold a; clear a; rotate_left; clear_value a; revert a; intros) | (clear_value a; revert a; intros))
    | refine Does.acknowledge ?_ (Foot.up hg (by decide)) _ | (dsimp -zeta only) | refine Does.ite ?_ ?_
    | refine Does.ite_snd ?_ ?_ | refine Foot.pick ?_ ?_ | split

def Foot.certEmpty : Foot := ⟨0x8000000000000, 0x10000000000000000000000000000000000000000000000000000000000000000000, 0x8000⟩

theorem Does.certEmpty {G : Foot} {z s : State} (h : Does G z s) (hg : Foot.certEmpty.leB G = true) (filling : Bool) : Does G z (State.certEmpty s filling) := by
  unfold State.certEmpty
  with_reducible repeat' first
    | assumption
    | (extract_lets +onlyGivenNames a; first | (refine (fun (k : Does G z a) => ?_) ?_; rotate_left; unfold a; clear a; rotate_left; clear_value a; revert a; intros) | (clear_value a; revert a; intros))
    | refine Does.wr ?_ ?_ _ _ _ | refine Does.setV ?_ ?_ _ _ _
    | (refine Does.setCert ?_ (Foot.upP hg (by decide)) _ ?_; rotate_left; with_unfolding_all first | exact fun c => Mem.wf_writeBytes _ _ _ c.cert | exact fun _ => (rfl : Mem.wf [] = true))
    | exact Foot.upR hg (by decide) | exact Foot.upV hg (by decide)

def Foot.certCmd : Foot := ⟨0x8000000000000, 0x10000000000000000000000000000000000000000000000000000000000000000000, 0x8000⟩

theorem Does.certCmd {G : Foot} {z s : State} (h : Does G z s) (hg : Foot.certCmd.leB G = true) (c : Nat) (len : Nat) : Does G z (State.certCmd s c len).2 := by
  unfold State.certCmd
  with_reducible repeat' first
    | assumption | refine Does.wr ?_ ?_ _ _ _ | refine Does.certEmpty ?_ (Foot.up hg (by decide)) _
    | exact Foot.upR hg (by decide) | (dsimp -zeta only) | refine Does.ite ?_ ?_ | refine Does.ite_snd ?_ ?_
    | refine Foot.pick ?_ ?_ | split

def Foot.certData : Foot := ⟨0, 0x10000000000000000000000000000000000000000000000000000000000000000000, 0x8000⟩

theorem Does.certData {G : Foot} {z s : State} (h : Does G z s) (hg : Foot.certData.leB G = true) (w : Word) : Does G z (State.certData s w).2 := by
  unfold State.certData
  with_reducible repeat' first
    | assumption
    | (extract_lets +onlyGivenNames a; first | (refine (fun (k : Does G z a) => ?_) ?_; rotate_left; unfold a; clear a; rotate_left; clear_value a; revert a; intros) | (clear_value a; revert a; intros))
    | refine Does.setV ?_ ?_ _ _ _
    | (refine Does.setCert ?_ (Foot.upP hg (by decide)) _ ?_; rotate_left; with_unfolding_all first | exact fun c => Mem.wf_writeBytes _ _ _ c.cert | exact fun _ => (rfl : Mem.wf [] = true))
    | exact Foot.upV hg (by decide) | (dsimp -zeta only) | refine Does.ite ?_ ?_ | refine Does.ite_snd ?_ ?_

def Foot.plain : Foot := ⟨0x7FFFFFFFFFFFFFFFFFFFFFFFFFFFFFFFFFFFFFFFFFFFFFFFFFFFFFF, 0, 0⟩

theorem Does.plain {G : Foot} {z s : State} (h : Does G z s) (hg : Foot.plain.leB G = true) (r : Reg) (i : Nat) (j : Nat) (w : Word) : Does G z (State.plain s r i j w) := by
  unfold State.plain
  with_reducible repeat' first
    | assumption
    | (extract_lets +onlyGivenNames a; first | (refine (fun (k : Does G z a) => ?_) ?_; rotate_left; unfold a; clear a; rotate_left; clear_value a; revert a; intros) | (clear_value a; revert a; intros))
    | refine Does.setReg ?_ ?_ _ _ _ | exact Foot.upR hg (by decide) | exact Foot.upR hg (by cases r <;> decide)

def Foot.plainFlags : Foot := ⟨0x7FFFFFFFFFFFFFFFFFFFFFFFFFFFFFFFFFFFFFFFFFFFFFFFFFFFFFF, 0x7, 0x30⟩

theorem Does.plainFlags {G : Foot} {z s : State} (h : Does G z s) (hg : Foot.plainFlags.leB G = true) (r : Reg) (i : Nat) (j : Nat) (w : Word) : Does G z (State.plainFlags s r i j w) := by
  unfold State.plainFlags
  with_reducible repeat' first
    | assumption
    | (extract_lets +onlyGivenNames a; first | (refine (fun (k : Does G z a) => ?_) ?_; rotate_left; unfold a; clear a; rotate_left; clear_value a; revert a; intros) | (clear_value a; revert a; intros))
    | (refine Does.each ?_ _ _ fun _ _ _ _ => ?_) | refine Does.plain ?_ (Foot.up hg (by decide)) _ _ _ _
    | refine Does.evFrom ?_ (Foot.up hg (by decide)) _ _ _ _ _

def Foot.rwlWrite : Foot := ⟨0x7FFFFFFFFFFFFFFFFFFFFFFFFFFFFFFFFFFFFFFFFFFFFFFFFFFFFFF, 0x7, 0x30⟩

theorem Does.rwlWrite {G : Foot} {z s : State} (h : Does G z s) (hg : Foot.rwlWrite.leB G = true) (owners : List Nat) (r : Reg) (i : Nat) (j : Nat) (w : Word) : Does G z (State.rwlWrite s owners r i j w).2 := by
  unfold State.rwlWrite
  with_reducible repeat' first
    | assumption
    | (extract_lets +onlyGivenNames a; first | (refine (fun (k : Does G z a) => ?_) ?_; rotate_left; unfold a; clear a; rotate_left; clear_value a; revert a; intros) | (clear_value a; revert a; intros))
    | refine Does.flag ?_ ?_ _ _ _ | (refine Does.each ?_ _ _ fun _ _ _ _ => ?_)
    | refine Does.plainFlags ?_ (Foot.up hg (by decide)) _ _ _ _ | exact Foot.upR hg (by decide) | (dsimp -zeta only)
    | refine Does.ite ?_ ?_ | refine Does.ite_snd ?_ ?_

def Foot.loopWrite : Foot := ⟨0x7FFFFFFFFFFFFFFFFFFFFFFFFFFFFFFFFFFFFFFFFFFFFFFFFFFFFFF, 0x70C001000000000000000000000000000000000000000007, 0x30⟩

theorem Does.loopWrite {G : Foot} {z s : State} (h : Does G z s) (hg : Foot.loopWrite.leB G = true) (l : Nat) (r : Reg) (w : Word) : Does G z (State.loopWrite s l r w).2 := by
  unfold State.loopWrite
  with_reducible repeat' first
    | assumption
    | (extract_lets +onlyGivenNames a; first | (refine (fun (k : Does G z a) => ?_) ?_; rotate_left; unfold a; clear a; rotate_left; clear_value a; revert a; intros) | (clear_value a; revert a; intros))
    | refine Does.rwlWrite ?_ (Foot.up hg (by decide)) _ _ _ _ _ | refine Does.leaseCheck ?_ (Foot.up hg (by decide))
    | (dsimp -zeta only) | refine Does.ite ?_ ?_ | refine Does.ite_snd ?_ ?_

def Foot.strWrite : Foot := ⟨0x7FFFFFFFFFFFFFFFFFFFFFFFFFFFFFFFFFFFFFFFFFFFFFFFFFFFFFF, 0x20200000000000000000000000000000000000070C0810005A000000E000000000000000000000000000007, 0x404F0⟩

theorem Does.strWrite {G : Foot} {z s : State} (h : Does G z s) (hg : Foot.strWrite.leB G = true) (r : Reg) (c : Nat) (p : Nat) (touched : Word) (w : Word) : Does G z (State.strWrite s r c p touched w).2 := by
  unfold State.strWrite
  with_reducible repeat' first
    | assumption
    | (extract_lets +onlyGivenNames a; first | (refine (fun (k : Does G z a) => ?_) ?_; rotate_left; unfold a; clear a; rotate_left; clear_value a; revert a; intros) | (clear_value a; revert a; intros))
    | refine Does.plain ?_ (Foot.up hg (by decide)) _ _ _ _ | refine Does.strChanged ?_ (Foot.up hg (by decide)) _ _
    | refine Does.slotShape ?_ (Foot.up hg (by decide)) _ | (dsimp -zeta only) | refine Does.ite ?_ ?_
    | refine Does.ite_snd ?_ ?_

def Foot.both : Foot := ⟨0, 0, 0⟩

theorem Does.both {G : Foot} {z s : State} (h : Does G z s) (hg : Foot.both.leB G = true) (a : State → Status × State) (ha : ∀ x0, Does G z x0 → Does G z (a x0).2) (b : State → Status × State) (hb : ∀ x0, Does G z x0 → Does G z (b x0).2) : Does G z (both s a b).2 := by
  unfold Sys2Proof.Machine.both
  with_reducible repeat' first
    | assumption
    | (extract_lets +onlyGivenNames a; first | (refine (fun (k : Does G z a) => ?_) ?_; rotate_left; unfold a; clear a; rotate_left; clear_value a; revert a; intros) | (clear_value a; revert a; intros))
    | refine ha _ ?_ | refine hb _ ?_ | (dsimp -zeta only) | refine Does.ite ?_ ?_ | refine Does.ite_snd ?_ ?_

def Foot.onBit : Foot := ⟨0, 0, 0⟩

theorem Does.onBit {G : Foot} {z s : State} (h : Does G z s) (hg : Foot.onBit.leB G = true) (w : Nat) (k : Nat) (f : State → Status × State) (hf : ∀ x0, Does G z x0 → Does G z (f x0).2) : Does G z (onBit w k f s).2 := by
  unfold Sys2Proof.Machine.onBit
  with_reducible repeat' first
    | assumption | refine hf _ ?_ | (dsimp -zeta only) | refine Does.ite ?_ ?_ | refine Does.ite_snd ?_ ?_

def Foot.tsCtrl : Foot := ⟨0x7004000004000010380000060000000130200008000100000, 0x40000000000000000000000000000200500000000000000000000800000000000040000000000000000000007, 0x30⟩

theorem Does.tsCtrl {G : Foot} {z s : State} (h : Does G z s) (hg : Foot.tsCtrl.leB G = true) (n : Nat) (w : Nat) : Does G z (State.tsCtrl s n w).2 := by
  unfold State.tsCtrl
  with_reducible repeat' first
    | assumption
    | (extract_lets +onlyGivenNames a; first | (refine (fun (k : Does G z a) => ?_) ?_; rotate_left; unfold a; clear a; rotate_left; clear_value a; revert a; intros) | (clear_value a; revert a; intros))
    | refine Does.wr ?_ ?_ _ _ _ | refine Does.setV ?_ ?_ _ _ _ | (refine Does.when ?_ _ _ fun _ _ => ?_)
    | refine Does.hubTemp ?_ (Foot.up hg (by decide)) _ | refine Does.calRst ?_ (Foot.up hg (by decide)) _
    | exact Foot.upR hg (by decide) | exact Foot.upV hg (by decide) | (dsimp -zeta only) | refine Does.ite ?_ ?_
    | refine Does.ite_snd ?_ ?_

def Foot.ringTail : Foot := ⟨0x75C4000000000000000000000000000130200008000000000, 0x7, 0x130⟩

theorem Does.ringTail {G : Foot} {z s : State} (h : Does G z s) (hg : Foot.ringTail.leB G = true) (n : Nat) (w : Nat) : Does G z (State.ringTail s n w).2 := by
  unfold State.ringTail
  with_reducible repeat' first
    | assumption
    | (extract_lets +onlyGivenNames a; first | (refine (fun (k : Does G z a) => ?_) ?_; rotate_left; unfold a; clear a; rotate_left; clear_value a; revert a; intros) | (clear_value a; revert a; intros))
    | refine Does.wr ?_ ?_ _ _ _ | refine Does.recRun ?_ (Foot.up hg (by decide)) | exact Foot.upR hg (by decide)
    | (dsimp -zeta only) | refine Does.ite ?_ ?_ | refine Does.ite_snd ?_ ?_

def Foot.facAlertWrite : Foot := ⟨0x7FFFFFFFFFFFFFFFFFFFFFFFFFFFFFFFFFFFFFFFFFFFFFFFFFFFFFF, 0, 0⟩

theorem Does.facAlertWrite {G : Foot} {z s : State} (h : Does G z s) (hg : Foot.facAlertWrite.leB G = true) (w : Word) : Does G z (State.facAlertWrite s w) := by
  unfold State.facAlertWrite
  with_reducible repeat' first
    | assumption
    | (extract_lets +onlyGivenNames a; first | (refine (fun (k : Does G z a) => ?_) ?_; rotate_left; unfold a; clear a; rotate_left; clear_value a; revert a; intros) | (clear_value a; revert a; intros))
    | refine Does.plain ?_ (Foot.up hg (by decide)) _ _ _ _ | refine Does.alertRise ?_ (Foot.up hg (by decide)) _
    | refine Does.facAlert ?_ (Foot.up hg (by decide)) _ | (dsimp -zeta only) | refine Does.ite ?_ ?_

def Foot.byItself : Foot := ⟨0, 0, 0⟩

theorem Does.byItself {G : Foot} {z x : State} (h : Does G z x) (hg : Foot.byItself.leB G = true) : Does G z (byItself x).2 := h

theorem Does.gotSt {G : Foot} {z : State} {x : Status × State} (h : Does G z x.2) : Does G z (gotSt x).2 := h

def Foot.regOpHeld : Foot := ⟨0x7FFFFFFFFFFFFFFFFFFFFFFFFFFFFFFFFFFFFFFFFFFFFFFFFFFFFFF, 0x4020200100000040020940201C00020050000000DF0C0A31005A080400E0160014400C0000000070000000007, 0x62FF0⟩

theorem Does.regOpHeld {G : Foot} {z s : State} (h : Does G z s) (hg : Foot.regOpHeld.leB G = true) (p : Port) (r : Reg) (i : Nat) (j : Nat) (a : Nat) (wide : Bool) (w : Word) (pins : Pins) : Does G z (State.regOpHeld s p r i j a wide w pins).2 := by
  unfold State.regOpHeld
  with_reducible repeat' first
    | assumption
    | (extract_lets +onlyGivenNames a; first | (refine (fun (k : Does G z a) => ?_) ?_; rotate_left; unfold a; clear a; rotate_left; clear_value a; revert a; intros) | (clear_value a; revert a; intros))
    | refine Does.wr ?_ ?_ _ _ _ | (refine Does.when ?_ _ _ fun _ _ => ?_)
    | refine Does.plain ?_ (Foot.up hg (by decide)) _ _ _ _ | refine Does.smpSpoil ?_ (Foot.up hg (by decide)) _
    | refine Does.strChanged ?_ (Foot.up hg (by decide)) _ _ | refine Does.slotShape ?_ (Foot.up hg (by decide)) _
    | refine Does.strWrite ?_ (Foot.up hg (by decide)) _ _ _ _ _ | refine Does.vselWrite ?_ (Foot.up hg (by decide)) _ _
    | refine Does.vslotWrite ?_ (Foot.up hg (by decide)) _ _ _
    | refine Does.both ?_ (Foot.up hg (by decide)) _ (fun _ _ => ?_) _ (fun _ _ => ?_)
    | refine Does.onBit ?_ (Foot.up hg (by decide)) _ _ _ (fun _ _ => ?_) | refine Does.kneadRst ?_ (Foot.up hg (by decide)) _
    | refine Does.plainFlags ?_ (Foot.up hg (by decide)) _ _ _ _ | refine Does.clrFault ?_ (Foot.up hg (by decide)) _ _
    | refine Does.phCalReq ?_ (Foot.up hg (by decide)) _ | refine Does.tsCtrl ?_ (Foot.up hg (by decide)) _ _
    | refine Does.ddCalReq ?_ (Foot.up hg (by decide)) _ | refine Does.byItself ?_ (Foot.up hg (by decide))
    | refine Does.latchWrite ?_ (Foot.up hg (by decide)) _ _ _ _ _ _ | refine Does.ringAWrite ?_ (Foot.up hg (by decide)) _ _
    | refine Does.ringTail ?_ (Foot.up hg (by decide)) _ _ | refine Does.trcCmd ?_ (Foot.up hg (by decide)) _
    | refine Does.mirCmd ?_ (Foot.up hg (by decide)) _ | refine Does.gotSt ?_ | exact Foot.upR hg (by decide)
    | (dsimp -zeta only) | refine Does.ite ?_ ?_ | refine Does.ite_snd ?_ ?_ | refine Foot.pick ?_ ?_ | split

def Foot.regOpUnit : Foot := ⟨0x7FFFFFFFFFFFFFFFFFFFFFFFFFFFFFFFFFFFFFFFFFFFFFFFFFFFFFF, 0x4020200100000040020941601C00020050000B00DF0C0A31005A080400E0160014400C000000007000000000F, 0x6AFF3⟩

theorem Does.regOpUnit {G : Foot} {z s : State} (h : Does G z s) (hg : Foot.regOpUnit.leB G = true) (p : Port) (r : Reg) (i : Nat) (j : Nat) (a : Nat) (wide : Bool) (w : Word) (pins : Pins) : Does G z (State.regOpUnit s p r i j a wide w pins).2 := by
  unfold State.regOpUnit
  with_reducible repeat' first
    | assumption
    | (extract_lets +onlyGivenNames a; first | (refine (fun (k : Does G z a) => ?_) ?_; rotate_left; unfold a; clear a; rotate_left; clear_value a; revert a; intros) | (clear_value a; revert a; intros))
    | refine Does.ldrCmd ?_ (Foot.up hg (by decide)) _ _ | refine Does.ldrAddr ?_ (Foot.up hg (by decide)) _ _
    | refine Does.ldrData ?_ (Foot.up hg (by decide)) _ _ _ | refine Does.certCmd ?_ (Foot.up hg (by decide)) _ _
    | refine Does.certData ?_ (Foot.up hg (by decide)) _ | refine Does.prigroupSet ?_ (Foot.up hg (by decide)) _
    | refine Does.complete ?_ (Foot.up hg (by decide)) _ _ | refine Does.recover ?_ (Foot.up hg (by decide)) _ _ _
    | refine Does.grpWrite ?_ (Foot.up hg (by decide)) _ _ _ | refine Does.srcCfgWrite ?_ (Foot.up hg (by decide)) _ _
    | refine Does.srcStateWrite ?_ (Foot.up hg (by decide)) _ _
    | refine Does.both ?_ (Foot.up hg (by decide)) _ (fun _ _ => ?_) _ (fun _ _ => ?_)
    | refine Does.clkSel ?_ (Foot.up hg (by decide)) _ _ | refine Does.onBit ?_ (Foot.up hg (by decide)) _ _ _ (fun _ _ => ?_)
    | refine Does.recal ?_ (Foot.up hg (by decide)) _ | refine Does.loopCmd ?_ (Foot.up hg (by decide)) _ _
    | refine Does.loopWrite ?_ (Foot.up hg (by decide)) _ _ _ | refine Does.rwlWrite ?_ (Foot.up hg (by decide)) _ _ _ _ _
    | refine Does.regOpHeld ?_ (Foot.up hg (by decide)) _ _ _ _ _ _ _ _ | refine Does.gotSt ?_ | (dsimp -zeta only)
    | refine Does.ite ?_ ?_ | refine Does.ite_snd ?_ ?_

def Foot.regOp : Foot := ⟨0x7FFFFFFFFFFFFFFFFFFFFFFFFFFFFFFFFFFFFFFFFFFFFFFFFFFFFFF, 0x3FFFFFFFFFFFFFFFFFFFFFFFFFFFFFFFFFFFFFFFFFFFFFFFFFFFFFFFFFFFFFFFFFFFFFFFFFFFFFFFFFFFFFFFFF, 0xEFFFF⟩

theorem Does.regOp {G : Foot} {z s : State} (h : Does G z s) (hg : Foot.regOp.leB G = true) (p : Port) (r : Reg) (i : Nat) (j : Nat) (a : Nat) (wide : Bool) (data : Word) (pins : Pins) : Does G z (State.regOp s p r i j a wide data pins).2 := by
  unfold State.regOp
  with_reducible repeat' first
    | assumption
    | (extract_lets +onlyGivenNames a; first | (refine (fun (k : Does G z a) => ?_) ?_; rotate_left; unfold a; clear a; rotate_left; clear_value a; revert a; intros) | (clear_value a; revert a; intros))
    | refine Does.reached ?_ (Foot.up hg (by decide)) _ _ | refine Does.pkgCmd ?_ (Foot.up hg (by decide)) _
    | refine Does.modeReq ?_ (Foot.up hg (by decide)) _ | refine Does.byItself ?_ (Foot.up hg (by decide))
    | refine Does.portMark ?_ (Foot.up hg (by decide)) _ _ _ | refine Does.slotShape ?_ (Foot.up hg (by decide)) _
    | refine Does.strOp ?_ (Foot.up hg (by decide)) _ _ _ | refine Does.portSwitch ?_ (Foot.up hg (by decide)) _ _ _ _
    | refine Does.portOp ?_ (Foot.up hg (by decide)) _ _ _ _ _ _ _ _ | refine Does.latchClear ?_ (Foot.up hg (by decide)) _ _
    | refine Does.railClear ?_ (Foot.up hg (by decide)) _ | refine Does.railUvClear ?_ (Foot.up hg (by decide)) _
    | refine Does.rstWarm ?_ (Foot.up hg (by decide)) | refine Does.islReset ?_ (Foot.up hg (by decide)) _
    | refine Does.clkReturn ?_ (Foot.up hg (by decide)) | refine Does.facAlertWrite ?_ (Foot.up hg (by decide)) _
    | refine Does.regOpUnit ?_ (Foot.up hg (by decide)) _ _ _ _ _ _ _ _ | refine Does.gotSt ?_ | (dsimp -zeta only)
    | refine Does.ite ?_ ?_ | refine Does.ite_snd ?_ ?_ | refine Foot.pick ?_ ?_ | split

def Foot.gateWrite : Foot := ⟨0x7004050407602000000000000000000130200008000400000, 0x180000000000140000000000000000000000000000470000000C003C0000000000000000007, 0x30⟩

theorem Does.gateWrite {G : Foot} {z s : State} (h : Does G z s) (hg : Foot.gateWrite.leB G = true) (l : Nat) (p : Nat) (w : Word) (pins : Pins) : Does G z (State.gateWrite s l p w pins).2 := by
  unfold State.gateWrite
  with_reducible repeat' first
    | assumption
    | (extract_lets +onlyGivenNames a; first | (refine (fun (k : Does G z a) => ?_) ?_; rotate_left; unfold a; clear a; rotate_left; clear_value a; revert a; intros) | (clear_value a; revert a; intros))
    | refine Does.setV ?_ ?_ _ _ _ | (refine Does.when ?_ _ _ fun _ _ => ?_)
    | refine Does.faultClear ?_ (Foot.up hg (by decide)) _ _ _ | exact Foot.upV hg (by decide) | (dsimp -zeta only)
    | refine Does.ite ?_ ?_ | refine Does.ite_snd ?_ ?_

def Foot.islandOp : Foot := ⟨0x7FFFFFFFFFFFFFFFFFFFFFFFFFFFFFFFFFFFFFFFFFFFFFFFFFFFFFF, 0x22200002000038000000000034000000000000070DFF90005A000067FF00000C0C3C0000000000000780007, 0x42EF0⟩

theorem Does.islandOp {G : Foot} {z s : State} (h : Does G z s) (hg : Foot.islandOp.leB G = true) (r : Reg) (i : Nat) (j : Nat) (a : Nat) (wide : Bool) (data : Word) (pins : Pins) : Does G z (State.islandOp s r i j a wide data pins).2 := by
  unfold State.islandOp
  with_reducible repeat' first
    | assumption
    | (extract_lets +onlyGivenNames a; first | (refine (fun (k : Does G z a) => ?_) ?_; rotate_left; unfold a; clear a; rotate_left; clear_value a; revert a; intros) | (clear_value a; revert a; intros))
    | refine Does.reached ?_ (Foot.up hg (by decide)) _ _ | refine Does.thetaWrite ?_ (Foot.up hg (by decide)) _ _ _ _
    | refine Does.vrefTake ?_ (Foot.up hg (by decide)) _ _ | refine Does.shedTake ?_ (Foot.up hg (by decide)) _ _
    | refine Does.thrTake ?_ (Foot.up hg (by decide)) _ _ | refine Does.brakeTake ?_ (Foot.up hg (by decide)) _ _
    | refine Does.latchTake ?_ (Foot.up hg (by decide)) _ _ | refine Does.leafAcct ?_ (Foot.up hg (by decide)) _
    | refine Does.plain ?_ (Foot.up hg (by decide)) _ _ _ _ | refine Does.gateWrite ?_ (Foot.up hg (by decide)) _ _ _ _
    | refine Does.lsyncWr ?_ (Foot.up hg (by decide)) _ _ _ | refine Does.selTake ?_ (Foot.up hg (by decide)) _ _ _
    | refine Does.plainFlags ?_ (Foot.up hg (by decide)) _ _ _ _ | (dsimp -zeta only) | refine Does.ite ?_ ?_
    | refine Does.ite_snd ?_ ?_ | refine Foot.pick ?_ ?_ | split

def Foot.copyOp : Foot := ⟨0x7FFFFFFFFFFFFFFFFFFFFFFFFFFFFFFFFFFFFFFFFFFFFFFFFFFFFFF, 0x3FFFFFFFFFFFFFFFFFFFFFFFFFFFFFFFFFFFFFFFFFFFFFFFFFFFFFFFFFFFFFFFFFFFFFFFFFFFFFFFFFFFFFFFFF, 0xEFFFF⟩

theorem Does.copyOp {G : Foot} {z s : State} (h : Does G z s) (hg : Foot.copyOp.leB G = true) (d : Nat) (a : Nat) (wide : Bool) (data : Word) (pins : Pins) : Does G z (State.copyOp s d a wide data pins).2 := by
  unfold State.copyOp
  with_reducible repeat' first
    | assumption
    | (extract_lets +onlyGivenNames a; first | (refine (fun (k : Does G z a) => ?_) ?_; rotate_left; unfold a; clear a; rotate_left; clear_value a; revert a; intros) | (clear_value a; revert a; intros))
    | refine Does.flag ?_ ?_ _ _ _ | (refine Does.when ?_ _ _ fun _ _ => ?_) | (refine Does.each ?_ _ _ fun _ _ _ _ => ?_)
    | refine Does.gtNodeSet ?_ (Foot.up hg (by decide)) _ _ _ _ _
    | refine Does.regOp ?_ (Foot.up hg (by decide)) _ _ _ _ _ _ _ _ | refine Does.lpHubSet ?_ (Foot.up hg (by decide)) _ _ _
    | exact Foot.upR hg (by decide) | (dsimp -zeta only) | refine Does.ite ?_ ?_ | refine Does.ite_snd ?_ ?_
    | refine Foot.pick ?_ ?_ | split

def Foot.islandWrite : Foot := ⟨0x7FFFFFFFFFFFFFFFFFFFFFFFFFFFFFFFFFFFFFFFFFFFFFFFFFFFFFF, 0x3FFFFFFFFFFFFFFFFFFFFFFFFFFFFFFFFFFFFFFFFFFFFFFFFFFFFFFFFFFFFFFFFFFFFFFFFFFFFFFFFFFFFFFFFF, 0xEFFFF⟩

theorem Does.islandWrite {G : Foot} {z s : State} (h : Does G z s) (hg : Foot.islandWrite.leB G = true) (d : Nat) (off : Nat) (wide : Bool) (data : Word) (pins : Pins) : Does G z (State.islandWrite s d off wide data pins).2 := by
  unfold State.islandWrite
  with_reducible repeat' first
    | assumption
    | (extract_lets +onlyGivenNames a; first | (refine (fun (k : Does G z a) => ?_) ?_; rotate_left; unfold a; clear a; rotate_left; clear_value a; revert a; intros) | (clear_value a; revert a; intros))
    | refine Does.copyOp ?_ (Foot.up hg (by decide)) _ _ _ _ _ | refine Does.islandOp ?_ (Foot.up hg (by decide)) _ _ _ _ _ _ _
    | (dsimp -zeta only) | refine Does.ite ?_ ?_ | refine Does.ite_snd ?_ ?_ | refine Foot.pick ?_ ?_ | split

def Foot.perform : Foot := ⟨0x7FFFFFFFFFFFFFFFFFFFFFFFFFFFFFFFFFFFFFFFFFFFFFFFFFFFFFF, 0x3FFFFFFFFFFFFFFFFFFFFFFFFFFFFFFFFFFFFFFFFFFFFFFFFFFFFFFFFFFFFFFFFFFFFFFFFFFFFFFFFFFFFFFFFF, 0xEFFFF⟩

theorem Does.perform {G : Foot} {z s : State} (h : Does G z s) (hg : Foot.perform.leB G = true) (p : Port) (a : Nat) (wide : Bool) (w : Word) (pins : Pins) : Does G z (State.perform s p a wide w pins).2 := by
  unfold State.perform
  with_reducible repeat' first
    | assumption
    | (extract_lets +onlyGivenNames a; first | (refine (fun (k : Does G z a) => ?_) ?_; rotate_left; unfold a; clear a; rotate_left; clear_value a; revert a; intros) | (clear_value a; revert a; intros))
    | refine Does.hubCmd ?_ (Foot.up hg (by decide)) _ _ _ _ _ | refine Does.regOp ?_ (Foot.up hg (by decide)) _ _ _ _ _ _ _ _
    | refine Does.copySend ?_ (Foot.up hg (by decide)) _ _ _ _ _ _ | (dsimp -zeta only) | refine Does.ite ?_ ?_
    | refine Does.ite_snd ?_ ?_ | refine Foot.pick ?_ ?_ | split

def Foot.performAns : Foot := ⟨0x7FFFFFFFFFFFFFFFFFFFFFFFFFFFFFFFFFFFFFFFFFFFFFFFFFFFFFF, 0x3FFFFFFFFFFFFFFFFFFFFFFFFFFFFFFFFFFFFFFFFFFFFFFFFFFFFFFFFFFFFFFFFFFFFFFFFFFFFFFFFFFFFFFFFF, 0xEFFFF⟩

theorem Does.performAns {G : Foot} {z s : State} (h : Does G z s) (hg : Foot.performAns.leB G = true) (p : Port) (a : Nat) (wide : Bool) (w : Word) (pins : Pins) : Does G z (State.performAns s p a wide w pins) := by
  unfold State.performAns
  with_reducible repeat' first
    | assumption | refine Does.perform ?_ (Foot.up hg (by decide)) _ _ _ _ _
    | refine Does.answerReg ?_ (Foot.up hg (by decide)) _ _ _ _ _ _ | refine Does.answerD ?_ (Foot.up hg (by decide)) _ _ _ _ _
    | (dsimp -zeta only) | split | refine Does.snd ‹_ = (_, _)› ?_

def Foot.postAdd : Foot := ⟨0x400000000, 0, 0x1000⟩

theorem Does.postAdd {G : Foot} {z s : State} (h : Does G z s) (hg : Foot.postAdd.leB G = true) (init : Nat) (priv : Bool) (a : Nat) (w : Word) (wide : Bool) : Does G z (State.postAdd s init priv a w wide) := by
  unfold State.postAdd
  with_reducible repeat' first
    | assumption
    | (extract_lets +onlyGivenNames a; first | (refine (fun (k : Does G z a) => ?_) ?_; rotate_left; unfold a; clear a; rotate_left; clear_value a; revert a; intros) | (clear_value a; revert a; intros))
    | refine Does.wr ?_ ?_ _ _ _ | refine Does.emit ?_ _ | refine Does.incWrap ?_ ?_ _ _ _ | exact Foot.upR hg (by decide)
    | (dsimp -zeta only) | split | refine Does.snd ‹_ = (_, _)› ?_
    | (refine Does.mk' ?_ rfl rfl rfl rfl rfl rfl rfl rfl rfl rfl ?_; rotate_left; intro p hn; cases p <;> first | with_unfolding_all rfl | exact Foot.noP hg (by decide) hn)

def Foot.reqBegin : Foot := ⟨0x7FFFFFFFFFFFFFFFFFFFFFFFFFFFFFFFFFFFFFFFFFFFFFFFFFFFFFF, 0x3FFFFFFFFFFFFFFFFFFFFFFFFFFFFFFFFFFFFFFFFFFFFFFFFFFFFFFFFFFFFFFFFFFFFFFFFFFFFFFFFFFFFFFFFF, 0xEFFFF⟩

theorem Does.reqBegin {G : Foot} {z s : State} (h : Does G z s) (hg : Foot.reqBegin.leB G = true) (x : RegReq) : Does G z (State.reqBegin s x) := by
  unfold State.reqBegin
  with_reducible repeat' first
    | assumption
    | (extract_lets +onlyGivenNames a; first | (refine (fun (k : Does G z a) => ?_) ?_; rotate_left; unfold a; clear a; rotate_left; clear_value a; revert a; intros) | (clear_value a; revert a; intros))
    | refine Does.answerD ?_ (Foot.up hg (by decide)) _ _ _ _ _ | refine Does.postAdd ?_ (Foot.up hg (by decide)) _ _ _ _ _
    | refine Does.performAns ?_ (Foot.up hg (by decide)) _ _ _ _ _ | (dsimp -zeta only) | refine Does.ite ?_ ?_

def Foot.reqPump : Foot := ⟨0x7FFFFFFFFFFFFFFFFFFFFFFFFFFFFFFFFFFFFFFFFFFFFFFFFFFFFFF, 0x3FFFFFFFFFFFFFFFFFFFFFFFFFFFFFFFFFFFFFFFFFFFFFFFFFFFFFFFFFFFFFFFFFFFFFFFFFFFFFFFFFFFFFFFFF, 0xEFFFF⟩

theorem Does.reqPump {G : Foot} {z s : State} (h : Does G z s) (hg : Foot.reqPump.leB G = true) (fuel : Nat) : Does G z (State.reqPump s fuel) := by
  induction fuel generalizing s with
  | zero =>
    unfold State.reqPump
    exact h
  | succ fuel ih =>
    unfold State.reqPump
    with_reducible repeat' first
      | assumption | refine Does.reqBegin ?_ (Foot.up hg (by decide)) _ | refine ih ?_ | (dsimp -zeta only) | split
      | refine Does.snd ‹_ = (_, _)› ?_
      | (refine Does.mk' ?_ rfl rfl rfl rfl rfl rfl rfl rfl rfl rfl ?_; rotate_left; intro p hn; cases p <;> first | with_unfolding_all rfl | exact Foot.noP hg (by decide) hn)
  
def Foot.reqRun : Foot := ⟨0x7FFFFFFFFFFFFFFFFFFFFFFFFFFFFFFFFFFFFFFFFFFFFFFFFFFFFFF, 0x3FFFFFFFFFFFFFFFFFFFFFFFFFFFFFFFFFFFFFFFFFFFFFFFFFFFFFFFFFFFFFFFFFFFFFFFFFFFFFFFFFFFFFFFFF, 0xEFFFF⟩

theorem Does.reqRun {G : Foot} {z s : State} (h : Does G z s) (hg : Foot.reqRun.leB G = true) : Does G z (State.reqRun s) := by
  unfold State.reqRun
  with_reducible repeat' first
    | assumption | refine Does.reqPump ?_ (Foot.up hg (by decide)) _ | (dsimp -zeta only) | refine Does.ite ?_ ?_

def Foot.idle : Foot := ⟨0x7FFFFFFFFFFFFFFFFFFFFFFFFFFFFFFFFFFFFFFFFFFFFFFFFFFFFFF, 0x3FFFFFFFFFFFFFFFFFFFFFFFFFFFFFFFFFFFFFFFFFFFFFFFFFFFFFFFFFFFFFFFFFFFFFFFFFFFFFFFFFFFFFFFFF, 0xEFFFF⟩

theorem Does.idle {G : Foot} {z s : State} (h : Does G z s) (hg : Foot.idle.leB G = true) : Does G z (State.idle s) := by
  unfold State.idle
  with_reducible repeat' first
    | assumption | refine Does.laneRound ?_ (Foot.up hg (by decide)) | refine Does.reqRun ?_ (Foot.up hg (by decide))
    | (dsimp -zeta only) | refine Does.ite ?_ ?_ | refine Does.ite_snd ?_ ?_ | refine Foot.pick ?_ ?_ | split
    | refine Does.snd ‹_ = (_, _)› ?_
    | (refine Does.mk' ?_ rfl rfl rfl rfl rfl rfl rfl rfl rfl rfl ?_; rotate_left; intro p hn; cases p <;> first | with_unfolding_all rfl | exact Foot.noP hg (by decide) hn)

def Foot.islandAns : Foot := ⟨0x10000002000000000000000000000000000000400000, 0, 0⟩

theorem Does.islandAns {G : Foot} {z s : State} (h : Does G z s) (hg : Foot.islandAns.leB G = true) (d : Nat) (reqid : Nat) (st : Status) (data : Option Word) : Does G z (State.islandAns s d reqid st data) := by
  unfold State.islandAns
  with_reducible repeat' first
    | assumption
    | (extract_lets +onlyGivenNames a; first | (refine (fun (k : Does G z a) => ?_) ?_; rotate_left; unfold a; clear a; rotate_left; clear_value a; revert a; intros) | (clear_value a; revert a; intros))
    | refine Does.sendUp ?_ (Foot.up hg (by decide)) _ _ _ | (dsimp -zeta only) | refine Does.ite ?_ ?_
    | refine Does.ite_snd ?_ ?_ | refine Foot.pick ?_ ?_ | split

def Foot.islandRun : Foot := ⟨0x7FFFFFFFFFFFFFFFFFFFFFFFFFFFFFFFFFFFFFFFFFFFFFFFFFFFFFF, 0x3FFFFFFFFFFFFFFFFFFFFFFFFFFFFFFFFFFFFFFFFFFFFFFFFFFFFFFFFFFFFFFFFFFFFFFFFFFFFFFFFFFFFFFFFF, 0xEFFFF⟩

theorem Does.islandRun {G : Foot} {z s : State} (h : Does G z s) (hg : Foot.islandRun.leB G = true) (d : Nat) (r : CmdReq) (data : Word) (pins : Pins) : Does G z (State.islandRun s d r data pins) := by
  unfold State.islandRun
  with_reducible repeat' first
    | assumption
    | (extract_lets +onlyGivenNames a; first | (refine (fun (k : Does G z a) => ?_) ?_; rotate_left; unfold a; clear a; rotate_left; clear_value a; revert a; intros) | (clear_value a; revert a; intros))
    | refine Does.islandAns ?_ (Foot.up hg (by decide)) _ _ _ _ | refine Does.islandWrite ?_ (Foot.up hg (by decide)) _ _ _ _ _
    | (dsimp -zeta only) | refine Does.ite ?_ ?_ | refine Does.ite_snd ?_ ?_ | refine Foot.pick ?_ ?_ | split
    | refine Does.snd ‹_ = (_, _)› ?_
    | (refine Does.mk' ?_ rfl rfl rfl rfl rfl rfl rfl rfl rfl rfl ?_; rotate_left; intro p hn; cases p <;> first | with_unfolding_all rfl | exact Foot.noP hg (by decide) hn)

def Foot.cmdOn : Foot := ⟨0x10000002000000000000000000000000000000400000, 0, 0x40⟩

theorem Does.cmdOn {G : Foot} {z s : State} (h : Does G z s) (hg : Foot.cmdOn.leB G = true) (d : Nat) (r : CmdReq) (data : Word) : Does G z (State.cmdOn s d r data) := by
  unfold State.cmdOn
  with_reducible repeat' first
    | assumption
    | (extract_lets +onlyGivenNames a; first | (refine (fun (k : Does G z a) => ?_) ?_; rotate_left; unfold a; clear a; rotate_left; clear_value a; revert a; intros) | (clear_value a; revert a; intros))
    | refine Does.sendUp ?_ (Foot.up hg (by decide)) _ _ _ | refine Does.cmdForward ?_ (Foot.up hg (by decide)) _ _ _ _
    | refine Does.chInc ?_ (Foot.up hg (by decide)) _ _ _ | (dsimp -zeta only) | refine Does.ite ?_ ?_
    | refine Does.ite_snd ?_ ?_ | refine Foot.pick ?_ ?_ | split

def Foot.cmdRun : Foot := ⟨0x7FFFFFFFFFFFFFFFFFFFFFFFFFFFFFFFFFFFFFFFFFFFFFFFFFFFFFF, 0x3FFFFFFFFFFFFFFFFFFFFFFFFFFFFFFFFFFFFFFFFFFFFFFFFFFFFFFFFFFFFFFFFFFFFFFFFFFFFFFFFFFFFFFFFF, 0xEFFFF⟩

theorem Does.cmdRun {G : Foot} {z s : State} (h : Does G z s) (hg : Foot.cmdRun.leB G = true) (d : Nat) (r : CmdReq) (data : Word) (pins : Pins) : Does G z (State.cmdRun s d r data pins) := by
  unfold State.cmdRun
  with_reducible repeat' first
    | assumption | refine Does.islandRun ?_ (Foot.up hg (by decide)) _ _ _ _
    | refine Does.cmdOn ?_ (Foot.up hg (by decide)) _ _ _ | refine Does.fenceProgress ?_ (Foot.up hg (by decide)) _
    | (dsimp -zeta only) | refine Does.ite ?_ ?_

def Foot.cmdFinish : Foot := ⟨0x7FFFFFFFFFFFFFFFFFFFFFFFFFFFFFFFFFFFFFFFFFFFFFFFFFFFFFF, 0x3FFFFFFFFFFFFFFFFFFFFFFFFFFFFFFFFFFFFFFFFFFFFFFFFFFFFFFFFFFFFFFFFFFFFFFFFFFFFFFFFFFFFFFFFF, 0xEFFFF⟩

theorem Does.cmdFinish {G : Foot} {z s : State} (h : Does G z s) (hg : Foot.cmdFinish.leB G = true) (e : ChEnd) (p : CmdPend) (src : Nat) (st : Status) (data : Option Word) : Does G z (State.cmdFinish s e p src st data) := by
  unfold State.cmdFinish
  with_reducible repeat' first
    | assumption
    | (extract_lets +onlyGivenNames a; first | (refine (fun (k : Does G z a) => ?_) ?_; rotate_left; unfold a; clear a; rotate_left; clear_value a; revert a; intros) | (clear_value a; revert a; intros))
    | refine Does.pendDrop ?_ (Foot.up hg (by decide)) _ _ | refine Does.cmdAnswered ?_ (Foot.up hg (by decide)) _ _ _
    | refine Does.pkgRun ?_ (Foot.up hg (by decide)) | refine Does.reqRun ?_ (Foot.up hg (by decide))
    | refine Does.sendUp ?_ (Foot.up hg (by decide)) _ _ _ | refine Does.fenceProgress ?_ (Foot.up hg (by decide)) _
    | (dsimp -zeta only) | refine Does.ite ?_ ?_ | refine Does.ite_snd ?_ ?_ | refine Foot.pick ?_ ?_ | split

def Foot.facErr : Foot := ⟨0x700400000000000000000000000000013020000C000000000, 0x7, 0x30⟩

theorem Does.facErr {G : Foot} {z s : State} (h : Does G z s) (hg : Foot.facErr.leB G = true) (k : Nat) : Does G z (State.facErr s k) := by
  unfold State.facErr
  with_reducible repeat' first
    | assumption | refine Does.incSat ?_ ?_ _ _ _ | refine Does.event ?_ (Foot.up hg (by decide)) _ _
    | exact Foot.upR hg (by decide)

def Foot.facMsg : Foot := ⟨0x700400000000000000000000000000013020000C000000000, 0x7, 0x30⟩

theorem Does.facMsg {G : Foot} {z s : State} (h : Does G z s) (hg : Foot.facMsg.leB G = true) (m : FacMsg) (op : State → State) (hop : ∀ x0, Does G z x0 → Does G z (op x0)) : Does G z (State.facMsg s m op) := by
  unfold State.facMsg
  with_reducible repeat' first
    | assumption | refine Does.emit ?_ _ | refine Does.facErr ?_ (Foot.up hg (by decide)) _ | refine hop _ ?_
    | (dsimp -zeta only) | refine Does.ite ?_ ?_ | refine Does.ite_snd ?_ ?_ | refine Foot.pick ?_ ?_ | split

def Foot.facSend : Foot := ⟨0, 0, 0⟩

theorem Does.facSend {G : Foot} {z s : State} (h : Does G z s) (hg : Foot.facSend.leB G = true) (b : List Byte) : Does G z (State.facSend s b) := by
  unfold State.facSend
  with_reducible repeat' first
    | assumption | refine Does.emit ?_ _

def Foot.vendor : Foot := ⟨0x700400000000000000000000000000013020000C000000000, 0x7, 0x30⟩

theorem Does.vendor {G : Foot} {z s : State} (h : Does G z s) (hg : Foot.vendor.leB G = true) (m : FacMsg) (opcode : Nat) (tag : Nat) (op : State → Status × List Byte × State) (hop : ∀ x0, Does G z x0 → Does G z (op x0).2.2) : Does G z (State.vendor s m opcode tag op) := by
  unfold State.vendor
  with_reducible repeat' first
    | assumption
    | (extract_lets +onlyGivenNames a; first | (refine (fun (k : Does G z a) => ?_) ?_; rotate_left; unfold a; clear a; rotate_left; clear_value a; revert a; intros) | (clear_value a; revert a; intros))
    | refine Does.facMsg ?_ (Foot.up hg (by decide)) _ _ (fun _ _ => ?_) | refine Does.facSend ?_ (Foot.up hg (by decide)) _
    | refine hop _ ?_

def Foot.writeWords : Foot := ⟨0, 0, 0⟩

theorem Does.writeWords {G : Foot} {z s : State} (h : Does G z s) (hg : Foot.writeWords.leB G = true) (f : State → Word → Status × State)
    (hf : ∀ x0 x1, Does G z x0 → Does G z (f x0 x1).2) (l : List Word) : Does G z (State.writeWords s f l).2 := by
  induction l generalizing s with
  | nil => exact h
  | cons w l ih =>
    unfold State.writeWords
    repeat' first
      | with_reducible assumption | with_reducible refine ih ?_ | with_reducible refine hf _ _ ?_ | (dsimp -zeta only) | split

def Foot.standard : Foot := ⟨0, 0, 0⟩

theorem Does.standard {G : Foot} {z s : State} (h : Does G z s) (hg : Foot.standard.leB G = true) (name : String) (content : List Byte) : Does G z (State.standard s name content) := by
  unfold State.standard
  with_reducible repeat' first
    | assumption | refine Does.facSend ?_ (Foot.up hg (by decide)) _

def Foot.spdmError : Foot := ⟨0, 0, 0⟩

theorem Does.spdmError {G : Foot} {z s : State} (h : Does G z s) (hg : Foot.spdmError.leB G = true) (code : String) : Does G z (State.spdmError s code) := by
  unfold State.spdmError
  with_reducible repeat' first
    | assumption | refine Does.standard ?_ (Foot.up hg (by decide)) _ _

def Foot.spdmAt : Foot := ⟨0, 0, 0⟩

theorem Does.spdmAt {G : Foot} {z s : State} (h : Does G z s) (hg : Foot.spdmAt.leB G = true) (n : Nat) (op : State → State) (hop : ∀ x0, Does G z x0 → Does G z (op x0)) : Does G z (State.spdmAt s n op) := by
  unfold State.spdmAt
  with_reducible repeat' first
    | assumption | refine Does.spdmError ?_ (Foot.up hg (by decide)) _ | refine hop _ ?_ | (dsimp -zeta only)
    | refine Does.ite ?_ ?_

def Foot.spdmSigned : Foot := ⟨0, 0, 0⟩

theorem Does.spdmSigned {G : Foot} {z s : State} (h : Does G z s) (hg : Foot.spdmSigned.leB G = true) (name : String) (content : List Byte) : Does G z (State.spdmSigned s name content) := by
  unfold State.spdmSigned
  with_reducible repeat' first
    | assumption | refine Does.facSend ?_ (Foot.up hg (by decide)) _

def Foot.sesSet : Foot := ⟨0x4000000000, 0x80000000000000000000000000000000000000000000000000000000000000000000, 0⟩

theorem Does.sesSet {G : Foot} {z s : State} (h : Does G z s) (hg : Foot.sesSet.leB G = true) (k : Nat) (n : Nat) : Does G z (State.sesSet s k n) := by
  unfold State.sesSet
  with_reducible repeat' first
    | assumption
    | (extract_lets +onlyGivenNames a; first | (refine (fun (k : Does G z a) => ?_) ?_; rotate_left; unfold a; clear a; rotate_left; clear_value a; revert a; intros) | (clear_value a; revert a; intros))
    | refine Does.wr ?_ ?_ _ _ _ | refine Does.setV ?_ ?_ _ _ _ | exact Foot.upR hg (by decide) | exact Foot.upV hg (by decide)

def Foot.inSession : Foot := ⟨0, 0, 0⟩

theorem Does.inSession {G : Foot} {z s : State} (h : Does G z s) (hg : Foot.inSession.leB G = true) (m : FacMsg) (op : Nat → State → State) (hop : ∀ x0 x1, Does G z x1 → Does G z (op x0 x1)) : Does G z (State.inSession s m op) := by
  unfold State.inSession
  with_reducible repeat' first
    | assumption | refine Does.spdmError ?_ (Foot.up hg (by decide)) _ | refine hop _ _ ?_ | (dsimp -zeta only) | split

def Foot.pmbus : Foot := ⟨0x700400000000000000000000000000013020000C000000000, 0x7, 0x30⟩

theorem Does.pmbus {G : Foot} {z s : State} (h : Does G z s) (hg : Foot.pmbus.leB G = true) (pec : Bool) (op : State → State) (hop : ∀ x0, Does G z x0 → Does G z (op x0)) : Does G z (State.pmbus s pec op) := by
  unfold State.pmbus
  with_reducible repeat' first
    | assumption | refine Does.emit ?_ _ | refine Does.facErr ?_ (Foot.up hg (by decide)) _ | refine hop _ ?_
    | (dsimp -zeta only) | refine Does.ite ?_ ?_

def Foot.pmbWord : Foot := ⟨0, 0, 0⟩

theorem Does.pmbWord {G : Foot} {z s : State} (h : Does G z s) (hg : Foot.pmbWord.leB G = true) (w : Nat) : Does G z (State.pmbWord s w) := by
  unfold State.pmbWord
  with_reducible repeat' first
    | assumption | refine Does.facSend ?_ (Foot.up hg (by decide)) _

def Foot.dynAddr : Foot := ⟨0x4000000000, 0x100000000000000000000000000000000000000000000000000000000000000000000, 0⟩

theorem Does.dynAddr {G : Foot} {z s : State} (h : Does G z s) (hg : Foot.dynAddr.leB G = true) (da : Nat) (ibi : Bool) : Does G z (State.dynAddr s da ibi) := by
  unfold State.dynAddr
  with_reducible repeat' first
    | assumption | refine Does.wr ?_ ?_ _ _ _ | refine Does.setV ?_ ?_ _ _ _ | exact Foot.upR hg (by decide)
    | exact Foot.upV hg (by decide)

def Foot.bankReject : Foot := ⟨0x7004000000000000000000000000000130200108000000000, 0x7, 0x31⟩

theorem Does.bankReject {G : Foot} {z s : State} (h : Does G z s) (hg : Foot.bankReject.leB G = true) (k : Nat) : Does G z (State.bankReject s k) := by
  unfold State.bankReject
  with_reducible repeat' first
    | assumption
    | (refine Does.setBank ?_ (Foot.upP hg (by decide)) _ _ ?_; rotate_left; with_unfolding_all first | exact fun c => Mem.wf_writeBytes _ _ _ (State.Canon.bank c _) | exact fun c => State.Canon.bank c _ | exact fun _ => (rfl : Mem.wf [] = true))
    | refine Does.fallbackShow ?_ (Foot.up hg (by decide)) | refine Does.event ?_ (Foot.up hg (by decide)) _ _

def Foot.bankEcc : Foot := ⟨0x3CB7544350407703F000010020000671FC130200179C00C22868, 0x4200000070201F8100008020140000021C6000DF0C0A300048000027601E00DC040C0000000008000000F37, 0x41DFB⟩

theorem Does.bankEcc {G : Foot} {z s : State} (h : Does G z s) (hg : Foot.bankEcc.leB G = true) (k : Nat) (off : Nat) : Does G z (State.bankEcc s k off) := by
  unfold State.bankEcc
  with_reducible repeat' first
    | assumption | refine Does.flag ?_ ?_ _ _ _ | refine Does.setV ?_ ?_ _ _ _
    | refine Does.checkEnd ?_ (Foot.up hg (by decide)) _ | refine Does.verifyFail ?_ (Foot.up hg (by decide)) _ _ _ _
    | refine Does.bankReject ?_ (Foot.up hg (by decide)) _ | refine Does.failEnter ?_ (Foot.up hg (by decide)) _
    | refine Does.event ?_ (Foot.up hg (by decide)) _ _ | exact Foot.upR hg (by decide) | exact Foot.upV hg (by decide)
    | (dsimp -zeta only) | refine Does.ite ?_ ?_ | refine Does.ite_snd ?_ ?_ | refine Foot.pick ?_ ?_ | split

def Foot.objEcc : Foot := ⟨0x3CB7004310007703F00001000000006000130200079800422060, 0xD904FFB0004000000000060014000C0000000000000000007, 0x40CB0⟩

theorem Does.objEcc {G : Foot} {z s : State} (h : Does G z s) (hg : Foot.objEcc.leB G = true) (o : Nat) (first : Bool) : Does G z (State.objEcc s o first) := by
  unfold State.objEcc
  with_reducible repeat' first
    | assumption
    | (extract_lets +onlyGivenNames a; first | (refine (fun (k : Does G z a) => ?_) ?_; rotate_left; unfold a; clear a; rotate_left; clear_value a; revert a; intros) | (clear_value a; revert a; intros))
    | refine Does.wr ?_ ?_ _ _ _ | (refine Does.when ?_ _ _ fun _ _ => ?_) | refine Does.freshFree ?_ (Foot.upP hg (by decide))
    | refine Does.objBreak ?_ (Foot.up hg (by decide)) _ | refine Does.breakSend ?_ (Foot.up hg (by decide)) _ _ _
    | refine Does.objZero ?_ (Foot.up hg (by decide)) _ | refine Does.event ?_ (Foot.up hg (by decide)) _ _
    | refine Does.syncFlush ?_ (Foot.up hg (by decide)) | exact Foot.upR hg (by decide)

def Foot.watchEcc : Foot := ⟨0x3CB7004310007703F00001000000006000130200079800422060, 0xD9040A30004000000000060014000C0000000000000000007, 0x40CB0⟩

theorem Does.watchEcc {G : Foot} {z s : State} (h : Does G z s) (hg : Foot.watchEcc.leB G = true) (i : Nat) : Does G z (State.watchEcc s i) := by
  unfold State.watchEcc
  with_reducible repeat' first
    | assumption
    | (extract_lets +onlyGivenNames a; first | (refine (fun (k : Does G z a) => ?_) ?_; rotate_left; unfold a; clear a; rotate_left; clear_value a; revert a; intros) | (clear_value a; revert a; intros))
    | (refine Does.when ?_ _ _ fun _ _ => ?_) | (refine Does.each ?_ _ _ fun _ _ _ _ => ?_)
    | refine Does.setWatches ?_ (Foot.up hg (by decide)) _ | refine Does.objBreak ?_ (Foot.up hg (by decide)) _
    | refine Does.breakSend ?_ (Foot.up hg (by decide)) _ _ _ | refine Does.event ?_ (Foot.up hg (by decide)) _ _
    | refine Does.syncFlush ?_ (Foot.up hg (by decide))

def Foot.strEcc : Foot := ⟨0x3407004010001003E00015002007F00000130200078000430C40, 0xA0200000000000000000000000000000000000070C0810005A000000E100000000000000000000000000007, 0x404F0⟩

theorem Does.strEcc {G : Foot} {z s : State} (h : Does G z s) (hg : Foot.strEcc.leB G = true) (c : Nat) (p : Nat) : Does G z (State.strEcc s c p) := by
  unfold State.strEcc
  with_reducible repeat' first
    | assumption
    | (extract_lets +onlyGivenNames a; first | (refine (fun (k : Does G z a) => ?_) ?_; rotate_left; unfold a; clear a; rotate_left; clear_value a; revert a; intros) | (clear_value a; revert a; intros))
    | refine Does.flag ?_ ?_ _ _ _ | refine Does.entryInv ?_ (Foot.up hg (by decide)) _ _ | refine Does.incSat ?_ ?_ _ _ _
    | refine Does.event ?_ (Foot.up hg (by decide)) _ _ | refine Does.slotShape ?_ (Foot.up hg (by decide)) _
    | exact Foot.upR hg (by decide)

def Foot.storeEcc : Foot := ⟨0x3CB7544350407703F00015002007F671FC130200179C30C32C68, 0xE220000070201F8100008020140000021C6000DF0CFFB0005A000027E11E00DC040C0000000008000000F37, 0x41DFB⟩

theorem Does.storeEcc {G : Foot} {z s : State} (h : Does G z s) (hg : Foot.storeEcc.leB G = true) (k : Nat) (n : Nat) : Does G z (State.storeEcc s k n) := by
  unfold State.storeEcc
  with_reducible repeat' first
    | assumption
    | (extract_lets +onlyGivenNames a; first | (refine (fun (k : Does G z a) => ?_) ?_; rotate_left; unfold a; clear a; rotate_left; clear_value a; revert a; intros) | (clear_value a; revert a; intros))
    | refine Does.flag ?_ ?_ _ _ _ | refine Does.incSat ?_ ?_ _ _ _ | refine Does.bankEcc ?_ (Foot.up hg (by decide)) _ _
    | refine Does.objEcc ?_ (Foot.up hg (by decide)) _ _ | refine Does.watchEcc ?_ (Foot.up hg (by decide)) _
    | refine Does.strEcc ?_ (Foot.up hg (by decide)) _ _ | exact Foot.upR hg (by decide) | (dsimp -zeta only) | split

def Foot.scrubNext : Foot := ⟨0x10000000, 0x700000000000000000000000000000000000000000000000000000000000000000000000000000, 0⟩

theorem Does.scrubNext {G : Foot} {z s : State} (h : Does G z s) (hg : Foot.scrubNext.leB G = true) : Does G z (State.scrubNext s) := by
  unfold State.scrubNext
  with_reducible repeat' first
    | assumption
    | (extract_lets +onlyGivenNames a; first | (refine (fun (k : Does G z a) => ?_) ?_; rotate_left; unfold a; clear a; rotate_left; clear_value a; revert a; intros) | (clear_value a; revert a; intros))
    | refine Does.wr ?_ ?_ _ _ _ | refine Does.bgEnd ?_ (Foot.up hg (by decide)) _ | exact Foot.upR hg (by decide)
    | (dsimp -zeta only) | refine Does.ite ?_ ?_

def Foot.wordRead : Foot := ⟨0x3CB75443FFFFFFFFFFFD950060B7F7FDFFF30200179C30C32C68, 0x3B8FFE24637F8613F8100008023FCFC0FFE1FFFFEDF0DFFB0FF5AF8BFFFE11E01FFFFFFFFFF8060083C1FFEFF7, 0x45DFB⟩

theorem Does.wordRead {G : Foot} {z s : State} (h : Does G z s) (hg : Foot.wordRead.leB G = true) (k : Nat) (n : Nat) (err : Nat) : Does G z (State.wordRead s k n err) := by
  unfold State.wordRead
  with_reducible repeat' first
    | assumption | refine Does.incSat ?_ ?_ _ _ _ | refine Does.storeEcc ?_ (Foot.up hg (by decide)) _ _
    | refine Does.pkgRun ?_ (Foot.up hg (by decide)) | exact Foot.upR hg (by decide) | (dsimp -zeta only) | split


end Sys2Proof.Machine
end

