-- ==== Sys2Proof/Laws/Port.lean ====
section
/-!
SUPPORT. The laws of a port's commands: what State.command comes to, and what a port is told.
-/
namespace Sys2Proof.Machine

variable {s : State} {p : Port}

/-- What does not depend on the stamp at which a command starts. -/
@[simp] theorem State.hubUp_start (s : State) (t : Nat) : (s.start t).hubUp = s.hubUp := rfl
@[simp] theorem State.pkg_start (s : State) (t : Nat) : (s.start t).pkg = s.pkg := rfl
@[simp] theorem State.vn_start (s : State) (t : Nat) (x : Var) (i j : Nat) : (s.start t).vn x i j = s.vn x i j := rfl
@[simp] theorem State.is_start (s : State) (t : Nat) (f : Fld) (i j : Nat) : (s.start t).is f i j = s.is f i j := rfl
@[simp] theorem State.reg_start (s : State) (t : Nat) (r : Reg) (i j : Nat) : (s.start t).reg r i j = s.reg r i j := rfl

/-- A command that the hub takes: its operation, then the answer. -/
theorem State.command_takes (h : Takes s p) (t : Nat) (r : Reg) (op : State → Status × State) (i j : Nat) :
    (s.start t).command p r op i j = (op (s.start t)).2.answer p r (op (s.start t)).1 i j := by
  obtain ⟨hu, hp⟩ := h
  simp [State.command, hu, hp]

/-- A command without the privileged window. -/
theorem State.command_noPriv (hu : s.hubUp = true) (hp : p.priv = false) (t : Nat) (r : Reg) (op : State → Status × State) (i j : Nat) :
    (s.start t).command p r op i j = (s.start t).answer p r .ePriv i j := by
  simp [State.command, hu, hp]

/-- A command while no hub runs. -/
theorem State.command_dead (hu : s.hubUp = false) (t : Nat) (r : Reg) (op : State → Status × State) (i j : Nat) :
    (s.start t).command p r op i j = (s.start t).deadAnswer p := by
  simp [State.command, hu]

theorem out_hostErr (s : State) (a init : Nat) (w q : Bool) (st : Status) : (s.hostErr a init w q st).out = s.out := rfl

/-- Whoever sent a request is told its answer. -/
theorem told_answerD (s : State) (p : Port) (a : Nat) (w : Bool) (st : Status) (d : Word) :
    Told p st (if st = .ok then d else 0) (s.answerD p a w st d) := by
  cases p with
  | reg init priv =>
    simp only [Told, State.answerD]
    split
    · simp [State.emit]
    · simp [State.emit, out_hostErr]
  | posted init priv => trivial
  | fac => simp [Told, State.answerD, State.emit]

/-- Whoever sent a command is told its answer. -/
theorem told_answer (s : State) (p : Port) (r : Reg) (st : Status) (i j : Nat) : Told p st 0 (s.answer p r st i j) := by
  have h := told_answerD s p (regAddr r i j) true st 0
  unfold State.answer State.answerReg
  cases p with
  | reg init priv =>
    dsimp only
    split
    · exact .inr ⟨_, List.mem_append_right _ List.mem_cons_self, rfl, rfl, rfl, by simp⟩
    · simpa using h
  | posted init priv => trivial
  | fac => simpa using h

/-- The answer of a command that was taken. -/
theorem told_command (h : Takes s p) (t : Nat) (r : Reg) (op : State → Status × State) (i j : Nat) :
    Told p (op (s.start t)).1 0 ((s.start t).command p r op i j) := by
  rw [State.command_takes h]
  exact told_answer ..

end Sys2Proof.Machine
end

