-- ==== Sys2Proof/Laws/Reads.lean ====
section
/-!
SUPPORT. Reads after work by cases and after a run over a list.
-/
namespace Sys2Proof.Machine

/-- A key whose values are dropped reads as one that was never set. -/
theorem KMap.get_filter_gone {ν α : Type} [DecidableEq ν] (dflt : Key ν → α) (m : KMap ν α) (p : Key ν × α → Bool) (k : Key ν)
    (h : ∀ v, p (k, v) = false) : KMap.get dflt (m.filter p) k = dflt k := by
  have e : KMap.find? (m.filter p) k = none := by
    induction m with
    | nil => rfl
    | cons x r ih =>
      obtain ⟨q, v⟩ := x
      by_cases hp : p (q, v) = true
      · have hq : q ≠ k := by
          intro e
          subst e
          simp [h] at hp
        simp [List.filter, hp, KMap.find?, hq, ih]
      · simp [List.filter, hp, ih]
  simp only [KMap.get, e, Option.getD_none]

theorem State.rd_ite (c : Prop) [Decidable c] (a b : State) (f : Fld) (i j : Nat) :
    (if c then a else b).rd f i j = if c then a.rd f i j else b.rd f i j := by
  split <;> rfl

theorem State.v_ite (c : Prop) [Decidable c] (a b : State) (x : Var) (i j : Nat) :
    (if c then a else b).v x i j = if c then a.v x i j else b.v x i j := by
  split <;> rfl

theorem State.reg_ite (c : Prop) [Decidable c] (a b : State) (r : Reg) (i j : Nat) :
    (if c then a else b).reg r i j = if c then a.reg r i j else b.reg r i j := by
  split <;> rfl

/-- Work for a member of a list leaves a register. -/
def SparesReg {α : Type} (l : List α) (op : State → α → State) (r : Reg) (i j : Nat) : Prop :=
  ∀ u x, x ∈ l → (op u x).reg r i j = u.reg r i j

/-- Work for a member of a list leaves a field. -/
def SparesR {α : Type} (l : List α) (op : State → α → State) (f : Fld) (i j : Nat) : Prop :=
  ∀ u x, x ∈ l → (op u x).rd f i j = u.rd f i j

/-- Work for a member of a list leaves a variable. -/
def SparesV {α : Type} (l : List α) (op : State → α → State) (x : Var) (i j : Nat) : Prop :=
  ∀ u y, y ∈ l → (op u y).v x i j = u.v x i j

theorem State.rd_each {α : Type} (s : State) (l : List α) (op : State → α → State) (f : Fld) (i j : Nat) (h : SparesR l op f i j) :
    (s.each l op).rd f i j = s.rd f i j := by
  unfold State.each
  induction l generalizing s with
  | nil => rfl
  | cons x r ih =>
    rw [List.foldl_cons, ih _ fun u y hy => h u y (List.mem_cons_of_mem _ hy)]
    exact h s x List.mem_cons_self

theorem State.v_each {α : Type} (s : State) (l : List α) (op : State → α → State) (x : Var) (i j : Nat) (h : SparesV l op x i j) :
    (s.each l op).v x i j = s.v x i j := by
  unfold State.each
  induction l generalizing s with
  | nil => rfl
  | cons y r ih =>
    rw [List.foldl_cons, ih _ fun u w hw => h u w (List.mem_cons_of_mem _ hw)]
    exact h s y List.mem_cons_self

theorem State.reg_each {α : Type} (s : State) (l : List α) (op : State → α → State) (r : Reg) (i j : Nat)
    (h : SparesReg l op r i j) : (s.each l op).reg r i j = s.reg r i j := by
  unfold State.each
  induction l generalizing s with
  | nil => rfl
  | cons y q ih =>
    rw [List.foldl_cons, ih _ fun u w hw => h u w (List.mem_cons_of_mem _ hw)]
    exact h s y List.mem_cons_self

@[simp] theorem State.reg_setV (s : State) (x : Var) (y : Int) (i j : Nat) (r : Reg) (a b : Nat) :
    (s.setV x y i j).reg r a b = s.reg r a b := rfl

/-- Another register reads as before. -/
theorem State.reg_wr_reg (s : State) (f : Fld) (v i j : Nat) (r : Reg) (a b : Nat) (h : r ≠ f.r) :
    (s.wr f v i j).reg r a b = s.reg r a b := s.reg_setReg_reg _ _ _ _ _ _ _ h

/-- What changes no register. -/
theorem State.reg_mk (s : State) (vars : VarFile) (time : Nat) (img : ImgSt) (evt : Evt) (trc : Trc) (chan : ChanSt)
    (grants sentGrants : List Grant) (recs : List Rec) (recFly : Option RecFly) (ringLoss : List RingLoss) (marks : List HeldMark)
    (sync : SyncSt) (posted : List PostedWr) (reqWait : List RegReq) (latch : LatchSt) (slotActs : List (Nat × Act)) (fac : FacSt) (mir : MirSt)
    (free : Nat) (setNow : List (RegKey × Nat)) (lanes : List LaneMsg) (ansHeld : List AnsHeld) (pending : List Instr) (out : List Out) (r : Reg) (i j : Nat) :
    State.reg ⟨s.regs, vars, time, img, evt, trc, chan, grants, sentGrants, recs, recFly, ringLoss, marks, sync, posted, reqWait,
      latch, slotActs, fac, mir, free, setNow, lanes, ansHeld, pending, out⟩ r i j = s.reg r i j := rfl

/-- What changes no register. -/
theorem State.rd_mk (s : State) (vars : VarFile) (time : Nat) (img : ImgSt) (evt : Evt) (trc : Trc) (chan : ChanSt)
    (grants sentGrants : List Grant) (recs : List Rec) (recFly : Option RecFly) (ringLoss : List RingLoss) (marks : List HeldMark)
    (sync : SyncSt) (posted : List PostedWr) (reqWait : List RegReq) (latch : LatchSt) (slotActs : List (Nat × Act)) (fac : FacSt) (mir : MirSt)
    (free : Nat) (setNow : List (RegKey × Nat)) (lanes : List LaneMsg) (ansHeld : List AnsHeld) (pending : List Instr) (out : List Out) (f : Fld) (i j : Nat) :
    State.rd ⟨s.regs, vars, time, img, evt, trc, chan, grants, sentGrants, recs, recFly, ringLoss, marks, sync, posted, reqWait,
      latch, slotActs, fac, mir, free, setNow, lanes, ansHeld, pending, out⟩ f i j = s.rd f i j := rfl

/-- What changes no variable. -/
theorem State.v_mk (s : State) (regs : RegFile) (time : Nat) (img : ImgSt) (evt : Evt) (trc : Trc) (chan : ChanSt)
    (grants sentGrants : List Grant) (recs : List Rec) (recFly : Option RecFly) (ringLoss : List RingLoss) (marks : List HeldMark)
    (sync : SyncSt) (posted : List PostedWr) (reqWait : List RegReq) (latch : LatchSt) (slotActs : List (Nat × Act)) (fac : FacSt) (mir : MirSt)
    (free : Nat) (setNow : List (RegKey × Nat)) (lanes : List LaneMsg) (ansHeld : List AnsHeld) (pending : List Instr) (out : List Out) (x : Var) (i j : Nat) :
    State.v ⟨regs, s.vars, time, img, evt, trc, chan, grants, sentGrants, recs, recFly, ringLoss, marks, sync, posted, reqWait,
      latch, slotActs, fac, mir, free, setNow, lanes, ansHeld, pending, out⟩ x i j = s.v x i j := rfl

theorem State.part_ite (c : Prop) [Decidable c] (a b : State) (q : Part) :
    (if c then a else b).part q = if c then a.part q else b.part q := by
  split <;> rfl

/-- Work for a member of a list leaves a part. -/
def SparesP {α : Type} (l : List α) (op : State → α → State) (q : Part) : Prop :=
  ∀ u x, x ∈ l → (op u x).part q = u.part q

theorem State.part_each {α : Type} (s : State) (l : List α) (op : State → α → State) (q : Part) (h : SparesP l op q) :
    (s.each l op).part q = s.part q := by
  unfold State.each
  induction l generalizing s with
  | nil => rfl
  | cons x r ih =>
    rw [List.foldl_cons, ih _ fun u y hy => h u y (List.mem_cons_of_mem _ hy)]
    exact h s x List.mem_cons_self

@[simp] theorem State.part_setV (s : State) (x : Var) (y : Int) (i j : Nat) (q : Part) : (s.setV x y i j).part q = s.part q := by
  cases q <;> rfl

@[simp] theorem State.part_setReg (s : State) (r : Reg) (w : Word) (i j : Nat) (q : Part) : (s.setReg r w i j).part q = s.part q := by
  cases q <;> rfl

@[simp] theorem State.part_wr (s : State) (f : Fld) (v i j : Nat) (q : Part) : (s.wr f v i j).part q = s.part q := by
  cases q <;> rfl

@[simp] theorem State.part_flag (s : State) (f : Fld) (i j m : Nat) (q : Part) : (s.flag f i j m).part q = s.part q := by
  cases q <;> rfl

@[simp] theorem State.part_dropV (s : State) (x : Var) (i : Nat) (sel : Nat → Bool) (q : Part) : (s.dropV x i sel).part q = s.part q := by
  cases q <;> rfl

@[simp] theorem State.part_emit (s : State) (o : Out) (q : Part) : (s.emit o).part q = s.part q := by
  cases q <;> rfl

@[simp] theorem State.part_start (s : State) (t : Nat) (q : Part) : (s.start t).part q = s.part q := by
  cases q <;> rfl

end Sys2Proof.Machine
end

