-- ==== Sys2Proof/Laws/ReadsA.lean ====
section
/-!
SUPPORT. What work outside whose footprint a register or a variable lies leaves of its reads, for the operations of FootA.
-/
namespace Sys2Proof.Machine

variable {s : State} {fl : Fld} {ra : Reg} {va : Var} {pa : Part} {i0 j0 : Nat}

@[simp] theorem State.rd_hostErr (addr : Nat) (init : Nat) (wrt : Bool) (posted : Bool) (st : Status) (hn : Foot.hostErr.hasR fl.r = false) : (State.hostErr s addr init wrt posted st).rd fl i0 j0 = s.rd fl i0 j0 :=
  (Does.hostErr (Does.refl _ s) (Foot.le_refl _) _ _ _ _ _).rd hn _ _
@[simp] theorem State.reg_hostErr (addr : Nat) (init : Nat) (wrt : Bool) (posted : Bool) (st : Status) (hn : Foot.hostErr.hasR ra = false) : (State.hostErr s addr init wrt posted st).reg ra i0 j0 = s.reg ra i0 j0 :=
  (Does.hostErr (Does.refl _ s) (Foot.le_refl _) _ _ _ _ _).reg hn _ _
@[simp] theorem State.v_hostErr (addr : Nat) (init : Nat) (wrt : Bool) (posted : Bool) (st : Status) (hn : Foot.hostErr.hasV va = false) : (State.hostErr s addr init wrt posted st).v va i0 j0 = s.v va i0 j0 :=
  (Does.hostErr (Does.refl _ s) (Foot.le_refl _) _ _ _ _ _).v hn _ _
@[simp] theorem State.part_hostErr (addr : Nat) (init : Nat) (wrt : Bool) (posted : Bool) (st : Status) (hn : Foot.hostErr.hasP pa = false) : (State.hostErr s addr init wrt posted st).part pa = s.part pa :=
  (Does.hostErr (Does.refl _ s) (Foot.le_refl _) _ _ _ _ _).parts pa hn
@[simp] theorem State.rd_answerD (p : Port) (addr : Nat) (wrt : Bool) (st : Status) (data : Word) (hn : Foot.answerD.hasR fl.r = false) : (State.answerD s p addr wrt st data).rd fl i0 j0 = s.rd fl i0 j0 :=
  (Does.answerD (Does.refl _ s) (Foot.le_refl _) _ _ _ _ _).rd hn _ _
@[simp] theorem State.reg_answerD (p : Port) (addr : Nat) (wrt : Bool) (st : Status) (data : Word) (hn : Foot.answerD.hasR ra = false) : (State.answerD s p addr wrt st data).reg ra i0 j0 = s.reg ra i0 j0 :=
  (Does.answerD (Does.refl _ s) (Foot.le_refl _) _ _ _ _ _).reg hn _ _
@[simp] theorem State.v_answerD (p : Port) (addr : Nat) (wrt : Bool) (st : Status) (data : Word) (hn : Foot.answerD.hasV va = false) : (State.answerD s p addr wrt st data).v va i0 j0 = s.v va i0 j0 :=
  (Does.answerD (Does.refl _ s) (Foot.le_refl _) _ _ _ _ _).v hn _ _
@[simp] theorem State.part_answerD (p : Port) (addr : Nat) (wrt : Bool) (st : Status) (data : Word) (hn : Foot.answerD.hasP pa = false) : (State.answerD s p addr wrt st data).part pa = s.part pa :=
  (Does.answerD (Does.refl _ s) (Foot.le_refl _) _ _ _ _ _).parts pa hn
@[simp] theorem State.rd_answerReg (p : Port) (r : Reg) (addr : Nat) (wrt : Bool) (st : Status) (data : Word) (hn : Foot.answerReg.hasR fl.r = false) : (State.answerReg s p r addr wrt st data).rd fl i0 j0 = s.rd fl i0 j0 :=
  (Does.answerReg (Does.refl _ s) (Foot.le_refl _) _ _ _ _ _ _).rd hn _ _
@[simp] theorem State.reg_answerReg (p : Port) (r : Reg) (addr : Nat) (wrt : Bool) (st : Status) (data : Word) (hn : Foot.answerReg.hasR ra = false) : (State.answerReg s p r addr wrt st data).reg ra i0 j0 = s.reg ra i0 j0 :=
  (Does.answerReg (Does.refl _ s) (Foot.le_refl _) _ _ _ _ _ _).reg hn _ _
@[simp] theorem State.v_answerReg (p : Port) (r : Reg) (addr : Nat) (wrt : Bool) (st : Status) (data : Word) (hn : Foot.answerReg.hasV va = false) : (State.answerReg s p r addr wrt st data).v va i0 j0 = s.v va i0 j0 :=
  (Does.answerReg (Does.refl _ s) (Foot.le_refl _) _ _ _ _ _ _).v hn _ _
@[simp] theorem State.part_answerReg (p : Port) (r : Reg) (addr : Nat) (wrt : Bool) (st : Status) (data : Word) (hn : Foot.answerReg.hasP pa = false) : (State.answerReg s p r addr wrt st data).part pa = s.part pa :=
  (Does.answerReg (Does.refl _ s) (Foot.le_refl _) _ _ _ _ _ _).parts pa hn
@[simp] theorem State.rd_answer (p : Port) (r : Reg) (st : Status) (i : Nat) (j : Nat) (hn : Foot.answer.hasR fl.r = false) : (State.answer s p r st i j).rd fl i0 j0 = s.rd fl i0 j0 :=
  (Does.answer (Does.refl _ s) (Foot.le_refl _) _ _ _ _ _).rd hn _ _
@[simp] theorem State.reg_answer (p : Port) (r : Reg) (st : Status) (i : Nat) (j : Nat) (hn : Foot.answer.hasR ra = false) : (State.answer s p r st i j).reg ra i0 j0 = s.reg ra i0 j0 :=
  (Does.answer (Does.refl _ s) (Foot.le_refl _) _ _ _ _ _).reg hn _ _
@[simp] theorem State.v_answer (p : Port) (r : Reg) (st : Status) (i : Nat) (j : Nat) (hn : Foot.answer.hasV va = false) : (State.answer s p r st i j).v va i0 j0 = s.v va i0 j0 :=
  (Does.answer (Does.refl _ s) (Foot.le_refl _) _ _ _ _ _).v hn _ _
@[simp] theorem State.part_answer (p : Port) (r : Reg) (st : Status) (i : Nat) (j : Nat) (hn : Foot.answer.hasP pa = false) : (State.answer s p r st i j).part pa = s.part pa :=
  (Does.answer (Does.refl _ s) (Foot.le_refl _) _ _ _ _ _).parts pa hn
@[simp] theorem State.rd_deadAnswer (p : Port) (hn : Foot.deadAnswer.hasR fl.r = false) : (State.deadAnswer s p).rd fl i0 j0 = s.rd fl i0 j0 :=
  (Does.deadAnswer (Does.refl _ s) (Foot.le_refl _) _).rd hn _ _
@[simp] theorem State.reg_deadAnswer (p : Port) (hn : Foot.deadAnswer.hasR ra = false) : (State.deadAnswer s p).reg ra i0 j0 = s.reg ra i0 j0 :=
  (Does.deadAnswer (Does.refl _ s) (Foot.le_refl _) _).reg hn _ _
@[simp] theorem State.v_deadAnswer (p : Port) (hn : Foot.deadAnswer.hasV va = false) : (State.deadAnswer s p).v va i0 j0 = s.v va i0 j0 :=
  (Does.deadAnswer (Does.refl _ s) (Foot.le_refl _) _).v hn _ _
@[simp] theorem State.part_deadAnswer (p : Port) (hn : Foot.deadAnswer.hasP pa = false) : (State.deadAnswer s p).part pa = s.part pa :=
  (Does.deadAnswer (Does.refl _ s) (Foot.le_refl _) _).parts pa hn
@[simp] theorem State.rd_ansGive (hn : Foot.ansGive.hasR fl.r = false) : (State.ansGive s).rd fl i0 j0 = s.rd fl i0 j0 :=
  (Does.ansGive (Does.refl _ s) (Foot.le_refl _)).rd hn _ _
@[simp] theorem State.reg_ansGive (hn : Foot.ansGive.hasR ra = false) : (State.ansGive s).reg ra i0 j0 = s.reg ra i0 j0 :=
  (Does.ansGive (Does.refl _ s) (Foot.le_refl _)).reg hn _ _
@[simp] theorem State.v_ansGive (hn : Foot.ansGive.hasV va = false) : (State.ansGive s).v va i0 j0 = s.v va i0 j0 :=
  (Does.ansGive (Does.refl _ s) (Foot.le_refl _)).v hn _ _
@[simp] theorem State.part_ansGive (hn : Foot.ansGive.hasP pa = false) : (State.ansGive s).part pa = s.part pa :=
  (Does.ansGive (Does.refl _ s) (Foot.le_refl _)).parts pa hn
@[simp] theorem State.rd_answerAbsent (sel : Nat → Port → Bool) (hn : Foot.answerAbsent.hasR fl.r = false) : (State.answerAbsent s sel).rd fl i0 j0 = s.rd fl i0 j0 :=
  (Does.answerAbsent (Does.refl _ s) (Foot.le_refl _) _).rd hn _ _
@[simp] theorem State.reg_answerAbsent (sel : Nat → Port → Bool) (hn : Foot.answerAbsent.hasR ra = false) : (State.answerAbsent s sel).reg ra i0 j0 = s.reg ra i0 j0 :=
  (Does.answerAbsent (Does.refl _ s) (Foot.le_refl _) _).reg hn _ _
@[simp] theorem State.v_answerAbsent (sel : Nat → Port → Bool) (hn : Foot.answerAbsent.hasV va = false) : (State.answerAbsent s sel).v va i0 j0 = s.v va i0 j0 :=
  (Does.answerAbsent (Does.refl _ s) (Foot.le_refl _) _).v hn _ _
@[simp] theorem State.part_answerAbsent (sel : Nat → Port → Bool) (hn : Foot.answerAbsent.hasP pa = false) : (State.answerAbsent s sel).part pa = s.part pa :=
  (Does.answerAbsent (Does.refl _ s) (Foot.le_refl _) _).parts pa hn
@[simp] theorem State.rd_trcSync (hn : Foot.trcSync.hasR fl.r = false) : (State.trcSync s).rd fl i0 j0 = s.rd fl i0 j0 :=
  (Does.trcSync (Does.refl _ s) (Foot.le_refl _)).rd hn _ _
@[simp] theorem State.reg_trcSync (hn : Foot.trcSync.hasR ra = false) : (State.trcSync s).reg ra i0 j0 = s.reg ra i0 j0 :=
  (Does.trcSync (Does.refl _ s) (Foot.le_refl _)).reg hn _ _
@[simp] theorem State.v_trcSync (hn : Foot.trcSync.hasV va = false) : (State.trcSync s).v va i0 j0 = s.v va i0 j0 :=
  (Does.trcSync (Does.refl _ s) (Foot.le_refl _)).v hn _ _
@[simp] theorem State.part_trcSync (hn : Foot.trcSync.hasP pa = false) : (State.trcSync s).part pa = s.part pa :=
  (Does.trcSync (Does.refl _ s) (Foot.le_refl _)).parts pa hn
@[simp] theorem State.rd_trcStore (cls : Nat) (kind : Nat) (src : Nat) (time : Nat) (d0 : Nat) (d1 : Nat) (hn : Foot.trcStore.hasR fl.r = false) : (State.trcStore s cls kind src time d0 d1).rd fl i0 j0 = s.rd fl i0 j0 :=
  (Does.trcStore (Does.refl _ s) (Foot.le_refl _) _ _ _ _ _ _).rd hn _ _
@[simp] theorem State.reg_trcStore (cls : Nat) (kind : Nat) (src : Nat) (time : Nat) (d0 : Nat) (d1 : Nat) (hn : Foot.trcStore.hasR ra = false) : (State.trcStore s cls kind src time d0 d1).reg ra i0 j0 = s.reg ra i0 j0 :=
  (Does.trcStore (Does.refl _ s) (Foot.le_refl _) _ _ _ _ _ _).reg hn _ _
@[simp] theorem State.v_trcStore (cls : Nat) (kind : Nat) (src : Nat) (time : Nat) (d0 : Nat) (d1 : Nat) (hn : Foot.trcStore.hasV va = false) : (State.trcStore s cls kind src time d0 d1).v va i0 j0 = s.v va i0 j0 :=
  (Does.trcStore (Does.refl _ s) (Foot.le_refl _) _ _ _ _ _ _).v hn _ _
@[simp] theorem State.part_trcStore (cls : Nat) (kind : Nat) (src : Nat) (time : Nat) (d0 : Nat) (d1 : Nat) (hn : Foot.trcStore.hasP pa = false) : (State.trcStore s cls kind src time d0 d1).part pa = s.part pa :=
  (Does.trcStore (Does.refl _ s) (Foot.le_refl _) _ _ _ _ _ _).parts pa hn
@[simp] theorem State.rd_trcRaise (code : Nat) (inst : Nat) (hn : Foot.trcRaise.hasR fl.r = false) : (State.trcRaise s code inst).rd fl i0 j0 = s.rd fl i0 j0 :=
  (Does.trcRaise (Does.refl _ s) (Foot.le_refl _) _ _).rd hn _ _
@[simp] theorem State.reg_trcRaise (code : Nat) (inst : Nat) (hn : Foot.trcRaise.hasR ra = false) : (State.trcRaise s code inst).reg ra i0 j0 = s.reg ra i0 j0 :=
  (Does.trcRaise (Does.refl _ s) (Foot.le_refl _) _ _).reg hn _ _
@[simp] theorem State.v_trcRaise (code : Nat) (inst : Nat) (hn : Foot.trcRaise.hasV va = false) : (State.trcRaise s code inst).v va i0 j0 = s.v va i0 j0 :=
  (Does.trcRaise (Does.refl _ s) (Foot.le_refl _) _ _).v hn _ _
@[simp] theorem State.part_trcRaise (code : Nat) (inst : Nat) (hn : Foot.trcRaise.hasP pa = false) : (State.trcRaise s code inst).part pa = s.part pa :=
  (Does.trcRaise (Does.refl _ s) (Foot.le_refl _) _ _).parts pa hn
@[simp] theorem State.rd_trcDropShow (hn : Foot.trcDropShow.hasR fl.r = false) : (State.trcDropShow s).rd fl i0 j0 = s.rd fl i0 j0 :=
  (Does.trcDropShow (Does.refl _ s) (Foot.le_refl _)).rd hn _ _
@[simp] theorem State.reg_trcDropShow (hn : Foot.trcDropShow.hasR ra = false) : (State.trcDropShow s).reg ra i0 j0 = s.reg ra i0 j0 :=
  (Does.trcDropShow (Does.refl _ s) (Foot.le_refl _)).reg hn _ _
@[simp] theorem State.v_trcDropShow (hn : Foot.trcDropShow.hasV va = false) : (State.trcDropShow s).v va i0 j0 = s.v va i0 j0 :=
  (Does.trcDropShow (Does.refl _ s) (Foot.le_refl _)).v hn _ _
@[simp] theorem State.part_trcDropShow (hn : Foot.trcDropShow.hasP pa = false) : (State.trcDropShow s).part pa = s.part pa :=
  (Does.trcDropShow (Does.refl _ s) (Foot.le_refl _)).parts pa hn
@[simp] theorem State.rd_trcLossFrame (hn : Foot.trcLossFrame.hasR fl.r = false) : (State.trcLossFrame s).rd fl i0 j0 = s.rd fl i0 j0 :=
  (Does.trcLossFrame (Does.refl _ s) (Foot.le_refl _)).rd hn _ _
@[simp] theorem State.reg_trcLossFrame (hn : Foot.trcLossFrame.hasR ra = false) : (State.trcLossFrame s).reg ra i0 j0 = s.reg ra i0 j0 :=
  (Does.trcLossFrame (Does.refl _ s) (Foot.le_refl _)).reg hn _ _
@[simp] theorem State.v_trcLossFrame (hn : Foot.trcLossFrame.hasV va = false) : (State.trcLossFrame s).v va i0 j0 = s.v va i0 j0 :=
  (Does.trcLossFrame (Does.refl _ s) (Foot.le_refl _)).v hn _ _
@[simp] theorem State.part_trcLossFrame (hn : Foot.trcLossFrame.hasP pa = false) : (State.trcLossFrame s).part pa = s.part pa :=
  (Does.trcLossFrame (Does.refl _ s) (Foot.le_refl _)).parts pa hn
@[simp] theorem State.rd_trcDropUpdate (hn : Foot.trcDropUpdate.hasR fl.r = false) : (State.trcDropUpdate s).rd fl i0 j0 = s.rd fl i0 j0 :=
  (Does.trcDropUpdate (Does.refl _ s) (Foot.le_refl _)).rd hn _ _
@[simp] theorem State.reg_trcDropUpdate (hn : Foot.trcDropUpdate.hasR ra = false) : (State.trcDropUpdate s).reg ra i0 j0 = s.reg ra i0 j0 :=
  (Does.trcDropUpdate (Does.refl _ s) (Foot.le_refl _)).reg hn _ _
@[simp] theorem State.v_trcDropUpdate (hn : Foot.trcDropUpdate.hasV va = false) : (State.trcDropUpdate s).v va i0 j0 = s.v va i0 j0 :=
  (Does.trcDropUpdate (Does.refl _ s) (Foot.le_refl _)).v hn _ _
@[simp] theorem State.part_trcDropUpdate (hn : Foot.trcDropUpdate.hasP pa = false) : (State.trcDropUpdate s).part pa = s.part pa :=
  (Does.trcDropUpdate (Does.refl _ s) (Foot.le_refl _)).parts pa hn
@[simp] theorem State.rd_trcFreezeFor (cause : Nat) (hn : Foot.trcFreezeFor.hasR fl.r = false) : (State.trcFreezeFor s cause).rd fl i0 j0 = s.rd fl i0 j0 :=
  (Does.trcFreezeFor (Does.refl _ s) (Foot.le_refl _) _).rd hn _ _
@[simp] theorem State.reg_trcFreezeFor (cause : Nat) (hn : Foot.trcFreezeFor.hasR ra = false) : (State.trcFreezeFor s cause).reg ra i0 j0 = s.reg ra i0 j0 :=
  (Does.trcFreezeFor (Does.refl _ s) (Foot.le_refl _) _).reg hn _ _
@[simp] theorem State.v_trcFreezeFor (cause : Nat) (hn : Foot.trcFreezeFor.hasV va = false) : (State.trcFreezeFor s cause).v va i0 j0 = s.v va i0 j0 :=
  (Does.trcFreezeFor (Does.refl _ s) (Foot.le_refl _) _).v hn _ _
@[simp] theorem State.part_trcFreezeFor (cause : Nat) (hn : Foot.trcFreezeFor.hasP pa = false) : (State.trcFreezeFor s cause).part pa = s.part pa :=
  (Does.trcFreezeFor (Does.refl _ s) (Foot.le_refl _) _).parts pa hn
@[simp] theorem State.rd_trcCount (hn : Foot.trcCount.hasR fl.r = false) : (State.trcCount s).rd fl i0 j0 = s.rd fl i0 j0 :=
  (Does.trcCount (Does.refl _ s) (Foot.le_refl _)).rd hn _ _
@[simp] theorem State.reg_trcCount (hn : Foot.trcCount.hasR ra = false) : (State.trcCount s).reg ra i0 j0 = s.reg ra i0 j0 :=
  (Does.trcCount (Does.refl _ s) (Foot.le_refl _)).reg hn _ _
@[simp] theorem State.v_trcCount (hn : Foot.trcCount.hasV va = false) : (State.trcCount s).v va i0 j0 = s.v va i0 j0 :=
  (Does.trcCount (Does.refl _ s) (Foot.le_refl _)).v hn _ _
@[simp] theorem State.part_trcCount (hn : Foot.trcCount.hasP pa = false) : (State.trcCount s).part pa = s.part pa :=
  (Does.trcCount (Does.refl _ s) (Foot.le_refl _)).parts pa hn
@[simp] theorem State.rd_frame (cls : Nat) (kind : Nat) (src : Nat) (time : Nat) (d0 : Nat) (d1 : Nat) (hn : Foot.frame.hasR fl.r = false) : (State.frame s cls kind src time d0 d1).rd fl i0 j0 = s.rd fl i0 j0 :=
  (Does.frame (Does.refl _ s) (Foot.le_refl _) _ _ _ _ _ _).rd hn _ _
@[simp] theorem State.reg_frame (cls : Nat) (kind : Nat) (src : Nat) (time : Nat) (d0 : Nat) (d1 : Nat) (hn : Foot.frame.hasR ra = false) : (State.frame s cls kind src time d0 d1).reg ra i0 j0 = s.reg ra i0 j0 :=
  (Does.frame (Does.refl _ s) (Foot.le_refl _) _ _ _ _ _ _).reg hn _ _
@[simp] theorem State.v_frame (cls : Nat) (kind : Nat) (src : Nat) (time : Nat) (d0 : Nat) (d1 : Nat) (hn : Foot.frame.hasV va = false) : (State.frame s cls kind src time d0 d1).v va i0 j0 = s.v va i0 j0 :=
  (Does.frame (Does.refl _ s) (Foot.le_refl _) _ _ _ _ _ _).v hn _ _
@[simp] theorem State.part_frame (cls : Nat) (kind : Nat) (src : Nat) (time : Nat) (d0 : Nat) (d1 : Nat) (hn : Foot.frame.hasP pa = false) : (State.frame s cls kind src time d0 d1).part pa = s.part pa :=
  (Does.frame (Does.refl _ s) (Foot.le_refl _) _ _ _ _ _ _).parts pa hn
@[simp] theorem State.rd_trcTrigger (entry : Nat) (hn : Foot.trcTrigger.hasR fl.r = false) : (State.trcTrigger s entry).rd fl i0 j0 = s.rd fl i0 j0 :=
  (Does.trcTrigger (Does.refl _ s) (Foot.le_refl _) _).rd hn _ _
@[simp] theorem State.reg_trcTrigger (entry : Nat) (hn : Foot.trcTrigger.hasR ra = false) : (State.trcTrigger s entry).reg ra i0 j0 = s.reg ra i0 j0 :=
  (Does.trcTrigger (Does.refl _ s) (Foot.le_refl _) _).reg hn _ _
@[simp] theorem State.v_trcTrigger (entry : Nat) (hn : Foot.trcTrigger.hasV va = false) : (State.trcTrigger s entry).v va i0 j0 = s.v va i0 j0 :=
  (Does.trcTrigger (Does.refl _ s) (Foot.le_refl _) _).v hn _ _
@[simp] theorem State.part_trcTrigger (entry : Nat) (hn : Foot.trcTrigger.hasP pa = false) : (State.trcTrigger s entry).part pa = s.part pa :=
  (Does.trcTrigger (Does.refl _ s) (Foot.le_refl _) _).parts pa hn
@[simp] theorem State.rd_trcTrip (typ : Nat) (bytes : List Byte) (hn : Foot.trcTrip.hasR fl.r = false) : (State.trcTrip s typ bytes).rd fl i0 j0 = s.rd fl i0 j0 :=
  (Does.trcTrip (Does.refl _ s) (Foot.le_refl _) _ _).rd hn _ _
@[simp] theorem State.reg_trcTrip (typ : Nat) (bytes : List Byte) (hn : Foot.trcTrip.hasR ra = false) : (State.trcTrip s typ bytes).reg ra i0 j0 = s.reg ra i0 j0 :=
  (Does.trcTrip (Does.refl _ s) (Foot.le_refl _) _ _).reg hn _ _
@[simp] theorem State.v_trcTrip (typ : Nat) (bytes : List Byte) (hn : Foot.trcTrip.hasV va = false) : (State.trcTrip s typ bytes).v va i0 j0 = s.v va i0 j0 :=
  (Does.trcTrip (Does.refl _ s) (Foot.le_refl _) _ _).v hn _ _
@[simp] theorem State.part_trcTrip (typ : Nat) (bytes : List Byte) (hn : Foot.trcTrip.hasP pa = false) : (State.trcTrip s typ bytes).part pa = s.part pa :=
  (Does.trcTrip (Does.refl _ s) (Foot.le_refl _) _ _).parts pa hn
@[simp] theorem State.rd_srcSync (k : Nat) (hn : Foot.srcSync.hasR fl.r = false) : (State.srcSync s k).rd fl i0 j0 = s.rd fl i0 j0 :=
  (Does.srcSync (Does.refl _ s) (Foot.le_refl _) _).rd hn _ _
@[simp] theorem State.reg_srcSync (k : Nat) (hn : Foot.srcSync.hasR ra = false) : (State.srcSync s k).reg ra i0 j0 = s.reg ra i0 j0 :=
  (Does.srcSync (Does.refl _ s) (Foot.le_refl _) _).reg hn _ _
@[simp] theorem State.v_srcSync (k : Nat) (hn : Foot.srcSync.hasV va = false) : (State.srcSync s k).v va i0 j0 = s.v va i0 j0 :=
  (Does.srcSync (Does.refl _ s) (Foot.le_refl _) _).v hn _ _
@[simp] theorem State.part_srcSync (k : Nat) (hn : Foot.srcSync.hasP pa = false) : (State.srcSync s k).part pa = s.part pa :=
  (Does.srcSync (Does.refl _ s) (Foot.le_refl _) _).parts pa hn
@[simp] theorem State.rd_grpFire (g : Nat) (hn : Foot.grpFire.hasR fl.r = false) : (State.grpFire s g).rd fl i0 j0 = s.rd fl i0 j0 :=
  (Does.grpFire (Does.refl _ s) (Foot.le_refl _) _).rd hn _ _
@[simp] theorem State.reg_grpFire (g : Nat) (hn : Foot.grpFire.hasR ra = false) : (State.grpFire s g).reg ra i0 j0 = s.reg ra i0 j0 :=
  (Does.grpFire (Does.refl _ s) (Foot.le_refl _) _).reg hn _ _
@[simp] theorem State.v_grpFire (g : Nat) (hn : Foot.grpFire.hasV va = false) : (State.grpFire s g).v va i0 j0 = s.v va i0 j0 :=
  (Does.grpFire (Does.refl _ s) (Foot.le_refl _) _).v hn _ _
@[simp] theorem State.part_grpFire (g : Nat) (hn : Foot.grpFire.hasP pa = false) : (State.grpFire s g).part pa = s.part pa :=
  (Does.grpFire (Does.refl _ s) (Foot.le_refl _) _).parts pa hn
@[simp] theorem State.rd_setPend (k : Nat) (hn : Foot.setPend.hasR fl.r = false) : (State.setPend s k).rd fl i0 j0 = s.rd fl i0 j0 :=
  (Does.setPend (Does.refl _ s) (Foot.le_refl _) _).rd hn _ _
@[simp] theorem State.reg_setPend (k : Nat) (hn : Foot.setPend.hasR ra = false) : (State.setPend s k).reg ra i0 j0 = s.reg ra i0 j0 :=
  (Does.setPend (Does.refl _ s) (Foot.le_refl _) _).reg hn _ _
@[simp] theorem State.v_setPend (k : Nat) (hn : Foot.setPend.hasV va = false) : (State.setPend s k).v va i0 j0 = s.v va i0 j0 :=
  (Does.setPend (Does.refl _ s) (Foot.le_refl _) _).v hn _ _
@[simp] theorem State.part_setPend (k : Nat) (hn : Foot.setPend.hasP pa = false) : (State.setPend s k).part pa = s.part pa :=
  (Does.setPend (Does.refl _ s) (Foot.le_refl _) _).parts pa hn
@[simp] theorem State.rd_occur (k : Nat) (hn : Foot.occur.hasR fl.r = false) : (State.occur s k).rd fl i0 j0 = s.rd fl i0 j0 :=
  (Does.occur (Does.refl _ s) (Foot.le_refl _) _).rd hn _ _
@[simp] theorem State.reg_occur (k : Nat) (hn : Foot.occur.hasR ra = false) : (State.occur s k).reg ra i0 j0 = s.reg ra i0 j0 :=
  (Does.occur (Does.refl _ s) (Foot.le_refl _) _).reg hn _ _
@[simp] theorem State.v_occur (k : Nat) (hn : Foot.occur.hasV va = false) : (State.occur s k).v va i0 j0 = s.v va i0 j0 :=
  (Does.occur (Does.refl _ s) (Foot.le_refl _) _).v hn _ _
@[simp] theorem State.part_occur (k : Nat) (hn : Foot.occur.hasP pa = false) : (State.occur s k).part pa = s.part pa :=
  (Does.occur (Does.refl _ s) (Foot.le_refl _) _).parts pa hn
@[simp] theorem State.rd_alertRise (before : Bool) (hn : Foot.alertRise.hasR fl.r = false) : (State.alertRise s before).rd fl i0 j0 = s.rd fl i0 j0 :=
  (Does.alertRise (Does.refl _ s) (Foot.le_refl _) _).rd hn _ _
@[simp] theorem State.reg_alertRise (before : Bool) (hn : Foot.alertRise.hasR ra = false) : (State.alertRise s before).reg ra i0 j0 = s.reg ra i0 j0 :=
  (Does.alertRise (Does.refl _ s) (Foot.le_refl _) _).reg hn _ _
@[simp] theorem State.v_alertRise (before : Bool) (hn : Foot.alertRise.hasV va = false) : (State.alertRise s before).v va i0 j0 = s.v va i0 j0 :=
  (Does.alertRise (Does.refl _ s) (Foot.le_refl _) _).v hn _ _
@[simp] theorem State.part_alertRise (before : Bool) (hn : Foot.alertRise.hasP pa = false) : (State.alertRise s before).part pa = s.part pa :=
  (Does.alertRise (Does.refl _ s) (Foot.le_refl _) _).parts pa hn
@[simp] theorem State.rd_facAlert (bit : Nat) (hn : Foot.facAlert.hasR fl.r = false) : (State.facAlert s bit).rd fl i0 j0 = s.rd fl i0 j0 :=
  (Does.facAlert (Does.refl _ s) (Foot.le_refl _) _).rd hn _ _
@[simp] theorem State.reg_facAlert (bit : Nat) (hn : Foot.facAlert.hasR ra = false) : (State.facAlert s bit).reg ra i0 j0 = s.reg ra i0 j0 :=
  (Does.facAlert (Does.refl _ s) (Foot.le_refl _) _).reg hn _ _
@[simp] theorem State.v_facAlert (bit : Nat) (hn : Foot.facAlert.hasV va = false) : (State.facAlert s bit).v va i0 j0 = s.v va i0 j0 :=
  (Does.facAlert (Does.refl _ s) (Foot.le_refl _) _).v hn _ _
@[simp] theorem State.part_facAlert (bit : Nat) (hn : Foot.facAlert.hasP pa = false) : (State.facAlert s bit).part pa = s.part pa :=
  (Does.facAlert (Does.refl _ s) (Foot.le_refl _) _).parts pa hn
@[simp] theorem State.rd_eventOne (code : Nat) (inst : Nat) (detail : Nat) (hn : Foot.eventOne.hasR fl.r = false) : (State.eventOne s code inst detail).rd fl i0 j0 = s.rd fl i0 j0 :=
  (Does.eventOne (Does.refl _ s) (Foot.le_refl _) _ _ _).rd hn _ _
@[simp] theorem State.reg_eventOne (code : Nat) (inst : Nat) (detail : Nat) (hn : Foot.eventOne.hasR ra = false) : (State.eventOne s code inst detail).reg ra i0 j0 = s.reg ra i0 j0 :=
  (Does.eventOne (Does.refl _ s) (Foot.le_refl _) _ _ _).reg hn _ _
@[simp] theorem State.v_eventOne (code : Nat) (inst : Nat) (detail : Nat) (hn : Foot.eventOne.hasV va = false) : (State.eventOne s code inst detail).v va i0 j0 = s.v va i0 j0 :=
  (Does.eventOne (Does.refl _ s) (Foot.le_refl _) _ _ _).v hn _ _
@[simp] theorem State.part_eventOne (code : Nat) (inst : Nat) (detail : Nat) (hn : Foot.eventOne.hasP pa = false) : (State.eventOne s code inst detail).part pa = s.part pa :=
  (Does.eventOne (Does.refl _ s) (Foot.le_refl _) _ _ _).parts pa hn
@[simp] theorem State.rd_evtDrain (fuel : Nat) (hn : Foot.evtDrain.hasR fl.r = false) : (State.evtDrain s fuel).rd fl i0 j0 = s.rd fl i0 j0 :=
  (Does.evtDrain (Does.refl _ s) (Foot.le_refl _) _).rd hn _ _
@[simp] theorem State.reg_evtDrain (fuel : Nat) (hn : Foot.evtDrain.hasR ra = false) : (State.evtDrain s fuel).reg ra i0 j0 = s.reg ra i0 j0 :=
  (Does.evtDrain (Does.refl _ s) (Foot.le_refl _) _).reg hn _ _
@[simp] theorem State.v_evtDrain (fuel : Nat) (hn : Foot.evtDrain.hasV va = false) : (State.evtDrain s fuel).v va i0 j0 = s.v va i0 j0 :=
  (Does.evtDrain (Does.refl _ s) (Foot.le_refl _) _).v hn _ _
@[simp] theorem State.part_evtDrain (fuel : Nat) (hn : Foot.evtDrain.hasP pa = false) : (State.evtDrain s fuel).part pa = s.part pa :=
  (Does.evtDrain (Does.refl _ s) (Foot.le_refl _) _).parts pa hn
@[simp] theorem State.rd_eventD (code : Nat) (inst : Nat) (detail : Nat) (hn : Foot.eventD.hasR fl.r = false) : (State.eventD s code inst detail).rd fl i0 j0 = s.rd fl i0 j0 :=
  (Does.eventD (Does.refl _ s) (Foot.le_refl _) _ _ _).rd hn _ _
@[simp] theorem State.reg_eventD (code : Nat) (inst : Nat) (detail : Nat) (hn : Foot.eventD.hasR ra = false) : (State.eventD s code inst detail).reg ra i0 j0 = s.reg ra i0 j0 :=
  (Does.eventD (Does.refl _ s) (Foot.le_refl _) _ _ _).reg hn _ _
@[simp] theorem State.v_eventD (code : Nat) (inst : Nat) (detail : Nat) (hn : Foot.eventD.hasV va = false) : (State.eventD s code inst detail).v va i0 j0 = s.v va i0 j0 :=
  (Does.eventD (Does.refl _ s) (Foot.le_refl _) _ _ _).v hn _ _
@[simp] theorem State.part_eventD (code : Nat) (inst : Nat) (detail : Nat) (hn : Foot.eventD.hasP pa = false) : (State.eventD s code inst detail).part pa = s.part pa :=
  (Does.eventD (Does.refl _ s) (Foot.le_refl _) _ _ _).parts pa hn
@[simp] theorem State.rd_event (code : Nat) (inst : Nat) (hn : Foot.event.hasR fl.r = false) : (State.event s code inst).rd fl i0 j0 = s.rd fl i0 j0 :=
  (Does.event (Does.refl _ s) (Foot.le_refl _) _ _).rd hn _ _
@[simp] theorem State.reg_event (code : Nat) (inst : Nat) (hn : Foot.event.hasR ra = false) : (State.event s code inst).reg ra i0 j0 = s.reg ra i0 j0 :=
  (Does.event (Does.refl _ s) (Foot.le_refl _) _ _).reg hn _ _
@[simp] theorem State.v_event (code : Nat) (inst : Nat) (hn : Foot.event.hasV va = false) : (State.event s code inst).v va i0 j0 = s.v va i0 j0 :=
  (Does.event (Does.refl _ s) (Foot.le_refl _) _ _).v hn _ _
@[simp] theorem State.part_event (code : Nat) (inst : Nat) (hn : Foot.event.hasP pa = false) : (State.event s code inst).part pa = s.part pa :=
  (Does.event (Does.refl _ s) (Foot.le_refl _) _ _).parts pa hn
@[simp] theorem State.rd_evtClear (code : Nat) (inst : Nat) (hn : Foot.evtClear.hasR fl.r = false) : (State.evtClear s code inst).rd fl i0 j0 = s.rd fl i0 j0 :=
  (Does.evtClear (Does.refl _ s) (Foot.le_refl _) _ _).rd hn _ _
@[simp] theorem State.reg_evtClear (code : Nat) (inst : Nat) (hn : Foot.evtClear.hasR ra = false) : (State.evtClear s code inst).reg ra i0 j0 = s.reg ra i0 j0 :=
  (Does.evtClear (Does.refl _ s) (Foot.le_refl _) _ _).reg hn _ _
@[simp] theorem State.v_evtClear (code : Nat) (inst : Nat) (hn : Foot.evtClear.hasV va = false) : (State.evtClear s code inst).v va i0 j0 = s.v va i0 j0 :=
  (Does.evtClear (Does.refl _ s) (Foot.le_refl _) _ _).v hn _ _
@[simp] theorem State.part_evtClear (code : Nat) (inst : Nat) (hn : Foot.evtClear.hasP pa = false) : (State.evtClear s code inst).part pa = s.part pa :=
  (Does.evtClear (Does.refl _ s) (Foot.le_refl _) _ _).parts pa hn
@[simp] theorem State.rd_setStack (t : Nat) (l : List (Nat × Nat)) (hn : Foot.setStack.hasR fl.r = false) : (State.setStack s t l).rd fl i0 j0 = s.rd fl i0 j0 :=
  (Does.setStack (Does.refl _ s) (Foot.le_refl _) _ _).rd hn _ _
@[simp] theorem State.reg_setStack (t : Nat) (l : List (Nat × Nat)) (hn : Foot.setStack.hasR ra = false) : (State.setStack s t l).reg ra i0 j0 = s.reg ra i0 j0 :=
  (Does.setStack (Does.refl _ s) (Foot.le_refl _) _ _).reg hn _ _
@[simp] theorem State.v_setStack (t : Nat) (l : List (Nat × Nat)) (hn : Foot.setStack.hasV va = false) : (State.setStack s t l).v va i0 j0 = s.v va i0 j0 :=
  (Does.setStack (Does.refl _ s) (Foot.le_refl _) _ _).v hn _ _
@[simp] theorem State.part_setStack (t : Nat) (l : List (Nat × Nat)) (hn : Foot.setStack.hasP pa = false) : (State.setStack s t l).part pa = s.part pa :=
  (Does.setStack (Does.refl _ s) (Foot.le_refl _) _ _).parts pa hn
@[simp] theorem State.rd_pgSettle (hn : Foot.pgSettle.hasR fl.r = false) : (State.pgSettle s).rd fl i0 j0 = s.rd fl i0 j0 :=
  (Does.pgSettle (Does.refl _ s) (Foot.le_refl _)).rd hn _ _
@[simp] theorem State.reg_pgSettle (hn : Foot.pgSettle.hasR ra = false) : (State.pgSettle s).reg ra i0 j0 = s.reg ra i0 j0 :=
  (Does.pgSettle (Does.refl _ s) (Foot.le_refl _)).reg hn _ _
@[simp] theorem State.v_pgSettle (hn : Foot.pgSettle.hasV va = false) : (State.pgSettle s).v va i0 j0 = s.v va i0 j0 :=
  (Does.pgSettle (Does.refl _ s) (Foot.le_refl _)).v hn _ _
@[simp] theorem State.part_pgSettle (hn : Foot.pgSettle.hasP pa = false) : (State.pgSettle s).part pa = s.part pa :=
  (Does.pgSettle (Does.refl _ s) (Foot.le_refl _)).parts pa hn
@[simp] theorem State.rd_popped (k : Nat) (hn : Foot.popped.hasR fl.r = false) : (State.popped s k).rd fl i0 j0 = s.rd fl i0 j0 :=
  (Does.popped (Does.refl _ s) (Foot.le_refl _) _).rd hn _ _
@[simp] theorem State.reg_popped (k : Nat) (hn : Foot.popped.hasR ra = false) : (State.popped s k).reg ra i0 j0 = s.reg ra i0 j0 :=
  (Does.popped (Does.refl _ s) (Foot.le_refl _) _).reg hn _ _
@[simp] theorem State.v_popped (k : Nat) (hn : Foot.popped.hasV va = false) : (State.popped s k).v va i0 j0 = s.v va i0 j0 :=
  (Does.popped (Does.refl _ s) (Foot.le_refl _) _).v hn _ _
@[simp] theorem State.part_popped (k : Nat) (hn : Foot.popped.hasP pa = false) : (State.popped s k).part pa = s.part pa :=
  (Does.popped (Does.refl _ s) (Foot.le_refl _) _).parts pa hn
@[simp] theorem State.rd_bgStart (act : Nat) (hn : Foot.bgStart.hasR fl.r = false) : (State.bgStart s act).rd fl i0 j0 = s.rd fl i0 j0 :=
  (Does.bgStart (Does.refl _ s) (Foot.le_refl _) _).rd hn _ _
@[simp] theorem State.reg_bgStart (act : Nat) (hn : Foot.bgStart.hasR ra = false) : (State.bgStart s act).reg ra i0 j0 = s.reg ra i0 j0 :=
  (Does.bgStart (Does.refl _ s) (Foot.le_refl _) _).reg hn _ _
@[simp] theorem State.v_bgStart (act : Nat) (hn : Foot.bgStart.hasV va = false) : (State.bgStart s act).v va i0 j0 = s.v va i0 j0 :=
  (Does.bgStart (Does.refl _ s) (Foot.le_refl _) _).v hn _ _
@[simp] theorem State.part_bgStart (act : Nat) (hn : Foot.bgStart.hasP pa = false) : (State.bgStart s act).part pa = s.part pa :=
  (Does.bgStart (Does.refl _ s) (Foot.le_refl _) _).parts pa hn
@[simp] theorem State.rd_bgEnd (act : Nat) (hn : Foot.bgEnd.hasR fl.r = false) : (State.bgEnd s act).rd fl i0 j0 = s.rd fl i0 j0 :=
  (Does.bgEnd (Does.refl _ s) (Foot.le_refl _) _).rd hn _ _
@[simp] theorem State.reg_bgEnd (act : Nat) (hn : Foot.bgEnd.hasR ra = false) : (State.bgEnd s act).reg ra i0 j0 = s.reg ra i0 j0 :=
  (Does.bgEnd (Does.refl _ s) (Foot.le_refl _) _).reg hn _ _
@[simp] theorem State.v_bgEnd (act : Nat) (hn : Foot.bgEnd.hasV va = false) : (State.bgEnd s act).v va i0 j0 = s.v va i0 j0 :=
  (Does.bgEnd (Does.refl _ s) (Foot.le_refl _) _).v hn _ _
@[simp] theorem State.part_bgEnd (act : Nat) (hn : Foot.bgEnd.hasP pa = false) : (State.bgEnd s act).part pa = s.part pa :=
  (Does.bgEnd (Does.refl _ s) (Foot.le_refl _) _).parts pa hn
@[simp] theorem State.rd_recLost (n : Nat) (typ : Nat) (hn : Foot.recLost.hasR fl.r = false) : (State.recLost s n typ).rd fl i0 j0 = s.rd fl i0 j0 :=
  (Does.recLost (Does.refl _ s) (Foot.le_refl _) _ _).rd hn _ _
@[simp] theorem State.reg_recLost (n : Nat) (typ : Nat) (hn : Foot.recLost.hasR ra = false) : (State.recLost s n typ).reg ra i0 j0 = s.reg ra i0 j0 :=
  (Does.recLost (Does.refl _ s) (Foot.le_refl _) _ _).reg hn _ _
@[simp] theorem State.v_recLost (n : Nat) (typ : Nat) (hn : Foot.recLost.hasV va = false) : (State.recLost s n typ).v va i0 j0 = s.v va i0 j0 :=
  (Does.recLost (Does.refl _ s) (Foot.le_refl _) _ _).v hn _ _
@[simp] theorem State.part_recLost (n : Nat) (typ : Nat) (hn : Foot.recLost.hasP pa = false) : (State.recLost s n typ).part pa = s.part pa :=
  (Does.recLost (Does.refl _ s) (Foot.le_refl _) _ _).parts pa hn
@[simp] theorem State.rd_recIssue (r : Rec) (n : Nat) (hn : Foot.recIssue.hasR fl.r = false) : (State.recIssue s r n).rd fl i0 j0 = s.rd fl i0 j0 :=
  (Does.recIssue (Does.refl _ s) (Foot.le_refl _) _ _).rd hn _ _
@[simp] theorem State.reg_recIssue (r : Rec) (n : Nat) (hn : Foot.recIssue.hasR ra = false) : (State.recIssue s r n).reg ra i0 j0 = s.reg ra i0 j0 :=
  (Does.recIssue (Does.refl _ s) (Foot.le_refl _) _ _).reg hn _ _
@[simp] theorem State.v_recIssue (r : Rec) (n : Nat) (hn : Foot.recIssue.hasV va = false) : (State.recIssue s r n).v va i0 j0 = s.v va i0 j0 :=
  (Does.recIssue (Does.refl _ s) (Foot.le_refl _) _ _).v hn _ _
@[simp] theorem State.part_recIssue (r : Rec) (n : Nat) (hn : Foot.recIssue.hasP pa = false) : (State.recIssue s r n).part pa = s.part pa :=
  (Does.recIssue (Does.refl _ s) (Foot.le_refl _) _ _).parts pa hn
@[simp] theorem State.rd_recPump (fuel : Nat) (hn : Foot.recPump.hasR fl.r = false) : (State.recPump s fuel).rd fl i0 j0 = s.rd fl i0 j0 :=
  (Does.recPump (Does.refl _ s) (Foot.le_refl _) _).rd hn _ _
@[simp] theorem State.reg_recPump (fuel : Nat) (hn : Foot.recPump.hasR ra = false) : (State.recPump s fuel).reg ra i0 j0 = s.reg ra i0 j0 :=
  (Does.recPump (Does.refl _ s) (Foot.le_refl _) _).reg hn _ _
@[simp] theorem State.v_recPump (fuel : Nat) (hn : Foot.recPump.hasV va = false) : (State.recPump s fuel).v va i0 j0 = s.v va i0 j0 :=
  (Does.recPump (Does.refl _ s) (Foot.le_refl _) _).v hn _ _
@[simp] theorem State.part_recPump (fuel : Nat) (hn : Foot.recPump.hasP pa = false) : (State.recPump s fuel).part pa = s.part pa :=
  (Does.recPump (Does.refl _ s) (Foot.le_refl _) _).parts pa hn
@[simp] theorem State.rd_recRun (hn : Foot.recRun.hasR fl.r = false) : (State.recRun s).rd fl i0 j0 = s.rd fl i0 j0 :=
  (Does.recRun (Does.refl _ s) (Foot.le_refl _)).rd hn _ _
@[simp] theorem State.reg_recRun (hn : Foot.recRun.hasR ra = false) : (State.recRun s).reg ra i0 j0 = s.reg ra i0 j0 :=
  (Does.recRun (Does.refl _ s) (Foot.le_refl _)).reg hn _ _
@[simp] theorem State.v_recRun (hn : Foot.recRun.hasV va = false) : (State.recRun s).v va i0 j0 = s.v va i0 j0 :=
  (Does.recRun (Does.refl _ s) (Foot.le_refl _)).v hn _ _
@[simp] theorem State.part_recRun (hn : Foot.recRun.hasP pa = false) : (State.recRun s).part pa = s.part pa :=
  (Does.recRun (Does.refl _ s) (Foot.le_refl _)).parts pa hn
@[simp] theorem State.rd_recLostAll (l : List Nat) (typ : Nat) (hn : Foot.recLostAll.hasR fl.r = false) : (State.recLostAll s l typ).rd fl i0 j0 = s.rd fl i0 j0 :=
  (Does.recLostAll (Does.refl _ s) (Foot.le_refl _) _ _).rd hn _ _
@[simp] theorem State.reg_recLostAll (l : List Nat) (typ : Nat) (hn : Foot.recLostAll.hasR ra = false) : (State.recLostAll s l typ).reg ra i0 j0 = s.reg ra i0 j0 :=
  (Does.recLostAll (Does.refl _ s) (Foot.le_refl _) _ _).reg hn _ _
@[simp] theorem State.v_recLostAll (l : List Nat) (typ : Nat) (hn : Foot.recLostAll.hasV va = false) : (State.recLostAll s l typ).v va i0 j0 = s.v va i0 j0 :=
  (Does.recLostAll (Does.refl _ s) (Foot.le_refl _) _ _).v hn _ _
@[simp] theorem State.part_recLostAll (l : List Nat) (typ : Nat) (hn : Foot.recLostAll.hasP pa = false) : (State.recLostAll s l typ).part pa = s.part pa :=
  (Does.recLostAll (Does.refl _ s) (Foot.le_refl _) _ _).parts pa hn
@[simp] theorem State.rd_recordAt (typ : Nat) (ctx : Nat) (phase : Nat) (time : Nat) (body : List Byte) (hn : Foot.recordAt.hasR fl.r = false) : (State.recordAt s typ ctx phase time body).rd fl i0 j0 = s.rd fl i0 j0 :=
  (Does.recordAt (Does.refl _ s) (Foot.le_refl _) _ _ _ _ _).rd hn _ _
@[simp] theorem State.reg_recordAt (typ : Nat) (ctx : Nat) (phase : Nat) (time : Nat) (body : List Byte) (hn : Foot.recordAt.hasR ra = false) : (State.recordAt s typ ctx phase time body).reg ra i0 j0 = s.reg ra i0 j0 :=
  (Does.recordAt (Does.refl _ s) (Foot.le_refl _) _ _ _ _ _).reg hn _ _
@[simp] theorem State.v_recordAt (typ : Nat) (ctx : Nat) (phase : Nat) (time : Nat) (body : List Byte) (hn : Foot.recordAt.hasV va = false) : (State.recordAt s typ ctx phase time body).v va i0 j0 = s.v va i0 j0 :=
  (Does.recordAt (Does.refl _ s) (Foot.le_refl _) _ _ _ _ _).v hn _ _
@[simp] theorem State.part_recordAt (typ : Nat) (ctx : Nat) (phase : Nat) (time : Nat) (body : List Byte) (hn : Foot.recordAt.hasP pa = false) : (State.recordAt s typ ctx phase time body).part pa = s.part pa :=
  (Does.recordAt (Does.refl _ s) (Foot.le_refl _) _ _ _ _ _).parts pa hn
@[simp] theorem State.rd_record (typ : Nat) (body : List Byte) (hn : Foot.record.hasR fl.r = false) : (State.record s typ body).rd fl i0 j0 = s.rd fl i0 j0 :=
  (Does.record (Does.refl _ s) (Foot.le_refl _) _ _).rd hn _ _
@[simp] theorem State.reg_record (typ : Nat) (body : List Byte) (hn : Foot.record.hasR ra = false) : (State.record s typ body).reg ra i0 j0 = s.reg ra i0 j0 :=
  (Does.record (Does.refl _ s) (Foot.le_refl _) _ _).reg hn _ _
@[simp] theorem State.v_record (typ : Nat) (body : List Byte) (hn : Foot.record.hasV va = false) : (State.record s typ body).v va i0 j0 = s.v va i0 j0 :=
  (Does.record (Does.refl _ s) (Foot.le_refl _) _ _).v hn _ _
@[simp] theorem State.part_record (typ : Nat) (body : List Byte) (hn : Foot.record.hasP pa = false) : (State.record s typ body).part pa = s.part pa :=
  (Does.record (Does.refl _ s) (Foot.le_refl _) _ _).parts pa hn
@[simp] theorem State.rd_recDone (err : Bool) (hn : Foot.recDone.hasR fl.r = false) : (State.recDone s err).rd fl i0 j0 = s.rd fl i0 j0 :=
  (Does.recDone (Does.refl _ s) (Foot.le_refl _) _).rd hn _ _
@[simp] theorem State.reg_recDone (err : Bool) (hn : Foot.recDone.hasR ra = false) : (State.recDone s err).reg ra i0 j0 = s.reg ra i0 j0 :=
  (Does.recDone (Does.refl _ s) (Foot.le_refl _) _).reg hn _ _
@[simp] theorem State.v_recDone (err : Bool) (hn : Foot.recDone.hasV va = false) : (State.recDone s err).v va i0 j0 = s.v va i0 j0 :=
  (Does.recDone (Does.refl _ s) (Foot.le_refl _) _).v hn _ _
@[simp] theorem State.part_recDone (err : Bool) (hn : Foot.recDone.hasP pa = false) : (State.recDone s err).part pa = s.part pa :=
  (Does.recDone (Does.refl _ s) (Foot.le_refl _) _).parts pa hn
@[simp] theorem State.rd_ringEnable (n : Nat) (hn : Foot.ringEnable.hasR fl.r = false) : (State.ringEnable s n).rd fl i0 j0 = s.rd fl i0 j0 :=
  (Does.ringEnable (Does.refl _ s) (Foot.le_refl _) _).rd hn _ _
@[simp] theorem State.reg_ringEnable (n : Nat) (hn : Foot.ringEnable.hasR ra = false) : (State.ringEnable s n).reg ra i0 j0 = s.reg ra i0 j0 :=
  (Does.ringEnable (Does.refl _ s) (Foot.le_refl _) _).reg hn _ _
@[simp] theorem State.v_ringEnable (n : Nat) (hn : Foot.ringEnable.hasV va = false) : (State.ringEnable s n).v va i0 j0 = s.v va i0 j0 :=
  (Does.ringEnable (Does.refl _ s) (Foot.le_refl _) _).v hn _ _
@[simp] theorem State.part_ringEnable (n : Nat) (hn : Foot.ringEnable.hasP pa = false) : (State.ringEnable s n).part pa = s.part pa :=
  (Does.ringEnable (Does.refl _ s) (Foot.le_refl _) _).parts pa hn
@[simp] theorem State.rd_chW (e : ChEnd) (f : Fld) (v : Nat) (hn : Foot.chW.hasR fl.r = false) : (State.chW s e f v).rd fl i0 j0 = s.rd fl i0 j0 :=
  (Does.chW (Does.refl _ s) (Foot.le_refl _) _ _ _).rd hn _ _
@[simp] theorem State.reg_chW (e : ChEnd) (f : Fld) (v : Nat) (hn : Foot.chW.hasR ra = false) : (State.chW s e f v).reg ra i0 j0 = s.reg ra i0 j0 :=
  (Does.chW (Does.refl _ s) (Foot.le_refl _) _ _ _).reg hn _ _
@[simp] theorem State.v_chW (e : ChEnd) (f : Fld) (v : Nat) (hn : Foot.chW.hasV va = false) : (State.chW s e f v).v va i0 j0 = s.v va i0 j0 :=
  (Does.chW (Does.refl _ s) (Foot.le_refl _) _ _ _).v hn _ _
@[simp] theorem State.part_chW (e : ChEnd) (f : Fld) (v : Nat) (hn : Foot.chW.hasP pa = false) : (State.chW s e f v).part pa = s.part pa :=
  (Does.chW (Does.refl _ s) (Foot.le_refl _) _ _ _).parts pa hn
@[simp] theorem State.rd_chFlag (e : ChEnd) (f : Fld) (hn : Foot.chFlag.hasR fl.r = false) : (State.chFlag s e f).rd fl i0 j0 = s.rd fl i0 j0 :=
  (Does.chFlag (Does.refl _ s) (Foot.le_refl _) _ _).rd hn _ _
@[simp] theorem State.reg_chFlag (e : ChEnd) (f : Fld) (hn : Foot.chFlag.hasR ra = false) : (State.chFlag s e f).reg ra i0 j0 = s.reg ra i0 j0 :=
  (Does.chFlag (Does.refl _ s) (Foot.le_refl _) _ _).reg hn _ _
@[simp] theorem State.v_chFlag (e : ChEnd) (f : Fld) (hn : Foot.chFlag.hasV va = false) : (State.chFlag s e f).v va i0 j0 = s.v va i0 j0 :=
  (Does.chFlag (Does.refl _ s) (Foot.le_refl _) _ _).v hn _ _
@[simp] theorem State.part_chFlag (e : ChEnd) (f : Fld) (hn : Foot.chFlag.hasP pa = false) : (State.chFlag s e f).part pa = s.part pa :=
  (Does.chFlag (Does.refl _ s) (Foot.le_refl _) _ _).parts pa hn
@[simp] theorem State.rd_chInc (e : ChEnd) (f : Fld) (d : Nat) (hn : Foot.chInc.hasR fl.r = false) : (State.chInc s e f d).rd fl i0 j0 = s.rd fl i0 j0 :=
  (Does.chInc (Does.refl _ s) (Foot.le_refl _) _ _ _).rd hn _ _
@[simp] theorem State.reg_chInc (e : ChEnd) (f : Fld) (d : Nat) (hn : Foot.chInc.hasR ra = false) : (State.chInc s e f d).reg ra i0 j0 = s.reg ra i0 j0 :=
  (Does.chInc (Does.refl _ s) (Foot.le_refl _) _ _ _).reg hn _ _
@[simp] theorem State.v_chInc (e : ChEnd) (f : Fld) (d : Nat) (hn : Foot.chInc.hasV va = false) : (State.chInc s e f d).v va i0 j0 = s.v va i0 j0 :=
  (Does.chInc (Does.refl _ s) (Foot.le_refl _) _ _ _).v hn _ _
@[simp] theorem State.part_chInc (e : ChEnd) (f : Fld) (d : Nat) (hn : Foot.chInc.hasP pa = false) : (State.chInc s e f d).part pa = s.part pa :=
  (Does.chInc (Does.refl _ s) (Foot.le_refl _) _ _ _).parts pa hn
@[simp] theorem State.rd_laneAdd (m : LaneMsg) (hn : Foot.laneAdd.hasR fl.r = false) : (State.laneAdd s m).rd fl i0 j0 = s.rd fl i0 j0 :=
  (Does.laneAdd (Does.refl _ s) (Foot.le_refl _) _).rd hn _ _
@[simp] theorem State.reg_laneAdd (m : LaneMsg) (hn : Foot.laneAdd.hasR ra = false) : (State.laneAdd s m).reg ra i0 j0 = s.reg ra i0 j0 :=
  (Does.laneAdd (Does.refl _ s) (Foot.le_refl _) _).reg hn _ _
@[simp] theorem State.v_laneAdd (m : LaneMsg) (hn : Foot.laneAdd.hasV va = false) : (State.laneAdd s m).v va i0 j0 = s.v va i0 j0 :=
  (Does.laneAdd (Does.refl _ s) (Foot.le_refl _) _).v hn _ _
@[simp] theorem State.part_laneAdd (m : LaneMsg) (hn : Foot.laneAdd.hasP pa = false) : (State.laneAdd s m).part pa = s.part pa :=
  (Does.laneAdd (Does.refl _ s) (Foot.le_refl _) _).parts pa hn
@[simp] theorem State.rd_put (e : ChEnd) (typ : Nat) (payload : Nat) (hn : Foot.put.hasR fl.r = false) : (State.put s e typ payload).rd fl i0 j0 = s.rd fl i0 j0 :=
  (Does.put (Does.refl _ s) (Foot.le_refl _) _ _ _).rd hn _ _
@[simp] theorem State.reg_put (e : ChEnd) (typ : Nat) (payload : Nat) (hn : Foot.put.hasR ra = false) : (State.put s e typ payload).reg ra i0 j0 = s.reg ra i0 j0 :=
  (Does.put (Does.refl _ s) (Foot.le_refl _) _ _ _).reg hn _ _
@[simp] theorem State.v_put (e : ChEnd) (typ : Nat) (payload : Nat) (hn : Foot.put.hasV va = false) : (State.put s e typ payload).v va i0 j0 = s.v va i0 j0 :=
  (Does.put (Does.refl _ s) (Foot.le_refl _) _ _ _).v hn _ _
@[simp] theorem State.part_put (e : ChEnd) (typ : Nat) (payload : Nat) (hn : Foot.put.hasP pa = false) : (State.put s e typ payload).part pa = s.part pa :=
  (Does.put (Does.refl _ s) (Foot.le_refl _) _ _ _).parts pa hn
@[simp] theorem State.rd_laneDrop (e : ChEnd) (hn : Foot.laneDrop.hasR fl.r = false) : (State.laneDrop s e).rd fl i0 j0 = s.rd fl i0 j0 :=
  (Does.laneDrop (Does.refl _ s) (Foot.le_refl _) _).rd hn _ _
@[simp] theorem State.reg_laneDrop (e : ChEnd) (hn : Foot.laneDrop.hasR ra = false) : (State.laneDrop s e).reg ra i0 j0 = s.reg ra i0 j0 :=
  (Does.laneDrop (Does.refl _ s) (Foot.le_refl _) _).reg hn _ _
@[simp] theorem State.v_laneDrop (e : ChEnd) (hn : Foot.laneDrop.hasV va = false) : (State.laneDrop s e).v va i0 j0 = s.v va i0 j0 :=
  (Does.laneDrop (Does.refl _ s) (Foot.le_refl _) _).v hn _ _
@[simp] theorem State.part_laneDrop (e : ChEnd) (hn : Foot.laneDrop.hasP pa = false) : (State.laneDrop s e).part pa = s.part pa :=
  (Does.laneDrop (Does.refl _ s) (Foot.le_refl _) _).parts pa hn
@[simp] theorem State.rd_laneSend (e : ChEnd) (hn : Foot.laneSend.hasR fl.r = false) : (State.laneSend s e).rd fl i0 j0 = s.rd fl i0 j0 :=
  (Does.laneSend (Does.refl _ s) (Foot.le_refl _) _).rd hn _ _
@[simp] theorem State.reg_laneSend (e : ChEnd) (hn : Foot.laneSend.hasR ra = false) : (State.laneSend s e).reg ra i0 j0 = s.reg ra i0 j0 :=
  (Does.laneSend (Does.refl _ s) (Foot.le_refl _) _).reg hn _ _
@[simp] theorem State.v_laneSend (e : ChEnd) (hn : Foot.laneSend.hasV va = false) : (State.laneSend s e).v va i0 j0 = s.v va i0 j0 :=
  (Does.laneSend (Does.refl _ s) (Foot.le_refl _) _).v hn _ _
@[simp] theorem State.part_laneSend (e : ChEnd) (hn : Foot.laneSend.hasP pa = false) : (State.laneSend s e).part pa = s.part pa :=
  (Does.laneSend (Does.refl _ s) (Foot.le_refl _) _).parts pa hn
@[simp] theorem State.rd_laneRound (hn : Foot.laneRound.hasR fl.r = false) : (State.laneRound s).rd fl i0 j0 = s.rd fl i0 j0 :=
  (Does.laneRound (Does.refl _ s) (Foot.le_refl _)).rd hn _ _
@[simp] theorem State.reg_laneRound (hn : Foot.laneRound.hasR ra = false) : (State.laneRound s).reg ra i0 j0 = s.reg ra i0 j0 :=
  (Does.laneRound (Does.refl _ s) (Foot.le_refl _)).reg hn _ _
@[simp] theorem State.v_laneRound (hn : Foot.laneRound.hasV va = false) : (State.laneRound s).v va i0 j0 = s.v va i0 j0 :=
  (Does.laneRound (Does.refl _ s) (Foot.le_refl _)).v hn _ _
@[simp] theorem State.part_laneRound (hn : Foot.laneRound.hasP pa = false) : (State.laneRound s).part pa = s.part pa :=
  (Does.laneRound (Does.refl _ s) (Foot.le_refl _)).parts pa hn
@[simp] theorem State.rd_send (e : ChEnd) (typ : Nat) (payload : Nat) (hn : Foot.send.hasR fl.r = false) : (State.send s e typ payload).rd fl i0 j0 = s.rd fl i0 j0 :=
  (Does.send (Does.refl _ s) (Foot.le_refl _) _ _ _).rd hn _ _
@[simp] theorem State.reg_send (e : ChEnd) (typ : Nat) (payload : Nat) (hn : Foot.send.hasR ra = false) : (State.send s e typ payload).reg ra i0 j0 = s.reg ra i0 j0 :=
  (Does.send (Does.refl _ s) (Foot.le_refl _) _ _ _).reg hn _ _
@[simp] theorem State.v_send (e : ChEnd) (typ : Nat) (payload : Nat) (hn : Foot.send.hasV va = false) : (State.send s e typ payload).v va i0 j0 = s.v va i0 j0 :=
  (Does.send (Does.refl _ s) (Foot.le_refl _) _ _ _).v hn _ _
@[simp] theorem State.part_send (e : ChEnd) (typ : Nat) (payload : Nat) (hn : Foot.send.hasP pa = false) : (State.send s e typ payload).part pa = s.part pa :=
  (Does.send (Does.refl _ s) (Foot.le_refl _) _ _ _).parts pa hn
@[simp] theorem State.rd_sendDown (d : Nat) (typ : Nat) (payload : Nat) (hn : Foot.sendDown.hasR fl.r = false) : (State.sendDown s d typ payload).2.rd fl i0 j0 = s.rd fl i0 j0 :=
  (Does.sendDown (Does.refl _ s) (Foot.le_refl _) _ _ _).rd hn _ _
@[simp] theorem State.reg_sendDown (d : Nat) (typ : Nat) (payload : Nat) (hn : Foot.sendDown.hasR ra = false) : (State.sendDown s d typ payload).2.reg ra i0 j0 = s.reg ra i0 j0 :=
  (Does.sendDown (Does.refl _ s) (Foot.le_refl _) _ _ _).reg hn _ _
@[simp] theorem State.v_sendDown (d : Nat) (typ : Nat) (payload : Nat) (hn : Foot.sendDown.hasV va = false) : (State.sendDown s d typ payload).2.v va i0 j0 = s.v va i0 j0 :=
  (Does.sendDown (Does.refl _ s) (Foot.le_refl _) _ _ _).v hn _ _
@[simp] theorem State.part_sendDown (d : Nat) (typ : Nat) (payload : Nat) (hn : Foot.sendDown.hasP pa = false) : (State.sendDown s d typ payload).2.part pa = s.part pa :=
  (Does.sendDown (Does.refl _ s) (Foot.le_refl _) _ _ _).parts pa hn
@[simp] theorem State.rd_sendUp (d : Nat) (typ : Nat) (payload : Nat) (hn : Foot.sendUp.hasR fl.r = false) : (State.sendUp s d typ payload).rd fl i0 j0 = s.rd fl i0 j0 :=
  (Does.sendUp (Does.refl _ s) (Foot.le_refl _) _ _ _).rd hn _ _
@[simp] theorem State.reg_sendUp (d : Nat) (typ : Nat) (payload : Nat) (hn : Foot.sendUp.hasR ra = false) : (State.sendUp s d typ payload).reg ra i0 j0 = s.reg ra i0 j0 :=
  (Does.sendUp (Does.refl _ s) (Foot.le_refl _) _ _ _).reg hn _ _
@[simp] theorem State.v_sendUp (d : Nat) (typ : Nat) (payload : Nat) (hn : Foot.sendUp.hasV va = false) : (State.sendUp s d typ payload).v va i0 j0 = s.v va i0 j0 :=
  (Does.sendUp (Does.refl _ s) (Foot.le_refl _) _ _ _).v hn _ _
@[simp] theorem State.part_sendUp (d : Nat) (typ : Nat) (payload : Nat) (hn : Foot.sendUp.hasP pa = false) : (State.sendUp s d typ payload).part pa = s.part pa :=
  (Does.sendUp (Does.refl _ s) (Foot.le_refl _) _ _ _).parts pa hn
@[simp] theorem State.rd_evFrom (d : Nat) (code : Nat) (inst : Nat) (detail : Nat) (lvl : Bool) (hn : Foot.evFrom.hasR fl.r = false) : (State.evFrom s d code inst detail lvl).rd fl i0 j0 = s.rd fl i0 j0 :=
  (Does.evFrom (Does.refl _ s) (Foot.le_refl _) _ _ _ _ _).rd hn _ _
@[simp] theorem State.reg_evFrom (d : Nat) (code : Nat) (inst : Nat) (detail : Nat) (lvl : Bool) (hn : Foot.evFrom.hasR ra = false) : (State.evFrom s d code inst detail lvl).reg ra i0 j0 = s.reg ra i0 j0 :=
  (Does.evFrom (Does.refl _ s) (Foot.le_refl _) _ _ _ _ _).reg hn _ _
@[simp] theorem State.v_evFrom (d : Nat) (code : Nat) (inst : Nat) (detail : Nat) (lvl : Bool) (hn : Foot.evFrom.hasV va = false) : (State.evFrom s d code inst detail lvl).v va i0 j0 = s.v va i0 j0 :=
  (Does.evFrom (Does.refl _ s) (Foot.le_refl _) _ _ _ _ _).v hn _ _
@[simp] theorem State.part_evFrom (d : Nat) (code : Nat) (inst : Nat) (detail : Nat) (lvl : Bool) (hn : Foot.evFrom.hasP pa = false) : (State.evFrom s d code inst detail lvl).part pa = s.part pa :=
  (Does.evFrom (Does.refl _ s) (Foot.le_refl _) _ _ _ _ _).parts pa hn
@[simp] theorem State.rd_sayHello (e : ChEnd) (reason : Nat) (hn : Foot.sayHello.hasR fl.r = false) : (State.sayHello s e reason).rd fl i0 j0 = s.rd fl i0 j0 :=
  (Does.sayHello (Does.refl _ s) (Foot.le_refl _) _ _).rd hn _ _
@[simp] theorem State.reg_sayHello (e : ChEnd) (reason : Nat) (hn : Foot.sayHello.hasR ra = false) : (State.sayHello s e reason).reg ra i0 j0 = s.reg ra i0 j0 :=
  (Does.sayHello (Does.refl _ s) (Foot.le_refl _) _ _).reg hn _ _
@[simp] theorem State.v_sayHello (e : ChEnd) (reason : Nat) (hn : Foot.sayHello.hasV va = false) : (State.sayHello s e reason).v va i0 j0 = s.v va i0 j0 :=
  (Does.sayHello (Does.refl _ s) (Foot.le_refl _) _ _).v hn _ _
@[simp] theorem State.part_sayHello (e : ChEnd) (reason : Nat) (hn : Foot.sayHello.hasP pa = false) : (State.sayHello s e reason).part pa = s.part pa :=
  (Does.sayHello (Does.refl _ s) (Foot.le_refl _) _ _).parts pa hn
@[simp] theorem State.rd_helloAck (e : ChEnd) (far : Nat) (hn : Foot.helloAck.hasR fl.r = false) : (State.helloAck s e far).rd fl i0 j0 = s.rd fl i0 j0 :=
  (Does.helloAck (Does.refl _ s) (Foot.le_refl _) _ _).rd hn _ _
@[simp] theorem State.reg_helloAck (e : ChEnd) (far : Nat) (hn : Foot.helloAck.hasR ra = false) : (State.helloAck s e far).reg ra i0 j0 = s.reg ra i0 j0 :=
  (Does.helloAck (Does.refl _ s) (Foot.le_refl _) _ _).reg hn _ _
@[simp] theorem State.v_helloAck (e : ChEnd) (far : Nat) (hn : Foot.helloAck.hasV va = false) : (State.helloAck s e far).v va i0 j0 = s.v va i0 j0 :=
  (Does.helloAck (Does.refl _ s) (Foot.le_refl _) _ _).v hn _ _
@[simp] theorem State.part_helloAck (e : ChEnd) (far : Nat) (hn : Foot.helloAck.hasP pa = false) : (State.helloAck s e far).part pa = s.part pa :=
  (Does.helloAck (Does.refl _ s) (Foot.le_refl _) _ _).parts pa hn
@[simp] theorem State.rd_helloStored (e : ChEnd) (hn : Foot.helloStored.hasR fl.r = false) : (State.helloStored s e).rd fl i0 j0 = s.rd fl i0 j0 :=
  (Does.helloStored (Does.refl _ s) (Foot.le_refl _) _).rd hn _ _
@[simp] theorem State.reg_helloStored (e : ChEnd) (hn : Foot.helloStored.hasR ra = false) : (State.helloStored s e).reg ra i0 j0 = s.reg ra i0 j0 :=
  (Does.helloStored (Does.refl _ s) (Foot.le_refl _) _).reg hn _ _
@[simp] theorem State.v_helloStored (e : ChEnd) (hn : Foot.helloStored.hasV va = false) : (State.helloStored s e).v va i0 j0 = s.v va i0 j0 :=
  (Does.helloStored (Does.refl _ s) (Foot.le_refl _) _).v hn _ _
@[simp] theorem State.part_helloStored (e : ChEnd) (hn : Foot.helloStored.hasP pa = false) : (State.helloStored s e).part pa = s.part pa :=
  (Does.helloStored (Does.refl _ s) (Foot.le_refl _) _).parts pa hn
@[simp] theorem State.rd_pendSync (e : ChEnd) (hn : Foot.pendSync.hasR fl.r = false) : (State.pendSync s e).rd fl i0 j0 = s.rd fl i0 j0 :=
  (Does.pendSync (Does.refl _ s) (Foot.le_refl _) _).rd hn _ _
@[simp] theorem State.reg_pendSync (e : ChEnd) (hn : Foot.pendSync.hasR ra = false) : (State.pendSync s e).reg ra i0 j0 = s.reg ra i0 j0 :=
  (Does.pendSync (Does.refl _ s) (Foot.le_refl _) _).reg hn _ _
@[simp] theorem State.v_pendSync (e : ChEnd) (hn : Foot.pendSync.hasV va = false) : (State.pendSync s e).v va i0 j0 = s.v va i0 j0 :=
  (Does.pendSync (Does.refl _ s) (Foot.le_refl _) _).v hn _ _
@[simp] theorem State.part_pendSync (e : ChEnd) (hn : Foot.pendSync.hasP pa = false) : (State.pendSync s e).part pa = s.part pa :=
  (Does.pendSync (Does.refl _ s) (Foot.le_refl _) _).parts pa hn
@[simp] theorem State.rd_pendAdd (e : ChEnd) (r : CmdReq) (src : CmdSrc) (hn : Foot.pendAdd.hasR fl.r = false) : (State.pendAdd s e r src).rd fl i0 j0 = s.rd fl i0 j0 :=
  (Does.pendAdd (Does.refl _ s) (Foot.le_refl _) _ _ _).rd hn _ _
@[simp] theorem State.reg_pendAdd (e : ChEnd) (r : CmdReq) (src : CmdSrc) (hn : Foot.pendAdd.hasR ra = false) : (State.pendAdd s e r src).reg ra i0 j0 = s.reg ra i0 j0 :=
  (Does.pendAdd (Does.refl _ s) (Foot.le_refl _) _ _ _).reg hn _ _
@[simp] theorem State.v_pendAdd (e : ChEnd) (r : CmdReq) (src : CmdSrc) (hn : Foot.pendAdd.hasV va = false) : (State.pendAdd s e r src).v va i0 j0 = s.v va i0 j0 :=
  (Does.pendAdd (Does.refl _ s) (Foot.le_refl _) _ _ _).v hn _ _
@[simp] theorem State.part_pendAdd (e : ChEnd) (r : CmdReq) (src : CmdSrc) (hn : Foot.pendAdd.hasP pa = false) : (State.pendAdd s e r src).part pa = s.part pa :=
  (Does.pendAdd (Does.refl _ s) (Foot.le_refl _) _ _ _).parts pa hn
@[simp] theorem State.rd_cmdSend (e : ChEnd) (r : CmdReq) (data : Nat) (src : CmdSrc) (hn : Foot.cmdSend.hasR fl.r = false) : (State.cmdSend s e r data src).rd fl i0 j0 = s.rd fl i0 j0 :=
  (Does.cmdSend (Does.refl _ s) (Foot.le_refl _) _ _ _ _).rd hn _ _
@[simp] theorem State.reg_cmdSend (e : ChEnd) (r : CmdReq) (data : Nat) (src : CmdSrc) (hn : Foot.cmdSend.hasR ra = false) : (State.cmdSend s e r data src).reg ra i0 j0 = s.reg ra i0 j0 :=
  (Does.cmdSend (Does.refl _ s) (Foot.le_refl _) _ _ _ _).reg hn _ _
@[simp] theorem State.v_cmdSend (e : ChEnd) (r : CmdReq) (data : Nat) (src : CmdSrc) (hn : Foot.cmdSend.hasV va = false) : (State.cmdSend s e r data src).v va i0 j0 = s.v va i0 j0 :=
  (Does.cmdSend (Does.refl _ s) (Foot.le_refl _) _ _ _ _).v hn _ _
@[simp] theorem State.part_cmdSend (e : ChEnd) (r : CmdReq) (data : Nat) (src : CmdSrc) (hn : Foot.cmdSend.hasP pa = false) : (State.cmdSend s e r data src).part pa = s.part pa :=
  (Does.cmdSend (Does.refl _ s) (Foot.le_refl _) _ _ _ _).parts pa hn
@[simp] theorem State.rd_cmdForward (e : ChEnd) (r : CmdReq) (data : Nat) (src : CmdSrc) (hn : Foot.cmdForward.hasR fl.r = false) : (State.cmdForward s e r data src).rd fl i0 j0 = s.rd fl i0 j0 :=
  (Does.cmdForward (Does.refl _ s) (Foot.le_refl _) _ _ _ _).rd hn _ _
@[simp] theorem State.reg_cmdForward (e : ChEnd) (r : CmdReq) (data : Nat) (src : CmdSrc) (hn : Foot.cmdForward.hasR ra = false) : (State.cmdForward s e r data src).reg ra i0 j0 = s.reg ra i0 j0 :=
  (Does.cmdForward (Does.refl _ s) (Foot.le_refl _) _ _ _ _).reg hn _ _
@[simp] theorem State.v_cmdForward (e : ChEnd) (r : CmdReq) (data : Nat) (src : CmdSrc) (hn : Foot.cmdForward.hasV va = false) : (State.cmdForward s e r data src).v va i0 j0 = s.v va i0 j0 :=
  (Does.cmdForward (Does.refl _ s) (Foot.le_refl _) _ _ _ _).v hn _ _
@[simp] theorem State.part_cmdForward (e : ChEnd) (r : CmdReq) (data : Nat) (src : CmdSrc) (hn : Foot.cmdForward.hasP pa = false) : (State.cmdForward s e r data src).part pa = s.part pa :=
  (Does.cmdForward (Does.refl _ s) (Foot.le_refl _) _ _ _ _).parts pa hn
@[simp] theorem State.rd_cmdNext (e : ChEnd) (hn : Foot.cmdNext.hasR fl.r = false) : (State.cmdNext s e).rd fl i0 j0 = s.rd fl i0 j0 :=
  (Does.cmdNext (Does.refl _ s) (Foot.le_refl _) _).rd hn _ _
@[simp] theorem State.reg_cmdNext (e : ChEnd) (hn : Foot.cmdNext.hasR ra = false) : (State.cmdNext s e).reg ra i0 j0 = s.reg ra i0 j0 :=
  (Does.cmdNext (Does.refl _ s) (Foot.le_refl _) _).reg hn _ _
@[simp] theorem State.v_cmdNext (e : ChEnd) (hn : Foot.cmdNext.hasV va = false) : (State.cmdNext s e).v va i0 j0 = s.v va i0 j0 :=
  (Does.cmdNext (Does.refl _ s) (Foot.le_refl _) _).v hn _ _
@[simp] theorem State.part_cmdNext (e : ChEnd) (hn : Foot.cmdNext.hasP pa = false) : (State.cmdNext s e).part pa = s.part pa :=
  (Does.cmdNext (Does.refl _ s) (Foot.le_refl _) _).parts pa hn
@[simp] theorem State.rd_pendDrop (e : ChEnd) (reqid : Nat) (hn : Foot.pendDrop.hasR fl.r = false) : (State.pendDrop s e reqid).rd fl i0 j0 = s.rd fl i0 j0 :=
  (Does.pendDrop (Does.refl _ s) (Foot.le_refl _) _ _).rd hn _ _
@[simp] theorem State.reg_pendDrop (e : ChEnd) (reqid : Nat) (hn : Foot.pendDrop.hasR ra = false) : (State.pendDrop s e reqid).reg ra i0 j0 = s.reg ra i0 j0 :=
  (Does.pendDrop (Does.refl _ s) (Foot.le_refl _) _ _).reg hn _ _
@[simp] theorem State.v_pendDrop (e : ChEnd) (reqid : Nat) (hn : Foot.pendDrop.hasV va = false) : (State.pendDrop s e reqid).v va i0 j0 = s.v va i0 j0 :=
  (Does.pendDrop (Does.refl _ s) (Foot.le_refl _) _ _).v hn _ _
@[simp] theorem State.part_pendDrop (e : ChEnd) (reqid : Nat) (hn : Foot.pendDrop.hasP pa = false) : (State.pendDrop s e reqid).part pa = s.part pa :=
  (Does.pendDrop (Does.refl _ s) (Foot.le_refl _) _ _).parts pa hn
@[simp] theorem State.rd_hubCmd (dest : Nat) (op : Nat) (off : Nat) (data : Nat) (src : CmdSrc) (hn : Foot.hubCmd.hasR fl.r = false) : (State.hubCmd s dest op off data src).2.rd fl i0 j0 = s.rd fl i0 j0 :=
  (Does.hubCmd (Does.refl _ s) (Foot.le_refl _) _ _ _ _ _).rd hn _ _
@[simp] theorem State.reg_hubCmd (dest : Nat) (op : Nat) (off : Nat) (data : Nat) (src : CmdSrc) (hn : Foot.hubCmd.hasR ra = false) : (State.hubCmd s dest op off data src).2.reg ra i0 j0 = s.reg ra i0 j0 :=
  (Does.hubCmd (Does.refl _ s) (Foot.le_refl _) _ _ _ _ _).reg hn _ _
@[simp] theorem State.v_hubCmd (dest : Nat) (op : Nat) (off : Nat) (data : Nat) (src : CmdSrc) (hn : Foot.hubCmd.hasV va = false) : (State.hubCmd s dest op off data src).2.v va i0 j0 = s.v va i0 j0 :=
  (Does.hubCmd (Does.refl _ s) (Foot.le_refl _) _ _ _ _ _).v hn _ _
@[simp] theorem State.part_hubCmd (dest : Nat) (op : Nat) (off : Nat) (data : Nat) (src : CmdSrc) (hn : Foot.hubCmd.hasP pa = false) : (State.hubCmd s dest op off data src).2.part pa = s.part pa :=
  (Does.hubCmd (Does.refl _ s) (Foot.le_refl _) _ _ _ _ _).parts pa hn
@[simp] theorem State.rd_hubWrite (dest : Nat) (r : Reg) (j : Nat) (data : Nat) (hn : Foot.hubWrite.hasR fl.r = false) : (State.hubWrite s dest r j data).rd fl i0 j0 = s.rd fl i0 j0 :=
  (Does.hubWrite (Does.refl _ s) (Foot.le_refl _) _ _ _ _).rd hn _ _
@[simp] theorem State.reg_hubWrite (dest : Nat) (r : Reg) (j : Nat) (data : Nat) (hn : Foot.hubWrite.hasR ra = false) : (State.hubWrite s dest r j data).reg ra i0 j0 = s.reg ra i0 j0 :=
  (Does.hubWrite (Does.refl _ s) (Foot.le_refl _) _ _ _ _).reg hn _ _
@[simp] theorem State.v_hubWrite (dest : Nat) (r : Reg) (j : Nat) (data : Nat) (hn : Foot.hubWrite.hasV va = false) : (State.hubWrite s dest r j data).v va i0 j0 = s.v va i0 j0 :=
  (Does.hubWrite (Does.refl _ s) (Foot.le_refl _) _ _ _ _).v hn _ _
@[simp] theorem State.part_hubWrite (dest : Nat) (r : Reg) (j : Nat) (data : Nat) (hn : Foot.hubWrite.hasP pa = false) : (State.hubWrite s dest r j data).part pa = s.part pa :=
  (Does.hubWrite (Does.refl _ s) (Foot.le_refl _) _ _ _ _).parts pa hn
@[simp] theorem State.rd_fenceAt (e : ChEnd) (scope : Nat) (hn : Foot.fenceAt.hasR fl.r = false) : (State.fenceAt s e scope).2.rd fl i0 j0 = s.rd fl i0 j0 :=
  (Does.fenceAt (Does.refl _ s) (Foot.le_refl _) _ _).rd hn _ _
@[simp] theorem State.reg_fenceAt (e : ChEnd) (scope : Nat) (hn : Foot.fenceAt.hasR ra = false) : (State.fenceAt s e scope).2.reg ra i0 j0 = s.reg ra i0 j0 :=
  (Does.fenceAt (Does.refl _ s) (Foot.le_refl _) _ _).reg hn _ _
@[simp] theorem State.v_fenceAt (e : ChEnd) (scope : Nat) (hn : Foot.fenceAt.hasV va = false) : (State.fenceAt s e scope).2.v va i0 j0 = s.v va i0 j0 :=
  (Does.fenceAt (Does.refl _ s) (Foot.le_refl _) _ _).v hn _ _
@[simp] theorem State.part_fenceAt (e : ChEnd) (scope : Nat) (hn : Foot.fenceAt.hasP pa = false) : (State.fenceAt s e scope).2.part pa = s.part pa :=
  (Does.fenceAt (Does.refl _ s) (Foot.le_refl _) _ _).parts pa hn
@[simp] theorem State.rd_resumeEnd (e : ChEnd) (hn : Foot.resumeEnd.hasR fl.r = false) : (State.resumeEnd s e).rd fl i0 j0 = s.rd fl i0 j0 :=
  (Does.resumeEnd (Does.refl _ s) (Foot.le_refl _) _).rd hn _ _
@[simp] theorem State.reg_resumeEnd (e : ChEnd) (hn : Foot.resumeEnd.hasR ra = false) : (State.resumeEnd s e).reg ra i0 j0 = s.reg ra i0 j0 :=
  (Does.resumeEnd (Does.refl _ s) (Foot.le_refl _) _).reg hn _ _
@[simp] theorem State.v_resumeEnd (e : ChEnd) (hn : Foot.resumeEnd.hasV va = false) : (State.resumeEnd s e).v va i0 j0 = s.v va i0 j0 :=
  (Does.resumeEnd (Does.refl _ s) (Foot.le_refl _) _).v hn _ _
@[simp] theorem State.part_resumeEnd (e : ChEnd) (hn : Foot.resumeEnd.hasP pa = false) : (State.resumeEnd s e).part pa = s.part pa :=
  (Does.resumeEnd (Does.refl _ s) (Foot.le_refl _) _).parts pa hn
@[simp] theorem State.rd_repMark (leaf : Nat) (reps : List Rep) (hn : Foot.repMark.hasR fl.r = false) : (State.repMark s leaf reps).rd fl i0 j0 = s.rd fl i0 j0 :=
  (Does.repMark (Does.refl _ s) (Foot.le_refl _) _ _).rd hn _ _
@[simp] theorem State.reg_repMark (leaf : Nat) (reps : List Rep) (hn : Foot.repMark.hasR ra = false) : (State.repMark s leaf reps).reg ra i0 j0 = s.reg ra i0 j0 :=
  (Does.repMark (Does.refl _ s) (Foot.le_refl _) _ _).reg hn _ _
@[simp] theorem State.v_repMark (leaf : Nat) (reps : List Rep) (hn : Foot.repMark.hasV va = false) : (State.repMark s leaf reps).v va i0 j0 = s.v va i0 j0 :=
  (Does.repMark (Does.refl _ s) (Foot.le_refl _) _ _).v hn _ _
@[simp] theorem State.part_repMark (leaf : Nat) (reps : List Rep) (hn : Foot.repMark.hasP pa = false) : (State.repMark s leaf reps).part pa = s.part pa :=
  (Does.repMark (Does.refl _ s) (Foot.le_refl _) _ _).parts pa hn
@[simp] theorem State.rd_leakUpdate (leaf : Nat) (hn : Foot.leakUpdate.hasR fl.r = false) : (State.leakUpdate s leaf).rd fl i0 j0 = s.rd fl i0 j0 :=
  (Does.leakUpdate (Does.refl _ s) (Foot.le_refl _) _).rd hn _ _
@[simp] theorem State.reg_leakUpdate (leaf : Nat) (hn : Foot.leakUpdate.hasR ra = false) : (State.leakUpdate s leaf).reg ra i0 j0 = s.reg ra i0 j0 :=
  (Does.leakUpdate (Does.refl _ s) (Foot.le_refl _) _).reg hn _ _
@[simp] theorem State.v_leakUpdate (leaf : Nat) (hn : Foot.leakUpdate.hasV va = false) : (State.leakUpdate s leaf).v va i0 j0 = s.v va i0 j0 :=
  (Does.leakUpdate (Does.refl _ s) (Foot.le_refl _) _).v hn _ _
@[simp] theorem State.part_leakUpdate (leaf : Nat) (hn : Foot.leakUpdate.hasP pa = false) : (State.leakUpdate s leaf).part pa = s.part pa :=
  (Does.leakUpdate (Does.refl _ s) (Foot.le_refl _) _).parts pa hn
@[simp] theorem State.rd_thetaAdopt (leaf : Nat) (k : Nat) (hn : Foot.thetaAdopt.hasR fl.r = false) : (State.thetaAdopt s leaf k).rd fl i0 j0 = s.rd fl i0 j0 :=
  (Does.thetaAdopt (Does.refl _ s) (Foot.le_refl _) _ _).rd hn _ _
@[simp] theorem State.reg_thetaAdopt (leaf : Nat) (k : Nat) (hn : Foot.thetaAdopt.hasR ra = false) : (State.thetaAdopt s leaf k).reg ra i0 j0 = s.reg ra i0 j0 :=
  (Does.thetaAdopt (Does.refl _ s) (Foot.le_refl _) _ _).reg hn _ _
@[simp] theorem State.v_thetaAdopt (leaf : Nat) (k : Nat) (hn : Foot.thetaAdopt.hasV va = false) : (State.thetaAdopt s leaf k).v va i0 j0 = s.v va i0 j0 :=
  (Does.thetaAdopt (Does.refl _ s) (Foot.le_refl _) _ _).v hn _ _
@[simp] theorem State.part_thetaAdopt (leaf : Nat) (k : Nat) (hn : Foot.thetaAdopt.hasP pa = false) : (State.thetaAdopt s leaf k).part pa = s.part pa :=
  (Does.thetaAdopt (Does.refl _ s) (Foot.le_refl _) _ _).parts pa hn
@[simp] theorem State.rd_thetaWrite (leaf : Nat) (k : Nat) (hi : Bool) (w : Nat) (hn : Foot.thetaWrite.hasR fl.r = false) : (State.thetaWrite s leaf k hi w).rd fl i0 j0 = s.rd fl i0 j0 :=
  (Does.thetaWrite (Does.refl _ s) (Foot.le_refl _) _ _ _ _).rd hn _ _
@[simp] theorem State.reg_thetaWrite (leaf : Nat) (k : Nat) (hi : Bool) (w : Nat) (hn : Foot.thetaWrite.hasR ra = false) : (State.thetaWrite s leaf k hi w).reg ra i0 j0 = s.reg ra i0 j0 :=
  (Does.thetaWrite (Does.refl _ s) (Foot.le_refl _) _ _ _ _).reg hn _ _
@[simp] theorem State.v_thetaWrite (leaf : Nat) (k : Nat) (hi : Bool) (w : Nat) (hn : Foot.thetaWrite.hasV va = false) : (State.thetaWrite s leaf k hi w).v va i0 j0 = s.v va i0 j0 :=
  (Does.thetaWrite (Does.refl _ s) (Foot.le_refl _) _ _ _ _).v hn _ _
@[simp] theorem State.part_thetaWrite (leaf : Nat) (k : Nat) (hi : Bool) (w : Nat) (hn : Foot.thetaWrite.hasP pa = false) : (State.thetaWrite s leaf k hi w).part pa = s.part pa :=
  (Does.thetaWrite (Does.refl _ s) (Foot.le_refl _) _ _ _ _).parts pa hn
@[simp] theorem State.rd_sendEst (d : Nat) (slot : Nat) (l : List (Nat × Nat)) (hn : Foot.sendEst.hasR fl.r = false) : (State.sendEst s d slot l).rd fl i0 j0 = s.rd fl i0 j0 :=
  (Does.sendEst (Does.refl _ s) (Foot.le_refl _) _ _ _).rd hn _ _
@[simp] theorem State.reg_sendEst (d : Nat) (slot : Nat) (l : List (Nat × Nat)) (hn : Foot.sendEst.hasR ra = false) : (State.sendEst s d slot l).reg ra i0 j0 = s.reg ra i0 j0 :=
  (Does.sendEst (Does.refl _ s) (Foot.le_refl _) _ _ _).reg hn _ _
@[simp] theorem State.v_sendEst (d : Nat) (slot : Nat) (l : List (Nat × Nat)) (hn : Foot.sendEst.hasV va = false) : (State.sendEst s d slot l).v va i0 j0 = s.v va i0 j0 :=
  (Does.sendEst (Does.refl _ s) (Foot.le_refl _) _ _ _).v hn _ _
@[simp] theorem State.part_sendEst (d : Nat) (slot : Nat) (l : List (Nat × Nat)) (hn : Foot.sendEst.hasP pa = false) : (State.sendEst s d slot l).part pa = s.part pa :=
  (Does.sendEst (Does.refl _ s) (Foot.le_refl _) _ _ _).parts pa hn
@[simp] theorem State.rd_leafSlot (leaf : Nat) (slot : Nat) (acts : List Act) (hn : Foot.leafSlot.hasR fl.r = false) : (State.leafSlot s leaf slot acts).rd fl i0 j0 = s.rd fl i0 j0 :=
  (Does.leafSlot (Does.refl _ s) (Foot.le_refl _) _ _ _).rd hn _ _
@[simp] theorem State.reg_leafSlot (leaf : Nat) (slot : Nat) (acts : List Act) (hn : Foot.leafSlot.hasR ra = false) : (State.leafSlot s leaf slot acts).reg ra i0 j0 = s.reg ra i0 j0 :=
  (Does.leafSlot (Does.refl _ s) (Foot.le_refl _) _ _ _).reg hn _ _
@[simp] theorem State.v_leafSlot (leaf : Nat) (slot : Nat) (acts : List Act) (hn : Foot.leafSlot.hasV va = false) : (State.leafSlot s leaf slot acts).v va i0 j0 = s.v va i0 j0 :=
  (Does.leafSlot (Does.refl _ s) (Foot.le_refl _) _ _ _).v hn _ _
@[simp] theorem State.part_leafSlot (leaf : Nat) (slot : Nat) (acts : List Act) (hn : Foot.leafSlot.hasP pa = false) : (State.leafSlot s leaf slot acts).part pa = s.part pa :=
  (Does.leafSlot (Does.refl _ s) (Foot.le_refl _) _ _ _).parts pa hn
@[simp] theorem State.rd_leafInterval (leaf : Nat) (j : Nat) (hn : Foot.leafInterval.hasR fl.r = false) : (State.leafInterval s leaf j).rd fl i0 j0 = s.rd fl i0 j0 :=
  (Does.leafInterval (Does.refl _ s) (Foot.le_refl _) _ _).rd hn _ _
@[simp] theorem State.reg_leafInterval (leaf : Nat) (j : Nat) (hn : Foot.leafInterval.hasR ra = false) : (State.leafInterval s leaf j).reg ra i0 j0 = s.reg ra i0 j0 :=
  (Does.leafInterval (Does.refl _ s) (Foot.le_refl _) _ _).reg hn _ _
@[simp] theorem State.v_leafInterval (leaf : Nat) (j : Nat) (hn : Foot.leafInterval.hasV va = false) : (State.leafInterval s leaf j).v va i0 j0 = s.v va i0 j0 :=
  (Does.leafInterval (Does.refl _ s) (Foot.le_refl _) _ _).v hn _ _
@[simp] theorem State.part_leafInterval (leaf : Nat) (j : Nat) (hn : Foot.leafInterval.hasP pa = false) : (State.leafInterval s leaf j).part pa = s.part pa :=
  (Does.leafInterval (Does.refl _ s) (Foot.le_refl _) _ _).parts pa hn
@[simp] theorem State.rd_intervalDone (leaf : Nat) (j : Nat) (hn : Foot.intervalDone.hasR fl.r = false) : (State.intervalDone s leaf j).rd fl i0 j0 = s.rd fl i0 j0 :=
  (Does.intervalDone (Does.refl _ s) (Foot.le_refl _) _ _).rd hn _ _
@[simp] theorem State.reg_intervalDone (leaf : Nat) (j : Nat) (hn : Foot.intervalDone.hasR ra = false) : (State.intervalDone s leaf j).reg ra i0 j0 = s.reg ra i0 j0 :=
  (Does.intervalDone (Does.refl _ s) (Foot.le_refl _) _ _).reg hn _ _
@[simp] theorem State.v_intervalDone (leaf : Nat) (j : Nat) (hn : Foot.intervalDone.hasV va = false) : (State.intervalDone s leaf j).v va i0 j0 = s.v va i0 j0 :=
  (Does.intervalDone (Does.refl _ s) (Foot.le_refl _) _ _).v hn _ _
@[simp] theorem State.part_intervalDone (leaf : Nat) (j : Nat) (hn : Foot.intervalDone.hasP pa = false) : (State.intervalDone s leaf j).part pa = s.part pa :=
  (Does.intervalDone (Does.refl _ s) (Foot.le_refl _) _ _).parts pa hn
@[simp] theorem State.rd_winBreak (leaf : Nat) (hn : Foot.winBreak.hasR fl.r = false) : (State.winBreak s leaf).rd fl i0 j0 = s.rd fl i0 j0 :=
  (Does.winBreak (Does.refl _ s) (Foot.le_refl _) _).rd hn _ _
@[simp] theorem State.reg_winBreak (leaf : Nat) (hn : Foot.winBreak.hasR ra = false) : (State.winBreak s leaf).reg ra i0 j0 = s.reg ra i0 j0 :=
  (Does.winBreak (Does.refl _ s) (Foot.le_refl _) _).reg hn _ _
@[simp] theorem State.v_winBreak (leaf : Nat) (hn : Foot.winBreak.hasV va = false) : (State.winBreak s leaf).v va i0 j0 = s.v va i0 j0 :=
  (Does.winBreak (Does.refl _ s) (Foot.le_refl _) _).v hn _ _
@[simp] theorem State.part_winBreak (leaf : Nat) (hn : Foot.winBreak.hasP pa = false) : (State.winBreak s leaf).part pa = s.part pa :=
  (Does.winBreak (Does.refl _ s) (Foot.le_refl _) _).parts pa hn
@[simp] theorem State.rd_leafGroupsReport (leaf : Nat) (w : Nat) (hn : Foot.leafGroupsReport.hasR fl.r = false) : (State.leafGroupsReport s leaf w).rd fl i0 j0 = s.rd fl i0 j0 :=
  (Does.leafGroupsReport (Does.refl _ s) (Foot.le_refl _) _ _).rd hn _ _
@[simp] theorem State.reg_leafGroupsReport (leaf : Nat) (w : Nat) (hn : Foot.leafGroupsReport.hasR ra = false) : (State.leafGroupsReport s leaf w).reg ra i0 j0 = s.reg ra i0 j0 :=
  (Does.leafGroupsReport (Does.refl _ s) (Foot.le_refl _) _ _).reg hn _ _
@[simp] theorem State.v_leafGroupsReport (leaf : Nat) (w : Nat) (hn : Foot.leafGroupsReport.hasV va = false) : (State.leafGroupsReport s leaf w).v va i0 j0 = s.v va i0 j0 :=
  (Does.leafGroupsReport (Does.refl _ s) (Foot.le_refl _) _ _).v hn _ _
@[simp] theorem State.part_leafGroupsReport (leaf : Nat) (w : Nat) (hn : Foot.leafGroupsReport.hasP pa = false) : (State.leafGroupsReport s leaf w).part pa = s.part pa :=
  (Does.leafGroupsReport (Does.refl _ s) (Foot.le_refl _) _ _).parts pa hn
@[simp] theorem State.rd_estTake (child : Nat) (rail : Nat) (slot : Nat) (mw : Nat) (hn : Foot.estTake.hasR fl.r = false) : (State.estTake s child rail slot mw).rd fl i0 j0 = s.rd fl i0 j0 :=
  (Does.estTake (Does.refl _ s) (Foot.le_refl _) _ _ _ _).rd hn _ _
@[simp] theorem State.reg_estTake (child : Nat) (rail : Nat) (slot : Nat) (mw : Nat) (hn : Foot.estTake.hasR ra = false) : (State.estTake s child rail slot mw).reg ra i0 j0 = s.reg ra i0 j0 :=
  (Does.estTake (Does.refl _ s) (Foot.le_refl _) _ _ _ _).reg hn _ _
@[simp] theorem State.v_estTake (child : Nat) (rail : Nat) (slot : Nat) (mw : Nat) (hn : Foot.estTake.hasV va = false) : (State.estTake s child rail slot mw).v va i0 j0 = s.v va i0 j0 :=
  (Does.estTake (Does.refl _ s) (Foot.le_refl _) _ _ _ _).v hn _ _
@[simp] theorem State.part_estTake (child : Nat) (rail : Nat) (slot : Nat) (mw : Nat) (hn : Foot.estTake.hasP pa = false) : (State.estTake s child rail slot mw).part pa = s.part pa :=
  (Does.estTake (Does.refl _ s) (Foot.le_refl _) _ _ _ _).parts pa hn
@[simp] theorem State.rd_nodeSlot (n : Nat) (slot : Nat) (hn : Foot.nodeSlot.hasR fl.r = false) : (State.nodeSlot s n slot).rd fl i0 j0 = s.rd fl i0 j0 :=
  (Does.nodeSlot (Does.refl _ s) (Foot.le_refl _) _ _).rd hn _ _
@[simp] theorem State.reg_nodeSlot (n : Nat) (slot : Nat) (hn : Foot.nodeSlot.hasR ra = false) : (State.nodeSlot s n slot).reg ra i0 j0 = s.reg ra i0 j0 :=
  (Does.nodeSlot (Does.refl _ s) (Foot.le_refl _) _ _).reg hn _ _
@[simp] theorem State.v_nodeSlot (n : Nat) (slot : Nat) (hn : Foot.nodeSlot.hasV va = false) : (State.nodeSlot s n slot).v va i0 j0 = s.v va i0 j0 :=
  (Does.nodeSlot (Does.refl _ s) (Foot.le_refl _) _ _).v hn _ _
@[simp] theorem State.part_nodeSlot (n : Nat) (slot : Nat) (hn : Foot.nodeSlot.hasP pa = false) : (State.nodeSlot s n slot).part pa = s.part pa :=
  (Does.nodeSlot (Does.refl _ s) (Foot.le_refl _) _ _).parts pa hn
@[simp] theorem State.rd_hubSlotEst (slot : Nat) (hn : Foot.hubSlotEst.hasR fl.r = false) : (State.hubSlotEst s slot).rd fl i0 j0 = s.rd fl i0 j0 :=
  (Does.hubSlotEst (Does.refl _ s) (Foot.le_refl _) _).rd hn _ _
@[simp] theorem State.reg_hubSlotEst (slot : Nat) (hn : Foot.hubSlotEst.hasR ra = false) : (State.hubSlotEst s slot).reg ra i0 j0 = s.reg ra i0 j0 :=
  (Does.hubSlotEst (Does.refl _ s) (Foot.le_refl _) _).reg hn _ _
@[simp] theorem State.v_hubSlotEst (slot : Nat) (hn : Foot.hubSlotEst.hasV va = false) : (State.hubSlotEst s slot).v va i0 j0 = s.v va i0 j0 :=
  (Does.hubSlotEst (Does.refl _ s) (Foot.le_refl _) _).v hn _ _
@[simp] theorem State.part_hubSlotEst (slot : Nat) (hn : Foot.hubSlotEst.hasP pa = false) : (State.hubSlotEst s slot).part pa = s.part pa :=
  (Does.hubSlotEst (Does.refl _ s) (Foot.le_refl _) _).parts pa hn
@[simp] theorem State.rd_attribute (r : Nat) (f : Nat) (j : Nat) (hn : Foot.attribute.hasR fl.r = false) : (State.attribute s r f j).rd fl i0 j0 = s.rd fl i0 j0 :=
  (Does.attribute (Does.refl _ s) (Foot.le_refl _) _ _ _).rd hn _ _
@[simp] theorem State.reg_attribute (r : Nat) (f : Nat) (j : Nat) (hn : Foot.attribute.hasR ra = false) : (State.attribute s r f j).reg ra i0 j0 = s.reg ra i0 j0 :=
  (Does.attribute (Does.refl _ s) (Foot.le_refl _) _ _ _).reg hn _ _
@[simp] theorem State.v_attribute (r : Nat) (f : Nat) (j : Nat) (hn : Foot.attribute.hasV va = false) : (State.attribute s r f j).v va i0 j0 = s.v va i0 j0 :=
  (Does.attribute (Does.refl _ s) (Foot.le_refl _) _ _ _).v hn _ _
@[simp] theorem State.part_attribute (r : Nat) (f : Nat) (j : Nat) (hn : Foot.attribute.hasP pa = false) : (State.attribute s r f j).part pa = s.part pa :=
  (Does.attribute (Does.refl _ s) (Foot.le_refl _) _ _ _).parts pa hn
@[simp] theorem State.rd_ivTake (leaf : Nat) (rail : Nat) (seq : Nat) (pwr : Nat) (hn : Foot.ivTake.hasR fl.r = false) : (State.ivTake s leaf rail seq pwr).rd fl i0 j0 = s.rd fl i0 j0 :=
  (Does.ivTake (Does.refl _ s) (Foot.le_refl _) _ _ _ _).rd hn _ _
@[simp] theorem State.reg_ivTake (leaf : Nat) (rail : Nat) (seq : Nat) (pwr : Nat) (hn : Foot.ivTake.hasR ra = false) : (State.ivTake s leaf rail seq pwr).reg ra i0 j0 = s.reg ra i0 j0 :=
  (Does.ivTake (Does.refl _ s) (Foot.le_refl _) _ _ _ _).reg hn _ _
@[simp] theorem State.v_ivTake (leaf : Nat) (rail : Nat) (seq : Nat) (pwr : Nat) (hn : Foot.ivTake.hasV va = false) : (State.ivTake s leaf rail seq pwr).v va i0 j0 = s.v va i0 j0 :=
  (Does.ivTake (Does.refl _ s) (Foot.le_refl _) _ _ _ _).v hn _ _
@[simp] theorem State.part_ivTake (leaf : Nat) (rail : Nat) (seq : Nat) (pwr : Nat) (hn : Foot.ivTake.hasP pa = false) : (State.ivTake s leaf rail seq pwr).part pa = s.part pa :=
  (Does.ivTake (Does.refl _ s) (Foot.le_refl _) _ _ _ _).parts pa hn
@[simp] theorem State.rd_kneadCov (r : Nat) (hn : Foot.kneadCov.hasR fl.r = false) : (State.kneadCov s r).rd fl i0 j0 = s.rd fl i0 j0 :=
  (Does.kneadCov (Does.refl _ s) (Foot.le_refl _) _).rd hn _ _
@[simp] theorem State.reg_kneadCov (r : Nat) (hn : Foot.kneadCov.hasR ra = false) : (State.kneadCov s r).reg ra i0 j0 = s.reg ra i0 j0 :=
  (Does.kneadCov (Does.refl _ s) (Foot.le_refl _) _).reg hn _ _
@[simp] theorem State.v_kneadCov (r : Nat) (hn : Foot.kneadCov.hasV va = false) : (State.kneadCov s r).v va i0 j0 = s.v va i0 j0 :=
  (Does.kneadCov (Does.refl _ s) (Foot.le_refl _) _).v hn _ _
@[simp] theorem State.part_kneadCov (r : Nat) (hn : Foot.kneadCov.hasP pa = false) : (State.kneadCov s r).part pa = s.part pa :=
  (Does.kneadCov (Does.refl _ s) (Foot.le_refl _) _).parts pa hn
@[simp] theorem State.rd_thetaShow (r : Nat) (hn : Foot.thetaShow.hasR fl.r = false) : (State.thetaShow s r).rd fl i0 j0 = s.rd fl i0 j0 :=
  (Does.thetaShow (Does.refl _ s) (Foot.le_refl _) _).rd hn _ _
@[simp] theorem State.reg_thetaShow (r : Nat) (hn : Foot.thetaShow.hasR ra = false) : (State.thetaShow s r).reg ra i0 j0 = s.reg ra i0 j0 :=
  (Does.thetaShow (Does.refl _ s) (Foot.le_refl _) _).reg hn _ _
@[simp] theorem State.v_thetaShow (r : Nat) (hn : Foot.thetaShow.hasV va = false) : (State.thetaShow s r).v va i0 j0 = s.v va i0 j0 :=
  (Does.thetaShow (Does.refl _ s) (Foot.le_refl _) _).v hn _ _
@[simp] theorem State.part_thetaShow (r : Nat) (hn : Foot.thetaShow.hasP pa = false) : (State.thetaShow s r).part pa = s.part pa :=
  (Does.thetaShow (Does.refl _ s) (Foot.le_refl _) _).parts pa hn
@[simp] theorem State.rd_kneadReset (r : Nat) (hn : Foot.kneadReset.hasR fl.r = false) : (State.kneadReset s r).rd fl i0 j0 = s.rd fl i0 j0 :=
  (Does.kneadReset (Does.refl _ s) (Foot.le_refl _) _).rd hn _ _
@[simp] theorem State.reg_kneadReset (r : Nat) (hn : Foot.kneadReset.hasR ra = false) : (State.kneadReset s r).reg ra i0 j0 = s.reg ra i0 j0 :=
  (Does.kneadReset (Does.refl _ s) (Foot.le_refl _) _).reg hn _ _
@[simp] theorem State.v_kneadReset (r : Nat) (hn : Foot.kneadReset.hasV va = false) : (State.kneadReset s r).v va i0 j0 = s.v va i0 j0 :=
  (Does.kneadReset (Does.refl _ s) (Foot.le_refl _) _).v hn _ _
@[simp] theorem State.part_kneadReset (r : Nat) (hn : Foot.kneadReset.hasP pa = false) : (State.kneadReset s r).part pa = s.part pa :=
  (Does.kneadReset (Does.refl _ s) (Foot.le_refl _) _).parts pa hn
@[simp] theorem State.rd_thetaSend (r : Nat) (hn : Foot.thetaSend.hasR fl.r = false) : (State.thetaSend s r).rd fl i0 j0 = s.rd fl i0 j0 :=
  (Does.thetaSend (Does.refl _ s) (Foot.le_refl _) _).rd hn _ _
@[simp] theorem State.reg_thetaSend (r : Nat) (hn : Foot.thetaSend.hasR ra = false) : (State.thetaSend s r).reg ra i0 j0 = s.reg ra i0 j0 :=
  (Does.thetaSend (Does.refl _ s) (Foot.le_refl _) _).reg hn _ _
@[simp] theorem State.v_thetaSend (r : Nat) (hn : Foot.thetaSend.hasV va = false) : (State.thetaSend s r).v va i0 j0 = s.v va i0 j0 :=
  (Does.thetaSend (Does.refl _ s) (Foot.le_refl _) _).v hn _ _
@[simp] theorem State.part_thetaSend (r : Nat) (hn : Foot.thetaSend.hasP pa = false) : (State.thetaSend s r).part pa = s.part pa :=
  (Does.thetaSend (Does.refl _ s) (Foot.le_refl _) _).parts pa hn
@[simp] theorem State.rd_fuseTo (r : Nat) (st : Nat) (stamp : Nat) (hn : Foot.fuseTo.hasR fl.r = false) : (State.fuseTo s r st stamp).rd fl i0 j0 = s.rd fl i0 j0 :=
  (Does.fuseTo (Does.refl _ s) (Foot.le_refl _) _ _ _).rd hn _ _
@[simp] theorem State.reg_fuseTo (r : Nat) (st : Nat) (stamp : Nat) (hn : Foot.fuseTo.hasR ra = false) : (State.fuseTo s r st stamp).reg ra i0 j0 = s.reg ra i0 j0 :=
  (Does.fuseTo (Does.refl _ s) (Foot.le_refl _) _ _ _).reg hn _ _
@[simp] theorem State.v_fuseTo (r : Nat) (st : Nat) (stamp : Nat) (hn : Foot.fuseTo.hasV va = false) : (State.fuseTo s r st stamp).v va i0 j0 = s.v va i0 j0 :=
  (Does.fuseTo (Does.refl _ s) (Foot.le_refl _) _ _ _).v hn _ _
@[simp] theorem State.part_fuseTo (r : Nat) (st : Nat) (stamp : Nat) (hn : Foot.fuseTo.hasP pa = false) : (State.fuseTo s r st stamp).part pa = s.part pa :=
  (Does.fuseTo (Does.refl _ s) (Foot.le_refl _) _ _ _).parts pa hn
@[simp] theorem State.rd_estDiag (r : Nat) (j : Nat) (sumM : Int) (sumE : Int) (sumV : Int) (nV : Nat) (hn : Foot.estDiag.hasR fl.r = false) : (State.estDiag s r j sumM sumE sumV nV).rd fl i0 j0 = s.rd fl i0 j0 :=
  (Does.estDiag (Does.refl _ s) (Foot.le_refl _) _ _ _ _ _ _).rd hn _ _
@[simp] theorem State.reg_estDiag (r : Nat) (j : Nat) (sumM : Int) (sumE : Int) (sumV : Int) (nV : Nat) (hn : Foot.estDiag.hasR ra = false) : (State.estDiag s r j sumM sumE sumV nV).reg ra i0 j0 = s.reg ra i0 j0 :=
  (Does.estDiag (Does.refl _ s) (Foot.le_refl _) _ _ _ _ _ _).reg hn _ _
@[simp] theorem State.v_estDiag (r : Nat) (j : Nat) (sumM : Int) (sumE : Int) (sumV : Int) (nV : Nat) (hn : Foot.estDiag.hasV va = false) : (State.estDiag s r j sumM sumE sumV nV).v va i0 j0 = s.v va i0 j0 :=
  (Does.estDiag (Does.refl _ s) (Foot.le_refl _) _ _ _ _ _ _).v hn _ _
@[simp] theorem State.part_estDiag (r : Nat) (j : Nat) (sumM : Int) (sumE : Int) (sumV : Int) (nV : Nat) (hn : Foot.estDiag.hasP pa = false) : (State.estDiag s r j sumM sumE sumV nV).part pa = s.part pa :=
  (Does.estDiag (Does.refl _ s) (Foot.le_refl _) _ _ _ _ _ _).parts pa hn
@[simp] theorem State.rd_divergence (r : Nat) (j : Nat) (m : Int) (e : Int) (n : Nat) (sv : Int) (hn : Foot.divergence.hasR fl.r = false) : (State.divergence s r j m e n sv).rd fl i0 j0 = s.rd fl i0 j0 :=
  (Does.divergence (Does.refl _ s) (Foot.le_refl _) _ _ _ _ _ _).rd hn _ _
@[simp] theorem State.reg_divergence (r : Nat) (j : Nat) (m : Int) (e : Int) (n : Nat) (sv : Int) (hn : Foot.divergence.hasR ra = false) : (State.divergence s r j m e n sv).reg ra i0 j0 = s.reg ra i0 j0 :=
  (Does.divergence (Does.refl _ s) (Foot.le_refl _) _ _ _ _ _ _).reg hn _ _
@[simp] theorem State.v_divergence (r : Nat) (j : Nat) (m : Int) (e : Int) (n : Nat) (sv : Int) (hn : Foot.divergence.hasV va = false) : (State.divergence s r j m e n sv).v va i0 j0 = s.v va i0 j0 :=
  (Does.divergence (Does.refl _ s) (Foot.le_refl _) _ _ _ _ _ _).v hn _ _
@[simp] theorem State.part_divergence (r : Nat) (j : Nat) (m : Int) (e : Int) (n : Nat) (sv : Int) (hn : Foot.divergence.hasP pa = false) : (State.divergence s r j m e n sv).part pa = s.part pa :=
  (Does.divergence (Does.refl _ s) (Foot.le_refl _) _ _ _ _ _ _).parts pa hn
@[simp] theorem State.rd_divClear (r : Nat) (j : Nat) (m : Int) (e : Int) (n : Nat) (sv : Int) (hn : Foot.divClear.hasR fl.r = false) : (State.divClear s r j m e n sv).rd fl i0 j0 = s.rd fl i0 j0 :=
  (Does.divClear (Does.refl _ s) (Foot.le_refl _) _ _ _ _ _ _).rd hn _ _
@[simp] theorem State.reg_divClear (r : Nat) (j : Nat) (m : Int) (e : Int) (n : Nat) (sv : Int) (hn : Foot.divClear.hasR ra = false) : (State.divClear s r j m e n sv).reg ra i0 j0 = s.reg ra i0 j0 :=
  (Does.divClear (Does.refl _ s) (Foot.le_refl _) _ _ _ _ _ _).reg hn _ _
@[simp] theorem State.v_divClear (r : Nat) (j : Nat) (m : Int) (e : Int) (n : Nat) (sv : Int) (hn : Foot.divClear.hasV va = false) : (State.divClear s r j m e n sv).v va i0 j0 = s.v va i0 j0 :=
  (Does.divClear (Does.refl _ s) (Foot.le_refl _) _ _ _ _ _ _).v hn _ _
@[simp] theorem State.part_divClear (r : Nat) (j : Nat) (m : Int) (e : Int) (n : Nat) (sv : Int) (hn : Foot.divClear.hasP pa = false) : (State.divClear s r j m e n sv).part pa = s.part pa :=
  (Does.divClear (Does.refl _ s) (Foot.le_refl _) _ _ _ _ _ _).parts pa hn
@[simp] theorem State.rd_railInterval (r : Nat) (j : Nat) (hn : Foot.railInterval.hasR fl.r = false) : (State.railInterval s r j).rd fl i0 j0 = s.rd fl i0 j0 :=
  (Does.railInterval (Does.refl _ s) (Foot.le_refl _) _ _).rd hn _ _
@[simp] theorem State.reg_railInterval (r : Nat) (j : Nat) (hn : Foot.railInterval.hasR ra = false) : (State.railInterval s r j).reg ra i0 j0 = s.reg ra i0 j0 :=
  (Does.railInterval (Does.refl _ s) (Foot.le_refl _) _ _).reg hn _ _
@[simp] theorem State.v_railInterval (r : Nat) (j : Nat) (hn : Foot.railInterval.hasV va = false) : (State.railInterval s r j).v va i0 j0 = s.v va i0 j0 :=
  (Does.railInterval (Does.refl _ s) (Foot.le_refl _) _ _).v hn _ _
@[simp] theorem State.part_railInterval (r : Nat) (j : Nat) (hn : Foot.railInterval.hasP pa = false) : (State.railInterval s r j).part pa = s.part pa :=
  (Does.railInterval (Does.refl _ s) (Foot.le_refl _) _ _).parts pa hn
@[simp] theorem State.rd_railDone (r : Nat) (j : Nat) (hn : Foot.railDone.hasR fl.r = false) : (State.railDone s r j).rd fl i0 j0 = s.rd fl i0 j0 :=
  (Does.railDone (Does.refl _ s) (Foot.le_refl _) _ _).rd hn _ _
@[simp] theorem State.reg_railDone (r : Nat) (j : Nat) (hn : Foot.railDone.hasR ra = false) : (State.railDone s r j).reg ra i0 j0 = s.reg ra i0 j0 :=
  (Does.railDone (Does.refl _ s) (Foot.le_refl _) _ _).reg hn _ _
@[simp] theorem State.v_railDone (r : Nat) (j : Nat) (hn : Foot.railDone.hasV va = false) : (State.railDone s r j).v va i0 j0 = s.v va i0 j0 :=
  (Does.railDone (Does.refl _ s) (Foot.le_refl _) _ _).v hn _ _
@[simp] theorem State.part_railDone (r : Nat) (j : Nat) (hn : Foot.railDone.hasP pa = false) : (State.railDone s r j).part pa = s.part pa :=
  (Does.railDone (Does.refl _ s) (Foot.le_refl _) _ _).parts pa hn
@[simp] theorem State.rd_kneadSkipped (r : Nat) (code : Nat) (hn : Foot.kneadSkipped.hasR fl.r = false) : (State.kneadSkipped s r code).rd fl i0 j0 = s.rd fl i0 j0 :=
  (Does.kneadSkipped (Does.refl _ s) (Foot.le_refl _) _ _).rd hn _ _
@[simp] theorem State.reg_kneadSkipped (r : Nat) (code : Nat) (hn : Foot.kneadSkipped.hasR ra = false) : (State.kneadSkipped s r code).reg ra i0 j0 = s.reg ra i0 j0 :=
  (Does.kneadSkipped (Does.refl _ s) (Foot.le_refl _) _ _).reg hn _ _
@[simp] theorem State.v_kneadSkipped (r : Nat) (code : Nat) (hn : Foot.kneadSkipped.hasV va = false) : (State.kneadSkipped s r code).v va i0 j0 = s.v va i0 j0 :=
  (Does.kneadSkipped (Does.refl _ s) (Foot.le_refl _) _ _).v hn _ _
@[simp] theorem State.part_kneadSkipped (r : Nat) (code : Nat) (hn : Foot.kneadSkipped.hasP pa = false) : (State.kneadSkipped s r code).part pa = s.part pa :=
  (Does.kneadSkipped (Does.refl _ s) (Foot.le_refl _) _ _).parts pa hn
@[simp] theorem State.rd_kneadRail (r : Nat) (w : Nat) (hn : Foot.kneadRail.hasR fl.r = false) : (State.kneadRail s r w).rd fl i0 j0 = s.rd fl i0 j0 :=
  (Does.kneadRail (Does.refl _ s) (Foot.le_refl _) _ _).rd hn _ _
@[simp] theorem State.reg_kneadRail (r : Nat) (w : Nat) (hn : Foot.kneadRail.hasR ra = false) : (State.kneadRail s r w).reg ra i0 j0 = s.reg ra i0 j0 :=
  (Does.kneadRail (Does.refl _ s) (Foot.le_refl _) _ _).reg hn _ _
@[simp] theorem State.v_kneadRail (r : Nat) (w : Nat) (hn : Foot.kneadRail.hasV va = false) : (State.kneadRail s r w).v va i0 j0 = s.v va i0 j0 :=
  (Does.kneadRail (Does.refl _ s) (Foot.le_refl _) _ _).v hn _ _
@[simp] theorem State.part_kneadRail (r : Nat) (w : Nat) (hn : Foot.kneadRail.hasP pa = false) : (State.kneadRail s r w).part pa = s.part pa :=
  (Does.kneadRail (Does.refl _ s) (Foot.le_refl _) _ _).parts pa hn
@[simp] theorem State.rd_kneadClear (w : Nat) (hn : Foot.kneadClear.hasR fl.r = false) : (State.kneadClear s w).rd fl i0 j0 = s.rd fl i0 j0 :=
  (Does.kneadClear (Does.refl _ s) (Foot.le_refl _) _).rd hn _ _
@[simp] theorem State.reg_kneadClear (w : Nat) (hn : Foot.kneadClear.hasR ra = false) : (State.kneadClear s w).reg ra i0 j0 = s.reg ra i0 j0 :=
  (Does.kneadClear (Does.refl _ s) (Foot.le_refl _) _).reg hn _ _
@[simp] theorem State.v_kneadClear (w : Nat) (hn : Foot.kneadClear.hasV va = false) : (State.kneadClear s w).v va i0 j0 = s.v va i0 j0 :=
  (Does.kneadClear (Does.refl _ s) (Foot.le_refl _) _).v hn _ _
@[simp] theorem State.part_kneadClear (w : Nat) (hn : Foot.kneadClear.hasP pa = false) : (State.kneadClear s w).part pa = s.part pa :=
  (Does.kneadClear (Does.refl _ s) (Foot.le_refl _) _).parts pa hn
@[simp] theorem State.rd_kneadTouch (r : Nat) (stamp : Nat) (hn : Foot.kneadTouch.hasR fl.r = false) : (State.kneadTouch s r stamp).rd fl i0 j0 = s.rd fl i0 j0 :=
  (Does.kneadTouch (Does.refl _ s) (Foot.le_refl _) _ _).rd hn _ _
@[simp] theorem State.reg_kneadTouch (r : Nat) (stamp : Nat) (hn : Foot.kneadTouch.hasR ra = false) : (State.kneadTouch s r stamp).reg ra i0 j0 = s.reg ra i0 j0 :=
  (Does.kneadTouch (Does.refl _ s) (Foot.le_refl _) _ _).reg hn _ _
@[simp] theorem State.v_kneadTouch (r : Nat) (stamp : Nat) (hn : Foot.kneadTouch.hasV va = false) : (State.kneadTouch s r stamp).v va i0 j0 = s.v va i0 j0 :=
  (Does.kneadTouch (Does.refl _ s) (Foot.le_refl _) _ _).v hn _ _
@[simp] theorem State.part_kneadTouch (r : Nat) (stamp : Nat) (hn : Foot.kneadTouch.hasP pa = false) : (State.kneadTouch s r stamp).part pa = s.part pa :=
  (Does.kneadTouch (Does.refl _ s) (Foot.le_refl _) _ _).parts pa hn
@[simp] theorem State.rd_groupHub (r : Nat) (g : Nat) (nleaf : Nat) (seq : Nat) (en : Int) (hn : Foot.groupHub.hasR fl.r = false) : (State.groupHub s r g nleaf seq en).rd fl i0 j0 = s.rd fl i0 j0 :=
  (Does.groupHub (Does.refl _ s) (Foot.le_refl _) _ _ _ _ _).rd hn _ _
@[simp] theorem State.reg_groupHub (r : Nat) (g : Nat) (nleaf : Nat) (seq : Nat) (en : Int) (hn : Foot.groupHub.hasR ra = false) : (State.groupHub s r g nleaf seq en).reg ra i0 j0 = s.reg ra i0 j0 :=
  (Does.groupHub (Does.refl _ s) (Foot.le_refl _) _ _ _ _ _).reg hn _ _
@[simp] theorem State.v_groupHub (r : Nat) (g : Nat) (nleaf : Nat) (seq : Nat) (en : Int) (hn : Foot.groupHub.hasV va = false) : (State.groupHub s r g nleaf seq en).v va i0 j0 = s.v va i0 j0 :=
  (Does.groupHub (Does.refl _ s) (Foot.le_refl _) _ _ _ _ _).v hn _ _
@[simp] theorem State.part_groupHub (r : Nat) (g : Nat) (nleaf : Nat) (seq : Nat) (en : Int) (hn : Foot.groupHub.hasP pa = false) : (State.groupHub s r g nleaf seq en).part pa = s.part pa :=
  (Does.groupHub (Does.refl _ s) (Foot.le_refl _) _ _ _ _ _).parts pa hn
@[simp] theorem State.rd_grpSend (n : Nat) (r : Nat) (g : Nat) (seq : Nat) (hn : Foot.grpSend.hasR fl.r = false) : (State.grpSend s n r g seq).rd fl i0 j0 = s.rd fl i0 j0 :=
  (Does.grpSend (Does.refl _ s) (Foot.le_refl _) _ _ _ _).rd hn _ _
@[simp] theorem State.reg_grpSend (n : Nat) (r : Nat) (g : Nat) (seq : Nat) (hn : Foot.grpSend.hasR ra = false) : (State.grpSend s n r g seq).reg ra i0 j0 = s.reg ra i0 j0 :=
  (Does.grpSend (Does.refl _ s) (Foot.le_refl _) _ _ _ _).reg hn _ _
@[simp] theorem State.v_grpSend (n : Nat) (r : Nat) (g : Nat) (seq : Nat) (hn : Foot.grpSend.hasV va = false) : (State.grpSend s n r g seq).v va i0 j0 = s.v va i0 j0 :=
  (Does.grpSend (Does.refl _ s) (Foot.le_refl _) _ _ _ _).v hn _ _
@[simp] theorem State.part_grpSend (n : Nat) (r : Nat) (g : Nat) (seq : Nat) (hn : Foot.grpSend.hasP pa = false) : (State.grpSend s n r g seq).part pa = s.part pa :=
  (Does.grpSend (Does.refl _ s) (Foot.le_refl _) _ _ _ _).parts pa hn
@[simp] theorem State.rd_grpAtNode (n : Nat) (child : Nat) (nleaf : Nat) (r : Nat) (g : Nat) (seq : Nat) (e : Int) (hn : Foot.grpAtNode.hasR fl.r = false) : (State.grpAtNode s n child nleaf r g seq e).rd fl i0 j0 = s.rd fl i0 j0 :=
  (Does.grpAtNode (Does.refl _ s) (Foot.le_refl _) _ _ _ _ _ _ _).rd hn _ _
@[simp] theorem State.reg_grpAtNode (n : Nat) (child : Nat) (nleaf : Nat) (r : Nat) (g : Nat) (seq : Nat) (e : Int) (hn : Foot.grpAtNode.hasR ra = false) : (State.grpAtNode s n child nleaf r g seq e).reg ra i0 j0 = s.reg ra i0 j0 :=
  (Does.grpAtNode (Does.refl _ s) (Foot.le_refl _) _ _ _ _ _ _ _).reg hn _ _
@[simp] theorem State.v_grpAtNode (n : Nat) (child : Nat) (nleaf : Nat) (r : Nat) (g : Nat) (seq : Nat) (e : Int) (hn : Foot.grpAtNode.hasV va = false) : (State.grpAtNode s n child nleaf r g seq e).v va i0 j0 = s.v va i0 j0 :=
  (Does.grpAtNode (Does.refl _ s) (Foot.le_refl _) _ _ _ _ _ _ _).v hn _ _
@[simp] theorem State.part_grpAtNode (n : Nat) (child : Nat) (nleaf : Nat) (r : Nat) (g : Nat) (seq : Nat) (e : Int) (hn : Foot.grpAtNode.hasP pa = false) : (State.grpAtNode s n child nleaf r g seq e).part pa = s.part pa :=
  (Does.grpAtNode (Does.refl _ s) (Foot.le_refl _) _ _ _ _ _ _ _).parts pa hn
@[simp] theorem State.rd_grantSend (d : Nat) (child : Nat) (k : Nat) (cls : Nat) (rail : Nat) (a : Option Nat) (hn : Foot.grantSend.hasR fl.r = false) : (State.grantSend s d child k cls rail a).rd fl i0 j0 = s.rd fl i0 j0 :=
  (Does.grantSend (Does.refl _ s) (Foot.le_refl _) _ _ _ _ _ _).rd hn _ _
@[simp] theorem State.reg_grantSend (d : Nat) (child : Nat) (k : Nat) (cls : Nat) (rail : Nat) (a : Option Nat) (hn : Foot.grantSend.hasR ra = false) : (State.grantSend s d child k cls rail a).reg ra i0 j0 = s.reg ra i0 j0 :=
  (Does.grantSend (Does.refl _ s) (Foot.le_refl _) _ _ _ _ _ _).reg hn _ _
@[simp] theorem State.v_grantSend (d : Nat) (child : Nat) (k : Nat) (cls : Nat) (rail : Nat) (a : Option Nat) (hn : Foot.grantSend.hasV va = false) : (State.grantSend s d child k cls rail a).v va i0 j0 = s.v va i0 j0 :=
  (Does.grantSend (Does.refl _ s) (Foot.le_refl _) _ _ _ _ _ _).v hn _ _
@[simp] theorem State.part_grantSend (d : Nat) (child : Nat) (k : Nat) (cls : Nat) (rail : Nat) (a : Option Nat) (hn : Foot.grantSend.hasP pa = false) : (State.grantSend s d child k cls rail a).part pa = s.part pa :=
  (Does.grantSend (Does.refl _ s) (Foot.le_refl _) _ _ _ _ _ _).parts pa hn
@[simp] theorem State.rd_grantsOut (d : Nat) (cls : Nat) (rail : Nat) (l : List (Nat × Nat × Option Nat)) (hn : Foot.grantsOut.hasR fl.r = false) : (State.grantsOut s d cls rail l).rd fl i0 j0 = s.rd fl i0 j0 :=
  (Does.grantsOut (Does.refl _ s) (Foot.le_refl _) _ _ _ _).rd hn _ _
@[simp] theorem State.reg_grantsOut (d : Nat) (cls : Nat) (rail : Nat) (l : List (Nat × Nat × Option Nat)) (hn : Foot.grantsOut.hasR ra = false) : (State.grantsOut s d cls rail l).reg ra i0 j0 = s.reg ra i0 j0 :=
  (Does.grantsOut (Does.refl _ s) (Foot.le_refl _) _ _ _ _).reg hn _ _
@[simp] theorem State.v_grantsOut (d : Nat) (cls : Nat) (rail : Nat) (l : List (Nat × Nat × Option Nat)) (hn : Foot.grantsOut.hasV va = false) : (State.grantsOut s d cls rail l).v va i0 j0 = s.v va i0 j0 :=
  (Does.grantsOut (Does.refl _ s) (Foot.le_refl _) _ _ _ _).v hn _ _
@[simp] theorem State.part_grantsOut (d : Nat) (cls : Nat) (rail : Nat) (l : List (Nat × Nat × Option Nat)) (hn : Foot.grantsOut.hasP pa = false) : (State.grantsOut s d cls rail l).part pa = s.part pa :=
  (Does.grantsOut (Does.refl _ s) (Foot.le_refl _) _ _ _ _).parts pa hn
@[simp] theorem State.rd_split (d : Nat) (cls : Nat) (rail : Nat) (hn : Foot.split.hasR fl.r = false) : (State.split s d cls rail).rd fl i0 j0 = s.rd fl i0 j0 :=
  (Does.split (Does.refl _ s) (Foot.le_refl _) _ _ _).rd hn _ _
@[simp] theorem State.reg_split (d : Nat) (cls : Nat) (rail : Nat) (hn : Foot.split.hasR ra = false) : (State.split s d cls rail).reg ra i0 j0 = s.reg ra i0 j0 :=
  (Does.split (Does.refl _ s) (Foot.le_refl _) _ _ _).reg hn _ _
@[simp] theorem State.v_split (d : Nat) (cls : Nat) (rail : Nat) (hn : Foot.split.hasV va = false) : (State.split s d cls rail).v va i0 j0 = s.v va i0 j0 :=
  (Does.split (Does.refl _ s) (Foot.le_refl _) _ _ _).v hn _ _
@[simp] theorem State.part_split (d : Nat) (cls : Nat) (rail : Nat) (hn : Foot.split.hasP pa = false) : (State.split s d cls rail).part pa = s.part pa :=
  (Does.split (Does.refl _ s) (Foot.le_refl _) _ _ _).parts pa hn
@[simp] theorem State.rd_splitAll (d : Nat) (hn : Foot.splitAll.hasR fl.r = false) : (State.splitAll s d).rd fl i0 j0 = s.rd fl i0 j0 :=
  (Does.splitAll (Does.refl _ s) (Foot.le_refl _) _).rd hn _ _
@[simp] theorem State.reg_splitAll (d : Nat) (hn : Foot.splitAll.hasR ra = false) : (State.splitAll s d).reg ra i0 j0 = s.reg ra i0 j0 :=
  (Does.splitAll (Does.refl _ s) (Foot.le_refl _) _).reg hn _ _
@[simp] theorem State.v_splitAll (d : Nat) (hn : Foot.splitAll.hasV va = false) : (State.splitAll s d).v va i0 j0 = s.v va i0 j0 :=
  (Does.splitAll (Does.refl _ s) (Foot.le_refl _) _).v hn _ _
@[simp] theorem State.part_splitAll (d : Nat) (hn : Foot.splitAll.hasP pa = false) : (State.splitAll s d).part pa = s.part pa :=
  (Does.splitAll (Does.refl _ s) (Foot.le_refl _) _).parts pa hn
@[simp] theorem State.rd_grantAll (child : Nat) (hn : Foot.grantAll.hasR fl.r = false) : (State.grantAll s child).rd fl i0 j0 = s.rd fl i0 j0 :=
  (Does.grantAll (Does.refl _ s) (Foot.le_refl _) _).rd hn _ _
@[simp] theorem State.reg_grantAll (child : Nat) (hn : Foot.grantAll.hasR ra = false) : (State.grantAll s child).reg ra i0 j0 = s.reg ra i0 j0 :=
  (Does.grantAll (Does.refl _ s) (Foot.le_refl _) _).reg hn _ _
@[simp] theorem State.v_grantAll (child : Nat) (hn : Foot.grantAll.hasV va = false) : (State.grantAll s child).v va i0 j0 = s.v va i0 j0 :=
  (Does.grantAll (Does.refl _ s) (Foot.le_refl _) _).v hn _ _
@[simp] theorem State.part_grantAll (child : Nat) (hn : Foot.grantAll.hasP pa = false) : (State.grantAll s child).part pa = s.part pa :=
  (Does.grantAll (Does.refl _ s) (Foot.le_refl _) _).parts pa hn
@[simp] theorem State.rd_loopOvr (l : Nat) (hn : Foot.loopOvr.hasR fl.r = false) : (State.loopOvr s l).rd fl i0 j0 = s.rd fl i0 j0 :=
  (Does.loopOvr (Does.refl _ s) (Foot.le_refl _) _).rd hn _ _
@[simp] theorem State.reg_loopOvr (l : Nat) (hn : Foot.loopOvr.hasR ra = false) : (State.loopOvr s l).reg ra i0 j0 = s.reg ra i0 j0 :=
  (Does.loopOvr (Does.refl _ s) (Foot.le_refl _) _).reg hn _ _
@[simp] theorem State.v_loopOvr (l : Nat) (hn : Foot.loopOvr.hasV va = false) : (State.loopOvr s l).v va i0 j0 = s.v va i0 j0 :=
  (Does.loopOvr (Does.refl _ s) (Foot.le_refl _) _).v hn _ _
@[simp] theorem State.part_loopOvr (l : Nat) (hn : Foot.loopOvr.hasP pa = false) : (State.loopOvr s l).part pa = s.part pa :=
  (Does.loopOvr (Does.refl _ s) (Foot.le_refl _) _).parts pa hn
@[simp] theorem State.rd_appliedTake (l : Nat) (a : Option Nat) (hn : Foot.appliedTake.hasR fl.r = false) : (State.appliedTake s l a).rd fl i0 j0 = s.rd fl i0 j0 :=
  (Does.appliedTake (Does.refl _ s) (Foot.le_refl _) _ _).rd hn _ _
@[simp] theorem State.reg_appliedTake (l : Nat) (a : Option Nat) (hn : Foot.appliedTake.hasR ra = false) : (State.appliedTake s l a).reg ra i0 j0 = s.reg ra i0 j0 :=
  (Does.appliedTake (Does.refl _ s) (Foot.le_refl _) _ _).reg hn _ _
@[simp] theorem State.v_appliedTake (l : Nat) (a : Option Nat) (hn : Foot.appliedTake.hasV va = false) : (State.appliedTake s l a).v va i0 j0 = s.v va i0 j0 :=
  (Does.appliedTake (Does.refl _ s) (Foot.le_refl _) _ _).v hn _ _
@[simp] theorem State.part_appliedTake (l : Nat) (a : Option Nat) (hn : Foot.appliedTake.hasP pa = false) : (State.appliedTake s l a).part pa = s.part pa :=
  (Does.appliedTake (Does.refl _ s) (Foot.le_refl _) _ _).parts pa hn
@[simp] theorem State.rd_appliedOut (d : Nat) (cls : Nat) (rail : Nat) (hn : Foot.appliedOut.hasR fl.r = false) : (State.appliedOut s d cls rail).rd fl i0 j0 = s.rd fl i0 j0 :=
  (Does.appliedOut (Does.refl _ s) (Foot.le_refl _) _ _ _).rd hn _ _
@[simp] theorem State.reg_appliedOut (d : Nat) (cls : Nat) (rail : Nat) (hn : Foot.appliedOut.hasR ra = false) : (State.appliedOut s d cls rail).reg ra i0 j0 = s.reg ra i0 j0 :=
  (Does.appliedOut (Does.refl _ s) (Foot.le_refl _) _ _ _).reg hn _ _
@[simp] theorem State.v_appliedOut (d : Nat) (cls : Nat) (rail : Nat) (hn : Foot.appliedOut.hasV va = false) : (State.appliedOut s d cls rail).v va i0 j0 = s.v va i0 j0 :=
  (Does.appliedOut (Does.refl _ s) (Foot.le_refl _) _ _ _).v hn _ _
@[simp] theorem State.part_appliedOut (d : Nat) (cls : Nat) (rail : Nat) (hn : Foot.appliedOut.hasP pa = false) : (State.appliedOut s d cls rail).part pa = s.part pa :=
  (Does.appliedOut (Does.refl _ s) (Foot.le_refl _) _ _ _).parts pa hn
@[simp] theorem State.rd_budgetShow (d : Nat) (hn : Foot.budgetShow.hasR fl.r = false) : (State.budgetShow s d).rd fl i0 j0 = s.rd fl i0 j0 :=
  (Does.budgetShow (Does.refl _ s) (Foot.le_refl _) _).rd hn _ _
@[simp] theorem State.reg_budgetShow (d : Nat) (hn : Foot.budgetShow.hasR ra = false) : (State.budgetShow s d).reg ra i0 j0 = s.reg ra i0 j0 :=
  (Does.budgetShow (Does.refl _ s) (Foot.le_refl _) _).reg hn _ _
@[simp] theorem State.v_budgetShow (d : Nat) (hn : Foot.budgetShow.hasV va = false) : (State.budgetShow s d).v va i0 j0 = s.v va i0 j0 :=
  (Does.budgetShow (Does.refl _ s) (Foot.le_refl _) _).v hn _ _
@[simp] theorem State.part_budgetShow (d : Nat) (hn : Foot.budgetShow.hasP pa = false) : (State.budgetShow s d).part pa = s.part pa :=
  (Does.budgetShow (Does.refl _ s) (Foot.le_refl _) _).parts pa hn
@[simp] theorem State.rd_issueDrive (leaf : Nat) (q : Nat) (hn : Foot.issueDrive.hasR fl.r = false) : (State.issueDrive s leaf q).rd fl i0 j0 = s.rd fl i0 j0 :=
  (Does.issueDrive (Does.refl _ s) (Foot.le_refl _) _ _).rd hn _ _
@[simp] theorem State.reg_issueDrive (leaf : Nat) (q : Nat) (hn : Foot.issueDrive.hasR ra = false) : (State.issueDrive s leaf q).reg ra i0 j0 = s.reg ra i0 j0 :=
  (Does.issueDrive (Does.refl _ s) (Foot.le_refl _) _ _).reg hn _ _
@[simp] theorem State.v_issueDrive (leaf : Nat) (q : Nat) (hn : Foot.issueDrive.hasV va = false) : (State.issueDrive s leaf q).v va i0 j0 = s.v va i0 j0 :=
  (Does.issueDrive (Does.refl _ s) (Foot.le_refl _) _ _).v hn _ _
@[simp] theorem State.part_issueDrive (leaf : Nat) (q : Nat) (hn : Foot.issueDrive.hasP pa = false) : (State.issueDrive s leaf q).part pa = s.part pa :=
  (Does.issueDrive (Does.refl _ s) (Foot.le_refl _) _ _).parts pa hn
@[simp] theorem State.rd_creditRevoke (l : Nat) (q : Nat) (hn : Foot.creditRevoke.hasR fl.r = false) : (State.creditRevoke s l q).rd fl i0 j0 = s.rd fl i0 j0 :=
  (Does.creditRevoke (Does.refl _ s) (Foot.le_refl _) _ _).rd hn _ _
@[simp] theorem State.reg_creditRevoke (l : Nat) (q : Nat) (hn : Foot.creditRevoke.hasR ra = false) : (State.creditRevoke s l q).reg ra i0 j0 = s.reg ra i0 j0 :=
  (Does.creditRevoke (Does.refl _ s) (Foot.le_refl _) _ _).reg hn _ _
@[simp] theorem State.v_creditRevoke (l : Nat) (q : Nat) (hn : Foot.creditRevoke.hasV va = false) : (State.creditRevoke s l q).v va i0 j0 = s.v va i0 j0 :=
  (Does.creditRevoke (Does.refl _ s) (Foot.le_refl _) _ _).v hn _ _
@[simp] theorem State.part_creditRevoke (l : Nat) (q : Nat) (hn : Foot.creditRevoke.hasP pa = false) : (State.creditRevoke s l q).part pa = s.part pa :=
  (Does.creditRevoke (Does.refl _ s) (Foot.le_refl _) _ _).parts pa hn
@[simp] theorem State.rd_leafRevoke (l : Nat) (hn : Foot.leafRevoke.hasR fl.r = false) : (State.leafRevoke s l).rd fl i0 j0 = s.rd fl i0 j0 :=
  (Does.leafRevoke (Does.refl _ s) (Foot.le_refl _) _).rd hn _ _
@[simp] theorem State.reg_leafRevoke (l : Nat) (hn : Foot.leafRevoke.hasR ra = false) : (State.leafRevoke s l).reg ra i0 j0 = s.reg ra i0 j0 :=
  (Does.leafRevoke (Does.refl _ s) (Foot.le_refl _) _).reg hn _ _
@[simp] theorem State.v_leafRevoke (l : Nat) (hn : Foot.leafRevoke.hasV va = false) : (State.leafRevoke s l).v va i0 j0 = s.v va i0 j0 :=
  (Does.leafRevoke (Does.refl _ s) (Foot.le_refl _) _).v hn _ _
@[simp] theorem State.part_leafRevoke (l : Nat) (hn : Foot.leafRevoke.hasP pa = false) : (State.leafRevoke s l).part pa = s.part pa :=
  (Does.leafRevoke (Does.refl _ s) (Foot.le_refl _) _).parts pa hn
@[simp] theorem State.rd_cntAdd (l : Nat) (cidx : Nat) (ctx : Nat) (n : Nat) (stamp : Nat) (hn : Foot.cntAdd.hasR fl.r = false) : (State.cntAdd s l cidx ctx n stamp).rd fl i0 j0 = s.rd fl i0 j0 :=
  (Does.cntAdd (Does.refl _ s) (Foot.le_refl _) _ _ _ _ _).rd hn _ _
@[simp] theorem State.reg_cntAdd (l : Nat) (cidx : Nat) (ctx : Nat) (n : Nat) (stamp : Nat) (hn : Foot.cntAdd.hasR ra = false) : (State.cntAdd s l cidx ctx n stamp).reg ra i0 j0 = s.reg ra i0 j0 :=
  (Does.cntAdd (Does.refl _ s) (Foot.le_refl _) _ _ _ _ _).reg hn _ _
@[simp] theorem State.v_cntAdd (l : Nat) (cidx : Nat) (ctx : Nat) (n : Nat) (stamp : Nat) (hn : Foot.cntAdd.hasV va = false) : (State.cntAdd s l cidx ctx n stamp).v va i0 j0 = s.v va i0 j0 :=
  (Does.cntAdd (Does.refl _ s) (Foot.le_refl _) _ _ _ _ _).v hn _ _
@[simp] theorem State.part_cntAdd (l : Nat) (cidx : Nat) (ctx : Nat) (n : Nat) (stamp : Nat) (hn : Foot.cntAdd.hasP pa = false) : (State.cntAdd s l cidx ctx n stamp).part pa = s.part pa :=
  (Does.cntAdd (Does.refl _ s) (Foot.le_refl _) _ _ _ _ _).parts pa hn
@[simp] theorem State.rd_selTake (l : Nat) (k : Nat) (w : Word) (hn : Foot.selTake.hasR fl.r = false) : (State.selTake s l k w).rd fl i0 j0 = s.rd fl i0 j0 :=
  (Does.selTake (Does.refl _ s) (Foot.le_refl _) _ _ _).rd hn _ _
@[simp] theorem State.reg_selTake (l : Nat) (k : Nat) (w : Word) (hn : Foot.selTake.hasR ra = false) : (State.selTake s l k w).reg ra i0 j0 = s.reg ra i0 j0 :=
  (Does.selTake (Does.refl _ s) (Foot.le_refl _) _ _ _).reg hn _ _
@[simp] theorem State.v_selTake (l : Nat) (k : Nat) (w : Word) (hn : Foot.selTake.hasV va = false) : (State.selTake s l k w).v va i0 j0 = s.v va i0 j0 :=
  (Does.selTake (Does.refl _ s) (Foot.le_refl _) _ _ _).v hn _ _
@[simp] theorem State.part_selTake (l : Nat) (k : Nat) (w : Word) (hn : Foot.selTake.hasP pa = false) : (State.selTake s l k w).part pa = s.part pa :=
  (Does.selTake (Does.refl _ s) (Foot.le_refl _) _ _ _).parts pa hn
@[simp] theorem State.rd_effPiece (leaf : Nat) (q : Nat) (upTo : Nat) (hn : Foot.effPiece.hasR fl.r = false) : (State.effPiece s leaf q upTo).rd fl i0 j0 = s.rd fl i0 j0 :=
  (Does.effPiece (Does.refl _ s) (Foot.le_refl _) _ _ _).rd hn _ _
@[simp] theorem State.reg_effPiece (leaf : Nat) (q : Nat) (upTo : Nat) (hn : Foot.effPiece.hasR ra = false) : (State.effPiece s leaf q upTo).reg ra i0 j0 = s.reg ra i0 j0 :=
  (Does.effPiece (Does.refl _ s) (Foot.le_refl _) _ _ _).reg hn _ _
@[simp] theorem State.v_effPiece (leaf : Nat) (q : Nat) (upTo : Nat) (hn : Foot.effPiece.hasV va = false) : (State.effPiece s leaf q upTo).v va i0 j0 = s.v va i0 j0 :=
  (Does.effPiece (Does.refl _ s) (Foot.le_refl _) _ _ _).v hn _ _
@[simp] theorem State.part_effPiece (leaf : Nat) (q : Nat) (upTo : Nat) (hn : Foot.effPiece.hasP pa = false) : (State.effPiece s leaf q upTo).part pa = s.part pa :=
  (Does.effPiece (Does.refl _ s) (Foot.le_refl _) _ _ _).parts pa hn
@[simp] theorem State.rd_effRun (leaf : Nat) (q : Nat) (fuel : Nat) (hn : Foot.effRun.hasR fl.r = false) : (State.effRun s leaf q fuel).rd fl i0 j0 = s.rd fl i0 j0 :=
  (Does.effRun (Does.refl _ s) (Foot.le_refl _) _ _ _).rd hn _ _
@[simp] theorem State.reg_effRun (leaf : Nat) (q : Nat) (fuel : Nat) (hn : Foot.effRun.hasR ra = false) : (State.effRun s leaf q fuel).reg ra i0 j0 = s.reg ra i0 j0 :=
  (Does.effRun (Does.refl _ s) (Foot.le_refl _) _ _ _).reg hn _ _
@[simp] theorem State.v_effRun (leaf : Nat) (q : Nat) (fuel : Nat) (hn : Foot.effRun.hasV va = false) : (State.effRun s leaf q fuel).v va i0 j0 = s.v va i0 j0 :=
  (Does.effRun (Does.refl _ s) (Foot.le_refl _) _ _ _).v hn _ _
@[simp] theorem State.part_effRun (leaf : Nat) (q : Nat) (fuel : Nat) (hn : Foot.effRun.hasP pa = false) : (State.effRun s leaf q fuel).part pa = s.part pa :=
  (Does.effRun (Does.refl _ s) (Foot.le_refl _) _ _ _).parts pa hn
@[simp] theorem State.rd_effAcct (leaf : Nat) (q : Nat) (hn : Foot.effAcct.hasR fl.r = false) : (State.effAcct s leaf q).rd fl i0 j0 = s.rd fl i0 j0 :=
  (Does.effAcct (Does.refl _ s) (Foot.le_refl _) _ _).rd hn _ _
@[simp] theorem State.reg_effAcct (leaf : Nat) (q : Nat) (hn : Foot.effAcct.hasR ra = false) : (State.effAcct s leaf q).reg ra i0 j0 = s.reg ra i0 j0 :=
  (Does.effAcct (Does.refl _ s) (Foot.le_refl _) _ _).reg hn _ _
@[simp] theorem State.v_effAcct (leaf : Nat) (q : Nat) (hn : Foot.effAcct.hasV va = false) : (State.effAcct s leaf q).v va i0 j0 = s.v va i0 j0 :=
  (Does.effAcct (Does.refl _ s) (Foot.le_refl _) _ _).v hn _ _
@[simp] theorem State.part_effAcct (leaf : Nat) (q : Nat) (hn : Foot.effAcct.hasP pa = false) : (State.effAcct s leaf q).part pa = s.part pa :=
  (Does.effAcct (Does.refl _ s) (Foot.le_refl _) _ _).parts pa hn
@[simp] theorem State.rd_leafAcct (l : Nat) (hn : Foot.leafAcct.hasR fl.r = false) : (State.leafAcct s l).rd fl i0 j0 = s.rd fl i0 j0 :=
  (Does.leafAcct (Does.refl _ s) (Foot.le_refl _) _).rd hn _ _
@[simp] theorem State.reg_leafAcct (l : Nat) (hn : Foot.leafAcct.hasR ra = false) : (State.leafAcct s l).reg ra i0 j0 = s.reg ra i0 j0 :=
  (Does.leafAcct (Does.refl _ s) (Foot.le_refl _) _).reg hn _ _
@[simp] theorem State.v_leafAcct (l : Nat) (hn : Foot.leafAcct.hasV va = false) : (State.leafAcct s l).v va i0 j0 = s.v va i0 j0 :=
  (Does.leafAcct (Does.refl _ s) (Foot.le_refl _) _).v hn _ _
@[simp] theorem State.part_leafAcct (l : Nat) (hn : Foot.leafAcct.hasP pa = false) : (State.leafAcct s l).part pa = s.part pa :=
  (Does.leafAcct (Does.refl _ s) (Foot.le_refl _) _).parts pa hn
@[simp] theorem State.rd_cntActs (l : Nat) (acts : List Act) (hn : Foot.cntActs.hasR fl.r = false) : (State.cntActs s l acts).rd fl i0 j0 = s.rd fl i0 j0 :=
  (Does.cntActs (Does.refl _ s) (Foot.le_refl _) _ _).rd hn _ _
@[simp] theorem State.reg_cntActs (l : Nat) (acts : List Act) (hn : Foot.cntActs.hasR ra = false) : (State.cntActs s l acts).reg ra i0 j0 = s.reg ra i0 j0 :=
  (Does.cntActs (Does.refl _ s) (Foot.le_refl _) _ _).reg hn _ _
@[simp] theorem State.v_cntActs (l : Nat) (acts : List Act) (hn : Foot.cntActs.hasV va = false) : (State.cntActs s l acts).v va i0 j0 = s.v va i0 j0 :=
  (Does.cntActs (Does.refl _ s) (Foot.le_refl _) _ _).v hn _ _
@[simp] theorem State.part_cntActs (l : Nat) (acts : List Act) (hn : Foot.cntActs.hasP pa = false) : (State.cntActs s l acts).part pa = s.part pa :=
  (Does.cntActs (Does.refl _ s) (Foot.le_refl _) _ _).parts pa hn
@[simp] theorem State.rd_gateEff (leaf : Nat) (q : Nat) (hn : Foot.gateEff.hasR fl.r = false) : (State.gateEff s leaf q).rd fl i0 j0 = s.rd fl i0 j0 :=
  (Does.gateEff (Does.refl _ s) (Foot.le_refl _) _ _).rd hn _ _
@[simp] theorem State.reg_gateEff (leaf : Nat) (q : Nat) (hn : Foot.gateEff.hasR ra = false) : (State.gateEff s leaf q).reg ra i0 j0 = s.reg ra i0 j0 :=
  (Does.gateEff (Does.refl _ s) (Foot.le_refl _) _ _).reg hn _ _
@[simp] theorem State.v_gateEff (leaf : Nat) (q : Nat) (hn : Foot.gateEff.hasV va = false) : (State.gateEff s leaf q).v va i0 j0 = s.v va i0 j0 :=
  (Does.gateEff (Does.refl _ s) (Foot.le_refl _) _ _).v hn _ _
@[simp] theorem State.part_gateEff (leaf : Nat) (q : Nat) (hn : Foot.gateEff.hasP pa = false) : (State.gateEff s leaf q).part pa = s.part pa :=
  (Does.gateEff (Does.refl _ s) (Foot.le_refl _) _ _).parts pa hn
@[simp] theorem State.rd_coreEff (leaf : Nat) (p : Nat) (hn : Foot.coreEff.hasR fl.r = false) : (State.coreEff s leaf p).rd fl i0 j0 = s.rd fl i0 j0 :=
  (Does.coreEff (Does.refl _ s) (Foot.le_refl _) _ _).rd hn _ _
@[simp] theorem State.reg_coreEff (leaf : Nat) (p : Nat) (hn : Foot.coreEff.hasR ra = false) : (State.coreEff s leaf p).reg ra i0 j0 = s.reg ra i0 j0 :=
  (Does.coreEff (Does.refl _ s) (Foot.le_refl _) _ _).reg hn _ _
@[simp] theorem State.v_coreEff (leaf : Nat) (p : Nat) (hn : Foot.coreEff.hasV va = false) : (State.coreEff s leaf p).v va i0 j0 = s.v va i0 j0 :=
  (Does.coreEff (Does.refl _ s) (Foot.le_refl _) _ _).v hn _ _
@[simp] theorem State.part_coreEff (leaf : Nat) (p : Nat) (hn : Foot.coreEff.hasP pa = false) : (State.coreEff s leaf p).part pa = s.part pa :=
  (Does.coreEff (Does.refl _ s) (Foot.le_refl _) _ _).parts pa hn
@[simp] theorem State.rd_leafEff (leaf : Nat) (hn : Foot.leafEff.hasR fl.r = false) : (State.leafEff s leaf).rd fl i0 j0 = s.rd fl i0 j0 :=
  (Does.leafEff (Does.refl _ s) (Foot.le_refl _) _).rd hn _ _
@[simp] theorem State.reg_leafEff (leaf : Nat) (hn : Foot.leafEff.hasR ra = false) : (State.leafEff s leaf).reg ra i0 j0 = s.reg ra i0 j0 :=
  (Does.leafEff (Does.refl _ s) (Foot.le_refl _) _).reg hn _ _
@[simp] theorem State.v_leafEff (leaf : Nat) (hn : Foot.leafEff.hasV va = false) : (State.leafEff s leaf).v va i0 j0 = s.v va i0 j0 :=
  (Does.leafEff (Does.refl _ s) (Foot.le_refl _) _).v hn _ _
@[simp] theorem State.part_leafEff (leaf : Nat) (hn : Foot.leafEff.hasP pa = false) : (State.leafEff s leaf).part pa = s.part pa :=
  (Does.leafEff (Does.refl _ s) (Foot.le_refl _) _).parts pa hn
@[simp] theorem State.rd_allEff (hn : Foot.allEff.hasR fl.r = false) : (State.allEff s).rd fl i0 j0 = s.rd fl i0 j0 :=
  (Does.allEff (Does.refl _ s) (Foot.le_refl _)).rd hn _ _
@[simp] theorem State.reg_allEff (hn : Foot.allEff.hasR ra = false) : (State.allEff s).reg ra i0 j0 = s.reg ra i0 j0 :=
  (Does.allEff (Does.refl _ s) (Foot.le_refl _)).reg hn _ _
@[simp] theorem State.v_allEff (hn : Foot.allEff.hasV va = false) : (State.allEff s).v va i0 j0 = s.v va i0 j0 :=
  (Does.allEff (Does.refl _ s) (Foot.le_refl _)).v hn _ _
@[simp] theorem State.part_allEff (hn : Foot.allEff.hasP pa = false) : (State.allEff s).part pa = s.part pa :=
  (Does.allEff (Does.refl _ s) (Foot.le_refl _)).parts pa hn
@[simp] theorem State.rd_coreConvert (leaf : Nat) (hn : Foot.coreConvert.hasR fl.r = false) : (State.coreConvert s leaf).rd fl i0 j0 = s.rd fl i0 j0 :=
  (Does.coreConvert (Does.refl _ s) (Foot.le_refl _) _).rd hn _ _
@[simp] theorem State.reg_coreConvert (leaf : Nat) (hn : Foot.coreConvert.hasR ra = false) : (State.coreConvert s leaf).reg ra i0 j0 = s.reg ra i0 j0 :=
  (Does.coreConvert (Does.refl _ s) (Foot.le_refl _) _).reg hn _ _
@[simp] theorem State.v_coreConvert (leaf : Nat) (hn : Foot.coreConvert.hasV va = false) : (State.coreConvert s leaf).v va i0 j0 = s.v va i0 j0 :=
  (Does.coreConvert (Does.refl _ s) (Foot.le_refl _) _).v hn _ _
@[simp] theorem State.part_coreConvert (leaf : Nat) (hn : Foot.coreConvert.hasP pa = false) : (State.coreConvert s leaf).part pa = s.part pa :=
  (Does.coreConvert (Does.refl _ s) (Foot.le_refl _) _).parts pa hn
@[simp] theorem State.rd_convert (leaf : Nat) (hn : Foot.convert.hasR fl.r = false) : (State.convert s leaf).rd fl i0 j0 = s.rd fl i0 j0 :=
  (Does.convert (Does.refl _ s) (Foot.le_refl _) _).rd hn _ _
@[simp] theorem State.reg_convert (leaf : Nat) (hn : Foot.convert.hasR ra = false) : (State.convert s leaf).reg ra i0 j0 = s.reg ra i0 j0 :=
  (Does.convert (Does.refl _ s) (Foot.le_refl _) _).reg hn _ _
@[simp] theorem State.v_convert (leaf : Nat) (hn : Foot.convert.hasV va = false) : (State.convert s leaf).v va i0 j0 = s.v va i0 j0 :=
  (Does.convert (Does.refl _ s) (Foot.le_refl _) _).v hn _ _
@[simp] theorem State.part_convert (leaf : Nat) (hn : Foot.convert.hasP pa = false) : (State.convert s leaf).part pa = s.part pa :=
  (Does.convert (Does.refl _ s) (Foot.le_refl _) _).parts pa hn
@[simp] theorem State.rd_budgetSet (d : Nat) (cls : Nat) (rail : Nat) (loop : Option Nat) (a : Option Nat) (hn : Foot.budgetSet.hasR fl.r = false) : (State.budgetSet s d cls rail loop a).rd fl i0 j0 = s.rd fl i0 j0 :=
  (Does.budgetSet (Does.refl _ s) (Foot.le_refl _) _ _ _ _ _).rd hn _ _
@[simp] theorem State.reg_budgetSet (d : Nat) (cls : Nat) (rail : Nat) (loop : Option Nat) (a : Option Nat) (hn : Foot.budgetSet.hasR ra = false) : (State.budgetSet s d cls rail loop a).reg ra i0 j0 = s.reg ra i0 j0 :=
  (Does.budgetSet (Does.refl _ s) (Foot.le_refl _) _ _ _ _ _).reg hn _ _
@[simp] theorem State.v_budgetSet (d : Nat) (cls : Nat) (rail : Nat) (loop : Option Nat) (a : Option Nat) (hn : Foot.budgetSet.hasV va = false) : (State.budgetSet s d cls rail loop a).v va i0 j0 = s.v va i0 j0 :=
  (Does.budgetSet (Does.refl _ s) (Foot.le_refl _) _ _ _ _ _).v hn _ _
@[simp] theorem State.part_budgetSet (d : Nat) (cls : Nat) (rail : Nat) (loop : Option Nat) (a : Option Nat) (hn : Foot.budgetSet.hasP pa = false) : (State.budgetSet s d cls rail loop a).part pa = s.part pa :=
  (Does.budgetSet (Does.refl _ s) (Foot.le_refl _) _ _ _ _ _).parts pa hn
@[simp] theorem State.rd_budgetDrop (d : Nat) (hn : Foot.budgetDrop.hasR fl.r = false) : (State.budgetDrop s d).rd fl i0 j0 = s.rd fl i0 j0 :=
  (Does.budgetDrop (Does.refl _ s) (Foot.le_refl _) _).rd hn _ _
@[simp] theorem State.reg_budgetDrop (d : Nat) (hn : Foot.budgetDrop.hasR ra = false) : (State.budgetDrop s d).reg ra i0 j0 = s.reg ra i0 j0 :=
  (Does.budgetDrop (Does.refl _ s) (Foot.le_refl _) _).reg hn _ _
@[simp] theorem State.v_budgetDrop (d : Nat) (hn : Foot.budgetDrop.hasV va = false) : (State.budgetDrop s d).v va i0 j0 = s.v va i0 j0 :=
  (Does.budgetDrop (Does.refl _ s) (Foot.le_refl _) _).v hn _ _
@[simp] theorem State.part_budgetDrop (d : Nat) (hn : Foot.budgetDrop.hasP pa = false) : (State.budgetDrop s d).part pa = s.part pa :=
  (Does.budgetDrop (Does.refl _ s) (Foot.le_refl _) _).parts pa hn
@[simp] theorem State.rd_commitTo (host : Nat) (dest : Nat) (cls : Nat) (rail : Nat) (loop : Nat) (a : Option Nat) (hn : Foot.commitTo.hasR fl.r = false) : (State.commitTo s host dest cls rail loop a).2.rd fl i0 j0 = s.rd fl i0 j0 :=
  (Does.commitTo (Does.refl _ s) (Foot.le_refl _) _ _ _ _ _ _).rd hn _ _
@[simp] theorem State.reg_commitTo (host : Nat) (dest : Nat) (cls : Nat) (rail : Nat) (loop : Nat) (a : Option Nat) (hn : Foot.commitTo.hasR ra = false) : (State.commitTo s host dest cls rail loop a).2.reg ra i0 j0 = s.reg ra i0 j0 :=
  (Does.commitTo (Does.refl _ s) (Foot.le_refl _) _ _ _ _ _ _).reg hn _ _
@[simp] theorem State.v_commitTo (host : Nat) (dest : Nat) (cls : Nat) (rail : Nat) (loop : Nat) (a : Option Nat) (hn : Foot.commitTo.hasV va = false) : (State.commitTo s host dest cls rail loop a).2.v va i0 j0 = s.v va i0 j0 :=
  (Does.commitTo (Does.refl _ s) (Foot.le_refl _) _ _ _ _ _ _).v hn _ _
@[simp] theorem State.part_commitTo (host : Nat) (dest : Nat) (cls : Nat) (rail : Nat) (loop : Nat) (a : Option Nat) (hn : Foot.commitTo.hasP pa = false) : (State.commitTo s host dest cls rail loop a).2.part pa = s.part pa :=
  (Does.commitTo (Does.refl _ s) (Foot.le_refl _) _ _ _ _ _ _).parts pa hn
@[simp] theorem State.rd_grantAt (d : Nat) (cls : Nat) (rail : Nat) (loop : Option Nat) (a : Option Nat) (hn : Foot.grantAt.hasR fl.r = false) : (State.grantAt s d cls rail loop a).rd fl i0 j0 = s.rd fl i0 j0 :=
  (Does.grantAt (Does.refl _ s) (Foot.le_refl _) _ _ _ _ _).rd hn _ _
@[simp] theorem State.reg_grantAt (d : Nat) (cls : Nat) (rail : Nat) (loop : Option Nat) (a : Option Nat) (hn : Foot.grantAt.hasR ra = false) : (State.grantAt s d cls rail loop a).reg ra i0 j0 = s.reg ra i0 j0 :=
  (Does.grantAt (Does.refl _ s) (Foot.le_refl _) _ _ _ _ _).reg hn _ _
@[simp] theorem State.v_grantAt (d : Nat) (cls : Nat) (rail : Nat) (loop : Option Nat) (a : Option Nat) (hn : Foot.grantAt.hasV va = false) : (State.grantAt s d cls rail loop a).v va i0 j0 = s.v va i0 j0 :=
  (Does.grantAt (Does.refl _ s) (Foot.le_refl _) _ _ _ _ _).v hn _ _
@[simp] theorem State.part_grantAt (d : Nat) (cls : Nat) (rail : Nat) (loop : Option Nat) (a : Option Nat) (hn : Foot.grantAt.hasP pa = false) : (State.grantAt s d cls rail loop a).part pa = s.part pa :=
  (Does.grantAt (Does.refl _ s) (Foot.le_refl _) _ _ _ _ _).parts pa hn
@[simp] theorem State.rd_needAt (d : Nat) (k : Nat) (need : Nat) (weight : Nat) (hn : Foot.needAt.hasR fl.r = false) : (State.needAt s d k need weight).rd fl i0 j0 = s.rd fl i0 j0 :=
  (Does.needAt (Does.refl _ s) (Foot.le_refl _) _ _ _ _).rd hn _ _
@[simp] theorem State.reg_needAt (d : Nat) (k : Nat) (need : Nat) (weight : Nat) (hn : Foot.needAt.hasR ra = false) : (State.needAt s d k need weight).reg ra i0 j0 = s.reg ra i0 j0 :=
  (Does.needAt (Does.refl _ s) (Foot.le_refl _) _ _ _ _).reg hn _ _
@[simp] theorem State.v_needAt (d : Nat) (k : Nat) (need : Nat) (weight : Nat) (hn : Foot.needAt.hasV va = false) : (State.needAt s d k need weight).v va i0 j0 = s.v va i0 j0 :=
  (Does.needAt (Does.refl _ s) (Foot.le_refl _) _ _ _ _).v hn _ _
@[simp] theorem State.part_needAt (d : Nat) (k : Nat) (need : Nat) (weight : Nat) (hn : Foot.needAt.hasP pa = false) : (State.needAt s d k need weight).part pa = s.part pa :=
  (Does.needAt (Does.refl _ s) (Foot.le_refl _) _ _ _ _).parts pa hn
@[simp] theorem State.rd_needSend (d : Nat) (need : Nat) (weight : Nat) (hn : Foot.needSend.hasR fl.r = false) : (State.needSend s d need weight).rd fl i0 j0 = s.rd fl i0 j0 :=
  (Does.needSend (Does.refl _ s) (Foot.le_refl _) _ _ _).rd hn _ _
@[simp] theorem State.reg_needSend (d : Nat) (need : Nat) (weight : Nat) (hn : Foot.needSend.hasR ra = false) : (State.needSend s d need weight).reg ra i0 j0 = s.reg ra i0 j0 :=
  (Does.needSend (Does.refl _ s) (Foot.le_refl _) _ _ _).reg hn _ _
@[simp] theorem State.v_needSend (d : Nat) (need : Nat) (weight : Nat) (hn : Foot.needSend.hasV va = false) : (State.needSend s d need weight).v va i0 j0 = s.v va i0 j0 :=
  (Does.needSend (Does.refl _ s) (Foot.le_refl _) _ _ _).v hn _ _
@[simp] theorem State.part_needSend (d : Nat) (need : Nat) (weight : Nat) (hn : Foot.needSend.hasP pa = false) : (State.needSend s d need weight).part pa = s.part pa :=
  (Does.needSend (Does.refl _ s) (Foot.le_refl _) _ _ _).parts pa hn
@[simp] theorem State.rd_convAccum (leaf : Nat) (j : Nat) (acts : List Act) (hn : Foot.convAccum.hasR fl.r = false) : (State.convAccum s leaf j acts).rd fl i0 j0 = s.rd fl i0 j0 :=
  (Does.convAccum (Does.refl _ s) (Foot.le_refl _) _ _ _).rd hn _ _
@[simp] theorem State.reg_convAccum (leaf : Nat) (j : Nat) (acts : List Act) (hn : Foot.convAccum.hasR ra = false) : (State.convAccum s leaf j acts).reg ra i0 j0 = s.reg ra i0 j0 :=
  (Does.convAccum (Does.refl _ s) (Foot.le_refl _) _ _ _).reg hn _ _
@[simp] theorem State.v_convAccum (leaf : Nat) (j : Nat) (acts : List Act) (hn : Foot.convAccum.hasV va = false) : (State.convAccum s leaf j acts).v va i0 j0 = s.v va i0 j0 :=
  (Does.convAccum (Does.refl _ s) (Foot.le_refl _) _ _ _).v hn _ _
@[simp] theorem State.part_convAccum (leaf : Nat) (j : Nat) (acts : List Act) (hn : Foot.convAccum.hasP pa = false) : (State.convAccum s leaf j acts).part pa = s.part pa :=
  (Does.convAccum (Does.refl _ s) (Foot.le_refl _) _ _ _).parts pa hn
@[simp] theorem State.rd_convRoll (leaf : Nat) (j : Nat) (hn : Foot.convRoll.hasR fl.r = false) : (State.convRoll s leaf j).rd fl i0 j0 = s.rd fl i0 j0 :=
  (Does.convRoll (Does.refl _ s) (Foot.le_refl _) _ _).rd hn _ _
@[simp] theorem State.reg_convRoll (leaf : Nat) (j : Nat) (hn : Foot.convRoll.hasR ra = false) : (State.convRoll s leaf j).reg ra i0 j0 = s.reg ra i0 j0 :=
  (Does.convRoll (Does.refl _ s) (Foot.le_refl _) _ _).reg hn _ _
@[simp] theorem State.v_convRoll (leaf : Nat) (j : Nat) (hn : Foot.convRoll.hasV va = false) : (State.convRoll s leaf j).v va i0 j0 = s.v va i0 j0 :=
  (Does.convRoll (Does.refl _ s) (Foot.le_refl _) _ _).v hn _ _
@[simp] theorem State.part_convRoll (leaf : Nat) (j : Nat) (hn : Foot.convRoll.hasP pa = false) : (State.convRoll s leaf j).part pa = s.part pa :=
  (Does.convRoll (Does.refl _ s) (Foot.le_refl _) _ _).parts pa hn
@[simp] theorem State.rd_gtNodeSet (r : Reg) (d : Nat) (t : Nat) (b : Nat) (w : Word) (hn : Foot.gtNodeSet.hasR fl.r = false) : (State.gtNodeSet s r d t b w).rd fl i0 j0 = s.rd fl i0 j0 :=
  (Does.gtNodeSet (Does.refl _ s) (Foot.le_refl _) _ _ _ _ _).rd hn _ _
@[simp] theorem State.reg_gtNodeSet (r : Reg) (d : Nat) (t : Nat) (b : Nat) (w : Word) (hn : Foot.gtNodeSet.hasR ra = false) : (State.gtNodeSet s r d t b w).reg ra i0 j0 = s.reg ra i0 j0 :=
  (Does.gtNodeSet (Does.refl _ s) (Foot.le_refl _) _ _ _ _ _).reg hn _ _
@[simp] theorem State.v_gtNodeSet (r : Reg) (d : Nat) (t : Nat) (b : Nat) (w : Word) (hn : Foot.gtNodeSet.hasV va = false) : (State.gtNodeSet s r d t b w).v va i0 j0 = s.v va i0 j0 :=
  (Does.gtNodeSet (Does.refl _ s) (Foot.le_refl _) _ _ _ _ _).v hn _ _
@[simp] theorem State.part_gtNodeSet (r : Reg) (d : Nat) (t : Nat) (b : Nat) (w : Word) (hn : Foot.gtNodeSet.hasP pa = false) : (State.gtNodeSet s r d t b w).part pa = s.part pa :=
  (Does.gtNodeSet (Does.refl _ s) (Foot.le_refl _) _ _ _ _ _).parts pa hn
@[simp] theorem State.rd_gtHubSet (r : Reg) (t : Nat) (b : Nat) (w : Word) (nodes : List Nat) (hn : Foot.gtHubSet.hasR fl.r = false) : (State.gtHubSet s r t b w nodes).rd fl i0 j0 = s.rd fl i0 j0 :=
  (Does.gtHubSet (Does.refl _ s) (Foot.le_refl _) _ _ _ _ _).rd hn _ _
@[simp] theorem State.reg_gtHubSet (r : Reg) (t : Nat) (b : Nat) (w : Word) (nodes : List Nat) (hn : Foot.gtHubSet.hasR ra = false) : (State.gtHubSet s r t b w nodes).reg ra i0 j0 = s.reg ra i0 j0 :=
  (Does.gtHubSet (Does.refl _ s) (Foot.le_refl _) _ _ _ _ _).reg hn _ _
@[simp] theorem State.v_gtHubSet (r : Reg) (t : Nat) (b : Nat) (w : Word) (nodes : List Nat) (hn : Foot.gtHubSet.hasV va = false) : (State.gtHubSet s r t b w nodes).v va i0 j0 = s.v va i0 j0 :=
  (Does.gtHubSet (Does.refl _ s) (Foot.le_refl _) _ _ _ _ _).v hn _ _
@[simp] theorem State.part_gtHubSet (r : Reg) (t : Nat) (b : Nat) (w : Word) (nodes : List Nat) (hn : Foot.gtHubSet.hasP pa = false) : (State.gtHubSet s r t b w nodes).part pa = s.part pa :=
  (Does.gtHubSet (Does.refl _ s) (Foot.le_refl _) _ _ _ _ _).parts pa hn
@[simp] theorem State.rd_loopSat (l : Nat) (p : Bool) (i : Bool) (o : Bool) (hn : Foot.loopSat.hasR fl.r = false) : (State.loopSat s l p i o).rd fl i0 j0 = s.rd fl i0 j0 :=
  (Does.loopSat (Does.refl _ s) (Foot.le_refl _) _ _ _ _).rd hn _ _
@[simp] theorem State.reg_loopSat (l : Nat) (p : Bool) (i : Bool) (o : Bool) (hn : Foot.loopSat.hasR ra = false) : (State.loopSat s l p i o).reg ra i0 j0 = s.reg ra i0 j0 :=
  (Does.loopSat (Does.refl _ s) (Foot.le_refl _) _ _ _ _).reg hn _ _
@[simp] theorem State.v_loopSat (l : Nat) (p : Bool) (i : Bool) (o : Bool) (hn : Foot.loopSat.hasV va = false) : (State.loopSat s l p i o).v va i0 j0 = s.v va i0 j0 :=
  (Does.loopSat (Does.refl _ s) (Foot.le_refl _) _ _ _ _).v hn _ _
@[simp] theorem State.part_loopSat (l : Nat) (p : Bool) (i : Bool) (o : Bool) (hn : Foot.loopSat.hasP pa = false) : (State.loopSat s l p i o).part pa = s.part pa :=
  (Does.loopSat (Does.refl _ s) (Foot.le_refl _) _ _ _ _).parts pa hn
@[simp] theorem State.rd_thrCommit (l : Nat) (u : Int) (hn : Foot.thrCommit.hasR fl.r = false) : (State.thrCommit s l u).rd fl i0 j0 = s.rd fl i0 j0 :=
  (Does.thrCommit (Does.refl _ s) (Foot.le_refl _) _ _).rd hn _ _
@[simp] theorem State.reg_thrCommit (l : Nat) (u : Int) (hn : Foot.thrCommit.hasR ra = false) : (State.thrCommit s l u).reg ra i0 j0 = s.reg ra i0 j0 :=
  (Does.thrCommit (Does.refl _ s) (Foot.le_refl _) _ _).reg hn _ _
@[simp] theorem State.v_thrCommit (l : Nat) (u : Int) (hn : Foot.thrCommit.hasV va = false) : (State.thrCommit s l u).v va i0 j0 = s.v va i0 j0 :=
  (Does.thrCommit (Does.refl _ s) (Foot.le_refl _) _ _).v hn _ _
@[simp] theorem State.part_thrCommit (l : Nat) (u : Int) (hn : Foot.thrCommit.hasP pa = false) : (State.thrCommit s l u).part pa = s.part pa :=
  (Does.thrCommit (Does.refl _ s) (Foot.le_refl _) _ _).parts pa hn
@[simp] theorem State.rd_loopCommit (l : Nat) (u : Int) (nom : Nat) (hn : Foot.loopCommit.hasR fl.r = false) : (State.loopCommit s l u nom).rd fl i0 j0 = s.rd fl i0 j0 :=
  (Does.loopCommit (Does.refl _ s) (Foot.le_refl _) _ _ _).rd hn _ _
@[simp] theorem State.reg_loopCommit (l : Nat) (u : Int) (nom : Nat) (hn : Foot.loopCommit.hasR ra = false) : (State.loopCommit s l u nom).reg ra i0 j0 = s.reg ra i0 j0 :=
  (Does.loopCommit (Does.refl _ s) (Foot.le_refl _) _ _ _).reg hn _ _
@[simp] theorem State.v_loopCommit (l : Nat) (u : Int) (nom : Nat) (hn : Foot.loopCommit.hasV va = false) : (State.loopCommit s l u nom).v va i0 j0 = s.v va i0 j0 :=
  (Does.loopCommit (Does.refl _ s) (Foot.le_refl _) _ _ _).v hn _ _
@[simp] theorem State.part_loopCommit (l : Nat) (u : Int) (nom : Nat) (hn : Foot.loopCommit.hasP pa = false) : (State.loopCommit s l u nom).part pa = s.part pa :=
  (Does.loopCommit (Does.refl _ s) (Foot.le_refl _) _ _ _).parts pa hn
@[simp] theorem State.rd_leaseAdjust (hn : Foot.leaseAdjust.hasR fl.r = false) : (State.leaseAdjust s).rd fl i0 j0 = s.rd fl i0 j0 :=
  (Does.leaseAdjust (Does.refl _ s) (Foot.le_refl _)).rd hn _ _
@[simp] theorem State.reg_leaseAdjust (hn : Foot.leaseAdjust.hasR ra = false) : (State.leaseAdjust s).reg ra i0 j0 = s.reg ra i0 j0 :=
  (Does.leaseAdjust (Does.refl _ s) (Foot.le_refl _)).reg hn _ _
@[simp] theorem State.v_leaseAdjust (hn : Foot.leaseAdjust.hasV va = false) : (State.leaseAdjust s).v va i0 j0 = s.v va i0 j0 :=
  (Does.leaseAdjust (Does.refl _ s) (Foot.le_refl _)).v hn _ _
@[simp] theorem State.part_leaseAdjust (hn : Foot.leaseAdjust.hasP pa = false) : (State.leaseAdjust s).part pa = s.part pa :=
  (Does.leaseAdjust (Does.refl _ s) (Foot.le_refl _)).parts pa hn
@[simp] theorem State.rd_closedTick (l : Nat) (nom : Nat) (hn : Foot.closedTick.hasR fl.r = false) : (State.closedTick s l nom).rd fl i0 j0 = s.rd fl i0 j0 :=
  (Does.closedTick (Does.refl _ s) (Foot.le_refl _) _ _).rd hn _ _
@[simp] theorem State.reg_closedTick (l : Nat) (nom : Nat) (hn : Foot.closedTick.hasR ra = false) : (State.closedTick s l nom).reg ra i0 j0 = s.reg ra i0 j0 :=
  (Does.closedTick (Does.refl _ s) (Foot.le_refl _) _ _).reg hn _ _
@[simp] theorem State.v_closedTick (l : Nat) (nom : Nat) (hn : Foot.closedTick.hasV va = false) : (State.closedTick s l nom).v va i0 j0 = s.v va i0 j0 :=
  (Does.closedTick (Does.refl _ s) (Foot.le_refl _) _ _).v hn _ _
@[simp] theorem State.part_closedTick (l : Nat) (nom : Nat) (hn : Foot.closedTick.hasP pa = false) : (State.closedTick s l nom).part pa = s.part pa :=
  (Does.closedTick (Does.refl _ s) (Foot.le_refl _) _ _).parts pa hn
@[simp] theorem State.rd_openTick (l : Nat) (nom : Nat) (hn : Foot.openTick.hasR fl.r = false) : (State.openTick s l nom).rd fl i0 j0 = s.rd fl i0 j0 :=
  (Does.openTick (Does.refl _ s) (Foot.le_refl _) _ _).rd hn _ _
@[simp] theorem State.reg_openTick (l : Nat) (nom : Nat) (hn : Foot.openTick.hasR ra = false) : (State.openTick s l nom).reg ra i0 j0 = s.reg ra i0 j0 :=
  (Does.openTick (Does.refl _ s) (Foot.le_refl _) _ _).reg hn _ _
@[simp] theorem State.v_openTick (l : Nat) (nom : Nat) (hn : Foot.openTick.hasV va = false) : (State.openTick s l nom).v va i0 j0 = s.v va i0 j0 :=
  (Does.openTick (Does.refl _ s) (Foot.le_refl _) _ _).v hn _ _
@[simp] theorem State.part_openTick (l : Nat) (nom : Nat) (hn : Foot.openTick.hasP pa = false) : (State.openTick s l nom).part pa = s.part pa :=
  (Does.openTick (Does.refl _ s) (Foot.le_refl _) _ _).parts pa hn
@[simp] theorem State.rd_loopArm (l : Nat) (hn : Foot.loopArm.hasR fl.r = false) : (State.loopArm s l).rd fl i0 j0 = s.rd fl i0 j0 :=
  (Does.loopArm (Does.refl _ s) (Foot.le_refl _) _).rd hn _ _
@[simp] theorem State.reg_loopArm (l : Nat) (hn : Foot.loopArm.hasR ra = false) : (State.loopArm s l).reg ra i0 j0 = s.reg ra i0 j0 :=
  (Does.loopArm (Does.refl _ s) (Foot.le_refl _) _).reg hn _ _
@[simp] theorem State.v_loopArm (l : Nat) (hn : Foot.loopArm.hasV va = false) : (State.loopArm s l).v va i0 j0 = s.v va i0 j0 :=
  (Does.loopArm (Does.refl _ s) (Foot.le_refl _) _).v hn _ _
@[simp] theorem State.part_loopArm (l : Nat) (hn : Foot.loopArm.hasP pa = false) : (State.loopArm s l).part pa = s.part pa :=
  (Does.loopArm (Does.refl _ s) (Foot.le_refl _) _).parts pa hn
@[simp] theorem State.rd_loopsArm (hn : Foot.loopsArm.hasR fl.r = false) : (State.loopsArm s).rd fl i0 j0 = s.rd fl i0 j0 :=
  (Does.loopsArm (Does.refl _ s) (Foot.le_refl _)).rd hn _ _
@[simp] theorem State.reg_loopsArm (hn : Foot.loopsArm.hasR ra = false) : (State.loopsArm s).reg ra i0 j0 = s.reg ra i0 j0 :=
  (Does.loopsArm (Does.refl _ s) (Foot.le_refl _)).reg hn _ _
@[simp] theorem State.v_loopsArm (hn : Foot.loopsArm.hasV va = false) : (State.loopsArm s).v va i0 j0 = s.v va i0 j0 :=
  (Does.loopsArm (Does.refl _ s) (Foot.le_refl _)).v hn _ _
@[simp] theorem State.part_loopsArm (hn : Foot.loopsArm.hasP pa = false) : (State.loopsArm s).part pa = s.part pa :=
  (Does.loopsArm (Does.refl _ s) (Foot.le_refl _)).parts pa hn
@[simp] theorem State.rd_loopFrame (l : Nat) (hn : Foot.loopFrame.hasR fl.r = false) : (State.loopFrame s l).rd fl i0 j0 = s.rd fl i0 j0 :=
  (Does.loopFrame (Does.refl _ s) (Foot.le_refl _) _).rd hn _ _
@[simp] theorem State.reg_loopFrame (l : Nat) (hn : Foot.loopFrame.hasR ra = false) : (State.loopFrame s l).reg ra i0 j0 = s.reg ra i0 j0 :=
  (Does.loopFrame (Does.refl _ s) (Foot.le_refl _) _).reg hn _ _
@[simp] theorem State.v_loopFrame (l : Nat) (hn : Foot.loopFrame.hasV va = false) : (State.loopFrame s l).v va i0 j0 = s.v va i0 j0 :=
  (Does.loopFrame (Does.refl _ s) (Foot.le_refl _) _).v hn _ _
@[simp] theorem State.part_loopFrame (l : Nat) (hn : Foot.loopFrame.hasP pa = false) : (State.loopFrame s l).part pa = s.part pa :=
  (Does.loopFrame (Does.refl _ s) (Foot.le_refl _) _).parts pa hn
@[simp] theorem State.rd_loopTick (l : Nat) (hn : Foot.loopTick.hasR fl.r = false) : (State.loopTick s l).rd fl i0 j0 = s.rd fl i0 j0 :=
  (Does.loopTick (Does.refl _ s) (Foot.le_refl _) _).rd hn _ _
@[simp] theorem State.reg_loopTick (l : Nat) (hn : Foot.loopTick.hasR ra = false) : (State.loopTick s l).reg ra i0 j0 = s.reg ra i0 j0 :=
  (Does.loopTick (Does.refl _ s) (Foot.le_refl _) _).reg hn _ _
@[simp] theorem State.v_loopTick (l : Nat) (hn : Foot.loopTick.hasV va = false) : (State.loopTick s l).v va i0 j0 = s.v va i0 j0 :=
  (Does.loopTick (Does.refl _ s) (Foot.le_refl _) _).v hn _ _
@[simp] theorem State.part_loopTick (l : Nat) (hn : Foot.loopTick.hasP pa = false) : (State.loopTick s l).part pa = s.part pa :=
  (Does.loopTick (Does.refl _ s) (Foot.le_refl _) _).parts pa hn
@[simp] theorem State.rd_preload (l : Nat) (hn : Foot.preload.hasR fl.r = false) : (State.preload s l).rd fl i0 j0 = s.rd fl i0 j0 :=
  (Does.preload (Does.refl _ s) (Foot.le_refl _) _).rd hn _ _
@[simp] theorem State.reg_preload (l : Nat) (hn : Foot.preload.hasR ra = false) : (State.preload s l).reg ra i0 j0 = s.reg ra i0 j0 :=
  (Does.preload (Does.refl _ s) (Foot.le_refl _) _).reg hn _ _
@[simp] theorem State.v_preload (l : Nat) (hn : Foot.preload.hasV va = false) : (State.preload s l).v va i0 j0 = s.v va i0 j0 :=
  (Does.preload (Does.refl _ s) (Foot.le_refl _) _).v hn _ _
@[simp] theorem State.part_preload (l : Nat) (hn : Foot.preload.hasP pa = false) : (State.preload s l).part pa = s.part pa :=
  (Does.preload (Does.refl _ s) (Foot.le_refl _) _).parts pa hn
@[simp] theorem State.rd_loopClose (l : Nat) (hn : Foot.loopClose.hasR fl.r = false) : (State.loopClose s l).rd fl i0 j0 = s.rd fl i0 j0 :=
  (Does.loopClose (Does.refl _ s) (Foot.le_refl _) _).rd hn _ _
@[simp] theorem State.reg_loopClose (l : Nat) (hn : Foot.loopClose.hasR ra = false) : (State.loopClose s l).reg ra i0 j0 = s.reg ra i0 j0 :=
  (Does.loopClose (Does.refl _ s) (Foot.le_refl _) _).reg hn _ _
@[simp] theorem State.v_loopClose (l : Nat) (hn : Foot.loopClose.hasV va = false) : (State.loopClose s l).v va i0 j0 = s.v va i0 j0 :=
  (Does.loopClose (Does.refl _ s) (Foot.le_refl _) _).v hn _ _
@[simp] theorem State.part_loopClose (l : Nat) (hn : Foot.loopClose.hasP pa = false) : (State.loopClose s l).part pa = s.part pa :=
  (Does.loopClose (Does.refl _ s) (Foot.le_refl _) _).parts pa hn
@[simp] theorem State.rd_loopOpen (l : Nat) (hn : Foot.loopOpen.hasR fl.r = false) : (State.loopOpen s l).rd fl i0 j0 = s.rd fl i0 j0 :=
  (Does.loopOpen (Does.refl _ s) (Foot.le_refl _) _).rd hn _ _
@[simp] theorem State.reg_loopOpen (l : Nat) (hn : Foot.loopOpen.hasR ra = false) : (State.loopOpen s l).reg ra i0 j0 = s.reg ra i0 j0 :=
  (Does.loopOpen (Does.refl _ s) (Foot.le_refl _) _).reg hn _ _
@[simp] theorem State.v_loopOpen (l : Nat) (hn : Foot.loopOpen.hasV va = false) : (State.loopOpen s l).v va i0 j0 = s.v va i0 j0 :=
  (Does.loopOpen (Does.refl _ s) (Foot.le_refl _) _).v hn _ _
@[simp] theorem State.part_loopOpen (l : Nat) (hn : Foot.loopOpen.hasP pa = false) : (State.loopOpen s l).part pa = s.part pa :=
  (Does.loopOpen (Does.refl _ s) (Foot.le_refl _) _).parts pa hn
@[simp] theorem State.rd_loopUnhold (l : Nat) (hn : Foot.loopUnhold.hasR fl.r = false) : (State.loopUnhold s l).rd fl i0 j0 = s.rd fl i0 j0 :=
  (Does.loopUnhold (Does.refl _ s) (Foot.le_refl _) _).rd hn _ _
@[simp] theorem State.reg_loopUnhold (l : Nat) (hn : Foot.loopUnhold.hasR ra = false) : (State.loopUnhold s l).reg ra i0 j0 = s.reg ra i0 j0 :=
  (Does.loopUnhold (Does.refl _ s) (Foot.le_refl _) _).reg hn _ _
@[simp] theorem State.v_loopUnhold (l : Nat) (hn : Foot.loopUnhold.hasV va = false) : (State.loopUnhold s l).v va i0 j0 = s.v va i0 j0 :=
  (Does.loopUnhold (Does.refl _ s) (Foot.le_refl _) _).v hn _ _
@[simp] theorem State.part_loopUnhold (l : Nat) (hn : Foot.loopUnhold.hasP pa = false) : (State.loopUnhold s l).part pa = s.part pa :=
  (Does.loopUnhold (Does.refl _ s) (Foot.le_refl _) _).parts pa hn
@[simp] theorem State.rd_loopsRun (hn : Foot.loopsRun.hasR fl.r = false) : (State.loopsRun s).rd fl i0 j0 = s.rd fl i0 j0 :=
  (Does.loopsRun (Does.refl _ s) (Foot.le_refl _)).rd hn _ _
@[simp] theorem State.reg_loopsRun (hn : Foot.loopsRun.hasR ra = false) : (State.loopsRun s).reg ra i0 j0 = s.reg ra i0 j0 :=
  (Does.loopsRun (Does.refl _ s) (Foot.le_refl _)).reg hn _ _
@[simp] theorem State.v_loopsRun (hn : Foot.loopsRun.hasV va = false) : (State.loopsRun s).v va i0 j0 = s.v va i0 j0 :=
  (Does.loopsRun (Does.refl _ s) (Foot.le_refl _)).v hn _ _
@[simp] theorem State.part_loopsRun (hn : Foot.loopsRun.hasP pa = false) : (State.loopsRun s).part pa = s.part pa :=
  (Does.loopsRun (Does.refl _ s) (Foot.le_refl _)).parts pa hn
@[simp] theorem State.rd_loopsLeave (toSleep : Bool) (hn : Foot.loopsLeave.hasR fl.r = false) : (State.loopsLeave s toSleep).rd fl i0 j0 = s.rd fl i0 j0 :=
  (Does.loopsLeave (Does.refl _ s) (Foot.le_refl _) _).rd hn _ _
@[simp] theorem State.reg_loopsLeave (toSleep : Bool) (hn : Foot.loopsLeave.hasR ra = false) : (State.loopsLeave s toSleep).reg ra i0 j0 = s.reg ra i0 j0 :=
  (Does.loopsLeave (Does.refl _ s) (Foot.le_refl _) _).reg hn _ _
@[simp] theorem State.v_loopsLeave (toSleep : Bool) (hn : Foot.loopsLeave.hasV va = false) : (State.loopsLeave s toSleep).v va i0 j0 = s.v va i0 j0 :=
  (Does.loopsLeave (Does.refl _ s) (Foot.le_refl _) _).v hn _ _
@[simp] theorem State.part_loopsLeave (toSleep : Bool) (hn : Foot.loopsLeave.hasP pa = false) : (State.loopsLeave s toSleep).part pa = s.part pa :=
  (Does.loopsLeave (Does.refl _ s) (Foot.le_refl _) _).parts pa hn
@[simp] theorem State.rd_loopsHostBack (d : Nat) (hn : Foot.loopsHostBack.hasR fl.r = false) : (State.loopsHostBack s d).rd fl i0 j0 = s.rd fl i0 j0 :=
  (Does.loopsHostBack (Does.refl _ s) (Foot.le_refl _) _).rd hn _ _
@[simp] theorem State.reg_loopsHostBack (d : Nat) (hn : Foot.loopsHostBack.hasR ra = false) : (State.loopsHostBack s d).reg ra i0 j0 = s.reg ra i0 j0 :=
  (Does.loopsHostBack (Does.refl _ s) (Foot.le_refl _) _).reg hn _ _
@[simp] theorem State.v_loopsHostBack (d : Nat) (hn : Foot.loopsHostBack.hasV va = false) : (State.loopsHostBack s d).v va i0 j0 = s.v va i0 j0 :=
  (Does.loopsHostBack (Does.refl _ s) (Foot.le_refl _) _).v hn _ _
@[simp] theorem State.part_loopsHostBack (d : Nat) (hn : Foot.loopsHostBack.hasP pa = false) : (State.loopsHostBack s d).part pa = s.part pa :=
  (Does.loopsHostBack (Does.refl _ s) (Foot.le_refl _) _).parts pa hn
@[simp] theorem State.rd_loopCmd (l : Nat) (cmd : Nat) (hn : Foot.loopCmd.hasR fl.r = false) : (State.loopCmd s l cmd).2.rd fl i0 j0 = s.rd fl i0 j0 :=
  (Does.loopCmd (Does.refl _ s) (Foot.le_refl _) _ _).rd hn _ _
@[simp] theorem State.reg_loopCmd (l : Nat) (cmd : Nat) (hn : Foot.loopCmd.hasR ra = false) : (State.loopCmd s l cmd).2.reg ra i0 j0 = s.reg ra i0 j0 :=
  (Does.loopCmd (Does.refl _ s) (Foot.le_refl _) _ _).reg hn _ _
@[simp] theorem State.v_loopCmd (l : Nat) (cmd : Nat) (hn : Foot.loopCmd.hasV va = false) : (State.loopCmd s l cmd).2.v va i0 j0 = s.v va i0 j0 :=
  (Does.loopCmd (Does.refl _ s) (Foot.le_refl _) _ _).v hn _ _
@[simp] theorem State.part_loopCmd (l : Nat) (cmd : Nat) (hn : Foot.loopCmd.hasP pa = false) : (State.loopCmd s l cmd).2.part pa = s.part pa :=
  (Does.loopCmd (Does.refl _ s) (Foot.le_refl _) _ _).parts pa hn

end Sys2Proof.Machine
end

