-- ==== Sys2Proof/Laws/ReadsB.lean ====
section
/-!
SUPPORT. What work outside whose footprint a register or a variable lies leaves of its reads, for the operations of FootB.
-/
namespace Sys2Proof.Machine

variable {s : State} {fl : Fld} {ra : Reg} {va : Var} {pa : Part} {i0 j0 : Nat}

@[simp] theorem State.rd_frameOut (n : Nat) (typ : Nat) (body : Nat) (hn : Foot.frameOut.hasR fl.r = false) : (State.frameOut s n typ body).rd fl i0 j0 = s.rd fl i0 j0 :=
  (Does.frameOut (Does.refl _ s) (Foot.le_refl _) _ _ _).rd hn _ _
@[simp] theorem State.reg_frameOut (n : Nat) (typ : Nat) (body : Nat) (hn : Foot.frameOut.hasR ra = false) : (State.frameOut s n typ body).reg ra i0 j0 = s.reg ra i0 j0 :=
  (Does.frameOut (Does.refl _ s) (Foot.le_refl _) _ _ _).reg hn _ _
@[simp] theorem State.v_frameOut (n : Nat) (typ : Nat) (body : Nat) (hn : Foot.frameOut.hasV va = false) : (State.frameOut s n typ body).v va i0 j0 = s.v va i0 j0 :=
  (Does.frameOut (Does.refl _ s) (Foot.le_refl _) _ _ _).v hn _ _
@[simp] theorem State.part_frameOut (n : Nat) (typ : Nat) (body : Nat) (hn : Foot.frameOut.hasP pa = false) : (State.frameOut s n typ body).part pa = s.part pa :=
  (Does.frameOut (Does.refl _ s) (Foot.le_refl _) _ _ _).parts pa hn
@[simp] theorem State.rd_leaseSet (n : Nat) (amt : Nat) (lender : Bool) (hn : Foot.leaseSet.hasR fl.r = false) : (State.leaseSet s n amt lender).rd fl i0 j0 = s.rd fl i0 j0 :=
  (Does.leaseSet (Does.refl _ s) (Foot.le_refl _) _ _ _).rd hn _ _
@[simp] theorem State.reg_leaseSet (n : Nat) (amt : Nat) (lender : Bool) (hn : Foot.leaseSet.hasR ra = false) : (State.leaseSet s n amt lender).reg ra i0 j0 = s.reg ra i0 j0 :=
  (Does.leaseSet (Does.refl _ s) (Foot.le_refl _) _ _ _).reg hn _ _
@[simp] theorem State.v_leaseSet (n : Nat) (amt : Nat) (lender : Bool) (hn : Foot.leaseSet.hasV va = false) : (State.leaseSet s n amt lender).v va i0 j0 = s.v va i0 j0 :=
  (Does.leaseSet (Does.refl _ s) (Foot.le_refl _) _ _ _).v hn _ _
@[simp] theorem State.part_leaseSet (n : Nat) (amt : Nat) (lender : Bool) (hn : Foot.leaseSet.hasP pa = false) : (State.leaseSet s n amt lender).part pa = s.part pa :=
  (Does.leaseSet (Does.refl _ s) (Foot.le_refl _) _ _ _).parts pa hn
@[simp] theorem State.rd_leaseEnd (n : Nat) (lost : Bool) (hn : Foot.leaseEnd.hasR fl.r = false) : (State.leaseEnd s n lost).rd fl i0 j0 = s.rd fl i0 j0 :=
  (Does.leaseEnd (Does.refl _ s) (Foot.le_refl _) _ _).rd hn _ _
@[simp] theorem State.reg_leaseEnd (n : Nat) (lost : Bool) (hn : Foot.leaseEnd.hasR ra = false) : (State.leaseEnd s n lost).reg ra i0 j0 = s.reg ra i0 j0 :=
  (Does.leaseEnd (Does.refl _ s) (Foot.le_refl _) _ _).reg hn _ _
@[simp] theorem State.v_leaseEnd (n : Nat) (lost : Bool) (hn : Foot.leaseEnd.hasV va = false) : (State.leaseEnd s n lost).v va i0 j0 = s.v va i0 j0 :=
  (Does.leaseEnd (Does.refl _ s) (Foot.le_refl _) _ _).v hn _ _
@[simp] theorem State.part_leaseEnd (n : Nat) (lost : Bool) (hn : Foot.leaseEnd.hasP pa = false) : (State.leaseEnd s n lost).part pa = s.part pa :=
  (Does.leaseEnd (Does.refl _ s) (Foot.le_refl _) _ _).parts pa hn
@[simp] theorem State.rd_leaseTEnd (n : Nat) (hub : Int) (hn : Foot.leaseTEnd.hasR fl.r = false) : (State.leaseTEnd s n hub).rd fl i0 j0 = s.rd fl i0 j0 :=
  (Does.leaseTEnd (Does.refl _ s) (Foot.le_refl _) _ _).rd hn _ _
@[simp] theorem State.reg_leaseTEnd (n : Nat) (hub : Int) (hn : Foot.leaseTEnd.hasR ra = false) : (State.leaseTEnd s n hub).reg ra i0 j0 = s.reg ra i0 j0 :=
  (Does.leaseTEnd (Does.refl _ s) (Foot.le_refl _) _ _).reg hn _ _
@[simp] theorem State.v_leaseTEnd (n : Nat) (hub : Int) (hn : Foot.leaseTEnd.hasV va = false) : (State.leaseTEnd s n hub).v va i0 j0 = s.v va i0 j0 :=
  (Does.leaseTEnd (Does.refl _ s) (Foot.le_refl _) _ _).v hn _ _
@[simp] theorem State.part_leaseTEnd (n : Nat) (hub : Int) (hn : Foot.leaseTEnd.hasP pa = false) : (State.leaseTEnd s n hub).part pa = s.part pa :=
  (Does.leaseTEnd (Does.refl _ s) (Foot.le_refl _) _ _).parts pa hn
@[simp] theorem State.rd_leaseSeq (n : Nat) (hn : Foot.leaseSeq.hasR fl.r = false) : (State.leaseSeq s n).2.rd fl i0 j0 = s.rd fl i0 j0 :=
  (Does.leaseSeq (Does.refl _ s) (Foot.le_refl _) _).rd hn _ _
@[simp] theorem State.reg_leaseSeq (n : Nat) (hn : Foot.leaseSeq.hasR ra = false) : (State.leaseSeq s n).2.reg ra i0 j0 = s.reg ra i0 j0 :=
  (Does.leaseSeq (Does.refl _ s) (Foot.le_refl _) _).reg hn _ _
@[simp] theorem State.v_leaseSeq (n : Nat) (hn : Foot.leaseSeq.hasV va = false) : (State.leaseSeq s n).2.v va i0 j0 = s.v va i0 j0 :=
  (Does.leaseSeq (Does.refl _ s) (Foot.le_refl _) _).v hn _ _
@[simp] theorem State.part_leaseSeq (n : Nat) (hn : Foot.leaseSeq.hasP pa = false) : (State.leaseSeq s n).2.part pa = s.part pa :=
  (Does.leaseSeq (Does.refl _ s) (Foot.le_refl _) _).parts pa hn
@[simp] theorem State.rd_leaseRecallSend (n : Nat) (amt : Nat) (hn : Foot.leaseRecallSend.hasR fl.r = false) : (State.leaseRecallSend s n amt).rd fl i0 j0 = s.rd fl i0 j0 :=
  (Does.leaseRecallSend (Does.refl _ s) (Foot.le_refl _) _ _).rd hn _ _
@[simp] theorem State.reg_leaseRecallSend (n : Nat) (amt : Nat) (hn : Foot.leaseRecallSend.hasR ra = false) : (State.leaseRecallSend s n amt).reg ra i0 j0 = s.reg ra i0 j0 :=
  (Does.leaseRecallSend (Does.refl _ s) (Foot.le_refl _) _ _).reg hn _ _
@[simp] theorem State.v_leaseRecallSend (n : Nat) (amt : Nat) (hn : Foot.leaseRecallSend.hasV va = false) : (State.leaseRecallSend s n amt).v va i0 j0 = s.v va i0 j0 :=
  (Does.leaseRecallSend (Does.refl _ s) (Foot.le_refl _) _ _).v hn _ _
@[simp] theorem State.part_leaseRecallSend (n : Nat) (amt : Nat) (hn : Foot.leaseRecallSend.hasP pa = false) : (State.leaseRecallSend s n amt).part pa = s.part pa :=
  (Does.leaseRecallSend (Does.refl _ s) (Foot.le_refl _) _ _).parts pa hn
@[simp] theorem State.rd_leaseCheck (hn : Foot.leaseCheck.hasR fl.r = false) : (State.leaseCheck s).rd fl i0 j0 = s.rd fl i0 j0 :=
  (Does.leaseCheck (Does.refl _ s) (Foot.le_refl _)).rd hn _ _
@[simp] theorem State.reg_leaseCheck (hn : Foot.leaseCheck.hasR ra = false) : (State.leaseCheck s).reg ra i0 j0 = s.reg ra i0 j0 :=
  (Does.leaseCheck (Does.refl _ s) (Foot.le_refl _)).reg hn _ _
@[simp] theorem State.v_leaseCheck (hn : Foot.leaseCheck.hasV va = false) : (State.leaseCheck s).v va i0 j0 = s.v va i0 j0 :=
  (Does.leaseCheck (Does.refl _ s) (Foot.le_refl _)).v hn _ _
@[simp] theorem State.part_leaseCheck (hn : Foot.leaseCheck.hasP pa = false) : (State.leaseCheck s).part pa = s.part pa :=
  (Does.leaseCheck (Does.refl _ s) (Foot.le_refl _)).parts pa hn
@[simp] theorem State.rd_leasePortDown (n : Nat) (failed : Bool) (hn : Foot.leasePortDown.hasR fl.r = false) : (State.leasePortDown s n failed).rd fl i0 j0 = s.rd fl i0 j0 :=
  (Does.leasePortDown (Does.refl _ s) (Foot.le_refl _) _ _).rd hn _ _
@[simp] theorem State.reg_leasePortDown (n : Nat) (failed : Bool) (hn : Foot.leasePortDown.hasR ra = false) : (State.leasePortDown s n failed).reg ra i0 j0 = s.reg ra i0 j0 :=
  (Does.leasePortDown (Does.refl _ s) (Foot.le_refl _) _ _).reg hn _ _
@[simp] theorem State.v_leasePortDown (n : Nat) (failed : Bool) (hn : Foot.leasePortDown.hasV va = false) : (State.leasePortDown s n failed).v va i0 j0 = s.v va i0 j0 :=
  (Does.leasePortDown (Does.refl _ s) (Foot.le_refl _) _ _).v hn _ _
@[simp] theorem State.part_leasePortDown (n : Nat) (failed : Bool) (hn : Foot.leasePortDown.hasP pa = false) : (State.leasePortDown s n failed).part pa = s.part pa :=
  (Does.leasePortDown (Does.refl _ s) (Foot.le_refl _) _ _).parts pa hn
@[simp] theorem State.rd_leaseFail (hn : Foot.leaseFail.hasR fl.r = false) : (State.leaseFail s).rd fl i0 j0 = s.rd fl i0 j0 :=
  (Does.leaseFail (Does.refl _ s) (Foot.le_refl _)).rd hn _ _
@[simp] theorem State.reg_leaseFail (hn : Foot.leaseFail.hasR ra = false) : (State.leaseFail s).reg ra i0 j0 = s.reg ra i0 j0 :=
  (Does.leaseFail (Does.refl _ s) (Foot.le_refl _)).reg hn _ _
@[simp] theorem State.v_leaseFail (hn : Foot.leaseFail.hasV va = false) : (State.leaseFail s).v va i0 j0 = s.v va i0 j0 :=
  (Does.leaseFail (Does.refl _ s) (Foot.le_refl _)).v hn _ _
@[simp] theorem State.part_leaseFail (hn : Foot.leaseFail.hasP pa = false) : (State.leaseFail s).part pa = s.part pa :=
  (Does.leaseFail (Does.refl _ s) (Foot.le_refl _)).parts pa hn
@[simp] theorem State.rd_lseqTake (n : Nat) (q : Nat) (hn : Foot.lseqTake.hasR fl.r = false) : (State.lseqTake s n q).rd fl i0 j0 = s.rd fl i0 j0 :=
  (Does.lseqTake (Does.refl _ s) (Foot.le_refl _) _ _).rd hn _ _
@[simp] theorem State.reg_lseqTake (n : Nat) (q : Nat) (hn : Foot.lseqTake.hasR ra = false) : (State.lseqTake s n q).reg ra i0 j0 = s.reg ra i0 j0 :=
  (Does.lseqTake (Does.refl _ s) (Foot.le_refl _) _ _).reg hn _ _
@[simp] theorem State.v_lseqTake (n : Nat) (q : Nat) (hn : Foot.lseqTake.hasV va = false) : (State.lseqTake s n q).v va i0 j0 = s.v va i0 j0 :=
  (Does.lseqTake (Does.refl _ s) (Foot.le_refl _) _ _).v hn _ _
@[simp] theorem State.part_lseqTake (n : Nat) (q : Nat) (hn : Foot.lseqTake.hasP pa = false) : (State.lseqTake s n q).part pa = s.part pa :=
  (Does.lseqTake (Does.refl _ s) (Foot.le_refl _) _ _).parts pa hn
@[simp] theorem State.rd_offerTake (n : Nat) (spare : Nat) (want : Nat) (feed : Nat) (hn : Foot.offerTake.hasR fl.r = false) : (State.offerTake s n spare want feed).rd fl i0 j0 = s.rd fl i0 j0 :=
  (Does.offerTake (Does.refl _ s) (Foot.le_refl _) _ _ _ _).rd hn _ _
@[simp] theorem State.reg_offerTake (n : Nat) (spare : Nat) (want : Nat) (feed : Nat) (hn : Foot.offerTake.hasR ra = false) : (State.offerTake s n spare want feed).reg ra i0 j0 = s.reg ra i0 j0 :=
  (Does.offerTake (Does.refl _ s) (Foot.le_refl _) _ _ _ _).reg hn _ _
@[simp] theorem State.v_offerTake (n : Nat) (spare : Nat) (want : Nat) (feed : Nat) (hn : Foot.offerTake.hasV va = false) : (State.offerTake s n spare want feed).v va i0 j0 = s.v va i0 j0 :=
  (Does.offerTake (Does.refl _ s) (Foot.le_refl _) _ _ _ _).v hn _ _
@[simp] theorem State.part_offerTake (n : Nat) (spare : Nat) (want : Nat) (feed : Nat) (hn : Foot.offerTake.hasP pa = false) : (State.offerTake s n spare want feed).part pa = s.part pa :=
  (Does.offerTake (Does.refl _ s) (Foot.le_refl _) _ _ _ _).parts pa hn
@[simp] theorem State.rd_grantTake (n : Nat) (amt : Nat) (lseq : Nat) (texp : Int) (hn : Foot.grantTake.hasR fl.r = false) : (State.grantTake s n amt lseq texp).rd fl i0 j0 = s.rd fl i0 j0 :=
  (Does.grantTake (Does.refl _ s) (Foot.le_refl _) _ _ _ _).rd hn _ _
@[simp] theorem State.reg_grantTake (n : Nat) (amt : Nat) (lseq : Nat) (texp : Int) (hn : Foot.grantTake.hasR ra = false) : (State.grantTake s n amt lseq texp).reg ra i0 j0 = s.reg ra i0 j0 :=
  (Does.grantTake (Does.refl _ s) (Foot.le_refl _) _ _ _ _).reg hn _ _
@[simp] theorem State.v_grantTake (n : Nat) (amt : Nat) (lseq : Nat) (texp : Int) (hn : Foot.grantTake.hasV va = false) : (State.grantTake s n amt lseq texp).v va i0 j0 = s.v va i0 j0 :=
  (Does.grantTake (Does.refl _ s) (Foot.le_refl _) _ _ _ _).v hn _ _
@[simp] theorem State.part_grantTake (n : Nat) (amt : Nat) (lseq : Nat) (texp : Int) (hn : Foot.grantTake.hasP pa = false) : (State.grantTake s n amt lseq texp).part pa = s.part pa :=
  (Does.grantTake (Does.refl _ s) (Foot.le_refl _) _ _ _ _).parts pa hn
@[simp] theorem State.rd_recallTake (n : Nat) (amt : Nat) (lseq : Nat) (teff : Int) (hn : Foot.recallTake.hasR fl.r = false) : (State.recallTake s n amt lseq teff).rd fl i0 j0 = s.rd fl i0 j0 :=
  (Does.recallTake (Does.refl _ s) (Foot.le_refl _) _ _ _ _).rd hn _ _
@[simp] theorem State.reg_recallTake (n : Nat) (amt : Nat) (lseq : Nat) (teff : Int) (hn : Foot.recallTake.hasR ra = false) : (State.recallTake s n amt lseq teff).reg ra i0 j0 = s.reg ra i0 j0 :=
  (Does.recallTake (Does.refl _ s) (Foot.le_refl _) _ _ _ _).reg hn _ _
@[simp] theorem State.v_recallTake (n : Nat) (amt : Nat) (lseq : Nat) (teff : Int) (hn : Foot.recallTake.hasV va = false) : (State.recallTake s n amt lseq teff).v va i0 j0 = s.v va i0 j0 :=
  (Does.recallTake (Does.refl _ s) (Foot.le_refl _) _ _ _ _).v hn _ _
@[simp] theorem State.part_recallTake (n : Nat) (amt : Nat) (lseq : Nat) (teff : Int) (hn : Foot.recallTake.hasP pa = false) : (State.recallTake s n amt lseq teff).part pa = s.part pa :=
  (Does.recallTake (Does.refl _ s) (Foot.le_refl _) _ _ _ _).parts pa hn
@[simp] theorem State.rd_loopOp (l : Nat) (cmd : Nat) (hn : Foot.loopOp.hasR fl.r = false) : (State.loopOp s l cmd).2.rd fl i0 j0 = s.rd fl i0 j0 :=
  (Does.loopOp (Does.refl _ s) (Foot.le_refl _) _ _).rd hn _ _
@[simp] theorem State.reg_loopOp (l : Nat) (cmd : Nat) (hn : Foot.loopOp.hasR ra = false) : (State.loopOp s l cmd).2.reg ra i0 j0 = s.reg ra i0 j0 :=
  (Does.loopOp (Does.refl _ s) (Foot.le_refl _) _ _).reg hn _ _
@[simp] theorem State.v_loopOp (l : Nat) (cmd : Nat) (hn : Foot.loopOp.hasV va = false) : (State.loopOp s l cmd).2.v va i0 j0 = s.v va i0 j0 :=
  (Does.loopOp (Does.refl _ s) (Foot.le_refl _) _ _).v hn _ _
@[simp] theorem State.part_loopOp (l : Nat) (cmd : Nat) (hn : Foot.loopOp.hasP pa = false) : (State.loopOp s l cmd).2.part pa = s.part pa :=
  (Does.loopOp (Does.refl _ s) (Foot.le_refl _) _ _).parts pa hn
@[simp] theorem State.rd_loopCtrl (p : Port) (l : Nat) (cmd : Nat) (hn : Foot.loopCtrl.hasR fl.r = false) : (State.loopCtrl s p l cmd).rd fl i0 j0 = s.rd fl i0 j0 :=
  (Does.loopCtrl (Does.refl _ s) (Foot.le_refl _) _ _ _).rd hn _ _
@[simp] theorem State.reg_loopCtrl (p : Port) (l : Nat) (cmd : Nat) (hn : Foot.loopCtrl.hasR ra = false) : (State.loopCtrl s p l cmd).reg ra i0 j0 = s.reg ra i0 j0 :=
  (Does.loopCtrl (Does.refl _ s) (Foot.le_refl _) _ _ _).reg hn _ _
@[simp] theorem State.v_loopCtrl (p : Port) (l : Nat) (cmd : Nat) (hn : Foot.loopCtrl.hasV va = false) : (State.loopCtrl s p l cmd).v va i0 j0 = s.v va i0 j0 :=
  (Does.loopCtrl (Does.refl _ s) (Foot.le_refl _) _ _ _).v hn _ _
@[simp] theorem State.part_loopCtrl (p : Port) (l : Nat) (cmd : Nat) (hn : Foot.loopCtrl.hasP pa = false) : (State.loopCtrl s p l cmd).part pa = s.part pa :=
  (Does.loopCtrl (Does.refl _ s) (Foot.le_refl _) _ _ _).parts pa hn
@[simp] theorem State.rd_latchPoint (c : Nat) (hn : Foot.latchPoint.hasR fl.r = false) : (State.latchPoint s c).2.rd fl i0 j0 = s.rd fl i0 j0 :=
  (Does.latchPoint (Does.refl _ s) (Foot.le_refl _) _).rd hn _ _
@[simp] theorem State.reg_latchPoint (c : Nat) (hn : Foot.latchPoint.hasR ra = false) : (State.latchPoint s c).2.reg ra i0 j0 = s.reg ra i0 j0 :=
  (Does.latchPoint (Does.refl _ s) (Foot.le_refl _) _).reg hn _ _
@[simp] theorem State.v_latchPoint (c : Nat) (hn : Foot.latchPoint.hasV va = false) : (State.latchPoint s c).2.v va i0 j0 = s.v va i0 j0 :=
  (Does.latchPoint (Does.refl _ s) (Foot.le_refl _) _).v hn _ _
@[simp] theorem State.part_latchPoint (c : Nat) (hn : Foot.latchPoint.hasP pa = false) : (State.latchPoint s c).2.part pa = s.part pa :=
  (Does.latchPoint (Does.refl _ s) (Foot.le_refl _) _).parts pa hn
@[simp] theorem State.rd_latchOp (c : Nat) (op : Nat) (k : Nat) (addr : Nat) (hn : Foot.latchOp.hasR fl.r = false) : (State.latchOp s c op k addr).2.rd fl i0 j0 = s.rd fl i0 j0 :=
  (Does.latchOp (Does.refl _ s) (Foot.le_refl _) _ _ _ _).rd hn _ _
@[simp] theorem State.reg_latchOp (c : Nat) (op : Nat) (k : Nat) (addr : Nat) (hn : Foot.latchOp.hasR ra = false) : (State.latchOp s c op k addr).2.reg ra i0 j0 = s.reg ra i0 j0 :=
  (Does.latchOp (Does.refl _ s) (Foot.le_refl _) _ _ _ _).reg hn _ _
@[simp] theorem State.v_latchOp (c : Nat) (op : Nat) (k : Nat) (addr : Nat) (hn : Foot.latchOp.hasV va = false) : (State.latchOp s c op k addr).2.v va i0 j0 = s.v va i0 j0 :=
  (Does.latchOp (Does.refl _ s) (Foot.le_refl _) _ _ _ _).v hn _ _
@[simp] theorem State.part_latchOp (c : Nat) (op : Nat) (k : Nat) (addr : Nat) (hn : Foot.latchOp.hasP pa = false) : (State.latchOp s c op k addr).2.part pa = s.part pa :=
  (Does.latchOp (Does.refl _ s) (Foot.le_refl _) _ _ _ _).parts pa hn
@[simp] theorem State.rd_latchAbort (c : Nat) (hn : Foot.latchAbort.hasR fl.r = false) : (State.latchAbort s c).rd fl i0 j0 = s.rd fl i0 j0 :=
  (Does.latchAbort (Does.refl _ s) (Foot.le_refl _) _).rd hn _ _
@[simp] theorem State.reg_latchAbort (c : Nat) (hn : Foot.latchAbort.hasR ra = false) : (State.latchAbort s c).reg ra i0 j0 = s.reg ra i0 j0 :=
  (Does.latchAbort (Does.refl _ s) (Foot.le_refl _) _).reg hn _ _
@[simp] theorem State.v_latchAbort (c : Nat) (hn : Foot.latchAbort.hasV va = false) : (State.latchAbort s c).v va i0 j0 = s.v va i0 j0 :=
  (Does.latchAbort (Does.refl _ s) (Foot.le_refl _) _).v hn _ _
@[simp] theorem State.part_latchAbort (c : Nat) (hn : Foot.latchAbort.hasP pa = false) : (State.latchAbort s c).part pa = s.part pa :=
  (Does.latchAbort (Does.refl _ s) (Foot.le_refl _) _).parts pa hn
@[simp] theorem State.rd_latchMark (c : Nat) (τ : Nat) (phase : Nat) (hn : Foot.latchMark.hasR fl.r = false) : (State.latchMark s c τ phase).rd fl i0 j0 = s.rd fl i0 j0 :=
  (Does.latchMark (Does.refl _ s) (Foot.le_refl _) _ _ _).rd hn _ _
@[simp] theorem State.reg_latchMark (c : Nat) (τ : Nat) (phase : Nat) (hn : Foot.latchMark.hasR ra = false) : (State.latchMark s c τ phase).reg ra i0 j0 = s.reg ra i0 j0 :=
  (Does.latchMark (Does.refl _ s) (Foot.le_refl _) _ _ _).reg hn _ _
@[simp] theorem State.v_latchMark (c : Nat) (τ : Nat) (phase : Nat) (hn : Foot.latchMark.hasV va = false) : (State.latchMark s c τ phase).v va i0 j0 = s.v va i0 j0 :=
  (Does.latchMark (Does.refl _ s) (Foot.le_refl _) _ _ _).v hn _ _
@[simp] theorem State.part_latchMark (c : Nat) (τ : Nat) (phase : Nat) (hn : Foot.latchMark.hasP pa = false) : (State.latchMark s c τ phase).part pa = s.part pa :=
  (Does.latchMark (Does.refl _ s) (Foot.le_refl _) _ _ _).parts pa hn
@[simp] theorem State.rd_latchRecord (x : LatchSlot) (e : LatchPt) (hn : Foot.latchRecord.hasR fl.r = false) : (State.latchRecord s x e).rd fl i0 j0 = s.rd fl i0 j0 :=
  (Does.latchRecord (Does.refl _ s) (Foot.le_refl _) _ _).rd hn _ _
@[simp] theorem State.reg_latchRecord (x : LatchSlot) (e : LatchPt) (hn : Foot.latchRecord.hasR ra = false) : (State.latchRecord s x e).reg ra i0 j0 = s.reg ra i0 j0 :=
  (Does.latchRecord (Does.refl _ s) (Foot.le_refl _) _ _).reg hn _ _
@[simp] theorem State.v_latchRecord (x : LatchSlot) (e : LatchPt) (hn : Foot.latchRecord.hasV va = false) : (State.latchRecord s x e).v va i0 j0 = s.v va i0 j0 :=
  (Does.latchRecord (Does.refl _ s) (Foot.le_refl _) _ _).v hn _ _
@[simp] theorem State.part_latchRecord (x : LatchSlot) (e : LatchPt) (hn : Foot.latchRecord.hasP pa = false) : (State.latchRecord s x e).part pa = s.part pa :=
  (Does.latchRecord (Does.refl _ s) (Foot.le_refl _) _ _).parts pa hn
@[simp] theorem State.rd_latchPrune (c : Nat) (hn : Foot.latchPrune.hasR fl.r = false) : (State.latchPrune s c).rd fl i0 j0 = s.rd fl i0 j0 :=
  (Does.latchPrune (Does.refl _ s) (Foot.le_refl _) _).rd hn _ _
@[simp] theorem State.reg_latchPrune (c : Nat) (hn : Foot.latchPrune.hasR ra = false) : (State.latchPrune s c).reg ra i0 j0 = s.reg ra i0 j0 :=
  (Does.latchPrune (Does.refl _ s) (Foot.le_refl _) _).reg hn _ _
@[simp] theorem State.v_latchPrune (c : Nat) (hn : Foot.latchPrune.hasV va = false) : (State.latchPrune s c).v va i0 j0 = s.v va i0 j0 :=
  (Does.latchPrune (Does.refl _ s) (Foot.le_refl _) _).v hn _ _
@[simp] theorem State.part_latchPrune (c : Nat) (hn : Foot.latchPrune.hasP pa = false) : (State.latchPrune s c).part pa = s.part pa :=
  (Does.latchPrune (Does.refl _ s) (Foot.le_refl _) _).parts pa hn
@[simp] theorem State.rd_latchComplete (n : Nat) (hn : Foot.latchComplete.hasR fl.r = false) : (State.latchComplete s n).rd fl i0 j0 = s.rd fl i0 j0 :=
  (Does.latchComplete (Does.refl _ s) (Foot.le_refl _) _).rd hn _ _
@[simp] theorem State.reg_latchComplete (n : Nat) (hn : Foot.latchComplete.hasR ra = false) : (State.latchComplete s n).reg ra i0 j0 = s.reg ra i0 j0 :=
  (Does.latchComplete (Does.refl _ s) (Foot.le_refl _) _).reg hn _ _
@[simp] theorem State.v_latchComplete (n : Nat) (hn : Foot.latchComplete.hasV va = false) : (State.latchComplete s n).v va i0 j0 = s.v va i0 j0 :=
  (Does.latchComplete (Does.refl _ s) (Foot.le_refl _) _).v hn _ _
@[simp] theorem State.part_latchComplete (n : Nat) (hn : Foot.latchComplete.hasP pa = false) : (State.latchComplete s n).part pa = s.part pa :=
  (Does.latchComplete (Does.refl _ s) (Foot.le_refl _) _).parts pa hn
@[simp] theorem State.rd_footShow (hn : Foot.footShow.hasR fl.r = false) : (State.footShow s).rd fl i0 j0 = s.rd fl i0 j0 :=
  (Does.footShow (Does.refl _ s) (Foot.le_refl _)).rd hn _ _
@[simp] theorem State.reg_footShow (hn : Foot.footShow.hasR ra = false) : (State.footShow s).reg ra i0 j0 = s.reg ra i0 j0 :=
  (Does.footShow (Does.refl _ s) (Foot.le_refl _)).reg hn _ _
@[simp] theorem State.v_footShow (hn : Foot.footShow.hasV va = false) : (State.footShow s).v va i0 j0 = s.v va i0 j0 :=
  (Does.footShow (Does.refl _ s) (Foot.le_refl _)).v hn _ _
@[simp] theorem State.part_footShow (hn : Foot.footShow.hasP pa = false) : (State.footShow s).part pa = s.part pa :=
  (Does.footShow (Does.refl _ s) (Foot.le_refl _)).parts pa hn
@[simp] theorem State.rd_smpSpoil (c : Nat) (hn : Foot.smpSpoil.hasR fl.r = false) : (State.smpSpoil s c).rd fl i0 j0 = s.rd fl i0 j0 :=
  (Does.smpSpoil (Does.refl _ s) (Foot.le_refl _) _).rd hn _ _
@[simp] theorem State.reg_smpSpoil (c : Nat) (hn : Foot.smpSpoil.hasR ra = false) : (State.smpSpoil s c).reg ra i0 j0 = s.reg ra i0 j0 :=
  (Does.smpSpoil (Does.refl _ s) (Foot.le_refl _) _).reg hn _ _
@[simp] theorem State.v_smpSpoil (c : Nat) (hn : Foot.smpSpoil.hasV va = false) : (State.smpSpoil s c).v va i0 j0 = s.v va i0 j0 :=
  (Does.smpSpoil (Does.refl _ s) (Foot.le_refl _) _).v hn _ _
@[simp] theorem State.part_smpSpoil (c : Nat) (hn : Foot.smpSpoil.hasP pa = false) : (State.smpSpoil s c).part pa = s.part pa :=
  (Does.smpSpoil (Does.refl _ s) (Foot.le_refl _) _).parts pa hn
@[simp] theorem State.rd_gateTake (l : Nat) (p : Nat) (hn : Foot.gateTake.hasR fl.r = false) : (State.gateTake s l p).rd fl i0 j0 = s.rd fl i0 j0 :=
  (Does.gateTake (Does.refl _ s) (Foot.le_refl _) _ _).rd hn _ _
@[simp] theorem State.reg_gateTake (l : Nat) (p : Nat) (hn : Foot.gateTake.hasR ra = false) : (State.gateTake s l p).reg ra i0 j0 = s.reg ra i0 j0 :=
  (Does.gateTake (Does.refl _ s) (Foot.le_refl _) _ _).reg hn _ _
@[simp] theorem State.v_gateTake (l : Nat) (p : Nat) (hn : Foot.gateTake.hasV va = false) : (State.gateTake s l p).v va i0 j0 = s.v va i0 j0 :=
  (Does.gateTake (Does.refl _ s) (Foot.le_refl _) _ _).v hn _ _
@[simp] theorem State.part_gateTake (l : Nat) (p : Nat) (hn : Foot.gateTake.hasP pa = false) : (State.gateTake s l p).part pa = s.part pa :=
  (Does.gateTake (Does.refl _ s) (Foot.le_refl _) _ _).parts pa hn
@[simp] theorem State.rd_footTake (l : Nat) (hn : Foot.footTake.hasR fl.r = false) : (State.footTake s l).rd fl i0 j0 = s.rd fl i0 j0 :=
  (Does.footTake (Does.refl _ s) (Foot.le_refl _) _).rd hn _ _
@[simp] theorem State.reg_footTake (l : Nat) (hn : Foot.footTake.hasR ra = false) : (State.footTake s l).reg ra i0 j0 = s.reg ra i0 j0 :=
  (Does.footTake (Does.refl _ s) (Foot.le_refl _) _).reg hn _ _
@[simp] theorem State.v_footTake (l : Nat) (hn : Foot.footTake.hasV va = false) : (State.footTake s l).v va i0 j0 = s.v va i0 j0 :=
  (Does.footTake (Does.refl _ s) (Foot.le_refl _) _).v hn _ _
@[simp] theorem State.part_footTake (l : Nat) (hn : Foot.footTake.hasP pa = false) : (State.footTake s l).part pa = s.part pa :=
  (Does.footTake (Does.refl _ s) (Foot.le_refl _) _).parts pa hn
@[simp] theorem State.rd_needRecompute (ls : List Nat) (mark : Bool) (hn : Foot.needRecompute.hasR fl.r = false) : (State.needRecompute s ls mark).rd fl i0 j0 = s.rd fl i0 j0 :=
  (Does.needRecompute (Does.refl _ s) (Foot.le_refl _) _ _).rd hn _ _
@[simp] theorem State.reg_needRecompute (ls : List Nat) (mark : Bool) (hn : Foot.needRecompute.hasR ra = false) : (State.needRecompute s ls mark).reg ra i0 j0 = s.reg ra i0 j0 :=
  (Does.needRecompute (Does.refl _ s) (Foot.le_refl _) _ _).reg hn _ _
@[simp] theorem State.v_needRecompute (ls : List Nat) (mark : Bool) (hn : Foot.needRecompute.hasV va = false) : (State.needRecompute s ls mark).v va i0 j0 = s.v va i0 j0 :=
  (Does.needRecompute (Does.refl _ s) (Foot.le_refl _) _ _).v hn _ _
@[simp] theorem State.part_needRecompute (ls : List Nat) (mark : Bool) (hn : Foot.needRecompute.hasP pa = false) : (State.needRecompute s ls mark).part pa = s.part pa :=
  (Does.needRecompute (Does.refl _ s) (Foot.le_refl _) _ _).parts pa hn
@[simp] theorem State.rd_autoPart (c : Nat) (hn : Foot.autoPart.hasR fl.r = false) : (State.autoPart s c).rd fl i0 j0 = s.rd fl i0 j0 :=
  (Does.autoPart (Does.refl _ s) (Foot.le_refl _) _).rd hn _ _
@[simp] theorem State.reg_autoPart (c : Nat) (hn : Foot.autoPart.hasR ra = false) : (State.autoPart s c).reg ra i0 j0 = s.reg ra i0 j0 :=
  (Does.autoPart (Does.refl _ s) (Foot.le_refl _) _).reg hn _ _
@[simp] theorem State.v_autoPart (c : Nat) (hn : Foot.autoPart.hasV va = false) : (State.autoPart s c).v va i0 j0 = s.v va i0 j0 :=
  (Does.autoPart (Does.refl _ s) (Foot.le_refl _) _).v hn _ _
@[simp] theorem State.part_autoPart (c : Nat) (hn : Foot.autoPart.hasP pa = false) : (State.autoPart s c).part pa = s.part pa :=
  (Does.autoPart (Does.refl _ s) (Foot.le_refl _) _).parts pa hn
@[simp] theorem State.rd_predShow (c : Nat) (hn : Foot.predShow.hasR fl.r = false) : (State.predShow s c).rd fl i0 j0 = s.rd fl i0 j0 :=
  (Does.predShow (Does.refl _ s) (Foot.le_refl _) _).rd hn _ _
@[simp] theorem State.reg_predShow (c : Nat) (hn : Foot.predShow.hasR ra = false) : (State.predShow s c).reg ra i0 j0 = s.reg ra i0 j0 :=
  (Does.predShow (Does.refl _ s) (Foot.le_refl _) _).reg hn _ _
@[simp] theorem State.v_predShow (c : Nat) (hn : Foot.predShow.hasV va = false) : (State.predShow s c).v va i0 j0 = s.v va i0 j0 :=
  (Does.predShow (Does.refl _ s) (Foot.le_refl _) _).v hn _ _
@[simp] theorem State.part_predShow (c : Nat) (hn : Foot.predShow.hasP pa = false) : (State.predShow s c).part pa = s.part pa :=
  (Does.predShow (Does.refl _ s) (Foot.le_refl _) _).parts pa hn
@[simp] theorem State.rd_strChanged (c : Nat) (mark : Bool) (hn : Foot.strChanged.hasR fl.r = false) : (State.strChanged s c mark).rd fl i0 j0 = s.rd fl i0 j0 :=
  (Does.strChanged (Does.refl _ s) (Foot.le_refl _) _ _).rd hn _ _
@[simp] theorem State.reg_strChanged (c : Nat) (mark : Bool) (hn : Foot.strChanged.hasR ra = false) : (State.strChanged s c mark).reg ra i0 j0 = s.reg ra i0 j0 :=
  (Does.strChanged (Does.refl _ s) (Foot.le_refl _) _ _).reg hn _ _
@[simp] theorem State.v_strChanged (c : Nat) (mark : Bool) (hn : Foot.strChanged.hasV va = false) : (State.strChanged s c mark).v va i0 j0 = s.v va i0 j0 :=
  (Does.strChanged (Does.refl _ s) (Foot.le_refl _) _ _).v hn _ _
@[simp] theorem State.part_strChanged (c : Nat) (mark : Bool) (hn : Foot.strChanged.hasP pa = false) : (State.strChanged s c mark).part pa = s.part pa :=
  (Does.strChanged (Does.refl _ s) (Foot.le_refl _) _ _).parts pa hn
@[simp] theorem State.rd_strItems (hn : Foot.strItems.hasR fl.r = false) : (State.strItems s).rd fl i0 j0 = s.rd fl i0 j0 :=
  (Does.strItems (Does.refl _ s) (Foot.le_refl _)).rd hn _ _
@[simp] theorem State.reg_strItems (hn : Foot.strItems.hasR ra = false) : (State.strItems s).reg ra i0 j0 = s.reg ra i0 j0 :=
  (Does.strItems (Does.refl _ s) (Foot.le_refl _)).reg hn _ _
@[simp] theorem State.v_strItems (hn : Foot.strItems.hasV va = false) : (State.strItems s).v va i0 j0 = s.v va i0 j0 :=
  (Does.strItems (Does.refl _ s) (Foot.le_refl _)).v hn _ _
@[simp] theorem State.part_strItems (hn : Foot.strItems.hasP pa = false) : (State.strItems s).part pa = s.part pa :=
  (Does.strItems (Does.refl _ s) (Foot.le_refl _)).parts pa hn
@[simp] theorem State.rd_activeShow (hn : Foot.activeShow.hasR fl.r = false) : (State.activeShow s).rd fl i0 j0 = s.rd fl i0 j0 :=
  (Does.activeShow (Does.refl _ s) (Foot.le_refl _)).rd hn _ _
@[simp] theorem State.reg_activeShow (hn : Foot.activeShow.hasR ra = false) : (State.activeShow s).reg ra i0 j0 = s.reg ra i0 j0 :=
  (Does.activeShow (Does.refl _ s) (Foot.le_refl _)).reg hn _ _
@[simp] theorem State.v_activeShow (hn : Foot.activeShow.hasV va = false) : (State.activeShow s).v va i0 j0 = s.v va i0 j0 :=
  (Does.activeShow (Does.refl _ s) (Foot.le_refl _)).v hn _ _
@[simp] theorem State.part_activeShow (hn : Foot.activeShow.hasP pa = false) : (State.activeShow s).part pa = s.part pa :=
  (Does.activeShow (Does.refl _ s) (Foot.le_refl _)).parts pa hn
@[simp] theorem State.rd_trainNext (c : Nat) (a : Nat) (b : Nat) (hn : Foot.trainNext.hasR fl.r = false) : (State.trainNext s c a b).rd fl i0 j0 = s.rd fl i0 j0 :=
  (Does.trainNext (Does.refl _ s) (Foot.le_refl _) _ _ _).rd hn _ _
@[simp] theorem State.reg_trainNext (c : Nat) (a : Nat) (b : Nat) (hn : Foot.trainNext.hasR ra = false) : (State.trainNext s c a b).reg ra i0 j0 = s.reg ra i0 j0 :=
  (Does.trainNext (Does.refl _ s) (Foot.le_refl _) _ _ _).reg hn _ _
@[simp] theorem State.v_trainNext (c : Nat) (a : Nat) (b : Nat) (hn : Foot.trainNext.hasV va = false) : (State.trainNext s c a b).v va i0 j0 = s.v va i0 j0 :=
  (Does.trainNext (Does.refl _ s) (Foot.le_refl _) _ _ _).v hn _ _
@[simp] theorem State.part_trainNext (c : Nat) (a : Nat) (b : Nat) (hn : Foot.trainNext.hasP pa = false) : (State.trainNext s c a b).part pa = s.part pa :=
  (Does.trainNext (Does.refl _ s) (Foot.le_refl _) _ _ _).parts pa hn
@[simp] theorem State.rd_closeVisit (c : Nat) (τ : Nat) (b : Option Nat) (hn : Foot.closeVisit.hasR fl.r = false) : (State.closeVisit s c τ b).rd fl i0 j0 = s.rd fl i0 j0 :=
  (Does.closeVisit (Does.refl _ s) (Foot.le_refl _) _ _ _).rd hn _ _
@[simp] theorem State.reg_closeVisit (c : Nat) (τ : Nat) (b : Option Nat) (hn : Foot.closeVisit.hasR ra = false) : (State.closeVisit s c τ b).reg ra i0 j0 = s.reg ra i0 j0 :=
  (Does.closeVisit (Does.refl _ s) (Foot.le_refl _) _ _ _).reg hn _ _
@[simp] theorem State.v_closeVisit (c : Nat) (τ : Nat) (b : Option Nat) (hn : Foot.closeVisit.hasV va = false) : (State.closeVisit s c τ b).v va i0 j0 = s.v va i0 j0 :=
  (Does.closeVisit (Does.refl _ s) (Foot.le_refl _) _ _ _).v hn _ _
@[simp] theorem State.part_closeVisit (c : Nat) (τ : Nat) (b : Option Nat) (hn : Foot.closeVisit.hasP pa = false) : (State.closeVisit s c τ b).part pa = s.part pa :=
  (Does.closeVisit (Does.refl _ s) (Foot.le_refl _) _ _ _).parts pa hn
@[simp] theorem State.rd_markApply (c : Nat) (enter : Option Nat) (τ : Nat) (hn : Foot.markApply.hasR fl.r = false) : (State.markApply s c enter τ).rd fl i0 j0 = s.rd fl i0 j0 :=
  (Does.markApply (Does.refl _ s) (Foot.le_refl _) _ _ _).rd hn _ _
@[simp] theorem State.reg_markApply (c : Nat) (enter : Option Nat) (τ : Nat) (hn : Foot.markApply.hasR ra = false) : (State.markApply s c enter τ).reg ra i0 j0 = s.reg ra i0 j0 :=
  (Does.markApply (Does.refl _ s) (Foot.le_refl _) _ _ _).reg hn _ _
@[simp] theorem State.v_markApply (c : Nat) (enter : Option Nat) (τ : Nat) (hn : Foot.markApply.hasV va = false) : (State.markApply s c enter τ).v va i0 j0 = s.v va i0 j0 :=
  (Does.markApply (Does.refl _ s) (Foot.le_refl _) _ _ _).v hn _ _
@[simp] theorem State.part_markApply (c : Nat) (enter : Option Nat) (τ : Nat) (hn : Foot.markApply.hasP pa = false) : (State.markApply s c enter τ).part pa = s.part pa :=
  (Does.markApply (Does.refl _ s) (Foot.le_refl _) _ _ _).parts pa hn
@[simp] theorem State.rd_tagMark (c : Nat) (enter : Option Nat) (τ : Nat) (hn : Foot.tagMark.hasR fl.r = false) : (State.tagMark s c enter τ).rd fl i0 j0 = s.rd fl i0 j0 :=
  (Does.tagMark (Does.refl _ s) (Foot.le_refl _) _ _ _).rd hn _ _
@[simp] theorem State.reg_tagMark (c : Nat) (enter : Option Nat) (τ : Nat) (hn : Foot.tagMark.hasR ra = false) : (State.tagMark s c enter τ).reg ra i0 j0 = s.reg ra i0 j0 :=
  (Does.tagMark (Does.refl _ s) (Foot.le_refl _) _ _ _).reg hn _ _
@[simp] theorem State.v_tagMark (c : Nat) (enter : Option Nat) (τ : Nat) (hn : Foot.tagMark.hasV va = false) : (State.tagMark s c enter τ).v va i0 j0 = s.v va i0 j0 :=
  (Does.tagMark (Does.refl _ s) (Foot.le_refl _) _ _ _).v hn _ _
@[simp] theorem State.part_tagMark (c : Nat) (enter : Option Nat) (τ : Nat) (hn : Foot.tagMark.hasP pa = false) : (State.tagMark s c enter τ).part pa = s.part pa :=
  (Does.tagMark (Does.refl _ s) (Foot.le_refl _) _ _ _).parts pa hn
@[simp] theorem State.rd_portMark (p : Port) (c : Nat) (enter : Option Nat) (hn : Foot.portMark.hasR fl.r = false) : (State.portMark s p c enter).rd fl i0 j0 = s.rd fl i0 j0 :=
  (Does.portMark (Does.refl _ s) (Foot.le_refl _) _ _ _).rd hn _ _
@[simp] theorem State.reg_portMark (p : Port) (c : Nat) (enter : Option Nat) (hn : Foot.portMark.hasR ra = false) : (State.portMark s p c enter).reg ra i0 j0 = s.reg ra i0 j0 :=
  (Does.portMark (Does.refl _ s) (Foot.le_refl _) _ _ _).reg hn _ _
@[simp] theorem State.v_portMark (p : Port) (c : Nat) (enter : Option Nat) (hn : Foot.portMark.hasV va = false) : (State.portMark s p c enter).v va i0 j0 = s.v va i0 j0 :=
  (Does.portMark (Does.refl _ s) (Foot.le_refl _) _ _ _).v hn _ _
@[simp] theorem State.part_portMark (p : Port) (c : Nat) (enter : Option Nat) (hn : Foot.portMark.hasP pa = false) : (State.portMark s p c enter).part pa = s.part pa :=
  (Does.portMark (Does.refl _ s) (Foot.le_refl _) _ _ _).parts pa hn
@[simp] theorem State.rd_entryClear (c : Nat) (p : Nat) (hn : Foot.entryClear.hasR fl.r = false) : (State.entryClear s c p).rd fl i0 j0 = s.rd fl i0 j0 :=
  (Does.entryClear (Does.refl _ s) (Foot.le_refl _) _ _).rd hn _ _
@[simp] theorem State.reg_entryClear (c : Nat) (p : Nat) (hn : Foot.entryClear.hasR ra = false) : (State.entryClear s c p).reg ra i0 j0 = s.reg ra i0 j0 :=
  (Does.entryClear (Does.refl _ s) (Foot.le_refl _) _ _).reg hn _ _
@[simp] theorem State.v_entryClear (c : Nat) (p : Nat) (hn : Foot.entryClear.hasV va = false) : (State.entryClear s c p).v va i0 j0 = s.v va i0 j0 :=
  (Does.entryClear (Does.refl _ s) (Foot.le_refl _) _ _).v hn _ _
@[simp] theorem State.part_entryClear (c : Nat) (p : Nat) (hn : Foot.entryClear.hasP pa = false) : (State.entryClear s c p).part pa = s.part pa :=
  (Does.entryClear (Does.refl _ s) (Foot.le_refl _) _ _).parts pa hn
@[simp] theorem State.rd_strWiped (c : Nat) (p : Nat) (hn : Foot.strWiped.hasR fl.r = false) : (State.strWiped s c p).rd fl i0 j0 = s.rd fl i0 j0 :=
  (Does.strWiped (Does.refl _ s) (Foot.le_refl _) _ _).rd hn _ _
@[simp] theorem State.reg_strWiped (c : Nat) (p : Nat) (hn : Foot.strWiped.hasR ra = false) : (State.strWiped s c p).reg ra i0 j0 = s.reg ra i0 j0 :=
  (Does.strWiped (Does.refl _ s) (Foot.le_refl _) _ _).reg hn _ _
@[simp] theorem State.v_strWiped (c : Nat) (p : Nat) (hn : Foot.strWiped.hasV va = false) : (State.strWiped s c p).v va i0 j0 = s.v va i0 j0 :=
  (Does.strWiped (Does.refl _ s) (Foot.le_refl _) _ _).v hn _ _
@[simp] theorem State.part_strWiped (c : Nat) (p : Nat) (hn : Foot.strWiped.hasP pa = false) : (State.strWiped s c p).part pa = s.part pa :=
  (Does.strWiped (Does.refl _ s) (Foot.le_refl _) _ _).parts pa hn
@[simp] theorem State.rd_entryInv (c : Nat) (p : Nat) (hn : Foot.entryInv.hasR fl.r = false) : (State.entryInv s c p).rd fl i0 j0 = s.rd fl i0 j0 :=
  (Does.entryInv (Does.refl _ s) (Foot.le_refl _) _ _).rd hn _ _
@[simp] theorem State.reg_entryInv (c : Nat) (p : Nat) (hn : Foot.entryInv.hasR ra = false) : (State.entryInv s c p).reg ra i0 j0 = s.reg ra i0 j0 :=
  (Does.entryInv (Does.refl _ s) (Foot.le_refl _) _ _).reg hn _ _
@[simp] theorem State.v_entryInv (c : Nat) (p : Nat) (hn : Foot.entryInv.hasV va = false) : (State.entryInv s c p).v va i0 j0 = s.v va i0 j0 :=
  (Does.entryInv (Does.refl _ s) (Foot.le_refl _) _ _).v hn _ _
@[simp] theorem State.part_entryInv (c : Nat) (p : Nat) (hn : Foot.entryInv.hasP pa = false) : (State.entryInv s c p).part pa = s.part pa :=
  (Does.entryInv (Does.refl _ s) (Foot.le_refl _) _ _).parts pa hn
@[simp] theorem State.rd_slotClear (c : Nat) (hn : Foot.slotClear.hasR fl.r = false) : (State.slotClear s c).rd fl i0 j0 = s.rd fl i0 j0 :=
  (Does.slotClear (Does.refl _ s) (Foot.le_refl _) _).rd hn _ _
@[simp] theorem State.reg_slotClear (c : Nat) (hn : Foot.slotClear.hasR ra = false) : (State.slotClear s c).reg ra i0 j0 = s.reg ra i0 j0 :=
  (Does.slotClear (Does.refl _ s) (Foot.le_refl _) _).reg hn _ _
@[simp] theorem State.v_slotClear (c : Nat) (hn : Foot.slotClear.hasV va = false) : (State.slotClear s c).v va i0 j0 = s.v va i0 j0 :=
  (Does.slotClear (Does.refl _ s) (Foot.le_refl _) _).v hn _ _
@[simp] theorem State.part_slotClear (c : Nat) (hn : Foot.slotClear.hasP pa = false) : (State.slotClear s c).part pa = s.part pa :=
  (Does.slotClear (Does.refl _ s) (Foot.le_refl _) _).parts pa hn
@[simp] theorem State.rd_strBegin (c : Nat) (hn : Foot.strBegin.hasR fl.r = false) : (State.strBegin s c).rd fl i0 j0 = s.rd fl i0 j0 :=
  (Does.strBegin (Does.refl _ s) (Foot.le_refl _) _).rd hn _ _
@[simp] theorem State.reg_strBegin (c : Nat) (hn : Foot.strBegin.hasR ra = false) : (State.strBegin s c).reg ra i0 j0 = s.reg ra i0 j0 :=
  (Does.strBegin (Does.refl _ s) (Foot.le_refl _) _).reg hn _ _
@[simp] theorem State.v_strBegin (c : Nat) (hn : Foot.strBegin.hasV va = false) : (State.strBegin s c).v va i0 j0 = s.v va i0 j0 :=
  (Does.strBegin (Does.refl _ s) (Foot.le_refl _) _).v hn _ _
@[simp] theorem State.part_strBegin (c : Nat) (hn : Foot.strBegin.hasP pa = false) : (State.strBegin s c).part pa = s.part pa :=
  (Does.strBegin (Does.refl _ s) (Foot.le_refl _) _).parts pa hn
@[simp] theorem State.rd_strCmd (cmd : Nat) (c : Nat) (p : Nat) (hn : Foot.strCmd.hasR fl.r = false) : (State.strCmd s cmd c p).2.rd fl i0 j0 = s.rd fl i0 j0 :=
  (Does.strCmd (Does.refl _ s) (Foot.le_refl _) _ _ _).rd hn _ _
@[simp] theorem State.reg_strCmd (cmd : Nat) (c : Nat) (p : Nat) (hn : Foot.strCmd.hasR ra = false) : (State.strCmd s cmd c p).2.reg ra i0 j0 = s.reg ra i0 j0 :=
  (Does.strCmd (Does.refl _ s) (Foot.le_refl _) _ _ _).reg hn _ _
@[simp] theorem State.v_strCmd (cmd : Nat) (c : Nat) (p : Nat) (hn : Foot.strCmd.hasV va = false) : (State.strCmd s cmd c p).2.v va i0 j0 = s.v va i0 j0 :=
  (Does.strCmd (Does.refl _ s) (Foot.le_refl _) _ _ _).v hn _ _
@[simp] theorem State.part_strCmd (cmd : Nat) (c : Nat) (p : Nat) (hn : Foot.strCmd.hasP pa = false) : (State.strCmd s cmd c p).2.part pa = s.part pa :=
  (Does.strCmd (Does.refl _ s) (Foot.le_refl _) _ _ _).parts pa hn
@[simp] theorem State.rd_strSwitch (c : Nat) (hn : Foot.strSwitch.hasR fl.r = false) : (State.strSwitch s c).rd fl i0 j0 = s.rd fl i0 j0 :=
  (Does.strSwitch (Does.refl _ s) (Foot.le_refl _) _).rd hn _ _
@[simp] theorem State.reg_strSwitch (c : Nat) (hn : Foot.strSwitch.hasR ra = false) : (State.strSwitch s c).reg ra i0 j0 = s.reg ra i0 j0 :=
  (Does.strSwitch (Does.refl _ s) (Foot.le_refl _) _).reg hn _ _
@[simp] theorem State.v_strSwitch (c : Nat) (hn : Foot.strSwitch.hasV va = false) : (State.strSwitch s c).v va i0 j0 = s.v va i0 j0 :=
  (Does.strSwitch (Does.refl _ s) (Foot.le_refl _) _).v hn _ _
@[simp] theorem State.part_strSwitch (c : Nat) (hn : Foot.strSwitch.hasP pa = false) : (State.strSwitch s c).part pa = s.part pa :=
  (Does.strSwitch (Does.refl _ s) (Foot.le_refl _) _).parts pa hn
@[simp] theorem State.rd_heldMarks (c : Nat) (hn : Foot.heldMarks.hasR fl.r = false) : (State.heldMarks s c).rd fl i0 j0 = s.rd fl i0 j0 :=
  (Does.heldMarks (Does.refl _ s) (Foot.le_refl _) _).rd hn _ _
@[simp] theorem State.reg_heldMarks (c : Nat) (hn : Foot.heldMarks.hasR ra = false) : (State.heldMarks s c).reg ra i0 j0 = s.reg ra i0 j0 :=
  (Does.heldMarks (Does.refl _ s) (Foot.le_refl _) _).reg hn _ _
@[simp] theorem State.v_heldMarks (c : Nat) (hn : Foot.heldMarks.hasV va = false) : (State.heldMarks s c).v va i0 j0 = s.v va i0 j0 :=
  (Does.heldMarks (Does.refl _ s) (Foot.le_refl _) _).v hn _ _
@[simp] theorem State.part_heldMarks (c : Nat) (hn : Foot.heldMarks.hasP pa = false) : (State.heldMarks s c).part pa = s.part pa :=
  (Does.heldMarks (Does.refl _ s) (Foot.le_refl _) _).parts pa hn
@[simp] theorem State.rd_smpWatch (j : Nat) (hn : Foot.smpWatch.hasR fl.r = false) : (State.smpWatch s j).rd fl i0 j0 = s.rd fl i0 j0 :=
  (Does.smpWatch (Does.refl _ s) (Foot.le_refl _) _).rd hn _ _
@[simp] theorem State.reg_smpWatch (j : Nat) (hn : Foot.smpWatch.hasR ra = false) : (State.smpWatch s j).reg ra i0 j0 = s.reg ra i0 j0 :=
  (Does.smpWatch (Does.refl _ s) (Foot.le_refl _) _).reg hn _ _
@[simp] theorem State.v_smpWatch (j : Nat) (hn : Foot.smpWatch.hasV va = false) : (State.smpWatch s j).v va i0 j0 = s.v va i0 j0 :=
  (Does.smpWatch (Does.refl _ s) (Foot.le_refl _) _).v hn _ _
@[simp] theorem State.part_smpWatch (j : Nat) (hn : Foot.smpWatch.hasP pa = false) : (State.smpWatch s j).part pa = s.part pa :=
  (Does.smpWatch (Does.refl _ s) (Foot.le_refl _) _).parts pa hn
@[simp] theorem State.rd_smpLearn (c : Nat) (p : Nat) (free : Bool) (pw : Nat) (rt : Nat) (hn : Foot.smpLearn.hasR fl.r = false) : (State.smpLearn s c p free pw rt).rd fl i0 j0 = s.rd fl i0 j0 :=
  (Does.smpLearn (Does.refl _ s) (Foot.le_refl _) _ _ _ _ _).rd hn _ _
@[simp] theorem State.reg_smpLearn (c : Nat) (p : Nat) (free : Bool) (pw : Nat) (rt : Nat) (hn : Foot.smpLearn.hasR ra = false) : (State.smpLearn s c p free pw rt).reg ra i0 j0 = s.reg ra i0 j0 :=
  (Does.smpLearn (Does.refl _ s) (Foot.le_refl _) _ _ _ _ _).reg hn _ _
@[simp] theorem State.v_smpLearn (c : Nat) (p : Nat) (free : Bool) (pw : Nat) (rt : Nat) (hn : Foot.smpLearn.hasV va = false) : (State.smpLearn s c p free pw rt).v va i0 j0 = s.v va i0 j0 :=
  (Does.smpLearn (Does.refl _ s) (Foot.le_refl _) _ _ _ _ _).v hn _ _
@[simp] theorem State.part_smpLearn (c : Nat) (p : Nat) (free : Bool) (pw : Nat) (rt : Nat) (hn : Foot.smpLearn.hasP pa = false) : (State.smpLearn s c p free pw rt).part pa = s.part pa :=
  (Does.smpLearn (Does.refl _ s) (Foot.le_refl _) _ _ _ _ _).parts pa hn
@[simp] theorem State.rd_strSample (k : Nat) (c : Nat) (cyc : Nat) (hn : Foot.strSample.hasR fl.r = false) : (State.strSample s k c cyc).rd fl i0 j0 = s.rd fl i0 j0 :=
  (Does.strSample (Does.refl _ s) (Foot.le_refl _) _ _ _).rd hn _ _
@[simp] theorem State.reg_strSample (k : Nat) (c : Nat) (cyc : Nat) (hn : Foot.strSample.hasR ra = false) : (State.strSample s k c cyc).reg ra i0 j0 = s.reg ra i0 j0 :=
  (Does.strSample (Does.refl _ s) (Foot.le_refl _) _ _ _).reg hn _ _
@[simp] theorem State.v_strSample (k : Nat) (c : Nat) (cyc : Nat) (hn : Foot.strSample.hasV va = false) : (State.strSample s k c cyc).v va i0 j0 = s.v va i0 j0 :=
  (Does.strSample (Does.refl _ s) (Foot.le_refl _) _ _ _).v hn _ _
@[simp] theorem State.part_strSample (k : Nat) (c : Nat) (cyc : Nat) (hn : Foot.strSample.hasP pa = false) : (State.strSample s k c cyc).part pa = s.part pa :=
  (Does.strSample (Does.refl _ s) (Foot.le_refl _) _ _ _).parts pa hn
@[simp] theorem State.rd_seedEntry (x : Nat) (v : List Byte) (hn : Foot.seedEntry.hasR fl.r = false) : (State.seedEntry s x v).rd fl i0 j0 = s.rd fl i0 j0 :=
  (Does.seedEntry (Does.refl _ s) (Foot.le_refl _) _ _).rd hn _ _
@[simp] theorem State.reg_seedEntry (x : Nat) (v : List Byte) (hn : Foot.seedEntry.hasR ra = false) : (State.seedEntry s x v).reg ra i0 j0 = s.reg ra i0 j0 :=
  (Does.seedEntry (Does.refl _ s) (Foot.le_refl _) _ _).reg hn _ _
@[simp] theorem State.v_seedEntry (x : Nat) (v : List Byte) (hn : Foot.seedEntry.hasV va = false) : (State.seedEntry s x v).v va i0 j0 = s.v va i0 j0 :=
  (Does.seedEntry (Does.refl _ s) (Foot.le_refl _) _ _).v hn _ _
@[simp] theorem State.part_seedEntry (x : Nat) (v : List Byte) (hn : Foot.seedEntry.hasP pa = false) : (State.seedEntry s x v).part pa = s.part pa :=
  (Does.seedEntry (Does.refl _ s) (Foot.le_refl _) _ _).parts pa hn
@[simp] theorem State.rd_seedAll (l : List Item) (hn : Foot.seedAll.hasR fl.r = false) : (State.seedAll s l).rd fl i0 j0 = s.rd fl i0 j0 :=
  (Does.seedAll (Does.refl _ s) (Foot.le_refl _) _).rd hn _ _
@[simp] theorem State.reg_seedAll (l : List Item) (hn : Foot.seedAll.hasR ra = false) : (State.seedAll s l).reg ra i0 j0 = s.reg ra i0 j0 :=
  (Does.seedAll (Does.refl _ s) (Foot.le_refl _) _).reg hn _ _
@[simp] theorem State.v_seedAll (l : List Item) (hn : Foot.seedAll.hasV va = false) : (State.seedAll s l).v va i0 j0 = s.v va i0 j0 :=
  (Does.seedAll (Does.refl _ s) (Foot.le_refl _) _).v hn _ _
@[simp] theorem State.part_seedAll (l : List Item) (hn : Foot.seedAll.hasP pa = false) : (State.seedAll s l).part pa = s.part pa :=
  (Does.seedAll (Does.refl _ s) (Foot.le_refl _) _).parts pa hn
@[simp] theorem State.rd_strAccept (hn : Foot.strAccept.hasR fl.r = false) : (State.strAccept s).rd fl i0 j0 = s.rd fl i0 j0 :=
  (Does.strAccept (Does.refl _ s) (Foot.le_refl _)).rd hn _ _
@[simp] theorem State.reg_strAccept (hn : Foot.strAccept.hasR ra = false) : (State.strAccept s).reg ra i0 j0 = s.reg ra i0 j0 :=
  (Does.strAccept (Does.refl _ s) (Foot.le_refl _)).reg hn _ _
@[simp] theorem State.v_strAccept (hn : Foot.strAccept.hasV va = false) : (State.strAccept s).v va i0 j0 = s.v va i0 j0 :=
  (Does.strAccept (Does.refl _ s) (Foot.le_refl _)).v hn _ _
@[simp] theorem State.part_strAccept (hn : Foot.strAccept.hasP pa = false) : (State.strAccept s).part pa = s.part pa :=
  (Does.strAccept (Does.refl _ s) (Foot.le_refl _)).parts pa hn
@[simp] theorem State.rd_upChanged (d : Nat) (hn : Foot.upChanged.hasR fl.r = false) : (State.upChanged s d).rd fl i0 j0 = s.rd fl i0 j0 :=
  (Does.upChanged (Does.refl _ s) (Foot.le_refl _) _).rd hn _ _
@[simp] theorem State.reg_upChanged (d : Nat) (hn : Foot.upChanged.hasR ra = false) : (State.upChanged s d).reg ra i0 j0 = s.reg ra i0 j0 :=
  (Does.upChanged (Does.refl _ s) (Foot.le_refl _) _).reg hn _ _
@[simp] theorem State.v_upChanged (d : Nat) (hn : Foot.upChanged.hasV va = false) : (State.upChanged s d).v va i0 j0 = s.v va i0 j0 :=
  (Does.upChanged (Does.refl _ s) (Foot.le_refl _) _).v hn _ _
@[simp] theorem State.part_upChanged (d : Nat) (hn : Foot.upChanged.hasP pa = false) : (State.upChanged s d).part pa = s.part pa :=
  (Does.upChanged (Does.refl _ s) (Foot.le_refl _) _).parts pa hn
@[simp] theorem State.rd_fenceStart (e : ChEnd) (scope : Nat) (hn : Foot.fenceStart.hasR fl.r = false) : (State.fenceStart s e scope).2.rd fl i0 j0 = s.rd fl i0 j0 :=
  (Does.fenceStart (Does.refl _ s) (Foot.le_refl _) _ _).rd hn _ _
@[simp] theorem State.reg_fenceStart (e : ChEnd) (scope : Nat) (hn : Foot.fenceStart.hasR ra = false) : (State.fenceStart s e scope).2.reg ra i0 j0 = s.reg ra i0 j0 :=
  (Does.fenceStart (Does.refl _ s) (Foot.le_refl _) _ _).reg hn _ _
@[simp] theorem State.v_fenceStart (e : ChEnd) (scope : Nat) (hn : Foot.fenceStart.hasV va = false) : (State.fenceStart s e scope).2.v va i0 j0 = s.v va i0 j0 :=
  (Does.fenceStart (Does.refl _ s) (Foot.le_refl _) _ _).v hn _ _
@[simp] theorem State.part_fenceStart (e : ChEnd) (scope : Nat) (hn : Foot.fenceStart.hasP pa = false) : (State.fenceStart s e scope).2.part pa = s.part pa :=
  (Does.fenceStart (Does.refl _ s) (Foot.le_refl _) _ _).parts pa hn
@[simp] theorem State.rd_islandDrop (d : Nat) (supply : Bool) (hn : Foot.islandDrop.hasR fl.r = false) : (State.islandDrop s d supply).rd fl i0 j0 = s.rd fl i0 j0 :=
  (Does.islandDrop (Does.refl _ s) (Foot.le_refl _) _ _).rd hn _ _
@[simp] theorem State.reg_islandDrop (d : Nat) (supply : Bool) (hn : Foot.islandDrop.hasR ra = false) : (State.islandDrop s d supply).reg ra i0 j0 = s.reg ra i0 j0 :=
  (Does.islandDrop (Does.refl _ s) (Foot.le_refl _) _ _).reg hn _ _
@[simp] theorem State.v_islandDrop (d : Nat) (supply : Bool) (hn : Foot.islandDrop.hasV va = false) : (State.islandDrop s d supply).v va i0 j0 = s.v va i0 j0 :=
  (Does.islandDrop (Does.refl _ s) (Foot.le_refl _) _ _).v hn _ _
@[simp] theorem State.part_islandDrop (d : Nat) (supply : Bool) (hn : Foot.islandDrop.hasP pa = false) : (State.islandDrop s d supply).part pa = s.part pa :=
  (Does.islandDrop (Does.refl _ s) (Foot.le_refl _) _ _).parts pa hn
@[simp] theorem State.rd_islandClear (d : Nat) (supply : Bool) (hn : Foot.islandClear.hasR fl.r = false) : (State.islandClear s d supply).rd fl i0 j0 = s.rd fl i0 j0 :=
  (Does.islandClear (Does.refl _ s) (Foot.le_refl _) _ _).rd hn _ _
@[simp] theorem State.reg_islandClear (d : Nat) (supply : Bool) (hn : Foot.islandClear.hasR ra = false) : (State.islandClear s d supply).reg ra i0 j0 = s.reg ra i0 j0 :=
  (Does.islandClear (Does.refl _ s) (Foot.le_refl _) _ _).reg hn _ _
@[simp] theorem State.v_islandClear (d : Nat) (supply : Bool) (hn : Foot.islandClear.hasV va = false) : (State.islandClear s d supply).v va i0 j0 = s.v va i0 j0 :=
  (Does.islandClear (Does.refl _ s) (Foot.le_refl _) _ _).v hn _ _
@[simp] theorem State.part_islandClear (d : Nat) (supply : Bool) (hn : Foot.islandClear.hasP pa = false) : (State.islandClear s d supply).part pa = s.part pa :=
  (Does.islandClear (Does.refl _ s) (Foot.le_refl _) _ _).parts pa hn
@[simp] theorem State.rd_rstSync (hn : Foot.rstSync.hasR fl.r = false) : (State.rstSync s).rd fl i0 j0 = s.rd fl i0 j0 :=
  (Does.rstSync (Does.refl _ s) (Foot.le_refl _)).rd hn _ _
@[simp] theorem State.reg_rstSync (hn : Foot.rstSync.hasR ra = false) : (State.rstSync s).reg ra i0 j0 = s.reg ra i0 j0 :=
  (Does.rstSync (Does.refl _ s) (Foot.le_refl _)).reg hn _ _
@[simp] theorem State.v_rstSync (hn : Foot.rstSync.hasV va = false) : (State.rstSync s).v va i0 j0 = s.v va i0 j0 :=
  (Does.rstSync (Does.refl _ s) (Foot.le_refl _)).v hn _ _
@[simp] theorem State.part_rstSync (hn : Foot.rstSync.hasP pa = false) : (State.rstSync s).part pa = s.part pa :=
  (Does.rstSync (Does.refl _ s) (Foot.le_refl _)).parts pa hn
@[simp] theorem State.rd_railFrame (r : Nat) (kind : Nat) (hn : Foot.railFrame.hasR fl.r = false) : (State.railFrame s r kind).rd fl i0 j0 = s.rd fl i0 j0 :=
  (Does.railFrame (Does.refl _ s) (Foot.le_refl _) _ _).rd hn _ _
@[simp] theorem State.reg_railFrame (r : Nat) (kind : Nat) (hn : Foot.railFrame.hasR ra = false) : (State.railFrame s r kind).reg ra i0 j0 = s.reg ra i0 j0 :=
  (Does.railFrame (Does.refl _ s) (Foot.le_refl _) _ _).reg hn _ _
@[simp] theorem State.v_railFrame (r : Nat) (kind : Nat) (hn : Foot.railFrame.hasV va = false) : (State.railFrame s r kind).v va i0 j0 = s.v va i0 j0 :=
  (Does.railFrame (Does.refl _ s) (Foot.le_refl _) _ _).v hn _ _
@[simp] theorem State.part_railFrame (r : Nat) (kind : Nat) (hn : Foot.railFrame.hasP pa = false) : (State.railFrame s r kind).part pa = s.part pa :=
  (Does.railFrame (Does.refl _ s) (Foot.le_refl _) _ _).parts pa hn
@[simp] theorem State.rd_phShow (r : Nat) (hn : Foot.phShow.hasR fl.r = false) : (State.phShow s r).rd fl i0 j0 = s.rd fl i0 j0 :=
  (Does.phShow (Does.refl _ s) (Foot.le_refl _) _).rd hn _ _
@[simp] theorem State.reg_phShow (r : Nat) (hn : Foot.phShow.hasR ra = false) : (State.phShow s r).reg ra i0 j0 = s.reg ra i0 j0 :=
  (Does.phShow (Does.refl _ s) (Foot.le_refl _) _).reg hn _ _
@[simp] theorem State.v_phShow (r : Nat) (hn : Foot.phShow.hasV va = false) : (State.phShow s r).v va i0 j0 = s.v va i0 j0 :=
  (Does.phShow (Does.refl _ s) (Foot.le_refl _) _).v hn _ _
@[simp] theorem State.part_phShow (r : Nat) (hn : Foot.phShow.hasP pa = false) : (State.phShow s r).part pa = s.part pa :=
  (Does.phShow (Does.refl _ s) (Foot.le_refl _) _).parts pa hn
@[simp] theorem State.rd_phScale (r : Nat) (old : Nat) (hn : Foot.phScale.hasR fl.r = false) : (State.phScale s r old).rd fl i0 j0 = s.rd fl i0 j0 :=
  (Does.phScale (Does.refl _ s) (Foot.le_refl _) _ _).rd hn _ _
@[simp] theorem State.reg_phScale (r : Nat) (old : Nat) (hn : Foot.phScale.hasR ra = false) : (State.phScale s r old).reg ra i0 j0 = s.reg ra i0 j0 :=
  (Does.phScale (Does.refl _ s) (Foot.le_refl _) _ _).reg hn _ _
@[simp] theorem State.v_phScale (r : Nat) (old : Nat) (hn : Foot.phScale.hasV va = false) : (State.phScale s r old).v va i0 j0 = s.v va i0 j0 :=
  (Does.phScale (Does.refl _ s) (Foot.le_refl _) _ _).v hn _ _
@[simp] theorem State.part_phScale (r : Nat) (old : Nat) (hn : Foot.phScale.hasP pa = false) : (State.phScale s r old).part pa = s.part pa :=
  (Does.phScale (Does.refl _ s) (Foot.le_refl _) _ _).parts pa hn
@[simp] theorem State.rd_phOut (p : Nat) (st : Nat) (off : Nat) (hn : Foot.phOut.hasR fl.r = false) : (State.phOut s p st off).rd fl i0 j0 = s.rd fl i0 j0 :=
  (Does.phOut (Does.refl _ s) (Foot.le_refl _) _ _ _).rd hn _ _
@[simp] theorem State.reg_phOut (p : Nat) (st : Nat) (off : Nat) (hn : Foot.phOut.hasR ra = false) : (State.phOut s p st off).reg ra i0 j0 = s.reg ra i0 j0 :=
  (Does.phOut (Does.refl _ s) (Foot.le_refl _) _ _ _).reg hn _ _
@[simp] theorem State.v_phOut (p : Nat) (st : Nat) (off : Nat) (hn : Foot.phOut.hasV va = false) : (State.phOut s p st off).v va i0 j0 = s.v va i0 j0 :=
  (Does.phOut (Does.refl _ s) (Foot.le_refl _) _ _ _).v hn _ _
@[simp] theorem State.part_phOut (p : Nat) (st : Nat) (off : Nat) (hn : Foot.phOut.hasP pa = false) : (State.phOut s p st off).part pa = s.part pa :=
  (Does.phOut (Does.refl _ s) (Foot.le_refl _) _ _ _).parts pa hn
@[simp] theorem State.rd_phIn1 (p : Nat) (hn : Foot.phIn1.hasR fl.r = false) : (State.phIn1 s p).rd fl i0 j0 = s.rd fl i0 j0 :=
  (Does.phIn1 (Does.refl _ s) (Foot.le_refl _) _).rd hn _ _
@[simp] theorem State.reg_phIn1 (p : Nat) (hn : Foot.phIn1.hasR ra = false) : (State.phIn1 s p).reg ra i0 j0 = s.reg ra i0 j0 :=
  (Does.phIn1 (Does.refl _ s) (Foot.le_refl _) _).reg hn _ _
@[simp] theorem State.v_phIn1 (p : Nat) (hn : Foot.phIn1.hasV va = false) : (State.phIn1 s p).v va i0 j0 = s.v va i0 j0 :=
  (Does.phIn1 (Does.refl _ s) (Foot.le_refl _) _).v hn _ _
@[simp] theorem State.part_phIn1 (p : Nat) (hn : Foot.phIn1.hasP pa = false) : (State.phIn1 s p).part pa = s.part pa :=
  (Does.phIn1 (Does.refl _ s) (Foot.le_refl _) _).parts pa hn
@[simp] theorem State.rd_gridLost (hn : Foot.gridLost.hasR fl.r = false) : (State.gridLost s).rd fl i0 j0 = s.rd fl i0 j0 :=
  (Does.gridLost (Does.refl _ s) (Foot.le_refl _)).rd hn _ _
@[simp] theorem State.reg_gridLost (hn : Foot.gridLost.hasR ra = false) : (State.gridLost s).reg ra i0 j0 = s.reg ra i0 j0 :=
  (Does.gridLost (Does.refl _ s) (Foot.le_refl _)).reg hn _ _
@[simp] theorem State.v_gridLost (hn : Foot.gridLost.hasV va = false) : (State.gridLost s).v va i0 j0 = s.v va i0 j0 :=
  (Does.gridLost (Does.refl _ s) (Foot.le_refl _)).v hn _ _
@[simp] theorem State.part_gridLost (hn : Foot.gridLost.hasP pa = false) : (State.gridLost s).part pa = s.part pa :=
  (Does.gridLost (Does.refl _ s) (Foot.le_refl _)).parts pa hn
@[simp] theorem State.rd_gridCheck (r : Nat) (hn : Foot.gridCheck.hasR fl.r = false) : (State.gridCheck s r).rd fl i0 j0 = s.rd fl i0 j0 :=
  (Does.gridCheck (Does.refl _ s) (Foot.le_refl _) _).rd hn _ _
@[simp] theorem State.reg_gridCheck (r : Nat) (hn : Foot.gridCheck.hasR ra = false) : (State.gridCheck s r).reg ra i0 j0 = s.reg ra i0 j0 :=
  (Does.gridCheck (Does.refl _ s) (Foot.le_refl _) _).reg hn _ _
@[simp] theorem State.v_gridCheck (r : Nat) (hn : Foot.gridCheck.hasV va = false) : (State.gridCheck s r).v va i0 j0 = s.v va i0 j0 :=
  (Does.gridCheck (Does.refl _ s) (Foot.le_refl _) _).v hn _ _
@[simp] theorem State.part_gridCheck (r : Nat) (hn : Foot.gridCheck.hasP pa = false) : (State.gridCheck s r).part pa = s.part pa :=
  (Does.gridCheck (Does.refl _ s) (Foot.le_refl _) _).parts pa hn
@[simp] theorem State.rd_gridBack (hn : Foot.gridBack.hasR fl.r = false) : (State.gridBack s).rd fl i0 j0 = s.rd fl i0 j0 :=
  (Does.gridBack (Does.refl _ s) (Foot.le_refl _)).rd hn _ _
@[simp] theorem State.reg_gridBack (hn : Foot.gridBack.hasR ra = false) : (State.gridBack s).reg ra i0 j0 = s.reg ra i0 j0 :=
  (Does.gridBack (Does.refl _ s) (Foot.le_refl _)).reg hn _ _
@[simp] theorem State.v_gridBack (hn : Foot.gridBack.hasV va = false) : (State.gridBack s).v va i0 j0 = s.v va i0 j0 :=
  (Does.gridBack (Does.refl _ s) (Foot.le_refl _)).v hn _ _
@[simp] theorem State.part_gridBack (hn : Foot.gridBack.hasP pa = false) : (State.gridBack s).part pa = s.part pa :=
  (Does.gridBack (Does.refl _ s) (Foot.le_refl _)).parts pa hn
@[simp] theorem State.rd_loadOfs (r : Nat) (hn : Foot.loadOfs.hasR fl.r = false) : (State.loadOfs s r).rd fl i0 j0 = s.rd fl i0 j0 :=
  (Does.loadOfs (Does.refl _ s) (Foot.le_refl _) _).rd hn _ _
@[simp] theorem State.reg_loadOfs (r : Nat) (hn : Foot.loadOfs.hasR ra = false) : (State.loadOfs s r).reg ra i0 j0 = s.reg ra i0 j0 :=
  (Does.loadOfs (Does.refl _ s) (Foot.le_refl _) _).reg hn _ _
@[simp] theorem State.v_loadOfs (r : Nat) (hn : Foot.loadOfs.hasV va = false) : (State.loadOfs s r).v va i0 j0 = s.v va i0 j0 :=
  (Does.loadOfs (Does.refl _ s) (Foot.le_refl _) _).v hn _ _
@[simp] theorem State.part_loadOfs (r : Nat) (hn : Foot.loadOfs.hasP pa = false) : (State.loadOfs s r).part pa = s.part pa :=
  (Does.loadOfs (Does.refl _ s) (Foot.le_refl _) _).parts pa hn
@[simp] theorem State.rd_loadRail (key : Nat) (r : Nat) (hn : Foot.loadRail.hasR fl.r = false) : (State.loadRail s key r).rd fl i0 j0 = s.rd fl i0 j0 :=
  (Does.loadRail (Does.refl _ s) (Foot.le_refl _) _ _).rd hn _ _
@[simp] theorem State.reg_loadRail (key : Nat) (r : Nat) (hn : Foot.loadRail.hasR ra = false) : (State.loadRail s key r).reg ra i0 j0 = s.reg ra i0 j0 :=
  (Does.loadRail (Does.refl _ s) (Foot.le_refl _) _ _).reg hn _ _
@[simp] theorem State.v_loadRail (key : Nat) (r : Nat) (hn : Foot.loadRail.hasV va = false) : (State.loadRail s key r).v va i0 j0 = s.v va i0 j0 :=
  (Does.loadRail (Does.refl _ s) (Foot.le_refl _) _ _).v hn _ _
@[simp] theorem State.part_loadRail (key : Nat) (r : Nat) (hn : Foot.loadRail.hasP pa = false) : (State.loadRail s key r).part pa = s.part pa :=
  (Does.loadRail (Does.refl _ s) (Foot.le_refl _) _ _).parts pa hn
@[simp] theorem State.rd_refForm (r : Nat) (hn : Foot.refForm.hasR fl.r = false) : (State.refForm s r).rd fl i0 j0 = s.rd fl i0 j0 :=
  (Does.refForm (Does.refl _ s) (Foot.le_refl _) _).rd hn _ _
@[simp] theorem State.reg_refForm (r : Nat) (hn : Foot.refForm.hasR ra = false) : (State.refForm s r).reg ra i0 j0 = s.reg ra i0 j0 :=
  (Does.refForm (Does.refl _ s) (Foot.le_refl _) _).reg hn _ _
@[simp] theorem State.v_refForm (r : Nat) (hn : Foot.refForm.hasV va = false) : (State.refForm s r).v va i0 j0 = s.v va i0 j0 :=
  (Does.refForm (Does.refl _ s) (Foot.le_refl _) _).v hn _ _
@[simp] theorem State.part_refForm (r : Nat) (hn : Foot.refForm.hasP pa = false) : (State.refForm s r).part pa = s.part pa :=
  (Does.refForm (Does.refl _ s) (Foot.le_refl _) _).parts pa hn
@[simp] theorem State.rd_slotHold (r : Nat) (fmax : Nat) (hn : Foot.slotHold.hasR fl.r = false) : (State.slotHold s r fmax).rd fl i0 j0 = s.rd fl i0 j0 :=
  (Does.slotHold (Does.refl _ s) (Foot.le_refl _) _ _).rd hn _ _
@[simp] theorem State.reg_slotHold (r : Nat) (fmax : Nat) (hn : Foot.slotHold.hasR ra = false) : (State.slotHold s r fmax).reg ra i0 j0 = s.reg ra i0 j0 :=
  (Does.slotHold (Does.refl _ s) (Foot.le_refl _) _ _).reg hn _ _
@[simp] theorem State.v_slotHold (r : Nat) (fmax : Nat) (hn : Foot.slotHold.hasV va = false) : (State.slotHold s r fmax).v va i0 j0 = s.v va i0 j0 :=
  (Does.slotHold (Does.refl _ s) (Foot.le_refl _) _ _).v hn _ _
@[simp] theorem State.part_slotHold (r : Nat) (fmax : Nat) (hn : Foot.slotHold.hasP pa = false) : (State.slotHold s r fmax).part pa = s.part pa :=
  (Does.slotHold (Does.refl _ s) (Foot.le_refl _) _ _).parts pa hn
@[simp] theorem State.rd_targetReached (r : Nat) (hn : Foot.targetReached.hasR fl.r = false) : (State.targetReached s r).rd fl i0 j0 = s.rd fl i0 j0 :=
  (Does.targetReached (Does.refl _ s) (Foot.le_refl _) _).rd hn _ _
@[simp] theorem State.reg_targetReached (r : Nat) (hn : Foot.targetReached.hasR ra = false) : (State.targetReached s r).reg ra i0 j0 = s.reg ra i0 j0 :=
  (Does.targetReached (Does.refl _ s) (Foot.le_refl _) _).reg hn _ _
@[simp] theorem State.v_targetReached (r : Nat) (hn : Foot.targetReached.hasV va = false) : (State.targetReached s r).v va i0 j0 = s.v va i0 j0 :=
  (Does.targetReached (Does.refl _ s) (Foot.le_refl _) _).v hn _ _
@[simp] theorem State.part_targetReached (r : Nat) (hn : Foot.targetReached.hasP pa = false) : (State.targetReached s r).part pa = s.part pa :=
  (Does.targetReached (Does.refl _ s) (Foot.le_refl _) _).parts pa hn
@[simp] theorem State.rd_ddThr (d : Nat) (hn : Foot.ddThr.hasR fl.r = false) : (State.ddThr s d).rd fl i0 j0 = s.rd fl i0 j0 :=
  (Does.ddThr (Does.refl _ s) (Foot.le_refl _) _).rd hn _ _
@[simp] theorem State.reg_ddThr (d : Nat) (hn : Foot.ddThr.hasR ra = false) : (State.ddThr s d).reg ra i0 j0 = s.reg ra i0 j0 :=
  (Does.ddThr (Does.refl _ s) (Foot.le_refl _) _).reg hn _ _
@[simp] theorem State.v_ddThr (d : Nat) (hn : Foot.ddThr.hasV va = false) : (State.ddThr s d).v va i0 j0 = s.v va i0 j0 :=
  (Does.ddThr (Does.refl _ s) (Foot.le_refl _) _).v hn _ _
@[simp] theorem State.part_ddThr (d : Nat) (hn : Foot.ddThr.hasP pa = false) : (State.ddThr s d).part pa = s.part pa :=
  (Does.ddThr (Does.refl _ s) (Foot.le_refl _) _).parts pa hn
@[simp] theorem State.rd_ddRail (r : Nat) (hn : Foot.ddRail.hasR fl.r = false) : (State.ddRail s r).rd fl i0 j0 = s.rd fl i0 j0 :=
  (Does.ddRail (Does.refl _ s) (Foot.le_refl _) _).rd hn _ _
@[simp] theorem State.reg_ddRail (r : Nat) (hn : Foot.ddRail.hasR ra = false) : (State.ddRail s r).reg ra i0 j0 = s.reg ra i0 j0 :=
  (Does.ddRail (Does.refl _ s) (Foot.le_refl _) _).reg hn _ _
@[simp] theorem State.v_ddRail (r : Nat) (hn : Foot.ddRail.hasV va = false) : (State.ddRail s r).v va i0 j0 = s.v va i0 j0 :=
  (Does.ddRail (Does.refl _ s) (Foot.le_refl _) _).v hn _ _
@[simp] theorem State.part_ddRail (r : Nat) (hn : Foot.ddRail.hasP pa = false) : (State.ddRail s r).part pa = s.part pa :=
  (Does.ddRail (Does.refl _ s) (Foot.le_refl _) _).parts pa hn
@[simp] theorem State.rd_retarget (r : Nat) (hn : Foot.retarget.hasR fl.r = false) : (State.retarget s r).rd fl i0 j0 = s.rd fl i0 j0 :=
  (Does.retarget (Does.refl _ s) (Foot.le_refl _) _).rd hn _ _
@[simp] theorem State.reg_retarget (r : Nat) (hn : Foot.retarget.hasR ra = false) : (State.retarget s r).reg ra i0 j0 = s.reg ra i0 j0 :=
  (Does.retarget (Does.refl _ s) (Foot.le_refl _) _).reg hn _ _
@[simp] theorem State.v_retarget (r : Nat) (hn : Foot.retarget.hasV va = false) : (State.retarget s r).v va i0 j0 = s.v va i0 j0 :=
  (Does.retarget (Does.refl _ s) (Foot.le_refl _) _).v hn _ _
@[simp] theorem State.part_retarget (r : Nat) (hn : Foot.retarget.hasP pa = false) : (State.retarget s r).part pa = s.part pa :=
  (Does.retarget (Does.refl _ s) (Foot.le_refl _) _).parts pa hn
@[simp] theorem State.rd_selectSlot (r : Nat) (k : Nat) (hn : Foot.selectSlot.hasR fl.r = false) : (State.selectSlot s r k).rd fl i0 j0 = s.rd fl i0 j0 :=
  (Does.selectSlot (Does.refl _ s) (Foot.le_refl _) _ _).rd hn _ _
@[simp] theorem State.reg_selectSlot (r : Nat) (k : Nat) (hn : Foot.selectSlot.hasR ra = false) : (State.selectSlot s r k).reg ra i0 j0 = s.reg ra i0 j0 :=
  (Does.selectSlot (Does.refl _ s) (Foot.le_refl _) _ _).reg hn _ _
@[simp] theorem State.v_selectSlot (r : Nat) (k : Nat) (hn : Foot.selectSlot.hasV va = false) : (State.selectSlot s r k).v va i0 j0 = s.v va i0 j0 :=
  (Does.selectSlot (Does.refl _ s) (Foot.le_refl _) _ _).v hn _ _
@[simp] theorem State.part_selectSlot (r : Nat) (k : Nat) (hn : Foot.selectSlot.hasP pa = false) : (State.selectSlot s r k).part pa = s.part pa :=
  (Does.selectSlot (Does.refl _ s) (Foot.le_refl _) _ _).parts pa hn
@[simp] theorem State.rd_invNote (r : Nat) (k : Nat) (j : Nat) (hn : Foot.invNote.hasR fl.r = false) : (State.invNote s r k j).rd fl i0 j0 = s.rd fl i0 j0 :=
  (Does.invNote (Does.refl _ s) (Foot.le_refl _) _ _ _).rd hn _ _
@[simp] theorem State.reg_invNote (r : Nat) (k : Nat) (j : Nat) (hn : Foot.invNote.hasR ra = false) : (State.invNote s r k j).reg ra i0 j0 = s.reg ra i0 j0 :=
  (Does.invNote (Does.refl _ s) (Foot.le_refl _) _ _ _).reg hn _ _
@[simp] theorem State.v_invNote (r : Nat) (k : Nat) (j : Nat) (hn : Foot.invNote.hasV va = false) : (State.invNote s r k j).v va i0 j0 = s.v va i0 j0 :=
  (Does.invNote (Does.refl _ s) (Foot.le_refl _) _ _ _).v hn _ _
@[simp] theorem State.part_invNote (r : Nat) (k : Nat) (j : Nat) (hn : Foot.invNote.hasP pa = false) : (State.invNote s r k j).part pa = s.part pa :=
  (Does.invNote (Does.refl _ s) (Foot.le_refl _) _ _ _).parts pa hn
@[simp] theorem State.rd_pgSet (r : Nat) (pg : Bool) (hn : Foot.pgSet.hasR fl.r = false) : (State.pgSet s r pg).rd fl i0 j0 = s.rd fl i0 j0 :=
  (Does.pgSet (Does.refl _ s) (Foot.le_refl _) _ _).rd hn _ _
@[simp] theorem State.reg_pgSet (r : Nat) (pg : Bool) (hn : Foot.pgSet.hasR ra = false) : (State.pgSet s r pg).reg ra i0 j0 = s.reg ra i0 j0 :=
  (Does.pgSet (Does.refl _ s) (Foot.le_refl _) _ _).reg hn _ _
@[simp] theorem State.v_pgSet (r : Nat) (pg : Bool) (hn : Foot.pgSet.hasV va = false) : (State.pgSet s r pg).v va i0 j0 = s.v va i0 j0 :=
  (Does.pgSet (Does.refl _ s) (Foot.le_refl _) _ _).v hn _ _
@[simp] theorem State.part_pgSet (r : Nat) (pg : Bool) (hn : Foot.pgSet.hasP pa = false) : (State.pgSet s r pg).part pa = s.part pa :=
  (Does.pgSet (Does.refl _ s) (Foot.le_refl _) _ _).parts pa hn
@[simp] theorem State.rd_railTo (r : Nat) (st : Nat) (hn : Foot.railTo.hasR fl.r = false) : (State.railTo s r st).rd fl i0 j0 = s.rd fl i0 j0 :=
  (Does.railTo (Does.refl _ s) (Foot.le_refl _) _ _).rd hn _ _
@[simp] theorem State.reg_railTo (r : Nat) (st : Nat) (hn : Foot.railTo.hasR ra = false) : (State.railTo s r st).reg ra i0 j0 = s.reg ra i0 j0 :=
  (Does.railTo (Does.refl _ s) (Foot.le_refl _) _ _).reg hn _ _
@[simp] theorem State.v_railTo (r : Nat) (st : Nat) (hn : Foot.railTo.hasV va = false) : (State.railTo s r st).v va i0 j0 = s.v va i0 j0 :=
  (Does.railTo (Does.refl _ s) (Foot.le_refl _) _ _).v hn _ _
@[simp] theorem State.part_railTo (r : Nat) (st : Nat) (hn : Foot.railTo.hasP pa = false) : (State.railTo s r st).part pa = s.part pa :=
  (Does.railTo (Does.refl _ s) (Foot.le_refl _) _ _).parts pa hn
@[simp] theorem State.rd_shedIdle (r : Nat) (hn : Foot.shedIdle.hasR fl.r = false) : (State.shedIdle s r).rd fl i0 j0 = s.rd fl i0 j0 :=
  (Does.shedIdle (Does.refl _ s) (Foot.le_refl _) _).rd hn _ _
@[simp] theorem State.reg_shedIdle (r : Nat) (hn : Foot.shedIdle.hasR ra = false) : (State.shedIdle s r).reg ra i0 j0 = s.reg ra i0 j0 :=
  (Does.shedIdle (Does.refl _ s) (Foot.le_refl _) _).reg hn _ _
@[simp] theorem State.v_shedIdle (r : Nat) (hn : Foot.shedIdle.hasV va = false) : (State.shedIdle s r).v va i0 j0 = s.v va i0 j0 :=
  (Does.shedIdle (Does.refl _ s) (Foot.le_refl _) _).v hn _ _
@[simp] theorem State.part_shedIdle (r : Nat) (hn : Foot.shedIdle.hasP pa = false) : (State.shedIdle s r).part pa = s.part pa :=
  (Does.shedIdle (Does.refl _ s) (Foot.le_refl _) _).parts pa hn
@[simp] theorem State.rd_shedAbort (r : Nat) (hn : Foot.shedAbort.hasR fl.r = false) : (State.shedAbort s r).rd fl i0 j0 = s.rd fl i0 j0 :=
  (Does.shedAbort (Does.refl _ s) (Foot.le_refl _) _).rd hn _ _
@[simp] theorem State.reg_shedAbort (r : Nat) (hn : Foot.shedAbort.hasR ra = false) : (State.shedAbort s r).reg ra i0 j0 = s.reg ra i0 j0 :=
  (Does.shedAbort (Does.refl _ s) (Foot.le_refl _) _).reg hn _ _
@[simp] theorem State.v_shedAbort (r : Nat) (hn : Foot.shedAbort.hasV va = false) : (State.shedAbort s r).v va i0 j0 = s.v va i0 j0 :=
  (Does.shedAbort (Does.refl _ s) (Foot.le_refl _) _).v hn _ _
@[simp] theorem State.part_shedAbort (r : Nat) (hn : Foot.shedAbort.hasP pa = false) : (State.shedAbort s r).part pa = s.part pa :=
  (Does.shedAbort (Does.refl _ s) (Foot.le_refl _) _).parts pa hn
@[simp] theorem State.rd_railDown (r : Nat) (st : Nat) (hn : Foot.railDown.hasR fl.r = false) : (State.railDown s r st).rd fl i0 j0 = s.rd fl i0 j0 :=
  (Does.railDown (Does.refl _ s) (Foot.le_refl _) _ _).rd hn _ _
@[simp] theorem State.reg_railDown (r : Nat) (st : Nat) (hn : Foot.railDown.hasR ra = false) : (State.railDown s r st).reg ra i0 j0 = s.reg ra i0 j0 :=
  (Does.railDown (Does.refl _ s) (Foot.le_refl _) _ _).reg hn _ _
@[simp] theorem State.v_railDown (r : Nat) (st : Nat) (hn : Foot.railDown.hasV va = false) : (State.railDown s r st).v va i0 j0 = s.v va i0 j0 :=
  (Does.railDown (Does.refl _ s) (Foot.le_refl _) _ _).v hn _ _
@[simp] theorem State.part_railDown (r : Nat) (st : Nat) (hn : Foot.railDown.hasP pa = false) : (State.railDown s r st).part pa = s.part pa :=
  (Does.railDown (Does.refl _ s) (Foot.le_refl _) _ _).parts pa hn
@[simp] theorem State.rd_haltReq (r : Nat) (hn : Foot.haltReq.hasR fl.r = false) : (State.haltReq s r).rd fl i0 j0 = s.rd fl i0 j0 :=
  (Does.haltReq (Does.refl _ s) (Foot.le_refl _) _).rd hn _ _
@[simp] theorem State.reg_haltReq (r : Nat) (hn : Foot.haltReq.hasR ra = false) : (State.haltReq s r).reg ra i0 j0 = s.reg ra i0 j0 :=
  (Does.haltReq (Does.refl _ s) (Foot.le_refl _) _).reg hn _ _
@[simp] theorem State.v_haltReq (r : Nat) (hn : Foot.haltReq.hasV va = false) : (State.haltReq s r).v va i0 j0 = s.v va i0 j0 :=
  (Does.haltReq (Does.refl _ s) (Foot.le_refl _) _).v hn _ _
@[simp] theorem State.part_haltReq (r : Nat) (hn : Foot.haltReq.hasP pa = false) : (State.haltReq s r).part pa = s.part pa :=
  (Does.haltReq (Does.refl _ s) (Foot.le_refl _) _).parts pa hn
@[simp] theorem State.rd_haltClear (r : Nat) (hn : Foot.haltClear.hasR fl.r = false) : (State.haltClear s r).rd fl i0 j0 = s.rd fl i0 j0 :=
  (Does.haltClear (Does.refl _ s) (Foot.le_refl _) _).rd hn _ _
@[simp] theorem State.reg_haltClear (r : Nat) (hn : Foot.haltClear.hasR ra = false) : (State.haltClear s r).reg ra i0 j0 = s.reg ra i0 j0 :=
  (Does.haltClear (Does.refl _ s) (Foot.le_refl _) _).reg hn _ _
@[simp] theorem State.v_haltClear (r : Nat) (hn : Foot.haltClear.hasV va = false) : (State.haltClear s r).v va i0 j0 = s.v va i0 j0 :=
  (Does.haltClear (Does.refl _ s) (Foot.le_refl _) _).v hn _ _
@[simp] theorem State.part_haltClear (r : Nat) (hn : Foot.haltClear.hasP pa = false) : (State.haltClear s r).part pa = s.part pa :=
  (Does.haltClear (Does.refl _ s) (Foot.le_refl _) _).parts pa hn
@[simp] theorem State.rd_seqOn (r : Nat) (hn : Foot.seqOn.hasR fl.r = false) : (State.seqOn s r).rd fl i0 j0 = s.rd fl i0 j0 :=
  (Does.seqOn (Does.refl _ s) (Foot.le_refl _) _).rd hn _ _
@[simp] theorem State.reg_seqOn (r : Nat) (hn : Foot.seqOn.hasR ra = false) : (State.seqOn s r).reg ra i0 j0 = s.reg ra i0 j0 :=
  (Does.seqOn (Does.refl _ s) (Foot.le_refl _) _).reg hn _ _
@[simp] theorem State.v_seqOn (r : Nat) (hn : Foot.seqOn.hasV va = false) : (State.seqOn s r).v va i0 j0 = s.v va i0 j0 :=
  (Does.seqOn (Does.refl _ s) (Foot.le_refl _) _).v hn _ _
@[simp] theorem State.part_seqOn (r : Nat) (hn : Foot.seqOn.hasP pa = false) : (State.seqOn s r).part pa = s.part pa :=
  (Does.seqOn (Does.refl _ s) (Foot.le_refl _) _).parts pa hn
@[simp] theorem State.rd_seqOff (r : Nat) (hn : Foot.seqOff.hasR fl.r = false) : (State.seqOff s r).rd fl i0 j0 = s.rd fl i0 j0 :=
  (Does.seqOff (Does.refl _ s) (Foot.le_refl _) _).rd hn _ _
@[simp] theorem State.reg_seqOff (r : Nat) (hn : Foot.seqOff.hasR ra = false) : (State.seqOff s r).reg ra i0 j0 = s.reg ra i0 j0 :=
  (Does.seqOff (Does.refl _ s) (Foot.le_refl _) _).reg hn _ _
@[simp] theorem State.v_seqOff (r : Nat) (hn : Foot.seqOff.hasV va = false) : (State.seqOff s r).v va i0 j0 = s.v va i0 j0 :=
  (Does.seqOff (Does.refl _ s) (Foot.le_refl _) _).v hn _ _
@[simp] theorem State.part_seqOff (r : Nat) (hn : Foot.seqOff.hasP pa = false) : (State.seqOff s r).part pa = s.part pa :=
  (Does.seqOff (Does.refl _ s) (Foot.le_refl _) _).parts pa hn
@[simp] theorem State.rd_refPass (r : Nat) (hn : Foot.refPass.hasR fl.r = false) : (State.refPass s r).rd fl i0 j0 = s.rd fl i0 j0 :=
  (Does.refPass (Does.refl _ s) (Foot.le_refl _) _).rd hn _ _
@[simp] theorem State.reg_refPass (r : Nat) (hn : Foot.refPass.hasR ra = false) : (State.refPass s r).reg ra i0 j0 = s.reg ra i0 j0 :=
  (Does.refPass (Does.refl _ s) (Foot.le_refl _) _).reg hn _ _
@[simp] theorem State.v_refPass (r : Nat) (hn : Foot.refPass.hasV va = false) : (State.refPass s r).v va i0 j0 = s.v va i0 j0 :=
  (Does.refPass (Does.refl _ s) (Foot.le_refl _) _).v hn _ _
@[simp] theorem State.part_refPass (r : Nat) (hn : Foot.refPass.hasP pa = false) : (State.refPass s r).part pa = s.part pa :=
  (Does.refPass (Does.refl _ s) (Foot.le_refl _) _).parts pa hn
@[simp] theorem State.rd_railOn (r : Nat) (hn : Foot.railOn.hasR fl.r = false) : (State.railOn s r).rd fl i0 j0 = s.rd fl i0 j0 :=
  (Does.railOn (Does.refl _ s) (Foot.le_refl _) _).rd hn _ _
@[simp] theorem State.reg_railOn (r : Nat) (hn : Foot.railOn.hasR ra = false) : (State.railOn s r).reg ra i0 j0 = s.reg ra i0 j0 :=
  (Does.railOn (Does.refl _ s) (Foot.le_refl _) _).reg hn _ _
@[simp] theorem State.v_railOn (r : Nat) (hn : Foot.railOn.hasV va = false) : (State.railOn s r).v va i0 j0 = s.v va i0 j0 :=
  (Does.railOn (Does.refl _ s) (Foot.le_refl _) _).v hn _ _
@[simp] theorem State.part_railOn (r : Nat) (hn : Foot.railOn.hasP pa = false) : (State.railOn s r).part pa = s.part pa :=
  (Does.railOn (Does.refl _ s) (Foot.le_refl _) _).parts pa hn
@[simp] theorem State.rd_measDone (r : Nat) (hn : Foot.measDone.hasR fl.r = false) : (State.measDone s r).rd fl i0 j0 = s.rd fl i0 j0 :=
  (Does.measDone (Does.refl _ s) (Foot.le_refl _) _).rd hn _ _
@[simp] theorem State.reg_measDone (r : Nat) (hn : Foot.measDone.hasR ra = false) : (State.measDone s r).reg ra i0 j0 = s.reg ra i0 j0 :=
  (Does.measDone (Does.refl _ s) (Foot.le_refl _) _).reg hn _ _
@[simp] theorem State.v_measDone (r : Nat) (hn : Foot.measDone.hasV va = false) : (State.measDone s r).v va i0 j0 = s.v va i0 j0 :=
  (Does.measDone (Does.refl _ s) (Foot.le_refl _) _).v hn _ _
@[simp] theorem State.part_measDone (r : Nat) (hn : Foot.measDone.hasP pa = false) : (State.measDone s r).part pa = s.part pa :=
  (Does.measDone (Does.refl _ s) (Foot.le_refl _) _).parts pa hn
@[simp] theorem State.rd_targetPg (r : Nat) (hn : Foot.targetPg.hasR fl.r = false) : (State.targetPg s r).rd fl i0 j0 = s.rd fl i0 j0 :=
  (Does.targetPg (Does.refl _ s) (Foot.le_refl _) _).rd hn _ _
@[simp] theorem State.reg_targetPg (r : Nat) (hn : Foot.targetPg.hasR ra = false) : (State.targetPg s r).reg ra i0 j0 = s.reg ra i0 j0 :=
  (Does.targetPg (Does.refl _ s) (Foot.le_refl _) _).reg hn _ _
@[simp] theorem State.v_targetPg (r : Nat) (hn : Foot.targetPg.hasV va = false) : (State.targetPg s r).v va i0 j0 = s.v va i0 j0 :=
  (Does.targetPg (Does.refl _ s) (Foot.le_refl _) _).v hn _ _
@[simp] theorem State.part_targetPg (r : Nat) (hn : Foot.targetPg.hasP pa = false) : (State.targetPg s r).part pa = s.part pa :=
  (Does.targetPg (Does.refl _ s) (Foot.le_refl _) _).parts pa hn
@[simp] theorem State.rd_slewTo (r : Nat) (x : Nat) (hn : Foot.slewTo.hasR fl.r = false) : (State.slewTo s r x).rd fl i0 j0 = s.rd fl i0 j0 :=
  (Does.slewTo (Does.refl _ s) (Foot.le_refl _) _ _).rd hn _ _
@[simp] theorem State.reg_slewTo (r : Nat) (x : Nat) (hn : Foot.slewTo.hasR ra = false) : (State.slewTo s r x).reg ra i0 j0 = s.reg ra i0 j0 :=
  (Does.slewTo (Does.refl _ s) (Foot.le_refl _) _ _).reg hn _ _
@[simp] theorem State.v_slewTo (r : Nat) (x : Nat) (hn : Foot.slewTo.hasV va = false) : (State.slewTo s r x).v va i0 j0 = s.v va i0 j0 :=
  (Does.slewTo (Does.refl _ s) (Foot.le_refl _) _ _).v hn _ _
@[simp] theorem State.part_slewTo (r : Nat) (x : Nat) (hn : Foot.slewTo.hasP pa = false) : (State.slewTo s r x).part pa = s.part pa :=
  (Does.slewTo (Does.refl _ s) (Foot.le_refl _) _ _).parts pa hn
@[simp] theorem State.rd_slewStep (r : Nat) (hn : Foot.slewStep.hasR fl.r = false) : (State.slewStep s r).rd fl i0 j0 = s.rd fl i0 j0 :=
  (Does.slewStep (Does.refl _ s) (Foot.le_refl _) _).rd hn _ _
@[simp] theorem State.reg_slewStep (r : Nat) (hn : Foot.slewStep.hasR ra = false) : (State.slewStep s r).reg ra i0 j0 = s.reg ra i0 j0 :=
  (Does.slewStep (Does.refl _ s) (Foot.le_refl _) _).reg hn _ _
@[simp] theorem State.v_slewStep (r : Nat) (hn : Foot.slewStep.hasV va = false) : (State.slewStep s r).v va i0 j0 = s.v va i0 j0 :=
  (Does.slewStep (Does.refl _ s) (Foot.le_refl _) _).v hn _ _
@[simp] theorem State.part_slewStep (r : Nat) (hn : Foot.slewStep.hasP pa = false) : (State.slewStep s r).part pa = s.part pa :=
  (Does.slewStep (Does.refl _ s) (Foot.le_refl _) _).parts pa hn
@[simp] theorem State.rd_loopLaw (r : Nat) (vs : Nat) (hn : Foot.loopLaw.hasR fl.r = false) : (State.loopLaw s r vs).rd fl i0 j0 = s.rd fl i0 j0 :=
  (Does.loopLaw (Does.refl _ s) (Foot.le_refl _) _ _).rd hn _ _
@[simp] theorem State.reg_loopLaw (r : Nat) (vs : Nat) (hn : Foot.loopLaw.hasR ra = false) : (State.loopLaw s r vs).reg ra i0 j0 = s.reg ra i0 j0 :=
  (Does.loopLaw (Does.refl _ s) (Foot.le_refl _) _ _).reg hn _ _
@[simp] theorem State.v_loopLaw (r : Nat) (vs : Nat) (hn : Foot.loopLaw.hasV va = false) : (State.loopLaw s r vs).v va i0 j0 = s.v va i0 j0 :=
  (Does.loopLaw (Does.refl _ s) (Foot.le_refl _) _ _).v hn _ _
@[simp] theorem State.part_loopLaw (r : Nat) (vs : Nat) (hn : Foot.loopLaw.hasP pa = false) : (State.loopLaw s r vs).part pa = s.part pa :=
  (Does.loopLaw (Does.refl _ s) (Foot.le_refl _) _ _).parts pa hn
@[simp] theorem State.rd_shedSend (r : Nat) (src : CmdSrc) (hn : Foot.shedSend.hasR fl.r = false) : (State.shedSend s r src).rd fl i0 j0 = s.rd fl i0 j0 :=
  (Does.shedSend (Does.refl _ s) (Foot.le_refl _) _ _).rd hn _ _
@[simp] theorem State.reg_shedSend (r : Nat) (src : CmdSrc) (hn : Foot.shedSend.hasR ra = false) : (State.shedSend s r src).reg ra i0 j0 = s.reg ra i0 j0 :=
  (Does.shedSend (Does.refl _ s) (Foot.le_refl _) _ _).reg hn _ _
@[simp] theorem State.v_shedSend (r : Nat) (src : CmdSrc) (hn : Foot.shedSend.hasV va = false) : (State.shedSend s r src).v va i0 j0 = s.v va i0 j0 :=
  (Does.shedSend (Does.refl _ s) (Foot.le_refl _) _ _).v hn _ _
@[simp] theorem State.part_shedSend (r : Nat) (src : CmdSrc) (hn : Foot.shedSend.hasP pa = false) : (State.shedSend s r src).part pa = s.part pa :=
  (Does.shedSend (Does.refl _ s) (Foot.le_refl _) _ _).parts pa hn
@[simp] theorem State.rd_shedStart (r : Nat) (k : Nat) (hn : Foot.shedStart.hasR fl.r = false) : (State.shedStart s r k).rd fl i0 j0 = s.rd fl i0 j0 :=
  (Does.shedStart (Does.refl _ s) (Foot.le_refl _) _ _).rd hn _ _
@[simp] theorem State.reg_shedStart (r : Nat) (k : Nat) (hn : Foot.shedStart.hasR ra = false) : (State.shedStart s r k).reg ra i0 j0 = s.reg ra i0 j0 :=
  (Does.shedStart (Does.refl _ s) (Foot.le_refl _) _ _).reg hn _ _
@[simp] theorem State.v_shedStart (r : Nat) (k : Nat) (hn : Foot.shedStart.hasV va = false) : (State.shedStart s r k).v va i0 j0 = s.v va i0 j0 :=
  (Does.shedStart (Does.refl _ s) (Foot.le_refl _) _ _).v hn _ _
@[simp] theorem State.part_shedStart (r : Nat) (k : Nat) (hn : Foot.shedStart.hasP pa = false) : (State.shedStart s r k).part pa = s.part pa :=
  (Does.shedStart (Does.refl _ s) (Foot.le_refl _) _ _).parts pa hn
@[simp] theorem State.rd_shedConfirm (r : Nat) (num : Nat) (hn : Foot.shedConfirm.hasR fl.r = false) : (State.shedConfirm s r num).rd fl i0 j0 = s.rd fl i0 j0 :=
  (Does.shedConfirm (Does.refl _ s) (Foot.le_refl _) _ _).rd hn _ _
@[simp] theorem State.reg_shedConfirm (r : Nat) (num : Nat) (hn : Foot.shedConfirm.hasR ra = false) : (State.shedConfirm s r num).reg ra i0 j0 = s.reg ra i0 j0 :=
  (Does.shedConfirm (Does.refl _ s) (Foot.le_refl _) _ _).reg hn _ _
@[simp] theorem State.v_shedConfirm (r : Nat) (num : Nat) (hn : Foot.shedConfirm.hasV va = false) : (State.shedConfirm s r num).v va i0 j0 = s.v va i0 j0 :=
  (Does.shedConfirm (Does.refl _ s) (Foot.le_refl _) _ _).v hn _ _
@[simp] theorem State.part_shedConfirm (r : Nat) (num : Nat) (hn : Foot.shedConfirm.hasP pa = false) : (State.shedConfirm s r num).part pa = s.part pa :=
  (Does.shedConfirm (Does.refl _ s) (Foot.le_refl _) _ _).parts pa hn
@[simp] theorem State.rd_shedRun (r : Nat) (i : Int) (hn : Foot.shedRun.hasR fl.r = false) : (State.shedRun s r i).rd fl i0 j0 = s.rd fl i0 j0 :=
  (Does.shedRun (Does.refl _ s) (Foot.le_refl _) _ _).rd hn _ _
@[simp] theorem State.reg_shedRun (r : Nat) (i : Int) (hn : Foot.shedRun.hasR ra = false) : (State.shedRun s r i).reg ra i0 j0 = s.reg ra i0 j0 :=
  (Does.shedRun (Does.refl _ s) (Foot.le_refl _) _ _).reg hn _ _
@[simp] theorem State.v_shedRun (r : Nat) (i : Int) (hn : Foot.shedRun.hasV va = false) : (State.shedRun s r i).v va i0 j0 = s.v va i0 j0 :=
  (Does.shedRun (Does.refl _ s) (Foot.le_refl _) _ _).v hn _ _
@[simp] theorem State.part_shedRun (r : Nat) (i : Int) (hn : Foot.shedRun.hasP pa = false) : (State.shedRun s r i).part pa = s.part pa :=
  (Does.shedRun (Does.refl _ s) (Foot.le_refl _) _ _).parts pa hn
@[simp] theorem State.rd_cycleEnd (r : Nat) (vs : Nat) (hn : Foot.cycleEnd.hasR fl.r = false) : (State.cycleEnd s r vs).rd fl i0 j0 = s.rd fl i0 j0 :=
  (Does.cycleEnd (Does.refl _ s) (Foot.le_refl _) _ _).rd hn _ _
@[simp] theorem State.reg_cycleEnd (r : Nat) (vs : Nat) (hn : Foot.cycleEnd.hasR ra = false) : (State.cycleEnd s r vs).reg ra i0 j0 = s.reg ra i0 j0 :=
  (Does.cycleEnd (Does.refl _ s) (Foot.le_refl _) _ _).reg hn _ _
@[simp] theorem State.v_cycleEnd (r : Nat) (vs : Nat) (hn : Foot.cycleEnd.hasV va = false) : (State.cycleEnd s r vs).v va i0 j0 = s.v va i0 j0 :=
  (Does.cycleEnd (Does.refl _ s) (Foot.le_refl _) _ _).v hn _ _
@[simp] theorem State.part_cycleEnd (r : Nat) (vs : Nat) (hn : Foot.cycleEnd.hasP pa = false) : (State.cycleEnd s r vs).part pa = s.part pa :=
  (Does.cycleEnd (Does.refl _ s) (Foot.le_refl _) _ _).parts pa hn
@[simp] theorem State.rd_ovuvCount (r : Nat) (vs : Nat) (hn : Foot.ovuvCount.hasR fl.r = false) : (State.ovuvCount s r vs).rd fl i0 j0 = s.rd fl i0 j0 :=
  (Does.ovuvCount (Does.refl _ s) (Foot.le_refl _) _ _).rd hn _ _
@[simp] theorem State.reg_ovuvCount (r : Nat) (vs : Nat) (hn : Foot.ovuvCount.hasR ra = false) : (State.ovuvCount s r vs).reg ra i0 j0 = s.reg ra i0 j0 :=
  (Does.ovuvCount (Does.refl _ s) (Foot.le_refl _) _ _).reg hn _ _
@[simp] theorem State.v_ovuvCount (r : Nat) (vs : Nat) (hn : Foot.ovuvCount.hasV va = false) : (State.ovuvCount s r vs).v va i0 j0 = s.v va i0 j0 :=
  (Does.ovuvCount (Does.refl _ s) (Foot.le_refl _) _ _).v hn _ _
@[simp] theorem State.part_ovuvCount (r : Nat) (vs : Nat) (hn : Foot.ovuvCount.hasP pa = false) : (State.ovuvCount s r vs).part pa = s.part pa :=
  (Does.ovuvCount (Does.refl _ s) (Foot.le_refl _) _ _).parts pa hn
@[simp] theorem State.rd_pgCheck (r : Nat) (vs : Nat) (hn : Foot.pgCheck.hasR fl.r = false) : (State.pgCheck s r vs).rd fl i0 j0 = s.rd fl i0 j0 :=
  (Does.pgCheck (Does.refl _ s) (Foot.le_refl _) _ _).rd hn _ _
@[simp] theorem State.reg_pgCheck (r : Nat) (vs : Nat) (hn : Foot.pgCheck.hasR ra = false) : (State.pgCheck s r vs).reg ra i0 j0 = s.reg ra i0 j0 :=
  (Does.pgCheck (Does.refl _ s) (Foot.le_refl _) _ _).reg hn _ _
@[simp] theorem State.v_pgCheck (r : Nat) (vs : Nat) (hn : Foot.pgCheck.hasV va = false) : (State.pgCheck s r vs).v va i0 j0 = s.v va i0 j0 :=
  (Does.pgCheck (Does.refl _ s) (Foot.le_refl _) _ _).v hn _ _
@[simp] theorem State.part_pgCheck (r : Nat) (vs : Nat) (hn : Foot.pgCheck.hasP pa = false) : (State.pgCheck s r vs).part pa = s.part pa :=
  (Does.pgCheck (Does.refl _ s) (Foot.le_refl _) _ _).parts pa hn
@[simp] theorem State.rd_shedDisable (r : Nat) (hn : Foot.shedDisable.hasR fl.r = false) : (State.shedDisable s r).rd fl i0 j0 = s.rd fl i0 j0 :=
  (Does.shedDisable (Does.refl _ s) (Foot.le_refl _) _).rd hn _ _
@[simp] theorem State.reg_shedDisable (r : Nat) (hn : Foot.shedDisable.hasR ra = false) : (State.shedDisable s r).reg ra i0 j0 = s.reg ra i0 j0 :=
  (Does.shedDisable (Does.refl _ s) (Foot.le_refl _) _).reg hn _ _
@[simp] theorem State.v_shedDisable (r : Nat) (hn : Foot.shedDisable.hasV va = false) : (State.shedDisable s r).v va i0 j0 = s.v va i0 j0 :=
  (Does.shedDisable (Does.refl _ s) (Foot.le_refl _) _).v hn _ _
@[simp] theorem State.part_shedDisable (r : Nat) (hn : Foot.shedDisable.hasP pa = false) : (State.shedDisable s r).part pa = s.part pa :=
  (Does.shedDisable (Does.refl _ s) (Foot.le_refl _) _).parts pa hn
@[simp] theorem State.rd_shedEdge (r : Nat) (hn : Foot.shedEdge.hasR fl.r = false) : (State.shedEdge s r).rd fl i0 j0 = s.rd fl i0 j0 :=
  (Does.shedEdge (Does.refl _ s) (Foot.le_refl _) _).rd hn _ _
@[simp] theorem State.reg_shedEdge (r : Nat) (hn : Foot.shedEdge.hasR ra = false) : (State.shedEdge s r).reg ra i0 j0 = s.reg ra i0 j0 :=
  (Does.shedEdge (Does.refl _ s) (Foot.le_refl _) _).reg hn _ _
@[simp] theorem State.v_shedEdge (r : Nat) (hn : Foot.shedEdge.hasV va = false) : (State.shedEdge s r).v va i0 j0 = s.v va i0 j0 :=
  (Does.shedEdge (Does.refl _ s) (Foot.le_refl _) _).v hn _ _
@[simp] theorem State.part_shedEdge (r : Nat) (hn : Foot.shedEdge.hasP pa = false) : (State.shedEdge s r).part pa = s.part pa :=
  (Does.shedEdge (Does.refl _ s) (Foot.le_refl _) _).parts pa hn
@[simp] theorem State.rd_railKeyLoad (r : Nat) (key : Nat) (hn : Foot.railKeyLoad.hasR fl.r = false) : (State.railKeyLoad s r key).rd fl i0 j0 = s.rd fl i0 j0 :=
  (Does.railKeyLoad (Does.refl _ s) (Foot.le_refl _) _ _).rd hn _ _
@[simp] theorem State.reg_railKeyLoad (r : Nat) (key : Nat) (hn : Foot.railKeyLoad.hasR ra = false) : (State.railKeyLoad s r key).reg ra i0 j0 = s.reg ra i0 j0 :=
  (Does.railKeyLoad (Does.refl _ s) (Foot.le_refl _) _ _).reg hn _ _
@[simp] theorem State.v_railKeyLoad (r : Nat) (key : Nat) (hn : Foot.railKeyLoad.hasV va = false) : (State.railKeyLoad s r key).v va i0 j0 = s.v va i0 j0 :=
  (Does.railKeyLoad (Does.refl _ s) (Foot.le_refl _) _ _).v hn _ _
@[simp] theorem State.part_railKeyLoad (r : Nat) (key : Nat) (hn : Foot.railKeyLoad.hasP pa = false) : (State.railKeyLoad s r key).part pa = s.part pa :=
  (Does.railKeyLoad (Does.refl _ s) (Foot.le_refl _) _ _).parts pa hn
@[simp] theorem State.rd_loopSample (r : Nat) (vs : Nat) (opn : Bool) (hn : Foot.loopSample.hasR fl.r = false) : (State.loopSample s r vs opn).rd fl i0 j0 = s.rd fl i0 j0 :=
  (Does.loopSample (Does.refl _ s) (Foot.le_refl _) _ _ _).rd hn _ _
@[simp] theorem State.reg_loopSample (r : Nat) (vs : Nat) (opn : Bool) (hn : Foot.loopSample.hasR ra = false) : (State.loopSample s r vs opn).reg ra i0 j0 = s.reg ra i0 j0 :=
  (Does.loopSample (Does.refl _ s) (Foot.le_refl _) _ _ _).reg hn _ _
@[simp] theorem State.v_loopSample (r : Nat) (vs : Nat) (opn : Bool) (hn : Foot.loopSample.hasV va = false) : (State.loopSample s r vs opn).v va i0 j0 = s.v va i0 j0 :=
  (Does.loopSample (Does.refl _ s) (Foot.le_refl _) _ _ _).v hn _ _
@[simp] theorem State.part_loopSample (r : Nat) (vs : Nat) (opn : Bool) (hn : Foot.loopSample.hasP pa = false) : (State.loopSample s r vs opn).part pa = s.part pa :=
  (Does.loopSample (Does.refl _ s) (Foot.le_refl _) _ _ _).parts pa hn
@[simp] theorem State.rd_cycleDone (p : Nat) (r : Nat) (cur : List (Nat × Int)) (mean : Int) (inv : Bool) (hn : Foot.cycleDone.hasR fl.r = false) : (State.cycleDone s p r cur mean inv).rd fl i0 j0 = s.rd fl i0 j0 :=
  (Does.cycleDone (Does.refl _ s) (Foot.le_refl _) _ _ _ _ _).rd hn _ _
@[simp] theorem State.reg_cycleDone (p : Nat) (r : Nat) (cur : List (Nat × Int)) (mean : Int) (inv : Bool) (hn : Foot.cycleDone.hasR ra = false) : (State.cycleDone s p r cur mean inv).reg ra i0 j0 = s.reg ra i0 j0 :=
  (Does.cycleDone (Does.refl _ s) (Foot.le_refl _) _ _ _ _ _).reg hn _ _
@[simp] theorem State.v_cycleDone (p : Nat) (r : Nat) (cur : List (Nat × Int)) (mean : Int) (inv : Bool) (hn : Foot.cycleDone.hasV va = false) : (State.cycleDone s p r cur mean inv).v va i0 j0 = s.v va i0 j0 :=
  (Does.cycleDone (Does.refl _ s) (Foot.le_refl _) _ _ _ _ _).v hn _ _
@[simp] theorem State.part_cycleDone (p : Nat) (r : Nat) (cur : List (Nat × Int)) (mean : Int) (inv : Bool) (hn : Foot.cycleDone.hasP pa = false) : (State.cycleDone s p r cur mean inv).part pa = s.part pa :=
  (Does.cycleDone (Does.refl _ s) (Foot.le_refl _) _ _ _ _ _).parts pa hn
@[simp] theorem State.rd_cycleStart (p : Nat) (r : Nat) (tick : Nat) (hn : Foot.cycleStart.hasR fl.r = false) : (State.cycleStart s p r tick).rd fl i0 j0 = s.rd fl i0 j0 :=
  (Does.cycleStart (Does.refl _ s) (Foot.le_refl _) _ _ _).rd hn _ _
@[simp] theorem State.reg_cycleStart (p : Nat) (r : Nat) (tick : Nat) (hn : Foot.cycleStart.hasR ra = false) : (State.cycleStart s p r tick).reg ra i0 j0 = s.reg ra i0 j0 :=
  (Does.cycleStart (Does.refl _ s) (Foot.le_refl _) _ _ _).reg hn _ _
@[simp] theorem State.v_cycleStart (p : Nat) (r : Nat) (tick : Nat) (hn : Foot.cycleStart.hasV va = false) : (State.cycleStart s p r tick).v va i0 j0 = s.v va i0 j0 :=
  (Does.cycleStart (Does.refl _ s) (Foot.le_refl _) _ _ _).v hn _ _
@[simp] theorem State.part_cycleStart (p : Nat) (r : Nat) (tick : Nat) (hn : Foot.cycleStart.hasP pa = false) : (State.cycleStart s p r tick).part pa = s.part pa :=
  (Does.cycleStart (Does.refl _ s) (Foot.le_refl _) _ _ _).parts pa hn
@[simp] theorem State.rd_phaseCycle (p : Nat) (cur : List (Nat × Int)) (mean : Int) (inv : Bool) (hn : Foot.phaseCycle.hasR fl.r = false) : (State.phaseCycle s p cur mean inv).rd fl i0 j0 = s.rd fl i0 j0 :=
  (Does.phaseCycle (Does.refl _ s) (Foot.le_refl _) _ _ _ _).rd hn _ _
@[simp] theorem State.reg_phaseCycle (p : Nat) (cur : List (Nat × Int)) (mean : Int) (inv : Bool) (hn : Foot.phaseCycle.hasR ra = false) : (State.phaseCycle s p cur mean inv).reg ra i0 j0 = s.reg ra i0 j0 :=
  (Does.phaseCycle (Does.refl _ s) (Foot.le_refl _) _ _ _ _).reg hn _ _
@[simp] theorem State.v_phaseCycle (p : Nat) (cur : List (Nat × Int)) (mean : Int) (inv : Bool) (hn : Foot.phaseCycle.hasV va = false) : (State.phaseCycle s p cur mean inv).v va i0 j0 = s.v va i0 j0 :=
  (Does.phaseCycle (Does.refl _ s) (Foot.le_refl _) _ _ _ _).v hn _ _
@[simp] theorem State.part_phaseCycle (p : Nat) (cur : List (Nat × Int)) (mean : Int) (inv : Bool) (hn : Foot.phaseCycle.hasP pa = false) : (State.phaseCycle s p cur mean inv).part pa = s.part pa :=
  (Does.phaseCycle (Does.refl _ s) (Foot.le_refl _) _ _ _ _).parts pa hn
@[simp] theorem State.rd_shedDisableAt (r : Nat) (hn : Foot.shedDisableAt.hasR fl.r = false) : (State.shedDisableAt s r).rd fl i0 j0 = s.rd fl i0 j0 :=
  (Does.shedDisableAt (Does.refl _ s) (Foot.le_refl _) _).rd hn _ _
@[simp] theorem State.reg_shedDisableAt (r : Nat) (hn : Foot.shedDisableAt.hasR ra = false) : (State.shedDisableAt s r).reg ra i0 j0 = s.reg ra i0 j0 :=
  (Does.shedDisableAt (Does.refl _ s) (Foot.le_refl _) _).reg hn _ _
@[simp] theorem State.v_shedDisableAt (r : Nat) (hn : Foot.shedDisableAt.hasV va = false) : (State.shedDisableAt s r).v va i0 j0 = s.v va i0 j0 :=
  (Does.shedDisableAt (Does.refl _ s) (Foot.le_refl _) _).v hn _ _
@[simp] theorem State.part_shedDisableAt (r : Nat) (hn : Foot.shedDisableAt.hasP pa = false) : (State.shedDisableAt s r).part pa = s.part pa :=
  (Does.shedDisableAt (Does.refl _ s) (Foot.le_refl _) _).parts pa hn
@[simp] theorem State.rd_phaseFault (p : Nat) (hn : Foot.phaseFault.hasR fl.r = false) : (State.phaseFault s p).rd fl i0 j0 = s.rd fl i0 j0 :=
  (Does.phaseFault (Does.refl _ s) (Foot.le_refl _) _).rd hn _ _
@[simp] theorem State.reg_phaseFault (p : Nat) (hn : Foot.phaseFault.hasR ra = false) : (State.phaseFault s p).reg ra i0 j0 = s.reg ra i0 j0 :=
  (Does.phaseFault (Does.refl _ s) (Foot.le_refl _) _).reg hn _ _
@[simp] theorem State.v_phaseFault (p : Nat) (hn : Foot.phaseFault.hasV va = false) : (State.phaseFault s p).v va i0 j0 = s.v va i0 j0 :=
  (Does.phaseFault (Does.refl _ s) (Foot.le_refl _) _).v hn _ _
@[simp] theorem State.part_phaseFault (p : Nat) (hn : Foot.phaseFault.hasP pa = false) : (State.phaseFault s p).part pa = s.part pa :=
  (Does.phaseFault (Does.refl _ s) (Foot.le_refl _) _).parts pa hn
@[simp] theorem State.rd_phCalReq (p : Nat) (hn : Foot.phCalReq.hasR fl.r = false) : (State.phCalReq s p).2.rd fl i0 j0 = s.rd fl i0 j0 :=
  (Does.phCalReq (Does.refl _ s) (Foot.le_refl _) _).rd hn _ _
@[simp] theorem State.reg_phCalReq (p : Nat) (hn : Foot.phCalReq.hasR ra = false) : (State.phCalReq s p).2.reg ra i0 j0 = s.reg ra i0 j0 :=
  (Does.phCalReq (Does.refl _ s) (Foot.le_refl _) _).reg hn _ _
@[simp] theorem State.v_phCalReq (p : Nat) (hn : Foot.phCalReq.hasV va = false) : (State.phCalReq s p).2.v va i0 j0 = s.v va i0 j0 :=
  (Does.phCalReq (Does.refl _ s) (Foot.le_refl _) _).v hn _ _
@[simp] theorem State.part_phCalReq (p : Nat) (hn : Foot.phCalReq.hasP pa = false) : (State.phCalReq s p).2.part pa = s.part pa :=
  (Does.phCalReq (Does.refl _ s) (Foot.le_refl _) _).parts pa hn
@[simp] theorem State.rd_clrFault (p : Nat) (high : Bool) (hn : Foot.clrFault.hasR fl.r = false) : (State.clrFault s p high).2.rd fl i0 j0 = s.rd fl i0 j0 :=
  (Does.clrFault (Does.refl _ s) (Foot.le_refl _) _ _).rd hn _ _
@[simp] theorem State.reg_clrFault (p : Nat) (high : Bool) (hn : Foot.clrFault.hasR ra = false) : (State.clrFault s p high).2.reg ra i0 j0 = s.reg ra i0 j0 :=
  (Does.clrFault (Does.refl _ s) (Foot.le_refl _) _ _).reg hn _ _
@[simp] theorem State.v_clrFault (p : Nat) (high : Bool) (hn : Foot.clrFault.hasV va = false) : (State.clrFault s p high).2.v va i0 j0 = s.v va i0 j0 :=
  (Does.clrFault (Does.refl _ s) (Foot.le_refl _) _ _).v hn _ _
@[simp] theorem State.part_clrFault (p : Nat) (high : Bool) (hn : Foot.clrFault.hasP pa = false) : (State.clrFault s p high).2.part pa = s.part pa :=
  (Does.clrFault (Does.refl _ s) (Foot.le_refl _) _ _).parts pa hn
@[simp] theorem State.rd_vselWrite (r : Nat) (k : Nat) (hn : Foot.vselWrite.hasR fl.r = false) : (State.vselWrite s r k).2.rd fl i0 j0 = s.rd fl i0 j0 :=
  (Does.vselWrite (Does.refl _ s) (Foot.le_refl _) _ _).rd hn _ _
@[simp] theorem State.reg_vselWrite (r : Nat) (k : Nat) (hn : Foot.vselWrite.hasR ra = false) : (State.vselWrite s r k).2.reg ra i0 j0 = s.reg ra i0 j0 :=
  (Does.vselWrite (Does.refl _ s) (Foot.le_refl _) _ _).reg hn _ _
@[simp] theorem State.v_vselWrite (r : Nat) (k : Nat) (hn : Foot.vselWrite.hasV va = false) : (State.vselWrite s r k).2.v va i0 j0 = s.v va i0 j0 :=
  (Does.vselWrite (Does.refl _ s) (Foot.le_refl _) _ _).v hn _ _
@[simp] theorem State.part_vselWrite (r : Nat) (k : Nat) (hn : Foot.vselWrite.hasP pa = false) : (State.vselWrite s r k).2.part pa = s.part pa :=
  (Does.vselWrite (Does.refl _ s) (Foot.le_refl _) _ _).parts pa hn
@[simp] theorem State.rd_vslotWrite (r : Nat) (k : Nat) (code : Nat) (hn : Foot.vslotWrite.hasR fl.r = false) : (State.vslotWrite s r k code).2.rd fl i0 j0 = s.rd fl i0 j0 :=
  (Does.vslotWrite (Does.refl _ s) (Foot.le_refl _) _ _ _).rd hn _ _
@[simp] theorem State.reg_vslotWrite (r : Nat) (k : Nat) (code : Nat) (hn : Foot.vslotWrite.hasR ra = false) : (State.vslotWrite s r k code).2.reg ra i0 j0 = s.reg ra i0 j0 :=
  (Does.vslotWrite (Does.refl _ s) (Foot.le_refl _) _ _ _).reg hn _ _
@[simp] theorem State.v_vslotWrite (r : Nat) (k : Nat) (code : Nat) (hn : Foot.vslotWrite.hasV va = false) : (State.vslotWrite s r k code).2.v va i0 j0 = s.v va i0 j0 :=
  (Does.vslotWrite (Does.refl _ s) (Foot.le_refl _) _ _ _).v hn _ _
@[simp] theorem State.part_vslotWrite (r : Nat) (k : Nat) (code : Nat) (hn : Foot.vslotWrite.hasP pa = false) : (State.vslotWrite s r k code).2.part pa = s.part pa :=
  (Does.vslotWrite (Does.refl _ s) (Foot.le_refl _) _ _ _).parts pa hn
@[simp] theorem State.rd_vrefNote (l : Nat) (hn : Foot.vrefNote.hasR fl.r = false) : (State.vrefNote s l).rd fl i0 j0 = s.rd fl i0 j0 :=
  (Does.vrefNote (Does.refl _ s) (Foot.le_refl _) _).rd hn _ _
@[simp] theorem State.reg_vrefNote (l : Nat) (hn : Foot.vrefNote.hasR ra = false) : (State.vrefNote s l).reg ra i0 j0 = s.reg ra i0 j0 :=
  (Does.vrefNote (Does.refl _ s) (Foot.le_refl _) _).reg hn _ _
@[simp] theorem State.v_vrefNote (l : Nat) (hn : Foot.vrefNote.hasV va = false) : (State.vrefNote s l).v va i0 j0 = s.v va i0 j0 :=
  (Does.vrefNote (Does.refl _ s) (Foot.le_refl _) _).v hn _ _
@[simp] theorem State.part_vrefNote (l : Nat) (hn : Foot.vrefNote.hasP pa = false) : (State.vrefNote s l).part pa = s.part pa :=
  (Does.vrefNote (Does.refl _ s) (Foot.le_refl _) _).parts pa hn
@[simp] theorem State.rd_vrefCheck (l : Nat) (hn : Foot.vrefCheck.hasR fl.r = false) : (State.vrefCheck s l).rd fl i0 j0 = s.rd fl i0 j0 :=
  (Does.vrefCheck (Does.refl _ s) (Foot.le_refl _) _).rd hn _ _
@[simp] theorem State.reg_vrefCheck (l : Nat) (hn : Foot.vrefCheck.hasR ra = false) : (State.vrefCheck s l).reg ra i0 j0 = s.reg ra i0 j0 :=
  (Does.vrefCheck (Does.refl _ s) (Foot.le_refl _) _).reg hn _ _
@[simp] theorem State.v_vrefCheck (l : Nat) (hn : Foot.vrefCheck.hasV va = false) : (State.vrefCheck s l).v va i0 j0 = s.v va i0 j0 :=
  (Does.vrefCheck (Does.refl _ s) (Foot.le_refl _) _).v hn _ _
@[simp] theorem State.part_vrefCheck (l : Nat) (hn : Foot.vrefCheck.hasP pa = false) : (State.vrefCheck s l).part pa = s.part pa :=
  (Does.vrefCheck (Does.refl _ s) (Foot.le_refl _) _).parts pa hn
@[simp] theorem State.rd_vrefTake (l : Nat) (w : Nat) (hn : Foot.vrefTake.hasR fl.r = false) : (State.vrefTake s l w).rd fl i0 j0 = s.rd fl i0 j0 :=
  (Does.vrefTake (Does.refl _ s) (Foot.le_refl _) _ _).rd hn _ _
@[simp] theorem State.reg_vrefTake (l : Nat) (w : Nat) (hn : Foot.vrefTake.hasR ra = false) : (State.vrefTake s l w).reg ra i0 j0 = s.reg ra i0 j0 :=
  (Does.vrefTake (Does.refl _ s) (Foot.le_refl _) _ _).reg hn _ _
@[simp] theorem State.v_vrefTake (l : Nat) (w : Nat) (hn : Foot.vrefTake.hasV va = false) : (State.vrefTake s l w).v va i0 j0 = s.v va i0 j0 :=
  (Does.vrefTake (Does.refl _ s) (Foot.le_refl _) _ _).v hn _ _
@[simp] theorem State.part_vrefTake (l : Nat) (w : Nat) (hn : Foot.vrefTake.hasP pa = false) : (State.vrefTake s l w).part pa = s.part pa :=
  (Does.vrefTake (Does.refl _ s) (Foot.le_refl _) _ _).parts pa hn
@[simp] theorem State.rd_shedTake (l : Nat) (r : Nat) (hn : Foot.shedTake.hasR fl.r = false) : (State.shedTake s l r).rd fl i0 j0 = s.rd fl i0 j0 :=
  (Does.shedTake (Does.refl _ s) (Foot.le_refl _) _ _).rd hn _ _
@[simp] theorem State.reg_shedTake (l : Nat) (r : Nat) (hn : Foot.shedTake.hasR ra = false) : (State.shedTake s l r).reg ra i0 j0 = s.reg ra i0 j0 :=
  (Does.shedTake (Does.refl _ s) (Foot.le_refl _) _ _).reg hn _ _
@[simp] theorem State.v_shedTake (l : Nat) (r : Nat) (hn : Foot.shedTake.hasV va = false) : (State.shedTake s l r).v va i0 j0 = s.v va i0 j0 :=
  (Does.shedTake (Does.refl _ s) (Foot.le_refl _) _ _).v hn _ _
@[simp] theorem State.part_shedTake (l : Nat) (r : Nat) (hn : Foot.shedTake.hasP pa = false) : (State.shedTake s l r).part pa = s.part pa :=
  (Does.shedTake (Does.refl _ s) (Foot.le_refl _) _ _).parts pa hn
@[simp] theorem State.rd_shedExpire (l : Nat) (hn : Foot.shedExpire.hasR fl.r = false) : (State.shedExpire s l).rd fl i0 j0 = s.rd fl i0 j0 :=
  (Does.shedExpire (Does.refl _ s) (Foot.le_refl _) _).rd hn _ _
@[simp] theorem State.reg_shedExpire (l : Nat) (hn : Foot.shedExpire.hasR ra = false) : (State.shedExpire s l).reg ra i0 j0 = s.reg ra i0 j0 :=
  (Does.shedExpire (Does.refl _ s) (Foot.le_refl _) _).reg hn _ _
@[simp] theorem State.v_shedExpire (l : Nat) (hn : Foot.shedExpire.hasV va = false) : (State.shedExpire s l).v va i0 j0 = s.v va i0 j0 :=
  (Does.shedExpire (Does.refl _ s) (Foot.le_refl _) _).v hn _ _
@[simp] theorem State.part_shedExpire (l : Nat) (hn : Foot.shedExpire.hasP pa = false) : (State.shedExpire s l).part pa = s.part pa :=
  (Does.shedExpire (Does.refl _ s) (Foot.le_refl _) _).parts pa hn
@[simp] theorem State.rd_postedDone (bad : Bool) (hn : Foot.postedDone.hasR fl.r = false) : (State.postedDone s bad).rd fl i0 j0 = s.rd fl i0 j0 :=
  (Does.postedDone (Does.refl _ s) (Foot.le_refl _) _).rd hn _ _
@[simp] theorem State.reg_postedDone (bad : Bool) (hn : Foot.postedDone.hasR ra = false) : (State.postedDone s bad).reg ra i0 j0 = s.reg ra i0 j0 :=
  (Does.postedDone (Does.refl _ s) (Foot.le_refl _) _).reg hn _ _
@[simp] theorem State.v_postedDone (bad : Bool) (hn : Foot.postedDone.hasV va = false) : (State.postedDone s bad).v va i0 j0 = s.v va i0 j0 :=
  (Does.postedDone (Does.refl _ s) (Foot.le_refl _) _).v hn _ _
@[simp] theorem State.part_postedDone (bad : Bool) (hn : Foot.postedDone.hasP pa = false) : (State.postedDone s bad).part pa = s.part pa :=
  (Does.postedDone (Does.refl _ s) (Foot.le_refl _) _).parts pa hn
@[simp] theorem State.rd_lpHubSet (r : Reg) (l : Nat) (w : Word) (hn : Foot.lpHubSet.hasR fl.r = false) : (State.lpHubSet s r l w).rd fl i0 j0 = s.rd fl i0 j0 :=
  (Does.lpHubSet (Does.refl _ s) (Foot.le_refl _) _ _ _).rd hn _ _
@[simp] theorem State.reg_lpHubSet (r : Reg) (l : Nat) (w : Word) (hn : Foot.lpHubSet.hasR ra = false) : (State.lpHubSet s r l w).reg ra i0 j0 = s.reg ra i0 j0 :=
  (Does.lpHubSet (Does.refl _ s) (Foot.le_refl _) _ _ _).reg hn _ _
@[simp] theorem State.v_lpHubSet (r : Reg) (l : Nat) (w : Word) (hn : Foot.lpHubSet.hasV va = false) : (State.lpHubSet s r l w).v va i0 j0 = s.v va i0 j0 :=
  (Does.lpHubSet (Does.refl _ s) (Foot.le_refl _) _ _ _).v hn _ _
@[simp] theorem State.part_lpHubSet (r : Reg) (l : Nat) (w : Word) (hn : Foot.lpHubSet.hasP pa = false) : (State.lpHubSet s r l w).part pa = s.part pa :=
  (Does.lpHubSet (Does.refl _ s) (Foot.le_refl _) _ _ _).parts pa hn
@[simp] theorem State.rd_hubCopy (a : Nat) (wide : Bool) (w : Word) (hn : Foot.hubCopy.hasR fl.r = false) : (State.hubCopy s a wide w).rd fl i0 j0 = s.rd fl i0 j0 :=
  (Does.hubCopy (Does.refl _ s) (Foot.le_refl _) _ _ _).rd hn _ _
@[simp] theorem State.reg_hubCopy (a : Nat) (wide : Bool) (w : Word) (hn : Foot.hubCopy.hasR ra = false) : (State.hubCopy s a wide w).reg ra i0 j0 = s.reg ra i0 j0 :=
  (Does.hubCopy (Does.refl _ s) (Foot.le_refl _) _ _ _).reg hn _ _
@[simp] theorem State.v_hubCopy (a : Nat) (wide : Bool) (w : Word) (hn : Foot.hubCopy.hasV va = false) : (State.hubCopy s a wide w).v va i0 j0 = s.v va i0 j0 :=
  (Does.hubCopy (Does.refl _ s) (Foot.le_refl _) _ _ _).v hn _ _
@[simp] theorem State.part_hubCopy (a : Nat) (wide : Bool) (w : Word) (hn : Foot.hubCopy.hasP pa = false) : (State.hubCopy s a wide w).part pa = s.part pa :=
  (Does.hubCopy (Does.refl _ s) (Foot.le_refl _) _ _ _).parts pa hn
@[simp] theorem State.rd_copySend (ans : Option Port) (a : Nat) (w : Word) (wide : Bool) (d : Nat) (rest : List Nat) (hn : Foot.copySend.hasR fl.r = false) : (State.copySend s ans a w wide d rest).2.rd fl i0 j0 = s.rd fl i0 j0 :=
  (Does.copySend (Does.refl _ s) (Foot.le_refl _) _ _ _ _ _ _).rd hn _ _
@[simp] theorem State.reg_copySend (ans : Option Port) (a : Nat) (w : Word) (wide : Bool) (d : Nat) (rest : List Nat) (hn : Foot.copySend.hasR ra = false) : (State.copySend s ans a w wide d rest).2.reg ra i0 j0 = s.reg ra i0 j0 :=
  (Does.copySend (Does.refl _ s) (Foot.le_refl _) _ _ _ _ _ _).reg hn _ _
@[simp] theorem State.v_copySend (ans : Option Port) (a : Nat) (w : Word) (wide : Bool) (d : Nat) (rest : List Nat) (hn : Foot.copySend.hasV va = false) : (State.copySend s ans a w wide d rest).2.v va i0 j0 = s.v va i0 j0 :=
  (Does.copySend (Does.refl _ s) (Foot.le_refl _) _ _ _ _ _ _).v hn _ _
@[simp] theorem State.part_copySend (ans : Option Port) (a : Nat) (w : Word) (wide : Bool) (d : Nat) (rest : List Nat) (hn : Foot.copySend.hasP pa = false) : (State.copySend s ans a w wide d rest).2.part pa = s.part pa :=
  (Does.copySend (Does.refl _ s) (Foot.le_refl _) _ _ _ _ _ _).parts pa hn
@[simp] theorem State.rd_copyAns (ans : Option Port) (a : Nat) (st : Status) (hn : Foot.copyAns.hasR fl.r = false) : (State.copyAns s ans a st).rd fl i0 j0 = s.rd fl i0 j0 :=
  (Does.copyAns (Does.refl _ s) (Foot.le_refl _) _ _ _).rd hn _ _
@[simp] theorem State.reg_copyAns (ans : Option Port) (a : Nat) (st : Status) (hn : Foot.copyAns.hasR ra = false) : (State.copyAns s ans a st).reg ra i0 j0 = s.reg ra i0 j0 :=
  (Does.copyAns (Does.refl _ s) (Foot.le_refl _) _ _ _).reg hn _ _
@[simp] theorem State.v_copyAns (ans : Option Port) (a : Nat) (st : Status) (hn : Foot.copyAns.hasV va = false) : (State.copyAns s ans a st).v va i0 j0 = s.v va i0 j0 :=
  (Does.copyAns (Does.refl _ s) (Foot.le_refl _) _ _ _).v hn _ _
@[simp] theorem State.part_copyAns (ans : Option Port) (a : Nat) (st : Status) (hn : Foot.copyAns.hasP pa = false) : (State.copyAns s ans a st).part pa = s.part pa :=
  (Does.copyAns (Does.refl _ s) (Foot.le_refl _) _ _ _).parts pa hn
@[simp] theorem State.rd_cmdAnswered (p : CmdPend) (st : Status) (data : Word) (hn : Foot.cmdAnswered.hasR fl.r = false) : (State.cmdAnswered s p st data).rd fl i0 j0 = s.rd fl i0 j0 :=
  (Does.cmdAnswered (Does.refl _ s) (Foot.le_refl _) _ _ _).rd hn _ _
@[simp] theorem State.reg_cmdAnswered (p : CmdPend) (st : Status) (data : Word) (hn : Foot.cmdAnswered.hasR ra = false) : (State.cmdAnswered s p st data).reg ra i0 j0 = s.reg ra i0 j0 :=
  (Does.cmdAnswered (Does.refl _ s) (Foot.le_refl _) _ _ _).reg hn _ _
@[simp] theorem State.v_cmdAnswered (p : CmdPend) (st : Status) (data : Word) (hn : Foot.cmdAnswered.hasV va = false) : (State.cmdAnswered s p st data).v va i0 j0 = s.v va i0 j0 :=
  (Does.cmdAnswered (Does.refl _ s) (Foot.le_refl _) _ _ _).v hn _ _
@[simp] theorem State.part_cmdAnswered (p : CmdPend) (st : Status) (data : Word) (hn : Foot.cmdAnswered.hasP pa = false) : (State.cmdAnswered s p st data).part pa = s.part pa :=
  (Does.cmdAnswered (Does.refl _ s) (Foot.le_refl _) _ _ _).parts pa hn
@[simp] theorem State.rd_fenceProgress (d : Nat) (hn : Foot.fenceProgress.hasR fl.r = false) : (State.fenceProgress s d).rd fl i0 j0 = s.rd fl i0 j0 :=
  (Does.fenceProgress (Does.refl _ s) (Foot.le_refl _) _).rd hn _ _
@[simp] theorem State.reg_fenceProgress (d : Nat) (hn : Foot.fenceProgress.hasR ra = false) : (State.fenceProgress s d).reg ra i0 j0 = s.reg ra i0 j0 :=
  (Does.fenceProgress (Does.refl _ s) (Foot.le_refl _) _).reg hn _ _
@[simp] theorem State.v_fenceProgress (d : Nat) (hn : Foot.fenceProgress.hasV va = false) : (State.fenceProgress s d).v va i0 j0 = s.v va i0 j0 :=
  (Does.fenceProgress (Does.refl _ s) (Foot.le_refl _) _).v hn _ _
@[simp] theorem State.part_fenceProgress (d : Nat) (hn : Foot.fenceProgress.hasP pa = false) : (State.fenceProgress s d).part pa = s.part pa :=
  (Does.fenceProgress (Does.refl _ s) (Foot.le_refl _) _).parts pa hn
@[simp] theorem State.rd_guardAnswer (p : CmdPend) (hn : Foot.guardAnswer.hasR fl.r = false) : (State.guardAnswer s p).rd fl i0 j0 = s.rd fl i0 j0 :=
  (Does.guardAnswer (Does.refl _ s) (Foot.le_refl _) _).rd hn _ _
@[simp] theorem State.reg_guardAnswer (p : CmdPend) (hn : Foot.guardAnswer.hasR ra = false) : (State.guardAnswer s p).reg ra i0 j0 = s.reg ra i0 j0 :=
  (Does.guardAnswer (Does.refl _ s) (Foot.le_refl _) _).reg hn _ _
@[simp] theorem State.v_guardAnswer (p : CmdPend) (hn : Foot.guardAnswer.hasV va = false) : (State.guardAnswer s p).v va i0 j0 = s.v va i0 j0 :=
  (Does.guardAnswer (Does.refl _ s) (Foot.le_refl _) _).v hn _ _
@[simp] theorem State.part_guardAnswer (p : CmdPend) (hn : Foot.guardAnswer.hasP pa = false) : (State.guardAnswer s p).part pa = s.part pa :=
  (Does.guardAnswer (Does.refl _ s) (Foot.le_refl _) _).parts pa hn
@[simp] theorem State.rd_guardWait (e : ChEnd) (hn : Foot.guardWait.hasR fl.r = false) : (State.guardWait s e).rd fl i0 j0 = s.rd fl i0 j0 :=
  (Does.guardWait (Does.refl _ s) (Foot.le_refl _) _).rd hn _ _
@[simp] theorem State.reg_guardWait (e : ChEnd) (hn : Foot.guardWait.hasR ra = false) : (State.guardWait s e).reg ra i0 j0 = s.reg ra i0 j0 :=
  (Does.guardWait (Does.refl _ s) (Foot.le_refl _) _).reg hn _ _
@[simp] theorem State.v_guardWait (e : ChEnd) (hn : Foot.guardWait.hasV va = false) : (State.guardWait s e).v va i0 j0 = s.v va i0 j0 :=
  (Does.guardWait (Does.refl _ s) (Foot.le_refl _) _).v hn _ _
@[simp] theorem State.part_guardWait (e : ChEnd) (hn : Foot.guardWait.hasP pa = false) : (State.guardWait s e).part pa = s.part pa :=
  (Does.guardWait (Does.refl _ s) (Foot.le_refl _) _).parts pa hn
@[simp] theorem State.rd_guardAll (e : ChEnd) (hn : Foot.guardAll.hasR fl.r = false) : (State.guardAll s e).rd fl i0 j0 = s.rd fl i0 j0 :=
  (Does.guardAll (Does.refl _ s) (Foot.le_refl _) _).rd hn _ _
@[simp] theorem State.reg_guardAll (e : ChEnd) (hn : Foot.guardAll.hasR ra = false) : (State.guardAll s e).reg ra i0 j0 = s.reg ra i0 j0 :=
  (Does.guardAll (Does.refl _ s) (Foot.le_refl _) _).reg hn _ _
@[simp] theorem State.v_guardAll (e : ChEnd) (hn : Foot.guardAll.hasV va = false) : (State.guardAll s e).v va i0 j0 = s.v va i0 j0 :=
  (Does.guardAll (Does.refl _ s) (Foot.le_refl _) _).v hn _ _
@[simp] theorem State.part_guardAll (e : ChEnd) (hn : Foot.guardAll.hasP pa = false) : (State.guardAll s e).part pa = s.part pa :=
  (Does.guardAll (Does.refl _ s) (Foot.le_refl _) _).parts pa hn
@[simp] theorem State.rd_fenceIssue (e : ChEnd) (scope : Nat) (hn : Foot.fenceIssue.hasR fl.r = false) : (State.fenceIssue s e scope).2.rd fl i0 j0 = s.rd fl i0 j0 :=
  (Does.fenceIssue (Does.refl _ s) (Foot.le_refl _) _ _).rd hn _ _
@[simp] theorem State.reg_fenceIssue (e : ChEnd) (scope : Nat) (hn : Foot.fenceIssue.hasR ra = false) : (State.fenceIssue s e scope).2.reg ra i0 j0 = s.reg ra i0 j0 :=
  (Does.fenceIssue (Does.refl _ s) (Foot.le_refl _) _ _).reg hn _ _
@[simp] theorem State.v_fenceIssue (e : ChEnd) (scope : Nat) (hn : Foot.fenceIssue.hasV va = false) : (State.fenceIssue s e scope).2.v va i0 j0 = s.v va i0 j0 :=
  (Does.fenceIssue (Does.refl _ s) (Foot.le_refl _) _ _).v hn _ _
@[simp] theorem State.part_fenceIssue (e : ChEnd) (scope : Nat) (hn : Foot.fenceIssue.hasP pa = false) : (State.fenceIssue s e scope).2.part pa = s.part pa :=
  (Does.fenceIssue (Does.refl _ s) (Foot.le_refl _) _ _).parts pa hn
@[simp] theorem State.rd_creditStart (l : Nat) (q : Nat) (rows : Nat) (hn : Foot.creditStart.hasR fl.r = false) : (State.creditStart s l q rows).rd fl i0 j0 = s.rd fl i0 j0 :=
  (Does.creditStart (Does.refl _ s) (Foot.le_refl _) _ _ _).rd hn _ _
@[simp] theorem State.reg_creditStart (l : Nat) (q : Nat) (rows : Nat) (hn : Foot.creditStart.hasR ra = false) : (State.creditStart s l q rows).reg ra i0 j0 = s.reg ra i0 j0 :=
  (Does.creditStart (Does.refl _ s) (Foot.le_refl _) _ _ _).reg hn _ _
@[simp] theorem State.v_creditStart (l : Nat) (q : Nat) (rows : Nat) (hn : Foot.creditStart.hasV va = false) : (State.creditStart s l q rows).v va i0 j0 = s.v va i0 j0 :=
  (Does.creditStart (Does.refl _ s) (Foot.le_refl _) _ _ _).v hn _ _
@[simp] theorem State.part_creditStart (l : Nat) (q : Nat) (rows : Nat) (hn : Foot.creditStart.hasP pa = false) : (State.creditStart s l q rows).part pa = s.part pa :=
  (Does.creditStart (Does.refl _ s) (Foot.le_refl _) _ _ _).parts pa hn
@[simp] theorem State.rd_scoreRamp (l : Nat) (p : Nat) (hn : Foot.scoreRamp.hasR fl.r = false) : (State.scoreRamp s l p).rd fl i0 j0 = s.rd fl i0 j0 :=
  (Does.scoreRamp (Does.refl _ s) (Foot.le_refl _) _ _).rd hn _ _
@[simp] theorem State.reg_scoreRamp (l : Nat) (p : Nat) (hn : Foot.scoreRamp.hasR ra = false) : (State.scoreRamp s l p).reg ra i0 j0 = s.reg ra i0 j0 :=
  (Does.scoreRamp (Does.refl _ s) (Foot.le_refl _) _ _).reg hn _ _
@[simp] theorem State.v_scoreRamp (l : Nat) (p : Nat) (hn : Foot.scoreRamp.hasV va = false) : (State.scoreRamp s l p).v va i0 j0 = s.v va i0 j0 :=
  (Does.scoreRamp (Does.refl _ s) (Foot.le_refl _) _ _).v hn _ _
@[simp] theorem State.part_scoreRamp (l : Nat) (p : Nat) (hn : Foot.scoreRamp.hasP pa = false) : (State.scoreRamp s l p).part pa = s.part pa :=
  (Does.scoreRamp (Does.refl _ s) (Foot.le_refl _) _ _).parts pa hn
@[simp] theorem State.rd_scoreShow (l : Nat) (hn : Foot.scoreShow.hasR fl.r = false) : (State.scoreShow s l).rd fl i0 j0 = s.rd fl i0 j0 :=
  (Does.scoreShow (Does.refl _ s) (Foot.le_refl _) _).rd hn _ _
@[simp] theorem State.reg_scoreShow (l : Nat) (hn : Foot.scoreShow.hasR ra = false) : (State.scoreShow s l).reg ra i0 j0 = s.reg ra i0 j0 :=
  (Does.scoreShow (Does.refl _ s) (Foot.le_refl _) _).reg hn _ _
@[simp] theorem State.v_scoreShow (l : Nat) (hn : Foot.scoreShow.hasV va = false) : (State.scoreShow s l).v va i0 j0 = s.v va i0 j0 :=
  (Does.scoreShow (Does.refl _ s) (Foot.le_refl _) _).v hn _ _
@[simp] theorem State.part_scoreShow (l : Nat) (hn : Foot.scoreShow.hasP pa = false) : (State.scoreShow s l).part pa = s.part pa :=
  (Does.scoreShow (Does.refl _ s) (Foot.le_refl _) _).parts pa hn
@[simp] theorem State.rd_winLatch (l : Nat) (hn : Foot.winLatch.hasR fl.r = false) : (State.winLatch s l).rd fl i0 j0 = s.rd fl i0 j0 :=
  (Does.winLatch (Does.refl _ s) (Foot.le_refl _) _).rd hn _ _
@[simp] theorem State.reg_winLatch (l : Nat) (hn : Foot.winLatch.hasR ra = false) : (State.winLatch s l).reg ra i0 j0 = s.reg ra i0 j0 :=
  (Does.winLatch (Does.refl _ s) (Foot.le_refl _) _).reg hn _ _
@[simp] theorem State.v_winLatch (l : Nat) (hn : Foot.winLatch.hasV va = false) : (State.winLatch s l).v va i0 j0 = s.v va i0 j0 :=
  (Does.winLatch (Does.refl _ s) (Foot.le_refl _) _).v hn _ _
@[simp] theorem State.part_winLatch (l : Nat) (hn : Foot.winLatch.hasP pa = false) : (State.winLatch s l).part pa = s.part pa :=
  (Does.winLatch (Does.refl _ s) (Foot.le_refl _) _).parts pa hn
@[simp] theorem State.rd_creditWindow (l : Nat) (rows : List (Nat × Nat)) (hn : Foot.creditWindow.hasR fl.r = false) : (State.creditWindow s l rows).rd fl i0 j0 = s.rd fl i0 j0 :=
  (Does.creditWindow (Does.refl _ s) (Foot.le_refl _) _ _).rd hn _ _
@[simp] theorem State.reg_creditWindow (l : Nat) (rows : List (Nat × Nat)) (hn : Foot.creditWindow.hasR ra = false) : (State.creditWindow s l rows).reg ra i0 j0 = s.reg ra i0 j0 :=
  (Does.creditWindow (Does.refl _ s) (Foot.le_refl _) _ _).reg hn _ _
@[simp] theorem State.v_creditWindow (l : Nat) (rows : List (Nat × Nat)) (hn : Foot.creditWindow.hasV va = false) : (State.creditWindow s l rows).v va i0 j0 = s.v va i0 j0 :=
  (Does.creditWindow (Does.refl _ s) (Foot.le_refl _) _ _).v hn _ _
@[simp] theorem State.part_creditWindow (l : Nat) (rows : List (Nat × Nat)) (hn : Foot.creditWindow.hasP pa = false) : (State.creditWindow s l rows).part pa = s.part pa :=
  (Does.creditWindow (Does.refl _ s) (Foot.le_refl _) _ _).parts pa hn
@[simp] theorem State.rd_shapeFrame (kind : Nat) (src : Nat) (di : Nat) (shape : Nat) (ofs : Nat) (hn : Foot.shapeFrame.hasR fl.r = false) : (State.shapeFrame s kind src di shape ofs).rd fl i0 j0 = s.rd fl i0 j0 :=
  (Does.shapeFrame (Does.refl _ s) (Foot.le_refl _) _ _ _ _ _).rd hn _ _
@[simp] theorem State.reg_shapeFrame (kind : Nat) (src : Nat) (di : Nat) (shape : Nat) (ofs : Nat) (hn : Foot.shapeFrame.hasR ra = false) : (State.shapeFrame s kind src di shape ofs).reg ra i0 j0 = s.reg ra i0 j0 :=
  (Does.shapeFrame (Does.refl _ s) (Foot.le_refl _) _ _ _ _ _).reg hn _ _
@[simp] theorem State.v_shapeFrame (kind : Nat) (src : Nat) (di : Nat) (shape : Nat) (ofs : Nat) (hn : Foot.shapeFrame.hasV va = false) : (State.shapeFrame s kind src di shape ofs).v va i0 j0 = s.v va i0 j0 :=
  (Does.shapeFrame (Does.refl _ s) (Foot.le_refl _) _ _ _ _ _).v hn _ _
@[simp] theorem State.part_shapeFrame (kind : Nat) (src : Nat) (di : Nat) (shape : Nat) (ofs : Nat) (hn : Foot.shapeFrame.hasP pa = false) : (State.shapeFrame s kind src di shape ofs).part pa = s.part pa :=
  (Does.shapeFrame (Does.refl _ s) (Foot.le_refl _) _ _ _ _ _).parts pa hn
@[simp] theorem State.rd_scoreClamp (l : Nat) (d : Nat) (fresh : Bool) (hn : Foot.scoreClamp.hasR fl.r = false) : (State.scoreClamp s l d fresh).rd fl i0 j0 = s.rd fl i0 j0 :=
  (Does.scoreClamp (Does.refl _ s) (Foot.le_refl _) _ _ _).rd hn _ _
@[simp] theorem State.reg_scoreClamp (l : Nat) (d : Nat) (fresh : Bool) (hn : Foot.scoreClamp.hasR ra = false) : (State.scoreClamp s l d fresh).reg ra i0 j0 = s.reg ra i0 j0 :=
  (Does.scoreClamp (Does.refl _ s) (Foot.le_refl _) _ _ _).reg hn _ _
@[simp] theorem State.v_scoreClamp (l : Nat) (d : Nat) (fresh : Bool) (hn : Foot.scoreClamp.hasV va = false) : (State.scoreClamp s l d fresh).v va i0 j0 = s.v va i0 j0 :=
  (Does.scoreClamp (Does.refl _ s) (Foot.le_refl _) _ _ _).v hn _ _
@[simp] theorem State.part_scoreClamp (l : Nat) (d : Nat) (fresh : Bool) (hn : Foot.scoreClamp.hasP pa = false) : (State.scoreClamp s l d fresh).part pa = s.part pa :=
  (Does.scoreClamp (Does.refl _ s) (Foot.le_refl _) _ _ _).parts pa hn
@[simp] theorem State.rd_ddSample (d : Nat) (c : Nat) (hn : Foot.ddSample.hasR fl.r = false) : (State.ddSample s d c).rd fl i0 j0 = s.rd fl i0 j0 :=
  (Does.ddSample (Does.refl _ s) (Foot.le_refl _) _ _).rd hn _ _
@[simp] theorem State.reg_ddSample (d : Nat) (c : Nat) (hn : Foot.ddSample.hasR ra = false) : (State.ddSample s d c).reg ra i0 j0 = s.reg ra i0 j0 :=
  (Does.ddSample (Does.refl _ s) (Foot.le_refl _) _ _).reg hn _ _
@[simp] theorem State.v_ddSample (d : Nat) (c : Nat) (hn : Foot.ddSample.hasV va = false) : (State.ddSample s d c).v va i0 j0 = s.v va i0 j0 :=
  (Does.ddSample (Does.refl _ s) (Foot.le_refl _) _ _).v hn _ _
@[simp] theorem State.part_ddSample (d : Nat) (c : Nat) (hn : Foot.ddSample.hasP pa = false) : (State.ddSample s d c).part pa = s.part pa :=
  (Does.ddSample (Does.refl _ s) (Foot.le_refl _) _ _).parts pa hn
@[simp] theorem State.rd_ddCalReq (d : Nat) (hn : Foot.ddCalReq.hasR fl.r = false) : (State.ddCalReq s d).2.rd fl i0 j0 = s.rd fl i0 j0 :=
  (Does.ddCalReq (Does.refl _ s) (Foot.le_refl _) _).rd hn _ _
@[simp] theorem State.reg_ddCalReq (d : Nat) (hn : Foot.ddCalReq.hasR ra = false) : (State.ddCalReq s d).2.reg ra i0 j0 = s.reg ra i0 j0 :=
  (Does.ddCalReq (Does.refl _ s) (Foot.le_refl _) _).reg hn _ _
@[simp] theorem State.v_ddCalReq (d : Nat) (hn : Foot.ddCalReq.hasV va = false) : (State.ddCalReq s d).2.v va i0 j0 = s.v va i0 j0 :=
  (Does.ddCalReq (Does.refl _ s) (Foot.le_refl _) _).v hn _ _
@[simp] theorem State.part_ddCalReq (d : Nat) (hn : Foot.ddCalReq.hasP pa = false) : (State.ddCalReq s d).2.part pa = s.part pa :=
  (Does.ddCalReq (Does.refl _ s) (Foot.le_refl _) _).parts pa hn
@[simp] theorem State.rd_gateRsp (l : Nat) (q : Nat) (st : Nat) (hn : Foot.gateRsp.hasR fl.r = false) : (State.gateRsp s l q st).rd fl i0 j0 = s.rd fl i0 j0 :=
  (Does.gateRsp (Does.refl _ s) (Foot.le_refl _) _ _ _).rd hn _ _
@[simp] theorem State.reg_gateRsp (l : Nat) (q : Nat) (st : Nat) (hn : Foot.gateRsp.hasR ra = false) : (State.gateRsp s l q st).reg ra i0 j0 = s.reg ra i0 j0 :=
  (Does.gateRsp (Does.refl _ s) (Foot.le_refl _) _ _ _).reg hn _ _
@[simp] theorem State.v_gateRsp (l : Nat) (q : Nat) (st : Nat) (hn : Foot.gateRsp.hasV va = false) : (State.gateRsp s l q st).v va i0 j0 = s.v va i0 j0 :=
  (Does.gateRsp (Does.refl _ s) (Foot.le_refl _) _ _ _).v hn _ _
@[simp] theorem State.part_gateRsp (l : Nat) (q : Nat) (st : Nat) (hn : Foot.gateRsp.hasP pa = false) : (State.gateRsp s l q st).part pa = s.part pa :=
  (Does.gateRsp (Does.refl _ s) (Foot.le_refl _) _ _ _).parts pa hn
@[simp] theorem State.rd_heldShow (l : Nat) (hn : Foot.heldShow.hasR fl.r = false) : (State.heldShow s l).rd fl i0 j0 = s.rd fl i0 j0 :=
  (Does.heldShow (Does.refl _ s) (Foot.le_refl _) _).rd hn _ _
@[simp] theorem State.reg_heldShow (l : Nat) (hn : Foot.heldShow.hasR ra = false) : (State.heldShow s l).reg ra i0 j0 = s.reg ra i0 j0 :=
  (Does.heldShow (Does.refl _ s) (Foot.le_refl _) _).reg hn _ _
@[simp] theorem State.v_heldShow (l : Nat) (hn : Foot.heldShow.hasV va = false) : (State.heldShow s l).v va i0 j0 = s.v va i0 j0 :=
  (Does.heldShow (Does.refl _ s) (Foot.le_refl _) _).v hn _ _
@[simp] theorem State.part_heldShow (l : Nat) (hn : Foot.heldShow.hasP pa = false) : (State.heldShow s l).part pa = s.part pa :=
  (Does.heldShow (Does.refl _ s) (Foot.le_refl _) _).parts pa hn
@[simp] theorem State.rd_waveHold (l : Nat) (q : Nat) (tE : Nat) (st : Nat) (hn : Foot.waveHold.hasR fl.r = false) : (State.waveHold s l q tE st).rd fl i0 j0 = s.rd fl i0 j0 :=
  (Does.waveHold (Does.refl _ s) (Foot.le_refl _) _ _ _ _).rd hn _ _
@[simp] theorem State.reg_waveHold (l : Nat) (q : Nat) (tE : Nat) (st : Nat) (hn : Foot.waveHold.hasR ra = false) : (State.waveHold s l q tE st).reg ra i0 j0 = s.reg ra i0 j0 :=
  (Does.waveHold (Does.refl _ s) (Foot.le_refl _) _ _ _ _).reg hn _ _
@[simp] theorem State.v_waveHold (l : Nat) (q : Nat) (tE : Nat) (st : Nat) (hn : Foot.waveHold.hasV va = false) : (State.waveHold s l q tE st).v va i0 j0 = s.v va i0 j0 :=
  (Does.waveHold (Does.refl _ s) (Foot.le_refl _) _ _ _ _).v hn _ _
@[simp] theorem State.part_waveHold (l : Nat) (q : Nat) (tE : Nat) (st : Nat) (hn : Foot.waveHold.hasP pa = false) : (State.waveHold s l q tE st).part pa = s.part pa :=
  (Does.waveHold (Does.refl _ s) (Foot.le_refl _) _ _ _ _).parts pa hn
@[simp] theorem State.rd_waveEnd (l : Nat) (q : Nat) (hn : Foot.waveEnd.hasR fl.r = false) : (State.waveEnd s l q).rd fl i0 j0 = s.rd fl i0 j0 :=
  (Does.waveEnd (Does.refl _ s) (Foot.le_refl _) _ _).rd hn _ _
@[simp] theorem State.reg_waveEnd (l : Nat) (q : Nat) (hn : Foot.waveEnd.hasR ra = false) : (State.waveEnd s l q).reg ra i0 j0 = s.reg ra i0 j0 :=
  (Does.waveEnd (Does.refl _ s) (Foot.le_refl _) _ _).reg hn _ _
@[simp] theorem State.v_waveEnd (l : Nat) (q : Nat) (hn : Foot.waveEnd.hasV va = false) : (State.waveEnd s l q).v va i0 j0 = s.v va i0 j0 :=
  (Does.waveEnd (Does.refl _ s) (Foot.le_refl _) _ _).v hn _ _
@[simp] theorem State.part_waveEnd (l : Nat) (q : Nat) (hn : Foot.waveEnd.hasP pa = false) : (State.waveEnd s l q).part pa = s.part pa :=
  (Does.waveEnd (Does.refl _ s) (Foot.le_refl _) _ _).parts pa hn
@[simp] theorem State.rd_wavesDue (l : Nat) (hn : Foot.wavesDue.hasR fl.r = false) : (State.wavesDue s l).rd fl i0 j0 = s.rd fl i0 j0 :=
  (Does.wavesDue (Does.refl _ s) (Foot.le_refl _) _).rd hn _ _
@[simp] theorem State.reg_wavesDue (l : Nat) (hn : Foot.wavesDue.hasR ra = false) : (State.wavesDue s l).reg ra i0 j0 = s.reg ra i0 j0 :=
  (Does.wavesDue (Does.refl _ s) (Foot.le_refl _) _).reg hn _ _
@[simp] theorem State.v_wavesDue (l : Nat) (hn : Foot.wavesDue.hasV va = false) : (State.wavesDue s l).v va i0 j0 = s.v va i0 j0 :=
  (Does.wavesDue (Does.refl _ s) (Foot.le_refl _) _).v hn _ _
@[simp] theorem State.part_wavesDue (l : Nat) (hn : Foot.wavesDue.hasP pa = false) : (State.wavesDue s l).part pa = s.part pa :=
  (Does.wavesDue (Does.refl _ s) (Foot.le_refl _) _).parts pa hn
@[simp] theorem State.rd_predNote (r : Nat) (di : Nat) (hn : Foot.predNote.hasR fl.r = false) : (State.predNote s r di).rd fl i0 j0 = s.rd fl i0 j0 :=
  (Does.predNote (Does.refl _ s) (Foot.le_refl _) _ _).rd hn _ _
@[simp] theorem State.reg_predNote (r : Nat) (di : Nat) (hn : Foot.predNote.hasR ra = false) : (State.predNote s r di).reg ra i0 j0 = s.reg ra i0 j0 :=
  (Does.predNote (Does.refl _ s) (Foot.le_refl _) _ _).reg hn _ _
@[simp] theorem State.v_predNote (r : Nat) (di : Nat) (hn : Foot.predNote.hasV va = false) : (State.predNote s r di).v va i0 j0 = s.v va i0 j0 :=
  (Does.predNote (Does.refl _ s) (Foot.le_refl _) _ _).v hn _ _
@[simp] theorem State.part_predNote (r : Nat) (di : Nat) (hn : Foot.predNote.hasP pa = false) : (State.predNote s r di).part pa = s.part pa :=
  (Does.predNote (Does.refl _ s) (Foot.le_refl _) _ _).parts pa hn
@[simp] theorem State.rd_riseShow (r : Nat) (hn : Foot.riseShow.hasR fl.r = false) : (State.riseShow s r).rd fl i0 j0 = s.rd fl i0 j0 :=
  (Does.riseShow (Does.refl _ s) (Foot.le_refl _) _).rd hn _ _
@[simp] theorem State.reg_riseShow (r : Nat) (hn : Foot.riseShow.hasR ra = false) : (State.riseShow s r).reg ra i0 j0 = s.reg ra i0 j0 :=
  (Does.riseShow (Does.refl _ s) (Foot.le_refl _) _).reg hn _ _
@[simp] theorem State.v_riseShow (r : Nat) (hn : Foot.riseShow.hasV va = false) : (State.riseShow s r).v va i0 j0 = s.v va i0 j0 :=
  (Does.riseShow (Does.refl _ s) (Foot.le_refl _) _).v hn _ _
@[simp] theorem State.part_riseShow (r : Nat) (hn : Foot.riseShow.hasP pa = false) : (State.riseShow s r).part pa = s.part pa :=
  (Does.riseShow (Does.refl _ s) (Foot.le_refl _) _).parts pa hn
@[simp] theorem State.rd_setRise (l : List RiseReq) (hn : Foot.setRise.hasR fl.r = false) : (State.setRise s l).rd fl i0 j0 = s.rd fl i0 j0 :=
  (Does.setRise (Does.refl _ s) (Foot.le_refl _) _).rd hn _ _
@[simp] theorem State.reg_setRise (l : List RiseReq) (hn : Foot.setRise.hasR ra = false) : (State.setRise s l).reg ra i0 j0 = s.reg ra i0 j0 :=
  (Does.setRise (Does.refl _ s) (Foot.le_refl _) _).reg hn _ _
@[simp] theorem State.v_setRise (l : List RiseReq) (hn : Foot.setRise.hasV va = false) : (State.setRise s l).v va i0 j0 = s.v va i0 j0 :=
  (Does.setRise (Does.refl _ s) (Foot.le_refl _) _).v hn _ _
@[simp] theorem State.part_setRise (l : List RiseReq) (hn : Foot.setRise.hasP pa = false) : (State.setRise s l).part pa = s.part pa :=
  (Does.setRise (Does.refl _ s) (Foot.le_refl _) _).parts pa hn
@[simp] theorem State.rd_riseStop (sel : RiseReq → Bool) (hn : Foot.riseStop.hasR fl.r = false) : (State.riseStop s sel).rd fl i0 j0 = s.rd fl i0 j0 :=
  (Does.riseStop (Does.refl _ s) (Foot.le_refl _) _).rd hn _ _
@[simp] theorem State.reg_riseStop (sel : RiseReq → Bool) (hn : Foot.riseStop.hasR ra = false) : (State.riseStop s sel).reg ra i0 j0 = s.reg ra i0 j0 :=
  (Does.riseStop (Does.refl _ s) (Foot.le_refl _) _).reg hn _ _
@[simp] theorem State.v_riseStop (sel : RiseReq → Bool) (hn : Foot.riseStop.hasV va = false) : (State.riseStop s sel).v va i0 j0 = s.v va i0 j0 :=
  (Does.riseStop (Does.refl _ s) (Foot.le_refl _) _).v hn _ _
@[simp] theorem State.part_riseStop (sel : RiseReq → Bool) (hn : Foot.riseStop.hasP pa = false) : (State.riseStop s sel).part pa = s.part pa :=
  (Does.riseStop (Does.refl _ s) (Foot.le_refl _) _).parts pa hn
@[simp] theorem State.rd_riseOpen (o : Nat) (r : Nat) (hn : Foot.riseOpen.hasR fl.r = false) : (State.riseOpen s o r).rd fl i0 j0 = s.rd fl i0 j0 :=
  (Does.riseOpen (Does.refl _ s) (Foot.le_refl _) _ _).rd hn _ _
@[simp] theorem State.reg_riseOpen (o : Nat) (r : Nat) (hn : Foot.riseOpen.hasR ra = false) : (State.riseOpen s o r).reg ra i0 j0 = s.reg ra i0 j0 :=
  (Does.riseOpen (Does.refl _ s) (Foot.le_refl _) _ _).reg hn _ _
@[simp] theorem State.v_riseOpen (o : Nat) (r : Nat) (hn : Foot.riseOpen.hasV va = false) : (State.riseOpen s o r).v va i0 j0 = s.v va i0 j0 :=
  (Does.riseOpen (Does.refl _ s) (Foot.le_refl _) _ _).v hn _ _
@[simp] theorem State.part_riseOpen (o : Nat) (r : Nat) (hn : Foot.riseOpen.hasP pa = false) : (State.riseOpen s o r).part pa = s.part pa :=
  (Does.riseOpen (Does.refl _ s) (Foot.le_refl _) _ _).parts pa hn
@[simp] theorem State.rd_formThat (o : Nat) (hn : Foot.formThat.hasR fl.r = false) : (State.formThat s o).rd fl i0 j0 = s.rd fl i0 j0 :=
  (Does.formThat (Does.refl _ s) (Foot.le_refl _) _).rd hn _ _
@[simp] theorem State.reg_formThat (o : Nat) (hn : Foot.formThat.hasR ra = false) : (State.formThat s o).reg ra i0 j0 = s.reg ra i0 j0 :=
  (Does.formThat (Does.refl _ s) (Foot.le_refl _) _).reg hn _ _
@[simp] theorem State.v_formThat (o : Nat) (hn : Foot.formThat.hasV va = false) : (State.formThat s o).v va i0 j0 = s.v va i0 j0 :=
  (Does.formThat (Does.refl _ s) (Foot.le_refl _) _).v hn _ _
@[simp] theorem State.part_formThat (o : Nat) (hn : Foot.formThat.hasP pa = false) : (State.formThat s o).part pa = s.part pa :=
  (Does.formThat (Does.refl _ s) (Foot.le_refl _) _).parts pa hn
@[simp] theorem State.rd_slotShape (c : Nat) (hn : Foot.slotShape.hasR fl.r = false) : (State.slotShape s c).rd fl i0 j0 = s.rd fl i0 j0 :=
  (Does.slotShape (Does.refl _ s) (Foot.le_refl _) _).rd hn _ _
@[simp] theorem State.reg_slotShape (c : Nat) (hn : Foot.slotShape.hasR ra = false) : (State.slotShape s c).reg ra i0 j0 = s.reg ra i0 j0 :=
  (Does.slotShape (Does.refl _ s) (Foot.le_refl _) _).reg hn _ _
@[simp] theorem State.v_slotShape (c : Nat) (hn : Foot.slotShape.hasV va = false) : (State.slotShape s c).v va i0 j0 = s.v va i0 j0 :=
  (Does.slotShape (Does.refl _ s) (Foot.le_refl _) _).v hn _ _
@[simp] theorem State.part_slotShape (c : Nat) (hn : Foot.slotShape.hasP pa = false) : (State.slotShape s c).part pa = s.part pa :=
  (Does.slotShape (Does.refl _ s) (Foot.le_refl _) _).parts pa hn
@[simp] theorem State.rd_shapeCancel (o : Nat) (hn : Foot.shapeCancel.hasR fl.r = false) : (State.shapeCancel s o).rd fl i0 j0 = s.rd fl i0 j0 :=
  (Does.shapeCancel (Does.refl _ s) (Foot.le_refl _) _).rd hn _ _
@[simp] theorem State.reg_shapeCancel (o : Nat) (hn : Foot.shapeCancel.hasR ra = false) : (State.shapeCancel s o).reg ra i0 j0 = s.reg ra i0 j0 :=
  (Does.shapeCancel (Does.refl _ s) (Foot.le_refl _) _).reg hn _ _
@[simp] theorem State.v_shapeCancel (o : Nat) (hn : Foot.shapeCancel.hasV va = false) : (State.shapeCancel s o).v va i0 j0 = s.v va i0 j0 :=
  (Does.shapeCancel (Does.refl _ s) (Foot.le_refl _) _).v hn _ _
@[simp] theorem State.part_shapeCancel (o : Nat) (hn : Foot.shapeCancel.hasP pa = false) : (State.shapeCancel s o).part pa = s.part pa :=
  (Does.shapeCancel (Does.refl _ s) (Foot.le_refl _) _).parts pa hn
@[simp] theorem State.rd_riseComplete (o : Nat) (g : Nat) (span : Nat) (hn : Foot.riseComplete.hasR fl.r = false) : (State.riseComplete s o g span).rd fl i0 j0 = s.rd fl i0 j0 :=
  (Does.riseComplete (Does.refl _ s) (Foot.le_refl _) _ _ _).rd hn _ _
@[simp] theorem State.reg_riseComplete (o : Nat) (g : Nat) (span : Nat) (hn : Foot.riseComplete.hasR ra = false) : (State.riseComplete s o g span).reg ra i0 j0 = s.reg ra i0 j0 :=
  (Does.riseComplete (Does.refl _ s) (Foot.le_refl _) _ _ _).reg hn _ _
@[simp] theorem State.v_riseComplete (o : Nat) (g : Nat) (span : Nat) (hn : Foot.riseComplete.hasV va = false) : (State.riseComplete s o g span).v va i0 j0 = s.v va i0 j0 :=
  (Does.riseComplete (Does.refl _ s) (Foot.le_refl _) _ _ _).v hn _ _
@[simp] theorem State.part_riseComplete (o : Nat) (g : Nat) (span : Nat) (hn : Foot.riseComplete.hasP pa = false) : (State.riseComplete s o g span).part pa = s.part pa :=
  (Does.riseComplete (Does.refl _ s) (Foot.le_refl _) _ _ _).parts pa hn
@[simp] theorem State.rd_riseSent (o : Nat) (hn : Foot.riseSent.hasR fl.r = false) : (State.riseSent s o).rd fl i0 j0 = s.rd fl i0 j0 :=
  (Does.riseSent (Does.refl _ s) (Foot.le_refl _) _).rd hn _ _
@[simp] theorem State.reg_riseSent (o : Nat) (hn : Foot.riseSent.hasR ra = false) : (State.riseSent s o).reg ra i0 j0 = s.reg ra i0 j0 :=
  (Does.riseSent (Does.refl _ s) (Foot.le_refl _) _).reg hn _ _
@[simp] theorem State.v_riseSent (o : Nat) (hn : Foot.riseSent.hasV va = false) : (State.riseSent s o).v va i0 j0 = s.v va i0 j0 :=
  (Does.riseSent (Does.refl _ s) (Foot.le_refl _) _).v hn _ _
@[simp] theorem State.part_riseSent (o : Nat) (hn : Foot.riseSent.hasP pa = false) : (State.riseSent s o).part pa = s.part pa :=
  (Does.riseSent (Does.refl _ s) (Foot.le_refl _) _).parts pa hn
@[simp] theorem State.rd_riseStopAll (hn : Foot.riseStopAll.hasR fl.r = false) : (State.riseStopAll s).rd fl i0 j0 = s.rd fl i0 j0 :=
  (Does.riseStopAll (Does.refl _ s) (Foot.le_refl _)).rd hn _ _
@[simp] theorem State.reg_riseStopAll (hn : Foot.riseStopAll.hasR ra = false) : (State.riseStopAll s).reg ra i0 j0 = s.reg ra i0 j0 :=
  (Does.riseStopAll (Does.refl _ s) (Foot.le_refl _)).reg hn _ _
@[simp] theorem State.v_riseStopAll (hn : Foot.riseStopAll.hasV va = false) : (State.riseStopAll s).v va i0 j0 = s.v va i0 j0 :=
  (Does.riseStopAll (Does.refl _ s) (Foot.le_refl _)).v hn _ _
@[simp] theorem State.part_riseStopAll (hn : Foot.riseStopAll.hasP pa = false) : (State.riseStopAll s).part pa = s.part pa :=
  (Does.riseStopAll (Does.refl _ s) (Foot.le_refl _)).parts pa hn
@[simp] theorem State.rd_proofShape (o : Nat) (ws : List Watch) (hn : Foot.proofShape.hasR fl.r = false) : (State.proofShape s o ws).2.2.rd fl i0 j0 = s.rd fl i0 j0 :=
  (Does.proofShape (Does.refl _ s) (Foot.le_refl _) _ _).rd hn _ _
@[simp] theorem State.reg_proofShape (o : Nat) (ws : List Watch) (hn : Foot.proofShape.hasR ra = false) : (State.proofShape s o ws).2.2.reg ra i0 j0 = s.reg ra i0 j0 :=
  (Does.proofShape (Does.refl _ s) (Foot.le_refl _) _ _).reg hn _ _
@[simp] theorem State.v_proofShape (o : Nat) (ws : List Watch) (hn : Foot.proofShape.hasV va = false) : (State.proofShape s o ws).2.2.v va i0 j0 = s.v va i0 j0 :=
  (Does.proofShape (Does.refl _ s) (Foot.le_refl _) _ _).v hn _ _
@[simp] theorem State.part_proofShape (o : Nat) (ws : List Watch) (hn : Foot.proofShape.hasP pa = false) : (State.proofShape s o ws).2.2.part pa = s.part pa :=
  (Does.proofShape (Does.refl _ s) (Foot.le_refl _) _ _).parts pa hn

end Sys2Proof.Machine
end

