-- ==== Sys2Proof/Laws/ReadsC.lean ====
section
/-!
SUPPORT. What work outside whose footprint a register or a variable lies leaves of its reads, for the operations of FootC.
-/
namespace Sys2Proof.Machine

variable {s : State} {fl : Fld} {ra : Reg} {va : Var} {pa : Part} {i0 j0 : Nat}

@[simp] theorem State.rd_syncPut (x : SyncOut) (hn : Foot.syncPut.hasR fl.r = false) : (State.syncPut s x).rd fl i0 j0 = s.rd fl i0 j0 :=
  (Does.syncPut (Does.refl _ s) (Foot.le_refl _) _).rd hn _ _
@[simp] theorem State.reg_syncPut (x : SyncOut) (hn : Foot.syncPut.hasR ra = false) : (State.syncPut s x).reg ra i0 j0 = s.reg ra i0 j0 :=
  (Does.syncPut (Does.refl _ s) (Foot.le_refl _) _).reg hn _ _
@[simp] theorem State.v_syncPut (x : SyncOut) (hn : Foot.syncPut.hasV va = false) : (State.syncPut s x).v va i0 j0 = s.v va i0 j0 :=
  (Does.syncPut (Does.refl _ s) (Foot.le_refl _) _).v hn _ _
@[simp] theorem State.part_syncPut (x : SyncOut) (hn : Foot.syncPut.hasP pa = false) : (State.syncPut s x).part pa = s.part pa :=
  (Does.syncPut (Does.refl _ s) (Foot.le_refl _) _).parts pa hn
@[simp] theorem State.rd_setWatches (l : List Watch) (hn : Foot.setWatches.hasR fl.r = false) : (State.setWatches s l).rd fl i0 j0 = s.rd fl i0 j0 :=
  (Does.setWatches (Does.refl _ s) (Foot.le_refl _) _).rd hn _ _
@[simp] theorem State.reg_setWatches (l : List Watch) (hn : Foot.setWatches.hasR ra = false) : (State.setWatches s l).reg ra i0 j0 = s.reg ra i0 j0 :=
  (Does.setWatches (Does.refl _ s) (Foot.le_refl _) _).reg hn _ _
@[simp] theorem State.v_setWatches (l : List Watch) (hn : Foot.setWatches.hasV va = false) : (State.setWatches s l).v va i0 j0 = s.v va i0 j0 :=
  (Does.setWatches (Does.refl _ s) (Foot.le_refl _) _).v hn _ _
@[simp] theorem State.part_setWatches (l : List Watch) (hn : Foot.setWatches.hasP pa = false) : (State.setWatches s l).part pa = s.part pa :=
  (Does.setWatches (Does.refl _ s) (Foot.le_refl _) _).parts pa hn
@[simp] theorem State.rd_syncFrame (op : Nat) (o : Nat) (n : Nat) (st : Nat) (hn : Foot.syncFrame.hasR fl.r = false) : (State.syncFrame s op o n st).rd fl i0 j0 = s.rd fl i0 j0 :=
  (Does.syncFrame (Does.refl _ s) (Foot.le_refl _) _ _ _ _).rd hn _ _
@[simp] theorem State.reg_syncFrame (op : Nat) (o : Nat) (n : Nat) (st : Nat) (hn : Foot.syncFrame.hasR ra = false) : (State.syncFrame s op o n st).reg ra i0 j0 = s.reg ra i0 j0 :=
  (Does.syncFrame (Does.refl _ s) (Foot.le_refl _) _ _ _ _).reg hn _ _
@[simp] theorem State.v_syncFrame (op : Nat) (o : Nat) (n : Nat) (st : Nat) (hn : Foot.syncFrame.hasV va = false) : (State.syncFrame s op o n st).v va i0 j0 = s.v va i0 j0 :=
  (Does.syncFrame (Does.refl _ s) (Foot.le_refl _) _ _ _ _).v hn _ _
@[simp] theorem State.part_syncFrame (op : Nat) (o : Nat) (n : Nat) (st : Nat) (hn : Foot.syncFrame.hasP pa = false) : (State.syncFrame s op o n st).part pa = s.part pa :=
  (Does.syncFrame (Does.refl _ s) (Foot.le_refl _) _ _ _ _).parts pa hn
@[simp] theorem State.rd_syncDir (w : Watch) (gen : Nat) (st : Nat) (hn : Foot.syncDir.hasR fl.r = false) : (State.syncDir s w gen st).rd fl i0 j0 = s.rd fl i0 j0 :=
  (Does.syncDir (Does.refl _ s) (Foot.le_refl _) _ _ _).rd hn _ _
@[simp] theorem State.reg_syncDir (w : Watch) (gen : Nat) (st : Nat) (hn : Foot.syncDir.hasR ra = false) : (State.syncDir s w gen st).reg ra i0 j0 = s.reg ra i0 j0 :=
  (Does.syncDir (Does.refl _ s) (Foot.le_refl _) _ _ _).reg hn _ _
@[simp] theorem State.v_syncDir (w : Watch) (gen : Nat) (st : Nat) (hn : Foot.syncDir.hasV va = false) : (State.syncDir s w gen st).v va i0 j0 = s.v va i0 j0 :=
  (Does.syncDir (Does.refl _ s) (Foot.le_refl _) _ _ _).v hn _ _
@[simp] theorem State.part_syncDir (w : Watch) (gen : Nat) (st : Nat) (hn : Foot.syncDir.hasP pa = false) : (State.syncDir s w gen st).part pa = s.part pa :=
  (Does.syncDir (Does.refl _ s) (Foot.le_refl _) _ _ _).parts pa hn
@[simp] theorem State.rd_fire (o : Nat) (gen : Nat) (st : Nat) (shape : Nat) (sel : Watch → Bool) (hn : Foot.fire.hasR fl.r = false) : (State.fire s o gen st shape sel).rd fl i0 j0 = s.rd fl i0 j0 :=
  (Does.fire (Does.refl _ s) (Foot.le_refl _) _ _ _ _ _).rd hn _ _
@[simp] theorem State.reg_fire (o : Nat) (gen : Nat) (st : Nat) (shape : Nat) (sel : Watch → Bool) (hn : Foot.fire.hasR ra = false) : (State.fire s o gen st shape sel).reg ra i0 j0 = s.reg ra i0 j0 :=
  (Does.fire (Does.refl _ s) (Foot.le_refl _) _ _ _ _ _).reg hn _ _
@[simp] theorem State.v_fire (o : Nat) (gen : Nat) (st : Nat) (shape : Nat) (sel : Watch → Bool) (hn : Foot.fire.hasV va = false) : (State.fire s o gen st shape sel).v va i0 j0 = s.v va i0 j0 :=
  (Does.fire (Does.refl _ s) (Foot.le_refl _) _ _ _ _ _).v hn _ _
@[simp] theorem State.part_fire (o : Nat) (gen : Nat) (st : Nat) (shape : Nat) (sel : Watch → Bool) (hn : Foot.fire.hasP pa = false) : (State.fire s o gen st shape sel).part pa = s.part pa :=
  (Does.fire (Does.refl _ s) (Foot.le_refl _) _ _ _ _ _).parts pa hn
@[simp] theorem State.rd_claim (w : Watch) (hn : Foot.claim.hasR fl.r = false) : (State.claim s w).rd fl i0 j0 = s.rd fl i0 j0 :=
  (Does.claim (Does.refl _ s) (Foot.le_refl _) _).rd hn _ _
@[simp] theorem State.reg_claim (w : Watch) (hn : Foot.claim.hasR ra = false) : (State.claim s w).reg ra i0 j0 = s.reg ra i0 j0 :=
  (Does.claim (Does.refl _ s) (Foot.le_refl _) _).reg hn _ _
@[simp] theorem State.v_claim (w : Watch) (hn : Foot.claim.hasV va = false) : (State.claim s w).v va i0 j0 = s.v va i0 j0 :=
  (Does.claim (Does.refl _ s) (Foot.le_refl _) _).v hn _ _
@[simp] theorem State.part_claim (w : Watch) (hn : Foot.claim.hasP pa = false) : (State.claim s w).part pa = s.part pa :=
  (Does.claim (Does.refl _ s) (Foot.le_refl _) _).parts pa hn
@[simp] theorem State.rd_semServe (o : Nat) (fuel : Nat) (hn : Foot.semServe.hasR fl.r = false) : (State.semServe s o fuel).rd fl i0 j0 = s.rd fl i0 j0 :=
  (Does.semServe (Does.refl _ s) (Foot.le_refl _) _ _).rd hn _ _
@[simp] theorem State.reg_semServe (o : Nat) (fuel : Nat) (hn : Foot.semServe.hasR ra = false) : (State.semServe s o fuel).reg ra i0 j0 = s.reg ra i0 j0 :=
  (Does.semServe (Does.refl _ s) (Foot.le_refl _) _ _).reg hn _ _
@[simp] theorem State.v_semServe (o : Nat) (fuel : Nat) (hn : Foot.semServe.hasV va = false) : (State.semServe s o fuel).v va i0 j0 = s.v va i0 j0 :=
  (Does.semServe (Does.refl _ s) (Foot.le_refl _) _ _).v hn _ _
@[simp] theorem State.part_semServe (o : Nat) (fuel : Nat) (hn : Foot.semServe.hasP pa = false) : (State.semServe s o fuel).part pa = s.part pa :=
  (Does.semServe (Does.refl _ s) (Foot.le_refl _) _ _).parts pa hn
@[simp] theorem State.rd_semRun (o : Nat) (hn : Foot.semRun.hasR fl.r = false) : (State.semRun s o).rd fl i0 j0 = s.rd fl i0 j0 :=
  (Does.semRun (Does.refl _ s) (Foot.le_refl _) _).rd hn _ _
@[simp] theorem State.reg_semRun (o : Nat) (hn : Foot.semRun.hasR ra = false) : (State.semRun s o).reg ra i0 j0 = s.reg ra i0 j0 :=
  (Does.semRun (Does.refl _ s) (Foot.le_refl _) _).reg hn _ _
@[simp] theorem State.v_semRun (o : Nat) (hn : Foot.semRun.hasV va = false) : (State.semRun s o).v va i0 j0 = s.v va i0 j0 :=
  (Does.semRun (Does.refl _ s) (Foot.le_refl _) _).v hn _ _
@[simp] theorem State.part_semRun (o : Nat) (hn : Foot.semRun.hasP pa = false) : (State.semRun s o).part pa = s.part pa :=
  (Does.semRun (Does.refl _ s) (Foot.le_refl _) _).parts pa hn
@[simp] theorem State.rd_flagServe (o : Nat) (hn : Foot.flagServe.hasR fl.r = false) : (State.flagServe s o).rd fl i0 j0 = s.rd fl i0 j0 :=
  (Does.flagServe (Does.refl _ s) (Foot.le_refl _) _).rd hn _ _
@[simp] theorem State.reg_flagServe (o : Nat) (hn : Foot.flagServe.hasR ra = false) : (State.flagServe s o).reg ra i0 j0 = s.reg ra i0 j0 :=
  (Does.flagServe (Does.refl _ s) (Foot.le_refl _) _).reg hn _ _
@[simp] theorem State.v_flagServe (o : Nat) (hn : Foot.flagServe.hasV va = false) : (State.flagServe s o).v va i0 j0 = s.v va i0 j0 :=
  (Does.flagServe (Does.refl _ s) (Foot.le_refl _) _).v hn _ _
@[simp] theorem State.part_flagServe (o : Nat) (hn : Foot.flagServe.hasP pa = false) : (State.flagServe s o).part pa = s.part pa :=
  (Does.flagServe (Does.refl _ s) (Foot.le_refl _) _).parts pa hn
@[simp] theorem State.rd_flagSet (o : Nat) (hn : Foot.flagSet.hasR fl.r = false) : (State.flagSet s o).rd fl i0 j0 = s.rd fl i0 j0 :=
  (Does.flagSet (Does.refl _ s) (Foot.le_refl _) _).rd hn _ _
@[simp] theorem State.reg_flagSet (o : Nat) (hn : Foot.flagSet.hasR ra = false) : (State.flagSet s o).reg ra i0 j0 = s.reg ra i0 j0 :=
  (Does.flagSet (Does.refl _ s) (Foot.le_refl _) _).reg hn _ _
@[simp] theorem State.v_flagSet (o : Nat) (hn : Foot.flagSet.hasV va = false) : (State.flagSet s o).v va i0 j0 = s.v va i0 j0 :=
  (Does.flagSet (Does.refl _ s) (Foot.le_refl _) _).v hn _ _
@[simp] theorem State.part_flagSet (o : Nat) (hn : Foot.flagSet.hasP pa = false) : (State.flagSet s o).part pa = s.part pa :=
  (Does.flagSet (Does.refl _ s) (Foot.le_refl _) _).parts pa hn
@[simp] theorem State.rd_claimBack (w : Watch) (hn : Foot.claimBack.hasR fl.r = false) : (State.claimBack s w).rd fl i0 j0 = s.rd fl i0 j0 :=
  (Does.claimBack (Does.refl _ s) (Foot.le_refl _) _).rd hn _ _
@[simp] theorem State.reg_claimBack (w : Watch) (hn : Foot.claimBack.hasR ra = false) : (State.claimBack s w).reg ra i0 j0 = s.reg ra i0 j0 :=
  (Does.claimBack (Does.refl _ s) (Foot.le_refl _) _).reg hn _ _
@[simp] theorem State.v_claimBack (w : Watch) (hn : Foot.claimBack.hasV va = false) : (State.claimBack s w).v va i0 j0 = s.v va i0 j0 :=
  (Does.claimBack (Does.refl _ s) (Foot.le_refl _) _).v hn _ _
@[simp] theorem State.part_claimBack (w : Watch) (hn : Foot.claimBack.hasP pa = false) : (State.claimBack s w).part pa = s.part pa :=
  (Does.claimBack (Does.refl _ s) (Foot.le_refl _) _).parts pa hn
@[simp] theorem State.rd_syncAbsent (d : Nat) (hn : Foot.syncAbsent.hasR fl.r = false) : (State.syncAbsent s d).rd fl i0 j0 = s.rd fl i0 j0 :=
  (Does.syncAbsent (Does.refl _ s) (Foot.le_refl _) _).rd hn _ _
@[simp] theorem State.reg_syncAbsent (d : Nat) (hn : Foot.syncAbsent.hasR ra = false) : (State.syncAbsent s d).reg ra i0 j0 = s.reg ra i0 j0 :=
  (Does.syncAbsent (Does.refl _ s) (Foot.le_refl _) _).reg hn _ _
@[simp] theorem State.v_syncAbsent (d : Nat) (hn : Foot.syncAbsent.hasV va = false) : (State.syncAbsent s d).v va i0 j0 = s.v va i0 j0 :=
  (Does.syncAbsent (Does.refl _ s) (Foot.le_refl _) _).v hn _ _
@[simp] theorem State.part_syncAbsent (d : Nat) (hn : Foot.syncAbsent.hasP pa = false) : (State.syncAbsent s d).part pa = s.part pa :=
  (Does.syncAbsent (Does.refl _ s) (Foot.le_refl _) _).parts pa hn
@[simp] theorem State.rd_jobOf (o : Nat) (hn : Foot.jobOf.hasR fl.r = false) : (State.jobOf s o).2.rd fl i0 j0 = s.rd fl i0 j0 :=
  (Does.jobOf (Does.refl _ s) (Foot.le_refl _) _).rd hn _ _
@[simp] theorem State.reg_jobOf (o : Nat) (hn : Foot.jobOf.hasR ra = false) : (State.jobOf s o).2.reg ra i0 j0 = s.reg ra i0 j0 :=
  (Does.jobOf (Does.refl _ s) (Foot.le_refl _) _).reg hn _ _
@[simp] theorem State.v_jobOf (o : Nat) (hn : Foot.jobOf.hasV va = false) : (State.jobOf s o).2.v va i0 j0 = s.v va i0 j0 :=
  (Does.jobOf (Does.refl _ s) (Foot.le_refl _) _).v hn _ _
@[simp] theorem State.part_jobOf (o : Nat) (hn : Foot.jobOf.hasP pa = false) : (State.jobOf s o).2.part pa = s.part pa :=
  (Does.jobOf (Does.refl _ s) (Foot.le_refl _) _).parts pa hn
@[simp] theorem State.rd_breakSend (o : Nat) (reason : Nat) (skip : Option Nat) (hn : Foot.breakSend.hasR fl.r = false) : (State.breakSend s o reason skip).rd fl i0 j0 = s.rd fl i0 j0 :=
  (Does.breakSend (Does.refl _ s) (Foot.le_refl _) _ _ _).rd hn _ _
@[simp] theorem State.reg_breakSend (o : Nat) (reason : Nat) (skip : Option Nat) (hn : Foot.breakSend.hasR ra = false) : (State.breakSend s o reason skip).reg ra i0 j0 = s.reg ra i0 j0 :=
  (Does.breakSend (Does.refl _ s) (Foot.le_refl _) _ _ _).reg hn _ _
@[simp] theorem State.v_breakSend (o : Nat) (reason : Nat) (skip : Option Nat) (hn : Foot.breakSend.hasV va = false) : (State.breakSend s o reason skip).v va i0 j0 = s.v va i0 j0 :=
  (Does.breakSend (Does.refl _ s) (Foot.le_refl _) _ _ _).v hn _ _
@[simp] theorem State.part_breakSend (o : Nat) (reason : Nat) (skip : Option Nat) (hn : Foot.breakSend.hasP pa = false) : (State.breakSend s o reason skip).part pa = s.part pa :=
  (Does.breakSend (Does.refl _ s) (Foot.le_refl _) _ _ _).parts pa hn
@[simp] theorem State.rd_objBreak (o : Nat) (hn : Foot.objBreak.hasR fl.r = false) : (State.objBreak s o).rd fl i0 j0 = s.rd fl i0 j0 :=
  (Does.objBreak (Does.refl _ s) (Foot.le_refl _) _).rd hn _ _
@[simp] theorem State.reg_objBreak (o : Nat) (hn : Foot.objBreak.hasR ra = false) : (State.objBreak s o).reg ra i0 j0 = s.reg ra i0 j0 :=
  (Does.objBreak (Does.refl _ s) (Foot.le_refl _) _).reg hn _ _
@[simp] theorem State.v_objBreak (o : Nat) (hn : Foot.objBreak.hasV va = false) : (State.objBreak s o).v va i0 j0 = s.v va i0 j0 :=
  (Does.objBreak (Does.refl _ s) (Foot.le_refl _) _).v hn _ _
@[simp] theorem State.part_objBreak (o : Nat) (hn : Foot.objBreak.hasP pa = false) : (State.objBreak s o).part pa = s.part pa :=
  (Does.objBreak (Does.refl _ s) (Foot.le_refl _) _).parts pa hn
@[simp] theorem State.rd_spanBreak (o : Nat) (reason : Nat) (skip : Option Nat) (hn : Foot.spanBreak.hasR fl.r = false) : (State.spanBreak s o reason skip).rd fl i0 j0 = s.rd fl i0 j0 :=
  (Does.spanBreak (Does.refl _ s) (Foot.le_refl _) _ _ _).rd hn _ _
@[simp] theorem State.reg_spanBreak (o : Nat) (reason : Nat) (skip : Option Nat) (hn : Foot.spanBreak.hasR ra = false) : (State.spanBreak s o reason skip).reg ra i0 j0 = s.reg ra i0 j0 :=
  (Does.spanBreak (Does.refl _ s) (Foot.le_refl _) _ _ _).reg hn _ _
@[simp] theorem State.v_spanBreak (o : Nat) (reason : Nat) (skip : Option Nat) (hn : Foot.spanBreak.hasV va = false) : (State.spanBreak s o reason skip).v va i0 j0 = s.v va i0 j0 :=
  (Does.spanBreak (Does.refl _ s) (Foot.le_refl _) _ _ _).v hn _ _
@[simp] theorem State.part_spanBreak (o : Nat) (reason : Nat) (skip : Option Nat) (hn : Foot.spanBreak.hasP pa = false) : (State.spanBreak s o reason skip).part pa = s.part pa :=
  (Does.spanBreak (Does.refl _ s) (Foot.le_refl _) _ _ _).parts pa hn
@[simp] theorem State.rd_spanBreakAll (tag : Nat → Bool) (reason : Nat) (skip : Option Nat) (hn : Foot.spanBreakAll.hasR fl.r = false) : (State.spanBreakAll s tag reason skip).rd fl i0 j0 = s.rd fl i0 j0 :=
  (Does.spanBreakAll (Does.refl _ s) (Foot.le_refl _) _ _ _).rd hn _ _
@[simp] theorem State.reg_spanBreakAll (tag : Nat → Bool) (reason : Nat) (skip : Option Nat) (hn : Foot.spanBreakAll.hasR ra = false) : (State.spanBreakAll s tag reason skip).reg ra i0 j0 = s.reg ra i0 j0 :=
  (Does.spanBreakAll (Does.refl _ s) (Foot.le_refl _) _ _ _).reg hn _ _
@[simp] theorem State.v_spanBreakAll (tag : Nat → Bool) (reason : Nat) (skip : Option Nat) (hn : Foot.spanBreakAll.hasV va = false) : (State.spanBreakAll s tag reason skip).v va i0 j0 = s.v va i0 j0 :=
  (Does.spanBreakAll (Does.refl _ s) (Foot.le_refl _) _ _ _).v hn _ _
@[simp] theorem State.part_spanBreakAll (tag : Nat → Bool) (reason : Nat) (skip : Option Nat) (hn : Foot.spanBreakAll.hasP pa = false) : (State.spanBreakAll s tag reason skip).part pa = s.part pa :=
  (Does.spanBreakAll (Does.refl _ s) (Foot.le_refl _) _ _ _).parts pa hn
@[simp] theorem State.rd_complete1 (o : Nat) (op : Nat) (hn : Foot.complete1.hasR fl.r = false) : (State.complete1 s o op).rd fl i0 j0 = s.rd fl i0 j0 :=
  (Does.complete1 (Does.refl _ s) (Foot.le_refl _) _ _).rd hn _ _
@[simp] theorem State.reg_complete1 (o : Nat) (op : Nat) (hn : Foot.complete1.hasR ra = false) : (State.complete1 s o op).reg ra i0 j0 = s.reg ra i0 j0 :=
  (Does.complete1 (Does.refl _ s) (Foot.le_refl _) _ _).reg hn _ _
@[simp] theorem State.v_complete1 (o : Nat) (op : Nat) (hn : Foot.complete1.hasV va = false) : (State.complete1 s o op).v va i0 j0 = s.v va i0 j0 :=
  (Does.complete1 (Does.refl _ s) (Foot.le_refl _) _ _).v hn _ _
@[simp] theorem State.part_complete1 (o : Nat) (op : Nat) (hn : Foot.complete1.hasP pa = false) : (State.complete1 s o op).part pa = s.part pa :=
  (Does.complete1 (Does.refl _ s) (Foot.le_refl _) _ _).parts pa hn
@[simp] theorem State.rd_spanAccept (o : Nat) (hn : Foot.spanAccept.hasR fl.r = false) : (State.spanAccept s o).2.rd fl i0 j0 = s.rd fl i0 j0 :=
  (Does.spanAccept (Does.refl _ s) (Foot.le_refl _) _).rd hn _ _
@[simp] theorem State.reg_spanAccept (o : Nat) (hn : Foot.spanAccept.hasR ra = false) : (State.spanAccept s o).2.reg ra i0 j0 = s.reg ra i0 j0 :=
  (Does.spanAccept (Does.refl _ s) (Foot.le_refl _) _).reg hn _ _
@[simp] theorem State.v_spanAccept (o : Nat) (hn : Foot.spanAccept.hasV va = false) : (State.spanAccept s o).2.v va i0 j0 = s.v va i0 j0 :=
  (Does.spanAccept (Does.refl _ s) (Foot.le_refl _) _).v hn _ _
@[simp] theorem State.part_spanAccept (o : Nat) (hn : Foot.spanAccept.hasP pa = false) : (State.spanAccept s o).2.part pa = s.part pa :=
  (Does.spanAccept (Does.refl _ s) (Foot.le_refl _) _).parts pa hn
@[simp] theorem State.rd_spanGather (o : Nat) (hn : Foot.spanGather.hasR fl.r = false) : (State.spanGather s o).2.rd fl i0 j0 = s.rd fl i0 j0 :=
  (Does.spanGather (Does.refl _ s) (Foot.le_refl _) _).rd hn _ _
@[simp] theorem State.reg_spanGather (o : Nat) (hn : Foot.spanGather.hasR ra = false) : (State.spanGather s o).2.reg ra i0 j0 = s.reg ra i0 j0 :=
  (Does.spanGather (Does.refl _ s) (Foot.le_refl _) _).reg hn _ _
@[simp] theorem State.v_spanGather (o : Nat) (hn : Foot.spanGather.hasV va = false) : (State.spanGather s o).2.v va i0 j0 = s.v va i0 j0 :=
  (Does.spanGather (Does.refl _ s) (Foot.le_refl _) _).v hn _ _
@[simp] theorem State.part_spanGather (o : Nat) (hn : Foot.spanGather.hasP pa = false) : (State.spanGather s o).2.part pa = s.part pa :=
  (Does.spanGather (Does.refl _ s) (Foot.le_refl _) _).parts pa hn
@[simp] theorem State.rd_reached (o : Nat) (op : Nat) (hn : Foot.reached.hasR fl.r = false) : (State.reached s o op).rd fl i0 j0 = s.rd fl i0 j0 :=
  (Does.reached (Does.refl _ s) (Foot.le_refl _) _ _).rd hn _ _
@[simp] theorem State.reg_reached (o : Nat) (op : Nat) (hn : Foot.reached.hasR ra = false) : (State.reached s o op).reg ra i0 j0 = s.reg ra i0 j0 :=
  (Does.reached (Does.refl _ s) (Foot.le_refl _) _ _).reg hn _ _
@[simp] theorem State.v_reached (o : Nat) (op : Nat) (hn : Foot.reached.hasV va = false) : (State.reached s o op).v va i0 j0 = s.v va i0 j0 :=
  (Does.reached (Does.refl _ s) (Foot.le_refl _) _ _).v hn _ _
@[simp] theorem State.part_reached (o : Nat) (op : Nat) (hn : Foot.reached.hasP pa = false) : (State.reached s o op).part pa = s.part pa :=
  (Does.reached (Does.refl _ s) (Foot.le_refl _) _ _).parts pa hn
@[simp] theorem State.rd_spanComplete (o : Nat) (hn : Foot.spanComplete.hasR fl.r = false) : (State.spanComplete s o).rd fl i0 j0 = s.rd fl i0 j0 :=
  (Does.spanComplete (Does.refl _ s) (Foot.le_refl _) _).rd hn _ _
@[simp] theorem State.reg_spanComplete (o : Nat) (hn : Foot.spanComplete.hasR ra = false) : (State.spanComplete s o).reg ra i0 j0 = s.reg ra i0 j0 :=
  (Does.spanComplete (Does.refl _ s) (Foot.le_refl _) _).reg hn _ _
@[simp] theorem State.v_spanComplete (o : Nat) (hn : Foot.spanComplete.hasV va = false) : (State.spanComplete s o).v va i0 j0 = s.v va i0 j0 :=
  (Does.spanComplete (Does.refl _ s) (Foot.le_refl _) _).v hn _ _
@[simp] theorem State.part_spanComplete (o : Nat) (hn : Foot.spanComplete.hasP pa = false) : (State.spanComplete s o).part pa = s.part pa :=
  (Does.spanComplete (Does.refl _ s) (Foot.le_refl _) _).parts pa hn
@[simp] theorem State.rd_portShow (n : Nat) (st : Nat) (hn : Foot.portShow.hasR fl.r = false) : (State.portShow s n st).rd fl i0 j0 = s.rd fl i0 j0 :=
  (Does.portShow (Does.refl _ s) (Foot.le_refl _) _ _).rd hn _ _
@[simp] theorem State.reg_portShow (n : Nat) (st : Nat) (hn : Foot.portShow.hasR ra = false) : (State.portShow s n st).reg ra i0 j0 = s.reg ra i0 j0 :=
  (Does.portShow (Does.refl _ s) (Foot.le_refl _) _ _).reg hn _ _
@[simp] theorem State.v_portShow (n : Nat) (st : Nat) (hn : Foot.portShow.hasV va = false) : (State.portShow s n st).v va i0 j0 = s.v va i0 j0 :=
  (Does.portShow (Does.refl _ s) (Foot.le_refl _) _ _).v hn _ _
@[simp] theorem State.part_portShow (n : Nat) (st : Nat) (hn : Foot.portShow.hasP pa = false) : (State.portShow s n st).part pa = s.part pa :=
  (Does.portShow (Does.refl _ s) (Foot.le_refl _) _ _).parts pa hn
@[simp] theorem State.rd_portLeaves (n : Nat) (reason : Nat) (failed : Bool) (hn : Foot.portLeaves.hasR fl.r = false) : (State.portLeaves s n reason failed).rd fl i0 j0 = s.rd fl i0 j0 :=
  (Does.portLeaves (Does.refl _ s) (Foot.le_refl _) _ _ _).rd hn _ _
@[simp] theorem State.reg_portLeaves (n : Nat) (reason : Nat) (failed : Bool) (hn : Foot.portLeaves.hasR ra = false) : (State.portLeaves s n reason failed).reg ra i0 j0 = s.reg ra i0 j0 :=
  (Does.portLeaves (Does.refl _ s) (Foot.le_refl _) _ _ _).reg hn _ _
@[simp] theorem State.v_portLeaves (n : Nat) (reason : Nat) (failed : Bool) (hn : Foot.portLeaves.hasV va = false) : (State.portLeaves s n reason failed).v va i0 j0 = s.v va i0 j0 :=
  (Does.portLeaves (Does.refl _ s) (Foot.le_refl _) _ _ _).v hn _ _
@[simp] theorem State.part_portLeaves (n : Nat) (reason : Nat) (failed : Bool) (hn : Foot.portLeaves.hasP pa = false) : (State.portLeaves s n reason failed).part pa = s.part pa :=
  (Does.portLeaves (Does.refl _ s) (Foot.le_refl _) _ _ _).parts pa hn
@[simp] theorem State.rd_portDown (n : Nat) (hn : Foot.portDown.hasR fl.r = false) : (State.portDown s n).rd fl i0 j0 = s.rd fl i0 j0 :=
  (Does.portDown (Does.refl _ s) (Foot.le_refl _) _).rd hn _ _
@[simp] theorem State.reg_portDown (n : Nat) (hn : Foot.portDown.hasR ra = false) : (State.portDown s n).reg ra i0 j0 = s.reg ra i0 j0 :=
  (Does.portDown (Does.refl _ s) (Foot.le_refl _) _).reg hn _ _
@[simp] theorem State.v_portDown (n : Nat) (hn : Foot.portDown.hasV va = false) : (State.portDown s n).v va i0 j0 = s.v va i0 j0 :=
  (Does.portDown (Does.refl _ s) (Foot.le_refl _) _).v hn _ _
@[simp] theorem State.part_portDown (n : Nat) (hn : Foot.portDown.hasP pa = false) : (State.portDown s n).part pa = s.part pa :=
  (Does.portDown (Does.refl _ s) (Foot.le_refl _) _).parts pa hn
@[simp] theorem State.rd_toHubChildren (payload : Nat) (hn : Foot.toHubChildren.hasR fl.r = false) : (State.toHubChildren s payload).rd fl i0 j0 = s.rd fl i0 j0 :=
  (Does.toHubChildren (Does.refl _ s) (Foot.le_refl _) _).rd hn _ _
@[simp] theorem State.reg_toHubChildren (payload : Nat) (hn : Foot.toHubChildren.hasR ra = false) : (State.toHubChildren s payload).reg ra i0 j0 = s.reg ra i0 j0 :=
  (Does.toHubChildren (Does.refl _ s) (Foot.le_refl _) _).reg hn _ _
@[simp] theorem State.v_toHubChildren (payload : Nat) (hn : Foot.toHubChildren.hasV va = false) : (State.toHubChildren s payload).v va i0 j0 = s.v va i0 j0 :=
  (Does.toHubChildren (Does.refl _ s) (Foot.le_refl _) _).v hn _ _
@[simp] theorem State.part_toHubChildren (payload : Nat) (hn : Foot.toHubChildren.hasP pa = false) : (State.toHubChildren s payload).part pa = s.part pa :=
  (Does.toHubChildren (Does.refl _ s) (Foot.le_refl _) _).parts pa hn
@[simp] theorem State.rd_syncSend (x : SyncOut) (hn : Foot.syncSend.hasR fl.r = false) : (State.syncSend s x).rd fl i0 j0 = s.rd fl i0 j0 :=
  (Does.syncSend (Does.refl _ s) (Foot.le_refl _) _).rd hn _ _
@[simp] theorem State.reg_syncSend (x : SyncOut) (hn : Foot.syncSend.hasR ra = false) : (State.syncSend s x).reg ra i0 j0 = s.reg ra i0 j0 :=
  (Does.syncSend (Does.refl _ s) (Foot.le_refl _) _).reg hn _ _
@[simp] theorem State.v_syncSend (x : SyncOut) (hn : Foot.syncSend.hasV va = false) : (State.syncSend s x).v va i0 j0 = s.v va i0 j0 :=
  (Does.syncSend (Does.refl _ s) (Foot.le_refl _) _).v hn _ _
@[simp] theorem State.part_syncSend (x : SyncOut) (hn : Foot.syncSend.hasP pa = false) : (State.syncSend s x).part pa = s.part pa :=
  (Does.syncSend (Does.refl _ s) (Foot.le_refl _) _).parts pa hn
@[simp] theorem State.rd_syncDrain (fuel : Nat) (hn : Foot.syncDrain.hasR fl.r = false) : (State.syncDrain s fuel).rd fl i0 j0 = s.rd fl i0 j0 :=
  (Does.syncDrain (Does.refl _ s) (Foot.le_refl _) _).rd hn _ _
@[simp] theorem State.reg_syncDrain (fuel : Nat) (hn : Foot.syncDrain.hasR ra = false) : (State.syncDrain s fuel).reg ra i0 j0 = s.reg ra i0 j0 :=
  (Does.syncDrain (Does.refl _ s) (Foot.le_refl _) _).reg hn _ _
@[simp] theorem State.v_syncDrain (fuel : Nat) (hn : Foot.syncDrain.hasV va = false) : (State.syncDrain s fuel).v va i0 j0 = s.v va i0 j0 :=
  (Does.syncDrain (Does.refl _ s) (Foot.le_refl _) _).v hn _ _
@[simp] theorem State.part_syncDrain (fuel : Nat) (hn : Foot.syncDrain.hasP pa = false) : (State.syncDrain s fuel).part pa = s.part pa :=
  (Does.syncDrain (Does.refl _ s) (Foot.le_refl _) _).parts pa hn
@[simp] theorem State.rd_syncFlush (hn : Foot.syncFlush.hasR fl.r = false) : (State.syncFlush s).rd fl i0 j0 = s.rd fl i0 j0 :=
  (Does.syncFlush (Does.refl _ s) (Foot.le_refl _)).rd hn _ _
@[simp] theorem State.reg_syncFlush (hn : Foot.syncFlush.hasR ra = false) : (State.syncFlush s).reg ra i0 j0 = s.reg ra i0 j0 :=
  (Does.syncFlush (Does.refl _ s) (Foot.le_refl _)).reg hn _ _
@[simp] theorem State.v_syncFlush (hn : Foot.syncFlush.hasV va = false) : (State.syncFlush s).v va i0 j0 = s.v va i0 j0 :=
  (Does.syncFlush (Does.refl _ s) (Foot.le_refl _)).v hn _ _
@[simp] theorem State.part_syncFlush (hn : Foot.syncFlush.hasP pa = false) : (State.syncFlush s).part pa = s.part pa :=
  (Does.syncFlush (Does.refl _ s) (Foot.le_refl _)).parts pa hn
@[simp] theorem State.rd_heldSend (hn : Foot.heldSend.hasR fl.r = false) : (State.heldSend s).rd fl i0 j0 = s.rd fl i0 j0 :=
  (Does.heldSend (Does.refl _ s) (Foot.le_refl _)).rd hn _ _
@[simp] theorem State.reg_heldSend (hn : Foot.heldSend.hasR ra = false) : (State.heldSend s).reg ra i0 j0 = s.reg ra i0 j0 :=
  (Does.heldSend (Does.refl _ s) (Foot.le_refl _)).reg hn _ _
@[simp] theorem State.v_heldSend (hn : Foot.heldSend.hasV va = false) : (State.heldSend s).v va i0 j0 = s.v va i0 j0 :=
  (Does.heldSend (Does.refl _ s) (Foot.le_refl _)).v hn _ _
@[simp] theorem State.part_heldSend (hn : Foot.heldSend.hasP pa = false) : (State.heldSend s).part pa = s.part pa :=
  (Does.heldSend (Does.refl _ s) (Foot.le_refl _)).parts pa hn
@[simp] theorem State.rd_heldAll (hn : Foot.heldAll.hasR fl.r = false) : (State.heldAll s).rd fl i0 j0 = s.rd fl i0 j0 :=
  (Does.heldAll (Does.refl _ s) (Foot.le_refl _)).rd hn _ _
@[simp] theorem State.reg_heldAll (hn : Foot.heldAll.hasR ra = false) : (State.heldAll s).reg ra i0 j0 = s.reg ra i0 j0 :=
  (Does.heldAll (Does.refl _ s) (Foot.le_refl _)).reg hn _ _
@[simp] theorem State.v_heldAll (hn : Foot.heldAll.hasV va = false) : (State.heldAll s).v va i0 j0 = s.v va i0 j0 :=
  (Does.heldAll (Does.refl _ s) (Foot.le_refl _)).v hn _ _
@[simp] theorem State.part_heldAll (hn : Foot.heldAll.hasP pa = false) : (State.heldAll s).part pa = s.part pa :=
  (Does.heldAll (Does.refl _ s) (Foot.le_refl _)).parts pa hn
@[simp] theorem State.rd_watchAdd (o : Nat) (gen : Nat) (one : Bool) (w : Waiter) (hn : Foot.watchAdd.hasR fl.r = false) : (State.watchAdd s o gen one w).2.rd fl i0 j0 = s.rd fl i0 j0 :=
  (Does.watchAdd (Does.refl _ s) (Foot.le_refl _) _ _ _ _).rd hn _ _
@[simp] theorem State.reg_watchAdd (o : Nat) (gen : Nat) (one : Bool) (w : Waiter) (hn : Foot.watchAdd.hasR ra = false) : (State.watchAdd s o gen one w).2.reg ra i0 j0 = s.reg ra i0 j0 :=
  (Does.watchAdd (Does.refl _ s) (Foot.le_refl _) _ _ _ _).reg hn _ _
@[simp] theorem State.v_watchAdd (o : Nat) (gen : Nat) (one : Bool) (w : Waiter) (hn : Foot.watchAdd.hasV va = false) : (State.watchAdd s o gen one w).2.v va i0 j0 = s.v va i0 j0 :=
  (Does.watchAdd (Does.refl _ s) (Foot.le_refl _) _ _ _ _).v hn _ _
@[simp] theorem State.part_watchAdd (o : Nat) (gen : Nat) (one : Bool) (w : Waiter) (hn : Foot.watchAdd.hasP pa = false) : (State.watchAdd s o gen one w).2.part pa = s.part pa :=
  (Does.watchAdd (Does.refl _ s) (Foot.le_refl _) _ _ _ _).parts pa hn
@[simp] theorem State.rd_watchOpt (o : Nat) (gen : Nat) (w : Option Waiter) (hn : Foot.watchOpt.hasR fl.r = false) : (State.watchOpt s o gen w).2.rd fl i0 j0 = s.rd fl i0 j0 :=
  (Does.watchOpt (Does.refl _ s) (Foot.le_refl _) _ _ _).rd hn _ _
@[simp] theorem State.reg_watchOpt (o : Nat) (gen : Nat) (w : Option Waiter) (hn : Foot.watchOpt.hasR ra = false) : (State.watchOpt s o gen w).2.reg ra i0 j0 = s.reg ra i0 j0 :=
  (Does.watchOpt (Does.refl _ s) (Foot.le_refl _) _ _ _).reg hn _ _
@[simp] theorem State.v_watchOpt (o : Nat) (gen : Nat) (w : Option Waiter) (hn : Foot.watchOpt.hasV va = false) : (State.watchOpt s o gen w).2.v va i0 j0 = s.v va i0 j0 :=
  (Does.watchOpt (Does.refl _ s) (Foot.le_refl _) _ _ _).v hn _ _
@[simp] theorem State.part_watchOpt (o : Nat) (gen : Nat) (w : Option Waiter) (hn : Foot.watchOpt.hasP pa = false) : (State.watchOpt s o gen w).2.part pa = s.part pa :=
  (Does.watchOpt (Does.refl _ s) (Foot.le_refl _) _ _ _).parts pa hn
@[simp] theorem State.rd_arrive (o : Nat) (agen : Nat) (w : Option Waiter) (hn : Foot.arrive.hasR fl.r = false) : (State.arrive s o agen w).2.rd fl i0 j0 = s.rd fl i0 j0 :=
  (Does.arrive (Does.refl _ s) (Foot.le_refl _) _ _ _).rd hn _ _
@[simp] theorem State.reg_arrive (o : Nat) (agen : Nat) (w : Option Waiter) (hn : Foot.arrive.hasR ra = false) : (State.arrive s o agen w).2.reg ra i0 j0 = s.reg ra i0 j0 :=
  (Does.arrive (Does.refl _ s) (Foot.le_refl _) _ _ _).reg hn _ _
@[simp] theorem State.v_arrive (o : Nat) (agen : Nat) (w : Option Waiter) (hn : Foot.arrive.hasV va = false) : (State.arrive s o agen w).2.v va i0 j0 = s.v va i0 j0 :=
  (Does.arrive (Does.refl _ s) (Foot.le_refl _) _ _ _).v hn _ _
@[simp] theorem State.part_arrive (o : Nat) (agen : Nat) (w : Option Waiter) (hn : Foot.arrive.hasP pa = false) : (State.arrive s o agen w).2.part pa = s.part pa :=
  (Does.arrive (Does.refl _ s) (Foot.le_refl _) _ _ _).parts pa hn
@[simp] theorem State.rd_waitOp (o : Nat) (gen : Nat) (one : Bool) (w : Waiter) (hn : Foot.waitOp.hasR fl.r = false) : (State.waitOp s o gen one w).2.rd fl i0 j0 = s.rd fl i0 j0 :=
  (Does.waitOp (Does.refl _ s) (Foot.le_refl _) _ _ _ _).rd hn _ _
@[simp] theorem State.reg_waitOp (o : Nat) (gen : Nat) (one : Bool) (w : Waiter) (hn : Foot.waitOp.hasR ra = false) : (State.waitOp s o gen one w).2.reg ra i0 j0 = s.reg ra i0 j0 :=
  (Does.waitOp (Does.refl _ s) (Foot.le_refl _) _ _ _ _).reg hn _ _
@[simp] theorem State.v_waitOp (o : Nat) (gen : Nat) (one : Bool) (w : Waiter) (hn : Foot.waitOp.hasV va = false) : (State.waitOp s o gen one w).2.v va i0 j0 = s.v va i0 j0 :=
  (Does.waitOp (Does.refl _ s) (Foot.le_refl _) _ _ _ _).v hn _ _
@[simp] theorem State.part_waitOp (o : Nat) (gen : Nat) (one : Bool) (w : Waiter) (hn : Foot.waitOp.hasP pa = false) : (State.waitOp s o gen one w).2.part pa = s.part pa :=
  (Does.waitOp (Does.refl _ s) (Foot.le_refl _) _ _ _ _).parts pa hn
@[simp] theorem State.rd_objZero (o : Nat) (hn : Foot.objZero.hasR fl.r = false) : (State.objZero s o).rd fl i0 j0 = s.rd fl i0 j0 :=
  (Does.objZero (Does.refl _ s) (Foot.le_refl _) _).rd hn _ _
@[simp] theorem State.reg_objZero (o : Nat) (hn : Foot.objZero.hasR ra = false) : (State.objZero s o).reg ra i0 j0 = s.reg ra i0 j0 :=
  (Does.objZero (Does.refl _ s) (Foot.le_refl _) _).reg hn _ _
@[simp] theorem State.v_objZero (o : Nat) (hn : Foot.objZero.hasV va = false) : (State.objZero s o).v va i0 j0 = s.v va i0 j0 :=
  (Does.objZero (Does.refl _ s) (Foot.le_refl _) _).v hn _ _
@[simp] theorem State.part_objZero (o : Nat) (hn : Foot.objZero.hasP pa = false) : (State.objZero s o).part pa = s.part pa :=
  (Does.objZero (Does.refl _ s) (Foot.le_refl _) _).parts pa hn
@[simp] theorem State.rd_objInit (o : Nat) (a0 : Nat) (a1 : Nat) (a2 : Nat) (hn : Foot.objInit.hasR fl.r = false) : (State.objInit s o a0 a1 a2).rd fl i0 j0 = s.rd fl i0 j0 :=
  (Does.objInit (Does.refl _ s) (Foot.le_refl _) _ _ _ _).rd hn _ _
@[simp] theorem State.reg_objInit (o : Nat) (a0 : Nat) (a1 : Nat) (a2 : Nat) (hn : Foot.objInit.hasR ra = false) : (State.objInit s o a0 a1 a2).reg ra i0 j0 = s.reg ra i0 j0 :=
  (Does.objInit (Does.refl _ s) (Foot.le_refl _) _ _ _ _).reg hn _ _
@[simp] theorem State.v_objInit (o : Nat) (a0 : Nat) (a1 : Nat) (a2 : Nat) (hn : Foot.objInit.hasV va = false) : (State.objInit s o a0 a1 a2).v va i0 j0 = s.v va i0 j0 :=
  (Does.objInit (Does.refl _ s) (Foot.le_refl _) _ _ _ _).v hn _ _
@[simp] theorem State.part_objInit (o : Nat) (a0 : Nat) (a1 : Nat) (a2 : Nat) (hn : Foot.objInit.hasP pa = false) : (State.objInit s o a0 a1 a2).part pa = s.part pa :=
  (Does.objInit (Does.refl _ s) (Foot.le_refl _) _ _ _ _).parts pa hn
@[simp] theorem State.rd_objReset (o : Nat) (gen : Nat) (hn : Foot.objReset.hasR fl.r = false) : (State.objReset s o gen).rd fl i0 j0 = s.rd fl i0 j0 :=
  (Does.objReset (Does.refl _ s) (Foot.le_refl _) _ _).rd hn _ _
@[simp] theorem State.reg_objReset (o : Nat) (gen : Nat) (hn : Foot.objReset.hasR ra = false) : (State.objReset s o gen).reg ra i0 j0 = s.reg ra i0 j0 :=
  (Does.objReset (Does.refl _ s) (Foot.le_refl _) _ _).reg hn _ _
@[simp] theorem State.v_objReset (o : Nat) (gen : Nat) (hn : Foot.objReset.hasV va = false) : (State.objReset s o gen).v va i0 j0 = s.v va i0 j0 :=
  (Does.objReset (Does.refl _ s) (Foot.le_refl _) _ _).v hn _ _
@[simp] theorem State.part_objReset (o : Nat) (gen : Nat) (hn : Foot.objReset.hasP pa = false) : (State.objReset s o gen).part pa = s.part pa :=
  (Does.objReset (Does.refl _ s) (Foot.le_refl _) _ _).parts pa hn
@[simp] theorem State.rd_objLeave (o : Nat) (hn : Foot.objLeave.hasR fl.r = false) : (State.objLeave s o).rd fl i0 j0 = s.rd fl i0 j0 :=
  (Does.objLeave (Does.refl _ s) (Foot.le_refl _) _).rd hn _ _
@[simp] theorem State.reg_objLeave (o : Nat) (hn : Foot.objLeave.hasR ra = false) : (State.objLeave s o).reg ra i0 j0 = s.reg ra i0 j0 :=
  (Does.objLeave (Does.refl _ s) (Foot.le_refl _) _).reg hn _ _
@[simp] theorem State.v_objLeave (o : Nat) (hn : Foot.objLeave.hasV va = false) : (State.objLeave s o).v va i0 j0 = s.v va i0 j0 :=
  (Does.objLeave (Does.refl _ s) (Foot.le_refl _) _).v hn _ _
@[simp] theorem State.part_objLeave (o : Nat) (hn : Foot.objLeave.hasP pa = false) : (State.objLeave s o).part pa = s.part pa :=
  (Does.objLeave (Does.refl _ s) (Foot.le_refl _) _).parts pa hn
@[simp] theorem State.rd_setCount (o : Nat) (a0 : Nat) (a1 : Nat) (hn : Foot.setCount.hasR fl.r = false) : (State.setCount s o a0 a1).rd fl i0 j0 = s.rd fl i0 j0 :=
  (Does.setCount (Does.refl _ s) (Foot.le_refl _) _ _ _).rd hn _ _
@[simp] theorem State.reg_setCount (o : Nat) (a0 : Nat) (a1 : Nat) (hn : Foot.setCount.hasR ra = false) : (State.setCount s o a0 a1).reg ra i0 j0 = s.reg ra i0 j0 :=
  (Does.setCount (Does.refl _ s) (Foot.le_refl _) _ _ _).reg hn _ _
@[simp] theorem State.v_setCount (o : Nat) (a0 : Nat) (a1 : Nat) (hn : Foot.setCount.hasV va = false) : (State.setCount s o a0 a1).v va i0 j0 = s.v va i0 j0 :=
  (Does.setCount (Does.refl _ s) (Foot.le_refl _) _ _ _).v hn _ _
@[simp] theorem State.part_setCount (o : Nat) (a0 : Nat) (a1 : Nat) (hn : Foot.setCount.hasP pa = false) : (State.setCount s o a0 a1).part pa = s.part pa :=
  (Does.setCount (Does.refl _ s) (Foot.le_refl _) _ _ _).parts pa hn
@[simp] theorem State.rd_shortFlag (short : Bool) (hn : Foot.shortFlag.hasR fl.r = false) : (State.shortFlag s short).rd fl i0 j0 = s.rd fl i0 j0 :=
  (Does.shortFlag (Does.refl _ s) (Foot.le_refl _) _).rd hn _ _
@[simp] theorem State.reg_shortFlag (short : Bool) (hn : Foot.shortFlag.hasR ra = false) : (State.shortFlag s short).reg ra i0 j0 = s.reg ra i0 j0 :=
  (Does.shortFlag (Does.refl _ s) (Foot.le_refl _) _).reg hn _ _
@[simp] theorem State.v_shortFlag (short : Bool) (hn : Foot.shortFlag.hasV va = false) : (State.shortFlag s short).v va i0 j0 = s.v va i0 j0 :=
  (Does.shortFlag (Does.refl _ s) (Foot.le_refl _) _).v hn _ _
@[simp] theorem State.part_shortFlag (short : Bool) (hn : Foot.shortFlag.hasP pa = false) : (State.shortFlag s short).part pa = s.part pa :=
  (Does.shortFlag (Does.refl _ s) (Foot.le_refl _) _).parts pa hn
@[simp] theorem State.rd_opEffect (op : Nat) (o : Nat) (a0 : Nat) (a1 : Nat) (a2 : Nat) (w : Option Waiter) (hn : Foot.opEffect.hasR fl.r = false) : (State.opEffect s op o a0 a1 a2 w).2.rd fl i0 j0 = s.rd fl i0 j0 :=
  (Does.opEffect (Does.refl _ s) (Foot.le_refl _) _ _ _ _ _ _).rd hn _ _
@[simp] theorem State.reg_opEffect (op : Nat) (o : Nat) (a0 : Nat) (a1 : Nat) (a2 : Nat) (w : Option Waiter) (hn : Foot.opEffect.hasR ra = false) : (State.opEffect s op o a0 a1 a2 w).2.reg ra i0 j0 = s.reg ra i0 j0 :=
  (Does.opEffect (Does.refl _ s) (Foot.le_refl _) _ _ _ _ _ _).reg hn _ _
@[simp] theorem State.v_opEffect (op : Nat) (o : Nat) (a0 : Nat) (a1 : Nat) (a2 : Nat) (w : Option Waiter) (hn : Foot.opEffect.hasV va = false) : (State.opEffect s op o a0 a1 a2 w).2.v va i0 j0 = s.v va i0 j0 :=
  (Does.opEffect (Does.refl _ s) (Foot.le_refl _) _ _ _ _ _ _).v hn _ _
@[simp] theorem State.part_opEffect (op : Nat) (o : Nat) (a0 : Nat) (a1 : Nat) (a2 : Nat) (w : Option Waiter) (hn : Foot.opEffect.hasP pa = false) : (State.opEffect s op o a0 a1 a2 w).2.part pa = s.part pa :=
  (Does.opEffect (Does.refl _ s) (Foot.le_refl _) _ _ _ _ _ _).parts pa hn
@[simp] theorem State.rd_syncOver (st : Status) (hn : Foot.syncOver.hasR fl.r = false) : (State.syncOver s st).rd fl i0 j0 = s.rd fl i0 j0 :=
  (Does.syncOver (Does.refl _ s) (Foot.le_refl _) _).rd hn _ _
@[simp] theorem State.reg_syncOver (st : Status) (hn : Foot.syncOver.hasR ra = false) : (State.syncOver s st).reg ra i0 j0 = s.reg ra i0 j0 :=
  (Does.syncOver (Does.refl _ s) (Foot.le_refl _) _).reg hn _ _
@[simp] theorem State.v_syncOver (st : Status) (hn : Foot.syncOver.hasV va = false) : (State.syncOver s st).v va i0 j0 = s.v va i0 j0 :=
  (Does.syncOver (Does.refl _ s) (Foot.le_refl _) _).v hn _ _
@[simp] theorem State.part_syncOver (st : Status) (hn : Foot.syncOver.hasP pa = false) : (State.syncOver s st).part pa = s.part pa :=
  (Does.syncOver (Does.refl _ s) (Foot.le_refl _) _).parts pa hn
@[simp] theorem State.rd_syncAnswer (p : Port) (page : Option Nat) (st : Status) (hn : Foot.syncAnswer.hasR fl.r = false) : (State.syncAnswer s p page st).rd fl i0 j0 = s.rd fl i0 j0 :=
  (Does.syncAnswer (Does.refl _ s) (Foot.le_refl _) _ _ _).rd hn _ _
@[simp] theorem State.reg_syncAnswer (p : Port) (page : Option Nat) (st : Status) (hn : Foot.syncAnswer.hasR ra = false) : (State.syncAnswer s p page st).reg ra i0 j0 = s.reg ra i0 j0 :=
  (Does.syncAnswer (Does.refl _ s) (Foot.le_refl _) _ _ _).reg hn _ _
@[simp] theorem State.v_syncAnswer (p : Port) (page : Option Nat) (st : Status) (hn : Foot.syncAnswer.hasV va = false) : (State.syncAnswer s p page st).v va i0 j0 = s.v va i0 j0 :=
  (Does.syncAnswer (Does.refl _ s) (Foot.le_refl _) _ _ _).v hn _ _
@[simp] theorem State.part_syncAnswer (p : Port) (page : Option Nat) (st : Status) (hn : Foot.syncAnswer.hasP pa = false) : (State.syncAnswer s p page st).part pa = s.part pa :=
  (Does.syncAnswer (Does.refl _ s) (Foot.le_refl _) _ _ _).parts pa hn
@[simp] theorem State.rd_portOp (p : Port) (page : Option Nat) (bad : Bool) (op : Nat) (obj : Nat) (a0 : Nat) (a1 : Nat) (a2 : Nat) (hn : Foot.portOp.hasR fl.r = false) : (State.portOp s p page bad op obj a0 a1 a2).rd fl i0 j0 = s.rd fl i0 j0 :=
  (Does.portOp (Does.refl _ s) (Foot.le_refl _) _ _ _ _ _ _ _ _).rd hn _ _
@[simp] theorem State.reg_portOp (p : Port) (page : Option Nat) (bad : Bool) (op : Nat) (obj : Nat) (a0 : Nat) (a1 : Nat) (a2 : Nat) (hn : Foot.portOp.hasR ra = false) : (State.portOp s p page bad op obj a0 a1 a2).reg ra i0 j0 = s.reg ra i0 j0 :=
  (Does.portOp (Does.refl _ s) (Foot.le_refl _) _ _ _ _ _ _ _ _).reg hn _ _
@[simp] theorem State.v_portOp (p : Port) (page : Option Nat) (bad : Bool) (op : Nat) (obj : Nat) (a0 : Nat) (a1 : Nat) (a2 : Nat) (hn : Foot.portOp.hasV va = false) : (State.portOp s p page bad op obj a0 a1 a2).v va i0 j0 = s.v va i0 j0 :=
  (Does.portOp (Does.refl _ s) (Foot.le_refl _) _ _ _ _ _ _ _ _).v hn _ _
@[simp] theorem State.part_portOp (p : Port) (page : Option Nat) (bad : Bool) (op : Nat) (obj : Nat) (a0 : Nat) (a1 : Nat) (a2 : Nat) (hn : Foot.portOp.hasP pa = false) : (State.portOp s p page bad op obj a0 a1 a2).part pa = s.part pa :=
  (Does.portOp (Does.refl _ s) (Foot.le_refl _) _ _ _ _ _ _ _ _).parts pa hn
@[simp] theorem State.rd_gateAnswer (ctx : Nat) (lobj : Nat) (gen : Nat) (st : Status) (leaf : Nat) (q : Nat) (wake : Bool) (hn : Foot.gateAnswer.hasR fl.r = false) : (State.gateAnswer s ctx lobj gen st leaf q wake).rd fl i0 j0 = s.rd fl i0 j0 :=
  (Does.gateAnswer (Does.refl _ s) (Foot.le_refl _) _ _ _ _ _ _ _).rd hn _ _
@[simp] theorem State.reg_gateAnswer (ctx : Nat) (lobj : Nat) (gen : Nat) (st : Status) (leaf : Nat) (q : Nat) (wake : Bool) (hn : Foot.gateAnswer.hasR ra = false) : (State.gateAnswer s ctx lobj gen st leaf q wake).reg ra i0 j0 = s.reg ra i0 j0 :=
  (Does.gateAnswer (Does.refl _ s) (Foot.le_refl _) _ _ _ _ _ _ _).reg hn _ _
@[simp] theorem State.v_gateAnswer (ctx : Nat) (lobj : Nat) (gen : Nat) (st : Status) (leaf : Nat) (q : Nat) (wake : Bool) (hn : Foot.gateAnswer.hasV va = false) : (State.gateAnswer s ctx lobj gen st leaf q wake).v va i0 j0 = s.v va i0 j0 :=
  (Does.gateAnswer (Does.refl _ s) (Foot.le_refl _) _ _ _ _ _ _ _).v hn _ _
@[simp] theorem State.part_gateAnswer (ctx : Nat) (lobj : Nat) (gen : Nat) (st : Status) (leaf : Nat) (q : Nat) (wake : Bool) (hn : Foot.gateAnswer.hasP pa = false) : (State.gateAnswer s ctx lobj gen st leaf q wake).part pa = s.part pa :=
  (Does.gateAnswer (Does.refl _ s) (Foot.le_refl _) _ _ _ _ _ _ _).parts pa hn
@[simp] theorem State.rd_gateOp (sop : Nat) (ctx : Nat) (epoch : Nat) (leaf : Nat) (q : Nat) (lobj : Nat) (arg : Nat) (mode : Bool) (hn : Foot.gateOp.hasR fl.r = false) : (State.gateOp s sop ctx epoch leaf q lobj arg mode).rd fl i0 j0 = s.rd fl i0 j0 :=
  (Does.gateOp (Does.refl _ s) (Foot.le_refl _) _ _ _ _ _ _ _ _).rd hn _ _
@[simp] theorem State.reg_gateOp (sop : Nat) (ctx : Nat) (epoch : Nat) (leaf : Nat) (q : Nat) (lobj : Nat) (arg : Nat) (mode : Bool) (hn : Foot.gateOp.hasR ra = false) : (State.gateOp s sop ctx epoch leaf q lobj arg mode).reg ra i0 j0 = s.reg ra i0 j0 :=
  (Does.gateOp (Does.refl _ s) (Foot.le_refl _) _ _ _ _ _ _ _ _).reg hn _ _
@[simp] theorem State.v_gateOp (sop : Nat) (ctx : Nat) (epoch : Nat) (leaf : Nat) (q : Nat) (lobj : Nat) (arg : Nat) (mode : Bool) (hn : Foot.gateOp.hasV va = false) : (State.gateOp s sop ctx epoch leaf q lobj arg mode).v va i0 j0 = s.v va i0 j0 :=
  (Does.gateOp (Does.refl _ s) (Foot.le_refl _) _ _ _ _ _ _ _ _).v hn _ _
@[simp] theorem State.part_gateOp (sop : Nat) (ctx : Nat) (epoch : Nat) (leaf : Nat) (q : Nat) (lobj : Nat) (arg : Nat) (mode : Bool) (hn : Foot.gateOp.hasP pa = false) : (State.gateOp s sop ctx epoch leaf q lobj arg mode).part pa = s.part pa :=
  (Does.gateOp (Does.refl _ s) (Foot.le_refl _) _ _ _ _ _ _ _ _).parts pa hn
@[simp] theorem State.rd_gateApply (e : ChEnd) (sop : Nat) (ctx : Nat) (epoch : Nat) (leaf : Nat) (q : Nat) (lobj : Nat) (arg : Nat) (mode : Bool) (hn : Foot.gateApply.hasR fl.r = false) : (State.gateApply s e sop ctx epoch leaf q lobj arg mode).rd fl i0 j0 = s.rd fl i0 j0 :=
  (Does.gateApply (Does.refl _ s) (Foot.le_refl _) _ _ _ _ _ _ _ _ _).rd hn _ _
@[simp] theorem State.reg_gateApply (e : ChEnd) (sop : Nat) (ctx : Nat) (epoch : Nat) (leaf : Nat) (q : Nat) (lobj : Nat) (arg : Nat) (mode : Bool) (hn : Foot.gateApply.hasR ra = false) : (State.gateApply s e sop ctx epoch leaf q lobj arg mode).reg ra i0 j0 = s.reg ra i0 j0 :=
  (Does.gateApply (Does.refl _ s) (Foot.le_refl _) _ _ _ _ _ _ _ _ _).reg hn _ _
@[simp] theorem State.v_gateApply (e : ChEnd) (sop : Nat) (ctx : Nat) (epoch : Nat) (leaf : Nat) (q : Nat) (lobj : Nat) (arg : Nat) (mode : Bool) (hn : Foot.gateApply.hasV va = false) : (State.gateApply s e sop ctx epoch leaf q lobj arg mode).v va i0 j0 = s.v va i0 j0 :=
  (Does.gateApply (Does.refl _ s) (Foot.le_refl _) _ _ _ _ _ _ _ _ _).v hn _ _
@[simp] theorem State.part_gateApply (e : ChEnd) (sop : Nat) (ctx : Nat) (epoch : Nat) (leaf : Nat) (q : Nat) (lobj : Nat) (arg : Nat) (mode : Bool) (hn : Foot.gateApply.hasP pa = false) : (State.gateApply s e sop ctx epoch leaf q lobj arg mode).part pa = s.part pa :=
  (Does.gateApply (Does.refl _ s) (Foot.le_refl _) _ _ _ _ _ _ _ _ _).parts pa hn
@[simp] theorem State.rd_gateMsg (e : ChEnd) (tag : Nat) (sop : Nat) (ctx : Nat) (epoch : Nat) (leaf : Nat) (q : Nat) (lobj : Nat) (arg : Nat) (mode : Bool) (hn : Foot.gateMsg.hasR fl.r = false) : (State.gateMsg s e tag sop ctx epoch leaf q lobj arg mode).rd fl i0 j0 = s.rd fl i0 j0 :=
  (Does.gateMsg (Does.refl _ s) (Foot.le_refl _) _ _ _ _ _ _ _ _ _ _).rd hn _ _
@[simp] theorem State.reg_gateMsg (e : ChEnd) (tag : Nat) (sop : Nat) (ctx : Nat) (epoch : Nat) (leaf : Nat) (q : Nat) (lobj : Nat) (arg : Nat) (mode : Bool) (hn : Foot.gateMsg.hasR ra = false) : (State.gateMsg s e tag sop ctx epoch leaf q lobj arg mode).reg ra i0 j0 = s.reg ra i0 j0 :=
  (Does.gateMsg (Does.refl _ s) (Foot.le_refl _) _ _ _ _ _ _ _ _ _ _).reg hn _ _
@[simp] theorem State.v_gateMsg (e : ChEnd) (tag : Nat) (sop : Nat) (ctx : Nat) (epoch : Nat) (leaf : Nat) (q : Nat) (lobj : Nat) (arg : Nat) (mode : Bool) (hn : Foot.gateMsg.hasV va = false) : (State.gateMsg s e tag sop ctx epoch leaf q lobj arg mode).v va i0 j0 = s.v va i0 j0 :=
  (Does.gateMsg (Does.refl _ s) (Foot.le_refl _) _ _ _ _ _ _ _ _ _ _).v hn _ _
@[simp] theorem State.part_gateMsg (e : ChEnd) (tag : Nat) (sop : Nat) (ctx : Nat) (epoch : Nat) (leaf : Nat) (q : Nat) (lobj : Nat) (arg : Nat) (mode : Bool) (hn : Foot.gateMsg.hasP pa = false) : (State.gateMsg s e tag sop ctx epoch leaf q lobj arg mode).part pa = s.part pa :=
  (Does.gateMsg (Does.refl _ s) (Foot.le_refl _) _ _ _ _ _ _ _ _ _ _).parts pa hn
@[simp] theorem State.rd_syncRow (org : SyncOrg) (op : Nat) (obj : Nat) (a0 : Nat) (a1 : Nat) (a2 : Nat) (hn : Foot.syncRow.hasR fl.r = false) : (State.syncRow s org op obj a0 a1 a2).rd fl i0 j0 = s.rd fl i0 j0 :=
  (Does.syncRow (Does.refl _ s) (Foot.le_refl _) _ _ _ _ _ _).rd hn _ _
@[simp] theorem State.reg_syncRow (org : SyncOrg) (op : Nat) (obj : Nat) (a0 : Nat) (a1 : Nat) (a2 : Nat) (hn : Foot.syncRow.hasR ra = false) : (State.syncRow s org op obj a0 a1 a2).reg ra i0 j0 = s.reg ra i0 j0 :=
  (Does.syncRow (Does.refl _ s) (Foot.le_refl _) _ _ _ _ _ _).reg hn _ _
@[simp] theorem State.v_syncRow (org : SyncOrg) (op : Nat) (obj : Nat) (a0 : Nat) (a1 : Nat) (a2 : Nat) (hn : Foot.syncRow.hasV va = false) : (State.syncRow s org op obj a0 a1 a2).v va i0 j0 = s.v va i0 j0 :=
  (Does.syncRow (Does.refl _ s) (Foot.le_refl _) _ _ _ _ _ _).v hn _ _
@[simp] theorem State.part_syncRow (org : SyncOrg) (op : Nat) (obj : Nat) (a0 : Nat) (a1 : Nat) (a2 : Nat) (hn : Foot.syncRow.hasP pa = false) : (State.syncRow s org op obj a0 a1 a2).part pa = s.part pa :=
  (Does.syncRow (Does.refl _ s) (Foot.le_refl _) _ _ _ _ _ _).parts pa hn
@[simp] theorem State.rd_ctxBankClear (c : Nat) (hn : Foot.ctxBankClear.hasR fl.r = false) : (State.ctxBankClear s c).rd fl i0 j0 = s.rd fl i0 j0 :=
  (Does.ctxBankClear (Does.refl _ s) (Foot.le_refl _) _).rd hn _ _
@[simp] theorem State.reg_ctxBankClear (c : Nat) (hn : Foot.ctxBankClear.hasR ra = false) : (State.ctxBankClear s c).reg ra i0 j0 = s.reg ra i0 j0 :=
  (Does.ctxBankClear (Does.refl _ s) (Foot.le_refl _) _).reg hn _ _
@[simp] theorem State.v_ctxBankClear (c : Nat) (hn : Foot.ctxBankClear.hasV va = false) : (State.ctxBankClear s c).v va i0 j0 = s.v va i0 j0 :=
  (Does.ctxBankClear (Does.refl _ s) (Foot.le_refl _) _).v hn _ _
@[simp] theorem State.part_ctxBankClear (c : Nat) (hn : Foot.ctxBankClear.hasP pa = false) : (State.ctxBankClear s c).part pa = s.part pa :=
  (Does.ctxBankClear (Does.refl _ s) (Foot.le_refl _) _).parts pa hn
@[simp] theorem State.rd_switchStart (c : Nat) (hn : Foot.switchStart.hasR fl.r = false) : (State.switchStart s c).rd fl i0 j0 = s.rd fl i0 j0 :=
  (Does.switchStart (Does.refl _ s) (Foot.le_refl _) _).rd hn _ _
@[simp] theorem State.reg_switchStart (c : Nat) (hn : Foot.switchStart.hasR ra = false) : (State.switchStart s c).reg ra i0 j0 = s.reg ra i0 j0 :=
  (Does.switchStart (Does.refl _ s) (Foot.le_refl _) _).reg hn _ _
@[simp] theorem State.v_switchStart (c : Nat) (hn : Foot.switchStart.hasV va = false) : (State.switchStart s c).v va i0 j0 = s.v va i0 j0 :=
  (Does.switchStart (Does.refl _ s) (Foot.le_refl _) _).v hn _ _
@[simp] theorem State.part_switchStart (c : Nat) (hn : Foot.switchStart.hasP pa = false) : (State.switchStart s c).part pa = s.part pa :=
  (Does.switchStart (Does.refl _ s) (Foot.le_refl _) _).parts pa hn
@[simp] theorem State.rd_switchEnd (c : Nat) (hn : Foot.switchEnd.hasR fl.r = false) : (State.switchEnd s c).rd fl i0 j0 = s.rd fl i0 j0 :=
  (Does.switchEnd (Does.refl _ s) (Foot.le_refl _) _).rd hn _ _
@[simp] theorem State.reg_switchEnd (c : Nat) (hn : Foot.switchEnd.hasR ra = false) : (State.switchEnd s c).reg ra i0 j0 = s.reg ra i0 j0 :=
  (Does.switchEnd (Does.refl _ s) (Foot.le_refl _) _).reg hn _ _
@[simp] theorem State.v_switchEnd (c : Nat) (hn : Foot.switchEnd.hasV va = false) : (State.switchEnd s c).v va i0 j0 = s.v va i0 j0 :=
  (Does.switchEnd (Does.refl _ s) (Foot.le_refl _) _).v hn _ _
@[simp] theorem State.part_switchEnd (c : Nat) (hn : Foot.switchEnd.hasP pa = false) : (State.switchEnd s c).part pa = s.part pa :=
  (Does.switchEnd (Does.refl _ s) (Foot.le_refl _) _).parts pa hn
@[simp] theorem State.rd_portSwitch (p : Port) (page : Option Nat) (bad : Bool) (a2 : Nat) (hn : Foot.portSwitch.hasR fl.r = false) : (State.portSwitch s p page bad a2).rd fl i0 j0 = s.rd fl i0 j0 :=
  (Does.portSwitch (Does.refl _ s) (Foot.le_refl _) _ _ _ _).rd hn _ _
@[simp] theorem State.reg_portSwitch (p : Port) (page : Option Nat) (bad : Bool) (a2 : Nat) (hn : Foot.portSwitch.hasR ra = false) : (State.portSwitch s p page bad a2).reg ra i0 j0 = s.reg ra i0 j0 :=
  (Does.portSwitch (Does.refl _ s) (Foot.le_refl _) _ _ _ _).reg hn _ _
@[simp] theorem State.v_portSwitch (p : Port) (page : Option Nat) (bad : Bool) (a2 : Nat) (hn : Foot.portSwitch.hasV va = false) : (State.portSwitch s p page bad a2).v va i0 j0 = s.v va i0 j0 :=
  (Does.portSwitch (Does.refl _ s) (Foot.le_refl _) _ _ _ _).v hn _ _
@[simp] theorem State.part_portSwitch (p : Port) (page : Option Nat) (bad : Bool) (a2 : Nat) (hn : Foot.portSwitch.hasP pa = false) : (State.portSwitch s p page bad a2).part pa = s.part pa :=
  (Does.portSwitch (Does.refl _ s) (Foot.le_refl _) _ _ _ _).parts pa hn
@[simp] theorem State.rd_confShow (t0 : Nat) (hn : Foot.confShow.hasR fl.r = false) : (State.confShow s t0).rd fl i0 j0 = s.rd fl i0 j0 :=
  (Does.confShow (Does.refl _ s) (Foot.le_refl _) _).rd hn _ _
@[simp] theorem State.reg_confShow (t0 : Nat) (hn : Foot.confShow.hasR ra = false) : (State.confShow s t0).reg ra i0 j0 = s.reg ra i0 j0 :=
  (Does.confShow (Does.refl _ s) (Foot.le_refl _) _).reg hn _ _
@[simp] theorem State.v_confShow (t0 : Nat) (hn : Foot.confShow.hasV va = false) : (State.confShow s t0).v va i0 j0 = s.v va i0 j0 :=
  (Does.confShow (Does.refl _ s) (Foot.le_refl _) _).v hn _ _
@[simp] theorem State.part_confShow (t0 : Nat) (hn : Foot.confShow.hasP pa = false) : (State.confShow s t0).part pa = s.part pa :=
  (Does.confShow (Does.refl _ s) (Foot.le_refl _) _).parts pa hn
@[simp] theorem State.rd_strOp (cmd : Nat) (c : Nat) (p : Nat) (hn : Foot.strOp.hasR fl.r = false) : (State.strOp s cmd c p).2.rd fl i0 j0 = s.rd fl i0 j0 :=
  (Does.strOp (Does.refl _ s) (Foot.le_refl _) _ _ _).rd hn _ _
@[simp] theorem State.reg_strOp (cmd : Nat) (c : Nat) (p : Nat) (hn : Foot.strOp.hasR ra = false) : (State.strOp s cmd c p).2.reg ra i0 j0 = s.reg ra i0 j0 :=
  (Does.strOp (Does.refl _ s) (Foot.le_refl _) _ _ _).reg hn _ _
@[simp] theorem State.v_strOp (cmd : Nat) (c : Nat) (p : Nat) (hn : Foot.strOp.hasV va = false) : (State.strOp s cmd c p).2.v va i0 j0 = s.v va i0 j0 :=
  (Does.strOp (Does.refl _ s) (Foot.le_refl _) _ _ _).v hn _ _
@[simp] theorem State.part_strOp (cmd : Nat) (c : Nat) (p : Nat) (hn : Foot.strOp.hasP pa = false) : (State.strOp s cmd c p).2.part pa = s.part pa :=
  (Does.strOp (Does.refl _ s) (Foot.le_refl _) _ _ _).parts pa hn
@[simp] theorem State.rd_waitSet (l : Nat) (q : Nat) (value : Bool) (mode : Bool) (ctx : Nat) (lobj : Nat) (gen : Nat) (loc : Bool) (hn : Foot.waitSet.hasR fl.r = false) : (State.waitSet s l q value mode ctx lobj gen loc).rd fl i0 j0 = s.rd fl i0 j0 :=
  (Does.waitSet (Does.refl _ s) (Foot.le_refl _) _ _ _ _ _ _ _ _).rd hn _ _
@[simp] theorem State.reg_waitSet (l : Nat) (q : Nat) (value : Bool) (mode : Bool) (ctx : Nat) (lobj : Nat) (gen : Nat) (loc : Bool) (hn : Foot.waitSet.hasR ra = false) : (State.waitSet s l q value mode ctx lobj gen loc).reg ra i0 j0 = s.reg ra i0 j0 :=
  (Does.waitSet (Does.refl _ s) (Foot.le_refl _) _ _ _ _ _ _ _ _).reg hn _ _
@[simp] theorem State.v_waitSet (l : Nat) (q : Nat) (value : Bool) (mode : Bool) (ctx : Nat) (lobj : Nat) (gen : Nat) (loc : Bool) (hn : Foot.waitSet.hasV va = false) : (State.waitSet s l q value mode ctx lobj gen loc).v va i0 j0 = s.v va i0 j0 :=
  (Does.waitSet (Does.refl _ s) (Foot.le_refl _) _ _ _ _ _ _ _ _).v hn _ _
@[simp] theorem State.part_waitSet (l : Nat) (q : Nat) (value : Bool) (mode : Bool) (ctx : Nat) (lobj : Nat) (gen : Nat) (loc : Bool) (hn : Foot.waitSet.hasP pa = false) : (State.waitSet s l q value mode ctx lobj gen loc).part pa = s.part pa :=
  (Does.waitSet (Does.refl _ s) (Foot.le_refl _) _ _ _ _ _ _ _ _).parts pa hn
@[simp] theorem State.rd_waitClear (l : Nat) (q : Nat) (hn : Foot.waitClear.hasR fl.r = false) : (State.waitClear s l q).rd fl i0 j0 = s.rd fl i0 j0 :=
  (Does.waitClear (Does.refl _ s) (Foot.le_refl _) _ _).rd hn _ _
@[simp] theorem State.reg_waitClear (l : Nat) (q : Nat) (hn : Foot.waitClear.hasR ra = false) : (State.waitClear s l q).reg ra i0 j0 = s.reg ra i0 j0 :=
  (Does.waitClear (Does.refl _ s) (Foot.le_refl _) _ _).reg hn _ _
@[simp] theorem State.v_waitClear (l : Nat) (q : Nat) (hn : Foot.waitClear.hasV va = false) : (State.waitClear s l q).v va i0 j0 = s.v va i0 j0 :=
  (Does.waitClear (Does.refl _ s) (Foot.le_refl _) _ _).v hn _ _
@[simp] theorem State.part_waitClear (l : Nat) (q : Nat) (hn : Foot.waitClear.hasP pa = false) : (State.waitClear s l q).part pa = s.part pa :=
  (Does.waitClear (Does.refl _ s) (Foot.le_refl _) _ _).parts pa hn
@[simp] theorem State.rd_waitEnd (l : Nat) (q : Nat) (last : Option (Nat × Nat × Nat)) (hn : Foot.waitEnd.hasR fl.r = false) : (State.waitEnd s l q last).rd fl i0 j0 = s.rd fl i0 j0 :=
  (Does.waitEnd (Does.refl _ s) (Foot.le_refl _) _ _ _).rd hn _ _
@[simp] theorem State.reg_waitEnd (l : Nat) (q : Nat) (last : Option (Nat × Nat × Nat)) (hn : Foot.waitEnd.hasR ra = false) : (State.waitEnd s l q last).reg ra i0 j0 = s.reg ra i0 j0 :=
  (Does.waitEnd (Does.refl _ s) (Foot.le_refl _) _ _ _).reg hn _ _
@[simp] theorem State.v_waitEnd (l : Nat) (q : Nat) (last : Option (Nat × Nat × Nat)) (hn : Foot.waitEnd.hasV va = false) : (State.waitEnd s l q last).v va i0 j0 = s.v va i0 j0 :=
  (Does.waitEnd (Does.refl _ s) (Foot.le_refl _) _ _ _).v hn _ _
@[simp] theorem State.part_waitEnd (l : Nat) (q : Nat) (last : Option (Nat × Nat × Nat)) (hn : Foot.waitEnd.hasP pa = false) : (State.waitEnd s l q last).part pa = s.part pa :=
  (Does.waitEnd (Does.refl _ s) (Foot.le_refl _) _ _ _).parts pa hn
@[simp] theorem State.rd_leafDup (l : Nat) (hn : Foot.leafDup.hasR fl.r = false) : (State.leafDup s l).rd fl i0 j0 = s.rd fl i0 j0 :=
  (Does.leafDup (Does.refl _ s) (Foot.le_refl _) _).rd hn _ _
@[simp] theorem State.reg_leafDup (l : Nat) (hn : Foot.leafDup.hasR ra = false) : (State.leafDup s l).reg ra i0 j0 = s.reg ra i0 j0 :=
  (Does.leafDup (Does.refl _ s) (Foot.le_refl _) _).reg hn _ _
@[simp] theorem State.v_leafDup (l : Nat) (hn : Foot.leafDup.hasV va = false) : (State.leafDup s l).v va i0 j0 = s.v va i0 j0 :=
  (Does.leafDup (Does.refl _ s) (Foot.le_refl _) _).v hn _ _
@[simp] theorem State.part_leafDup (l : Nat) (hn : Foot.leafDup.hasP pa = false) : (State.leafDup s l).part pa = s.part pa :=
  (Does.leafDup (Does.refl _ s) (Foot.le_refl _) _).parts pa hn
@[simp] theorem State.rd_lRelease (l : Nat) (k : Nat) (st : Nat) (sel : Nat → Bool) (hn : Foot.lRelease.hasR fl.r = false) : (State.lRelease s l k st sel).rd fl i0 j0 = s.rd fl i0 j0 :=
  (Does.lRelease (Does.refl _ s) (Foot.le_refl _) _ _ _ _).rd hn _ _
@[simp] theorem State.reg_lRelease (l : Nat) (k : Nat) (st : Nat) (sel : Nat → Bool) (hn : Foot.lRelease.hasR ra = false) : (State.lRelease s l k st sel).reg ra i0 j0 = s.reg ra i0 j0 :=
  (Does.lRelease (Does.refl _ s) (Foot.le_refl _) _ _ _ _).reg hn _ _
@[simp] theorem State.v_lRelease (l : Nat) (k : Nat) (st : Nat) (sel : Nat → Bool) (hn : Foot.lRelease.hasV va = false) : (State.lRelease s l k st sel).v va i0 j0 = s.v va i0 j0 :=
  (Does.lRelease (Does.refl _ s) (Foot.le_refl _) _ _ _ _).v hn _ _
@[simp] theorem State.part_lRelease (l : Nat) (k : Nat) (st : Nat) (sel : Nat → Bool) (hn : Foot.lRelease.hasP pa = false) : (State.lRelease s l k st sel).part pa = s.part pa :=
  (Does.lRelease (Does.refl _ s) (Foot.le_refl _) _ _ _ _).parts pa hn
@[simp] theorem State.rd_lComplete (l : Nat) (k : Nat) (fuel : Nat) (hn : Foot.lComplete.hasR fl.r = false) : (State.lComplete s l k fuel).rd fl i0 j0 = s.rd fl i0 j0 :=
  (Does.lComplete (Does.refl _ s) (Foot.le_refl _) _ _ _).rd hn _ _
@[simp] theorem State.reg_lComplete (l : Nat) (k : Nat) (fuel : Nat) (hn : Foot.lComplete.hasR ra = false) : (State.lComplete s l k fuel).reg ra i0 j0 = s.reg ra i0 j0 :=
  (Does.lComplete (Does.refl _ s) (Foot.le_refl _) _ _ _).reg hn _ _
@[simp] theorem State.v_lComplete (l : Nat) (k : Nat) (fuel : Nat) (hn : Foot.lComplete.hasV va = false) : (State.lComplete s l k fuel).v va i0 j0 = s.v va i0 j0 :=
  (Does.lComplete (Does.refl _ s) (Foot.le_refl _) _ _ _).v hn _ _
@[simp] theorem State.part_lComplete (l : Nat) (k : Nat) (fuel : Nat) (hn : Foot.lComplete.hasP pa = false) : (State.lComplete s l k fuel).part pa = s.part pa :=
  (Does.lComplete (Does.refl _ s) (Foot.le_refl _) _ _ _).parts pa hn
@[simp] theorem State.rd_lArrive (l : Nat) (q : Nat) (k : Nat) (arg : Nat) (waits : Bool) (hn : Foot.lArrive.hasR fl.r = false) : (State.lArrive s l q k arg waits).rd fl i0 j0 = s.rd fl i0 j0 :=
  (Does.lArrive (Does.refl _ s) (Foot.le_refl _) _ _ _ _ _).rd hn _ _
@[simp] theorem State.reg_lArrive (l : Nat) (q : Nat) (k : Nat) (arg : Nat) (waits : Bool) (hn : Foot.lArrive.hasR ra = false) : (State.lArrive s l q k arg waits).reg ra i0 j0 = s.reg ra i0 j0 :=
  (Does.lArrive (Does.refl _ s) (Foot.le_refl _) _ _ _ _ _).reg hn _ _
@[simp] theorem State.v_lArrive (l : Nat) (q : Nat) (k : Nat) (arg : Nat) (waits : Bool) (hn : Foot.lArrive.hasV va = false) : (State.lArrive s l q k arg waits).v va i0 j0 = s.v va i0 j0 :=
  (Does.lArrive (Does.refl _ s) (Foot.le_refl _) _ _ _ _ _).v hn _ _
@[simp] theorem State.part_lArrive (l : Nat) (q : Nat) (k : Nat) (arg : Nat) (waits : Bool) (hn : Foot.lArrive.hasP pa = false) : (State.lArrive s l q k arg waits).part pa = s.part pa :=
  (Does.lArrive (Does.refl _ s) (Foot.le_refl _) _ _ _ _ _).parts pa hn
@[simp] theorem State.rd_lOp (l : Nat) (q : Nat) (sop : Nat) (k : Nat) (arg : Nat) (mode : Bool) (hn : Foot.lOp.hasR fl.r = false) : (State.lOp s l q sop k arg mode).rd fl i0 j0 = s.rd fl i0 j0 :=
  (Does.lOp (Does.refl _ s) (Foot.le_refl _) _ _ _ _ _ _).rd hn _ _
@[simp] theorem State.reg_lOp (l : Nat) (q : Nat) (sop : Nat) (k : Nat) (arg : Nat) (mode : Bool) (hn : Foot.lOp.hasR ra = false) : (State.lOp s l q sop k arg mode).reg ra i0 j0 = s.reg ra i0 j0 :=
  (Does.lOp (Does.refl _ s) (Foot.le_refl _) _ _ _ _ _ _).reg hn _ _
@[simp] theorem State.v_lOp (l : Nat) (q : Nat) (sop : Nat) (k : Nat) (arg : Nat) (mode : Bool) (hn : Foot.lOp.hasV va = false) : (State.lOp s l q sop k arg mode).v va i0 j0 = s.v va i0 j0 :=
  (Does.lOp (Does.refl _ s) (Foot.le_refl _) _ _ _ _ _ _).v hn _ _
@[simp] theorem State.part_lOp (l : Nat) (q : Nat) (sop : Nat) (k : Nat) (arg : Nat) (mode : Bool) (hn : Foot.lOp.hasP pa = false) : (State.lOp s l q sop k arg mode).part pa = s.part pa :=
  (Does.lOp (Does.refl _ s) (Foot.le_refl _) _ _ _ _ _ _).parts pa hn
@[simp] theorem State.rd_lDisable (l : Nat) (k : Nat) (hn : Foot.lDisable.hasR fl.r = false) : (State.lDisable s l k).rd fl i0 j0 = s.rd fl i0 j0 :=
  (Does.lDisable (Does.refl _ s) (Foot.le_refl _) _ _).rd hn _ _
@[simp] theorem State.reg_lDisable (l : Nat) (k : Nat) (hn : Foot.lDisable.hasR ra = false) : (State.lDisable s l k).reg ra i0 j0 = s.reg ra i0 j0 :=
  (Does.lDisable (Does.refl _ s) (Foot.le_refl _) _ _).reg hn _ _
@[simp] theorem State.v_lDisable (l : Nat) (k : Nat) (hn : Foot.lDisable.hasV va = false) : (State.lDisable s l k).v va i0 j0 = s.v va i0 j0 :=
  (Does.lDisable (Does.refl _ s) (Foot.le_refl _) _ _).v hn _ _
@[simp] theorem State.part_lDisable (l : Nat) (k : Nat) (hn : Foot.lDisable.hasP pa = false) : (State.lDisable s l k).part pa = s.part pa :=
  (Does.lDisable (Does.refl _ s) (Foot.le_refl _) _ _).parts pa hn
@[simp] theorem State.rd_lsyncWr (l : Nat) (k : Nat) (w : Nat) (hn : Foot.lsyncWr.hasR fl.r = false) : (State.lsyncWr s l k w).2.rd fl i0 j0 = s.rd fl i0 j0 :=
  (Does.lsyncWr (Does.refl _ s) (Foot.le_refl _) _ _ _).rd hn _ _
@[simp] theorem State.reg_lsyncWr (l : Nat) (k : Nat) (w : Nat) (hn : Foot.lsyncWr.hasR ra = false) : (State.lsyncWr s l k w).2.reg ra i0 j0 = s.reg ra i0 j0 :=
  (Does.lsyncWr (Does.refl _ s) (Foot.le_refl _) _ _ _).reg hn _ _
@[simp] theorem State.v_lsyncWr (l : Nat) (k : Nat) (w : Nat) (hn : Foot.lsyncWr.hasV va = false) : (State.lsyncWr s l k w).2.v va i0 j0 = s.v va i0 j0 :=
  (Does.lsyncWr (Does.refl _ s) (Foot.le_refl _) _ _ _).v hn _ _
@[simp] theorem State.part_lsyncWr (l : Nat) (k : Nat) (w : Nat) (hn : Foot.lsyncWr.hasP pa = false) : (State.lsyncWr s l k w).2.part pa = s.part pa :=
  (Does.lsyncWr (Does.refl _ s) (Foot.le_refl _) _ _ _).parts pa hn
@[simp] theorem State.rd_leafRelease (l : Nat) (ctx : Nat) (lobj : Nat) (gen : Nat) (st : Nat) (shape : Nat) (busy : List Nat) (hn : Foot.leafRelease.hasR fl.r = false) : (State.leafRelease s l ctx lobj gen st shape busy).rd fl i0 j0 = s.rd fl i0 j0 :=
  (Does.leafRelease (Does.refl _ s) (Foot.le_refl _) _ _ _ _ _ _ _).rd hn _ _
@[simp] theorem State.reg_leafRelease (l : Nat) (ctx : Nat) (lobj : Nat) (gen : Nat) (st : Nat) (shape : Nat) (busy : List Nat) (hn : Foot.leafRelease.hasR ra = false) : (State.leafRelease s l ctx lobj gen st shape busy).reg ra i0 j0 = s.reg ra i0 j0 :=
  (Does.leafRelease (Does.refl _ s) (Foot.le_refl _) _ _ _ _ _ _ _).reg hn _ _
@[simp] theorem State.v_leafRelease (l : Nat) (ctx : Nat) (lobj : Nat) (gen : Nat) (st : Nat) (shape : Nat) (busy : List Nat) (hn : Foot.leafRelease.hasV va = false) : (State.leafRelease s l ctx lobj gen st shape busy).v va i0 j0 = s.v va i0 j0 :=
  (Does.leafRelease (Does.refl _ s) (Foot.le_refl _) _ _ _ _ _ _ _).v hn _ _
@[simp] theorem State.part_leafRelease (l : Nat) (ctx : Nat) (lobj : Nat) (gen : Nat) (st : Nat) (shape : Nat) (busy : List Nat) (hn : Foot.leafRelease.hasP pa = false) : (State.leafRelease s l ctx lobj gen st shape busy).part pa = s.part pa :=
  (Does.leafRelease (Does.refl _ s) (Foot.le_refl _) _ _ _ _ _ _ _).parts pa hn
@[simp] theorem State.rd_leafDirect (l : Nat) (ctx : Nat) (lobj : Nat) (gen : Nat) (st : Nat) (q : Nat) (wake : Bool) (hn : Foot.leafDirect.hasR fl.r = false) : (State.leafDirect s l ctx lobj gen st q wake).rd fl i0 j0 = s.rd fl i0 j0 :=
  (Does.leafDirect (Does.refl _ s) (Foot.le_refl _) _ _ _ _ _ _ _).rd hn _ _
@[simp] theorem State.reg_leafDirect (l : Nat) (ctx : Nat) (lobj : Nat) (gen : Nat) (st : Nat) (q : Nat) (wake : Bool) (hn : Foot.leafDirect.hasR ra = false) : (State.leafDirect s l ctx lobj gen st q wake).reg ra i0 j0 = s.reg ra i0 j0 :=
  (Does.leafDirect (Does.refl _ s) (Foot.le_refl _) _ _ _ _ _ _ _).reg hn _ _
@[simp] theorem State.v_leafDirect (l : Nat) (ctx : Nat) (lobj : Nat) (gen : Nat) (st : Nat) (q : Nat) (wake : Bool) (hn : Foot.leafDirect.hasV va = false) : (State.leafDirect s l ctx lobj gen st q wake).v va i0 j0 = s.v va i0 j0 :=
  (Does.leafDirect (Does.refl _ s) (Foot.le_refl _) _ _ _ _ _ _ _).v hn _ _
@[simp] theorem State.part_leafDirect (l : Nat) (ctx : Nat) (lobj : Nat) (gen : Nat) (st : Nat) (q : Nat) (wake : Bool) (hn : Foot.leafDirect.hasP pa = false) : (State.leafDirect s l ctx lobj gen st q wake).part pa = s.part pa :=
  (Does.leafDirect (Does.refl _ s) (Foot.le_refl _) _ _ _ _ _ _ _).parts pa hn
@[simp] theorem State.rd_leafClear (l : Nat) (c : Nat) (ep : Nat) (hn : Foot.leafClear.hasR fl.r = false) : (State.leafClear s l c ep).rd fl i0 j0 = s.rd fl i0 j0 :=
  (Does.leafClear (Does.refl _ s) (Foot.le_refl _) _ _ _).rd hn _ _
@[simp] theorem State.reg_leafClear (l : Nat) (c : Nat) (ep : Nat) (hn : Foot.leafClear.hasR ra = false) : (State.leafClear s l c ep).reg ra i0 j0 = s.reg ra i0 j0 :=
  (Does.leafClear (Does.refl _ s) (Foot.le_refl _) _ _ _).reg hn _ _
@[simp] theorem State.v_leafClear (l : Nat) (c : Nat) (ep : Nat) (hn : Foot.leafClear.hasV va = false) : (State.leafClear s l c ep).v va i0 j0 = s.v va i0 j0 :=
  (Does.leafClear (Does.refl _ s) (Foot.le_refl _) _ _ _).v hn _ _
@[simp] theorem State.part_leafClear (l : Nat) (c : Nat) (ep : Nat) (hn : Foot.leafClear.hasP pa = false) : (State.leafClear s l c ep).part pa = s.part pa :=
  (Does.leafClear (Does.refl _ s) (Foot.le_refl _) _ _ _).parts pa hn
@[simp] theorem State.rd_toChildren (n : Nat) (typ : Nat) (payload : Nat) (hn : Foot.toChildren.hasR fl.r = false) : (State.toChildren s n typ payload).rd fl i0 j0 = s.rd fl i0 j0 :=
  (Does.toChildren (Does.refl _ s) (Foot.le_refl _) _ _ _).rd hn _ _
@[simp] theorem State.reg_toChildren (n : Nat) (typ : Nat) (payload : Nat) (hn : Foot.toChildren.hasR ra = false) : (State.toChildren s n typ payload).reg ra i0 j0 = s.reg ra i0 j0 :=
  (Does.toChildren (Does.refl _ s) (Foot.le_refl _) _ _ _).reg hn _ _
@[simp] theorem State.v_toChildren (n : Nat) (typ : Nat) (payload : Nat) (hn : Foot.toChildren.hasV va = false) : (State.toChildren s n typ payload).v va i0 j0 = s.v va i0 j0 :=
  (Does.toChildren (Does.refl _ s) (Foot.le_refl _) _ _ _).v hn _ _
@[simp] theorem State.part_toChildren (n : Nat) (typ : Nat) (payload : Nat) (hn : Foot.toChildren.hasP pa = false) : (State.toChildren s n typ payload).part pa = s.part pa :=
  (Does.toChildren (Does.refl _ s) (Foot.le_refl _) _ _ _).parts pa hn
@[simp] theorem State.rd_tryAuth (n : Nat) (hn : Foot.tryAuth.hasR fl.r = false) : (State.tryAuth s n).rd fl i0 j0 = s.rd fl i0 j0 :=
  (Does.tryAuth (Does.refl _ s) (Foot.le_refl _) _).rd hn _ _
@[simp] theorem State.reg_tryAuth (n : Nat) (hn : Foot.tryAuth.hasR ra = false) : (State.tryAuth s n).reg ra i0 j0 = s.reg ra i0 j0 :=
  (Does.tryAuth (Does.refl _ s) (Foot.le_refl _) _).reg hn _ _
@[simp] theorem State.v_tryAuth (n : Nat) (hn : Foot.tryAuth.hasV va = false) : (State.tryAuth s n).v va i0 j0 = s.v va i0 j0 :=
  (Does.tryAuth (Does.refl _ s) (Foot.le_refl _) _).v hn _ _
@[simp] theorem State.part_tryAuth (n : Nat) (hn : Foot.tryAuth.hasP pa = false) : (State.tryAuth s n).part pa = s.part pa :=
  (Does.tryAuth (Does.refl _ s) (Foot.le_refl _) _).parts pa hn
@[simp] theorem State.rd_portToUp (n : Nat) (hn : Foot.portToUp.hasR fl.r = false) : (State.portToUp s n).rd fl i0 j0 = s.rd fl i0 j0 :=
  (Does.portToUp (Does.refl _ s) (Foot.le_refl _) _).rd hn _ _
@[simp] theorem State.reg_portToUp (n : Nat) (hn : Foot.portToUp.hasR ra = false) : (State.portToUp s n).reg ra i0 j0 = s.reg ra i0 j0 :=
  (Does.portToUp (Does.refl _ s) (Foot.le_refl _) _).reg hn _ _
@[simp] theorem State.v_portToUp (n : Nat) (hn : Foot.portToUp.hasV va = false) : (State.portToUp s n).v va i0 j0 = s.v va i0 j0 :=
  (Does.portToUp (Does.refl _ s) (Foot.le_refl _) _).v hn _ _
@[simp] theorem State.part_portToUp (n : Nat) (hn : Foot.portToUp.hasP pa = false) : (State.portToUp s n).part pa = s.part pa :=
  (Does.portToUp (Does.refl _ s) (Foot.le_refl _) _).parts pa hn
@[simp] theorem State.rd_spanStale (hn : Foot.spanStale.hasR fl.r = false) : (State.spanStale s).rd fl i0 j0 = s.rd fl i0 j0 :=
  (Does.spanStale (Does.refl _ s) (Foot.le_refl _)).rd hn _ _
@[simp] theorem State.reg_spanStale (hn : Foot.spanStale.hasR ra = false) : (State.spanStale s).reg ra i0 j0 = s.reg ra i0 j0 :=
  (Does.spanStale (Does.refl _ s) (Foot.le_refl _)).reg hn _ _
@[simp] theorem State.v_spanStale (hn : Foot.spanStale.hasV va = false) : (State.spanStale s).v va i0 j0 = s.v va i0 j0 :=
  (Does.spanStale (Does.refl _ s) (Foot.le_refl _)).v hn _ _
@[simp] theorem State.part_spanStale (hn : Foot.spanStale.hasP pa = false) : (State.spanStale s).part pa = s.part pa :=
  (Does.spanStale (Does.refl _ s) (Foot.le_refl _)).parts pa hn
@[simp] theorem State.rd_gCount (i : Nat) (d : Nat) (hn : Foot.gCount.hasR fl.r = false) : (State.gCount s i d).rd fl i0 j0 = s.rd fl i0 j0 :=
  (Does.gCount (Does.refl _ s) (Foot.le_refl _) _ _).rd hn _ _
@[simp] theorem State.reg_gCount (i : Nat) (d : Nat) (hn : Foot.gCount.hasR ra = false) : (State.gCount s i d).reg ra i0 j0 = s.reg ra i0 j0 :=
  (Does.gCount (Does.refl _ s) (Foot.le_refl _) _ _).reg hn _ _
@[simp] theorem State.v_gCount (i : Nat) (d : Nat) (hn : Foot.gCount.hasV va = false) : (State.gCount s i d).v va i0 j0 = s.v va i0 j0 :=
  (Does.gCount (Does.refl _ s) (Foot.le_refl _) _ _).v hn _ _
@[simp] theorem State.part_gCount (i : Nat) (d : Nat) (hn : Foot.gCount.hasP pa = false) : (State.gCount s i d).part pa = s.part pa :=
  (Does.gCount (Does.refl _ s) (Foot.le_refl _) _ _).parts pa hn
@[simp] theorem State.rd_stateTime (hn : Foot.stateTime.hasR fl.r = false) : (State.stateTime s).rd fl i0 j0 = s.rd fl i0 j0 :=
  (Does.stateTime (Does.refl _ s) (Foot.le_refl _)).rd hn _ _
@[simp] theorem State.reg_stateTime (hn : Foot.stateTime.hasR ra = false) : (State.stateTime s).reg ra i0 j0 = s.reg ra i0 j0 :=
  (Does.stateTime (Does.refl _ s) (Foot.le_refl _)).reg hn _ _
@[simp] theorem State.v_stateTime (hn : Foot.stateTime.hasV va = false) : (State.stateTime s).v va i0 j0 = s.v va i0 j0 :=
  (Does.stateTime (Does.refl _ s) (Foot.le_refl _)).v hn _ _
@[simp] theorem State.part_stateTime (hn : Foot.stateTime.hasP pa = false) : (State.stateTime s).part pa = s.part pa :=
  (Does.stateTime (Does.refl _ s) (Foot.le_refl _)).parts pa hn
@[simp] theorem State.rd_pkgTo (st : Nat) (cause : Nat) (hn : Foot.pkgTo.hasR fl.r = false) : (State.pkgTo s st cause).rd fl i0 j0 = s.rd fl i0 j0 :=
  (Does.pkgTo (Does.refl _ s) (Foot.le_refl _) _ _).rd hn _ _
@[simp] theorem State.reg_pkgTo (st : Nat) (cause : Nat) (hn : Foot.pkgTo.hasR ra = false) : (State.pkgTo s st cause).reg ra i0 j0 = s.reg ra i0 j0 :=
  (Does.pkgTo (Does.refl _ s) (Foot.le_refl _) _ _).reg hn _ _
@[simp] theorem State.v_pkgTo (st : Nat) (cause : Nat) (hn : Foot.pkgTo.hasV va = false) : (State.pkgTo s st cause).v va i0 j0 = s.v va i0 j0 :=
  (Does.pkgTo (Does.refl _ s) (Foot.le_refl _) _ _).v hn _ _
@[simp] theorem State.part_pkgTo (st : Nat) (cause : Nat) (hn : Foot.pkgTo.hasP pa = false) : (State.pkgTo s st cause).part pa = s.part pa :=
  (Does.pkgTo (Does.refl _ s) (Foot.le_refl _) _ _).parts pa hn
@[simp] theorem State.rd_tripShow (hn : Foot.tripShow.hasR fl.r = false) : (State.tripShow s).rd fl i0 j0 = s.rd fl i0 j0 :=
  (Does.tripShow (Does.refl _ s) (Foot.le_refl _)).rd hn _ _
@[simp] theorem State.reg_tripShow (hn : Foot.tripShow.hasR ra = false) : (State.tripShow s).reg ra i0 j0 = s.reg ra i0 j0 :=
  (Does.tripShow (Does.refl _ s) (Foot.le_refl _)).reg hn _ _
@[simp] theorem State.v_tripShow (hn : Foot.tripShow.hasV va = false) : (State.tripShow s).v va i0 j0 = s.v va i0 j0 :=
  (Does.tripShow (Does.refl _ s) (Foot.le_refl _)).v hn _ _
@[simp] theorem State.part_tripShow (hn : Foot.tripShow.hasP pa = false) : (State.tripShow s).part pa = s.part pa :=
  (Does.tripShow (Does.refl _ s) (Foot.le_refl _)).parts pa hn
@[simp] theorem State.rd_stopOn (hn : Foot.stopOn.hasR fl.r = false) : (State.stopOn s).rd fl i0 j0 = s.rd fl i0 j0 :=
  (Does.stopOn (Does.refl _ s) (Foot.le_refl _)).rd hn _ _
@[simp] theorem State.reg_stopOn (hn : Foot.stopOn.hasR ra = false) : (State.stopOn s).reg ra i0 j0 = s.reg ra i0 j0 :=
  (Does.stopOn (Does.refl _ s) (Foot.le_refl _)).reg hn _ _
@[simp] theorem State.v_stopOn (hn : Foot.stopOn.hasV va = false) : (State.stopOn s).v va i0 j0 = s.v va i0 j0 :=
  (Does.stopOn (Does.refl _ s) (Foot.le_refl _)).v hn _ _
@[simp] theorem State.part_stopOn (hn : Foot.stopOn.hasP pa = false) : (State.stopOn s).part pa = s.part pa :=
  (Does.stopOn (Does.refl _ s) (Foot.le_refl _)).parts pa hn
@[simp] theorem State.rd_stopOff (hn : Foot.stopOff.hasR fl.r = false) : (State.stopOff s).rd fl i0 j0 = s.rd fl i0 j0 :=
  (Does.stopOff (Does.refl _ s) (Foot.le_refl _)).rd hn _ _
@[simp] theorem State.reg_stopOff (hn : Foot.stopOff.hasR ra = false) : (State.stopOff s).reg ra i0 j0 = s.reg ra i0 j0 :=
  (Does.stopOff (Does.refl _ s) (Foot.le_refl _)).reg hn _ _
@[simp] theorem State.v_stopOff (hn : Foot.stopOff.hasV va = false) : (State.stopOff s).v va i0 j0 = s.v va i0 j0 :=
  (Does.stopOff (Does.refl _ s) (Foot.le_refl _)).v hn _ _
@[simp] theorem State.part_stopOff (hn : Foot.stopOff.hasP pa = false) : (State.stopOff s).part pa = s.part pa :=
  (Does.stopOff (Does.refl _ s) (Foot.le_refl _)).parts pa hn
@[simp] theorem State.rd_slowFrom (r : Nat) (want : Nat) (hn : Foot.slowFrom.hasR fl.r = false) : (State.slowFrom s r want).rd fl i0 j0 = s.rd fl i0 j0 :=
  (Does.slowFrom (Does.refl _ s) (Foot.le_refl _) _ _).rd hn _ _
@[simp] theorem State.reg_slowFrom (r : Nat) (want : Nat) (hn : Foot.slowFrom.hasR ra = false) : (State.slowFrom s r want).reg ra i0 j0 = s.reg ra i0 j0 :=
  (Does.slowFrom (Does.refl _ s) (Foot.le_refl _) _ _).reg hn _ _
@[simp] theorem State.v_slowFrom (r : Nat) (want : Nat) (hn : Foot.slowFrom.hasV va = false) : (State.slowFrom s r want).v va i0 j0 = s.v va i0 j0 :=
  (Does.slowFrom (Does.refl _ s) (Foot.le_refl _) _ _).v hn _ _
@[simp] theorem State.part_slowFrom (r : Nat) (want : Nat) (hn : Foot.slowFrom.hasP pa = false) : (State.slowFrom s r want).part pa = s.part pa :=
  (Does.slowFrom (Does.refl _ s) (Foot.le_refl _) _ _).parts pa hn
@[simp] theorem State.rd_vfRail (r : Nat) (hn : Foot.vfRail.hasR fl.r = false) : (State.vfRail s r).rd fl i0 j0 = s.rd fl i0 j0 :=
  (Does.vfRail (Does.refl _ s) (Foot.le_refl _) _).rd hn _ _
@[simp] theorem State.reg_vfRail (r : Nat) (hn : Foot.vfRail.hasR ra = false) : (State.vfRail s r).reg ra i0 j0 = s.reg ra i0 j0 :=
  (Does.vfRail (Does.refl _ s) (Foot.le_refl _) _).reg hn _ _
@[simp] theorem State.v_vfRail (r : Nat) (hn : Foot.vfRail.hasV va = false) : (State.vfRail s r).v va i0 j0 = s.v va i0 j0 :=
  (Does.vfRail (Does.refl _ s) (Foot.le_refl _) _).v hn _ _
@[simp] theorem State.part_vfRail (r : Nat) (hn : Foot.vfRail.hasP pa = false) : (State.vfRail s r).part pa = s.part pa :=
  (Does.vfRail (Does.refl _ s) (Foot.le_refl _) _).parts pa hn
@[simp] theorem State.rd_vfRun (hn : Foot.vfRun.hasR fl.r = false) : (State.vfRun s).rd fl i0 j0 = s.rd fl i0 j0 :=
  (Does.vfRun (Does.refl _ s) (Foot.le_refl _)).rd hn _ _
@[simp] theorem State.reg_vfRun (hn : Foot.vfRun.hasR ra = false) : (State.vfRun s).reg ra i0 j0 = s.reg ra i0 j0 :=
  (Does.vfRun (Does.refl _ s) (Foot.le_refl _)).reg hn _ _
@[simp] theorem State.v_vfRun (hn : Foot.vfRun.hasV va = false) : (State.vfRun s).v va i0 j0 = s.v va i0 j0 :=
  (Does.vfRun (Does.refl _ s) (Foot.le_refl _)).v hn _ _
@[simp] theorem State.part_vfRun (hn : Foot.vfRun.hasP pa = false) : (State.vfRun s).part pa = s.part pa :=
  (Does.vfRun (Does.refl _ s) (Foot.le_refl _)).parts pa hn
@[simp] theorem State.rd_vfLower (r : Nat) (hn : Foot.vfLower.hasR fl.r = false) : (State.vfLower s r).rd fl i0 j0 = s.rd fl i0 j0 :=
  (Does.vfLower (Does.refl _ s) (Foot.le_refl _) _).rd hn _ _
@[simp] theorem State.reg_vfLower (r : Nat) (hn : Foot.vfLower.hasR ra = false) : (State.vfLower s r).reg ra i0 j0 = s.reg ra i0 j0 :=
  (Does.vfLower (Does.refl _ s) (Foot.le_refl _) _).reg hn _ _
@[simp] theorem State.v_vfLower (r : Nat) (hn : Foot.vfLower.hasV va = false) : (State.vfLower s r).v va i0 j0 = s.v va i0 j0 :=
  (Does.vfLower (Does.refl _ s) (Foot.le_refl _) _).v hn _ _
@[simp] theorem State.part_vfLower (r : Nat) (hn : Foot.vfLower.hasP pa = false) : (State.vfLower s r).part pa = s.part pa :=
  (Does.vfLower (Does.refl _ s) (Foot.le_refl _) _).parts pa hn
@[simp] theorem State.rd_modeCeil (l : Nat) (hn : Foot.modeCeil.hasR fl.r = false) : (State.modeCeil s l).rd fl i0 j0 = s.rd fl i0 j0 :=
  (Does.modeCeil (Does.refl _ s) (Foot.le_refl _) _).rd hn _ _
@[simp] theorem State.reg_modeCeil (l : Nat) (hn : Foot.modeCeil.hasR ra = false) : (State.modeCeil s l).reg ra i0 j0 = s.reg ra i0 j0 :=
  (Does.modeCeil (Does.refl _ s) (Foot.le_refl _) _).reg hn _ _
@[simp] theorem State.v_modeCeil (l : Nat) (hn : Foot.modeCeil.hasV va = false) : (State.modeCeil s l).v va i0 j0 = s.v va i0 j0 :=
  (Does.modeCeil (Does.refl _ s) (Foot.le_refl _) _).v hn _ _
@[simp] theorem State.part_modeCeil (l : Nat) (hn : Foot.modeCeil.hasP pa = false) : (State.modeCeil s l).part pa = s.part pa :=
  (Does.modeCeil (Does.refl _ s) (Foot.le_refl _) _).parts pa hn
@[simp] theorem State.rd_modeTo (m : Nat) (hn : Foot.modeTo.hasR fl.r = false) : (State.modeTo s m).rd fl i0 j0 = s.rd fl i0 j0 :=
  (Does.modeTo (Does.refl _ s) (Foot.le_refl _) _).rd hn _ _
@[simp] theorem State.reg_modeTo (m : Nat) (hn : Foot.modeTo.hasR ra = false) : (State.modeTo s m).reg ra i0 j0 = s.reg ra i0 j0 :=
  (Does.modeTo (Does.refl _ s) (Foot.le_refl _) _).reg hn _ _
@[simp] theorem State.v_modeTo (m : Nat) (hn : Foot.modeTo.hasV va = false) : (State.modeTo s m).v va i0 j0 = s.v va i0 j0 :=
  (Does.modeTo (Does.refl _ s) (Foot.le_refl _) _).v hn _ _
@[simp] theorem State.part_modeTo (m : Nat) (hn : Foot.modeTo.hasP pa = false) : (State.modeTo s m).part pa = s.part pa :=
  (Does.modeTo (Does.refl _ s) (Foot.le_refl _) _).parts pa hn
@[simp] theorem State.rd_ldrResult (st : Status) (detail : Nat) (step : Nat) (off : Nat) (hn : Foot.ldrResult.hasR fl.r = false) : (State.ldrResult s st detail step off).rd fl i0 j0 = s.rd fl i0 j0 :=
  (Does.ldrResult (Does.refl _ s) (Foot.le_refl _) _ _ _ _).rd hn _ _
@[simp] theorem State.reg_ldrResult (st : Status) (detail : Nat) (step : Nat) (off : Nat) (hn : Foot.ldrResult.hasR ra = false) : (State.ldrResult s st detail step off).reg ra i0 j0 = s.reg ra i0 j0 :=
  (Does.ldrResult (Does.refl _ s) (Foot.le_refl _) _ _ _ _).reg hn _ _
@[simp] theorem State.v_ldrResult (st : Status) (detail : Nat) (step : Nat) (off : Nat) (hn : Foot.ldrResult.hasV va = false) : (State.ldrResult s st detail step off).v va i0 j0 = s.v va i0 j0 :=
  (Does.ldrResult (Does.refl _ s) (Foot.le_refl _) _ _ _ _).v hn _ _
@[simp] theorem State.part_ldrResult (st : Status) (detail : Nat) (step : Nat) (off : Nat) (hn : Foot.ldrResult.hasP pa = false) : (State.ldrResult s st detail step off).part pa = s.part pa :=
  (Does.ldrResult (Does.refl _ s) (Foot.le_refl _) _ _ _ _).parts pa hn
@[simp] theorem State.rd_fallbackShow (hn : Foot.fallbackShow.hasR fl.r = false) : (State.fallbackShow s).rd fl i0 j0 = s.rd fl i0 j0 :=
  (Does.fallbackShow (Does.refl _ s) (Foot.le_refl _)).rd hn _ _
@[simp] theorem State.reg_fallbackShow (hn : Foot.fallbackShow.hasR ra = false) : (State.fallbackShow s).reg ra i0 j0 = s.reg ra i0 j0 :=
  (Does.fallbackShow (Does.refl _ s) (Foot.le_refl _)).reg hn _ _
@[simp] theorem State.v_fallbackShow (hn : Foot.fallbackShow.hasV va = false) : (State.fallbackShow s).v va i0 j0 = s.v va i0 j0 :=
  (Does.fallbackShow (Does.refl _ s) (Foot.le_refl _)).v hn _ _
@[simp] theorem State.part_fallbackShow (hn : Foot.fallbackShow.hasP pa = false) : (State.fallbackShow s).part pa = s.part pa :=
  (Does.fallbackShow (Does.refl _ s) (Foot.le_refl _)).parts pa hn
@[simp] theorem State.rd_candidate (hn : Foot.candidate.hasR fl.r = false) : (State.candidate s).rd fl i0 j0 = s.rd fl i0 j0 :=
  (Does.candidate (Does.refl _ s) (Foot.le_refl _)).rd hn _ _
@[simp] theorem State.reg_candidate (hn : Foot.candidate.hasR ra = false) : (State.candidate s).reg ra i0 j0 = s.reg ra i0 j0 :=
  (Does.candidate (Does.refl _ s) (Foot.le_refl _)).reg hn _ _
@[simp] theorem State.v_candidate (hn : Foot.candidate.hasV va = false) : (State.candidate s).v va i0 j0 = s.v va i0 j0 :=
  (Does.candidate (Does.refl _ s) (Foot.le_refl _)).v hn _ _
@[simp] theorem State.part_candidate (hn : Foot.candidate.hasP pa = false) : (State.candidate s).part pa = s.part pa :=
  (Does.candidate (Does.refl _ s) (Foot.le_refl _)).parts pa hn
@[simp] theorem State.rd_loopsUnhold (l : List Nat) (hn : Foot.loopsUnhold.hasR fl.r = false) : (State.loopsUnhold s l).rd fl i0 j0 = s.rd fl i0 j0 :=
  (Does.loopsUnhold (Does.refl _ s) (Foot.le_refl _) _).rd hn _ _
@[simp] theorem State.reg_loopsUnhold (l : List Nat) (hn : Foot.loopsUnhold.hasR ra = false) : (State.loopsUnhold s l).reg ra i0 j0 = s.reg ra i0 j0 :=
  (Does.loopsUnhold (Does.refl _ s) (Foot.le_refl _) _).reg hn _ _
@[simp] theorem State.v_loopsUnhold (l : List Nat) (hn : Foot.loopsUnhold.hasV va = false) : (State.loopsUnhold s l).v va i0 j0 = s.v va i0 j0 :=
  (Does.loopsUnhold (Does.refl _ s) (Foot.le_refl _) _).v hn _ _
@[simp] theorem State.part_loopsUnhold (l : List Nat) (hn : Foot.loopsUnhold.hasP pa = false) : (State.loopsUnhold s l).part pa = s.part pa :=
  (Does.loopsUnhold (Does.refl _ s) (Foot.le_refl _) _).parts pa hn
@[simp] theorem State.rd_ldrAborted (hn : Foot.ldrAborted.hasR fl.r = false) : (State.ldrAborted s).rd fl i0 j0 = s.rd fl i0 j0 :=
  (Does.ldrAborted (Does.refl _ s) (Foot.le_refl _)).rd hn _ _
@[simp] theorem State.reg_ldrAborted (hn : Foot.ldrAborted.hasR ra = false) : (State.ldrAborted s).reg ra i0 j0 = s.reg ra i0 j0 :=
  (Does.ldrAborted (Does.refl _ s) (Foot.le_refl _)).reg hn _ _
@[simp] theorem State.v_ldrAborted (hn : Foot.ldrAborted.hasV va = false) : (State.ldrAborted s).v va i0 j0 = s.v va i0 j0 :=
  (Does.ldrAborted (Does.refl _ s) (Foot.le_refl _)).v hn _ _
@[simp] theorem State.part_ldrAborted (hn : Foot.ldrAborted.hasP pa = false) : (State.ldrAborted s).part pa = s.part pa :=
  (Does.ldrAborted (Does.refl _ s) (Foot.le_refl _)).parts pa hn
@[simp] theorem State.rd_tripBody (cls : Nat) (prev : Nat) (hn : Foot.tripBody.hasR fl.r = false) : (State.tripBody s cls prev).2.rd fl i0 j0 = s.rd fl i0 j0 :=
  (Does.tripBody (Does.refl _ s) (Foot.le_refl _) _ _).rd hn _ _
@[simp] theorem State.reg_tripBody (cls : Nat) (prev : Nat) (hn : Foot.tripBody.hasR ra = false) : (State.tripBody s cls prev).2.reg ra i0 j0 = s.reg ra i0 j0 :=
  (Does.tripBody (Does.refl _ s) (Foot.le_refl _) _ _).reg hn _ _
@[simp] theorem State.v_tripBody (cls : Nat) (prev : Nat) (hn : Foot.tripBody.hasV va = false) : (State.tripBody s cls prev).2.v va i0 j0 = s.v va i0 j0 :=
  (Does.tripBody (Does.refl _ s) (Foot.le_refl _) _ _).v hn _ _
@[simp] theorem State.part_tripBody (cls : Nat) (prev : Nat) (hn : Foot.tripBody.hasP pa = false) : (State.tripBody s cls prev).2.part pa = s.part pa :=
  (Does.tripBody (Does.refl _ s) (Foot.le_refl _) _ _).parts pa hn
@[simp] theorem State.rd_faultRecord (typ : Nat) (body : List Byte) (hn : Foot.faultRecord.hasR fl.r = false) : (State.faultRecord s typ body).rd fl i0 j0 = s.rd fl i0 j0 :=
  (Does.faultRecord (Does.refl _ s) (Foot.le_refl _) _ _).rd hn _ _
@[simp] theorem State.reg_faultRecord (typ : Nat) (body : List Byte) (hn : Foot.faultRecord.hasR ra = false) : (State.faultRecord s typ body).reg ra i0 j0 = s.reg ra i0 j0 :=
  (Does.faultRecord (Does.refl _ s) (Foot.le_refl _) _ _).reg hn _ _
@[simp] theorem State.v_faultRecord (typ : Nat) (body : List Byte) (hn : Foot.faultRecord.hasV va = false) : (State.faultRecord s typ body).v va i0 j0 = s.v va i0 j0 :=
  (Does.faultRecord (Does.refl _ s) (Foot.le_refl _) _ _).v hn _ _
@[simp] theorem State.part_faultRecord (typ : Nat) (body : List Byte) (hn : Foot.faultRecord.hasP pa = false) : (State.faultRecord s typ body).part pa = s.part pa :=
  (Does.faultRecord (Does.refl _ s) (Foot.le_refl _) _ _).parts pa hn
@[simp] theorem State.rd_resumeUp (hn : Foot.resumeUp.hasR fl.r = false) : (State.resumeUp s).rd fl i0 j0 = s.rd fl i0 j0 :=
  (Does.resumeUp (Does.refl _ s) (Foot.le_refl _)).rd hn _ _
@[simp] theorem State.reg_resumeUp (hn : Foot.resumeUp.hasR ra = false) : (State.resumeUp s).reg ra i0 j0 = s.reg ra i0 j0 :=
  (Does.resumeUp (Does.refl _ s) (Foot.le_refl _)).reg hn _ _
@[simp] theorem State.v_resumeUp (hn : Foot.resumeUp.hasV va = false) : (State.resumeUp s).v va i0 j0 = s.v va i0 j0 :=
  (Does.resumeUp (Does.refl _ s) (Foot.le_refl _)).v hn _ _
@[simp] theorem State.part_resumeUp (hn : Foot.resumeUp.hasP pa = false) : (State.resumeUp s).part pa = s.part pa :=
  (Does.resumeUp (Does.refl _ s) (Foot.le_refl _)).parts pa hn
@[simp] theorem State.rd_downGiveUp (hn : Foot.downGiveUp.hasR fl.r = false) : (State.downGiveUp s).rd fl i0 j0 = s.rd fl i0 j0 :=
  (Does.downGiveUp (Does.refl _ s) (Foot.le_refl _)).rd hn _ _
@[simp] theorem State.reg_downGiveUp (hn : Foot.downGiveUp.hasR ra = false) : (State.downGiveUp s).reg ra i0 j0 = s.reg ra i0 j0 :=
  (Does.downGiveUp (Does.refl _ s) (Foot.le_refl _)).reg hn _ _
@[simp] theorem State.v_downGiveUp (hn : Foot.downGiveUp.hasV va = false) : (State.downGiveUp s).v va i0 j0 = s.v va i0 j0 :=
  (Does.downGiveUp (Does.refl _ s) (Foot.le_refl _)).v hn _ _
@[simp] theorem State.part_downGiveUp (hn : Foot.downGiveUp.hasP pa = false) : (State.downGiveUp s).part pa = s.part pa :=
  (Does.downGiveUp (Does.refl _ s) (Foot.le_refl _)).parts pa hn
@[simp] theorem State.rd_failEnter (cause : Nat) (hn : Foot.failEnter.hasR fl.r = false) : (State.failEnter s cause).rd fl i0 j0 = s.rd fl i0 j0 :=
  (Does.failEnter (Does.refl _ s) (Foot.le_refl _) _).rd hn _ _
@[simp] theorem State.reg_failEnter (cause : Nat) (hn : Foot.failEnter.hasR ra = false) : (State.failEnter s cause).reg ra i0 j0 = s.reg ra i0 j0 :=
  (Does.failEnter (Does.refl _ s) (Foot.le_refl _) _).reg hn _ _
@[simp] theorem State.v_failEnter (cause : Nat) (hn : Foot.failEnter.hasV va = false) : (State.failEnter s cause).v va i0 j0 = s.v va i0 j0 :=
  (Does.failEnter (Does.refl _ s) (Foot.le_refl _) _).v hn _ _
@[simp] theorem State.part_failEnter (cause : Nat) (hn : Foot.failEnter.hasP pa = false) : (State.failEnter s cause).part pa = s.part pa :=
  (Does.failEnter (Does.refl _ s) (Foot.le_refl _) _).parts pa hn
@[simp] theorem State.rd_downStep (why : Nat) (k : Nat) (hn : Foot.downStep.hasR fl.r = false) : (State.downStep s why k).rd fl i0 j0 = s.rd fl i0 j0 :=
  (Does.downStep (Does.refl _ s) (Foot.le_refl _) _ _).rd hn _ _
@[simp] theorem State.reg_downStep (why : Nat) (k : Nat) (hn : Foot.downStep.hasR ra = false) : (State.downStep s why k).reg ra i0 j0 = s.reg ra i0 j0 :=
  (Does.downStep (Does.refl _ s) (Foot.le_refl _) _ _).reg hn _ _
@[simp] theorem State.v_downStep (why : Nat) (k : Nat) (hn : Foot.downStep.hasV va = false) : (State.downStep s why k).v va i0 j0 = s.v va i0 j0 :=
  (Does.downStep (Does.refl _ s) (Foot.le_refl _) _ _).v hn _ _
@[simp] theorem State.part_downStep (why : Nat) (k : Nat) (hn : Foot.downStep.hasP pa = false) : (State.downStep s why k).part pa = s.part pa :=
  (Does.downStep (Does.refl _ s) (Foot.le_refl _) _ _).parts pa hn
@[simp] theorem State.rd_aonEnter (hn : Foot.aonEnter.hasR fl.r = false) : (State.aonEnter s).rd fl i0 j0 = s.rd fl i0 j0 :=
  (Does.aonEnter (Does.refl _ s) (Foot.le_refl _)).rd hn _ _
@[simp] theorem State.reg_aonEnter (hn : Foot.aonEnter.hasR ra = false) : (State.aonEnter s).reg ra i0 j0 = s.reg ra i0 j0 :=
  (Does.aonEnter (Does.refl _ s) (Foot.le_refl _)).reg hn _ _
@[simp] theorem State.v_aonEnter (hn : Foot.aonEnter.hasV va = false) : (State.aonEnter s).v va i0 j0 = s.v va i0 j0 :=
  (Does.aonEnter (Does.refl _ s) (Foot.le_refl _)).v hn _ _
@[simp] theorem State.part_aonEnter (hn : Foot.aonEnter.hasP pa = false) : (State.aonEnter s).part pa = s.part pa :=
  (Does.aonEnter (Does.refl _ s) (Foot.le_refl _)).parts pa hn
@[simp] theorem State.rd_islPlanStep (d : Nat) (hn : Foot.islPlanStep.hasR fl.r = false) : (State.islPlanStep s d).rd fl i0 j0 = s.rd fl i0 j0 :=
  (Does.islPlanStep (Does.refl _ s) (Foot.le_refl _) _).rd hn _ _
@[simp] theorem State.reg_islPlanStep (d : Nat) (hn : Foot.islPlanStep.hasR ra = false) : (State.islPlanStep s d).reg ra i0 j0 = s.reg ra i0 j0 :=
  (Does.islPlanStep (Does.refl _ s) (Foot.le_refl _) _).reg hn _ _
@[simp] theorem State.v_islPlanStep (d : Nat) (hn : Foot.islPlanStep.hasV va = false) : (State.islPlanStep s d).v va i0 j0 = s.v va i0 j0 :=
  (Does.islPlanStep (Does.refl _ s) (Foot.le_refl _) _).v hn _ _
@[simp] theorem State.part_islPlanStep (d : Nat) (hn : Foot.islPlanStep.hasP pa = false) : (State.islPlanStep s d).part pa = s.part pa :=
  (Does.islPlanStep (Does.refl _ s) (Foot.le_refl _) _).parts pa hn
@[simp] theorem State.rd_islPlanRun (hn : Foot.islPlanRun.hasR fl.r = false) : (State.islPlanRun s).rd fl i0 j0 = s.rd fl i0 j0 :=
  (Does.islPlanRun (Does.refl _ s) (Foot.le_refl _)).rd hn _ _
@[simp] theorem State.reg_islPlanRun (hn : Foot.islPlanRun.hasR ra = false) : (State.islPlanRun s).reg ra i0 j0 = s.reg ra i0 j0 :=
  (Does.islPlanRun (Does.refl _ s) (Foot.le_refl _)).reg hn _ _
@[simp] theorem State.v_islPlanRun (hn : Foot.islPlanRun.hasV va = false) : (State.islPlanRun s).v va i0 j0 = s.v va i0 j0 :=
  (Does.islPlanRun (Does.refl _ s) (Foot.le_refl _)).v hn _ _
@[simp] theorem State.part_islPlanRun (hn : Foot.islPlanRun.hasP pa = false) : (State.islPlanRun s).part pa = s.part pa :=
  (Does.islPlanRun (Does.refl _ s) (Foot.le_refl _)).parts pa hn
@[simp] theorem State.rd_downRun (fuel : Nat) (hn : Foot.downRun.hasR fl.r = false) : (State.downRun s fuel).rd fl i0 j0 = s.rd fl i0 j0 :=
  (Does.downRun (Does.refl _ s) (Foot.le_refl _) _).rd hn _ _
@[simp] theorem State.reg_downRun (fuel : Nat) (hn : Foot.downRun.hasR ra = false) : (State.downRun s fuel).reg ra i0 j0 = s.reg ra i0 j0 :=
  (Does.downRun (Does.refl _ s) (Foot.le_refl _) _).reg hn _ _
@[simp] theorem State.v_downRun (fuel : Nat) (hn : Foot.downRun.hasV va = false) : (State.downRun s fuel).v va i0 j0 = s.v va i0 j0 :=
  (Does.downRun (Does.refl _ s) (Foot.le_refl _) _).v hn _ _
@[simp] theorem State.part_downRun (fuel : Nat) (hn : Foot.downRun.hasP pa = false) : (State.downRun s fuel).part pa = s.part pa :=
  (Does.downRun (Does.refl _ s) (Foot.le_refl _) _).parts pa hn
@[simp] theorem State.rd_downStart (why : Nat) (hn : Foot.downStart.hasR fl.r = false) : (State.downStart s why).rd fl i0 j0 = s.rd fl i0 j0 :=
  (Does.downStart (Does.refl _ s) (Foot.le_refl _) _).rd hn _ _
@[simp] theorem State.reg_downStart (why : Nat) (hn : Foot.downStart.hasR ra = false) : (State.downStart s why).reg ra i0 j0 = s.reg ra i0 j0 :=
  (Does.downStart (Does.refl _ s) (Foot.le_refl _) _).reg hn _ _
@[simp] theorem State.v_downStart (why : Nat) (hn : Foot.downStart.hasV va = false) : (State.downStart s why).v va i0 j0 = s.v va i0 j0 :=
  (Does.downStart (Does.refl _ s) (Foot.le_refl _) _).v hn _ _
@[simp] theorem State.part_downStart (why : Nat) (hn : Foot.downStart.hasP pa = false) : (State.downStart s why).part pa = s.part pa :=
  (Does.downStart (Does.refl _ s) (Foot.le_refl _) _).parts pa hn
@[simp] theorem State.rd_trip (cls : Nat) (rs : List Nat) (hn : Foot.trip.hasR fl.r = false) : (State.trip s cls rs).rd fl i0 j0 = s.rd fl i0 j0 :=
  (Does.trip (Does.refl _ s) (Foot.le_refl _) _ _).rd hn _ _
@[simp] theorem State.reg_trip (cls : Nat) (rs : List Nat) (hn : Foot.trip.hasR ra = false) : (State.trip s cls rs).reg ra i0 j0 = s.reg ra i0 j0 :=
  (Does.trip (Does.refl _ s) (Foot.le_refl _) _ _).reg hn _ _
@[simp] theorem State.v_trip (cls : Nat) (rs : List Nat) (hn : Foot.trip.hasV va = false) : (State.trip s cls rs).v va i0 j0 = s.v va i0 j0 :=
  (Does.trip (Does.refl _ s) (Foot.le_refl _) _ _).v hn _ _
@[simp] theorem State.part_trip (cls : Nat) (rs : List Nat) (hn : Foot.trip.hasP pa = false) : (State.trip s cls rs).part pa = s.part pa :=
  (Does.trip (Does.refl _ s) (Foot.le_refl _) _ _).parts pa hn
@[simp] theorem State.rd_seqDueOn (hn : Foot.seqDueOn.hasR fl.r = false) : (State.seqDueOn s).rd fl i0 j0 = s.rd fl i0 j0 :=
  (Does.seqDueOn (Does.refl _ s) (Foot.le_refl _)).rd hn _ _
@[simp] theorem State.reg_seqDueOn (hn : Foot.seqDueOn.hasR ra = false) : (State.seqDueOn s).reg ra i0 j0 = s.reg ra i0 j0 :=
  (Does.seqDueOn (Does.refl _ s) (Foot.le_refl _)).reg hn _ _
@[simp] theorem State.v_seqDueOn (hn : Foot.seqDueOn.hasV va = false) : (State.seqDueOn s).v va i0 j0 = s.v va i0 j0 :=
  (Does.seqDueOn (Does.refl _ s) (Foot.le_refl _)).v hn _ _
@[simp] theorem State.part_seqDueOn (hn : Foot.seqDueOn.hasP pa = false) : (State.seqDueOn s).part pa = s.part pa :=
  (Does.seqDueOn (Does.refl _ s) (Foot.le_refl _)).parts pa hn
@[simp] theorem State.rd_runEnter (cause : Nat) (hn : Foot.runEnter.hasR fl.r = false) : (State.runEnter s cause).rd fl i0 j0 = s.rd fl i0 j0 :=
  (Does.runEnter (Does.refl _ s) (Foot.le_refl _) _).rd hn _ _
@[simp] theorem State.reg_runEnter (cause : Nat) (hn : Foot.runEnter.hasR ra = false) : (State.runEnter s cause).reg ra i0 j0 = s.reg ra i0 j0 :=
  (Does.runEnter (Does.refl _ s) (Foot.le_refl _) _).reg hn _ _
@[simp] theorem State.v_runEnter (cause : Nat) (hn : Foot.runEnter.hasV va = false) : (State.runEnter s cause).v va i0 j0 = s.v va i0 j0 :=
  (Does.runEnter (Does.refl _ s) (Foot.le_refl _) _).v hn _ _
@[simp] theorem State.part_runEnter (cause : Nat) (hn : Foot.runEnter.hasP pa = false) : (State.runEnter s cause).part pa = s.part pa :=
  (Does.runEnter (Does.refl _ s) (Foot.le_refl _) _).parts pa hn
@[simp] theorem State.rd_rampStepTo (k : Nat) (first : Bool) (hn : Foot.rampStepTo.hasR fl.r = false) : (State.rampStepTo s k first).rd fl i0 j0 = s.rd fl i0 j0 :=
  (Does.rampStepTo (Does.refl _ s) (Foot.le_refl _) _ _).rd hn _ _
@[simp] theorem State.reg_rampStepTo (k : Nat) (first : Bool) (hn : Foot.rampStepTo.hasR ra = false) : (State.rampStepTo s k first).reg ra i0 j0 = s.reg ra i0 j0 :=
  (Does.rampStepTo (Does.refl _ s) (Foot.le_refl _) _ _).reg hn _ _
@[simp] theorem State.v_rampStepTo (k : Nat) (first : Bool) (hn : Foot.rampStepTo.hasV va = false) : (State.rampStepTo s k first).v va i0 j0 = s.v va i0 j0 :=
  (Does.rampStepTo (Does.refl _ s) (Foot.le_refl _) _ _).v hn _ _
@[simp] theorem State.part_rampStepTo (k : Nat) (first : Bool) (hn : Foot.rampStepTo.hasP pa = false) : (State.rampStepTo s k first).part pa = s.part pa :=
  (Does.rampStepTo (Does.refl _ s) (Foot.le_refl _) _ _).parts pa hn
@[simp] theorem State.rd_rampRun (fuel : Nat) (hn : Foot.rampRun.hasR fl.r = false) : (State.rampRun s fuel).rd fl i0 j0 = s.rd fl i0 j0 :=
  (Does.rampRun (Does.refl _ s) (Foot.le_refl _) _).rd hn _ _
@[simp] theorem State.reg_rampRun (fuel : Nat) (hn : Foot.rampRun.hasR ra = false) : (State.rampRun s fuel).reg ra i0 j0 = s.reg ra i0 j0 :=
  (Does.rampRun (Does.refl _ s) (Foot.le_refl _) _).reg hn _ _
@[simp] theorem State.v_rampRun (fuel : Nat) (hn : Foot.rampRun.hasV va = false) : (State.rampRun s fuel).v va i0 j0 = s.v va i0 j0 :=
  (Does.rampRun (Does.refl _ s) (Foot.le_refl _) _).v hn _ _
@[simp] theorem State.part_rampRun (fuel : Nat) (hn : Foot.rampRun.hasP pa = false) : (State.rampRun s fuel).part pa = s.part pa :=
  (Does.rampRun (Does.refl _ s) (Foot.le_refl _) _).parts pa hn
@[simp] theorem State.rd_rampEnter (cause : Nat) (hn : Foot.rampEnter.hasR fl.r = false) : (State.rampEnter s cause).rd fl i0 j0 = s.rd fl i0 j0 :=
  (Does.rampEnter (Does.refl _ s) (Foot.le_refl _) _).rd hn _ _
@[simp] theorem State.reg_rampEnter (cause : Nat) (hn : Foot.rampEnter.hasR ra = false) : (State.rampEnter s cause).reg ra i0 j0 = s.reg ra i0 j0 :=
  (Does.rampEnter (Does.refl _ s) (Foot.le_refl _) _).reg hn _ _
@[simp] theorem State.v_rampEnter (cause : Nat) (hn : Foot.rampEnter.hasV va = false) : (State.rampEnter s cause).v va i0 j0 = s.v va i0 j0 :=
  (Does.rampEnter (Does.refl _ s) (Foot.le_refl _) _).v hn _ _
@[simp] theorem State.part_rampEnter (cause : Nat) (hn : Foot.rampEnter.hasP pa = false) : (State.rampEnter s cause).part pa = s.part pa :=
  (Does.rampEnter (Does.refl _ s) (Foot.le_refl _) _).parts pa hn
@[simp] theorem State.rd_pkgRun (hn : Foot.pkgRun.hasR fl.r = false) : (State.pkgRun s).rd fl i0 j0 = s.rd fl i0 j0 :=
  (Does.pkgRun (Does.refl _ s) (Foot.le_refl _)).rd hn _ _
@[simp] theorem State.reg_pkgRun (hn : Foot.pkgRun.hasR ra = false) : (State.pkgRun s).reg ra i0 j0 = s.reg ra i0 j0 :=
  (Does.pkgRun (Does.refl _ s) (Foot.le_refl _)).reg hn _ _
@[simp] theorem State.v_pkgRun (hn : Foot.pkgRun.hasV va = false) : (State.pkgRun s).v va i0 j0 = s.v va i0 j0 :=
  (Does.pkgRun (Does.refl _ s) (Foot.le_refl _)).v hn _ _
@[simp] theorem State.part_pkgRun (hn : Foot.pkgRun.hasP pa = false) : (State.pkgRun s).part pa = s.part pa :=
  (Does.pkgRun (Does.refl _ s) (Foot.le_refl _)).parts pa hn
@[simp] theorem State.rd_pkgReject (hn : Foot.pkgReject.hasR fl.r = false) : (State.pkgReject s).2.rd fl i0 j0 = s.rd fl i0 j0 :=
  (Does.pkgReject (Does.refl _ s) (Foot.le_refl _)).rd hn _ _
@[simp] theorem State.reg_pkgReject (hn : Foot.pkgReject.hasR ra = false) : (State.pkgReject s).2.reg ra i0 j0 = s.reg ra i0 j0 :=
  (Does.pkgReject (Does.refl _ s) (Foot.le_refl _)).reg hn _ _
@[simp] theorem State.v_pkgReject (hn : Foot.pkgReject.hasV va = false) : (State.pkgReject s).2.v va i0 j0 = s.v va i0 j0 :=
  (Does.pkgReject (Does.refl _ s) (Foot.le_refl _)).v hn _ _
@[simp] theorem State.part_pkgReject (hn : Foot.pkgReject.hasP pa = false) : (State.pkgReject s).2.part pa = s.part pa :=
  (Does.pkgReject (Does.refl _ s) (Foot.le_refl _)).parts pa hn
@[simp] theorem State.rd_pkgOk (hn : Foot.pkgOk.hasR fl.r = false) : (State.pkgOk s).2.rd fl i0 j0 = s.rd fl i0 j0 :=
  (Does.pkgOk (Does.refl _ s) (Foot.le_refl _)).rd hn _ _
@[simp] theorem State.reg_pkgOk (hn : Foot.pkgOk.hasR ra = false) : (State.pkgOk s).2.reg ra i0 j0 = s.reg ra i0 j0 :=
  (Does.pkgOk (Does.refl _ s) (Foot.le_refl _)).reg hn _ _
@[simp] theorem State.v_pkgOk (hn : Foot.pkgOk.hasV va = false) : (State.pkgOk s).2.v va i0 j0 = s.v va i0 j0 :=
  (Does.pkgOk (Does.refl _ s) (Foot.le_refl _)).v hn _ _
@[simp] theorem State.part_pkgOk (hn : Foot.pkgOk.hasP pa = false) : (State.pkgOk s).2.part pa = s.part pa :=
  (Does.pkgOk (Does.refl _ s) (Foot.le_refl _)).parts pa hn
@[simp] theorem State.rd_wakeIgnore (hn : Foot.wakeIgnore.hasR fl.r = false) : (State.wakeIgnore s).rd fl i0 j0 = s.rd fl i0 j0 :=
  (Does.wakeIgnore (Does.refl _ s) (Foot.le_refl _)).rd hn _ _
@[simp] theorem State.reg_wakeIgnore (hn : Foot.wakeIgnore.hasR ra = false) : (State.wakeIgnore s).reg ra i0 j0 = s.reg ra i0 j0 :=
  (Does.wakeIgnore (Does.refl _ s) (Foot.le_refl _)).reg hn _ _
@[simp] theorem State.v_wakeIgnore (hn : Foot.wakeIgnore.hasV va = false) : (State.wakeIgnore s).v va i0 j0 = s.v va i0 j0 :=
  (Does.wakeIgnore (Does.refl _ s) (Foot.le_refl _)).v hn _ _
@[simp] theorem State.part_wakeIgnore (hn : Foot.wakeIgnore.hasP pa = false) : (State.wakeIgnore s).part pa = s.part pa :=
  (Does.wakeIgnore (Does.refl _ s) (Foot.le_refl _)).parts pa hn
@[simp] theorem State.rd_sleepAbort (hn : Foot.sleepAbort.hasR fl.r = false) : (State.sleepAbort s).rd fl i0 j0 = s.rd fl i0 j0 :=
  (Does.sleepAbort (Does.refl _ s) (Foot.le_refl _)).rd hn _ _
@[simp] theorem State.reg_sleepAbort (hn : Foot.sleepAbort.hasR ra = false) : (State.sleepAbort s).reg ra i0 j0 = s.reg ra i0 j0 :=
  (Does.sleepAbort (Does.refl _ s) (Foot.le_refl _)).reg hn _ _
@[simp] theorem State.v_sleepAbort (hn : Foot.sleepAbort.hasV va = false) : (State.sleepAbort s).v va i0 j0 = s.v va i0 j0 :=
  (Does.sleepAbort (Does.refl _ s) (Foot.le_refl _)).v hn _ _
@[simp] theorem State.part_sleepAbort (hn : Foot.sleepAbort.hasP pa = false) : (State.sleepAbort s).part pa = s.part pa :=
  (Does.sleepAbort (Does.refl _ s) (Foot.le_refl _)).parts pa hn
@[simp] theorem State.rd_retSlots (l : List Nat) (hn : Foot.retSlots.hasR fl.r = false) : (State.retSlots s l).rd fl i0 j0 = s.rd fl i0 j0 :=
  (Does.retSlots (Does.refl _ s) (Foot.le_refl _) _).rd hn _ _
@[simp] theorem State.reg_retSlots (l : List Nat) (hn : Foot.retSlots.hasR ra = false) : (State.retSlots s l).reg ra i0 j0 = s.reg ra i0 j0 :=
  (Does.retSlots (Does.refl _ s) (Foot.le_refl _) _).reg hn _ _
@[simp] theorem State.v_retSlots (l : List Nat) (hn : Foot.retSlots.hasV va = false) : (State.retSlots s l).v va i0 j0 = s.v va i0 j0 :=
  (Does.retSlots (Does.refl _ s) (Foot.le_refl _) _).v hn _ _
@[simp] theorem State.part_retSlots (l : List Nat) (hn : Foot.retSlots.hasP pa = false) : (State.retSlots s l).part pa = s.part pa :=
  (Does.retSlots (Does.refl _ s) (Foot.le_refl _) _).parts pa hn
@[simp] theorem State.rd_holdEnter (hn : Foot.holdEnter.hasR fl.r = false) : (State.holdEnter s).rd fl i0 j0 = s.rd fl i0 j0 :=
  (Does.holdEnter (Does.refl _ s) (Foot.le_refl _)).rd hn _ _
@[simp] theorem State.reg_holdEnter (hn : Foot.holdEnter.hasR ra = false) : (State.holdEnter s).reg ra i0 j0 = s.reg ra i0 j0 :=
  (Does.holdEnter (Does.refl _ s) (Foot.le_refl _)).reg hn _ _
@[simp] theorem State.v_holdEnter (hn : Foot.holdEnter.hasV va = false) : (State.holdEnter s).v va i0 j0 = s.v va i0 j0 :=
  (Does.holdEnter (Does.refl _ s) (Foot.le_refl _)).v hn _ _
@[simp] theorem State.part_holdEnter (hn : Foot.holdEnter.hasP pa = false) : (State.holdEnter s).part pa = s.part pa :=
  (Does.holdEnter (Does.refl _ s) (Foot.le_refl _)).parts pa hn
@[simp] theorem State.rd_resumeRun (hn : Foot.resumeRun.hasR fl.r = false) : (State.resumeRun s).rd fl i0 j0 = s.rd fl i0 j0 :=
  (Does.resumeRun (Does.refl _ s) (Foot.le_refl _)).rd hn _ _
@[simp] theorem State.reg_resumeRun (hn : Foot.resumeRun.hasR ra = false) : (State.resumeRun s).reg ra i0 j0 = s.reg ra i0 j0 :=
  (Does.resumeRun (Does.refl _ s) (Foot.le_refl _)).reg hn _ _
@[simp] theorem State.v_resumeRun (hn : Foot.resumeRun.hasV va = false) : (State.resumeRun s).v va i0 j0 = s.v va i0 j0 :=
  (Does.resumeRun (Does.refl _ s) (Foot.le_refl _)).v hn _ _
@[simp] theorem State.part_resumeRun (hn : Foot.resumeRun.hasP pa = false) : (State.resumeRun s).part pa = s.part pa :=
  (Does.resumeRun (Does.refl _ s) (Foot.le_refl _)).parts pa hn
@[simp] theorem State.rd_sleepEnter (hn : Foot.sleepEnter.hasR fl.r = false) : (State.sleepEnter s).rd fl i0 j0 = s.rd fl i0 j0 :=
  (Does.sleepEnter (Does.refl _ s) (Foot.le_refl _)).rd hn _ _
@[simp] theorem State.reg_sleepEnter (hn : Foot.sleepEnter.hasR ra = false) : (State.sleepEnter s).reg ra i0 j0 = s.reg ra i0 j0 :=
  (Does.sleepEnter (Does.refl _ s) (Foot.le_refl _)).reg hn _ _
@[simp] theorem State.v_sleepEnter (hn : Foot.sleepEnter.hasV va = false) : (State.sleepEnter s).v va i0 j0 = s.v va i0 j0 :=
  (Does.sleepEnter (Does.refl _ s) (Foot.le_refl _)).v hn _ _
@[simp] theorem State.part_sleepEnter (hn : Foot.sleepEnter.hasP pa = false) : (State.sleepEnter s).part pa = s.part pa :=
  (Does.sleepEnter (Does.refl _ s) (Foot.le_refl _)).parts pa hn
@[simp] theorem State.rd_sleepWake (cause : Nat) (hn : Foot.sleepWake.hasR fl.r = false) : (State.sleepWake s cause).rd fl i0 j0 = s.rd fl i0 j0 :=
  (Does.sleepWake (Does.refl _ s) (Foot.le_refl _) _).rd hn _ _
@[simp] theorem State.reg_sleepWake (cause : Nat) (hn : Foot.sleepWake.hasR ra = false) : (State.sleepWake s cause).reg ra i0 j0 = s.reg ra i0 j0 :=
  (Does.sleepWake (Does.refl _ s) (Foot.le_refl _) _).reg hn _ _
@[simp] theorem State.v_sleepWake (cause : Nat) (hn : Foot.sleepWake.hasV va = false) : (State.sleepWake s cause).v va i0 j0 = s.v va i0 j0 :=
  (Does.sleepWake (Does.refl _ s) (Foot.le_refl _) _).v hn _ _
@[simp] theorem State.part_sleepWake (cause : Nat) (hn : Foot.sleepWake.hasP pa = false) : (State.sleepWake s cause).part pa = s.part pa :=
  (Does.sleepWake (Does.refl _ s) (Foot.le_refl _) _).parts pa hn
@[simp] theorem State.rd_deepEnter (hn : Foot.deepEnter.hasR fl.r = false) : (State.deepEnter s).rd fl i0 j0 = s.rd fl i0 j0 :=
  (Does.deepEnter (Does.refl _ s) (Foot.le_refl _)).rd hn _ _
@[simp] theorem State.reg_deepEnter (hn : Foot.deepEnter.hasR ra = false) : (State.deepEnter s).reg ra i0 j0 = s.reg ra i0 j0 :=
  (Does.deepEnter (Does.refl _ s) (Foot.le_refl _)).reg hn _ _
@[simp] theorem State.v_deepEnter (hn : Foot.deepEnter.hasV va = false) : (State.deepEnter s).v va i0 j0 = s.v va i0 j0 :=
  (Does.deepEnter (Does.refl _ s) (Foot.le_refl _)).v hn _ _
@[simp] theorem State.part_deepEnter (hn : Foot.deepEnter.hasP pa = false) : (State.deepEnter s).part pa = s.part pa :=
  (Does.deepEnter (Does.refl _ s) (Foot.le_refl _)).parts pa hn
@[simp] theorem State.rd_wakeUp (cause : Nat) (hn : Foot.wakeUp.hasR fl.r = false) : (State.wakeUp s cause).rd fl i0 j0 = s.rd fl i0 j0 :=
  (Does.wakeUp (Does.refl _ s) (Foot.le_refl _) _).rd hn _ _
@[simp] theorem State.reg_wakeUp (cause : Nat) (hn : Foot.wakeUp.hasR ra = false) : (State.wakeUp s cause).reg ra i0 j0 = s.reg ra i0 j0 :=
  (Does.wakeUp (Does.refl _ s) (Foot.le_refl _) _).reg hn _ _
@[simp] theorem State.v_wakeUp (cause : Nat) (hn : Foot.wakeUp.hasV va = false) : (State.wakeUp s cause).v va i0 j0 = s.v va i0 j0 :=
  (Does.wakeUp (Does.refl _ s) (Foot.le_refl _) _).v hn _ _
@[simp] theorem State.part_wakeUp (cause : Nat) (hn : Foot.wakeUp.hasP pa = false) : (State.wakeUp s cause).part pa = s.part pa :=
  (Does.wakeUp (Does.refl _ s) (Foot.le_refl _) _).parts pa hn
@[simp] theorem State.rd_recoverRun (hn : Foot.recoverRun.hasR fl.r = false) : (State.recoverRun s).rd fl i0 j0 = s.rd fl i0 j0 :=
  (Does.recoverRun (Does.refl _ s) (Foot.le_refl _)).rd hn _ _
@[simp] theorem State.reg_recoverRun (hn : Foot.recoverRun.hasR ra = false) : (State.recoverRun s).reg ra i0 j0 = s.reg ra i0 j0 :=
  (Does.recoverRun (Does.refl _ s) (Foot.le_refl _)).reg hn _ _
@[simp] theorem State.v_recoverRun (hn : Foot.recoverRun.hasV va = false) : (State.recoverRun s).v va i0 j0 = s.v va i0 j0 :=
  (Does.recoverRun (Does.refl _ s) (Foot.le_refl _)).v hn _ _
@[simp] theorem State.part_recoverRun (hn : Foot.recoverRun.hasP pa = false) : (State.recoverRun s).part pa = s.part pa :=
  (Does.recoverRun (Does.refl _ s) (Foot.le_refl _)).parts pa hn
@[simp] theorem State.rd_pkgTake (c : Nat) (hn : Foot.pkgTake.hasR fl.r = false) : (State.pkgTake s c).rd fl i0 j0 = s.rd fl i0 j0 :=
  (Does.pkgTake (Does.refl _ s) (Foot.le_refl _) _).rd hn _ _
@[simp] theorem State.reg_pkgTake (c : Nat) (hn : Foot.pkgTake.hasR ra = false) : (State.pkgTake s c).reg ra i0 j0 = s.reg ra i0 j0 :=
  (Does.pkgTake (Does.refl _ s) (Foot.le_refl _) _).reg hn _ _
@[simp] theorem State.v_pkgTake (c : Nat) (hn : Foot.pkgTake.hasV va = false) : (State.pkgTake s c).v va i0 j0 = s.v va i0 j0 :=
  (Does.pkgTake (Does.refl _ s) (Foot.le_refl _) _).v hn _ _
@[simp] theorem State.part_pkgTake (c : Nat) (hn : Foot.pkgTake.hasP pa = false) : (State.pkgTake s c).part pa = s.part pa :=
  (Does.pkgTake (Does.refl _ s) (Foot.le_refl _) _).parts pa hn
@[simp] theorem State.rd_pkgCmd (c : Nat) (hn : Foot.pkgCmd.hasR fl.r = false) : (State.pkgCmd s c).2.rd fl i0 j0 = s.rd fl i0 j0 :=
  (Does.pkgCmd (Does.refl _ s) (Foot.le_refl _) _).rd hn _ _
@[simp] theorem State.reg_pkgCmd (c : Nat) (hn : Foot.pkgCmd.hasR ra = false) : (State.pkgCmd s c).2.reg ra i0 j0 = s.reg ra i0 j0 :=
  (Does.pkgCmd (Does.refl _ s) (Foot.le_refl _) _).reg hn _ _
@[simp] theorem State.v_pkgCmd (c : Nat) (hn : Foot.pkgCmd.hasV va = false) : (State.pkgCmd s c).2.v va i0 j0 = s.v va i0 j0 :=
  (Does.pkgCmd (Does.refl _ s) (Foot.le_refl _) _).v hn _ _
@[simp] theorem State.part_pkgCmd (c : Nat) (hn : Foot.pkgCmd.hasP pa = false) : (State.pkgCmd s c).2.part pa = s.part pa :=
  (Does.pkgCmd (Does.refl _ s) (Foot.le_refl _) _).parts pa hn
@[simp] theorem State.rd_holdEnd (hn : Foot.holdEnd.hasR fl.r = false) : (State.holdEnd s).rd fl i0 j0 = s.rd fl i0 j0 :=
  (Does.holdEnd (Does.refl _ s) (Foot.le_refl _)).rd hn _ _
@[simp] theorem State.reg_holdEnd (hn : Foot.holdEnd.hasR ra = false) : (State.holdEnd s).reg ra i0 j0 = s.reg ra i0 j0 :=
  (Does.holdEnd (Does.refl _ s) (Foot.le_refl _)).reg hn _ _
@[simp] theorem State.v_holdEnd (hn : Foot.holdEnd.hasV va = false) : (State.holdEnd s).v va i0 j0 = s.v va i0 j0 :=
  (Does.holdEnd (Does.refl _ s) (Foot.le_refl _)).v hn _ _
@[simp] theorem State.part_holdEnd (hn : Foot.holdEnd.hasP pa = false) : (State.holdEnd s).part pa = s.part pa :=
  (Does.holdEnd (Does.refl _ s) (Foot.le_refl _)).parts pa hn
@[simp] theorem State.rd_modeReq (m : Nat) (hn : Foot.modeReq.hasR fl.r = false) : (State.modeReq s m).2.rd fl i0 j0 = s.rd fl i0 j0 :=
  (Does.modeReq (Does.refl _ s) (Foot.le_refl _) _).rd hn _ _
@[simp] theorem State.reg_modeReq (m : Nat) (hn : Foot.modeReq.hasR ra = false) : (State.modeReq s m).2.reg ra i0 j0 = s.reg ra i0 j0 :=
  (Does.modeReq (Does.refl _ s) (Foot.le_refl _) _).reg hn _ _
@[simp] theorem State.v_modeReq (m : Nat) (hn : Foot.modeReq.hasV va = false) : (State.modeReq s m).2.v va i0 j0 = s.v va i0 j0 :=
  (Does.modeReq (Does.refl _ s) (Foot.le_refl _) _).v hn _ _
@[simp] theorem State.part_modeReq (m : Nat) (hn : Foot.modeReq.hasP pa = false) : (State.modeReq s m).2.part pa = s.part pa :=
  (Does.modeReq (Does.refl _ s) (Foot.le_refl _) _).parts pa hn
@[simp] theorem State.rd_wearPort (l : Nat) (p : Nat) (age : Option Nat) (hn : Foot.wearPort.hasR fl.r = false) : (State.wearPort s l p age).rd fl i0 j0 = s.rd fl i0 j0 :=
  (Does.wearPort (Does.refl _ s) (Foot.le_refl _) _ _ _).rd hn _ _
@[simp] theorem State.reg_wearPort (l : Nat) (p : Nat) (age : Option Nat) (hn : Foot.wearPort.hasR ra = false) : (State.wearPort s l p age).reg ra i0 j0 = s.reg ra i0 j0 :=
  (Does.wearPort (Does.refl _ s) (Foot.le_refl _) _ _ _).reg hn _ _
@[simp] theorem State.v_wearPort (l : Nat) (p : Nat) (age : Option Nat) (hn : Foot.wearPort.hasV va = false) : (State.wearPort s l p age).v va i0 j0 = s.v va i0 j0 :=
  (Does.wearPort (Does.refl _ s) (Foot.le_refl _) _ _ _).v hn _ _
@[simp] theorem State.part_wearPort (l : Nat) (p : Nat) (age : Option Nat) (hn : Foot.wearPort.hasP pa = false) : (State.wearPort s l p age).part pa = s.part pa :=
  (Does.wearPort (Does.refl _ s) (Foot.le_refl _) _ _ _).parts pa hn
@[simp] theorem State.rd_expoClose (r : Nat) (hn : Foot.expoClose.hasR fl.r = false) : (State.expoClose s r).rd fl i0 j0 = s.rd fl i0 j0 :=
  (Does.expoClose (Does.refl _ s) (Foot.le_refl _) _).rd hn _ _
@[simp] theorem State.reg_expoClose (r : Nat) (hn : Foot.expoClose.hasR ra = false) : (State.expoClose s r).reg ra i0 j0 = s.reg ra i0 j0 :=
  (Does.expoClose (Does.refl _ s) (Foot.le_refl _) _).reg hn _ _
@[simp] theorem State.v_expoClose (r : Nat) (hn : Foot.expoClose.hasV va = false) : (State.expoClose s r).v va i0 j0 = s.v va i0 j0 :=
  (Does.expoClose (Does.refl _ s) (Foot.le_refl _) _).v hn _ _
@[simp] theorem State.part_expoClose (r : Nat) (hn : Foot.expoClose.hasP pa = false) : (State.expoClose s r).part pa = s.part pa :=
  (Does.expoClose (Does.refl _ s) (Foot.le_refl _) _).parts pa hn
@[simp] theorem State.rd_thermalTrip (hn : Foot.thermalTrip.hasR fl.r = false) : (State.thermalTrip s).rd fl i0 j0 = s.rd fl i0 j0 :=
  (Does.thermalTrip (Does.refl _ s) (Foot.le_refl _)).rd hn _ _
@[simp] theorem State.reg_thermalTrip (hn : Foot.thermalTrip.hasR ra = false) : (State.thermalTrip s).reg ra i0 j0 = s.reg ra i0 j0 :=
  (Does.thermalTrip (Does.refl _ s) (Foot.le_refl _)).reg hn _ _
@[simp] theorem State.v_thermalTrip (hn : Foot.thermalTrip.hasV va = false) : (State.thermalTrip s).v va i0 j0 = s.v va i0 j0 :=
  (Does.thermalTrip (Does.refl _ s) (Foot.le_refl _)).v hn _ _
@[simp] theorem State.part_thermalTrip (hn : Foot.thermalTrip.hasP pa = false) : (State.thermalTrip s).part pa = s.part pa :=
  (Does.thermalTrip (Does.refl _ s) (Foot.le_refl _)).parts pa hn
@[simp] theorem State.rd_brakeSend (w : Nat) (hn : Foot.brakeSend.hasR fl.r = false) : (State.brakeSend s w).rd fl i0 j0 = s.rd fl i0 j0 :=
  (Does.brakeSend (Does.refl _ s) (Foot.le_refl _) _).rd hn _ _
@[simp] theorem State.reg_brakeSend (w : Nat) (hn : Foot.brakeSend.hasR ra = false) : (State.brakeSend s w).reg ra i0 j0 = s.reg ra i0 j0 :=
  (Does.brakeSend (Does.refl _ s) (Foot.le_refl _) _).reg hn _ _
@[simp] theorem State.v_brakeSend (w : Nat) (hn : Foot.brakeSend.hasV va = false) : (State.brakeSend s w).v va i0 j0 = s.v va i0 j0 :=
  (Does.brakeSend (Does.refl _ s) (Foot.le_refl _) _).v hn _ _
@[simp] theorem State.part_brakeSend (w : Nat) (hn : Foot.brakeSend.hasP pa = false) : (State.brakeSend s w).part pa = s.part pa :=
  (Does.brakeSend (Does.refl _ s) (Foot.le_refl _) _).parts pa hn
@[simp] theorem State.rd_brakeTake (l : Nat) (w : Nat) (hn : Foot.brakeTake.hasR fl.r = false) : (State.brakeTake s l w).rd fl i0 j0 = s.rd fl i0 j0 :=
  (Does.brakeTake (Does.refl _ s) (Foot.le_refl _) _ _).rd hn _ _
@[simp] theorem State.reg_brakeTake (l : Nat) (w : Nat) (hn : Foot.brakeTake.hasR ra = false) : (State.brakeTake s l w).reg ra i0 j0 = s.reg ra i0 j0 :=
  (Does.brakeTake (Does.refl _ s) (Foot.le_refl _) _ _).reg hn _ _
@[simp] theorem State.v_brakeTake (l : Nat) (w : Nat) (hn : Foot.brakeTake.hasV va = false) : (State.brakeTake s l w).v va i0 j0 = s.v va i0 j0 :=
  (Does.brakeTake (Does.refl _ s) (Foot.le_refl _) _ _).v hn _ _
@[simp] theorem State.part_brakeTake (l : Nat) (w : Nat) (hn : Foot.brakeTake.hasP pa = false) : (State.brakeTake s l w).part pa = s.part pa :=
  (Does.brakeTake (Does.refl _ s) (Foot.le_refl _) _ _).parts pa hn
@[simp] theorem State.rd_latchClear (pins : Pins) (w : Nat) (hn : Foot.latchClear.hasR fl.r = false) : (State.latchClear s pins w).rd fl i0 j0 = s.rd fl i0 j0 :=
  (Does.latchClear (Does.refl _ s) (Foot.le_refl _) _ _).rd hn _ _
@[simp] theorem State.reg_latchClear (pins : Pins) (w : Nat) (hn : Foot.latchClear.hasR ra = false) : (State.latchClear s pins w).reg ra i0 j0 = s.reg ra i0 j0 :=
  (Does.latchClear (Does.refl _ s) (Foot.le_refl _) _ _).reg hn _ _
@[simp] theorem State.v_latchClear (pins : Pins) (w : Nat) (hn : Foot.latchClear.hasV va = false) : (State.latchClear s pins w).v va i0 j0 = s.v va i0 j0 :=
  (Does.latchClear (Does.refl _ s) (Foot.le_refl _) _ _).v hn _ _
@[simp] theorem State.part_latchClear (pins : Pins) (w : Nat) (hn : Foot.latchClear.hasP pa = false) : (State.latchClear s pins w).part pa = s.part pa :=
  (Does.latchClear (Does.refl _ s) (Foot.le_refl _) _ _).parts pa hn
@[simp] theorem State.rd_railClear (w : Nat) (hn : Foot.railClear.hasR fl.r = false) : (State.railClear s w).rd fl i0 j0 = s.rd fl i0 j0 :=
  (Does.railClear (Does.refl _ s) (Foot.le_refl _) _).rd hn _ _
@[simp] theorem State.reg_railClear (w : Nat) (hn : Foot.railClear.hasR ra = false) : (State.railClear s w).reg ra i0 j0 = s.reg ra i0 j0 :=
  (Does.railClear (Does.refl _ s) (Foot.le_refl _) _).reg hn _ _
@[simp] theorem State.v_railClear (w : Nat) (hn : Foot.railClear.hasV va = false) : (State.railClear s w).v va i0 j0 = s.v va i0 j0 :=
  (Does.railClear (Does.refl _ s) (Foot.le_refl _) _).v hn _ _
@[simp] theorem State.part_railClear (w : Nat) (hn : Foot.railClear.hasP pa = false) : (State.railClear s w).part pa = s.part pa :=
  (Does.railClear (Does.refl _ s) (Foot.le_refl _) _).parts pa hn
@[simp] theorem State.rd_railUvClear (w : Nat) (hn : Foot.railUvClear.hasR fl.r = false) : (State.railUvClear s w).rd fl i0 j0 = s.rd fl i0 j0 :=
  (Does.railUvClear (Does.refl _ s) (Foot.le_refl _) _).rd hn _ _
@[simp] theorem State.reg_railUvClear (w : Nat) (hn : Foot.railUvClear.hasR ra = false) : (State.railUvClear s w).reg ra i0 j0 = s.reg ra i0 j0 :=
  (Does.railUvClear (Does.refl _ s) (Foot.le_refl _) _).reg hn _ _
@[simp] theorem State.v_railUvClear (w : Nat) (hn : Foot.railUvClear.hasV va = false) : (State.railUvClear s w).v va i0 j0 = s.v va i0 j0 :=
  (Does.railUvClear (Does.refl _ s) (Foot.le_refl _) _).v hn _ _
@[simp] theorem State.part_railUvClear (w : Nat) (hn : Foot.railUvClear.hasP pa = false) : (State.railUvClear s w).part pa = s.part pa :=
  (Does.railUvClear (Does.refl _ s) (Foot.le_refl _) _).parts pa hn

end Sys2Proof.Machine
end

