-- ==== Sys2Proof/Laws/ReadsD.lean ====
section
/-!
SUPPORT. What work outside whose footprint a register or a variable lies leaves of its reads, for the operations of FootD.
-/
namespace Sys2Proof.Machine

variable {s : State} {fl : Fld} {ra : Reg} {va : Var} {pa : Part} {i0 j0 : Nat}

@[simp] theorem State.rd_unitEvent (u : Nat) (code : Nat) (hn : Foot.unitEvent.hasR fl.r = false) : (State.unitEvent s u code).rd fl i0 j0 = s.rd fl i0 j0 :=
  (Does.unitEvent (Does.refl _ s) (Foot.le_refl _) _ _).rd hn _ _
@[simp] theorem State.reg_unitEvent (u : Nat) (code : Nat) (hn : Foot.unitEvent.hasR ra = false) : (State.unitEvent s u code).reg ra i0 j0 = s.reg ra i0 j0 :=
  (Does.unitEvent (Does.refl _ s) (Foot.le_refl _) _ _).reg hn _ _
@[simp] theorem State.v_unitEvent (u : Nat) (code : Nat) (hn : Foot.unitEvent.hasV va = false) : (State.unitEvent s u code).v va i0 j0 = s.v va i0 j0 :=
  (Does.unitEvent (Does.refl _ s) (Foot.le_refl _) _ _).v hn _ _
@[simp] theorem State.part_unitEvent (u : Nat) (code : Nat) (hn : Foot.unitEvent.hasP pa = false) : (State.unitEvent s u code).part pa = s.part pa :=
  (Does.unitEvent (Does.refl _ s) (Foot.le_refl _) _ _).parts pa hn
@[simp] theorem State.rd_clkForce (u : Nat) (hn : Foot.clkForce.hasR fl.r = false) : (State.clkForce s u).rd fl i0 j0 = s.rd fl i0 j0 :=
  (Does.clkForce (Does.refl _ s) (Foot.le_refl _) _).rd hn _ _
@[simp] theorem State.reg_clkForce (u : Nat) (hn : Foot.clkForce.hasR ra = false) : (State.clkForce s u).reg ra i0 j0 = s.reg ra i0 j0 :=
  (Does.clkForce (Does.refl _ s) (Foot.le_refl _) _).reg hn _ _
@[simp] theorem State.v_clkForce (u : Nat) (hn : Foot.clkForce.hasV va = false) : (State.clkForce s u).v va i0 j0 = s.v va i0 j0 :=
  (Does.clkForce (Does.refl _ s) (Foot.le_refl _) _).v hn _ _
@[simp] theorem State.part_clkForce (u : Nat) (hn : Foot.clkForce.hasP pa = false) : (State.clkForce s u).part pa = s.part pa :=
  (Does.clkForce (Does.refl _ s) (Foot.le_refl _) _).parts pa hn
@[simp] theorem State.rd_muxStart (u : Nat) (sel : Nat) (hn : Foot.muxStart.hasR fl.r = false) : (State.muxStart s u sel).rd fl i0 j0 = s.rd fl i0 j0 :=
  (Does.muxStart (Does.refl _ s) (Foot.le_refl _) _ _).rd hn _ _
@[simp] theorem State.reg_muxStart (u : Nat) (sel : Nat) (hn : Foot.muxStart.hasR ra = false) : (State.muxStart s u sel).reg ra i0 j0 = s.reg ra i0 j0 :=
  (Does.muxStart (Does.refl _ s) (Foot.le_refl _) _ _).reg hn _ _
@[simp] theorem State.v_muxStart (u : Nat) (sel : Nat) (hn : Foot.muxStart.hasV va = false) : (State.muxStart s u sel).v va i0 j0 = s.v va i0 j0 :=
  (Does.muxStart (Does.refl _ s) (Foot.le_refl _) _ _).v hn _ _
@[simp] theorem State.part_muxStart (u : Nat) (sel : Nat) (hn : Foot.muxStart.hasP pa = false) : (State.muxStart s u sel).part pa = s.part pa :=
  (Does.muxStart (Does.refl _ s) (Foot.le_refl _) _ _).parts pa hn
@[simp] theorem State.rd_clkSel (u : Nat) (sel : Nat) (hn : Foot.clkSel.hasR fl.r = false) : (State.clkSel s u sel).2.rd fl i0 j0 = s.rd fl i0 j0 :=
  (Does.clkSel (Does.refl _ s) (Foot.le_refl _) _ _).rd hn _ _
@[simp] theorem State.reg_clkSel (u : Nat) (sel : Nat) (hn : Foot.clkSel.hasR ra = false) : (State.clkSel s u sel).2.reg ra i0 j0 = s.reg ra i0 j0 :=
  (Does.clkSel (Does.refl _ s) (Foot.le_refl _) _ _).reg hn _ _
@[simp] theorem State.v_clkSel (u : Nat) (sel : Nat) (hn : Foot.clkSel.hasV va = false) : (State.clkSel s u sel).2.v va i0 j0 = s.v va i0 j0 :=
  (Does.clkSel (Does.refl _ s) (Foot.le_refl _) _ _).v hn _ _
@[simp] theorem State.part_clkSel (u : Nat) (sel : Nat) (hn : Foot.clkSel.hasP pa = false) : (State.clkSel s u sel).2.part pa = s.part pa :=
  (Does.clkSel (Does.refl _ s) (Foot.le_refl _) _ _).parts pa hn
@[simp] theorem State.rd_recal (u : Nat) (hn : Foot.recal.hasR fl.r = false) : (State.recal s u).2.rd fl i0 j0 = s.rd fl i0 j0 :=
  (Does.recal (Does.refl _ s) (Foot.le_refl _) _).rd hn _ _
@[simp] theorem State.reg_recal (u : Nat) (hn : Foot.recal.hasR ra = false) : (State.recal s u).2.reg ra i0 j0 = s.reg ra i0 j0 :=
  (Does.recal (Does.refl _ s) (Foot.le_refl _) _).reg hn _ _
@[simp] theorem State.v_recal (u : Nat) (hn : Foot.recal.hasV va = false) : (State.recal s u).2.v va i0 j0 = s.v va i0 j0 :=
  (Does.recal (Does.refl _ s) (Foot.le_refl _) _).v hn _ _
@[simp] theorem State.part_recal (u : Nat) (hn : Foot.recal.hasP pa = false) : (State.recal s u).2.part pa = s.part pa :=
  (Does.recal (Does.refl _ s) (Foot.le_refl _) _).parts pa hn
@[simp] theorem State.rd_oscCal (u : Nat) (n : Nat) (hn : Foot.oscCal.hasR fl.r = false) : (State.oscCal s u n).rd fl i0 j0 = s.rd fl i0 j0 :=
  (Does.oscCal (Does.refl _ s) (Foot.le_refl _) _ _).rd hn _ _
@[simp] theorem State.reg_oscCal (u : Nat) (n : Nat) (hn : Foot.oscCal.hasR ra = false) : (State.oscCal s u n).reg ra i0 j0 = s.reg ra i0 j0 :=
  (Does.oscCal (Does.refl _ s) (Foot.le_refl _) _ _).reg hn _ _
@[simp] theorem State.v_oscCal (u : Nat) (n : Nat) (hn : Foot.oscCal.hasV va = false) : (State.oscCal s u n).v va i0 j0 = s.v va i0 j0 :=
  (Does.oscCal (Does.refl _ s) (Foot.le_refl _) _ _).v hn _ _
@[simp] theorem State.part_oscCal (u : Nat) (n : Nat) (hn : Foot.oscCal.hasP pa = false) : (State.oscCal s u n).part pa = s.part pa :=
  (Does.oscCal (Does.refl _ s) (Foot.le_refl _) _ _).parts pa hn
@[simp] theorem State.rd_clkReturn (hn : Foot.clkReturn.hasR fl.r = false) : (State.clkReturn s).rd fl i0 j0 = s.rd fl i0 j0 :=
  (Does.clkReturn (Does.refl _ s) (Foot.le_refl _)).rd hn _ _
@[simp] theorem State.reg_clkReturn (hn : Foot.clkReturn.hasR ra = false) : (State.clkReturn s).reg ra i0 j0 = s.reg ra i0 j0 :=
  (Does.clkReturn (Does.refl _ s) (Foot.le_refl _)).reg hn _ _
@[simp] theorem State.v_clkReturn (hn : Foot.clkReturn.hasV va = false) : (State.clkReturn s).v va i0 j0 = s.v va i0 j0 :=
  (Does.clkReturn (Does.refl _ s) (Foot.le_refl _)).v hn _ _
@[simp] theorem State.part_clkReturn (hn : Foot.clkReturn.hasP pa = false) : (State.clkReturn s).part pa = s.part pa :=
  (Does.clkReturn (Does.refl _ s) (Foot.le_refl _)).parts pa hn
@[simp] theorem State.rd_portsAbsent (hn : Foot.portsAbsent.hasR fl.r = false) : (State.portsAbsent s).rd fl i0 j0 = s.rd fl i0 j0 :=
  (Does.portsAbsent (Does.refl _ s) (Foot.le_refl _)).rd hn _ _
@[simp] theorem State.reg_portsAbsent (hn : Foot.portsAbsent.hasR ra = false) : (State.portsAbsent s).reg ra i0 j0 = s.reg ra i0 j0 :=
  (Does.portsAbsent (Does.refl _ s) (Foot.le_refl _)).reg hn _ _
@[simp] theorem State.v_portsAbsent (hn : Foot.portsAbsent.hasV va = false) : (State.portsAbsent s).v va i0 j0 = s.v va i0 j0 :=
  (Does.portsAbsent (Does.refl _ s) (Foot.le_refl _)).v hn _ _
@[simp] theorem State.part_portsAbsent (hn : Foot.portsAbsent.hasP pa = false) : (State.portsAbsent s).part pa = s.part pa :=
  (Does.portsAbsent (Does.refl _ s) (Foot.le_refl _)).parts pa hn
@[simp] theorem State.rd_warmDrop (hn : Foot.warmDrop.hasR fl.r = false) : (State.warmDrop s).rd fl i0 j0 = s.rd fl i0 j0 :=
  (Does.warmDrop (Does.refl _ s) (Foot.le_refl _)).rd hn _ _
@[simp] theorem State.reg_warmDrop (hn : Foot.warmDrop.hasR ra = false) : (State.warmDrop s).reg ra i0 j0 = s.reg ra i0 j0 :=
  (Does.warmDrop (Does.refl _ s) (Foot.le_refl _)).reg hn _ _
@[simp] theorem State.v_warmDrop (hn : Foot.warmDrop.hasV va = false) : (State.warmDrop s).v va i0 j0 = s.v va i0 j0 :=
  (Does.warmDrop (Does.refl _ s) (Foot.le_refl _)).v hn _ _
@[simp] theorem State.part_warmDrop (hn : Foot.warmDrop.hasP pa = false) : (State.warmDrop s).part pa = s.part pa :=
  (Does.warmDrop (Does.refl _ s) (Foot.le_refl _)).parts pa hn
@[simp] theorem State.rd_warm (last : Nat) (hn : Foot.warm.hasR fl.r = false) : (State.warm s last).rd fl i0 j0 = s.rd fl i0 j0 :=
  (Does.warm (Does.refl _ s) (Foot.le_refl _) _).rd hn _ _
@[simp] theorem State.reg_warm (last : Nat) (hn : Foot.warm.hasR ra = false) : (State.warm s last).reg ra i0 j0 = s.reg ra i0 j0 :=
  (Does.warm (Does.refl _ s) (Foot.le_refl _) _).reg hn _ _
@[simp] theorem State.v_warm (last : Nat) (hn : Foot.warm.hasV va = false) : (State.warm s last).v va i0 j0 = s.v va i0 j0 :=
  (Does.warm (Does.refl _ s) (Foot.le_refl _) _).v hn _ _
@[simp] theorem State.part_warm (last : Nat) (hn : Foot.warm.hasP pa = false) : (State.warm s last).part pa = s.part pa :=
  (Does.warm (Does.refl _ s) (Foot.le_refl _) _).parts pa hn
@[simp] theorem State.rd_rstWarm (hn : Foot.rstWarm.hasR fl.r = false) : (State.rstWarm s).2.rd fl i0 j0 = s.rd fl i0 j0 :=
  (Does.rstWarm (Does.refl _ s) (Foot.le_refl _)).rd hn _ _
@[simp] theorem State.reg_rstWarm (hn : Foot.rstWarm.hasR ra = false) : (State.rstWarm s).2.reg ra i0 j0 = s.reg ra i0 j0 :=
  (Does.rstWarm (Does.refl _ s) (Foot.le_refl _)).reg hn _ _
@[simp] theorem State.v_rstWarm (hn : Foot.rstWarm.hasV va = false) : (State.rstWarm s).2.v va i0 j0 = s.v va i0 j0 :=
  (Does.rstWarm (Does.refl _ s) (Foot.le_refl _)).v hn _ _
@[simp] theorem State.part_rstWarm (hn : Foot.rstWarm.hasP pa = false) : (State.rstWarm s).2.part pa = s.part pa :=
  (Does.rstWarm (Does.refl _ s) (Foot.le_refl _)).parts pa hn
@[simp] theorem State.rd_blank (hn : Foot.blank.hasR fl.r = false) : (State.blank s).rd fl i0 j0 = s.rd fl i0 j0 :=
  (Does.blank (Does.refl _ s) (Foot.le_refl _)).rd hn _ _
@[simp] theorem State.reg_blank (hn : Foot.blank.hasR ra = false) : (State.blank s).reg ra i0 j0 = s.reg ra i0 j0 :=
  (Does.blank (Does.refl _ s) (Foot.le_refl _)).reg hn _ _
@[simp] theorem State.v_blank (hn : Foot.blank.hasV va = false) : (State.blank s).v va i0 j0 = s.v va i0 j0 :=
  (Does.blank (Does.refl _ s) (Foot.le_refl _)).v hn _ _
@[simp] theorem State.part_blank (hn : Foot.blank.hasP pa = false) : (State.blank s).part pa = s.part pa :=
  (Does.blank (Does.refl _ s) (Foot.le_refl _)).parts pa hn
@[simp] theorem State.rd_supplyLost (hn : Foot.supplyLost.hasR fl.r = false) : (State.supplyLost s).rd fl i0 j0 = s.rd fl i0 j0 :=
  (Does.supplyLost (Does.refl _ s) (Foot.le_refl _)).rd hn _ _
@[simp] theorem State.reg_supplyLost (hn : Foot.supplyLost.hasR ra = false) : (State.supplyLost s).reg ra i0 j0 = s.reg ra i0 j0 :=
  (Does.supplyLost (Does.refl _ s) (Foot.le_refl _)).reg hn _ _
@[simp] theorem State.v_supplyLost (hn : Foot.supplyLost.hasV va = false) : (State.supplyLost s).v va i0 j0 = s.v va i0 j0 :=
  (Does.supplyLost (Does.refl _ s) (Foot.le_refl _)).v hn _ _
@[simp] theorem State.part_supplyLost (hn : Foot.supplyLost.hasP pa = false) : (State.supplyLost s).part pa = s.part pa :=
  (Does.supplyLost (Does.refl _ s) (Foot.le_refl _)).parts pa hn
@[simp] theorem State.rd_islReset (d : Nat) (hn : Foot.islReset.hasR fl.r = false) : (State.islReset s d).2.rd fl i0 j0 = s.rd fl i0 j0 :=
  (Does.islReset (Does.refl _ s) (Foot.le_refl _) _).rd hn _ _
@[simp] theorem State.reg_islReset (d : Nat) (hn : Foot.islReset.hasR ra = false) : (State.islReset s d).2.reg ra i0 j0 = s.reg ra i0 j0 :=
  (Does.islReset (Does.refl _ s) (Foot.le_refl _) _).reg hn _ _
@[simp] theorem State.v_islReset (d : Nat) (hn : Foot.islReset.hasV va = false) : (State.islReset s d).2.v va i0 j0 = s.v va i0 j0 :=
  (Does.islReset (Does.refl _ s) (Foot.le_refl _) _).v hn _ _
@[simp] theorem State.part_islReset (d : Nat) (hn : Foot.islReset.hasP pa = false) : (State.islReset s d).2.part pa = s.part pa :=
  (Does.islReset (Does.refl _ s) (Foot.le_refl _) _).parts pa hn
@[simp] theorem State.rd_timeOut (d : Nat) (rts : List (Nat × Nat)) (hn : Foot.timeOut.hasR fl.r = false) : (State.timeOut s d rts).rd fl i0 j0 = s.rd fl i0 j0 :=
  (Does.timeOut (Does.refl _ s) (Foot.le_refl _) _ _).rd hn _ _
@[simp] theorem State.reg_timeOut (d : Nat) (rts : List (Nat × Nat)) (hn : Foot.timeOut.hasR ra = false) : (State.timeOut s d rts).reg ra i0 j0 = s.reg ra i0 j0 :=
  (Does.timeOut (Does.refl _ s) (Foot.le_refl _) _ _).reg hn _ _
@[simp] theorem State.v_timeOut (d : Nat) (rts : List (Nat × Nat)) (hn : Foot.timeOut.hasV va = false) : (State.timeOut s d rts).v va i0 j0 = s.v va i0 j0 :=
  (Does.timeOut (Does.refl _ s) (Foot.le_refl _) _ _).v hn _ _
@[simp] theorem State.part_timeOut (d : Nat) (rts : List (Nat × Nat)) (hn : Foot.timeOut.hasP pa = false) : (State.timeOut s d rts).part pa = s.part pa :=
  (Does.timeOut (Does.refl _ s) (Foot.le_refl _) _ _).parts pa hn
@[simp] theorem State.rd_timeTake (d : Nat) (delay : Nat) (usec : Nat) (cap : Nat) (hn : Foot.timeTake.hasR fl.r = false) : (State.timeTake s d delay usec cap).rd fl i0 j0 = s.rd fl i0 j0 :=
  (Does.timeTake (Does.refl _ s) (Foot.le_refl _) _ _ _ _).rd hn _ _
@[simp] theorem State.reg_timeTake (d : Nat) (delay : Nat) (usec : Nat) (cap : Nat) (hn : Foot.timeTake.hasR ra = false) : (State.timeTake s d delay usec cap).reg ra i0 j0 = s.reg ra i0 j0 :=
  (Does.timeTake (Does.refl _ s) (Foot.le_refl _) _ _ _ _).reg hn _ _
@[simp] theorem State.v_timeTake (d : Nat) (delay : Nat) (usec : Nat) (cap : Nat) (hn : Foot.timeTake.hasV va = false) : (State.timeTake s d delay usec cap).v va i0 j0 = s.v va i0 j0 :=
  (Does.timeTake (Does.refl _ s) (Foot.le_refl _) _ _ _ _).v hn _ _
@[simp] theorem State.part_timeTake (d : Nat) (delay : Nat) (usec : Nat) (cap : Nat) (hn : Foot.timeTake.hasP pa = false) : (State.timeTake s d delay usec cap).part pa = s.part pa :=
  (Does.timeTake (Does.refl _ s) (Foot.le_refl _) _ _ _ _).parts pa hn
@[simp] theorem State.rd_gbRail (r : Nat) (hn : Foot.gbRail.hasR fl.r = false) : (State.gbRail s r).rd fl i0 j0 = s.rd fl i0 j0 :=
  (Does.gbRail (Does.refl _ s) (Foot.le_refl _) _).rd hn _ _
@[simp] theorem State.reg_gbRail (r : Nat) (hn : Foot.gbRail.hasR ra = false) : (State.gbRail s r).reg ra i0 j0 = s.reg ra i0 j0 :=
  (Does.gbRail (Does.refl _ s) (Foot.le_refl _) _).reg hn _ _
@[simp] theorem State.v_gbRail (r : Nat) (hn : Foot.gbRail.hasV va = false) : (State.gbRail s r).v va i0 j0 = s.v va i0 j0 :=
  (Does.gbRail (Does.refl _ s) (Foot.le_refl _) _).v hn _ _
@[simp] theorem State.part_gbRail (r : Nat) (hn : Foot.gbRail.hasP pa = false) : (State.gbRail s r).part pa = s.part pa :=
  (Does.gbRail (Does.refl _ s) (Foot.le_refl _) _).parts pa hn
@[simp] theorem State.rd_gbAll (hn : Foot.gbAll.hasR fl.r = false) : (State.gbAll s).rd fl i0 j0 = s.rd fl i0 j0 :=
  (Does.gbAll (Does.refl _ s) (Foot.le_refl _)).rd hn _ _
@[simp] theorem State.reg_gbAll (hn : Foot.gbAll.hasR ra = false) : (State.gbAll s).reg ra i0 j0 = s.reg ra i0 j0 :=
  (Does.gbAll (Does.refl _ s) (Foot.le_refl _)).reg hn _ _
@[simp] theorem State.v_gbAll (hn : Foot.gbAll.hasV va = false) : (State.gbAll s).v va i0 j0 = s.v va i0 j0 :=
  (Does.gbAll (Does.refl _ s) (Foot.le_refl _)).v hn _ _
@[simp] theorem State.part_gbAll (hn : Foot.gbAll.hasP pa = false) : (State.gbAll s).part pa = s.part pa :=
  (Does.gbAll (Does.refl _ s) (Foot.le_refl _)).parts pa hn
@[simp] theorem State.rd_cellShow (x : Nat) (hn : Foot.cellShow.hasR fl.r = false) : (State.cellShow s x).rd fl i0 j0 = s.rd fl i0 j0 :=
  (Does.cellShow (Does.refl _ s) (Foot.le_refl _) _).rd hn _ _
@[simp] theorem State.reg_cellShow (x : Nat) (hn : Foot.cellShow.hasR ra = false) : (State.cellShow s x).reg ra i0 j0 = s.reg ra i0 j0 :=
  (Does.cellShow (Does.refl _ s) (Foot.le_refl _) _).reg hn _ _
@[simp] theorem State.v_cellShow (x : Nat) (hn : Foot.cellShow.hasV va = false) : (State.cellShow s x).v va i0 j0 = s.v va i0 j0 :=
  (Does.cellShow (Does.refl _ s) (Foot.le_refl _) _).v hn _ _
@[simp] theorem State.part_cellShow (x : Nat) (hn : Foot.cellShow.hasP pa = false) : (State.cellShow s x).part pa = s.part pa :=
  (Does.cellShow (Does.refl _ s) (Foot.le_refl _) _).parts pa hn
@[simp] theorem State.rd_cellApply (x : Nat) (hn : Foot.cellApply.hasR fl.r = false) : (State.cellApply s x).rd fl i0 j0 = s.rd fl i0 j0 :=
  (Does.cellApply (Does.refl _ s) (Foot.le_refl _) _).rd hn _ _
@[simp] theorem State.reg_cellApply (x : Nat) (hn : Foot.cellApply.hasR ra = false) : (State.cellApply s x).reg ra i0 j0 = s.reg ra i0 j0 :=
  (Does.cellApply (Does.refl _ s) (Foot.le_refl _) _).reg hn _ _
@[simp] theorem State.v_cellApply (x : Nat) (hn : Foot.cellApply.hasV va = false) : (State.cellApply s x).v va i0 j0 = s.v va i0 j0 :=
  (Does.cellApply (Does.refl _ s) (Foot.le_refl _) _).v hn _ _
@[simp] theorem State.part_cellApply (x : Nat) (hn : Foot.cellApply.hasP pa = false) : (State.cellApply s x).part pa = s.part pa :=
  (Does.cellApply (Does.refl _ s) (Foot.le_refl _) _).parts pa hn
@[simp] theorem State.rd_levelShow (d : Nat) (hn : Foot.levelShow.hasR fl.r = false) : (State.levelShow s d).rd fl i0 j0 = s.rd fl i0 j0 :=
  (Does.levelShow (Does.refl _ s) (Foot.le_refl _) _).rd hn _ _
@[simp] theorem State.reg_levelShow (d : Nat) (hn : Foot.levelShow.hasR ra = false) : (State.levelShow s d).reg ra i0 j0 = s.reg ra i0 j0 :=
  (Does.levelShow (Does.refl _ s) (Foot.le_refl _) _).reg hn _ _
@[simp] theorem State.v_levelShow (d : Nat) (hn : Foot.levelShow.hasV va = false) : (State.levelShow s d).v va i0 j0 = s.v va i0 j0 :=
  (Does.levelShow (Does.refl _ s) (Foot.le_refl _) _).v hn _ _
@[simp] theorem State.part_levelShow (d : Nat) (hn : Foot.levelShow.hasP pa = false) : (State.levelShow s d).part pa = s.part pa :=
  (Does.levelShow (Does.refl _ s) (Foot.le_refl _) _).parts pa hn
@[simp] theorem State.rd_flagPut (n : Nat) (j : Nat) (b : Bool) (hn : Foot.flagPut.hasR fl.r = false) : (State.flagPut s n j b).rd fl i0 j0 = s.rd fl i0 j0 :=
  (Does.flagPut (Does.refl _ s) (Foot.le_refl _) _ _ _).rd hn _ _
@[simp] theorem State.reg_flagPut (n : Nat) (j : Nat) (b : Bool) (hn : Foot.flagPut.hasR ra = false) : (State.flagPut s n j b).reg ra i0 j0 = s.reg ra i0 j0 :=
  (Does.flagPut (Does.refl _ s) (Foot.le_refl _) _ _ _).reg hn _ _
@[simp] theorem State.v_flagPut (n : Nat) (j : Nat) (b : Bool) (hn : Foot.flagPut.hasV va = false) : (State.flagPut s n j b).v va i0 j0 = s.v va i0 j0 :=
  (Does.flagPut (Does.refl _ s) (Foot.le_refl _) _ _ _).v hn _ _
@[simp] theorem State.part_flagPut (n : Nat) (j : Nat) (b : Bool) (hn : Foot.flagPut.hasP pa = false) : (State.flagPut s n j b).part pa = s.part pa :=
  (Does.flagPut (Does.refl _ s) (Foot.le_refl _) _ _ _).parts pa hn
@[simp] theorem State.rd_flagRise (d : Nat) (n : Nat) (j : Nat) (hn : Foot.flagRise.hasR fl.r = false) : (State.flagRise s d n j).rd fl i0 j0 = s.rd fl i0 j0 :=
  (Does.flagRise (Does.refl _ s) (Foot.le_refl _) _ _ _).rd hn _ _
@[simp] theorem State.reg_flagRise (d : Nat) (n : Nat) (j : Nat) (hn : Foot.flagRise.hasR ra = false) : (State.flagRise s d n j).reg ra i0 j0 = s.reg ra i0 j0 :=
  (Does.flagRise (Does.refl _ s) (Foot.le_refl _) _ _ _).reg hn _ _
@[simp] theorem State.v_flagRise (d : Nat) (n : Nat) (j : Nat) (hn : Foot.flagRise.hasV va = false) : (State.flagRise s d n j).v va i0 j0 = s.v va i0 j0 :=
  (Does.flagRise (Does.refl _ s) (Foot.le_refl _) _ _ _).v hn _ _
@[simp] theorem State.part_flagRise (d : Nat) (n : Nat) (j : Nat) (hn : Foot.flagRise.hasP pa = false) : (State.flagRise s d n j).part pa = s.part pa :=
  (Does.flagRise (Does.refl _ s) (Foot.le_refl _) _ _ _).parts pa hn
@[simp] theorem State.rd_bodyLevel (n : Nat) (hn : Foot.bodyLevel.hasR fl.r = false) : (State.bodyLevel s n).rd fl i0 j0 = s.rd fl i0 j0 :=
  (Does.bodyLevel (Does.refl _ s) (Foot.le_refl _) _).rd hn _ _
@[simp] theorem State.reg_bodyLevel (n : Nat) (hn : Foot.bodyLevel.hasR ra = false) : (State.bodyLevel s n).reg ra i0 j0 = s.reg ra i0 j0 :=
  (Does.bodyLevel (Does.refl _ s) (Foot.le_refl _) _).reg hn _ _
@[simp] theorem State.v_bodyLevel (n : Nat) (hn : Foot.bodyLevel.hasV va = false) : (State.bodyLevel s n).v va i0 j0 = s.v va i0 j0 :=
  (Does.bodyLevel (Does.refl _ s) (Foot.le_refl _) _).v hn _ _
@[simp] theorem State.part_bodyLevel (n : Nat) (hn : Foot.bodyLevel.hasP pa = false) : (State.bodyLevel s n).part pa = s.part pa :=
  (Does.bodyLevel (Does.refl _ s) (Foot.le_refl _) _).parts pa hn
@[simp] theorem State.rd_flagLow (n : Nat) (j : Nat) (x : Int) (hn : Foot.flagLow.hasR fl.r = false) : (State.flagLow s n j x).rd fl i0 j0 = s.rd fl i0 j0 :=
  (Does.flagLow (Does.refl _ s) (Foot.le_refl _) _ _ _).rd hn _ _
@[simp] theorem State.reg_flagLow (n : Nat) (j : Nat) (x : Int) (hn : Foot.flagLow.hasR ra = false) : (State.flagLow s n j x).reg ra i0 j0 = s.reg ra i0 j0 :=
  (Does.flagLow (Does.refl _ s) (Foot.le_refl _) _ _ _).reg hn _ _
@[simp] theorem State.v_flagLow (n : Nat) (j : Nat) (x : Int) (hn : Foot.flagLow.hasV va = false) : (State.flagLow s n j x).v va i0 j0 = s.v va i0 j0 :=
  (Does.flagLow (Does.refl _ s) (Foot.le_refl _) _ _ _).v hn _ _
@[simp] theorem State.part_flagLow (n : Nat) (j : Nat) (x : Int) (hn : Foot.flagLow.hasP pa = false) : (State.flagLow s n j x).part pa = s.part pa :=
  (Does.flagLow (Does.refl _ s) (Foot.le_refl _) _ _ _).parts pa hn
@[simp] theorem State.rd_bodyTemp (d : Nat) (n : Nat) (x : Int) (hn : Foot.bodyTemp.hasR fl.r = false) : (State.bodyTemp s d n x).rd fl i0 j0 = s.rd fl i0 j0 :=
  (Does.bodyTemp (Does.refl _ s) (Foot.le_refl _) _ _ _).rd hn _ _
@[simp] theorem State.reg_bodyTemp (d : Nat) (n : Nat) (x : Int) (hn : Foot.bodyTemp.hasR ra = false) : (State.bodyTemp s d n x).reg ra i0 j0 = s.reg ra i0 j0 :=
  (Does.bodyTemp (Does.refl _ s) (Foot.le_refl _) _ _ _).reg hn _ _
@[simp] theorem State.v_bodyTemp (d : Nat) (n : Nat) (x : Int) (hn : Foot.bodyTemp.hasV va = false) : (State.bodyTemp s d n x).v va i0 j0 = s.v va i0 j0 :=
  (Does.bodyTemp (Does.refl _ s) (Foot.le_refl _) _ _ _).v hn _ _
@[simp] theorem State.part_bodyTemp (d : Nat) (n : Nat) (x : Int) (hn : Foot.bodyTemp.hasP pa = false) : (State.bodyTemp s d n x).part pa = s.part pa :=
  (Does.bodyTemp (Does.refl _ s) (Foot.le_refl _) _ _ _).parts pa hn
@[simp] theorem State.rd_badFlags (d : Nat) (n : Nat) (x : Int) (hn : Foot.badFlags.hasR fl.r = false) : (State.badFlags s d n x).rd fl i0 j0 = s.rd fl i0 j0 :=
  (Does.badFlags (Does.refl _ s) (Foot.le_refl _) _ _ _).rd hn _ _
@[simp] theorem State.reg_badFlags (d : Nat) (n : Nat) (x : Int) (hn : Foot.badFlags.hasR ra = false) : (State.badFlags s d n x).reg ra i0 j0 = s.reg ra i0 j0 :=
  (Does.badFlags (Does.refl _ s) (Foot.le_refl _) _ _ _).reg hn _ _
@[simp] theorem State.v_badFlags (d : Nat) (n : Nat) (x : Int) (hn : Foot.badFlags.hasV va = false) : (State.badFlags s d n x).v va i0 j0 = s.v va i0 j0 :=
  (Does.badFlags (Does.refl _ s) (Foot.le_refl _) _ _ _).v hn _ _
@[simp] theorem State.part_badFlags (d : Nat) (n : Nat) (x : Int) (hn : Foot.badFlags.hasP pa = false) : (State.badFlags s d n x).part pa = s.part pa :=
  (Does.badFlags (Does.refl _ s) (Foot.le_refl _) _ _ _).parts pa hn
@[simp] theorem State.rd_pairCount (x : Nat) (hn : Foot.pairCount.hasR fl.r = false) : (State.pairCount s x).rd fl i0 j0 = s.rd fl i0 j0 :=
  (Does.pairCount (Does.refl _ s) (Foot.le_refl _) _).rd hn _ _
@[simp] theorem State.reg_pairCount (x : Nat) (hn : Foot.pairCount.hasR ra = false) : (State.pairCount s x).reg ra i0 j0 = s.reg ra i0 j0 :=
  (Does.pairCount (Does.refl _ s) (Foot.le_refl _) _).reg hn _ _
@[simp] theorem State.v_pairCount (x : Nat) (hn : Foot.pairCount.hasV va = false) : (State.pairCount s x).v va i0 j0 = s.v va i0 j0 :=
  (Does.pairCount (Does.refl _ s) (Foot.le_refl _) _).v hn _ _
@[simp] theorem State.part_pairCount (x : Nat) (hn : Foot.pairCount.hasP pa = false) : (State.pairCount s x).part pa = s.part pa :=
  (Does.pairCount (Does.refl _ s) (Foot.le_refl _) _).parts pa hn
@[simp] theorem State.rd_pairTry (n : Nat) (hn : Foot.pairTry.hasR fl.r = false) : (State.pairTry s n).rd fl i0 j0 = s.rd fl i0 j0 :=
  (Does.pairTry (Does.refl _ s) (Foot.le_refl _) _).rd hn _ _
@[simp] theorem State.reg_pairTry (n : Nat) (hn : Foot.pairTry.hasR ra = false) : (State.pairTry s n).reg ra i0 j0 = s.reg ra i0 j0 :=
  (Does.pairTry (Does.refl _ s) (Foot.le_refl _) _).reg hn _ _
@[simp] theorem State.v_pairTry (n : Nat) (hn : Foot.pairTry.hasV va = false) : (State.pairTry s n).v va i0 j0 = s.v va i0 j0 :=
  (Does.pairTry (Does.refl _ s) (Foot.le_refl _) _).v hn _ _
@[simp] theorem State.part_pairTry (n : Nat) (hn : Foot.pairTry.hasP pa = false) : (State.pairTry s n).part pa = s.part pa :=
  (Does.pairTry (Does.refl _ s) (Foot.le_refl _) _).parts pa hn
@[simp] theorem State.rd_periodRoll (l : Nat) (hn : Foot.periodRoll.hasR fl.r = false) : (State.periodRoll s l).rd fl i0 j0 = s.rd fl i0 j0 :=
  (Does.periodRoll (Does.refl _ s) (Foot.le_refl _) _).rd hn _ _
@[simp] theorem State.reg_periodRoll (l : Nat) (hn : Foot.periodRoll.hasR ra = false) : (State.periodRoll s l).reg ra i0 j0 = s.reg ra i0 j0 :=
  (Does.periodRoll (Does.refl _ s) (Foot.le_refl _) _).reg hn _ _
@[simp] theorem State.v_periodRoll (l : Nat) (hn : Foot.periodRoll.hasV va = false) : (State.periodRoll s l).v va i0 j0 = s.v va i0 j0 :=
  (Does.periodRoll (Does.refl _ s) (Foot.le_refl _) _).v hn _ _
@[simp] theorem State.part_periodRoll (l : Nat) (hn : Foot.periodRoll.hasP pa = false) : (State.periodRoll s l).part pa = s.part pa :=
  (Does.periodRoll (Does.refl _ s) (Foot.le_refl _) _).parts pa hn
@[simp] theorem State.rd_periodSlot (l : Nat) (slot : Nat) (mw : Nat) (hn : Foot.periodSlot.hasR fl.r = false) : (State.periodSlot s l slot mw).rd fl i0 j0 = s.rd fl i0 j0 :=
  (Does.periodSlot (Does.refl _ s) (Foot.le_refl _) _ _ _).rd hn _ _
@[simp] theorem State.reg_periodSlot (l : Nat) (slot : Nat) (mw : Nat) (hn : Foot.periodSlot.hasR ra = false) : (State.periodSlot s l slot mw).reg ra i0 j0 = s.reg ra i0 j0 :=
  (Does.periodSlot (Does.refl _ s) (Foot.le_refl _) _ _ _).reg hn _ _
@[simp] theorem State.v_periodSlot (l : Nat) (slot : Nat) (mw : Nat) (hn : Foot.periodSlot.hasV va = false) : (State.periodSlot s l slot mw).v va i0 j0 = s.v va i0 j0 :=
  (Does.periodSlot (Does.refl _ s) (Foot.le_refl _) _ _ _).v hn _ _
@[simp] theorem State.part_periodSlot (l : Nat) (slot : Nat) (mw : Nat) (hn : Foot.periodSlot.hasP pa = false) : (State.periodSlot s l slot mw).part pa = s.part pa :=
  (Does.periodSlot (Does.refl _ s) (Foot.le_refl _) _ _ _).parts pa hn
@[simp] theorem State.rd_hubTemp (fresh : Bool) (hn : Foot.hubTemp.hasR fl.r = false) : (State.hubTemp s fresh).rd fl i0 j0 = s.rd fl i0 j0 :=
  (Does.hubTemp (Does.refl _ s) (Foot.le_refl _) _).rd hn _ _
@[simp] theorem State.reg_hubTemp (fresh : Bool) (hn : Foot.hubTemp.hasR ra = false) : (State.hubTemp s fresh).reg ra i0 j0 = s.reg ra i0 j0 :=
  (Does.hubTemp (Does.refl _ s) (Foot.le_refl _) _).reg hn _ _
@[simp] theorem State.v_hubTemp (fresh : Bool) (hn : Foot.hubTemp.hasV va = false) : (State.hubTemp s fresh).v va i0 j0 = s.v va i0 j0 :=
  (Does.hubTemp (Does.refl _ s) (Foot.le_refl _) _).v hn _ _
@[simp] theorem State.part_hubTemp (fresh : Bool) (hn : Foot.hubTemp.hasP pa = false) : (State.hubTemp s fresh).part pa = s.part pa :=
  (Does.hubTemp (Does.refl _ s) (Foot.le_refl _) _).parts pa hn
@[simp] theorem State.rd_lossEnd (d : Nat) (hn : Foot.lossEnd.hasR fl.r = false) : (State.lossEnd s d).rd fl i0 j0 = s.rd fl i0 j0 :=
  (Does.lossEnd (Does.refl _ s) (Foot.le_refl _) _).rd hn _ _
@[simp] theorem State.reg_lossEnd (d : Nat) (hn : Foot.lossEnd.hasR ra = false) : (State.lossEnd s d).reg ra i0 j0 = s.reg ra i0 j0 :=
  (Does.lossEnd (Does.refl _ s) (Foot.le_refl _) _).reg hn _ _
@[simp] theorem State.v_lossEnd (d : Nat) (hn : Foot.lossEnd.hasV va = false) : (State.lossEnd s d).v va i0 j0 = s.v va i0 j0 :=
  (Does.lossEnd (Does.refl _ s) (Foot.le_refl _) _).v hn _ _
@[simp] theorem State.part_lossEnd (d : Nat) (hn : Foot.lossEnd.hasP pa = false) : (State.lossEnd s d).part pa = s.part pa :=
  (Does.lossEnd (Does.refl _ s) (Foot.le_refl _) _).parts pa hn
@[simp] theorem State.rd_corrSet (n : Nat) (c : Int) (hn : Foot.corrSet.hasR fl.r = false) : (State.corrSet s n c).rd fl i0 j0 = s.rd fl i0 j0 :=
  (Does.corrSet (Does.refl _ s) (Foot.le_refl _) _ _).rd hn _ _
@[simp] theorem State.reg_corrSet (n : Nat) (c : Int) (hn : Foot.corrSet.hasR ra = false) : (State.corrSet s n c).reg ra i0 j0 = s.reg ra i0 j0 :=
  (Does.corrSet (Does.refl _ s) (Foot.le_refl _) _ _).reg hn _ _
@[simp] theorem State.v_corrSet (n : Nat) (c : Int) (hn : Foot.corrSet.hasV va = false) : (State.corrSet s n c).v va i0 j0 = s.v va i0 j0 :=
  (Does.corrSet (Does.refl _ s) (Foot.le_refl _) _ _).v hn _ _
@[simp] theorem State.part_corrSet (n : Nat) (c : Int) (hn : Foot.corrSet.hasP pa = false) : (State.corrSet s n c).part pa = s.part pa :=
  (Does.corrSet (Does.refl _ s) (Foot.le_refl _) _ _).parts pa hn
@[simp] theorem State.rd_conversion (n : Nat) (d : Nat) (raw : Int) (fault : Bool) (hn : Foot.conversion.hasR fl.r = false) : (State.conversion s n d raw fault).rd fl i0 j0 = s.rd fl i0 j0 :=
  (Does.conversion (Does.refl _ s) (Foot.le_refl _) _ _ _ _).rd hn _ _
@[simp] theorem State.reg_conversion (n : Nat) (d : Nat) (raw : Int) (fault : Bool) (hn : Foot.conversion.hasR ra = false) : (State.conversion s n d raw fault).reg ra i0 j0 = s.reg ra i0 j0 :=
  (Does.conversion (Does.refl _ s) (Foot.le_refl _) _ _ _ _).reg hn _ _
@[simp] theorem State.v_conversion (n : Nat) (d : Nat) (raw : Int) (fault : Bool) (hn : Foot.conversion.hasV va = false) : (State.conversion s n d raw fault).v va i0 j0 = s.v va i0 j0 :=
  (Does.conversion (Does.refl _ s) (Foot.le_refl _) _ _ _ _).v hn _ _
@[simp] theorem State.part_conversion (n : Nat) (d : Nat) (raw : Int) (fault : Bool) (hn : Foot.conversion.hasP pa = false) : (State.conversion s n d raw fault).part pa = s.part pa :=
  (Does.conversion (Does.refl _ s) (Foot.le_refl _) _ _ _ _).parts pa hn
@[simp] theorem State.rd_repKeep (h : Nat) (l : Nat) (x : Int) (fb : Bool) (hn : Foot.repKeep.hasR fl.r = false) : (State.repKeep s h l x fb).rd fl i0 j0 = s.rd fl i0 j0 :=
  (Does.repKeep (Does.refl _ s) (Foot.le_refl _) _ _ _ _).rd hn _ _
@[simp] theorem State.reg_repKeep (h : Nat) (l : Nat) (x : Int) (fb : Bool) (hn : Foot.repKeep.hasR ra = false) : (State.repKeep s h l x fb).reg ra i0 j0 = s.reg ra i0 j0 :=
  (Does.repKeep (Does.refl _ s) (Foot.le_refl _) _ _ _ _).reg hn _ _
@[simp] theorem State.v_repKeep (h : Nat) (l : Nat) (x : Int) (fb : Bool) (hn : Foot.repKeep.hasV va = false) : (State.repKeep s h l x fb).v va i0 j0 = s.v va i0 j0 :=
  (Does.repKeep (Does.refl _ s) (Foot.le_refl _) _ _ _ _).v hn _ _
@[simp] theorem State.part_repKeep (h : Nat) (l : Nat) (x : Int) (fb : Bool) (hn : Foot.repKeep.hasP pa = false) : (State.repKeep s h l x fb).part pa = s.part pa :=
  (Does.repKeep (Does.refl _ s) (Foot.le_refl _) _ _ _ _).parts pa hn
@[simp] theorem State.rd_thrTake (l : Nat) (k : Nat) (hn : Foot.thrTake.hasR fl.r = false) : (State.thrTake s l k).rd fl i0 j0 = s.rd fl i0 j0 :=
  (Does.thrTake (Does.refl _ s) (Foot.le_refl _) _ _).rd hn _ _
@[simp] theorem State.reg_thrTake (l : Nat) (k : Nat) (hn : Foot.thrTake.hasR ra = false) : (State.thrTake s l k).reg ra i0 j0 = s.reg ra i0 j0 :=
  (Does.thrTake (Does.refl _ s) (Foot.le_refl _) _ _).reg hn _ _
@[simp] theorem State.v_thrTake (l : Nat) (k : Nat) (hn : Foot.thrTake.hasV va = false) : (State.thrTake s l k).v va i0 j0 = s.v va i0 j0 :=
  (Does.thrTake (Does.refl _ s) (Foot.le_refl _) _ _).v hn _ _
@[simp] theorem State.part_thrTake (l : Nat) (k : Nat) (hn : Foot.thrTake.hasP pa = false) : (State.thrTake s l k).part pa = s.part pa :=
  (Does.thrTake (Does.refl _ s) (Foot.le_refl _) _ _).parts pa hn
@[simp] theorem State.rd_stackBand (l : Nat) (k : Nat) (b : Nat) (hn : Foot.stackBand.hasR fl.r = false) : (State.stackBand s l k b).rd fl i0 j0 = s.rd fl i0 j0 :=
  (Does.stackBand (Does.refl _ s) (Foot.le_refl _) _ _ _).rd hn _ _
@[simp] theorem State.reg_stackBand (l : Nat) (k : Nat) (b : Nat) (hn : Foot.stackBand.hasR ra = false) : (State.stackBand s l k b).reg ra i0 j0 = s.reg ra i0 j0 :=
  (Does.stackBand (Does.refl _ s) (Foot.le_refl _) _ _ _).reg hn _ _
@[simp] theorem State.v_stackBand (l : Nat) (k : Nat) (b : Nat) (hn : Foot.stackBand.hasV va = false) : (State.stackBand s l k b).v va i0 j0 = s.v va i0 j0 :=
  (Does.stackBand (Does.refl _ s) (Foot.le_refl _) _ _ _).v hn _ _
@[simp] theorem State.part_stackBand (l : Nat) (k : Nat) (b : Nat) (hn : Foot.stackBand.hasP pa = false) : (State.stackBand s l k b).part pa = s.part pa :=
  (Does.stackBand (Does.refl _ s) (Foot.le_refl _) _ _ _).parts pa hn
@[simp] theorem State.rd_badShow (hn : Foot.badShow.hasR fl.r = false) : (State.badShow s).rd fl i0 j0 = s.rd fl i0 j0 :=
  (Does.badShow (Does.refl _ s) (Foot.le_refl _)).rd hn _ _
@[simp] theorem State.reg_badShow (hn : Foot.badShow.hasR ra = false) : (State.badShow s).reg ra i0 j0 = s.reg ra i0 j0 :=
  (Does.badShow (Does.refl _ s) (Foot.le_refl _)).reg hn _ _
@[simp] theorem State.v_badShow (hn : Foot.badShow.hasV va = false) : (State.badShow s).v va i0 j0 = s.v va i0 j0 :=
  (Does.badShow (Does.refl _ s) (Foot.le_refl _)).v hn _ _
@[simp] theorem State.part_badShow (hn : Foot.badShow.hasP pa = false) : (State.badShow s).part pa = s.part pa :=
  (Does.badShow (Does.refl _ s) (Foot.le_refl _)).parts pa hn
@[simp] theorem State.rd_calSite (x : Nat) (hn : Foot.calSite.hasR fl.r = false) : (State.calSite s x).rd fl i0 j0 = s.rd fl i0 j0 :=
  (Does.calSite (Does.refl _ s) (Foot.le_refl _) _).rd hn _ _
@[simp] theorem State.reg_calSite (x : Nat) (hn : Foot.calSite.hasR ra = false) : (State.calSite s x).reg ra i0 j0 = s.reg ra i0 j0 :=
  (Does.calSite (Does.refl _ s) (Foot.le_refl _) _).reg hn _ _
@[simp] theorem State.v_calSite (x : Nat) (hn : Foot.calSite.hasV va = false) : (State.calSite s x).v va i0 j0 = s.v va i0 j0 :=
  (Does.calSite (Does.refl _ s) (Foot.le_refl _) _).v hn _ _
@[simp] theorem State.part_calSite (x : Nat) (hn : Foot.calSite.hasP pa = false) : (State.calSite s x).part pa = s.part pa :=
  (Does.calSite (Does.refl _ s) (Foot.le_refl _) _).parts pa hn
@[simp] theorem State.rd_calRst (n : Nat) (hn : Foot.calRst.hasR fl.r = false) : (State.calRst s n).2.rd fl i0 j0 = s.rd fl i0 j0 :=
  (Does.calRst (Does.refl _ s) (Foot.le_refl _) _).rd hn _ _
@[simp] theorem State.reg_calRst (n : Nat) (hn : Foot.calRst.hasR ra = false) : (State.calRst s n).2.reg ra i0 j0 = s.reg ra i0 j0 :=
  (Does.calRst (Does.refl _ s) (Foot.le_refl _) _).reg hn _ _
@[simp] theorem State.v_calRst (n : Nat) (hn : Foot.calRst.hasV va = false) : (State.calRst s n).2.v va i0 j0 = s.v va i0 j0 :=
  (Does.calRst (Does.refl _ s) (Foot.le_refl _) _).v hn _ _
@[simp] theorem State.part_calRst (n : Nat) (hn : Foot.calRst.hasP pa = false) : (State.calRst s n).2.part pa = s.part pa :=
  (Does.calRst (Does.refl _ s) (Foot.le_refl _) _).parts pa hn
@[simp] theorem State.rd_trcArm (hn : Foot.trcArm.hasR fl.r = false) : (State.trcArm s).rd fl i0 j0 = s.rd fl i0 j0 :=
  (Does.trcArm (Does.refl _ s) (Foot.le_refl _)).rd hn _ _
@[simp] theorem State.reg_trcArm (hn : Foot.trcArm.hasR ra = false) : (State.trcArm s).reg ra i0 j0 = s.reg ra i0 j0 :=
  (Does.trcArm (Does.refl _ s) (Foot.le_refl _)).reg hn _ _
@[simp] theorem State.v_trcArm (hn : Foot.trcArm.hasV va = false) : (State.trcArm s).v va i0 j0 = s.v va i0 j0 :=
  (Does.trcArm (Does.refl _ s) (Foot.le_refl _)).v hn _ _
@[simp] theorem State.part_trcArm (hn : Foot.trcArm.hasP pa = false) : (State.trcArm s).part pa = s.part pa :=
  (Does.trcArm (Does.refl _ s) (Foot.le_refl _)).parts pa hn
@[simp] theorem State.rd_trcCmd (c : Nat) (hn : Foot.trcCmd.hasR fl.r = false) : (State.trcCmd s c).2.rd fl i0 j0 = s.rd fl i0 j0 :=
  (Does.trcCmd (Does.refl _ s) (Foot.le_refl _) _).rd hn _ _
@[simp] theorem State.reg_trcCmd (c : Nat) (hn : Foot.trcCmd.hasR ra = false) : (State.trcCmd s c).2.reg ra i0 j0 = s.reg ra i0 j0 :=
  (Does.trcCmd (Does.refl _ s) (Foot.le_refl _) _).reg hn _ _
@[simp] theorem State.v_trcCmd (c : Nat) (hn : Foot.trcCmd.hasV va = false) : (State.trcCmd s c).2.v va i0 j0 = s.v va i0 j0 :=
  (Does.trcCmd (Does.refl _ s) (Foot.le_refl _) _).v hn _ _
@[simp] theorem State.part_trcCmd (c : Nat) (hn : Foot.trcCmd.hasP pa = false) : (State.trcCmd s c).2.part pa = s.part pa :=
  (Does.trcCmd (Does.refl _ s) (Foot.le_refl _) _).parts pa hn
@[simp] theorem State.rd_trcTake (hn : Foot.trcTake.hasR fl.r = false) : (State.trcTake s).rd fl i0 j0 = s.rd fl i0 j0 :=
  (Does.trcTake (Does.refl _ s) (Foot.le_refl _)).rd hn _ _
@[simp] theorem State.reg_trcTake (hn : Foot.trcTake.hasR ra = false) : (State.trcTake s).reg ra i0 j0 = s.reg ra i0 j0 :=
  (Does.trcTake (Does.refl _ s) (Foot.le_refl _)).reg hn _ _
@[simp] theorem State.v_trcTake (hn : Foot.trcTake.hasV va = false) : (State.trcTake s).v va i0 j0 = s.v va i0 j0 :=
  (Does.trcTake (Does.refl _ s) (Foot.le_refl _)).v hn _ _
@[simp] theorem State.part_trcTake (hn : Foot.trcTake.hasP pa = false) : (State.trcTake s).part pa = s.part pa :=
  (Does.trcTake (Does.refl _ s) (Foot.le_refl _)).parts pa hn
@[simp] theorem State.rd_loadLoop (key : Nat) (l : Nat) (hn : Foot.loadLoop.hasR fl.r = false) : (State.loadLoop s key l).rd fl i0 j0 = s.rd fl i0 j0 :=
  (Does.loadLoop (Does.refl _ s) (Foot.le_refl _) _ _).rd hn _ _
@[simp] theorem State.reg_loadLoop (key : Nat) (l : Nat) (hn : Foot.loadLoop.hasR ra = false) : (State.loadLoop s key l).reg ra i0 j0 = s.reg ra i0 j0 :=
  (Does.loadLoop (Does.refl _ s) (Foot.le_refl _) _ _).reg hn _ _
@[simp] theorem State.v_loadLoop (key : Nat) (l : Nat) (hn : Foot.loadLoop.hasV va = false) : (State.loadLoop s key l).v va i0 j0 = s.v va i0 j0 :=
  (Does.loadLoop (Does.refl _ s) (Foot.le_refl _) _ _).v hn _ _
@[simp] theorem State.part_loadLoop (key : Nat) (l : Nat) (hn : Foot.loadLoop.hasP pa = false) : (State.loadLoop s key l).part pa = s.part pa :=
  (Does.loadLoop (Does.refl _ s) (Foot.le_refl _) _ _).parts pa hn
@[simp] theorem State.rd_loadSpMax (l : Nat) (hn : Foot.loadSpMax.hasR fl.r = false) : (State.loadSpMax s l).rd fl i0 j0 = s.rd fl i0 j0 :=
  (Does.loadSpMax (Does.refl _ s) (Foot.le_refl _) _).rd hn _ _
@[simp] theorem State.reg_loadSpMax (l : Nat) (hn : Foot.loadSpMax.hasR ra = false) : (State.loadSpMax s l).reg ra i0 j0 = s.reg ra i0 j0 :=
  (Does.loadSpMax (Does.refl _ s) (Foot.le_refl _) _).reg hn _ _
@[simp] theorem State.v_loadSpMax (l : Nat) (hn : Foot.loadSpMax.hasV va = false) : (State.loadSpMax s l).v va i0 j0 = s.v va i0 j0 :=
  (Does.loadSpMax (Does.refl _ s) (Foot.le_refl _) _).v hn _ _
@[simp] theorem State.part_loadSpMax (l : Nat) (hn : Foot.loadSpMax.hasP pa = false) : (State.loadSpMax s l).part pa = s.part pa :=
  (Does.loadSpMax (Does.refl _ s) (Foot.le_refl _) _).parts pa hn
@[simp] theorem State.rd_loopFresh (l : Nat) (hn : Foot.loopFresh.hasR fl.r = false) : (State.loopFresh s l).rd fl i0 j0 = s.rd fl i0 j0 :=
  (Does.loopFresh (Does.refl _ s) (Foot.le_refl _) _).rd hn _ _
@[simp] theorem State.reg_loopFresh (l : Nat) (hn : Foot.loopFresh.hasR ra = false) : (State.loopFresh s l).reg ra i0 j0 = s.reg ra i0 j0 :=
  (Does.loopFresh (Does.refl _ s) (Foot.le_refl _) _).reg hn _ _
@[simp] theorem State.v_loopFresh (l : Nat) (hn : Foot.loopFresh.hasV va = false) : (State.loopFresh s l).v va i0 j0 = s.v va i0 j0 :=
  (Does.loopFresh (Does.refl _ s) (Foot.le_refl _) _).v hn _ _
@[simp] theorem State.part_loopFresh (l : Nat) (hn : Foot.loopFresh.hasP pa = false) : (State.loopFresh s l).part pa = s.part pa :=
  (Does.loopFresh (Does.refl _ s) (Foot.le_refl _) _).parts pa hn
@[simp] theorem State.rd_loopSched (hn : Foot.loopSched.hasR fl.r = false) : (State.loopSched s).rd fl i0 j0 = s.rd fl i0 j0 :=
  (Does.loopSched (Does.refl _ s) (Foot.le_refl _)).rd hn _ _
@[simp] theorem State.reg_loopSched (hn : Foot.loopSched.hasR ra = false) : (State.loopSched s).reg ra i0 j0 = s.reg ra i0 j0 :=
  (Does.loopSched (Does.refl _ s) (Foot.le_refl _)).reg hn _ _
@[simp] theorem State.v_loopSched (hn : Foot.loopSched.hasV va = false) : (State.loopSched s).v va i0 j0 = s.v va i0 j0 :=
  (Does.loopSched (Does.refl _ s) (Foot.le_refl _)).v hn _ _
@[simp] theorem State.part_loopSched (hn : Foot.loopSched.hasP pa = false) : (State.loopSched s).part pa = s.part pa :=
  (Does.loopSched (Does.refl _ s) (Foot.le_refl _)).parts pa hn
@[simp] theorem State.rd_gainDrop (t : Nat) (hn : Foot.gainDrop.hasR fl.r = false) : (State.gainDrop s t).rd fl i0 j0 = s.rd fl i0 j0 :=
  (Does.gainDrop (Does.refl _ s) (Foot.le_refl _) _).rd hn _ _
@[simp] theorem State.reg_gainDrop (t : Nat) (hn : Foot.gainDrop.hasR ra = false) : (State.gainDrop s t).reg ra i0 j0 = s.reg ra i0 j0 :=
  (Does.gainDrop (Does.refl _ s) (Foot.le_refl _) _).reg hn _ _
@[simp] theorem State.v_gainDrop (t : Nat) (hn : Foot.gainDrop.hasV va = false) : (State.gainDrop s t).v va i0 j0 = s.v va i0 j0 :=
  (Does.gainDrop (Does.refl _ s) (Foot.le_refl _) _).v hn _ _
@[simp] theorem State.part_gainDrop (t : Nat) (hn : Foot.gainDrop.hasP pa = false) : (State.gainDrop s t).part pa = s.part pa :=
  (Does.gainDrop (Does.refl _ s) (Foot.le_refl _) _).parts pa hn
@[simp] theorem State.rd_loadGain (t : Nat) (hn : Foot.loadGain.hasR fl.r = false) : (State.loadGain s t).rd fl i0 j0 = s.rd fl i0 j0 :=
  (Does.loadGain (Does.refl _ s) (Foot.le_refl _) _).rd hn _ _
@[simp] theorem State.reg_loadGain (t : Nat) (hn : Foot.loadGain.hasR ra = false) : (State.loadGain s t).reg ra i0 j0 = s.reg ra i0 j0 :=
  (Does.loadGain (Does.refl _ s) (Foot.le_refl _) _).reg hn _ _
@[simp] theorem State.v_loadGain (t : Nat) (hn : Foot.loadGain.hasV va = false) : (State.loadGain s t).v va i0 j0 = s.v va i0 j0 :=
  (Does.loadGain (Does.refl _ s) (Foot.le_refl _) _).v hn _ _
@[simp] theorem State.part_loadGain (t : Nat) (hn : Foot.loadGain.hasP pa = false) : (State.loadGain s t).part pa = s.part pa :=
  (Does.loadGain (Does.refl _ s) (Foot.le_refl _) _).parts pa hn
@[simp] theorem State.rd_gainCopies (d : Nat) (hn : Foot.gainCopies.hasR fl.r = false) : (State.gainCopies s d).rd fl i0 j0 = s.rd fl i0 j0 :=
  (Does.gainCopies (Does.refl _ s) (Foot.le_refl _) _).rd hn _ _
@[simp] theorem State.reg_gainCopies (d : Nat) (hn : Foot.gainCopies.hasR ra = false) : (State.gainCopies s d).reg ra i0 j0 = s.reg ra i0 j0 :=
  (Does.gainCopies (Does.refl _ s) (Foot.le_refl _) _).reg hn _ _
@[simp] theorem State.v_gainCopies (d : Nat) (hn : Foot.gainCopies.hasV va = false) : (State.gainCopies s d).v va i0 j0 = s.v va i0 j0 :=
  (Does.gainCopies (Does.refl _ s) (Foot.le_refl _) _).v hn _ _
@[simp] theorem State.part_gainCopies (d : Nat) (hn : Foot.gainCopies.hasP pa = false) : (State.gainCopies s d).part pa = s.part pa :=
  (Does.gainCopies (Does.refl _ s) (Foot.le_refl _) _).parts pa hn
@[simp] theorem State.rd_gainsRename (old : List Item) (hn : Foot.gainsRename.hasR fl.r = false) : (State.gainsRename s old).rd fl i0 j0 = s.rd fl i0 j0 :=
  (Does.gainsRename (Does.refl _ s) (Foot.le_refl _) _).rd hn _ _
@[simp] theorem State.reg_gainsRename (old : List Item) (hn : Foot.gainsRename.hasR ra = false) : (State.gainsRename s old).reg ra i0 j0 = s.reg ra i0 j0 :=
  (Does.gainsRename (Does.refl _ s) (Foot.le_refl _) _).reg hn _ _
@[simp] theorem State.v_gainsRename (old : List Item) (hn : Foot.gainsRename.hasV va = false) : (State.gainsRename s old).v va i0 j0 = s.v va i0 j0 :=
  (Does.gainsRename (Does.refl _ s) (Foot.le_refl _) _).v hn _ _
@[simp] theorem State.part_gainsRename (old : List Item) (hn : Foot.gainsRename.hasP pa = false) : (State.gainsRename s old).part pa = s.part pa :=
  (Does.gainsRename (Does.refl _ s) (Foot.le_refl _) _).parts pa hn
@[simp] theorem State.rd_railFresh (x : RailRec) (hn : Foot.railFresh.hasR fl.r = false) : (State.railFresh s x).rd fl i0 j0 = s.rd fl i0 j0 :=
  (Does.railFresh (Does.refl _ s) (Foot.le_refl _) _).rd hn _ _
@[simp] theorem State.reg_railFresh (x : RailRec) (hn : Foot.railFresh.hasR ra = false) : (State.railFresh s x).reg ra i0 j0 = s.reg ra i0 j0 :=
  (Does.railFresh (Does.refl _ s) (Foot.le_refl _) _).reg hn _ _
@[simp] theorem State.v_railFresh (x : RailRec) (hn : Foot.railFresh.hasV va = false) : (State.railFresh s x).v va i0 j0 = s.v va i0 j0 :=
  (Does.railFresh (Does.refl _ s) (Foot.le_refl _) _).v hn _ _
@[simp] theorem State.part_railFresh (x : RailRec) (hn : Foot.railFresh.hasP pa = false) : (State.railFresh s x).part pa = s.part pa :=
  (Does.railFresh (Does.refl _ s) (Foot.le_refl _) _).parts pa hn
@[simp] theorem State.rd_loadSplit (c : Nat) (hn : Foot.loadSplit.hasR fl.r = false) : (State.loadSplit s c).rd fl i0 j0 = s.rd fl i0 j0 :=
  (Does.loadSplit (Does.refl _ s) (Foot.le_refl _) _).rd hn _ _
@[simp] theorem State.reg_loadSplit (c : Nat) (hn : Foot.loadSplit.hasR ra = false) : (State.loadSplit s c).reg ra i0 j0 = s.reg ra i0 j0 :=
  (Does.loadSplit (Does.refl _ s) (Foot.le_refl _) _).reg hn _ _
@[simp] theorem State.v_loadSplit (c : Nat) (hn : Foot.loadSplit.hasV va = false) : (State.loadSplit s c).v va i0 j0 = s.v va i0 j0 :=
  (Does.loadSplit (Does.refl _ s) (Foot.le_refl _) _).v hn _ _
@[simp] theorem State.part_loadSplit (c : Nat) (hn : Foot.loadSplit.hasP pa = false) : (State.loadSplit s c).part pa = s.part pa :=
  (Does.loadSplit (Does.refl _ s) (Foot.le_refl _) _).parts pa hn
@[simp] theorem State.rd_loadId (d : Nat) (hn : Foot.loadId.hasR fl.r = false) : (State.loadId s d).rd fl i0 j0 = s.rd fl i0 j0 :=
  (Does.loadId (Does.refl _ s) (Foot.le_refl _) _).rd hn _ _
@[simp] theorem State.reg_loadId (d : Nat) (hn : Foot.loadId.hasR ra = false) : (State.loadId s d).reg ra i0 j0 = s.reg ra i0 j0 :=
  (Does.loadId (Does.refl _ s) (Foot.le_refl _) _).reg hn _ _
@[simp] theorem State.v_loadId (d : Nat) (hn : Foot.loadId.hasV va = false) : (State.loadId s d).v va i0 j0 = s.v va i0 j0 :=
  (Does.loadId (Does.refl _ s) (Foot.le_refl _) _).v hn _ _
@[simp] theorem State.part_loadId (d : Nat) (hn : Foot.loadId.hasP pa = false) : (State.loadId s d).part pa = s.part pa :=
  (Does.loadId (Does.refl _ s) (Foot.le_refl _) _).parts pa hn
@[simp] theorem State.rd_loadSite (n : Nat) (hn : Foot.loadSite.hasR fl.r = false) : (State.loadSite s n).rd fl i0 j0 = s.rd fl i0 j0 :=
  (Does.loadSite (Does.refl _ s) (Foot.le_refl _) _).rd hn _ _
@[simp] theorem State.reg_loadSite (n : Nat) (hn : Foot.loadSite.hasR ra = false) : (State.loadSite s n).reg ra i0 j0 = s.reg ra i0 j0 :=
  (Does.loadSite (Does.refl _ s) (Foot.le_refl _) _).reg hn _ _
@[simp] theorem State.v_loadSite (n : Nat) (hn : Foot.loadSite.hasV va = false) : (State.loadSite s n).v va i0 j0 = s.v va i0 j0 :=
  (Does.loadSite (Does.refl _ s) (Foot.le_refl _) _).v hn _ _
@[simp] theorem State.part_loadSite (n : Nat) (hn : Foot.loadSite.hasP pa = false) : (State.loadSite s n).part pa = s.part pa :=
  (Does.loadSite (Does.refl _ s) (Foot.le_refl _) _).parts pa hn
@[simp] theorem State.rd_loadCal (n : Nat) (hn : Foot.loadCal.hasR fl.r = false) : (State.loadCal s n).rd fl i0 j0 = s.rd fl i0 j0 :=
  (Does.loadCal (Does.refl _ s) (Foot.le_refl _) _).rd hn _ _
@[simp] theorem State.reg_loadCal (n : Nat) (hn : Foot.loadCal.hasR ra = false) : (State.loadCal s n).reg ra i0 j0 = s.reg ra i0 j0 :=
  (Does.loadCal (Does.refl _ s) (Foot.le_refl _) _).reg hn _ _
@[simp] theorem State.v_loadCal (n : Nat) (hn : Foot.loadCal.hasV va = false) : (State.loadCal s n).v va i0 j0 = s.v va i0 j0 :=
  (Does.loadCal (Does.refl _ s) (Foot.le_refl _) _).v hn _ _
@[simp] theorem State.part_loadCal (n : Nat) (hn : Foot.loadCal.hasP pa = false) : (State.loadCal s n).part pa = s.part pa :=
  (Does.loadCal (Does.refl _ s) (Foot.le_refl _) _).parts pa hn
@[simp] theorem State.rd_loadCell (x : Nat) (hn : Foot.loadCell.hasR fl.r = false) : (State.loadCell s x).rd fl i0 j0 = s.rd fl i0 j0 :=
  (Does.loadCell (Does.refl _ s) (Foot.le_refl _) _).rd hn _ _
@[simp] theorem State.reg_loadCell (x : Nat) (hn : Foot.loadCell.hasR ra = false) : (State.loadCell s x).reg ra i0 j0 = s.reg ra i0 j0 :=
  (Does.loadCell (Does.refl _ s) (Foot.le_refl _) _).reg hn _ _
@[simp] theorem State.v_loadCell (x : Nat) (hn : Foot.loadCell.hasV va = false) : (State.loadCell s x).v va i0 j0 = s.v va i0 j0 :=
  (Does.loadCell (Does.refl _ s) (Foot.le_refl _) _).v hn _ _
@[simp] theorem State.part_loadCell (x : Nat) (hn : Foot.loadCell.hasP pa = false) : (State.loadCell s x).part pa = s.part pa :=
  (Does.loadCell (Does.refl _ s) (Foot.le_refl _) _).parts pa hn
@[simp] theorem State.rd_loadDet (l : Nat) (d : Nat) (hn : Foot.loadDet.hasR fl.r = false) : (State.loadDet s l d).rd fl i0 j0 = s.rd fl i0 j0 :=
  (Does.loadDet (Does.refl _ s) (Foot.le_refl _) _ _).rd hn _ _
@[simp] theorem State.reg_loadDet (l : Nat) (d : Nat) (hn : Foot.loadDet.hasR ra = false) : (State.loadDet s l d).reg ra i0 j0 = s.reg ra i0 j0 :=
  (Does.loadDet (Does.refl _ s) (Foot.le_refl _) _ _).reg hn _ _
@[simp] theorem State.v_loadDet (l : Nat) (d : Nat) (hn : Foot.loadDet.hasV va = false) : (State.loadDet s l d).v va i0 j0 = s.v va i0 j0 :=
  (Does.loadDet (Does.refl _ s) (Foot.le_refl _) _ _).v hn _ _
@[simp] theorem State.part_loadDet (l : Nat) (d : Nat) (hn : Foot.loadDet.hasP pa = false) : (State.loadDet s l d).part pa = s.part pa :=
  (Does.loadDet (Does.refl _ s) (Foot.le_refl _) _ _).parts pa hn
@[simp] theorem State.rd_loadEst (l : Nat) (hn : Foot.loadEst.hasR fl.r = false) : (State.loadEst s l).rd fl i0 j0 = s.rd fl i0 j0 :=
  (Does.loadEst (Does.refl _ s) (Foot.le_refl _) _).rd hn _ _
@[simp] theorem State.reg_loadEst (l : Nat) (hn : Foot.loadEst.hasR ra = false) : (State.loadEst s l).reg ra i0 j0 = s.reg ra i0 j0 :=
  (Does.loadEst (Does.refl _ s) (Foot.le_refl _) _).reg hn _ _
@[simp] theorem State.v_loadEst (l : Nat) (hn : Foot.loadEst.hasV va = false) : (State.loadEst s l).v va i0 j0 = s.v va i0 j0 :=
  (Does.loadEst (Does.refl _ s) (Foot.le_refl _) _).v hn _ _
@[simp] theorem State.part_loadEst (l : Nat) (hn : Foot.loadEst.hasP pa = false) : (State.loadEst s l).part pa = s.part pa :=
  (Does.loadEst (Does.refl _ s) (Foot.le_refl _) _).parts pa hn
@[simp] theorem State.rd_loadSrc (x : SrcRec) (hn : Foot.loadSrc.hasR fl.r = false) : (State.loadSrc s x).rd fl i0 j0 = s.rd fl i0 j0 :=
  (Does.loadSrc (Does.refl _ s) (Foot.le_refl _) _).rd hn _ _
@[simp] theorem State.reg_loadSrc (x : SrcRec) (hn : Foot.loadSrc.hasR ra = false) : (State.loadSrc s x).reg ra i0 j0 = s.reg ra i0 j0 :=
  (Does.loadSrc (Does.refl _ s) (Foot.le_refl _) _).reg hn _ _
@[simp] theorem State.v_loadSrc (x : SrcRec) (hn : Foot.loadSrc.hasV va = false) : (State.loadSrc s x).v va i0 j0 = s.v va i0 j0 :=
  (Does.loadSrc (Does.refl _ s) (Foot.le_refl _) _).v hn _ _
@[simp] theorem State.part_loadSrc (x : SrcRec) (hn : Foot.loadSrc.hasP pa = false) : (State.loadSrc s x).part pa = s.part pa :=
  (Does.loadSrc (Does.refl _ s) (Foot.le_refl _) _).parts pa hn
@[simp] theorem State.rd_grpLeave (k : Nat) (grp : Nat) (en : Bool) (hn : Foot.grpLeave.hasR fl.r = false) : (State.grpLeave s k grp en).rd fl i0 j0 = s.rd fl i0 j0 :=
  (Does.grpLeave (Does.refl _ s) (Foot.le_refl _) _ _ _).rd hn _ _
@[simp] theorem State.reg_grpLeave (k : Nat) (grp : Nat) (en : Bool) (hn : Foot.grpLeave.hasR ra = false) : (State.grpLeave s k grp en).reg ra i0 j0 = s.reg ra i0 j0 :=
  (Does.grpLeave (Does.refl _ s) (Foot.le_refl _) _ _ _).reg hn _ _
@[simp] theorem State.v_grpLeave (k : Nat) (grp : Nat) (en : Bool) (hn : Foot.grpLeave.hasV va = false) : (State.grpLeave s k grp en).v va i0 j0 = s.v va i0 j0 :=
  (Does.grpLeave (Does.refl _ s) (Foot.le_refl _) _ _ _).v hn _ _
@[simp] theorem State.part_grpLeave (k : Nat) (grp : Nat) (en : Bool) (hn : Foot.grpLeave.hasP pa = false) : (State.grpLeave s k grp en).part pa = s.part pa :=
  (Does.grpLeave (Does.refl _ s) (Foot.le_refl _) _ _ _).parts pa hn
@[simp] theorem State.rd_loadSrcGroup (k : Nat) (hn : Foot.loadSrcGroup.hasR fl.r = false) : (State.loadSrcGroup s k).rd fl i0 j0 = s.rd fl i0 j0 :=
  (Does.loadSrcGroup (Does.refl _ s) (Foot.le_refl _) _).rd hn _ _
@[simp] theorem State.reg_loadSrcGroup (k : Nat) (hn : Foot.loadSrcGroup.hasR ra = false) : (State.loadSrcGroup s k).reg ra i0 j0 = s.reg ra i0 j0 :=
  (Does.loadSrcGroup (Does.refl _ s) (Foot.le_refl _) _).reg hn _ _
@[simp] theorem State.v_loadSrcGroup (k : Nat) (hn : Foot.loadSrcGroup.hasV va = false) : (State.loadSrcGroup s k).v va i0 j0 = s.v va i0 j0 :=
  (Does.loadSrcGroup (Does.refl _ s) (Foot.le_refl _) _).v hn _ _
@[simp] theorem State.part_loadSrcGroup (k : Nat) (hn : Foot.loadSrcGroup.hasP pa = false) : (State.loadSrcGroup s k).part pa = s.part pa :=
  (Does.loadSrcGroup (Does.refl _ s) (Foot.le_refl _) _).parts pa hn
@[simp] theorem State.rd_loadGroup (g : Nat) (hn : Foot.loadGroup.hasR fl.r = false) : (State.loadGroup s g).rd fl i0 j0 = s.rd fl i0 j0 :=
  (Does.loadGroup (Does.refl _ s) (Foot.le_refl _) _).rd hn _ _
@[simp] theorem State.reg_loadGroup (g : Nat) (hn : Foot.loadGroup.hasR ra = false) : (State.loadGroup s g).reg ra i0 j0 = s.reg ra i0 j0 :=
  (Does.loadGroup (Does.refl _ s) (Foot.le_refl _) _).reg hn _ _
@[simp] theorem State.v_loadGroup (g : Nat) (hn : Foot.loadGroup.hasV va = false) : (State.loadGroup s g).v va i0 j0 = s.v va i0 j0 :=
  (Does.loadGroup (Does.refl _ s) (Foot.le_refl _) _).v hn _ _
@[simp] theorem State.part_loadGroup (g : Nat) (hn : Foot.loadGroup.hasP pa = false) : (State.loadGroup s g).part pa = s.part pa :=
  (Does.loadGroup (Does.refl _ s) (Foot.le_refl _) _).parts pa hn
@[simp] theorem State.rd_loadWake (k : Nat) (hn : Foot.loadWake.hasR fl.r = false) : (State.loadWake s k).rd fl i0 j0 = s.rd fl i0 j0 :=
  (Does.loadWake (Does.refl _ s) (Foot.le_refl _) _).rd hn _ _
@[simp] theorem State.reg_loadWake (k : Nat) (hn : Foot.loadWake.hasR ra = false) : (State.loadWake s k).reg ra i0 j0 = s.reg ra i0 j0 :=
  (Does.loadWake (Does.refl _ s) (Foot.le_refl _) _).reg hn _ _
@[simp] theorem State.v_loadWake (k : Nat) (hn : Foot.loadWake.hasV va = false) : (State.loadWake s k).v va i0 j0 = s.v va i0 j0 :=
  (Does.loadWake (Does.refl _ s) (Foot.le_refl _) _).v hn _ _
@[simp] theorem State.part_loadWake (k : Nat) (hn : Foot.loadWake.hasP pa = false) : (State.loadWake s k).part pa = s.part pa :=
  (Does.loadWake (Does.refl _ s) (Foot.le_refl _) _).parts pa hn
@[simp] theorem State.rd_loadPri (hn : Foot.loadPri.hasR fl.r = false) : (State.loadPri s).rd fl i0 j0 = s.rd fl i0 j0 :=
  (Does.loadPri (Does.refl _ s) (Foot.le_refl _)).rd hn _ _
@[simp] theorem State.reg_loadPri (hn : Foot.loadPri.hasR ra = false) : (State.loadPri s).reg ra i0 j0 = s.reg ra i0 j0 :=
  (Does.loadPri (Does.refl _ s) (Foot.le_refl _)).reg hn _ _
@[simp] theorem State.v_loadPri (hn : Foot.loadPri.hasV va = false) : (State.loadPri s).v va i0 j0 = s.v va i0 j0 :=
  (Does.loadPri (Does.refl _ s) (Foot.le_refl _)).v hn _ _
@[simp] theorem State.part_loadPri (hn : Foot.loadPri.hasP pa = false) : (State.loadPri s).part pa = s.part pa :=
  (Does.loadPri (Does.refl _ s) (Foot.le_refl _)).parts pa hn
@[simp] theorem State.rd_evtFresh (hn : Foot.evtFresh.hasR fl.r = false) : (State.evtFresh s).rd fl i0 j0 = s.rd fl i0 j0 :=
  (Does.evtFresh (Does.refl _ s) (Foot.le_refl _)).rd hn _ _
@[simp] theorem State.reg_evtFresh (hn : Foot.evtFresh.hasR ra = false) : (State.evtFresh s).reg ra i0 j0 = s.reg ra i0 j0 :=
  (Does.evtFresh (Does.refl _ s) (Foot.le_refl _)).reg hn _ _
@[simp] theorem State.v_evtFresh (hn : Foot.evtFresh.hasV va = false) : (State.evtFresh s).v va i0 j0 = s.v va i0 j0 :=
  (Does.evtFresh (Does.refl _ s) (Foot.le_refl _)).v hn _ _
@[simp] theorem State.part_evtFresh (hn : Foot.evtFresh.hasP pa = false) : (State.evtFresh s).part pa = s.part pa :=
  (Does.evtFresh (Does.refl _ s) (Foot.le_refl _)).parts pa hn
@[simp] theorem State.rd_syncFresh (hn : Foot.syncFresh.hasR fl.r = false) : (State.syncFresh s).rd fl i0 j0 = s.rd fl i0 j0 :=
  (Does.syncFresh (Does.refl _ s) (Foot.le_refl _)).rd hn _ _
@[simp] theorem State.reg_syncFresh (hn : Foot.syncFresh.hasR ra = false) : (State.syncFresh s).reg ra i0 j0 = s.reg ra i0 j0 :=
  (Does.syncFresh (Does.refl _ s) (Foot.le_refl _)).reg hn _ _
@[simp] theorem State.v_syncFresh (hn : Foot.syncFresh.hasV va = false) : (State.syncFresh s).v va i0 j0 = s.v va i0 j0 :=
  (Does.syncFresh (Does.refl _ s) (Foot.le_refl _)).v hn _ _
@[simp] theorem State.part_syncFresh (hn : Foot.syncFresh.hasP pa = false) : (State.syncFresh s).part pa = s.part pa :=
  (Does.syncFresh (Does.refl _ s) (Foot.le_refl _)).parts pa hn
@[simp] theorem State.rd_dxlFresh (hn : Foot.dxlFresh.hasR fl.r = false) : (State.dxlFresh s).rd fl i0 j0 = s.rd fl i0 j0 :=
  (Does.dxlFresh (Does.refl _ s) (Foot.le_refl _)).rd hn _ _
@[simp] theorem State.reg_dxlFresh (hn : Foot.dxlFresh.hasR ra = false) : (State.dxlFresh s).reg ra i0 j0 = s.reg ra i0 j0 :=
  (Does.dxlFresh (Does.refl _ s) (Foot.le_refl _)).reg hn _ _
@[simp] theorem State.v_dxlFresh (hn : Foot.dxlFresh.hasV va = false) : (State.dxlFresh s).v va i0 j0 = s.v va i0 j0 :=
  (Does.dxlFresh (Does.refl _ s) (Foot.le_refl _)).v hn _ _
@[simp] theorem State.part_dxlFresh (hn : Foot.dxlFresh.hasP pa = false) : (State.dxlFresh s).part pa = s.part pa :=
  (Does.dxlFresh (Does.refl _ s) (Foot.le_refl _)).parts pa hn
@[simp] theorem State.rd_hubFields (hn : Foot.hubFields.hasR fl.r = false) : (State.hubFields s).rd fl i0 j0 = s.rd fl i0 j0 :=
  (Does.hubFields (Does.refl _ s) (Foot.le_refl _)).rd hn _ _
@[simp] theorem State.reg_hubFields (hn : Foot.hubFields.hasR ra = false) : (State.hubFields s).reg ra i0 j0 = s.reg ra i0 j0 :=
  (Does.hubFields (Does.refl _ s) (Foot.le_refl _)).reg hn _ _
@[simp] theorem State.v_hubFields (hn : Foot.hubFields.hasV va = false) : (State.hubFields s).v va i0 j0 = s.v va i0 j0 :=
  (Does.hubFields (Does.refl _ s) (Foot.le_refl _)).v hn _ _
@[simp] theorem State.part_hubFields (hn : Foot.hubFields.hasP pa = false) : (State.hubFields s).part pa = s.part pa :=
  (Does.hubFields (Does.refl _ s) (Foot.le_refl _)).parts pa hn
@[simp] theorem State.rd_heldFields (l : Nat) (hn : Foot.heldFields.hasR fl.r = false) : (State.heldFields s l).rd fl i0 j0 = s.rd fl i0 j0 :=
  (Does.heldFields (Does.refl _ s) (Foot.le_refl _) _).rd hn _ _
@[simp] theorem State.reg_heldFields (l : Nat) (hn : Foot.heldFields.hasR ra = false) : (State.heldFields s l).reg ra i0 j0 = s.reg ra i0 j0 :=
  (Does.heldFields (Does.refl _ s) (Foot.le_refl _) _).reg hn _ _
@[simp] theorem State.v_heldFields (l : Nat) (hn : Foot.heldFields.hasV va = false) : (State.heldFields s l).v va i0 j0 = s.v va i0 j0 :=
  (Does.heldFields (Does.refl _ s) (Foot.le_refl _) _).v hn _ _
@[simp] theorem State.part_heldFields (l : Nat) (hn : Foot.heldFields.hasP pa = false) : (State.heldFields s l).part pa = s.part pa :=
  (Does.heldFields (Does.refl _ s) (Foot.le_refl _) _).parts pa hn
@[simp] theorem State.rd_leafFields (l : Nat) (hn : Foot.leafFields.hasR fl.r = false) : (State.leafFields s l).rd fl i0 j0 = s.rd fl i0 j0 :=
  (Does.leafFields (Does.refl _ s) (Foot.le_refl _) _).rd hn _ _
@[simp] theorem State.reg_leafFields (l : Nat) (hn : Foot.leafFields.hasR ra = false) : (State.leafFields s l).reg ra i0 j0 = s.reg ra i0 j0 :=
  (Does.leafFields (Does.refl _ s) (Foot.le_refl _) _).reg hn _ _
@[simp] theorem State.v_leafFields (l : Nat) (hn : Foot.leafFields.hasV va = false) : (State.leafFields s l).v va i0 j0 = s.v va i0 j0 :=
  (Does.leafFields (Does.refl _ s) (Foot.le_refl _) _).v hn _ _
@[simp] theorem State.part_leafFields (l : Nat) (hn : Foot.leafFields.hasP pa = false) : (State.leafFields s l).part pa = s.part pa :=
  (Does.leafFields (Does.refl _ s) (Foot.le_refl _) _).parts pa hn
@[simp] theorem State.rd_islandFields (d : Nat) (hn : Foot.islandFields.hasR fl.r = false) : (State.islandFields s d).rd fl i0 j0 = s.rd fl i0 j0 :=
  (Does.islandFields (Does.refl _ s) (Foot.le_refl _) _).rd hn _ _
@[simp] theorem State.reg_islandFields (d : Nat) (hn : Foot.islandFields.hasR ra = false) : (State.islandFields s d).reg ra i0 j0 = s.reg ra i0 j0 :=
  (Does.islandFields (Does.refl _ s) (Foot.le_refl _) _).reg hn _ _
@[simp] theorem State.v_islandFields (d : Nat) (hn : Foot.islandFields.hasV va = false) : (State.islandFields s d).v va i0 j0 = s.v va i0 j0 :=
  (Does.islandFields (Does.refl _ s) (Foot.le_refl _) _).v hn _ _
@[simp] theorem State.part_islandFields (d : Nat) (hn : Foot.islandFields.hasP pa = false) : (State.islandFields s d).part pa = s.part pa :=
  (Does.islandFields (Does.refl _ s) (Foot.le_refl _) _).parts pa hn
@[simp] theorem State.rd_itemLoad (x : Item) (hn : Foot.itemLoad.hasR fl.r = false) : (State.itemLoad s x).rd fl i0 j0 = s.rd fl i0 j0 :=
  (Does.itemLoad (Does.refl _ s) (Foot.le_refl _) _).rd hn _ _
@[simp] theorem State.reg_itemLoad (x : Item) (hn : Foot.itemLoad.hasR ra = false) : (State.itemLoad s x).reg ra i0 j0 = s.reg ra i0 j0 :=
  (Does.itemLoad (Does.refl _ s) (Foot.le_refl _) _).reg hn _ _
@[simp] theorem State.v_itemLoad (x : Item) (hn : Foot.itemLoad.hasV va = false) : (State.itemLoad s x).v va i0 j0 = s.v va i0 j0 :=
  (Does.itemLoad (Does.refl _ s) (Foot.le_refl _) _).v hn _ _
@[simp] theorem State.part_itemLoad (x : Item) (hn : Foot.itemLoad.hasP pa = false) : (State.itemLoad s x).part pa = s.part pa :=
  (Does.itemLoad (Does.refl _ s) (Foot.le_refl _) _).parts pa hn

end Sys2Proof.Machine
end

