-- ==== Sys2Proof/Laws/ReadsE.lean ====
section
/-!
SUPPORT. What work outside whose footprint a register or a variable lies leaves of its reads, for the operations of FootE.
-/
namespace Sys2Proof.Machine

variable {s : State} {fl : Fld} {ra : Reg} {va : Var} {pa : Part} {i0 j0 : Nat}

@[simp] theorem State.rd_ldrOwner (o : Option Port) (hn : Foot.ldrOwner.hasR fl.r = false) : (State.ldrOwner s o).rd fl i0 j0 = s.rd fl i0 j0 :=
  (Does.ldrOwner (Does.refl _ s) (Foot.le_refl _) _).rd hn _ _
@[simp] theorem State.reg_ldrOwner (o : Option Port) (hn : Foot.ldrOwner.hasR ra = false) : (State.ldrOwner s o).reg ra i0 j0 = s.reg ra i0 j0 :=
  (Does.ldrOwner (Does.refl _ s) (Foot.le_refl _) _).reg hn _ _
@[simp] theorem State.v_ldrOwner (o : Option Port) (hn : Foot.ldrOwner.hasV va = false) : (State.ldrOwner s o).v va i0 j0 = s.v va i0 j0 :=
  (Does.ldrOwner (Does.refl _ s) (Foot.le_refl _) _).v hn _ _
@[simp] theorem State.part_ldrOwner (o : Option Port) (hn : Foot.ldrOwner.hasP pa = false) : (State.ldrOwner s o).part pa = s.part pa :=
  (Does.ldrOwner (Does.refl _ s) (Foot.le_refl _) _).parts pa hn
@[simp] theorem State.rd_ldrIdle (hn : Foot.ldrIdle.hasR fl.r = false) : (State.ldrIdle s).rd fl i0 j0 = s.rd fl i0 j0 :=
  (Does.ldrIdle (Does.refl _ s) (Foot.le_refl _)).rd hn _ _
@[simp] theorem State.reg_ldrIdle (hn : Foot.ldrIdle.hasR ra = false) : (State.ldrIdle s).reg ra i0 j0 = s.reg ra i0 j0 :=
  (Does.ldrIdle (Does.refl _ s) (Foot.le_refl _)).reg hn _ _
@[simp] theorem State.v_ldrIdle (hn : Foot.ldrIdle.hasV va = false) : (State.ldrIdle s).v va i0 j0 = s.v va i0 j0 :=
  (Does.ldrIdle (Does.refl _ s) (Foot.le_refl _)).v hn _ _
@[simp] theorem State.part_ldrIdle (hn : Foot.ldrIdle.hasP pa = false) : (State.ldrIdle s).part pa = s.part pa :=
  (Does.ldrIdle (Does.refl _ s) (Foot.le_refl _)).parts pa hn
@[simp] theorem State.rd_ldrOpen (p : Port) (hn : Foot.ldrOpen.hasR fl.r = false) : (State.ldrOpen s p).2.rd fl i0 j0 = s.rd fl i0 j0 :=
  (Does.ldrOpen (Does.refl _ s) (Foot.le_refl _) _).rd hn _ _
@[simp] theorem State.reg_ldrOpen (p : Port) (hn : Foot.ldrOpen.hasR ra = false) : (State.ldrOpen s p).2.reg ra i0 j0 = s.reg ra i0 j0 :=
  (Does.ldrOpen (Does.refl _ s) (Foot.le_refl _) _).reg hn _ _
@[simp] theorem State.v_ldrOpen (p : Port) (hn : Foot.ldrOpen.hasV va = false) : (State.ldrOpen s p).2.v va i0 j0 = s.v va i0 j0 :=
  (Does.ldrOpen (Does.refl _ s) (Foot.le_refl _) _).v hn _ _
@[simp] theorem State.part_ldrOpen (p : Port) (hn : Foot.ldrOpen.hasP pa = false) : (State.ldrOpen s p).2.part pa = s.part pa :=
  (Does.ldrOpen (Does.refl _ s) (Foot.le_refl _) _).parts pa hn
@[simp] theorem State.rd_ldrCommit (p : Port) (hn : Foot.ldrCommit.hasR fl.r = false) : (State.ldrCommit s p).2.rd fl i0 j0 = s.rd fl i0 j0 :=
  (Does.ldrCommit (Does.refl _ s) (Foot.le_refl _) _).rd hn _ _
@[simp] theorem State.reg_ldrCommit (p : Port) (hn : Foot.ldrCommit.hasR ra = false) : (State.ldrCommit s p).2.reg ra i0 j0 = s.reg ra i0 j0 :=
  (Does.ldrCommit (Does.refl _ s) (Foot.le_refl _) _).reg hn _ _
@[simp] theorem State.v_ldrCommit (p : Port) (hn : Foot.ldrCommit.hasV va = false) : (State.ldrCommit s p).2.v va i0 j0 = s.v va i0 j0 :=
  (Does.ldrCommit (Does.refl _ s) (Foot.le_refl _) _).v hn _ _
@[simp] theorem State.part_ldrCommit (p : Port) (hn : Foot.ldrCommit.hasP pa = false) : (State.ldrCommit s p).2.part pa = s.part pa :=
  (Does.ldrCommit (Does.refl _ s) (Foot.le_refl _) _).parts pa hn
@[simp] theorem State.rd_ldrAbort (p : Port) (hn : Foot.ldrAbort.hasR fl.r = false) : (State.ldrAbort s p).2.rd fl i0 j0 = s.rd fl i0 j0 :=
  (Does.ldrAbort (Does.refl _ s) (Foot.le_refl _) _).rd hn _ _
@[simp] theorem State.reg_ldrAbort (p : Port) (hn : Foot.ldrAbort.hasR ra = false) : (State.ldrAbort s p).2.reg ra i0 j0 = s.reg ra i0 j0 :=
  (Does.ldrAbort (Does.refl _ s) (Foot.le_refl _) _).reg hn _ _
@[simp] theorem State.v_ldrAbort (p : Port) (hn : Foot.ldrAbort.hasV va = false) : (State.ldrAbort s p).2.v va i0 j0 = s.v va i0 j0 :=
  (Does.ldrAbort (Does.refl _ s) (Foot.le_refl _) _).v hn _ _
@[simp] theorem State.part_ldrAbort (p : Port) (hn : Foot.ldrAbort.hasP pa = false) : (State.ldrAbort s p).2.part pa = s.part pa :=
  (Does.ldrAbort (Does.refl _ s) (Foot.le_refl _) _).parts pa hn
@[simp] theorem State.rd_ldrFuse (hn : Foot.ldrFuse.hasR fl.r = false) : (State.ldrFuse s).2.rd fl i0 j0 = s.rd fl i0 j0 :=
  (Does.ldrFuse (Does.refl _ s) (Foot.le_refl _)).rd hn _ _
@[simp] theorem State.reg_ldrFuse (hn : Foot.ldrFuse.hasR ra = false) : (State.ldrFuse s).2.reg ra i0 j0 = s.reg ra i0 j0 :=
  (Does.ldrFuse (Does.refl _ s) (Foot.le_refl _)).reg hn _ _
@[simp] theorem State.v_ldrFuse (hn : Foot.ldrFuse.hasV va = false) : (State.ldrFuse s).2.v va i0 j0 = s.v va i0 j0 :=
  (Does.ldrFuse (Does.refl _ s) (Foot.le_refl _)).v hn _ _
@[simp] theorem State.part_ldrFuse (hn : Foot.ldrFuse.hasP pa = false) : (State.ldrFuse s).2.part pa = s.part pa :=
  (Does.ldrFuse (Does.refl _ s) (Foot.le_refl _)).parts pa hn
@[simp] theorem State.rd_ldrCmd (p : Port) (c : Nat) (hn : Foot.ldrCmd.hasR fl.r = false) : (State.ldrCmd s p c).2.rd fl i0 j0 = s.rd fl i0 j0 :=
  (Does.ldrCmd (Does.refl _ s) (Foot.le_refl _) _ _).rd hn _ _
@[simp] theorem State.reg_ldrCmd (p : Port) (c : Nat) (hn : Foot.ldrCmd.hasR ra = false) : (State.ldrCmd s p c).2.reg ra i0 j0 = s.reg ra i0 j0 :=
  (Does.ldrCmd (Does.refl _ s) (Foot.le_refl _) _ _).reg hn _ _
@[simp] theorem State.v_ldrCmd (p : Port) (c : Nat) (hn : Foot.ldrCmd.hasV va = false) : (State.ldrCmd s p c).2.v va i0 j0 = s.v va i0 j0 :=
  (Does.ldrCmd (Does.refl _ s) (Foot.le_refl _) _ _).v hn _ _
@[simp] theorem State.part_ldrCmd (p : Port) (c : Nat) (hn : Foot.ldrCmd.hasP pa = false) : (State.ldrCmd s p c).2.part pa = s.part pa :=
  (Does.ldrCmd (Does.refl _ s) (Foot.le_refl _) _ _).parts pa hn
@[simp] theorem State.rd_ldrAddr (p : Port) (w : Nat) (hn : Foot.ldrAddr.hasR fl.r = false) : (State.ldrAddr s p w).2.rd fl i0 j0 = s.rd fl i0 j0 :=
  (Does.ldrAddr (Does.refl _ s) (Foot.le_refl _) _ _).rd hn _ _
@[simp] theorem State.reg_ldrAddr (p : Port) (w : Nat) (hn : Foot.ldrAddr.hasR ra = false) : (State.ldrAddr s p w).2.reg ra i0 j0 = s.reg ra i0 j0 :=
  (Does.ldrAddr (Does.refl _ s) (Foot.le_refl _) _ _).reg hn _ _
@[simp] theorem State.v_ldrAddr (p : Port) (w : Nat) (hn : Foot.ldrAddr.hasV va = false) : (State.ldrAddr s p w).2.v va i0 j0 = s.v va i0 j0 :=
  (Does.ldrAddr (Does.refl _ s) (Foot.le_refl _) _ _).v hn _ _
@[simp] theorem State.part_ldrAddr (p : Port) (w : Nat) (hn : Foot.ldrAddr.hasP pa = false) : (State.ldrAddr s p w).2.part pa = s.part pa :=
  (Does.ldrAddr (Does.refl _ s) (Foot.le_refl _) _ _).parts pa hn
@[simp] theorem State.rd_ldrData (p : Port) (wide : Bool) (w : Word) (hn : Foot.ldrData.hasR fl.r = false) : (State.ldrData s p wide w).2.rd fl i0 j0 = s.rd fl i0 j0 :=
  (Does.ldrData (Does.refl _ s) (Foot.le_refl _) _ _ _).rd hn _ _
@[simp] theorem State.reg_ldrData (p : Port) (wide : Bool) (w : Word) (hn : Foot.ldrData.hasR ra = false) : (State.ldrData s p wide w).2.reg ra i0 j0 = s.reg ra i0 j0 :=
  (Does.ldrData (Does.refl _ s) (Foot.le_refl _) _ _ _).reg hn _ _
@[simp] theorem State.v_ldrData (p : Port) (wide : Bool) (w : Word) (hn : Foot.ldrData.hasV va = false) : (State.ldrData s p wide w).2.v va i0 j0 = s.v va i0 j0 :=
  (Does.ldrData (Does.refl _ s) (Foot.le_refl _) _ _ _).v hn _ _
@[simp] theorem State.part_ldrData (p : Port) (wide : Bool) (w : Word) (hn : Foot.ldrData.hasP pa = false) : (State.ldrData s p wide w).2.part pa = s.part pa :=
  (Does.ldrData (Does.refl _ s) (Foot.le_refl _) _ _ _).parts pa hn
@[simp] theorem State.rd_setDelta (d : Option DeltaRun) (hn : Foot.setDelta.hasR fl.r = false) : (State.setDelta s d).rd fl i0 j0 = s.rd fl i0 j0 :=
  (Does.setDelta (Does.refl _ s) (Foot.le_refl _) _).rd hn _ _
@[simp] theorem State.reg_setDelta (d : Option DeltaRun) (hn : Foot.setDelta.hasR ra = false) : (State.setDelta s d).reg ra i0 j0 = s.reg ra i0 j0 :=
  (Does.setDelta (Does.refl _ s) (Foot.le_refl _) _).reg hn _ _
@[simp] theorem State.v_setDelta (d : Option DeltaRun) (hn : Foot.setDelta.hasV va = false) : (State.setDelta s d).v va i0 j0 = s.v va i0 j0 :=
  (Does.setDelta (Does.refl _ s) (Foot.le_refl _) _).v hn _ _
@[simp] theorem State.part_setDelta (d : Option DeltaRun) (hn : Foot.setDelta.hasP pa = false) : (State.setDelta s d).part pa = s.part pa :=
  (Does.setDelta (Does.refl _ s) (Foot.le_refl _) _).parts pa hn
@[simp] theorem State.rd_paramSend (d : Nat) (kind : Nat) (hn : Foot.paramSend.hasR fl.r = false) : (State.paramSend s d kind).2.rd fl i0 j0 = s.rd fl i0 j0 :=
  (Does.paramSend (Does.refl _ s) (Foot.le_refl _) _ _).rd hn _ _
@[simp] theorem State.reg_paramSend (d : Nat) (kind : Nat) (hn : Foot.paramSend.hasR ra = false) : (State.paramSend s d kind).2.reg ra i0 j0 = s.reg ra i0 j0 :=
  (Does.paramSend (Does.refl _ s) (Foot.le_refl _) _ _).reg hn _ _
@[simp] theorem State.v_paramSend (d : Nat) (kind : Nat) (hn : Foot.paramSend.hasV va = false) : (State.paramSend s d kind).2.v va i0 j0 = s.v va i0 j0 :=
  (Does.paramSend (Does.refl _ s) (Foot.le_refl _) _ _).v hn _ _
@[simp] theorem State.part_paramSend (d : Nat) (kind : Nat) (hn : Foot.paramSend.hasP pa = false) : (State.paramSend s d kind).2.part pa = s.part pa :=
  (Does.paramSend (Does.refl _ s) (Foot.le_refl _) _ _).parts pa hn
@[simp] theorem State.rd_deltaReady (hn : Foot.deltaReady.hasR fl.r = false) : (State.deltaReady s).rd fl i0 j0 = s.rd fl i0 j0 :=
  (Does.deltaReady (Does.refl _ s) (Foot.le_refl _)).rd hn _ _
@[simp] theorem State.reg_deltaReady (hn : Foot.deltaReady.hasR ra = false) : (State.deltaReady s).reg ra i0 j0 = s.reg ra i0 j0 :=
  (Does.deltaReady (Does.refl _ s) (Foot.le_refl _)).reg hn _ _
@[simp] theorem State.v_deltaReady (hn : Foot.deltaReady.hasV va = false) : (State.deltaReady s).v va i0 j0 = s.v va i0 j0 :=
  (Does.deltaReady (Does.refl _ s) (Foot.le_refl _)).v hn _ _
@[simp] theorem State.part_deltaReady (hn : Foot.deltaReady.hasP pa = false) : (State.deltaReady s).part pa = s.part pa :=
  (Does.deltaReady (Does.refl _ s) (Foot.le_refl _)).parts pa hn
@[simp] theorem State.rd_deltaAbsent (x : Nat) (hn : Foot.deltaAbsent.hasR fl.r = false) : (State.deltaAbsent s x).rd fl i0 j0 = s.rd fl i0 j0 :=
  (Does.deltaAbsent (Does.refl _ s) (Foot.le_refl _) _).rd hn _ _
@[simp] theorem State.reg_deltaAbsent (x : Nat) (hn : Foot.deltaAbsent.hasR ra = false) : (State.deltaAbsent s x).reg ra i0 j0 = s.reg ra i0 j0 :=
  (Does.deltaAbsent (Does.refl _ s) (Foot.le_refl _) _).reg hn _ _
@[simp] theorem State.v_deltaAbsent (x : Nat) (hn : Foot.deltaAbsent.hasV va = false) : (State.deltaAbsent s x).v va i0 j0 = s.v va i0 j0 :=
  (Does.deltaAbsent (Does.refl _ s) (Foot.le_refl _) _).v hn _ _
@[simp] theorem State.part_deltaAbsent (x : Nat) (hn : Foot.deltaAbsent.hasP pa = false) : (State.deltaAbsent s x).part pa = s.part pa :=
  (Does.deltaAbsent (Does.refl _ s) (Foot.le_refl _) _).parts pa hn
@[simp] theorem State.rd_deltaSend (c : Nat) (hn : Foot.deltaSend.hasR fl.r = false) : (State.deltaSend s c).rd fl i0 j0 = s.rd fl i0 j0 :=
  (Does.deltaSend (Does.refl _ s) (Foot.le_refl _) _).rd hn _ _
@[simp] theorem State.reg_deltaSend (c : Nat) (hn : Foot.deltaSend.hasR ra = false) : (State.deltaSend s c).reg ra i0 j0 = s.reg ra i0 j0 :=
  (Does.deltaSend (Does.refl _ s) (Foot.le_refl _) _).reg hn _ _
@[simp] theorem State.v_deltaSend (c : Nat) (hn : Foot.deltaSend.hasV va = false) : (State.deltaSend s c).v va i0 j0 = s.v va i0 j0 :=
  (Does.deltaSend (Does.refl _ s) (Foot.le_refl _) _).v hn _ _
@[simp] theorem State.part_deltaSend (c : Nat) (hn : Foot.deltaSend.hasP pa = false) : (State.deltaSend s c).part pa = s.part pa :=
  (Does.deltaSend (Does.refl _ s) (Foot.le_refl _) _).parts pa hn
@[simp] theorem State.rd_deltaStart (g : Image) (hn : Foot.deltaStart.hasR fl.r = false) : (State.deltaStart s g).rd fl i0 j0 = s.rd fl i0 j0 :=
  (Does.deltaStart (Does.refl _ s) (Foot.le_refl _) _).rd hn _ _
@[simp] theorem State.reg_deltaStart (g : Image) (hn : Foot.deltaStart.hasR ra = false) : (State.deltaStart s g).reg ra i0 j0 = s.reg ra i0 j0 :=
  (Does.deltaStart (Does.refl _ s) (Foot.le_refl _) _).reg hn _ _
@[simp] theorem State.v_deltaStart (g : Image) (hn : Foot.deltaStart.hasV va = false) : (State.deltaStart s g).v va i0 j0 = s.v va i0 j0 :=
  (Does.deltaStart (Does.refl _ s) (Foot.le_refl _) _).v hn _ _
@[simp] theorem State.part_deltaStart (g : Image) (hn : Foot.deltaStart.hasP pa = false) : (State.deltaStart s g).part pa = s.part pa :=
  (Does.deltaStart (Does.refl _ s) (Foot.le_refl _) _).parts pa hn
@[simp] theorem State.rd_chReleased (hn : Foot.chReleased.hasR fl.r = false) : (State.chReleased s).rd fl i0 j0 = s.rd fl i0 j0 :=
  (Does.chReleased (Does.refl _ s) (Foot.le_refl _)).rd hn _ _
@[simp] theorem State.reg_chReleased (hn : Foot.chReleased.hasR ra = false) : (State.chReleased s).reg ra i0 j0 = s.reg ra i0 j0 :=
  (Does.chReleased (Does.refl _ s) (Foot.le_refl _)).reg hn _ _
@[simp] theorem State.v_chReleased (hn : Foot.chReleased.hasV va = false) : (State.chReleased s).v va i0 j0 = s.v va i0 j0 :=
  (Does.chReleased (Does.refl _ s) (Foot.le_refl _)).v hn _ _
@[simp] theorem State.part_chReleased (hn : Foot.chReleased.hasP pa = false) : (State.chReleased s).part pa = s.part pa :=
  (Does.chReleased (Does.refl _ s) (Foot.le_refl _)).parts pa hn
@[simp] theorem State.rd_deltaEnd (loops : List Nat) (hn : Foot.deltaEnd.hasR fl.r = false) : (State.deltaEnd s loops).rd fl i0 j0 = s.rd fl i0 j0 :=
  (Does.deltaEnd (Does.refl _ s) (Foot.le_refl _) _).rd hn _ _
@[simp] theorem State.reg_deltaEnd (loops : List Nat) (hn : Foot.deltaEnd.hasR ra = false) : (State.deltaEnd s loops).reg ra i0 j0 = s.reg ra i0 j0 :=
  (Does.deltaEnd (Does.refl _ s) (Foot.le_refl _) _).reg hn _ _
@[simp] theorem State.v_deltaEnd (loops : List Nat) (hn : Foot.deltaEnd.hasV va = false) : (State.deltaEnd s loops).v va i0 j0 = s.v va i0 j0 :=
  (Does.deltaEnd (Does.refl _ s) (Foot.le_refl _) _).v hn _ _
@[simp] theorem State.part_deltaEnd (loops : List Nat) (hn : Foot.deltaEnd.hasP pa = false) : (State.deltaEnd s loops).part pa = s.part pa :=
  (Does.deltaEnd (Does.refl _ s) (Foot.le_refl _) _).parts pa hn
@[simp] theorem State.rd_deltaApply (d : DeltaRun) (hn : Foot.deltaApply.hasR fl.r = false) : (State.deltaApply s d).rd fl i0 j0 = s.rd fl i0 j0 :=
  (Does.deltaApply (Does.refl _ s) (Foot.le_refl _) _).rd hn _ _
@[simp] theorem State.reg_deltaApply (d : DeltaRun) (hn : Foot.deltaApply.hasR ra = false) : (State.deltaApply s d).reg ra i0 j0 = s.reg ra i0 j0 :=
  (Does.deltaApply (Does.refl _ s) (Foot.le_refl _) _).reg hn _ _
@[simp] theorem State.v_deltaApply (d : DeltaRun) (hn : Foot.deltaApply.hasV va = false) : (State.deltaApply s d).v va i0 j0 = s.v va i0 j0 :=
  (Does.deltaApply (Does.refl _ s) (Foot.le_refl _) _).v hn _ _
@[simp] theorem State.part_deltaApply (d : DeltaRun) (hn : Foot.deltaApply.hasP pa = false) : (State.deltaApply s d).part pa = s.part pa :=
  (Does.deltaApply (Does.refl _ s) (Foot.le_refl _) _).parts pa hn
@[simp] theorem State.rd_toVerify (k : Nat) (hn : Foot.toVerify.hasR fl.r = false) : (State.toVerify s k).rd fl i0 j0 = s.rd fl i0 j0 :=
  (Does.toVerify (Does.refl _ s) (Foot.le_refl _) _).rd hn _ _
@[simp] theorem State.reg_toVerify (k : Nat) (hn : Foot.toVerify.hasR ra = false) : (State.toVerify s k).reg ra i0 j0 = s.reg ra i0 j0 :=
  (Does.toVerify (Does.refl _ s) (Foot.le_refl _) _).reg hn _ _
@[simp] theorem State.v_toVerify (k : Nat) (hn : Foot.toVerify.hasV va = false) : (State.toVerify s k).v va i0 j0 = s.v va i0 j0 :=
  (Does.toVerify (Does.refl _ s) (Foot.le_refl _) _).v hn _ _
@[simp] theorem State.part_toVerify (k : Nat) (hn : Foot.toVerify.hasP pa = false) : (State.toVerify s k).part pa = s.part pa :=
  (Does.toVerify (Does.refl _ s) (Foot.le_refl _) _).parts pa hn
@[simp] theorem State.rd_checkEnd (ecc : Bool) (hn : Foot.checkEnd.hasR fl.r = false) : (State.checkEnd s ecc).rd fl i0 j0 = s.rd fl i0 j0 :=
  (Does.checkEnd (Does.refl _ s) (Foot.le_refl _) _).rd hn _ _
@[simp] theorem State.reg_checkEnd (ecc : Bool) (hn : Foot.checkEnd.hasR ra = false) : (State.checkEnd s ecc).reg ra i0 j0 = s.reg ra i0 j0 :=
  (Does.checkEnd (Does.refl _ s) (Foot.le_refl _) _).reg hn _ _
@[simp] theorem State.v_checkEnd (ecc : Bool) (hn : Foot.checkEnd.hasV va = false) : (State.checkEnd s ecc).v va i0 j0 = s.v va i0 j0 :=
  (Does.checkEnd (Does.refl _ s) (Foot.le_refl _) _).v hn _ _
@[simp] theorem State.part_checkEnd (ecc : Bool) (hn : Foot.checkEnd.hasP pa = false) : (State.checkEnd s ecc).part pa = s.part pa :=
  (Does.checkEnd (Does.refl _ s) (Foot.le_refl _) _).parts pa hn
@[simp] theorem State.rd_verifyFail (ecc : Bool) (detail : Nat) (step : Nat) (off : Nat) (hn : Foot.verifyFail.hasR fl.r = false) : (State.verifyFail s ecc detail step off).rd fl i0 j0 = s.rd fl i0 j0 :=
  (Does.verifyFail (Does.refl _ s) (Foot.le_refl _) _ _ _ _).rd hn _ _
@[simp] theorem State.reg_verifyFail (ecc : Bool) (detail : Nat) (step : Nat) (off : Nat) (hn : Foot.verifyFail.hasR ra = false) : (State.verifyFail s ecc detail step off).reg ra i0 j0 = s.reg ra i0 j0 :=
  (Does.verifyFail (Does.refl _ s) (Foot.le_refl _) _ _ _ _).reg hn _ _
@[simp] theorem State.v_verifyFail (ecc : Bool) (detail : Nat) (step : Nat) (off : Nat) (hn : Foot.verifyFail.hasV va = false) : (State.verifyFail s ecc detail step off).v va i0 j0 = s.v va i0 j0 :=
  (Does.verifyFail (Does.refl _ s) (Foot.le_refl _) _ _ _ _).v hn _ _
@[simp] theorem State.part_verifyFail (ecc : Bool) (detail : Nat) (step : Nat) (off : Nat) (hn : Foot.verifyFail.hasP pa = false) : (State.verifyFail s ecc detail step off).part pa = s.part pa :=
  (Does.verifyFail (Does.refl _ s) (Foot.le_refl _) _ _ _ _).parts pa hn
@[simp] theorem State.rd_mirSet (k : Nat) (r : Nat) (hn : Foot.mirSet.hasR fl.r = false) : (State.mirSet s k r).rd fl i0 j0 = s.rd fl i0 j0 :=
  (Does.mirSet (Does.refl _ s) (Foot.le_refl _) _ _).rd hn _ _
@[simp] theorem State.reg_mirSet (k : Nat) (r : Nat) (hn : Foot.mirSet.hasR ra = false) : (State.mirSet s k r).reg ra i0 j0 = s.reg ra i0 j0 :=
  (Does.mirSet (Does.refl _ s) (Foot.le_refl _) _ _).reg hn _ _
@[simp] theorem State.v_mirSet (k : Nat) (r : Nat) (hn : Foot.mirSet.hasV va = false) : (State.mirSet s k r).v va i0 j0 = s.v va i0 j0 :=
  (Does.mirSet (Does.refl _ s) (Foot.le_refl _) _ _).v hn _ _
@[simp] theorem State.part_mirSet (k : Nat) (r : Nat) (hn : Foot.mirSet.hasP pa = false) : (State.mirSet s k r).part pa = s.part pa :=
  (Does.mirSet (Does.refl _ s) (Foot.le_refl _) _ _).parts pa hn
@[simp] theorem State.rd_mirImage (g : Image) (hn : Foot.mirImage.hasR fl.r = false) : (State.mirImage s g).rd fl i0 j0 = s.rd fl i0 j0 :=
  (Does.mirImage (Does.refl _ s) (Foot.le_refl _) _).rd hn _ _
@[simp] theorem State.reg_mirImage (g : Image) (hn : Foot.mirImage.hasR ra = false) : (State.mirImage s g).reg ra i0 j0 = s.reg ra i0 j0 :=
  (Does.mirImage (Does.refl _ s) (Foot.le_refl _) _).reg hn _ _
@[simp] theorem State.v_mirImage (g : Image) (hn : Foot.mirImage.hasV va = false) : (State.mirImage s g).v va i0 j0 = s.v va i0 j0 :=
  (Does.mirImage (Does.refl _ s) (Foot.le_refl _) _).v hn _ _
@[simp] theorem State.part_mirImage (g : Image) (hn : Foot.mirImage.hasP pa = false) : (State.mirImage s g).part pa = s.part pa :=
  (Does.mirImage (Does.refl _ s) (Foot.le_refl _) _).parts pa hn
@[simp] theorem State.rd_verifyOk (g : Image) (hn : Foot.verifyOk.hasR fl.r = false) : (State.verifyOk s g).rd fl i0 j0 = s.rd fl i0 j0 :=
  (Does.verifyOk (Does.refl _ s) (Foot.le_refl _) _).rd hn _ _
@[simp] theorem State.reg_verifyOk (g : Image) (hn : Foot.verifyOk.hasR ra = false) : (State.verifyOk s g).reg ra i0 j0 = s.reg ra i0 j0 :=
  (Does.verifyOk (Does.refl _ s) (Foot.le_refl _) _).reg hn _ _
@[simp] theorem State.v_verifyOk (g : Image) (hn : Foot.verifyOk.hasV va = false) : (State.verifyOk s g).v va i0 j0 = s.v va i0 j0 :=
  (Does.verifyOk (Does.refl _ s) (Foot.le_refl _) _).v hn _ _
@[simp] theorem State.part_verifyOk (g : Image) (hn : Foot.verifyOk.hasP pa = false) : (State.verifyOk s g).part pa = s.part pa :=
  (Does.verifyOk (Does.refl _ s) (Foot.le_refl _) _).parts pa hn
@[simp] theorem State.rd_fieldsSend (c : Nat) (hn : Foot.fieldsSend.hasR fl.r = false) : (State.fieldsSend s c).rd fl i0 j0 = s.rd fl i0 j0 :=
  (Does.fieldsSend (Does.refl _ s) (Foot.le_refl _) _).rd hn _ _
@[simp] theorem State.reg_fieldsSend (c : Nat) (hn : Foot.fieldsSend.hasR ra = false) : (State.fieldsSend s c).reg ra i0 j0 = s.reg ra i0 j0 :=
  (Does.fieldsSend (Does.refl _ s) (Foot.le_refl _) _).reg hn _ _
@[simp] theorem State.v_fieldsSend (c : Nat) (hn : Foot.fieldsSend.hasV va = false) : (State.fieldsSend s c).v va i0 j0 = s.v va i0 j0 :=
  (Does.fieldsSend (Does.refl _ s) (Foot.le_refl _) _).v hn _ _
@[simp] theorem State.part_fieldsSend (c : Nat) (hn : Foot.fieldsSend.hasP pa = false) : (State.fieldsSend s c).part pa = s.part pa :=
  (Does.fieldsSend (Does.refl _ s) (Foot.le_refl _) _).parts pa hn
@[simp] theorem State.rd_paramTake (d : Nat) (kind : Nat) (hn : Foot.paramTake.hasR fl.r = false) : (State.paramTake s d kind).rd fl i0 j0 = s.rd fl i0 j0 :=
  (Does.paramTake (Does.refl _ s) (Foot.le_refl _) _ _).rd hn _ _
@[simp] theorem State.reg_paramTake (d : Nat) (kind : Nat) (hn : Foot.paramTake.hasR ra = false) : (State.paramTake s d kind).reg ra i0 j0 = s.reg ra i0 j0 :=
  (Does.paramTake (Does.refl _ s) (Foot.le_refl _) _ _).reg hn _ _
@[simp] theorem State.v_paramTake (d : Nat) (kind : Nat) (hn : Foot.paramTake.hasV va = false) : (State.paramTake s d kind).v va i0 j0 = s.v va i0 j0 :=
  (Does.paramTake (Does.refl _ s) (Foot.le_refl _) _ _).v hn _ _
@[simp] theorem State.part_paramTake (d : Nat) (kind : Nat) (hn : Foot.paramTake.hasP pa = false) : (State.paramTake s d kind).part pa = s.part pa :=
  (Does.paramTake (Does.refl _ s) (Foot.le_refl _) _ _).parts pa hn
@[simp] theorem State.rd_paramConfirm (d : Nat) (hn : Foot.paramConfirm.hasR fl.r = false) : (State.paramConfirm s d).rd fl i0 j0 = s.rd fl i0 j0 :=
  (Does.paramConfirm (Does.refl _ s) (Foot.le_refl _) _).rd hn _ _
@[simp] theorem State.reg_paramConfirm (d : Nat) (hn : Foot.paramConfirm.hasR ra = false) : (State.paramConfirm s d).reg ra i0 j0 = s.reg ra i0 j0 :=
  (Does.paramConfirm (Does.refl _ s) (Foot.le_refl _) _).reg hn _ _
@[simp] theorem State.v_paramConfirm (d : Nat) (hn : Foot.paramConfirm.hasV va = false) : (State.paramConfirm s d).v va i0 j0 = s.v va i0 j0 :=
  (Does.paramConfirm (Does.refl _ s) (Foot.le_refl _) _).v hn _ _
@[simp] theorem State.part_paramConfirm (d : Nat) (hn : Foot.paramConfirm.hasP pa = false) : (State.paramConfirm s d).part pa = s.part pa :=
  (Does.paramConfirm (Does.refl _ s) (Foot.le_refl _) _).parts pa hn
@[simp] theorem State.rd_levelsFall (d : Nat) (hn : Foot.levelsFall.hasR fl.r = false) : (State.levelsFall s d).rd fl i0 j0 = s.rd fl i0 j0 :=
  (Does.levelsFall (Does.refl _ s) (Foot.le_refl _) _).rd hn _ _
@[simp] theorem State.reg_levelsFall (d : Nat) (hn : Foot.levelsFall.hasR ra = false) : (State.levelsFall s d).reg ra i0 j0 = s.reg ra i0 j0 :=
  (Does.levelsFall (Does.refl _ s) (Foot.le_refl _) _).reg hn _ _
@[simp] theorem State.v_levelsFall (d : Nat) (hn : Foot.levelsFall.hasV va = false) : (State.levelsFall s d).v va i0 j0 = s.v va i0 j0 :=
  (Does.levelsFall (Does.refl _ s) (Foot.le_refl _) _).v hn _ _
@[simp] theorem State.part_levelsFall (d : Nat) (hn : Foot.levelsFall.hasP pa = false) : (State.levelsFall s d).part pa = s.part pa :=
  (Does.levelsFall (Does.refl _ s) (Foot.le_refl _) _).parts pa hn
@[simp] theorem State.rd_fenceDone (e : ChEnd) (bad : Bool) (hn : Foot.fenceDone.hasR fl.r = false) : (State.fenceDone s e bad).rd fl i0 j0 = s.rd fl i0 j0 :=
  (Does.fenceDone (Does.refl _ s) (Foot.le_refl _) _ _).rd hn _ _
@[simp] theorem State.reg_fenceDone (e : ChEnd) (bad : Bool) (hn : Foot.fenceDone.hasR ra = false) : (State.fenceDone s e bad).reg ra i0 j0 = s.reg ra i0 j0 :=
  (Does.fenceDone (Does.refl _ s) (Foot.le_refl _) _ _).reg hn _ _
@[simp] theorem State.v_fenceDone (e : ChEnd) (bad : Bool) (hn : Foot.fenceDone.hasV va = false) : (State.fenceDone s e bad).v va i0 j0 = s.v va i0 j0 :=
  (Does.fenceDone (Does.refl _ s) (Foot.le_refl _) _ _).v hn _ _
@[simp] theorem State.part_fenceDone (e : ChEnd) (bad : Bool) (hn : Foot.fenceDone.hasP pa = false) : (State.fenceDone s e bad).part pa = s.part pa :=
  (Does.fenceDone (Does.refl _ s) (Foot.le_refl _) _ _).parts pa hn
@[simp] theorem State.rd_fenceCut (e : ChEnd) (was : Nat) (hn : Foot.fenceCut.hasR fl.r = false) : (State.fenceCut s e was).rd fl i0 j0 = s.rd fl i0 j0 :=
  (Does.fenceCut (Does.refl _ s) (Foot.le_refl _) _ _).rd hn _ _
@[simp] theorem State.reg_fenceCut (e : ChEnd) (was : Nat) (hn : Foot.fenceCut.hasR ra = false) : (State.fenceCut s e was).reg ra i0 j0 = s.reg ra i0 j0 :=
  (Does.fenceCut (Does.refl _ s) (Foot.le_refl _) _ _).reg hn _ _
@[simp] theorem State.v_fenceCut (e : ChEnd) (was : Nat) (hn : Foot.fenceCut.hasV va = false) : (State.fenceCut s e was).v va i0 j0 = s.v va i0 j0 :=
  (Does.fenceCut (Does.refl _ s) (Foot.le_refl _) _ _).v hn _ _
@[simp] theorem State.part_fenceCut (e : ChEnd) (was : Nat) (hn : Foot.fenceCut.hasP pa = false) : (State.fenceCut s e was).part pa = s.part pa :=
  (Does.fenceCut (Does.refl _ s) (Foot.le_refl _) _ _).parts pa hn
@[simp] theorem State.rd_deltaFall (d : Nat) (hn : Foot.deltaFall.hasR fl.r = false) : (State.deltaFall s d).rd fl i0 j0 = s.rd fl i0 j0 :=
  (Does.deltaFall (Does.refl _ s) (Foot.le_refl _) _).rd hn _ _
@[simp] theorem State.reg_deltaFall (d : Nat) (hn : Foot.deltaFall.hasR ra = false) : (State.deltaFall s d).reg ra i0 j0 = s.reg ra i0 j0 :=
  (Does.deltaFall (Does.refl _ s) (Foot.le_refl _) _).reg hn _ _
@[simp] theorem State.v_deltaFall (d : Nat) (hn : Foot.deltaFall.hasV va = false) : (State.deltaFall s d).v va i0 j0 = s.v va i0 j0 :=
  (Does.deltaFall (Does.refl _ s) (Foot.le_refl _) _).v hn _ _
@[simp] theorem State.part_deltaFall (d : Nat) (hn : Foot.deltaFall.hasP pa = false) : (State.deltaFall s d).part pa = s.part pa :=
  (Does.deltaFall (Does.refl _ s) (Foot.le_refl _) _).parts pa hn
@[simp] theorem State.rd_endForget (e : ChEnd) (hn : Foot.endForget.hasR fl.r = false) : (State.endForget s e).rd fl i0 j0 = s.rd fl i0 j0 :=
  (Does.endForget (Does.refl _ s) (Foot.le_refl _) _).rd hn _ _
@[simp] theorem State.reg_endForget (e : ChEnd) (hn : Foot.endForget.hasR ra = false) : (State.endForget s e).reg ra i0 j0 = s.reg ra i0 j0 :=
  (Does.endForget (Does.refl _ s) (Foot.le_refl _) _).reg hn _ _
@[simp] theorem State.v_endForget (e : ChEnd) (hn : Foot.endForget.hasV va = false) : (State.endForget s e).v va i0 j0 = s.v va i0 j0 :=
  (Does.endForget (Does.refl _ s) (Foot.le_refl _) _).v hn _ _
@[simp] theorem State.part_endForget (e : ChEnd) (hn : Foot.endForget.hasP pa = false) : (State.endForget s e).part pa = s.part pa :=
  (Does.endForget (Does.refl _ s) (Foot.le_refl _) _).parts pa hn
@[simp] theorem State.rd_parentLeaves (e : ChEnd) (st : Nat) (hn : Foot.parentLeaves.hasR fl.r = false) : (State.parentLeaves s e st).rd fl i0 j0 = s.rd fl i0 j0 :=
  (Does.parentLeaves (Does.refl _ s) (Foot.le_refl _) _ _).rd hn _ _
@[simp] theorem State.reg_parentLeaves (e : ChEnd) (st : Nat) (hn : Foot.parentLeaves.hasR ra = false) : (State.parentLeaves s e st).reg ra i0 j0 = s.reg ra i0 j0 :=
  (Does.parentLeaves (Does.refl _ s) (Foot.le_refl _) _ _).reg hn _ _
@[simp] theorem State.v_parentLeaves (e : ChEnd) (st : Nat) (hn : Foot.parentLeaves.hasV va = false) : (State.parentLeaves s e st).v va i0 j0 = s.v va i0 j0 :=
  (Does.parentLeaves (Does.refl _ s) (Foot.le_refl _) _ _).v hn _ _
@[simp] theorem State.part_parentLeaves (e : ChEnd) (st : Nat) (hn : Foot.parentLeaves.hasP pa = false) : (State.parentLeaves s e st).part pa = s.part pa :=
  (Does.parentLeaves (Does.refl _ s) (Foot.le_refl _) _ _).parts pa hn
@[simp] theorem State.rd_endDown (e : ChEnd) (hn : Foot.endDown.hasR fl.r = false) : (State.endDown s e).rd fl i0 j0 = s.rd fl i0 j0 :=
  (Does.endDown (Does.refl _ s) (Foot.le_refl _) _).rd hn _ _
@[simp] theorem State.reg_endDown (e : ChEnd) (hn : Foot.endDown.hasR ra = false) : (State.endDown s e).reg ra i0 j0 = s.reg ra i0 j0 :=
  (Does.endDown (Does.refl _ s) (Foot.le_refl _) _).reg hn _ _
@[simp] theorem State.v_endDown (e : ChEnd) (hn : Foot.endDown.hasV va = false) : (State.endDown s e).v va i0 j0 = s.v va i0 j0 :=
  (Does.endDown (Does.refl _ s) (Foot.le_refl _) _).v hn _ _
@[simp] theorem State.part_endDown (e : ChEnd) (hn : Foot.endDown.hasP pa = false) : (State.endDown s e).part pa = s.part pa :=
  (Does.endDown (Does.refl _ s) (Foot.le_refl _) _).parts pa hn
@[simp] theorem State.rd_islandFell (d : Nat) (hn : Foot.islandFell.hasR fl.r = false) : (State.islandFell s d).rd fl i0 j0 = s.rd fl i0 j0 :=
  (Does.islandFell (Does.refl _ s) (Foot.le_refl _) _).rd hn _ _
@[simp] theorem State.reg_islandFell (d : Nat) (hn : Foot.islandFell.hasR ra = false) : (State.islandFell s d).reg ra i0 j0 = s.reg ra i0 j0 :=
  (Does.islandFell (Does.refl _ s) (Foot.le_refl _) _).reg hn _ _
@[simp] theorem State.v_islandFell (d : Nat) (hn : Foot.islandFell.hasV va = false) : (State.islandFell s d).v va i0 j0 = s.v va i0 j0 :=
  (Does.islandFell (Does.refl _ s) (Foot.le_refl _) _).v hn _ _
@[simp] theorem State.part_islandFell (d : Nat) (hn : Foot.islandFell.hasP pa = false) : (State.islandFell s d).part pa = s.part pa :=
  (Does.islandFell (Does.refl _ s) (Foot.le_refl _) _).parts pa hn
@[simp] theorem State.rd_helloAgain (e : ChEnd) (hn : Foot.helloAgain.hasR fl.r = false) : (State.helloAgain s e).rd fl i0 j0 = s.rd fl i0 j0 :=
  (Does.helloAgain (Does.refl _ s) (Foot.le_refl _) _).rd hn _ _
@[simp] theorem State.reg_helloAgain (e : ChEnd) (hn : Foot.helloAgain.hasR ra = false) : (State.helloAgain s e).reg ra i0 j0 = s.reg ra i0 j0 :=
  (Does.helloAgain (Does.refl _ s) (Foot.le_refl _) _).reg hn _ _
@[simp] theorem State.v_helloAgain (e : ChEnd) (hn : Foot.helloAgain.hasV va = false) : (State.helloAgain s e).v va i0 j0 = s.v va i0 j0 :=
  (Does.helloAgain (Does.refl _ s) (Foot.le_refl _) _).v hn _ _
@[simp] theorem State.part_helloAgain (e : ChEnd) (hn : Foot.helloAgain.hasP pa = false) : (State.helloAgain s e).part pa = s.part pa :=
  (Does.helloAgain (Does.refl _ s) (Foot.le_refl _) _).parts pa hn
@[simp] theorem State.rd_helloTake (e : ChEnd) (far : Nat) (hn : Foot.helloTake.hasR fl.r = false) : (State.helloTake s e far).rd fl i0 j0 = s.rd fl i0 j0 :=
  (Does.helloTake (Does.refl _ s) (Foot.le_refl _) _ _).rd hn _ _
@[simp] theorem State.reg_helloTake (e : ChEnd) (far : Nat) (hn : Foot.helloTake.hasR ra = false) : (State.helloTake s e far).reg ra i0 j0 = s.reg ra i0 j0 :=
  (Does.helloTake (Does.refl _ s) (Foot.le_refl _) _ _).reg hn _ _
@[simp] theorem State.v_helloTake (e : ChEnd) (far : Nat) (hn : Foot.helloTake.hasV va = false) : (State.helloTake s e far).v va i0 j0 = s.v va i0 j0 :=
  (Does.helloTake (Does.refl _ s) (Foot.le_refl _) _ _).v hn _ _
@[simp] theorem State.part_helloTake (e : ChEnd) (far : Nat) (hn : Foot.helloTake.hasP pa = false) : (State.helloTake s e far).part pa = s.part pa :=
  (Does.helloTake (Does.refl _ s) (Foot.le_refl _) _ _).parts pa hn
@[simp] theorem State.rd_fenceTake (d : Nat) (scope : Nat) (id : Nat) (hn : Foot.fenceTake.hasR fl.r = false) : (State.fenceTake s d scope id).rd fl i0 j0 = s.rd fl i0 j0 :=
  (Does.fenceTake (Does.refl _ s) (Foot.le_refl _) _ _ _).rd hn _ _
@[simp] theorem State.reg_fenceTake (d : Nat) (scope : Nat) (id : Nat) (hn : Foot.fenceTake.hasR ra = false) : (State.fenceTake s d scope id).reg ra i0 j0 = s.reg ra i0 j0 :=
  (Does.fenceTake (Does.refl _ s) (Foot.le_refl _) _ _ _).reg hn _ _
@[simp] theorem State.v_fenceTake (d : Nat) (scope : Nat) (id : Nat) (hn : Foot.fenceTake.hasV va = false) : (State.fenceTake s d scope id).v va i0 j0 = s.v va i0 j0 :=
  (Does.fenceTake (Does.refl _ s) (Foot.le_refl _) _ _ _).v hn _ _
@[simp] theorem State.part_fenceTake (d : Nat) (scope : Nat) (id : Nat) (hn : Foot.fenceTake.hasP pa = false) : (State.fenceTake s d scope id).part pa = s.part pa :=
  (Does.fenceTake (Does.refl _ s) (Foot.le_refl _) _ _ _).parts pa hn
@[simp] theorem State.rd_cntRemoved (l : Nat) (slot : Nat) (removed : List (Nat × Nat)) (hn : Foot.cntRemoved.hasR fl.r = false) : (State.cntRemoved s l slot removed).rd fl i0 j0 = s.rd fl i0 j0 :=
  (Does.cntRemoved (Does.refl _ s) (Foot.le_refl _) _ _ _).rd hn _ _
@[simp] theorem State.reg_cntRemoved (l : Nat) (slot : Nat) (removed : List (Nat × Nat)) (hn : Foot.cntRemoved.hasR ra = false) : (State.cntRemoved s l slot removed).reg ra i0 j0 = s.reg ra i0 j0 :=
  (Does.cntRemoved (Does.refl _ s) (Foot.le_refl _) _ _ _).reg hn _ _
@[simp] theorem State.v_cntRemoved (l : Nat) (slot : Nat) (removed : List (Nat × Nat)) (hn : Foot.cntRemoved.hasV va = false) : (State.cntRemoved s l slot removed).v va i0 j0 = s.v va i0 j0 :=
  (Does.cntRemoved (Does.refl _ s) (Foot.le_refl _) _ _ _).v hn _ _
@[simp] theorem State.part_cntRemoved (l : Nat) (slot : Nat) (removed : List (Nat × Nat)) (hn : Foot.cntRemoved.hasP pa = false) : (State.cntRemoved s l slot removed).part pa = s.part pa :=
  (Does.cntRemoved (Does.refl _ s) (Foot.le_refl _) _ _ _).parts pa hn
@[simp] theorem State.rd_pkgFast (slot : Nat) (hn : Foot.pkgFast.hasR fl.r = false) : (State.pkgFast s slot).rd fl i0 j0 = s.rd fl i0 j0 :=
  (Does.pkgFast (Does.refl _ s) (Foot.le_refl _) _).rd hn _ _
@[simp] theorem State.reg_pkgFast (slot : Nat) (hn : Foot.pkgFast.hasR ra = false) : (State.pkgFast s slot).reg ra i0 j0 = s.reg ra i0 j0 :=
  (Does.pkgFast (Does.refl _ s) (Foot.le_refl _) _).reg hn _ _
@[simp] theorem State.v_pkgFast (slot : Nat) (hn : Foot.pkgFast.hasV va = false) : (State.pkgFast s slot).v va i0 j0 = s.v va i0 j0 :=
  (Does.pkgFast (Does.refl _ s) (Foot.le_refl _) _).v hn _ _
@[simp] theorem State.part_pkgFast (slot : Nat) (hn : Foot.pkgFast.hasP pa = false) : (State.pkgFast s slot).part pa = s.part pa :=
  (Does.pkgFast (Does.refl _ s) (Foot.le_refl _) _).parts pa hn
@[simp] theorem State.rd_estFrames (hn : Foot.estFrames.hasR fl.r = false) : (State.estFrames s).rd fl i0 j0 = s.rd fl i0 j0 :=
  (Does.estFrames (Does.refl _ s) (Foot.le_refl _)).rd hn _ _
@[simp] theorem State.reg_estFrames (hn : Foot.estFrames.hasR ra = false) : (State.estFrames s).reg ra i0 j0 = s.reg ra i0 j0 :=
  (Does.estFrames (Does.refl _ s) (Foot.le_refl _)).reg hn _ _
@[simp] theorem State.v_estFrames (hn : Foot.estFrames.hasV va = false) : (State.estFrames s).v va i0 j0 = s.v va i0 j0 :=
  (Does.estFrames (Does.refl _ s) (Foot.le_refl _)).v hn _ _
@[simp] theorem State.part_estFrames (hn : Foot.estFrames.hasP pa = false) : (State.estFrames s).part pa = s.part pa :=
  (Does.estFrames (Does.refl _ s) (Foot.le_refl _)).parts pa hn
@[simp] theorem State.rd_slotSum (d : Nat) (slot : Nat) (hn : Foot.slotSum.hasR fl.r = false) : (State.slotSum s d slot).rd fl i0 j0 = s.rd fl i0 j0 :=
  (Does.slotSum (Does.refl _ s) (Foot.le_refl _) _ _).rd hn _ _
@[simp] theorem State.reg_slotSum (d : Nat) (slot : Nat) (hn : Foot.slotSum.hasR ra = false) : (State.slotSum s d slot).reg ra i0 j0 = s.reg ra i0 j0 :=
  (Does.slotSum (Does.refl _ s) (Foot.le_refl _) _ _).reg hn _ _
@[simp] theorem State.v_slotSum (d : Nat) (slot : Nat) (hn : Foot.slotSum.hasV va = false) : (State.slotSum s d slot).v va i0 j0 = s.v va i0 j0 :=
  (Does.slotSum (Does.refl _ s) (Foot.le_refl _) _ _).v hn _ _
@[simp] theorem State.part_slotSum (d : Nat) (slot : Nat) (hn : Foot.slotSum.hasP pa = false) : (State.slotSum s d slot).part pa = s.part pa :=
  (Does.slotSum (Does.refl _ s) (Foot.le_refl _) _ _).parts pa hn
@[simp] theorem State.rd_edpRun (j : Nat) (hn : Foot.edpRun.hasR fl.r = false) : (State.edpRun s j).rd fl i0 j0 = s.rd fl i0 j0 :=
  (Does.edpRun (Does.refl _ s) (Foot.le_refl _) _).rd hn _ _
@[simp] theorem State.reg_edpRun (j : Nat) (hn : Foot.edpRun.hasR ra = false) : (State.edpRun s j).reg ra i0 j0 = s.reg ra i0 j0 :=
  (Does.edpRun (Does.refl _ s) (Foot.le_refl _) _).reg hn _ _
@[simp] theorem State.v_edpRun (j : Nat) (hn : Foot.edpRun.hasV va = false) : (State.edpRun s j).v va i0 j0 = s.v va i0 j0 :=
  (Does.edpRun (Does.refl _ s) (Foot.le_refl _) _).v hn _ _
@[simp] theorem State.part_edpRun (j : Nat) (hn : Foot.edpRun.hasP pa = false) : (State.edpRun s j).part pa = s.part pa :=
  (Does.edpRun (Does.refl _ s) (Foot.le_refl _) _).parts pa hn
@[simp] theorem State.rd_gEnergy (i : Nat) (nj : Int) (hn : Foot.gEnergy.hasR fl.r = false) : (State.gEnergy s i nj).rd fl i0 j0 = s.rd fl i0 j0 :=
  (Does.gEnergy (Does.refl _ s) (Foot.le_refl _) _ _).rd hn _ _
@[simp] theorem State.reg_gEnergy (i : Nat) (nj : Int) (hn : Foot.gEnergy.hasR ra = false) : (State.gEnergy s i nj).reg ra i0 j0 = s.reg ra i0 j0 :=
  (Does.gEnergy (Does.refl _ s) (Foot.le_refl _) _ _).reg hn _ _
@[simp] theorem State.v_gEnergy (i : Nat) (nj : Int) (hn : Foot.gEnergy.hasV va = false) : (State.gEnergy s i nj).v va i0 j0 = s.v va i0 j0 :=
  (Does.gEnergy (Does.refl _ s) (Foot.le_refl _) _ _).v hn _ _
@[simp] theorem State.part_gEnergy (i : Nat) (nj : Int) (hn : Foot.gEnergy.hasP pa = false) : (State.gEnergy s i nj).part pa = s.part pa :=
  (Does.gEnergy (Does.refl _ s) (Foot.le_refl _) _ _).parts pa hn
@[simp] theorem State.rd_ivCounters (hn : Foot.ivCounters.hasR fl.r = false) : (State.ivCounters s).rd fl i0 j0 = s.rd fl i0 j0 :=
  (Does.ivCounters (Does.refl _ s) (Foot.le_refl _)).rd hn _ _
@[simp] theorem State.reg_ivCounters (hn : Foot.ivCounters.hasR ra = false) : (State.ivCounters s).reg ra i0 j0 = s.reg ra i0 j0 :=
  (Does.ivCounters (Does.refl _ s) (Foot.le_refl _)).reg hn _ _
@[simp] theorem State.v_ivCounters (hn : Foot.ivCounters.hasV va = false) : (State.ivCounters s).v va i0 j0 = s.v va i0 j0 :=
  (Does.ivCounters (Does.refl _ s) (Foot.le_refl _)).v hn _ _
@[simp] theorem State.part_ivCounters (hn : Foot.ivCounters.hasP pa = false) : (State.ivCounters s).part pa = s.part pa :=
  (Does.ivCounters (Does.refl _ s) (Foot.le_refl _)).parts pa hn
@[simp] theorem State.rd_ctxEnergy (from_ : Nat) (hn : Foot.ctxEnergy.hasR fl.r = false) : (State.ctxEnergy s from_).rd fl i0 j0 = s.rd fl i0 j0 :=
  (Does.ctxEnergy (Does.refl _ s) (Foot.le_refl _) _).rd hn _ _
@[simp] theorem State.reg_ctxEnergy (from_ : Nat) (hn : Foot.ctxEnergy.hasR ra = false) : (State.ctxEnergy s from_).reg ra i0 j0 = s.reg ra i0 j0 :=
  (Does.ctxEnergy (Does.refl _ s) (Foot.le_refl _) _).reg hn _ _
@[simp] theorem State.v_ctxEnergy (from_ : Nat) (hn : Foot.ctxEnergy.hasV va = false) : (State.ctxEnergy s from_).v va i0 j0 = s.v va i0 j0 :=
  (Does.ctxEnergy (Does.refl _ s) (Foot.le_refl _) _).v hn _ _
@[simp] theorem State.part_ctxEnergy (from_ : Nat) (hn : Foot.ctxEnergy.hasP pa = false) : (State.ctxEnergy s from_).part pa = s.part pa :=
  (Does.ctxEnergy (Does.refl _ s) (Foot.le_refl _) _).parts pa hn
@[simp] theorem State.rd_countFrames (hn : Foot.countFrames.hasR fl.r = false) : (State.countFrames s).rd fl i0 j0 = s.rd fl i0 j0 :=
  (Does.countFrames (Does.refl _ s) (Foot.le_refl _)).rd hn _ _
@[simp] theorem State.reg_countFrames (hn : Foot.countFrames.hasR ra = false) : (State.countFrames s).reg ra i0 j0 = s.reg ra i0 j0 :=
  (Does.countFrames (Does.refl _ s) (Foot.le_refl _)).reg hn _ _
@[simp] theorem State.v_countFrames (hn : Foot.countFrames.hasV va = false) : (State.countFrames s).v va i0 j0 = s.v va i0 j0 :=
  (Does.countFrames (Does.refl _ s) (Foot.le_refl _)).v hn _ _
@[simp] theorem State.part_countFrames (hn : Foot.countFrames.hasP pa = false) : (State.countFrames s).part pa = s.part pa :=
  (Does.countFrames (Does.refl _ s) (Foot.le_refl _)).parts pa hn
@[simp] theorem State.rd_hubInterval (j : Nat) (hn : Foot.hubInterval.hasR fl.r = false) : (State.hubInterval s j).rd fl i0 j0 = s.rd fl i0 j0 :=
  (Does.hubInterval (Does.refl _ s) (Foot.le_refl _) _).rd hn _ _
@[simp] theorem State.reg_hubInterval (j : Nat) (hn : Foot.hubInterval.hasR ra = false) : (State.hubInterval s j).reg ra i0 j0 = s.reg ra i0 j0 :=
  (Does.hubInterval (Does.refl _ s) (Foot.le_refl _) _).reg hn _ _
@[simp] theorem State.v_hubInterval (j : Nat) (hn : Foot.hubInterval.hasV va = false) : (State.hubInterval s j).v va i0 j0 = s.v va i0 j0 :=
  (Does.hubInterval (Does.refl _ s) (Foot.le_refl _) _).v hn _ _
@[simp] theorem State.part_hubInterval (j : Nat) (hn : Foot.hubInterval.hasP pa = false) : (State.hubInterval s j).part pa = s.part pa :=
  (Does.hubInterval (Does.refl _ s) (Foot.le_refl _) _).parts pa hn
@[simp] theorem State.rd_kneadRst (r : Nat) (hn : Foot.kneadRst.hasR fl.r = false) : (State.kneadRst s r).2.rd fl i0 j0 = s.rd fl i0 j0 :=
  (Does.kneadRst (Does.refl _ s) (Foot.le_refl _) _).rd hn _ _
@[simp] theorem State.reg_kneadRst (r : Nat) (hn : Foot.kneadRst.hasR ra = false) : (State.kneadRst s r).2.reg ra i0 j0 = s.reg ra i0 j0 :=
  (Does.kneadRst (Does.refl _ s) (Foot.le_refl _) _).reg hn _ _
@[simp] theorem State.v_kneadRst (r : Nat) (hn : Foot.kneadRst.hasV va = false) : (State.kneadRst s r).2.v va i0 j0 = s.v va i0 j0 :=
  (Does.kneadRst (Does.refl _ s) (Foot.le_refl _) _).v hn _ _
@[simp] theorem State.part_kneadRst (r : Nat) (hn : Foot.kneadRst.hasP pa = false) : (State.kneadRst s r).2.part pa = s.part pa :=
  (Does.kneadRst (Does.refl _ s) (Foot.le_refl _) _).parts pa hn
@[simp] theorem State.rd_budgetOn (d : Nat) (dest : Nat) (payload : Nat) (hn : Foot.budgetOn.hasR fl.r = false) : (State.budgetOn s d dest payload).rd fl i0 j0 = s.rd fl i0 j0 :=
  (Does.budgetOn (Does.refl _ s) (Foot.le_refl _) _ _ _).rd hn _ _
@[simp] theorem State.reg_budgetOn (d : Nat) (dest : Nat) (payload : Nat) (hn : Foot.budgetOn.hasR ra = false) : (State.budgetOn s d dest payload).reg ra i0 j0 = s.reg ra i0 j0 :=
  (Does.budgetOn (Does.refl _ s) (Foot.le_refl _) _ _ _).reg hn _ _
@[simp] theorem State.v_budgetOn (d : Nat) (dest : Nat) (payload : Nat) (hn : Foot.budgetOn.hasV va = false) : (State.budgetOn s d dest payload).v va i0 j0 = s.v va i0 j0 :=
  (Does.budgetOn (Does.refl _ s) (Foot.le_refl _) _ _ _).v hn _ _
@[simp] theorem State.part_budgetOn (d : Nat) (dest : Nat) (payload : Nat) (hn : Foot.budgetOn.hasP pa = false) : (State.budgetOn s d dest payload).part pa = s.part pa :=
  (Does.budgetOn (Does.refl _ s) (Foot.le_refl _) _ _ _).parts pa hn
@[simp] theorem State.rd_shareHold (l : Nat) (q : Nat) (b : Bool) (hn : Foot.shareHold.hasR fl.r = false) : (State.shareHold s l q b).rd fl i0 j0 = s.rd fl i0 j0 :=
  (Does.shareHold (Does.refl _ s) (Foot.le_refl _) _ _ _).rd hn _ _
@[simp] theorem State.reg_shareHold (l : Nat) (q : Nat) (b : Bool) (hn : Foot.shareHold.hasR ra = false) : (State.shareHold s l q b).reg ra i0 j0 = s.reg ra i0 j0 :=
  (Does.shareHold (Does.refl _ s) (Foot.le_refl _) _ _ _).reg hn _ _
@[simp] theorem State.v_shareHold (l : Nat) (q : Nat) (b : Bool) (hn : Foot.shareHold.hasV va = false) : (State.shareHold s l q b).v va i0 j0 = s.v va i0 j0 :=
  (Does.shareHold (Does.refl _ s) (Foot.le_refl _) _ _ _).v hn _ _
@[simp] theorem State.part_shareHold (l : Nat) (q : Nat) (b : Bool) (hn : Foot.shareHold.hasP pa = false) : (State.shareHold s l q b).part pa = s.part pa :=
  (Does.shareHold (Does.refl _ s) (Foot.le_refl _) _ _ _).parts pa hn
@[simp] theorem State.rd_gateFlag (l : Nat) (q : Nat) (hn : Foot.gateFlag.hasR fl.r = false) : (State.gateFlag s l q).rd fl i0 j0 = s.rd fl i0 j0 :=
  (Does.gateFlag (Does.refl _ s) (Foot.le_refl _) _ _).rd hn _ _
@[simp] theorem State.reg_gateFlag (l : Nat) (q : Nat) (hn : Foot.gateFlag.hasR ra = false) : (State.gateFlag s l q).reg ra i0 j0 = s.reg ra i0 j0 :=
  (Does.gateFlag (Does.refl _ s) (Foot.le_refl _) _ _).reg hn _ _
@[simp] theorem State.v_gateFlag (l : Nat) (q : Nat) (hn : Foot.gateFlag.hasV va = false) : (State.gateFlag s l q).v va i0 j0 = s.v va i0 j0 :=
  (Does.gateFlag (Does.refl _ s) (Foot.le_refl _) _ _).v hn _ _
@[simp] theorem State.part_gateFlag (l : Nat) (q : Nat) (hn : Foot.gateFlag.hasP pa = false) : (State.gateFlag s l q).part pa = s.part pa :=
  (Does.gateFlag (Does.refl _ s) (Foot.le_refl _) _ _).parts pa hn
@[simp] theorem State.rd_faultClear (l : Nat) (q : Nat) (low : Bool) (hn : Foot.faultClear.hasR fl.r = false) : (State.faultClear s l q low).rd fl i0 j0 = s.rd fl i0 j0 :=
  (Does.faultClear (Does.refl _ s) (Foot.le_refl _) _ _ _).rd hn _ _
@[simp] theorem State.reg_faultClear (l : Nat) (q : Nat) (low : Bool) (hn : Foot.faultClear.hasR ra = false) : (State.faultClear s l q low).reg ra i0 j0 = s.reg ra i0 j0 :=
  (Does.faultClear (Does.refl _ s) (Foot.le_refl _) _ _ _).reg hn _ _
@[simp] theorem State.v_faultClear (l : Nat) (q : Nat) (low : Bool) (hn : Foot.faultClear.hasV va = false) : (State.faultClear s l q low).v va i0 j0 = s.v va i0 j0 :=
  (Does.faultClear (Does.refl _ s) (Foot.le_refl _) _ _ _).v hn _ _
@[simp] theorem State.part_faultClear (l : Nat) (q : Nat) (low : Bool) (hn : Foot.faultClear.hasP pa = false) : (State.faultClear s l q low).part pa = s.part pa :=
  (Does.faultClear (Does.refl _ s) (Foot.le_refl _) _ _ _).parts pa hn
@[simp] theorem State.rd_cntTake (l : Nat) (reps : List Rep) (hn : Foot.cntTake.hasR fl.r = false) : (State.cntTake s l reps).rd fl i0 j0 = s.rd fl i0 j0 :=
  (Does.cntTake (Does.refl _ s) (Foot.le_refl _) _ _).rd hn _ _
@[simp] theorem State.reg_cntTake (l : Nat) (reps : List Rep) (hn : Foot.cntTake.hasR ra = false) : (State.cntTake s l reps).reg ra i0 j0 = s.reg ra i0 j0 :=
  (Does.cntTake (Does.refl _ s) (Foot.le_refl _) _ _).reg hn _ _
@[simp] theorem State.v_cntTake (l : Nat) (reps : List Rep) (hn : Foot.cntTake.hasV va = false) : (State.cntTake s l reps).v va i0 j0 = s.v va i0 j0 :=
  (Does.cntTake (Does.refl _ s) (Foot.le_refl _) _ _).v hn _ _
@[simp] theorem State.part_cntTake (l : Nat) (reps : List Rep) (hn : Foot.cntTake.hasP pa = false) : (State.cntTake s l reps).part pa = s.part pa :=
  (Does.cntTake (Does.refl _ s) (Foot.le_refl _) _ _).parts pa hn
@[simp] theorem State.rd_leafReports (l : Nat) (lk : Nat) (ctx : Nat) (seq : Nat) (late : Bool) (c : List (Nat × Nat × Nat)) (hn : Foot.leafReports.hasR fl.r = false) : (State.leafReports s l lk ctx seq late c).rd fl i0 j0 = s.rd fl i0 j0 :=
  (Does.leafReports (Does.refl _ s) (Foot.le_refl _) _ _ _ _ _ _).rd hn _ _
@[simp] theorem State.reg_leafReports (l : Nat) (lk : Nat) (ctx : Nat) (seq : Nat) (late : Bool) (c : List (Nat × Nat × Nat)) (hn : Foot.leafReports.hasR ra = false) : (State.leafReports s l lk ctx seq late c).reg ra i0 j0 = s.reg ra i0 j0 :=
  (Does.leafReports (Does.refl _ s) (Foot.le_refl _) _ _ _ _ _ _).reg hn _ _
@[simp] theorem State.v_leafReports (l : Nat) (lk : Nat) (ctx : Nat) (seq : Nat) (late : Bool) (c : List (Nat × Nat × Nat)) (hn : Foot.leafReports.hasV va = false) : (State.leafReports s l lk ctx seq late c).v va i0 j0 = s.v va i0 j0 :=
  (Does.leafReports (Does.refl _ s) (Foot.le_refl _) _ _ _ _ _ _).v hn _ _
@[simp] theorem State.part_leafReports (l : Nat) (lk : Nat) (ctx : Nat) (seq : Nat) (late : Bool) (c : List (Nat × Nat × Nat)) (hn : Foot.leafReports.hasP pa = false) : (State.leafReports s l lk ctx seq late c).part pa = s.part pa :=
  (Does.leafReports (Does.refl _ s) (Foot.le_refl _) _ _ _ _ _ _).parts pa hn
@[simp] theorem State.rd_latchTake (l : Nat) (w : Nat) (hn : Foot.latchTake.hasR fl.r = false) : (State.latchTake s l w).rd fl i0 j0 = s.rd fl i0 j0 :=
  (Does.latchTake (Does.refl _ s) (Foot.le_refl _) _ _).rd hn _ _
@[simp] theorem State.reg_latchTake (l : Nat) (w : Nat) (hn : Foot.latchTake.hasR ra = false) : (State.latchTake s l w).reg ra i0 j0 = s.reg ra i0 j0 :=
  (Does.latchTake (Does.refl _ s) (Foot.le_refl _) _ _).reg hn _ _
@[simp] theorem State.v_latchTake (l : Nat) (w : Nat) (hn : Foot.latchTake.hasV va = false) : (State.latchTake s l w).v va i0 j0 = s.v va i0 j0 :=
  (Does.latchTake (Does.refl _ s) (Foot.le_refl _) _ _).v hn _ _
@[simp] theorem State.part_latchTake (l : Nat) (w : Nat) (hn : Foot.latchTake.hasP pa = false) : (State.latchTake s l w).part pa = s.part pa :=
  (Does.latchTake (Does.refl _ s) (Foot.le_refl _) _ _).parts pa hn
@[simp] theorem State.rd_counterSend (n : Nat) (lk : Nat) (ctx : Nat) (seq : Nat) (hn : Foot.counterSend.hasR fl.r = false) : (State.counterSend s n lk ctx seq).rd fl i0 j0 = s.rd fl i0 j0 :=
  (Does.counterSend (Does.refl _ s) (Foot.le_refl _) _ _ _ _).rd hn _ _
@[simp] theorem State.reg_counterSend (n : Nat) (lk : Nat) (ctx : Nat) (seq : Nat) (hn : Foot.counterSend.hasR ra = false) : (State.counterSend s n lk ctx seq).reg ra i0 j0 = s.reg ra i0 j0 :=
  (Does.counterSend (Does.refl _ s) (Foot.le_refl _) _ _ _ _).reg hn _ _
@[simp] theorem State.v_counterSend (n : Nat) (lk : Nat) (ctx : Nat) (seq : Nat) (hn : Foot.counterSend.hasV va = false) : (State.counterSend s n lk ctx seq).v va i0 j0 = s.v va i0 j0 :=
  (Does.counterSend (Does.refl _ s) (Foot.le_refl _) _ _ _ _).v hn _ _
@[simp] theorem State.part_counterSend (n : Nat) (lk : Nat) (ctx : Nat) (seq : Nat) (hn : Foot.counterSend.hasP pa = false) : (State.counterSend s n lk ctx seq).part pa = s.part pa :=
  (Does.counterSend (Does.refl _ s) (Foot.le_refl _) _ _ _ _).parts pa hn
@[simp] theorem State.rd_counterForget (d : Nat) (child : Nat) (lk : Nat) (ctx : Nat) (seq : Nat) (hn : Foot.counterForget.hasR fl.r = false) : (State.counterForget s d child lk ctx seq).rd fl i0 j0 = s.rd fl i0 j0 :=
  (Does.counterForget (Does.refl _ s) (Foot.le_refl _) _ _ _ _ _).rd hn _ _
@[simp] theorem State.reg_counterForget (d : Nat) (child : Nat) (lk : Nat) (ctx : Nat) (seq : Nat) (hn : Foot.counterForget.hasR ra = false) : (State.counterForget s d child lk ctx seq).reg ra i0 j0 = s.reg ra i0 j0 :=
  (Does.counterForget (Does.refl _ s) (Foot.le_refl _) _ _ _ _ _).reg hn _ _
@[simp] theorem State.v_counterForget (d : Nat) (child : Nat) (lk : Nat) (ctx : Nat) (seq : Nat) (hn : Foot.counterForget.hasV va = false) : (State.counterForget s d child lk ctx seq).v va i0 j0 = s.v va i0 j0 :=
  (Does.counterForget (Does.refl _ s) (Foot.le_refl _) _ _ _ _ _).v hn _ _
@[simp] theorem State.part_counterForget (d : Nat) (child : Nat) (lk : Nat) (ctx : Nat) (seq : Nat) (hn : Foot.counterForget.hasP pa = false) : (State.counterForget s d child lk ctx seq).part pa = s.part pa :=
  (Does.counterForget (Does.refl _ s) (Foot.le_refl _) _ _ _ _ _).parts pa hn
@[simp] theorem State.rd_counterNode (n : Nat) (c : Nat) (lk : Nat) (cidx : Nat) (slot : Nat) (seq : Nat) (nleaf : Nat) (delta : Nat) (hn : Foot.counterNode.hasR fl.r = false) : (State.counterNode s n c lk cidx slot seq nleaf delta).rd fl i0 j0 = s.rd fl i0 j0 :=
  (Does.counterNode (Does.refl _ s) (Foot.le_refl _) _ _ _ _ _ _ _ _).rd hn _ _
@[simp] theorem State.reg_counterNode (n : Nat) (c : Nat) (lk : Nat) (cidx : Nat) (slot : Nat) (seq : Nat) (nleaf : Nat) (delta : Nat) (hn : Foot.counterNode.hasR ra = false) : (State.counterNode s n c lk cidx slot seq nleaf delta).reg ra i0 j0 = s.reg ra i0 j0 :=
  (Does.counterNode (Does.refl _ s) (Foot.le_refl _) _ _ _ _ _ _ _ _).reg hn _ _
@[simp] theorem State.v_counterNode (n : Nat) (c : Nat) (lk : Nat) (cidx : Nat) (slot : Nat) (seq : Nat) (nleaf : Nat) (delta : Nat) (hn : Foot.counterNode.hasV va = false) : (State.counterNode s n c lk cidx slot seq nleaf delta).v va i0 j0 = s.v va i0 j0 :=
  (Does.counterNode (Does.refl _ s) (Foot.le_refl _) _ _ _ _ _ _ _ _).v hn _ _
@[simp] theorem State.part_counterNode (n : Nat) (c : Nat) (lk : Nat) (cidx : Nat) (slot : Nat) (seq : Nat) (nleaf : Nat) (delta : Nat) (hn : Foot.counterNode.hasP pa = false) : (State.counterNode s n c lk cidx slot seq nleaf delta).part pa = s.part pa :=
  (Does.counterNode (Does.refl _ s) (Foot.le_refl _) _ _ _ _ _ _ _ _).parts pa hn
@[simp] theorem State.rd_smpAdd (k : Nat) (cidx : Nat) (c : Nat) (delta : Nat) (hn : Foot.smpAdd.hasR fl.r = false) : (State.smpAdd s k cidx c delta).rd fl i0 j0 = s.rd fl i0 j0 :=
  (Does.smpAdd (Does.refl _ s) (Foot.le_refl _) _ _ _ _).rd hn _ _
@[simp] theorem State.reg_smpAdd (k : Nat) (cidx : Nat) (c : Nat) (delta : Nat) (hn : Foot.smpAdd.hasR ra = false) : (State.smpAdd s k cidx c delta).reg ra i0 j0 = s.reg ra i0 j0 :=
  (Does.smpAdd (Does.refl _ s) (Foot.le_refl _) _ _ _ _).reg hn _ _
@[simp] theorem State.v_smpAdd (k : Nat) (cidx : Nat) (c : Nat) (delta : Nat) (hn : Foot.smpAdd.hasV va = false) : (State.smpAdd s k cidx c delta).v va i0 j0 = s.v va i0 j0 :=
  (Does.smpAdd (Does.refl _ s) (Foot.le_refl _) _ _ _ _).v hn _ _
@[simp] theorem State.part_smpAdd (k : Nat) (cidx : Nat) (c : Nat) (delta : Nat) (hn : Foot.smpAdd.hasP pa = false) : (State.smpAdd s k cidx c delta).part pa = s.part pa :=
  (Does.smpAdd (Does.refl _ s) (Foot.le_refl _) _ _ _ _).parts pa hn
@[simp] theorem State.rd_winReport (k : Nat) (cidx : Nat) (slot : Nat) (delta : Nat) (hn : Foot.winReport.hasR fl.r = false) : (State.winReport s k cidx slot delta).rd fl i0 j0 = s.rd fl i0 j0 :=
  (Does.winReport (Does.refl _ s) (Foot.le_refl _) _ _ _ _).rd hn _ _
@[simp] theorem State.reg_winReport (k : Nat) (cidx : Nat) (slot : Nat) (delta : Nat) (hn : Foot.winReport.hasR ra = false) : (State.winReport s k cidx slot delta).reg ra i0 j0 = s.reg ra i0 j0 :=
  (Does.winReport (Does.refl _ s) (Foot.le_refl _) _ _ _ _).reg hn _ _
@[simp] theorem State.v_winReport (k : Nat) (cidx : Nat) (slot : Nat) (delta : Nat) (hn : Foot.winReport.hasV va = false) : (State.winReport s k cidx slot delta).v va i0 j0 = s.v va i0 j0 :=
  (Does.winReport (Does.refl _ s) (Foot.le_refl _) _ _ _ _).v hn _ _
@[simp] theorem State.part_winReport (k : Nat) (cidx : Nat) (slot : Nat) (delta : Nat) (hn : Foot.winReport.hasP pa = false) : (State.winReport s k cidx slot delta).part pa = s.part pa :=
  (Does.winReport (Does.refl _ s) (Foot.le_refl _) _ _ _ _).parts pa hn
@[simp] theorem State.rd_latchSet (p : LatchPt) (hn : Foot.latchSet.hasR fl.r = false) : (State.latchSet s p).rd fl i0 j0 = s.rd fl i0 j0 :=
  (Does.latchSet (Does.refl _ s) (Foot.le_refl _) _).rd hn _ _
@[simp] theorem State.reg_latchSet (p : LatchPt) (hn : Foot.latchSet.hasR ra = false) : (State.latchSet s p).reg ra i0 j0 = s.reg ra i0 j0 :=
  (Does.latchSet (Does.refl _ s) (Foot.le_refl _) _).reg hn _ _
@[simp] theorem State.v_latchSet (p : LatchPt) (hn : Foot.latchSet.hasV va = false) : (State.latchSet s p).v va i0 j0 = s.v va i0 j0 :=
  (Does.latchSet (Does.refl _ s) (Foot.le_refl _) _).v hn _ _
@[simp] theorem State.part_latchSet (p : LatchPt) (hn : Foot.latchSet.hasP pa = false) : (State.latchSet s p).part pa = s.part pa :=
  (Does.latchSet (Does.refl _ s) (Foot.le_refl _) _).parts pa hn
@[simp] theorem State.rd_counterHub (c : Nat) (lk : Nat) (cidx : Nat) (slot : Nat) (seq : Nat) (delta : Nat) (hn : Foot.counterHub.hasR fl.r = false) : (State.counterHub s c lk cidx slot seq delta).rd fl i0 j0 = s.rd fl i0 j0 :=
  (Does.counterHub (Does.refl _ s) (Foot.le_refl _) _ _ _ _ _ _).rd hn _ _
@[simp] theorem State.reg_counterHub (c : Nat) (lk : Nat) (cidx : Nat) (slot : Nat) (seq : Nat) (delta : Nat) (hn : Foot.counterHub.hasR ra = false) : (State.counterHub s c lk cidx slot seq delta).reg ra i0 j0 = s.reg ra i0 j0 :=
  (Does.counterHub (Does.refl _ s) (Foot.le_refl _) _ _ _ _ _ _).reg hn _ _
@[simp] theorem State.v_counterHub (c : Nat) (lk : Nat) (cidx : Nat) (slot : Nat) (seq : Nat) (delta : Nat) (hn : Foot.counterHub.hasV va = false) : (State.counterHub s c lk cidx slot seq delta).v va i0 j0 = s.v va i0 j0 :=
  (Does.counterHub (Does.refl _ s) (Foot.le_refl _) _ _ _ _ _ _).v hn _ _
@[simp] theorem State.part_counterHub (c : Nat) (lk : Nat) (cidx : Nat) (slot : Nat) (seq : Nat) (delta : Nat) (hn : Foot.counterHub.hasP pa = false) : (State.counterHub s c lk cidx slot seq delta).part pa = s.part pa :=
  (Does.counterHub (Does.refl _ s) (Foot.le_refl _) _ _ _ _ _ _).parts pa hn
@[simp] theorem State.rd_latchWrite (p : Port) (page : Option Nat) (c : Nat) (op : Nat) (k : Nat) (addr : Nat) (hn : Foot.latchWrite.hasR fl.r = false) : (State.latchWrite s p page c op k addr).rd fl i0 j0 = s.rd fl i0 j0 :=
  (Does.latchWrite (Does.refl _ s) (Foot.le_refl _) _ _ _ _ _ _).rd hn _ _
@[simp] theorem State.reg_latchWrite (p : Port) (page : Option Nat) (c : Nat) (op : Nat) (k : Nat) (addr : Nat) (hn : Foot.latchWrite.hasR ra = false) : (State.latchWrite s p page c op k addr).reg ra i0 j0 = s.reg ra i0 j0 :=
  (Does.latchWrite (Does.refl _ s) (Foot.le_refl _) _ _ _ _ _ _).reg hn _ _
@[simp] theorem State.v_latchWrite (p : Port) (page : Option Nat) (c : Nat) (op : Nat) (k : Nat) (addr : Nat) (hn : Foot.latchWrite.hasV va = false) : (State.latchWrite s p page c op k addr).v va i0 j0 = s.v va i0 j0 :=
  (Does.latchWrite (Does.refl _ s) (Foot.le_refl _) _ _ _ _ _ _).v hn _ _
@[simp] theorem State.part_latchWrite (p : Port) (page : Option Nat) (c : Nat) (op : Nat) (k : Nat) (addr : Nat) (hn : Foot.latchWrite.hasP pa = false) : (State.latchWrite s p page c op k addr).part pa = s.part pa :=
  (Does.latchWrite (Does.refl _ s) (Foot.le_refl _) _ _ _ _ _ _).parts pa hn
@[simp] theorem State.rd_telBody (hn : Foot.telBody.hasR fl.r = false) : (State.telBody s).2.rd fl i0 j0 = s.rd fl i0 j0 :=
  (Does.telBody (Does.refl _ s) (Foot.le_refl _)).rd hn _ _
@[simp] theorem State.reg_telBody (hn : Foot.telBody.hasR ra = false) : (State.telBody s).2.reg ra i0 j0 = s.reg ra i0 j0 :=
  (Does.telBody (Does.refl _ s) (Foot.le_refl _)).reg hn _ _
@[simp] theorem State.v_telBody (hn : Foot.telBody.hasV va = false) : (State.telBody s).2.v va i0 j0 = s.v va i0 j0 :=
  (Does.telBody (Does.refl _ s) (Foot.le_refl _)).v hn _ _
@[simp] theorem State.part_telBody (hn : Foot.telBody.hasP pa = false) : (State.telBody s).2.part pa = s.part pa :=
  (Does.telBody (Does.refl _ s) (Foot.le_refl _)).parts pa hn
@[simp] theorem State.rd_ringAWrite (n : Nat) (w : Nat) (hn : Foot.ringAWrite.hasR fl.r = false) : (State.ringAWrite s n w).2.rd fl i0 j0 = s.rd fl i0 j0 :=
  (Does.ringAWrite (Does.refl _ s) (Foot.le_refl _) _ _).rd hn _ _
@[simp] theorem State.reg_ringAWrite (n : Nat) (w : Nat) (hn : Foot.ringAWrite.hasR ra = false) : (State.ringAWrite s n w).2.reg ra i0 j0 = s.reg ra i0 j0 :=
  (Does.ringAWrite (Does.refl _ s) (Foot.le_refl _) _ _).reg hn _ _
@[simp] theorem State.v_ringAWrite (n : Nat) (w : Nat) (hn : Foot.ringAWrite.hasV va = false) : (State.ringAWrite s n w).2.v va i0 j0 = s.v va i0 j0 :=
  (Does.ringAWrite (Does.refl _ s) (Foot.le_refl _) _ _).v hn _ _
@[simp] theorem State.part_ringAWrite (n : Nat) (w : Nat) (hn : Foot.ringAWrite.hasP pa = false) : (State.ringAWrite s n w).2.part pa = s.part pa :=
  (Does.ringAWrite (Does.refl _ s) (Foot.le_refl _) _ _).parts pa hn
@[simp] theorem State.rd_eventMsg (e : ChEnd) (code : Nat) (inst : Nat) (detail : Nat) (lvl : Bool) (rsvd : Bool) (hn : Foot.eventMsg.hasR fl.r = false) : (State.eventMsg s e code inst detail lvl rsvd).rd fl i0 j0 = s.rd fl i0 j0 :=
  (Does.eventMsg (Does.refl _ s) (Foot.le_refl _) _ _ _ _ _ _).rd hn _ _
@[simp] theorem State.reg_eventMsg (e : ChEnd) (code : Nat) (inst : Nat) (detail : Nat) (lvl : Bool) (rsvd : Bool) (hn : Foot.eventMsg.hasR ra = false) : (State.eventMsg s e code inst detail lvl rsvd).reg ra i0 j0 = s.reg ra i0 j0 :=
  (Does.eventMsg (Does.refl _ s) (Foot.le_refl _) _ _ _ _ _ _).reg hn _ _
@[simp] theorem State.v_eventMsg (e : ChEnd) (code : Nat) (inst : Nat) (detail : Nat) (lvl : Bool) (rsvd : Bool) (hn : Foot.eventMsg.hasV va = false) : (State.eventMsg s e code inst detail lvl rsvd).v va i0 j0 = s.v va i0 j0 :=
  (Does.eventMsg (Does.refl _ s) (Foot.le_refl _) _ _ _ _ _ _).v hn _ _
@[simp] theorem State.part_eventMsg (e : ChEnd) (code : Nat) (inst : Nat) (detail : Nat) (lvl : Bool) (rsvd : Bool) (hn : Foot.eventMsg.hasP pa = false) : (State.eventMsg s e code inst detail lvl rsvd).part pa = s.part pa :=
  (Does.eventMsg (Does.refl _ s) (Foot.le_refl _) _ _ _ _ _ _).parts pa hn
@[simp] theorem State.rd_acknowledge (k : Nat) (hn : Foot.acknowledge.hasR fl.r = false) : (State.acknowledge s k).2.rd fl i0 j0 = s.rd fl i0 j0 :=
  (Does.acknowledge (Does.refl _ s) (Foot.le_refl _) _).rd hn _ _
@[simp] theorem State.reg_acknowledge (k : Nat) (hn : Foot.acknowledge.hasR ra = false) : (State.acknowledge s k).2.reg ra i0 j0 = s.reg ra i0 j0 :=
  (Does.acknowledge (Does.refl _ s) (Foot.le_refl _) _).reg hn _ _
@[simp] theorem State.v_acknowledge (k : Nat) (hn : Foot.acknowledge.hasV va = false) : (State.acknowledge s k).2.v va i0 j0 = s.v va i0 j0 :=
  (Does.acknowledge (Does.refl _ s) (Foot.le_refl _) _).v hn _ _
@[simp] theorem State.part_acknowledge (k : Nat) (hn : Foot.acknowledge.hasP pa = false) : (State.acknowledge s k).2.part pa = s.part pa :=
  (Does.acknowledge (Does.refl _ s) (Foot.le_refl _) _).parts pa hn
@[simp] theorem State.rd_nestFault (k : Nat) (x : Nat) (hn : Foot.nestFault.hasR fl.r = false) : (State.nestFault s k x).rd fl i0 j0 = s.rd fl i0 j0 :=
  (Does.nestFault (Does.refl _ s) (Foot.le_refl _) _ _).rd hn _ _
@[simp] theorem State.reg_nestFault (k : Nat) (x : Nat) (hn : Foot.nestFault.hasR ra = false) : (State.nestFault s k x).reg ra i0 j0 = s.reg ra i0 j0 :=
  (Does.nestFault (Does.refl _ s) (Foot.le_refl _) _ _).reg hn _ _
@[simp] theorem State.v_nestFault (k : Nat) (x : Nat) (hn : Foot.nestFault.hasV va = false) : (State.nestFault s k x).v va i0 j0 = s.v va i0 j0 :=
  (Does.nestFault (Does.refl _ s) (Foot.le_refl _) _ _).v hn _ _
@[simp] theorem State.part_nestFault (k : Nat) (x : Nat) (hn : Foot.nestFault.hasP pa = false) : (State.nestFault s k x).part pa = s.part pa :=
  (Does.nestFault (Does.refl _ s) (Foot.le_refl _) _ _).parts pa hn
@[simp] theorem State.rd_complete (k : Nat) (x : Nat) (hn : Foot.complete.hasR fl.r = false) : (State.complete s k x).2.rd fl i0 j0 = s.rd fl i0 j0 :=
  (Does.complete (Does.refl _ s) (Foot.le_refl _) _ _).rd hn _ _
@[simp] theorem State.reg_complete (k : Nat) (x : Nat) (hn : Foot.complete.hasR ra = false) : (State.complete s k x).2.reg ra i0 j0 = s.reg ra i0 j0 :=
  (Does.complete (Does.refl _ s) (Foot.le_refl _) _ _).reg hn _ _
@[simp] theorem State.v_complete (k : Nat) (x : Nat) (hn : Foot.complete.hasV va = false) : (State.complete s k x).2.v va i0 j0 = s.v va i0 j0 :=
  (Does.complete (Does.refl _ s) (Foot.le_refl _) _ _).v hn _ _
@[simp] theorem State.part_complete (k : Nat) (x : Nat) (hn : Foot.complete.hasP pa = false) : (State.complete s k x).2.part pa = s.part pa :=
  (Does.complete (Does.refl _ s) (Foot.le_refl _) _ _).parts pa hn
@[simp] theorem State.rd_popTo (k : Nat) (keep : Nat) (hn : Foot.popTo.hasR fl.r = false) : (State.popTo s k keep).rd fl i0 j0 = s.rd fl i0 j0 :=
  (Does.popTo (Does.refl _ s) (Foot.le_refl _) _ _).rd hn _ _
@[simp] theorem State.reg_popTo (k : Nat) (keep : Nat) (hn : Foot.popTo.hasR ra = false) : (State.popTo s k keep).reg ra i0 j0 = s.reg ra i0 j0 :=
  (Does.popTo (Does.refl _ s) (Foot.le_refl _) _ _).reg hn _ _
@[simp] theorem State.v_popTo (k : Nat) (keep : Nat) (hn : Foot.popTo.hasV va = false) : (State.popTo s k keep).v va i0 j0 = s.v va i0 j0 :=
  (Does.popTo (Does.refl _ s) (Foot.le_refl _) _ _).v hn _ _
@[simp] theorem State.part_popTo (k : Nat) (keep : Nat) (hn : Foot.popTo.hasP pa = false) : (State.popTo s k keep).part pa = s.part pa :=
  (Does.popTo (Does.refl _ s) (Foot.le_refl _) _ _).parts pa hn
@[simp] theorem State.rd_recover (k : Nat) (cmd : Nat) (x : Nat) (hn : Foot.recover.hasR fl.r = false) : (State.recover s k cmd x).2.rd fl i0 j0 = s.rd fl i0 j0 :=
  (Does.recover (Does.refl _ s) (Foot.le_refl _) _ _ _).rd hn _ _
@[simp] theorem State.reg_recover (k : Nat) (cmd : Nat) (x : Nat) (hn : Foot.recover.hasR ra = false) : (State.recover s k cmd x).2.reg ra i0 j0 = s.reg ra i0 j0 :=
  (Does.recover (Does.refl _ s) (Foot.le_refl _) _ _ _).reg hn _ _
@[simp] theorem State.v_recover (k : Nat) (cmd : Nat) (x : Nat) (hn : Foot.recover.hasV va = false) : (State.recover s k cmd x).2.v va i0 j0 = s.v va i0 j0 :=
  (Does.recover (Does.refl _ s) (Foot.le_refl _) _ _ _).v hn _ _
@[simp] theorem State.part_recover (k : Nat) (cmd : Nat) (x : Nat) (hn : Foot.recover.hasP pa = false) : (State.recover s k cmd x).2.part pa = s.part pa :=
  (Does.recover (Does.refl _ s) (Foot.le_refl _) _ _ _).parts pa hn
@[simp] theorem State.rd_srcStateWrite (k : Nat) (w : Nat) (hn : Foot.srcStateWrite.hasR fl.r = false) : (State.srcStateWrite s k w).2.rd fl i0 j0 = s.rd fl i0 j0 :=
  (Does.srcStateWrite (Does.refl _ s) (Foot.le_refl _) _ _).rd hn _ _
@[simp] theorem State.reg_srcStateWrite (k : Nat) (w : Nat) (hn : Foot.srcStateWrite.hasR ra = false) : (State.srcStateWrite s k w).2.reg ra i0 j0 = s.reg ra i0 j0 :=
  (Does.srcStateWrite (Does.refl _ s) (Foot.le_refl _) _ _).reg hn _ _
@[simp] theorem State.v_srcStateWrite (k : Nat) (w : Nat) (hn : Foot.srcStateWrite.hasV va = false) : (State.srcStateWrite s k w).2.v va i0 j0 = s.v va i0 j0 :=
  (Does.srcStateWrite (Does.refl _ s) (Foot.le_refl _) _ _).v hn _ _
@[simp] theorem State.part_srcStateWrite (k : Nat) (w : Nat) (hn : Foot.srcStateWrite.hasP pa = false) : (State.srcStateWrite s k w).2.part pa = s.part pa :=
  (Does.srcStateWrite (Does.refl _ s) (Foot.le_refl _) _ _).parts pa hn
@[simp] theorem State.rd_srcCfgWrite (k : Nat) (w : Nat) (hn : Foot.srcCfgWrite.hasR fl.r = false) : (State.srcCfgWrite s k w).2.rd fl i0 j0 = s.rd fl i0 j0 :=
  (Does.srcCfgWrite (Does.refl _ s) (Foot.le_refl _) _ _).rd hn _ _
@[simp] theorem State.reg_srcCfgWrite (k : Nat) (w : Nat) (hn : Foot.srcCfgWrite.hasR ra = false) : (State.srcCfgWrite s k w).2.reg ra i0 j0 = s.reg ra i0 j0 :=
  (Does.srcCfgWrite (Does.refl _ s) (Foot.le_refl _) _ _).reg hn _ _
@[simp] theorem State.v_srcCfgWrite (k : Nat) (w : Nat) (hn : Foot.srcCfgWrite.hasV va = false) : (State.srcCfgWrite s k w).2.v va i0 j0 = s.v va i0 j0 :=
  (Does.srcCfgWrite (Does.refl _ s) (Foot.le_refl _) _ _).v hn _ _
@[simp] theorem State.part_srcCfgWrite (k : Nat) (w : Nat) (hn : Foot.srcCfgWrite.hasP pa = false) : (State.srcCfgWrite s k w).2.part pa = s.part pa :=
  (Does.srcCfgWrite (Does.refl _ s) (Foot.le_refl _) _ _).parts pa hn
@[simp] theorem State.rd_prigroupSet (g : Nat) (hn : Foot.prigroupSet.hasR fl.r = false) : (State.prigroupSet s g).2.rd fl i0 j0 = s.rd fl i0 j0 :=
  (Does.prigroupSet (Does.refl _ s) (Foot.le_refl _) _).rd hn _ _
@[simp] theorem State.reg_prigroupSet (g : Nat) (hn : Foot.prigroupSet.hasR ra = false) : (State.prigroupSet s g).2.reg ra i0 j0 = s.reg ra i0 j0 :=
  (Does.prigroupSet (Does.refl _ s) (Foot.le_refl _) _).reg hn _ _
@[simp] theorem State.v_prigroupSet (g : Nat) (hn : Foot.prigroupSet.hasV va = false) : (State.prigroupSet s g).2.v va i0 j0 = s.v va i0 j0 :=
  (Does.prigroupSet (Does.refl _ s) (Foot.le_refl _) _).v hn _ _
@[simp] theorem State.part_prigroupSet (g : Nat) (hn : Foot.prigroupSet.hasP pa = false) : (State.prigroupSet s g).2.part pa = s.part pa :=
  (Does.prigroupSet (Does.refl _ s) (Foot.le_refl _) _).parts pa hn
@[simp] theorem State.rd_grpWrite (g : Nat) (cnt : Nat) (us : Nat) (hn : Foot.grpWrite.hasR fl.r = false) : (State.grpWrite s g cnt us).2.rd fl i0 j0 = s.rd fl i0 j0 :=
  (Does.grpWrite (Does.refl _ s) (Foot.le_refl _) _ _ _).rd hn _ _
@[simp] theorem State.reg_grpWrite (g : Nat) (cnt : Nat) (us : Nat) (hn : Foot.grpWrite.hasR ra = false) : (State.grpWrite s g cnt us).2.reg ra i0 j0 = s.reg ra i0 j0 :=
  (Does.grpWrite (Does.refl _ s) (Foot.le_refl _) _ _ _).reg hn _ _
@[simp] theorem State.v_grpWrite (g : Nat) (cnt : Nat) (us : Nat) (hn : Foot.grpWrite.hasV va = false) : (State.grpWrite s g cnt us).2.v va i0 j0 = s.v va i0 j0 :=
  (Does.grpWrite (Does.refl _ s) (Foot.le_refl _) _ _ _).v hn _ _
@[simp] theorem State.part_grpWrite (g : Nat) (cnt : Nat) (us : Nat) (hn : Foot.grpWrite.hasP pa = false) : (State.grpWrite s g cnt us).2.part pa = s.part pa :=
  (Does.grpWrite (Does.refl _ s) (Foot.le_refl _) _ _ _).parts pa hn

end Sys2Proof.Machine
end

