-- ==== Sys2Proof/Laws/ReadsF.lean ====
section
/-!
SUPPORT. What work outside whose footprint a register or a variable lies leaves of its reads, for the operations of FootF.
-/
namespace Sys2Proof.Machine

variable {s : State} {fl : Fld} {ra : Reg} {va : Var} {pa : Part} {i0 j0 : Nat}

@[simp] theorem State.rd_copyTick (hn : Foot.copyTick.hasR fl.r = false) : (State.copyTick s).rd fl i0 j0 = s.rd fl i0 j0 :=
  (Does.copyTick (Does.refl _ s) (Foot.le_refl _)).rd hn _ _
@[simp] theorem State.reg_copyTick (hn : Foot.copyTick.hasR ra = false) : (State.copyTick s).reg ra i0 j0 = s.reg ra i0 j0 :=
  (Does.copyTick (Does.refl _ s) (Foot.le_refl _)).reg hn _ _
@[simp] theorem State.v_copyTick (hn : Foot.copyTick.hasV va = false) : (State.copyTick s).v va i0 j0 = s.v va i0 j0 :=
  (Does.copyTick (Does.refl _ s) (Foot.le_refl _)).v hn _ _
@[simp] theorem State.part_copyTick (hn : Foot.copyTick.hasP pa = false) : (State.copyTick s).part pa = s.part pa :=
  (Does.copyTick (Does.refl _ s) (Foot.le_refl _)).parts pa hn
@[simp] theorem State.rd_copyLazy (hn : Foot.copyLazy.hasR fl.r = false) : (State.copyLazy s).rd fl i0 j0 = s.rd fl i0 j0 :=
  (Does.copyLazy (Does.refl _ s) (Foot.le_refl _)).rd hn _ _
@[simp] theorem State.reg_copyLazy (hn : Foot.copyLazy.hasR ra = false) : (State.copyLazy s).reg ra i0 j0 = s.reg ra i0 j0 :=
  (Does.copyLazy (Does.refl _ s) (Foot.le_refl _)).reg hn _ _
@[simp] theorem State.v_copyLazy (hn : Foot.copyLazy.hasV va = false) : (State.copyLazy s).v va i0 j0 = s.v va i0 j0 :=
  (Does.copyLazy (Does.refl _ s) (Foot.le_refl _)).v hn _ _
@[simp] theorem State.part_copyLazy (hn : Foot.copyLazy.hasP pa = false) : (State.copyLazy s).part pa = s.part pa :=
  (Does.copyLazy (Does.refl _ s) (Foot.le_refl _)).parts pa hn
@[simp] theorem State.rd_tickRestore (hn : Foot.tickRestore.hasR fl.r = false) : (State.tickRestore s).rd fl i0 j0 = s.rd fl i0 j0 :=
  (Does.tickRestore (Does.refl _ s) (Foot.le_refl _)).rd hn _ _
@[simp] theorem State.reg_tickRestore (hn : Foot.tickRestore.hasR ra = false) : (State.tickRestore s).reg ra i0 j0 = s.reg ra i0 j0 :=
  (Does.tickRestore (Does.refl _ s) (Foot.le_refl _)).reg hn _ _
@[simp] theorem State.v_tickRestore (hn : Foot.tickRestore.hasV va = false) : (State.tickRestore s).v va i0 j0 = s.v va i0 j0 :=
  (Does.tickRestore (Does.refl _ s) (Foot.le_refl _)).v hn _ _
@[simp] theorem State.part_tickRestore (hn : Foot.tickRestore.hasP pa = false) : (State.tickRestore s).part pa = s.part pa :=
  (Does.tickRestore (Does.refl _ s) (Foot.le_refl _)).parts pa hn
@[simp] theorem State.rd_lazyRestore (hn : Foot.lazyRestore.hasR fl.r = false) : (State.lazyRestore s).rd fl i0 j0 = s.rd fl i0 j0 :=
  (Does.lazyRestore (Does.refl _ s) (Foot.le_refl _)).rd hn _ _
@[simp] theorem State.reg_lazyRestore (hn : Foot.lazyRestore.hasR ra = false) : (State.lazyRestore s).reg ra i0 j0 = s.reg ra i0 j0 :=
  (Does.lazyRestore (Does.refl _ s) (Foot.le_refl _)).reg hn _ _
@[simp] theorem State.v_lazyRestore (hn : Foot.lazyRestore.hasV va = false) : (State.lazyRestore s).v va i0 j0 = s.v va i0 j0 :=
  (Does.lazyRestore (Does.refl _ s) (Foot.le_refl _)).v hn _ _
@[simp] theorem State.part_lazyRestore (hn : Foot.lazyRestore.hasP pa = false) : (State.lazyRestore s).part pa = s.part pa :=
  (Does.lazyRestore (Does.refl _ s) (Foot.le_refl _)).parts pa hn
@[simp] theorem State.rd_mirDetached (hn : Foot.mirDetached.hasR fl.r = false) : (State.mirDetached s).rd fl i0 j0 = s.rd fl i0 j0 :=
  (Does.mirDetached (Does.refl _ s) (Foot.le_refl _)).rd hn _ _
@[simp] theorem State.reg_mirDetached (hn : Foot.mirDetached.hasR ra = false) : (State.mirDetached s).reg ra i0 j0 = s.reg ra i0 j0 :=
  (Does.mirDetached (Does.refl _ s) (Foot.le_refl _)).reg hn _ _
@[simp] theorem State.v_mirDetached (hn : Foot.mirDetached.hasV va = false) : (State.mirDetached s).v va i0 j0 = s.v va i0 j0 :=
  (Does.mirDetached (Does.refl _ s) (Foot.le_refl _)).v hn _ _
@[simp] theorem State.part_mirDetached (hn : Foot.mirDetached.hasP pa = false) : (State.mirDetached s).part pa = s.part pa :=
  (Does.mirDetached (Does.refl _ s) (Foot.le_refl _)).parts pa hn
@[simp] theorem State.rd_mirRefuse (hn : Foot.mirRefuse.hasR fl.r = false) : (State.mirRefuse s).rd fl i0 j0 = s.rd fl i0 j0 :=
  (Does.mirRefuse (Does.refl _ s) (Foot.le_refl _)).rd hn _ _
@[simp] theorem State.reg_mirRefuse (hn : Foot.mirRefuse.hasR ra = false) : (State.mirRefuse s).reg ra i0 j0 = s.reg ra i0 j0 :=
  (Does.mirRefuse (Does.refl _ s) (Foot.le_refl _)).reg hn _ _
@[simp] theorem State.v_mirRefuse (hn : Foot.mirRefuse.hasV va = false) : (State.mirRefuse s).v va i0 j0 = s.v va i0 j0 :=
  (Does.mirRefuse (Does.refl _ s) (Foot.le_refl _)).v hn _ _
@[simp] theorem State.part_mirRefuse (hn : Foot.mirRefuse.hasP pa = false) : (State.mirRefuse s).part pa = s.part pa :=
  (Does.mirRefuse (Does.refl _ s) (Foot.le_refl _)).parts pa hn
@[simp] theorem State.rd_mirLosses (hn : Foot.mirLosses.hasR fl.r = false) : (State.mirLosses s).rd fl i0 j0 = s.rd fl i0 j0 :=
  (Does.mirLosses (Does.refl _ s) (Foot.le_refl _)).rd hn _ _
@[simp] theorem State.reg_mirLosses (hn : Foot.mirLosses.hasR ra = false) : (State.mirLosses s).reg ra i0 j0 = s.reg ra i0 j0 :=
  (Does.mirLosses (Does.refl _ s) (Foot.le_refl _)).reg hn _ _
@[simp] theorem State.v_mirLosses (hn : Foot.mirLosses.hasV va = false) : (State.mirLosses s).v va i0 j0 = s.v va i0 j0 :=
  (Does.mirLosses (Does.refl _ s) (Foot.le_refl _)).v hn _ _
@[simp] theorem State.part_mirLosses (hn : Foot.mirLosses.hasP pa = false) : (State.mirLosses s).part pa = s.part pa :=
  (Does.mirLosses (Does.refl _ s) (Foot.le_refl _)).parts pa hn
@[simp] theorem State.rd_certSwap (hn : Foot.certSwap.hasR fl.r = false) : (State.certSwap s).rd fl i0 j0 = s.rd fl i0 j0 :=
  (Does.certSwap (Does.refl _ s) (Foot.le_refl _)).rd hn _ _
@[simp] theorem State.reg_certSwap (hn : Foot.certSwap.hasR ra = false) : (State.certSwap s).reg ra i0 j0 = s.reg ra i0 j0 :=
  (Does.certSwap (Does.refl _ s) (Foot.le_refl _)).reg hn _ _
@[simp] theorem State.v_certSwap (hn : Foot.certSwap.hasV va = false) : (State.certSwap s).v va i0 j0 = s.v va i0 j0 :=
  (Does.certSwap (Does.refl _ s) (Foot.le_refl _)).v hn _ _
@[simp] theorem State.part_certSwap (hn : Foot.certSwap.hasP pa = false) : (State.certSwap s).part pa = s.part pa :=
  (Does.certSwap (Does.refl _ s) (Foot.le_refl _)).parts pa hn
@[simp] theorem State.rd_idSwap (new : Nat) (hn : Foot.idSwap.hasR fl.r = false) : (State.idSwap s new).rd fl i0 j0 = s.rd fl i0 j0 :=
  (Does.idSwap (Does.refl _ s) (Foot.le_refl _) _).rd hn _ _
@[simp] theorem State.reg_idSwap (new : Nat) (hn : Foot.idSwap.hasR ra = false) : (State.idSwap s new).reg ra i0 j0 = s.reg ra i0 j0 :=
  (Does.idSwap (Does.refl _ s) (Foot.le_refl _) _).reg hn _ _
@[simp] theorem State.v_idSwap (new : Nat) (hn : Foot.idSwap.hasV va = false) : (State.idSwap s new).v va i0 j0 = s.v va i0 j0 :=
  (Does.idSwap (Does.refl _ s) (Foot.le_refl _) _).v hn _ _
@[simp] theorem State.part_idSwap (new : Nat) (hn : Foot.idSwap.hasP pa = false) : (State.idSwap s new).part pa = s.part pa :=
  (Does.idSwap (Does.refl _ s) (Foot.le_refl _) _).parts pa hn
@[simp] theorem State.rd_takeover (resent : Nat) (hn : Foot.takeover.hasR fl.r = false) : (State.takeover s resent).rd fl i0 j0 = s.rd fl i0 j0 :=
  (Does.takeover (Does.refl _ s) (Foot.le_refl _) _).rd hn _ _
@[simp] theorem State.reg_takeover (resent : Nat) (hn : Foot.takeover.hasR ra = false) : (State.takeover s resent).reg ra i0 j0 = s.reg ra i0 j0 :=
  (Does.takeover (Does.refl _ s) (Foot.le_refl _) _).reg hn _ _
@[simp] theorem State.v_takeover (resent : Nat) (hn : Foot.takeover.hasV va = false) : (State.takeover s resent).v va i0 j0 = s.v va i0 j0 :=
  (Does.takeover (Does.refl _ s) (Foot.le_refl _) _).v hn _ _
@[simp] theorem State.part_takeover (resent : Nat) (hn : Foot.takeover.hasP pa = false) : (State.takeover s resent).part pa = s.part pa :=
  (Does.takeover (Does.refl _ s) (Foot.le_refl _) _).parts pa hn
@[simp] theorem State.rd_mirIssue (hn : Foot.mirIssue.hasR fl.r = false) : (State.mirIssue s).rd fl i0 j0 = s.rd fl i0 j0 :=
  (Does.mirIssue (Does.refl _ s) (Foot.le_refl _)).rd hn _ _
@[simp] theorem State.reg_mirIssue (hn : Foot.mirIssue.hasR ra = false) : (State.mirIssue s).reg ra i0 j0 = s.reg ra i0 j0 :=
  (Does.mirIssue (Does.refl _ s) (Foot.le_refl _)).reg hn _ _
@[simp] theorem State.v_mirIssue (hn : Foot.mirIssue.hasV va = false) : (State.mirIssue s).v va i0 j0 = s.v va i0 j0 :=
  (Does.mirIssue (Does.refl _ s) (Foot.le_refl _)).v hn _ _
@[simp] theorem State.part_mirIssue (hn : Foot.mirIssue.hasP pa = false) : (State.mirIssue s).part pa = s.part pa :=
  (Does.mirIssue (Does.refl _ s) (Foot.le_refl _)).parts pa hn
@[simp] theorem State.rd_mirCmd (c : Nat) (hn : Foot.mirCmd.hasR fl.r = false) : (State.mirCmd s c).2.rd fl i0 j0 = s.rd fl i0 j0 :=
  (Does.mirCmd (Does.refl _ s) (Foot.le_refl _) _).rd hn _ _
@[simp] theorem State.reg_mirCmd (c : Nat) (hn : Foot.mirCmd.hasR ra = false) : (State.mirCmd s c).2.reg ra i0 j0 = s.reg ra i0 j0 :=
  (Does.mirCmd (Does.refl _ s) (Foot.le_refl _) _).reg hn _ _
@[simp] theorem State.v_mirCmd (c : Nat) (hn : Foot.mirCmd.hasV va = false) : (State.mirCmd s c).2.v va i0 j0 = s.v va i0 j0 :=
  (Does.mirCmd (Does.refl _ s) (Foot.le_refl _) _).v hn _ _
@[simp] theorem State.part_mirCmd (c : Nat) (hn : Foot.mirCmd.hasP pa = false) : (State.mirCmd s c).2.part pa = s.part pa :=
  (Does.mirCmd (Does.refl _ s) (Foot.le_refl _) _).parts pa hn
@[simp] theorem State.rd_regRead (a : Nat) (wide : Bool) (hn : Foot.regRead.hasR fl.r = false) : (State.regRead s a wide).2.2.rd fl i0 j0 = s.rd fl i0 j0 :=
  (Does.regRead (Does.refl _ s) (Foot.le_refl _) _ _).rd hn _ _
@[simp] theorem State.reg_regRead (a : Nat) (wide : Bool) (hn : Foot.regRead.hasR ra = false) : (State.regRead s a wide).2.2.reg ra i0 j0 = s.reg ra i0 j0 :=
  (Does.regRead (Does.refl _ s) (Foot.le_refl _) _ _).reg hn _ _
@[simp] theorem State.v_regRead (a : Nat) (wide : Bool) (hn : Foot.regRead.hasV va = false) : (State.regRead s a wide).2.2.v va i0 j0 = s.v va i0 j0 :=
  (Does.regRead (Does.refl _ s) (Foot.le_refl _) _ _).v hn _ _
@[simp] theorem State.part_regRead (a : Nat) (wide : Bool) (hn : Foot.regRead.hasP pa = false) : (State.regRead s a wide).2.2.part pa = s.part pa :=
  (Does.regRead (Does.refl _ s) (Foot.le_refl _) _ _).parts pa hn
@[simp] theorem State.rd_certEmpty (filling : Bool) (hn : Foot.certEmpty.hasR fl.r = false) : (State.certEmpty s filling).rd fl i0 j0 = s.rd fl i0 j0 :=
  (Does.certEmpty (Does.refl _ s) (Foot.le_refl _) _).rd hn _ _
@[simp] theorem State.reg_certEmpty (filling : Bool) (hn : Foot.certEmpty.hasR ra = false) : (State.certEmpty s filling).reg ra i0 j0 = s.reg ra i0 j0 :=
  (Does.certEmpty (Does.refl _ s) (Foot.le_refl _) _).reg hn _ _
@[simp] theorem State.v_certEmpty (filling : Bool) (hn : Foot.certEmpty.hasV va = false) : (State.certEmpty s filling).v va i0 j0 = s.v va i0 j0 :=
  (Does.certEmpty (Does.refl _ s) (Foot.le_refl _) _).v hn _ _
@[simp] theorem State.part_certEmpty (filling : Bool) (hn : Foot.certEmpty.hasP pa = false) : (State.certEmpty s filling).part pa = s.part pa :=
  (Does.certEmpty (Does.refl _ s) (Foot.le_refl _) _).parts pa hn
@[simp] theorem State.rd_certCmd (c : Nat) (len : Nat) (hn : Foot.certCmd.hasR fl.r = false) : (State.certCmd s c len).2.rd fl i0 j0 = s.rd fl i0 j0 :=
  (Does.certCmd (Does.refl _ s) (Foot.le_refl _) _ _).rd hn _ _
@[simp] theorem State.reg_certCmd (c : Nat) (len : Nat) (hn : Foot.certCmd.hasR ra = false) : (State.certCmd s c len).2.reg ra i0 j0 = s.reg ra i0 j0 :=
  (Does.certCmd (Does.refl _ s) (Foot.le_refl _) _ _).reg hn _ _
@[simp] theorem State.v_certCmd (c : Nat) (len : Nat) (hn : Foot.certCmd.hasV va = false) : (State.certCmd s c len).2.v va i0 j0 = s.v va i0 j0 :=
  (Does.certCmd (Does.refl _ s) (Foot.le_refl _) _ _).v hn _ _
@[simp] theorem State.part_certCmd (c : Nat) (len : Nat) (hn : Foot.certCmd.hasP pa = false) : (State.certCmd s c len).2.part pa = s.part pa :=
  (Does.certCmd (Does.refl _ s) (Foot.le_refl _) _ _).parts pa hn
@[simp] theorem State.rd_certData (w : Word) (hn : Foot.certData.hasR fl.r = false) : (State.certData s w).2.rd fl i0 j0 = s.rd fl i0 j0 :=
  (Does.certData (Does.refl _ s) (Foot.le_refl _) _).rd hn _ _
@[simp] theorem State.reg_certData (w : Word) (hn : Foot.certData.hasR ra = false) : (State.certData s w).2.reg ra i0 j0 = s.reg ra i0 j0 :=
  (Does.certData (Does.refl _ s) (Foot.le_refl _) _).reg hn _ _
@[simp] theorem State.v_certData (w : Word) (hn : Foot.certData.hasV va = false) : (State.certData s w).2.v va i0 j0 = s.v va i0 j0 :=
  (Does.certData (Does.refl _ s) (Foot.le_refl _) _).v hn _ _
@[simp] theorem State.part_certData (w : Word) (hn : Foot.certData.hasP pa = false) : (State.certData s w).2.part pa = s.part pa :=
  (Does.certData (Does.refl _ s) (Foot.le_refl _) _).parts pa hn
@[simp] theorem State.rd_plain (r : Reg) (i : Nat) (j : Nat) (w : Word) (hn : Foot.plain.hasR fl.r = false) : (State.plain s r i j w).rd fl i0 j0 = s.rd fl i0 j0 :=
  (Does.plain (Does.refl _ s) (Foot.le_refl _) _ _ _ _).rd hn _ _
@[simp] theorem State.reg_plain (r : Reg) (i : Nat) (j : Nat) (w : Word) (hn : Foot.plain.hasR ra = false) : (State.plain s r i j w).reg ra i0 j0 = s.reg ra i0 j0 :=
  (Does.plain (Does.refl _ s) (Foot.le_refl _) _ _ _ _).reg hn _ _
@[simp] theorem State.v_plain (r : Reg) (i : Nat) (j : Nat) (w : Word) (hn : Foot.plain.hasV va = false) : (State.plain s r i j w).v va i0 j0 = s.v va i0 j0 :=
  (Does.plain (Does.refl _ s) (Foot.le_refl _) _ _ _ _).v hn _ _
@[simp] theorem State.part_plain (r : Reg) (i : Nat) (j : Nat) (w : Word) (hn : Foot.plain.hasP pa = false) : (State.plain s r i j w).part pa = s.part pa :=
  (Does.plain (Does.refl _ s) (Foot.le_refl _) _ _ _ _).parts pa hn
@[simp] theorem State.rd_plainFlags (r : Reg) (i : Nat) (j : Nat) (w : Word) (hn : Foot.plainFlags.hasR fl.r = false) : (State.plainFlags s r i j w).rd fl i0 j0 = s.rd fl i0 j0 :=
  (Does.plainFlags (Does.refl _ s) (Foot.le_refl _) _ _ _ _).rd hn _ _
@[simp] theorem State.reg_plainFlags (r : Reg) (i : Nat) (j : Nat) (w : Word) (hn : Foot.plainFlags.hasR ra = false) : (State.plainFlags s r i j w).reg ra i0 j0 = s.reg ra i0 j0 :=
  (Does.plainFlags (Does.refl _ s) (Foot.le_refl _) _ _ _ _).reg hn _ _
@[simp] theorem State.v_plainFlags (r : Reg) (i : Nat) (j : Nat) (w : Word) (hn : Foot.plainFlags.hasV va = false) : (State.plainFlags s r i j w).v va i0 j0 = s.v va i0 j0 :=
  (Does.plainFlags (Does.refl _ s) (Foot.le_refl _) _ _ _ _).v hn _ _
@[simp] theorem State.part_plainFlags (r : Reg) (i : Nat) (j : Nat) (w : Word) (hn : Foot.plainFlags.hasP pa = false) : (State.plainFlags s r i j w).part pa = s.part pa :=
  (Does.plainFlags (Does.refl _ s) (Foot.le_refl _) _ _ _ _).parts pa hn
@[simp] theorem State.rd_rwlWrite (owners : List Nat) (r : Reg) (i : Nat) (j : Nat) (w : Word) (hn : Foot.rwlWrite.hasR fl.r = false) : (State.rwlWrite s owners r i j w).2.rd fl i0 j0 = s.rd fl i0 j0 :=
  (Does.rwlWrite (Does.refl _ s) (Foot.le_refl _) _ _ _ _ _).rd hn _ _
@[simp] theorem State.reg_rwlWrite (owners : List Nat) (r : Reg) (i : Nat) (j : Nat) (w : Word) (hn : Foot.rwlWrite.hasR ra = false) : (State.rwlWrite s owners r i j w).2.reg ra i0 j0 = s.reg ra i0 j0 :=
  (Does.rwlWrite (Does.refl _ s) (Foot.le_refl _) _ _ _ _ _).reg hn _ _
@[simp] theorem State.v_rwlWrite (owners : List Nat) (r : Reg) (i : Nat) (j : Nat) (w : Word) (hn : Foot.rwlWrite.hasV va = false) : (State.rwlWrite s owners r i j w).2.v va i0 j0 = s.v va i0 j0 :=
  (Does.rwlWrite (Does.refl _ s) (Foot.le_refl _) _ _ _ _ _).v hn _ _
@[simp] theorem State.part_rwlWrite (owners : List Nat) (r : Reg) (i : Nat) (j : Nat) (w : Word) (hn : Foot.rwlWrite.hasP pa = false) : (State.rwlWrite s owners r i j w).2.part pa = s.part pa :=
  (Does.rwlWrite (Does.refl _ s) (Foot.le_refl _) _ _ _ _ _).parts pa hn
@[simp] theorem State.rd_loopWrite (l : Nat) (r : Reg) (w : Word) (hn : Foot.loopWrite.hasR fl.r = false) : (State.loopWrite s l r w).2.rd fl i0 j0 = s.rd fl i0 j0 :=
  (Does.loopWrite (Does.refl _ s) (Foot.le_refl _) _ _ _).rd hn _ _
@[simp] theorem State.reg_loopWrite (l : Nat) (r : Reg) (w : Word) (hn : Foot.loopWrite.hasR ra = false) : (State.loopWrite s l r w).2.reg ra i0 j0 = s.reg ra i0 j0 :=
  (Does.loopWrite (Does.refl _ s) (Foot.le_refl _) _ _ _).reg hn _ _
@[simp] theorem State.v_loopWrite (l : Nat) (r : Reg) (w : Word) (hn : Foot.loopWrite.hasV va = false) : (State.loopWrite s l r w).2.v va i0 j0 = s.v va i0 j0 :=
  (Does.loopWrite (Does.refl _ s) (Foot.le_refl _) _ _ _).v hn _ _
@[simp] theorem State.part_loopWrite (l : Nat) (r : Reg) (w : Word) (hn : Foot.loopWrite.hasP pa = false) : (State.loopWrite s l r w).2.part pa = s.part pa :=
  (Does.loopWrite (Does.refl _ s) (Foot.le_refl _) _ _ _).parts pa hn
@[simp] theorem State.rd_strWrite (r : Reg) (c : Nat) (p : Nat) (touched : Word) (w : Word) (hn : Foot.strWrite.hasR fl.r = false) : (State.strWrite s r c p touched w).2.rd fl i0 j0 = s.rd fl i0 j0 :=
  (Does.strWrite (Does.refl _ s) (Foot.le_refl _) _ _ _ _ _).rd hn _ _
@[simp] theorem State.reg_strWrite (r : Reg) (c : Nat) (p : Nat) (touched : Word) (w : Word) (hn : Foot.strWrite.hasR ra = false) : (State.strWrite s r c p touched w).2.reg ra i0 j0 = s.reg ra i0 j0 :=
  (Does.strWrite (Does.refl _ s) (Foot.le_refl _) _ _ _ _ _).reg hn _ _
@[simp] theorem State.v_strWrite (r : Reg) (c : Nat) (p : Nat) (touched : Word) (w : Word) (hn : Foot.strWrite.hasV va = false) : (State.strWrite s r c p touched w).2.v va i0 j0 = s.v va i0 j0 :=
  (Does.strWrite (Does.refl _ s) (Foot.le_refl _) _ _ _ _ _).v hn _ _
@[simp] theorem State.part_strWrite (r : Reg) (c : Nat) (p : Nat) (touched : Word) (w : Word) (hn : Foot.strWrite.hasP pa = false) : (State.strWrite s r c p touched w).2.part pa = s.part pa :=
  (Does.strWrite (Does.refl _ s) (Foot.le_refl _) _ _ _ _ _).parts pa hn
@[simp] theorem State.rd_tsCtrl (n : Nat) (w : Nat) (hn : Foot.tsCtrl.hasR fl.r = false) : (State.tsCtrl s n w).2.rd fl i0 j0 = s.rd fl i0 j0 :=
  (Does.tsCtrl (Does.refl _ s) (Foot.le_refl _) _ _).rd hn _ _
@[simp] theorem State.reg_tsCtrl (n : Nat) (w : Nat) (hn : Foot.tsCtrl.hasR ra = false) : (State.tsCtrl s n w).2.reg ra i0 j0 = s.reg ra i0 j0 :=
  (Does.tsCtrl (Does.refl _ s) (Foot.le_refl _) _ _).reg hn _ _
@[simp] theorem State.v_tsCtrl (n : Nat) (w : Nat) (hn : Foot.tsCtrl.hasV va = false) : (State.tsCtrl s n w).2.v va i0 j0 = s.v va i0 j0 :=
  (Does.tsCtrl (Does.refl _ s) (Foot.le_refl _) _ _).v hn _ _
@[simp] theorem State.part_tsCtrl (n : Nat) (w : Nat) (hn : Foot.tsCtrl.hasP pa = false) : (State.tsCtrl s n w).2.part pa = s.part pa :=
  (Does.tsCtrl (Does.refl _ s) (Foot.le_refl _) _ _).parts pa hn
@[simp] theorem State.rd_ringTail (n : Nat) (w : Nat) (hn : Foot.ringTail.hasR fl.r = false) : (State.ringTail s n w).2.rd fl i0 j0 = s.rd fl i0 j0 :=
  (Does.ringTail (Does.refl _ s) (Foot.le_refl _) _ _).rd hn _ _
@[simp] theorem State.reg_ringTail (n : Nat) (w : Nat) (hn : Foot.ringTail.hasR ra = false) : (State.ringTail s n w).2.reg ra i0 j0 = s.reg ra i0 j0 :=
  (Does.ringTail (Does.refl _ s) (Foot.le_refl _) _ _).reg hn _ _
@[simp] theorem State.v_ringTail (n : Nat) (w : Nat) (hn : Foot.ringTail.hasV va = false) : (State.ringTail s n w).2.v va i0 j0 = s.v va i0 j0 :=
  (Does.ringTail (Does.refl _ s) (Foot.le_refl _) _ _).v hn _ _
@[simp] theorem State.part_ringTail (n : Nat) (w : Nat) (hn : Foot.ringTail.hasP pa = false) : (State.ringTail s n w).2.part pa = s.part pa :=
  (Does.ringTail (Does.refl _ s) (Foot.le_refl _) _ _).parts pa hn
@[simp] theorem State.rd_facAlertWrite (w : Word) (hn : Foot.facAlertWrite.hasR fl.r = false) : (State.facAlertWrite s w).rd fl i0 j0 = s.rd fl i0 j0 :=
  (Does.facAlertWrite (Does.refl _ s) (Foot.le_refl _) _).rd hn _ _
@[simp] theorem State.reg_facAlertWrite (w : Word) (hn : Foot.facAlertWrite.hasR ra = false) : (State.facAlertWrite s w).reg ra i0 j0 = s.reg ra i0 j0 :=
  (Does.facAlertWrite (Does.refl _ s) (Foot.le_refl _) _).reg hn _ _
@[simp] theorem State.v_facAlertWrite (w : Word) (hn : Foot.facAlertWrite.hasV va = false) : (State.facAlertWrite s w).v va i0 j0 = s.v va i0 j0 :=
  (Does.facAlertWrite (Does.refl _ s) (Foot.le_refl _) _).v hn _ _
@[simp] theorem State.part_facAlertWrite (w : Word) (hn : Foot.facAlertWrite.hasP pa = false) : (State.facAlertWrite s w).part pa = s.part pa :=
  (Does.facAlertWrite (Does.refl _ s) (Foot.le_refl _) _).parts pa hn
@[simp] theorem State.rd_regOpHeld (p : Port) (r : Reg) (i : Nat) (j : Nat) (a : Nat) (wide : Bool) (w : Word) (pins : Pins) (hn : Foot.regOpHeld.hasR fl.r = false) : (State.regOpHeld s p r i j a wide w pins).2.rd fl i0 j0 = s.rd fl i0 j0 :=
  (Does.regOpHeld (Does.refl _ s) (Foot.le_refl _) _ _ _ _ _ _ _ _).rd hn _ _
@[simp] theorem State.reg_regOpHeld (p : Port) (r : Reg) (i : Nat) (j : Nat) (a : Nat) (wide : Bool) (w : Word) (pins : Pins) (hn : Foot.regOpHeld.hasR ra = false) : (State.regOpHeld s p r i j a wide w pins).2.reg ra i0 j0 = s.reg ra i0 j0 :=
  (Does.regOpHeld (Does.refl _ s) (Foot.le_refl _) _ _ _ _ _ _ _ _).reg hn _ _
@[simp] theorem State.v_regOpHeld (p : Port) (r : Reg) (i : Nat) (j : Nat) (a : Nat) (wide : Bool) (w : Word) (pins : Pins) (hn : Foot.regOpHeld.hasV va = false) : (State.regOpHeld s p r i j a wide w pins).2.v va i0 j0 = s.v va i0 j0 :=
  (Does.regOpHeld (Does.refl _ s) (Foot.le_refl _) _ _ _ _ _ _ _ _).v hn _ _
@[simp] theorem State.part_regOpHeld (p : Port) (r : Reg) (i : Nat) (j : Nat) (a : Nat) (wide : Bool) (w : Word) (pins : Pins) (hn : Foot.regOpHeld.hasP pa = false) : (State.regOpHeld s p r i j a wide w pins).2.part pa = s.part pa :=
  (Does.regOpHeld (Does.refl _ s) (Foot.le_refl _) _ _ _ _ _ _ _ _).parts pa hn
@[simp] theorem State.rd_regOpUnit (p : Port) (r : Reg) (i : Nat) (j : Nat) (a : Nat) (wide : Bool) (w : Word) (pins : Pins) (hn : Foot.regOpUnit.hasR fl.r = false) : (State.regOpUnit s p r i j a wide w pins).2.rd fl i0 j0 = s.rd fl i0 j0 :=
  (Does.regOpUnit (Does.refl _ s) (Foot.le_refl _) _ _ _ _ _ _ _ _).rd hn _ _
@[simp] theorem State.reg_regOpUnit (p : Port) (r : Reg) (i : Nat) (j : Nat) (a : Nat) (wide : Bool) (w : Word) (pins : Pins) (hn : Foot.regOpUnit.hasR ra = false) : (State.regOpUnit s p r i j a wide w pins).2.reg ra i0 j0 = s.reg ra i0 j0 :=
  (Does.regOpUnit (Does.refl _ s) (Foot.le_refl _) _ _ _ _ _ _ _ _).reg hn _ _
@[simp] theorem State.v_regOpUnit (p : Port) (r : Reg) (i : Nat) (j : Nat) (a : Nat) (wide : Bool) (w : Word) (pins : Pins) (hn : Foot.regOpUnit.hasV va = false) : (State.regOpUnit s p r i j a wide w pins).2.v va i0 j0 = s.v va i0 j0 :=
  (Does.regOpUnit (Does.refl _ s) (Foot.le_refl _) _ _ _ _ _ _ _ _).v hn _ _
@[simp] theorem State.part_regOpUnit (p : Port) (r : Reg) (i : Nat) (j : Nat) (a : Nat) (wide : Bool) (w : Word) (pins : Pins) (hn : Foot.regOpUnit.hasP pa = false) : (State.regOpUnit s p r i j a wide w pins).2.part pa = s.part pa :=
  (Does.regOpUnit (Does.refl _ s) (Foot.le_refl _) _ _ _ _ _ _ _ _).parts pa hn
@[simp] theorem State.rd_regOp (p : Port) (r : Reg) (i : Nat) (j : Nat) (a : Nat) (wide : Bool) (data : Word) (pins : Pins) (hn : Foot.regOp.hasR fl.r = false) : (State.regOp s p r i j a wide data pins).2.rd fl i0 j0 = s.rd fl i0 j0 :=
  (Does.regOp (Does.refl _ s) (Foot.le_refl _) _ _ _ _ _ _ _ _).rd hn _ _
@[simp] theorem State.reg_regOp (p : Port) (r : Reg) (i : Nat) (j : Nat) (a : Nat) (wide : Bool) (data : Word) (pins : Pins) (hn : Foot.regOp.hasR ra = false) : (State.regOp s p r i j a wide data pins).2.reg ra i0 j0 = s.reg ra i0 j0 :=
  (Does.regOp (Does.refl _ s) (Foot.le_refl _) _ _ _ _ _ _ _ _).reg hn _ _
@[simp] theorem State.v_regOp (p : Port) (r : Reg) (i : Nat) (j : Nat) (a : Nat) (wide : Bool) (data : Word) (pins : Pins) (hn : Foot.regOp.hasV va = false) : (State.regOp s p r i j a wide data pins).2.v va i0 j0 = s.v va i0 j0 :=
  (Does.regOp (Does.refl _ s) (Foot.le_refl _) _ _ _ _ _ _ _ _).v hn _ _
@[simp] theorem State.part_regOp (p : Port) (r : Reg) (i : Nat) (j : Nat) (a : Nat) (wide : Bool) (data : Word) (pins : Pins) (hn : Foot.regOp.hasP pa = false) : (State.regOp s p r i j a wide data pins).2.part pa = s.part pa :=
  (Does.regOp (Does.refl _ s) (Foot.le_refl _) _ _ _ _ _ _ _ _).parts pa hn
@[simp] theorem State.rd_gateWrite (l : Nat) (p : Nat) (w : Word) (pins : Pins) (hn : Foot.gateWrite.hasR fl.r = false) : (State.gateWrite s l p w pins).2.rd fl i0 j0 = s.rd fl i0 j0 :=
  (Does.gateWrite (Does.refl _ s) (Foot.le_refl _) _ _ _ _).rd hn _ _
@[simp] theorem State.reg_gateWrite (l : Nat) (p : Nat) (w : Word) (pins : Pins) (hn : Foot.gateWrite.hasR ra = false) : (State.gateWrite s l p w pins).2.reg ra i0 j0 = s.reg ra i0 j0 :=
  (Does.gateWrite (Does.refl _ s) (Foot.le_refl _) _ _ _ _).reg hn _ _
@[simp] theorem State.v_gateWrite (l : Nat) (p : Nat) (w : Word) (pins : Pins) (hn : Foot.gateWrite.hasV va = false) : (State.gateWrite s l p w pins).2.v va i0 j0 = s.v va i0 j0 :=
  (Does.gateWrite (Does.refl _ s) (Foot.le_refl _) _ _ _ _).v hn _ _
@[simp] theorem State.part_gateWrite (l : Nat) (p : Nat) (w : Word) (pins : Pins) (hn : Foot.gateWrite.hasP pa = false) : (State.gateWrite s l p w pins).2.part pa = s.part pa :=
  (Does.gateWrite (Does.refl _ s) (Foot.le_refl _) _ _ _ _).parts pa hn
@[simp] theorem State.rd_islandOp (r : Reg) (i : Nat) (j : Nat) (a : Nat) (wide : Bool) (data : Word) (pins : Pins) (hn : Foot.islandOp.hasR fl.r = false) : (State.islandOp s r i j a wide data pins).2.rd fl i0 j0 = s.rd fl i0 j0 :=
  (Does.islandOp (Does.refl _ s) (Foot.le_refl _) _ _ _ _ _ _ _).rd hn _ _
@[simp] theorem State.reg_islandOp (r : Reg) (i : Nat) (j : Nat) (a : Nat) (wide : Bool) (data : Word) (pins : Pins) (hn : Foot.islandOp.hasR ra = false) : (State.islandOp s r i j a wide data pins).2.reg ra i0 j0 = s.reg ra i0 j0 :=
  (Does.islandOp (Does.refl _ s) (Foot.le_refl _) _ _ _ _ _ _ _).reg hn _ _
@[simp] theorem State.v_islandOp (r : Reg) (i : Nat) (j : Nat) (a : Nat) (wide : Bool) (data : Word) (pins : Pins) (hn : Foot.islandOp.hasV va = false) : (State.islandOp s r i j a wide data pins).2.v va i0 j0 = s.v va i0 j0 :=
  (Does.islandOp (Does.refl _ s) (Foot.le_refl _) _ _ _ _ _ _ _).v hn _ _
@[simp] theorem State.part_islandOp (r : Reg) (i : Nat) (j : Nat) (a : Nat) (wide : Bool) (data : Word) (pins : Pins) (hn : Foot.islandOp.hasP pa = false) : (State.islandOp s r i j a wide data pins).2.part pa = s.part pa :=
  (Does.islandOp (Does.refl _ s) (Foot.le_refl _) _ _ _ _ _ _ _).parts pa hn
@[simp] theorem State.rd_copyOp (d : Nat) (a : Nat) (wide : Bool) (data : Word) (pins : Pins) (hn : Foot.copyOp.hasR fl.r = false) : (State.copyOp s d a wide data pins).2.rd fl i0 j0 = s.rd fl i0 j0 :=
  (Does.copyOp (Does.refl _ s) (Foot.le_refl _) _ _ _ _ _).rd hn _ _
@[simp] theorem State.reg_copyOp (d : Nat) (a : Nat) (wide : Bool) (data : Word) (pins : Pins) (hn : Foot.copyOp.hasR ra = false) : (State.copyOp s d a wide data pins).2.reg ra i0 j0 = s.reg ra i0 j0 :=
  (Does.copyOp (Does.refl _ s) (Foot.le_refl _) _ _ _ _ _).reg hn _ _
@[simp] theorem State.v_copyOp (d : Nat) (a : Nat) (wide : Bool) (data : Word) (pins : Pins) (hn : Foot.copyOp.hasV va = false) : (State.copyOp s d a wide data pins).2.v va i0 j0 = s.v va i0 j0 :=
  (Does.copyOp (Does.refl _ s) (Foot.le_refl _) _ _ _ _ _).v hn _ _
@[simp] theorem State.part_copyOp (d : Nat) (a : Nat) (wide : Bool) (data : Word) (pins : Pins) (hn : Foot.copyOp.hasP pa = false) : (State.copyOp s d a wide data pins).2.part pa = s.part pa :=
  (Does.copyOp (Does.refl _ s) (Foot.le_refl _) _ _ _ _ _).parts pa hn
@[simp] theorem State.rd_islandWrite (d : Nat) (off : Nat) (wide : Bool) (data : Word) (pins : Pins) (hn : Foot.islandWrite.hasR fl.r = false) : (State.islandWrite s d off wide data pins).2.rd fl i0 j0 = s.rd fl i0 j0 :=
  (Does.islandWrite (Does.refl _ s) (Foot.le_refl _) _ _ _ _ _).rd hn _ _
@[simp] theorem State.reg_islandWrite (d : Nat) (off : Nat) (wide : Bool) (data : Word) (pins : Pins) (hn : Foot.islandWrite.hasR ra = false) : (State.islandWrite s d off wide data pins).2.reg ra i0 j0 = s.reg ra i0 j0 :=
  (Does.islandWrite (Does.refl _ s) (Foot.le_refl _) _ _ _ _ _).reg hn _ _
@[simp] theorem State.v_islandWrite (d : Nat) (off : Nat) (wide : Bool) (data : Word) (pins : Pins) (hn : Foot.islandWrite.hasV va = false) : (State.islandWrite s d off wide data pins).2.v va i0 j0 = s.v va i0 j0 :=
  (Does.islandWrite (Does.refl _ s) (Foot.le_refl _) _ _ _ _ _).v hn _ _
@[simp] theorem State.part_islandWrite (d : Nat) (off : Nat) (wide : Bool) (data : Word) (pins : Pins) (hn : Foot.islandWrite.hasP pa = false) : (State.islandWrite s d off wide data pins).2.part pa = s.part pa :=
  (Does.islandWrite (Does.refl _ s) (Foot.le_refl _) _ _ _ _ _).parts pa hn
@[simp] theorem State.rd_perform (p : Port) (a : Nat) (wide : Bool) (w : Word) (pins : Pins) (hn : Foot.perform.hasR fl.r = false) : (State.perform s p a wide w pins).2.rd fl i0 j0 = s.rd fl i0 j0 :=
  (Does.perform (Does.refl _ s) (Foot.le_refl _) _ _ _ _ _).rd hn _ _
@[simp] theorem State.reg_perform (p : Port) (a : Nat) (wide : Bool) (w : Word) (pins : Pins) (hn : Foot.perform.hasR ra = false) : (State.perform s p a wide w pins).2.reg ra i0 j0 = s.reg ra i0 j0 :=
  (Does.perform (Does.refl _ s) (Foot.le_refl _) _ _ _ _ _).reg hn _ _
@[simp] theorem State.v_perform (p : Port) (a : Nat) (wide : Bool) (w : Word) (pins : Pins) (hn : Foot.perform.hasV va = false) : (State.perform s p a wide w pins).2.v va i0 j0 = s.v va i0 j0 :=
  (Does.perform (Does.refl _ s) (Foot.le_refl _) _ _ _ _ _).v hn _ _
@[simp] theorem State.part_perform (p : Port) (a : Nat) (wide : Bool) (w : Word) (pins : Pins) (hn : Foot.perform.hasP pa = false) : (State.perform s p a wide w pins).2.part pa = s.part pa :=
  (Does.perform (Does.refl _ s) (Foot.le_refl _) _ _ _ _ _).parts pa hn
@[simp] theorem State.rd_performAns (p : Port) (a : Nat) (wide : Bool) (w : Word) (pins : Pins) (hn : Foot.performAns.hasR fl.r = false) : (State.performAns s p a wide w pins).rd fl i0 j0 = s.rd fl i0 j0 :=
  (Does.performAns (Does.refl _ s) (Foot.le_refl _) _ _ _ _ _).rd hn _ _
@[simp] theorem State.reg_performAns (p : Port) (a : Nat) (wide : Bool) (w : Word) (pins : Pins) (hn : Foot.performAns.hasR ra = false) : (State.performAns s p a wide w pins).reg ra i0 j0 = s.reg ra i0 j0 :=
  (Does.performAns (Does.refl _ s) (Foot.le_refl _) _ _ _ _ _).reg hn _ _
@[simp] theorem State.v_performAns (p : Port) (a : Nat) (wide : Bool) (w : Word) (pins : Pins) (hn : Foot.performAns.hasV va = false) : (State.performAns s p a wide w pins).v va i0 j0 = s.v va i0 j0 :=
  (Does.performAns (Does.refl _ s) (Foot.le_refl _) _ _ _ _ _).v hn _ _
@[simp] theorem State.part_performAns (p : Port) (a : Nat) (wide : Bool) (w : Word) (pins : Pins) (hn : Foot.performAns.hasP pa = false) : (State.performAns s p a wide w pins).part pa = s.part pa :=
  (Does.performAns (Does.refl _ s) (Foot.le_refl _) _ _ _ _ _).parts pa hn
@[simp] theorem State.rd_postAdd (init : Nat) (priv : Bool) (a : Nat) (w : Word) (wide : Bool) (hn : Foot.postAdd.hasR fl.r = false) : (State.postAdd s init priv a w wide).rd fl i0 j0 = s.rd fl i0 j0 :=
  (Does.postAdd (Does.refl _ s) (Foot.le_refl _) _ _ _ _ _).rd hn _ _
@[simp] theorem State.reg_postAdd (init : Nat) (priv : Bool) (a : Nat) (w : Word) (wide : Bool) (hn : Foot.postAdd.hasR ra = false) : (State.postAdd s init priv a w wide).reg ra i0 j0 = s.reg ra i0 j0 :=
  (Does.postAdd (Does.refl _ s) (Foot.le_refl _) _ _ _ _ _).reg hn _ _
@[simp] theorem State.v_postAdd (init : Nat) (priv : Bool) (a : Nat) (w : Word) (wide : Bool) (hn : Foot.postAdd.hasV va = false) : (State.postAdd s init priv a w wide).v va i0 j0 = s.v va i0 j0 :=
  (Does.postAdd (Does.refl _ s) (Foot.le_refl _) _ _ _ _ _).v hn _ _
@[simp] theorem State.part_postAdd (init : Nat) (priv : Bool) (a : Nat) (w : Word) (wide : Bool) (hn : Foot.postAdd.hasP pa = false) : (State.postAdd s init priv a w wide).part pa = s.part pa :=
  (Does.postAdd (Does.refl _ s) (Foot.le_refl _) _ _ _ _ _).parts pa hn
@[simp] theorem State.rd_reqBegin (x : RegReq) (hn : Foot.reqBegin.hasR fl.r = false) : (State.reqBegin s x).rd fl i0 j0 = s.rd fl i0 j0 :=
  (Does.reqBegin (Does.refl _ s) (Foot.le_refl _) _).rd hn _ _
@[simp] theorem State.reg_reqBegin (x : RegReq) (hn : Foot.reqBegin.hasR ra = false) : (State.reqBegin s x).reg ra i0 j0 = s.reg ra i0 j0 :=
  (Does.reqBegin (Does.refl _ s) (Foot.le_refl _) _).reg hn _ _
@[simp] theorem State.v_reqBegin (x : RegReq) (hn : Foot.reqBegin.hasV va = false) : (State.reqBegin s x).v va i0 j0 = s.v va i0 j0 :=
  (Does.reqBegin (Does.refl _ s) (Foot.le_refl _) _).v hn _ _
@[simp] theorem State.part_reqBegin (x : RegReq) (hn : Foot.reqBegin.hasP pa = false) : (State.reqBegin s x).part pa = s.part pa :=
  (Does.reqBegin (Does.refl _ s) (Foot.le_refl _) _).parts pa hn
@[simp] theorem State.rd_reqPump (fuel : Nat) (hn : Foot.reqPump.hasR fl.r = false) : (State.reqPump s fuel).rd fl i0 j0 = s.rd fl i0 j0 :=
  (Does.reqPump (Does.refl _ s) (Foot.le_refl _) _).rd hn _ _
@[simp] theorem State.reg_reqPump (fuel : Nat) (hn : Foot.reqPump.hasR ra = false) : (State.reqPump s fuel).reg ra i0 j0 = s.reg ra i0 j0 :=
  (Does.reqPump (Does.refl _ s) (Foot.le_refl _) _).reg hn _ _
@[simp] theorem State.v_reqPump (fuel : Nat) (hn : Foot.reqPump.hasV va = false) : (State.reqPump s fuel).v va i0 j0 = s.v va i0 j0 :=
  (Does.reqPump (Does.refl _ s) (Foot.le_refl _) _).v hn _ _
@[simp] theorem State.part_reqPump (fuel : Nat) (hn : Foot.reqPump.hasP pa = false) : (State.reqPump s fuel).part pa = s.part pa :=
  (Does.reqPump (Does.refl _ s) (Foot.le_refl _) _).parts pa hn
@[simp] theorem State.rd_reqRun (hn : Foot.reqRun.hasR fl.r = false) : (State.reqRun s).rd fl i0 j0 = s.rd fl i0 j0 :=
  (Does.reqRun (Does.refl _ s) (Foot.le_refl _)).rd hn _ _
@[simp] theorem State.reg_reqRun (hn : Foot.reqRun.hasR ra = false) : (State.reqRun s).reg ra i0 j0 = s.reg ra i0 j0 :=
  (Does.reqRun (Does.refl _ s) (Foot.le_refl _)).reg hn _ _
@[simp] theorem State.v_reqRun (hn : Foot.reqRun.hasV va = false) : (State.reqRun s).v va i0 j0 = s.v va i0 j0 :=
  (Does.reqRun (Does.refl _ s) (Foot.le_refl _)).v hn _ _
@[simp] theorem State.part_reqRun (hn : Foot.reqRun.hasP pa = false) : (State.reqRun s).part pa = s.part pa :=
  (Does.reqRun (Does.refl _ s) (Foot.le_refl _)).parts pa hn
@[simp] theorem State.rd_idle (hn : Foot.idle.hasR fl.r = false) : (State.idle s).rd fl i0 j0 = s.rd fl i0 j0 :=
  (Does.idle (Does.refl _ s) (Foot.le_refl _)).rd hn _ _
@[simp] theorem State.reg_idle (hn : Foot.idle.hasR ra = false) : (State.idle s).reg ra i0 j0 = s.reg ra i0 j0 :=
  (Does.idle (Does.refl _ s) (Foot.le_refl _)).reg hn _ _
@[simp] theorem State.v_idle (hn : Foot.idle.hasV va = false) : (State.idle s).v va i0 j0 = s.v va i0 j0 :=
  (Does.idle (Does.refl _ s) (Foot.le_refl _)).v hn _ _
@[simp] theorem State.part_idle (hn : Foot.idle.hasP pa = false) : (State.idle s).part pa = s.part pa :=
  (Does.idle (Does.refl _ s) (Foot.le_refl _)).parts pa hn
@[simp] theorem State.rd_islandAns (d : Nat) (reqid : Nat) (st : Status) (data : Option Word) (hn : Foot.islandAns.hasR fl.r = false) : (State.islandAns s d reqid st data).rd fl i0 j0 = s.rd fl i0 j0 :=
  (Does.islandAns (Does.refl _ s) (Foot.le_refl _) _ _ _ _).rd hn _ _
@[simp] theorem State.reg_islandAns (d : Nat) (reqid : Nat) (st : Status) (data : Option Word) (hn : Foot.islandAns.hasR ra = false) : (State.islandAns s d reqid st data).reg ra i0 j0 = s.reg ra i0 j0 :=
  (Does.islandAns (Does.refl _ s) (Foot.le_refl _) _ _ _ _).reg hn _ _
@[simp] theorem State.v_islandAns (d : Nat) (reqid : Nat) (st : Status) (data : Option Word) (hn : Foot.islandAns.hasV va = false) : (State.islandAns s d reqid st data).v va i0 j0 = s.v va i0 j0 :=
  (Does.islandAns (Does.refl _ s) (Foot.le_refl _) _ _ _ _).v hn _ _
@[simp] theorem State.part_islandAns (d : Nat) (reqid : Nat) (st : Status) (data : Option Word) (hn : Foot.islandAns.hasP pa = false) : (State.islandAns s d reqid st data).part pa = s.part pa :=
  (Does.islandAns (Does.refl _ s) (Foot.le_refl _) _ _ _ _).parts pa hn
@[simp] theorem State.rd_islandRun (d : Nat) (r : CmdReq) (data : Word) (pins : Pins) (hn : Foot.islandRun.hasR fl.r = false) : (State.islandRun s d r data pins).rd fl i0 j0 = s.rd fl i0 j0 :=
  (Does.islandRun (Does.refl _ s) (Foot.le_refl _) _ _ _ _).rd hn _ _
@[simp] theorem State.reg_islandRun (d : Nat) (r : CmdReq) (data : Word) (pins : Pins) (hn : Foot.islandRun.hasR ra = false) : (State.islandRun s d r data pins).reg ra i0 j0 = s.reg ra i0 j0 :=
  (Does.islandRun (Does.refl _ s) (Foot.le_refl _) _ _ _ _).reg hn _ _
@[simp] theorem State.v_islandRun (d : Nat) (r : CmdReq) (data : Word) (pins : Pins) (hn : Foot.islandRun.hasV va = false) : (State.islandRun s d r data pins).v va i0 j0 = s.v va i0 j0 :=
  (Does.islandRun (Does.refl _ s) (Foot.le_refl _) _ _ _ _).v hn _ _
@[simp] theorem State.part_islandRun (d : Nat) (r : CmdReq) (data : Word) (pins : Pins) (hn : Foot.islandRun.hasP pa = false) : (State.islandRun s d r data pins).part pa = s.part pa :=
  (Does.islandRun (Does.refl _ s) (Foot.le_refl _) _ _ _ _).parts pa hn
@[simp] theorem State.rd_cmdOn (d : Nat) (r : CmdReq) (data : Word) (hn : Foot.cmdOn.hasR fl.r = false) : (State.cmdOn s d r data).rd fl i0 j0 = s.rd fl i0 j0 :=
  (Does.cmdOn (Does.refl _ s) (Foot.le_refl _) _ _ _).rd hn _ _
@[simp] theorem State.reg_cmdOn (d : Nat) (r : CmdReq) (data : Word) (hn : Foot.cmdOn.hasR ra = false) : (State.cmdOn s d r data).reg ra i0 j0 = s.reg ra i0 j0 :=
  (Does.cmdOn (Does.refl _ s) (Foot.le_refl _) _ _ _).reg hn _ _
@[simp] theorem State.v_cmdOn (d : Nat) (r : CmdReq) (data : Word) (hn : Foot.cmdOn.hasV va = false) : (State.cmdOn s d r data).v va i0 j0 = s.v va i0 j0 :=
  (Does.cmdOn (Does.refl _ s) (Foot.le_refl _) _ _ _).v hn _ _
@[simp] theorem State.part_cmdOn (d : Nat) (r : CmdReq) (data : Word) (hn : Foot.cmdOn.hasP pa = false) : (State.cmdOn s d r data).part pa = s.part pa :=
  (Does.cmdOn (Does.refl _ s) (Foot.le_refl _) _ _ _).parts pa hn
@[simp] theorem State.rd_cmdRun (d : Nat) (r : CmdReq) (data : Word) (pins : Pins) (hn : Foot.cmdRun.hasR fl.r = false) : (State.cmdRun s d r data pins).rd fl i0 j0 = s.rd fl i0 j0 :=
  (Does.cmdRun (Does.refl _ s) (Foot.le_refl _) _ _ _ _).rd hn _ _
@[simp] theorem State.reg_cmdRun (d : Nat) (r : CmdReq) (data : Word) (pins : Pins) (hn : Foot.cmdRun.hasR ra = false) : (State.cmdRun s d r data pins).reg ra i0 j0 = s.reg ra i0 j0 :=
  (Does.cmdRun (Does.refl _ s) (Foot.le_refl _) _ _ _ _).reg hn _ _
@[simp] theorem State.v_cmdRun (d : Nat) (r : CmdReq) (data : Word) (pins : Pins) (hn : Foot.cmdRun.hasV va = false) : (State.cmdRun s d r data pins).v va i0 j0 = s.v va i0 j0 :=
  (Does.cmdRun (Does.refl _ s) (Foot.le_refl _) _ _ _ _).v hn _ _
@[simp] theorem State.part_cmdRun (d : Nat) (r : CmdReq) (data : Word) (pins : Pins) (hn : Foot.cmdRun.hasP pa = false) : (State.cmdRun s d r data pins).part pa = s.part pa :=
  (Does.cmdRun (Does.refl _ s) (Foot.le_refl _) _ _ _ _).parts pa hn
@[simp] theorem State.rd_cmdFinish (e : ChEnd) (p : CmdPend) (src : Nat) (st : Status) (data : Option Word) (hn : Foot.cmdFinish.hasR fl.r = false) : (State.cmdFinish s e p src st data).rd fl i0 j0 = s.rd fl i0 j0 :=
  (Does.cmdFinish (Does.refl _ s) (Foot.le_refl _) _ _ _ _ _).rd hn _ _
@[simp] theorem State.reg_cmdFinish (e : ChEnd) (p : CmdPend) (src : Nat) (st : Status) (data : Option Word) (hn : Foot.cmdFinish.hasR ra = false) : (State.cmdFinish s e p src st data).reg ra i0 j0 = s.reg ra i0 j0 :=
  (Does.cmdFinish (Does.refl _ s) (Foot.le_refl _) _ _ _ _ _).reg hn _ _
@[simp] theorem State.v_cmdFinish (e : ChEnd) (p : CmdPend) (src : Nat) (st : Status) (data : Option Word) (hn : Foot.cmdFinish.hasV va = false) : (State.cmdFinish s e p src st data).v va i0 j0 = s.v va i0 j0 :=
  (Does.cmdFinish (Does.refl _ s) (Foot.le_refl _) _ _ _ _ _).v hn _ _
@[simp] theorem State.part_cmdFinish (e : ChEnd) (p : CmdPend) (src : Nat) (st : Status) (data : Option Word) (hn : Foot.cmdFinish.hasP pa = false) : (State.cmdFinish s e p src st data).part pa = s.part pa :=
  (Does.cmdFinish (Does.refl _ s) (Foot.le_refl _) _ _ _ _ _).parts pa hn
@[simp] theorem State.rd_facErr (k : Nat) (hn : Foot.facErr.hasR fl.r = false) : (State.facErr s k).rd fl i0 j0 = s.rd fl i0 j0 :=
  (Does.facErr (Does.refl _ s) (Foot.le_refl _) _).rd hn _ _
@[simp] theorem State.reg_facErr (k : Nat) (hn : Foot.facErr.hasR ra = false) : (State.facErr s k).reg ra i0 j0 = s.reg ra i0 j0 :=
  (Does.facErr (Does.refl _ s) (Foot.le_refl _) _).reg hn _ _
@[simp] theorem State.v_facErr (k : Nat) (hn : Foot.facErr.hasV va = false) : (State.facErr s k).v va i0 j0 = s.v va i0 j0 :=
  (Does.facErr (Does.refl _ s) (Foot.le_refl _) _).v hn _ _
@[simp] theorem State.part_facErr (k : Nat) (hn : Foot.facErr.hasP pa = false) : (State.facErr s k).part pa = s.part pa :=
  (Does.facErr (Does.refl _ s) (Foot.le_refl _) _).parts pa hn
@[simp] theorem State.rd_facSend (b : List Byte) (hn : Foot.facSend.hasR fl.r = false) : (State.facSend s b).rd fl i0 j0 = s.rd fl i0 j0 :=
  (Does.facSend (Does.refl _ s) (Foot.le_refl _) _).rd hn _ _
@[simp] theorem State.reg_facSend (b : List Byte) (hn : Foot.facSend.hasR ra = false) : (State.facSend s b).reg ra i0 j0 = s.reg ra i0 j0 :=
  (Does.facSend (Does.refl _ s) (Foot.le_refl _) _).reg hn _ _
@[simp] theorem State.v_facSend (b : List Byte) (hn : Foot.facSend.hasV va = false) : (State.facSend s b).v va i0 j0 = s.v va i0 j0 :=
  (Does.facSend (Does.refl _ s) (Foot.le_refl _) _).v hn _ _
@[simp] theorem State.part_facSend (b : List Byte) (hn : Foot.facSend.hasP pa = false) : (State.facSend s b).part pa = s.part pa :=
  (Does.facSend (Does.refl _ s) (Foot.le_refl _) _).parts pa hn
@[simp] theorem State.rd_standard (name : String) (content : List Byte) (hn : Foot.standard.hasR fl.r = false) : (State.standard s name content).rd fl i0 j0 = s.rd fl i0 j0 :=
  (Does.standard (Does.refl _ s) (Foot.le_refl _) _ _).rd hn _ _
@[simp] theorem State.reg_standard (name : String) (content : List Byte) (hn : Foot.standard.hasR ra = false) : (State.standard s name content).reg ra i0 j0 = s.reg ra i0 j0 :=
  (Does.standard (Does.refl _ s) (Foot.le_refl _) _ _).reg hn _ _
@[simp] theorem State.v_standard (name : String) (content : List Byte) (hn : Foot.standard.hasV va = false) : (State.standard s name content).v va i0 j0 = s.v va i0 j0 :=
  (Does.standard (Does.refl _ s) (Foot.le_refl _) _ _).v hn _ _
@[simp] theorem State.part_standard (name : String) (content : List Byte) (hn : Foot.standard.hasP pa = false) : (State.standard s name content).part pa = s.part pa :=
  (Does.standard (Does.refl _ s) (Foot.le_refl _) _ _).parts pa hn
@[simp] theorem State.rd_spdmError (code : String) (hn : Foot.spdmError.hasR fl.r = false) : (State.spdmError s code).rd fl i0 j0 = s.rd fl i0 j0 :=
  (Does.spdmError (Does.refl _ s) (Foot.le_refl _) _).rd hn _ _
@[simp] theorem State.reg_spdmError (code : String) (hn : Foot.spdmError.hasR ra = false) : (State.spdmError s code).reg ra i0 j0 = s.reg ra i0 j0 :=
  (Does.spdmError (Does.refl _ s) (Foot.le_refl _) _).reg hn _ _
@[simp] theorem State.v_spdmError (code : String) (hn : Foot.spdmError.hasV va = false) : (State.spdmError s code).v va i0 j0 = s.v va i0 j0 :=
  (Does.spdmError (Does.refl _ s) (Foot.le_refl _) _).v hn _ _
@[simp] theorem State.part_spdmError (code : String) (hn : Foot.spdmError.hasP pa = false) : (State.spdmError s code).part pa = s.part pa :=
  (Does.spdmError (Does.refl _ s) (Foot.le_refl _) _).parts pa hn
@[simp] theorem State.rd_spdmSigned (name : String) (content : List Byte) (hn : Foot.spdmSigned.hasR fl.r = false) : (State.spdmSigned s name content).rd fl i0 j0 = s.rd fl i0 j0 :=
  (Does.spdmSigned (Does.refl _ s) (Foot.le_refl _) _ _).rd hn _ _
@[simp] theorem State.reg_spdmSigned (name : String) (content : List Byte) (hn : Foot.spdmSigned.hasR ra = false) : (State.spdmSigned s name content).reg ra i0 j0 = s.reg ra i0 j0 :=
  (Does.spdmSigned (Does.refl _ s) (Foot.le_refl _) _ _).reg hn _ _
@[simp] theorem State.v_spdmSigned (name : String) (content : List Byte) (hn : Foot.spdmSigned.hasV va = false) : (State.spdmSigned s name content).v va i0 j0 = s.v va i0 j0 :=
  (Does.spdmSigned (Does.refl _ s) (Foot.le_refl _) _ _).v hn _ _
@[simp] theorem State.part_spdmSigned (name : String) (content : List Byte) (hn : Foot.spdmSigned.hasP pa = false) : (State.spdmSigned s name content).part pa = s.part pa :=
  (Does.spdmSigned (Does.refl _ s) (Foot.le_refl _) _ _).parts pa hn
@[simp] theorem State.rd_sesSet (k : Nat) (n : Nat) (hn : Foot.sesSet.hasR fl.r = false) : (State.sesSet s k n).rd fl i0 j0 = s.rd fl i0 j0 :=
  (Does.sesSet (Does.refl _ s) (Foot.le_refl _) _ _).rd hn _ _
@[simp] theorem State.reg_sesSet (k : Nat) (n : Nat) (hn : Foot.sesSet.hasR ra = false) : (State.sesSet s k n).reg ra i0 j0 = s.reg ra i0 j0 :=
  (Does.sesSet (Does.refl _ s) (Foot.le_refl _) _ _).reg hn _ _
@[simp] theorem State.v_sesSet (k : Nat) (n : Nat) (hn : Foot.sesSet.hasV va = false) : (State.sesSet s k n).v va i0 j0 = s.v va i0 j0 :=
  (Does.sesSet (Does.refl _ s) (Foot.le_refl _) _ _).v hn _ _
@[simp] theorem State.part_sesSet (k : Nat) (n : Nat) (hn : Foot.sesSet.hasP pa = false) : (State.sesSet s k n).part pa = s.part pa :=
  (Does.sesSet (Does.refl _ s) (Foot.le_refl _) _ _).parts pa hn
@[simp] theorem State.rd_pmbWord (w : Nat) (hn : Foot.pmbWord.hasR fl.r = false) : (State.pmbWord s w).rd fl i0 j0 = s.rd fl i0 j0 :=
  (Does.pmbWord (Does.refl _ s) (Foot.le_refl _) _).rd hn _ _
@[simp] theorem State.reg_pmbWord (w : Nat) (hn : Foot.pmbWord.hasR ra = false) : (State.pmbWord s w).reg ra i0 j0 = s.reg ra i0 j0 :=
  (Does.pmbWord (Does.refl _ s) (Foot.le_refl _) _).reg hn _ _
@[simp] theorem State.v_pmbWord (w : Nat) (hn : Foot.pmbWord.hasV va = false) : (State.pmbWord s w).v va i0 j0 = s.v va i0 j0 :=
  (Does.pmbWord (Does.refl _ s) (Foot.le_refl _) _).v hn _ _
@[simp] theorem State.part_pmbWord (w : Nat) (hn : Foot.pmbWord.hasP pa = false) : (State.pmbWord s w).part pa = s.part pa :=
  (Does.pmbWord (Does.refl _ s) (Foot.le_refl _) _).parts pa hn
@[simp] theorem State.rd_dynAddr (da : Nat) (ibi : Bool) (hn : Foot.dynAddr.hasR fl.r = false) : (State.dynAddr s da ibi).rd fl i0 j0 = s.rd fl i0 j0 :=
  (Does.dynAddr (Does.refl _ s) (Foot.le_refl _) _ _).rd hn _ _
@[simp] theorem State.reg_dynAddr (da : Nat) (ibi : Bool) (hn : Foot.dynAddr.hasR ra = false) : (State.dynAddr s da ibi).reg ra i0 j0 = s.reg ra i0 j0 :=
  (Does.dynAddr (Does.refl _ s) (Foot.le_refl _) _ _).reg hn _ _
@[simp] theorem State.v_dynAddr (da : Nat) (ibi : Bool) (hn : Foot.dynAddr.hasV va = false) : (State.dynAddr s da ibi).v va i0 j0 = s.v va i0 j0 :=
  (Does.dynAddr (Does.refl _ s) (Foot.le_refl _) _ _).v hn _ _
@[simp] theorem State.part_dynAddr (da : Nat) (ibi : Bool) (hn : Foot.dynAddr.hasP pa = false) : (State.dynAddr s da ibi).part pa = s.part pa :=
  (Does.dynAddr (Does.refl _ s) (Foot.le_refl _) _ _).parts pa hn
@[simp] theorem State.rd_bankReject (k : Nat) (hn : Foot.bankReject.hasR fl.r = false) : (State.bankReject s k).rd fl i0 j0 = s.rd fl i0 j0 :=
  (Does.bankReject (Does.refl _ s) (Foot.le_refl _) _).rd hn _ _
@[simp] theorem State.reg_bankReject (k : Nat) (hn : Foot.bankReject.hasR ra = false) : (State.bankReject s k).reg ra i0 j0 = s.reg ra i0 j0 :=
  (Does.bankReject (Does.refl _ s) (Foot.le_refl _) _).reg hn _ _
@[simp] theorem State.v_bankReject (k : Nat) (hn : Foot.bankReject.hasV va = false) : (State.bankReject s k).v va i0 j0 = s.v va i0 j0 :=
  (Does.bankReject (Does.refl _ s) (Foot.le_refl _) _).v hn _ _
@[simp] theorem State.part_bankReject (k : Nat) (hn : Foot.bankReject.hasP pa = false) : (State.bankReject s k).part pa = s.part pa :=
  (Does.bankReject (Does.refl _ s) (Foot.le_refl _) _).parts pa hn
@[simp] theorem State.rd_bankEcc (k : Nat) (off : Nat) (hn : Foot.bankEcc.hasR fl.r = false) : (State.bankEcc s k off).rd fl i0 j0 = s.rd fl i0 j0 :=
  (Does.bankEcc (Does.refl _ s) (Foot.le_refl _) _ _).rd hn _ _
@[simp] theorem State.reg_bankEcc (k : Nat) (off : Nat) (hn : Foot.bankEcc.hasR ra = false) : (State.bankEcc s k off).reg ra i0 j0 = s.reg ra i0 j0 :=
  (Does.bankEcc (Does.refl _ s) (Foot.le_refl _) _ _).reg hn _ _
@[simp] theorem State.v_bankEcc (k : Nat) (off : Nat) (hn : Foot.bankEcc.hasV va = false) : (State.bankEcc s k off).v va i0 j0 = s.v va i0 j0 :=
  (Does.bankEcc (Does.refl _ s) (Foot.le_refl _) _ _).v hn _ _
@[simp] theorem State.part_bankEcc (k : Nat) (off : Nat) (hn : Foot.bankEcc.hasP pa = false) : (State.bankEcc s k off).part pa = s.part pa :=
  (Does.bankEcc (Does.refl _ s) (Foot.le_refl _) _ _).parts pa hn
@[simp] theorem State.rd_objEcc (o : Nat) (first : Bool) (hn : Foot.objEcc.hasR fl.r = false) : (State.objEcc s o first).rd fl i0 j0 = s.rd fl i0 j0 :=
  (Does.objEcc (Does.refl _ s) (Foot.le_refl _) _ _).rd hn _ _
@[simp] theorem State.reg_objEcc (o : Nat) (first : Bool) (hn : Foot.objEcc.hasR ra = false) : (State.objEcc s o first).reg ra i0 j0 = s.reg ra i0 j0 :=
  (Does.objEcc (Does.refl _ s) (Foot.le_refl _) _ _).reg hn _ _
@[simp] theorem State.v_objEcc (o : Nat) (first : Bool) (hn : Foot.objEcc.hasV va = false) : (State.objEcc s o first).v va i0 j0 = s.v va i0 j0 :=
  (Does.objEcc (Does.refl _ s) (Foot.le_refl _) _ _).v hn _ _
@[simp] theorem State.part_objEcc (o : Nat) (first : Bool) (hn : Foot.objEcc.hasP pa = false) : (State.objEcc s o first).part pa = s.part pa :=
  (Does.objEcc (Does.refl _ s) (Foot.le_refl _) _ _).parts pa hn
@[simp] theorem State.rd_watchEcc (i : Nat) (hn : Foot.watchEcc.hasR fl.r = false) : (State.watchEcc s i).rd fl i0 j0 = s.rd fl i0 j0 :=
  (Does.watchEcc (Does.refl _ s) (Foot.le_refl _) _).rd hn _ _
@[simp] theorem State.reg_watchEcc (i : Nat) (hn : Foot.watchEcc.hasR ra = false) : (State.watchEcc s i).reg ra i0 j0 = s.reg ra i0 j0 :=
  (Does.watchEcc (Does.refl _ s) (Foot.le_refl _) _).reg hn _ _
@[simp] theorem State.v_watchEcc (i : Nat) (hn : Foot.watchEcc.hasV va = false) : (State.watchEcc s i).v va i0 j0 = s.v va i0 j0 :=
  (Does.watchEcc (Does.refl _ s) (Foot.le_refl _) _).v hn _ _
@[simp] theorem State.part_watchEcc (i : Nat) (hn : Foot.watchEcc.hasP pa = false) : (State.watchEcc s i).part pa = s.part pa :=
  (Does.watchEcc (Does.refl _ s) (Foot.le_refl _) _).parts pa hn
@[simp] theorem State.rd_strEcc (c : Nat) (p : Nat) (hn : Foot.strEcc.hasR fl.r = false) : (State.strEcc s c p).rd fl i0 j0 = s.rd fl i0 j0 :=
  (Does.strEcc (Does.refl _ s) (Foot.le_refl _) _ _).rd hn _ _
@[simp] theorem State.reg_strEcc (c : Nat) (p : Nat) (hn : Foot.strEcc.hasR ra = false) : (State.strEcc s c p).reg ra i0 j0 = s.reg ra i0 j0 :=
  (Does.strEcc (Does.refl _ s) (Foot.le_refl _) _ _).reg hn _ _
@[simp] theorem State.v_strEcc (c : Nat) (p : Nat) (hn : Foot.strEcc.hasV va = false) : (State.strEcc s c p).v va i0 j0 = s.v va i0 j0 :=
  (Does.strEcc (Does.refl _ s) (Foot.le_refl _) _ _).v hn _ _
@[simp] theorem State.part_strEcc (c : Nat) (p : Nat) (hn : Foot.strEcc.hasP pa = false) : (State.strEcc s c p).part pa = s.part pa :=
  (Does.strEcc (Does.refl _ s) (Foot.le_refl _) _ _).parts pa hn
@[simp] theorem State.rd_storeEcc (k : Nat) (n : Nat) (hn : Foot.storeEcc.hasR fl.r = false) : (State.storeEcc s k n).rd fl i0 j0 = s.rd fl i0 j0 :=
  (Does.storeEcc (Does.refl _ s) (Foot.le_refl _) _ _).rd hn _ _
@[simp] theorem State.reg_storeEcc (k : Nat) (n : Nat) (hn : Foot.storeEcc.hasR ra = false) : (State.storeEcc s k n).reg ra i0 j0 = s.reg ra i0 j0 :=
  (Does.storeEcc (Does.refl _ s) (Foot.le_refl _) _ _).reg hn _ _
@[simp] theorem State.v_storeEcc (k : Nat) (n : Nat) (hn : Foot.storeEcc.hasV va = false) : (State.storeEcc s k n).v va i0 j0 = s.v va i0 j0 :=
  (Does.storeEcc (Does.refl _ s) (Foot.le_refl _) _ _).v hn _ _
@[simp] theorem State.part_storeEcc (k : Nat) (n : Nat) (hn : Foot.storeEcc.hasP pa = false) : (State.storeEcc s k n).part pa = s.part pa :=
  (Does.storeEcc (Does.refl _ s) (Foot.le_refl _) _ _).parts pa hn
@[simp] theorem State.rd_scrubNext (hn : Foot.scrubNext.hasR fl.r = false) : (State.scrubNext s).rd fl i0 j0 = s.rd fl i0 j0 :=
  (Does.scrubNext (Does.refl _ s) (Foot.le_refl _)).rd hn _ _
@[simp] theorem State.reg_scrubNext (hn : Foot.scrubNext.hasR ra = false) : (State.scrubNext s).reg ra i0 j0 = s.reg ra i0 j0 :=
  (Does.scrubNext (Does.refl _ s) (Foot.le_refl _)).reg hn _ _
@[simp] theorem State.v_scrubNext (hn : Foot.scrubNext.hasV va = false) : (State.scrubNext s).v va i0 j0 = s.v va i0 j0 :=
  (Does.scrubNext (Does.refl _ s) (Foot.le_refl _)).v hn _ _
@[simp] theorem State.part_scrubNext (hn : Foot.scrubNext.hasP pa = false) : (State.scrubNext s).part pa = s.part pa :=
  (Does.scrubNext (Does.refl _ s) (Foot.le_refl _)).parts pa hn
@[simp] theorem State.rd_wordRead (k : Nat) (n : Nat) (err : Nat) (hn : Foot.wordRead.hasR fl.r = false) : (State.wordRead s k n err).rd fl i0 j0 = s.rd fl i0 j0 :=
  (Does.wordRead (Does.refl _ s) (Foot.le_refl _) _ _ _).rd hn _ _
@[simp] theorem State.reg_wordRead (k : Nat) (n : Nat) (err : Nat) (hn : Foot.wordRead.hasR ra = false) : (State.wordRead s k n err).reg ra i0 j0 = s.reg ra i0 j0 :=
  (Does.wordRead (Does.refl _ s) (Foot.le_refl _) _ _ _).reg hn _ _
@[simp] theorem State.v_wordRead (k : Nat) (n : Nat) (err : Nat) (hn : Foot.wordRead.hasV va = false) : (State.wordRead s k n err).v va i0 j0 = s.v va i0 j0 :=
  (Does.wordRead (Does.refl _ s) (Foot.le_refl _) _ _ _).v hn _ _
@[simp] theorem State.part_wordRead (k : Nat) (n : Nat) (err : Nat) (hn : Foot.wordRead.hasP pa = false) : (State.wordRead s k n err).part pa = s.part pa :=
  (Does.wordRead (Does.refl _ s) (Foot.le_refl _) _ _ _).parts pa hn

end Sys2Proof.Machine
end

