-- ==== Sys2Proof/Laws/RunsA.lean ====
section
/-!
SUPPORT. Does, with its footprint, for the meanings of Clock, PkgCmd, Scrub, Loader, Chan, Command, EstCmd.
-/
set_option linter.tactic.unusedName false
set_option linter.unusedVariables false
set_option linter.unusedTactic false
set_option linter.unreachableTactic false
namespace Sys2Proof.Machine

def Foot.execPkgCmdNone : Foot := ⟨0x3CB75443FFFFFFFFFFFD910060B007FDFFF70200179C0FC228E8, 0x3B85FE24637F0E13C0100008023FCFC0FFFFFFFFCDF0D0A30FF5AF8BFFF601E01FFFFFFFFFF8060083C1FFEFF7, 0x45DFA⟩

theorem Runs.execPkgCmdNone {G : Foot} {z s : State} (h : Does G z s) (hg : Foot.execPkgCmdNone.leB G = true) (t : Nat) (p : Port) : Runs G z (execPkgCmdNone t p s) := by
  unfold Sys2Proof.Machine.execPkgCmdNone
  with_reducible repeat' first
    | assumption | refine Does.start ?_ _ | refine Does.command ?_ (Foot.up hg (by decide)) _ _ _ (fun _ _ => ?_) _ _
    | refine Does.pkgCmd ?_ (Foot.up hg (by decide)) _ | refine Runs.next ?_

def Foot.execPkgHold : Foot := ⟨0x3CB75443FFFFFFFFFFFD910060B007FDFFF70200179C0FC228E8, 0x3B85FE24637F0E13C0100008023FCFC0FFFFFFFFCDF0D0A30FF5AF8BFFF601E01FFFFFFFFFF8060083C1FFEFF7, 0x45DFA⟩

theorem Runs.execPkgHold {G : Foot} {z s : State} (h : Does G z s) (hg : Foot.execPkgHold.leB G = true) (t : Nat) (p : Port) : Runs G z (execPkgHold t p s) := by
  unfold Sys2Proof.Machine.execPkgHold
  with_reducible repeat' first
    | assumption | refine Does.start ?_ _ | refine Does.command ?_ (Foot.up hg (by decide)) _ _ _ (fun _ _ => ?_) _ _
    | refine Does.pkgCmd ?_ (Foot.up hg (by decide)) _ | refine Runs.next ?_

def Foot.execPkgResume : Foot := ⟨0x3CB75443FFFFFFFFFFFD910060B007FDFFF70200179C0FC228E8, 0x3B85FE24637F0E13C0100008023FCFC0FFFFFFFFCDF0D0A30FF5AF8BFFF601E01FFFFFFFFFF8060083C1FFEFF7, 0x45DFA⟩

theorem Runs.execPkgResume {G : Foot} {z s : State} (h : Does G z s) (hg : Foot.execPkgResume.leB G = true) (t : Nat) (p : Port) : Runs G z (execPkgResume t p s) := by
  unfold Sys2Proof.Machine.execPkgResume
  with_reducible repeat' first
    | assumption | refine Does.start ?_ _ | refine Does.command ?_ (Foot.up hg (by decide)) _ _ _ (fun _ _ => ?_) _ _
    | refine Does.pkgCmd ?_ (Foot.up hg (by decide)) _ | refine Runs.next ?_

def Foot.execPkgSleep : Foot := ⟨0x3CB75443FFFFFFFFFFFD910060B007FDFFF70200179C0FC228E8, 0x3B85FE24637F0E13C0100008023FCFC0FFFFFFFFCDF0D0A30FF5AF8BFFF601E01FFFFFFFFFF8060083C1FFEFF7, 0x45DFA⟩

theorem Runs.execPkgSleep {G : Foot} {z s : State} (h : Does G z s) (hg : Foot.execPkgSleep.leB G = true) (t : Nat) (p : Port) : Runs G z (execPkgSleep t p s) := by
  unfold Sys2Proof.Machine.execPkgSleep
  with_reducible repeat' first
    | assumption | refine Does.start ?_ _ | refine Does.command ?_ (Foot.up hg (by decide)) _ _ _ (fun _ _ => ?_) _ _
    | refine Does.pkgCmd ?_ (Foot.up hg (by decide)) _ | refine Runs.next ?_

def Foot.execPkgDeepSleep : Foot := ⟨0x3CB75443FFFFFFFFFFFD910060B007FDFFF70200179C0FC228E8, 0x3B85FE24637F0E13C0100008023FCFC0FFFFFFFFCDF0D0A30FF5AF8BFFF601E01FFFFFFFFFF8060083C1FFEFF7, 0x45DFA⟩

theorem Runs.execPkgDeepSleep {G : Foot} {z s : State} (h : Does G z s) (hg : Foot.execPkgDeepSleep.leB G = true) (t : Nat) (p : Port) : Runs G z (execPkgDeepSleep t p s) := by
  unfold Sys2Proof.Machine.execPkgDeepSleep
  with_reducible repeat' first
    | assumption | refine Does.start ?_ _ | refine Does.command ?_ (Foot.up hg (by decide)) _ _ _ (fun _ _ => ?_) _ _
    | refine Does.pkgCmd ?_ (Foot.up hg (by decide)) _ | refine Runs.next ?_

def Foot.execPkgWake : Foot := ⟨0x3CB75443FFFFFFFFFFFD910060B007FDFFF70200179C0FC228E8, 0x3B85FE24637F0E13C0100008023FCFC0FFFFFFFFCDF0D0A30FF5AF8BFFF601E01FFFFFFFFFF8060083C1FFEFF7, 0x45DFA⟩

theorem Runs.execPkgWake {G : Foot} {z s : State} (h : Does G z s) (hg : Foot.execPkgWake.leB G = true) (t : Nat) (p : Port) : Runs G z (execPkgWake t p s) := by
  unfold Sys2Proof.Machine.execPkgWake
  with_reducible repeat' first
    | assumption | refine Does.start ?_ _ | refine Does.command ?_ (Foot.up hg (by decide)) _ _ _ (fun _ _ => ?_) _ _
    | refine Does.pkgCmd ?_ (Foot.up hg (by decide)) _ | refine Runs.next ?_

def Foot.execPkgRecover : Foot := ⟨0x3CB75443FFFFFFFFFFFD910060B007FDFFF70200179C0FC228E8, 0x3B85FE24637F0E13C0100008023FCFC0FFFFFFFFCDF0D0A30FF5AF8BFFF601E01FFFFFFFFFF8060083C1FFEFF7, 0x45DFA⟩

theorem Runs.execPkgRecover {G : Foot} {z s : State} (h : Does G z s) (hg : Foot.execPkgRecover.leB G = true) (t : Nat) (p : Port) : Runs G z (execPkgRecover t p s) := by
  unfold Sys2Proof.Machine.execPkgRecover
  with_reducible repeat' first
    | assumption | refine Does.start ?_ _ | refine Does.command ?_ (Foot.up hg (by decide)) _ _ _ (fun _ _ => ?_) _ _
    | refine Does.pkgCmd ?_ (Foot.up hg (by decide)) _ | refine Runs.next ?_

def Foot.execPkgFail : Foot := ⟨0x3CB75443FFFFFFFFFFFD910060B007FDFFF70200179C0FC228E8, 0x3B85FE24637F0E13C0100008023FCFC0FFFFFFFFCDF0D0A30FF5AF8BFFF601E01FFFFFFFFFF8060083C1FFEFF7, 0x45DFA⟩

theorem Runs.execPkgFail {G : Foot} {z s : State} (h : Does G z s) (hg : Foot.execPkgFail.leB G = true) (t : Nat) (p : Port) : Runs G z (execPkgFail t p s) := by
  unfold Sys2Proof.Machine.execPkgFail
  with_reducible repeat' first
    | assumption | refine Does.start ?_ _ | refine Does.command ?_ (Foot.up hg (by decide)) _ _ _ (fun _ _ => ?_) _ _
    | refine Does.pkgCmd ?_ (Foot.up hg (by decide)) _ | refine Runs.next ?_

def Foot.execPkgResetToAon : Foot := ⟨0x3CB75443FFFFFFFFFFFD910060B007FDFFF70200179C0FC228E8, 0x3B85FE24637F0E13C0100008023FCFC0FFFFFFFFCDF0D0A30FF5AF8BFFF601E01FFFFFFFFFF8060083C1FFEFF7, 0x45DFA⟩

theorem Runs.execPkgResetToAon {G : Foot} {z s : State} (h : Does G z s) (hg : Foot.execPkgResetToAon.leB G = true) (t : Nat) (p : Port) : Runs G z (execPkgResetToAon t p s) := by
  unfold Sys2Proof.Machine.execPkgResetToAon
  with_reducible repeat' first
    | assumption | refine Does.start ?_ _ | refine Does.command ?_ (Foot.up hg (by decide)) _ _ _ (fun _ _ => ?_) _ _
    | refine Does.pkgCmd ?_ (Foot.up hg (by decide)) _ | refine Runs.next ?_

def Foot.execHoldTimeout : Foot := ⟨0x7004000000000000000000000000000130200008000000008, 0x10000000000000000000000000000000000000008000000000000007, 0x30⟩

theorem Runs.execHoldTimeout {G : Foot} {z s : State} (h : Does G z s) (hg : Foot.execHoldTimeout.leB G = true) (t : Nat) : Runs G z (execHoldTimeout t s) := by
  unfold Sys2Proof.Machine.execHoldTimeout
  with_reducible repeat' first
    | assumption
    | (extract_lets +onlyGivenNames a; first | (refine (fun (k : Does G z a) => ?_) ?_; rotate_left; unfold a; clear a; rotate_left; clear_value a; revert a; intros) | (clear_value a; revert a; intros))
    | refine Does.flag ?_ ?_ _ _ _ | refine Does.setV ?_ ?_ _ _ _ | refine Does.start ?_ _
    | (refine Does.each ?_ _ _ fun _ _ _ _ => ?_) | refine Does.event ?_ (Foot.up hg (by decide)) _ _ | refine Runs.next ?_
    | refine Runs.ite ?_ ?_ | exact Foot.upR hg (by decide) | exact Foot.upV hg (by decide)
    | exact Foot.upM hg ‹_ ∈ _› (by decide) | (dsimp -zeta only) | refine Does.ite ?_ ?_

def Foot.execQueueDrainDone : Foot := ⟨0x34070040FFFFFFFFFFFD910060B007FDFFF30200179C00C00868, 0x3B85FE24637F8613C0000008023FCFC0FFC1FFFFE070D0010FF1AF8BFFF601801FFFFFFFFFF8060083C1FFEFF7, 0x450F2⟩

theorem Runs.execQueueDrainDone {G : Foot} {z s : State} (h : Does G z s) (hg : Foot.execQueueDrainDone.leB G = true) (t : Nat) : Runs G z (execQueueDrainDone t s) := by
  unfold Sys2Proof.Machine.execQueueDrainDone
  with_reducible repeat' first
    | assumption | refine Does.start ?_ _ | refine Does.pkgRun ?_ (Foot.up hg (by decide)) | refine Runs.next ?_

def Foot.execWakeTrigger : Foot := ⟨0x3CB75443FFFFFFFFFFFD910060B007FDFFF70200179C0FC22868, 0x3B85FE24637F0E13C0100008023FCFC0FFEFFFFFCDF0D0A30FF5AF8BFFF601E01FFFFFFFFFF8060083C1FFEFF7, 0x45DF2⟩

theorem Runs.execWakeTrigger {G : Foot} {z s : State} (h : Does G z s) (hg : Foot.execWakeTrigger.leB G = true) (t : Nat) (k : Nat) : Runs G z (execWakeTrigger t k s) := by
  unfold Sys2Proof.Machine.execWakeTrigger
  with_reducible repeat' first
    | assumption
    | (extract_lets +onlyGivenNames a; first | (refine (fun (k : Does G z a) => ?_) ?_; rotate_left; unfold a; clear a; rotate_left; clear_value a; revert a; intros) | (clear_value a; revert a; intros))
    | refine Does.flag ?_ ?_ _ _ _ | refine Does.start ?_ _ | refine Does.wakeUp ?_ (Foot.up hg (by decide)) _
    | refine Runs.next ?_ | refine Runs.ite ?_ ?_ | exact Foot.upR hg (by decide) | (dsimp -zeta only) | refine Does.ite ?_ ?_

def Foot.execTripLapse : Foot := ⟨0x8, 0, 0⟩

theorem Runs.execTripLapse {G : Foot} {z s : State} (h : Does G z s) (hg : Foot.execTripLapse.leB G = true) (t : Nat) : Runs G z (execTripLapse t s) := by
  unfold Sys2Proof.Machine.execTripLapse
  with_reducible repeat' first
    | assumption | refine Does.start ?_ _ | refine Does.tripShow ?_ (Foot.up hg (by decide)) | refine Runs.next ?_

def Foot.execSleepQuiesceDone : Foot := ⟨0x40402000000000000000000000000000000000000000, 0x1800000000001400000000000000000000000000000F0000000800000000000000000000000, 0⟩

theorem Runs.execSleepQuiesceDone {G : Foot} {z s : State} (h : Does G z s) (hg : Foot.execSleepQuiesceDone.leB G = true) (t : Nat) (l : Nat) : Runs G z (execSleepQuiesceDone t l s) := by
  unfold Sys2Proof.Machine.execSleepQuiesceDone
  with_reducible repeat' first
    | assumption
    | (extract_lets +onlyGivenNames a; first | (refine (fun (k : Does G z a) => ?_) ?_; rotate_left; unfold a; clear a; rotate_left; clear_value a; revert a; intros) | (clear_value a; revert a; intros))
    | refine Does.setV ?_ ?_ _ _ _ | refine Does.start ?_ _ | refine Does.leafAcct ?_ (Foot.up hg (by decide)) _
    | refine Runs.next ?_ | refine Runs.ite ?_ ?_ | exact Foot.upV hg (by decide) | (dsimp -zeta only) | refine Does.ite ?_ ?_

def Foot.execCcpQack : Foot := ⟨0, 0x300000000000000000000000, 0⟩

theorem Runs.execCcpQack {G : Foot} {z s : State} (h : Does G z s) (hg : Foot.execCcpQack.leB G = true) (t : Nat) (l : Nat) (p : Nat) : Runs G z (execCcpQack t l p s) := by
  unfold Sys2Proof.Machine.execCcpQack
  with_reducible repeat' first
    | assumption
    | (extract_lets +onlyGivenNames a; first | (refine (fun (k : Does G z a) => ?_) ?_; rotate_left; unfold a; clear a; rotate_left; clear_value a; revert a; intros) | (clear_value a; revert a; intros))
    | refine Does.setV ?_ ?_ _ _ _ | refine Does.start ?_ _ | refine Runs.next ?_ | refine Runs.ite ?_ ?_
    | exact Foot.upV hg (by decide) | (dsimp -zeta only) | refine Does.ite ?_ ?_

def Foot.execFmaxLag : Foot := ⟨0x7004000004000000000000000000000130200008000000000, 0x7, 0x30⟩

theorem Runs.execFmaxLag {G : Foot} {z s : State} (h : Does G z s) (hg : Foot.execFmaxLag.leB G = true) (t : Nat) (l : Nat) (p : Nat) : Runs G z (execFmaxLag t l p s) := by
  unfold Sys2Proof.Machine.execFmaxLag
  with_reducible repeat' first
    | assumption
    | (extract_lets +onlyGivenNames a; first | (refine (fun (k : Does G z a) => ?_) ?_; rotate_left; unfold a; clear a; rotate_left; clear_value a; revert a; intros) | (clear_value a; revert a; intros))
    | refine Does.flag ?_ ?_ _ _ _ | refine Does.start ?_ _ | refine Does.event ?_ (Foot.up hg (by decide)) _ _
    | refine Runs.next ?_ | refine Runs.ite ?_ ?_ | exact Foot.upR hg (by decide) | (dsimp -zeta only) | refine Does.ite ?_ ?_

def Foot.execVfSlotLower : Foot := ⟨0x7004000004000010000000020000000130200008000000000, 0x800000000000040000000000000000000007, 0x30⟩

theorem Runs.execVfSlotLower {G : Foot} {z s : State} (h : Does G z s) (hg : Foot.execVfSlotLower.leB G = true) (t : Nat) (r : Nat) : Runs G z (execVfSlotLower t r s) := by
  unfold Sys2Proof.Machine.execVfSlotLower
  with_reducible repeat' first
    | assumption | refine Does.start ?_ _ | refine Does.vfLower ?_ (Foot.up hg (by decide)) _ | refine Runs.next ?_

def Foot.execHubModeReq : Foot := ⟨0x1800000080, 0, 0⟩

theorem Runs.execHubModeReq {G : Foot} {z s : State} (h : Does G z s) (hg : Foot.execHubModeReq.leB G = true) (t : Nat) (p : Port) (m : Nat) : Runs G z (execHubModeReq t p m s) := by
  unfold Sys2Proof.Machine.execHubModeReq
  with_reducible repeat' first
    | assumption | refine Does.start ?_ _ | refine Does.command ?_ (Foot.up hg (by decide)) _ _ _ (fun _ _ => ?_) _ _
    | refine Does.modeReq ?_ (Foot.up hg (by decide)) _ | refine Runs.next ?_

def Foot.execWearPass : Foot := ⟨0x7004000004000000003000000000000130200008000000000, 0x700000200000000000000000000000000000000800000000000000000000000000000000000007, 0x30⟩

theorem Runs.execWearPass {G : Foot} {z s : State} (h : Does G z s) (hg : Foot.execWearPass.leB G = true) (t : Nat) (ages : List (Nat × Nat × Option Nat)) : Runs G z (execWearPass t ages s) := by
  unfold Sys2Proof.Machine.execWearPass
  with_reducible repeat' first
    | assumption
    | (extract_lets +onlyGivenNames a; first | (refine (fun (k : Does G z a) => ?_) ?_; rotate_left; unfold a; clear a; rotate_left; clear_value a; revert a; intros) | (clear_value a; revert a; intros))
    | refine Does.start ?_ _ | (refine Does.each ?_ _ _ fun _ _ _ _ => ?_) | refine Does.bgStart ?_ (Foot.up hg (by decide)) _
    | refine Does.wearPort ?_ (Foot.up hg (by decide)) _ _ _ | refine Does.expoClose ?_ (Foot.up hg (by decide)) _
    | refine Does.bgEnd ?_ (Foot.up hg (by decide)) _ | refine Runs.next ?_ | refine Runs.ite ?_ ?_ | (dsimp -zeta only)
    | refine Does.ite ?_ ?_

def Foot.execClkFail : Foot := ⟨0x3CB75443FFFFFFFFFFFD910060B007FDFFF30200179C0FC22868, 0x3B85FE3C637F0E13C0900008023FCFC0FFAFC7FFCDF0D0A30FF5AC8BFFF601E01FFFFFFFFFF8060083C1FFEFF7, 0x45DF2⟩

theorem Runs.execClkFail {G : Foot} {z s : State} (h : Does G z s) (hg : Foot.execClkFail.leB G = true) (t : Nat) (u : Nat) (cause : Nat) : Runs G z (execClkFail t u cause s) := by
  unfold Sys2Proof.Machine.execClkFail
  with_reducible repeat' first
    | assumption
    | (extract_lets +onlyGivenNames a; first | (refine (fun (k : Does G z a) => ?_) ?_; rotate_left; unfold a; clear a; rotate_left; clear_value a; revert a; intros) | (clear_value a; revert a; intros))
    | refine Does.wr ?_ ?_ _ _ _ | refine Does.flag ?_ ?_ _ _ _ | refine Does.setV ?_ ?_ _ _ _ | refine Does.start ?_ _
    | (refine Does.when ?_ _ _ fun _ _ => ?_) | refine Does.freshFree ?_ (Foot.upP hg (by decide))
    | refine Does.clkForce ?_ (Foot.up hg (by decide)) _ | refine Does.incSat ?_ ?_ _ _ _
    | refine Does.unitEvent ?_ (Foot.up hg (by decide)) _ _ | refine Does.trip ?_ (Foot.up hg (by decide)) _ _
    | refine Runs.next ?_ | refine Runs.ite ?_ ?_ | exact Foot.upR hg (by decide) | exact Foot.upV hg (by decide)
    | (dsimp -zeta only) | refine Does.ite ?_ ?_

def Foot.execQuietPeriodEnd : Foot := ⟨0, 0x4000000000000000000000000000000000000000000000000000, 0⟩

theorem Runs.execQuietPeriodEnd {G : Foot} {z s : State} (h : Does G z s) (hg : Foot.execQuietPeriodEnd.leB G = true) (t : Nat) (u : Nat) : Runs G z (execQuietPeriodEnd t u s) := by
  unfold Sys2Proof.Machine.execQuietPeriodEnd
  with_reducible repeat' first
    | assumption
    | (extract_lets +onlyGivenNames a; first | (refine (fun (k : Does G z a) => ?_) ?_; rotate_left; unfold a; clear a; rotate_left; clear_value a; revert a; intros) | (clear_value a; revert a; intros))
    | refine Does.setV ?_ ?_ _ _ _ | refine Does.start ?_ _ | refine Runs.next ?_ | refine Runs.ite ?_ ?_
    | exact Foot.upV hg (by decide) | (dsimp -zeta only) | refine Does.ite ?_ ?_

def Foot.execMuxHung : Foot := ⟨0x7004010000002000010002080000000730200008000400000, 0x23800000000000000000000000000000140000000000001A0000000000000000000000000000000000007, 0x30⟩

theorem Runs.execMuxHung {G : Foot} {z s : State} (h : Does G z s) (hg : Foot.execMuxHung.leB G = true) (t : Nat) (u : Nat) : Runs G z (execMuxHung t u s) := by
  unfold Sys2Proof.Machine.execMuxHung
  with_reducible repeat' first
    | assumption
    | (extract_lets +onlyGivenNames a; first | (refine (fun (k : Does G z a) => ?_) ?_; rotate_left; unfold a; clear a; rotate_left; clear_value a; revert a; intros) | (clear_value a; revert a; intros))
    | refine Does.wr ?_ ?_ _ _ _ | refine Does.flag ?_ ?_ _ _ _ | refine Does.start ?_ _
    | refine Does.clkForce ?_ (Foot.up hg (by decide)) _ | refine Does.unitEvent ?_ (Foot.up hg (by decide)) _ _
    | refine Runs.next ?_ | refine Runs.ite ?_ ?_ | exact Foot.upR hg (by decide) | (dsimp -zeta only) | refine Does.ite ?_ ?_

def Foot.execClkSel : Foot := ⟨0x600000001800000000, 0x3000000000000000000000000000000000000000000000000000, 0⟩

theorem Runs.execClkSel {G : Foot} {z s : State} (h : Does G z s) (hg : Foot.execClkSel.leB G = true) (t : Nat) (p : Port) (u : Nat) (sel : Nat) : Runs G z (execClkSel t p u sel s) := by
  unfold Sys2Proof.Machine.execClkSel
  with_reducible repeat' first
    | assumption | refine Does.start ?_ _ | refine Does.command ?_ (Foot.up hg (by decide)) _ _ _ (fun _ _ => ?_) _ _
    | refine Does.clkSel ?_ (Foot.up hg (by decide)) _ _ | refine Runs.next ?_

def Foot.execRecal : Foot := ⟨0x1800000000, 0x8000000000000000000000000000000000000000000000000000, 0⟩

theorem Runs.execRecal {G : Foot} {z s : State} (h : Does G z s) (hg : Foot.execRecal.leB G = true) (t : Nat) (p : Port) (u : Nat) : Runs G z (execRecal t p u s) := by
  unfold Sys2Proof.Machine.execRecal
  with_reducible repeat' first
    | assumption | refine Does.start ?_ _ | refine Does.command ?_ (Foot.up hg (by decide)) _ _ _ (fun _ _ => ?_) _ _
    | refine Does.recal ?_ (Foot.up hg (by decide)) _ | refine Runs.next ?_

def Foot.execOscCalDone : Foot := ⟨0x7004010000002000000000000000001D30200008000400000, 0x8000000000000000000000000000000000000000000000000007, 0x30⟩

theorem Runs.execOscCalDone {G : Foot} {z s : State} (h : Does G z s) (hg : Foot.execOscCalDone.leB G = true) (t : Nat) (u : Nat) (n : Nat) : Runs G z (execOscCalDone t u n s) := by
  unfold Sys2Proof.Machine.execOscCalDone
  with_reducible repeat' first
    | assumption
    | (extract_lets +onlyGivenNames a; first | (refine (fun (k : Does G z a) => ?_) ?_; rotate_left; unfold a; clear a; rotate_left; clear_value a; revert a; intros) | (clear_value a; revert a; intros))
    | refine Does.start ?_ _ | refine Does.oscCal ?_ (Foot.up hg (by decide)) _ _ | refine Runs.next ?_ | refine Runs.ite ?_ ?_
    | (dsimp -zeta only) | refine Does.ite ?_ ?_

def Foot.execMuxSwitchComplete : Foot := ⟨0x7004000000000000000000080000000530200008000000000, 0x380000000000800000000000000000018000000000000000000000000000000000000000000000000007, 0x30⟩

theorem Runs.execMuxSwitchComplete {G : Foot} {z s : State} (h : Does G z s) (hg : Foot.execMuxSwitchComplete.leB G = true) (t : Nat) (u : Nat) : Runs G z (execMuxSwitchComplete t u s) := by
  unfold Sys2Proof.Machine.execMuxSwitchComplete
  with_reducible repeat' first
    | assumption
    | (extract_lets +onlyGivenNames a; first | (refine (fun (k : Does G z a) => ?_) ?_; rotate_left; unfold a; clear a; rotate_left; clear_value a; revert a; intros) | (clear_value a; revert a; intros))
    | refine Does.wr ?_ ?_ _ _ _ | refine Does.setV ?_ ?_ _ _ _ | refine Does.start ?_ _
    | (refine Does.when ?_ _ _ fun _ _ => ?_) | refine Does.gridBack ?_ (Foot.up hg (by decide))
    | refine Does.gridLost ?_ (Foot.up hg (by decide)) | refine Runs.next ?_ | refine Runs.ite ?_ ?_
    | exact Foot.upR hg (by decide) | exact Foot.upV hg (by decide) | (dsimp -zeta only) | refine Does.ite ?_ ?_

def Foot.execMonGood : Foot := ⟨0xC00000000000000000, 0, 0x40000⟩

theorem Runs.execMonGood {G : Foot} {z s : State} (h : Does G z s) (hg : Foot.execMonGood.leB G = true) (t : Nat) (u : Nat) : Runs G z (execMonGood t u s) := by
  unfold Sys2Proof.Machine.execMonGood
  with_reducible repeat' first
    | assumption
    | (extract_lets +onlyGivenNames a; first | (refine (fun (k : Does G z a) => ?_) ?_; rotate_left; unfold a; clear a; rotate_left; clear_value a; revert a; intros) | (clear_value a; revert a; intros))
    | refine Does.wr ?_ ?_ _ _ _ | refine Does.start ?_ _ | refine Does.freshFree ?_ (Foot.upP hg (by decide))
    | refine Runs.next ?_ | refine Runs.ite ?_ ?_ | exact Foot.upR hg (by decide) | (dsimp -zeta only) | refine Does.ite ?_ ?_

def Foot.execClkReturn : Foot := ⟨0x600000001900000000, 0x13000000000000000000000000000000000000000000000000000, 0⟩

theorem Runs.execClkReturn {G : Foot} {z s : State} (h : Does G z s) (hg : Foot.execClkReturn.leB G = true) (t : Nat) (p : Port) : Runs G z (execClkReturn t p s) := by
  unfold Sys2Proof.Machine.execClkReturn
  with_reducible repeat' first
    | assumption | refine Does.start ?_ _ | refine Does.command ?_ (Foot.up hg (by decide)) _ _ _ (fun _ _ => ?_) _ _
    | refine Does.clkReturn ?_ (Foot.up hg (by decide)) | refine Runs.next ?_

def Foot.execRstWarm : Foot := ⟨0x7FFFFFFFFFFFFFFFFFFFFFFFFFFFFFFFFFFFFFFFFFFFFFFFFFFFFFF, 0x3FFFFFFFFFFFFFFFFFFFFFFFFFFFFFFFFFFFFFFFFFFFFFFFFFFFFFFFFFFFFFFFFFFFFFFFFFFFFFFFFFFFFFFFFF, 0xA3FFE⟩

theorem Runs.execRstWarm {G : Foot} {z s : State} (h : Does G z s) (hg : Foot.execRstWarm.leB G = true) (t : Nat) (p : Port) : Runs G z (execRstWarm t p s) := by
  unfold Sys2Proof.Machine.execRstWarm
  with_reducible repeat' first
    | assumption | refine Does.start ?_ _ | refine Does.command ?_ (Foot.up hg (by decide)) _ _ _ (fun _ _ => ?_) _ _
    | refine Does.rstWarm ?_ (Foot.up hg (by decide)) | refine Runs.next ?_

def Foot.execTestModeEntry : Foot := ⟨0x1800000000, 0x400000000000000000000000000000000000000000000000000000000000000000000000, 0x80640⟩

theorem Runs.execTestModeEntry {G : Foot} {z s : State} (h : Does G z s) (hg : Foot.execTestModeEntry.leB G = true) (t : Nat) : Runs G z (execTestModeEntry t s) := by
  unfold Sys2Proof.Machine.execTestModeEntry
  with_reducible repeat' first
    | assumption
    | (extract_lets +onlyGivenNames a; first | (refine (fun (k : Does G z a) => ?_) ?_; rotate_left; unfold a; clear a; rotate_left; clear_value a; revert a; intros) | (clear_value a; revert a; intros))
    | refine Does.setV ?_ ?_ _ _ _ | refine Does.start ?_ _ | refine Does.portsAbsent ?_ (Foot.up hg (by decide))
    | refine Runs.next ?_ | refine Runs.ite ?_ ?_ | exact Foot.upV hg (by decide) | (dsimp -zeta only) | refine Does.ite ?_ ?_

def Foot.execTestModeExit : Foot := ⟨0x7FFFFFFFFFFFFFFFFFFFFFFFFFFFFFFFFFFFFFFFFFFFFFFFFFFFFFF, 0x3FFFFFFFFFFFFFFFFFFFFFFFFFFFFFFFFFFFFFFFFFFFFFFFFFFFFFFFFFFFFFFFFFFFFFFFFFFFFFFFFFFFFFFFFF, 0xA3FFE⟩

theorem Runs.execTestModeExit {G : Foot} {z s : State} (h : Does G z s) (hg : Foot.execTestModeExit.leB G = true) (t : Nat) : Runs G z (execTestModeExit t s) := by
  unfold Sys2Proof.Machine.execTestModeExit
  with_reducible repeat' first
    | assumption
    | (extract_lets +onlyGivenNames a; first | (refine (fun (k : Does G z a) => ?_) ?_; rotate_left; unfold a; clear a; rotate_left; clear_value a; revert a; intros) | (clear_value a; revert a; intros))
    | refine Does.setV ?_ ?_ _ _ _ | refine Does.start ?_ _ | refine Does.warm ?_ (Foot.up hg (by decide)) _
    | refine Runs.next ?_ | refine Runs.ite ?_ ?_ | exact Foot.upV hg (by decide) | (dsimp -zeta only) | refine Does.ite ?_ ?_

def Foot.execAonSupplyLoss : Foot := ⟨0x7FFFFFFFFFFFFFFFFFFFFFFFFFFFFFFFFFFFFFFFFFFFFFFFFFFFFFF, 0x3FFFFFFFFFFFFFFFFFFFFFFFFFFFFFFFFFFFFFFFFFFFFFFFFFFFFFFFFFFFFFFFFFFFFFFFFFFFFFFFFFFFFFFFFF, 0xFFFFF⟩

theorem Runs.execAonSupplyLoss {G : Foot} {z s : State} (h : Does G z s) (hg : Foot.execAonSupplyLoss.leB G = true) (t : Nat) : Runs G z (execAonSupplyLoss t s) := by
  unfold Sys2Proof.Machine.execAonSupplyLoss
  with_reducible repeat' first
    | assumption | refine Does.start ?_ _ | refine Does.supplyLost ?_ (Foot.up hg (by decide)) | refine Runs.next ?_

def Foot.execPowerOnResetEnd : Foot := ⟨0x7FFFFFFFFFFFFFFFFFFFFFFFFFFFFFFFFFFFFFFFFFFFFFFFFFFFFFF, 0x3FFFFFFFFFFFFFFFFFFFFFFFFFFFFFFFFFFFFFFFFFFFFFFFFFFFFFFFFFFFFFFFFFFFFFFFFFFFFFFFFFFFFFFFFF, 0xBFFFF⟩

theorem Runs.execPowerOnResetEnd {G : Foot} {z s : State} (h : Does G z s) (hg : Foot.execPowerOnResetEnd.leB G = true) (t : Nat) (n : Nat) : Runs G z (execPowerOnResetEnd t n s) := by
  unfold Sys2Proof.Machine.execPowerOnResetEnd
  with_reducible repeat' first
    | assumption
    | (extract_lets +onlyGivenNames a; first | (refine (fun (k : Does G z a) => ?_) ?_; rotate_left; unfold a; clear a; rotate_left; clear_value a; revert a; intros) | (clear_value a; revert a; intros))
    | refine Does.wr ?_ ?_ _ _ _ | refine Does.setV ?_ ?_ _ _ _ | refine Does.start ?_ _
    | (refine Does.when ?_ _ _ fun _ _ => ?_) | refine Does.blank ?_ (Foot.up hg (by decide))
    | refine Does.oscCal ?_ (Foot.up hg (by decide)) _ _ | refine Does.candidate ?_ (Foot.up hg (by decide))
    | refine Runs.next ?_ | refine Runs.ite ?_ ?_ | exact Foot.upR hg (by decide) | exact Foot.upV hg (by decide)
    | (dsimp -zeta only) | refine Does.ite ?_ ?_ | refine Does.ite_snd ?_ ?_ | refine Foot.pick ?_ ?_ | split
    | refine Does.snd ‹_ = (_, _)› ?_
    | (refine Does.mk' ?_ rfl rfl rfl rfl rfl rfl rfl rfl rfl rfl ?_; rotate_left; intro p hn; cases p <;> first | with_unfolding_all rfl | exact Foot.noP hg (by decide) hn)

def Foot.execIslRst : Foot := ⟨0x34070040FFFFFFFFFFFD8000200007FDFFF30200079C00400860, 0x3B85FC00207F8613C0000000003FCFC0FF8001FEE070D00100008003FFF601801FFFFFFFFFF8000003C1FFEFF7, 0x450F0⟩

theorem Runs.execIslRst {G : Foot} {z s : State} (h : Does G z s) (hg : Foot.execIslRst.leB G = true) (t : Nat) (p : Port) (d : Nat) : Runs G z (execIslRst t p d s) := by
  unfold Sys2Proof.Machine.execIslRst
  with_reducible repeat' first
    | assumption | refine Does.start ?_ _ | refine Does.command ?_ (Foot.up hg (by decide)) _ _ _ (fun _ _ => ?_) _ _
    | refine Does.islReset ?_ (Foot.up hg (by decide)) _ | refine Runs.next ?_

def Foot.execIslRstEnd : Foot := ⟨0, 0x20000000000000000000000000000000000000000000000000, 0⟩

theorem Runs.execIslRstEnd {G : Foot} {z s : State} (h : Does G z s) (hg : Foot.execIslRstEnd.leB G = true) (t : Nat) (d : Nat) : Runs G z (execIslRstEnd t d s) := by
  unfold Sys2Proof.Machine.execIslRstEnd
  with_reducible repeat' first
    | assumption
    | (extract_lets +onlyGivenNames a; first | (refine (fun (k : Does G z a) => ?_) ?_; rotate_left; unfold a; clear a; rotate_left; clear_value a; revert a; intros) | (clear_value a; revert a; intros))
    | refine Does.setV ?_ ?_ _ _ _ | refine Does.start ?_ _ | refine Runs.next ?_ | refine Runs.ite ?_ ?_
    | exact Foot.upV hg (by decide) | (dsimp -zeta only) | refine Does.ite ?_ ?_

def Foot.execIslandRelease : Foot := ⟨0, 0x40000000000000000008040000000000000000000000000000000000000000000002000, 0⟩

theorem Runs.execIslandRelease {G : Foot} {z s : State} (h : Does G z s) (hg : Foot.execIslandRelease.leB G = true) (t : Nat) (d : Nat) : Runs G z (execIslandRelease t d s) := by
  unfold Sys2Proof.Machine.execIslandRelease
  with_reducible repeat' first
    | assumption
    | (extract_lets +onlyGivenNames a; first | (refine (fun (k : Does G z a) => ?_) ?_; rotate_left; unfold a; clear a; rotate_left; clear_value a; revert a; intros) | (clear_value a; revert a; intros))
    | refine Does.setV ?_ ?_ _ _ _ | refine Does.start ?_ _ | (refine Does.when ?_ _ _ fun _ _ => ?_) | refine Runs.next ?_
    | refine Runs.ite ?_ ?_ | exact Foot.upV hg (by decide) | (dsimp -zeta only) | refine Does.ite ?_ ?_

def Foot.execIslNostart : Foot := ⟨0x7004000000000000000000000000000130200008000000000, 0x40000000000000000000000000000000000000000000000007, 0x30⟩

theorem Runs.execIslNostart {G : Foot} {z s : State} (h : Does G z s) (hg : Foot.execIslNostart.leB G = true) (t : Nat) (d : Nat) : Runs G z (execIslNostart t d s) := by
  unfold Sys2Proof.Machine.execIslNostart
  with_reducible repeat' first
    | assumption
    | (extract_lets +onlyGivenNames a; first | (refine (fun (k : Does G z a) => ?_) ?_; rotate_left; unfold a; clear a; rotate_left; clear_value a; revert a; intros) | (clear_value a; revert a; intros))
    | refine Does.setV ?_ ?_ _ _ _ | refine Does.start ?_ _ | refine Does.event ?_ (Foot.up hg (by decide)) _ _
    | refine Runs.next ?_ | refine Runs.ite ?_ ?_ | exact Foot.upV hg (by decide) | (dsimp -zeta only) | refine Does.ite ?_ ?_

def Foot.execTimeSend : Foot := ⟨0x10000002000000000000000000000000000000400000, 0x1000000000000000000000800000000000000000000000000000000000000000000000000, 0⟩

theorem Runs.execTimeSend {G : Foot} {z s : State} (h : Does G z s) (hg : Foot.execTimeSend.leB G = true) (t : Nat) (d : Nat) (rts : List (Nat × Nat)) : Runs G z (execTimeSend t d rts s) := by
  unfold Sys2Proof.Machine.execTimeSend
  with_reducible repeat' first
    | assumption
    | (extract_lets +onlyGivenNames a; first | (refine (fun (k : Does G z a) => ?_) ?_; rotate_left; unfold a; clear a; rotate_left; clear_value a; revert a; intros) | (clear_value a; revert a; intros))
    | refine Does.setV ?_ ?_ _ _ _ | refine Does.start ?_ _ | refine Does.timeOut ?_ (Foot.up hg (by decide)) _ _
    | refine Runs.next ?_ | refine Runs.ite ?_ ?_ | exact Foot.upV hg (by decide) | (dsimp -zeta only) | refine Does.ite ?_ ?_

def Foot.execTimeMsg : Foot := ⟨0x7004010000002000000000000000002530200008000400000, 0x380000000000000000000000000000000000000E00000000000000000000000000000000010000000000000007, 0x30⟩

theorem Runs.execTimeMsg {G : Foot} {z s : State} (h : Does G z s) (hg : Foot.execTimeMsg.leB G = true) (t : Nat) (e : ChEnd) (tag : Nat) (delay : Nat) (usec : Nat) (cap : Nat) : Runs G z (execTimeMsg t e tag delay usec cap s) := by
  unfold Sys2Proof.Machine.execTimeMsg
  with_reducible repeat' first
    | assumption | refine Does.start ?_ _ | refine Does.deliver ?_ (Foot.up hg (by decide)) _ _ _ (fun _ _ => ?_)
    | refine Does.evFrom ?_ (Foot.up hg (by decide)) _ _ _ _ _ | refine Does.timeTake ?_ (Foot.up hg (by decide)) _ _ _ _
    | refine Runs.next ?_ | refine Runs.ite ?_ ?_ | (dsimp -zeta only) | refine Does.ite ?_ ?_

def Foot.execParentSilent : Foot := ⟨0x7004050406002000000000000000000130200008000400000, 0x20000000000180000000000140000000000000000000000000000270000000804000010000000000000007, 0x30⟩

theorem Runs.execParentSilent {G : Foot} {z s : State} (h : Does G z s) (hg : Foot.execParentSilent.leB G = true) (t : Nat) (l : Nat) : Runs G z (execParentSilent t l s) := by
  unfold Sys2Proof.Machine.execParentSilent
  with_reducible repeat' first
    | assumption
    | (extract_lets +onlyGivenNames a; first | (refine (fun (k : Does G z a) => ?_) ?_; rotate_left; unfold a; clear a; rotate_left; clear_value a; revert a; intros) | (clear_value a; revert a; intros))
    | refine Does.flag ?_ ?_ _ _ _ | refine Does.setV ?_ ?_ _ _ _ | refine Does.start ?_ _
    | refine Does.evFrom ?_ (Foot.up hg (by decide)) _ _ _ _ _ | refine Does.leafEff ?_ (Foot.up hg (by decide)) _
    | refine Runs.next ?_ | refine Runs.ite ?_ ?_ | exact Foot.upR hg (by decide) | exact Foot.upV hg (by decide)
    | (dsimp -zeta only) | refine Does.ite ?_ ?_

def Foot.execLdrOpen : Foot := ⟨0x309800000000, 0x4000000000000000000000000000000000000000000000000000000000000000000, 0x3⟩

theorem Runs.execLdrOpen {G : Foot} {z s : State} (h : Does G z s) (hg : Foot.execLdrOpen.leB G = true) (t : Nat) (p : Port) : Runs G z (execLdrOpen t p s) := by
  unfold Sys2Proof.Machine.execLdrOpen
  with_reducible repeat' first
    | assumption | refine Does.start ?_ _ | refine Does.command ?_ (Foot.up hg (by decide)) _ _ _ (fun _ _ => ?_) _ _
    | refine Does.ldrCmd ?_ (Foot.up hg (by decide)) _ _ | refine Runs.next ?_

def Foot.execLdrCommit : Foot := ⟨0x309800000000, 0x4000000000000000000000000000000000000000000000000000000000000000000, 0x3⟩

theorem Runs.execLdrCommit {G : Foot} {z s : State} (h : Does G z s) (hg : Foot.execLdrCommit.leB G = true) (t : Nat) (p : Port) : Runs G z (execLdrCommit t p s) := by
  unfold Sys2Proof.Machine.execLdrCommit
  with_reducible repeat' first
    | assumption | refine Does.start ?_ _ | refine Does.command ?_ (Foot.up hg (by decide)) _ _ _ (fun _ _ => ?_) _ _
    | refine Does.ldrCmd ?_ (Foot.up hg (by decide)) _ _ | refine Runs.next ?_

def Foot.execLdrAbort : Foot := ⟨0x309800000000, 0x4000000000000000000000000000000000000000000000000000000000000000000, 0x3⟩

theorem Runs.execLdrAbort {G : Foot} {z s : State} (h : Does G z s) (hg : Foot.execLdrAbort.leB G = true) (t : Nat) (p : Port) : Runs G z (execLdrAbort t p s) := by
  unfold Sys2Proof.Machine.execLdrAbort
  with_reducible repeat' first
    | assumption | refine Does.start ?_ _ | refine Does.command ?_ (Foot.up hg (by decide)) _ _ _ (fun _ _ => ?_) _ _
    | refine Does.ldrCmd ?_ (Foot.up hg (by decide)) _ _ | refine Runs.next ?_

def Foot.execCommitSvn : Foot := ⟨0x309800000000, 0x4000000000000000000000000000000000000000000000000000000000000000000, 0x3⟩

theorem Runs.execCommitSvn {G : Foot} {z s : State} (h : Does G z s) (hg : Foot.execCommitSvn.leB G = true) (t : Nat) (p : Port) : Runs G z (execCommitSvn t p s) := by
  unfold Sys2Proof.Machine.execCommitSvn
  with_reducible repeat' first
    | assumption | refine Does.start ?_ _ | refine Does.command ?_ (Foot.up hg (by decide)) _ _ _ (fun _ _ => ?_) _ _
    | refine Does.ldrCmd ?_ (Foot.up hg (by decide)) _ _ | refine Runs.next ?_

def Foot.execFusingDone : Foot := ⟨0x2100000000000, 0x10000000000000000000000000000000000000000000000000000000000000000000000, 0⟩

theorem Runs.execFusingDone {G : Foot} {z s : State} (h : Does G z s) (hg : Foot.execFusingDone.leB G = true) (t : Nat) : Runs G z (execFusingDone t s) := by
  unfold Sys2Proof.Machine.execFusingDone
  with_reducible repeat' first
    | assumption
    | (extract_lets +onlyGivenNames a; first | (refine (fun (k : Does G z a) => ?_) ?_; rotate_left; unfold a; clear a; rotate_left; clear_value a; revert a; intros) | (clear_value a; revert a; intros))
    | refine Does.wr ?_ ?_ _ _ _ | refine Does.setV ?_ ?_ _ _ _ | refine Does.start ?_ _ | refine Runs.next ?_
    | refine Runs.ite ?_ ?_ | exact Foot.upR hg (by decide) | exact Foot.upV hg (by decide) | (dsimp -zeta only)
    | refine Does.ite ?_ ?_

def Foot.execImgWaddr : Foot := ⟨0x201800000000, 0x4000000000000000000000000000000000000000000000000000000000000000000, 0⟩

theorem Runs.execImgWaddr {G : Foot} {z s : State} (h : Does G z s) (hg : Foot.execImgWaddr.leB G = true) (t : Nat) (p : Port) (w : Nat) : Runs G z (execImgWaddr t p w s) := by
  unfold Sys2Proof.Machine.execImgWaddr
  with_reducible repeat' first
    | assumption | refine Does.start ?_ _ | refine Does.command ?_ (Foot.up hg (by decide)) _ _ _ (fun _ _ => ?_) _ _
    | refine Does.ldrAddr ?_ (Foot.up hg (by decide)) _ _ | refine Runs.next ?_

def Foot.execImgWdata : Foot := ⟨0x201800000000, 0x4000000000000000000000000000000000000000000000000000000000000000000, 0x1⟩

theorem Runs.execImgWdata {G : Foot} {z s : State} (h : Does G z s) (hg : Foot.execImgWdata.leB G = true) (t : Nat) (p : Port) (wide : Bool) (w : Word) : Runs G z (execImgWdata t p wide w s) := by
  unfold Sys2Proof.Machine.execImgWdata
  with_reducible repeat' first
    | assumption | refine Does.start ?_ _ | refine Does.command ?_ (Foot.up hg (by decide)) _ _ _ (fun _ _ => ?_) _ _
    | refine Does.ldrData ?_ (Foot.up hg (by decide)) _ _ _ | refine Runs.next ?_

def Foot.execDeltaActivate : Foot := ⟨0x3CB75443FFFFFFFFFFFFB570FBF6F7FDFFFF0300979C0FE328E8, 0x3B8FFE24637F8E13F8100008023FCFC0FFFFFFFFEDF0D0A30FF5AF8BFFFE11E01FFFFFFFFFF8060783C1FFFFFF, 0x45DFE⟩

theorem Runs.execDeltaActivate {G : Foot} {z s : State} (h : Does G z s) (hg : Foot.execDeltaActivate.leB G = true) (t : Nat) : Runs G z (execDeltaActivate t s) := by
  unfold Sys2Proof.Machine.execDeltaActivate
  with_reducible repeat' first
    | assumption
    | (extract_lets +onlyGivenNames a; first | (refine (fun (k : Does G z a) => ?_) ?_; rotate_left; unfold a; clear a; rotate_left; clear_value a; revert a; intros) | (clear_value a; revert a; intros))
    | refine Does.start ?_ _ | refine Does.deltaApply ?_ (Foot.up hg (by decide)) _
    | refine Does.pkgRun ?_ (Foot.up hg (by decide)) | refine Runs.next ?_ | refine Runs.ite ?_ ?_ | (dsimp -zeta only)
    | refine Does.ite ?_ ?_ | refine Does.ite_snd ?_ ?_ | refine Foot.pick ?_ ?_ | split

def Foot.execApplyTimeout : Foot := ⟨0x3CB75443FFFFFFFFFFFD910060B007FDFFF70200179C0FC228E8, 0x3B85FE24637F0E13D8100008023FCFC0FFFFFFFFCDF0D0A30FF5AF8BFFF601E01FFFFFFFFFF8060083C1FFFFF7, 0x45DFA⟩

theorem Runs.execApplyTimeout {G : Foot} {z s : State} (h : Does G z s) (hg : Foot.execApplyTimeout.leB G = true) (t : Nat) : Runs G z (execApplyTimeout t s) := by
  unfold Sys2Proof.Machine.execApplyTimeout
  with_reducible repeat' first
    | assumption
    | (extract_lets +onlyGivenNames a; first | (refine (fun (k : Does G z a) => ?_) ?_; rotate_left; unfold a; clear a; rotate_left; clear_value a; revert a; intros) | (clear_value a; revert a; intros))
    | refine Does.start ?_ _ | refine Does.deltaEnd ?_ (Foot.up hg (by decide)) _
    | refine Does.ldrResult ?_ (Foot.up hg (by decide)) _ _ _ _ | refine Runs.next ?_ | refine Runs.ite ?_ ?_
    | (dsimp -zeta only) | refine Does.ite ?_ ?_ | refine Does.ite_snd ?_ ?_ | refine Foot.pick ?_ ?_ | split

def Foot.execCheckDone : Foot := ⟨0x3407004010002003E000000020000611FC130200179C00400848, 0x40000000700005800000802000000000002000070C00100008000000601800C000000000000008000000F07, 0x410FA⟩

theorem Runs.execCheckDone {G : Foot} {z s : State} (h : Does G z s) (hg : Foot.execCheckDone.leB G = true) (t : Nat) (ecc : Bool) : Runs G z (execCheckDone t ecc s) := by
  unfold Sys2Proof.Machine.execCheckDone
  with_reducible repeat' first
    | assumption
    | (extract_lets +onlyGivenNames a; first | (refine (fun (k : Does G z a) => ?_) ?_; rotate_left; unfold a; clear a; rotate_left; clear_value a; revert a; intros) | (clear_value a; revert a; intros))
    | refine Does.start ?_ _ | refine Does.checkEnd ?_ (Foot.up hg (by decide)) _ | refine Runs.next ?_ | refine Runs.ite ?_ ?_
    | (dsimp -zeta only) | refine Does.ite ?_ ?_

def Foot.execVerifyDone : Foot := ⟨0x7CB75443FFFFFFFFFFFFB171FBF7FFFFFFFF1301979C0FE2E8E8, 0x3F9FFE2473FF8E33E83C0808023FFFF8FFEFFFFFEDF0DFFB0FF7AF8FFFFF9FFFFFFFFFFFFFFCFFFFFFFFFFEFFF, 0x45DF7⟩

theorem Runs.execVerifyDone {G : Foot} {z s : State} (h : Does G z s) (hg : Foot.execVerifyDone.leB G = true) (t : Nat) (ecc : Bool) : Runs G z (execVerifyDone t ecc s) := by
  unfold Sys2Proof.Machine.execVerifyDone
  with_reducible repeat' first
    | assumption
    | (extract_lets +onlyGivenNames a; first | (refine (fun (k : Does G z a) => ?_) ?_; rotate_left; unfold a; clear a; rotate_left; clear_value a; revert a; intros) | (clear_value a; revert a; intros))
    | refine Does.start ?_ _ | refine Does.verifyFail ?_ (Foot.up hg (by decide)) _ _ _ _
    | refine Does.verifyOk ?_ (Foot.up hg (by decide)) _ | refine Runs.next ?_ | refine Runs.ite ?_ ?_ | (dsimp -zeta only)
    | refine Does.ite ?_ ?_ | refine Does.ite_snd ?_ ?_ | refine Foot.pick ?_ ?_ | split

def Foot.execParamMsg : Foot := ⟨0x34070040FFFFFFFFFFFD910060B00FFDFFF30200179C00E00868, 0x3BC5FE24637F8613C8040008023FCFC0FFC1FFFFE070D0012FF1AF8BFFF601801FFFFFFFFFF8060083C1FFEFF7, 0x450FA⟩

theorem Runs.execParamMsg {G : Foot} {z s : State} (h : Does G z s) (hg : Foot.execParamMsg.leB G = true) (t : Nat) (e : ChEnd) (tag : Nat) (d : Nat) (kind : Nat) : Runs G z (execParamMsg t e tag d kind s) := by
  unfold Sys2Proof.Machine.execParamMsg
  with_reducible repeat' first
    | assumption
    | (extract_lets +onlyGivenNames a; first | (refine (fun (k : Does G z a) => ?_) ?_; rotate_left; unfold a; clear a; rotate_left; clear_value a; revert a; intros) | (clear_value a; revert a; intros))
    | refine Does.setV ?_ ?_ _ _ _ | refine Does.start ?_ _ | (refine Does.when ?_ _ _ fun _ _ => ?_)
    | refine Does.deliver ?_ (Foot.up hg (by decide)) _ _ _ (fun _ _ => ?_)
    | refine Does.paramConfirm ?_ (Foot.up hg (by decide)) _ | refine Does.sendUp ?_ (Foot.up hg (by decide)) _ _ _
    | refine Does.paramTake ?_ (Foot.up hg (by decide)) _ _ | refine Does.sendDown ?_ (Foot.up hg (by decide)) _ _ _
    | refine Does.deltaAbsent ?_ (Foot.up hg (by decide)) _ | refine Runs.next ?_ | refine Runs.ite ?_ ?_
    | exact Foot.upV hg (by decide) | (dsimp -zeta only) | refine Does.ite ?_ ?_ | refine Does.ite_snd ?_ ?_
    | refine Foot.pick ?_ ?_ | split

def Foot.execChanAliveFall : Foot := ⟨0x3CB70043FFFFFFFFFFFD910060F007FDFFF30200179C00C22868, 0x3B85FE24637F8613D8040008023FCFC0FFC1FFFFEDF0D0A30FF5AF8BFFF601E01FFFFFFFFFF8060083C1FFFFF7, 0x45CFA⟩

theorem Runs.execChanAliveFall {G : Foot} {z s : State} (h : Does G z s) (hg : Foot.execChanAliveFall.leB G = true) (t : Nat) (e : ChEnd) : Runs G z (execChanAliveFall t e s) := by
  unfold Sys2Proof.Machine.execChanAliveFall
  with_reducible repeat' first
    | assumption
    | (extract_lets +onlyGivenNames a; first | (refine (fun (k : Does G z a) => ?_) ?_; rotate_left; unfold a; clear a; rotate_left; clear_value a; revert a; intros) | (clear_value a; revert a; intros))
    | refine Does.setV ?_ ?_ _ _ _ | refine Does.start ?_ _ | refine Does.chW ?_ (Foot.up hg (by decide)) _ _ _
    | refine Does.islandFell ?_ (Foot.up hg (by decide)) _ | refine Does.endDown ?_ (Foot.up hg (by decide)) _
    | refine Does.pkgRun ?_ (Foot.up hg (by decide)) | refine Runs.next ?_ | refine Runs.ite ?_ ?_
    | exact Foot.upV hg (by decide) | (dsimp -zeta only) | split

def Foot.execChanAliveRise : Foot := ⟨0x10000002000000000000000000000000000000400000, 0x200000000000000000000000000C0000000000000000000000000000000000000000000000070, 0x40⟩

theorem Runs.execChanAliveRise {G : Foot} {z s : State} (h : Does G z s) (hg : Foot.execChanAliveRise.leB G = true) (t : Nat) (e : ChEnd) : Runs G z (execChanAliveRise t e s) := by
  unfold Sys2Proof.Machine.execChanAliveRise
  with_reducible repeat' first
    | assumption
    | (extract_lets +onlyGivenNames a; first | (refine (fun (k : Does G z a) => ?_) ?_; rotate_left; unfold a; clear a; rotate_left; clear_value a; revert a; intros) | (clear_value a; revert a; intros))
    | refine Does.setV ?_ ?_ _ _ _ | refine Does.start ?_ _ | (refine Does.when ?_ _ _ fun _ _ => ?_)
    | refine Does.chW ?_ (Foot.up hg (by decide)) _ _ _ | refine Does.endForget ?_ (Foot.up hg (by decide)) _
    | refine Does.sayHello ?_ (Foot.up hg (by decide)) _ _ | refine Does.helloStored ?_ (Foot.up hg (by decide)) _
    | refine Runs.next ?_ | refine Runs.ite ?_ ?_ | exact Foot.upV hg (by decide) | (dsimp -zeta only) | refine Does.ite ?_ ?_

def Foot.execHello : Foot := ⟨0x34070040FFFFFFFFFFFD910060F007FDFFF30200179C00C00868, 0x3BA5FE24637F8613D9040008023FCFC0FFC1FFFFE070D0010FF1AF8BFFF601801FFFFFFFFFF8060083C1FFFFF7, 0x450FA⟩

theorem Runs.execHello {G : Foot} {z s : State} (h : Does G z s) (hg : Foot.execHello.leB G = true) (t : Nat) (e : ChEnd) (epoch : Nat) : Runs G z (execHello t e epoch s) := by
  unfold Sys2Proof.Machine.execHello
  with_reducible repeat' first
    | assumption
    | (extract_lets +onlyGivenNames a; first | (refine (fun (k : Does G z a) => ?_) ?_; rotate_left; unfold a; clear a; rotate_left; clear_value a; revert a; intros) | (clear_value a; revert a; intros))
    | refine Does.setV ?_ ?_ _ _ _ | refine Does.start ?_ _ | refine Does.helloTake ?_ (Foot.up hg (by decide)) _ _
    | refine Does.parentLeaves ?_ (Foot.up hg (by decide)) _ _ | refine Does.chW ?_ (Foot.up hg (by decide)) _ _ _
    | refine Does.endForget ?_ (Foot.up hg (by decide)) _ | refine Does.sayHello ?_ (Foot.up hg (by decide)) _ _
    | refine Does.pkgRun ?_ (Foot.up hg (by decide)) | refine Runs.next ?_ | refine Runs.ite ?_ ?_
    | exact Foot.upV hg (by decide) | (dsimp -zeta only) | refine Does.ite ?_ ?_

def Foot.execHelloAck : Foot := ⟨0x34070040FFFFFFFFFFFD910060F007FDFFF30200179C00C00868, 0x3BA5FE24637F8613C9040008023FCFC0FFC1FFFFE070D0010FF1AF8BFFF601801FFFFFFFFFF8060083C1FFEFF7, 0x450FA⟩

theorem Runs.execHelloAck {G : Foot} {z s : State} (h : Does G z s) (hg : Foot.execHelloAck.leB G = true) (t : Nat) (e : ChEnd) (epoch : Nat) : Runs G z (execHelloAck t e epoch s) := by
  unfold Sys2Proof.Machine.execHelloAck
  with_reducible repeat' first
    | assumption
    | (extract_lets +onlyGivenNames a; first | (refine (fun (k : Does G z a) => ?_) ?_; rotate_left; unfold a; clear a; rotate_left; clear_value a; revert a; intros) | (clear_value a; revert a; intros))
    | refine Does.setV ?_ ?_ _ _ _ | refine Does.start ?_ _
    | refine Does.linkStep ?_ (Foot.up hg (by decide)) _ _ (fun _ _ => ?_)
    | refine Does.helloAgain ?_ (Foot.up hg (by decide)) _ | refine Does.pkgRun ?_ (Foot.up hg (by decide))
    | refine Runs.next ?_ | refine Runs.ite ?_ ?_ | exact Foot.upV hg (by decide) | (dsimp -zeta only) | refine Does.ite ?_ ?_

def Foot.execFence : Foot := ⟨0x3407004010002003E000000020000611F8130200079C00400840, 0x40000000700004000000000000000000000000070C001000080000006018000000000000000000000000F07, 0x410F0⟩

theorem Runs.execFence {G : Foot} {z s : State} (h : Does G z s) (hg : Foot.execFence.leB G = true) (t : Nat) (e : ChEnd) (tag : Nat) (scope : Nat) (id : Nat) : Runs G z (execFence t e tag scope id s) := by
  unfold Sys2Proof.Machine.execFence
  with_reducible repeat' first
    | assumption | refine Does.start ?_ _ | refine Does.deliver ?_ (Foot.up hg (by decide)) _ _ _ (fun _ _ => ?_)
    | refine Does.evFrom ?_ (Foot.up hg (by decide)) _ _ _ _ _ | refine Does.fenceTake ?_ (Foot.up hg (by decide)) _ _ _
    | refine Runs.next ?_ | refine Runs.ite ?_ ?_ | (dsimp -zeta only) | refine Does.ite ?_ ?_

def Foot.execFenceAck : Foot := ⟨0x34070040FFFFFFFFFFFD910060B007FDFFF30200179C00C00868, 0x3B85FE24637F8613D0000008023FCFC0FFC1FFFFE070D0010FF1AF8BFFF601801FFFFFFFFFF8060083C1FFEFF7, 0x450F2⟩

theorem Runs.execFenceAck {G : Foot} {z s : State} (h : Does G z s) (hg : Foot.execFenceAck.leB G = true) (t : Nat) (e : ChEnd) (tag : Nat) (id : Nat) (st : Nat) : Runs G z (execFenceAck t e tag id st s) := by
  unfold Sys2Proof.Machine.execFenceAck
  with_reducible repeat' first
    | assumption | refine Does.start ?_ _ | refine Does.deliver ?_ (Foot.up hg (by decide)) _ _ _ (fun _ _ => ?_)
    | refine Does.evFrom ?_ (Foot.up hg (by decide)) _ _ _ _ _ | refine Does.chW ?_ (Foot.up hg (by decide)) _ _ _
    | refine Does.fenceDone ?_ (Foot.up hg (by decide)) _ _ | refine Runs.next ?_ | refine Runs.ite ?_ ?_ | (dsimp -zeta only)
    | refine Does.ite ?_ ?_

def Foot.execFenceTimeout : Foot := ⟨0x34070040FFFFFFFFFFFD910060B007FDFFF30200179C00C00868, 0x3B85FE24637F8613D0000008023FCFC0FFC1FFFFE070D0010FF1AF8BFFF601801FFFFFFFFFF8060083C1FFEFF7, 0x450F2⟩

theorem Runs.execFenceTimeout {G : Foot} {z s : State} (h : Does G z s) (hg : Foot.execFenceTimeout.leB G = true) (t : Nat) (e : ChEnd) : Runs G z (execFenceTimeout t e s) := by
  unfold Sys2Proof.Machine.execFenceTimeout
  with_reducible repeat' first
    | assumption
    | (extract_lets +onlyGivenNames a; first | (refine (fun (k : Does G z a) => ?_) ?_; rotate_left; unfold a; clear a; rotate_left; clear_value a; revert a; intros) | (clear_value a; revert a; intros))
    | refine Does.start ?_ _ | refine Does.chW ?_ (Foot.up hg (by decide)) _ _ _
    | refine Does.chFlag ?_ (Foot.up hg (by decide)) _ _ | refine Does.evFrom ?_ (Foot.up hg (by decide)) _ _ _ _ _
    | refine Does.fenceDone ?_ (Foot.up hg (by decide)) _ _ | refine Runs.next ?_ | refine Runs.ite ?_ ?_ | (dsimp -zeta only)
    | refine Does.ite ?_ ?_

def Foot.execLeafSlotClose : Foot := ⟨0x5000007A000000000000000000000000000000400000, 0x2008000000000000000141D60000000000000000000000000000000000000015520000000000678000, 0x4000⟩

theorem Runs.execLeafSlotClose {G : Foot} {z s : State} (h : Does G z s) (hg : Foot.execLeafSlotClose.leB G = true) (t : Nat) (l : Nat) (slot : Nat) (reps : List Rep) (removed : List (Nat × Nat)) : Runs G z (execLeafSlotClose t l slot reps removed s) := by
  unfold Sys2Proof.Machine.execLeafSlotClose
  with_reducible repeat' first
    | assumption
    | (extract_lets +onlyGivenNames a; first | (refine (fun (k : Does G z a) => ?_) ?_; rotate_left; unfold a; clear a; rotate_left; clear_value a; revert a; intros) | (clear_value a; revert a; intros))
    | refine Does.setV ?_ ?_ _ _ _ | refine Does.start ?_ _ | refine Does.repMark ?_ (Foot.up hg (by decide)) _ _
    | refine Does.cntActs ?_ (Foot.up hg (by decide)) _ _ | refine Does.cntRemoved ?_ (Foot.up hg (by decide)) _ _ _
    | refine Does.leafSlot ?_ (Foot.up hg (by decide)) _ _ _ | refine Does.convAccum ?_ (Foot.up hg (by decide)) _ _ _
    | refine Does.periodSlot ?_ (Foot.up hg (by decide)) _ _ _ | refine Runs.next ?_ | refine Runs.ite ?_ ?_
    | exact Foot.upV hg (by decide) | exact Foot.upZip hg ‹_ ∈ _› (by decide) | (dsimp -zeta only) | refine Does.ite ?_ ?_
    | refine Does.ite_snd ?_ ?_ | refine Foot.pick ?_ ?_ | split | refine Does.snd ‹_ = (_, _)› ?_
    | (refine Does.mk' ?_ rfl rfl rfl rfl rfl rfl rfl rfl rfl rfl ?_; rotate_left; intro p hn; cases p <;> first | with_unfolding_all rfl | exact Foot.noP hg (by decide) hn)

def Foot.execLeafIntervalClose : Foot := ⟨0x1000761A000000000000000000000000000000400000, 0x180000100000000000000000000000000000000000000000000000000000004000FFFE0000000000078000, 0⟩

theorem Runs.execLeafIntervalClose {G : Foot} {z s : State} (h : Does G z s) (hg : Foot.execLeafIntervalClose.leB G = true) (t : Nat) (l : Nat) (j : Nat) : Runs G z (execLeafIntervalClose t l j s) := by
  unfold Sys2Proof.Machine.execLeafIntervalClose
  with_reducible repeat' first
    | assumption
    | (extract_lets +onlyGivenNames a; first | (refine (fun (k : Does G z a) => ?_) ?_; rotate_left; unfold a; clear a; rotate_left; clear_value a; revert a; intros) | (clear_value a; revert a; intros))
    | refine Does.setV ?_ ?_ _ _ _ | refine Does.start ?_ _ | (refine Does.when ?_ _ _ fun _ _ => ?_)
    | refine Does.convRoll ?_ (Foot.up hg (by decide)) _ _ | refine Does.leafInterval ?_ (Foot.up hg (by decide)) _ _
    | refine Does.intervalDone ?_ (Foot.up hg (by decide)) _ _ | refine Does.leakUpdate ?_ (Foot.up hg (by decide)) _
    | refine Does.convert ?_ (Foot.up hg (by decide)) _ | refine Does.leafGroupsReport ?_ (Foot.up hg (by decide)) _ _
    | refine Runs.next ?_ | refine Runs.ite ?_ ?_ | exact Foot.upV hg (by decide) | (dsimp -zeta only) | refine Does.ite ?_ ?_

def Foot.execEstimate : Foot := ⟨0x70040100000020000000C0000000000130200008000400000, 0x40001000000001000000000000000000000000000000000000001800000000000000000007800007, 0x30⟩

theorem Runs.execEstimate {G : Foot} {z s : State} (h : Does G z s) (hg : Foot.execEstimate.leB G = true) (t : Nat) (e : ChEnd) (tag : Nat) (ra : Nat) (rb : Nat) (slot : Nat) (ea : Nat) (eb : Nat) : Runs G z (execEstimate t e tag ra rb slot ea eb s) := by
  unfold Sys2Proof.Machine.execEstimate
  with_reducible repeat' first
    | assumption
    | (extract_lets +onlyGivenNames a; first | (refine (fun (k : Does G z a) => ?_) ?_; rotate_left; unfold a; clear a; rotate_left; clear_value a; revert a; intros) | (clear_value a; revert a; intros))
    | refine Does.start ?_ _ | refine Does.upMsg ?_ (Foot.up hg (by decide)) _ _ _ _ (fun _ _ _ _ => ?_)
    | refine Does.estTake ?_ (Foot.up hg (by decide)) _ _ _ _ | refine Does.slotSum ?_ (Foot.up hg (by decide)) _ _
    | refine Runs.next ?_ | refine Runs.ite ?_ ?_ | (dsimp -zeta only) | refine Does.ite ?_ ?_

def Foot.execEstimateSlotTimeout : Foot := ⟨0x70000100000020800000C0000000000000000000000400000, 0x1000000001000000000000000000000000000000000000001800000000000000000006000007, 0x20⟩

theorem Runs.execEstimateSlotTimeout {G : Foot} {z s : State} (h : Does G z s) (hg : Foot.execEstimateSlotTimeout.leB G = true) (t : Nat) (d : Nat) (slot : Nat) : Runs G z (execEstimateSlotTimeout t d slot s) := by
  unfold Sys2Proof.Machine.execEstimateSlotTimeout
  with_reducible repeat' first
    | assumption
    | (extract_lets +onlyGivenNames a; first | (refine (fun (k : Does G z a) => ?_) ?_; rotate_left; unfold a; clear a; rotate_left; clear_value a; revert a; intros) | (clear_value a; revert a; intros))
    | refine Does.start ?_ _ | (refine Does.when ?_ _ _ fun _ _ => ?_) | refine Does.incSat ?_ ?_ _ _ _
    | refine Does.slotSum ?_ (Foot.up hg (by decide)) _ _ | refine Runs.next ?_ | refine Runs.ite ?_ ?_
    | exact Foot.upR hg (by decide) | (dsimp -zeta only) | refine Does.ite ?_ ?_

def Foot.execIntervalReport : Foot := ⟨0x7004010000002000000000000000000130200008000400000, 0x800000018000007, 0x30⟩

theorem Runs.execIntervalReport {G : Foot} {z s : State} (h : Does G z s) (hg : Foot.execIntervalReport.leB G = true) (t : Nat) (e : ChEnd) (tag : Nat) (leaf : Nat) (ra : Nat) (rb : Nat) (seq : Nat) (pa : Nat) (pb : Nat) (rsvd : Bool) : Runs G z (execIntervalReport t e tag leaf ra rb seq pa pb rsvd s) := by
  unfold Sys2Proof.Machine.execIntervalReport
  with_reducible repeat' first
    | assumption
    | (extract_lets +onlyGivenNames a; first | (refine (fun (k : Does G z a) => ?_) ?_; rotate_left; unfold a; clear a; rotate_left; clear_value a; revert a; intros) | ((first | (have b : Prop := a; clear b) | (have b : List Fld := a; clear b) | (have b : SyncSt := a; clear b) | (have b : State → State := a; clear b) | (have b : Nat → Status → State := a; clear b) | (have b : Bank := a; clear b) | (have b : ImgSt := a; clear b) | (have b : FacSt := a; clear b) | (have b : MirSt := a; clear b) | (have b : Status × State → Option Status × State := a; clear b) | (have b : Status → Word → State → State := a; clear b) | (have b : State → Nat → Nat → State := a; clear b)); unfold a; clear a) | (clear_value a; revert a; intros))
    | refine Does.setV ?_ ?_ _ _ _ | refine Does.start ?_ _
    | refine Does.upMsg ?_ (Foot.up hg (by decide)) _ _ _ _ (fun _ _ _ _ => ?_)
    | refine Does.ivTake ?_ (Foot.up hg (by decide)) _ _ _ _ | refine Does.sendUp ?_ (Foot.up hg (by decide)) _ _ _
    | refine Runs.next ?_ | refine Runs.ite ?_ ?_ | exact Foot.upV hg (by decide) | (dsimp -zeta only) | refine Does.ite ?_ ?_

def Foot.execGroupReport : Foot := ⟨0x7004010000002000000000000000000130200008000400000, 0xFC0000007, 0x30⟩

theorem Runs.execGroupReport {G : Foot} {z s : State} (h : Does G z s) (hg : Foot.execGroupReport.leB G = true) (t : Nat) (e : ChEnd) (tag : Nat) (nleaf : Nat) (rail : Nat) (g : Nat) (seq : Nat) (en : Int) : Runs G z (execGroupReport t e tag nleaf rail g seq en s) := by
  unfold Sys2Proof.Machine.execGroupReport
  with_reducible repeat' first
    | assumption
    | (extract_lets +onlyGivenNames a; first | (refine (fun (k : Does G z a) => ?_) ?_; rotate_left; unfold a; clear a; rotate_left; clear_value a; revert a; intros) | (clear_value a; revert a; intros))
    | refine Does.start ?_ _ | refine Does.upMsg ?_ (Foot.up hg (by decide)) _ _ _ _ (fun _ _ _ _ => ?_)
    | refine Does.groupHub ?_ (Foot.up hg (by decide)) _ _ _ _ _
    | refine Does.grpAtNode ?_ (Foot.up hg (by decide)) _ _ _ _ _ _ _ | refine Runs.next ?_ | refine Runs.ite ?_ ?_
    | (dsimp -zeta only) | refine Does.ite ?_ ?_

def Foot.execGroupSumTimeout : Foot := ⟨0x10000002000000000000000000000000000000400000, 0x3C0000000, 0⟩

theorem Runs.execGroupSumTimeout {G : Foot} {z s : State} (h : Does G z s) (hg : Foot.execGroupSumTimeout.leB G = true) (t : Nat) (n : Nat) (w : Nat) : Runs G z (execGroupSumTimeout t n w s) := by
  unfold Sys2Proof.Machine.execGroupSumTimeout
  with_reducible repeat' first
    | assumption
    | (extract_lets +onlyGivenNames a; first | (refine (fun (k : Does G z a) => ?_) ?_; rotate_left; unfold a; clear a; rotate_left; clear_value a; revert a; intros) | (clear_value a; revert a; intros))
    | refine Does.start ?_ _ | (refine Does.each ?_ _ _ fun _ _ _ _ => ?_)
    | refine Does.grpSend ?_ (Foot.up hg (by decide)) _ _ _ _ | refine Runs.next ?_ | refine Runs.ite ?_ ?_
    | (dsimp -zeta only) | refine Does.ite ?_ ?_

def Foot.execApplied : Foot := ⟨0x7004010000002000000000000006000130200008000400000, 0x1000000000000000000000007, 0x30⟩

theorem Runs.execApplied {G : Foot} {z s : State} (h : Does G z s) (hg : Foot.execApplied.leB G = true) (t : Nat) (e : ChEnd) (tag : Nat) (dom : Nat) (loop : Nat) (cls : Nat) (rail : Nat) (amt : Nat) : Runs G z (execApplied t e tag dom loop cls rail amt s) := by
  unfold Sys2Proof.Machine.execApplied
  with_reducible repeat' first
    | assumption | refine Does.start ?_ _ | refine Does.upMsg ?_ (Foot.up hg (by decide)) _ _ _ _ (fun _ _ _ _ => ?_)
    | refine Does.appliedTake ?_ (Foot.up hg (by decide)) _ _ | refine Does.sendUp ?_ (Foot.up hg (by decide)) _ _ _
    | refine Runs.next ?_ | refine Runs.ite ?_ ?_ | (dsimp -zeta only) | refine Does.ite ?_ ?_ | refine Does.ite_snd ?_ ?_
    | refine Foot.pick ?_ ?_ | split

def Foot.execHubIntervalClose : Foot := ⟨0x75640000040000100028F0020000000130200008000000040, 0x800008000000001D8000000040000000000000000800840000011FC00400000007FC7CF036000007, 0x42130⟩

theorem Runs.execHubIntervalClose {G : Foot} {z s : State} (h : Does G z s) (hg : Foot.execHubIntervalClose.leB G = true) (t : Nat) (j : Nat) : Runs G z (execHubIntervalClose t j s) := by
  unfold Sys2Proof.Machine.execHubIntervalClose
  with_reducible repeat' first
    | assumption
    | (extract_lets +onlyGivenNames a; first | (refine (fun (k : Does G z a) => ?_) ?_; rotate_left; unfold a; clear a; rotate_left; clear_value a; revert a; intros) | (clear_value a; revert a; intros))
    | refine Does.start ?_ _ | refine Does.hubInterval ?_ (Foot.up hg (by decide)) _ | refine Runs.next ?_
    | refine Runs.ite ?_ ?_ | (dsimp -zeta only) | refine Does.ite ?_ ?_

def Foot.execKneadWindowClose : Foot := ⟨0x10000062000000F00000000000000000000000400000, 0x80070000000000000000000000000000000000000000000000000000000000000000007FC00000000, 0x40⟩

theorem Runs.execKneadWindowClose {G : Foot} {z s : State} (h : Does G z s) (hg : Foot.execKneadWindowClose.leB G = true) (t : Nat) (w : Nat) : Runs G z (execKneadWindowClose t w s) := by
  unfold Sys2Proof.Machine.execKneadWindowClose
  with_reducible repeat' first
    | assumption
    | (extract_lets +onlyGivenNames a; first | (refine (fun (k : Does G z a) => ?_) ?_; rotate_left; unfold a; clear a; rotate_left; clear_value a; revert a; intros) | (clear_value a; revert a; intros))
    | refine Does.start ?_ _ | (refine Does.each ?_ _ _ fun _ _ _ _ => ?_) | refine Does.bgStart ?_ (Foot.up hg (by decide)) _
    | refine Does.kneadRail ?_ (Foot.up hg (by decide)) _ _ | refine Does.kneadClear ?_ (Foot.up hg (by decide)) _
    | refine Does.bgEnd ?_ (Foot.up hg (by decide)) _ | refine Runs.next ?_ | refine Runs.ite ?_ ?_ | (dsimp -zeta only)
    | refine Does.ite ?_ ?_

def Foot.execLeafThetaWrite : Foot := ⟨0, 0x780000, 0⟩

theorem Runs.execLeafThetaWrite {G : Foot} {z s : State} (h : Does G z s) (hg : Foot.execLeafThetaWrite.leB G = true) (t : Nat) (l : Nat) (k : Nat) (hi : Bool) (w : Nat) : Runs G z (execLeafThetaWrite t l k hi w s) := by
  unfold Sys2Proof.Machine.execLeafThetaWrite
  with_reducible repeat' first
    | assumption
    | (extract_lets +onlyGivenNames a; first | (refine (fun (k : Does G z a) => ?_) ?_; rotate_left; unfold a; clear a; rotate_left; clear_value a; revert a; intros) | (clear_value a; revert a; intros))
    | refine Does.emit ?_ _ | refine Does.start ?_ _ | refine Does.thetaWrite ?_ (Foot.up hg (by decide)) _ _ _ _
    | refine Runs.next ?_ | refine Runs.ite ?_ ?_ | (dsimp -zeta only) | refine Does.ite ?_ ?_

def Foot.execKneadReset : Foot := ⟨0x10000062000000700000000000000000001800400000, 0x1000000000000000000000000000000000000000000000000000000000000000000000070000000000, 0x40⟩

theorem Runs.execKneadReset {G : Foot} {z s : State} (h : Does G z s) (hg : Foot.execKneadReset.leB G = true) (t : Nat) (p : Port) (r : Nat) (freeze : Bool) : Runs G z (execKneadReset t p r freeze s) := by
  unfold Sys2Proof.Machine.execKneadReset
  with_reducible repeat' first
    | assumption
    | (extract_lets +onlyGivenNames a; first | (refine (fun (k : Does G z a) => ?_) ?_; rotate_left; unfold a; clear a; rotate_left; clear_value a; revert a; intros) | (clear_value a; revert a; intros))
    | refine Does.wr ?_ ?_ _ _ _ | refine Does.start ?_ _
    | refine Does.command ?_ (Foot.up hg (by decide)) _ _ _ (fun _ _ => ?_) _ _
    | refine Does.kneadRst ?_ (Foot.up hg (by decide)) _ | refine Runs.next ?_ | refine Runs.ite ?_ ?_
    | exact Foot.upR hg (by decide) | (dsimp -zeta only) | refine Does.ite ?_ ?_ | refine Does.ite_snd ?_ ?_

def Foot.execCmdReq : Foot := ⟨0x7FFFFFFFFFFFFFFFFFFFFFFFFFFFFFFFFFFFFFFFFFFFFFFFFFFFFFF, 0x3FFFFFFFFFFFFFFFFFFFFFFFFFFFFFFFFFFFFFFFFFFFFFFFFFFFFFFFFFFFFFFFFFFFFFFFFFFFFFFFFFFFFFFFFF, 0xEFFFF⟩

theorem Runs.execCmdReq {G : Foot} {z s : State} (h : Does G z s) (hg : Foot.execCmdReq.leB G = true) (t : Nat) (e : ChEnd) (tag : Nat) (dest : Nat) (reqid : Nat) (op : Nat) (off : Nat) : Runs G z (execCmdReq t e tag dest reqid op off s) := by
  unfold Sys2Proof.Machine.execCmdReq
  with_reducible repeat' first
    | assumption
    | (extract_lets +onlyGivenNames a; first | (refine (fun (k : Does G z a) => ?_) ?_; rotate_left; unfold a; clear a; rotate_left; clear_value a; revert a; intros) | (clear_value a; revert a; intros))
    | refine Does.start ?_ _ | refine Does.deliver ?_ (Foot.up hg (by decide)) _ _ _ (fun _ _ => ?_)
    | refine Does.evFrom ?_ (Foot.up hg (by decide)) _ _ _ _ _ | refine Does.cmdRun ?_ (Foot.up hg (by decide)) _ _ _ _
    | refine Runs.next ?_ | refine Runs.ite ?_ ?_ | (dsimp -zeta only) | refine Does.ite ?_ ?_ | refine Does.ite_snd ?_ ?_
    | refine Foot.pick ?_ ?_ | split | refine Does.snd ‹_ = (_, _)› ?_
    | (refine Does.mk' ?_ rfl rfl rfl rfl rfl rfl rfl rfl rfl rfl ?_; rotate_left; intro p hn; cases p <;> first | with_unfolding_all rfl | exact Foot.noP hg (by decide) hn)

def Foot.execCmdData : Foot := ⟨0x7FFFFFFFFFFFFFFFFFFFFFFFFFFFFFFFFFFFFFFFFFFFFFFFFFFFFFF, 0x3FFFFFFFFFFFFFFFFFFFFFFFFFFFFFFFFFFFFFFFFFFFFFFFFFFFFFFFFFFFFFFFFFFFFFFFFFFFFFFFFFFFFFFFFF, 0xEFFFF⟩

theorem Runs.execCmdData {G : Foot} {z s : State} (h : Does G z s) (hg : Foot.execCmdData.leB G = true) (t : Nat) (e : ChEnd) (tag : Nat) (w : Word) (pins : Pins) : Runs G z (execCmdData t e tag w pins s) := by
  unfold Sys2Proof.Machine.execCmdData
  with_reducible repeat' first
    | assumption
    | (extract_lets +onlyGivenNames a; first | (refine (fun (k : Does G z a) => ?_) ?_; rotate_left; unfold a; clear a; rotate_left; clear_value a; revert a; intros) | (clear_value a; revert a; intros))
    | refine Does.start ?_ _ | refine Does.deliver ?_ (Foot.up hg (by decide)) _ _ _ (fun _ _ => ?_)
    | refine Does.cmdFinish ?_ (Foot.up hg (by decide)) _ _ _ _ _ | refine Does.cmdRun ?_ (Foot.up hg (by decide)) _ _ _ _
    | refine Runs.next ?_ | refine Runs.ite ?_ ?_ | (dsimp -zeta only) | refine Does.ite ?_ ?_ | refine Does.ite_snd ?_ ?_
    | refine Foot.pick ?_ ?_ | split | refine Does.snd ‹_ = (_, _)› ?_
    | (refine Does.mk' ?_ rfl rfl rfl rfl rfl rfl rfl rfl rfl rfl ?_; rotate_left; intro p hn; cases p <;> first | with_unfolding_all rfl | exact Foot.noP hg (by decide) hn)

def Foot.execCmdRsp : Foot := ⟨0x7FFFFFFFFFFFFFFFFFFFFFFFFFFFFFFFFFFFFFFFFFFFFFFFFFFFFFF, 0x3FFFFFFFFFFFFFFFFFFFFFFFFFFFFFFFFFFFFFFFFFFFFFFFFFFFFFFFFFFFFFFFFFFFFFFFFFFFFFFFFFFFFFFFFF, 0xEFFFF⟩

theorem Runs.execCmdRsp {G : Foot} {z s : State} (h : Does G z s) (hg : Foot.execCmdRsp.leB G = true) (t : Nat) (e : ChEnd) (tag : Nat) (src : Nat) (reqid : Nat) (st : Nat) : Runs G z (execCmdRsp t e tag src reqid st s) := by
  unfold Sys2Proof.Machine.execCmdRsp
  with_reducible repeat' first
    | assumption | refine Does.start ?_ _ | refine Does.deliver ?_ (Foot.up hg (by decide)) _ _ _ (fun _ _ => ?_)
    | refine Does.evFrom ?_ (Foot.up hg (by decide)) _ _ _ _ _ | refine Does.chInc ?_ (Foot.up hg (by decide)) _ _ _
    | refine Does.cmdFinish ?_ (Foot.up hg (by decide)) _ _ _ _ _ | refine Runs.next ?_ | refine Runs.ite ?_ ?_
    | (dsimp -zeta only) | refine Does.ite ?_ ?_ | refine Does.ite_snd ?_ ?_ | refine Foot.pick ?_ ?_ | split
    | refine Does.snd ‹_ = (_, _)› ?_
    | (refine Does.mk' ?_ rfl rfl rfl rfl rfl rfl rfl rfl rfl rfl ?_; rotate_left; intro p hn; cases p <;> first | with_unfolding_all rfl | exact Foot.noP hg (by decide) hn)

def Foot.execCmdTimeout : Foot := ⟨0x7FFFFFFFFFFFFFFFFFFFFFFFFFFFFFFFFFFFFFFFFFFFFFFFFFFFFFF, 0x3FFFFFFFFFFFFFFFFFFFFFFFFFFFFFFFFFFFFFFFFFFFFFFFFFFFFFFFFFFFFFFFFFFFFFFFFFFFFFFFFFFFFFFFFF, 0xEFFFF⟩

theorem Runs.execCmdTimeout {G : Foot} {z s : State} (h : Does G z s) (hg : Foot.execCmdTimeout.leB G = true) (t : Nat) (e : ChEnd) (reqid : Nat) : Runs G z (execCmdTimeout t e reqid s) := by
  unfold Sys2Proof.Machine.execCmdTimeout
  with_reducible repeat' first
    | assumption
    | (extract_lets +onlyGivenNames a; first | (refine (fun (k : Does G z a) => ?_) ?_; rotate_left; unfold a; clear a; rotate_left; clear_value a; revert a; intros) | (clear_value a; revert a; intros))
    | refine Does.setV ?_ ?_ _ _ _ | refine Does.start ?_ _ | refine Does.pendDrop ?_ (Foot.up hg (by decide)) _ _
    | refine Does.cmdAnswered ?_ (Foot.up hg (by decide)) _ _ _ | refine Does.event ?_ (Foot.up hg (by decide)) _ _
    | refine Does.rstSync ?_ (Foot.up hg (by decide)) | refine Does.pkgRun ?_ (Foot.up hg (by decide))
    | refine Does.reqRun ?_ (Foot.up hg (by decide)) | refine Runs.next ?_ | refine Runs.ite ?_ ?_
    | exact Foot.upV hg (by decide) | (dsimp -zeta only) | refine Does.ite ?_ ?_ | refine Does.ite_snd ?_ ?_
    | refine Foot.pick ?_ ?_ | split | refine Does.snd ‹_ = (_, _)› ?_
    | (refine Does.mk' ?_ rfl rfl rfl rfl rfl rfl rfl rfl rfl rfl ?_; rotate_left; intro p hn; cases p <;> first | with_unfolding_all rfl | exact Foot.noP hg (by decide) hn)

def Foot.execRspTimeout : Foot := ⟨0x7FFFFFFFFFFFFFFFFFFFFFFFFFFFFFFFFFFFFFFFFFFFFFFFFFFFFFF, 0x3FFFFFFFFFFFFFFFFFFFFFFFFFFFFFFFFFFFFFFFFFFFFFFFFFFFFFFFFFFFFFFFFFFFFFFFFFFFFFFFFFFFFFFFFF, 0xEFFFF⟩

theorem Runs.execRspTimeout {G : Foot} {z s : State} (h : Does G z s) (hg : Foot.execRspTimeout.leB G = true) (t : Nat) (init : Nat) : Runs G z (execRspTimeout t init s) := by
  unfold Sys2Proof.Machine.execRspTimeout
  with_reducible repeat' first
    | assumption
    | (extract_lets +onlyGivenNames a; first | (refine (fun (k : Does G z a) => ?_) ?_; rotate_left; unfold a; clear a; rotate_left; clear_value a; revert a; intros) | ((have b : SyncSt := a; clear b); unfold a; clear a) | (clear_value a; revert a; intros))
    | refine Does.flag ?_ ?_ _ _ _ | refine Does.start ?_ _ | refine Does.answerAbsent ?_ (Foot.up hg (by decide)) _
    | refine Does.event ?_ (Foot.up hg (by decide)) _ _ | refine Does.reqRun ?_ (Foot.up hg (by decide)) | refine Runs.next ?_
    | refine Runs.ite ?_ ?_ | exact Foot.upR hg (by decide) | (dsimp -zeta only) | refine Does.ite ?_ ?_

def Foot.execBgLate : Foot := ⟨0x7004000000000000000000000000000130200008000000000, 0x400000000000000000000000000000000000000000000000000000000000000000000000000007, 0x30⟩

theorem Runs.execBgLate {G : Foot} {z s : State} (h : Does G z s) (hg : Foot.execBgLate.leB G = true) (t : Nat) (act : Nat) (start : Nat) : Runs G z (execBgLate t act start s) := by
  unfold Sys2Proof.Machine.execBgLate
  with_reducible repeat' first
    | assumption
    | (extract_lets +onlyGivenNames a; first | (refine (fun (k : Does G z a) => ?_) ?_; rotate_left; unfold a; clear a; rotate_left; clear_value a; revert a; intros) | (clear_value a; revert a; intros))
    | refine Does.setV ?_ ?_ _ _ _ | refine Does.start ?_ _ | refine Does.event ?_ (Foot.up hg (by decide)) _ _
    | refine Runs.next ?_ | refine Runs.ite ?_ ?_ | exact Foot.upV hg (by decide) | (dsimp -zeta only) | refine Does.ite ?_ ?_

def Foot.execScrubStep : Foot := ⟨0x3CB75443FFFFFFFFFFFD950060B7F7FDFFF30200179C30C32C68, 0x3B8FFE24637FF613F8100008023FCFC0FFE1FFFFEDF0DFFB0FF5AF8BFFFE11E01FFFFFFFFFF8060083C1FFEFF7, 0x45DFB⟩

theorem Runs.execScrubStep {G : Foot} {z s : State} (h : Does G z s) (hg : Foot.execScrubStep.leB G = true) (t : Nat) (read : EccRead) : Runs G z (execScrubStep t read s) := by
  unfold Sys2Proof.Machine.execScrubStep
  with_reducible repeat' first
    | assumption
    | (extract_lets +onlyGivenNames a; first | (refine (fun (k : Does G z a) => ?_) ?_; rotate_left; unfold a; clear a; rotate_left; clear_value a; revert a; intros) | (clear_value a; revert a; intros))
    | refine Does.wr ?_ ?_ _ _ _ | refine Does.start ?_ _ | (refine Does.when ?_ _ _ fun _ _ => ?_)
    | refine Does.wordRead ?_ (Foot.up hg (by decide)) _ _ _ | refine Does.bgStart ?_ (Foot.up hg (by decide)) _
    | refine Does.scrubNext ?_ (Foot.up hg (by decide)) | refine Runs.next ?_ | refine Runs.ite ?_ ?_
    | exact Foot.upR hg (by decide) | (dsimp -zeta only) | refine Does.ite ?_ ?_ | refine Does.ite_snd ?_ ?_
    | refine Foot.pick ?_ ?_ | split


end Sys2Proof.Machine
end

