-- ==== Sys2Proof/Laws/RunsB.lean ====
section
/-!
SUPPORT. Does, with its footprint, for the meanings of BudgetCmd, Droop, Shape, Rail, RailCmd, Starter, Sync, SyncLeaf, Lease.
-/
set_option linter.tactic.unusedName false
set_option linter.unusedVariables false
set_option linter.unusedTactic false
set_option linter.unreachableTactic false
namespace Sys2Proof.Machine

def Foot.execLeaseGrid : Foot := ⟨0x3507000000000000000000000000000000000000000000000000, 0x7CC001000000000000000000000000000000000000000007, 0x20⟩

theorem Runs.execLeaseGrid {G : Foot} {z s : State} (h : Does G z s) (hg : Foot.execLeaseGrid.leB G = true) (t : Nat) : Runs G z (execLeaseGrid t s) := by
  unfold Sys2Proof.Machine.execLeaseGrid
  with_reducible repeat' first
    | assumption
    | (extract_lets +onlyGivenNames a; first | (refine (fun (k : Does G z a) => ?_) ?_; rotate_left; unfold a; clear a; rotate_left; clear_value a; revert a; intros) | (clear_value a; revert a; intros))
    | refine Does.wr ?_ ?_ _ _ _ | refine Does.setV ?_ ?_ _ _ _ | refine Does.start ?_ _
    | (refine Does.each ?_ _ _ fun _ _ _ _ => ?_) | refine Does.leaseCheck ?_ (Foot.up hg (by decide))
    | refine Does.frameOut ?_ (Foot.up hg (by decide)) _ _ _ | refine Runs.next ?_ | refine Runs.ite ?_ ?_
    | exact Foot.upR hg (by decide) | exact Foot.upV hg (by decide) | exact Foot.upM hg ‹_ ∈ _› (by decide)
    | (dsimp -zeta only) | refine Does.ite ?_ ?_

def Foot.execLeaseDecision : Foot := ⟨0x3487004010007703F00000000000006000130200078000400060, 0x84C0010000000000000060014000C0000000000000000007, 0xB0⟩

theorem Runs.execLeaseDecision {G : Foot} {z s : State} (h : Does G z s) (hg : Foot.execLeaseDecision.leB G = true) (t : Nat) : Runs G z (execLeaseDecision t s) := by
  unfold Sys2Proof.Machine.execLeaseDecision
  with_reducible repeat' first
    | assumption
    | (extract_lets +onlyGivenNames a; first | (refine (fun (k : Does G z a) => ?_) ?_; rotate_left; unfold a; clear a; rotate_left; clear_value a; revert a; intros) | (clear_value a; revert a; intros))
    | refine Does.setV ?_ ?_ _ _ _ | refine Does.start ?_ _ | (refine Does.each ?_ _ _ fun _ _ _ _ => ?_)
    | refine Does.leaseSet ?_ (Foot.up hg (by decide)) _ _ _ | refine Does.wrI ?_ ?_ _ _ _
    | refine Does.leaseSeq ?_ (Foot.up hg (by decide)) _ | refine Does.frameOut ?_ (Foot.up hg (by decide)) _ _ _
    | refine Runs.next ?_ | refine Runs.ite ?_ ?_ | exact Foot.upR hg (by decide) | exact Foot.upV hg (by decide)
    | exact Foot.upM hg ‹_ ∈ _› (by decide) | (dsimp -zeta only) | refine Does.ite ?_ ?_

def Foot.execLeaseExpiry : Foot := ⟨0x1087004010007703F00000000000006000130200078000400060, 0x1000000000000000000060014000C0000000000000000007, 0xB0⟩

theorem Runs.execLeaseExpiry {G : Foot} {z s : State} (h : Does G z s) (hg : Foot.execLeaseExpiry.leB G = true) (t : Nat) (n : Nat) : Runs G z (execLeaseExpiry t n s) := by
  unfold Sys2Proof.Machine.execLeaseExpiry
  with_reducible repeat' first
    | assumption
    | (extract_lets +onlyGivenNames a; first | (refine (fun (k : Does G z a) => ?_) ?_; rotate_left; unfold a; clear a; rotate_left; clear_value a; revert a; intros) | (clear_value a; revert a; intros))
    | refine Does.start ?_ _ | refine Does.leaseEnd ?_ (Foot.up hg (by decide)) _ _ | refine Runs.next ?_
    | refine Runs.ite ?_ ?_ | (dsimp -zeta only) | refine Does.ite ?_ ?_

def Foot.execRecallEffect : Foot := ⟨0x3087004010007703F00000000000006000130200078000400060, 0x1000000000000000000060014000C0000000000000000007, 0xB0⟩

theorem Runs.execRecallEffect {G : Foot} {z s : State} (h : Does G z s) (hg : Foot.execRecallEffect.leB G = true) (t : Nat) (n : Nat) : Runs G z (execRecallEffect t n s) := by
  unfold Sys2Proof.Machine.execRecallEffect
  with_reducible repeat' first
    | assumption
    | (extract_lets +onlyGivenNames a; first | (refine (fun (k : Does G z a) => ?_) ?_; rotate_left; unfold a; clear a; rotate_left; clear_value a; revert a; intros) | (clear_value a; revert a; intros))
    | refine Does.setV ?_ ?_ _ _ _ | refine Does.start ?_ _ | refine Does.leaseEnd ?_ (Foot.up hg (by decide)) _ _
    | refine Does.leaseSet ?_ (Foot.up hg (by decide)) _ _ _ | refine Does.leaseTEnd ?_ (Foot.up hg (by decide)) _ _
    | refine Runs.next ?_ | refine Runs.ite ?_ ?_ | exact Foot.upV hg (by decide) | (dsimp -zeta only) | refine Does.ite ?_ ?_

def Foot.execLeaseGuardExpiry : Foot := ⟨0x3087004010007703F00000000000006000130200078000400060, 0x1000000000000000000060014000C0000000000000000007, 0xB0⟩

theorem Runs.execLeaseGuardExpiry {G : Foot} {z s : State} (h : Does G z s) (hg : Foot.execLeaseGuardExpiry.leB G = true) (t : Nat) (n : Nat) : Runs G z (execLeaseGuardExpiry t n s) := by
  unfold Sys2Proof.Machine.execLeaseGuardExpiry
  with_reducible repeat' first
    | assumption
    | (extract_lets +onlyGivenNames a; first | (refine (fun (k : Does G z a) => ?_) ?_; rotate_left; unfold a; clear a; rotate_left; clear_value a; revert a; intros) | (clear_value a; revert a; intros))
    | refine Does.setV ?_ ?_ _ _ _ | refine Does.start ?_ _ | refine Does.leaseEnd ?_ (Foot.up hg (by decide)) _ _
    | refine Does.leaseSet ?_ (Foot.up hg (by decide)) _ _ _ | refine Does.leaseTEnd ?_ (Foot.up hg (by decide)) _ _
    | refine Runs.next ?_ | refine Runs.ite ?_ ?_ | exact Foot.upV hg (by decide) | (dsimp -zeta only) | refine Does.ite ?_ ?_

def Foot.execLoopTick : Foot := ⟨0x3407004012007703F000000000000FEC10130200078000400060, 0x70C00100000000000000003F4000C0000000000000000007, 0xF0⟩

theorem Runs.execLoopTick {G : Foot} {z s : State} (h : Does G z s) (hg : Foot.execLoopTick.leB G = true) (t : Nat) (l : Nat) : Runs G z (execLoopTick t l s) := by
  unfold Sys2Proof.Machine.execLoopTick
  with_reducible repeat' first
    | assumption
    | (extract_lets +onlyGivenNames a; first | (refine (fun (k : Does G z a) => ?_) ?_; rotate_left; unfold a; clear a; rotate_left; clear_value a; revert a; intros) | (clear_value a; revert a; intros))
    | refine Does.start ?_ _ | refine Does.loopTick ?_ (Foot.up hg (by decide)) _
    | refine Does.leaseCheck ?_ (Foot.up hg (by decide)) | refine Runs.next ?_ | refine Runs.ite ?_ ?_ | (dsimp -zeta only)
    | refine Does.ite ?_ ?_

def Foot.execLoopOpen : Foot := ⟨0x7004010000002000000000000062404130200009800400000, 0x7, 0x70⟩

theorem Runs.execLoopOpen {G : Foot} {z s : State} (h : Does G z s) (hg : Foot.execLoopOpen.leB G = true) (t : Nat) (p : Port) (l : Nat) : Runs G z (execLoopOpen t p l s) := by
  unfold Sys2Proof.Machine.execLoopOpen
  with_reducible repeat' first
    | assumption | refine Does.start ?_ _ | refine Does.loopCtrl ?_ (Foot.up hg (by decide)) _ _ _ | refine Runs.next ?_

def Foot.execLoopClose : Foot := ⟨0x7004010000002000000000000062404130200009800400000, 0x7, 0x70⟩

theorem Runs.execLoopClose {G : Foot} {z s : State} (h : Does G z s) (hg : Foot.execLoopClose.leB G = true) (t : Nat) (p : Port) (l : Nat) : Runs G z (execLoopClose t p l s) := by
  unfold Sys2Proof.Machine.execLoopClose
  with_reducible repeat' first
    | assumption | refine Does.start ?_ _ | refine Does.loopCtrl ?_ (Foot.up hg (by decide)) _ _ _ | refine Runs.next ?_

def Foot.execShedTimeout : Foot := ⟨0x7004000000000000010002000000000130200008000000000, 0x20000000000000000000000000000000000000000000001A0000000000000000000000000000000000007, 0x30⟩

theorem Runs.execShedTimeout {G : Foot} {z s : State} (h : Does G z s) (hg : Foot.execShedTimeout.leB G = true) (t : Nat) (r : Nat) : Runs G z (execShedTimeout t r s) := by
  unfold Sys2Proof.Machine.execShedTimeout
  with_reducible repeat' first
    | assumption
    | (extract_lets +onlyGivenNames a; first | (refine (fun (k : Does G z a) => ?_) ?_; rotate_left; unfold a; clear a; rotate_left; clear_value a; revert a; intros) | (clear_value a; revert a; intros))
    | refine Does.start ?_ _ | refine Does.shedAbort ?_ (Foot.up hg (by decide)) _ | refine Runs.next ?_
    | refine Runs.ite ?_ ?_ | (dsimp -zeta only) | refine Does.ite ?_ ?_

def Foot.execLeafShed : Foot := ⟨0x40406800000000000000000000000000000000000000, 0x2000000000018000000000014000000000000000000000000000027000000080C000000000000000000000, 0⟩

theorem Runs.execLeafShed {G : Foot} {z s : State} (h : Does G z s) (hg : Foot.execLeafShed.leB G = true) (t : Nat) (l : Nat) (r : Nat) : Runs G z (execLeafShed t l r s) := by
  unfold Sys2Proof.Machine.execLeafShed
  with_reducible repeat' first
    | assumption | refine Does.start ?_ _ | refine Does.shedTake ?_ (Foot.up hg (by decide)) _ _ | refine Runs.next ?_

def Foot.execShedHoldExpiry : Foot := ⟨0x40406800000000000000000000000000000000000000, 0x20000000000180000000000140000000000000000000000000000270000000804000000000000000000000, 0⟩

theorem Runs.execShedHoldExpiry {G : Foot} {z s : State} (h : Does G z s) (hg : Foot.execShedHoldExpiry.leB G = true) (t : Nat) (l : Nat) : Runs G z (execShedHoldExpiry t l s) := by
  unfold Sys2Proof.Machine.execShedHoldExpiry
  with_reducible repeat' first
    | assumption | refine Does.start ?_ _ | refine Does.shedExpire ?_ (Foot.up hg (by decide)) _ | refine Runs.next ?_

def Foot.execRailVselWrite : Foot := ⟨0x7004000004000010000000020000000130200009800000000, 0x800000000000040000000000000000000007, 0x30⟩

theorem Runs.execRailVselWrite {G : Foot} {z s : State} (h : Does G z s) (hg : Foot.execRailVselWrite.leB G = true) (t : Nat) (p : Port) (r : Nat) (k : Nat) : Runs G z (execRailVselWrite t p r k s) := by
  unfold Sys2Proof.Machine.execRailVselWrite
  with_reducible repeat' first
    | assumption | refine Does.start ?_ _ | refine Does.command ?_ (Foot.up hg (by decide)) _ _ _ (fun _ _ => ?_) _ _
    | refine Does.vselWrite ?_ (Foot.up hg (by decide)) _ _ | refine Runs.next ?_

def Foot.execRailVslotWrite : Foot := ⟨0x7004000004000010000008020000000130200009800000000, 0x800000000000040000000000000000000007, 0x30⟩

theorem Runs.execRailVslotWrite {G : Foot} {z s : State} (h : Does G z s) (hg : Foot.execRailVslotWrite.leB G = true) (t : Nat) (p : Port) (r : Nat) (k : Nat) (code : Nat) : Runs G z (execRailVslotWrite t p r k code s) := by
  unfold Sys2Proof.Machine.execRailVslotWrite
  with_reducible repeat' first
    | assumption | refine Does.start ?_ _ | refine Does.command ?_ (Foot.up hg (by decide)) _ _ _ (fun _ _ => ?_) _ _
    | refine Does.vslotWrite ?_ (Foot.up hg (by decide)) _ _ _ | refine Runs.next ?_

def Foot.execLeafVrefCheck : Foot := ⟨0x10000082000000000000000000000000000000400000, 0x200000000000000000000000000000000000000000, 0x40⟩

theorem Runs.execLeafVrefCheck {G : Foot} {z s : State} (h : Does G z s) (hg : Foot.execLeafVrefCheck.leB G = true) (t : Nat) (l : Nat) : Runs G z (execLeafVrefCheck t l s) := by
  unfold Sys2Proof.Machine.execLeafVrefCheck
  with_reducible repeat' first
    | assumption | refine Does.start ?_ _ | refine Does.vrefCheck ?_ (Foot.up hg (by decide)) _ | refine Runs.next ?_

def Foot.execLeafVref : Foot := ⟨0x80000000000000000000000000000000000000, 0, 0⟩

theorem Runs.execLeafVref {G : Foot} {z s : State} (h : Does G z s) (hg : Foot.execLeafVref.leB G = true) (t : Nat) (l : Nat) (w : Nat) : Runs G z (execLeafVref t l w s) := by
  unfold Sys2Proof.Machine.execLeafVref
  with_reducible repeat' first
    | assumption | refine Does.start ?_ _ | refine Does.vrefTake ?_ (Foot.up hg (by decide)) _ _ | refine Runs.next ?_

def Foot.execClrFault : Foot := ⟨0x10004010000000000000001800000000, 0, 0⟩

theorem Runs.execClrFault {G : Foot} {z s : State} (h : Does G z s) (hg : Foot.execClrFault.leB G = true) (t : Nat) (p : Port) (ph : Nat) (high : Bool) : Runs G z (execClrFault t p ph high s) := by
  unfold Sys2Proof.Machine.execClrFault
  with_reducible repeat' first
    | assumption | refine Does.start ?_ _ | refine Does.command ?_ (Foot.up hg (by decide)) _ _ _ (fun _ _ => ?_) _ _
    | refine Does.clrFault ?_ (Foot.up hg (by decide)) _ _ | refine Runs.next ?_

def Foot.execPhCalReq : Foot := ⟨0x40000000000000000000001800000000, 0x100000000000000000000000000000000000000000, 0⟩

theorem Runs.execPhCalReq {G : Foot} {z s : State} (h : Does G z s) (hg : Foot.execPhCalReq.leB G = true) (t : Nat) (p : Port) (ph : Nat) : Runs G z (execPhCalReq t p ph s) := by
  unfold Sys2Proof.Machine.execPhCalReq
  with_reducible repeat' first
    | assumption | refine Does.start ?_ _ | refine Does.command ?_ (Foot.up hg (by decide)) _ _ _ (fun _ _ => ?_) _ _
    | refine Does.phCalReq ?_ (Foot.up hg (by decide)) _ | refine Runs.next ?_

def Foot.execIsnsCalibration : Foot := ⟨0x40000000000000000000000000000000, 0x180000000000000000000000000004000000000000, 0⟩

theorem Runs.execIsnsCalibration {G : Foot} {z s : State} (h : Does G z s) (hg : Foot.execIsnsCalibration.leB G = true) (t : Nat) (ph : Nat) (ofs : Int) : Runs G z (execIsnsCalibration t ph ofs s) := by
  unfold Sys2Proof.Machine.execIsnsCalibration
  with_reducible repeat' first
    | assumption
    | (extract_lets +onlyGivenNames a; first | (refine (fun (k : Does G z a) => ?_) ?_; rotate_left; unfold a; clear a; rotate_left; clear_value a; revert a; intros) | (clear_value a; revert a; intros))
    | refine Does.wr ?_ ?_ _ _ _ | refine Does.setV ?_ ?_ _ _ _ | refine Does.start ?_ _ | refine Does.wrI ?_ ?_ _ _ _
    | refine Does.invNote ?_ (Foot.up hg (by decide)) _ _ _ | refine Runs.next ?_ | refine Runs.ite ?_ ?_
    | exact Foot.upR hg (by decide) | exact Foot.upV hg (by decide) | (dsimp -zeta only) | refine Does.ite ?_ ?_

def Foot.execCreditWindow : Foot := ⟨0x40D06000000000000000000000000000000000000000, 0x64002000000180000000000140000000000000000000000000001770000000827800000000000000000000, 0⟩

theorem Runs.execCreditWindow {G : Foot} {z s : State} (h : Does G z s) (hg : Foot.execCreditWindow.leB G = true) (t : Nat) (l : Nat) (rows : List (Nat × Nat)) : Runs G z (execCreditWindow t l rows s) := by
  unfold Sys2Proof.Machine.execCreditWindow
  with_reducible repeat' first
    | assumption | refine Does.start ?_ _ | refine Does.creditWindow ?_ (Foot.up hg (by decide)) _ _ | refine Runs.next ?_

def Foot.execScoreTrip : Foot := ⟨0x7004050506002030000000000000000130200008000400000, 0x1A0000000000180000000000140000000000000000000000000003A70000000824000000000000000000007, 0x30⟩

theorem Runs.execScoreTrip {G : Foot} {z s : State} (h : Does G z s) (hg : Foot.execScoreTrip.leB G = true) (t : Nat) (d : Nat) (fill : Bool) (codes : List Nat) : Runs G z (execScoreTrip t d fill codes s) := by
  unfold Sys2Proof.Machine.execScoreTrip
  with_reducible repeat' first
    | assumption
    | (extract_lets +onlyGivenNames a; first | (refine (fun (k : Does G z a) => ?_) ?_; rotate_left; unfold a; clear a; rotate_left; clear_value a; revert a; intros) | (clear_value a; revert a; intros))
    | refine Does.wr ?_ ?_ _ _ _ | refine Does.start ?_ _ | (refine Does.each ?_ _ _ fun _ _ _ _ => ?_)
    | refine Does.ddThr ?_ (Foot.up hg (by decide)) _ | refine Does.ddSample ?_ (Foot.up hg (by decide)) _ _
    | refine Runs.next ?_ | refine Runs.ite ?_ ?_ | exact Foot.upR hg (by decide) | (dsimp -zeta only) | refine Does.ite ?_ ?_

def Foot.execScoreHoldExpiry : Foot := ⟨0, 0x1000000000000000000000000000000000, 0⟩

theorem Runs.execScoreHoldExpiry {G : Foot} {z s : State} (h : Does G z s) (hg : Foot.execScoreHoldExpiry.leB G = true) (t : Nat) (l : Nat) (p : Nat) : Runs G z (execScoreHoldExpiry t l p s) := by
  unfold Sys2Proof.Machine.execScoreHoldExpiry
  with_reducible repeat' first
    | assumption
    | (extract_lets +onlyGivenNames a; first | (refine (fun (k : Does G z a) => ?_) ?_; rotate_left; unfold a; clear a; rotate_left; clear_value a; revert a; intros) | (clear_value a; revert a; intros))
    | refine Does.setV ?_ ?_ _ _ _ | refine Does.start ?_ _ | refine Runs.next ?_ | refine Runs.ite ?_ ?_
    | exact Foot.upV hg (by decide) | (dsimp -zeta only) | refine Does.ite ?_ ?_

def Foot.execDdCalReq : Foot := ⟨0x1800000000, 0x4000000000000000000000000000000000, 0⟩

theorem Runs.execDdCalReq {G : Foot} {z s : State} (h : Does G z s) (hg : Foot.execDdCalReq.leB G = true) (t : Nat) (p : Port) (d : Nat) : Runs G z (execDdCalReq t p d s) := by
  unfold Sys2Proof.Machine.execDdCalReq
  with_reducible repeat' first
    | assumption | refine Does.start ?_ _ | refine Does.command ?_ (Foot.up hg (by decide)) _ _ _ (fun _ _ => ?_) _ _
    | refine Does.ddCalReq ?_ (Foot.up hg (by decide)) _ | refine Runs.next ?_ | refine Runs.ite ?_ ?_ | (dsimp -zeta only)
    | refine Does.ite ?_ ?_ | refine Does.ite_snd ?_ ?_

def Foot.execDdCalibrate : Foot := ⟨0x18000000000000000000000000000000000, 0xC000000000000000000000000000000000, 0⟩

theorem Runs.execDdCalibrate {G : Foot} {z s : State} (h : Does G z s) (hg : Foot.execDdCalibrate.leB G = true) (t : Nat) (d : Nat) (sum : Nat) : Runs G z (execDdCalibrate t d sum s) := by
  unfold Sys2Proof.Machine.execDdCalibrate
  with_reducible repeat' first
    | assumption
    | (extract_lets +onlyGivenNames a; first | (refine (fun (k : Does G z a) => ?_) ?_; rotate_left; unfold a; clear a; rotate_left; clear_value a; revert a; intros) | (clear_value a; revert a; intros))
    | refine Does.wr ?_ ?_ _ _ _ | refine Does.setV ?_ ?_ _ _ _ | refine Does.start ?_ _
    | refine Does.ddThr ?_ (Foot.up hg (by decide)) _ | refine Runs.next ?_ | refine Runs.ite ?_ ?_
    | exact Foot.upR hg (by decide) | exact Foot.upV hg (by decide) | (dsimp -zeta only) | refine Does.ite ?_ ?_

def Foot.execDdCalStale : Foot := ⟨0x7004010000002008000000000000000130200008000400000, 0x7, 0x30⟩

theorem Runs.execDdCalStale {G : Foot} {z s : State} (h : Does G z s) (hg : Foot.execDdCalStale.leB G = true) (t : Nat) (d : Nat) : Runs G z (execDdCalStale t d s) := by
  unfold Sys2Proof.Machine.execDdCalStale
  with_reducible repeat' first
    | assumption
    | (extract_lets +onlyGivenNames a; first | (refine (fun (k : Does G z a) => ?_) ?_; rotate_left; unfold a; clear a; rotate_left; clear_value a; revert a; intros) | (clear_value a; revert a; intros))
    | refine Does.flag ?_ ?_ _ _ _ | refine Does.start ?_ _ | refine Does.evFrom ?_ (Foot.up hg (by decide)) _ _ _ _ _
    | refine Runs.next ?_ | refine Runs.ite ?_ ?_ | exact Foot.upR hg (by decide) | (dsimp -zeta only) | refine Does.ite ?_ ?_

def Foot.execWaveRelease : Foot := ⟨0x40612000000000000000000000000000000000000000, 0x20000000000180000000000140000000000000000000000000000270000000810000000000000000000000, 0⟩

theorem Runs.execWaveRelease {G : Foot} {z s : State} (h : Does G z s) (hg : Foot.execWaveRelease.leB G = true) (t : Nat) (l : Nat) (q : Nat) : Runs G z (execWaveRelease t l q s) := by
  unfold Sys2Proof.Machine.execWaveRelease
  with_reducible repeat' first
    | assumption
    | (extract_lets +onlyGivenNames a; first | (refine (fun (k : Does G z a) => ?_) ?_; rotate_left; unfold a; clear a; rotate_left; clear_value a; revert a; intros) | (clear_value a; revert a; intros))
    | refine Does.start ?_ _ | refine Does.waveEnd ?_ (Foot.up hg (by decide)) _ _ | refine Runs.next ?_
    | refine Runs.ite ?_ ?_ | (dsimp -zeta only) | refine Does.ite ?_ ?_

def Foot.execRiseOpen : Foot := ⟨0x7004000000000000015002000000000130200008000020000, 0x2020000000000000000000000000000000000000000000005A0000000000000000000000000000000000007, 0x430⟩

theorem Runs.execRiseOpen {G : Foot} {z s : State} (h : Does G z s) (hg : Foot.execRiseOpen.leB G = true) (t : Nat) (obj : Nat) (rail : Nat) : Runs G z (execRiseOpen t obj rail s) := by
  unfold Sys2Proof.Machine.execRiseOpen
  with_reducible repeat' first
    | assumption
    | (extract_lets +onlyGivenNames a; first | (refine (fun (k : Does G z a) => ?_) ?_; rotate_left; unfold a; clear a; rotate_left; clear_value a; revert a; intros) | (clear_value a; revert a; intros))
    | refine Does.start ?_ _ | refine Does.riseOpen ?_ (Foot.up hg (by decide)) _ _ | refine Runs.next ?_
    | refine Runs.ite ?_ ?_ | (dsimp -zeta only) | refine Does.ite ?_ ?_

def Foot.execRiseEnd : Foot := ⟨0x7000000000000000001000000000000000000000000000000, 0x80000400000000000000000000000000000000000007, 0x420⟩

theorem Runs.execRiseEnd {G : Foot} {z s : State} (h : Does G z s) (hg : Foot.execRiseEnd.leB G = true) (t : Nat) : Runs G z (execRiseEnd t s) := by
  unfold Sys2Proof.Machine.execRiseEnd
  with_reducible repeat' first
    | assumption
    | (extract_lets +onlyGivenNames a; first | (refine (fun (k : Does G z a) => ?_) ?_; rotate_left; unfold a; clear a; rotate_left; clear_value a; revert a; intros) | (clear_value a; revert a; intros))
    | refine Does.start ?_ _ | refine Does.riseStop ?_ (Foot.up hg (by decide)) _ | refine Runs.next ?_

def Foot.execRiseTimeout : Foot := ⟨0x7004000000000000001000000000000130200008000020000, 0x80000400000000000000000000000000000000000007, 0x430⟩

theorem Runs.execRiseTimeout {G : Foot} {z s : State} (h : Does G z s) (hg : Foot.execRiseTimeout.leB G = true) (t : Nat) (obj : Nat) (rail : Nat) : Runs G z (execRiseTimeout t obj rail s) := by
  unfold Sys2Proof.Machine.execRiseTimeout
  with_reducible repeat' first
    | assumption
    | (extract_lets +onlyGivenNames a; first | (refine (fun (k : Does G z a) => ?_) ?_; rotate_left; unfold a; clear a; rotate_left; clear_value a; revert a; intros) | (clear_value a; revert a; intros))
    | refine Does.start ?_ _ | refine Does.incSat ?_ ?_ _ _ _ | refine Does.event ?_ (Foot.up hg (by decide)) _ _
    | refine Does.riseStop ?_ (Foot.up hg (by decide)) _ | refine Runs.next ?_ | refine Runs.ite ?_ ?_
    | exact Foot.upR hg (by decide) | (dsimp -zeta only) | refine Does.ite ?_ ?_

def Foot.execRiseSlewStep : Foot := ⟨0x1000020000000000000000000000000, 0x600080000000000000000000000000000000000, 0⟩

theorem Runs.execRiseSlewStep {G : Foot} {z s : State} (h : Does G z s) (hg : Foot.execRiseSlewStep.leB G = true) (t : Nat) (r : Nat) : Runs G z (execRiseSlewStep t r s) := by
  unfold Sys2Proof.Machine.execRiseSlewStep
  with_reducible repeat' first
    | assumption
    | (extract_lets +onlyGivenNames a; first | (refine (fun (k : Does G z a) => ?_) ?_; rotate_left; unfold a; clear a; rotate_left; clear_value a; revert a; intros) | (clear_value a; revert a; intros))
    | refine Does.setV ?_ ?_ _ _ _ | refine Does.start ?_ _ | refine Does.refForm ?_ (Foot.up hg (by decide)) _
    | refine Does.riseShow ?_ (Foot.up hg (by decide)) _ | refine Runs.next ?_ | refine Runs.ite ?_ ?_
    | exact Foot.upV hg (by decide) | (dsimp -zeta only) | refine Does.ite ?_ ?_

def Foot.execRiseExhausted : Foot := ⟨0x7004000000000000001000000000000130200008000000000, 0x7, 0x30⟩

theorem Runs.execRiseExhausted {G : Foot} {z s : State} (h : Does G z s) (hg : Foot.execRiseExhausted.leB G = true) (t : Nat) (r : Nat) : Runs G z (execRiseExhausted t r s) := by
  unfold Sys2Proof.Machine.execRiseExhausted
  with_reducible repeat' first
    | assumption
    | (extract_lets +onlyGivenNames a; first | (refine (fun (k : Does G z a) => ?_) ?_; rotate_left; unfold a; clear a; rotate_left; clear_value a; revert a; intros) | (clear_value a; revert a; intros))
    | refine Does.wr ?_ ?_ _ _ _ | refine Does.flag ?_ ?_ _ _ _ | refine Does.start ?_ _
    | refine Does.event ?_ (Foot.up hg (by decide)) _ _ | refine Runs.next ?_ | refine Runs.ite ?_ ?_
    | exact Foot.upR hg (by decide) | (dsimp -zeta only) | refine Does.ite ?_ ?_

def Foot.execSyncInit : Foot := ⟨0x3CB7004310007703F00015002003C060001302000798004F2C60, 0x20200000000000000000000000000000000000DF0CFFB0005A000000FF060014000C0000000000000000007, 0x62EF0⟩

theorem Runs.execSyncInit {G : Foot} {z s : State} (h : Does G z s) (hg : Foot.execSyncInit.leB G = true) (t : Nat) (o : SyncOrg) (obj : Nat) (a0 : Nat) (a1 : Nat) (a2 : Nat) : Runs G z (execSyncInit t o obj a0 a1 a2 s) := by
  unfold Sys2Proof.Machine.execSyncInit
  with_reducible repeat' first
    | assumption | refine Does.start ?_ _ | refine Does.syncRow ?_ (Foot.up hg (by decide)) _ _ _ _ _ _ | refine Runs.next ?_

def Foot.execSyncTag : Foot := ⟨0x3CB7004310007703F00015002003C060001302000798004F2C60, 0x20200000000000000000000000000000000000DF0CFFB0005A000000FF060014000C0000000000000000007, 0x62EF0⟩

theorem Runs.execSyncTag {G : Foot} {z s : State} (h : Does G z s) (hg : Foot.execSyncTag.leB G = true) (t : Nat) (o : SyncOrg) (obj : Nat) (a0 : Nat) (a1 : Nat) (a2 : Nat) : Runs G z (execSyncTag t o obj a0 a1 a2 s) := by
  unfold Sys2Proof.Machine.execSyncTag
  with_reducible repeat' first
    | assumption | refine Does.start ?_ _ | refine Does.syncRow ?_ (Foot.up hg (by decide)) _ _ _ _ _ _ | refine Runs.next ?_

def Foot.execSyncArrive : Foot := ⟨0x3CB7004310007703F00015002003C060001302000798004F2C60, 0x20200000000000000000000000000000000000DF0CFFB0005A000000FF060014000C0000000000000000007, 0x62EF0⟩

theorem Runs.execSyncArrive {G : Foot} {z s : State} (h : Does G z s) (hg : Foot.execSyncArrive.leB G = true) (t : Nat) (o : SyncOrg) (obj : Nat) (a0 : Nat) (a1 : Nat) (a2 : Nat) : Runs G z (execSyncArrive t o obj a0 a1 a2 s) := by
  unfold Sys2Proof.Machine.execSyncArrive
  with_reducible repeat' first
    | assumption | refine Does.start ?_ _ | refine Does.syncRow ?_ (Foot.up hg (by decide)) _ _ _ _ _ _ | refine Runs.next ?_

def Foot.execSyncSignal : Foot := ⟨0x3CB7004310007703F00015002003C060001302000798004F2C60, 0x20200000000000000000000000000000000000DF0CFFB0005A000000FF060014000C0000000000000000007, 0x62EF0⟩

theorem Runs.execSyncSignal {G : Foot} {z s : State} (h : Does G z s) (hg : Foot.execSyncSignal.leB G = true) (t : Nat) (o : SyncOrg) (obj : Nat) (a0 : Nat) (a1 : Nat) (a2 : Nat) : Runs G z (execSyncSignal t o obj a0 a1 a2 s) := by
  unfold Sys2Proof.Machine.execSyncSignal
  with_reducible repeat' first
    | assumption | refine Does.start ?_ _ | refine Does.syncRow ?_ (Foot.up hg (by decide)) _ _ _ _ _ _ | refine Runs.next ?_

def Foot.execSyncSet : Foot := ⟨0x3CB7004310007703F00015002003C060001302000798004F2C60, 0x20200000000000000000000000000000000000DF0CFFB0005A000000FF060014000C0000000000000000007, 0x62EF0⟩

theorem Runs.execSyncSet {G : Foot} {z s : State} (h : Does G z s) (hg : Foot.execSyncSet.leB G = true) (t : Nat) (o : SyncOrg) (obj : Nat) (a0 : Nat) (a1 : Nat) (a2 : Nat) : Runs G z (execSyncSet t o obj a0 a1 a2 s) := by
  unfold Sys2Proof.Machine.execSyncSet
  with_reducible repeat' first
    | assumption | refine Does.start ?_ _ | refine Does.syncRow ?_ (Foot.up hg (by decide)) _ _ _ _ _ _ | refine Runs.next ?_

def Foot.execSyncClear : Foot := ⟨0x3CB7004310007703F00015002003C060001302000798004F2C60, 0x20200000000000000000000000000000000000DF0CFFB0005A000000FF060014000C0000000000000000007, 0x62EF0⟩

theorem Runs.execSyncClear {G : Foot} {z s : State} (h : Does G z s) (hg : Foot.execSyncClear.leB G = true) (t : Nat) (o : SyncOrg) (obj : Nat) (a0 : Nat) (a1 : Nat) (a2 : Nat) : Runs G z (execSyncClear t o obj a0 a1 a2 s) := by
  unfold Sys2Proof.Machine.execSyncClear
  with_reducible repeat' first
    | assumption | refine Does.start ?_ _ | refine Does.syncRow ?_ (Foot.up hg (by decide)) _ _ _ _ _ _ | refine Runs.next ?_

def Foot.execSyncWait : Foot := ⟨0x3CB7004310007703F00015002003C060001302000798004F2C60, 0x20200000000000000000000000000000000000DF0CFFB0005A000000FF060014000C0000000000000000007, 0x62EF0⟩

theorem Runs.execSyncWait {G : Foot} {z s : State} (h : Does G z s) (hg : Foot.execSyncWait.leB G = true) (t : Nat) (o : SyncOrg) (obj : Nat) (a0 : Nat) (a1 : Nat) (a2 : Nat) : Runs G z (execSyncWait t o obj a0 a1 a2 s) := by
  unfold Sys2Proof.Machine.execSyncWait
  with_reducible repeat' first
    | assumption | refine Does.start ?_ _ | refine Does.syncRow ?_ (Foot.up hg (by decide)) _ _ _ _ _ _ | refine Runs.next ?_

def Foot.execSyncCancel : Foot := ⟨0x3CB7004310007703F00015002003C060001302000798004F2C60, 0x20200000000000000000000000000000000000DF0CFFB0005A000000FF060014000C0000000000000000007, 0x62EF0⟩

theorem Runs.execSyncCancel {G : Foot} {z s : State} (h : Does G z s) (hg : Foot.execSyncCancel.leB G = true) (t : Nat) (o : SyncOrg) (obj : Nat) (a0 : Nat) (a1 : Nat) (a2 : Nat) : Runs G z (execSyncCancel t o obj a0 a1 a2 s) := by
  unfold Sys2Proof.Machine.execSyncCancel
  with_reducible repeat' first
    | assumption | refine Does.start ?_ _ | refine Does.syncRow ?_ (Foot.up hg (by decide)) _ _ _ _ _ _ | refine Runs.next ?_

def Foot.execSyncFree : Foot := ⟨0x3CB7004310007703F00015002003C060001302000798004F2C60, 0x20200000000000000000000000000000000000DF0CFFB0005A000000FF060014000C0000000000000000007, 0x62EF0⟩

theorem Runs.execSyncFree {G : Foot} {z s : State} (h : Does G z s) (hg : Foot.execSyncFree.leB G = true) (t : Nat) (o : SyncOrg) (obj : Nat) (a0 : Nat) (a1 : Nat) (a2 : Nat) : Runs G z (execSyncFree t o obj a0 a1 a2 s) := by
  unfold Sys2Proof.Machine.execSyncFree
  with_reducible repeat' first
    | assumption | refine Does.start ?_ _ | refine Does.syncRow ?_ (Foot.up hg (by decide)) _ _ _ _ _ _ | refine Runs.next ?_

def Foot.execSyncBreak : Foot := ⟨0x3CB7004310007703F00015002003C060001302000798004F2C60, 0x20200000000000000000000000000000000000DF0CFFB0005A000000FF060014000C0000000000000000007, 0x62EF0⟩

theorem Runs.execSyncBreak {G : Foot} {z s : State} (h : Does G z s) (hg : Foot.execSyncBreak.leB G = true) (t : Nat) (o : SyncOrg) (obj : Nat) (a0 : Nat) (a1 : Nat) (a2 : Nat) : Runs G z (execSyncBreak t o obj a0 a1 a2 s) := by
  unfold Sys2Proof.Machine.execSyncBreak
  with_reducible repeat' first
    | assumption | refine Does.start ?_ _ | refine Does.syncRow ?_ (Foot.up hg (by decide)) _ _ _ _ _ _ | refine Runs.next ?_

def Foot.execSyncReset : Foot := ⟨0x3CB7004310007703F00015002003C060001302000798004F2C60, 0x20200000000000000000000000000000000000DF0CFFB0005A000000FF060014000C0000000000000000007, 0x62EF0⟩

theorem Runs.execSyncReset {G : Foot} {z s : State} (h : Does G z s) (hg : Foot.execSyncReset.leB G = true) (t : Nat) (o : SyncOrg) (obj : Nat) (a0 : Nat) (a1 : Nat) (a2 : Nat) : Runs G z (execSyncReset t o obj a0 a1 a2 s) := by
  unfold Sys2Proof.Machine.execSyncReset
  with_reducible repeat' first
    | assumption | refine Does.start ?_ _ | refine Does.syncRow ?_ (Foot.up hg (by decide)) _ _ _ _ _ _ | refine Runs.next ?_

def Foot.execSyncForce : Foot := ⟨0x3CB7004310007703F00015002003C060001302000798004F2C60, 0x20200000000000000000000000000000000000DF0CFFB0005A000000FF060014000C0000000000000000007, 0x62EF0⟩

theorem Runs.execSyncForce {G : Foot} {z s : State} (h : Does G z s) (hg : Foot.execSyncForce.leB G = true) (t : Nat) (o : SyncOrg) (obj : Nat) (a0 : Nat) (a1 : Nat) (a2 : Nat) : Runs G z (execSyncForce t o obj a0 a1 a2 s) := by
  unfold Sys2Proof.Machine.execSyncForce
  with_reducible repeat' first
    | assumption | refine Does.start ?_ _ | refine Does.syncRow ?_ (Foot.up hg (by decide)) _ _ _ _ _ _ | refine Runs.next ?_

def Foot.execSyncSetCount : Foot := ⟨0x3CB7004310007703F00015002003C060001302000798004F2C60, 0x20200000000000000000000000000000000000DF0CFFB0005A000000FF060014000C0000000000000000007, 0x62EF0⟩

theorem Runs.execSyncSetCount {G : Foot} {z s : State} (h : Does G z s) (hg : Foot.execSyncSetCount.leB G = true) (t : Nat) (o : SyncOrg) (obj : Nat) (a0 : Nat) (a1 : Nat) (a2 : Nat) : Runs G z (execSyncSetCount t o obj a0 a1 a2 s) := by
  unfold Sys2Proof.Machine.execSyncSetCount
  with_reducible repeat' first
    | assumption | refine Does.start ?_ _ | refine Does.syncRow ?_ (Foot.up hg (by decide)) _ _ _ _ _ _ | refine Runs.next ?_

def Foot.execCtxSwitch : Foot := ⟨0x3CB702C390007703F00015002003C060001302000798004F6C60, 0x20200000000040000000000400000000000000DF0EFFB0005A000000FF060014000C0000000000000000007, 0x62EF0⟩

theorem Runs.execCtxSwitch {G : Foot} {z s : State} (h : Does G z s) (hg : Foot.execCtxSwitch.leB G = true) (t : Nat) (o : SyncOrg) (obj : Nat) (a0 : Nat) (a1 : Nat) (a2 : Nat) : Runs G z (execCtxSwitch t o obj a0 a1 a2 s) := by
  unfold Sys2Proof.Machine.execCtxSwitch
  with_reducible repeat' first
    | assumption
    | (extract_lets +onlyGivenNames a; first | (refine (fun (k : Does G z a) => ?_) ?_; rotate_left; unfold a; clear a; rotate_left; clear_value a; revert a; intros) | (clear_value a; revert a; intros))
    | refine Does.start ?_ _ | refine Does.portSwitch ?_ (Foot.up hg (by decide)) _ _ _ _
    | refine Does.syncRow ?_ (Foot.up hg (by decide)) _ _ _ _ _ _ | refine Runs.next ?_ | refine Runs.ite ?_ ?_
    | (dsimp -zeta only) | split

def Foot.execCtxSwitchDone : Foot := ⟨0x3CB7004310007703F00015002007F06000130200079800436C60, 0xA0200000000000000000000000000000000000DF0CFFB0005A000000FF060014000C0000000000000000007, 0x42EF0⟩

theorem Runs.execCtxSwitchDone {G : Foot} {z s : State} (h : Does G z s) (hg : Foot.execCtxSwitchDone.leB G = true) (t : Nat) : Runs G z (execCtxSwitchDone t s) := by
  unfold Sys2Proof.Machine.execCtxSwitchDone
  with_reducible repeat' first
    | assumption
    | (extract_lets +onlyGivenNames a; first | (refine (fun (k : Does G z a) => ?_) ?_; rotate_left; unfold a; clear a; rotate_left; clear_value a; revert a; intros) | (clear_value a; revert a; intros))
    | refine Does.start ?_ _ | refine Does.switchEnd ?_ (Foot.up hg (by decide)) _ | refine Runs.next ?_
    | refine Runs.ite ?_ ?_ | (dsimp -zeta only) | refine Does.ite ?_ ?_

def Foot.execMirrorConfirm : Foot := ⟨0x23CB7004310007703F00001000000006000130200079800422060, 0xD9040A30004000000000060014000C0000000000000000007, 0x40CB0⟩

theorem Runs.execMirrorConfirm {G : Foot} {z s : State} (h : Does G z s) (hg : Foot.execMirrorConfirm.leB G = true) (t : Nat) : Runs G z (execMirrorConfirm t s) := by
  unfold Sys2Proof.Machine.execMirrorConfirm
  with_reducible repeat' first
    | assumption
    | (extract_lets +onlyGivenNames a; first | (refine (fun (k : Does G z a) => ?_) ?_; rotate_left; unfold a; clear a; rotate_left; clear_value a; revert a; intros) | (clear_value a; revert a; intros))
    | refine Does.start ?_ _ | refine Does.confShow ?_ (Foot.up hg (by decide)) _
    | refine Does.heldSend ?_ (Foot.up hg (by decide)) | refine Does.ansGive ?_ (Foot.up hg (by decide)) | refine Runs.next ?_
    | refine Runs.ite ?_ ?_ | (dsimp -zeta only) | refine Does.ite ?_ ?_ | refine Does.ite_snd ?_ ?_ | refine Foot.pick ?_ ?_
    | split

def Foot.execSyncAbsentReport : Foot := ⟨0x3CB7004310007703F00001000000006000130200079800422060, 0xD9040A30004000000000060014000C0000000000000000007, 0x40CB0⟩

theorem Runs.execSyncAbsentReport {G : Foot} {z s : State} (h : Does G z s) (hg : Foot.execSyncAbsentReport.leB G = true) (t : Nat) (d : Nat) : Runs G z (execSyncAbsentReport t d s) := by
  unfold Sys2Proof.Machine.execSyncAbsentReport
  with_reducible repeat' first
    | assumption | refine Does.start ?_ _ | refine Does.syncAbsent ?_ (Foot.up hg (by decide)) _
    | refine Does.syncFlush ?_ (Foot.up hg (by decide)) | refine Runs.next ?_

def Foot.execSpanStaggerExpiry : Foot := ⟨0x3CB7004310007703F00015002003C060001302000798004F2C60, 0x20200000000000000000000000000000000000DF0CFFB0005A000000FF060014000C0000000000000000007, 0x42EF0⟩

theorem Runs.execSpanStaggerExpiry {G : Foot} {z s : State} (h : Does G z s) (hg : Foot.execSpanStaggerExpiry.leB G = true) (t : Nat) (obj : Nat) : Runs G z (execSpanStaggerExpiry t obj s) := by
  unfold Sys2Proof.Machine.execSpanStaggerExpiry
  with_reducible repeat' first
    | assumption
    | (extract_lets +onlyGivenNames a; first | (refine (fun (k : Does G z a) => ?_) ?_; rotate_left; unfold a; clear a; rotate_left; clear_value a; revert a; intros) | (clear_value a; revert a; intros))
    | refine Does.start ?_ _ | refine Does.spanComplete ?_ (Foot.up hg (by decide)) _
    | refine Does.syncFlush ?_ (Foot.up hg (by decide)) | refine Runs.next ?_ | refine Runs.ite ?_ ?_ | (dsimp -zeta only)
    | refine Does.ite ?_ ?_

def Foot.execStrEnter : Foot := ⟨0x3407004010001003E00015002003C00000130200079800430C40, 0x20200000000000000000000000000000000000070C0810005A000000FF00000000000000000000000000007, 0x426F0⟩

theorem Runs.execStrEnter {G : Foot} {z s : State} (h : Does G z s) (hg : Foot.execStrEnter.leB G = true) (t : Nat) (p : Port) (c : Nat) (phase : Nat) : Runs G z (execStrEnter t p c phase s) := by
  unfold Sys2Proof.Machine.execStrEnter
  with_reducible repeat' first
    | assumption | refine Does.start ?_ _ | refine Does.portMark ?_ (Foot.up hg (by decide)) _ _ _
    | refine Does.slotShape ?_ (Foot.up hg (by decide)) _ | refine Runs.next ?_

def Foot.execStrExit : Foot := ⟨0x3407004010001003E00015002003C00000130200079800430C40, 0x20200000000000000000000000000000000000070C0810005A000000FF00000000000000000000000000007, 0x426F0⟩

theorem Runs.execStrExit {G : Foot} {z s : State} (h : Does G z s) (hg : Foot.execStrExit.leB G = true) (t : Nat) (p : Port) (c : Nat) : Runs G z (execStrExit t p c s) := by
  unfold Sys2Proof.Machine.execStrExit
  with_reducible repeat' first
    | assumption | refine Does.start ?_ _ | refine Does.portMark ?_ (Foot.up hg (by decide)) _ _ _
    | refine Does.slotShape ?_ (Foot.up hg (by decide)) _ | refine Runs.next ?_

def Foot.execInvSlot : Foot := ⟨0x3407004010001003E00015002007F00000130200079800430C40, 0xA0200000000000000000000000000000000000070C0810005A000000E100000000000000000000000000007, 0x404F0⟩

theorem Runs.execInvSlot {G : Foot} {z s : State} (h : Does G z s) (hg : Foot.execInvSlot.leB G = true) (t : Nat) (p : Port) (c : Nat) : Runs G z (execInvSlot t p c s) := by
  unfold Sys2Proof.Machine.execInvSlot
  with_reducible repeat' first
    | assumption | refine Does.start ?_ _ | refine Does.command ?_ (Foot.up hg (by decide)) _ _ _ (fun _ _ => ?_) _ _
    | refine Does.strOp ?_ (Foot.up hg (by decide)) _ _ _ | refine Runs.next ?_

def Foot.execInvEntry : Foot := ⟨0x3407004010001003E00015002007F00000130200079800430C40, 0xA0200000000000000000000000000000000000070C0810005A000000E100000000000000000000000000007, 0x404F0⟩

theorem Runs.execInvEntry {G : Foot} {z s : State} (h : Does G z s) (hg : Foot.execInvEntry.leB G = true) (t : Nat) (p : Port) (c : Nat) (phase : Nat) : Runs G z (execInvEntry t p c phase s) := by
  unfold Sys2Proof.Machine.execInvEntry
  with_reducible repeat' first
    | assumption | refine Does.start ?_ _ | refine Does.command ?_ (Foot.up hg (by decide)) _ _ _ (fun _ _ => ?_) _ _
    | refine Does.strOp ?_ (Foot.up hg (by decide)) _ _ _ | refine Runs.next ?_

def Foot.execInvalidationDone : Foot := ⟨0x3407004010001003E00015002003C00000130200079800430C40, 0x20200000000000000000000000000000000000070C0810005A000000FF00000000000000000000000000007, 0x426F0⟩

theorem Runs.execInvalidationDone {G : Foot} {z s : State} (h : Does G z s) (hg : Foot.execInvalidationDone.leB G = true) (t : Nat) : Runs G z (execInvalidationDone t s) := by
  unfold Sys2Proof.Machine.execInvalidationDone
  with_reducible repeat' first
    | assumption
    | (extract_lets +onlyGivenNames a; first | (refine (fun (k : Does G z a) => ?_) ?_; rotate_left; unfold a; clear a; rotate_left; clear_value a; revert a; intros) | (clear_value a; revert a; intros))
    | refine Does.wr ?_ ?_ _ _ _ | refine Does.start ?_ _ | refine Does.heldMarks ?_ (Foot.up hg (by decide)) _
    | refine Does.slotShape ?_ (Foot.up hg (by decide)) _ | refine Runs.next ?_ | refine Runs.ite ?_ ?_
    | exact Foot.upR hg (by decide) | (dsimp -zeta only) | refine Does.ite ?_ ?_

def Foot.execStarterSample : Foot := ⟨0x3407004010001003E00015002002700000130200078000430840, 0x120200000000000000000000000000000000000070C0810005A000000F8F0000000000000000000000000007, 0x404F0⟩

theorem Runs.execStarterSample {G : Foot} {z s : State} (h : Does G z s) (hg : Foot.execStarterSample.leB G = true) (t : Nat) (k : Nat) (c : Nat) (cyc : Nat) : Runs G z (execStarterSample t k c cyc s) := by
  unfold Sys2Proof.Machine.execStarterSample
  with_reducible repeat' first
    | assumption | refine Does.start ?_ _ | refine Does.strSample ?_ (Foot.up hg (by decide)) _ _ _
    | refine Does.slotShape ?_ (Foot.up hg (by decide)) _ | refine Runs.next ?_

def Foot.execGateSyncOp : Foot := ⟨0x504DA002000000000000000000000000000000400000, 0x180000000000140000000000000001000000000000070000000800000000000000000000000, 0⟩

theorem Runs.execGateSyncOp {G : Foot} {z s : State} (h : Does G z s) (hg : Foot.execGateSyncOp.leB G = true) (t : Nat) (l : Nat) (q : Nat) (sop : Nat) (loc : Bool) (obj : Nat) (arg : Nat) (mode : Bool) : Runs G z (execGateSyncOp t l q sop loc obj arg mode s) := by
  unfold Sys2Proof.Machine.execGateSyncOp
  with_reducible repeat' first
    | assumption
    | (extract_lets +onlyGivenNames a; first | (refine (fun (k : Does G z a) => ?_) ?_; rotate_left; unfold a; clear a; rotate_left; clear_value a; revert a; intros) | (clear_value a; revert a; intros))
    | refine Does.setV ?_ ?_ _ _ _ | refine Does.emit ?_ _ | refine Does.start ?_ _
    | refine Does.cntAdd ?_ (Foot.up hg (by decide)) _ _ _ _ _ | refine Does.gateRsp ?_ (Foot.up hg (by decide)) _ _ _
    | refine Does.lOp ?_ (Foot.up hg (by decide)) _ _ _ _ _ _ | refine Does.waitSet ?_ (Foot.up hg (by decide)) _ _ _ _ _ _ _ _
    | refine Does.sendUp ?_ (Foot.up hg (by decide)) _ _ _ | refine Runs.next ?_ | refine Runs.ite ?_ ?_
    | exact Foot.upV hg (by decide) | (dsimp -zeta only) | refine Does.ite ?_ ?_

def Foot.execRelease : Foot := ⟨0x70040506D2002000000000000000000130200008000400000, 0x180000000000140000000000000001000000000030070000000810000000000000000000007, 0x30⟩

theorem Runs.execRelease {G : Foot} {z s : State} (h : Does G z s) (hg : Foot.execRelease.leB G = true) (t : Nat) (e : ChEnd) (tag : Nat) (ctx : Nat) (lobj : Nat) (gen : Nat) (st : Nat) (shape : Nat) (busy : List Nat) : Runs G z (execRelease t e tag ctx lobj gen st shape busy s) := by
  unfold Sys2Proof.Machine.execRelease
  with_reducible repeat' first
    | assumption | refine Does.start ?_ _
    | refine Does.syncDown ?_ (Foot.up hg (by decide)) _ _ _ (fun _ _ _ => ?_) _ (fun _ _ _ => ?_)
    | refine Does.toChildren ?_ (Foot.up hg (by decide)) _ _ _
    | refine Does.leafRelease ?_ (Foot.up hg (by decide)) _ _ _ _ _ _ _ | refine Runs.next ?_

def Foot.execDirect : Foot := ⟨0x70040504D2002000000000000000000130200008000400000, 0x180000000000140000000000000001000000000000070000000800000000000000000000007, 0x430⟩

theorem Runs.execDirect {G : Foot} {z s : State} (h : Does G z s) (hg : Foot.execDirect.leB G = true) (t : Nat) (e : ChEnd) (tag : Nat) (ctx : Nat) (lobj : Nat) (gen : Nat) (st : Nat) (leaf : Nat) (core : Bool) (wid : Nat) (wake : Bool) : Runs G z (execDirect t e tag ctx lobj gen st leaf core wid wake s) := by
  unfold Sys2Proof.Machine.execDirect
  with_reducible repeat' first
    | assumption
    | (extract_lets +onlyGivenNames a; first | (refine (fun (k : Does G z a) => ?_) ?_; rotate_left; unfold a; clear a; rotate_left; clear_value a; revert a; intros) | ((have b : SyncSt := a; clear b); unfold a; clear a) | (clear_value a; revert a; intros))
    | refine Does.emit ?_ _ | refine Does.start ?_ _
    | refine Does.syncDown ?_ (Foot.up hg (by decide)) _ _ _ (fun _ _ _ => ?_) _ (fun _ _ _ => ?_)
    | refine Does.sendDown ?_ (Foot.up hg (by decide)) _ _ _ | refine Does.leafDirect ?_ (Foot.up hg (by decide)) _ _ _ _ _ _ _
    | refine Runs.next ?_ | refine Runs.ite ?_ ?_ | (dsimp -zeta only) | refine Does.ite ?_ ?_ | refine Does.ite_snd ?_ ?_
    | refine Foot.pick ?_ ?_ | split | refine Does.snd ‹_ = (_, _)› ?_
    | (refine Does.mk' ?_ rfl rfl rfl rfl rfl rfl rfl rfl rfl rfl ?_; rotate_left; intro p hn; cases p <;> first | with_unfolding_all rfl | exact Foot.noP hg (by decide) hn)

def Foot.execCtxClear : Foot := ⟨0x70040504FA002000000000000000000130200008000400000, 0x180000000000140000000000000001000000000000070000000800000000000000000000007, 0x30⟩

theorem Runs.execCtxClear {G : Foot} {z s : State} (h : Does G z s) (hg : Foot.execCtxClear.leB G = true) (t : Nat) (e : ChEnd) (tag : Nat) (c : Nat) (ep : Nat) : Runs G z (execCtxClear t e tag c ep s) := by
  unfold Sys2Proof.Machine.execCtxClear
  with_reducible repeat' first
    | assumption | refine Does.start ?_ _
    | refine Does.syncDown ?_ (Foot.up hg (by decide)) _ _ _ (fun _ _ _ => ?_) _ (fun _ _ _ => ?_)
    | refine Does.toChildren ?_ (Foot.up hg (by decide)) _ _ _ | refine Does.leafClear ?_ (Foot.up hg (by decide)) _ _ _
    | refine Runs.next ?_

def Foot.execLsyncWrite : Foot := ⟨0x404DA000000000000000000000000000000000000000, 0x180000000000140000000000000001000000000000070000000800000000000000000000000, 0⟩

theorem Runs.execLsyncWrite {G : Foot} {z s : State} (h : Does G z s) (hg : Foot.execLsyncWrite.leB G = true) (t : Nat) (l : Nat) (k : Nat) (w : Nat) : Runs G z (execLsyncWrite t l k w s) := by
  unfold Sys2Proof.Machine.execLsyncWrite
  with_reducible repeat' first
    | assumption
    | (extract_lets +onlyGivenNames a; first | (refine (fun (k : Does G z a) => ?_) ?_; rotate_left; unfold a; clear a; rotate_left; clear_value a; revert a; intros) | (clear_value a; revert a; intros))
    | refine Does.emit ?_ _ | refine Does.start ?_ _ | refine Does.lsyncWr ?_ (Foot.up hg (by decide)) _ _ _
    | refine Runs.next ?_

def Foot.execRailLoopSample : Foot := ⟨0x34070040FFFFFFFFFFFDB100FFF007FDFFF30200179C00C00868, 0x3B85FFE6677F8613C0000008023FCFC0FFC1FFFFE070D0010FF1FFFBFFF601801FFFFFFFFFF807F883C1FFEFF7, 0x450F2⟩

theorem Runs.execRailLoopSample {G : Foot} {z s : State} (h : Does G z s) (hg : Foot.execRailLoopSample.leB G = true) (t : Nat) (r : Nat) (vs : Nat) (opn : Bool) : Runs G z (execRailLoopSample t r vs opn s) := by
  unfold Sys2Proof.Machine.execRailLoopSample
  with_reducible repeat' first
    | assumption | refine Does.start ?_ _ | refine Does.loopSample ?_ (Foot.up hg (by decide)) _ _ _
    | refine Does.pkgRun ?_ (Foot.up hg (by decide)) | refine Runs.next ?_

def Foot.execSlewStep : Foot := ⟨0x34070040FFFFFFFFFFFD910060B007FDFFF30200179C00C00868, 0x3B85FE24637F8613C0000008023FCFC0FFC1FFFFE070D0010FF1AF8BFFF601801FFFFFFFFFF8060083C1FFEFF7, 0x450F2⟩

theorem Runs.execSlewStep {G : Foot} {z s : State} (h : Does G z s) (hg : Foot.execSlewStep.leB G = true) (t : Nat) (r : Nat) : Runs G z (execSlewStep t r s) := by
  unfold Sys2Proof.Machine.execSlewStep
  with_reducible repeat' first
    | assumption | refine Does.start ?_ _ | refine Does.slewStep ?_ (Foot.up hg (by decide)) _
    | refine Does.pkgRun ?_ (Foot.up hg (by decide)) | refine Runs.next ?_

def Foot.execMeasDone : Foot := ⟨0x34070040FFFFFFFFFFFD910060B007FDFFF30200179C00C00868, 0x3B85FE26677F8613C0000008023FCFC0FFC1FFFFE070D0010FF1AFFBFFF601801FFFFFFFFFF8060083C1FFEFF7, 0x450F2⟩

theorem Runs.execMeasDone {G : Foot} {z s : State} (h : Does G z s) (hg : Foot.execMeasDone.leB G = true) (t : Nat) (r : Nat) : Runs G z (execMeasDone t r s) := by
  unfold Sys2Proof.Machine.execMeasDone
  with_reducible repeat' first
    | assumption | refine Does.start ?_ _ | refine Does.measDone ?_ (Foot.up hg (by decide)) _
    | refine Does.pkgRun ?_ (Foot.up hg (by decide)) | refine Runs.next ?_

def Foot.execTargetPg : Foot := ⟨0x34070040FFFFFFFFFFFD910060B007FDFFF30200179C00C00868, 0x3B85FE24637F8613C0000008023FCFC0FFC1FFFFE070D0010FF1AF8BFFF601801FFFFFFFFFF8060083C1FFEFF7, 0x450F2⟩

theorem Runs.execTargetPg {G : Foot} {z s : State} (h : Does G z s) (hg : Foot.execTargetPg.leB G = true) (t : Nat) (r : Nat) : Runs G z (execTargetPg t r s) := by
  unfold Sys2Proof.Machine.execTargetPg
  with_reducible repeat' first
    | assumption | refine Does.start ?_ _ | refine Does.targetPg ?_ (Foot.up hg (by decide)) _
    | refine Does.pkgRun ?_ (Foot.up hg (by decide)) | refine Runs.next ?_

def Foot.execPhaseFault : Foot := ⟨0x34070040FFFFFFFFFFFD910060B007FDFFF30200179C00C00868, 0x3B85FE24637F8613C0000008023FCFC0FFC1FFFFE070D0010FF1AF9BFFF601801FFFFFFFFFF8060083C1FFEFF7, 0x450F2⟩

theorem Runs.execPhaseFault {G : Foot} {z s : State} (h : Does G z s) (hg : Foot.execPhaseFault.leB G = true) (t : Nat) (p : Nat) : Runs G z (execPhaseFault t p s) := by
  unfold Sys2Proof.Machine.execPhaseFault
  with_reducible repeat' first
    | assumption | refine Does.start ?_ _ | refine Does.phaseFault ?_ (Foot.up hg (by decide)) _
    | refine Does.pkgRun ?_ (Foot.up hg (by decide)) | refine Runs.next ?_

def Foot.execShedDisable : Foot := ⟨0x34070040FFFFFFFFFFFD910060B007FDFFF30200179C00C00868, 0x3B85FE24637F8613C0000008023FCFC0FFC1FFFFE070D0010FF1AF9BFFF601801FFFFFFFFFF8060083C1FFEFF7, 0x450F2⟩

theorem Runs.execShedDisable {G : Foot} {z s : State} (h : Does G z s) (hg : Foot.execShedDisable.leB G = true) (t : Nat) (r : Nat) : Runs G z (execShedDisable t r s) := by
  unfold Sys2Proof.Machine.execShedDisable
  with_reducible repeat' first
    | assumption | refine Does.start ?_ _ | refine Does.shedDisableAt ?_ (Foot.up hg (by decide)) _
    | refine Does.pkgRun ?_ (Foot.up hg (by decide)) | refine Runs.next ?_

def Foot.execPhaseCycle : Foot := ⟨0x34070040FFFFFFFFFFFDB10060B007FDFFF30200179C00C00868, 0x3B85FE2DE77F8613C0000008023FCFC0FFC1FFFFE070D0010FF1AF9BFFF601801FFFFFFFFFFB060083C1FFEFF7, 0x450F2⟩

theorem Runs.execPhaseCycle {G : Foot} {z s : State} (h : Does G z s) (hg : Foot.execPhaseCycle.leB G = true) (t : Nat) (p : Nat) (cur : List (Nat × Int)) (mean : Int) (range : Bool) (fault : Bool) : Runs G z (execPhaseCycle t p cur mean range fault s) := by
  unfold Sys2Proof.Machine.execPhaseCycle
  with_reducible repeat' first
    | assumption | refine Does.start ?_ _ | refine Does.phaseCycle ?_ (Foot.up hg (by decide)) _ _ _ _
    | refine Does.pkgRun ?_ (Foot.up hg (by decide)) | refine Runs.next ?_

def Foot.execGrant : Foot := ⟨0x7004050407703F00000000000006000130200078000400060, 0x20000000000180000000000140000000000000000000000000000270000001C040C001F000000000000007, 0xB0⟩

theorem Runs.execGrant {G : Foot} {z s : State} (h : Does G z s) (hg : Foot.execGrant.leB G = true) (t : Nat) (e : ChEnd) (tag : Nat) (cls : Nat) (rail : Nat) (dest : Nat) (loop : Nat) (lc : Bool) (amt : Nat) (rsvd : Bool) : Runs G z (execGrant t e tag cls rail dest loop lc amt rsvd s) := by
  unfold Sys2Proof.Machine.execGrant
  with_reducible repeat' first
    | assumption
    | (extract_lets +onlyGivenNames a; first | (refine (fun (k : Does G z a) => ?_) ?_; rotate_left; unfold a; clear a; rotate_left; clear_value a; revert a; intros) | (clear_value a; revert a; intros))
    | refine Does.start ?_ _ | refine Does.downMsg ?_ (Foot.up hg (by decide)) _ _ _ _ (fun _ _ _ => ?_)
    | refine Does.grantAt ?_ (Foot.up hg (by decide)) _ _ _ _ _ | refine Does.budgetOn ?_ (Foot.up hg (by decide)) _ _ _
    | refine Does.evFrom ?_ (Foot.up hg (by decide)) _ _ _ _ _ | refine Runs.next ?_ | refine Runs.ite ?_ ?_
    | (dsimp -zeta only) | refine Does.ite ?_ ?_

def Foot.execNeed : Foot := ⟨0x7004010000003E00000000000000000130200078000400040, 0x7, 0xB0⟩

theorem Runs.execNeed {G : Foot} {z s : State} (h : Does G z s) (hg : Foot.execNeed.leB G = true) (t : Nat) (e : ChEnd) (tag : Nat) (child : Nat) (weight : Nat) (node : Nat) (need : Nat) : Runs G z (execNeed t e tag child weight node need s) := by
  unfold Sys2Proof.Machine.execNeed
  with_reducible repeat' first
    | assumption | refine Does.start ?_ _ | refine Does.downMsg ?_ (Foot.up hg (by decide)) _ _ _ _ (fun _ _ _ => ?_)
    | refine Does.needAt ?_ (Foot.up hg (by decide)) _ _ _ _ | refine Does.budgetOn ?_ (Foot.up hg (by decide)) _ _ _
    | refine Runs.next ?_ | refine Runs.ite ?_ ?_ | (dsimp -zeta only) | refine Does.ite ?_ ?_

def Foot.execGateFault : Foot := ⟨0x7004050402002000000000000000000130200008000400000, 0x20000000000180000000000140000000000000000000000000000270000000800500000000000000000007, 0x30⟩

theorem Runs.execGateFault {G : Foot} {z s : State} (h : Does G z s) (hg : Foot.execGateFault.leB G = true) (t : Nat) (l : Nat) (q : Nat) : Runs G z (execGateFault t l q s) := by
  unfold Sys2Proof.Machine.execGateFault
  with_reducible repeat' first
    | assumption
    | (extract_lets +onlyGivenNames a; first | (refine (fun (k : Does G z a) => ?_) ?_; rotate_left; unfold a; clear a; rotate_left; clear_value a; revert a; intros) | (clear_value a; revert a; intros))
    | refine Does.wr ?_ ?_ _ _ _ | refine Does.flag ?_ ?_ _ _ _ | refine Does.setV ?_ ?_ _ _ _ | refine Does.start ?_ _
    | (refine Does.when ?_ _ _ fun _ _ => ?_) | refine Does.shareHold ?_ (Foot.up hg (by decide)) _ _ _
    | refine Does.gateEff ?_ (Foot.up hg (by decide)) _ _ | refine Does.creditRevoke ?_ (Foot.up hg (by decide)) _ _
    | refine Does.gateFlag ?_ (Foot.up hg (by decide)) _ _ | refine Runs.next ?_ | refine Runs.ite ?_ ?_
    | exact Foot.upR hg (by decide) | exact Foot.upV hg (by decide) | refine Foot.sgF ?_ ?_ | (dsimp -zeta only)
    | refine Does.ite ?_ ?_

def Foot.execRestEnd : Foot := ⟨0x7004010007602000000000000000000130200008000400000, 0x4003C0000000000000000007, 0x30⟩

theorem Runs.execRestEnd {G : Foot} {z s : State} (h : Does G z s) (hg : Foot.execRestEnd.leB G = true) (t : Nat) (l : Nat) (q : Nat) : Runs G z (execRestEnd t l q s) := by
  unfold Sys2Proof.Machine.execRestEnd
  with_reducible repeat' first
    | assumption
    | (extract_lets +onlyGivenNames a; first | (refine (fun (k : Does G z a) => ?_) ?_; rotate_left; unfold a; clear a; rotate_left; clear_value a; revert a; intros) | (clear_value a; revert a; intros))
    | refine Does.wr ?_ ?_ _ _ _ | refine Does.setV ?_ ?_ _ _ _ | refine Does.start ?_ _
    | refine Does.shareHold ?_ (Foot.up hg (by decide)) _ _ _ | refine Does.convert ?_ (Foot.up hg (by decide)) _
    | refine Does.evFrom ?_ (Foot.up hg (by decide)) _ _ _ _ _ | refine Runs.next ?_ | refine Runs.ite ?_ ?_
    | exact Foot.upR hg (by decide) | exact Foot.upV hg (by decide) | refine Foot.sgF ?_ ?_ | (dsimp -zeta only)
    | refine Does.ite ?_ ?_

def Foot.execFaultClear : Foot := ⟨0x3407004050407603E00000000000000000130200078000400840, 0x40000000000018000000000014000000000000070C001000000000076018000C003C0000000000000000007, 0x400B0⟩

theorem Runs.execFaultClear {G : Foot} {z s : State} (h : Does G z s) (hg : Foot.execFaultClear.leB G = true) (t : Nat) (l : Nat) (q : Nat) (low : Bool) : Runs G z (execFaultClear t l q low s) := by
  unfold Sys2Proof.Machine.execFaultClear
  with_reducible repeat' first
    | assumption
    | (extract_lets +onlyGivenNames a; first | (refine (fun (k : Does G z a) => ?_) ?_; rotate_left; unfold a; clear a; rotate_left; clear_value a; revert a; intros) | (clear_value a; revert a; intros))
    | refine Does.emit ?_ _ | refine Does.start ?_ _ | refine Does.faultClear ?_ (Foot.up hg (by decide)) _ _ _
    | refine Does.footTake ?_ (Foot.up hg (by decide)) _ | refine Does.needRecompute ?_ (Foot.up hg (by decide)) _ _
    | refine Runs.next ?_ | refine Runs.ite ?_ ?_ | (dsimp -zeta only) | refine Does.ite ?_ ?_

def Foot.execLevelWindow : Foot := ⟨0x7004040402000000000000000000000130200008000000040, 0x4000000000180020000000140000000000000000000000000000070000000800000000000000000000007, 0x30⟩

theorem Runs.execLevelWindow {G : Foot} {z s : State} (h : Does G z s) (hg : Foot.execLevelWindow.leB G = true) (t : Nat) : Runs G z (execLevelWindow t s) := by
  unfold Sys2Proof.Machine.execLevelWindow
  with_reducible repeat' first
    | assumption
    | (extract_lets +onlyGivenNames a; first | (refine (fun (k : Does G z a) => ?_) ?_; rotate_left; unfold a; clear a; rotate_left; clear_value a; revert a; intros) | (clear_value a; revert a; intros))
    | refine Does.flag ?_ ?_ _ _ _ | refine Does.dropV ?_ ?_ _ _ | refine Does.setV ?_ ?_ _ _ _ | refine Does.start ?_ _
    | (refine Does.each ?_ _ _ fun _ _ _ _ => ?_) | refine Does.leafAcct ?_ (Foot.up hg (by decide)) _
    | refine Does.event ?_ (Foot.up hg (by decide)) _ _ | refine Runs.next ?_ | refine Runs.ite ?_ ?_
    | exact Foot.upR hg (by decide) | exact Foot.upV hg (by decide) | exact Foot.upM hg ‹_ ∈ _› (by decide)
    | (dsimp -zeta only) | refine Does.ite ?_ ?_


end Sys2Proof.Machine
end

