-- ==== Sys2Proof/Laws/RunsC.lean ====
section
/-!
SUPPORT. Does, with its footprint, for the meanings of Thermal, Crust, Pkg, EventCmd, Link, Mirror, Latch, Counter, Record, TraceCmd, RegAccess, Facility, Ident, Channel.
-/
set_option linter.tactic.unusedName false
set_option linter.unusedVariables false
set_option linter.unusedTactic false
set_option linter.unreachableTactic false
namespace Sys2Proof.Machine

theorem Does.noPayload {G : Foot} {z : State} {x : Status × State} (h : Does G z x.2) : Does G z (Machine.noPayload x).2.2 := h

def Foot.execRecordWriteDone : Foot := ⟨0x75C400000000000000000000000000013020000A000000000, 0x7, 0x10130⟩

theorem Runs.execRecordWriteDone {G : Foot} {z s : State} (h : Does G z s) (hg : Foot.execRecordWriteDone.leB G = true) (t : Nat) (err : Bool) : Runs G z (execRecordWriteDone t err s) := by
  unfold Sys2Proof.Machine.execRecordWriteDone
  with_reducible repeat' first
    | assumption | refine Does.start ?_ _ | refine Does.recDone ?_ (Foot.up hg (by decide)) _ | refine Runs.next ?_

def Foot.execReservedTypeMessage : Foot := ⟨0x7004010000002000000000000000000130200008000400000, 0x7, 0x30⟩

theorem Runs.execReservedTypeMessage {G : Foot} {z s : State} (h : Does G z s) (hg : Foot.execReservedTypeMessage.leB G = true) (t : Nat) (e : ChEnd) : Runs G z (execReservedTypeMessage t e s) := by
  unfold Sys2Proof.Machine.execReservedTypeMessage
  with_reducible repeat' first
    | assumption
    | (extract_lets +onlyGivenNames a; first | (refine (fun (k : Does G z a) => ?_) ?_; rotate_left; unfold a; clear a; rotate_left; clear_value a; revert a; intros) | (clear_value a; revert a; intros))
    | refine Does.start ?_ _ | refine Does.evFrom ?_ (Foot.up hg (by decide)) _ _ _ _ _ | refine Runs.next ?_

def Foot.execLatchPointComplete : Foot := ⟨0x1200007544000000000000000000000000000130200008000000000, 0x7, 0x2130⟩

theorem Runs.execLatchPointComplete {G : Foot} {z s : State} (h : Does G z s) (hg : Foot.execLatchPointComplete.leB G = true) (t : Nat) (c : Nat) (num : Nat) : Runs G z (execLatchPointComplete t c num s) := by
  unfold Sys2Proof.Machine.execLatchPointComplete
  with_reducible repeat' first
    | assumption
    | (extract_lets +onlyGivenNames a; first | (refine (fun (k : Does G z a) => ?_) ?_; rotate_left; unfold a; clear a; rotate_left; clear_value a; revert a; intros) | (clear_value a; revert a; intros))
    | refine Does.start ?_ _ | refine Does.latchComplete ?_ (Foot.up hg (by decide)) _ | refine Runs.next ?_
    | refine Runs.ite ?_ ?_ | (dsimp -zeta only) | split

def Foot.execLinkUp : Foot := ⟨0x410000000000000000000000000000000000000000000000000, 0, 0⟩

theorem Runs.execLinkUp {G : Foot} {z s : State} (h : Does G z s) (hg : Foot.execLinkUp.leB G = true) (t : Nat) (n : Nat) : Runs G z (execLinkUp t n s) := by
  unfold Sys2Proof.Machine.execLinkUp
  with_reducible repeat' first
    | assumption | refine Does.wr ?_ ?_ _ _ _ | refine Does.start ?_ _ | refine Does.tryAuth ?_ (Foot.up hg (by decide)) _
    | refine Runs.next ?_ | refine Runs.ite ?_ ?_ | exact Foot.upR hg (by decide)

def Foot.execLinkDown : Foot := ⟨0x3CB7004310007703F00001000000006000130200079800422060, 0xD9040A30004000000000060014000C0000000000000000007, 0x40CB0⟩

theorem Runs.execLinkDown {G : Foot} {z s : State} (h : Does G z s) (hg : Foot.execLinkDown.leB G = true) (t : Nat) (n : Nat) : Runs G z (execLinkDown t n s) := by
  unfold Sys2Proof.Machine.execLinkDown
  with_reducible repeat' first
    | assumption | refine Does.wr ?_ ?_ _ _ _ | refine Does.start ?_ _ | refine Does.portDown ?_ (Foot.up hg (by decide)) _
    | refine Does.syncFlush ?_ (Foot.up hg (by decide)) | refine Runs.next ?_ | refine Runs.ite ?_ ?_
    | exact Foot.upR hg (by decide)

def Foot.execAuthDone : Foot := ⟨0x3CB7004110007703F00001000000006000130200078000420060, 0xD9040A7C004000000000060014000C0000000000000000007, 0x40CB0⟩

theorem Runs.execAuthDone {G : Foot} {z s : State} (h : Does G z s) (hg : Foot.execAuthDone.leB G = true) (t : Nat) (n : Nat) (ok : Bool) : Runs G z (execAuthDone t n ok s) := by
  unfold Sys2Proof.Machine.execAuthDone
  with_reducible repeat' first
    | assumption
    | (extract_lets +onlyGivenNames a; first | (refine (fun (k : Does G z a) => ?_) ?_; rotate_left; unfold a; clear a; rotate_left; clear_value a; revert a; intros) | (clear_value a; revert a; intros))
    | refine Does.wr ?_ ?_ _ _ _ | refine Does.setV ?_ ?_ _ _ _ | refine Does.start ?_ _
    | refine Does.portToUp ?_ (Foot.up hg (by decide)) _ | refine Does.event ?_ (Foot.up hg (by decide)) _ _
    | refine Does.portDown ?_ (Foot.up hg (by decide)) _ | refine Runs.next ?_ | refine Runs.ite ?_ ?_
    | exact Foot.upR hg (by decide) | exact Foot.upV hg (by decide) | (dsimp -zeta only) | refine Does.ite ?_ ?_

def Foot.execAuthBackoffEnd : Foot := ⟨0x410000000000000000000000000000000000000000000000000, 0, 0⟩

theorem Runs.execAuthBackoffEnd {G : Foot} {z s : State} (h : Does G z s) (hg : Foot.execAuthBackoffEnd.leB G = true) (t : Nat) (n : Nat) : Runs G z (execAuthBackoffEnd t n s) := by
  unfold Sys2Proof.Machine.execAuthBackoffEnd
  with_reducible repeat' first
    | assumption | refine Does.start ?_ _ | refine Does.tryAuth ?_ (Foot.up hg (by decide)) _ | refine Runs.next ?_

def Foot.execLinkSilent : Foot := ⟨0x3CB7004310007703F00001000000006000130200079800422060, 0xD9040A30004000000000060014000C0000000000000000007, 0x40CB0⟩

theorem Runs.execLinkSilent {G : Foot} {z s : State} (h : Does G z s) (hg : Foot.execLinkSilent.leB G = true) (t : Nat) (n : Nat) : Runs G z (execLinkSilent t n s) := by
  unfold Sys2Proof.Machine.execLinkSilent
  with_reducible repeat' first
    | assumption
    | (extract_lets +onlyGivenNames a; first | (refine (fun (k : Does G z a) => ?_) ?_; rotate_left; unfold a; clear a; rotate_left; clear_value a; revert a; intros) | (clear_value a; revert a; intros))
    | refine Does.start ?_ _ | refine Does.portDown ?_ (Foot.up hg (by decide)) _
    | refine Does.syncFlush ?_ (Foot.up hg (by decide)) | refine Runs.next ?_ | refine Runs.ite ?_ ?_ | (dsimp -zeta only)
    | refine Does.ite ?_ ?_

def Foot.execDxlHeartbeatSend : Foot := ⟨0x3CB7004310007703F00001000000006000130200079800422060, 0xD9040A30004000000000060014000C0000000000000000007, 0x40CB0⟩

theorem Runs.execDxlHeartbeatSend {G : Foot} {z s : State} (h : Does G z s) (hg : Foot.execDxlHeartbeatSend.leB G = true) (t : Nat) (n : Nat) : Runs G z (execDxlHeartbeatSend t n s) := by
  unfold Sys2Proof.Machine.execDxlHeartbeatSend
  with_reducible repeat' first
    | assumption
    | (extract_lets +onlyGivenNames a; first | (refine (fun (k : Does G z a) => ?_) ?_; rotate_left; unfold a; clear a; rotate_left; clear_value a; revert a; intros) | (clear_value a; revert a; intros))
    | refine Does.start ?_ _ | refine Does.syncPut ?_ (Foot.up hg (by decide)) _
    | refine Does.syncDrain ?_ (Foot.up hg (by decide)) _ | refine Runs.next ?_ | refine Runs.ite ?_ ?_ | (dsimp -zeta only)
    | refine Does.ite ?_ ?_

def Foot.execDxlKeyUpdate : Foot := ⟨0x400000000000000000000000000000000000000000000000000, 0x4400000000000000000000000000000000000000000, 0⟩

theorem Runs.execDxlKeyUpdate {G : Foot} {z s : State} (h : Does G z s) (hg : Foot.execDxlKeyUpdate.leB G = true) (t : Nat) (n : Nat) : Runs G z (execDxlKeyUpdate t n s) := by
  unfold Sys2Proof.Machine.execDxlKeyUpdate
  with_reducible repeat' first
    | assumption
    | (extract_lets +onlyGivenNames a; first | (refine (fun (k : Does G z a) => ?_) ?_; rotate_left; unfold a; clear a; rotate_left; clear_value a; revert a; intros) | (clear_value a; revert a; intros))
    | refine Does.wr ?_ ?_ _ _ _ | refine Does.setV ?_ ?_ _ _ _ | refine Does.start ?_ _ | refine Runs.next ?_
    | refine Runs.ite ?_ ?_ | exact Foot.upR hg (by decide) | exact Foot.upV hg (by decide) | (dsimp -zeta only)
    | refine Does.ite ?_ ?_

def Foot.execDxlHeartbeat : Foot := ⟨0x3CB7004310007703F00001000000006000130200079800422060, 0xD9040A7C004000000000060014000C0000000000000000007, 0x40CB0⟩

theorem Runs.execDxlHeartbeat {G : Foot} {z s : State} (h : Does G z s) (hg : Foot.execDxlHeartbeat.leB G = true) (t : Nat) (h : FrameHdr) (state : Nat) (rx : Nat) (sys : Nat) : Runs G z (execDxlHeartbeat t h state rx sys s) := by
  unfold Sys2Proof.Machine.execDxlHeartbeat
  with_reducible repeat' first
    | assumption
    | (extract_lets +onlyGivenNames a; first | (refine (fun (k : Does G z a) => ?_) ?_; rotate_left; unfold a; clear a; rotate_left; clear_value a; revert a; intros) | (clear_value a; revert a; intros))
    | refine Does.start ?_ _ | refine Does.frameIn ?_ (Foot.up hg (by decide)) _ _ (fun _ _ => ?_)
    | refine Does.portToUp ?_ (Foot.up hg (by decide)) _ | refine Runs.next ?_ | refine Runs.ite ?_ ?_ | (dsimp -zeta only)
    | refine Does.ite ?_ ?_

def Foot.execReservedTypeFrame : Foot := ⟨0x3CB7004310007703F00001000000006000130200079800422060, 0xD9040A7C004000000000060014000C0000000000000000007, 0x40CB0⟩

theorem Runs.execReservedTypeFrame {G : Foot} {z s : State} (h : Does G z s) (hg : Foot.execReservedTypeFrame.leB G = true) (t : Nat) (h : FrameHdr) : Runs G z (execReservedTypeFrame t h s) := by
  unfold Sys2Proof.Machine.execReservedTypeFrame
  with_reducible repeat' first
    | assumption | refine Does.start ?_ _ | refine Does.frameIn ?_ (Foot.up hg (by decide)) _ _ (fun _ _ => ?_)
    | refine Does.incSat ?_ ?_ _ _ _ | refine Runs.next ?_ | refine Runs.ite ?_ ?_ | exact Foot.upR hg (by decide)

def Foot.execArriveFrame : Foot := ⟨0x3CB7004310007703F00015002003C060001302000798004F2C60, 0x20200000000000000000000000000000000000DF0CFFFC005A000000FF060014000C0000000000000000007, 0x42EF0⟩

theorem Runs.execArriveFrame {G : Foot} {z s : State} (h : Does G z s) (hg : Foot.execArriveFrame.leB G = true) (t : Nat) (h : FrameHdr) (obj : Nat) (gen : Nat) (job : Nat) : Runs G z (execArriveFrame t h obj gen job s) := by
  unfold Sys2Proof.Machine.execArriveFrame
  with_reducible repeat' first
    | assumption
    | (extract_lets +onlyGivenNames a; first | (refine (fun (k : Does G z a) => ?_) ?_; rotate_left; unfold a; clear a; rotate_left; clear_value a; revert a; intros) | (clear_value a; revert a; intros))
    | refine Does.setV ?_ ?_ _ _ _ | refine Does.start ?_ _
    | refine Does.frameIn ?_ (Foot.up hg (by decide)) _ _ (fun _ _ => ?_)
    | refine Does.jobMatch ?_ (Foot.up hg (by decide)) _ _ _ (fun _ _ => ?_)
    | refine Does.spanGather ?_ (Foot.up hg (by decide)) _ | refine Does.spanComplete ?_ (Foot.up hg (by decide)) _
    | refine Does.spanBreak ?_ (Foot.up hg (by decide)) _ _ _ | refine Does.spanStale ?_ (Foot.up hg (by decide))
    | refine Runs.next ?_ | refine Runs.ite ?_ ?_ | exact Foot.upV hg (by decide) | (dsimp -zeta only) | refine Does.ite ?_ ?_

def Foot.execReleaseFrame : Foot := ⟨0x3CB7004310007703F00015002003C060001302000798004F2C60, 0x20200000000000000000000000000000000000DF0CFFFC005A000000FF060014000C0000000000000000007, 0x42EF0⟩

theorem Runs.execReleaseFrame {G : Foot} {z s : State} (h : Does G z s) (hg : Foot.execReleaseFrame.leB G = true) (t : Nat) (h : FrameHdr) (obj : Nat) (gen : Nat) (job : Nat) : Runs G z (execReleaseFrame t h obj gen job s) := by
  unfold Sys2Proof.Machine.execReleaseFrame
  with_reducible repeat' first
    | assumption
    | (extract_lets +onlyGivenNames a; first | (refine (fun (k : Does G z a) => ?_) ?_; rotate_left; unfold a; clear a; rotate_left; clear_value a; revert a; intros) | (clear_value a; revert a; intros))
    | refine Does.start ?_ _ | (refine Does.each ?_ _ _ fun _ _ _ _ => ?_)
    | refine Does.frameIn ?_ (Foot.up hg (by decide)) _ _ (fun _ _ => ?_)
    | refine Does.jobMatch ?_ (Foot.up hg (by decide)) _ _ _ (fun _ _ => ?_)
    | refine Does.spanStale ?_ (Foot.up hg (by decide)) | refine Does.spanBreak ?_ (Foot.up hg (by decide)) _ _ _
    | refine Does.frameOut ?_ (Foot.up hg (by decide)) _ _ _ | refine Does.spanAccept ?_ (Foot.up hg (by decide)) _
    | refine Does.spanComplete ?_ (Foot.up hg (by decide)) _ | refine Runs.next ?_ | refine Runs.ite ?_ ?_ | (dsimp -zeta only)
    | refine Does.ite ?_ ?_

def Foot.execBreakFrame : Foot := ⟨0x3CB7004310007703F00001000000006000130200079800422060, 0xD9040A7C004000000000060014000C0000000000000000007, 0x40CB0⟩

theorem Runs.execBreakFrame {G : Foot} {z s : State} (h : Does G z s) (hg : Foot.execBreakFrame.leB G = true) (t : Nat) (h : FrameHdr) (obj : Nat) (gen : Nat) (job : Nat) (all : Bool) (reason : Nat) : Runs G z (execBreakFrame t h obj gen job all reason s) := by
  unfold Sys2Proof.Machine.execBreakFrame
  with_reducible repeat' first
    | assumption
    | (extract_lets +onlyGivenNames a; first | (refine (fun (k : Does G z a) => ?_) ?_; rotate_left; unfold a; clear a; rotate_left; clear_value a; revert a; intros) | ((have b : State → State := a; clear b); unfold a; clear a) | (clear_value a; revert a; intros))
    | refine Does.start ?_ _ | (refine Does.each ?_ _ _ fun _ _ _ _ => ?_) | refine Does.syncPut ?_ (Foot.up hg (by decide)) _
    | refine Does.frameIn ?_ (Foot.up hg (by decide)) _ _ (fun _ _ => ?_) | refine Does.objBreak ?_ (Foot.up hg (by decide)) _
    | refine Does.jobMatch ?_ (Foot.up hg (by decide)) _ _ _ (fun _ _ => ?_) | refine Runs.next ?_ | refine Runs.ite ?_ ?_
    | (dsimp -zeta only) | refine Does.ite ?_ ?_

def Foot.execLeaseOffer : Foot := ⟨0x3CB7004310007703F00001000000006000130200079800422060, 0xD9640A7C004000000000060014000C0000000000000000007, 0x40CB0⟩

theorem Runs.execLeaseOffer {G : Foot} {z s : State} (h : Does G z s) (hg : Foot.execLeaseOffer.leB G = true) (t : Nat) (h : FrameHdr) (spare : Nat) (want : Nat) (feed : Nat) : Runs G z (execLeaseOffer t h spare want feed s) := by
  unfold Sys2Proof.Machine.execLeaseOffer
  with_reducible repeat' first
    | assumption | refine Does.start ?_ _ | refine Does.frameIn ?_ (Foot.up hg (by decide)) _ _ (fun _ _ => ?_)
    | refine Does.offerTake ?_ (Foot.up hg (by decide)) _ _ _ _ | refine Runs.next ?_

def Foot.execLeaseGrant : Foot := ⟨0x3CB7004310007703F00001000000006000130200079800422060, 0xD9140A7C004000000000060014000C0000000000000000007, 0x40CB0⟩

theorem Runs.execLeaseGrant {G : Foot} {z s : State} (h : Does G z s) (hg : Foot.execLeaseGrant.leB G = true) (t : Nat) (h : FrameHdr) (amt : Nat) (lseq : Nat) (texp : Int) : Runs G z (execLeaseGrant t h amt lseq texp s) := by
  unfold Sys2Proof.Machine.execLeaseGrant
  with_reducible repeat' first
    | assumption | refine Does.start ?_ _ | refine Does.frameIn ?_ (Foot.up hg (by decide)) _ _ (fun _ _ => ?_)
    | refine Does.grantTake ?_ (Foot.up hg (by decide)) _ _ _ _ | refine Runs.next ?_

def Foot.execLeaseRecall : Foot := ⟨0x3CB7004310007703F00001000000006000130200079800422060, 0xDF140A7C004000000000060014000C0000000000000000007, 0x40CB0⟩

theorem Runs.execLeaseRecall {G : Foot} {z s : State} (h : Does G z s) (hg : Foot.execLeaseRecall.leB G = true) (t : Nat) (h : FrameHdr) (amt : Nat) (lseq : Nat) (teff : Int) : Runs G z (execLeaseRecall t h amt lseq teff s) := by
  unfold Sys2Proof.Machine.execLeaseRecall
  with_reducible repeat' first
    | assumption | refine Does.start ?_ _ | refine Does.frameIn ?_ (Foot.up hg (by decide)) _ _ (fun _ _ => ?_)
    | refine Does.recallTake ?_ (Foot.up hg (by decide)) _ _ _ _ | refine Runs.next ?_

def Foot.execTsyncSend : Foot := ⟨0x407000000000000000000000000000000000000000000000000, 0x3004001000000000000000000000000000000000000000007, 0x20⟩

theorem Runs.execTsyncSend {G : Foot} {z s : State} (h : Does G z s) (hg : Foot.execTsyncSend.leB G = true) (t : Nat) : Runs G z (execTsyncSend t s) := by
  unfold Sys2Proof.Machine.execTsyncSend
  with_reducible repeat' first
    | assumption
    | (extract_lets +onlyGivenNames a; first | (refine (fun (k : Does G z a) => ?_) ?_; rotate_left; unfold a; clear a; rotate_left; clear_value a; revert a; intros) | (clear_value a; revert a; intros))
    | refine Does.setV ?_ ?_ _ _ _ | refine Does.start ?_ _ | refine Does.frameOut ?_ (Foot.up hg (by decide)) _ _ _
    | refine Runs.next ?_ | refine Runs.ite ?_ ?_ | exact Foot.upV hg (by decide) | (dsimp -zeta only) | refine Does.ite ?_ ?_
    | refine Does.ite_snd ?_ ?_ | refine Foot.pick ?_ ?_ | split

def Foot.execTimeSyncRequest : Foot := ⟨0x3CB7004310007703F00001000000006000130200079800422060, 0xD9040A7C004000000000060014000C0000000000000000007, 0x40CB0⟩

theorem Runs.execTimeSyncRequest {G : Foot} {z s : State} (h : Does G z s) (hg : Foot.execTimeSyncRequest.leB G = true) (t : Nat) (h : FrameHdr) (t1 : Nat) : Runs G z (execTimeSyncRequest t h t1 s) := by
  unfold Sys2Proof.Machine.execTimeSyncRequest
  with_reducible repeat' first
    | assumption | refine Does.start ?_ _ | refine Does.frameIn ?_ (Foot.up hg (by decide)) _ _ (fun _ _ => ?_)
    | refine Does.frameOut ?_ (Foot.up hg (by decide)) _ _ _ | refine Runs.next ?_

def Foot.execTimeSyncReply : Foot := ⟨0x3CF7004310007703F00001000000006000130200079800422060, 0x1D9040A7C004000000000060014000C0000000000000000007, 0x40CB0⟩

theorem Runs.execTimeSyncReply {G : Foot} {z s : State} (h : Does G z s) (hg : Foot.execTimeSyncReply.leB G = true) (t : Nat) (h : FrameHdr) (t2 : Int) (d32 : Nat) (t1lo : Nat) : Runs G z (execTimeSyncReply t h t2 d32 t1lo s) := by
  unfold Sys2Proof.Machine.execTimeSyncReply
  with_reducible repeat' first
    | assumption
    | (extract_lets +onlyGivenNames a; first | (refine (fun (k : Does G z a) => ?_) ?_; rotate_left; unfold a; clear a; rotate_left; clear_value a; revert a; intros) | (clear_value a; revert a; intros))
    | refine Does.flag ?_ ?_ _ _ _ | refine Does.setV ?_ ?_ _ _ _ | refine Does.start ?_ _
    | refine Does.frameIn ?_ (Foot.up hg (by decide)) _ _ (fun _ _ => ?_) | refine Does.wrI ?_ ?_ _ _ _
    | refine Does.wrSat ?_ ?_ _ _ _ | refine Does.event ?_ (Foot.up hg (by decide)) _ _ | refine Runs.next ?_
    | refine Runs.ite ?_ ?_ | exact Foot.upR hg (by decide) | exact Foot.upV hg (by decide) | (dsimp -zeta only)
    | refine Does.ite ?_ ?_

def Foot.execFailNotice : Foot := ⟨0x3CB7004310007703F00001000000006000130200079800422060, 0xD9040A7C004000000000060014000C0000000000000000007, 0x40CB0⟩

theorem Runs.execFailNotice {G : Foot} {z s : State} (h : Does G z s) (hg : Foot.execFailNotice.leB G = true) (t : Nat) (h : FrameHdr) (lo : Nat) (hi : Nat) : Runs G z (execFailNotice t h lo hi s) := by
  unfold Sys2Proof.Machine.execFailNotice
  with_reducible repeat' first
    | assumption
    | (extract_lets +onlyGivenNames a; first | (refine (fun (k : Does G z a) => ?_) ?_; rotate_left; unfold a; clear a; rotate_left; clear_value a; revert a; intros) | (clear_value a; revert a; intros))
    | refine Does.setReg ?_ ?_ _ _ _ | refine Does.start ?_ _
    | refine Does.frameIn ?_ (Foot.up hg (by decide)) _ _ (fun _ _ => ?_)
    | refine Does.portShow ?_ (Foot.up hg (by decide)) _ _ | refine Does.event ?_ (Foot.up hg (by decide)) _ _
    | refine Does.portLeaves ?_ (Foot.up hg (by decide)) _ _ _ | refine Runs.next ?_ | refine Runs.ite ?_ ?_
    | exact Foot.upR hg (by decide) | (dsimp -zeta only) | refine Does.ite ?_ ?_

def Foot.execRampStepStart : Foot := ⟨0x34070040FFFFFFFFFFFD910060B007FDFFF30200179C00C00868, 0x3B85FE24637F8613C0000008023FCFC0FFC1FFFFE070D0010FF1AF8BFFF601801FFFFFFFFFF8060083C1FFEFF7, 0x450F2⟩

theorem Runs.execRampStepStart {G : Foot} {z s : State} (h : Does G z s) (hg : Foot.execRampStepStart.leB G = true) (t : Nat) : Runs G z (execRampStepStart t s) := by
  unfold Sys2Proof.Machine.execRampStepStart
  with_reducible repeat' first
    | assumption
    | (extract_lets +onlyGivenNames a; first | (refine (fun (k : Does G z a) => ?_) ?_; rotate_left; unfold a; clear a; rotate_left; clear_value a; revert a; intros) | (clear_value a; revert a; intros))
    | refine Does.start ?_ _ | refine Does.seqDueOn ?_ (Foot.up hg (by decide))
    | refine Does.pkgRun ?_ (Foot.up hg (by decide)) | refine Runs.next ?_ | refine Runs.ite ?_ ?_ | (dsimp -zeta only)
    | refine Does.ite ?_ ?_

def Foot.execStepTimeout : Foot := ⟨0x3CB75443FFFFFFFFFFFD910060B007FDFFF30200179C0FC22868, 0x3B85FE24637F0E13C0100008023FCFC0FFAFC7FFCDF0D0A30FF5AC8BFFF601E01FFFFFFFFFF8060083C1FFEFF7, 0x45DF2⟩

theorem Runs.execStepTimeout {G : Foot} {z s : State} (h : Does G z s) (hg : Foot.execStepTimeout.leB G = true) (t : Nat) : Runs G z (execStepTimeout t s) := by
  unfold Sys2Proof.Machine.execStepTimeout
  with_reducible repeat' first
    | assumption
    | (extract_lets +onlyGivenNames a; first | (refine (fun (k : Does G z a) => ?_) ?_; rotate_left; unfold a; clear a; rotate_left; clear_value a; revert a; intros) | (clear_value a; revert a; intros))
    | refine Does.start ?_ _ | refine Does.event ?_ (Foot.up hg (by decide)) _ _
    | refine Does.trip ?_ (Foot.up hg (by decide)) _ _ | refine Runs.next ?_ | refine Runs.ite ?_ ?_ | (dsimp -zeta only)
    | refine Does.ite ?_ ?_

def Foot.execOcTrip : Foot := ⟨0x3CB75443FFFFFFFFFFFD910060B007FDFFF30200179C0FC22868, 0x3B85FE24637F8E13C0100008023FCFC0FFEFFFFFEDF0D0A30FF5AF8BFFF601E01FFFFFFFFFF8060083C1FFEFF7, 0x45DF2⟩

theorem Runs.execOcTrip {G : Foot} {z s : State} (h : Does G z s) (hg : Foot.execOcTrip.leB G = true) (t : Nat) (r : Nat) : Runs G z (execOcTrip t r s) := by
  unfold Sys2Proof.Machine.execOcTrip
  with_reducible repeat' first
    | assumption
    | (extract_lets +onlyGivenNames a; first | (refine (fun (k : Does G z a) => ?_) ?_; rotate_left; unfold a; clear a; rotate_left; clear_value a; revert a; intros) | (clear_value a; revert a; intros))
    | refine Does.start ?_ _ | refine Does.railTrip ?_ (Foot.up hg (by decide)) _ _ _ ?_ _ | refine Runs.next ?_
    | refine Runs.ite ?_ ?_ | exact Foot.upR hg (by decide)

def Foot.execOvTrip : Foot := ⟨0x3CB75443FFFFFFFFFFFD910060B007FDFFF30200179C0FC22868, 0x3B85FE24637F8E13C0100008023FCFC0FFEFFFFFEDF0D0A30FF5AF8BFFF601E01FFFFFFFFFF8060083C1FFEFF7, 0x45DF2⟩

theorem Runs.execOvTrip {G : Foot} {z s : State} (h : Does G z s) (hg : Foot.execOvTrip.leB G = true) (t : Nat) (r : Nat) : Runs G z (execOvTrip t r s) := by
  unfold Sys2Proof.Machine.execOvTrip
  with_reducible repeat' first
    | assumption
    | (extract_lets +onlyGivenNames a; first | (refine (fun (k : Does G z a) => ?_) ?_; rotate_left; unfold a; clear a; rotate_left; clear_value a; revert a; intros) | (clear_value a; revert a; intros))
    | refine Does.start ?_ _ | refine Does.railTrip ?_ (Foot.up hg (by decide)) _ _ _ ?_ _ | refine Runs.next ?_
    | refine Runs.ite ?_ ?_ | exact Foot.upR hg (by decide)

def Foot.execUvTrip : Foot := ⟨0x3CB75443FFFFFFFFFFFD910060B007FDFFF30200179C0FC22868, 0x3B85FE24637F8E13C0100008023FCFC0FFEFFFFFEDF0D0A30FF5AF8BFFF601E01FFFFFFFFFF8060083C1FFEFF7, 0x45DF2⟩

theorem Runs.execUvTrip {G : Foot} {z s : State} (h : Does G z s) (hg : Foot.execUvTrip.leB G = true) (t : Nat) (r : Nat) : Runs G z (execUvTrip t r s) := by
  unfold Sys2Proof.Machine.execUvTrip
  with_reducible repeat' first
    | assumption
    | (extract_lets +onlyGivenNames a; first | (refine (fun (k : Does G z a) => ?_) ?_; rotate_left; unfold a; clear a; rotate_left; clear_value a; revert a; intros) | (clear_value a; revert a; intros))
    | refine Does.start ?_ _ | refine Does.railTrip ?_ (Foot.up hg (by decide)) _ _ _ ?_ _ | refine Runs.next ?_
    | refine Runs.ite ?_ ?_ | exact Foot.upR hg (by decide)

def Foot.execUvHaltExpiry : Foot := ⟨0x34070040FFFFFFFFFFFD910060B007FDFFF30200179C00C00868, 0x3B85FE24637F8613C0000008023FCFC0FFC9FFFFE070D0010FF1AF8BFFF601801FFFFFFFFFF8060083C1FFEFF7, 0x450F2⟩

theorem Runs.execUvHaltExpiry {G : Foot} {z s : State} (h : Does G z s) (hg : Foot.execUvHaltExpiry.leB G = true) (t : Nat) (r : Nat) : Runs G z (execUvHaltExpiry t r s) := by
  unfold Sys2Proof.Machine.execUvHaltExpiry
  with_reducible repeat' first
    | assumption
    | (extract_lets +onlyGivenNames a; first | (refine (fun (k : Does G z a) => ?_) ?_; rotate_left; unfold a; clear a; rotate_left; clear_value a; revert a; intros) | (clear_value a; revert a; intros))
    | refine Does.flag ?_ ?_ _ _ _ | refine Does.setV ?_ ?_ _ _ _ | refine Does.start ?_ _
    | refine Does.haltReq ?_ (Foot.up hg (by decide)) _ | refine Does.pkgRun ?_ (Foot.up hg (by decide)) | refine Runs.next ?_
    | refine Runs.ite ?_ ?_ | exact Foot.upR hg (by decide) | exact Foot.upV hg (by decide) | (dsimp -zeta only)
    | refine Does.ite ?_ ?_

def Foot.execCoolantTrip : Foot := ⟨0x3CB75443FFFFFFFFFFFD910060B007FDFFF30200179C0FC22868, 0x3B85FE24637F0E13C0100008023FCFC0FFAFC7FFCDF0D0A30FF5AC8BFFF601E01FFFFFFFFFF8060083C1FFEFF7, 0x45DF2⟩

theorem Runs.execCoolantTrip {G : Foot} {z s : State} (h : Does G z s) (hg : Foot.execCoolantTrip.leB G = true) (t : Nat) : Runs G z (execCoolantTrip t s) := by
  unfold Sys2Proof.Machine.execCoolantTrip
  with_reducible repeat' first
    | assumption
    | (extract_lets +onlyGivenNames a; first | (refine (fun (k : Does G z a) => ?_) ?_; rotate_left; unfold a; clear a; rotate_left; clear_value a; revert a; intros) | (clear_value a; revert a; intros))
    | refine Does.wr ?_ ?_ _ _ _ | refine Does.start ?_ _ | refine Does.trip ?_ (Foot.up hg (by decide)) _ _
    | refine Runs.next ?_ | refine Runs.ite ?_ ?_ | exact Foot.upR hg (by decide) | (dsimp -zeta only) | refine Does.ite ?_ ?_

def Foot.execAbsTrip : Foot := ⟨0x3CB75443FFFFFFFFFFFD910060B007FDFFF30200179C0FC22868, 0x3B85FE24637F0E13C0100008023FCFC0FFAFC7FFCDF0D0A30FF5AC8BFFF601E01FFFFFFFFFF8060083C1FFEFF7, 0x45DF2⟩

theorem Runs.execAbsTrip {G : Foot} {z s : State} (h : Does G z s) (hg : Foot.execAbsTrip.leB G = true) (t : Nat) (n : Nat) : Runs G z (execAbsTrip t n s) := by
  unfold Sys2Proof.Machine.execAbsTrip
  with_reducible repeat' first
    | assumption
    | (extract_lets +onlyGivenNames a; first | (refine (fun (k : Does G z a) => ?_) ?_; rotate_left; unfold a; clear a; rotate_left; clear_value a; revert a; intros) | (clear_value a; revert a; intros))
    | refine Does.flag ?_ ?_ _ _ _ | refine Does.start ?_ _ | refine Does.thermalTrip ?_ (Foot.up hg (by decide))
    | refine Runs.next ?_ | refine Runs.ite ?_ ?_ | exact Foot.upR hg (by decide) | (dsimp -zeta only) | refine Does.ite ?_ ?_
    | refine Does.ite_snd ?_ ?_ | refine Foot.pick ?_ ?_ | split

def Foot.execBrake : Foot := ⟨0x7004030000002000000000000000000130200008001C00000, 0x7, 0x70⟩

theorem Runs.execBrake {G : Foot} {z s : State} (h : Does G z s) (hg : Foot.execBrake.leB G = true) (t : Nat) : Runs G z (execBrake t s) := by
  unfold Sys2Proof.Machine.execBrake
  with_reducible repeat' first
    | assumption
    | (extract_lets +onlyGivenNames a; first | (refine (fun (k : Does G z a) => ?_) ?_; rotate_left; unfold a; clear a; rotate_left; clear_value a; revert a; intros) | (clear_value a; revert a; intros))
    | refine Does.wr ?_ ?_ _ _ _ | refine Does.flag ?_ ?_ _ _ _ | refine Does.start ?_ _
    | refine Does.brakeSend ?_ (Foot.up hg (by decide)) _ | refine Does.event ?_ (Foot.up hg (by decide)) _ _
    | refine Does.alertRise ?_ (Foot.up hg (by decide)) _ | refine Runs.next ?_ | refine Runs.ite ?_ ?_
    | exact Foot.upR hg (by decide) | (dsimp -zeta only) | refine Does.ite ?_ ?_

def Foot.execLeafBrake : Foot := ⟨0x60406000000000000000000000000000000000000000, 0x20000000000180000000000140000000000000000000000000000270000000804000000000000000000000, 0⟩

theorem Runs.execLeafBrake {G : Foot} {z s : State} (h : Does G z s) (hg : Foot.execLeafBrake.leB G = true) (t : Nat) (l : Nat) (w : Nat) : Runs G z (execLeafBrake t l w s) := by
  unfold Sys2Proof.Machine.execLeafBrake
  with_reducible repeat' first
    | assumption
    | (extract_lets +onlyGivenNames a; first | (refine (fun (k : Does G z a) => ?_) ?_; rotate_left; unfold a; clear a; rotate_left; clear_value a; revert a; intros) | (clear_value a; revert a; intros))
    | refine Does.start ?_ _ | refine Does.brakeTake ?_ (Foot.up hg (by decide)) _ _ | refine Runs.next ?_
    | refine Runs.ite ?_ ?_ | (dsimp -zeta only) | refine Does.ite ?_ ?_

def Foot.execBrakeRelease : Foot := ⟨0x30000002000000000000000000000000000000C00000, 0, 0x40⟩

theorem Runs.execBrakeRelease {G : Foot} {z s : State} (h : Does G z s) (hg : Foot.execBrakeRelease.leB G = true) (t : Nat) : Runs G z (execBrakeRelease t s) := by
  unfold Sys2Proof.Machine.execBrakeRelease
  with_reducible repeat' first
    | assumption
    | (extract_lets +onlyGivenNames a; first | (refine (fun (k : Does G z a) => ?_) ?_; rotate_left; unfold a; clear a; rotate_left; clear_value a; revert a; intros) | (clear_value a; revert a; intros))
    | refine Does.wr ?_ ?_ _ _ _ | refine Does.start ?_ _ | refine Does.brakeSend ?_ (Foot.up hg (by decide)) _
    | refine Runs.next ?_ | refine Runs.ite ?_ ?_ | exact Foot.upR hg (by decide) | (dsimp -zeta only) | refine Does.ite ?_ ?_

def Foot.execCrustLatchClear : Foot := ⟨0x1801800000, 0, 0⟩

theorem Runs.execCrustLatchClear {G : Foot} {z s : State} (h : Does G z s) (hg : Foot.execCrustLatchClear.leB G = true) (t : Nat) (p : Port) (w : Nat) (pins : Pins) : Runs G z (execCrustLatchClear t p w pins s) := by
  unfold Sys2Proof.Machine.execCrustLatchClear
  with_reducible repeat' first
    | assumption | refine Does.start ?_ _ | refine Does.command ?_ (Foot.up hg (by decide)) _ _ _ (fun _ _ => ?_) _ _
    | refine Does.latchClear ?_ (Foot.up hg (by decide)) _ _ | refine Runs.next ?_

def Foot.execTcellApply : Foot := ⟨0x48402000000000000000000000000000000000200000, 0x180000000000140000000000000000000000000000070000000800000000000000000000000, 0⟩

theorem Runs.execTcellApply {G : Foot} {z s : State} (h : Does G z s) (hg : Foot.execTcellApply.leB G = true) (t : Nat) (x : Nat) : Runs G z (execTcellApply t x s) := by
  unfold Sys2Proof.Machine.execTcellApply
  with_reducible repeat' first
    | assumption
    | (extract_lets +onlyGivenNames a; first | (refine (fun (k : Does G z a) => ?_) ?_; rotate_left; unfold a; clear a; rotate_left; clear_value a; revert a; intros) | (clear_value a; revert a; intros))
    | refine Does.start ?_ _ | refine Does.cellApply ?_ (Foot.up hg (by decide)) _ | refine Runs.next ?_
    | refine Runs.ite ?_ ?_ | (dsimp -zeta only) | refine Does.ite ?_ ?_ | refine Does.ite_snd ?_ ?_ | refine Foot.pick ?_ ?_
    | split

def Foot.execTsConversionDone : Foot := ⟨0x3CB75443FFFFFFFFFFFD910060F007FDFFF30200179C0FF22868, 0x3B85FE24637F0E13C4100008023FCFDEFFAFC7FFCDF0D0A30FF5AC8BFFF601E01FFFFFFFFFF8060083C1FFEFF7, 0x45DF2⟩

theorem Runs.execTsConversionDone {G : Foot} {z s : State} (h : Does G z s) (hg : Foot.execTsConversionDone.leB G = true) (t : Nat) (n : Nat) (raw : Int) (fault : Bool) : Runs G z (execTsConversionDone t n raw fault s) := by
  unfold Sys2Proof.Machine.execTsConversionDone
  with_reducible repeat' first
    | assumption
    | (extract_lets +onlyGivenNames a; first | (refine (fun (k : Does G z a) => ?_) ?_; rotate_left; unfold a; clear a; rotate_left; clear_value a; revert a; intros) | (clear_value a; revert a; intros))
    | refine Does.start ?_ _ | refine Does.conversion ?_ (Foot.up hg (by decide)) _ _ _ _ | refine Runs.next ?_
    | refine Runs.ite ?_ ?_ | (dsimp -zeta only) | refine Does.ite ?_ ?_ | refine Does.ite_snd ?_ ?_ | refine Foot.pick ?_ ?_
    | split

def Foot.execConversionLapse : Foot := ⟨0x7004000004000010100000060000000130200008000100000, 0x800000000000040000000000000000000007, 0x30⟩

theorem Runs.execConversionLapse {G : Foot} {z s : State} (h : Does G z s) (hg : Foot.execConversionLapse.leB G = true) (t : Nat) (n : Nat) : Runs G z (execConversionLapse t n s) := by
  unfold Sys2Proof.Machine.execConversionLapse
  with_reducible repeat' first
    | assumption
    | (extract_lets +onlyGivenNames a; first | (refine (fun (k : Does G z a) => ?_) ?_; rotate_left; unfold a; clear a; rotate_left; clear_value a; revert a; intros) | (clear_value a; revert a; intros))
    | refine Does.wr ?_ ?_ _ _ _ | refine Does.start ?_ _ | refine Does.hubTemp ?_ (Foot.up hg (by decide)) _
    | refine Runs.next ?_ | refine Runs.ite ?_ ?_ | exact Foot.upR hg (by decide) | (dsimp -zeta only) | refine Does.ite ?_ ?_

def Foot.execSensorLoss : Foot := ⟨0x700401D000002000800000000000000130200008000700000, 0x4000000000000002000000000000000000000000000000000000000000000000000000007, 0x30⟩

theorem Runs.execSensorLoss {G : Foot} {z s : State} (h : Does G z s) (hg : Foot.execSensorLoss.leB G = true) (t : Nat) (d : Nat) : Runs G z (execSensorLoss t d s) := by
  unfold Sys2Proof.Machine.execSensorLoss
  with_reducible repeat' first
    | assumption
    | (extract_lets +onlyGivenNames a; first | (refine (fun (k : Does G z a) => ?_) ?_; rotate_left; unfold a; clear a; rotate_left; clear_value a; revert a; intros) | (clear_value a; revert a; intros))
    | refine Does.wr ?_ ?_ _ _ _ | refine Does.flag ?_ ?_ _ _ _ | refine Does.setV ?_ ?_ _ _ _ | refine Does.start ?_ _
    | (refine Does.each ?_ _ _ fun _ _ _ _ => ?_) | refine Does.flagPut ?_ (Foot.up hg (by decide)) _ _ _
    | refine Does.bodyLevel ?_ (Foot.up hg (by decide)) _ | refine Does.evFrom ?_ (Foot.up hg (by decide)) _ _ _ _ _
    | refine Does.levelShow ?_ (Foot.up hg (by decide)) _ | refine Runs.next ?_ | refine Runs.ite ?_ ?_
    | exact Foot.upR hg (by decide) | exact Foot.upV hg (by decide) | exact Foot.upM hg ‹_ ∈ _› (by decide)
    | (dsimp -zeta only) | refine Does.ite ?_ ?_

def Foot.execLeafTempPeriod : Foot := ⟨0x7004019000002010000000000000000130200008000700000, 0x10000000000000000000000000000000000000000000000000000000000000000000000000000000000000007, 0x30⟩

theorem Runs.execLeafTempPeriod {G : Foot} {z s : State} (h : Does G z s) (hg : Foot.execLeafTempPeriod.leB G = true) (t : Nat) (l : Nat) : Runs G z (execLeafTempPeriod t l s) := by
  unfold Sys2Proof.Machine.execLeafTempPeriod
  with_reducible repeat' first
    | assumption
    | (extract_lets +onlyGivenNames a; first | (refine (fun (k : Does G z a) => ?_) ?_; rotate_left; unfold a; clear a; rotate_left; clear_value a; revert a; intros) | (clear_value a; revert a; intros))
    | refine Does.wr ?_ ?_ _ _ _ | refine Does.setV ?_ ?_ _ _ _ | refine Does.start ?_ _
    | (refine Does.each ?_ _ _ fun _ _ _ _ => ?_) | refine Does.wrI ?_ ?_ _ _ _
    | refine Does.levelShow ?_ (Foot.up hg (by decide)) _ | refine Does.ddThr ?_ (Foot.up hg (by decide)) _
    | refine Does.sendUp ?_ (Foot.up hg (by decide)) _ _ _ | refine Does.event ?_ (Foot.up hg (by decide)) _ _
    | refine Runs.next ?_ | refine Runs.ite ?_ ?_ | exact Foot.upR hg (by decide) | exact Foot.upV hg (by decide)
    | exact Foot.upM hg ‹_ ∈ _› (by decide) | (dsimp -zeta only) | refine Does.ite ?_ ?_

def Foot.execTempReport : Foot := ⟨0x7004010004002010000000060000000130200008000400000, 0x200008000000003E000000000000000000000000800000000000040000000000000000000007, 0x30⟩

theorem Runs.execTempReport {G : Foot} {z s : State} (h : Does G z s) (hg : Foot.execTempReport.leB G = true) (t : Nat) (e : ChEnd) (tag : Nat) (x : Int) (band : Nat) (level : Nat) (fb : Bool) (loss : Bool) (leaf : Nat) (seq : Nat) (site : Nat) : Runs G z (execTempReport t e tag x band level fb loss leaf seq site s) := by
  unfold Sys2Proof.Machine.execTempReport
  with_reducible repeat' first
    | assumption
    | (extract_lets +onlyGivenNames a; first | (refine (fun (k : Does G z a) => ?_) ?_; rotate_left; unfold a; clear a; rotate_left; clear_value a; revert a; intros) | (clear_value a; revert a; intros))
    | refine Does.setV ?_ ?_ _ _ _ | refine Does.start ?_ _ | (refine Does.when ?_ _ _ fun _ _ => ?_)
    | (refine Does.each ?_ _ _ fun _ _ _ _ => ?_) | refine Does.deliver ?_ (Foot.up hg (by decide)) _ _ _ (fun _ _ => ?_)
    | refine Does.evFrom ?_ (Foot.up hg (by decide)) _ _ _ _ _ | refine Does.facAlert ?_ (Foot.up hg (by decide)) _
    | refine Does.repKeep ?_ (Foot.up hg (by decide)) _ _ _ _ | refine Does.gbRail ?_ (Foot.up hg (by decide)) _
    | refine Does.sendUp ?_ (Foot.up hg (by decide)) _ _ _ | refine Does.event ?_ (Foot.up hg (by decide)) _ _
    | refine Runs.next ?_ | refine Runs.ite ?_ ?_ | exact Foot.upV hg (by decide) | exact Foot.upM hg ‹_ ∈ _› (by decide)
    | (dsimp -zeta only) | refine Does.ite ?_ ?_

def Foot.execReportLapse : Foot := ⟨0x7004000004000010000000060000000130200008000000000, 0x20000000000000000000000000800000000000040000000000000000000007, 0x30⟩

theorem Runs.execReportLapse {G : Foot} {z s : State} (h : Does G z s) (hg : Foot.execReportLapse.leB G = true) (t : Nat) (l : Nat) : Runs G z (execReportLapse t l s) := by
  unfold Sys2Proof.Machine.execReportLapse
  with_reducible repeat' first
    | assumption
    | (extract_lets +onlyGivenNames a; first | (refine (fun (k : Does G z a) => ?_) ?_; rotate_left; unfold a; clear a; rotate_left; clear_value a; revert a; intros) | (clear_value a; revert a; intros))
    | refine Does.setV ?_ ?_ _ _ _ | refine Does.start ?_ _ | (refine Does.each ?_ _ _ fun _ _ _ _ => ?_)
    | refine Does.gbRail ?_ (Foot.up hg (by decide)) _ | refine Runs.next ?_ | refine Runs.ite ?_ ?_
    | exact Foot.upV hg (by decide) | exact Foot.upM hg ‹_ ∈ _› (by decide) | (dsimp -zeta only) | refine Does.ite ?_ ?_

def Foot.execLeafThrReq : Foot := ⟨0xA000000000000000000000000000000000000200000, 0, 0⟩

theorem Runs.execLeafThrReq {G : Foot} {z s : State} (h : Does G z s) (hg : Foot.execLeafThrReq.leB G = true) (t : Nat) (l : Nat) (k : Nat) : Runs G z (execLeafThrReq t l k s) := by
  unfold Sys2Proof.Machine.execLeafThrReq
  with_reducible repeat' first
    | assumption
    | (extract_lets +onlyGivenNames a; first | (refine (fun (k : Does G z a) => ?_) ?_; rotate_left; unfold a; clear a; rotate_left; clear_value a; revert a; intros) | (clear_value a; revert a; intros))
    | refine Does.emit ?_ _ | refine Does.start ?_ _ | refine Does.thrTake ?_ (Foot.up hg (by decide)) _ _
    | refine Runs.next ?_ | refine Runs.ite ?_ ?_ | (dsimp -zeta only) | refine Does.ite ?_ ?_

def Foot.execStackUpdate : Foot := ⟨0x3CB75443FFFFFFFFFFFD910060B007FDFFF30200179C0FF22868, 0x3B85FE24637F0E13C0100008023FCFC0FFAFC7FFCDF0D0A30FF5AC8BFFF601E01FFFFFFFFFF8060083C1FFEFF7, 0x45DF2⟩

theorem Runs.execStackUpdate {G : Foot} {z s : State} (h : Does G z s) (hg : Foot.execStackUpdate.leB G = true) (t : Nat) (n : Nat) (x : Int) : Runs G z (execStackUpdate t n x s) := by
  unfold Sys2Proof.Machine.execStackUpdate
  with_reducible repeat' first
    | assumption
    | (extract_lets +onlyGivenNames a; first | (refine (fun (k : Does G z a) => ?_) ?_; rotate_left; unfold a; clear a; rotate_left; clear_value a; revert a; intros) | (clear_value a; revert a; intros))
    | refine Does.wr ?_ ?_ _ _ _ | refine Does.setV ?_ ?_ _ _ _ | refine Does.start ?_ _ | refine Does.wrI ?_ ?_ _ _ _
    | refine Does.stackBand ?_ (Foot.up hg (by decide)) _ _ _ | refine Does.bodyTemp ?_ (Foot.up hg (by decide)) _ _ _
    | refine Does.levelShow ?_ (Foot.up hg (by decide)) _ | refine Runs.next ?_ | refine Runs.ite ?_ ?_
    | exact Foot.upR hg (by decide) | exact Foot.upV hg (by decide) | (dsimp -zeta only) | refine Does.ite ?_ ?_
    | refine Does.ite_snd ?_ ?_ | refine Foot.pick ?_ ?_ | split

def Foot.execStkStale : Foot := ⟨0x700401D000002000000000000000000130200008000700000, 0x7, 0x30⟩

theorem Runs.execStkStale {G : Foot} {z s : State} (h : Does G z s) (hg : Foot.execStkStale.leB G = true) (t : Nat) (n : Nat) : Runs G z (execStkStale t n s) := by
  unfold Sys2Proof.Machine.execStkStale
  with_reducible repeat' first
    | assumption
    | (extract_lets +onlyGivenNames a; first | (refine (fun (k : Does G z a) => ?_) ?_; rotate_left; unfold a; clear a; rotate_left; clear_value a; revert a; intros) | (clear_value a; revert a; intros))
    | refine Does.wr ?_ ?_ _ _ _ | refine Does.flag ?_ ?_ _ _ _ | refine Does.start ?_ _
    | refine Does.stackBand ?_ (Foot.up hg (by decide)) _ _ _ | refine Does.evFrom ?_ (Foot.up hg (by decide)) _ _ _ _ _
    | refine Does.levelShow ?_ (Foot.up hg (by decide)) _ | refine Runs.next ?_ | refine Runs.ite ?_ ?_
    | exact Foot.upR hg (by decide) | (dsimp -zeta only) | refine Does.ite ?_ ?_ | refine Does.ite_snd ?_ ?_
    | refine Foot.pick ?_ ?_ | split

def Foot.execCalPassStart : Foot := ⟨0x100000, 0x200000000000000000170000000000000000000000000000000000000000000000000000000000, 0⟩

theorem Runs.execCalPassStart {G : Foot} {z s : State} (h : Does G z s) (hg : Foot.execCalPassStart.leB G = true) (t : Nat) : Runs G z (execCalPassStart t s) := by
  unfold Sys2Proof.Machine.execCalPassStart
  with_reducible repeat' first
    | assumption
    | (extract_lets +onlyGivenNames a; first | (refine (fun (k : Does G z a) => ?_) ?_; rotate_left; unfold a; clear a; rotate_left; clear_value a; revert a; intros) | (clear_value a; revert a; intros))
    | refine Does.wr ?_ ?_ _ _ _ | refine Does.setV ?_ ?_ _ _ _ | refine Does.start ?_ _
    | (refine Does.each ?_ _ _ fun _ _ _ _ => ?_) | refine Does.bgStart ?_ (Foot.up hg (by decide)) _ | refine Runs.next ?_
    | refine Runs.ite ?_ ?_ | exact Foot.upR hg (by decide) | exact Foot.upV hg (by decide)
    | exact Foot.upM hg ‹_ ∈ _› (by decide) | (dsimp -zeta only) | refine Does.ite ?_ ?_

def Foot.execCalPassEnd : Foot := ⟨0x7004000000000000200000000000000130200008000100000, 0x40000000000700000000000000000200000000000000000000000000000000000000000000000000000000007, 0x30⟩

theorem Runs.execCalPassEnd {G : Foot} {z s : State} (h : Does G z s) (hg : Foot.execCalPassEnd.leB G = true) (t : Nat) : Runs G z (execCalPassEnd t s) := by
  unfold Sys2Proof.Machine.execCalPassEnd
  with_reducible repeat' first
    | assumption
    | (extract_lets +onlyGivenNames a; first | (refine (fun (k : Does G z a) => ?_) ?_; rotate_left; unfold a; clear a; rotate_left; clear_value a; revert a; intros) | (clear_value a; revert a; intros))
    | refine Does.wr ?_ ?_ _ _ _ | refine Does.start ?_ _ | (refine Does.each ?_ _ _ fun _ _ _ _ => ?_)
    | refine Does.calSite ?_ (Foot.up hg (by decide)) _ | refine Does.incWrap ?_ ?_ _ _ _
    | refine Does.badShow ?_ (Foot.up hg (by decide)) | refine Does.bgEnd ?_ (Foot.up hg (by decide)) _ | refine Runs.next ?_
    | refine Runs.ite ?_ ?_ | exact Foot.upR hg (by decide) | (dsimp -zeta only) | refine Does.ite ?_ ?_

def Foot.execCalRst : Foot := ⟨0x200000000000000000000001800100000, 0x40000000000000000000000000000200000000000000000000000000000000000000000000000000000000000, 0⟩

theorem Runs.execCalRst {G : Foot} {z s : State} (h : Does G z s) (hg : Foot.execCalRst.leB G = true) (t : Nat) (p : Port) (n : Nat) : Runs G z (execCalRst t p n s) := by
  unfold Sys2Proof.Machine.execCalRst
  with_reducible repeat' first
    | assumption | refine Does.start ?_ _ | refine Does.command ?_ (Foot.up hg (by decide)) _ _ _ (fun _ _ => ?_) _ _
    | refine Does.calRst ?_ (Foot.up hg (by decide)) _ | refine Runs.next ?_

def Foot.execTrcArm : Foot := ⟨0x7004000000000000000000000000000130200009800000000, 0x2000000000000000000000000000000000000000000000000000000000000000007, 0x30⟩

theorem Runs.execTrcArm {G : Foot} {z s : State} (h : Does G z s) (hg : Foot.execTrcArm.leB G = true) (t : Nat) (p : Port) : Runs G z (execTrcArm t p s) := by
  unfold Sys2Proof.Machine.execTrcArm
  with_reducible repeat' first
    | assumption | refine Does.start ?_ _ | refine Does.command ?_ (Foot.up hg (by decide)) _ _ _ (fun _ _ => ?_) _ _
    | refine Does.trcCmd ?_ (Foot.up hg (by decide)) _ | refine Runs.next ?_

def Foot.execTrcTrig : Foot := ⟨0x7004000000000000000000000000000130200009800000000, 0x2000000000000000000000000000000000000000000000000000000000000000007, 0x30⟩

theorem Runs.execTrcTrig {G : Foot} {z s : State} (h : Does G z s) (hg : Foot.execTrcTrig.leB G = true) (t : Nat) (p : Port) : Runs G z (execTrcTrig t p s) := by
  unfold Sys2Proof.Machine.execTrcTrig
  with_reducible repeat' first
    | assumption | refine Does.start ?_ _ | refine Does.command ?_ (Foot.up hg (by decide)) _ _ _ (fun _ _ => ?_) _ _
    | refine Does.trcCmd ?_ (Foot.up hg (by decide)) _ | refine Runs.next ?_

def Foot.execTrcFreeze : Foot := ⟨0x7004000000000000000000000000000130200009800000000, 0x2000000000000000000000000000000000000000000000000000000000000000007, 0x30⟩

theorem Runs.execTrcFreeze {G : Foot} {z s : State} (h : Does G z s) (hg : Foot.execTrcFreeze.leB G = true) (t : Nat) (p : Port) : Runs G z (execTrcFreeze t p s) := by
  unfold Sys2Proof.Machine.execTrcFreeze
  with_reducible repeat' first
    | assumption | refine Does.start ?_ _ | refine Does.command ?_ (Foot.up hg (by decide)) _ _ _ (fun _ _ => ?_) _ _
    | refine Does.trcCmd ?_ (Foot.up hg (by decide)) _ | refine Runs.next ?_

def Foot.execTrcOff : Foot := ⟨0x7004000000000000000000000000000130200009800000000, 0x2000000000000000000000000000000000000000000000000000000000000000007, 0x30⟩

theorem Runs.execTrcOff {G : Foot} {z s : State} (h : Does G z s) (hg : Foot.execTrcOff.leB G = true) (t : Nat) (p : Port) : Runs G z (execTrcOff t p s) := by
  unfold Sys2Proof.Machine.execTrcOff
  with_reducible repeat' first
    | assumption | refine Does.start ?_ _ | refine Does.command ?_ (Foot.up hg (by decide)) _ _ _ (fun _ _ => ?_) _ _
    | refine Does.trcCmd ?_ (Foot.up hg (by decide)) _ | refine Runs.next ?_

def Foot.execTrcDump : Foot := ⟨0x7004000000000000000000000000000130200009800000000, 0x2000000000000000000000000000000000000000000000000000000000000000007, 0x30⟩

theorem Runs.execTrcDump {G : Foot} {z s : State} (h : Does G z s) (hg : Foot.execTrcDump.leB G = true) (t : Nat) (p : Port) : Runs G z (execTrcDump t p s) := by
  unfold Sys2Proof.Machine.execTrcDump
  with_reducible repeat' first
    | assumption | refine Does.start ?_ _ | refine Does.command ?_ (Foot.up hg (by decide)) _ _ _ (fun _ _ => ?_) _ _
    | refine Does.trcCmd ?_ (Foot.up hg (by decide)) _ | refine Runs.next ?_

def Foot.execTrcFrameSent : Foot := ⟨0x7004000000000000000000000000000130200008000000000, 0x2000000000000000000000000000000000000000000000000000000000000000007, 0x30⟩

theorem Runs.execTrcFrameSent {G : Foot} {z s : State} (h : Does G z s) (hg : Foot.execTrcFrameSent.leB G = true) (t : Nat) : Runs G z (execTrcFrameSent t s) := by
  unfold Sys2Proof.Machine.execTrcFrameSent
  with_reducible repeat' first
    | assumption
    | (extract_lets +onlyGivenNames a; first | (refine (fun (k : Does G z a) => ?_) ?_; rotate_left; unfold a; clear a; rotate_left; clear_value a; revert a; intros) | (clear_value a; revert a; intros))
    | refine Does.start ?_ _ | refine Does.trcTake ?_ (Foot.up hg (by decide)) | refine Runs.next ?_ | refine Runs.ite ?_ ?_
    | (dsimp -zeta only) | refine Does.ite ?_ ?_

def Foot.execTrcDumpDone : Foot := ⟨0x1000000000000000000000000000000000000000000000000, 0, 0⟩

theorem Runs.execTrcDumpDone {G : Foot} {z s : State} (h : Does G z s) (hg : Foot.execTrcDumpDone.leB G = true) (t : Nat) : Runs G z (execTrcDumpDone t s) := by
  unfold Sys2Proof.Machine.execTrcDumpDone
  with_reducible repeat' first
    | assumption
    | (extract_lets +onlyGivenNames a; first | (refine (fun (k : Does G z a) => ?_) ?_; rotate_left; unfold a; clear a; rotate_left; clear_value a; revert a; intros) | (clear_value a; revert a; intros))
    | refine Does.wr ?_ ?_ _ _ _ | refine Does.emit ?_ _ | refine Does.start ?_ _ | refine Runs.next ?_ | refine Runs.ite ?_ ?_
    | exact Foot.upR hg (by decide) | (dsimp -zeta only) | refine Does.ite ?_ ?_

def Foot.execTraceStall : Foot := ⟨0x7004000000000000000000000000000130200008000000000, 0x7, 0x30⟩

theorem Runs.execTraceStall {G : Foot} {z s : State} (h : Does G z s) (hg : Foot.execTraceStall.leB G = true) (t : Nat) : Runs G z (execTraceStall t s) := by
  unfold Sys2Proof.Machine.execTraceStall
  with_reducible repeat' first
    | assumption
    | (extract_lets +onlyGivenNames a; first | (refine (fun (k : Does G z a) => ?_) ?_; rotate_left; unfold a; clear a; rotate_left; clear_value a; revert a; intros) | (clear_value a; revert a; intros))
    | refine Does.start ?_ _ | (refine Does.when ?_ _ _ fun _ _ => ?_) | refine Does.trcFreezeFor ?_ (Foot.up hg (by decide)) _
    | refine Does.evtDrain ?_ (Foot.up hg (by decide)) _ | refine Runs.next ?_ | refine Runs.ite ?_ ?_ | (dsimp -zeta only)
    | refine Does.ite ?_ ?_

def Foot.execLeafCounterWindow : Foot := ⟨0x50402002000000000000000000000000000000400000, 0x20000001800000000001C0000000000000000000000000000070000000800000000000000000000000, 0x4000⟩

theorem Runs.execLeafCounterWindow {G : Foot} {z s : State} (h : Does G z s) (hg : Foot.execLeafCounterWindow.leB G = true) (t : Nat) (l : Nat) (reps : List Rep) : Runs G z (execLeafCounterWindow t l reps s) := by
  unfold Sys2Proof.Machine.execLeafCounterWindow
  with_reducible repeat' first
    | assumption
    | (extract_lets +onlyGivenNames a; first | (refine (fun (k : Does G z a) => ?_) ?_; rotate_left; unfold a; clear a; rotate_left; clear_value a; revert a; intros) | (clear_value a; revert a; intros))
    | refine Does.dropV ?_ ?_ _ _ | refine Does.setV ?_ ?_ _ _ _ | refine Does.start ?_ _
    | refine Does.cntTake ?_ (Foot.up hg (by decide)) _ _ | refine Does.leafReports ?_ (Foot.up hg (by decide)) _ _ _ _ _ _
    | refine Runs.next ?_ | refine Runs.ite ?_ ?_ | exact Foot.upV hg (by decide) | (dsimp -zeta only) | refine Does.ite ?_ ?_

def Foot.execLeafCntLatch : Foot := ⟨0x50402002000000000000000000000000000000400000, 0x2000000380000000000140000000000000000000000000000070000000800000000000000000000000, 0x4000⟩

theorem Runs.execLeafCntLatch {G : Foot} {z s : State} (h : Does G z s) (hg : Foot.execLeafCntLatch.leB G = true) (t : Nat) (l : Nat) (c : Nat) (num : Nat) (reps : List Rep) : Runs G z (execLeafCntLatch t l c num reps s) := by
  unfold Sys2Proof.Machine.execLeafCntLatch
  with_reducible repeat' first
    | assumption
    | (extract_lets +onlyGivenNames a; first | (refine (fun (k : Does G z a) => ?_) ?_; rotate_left; unfold a; clear a; rotate_left; clear_value a; revert a; intros) | (clear_value a; revert a; intros))
    | refine Does.dropV ?_ ?_ _ _ | refine Does.setV ?_ ?_ _ _ _ | refine Does.start ?_ _
    | refine Does.cntTake ?_ (Foot.up hg (by decide)) _ _ | refine Does.leafReports ?_ (Foot.up hg (by decide)) _ _ _ _ _ _
    | refine Runs.next ?_ | refine Runs.ite ?_ ?_ | exact Foot.upV hg (by decide) | (dsimp -zeta only) | refine Does.ite ?_ ?_

def Foot.execCounterSumTimeout : Foot := ⟨0x10000002000000000000000000000000000000400000, 0x2C00000000000000000000000000000000000000000000000000000000000000, 0⟩

theorem Runs.execCounterSumTimeout {G : Foot} {z s : State} (h : Does G z s) (hg : Foot.execCounterSumTimeout.leB G = true) (t : Nat) (n : Nat) (lk : Nat) (ctx : Nat) (seq : Nat) : Runs G z (execCounterSumTimeout t n lk ctx seq s) := by
  unfold Sys2Proof.Machine.execCounterSumTimeout
  with_reducible repeat' first
    | assumption
    | (extract_lets +onlyGivenNames a; first | (refine (fun (k : Does G z a) => ?_) ?_; rotate_left; unfold a; clear a; rotate_left; clear_value a; revert a; intros) | (clear_value a; revert a; intros))
    | refine Does.start ?_ _ | refine Does.counterSend ?_ (Foot.up hg (by decide)) _ _ _ _ | refine Runs.next ?_
    | refine Runs.ite ?_ ?_ | (dsimp -zeta only) | refine Does.ite ?_ ?_

def Foot.execCounterMsg : Foot := ⟨0x701D010000002000000000000000000130200008000400000, 0x3C000000000000000000000000000000000E0000000000000000000000000007, 0x2030⟩

theorem Runs.execCounterMsg {G : Foot} {z s : State} (h : Does G z s) (hg : Foot.execCounterMsg.leB G = true) (t : Nat) (e : ChEnd) (tag : Nat) (lk : Nat) (cidx : Nat) (ctx : Nat) (seq : Nat) (nleaf : Nat) (ua : Bool) (delta : Nat) : Runs G z (execCounterMsg t e tag lk cidx ctx seq nleaf ua delta s) := by
  unfold Sys2Proof.Machine.execCounterMsg
  with_reducible repeat' first
    | assumption
    | (extract_lets +onlyGivenNames a; first | (refine (fun (k : Does G z a) => ?_) ?_; rotate_left; unfold a; clear a; rotate_left; clear_value a; revert a; intros) | (clear_value a; revert a; intros))
    | refine Does.start ?_ _ | refine Does.upMsg ?_ (Foot.up hg (by decide)) _ _ _ _ (fun _ _ _ _ => ?_)
    | refine Does.counterHub ?_ (Foot.up hg (by decide)) _ _ _ _ _ _
    | refine Does.counterNode ?_ (Foot.up hg (by decide)) _ _ _ _ _ _ _ _ | refine Runs.next ?_ | refine Runs.ite ?_ ?_
    | (dsimp -zeta only) | refine Does.ite ?_ ?_

def Foot.execCounterWindowComplete : Foot := ⟨0x1000000000000000000000000000000000000000000000, 0x4000000000000000000000000000000000000000000000000000000000000000000000000000, 0⟩

theorem Runs.execCounterWindowComplete {G : Foot} {z s : State} (h : Does G z s) (hg : Foot.execCounterWindowComplete.leB G = true) (t : Nat) (k : Nat) : Runs G z (execCounterWindowComplete t k s) := by
  unfold Sys2Proof.Machine.execCounterWindowComplete
  with_reducible repeat' first
    | assumption
    | (extract_lets +onlyGivenNames a; first | (refine (fun (k : Does G z a) => ?_) ?_; rotate_left; unfold a; clear a; rotate_left; clear_value a; revert a; intros) | (clear_value a; revert a; intros))
    | refine Does.wr ?_ ?_ _ _ _ | refine Does.setV ?_ ?_ _ _ _ | refine Does.start ?_ _ | refine Runs.next ?_
    | refine Runs.ite ?_ ?_ | exact Foot.upR hg (by decide) | exact Foot.upV hg (by decide) | (dsimp -zeta only)
    | refine Does.ite ?_ ?_

def Foot.execLatchStart : Foot := ⟨0x90000002000000000000000000000000001800400000, 0x4000000000000000000000000000000000000000000000000000000000000000, 0x2240⟩

theorem Runs.execLatchStart {G : Foot} {z s : State} (h : Does G z s) (hg : Foot.execLatchStart.leB G = true) (t : Nat) (p : Port) (page : Option Nat) (c : Nat) (k : Nat) (addr : Nat) : Runs G z (execLatchStart t p page c k addr s) := by
  unfold Sys2Proof.Machine.execLatchStart
  with_reducible repeat' first
    | assumption | refine Does.start ?_ _ | refine Does.latchWrite ?_ (Foot.up hg (by decide)) _ _ _ _ _ _
    | refine Runs.next ?_

def Foot.execLatchEnd : Foot := ⟨0x90000002000000000000000000000000001800400000, 0x4000000000000000000000000000000000000000000000000000000000000000, 0x2240⟩

theorem Runs.execLatchEnd {G : Foot} {z s : State} (h : Does G z s) (hg : Foot.execLatchEnd.leB G = true) (t : Nat) (p : Port) (page : Option Nat) (c : Nat) (k : Nat) (addr : Nat) : Runs G z (execLatchEnd t p page c k addr s) := by
  unfold Sys2Proof.Machine.execLatchEnd
  with_reducible repeat' first
    | assumption | refine Does.start ?_ _ | refine Does.latchWrite ?_ (Foot.up hg (by decide)) _ _ _ _ _ _
    | refine Runs.next ?_

def Foot.execTelemetryWindow : Foot := ⟨0x7544000000000000000000000000000130200008000000000, 0x708000000000FC0000000000000000000000000000000000000000000000000000000000000007, 0x40130⟩

theorem Runs.execTelemetryWindow {G : Foot} {z s : State} (h : Does G z s) (hg : Foot.execTelemetryWindow.leB G = true) (t : Nat) : Runs G z (execTelemetryWindow t s) := by
  unfold Sys2Proof.Machine.execTelemetryWindow
  with_reducible repeat' first
    | assumption
    | (extract_lets +onlyGivenNames a; first | (refine (fun (k : Does G z a) => ?_) ?_; rotate_left; unfold a; clear a; rotate_left; clear_value a; revert a; intros) | (clear_value a; revert a; intros))
    | refine Does.setV ?_ ?_ _ _ _ | refine Does.start ?_ _ | refine Does.bgStart ?_ (Foot.up hg (by decide)) _
    | refine Does.telBody ?_ (Foot.up hg (by decide)) | refine Does.recordAt ?_ (Foot.up hg (by decide)) _ _ _ _ _
    | refine Does.bgEnd ?_ (Foot.up hg (by decide)) _ | refine Runs.next ?_ | refine Runs.ite ?_ ?_
    | exact Foot.upV hg (by decide) | (dsimp -zeta only) | refine Does.ite ?_ ?_

def Foot.execRecRingEnable : Foot := ⟨0x75C4000000000000000000000000000130200009800000000, 0x7, 0x130⟩

theorem Runs.execRecRingEnable {G : Foot} {z s : State} (h : Does G z s) (hg : Foot.execRecRingEnable.leB G = true) (t : Nat) (p : Port) (n : Nat) (base : Nat) (size : Nat) (clr : Bool) : Runs G z (execRecRingEnable t p n base size clr s) := by
  unfold Sys2Proof.Machine.execRecRingEnable
  with_reducible repeat' first
    | assumption | refine Does.start ?_ _ | refine Does.command ?_ (Foot.up hg (by decide)) _ _ _ (fun _ _ => ?_) _ _
    | refine Does.ringAWrite ?_ (Foot.up hg (by decide)) _ _ | refine Runs.next ?_

def Foot.execEventMsg : Foot := ⟨0x3407004010002003E00000000000000000130200078000400840, 0x40000000000000000000000000000000000000070C001000000000006018000000000000000000000000007, 0x400B0⟩

theorem Runs.execEventMsg {G : Foot} {z s : State} (h : Does G z s) (hg : Foot.execEventMsg.leB G = true) (t : Nat) (e : ChEnd) (tag : Nat) (code : Nat) (inst : Nat) (detail : Nat) (lvl : Bool) (rsvd : Bool) : Runs G z (execEventMsg t e tag code inst detail lvl rsvd s) := by
  unfold Sys2Proof.Machine.execEventMsg
  with_reducible repeat' first
    | assumption | refine Does.start ?_ _ | refine Does.deliver ?_ (Foot.up hg (by decide)) _ _ _ (fun _ _ => ?_)
    | refine Does.eventMsg ?_ (Foot.up hg (by decide)) _ _ _ _ _ _ | refine Runs.next ?_

def Foot.execEvcAck : Foot := ⟨0x100400001800000000, 0, 0x10⟩

theorem Runs.execEvcAck {G : Foot} {z s : State} (h : Does G z s) (hg : Foot.execEvcAck.leB G = true) (t : Nat) (p : Port) (k : Nat) (upper : Bool) : Runs G z (execEvcAck t p k upper s) := by
  unfold Sys2Proof.Machine.execEvcAck
  with_reducible repeat' first
    | assumption
    | (extract_lets +onlyGivenNames a; first | (refine (fun (k : Does G z a) => ?_) ?_; rotate_left; unfold a; clear a; rotate_left; clear_value a; revert a; intros) | (clear_value a; revert a; intros))
    | refine Does.start ?_ _ | refine Does.deadAnswer ?_ (Foot.up hg (by decide)) _
    | refine Does.answerD ?_ (Foot.up hg (by decide)) _ _ _ _ _ | refine Does.acknowledge ?_ (Foot.up hg (by decide)) _
    | refine Does.answerReg ?_ (Foot.up hg (by decide)) _ _ _ _ _ _ | refine Runs.next ?_ | refine Runs.ite ?_ ?_
    | (dsimp -zeta only) | refine Does.ite ?_ ?_

def Foot.execEvcEoi : Foot := ⟨0x7004000000000000000000000000000131300009800000000, 0xF, 0x30⟩

theorem Runs.execEvcEoi {G : Foot} {z s : State} (h : Does G z s) (hg : Foot.execEvcEoi.leB G = true) (t : Nat) (p : Port) (k : Nat) (x : Nat) : Runs G z (execEvcEoi t p k x s) := by
  unfold Sys2Proof.Machine.execEvcEoi
  with_reducible repeat' first
    | assumption | refine Does.start ?_ _ | refine Does.command ?_ (Foot.up hg (by decide)) _ _ _ (fun _ _ => ?_) _ _
    | refine Does.complete ?_ (Foot.up hg (by decide)) _ _ | refine Runs.next ?_

def Foot.execEvcUnwind : Foot := ⟨0x131300001800000000, 0x8, 0x10⟩

theorem Runs.execEvcUnwind {G : Foot} {z s : State} (h : Does G z s) (hg : Foot.execEvcUnwind.leB G = true) (t : Nat) (p : Port) (k : Nat) : Runs G z (execEvcUnwind t p k s) := by
  unfold Sys2Proof.Machine.execEvcUnwind
  with_reducible repeat' first
    | assumption | refine Does.start ?_ _ | refine Does.command ?_ (Foot.up hg (by decide)) _ _ _ (fun _ _ => ?_) _ _
    | refine Does.recover ?_ (Foot.up hg (by decide)) _ _ _ | refine Runs.next ?_

def Foot.execEvcPopTo : Foot := ⟨0x131300001800000000, 0x8, 0x10⟩

theorem Runs.execEvcPopTo {G : Foot} {z s : State} (h : Does G z s) (hg : Foot.execEvcPopTo.leB G = true) (t : Nat) (p : Port) (k : Nat) (x : Nat) : Runs G z (execEvcPopTo t p k x s) := by
  unfold Sys2Proof.Machine.execEvcPopTo
  with_reducible repeat' first
    | assumption | refine Does.start ?_ _ | refine Does.command ?_ (Foot.up hg (by decide)) _ _ _ (fun _ _ => ?_) _ _
    | refine Does.recover ?_ (Foot.up hg (by decide)) _ _ _ | refine Runs.next ?_

def Foot.execEvcThaw : Foot := ⟨0x131300001800000000, 0x8, 0x10⟩

theorem Runs.execEvcThaw {G : Foot} {z s : State} (h : Does G z s) (hg : Foot.execEvcThaw.leB G = true) (t : Nat) (p : Port) (k : Nat) : Runs G z (execEvcThaw t p k s) := by
  unfold Sys2Proof.Machine.execEvcThaw
  with_reducible repeat' first
    | assumption | refine Does.start ?_ _ | refine Does.command ?_ (Foot.up hg (by decide)) _ _ _ (fun _ _ => ?_) _ _
    | refine Does.recover ?_ (Foot.up hg (by decide)) _ _ _ | refine Runs.next ?_

def Foot.execSetpend : Foot := ⟨0x130000001800000000, 0, 0⟩

theorem Runs.execSetpend {G : Foot} {z s : State} (h : Does G z s) (hg : Foot.execSetpend.leB G = true) (t : Nat) (p : Port) (k : Nat) : Runs G z (execSetpend t p k s) := by
  unfold Sys2Proof.Machine.execSetpend
  with_reducible repeat' first
    | assumption | refine Does.start ?_ _ | refine Does.command ?_ (Foot.up hg (by decide)) _ _ _ (fun _ _ => ?_) _ _
    | refine Does.srcStateWrite ?_ (Foot.up hg (by decide)) _ _ | refine Runs.next ?_

def Foot.execClrpend : Foot := ⟨0x130000001800000000, 0, 0⟩

theorem Runs.execClrpend {G : Foot} {z s : State} (h : Does G z s) (hg : Foot.execClrpend.leB G = true) (t : Nat) (p : Port) (k : Nat) : Runs G z (execClrpend t p k s) := by
  unfold Sys2Proof.Machine.execClrpend
  with_reducible repeat' first
    | assumption | refine Does.start ?_ _ | refine Does.command ?_ (Foot.up hg (by decide)) _ _ _ (fun _ _ => ?_) _ _
    | refine Does.srcStateWrite ?_ (Foot.up hg (by decide)) _ _ | refine Runs.next ?_

def Foot.execEvcSrcCfgWrite : Foot := ⟨0x190000001800000000, 0, 0⟩

theorem Runs.execEvcSrcCfgWrite {G : Foot} {z s : State} (h : Does G z s) (hg : Foot.execEvcSrcCfgWrite.leB G = true) (t : Nat) (p : Port) (k : Nat) (w : Nat) : Runs G z (execEvcSrcCfgWrite t p k w s) := by
  unfold Sys2Proof.Machine.execEvcSrcCfgWrite
  with_reducible repeat' first
    | assumption | refine Does.start ?_ _ | refine Does.command ?_ (Foot.up hg (by decide)) _ _ _ (fun _ _ => ?_) _ _
    | refine Does.srcCfgWrite ?_ (Foot.up hg (by decide)) _ _ | refine Runs.next ?_

def Foot.execPrigroupWrite : Foot := ⟨0x100001800000000, 0, 0⟩

theorem Runs.execPrigroupWrite {G : Foot} {z s : State} (h : Does G z s) (hg : Foot.execPrigroupWrite.leB G = true) (t : Nat) (p : Port) (g : Nat) : Runs G z (execPrigroupWrite t p g s) := by
  unfold Sys2Proof.Machine.execPrigroupWrite
  with_reducible repeat' first
    | assumption | refine Does.start ?_ _ | refine Does.command ?_ (Foot.up hg (by decide)) _ _ _ (fun _ _ => ?_) _ _
    | refine Does.prigroupSet ?_ (Foot.up hg (by decide)) _ | refine Runs.next ?_

def Foot.execEvcGrpWrite : Foot := ⟨0x110000001800000000, 0, 0⟩

theorem Runs.execEvcGrpWrite {G : Foot} {z s : State} (h : Does G z s) (hg : Foot.execEvcGrpWrite.leB G = true) (t : Nat) (p : Port) (g : Nat) (cnt : Nat) (us : Nat) : Runs G z (execEvcGrpWrite t p g cnt us s) := by
  unfold Sys2Proof.Machine.execEvcGrpWrite
  with_reducible repeat' first
    | assumption | refine Does.start ?_ _ | refine Does.command ?_ (Foot.up hg (by decide)) _ _ _ (fun _ _ => ?_) _ _
    | refine Does.grpWrite ?_ (Foot.up hg (by decide)) _ _ _ | refine Runs.next ?_

def Foot.execGroupFire : Foot := ⟨0x110000000000000000, 0, 0⟩

theorem Runs.execGroupFire {G : Foot} {z s : State} (h : Does G z s) (hg : Foot.execGroupFire.leB G = true) (t : Nat) (g : Nat) : Runs G z (execGroupFire t g s) := by
  unfold Sys2Proof.Machine.execGroupFire
  with_reducible repeat' first
    | assumption
    | (extract_lets +onlyGivenNames a; first | (refine (fun (k : Does G z a) => ?_) ?_; rotate_left; unfold a; clear a; rotate_left; clear_value a; revert a; intros) | (clear_value a; revert a; intros))
    | refine Does.start ?_ _ | refine Does.grpFire ?_ (Foot.up hg (by decide)) _ | refine Runs.next ?_ | refine Runs.ite ?_ ?_
    | (dsimp -zeta only) | refine Does.ite ?_ ?_

def Foot.execMirrorHeartbeat : Foot := ⟨0, 0x200000000000000000000000000000000000000000000000000000000000000000000, 0⟩

theorem Runs.execMirrorHeartbeat {G : Foot} {z s : State} (h : Does G z s) (hg : Foot.execMirrorHeartbeat.leB G = true) (t : Nat) : Runs G z (execMirrorHeartbeat t s) := by
  unfold Sys2Proof.Machine.execMirrorHeartbeat
  with_reducible repeat' first
    | assumption
    | (extract_lets +onlyGivenNames a; first | (refine (fun (k : Does G z a) => ?_) ?_; rotate_left; unfold a; clear a; rotate_left; clear_value a; revert a; intros) | (clear_value a; revert a; intros))
    | refine Does.setV ?_ ?_ _ _ _ | refine Does.emit ?_ _ | refine Does.start ?_ _ | refine Runs.next ?_
    | refine Runs.ite ?_ ?_ | exact Foot.upV hg (by decide) | (dsimp -zeta only) | refine Does.ite ?_ ?_

def Foot.execMirrorHeartbeatMiss : Foot := ⟨0x7CB7004310007703F00001000000006000130200079800422060, 0x100000000000000000000D9040A30004000000000060014000C0000000000000000007, 0x40CB0⟩

theorem Runs.execMirrorHeartbeatMiss {G : Foot} {z s : State} (h : Does G z s) (hg : Foot.execMirrorHeartbeatMiss.leB G = true) (t : Nat) : Runs G z (execMirrorHeartbeatMiss t s) := by
  unfold Sys2Proof.Machine.execMirrorHeartbeatMiss
  with_reducible repeat' first
    | assumption
    | (extract_lets +onlyGivenNames a; first | (refine (fun (k : Does G z a) => ?_) ?_; rotate_left; unfold a; clear a; rotate_left; clear_value a; revert a; intros) | (clear_value a; revert a; intros))
    | refine Does.setV ?_ ?_ _ _ _ | refine Does.emit ?_ _ | refine Does.start ?_ _
    | refine Does.mirRefuse ?_ (Foot.up hg (by decide)) | refine Runs.next ?_ | refine Runs.ite ?_ ?_
    | exact Foot.upV hg (by decide) | (dsimp -zeta only) | refine Does.ite ?_ ?_ | refine Does.ite_snd ?_ ?_
    | refine Foot.pick ?_ ?_ | split

def Foot.execMirrorPortDown : Foot := ⟨0x7CB7004310007703F00001000000006000130200079800422060, 0x100000000000000000000D9040A30004000000000060014000C0000000000000000007, 0x40CB0⟩

theorem Runs.execMirrorPortDown {G : Foot} {z s : State} (h : Does G z s) (hg : Foot.execMirrorPortDown.leB G = true) (t : Nat) : Runs G z (execMirrorPortDown t s) := by
  unfold Sys2Proof.Machine.execMirrorPortDown
  with_reducible repeat' first
    | assumption
    | (extract_lets +onlyGivenNames a; first | (refine (fun (k : Does G z a) => ?_) ?_; rotate_left; unfold a; clear a; rotate_left; clear_value a; revert a; intros) | (clear_value a; revert a; intros))
    | refine Does.setV ?_ ?_ _ _ _ | refine Does.emit ?_ _ | refine Does.start ?_ _
    | refine Does.mirRefuse ?_ (Foot.up hg (by decide)) | refine Does.mirDetached ?_ (Foot.up hg (by decide))
    | refine Runs.next ?_ | refine Runs.ite ?_ ?_ | exact Foot.upV hg (by decide) | (dsimp -zeta only) | refine Does.ite ?_ ?_

def Foot.execHubOkLapse : Foot := ⟨0x4000000040406000000000000000000000000000001800800000, 0x20000000000180006000000140000000000000000000030000000270000000804000000000000000000000, 0x80640⟩

theorem Runs.execHubOkLapse {G : Foot} {z s : State} (h : Does G z s) (hg : Foot.execHubOkLapse.leB G = true) (t : Nat) : Runs G z (execHubOkLapse t s) := by
  unfold Sys2Proof.Machine.execHubOkLapse
  with_reducible repeat' first
    | assumption
    | (extract_lets +onlyGivenNames a; first | (refine (fun (k : Does G z a) => ?_) ?_; rotate_left; unfold a; clear a; rotate_left; clear_value a; revert a; intros) | (clear_value a; revert a; intros))
    | refine Does.wr ?_ ?_ _ _ _ | refine Does.setV ?_ ?_ _ _ _ | refine Does.start ?_ _
    | (refine Does.when ?_ _ _ fun _ _ => ?_) | (refine Does.each ?_ _ _ fun _ _ _ _ => ?_)
    | refine Does.mirSet ?_ (Foot.up hg (by decide)) _ _ | refine Does.stopOn ?_ (Foot.up hg (by decide))
    | refine Does.portsAbsent ?_ (Foot.up hg (by decide)) | refine Runs.next ?_ | refine Runs.ite ?_ ?_
    | exact Foot.upR hg (by decide) | exact Foot.upV hg (by decide) | exact Foot.upM hg ‹_ ∈ _› (by decide)
    | (dsimp -zeta only) | refine Does.ite ?_ ?_

def Foot.execTakeoverGrant : Foot := ⟨0x7FFFFFFFFFFFFFFFFFFFFFFFFFFFFFFFFFFFFFFFFFFFFFFFFFFFFFF, 0x3FFFFFFFFFFFFFFFFFFFFFFFFFFFFFFFFFFFFFFFFFFFFFFFFFFFFFFFFFFFFFFFFFFFFFFFFFFFFFFFFFFFFFFFFF, 0xEBFF8⟩

theorem Runs.execTakeoverGrant {G : Foot} {z s : State} (h : Does G z s) (hg : Foot.execTakeoverGrant.leB G = true) (t : Nat) (resent : Nat) : Runs G z (execTakeoverGrant t resent s) := by
  unfold Sys2Proof.Machine.execTakeoverGrant
  with_reducible repeat' first
    | assumption
    | (extract_lets +onlyGivenNames a; first | (refine (fun (k : Does G z a) => ?_) ?_; rotate_left; unfold a; clear a; rotate_left; clear_value a; revert a; intros) | (clear_value a; revert a; intros))
    | refine Does.start ?_ _ | refine Does.takeover ?_ (Foot.up hg (by decide)) _ | refine Runs.next ?_ | refine Runs.ite ?_ ?_
    | (dsimp -zeta only) | refine Does.ite ?_ ?_

def Foot.execMirSwitch : Foot := ⟨0x7CB7004310007703F00001000000006000130200079800422060, 0x40020940001800000000000000D9040A30004000000000060014000C0000000060000000007, 0x60CB0⟩

theorem Runs.execMirSwitch {G : Foot} {z s : State} (h : Does G z s) (hg : Foot.execMirSwitch.leB G = true) (t : Nat) (p : Port) : Runs G z (execMirSwitch t p s) := by
  unfold Sys2Proof.Machine.execMirSwitch
  with_reducible repeat' first
    | assumption | refine Does.start ?_ _ | refine Does.command ?_ (Foot.up hg (by decide)) _ _ _ (fun _ _ => ?_) _ _
    | refine Does.mirCmd ?_ (Foot.up hg (by decide)) _ | refine Runs.next ?_

def Foot.execMirRejoin : Foot := ⟨0x7CB7004310007703F00001000000006000130200079800422060, 0x40020940001800000000000000D9040A30004000000000060014000C0000000060000000007, 0x60CB0⟩

theorem Runs.execMirRejoin {G : Foot} {z s : State} (h : Does G z s) (hg : Foot.execMirRejoin.leB G = true) (t : Nat) (p : Port) : Runs G z (execMirRejoin t p s) := by
  unfold Sys2Proof.Machine.execMirRejoin
  with_reducible repeat' first
    | assumption | refine Does.start ?_ _ | refine Does.command ?_ (Foot.up hg (by decide)) _ _ _ (fun _ _ => ?_) _ _
    | refine Does.mirCmd ?_ (Foot.up hg (by decide)) _ | refine Runs.next ?_

def Foot.execMirDetach : Foot := ⟨0x7CB7004310007703F00001000000006000130200079800422060, 0x40020940001800000000000000D9040A30004000000000060014000C0000000060000000007, 0x60CB0⟩

theorem Runs.execMirDetach {G : Foot} {z s : State} (h : Does G z s) (hg : Foot.execMirDetach.leB G = true) (t : Nat) (p : Port) : Runs G z (execMirDetach t p s) := by
  unfold Sys2Proof.Machine.execMirDetach
  with_reducible repeat' first
    | assumption | refine Does.start ?_ _ | refine Does.command ?_ (Foot.up hg (by decide)) _ _ _ (fun _ _ => ?_) _ _
    | refine Does.mirCmd ?_ (Foot.up hg (by decide)) _ | refine Runs.next ?_

def Foot.execBulkCopyDone : Foot := ⟨0x4007004000000000000000000000000000130200008000000000, 0x400208200018000000000000000000000000000000000000000000000000000060000000007, 0x20030⟩

theorem Runs.execBulkCopyDone {G : Foot} {z s : State} (h : Does G z s) (hg : Foot.execBulkCopyDone.leB G = true) (t : Nat) : Runs G z (execBulkCopyDone t s) := by
  unfold Sys2Proof.Machine.execBulkCopyDone
  with_reducible repeat' first
    | assumption
    | (extract_lets +onlyGivenNames a; first | (refine (fun (k : Does G z a) => ?_) ?_; rotate_left; unfold a; clear a; rotate_left; clear_value a; revert a; intros) | (clear_value a; revert a; intros))
    | refine Does.setV ?_ ?_ _ _ _ | refine Does.start ?_ _ | refine Does.copyTick ?_ (Foot.up hg (by decide))
    | refine Does.copyLazy ?_ (Foot.up hg (by decide)) | refine Does.mirSet ?_ (Foot.up hg (by decide)) _ _
    | refine Does.event ?_ (Foot.up hg (by decide)) _ _ | refine Runs.next ?_ | refine Runs.ite ?_ ?_
    | exact Foot.upV hg (by decide) | (dsimp -zeta only) | refine Does.ite ?_ ?_

def Foot.execLazyCopy : Foot := ⟨0, 0x400208000018000000000000000000000000000000000000000000000000000060000000000, 0x20000⟩

theorem Runs.execLazyCopy {G : Foot} {z s : State} (h : Does G z s) (hg : Foot.execLazyCopy.leB G = true) (t : Nat) : Runs G z (execLazyCopy t s) := by
  unfold Sys2Proof.Machine.execLazyCopy
  with_reducible repeat' first
    | assumption
    | (extract_lets +onlyGivenNames a; first | (refine (fun (k : Does G z a) => ?_) ?_; rotate_left; unfold a; clear a; rotate_left; clear_value a; revert a; intros) | (clear_value a; revert a; intros))
    | refine Does.start ?_ _ | refine Does.copyLazy ?_ (Foot.up hg (by decide)) | refine Runs.next ?_ | refine Runs.ite ?_ ?_
    | (dsimp -zeta only) | refine Does.ite ?_ ?_ | refine Does.ite_snd ?_ ?_ | refine Foot.pick ?_ ?_ | split

def Foot.execPerTickCopy : Foot := ⟨0, 0, 0x20000⟩

theorem Runs.execPerTickCopy {G : Foot} {z s : State} (h : Does G z s) (hg : Foot.execPerTickCopy.leB G = true) (t : Nat) : Runs G z (execPerTickCopy t s) := by
  unfold Sys2Proof.Machine.execPerTickCopy
  with_reducible repeat' first
    | assumption
    | (extract_lets +onlyGivenNames a; first | (refine (fun (k : Does G z a) => ?_) ?_; rotate_left; unfold a; clear a; rotate_left; clear_value a; revert a; intros) | (clear_value a; revert a; intros))
    | refine Does.start ?_ _ | refine Does.copyTick ?_ (Foot.up hg (by decide)) | refine Runs.next ?_ | refine Runs.ite ?_ ?_
    | (dsimp -zeta only) | refine Does.ite ?_ ?_

def Foot.execPrimarySwitch : Foot := ⟨0x7CB7004310007703F00001000000006000130200079800422060, 0x400209C0001800000000000000D9040A30004000000000060014000C0000000060000000007, 0x60CB0⟩

theorem Runs.execPrimarySwitch {G : Foot} {z s : State} (h : Does G z s) (hg : Foot.execPrimarySwitch.leB G = true) (t : Nat) : Runs G z (execPrimarySwitch t s) := by
  unfold Sys2Proof.Machine.execPrimarySwitch
  with_reducible repeat' first
    | assumption
    | (extract_lets +onlyGivenNames a; first | (refine (fun (k : Does G z a) => ?_) ?_; rotate_left; unfold a; clear a; rotate_left; clear_value a; revert a; intros) | (clear_value a; revert a; intros))
    | refine Does.setV ?_ ?_ _ _ _ | refine Does.start ?_ _ | refine Does.mirCmd ?_ (Foot.up hg (by decide)) _
    | refine Runs.next ?_ | refine Runs.ite ?_ ?_ | exact Foot.upV hg (by decide) | (dsimp -zeta only) | refine Does.ite ?_ ?_

def Foot.execKeygenDone : Foot := ⟨0x48000000000000, 0x2000000000000000000000000000000000000000000000000000000000000000000000000, 0x20000⟩

theorem Runs.execKeygenDone {G : Foot} {z s : State} (h : Does G z s) (hg : Foot.execKeygenDone.leB G = true) (t : Nat) : Runs G z (execKeygenDone t s) := by
  unfold Sys2Proof.Machine.execKeygenDone
  with_reducible repeat' first
    | assumption
    | (extract_lets +onlyGivenNames a; first | (refine (fun (k : Does G z a) => ?_) ?_; rotate_left; unfold a; clear a; rotate_left; clear_value a; revert a; intros) | ((have b : MirSt := a; clear b); unfold a; clear a) | (clear_value a; revert a; intros))
    | refine Does.wr ?_ ?_ _ _ _ | refine Does.setV ?_ ?_ _ _ _ | refine Does.setReg ?_ ?_ _ _ _ | refine Does.start ?_ _
    | (refine Does.each ?_ _ _ fun _ _ _ _ => ?_) | refine Runs.next ?_ | refine Runs.ite ?_ ?_ | exact Foot.upR hg (by decide)
    | exact Foot.upV hg (by decide) | exact Foot.upM hg ‹_ ∈ _› (by decide) | (dsimp -zeta only) | refine Does.ite ?_ ?_
    | refine Does.ite_snd ?_ ?_ | refine Foot.pick ?_ ?_ | split | refine Does.snd ‹_ = (_, _)› ?_
    | (refine Does.mk' ?_ rfl rfl rfl rfl rfl rfl rfl rfl rfl rfl ?_; rotate_left; intro p hn; cases p <;> first | with_unfolding_all rfl | exact Foot.noP hg (by decide) hn)

def Foot.execIdCertOpen : Foot := ⟨0x8001800000000, 0x10000000000000000000000000000000000000000000000000000000000000000000, 0x8000⟩

theorem Runs.execIdCertOpen {G : Foot} {z s : State} (h : Does G z s) (hg : Foot.execIdCertOpen.leB G = true) (t : Nat) (p : Port) : Runs G z (execIdCertOpen t p s) := by
  unfold Sys2Proof.Machine.execIdCertOpen
  with_reducible repeat' first
    | assumption | refine Does.start ?_ _ | refine Does.command ?_ (Foot.up hg (by decide)) _ _ _ (fun _ _ => ?_) _ _
    | refine Does.certCmd ?_ (Foot.up hg (by decide)) _ _ | refine Runs.next ?_

def Foot.execIdCertCommit : Foot := ⟨0x8001800000000, 0x10000000000000000000000000000000000000000000000000000000000000000000, 0x8000⟩

theorem Runs.execIdCertCommit {G : Foot} {z s : State} (h : Does G z s) (hg : Foot.execIdCertCommit.leB G = true) (t : Nat) (p : Port) (len : Nat) : Runs G z (execIdCertCommit t p len s) := by
  unfold Sys2Proof.Machine.execIdCertCommit
  with_reducible repeat' first
    | assumption | refine Does.start ?_ _ | refine Does.command ?_ (Foot.up hg (by decide)) _ _ _ (fun _ _ => ?_) _ _
    | refine Does.certCmd ?_ (Foot.up hg (by decide)) _ _ | refine Runs.next ?_

def Foot.execIdCertWdata : Foot := ⟨0x1800000000, 0x10000000000000000000000000000000000000000000000000000000000000000000, 0x8000⟩

theorem Runs.execIdCertWdata {G : Foot} {z s : State} (h : Does G z s) (hg : Foot.execIdCertWdata.leB G = true) (t : Nat) (p : Port) (w : Word) : Runs G z (execIdCertWdata t p w s) := by
  unfold Sys2Proof.Machine.execIdCertWdata
  with_reducible repeat' first
    | assumption | refine Does.start ?_ _ | refine Does.command ?_ (Foot.up hg (by decide)) _ _ _ (fun _ _ => ?_) _ _
    | refine Does.certData ?_ (Foot.up hg (by decide)) _ | refine Runs.next ?_

def Foot.execRegisterWrite : Foot := ⟨0x7FFFFFFFFFFFFFFFFFFFFFFFFFFFFFFFFFFFFFFFFFFFFFFFFFFFFFF, 0x3FFFFFFFFFFFFFFFFFFFFFFFFFFFFFFFFFFFFFFFFFFFFFFFFFFFFFFFFFFFFFFFFFFFFFFFFFFFFFFFFFFFFFFFFF, 0xEFFFF⟩

theorem Runs.execRegisterWrite {G : Foot} {z s : State} (h : Does G z s) (hg : Foot.execRegisterWrite.leB G = true) (t : Nat) (p : Port) (addr : Nat) (size : Nat) (post : Bool) (w : Word) (pins : Pins) : Runs G z (execRegisterWrite t p addr size post w pins s) := by
  unfold Sys2Proof.Machine.execRegisterWrite
  with_reducible repeat' first
    | assumption
    | (extract_lets +onlyGivenNames a; first | (refine (fun (k : Does G z a) => ?_) ?_; rotate_left; unfold a; clear a; rotate_left; clear_value a; revert a; intros) | (clear_value a; revert a; intros))
    | refine Does.start ?_ _ | refine Does.deadAnswer ?_ (Foot.up hg (by decide)) _
    | refine Does.reqBegin ?_ (Foot.up hg (by decide)) _ | refine Does.answerD ?_ (Foot.up hg (by decide)) _ _ _ _ _
    | refine Does.performAns ?_ (Foot.up hg (by decide)) _ _ _ _ _ | refine Runs.next ?_ | refine Runs.ite ?_ ?_
    | (dsimp -zeta only) | refine Does.ite ?_ ?_ | refine Does.ite_snd ?_ ?_ | refine Foot.pick ?_ ?_ | split
    | refine Does.snd ‹_ = (_, _)› ?_
    | (refine Does.mk' ?_ rfl rfl rfl rfl rfl rfl rfl rfl rfl rfl ?_; rotate_left; intro p hn; cases p <;> first | with_unfolding_all rfl | exact Foot.noP hg (by decide) hn)

def Foot.execPostedWritePerform : Foot := ⟨0x7FFFFFFFFFFFFFFFFFFFFFFFFFFFFFFFFFFFFFFFFFFFFFFFFFFFFFF, 0x3FFFFFFFFFFFFFFFFFFFFFFFFFFFFFFFFFFFFFFFFFFFFFFFFFFFFFFFFFFFFFFFFFFFFFFFFFFFFFFFFFFFFFFFFF, 0xEFFFF⟩

theorem Runs.execPostedWritePerform {G : Foot} {z s : State} (h : Does G z s) (hg : Foot.execPostedWritePerform.leB G = true) (t : Nat) (pins : Pins) : Runs G z (execPostedWritePerform t pins s) := by
  unfold Sys2Proof.Machine.execPostedWritePerform
  with_reducible repeat' first
    | assumption
    | (extract_lets +onlyGivenNames a; first | (refine (fun (k : Does G z a) => ?_) ?_; rotate_left; unfold a; clear a; rotate_left; clear_value a; revert a; intros) | (clear_value a; revert a; intros))
    | refine Does.start ?_ _ | refine Does.answerD ?_ (Foot.up hg (by decide)) _ _ _ _ _
    | refine Does.postedDone ?_ (Foot.up hg (by decide)) _ | refine Does.pkgRun ?_ (Foot.up hg (by decide))
    | refine Does.reqRun ?_ (Foot.up hg (by decide)) | refine Does.perform ?_ (Foot.up hg (by decide)) _ _ _ _ _
    | refine Runs.next ?_ | refine Runs.ite ?_ ?_ | (dsimp -zeta only) | refine Does.ite ?_ ?_ | refine Does.ite_snd ?_ ?_
    | refine Foot.pick ?_ ?_ | split | refine Does.snd ‹_ = (_, _)› ?_
    | (refine Does.mk' ?_ rfl rfl rfl rfl rfl rfl rfl rfl rfl rfl ?_; rotate_left; intro p hn; cases p <;> first | with_unfolding_all rfl | exact Foot.noP hg (by decide) hn)

def Foot.execFacPkgCmd : Foot := ⟨0x3CB75443FFFFFFFFFFFD910060B007FDFFF7020017DC0FC228E8, 0x3B85FE24637F0E13C0100008023FCFC0FFFFFFFFCDF0D0A30FF5AF8BFFF601E01FFFFFFFFFF8060083C1FFEFF7, 0x45DFA⟩

theorem Runs.execFacPkgCmd {G : Foot} {z s : State} (h : Does G z s) (hg : Foot.execFacPkgCmd.leB G = true) (t : Nat) (m : FacMsg) (tag : Nat) (cmd : Nat) : Runs G z (execFacPkgCmd t m tag cmd s) := by
  unfold Sys2Proof.Machine.execFacPkgCmd
  with_reducible repeat' first
    | assumption | refine Does.start ?_ _ | refine Does.vendor ?_ (Foot.up hg (by decide)) _ _ _ _ (fun _ _ => ?_)
    | refine Does.pkgCmd ?_ (Foot.up hg (by decide)) _ | refine Does.noPayload ?_ | refine Runs.next ?_ | refine Runs.ite ?_ ?_
    | (dsimp -zeta only) | refine Does.ite ?_ ?_ | refine Does.ite_snd ?_ ?_ | refine Foot.pick ?_ ?_ | split

def Foot.execFacGetState : Foot := ⟨0x700400000000000000000000000000013020000C000000000, 0x7, 0x30⟩

theorem Runs.execFacGetState {G : Foot} {z s : State} (h : Does G z s) (hg : Foot.execFacGetState.leB G = true) (t : Nat) (m : FacMsg) (tag : Nat) : Runs G z (execFacGetState t m tag s) := by
  unfold Sys2Proof.Machine.execFacGetState
  with_reducible repeat' first
    | assumption | refine Does.start ?_ _ | refine Does.vendor ?_ (Foot.up hg (by decide)) _ _ _ _ (fun _ _ => ?_)
    | refine Runs.next ?_

def Foot.execFacReadReg : Foot := ⟨0x700401000000200000000000000000013060000C000400000, 0x7, 0x70⟩

theorem Runs.execFacReadReg {G : Foot} {z s : State} (h : Does G z s) (hg : Foot.execFacReadReg.leB G = true) (t : Nat) (m : FacMsg) (tag : Nat) (off : Nat) : Runs G z (execFacReadReg t m tag off s) := by
  unfold Sys2Proof.Machine.execFacReadReg
  with_reducible repeat' first
    | assumption
    | (extract_lets +onlyGivenNames a; first | (refine (fun (k : Does G z a) => ?_) ?_; rotate_left; unfold a; clear a; rotate_left; clear_value a; revert a; intros) | ((first | (have b : Prop := a; clear b) | (have b : List Fld := a; clear b) | (have b : SyncSt := a; clear b) | (have b : State → State := a; clear b) | (have b : Nat → Status → State := a; clear b) | (have b : Bank := a; clear b) | (have b : ImgSt := a; clear b) | (have b : FacSt := a; clear b) | (have b : MirSt := a; clear b) | (have b : Status × State → Option Status × State := a; clear b) | (have b : Status → Word → State → State := a; clear b) | (have b : State → Nat → Nat → State := a; clear b)); unfold a; clear a) | (clear_value a; revert a; intros))
    | refine Does.start ?_ _ | refine Does.facMsg ?_ (Foot.up hg (by decide)) _ _ (fun _ _ => ?_)
    | refine Does.facSend ?_ (Foot.up hg (by decide)) _ | refine Does.hubCmd ?_ (Foot.up hg (by decide)) _ _ _ _ _
    | refine Does.regRead ?_ (Foot.up hg (by decide)) _ _ | refine Runs.next ?_ | refine Runs.ite ?_ ?_ | (dsimp -zeta only)
    | refine Does.ite ?_ ?_ | refine Does.ite_snd ?_ ?_ | refine Foot.pick ?_ ?_ | split

def Foot.execFacImgOpen : Foot := ⟨0x700400000000000000000000000000013020030C000000000, 0x4000000000000000000000000000000000000000000000000000000000000000007, 0x33⟩

theorem Runs.execFacImgOpen {G : Foot} {z s : State} (h : Does G z s) (hg : Foot.execFacImgOpen.leB G = true) (t : Nat) (m : FacMsg) (tag : Nat) : Runs G z (execFacImgOpen t m tag s) := by
  unfold Sys2Proof.Machine.execFacImgOpen
  with_reducible repeat' first
    | assumption | refine Does.start ?_ _ | refine Does.vendor ?_ (Foot.up hg (by decide)) _ _ _ _ (fun _ _ => ?_)
    | refine Does.ldrCmd ?_ (Foot.up hg (by decide)) _ _ | refine Does.noPayload ?_ | refine Runs.next ?_

def Foot.execFacImgData : Foot := ⟨0x700400000000000000000000000000013020020C000000000, 0x4000000000000000000000000000000000000000000000000000000000000000007, 0x31⟩

theorem Runs.execFacImgData {G : Foot} {z s : State} (h : Does G z s) (hg : Foot.execFacImgData.leB G = true) (t : Nat) (m : FacMsg) (tag : Nat) (ptr : Nat) (data : List Byte) : Runs G z (execFacImgData t m tag ptr data s) := by
  unfold Sys2Proof.Machine.execFacImgData
  with_reducible repeat' first
    | assumption
    | (extract_lets +onlyGivenNames a; first | (refine (fun (k : Does G z a) => ?_) ?_; rotate_left; unfold a; clear a; rotate_left; clear_value a; revert a; intros) | (clear_value a; revert a; intros))
    | refine Does.start ?_ _ | refine Does.vendor ?_ (Foot.up hg (by decide)) _ _ _ _ (fun _ _ => ?_)
    | refine Does.ldrAddr ?_ (Foot.up hg (by decide)) _ _
    | refine Does.writeWords ?_ (Foot.up hg (by decide)) _ (fun _ _ _ => ?_) _
    | refine Does.ldrData ?_ (Foot.up hg (by decide)) _ _ _ | refine Does.noPayload ?_ | refine Runs.next ?_
    | refine Runs.ite ?_ ?_ | (dsimp -zeta only) | refine Does.ite ?_ ?_ | refine Does.ite_snd ?_ ?_ | refine Foot.pick ?_ ?_
    | split

def Foot.execFacImgCommit : Foot := ⟨0x700400000000000000000000000000013020030C000000000, 0x4000000000000000000000000000000000000000000000000000000000000000007, 0x33⟩

theorem Runs.execFacImgCommit {G : Foot} {z s : State} (h : Does G z s) (hg : Foot.execFacImgCommit.leB G = true) (t : Nat) (m : FacMsg) (tag : Nat) : Runs G z (execFacImgCommit t m tag s) := by
  unfold Sys2Proof.Machine.execFacImgCommit
  with_reducible repeat' first
    | assumption | refine Does.start ?_ _ | refine Does.vendor ?_ (Foot.up hg (by decide)) _ _ _ _ (fun _ _ => ?_)
    | refine Does.ldrCmd ?_ (Foot.up hg (by decide)) _ _ | refine Does.noPayload ?_ | refine Runs.next ?_

def Foot.execFacImgAbort : Foot := ⟨0x700400000000000000000000000000013020030C000000000, 0x4000000000000000000000000000000000000000000000000000000000000000007, 0x33⟩

theorem Runs.execFacImgAbort {G : Foot} {z s : State} (h : Does G z s) (hg : Foot.execFacImgAbort.leB G = true) (t : Nat) (m : FacMsg) (tag : Nat) : Runs G z (execFacImgAbort t m tag s) := by
  unfold Sys2Proof.Machine.execFacImgAbort
  with_reducible repeat' first
    | assumption | refine Does.start ?_ _ | refine Does.vendor ?_ (Foot.up hg (by decide)) _ _ _ _ (fun _ _ => ?_)
    | refine Does.ldrCmd ?_ (Foot.up hg (by decide)) _ _ | refine Does.noPayload ?_ | refine Runs.next ?_

def Foot.execFacCommitSvn : Foot := ⟨0x700400000000000000000000000000013020030C000000000, 0x4000000000000000000000000000000000000000000000000000000000000000007, 0x33⟩

theorem Runs.execFacCommitSvn {G : Foot} {z s : State} (h : Does G z s) (hg : Foot.execFacCommitSvn.leB G = true) (t : Nat) (m : FacMsg) (tag : Nat) : Runs G z (execFacCommitSvn t m tag s) := by
  unfold Sys2Proof.Machine.execFacCommitSvn
  with_reducible repeat' first
    | assumption | refine Does.start ?_ _ | refine Does.vendor ?_ (Foot.up hg (by decide)) _ _ _ _ (fun _ _ => ?_)
    | refine Does.ldrCmd ?_ (Foot.up hg (by decide)) _ _ | refine Does.noPayload ?_ | refine Runs.next ?_

def Foot.execFacImgStatus : Foot := ⟨0x700400000000000000000000000000013020000C000000000, 0x7, 0x30⟩

theorem Runs.execFacImgStatus {G : Foot} {z s : State} (h : Does G z s) (hg : Foot.execFacImgStatus.leB G = true) (t : Nat) (m : FacMsg) (tag : Nat) : Runs G z (execFacImgStatus t m tag s) := by
  unfold Sys2Proof.Machine.execFacImgStatus
  with_reducible repeat' first
    | assumption | refine Does.start ?_ _ | refine Does.vendor ?_ (Foot.up hg (by decide)) _ _ _ _ (fun _ _ => ?_)
    | refine Runs.next ?_

def Foot.execFacTrcRead : Foot := ⟨0x700400000000000000000000000000013020000C000000000, 0x7, 0x30⟩

theorem Runs.execFacTrcRead {G : Foot} {z s : State} (h : Does G z s) (hg : Foot.execFacTrcRead.leB G = true) (t : Nat) (m : FacMsg) (tag : Nat) (slot : Nat) (count : Nat) : Runs G z (execFacTrcRead t m tag slot count s) := by
  unfold Sys2Proof.Machine.execFacTrcRead
  with_reducible repeat' first
    | assumption
    | (extract_lets +onlyGivenNames a; first | (refine (fun (k : Does G z a) => ?_) ?_; rotate_left; unfold a; clear a; rotate_left; clear_value a; revert a; intros) | (clear_value a; revert a; intros))
    | refine Does.start ?_ _ | refine Does.vendor ?_ (Foot.up hg (by decide)) _ _ _ _ (fun _ _ => ?_)
    | refine Does.noPayload ?_ | refine Runs.next ?_ | refine Runs.ite ?_ ?_ | (dsimp -zeta only) | refine Does.ite ?_ ?_
    | refine Does.ite_snd ?_ ?_ | refine Foot.pick ?_ ?_ | split

def Foot.execFacAlertClr : Foot := ⟨0x700400000000000000000000000000013020000C000000000, 0x7, 0x30⟩

theorem Runs.execFacAlertClr {G : Foot} {z s : State} (h : Does G z s) (hg : Foot.execFacAlertClr.leB G = true) (t : Nat) (m : FacMsg) (tag : Nat) (mask : Nat) : Runs G z (execFacAlertClr t m tag mask s) := by
  unfold Sys2Proof.Machine.execFacAlertClr
  with_reducible repeat' first
    | assumption
    | (extract_lets +onlyGivenNames a; first | (refine (fun (k : Does G z a) => ?_) ?_; rotate_left; unfold a; clear a; rotate_left; clear_value a; revert a; intros) | (clear_value a; revert a; intros))
    | refine Does.setReg ?_ ?_ _ _ _ | refine Does.start ?_ _
    | refine Does.vendor ?_ (Foot.up hg (by decide)) _ _ _ _ (fun _ _ => ?_) | refine Runs.next ?_ | refine Runs.ite ?_ ?_
    | exact Foot.upR hg (by decide)

def Foot.execFacSignTrip : Foot := ⟨0x700400000000000000000000000000013020000C000000000, 0x7, 0x30⟩

theorem Runs.execFacSignTrip {G : Foot} {z s : State} (h : Does G z s) (hg : Foot.execFacSignTrip.leB G = true) (t : Nat) (m : FacMsg) (tag : Nat) (nonce : List Byte) : Runs G z (execFacSignTrip t m tag nonce s) := by
  unfold Sys2Proof.Machine.execFacSignTrip
  with_reducible repeat' first
    | assumption | refine Does.start ?_ _ | refine Does.vendor ?_ (Foot.up hg (by decide)) _ _ _ _ (fun _ _ => ?_)
    | refine Does.noPayload ?_ | refine Runs.next ?_ | refine Runs.ite ?_ ?_ | (dsimp -zeta only) | refine Does.ite ?_ ?_
    | refine Does.ite_snd ?_ ?_ | refine Foot.pick ?_ ?_ | split

def Foot.execFacCertOpen : Foot := ⟨0x700400000000000000000000000000013020800C000000000, 0x10000000000000000000000000000000000000000000000000000000000000000007, 0x8030⟩

theorem Runs.execFacCertOpen {G : Foot} {z s : State} (h : Does G z s) (hg : Foot.execFacCertOpen.leB G = true) (t : Nat) (m : FacMsg) (tag : Nat) : Runs G z (execFacCertOpen t m tag s) := by
  unfold Sys2Proof.Machine.execFacCertOpen
  with_reducible repeat' first
    | assumption | refine Does.start ?_ _ | refine Does.vendor ?_ (Foot.up hg (by decide)) _ _ _ _ (fun _ _ => ?_)
    | refine Does.certCmd ?_ (Foot.up hg (by decide)) _ _ | refine Does.noPayload ?_ | refine Runs.next ?_

def Foot.execFacCertData : Foot := ⟨0x700400000000000000000000000000013020000C000000000, 0x10000000000000000000000000000000000000000000000000000000000000000007, 0x8030⟩

theorem Runs.execFacCertData {G : Foot} {z s : State} (h : Does G z s) (hg : Foot.execFacCertData.leB G = true) (t : Nat) (m : FacMsg) (tag : Nat) (ptr : Nat) (data : List Byte) : Runs G z (execFacCertData t m tag ptr data s) := by
  unfold Sys2Proof.Machine.execFacCertData
  with_reducible repeat' first
    | assumption | refine Does.setV ?_ ?_ _ _ _ | refine Does.start ?_ _
    | refine Does.vendor ?_ (Foot.up hg (by decide)) _ _ _ _ (fun _ _ => ?_)
    | refine Does.writeWords ?_ (Foot.up hg (by decide)) _ (fun _ _ _ => ?_) _
    | refine Does.certData ?_ (Foot.up hg (by decide)) _ | refine Does.noPayload ?_ | refine Runs.next ?_
    | refine Runs.ite ?_ ?_ | exact Foot.upV hg (by decide) | (dsimp -zeta only) | refine Does.ite ?_ ?_
    | refine Does.ite_snd ?_ ?_ | refine Foot.pick ?_ ?_ | split

def Foot.execFacCertCommit : Foot := ⟨0x700400000000000000000000000000013020800C000000000, 0x10000000000000000000000000000000000000000000000000000000000000000007, 0x8030⟩

theorem Runs.execFacCertCommit {G : Foot} {z s : State} (h : Does G z s) (hg : Foot.execFacCertCommit.leB G = true) (t : Nat) (m : FacMsg) (tag : Nat) (len : Nat) : Runs G z (execFacCertCommit t m tag len s) := by
  unfold Sys2Proof.Machine.execFacCertCommit
  with_reducible repeat' first
    | assumption | refine Does.start ?_ _ | refine Does.vendor ?_ (Foot.up hg (by decide)) _ _ _ _ (fun _ _ => ?_)
    | refine Does.certCmd ?_ (Foot.up hg (by decide)) _ _ | refine Does.noPayload ?_ | refine Runs.next ?_
    | refine Runs.ite ?_ ?_ | (dsimp -zeta only) | refine Does.ite ?_ ?_ | refine Does.ite_snd ?_ ?_ | refine Foot.pick ?_ ?_
    | split

def Foot.execFacAlertSw : Foot := ⟨0x9800000000, 0, 0⟩

theorem Runs.execFacAlertSw {G : Foot} {z s : State} (h : Does G z s) (hg : Foot.execFacAlertSw.leB G = true) (t : Nat) (p : Port) : Runs G z (execFacAlertSw t p s) := by
  unfold Sys2Proof.Machine.execFacAlertSw
  with_reducible repeat' first
    | assumption | refine Does.start ?_ _ | refine Does.command ?_ (Foot.up hg (by decide)) _ _ _ (fun _ _ => ?_) _ _
    | refine Does.facAlert ?_ (Foot.up hg (by decide)) _ | refine Runs.next ?_

def Foot.execSetEndpointId : Foot := ⟨0x700400000000000000000000000000013020000C000000000, 0x7, 0x30⟩

theorem Runs.execSetEndpointId {G : Foot} {z s : State} (h : Does G z s) (hg : Foot.execSetEndpointId.leB G = true) (t : Nat) (m : FacMsg) (op : Nat) (eid : Nat) : Runs G z (execSetEndpointId t m op eid s) := by
  unfold Sys2Proof.Machine.execSetEndpointId
  with_reducible repeat' first
    | assumption
    | (extract_lets +onlyGivenNames a; first | (refine (fun (k : Does G z a) => ?_) ?_; rotate_left; unfold a; clear a; rotate_left; clear_value a; revert a; intros) | (clear_value a; revert a; intros))
    | refine Does.wr ?_ ?_ _ _ _ | refine Does.start ?_ _ | (refine Does.when ?_ _ _ fun _ _ => ?_)
    | refine Does.facMsg ?_ (Foot.up hg (by decide)) _ _ (fun _ _ => ?_) | refine Does.standard ?_ (Foot.up hg (by decide)) _ _
    | refine Runs.next ?_ | refine Runs.ite ?_ ?_ | exact Foot.upR hg (by decide)

def Foot.execGetEndpointId : Foot := ⟨0x700400000000000000000000000000013020000C000000000, 0x7, 0x30⟩

theorem Runs.execGetEndpointId {G : Foot} {z s : State} (h : Does G z s) (hg : Foot.execGetEndpointId.leB G = true) (t : Nat) (m : FacMsg) : Runs G z (execGetEndpointId t m s) := by
  unfold Sys2Proof.Machine.execGetEndpointId
  with_reducible repeat' first
    | assumption | refine Does.start ?_ _ | refine Does.facMsg ?_ (Foot.up hg (by decide)) _ _ (fun _ _ => ?_)
    | refine Does.standard ?_ (Foot.up hg (by decide)) _ _ | refine Runs.next ?_

def Foot.execGetMctpVersionSupport : Foot := ⟨0x700400000000000000000000000000013020000C000000000, 0x7, 0x30⟩

theorem Runs.execGetMctpVersionSupport {G : Foot} {z s : State} (h : Does G z s) (hg : Foot.execGetMctpVersionSupport.leB G = true) (t : Nat) (m : FacMsg) (typ : Nat) : Runs G z (execGetMctpVersionSupport t m typ s) := by
  unfold Sys2Proof.Machine.execGetMctpVersionSupport
  with_reducible repeat' first
    | assumption | refine Does.start ?_ _ | refine Does.facMsg ?_ (Foot.up hg (by decide)) _ _ (fun _ _ => ?_)
    | refine Does.standard ?_ (Foot.up hg (by decide)) _ _ | refine Runs.next ?_

def Foot.execGetMessageTypeSupport : Foot := ⟨0x700400000000000000000000000000013020000C000000000, 0x7, 0x30⟩

theorem Runs.execGetMessageTypeSupport {G : Foot} {z s : State} (h : Does G z s) (hg : Foot.execGetMessageTypeSupport.leB G = true) (t : Nat) (m : FacMsg) : Runs G z (execGetMessageTypeSupport t m s) := by
  unfold Sys2Proof.Machine.execGetMessageTypeSupport
  with_reducible repeat' first
    | assumption | refine Does.start ?_ _ | refine Does.facMsg ?_ (Foot.up hg (by decide)) _ _ (fun _ _ => ?_)
    | refine Does.standard ?_ (Foot.up hg (by decide)) _ _ | refine Runs.next ?_

def Foot.execGetVendorDefinedMessageSupport : Foot := ⟨0x700400000000000000000000000000013020000C000000000, 0x7, 0x30⟩

theorem Runs.execGetVendorDefinedMessageSupport {G : Foot} {z s : State} (h : Does G z s) (hg : Foot.execGetVendorDefinedMessageSupport.leB G = true) (t : Nat) (m : FacMsg) (sel : Nat) : Runs G z (execGetVendorDefinedMessageSupport t m sel s) := by
  unfold Sys2Proof.Machine.execGetVendorDefinedMessageSupport
  with_reducible repeat' first
    | assumption | refine Does.start ?_ _ | refine Does.facMsg ?_ (Foot.up hg (by decide)) _ _ (fun _ _ => ?_)
    | refine Does.standard ?_ (Foot.up hg (by decide)) _ _ | refine Runs.next ?_

def Foot.execGetVersion : Foot := ⟨0x700400000000000000000000000000013020000C000000000, 0x40000000000000000000000000000000000000000000000000000000000000000007, 0x30⟩

theorem Runs.execGetVersion {G : Foot} {z s : State} (h : Does G z s) (hg : Foot.execGetVersion.leB G = true) (t : Nat) (m : FacMsg) : Runs G z (execGetVersion t m s) := by
  unfold Sys2Proof.Machine.execGetVersion
  with_reducible repeat' first
    | assumption | refine Does.setV ?_ ?_ _ _ _ | refine Does.start ?_ _
    | refine Does.facMsg ?_ (Foot.up hg (by decide)) _ _ (fun _ _ => ?_) | refine Does.standard ?_ (Foot.up hg (by decide)) _ _
    | refine Runs.next ?_ | refine Runs.ite ?_ ?_ | exact Foot.upV hg (by decide)

def Foot.execGetCapabilities : Foot := ⟨0x700400000000000000000000000000013020000C000000000, 0x40000000000000000000000000000000000000000000000000000000000000000007, 0x30⟩

theorem Runs.execGetCapabilities {G : Foot} {z s : State} (h : Does G z s) (hg : Foot.execGetCapabilities.leB G = true) (t : Nat) (m : FacMsg) : Runs G z (execGetCapabilities t m s) := by
  unfold Sys2Proof.Machine.execGetCapabilities
  with_reducible repeat' first
    | assumption | refine Does.setV ?_ ?_ _ _ _ | refine Does.start ?_ _
    | refine Does.facMsg ?_ (Foot.up hg (by decide)) _ _ (fun _ _ => ?_)
    | refine Does.spdmAt ?_ (Foot.up hg (by decide)) _ _ (fun _ _ => ?_) | refine Does.standard ?_ (Foot.up hg (by decide)) _ _
    | refine Runs.next ?_ | refine Runs.ite ?_ ?_ | exact Foot.upV hg (by decide)

def Foot.execNegotiateAlgorithms : Foot := ⟨0x700400000000000000000000000000013020000C000000000, 0x40000000000000000000000000000000000000000000000000000000000000000007, 0x30⟩

theorem Runs.execNegotiateAlgorithms {G : Foot} {z s : State} (h : Does G z s) (hg : Foot.execNegotiateAlgorithms.leB G = true) (t : Nat) (m : FacMsg) (offers : Bool) : Runs G z (execNegotiateAlgorithms t m offers s) := by
  unfold Sys2Proof.Machine.execNegotiateAlgorithms
  with_reducible repeat' first
    | assumption | refine Does.setV ?_ ?_ _ _ _ | refine Does.start ?_ _
    | refine Does.facMsg ?_ (Foot.up hg (by decide)) _ _ (fun _ _ => ?_)
    | refine Does.spdmAt ?_ (Foot.up hg (by decide)) _ _ (fun _ _ => ?_) | refine Does.standard ?_ (Foot.up hg (by decide)) _ _
    | refine Does.spdmError ?_ (Foot.up hg (by decide)) _ | refine Runs.next ?_ | refine Runs.ite ?_ ?_
    | exact Foot.upV hg (by decide) | (dsimp -zeta only) | refine Does.ite ?_ ?_

def Foot.execGetDigests : Foot := ⟨0x700400000000000000000000000000013020000C000000000, 0x7, 0x30⟩

theorem Runs.execGetDigests {G : Foot} {z s : State} (h : Does G z s) (hg : Foot.execGetDigests.leB G = true) (t : Nat) (m : FacMsg) : Runs G z (execGetDigests t m s) := by
  unfold Sys2Proof.Machine.execGetDigests
  with_reducible repeat' first
    | assumption | refine Does.start ?_ _ | refine Does.facMsg ?_ (Foot.up hg (by decide)) _ _ (fun _ _ => ?_)
    | refine Does.spdmAt ?_ (Foot.up hg (by decide)) _ _ (fun _ _ => ?_) | refine Does.standard ?_ (Foot.up hg (by decide)) _ _
    | refine Does.spdmError ?_ (Foot.up hg (by decide)) _ | refine Runs.next ?_ | refine Runs.ite ?_ ?_ | (dsimp -zeta only)
    | refine Does.ite ?_ ?_

def Foot.execGetCertificate : Foot := ⟨0x700400000000000000000000000000013020000C000000000, 0x7, 0x30⟩

theorem Runs.execGetCertificate {G : Foot} {z s : State} (h : Does G z s) (hg : Foot.execGetCertificate.leB G = true) (t : Nat) (m : FacMsg) (slot : Nat) (off : Nat) (len : Nat) : Runs G z (execGetCertificate t m slot off len s) := by
  unfold Sys2Proof.Machine.execGetCertificate
  with_reducible repeat' first
    | assumption
    | (extract_lets +onlyGivenNames a; first | (refine (fun (k : Does G z a) => ?_) ?_; rotate_left; unfold a; clear a; rotate_left; clear_value a; revert a; intros) | (clear_value a; revert a; intros))
    | refine Does.start ?_ _ | refine Does.facMsg ?_ (Foot.up hg (by decide)) _ _ (fun _ _ => ?_)
    | refine Does.spdmAt ?_ (Foot.up hg (by decide)) _ _ (fun _ _ => ?_) | refine Does.spdmError ?_ (Foot.up hg (by decide)) _
    | refine Does.standard ?_ (Foot.up hg (by decide)) _ _ | refine Runs.next ?_ | refine Runs.ite ?_ ?_ | (dsimp -zeta only)
    | refine Does.ite ?_ ?_

def Foot.execChallenge : Foot := ⟨0x700400000000000000000000000000013020000C000000000, 0x7, 0x30⟩

theorem Runs.execChallenge {G : Foot} {z s : State} (h : Does G z s) (hg : Foot.execChallenge.leB G = true) (t : Nat) (m : FacMsg) (slot : Nat) (nonce : List Byte) : Runs G z (execChallenge t m slot nonce s) := by
  unfold Sys2Proof.Machine.execChallenge
  with_reducible repeat' first
    | assumption | refine Does.start ?_ _ | refine Does.facMsg ?_ (Foot.up hg (by decide)) _ _ (fun _ _ => ?_)
    | refine Does.spdmAt ?_ (Foot.up hg (by decide)) _ _ (fun _ _ => ?_) | refine Does.spdmError ?_ (Foot.up hg (by decide)) _
    | refine Does.spdmSigned ?_ (Foot.up hg (by decide)) _ _ | refine Runs.next ?_ | refine Runs.ite ?_ ?_ | (dsimp -zeta only)
    | refine Does.ite ?_ ?_

def Foot.execGetMeasurements : Foot := ⟨0x700400000000000000000000000000013020000C000000000, 0x7, 0x40030⟩

theorem Runs.execGetMeasurements {G : Foot} {z s : State} (h : Does G z s) (hg : Foot.execGetMeasurements.leB G = true) (t : Nat) (m : FacMsg) (idx : Nat) (sign : Bool) (nonce : List Byte) : Runs G z (execGetMeasurements t m idx sign nonce s) := by
  unfold Sys2Proof.Machine.execGetMeasurements
  with_reducible repeat' first
    | assumption
    | (extract_lets +onlyGivenNames a; first | (refine (fun (k : Does G z a) => ?_) ?_; rotate_left; unfold a; clear a; rotate_left; clear_value a; revert a; intros) | (clear_value a; revert a; intros))
    | refine Does.start ?_ _ | refine Does.freshFree ?_ (Foot.upP hg (by decide))
    | refine Does.facMsg ?_ (Foot.up hg (by decide)) _ _ (fun _ _ => ?_)
    | refine Does.spdmAt ?_ (Foot.up hg (by decide)) _ _ (fun _ _ => ?_) | refine Does.spdmError ?_ (Foot.up hg (by decide)) _
    | refine Does.spdmSigned ?_ (Foot.up hg (by decide)) _ _ | refine Does.standard ?_ (Foot.up hg (by decide)) _ _
    | refine Runs.next ?_ | refine Runs.ite ?_ ?_ | (dsimp -zeta only) | refine Does.ite ?_ ?_

def Foot.execKeyExchange : Foot := ⟨0x700400000000000000000000000000013020000C000000000, 0x10000000080000000000000000000000000000000000000000000000000000000000000000007, 0x30⟩

theorem Runs.execKeyExchange {G : Foot} {z s : State} (h : Does G z s) (hg : Foot.execKeyExchange.leB G = true) (t : Nat) (m : FacMsg) (slot : Nat) (exch : List Byte) : Runs G z (execKeyExchange t m slot exch s) := by
  unfold Sys2Proof.Machine.execKeyExchange
  with_reducible repeat' first
    | assumption | refine Does.setV ?_ ?_ _ _ _ | refine Does.start ?_ _
    | refine Does.facMsg ?_ (Foot.up hg (by decide)) _ _ (fun _ _ => ?_)
    | refine Does.spdmAt ?_ (Foot.up hg (by decide)) _ _ (fun _ _ => ?_) | refine Does.spdmError ?_ (Foot.up hg (by decide)) _
    | refine Does.sesSet ?_ (Foot.up hg (by decide)) _ _ | refine Does.spdmSigned ?_ (Foot.up hg (by decide)) _ _
    | refine Runs.next ?_ | refine Runs.ite ?_ ?_ | exact Foot.upV hg (by decide) | (dsimp -zeta only) | refine Does.ite ?_ ?_
    | refine Does.ite_snd ?_ ?_ | refine Foot.pick ?_ ?_ | split

def Foot.execFinish : Foot := ⟨0x700400000000000000000000000000013020000C000000000, 0x80000000000000000000000000000000000000000000000000000000000000000007, 0x30⟩

theorem Runs.execFinish {G : Foot} {z s : State} (h : Does G z s) (hg : Foot.execFinish.leB G = true) (t : Nat) (m : FacMsg) (k : Nat) (ok : Bool) : Runs G z (execFinish t m k ok s) := by
  unfold Sys2Proof.Machine.execFinish
  with_reducible repeat' first
    | assumption | refine Does.start ?_ _ | refine Does.facMsg ?_ (Foot.up hg (by decide)) _ _ (fun _ _ => ?_)
    | refine Does.spdmError ?_ (Foot.up hg (by decide)) _ | refine Does.sesSet ?_ (Foot.up hg (by decide)) _ _
    | refine Does.standard ?_ (Foot.up hg (by decide)) _ _ | refine Does.facErr ?_ (Foot.up hg (by decide)) _
    | refine Runs.next ?_ | refine Runs.ite ?_ ?_ | (dsimp -zeta only) | refine Does.ite ?_ ?_

def Foot.execSpdmHeartbeat : Foot := ⟨0x700400000000000000000000000000013020000C000000000, 0x7, 0x30⟩

theorem Runs.execSpdmHeartbeat {G : Foot} {z s : State} (h : Does G z s) (hg : Foot.execSpdmHeartbeat.leB G = true) (t : Nat) (m : FacMsg) : Runs G z (execSpdmHeartbeat t m s) := by
  unfold Sys2Proof.Machine.execSpdmHeartbeat
  with_reducible repeat' first
    | assumption | refine Does.start ?_ _ | refine Does.facMsg ?_ (Foot.up hg (by decide)) _ _ (fun _ _ => ?_)
    | refine Does.inSession ?_ (Foot.up hg (by decide)) _ _ (fun _ _ _ => ?_)
    | refine Does.standard ?_ (Foot.up hg (by decide)) _ _ | refine Runs.next ?_

def Foot.execSpdmKeyUpdate : Foot := ⟨0x700400000000000000000000000000013020000C000000000, 0x10000000000000000000000000000000000000000000000000000000000000000000000000007, 0x30⟩

theorem Runs.execSpdmKeyUpdate {G : Foot} {z s : State} (h : Does G z s) (hg : Foot.execSpdmKeyUpdate.leB G = true) (t : Nat) (m : FacMsg) (op : Nat) : Runs G z (execSpdmKeyUpdate t m op s) := by
  unfold Sys2Proof.Machine.execSpdmKeyUpdate
  with_reducible repeat' first
    | assumption | refine Does.start ?_ _ | (refine Does.when ?_ _ _ fun _ _ => ?_)
    | refine Does.facMsg ?_ (Foot.up hg (by decide)) _ _ (fun _ _ => ?_)
    | refine Does.inSession ?_ (Foot.up hg (by decide)) _ _ (fun _ _ _ => ?_)
    | refine Does.spdmError ?_ (Foot.up hg (by decide)) _ | refine Does.addV ?_ ?_ _ _ _
    | refine Does.standard ?_ (Foot.up hg (by decide)) _ _ | refine Runs.next ?_ | refine Runs.ite ?_ ?_
    | exact Foot.upV hg (by decide) | (dsimp -zeta only) | refine Does.ite ?_ ?_

def Foot.execEndSession : Foot := ⟨0x700400000000000000000000000000013020000C000000000, 0x80000000000000000000000000000000000000000000000000000000000000000007, 0x30⟩

theorem Runs.execEndSession {G : Foot} {z s : State} (h : Does G z s) (hg : Foot.execEndSession.leB G = true) (t : Nat) (m : FacMsg) : Runs G z (execEndSession t m s) := by
  unfold Sys2Proof.Machine.execEndSession
  with_reducible repeat' first
    | assumption | refine Does.start ?_ _ | refine Does.facMsg ?_ (Foot.up hg (by decide)) _ _ (fun _ _ => ?_)
    | refine Does.inSession ?_ (Foot.up hg (by decide)) _ _ (fun _ _ _ => ?_)
    | refine Does.sesSet ?_ (Foot.up hg (by decide)) _ _ | refine Does.standard ?_ (Foot.up hg (by decide)) _ _
    | refine Runs.next ?_

def Foot.execPmbPage : Foot := ⟨0x700400000000000000000000000000013020000C000000000, 0x20000000000000000000000000000000000000000000000000000000000000000007, 0x30⟩

theorem Runs.execPmbPage {G : Foot} {z s : State} (h : Does G z s) (hg : Foot.execPmbPage.leB G = true) (t : Nat) (pec : Bool) (w : Option Nat) : Runs G z (execPmbPage t pec w s) := by
  unfold Sys2Proof.Machine.execPmbPage
  with_reducible repeat' first
    | assumption | refine Does.setV ?_ ?_ _ _ _ | refine Does.emit ?_ _ | refine Does.start ?_ _
    | refine Does.pmbus ?_ (Foot.up hg (by decide)) _ _ (fun _ _ => ?_) | refine Does.facSend ?_ (Foot.up hg (by decide)) _
    | refine Runs.next ?_ | refine Runs.ite ?_ ?_ | exact Foot.upV hg (by decide) | (dsimp -zeta only) | refine Does.ite ?_ ?_
    | refine Does.ite_snd ?_ ?_ | refine Foot.pick ?_ ?_ | split

def Foot.execVoutMode : Foot := ⟨0x700400000000000000000000000000013020000C000000000, 0x7, 0x30⟩

theorem Runs.execVoutMode {G : Foot} {z s : State} (h : Does G z s) (hg : Foot.execVoutMode.leB G = true) (t : Nat) (pec : Bool) : Runs G z (execVoutMode t pec s) := by
  unfold Sys2Proof.Machine.execVoutMode
  with_reducible repeat' first
    | assumption | refine Does.emit ?_ _ | refine Does.start ?_ _
    | refine Does.pmbus ?_ (Foot.up hg (by decide)) _ _ (fun _ _ => ?_) | refine Does.facSend ?_ (Foot.up hg (by decide)) _
    | refine Runs.next ?_ | refine Runs.ite ?_ ?_ | (dsimp -zeta only) | refine Does.ite ?_ ?_

def Foot.execReadVout : Foot := ⟨0x700400000000000000000000000000013020000C000000000, 0x7, 0x30⟩

theorem Runs.execReadVout {G : Foot} {z s : State} (h : Does G z s) (hg : Foot.execReadVout.leB G = true) (t : Nat) (pec : Bool) : Runs G z (execReadVout t pec s) := by
  unfold Sys2Proof.Machine.execReadVout
  with_reducible repeat' first
    | assumption | refine Does.emit ?_ _ | refine Does.start ?_ _
    | refine Does.pmbus ?_ (Foot.up hg (by decide)) _ _ (fun _ _ => ?_) | refine Does.pmbWord ?_ (Foot.up hg (by decide)) _
    | refine Runs.next ?_ | refine Runs.ite ?_ ?_ | (dsimp -zeta only) | refine Does.ite ?_ ?_

def Foot.execReadIout : Foot := ⟨0x700400000000000000000000000000013020000C000000000, 0x7, 0x30⟩

theorem Runs.execReadIout {G : Foot} {z s : State} (h : Does G z s) (hg : Foot.execReadIout.leB G = true) (t : Nat) (pec : Bool) : Runs G z (execReadIout t pec s) := by
  unfold Sys2Proof.Machine.execReadIout
  with_reducible repeat' first
    | assumption | refine Does.emit ?_ _ | refine Does.start ?_ _
    | refine Does.pmbus ?_ (Foot.up hg (by decide)) _ _ (fun _ _ => ?_) | refine Does.pmbWord ?_ (Foot.up hg (by decide)) _
    | refine Runs.next ?_ | refine Runs.ite ?_ ?_ | (dsimp -zeta only) | refine Does.ite ?_ ?_

def Foot.execReadPout : Foot := ⟨0x700400000000000000000000000000013020000C000000000, 0x7, 0x30⟩

theorem Runs.execReadPout {G : Foot} {z s : State} (h : Does G z s) (hg : Foot.execReadPout.leB G = true) (t : Nat) (pec : Bool) : Runs G z (execReadPout t pec s) := by
  unfold Sys2Proof.Machine.execReadPout
  with_reducible repeat' first
    | assumption | refine Does.emit ?_ _ | refine Does.start ?_ _
    | refine Does.pmbus ?_ (Foot.up hg (by decide)) _ _ (fun _ _ => ?_) | refine Does.pmbWord ?_ (Foot.up hg (by decide)) _
    | refine Runs.next ?_ | refine Runs.ite ?_ ?_ | (dsimp -zeta only) | refine Does.ite ?_ ?_

def Foot.execReadTemperature1 : Foot := ⟨0x700400000000000000000000000000013020000C000000000, 0x7, 0x40030⟩

theorem Runs.execReadTemperature1 {G : Foot} {z s : State} (h : Does G z s) (hg : Foot.execReadTemperature1.leB G = true) (t : Nat) (pec : Bool) : Runs G z (execReadTemperature1 t pec s) := by
  unfold Sys2Proof.Machine.execReadTemperature1
  with_reducible repeat' first
    | assumption
    | (extract_lets +onlyGivenNames a; first | (refine (fun (k : Does G z a) => ?_) ?_; rotate_left; unfold a; clear a; rotate_left; clear_value a; revert a; intros) | (clear_value a; revert a; intros))
    | refine Does.emit ?_ _ | refine Does.start ?_ _ | refine Does.freshFree ?_ (Foot.upP hg (by decide))
    | refine Does.pmbus ?_ (Foot.up hg (by decide)) _ _ (fun _ _ => ?_) | refine Does.pmbWord ?_ (Foot.up hg (by decide)) _
    | refine Runs.next ?_ | refine Runs.ite ?_ ?_ | (dsimp -zeta only) | refine Does.ite ?_ ?_ | refine Does.ite_snd ?_ ?_
    | refine Foot.pick ?_ ?_ | split

def Foot.execMfrFacilityCapWrite : Foot := ⟨0x340700400000000000000000000000001013020000C000000000, 0x70C001000000000000000000000000000000000000000007, 0x30⟩

theorem Runs.execMfrFacilityCapWrite {G : Foot} {z s : State} (h : Does G z s) (hg : Foot.execMfrFacilityCapWrite.leB G = true) (t : Nat) (pec : Bool) (w : Nat) : Runs G z (execMfrFacilityCapWrite t pec w s) := by
  unfold Sys2Proof.Machine.execMfrFacilityCapWrite
  with_reducible repeat' first
    | assumption
    | (extract_lets +onlyGivenNames a; first | (refine (fun (k : Does G z a) => ?_) ?_; rotate_left; unfold a; clear a; rotate_left; clear_value a; revert a; intros) | (clear_value a; revert a; intros))
    | refine Does.emit ?_ _ | refine Does.start ?_ _ | (refine Does.each ?_ _ _ fun _ _ _ _ => ?_)
    | refine Does.pmbus ?_ (Foot.up hg (by decide)) _ _ (fun _ _ => ?_) | refine Does.wrI ?_ ?_ _ _ _
    | refine Does.leaseCheck ?_ (Foot.up hg (by decide)) | refine Runs.next ?_ | refine Runs.ite ?_ ?_
    | exact Foot.upR hg (by decide) | (dsimp -zeta only) | refine Does.ite ?_ ?_

def Foot.execMfrFacilityCapRead : Foot := ⟨0x700400000000000000000000000000013020000C000000000, 0x7, 0x30⟩

theorem Runs.execMfrFacilityCapRead {G : Foot} {z s : State} (h : Does G z s) (hg : Foot.execMfrFacilityCapRead.leB G = true) (t : Nat) (pec : Bool) : Runs G z (execMfrFacilityCapRead t pec s) := by
  unfold Sys2Proof.Machine.execMfrFacilityCapRead
  with_reducible repeat' first
    | assumption
    | (extract_lets +onlyGivenNames a; first | (refine (fun (k : Does G z a) => ?_) ?_; rotate_left; unfold a; clear a; rotate_left; clear_value a; revert a; intros) | (clear_value a; revert a; intros))
    | refine Does.emit ?_ _ | refine Does.start ?_ _ | refine Does.pmbus ?_ (Foot.up hg (by decide)) _ _ (fun _ _ => ?_)
    | refine Does.pmbWord ?_ (Foot.up hg (by decide)) _ | refine Runs.next ?_ | refine Runs.ite ?_ ?_ | (dsimp -zeta only)
    | refine Does.ite ?_ ?_ | refine Does.ite_snd ?_ ?_ | refine Foot.pick ?_ ?_ | split

def Foot.execSetdasa : Foot := ⟨0x4000000000, 0x100000000000000000000000000000000000000000000000000000000000000000000, 0⟩

theorem Runs.execSetdasa {G : Foot} {z s : State} (h : Does G z s) (hg : Foot.execSetdasa.leB G = true) (t : Nat) (sa : Nat) (da : Nat) (ibi : Bool) : Runs G z (execSetdasa t sa da ibi s) := by
  unfold Sys2Proof.Machine.execSetdasa
  with_reducible repeat' first
    | assumption
    | (extract_lets +onlyGivenNames a; first | (refine (fun (k : Does G z a) => ?_) ?_; rotate_left; unfold a; clear a; rotate_left; clear_value a; revert a; intros) | (clear_value a; revert a; intros))
    | refine Does.emit ?_ _ | refine Does.start ?_ _ | refine Does.dynAddr ?_ (Foot.up hg (by decide)) _ _
    | refine Runs.next ?_ | refine Runs.ite ?_ ?_ | (dsimp -zeta only) | refine Does.ite ?_ ?_

def Foot.execEntdaa : Foot := ⟨0x4000000000, 0x100000000000000000000000000000000000000000000000000000000000000000000, 0⟩

theorem Runs.execEntdaa {G : Foot} {z s : State} (h : Does G z s) (hg : Foot.execEntdaa.leB G = true) (t : Nat) (da : Nat) (won : Bool) (ibi : Bool) : Runs G z (execEntdaa t da won ibi s) := by
  unfold Sys2Proof.Machine.execEntdaa
  with_reducible repeat' first
    | assumption
    | (extract_lets +onlyGivenNames a; first | (refine (fun (k : Does G z a) => ?_) ?_; rotate_left; unfold a; clear a; rotate_left; clear_value a; revert a; intros) | (clear_value a; revert a; intros))
    | refine Does.emit ?_ _ | refine Does.start ?_ _ | refine Does.facSend ?_ (Foot.up hg (by decide)) _
    | refine Does.dynAddr ?_ (Foot.up hg (by decide)) _ _ | refine Runs.next ?_ | refine Runs.ite ?_ ?_ | (dsimp -zeta only)
    | refine Does.ite ?_ ?_

def Foot.execAlertResponseAddress : Foot := ⟨0, 0, 0⟩

theorem Runs.execAlertResponseAddress {G : Foot} {z s : State} (h : Does G z s) (hg : Foot.execAlertResponseAddress.leB G = true) (t : Nat) : Runs G z (execAlertResponseAddress t s) := by
  unfold Sys2Proof.Machine.execAlertResponseAddress
  with_reducible repeat' first
    | assumption
    | (extract_lets +onlyGivenNames a; first | (refine (fun (k : Does G z a) => ?_) ?_; rotate_left; unfold a; clear a; rotate_left; clear_value a; revert a; intros) | (clear_value a; revert a; intros))
    | refine Does.emit ?_ _ | refine Does.start ?_ _ | refine Does.facSend ?_ (Foot.up hg (by decide)) _ | refine Runs.next ?_
    | refine Runs.ite ?_ ?_ | (dsimp -zeta only) | refine Does.ite ?_ ?_


end Sys2Proof.Machine
end

