-- ==== Sys2Proof/Laws/Start.lean ====
section
/-!
SUPPORT. What a state shows does not depend on the stamp at which a command starts.
-/
namespace Sys2Proof.Machine

variable {s : State} {t0 : Nat}

@[simp] theorem State.rdI_start (f : Fld) (i j : Nat) : (s.start t0).rdI f i j = s.rdI f i j := rfl
@[simp] theorem State.item?_start (sec key idx : Nat) : (s.start t0).item? sec key idx = s.item? sec key idx := rfl
@[simp] theorem State.par_start (sec key idx off len dflt : Nat) : (s.start t0).par sec key idx off len dflt = s.par sec key idx off len dflt := rfl
@[simp] theorem State.parI_start (sec key idx off len : Nat) (dflt : Int) : (s.start t0).parI sec key idx off len dflt = s.parI sec key idx off len dflt := rfl
@[simp] theorem State.tree_start : (s.start t0).tree = s.tree := rfl
@[simp] theorem State.insts_start : (s.start t0).insts = s.insts := rfl
@[simp] theorem State.rails_start : (s.start t0).rails = s.rails := rfl
@[simp] theorem State.loops_start : (s.start t0).loops = s.loops := rfl
@[simp] theorem State.dom?_start (d : Nat) : (s.start t0).dom? d = s.dom? d := rfl
@[simp] theorem State.hasDom_start (d : Nat) : (s.start t0).hasDom d = s.hasDom d := rfl
@[simp] theorem State.parent_start (d : Nat) : (s.start t0).parent d = s.parent d := rfl
@[simp] theorem State.children_start (d : Nat) : (s.start t0).children d = s.children d := rfl
@[simp] theorem State.childPos_start (d : Nat) : (s.start t0).childPos d = s.childPos d := rfl
@[simp] theorem State.railmask_start (d : Nat) : (s.start t0).railmask d = s.railmask d := rfl
@[simp] theorem State.leaves_start : (s.start t0).leaves = s.leaves := rfl
@[simp] theorem State.nodes_start : (s.start t0).nodes = s.nodes := rfl
@[simp] theorem State.path_start (d : Nat) : (s.start t0).path d = s.path d := rfl
@[simp] theorem State.beneath_start (d top : Nat) : (s.start t0).beneath d top = s.beneath d top := rfl
@[simp] theorem State.subtree_start (top : Nat) : (s.start t0).subtree top = s.subtree top := rfl
@[simp] theorem State.rail?_start (r : Nat) : (s.start t0).rail? r = s.rail? r := rfl
@[simp] theorem State.monitored_start (r : Nat) : (s.start t0).monitored r = s.monitored r := rfl
@[simp] theorem State.loop?_start (l : Nat) : (s.start t0).loop? l = s.loop? l := rfl
@[simp] theorem State.inst?_start (typ logical : Nat) : (s.start t0).inst? typ logical = s.inst? typ logical := rfl
@[simp] theorem State.instsOf_start (typ owner : Nat) : (s.start t0).instsOf typ owner = s.instsOf typ owner := rfl
@[simp] theorem State.logicalOf_start (typ leaf port : Nat) : (s.start t0).logicalOf typ leaf port = s.logicalOf typ leaf port := rfl
@[simp] theorem State.portsOf_start (typ leaf : Nat) : (s.start t0).portsOf typ leaf = s.portsOf typ leaf := rfl
@[simp] theorem State.mirrorOn_start : (s.start t0).mirrorOn = s.mirrorOn := rfl
@[simp] theorem State.begun_start : (s.start t0).begun = s.begun := rfl
@[simp] theorem State.accepted_start : (s.start t0).accepted = s.accepted := rfl
@[simp] theorem State.trcState_start : (s.start t0).trcState = s.trcState := rfl
@[simp] theorem State.trcUnsent_start : (s.start t0).trcUnsent = s.trcUnsent := rfl
@[simp] theorem State.markData_start (cause : Nat) : (s.start t0).markData cause = s.markData cause := rfl
@[simp] theorem State.trcOff_start : (s.start t0).trcOff = s.trcOff := rfl
@[simp] theorem State.trcClk_start : (s.start t0).trcClk = s.trcClk := rfl
@[simp] theorem State.trcClassEn_start (k : Nat) : (s.start t0).trcClassEn k = s.trcClassEn k := rfl
@[simp] theorem State.findSrc_start (code inst : Nat) : (s.start t0).findSrc code inst = s.findSrc code inst := rfl
@[simp] theorem State.srcDefined_start (k : Nat) : (s.start t0).srcDefined k = s.srcDefined k := rfl
@[simp] theorem State.srcLevel_start (k : Nat) : (s.start t0).srcLevel k = s.srcLevel k := rfl
@[simp] theorem State.grpMembers_start (g : Nat) : (s.start t0).grpMembers g = s.grpMembers g := rfl
@[simp] theorem State.alertLow_start : (s.start t0).alertLow = s.alertLow := rfl
@[simp] theorem State.trigEntries_start (code inst : Nat) : (s.start t0).trigEntries code inst = s.trigEntries code inst := rfl
@[simp] theorem State.isNmi_start (k : Nat) : (s.start t0).isNmi k = s.isNmi k := rfl
@[simp] theorem State.groupPri_start (k : Nat) : (s.start t0).groupPri k = s.groupPri k := rfl
@[simp] theorem State.subPri_start (k : Nat) : (s.start t0).subPri k = s.subPri k := rfl
@[simp] theorem State.stackOf_start (t : Nat) : (s.start t0).stackOf t = s.stackOf t := rfl
@[simp] theorem State.running_start (t : Nat) : (s.start t0).running t = s.running t := rfl
@[simp] theorem State.presentable_start (t k : Nat) : (s.start t0).presentable t k = s.presentable t k := rfl
@[simp] theorem State.moreUrgent_start (a b : Nat) : (s.start t0).moreUrgent a b = s.moreUrgent a b := rfl
@[simp] theorem State.srcNums_start : (s.start t0).srcNums = s.srcNums := rfl
@[simp] theorem State.selectSrc_start (t : Nat) : (s.start t0).selectSrc t = s.selectSrc t := rfl
@[simp] theorem State.frozen_start (t : Nat) : (s.start t0).frozen t = s.frozen t := rfl
@[simp] theorem State.stackFull_start (t : Nat) : (s.start t0).stackFull t = s.stackFull t := rfl
@[simp] theorem State.irqLow_start (t : Nat) : (s.start t0).irqLow t = s.irqLow t := rfl
@[simp] theorem State.nmiPending_start (t : Nat) : (s.start t0).nmiPending t = s.nmiPending t := rfl
@[simp] theorem State.nmiLow_start (t : Nat) : (s.start t0).nmiLow t = s.nmiLow t := rfl
@[simp] theorem State.bgOpen_start (act : Nat) : (s.start t0).bgOpen act = s.bgOpen act := rfl
@[simp] theorem State.recN_start (n : Nat) : (s.start t0).recN n = s.recN n := rfl
@[simp] theorem State.recFree_start (n : Nat) : (s.start t0).recFree n = s.recFree n := rfl
@[simp] theorem State.recRoom_start (n typ : Nat) : (s.start t0).recRoom n typ = s.recRoom n typ := rfl
@[simp] theorem State.recAddr_start (n : Nat) : (s.start t0).recAddr n = s.recAddr n := rfl
@[simp] theorem State.lossReady_start : (s.start t0).lossReady = s.lossReady := rfl
@[simp] theorem State.recRoute_start (typ : Nat) : (s.start t0).recRoute typ = s.recRoute typ := rfl
@[simp] theorem State.recPhase_start (c : Nat) : (s.start t0).recPhase c = s.recPhase c := rfl
@[simp] theorem State.ch_start (e : ChEnd) (f : Fld) : (s.start t0).ch e f = s.ch e f := rfl
@[simp] theorem State.chSt_start (e : ChEnd) : (s.start t0).chSt e = s.chSt e := rfl
@[simp] theorem State.endChild_start (e : ChEnd) : (s.start t0).endChild e = s.endChild e := rfl
@[simp] theorem State.parentEnd_start (d : Nat) : (s.start t0).parentEnd d = s.parentEnd d := rfl
@[simp] theorem State.farEnd_start (e : ChEnd) : (s.start t0).farEnd e = s.farEnd e := rfl
@[simp] theorem State.childEnds_start (d : Nat) : (s.start t0).childEnds d = s.childEnds d := rfl
@[simp] theorem State.canSend_start (e : ChEnd) (typ : Nat) : (s.start t0).canSend e typ = s.canSend e typ := rfl
@[simp] theorem State.delivers_start (e : ChEnd) (tag : Nat) : (s.start t0).delivers e tag = s.delivers e tag := rfl
@[simp] theorem State.pathUpTo_start (d : Nat) : (s.start t0).pathUpTo d = s.pathUpTo d := rfl
@[simp] theorem State.childUp_start (d : Nat) : (s.start t0).childUp d = s.childUp d := rfl
@[simp] theorem State.hop_start (x d : Nat) : (s.start t0).hop x d = s.hop x d := rfl
@[simp] theorem State.endInst_start (e : ChEnd) : (s.start t0).endInst e = s.endInst e := rfl
@[simp] theorem State.helloPayload_start (e : ChEnd) (epoch reason : Nat) : (s.start t0).helloPayload e epoch reason = s.helloPayload e epoch reason := rfl
@[simp] theorem State.pend?_start (e : ChEnd) (reqid : Nat) : (s.start t0).pend? e reqid = s.pend? e reqid := rfl
@[simp] theorem State.pendFull_start (e : ChEnd) : (s.start t0).pendFull e = s.pendFull e := rfl
@[simp] theorem State.freeReqid_start (e : ChEnd) : (s.start t0).freeReqid e = s.freeReqid e := rfl
@[simp] theorem State.coeff?_start (leaf c : Nat) : (s.start t0).coeff? leaf c = s.coeff? leaf c := rfl
@[simp] theorem State.leakTab?_start (leaf r : Nat) : (s.start t0).leakTab? leaf r = s.leakTab? leaf r := rfl
@[simp] theorem State.bindings_start (leaf : Nat) : (s.start t0).bindings leaf = s.bindings leaf := rfl
@[simp] theorem State.leafRails_start (leaf : Nat) : (s.start t0).leafRails leaf = s.leafRails leaf := rfl
@[simp] theorem State.railSlot_start (leaf r : Nat) : (s.start t0).railSlot leaf r = s.railSlot leaf r := rfl
@[simp] theorem State.leafV_start (leaf k : Nat) : (s.start t0).leafV leaf k = s.leafV leaf k := rfl
@[simp] theorem State.vref_start : (s.start t0).vref = s.vref := rfl
@[simp] theorem State.estQ_start (leaf k : Nat) : (s.start t0).estQ leaf k = s.estQ leaf k := rfl
@[simp] theorem State.leafTheta_start (leaf k g : Nat) : (s.start t0).leafTheta leaf k g = s.leafTheta leaf k g := rfl
@[simp] theorem State.repActs_start (leaf : Nat) (x : Rep) : (s.start t0).repActs leaf x = s.repActs leaf x := rfl
@[simp] theorem State.slotEst_start (leaf r k : Nat) (bs : List (Nat × Nat × Nat × Int)) (acts : List Act) : (s.start t0).slotEst leaf r k bs acts = s.slotEst leaf r k bs acts := rfl
@[simp] theorem State.leafGroups_start (leaf r : Nat) : (s.start t0).leafGroups leaf r = s.leafGroups leaf r := rfl
@[simp] theorem State.leavesIn_start (d : Nat) : (s.start t0).leavesIn d = s.leavesIn d := rfl
@[simp] theorem State.domRails_start (d : Nat) : (s.start t0).domRails d = s.domRails d := rfl
@[simp] theorem State.estHas_start (child rail slot : Nat) : (s.start t0).estHas child rail slot = s.estHas child rail slot := rfl
@[simp] theorem State.estOf_start (child rail slot : Nat) : (s.start t0).estOf child rail slot = s.estOf child rail slot := rfl
@[simp] theorem State.estAll_start (d slot : Nat) : (s.start t0).estAll d slot = s.estAll d slot := rfl
@[simp] theorem State.estMissing_start (d slot : Nat) : (s.start t0).estMissing d slot = s.estMissing d slot := rfl
@[simp] theorem State.leafDepth_start (d : Nat) : (s.start t0).leafDepth d = s.leafDepth d := rfl
@[simp] theorem State.estSumOf_start (d r slot : Nat) : (s.start t0).estSumOf d r slot = s.estSumOf d r slot := rfl
@[simp] theorem State.guard_start (r : Nat) (x : Int) : (s.start t0).guard r x = s.guard r x := rfl
@[simp] theorem State.fuseIn_start (r slot : Nat) : (s.start t0).fuseIn r slot = s.fuseIn r slot := rfl
@[simp] theorem State.fFast_start (r slot : Nat) (e : Int) : (s.start t0).fFast r slot e = s.fFast r slot e := rfl
@[simp] theorem State.railNums_start : (s.start t0).railNums = s.railNums := rfl
@[simp] theorem State.railPhases_start (r : Nat) : (s.start t0).railPhases r = s.railPhases r := rfl
@[simp] theorem State.railLeaves_start (r : Nat) : (s.start t0).railLeaves r = s.railLeaves r := rfl
@[simp] theorem State.thetaQ_start (r g : Nat) : (s.start t0).thetaQ r g = s.thetaQ r g := rfl
@[simp] theorem State.thetaWord_start (r : Nat) (hi : Bool) : (s.start t0).thetaWord r hi = s.thetaWord r hi := rfl
@[simp] theorem State.phaseMeans_start (r j : Nat) : (s.start t0).phaseMeans r j = s.phaseMeans r j := rfl
@[simp] theorem State.pgWasLow_start (r j : Nat) : (s.start t0).pgWasLow r j = s.pgWasLow r j := rfl
@[simp] theorem State.invCauses_start (r j : Nat) : (s.start t0).invCauses r j = s.invCauses r j := rfl
@[simp] theorem State.kneadSkip_start (r w : Nat) : (s.start t0).kneadSkip r w = s.kneadSkip r w := rfl
@[simp] theorem State.grpExpects_start (child r g : Nat) : (s.start t0).grpExpects child r g = s.grpExpects child r g := rfl
@[simp] theorem State.budget_start (d cls rail : Nat) : (s.start t0).budget d cls rail = s.budget d cls rail := rfl
@[simp] theorem State.sp_start (d k : Nat) (f : Fld) : (s.start t0).sp d k f = s.sp d k f := rfl
@[simp] theorem State.upChildren_start (d : Nat) : (s.start t0).upChildren d = s.upChildren d := rfl
@[simp] theorem State.sent?_start (child cls rail : Nat) : (s.start t0).sent? child cls rail = s.sent? child cls rail := rfl
@[simp] theorem State.railWeight_start (d child r : Nat) : (s.start t0).railWeight d child r = s.railWeight d child r := rfl
@[simp] theorem State.railSplit_start (d r b : Nat) : (s.start t0).railSplit d r b = s.railSplit d r b := rfl
@[simp] theorem State.gates_start (leaf : Nat) : (s.start t0).gates leaf = s.gates leaf := rfl
@[simp] theorem State.cores_start (leaf : Nat) : (s.start t0).cores leaf = s.cores leaf := rfl
@[simp] theorem State.subGates_start (leaf : Nat) : (s.start t0).subGates leaf = s.subGates leaf := rfl
@[simp] theorem State.sgEn_start (leaf q : Nat) : (s.start t0).sgEn leaf q = s.sgEn leaf q := rfl
@[simp] theorem State.sgQuarters_start (leaf q : Nat) : (s.start t0).sgQuarters leaf q = s.sgQuarters leaf q := rfl
@[simp] theorem State.sgPart_start (leaf q : Nat) : (s.start t0).sgPart leaf q = s.sgPart leaf q := rfl
@[simp] theorem State.sgFault_start (leaf q : Nat) : (s.start t0).sgFault leaf q = s.sgFault leaf q := rfl
@[simp] theorem State.sgRest_start (leaf q : Nat) : (s.start t0).sgRest leaf q = s.sgRest leaf q := rfl
@[simp] theorem State.mode_start : (s.start t0).mode = s.mode := rfl
@[simp] theorem State.levelLimit_start (leaf : Nat) : (s.start t0).levelLimit leaf = s.levelLimit leaf := rfl
@[simp] theorem State.safeLimit_start (leaf : Nat) : (s.start t0).safeLimit leaf = s.safeLimit leaf := rfl
@[simp] theorem State.safeFmax_start (leaf : Nat) : (s.start t0).safeFmax leaf = s.safeFmax leaf := rfl
@[simp] theorem State.rstCond_start (leaf : Nat) : (s.start t0).rstCond leaf = s.rstCond leaf := rfl
@[simp] theorem State.crustStop_start : (s.start t0).crustStop = s.crustStop := rfl
@[simp] theorem State.gateSources_start (leaf q : Nat) : (s.start t0).gateSources leaf q = s.gateSources leaf q := rfl
@[simp] theorem State.cycles64_start (leaf dt : Nat) : (s.start t0).cycles64 leaf dt = s.cycles64 leaf dt := rfl
@[simp] theorem State.issueAsleep_start (leaf : Nat) : (s.start t0).issueAsleep leaf = s.issueAsleep leaf := rfl
@[simp] theorem State.issueEn_start (leaf q i rows : Nat) : (s.start t0).issueEn leaf q i rows = s.issueEn leaf q i rows := rfl
@[simp] theorem State.latSplit_start (l c num : Nat) : (s.start t0).latSplit l c num = s.latSplit l c num := rfl
@[simp] theorem State.latPart_start (l c stamp : Nat) : (s.start t0).latPart l c stamp = s.latPart l c stamp := rfl
@[simp] theorem State.sgCtx_start (l q : Nat) : (s.start t0).sgCtx l q = s.sgCtx l q := rfl
@[simp] theorem State.selF_start (l k : Nat) (f : Fld) (stamp : Nat) : (s.start t0).selF l k f stamp = s.selF l k f stamp := rfl
@[simp] theorem State.selsOf_start (l code stamp : Nat) : (s.start t0).selsOf l code stamp = s.selsOf l code stamp := rfl
@[simp] theorem State.selsAt_start (l code p stamp : Nat) : (s.start t0).selsAt l code p stamp = s.selsAt l code p stamp := rfl
@[simp] theorem State.sgWaits_start (l q : Nat) : (s.start t0).sgWaits l q = s.sgWaits l q := rfl
@[simp] theorem State.actCtx_start (l : Nat) (a : Act) : (s.start t0).actCtx l a = s.actCtx l a := rfl
@[simp] theorem State.coreFmax_start (leaf p k : Nat) : (s.start t0).coreFmax leaf p k = s.coreFmax leaf p k := rfl
@[simp] theorem State.coreSources_start (leaf p : Nat) : (s.start t0).coreSources leaf p = s.coreSources leaf p := rfl
@[simp] theorem State.unitEnergy_start (leaf : Nat) (ks : List Nat) (c : Nat) : (s.start t0).unitEnergy leaf ks c = s.unitEnergy leaf ks c := rfl
@[simp] theorem State.epsCold_start (leaf : Nat) (ks : List Nat) : (s.start t0).epsCold leaf ks = s.epsCold leaf ks := rfl
@[simp] theorem State.epsSub_start (leaf q : Nat) (ks : List Nat) : (s.start t0).epsSub leaf q ks = s.epsSub leaf q ks := rfl
@[simp] theorem State.engineRate_start (leaf : Nat) : (s.start t0).engineRate leaf = s.engineRate leaf := rfl
@[simp] theorem State.sgRate_start (leaf q : Nat) : (s.start t0).sgRate leaf q = s.sgRate leaf q := rfl
@[simp] theorem State.pfull_start (leaf q c : Nat) : (s.start t0).pfull leaf q c = s.pfull leaf q c := rfl
@[simp] theorem State.fixedRail_start (leaf k : Nat) : (s.start t0).fixedRail leaf k = s.fixedRail leaf k := rfl
@[simp] theorem State.sgIn_start (leaf : Nat) : (s.start t0).sgIn leaf = s.sgIn leaf := rfl
@[simp] theorem State.partShares_start (leaf c a : Nat) : (s.start t0).partShares leaf c a = s.partShares leaf c a := rfl
@[simp] theorem State.sgShare_start (leaf q c : Nat) (part : Nat) : (s.start t0).sgShare leaf q c part = s.sgShare leaf q c part := rfl
@[simp] theorem State.leafClasses_start (leaf : Nat) : (s.start t0).leafClasses leaf = s.leafClasses leaf := rfl
@[simp] theorem State.coreStopped_start (leaf p : Nat) : (s.start t0).coreStopped leaf p = s.coreStopped leaf p := rfl
@[simp] theorem State.epsCore_start (leaf p : Nat) : (s.start t0).epsCore leaf p = s.epsCore leaf p := rfl
@[simp] theorem State.loopP_start (l : Nat) : (s.start t0).loopP l = s.loopP l := rfl
@[simp] theorem State.nominalFrom_start (l a : Nat) : (s.start t0).nominalFrom l a = s.nominalFrom l a := rfl
@[simp] theorem State.loopSt_start (l : Nat) : (s.start t0).loopSt l = s.loopSt l := rfl
@[simp] theorem State.meanF_start (r n : Nat) : (s.start t0).meanF r n = s.meanF r n := rfl
@[simp] theorem State.meanA_start (d r n : Nat) : (s.start t0).meanA d r n = s.meanA d r n := rfl
@[simp] theorem State.railValue_start (r : Nat) (avg : Bool) (n : Nat) : (s.start t0).railValue r avg n = s.railValue r avg n := rfl
@[simp] theorem State.domPower_start (host d : Nat) (avg : Bool) (n : Nat) : (s.start t0).domPower host d avg n = s.domPower host d avg n := rfl
@[simp] theorem State.effSp_start (l : Nat) : (s.start t0).effSp l = s.effSp l := rfl
@[simp] theorem State.gtWord_start (r : Reg) (host t b : Nat) : (s.start t0).gtWord r host t b = s.gtWord r host t b := rfl
@[simp] theorem State.gt_start (l : Nat) (f : Fld) (b : Nat) : (s.start t0).gt l f b = s.gt l f b := rfl
@[simp] theorem State.gtI_start (l : Nat) (f : Fld) (b : Nat) : (s.start t0).gtI l f b = s.gtI l f b := rfl
@[simp] theorem State.band_start (l : Nat) (e : Int) : (s.start t0).band l e = s.band l e := rfl
@[simp] theorem State.leased_start (l : Nat) (mw : Int) : (s.start t0).leased l mw = s.leased l mw := rfl
@[simp] theorem State.engineStands_start (l : Nat) : (s.start t0).engineStands l = s.engineStands l := rfl
@[simp] theorem State.tickBefore_start (m l : Nat) : (s.start t0).tickBefore m l = s.tickBefore m l := rfl
@[simp] theorem State.loopEngine_start (l : Nat) : (s.start t0).loopEngine l = s.loopEngine l := rfl
@[simp] theorem State.loopsAt_start (d : Nat) : (s.start t0).loopsAt d = s.loopsAt d := rfl
@[simp] theorem State.loopReach_start (l : Nat) : (s.start t0).loopReach l = s.loopReach l := rfl
@[simp] theorem State.dxl?_start : (s.start t0).dxl? = s.dxl? := rfl
@[simp] theorem State.portSt_start (n : Nat) : (s.start t0).portSt n = s.portSt n := rfl
@[simp] theorem State.portUp_start (n : Nat) : (s.start t0).portUp n = s.portUp n := rfl
@[simp] theorem State.treeParent_start : (s.start t0).treeParent = s.treeParent := rfl
@[simp] theorem State.treeChildren_start : (s.start t0).treeChildren = s.treeChildren := rfl
@[simp] theorem State.treePorts_start : (s.start t0).treePorts = s.treePorts := rfl
@[simp] theorem State.lnk_start (key len dflt : Nat) : (s.start t0).lnk key len dflt = s.lnk key len dflt := rfl
@[simp] theorem State.leasePorts_start : (s.start t0).leasePorts = s.leasePorts := rfl
@[simp] theorem State.leaseAmt_start (n : Nat) : (s.start t0).leaseAmt n = s.leaseAmt n := rfl
@[simp] theorem State.lends_start (n : Nat) : (s.start t0).lends n = s.lends n := rfl
@[simp] theorem State.hubCommit_start (sel : Nat → Bool) : (s.start t0).hubCommit sel = s.hubCommit sel := rfl
@[simp] theorem State.needSum_start : (s.start t0).needSum = s.needSum := rfl
@[simp] theorem State.leaseWant_start : (s.start t0).leaseWant = s.leaseWant := rfl
@[simp] theorem State.leaseTrades_start : (s.start t0).leaseTrades = s.leaseTrades := rfl
@[simp] theorem State.lentPorts_start : (s.start t0).lentPorts = s.lentPorts := rfl
@[simp] theorem State.lseqNew_start (n q : Nat) : (s.start t0).lseqNew n q = s.lseqNew n q := rfl
@[simp] theorem State.engineHeld_start (l : Nat) : (s.start t0).engineHeld l = s.engineHeld l := rfl
@[simp] theorem State.latchLead_start : (s.start t0).latchLead = s.latchLead := rfl
@[simp] theorem State.latchOpenPts_start (c : Nat) : (s.start t0).latchOpenPts c = s.latchOpenPts c := rfl
@[simp] theorem State.latchSlot?_start (c k : Nat) : (s.start t0).latchSlot? c k = s.latchSlot? c k := rfl
@[simp] theorem State.latchPt?_start (n : Nat) : (s.start t0).latchPt? n = s.latchPt? n := rfl
@[simp] theorem State.latchDiff_start (c a b : Nat) : (s.start t0).latchDiff c a b = s.latchDiff c a b := rfl
@[simp] theorem State.cntKids_start : (s.start t0).cntKids = s.cntKids := rfl
@[simp] theorem State.strPar_start (key len dflt : Nat) : (s.start t0).strPar key len dflt = s.strPar key len dflt := rfl
@[simp] theorem State.learnShift_start : (s.start t0).learnShift = s.learnShift := rfl
@[simp] theorem State.weightMin_start : (s.start t0).weightMin = s.weightMin := rfl
@[simp] theorem State.weightMax_start : (s.start t0).weightMax = s.weightMax := rfl
@[simp] theorem State.leafBase_start (l : Nat) : (s.start t0).leafBase l = s.leafBase l := rfl
@[simp] theorem State.weightClamp_start (w : Int) : (s.start t0).weightClamp w = s.weightClamp w := rfl
@[simp] theorem State.foot_start (l c : Nat) : (s.start t0).foot l c = s.foot l c := rfl
@[simp] theorem State.footAll_start (c : Nat) : (s.start t0).footAll c = s.footAll c := rfl
@[simp] theorem State.domCeil_start (d : Nat) : (s.start t0).domCeil d = s.domCeil d := rfl
@[simp] theorem State.domFloor_start (d : Nat) : (s.start t0).domFloor d = s.domFloor d := rfl
@[simp] theorem State.domNeed_start (d : Nat) : (s.start t0).domNeed d = s.domNeed d := rfl
@[simp] theorem State.domWeight_start (d : Nat) : (s.start t0).domWeight d = s.domWeight d := rfl
@[simp] theorem State.slotUsable_start (c : Nat) : (s.start t0).slotUsable c = s.slotUsable c := rfl
@[simp] theorem State.lineP_start (c p r : Nat) : (s.start t0).lineP c p r = s.lineP c p r := rfl
@[simp] theorem State.entryNq_start (c p : Nat) : (s.start t0).entryNq c p = s.entryNq c p := rfl
@[simp] theorem State.slotNq_start (c : Nat) : (s.start t0).slotNq c = s.slotNq c := rfl
@[simp] theorem State.slotW_start (c : Nat) : (s.start t0).slotW c = s.slotW c := rfl
@[simp] theorem State.usableQ_start (l : Nat) : (s.start t0).usableQ l = s.usableQ l := rfl
@[simp] theorem State.leafNeed_start (l : Nat) : (s.start t0).leafNeed l = s.leafNeed l := rfl
@[simp] theorem State.slotLeaves_start (c : Nat) : (s.start t0).slotLeaves c = s.slotLeaves c := rfl
@[simp] theorem State.strBusy_start (c : Nat) : (s.start t0).strBusy c = s.strBusy c := rfl
@[simp] theorem State.smpP_start (c k : Nat) : (s.start t0).smpP c k = s.smpP c k := rfl
@[simp] theorem State.smpVisit_start (c k : Nat) : (s.start t0).smpVisit c k = s.smpVisit c k := rfl
@[simp] theorem State.stackPorts_start (l : Nat) : (s.start t0).stackPorts l = s.stackPorts l := rfl
@[simp] theorem State.sitesOf_start (d : Nat) : (s.start t0).sitesOf d = s.sitesOf d := rfl
@[simp] theorem State.bodiesOf_start (d : Nat) : (s.start t0).bodiesOf d = s.bodiesOf d := rfl
@[simp] theorem State.regOf_start (d : Nat) (k : RegKey) : (s.start t0).regOf d k = s.regOf d k := rfl
@[simp] theorem State.varOf_start (d : Nat) (k : VarKey) : (s.start t0).varOf d k = s.varOf d k := rfl
@[simp] theorem State.supplyRails_start (d : Nat) : (s.start t0).supplyRails d = s.supplyRails d := rfl
@[simp] theorem State.supplied_start (d : Nat) : (s.start t0).supplied d = s.supplied d := rfl
@[simp] theorem State.ownHold_start (d : Nat) : (s.start t0).ownHold d = s.ownHold d := rfl
@[simp] theorem State.rstHeld_start (d : Nat) : (s.start t0).rstHeld d = s.rstHeld d := rfl
@[simp] theorem State.railSt_start (r : Nat) : (s.start t0).railSt r = s.railSt r := rfl
@[simp] theorem State.railClamp_start (r : Nat) (x : Int) : (s.start t0).railClamp r x = s.railClamp r x := rfl
@[simp] theorem State.railItem?_start (key r : Nat) : (s.start t0).railItem? key r = s.railItem? key r := rfl
@[simp] theorem State.railPar_start (key r off len dflt : Nat) : (s.start t0).railPar key r off len dflt = s.railPar key r off len dflt := rfl
@[simp] theorem State.slewRate_start (r k : Nat) : (s.start t0).slewRate r k = s.slewRate r k := rfl
@[simp] theorem State.pgWin_start (r : Nat) : (s.start t0).pgWin r = s.pgWin r := rfl
@[simp] theorem State.pbMargin_start (r : Nat) : (s.start t0).pbMargin r = s.pbMargin r := rfl
@[simp] theorem State.pgDly_start (r : Nat) : (s.start t0).pgDly r = s.pgDly r := rfl
@[simp] theorem State.stopFloor_start (r : Nat) : (s.start t0).stopFloor r = s.stopFloor r := rfl
@[simp] theorem State.negLim_start (r : Nat) : (s.start t0).negLim r = s.negLim r := rfl
@[simp] theorem State.ipkLim_start (r : Nat) : (s.start t0).ipkLim r = s.ipkLim r := rfl
@[simp] theorem State.phIn_start (r st : Nat) : (s.start t0).phIn r st = s.phIn r st := rfl
@[simp] theorem State.phOn_start (r : Nat) : (s.start t0).phOn r = s.phOn r := rfl
@[simp] theorem State.phAt_start (r k : Nat) : (s.start t0).phAt r k = s.phAt r k := rfl
@[simp] theorem State.phPos_start (r p : Nat) : (s.start t0).phPos r p = s.phPos r p := rfl
@[simp] theorem State.phRail_start (p : Nat) : (s.start t0).phRail p = s.phRail p := rfl
@[simp] theorem State.offGrid_start (r : Nat) : (s.start t0).offGrid r = s.offGrid r := rfl
@[simp] theorem State.perTicks_start (r : Nat) : (s.start t0).perTicks r = s.perTicks r := rfl
@[simp] theorem State.startTarget_start (r : Nat) : (s.start t0).startTarget r = s.startTarget r := rfl
@[simp] theorem State.baseTarget_start (r : Nat) : (s.start t0).baseTarget r = s.baseTarget r := rfl
@[simp] theorem State.railCores_start (r : Nat) : (s.start t0).railCores r = s.railCores r := rfl
@[simp] theorem State.vfList_start (r : Nat) : (s.start t0).vfList r = s.vfList r := rfl
@[simp] theorem State.ddLeaf_start (d : Nat) : (s.start t0).ddLeaf d = s.ddLeaf d := rfl
@[simp] theorem State.leafDetectors_start (l : Nat) : (s.start t0).leafDetectors l = s.leafDetectors l := rfl
@[simp] theorem State.ctlRails_start : (s.start t0).ctlRails = s.ctlRails := rfl
@[simp] theorem State.shedOrder_start (r : Nat) : (s.start t0).shedOrder r = s.shedOrder r := rfl
@[simp] theorem State.issueRail_start (l : Nat) : (s.start t0).issueRail l = s.issueRail l := rfl
@[simp] theorem State.issueLeaves_start (r : Nat) : (s.start t0).issueLeaves r = s.issueLeaves r := rfl
@[simp] theorem State.ovuv_start (r off len dflt : Nat) : (s.start t0).ovuv r off len dflt = s.ovuv r off len dflt := rfl
@[simp] theorem State.railOc_start (r : Nat) : (s.start t0).railOc r = s.railOc r := rfl
@[simp] theorem State.shedReady_start (r tick : Nat) : (s.start t0).shedReady r tick = s.shedReady r tick := rfl
@[simp] theorem State.vrefs_start (l : Nat) : (s.start t0).vrefs l = s.vrefs l := rfl
@[simp] theorem State.lpHubWord_start (r : Reg) (l : Nat) : (s.start t0).lpHubWord r l = s.lpHubWord r l := rfl
@[simp] theorem State.gtOwners_start (t : Nat) : (s.start t0).gtOwners t = s.gtOwners t := rfl
@[simp] theorem State.gtNodes_start (t : Nat) : (s.start t0).gtNodes t = s.gtNodes t := rfl
@[simp] theorem State.copyNodes_start (a : Nat) : (s.start t0).copyNodes a = s.copyNodes a := rfl
@[simp] theorem State.creditLoad_start (l q eff : Nat) : (s.start t0).creditLoad l q eff = s.creditLoad l q eff := rfl
@[simp] theorem State.creditDebt_start (l q rows : Nat) : (s.start t0).creditDebt l q rows = s.creditDebt l q rows := rfl
@[simp] theorem State.ddPresent_start (d : Nat) : (s.start t0).ddPresent d = s.ddPresent d := rfl
@[simp] theorem State.ddLocal_start (d : Nat) : (s.start t0).ddLocal d = s.ddLocal d := rfl
@[simp] theorem State.objGen_start (o : Nat) : (s.start t0).objGen o = s.objGen o := rfl
@[simp] theorem State.objCount_start (o : Nat) : (s.start t0).objCount o = s.objCount o := rfl
@[simp] theorem State.objTarget_start (o : Nat) : (s.start t0).objTarget o = s.objTarget o := rfl
@[simp] theorem State.objType_start (o : Nat) : (s.start t0).objType o = s.objType o := rfl
@[simp] theorem State.objBar_start (o : Nat) : (s.start t0).objBar o = s.objBar o := rfl
@[simp] theorem State.objW_start (o : Nat) : (s.start t0).objW o = s.objW o := rfl
@[simp] theorem State.slotOf_start (o : Nat) : (s.start t0).slotOf o = s.slotOf o := rfl
@[simp] theorem State.lobjOf_start (o : Nat) : (s.start t0).lobjOf o = s.lobjOf o := rfl
@[simp] theorem State.shp_start (key r len dflt : Nat) : (s.start t0).shp key r len dflt = s.shp key r len dflt := rfl
@[simp] theorem State.stagger_start : (s.start t0).stagger = s.stagger := rfl
@[simp] theorem State.nextPhase_start (o c : Nat) : (s.start t0).nextPhase o c = s.nextPhase o c := rfl
@[simp] theorem State.stepQ_start (o c r : Nat) : (s.start t0).stepQ o c r = s.stepQ o c r := rfl
@[simp] theorem State.stepMa_start (r : Nat) (p : ℚ) : (s.start t0).stepMa r p = s.stepMa r p := rfl
@[simp] theorem State.nsub_start (c : Nat) : (s.start t0).nsub c = s.nsub c := rfl
@[simp] theorem State.riseStep_start (o c r : Nat) : (s.start t0).riseStep o c r = s.riseStep o c r := rfl
@[simp] theorem State.proofStep_start (o c r : Nat) (ws : List Watch) : (s.start t0).proofStep o c r ws = s.proofStep o c r ws := rfl
@[simp] theorem State.allRails_start : (s.start t0).allRails = s.allRails := rfl
@[simp] theorem State.riseLive_start (r : Nat) : (s.start t0).riseLive r = s.riseLive r := rfl
@[simp] theorem State.riseLead_start (r : Nat) : (s.start t0).riseLead r = s.riseLead r := rfl
@[simp] theorem State.tP_start (o : Nat) : (s.start t0).tP o = s.tP o := rfl
@[simp] theorem State.tS_start (o c : Nat) : (s.start t0).tS o c = s.tS o c := rfl
@[simp] theorem State.armed_start : (s.start t0).armed = s.armed := rfl
@[simp] theorem State.spans_start : (s.start t0).spans = s.spans := rfl
@[simp] theorem State.watchOwned_start (i : Nat) : (s.start t0).watchOwned i = s.watchOwned i := rfl
@[simp] theorem State.watchFree_start (pool : Option Nat) : (s.start t0).watchFree pool = s.watchFree pool := rfl
@[simp] theorem State.opFits_start (op o a0 a1 a2 : Nat) : (s.start t0).opFits op o a0 a1 a2 = s.opFits op o a0 a1 a2 := rfl
@[simp] theorem State.corePresent_start (a0 : Nat) : (s.start t0).corePresent a0 = s.corePresent a0 := rfl
@[simp] theorem State.genStatus_start (op o a1 : Nat) : (s.start t0).genStatus op o a1 = s.genStatus op o a1 := rfl
@[simp] theorem State.opShort_start (op o a0 a1 a2 : Nat) (w : Option Waiter) : (s.start t0).opShort op o a0 a1 a2 w = s.opShort op o a0 a1 a2 w := rfl
@[simp] theorem State.opStatus_start (bad : Bool) (op o a0 a1 a2 : Nat) (core : Bool) (w : Option Waiter) : (s.start t0).opStatus bad op o a0 a1 a2 core w = s.opStatus bad op o a0 a1 a2 core w := rfl
@[simp] theorem State.portObj_start (page : Option Nat) (obj : Nat) : (s.start t0).portObj page obj = s.portObj page obj := rfl
@[simp] theorem State.slotObjs_start (c : Nat) : (s.start t0).slotObjs c = s.slotObjs c := rfl
@[simp] theorem State.wt_start (l q : Nat) (a b : Fld) : (s.start t0).wt l q a b = s.wt l q a b := rfl
@[simp] theorem State.waiting_start (l q : Nat) : (s.start t0).waiting l q = s.waiting l q := rfl
@[simp] theorem State.waitLocal_start (l q : Nat) : (s.start t0).waitLocal l q = s.waitLocal l q := rfl
@[simp] theorem State.waitCtx_start (l q : Nat) : (s.start t0).waitCtx l q = s.waitCtx l q := rfl
@[simp] theorem State.waitObj_start (l q : Nat) : (s.start t0).waitObj l q = s.waitObj l q := rfl
@[simp] theorem State.waitGen_start (l q : Nat) : (s.start t0).waitGen l q = s.waitGen l q := rfl
@[simp] theorem State.isLast_start (l q ctx lobj gen : Nat) : (s.start t0).isLast l q ctx lobj gen = s.isLast l q ctx lobj gen := rfl
@[simp] theorem State.leafEpoch_start (l c : Nat) : (s.start t0).leafEpoch l c = s.leafEpoch l c := rfl
@[simp] theorem State.outOp_start (l q : Nat) : (s.start t0).outOp l q = s.outOp l q := rfl
@[simp] theorem State.sgReady_start (l q : Nat) : (s.start t0).sgReady l q = s.sgReady l q := rfl
@[simp] theorem State.lWaiters_start (l k : Nat) : (s.start t0).lWaiters l k = s.lWaiters l k := rfl
@[simp] theorem State.relMatch_start (l q ctx lobj gen : Nat) : (s.start t0).relMatch l q ctx lobj gen = s.relMatch l q ctx lobj gen := rfl
@[simp] theorem State.portRec?_start (n : Nat) : (s.start t0).portRec? n = s.portRec? n := rfl
@[simp] theorem State.portPresent_start (n : Nat) : (s.start t0).portPresent n = s.portPresent n := rfl
@[simp] theorem State.peerId_start (n : Nat) : (s.start t0).peerId n = s.peerId n := rfl
@[simp] theorem State.spanLive_start (o : Nat) : (s.start t0).spanLive o = s.spanLive o := rfl
@[simp] theorem State.tim_start (key off len dflt : Nat) : (s.start t0).tim key off len dflt = s.tim key off len dflt := rfl
@[simp] theorem State.vfReq_start (r : Nat) : (s.start t0).vfReq r = s.vfReq r := rfl
@[simp] theorem State.modeSlot_start (r : Nat) : (s.start t0).modeSlot r = s.modeSlot r := rfl
@[simp] theorem State.ldr_start : (s.start t0).ldr = s.ldr := rfl
@[simp] theorem State.bank_start (k : Nat) : (s.start t0).bank k = s.bank k := rfl
@[simp] theorem State.activeBank_start : (s.start t0).activeBank = s.activeBank := rfl
@[simp] theorem State.stageBank_start : (s.start t0).stageBank = s.stageBank := rfl
@[simp] theorem State.upPorts_start : (s.start t0).upPorts = s.upPorts := rfl
@[simp] theorem State.islPlanned_start : (s.start t0).islPlanned = s.islPlanned := rfl
@[simp] theorem State.downRails_start (why : Nat) : (s.start t0).downRails why = s.downRails why := rfl
@[simp] theorem State.downNext_start (why : Nat) (below : Int) : (s.start t0).downNext why below = s.downNext why below := rfl
@[simp] theorem State.downEnds_start (why : Nat) : (s.start t0).downEnds why = s.downEnds why := rfl
@[simp] theorem State.drainDone_start : (s.start t0).drainDone = s.drainDone := rfl
@[simp] theorem State.islDrained_start (d : Nat) : (s.start t0).islDrained d = s.islDrained d := rfl
@[simp] theorem State.stopLatched_start : (s.start t0).stopLatched = s.stopLatched := rfl
@[simp] theorem State.rampOk_start (x : RailRec) : (s.start t0).rampOk x = s.rampOk x := rfl
@[simp] theorem State.rampStepRails_start : (s.start t0).rampStepRails = s.rampStepRails := rfl
@[simp] theorem State.rampNext_start (above : Int) : (s.start t0).rampNext above = s.rampNext above := rfl
@[simp] theorem State.seqDue_start (x : RailRec) : (s.start t0).seqDue x = s.seqDue x := rfl
@[simp] theorem State.stepStart_start (x : RailRec) : (s.start t0).stepStart x = s.stepStart x := rfl
@[simp] theorem State.liveLeaves_start : (s.start t0).liveLeaves = s.liveLeaves := rfl
@[simp] theorem State.wakeOn_start (k : Nat) : (s.start t0).wakeOn k = s.wakeOn k := rfl
@[simp] theorem State.wakes_start : (s.start t0).wakes = s.wakes := rfl
@[simp] theorem State.levelDom_start (code inst : Nat) : (s.start t0).levelDom code inst = s.levelDom code inst := rfl
@[simp] theorem State.downInDeep_start (d : Nat) : (s.start t0).downInDeep d = s.downInDeep d := rfl
@[simp] theorem State.wearRuns_start : (s.start t0).wearRuns = s.wearRuns := rfl
@[simp] theorem State.bodyOwner_start (n : Nat) : (s.start t0).bodyOwner n = s.bodyOwner n := rfl
@[simp] theorem State.brakeWord_start : (s.start t0).brakeWord = s.brakeWord := rfl
@[simp] theorem State.ocClear_start (r : Nat) : (s.start t0).ocClear r = s.ocClear r := rfl
@[simp] theorem State.vClear_start (r : Nat) (cnt : Var) : (s.start t0).vClear r cnt = s.vClear r cnt := rfl
@[simp] theorem State.thermClear_start (pins : Pins) : (s.start t0).thermClear pins = s.thermClear pins := rfl
@[simp] theorem State.clockClear_start : (s.start t0).clockClear = s.clockClear := rfl
@[simp] theorem State.classClear_start (pins : Pins) (k : Nat) : (s.start t0).classClear pins k = s.classClear pins k := rfl
@[simp] theorem State.unitOn_start (u : Nat) : (s.start t0).unitOn u = s.unitOn u := rfl
@[simp] theorem State.unitOrder_start : (s.start t0).unitOrder = s.unitOrder := rfl
@[simp] theorem State.thI_start (key idx off : Nat) (dflt : Int) : (s.start t0).thI key idx off dflt = s.thI key idx off dflt := rfl
@[simp] theorem State.edge_start (k : Nat) : (s.start t0).edge k = s.edge k := rfl
@[simp] theorem State.bandNext_start (b : Nat) (x : Int) : (s.start t0).bandNext b x = s.bandNext b x := rfl
@[simp] theorem State.gbOf_start (r b : Nat) : (s.start t0).gbOf r b = s.gbOf r b := rfl
@[simp] theorem State.stackAt_start (k : Nat) : (s.start t0).stackAt k = s.stackAt k := rfl
@[simp] theorem State.levelFor_start (d : Nat) : (s.start t0).levelFor d = s.levelFor d := rfl
@[simp] theorem State.levelNow_start (d : Nat) : (s.start t0).levelNow d = s.levelNow d := rfl
@[simp] theorem State.cellAt_start (x : Nat) : (s.start t0).cellAt x = s.cellAt x := rfl
@[simp] theorem State.cellInputs_start (x : Nat) : (s.start t0).cellInputs x = s.cellInputs x := rfl
@[simp] theorem State.cellsOf_start (d : Nat) : (s.start t0).cellsOf d = s.cellsOf d := rfl
@[simp] theorem State.flagOf_start (n j : Nat) : (s.start t0).flagOf n j = s.flagOf n j := rfl
@[simp] theorem State.thrOf_start (n j : Nat) : (s.start t0).thrOf n j = s.thrOf n j := rfl
@[simp] theorem State.calSites_start : (s.start t0).calSites = s.calSites := rfl
@[simp] theorem State.calRuns_start : (s.start t0).calRuns = s.calRuns := rfl
@[simp] theorem State.lastGood_start (d : Nat) : (s.start t0).lastGood d = s.lastGood d := rfl
@[simp] theorem State.passSites_start : (s.start t0).passSites = s.passSites := rfl
@[simp] theorem State.trcReadable_start : (s.start t0).trcReadable = s.trcReadable := rfl
@[simp] theorem State.loaded_start (d : Nat) : (s.start t0).loaded d = s.loaded d := rfl
@[simp] theorem State.loopWord_start (key l dflt : Nat) : (s.start t0).loopWord key l dflt = s.loopWord key l dflt := rfl
@[simp] theorem State.ldrHolds_start (l : Nat) : (s.start t0).ldrHolds l = s.ldrHolds l := rfl
@[simp] theorem State.gainNamed_start (items : List Item) (t : Nat) : (s.start t0).gainNamed items t = s.gainNamed items t := rfl
@[simp] theorem State.srcNmi_start (x : SrcRec) : (s.start t0).srcNmi x = s.srcNmi x := rfl
@[simp] theorem State.ownerOf_start (typ n : Nat) : (s.start t0).ownerOf typ n = s.ownerOf typ n := rfl
@[simp] theorem State.numsOf_start (typ : Nat) : (s.start t0).numsOf typ = s.numsOf typ := rfl
@[simp] theorem State.itemRails_start (old : List Item) (x : Item) : (s.start t0).itemRails old x = s.itemRails old x := rfl
@[simp] theorem State.touchRails_start (old : List Item) (x : Item) : (s.start t0).touchRails old x = s.touchRails old x := rfl
@[simp] theorem State.fusedSvn_start : (s.start t0).fusedSvn = s.fusedSvn := rfl
@[simp] theorem State.checkHead_start (k : Nat) : (s.start t0).checkHead k = s.checkHead k := rfl
@[simp] theorem State.check_start (k : Nat) : (s.start t0).check k = s.check k := rfl
@[simp] theorem State.ldrForeign_start (p : Port) : (s.start t0).ldrForeign p = s.ldrForeign p := rfl
@[simp] theorem State.itemLoops_start (x : Item) : (s.start t0).itemLoops x = s.itemLoops x := rfl
@[simp] theorem State.checkC12_start (own : List (Nat × Item)) : (s.start t0).checkC12 own = s.checkC12 own := rfl
@[simp] theorem State.bankItems_start (k : Nat) : (s.start t0).bankItems k = s.bankItems k := rfl
@[simp] theorem State.itemDoms_start (x : Item) : (s.start t0).itemDoms x = s.itemDoms x := rfl
@[simp] theorem State.mirRole_start (k : Nat) : (s.start t0).mirRole k = s.mirRole k := rfl
@[simp] theorem State.mirOther_start : (s.start t0).mirOther = s.mirOther := rfl
@[simp] theorem State.leafRuns_start (l : Nat) : (s.start t0).leafRuns l = s.leafRuns l := rfl
@[simp] theorem State.slotSent_start (d slot : Nat) : (s.start t0).slotSent d slot = s.slotSent d slot := rfl
@[simp] theorem State.capKinds_start : (s.start t0).capKinds = s.capKinds := rfl
@[simp] theorem State.accOf_start (x : Var) (l : Nat) (sel : Nat → Bool) : (s.start t0).accOf x l sel = s.accOf x l sel := rfl
@[simp] theorem State.latchOf_start (c num : Nat) : (s.start t0).latchOf c num = s.latchOf c num := rfl
@[simp] theorem State.telRuns_start : (s.start t0).telRuns = s.telRuns := rfl
@[simp] theorem State.slipSum_start : (s.start t0).slipSum = s.slipSum := rfl
@[simp] theorem State.srcWord_start (src : Option Nat) (pri : Bool) : (s.start t0).srcWord src pri = s.srcWord src pri := rfl
@[simp] theorem State.mirCfg_start : (s.start t0).mirCfg = s.mirCfg := rfl
@[simp] theorem State.mirRole2_start : (s.start t0).mirRole2 = s.mirRole2 := rfl
@[simp] theorem State.trcWord_start (k : Nat) : (s.start t0).trcWord k = s.trcWord k := rfl
@[simp] theorem State.viewObj_start (c i : Nat) : (s.start t0).viewObj c i = s.viewObj c i := rfl
@[simp] theorem State.objWordB_start (o : Nat) : (s.start t0).objWordB o = s.objWordB o := rfl
@[simp] theorem State.watchWords_start (k : Nat) : (s.start t0).watchWords k = s.watchWords k := rfl
@[simp] theorem State.slotWatches_start (c : Nat) : (s.start t0).slotWatches c = s.slotWatches c := rfl
@[simp] theorem State.readStatus_start (r : Reg) (i j : Nat) : (s.start t0).readStatus r i j = s.readStatus r i j := rfl
@[simp] theorem State.flagPlace_start (r : Reg) (i j code : Nat) : (s.start t0).flagPlace r i j code = s.flagPlace r i j code := rfl
@[simp] theorem State.loopWords_start (l : Nat) (r : Reg) (w : Word) (k : Nat) : (s.start t0).loopWords l r w k = s.loopWords l r w k := rfl
@[simp] theorem State.loopFits_start (l : Nat) (r : Reg) (w : Word) : (s.start t0).loopFits l r w = s.loopFits l r w := rfl
@[simp] theorem State.draining_start (a : Nat) : (s.start t0).draining a = s.draining a := rfl
@[simp] theorem State.posts_start (post : Bool) (a : Nat) : (s.start t0).posts post a = s.posts post a := rfl
@[simp] theorem State.reqBlocked_start (init a : Nat) (post : Bool) (before : List RegReq) : (s.start t0).reqBlocked init a post before = s.reqBlocked init a post before := rfl
@[simp] theorem State.reqNext_start : (s.start t0).reqNext = s.reqNext := rfl
@[simp] theorem State.facBusy_start : (s.start t0).facBusy = s.facBusy := rfl
@[simp] theorem State.sesSt_start (k : Nat) : (s.start t0).sesSt k = s.sesSt k := rfl
@[simp] theorem State.certChain_start : (s.start t0).certChain = s.certChain := rfl
@[simp] theorem State.measBlock_start (k : Nat) : (s.start t0).measBlock k = s.measBlock k := rfl
@[simp] theorem State.facPg_start : (s.start t0).facPg = s.facPg := rfl
@[simp] theorem State.onRail_start : (s.start t0).onRail = s.onRail := rfl
@[simp] theorem State.capLoops_start : (s.start t0).capLoops = s.capLoops := rfl
@[simp] theorem State.i3cFree_start : (s.start t0).i3cFree = s.i3cFree := rfl
@[simp] theorem State.bgRuns_start (act : Nat) : (s.start t0).bgRuns act = s.bgRuns act := rfl
@[simp] theorem State.bankSection_start (k off : Nat) : (s.start t0).bankSection k off = s.bankSection k off := rfl
@[simp] theorem State.watchObjs_start (i : Nat) : (s.start t0).watchObjs i = s.watchObjs i := rfl

end Sys2Proof.Machine
end

