-- ==== Sys2Proof/Laws/Taken.lean ====
section
/-!
SUPPORT. The laws of what is taken: a message at a channel end, a frame at a link port, a message at the facility port.
-/
namespace Sys2Proof.Machine

variable {s : State}

/-- A message with the channel's tag at an end that takes messages. -/
theorem State.deliver_takes {e : ChEnd} {tag : Nat} (h : s.delivers e tag = true) (t : Nat) (f : State → State) :
    (s.start t).deliver e tag f = f (s.start t) := by
  have h' : (s.start t).delivers e tag = true := h
  simp [State.deliver, h']

/-- A stale message: it is dropped and counted. -/
theorem State.deliver_stale {e : ChEnd} {tag : Nat} (h : s.delivers e tag = false) (t : Nat) (f : State → State) :
    (s.start t).deliver e tag f = (s.start t).chInc e F.HUB_CHAN_STALE_DROPS := by
  have h' : (s.start t).delivers e tag = false := h
  simp [State.deliver, h']

/-- A frame that its port takes. -/
theorem State.frameIn_takes {h : FrameHdr} (k : LinkOk s h) (t : Nat) (f : State → State) :
    (s.start t).frameIn h f =
      (f ((((s.start t).setV .rxSeq ((h.seq + 1) % 2 ^ 32 : Nat) h.port h.keyid).setV .rxLast (s.start t).time h.port).when
        (h.keyid = s.rd F.DXL_PORT_A_KEYID h.port) fun s => s.setV .rxKeyNew 1 h.port)).syncFlush := by
  obtain ⟨h1, h2, h3, h4, h5⟩ := k
  have e1 : (s.start t).portSt h.port = s.portSt h.port := rfl
  have e2 : (s.start t).peerId h.port = s.peerId h.port := rfl
  have e3 : (s.start t).rd F.DXL_PORT_A_KEYID h.port = s.rd F.DXL_PORT_A_KEYID h.port := rfl
  have e4 : (s.start t).vn .rxSeq h.port h.keyid = s.vn .rxSeq h.port h.keyid := rfl
  have e5 : (s.start t).v .rxKeyNew h.port = s.v .rxKeyNew h.port := rfl
  have h3' : (decide (h.keyid = s.rd F.DXL_PORT_A_KEYID h.port) || (decide (h.keyid < 2) && decide (s.v .rxKeyNew h.port = 0))) = true := by
    simpa using h3
  have h1' : (decide (s.portSt h.port = Lk.up) || decide (s.portSt h.port = Lk.pfail)) = true := by simpa using h1
  simp only [State.frameIn, e1, e2, e3, e4, e5, h1', h2, h3', ← h4, ← h5]
  simp

/-- A message that the facility port takes. -/
theorem State.facMsg_takes {m : FacMsg} (k : FacOk s m) (t : Nat) (op : State → State) :
    (s.start t).facMsg m op = op (s.start t) := by
  obtain ⟨h1, h2, h3, h4, h5⟩ := k
  have e1 : (s.start t).hubUp = true := h1
  have e2 : (s.start t).facBusy = false := h2
  have h4' : m.typ = 0 ∨ m.typ = 5 ∨ m.typ = 127 := by simpa using h4
  unfold State.facMsg
  cases hm : m.ses with
  | none => simp [e1, e2, h3, h4']
  | some q =>
    have h6 : m.macOk = true ∧ Nat.beq (s.sesSt q) 2 = true := by simpa [hm] using h5
    have e3 : Nat.beq ((s.start t).sesSt q) 2 = true := h6.2
    simp only [e1, e2, h3, h6.1, e3]
    simp [h4']

/-- What an island sends to its parent changes nothing but what the command sends and what the lanes have yet to send. -/
theorem State.sendUp_out (s : State) (d typ payload : Nat) : ∃ l o, s.sendUp d typ payload = { s with lanes := l, out := o } := by
  have h : endIsParent (childEnd d) = false := by
    unfold childEnd
    split <;> rfl
  unfold State.sendUp State.send
  split
  · exact ⟨_, _, rfl⟩
  · simp [h]
    exact ⟨s.lanes, s.out, rfl⟩

/-- An event of an island changes nothing but what the command sends and what the lanes have yet to send. -/
theorem State.evFrom_out (s : State) (d code inst detail : Nat) (lvl : Bool) (h : d ≠ hubDom) :
    ∃ l o, s.evFrom d code inst detail lvl = { s with lanes := l, out := o } := by
  unfold State.evFrom
  rw [if_neg h]
  exact s.sendUp_out ..

end Sys2Proof.Machine
end

