-- ==== Sys2Proof/WellFormed.lean ====
section
/-!
DEFINITION. Well-formed commands: every operand within the range that its field, its instance number or its payload has
(00 R4; 01 R27; 03 R85). The meanings are total and take other operands as their rules say; statements name this check where a
rule speaks of a field of a given width.
-/
namespace Sys2Proof

/-- A port: an initiator has 16 bits (18 R534). -/
def portOk : Port → Bool
  | .reg init _ => Nat.blt init 65536
  | .posted init _ => Nat.blt init 65536
  | .fac => true

/-- A channel end: hub and node positions 1 to 64, node engines 0 to 63, leaf agents 0 to 511 (01 R27). -/
def endOk : ChEnd → Bool
  | .hub k => Nat.blt k 65
  | .node n j => Nat.blt n 64 && Nat.blt j 65
  | .leaf n => Nat.blt n 512

/-- Who presents a sync operation (08 R232). -/
def orgOk : SyncOrg → Bool
  | .port p page => portOk p && (match page with | some c => Nat.blt c 16 | none => true)
  | .gate e tag sop ctx epoch leaf q =>
    endOk e && Nat.blt tag 16 && Nat.blt sop 16 && Nat.blt ctx 16 && Nat.blt epoch 16 && Nat.blt leaf 512 && Nat.blt q 64

/-- The head of a Dandoxa frame: one of 8 ports, package IDs of 16 bits (15 R448). -/
def frameOk (h : FrameHdr) : Bool := Nat.blt h.port 8 && Nat.blt h.src 65536

/-- A context tag has 4 bits (20 R584, R587). -/
def tagOk : Option Nat → Bool
  | some c => Nat.blt c 16
  | none => true

/-- A report of a leaf's port: fields of the widths of 09 R259 and 20 R584, R587. -/
def repOk (x : Rep) : Bool :=
  match x.rep with
  | .gate p _ vcnt fmt zskip toggle bubble wload _ =>
    Nat.blt p 32 && Nat.blt vcnt 16 && Nat.blt fmt 8 && Nat.blt zskip 256 && Nat.blt toggle 65536 && Nat.blt bubble 16 && Nat.blt wload 256
  | .clk p => Nat.blt p 32
  | .core p ccyc cvec c => Nat.blt p 32 && Nat.blt ccyc 16 && Nat.blt cvec 16 && tagOk c
  | .stack p b rf c => Nat.blt p 32 && Nat.blt b 256 && Nat.blt rf 4 && tagOk c
  | .bytes k n c => Nat.blt k 4 && Nat.blt n 256 && tagOk c

/-- A read of a word of one of the four protected stores (12 R382). -/
def readOk : EccRead → Bool
  | .fore k n _ => Nat.blt k 4 && Nat.blt n ([131072, 32768, 131072, 32768].getD k 0)
  | .scrub _ => true

/-- A message of the facility port: a type of one byte, one of 2 sessions (18 R553, R556). -/
def msgOk (m : FacMsg) : Bool := Nat.blt m.typ 256 && (match m.ses with | some k => Nat.blt k 2 | none => true)

/-- Whether every operand of a command is within its range. -/
def Instr.wf : Instr → Bool
  | .aonSupplyLoss _ => true
  | .powerOnResetEnd _ _ => true
  | .pkgCmdNone _ p => portOk p
  | .pkgHold _ p => portOk p
  | .pkgResume _ p => portOk p
  | .pkgSleep _ p => portOk p
  | .pkgDeepSleep _ p => portOk p
  | .pkgWake _ p => portOk p
  | .pkgRecover _ p => portOk p
  | .pkgFail _ p => portOk p
  | .pkgResetToAon _ p => portOk p
  | .holdTimeout _ => true
  | .bgLate _ _ _ => true
  | .scrubStep _ read => readOk read
  | .ldrOpen _ p => portOk p
  | .ldrCommit _ p => portOk p
  | .ldrAbort _ p => portOk p
  | .commitSvn _ p => portOk p
  | .fusingDone _ => true
  | .imgWaddr _ p w => portOk p && Nat.blt w 1048576
  | .imgWdata _ p _ _ => portOk p
  | .checkDone _ _ => true
  | .verifyDone _ _ => true
  | .paramMsg _ e tag _ kind => endOk e && Nat.blt tag 16 && Nat.blt kind 4
  | .deltaActivate _ => true
  | .applyTimeout _ => true
  | .chanAliveRise _ e => endOk e
  | .chanAliveFall _ e => endOk e
  | .hello _ e epoch => endOk e && Nat.blt epoch 65536
  | .helloAck _ e epoch => endOk e && Nat.blt epoch 65536
  | .fence _ e tag scope id => endOk e && Nat.blt tag 16 && Nat.blt scope 4 && Nat.blt id 65536
  | .fenceAck _ e tag id st => endOk e && Nat.blt tag 16 && Nat.blt id 65536 && Nat.blt st 256
  | .fenceTimeout _ e => endOk e
  | .cmdReq _ e tag dest reqid op off => endOk e && Nat.blt tag 16 && Nat.blt dest 65536 && Nat.blt reqid 256 && Nat.blt op 8 && Nat.blt off 16777216
  | .cmdData _ e tag _ _ => endOk e && Nat.blt tag 16
  | .cmdRsp _ e tag src reqid st => endOk e && Nat.blt tag 16 && Nat.blt src 65536 && Nat.blt reqid 256 && Nat.blt st 256
  | .cmdTimeout _ e reqid => endOk e && Nat.blt reqid 256
  | .estimate _ e tag _ _ slot _ _ => endOk e && Nat.blt tag 16 && Nat.blt slot 65536
  | .estimateSlotTimeout _ _ _ => true
  | .timeSend _ _ _ => true
  | .timeMsg _ e tag _ _ _ => endOk e && Nat.blt tag 16
  | .parentSilent _ l => Nat.blt l 512
  | .leafSlotClose _ l _ reps _ => Nat.blt l 512 && reps.all repOk
  | .leafIntervalClose _ l _ => Nat.blt l 512
  | .intervalReport _ e tag leaf _ _ _ _ _ _ => endOk e && Nat.blt tag 16 && Nat.blt leaf 512
  | .groupReport _ e tag nleaf rail _ _ _ => endOk e && Nat.blt tag 16 && Nat.blt nleaf 1024 && Nat.blt rail 32
  | .groupSumTimeout _ _ _ => true
  | .applied _ e tag dom loop cls rail amt => endOk e && Nat.blt tag 16 && Nat.blt dom 65536 && Nat.blt loop 512 && Nat.blt cls 8 && Nat.blt rail 32 && Nat.blt amt 4294967296
  | .hubIntervalClose _ _ => true
  | .kneadWindowClose _ _ => true
  | .leafThetaWrite _ l _ _ _ => Nat.blt l 512
  | .kneadReset _ p r _ => portOk p && Nat.blt r 32
  | .phaseCycle _ _ _ _ _ _ => true
  | .loopTick _ l => Nat.blt l 512
  | .loopOpen _ p l => portOk p && Nat.blt l 512
  | .loopClose _ p l => portOk p && Nat.blt l 512
  | .grant _ e tag cls rail dest loop _ amt _ => endOk e && Nat.blt tag 16 && Nat.blt cls 8 && Nat.blt rail 32 && Nat.blt dest 65536 && Nat.blt loop 512 && Nat.blt amt 4294967296
  | .need _ e tag _ _ node _ => endOk e && Nat.blt tag 16 && Nat.blt node 65536
  | .creditWindow _ l _ => Nat.blt l 512
  | .gateFault _ l _ => Nat.blt l 512
  | .restEnd _ l _ => Nat.blt l 512
  | .faultClear _ l _ _ => Nat.blt l 512
  | .hubModeReq _ p _ => portOk p
  | .wearPass _ _ => true
  | .levelWindow _ => true
  | .vfSlotLower _ r => Nat.blt r 32
  | .strEnter _ p c phase => portOk p && Nat.blt c 16 && Nat.blt phase 256
  | .strExit _ p c => portOk p && Nat.blt c 16
  | .invSlot _ p c => portOk p && Nat.blt c 16
  | .invEntry _ p c phase => portOk p && Nat.blt c 16 && Nat.blt phase 256
  | .invalidationDone _ => true
  | .starterSample _ _ c _ => Nat.blt c 16
  | .syncInit _ o obj _ _ _ => orgOk o && Nat.blt obj 16384
  | .syncTag _ o obj _ _ _ => orgOk o && Nat.blt obj 16384
  | .syncArrive _ o obj _ _ _ => orgOk o && Nat.blt obj 16384
  | .syncSignal _ o obj _ _ _ => orgOk o && Nat.blt obj 16384
  | .syncSet _ o obj _ _ _ => orgOk o && Nat.blt obj 16384
  | .syncClear _ o obj _ _ _ => orgOk o && Nat.blt obj 16384
  | .syncWait _ o obj _ _ _ => orgOk o && Nat.blt obj 16384
  | .syncCancel _ o obj _ _ _ => orgOk o && Nat.blt obj 16384
  | .syncFree _ o obj _ _ _ => orgOk o && Nat.blt obj 16384
  | .syncBreak _ o obj _ _ _ => orgOk o && Nat.blt obj 16384
  | .syncReset _ o obj _ _ _ => orgOk o && Nat.blt obj 16384
  | .syncForce _ o obj _ _ _ => orgOk o && Nat.blt obj 16384
  | .syncSetCount _ o obj _ _ _ => orgOk o && Nat.blt obj 16384
  | .ctxSwitch _ o obj _ _ _ => orgOk o && Nat.blt obj 16384
  | .ctxSwitchDone _ => true
  | .mirrorConfirm _ => true
  | .gateSyncOp _ l _ sop _ obj _ _ => Nat.blt l 512 && Nat.blt sop 16 && Nat.blt obj 16384
  | .release _ e tag ctx lobj gen st _ _ => endOk e && Nat.blt tag 16 && Nat.blt ctx 16 && Nat.blt lobj 4096 && Nat.blt gen 1024 && Nat.blt st 256
  | .direct _ e tag ctx lobj gen st leaf _ wid _ => endOk e && Nat.blt tag 16 && Nat.blt ctx 16 && Nat.blt lobj 4096 && Nat.blt gen 1024 && Nat.blt st 256 && Nat.blt leaf 512 && Nat.blt wid 64
  | .ctxClear _ e tag c ep => endOk e && Nat.blt tag 16 && Nat.blt c 16 && Nat.blt ep 16
  | .syncAbsentReport _ _ => true
  | .lsyncWrite _ l _ _ => Nat.blt l 512
  | .scoreTrip _ d _ _ => Nat.blt d 512
  | .scoreHoldExpiry _ l _ => Nat.blt l 512
  | .ddCalibrate _ d _ => Nat.blt d 512
  | .ddCalReq _ p d => portOk p && Nat.blt d 512
  | .ddCalStale _ d => Nat.blt d 512
  | .riseOpen _ obj rail => Nat.blt obj 16384 && Nat.blt rail 32
  | .riseEnd _ => true
  | .riseTimeout _ obj rail => Nat.blt obj 16384 && Nat.blt rail 32
  | .riseSlewStep _ r => Nat.blt r 32
  | .riseExhausted _ r => Nat.blt r 32
  | .waveRelease _ l _ => Nat.blt l 512
  | .spanStaggerExpiry _ obj => Nat.blt obj 16384
  | .railLoopSample _ r _ _ => Nat.blt r 32
  | .shedDisable _ r => Nat.blt r 32
  | .shedTimeout _ r => Nat.blt r 32
  | .leafShed _ l r => Nat.blt l 512 && Nat.blt r 32
  | .shedHoldExpiry _ l => Nat.blt l 512
  | .slewStep _ r => Nat.blt r 32
  | .railVselWrite _ p r _ => portOk p && Nat.blt r 32
  | .railVslotWrite _ p r _ code => portOk p && Nat.blt r 32 && Nat.blt code 4096
  | .leafVrefCheck _ l => Nat.blt l 512
  | .leafVref _ l _ => Nat.blt l 512
  | .measDone _ r => Nat.blt r 32
  | .targetPg _ r => Nat.blt r 32
  | .phaseFault _ _ => true
  | .clrFault _ p ph _ => portOk p && Nat.blt ph 256
  | .phCalReq _ p ph => portOk p && Nat.blt ph 256
  | .isnsCalibration _ ph _ => Nat.blt ph 256
  | .tsConversionDone _ n _ _ => Nat.blt n 1024
  | .conversionLapse _ n => Nat.blt n 1024
  | .leafTempPeriod _ l => Nat.blt l 512
  | .tempReport _ e tag _ _ level _ _ leaf _ _ => endOk e && Nat.blt tag 16 && Nat.blt level 4 && Nat.blt leaf 512
  | .reportLapse _ l => Nat.blt l 512
  | .calPassStart _ => true
  | .calPassEnd _ => true
  | .calRst _ p n => portOk p && Nat.blt n 1024
  | .sensorLoss _ _ => true
  | .tcellApply _ _ => true
  | .leafThrReq _ l _ => Nat.blt l 512
  | .stackUpdate _ _ _ => true
  | .stkStale _ _ => true
  | .absTrip _ _ => true
  | .ocTrip _ r => Nat.blt r 32
  | .ovTrip _ r => Nat.blt r 32
  | .uvTrip _ r => Nat.blt r 32
  | .uvHaltExpiry _ r => Nat.blt r 32
  | .coolantTrip _ => true
  | .brake _ => true
  | .leafBrake _ l _ => Nat.blt l 512
  | .brakeRelease _ => true
  | .crustLatchClear _ p _ _ => portOk p
  | .stepTimeout _ => true
  | .clkFail _ _ _ => true
  | .quietPeriodEnd _ _ => true
  | .muxHung _ _ => true
  | .clkSel _ p _ _ => portOk p
  | .recal _ p _ => portOk p
  | .oscCalDone _ _ _ => true
  | .clkReturn _ p => portOk p
  | .rstWarm _ p => portOk p
  | .islRst _ p _ => portOk p
  | .islRstEnd _ _ => true
  | .islandRelease _ _ => true
  | .islNostart _ _ => true
  | .testModeEntry _ => true
  | .testModeExit _ => true
  | .rampStepStart _ => true
  | .sleepQuiesceDone _ l => Nat.blt l 512
  | .ccpQack _ l _ => Nat.blt l 512
  | .fmaxLag _ l _ => Nat.blt l 512
  | .eventMsg _ e tag code inst detail _ _ => endOk e && Nat.blt tag 16 && Nat.blt code 256 && Nat.blt inst 65536 && Nat.blt detail 4294967296
  | .evcAck _ p _ _ => portOk p
  | .evcEoi _ p _ _ => portOk p
  | .evcUnwind _ p _ => portOk p
  | .evcPopTo _ p _ _ => portOk p
  | .evcThaw _ p _ => portOk p
  | .setpend _ p _ => portOk p
  | .clrpend _ p _ => portOk p
  | .evcSrcCfgWrite _ p _ _ => portOk p
  | .prigroupWrite _ p _ => portOk p
  | .evcGrpWrite _ p _ _ _ => portOk p
  | .groupFire _ _ => true
  | .wakeTrigger _ _ => true
  | .linkUp _ n => Nat.blt n 8
  | .linkDown _ n => Nat.blt n 8
  | .authDone _ n _ => Nat.blt n 8
  | .authBackoffEnd _ n => Nat.blt n 8
  | .linkSilent _ n => Nat.blt n 8
  | .dxlHeartbeatSend _ n => Nat.blt n 8
  | .dxlKeyUpdate _ n => Nat.blt n 8
  | .dxlHeartbeat _ h _ _ _ => frameOk h
  | .arriveFrame _ h obj gen job => frameOk h && Nat.blt obj 16384 && Nat.blt gen 65536 && Nat.blt job 65536
  | .releaseFrame _ h obj gen job => frameOk h && Nat.blt obj 16384 && Nat.blt gen 65536 && Nat.blt job 65536
  | .breakFrame _ h obj gen job _ reason => frameOk h && Nat.blt obj 16384 && Nat.blt gen 65536 && Nat.blt job 65536 && Nat.blt reason 256
  | .leaseGrid _ => true
  | .leaseOffer _ h _ _ _ => frameOk h
  | .leaseDecision _ => true
  | .leaseGrant _ h amt lseq _ => frameOk h && Nat.blt amt 4294967296 && Nat.blt lseq 65536
  | .leaseRecall _ h amt lseq _ => frameOk h && Nat.blt amt 4294967296 && Nat.blt lseq 65536
  | .leaseExpiry _ n => Nat.blt n 8
  | .recallEffect _ n => Nat.blt n 8
  | .leaseGuardExpiry _ n => Nat.blt n 8
  | .tsyncSend _ => true
  | .timeSyncRequest _ h _ => frameOk h
  | .timeSyncReply _ h _ _ _ => frameOk h
  | .failNotice _ h _ _ => frameOk h
  | .mirrorHeartbeatMiss _ => true
  | .mirrorPortDown _ => true
  | .hubOkLapse _ => true
  | .takeoverGrant _ _ => true
  | .mirSwitch _ p => portOk p
  | .mirRejoin _ p => portOk p
  | .mirDetach _ p => portOk p
  | .bulkCopyDone _ => true
  | .lazyCopy _ => true
  | .primarySwitch _ => true
  | .leafCounterWindow _ l reps => Nat.blt l 512 && reps.all repOk
  | .counterMsg _ e tag _ cidx ctx _ nleaf _ _ => endOk e && Nat.blt tag 16 && Nat.blt cidx 64 && Nat.blt ctx 32 && Nat.blt nleaf 1024
  | .counterSumTimeout _ _ _ ctx _ => Nat.blt ctx 32
  | .counterWindowComplete _ _ => true
  | .latchStart _ p _ c _ _ => portOk p && Nat.blt c 16
  | .latchEnd _ p _ c _ _ => portOk p && Nat.blt c 16
  | .leafCntLatch _ l c _ reps => Nat.blt l 512 && Nat.blt c 16 && reps.all repOk
  | .latchPointComplete _ c _ => Nat.blt c 16
  | .telemetryWindow _ => true
  | .recordWriteDone _ _ => true
  | .recRingEnable _ p n _ size _ => portOk p && Nat.blt n 4 && Nat.blt size 8
  | .trcArm _ p => portOk p
  | .trcTrig _ p => portOk p
  | .trcFreeze _ p => portOk p
  | .trcOff _ p => portOk p
  | .trcDump _ p => portOk p
  | .trcDumpDone _ => true
  | .traceStall _ => true
  | .trcFrameSent _ => true
  | .registerWrite _ p _ size _ _ _ => portOk p && Nat.blt size 8
  | .postedWritePerform _ _ => true
  | .queueDrainDone _ => true
  | .rspTimeout _ init => Nat.blt init 65536
  | .facPkgCmd _ m tag cmd => msgOk m && Nat.blt tag 256 && Nat.blt cmd 256
  | .facGetState _ m tag => msgOk m && Nat.blt tag 256
  | .facReadReg _ m tag off => msgOk m && Nat.blt tag 256 && Nat.blt off 4294967296
  | .facImgOpen _ m tag => msgOk m && Nat.blt tag 256
  | .facImgData _ m tag ptr _ => msgOk m && Nat.blt tag 256 && Nat.blt ptr 4294967296
  | .facImgCommit _ m tag => msgOk m && Nat.blt tag 256
  | .facImgAbort _ m tag => msgOk m && Nat.blt tag 256
  | .facCommitSvn _ m tag => msgOk m && Nat.blt tag 256
  | .facImgStatus _ m tag => msgOk m && Nat.blt tag 256
  | .facTrcRead _ m tag slot count => msgOk m && Nat.blt tag 256 && Nat.blt slot 65536 && Nat.blt count 256
  | .facAlertClr _ m tag mask => msgOk m && Nat.blt tag 256 && Nat.blt mask 256
  | .facSignTrip _ m tag _ => msgOk m && Nat.blt tag 256
  | .facCertOpen _ m tag => msgOk m && Nat.blt tag 256
  | .facCertData _ m tag ptr _ => msgOk m && Nat.blt tag 256 && Nat.blt ptr 4294967296
  | .facCertCommit _ m tag len => msgOk m && Nat.blt tag 256 && Nat.blt len 65536
  | .setEndpointId _ m op eid => msgOk m && Nat.blt op 256 && Nat.blt eid 256
  | .getEndpointId _ m => msgOk m
  | .getMctpVersionSupport _ m _ => msgOk m
  | .getMessageTypeSupport _ m => msgOk m
  | .getVendorDefinedMessageSupport _ m _ => msgOk m
  | .getVersion _ m => msgOk m
  | .getCapabilities _ m => msgOk m
  | .negotiateAlgorithms _ m _ => msgOk m
  | .getDigests _ m => msgOk m
  | .getCertificate _ m slot off len => msgOk m && Nat.blt slot 256 && Nat.blt off 65536 && Nat.blt len 65536
  | .challenge _ m slot _ => msgOk m && Nat.blt slot 256
  | .getMeasurements _ m _ _ _ => msgOk m
  | .keyExchange _ m slot _ => msgOk m && Nat.blt slot 256
  | .finish _ m _ _ => msgOk m
  | .spdmHeartbeat _ m => msgOk m
  | .spdmKeyUpdate _ m op => msgOk m && Nat.blt op 256
  | .endSession _ m => msgOk m
  | .pmbPage _ _ _ => true
  | .voutMode _ _ => true
  | .readVout _ _ => true
  | .readIout _ _ => true
  | .readPout _ _ => true
  | .readTemperature1 _ _ => true
  | .mfrFacilityCapWrite _ _ _ => true
  | .mfrFacilityCapRead _ _ => true
  | .setdasa _ sa da _ => Nat.blt sa 128 && Nat.blt da 128
  | .entdaa _ da _ _ => Nat.blt da 128
  | .alertResponseAddress _ => true
  | .facAlertSw _ p => portOk p
  | .keygenDone _ => true
  | .idCertOpen _ p => portOk p
  | .idCertWdata _ p _ => portOk p
  | .idCertCommit _ p len => portOk p && Nat.blt len 8192
  | .tripLapse _ => true
  | .monGood _ _ => true
  | .muxSwitchComplete _ _ => true
  | .mirrorHeartbeat _ => true
  | .perTickCopy _ => true
  | .reservedTypeMessage _ e => endOk e
  | .reservedTypeFrame _ h => frameOk h

end Sys2Proof
end

