-- ==== Sys2Proof/Tests/Slice0.lean ====
section
/-!
SUPPORT. Tests: a state that meets the premises of each clause of the statements, small tests of single commands, and a term of each
kind that WellFormed refuses.
-/
namespace Sys2Proof.Tests
open Sys2Proof Sys2Proof.Machine

/-! ### Small states -/

/-- After reset, in a package state. -/
def inPkg (st : Nat) : State := State.reset.wr F.HUB_PKG_STATE_STATE st

/-- A small image: a node with leaf 0 under the hub, and leaf 1 under the hub; leaf 0 has a gate, a core clock port, a stack port, a
throttle cell, a sensor site and a droop detector; rail 0 has phase channel 0. -/
def img0 : Image where
  delta := false
  minor := 0
  svn := 0
  paramSeq := 0
  imageId := 0
  digest := 0
  structDigest := 0
  tree := [⟨0x0000, 0xFFFF, 0, 0, 0, 1, false⟩, ⟨0x1000, 0x0000, 1, 1, 0, 1, false⟩, ⟨0x2000, 0x1000, 2, 2, 0, 1, false⟩,
    ⟨0x2001, 0x0000, 2, 1, 1, 1, false⟩]
  insts := [⟨3, false, 0, 0, 0x2000⟩, ⟨4, false, 0, 0, 0x2000⟩, ⟨5, false, 0, 0, 0x2000⟩, ⟨6, false, 0, 0, 0x2000⟩,
    ⟨7, false, 0, 0, 0x2000⟩, ⟨8, false, 0, 0, 0x2000⟩, ⟨9, false, 0, 0, 0x0000⟩, ⟨0x0A, false, 0, 0, 0x0000⟩]
  rails := [⟨0, false, false, 0, 0, 1, 0⟩]
  loops := [⟨0, 0x0000, 0, 0, false, 0⟩]
  parts := []
  dxl := none
  mirror := none
  sources := [⟨0, 0x01, 0⟩]
  items := []

/-- A state with the small image active, in a package state. -/
def withImg (st : Nat) : State := { inPkg st with img := { State.reset.img with active := some img0 } }

/-- A delta that is being applied. -/
def delta0 : DeltaRun := { img := img0, wait := [], conf := [], tA := none, loops := [] }

/-- A state in which a delta is being applied. -/
def withDelta (s : State) : State := { s with img := { s.img with delta := some delta0 } }

/-- The small image in RUN, with every island out of reset and every channel end in a state. -/
def chansIn (k : Nat) : State :=
  [ChEnd.hub 1, .hub 2, .node 0 0, .node 0 1, .leaf 0, .leaf 1].foldl (fun s e => s.chW e F.HUB_CHAN_STATE k)
    ([0x1000, 0x2000, 0x2001].foldl (fun s d => s.setV .islHeld 0 d) (withImg Pkg.run))

/-- The same with every channel end up. -/
def live : State := chansIn Ch.up

theorem wit_step_idle : State.reset.pending = [] ∧ State.reset.lanes = [] ∧ State.reset.reqWait = [] := by decide

theorem wit_front : ({ State.reset with pending := [Instr.tripLapse 0] } : State).pending = .tripLapse 0 :: []
    ∧ ∃ u, step { State.reset with pending := [Instr.tripLapse 0] } = .next u := ⟨by decide, _, rfl⟩

theorem wit_canon : State.reset.Canon ∧ ∃ u, step { State.reset with pending := [Instr.tripLapse 0] } = .next u :=
  ⟨⟨by decide, by decide, by decide, by decide, by decide, by decide, by decide, by decide, by decide⟩, _, rfl⟩

theorem wit_frame : ∃ u, exec (.tripLapse 0) State.reset = .next u := ⟨_, rfl⟩

theorem wit_noPriv : cmdWrite (.pkgHold 5 (.reg 3 false)) = some ⟨.reg 3 false, .HUB_PKG_CMD, 0, 0⟩ ∧ State.reset.hubUp = true
    ∧ (Port.reg 3 false).priv = false := by decide

theorem wit_dead : cmdWrite (.pkgHold 5 (.reg 3 false)) = some ⟨.reg 3 false, .HUB_PKG_CMD, 0, 0⟩
    ∧ (State.reset.setV .testOn 1).hubUp = false ∧ cmdWrite (.trcArm 5 .fac) = some ⟨.fac, .TRC_CTRL, 0, 0⟩ := by decide

theorem wit_pkg_none : Takes State.reset (.reg 0 true) := ⟨by decide, by decide⟩
theorem wit_pkg_run : Takes (inPkg Pkg.run) .fac ∧ (inPkg Pkg.run).v .downFor ≠ 1 ∧ (inPkg Pkg.run).pkg = Pkg.run
    ∧ (inPkg Pkg.run).img.delta = none ∧ (inPkg Pkg.run).wakes = [] := ⟨⟨by decide, by decide⟩, by decide, by decide, by decide, by decide⟩
theorem wit_pkg_hold : Takes (inPkg Pkg.hold) .fac ∧ (inPkg Pkg.hold).v .downFor ≠ 1 ∧ (inPkg Pkg.hold).pkg = Pkg.hold
    ∧ (inPkg Pkg.hold).img.delta = none := ⟨⟨by decide, by decide⟩, by decide, by decide, by decide⟩
theorem wit_pkg_hold_delta : Takes (withDelta (inPkg Pkg.hold)) .fac ∧ pkgRow 2 0 .fac = some (.pkgResume 0 .fac) ∧ 0 < 2 ∧ 2 ≠ 8
    ∧ (withDelta (inPkg Pkg.hold)).img.delta ≠ none ∧ ((withDelta (inPkg Pkg.hold)).start 0).pkgListed 2 = true :=
  ⟨⟨by decide, by decide⟩, by decide, by decide, by decide, by decide, by decide⟩
/-- In RUN with wake entry 0 enabled on source 0, which is defined and pending. -/
def waking : State := (((withImg Pkg.run).wr F.EVC_WAKE_EN 1).wr F.EVC_SRC_CFG_CODE 1).wr F.EVC_SRC_STATE_PEND 1
theorem wit_pkg_wakes : Takes waking .fac ∧ waking.pkg = Pkg.run ∧ waking.v .downFor ≠ 1 ∧ waking.img.delta = none ∧ waking.wakes ≠ [] :=
  ⟨⟨by decide, by decide⟩, by decide, by decide, by decide, by decide⟩
theorem wit_pkg_sleep : Takes (inPkg Pkg.sleep) .fac ∧ (inPkg Pkg.sleep).pkg = Pkg.sleep := ⟨⟨by decide, by decide⟩, by decide⟩
theorem wit_pkg_deep : Takes (inPkg Pkg.deepSleep) .fac ∧ (inPkg Pkg.deepSleep).pkg = Pkg.deepSleep
    ∧ (inPkg Pkg.deepSleep).stopLatched = [] ∧ (inPkg Pkg.deepSleep).is F.CLK_STAT_ON_OSC 0 = false :=
  ⟨⟨by decide, by decide⟩, by decide, by decide, by decide⟩
theorem wit_pkg_tripped : Takes (withImg Pkg.tripped) .fac ∧ (withImg Pkg.tripped).pkg = Pkg.tripped
    ∧ ((withImg Pkg.tripped).start 200000000).recoverOk = true ∧ (withImg Pkg.tripped).img.delta = none
    ∧ (∀ r, r ∈ (withImg Pkg.tripped).railNums → (withImg Pkg.tripped).railSt r ≠ Rs.halt) ∧ (withImg Pkg.tripped).railNums ≠ [] :=
  ⟨⟨by decide, by decide⟩, by decide, by decide, by decide, by decide, by decide⟩

theorem wit_pkg_reject : Takes (inPkg Pkg.run) (.reg 1 true) ∧ pkgRow 2 7 (.reg 1 true) = some (.pkgResume 7 (.reg 1 true))
    ∧ ((inPkg Pkg.run).start 7).pkgListed 2 = false := ⟨⟨by decide, by decide⟩, by decide, by decide⟩
/-- A message of the facility port in no session. -/
def vendorMsg : FacMsg := { pecOk := true, typ := 0x7F, ses := none, macOk := false }
theorem wit_fac_reject : FacOk (inPkg Pkg.run) vendorMsg ∧ ((inPkg Pkg.run).start 7).pkgListed 12 = false := by decide
theorem wit_down_reject : ((inPkg Pkg.hold).setV .downFor 1).v .downFor = 1
    ∧ ((inPkg Pkg.hold).setV .downFor 1).pkgListed 2 = false := by decide

theorem wit_hold_timeout : (withImg Pkg.hold).pkg = Pkg.hold ∧ (withImg Pkg.hold).v .holdOut = 0
    ∧ (withImg Pkg.hold).vn .pkgAt + 1000000 * (withImg Pkg.hold).tim 7 0 4 100 ≤ max (withImg Pkg.hold).time 100000000 := by decide
/-- A ramp-down that waits for the queue. -/
def draining : State := ((inPkg Pkg.hold).setV .downFor 1).setV .downWait 1
theorem wit_drain : draining.pkg ≠ Pkg.ramp ∧ draining.v .downFor = 1 ∧ draining.v .downWait = 1 ∧ draining.drainDone = true := by
  decide
/-- RAMP in its first step, with rail 0 in OFF. -/
def ramping : State := ((withImg Pkg.ramp).setV .rampNow 0).setV .rampOn (-1) 0
theorem wit_ramp : ramping.pkg = Pkg.ramp ∧ 0 ≤ ramping.v .rampNow ∧ (⟨0, false, false, 0, 0, 1, 0⟩ : RailRec) ∈ ramping.rampStepRails
    ∧ ramping.rampOk ⟨0, false, false, 0, 0, 1, 0⟩ = false
    ∧ ramping.stepStart ⟨0, false, false, 0, 0, 1, 0⟩ + 1000000 * ramping.tim 0x20 0 2 10 ≤ (max ramping.time 10000000 : Nat)
    ∧ ramping.railSt 0 ≠ Rs.on ∧ ramping.v .rampOn 0 < 0 ∧ (ramping.start 5).seqDue ⟨0, false, false, 0, 0, 1, 0⟩ ≤ (max ramping.time 5 : Nat) := by
  decide

theorem wit_wake : (waking.wr F.HUB_PKG_STATE_STATE Pkg.sleep).pkg = Pkg.sleep ∧ (waking.wr F.HUB_PKG_STATE_STATE Pkg.sleep).wakeOn 0 = true
    ∧ (waking.wr F.HUB_PKG_STATE_STATE Pkg.deepSleep).pkg = Pkg.deepSleep ∧ (waking.wr F.HUB_PKG_STATE_STATE Pkg.deepSleep).wakeOn 0 = true
    ∧ (waking.wr F.HUB_PKG_STATE_STATE Pkg.deepSleep).is F.EVC_WAKE_IGNORED 0 = false
    ∧ (waking.wr F.HUB_PKG_STATE_STATE Pkg.deepSleep).stopLatched = []
    ∧ (waking.wr F.HUB_PKG_STATE_STATE Pkg.deepSleep).is F.CLK_STAT_ON_OSC 0 = false := by decide
theorem wit_sleep : (withImg Pkg.sleep).pkg = Pkg.sleep ∧ 0 ∈ (withImg Pkg.sleep).leaves ∧ 0 ∈ (withImg Pkg.sleep).cores 0
    ∧ ((withImg Pkg.sleep).setV .ccpQreq 1).v .ccpQreq = 1 ∧ 0 ∈ ((withImg Pkg.sleep).setV .ccpQreq 1).cores 0 := by decide

theorem wit_off : (inPkg Pkg.off).pkg = Pkg.off ∧ 2400 ≤ 3000 ∧ 3000 ≤ 4000 := by decide
theorem wit_aon : Takes State.reset .fac ∧ State.reset.pkg = Pkg.aon ∧ State.reset.v .testOn = 0 := ⟨⟨by decide, by decide⟩, by decide, by decide⟩
theorem wit_notAon : Takes (inPkg Pkg.run) .fac ∧ (inPkg Pkg.run).pkg ≠ Pkg.aon := ⟨⟨by decide, by decide⟩, by decide⟩
theorem wit_testOn : (State.reset.setV .testOn 1).v .testOn = 1 ∧ (State.reset.setV .testOn 1).pkg = Pkg.aon := by decide

theorem wit_island : Takes (withImg Pkg.hold) .fac ∧ [Pkg.hold, Pkg.tripped, Pkg.fail].contains (withImg Pkg.hold).pkg = true
    ∧ 0x1000 ≠ hubDom ∧ (withImg Pkg.hold).hasDom 0x1000 = true ∧ (withImg Pkg.hold).hasDom 0x1005 = false
    ∧ (∃ x, x ∈ (withImg Pkg.hold).tree ∧ x.dom = 0x1000 ∧ x.kind ≠ 0) ∧ (withImg Pkg.hold).v .islHeld 0x1000 = 1
    ∧ (withImg Pkg.hold).hop hubDom 0x1000 ≠ none ∧ (withImg Pkg.hold).hop hubDom 0x1000 = some 0x1000 ∧ (withImg Pkg.hold).posted = []
    ∧ (withImg Pkg.hold).chSt ((withImg Pkg.hold).parentEnd 0x1000) = Ch.down
    ∧ (∀ x, x ∈ (withImg Pkg.hold).tree → (withImg Pkg.hold).v .islPlan x.dom = 0)
    ∧ (withImg Pkg.hold).vn .islRst 0x1000 - 1 + 1000 ≤ max (withImg Pkg.hold).time 1000 :=
  ⟨⟨by decide, by decide⟩, by decide, by decide, by decide, by decide,
    ⟨⟨0x1000, 0x0000, 1, 1, 0, 1, false⟩, by decide, by decide, by decide⟩, by decide, by decide, by decide, by decide, by decide, by decide, by decide⟩
/-- RUN with rail 0 in ON. -/
def powered : State := (withImg Pkg.run).wr F.RAIL_STATE_STATE 4 0
theorem wit_release : powered.hasDom 0x1000 = true ∧ powered.v .islHeld 0x1000 = 1 ∧ powered.rstHeld 0x1000 = false
    ∧ powered.parent 0x1000 = hubDom := by decide
theorem wit_nostart : ((powered.setV .islHeld 0 0x1000).setV .islRel 0 0x1000).v .islHeld 0x1000 = 0
    ∧ ((powered.setV .islHeld 0 0x1000).setV .islRel 0 0x1000).v .islAlive 0x1000 = 0
    ∧ 0 ≤ ((powered.setV .islHeld 0 0x1000).setV .islRel 0 0x1000).v .islRel 0x1000
    ∧ ((powered.setV .islHeld 0 0x1000).setV .islRel 0 0x1000).v .islRel 0x1000 + 200000 ≤ (max 0 300000 : Nat) := by decide

theorem wit_clkSel : Takes (inPkg Pkg.hold) .fac ∧ (inPkg Pkg.hold).unitOn 0 = true
    ∧ [Pkg.aon, Pkg.verify, Pkg.hold, Pkg.tripped, Pkg.fail].contains (inPkg Pkg.hold).pkg = true
    ∧ (inPkg Pkg.hold).is F.CLK_STAT_MUX_BUSY 0 = false ∧ (inPkg Pkg.hold).rd F.CLK_STAT_ON_OSC 0 ≠ 1 % 2
    ∧ ((inPkg Pkg.hold).wr F.CLK_STAT_MUX_BUSY 1).is F.CLK_STAT_MUX_BUSY 0 = true ∧ (inPkg Pkg.hold).is F.CLK_STAT_ON_OSC 0 = false
    ∧ ((inPkg Pkg.hold).wr F.CLK_STAT_ON_OSC 1).is F.CLK_STAT_ON_OSC 0 = true ∧ (inPkg Pkg.hold).unitOn 5 = false
    ∧ [Pkg.aon, Pkg.verify, Pkg.hold, Pkg.tripped, Pkg.fail].contains (inPkg Pkg.run).pkg = false :=
  ⟨⟨by decide, by decide⟩, by decide, by decide, by decide, by decide, by decide, by decide, by decide, by decide, by decide⟩
theorem wit_clkSel_run : Takes (inPkg Pkg.run) .fac ∧ (inPkg Pkg.run).unitOn 0 = true
    ∧ [Pkg.aon, Pkg.verify, Pkg.hold, Pkg.tripped, Pkg.fail].contains (inPkg Pkg.run).pkg = false := ⟨⟨by decide, by decide⟩, by decide, by decide⟩
theorem wit_clkSel_busy : Takes ((inPkg Pkg.hold).wr F.CLK_STAT_MUX_BUSY 1) .fac ∧ ((inPkg Pkg.hold).wr F.CLK_STAT_MUX_BUSY 1).unitOn 0 = true
    ∧ [Pkg.aon, Pkg.verify, Pkg.hold, Pkg.tripped, Pkg.fail].contains ((inPkg Pkg.hold).wr F.CLK_STAT_MUX_BUSY 1).pkg = true
    ∧ ((inPkg Pkg.hold).wr F.CLK_STAT_MUX_BUSY 1).is F.CLK_STAT_MUX_BUSY 0 = true := ⟨⟨by decide, by decide⟩, by decide, by decide, by decide⟩
theorem wit_clkReturn_none : Takes (inPkg Pkg.hold) .fac ∧ ∀ u, u ∈ (inPkg Pkg.hold).unitOrder → (inPkg Pkg.hold).is F.CLK_STAT_ON_OSC u = false :=
  ⟨⟨by decide, by decide⟩, by decide⟩
/-- The hub's clock unit on its oscillator, with everything good. -/
def onOsc : State :=
  ((((inPkg Pkg.hold).wr F.CLK_STAT_ON_OSC 1).wr F.CLK_STAT_MON_GOOD 1).wr F.CLK_STAT_PLL_RUN 1).wr F.CLK_STAT_OSC_RUN 1
theorem wit_clkReturn : Takes onOsc .fac ∧ onOsc.is F.CLK_STAT_ON_OSC 0 = true ∧ onOsc.is F.CLK_STAT_MON_GOOD 0 = true
    ∧ onOsc.is F.CLK_STAT_PLL_RUN 0 = true ∧ onOsc.is F.CLK_STAT_OSC_RUN 0 = true ∧ onOsc.is F.CLK_STAT_MUX_BUSY 0 = false :=
  ⟨⟨by decide, by decide⟩, by decide, by decide, by decide, by decide, by decide⟩

/-- The hub's clock unit, calibrated, in RUN, with the CLOCK latch clear or set. -/
def clocked (latch : Nat) : State := ((inPkg Pkg.run).wr F.CLK_OSC_CAL_VALID 1).wr F.CRUST_LATCH_CLOCK latch
theorem wit_clkFail : (clocked 1).unitOn 0 = true ∧ (clocked 1).is F.CLK_OSC_CAL_VALID 0 = true ∧ (clocked 1).v .clkFailed 0 = 0
    ∧ (clocked 1).is F.CRUST_LATCH_CLOCK = true ∧ (clocked 0).unitOn 0 = true ∧ (clocked 0).is F.CLK_OSC_CAL_VALID 0 = true
    ∧ (clocked 0).is F.CLK_STAT_ON_OSC 0 = false ∧ (clocked 0).is F.CRUST_LATCH_CLOCK = false ∧ Pkg.verify < (clocked 0).pkg
    ∧ (clocked 0).pkg ≠ Pkg.tripped ∧ (clocked 0).pkg ≠ Pkg.fail := by decide
theorem wit_mux : ((inPkg Pkg.hold).wr F.CLK_STAT_MUX_BUSY 1).is F.CLK_STAT_MUX_BUSY 0 = true
    ∧ ((inPkg Pkg.hold).wr F.CLK_STAT_MUX_BUSY 1).vn .muxAt 0 + 1500 ≤ max 0 2000 ∧ ((inPkg Pkg.hold).wr F.CLK_STAT_MUX_BUSY 1).vn .muxSel 0 < 2
    ∧ 0 < ((inPkg Pkg.hold).setV .clkCal 1).v .clkCal 0
    ∧ ((inPkg Pkg.hold).setV .clkCal 1).vn .clkCal 0 - 1 + 20000 ≤ max ((inPkg Pkg.hold).setV .clkCal 1).time 20000
    ∧ ((inPkg Pkg.hold).setV .clkCal 1).vn .clkQuiet 0 - 1 + 80 ≤ max ((inPkg Pkg.hold).setV .clkCal 1).time 20000 ∧ ((inPkg Pkg.hold).setV .clkCal 1).unitOn 0 = true := by decide

/-- The small image with one child of the hub, whose channel is up. -/
def oneChild : State := { live with img := { live.img with active := some { img0 with tree := img0.tree.take 3 } } }
theorem wit_timeSend : oneChild.hubUp = true ∧ oneChild.children hubDom = [0x1000] ∧ oneChild.chSt (oneChild.parentEnd 0x1000) = Ch.up
    ∧ max oneChild.time 3000 % 1000 = 0 := by decide
theorem wit_timeFwd : isNode (nodeDom 0) = true ∧ (live.setV .timeFwd 1 0).v .islHeld (nodeDom 0) = 0 ∧ (live.setV .timeFwd 1 0).v .timeFwd (domNum (nodeDom 0)) ≠ 0
    ∧ ((live.setV .timeFwd 1 0).start 3000).islTime (nodeDom 0) % 1000 = 0 := by decide
theorem wit_timeMsg : live.delivers (.leaf 0) 0 = true ∧ isLeaf (leafDom 0) = true := by decide
theorem wit_silent : (live.setV .timeAt 1 0).v .islHeld (leafDom 0) = 0 ∧ 0 < (live.setV .timeAt 1 0).vn .timeAt 0 ∧ (live.setV .timeAt 1 0).v .safeSil 0 ≠ 1
    ∧ (live.setV .timeAt 1 0).vn .timeAt 0 + 50000 ≤ max (live.setV .timeAt 1 0).time 60000 := by decide

/-- The loader in a state, with the facility port as the owner of the staging bank. -/
def loading (k : Nat) : State := (State.reset.wr F.IMG_STATUS_LOADER k).ldrOwner (some .fac)
theorem wit_open : Takes State.reset .fac ∧ State.reset.ldrForeign .fac = false ∧ State.reset.ldr = 0 := ⟨⟨by decide, by decide⟩, by decide, by decide⟩
theorem wit_commit : Takes (loading 1) .fac ∧ (loading 1).ldrForeign .fac = false ∧ (loading 1).ldr = 1 := ⟨⟨by decide, by decide⟩, by decide, by decide⟩
theorem wit_abort : Takes (loading 2) .fac ∧ (loading 2).ldrForeign .fac = false ∧ (loading 2).ldr = 2 := ⟨⟨by decide, by decide⟩, by decide, by decide⟩
/-- RUN with an image of SVN 3 over a fused SVN of 1. -/
def svn3 : State :=
  { State.reset with regs := [(⟨.HUB_PKG_STATE, 0, 0⟩, setBits 0 F.HUB_PKG_STATE_STATE.lsb F.HUB_PKG_STATE_STATE.w Pkg.run),
    (⟨.IMG_INFO, 0, 0⟩, setBits 0 F.IMG_INFO_SVN.lsb F.IMG_INFO_SVN.w 3), (⟨.IMG_FUSE, 0, 0⟩, setBits 0 F.IMG_FUSE_FUSED_SVN.lsb F.IMG_FUSE_FUSED_SVN.w 1)] }
theorem wit_svn : Takes svn3 .fac ∧ svn3.pkg = Pkg.run ∧ svn3.fusedSvn < svn3.rd F.IMG_INFO_SVN := ⟨⟨by decide, by decide⟩, by decide, by decide⟩
theorem wit_openBusy : Takes (loading 4) .fac ∧ (loading 4).ldrForeign .fac = false ∧ (loading 4).ldr ≠ 0 ∧ (loading 4).ldr ≠ 1 ∧ (loading 4).ldr ≠ 3 :=
  ⟨⟨by decide, by decide⟩, by decide, by decide, by decide, by decide⟩
theorem wit_foreign : Takes (loading 1) (.reg 0 true) ∧ (loading 1).ldrForeign (.reg 0 true) = true := ⟨⟨by decide, by decide⟩, by decide⟩

theorem wit_waddr : Takes (loading 1) .fac ∧ (loading 1).ldrForeign .fac = false ∧ (loading 1).ldr = 1 ∧ 0x7FFF8 % 2 ^ 20 % 8 = 0
    ∧ 0x7FFF8 % 2 ^ 20 ≤ 0x7FFF8 := ⟨⟨by decide, by decide⟩, by decide, by decide, by decide, by decide⟩
theorem wit_waddrIdle : Takes State.reset .fac ∧ State.reset.ldrForeign .fac = false ∧ State.reset.ldr ≠ 1 := ⟨⟨by decide, by decide⟩, by decide, by decide⟩
theorem wit_wdata : Takes ((loading 1).setV .imgPtr 0x7FFF8) .fac ∧ ((loading 1).setV .imgPtr 0x7FFF8).ldrForeign .fac = false
    ∧ ((loading 1).setV .imgPtr 0x7FFF8).ldr = 1 ∧ ((loading 1).setV .imgPtr 0x7FFF8).vn .imgPtr + 8 ≤ 0x80000 :=
  ⟨⟨by decide, by decide⟩, by decide, by decide, by decide⟩

theorem wit_checking : (loading 2).ldr = 2 := by decide
theorem wit_verifying : ((inPkg Pkg.verify).wr F.IMG_STATUS_LOADER 5).ldr = 5 ∧ ((inPkg Pkg.verify).wr F.IMG_STATUS_LOADER 5).pkg = Pkg.verify := by decide
theorem wit_fusing : (State.reset.wr F.IMG_STATUS_FUSING 1).is F.IMG_STATUS_FUSING = true := by decide

/-- The delta waits for leaf 0. -/
def deltaWaits : State := { live with img := { live.img with delta := some { delta0 with wait := [0x2000] } } }
/-- The delta's activation stamp is 100. -/
def deltaDue : State := { live with img := { live.img with delta := some { delta0 with tA := some 100 } } }
theorem wit_confirm : deltaWaits.delivers (.hub 1) 0 = true ∧ 1 ≠ 0 ∧ deltaWaits.img.delta = some { delta0 with wait := [0x2000] }
    ∧ ({ delta0 with wait := [0x2000] } : DeltaRun).wait.contains 0x2000 = true := by decide
theorem wit_activate : deltaDue.img.delta = some { delta0 with tA := some 100 } ∧ 100 ≤ max deltaDue.time 100 := by decide
theorem wit_applyTimeout : deltaWaits.img.delta = some { delta0 with wait := [0x2000] } ∧ (∃ x ∈ ({ delta0 with wait := [0x2000] } : DeltaRun).wait, deltaWaits.v .dltSend x = 0
    ∧ deltaWaits.vn .dltAt x + 50000 ≤ max deltaWaits.time 50000) := ⟨by decide, ⟨0x2000, by decide, by decide, by decide⟩⟩
theorem wit_fields : live.delivers (.leaf 0) 0 = true ∧ ((fieldSecs (leafDom 0)).any fun k => live.v .eccSec k = 1) = false
    ∧ live.hasDom (leafDom 0) = true ∧ live.pkg ≠ Pkg.ramp ∧ live.v .downFor = 0 := by decide

theorem wit_scrub : (inPkg Pkg.run).hubUp = true ∧ (inPkg Pkg.run).pkg ≠ Pkg.aon ∧ (inPkg Pkg.run).pkg ≠ Pkg.verify
    ∧ (inPkg Pkg.run).rd F.ECC_COUNT_CORR ((inPkg Pkg.run).rd F.ECC_STATUS_STORE) < 0xFFFFFFFF
    ∧ ((inPkg Pkg.run).bgOpen 0 || ((inPkg Pkg.run).start 5).bgDue 0) = true := by decide
theorem wit_foreground : (inPkg Pkg.run).hubUp = true ∧ 1 < 4 ∧ 7 < storeWords 1 ∧ (inPkg Pkg.run).rd F.ECC_COUNT_CORR 1 < 0xFFFFFFFF := by decide
theorem wit_scrubAon : State.reset.hubUp = true ∧ State.reset.pkg = Pkg.aon ∧ (State.reset.bgOpen 0 || (State.reset.start 5).bgDue 0) = true := by decide
theorem wit_bgLate : State.reset.hubUp = true ∧ State.reset.bgRuns 0 = true ∧ (State.reset.start 200000001).bgSched 0 = some 0
    ∧ State.reset.v .bgLate 0 = 0 ∧ 0 + bgLimit 0 < max State.reset.time 200000001 := by decide

theorem wit_aliveRise : (chansIn 0).chSt (.leaf 0) = Ch.down ∧ (chansIn 0).hasDom (leafDom 0) = true ∧ (chansIn 0).v .islHeld (leafDom 0) = 0
    ∧ (chansIn 0).hasDom ((chansIn 0).parent (leafDom 0)) = true ∧ (chansIn 0).v .islHeld ((chansIn 0).parent (leafDom 0)) = 0
    ∧ (chansIn 0).v .chHold (endNum (.leaf 0)) = 0 ∧ (chansIn 0).v .chHello (endNum (.leaf 0)) = 0 := by decide
theorem wit_aliveRiseHub : (chansIn 0).parent (leafDom 1) = hubDom ∧ (chansIn 0).chSt (.leaf 1) = Ch.down := by decide
theorem wit_aliveFall : live.chSt (.leaf 0) ≠ Ch.down ∧ live.pkg ≠ Pkg.ramp ∧ live.v .downFor = 0 ∧ live.islPlanned = false := by decide
theorem wit_hello : (chansIn 1).chSt (.leaf 0) = Ch.linking ∧ (chansIn 1).v .chAckRcvd (endNum (.leaf 0)) = 0 := by decide
theorem wit_helloAck : ((chansIn 1).setV .chAckSent 1 (endNum (.leaf 0))).chSt (.leaf 0) = Ch.linking
    ∧ ((chansIn 1).setV .chAckSent 1 (endNum (.leaf 0))).v .chAckSent (endNum (.leaf 0)) = ((0 % 65536 + 1 : Nat) : Int)
    ∧ ((chansIn 1).setV .chAckSent 1 (endNum (.leaf 0))).pkg ≠ Pkg.ramp ∧ ((chansIn 1).setV .chAckSent 1 (endNum (.leaf 0))).v .downFor = 0
    ∧ ((chansIn 1).setV .chAckSent 1 (endNum (.leaf 0))).islPlanned = false := by decide

theorem wit_fence : live.delivers (.leaf 0) 0 = true ∧ (live.chan.pend.any fun p => endDom p.chEnd = leafDom 0) = false
    ∧ (live.chan.await.any fun p => endDom p.1 = leafDom 0) = false ∧ (live.chan.wait.any fun w => endDom w.pend.chEnd = leafDom 0) = false ∧ live.childEnds (leafDom 0) = []
    ∧ live.canSend (.leaf 0) Mt.fenceAck = true ∧ 0 < 4096 := by decide
/-- The node engine's end to leaf 0 waits for the acknowledgement of its fence. -/
def fenced : State := (chansIn 3).setV .chFence 1 (endNum (.node 0 1))
theorem wit_fenceAck : fenced.delivers (.node 0 1) 0 = true ∧ 1 ≠ 0 ∧ fenced.chSt (.node 0 1) = Ch.fencing
    ∧ fenced.vn .chFence (endNum (.node 0 1)) = 0 % 256 + 1 := by decide
theorem wit_fenceTimeout : (chansIn 3).chSt (.node 0 1) = Ch.fencing ∧ (chansIn 3).vn .chFenceAt (endNum (.node 0 1)) + 10000 ≤ max (chansIn 3).time 10000 := by
  decide

theorem wit_noPending : live.delivers (.hub 1) 0 = true ∧ endIsParent (.hub 1) = true ∧ live.pend? (.hub 1) (7 % 256) = none := by decide

/-- A read of leaf 0's registers, pending at an end, for an initiator. -/
def pendingAt (e : ChEnd) : State :=
  { live with chan := { live.chan with
      pend := [{ chEnd := e, req := { dest := 0x2000, reqid := 1, op := 0, off := 0 }, src := .port (.reg 0 true) 0 false, time := 0 }],
      rspWait := [(e, 0x2000, 1)] } }
theorem wit_cmdReq : live.delivers (.leaf 0) 0 = true ∧ endIsParent (.leaf 0) = false ∧ opWrites (2 % 8) = true := by decide
/-- What waits there. -/
def thePend (e : ChEnd) : CmdPend := { chEnd := e, req := { dest := 0x2000, reqid := 1, op := 0, off := 0 }, src := .port (.reg 0 true) 0 false, time := 0 }
theorem wit_cmdRsp : (pendingAt (.hub 1)).delivers (.hub 1) 0 = true ∧ endIsParent (.hub 1) = true
    ∧ (pendingAt (.hub 1)).pend? (.hub 1) (1 % 256) = some (thePend (.hub 1)) ∧ opWrites (thePend (.hub 1)).req.op = false := by decide
theorem wit_cmdData : (pendingAt (.node 0 1)).delivers (.node 0 1) 0 = true
    ∧ (pendingAt (.node 0 1)).chan.rspWait.find? (fun x => x.1 = .node 0 1) = some (.node 0 1, 0x2000, 1)
    ∧ (pendingAt (.node 0 1)).pend? (.node 0 1) 1 = some (thePend (.node 0 1)) ∧ 1 ≠ 0 := by decide
theorem wit_cmdTimeout : (pendingAt (.hub 1)).pend? (.hub 1) 1 = some (thePend (.hub 1)) ∧ (thePend (.hub 1)).time + 3000 ≤ max (pendingAt (.hub 1)).time 3000
    ∧ (pendingAt (.hub 1)).reqWait = [] := by decide
theorem wit_rspTimeout : (0, Port.reg 0 true, 0, false) ∈ (pendingAt (.hub 1)).accepted ∧ isInit 0 (.reg 0 true) = true
    ∧ 0 + 3900 ≤ max (pendingAt (.hub 1)).time 3900 ∧ (pendingAt (.hub 1)).reqWait = [] := by decide

theorem wit_estimate : live.delivers (.node 0 1) 0 = true ∧ live.endChild (.node 0 1) = some 0x2000 ∧ 1 % 32 ≠ 0x1F ∧ 31 % 32 = 0x1F := by decide
theorem wit_estimateA : live.delivers (.node 0 1) 0 = true ∧ live.endChild (.node 0 1) = some 0x2000 ∧ 1 % 32 ≠ 0x1F ∧ 31 % 32 = 0x1F := by decide
theorem wit_slotHub : (hubDom = hubDom ∧ live.hubUp = true) ∧ 64 * (0 + live.leafDepth hubDom + 2) ≤ max live.time 1000 := by decide
theorem wit_slotNode : (live.hasDom 0x1000 = true ∧ isLeaf 0x1000 = false ∧ live.v .islHeld 0x1000 = 0)
    ∧ 64 * (0 + live.leafDepth 0x1000 + 2) ≤ max live.time 1000 := by decide
/-- Leaf 0 with its image fields. -/
def running : State := live.setV .islFields 1 0x2000
theorem wit_leafRuns : running.leafRuns 0 = true ∧ running.v .slotNext 0 ≤ 5 ∧ 64 * 5 + 64 ≤ max running.time 384 := by decide
theorem wit_theta : live.leaves.contains 0 = true ∧ live.v .islHeld (leafDom 0) = 0 := by decide

theorem wit_report : live.delivers (.hub 1) 0 = true ∧ live.endChild (.hub 1) = some 0x1000 ∧ endDom (.hub 1) = hubDom ∧ 0 % 32 ≠ 0x1F
    ∧ 1 % 32 ≠ 0 % 32 ∧ 1 % 32 ≠ 0x1F := by decide
theorem wit_groupReport : live.delivers (.hub 1) 0 = true ∧ live.endChild (.hub 1) = some 0x1000 ∧ endDom (.hub 1) = hubDom
    ∧ live.v .kwDone < (15 : Nat) ∧ 1000000 * 15 + 1000000 ≤ max live.time 16000000 ∧ max live.time 16000000 < 1000000 * 15 + 17000000 := by decide
theorem wit_leafInterval : running.leafRuns 0 = true ∧ running.v .ivNext 0 ≤ 3 ∧ ((1000 * 3 + 999) / 64 + 1) * 64 ≤ max running.time 4032 := by decide
theorem wit_kneadWindow : live.hubUp = true ∧ live.v .kwDone < (0 : Nat) ∧ 1000000 * 0 + 1000000 ≤ max live.time 1000000 ∧ (live.start 1000000).bgDue 3 = true := by decide
theorem wit_groupTimeout : live.hasDom (nodeDom 0) = true ∧ live.v .islHeld (nodeDom 0) = 0 ∧ (0 + 1) * 1000000 + 10000 ≤ max live.time 1010000 := by decide
theorem wit_applied : live.delivers (.hub 1) 0 = true ∧ live.endChild (.hub 1) = some 0x1000 ∧ live.loop? (0 % 512) = some ⟨0, 0x0000, 0, 0, false, 0⟩ ∧ (⟨0, 0x0000, 0, 0, false, 0⟩ : LoopRec).host = endDom (.hub 1) := by decide
theorem wit_hubInterval : live.hubUp = true ∧ live.img.active.isSome = true ∧ live.v .hubIv < (999 : Nat) ∧ 1000 * 999 + 1000 ≤ max live.time 1000000 := by decide
theorem wit_kneadReset : Takes (withImg Pkg.hold) .fac ∧ ((withImg Pkg.hold).rail? 0).isSome = true ∧ (withImg Pkg.hold).pkg = Pkg.hold :=
  ⟨⟨by decide, by decide⟩, by decide, by decide⟩
theorem wit_kneadRange : Takes live .fac ∧ (live.rail? 0).isSome = true ∧ live.pkg ≠ Pkg.hold ∧ live.pkg ≠ Pkg.tripped ∧ live.pkg ≠ Pkg.fail :=
  ⟨⟨by decide, by decide⟩, by decide, by decide, by decide, by decide⟩
theorem wit_kneadAbsent : Takes State.reset .fac ∧ (State.reset.rail? 0).isSome = false := ⟨⟨by decide, by decide⟩, by decide⟩

/-- The small image in RUN, with a tick of loop 0 due at time 0. -/
def tickDue : State := (live.setV .lpNom 0 0).setV .lpDue 0 0
theorem wit_loopTick : tickDue.loop? 0 = some ⟨0, 0x0000, 0, 0, false, 0⟩ ∧ tickDue.engineStands 0 = false ∧ tickDue.engineHeld 0 = false
    ∧ 0 ≤ tickDue.v .lpNom 0 ∧ tickDue.v .lpDue 0 ≤ (max tickDue.time 0 : Nat) ∧ (tickDue.start 0).tickWaits 0 = false := by decide
theorem wit_loopCmd : Takes live .fac ∧ live.loop? 0 = some ⟨0, 0x0000, 0, 0, false, 0⟩ ∧ (⟨0, 0x0000, 0, 0, false, 0⟩ : LoopRec).host = hubDom
    ∧ live.loopSt 0 = 0 ∧ live.pkg = Pkg.run := ⟨⟨by decide, by decide⟩, by decide, by decide, by decide, by decide⟩
/-- The small image with loop 0 hosted by node engine 0. -/
def nodeLoop : State := { live with img := { live.img with active := some { img0 with loops := [⟨0, 0x1000, 0, 0, false, 0⟩] } } }
theorem wit_loopNode : Takes nodeLoop .fac ∧ nodeLoop.loop? 0 = some ⟨0, 0x1000, 0, 0, false, 0⟩ ∧ (⟨0, 0x1000, 0, 0, false, 0⟩ : LoopRec).host ≠ hubDom
    ∧ nodeLoop.loopReach 0 = true ∧ nodeLoop.hop hubDom (⟨0, 0x1000, 0, 0, false, 0⟩ : LoopRec).host = some 0x1000
    ∧ nodeLoop.canSend (nodeLoop.parentEnd 0x1000) Mt.cmdReq = true
    ∧ nodeLoop.pendFull (nodeLoop.parentEnd 0x1000) = false := ⟨⟨by decide, by decide⟩, by decide, by decide, by decide, by decide, by decide, by decide⟩
theorem wit_loopRange : Takes (withImg Pkg.hold) .fac ∧ (withImg Pkg.hold).loopReach 0 = true ∧ (withImg Pkg.hold).loopSt 0 = 0
    ∧ (withImg Pkg.hold).pkg ≠ Pkg.run ∧ (withImg Pkg.hold).pkg ≠ Pkg.sleep := ⟨⟨by decide, by decide⟩, by decide, by decide, by decide, by decide⟩
theorem wit_loopAbsent : Takes State.reset .fac ∧ State.reset.loopReach 0 = false := ⟨⟨by decide, by decide⟩, by decide⟩

/-- Leaf 0 with a fault and a rest of sub-gate 0. -/
def gateBad : State := (live.wr F.LEAF_GATE_FAULT_A 1 0 0).wr F.LEAF_GATE_REST_A 1 0 0
theorem wit_gateFault : live.v .islHeld (leafDom 0) = 0 ∧ (live.subGates 0).contains 0 = true ∧ 0 % 2 = 0 := by decide
theorem wit_gateUnsplit : live.v .islHeld (leafDom 0) = 0 ∧ (live.subGates 0).contains (1 - 1) = true ∧ 1 % 2 = 1 ∧ live.sgEn 0 1 = false := by decide
theorem wit_restEnd : gateBad.sgRest 0 0 = true ∧ gateBad.vn .restEnd 0 0 ≤ max gateBad.time 0 := by decide
theorem wit_faultClear : gateBad.leaves.contains 0 = true ∧ gateBad.v .islHeld (leafDom 0) = 0 ∧ gateBad.sgFault 0 0 = true
    ∧ getBits ((gateBad.start 7).justSet .LEAF_GATE 0 (sgPort 0)) (53 + 0 % 2) 1 = 0 := by decide
/-- The same fault, set at this stamp. -/
def gateNow : State := gateBad.flag F.LEAF_GATE_FAULT_A 0 0
theorem wit_faultClearNow : getBits ((gateNow.start 0).justSet .LEAF_GATE 0 (sgPort 0)) (53 + 0 % 2) 1 ≠ 0 := by decide
theorem wit_creditWindow : 0 ∈ live.gates 0 := by decide

theorem wit_grant : live.delivers (.leaf 0) 0 = true ∧ 0x2000 % 65536 = leafDom 0 := by decide
theorem wit_need : live.delivers (.node 0 0) 0 = true ∧ 0 < 64 := by decide
theorem wit_modeReq : Takes (withImg Pkg.hold) .fac ∧ (withImg Pkg.hold).pkg = Pkg.hold ∧ 2 % 4 ≠ 3 := ⟨⟨by decide, by decide⟩, by decide, by decide⟩
theorem wit_modeRange : Takes live .fac ∧ live.pkg ≠ Pkg.hold := ⟨⟨by decide, by decide⟩, by decide⟩
/-- LEVEL mode, with sub-gate 0 of leaf 0 held longer than the window allows. -/
def levelHeld : State := (live.wr F.HUB_MODE_MODE 1).setV .levHeld 100001 0 0
theorem wit_levelWindow : levelHeld.hubUp = true ∧ levelHeld.v .levAt < (max levelHeld.time 10000000 / 10000000 : Nat) ∧ 0 ∈ levelHeld.leaves
    ∧ 0 ∈ levelHeld.subGates 0 ∧ levelHeld.mode = 1 ∧ 100000 < levelHeld.v .levHeld 0 0 := by decide

theorem wit_mark : Takes live .fac ∧ Pkg.verify < live.pkg ∧ live.img.active.isSome = true ∧ live.strBusy (3 % 16) = false :=
  ⟨⟨by decide, by decide⟩, by decide, by decide, by decide⟩
/-- The invalidation of slot 3 runs. -/
def invalidating : State := (live.wr F.STR_STATUS_BUSY 1).wr F.STR_STATUS_BUSY_CTX 3
theorem wit_markHeld : Takes invalidating .fac ∧ Pkg.verify < invalidating.pkg ∧ invalidating.img.active.isSome = true ∧ invalidating.strBusy (3 % 16) = true :=
  ⟨⟨by decide, by decide⟩, by decide, by decide, by decide⟩
theorem wit_inv : Takes live .fac ∧ live.is F.STR_STATUS_BUSY = false ∧ 255 < 256 := ⟨⟨by decide, by decide⟩, by decide, by decide⟩
theorem wit_invBusy : Takes invalidating .fac ∧ invalidating.is F.STR_STATUS_BUSY = true := ⟨⟨by decide, by decide⟩, by decide⟩
theorem wit_wear : live.wearRuns = true ∧ (live.start 10000000000).bgDue 4 = true ∧ 0 ∈ live.railNums := by decide
/-- Slot 3 in phase 7 since time 0, on one gate; sample 2 has closed. -/
def sampled : State :=
  (((live.wr F.STR_CTX_PHASE 7 3).wr F.STR_CTX_IN_PHASE 1 3).setV .fp 4 0 3).setV .smpDone 2
theorem wit_sample : 2 ≤ sampled.vn .smpDone ∧ 0 ≤ sampled.v .smpDone ∧ sampled.v .smpNext (3 % 16) ≤ (2 : Nat)
    ∧ sampled.smpVisit (3 % 16) 2 = some 7 ∧ sampled.v .smpBad (3 % 16) 2 ≠ 1 ∧ sampled.footAll (3 % 16) ≠ 0
    ∧ sampled.vn .strWipe (3 % 16) 7 ≤ 10000 * 2 ∧ sampled.vn .strWipe (3 % 16) 256 ≤ 10000 * 2
    ∧ 64 * sampled.vn .smpOth (3 % 16) 2 ≤ 100 ∧ (16 * sampled.vn .smpBud (3 % 16) 2 ≤ 100 ∨ 100 ≤ 2 * sampled.vn .smpBud (3 % 16) 2) := by decide
/-- Rail 0 with VF entries of slots 2 and 5, in slot 5; slot 2 has been enough since time 0. -/
def vfLow : State :=
  { (live.wr F.RAIL_VSEL_SEL 5 0).setV .slowSlot 0 0 0 with
    img := { live.img with items := [⟨Sec.mode, 0x0004, 0, [2, 0x80, 5, 0xFF, 0xFF, 0, 0xFF, 0, 0xFF, 0, 0xFF, 0, 0xFF, 0, 0xFF, 0]⟩] } }
theorem wit_vfLower : vfLow.pkg = Pkg.run ∧ vfLow.mode = 0 ∧ (vfLow.vfList 0).findIdx? (fun x => Nat.beq x.1 (vfLow.rd F.RAIL_VSEL_SEL 0)) = some 1 ∧ 0 < 1
    ∧ 0 ≤ vfLow.v .slowSlot 0 0 ∧ vfLow.v .slowSlot 0 0 + 1000000 ≤ (max vfLow.time 1000000 : Nat)
    ∧ (∀ x, x < 0 → ¬ (0 ≤ vfLow.v .slowSlot 0 x ∧ vfLow.v .slowSlot 0 x + 1000000 ≤ (max vfLow.time 1000000 : Nat))) := by
  refine ⟨?_, ?_, ?_, ?_, ?_, ?_, ?_⟩ <;> decide

/-- An object of the privileged pool, of some type. -/
def objOf (typ target count : Nat) : State :=
  ((live.wr F.SYNC_OBJ_A_TYPE typ 20).wr F.SYNC_OBJ_A_TARGET target 20).wr F.SYNC_OBJ_B_COUNT count 20
theorem wit_syncInit : SyncTakes (objOf 0 0 0) .fac none 0x01 20 20 3 7 1 := by decide
theorem wit_syncTag : SyncTakes (objOf 1 4 0) .fac none 0x02 20 20 1 0 9 := by decide
theorem wit_syncArrive : SyncTakes (objOf 1 4 0) .fac none 0x03 20 20 0 0 0 ∧ 0 % 65536 = (objOf 1 4 0).objGen 20
    ∧ (objOf 1 4 0).objCount 20 + 1 < (objOf 1 4 0).objTarget 20 := by decide
theorem wit_syncSignal : SyncTakes (objOf 2 0 0) .fac none 0x04 20 20 5 0 0 ∧ (objOf 2 0 0).objW 20 = [] := by decide
theorem wit_syncSet : SyncTakes (objOf 3 0 0) .fac none 0x05 20 20 0 0 0 ∧ (objOf 3 0 0).objW 20 = [] := by decide
theorem wit_syncClear : SyncTakes (objOf 3 0 1) .fac none 0x06 20 20 0 0 0 := by decide
theorem wit_syncWait : SyncTakes (objOf 2 0 0) .fac none 0x07 20 20 0 0 0 ∧ (objOf 2 0 0).objType 20 = 2 ∧ (objOf 2 0 0).objCount 20 = 0
    ∧ (objOf 2 0 0).watchFree none = some 0 := by decide
/-- A core of leaf 0 waits for the semaphore. -/
def coreWaits : State := { objOf 2 0 0 with sync := { (objOf 2 0 0).sync with
  watches := [{ idx := 0, obj := 20, core := true, one := false, ctx := 0, gen := 0, leaf := 0, wid := 0, time := 0 }] } }
theorem wit_syncCancel : SyncTakes coreWaits .fac none 0x08 20 20 0 0 0 := by decide
theorem wit_syncFree : SyncTakes (objOf 1 4 0) .fac none 0x09 20 20 0 0 0 ∧ (objOf 1 4 0).objType 20 ≠ 4 := by decide
theorem wit_syncBreak : SyncTakes (objOf 1 4 0) .fac none 0x0A 20 20 0 0 0 ∧ (objOf 1 4 0).objW 20 = [] ∧ (objOf 1 4 0).objType 20 ≠ 4
    ∧ (objOf 1 4 0).is F.SYNC_OBJ_A_SHAPE_EN 20 = false := by decide
theorem wit_syncReset : SyncTakes (objOf 1 4 0) .fac none 0x0B 20 20 0 6 0 ∧ (objOf 1 4 0).objType 20 ≠ 4 := by decide
theorem wit_syncForce : SyncTakes (objOf 1 4 0) .fac none 0x10 20 20 0 0 0 ∧ (objOf 1 4 0).objW 20 = [] ∧ (objOf 1 4 0).is F.SYNC_OBJ_A_PTAG_EN 20 = false
    ∧ (objOf 1 4 0).rd F.SYNC_OBJ_B_NEXT 20 ≠ (objOf 1 4 0).objTarget 20 := by decide
theorem wit_syncSetCount : SyncTakes (objOf 2 0 0) .fac none 0x11 20 20 9 0 0 ∧ (objOf 2 0 0).objType 20 = 2 ∧ (objOf 2 0 0).objW 20 = [] := by decide

theorem wit_ctxSwitch : Takes live .fac ∧ 2 % 256 < 16 ∧ live.is F.SYNC_STATUS_SWITCH_BUSY = false ∧ live.sync.cur = [] ∧ live.mirrorOn = false :=
  ⟨⟨by decide, by decide⟩, by decide, by decide, by decide, by decide⟩
/-- A switch of slot 2 runs. -/
def switching : State := (live.wr F.SYNC_STATUS_SWITCH_BUSY 1).wr F.SYNC_STATUS_SWITCH_CTX 2
theorem wit_switchBusy : Takes switching .fac ∧ 2 % 256 < 16 ∧ switching.is F.SYNC_STATUS_SWITCH_BUSY = true :=
  ⟨⟨by decide, by decide⟩, by decide, by decide⟩
theorem wit_switchDone : switching.is F.SYNC_STATUS_SWITCH_BUSY = true ∧ switching.rd F.SYNC_STATUS_SWITCH_CTX = 2 ∧ switching.sync.cur = []
    ∧ (∀ o ∈ switching.slotObjs 2, switching.objType o ≠ 4) := by decide
/-- A batch is held for the mirror. -/
def batchHeld : State := { live with sync := { live.sync with held := [(0, [])] } }
theorem wit_mirrorConfirm : batchHeld.sync.held = (0, []) :: [] ∧ (∀ x ∈ batchHeld.ansHeld.head?, 0 ≤ x.time) := by decide
/-- A response is held for the mirror. -/
def ansWaits : State := { live with ansHeld := [⟨0, .reg 0 true, 0, true, .ok, 0⟩] }
theorem wit_mirrorAnswer : ansWaits.ansHeld = ⟨0, .reg 0 true, 0, true, .ok, 0⟩ :: []
    ∧ (∀ h ∈ ansWaits.sync.held.head?, (⟨0, .reg 0 true, 0, true, .ok, 0⟩ : AnsHeld).time < h.1) ∧ (⟨0, .reg 0 true, 0, true, .ok, 0⟩ : AnsHeld).st = .ok := by decide
theorem wit_absentReport : coreWaits.sync.cur = [] ∧ (∀ x ∈ coreWaits.sync.claims, coreWaits.beneath (leafDom x.1.leaf) 0x1000 = false)
    ∧ (coreWaits.sync.watches.filter fun w => coreWaits.beneath (leafDom w.leaf) 0x1000).length = 1 := by decide
/-- A spanning object whose stagger is over. -/
def staggered : State := (objOf 4 2 2).setV .spAt 0 20
theorem wit_stagger : 0 ≤ staggered.v .spAt 20 ∧ staggered.v .spAt 20 ≤ 1000 * (max staggered.time 0 : Nat) ∧ staggered.objW 20 = []
    ∧ staggered.is F.SYNC_OBJ_A_PTAG_EN 20 = false ∧ staggered.rd F.SYNC_OBJ_B_NEXT 20 ≠ staggered.objTarget 20 ∧ staggered.sync.cur = []
    ∧ staggered.mirrorOn = false := by decide

theorem wit_gateSync : (live.subGates 0).contains 1 = true ∧ live.sgReady 0 1 = true ∧ 8 ≤ 2047 % 2048 := by decide
/-- Sub-gate 1 of leaf 0 waits for generation 0 of object 3 of slot 0. -/
def gateWaits : State := ((live.waitSet 0 1 false false 0 3 0 false).setV .sgOut (1 + 3 + 16 * 0 + 256 * 0 + 4096 * 3 : Nat) 0 1)
theorem wit_relLeaf : gateWaits.delivers (.leaf 0) 0 = true ∧ 1 ∈ gateWaits.subGates 0 ∧ gateWaits.relMatch 0 1 (0 % 16) (3 % 2048) (0 % 1024) = true := by
  decide
/-- An operation of sub-gate 1 of leaf 0 is outstanding. -/
def gateOut : State := live.setV .sgOut (1 + 1 + 4096 * 3 : Nat) 0 1
theorem wit_direct : gateOut.delivers (.leaf 0) 0 = true ∧ gateOut.outOp 0 (1 % 64) = some (1, gateOut.leafEpoch 0 (0 % 16), 0 % 16, 3 % 2048)
    ∧ gateOut.waiting 0 (1 % 64) = false := by decide
theorem wit_lsync : 4097 % 2 = 1 ∧ 1 ≤ 4097 / 64 % 128 ∧ 4097 / 64 % 128 ≤ 64 ∧ live.is F.LEAF_LSYNC_EN 0 (7 % 8) = false := by decide
theorem wit_lsyncRange : 1 % 2 = 1 ∧ (1 / 64 % 128 = 0 ∨ 64 < 1 / 64 % 128) := by decide
theorem wit_lsyncOff : 0 % 2 = 0 := by decide

theorem wit_scoreTrip : live.ddPresent 0 = true := by decide
/-- SCORE holds a gate of leaf 0. -/
def scoreHeld : State := live.setV .scoreCode 128 0 0
theorem wit_scoreHold : scoreHeld.v .scoreCode 0 0 < 256 ∧ scoreHeld.v .scRamp 0 0 = 0 ∧ scoreHeld.vn .scHold 0 0 ≤ max scoreHeld.time 0 := by decide
/-- The estimate of rail 0 stands. -/
def calm : State := live.wr F.RAIL_FUSE_STATUS_STATE 0 0
theorem wit_ddCalibrate : calm.ddPresent 0 = true ∧ calm.pkg = Pkg.run
    ∧ (calm.start 100000).ddIdle ((calm.ddLeaf 0).getD 0) 0 (1000 * calm.par Sec.droop 0x000C ((calm.ddLeaf 0).getD 0) 0 2 2) = true ∧ calm.rd F.RAIL_FUSE_STATUS_STATE (calm.rd F.DD_MAP_RAIL 0) = 0
    ∧ calm.vn .fuseAt 0 + 1000 * calm.par Sec.droop 0x000C ((calm.ddLeaf 0).getD 0) 0 2 2 ≤ max calm.time 100000
    ∧ calm.vn .refAt 0 + 1000 * calm.par Sec.droop 0x000C ((calm.ddLeaf 0).getD 0) 0 2 2 ≤ max calm.time 100000 := by decide
theorem wit_ddCalReq : Takes live .fac ∧ live.ddLeaf 0 = some 0 ∧ live.pathUpTo (leafDom 0) = true := ⟨⟨by decide, by decide⟩, by decide, by decide⟩
theorem wit_ddCalAbsent : Takes (withImg Pkg.run) .fac ∧ (withImg Pkg.run).ddLeaf 0 = some 0 ∧ (withImg Pkg.run).pathUpTo (leafDom 0) = false :=
  ⟨⟨by decide, by decide⟩, by decide, by decide⟩
theorem wit_ddStale : live.ddPresent 0 = true ∧ live.vn .ddCalAt 0 + 1000000 * live.par Sec.droop 0x000D idxAll 0 4 1000 ≤ max live.time 1000000000 := by
  decide

/-- Slot 0 owns object 20, a barrier that completes soon, and the step expected of the slot is large. -/
def riseSoon : State :=
  let s := ((((objOf 1 4 3).wr F.SYNC_CTX_OBJ_COUNT 32 0).setV .obThat 0 20).wr F.SHP_CTRL_RISE_EN 1).wr F.RAIL_VSEL_REF 10 0
  { s.setV .fp 4 0 0 with img := { s.img with items := [⟨Sec.shaping, 0x000A, 0, [0, 0, 1, 0]⟩, ⟨Sec.shaping, 0x0006, 0, [1, 0, 0, 0]⟩,
      ⟨Sec.estCoeff, 0x101, 0, [0]⟩] } }
set_option maxRecDepth 8192 in
theorem wit_riseOpen1 : 0 ≤ riseSoon.v .obThat 20 ∧ riseSoon.v .obThat 20 - riseSoon.riseLead 0 ≤ (max riseSoon.time 0 : Nat) := by decide
set_option maxRecDepth 8192 in
theorem wit_riseOpen2 : riseSoon.allRails.contains 0 = true ∧ riseSoon.is F.SHP_CTRL_RISE_EN = true ∧ riseSoon.is F.RAIL_RISE_EXH 0 = false := by decide
set_option maxRecDepth 8192 in
theorem wit_riseOpen3 : riseSoon.pkg = Pkg.run ∧ riseSoon.sync.rise = [] := by decide
set_option maxRecDepth 8192 in
theorem wit_riseOpen4 : riseSoon.slotOf 20 = some 0 := by decide
set_option maxRecDepth 8192 in
theorem wit_riseOpen5 : riseSoon.shp 0x0006 0 4 0xFFFF_FFFF = 1 := by decide
set_option maxRecDepth 8192 in
theorem wit_riseStep1 : riseSoon.stepQ 20 0 0 = some 65536 ∧ riseSoon.rd F.RAIL_VSEL_REF 0 = 10 := by decide
set_option maxRecDepth 8192 in
theorem wit_riseStep2 : ((riseSoon.issueLeaves 0).map fun l => riseSoon.foot l 0) = [4] := by decide
set_option maxRecDepth 8192 in
theorem wit_riseStep3 : riseSoon.nsub 0 ≤ riseSoon.objTarget 20 := by decide
theorem wit_riseStep : riseSoon.riseStep 20 0 0 = some 52429 := by
  unfold State.riseStep
  rw [wit_riseStep1.1]
  simp only [Option.map_some, wit_riseStep2, wit_riseStep3, if_true]
  unfold State.stepMa
  rw [wit_riseStep1.2]
  norm_num [ratRound, sumNat]
  decide
/-- A live RISE request. -/
def theRise : RiseReq := { obj := 20, gen := 0, rail := 0, opened := 0, live := true, post := none, stop := none, amp := 0, life := 1000, after := 0 }
def riseLives : State := { live with sync := { live.sync with rise := [theRise] } }
theorem wit_riseTimeout : theRise ∈ riseLives.sync.rise ∧ theRise.live = true ∧ theRise.obj = 20 ∧ theRise.rail = 0 ∧ theRise.post = none
    ∧ theRise.opened + theRise.life ≤ max riseLives.time 20000 := by decide
/-- The offset of rail 0 is one step from its target. -/
def riseMoves : State := (live.wr F.RAIL_RISE_TARGET 1 0).setV .riseSlew 10 0
theorem wit_riseSlew : riseMoves.v .riseOff 0 ≠ riseMoves.rd F.RAIL_RISE_TARGET 0
    ∧ 500 ≤ (max riseMoves.time 50 - riseMoves.vn .riseAt 0) * riseMoves.vn .riseSlew 0 := by decide
/-- The exposure of rail 0 has reached its limit. -/
def exposed : State := live.wr F.RAIL_RISE_EXPO_EXPO 50000000 0
theorem wit_riseExh : exposed.is F.RAIL_RISE_EXH 0 = false ∧ 1000 * exposed.shp 0x0007 0 4 50000 ≤ exposed.rd F.RAIL_RISE_EXPO_EXPO 0 := by decide
/-- A wave holds sub-gate 0 of leaf 0. -/
def waveHeld : State := (live.wr F.CRUST_STATUS_STOP 0).setV .proofHold 1 0 0
theorem wit_wave : waveHeld.v .proofHold 0 0 = 1 ∧ waveHeld.vn .wvAt 0 0 ≤ max waveHeld.time 0 ∧ waveHeld.crustStop = false := by decide

/-- Phase channel 0 runs. -/
def phaseRuns : State := ((live.wr F.PH_STAT_PHST 1 0).wr F.RAIL_SYNC_DIV 1000 0).setV .phStart 0 0
/-- Its last cycle, in which the current met the limit of a peak command of 0. -/
def itsCycle : Cyc := cycRun ⟨phaseRuns.v .phU 0, phaseRuns.rd F.RAIL_PCM_SLOPE (phaseRuns.phRail 0), phaseRuns.ipkLim (phaseRuns.phRail 0),
  phaseRuns.negLim (phaseRuns.phRail 0), phaseRuns.perTicks (phaseRuns.phRail 0), phaseRuns.is F.RAIL_STATE_NOSINK (phaseRuns.phRail 0)⟩ [(20, 90000)]
theorem wit_phase : phaseRuns.pkg ≠ Pkg.ramp ∧ phaseRuns.v .downFor = 0 ∧ (phaseRuns.inst? 0x0A 0).isSome = true ∧ phaseRuns.rd F.PH_STAT_PHST 0 = 1
    ∧ (phaseRuns.start 500).phTick (phaseRuns.phRail 0) 0 = some 1000 ∧ 0 ≤ phaseRuns.v .phStart 0
    ∧ itsCycle = cycRun ⟨phaseRuns.v .phU 0, phaseRuns.rd F.RAIL_PCM_SLOPE (phaseRuns.phRail 0), phaseRuns.ipkLim (phaseRuns.phRail 0),
      phaseRuns.negLim (phaseRuns.phRail 0), phaseRuns.perTicks (phaseRuns.phRail 0), phaseRuns.is F.RAIL_STATE_NOSINK (phaseRuns.phRail 0)⟩ [(20, 90000)]
    ∧ itsCycle.cbc = true := by
  decide
/-- Rail 0 in a state. -/
def railIn (k : Nat) : State := (live.wr F.RAIL_STATE_STATE k 0).wr F.RAIL_SYNC_DIV 1000 0
theorem wit_railSample : (railIn 1).pkg ≠ Pkg.ramp ∧ (railIn 1).v .downFor = 0 ∧ ((railIn 1).rail? 0).isSome = true ∧ (railIn 1).monitored 0 = false
    ∧ (railIn 1).railSt 0 = Rs.measure ∧ (railIn 1).v .measN 0 < 16 ∧ ((railIn 1).start 500).rlTick 0 = some 1000 := by decide
theorem wit_measDone : ((railIn 1).setV .measN 16 0).pkg ≠ Pkg.ramp ∧ ((railIn 1).setV .measN 16 0).v .downFor = 0
    ∧ ((railIn 1).setV .measN 16 0).railSt 0 = Rs.measure ∧ 16 ≤ ((railIn 1).setV .measN 16 0).v .measN 0 := by decide
/-- Rail 0 in ON with a reference and a target. -/
def railSlews (b g : Nat) : State := ((railIn 4).wr F.RAIL_VSEL_BASE_REF b 0).wr F.RAIL_VSEL_BASE_TGT g 0
theorem wit_slewUp : (railSlews 5 9).pkg ≠ Pkg.ramp ∧ (railSlews 5 9).v .downFor = 0 ∧ (railSlews 5 9).railSt 0 = Rs.on
    ∧ (railSlews 5 9).rd F.RAIL_VSEL_BASE_REF 0 < (railSlews 5 9).rd F.RAIL_VSEL_BASE_TGT 0
    ∧ (railSlews 5 9).vn .slewAt 0 + stepNs ((railSlews 5 9).slewRate 0 0) ≤ max (railSlews 5 9).time 50 := by decide
theorem wit_slewDown : (railSlews 9 5).rd F.RAIL_VSEL_BASE_TGT 0 < (railSlews 9 5).rd F.RAIL_VSEL_BASE_REF 0
    ∧ (railSlews 9 5).vn .slewAt 0 + stepNs ((railSlews 9 5).slewRate 0 1) ≤ max (railSlews 9 5).time 50 := by decide
/-- Rail 0 starts and has been in range. -/
def railRises : State := ((railIn 3).wr F.RAIL_VSEL_REF ((railIn 3).startTarget 0) 0).setV .pgFrom 0 0
theorem wit_targetPg : railRises.pkg ≠ Pkg.ramp ∧ railRises.v .downFor = 0 ∧ railRises.railSt 0 = Rs.soft
    ∧ railRises.rd F.RAIL_VSEL_REF 0 = railRises.startTarget 0 ∧ 0 ≤ railRises.v .pgFrom 0
    ∧ railRises.v .pgFrom 0 + 1000 * railRises.pgDly 0 ≤ (max railRises.time 10000000 : Nat) := by decide

theorem wit_vsel : Takes (withImg Pkg.hold) .fac ∧ ((withImg Pkg.hold).rail? 0).isSome = true ∧ (withImg Pkg.hold).pkg = Pkg.hold :=
  ⟨⟨by decide, by decide⟩, by decide, by decide⟩
theorem wit_vselRange : Takes live .fac ∧ (live.rail? 0).isSome = true ∧ live.pkg ≠ Pkg.hold := ⟨⟨by decide, by decide⟩, by decide, by decide⟩
theorem wit_vselAbsent : Takes live .fac ∧ (live.rail? 1).isSome = false := ⟨⟨by decide, by decide⟩, by decide⟩
/-- Rail 0 with limits. -/
def limited : State := (live.wr F.RAIL_LIM_VMIN 100 0).wr F.RAIL_LIM_VMAX 200 0
theorem wit_vslot : Takes limited .fac ∧ (limited.rail? 0).isSome = true ∧ limited.rd F.RAIL_LIM_VMIN 0 ≤ 100 ∧ 200 ≤ limited.rd F.RAIL_LIM_VMAX 0
    ∧ 99 < limited.rd F.RAIL_LIM_VMIN 0 ∧ limited.rd F.RAIL_LIM_VMAX 0 < 201 := ⟨⟨by decide, by decide⟩, by decide, by decide, by decide, by decide, by decide⟩
theorem wit_phaseCmd : Takes live .fac ∧ (live.inst? 0x0A 0).isSome = true := ⟨⟨by decide, by decide⟩, by decide⟩
theorem wit_isns : (live.inst? 0x0A 0).isSome = true ∧ (live.start 5000).phCalReady 0 = true ∧ live.v .phCalDone 0 = 0 := by decide
/-- Rail 0 in a state of shedding. -/
def shedIn (k : Nat) : State := (live.wr F.RAIL_SHED_STAT_SHST k 0).setV .shedChk 1 0
/-- Channel 0 of rail 0 is being shed, and the loop's check has been passed. -/
def shedChecked (ofs : Nat) : State :=
  ((((shedIn 3).wr F.PH_STAT_PHST 2 0).wr F.RAIL_SYNC_DIV 1000 0).wr F.RAIL_SYNC_OFS ofs 0).setV .phStart 0 0
theorem wit_shedDisable : (shedChecked 7).pkg ≠ Pkg.ramp ∧ (shedChecked 7).v .downFor = 0 ∧ (shedChecked 7).islPlanned = false
    ∧ (shedChecked 7).phIn 0 2 = 0 :: [] ∧ ((shedChecked 7).start 500).phTick 0 0 = some 1000 ∧ (shedChecked 7).shedReady 0 1000 = true
    ∧ ((shedChecked 7).start 500).rlTick 0 = none := by decide
theorem wit_shedWaits : (shedChecked 0).pkg ≠ Pkg.ramp ∧ (shedChecked 0).v .downFor = 0 ∧ (shedChecked 0).phIn 0 2 = 0 :: []
    ∧ ((shedChecked 0).start 500).phTick 0 0 = some 1000 ∧ (shedChecked 0).shedReady 0 1000 = true
    ∧ (((shedChecked 0).start 500).rlTick 0).isSome = true := by decide
theorem wit_shedTimeout : (shedIn 2).rd F.RAIL_SHED_STAT_SHST 0 = 2 ∧ (shedIn 2).vn .shedAt 0 + 1000 ≤ max (shedIn 2).time 1000 := by decide
/-- Leaf 0 draws its issue power from rail 0. -/
def issues : State := { live with img := { live.img with items := [⟨Sec.estCoeff, 0x101, 0, [0]⟩] } }
theorem wit_leafShed : issues.issueRail 0 = some (0 % 32) := by decide
/-- A shed hold of leaf 0. -/
def shedHeld : State := live.wr F.LEAF_SHED_HOLD 1 0
theorem wit_shedHold : shedHeld.is F.LEAF_SHED_HOLD 0 = true ∧ 2 ^ 31 ≤ (shedHeld.rd F.LEAF_SHED_EXPIRE 0 + 2 ^ 32 - (shedHeld.start 0).islNow (leafDom 0) % 2 ^ 32 - 1) % 2 ^ 32 := by
  decide
/-- The reference of rail 0 has moved. -/
def refMoved : State := issues.wr F.RAIL_VSEL_REF 700 0
theorem wit_vref : max refMoved.time 500 % 500 = 0 ∧ (∃ x ∈ refMoved.vrefs 0, refMoved.v .vrefSent 0 x.1 ≠ (x.2 : Int))
    ∧ (refMoved.hubCmd (leafDom 0) 3 (islOff .LEAF_VREF 0) (vrefWord (refMoved.vrefs 0)) .own).1 = true := by decide

/-- Site 0 of leaf 0 is enabled. -/
def siteOn : State := ((running.wr F.TS_CTRL_EN 1 0).wrI F.TS_THR_SHUTDOWN 7040 0)
theorem wit_conversion : siteOn.inst? 7 0 = some ⟨7, false, 0, 0, 0x2000⟩ ∧ siteOn.is F.TS_CTRL_EN 0 = true ∧ 0x2000 ≠ hubDom ∧ siteOn.v .islFields 0x2000 = 1 ∧ 0 < 0x8000
    ∧ siteOn.v .tsDone 0 ≠ (max siteOn.time 0 / 20000 + 1 : Nat) ∧ (1600 : Int) = satS 16 (1600 + (siteOn.start 0).corrOf 0) ∧ 1600 < (siteOn.thrOf 0 2).1
    ∧ siteOn.is F.TS_CAL_BAD 0 = false ∧ siteOn.vn .tsEn 0 ≤ 20000 * (max siteOn.time 0 / 20000) + 1 := by
  decide
theorem wit_conversionLapse : (live.start 0).siteTemp? 0 = none := by decide
theorem wit_leafTemp : running.v .islFields (leafDom 0) = 1 ∧ running.v .ltPer 0 ≠ (max running.time 0 / 20000 + 1 : Nat) := by decide
theorem wit_tempReport : live.delivers (.hub 1) 0 = true := by decide
theorem wit_reportLapse : (live.start 0).repUsable 0 0 = false := by decide
/-- Site 0 has a reference site, and a calibration pass has run for long. -/
def calRunning : State := (live.wr F.THM_STATUS_CAL_BUSY 1).wr F.TS_CAL_REF_SITE 1 0
theorem wit_calPass : live.calRuns = true ∧ (live.start 0).bgDue 1 = true ∧ live.is F.THM_STATUS_CAL_BUSY = false ∧ calRunning.calRuns = true
    ∧ calRunning.is F.THM_STATUS_CAL_BUSY = true
    ∧ calRunning.vn .calAt + 1000000000 ≤ max calRunning.time 1000000000 := by decide
theorem wit_calRst : Takes live .fac ∧ (live.inst? 7 0).isSome = true ∧ (live.inst? 7 1).isSome = false := ⟨⟨by decide, by decide⟩, by decide, by decide⟩
theorem wit_sensorLoss : isLeaf 0x2000 = true ∧ siteOn.v .islFields 0x2000 = 1 ∧ siteOn.is F.LEAF_THERM_LOSS (domNum 0x2000) = false
    ∧ siteOn.sitesOf 0x2000 ≠ [] ∧ siteOn.lastGood 0x2000 + 1000 * (siteOn.par Sec.thermal 0x0014 idxAll 0 2 200 : Nat) ≤ (max siteOn.time 1000000 : Nat) := by
  decide

theorem wit_tcell : running.inst? 6 0 = some ⟨6, false, 0, 0, 0x2000⟩ ∧ 0x2000 ≠ hubDom ∧ running.v .islFields 0x2000 = 1
    ∧ running.cellAt 0 = some (false, 0, 0) ∧ running.cellInputs 0 = (none, none, none) := by decide
/-- The temperature of leaf 0 throttles cell 0. -/
def throttled : State := ((running.wr F.LEAF_THERM_LEVEL 2 0).wr F.LEAF_TCELL_THR_DIV 1 0 0).wr F.LEAF_TCELL_THR_SKIP 0x5555 0 0
theorem wit_tcellThr : throttled.inst? 6 0 = some ⟨6, false, 0, 0, 0x2000⟩ ∧ 0x2000 ≠ hubDom ∧ throttled.v .islFields 0x2000 = 1
    ∧ throttled.cellAt 0 = some (false, 0, 0) ∧ throttled.cellInputs 0 = (some (1, 0x5555), none, none) ∧ 0x5555 < 65536 ∧ 4 ≤ (bitList 0x5555 16).length := by decide
theorem wit_thrReq : live.leaves.contains 0 = true ∧ live.v .islHeld (leafDom 0) = 0 := by decide
theorem wit_stack : running.stackAt 0 = some (0, 0) ∧ running.v .islFields (leafDom 0) = 1 ∧ satS 16 100 < (running.thrOf (0x8000 + 0) 2).1
    ∧ running.is F.LEAF_STACK_STALE 0 0 = false
    ∧ max (running.v .stkAt 0) (running.v .thFrom (leafDom 0)) + 1000 * (running.par Sec.thermal 0x0041 idxAll 0 2 2000 : Nat) ≤ (max running.time 10000000 : Nat) := by
  decide

theorem wit_absTrip : Pkg.verify < (railIn 4).pkg ∧ (railIn 4).bodyOwner 0 = some 0x2000 ∧ 0 < 0x8000 ∧ (railIn 4).supplied 0x2000 = true := by decide
/-- Rail 0 has counted enough conversions of each kind. -/
def railBad : State := ((railIn 4).setV .ocCnt 9 0).setV .ovCnt 9 0 |>.setV .uvCnt 9 0
theorem wit_railTrips : Pkg.verify < railBad.pkg ∧ (railBad.rail? 0).isSome = true ∧ railBad.monitored 0 = false
    ∧ bitOf (railBad.rd F.CRUST_RAIL_OC) 0 = false ∧ bitOf (railBad.rd F.CRUST_RAIL_OV) 0 = false ∧ bitOf (railBad.rd F.CRUST_RAIL_UV_UV) 0 = false
    ∧ railBad.par Sec.timing 0x0011 0 2 1 4 ≤ railBad.vn .ocCnt 0 ∧ railBad.ovuv 0 2 1 2 ≤ railBad.vn .ovCnt 0 ∧ railBad.ovuv 0 3 1 4 ≤ railBad.vn .uvCnt 0 := by
  decide
/-- The UV hold of rail 0 has expired, and a conversion has come since. -/
def uvHeld : State := (railBad.setV .uvEnd 0 0).setV .rlTick 2 0
theorem wit_uvHalt : uvHeld.pkg ≠ Pkg.ramp ∧ uvHeld.v .downFor = 0 ∧ 0 ≤ uvHeld.v .uvEnd 0
    ∧ 2 * uvHeld.v .uvEnd 0 ≤ uvHeld.v .rlTick 0 ∧ 0 < uvHeld.vn .uvCnt 0
    ∧ uvHeld.railSt 0 = Rs.on ∧ uvHeld.monitored 0 = false := by decide
theorem wit_brake : live.pkg ≠ Pkg.off ∧ live.is F.CRUST_STATUS_BRAKE_ACTIVE = false ∧ live.leaves.contains 0 = true ∧ live.v .islHeld (leafDom 0) = 0 := by
  decide
theorem wit_brakeRelease : (live.wr F.CRUST_STATUS_BRAKE_ACTIVE 1).is F.CRUST_STATUS_BRAKE_ACTIVE = true := by decide
theorem wit_latchClear : Takes live .fac ∧ 6 < 7 := ⟨⟨by decide, by decide⟩, by decide⟩

/-- Source 0 is pending and enabled for target 1. -/
def srcDue : State := (((live.wr F.EVC_SRC_CFG_EN 1 0).wr F.EVC_SRC_CFG_TARGET 1 0).wr F.EVC_SRC_CFG_PRI 0x43 0).wr F.EVC_SRC_STATE_PEND 1 0
set_option maxRecDepth 8192 in
theorem wit_evcAck : Takes srcDue .fac ∧ srcDue.frozen 1 = false ∧ srcDue.stackFull 1 = false ∧ srcDue.selectSrc 1 = some 0
    ∧ 1 < srcDue.evt.evStk.length ∧ srcDue.selectSrc 0 = none := ⟨⟨by decide, by decide⟩, by decide, by decide, by decide, by decide, by decide⟩
/-- Source 0 is active at target 1, and its latch is set. -/
def srcActive : State := (((live.wr F.EVC_SRC_CFG_CODE 1 0).wr F.EVC_SRC_STATE_ACTIVE 1 0).wr F.EVC_SRC_STATE_LATCH 1 0).setStack 1 [(0, 4)]
set_option maxRecDepth 8192 in
theorem wit_evcEoi : Takes srcActive .fac ∧ srcActive.frozen 1 = false ∧ (srcActive.stackOf 1).getLast? = some (1024 % 1024, 4)
    ∧ 1 < srcActive.evt.evStk.length ∧ srcActive.srcLevel (1024 % 1024) = true ∧ ((srcActive.stackOf 1).getLast?.map (·.1)) ≠ some (1023 % 1024) :=
  ⟨⟨by decide, by decide⟩, by decide, by decide, by decide, by decide, by decide⟩
/-- Target 1 is frozen. -/
def frozenT : State := srcActive.wr F.EVC_TSTAT_FROZEN 1 1
set_option maxRecDepth 8192 in
theorem wit_evcRecover : Takes frozenT .fac ∧ frozenT.frozen 1 = true
    ∧ (frozenT.stackOf 1).findIdx? (fun y => Nat.beq y.1 (0 % 1024)) = some 0 ∧ (frozenT.stackOf 1).findIdx? (fun y => Nat.beq y.1 (1023 % 1024)) = none
    ∧ 1 < frozenT.evt.evStk.length := ⟨⟨by decide, by decide⟩, by decide, by decide, by decide, by decide⟩

set_option maxRecDepth 8192 in
theorem wit_eventMsg : live.delivers (.hub 1) 0 = true ∧ flagKind 0x01 = false ∧ live.findSrc 0x01 0 = some 0 := by decide
set_option maxRecDepth 8192 in
theorem wit_setpend : Takes srcDue .fac ∧ srcDue.srcDefined 0 = true ∧ srcDue.is F.EVC_SRC_STATE_ACTIVE 0 = false ∧ srcDue.srcDefined 1023 = false
    ∧ srcDue.srcLevel 0 = false := ⟨⟨by decide, by decide⟩, by decide, by decide, by decide, by decide⟩
set_option maxRecDepth 8192 in
theorem wit_setpendActive : Takes srcActive .fac ∧ srcActive.srcDefined 0 = true ∧ srcActive.is F.EVC_SRC_STATE_ACTIVE 0 = true :=
  ⟨⟨by decide, by decide⟩, by decide, by decide⟩
/-- Source 0 carries CLK_FAIL. -/
def nmiSrc : State := live.wr F.EVC_SRC_CFG_CODE 0x50 0
set_option maxRecDepth 8192 in
theorem wit_srcCfg : Takes live .fac ∧ live.srcDefined 0 = true ∧ 0x42008107 / 2 ^ 16 % 16 = 0 ∧ alwaysNmi (live.rd F.EVC_SRC_CFG_CODE 0) = false
    ∧ alwaysNmi (nmiSrc.rd F.EVC_SRC_CFG_CODE 0) = true ∧ 0x40010000 / 2 ^ 16 % 16 ≠ 0 ∧ bitOf 0x40010000 30 = true :=
  ⟨⟨by decide, by decide⟩, by decide, by decide, by decide, by decide, by decide, by decide⟩
/-- Group 2 has an open window and holds source 0. -/
def groupOpen : State := ((((live.wr F.EVC_SRC_CFG_GRP_EN 1 0).wr F.EVC_SRC_CFG_GROUP 2 0).wr F.EVC_SRC_STATE_HELD 1 0).wr F.EVC_GRP_A_OPEN 1 2).wr F.EVC_GRP_A_TIME_TH 50 2
set_option maxRecDepth 8192 in
theorem wit_groupFire : (groupOpen.start 50000).grpLapsed 2 = true ∧ 0 ∈ groupOpen.grpMembers 2 := by decide

/-- The small image with a link: port 0 to the tree parent, port 1 to a tree child, port 2 to a lease peer. -/
def imgLink : Image := { img0 with dxl := some ⟨5, 0, 2, 1, 4, 7, [], [⟨true, 4⟩, ⟨true, 9⟩, ⟨true, 10⟩]⟩ }
/-- The small image with a link, in RUN. -/
def linkDn : State := { live with img := { live.img with active := some imgLink } }
/-- The same with its three ports UP. -/
def linked : State := ((linkDn.portShow 0 Lk.up).portShow 1 Lk.up).portShow 2 Lk.up
/-- A frame of a port that is accepted. -/
def frameOf (n src : Nat) : FrameHdr := ⟨n, src, 0, 0, true⟩
set_option maxRecDepth 8192 in
theorem wit_linkUp : linkDn.portSt 1 = Lk.down ∧ linkDn.dxl? = imgLink.dxl ∧ (⟨true, 9⟩ : DxlPortRec) ∈ (imgLink.dxl.bind fun d => d.ports[1]?)
    ∧ linkDn.vn .authAt 1 ≤ max linkDn.time 0 ∧ (linkDn.wr F.DXL_PORT_A_LINK_UP 1 1).is F.DXL_PORT_A_LINK_UP 1 = true := by decide
set_option maxRecDepth 8192 in
theorem wit_linkDown : linked.portSt 1 ≠ Lk.down ∧ 2 ≤ linked.portSt 1 ∧ linked.vn .rxLast 1 + 1000 * linked.lnk 0x0031 2 50 ≤ max linked.time 50000 := by
  decide
set_option maxRecDepth 8192 in
theorem wit_authDone : (linkDn.portShow 1 Lk.auth).portSt 1 = Lk.auth ∧ (linkDn.portShow 1 Lk.auth).pkg ≠ Pkg.fail := by decide
set_option maxRecDepth 8192 in
theorem wit_dxlHeartbeatSend : linked.hubUp = true ∧ linked.portSt 1 = Lk.up ∧ linked.vn .txLast 1 + 1000 * linked.lnk 0x0030 2 10 ≤ max linked.time 10000
    ∧ linked.sync.cur = [] ∧ linked.rd F.DXL_PORT_A_TX_SEQ 1 ≠ 0xFFFF_FFFF ∧ linked.v .txStop 1 = 0 := by decide
set_option maxRecDepth 8192 in
theorem wit_dxlKeyUpdate : 2 ≤ linked.portSt 1 ∧ linked.rd F.DXL_PORT_A_KEYID 1 = 0 ∧ linked.is F.DXL_PORT_A_REQUESTER 1 = false := by decide
set_option maxRecDepth 8192 in
theorem wit_linkOk : LinkOk linked (frameOf 1 9) := by decide
set_option maxRecDepth 8192 in
theorem wit_failNotice : LinkOk linked (frameOf 1 9) ∧ linked.sync.cur = [] ∧ linked.portSt 1 = Lk.up ∧ 9 % 65536 = (frameOf 1 9).src
    ∧ linked.v .txStop 1 = 0 := by decide
set_option maxRecDepth 8192 in
theorem wit_refusedFrame : ¬ LinkOk linked (frameOf 1 8) := by decide

/-- The linked state with a spanning object 20 of slot 0, whose local count is reached. -/
def spanning : State :=
  ((((linked.wr F.SYNC_CTX_OBJ_COUNT 64 0).wr F.SYNC_OBJ_A_TYPE 4 20).wr F.SYNC_OBJ_A_TARGET 2 20).wr F.SYNC_OBJ_A_UP 1 20).wr F.DXL_JOB_JOB 6 0
/-- The same before it. -/
def spanWaits : State := spanning.wr F.SYNC_OBJ_A_UP 0 20
set_option maxRecDepth 8192 in
theorem wit_arriveFrame : LinkOk spanWaits (frameOf 1 9) ∧ spanWaits.sync.cur = [] ∧ spanWaits.slotOf 20 = some 0 ∧ spanWaits.treeChildren.contains 1 = true
    ∧ spanWaits.spanLive 20 = true ∧ spanWaits.is F.SYNC_OBJ_A_UP 20 = false ∧ 0 = spanWaits.objGen 20 ∧ 1 = (spanWaits.objGen 20 + 1) % 65536 := by
  decide
set_option maxRecDepth 8192 in
theorem wit_gathers : LinkOk spanning (frameOf 1 9) ∧ spanning.sync.cur = [] ∧ spanning.slotOf 20 = some 0 ∧ spanning.treeChildren.contains 1 = true
    ∧ spanning.spanLive 20 = true ∧ spanning.is F.SYNC_OBJ_A_UP 20 = true ∧ bitOf (spanning.vn .spArr 20) 1 = false
    ∧ (∀ k ∈ spanning.treeChildren, k ≠ 1 → bitOf (spanning.vn .spArr 20) k = true) ∧ spanning.treeParent = some 0 ∧ spanning.portUp 0 = true
    ∧ spanning.mirrorOn = false ∧ spanning.rd F.DXL_PORT_A_TX_SEQ 0 ≠ 0xFFFF_FFFF ∧ spanning.v .txStop 0 = 0 ∧ 5 ≠ spanning.rd F.DXL_JOB_JOB 0 := by
  decide
/-- The same with a stagger of 1 slot of 1,000 ps. -/
def spanStagger : State :=
  { spanning with img := { spanning.img with items := [⟨Sec.shaping, 0x0015, idxAll, [1]⟩, ⟨Sec.shaping, 0x0016, idxAll, [0xE8, 3, 0, 0]⟩] } }
set_option maxRecDepth 8192 in
theorem wit_releaseFrame : LinkOk spanStagger (frameOf 0 4) ∧ spanStagger.slotOf 20 = some 0 ∧ spanStagger.treeParent = some (frameOf 0 4).port
    ∧ spanStagger.spanLive 20 = true ∧ spanStagger.is F.SYNC_OBJ_A_UP 20 = true ∧ spanStagger.stagger ≠ 0 ∧ spanStagger.sync.cur = [] := by decide
set_option maxRecDepth 8192 in
theorem wit_breakFrame : LinkOk spanning (frameOf 0 4) ∧ spanning.treePorts.contains 0 = true ∧ 20 ∈ spanning.spans := by decide
set_option maxRecDepth 8192 in
theorem wit_tsync : linked.hubUp = true ∧ linked.treeParent = some 0 ∧ linked.portUp 0 = true ∧ linked.vn .tsAt + 1000 * linked.lnk 0x0032 2 10 ≤ max linked.time 10000
    ∧ linked.rd F.DXL_PORT_A_TX_SEQ 0 ≠ 0xFFFF_FFFF ∧ LinkOk linked (frameOf 1 9) ∧ linked.portUp 1 = true := by decide
/-- A TIME_SYNC request with T1 = 100 is outstanding; the first since the parent port is UP. -/
def asked : State := (linked.setV .tsT1 101).setV .tsFirst 1
set_option maxRecDepth 8192 in
theorem wit_timeSyncReply : LinkOk asked (frameOf 0 4) ∧ asked.treeParent = some 0 ∧ asked.portSt 0 = Lk.up ∧ asked.v .tsT1 ≠ 0
    ∧ (asked.vn .tsT1 - 1) % 2 ^ 32 = 100 % 2 ^ 32 ∧ (400 : Int) = roundDiv ((600 - toSigned 64 (asked.vn .tsT1 - 1)) + (600 + (0 : Nat) - (asked.start 300).sysTime)) 2
    ∧ asked.v .tsFirst = 1 ∧ (asked.setV .tsFirst 0).v .tsFirst = 0 ∧ (asked.start 300).sysOfs + 400 < (2 ^ 63 : Nat) := by decide

/-- Port 2 borrows 1,000 mW until 5,000 ns. -/
def borrows : State := (linked.wr F.DXL_PORT_C_LEASE 1000 2).setV .lsEnd 5000 2
/-- The peer of port 2 wants 600 mW, and 400 mW can be spared. -/
def lendsOut : State := (linked.wr F.DXL_OFFER_SPARE 400).setV .ofWant 600 2
/-- Port 2 lends 1,000 mW until 5,000 ns. -/
def lent : State := borrows.wr F.DXL_PORT_C_LENDER 1 2
set_option maxRecDepth 8192 in
theorem wit_leaseGrid : linked.hubUp = true ∧ (linked.start 100000).sysTime / 100000 ≠ linked.v .lsGrid ∧ linked.lentPorts = []
    ∧ 0 = (if linked.leaseTrades = true then linked.leaseWant else 0)
    ∧ 0 = (if linked.leaseTrades = false ∨ 0 < linked.v .leaseBorrowed ∨ 0 < 0 then 0 else linked.rd F.HUB_CAPS_SURPLUS - linked.lnk 0x0036 4 50000) := by
  decide
set_option maxRecDepth 8192 in
theorem wit_leaseOffer : LinkOk linked (frameOf 2 10) ∧ linked.sync.cur = [] ∧ linked.dxl? = imgLink.dxl ∧ imgLink.dxl.map (·.feed) = some (7 % 2 ^ 16)
    ∧ linked.leasePorts.contains 2 = true := by decide
set_option maxRecDepth 8192 in
theorem wit_leaseDecision : lendsOut.hubUp = true ∧ lendsOut.leaseAmt 2 = 0 ∧ lendsOut.rd F.DXL_OFFER_SPARE = 400 ∧ 600 = sumNat ((lendsOut.leasePorts.filter fun n => lendsOut.portUp n).map fun n => lendsOut.vn .ofWant n)
    ∧ (1000000 : Int) = 100000 * lendsOut.v .lsGrid + 1000 * lendsOut.lnk 0x0034 4 1000 ∧ 2 ∈ lendsOut.leasePorts := by decide
set_option maxRecDepth 8192 in
theorem wit_leaseGrant : LinkOk borrows (frameOf 2 10) ∧ borrows.sync.cur = [] ∧ borrows.leasePorts.contains 2 = true
    ∧ borrows.lseqNew 2 (1 % 2 ^ 16) = true ∧ borrows.lends 2 = false ∧ borrows.leaseAmt 2 ≤ 1000 % 2 ^ 32 ∧ 999 % 2 ^ 32 < borrows.leaseAmt 2
    ∧ borrows.lseqNew 2 (65536 % 2 ^ 16) = false ∧ borrows.leaseAmt 2 ≠ 0 := by decide
set_option maxRecDepth 8192 in
theorem wit_leaseEnds : borrows.lends 2 = false ∧ 0 < borrows.leaseAmt 2 ∧ borrows.v .lsEnd 2 ≤ (max borrows.time 5000 : Nat)
    ∧ (borrows.setV .lsRecall 1 2).v .lsRecall 2 = 1 ∧ (borrows.setV .lsRecall 1 2).v .lsEff 2 ≤ (max borrows.time 0 : Nat)
    ∧ lent.lends 2 = true ∧ lent.leaseAmt 2 ≠ 0 ∧ lent.v .lsRecall 2 ≠ 1 ∧ lent.v .lsEnd 2 + 1000 * lent.lnk 0x0037 2 1 ≤ (max lent.time 6000 : Nat)
    ∧ (lent.setV .lsRecall 1 2).v .lsEff 2 + 1000 * lent.lnk 0x0037 2 1 ≤ (max lent.time 1000 : Nat) := by decide

/-- The small image in RUN with a mirror, hub 1 in a role. -/
def pairIn (k : Nat) : State :=
  { live with img := { live.img with active := some { img0 with mirror := some ⟨0, true, 1000, 3, 1000⟩ } } }.mirSet 1 k
set_option maxRecDepth 8192 in
theorem wit_mirror : (pairIn Mr.standby).hubUp = true ∧ (pairIn Mr.standby).mirCfg = some ⟨0, true, 1000, 3, 1000⟩ ∧ (pairIn Mr.standby).v .hbStop = 0
    ∧ (pairIn Mr.standby).mirrorOn = true ∧ (pairIn Mr.standby).mirRole2 = Mr.standby ∧ (pairIn Mr.standby).v .mirMiss = 0
    ∧ (pairIn Mr.standby).vn .hbLast + 3 * 1000 ≤ max (pairIn Mr.standby).time 3000 ∧ (pairIn Mr.syncing).mirRole2 = Mr.syncing
    ∧ (pairIn Mr.syncing).v .okLapse = 0 ∧ (pairIn Mr.syncing).hubUp = true
    ∧ (pairIn Mr.standby).vn .lazyAt + 1000 * 1000 ≤ max (pairIn Mr.standby).time 1000000 := by decide
set_option maxRecDepth 8192 in
theorem wit_takeover : ((pairIn Mr.standby).setV .mirMiss 3).mirCfg = some ⟨0, true, 1000, 3, 1000⟩ ∧ ((pairIn Mr.standby).setV .mirMiss 3).mirRole2 = Mr.standby
    ∧ ((pairIn Mr.standby).setV .mirMiss 3).v .mirMiss = 3 ∧ ((pairIn Mr.standby).setV .mirMiss 3).posted = [] := by decide
set_option maxRecDepth 8192 in
theorem wit_mirCmd : Takes (pairIn Mr.standby) .fac ∧ (pairIn Mr.standby).pkg = Pkg.run ∧ Takes (pairIn Mr.down) .fac ∧ (pairIn Mr.down).mirRole2 = Mr.down
    ∧ Takes (pairIn Mr.syncing) .fac ∧ (pairIn Mr.standby).mirCfg.isSome = true :=
  ⟨⟨by decide, by decide⟩, by decide, ⟨by decide, by decide⟩, by decide, ⟨by decide, by decide⟩, by decide⟩
set_option maxRecDepth 8192 in
theorem wit_primarySwitch : ((pairIn Mr.standby).setV .priDone 2).v .priDone = 2 ∧ ((pairIn Mr.standby).setV .priDone 2).rd F.MIR_STATUS_SELF = 0
    ∧ ((pairIn Mr.standby).setV .priDone 2).v .mirMiss = 0 := by decide

set_option maxRecDepth 8192 in
theorem wit_leafCounterWindow : running.leafRuns 0 = true ∧ running.v .cwNum 0 + 1 < ((max running.time 20000 / 10000 : Nat) : Int)
    ∧ running.chSt (childEnd (leafDom 0)) = Ch.up := by decide
set_option maxRecDepth 8192 in
theorem wit_counterMsg : live.delivers (.hub 1) 0 = true ∧ live.endChild (.hub 1) = some 0x1000 ∧ 2 % 2 = 0
    ∧ 1 = max live.time 25000 / 10000 - 1 - (max live.time 25000 / 10000 + 15 - 1 % 16) % 16 ∧ live.v .swTime (3 % 16) ≤ (10000 * 1 : Nat) := by decide
set_option maxRecDepth 8192 in
theorem wit_counterSum : live.hasDom (nodeDom 0) = true ∧ live.v .islHeld (nodeDom 0) = 0 ∧ live.v .cnSent 0 (endKey (0 % 2) (0 % 16) (1 % 16)) = 0
    ∧ 10000 * (max live.time 25000 / 10000 - (max live.time 25000 / 10000 + 15 - 1 % 16) % 16) + 5000 ≤ max live.time 25000 := by decide
set_option maxRecDepth 8192 in
theorem wit_windowComplete : live.hubUp = true ∧ live.v .smpDone < (1 : Nat) ∧ (1 + 1) * 10000 + 10000 ≤ max live.time 30000 := by decide
/-- Latch slot 2 of context 3 is open with command address 5. -/
def latching : State := { live with latch := ⟨1, [⟨0, 3, 0, 100, [], false, false, false, [], 0, 0xFF⟩], [⟨3, 2, 5, 0, none, false, false⟩]⟩ }
set_option maxRecDepth 8192 in
theorem wit_latchStart : Takes latching .fac ∧ (latching.latchSlot? (3 % 16) (2 % 4)).isSome = true ∧ ((latching.latchSlot? (3 % 16) (2 % 4)).map (·.addr)) ≠ some (6 % 2 ^ 42)
    ∧ (latching.latchOpenPts (3 % 16)).length < 4 := ⟨⟨by decide, by decide⟩, by decide, by decide, by decide⟩
/-- The open slot. -/
def openSlot : LatchSlot := ⟨3, 2, 5, 0, none, false, false⟩
set_option maxRecDepth 8192 in
theorem wit_latchEnd : Takes latching .fac ∧ latching.latchSlot? (3 % 16) (2 % 4) = some openSlot ∧ openSlot.addr = 5 % 2 ^ 42
    ∧ (latching.latchOpenPts (3 % 16)).length < 4 := ⟨⟨by decide, by decide⟩, by decide, by decide, by decide⟩
set_option maxRecDepth 8192 in
theorem wit_leafCntLatch : (running.setV .latPend 201 0 19).leafRuns 0 = true ∧ 0 < (running.setV .latPend 201 0 19).vn .latPend 0 (3 % 16 + 16 * (1 % 16))
    ∧ ((running.setV .latPend 201 0 19).vn .latPend 0 (3 % 16 + 16 * (1 % 16)) - 1) / 2 ≤ max running.time 100 := by decide
set_option maxRecDepth 8192 in
theorem wit_latchPoint : (latching.latchOpenPts (3 % 16)).find? (fun y => Nat.beq y.num (0 % 16)) = some ⟨0, 3, 0, 100, [], false, false, false, [], 0, 0xFF⟩
    ∧ latching.latchPt? 0 = some ⟨0, 3, 0, 100, [], false, false, false, [], 0, 0xFF⟩ ∧ 100 + 20000 ≤ max latching.time 20100 := by decide
set_option maxRecDepth 8192 in
theorem wit_telemetry : live.hubUp = true ∧ live.vn .telAt < max live.time 1000000 / 1000000 ∧ live.telRuns = true ∧ (live.start 1000000).bgDue 5 = true := by decide

/-- The body of a record is being written to ring 1. -/
def bodyOut : State := { live with recFly := some ⟨⟨1, 0xFF, 0xFF, 5, [], [1]⟩, 1, false⟩ }
/-- Its header is being written. -/
def headOut : State := { live with recFly := some ⟨⟨1, 0xFF, 0xFF, 5, [], [1]⟩, 1, true⟩ }
theorem wit_recordWriteDone : bodyOut.recFly = some ⟨⟨1, 0xFF, 0xFF, 5, [], [1]⟩, 1, false⟩ ∧ headOut.recFly = some ⟨⟨1, 0xFF, 0xFF, 5, [], [1]⟩, 1, true⟩ ∧ 1 < 4 := by
  decide
set_option maxRecDepth 8192 in
theorem wit_recRing : Takes live .fac ∧ 3 < 4 ∧ 0x1000 % 2 ^ 48 % 64 = 0 ∧ live.is F.REC_RING_A_EN 3 = false ∧ 0x1020 % 2 ^ 48 % 64 ≠ 0
    ∧ (live.wr F.REC_RING_A_EN 1 3).is F.REC_RING_A_EN 3 = true ∧ 0x1000 % 2 ^ 48 ≠ (live.wr F.REC_RING_A_EN 1 3).rd F.REC_RING_A_BASE 3 :=
  ⟨⟨by decide, by decide⟩, by decide, by decide, by decide, by decide, by decide, by decide⟩
/-- The trace unit in a state, with one unsent frame. -/
def tracing (k : Nat) : State :=
  { live.wr F.TRC_STATUS_STATE k with trc := { live.trc with main := [⟨7, 0, 0, 0, 0, 0, 0, false⟩] } }
set_option maxRecDepth 8192 in
theorem wit_trace : Takes (tracing 1) .fac ∧ (tracing 1).trcState = 1 ∧ (tracing 1).trc.postEv = [] ∧ ((tracing 1).start 0).trcNext ≠ none ∧ live.trcState = 0
    ∧ ((tracing 1).start 0).trcNext = some ⟨7, 0, 0, 0, 0, 0, 0, false⟩ ∧ (tracing 1).trcClk = true ∧ (tracing 1).trcOff = false :=
  ⟨⟨by decide, by decide⟩, by decide, by decide, by decide, by decide, by decide, by decide, by decide⟩
set_option maxRecDepth 8192 in
theorem wit_dumpDone : ((live.wr F.TRC_STATUS_DUMPING 1).setV .dumpAt 1).is F.TRC_STATUS_DUMPING = true
    ∧ ((live.wr F.TRC_STATUS_DUMPING 1).setV .dumpAt 1).trcClk = true
    ∧ (((live.wr F.TRC_STATUS_DUMPING 1).setV .dumpAt 1).start 0).trcNext = none := by decide

set_option maxRecDepth 8192 in
theorem wit_registerWrite : live.hubUp = true ∧ live.accepted.length < 32
    ∧ live.reqBlocked 0 (134168 % 2 ^ 26) (live.posts true (134168 % 2 ^ 26)) live.reqWait = false
    ∧ live.reqBlocked 0 (134168 % 2 ^ 26) false live.reqWait = false ∧ live.reqBlocked 0 (134168 % 2 ^ 26) true live.reqWait = false ∧ live.accessStatus (.reg 0 true) (134168 % 2 ^ 26) 3 = .ok
    ∧ decodeAddr (134168 % 2 ^ 26) = some (.EVC_WAKE, 3, 0) ∧ addrIsland (134168 % 2 ^ 26) = none
    ∧ live.accessStatus (.reg 0 false) (134168 % 2 ^ 26) 3 ≠ .ok ∧ postable (134168 % 2 ^ 26) = true ∧ live.draining (134168 % 2 ^ 26) = false := by decide
/-- A posted write of EVC_WAKE_3 waits. -/
def postedOne : State := { live with posted := [⟨0, true, 134168, 0x12345, true, false⟩] }
set_option maxRecDepth 8192 in
theorem wit_reqWaits : postedOne.hubUp = true ∧ postedOne.accepted.length < 32 ∧ (postedOne.posts false (134168 % 2 ^ 26) = true → postedOne.posted.length < 32)
    ∧ postedOne.reqBlocked 0 (134168 % 2 ^ 26) (postedOne.posts false (134168 % 2 ^ 26)) postedOne.reqWait = true := by decide
set_option maxRecDepth 8192 in
theorem wit_postedWrite : postedOne.hubUp = true ∧ postedOne.posted = [⟨0, true, 134168, 0x12345, true, false⟩]
    ∧ postedOne.accessStatus (.posted 0 true) 134168 3 = .ok ∧ decodeAddr 134168 = some (.EVC_WAKE, 3, 0) ∧ addrIsland 134168 = none
    ∧ postedOne.pkg ≠ Pkg.ramp ∧ postedOne.v .downFor = 0 ∧ postedOne.islPlanned = false ∧ postedOne.reqWait = []
    ∧ Reg.EVC_WAKE ∈ [Reg.SHP_CTRL, .CRUST_STATUS, .ECC_STATUS, .IMG_STATUS, .EVC_WAKE, .RAIL_LOOP, .RAIL_SHED, .REC_ROUTE] := by decide

/-- The certificate store is being filled. -/
def filling : State := live.wr F.ID_STATUS_FILLING 1
set_option maxRecDepth 8192 in
theorem wit_vendor : FacOk live vendorMsg ∧ live.ldrForeign .fac = false ∧ live.ldr = 0 ∧ (loading 1).ldrForeign .fac = false ∧ (loading 1).ldr = 1
    ∧ FacOk (loading 1) vendorMsg ∧ dataFits [1, 2, 3, 4, 5, 6, 7, 8] = true ∧ live.trcState = 0 ∧ (tracing 1).trcState = 1 ∧ FacOk (tracing 1) vendorMsg := by
  decide
set_option maxRecDepth 8192 in
theorem wit_vendorReg : live.accessStatus .fac 134168 3 = .ok ∧ addrIsland 134168 = none ∧ live.copyNodes 134168 = [] ∧ decodeAddr 134168 = some (.EVC_WAKE, 3, 0)
    ∧ live.readStatus .EVC_WAKE 3 0 = .ok := by decide
set_option maxRecDepth 8192 in
theorem wit_vendorSvn : FacOk svn3 vendorMsg ∧ svn3.pkg = Pkg.run ∧ svn3.fusedSvn < svn3.rd F.IMG_INFO_SVN := by decide
set_option maxRecDepth 8192 in
theorem wit_vendorCert : FacOk filling vendorMsg ∧ filling.is F.ID_STATUS_FILLING = true := by decide
/-- A READ_REG of an island's register is in progress. -/
def facReading : State := (match exec (.facReadReg 0 vendorMsg 7 0x40_0000) live with | .next u => u | _ => live)
set_option maxRecDepth 8192 in
theorem wit_facBusy : facReading.facBusy = true ∧ live.facBusy = false := by decide

set_option maxRecDepth 8192 in
theorem wit_keygen : live.pkg ≠ Pkg.off ∧ live.v .keyDue ≠ 1 ∧ (live.setV .keyDue 1).v .keyDue = 1 := by decide
set_option maxRecDepth 8192 in
theorem wit_cert : Takes filling .fac ∧ filling.is F.ID_STATUS_FILLING = true ∧ filling.vn .certPtr < 4096 ∧ Takes live .fac
    ∧ live.is F.ID_STATUS_FILLING = false := ⟨⟨by decide, by decide⟩, by decide, by decide, ⟨by decide, by decide⟩, by decide⟩

/-- The facility port shows the package page, and loop 0 is a facility loop at 20 W of at most 30 W. -/
def capped : State :=
  (((live.setV .facPage 0xFF).wr F.LOOP_CFG_LIMIT_KIND 5 0).wrI F.LOOP_SP_SP (20 * 65536) 0).wrI F.LOOP_SP_MAX_SP_MAX (30 * 65536) 0
/-- The facility port shows rail 0. -/
def railPage : State := ((live.setV .facPage 0).wr F.RAIL_STATE_VSENSE 1640 0).wrI F.RAIL_MEAS_CURRENT 256180 0
/-- FAC_STATUS of the small state holds a word. -/
def facStat (w : Word) : State := { live with regs := KMap.insert Reg.ctorIdx live.regs ⟨.FAC_STATUS, 0, 0⟩ w }
set_option maxRecDepth 8192 in
theorem wit_i3c : (facStat 0).i3cFree = true ∧ (facStat 0x100).i3cFree = false ∧ (facStat 1).hubUp = true ∧ (facStat 1).is F.FAC_STATUS_MODE = true := by
  decide
set_option maxRecDepth 8192 in
theorem wit_mctp : FacOk live vendorMsg ∧ 1 < 2 ∧ 8 % 256 ≠ 0 ∧ 8 % 256 ≠ 255 := by decide
set_option maxRecDepth 8192 in
theorem wit_pmbus : railPage.hubUp = true ∧ railPage.facPg ≠ 0xFF ∧ railPage.onRail = true ∧ railPage.monitored railPage.facPg = false ∧ capped.facPg = 0xFF
    ∧ (capped.setV .repTemp 6082 0 0).pageTemp = none ∧ (((capped.setV .repTemp 6082 0 0).setV .repAt 0 0 0).start 0).pageTemp = some 6082 := by decide
set_option maxRecDepth 8192 in
theorem wit_cap : capped.hubUp = true ∧ 30 % 65536 ≠ 0 ∧ capped.capLoops ≠ [] ∧ (∀ l ∈ capped.capLoops, ((30 % 65536 * 65536 : Nat) : Int) ≤ capped.rdI F.LOOP_SP_MAX_SP_MAX l)
    ∧ (∃ l ∈ capped.capLoops, capped.rdI F.LOOP_SP_MAX_SP_MAX l < ((31 % 65536 * 65536 : Nat) : Int))
    ∧ (20 * 65536 : Int) ∈ capped.capLoops.map (fun l => capped.rdI F.LOOP_SP_SP l) ∧ (∀ l ∈ capped.capLoops, (20 * 65536 : Int) ≤ capped.rdI F.LOOP_SP_SP l) := by
  decide
/-- The worked example of 18 R559. -/
theorem test_linear11 : linear11 256180 1000 = 0xFA00 ∧ linear11 210070 1000 = 0xF348 ∧ linear11 1612500 1000 = 0x0B26 ∧ linear11 6082 64 = 0xEAF8
    ∧ roundDiv (1640 * 2048) 2000 = 0x68F := by decide

/-- An SPDM message outside a session. -/
def spdmMsg : FacMsg := { pecOk := true, typ := 0x05, ses := none, macOk := false }
/-- An SPDM message in session 1. -/
def sesMsg : FacMsg := { pecOk := true, typ := 0x05, ses := some 1, macOk := true }
/-- The algorithms are negotiated, the key pair is derived, and session 0 stands in a state, session 1 in another. -/
def spdmIn (a b : Nat) : State := ((((live.setV .spdmSt 3).wr F.ID_STATUS_KEY_READY 1).wr F.ID_STATUS_CERT_VALID 1).setV .spdmSes (a : Nat) 0).setV .spdmSes (b : Nat) 1
set_option maxRecDepth 8192 in
theorem wit_spdm : FacOk (spdmIn 0 0) spdmMsg ∧ 3 ≤ (spdmIn 0 0).vn .spdmSt ∧ (spdmIn 0 0).is F.ID_STATUS_CERT_VALID = true ∧ (spdmIn 0 0).is F.ID_STATUS_KEY_READY = true
    ∧ FacOk live spdmMsg ∧ live.vn .spdmSt < 3 := by decide
set_option maxRecDepth 8192 in
theorem wit_spdmSes : ([0, 1].find? fun k => Nat.beq ((spdmIn 2 0).sesSt k) 0) = some 1 ∧ (spdmIn 1 2).sesSt 0 = 1 ∧ FacOk (spdmIn 1 2) spdmMsg
    ∧ FacOk (spdmIn 1 2) sesMsg ∧ sesMsg.ses = some 1 ∧ (spdmIn 1 2).sesSt 0 ≠ 0 ∧ (spdmIn 1 2).sesSt 1 ≠ 0 := by decide

/-! ### Ill-formed commands -/

/-- A frame's head within its ranges. -/
def hdr0 : FrameHdr := ⟨0, 0, 0, 0, true⟩
/-- A facility message within its ranges. -/
def msg0 : FacMsg := ⟨true, 0, none, false⟩
theorem smoke_ports : portOk (.reg 65536 true) = false ∧ portOk (.posted 65536 true) = false := by decide
theorem smoke_ends : endOk (.hub 65) = false ∧ endOk (.node 64 0) = false ∧ endOk (.node 0 65) = false ∧ endOk (.leaf 512) = false := by decide
theorem smoke_orgs : orgOk (.port (.reg 65536 true) none) = false ∧ orgOk (.port .fac (some 16)) = false
    ∧ orgOk (.gate (.leaf 512) 0 0 0 0 0 0) = false ∧ orgOk (.gate (.leaf 0) 16 0 0 0 0 0) = false ∧ orgOk (.gate (.leaf 0) 0 16 0 0 0 0) = false
    ∧ orgOk (.gate (.leaf 0) 0 0 16 0 0 0) = false ∧ orgOk (.gate (.leaf 0) 0 0 0 16 0 0) = false ∧ orgOk (.gate (.leaf 0) 0 0 0 0 512 0) = false
    ∧ orgOk (.gate (.leaf 0) 0 0 0 0 0 64) = false := by decide
theorem smoke_frames : frameOk { hdr0 with port := 8 } = false ∧ frameOk { hdr0 with src := 65536 } = false := by decide
theorem smoke_messages : msgOk { msg0 with typ := 256 } = false ∧ msgOk { msg0 with ses := some 2 } = false := by decide
theorem smoke_illFormed1 : Instr.wf (.pkgCmdNone 0 (.reg 65536 true)) = false
    ∧ Instr.wf (.imgWaddr 0 .fac 1048576) = false
    ∧ Instr.wf (.paramMsg 0 (.leaf 512) 0 0 0) = false
    ∧ Instr.wf (.paramMsg 0 (.hub 1) 16 0 0) = false
    ∧ Instr.wf (.paramMsg 0 (.hub 1) 0 0 4) = false
    ∧ Instr.wf (.hello 0 (.hub 1) 65536) = false
    ∧ Instr.wf (.helloAck 0 (.hub 1) 65536) = false
    ∧ Instr.wf (.fence 0 (.hub 1) 16 0 0) = false
    ∧ Instr.wf (.fence 0 (.hub 1) 0 4 0) = false
    ∧ Instr.wf (.fence 0 (.hub 1) 0 0 65536) = false
    ∧ Instr.wf (.fenceAck 0 (.hub 1) 16 0 0) = false
    ∧ Instr.wf (.fenceAck 0 (.hub 1) 0 65536 0) = false := by decide
theorem smoke_illFormed2 : Instr.wf (.fenceAck 0 (.hub 1) 0 0 256) = false
    ∧ Instr.wf (.cmdReq 0 (.hub 1) 16 0 0 0 0) = false
    ∧ Instr.wf (.cmdReq 0 (.hub 1) 0 65536 0 0 0) = false
    ∧ Instr.wf (.cmdReq 0 (.hub 1) 0 0 256 0 0) = false
    ∧ Instr.wf (.cmdReq 0 (.hub 1) 0 0 0 8 0) = false
    ∧ Instr.wf (.cmdReq 0 (.hub 1) 0 0 0 0 16777216) = false
    ∧ Instr.wf (.cmdData 0 (.hub 1) 16 0 ⟨false, false, 0⟩) = false
    ∧ Instr.wf (.cmdRsp 0 (.hub 1) 16 0 0 0) = false
    ∧ Instr.wf (.cmdRsp 0 (.hub 1) 0 65536 0 0) = false
    ∧ Instr.wf (.cmdRsp 0 (.hub 1) 0 0 256 0) = false
    ∧ Instr.wf (.cmdRsp 0 (.hub 1) 0 0 0 256) = false
    ∧ Instr.wf (.cmdTimeout 0 (.hub 1) 256) = false := by decide
theorem smoke_illFormed3 : Instr.wf (.estimate 0 (.hub 1) 16 0 0 0 0 0) = false
    ∧ Instr.wf (.estimate 0 (.hub 1) 0 0 0 65536 0 0) = false
    ∧ Instr.wf (.timeMsg 0 (.hub 1) 16 0 0 0) = false
    ∧ Instr.wf (.parentSilent 0 512) = false
    ∧ Instr.wf (.leafSlotClose 0 512 0 [] []) = false
    ∧ Instr.wf (.leafIntervalClose 0 512 0) = false
    ∧ Instr.wf (.intervalReport 0 (.hub 1) 16 0 0 0 0 0 0 false) = false
    ∧ Instr.wf (.intervalReport 0 (.hub 1) 0 512 0 0 0 0 0 false) = false
    ∧ Instr.wf (.groupReport 0 (.hub 1) 16 0 0 0 0 0) = false
    ∧ Instr.wf (.groupReport 0 (.hub 1) 0 1024 0 0 0 0) = false
    ∧ Instr.wf (.groupReport 0 (.hub 1) 0 0 32 0 0 0) = false
    ∧ Instr.wf (.applied 0 (.hub 1) 16 0 0 0 0 0) = false := by decide
theorem smoke_illFormed4 : Instr.wf (.applied 0 (.hub 1) 0 65536 0 0 0 0) = false
    ∧ Instr.wf (.applied 0 (.hub 1) 0 0 512 0 0 0) = false
    ∧ Instr.wf (.applied 0 (.hub 1) 0 0 0 8 0 0) = false
    ∧ Instr.wf (.applied 0 (.hub 1) 0 0 0 0 32 0) = false
    ∧ Instr.wf (.applied 0 (.hub 1) 0 0 0 0 0 4294967296) = false
    ∧ Instr.wf (.leafThetaWrite 0 512 0 false 0) = false
    ∧ Instr.wf (.kneadReset 0 .fac 32 false) = false
    ∧ Instr.wf (.loopTick 0 512) = false
    ∧ Instr.wf (.loopOpen 0 .fac 512) = false
    ∧ Instr.wf (.loopClose 0 .fac 512) = false
    ∧ Instr.wf (.grant 0 (.hub 1) 16 0 0 0 0 false 0 false) = false
    ∧ Instr.wf (.grant 0 (.hub 1) 0 8 0 0 0 false 0 false) = false := by decide
theorem smoke_illFormed5 : Instr.wf (.grant 0 (.hub 1) 0 0 32 0 0 false 0 false) = false
    ∧ Instr.wf (.grant 0 (.hub 1) 0 0 0 65536 0 false 0 false) = false
    ∧ Instr.wf (.grant 0 (.hub 1) 0 0 0 0 512 false 0 false) = false
    ∧ Instr.wf (.grant 0 (.hub 1) 0 0 0 0 0 false 4294967296 false) = false
    ∧ Instr.wf (.need 0 (.hub 1) 16 0 0 0 0) = false
    ∧ Instr.wf (.need 0 (.hub 1) 0 0 0 65536 0) = false
    ∧ Instr.wf (.creditWindow 0 512 []) = false
    ∧ Instr.wf (.gateFault 0 512 0) = false
    ∧ Instr.wf (.restEnd 0 512 0) = false
    ∧ Instr.wf (.faultClear 0 512 0 false) = false
    ∧ Instr.wf (.vfSlotLower 0 32) = false
    ∧ Instr.wf (.strEnter 0 .fac 16 0) = false := by decide
theorem smoke_illFormed6 : Instr.wf (.strEnter 0 .fac 0 256) = false
    ∧ Instr.wf (.strExit 0 .fac 16) = false
    ∧ Instr.wf (.invSlot 0 .fac 16) = false
    ∧ Instr.wf (.invEntry 0 .fac 16 0) = false
    ∧ Instr.wf (.invEntry 0 .fac 0 256) = false
    ∧ Instr.wf (.starterSample 0 0 16 0) = false
    ∧ Instr.wf (.syncInit 0 (.port (.reg 65536 true) none) 0 0 0 0) = false
    ∧ Instr.wf (.syncInit 0 (.port .fac none) 16384 0 0 0) = false
    ∧ Instr.wf (.syncTag 0 (.port .fac none) 16384 0 0 0) = false
    ∧ Instr.wf (.syncArrive 0 (.port .fac none) 16384 0 0 0) = false
    ∧ Instr.wf (.syncSignal 0 (.port .fac none) 16384 0 0 0) = false
    ∧ Instr.wf (.syncSet 0 (.port .fac none) 16384 0 0 0) = false := by decide
theorem smoke_illFormed7 : Instr.wf (.syncClear 0 (.port .fac none) 16384 0 0 0) = false
    ∧ Instr.wf (.syncWait 0 (.port .fac none) 16384 0 0 0) = false
    ∧ Instr.wf (.syncCancel 0 (.port .fac none) 16384 0 0 0) = false
    ∧ Instr.wf (.syncFree 0 (.port .fac none) 16384 0 0 0) = false
    ∧ Instr.wf (.syncBreak 0 (.port .fac none) 16384 0 0 0) = false
    ∧ Instr.wf (.syncReset 0 (.port .fac none) 16384 0 0 0) = false
    ∧ Instr.wf (.syncForce 0 (.port .fac none) 16384 0 0 0) = false
    ∧ Instr.wf (.syncSetCount 0 (.port .fac none) 16384 0 0 0) = false
    ∧ Instr.wf (.ctxSwitch 0 (.port .fac none) 16384 0 0 0) = false
    ∧ Instr.wf (.gateSyncOp 0 512 0 0 false 0 0 false) = false
    ∧ Instr.wf (.gateSyncOp 0 0 0 16 false 0 0 false) = false
    ∧ Instr.wf (.gateSyncOp 0 0 0 0 false 16384 0 false) = false := by decide
theorem smoke_illFormed8 : Instr.wf (.release 0 (.hub 1) 16 0 0 0 0 0 []) = false
    ∧ Instr.wf (.release 0 (.hub 1) 0 16 0 0 0 0 []) = false
    ∧ Instr.wf (.release 0 (.hub 1) 0 0 4096 0 0 0 []) = false
    ∧ Instr.wf (.release 0 (.hub 1) 0 0 0 1024 0 0 []) = false
    ∧ Instr.wf (.release 0 (.hub 1) 0 0 0 0 256 0 []) = false
    ∧ Instr.wf (.direct 0 (.hub 1) 16 0 0 0 0 0 false 0 false) = false
    ∧ Instr.wf (.direct 0 (.hub 1) 0 16 0 0 0 0 false 0 false) = false
    ∧ Instr.wf (.direct 0 (.hub 1) 0 0 4096 0 0 0 false 0 false) = false
    ∧ Instr.wf (.direct 0 (.hub 1) 0 0 0 1024 0 0 false 0 false) = false
    ∧ Instr.wf (.direct 0 (.hub 1) 0 0 0 0 256 0 false 0 false) = false
    ∧ Instr.wf (.direct 0 (.hub 1) 0 0 0 0 0 512 false 0 false) = false
    ∧ Instr.wf (.direct 0 (.hub 1) 0 0 0 0 0 0 false 64 false) = false := by decide
theorem smoke_illFormed9 : Instr.wf (.ctxClear 0 (.hub 1) 16 0 0) = false
    ∧ Instr.wf (.ctxClear 0 (.hub 1) 0 16 0) = false
    ∧ Instr.wf (.ctxClear 0 (.hub 1) 0 0 16) = false
    ∧ Instr.wf (.lsyncWrite 0 512 0 0) = false
    ∧ Instr.wf (.scoreTrip 0 512 false []) = false
    ∧ Instr.wf (.scoreHoldExpiry 0 512 0) = false
    ∧ Instr.wf (.ddCalibrate 0 512 0) = false
    ∧ Instr.wf (.ddCalReq 0 .fac 512) = false
    ∧ Instr.wf (.ddCalStale 0 512) = false
    ∧ Instr.wf (.riseOpen 0 16384 0) = false
    ∧ Instr.wf (.riseOpen 0 0 32) = false
    ∧ Instr.wf (.riseTimeout 0 16384 0) = false := by decide
theorem smoke_illFormed10 : Instr.wf (.riseTimeout 0 0 32) = false
    ∧ Instr.wf (.riseSlewStep 0 32) = false
    ∧ Instr.wf (.riseExhausted 0 32) = false
    ∧ Instr.wf (.waveRelease 0 512 0) = false
    ∧ Instr.wf (.spanStaggerExpiry 0 16384) = false
    ∧ Instr.wf (.railLoopSample 0 32 0 false) = false
    ∧ Instr.wf (.shedDisable 0 32) = false
    ∧ Instr.wf (.shedTimeout 0 32) = false
    ∧ Instr.wf (.leafShed 0 512 0) = false
    ∧ Instr.wf (.leafShed 0 0 32) = false
    ∧ Instr.wf (.shedHoldExpiry 0 512) = false
    ∧ Instr.wf (.slewStep 0 32) = false := by decide
theorem smoke_illFormed11 : Instr.wf (.railVselWrite 0 .fac 32 0) = false
    ∧ Instr.wf (.railVslotWrite 0 .fac 32 0 0) = false
    ∧ Instr.wf (.railVslotWrite 0 .fac 0 0 4096) = false
    ∧ Instr.wf (.leafVrefCheck 0 512) = false
    ∧ Instr.wf (.leafVref 0 512 0) = false
    ∧ Instr.wf (.measDone 0 32) = false
    ∧ Instr.wf (.targetPg 0 32) = false
    ∧ Instr.wf (.clrFault 0 .fac 256 false) = false
    ∧ Instr.wf (.phCalReq 0 .fac 256) = false
    ∧ Instr.wf (.isnsCalibration 0 256 0) = false
    ∧ Instr.wf (.tsConversionDone 0 1024 0 false) = false
    ∧ Instr.wf (.conversionLapse 0 1024) = false := by decide
theorem smoke_illFormed12 : Instr.wf (.leafTempPeriod 0 512) = false
    ∧ Instr.wf (.tempReport 0 (.hub 1) 16 0 0 0 false false 0 0 0) = false
    ∧ Instr.wf (.tempReport 0 (.hub 1) 0 0 0 4 false false 0 0 0) = false
    ∧ Instr.wf (.tempReport 0 (.hub 1) 0 0 0 0 false false 512 0 0) = false
    ∧ Instr.wf (.reportLapse 0 512) = false
    ∧ Instr.wf (.calRst 0 .fac 1024) = false
    ∧ Instr.wf (.leafThrReq 0 512 0) = false
    ∧ Instr.wf (.ocTrip 0 32) = false
    ∧ Instr.wf (.ovTrip 0 32) = false
    ∧ Instr.wf (.uvTrip 0 32) = false
    ∧ Instr.wf (.uvHaltExpiry 0 32) = false
    ∧ Instr.wf (.leafBrake 0 512 0) = false := by decide
theorem smoke_illFormed13 : Instr.wf (.sleepQuiesceDone 0 512) = false
    ∧ Instr.wf (.ccpQack 0 512 0) = false
    ∧ Instr.wf (.fmaxLag 0 512 0) = false
    ∧ Instr.wf (.eventMsg 0 (.hub 1) 16 0 0 0 false false) = false
    ∧ Instr.wf (.eventMsg 0 (.hub 1) 0 256 0 0 false false) = false
    ∧ Instr.wf (.eventMsg 0 (.hub 1) 0 0 65536 0 false false) = false
    ∧ Instr.wf (.eventMsg 0 (.hub 1) 0 0 0 4294967296 false false) = false
    ∧ Instr.wf (.linkUp 0 8) = false
    ∧ Instr.wf (.linkDown 0 8) = false
    ∧ Instr.wf (.authDone 0 8 false) = false
    ∧ Instr.wf (.authBackoffEnd 0 8) = false
    ∧ Instr.wf (.linkSilent 0 8) = false := by decide
theorem smoke_illFormed14 : Instr.wf (.dxlHeartbeatSend 0 8) = false
    ∧ Instr.wf (.dxlKeyUpdate 0 8) = false
    ∧ Instr.wf (.dxlHeartbeat 0 { hdr0 with port := 8 } 0 0 0) = false
    ∧ Instr.wf (.arriveFrame 0 hdr0 16384 0 0) = false
    ∧ Instr.wf (.arriveFrame 0 hdr0 0 65536 0) = false
    ∧ Instr.wf (.arriveFrame 0 hdr0 0 0 65536) = false
    ∧ Instr.wf (.releaseFrame 0 hdr0 16384 0 0) = false
    ∧ Instr.wf (.releaseFrame 0 hdr0 0 65536 0) = false
    ∧ Instr.wf (.releaseFrame 0 hdr0 0 0 65536) = false
    ∧ Instr.wf (.breakFrame 0 hdr0 16384 0 0 false 0) = false
    ∧ Instr.wf (.breakFrame 0 hdr0 0 65536 0 false 0) = false
    ∧ Instr.wf (.breakFrame 0 hdr0 0 0 65536 false 0) = false := by decide
theorem smoke_illFormed15 : Instr.wf (.breakFrame 0 hdr0 0 0 0 false 256) = false
    ∧ Instr.wf (.leaseGrant 0 hdr0 4294967296 0 0) = false
    ∧ Instr.wf (.leaseGrant 0 hdr0 0 65536 0) = false
    ∧ Instr.wf (.leaseRecall 0 hdr0 4294967296 0 0) = false
    ∧ Instr.wf (.leaseRecall 0 hdr0 0 65536 0) = false
    ∧ Instr.wf (.leaseExpiry 0 8) = false
    ∧ Instr.wf (.recallEffect 0 8) = false
    ∧ Instr.wf (.leaseGuardExpiry 0 8) = false
    ∧ Instr.wf (.leafCounterWindow 0 512 []) = false
    ∧ Instr.wf (.counterMsg 0 (.hub 1) 16 0 0 0 0 0 false 0) = false
    ∧ Instr.wf (.counterMsg 0 (.hub 1) 0 0 64 0 0 0 false 0) = false
    ∧ Instr.wf (.counterMsg 0 (.hub 1) 0 0 0 32 0 0 false 0) = false := by decide
theorem smoke_illFormed16 : Instr.wf (.counterMsg 0 (.hub 1) 0 0 0 0 0 1024 false 0) = false
    ∧ Instr.wf (.counterSumTimeout 0 0 0 32 0) = false
    ∧ Instr.wf (.latchStart 0 .fac none 16 0 0) = false
    ∧ Instr.wf (.latchEnd 0 .fac none 16 0 0) = false
    ∧ Instr.wf (.leafCntLatch 0 512 0 0 []) = false
    ∧ Instr.wf (.leafCntLatch 0 0 16 0 []) = false
    ∧ Instr.wf (.latchPointComplete 0 16 0) = false
    ∧ Instr.wf (.recRingEnable 0 .fac 4 0 0 false) = false
    ∧ Instr.wf (.recRingEnable 0 .fac 0 0 8 false) = false
    ∧ Instr.wf (.registerWrite 0 .fac 0 8 false 0 ⟨false, false, 0⟩) = false
    ∧ Instr.wf (.rspTimeout 0 65536) = false
    ∧ Instr.wf (.facPkgCmd 0 { msg0 with typ := 256 } 0 0) = false := by decide
theorem smoke_illFormed17 : Instr.wf (.facPkgCmd 0 msg0 256 0) = false
    ∧ Instr.wf (.facPkgCmd 0 msg0 0 256) = false
    ∧ Instr.wf (.facGetState 0 msg0 256) = false
    ∧ Instr.wf (.facReadReg 0 msg0 256 0) = false
    ∧ Instr.wf (.facReadReg 0 msg0 0 4294967296) = false
    ∧ Instr.wf (.facImgOpen 0 msg0 256) = false
    ∧ Instr.wf (.facImgData 0 msg0 256 0 []) = false
    ∧ Instr.wf (.facImgData 0 msg0 0 4294967296 []) = false
    ∧ Instr.wf (.facImgCommit 0 msg0 256) = false
    ∧ Instr.wf (.facImgAbort 0 msg0 256) = false
    ∧ Instr.wf (.facCommitSvn 0 msg0 256) = false
    ∧ Instr.wf (.facImgStatus 0 msg0 256) = false := by decide
theorem smoke_illFormed18 : Instr.wf (.facTrcRead 0 msg0 256 0 0) = false
    ∧ Instr.wf (.facTrcRead 0 msg0 0 65536 0) = false
    ∧ Instr.wf (.facTrcRead 0 msg0 0 0 256) = false
    ∧ Instr.wf (.facAlertClr 0 msg0 256 0) = false
    ∧ Instr.wf (.facAlertClr 0 msg0 0 256) = false
    ∧ Instr.wf (.facSignTrip 0 msg0 256 []) = false
    ∧ Instr.wf (.facCertOpen 0 msg0 256) = false
    ∧ Instr.wf (.facCertData 0 msg0 256 0 []) = false
    ∧ Instr.wf (.facCertData 0 msg0 0 4294967296 []) = false
    ∧ Instr.wf (.facCertCommit 0 msg0 256 0) = false
    ∧ Instr.wf (.facCertCommit 0 msg0 0 65536) = false
    ∧ Instr.wf (.setEndpointId 0 msg0 256 0) = false := by decide
theorem smoke_illFormed19 : Instr.wf (.setEndpointId 0 msg0 0 256) = false
    ∧ Instr.wf (.getCertificate 0 msg0 256 0 0) = false
    ∧ Instr.wf (.getCertificate 0 msg0 0 65536 0) = false
    ∧ Instr.wf (.getCertificate 0 msg0 0 0 65536) = false
    ∧ Instr.wf (.challenge 0 msg0 256 []) = false
    ∧ Instr.wf (.keyExchange 0 msg0 256 []) = false
    ∧ Instr.wf (.spdmKeyUpdate 0 msg0 256) = false
    ∧ Instr.wf (.setdasa 0 128 0 false) = false
    ∧ Instr.wf (.setdasa 0 0 128 false) = false
    ∧ Instr.wf (.entdaa 0 128 false false) = false
    ∧ Instr.wf (.idCertCommit 0 .fac 8192) = false := by decide

end Sys2Proof.Tests
end

/-!
PROOFS. The scope of the model (spec/00_scope.md): a step runs the front command, every command answers a next state within its
scope, and a command register needs the privileged window.
-/
namespace Sys2Proof.Machine

/-! ### Every command answers, within its scope -/

/-- Every command answers a next state by work that lies in its scope: row by row, the footprint of its meaning lies in the masks of
the scope that the table lists for it. -/
theorem exec_runs (c : Instr) (s : State) : Runs (scopeOf c).foot s (exec c s) := by
  cases c with (dsimp only [scopeOf, Scope.table])
  | aonSupplyLoss t => exact Runs.execAonSupplyLoss (.refl _ s) (by decide +kernel) t
  | powerOnResetEnd t n => exact Runs.execPowerOnResetEnd (.refl _ s) (by decide +kernel) t n
  | pkgCmdNone t p => exact Runs.execPkgCmdNone (.refl _ s) (by decide +kernel) t p
  | pkgHold t p => exact Runs.execPkgHold (.refl _ s) (by decide +kernel) t p
  | pkgResume t p => exact Runs.execPkgResume (.refl _ s) (by decide +kernel) t p
  | pkgSleep t p => exact Runs.execPkgSleep (.refl _ s) (by decide +kernel) t p
  | pkgDeepSleep t p => exact Runs.execPkgDeepSleep (.refl _ s) (by decide +kernel) t p
  | pkgWake t p => exact Runs.execPkgWake (.refl _ s) (by decide +kernel) t p
  | pkgRecover t p => exact Runs.execPkgRecover (.refl _ s) (by decide +kernel) t p
  | pkgFail t p => exact Runs.execPkgFail (.refl _ s) (by decide +kernel) t p
  | pkgResetToAon t p => exact Runs.execPkgResetToAon (.refl _ s) (by decide +kernel) t p
  | holdTimeout t => exact Runs.execHoldTimeout (.refl _ s) (by decide +kernel) t
  | bgLate t act start => exact Runs.execBgLate (.refl _ s) (by decide +kernel) t act start
  | scrubStep t read => exact Runs.execScrubStep (.refl _ s) (by decide +kernel) t read
  | ldrOpen t p => exact Runs.execLdrOpen (.refl _ s) (by decide +kernel) t p
  | ldrCommit t p => exact Runs.execLdrCommit (.refl _ s) (by decide +kernel) t p
  | ldrAbort t p => exact Runs.execLdrAbort (.refl _ s) (by decide +kernel) t p
  | commitSvn t p => exact Runs.execCommitSvn (.refl _ s) (by decide +kernel) t p
  | fusingDone t => exact Runs.execFusingDone (.refl _ s) (by decide +kernel) t
  | imgWaddr t p w => exact Runs.execImgWaddr (.refl _ s) (by decide +kernel) t p w
  | imgWdata t p wide w => exact Runs.execImgWdata (.refl _ s) (by decide +kernel) t p wide w
  | checkDone t ecc => exact Runs.execCheckDone (.refl _ s) (by decide +kernel) t ecc
  | verifyDone t ecc => exact Runs.execVerifyDone (.refl _ s) (by decide +kernel) t ecc
  | paramMsg t e tag d kind => exact Runs.execParamMsg (.refl _ s) (by decide +kernel) t e tag d kind
  | deltaActivate t => exact Runs.execDeltaActivate (.refl _ s) (by decide +kernel) t
  | applyTimeout t => exact Runs.execApplyTimeout (.refl _ s) (by decide +kernel) t
  | chanAliveRise t e => exact Runs.execChanAliveRise (.refl _ s) (by decide +kernel) t e
  | chanAliveFall t e => exact Runs.execChanAliveFall (.refl _ s) (by decide +kernel) t e
  | hello t e epoch => exact Runs.execHello (.refl _ s) (by decide +kernel) t e epoch
  | helloAck t e epoch => exact Runs.execHelloAck (.refl _ s) (by decide +kernel) t e epoch
  | fence t e tag scope id => exact Runs.execFence (.refl _ s) (by decide +kernel) t e tag scope id
  | fenceAck t e tag id st => exact Runs.execFenceAck (.refl _ s) (by decide +kernel) t e tag id st
  | fenceTimeout t e => exact Runs.execFenceTimeout (.refl _ s) (by decide +kernel) t e
  | cmdReq t e tag dest reqid op off => exact Runs.execCmdReq (.refl _ s) (by decide +kernel) t e tag dest reqid op off
  | cmdData t e tag w pins => exact Runs.execCmdData (.refl _ s) (by decide +kernel) t e tag w pins
  | cmdRsp t e tag src reqid st => exact Runs.execCmdRsp (.refl _ s) (by decide +kernel) t e tag src reqid st
  | cmdTimeout t e reqid => exact Runs.execCmdTimeout (.refl _ s) (by decide +kernel) t e reqid
  | estimate t e tag ra rb slot ea eb => exact Runs.execEstimate (.refl _ s) (by decide +kernel) t e tag ra rb slot ea eb
  | estimateSlotTimeout t d slot => exact Runs.execEstimateSlotTimeout (.refl _ s) (by decide +kernel) t d slot
  | timeSend t d rts => exact Runs.execTimeSend (.refl _ s) (by decide +kernel) t d rts
  | timeMsg t e tag delay usec cap => exact Runs.execTimeMsg (.refl _ s) (by decide +kernel) t e tag delay usec cap
  | parentSilent t l => exact Runs.execParentSilent (.refl _ s) (by decide +kernel) t l
  | leafSlotClose t l slot reps removed => exact Runs.execLeafSlotClose (.refl _ s) (by decide +kernel) t l slot reps removed
  | leafIntervalClose t l j => exact Runs.execLeafIntervalClose (.refl _ s) (by decide +kernel) t l j
  | intervalReport t e tag leaf ra rb seq pa pb rsvd => exact Runs.execIntervalReport (.refl _ s) (by decide +kernel) t e tag leaf ra rb seq pa pb rsvd
  | groupReport t e tag nleaf rail g seq en => exact Runs.execGroupReport (.refl _ s) (by decide +kernel) t e tag nleaf rail g seq en
  | groupSumTimeout t n w => exact Runs.execGroupSumTimeout (.refl _ s) (by decide +kernel) t n w
  | applied t e tag dom loop cls rail amt => exact Runs.execApplied (.refl _ s) (by decide +kernel) t e tag dom loop cls rail amt
  | hubIntervalClose t j => exact Runs.execHubIntervalClose (.refl _ s) (by decide +kernel) t j
  | kneadWindowClose t w => exact Runs.execKneadWindowClose (.refl _ s) (by decide +kernel) t w
  | leafThetaWrite t l k hi w => exact Runs.execLeafThetaWrite (.refl _ s) (by decide +kernel) t l k hi w
  | kneadReset t p r freeze => exact Runs.execKneadReset (.refl _ s) (by decide +kernel) t p r freeze
  | phaseCycle t p cur mean range fault => exact Runs.execPhaseCycle (.refl _ s) (by decide +kernel) t p cur mean range fault
  | loopTick t l => exact Runs.execLoopTick (.refl _ s) (by decide +kernel) t l
  | loopOpen t p l => exact Runs.execLoopOpen (.refl _ s) (by decide +kernel) t p l
  | loopClose t p l => exact Runs.execLoopClose (.refl _ s) (by decide +kernel) t p l
  | grant t e tag cls rail dest loop lc amt rsvd => exact Runs.execGrant (.refl _ s) (by decide +kernel) t e tag cls rail dest loop lc amt rsvd
  | need t e tag child weight node need => exact Runs.execNeed (.refl _ s) (by decide +kernel) t e tag child weight node need
  | creditWindow t l rows => exact Runs.execCreditWindow (.refl _ s) (by decide +kernel) t l rows
  | gateFault t l q => exact Runs.execGateFault (.refl _ s) (by decide +kernel) t l q
  | restEnd t l q => exact Runs.execRestEnd (.refl _ s) (by decide +kernel) t l q
  | faultClear t l q low => exact Runs.execFaultClear (.refl _ s) (by decide +kernel) t l q low
  | hubModeReq t p m => exact Runs.execHubModeReq (.refl _ s) (by decide +kernel) t p m
  | wearPass t ages => exact Runs.execWearPass (.refl _ s) (by decide +kernel) t ages
  | levelWindow t => exact Runs.execLevelWindow (.refl _ s) (by decide +kernel) t
  | vfSlotLower t r => exact Runs.execVfSlotLower (.refl _ s) (by decide +kernel) t r
  | strEnter t p c phase => exact Runs.execStrEnter (.refl _ s) (by decide +kernel) t p c phase
  | strExit t p c => exact Runs.execStrExit (.refl _ s) (by decide +kernel) t p c
  | invSlot t p c => exact Runs.execInvSlot (.refl _ s) (by decide +kernel) t p c
  | invEntry t p c phase => exact Runs.execInvEntry (.refl _ s) (by decide +kernel) t p c phase
  | invalidationDone t => exact Runs.execInvalidationDone (.refl _ s) (by decide +kernel) t
  | starterSample t k c cyc => exact Runs.execStarterSample (.refl _ s) (by decide +kernel) t k c cyc
  | syncInit t o obj a0 a1 a2 => exact Runs.execSyncInit (.refl _ s) (by decide +kernel) t o obj a0 a1 a2
  | syncTag t o obj a0 a1 a2 => exact Runs.execSyncTag (.refl _ s) (by decide +kernel) t o obj a0 a1 a2
  | syncArrive t o obj a0 a1 a2 => exact Runs.execSyncArrive (.refl _ s) (by decide +kernel) t o obj a0 a1 a2
  | syncSignal t o obj a0 a1 a2 => exact Runs.execSyncSignal (.refl _ s) (by decide +kernel) t o obj a0 a1 a2
  | syncSet t o obj a0 a1 a2 => exact Runs.execSyncSet (.refl _ s) (by decide +kernel) t o obj a0 a1 a2
  | syncClear t o obj a0 a1 a2 => exact Runs.execSyncClear (.refl _ s) (by decide +kernel) t o obj a0 a1 a2
  | syncWait t o obj a0 a1 a2 => exact Runs.execSyncWait (.refl _ s) (by decide +kernel) t o obj a0 a1 a2
  | syncCancel t o obj a0 a1 a2 => exact Runs.execSyncCancel (.refl _ s) (by decide +kernel) t o obj a0 a1 a2
  | syncFree t o obj a0 a1 a2 => exact Runs.execSyncFree (.refl _ s) (by decide +kernel) t o obj a0 a1 a2
  | syncBreak t o obj a0 a1 a2 => exact Runs.execSyncBreak (.refl _ s) (by decide +kernel) t o obj a0 a1 a2
  | syncReset t o obj a0 a1 a2 => exact Runs.execSyncReset (.refl _ s) (by decide +kernel) t o obj a0 a1 a2
  | syncForce t o obj a0 a1 a2 => exact Runs.execSyncForce (.refl _ s) (by decide +kernel) t o obj a0 a1 a2
  | syncSetCount t o obj a0 a1 a2 => exact Runs.execSyncSetCount (.refl _ s) (by decide +kernel) t o obj a0 a1 a2
  | ctxSwitch t o obj a0 a1 a2 => exact Runs.execCtxSwitch (.refl _ s) (by decide +kernel) t o obj a0 a1 a2
  | ctxSwitchDone t => exact Runs.execCtxSwitchDone (.refl _ s) (by decide +kernel) t
  | mirrorConfirm t => exact Runs.execMirrorConfirm (.refl _ s) (by decide +kernel) t
  | gateSyncOp t l q sop loc obj arg mode => exact Runs.execGateSyncOp (.refl _ s) (by decide +kernel) t l q sop loc obj arg mode
  | release t e tag ctx lobj gen st shape busy => exact Runs.execRelease (.refl _ s) (by decide +kernel) t e tag ctx lobj gen st shape busy
  | direct t e tag ctx lobj gen st leaf core wid wake => exact Runs.execDirect (.refl _ s) (by decide +kernel) t e tag ctx lobj gen st leaf core wid wake
  | ctxClear t e tag c ep => exact Runs.execCtxClear (.refl _ s) (by decide +kernel) t e tag c ep
  | syncAbsentReport t d => exact Runs.execSyncAbsentReport (.refl _ s) (by decide +kernel) t d
  | lsyncWrite t l k w => exact Runs.execLsyncWrite (.refl _ s) (by decide +kernel) t l k w
  | scoreTrip t d fill codes => exact Runs.execScoreTrip (.refl _ s) (by decide +kernel) t d fill codes
  | scoreHoldExpiry t l p => exact Runs.execScoreHoldExpiry (.refl _ s) (by decide +kernel) t l p
  | ddCalibrate t d sum => exact Runs.execDdCalibrate (.refl _ s) (by decide +kernel) t d sum
  | ddCalReq t p d => exact Runs.execDdCalReq (.refl _ s) (by decide +kernel) t p d
  | ddCalStale t d => exact Runs.execDdCalStale (.refl _ s) (by decide +kernel) t d
  | riseOpen t obj rail => exact Runs.execRiseOpen (.refl _ s) (by decide +kernel) t obj rail
  | riseEnd t => exact Runs.execRiseEnd (.refl _ s) (by decide +kernel) t
  | riseTimeout t obj rail => exact Runs.execRiseTimeout (.refl _ s) (by decide +kernel) t obj rail
  | riseSlewStep t r => exact Runs.execRiseSlewStep (.refl _ s) (by decide +kernel) t r
  | riseExhausted t r => exact Runs.execRiseExhausted (.refl _ s) (by decide +kernel) t r
  | waveRelease t l q => exact Runs.execWaveRelease (.refl _ s) (by decide +kernel) t l q
  | spanStaggerExpiry t obj => exact Runs.execSpanStaggerExpiry (.refl _ s) (by decide +kernel) t obj
  | railLoopSample t r vs opn => exact Runs.execRailLoopSample (.refl _ s) (by decide +kernel) t r vs opn
  | shedDisable t r => exact Runs.execShedDisable (.refl _ s) (by decide +kernel) t r
  | shedTimeout t r => exact Runs.execShedTimeout (.refl _ s) (by decide +kernel) t r
  | leafShed t l r => exact Runs.execLeafShed (.refl _ s) (by decide +kernel) t l r
  | shedHoldExpiry t l => exact Runs.execShedHoldExpiry (.refl _ s) (by decide +kernel) t l
  | slewStep t r => exact Runs.execSlewStep (.refl _ s) (by decide +kernel) t r
  | railVselWrite t p r k => exact Runs.execRailVselWrite (.refl _ s) (by decide +kernel) t p r k
  | railVslotWrite t p r k code => exact Runs.execRailVslotWrite (.refl _ s) (by decide +kernel) t p r k code
  | leafVrefCheck t l => exact Runs.execLeafVrefCheck (.refl _ s) (by decide +kernel) t l
  | leafVref t l w => exact Runs.execLeafVref (.refl _ s) (by decide +kernel) t l w
  | measDone t r => exact Runs.execMeasDone (.refl _ s) (by decide +kernel) t r
  | targetPg t r => exact Runs.execTargetPg (.refl _ s) (by decide +kernel) t r
  | phaseFault t p => exact Runs.execPhaseFault (.refl _ s) (by decide +kernel) t p
  | clrFault t p ph high => exact Runs.execClrFault (.refl _ s) (by decide +kernel) t p ph high
  | phCalReq t p ph => exact Runs.execPhCalReq (.refl _ s) (by decide +kernel) t p ph
  | isnsCalibration t ph ofs => exact Runs.execIsnsCalibration (.refl _ s) (by decide +kernel) t ph ofs
  | tsConversionDone t n raw fault => exact Runs.execTsConversionDone (.refl _ s) (by decide +kernel) t n raw fault
  | conversionLapse t n => exact Runs.execConversionLapse (.refl _ s) (by decide +kernel) t n
  | leafTempPeriod t l => exact Runs.execLeafTempPeriod (.refl _ s) (by decide +kernel) t l
  | tempReport t e tag x band level fb loss leaf seq site => exact Runs.execTempReport (.refl _ s) (by decide +kernel) t e tag x band level fb loss leaf seq site
  | reportLapse t l => exact Runs.execReportLapse (.refl _ s) (by decide +kernel) t l
  | calPassStart t => exact Runs.execCalPassStart (.refl _ s) (by decide +kernel) t
  | calPassEnd t => exact Runs.execCalPassEnd (.refl _ s) (by decide +kernel) t
  | calRst t p n => exact Runs.execCalRst (.refl _ s) (by decide +kernel) t p n
  | sensorLoss t d => exact Runs.execSensorLoss (.refl _ s) (by decide +kernel) t d
  | tcellApply t x => exact Runs.execTcellApply (.refl _ s) (by decide +kernel) t x
  | leafThrReq t l k => exact Runs.execLeafThrReq (.refl _ s) (by decide +kernel) t l k
  | stackUpdate t n x => exact Runs.execStackUpdate (.refl _ s) (by decide +kernel) t n x
  | stkStale t n => exact Runs.execStkStale (.refl _ s) (by decide +kernel) t n
  | absTrip t n => exact Runs.execAbsTrip (.refl _ s) (by decide +kernel) t n
  | ocTrip t r => exact Runs.execOcTrip (.refl _ s) (by decide +kernel) t r
  | ovTrip t r => exact Runs.execOvTrip (.refl _ s) (by decide +kernel) t r
  | uvTrip t r => exact Runs.execUvTrip (.refl _ s) (by decide +kernel) t r
  | uvHaltExpiry t r => exact Runs.execUvHaltExpiry (.refl _ s) (by decide +kernel) t r
  | coolantTrip t => exact Runs.execCoolantTrip (.refl _ s) (by decide +kernel) t
  | brake t => exact Runs.execBrake (.refl _ s) (by decide +kernel) t
  | leafBrake t l w => exact Runs.execLeafBrake (.refl _ s) (by decide +kernel) t l w
  | brakeRelease t => exact Runs.execBrakeRelease (.refl _ s) (by decide +kernel) t
  | crustLatchClear t p w pins => exact Runs.execCrustLatchClear (.refl _ s) (by decide +kernel) t p w pins
  | stepTimeout t => exact Runs.execStepTimeout (.refl _ s) (by decide +kernel) t
  | clkFail t u cause => exact Runs.execClkFail (.refl _ s) (by decide +kernel) t u cause
  | quietPeriodEnd t u => exact Runs.execQuietPeriodEnd (.refl _ s) (by decide +kernel) t u
  | muxHung t u => exact Runs.execMuxHung (.refl _ s) (by decide +kernel) t u
  | clkSel t p u sel => exact Runs.execClkSel (.refl _ s) (by decide +kernel) t p u sel
  | recal t p u => exact Runs.execRecal (.refl _ s) (by decide +kernel) t p u
  | oscCalDone t u n => exact Runs.execOscCalDone (.refl _ s) (by decide +kernel) t u n
  | clkReturn t p => exact Runs.execClkReturn (.refl _ s) (by decide +kernel) t p
  | rstWarm t p => exact Runs.execRstWarm (.refl _ s) (by decide +kernel) t p
  | islRst t p d => exact Runs.execIslRst (.refl _ s) (by decide +kernel) t p d
  | islRstEnd t d => exact Runs.execIslRstEnd (.refl _ s) (by decide +kernel) t d
  | islandRelease t d => exact Runs.execIslandRelease (.refl _ s) (by decide +kernel) t d
  | islNostart t d => exact Runs.execIslNostart (.refl _ s) (by decide +kernel) t d
  | testModeEntry t => exact Runs.execTestModeEntry (.refl _ s) (by decide +kernel) t
  | testModeExit t => exact Runs.execTestModeExit (.refl _ s) (by decide +kernel) t
  | rampStepStart t => exact Runs.execRampStepStart (.refl _ s) (by decide +kernel) t
  | sleepQuiesceDone t l => exact Runs.execSleepQuiesceDone (.refl _ s) (by decide +kernel) t l
  | ccpQack t l p => exact Runs.execCcpQack (.refl _ s) (by decide +kernel) t l p
  | fmaxLag t l p => exact Runs.execFmaxLag (.refl _ s) (by decide +kernel) t l p
  | eventMsg t e tag code inst detail lvl rsvd => exact Runs.execEventMsg (.refl _ s) (by decide +kernel) t e tag code inst detail lvl rsvd
  | evcAck t p k upper => exact Runs.execEvcAck (.refl _ s) (by decide +kernel) t p k upper
  | evcEoi t p k x => exact Runs.execEvcEoi (.refl _ s) (by decide +kernel) t p k x
  | evcUnwind t p k => exact Runs.execEvcUnwind (.refl _ s) (by decide +kernel) t p k
  | evcPopTo t p k x => exact Runs.execEvcPopTo (.refl _ s) (by decide +kernel) t p k x
  | evcThaw t p k => exact Runs.execEvcThaw (.refl _ s) (by decide +kernel) t p k
  | setpend t p k => exact Runs.execSetpend (.refl _ s) (by decide +kernel) t p k
  | clrpend t p k => exact Runs.execClrpend (.refl _ s) (by decide +kernel) t p k
  | evcSrcCfgWrite t p k w => exact Runs.execEvcSrcCfgWrite (.refl _ s) (by decide +kernel) t p k w
  | prigroupWrite t p g => exact Runs.execPrigroupWrite (.refl _ s) (by decide +kernel) t p g
  | evcGrpWrite t p g cnt us => exact Runs.execEvcGrpWrite (.refl _ s) (by decide +kernel) t p g cnt us
  | groupFire t g => exact Runs.execGroupFire (.refl _ s) (by decide +kernel) t g
  | wakeTrigger t k => exact Runs.execWakeTrigger (.refl _ s) (by decide +kernel) t k
  | linkUp t n => exact Runs.execLinkUp (.refl _ s) (by decide +kernel) t n
  | linkDown t n => exact Runs.execLinkDown (.refl _ s) (by decide +kernel) t n
  | authDone t n ok => exact Runs.execAuthDone (.refl _ s) (by decide +kernel) t n ok
  | authBackoffEnd t n => exact Runs.execAuthBackoffEnd (.refl _ s) (by decide +kernel) t n
  | linkSilent t n => exact Runs.execLinkSilent (.refl _ s) (by decide +kernel) t n
  | dxlHeartbeatSend t n => exact Runs.execDxlHeartbeatSend (.refl _ s) (by decide +kernel) t n
  | dxlKeyUpdate t n => exact Runs.execDxlKeyUpdate (.refl _ s) (by decide +kernel) t n
  | dxlHeartbeat t h state rx sys => exact Runs.execDxlHeartbeat (.refl _ s) (by decide +kernel) t h state rx sys
  | arriveFrame t h obj gen job => exact Runs.execArriveFrame (.refl _ s) (by decide +kernel) t h obj gen job
  | releaseFrame t h obj gen job => exact Runs.execReleaseFrame (.refl _ s) (by decide +kernel) t h obj gen job
  | breakFrame t h obj gen job all reason => exact Runs.execBreakFrame (.refl _ s) (by decide +kernel) t h obj gen job all reason
  | leaseGrid t => exact Runs.execLeaseGrid (.refl _ s) (by decide +kernel) t
  | leaseOffer t h spare want feed => exact Runs.execLeaseOffer (.refl _ s) (by decide +kernel) t h spare want feed
  | leaseDecision t => exact Runs.execLeaseDecision (.refl _ s) (by decide +kernel) t
  | leaseGrant t h amt lseq texp => exact Runs.execLeaseGrant (.refl _ s) (by decide +kernel) t h amt lseq texp
  | leaseRecall t h amt lseq teff => exact Runs.execLeaseRecall (.refl _ s) (by decide +kernel) t h amt lseq teff
  | leaseExpiry t n => exact Runs.execLeaseExpiry (.refl _ s) (by decide +kernel) t n
  | recallEffect t n => exact Runs.execRecallEffect (.refl _ s) (by decide +kernel) t n
  | leaseGuardExpiry t n => exact Runs.execLeaseGuardExpiry (.refl _ s) (by decide +kernel) t n
  | tsyncSend t => exact Runs.execTsyncSend (.refl _ s) (by decide +kernel) t
  | timeSyncRequest t h t1 => exact Runs.execTimeSyncRequest (.refl _ s) (by decide +kernel) t h t1
  | timeSyncReply t h t2 d32 t1lo => exact Runs.execTimeSyncReply (.refl _ s) (by decide +kernel) t h t2 d32 t1lo
  | failNotice t h lo hi => exact Runs.execFailNotice (.refl _ s) (by decide +kernel) t h lo hi
  | mirrorHeartbeatMiss t => exact Runs.execMirrorHeartbeatMiss (.refl _ s) (by decide +kernel) t
  | mirrorPortDown t => exact Runs.execMirrorPortDown (.refl _ s) (by decide +kernel) t
  | hubOkLapse t => exact Runs.execHubOkLapse (.refl _ s) (by decide +kernel) t
  | takeoverGrant t resent => exact Runs.execTakeoverGrant (.refl _ s) (by decide +kernel) t resent
  | mirSwitch t p => exact Runs.execMirSwitch (.refl _ s) (by decide +kernel) t p
  | mirRejoin t p => exact Runs.execMirRejoin (.refl _ s) (by decide +kernel) t p
  | mirDetach t p => exact Runs.execMirDetach (.refl _ s) (by decide +kernel) t p
  | bulkCopyDone t => exact Runs.execBulkCopyDone (.refl _ s) (by decide +kernel) t
  | lazyCopy t => exact Runs.execLazyCopy (.refl _ s) (by decide +kernel) t
  | primarySwitch t => exact Runs.execPrimarySwitch (.refl _ s) (by decide +kernel) t
  | leafCounterWindow t l reps => exact Runs.execLeafCounterWindow (.refl _ s) (by decide +kernel) t l reps
  | counterMsg t e tag lk cidx ctx seq nleaf ua delta => exact Runs.execCounterMsg (.refl _ s) (by decide +kernel) t e tag lk cidx ctx seq nleaf ua delta
  | counterSumTimeout t n lk ctx seq => exact Runs.execCounterSumTimeout (.refl _ s) (by decide +kernel) t n lk ctx seq
  | counterWindowComplete t k => exact Runs.execCounterWindowComplete (.refl _ s) (by decide +kernel) t k
  | latchStart t p page c k addr => exact Runs.execLatchStart (.refl _ s) (by decide +kernel) t p page c k addr
  | latchEnd t p page c k addr => exact Runs.execLatchEnd (.refl _ s) (by decide +kernel) t p page c k addr
  | leafCntLatch t l c num reps => exact Runs.execLeafCntLatch (.refl _ s) (by decide +kernel) t l c num reps
  | latchPointComplete t c num => exact Runs.execLatchPointComplete (.refl _ s) (by decide +kernel) t c num
  | telemetryWindow t => exact Runs.execTelemetryWindow (.refl _ s) (by decide +kernel) t
  | recordWriteDone t err => exact Runs.execRecordWriteDone (.refl _ s) (by decide +kernel) t err
  | recRingEnable t p n base size clr => exact Runs.execRecRingEnable (.refl _ s) (by decide +kernel) t p n base size clr
  | trcArm t p => exact Runs.execTrcArm (.refl _ s) (by decide +kernel) t p
  | trcTrig t p => exact Runs.execTrcTrig (.refl _ s) (by decide +kernel) t p
  | trcFreeze t p => exact Runs.execTrcFreeze (.refl _ s) (by decide +kernel) t p
  | trcOff t p => exact Runs.execTrcOff (.refl _ s) (by decide +kernel) t p
  | trcDump t p => exact Runs.execTrcDump (.refl _ s) (by decide +kernel) t p
  | trcDumpDone t => exact Runs.execTrcDumpDone (.refl _ s) (by decide +kernel) t
  | traceStall t => exact Runs.execTraceStall (.refl _ s) (by decide +kernel) t
  | trcFrameSent t => exact Runs.execTrcFrameSent (.refl _ s) (by decide +kernel) t
  | registerWrite t p addr size post w pins => exact Runs.execRegisterWrite (.refl _ s) (by decide +kernel) t p addr size post w pins
  | postedWritePerform t pins => exact Runs.execPostedWritePerform (.refl _ s) (by decide +kernel) t pins
  | queueDrainDone t => exact Runs.execQueueDrainDone (.refl _ s) (by decide +kernel) t
  | rspTimeout t init => exact Runs.execRspTimeout (.refl _ s) (by decide +kernel) t init
  | facPkgCmd t m tag cmd => exact Runs.execFacPkgCmd (.refl _ s) (by decide +kernel) t m tag cmd
  | facGetState t m tag => exact Runs.execFacGetState (.refl _ s) (by decide +kernel) t m tag
  | facReadReg t m tag off => exact Runs.execFacReadReg (.refl _ s) (by decide +kernel) t m tag off
  | facImgOpen t m tag => exact Runs.execFacImgOpen (.refl _ s) (by decide +kernel) t m tag
  | facImgData t m tag ptr data => exact Runs.execFacImgData (.refl _ s) (by decide +kernel) t m tag ptr data
  | facImgCommit t m tag => exact Runs.execFacImgCommit (.refl _ s) (by decide +kernel) t m tag
  | facImgAbort t m tag => exact Runs.execFacImgAbort (.refl _ s) (by decide +kernel) t m tag
  | facCommitSvn t m tag => exact Runs.execFacCommitSvn (.refl _ s) (by decide +kernel) t m tag
  | facImgStatus t m tag => exact Runs.execFacImgStatus (.refl _ s) (by decide +kernel) t m tag
  | facTrcRead t m tag slot count => exact Runs.execFacTrcRead (.refl _ s) (by decide +kernel) t m tag slot count
  | facAlertClr t m tag mask => exact Runs.execFacAlertClr (.refl _ s) (by decide +kernel) t m tag mask
  | facSignTrip t m tag nonce => exact Runs.execFacSignTrip (.refl _ s) (by decide +kernel) t m tag nonce
  | facCertOpen t m tag => exact Runs.execFacCertOpen (.refl _ s) (by decide +kernel) t m tag
  | facCertData t m tag ptr data => exact Runs.execFacCertData (.refl _ s) (by decide +kernel) t m tag ptr data
  | facCertCommit t m tag len => exact Runs.execFacCertCommit (.refl _ s) (by decide +kernel) t m tag len
  | setEndpointId t m op eid => exact Runs.execSetEndpointId (.refl _ s) (by decide +kernel) t m op eid
  | getEndpointId t m => exact Runs.execGetEndpointId (.refl _ s) (by decide +kernel) t m
  | getMctpVersionSupport t m typ => exact Runs.execGetMctpVersionSupport (.refl _ s) (by decide +kernel) t m typ
  | getMessageTypeSupport t m => exact Runs.execGetMessageTypeSupport (.refl _ s) (by decide +kernel) t m
  | getVendorDefinedMessageSupport t m sel => exact Runs.execGetVendorDefinedMessageSupport (.refl _ s) (by decide +kernel) t m sel
  | getVersion t m => exact Runs.execGetVersion (.refl _ s) (by decide +kernel) t m
  | getCapabilities t m => exact Runs.execGetCapabilities (.refl _ s) (by decide +kernel) t m
  | negotiateAlgorithms t m offers => exact Runs.execNegotiateAlgorithms (.refl _ s) (by decide +kernel) t m offers
  | getDigests t m => exact Runs.execGetDigests (.refl _ s) (by decide +kernel) t m
  | getCertificate t m slot off len => exact Runs.execGetCertificate (.refl _ s) (by decide +kernel) t m slot off len
  | challenge t m slot nonce => exact Runs.execChallenge (.refl _ s) (by decide +kernel) t m slot nonce
  | getMeasurements t m idx sign nonce => exact Runs.execGetMeasurements (.refl _ s) (by decide +kernel) t m idx sign nonce
  | keyExchange t m slot exch => exact Runs.execKeyExchange (.refl _ s) (by decide +kernel) t m slot exch
  | finish t m k ok => exact Runs.execFinish (.refl _ s) (by decide +kernel) t m k ok
  | spdmHeartbeat t m => exact Runs.execSpdmHeartbeat (.refl _ s) (by decide +kernel) t m
  | spdmKeyUpdate t m op => exact Runs.execSpdmKeyUpdate (.refl _ s) (by decide +kernel) t m op
  | endSession t m => exact Runs.execEndSession (.refl _ s) (by decide +kernel) t m
  | pmbPage t pec w => exact Runs.execPmbPage (.refl _ s) (by decide +kernel) t pec w
  | voutMode t pec => exact Runs.execVoutMode (.refl _ s) (by decide +kernel) t pec
  | readVout t pec => exact Runs.execReadVout (.refl _ s) (by decide +kernel) t pec
  | readIout t pec => exact Runs.execReadIout (.refl _ s) (by decide +kernel) t pec
  | readPout t pec => exact Runs.execReadPout (.refl _ s) (by decide +kernel) t pec
  | readTemperature1 t pec => exact Runs.execReadTemperature1 (.refl _ s) (by decide +kernel) t pec
  | mfrFacilityCapWrite t pec w => exact Runs.execMfrFacilityCapWrite (.refl _ s) (by decide +kernel) t pec w
  | mfrFacilityCapRead t pec => exact Runs.execMfrFacilityCapRead (.refl _ s) (by decide +kernel) t pec
  | setdasa t sa da ibi => exact Runs.execSetdasa (.refl _ s) (by decide +kernel) t sa da ibi
  | entdaa t da won ibi => exact Runs.execEntdaa (.refl _ s) (by decide +kernel) t da won ibi
  | alertResponseAddress t => exact Runs.execAlertResponseAddress (.refl _ s) (by decide +kernel) t
  | facAlertSw t p => exact Runs.execFacAlertSw (.refl _ s) (by decide +kernel) t p
  | keygenDone t => exact Runs.execKeygenDone (.refl _ s) (by decide +kernel) t
  | idCertOpen t p => exact Runs.execIdCertOpen (.refl _ s) (by decide +kernel) t p
  | idCertWdata t p w => exact Runs.execIdCertWdata (.refl _ s) (by decide +kernel) t p w
  | idCertCommit t p len => exact Runs.execIdCertCommit (.refl _ s) (by decide +kernel) t p len
  | tripLapse t => exact Runs.execTripLapse (.refl _ s) (by decide +kernel) t
  | monGood t u => exact Runs.execMonGood (.refl _ s) (by decide +kernel) t u
  | muxSwitchComplete t u => exact Runs.execMuxSwitchComplete (.refl _ s) (by decide +kernel) t u
  | mirrorHeartbeat t => exact Runs.execMirrorHeartbeat (.refl _ s) (by decide +kernel) t
  | perTickCopy t => exact Runs.execPerTickCopy (.refl _ s) (by decide +kernel) t
  | reservedTypeMessage t e => exact Runs.execReservedTypeMessage (.refl _ s) (by decide +kernel) t e
  | reservedTypeFrame t h => exact Runs.execReservedTypeFrame (.refl _ s) (by decide +kernel) t h

/-- What a command answers is work within its scope. -/
theorem does_of_exec {c : Instr} {s u : State} (h : exec c s = .next u) : Does (scopeOf c).foot s u := by
  obtain ⟨v, hv, hd⟩ := exec_runs c s
  obtain rfl : v = u := by simpa [hv] using h
  exact hd

/-- Settles O5: the work of a command lies in the masks of its scope, and what lies outside them reads as before. -/
theorem everyCommandKeepsItsFrame : Obligations.EveryCommandKeepsItsFrame :=
  fun _ _ _ h => (does_of_exec h).within (Foot.le_refl _)

/-- A step takes the front command off the queue and runs it. -/
theorem step_cons {s : State} {c : Instr} {rest : List Instr} (h : s.pending = c :: rest) :
    step s = exec c { s with pending := rest } := by
  simp only [step, h]

/-- A step on an empty queue is the block's own work. -/
theorem step_nil {s : State} (h : s.pending = []) : step s = .next s.idle := by
  simp only [step, h]

/-- With no message on a lane and no write that waits, the block's own work is none. -/
theorem State.idle_of_nothing {s : State} (hl : s.lanes = []) (hw : s.reqWait = []) : s.idle = s := by
  simp [State.idle, State.laneRound, hl, hw]

/-- Settles O2: work within a scope leaves the queue of waiting commands as it is. -/
theorem everyCommandRuns : Obligations.EveryCommandRuns := by
  refine ⟨fun c s => ?_, fun s u c rest hq hu => ?_⟩
  · obtain ⟨u, hu, hd⟩ := exec_runs c s
    exact ⟨u, hu, hd.pending⟩
  · rw [step_cons hq] at hu
    exact (does_of_exec hu).pending

/-- Settles O1: the two branches of a step, by whether the queue is empty. -/
theorem stepRunsTheFrontCommand : Obligations.StepRunsTheFrontCommand :=
  ⟨fun _ _ _ => step_cons rfl, fun _ hq => step_nil hq,
    fun s hq hl hw => by rw [step_nil hq, State.idle_of_nothing hl hw]⟩

/-! ### Command registers -/

/-- A port that the hub does not take has no command of LOOP_CTRL sent on to a node engine. -/
theorem State.loopCtrl_of_not_takes {s : State} {p : Port} (h : ¬ Takes s p) (t l cmd : Nat) :
    (s.start t).loopCtrl p l cmd = (s.start t).command p .LOOP_CTRL (fun s => s.loopOp l cmd) l := by
  have hn : (!(s.start t).hubUp || !p.priv) = true := by
    simpa [Takes, Classical.or_iff_not_imp_left] using h
  unfold State.loopCtrl
  extract_lets d
  rw [if_pos (by simp only [Bool.or_assoc, Bool.or_eq_true] at hn ⊢; tauto)]

/-- A command that writes a command register outside the context pages, of a port that the hub does not take, comes to the port's
command path. -/
theorem exec_of_cmdWrite {c : Instr} {w : CmdWrite} {s : State} (hw : cmdWrite c = some w) (h : ¬ Takes s w.port) :
    ∃ t op, exec c s = .next ((s.start t).command w.port w.reg op w.i w.j) := by
  revert hw
  fun_cases cmdWrite c <;> intro hw <;> cases hw
  -- the two commands of LOOP_CTRL
  case case17 | case18 => exact ⟨_, _, congrArg _ (State.loopCtrl_of_not_takes h ..)⟩
  all_goals exact ⟨_, _, rfl⟩

/-- An answered request changes only the record of the answered error. -/
theorem frame_answer (s : State) (t : Nat) (p : Port) (r : Reg) (st : Status) (i j : Nat) :
    Frame Scope.refused s ((s.start t).answer p r st i j) :=
  (((Does.refl _ s).start t).answer (Foot.le_refl _) p r st i j).within (by decide)

/-- Settles O6: without the privileged window a port's command path answers E_PRIV and does nothing else. -/
theorem commandsNeedThePrivilegedWindow : Obligations.CommandsNeedThePrivilegedWindow := by
  intro c w s hc hu hp
  obtain ⟨t, op, he⟩ := exec_of_cmdWrite (s := s) hc (by simp [Takes, hp])
  rw [State.command_noPriv hu hp] at he
  exact ⟨_, he, told_answer .., frame_answer ..⟩

end Sys2Proof.Machine

/-!
PROOFS. Writes of registers that do no operation (00 R16 to R22; 18 R536 to R540): where an address lies, what the access codes set
and clear, what the register port answers, holds back or queues, and what the oldest posted write does.
-/
namespace Sys2Proof.Machine

/-! ### Where an address lies -/

/-- A distance is whole strides and what is left; without a stride all of it is left. -/
theorem eq_strides_add_rest (d n : Nat) : d = (if n = 0 then 0 else d / n) * n + (if n = 0 then d else d % n) := by
  by_cases h : n = 0
  · simp [h]
  · simp [h, Nat.div_add_mod']

/-- An address that has indices in a place is the place's base with whole strides. -/
theorem placeIndex_eq_some {p : Place} {a i j : Nat} (h : placeIndex p a = some (i, j)) :
    a = p.base + i * p.s1 + j * p.s2 ∧ i < p.lo1 + p.n1 ∧ j < p.lo2 + p.n2 := by
  unfold placeIndex at h
  split at h
  · cases h
  · next hb =>
    extract_lets d i' e j' f at h
    split at h
    · next hc =>
      obtain ⟨rfl, rfl⟩ : i' = i ∧ j' = j := by simpa using h
      simp only [Bool.and_eq_true, decide_eq_true_eq, Nat.ble_eq, Nat.blt_eq] at hc hb
      obtain ⟨⟨⟨⟨hf, -⟩, hi⟩, -⟩, hj⟩ := hc
      have hd : d = i' * p.s1 + e := eq_strides_add_rest d p.s1
      have he : e = j' * p.s2 + f := eq_strides_add_rest e p.s2
      exact ⟨by omega, hi, hj⟩
    · cases h

/-- A register is decoded at an address that has its indices in the register's place. -/
theorem placeIndex_of_decodeAddr {a i j : Nat} {r : Reg} (h : decodeAddr a = some (r, i, j)) :
    placeIndex r.place (a / 8 * 8) = some (i, j) := by
  obtain ⟨q, -, hq⟩ := List.exists_of_findSome?_eq_some h
  obtain ⟨⟨x, y⟩, hx, he⟩ := Option.map_eq_some_iff.mp hq
  cases he
  exact hx

/-- No node engine holds a copy of what lies outside the loops and the gain tables (05 R168). -/
theorem State.copyNodes_outside (s : State) {a : Nat} (h : a < 0x4_0000 ∨ 0x6_0000 ≤ a) : s.copyNodes a = [] := by
  unfold State.copyNodes isLoopReg
  rw [if_neg (by simp only [Bool.and_eq_true, Nat.ble_eq, Nat.blt_eq]; omega),
    if_neg (by simp only [Bool.and_eq_true, Nat.ble_eq, Nat.blt_eq]; omega)]

/-! ### Registers whose write does nothing beside -/

/-- The registers of O50: a write of one has the effect of its access codes and no other. -/
abbrev plainWriteRegs : List Reg :=
  [.SHP_CTRL, .CRUST_STATUS, .ECC_STATUS, .IMG_STATUS, .EVC_WAKE, .RAIL_LOOP, .RAIL_SHED, .REC_ROUTE]

/-- None of them has a copy in a node engine. -/
theorem State.copyNodes_plainWrite (s : State) {a i j : Nat} {r : Reg} (hr : r ∈ plainWriteRegs)
    (h : decodeAddr a = some (r, i, j)) : s.copyNodes a = [] := by
  obtain ⟨ha, hi, hj⟩ := placeIndex_eq_some (placeIndex_of_decodeAddr h)
  apply s.copyNodes_outside
  fin_cases hr <;> simp only [Reg.place] at ha hi hj <;> omega

/-- A 64-bit write of one of them has the effect of its access codes alone. -/
theorem State.regOp_plainWrite (s : State) (p : Port) {r : Reg} (hr : r ∈ plainWriteRegs) (i j a : Nat) (w : Word) (pins : Pins) :
    s.regOp p r i j a true w pins = (some .ok, s.plain r i j (w &&& ~~~s.justSet r i j)) := by
  fin_cases hr <;> rfl

/-- A field that takes its value from a write of one of them is not one whose bits the write clears. -/
theorem mask_plainWrite_disjoint {r : Reg} (hr : r ∈ plainWriteRegs) :
    r.mask accSets &&& r.mask (fun a => a = .W1C) = 0 := by
  fin_cases hr <;> decide

/-- Such a write, performed. -/
theorem State.perform_plainWrite (s : State) (p : Port) {r : Reg} (hr : r ∈ plainWriteRegs) {i j a : Nat} (w : Word) (pins : Pins)
    (h : decodeAddr a = some (r, i, j)) (hi : addrIsland a = none) :
    s.perform p a true w pins = (some .ok, s.plain r i j (w &&& ~~~s.justSet r i j)) := by
  simp only [State.perform, hi, h, s.copyNodes_plainWrite hr h, s.regOp_plainWrite p hr]

/-- The bits of a register after a write by its access codes: a W1C bit clears where the word has a 1, and of the others the ones
that a write sets take the word's value. -/
theorem State.getLsbD_plain (s : State) (r : Reg) (i j : Nat) (w : Word) {k : Nat} (hk : k < 64) :
    ((s.plain r i j w).reg r i j).getLsbD k =
      ((if (r.mask accSets).getLsbD k then w.getLsbD k else (s.reg r i j).getLsbD k)
        && !((r.mask fun a => a = .W1C).getLsbD k && w.getLsbD k)) := by
  simp only [State.plain, State.reg_setReg_same, BitVec.getLsbD_and, BitVec.getLsbD_or, BitVec.getLsbD_not, hk, decide_true,
    Bool.true_and]
  cases (r.mask accSets).getLsbD k <;> simp

/-- What a write of one of them leaves in each of its bits. -/
theorem State.getLsbD_plainWrite (s : State) {r : Reg} (hr : r ∈ plainWriteRegs) (i j : Nat) (w : Word) {k : Nat} (hk : k < 64) :
    ((s.plain r i j w).reg r i j).getLsbD k =
      if (r.mask accSets).getLsbD k then w.getLsbD k
      else (s.reg r i j).getLsbD k && !((r.mask fun a => a = .W1C).getLsbD k && w.getLsbD k) := by
  have hd : ((r.mask accSets).getLsbD k && (r.mask fun a => a = .W1C).getLsbD k) = false := by
    rw [← BitVec.getLsbD_and, mask_plainWrite_disjoint hr]
    exact BitVec.getLsbD_zero
  rw [s.getLsbD_plain r i j w hk]
  split
  · next hm => simp [hm] at hd; simp [hd]
  · rfl

/-- A write by the access codes of one register leaves every other one. -/
theorem State.reg_plain_ne (s : State) {r x : Reg} {i j a b : Nat} (w : Word) (h : ¬ (x = r ∧ a = i ∧ b = j)) :
    (s.plain r i j w).reg x a b = s.reg x a b :=
  s.reg_setReg_ne r x _ i j a b fun e => by cases e; exact h ⟨rfl, rfl, rfl⟩

/-! ### Answers -/

/-- Whoever sent a write is told its status. -/
theorem told_answerD_zero (s : State) (p : Port) (a : Nat) (wrt : Bool) (st : Status) : Told p st 0 (s.answerD p a wrt st 0) := by
  simpa using told_answerD s p a wrt st 0

/-- Whoever sent a write that names a register is told its status. -/
theorem told_answerReg (s : State) (p : Port) (r : Reg) (a : Nat) (wrt : Bool) (st : Status) :
    Told p st 0 (s.answerReg p r a wrt st 0) := by
  have h := told_answerD_zero s p a wrt st
  unfold State.answerReg
  cases p with
  | reg init priv =>
    dsimp only
    split
    · exact .inr ⟨_, List.mem_append_right _ List.mem_cons_self, rfl, rfl, rfl, by simp⟩
    · exact h
  | posted init priv => trivial
  | fac => exact h

/-- An answer OK writes no register. -/
theorem State.reg_answerReg_ok (s : State) (p : Port) (q : Reg) (a : Nat) (wrt : Bool) (d : Word) (r : Reg) (i j : Nat) :
    (s.answerReg p q a wrt .ok d).reg r i j = s.reg r i j := by
  unfold State.answerReg
  cases p with
  | reg init priv =>
    dsimp only
    split <;> rfl
  | posted init priv => rfl
  | fac => rfl

/-! ### What does not depend on the stamp at which a command starts -/

theorem State.addrOwner_start (s : State) (t a : Nat) : (s.start t).addrOwner a = s.addrOwner a := by
  unfold State.addrOwner
  rw [show (s.start t).inst? = s.inst? from rfl, show (s.start t).hasDom = s.hasDom from rfl,
    show (s.start t).mirCfg = s.mirCfg from rfl, show (s.start t).loop? = s.loop? from rfl,
    show (s.start t).gtNodes = s.gtNodes from rfl, show (s.start t).rail? = s.rail? from rfl]

@[simp] theorem State.accessStatus_start (s : State) (t : Nat) (p : Port) (a size : Nat) :
    (s.start t).accessStatus p a size = s.accessStatus p a size := by
  unfold State.accessStatus
  rw [State.addrOwner_start, show (s.start t).pathUpTo = s.pathUpTo from rfl]

/-! ### What a write of the register or the facility port comes to -/

/-- The hub examines a write at once: it came through the facility port, or the register port accepts it and no earlier request holds
it up (18 R536, R538). -/
def BeginsNow (s : State) (p : Port) (a : Nat) (posts : Bool) : Prop :=
  p = .fac ∨ ∃ init priv, p = .reg init priv ∧ s.accepted.length < 32 ∧ s.reqBlocked init a posts s.reqWait = false

section Writes
variable {s : State} {p : Port} {addr size init : Nat} {post priv : Bool}


/-- A write that the checks of its acceptance reject is answered with their status. -/
theorem exec_registerWrite_rejected (hu : s.hubUp = true) (hb : BeginsNow s p (addr % 2 ^ 26) (s.posts post (addr % 2 ^ 26)))
    (hs : s.accessStatus p (addr % 2 ^ 26) size ≠ .ok) (t : Nat) (w : Word) (pins : Pins) :
    exec (.registerWrite t p addr size post w pins) s =
      .next ((s.start t).answerD p (addr % 2 ^ 26) true (s.accessStatus p (addr % 2 ^ 26) size) 0) := by
  change execRegisterWrite t p addr size post w pins s = _
  unfold execRegisterWrite
  generalize addr % 2 ^ 26 = a at *
  obtain rfl | ⟨init, priv, rfl, hl, hw⟩ := hb
  · simp [hu, hs]
  · simp [State.reqBegin, hu, hs, hl, hw]

/-- A write that is accepted and not posted is performed and answered. -/
theorem exec_registerWrite_performed (hu : s.hubUp = true) (hb : BeginsNow s p (addr % 2 ^ 26) false)
    (hs : s.accessStatus p (addr % 2 ^ 26) size = .ok) (t : Nat) (w : Word) (pins : Pins) :
    exec (.registerWrite t p addr size false w pins) s =
      .next ((s.start t).performAns p (addr % 2 ^ 26) (Nat.beq size 3) w pins) := by
  change execRegisterWrite t p addr size false w pins s = _
  unfold execRegisterWrite
  generalize addr % 2 ^ 26 = a at *
  obtain rfl | ⟨init, priv, rfl, hl, hw⟩ := hb
  · simp [hu, hs]
  · simp [State.reqBegin, State.posts, hu, hs, hl, hw]

/-- A posted write that finds room enters the queue. -/
theorem exec_registerWrite_posted (hu : s.hubUp = true) (hl : s.accepted.length < 32)
    (hw : s.reqBlocked init (addr % 2 ^ 26) true s.reqWait = false) (hp : s.posts post (addr % 2 ^ 26) = true)
    (hs : s.accessStatus (.reg init priv) (addr % 2 ^ 26) size = .ok) (hq : s.posted.length < 32) (t : Nat) (w : Word) (pins : Pins) :
    exec (.registerWrite t (.reg init priv) addr size post w pins) s =
      .next ((s.start t).postAdd init priv (addr % 2 ^ 26) w (Nat.beq size 3)) := by
  change execRegisterWrite t (.reg init priv) addr size post w pins s = _
  unfold execRegisterWrite
  generalize addr % 2 ^ 26 = a at *
  simp [State.reqBegin, hu, hs, hw, hp, Nat.not_le.mpr hl, Nat.not_le.mpr hq]

/-- A posted write that finds the queue full waits outside. -/
theorem exec_registerWrite_full (hu : s.hubUp = true) (hp : s.posts post (addr % 2 ^ 26) = true)
    (hs : s.accessStatus (.reg init priv) (addr % 2 ^ 26) size = .ok) (hq : ¬ s.posted.length < 32) (t : Nat) (w : Word) (pins : Pins) :
    exec (.registerWrite t (.reg init priv) addr size post w pins) s = .next (s.start t) := by
  change execRegisterWrite t (.reg init priv) addr size post w pins s = _
  unfold execRegisterWrite
  generalize addr % 2 ^ 26 = a at *
  simp [hu, hs, hp, Nat.not_lt.mp hq]

/-- A write that an earlier request holds up waits with the status of its acceptance. -/
theorem exec_registerWrite_blocked (hu : s.hubUp = true) (hl : s.accepted.length < 32)
    (hq : s.posts post (addr % 2 ^ 26) = true → s.posted.length < 32)
    (hw : s.reqBlocked init (addr % 2 ^ 26) (s.posts post (addr % 2 ^ 26)) s.reqWait = true) (t : Nat) (w : Word) (pins : Pins) :
    exec (.registerWrite t (.reg init priv) addr size post w pins) s = .next { s.start t with reqWait := s.reqWait ++
      [⟨max s.time t, init, priv, addr % 2 ^ 26, size, post, w, pins, s.accessStatus (.reg init priv) (addr % 2 ^ 26) size⟩] } := by
  change execRegisterWrite t (.reg init priv) addr size post w pins s = _
  unfold execRegisterWrite
  generalize addr % 2 ^ 26 = a at *
  have hf : ¬ ((s.posts post a = true ∧ s.accessStatus (.reg init priv) a size = .ok) ∧ 32 ≤ s.posted.length) :=
    fun h => absurd (hq h.1.1) (Nat.not_lt.mpr h.2)
  simp [hu, hw, hf, Nat.not_le.mpr hl]

end Writes

/-! ### The posted-write queue -/

/-- A write that enters the queue is answered OK. -/
theorem State.told_postAdd (s : State) (init : Nat) (priv : Bool) (a : Nat) (w : Word) (wide : Bool) :
    Told (.reg init priv) .ok 0 (s.postAdd init priv a w wide) :=
  .inl (List.mem_append_right _ List.mem_cons_self)

/-- It stands at the end of the queue. -/
theorem State.posted_postAdd (s : State) (init : Nat) (priv : Bool) (a : Nat) (w : Word) (wide : Bool) :
    (s.postAdd init priv a w wide).posted = s.posted ++ [⟨init, priv, a, w, wide, false⟩] := rfl

/-- The queue's depth is shown. -/
theorem State.depth_postAdd (s : State) (init : Nat) (priv : Bool) (a : Nat) (w : Word) (wide : Bool) (h : s.posted.length < 32) :
    (s.postAdd init priv a w wide).rd F.HOST_STATUS_PQ_DEPTH = s.posted.length + 1 := by
  refine (State.rd_wr_same _ F.HOST_STATUS_PQ_DEPTH _ 0 0 (by decide)).trans ?_
  change (s.posted ++ [_]).length % 64 = s.posted.length + 1
  rw [List.length_append, List.length_singleton, Nat.mod_eq_of_lt (by omega)]

/-- The front of the queue leaves it. -/
theorem State.posted_postedDone_ok (s : State) : (s.postedDone false).posted = s.posted.drop 1 := rfl

/-- That changes only the queue's depth in HOST_STATUS. -/
theorem State.reg_postedDone_ok (s : State) {q : Reg} (h : q ≠ .HOST_STATUS) (i j : Nat) :
    (s.postedDone false).reg q i j = s.reg q i j :=
  State.reg_setReg_reg _ _ q _ 0 0 i j h

/-! ### Work that has nothing to do -/

theorem State.rampRun_of_not_ramp {s : State} (h : s.pkg ≠ Pkg.ramp) (n : Nat) : s.rampRun n = s := by
  cases n <;> simp [State.rampRun, h]

theorem State.downRun_of_none {s : State} (h : s.v .downFor = 0) (n : Nat) : s.downRun n = s := by
  cases n <;> simp [State.downRun, State.vn, h]

theorem State.islPlanRun_of_none {s : State} (h : s.islPlanned = false) : s.islPlanRun = s := by
  have hn : ((s.tree.map (·.dom)).filter fun d => !(s.v .islPlan d = 0)) = [] := by
    simpa [State.islPlanned, List.filter_eq_nil_iff] using h
  simp only [State.islPlanRun, hn, State.each, List.foldl_nil]

/-- With no ramp, no ramp-down and no planned reset nothing goes on. -/
theorem State.pkgRun_of_none {s : State} (hr : s.pkg ≠ Pkg.ramp) (hd : s.v .downFor = 0) (hi : s.islPlanned = false) :
    s.pkgRun = s := by
  rw [State.pkgRun, State.rampRun_of_not_ramp hr, State.downRun_of_none hd, State.islPlanRun_of_none hi]

/-- With no write that waits none begins. -/
theorem State.reqRun_of_nil {s : State} (h : s.reqWait = []) : s.reqRun = s := by
  simp [State.reqRun, State.reqPump, State.reqNext, h]

/-! ### The obligation -/

/-- A plain write that the hub performs and answers at once. -/
theorem State.performAns_plainWrite (s : State) (p : Port) {r : Reg} (hr : r ∈ plainWriteRegs) {i j a : Nat} (w : Word) (pins : Pins)
    (h : decodeAddr a = some (r, i, j)) (hi : addrIsland a = none) :
    s.performAns p a true w pins = (s.plain r i j (w &&& ~~~s.justSet r i j)).answerReg p r a true .ok 0 := by
  simp only [State.performAns, s.perform_plainWrite p hr w pins h hi, h]

/-- A plain posted write that has been performed changes nothing that a ramp, a ramp-down or a planned reset waits for. -/
theorem State.pkgRun_plainWrite {s : State} {r : Reg} (hr : r ∈ plainWriteRegs) (i j : Nat) (c : Word) (hp : s.pkg ≠ Pkg.ramp)
    (hd : s.v .downFor = 0) (hi : s.islPlanned = false) :
    ((s.plain r i j c).postedDone false).pkgRun = (s.plain r i j c).postedDone false := by
  have hk : ((s.plain r i j c).postedDone false).pkg = s.pkg := by
    simp only [State.pkg, State.rd]
    rw [State.reg_postedDone_ok _ (by decide), State.reg_plain_ne _ c fun h => ne_of_mem_of_not_mem hr (by decide) h.1.symm]
  exact State.pkgRun_of_none (hk ▸ hp) hd hi

/-- The oldest posted write, of a plain register, is performed and leaves the queue. -/
theorem exec_postedWritePerform_plain {s : State} {i j : Nat} {x : PostedWr} {rest : List PostedWr} {r : Reg} (hu : s.hubUp = true)
    (hp : s.posted = x :: rest) (hb : x.busy = false) (hw : x.wide = true)
    (hs : s.accessStatus (.posted x.init x.priv) x.addr 3 = .ok) (hd : decodeAddr x.addr = some (r, i, j))
    (hi : addrIsland x.addr = none) (hr : r ∈ plainWriteRegs) (t : Nat) (pins : Pins) :
    exec (.postedWritePerform t pins) s =
      .next (((s.start t).plain r i j (x.data &&& ~~~(s.start t).justSet r i j)).postedDone false).pkgRun.reqRun := by
  change execPostedWritePerform t pins s = _
  simp [execPostedWritePerform, hp, hb, hu, hw, hs, hi, (s.start t).perform_plainWrite _ hr x.data pins hd hi, State.answerD]

/-- Settles O50: by what each write of the register port comes to, and what the access codes of one register leave in its bits. -/
theorem registersAreWritten : Obligations.RegistersAreWritten := by
  refine ⟨?_, ?_, ?_, ?_, ?_⟩
  · intro s t addr i j w c pins r p hu hb hs hd hi hr hc
    have hb' : BeginsNow s p (addr % 2 ^ 26) false := by
      obtain h | ⟨init, h⟩ := hb
      · exact .inl h
      · exact .inr ⟨init, true, h⟩
    refine ⟨_, exec_registerWrite_performed hu hb' hs t w pins, ?_⟩
    rw [show Nat.beq 3 3 = true from rfl, State.performAns_plainWrite _ p hr w pins hd hi, ← hc]
    refine ⟨told_answerReg .., fun k hk => ?_, fun x a b hn => ?_⟩
    · rw [State.reg_answerReg_ok, State.getLsbD_plainWrite _ hr i j c hk, State.reg_start]
    · rw [State.reg_answerReg_ok, State.reg_plain_ne _ c hn, State.reg_start]
  · intro s t addr size post w pins p hu hb hs
    exact ⟨_, exec_registerWrite_rejected hu hb hs t w pins, told_answerD_zero ..,
      (((Does.refl _ s).start t).answerD (Foot.le_refl _) ..).within (by decide)⟩
  · intro s t addr init priv w pins hu hl hs hp hd hb
    have hq : s.posts true (addr % 2 ^ 26) = true := by rw [State.posts, hp, hd]; rfl
    by_cases hn : s.posted.length < 32
    · refine ⟨_, exec_registerWrite_posted hu hl hb hq hs hn t w pins, ?_⟩
      simp only [if_pos hn]
      exact ⟨State.told_postAdd .., State.posted_postAdd .., State.depth_postAdd _ _ _ _ _ _ hn⟩
    · refine ⟨_, exec_registerWrite_full hu hq hs hn t w pins, ?_⟩
      simp only [if_neg hn]
      exact ⟨rfl, ((Does.refl _ s).start t).within (Foot.le_refl _)⟩
  · intro s t addr size init priv post w pins hu hl hq hb
    exact ⟨_, exec_registerWrite_blocked hu hl hq hb t w pins, rfl⟩
  · intro s t i j c x rest pins r hu hp hb hw hs hd hi hr hk hdn hpl hrw hc
    have h := exec_postedWritePerform_plain hu hp hb hw hs hd hi hr t pins
    rw [← hc, State.pkgRun_plainWrite (s := s.start t) hr i j c hk hdn hpl, State.reqRun_of_nil (by exact hrw)] at h
    refine ⟨_, h, ?_, fun k hk => ?_⟩
    · rw [State.posted_postedDone_ok]
      exact congrArg (List.drop 1) hp
    · rw [State.reg_postedDone_ok _ (ne_of_mem_of_not_mem hr (by decide)), State.getLsbD_plainWrite _ hr i j c hk, State.reg_start]

end Sys2Proof.Machine

/-!
PROOFS. The package states (spec/01_architecture.md R39 to R47; 13 R412, R415): what HUB_PKG_STATE shows after an entry, where a ramp
and a ramp-down leave the package, and what each package command comes to.
-/
namespace Sys2Proof.Machine

/-! ### Flags and runs over a list -/

/-- A one-bit flag that hardware has set reads 1. -/
theorem State.rd_flag_one (s : State) (f : Fld) (i j : Nat) (hw : f.w = 1) (hl : f.lsb < 64) : (s.flag f i j).rd f i j = 1 := by
  rw [State.rd_flag_same _ _ _ _ _ (by omega), hw]
  change (_ ||| 1) % 2 ^ 1 = 1
  simp

/-- What holds of a state and is kept for each member of a list holds after the run over the list. -/
theorem State.each_keeps {α : Type} {P : State → Prop} {s : State} {l : List α} {op : State → α → State} (h : P s)
    (hop : ∀ u x, x ∈ l → P u → P (op u x)) : P (s.each l op) :=
  List.foldlRecOn l op h fun u hu x hx => hop u x hx hu

/-- What the work for one member of a list sets up, and the work for each keeps, holds after the run over the list. -/
theorem State.each_sets {α : Type} {P : State → Prop} {s : State} {l : List α} {op : State → α → State} {x : α} (hx : x ∈ l)
    (hset : ∀ u, P (op u x)) (hop : ∀ u y, y ∈ l → P u → P (op u y)) : P (s.each l op) := by
  obtain ⟨a, b, rfl⟩ := List.append_of_mem hx
  rw [State.each, List.foldl_append, List.foldl_cons]
  exact State.each_keeps (hset _) fun u y hy => hop u y (List.mem_append_right _ (List.mem_cons_of_mem _ hy))

/-- A variable after a write of it at some index. -/
theorem State.v_setV_if (s : State) (x : Var) (y : Int) (i j a b : Nat) :
    (s.setV x y i j).v x a b = if a = i ∧ b = j then y else s.v x a b := by
  split
  · next h => rw [h.1, h.2, State.v_setV_same]
  · next h => exact State.v_setV_ne _ _ _ _ _ _ _ _ fun e => h (by injection e with _ h1 h2; exact ⟨h1, h2⟩)

/-! ### The register HUB_PKG_STATE -/

/-- HUB_PKG_STATE shows the state that was entered, the state before and the cause of the entry (01 R39, R40). -/
structure Entered (prev st cause : Nat) (u : State) : Prop where
  pkg : u.pkg = st
  prev : u.rd F.HUB_PKG_STATE_PREV = prev
  cause : u.rd F.HUB_PKG_STATE_CAUSE = cause

theorem State.pkg_congr {s u : State} (h : u.reg .HUB_PKG_STATE = s.reg .HUB_PKG_STATE) : u.pkg = s.pkg := by
  simp only [State.pkg, State.rd, h]

theorem State.pkg_lt (s : State) : s.pkg < 16 := by
  unfold State.pkg State.rd getBits
  exact BitVec.isLt _

theorem State.rd_congr {s u : State} {f : Fld} {i j : Nat} (h : u.reg f.r i j = s.reg f.r i j) : u.rd f i j = s.rd f i j := by
  simp only [State.rd, h]

/-- Of HUB_PKG_STATE an entry sets PREV, STATE, CAUSE and ENTRY_TIME, and what follows it leaves the register. -/
theorem State.reg_pkgTo_shown (s : State) (st cause : Nat) :
    (s.pkgTo st cause).reg .HUB_PKG_STATE = ((((s.stateTime.wr F.HUB_PKG_STATE_PREV s.stateTime.pkg).wr F.HUB_PKG_STATE_STATE st).wr
      F.HUB_PKG_STATE_CAUSE cause).wr F.HUB_PKG_STATE_ENTRY_TIME s.time).reg .HUB_PKG_STATE := by
  unfold State.pkgTo State.when
  rw [State.reg_event _ _ (by decide), State.reg_loopsArm (by decide), State.reg_setV,
    State.reg_each _ _ _ _ _ _ fun v c _ => State.reg_smpSpoil _ (by decide)]
  split <;> rfl

/-- Entering a package state shows it. -/
theorem entered_pkgTo (s : State) {st cause : Nat} (hs : st < 16) (hc : cause < 256) : Entered s.pkg st cause (s.pkgTo st cause) := by
  have hp : s.stateTime.pkg = s.pkg := State.pkg_congr (State.reg_stateTime (by decide))
  have h {f : Fld} (hf : f.r = .HUB_PKG_STATE) := State.rd_congr (f := f) (hf ▸ State.reg_pkgTo_shown s st cause)
  constructor
  · rw [State.pkg, h rfl]
    simp (disch := decide) only [State.rd_wr_same, State.rd_wr_apart]
    exact Nat.mod_eq_of_lt hs
  · rw [h rfl]
    simp (disch := decide) only [State.rd_wr_same, State.rd_wr_apart, hp]
    exact Nat.mod_eq_of_lt s.pkg_lt
  · rw [h rfl]
    simp (disch := decide) only [State.rd_wr_same, State.rd_wr_apart]
    exact Nat.mod_eq_of_lt hc

theorem Entered.keep {prev st cause : Nat} {s u : State} (h : Entered prev st cause s) (hr : u.reg .HUB_PKG_STATE = s.reg .HUB_PKG_STATE) :
    Entered prev st cause u :=
  ⟨(State.pkg_congr hr).trans h.pkg, (State.rd_congr hr).trans h.prev, (State.rd_congr hr).trans h.cause⟩

/-- A write of another register leaves the package state. -/
theorem State.pkg_wr (s : State) {f : Fld} (h : .HUB_PKG_STATE ≠ f.r) (v i j : Nat) : (s.wr f v i j).pkg = s.pkg :=
  State.pkg_congr (State.reg_wr_reg _ _ _ _ _ _ _ _ h)

/-! ### The entries by command -/

theorem entered_holdEnter (s : State) : Entered s.pkg Pkg.hold 5 s.holdEnter := by
  refine (entered_pkgTo s (st := Pkg.hold) (cause := 5) (by decide) (by decide)).keep ?_
  dsimp only [State.holdEnter]
  rw [State.reg_each _ _ _ _ _ _ fun _ _ _ => State.reg_setV .., State.reg_loopsLeave _ (by decide), State.reg_setV]

theorem entered_resumeRun (s : State) : Entered s.pkg Pkg.run 5 s.resumeRun := by
  unfold State.resumeRun
  extract_lets a b out c d e f
  have hc : c.pkg = s.pkg := by
    refine State.pkg_congr ?_
    simp only [c, b, State.reg_setV]
    rw [State.reg_each _ _ _ _ _ _ fun _ _ _ => State.reg_wr_reg _ _ _ _ _ _ _ _ (by decide)]
    simp only [a, State.when]
    split
    · exact State.reg_modeTo _ (by decide)
    · rfl
  refine (hc ▸ entered_pkgTo c (st := Pkg.run) (cause := 5) (by decide) (by decide)).keep ?_
  rw [State.reg_allEff (by decide)]
  have he : e.reg .HUB_PKG_STATE = (c.pkgTo Pkg.run 5).reg .HUB_PKG_STATE := by
    simp (disch := decide) only [e, d, State.reg_loopsRun, State.reg_vfRun]
  clear_value e
  refine Eq.trans ?_ he
  simp only [f, State.when]
  split
  · rw [State.reg_each _ _ _ _ _ _ fun _ _ _ => State.reg_splitAll _ (by decide)]
    rfl
  · rfl

theorem entered_sleepEnter (s : State) : Entered s.pkg Pkg.sleep 5 s.sleepEnter := by
  refine (entered_pkgTo s (st := Pkg.sleep) (cause := 5) (by decide) (by decide)).keep ?_
  dsimp only [State.sleepEnter]
  rw [State.reg_each _ _ _ _ _ _ fun u l _ => ?_]
  · rw [State.reg_retSlots _ (by decide), State.reg_loopsLeave _ (by decide)]
  · rw [State.reg_each _ _ _ _ _ _ fun _ _ _ => State.reg_setV ..,
      State.reg_each _ _ _ _ _ _ fun _ _ _ => State.reg_issueDrive _ _ (by decide)]

theorem entered_sleepWake (s : State) {cause : Nat} (hc : cause < 256) : Entered s.pkg Pkg.run cause (s.sleepWake cause) := by
  unfold State.sleepWake
  extract_lets a b c
  have hb : b.pkg = s.pkg := by
    refine State.pkg_congr ?_
    simp only [b, a]
    rw [State.reg_each _ _ _ _ _ _ fun _ _ _ => by rw [State.reg_setV, State.reg_leafAcct _ (by decide)],
      State.reg_each _ _ _ _ _ _ fun u l _ => State.reg_each _ _ _ _ _ _ fun _ _ _ => by rw [State.reg_setV, State.reg_setV, State.reg_setV]]
  refine (hb ▸ entered_pkgTo b (st := Pkg.run) (by decide) hc).keep ?_
  rw [State.reg_allEff (by decide), State.reg_loopsRun (by decide), State.reg_vfRun (by decide)]

/-- CRUST_STOP is shown asserted once it is asserted. -/
theorem State.stop_stopOn (s : State) : s.stopOn.rd F.CRUST_STATUS_STOP = 1 := by
  unfold State.stopOn
  rw [State.rd_allEff (by decide), State.rd_each _ _ _ _ _ _ fun _ _ _ => State.rd_leafRevoke _ (by decide)]
  exact State.rd_wr_same _ _ _ _ _ (by decide)

/-! ### FAIL -/

/-- What FAIL_ENTRY does once FAIL is entered with CRUST_STOP asserted leaves HUB_PKG_STATE and CRUST_STATUS. -/
theorem State.reg_failEnter_shown (s : State) (cause : Nat) {r : Reg} (hr : r = .HUB_PKG_STATE ∨ r = .CRUST_STATUS) :
    (s.failEnter cause).reg r = ((s.tripShow.pkgTo Pkg.fail cause).stopOn).reg r := by
  unfold State.failEnter
  extract_lets before tripped a b c d body e ups f n g h i
  obtain rfl | rfl := hr <;>
  · rw [State.reg_alertRise _ (by decide), State.reg_faultRecord _ _ (by decide), State.reg_event _ _ (by decide),
      State.reg_leaseFail (by decide), State.reg_syncFlush (by decide),
      State.reg_each _ _ _ _ _ _ fun _ _ _ => State.reg_spanBreak _ _ _ (by decide),
      State.reg_each _ _ _ _ _ _ fun _ _ _ => State.reg_frameOut _ _ _ (by decide), State.reg_setV,
      State.reg_downGiveUp (by decide), State.reg_setV, State.reg_setV, State.reg_loopsLeave _ (by decide)]

/-- Showing TRIPCOUNT leaves the package state. -/
theorem State.pkg_tripShow (s : State) : s.tripShow.pkg = s.pkg :=
  State.rd_wr_apart _ _ _ _ _ _ _ _ (by decide) (by decide)

theorem entered_failEnter (s : State) {cause : Nat} (hc : cause < 256) : Entered s.pkg Pkg.fail cause (s.failEnter cause) := by
  have h := entered_pkgTo s.tripShow (st := Pkg.fail) (by decide) hc
  rw [State.pkg_tripShow] at h
  exact h.keep ((s.reg_failEnter_shown cause (.inl rfl)).trans (State.reg_stopOn (by decide)))

theorem State.stop_failEnter (s : State) (cause : Nat) : (s.failEnter cause).rd F.CRUST_STATUS_STOP = 1 :=
  (State.rd_congr (s.reg_failEnter_shown cause (.inr rfl))).trans (State.stop_stopOn _)

/-! ### The ramp-down -/

/-- A ramp-down that waits for the drain, and finds it done, fences its channels and goes on. -/
theorem State.downRun_drained {s : State} (hf : s.vn .downFor ≠ 0) (hw : s.v .downWait = 1) (hd : s.drainDone = true) (n : Nat) :
    s.downRun (n + 1) =
      ((s.each (s.downEnds (s.vn .downFor)) fun s e => (s.fenceIssue e 1).2).setV .downWait 2).downRun n := by
  simp [State.downRun, hf, hw, hd]

/-- What every step of a ramp-down keeps holds where the ramp-down waits, and where it ends: in AON for RESET_TO_AON, with the
channels of the islands that stay up resumed otherwise. -/
theorem State.downRun_ends {P : State → Prop}
    (hf : ∀ u why, P u → P ((u.each (u.downEnds why) fun u e => (u.fenceIssue e 1).2).setV .downWait 2))
    (hs : ∀ u, P u → P ((u.setV .downWait 0).stopOn))
    (hd : ∀ u why k, P u → P (u.downStep why k))
    (hn : ∀ u, P u → P (u.setV .downNow (-1))) (n : Nat) {s : State} (h : P s) :
    P (s.downRun n) ∨ ∃ u, P u ∧ (u.v .downFor = 1 ∧ s.downRun n = u.aonEnter
      ∨ u.v .downFor ≠ 1 ∧ s.downRun n = (u.setV .downFor 0).resumeUp) := by
  induction n generalizing s with
  | zero => exact .inl h
  | succ n ih =>
    rw [State.downRun]
    dsimp only
    split
    · exact .inl h
    split
    · split
      · exact ih (hf s _ h)
      · exact .inl h
    split
    · split
      · split
        · exact ih (hd _ _ _ (hs s h))
        · exact ih (hn _ (hs s h))
      · exact .inl h
    split
    · split
      · exact ih (hd s _ _ h)
      · refine .inr ⟨_, hn s h, ?_⟩
        rw [State.v_setV_var _ _ _ _ _ _ _ _ (by decide)]
        split
        · next h1 => exact .inl ⟨by unfold State.vn at h1; omega, rfl⟩
        · next h1 => exact .inr ⟨by unfold State.vn at h1; omega, rfl⟩
    · exact .inl h

/-- CANDIDATE_SELECT leaves the package state, or enters VERIFY. -/
theorem State.pkg_candidate (s : State) : s.candidate.pkg = s.pkg ∨ s.candidate.pkg = Pkg.verify := by
  unfold State.candidate
  dsimp only
  split
  · exact .inl rfl
  · right
    rw [State.pkg_wr _ (by decide), State.pkg_wr _ (by decide), (entered_pkgTo _ (by decide) (by decide)).pkg]

/-- RESET_TO_AON ends in AON, or in the VERIFY of its candidate. -/
theorem State.pkg_aonEnter (s : State) : s.aonEnter.pkg = Pkg.aon ∨ s.aonEnter.pkg = Pkg.verify := by
  unfold State.aonEnter
  extract_lets a b c
  have hc : c.pkg = Pkg.aon :=
    (State.pkg_congr (State.reg_rstSync (by decide))).trans (entered_pkgTo b (by decide) (by decide)).pkg
  exact hc ▸ c.pkg_candidate

/-- A ramp-down leaves HUB_PKG_STATE and what it is for, until one for RESET_TO_AON ends in AON. -/
theorem State.downRun_purpose (s : State) (n : Nat) :
    (s.downRun n).reg .HUB_PKG_STATE = s.reg .HUB_PKG_STATE ∧ (s.v .downFor = 1 → (s.downRun n).v .downFor = 1)
      ∨ s.v .downFor = 1 ∧ ∃ u : State, s.downRun n = u.aonEnter := by
  have h := State.downRun_ends (P := fun u => u.reg .HUB_PKG_STATE = s.reg .HUB_PKG_STATE ∧ u.v .downFor = s.v .downFor)
    (fun u why h => by
      rw [State.reg_setV, State.v_setV_var _ _ _ _ _ _ _ _ (by decide),
        State.reg_each _ _ _ _ _ _ fun _ _ _ => State.reg_fenceIssue _ _ (by decide),
        State.v_each _ _ _ _ _ _ fun _ _ _ => State.v_fenceIssue _ _ (by decide)]
      exact h)
    (fun u h => by
      rw [State.reg_stopOn (by decide), State.v_stopOn (by decide), State.reg_setV, State.v_setV_var _ _ _ _ _ _ _ _ (by decide)]
      exact h)
    (fun u why k h => by
      rw [State.reg_downStep _ _ (by decide), State.v_downStep _ _ (by decide)]
      exact h)
    (fun u h => by
      rw [State.reg_setV, State.v_setV_var _ _ _ _ _ _ _ _ (by decide)]
      exact h) n ⟨rfl, rfl⟩
  obtain ⟨hr, hv⟩ | ⟨u, ⟨hr, hv⟩, ⟨h1, he⟩ | ⟨h1, he⟩⟩ := h
  · exact .inl ⟨hr, fun h1 => hv.trans h1⟩
  · exact .inr ⟨hv.symm.trans h1, u, he⟩
  · refine .inl ⟨?_, fun h2 => absurd (hv.trans h2) h1⟩
    rw [he, State.reg_resumeUp (by decide), State.reg_setV, hr]

/-- A ramp-down with drain and fences as it begins (13 R415). -/
def State.downBegun (s : State) (why : Nat) : State :=
  (((s.setV .downFor why).setV .rampNow (-1)).setV .downWait 1).setV .downNow (-1)

theorem State.downStart_eq (s : State) {why : Nat} (h : why ≠ 3) : s.downStart why = (s.downBegun why).downRun 64 := by
  rw [State.downStart, if_neg h]
  rfl

theorem State.downFor_downBegun (s : State) (why : Nat) : (s.downBegun why).v .downFor = why := by
  simp (disch := decide) only [State.downBegun, State.v_setV_var, State.v_setV_same]

/-- A ramp-down for DEEP_SLEEP leaves HUB_PKG_STATE. -/
theorem State.reg_downStart_deep (s : State) : (s.downStart 2).reg .HUB_PKG_STATE = s.reg .HUB_PKG_STATE := by
  rw [State.downStart_eq s (by decide)]
  obtain ⟨h, -⟩ | ⟨h, -⟩ := (s.downBegun 2).downRun_purpose 64
  · exact h
  · rw [State.downFor_downBegun] at h
    contradiction

/-- A ramp-down for RESET_TO_AON waits, or has reached AON or the VERIFY that follows it. -/
theorem State.downStart_reset (s : State) :
    (s.downStart 1).v .downFor = 1 ∨ (s.downStart 1).pkg = Pkg.aon ∨ (s.downStart 1).pkg = Pkg.verify := by
  rw [State.downStart_eq s (by decide)]
  obtain ⟨-, h⟩ | ⟨-, u, h⟩ := (s.downBegun 1).downRun_purpose 64
  · exact .inl (h (s.downFor_downBegun 1))
  · exact .inr (h ▸ u.pkg_aonEnter)

theorem entered_deepEnter (s : State) : Entered s.pkg Pkg.deepSleep 5 s.deepEnter := by
  refine (entered_pkgTo s (st := Pkg.deepSleep) (cause := 5) (by decide) (by decide)).keep ?_
  unfold State.deepEnter
  rw [State.reg_downStart_deep, State.reg_wakeIgnore (by decide), State.reg_retSlots _ (by decide), State.reg_loopsLeave _ (by decide)]

/-! ### RAMP -/

/-- What every step of RAMP keeps holds where RAMP waits, and where it ends in RUN. -/
theorem State.rampRun_ends {P : State → Prop} (hs : ∀ u k, P u → u.rampNext (u.v .rampNow) = some k → P (u.rampStepTo k false)) (n : Nat)
    {s : State} (h : P s) :
    P (s.rampRun n) ∨ ∃ u, P u ∧ s.rampRun n = (u.setV .rampNow (-1)).runEnter 4 := by
  induction n generalizing s with
  | zero => exact .inl h
  | succ n ih =>
    rw [State.rampRun]
    split
    · split
      · next k hk => exact ih (hs s k h hk)
      · exact .inr ⟨s, h, rfl⟩
    · exact .inl h

theorem entered_runEnter (s : State) {cause : Nat} (hc : cause < 256) : Entered s.pkg Pkg.run cause (s.runEnter cause) := by
  refine (entered_pkgTo s (by decide) hc).keep ?_
  unfold State.runEnter
  rw [State.reg_allEff (by decide), State.reg_loopsRun (by decide), State.reg_vfRun (by decide)]

/-- RAMP waits in RAMP or ends in RUN. -/
theorem State.pkg_rampRun {s : State} (h : s.pkg = Pkg.ramp) (n : Nat) : (s.rampRun n).pkg = Pkg.ramp ∨ (s.rampRun n).pkg = Pkg.run := by
  obtain h | ⟨u, -, he⟩ := State.rampRun_ends (P := fun u => u.pkg = Pkg.ramp)
    (fun u k hu _ => (State.pkg_congr (State.reg_rampStepTo _ _ (by decide))).trans hu) n h
  · exact .inl h
  · exact .inr (he ▸ (entered_runEnter _ (by decide)).pkg)

theorem State.stopLatched_congr {s u : State} (h : u.reg .CRUST_LATCH = s.reg .CRUST_LATCH) : u.stopLatched = s.stopLatched := by
  simp only [State.stopLatched, h]

/-- With no stopping cause latched and the hub not on its oscillator, RAMP is entered, and may at once be through. -/
theorem State.pkg_rampEnter {s : State} (hl : s.stopLatched = []) (hc : s.is F.CLK_STAT_ON_OSC 0 = false) {cause : Nat} (hb : cause < 256) :
    (s.rampEnter cause).pkg = Pkg.ramp ∨ (s.rampEnter cause).pkg = Pkg.run := by
  unfold State.rampEnter
  extract_lets a b c latched clock d
  have hbr (r : Reg) (h : Foot.downGiveUp.hasR r = false) (i : Nat) : b.reg r i = s.reg r i := by
    simp only [b, a]
    rw [State.reg_each _ _ _ _ _ _ fun _ _ _ => State.reg_setV .., State.reg_setV, State.reg_setV, State.reg_downGiveUp h]
  have hlat : latched = [] := by
    rw [← hl]
    exact State.stopLatched_congr ((State.reg_pkgTo _ _ (by decide)).trans (hbr _ (by decide) 0))
  have hosc : c.is F.CLK_STAT_ON_OSC 0 = false := by
    rw [← hc]
    simp only [State.is, State.rd, c]
    rw [State.reg_pkgTo _ _ (by decide), hbr _ (by decide)]
  have hd : d.pkg = Pkg.ramp := (State.pkg_congr (State.reg_stopOff (by decide))).trans (entered_pkgTo b (by decide) hb).pkg
  rw [if_neg (by simp [hlat, clock, hosc])]
  clear_value d
  split
  · exact State.pkg_rampRun ((State.pkg_congr (State.reg_rampStepTo _ _ (by decide))).trans hd) _
  · exact .inr (entered_runEnter _ (by decide)).pkg

/-! ### What a package command comes to -/

/-- A command of HUB_PKG_CMD comes to the operation of its code. -/
theorem exec_pkgRow {k t : Nat} {p : Port} {c : Instr} (h : pkgRow k t p = some c) (s : State) :
    exec c s = .next ((s.start t).command p .HUB_PKG_CMD fun s => s.pkgCmd k) := by
  have hk : k < 9 := (List.getElem?_eq_some_iff.mp h).1
  interval_cases k <;> cases h <;> rfl

/-- A package command that the hub takes is answered with the status of its operation. -/
theorem answers_pkgRow {s v : State} {k t : Nat} {p : Port} {c : Instr} {st : Status} {Q : State → Prop} (hp : Takes s p)
    (hc : pkgRow k t p = some c) (ho : (s.start t).pkgCmd k = (st, v)) (hq : Q (v.answer p .HUB_PKG_CMD st)) :
    Answers c s fun u => Told p st 0 u ∧ Q u := by
  refine ⟨_, exec_pkgRow hc s, ?_⟩
  rw [State.command_takes hp, ho]
  exact ⟨told_answer .., hq⟩

/-- The statements' list of the commands of a state is the model's. -/
theorem State.pkgListed_eq (s : State) (k : Nat) : s.pkgListed k = (k = 0 || s.v .downFor ≠ 1 && s.pkgLists k) := by
  rcases k with _ | _ | _ | _ | _ | _ | _ | _ | _ | _ <;> rfl

/-- An unlisted command is rejected. -/
theorem State.pkgCmd_unlisted {s : State} {k : Nat} (h : s.pkgListed k = false) : s.pkgCmd k = s.pkgReject := by
  rw [State.pkgListed_eq] at h
  obtain ⟨hk, hl⟩ : k ≠ 0 ∧ (s.v .downFor ≠ 1 → s.pkgLists k = false) := by simpa using h
  rw [State.pkgCmd, if_neg hk, if_pos (by simpa [Classical.or_iff_not_imp_left] using hl)]

/-- A listed command is taken where no loader hold is in progress. -/
theorem State.pkgCmd_listed {s : State} {k : Nat} (hk : k ≠ 0) (hd : s.v .downFor ≠ 1) (hl : s.pkgLists k = true) (hi : s.img.delta = none) :
    s.pkgCmd k = (.ok, s.pkgTake k) := by
  rw [State.pkgCmd, if_neg hk, if_neg (by simp [hd, hl]), if_neg (by simp [hi])]
  rfl

/-- During a loader hold it waits (log entry 132). -/
theorem State.pkgCmd_held {s : State} {k : Nat} (hk : 0 < k) (h8 : k ≠ 8) (hl : s.pkgListed k = true) (hi : s.img.delta ≠ none) :
    s.pkgCmd k = (.ok, s.setV .resumeWait (16 * s.v .resumeWait + k)) := by
  rw [State.pkgListed_eq] at hl
  obtain ⟨hd, hl⟩ : s.v .downFor ≠ 1 ∧ s.pkgLists k = true := by simpa [hk.ne'] using hl
  rw [State.pkgCmd, if_neg hk.ne', if_neg (by simp [hd, hl]), if_pos (by simp [Option.isSome_iff_ne_none, hi, h8])]
  rfl

/-- An answer leaves the package state. -/
theorem State.pkg_answer (s : State) (p : Port) (r : Reg) (st : Status) : (s.answer p r st).pkg = s.pkg :=
  State.pkg_congr (State.reg_answer _ _ _ _ _ (by decide))

theorem Entered.answer {prev st cause : Nat} {s : State} (h : Entered prev st cause s) (p : Port) (r : Reg) (a : Status) :
    Entered prev st cause (s.answer p r a) :=
  h.keep (State.reg_answer _ _ _ _ _ (by decide))

/-- An answer OK keeps every frame. -/
theorem Frame.answer_ok {g : Scope} {s u : State} (h : Frame g s u) (p : Port) (r : Reg) : Frame g s (u.answer p r .ok) where
  regs q i j hq := (State.reg_answerReg_ok _ _ _ _ _ _ _ _ _).trans (h.regs q i j hq)
  vars x i j hx := (State.v_answer _ _ _ _ _ (by simp [Foot.answer, Foot.hasV])).trans (h.vars x i j hx)
  parts q hq := (State.part_answer _ _ _ _ _ (by simp [Foot.answer, Foot.hasP])).trans (h.parts q hq)

/-- A listed package command that is taken is answered OK. -/
theorem answers_pkgTake {s : State} {p : Port} (hp : Takes s p) (hd : s.v .downFor ≠ 1) (hi : s.img.delta = none) {k t : Nat} {c : Instr}
    (hc : pkgRow k t p = some c) (hk : k ≠ 0) (hl : (s.start t).pkgLists k = true) {Q : State → Prop}
    (hq : Q (((s.start t).pkgTake k).answer p .HUB_PKG_CMD .ok)) : Answers c s fun u => Told p .ok 0 u ∧ Q u :=
  answers_pkgRow hp hc (State.pkgCmd_listed (s := s.start t) hk hd hl hi) hq

/-- A SLEEP or DEEP_SLEEP that a wake source holds off leaves the package state (01 R43). -/
theorem State.pkg_sleepAbort (s : State) : s.sleepAbort.pkg = s.pkg := by
  refine (State.rd_wr_apart _ _ _ _ _ _ _ _ (by decide) (by decide)).trans ?_
  exact State.rd_each _ _ _ _ _ _ fun _ _ _ => State.rd_flag_reg _ _ _ _ _ _ _ _ (by decide)

/-- It shows ABORTED. -/
theorem State.aborted_sleepAbort (s : State) : s.sleepAbort.rd F.HUB_PKG_STATE_ABORTED = 1 :=
  State.rd_flag_one _ _ _ _ rfl (by decide)

/-- RECOVER is accepted only with no stopping cause latched. -/
theorem State.stopLatched_of_recoverOk {s : State} (h : s.recoverOk = true) : s.stopLatched = [] :=
  List.isEmpty_iff.mp (Bool.and_eq_true_iff.mp h).1

theorem State.pkgTake_sleep {s : State} (h : s.wakes = []) : s.pkgTake 3 = s.sleepEnter := by simp [State.pkgTake, h]

theorem State.pkgTake_deepSleep {s : State} (h : s.wakes = []) : s.pkgTake 4 = s.deepEnter := by simp [State.pkgTake, h]

theorem State.pkgTake_sleep_wakes {s : State} (h : s.wakes ≠ []) : s.pkgTake 3 = s.sleepAbort := by simp [State.pkgTake, h]

theorem State.pkgTake_deepSleep_wakes {s : State} (h : s.wakes ≠ []) : s.pkgTake 4 = s.sleepAbort := by simp [State.pkgTake, h]

theorem State.wakeUp_sleep {s : State} (h : s.pkg = Pkg.sleep) (cause : Nat) : s.wakeUp cause = s.sleepWake cause := by
  simp [State.wakeUp, h]

theorem State.wakeUp_deepSleep {s : State} (h : s.pkg = Pkg.deepSleep) (cause : Nat) : s.wakeUp cause = s.rampEnter cause := by
  simp [State.wakeUp, h]

/-- HALT_CLEAR of rails of which none is halted changes nothing that RAMP looks at before it starts. -/
theorem State.pkg_recoverRun {s : State} (hl : s.stopLatched = []) (hc : s.is F.CLK_STAT_ON_OSC 0 = false)
    (hr : ∀ r, r ∈ s.railNums → s.railSt r ≠ Rs.halt) : s.recoverRun.pkg = Pkg.ramp ∨ s.recoverRun.pkg = Pkg.run := by
  unfold State.recoverRun
  extract_lets a b
  have ha (r : Reg) (h : r ≠ .CRUST_STATUS) (i : Nat) : a.reg r i = s.reg r i := by
    rw [State.reg_wr_reg _ _ _ _ _ _ _ _ h, State.reg_setV]
  have hb (r : Reg) (h : r ≠ .CRUST_STATUS) (i : Nat) : b.reg r i = s.reg r i := by
    have := State.each_keeps (P := fun u => ∀ (r : Reg), r ≠ .CRUST_STATUS → ∀ i, u.reg r i = s.reg r i) (l := a.railNums)
      (op := fun s r => (s.haltClear r).setV .uvEnd (-1) r) ha fun u r hm hu => ?_
    · exact this r h i
    · have hn : u.railSt r ≠ Rs.halt := by
        rw [State.railSt, State.rd_congr (hu _ (by decide) _)]
        exact hr r hm
      rw [State.haltClear, if_neg hn]
      exact hu
  refine State.pkg_rampEnter ?_ ?_ (by decide)
  · exact hl ▸ State.stopLatched_congr (hb _ (by decide) 0)
  · rw [State.is, State.rd_congr (hb _ (by decide) _)]
    exact hc

/-! ### The obligations on package commands -/

/-- Settles O8: by what each listed command does as it is taken, and that a command waits during a loader hold. -/
theorem packageCommandsEnterTheirStates : Obligations.PackageCommandsEnterTheirStates := by
  refine ⟨?_, ?_, ?_⟩
  · intro s t p hp
    exact answers_pkgRow hp (k := 0) rfl rfl (Frame.answer_ok (((Does.refl ⟨0, 0, 0⟩ s).start t).within (by decide)) ..)
  · intro s t p hp hd hi
    have habort : ((s.start t).sleepAbort.answer p .HUB_PKG_CMD .ok).pkg = s.pkg
        ∧ ((s.start t).sleepAbort.answer p .HUB_PKG_CMD .ok).rd F.HUB_PKG_STATE_ABORTED = 1 :=
      ⟨(State.pkg_answer ..).trans (s.start t).pkg_sleepAbort, (State.rd_answer _ _ _ _ _ (by decide)).trans (s.start t).aborted_sleepAbort⟩
    refine ⟨?hold, ?resume, ?sleep, ?deepSleep, ?sleepWakes, ?deepSleepWakes, ?wake, ?wakeDeep, ?recover, ?fail, ?reset⟩
    case hold =>
      intro h
      obtain ⟨h1, h2, h3⟩ := (entered_holdEnter (s.start t)).answer p .HUB_PKG_CMD .ok
      exact answers_pkgTake hp hd hi (k := 1) rfl (by decide) (by simp [State.pkgLists, h]) ⟨h1, h2.trans h, h3⟩
    case resume =>
      intro h
      obtain ⟨h1, h2, h3⟩ := (entered_resumeRun (s.start t)).answer p .HUB_PKG_CMD .ok
      exact answers_pkgTake hp hd hi (k := 2) rfl (by decide) (by simp [State.pkgLists, h]) ⟨h1, h2.trans h, h3⟩
    case sleep =>
      intro h hw
      obtain ⟨h1, -, h3⟩ := (entered_sleepEnter (s.start t)).answer p .HUB_PKG_CMD .ok
      refine answers_pkgTake hp hd hi (k := 3) rfl (by decide) (by simp [State.pkgLists, h]) ?_
      rw [State.pkgTake_sleep (s := s.start t) hw]
      exact ⟨h1, h3⟩
    case deepSleep =>
      intro h hw
      obtain ⟨h1, -, h3⟩ := (entered_deepEnter (s.start t)).answer p .HUB_PKG_CMD .ok
      refine answers_pkgTake hp hd hi (k := 4) rfl (by decide) (by simp [State.pkgLists, h]) ?_
      rw [State.pkgTake_deepSleep (s := s.start t) hw]
      exact ⟨h1, h3⟩
    case sleepWakes =>
      intro h hw
      refine answers_pkgTake hp hd hi (k := 3) rfl (by decide) (by simp [State.pkgLists, h]) ?_
      rw [State.pkgTake_sleep_wakes (s := s.start t) hw]
      exact ⟨habort.1.trans h, habort.2⟩
    case deepSleepWakes =>
      intro h hw
      refine answers_pkgTake hp hd hi (k := 4) rfl (by decide) (by simp [State.pkgLists, h]) ?_
      rw [State.pkgTake_deepSleep_wakes (s := s.start t) hw]
      exact ⟨habort.1.trans h, habort.2⟩
    case wake =>
      intro h
      obtain ⟨h1, -, h3⟩ := (entered_sleepWake (s.start t) (cause := 5) (by decide)).answer p .HUB_PKG_CMD .ok
      refine answers_pkgTake hp hd hi (k := 5) rfl (by decide) (by simp [State.pkgLists, h]) ?_
      rw [State.pkgTake, State.wakeUp_sleep (s := s.start t) h]
      exact ⟨h1, h3⟩
    case wakeDeep =>
      intro h hl hc
      refine answers_pkgTake hp hd hi (k := 5) rfl (by decide) (by simp [State.pkgLists, h]) ?_
      rw [State.pkgTake, State.wakeUp_deepSleep (s := s.start t) h, State.pkg_answer]
      exact State.pkg_rampEnter (s := s.start t) hl hc (by decide)
    case recover =>
      intro h ho hc hr
      refine answers_pkgTake hp hd hi (k := 6) rfl (by decide) (by simp [State.pkgLists, h, ho]) ?_
      rw [State.pkg_answer]
      exact State.pkg_recoverRun (s := s.start t) (State.stopLatched_of_recoverOk ho) hc hr
    case fail =>
      intro h
      obtain ⟨h1, -, h3⟩ := (entered_failEnter (s.start t) (cause := 5) (by decide)).answer p .HUB_PKG_CMD .ok
      refine answers_pkgTake hp hd hi (k := 7) rfl (by decide) (by rcases h with h | h | h <;> simp [State.pkgLists, h]) ⟨h1, h3, ?_⟩
      rw [State.rd_answer _ _ _ _ _ (by decide)]
      exact State.stop_failEnter ..
    case reset =>
      intro h
      refine answers_pkgTake hp hd hi (k := 8) rfl (by decide) (by rcases h with h | h | h <;> simp [State.pkgLists, h]) ?_
      rw [State.pkg_answer, State.v_answer _ _ _ _ _ (by decide)]
      exact State.downStart_reset _
  · intro s t k p c hp hc h0 h8 hi hl
    refine answers_pkgRow hp hc (State.pkgCmd_held h0 h8 hl hi) ⟨State.pkg_answer .., ?_, ?_⟩
    · rw [State.v_answer _ _ _ _ _ (by decide)]
      exact State.v_setV_same ..
    · exact Frame.answer_ok ((((Does.refl ⟨0, maskIdx Var.ctorIdx [.resumeWait], 0⟩ s).start t).setV (by decide) _ _ _).within (by decide)) ..

/-- A rejected package command sets BADCMD (01 R46). -/
theorem State.badcmd_pkgReject (s : State) : s.pkgReject.2.rd F.HUB_PKG_STATE_BADCMD = 1 := State.rd_flag_one _ _ _ _ rfl (by decide)

/-- It leaves the package state. -/
theorem State.pkg_pkgReject (s : State) : s.pkgReject.2.pkg = s.pkg := State.rd_wr_apart _ _ _ _ _ _ _ _ (by decide) (by decide)

/-- It changes only HUB_PKG_STATE. -/
theorem does_start_pkgReject (s : State) (t : Nat) {g : Foot} (h : g.hasR .HUB_PKG_STATE = true) : Does g s (s.start t).pkgReject.2 :=
  ((Does.refl _ s).start t).flag h _ _ _

/-- The facility port's PKG_CMD of a command that is not listed, or of a reserved code, is answered E_RANGE (18 R554). -/
theorem exec_facPkgCmd_unlisted {s : State} {m : FacMsg} (hm : FacOk s m) {k : Nat} (hk : k < 16) {t : Nat}
    (hl : (s.start t).pkgListed k = false) (tag : Nat) :
    exec (.facPkgCmd t m tag k) s = .next ((s.start t).pkgReject.2.facSend [1, BitVec.ofNat 8 tag, 5]) := by
  change execFacPkgCmd t m tag k s = _
  have hb : Nat.blt 15 k = false := Bool.eq_false_iff.mpr (by rw [ne_eq, Nat.blt_eq]; omega)
  unfold execFacPkgCmd State.vendor
  rw [State.facMsg_takes hm]
  simp only [hb, State.pkgCmd_unlisted hl, Bool.false_eq_true, if_false]
  rfl

/-- Settles O9: an unlisted command is rejected, on each port. -/
theorem unlistedPackageCommandsAreRejected : Obligations.UnlistedPackageCommandsAreRejected := by
  refine ⟨?_, ?_, ?_, ?_⟩
  · intro s t k p c hp hc hl
    refine answers_pkgRow hp hc (State.pkgCmd_unlisted hl) ⟨?_, ?_, ?_⟩
    · exact (State.pkg_answer ..).trans (s.start t).pkg_pkgReject
    · exact (State.rd_answer _ _ _ _ _ (by decide)).trans (s.start t).badcmd_pkgReject
    · exact ((does_start_pkgReject s t (by decide)).answer (G := Scope.foot ⟨[.HUB_PKG_STATE, .HOST_ERR_A, .HOST_ERR_B], [], []⟩)
        (by decide) ..).within (by decide)
  · intro s t k tag m hm hk hl
    refine ⟨_, exec_facPkgCmd_unlisted hm hk hl tag, List.mem_append_right _ List.mem_cons_self, (s.start t).pkg_pkgReject,
      (s.start t).badcmd_pkgReject, ?_⟩
    exact ((does_start_pkgReject s t (g := Scope.foot ⟨[.HUB_PKG_STATE], [], []⟩) (by decide)).emit _).within (by decide)
  · intro s k hk
    obtain ⟨n, rfl⟩ := Nat.exists_eq_add_of_le' hk
    simp [State.pkgListed]
  · intro s k hk hd
    simp [State.pkgListed_eq, hk.ne', hd]

end Sys2Proof.Machine

/-!
PROOFS. What time brings about in the package states (01 R41, R44; 13 R412, R413; 18 R541).
-/
namespace Sys2Proof.Machine

/-! ### HOLD, the trip count and the drain -/

/-- HOLD_TIMEOUT, at its time (01 R44). -/
theorem exec_holdTimeout {s : State} {t : Nat} (hp : s.pkg = Pkg.hold) (ho : s.v .holdOut = 0)
    (ht : s.vn .pkgAt + 1000000 * s.tim 7 0 4 100 ≤ max s.time t) :
    exec (.holdTimeout t) s = .next (((((s.start t).setV .holdOut 1).each ((s.start t).setV .holdOut 1).liveLeaves fun s l =>
      s.setV .safeHold 1 l).flag F.HUB_PKG_STATE_HOLD_TIMEOUT).event 0x02 0) := by
  change execHoldTimeout t s = _
  unfold execHoldTimeout
  dsimp only
  rw [if_pos (by simp [hp, ho, ht])]

/-- The leaves that hold their image fields stand in the image and in islFields. -/
theorem State.liveLeaves_setV (s : State) {x : Var} (h : .islFields ≠ x) (y : Int) (i j : Nat) : (s.setV x y i j).liveLeaves = s.liveLeaves := by
  unfold State.liveLeaves
  simp only [State.v_setV_var _ _ _ _ _ _ _ _ h]
  rfl

/-- TRIPCOUNT shows the trips in the window, up to 255. -/
theorem State.tripcount_tripShow (s : State) : s.tripShow.rd F.HUB_PKG_STATE_TRIPCOUNT = min 255 s.tripsIn.length := by
  refine (State.rd_wr_same _ _ _ _ _ (by decide)).trans (Nat.mod_eq_of_lt ?_)
  change _ < 256
  omega

/-- A ramp-down that does not wait for its drain does not come to wait for it. -/
theorem State.downWait_downRun {s : State} (h : s.v .downWait ≠ 1) (n : Nat) : (s.downRun n).v .downWait ≠ 1 := by
  have hd := State.downRun_ends (P := fun u => u.v .downWait ≠ 1)
    (fun u why _ => by rw [State.v_setV_same]; decide)
    (fun u _ => by
      rw [State.v_stopOn (by decide), State.v_setV_same]
      decide)
    (fun u why k h => by rwa [State.v_downStep _ _ (by decide)])
    (fun u h => by rwa [State.v_setV_var _ _ _ _ _ _ _ _ (by decide)]) n h
  obtain hd | ⟨u, hu, ⟨-, he⟩ | ⟨-, he⟩⟩ := hd
  · exact hd
  · rwa [he, State.v_aonEnter (by decide)]
  · rwa [he, State.v_resumeUp (by decide), State.v_setV_var _ _ _ _ _ _ _ _ (by decide)]

/-! ### A trip out of RAMP -/

/-- A trip of class UV in RAMP: CRUST_STOP is asserted, and the package is in TRIPPED, or, with its trips counted, in FAIL (12 R367;
01 R41). -/
theorem State.trip_ramp {s : State} (h : s.pkg = Pkg.ramp) (rs : List Nat) :
    (s.trip 3 rs).rd F.CRUST_STATUS_STOP = 1 ∧ ((s.trip 3 rs).pkg = Pkg.tripped ∨ (s.trip 3 rs).pkg = Pkg.fail) := by
  unfold State.trip
  extract_lets before mask latch pkg a same b c counted d e f g v
  have hn : counted = true := by simp [counted, pkg, h]
  have he : e.rd F.CRUST_STATUS_STOP = 1 := by
    have ha : a.rd F.CRUST_STATUS_STOP = 1 := State.stop_stopOn _
    rw [← ha, State.rd_downGiveUp (by decide)]
    exact State.rd_each _ _ _ _ _ _ fun _ _ _ => State.rd_setV ..
  have hf : f.rd F.CRUST_STATUS_STOP = 1 ∧ f.pkg = Pkg.tripped := by
    simp only [f, hn, State.when, if_true, State.pkg_tripShow]
    constructor
    · rw [State.rd_tripShow (by decide), State.rd_setV, State.rd_setV, State.rd_loopsLeave _ (by decide), State.rd_pkgTo _ _ (by decide),
        State.rd_setV, he]
    · refine (State.pkg_congr ?_).trans (entered_pkgTo (e.setV .resumeWait 0) (st := Pkg.tripped) (cause := 7) (by decide) (by decide)).pkg
      rw [State.reg_setV, State.reg_setV, State.reg_loopsLeave _ (by decide)]
  rw [if_neg (by simp [pkg, h])]
  split
  next body w hw =>
  extract_lets i j k l
  have hk (r : Reg) (hr : r = .HUB_PKG_STATE ∨ r = .CRUST_STATUS) : k.reg r = f.reg r := by
    have hwv : w.reg r = v.reg r := by
      have := congrArg (fun x => x.2.reg r) hw
      rw [← this]
      obtain rfl | rfl := hr <;> exact State.reg_tripBody _ _ (by decide)
    simp only [k, j, i, v, g, State.when, hn, if_true] at hwv ⊢
    obtain rfl | rfl := hr <;>
    · rw [if_neg (by simp), State.reg_syncFlush (by decide),
        State.reg_each _ _ _ _ _ _ fun _ _ _ => State.reg_breakSend _ _ _ (by decide), State.reg_trcTrigger _ (by decide),
        State.reg_faultRecord _ _ (by decide), hwv, State.reg_event _ _ (by decide), State.reg_riseStopAll (by decide),
        State.reg_wr_reg _ _ _ _ _ _ _ _ (by decide), State.reg_wr_reg _ _ _ _ _ _ _ _ (by decide)]
  have hl : l.rd F.CRUST_STATUS_STOP = 1 ∧ (l.pkg = Pkg.tripped ∨ l.pkg = Pkg.fail) := by
    obtain ⟨hf1, hf2⟩ := hf
    simp only [l, State.when]
    split
    · exact ⟨State.stop_failEnter .., .inr (entered_failEnter k (by decide)).pkg⟩
    · exact ⟨(State.rd_congr (hk _ (.inr rfl))).trans hf1, .inl ((State.pkg_congr (hk _ (.inl rfl))).trans hf2)⟩
  rw [State.rd_alertRise _ (by decide), State.pkg_congr (State.reg_alertRise _ (by decide))]
  exact hl

/-- STEP_TIMEOUT, at its time (13 R413). -/
theorem exec_stepTimeout {s : State} {t : Nat} {x : RailRec} (hp : s.pkg = Pkg.ramp) (hn : 0 ≤ s.v .rampNow) (hx : x ∈ s.rampStepRails)
    (hb : s.rampOk x = false) (ht : s.stepStart x + 1000000 * s.tim 0x20 0 2 10 ≤ (max s.time t : Nat)) :
    exec (.stepTimeout t) s =
      .next (((s.start t).event 0x54 0).trip 3 ((s.rampStepRails.filter fun x => !s.rampOk x).map (·.rail))) := by
  change execStepTimeout t s = _
  unfold execStepTimeout
  have hl : ((s.start t).rampStepRails.filter fun x => !(s.start t).rampOk x).any
      (fun x => decide ((s.start t).stepStart x + 1000000 * (s.start t).tim 0x20 0 2 10 ≤ (s.start t).time)) = true :=
    List.any_eq_true.mpr ⟨x, List.mem_filter.mpr ⟨hx, by simp [hb]⟩, decide_eq_true ht⟩
  dsimp only
  rw [if_pos (by simp only [hl, State.pkg_start, State.v_start, hp, hn, decide_true, Bool.and_self])]
  rfl

/-! ### The steps of RAMP -/

/-- The next step of RAMP lies above the present one. -/
theorem State.rampNext_gt {s : State} {above : Int} {k : Nat} (h : s.rampNext above = some k) : above < k := by
  refine List.foldlRecOn (motive := fun b => ∀ k : Nat, b = some k → above < k) s.rails _ (by simp) (fun b hb x _ k hk => ?_) k h
  split at hk
  · next hx =>
    cases b with
    | none => cases hk; exact hx
    | some z =>
      have := hb z rfl
      cases hk
      simp only [Nat.cast_min]
      omega
  · exact hb k hk

/-- A step of RAMP starts as the present one. -/
theorem State.rampNow_rampStepTo (s : State) (k : Nat) (first : Bool) : (s.rampStepTo k first).v .rampNow = k := by
  unfold State.rampStepTo
  dsimp only
  rw [State.v_seqDueOn (by decide), State.v_each _ _ _ _ _ _ fun _ _ _ => State.v_setV_var _ _ _ _ _ _ _ _ (by decide),
    State.v_setV_var _ _ _ _ _ _ _ _ (by decide), State.v_setV_var _ _ _ _ _ _ _ _ (by decide), State.v_setV_same]

/-- SEQ_ON has been sent to a rail of the present step that is due it. -/
theorem State.rampOn_seqDueOn {s : State} {x : RailRec} (hx : x ∈ s.rampStepRails) (hm : x.monitored = false) (hr : s.railSt x.rail ≠ Rs.on)
    (ho : s.v .rampOn x.rail < 0) (hd : s.seqDue x ≤ s.time) : 0 ≤ s.seqDueOn.v .rampOn x.rail := by
  have hset (u : State) (y : RailRec) : ((u.setV .rampOn u.time y.rail).seqOn y.rail).v .rampOn x.rail =
      if x.rail = y.rail then (u.time : Int) else u.v .rampOn x.rail := by
    simp only [State.v_seqOn _ (show Foot.seqOn.hasV .rampOn = false by decide), State.v_setV_if, and_true]
  refine State.each_sets (P := fun u => 0 ≤ u.v .rampOn x.rail) (List.mem_filter.mpr ⟨hx, by simp [hm, hr, ho, hd]⟩) ?_ ?_
  · intro u
    rw [hset, if_pos rfl]
    omega
  · intro u y _ hu
    rw [hset]
    split
    · omega
    · exact hu

/-- RAMP, as it goes on, does not come back to the step that it was in. -/
theorem State.rampRun_step {s : State} {r : Nat} (h0 : 0 ≤ s.v .rampNow) (h : 0 ≤ s.v .rampOn r) (n : Nat) :
    0 ≤ (s.rampRun n).v .rampOn r ∨ (s.rampRun n).v .rampNow ≠ s.v .rampNow := by
  have hd := State.rampRun_ends (P := fun u => 0 ≤ u.v .rampOn r ∧ u.v .rampNow = s.v .rampNow ∨ s.v .rampNow < u.v .rampNow)
    (fun u k hu hk => by
      have := State.rampNext_gt hk
      rw [State.rampNow_rampStepTo]
      omega) n (.inl ⟨h, rfl⟩)
  obtain (⟨hd, -⟩ | hd) | ⟨u, -, he⟩ := hd
  · exact .inl hd
  · exact .inr hd.ne'
  · right
    rw [he, State.v_runEnter _ (by decide), State.v_setV_same]
    omega

/-! ### The obligation -/

/-- Settles O10: by what each timer finds at its time, and what a ramp and a ramp-down do as they go on. -/
theorem packageTimersActAtTheirTime : Obligations.PackageTimersActAtTheirTime := by
  refine ⟨?holdTimeout, ?tripLapse, ?queueDrainDone, ?stepTimeout, ?rampStepStart⟩
  case holdTimeout =>
    intro s t hp ho ht
    refine ⟨_, exec_holdTimeout hp ho ht, ?_, ?_, fun l hl => ?_⟩
    · rw [State.pkg_congr (State.reg_event _ _ (by decide))]
      refine (State.rd_wr_apart _ _ _ _ _ _ _ _ (by decide) (by decide)).trans ?_
      exact (State.rd_each _ _ _ _ _ _ fun _ _ _ => State.rd_setV ..).trans hp
    · rw [State.rd_event _ _ (by decide)]
      exact State.rd_flag_one _ _ _ _ rfl (by decide)
    · rw [State.v_event _ _ (by decide), State.v_flag, State.liveLeaves_setV _ (by decide)]
      refine State.each_sets (P := fun u => u.v .safeHold l = 1) (x := l) hl (fun u => State.v_setV_same ..) fun u y _ hu => ?_
      rw [State.v_setV_if, hu, ite_self]
  case tripLapse =>
    intro s t
    exact ⟨_, rfl, State.tripcount_tripShow _, State.pkg_tripShow _⟩
  case queueDrainDone =>
    intro s t hp hf hw hd
    refine ⟨(s.start t).pkgRun, rfl, ?_⟩
    have hn : (s.start t).vn .downFor ≠ 0 := by
      simp only [State.vn, State.v_start]
      omega
    beta_reduce
    rw [State.pkgRun, State.v_islPlanRun (by decide), State.rampRun_of_not_ramp (s := s.start t) hp,
      State.downRun_drained hn (s := s.start t) hw hd 299]
    refine State.downWait_downRun ?_ _
    rw [State.v_setV_same]
    decide
  case stepTimeout =>
    intro s t x hp hn hx hb ht
    have hr : ((s.start t).event 0x54 0).pkg = Pkg.ramp := (State.pkg_congr (State.reg_event _ _ (by decide))).trans hp
    exact ⟨_, exec_stepTimeout hp hn hx hb ht, State.trip_ramp hr _⟩
  case rampStepStart =>
    intro s t x hp hx hm hr ho hd
    refine ⟨((s.start t).seqDueOn).pkgRun, ?_, ?_⟩
    · change Host.Outcome.next (if (s.start t).pkg = Pkg.ramp then _ else _) = _
      rw [if_pos (by exact hp)]
    · have h0 : 0 ≤ s.v .rampNow := by
        obtain ⟨-, hx⟩ := List.mem_filter.mp hx
        have := of_decide_eq_true hx
        omega
      have hnow : (s.start t).seqDueOn.v .rampNow = s.v .rampNow := State.v_seqDueOn (by decide)
      beta_reduce
      rw [State.pkgRun, State.v_islPlanRun (by decide), State.v_islPlanRun (by decide), State.v_downRun _ (by decide),
        State.v_downRun _ (by decide), ← hnow]
      exact State.rampRun_step (hnow ▸ h0) (State.rampOn_seqDueOn (s := s.start t) hx hm hr ho hd) 300

end Sys2Proof.Machine

/-!
PROOFS. The resets of the hub (01 R40; 13 R406, R410): the loss of supply, the power-on reset, the warm reset and the test mode.
-/
namespace Sys2Proof.Machine

/-! ### A warm reset -/

/-- A warm reset returns the variables that are not in its list to their reset values. -/
theorem State.v_warmDrop_gone (s : State) {x : Var} (h : warmVars.contains x = false) (i j : Nat) : s.warmDrop.v x i j = x.dflt :=
  KMap.get_filter_gone _ _ _ _ fun _ => h

/-- It keeps the registers of its list. -/
theorem State.rd_warmDrop_kept (s : State) {f : Fld} (h : warmRegs.contains f.r = true) (i j : Nat) : s.warmDrop.rd f i j = s.rd f i j :=
  State.rd_congr (KMap.get_filter_keep _ _ _ _ fun _ => h)

theorem State.last_warm (s : State) (last : Nat) : (s.warm last).rd F.RST_STATUS_LAST = last % 4 := by
  unfold State.warm
  extract_lets a b hold c d e f g h i j k
  rw [State.rd_candidate (by decide)]
  simp (disch := decide) only [k, State.incSat, State.rd_wr_apart, State.rd_wr_same, Nat.reducePow]

theorem State.stop_warm (s : State) (last : Nat) : (s.warm last).rd F.CRUST_STATUS_STOP = 1 := by
  unfold State.warm
  extract_lets a b hold c d e f g h i j k
  rw [State.rd_candidate (by decide)]
  simp (disch := decide) only [k, j, i, h, State.incSat, State.rd_wr_reg, State.rd_wr_apart, State.rd_wr_same, Nat.reducePow, Nat.reduceMod]

theorem State.testOn_warm (s : State) (last : Nat) : (s.warm last).v .testOn = 0 := by
  unfold State.warm
  extract_lets a b hold c d e f g h i j k
  rw [State.v_candidate (by decide)]
  simp (disch := decide) only [k, j, i, h, g, f, e, d, State.incSat, State.v_wr, State.v_activeShow]
  exact State.v_warmDrop_gone (x := .testOn) c (by decide) 0 0

/-- A warm reset keeps the package state, or enters VERIFY. -/
theorem State.pkg_warm (s : State) (last : Nat) : (s.warm last).pkg = s.pkg ∨ (s.warm last).pkg = Pkg.verify := by
  unfold State.warm
  extract_lets a b hold c d e f g h i j k
  have hc : c.pkg = s.pkg := by
    have hb : b.pkg = s.pkg := by
      simp (disch := decide) only [State.pkg, b, a, State.incSat, State.rd_wr_reg, State.rd_portsAbsent]
    rw [← hb]
    simp only [c, State.when]
    split
    · exact State.pkg_congr (State.reg_trcFreezeFor _ (by decide))
    · rfl
  have hk : (k.wr F.RST_STATUS_BOOT_VSEL Config.straps.bootVsel).pkg = s.pkg := by
    rw [← hc]
    simp (disch := decide) only [State.pkg, k, j, i, h, g, f, e, d, State.incSat, State.rd_wr_reg, State.rd_wr_apart, State.rd_activeShow,
      State.rd_warmDrop_kept]
  exact hk ▸ State.pkg_candidate _

/-- With nothing in the image store CANDIDATE_SELECT finds no candidate. -/
theorem State.candidate_of_empty {s : State} (hi : s.img = ImgSt.empty) (hl : s.ldr ≠ 3) : s.candidate = s := by
  have hb (k : Nat) : (s.bank k).accepted = false := by
    unfold State.bank
    rw [hi]
    split <;> rfl
  simp [State.candidate, hb, hl]

/-! ### The loss of supply and the power-on reset -/

/-- Without the always-on supply the package is in OFF. -/
theorem State.pkg_supplyLost (s : State) : s.supplyLost.pkg = Pkg.off := by
  refine (State.pkg_wr _ (by decide) _ _ _).trans ?_
  exact State.rd_wr_same _ _ _ _ _ (by decide)

theorem State.img_supplyLost (s : State) : s.supplyLost.img = ImgSt.empty := by
  unfold State.supplyLost
  dsimp only [State.img_wr, State.when]
  split <;> split <;> rfl

theorem State.reg_supplyLost_reset (s : State) {r : Reg} (h1 : r ≠ .HUB_PKG_STATE) (h2 : r ≠ .CRUST_STATUS) (h3 : r ≠ .IMG_FUSE) (i j : Nat) :
    s.supplyLost.reg r i j = State.reset.reg r i j := by
  unfold State.supplyLost
  dsimp only [State.when]
  rw [State.reg_wr_reg _ _ _ _ _ _ _ _ h2, State.reg_wr_reg _ _ _ _ _ _ _ _ h1, State.reg_ite, State.reg_wr_reg _ _ _ _ _ _ _ _ h3]
  exact ite_self _

/-- A calibration whose count is in range: the frequency that it shows, and the rest that it sets. -/
theorem State.oscCal_good (s : State) {n : Nat} (h1 : 2400 ≤ n) (h2 : n ≤ 4000) :
    (s.oscCal 0 n).rd F.CLK_OSC_CAL_VALID 0 = 1 ∧ (s.oscCal 0 n).rd F.CLK_OSC_OSC_KHZ 0 = n * 50 ∧ (s.oscCal 0 n).img = s.img
      ∧ (s.oscCal 0 n).time = s.time := by
  unfold State.oscCal
  extract_lets a b c d
  rw [if_pos (by simp [h1, h2])]
  refine ⟨State.rd_wr_same _ _ _ _ _ (by decide), ?_, rfl, rfl⟩
  simp (disch := decide) only [d, c, State.rd_wr_apart, State.rd_wr_reg, State.rd_wr_same]
  exact Nat.mod_eq_of_lt (by omega)

/-- The state from which a power-on reset starts the hub: everything is at its reset value, with hub time at 0, but what the fuses
hold (02 R52, R70). -/
def State.fusesOnly (s : State) : State :=
  ({ s.blank with time := 0 } : State).when (decide (0 ≤ s.v .fuseSvn)) fun z =>
    (z.setV .fuseSvn (s.v .fuseSvn)).wr F.IMG_FUSE_FUSED_SVN (s.vn .fuseSvn)

theorem State.time_fusesOnly (s : State) : s.fusesOnly.time = 0 := by
  unfold State.fusesOnly State.when
  split <;> rfl

theorem State.img_fusesOnly (s : State) : s.fusesOnly.img = ImgSt.empty := by
  unfold State.fusesOnly State.when
  split <;> rfl

theorem State.reg_fusesOnly (s : State) {r : Reg} (h : r ≠ .IMG_FUSE) (i j : Nat) : s.fusesOnly.reg r i j = State.reset.reg r i j := by
  unfold State.fusesOnly State.when
  rw [State.reg_ite, State.reg_wr_reg _ _ _ _ _ _ _ _ h]
  exact ite_self _

/-- The end of the power-on reset, in OFF: AON with the hub's oscillator calibrated; there is no candidate. -/
theorem exec_powerOnResetEnd {s : State} (hp : s.pkg = Pkg.off) (t : Nat) {n : Nat} (h1 : 2400 ≤ n) (h2 : n ≤ 4000) :
    exec (.powerOnResetEnd t n) s = .next (((s.start t).fusesOnly.wr F.HUB_PKG_STATE_STATE Pkg.aon).oscCal 0 n) := by
  have he : exec (.powerOnResetEnd t n) s = .next (((s.start t).fusesOnly.wr F.HUB_PKG_STATE_STATE Pkg.aon).oscCal 0 n).candidate := by
    change Host.Outcome.next (if (s.start t).pkg = Pkg.off then _ else _) = _
    rw [if_pos (by exact hp)]
    rfl
  obtain ⟨-, -, hi, -⟩ := ((s.start t).fusesOnly.wr F.HUB_PKG_STATE_STATE Pkg.aon).oscCal_good h1 h2
  rw [he, State.candidate_of_empty (hi.trans (State.img_fusesOnly _))]
  have hl : (s.start t).fusesOnly.rd F.IMG_STATUS_LOADER = 0 := (State.rd_congr (State.reg_fusesOnly _ (by decide) _ _)).trans (by decide)
  rw [State.ldr, State.rd_oscCal _ _ (by decide), State.rd_wr_reg _ _ _ _ _ _ _ _ (by decide), hl]
  decide

/-! ### The obligation -/

/-- Settles O12: by what a loss of supply, the end of the power-on reset and a warm reset leave. -/
theorem resetsOfTheHub : Obligations.ResetsOfTheHub := by
  refine ⟨?supplyLoss, ?powerOn, ?warm, ?warmRange, ?testEntry, ?testExit⟩
  case supplyLoss =>
    intro s t
    refine ⟨(s.start t).supplyLost, rfl, State.pkg_supplyLost _, ?_, State.img_supplyLost _, fun r i j h1 h2 h3 => ?_⟩
    · simp only [State.hubUp, State.pkg_supplyLost, decide_true, Bool.not_true, Bool.false_and]
    · exact State.reg_supplyLost_reset _ h1 h2 h3 i j
  case powerOn =>
    intro s t n hp h1 h2
    obtain ⟨hv, hk, -, ht⟩ := ((s.start t).fusesOnly.wr F.HUB_PKG_STATE_STATE Pkg.aon).oscCal_good h1 h2
    refine ⟨_, exec_powerOnResetEnd hp t h1 h2, ?_, ht.trans (State.time_fusesOnly _), hv, hk⟩
    rw [State.pkg, State.rd_oscCal _ _ (by decide)]
    exact State.rd_wr_same _ _ _ _ _ (by decide)
  case warm =>
    intro s t p hp ha
    have ho : (s.start t).rstWarm = (.ok, (s.start t).warm 1) := if_pos ha
    refine ⟨_, congrArg Host.Outcome.next (State.command_takes hp ..), ?_⟩
    rw [ho]
    refine ⟨told_answer .., ?_, ?_, ?_⟩
    · exact (State.rd_answer _ _ _ _ _ (by decide)).trans (State.last_warm _ 1)
    · exact (State.rd_answer _ _ _ _ _ (by decide)).trans (State.stop_warm _ 1)
    · rw [State.pkg_answer]
      exact ha ▸ (s.start t).pkg_warm 1
  case warmRange =>
    intro s t p hp ha
    have ho : (s.start t).rstWarm = (.eRange, s.start t) := if_neg ha
    refine ⟨_, congrArg Host.Outcome.next (State.command_takes hp ..), ?_⟩
    rw [ho]
    exact ⟨told_answer .., frame_answer ..⟩
  case testEntry =>
    intro s t ha ht
    refine ⟨((s.start t).setV .testOn 1).portsAbsent, ?_, ?_⟩
    · change Host.Outcome.next (if _ then _ else _) = _
      rw [if_pos (by simp [ha, ht])]
    · have h1 : (((s.start t).setV .testOn 1).portsAbsent).v .testOn = 1 := by rw [State.v_portsAbsent (by decide), State.v_setV_same]
      exact ⟨h1, by simp [State.hubUp, h1], (State.pkg_congr (State.reg_portsAbsent (by decide))).trans ha⟩
  case testExit =>
    intro s t h1 ha
    refine ⟨((s.start t).setV .testOn 0).warm 2, ?_, State.testOn_warm .., State.last_warm .., ?_⟩
    · change Host.Outcome.next (if _ then _ else _) = _
      rw [if_pos (by exact h1)]
    · exact ha ▸ ((s.start t).setV .testOn 0).pkg_warm 2

end Sys2Proof.Machine

/-!
PROOFS. The topology image (spec/02_topology_image.md): the canonical form of every store, the commands of the loader, the bytes of
the staging bank, and image fields that reach an island.
-/
namespace Sys2Proof.Machine

/-! ### The canonical form -/

/-- Settles O3: a state without entries has nothing out of order. -/
theorem resetIsCanonical : Obligations.ResetIsCanonical :=
  ⟨rfl, rfl, rfl, rfl, rfl, rfl, rfl, rfl, rfl⟩

/-- No store holds the queue of waiting commands. -/
theorem State.Canon.setPending {s : State} (h : s.Canon) (l : List Instr) : State.Canon { s with pending := l } :=
  { h with }

/-- Settles O4: the front command, or with none the block's own work, is work within a footprint, and such work keeps the canonical
form. -/
theorem everyStepKeepsTheCanonicalForm : Obligations.EveryStepKeepsTheCanonicalForm := by
  intro s u hc hu
  cases hq : s.pending with
  | nil =>
    rw [step_nil hq] at hu
    cases hu
    exact ((Does.refl _ s).idle (Foot.le_refl _)).canon hc
  | cons c rest =>
    rw [step_cons hq] at hu
    exact (does_of_exec hu).canon (hc.setPending rest)

/-! ### Banks -/

/-- There are two banks. -/
theorem State.stageBank_le (s : State) : s.stageBank ≤ 1 := Nat.sub_le ..

theorem State.bank_congr {s u : State} (h : u.part .banks = s.part .banks) (k : Nat) : u.bank k = s.bank k := by
  obtain ⟨h0, h1⟩ := Prod.mk.inj h
  simp only [State.bank, h0, h1]

theorem State.bank_setBank_same (s : State) (k : Nat) (b : Bank) : (s.setBank k b).bank k = b := by
  by_cases h : k = 0 <;> simp [State.setBank, State.bank, h]

theorem State.bank_setBank_other (s : State) {k : Nat} (h : k ≤ 1) (b : Bank) : (s.setBank k b).bank (1 - k) = s.bank (1 - k) := by
  obtain rfl | rfl : k = 0 ∨ k = 1 := by omega
  · rfl
  · rfl

/-- An answer leaves the banks. -/
theorem State.bank_answer (s : State) (p : Port) (r : Reg) (st : Status) (k : Nat) : (s.answer p r st).bank k = s.bank k :=
  State.bank_congr (State.part_answer _ _ _ _ _ (by decide)) k

/-! ### IMG_STATUS -/

/-- An answer leaves the owner of the staging bank. -/
theorem State.owner_answer (s : State) (p : Port) (r : Reg) (st : Status) : (s.answer p r st).img.owner = s.img.owner :=
  State.part_answer (pa := .owner) _ _ _ _ _ (by decide)

/-- An answer leaves LOADER. -/
theorem State.ldr_answer (s : State) (p : Port) (r : Reg) (st : Status) : (s.answer p r st).ldr = s.ldr :=
  State.rd_answer _ _ _ _ _ (by decide)

/-- A change of the owner leaves LOADER. -/
theorem State.ldr_ldrOwner (s : State) (o : Option Port) : (s.ldrOwner o).ldr = s.ldr :=
  State.rd_wr_apart { s with img := { s.img with owner := o } } _ _ _ _ _ _ _ (by decide) (by decide)

/-- LOADER reads the state that was entered. -/
theorem State.ldr_wr (s : State) {k : Nat} (h : k < 8) : (s.wr F.IMG_STATUS_LOADER k).ldr = k :=
  (s.rd_wr_same _ _ _ _ (by decide)).trans (Nat.mod_eq_of_lt h)

theorem State.ldr_ldrIdle (s : State) : s.ldrIdle.ldr = 0 :=
  (State.ldr_ldrOwner ..).trans (s.ldr_wr (by decide))

/-- The result of a check leaves LOADER. -/
theorem State.ldr_ldrResult (s : State) (st : Status) (detail step off : Nat) : (s.ldrResult st detail step off).ldr = s.ldr := by
  rw [State.ldr, State.ldrResult, State.rd_facAlert _ (by decide)]
  simp (disch := decide) only [State.rd_wr_apart]
  rfl

theorem State.detail_ldrResult (s : State) (st : Status) {detail : Nat} (h : detail < 256) (step off : Nat) :
    (s.ldrResult st detail step off).rd F.IMG_STATUS_DETAIL = detail := by
  rw [State.ldrResult, State.rd_facAlert _ (by decide)]
  simp (disch := decide) only [State.rd_wr_apart, State.rd_wr_same]
  exact Nat.mod_eq_of_lt h

/-! ### What a command of the loader comes to -/

section
variable {s : State} {p : Port}

theorem State.ldrOpen_opens (hf : s.ldrForeign p = false) (hl : s.ldr = 0 ∨ s.ldr = 1 ∨ s.ldr = 3) :
    s.ldrOpen p = (.ok, ((((s.setBank s.stageBank Bank.empty).fallbackShow.setV .imgPtr 0).wr F.IMG_WADDR_PTR 0).wr
      F.IMG_STATUS_LOADER 1).ldrOwner (some p)) := by
  rw [State.ldrOpen, if_neg (by simp [hf]), if_pos (by simpa [or_assoc] using hl)]

theorem State.ldrOpen_busy (hf : s.ldrForeign p = false) (h0 : s.ldr ≠ 0) (h1 : s.ldr ≠ 1) (h3 : s.ldr ≠ 3) :
    s.ldrOpen p = (.eOverrun, s) := by
  rw [State.ldrOpen, if_neg (by simp [hf]), if_neg (by simp [h0, h1, h3])]

theorem State.ldrCommit_filling (hf : s.ldrForeign p = false) (hl : s.ldr = 1) :
    s.ldrCommit p = (.ok, s.wr F.IMG_STATUS_LOADER 2) := by
  rw [State.ldrCommit, if_neg (by simp [hf]), if_pos hl]

theorem State.ldrCommit_none (hf : s.ldrForeign p = false) (hl : s.ldr = 0 ∨ s.ldr = 3) : s.ldrCommit p = (.eRange, s) := by
  rw [State.ldrCommit, if_neg (by simp [hf]), if_neg (by omega), if_pos (by simpa using hl)]

theorem State.ldrAbort_idles (hf : s.ldrForeign p = false) (hl : s.ldr = 1 ∨ s.ldr = 3) : s.ldrAbort p = (.ok, s.ldrIdle) := by
  rw [State.ldrAbort, if_neg (by simp [hf])]
  obtain h | h := hl
  · rw [h]
    rfl
  · rw [h]
    rfl

theorem State.ldrAbort_checking (hf : s.ldrForeign p = false) (hl : s.ldr = 2) :
    s.ldrAbort p = (.ok, s.ldrIdle.ldrResult .eImage 0x0F 0 0) := by
  rw [State.ldrAbort, if_neg (by simp [hf]), hl]
  rfl

theorem State.ldrFuse_greater (hr : s.pkg = Pkg.run) (hv : s.fusedSvn < s.rd F.IMG_INFO_SVN) :
    s.ldrFuse = (.ok, s.wr F.IMG_STATUS_FUSING 1) :=
  if_pos (by simpa [hr] using hv)

theorem State.ldrFuse_rejected (h : s.pkg ≠ Pkg.run ∨ s.rd F.IMG_INFO_SVN ≤ s.fusedSvn) : s.ldrFuse = (.eRange, s) :=
  if_neg (by simpa [Classical.or_iff_not_imp_left] using h)

/-- OPEN, COMMIT and ABORT by the port that does not own the bank (02 R54). -/
theorem State.ldrCmd_foreign (hf : s.ldrForeign p = true) {k : Nat} (h1 : 1 ≤ k) (h3 : k ≤ 3) : s.ldrCmd p k = (.ePriv, s) := by
  obtain rfl | rfl | rfl : k = 1 ∨ k = 2 ∨ k = 3 := by omega
  · exact if_pos hf
  · exact if_pos hf
  · exact if_pos hf

theorem State.ldrAddr_sets (hf : s.ldrForeign p = false) (hl : s.ldr = 1) {w : Nat} (h8 : w % 2 ^ 20 % 8 = 0) (hw : w % 2 ^ 20 ≤ 0x7FFF8) :
    s.ldrAddr p w = (.ok, (s.setV .imgPtr (w % 2 ^ 20 : Nat)).wr F.IMG_WADDR_PTR (w % 2 ^ 20)) := by
  rw [State.ldrAddr, if_neg (by simp [hf]), if_pos (by simpa [hl] using And.intro h8 hw)]

theorem State.ldrAddr_notFilling (hf : s.ldrForeign p = false) (hl : s.ldr ≠ 1) (w : Nat) : s.ldrAddr p w = (.eRange, s) := by
  rw [State.ldrAddr, if_neg (by simp [hf]), if_neg (by simp [hl])]

theorem State.ldrAddr_foreign (hf : s.ldrForeign p = true) (w : Nat) : s.ldrAddr p w = (.ePriv, s) := if_pos hf

theorem State.ldrData_foreign (hf : s.ldrForeign p = true) (wide : Bool) (w : Word) : s.ldrData p wide w = (.ePriv, s) := if_pos hf

theorem State.ldrData_rejected (hf : s.ldrForeign p = false) {wide : Bool} (h : wide = false ∨ s.ldr = 0 ∨ s.ldr = 3) (w : Word) :
    s.ldrData p wide w = (.eRange, s) := by
  rw [State.ldrData, if_neg (by simp [hf])]
  cases wide with
  | false => rfl
  | true =>
    obtain h | h : s.ldr = 0 ∨ s.ldr = 3 := by simpa using h
    · simp [h]
    · simp [h]

/-- A bank after eight bytes were written at the pointer. -/
def Bank.fill (b : Bank) (ptr : Nat) (w : Word) : Bank :=
  { mem := Mem.writeBytes b.mem ptr (wordBytes w), written := max b.written (ptr + 8), accepted := false, rejected := false }

theorem State.ldrData_fills (hf : s.ldrForeign p = false) (hl : s.ldr = 1) (hb : s.vn .imgPtr + 8 ≤ 0x80000) (w : Word) :
    s.ldrData p true w = (.ok, ((s.setBank s.stageBank ((s.bank s.stageBank).fill (s.vn .imgPtr) w)).setV .imgPtr
      ((s.vn .imgPtr + 8 : Nat) : Int)).wr F.IMG_WADDR_PTR (s.vn .imgPtr + 8)) := by
  rw [State.ldrData, if_neg (by simp [hf])]
  simp only [hl, Bool.not_true, Bool.false_eq_true, if_false, Nat.ble_eq, hb, if_true]
  rfl

end

/-- A command of a command register whose operation comes to a status and a state. -/
theorem answers_command {s v : State} {t : Nat} {p : Port} {r : Reg} {op : State → Status × State} {c : Instr} {st : Status}
    {Q : State → Prop} (hp : Takes s p) (he : exec c s = .next ((s.start t).command p r op)) (ho : op (s.start t) = (st, v))
    (hq : Q (v.answer p r st)) : Answers c s fun u => Told p st 0 u ∧ Q u := by
  refine ⟨_, he, ?_⟩
  rw [State.command_takes hp, ho]
  exact ⟨told_answer .., hq⟩

/-- A command whose operation does nothing but give a status is rejected and changes nothing else. -/
theorem answers_rejected {s : State} {t : Nat} {p : Port} {r : Reg} {op : State → Status × State} {c : Instr} {st : Status}
    (hp : Takes s p) (he : exec c s = .next ((s.start t).command p r op)) (ho : op (s.start t) = (st, s.start t)) :
    Answers c s fun u => Told p st 0 u ∧ Frame Scope.refused s u :=
  answers_command hp he ho (frame_answer ..)

/-! ### The loader's commands -/

/-- Settles O17: by what each command of IMG_CTRL comes to in each state of the loader. -/
theorem loaderCommands : Obligations.LoaderCommands := by
  refine ⟨?opens, ?commits, ?commitRange, ?aborts, ?fuses, ?fuseRange, ?openBusy, ?foreign⟩
  case opens =>
    intro s t p hp hf hl
    refine answers_command hp rfl (State.ldrOpen_opens (s := s.start t) hf hl) ⟨?_, ?_, ?_, ?_, ?_, ?_⟩
    · rw [State.ldr_answer, State.ldr_ldrOwner, State.ldr_wr _ (by decide)]
    · rw [State.bank_answer]
      exact State.bank_setBank_same ..
    · rw [State.bank_answer]
      exact State.bank_setBank_other _ s.stageBank_le _
    · rw [State.v_answer _ _ _ _ _ (by decide), State.v_ldrOwner _ (by decide), State.v_wr, State.v_wr, State.v_setV_same]
    · rw [State.rd_answer _ _ _ _ _ (by decide), State.rd_ldrOwner _ (by decide), State.rd_wr_reg _ _ _ _ _ _ _ _ (by decide),
        State.rd_wr_same _ _ _ _ _ (by decide)]
      rfl
    · rw [State.owner_answer]
      rfl
  case commits =>
    intro s t p hp hf hl
    refine answers_command hp rfl (State.ldrCommit_filling (s := s.start t) hf hl) ⟨?_, ?_⟩
    · rw [State.ldr_answer, State.ldr_wr _ (by decide)]
    · exact Frame.answer_ok ((((Does.refl _ s).start t).wr (by decide) _ _ _).within (Foot.le_refl _)) _ _
  case commitRange =>
    intro s t p hp hf hl
    exact answers_rejected hp rfl (State.ldrCommit_none (s := s.start t) hf hl)
  case aborts =>
    intro s t p hp hf hl
    by_cases h2 : s.ldr = 2
    · refine answers_command hp rfl (State.ldrAbort_checking (s := s.start t) hf h2) ⟨?_, ?_, fun _ => ?_⟩
      · rw [State.ldr_answer, State.ldr_ldrResult, State.ldr_ldrIdle]
      · rw [State.owner_answer]
        exact State.part_ldrResult (pa := .owner) _ _ _ _ (by decide)
      · rw [State.rd_answer _ _ _ _ _ (by decide), State.detail_ldrResult _ _ (by decide)]
    · refine answers_command hp rfl (State.ldrAbort_idles (s := s.start t) hf (by rw [State.ldr_start]; omega)) ⟨?_, ?_, fun h => absurd h h2⟩
      · rw [State.ldr_answer, State.ldr_ldrIdle]
      · rw [State.owner_answer]
        rfl
  case fuses =>
    intro s t p hp hr hv
    refine answers_command hp rfl (State.ldrFuse_greater (s := s.start t) hr hv) ⟨?_, ?_⟩
    · rw [State.rd_answer _ _ _ _ _ (by decide), State.rd_wr_same _ _ _ _ _ (by decide)]
      rfl
    · rw [State.rd_answer _ _ _ _ _ (by decide), State.rd_wr_reg _ _ _ _ _ _ _ _ (by decide)]
      rfl
  case fuseRange =>
    intro s t p hp h
    exact answers_rejected hp rfl (State.ldrFuse_rejected (s := s.start t) h)
  case openBusy =>
    intro s t p hp hf h0 h1 h3
    exact answers_rejected hp rfl (State.ldrOpen_busy (s := s.start t) hf h0 h1 h3)
  case foreign =>
    intro s t p c hp hf hc
    have h {k : Nat} := State.ldrCmd_foreign (s := s.start t) hf (k := k)
    obtain rfl | rfl | rfl : c = .ldrOpen t p ∨ c = .ldrCommit t p ∨ c = .ldrAbort t p := by simpa using hc
    · exact answers_rejected hp rfl (h (k := 1) (by decide) (by decide))
    · exact answers_rejected hp rfl (h (k := 2) (by decide) (by decide))
    · exact answers_rejected hp rfl (h (k := 3) (by decide) (by decide))

/-! ### The bytes of the staging bank -/

/-- Byte k of a word, least significant first (00 R3). -/
theorem getD_wordBytes (w : Word) {k : Nat} (h : k < 8) : (wordBytes w).getD k 0 = w.extractLsb' (8 * k) 8 := by
  simp [wordBytes, h]

/-- A bank that was filled at the pointer holds the word's bytes there, and what it held elsewhere. -/
theorem Bank.read_fill (b : Bank) (ptr : Nat) (w : Word) (a : Nat) :
    Mem.read (b.fill ptr w).mem a
      = if ptr ≤ a ∧ a < ptr + 8 then w.extractLsb' (8 * (a - ptr)) 8 else Mem.read b.mem a := by
  have hn : (wordBytes w).length = 8 := by simp [wordBytes]
  unfold Bank.fill
  split
  · next h =>
    obtain ⟨k, rfl⟩ := Nat.exists_eq_add_of_le h.1
    have hk : k < 8 := by omega
    rw [Mem.read_writeBytes_in _ _ _ _ (hn ▸ hk), getD_wordBytes w hk, Nat.add_sub_cancel_left]
  · next h => exact Mem.read_writeBytes_out _ _ _ _ (by omega)

/-- Settles O18: by what a write of each register comes to, and what a filled bank reads. -/
theorem imageBytesFillTheBank : Obligations.ImageBytesFillTheBank := by
  refine ⟨?addr, ?addrRange, ?data, ?dataRange, ?foreign⟩
  case addr =>
    intro s t w p hp hf hl h8 hw
    refine answers_command hp rfl (State.ldrAddr_sets (s := s.start t) hf hl h8 hw) ⟨?_, ?_, ?_⟩
    · rw [State.v_answer _ _ _ _ _ (by decide), State.v_wr, State.v_setV_same]
    · rw [State.rd_answer _ _ _ _ _ (by decide), State.rd_wr_same _ _ _ _ _ (by decide)]
      exact Nat.mod_mod ..
    · exact Frame.answer_ok (((((Does.refl _ s).start t).setV (by decide) _ _ _).wr (by decide) _ _ _).within (Foot.le_refl _)) _ _
  case addrRange =>
    intro s t w p hp hf hl
    exact answers_rejected hp rfl (State.ldrAddr_notFilling (s := s.start t) hf hl w)
  case data =>
    intro s t p w hp hf hl hb
    refine answers_command hp rfl (State.ldrData_fills (s := s.start t) hf hl hb w) ⟨?_, fun a => ?_, ?_⟩
    · rw [State.v_answer _ _ _ _ _ (by decide), State.v_wr, State.v_setV_same]
      rfl
    · rw [State.bank_answer, ← Bank.read_fill]
      exact congrArg (fun b : Bank => Mem.read b.mem a) (State.bank_setBank_same ..)
    · rw [State.bank_answer]
      exact State.bank_setBank_other _ s.stageBank_le _
  case dataRange =>
    intro s t p wide w hp hf h
    exact answers_rejected hp rfl (State.ldrData_rejected (s := s.start t) hf h w)
  case foreign =>
    intro s t x p wide w c hp hf hc
    obtain rfl | rfl : c = .imgWaddr t p x ∨ c = .imgWdata t p wide w := by simpa using hc
    · exact answers_rejected hp rfl (State.ldrAddr_foreign (s := s.start t) hf x)
    · exact answers_rejected hp rfl (State.ldrData_foreign (s := s.start t) hf wide w)

/-! ### Image fields and a planned reset -/

/-- RUN, with a leaf under the hub that is out of reset and whose channel end is UP. An ISL_RST of the leaf has waited for its fence
(03 R103), and the hub's end is no longer FENCING: it is DOWN. -/
def plannedReset : State :=
  { ((((State.reset.wr F.HUB_PKG_STATE_STATE Pkg.run).setV .islHeld 0 (leafDom 0)).setV .islPlan 2 (leafDom 0)).chW (.leaf 0)
      F.HUB_CHAN_STATE Ch.up) with
    img := { ImgSt.empty with
      active := some {
        delta := false, minor := 0, svn := 0, paramSeq := 0, imageId := 0, digest := 0, structDigest := 0
        tree := [⟨hubDom, 0xFFFF, 0, 0, 0, 0, false⟩, ⟨leafDom 0, hubDom, 2, 1, 0, 0, false⟩]
        insts := [], rails := [], loops := [], parts := [], dxl := none, mirror := none, sources := [], items := [] } } }

/-- The arrival of its image fields lets the leaf's planned reset go on, which clears what the leaf holds: its fields are not valid. -/
theorem islFields_plannedReset :
    ∃ u, exec (.paramMsg 0 (.leaf 0) 0 (leafDom 0) 0) plannedReset = .next u ∧ u.v .islFields (leafDom 0) = 0 :=
  ⟨_, rfl, by decide +kernel⟩

/-- Refutes O20: its last clause does not exclude that an ISL_RST of the island is in progress. PARAM makes the island's fields valid,
and in the same command the planned reset holds the island and clears them. -/
theorem not_deltasReachTheIslands : ¬ Obligations.DeltasReachTheIslands := by
  rintro ⟨-, -, -, hfields⟩
  obtain ⟨u, hu, hv⟩ := hfields plannedReset 0 0 0 (by decide) (by decide) (by decide) (by decide) (by decide)
  obtain ⟨w, hw, h0⟩ := islFields_plannedReset
  obtain rfl : w = u := by simpa [hw] using hu
  exact hv h0

end Sys2Proof.Machine

/-!
PROOFS. Islands and their channels (spec/03_islands_channels.md): what the register of a channel end shows, what work leaves it, the
links and fences of an end, and the messages of a register command.
-/
namespace Sys2Proof.Machine

/-! ### The register of an end -/

theorem State.ch_congr {s u : State} {e : ChEnd} (h : u.reg (endReg e) (endI e) (endJ e) = s.reg (endReg e) (endI e) (endJ e)) (f : Fld) :
    u.ch e f = s.ch e f :=
  State.rd_congr h

theorem State.ch_congr_regs {s u : State} (h : u.regs = s.regs) (e : ChEnd) (f : Fld) : u.ch e f = s.ch e f :=
  State.ch_congr (by rw [State.reg, State.reg, h]) f

theorem State.ch_chW_same (s : State) (e : ChEnd) (f : Fld) (v : Nat) (h : f.lsb + f.w ≤ 64) : (s.chW e f v).ch e f = v % 2 ^ f.w :=
  State.rd_wr_same _ _ _ _ _ h

theorem State.ch_chW_apart (s : State) (e x : ChEnd) (f g : Fld) (v : Nat) (h : f.lsb + f.w ≤ 64)
    (hd : g.lsb + g.w ≤ f.lsb ∨ f.lsb + f.w ≤ g.lsb) : (s.chW e f v).ch x g = s.ch x g :=
  State.rd_wr_apart _ _ _ _ _ _ _ _ h hd

/-- STATE of an end that was taken to a state. -/
theorem State.chSt_chW (s : State) (e : ChEnd) {k : Nat} (h : k < 8) : (s.chW e F.HUB_CHAN_STATE k).chSt e = k :=
  (s.ch_chW_same e _ k (by decide)).trans (Nat.mod_eq_of_lt h)

theorem State.ch_chFlag_one (s : State) (e : ChEnd) (f : Fld) (hw : f.w = 1) (hl : f.lsb < 64) : (s.chFlag e f).ch e f = 1 :=
  State.rd_flag_one _ _ _ _ hw hl

theorem State.ch_chFlag_apart (s : State) (e x : ChEnd) (f g : Fld) (h : f.lsb + f.w ≤ 64)
    (hd : g.lsb + g.w ≤ f.lsb ∨ f.lsb + f.w ≤ g.lsb) : (s.chFlag e f).ch x g = s.ch x g :=
  s.ch_chW_apart e x f g _ h hd

/-- A counter of an end saturates. -/
theorem State.ch_chInc_same (s : State) (e : ChEnd) (f : Fld) (d : Nat) (h : f.lsb + f.w ≤ 64) :
    (s.chInc e f d).ch e f = min (2 ^ f.w - 1) (s.ch e f + d) := by
  refine (State.rd_wr_same s { f with r := endReg e } _ _ _ h).trans (Nat.mod_eq_of_lt ?_)
  exact (Nat.min_le_left ..).trans_lt (Nat.sub_one_lt (Nat.two_pow_pos f.w).ne')

/-! ### Work that writes no register -/

theorem State.regs_put (s : State) (e : ChEnd) (typ payload : Nat) : (s.put e typ payload).regs = s.regs := rfl

theorem State.regs_sayHello (s : State) (e : ChEnd) (reason : Nat) : (s.sayHello e reason).regs = s.regs := rfl

theorem State.regs_helloStored (s : State) (e : ChEnd) : (s.helloStored e).regs = s.regs := by
  unfold State.helloStored
  dsimp only
  split
  · rfl
  · rfl

theorem State.regs_endForget (s : State) (e : ChEnd) : (s.endForget e).regs = s.regs := rfl

theorem endIsParent_node {j : Nat} (h : j ≠ 0) (n : Nat) : endIsParent (.node n j) = true := by
  cases j with
  | zero => exact absurd rfl h
  | succ => rfl

theorem endIsParent_childEnd (d : Nat) : endIsParent (childEnd d) = false := by
  unfold childEnd
  split
  · rfl
  · rfl

/-- What an island sends up, or may not send, leaves every register: only a parent end has a guard that counts (03 R99). -/
theorem State.regs_sendUp (s : State) (d typ payload : Nat) : (s.sendUp d typ payload).regs = s.regs := by
  rw [State.sendUp, State.send, endIsParent_childEnd]
  split
  · exact s.regs_put ..
  · rfl

theorem State.regs_fenceProgress (s : State) (d : Nat) : (s.fenceProgress d).regs = s.regs := by
  unfold State.fenceProgress
  extract_lets id ends busy st z
  split
  · rfl
  · split
    · rfl
    · exact z.regs_sendUp ..

/-- A footprint without the registers of the three kinds of ends. -/
theorem Foot.hasR_endReg {g : Foot} (h1 : g.hasR .HUB_CHAN = false) (h2 : g.hasR .NODE_CHAN = false) (h3 : g.hasR .LEAF_CHAN = false)
    (e : ChEnd) : g.hasR (endReg e) = false := by
  cases e with
  | hub => exact h1
  | node => exact h2
  | leaf => exact h3

/-- An event or a flag's change, also one that an island sends up, leaves what the event controller does not hold. -/
theorem State.reg_evFrom_apart (s : State) (d code inst detail : Nat) (lvl : Bool) {r : Reg} (h1 : Foot.eventD.hasR r = false)
    (h2 : Foot.evtClear.hasR r = false) (i j : Nat) : (s.evFrom d code inst detail lvl).reg r i j = s.reg r i j := by
  unfold State.evFrom
  split
  · split
    · exact State.reg_eventD _ _ _ h1
    · exact State.reg_evtClear _ _ h2
  · rw [State.reg, State.regs_sendUp, State.reg]

theorem State.ch_evFrom (s : State) (d code inst detail : Nat) (lvl : Bool) (e : ChEnd) (f : Fld) :
    (s.evFrom d code inst detail lvl).ch e f = s.ch e f :=
  State.ch_congr (State.reg_evFrom_apart _ _ _ _ _ _ (Foot.hasR_endReg (by decide) (by decide) (by decide) e)
    (Foot.hasR_endReg (by decide) (by decide) (by decide) e) _ _) f

/-- A message that an end delivers is taken. -/
theorem answers_delivered {s : State} {t tag : Nat} {e : ChEnd} {f : State → State} {c : Instr} {Q : State → Prop}
    (h : s.delivers e tag = true) (he : exec c s = .next ((s.start t).deliver e tag f)) (hq : Q (f (s.start t))) : Answers c s Q :=
  ⟨_, he, by rwa [State.deliver, if_pos (by exact h)]⟩

theorem nodeDom_ne_hubDom (n : Nat) : nodeDom n ≠ hubDom := by
  unfold nodeDom hubDom
  omega

theorem leafDom_ne_hubDom (n : Nat) : leafDom n ≠ hubDom := by
  unfold leafDom hubDom
  omega

/-! ### What a leaf's end keeps while messages are sent down -/

/-- A leaf has no parent end: only a parent end's guard counts what it drops (03 R99). -/
theorem State.reg_send_leaf (s : State) (e : ChEnd) (typ payload i j : Nat) :
    (s.send e typ payload).reg .LEAF_CHAN i j = s.reg .LEAF_CHAN i j := by
  unfold State.send
  split
  · rfl
  · cases e with
    | hub => exact State.reg_wr_reg _ _ _ _ _ _ _ _ Reg.noConfusion
    | leaf => rfl
    | node =>
      split
      · exact State.reg_wr_reg _ _ _ _ _ _ _ _ Reg.noConfusion
      · rfl

theorem State.reg_when_keeps {s : State} {c : Bool} {f : State → State} {r : Reg} {i j : Nat} (h : ∀ u, (f u).reg r i j = u.reg r i j) :
    (s.when c f).reg r i j = s.reg r i j := by
  unfold State.when
  split
  · exact h s
  · rfl

/-- The split words of the domains (06 R206). -/
def Foot.splits : Foot :=
  (⟨[.HUB_SPLIT_A, .HUB_SPLIT_B, .HUB_SPLIT_C, .NODE_SPLIT_A, .NODE_SPLIT_B, .NODE_SPLIT_C], [], []⟩ : Scope).foot

theorem State.reg_spW_leaf (s : State) (d k : Nat) {f : Fld} (hf : Foot.splits.hasR f.r = true) (v i j : Nat) :
    (s.spW d k f v).reg .LEAF_CHAN i j = s.reg .LEAF_CHAN i j :=
  (Does.spW (G := Foot.splits) (Does.refl _ s) (by decide) d k f hf v).reg (by decide) i j

/-- A GRANT goes down. -/
theorem State.reg_grantSend_leaf (s : State) (d child k cls rail : Nat) (a : Option Nat) (i j : Nat) :
    (s.grantSend d child k cls rail a).reg .LEAF_CHAN i j = s.reg .LEAF_CHAN i j := by
  unfold State.grantSend
  extract_lets g z y x
  have hy : y.reg .LEAF_CHAN i j = z.reg .LEAF_CHAN i j := by
    have hspW {f : Fld} (hf : Foot.splits.hasR f.r = true) (v : Nat) := z.reg_spW_leaf d k hf v i j
    simp only [y, State.reg_ite, hspW (f := F.HUB_SPLIT_C_GRANT_AVG) (by decide), hspW (f := F.HUB_SPLIT_C_GRANT_FAST) (by decide),
      ite_self]
  calc _ = x.reg .LEAF_CHAN i j := State.reg_send_leaf ..
    _ = y.reg .LEAF_CHAN i j := State.reg_frame _ _ _ _ _ _ (by decide)
    _ = s.reg .LEAF_CHAN i j := hy

theorem State.reg_grantsOut_leaf (s : State) (d cls rail : Nat) (l : List (Nat × Nat × Option Nat)) (i j : Nat) :
    (s.grantsOut d cls rail l).reg .LEAF_CHAN i j = s.reg .LEAF_CHAN i j :=
  State.reg_each _ _ _ _ _ _ fun _ _ _ => State.reg_grantSend_leaf ..

theorem State.reg_split_leaf (s : State) (d cls rail i j : Nat) : (s.split d cls rail).reg .LEAF_CHAN i j = s.reg .LEAF_CHAN i j := by
  unfold State.split
  split
  · rfl
  · split
    · exact State.reg_grantsOut_leaf ..
    · split
      · exact State.reg_grantsOut_leaf ..
      · extract_lets cs l
        split
        rw [State.reg_grantsOut_leaf, State.reg_when_keeps fun u => ?surplus, State.reg_when_keeps fun u => ?short]
        case surplus =>
          split
          · exact State.reg_wr_reg _ _ _ _ _ _ _ _ (by decide)
          · exact State.reg_wr_reg _ _ _ _ _ _ _ _ (by decide)
        case short =>
          rw [State.reg_evFrom_apart _ _ _ _ _ _ (by decide) (by decide)]
          split
          · exact State.reg_wr_reg _ _ _ _ _ _ _ _ (by decide)
          · exact State.reg_wr_reg _ _ _ _ _ _ _ _ (by decide)

theorem State.reg_splitAll_leaf (s : State) (d i j : Nat) : (s.splitAll d).reg .LEAF_CHAN i j = s.reg .LEAF_CHAN i j := by
  unfold State.splitAll
  rw [State.reg_each _ _ _ _ _ _ fun _ _ _ => State.reg_split_leaf .., State.reg_split_leaf, State.reg_split_leaf]

/-- NEED reaches the hub's split words, or goes down on its way to a node engine. -/
theorem State.reg_needSend_leaf (s : State) (d need weight i j : Nat) :
    (s.needSend d need weight).reg .LEAF_CHAN i j = s.reg .LEAF_CHAN i j := by
  unfold State.needSend State.needAt
  dsimp only
  split
  · rw [State.reg_splitAll_leaf, State.reg_spW_leaf _ _ _ (by decide), State.reg_spW_leaf _ _ _ (by decide)]
  · split
    · rfl
    · exact State.reg_send_leaf ..

theorem State.reg_needRecompute_leaf (s : State) (ls : List Nat) (mark : Bool) (i j : Nat) :
    (s.needRecompute ls mark).reg .LEAF_CHAN i j = s.reg .LEAF_CHAN i j := by
  unfold State.needRecompute
  extract_lets fv used ds z y
  rw [State.reg_leaseCheck (by decide)]
  have hy : y.reg .LEAF_CHAN i j = z.reg .LEAF_CHAN i j := by
    simp only [y]
    split
    · rfl
    · rfl
  rw [hy]
  refine State.reg_each _ _ _ _ _ _ fun u d _ => ?_
  simp only [State.reg_ite, State.reg_needSend_leaf, State.reg_setV, ite_self]

/-- Image fields go down. -/
theorem State.reg_fieldsSend_leaf (s : State) (c i j : Nat) : (s.fieldsSend c).reg .LEAF_CHAN i j = s.reg .LEAF_CHAN i j := by
  refine State.reg_each _ _ _ _ _ _ fun u d _ => ?_
  split
  · split
    · exact State.reg_send_leaf ..
    · rfl
  · rfl

/-- The discarded samples and the shown footprint leave other registers as the change of footprints left them. -/
theorem State.reg_footShift (s : State) (f : State → State) {r : Reg} (h : Foot.footShift.hasR r = false) (i j : Nat) :
    (s.footShift f).reg r i j = (f s).reg r i j := by
  unfold State.footShift
  rw [State.reg_footShow h]
  exact State.reg_each _ _ _ _ _ _ fun _ _ _ => State.reg_when_keeps fun _ => State.reg_smpSpoil _ (Nat.zero_testBit _)

/-! ### Linking -/

/-- Work that touches neither the package state nor a ramp-down nor a planned reset, where none of them goes on. -/
theorem Does.pkgRun_none {g : Foot} {s u : State} (h : Does g s u) (hr : g.hasR .HUB_PKG_STATE = false) (hd : g.hasV .downFor = false)
    (hp : g.hasV .islPlan = false) (hi : g.hasP .image = false) (hs : s.pkg ≠ Pkg.ramp) (hn : s.v .downFor = 0)
    (hl : s.islPlanned = false) : u.pkgRun = u := by
  have htree : u.tree = s.tree := by
    have ha : u.img.active = s.img.active := congrArg Prod.fst (h.parts .image hi)
    rw [State.tree, State.tree, ha]
  refine State.pkgRun_of_none ?_ ?_ ?_
  · rwa [State.pkg, h.rd hr]
  · rwa [h.v hd]
  · simpa only [State.islPlanned, htree, h.v hp] using hl

/-- What a rise of ALIVE comes to at a leaf's end in DOWN that no delta holds, the leaf and its parent out of reset. -/
theorem exec_chanAliveRise_leaf {s : State} {n : Nat} (hst : s.chSt (.leaf n) = Ch.down) (hdom : s.hasDom (leafDom n) = true)
    (hheld : s.v .islHeld (leafDom n) = 0)
    (hpar : s.parent (leafDom n) = hubDom ∨ s.hasDom (s.parent (leafDom n)) = true ∧ s.v .islHeld (s.parent (leafDom n)) = 0)
    (hhold : s.v .chHold (endNum (.leaf n)) = 0) (t : Nat) :
    exec (.chanAliveRise t (.leaf n)) s
      = .next ((((((s.start t).chW (.leaf n) F.HUB_CHAN_FAR_ALIVE 1).chW (.leaf n) F.HUB_CHAN_STATE Ch.linking).endForget (.leaf n)).sayHello
          (.leaf n) (s.vn .chWhy (leafDom n))).helloStored (.leaf n)) := by
  have hown : ¬ leafDom n = hubDom := leafDom_ne_hubDom n
  refine congrArg Host.Outcome.next ((if_pos ?_).trans ?_)
  · obtain h | ⟨h1, h2⟩ := hpar
    · simp [endDom, State.endChild, hst, hdom, hheld, hown, h]
    · simp [endDom, State.endChild, hst, hdom, hheld, hown, h1, h2]
  · have h : s.v .chHold (endNum (.leaf n)) ≠ 1 := by rw [hhold]; decide
    simp only [State.when, endIsParent, Bool.false_eq_true, if_false]
    refine (if_neg h).trans ?_
    rw [State.vn, State.v_endForget _ (by decide)]
    rfl

/-- A leaf's end that goes to DOWN. -/
theorem State.endDown_leaf {s : State} {n : Nat} (h : s.chSt (.leaf n) ≠ Ch.down) :
    s.endDown (.leaf n) = ((((((s.setV .chHello 0 (endNum (.leaf n))).chW (.leaf n) F.HUB_CHAN_EPOCH (s.ch (.leaf n) F.HUB_CHAN_EPOCH + 1)).chW
      (.leaf n) F.HUB_CHAN_STATE Ch.down).endForget (.leaf n)).laneDrop (.leaf n)).setV .chFenceUp 0 (leafDom n)) :=
  if_neg h

/-- An end waits in LINKING until it has received HELLO_ACK. -/
theorem State.linkStep_waits {s : State} {e : ChEnd} (h : s.v .chAckRcvd (endNum e) = 0) (again : State → State) : s.linkStep e again = s := by
  have hb : s.vn .chAckRcvd (endNum e) = 0 := by rw [State.vn, h]; rfl
  exact if_pos (by simp [hb])

/-- What an end that takes HELLO_ACK may change: it links, or says HELLO again. -/
def Foot.linkAgain : Foot :=
  ⟨Nat.lor Foot.linkStep.regs Foot.helloAgain.regs, Nat.lor Foot.linkStep.vars Foot.helloAgain.vars,
    Nat.lor Foot.linkStep.parts Foot.helloAgain.parts⟩

/-- What a leaf's end that goes to DOWN may change. -/
def Foot.endDownLeaf : Foot :=
  (⟨[.HUB_CHAN, .NODE_CHAN, .LEAF_CHAN], [.chHello, .chAckSent, .chAckRcvd, .laneBulk, .chFenceUp], [.chan]⟩ : Scope).foot

/-- At a leaf's end whose HELLO_ACKs agree, the end is UP with their epoch. -/
theorem State.ch_linkStep_leaf {s : State} {n epoch : Nat} (again : State → State)
    (ha : s.v .chAckSent (endNum (.leaf n)) = (epoch + 1 : Nat)) (hb : s.v .chAckRcvd (endNum (.leaf n)) = (epoch + 1 : Nat)) (f : Fld) :
    (s.linkStep (.leaf n) again).ch (.leaf n) f
      = ((s.chW (.leaf n) F.HUB_CHAN_STATE Ch.up).chW (.leaf n) F.HUB_CHAN_EPOCH epoch).ch (.leaf n) f := by
  have ha' : s.vn .chAckSent (endNum (.leaf n)) = epoch + 1 := by rw [State.vn, ha, Int.toNat_natCast]
  have hb' : s.vn .chAckRcvd (endNum (.leaf n)) = epoch + 1 := by rw [State.vn, hb, Int.toNat_natCast]
  unfold State.linkStep
  rw [ha', hb', if_neg (by simp), if_pos rfl]
  refine State.ch_congr ?_ f
  dsimp only [State.endChild, endReg]
  rw [State.reg_fieldsSend_leaf, State.reg_winBreak _ (by decide), State.reg_setV, State.reg_gbAll (by decide),
    State.reg_needRecompute_leaf, State.reg_footShift _ _ (by decide),
    State.reg_each _ _ _ _ _ _ fun _ _ _ => State.reg_footTake _ (by decide)]
  rfl

/-- Settles O22: by what each command comes to at the end, and what the work that follows leaves of the register of a leaf's end. -/
theorem channelsLink : Obligations.ChannelsLink := by
  refine ⟨?rise, ?fall, ?stored, ?answered, ?acked⟩
  case rise =>
    intro s t n hst hdom hheld hpar hhold hhello
    refine ⟨_, exec_chanAliveRise_leaf hst hdom hheld hpar hhold t, ?_, ?_⟩
    · rw [State.ch_congr_regs (State.regs_helloStored ..), State.ch_congr_regs (State.regs_sayHello ..),
        State.ch_congr_regs (State.regs_endForget ..), State.ch_chW_apart _ _ _ _ _ _ (by decide) (by decide),
        State.ch_chW_same _ _ _ _ (by decide)]
      rfl
    · rw [State.chSt, State.ch_congr_regs (State.regs_helloStored ..), State.ch_congr_regs (State.regs_sayHello ..),
        State.ch_congr_regs (State.regs_endForget ..)]
      exact State.chSt_chW _ _ (by decide)
  case fall =>
    intro s t n hst hramp hdown hplan
    have h : exec (.chanAliveFall t (.leaf n)) s
        = .next ((((s.start t).chW (.leaf n) F.HUB_CHAN_FAR_ALIVE 0).endDown (.leaf n)).pkgRun) := rfl
    have hst' : ((s.start t).chW (.leaf n) F.HUB_CHAN_FAR_ALIVE 0).chSt (.leaf n) ≠ Ch.down := by
      rwa [State.chSt, State.ch_chW_apart _ _ _ _ _ _ (by decide) (by decide)]
    rw [State.endDown_leaf hst', Does.pkgRun_none (g := Foot.endDownLeaf) ?_ (by decide) (by decide) (by decide) (by decide) hramp hdown
      hplan] at h
    · refine ⟨_, h, ?_, ?_, ?_⟩
      · exact State.chSt_chW _ _ (by decide)
      · refine (State.ch_chW_apart _ _ _ _ _ _ (by decide) (by decide)).trans ?_
        refine (State.ch_chW_apart _ _ _ _ _ _ (by decide) (by decide)).trans ?_
        exact State.ch_chW_same (s.start t) _ _ _ (by decide)
      · refine (State.ch_chW_apart _ _ _ _ _ _ (by decide) (by decide)).trans ?_
        refine (State.ch_chW_same _ _ _ _ (by decide)).trans ?_
        rw [State.ch_chW_apart _ _ _ _ _ _ (by decide) (by decide)]
        rfl
    · have hdoes := ((Does.refl Foot.endDownLeaf s).start t).chW (by decide) (.leaf n) F.HUB_CHAN_FAR_ALIVE 0
      exact (((((hdoes.setV (by decide) _ _ _).chW (by decide) _ _ _).chW (by decide) _ _ _).endForget (by decide) _).laneDrop
        (by decide) _).setV (by decide) _ _ _
  case stored =>
    intro s t epoch e hst
    exact ⟨_, congrArg Host.Outcome.next (if_pos hst), State.v_setV_same ..⟩
  case answered =>
    intro s t epoch e hst hack
    have hdown : s.chSt e ≠ Ch.down := by rw [hst]; decide
    have h : exec (.hello t e epoch) s = .next ((s.start t).helloTake e (epoch % 65536)) :=
      congrArg Host.Outcome.next ((if_neg hdown).trans (if_pos hst))
    refine ⟨_, h, ?_⟩
    rw [State.helloTake, State.linkStep_waits]
    · exact State.v_setV_same ..
    · exact (State.v_setV_var _ _ _ _ _ _ _ _ (by decide)).trans hack
  case acked =>
    intro s t epoch n hst hsent hramp hdown hplan
    have h : exec (.helloAck t (.leaf n) epoch) s = .next ((((s.start t).setV .chAckRcvd (epoch % 65536 + 1) (endNum (.leaf n))).linkStep
        (.leaf n) fun s => s.helloAgain (.leaf n)).pkgRun) :=
      congrArg Host.Outcome.next (if_pos hst)
    rw [Does.pkgRun_none (g := Foot.linkAgain) ?_ (by decide) (by decide) (by decide) (by decide) hramp hdown hplan] at h
    · have hsent' : ((s.start t).setV .chAckRcvd (epoch % 65536 + 1) (endNum (.leaf n))).v .chAckSent (endNum (.leaf n))
          = (epoch % 65536 + 1 : Nat) :=
        (State.v_setV_var _ _ _ _ _ _ _ _ (by decide)).trans hsent
      refine ⟨_, h, ?_, ?_⟩
      · rw [State.chSt, State.ch_linkStep_leaf _ hsent' (State.v_setV_same ..), State.ch_chW_apart _ _ _ _ _ _ (by decide) (by decide)]
        exact State.chSt_chW _ _ (by decide)
      · rw [State.ch_linkStep_leaf _ hsent' (State.v_setV_same ..), State.ch_chW_same _ _ _ _ (by decide)]
        exact Nat.mod_mod ..
    · exact Does.linkStep (((Does.refl _ s).start t).setV (by decide) _ _ _) (by decide) _ _ fun _ h => h.helloAgain (by decide) _

/-! ### Fences -/

theorem any_beq_eq_false {α : Type} {l : List α} {g : α → Nat} {d : Nat} (h : (l.any fun x => decide (g x = d)) = false) :
    (l.any fun x => Nat.beq (g x) d) = false := by
  simpa using h

/-- A FENCE that an island carries out, and of which no work is left, is acknowledged (03 R102). -/
theorem State.fenceProgress_acks {s : State} {d : Nat} (hd : d ≠ hubDom) (hu : s.vn .chFenceUp d ≠ 0) (hc : s.childEnds d = [])
    (hp : (s.chan.pend.any fun p => endDom p.chEnd = d) = false) (ha : (s.chan.await.any fun p => endDom p.1 = d) = false)
    (hw : (s.chan.wait.any fun w => endDom w.pend.chEnd = d) = false) (hb : s.v .chFenceBad d = 0) :
    s.fenceProgress d = ((s.setV .chFenceUp 0 d).setV .chFenceBad 0 d).sendUp d Mt.fenceAck
      (pack [(8, 8, s.vn .chFenceUp d - 1), (16, 8, 0)]) := by
  unfold State.fenceProgress
  extract_lets id ends busy st z
  have hends : ends = [] := hc
  have hbusy : busy = false := by
    simp only [busy, hends, List.any_nil, any_beq_eq_false hp, any_beq_eq_false ha, any_beq_eq_false hw, Bool.or_false]
  have hst : st = .ok := if_neg (by rw [hb]; decide)
  rw [if_neg (by simp [hd, hu, id]), if_neg (by simp [hbusy]), hst]
  rfl

/-- A FENCE at an island without children that has no command to wait for is acknowledged at once. -/
theorem State.fenceTake_acks {s : State} {d : Nat} (hd : d ≠ hubDom) (hc : s.childEnds d = [])
    (hp : (s.chan.pend.any fun p => endDom p.chEnd = d) = false) (ha : (s.chan.await.any fun p => endDom p.1 = d) = false)
    (hw : (s.chan.wait.any fun w => endDom w.pend.chEnd = d) = false) (scope id : Nat) :
    s.fenceTake d scope id = ((((s.setV .chFenceUp (id % 256 + 1) d).setV .chFenceBad 0 d).setV .chFenceUp 0 d).setV .chFenceBad 0 d).sendUp
      d Mt.fenceAck (pack [(8, 8, id % 256), (16, 8, 0)]) := by
  unfold State.fenceTake State.when
  extract_lets z y
  have hy : y = z := by
    have hz : z.childEnds d = [] := hc
    simp only [y, hz, State.each, List.foldl_nil, ite_self]
  have hu : z.vn .chFenceUp d = id % 256 + 1 := by
    rw [State.vn, State.v_setV_var _ _ _ _ _ _ _ _ (by decide), State.v_setV_same]
    rfl
  rw [hy, State.fenceProgress_acks (s := z) hd (by omega) hc hp ha hw (State.v_setV_same ..), hu]
  rfl

theorem childEnd_leafDom {n : Nat} (h : n < 4096) : childEnd (leafDom n) = .leaf n := by
  have hl : isLeaf (leafDom n) = true := by simp [isLeaf, leafDom]
  have hn : domNum (leafDom n) = n := by
    unfold domNum leafDom
    omega
  rw [childEnd, hl, hn]
  rfl

/-- The fence of a node engine's parent end is over. -/
theorem State.fenceDone_node (s : State) (n j : Nat) (bad : Bool) :
    s.fenceDone (.node n j) bad
      = (((s.setV .chFence 0 (endNum (.node n j))).when bad fun s => s.setV .chFenceBad 1 (nodeDom n)).fenceProgress (nodeDom n)) :=
  if_neg (nodeDom_ne_hubDom n)

theorem State.ch_fenceDone_node (s : State) (n j : Nat) (bad : Bool) (e : ChEnd) (f : Fld) :
    (s.fenceDone (.node n j) bad).ch e f = s.ch e f := by
  rw [State.fenceDone_node, State.ch_congr_regs (State.regs_fenceProgress ..)]
  cases bad
  · rfl
  · rfl

theorem State.chFence_fenceDone_node (s : State) (n j : Nat) (bad : Bool) :
    (s.fenceDone (.node n j) bad).v .chFence (endNum (.node n j)) = 0 := by
  rw [State.fenceDone_node, State.v_fenceProgress _ (by decide)]
  cases bad
  · exact State.v_setV_same ..
  · exact (State.v_setV_var _ _ _ _ _ _ _ _ (by decide)).trans (State.v_setV_same ..)

/-- Settles O23: a leaf's fence has nothing to wait for; what the end of a fence and an event leave of an end's register. -/
theorem channelFences : Obligations.ChannelFences := by
  refine ⟨?taken, ?acked, ?late, ?reserved⟩
  case taken =>
    intro s t n tag scope id hdel hpend hawait hwait hends hsend hn
    refine answers_delivered hdel rfl ?_
    have hack := State.fenceTake_acks (s := s.start t) (leafDom_ne_hubDom n) hends hpend hawait hwait (scope % 2) id
    rw [if_neg (by simp [endIsParent]), endDom, hack, State.sendUp, childEnd_leafDom hn, State.send, if_pos (by exact hsend)]
    refine ⟨?_, ?_⟩
    · rw [State.v_put _ _ _ (by decide), State.v_setV_var _ _ _ _ _ _ _ _ (by decide), State.v_setV_same]
    · exact List.mem_append_right _ (List.mem_singleton.mpr rfl)
  case acked =>
    intro s t n j tag id st hdel hj hst hid
    refine answers_delivered hdel rfl ?_
    rw [if_neg (by simp [endIsParent_node hj, hst]), if_pos (by simp [hst, hid]), State.chSt, State.ch_fenceDone_node]
    exact ⟨State.chSt_chW _ _ (by decide), State.chFence_fenceDone_node ..⟩
  case late =>
    intro s t n j hst hat
    have h : exec (.fenceTimeout t (.node n j)) s = .next ((((((s.start t).chW (.node n j) F.HUB_CHAN_STATE Ch.fenced).chFlag (.node n j)
        F.HUB_CHAN_FENCE_TO).evFrom (nodeDom n) 0x06 _).fenceDone (.node n j) true)) :=
      congrArg _ (if_pos (by simp [hst, hat]))
    refine ⟨_, h, ?_, ?_⟩
    · rw [State.chSt, State.ch_fenceDone_node, State.ch_evFrom]
      exact (State.ch_chFlag_apart _ _ _ _ _ (by decide) (by decide)).trans (State.chSt_chW _ _ (by decide))
    · rw [State.ch_fenceDone_node, State.ch_evFrom]
      exact State.ch_chFlag_one _ _ _ rfl (by decide)
  case reserved =>
    intro s t e
    exact ⟨_, rfl, rfl, fun x => State.ch_evFrom ..⟩

/-! ### The messages of a register command -/

/-- Settles O24: the command comes to a saturating count in the register of its end. -/
theorem responseOfNoCommandIsDropped : Obligations.ResponseOfNoCommandIsDropped := by
  intro s t tag src reqid st e hdel hp hnone
  refine answers_delivered hdel rfl ?_
  have hnone' : (s.start t).pend? e (reqid % 256) = none := hnone
  rw [if_neg (by simp [hp]), hnone']
  exact ⟨State.ch_chInc_same _ _ _ _ (by decide), rfl, fun r i j hr => State.reg_wr_reg _ _ _ _ _ _ _ _ (by simpa using hr),
    fun _ _ _ _ => rfl, fun p _ => (State.part_wr ..).trans (State.part_start ..)⟩

/-- The request of a read of leaf 0 under some REQID. -/
def readOf (reqid : Nat) : CmdReq := { dest := leafDom 0, reqid := reqid, op := 0, off := 0 }

/-- That request, forwarded at node engine 0's end to leaf 0. -/
def relayed (reqid : Nat) : CmdPend := { chEnd := .node 0 1, req := readOf reqid, time := 0, src := .relay }

/-- Node engine 0's end to leaf 0 is UP. Its pending table is full, with REQIDs 0 to 31, and another request with REQID 0, which the hub
gives again once its own quarantine of the REQID is over (03 R100), waits for room. The response of the pending request with that REQID
has come, and its data has not. -/
def reusedReqid : State :=
  { State.reset.chW (.node 0 1) F.HUB_CHAN_STATE Ch.up with
    chan := { pend := (List.range 32).map relayed, wait := [{ pend := relayed 0, data := 0 }], quar := [], await := [],
              rspWait := [(.node 0 1, leafDom 0, 0)] } }

/-- The data retires the pending request, and the one that waited takes its place under the same REQID. -/
theorem pend_reusedReqid :
    ∃ u, exec (.cmdData 0 (.node 0 1) 0 0 ⟨false, false, 0⟩) reusedReqid = .next u ∧ u.pend? (.node 0 1) 0 = some (relayed 0) :=
  ⟨_, rfl, by decide⟩

/-- Refutes O25: its third clause does not exclude that another request with the same REQID waits for room in the pending table. -/
theorem not_commandMessages : ¬ Obligations.CommandMessages := by
  rintro ⟨-, -, hdata, -⟩
  obtain ⟨u, hu, -, hnone⟩ := hdata reusedReqid 0 0 1 0 (leafDom 0) 0 0 ⟨false, false, 0⟩ (relayed 0) (by decide) (by decide) (by decide)
    (by decide)
  obtain ⟨z, hz, hsome⟩ := pend_reusedReqid
  obtain rfl : z = u := Host.Outcome.next.inj (hz.symm.trans hu)
  exact Option.some_ne_none _ (hsome.symm.trans hnone)

end Sys2Proof.Machine

/-!
PROOFS. Estimation and measurement (spec/04_estimation.md): what a sum variable reads after its additions and after it is dropped, the
messages that travel up, a leaf's slot and interval, KNEAD's windows and its reset.
-/
namespace Sys2Proof.Machine

/-! ### Sums, and work that a condition guards -/

theorem State.v_addV_same (s : State) (x : Var) (d : Int) (i j : Nat) : (s.addV x d i j).v x i j = s.v x i j + d :=
  State.v_setV_same ..

theorem State.v_addV_var (s : State) (x q : Var) (d : Int) (i j a b : Nat) (h : q ≠ x) : (s.addV x d i j).v q a b = s.v q a b :=
  State.v_setV_var _ _ _ _ _ _ _ _ h

/-- A variable reads its reset value at every index at which it was dropped. -/
theorem State.v_dropV_gone (s : State) (x : Var) (i : Nat) {sel : Nat → Bool} {j : Nat} (h : sel j = true) :
    (s.dropV x i sel).v x i j = x.dflt :=
  KMap.get_filter_gone _ _ _ _ fun _ => by simp [h]

/-- Work that is done only where a condition holds leaves what it leaves when it is done. -/
theorem State.v_when_keeps {s : State} {c : Bool} {f : State → State} {x : Var} {i j : Nat} (h : ∀ u, (f u).v x i j = u.v x i j) :
    (s.when c f).v x i j = s.v x i j := by
  unfold State.when
  split
  · exact h s
  · rfl

/-! ### Messages on the way up -/

/-- A message of a child, whose reserved field is as it must be, is taken at its parent end. -/
theorem answers_upMsg {s : State} {t tag c : Nat} {e : ChEnd} {f : Nat → Nat → State → State} {i : Instr} {Q : State → Prop}
    (h : s.delivers e tag = true) (hc : s.endChild e = some c) (he : exec i s = .next ((s.start t).upMsg e tag false f))
    (hq : Q (f (endDom e) c (s.start t))) : Answers i s Q := by
  refine answers_delivered h he ?_
  have hc' : (s.start t).endChild e = some c := hc
  rw [hc']
  exact hq

/-! ### Estimates of a slot -/

/-- A report of no rail, which 0x1F stands for, is none. -/
theorem State.estTake_none (s : State) (c k mw : Nat) : s.estTake c 0x1F k mw = s := if_pos rfl

/-- A report of a rail is its child's last one. -/
theorem State.estLast_estTake_same (s : State) (c : Nat) {r : Nat} (h : r ≠ 0x1F) (k mw : Nat) :
    (s.estTake c r k mw).v .estLast c r = mw := by
  rw [State.estTake, if_neg h]
  simp (disch := decide) only [State.v_setV_var, State.v_setV_same]

/-- It leaves the last one of another rail. -/
theorem State.estLast_estTake_ne (s : State) (c : Nat) {r q : Nat} (h : q ≠ r) (k mw : Nat) :
    (s.estTake c r k mw).v .estLast c q = s.v .estLast c q := by
  unfold State.estTake
  split
  · rfl
  · dsimp only
    rw [State.v_setV_var _ _ _ _ _ _ _ _ (by decide), State.v_setV_var _ _ _ _ _ _ _ _ (by decide)]
    exact State.v_setV_ne _ _ _ _ _ _ _ _ fun he => h (congrArg Key.j he)

/-- The sum that a slot's last report brings about leaves what its children reported last. -/
theorem State.estLast_slotSum_if (s : State) (b : Bool) (d k c r : Nat) :
    (if b then s.slotSum d k else s).v .estLast c r = s.v .estLast c r := by
  rw [State.v_ite, State.v_slotSum _ _ (by decide), ite_self]

/-- A domain that sums a slot has summed it. -/
theorem State.estSlotAt_slotSum (s : State) (d k : Nat) : (s.slotSum d k).v .estSlotAt d (k % 16) = (k + 1 : Nat) := by
  unfold State.slotSum
  extract_lets z
  have hz : z.v .estSlotAt d (k % 16) = (k + 1 : Nat) := State.v_setV_same ..
  split
  · rw [State.v_estFrames (by decide), State.v_pkgFast _ (by decide), State.v_hubSlotEst _ (by decide), hz]
  · rw [State.v_nodeSlot _ _ (by decide), hz]

/-- At the hub, or at a node engine out of reset, a slot whose reports are no longer waited for is summed where it was not. -/
theorem exec_estimateSlotTimeout {s : State} {t d slot : Nat}
    (hd : d = hubDom ∧ s.hubUp = true ∨ s.hasDom d = true ∧ isLeaf d = false ∧ s.v .islHeld d = 0)
    (ht : 64 * (slot + s.leafDepth d + 2) ≤ max s.time t) :
    exec (.estimateSlotTimeout t d slot) s = .next (if s.slotSent d slot then s.start t
      else ((s.start t).when (isNode d) fun s => s.incSat F.NODE_STATUS_STALE_EST (s.estMissing d slot) (domNum d)).slotSum d slot) := by
  have hover : (s.start t).estOver d slot = true := Nat.ble_eq.mpr ht
  refine congrArg Host.Outcome.next (if_pos ?_)
  obtain ⟨rfl, hu⟩ | ⟨hdom, hleaf, hheld⟩ := hd
  · simp [hu, hover]
  · simp [hdom, hleaf, hheld, hover]

/-- A slot that closes at a leaf counts once in the interval in which it starts. -/
theorem State.estSlots_leafSlot (s : State) (l k : Nat) (acts : List Act) :
    (s.leafSlot l k acts).v .estSlots l (64 * k / 1000) = s.v .estSlots l (64 * k / 1000) + 1 := by
  unfold State.leafSlot
  extract_lets bs rails j w a b c d e
  have ha : a.v .estSlots l j = s.v .estSlots l j := State.v_when_keeps fun _ => rfl
  have hb : b.v .estSlots l j = a.v .estSlots l j := by
    refine State.v_each _ _ _ _ _ _ fun u rk _ => ?_
    dsimp only
    rw [State.v_each _ _ _ _ _ _ fun _ _ _ => State.v_addV_var _ _ _ _ _ _ _ _ (by decide),
      State.v_addV_var _ _ _ _ _ _ _ _ (by decide), State.v_addV_var _ _ _ _ _ _ _ _ (by decide), State.v_wr]
    exact State.v_when_keeps fun _ => rfl
  calc _ = c.v .estSlots l j := by
        rw [State.v_each _ _ _ _ _ _ fun _ _ _ => State.v_thetaAdopt _ _ (by decide), State.v_sendEst _ _ _ (by decide), State.v_wr]
    _ = _ := by rw [State.v_addV_same, hb, ha]

/-- It shows its number. -/
theorem State.slot_leafSlot (s : State) (l k : Nat) (acts : List Act) :
    (s.leafSlot l k acts).rd F.LEAF_EST_STATUS_SLOT l = k % 2 ^ F.LEAF_EST_STATUS_SLOT.w := by
  unfold State.leafSlot
  extract_lets bs rails j w a b c d e
  rw [State.rd_each _ _ _ _ _ _ fun _ _ _ => State.rd_thetaAdopt _ _ (by decide), State.rd_sendEst _ _ _ (by decide)]
  exact State.rd_wr_same _ _ _ _ _ (by decide)

theorem State.thetaWrite_hi (s : State) (l k w : Nat) :
    s.thetaWrite l k true w = (s.setV .estThHi w l k).setV .estThNew 1 l k := rfl

theorem State.thetaWrite_lo (s : State) (l k w : Nat) :
    s.thetaWrite l k false w = (s.setV .estThLo w l k).setV .estThLoNew 1 l k := rfl

/-- A leaf of the image that is out of reset takes a word of theta and answers OK. -/
theorem exec_leafThetaWrite {s : State} {l : Nat} (hl : s.leaves.contains l = true) (hheld : s.v .islHeld (leafDom l) = 0) (t k : Nat)
    (hi : Bool) (w : Nat) : exec (.leafThetaWrite t l k hi w) s
      = .next (((s.start t).thetaWrite l (k % 4) hi (w % 2 ^ 64)).emit (.status (leafDom l) .ok)) :=
  congrArg Host.Outcome.next (if_pos (Bool.and_eq_true_iff.mpr ⟨hl, decide_eq_true hheld⟩))

/-- Settles O26: by what a report, a sum and a slot leave of the variables of the estimates. -/
theorem estimatesOfASlot : Obligations.EstimatesOfASlot := by
  refine ⟨?both, ?first, ?timeout, ?closes, ?thetaHi, ?thetaLo⟩
  case both =>
    intro s t tag ra rb slot ea eb c e hdel hc hb
    refine answers_upMsg hdel hc rfl ⟨?_, fun ha hab => ?_⟩
    · rw [State.estLast_slotSum_if, State.estLast_estTake_same _ _ hb]
    · rw [State.estLast_slotSum_if, State.estLast_estTake_ne _ _ hab, State.estLast_estTake_same _ _ ha]
  case first =>
    intro s t tag ra rb slot ea eb c e hdel hc ha hb
    refine answers_upMsg hdel hc rfl ?_
    rw [State.estLast_slotSum_if, hb, State.estTake_none, State.estLast_estTake_same _ _ ha]
  case timeout =>
    intro s t d slot hd ht
    refine ⟨_, exec_estimateSlotTimeout hd ht, ?_⟩
    split
    · next hs => exact of_decide_eq_true hs
    · exact State.estSlotAt_slotSum ..
  case closes =>
    intro s t l slot reps removed hrun hnext ht
    refine ⟨_, congrArg Host.Outcome.next (if_pos ?_), ?_, ?_, ?_⟩
    · simp [hrun, hnext, ht]
    · rw [State.v_periodSlot _ _ _ (by decide), State.v_convAccum _ _ _ (by decide), State.estSlots_leafSlot,
        State.v_setV_var _ _ _ _ _ _ _ _ (by decide), State.v_cntRemoved _ _ _ (by decide), State.v_cntActs _ _ (by decide),
        State.v_repMark _ _ (by decide)]
      rfl
    · rw [State.v_periodSlot _ _ _ (by decide), State.v_convAccum _ _ _ (by decide), State.v_leafSlot _ _ _ (by decide),
        State.v_setV_same]
    · rw [State.rd_periodSlot _ _ _ (by decide), State.rd_convAccum _ _ _ (by decide), State.slot_leafSlot]
  case thetaHi =>
    intro s t l k w hl hheld
    refine ⟨_, exec_leafThetaWrite hl hheld t k true w, ?_, ?_⟩
    · rw [State.v_emit, State.thetaWrite_hi, State.v_setV_var _ _ _ _ _ _ _ _ (by decide), State.v_setV_same]
    · rw [State.v_emit, State.thetaWrite_hi, State.v_setV_same]
  case thetaLo =>
    intro s t l k w hl hheld
    refine ⟨_, exec_leafThetaWrite hl hheld t k false w, ?_, ?_⟩
    · rw [State.v_emit, State.thetaWrite_lo, State.v_setV_var _ _ _ _ _ _ _ _ (by decide), State.v_setV_same]
    · rw [State.v_emit, State.thetaWrite_lo, State.v_setV_same]

/-! ### The close of an interval -/

/-- The sums of an interval that is done read as reset. -/
theorem State.estSlots_intervalDone (s : State) (l j : Nat) : (s.intervalDone l j).v .estSlots l j = 0 :=
  State.v_dropV_gone _ _ _ (Nat.ble_eq.mpr (Nat.le_refl j))

/-- A report of no rail, which 0x1F stands for, is none. -/
theorem State.ivTake_none (s : State) (l q p : Nat) : s.ivTake l 0x1F q p = s := if_pos rfl

/-- A report of a rail shows its power. -/
theorem State.ivLast_ivTake_same (s : State) (l : Nat) {r : Nat} (h : r ≠ 0x1F) (q p : Nat) :
    (s.ivTake l r q p).v .ivLast l r = 8 * p := by
  rw [State.ivTake, if_neg h]
  simp (disch := decide) only [State.v_setV_var, State.v_setV_same]

/-- It shows its sequence number. -/
theorem State.ivFresh_ivTake_same (s : State) (l : Nat) {r : Nat} (h : r ≠ 0x1F) (q p : Nat) :
    (s.ivTake l r q p).v .ivFresh l r = (q % 16 + 1 : Nat) := by
  rw [State.ivTake, if_neg h, State.v_setV_same]

/-- It leaves what is known of another rail. -/
theorem State.v_ivTake_ne (s : State) (x : Var) (l : Nat) {r a : Nat} (h : a ≠ r) (q p : Nat) :
    (s.ivTake l r q p).v x l a = s.v x l a := by
  unfold State.ivTake
  split
  · rfl
  · rw [State.v_setV_ne _ _ _ _ _ _ _ _ fun he => h (congrArg Key.j he), State.v_setV_ne _ _ _ _ _ _ _ _ fun he => h (congrArg Key.j he)]

/-- The hub's close of an interval names it. -/
theorem State.hubIv_hubInterval (s : State) (j : Nat) : (s.hubInterval j).v .hubIv = j := by
  unfold State.hubInterval
  extract_lets a b c d e f
  have hb : b.v .hubIv = j := State.v_setV_same ..
  calc _ = f.v .hubIv := State.v_when_keeps fun _ => State.v_countFrames (by decide)
    _ = d.v .hubIv := by
        rw [State.v_vfRun (by decide), State.v_edpRun _ (by decide), State.v_smpWatch _ (by decide), State.v_ctxEnergy _ (by decide),
          State.v_ivCounters (by decide), State.v_addV_var _ _ _ _ _ _ _ _ (by decide)]
    _ = c.v .hubIv := by
        rw [State.v_addV_var _ _ _ _ _ _ _ _ (by decide), State.v_addV_var _ _ _ _ _ _ _ _ (by decide)]
    _ = j := (State.v_when_keeps fun _ => State.v_setV_var _ _ _ _ _ _ _ _ (by decide)).trans hb

/-! ### Group reports -/

/-- A report at the hub of a window that is closed, among the last sixteen, and not yet done joins its group. -/
theorem State.groupHub_open {s : State} {w : Nat} (hd : s.v .kwDone < w) (h1 : 1000000 * w + 1000000 ≤ s.time)
    (h2 : s.time < 1000000 * w + 17000000) (r g n : Nat) (en : Int) :
    s.groupHub r g n (w % 16) en = (s.addV .hgE en (8 * r + g) (w % 16)).addV .hgN n (8 * r + g) (w % 16) := by
  unfold State.groupHub
  extract_lets w1 back
  obtain ⟨hw, hb⟩ : w1 - back = w ∧ back ≤ w1 := by omega
  have hs : w % 16 % 16 = w % 16 := Nat.mod_mod ..
  rw [if_neg (by simp [hw, hb, hd]), hs]

/-- What is zero stays so when any variable is set to zero. -/
theorem State.v_setV_zero {s : State} {y : Var} {a b : Nat} (h : s.v y a b = 0) (x : Var) (i j : Nat) :
    (s.setV x 0 i j).v y a b = 0 := by
  by_cases hk : (⟨y, a, b⟩ : VarKey) = ⟨x, i, j⟩
  · cases hk
    exact State.v_setV_same ..
  · exact (State.v_setV_ne _ _ _ _ _ _ _ _ hk).trans h

/-- A sum that has been sent is empty. -/
theorem State.ngN_grpSend (s : State) (n r g w : Nat) : (s.grpSend n r g w).v .ngN n (8 * r + g) = 0 := by
  unfold State.grpSend
  extract_lets k a b
  rw [State.v_each _ _ _ _ _ _ fun _ _ _ => State.v_setV_var _ _ _ _ _ _ _ _ (by decide), State.v_setV_var _ _ _ _ _ _ _ _ (by decide)]
  exact State.v_setV_zero (State.v_setV_same ..) ..

/-- An empty sum stays so while another is sent. -/
theorem State.ngN_grpSend_keeps {s : State} {n k : Nat} (h : s.v .ngN n k = 0) (r g w : Nat) : (s.grpSend n r g w).v .ngN n k = 0 := by
  unfold State.grpSend
  extract_lets k' a b
  have ha : a.v .ngN n k = 0 := (State.v_sendUp _ _ _ (by decide)).trans h
  rw [State.v_each _ _ _ _ _ _ fun _ _ _ => State.v_setV_var _ _ _ _ _ _ _ _ (by decide), State.v_setV_var _ _ _ _ _ _ _ _ (by decide)]
  exact State.v_setV_zero (State.v_setV_zero ha ..) ..

/-- A sum that was sent for a window stays so while another is sent for it. -/
theorem State.ngSent_grpSend_keeps {s : State} {n k w : Nat} (h : s.v .ngSent n k = (w % 16 + 1 : Nat)) (r g : Nat) :
    (s.grpSend n r g w).v .ngSent n k = (w % 16 + 1 : Nat) := by
  unfold State.grpSend
  extract_lets k' a b
  rw [State.v_each _ _ _ _ _ _ fun _ _ _ => State.v_setV_var _ _ _ _ _ _ _ _ (by decide), State.v_setV_if]
  split
  · rfl
  · rw [State.v_setV_var _ _ _ _ _ _ _ _ (by decide), State.v_setV_var _ _ _ _ _ _ _ _ (by decide), State.v_sendUp _ _ _ (by decide), h]

/-! ### KNEAD -/

theorem State.railNums_congr {s u : State} (h : u.part .image = s.part .image) : u.railNums = s.railNums := by
  have ha : u.img.active = s.img.active := congrArg Prod.fst h
  rw [State.railNums, State.rails, ha]
  rfl

/-- The end of a window clears the measurement sums of every rail of the image. -/
theorem State.v_kneadClear_rail (s : State) {r : Nat} (hr : r ∈ s.railNums) (w : Nat) {x : Var} (hx : x = .kwM ∨ x = .kwN) :
    (s.kneadClear w).v x r (w % 16) = 0 := by
  unfold State.kneadClear
  extract_lets q a
  have hgroups {u : State} (y : Nat) (h : u.v x r q = 0) :
      (u.each idx8 fun u g => (u.setV .hgE 0 (8 * y + g) q).setV .hgN 0 (8 * y + g) q).v x r q = 0 :=
    State.each_keeps (P := fun u => u.v x r q = 0) h fun _ _ _ h => State.v_setV_zero (State.v_setV_zero h ..) ..
  have hrails : a.v x r q = 0 := by
    refine State.each_sets (P := fun u => u.v x r q = 0) hr
      (fun u => hgroups r (State.v_setV_zero (State.v_setV_zero ?sums ..) ..))
      fun u y _ hu => hgroups y (State.v_setV_zero (State.v_setV_zero (State.v_setV_zero (State.v_setV_zero hu ..) ..) ..) ..)
    obtain rfl | rfl := hx
    · exact State.v_setV_zero (State.v_setV_same ..) ..
    · exact State.v_setV_same ..
  have hdone : x ≠ .kwDone := by rintro rfl; simp at hx
  rw [State.v_setV_var _ _ _ _ _ _ _ _ hdone]
  exact State.v_setV_zero hrails ..

/-- It clears the mark of the package state, and names the window. -/
theorem State.kwPkg_kneadClear (s : State) (w : Nat) : (s.kneadClear w).v .kwPkg 0 (w % 16) = 0 :=
  (State.v_setV_var _ _ _ _ _ _ _ _ (by decide)).trans (State.v_setV_same ..)

theorem State.kwDone_kneadClear (s : State) (w : Nat) : (s.kneadClear w).v .kwDone = w := State.v_setV_same ..

/-- The close of a window at the hub, where KNEAD does not run or its pass is due, comes to the end of the window; the end of a pass
leaves the variables of the windows. -/
theorem exec_kneadWindowClose {s : State} {t w : Nat} (hu : s.hubUp = true) (hd : s.v .kwDone < w)
    (ht : 1000000 * w + 1000000 ≤ max s.time t) (hk : s.pkg < Pkg.run ∨ s.img.active = none ∨ (s.start t).bgDue 3 = true) :
    ∃ z u : State, exec (.kneadWindowClose t w) s = .next u ∧ z.railNums = s.railNums
      ∧ ∀ x i j, Foot.bgEnd.hasV x = false → u.v x i j = (z.kneadClear w).v x i j := by
  have h : exec (.kneadWindowClose t w) s = .next _ := congrArg Host.Outcome.next (if_pos (by simp [hu, hd, ht]))
  by_cases hrun : (Nat.ble Pkg.run s.pkg && s.img.active.isSome) = true
  · have hdue : (s.start t).bgDue 3 = true := by
      obtain hp | ha | hb := hk
      · simp [Nat.not_le.mpr hp] at hrun
      · simp [ha] at hrun
      · exact hb
    refine ⟨_, _, h.trans (congrArg Host.Outcome.next ((if_pos hrun).trans (if_pos hdue))), State.railNums_congr ?_,
      fun _ _ _ hx => State.v_bgEnd _ hx⟩
    rw [State.part_each _ _ _ _ fun u r _ => ?_, State.part_bgStart _ (by decide), State.part_start]
    rw [State.part_ite, State.part_kneadRail _ _ (by decide), ite_self]
  · exact ⟨s.start t, _, h.trans (congrArg Host.Outcome.next (if_neg hrun)), rfl, fun _ _ _ _ => rfl⟩

/-! ### KNEAD_RESET -/

/-- A command of one of several command registers of a name, whose operation comes to a status and a state. -/
theorem answers_commandAt {s v : State} {t i : Nat} {p : Port} {r : Reg} {op : State → Status × State} {c : Instr} {st : Status}
    {Q : State → Prop} (hp : Takes s p) (he : exec c s = .next ((s.start t).command p r op i)) (ho : op (s.start t) = (st, v))
    (hq : Q (v.answer p r st i)) : Answers c s fun u => Told p st 0 u ∧ Q u := by
  refine ⟨_, he, ?_⟩
  rw [State.command_takes hp, ho]
  exact ⟨told_answer .., hq⟩

section
variable {s : State} {r : Nat}

theorem State.kneadRst_absent (h : (s.rail? r).isSome = false) : s.kneadRst r = (.eAbsent, s) := by
  unfold State.kneadRst
  extract_lets w
  exact if_pos (by simpa using h)

theorem State.kneadRst_running (hr : (s.rail? r).isSome = true) (h1 : s.pkg ≠ Pkg.hold) (h2 : s.pkg ≠ Pkg.tripped)
    (h3 : s.pkg ≠ Pkg.fail) : s.kneadRst r = (.eRange, s) := by
  unfold State.kneadRst
  extract_lets w
  rw [if_neg (by simpa [Option.isSome_iff_ne_none] using hr), if_neg (by simp [h1, h2, h3])]

/-- In HOLD, TRIPPED and FAIL a rail of the image is reset, and shows no update. -/
theorem State.kneadRst_resets (hr : (s.rail? r).isSome = true) (hp : s.pkg = Pkg.hold ∨ s.pkg = Pkg.tripped ∨ s.pkg = Pkg.fail) :
    ∃ v, s.kneadRst r = (.ok, v) ∧ v.rd F.RAIL_KNEAD_UPDATES r = 0 := by
  unfold State.kneadRst
  extract_lets w z
  rw [if_neg (by simpa [Option.isSome_iff_ne_none] using hr), if_pos (by simpa [or_assoc] using hp)]
  refine ⟨_, rfl, ?_⟩
  rw [State.rd_kneadTouch _ _ (by decide), State.rd_thetaSend _ (by decide)]
  exact State.rd_wr_same _ _ _ _ _ (by decide)

end

/-- KNEAD_RESET is answered with the status of its reset, and sets FREEZE where the reset is done. -/
theorem answers_kneadReset {s v : State} {t r : Nat} {p : Port} {fr : Bool} {st : Status} {Q : State → Prop} (hp : Takes s p)
    (hv : (s.start t).kneadRst r = (st, v))
    (hq : Q ((if st = .ok then v.wr F.RAIL_KNEAD_FREEZE (b2n fr) r else s.start t).answer p .RAIL_KNEAD st r)) :
    Answers (.kneadReset t p r fr) s fun u => Told p st 0 u ∧ Q u := by
  refine answers_commandAt hp rfl ?_ hq
  dsimp only
  rw [hv]
  by_cases h : st = .ok
  · simp [h]
  · simp [h]

/-- Settles O27: by what the closes, the reports and the end of a window leave of their variables, and what KNEAD's reset comes to in
each package state. -/
theorem intervalsAndGroups : Obligations.IntervalsAndGroups := by
  refine ⟨?interval, ?report, ?group, ?timeout, ?applied, ?hub, ?window, ?resets, ?running, ?absent⟩
  case interval =>
    intro s t l j hrun hnext ht
    refine ⟨_, congrArg Host.Outcome.next (if_pos ?_), ?_, ?_⟩
    · simp [hrun, hnext, ht]
    · rw [State.v_when_keeps fun _ => State.v_leafGroupsReport _ _ (by decide), State.v_convert _ (by decide),
        State.v_leakUpdate _ (by decide), State.estSlots_intervalDone]
    · rw [State.v_when_keeps fun _ => State.v_leafGroupsReport _ _ (by decide), State.v_convert _ (by decide),
        State.v_leakUpdate _ (by decide), State.v_intervalDone _ _ (by decide),
        State.v_when_keeps fun _ => State.v_leafInterval _ _ (by decide), State.v_setV_same]
  case report =>
    intro s t tag leaf ra rb seq pa pb c e hdel hc hd ha hba
    refine answers_upMsg hdel hc rfl ?_
    rw [if_pos hd]
    refine ⟨?_, ?_, fun hb => ?_⟩
    · rw [State.v_ivTake_ne _ _ _ hba.symm, State.ivLast_ivTake_same _ _ ha]
    · rw [State.v_ivTake_ne _ _ _ hba.symm, State.ivFresh_ivTake_same _ _ ha]
    · rw [State.ivLast_ivTake_same _ _ hb]
  case group =>
    intro s t tag nleaf rail g w c en e hdel hc hd hdone h1 h2
    refine answers_upMsg hdel hc rfl ?_
    have h := State.groupHub_open (s := s.start t) hdone h1 h2 (rail % 32) (g % 8) (nleaf % 1024) en
    rw [if_pos hd, h]
    refine ⟨?_, ?_⟩
    · rw [State.v_addV_var _ _ _ _ _ _ _ _ (by decide), State.v_addV_same, State.v_start]
    · rw [State.v_addV_same, State.v_addV_var _ _ _ _ _ _ _ _ (by decide), State.v_start]
  case timeout =>
    intro s t n w hdom hheld ht
    refine ⟨_, congrArg Host.Outcome.next (if_pos ?_), fun k hk => ?_⟩
    · simp [hdom, hheld, ht]
    · refine State.each_sets (P := fun u => u.v .ngN n k = 0 ∨ u.v .ngSent n k = (w % 16 + 1 : Nat)) (List.mem_range.mpr hk)
        (fun u => ?_) fun u y _ hu => ?_
      · split
        · next h => simpa using h
        · have h := u.ngN_grpSend n (k / 8) (k % 8) w
          rw [Nat.div_add_mod] at h
          exact .inl h
      · split
        · exact hu
        · exact hu.imp (State.ngN_grpSend_keeps · ..) (State.ngSent_grpSend_keeps · ..)
  case applied =>
    intro s t tag dom loop cls rail amt c r e hdel hc hr hh
    refine answers_upMsg hdel hc rfl ?_
    have hr' : (s.start t).loop? (loop % 512) = some r := hr
    rw [hr']
    dsimp only
    rw [if_pos hh]
    exact (State.v_loopOvr _ (by decide)).trans (State.v_setV_same ..)
  case hub =>
    intro s t j hu ha hj ht
    refine ⟨_, congrArg Host.Outcome.next (if_pos ?_), State.hubIv_hubInterval ..⟩
    simp [hu, ha, hj, ht]
  case window =>
    intro s t w hu hd ht hk
    obtain ⟨z, u, h, hz, hv⟩ := exec_kneadWindowClose hu hd ht hk
    refine ⟨u, h, ?_, ?_, fun r hr => ⟨?_, ?_⟩⟩
    · exact (hv _ _ _ (by decide)).trans (z.kwDone_kneadClear w)
    · exact (hv _ _ _ (by decide)).trans (z.kwPkg_kneadClear w)
    · exact (hv _ _ _ (by decide)).trans (z.v_kneadClear_rail (hz ▸ hr) w (.inr rfl))
    · exact (hv _ _ _ (by decide)).trans (z.v_kneadClear_rail (hz ▸ hr) w (.inl rfl))
  case resets =>
    intro s t r p fr hp hr hs
    obtain ⟨v, hv, h0⟩ := State.kneadRst_resets (s := s.start t) hr hs
    refine answers_kneadReset hp hv ⟨?_, ?_⟩
    · rw [if_pos rfl, State.rd_answer _ _ _ _ _ (by decide), State.rd_wr_apart _ _ _ _ _ _ _ _ (by decide) (by decide), h0]
    · rw [if_pos rfl, State.rd_answer _ _ _ _ _ (by decide), State.rd_wr_same _ _ _ _ _ (by decide)]
      cases fr <;> rfl
  case running =>
    intro s t r p fr hp hr h1 h2 h3
    exact answers_kneadReset hp (State.kneadRst_running (s := s.start t) hr h1 h2 h3) (frame_answer ..)
  case absent =>
    intro s t r p fr hp hr
    exact answers_kneadReset hp (State.kneadRst_absent (s := s.start t) hr) (frame_answer ..)

end Sys2Proof.Machine

/-!
PROOFS. The governor loops (spec/05_governor_engine.md R163, R168 to R170, R600): what a tick shows and counts, what the commands of
LOOP_CTRL come to at a loop, and how one leaves the hub for the node engine that hosts the loop.
-/
namespace Sys2Proof.Machine

/-! ### A tick -/

/-- A field that shares no bit with a counter reads as before the counter moved. -/
theorem State.rd_incSat_apart (s : State) (f g : Fld) (d i j a b : Nat) (h : f.lsb + f.w ≤ 64)
    (hd : g.lsb + g.w ≤ f.lsb ∨ f.lsb + f.w ≤ g.lsb) : (s.incSat f d i j).rd g a b = s.rd g a b :=
  s.rd_wr_apart f g _ i j a b h hd

section
variable {s : State} {l : Nat} {r : LoopRec}

/-- Arming leaves a loop that is armed and whose engine runs. -/
theorem State.loopArm_of_armed (hs : s.engineStands l = false) (hn : 0 ≤ s.v .lpNom l) : s.loopArm l = s := by
  unfold State.loopArm
  rw [if_neg (by simp [hs]), if_pos hn]

/-- A tick that may start counts itself and shows how late it is, whether or not it gives up ticks that it is too late for (05 R170,
R171). -/
theorem State.rd_loopTick_due (hr : s.loop? l = some r) (hs : s.engineStands l = false) (hn : 0 ≤ s.v .lpNom l)
    (hd : s.tickDue l = true) (hw : s.tickWaits l = false) :
    (s.loopTick l).rd F.LOOP_COUNT_TICKS l = (s.rd F.LOOP_COUNT_TICKS l + 1) % 2 ^ F.LOOP_COUNT_TICKS.w
      ∧ (s.loopTick l).rd F.LOOP_LATE_LATE l = min 0xFFFF_FFFF (s.time - s.vn .lpNom l) := by
  unfold State.loopTick
  rw [if_neg (by simp [hr, hs]), State.loopArm_of_armed hs hn]
  extract_lets armed nom p a late shown most ticked counted framed due slip told slips engSlips missed
  have harm : armed = s := rfl
  rw [if_neg (by simp [harm, hd, hw])]
  have hcount : framed.rd F.LOOP_COUNT_TICKS l = (s.rd F.LOOP_COUNT_TICKS l + 1) % 2 ^ F.LOOP_COUNT_TICKS.w := by
    have hticked : ticked.rd F.LOOP_COUNT_TICKS l = s.rd F.LOOP_COUNT_TICKS l := by
      simp (disch := decide) only [ticked, most, shown, armed, State.rd_ite, State.rd_closedTick, State.rd_openTick, State.rd_wr_reg,
        ite_self]
    have hcounted : counted.rd F.LOOP_COUNT_TICKS l = (ticked.rd F.LOOP_COUNT_TICKS l + 1) % 2 ^ F.LOOP_COUNT_TICKS.w :=
      State.rd_wr_same _ _ _ _ _ (by decide)
    rw [State.rd_loopFrame _ (by decide), hcounted, hticked]
  have hlate : framed.rd F.LOOP_LATE_LATE l = min 0xFFFF_FFFF late := by
    have hshown : shown.rd F.LOOP_LATE_LATE l = min 0xFFFF_FFFF late :=
      (State.rd_wr_same _ _ _ _ _ (by decide)).trans (Nat.mod_eq_of_lt (by simp only; omega))
    simp (disch := decide) only [framed, counted, ticked, most, State.incWrap, State.rd_loopFrame, State.rd_wr_reg, State.rd_ite,
      State.rd_closedTick, State.rd_openTick, State.rd_wr_apart, ite_self, hshown]
  split
  · have hmissed {f : Fld} (hf : f = F.LOOP_COUNT_TICKS ∨ f = F.LOOP_LATE_LATE) : missed.rd f l = framed.rd f l := by
      obtain rfl | rfl := hf <;> simp (disch := decide) only [missed, engSlips, slips, told, slip, State.rd_incSat_apart,
        State.rd_evFrom, State.rd_flag_reg]
    exact ⟨(hmissed (.inl rfl)).trans hcount, (hmissed (.inr rfl)).trans hlate⟩
  · exact ⟨hcount, hlate⟩

/-! ### The commands of LOOP_CTRL at a loop -/

/-- A loop that can be reached is one of the image. -/
theorem State.isSome_of_loopReach (h : s.loopReach l = true) : (s.loop? l).isSome = true := by
  unfold State.loopReach at h
  split at h
  · cases h
  · next hr => rw [hr]; rfl

/-- A loop that the hub hosts can be reached. -/
theorem State.loopReach_of_hub (hr : s.loop? l = some r) (hh : r.host = hubDom) : s.loopReach l = true := by
  simp [State.loopReach, hr, hh]

theorem State.loopOp_absent (h : s.loopReach l = false) (cmd : Nat) : s.loopOp l cmd = (.eAbsent, s) := if_neg (by simp [h])

/-- OPEN of a loop that can be reached is OK, and leaves it OPEN. -/
theorem State.loopOp_open (h : s.loopReach l = true) : ∃ v, s.loopOp l 1 = (.ok, v) ∧ v.rd F.LOOP_CTRL_STATE l = 0 := by
  refine ⟨_, (if_pos h).trans (if_neg (by simpa [Option.isSome_iff_ne_none] using State.isSome_of_loopReach h)), ?_⟩
  split
  · next h0 => exact h0
  · exact (State.rd_wr_reg _ _ _ _ _ _ _ _ (by decide)).trans (State.rd_wr_same _ _ _ _ _ (by decide))

/-- CLOSE of an OPEN loop is OK in RUN, and closes it. -/
theorem State.loopOp_close_run (h : s.loopReach l = true) (h0 : s.loopSt l = 0) (hp : s.pkg = Pkg.run) :
    s.loopOp l 2 = (.ok, s.loopClose l) := by
  have hr := Option.isSome_iff_ne_none.mp (State.isSome_of_loopReach h)
  simp [State.loopOp, h, State.loopCmd, hr, h0, hp]

/-- Outside RUN, and outside SLEEP for a loop that runs there, it is out of range. -/
theorem State.loopOp_close_refused (h : s.loopReach l = true) (h0 : s.loopSt l = 0) (hp : s.pkg ≠ Pkg.run)
    (hs : s.pkg ≠ Pkg.sleep ∨ s.is F.LOOP_CTRL_SLEEP_RUN l = false) : s.loopOp l 2 = (.eRange, s) := by
  have hr := Option.isSome_iff_ne_none.mp (State.isSome_of_loopReach h)
  have hn : ¬ (s.pkg = Pkg.sleep ∧ s.is F.LOOP_CTRL_SLEEP_RUN l = true) := fun h => hs.elim (· h.1) (by simp [h.2])
  simp [State.loopOp, h, State.loopCmd, hr, h0, hp, hn]

/-- An OPEN loop that closes is CLOSING under a loader hold, else CLOSED. -/
theorem State.rd_loopClose_open (h : s.loopSt l = 0) :
    (s.loopClose l).rd F.LOOP_CTRL_STATE l = if s.is F.LOOP_CTRL_LDR_HOLD l then 1 else 2 := by
  unfold State.loopClose
  rw [if_neg (by simp [h]), State.rd_ite, State.rd_wr_same _ _ _ _ _ (by decide), State.rd_wr_same _ _ _ _ _ (by decide)]
  rfl

/-! ### The commands of LOOP_CTRL at the hub -/

/-- A command that is not OK for the loop, or whose loop the hub hosts, is the hub's own. -/
theorem State.loopCtrl_own {cmd : Nat} (p : Port) (h : (∃ r, s.loop? l = some r ∧ r.host = hubDom) ∨ (s.loopOp l cmd).1 ≠ .ok) :
    s.loopCtrl p l cmd = s.command p .LOOP_CTRL (fun s => s.loopOp l cmd) l := by
  unfold State.loopCtrl
  extract_lets d
  refine if_pos ?_
  obtain ⟨r, hr, hh⟩ | hop := h
  · simp [d, hr, hh]
  · simp [hop]

/-- A command that is OK for a loop of a node engine leaves for it, where the way to it is open (03 R89, R99). -/
theorem State.loopCtrl_sent {p : Port} {c cmd : Nat} {v : State} (hp : Takes s p) (hr : s.loop? l = some r) (hh : r.host ≠ hubDom)
    (hop : s.loopOp l cmd = (.ok, v)) (hc : s.hop hubDom r.host = some c) (hsend : s.canSend (s.parentEnd c) Mt.cmdReq = true) :
    s.loopCtrl p l cmd = s.cmdForward (s.parentEnd c)
      { dest := r.host, reqid := s.freeReqid (s.parentEnd c), op := 3, off := regAddr .LOOP_CTRL l } (BitVec.ofNat 64 (16 * cmd)).toNat
      (.copy (some p) (regAddr .LOOP_CTRL l) (BitVec.ofNat 64 (16 * cmd)) true []) := by
  obtain ⟨hu, hpriv⟩ := hp
  unfold State.loopCtrl State.hubCmd
  simp [hr, hh, hu, hpriv, hop, hc, hsend]

/-- A write that is sent enters its end's pending table. -/
theorem State.pend_cmdForward {e : ChEnd} (h : s.pendFull e = false) (q : CmdReq) (data : Nat) (src : CmdSrc) :
    (s.cmdForward e q data src).chan.pend = s.chan.pend ++ [⟨e, q, s.time, src⟩] := by
  unfold State.cmdForward State.cmdSend
  rw [if_neg (by simp [h])]
  dsimp only
  split
  · rfl
  · rfl

end

/-- A command of LOOP_CTRL that the hub does itself, whose operation comes to a status and a state. -/
theorem answers_loopCtrl {s v : State} {t l cmd : Nat} {p : Port} {c : Instr} {st : Status} {Q : State → Prop} (hp : Takes s p)
    (he : exec c s = .next ((s.start t).loopCtrl p l cmd)) (ho : (s.start t).loopOp l cmd = (st, v))
    (hown : (∃ r, s.loop? l = some r ∧ r.host = hubDom) ∨ st ≠ .ok) (hq : Q (v.answer p .LOOP_CTRL st l)) :
    Answers c s fun u => Told p st 0 u ∧ Q u :=
  answers_commandAt hp (he.trans (congrArg _ (State.loopCtrl_own p (hown.imp_right fun h => by rwa [ho])))) ho hq

/-- Settles O28: by what a tick reads, what a command comes to at a loop, and whether the hub does it or sends it on. -/
theorem loopsTickAndObey : Obligations.LoopsTickAndObey := by
  refine ⟨?tick, ?opens, ?closes, ?sent, ?refused, ?closeAbsent, ?openAbsent⟩
  case tick =>
    intro s t l r hr hs hheld hn hd hw
    refine ⟨_, congrArg Host.Outcome.next (if_neg (by exact hheld ▸ Bool.false_ne_true)), ?_⟩
    have hdue : (s.start t).tickDue l = true := by simp [State.tickDue, hn, hd, -Nat.cast_max]
    obtain ⟨hticks, hlate⟩ := State.rd_loopTick_due (s := s.start t) hr hs hn hdue hw
    exact ⟨(State.rd_leaseCheck (by decide)).trans hticks, (State.rd_leaseCheck (by decide)).trans hlate⟩
  case opens =>
    intro s t l p r hp hr hh
    obtain ⟨v, hv, h0⟩ := State.loopOp_open (s := s.start t) (State.loopReach_of_hub hr hh)
    refine answers_loopCtrl hp rfl hv (.inl ⟨r, hr, hh⟩) ?_
    rwa [State.rd_answer _ _ _ _ _ (by decide)]
  case closes =>
    intro s t l p r hp hr hh h0 hrun
    have hop := State.loopOp_close_run (s := s.start t) (State.loopReach_of_hub hr hh) h0 hrun
    refine answers_loopCtrl hp rfl hop (.inl ⟨r, hr, hh⟩) ?_
    rw [State.rd_answer _ _ _ _ _ (by decide)]
    exact State.rd_loopClose_open (s := s.start t) h0
  case sent =>
    intro s t l c p r hp hr hh hreach hc hsend hfull
    obtain ⟨v, hv, -⟩ := State.loopOp_open (s := s.start t) hreach
    refine ⟨_, congrArg Host.Outcome.next (State.loopCtrl_sent (s := s.start t) hp hr hh hv hc hsend), ?_, ?_⟩
    · exact State.pend_cmdForward (s := s.start t) hfull ..
    · exact State.rd_cmdForward _ _ _ _ (by decide)
  case refused =>
    intro s t l p hp hreach h0 hrun hsleep
    have hop := State.loopOp_close_refused (s := s.start t) hreach h0 hrun hsleep
    exact answers_loopCtrl hp rfl hop (.inr (by decide)) (frame_answer ..)
  case closeAbsent =>
    intro s t l p hp hreach
    exact answers_loopCtrl hp rfl (State.loopOp_absent (s := s.start t) hreach 2) (.inr (by decide)) (frame_answer ..)
  case openAbsent =>
    intro s t l p hp hreach
    exact answers_loopCtrl hp rfl (State.loopOp_absent (s := s.start t) hreach 1) (.inr (by decide)) (frame_answer ..)

end Sys2Proof.Machine

/-!
PROOFS. The gates of a leaf (06 R190, R195, R196; 09 R263): what the account of engine cycles keeps, FAULT and REST of a sub-gate, the
split that it leaves and comes back to, and the settings that a credit window takes.
-/
namespace Sys2Proof.Machine

/-! ### What the account of engine cycles keeps -/

/-- The account of engine cycles leaves hub time and the words of the gates, and takes nothing from the times below LEVEL_LIMIT
(06 R201). -/
structure Accounts (s u : State) : Prop where
  time : u.time = s.time
  gate : ∀ i j, u.reg .LEAF_GATE i j = s.reg .LEAF_GATE i j
  held : ∀ i j, s.v .levHeld i j ≤ u.v .levHeld i j

theorem Accounts.refl (s : State) : Accounts s s := ⟨rfl, fun _ _ => rfl, fun _ _ => le_rfl⟩

theorem Accounts.trans {s u w : State} (h : Accounts s u) (k : Accounts u w) : Accounts s w :=
  ⟨k.time.trans h.time, fun i j => (k.gate i j).trans (h.gate i j), fun i j => (h.held i j).trans (k.held i j)⟩

theorem Accounts.when {s u : State} (h : Accounts s u) {c : Bool} {f : State → State} (hf : ∀ x, Accounts x (f x)) :
    Accounts s (u.when c f) := by
  unfold State.when
  split
  · exact h.trans (hf u)
  · exact h

theorem Accounts.each {α : Type} {s u : State} (h : Accounts s u) {l : List α} {op : State → α → State}
    (hop : ∀ x a, Accounts x (op x a)) : Accounts s (u.each l op) :=
  State.each_keeps (P := Accounts s) h fun x a _ hx => hx.trans (hop x a)

theorem accounts_setV (s : State) {x : Var} (hx : Var.levHeld ≠ x) (y : Int) (i j : Nat) : Accounts s (s.setV x y i j) :=
  ⟨rfl, fun _ _ => rfl, fun _ _ => (State.v_setV_var _ _ _ _ _ _ _ _ hx).ge⟩

/-- A count at a leaf takes no time. -/
theorem State.time_cntAdd (s : State) (l cidx ctx n stamp : Nat) : (s.cntAdd l cidx ctx n stamp).time = s.time := by
  unfold State.cntAdd State.when
  split
  · rfl
  · split
    · rfl
    · rfl

theorem accounts_cycCount (s : State) {x : Var} (hx : Var.levHeld ≠ x) (l j n cidx ctx stamp : Nat) :
    Accounts s (s.cycCount x l j n cidx ctx stamp) := by
  unfold State.cycCount
  refine ⟨?_, fun _ _ => ?_, fun _ _ => ?_⟩
  · rw [State.time_cntAdd, State.time_setV]
  · rw [State.reg_cntAdd _ _ _ _ _ (by decide), State.reg_setV]
  · rw [State.v_cntAdd _ _ _ _ _ (by decide), State.v_setV_var _ _ _ _ _ _ _ _ hx]

/-- A time that is added makes none less. -/
theorem accounts_addHeld (s : State) (n i j : Nat) : Accounts s (s.addV .levHeld n i j) := by
  refine ⟨rfl, fun _ _ => rfl, fun a b => ?_⟩
  rw [State.addV, State.v_setV_if]
  split
  · next h => rw [h.1, h.2]; omega
  · exact le_rfl

theorem accounts_effPiece (s : State) (l q upTo : Nat) : Accounts s (s.effPiece l q upTo) := by
  unfold State.effPiece
  extract_lets a n src eff z ctx waited below chosen stalled cycles
  have hz : Accounts s z := (accounts_setV s (by decide) ..).when fun x => accounts_addHeld x ..
  have hwaited : Accounts s waited := hz.when fun x => accounts_cycCount x (by decide) ..
  have hbelow : Accounts s below := hwaited.each fun x k => (Accounts.refl x).when fun x => accounts_cycCount x (by decide) ..
  have hchosen : Accounts s chosen := hbelow.each fun x k => (Accounts.refl x).when fun x => accounts_cycCount x (by decide) ..
  have hstalled : Accounts s stalled := hchosen.trans (accounts_cycCount _ (by decide) ..)
  split
  · exact hz
  · split
    · split
      · exact hstalled.trans ⟨rfl, fun _ _ => State.reg_setReg_reg _ _ _ _ _ _ _ _ (by decide),
          fun _ _ => (State.v_addV_var _ _ _ _ _ _ _ _ (by decide)).ge⟩
      · exact hstalled
    · exact hchosen

theorem accounts_effRun (s : State) (l q fuel : Nat) : Accounts s (s.effRun l q fuel) := by
  induction fuel generalizing s with
  | zero => exact accounts_effPiece ..
  | succ f ih =>
    unfold State.effRun
    extract_lets b
    split
    · exact (accounts_effPiece ..).trans (ih _)
    · exact accounts_effPiece ..

theorem accounts_effAcct (s : State) (l q : Nat) : Accounts s (s.effAcct l q) := by
  unfold State.effAcct
  split
  · exact accounts_effRun ..
  · exact accounts_setV _ (by decide) ..

theorem accounts_leafAcct (s : State) (l : Nat) : Accounts s (s.leafAcct l) :=
  (Accounts.refl s).each fun x q => accounts_effAcct x l q

/-! ### FAULT and REST of a sub-gate -/

/-- What holds of a field of sub-gate A and of the same one of B holds of the sub-gate's. -/
theorem sgF_of {P : Fld → Prop} (q : Nat) {a b : Fld} (ha : P a) (hb : P b) : P (sgF q a b) := by
  unfold sgF
  split
  · exact ha
  · exact hb

/-- FAULT and REST of the gates, bits 53 and up of LEAF_GATE, read as before (06, LEAF_GATE_n). -/
structure KeepsGateFlags (s u : State) : Prop where
  rd : ∀ (f : Fld) (i j : Nat), f.r = .LEAF_GATE → 53 ≤ f.lsb → u.rd f i j = s.rd f i j

namespace KeepsGateFlags
variable {s u w : State}

theorem refl (s : State) : KeepsGateFlags s s := ⟨fun _ _ _ _ _ => rfl⟩

theorem trans (h : KeepsGateFlags s u) (k : KeepsGateFlags u w) : KeepsGateFlags s w :=
  ⟨fun f i j hr hl => (k.rd f i j hr hl).trans (h.rd f i j hr hl)⟩

theorem of_reg (h : ∀ i j, u.reg .LEAF_GATE i j = s.reg .LEAF_GATE i j) : KeepsGateFlags s u :=
  ⟨fun _ i j hr _ => State.rd_congr (hr ▸ h i j)⟩

/-- A write of a field below them. -/
theorem wr (h : KeepsGateFlags s u) {g : Fld} (hg : g.lsb + g.w ≤ 53) (v i j : Nat) : KeepsGateFlags s (u.wr g v i j) :=
  h.trans ⟨fun _ _ _ _ hl => State.rd_wr_apart _ _ _ _ _ _ _ _ (by omega) (.inr (by omega))⟩

/-- A write of a field of another register. -/
theorem wr_reg (h : KeepsGateFlags s u) {g : Fld} (hg : Reg.LEAF_GATE ≠ g.r) (v i j : Nat) : KeepsGateFlags s (u.wr g v i j) :=
  h.trans (of_reg fun _ _ => State.reg_wr_reg _ _ _ _ _ _ _ _ hg)

theorem each {α : Type} (h : KeepsGateFlags s u) {l : List α} {op : State → α → State} (hop : ∀ x a, KeepsGateFlags x (op x a)) :
    KeepsGateFlags s (u.each l op) :=
  State.each_keeps (P := KeepsGateFlags s) h fun x a _ hx => hx.trans (hop x a)

/-- A write of a sub-gate's field below them. -/
theorem wr_sgF (h : KeepsGateFlags s u) (q : Nat) {a b : Fld} (ha : a.lsb + a.w ≤ 53) (hb : b.lsb + b.w ≤ 53) (v i j : Nat) :
    KeepsGateFlags s (u.wr (sgF q a b) v i j) :=
  h.wr (sgF_of (P := fun f => f.lsb + f.w ≤ 53) q ha hb) ..

theorem rd_sgF (h : KeepsGateFlags s u) (q : Nat) {a b : Fld} (ha : a.r = .LEAF_GATE ∧ 53 ≤ a.lsb) (hb : b.r = .LEAF_GATE ∧ 53 ≤ b.lsb)
    (i j : Nat) : u.rd (sgF q a b) i j = s.rd (sgF q a b) i j := by
  obtain ⟨hr, hl⟩ := sgF_of (P := fun f => f.r = .LEAF_GATE ∧ 53 ≤ f.lsb) q ha hb
  exact h.rd _ i j hr hl

theorem sgFault (h : KeepsGateFlags s u) (l q : Nat) : u.sgFault l q = s.sgFault l q :=
  congrArg (Nat.beq · 1) (h.rd_sgF q (by decide) (by decide) ..)

theorem sgRest (h : KeepsGateFlags s u) (l q : Nat) : u.sgRest l q = s.sgRest l q :=
  congrArg (Nat.beq · 1) (h.rd_sgF q (by decide) (by decide) ..)

end KeepsGateFlags

theorem keepsGateFlags_gateEff (s : State) (l q : Nat) : KeepsGateFlags s (s.gateEff l q) := by
  unfold State.gateEff
  extract_lets z
  have hz : KeepsGateFlags s z := .of_reg (accounts_effAcct s l q).gate
  exact (hz.wr_sgF q (by decide) (by decide) ..).wr_sgF q (by decide) (by decide) ..

theorem keepsGateFlags_convert (s : State) (l : Nat) : KeepsGateFlags s (s.convert l) := by
  unfold State.convert
  extract_lets rails a b c cls parts partOf d
  have ha : KeepsGateFlags s a := (KeepsGateFlags.refl s).wr_reg (by decide) ..
  have hb : KeepsGateFlags s b := ha.each fun x rk => (KeepsGateFlags.refl x).wr_reg (by decide) ..
  have hc : KeepsGateFlags s c := hb.wr_reg (by decide) ..
  split
  · exact hc
  · split
    · exact hc.trans (.of_reg fun _ _ => State.reg_coreConvert _ (by decide))
    · refine (hc.each fun x p => (KeepsGateFlags.refl x).wr_reg (by decide) ..).each fun x q => ?_
      refine KeepsGateFlags.wr_sgF (.of_reg fun _ _ => State.reg_each _ _ _ _ _ _ fun y a _ => ?_) q (by decide) (by decide) ..
      rw [State.reg_ite]
      exact ite_self _

/-- The hub takes a leaf's footprint by the words that its gates are to have, and leaves the gates. -/
theorem reg_footTake_gate (s : State) (l i j : Nat) : (s.footTake l).reg .LEAF_GATE i j = s.reg .LEAF_GATE i j := by
  unfold State.footTake
  extract_lets old z subs quarters summed a b
  rw [State.reg_footShow (by decide),
    State.reg_each _ _ _ _ _ _ fun _ _ _ => State.reg_when_keeps fun _ => State.reg_smpSpoil _ (by decide), State.reg_setV]
  exact State.reg_each _ _ _ _ _ _ fun _ _ _ => rfl

/-! ### What a sub-gate shows -/

section
variable (s : State) (l q : Nat)

/-- A flag FAULT that hardware sets is shown. -/
theorem State.sgFault_flag :
    (s.flag (sgF q F.LEAF_GATE_FAULT_A F.LEAF_GATE_FAULT_B) l (sgPort q)).sgFault l q = true :=
  Nat.beq_eq.mpr (State.rd_flag_one _ _ _ _ (sgF_of (P := fun f => f.w = 1) q rfl rfl)
    (sgF_of (P := fun f => f.lsb < 64) q (by decide) (by decide)))

/-- It leaves REST. -/
theorem State.sgRest_flag :
    (s.flag (sgF q F.LEAF_GATE_FAULT_A F.LEAF_GATE_FAULT_B) l (sgPort q)).sgRest l q = s.sgRest l q := by
  refine congrArg (Nat.beq · 1) (State.rd_wr_apart _ _ _ _ _ _ _ _ ?_ ?_)
  all_goals unfold sgF; split <;> decide

/-- REST reads what was written. -/
theorem State.sgRest_wr_rest (b : Bool) :
    (s.wr (sgF q F.LEAF_GATE_REST_A F.LEAF_GATE_REST_B) (b2n b) l (sgPort q)).sgRest l q = b := by
  have h : (s.wr (sgF q F.LEAF_GATE_REST_A F.LEAF_GATE_REST_B) (b2n b) l (sgPort q)).sgRest l q
      = Nat.beq (b2n b % 2 ^ (sgF q F.LEAF_GATE_REST_A F.LEAF_GATE_REST_B).w) 1 :=
    congrArg (Nat.beq · 1) (State.rd_wr_same _ _ _ _ _ (sgF_of (P := fun f => f.lsb + f.w ≤ 64) q (by decide) (by decide)))
  rw [h, sgF_of (P := fun f => f.w = 1) q rfl rfl]
  cases b <;> rfl

/-- A write of REST leaves FAULT. -/
theorem State.sgFault_wr_rest (v : Nat) :
    (s.wr (sgF q F.LEAF_GATE_REST_A F.LEAF_GATE_REST_B) v l (sgPort q)).sgFault l q = s.sgFault l q := by
  refine congrArg (Nat.beq · 1) (State.rd_wr_apart _ _ _ _ _ _ _ _ ?_ ?_)
  all_goals unfold sgF; split <;> decide

/-- FAULT that is cleared is not shown. -/
theorem State.sgFault_wr_zero :
    (s.wr (sgF q F.LEAF_GATE_FAULT_A F.LEAF_GATE_FAULT_B) 0 l (sgPort q)).sgFault l q = false := by
  have h : (s.wr (sgF q F.LEAF_GATE_FAULT_A F.LEAF_GATE_FAULT_B) 0 l (sgPort q)).sgFault l q
      = Nat.beq (0 % 2 ^ (sgF q F.LEAF_GATE_FAULT_A F.LEAF_GATE_FAULT_B).w) 1 :=
    congrArg (Nat.beq · 1) (State.rd_wr_same _ _ _ _ _ (sgF_of (P := fun f => f.lsb + f.w ≤ 64) q (by decide) (by decide)))
  rw [h, Nat.zero_mod]
  rfl

end

/-- A sub-gate whose credit is revoked has no credit, and keeps a debt (09 R265). -/
theorem State.bkt_creditRevoke (s : State) (l q : Nat) : (s.creditRevoke l q).v .bkt l q = min 0 (s.v .bkt l q) :=
  (State.v_issueDrive _ _ (by decide)).trans (State.v_setV_same ..)

/-! ### A fault of a sub-gate (06 R195, R196) -/

/-- FAULT and REST are set, and the rest of REST_FAULT starts where none runs. -/
def State.faultRaised (s : State) (l q : Nat) : State :=
  let s := s.flag (sgF q F.LEAF_GATE_FAULT_A F.LEAF_GATE_FAULT_B) l (sgPort q)
  let s := s.when (!s.sgRest l q) fun s => s.setV .restEnd (s.time + 1000 * s.par Sec.timing 0x0003 idxAll 0 4 200 : Nat) l q
  s.wr (sgF q F.LEAF_GATE_REST_A F.LEAF_GATE_REST_B) 1 l (sgPort q)

/-- What follows: the shares are held, EFF is formed, the credit is revoked, and the flag of the gate goes to the hub. -/
def State.faultActed (s : State) (l q : Nat) : State :=
  let s := s.when (s.v .dropped l q = 0) fun s => s.shareHold l q true
  ((s.gateEff l q).creditRevoke l q).gateFlag l q

/-- A fault at a leaf out of reset comes to a fault of one of its sub-gates: of A where a B that is not enabled is named. -/
theorem exec_gateFault {s : State} {l q x : Nat} (hx : (if Nat.beq (q % 2) 1 && !s.sgEn l q then q - 1 else q) = x)
    (hheld : s.v .islHeld (leafDom l) = 0) (hsub : (s.subGates l).contains x = true) (t : Nat) :
    exec (.gateFault t l q) s = .next (((s.start t).faultRaised l x).faultActed l x) := by
  subst hx
  exact congrArg Host.Outcome.next (if_pos (Bool.and_eq_true_iff.mpr ⟨decide_eq_true hheld, hsub⟩))

section
variable (s : State) (l q : Nat)

theorem State.sgFault_faultRaised : (s.faultRaised l q).sgFault l q = true := by
  unfold State.faultRaised
  extract_lets a b
  have hb : KeepsGateFlags a b := .of_reg fun _ _ => State.reg_when_keeps fun _ => State.reg_setV ..
  rw [State.sgFault_wr_rest, hb.sgFault, State.sgFault_flag]

theorem State.sgRest_faultRaised : (s.faultRaised l q).sgRest l q = true := State.sgRest_wr_rest _ l q true

/-- A rest that runs is not extended (06 R196). -/
theorem State.restEnd_faultRaised : (s.faultRaised l q).v .restEnd l q = if s.sgRest l q then s.v .restEnd l q
    else (s.time + 1000 * s.par Sec.timing 0x0003 idxAll 0 4 200 : Nat) := by
  unfold State.faultRaised State.when
  rw [State.v_wr, State.v_ite, State.sgRest_flag]
  cases s.sgRest l q
  · exact State.v_setV_same ..
  · rfl

theorem State.bkt_faultRaised : (s.faultRaised l q).v .bkt l q = s.v .bkt l q := by
  unfold State.faultRaised
  dsimp only
  rw [State.v_wr, State.v_when_keeps fun _ => State.v_setV_var _ _ _ _ _ _ _ _ (by decide), State.v_flag]

theorem keepsGateFlags_faultActed : KeepsGateFlags s (s.faultActed l q) := by
  unfold State.faultActed
  extract_lets a
  have ha : KeepsGateFlags s a := .of_reg fun _ _ => State.reg_when_keeps fun _ => State.reg_shareHold _ _ _ (by decide)
  refine (ha.trans (keepsGateFlags_gateEff a l q)).trans (.of_reg fun _ _ => ?_)
  rw [State.reg_gateFlag _ _ (by decide), State.reg_creditRevoke _ _ (by decide)]

theorem State.restEnd_faultActed : (s.faultActed l q).v .restEnd l q = s.v .restEnd l q := by
  unfold State.faultActed
  dsimp only
  rw [State.v_gateFlag _ _ (by decide), State.v_creditRevoke _ _ (by decide), State.v_gateEff _ _ (by decide),
    State.v_when_keeps fun _ => State.v_shareHold _ _ _ (by decide)]

theorem State.bkt_faultActed : (s.faultActed l q).v .bkt l q = min 0 (s.v .bkt l q) := by
  unfold State.faultActed
  dsimp only
  rw [State.v_gateFlag _ _ (by decide), State.bkt_creditRevoke, State.v_gateEff _ _ (by decide),
    State.v_when_keeps fun _ => State.v_shareHold _ _ _ (by decide)]

end

/-! ### A sub-gate leaves the split, or comes back to it -/

/-- Whether a sub-gate is dropped is set, its shares are let go, and its leaf converts its budgets again. -/
def State.splitAgain (s : State) (l q : Nat) (dropped : Int) : State :=
  ((s.setV .dropped dropped l q).shareHold l q false).convert l

section
variable (s : State) (l q : Nat) (x : Int)

theorem keepsGateFlags_splitAgain : KeepsGateFlags s (s.splitAgain l q x) := by
  unfold State.splitAgain
  refine .trans (.of_reg fun _ _ => ?_) (keepsGateFlags_convert _ l)
  rw [State.reg_shareHold _ _ _ (by decide), State.reg_setV]

theorem State.dropped_splitAgain : (s.splitAgain l q x).v .dropped l q = x := by
  unfold State.splitAgain
  rw [State.v_convert _ (by decide), State.v_shareHold _ _ _ (by decide), State.v_setV_same]

end

/-- FAULT and REST stay while an event or a flag's change goes up. -/
theorem KeepsGateFlags.evFrom {s u : State} (h : KeepsGateFlags s u) (d code inst detail : Nat) (lvl : Bool) :
    KeepsGateFlags s (u.evFrom d code inst detail lvl) :=
  h.trans (.of_reg fun _ _ => State.reg_evFrom _ _ _ _ _ (by decide))

/-- The end of a rest that runs clears REST, drops the sub-gate and tells the hub (06 R196). -/
theorem exec_restEnd {s : State} {t l q : Nat} (hr : s.sgRest l q = true) (ht : s.vn .restEnd l q ≤ max s.time t) :
    ∃ n, exec (.restEnd t l q) s = .next
      ((((s.start t).wr (sgF q F.LEAF_GATE_REST_A F.LEAF_GATE_REST_B) 0 l (sgPort q)).splitAgain l q 1).evFrom (leafDom l) 0x20 n) :=
  ⟨_, congrArg Host.Outcome.next (if_pos (Bool.and_eq_true_iff.mpr ⟨hr, Nat.ble_eq.mpr ht⟩))⟩

/-! ### FAULT_CLR (06 R196) -/

/-- A FAULT that is cleared takes REST with it, and the sub-gate is back. -/
theorem State.faultClear_clears {s : State} {l q : Nat} (hf : s.sgFault l q = true)
    (hset : getBits (s.justSet .LEAF_GATE l (sgPort q)) (53 + q % 2) 1 = 0) :
    (s.faultClear l q true).sgFault l q = false ∧ (s.faultClear l q true).sgRest l q = false
      ∧ (s.faultClear l q true).v .dropped l q = 0 := by
  unfold State.faultClear
  extract_lets now fault rest back
  rw [if_pos (by simp [hf, now, hset])]
  have hback : KeepsGateFlags rest back := keepsGateFlags_splitAgain ..
  have hend : KeepsGateFlags rest ((back.gateEff l q).gateFlag l q) :=
    (hback.trans (keepsGateFlags_gateEff back l q)).trans (.of_reg fun _ _ => State.reg_gateFlag _ _ (by decide))
  refine ⟨?_, ?_, ?_⟩
  · rw [hend.sgFault, State.sgFault_wr_rest, State.sgFault_wr_zero]
  · rw [hend.sgRest]
    exact State.sgRest_wr_rest _ l q false
  · rw [State.v_gateFlag _ _ (by decide), State.v_gateEff _ _ (by decide)]
    exact State.dropped_splitAgain rest l q 0

/-- While the signal is high, or where FAULT was set at the same stamp, nothing is cleared (00 R21; log entry 149). -/
theorem State.faultClear_stays {s : State} {l q : Nat} {low : Bool}
    (h : low = false ∨ getBits (s.justSet .LEAF_GATE l (sgPort q)) (53 + q % 2) 1 ≠ 0) : s.faultClear l q low = s := by
  unfold State.faultClear
  extract_lets now
  refine if_neg ?_
  obtain rfl | hset := h
  · simp
  · simp [now, hset]

/-- The footprint and NEED that follow a write of FAULT, and its answer (07 R210, R219). -/
def State.gateFollow (s : State) (l : Nat) : State :=
  ((s.footTake l).needRecompute [l] false).emit (.status (leafDom l) .ok)

theorem keepsGateFlags_gateFollow (s : State) (l : Nat) : KeepsGateFlags s (s.gateFollow l) :=
  .of_reg fun i j => (State.reg_needRecompute _ _ (by decide)).trans (reg_footTake_gate s l i j)

theorem State.dropped_gateFollow (s : State) (l i j : Nat) : (s.gateFollow l).v .dropped i j = s.v .dropped i j :=
  (State.v_needRecompute _ _ (by decide)).trans (State.v_footTake _ (by decide))

/-- FAULT_CLR that clears nothing leaves FAULT and REST of every sub-gate, and which ones are dropped. -/
theorem answers_faultClear_stays {s : State} {t l q : Nat} {low : Bool}
    (h : low = false ∨ getBits ((s.start t).justSet .LEAF_GATE l (sgPort q)) (53 + q % 2) 1 ≠ 0) :
    Answers (.faultClear t l q low) s fun u => KeepsGateFlags s u ∧ u.v .dropped l q = s.v .dropped l q := by
  refine ⟨_, rfl, ?_⟩
  dsimp only
  rw [State.faultClear_stays h]
  split
  · exact ⟨.trans (u := s.start t) (.of_reg fun _ _ => rfl) (keepsGateFlags_gateFollow _ l), State.dropped_gateFollow (s.start t) l l q⟩
  · exact ⟨.of_reg fun _ _ => rfl, rfl⟩

/-! ### The settings that a credit window takes -/

theorem State.gates_congr {s u : State} (h : u.part .image = s.part .image) : u.gates = s.gates := by
  have ha : u.img.active = s.img.active := congrArg Prod.fst h
  funext l
  simp only [State.gates, State.portsOf, State.instsOf, State.insts, ha]

/-- A credit window takes the setting that waits at each gate of its leaf (06 R190). -/
theorem State.gatePend_creditWindow {s : State} {l p : Nat} (hp : p ∈ s.gates l) (rows : List (Nat × Nat)) :
    (s.creditWindow l rows).v .gatePend l p = 0 := by
  unfold State.creditWindow
  extract_lets a b c d e
  have hb : b.part .image = s.part .image := by
    rw [State.part_each _ _ _ _ fun _ _ _ => State.part_setV .., State.part_setV, State.part_leafAcct _ (by decide)]
  have hc : c.v .gatePend l p = 0 := by
    refine State.each_sets (P := fun u => u.v .gatePend l p = 0) (State.gates_congr hb ▸ hp) (fun u => State.v_setV_same ..)
      fun u y _ hu => State.v_setV_zero ((State.v_gateTake _ _ (by decide)).trans hu) ..
  rw [State.v_each _ _ _ _ _ _ fun _ _ _ => State.v_creditStart _ _ _ (by decide), State.v_scoreShow _ (by decide),
    State.v_leafEff _ (by decide), State.v_winLatch _ (by decide), State.v_each _ _ _ _ _ _ fun _ _ _ => State.v_scoreRamp _ _ (by decide),
    hc]

/-- Settles O29: by what a fault, its end and FAULT_CLR leave of FAULT, REST and the variables of a sub-gate. -/
theorem gatesOfALeaf : Obligations.GatesOfALeaf := by
  refine ⟨?fault, ?unsplit, ?restEnd, ?clears, ?justSet, ?high, ?window⟩
  case fault =>
    intro s t l q hheld hsub hq
    have hx : (if Nat.beq (q % 2) 1 && !s.sgEn l q then q - 1 else q) = q := if_neg (by
      obtain h | h := hq
      · simp [h]
      · simp [h])
    refine ⟨_, exec_gateFault hx hheld hsub t, ?_, ?_, ?_, ?_⟩
    · rw [(keepsGateFlags_faultActed ..).sgFault, State.sgFault_faultRaised]
    · rw [(keepsGateFlags_faultActed ..).sgRest, State.sgRest_faultRaised]
    · rw [State.bkt_faultActed, State.bkt_faultRaised, State.v_start]
    · rw [State.restEnd_faultActed, State.restEnd_faultRaised]
      rfl
  case unsplit =>
    intro s t l q hheld hsub hodd hen
    have hx : (if Nat.beq (q % 2) 1 && !s.sgEn l q then q - 1 else q) = q - 1 := if_pos (by simp [hodd, hen])
    refine ⟨_, exec_gateFault hx hheld hsub t, ?_, ?_⟩
    · rw [(keepsGateFlags_faultActed ..).sgFault, State.sgFault_faultRaised]
    · rw [(keepsGateFlags_faultActed ..).sgRest, State.sgRest_faultRaised]
  case restEnd =>
    intro s t l q hr ht
    obtain ⟨n, he⟩ := exec_restEnd hr ht
    have hkeep := (keepsGateFlags_splitAgain ((s.start t).wr (sgF q F.LEAF_GATE_REST_A F.LEAF_GATE_REST_B) 0 l (sgPort q)) l q
      1).evFrom (leafDom l) 0x20 n 0 true
    refine ⟨_, he, (hkeep.sgRest l q).trans ?_, (hkeep.sgFault l q).trans ?_, ?_⟩
    · exact State.sgRest_wr_rest (s.start t) l q false
    · exact State.sgFault_wr_rest (s.start t) l q 0
    · rw [State.v_evFrom _ _ _ _ _ (by decide), State.dropped_splitAgain]
  case clears =>
    intro s t l q hl hheld hf hset
    obtain ⟨hfault, hrest, hdrop⟩ := State.faultClear_clears (s := s.start t) hf hset
    refine ⟨_, congrArg Host.Outcome.next (if_pos (Bool.and_eq_true_iff.mpr ⟨hl, decide_eq_true hheld⟩)), ?_, ?_, ?_⟩
    · exact ((keepsGateFlags_gateFollow _ l).sgFault l q).trans hfault
    · exact ((keepsGateFlags_gateFollow _ l).sgRest l q).trans hrest
    · exact (State.dropped_gateFollow _ l l q).trans hdrop
  case justSet =>
    intro s t l q hset
    obtain ⟨u, he, hk, -⟩ := answers_faultClear_stays (.inr hset) (low := true)
    exact ⟨u, he, hk.sgFault l q⟩
  case high =>
    intro s t l q
    obtain ⟨u, he, hk, hd⟩ := answers_faultClear_stays (s := s) (t := t) (l := l) (q := q) (.inl rfl)
    exact ⟨u, he, hk.sgFault l q, hk.sgRest l q, hd⟩
  case window =>
    intro s t l rows
    exact ⟨_, rfl, fun p hp => State.gatePend_creditWindow (s := s.start t) hp rows⟩

end Sys2Proof.Machine

/-!
PROOFS. Budgets and modes (06 R177, R180, R200, R201): a GRANT that is held, a NEED that reaches the split words of its parent, a
request of a package mode, and the end of a LEVEL window.
-/
namespace Sys2Proof.Machine

/-! ### GRANT and NEED -/

/-- A message that travels only downward, whose reserved field is as it must be, is taken at the end of its parent channel. -/
theorem answers_downMsg {s : State} {t tag : Nat} {e : ChEnd} {f : Nat → State → State} {c : Instr} {Q : State → Prop}
    (h : s.delivers e tag = true) (hp : endIsParent e = false) (he : exec c s = .next ((s.start t).downMsg e tag false f))
    (hq : Q (f (endDom e) (s.start t))) : Answers c s Q := by
  refine answers_delivered h he ?_
  rwa [if_neg (by simp [hp])]

theorem isLeaf_leafDom (n : Nat) : isLeaf (leafDom n) = true :=
  Nat.ble_eq.mpr (Nat.le_add_right ..)

/-- The budget that a leaf is set stands there with its amount. -/
theorem State.mem_grants_budgetSet (s : State) {d : Nat} (hd : isLeaf d = true) (cls rail : Nat) (loop a : Option Nat) :
    { dom := d, cls := cls, rail := rail, loop := loop, amt := a } ∈ (s.budgetSet d cls rail loop a).grants := by
  unfold State.budgetSet
  extract_lets old z y new x
  rw [if_pos hd]
  have hx : x.part .grants = z.part .grants := by
    have hy : y.part .grants = z.part .grants := State.part_budgetShow _ (by decide)
    rw [← hy]
    simp only [x, State.when]
    rw [State.part_ite, State.part_appliedOut _ _ _ (by decide), ite_self]
  have h : (x.convert (domNum d)).grants = z.grants := congrArg Prod.fst ((State.part_convert _ (by decide)).trans hx)
  rw [h]
  exact List.mem_append_right _ List.mem_cons_self

theorem State.when_pos {s : State} {c : Bool} {f : State → State} (h : c = true) : s.when c f = f s := if_pos h

/-- A GRANT at its leaf stands, and the leaf knows that it has one of its class. -/
theorem State.grantAt_leaf (s : State) {d : Nat} (hd : isLeaf d = true) (cls rail : Nat) (loop a : Option Nat) :
    { dom := d, cls := cls, rail := rail, loop := loop, amt := a } ∈ (s.grantAt d cls rail loop a).grants
      ∧ (cls = 0 → (s.grantAt d cls rail loop a).v .gotAvg (domNum d) = 1)
      ∧ (cls = 1 → (s.grantAt d cls rail loop a).v .gotFast (domNum d) = 1) := by
  unfold State.grantAt
  rw [if_pos hd]
  extract_lets n avg fast heard thawed
  have hset {u : State} {x : Var} {c : Prop} [Decidable c] (h : c) : (u.when c fun u => u.setV x 1 n).v x n = 1 := by
    rw [State.when_pos (decide_eq_true h), State.v_setV_same]
  have hthawed {x : Var} (h1 : x ≠ .safeSil) (h2 : x ≠ .leafFrozen) (h3 : x ≠ .safeHold) : thawed.v x n = fast.v x n := by
    calc thawed.v x n = heard.v x n := State.v_when_keeps fun _ => by
          rw [State.v_setV_var _ _ _ _ _ _ _ _ h3, State.v_setV_var _ _ _ _ _ _ _ _ h2]
      _ = fast.v x n := State.v_when_keeps fun _ => State.v_setV_var _ _ _ _ _ _ _ _ h1
  refine ⟨?_, fun h => ?_, fun h => ?_⟩
  · have hg : ((thawed.budgetSet d cls rail loop a).leafEff n).grants = (thawed.budgetSet d cls rail loop a).grants :=
      congrArg Prod.fst (State.part_leafEff (pa := .grants) _ (by decide))
    rw [hg]
    exact State.mem_grants_budgetSet _ hd ..
  · rw [State.v_leafEff _ (by decide), State.v_budgetSet _ _ _ _ _ (by decide), hthawed (by decide) (by decide) (by decide),
      State.v_when_keeps fun _ => State.v_setV_var _ _ _ _ _ _ _ _ (by decide), hset h]
  · rw [State.v_leafEff _ (by decide), State.v_budgetSet _ _ _ _ _ (by decide), hthawed (by decide) (by decide) (by decide),
      hset h]

/-! ### What a split leaves of NEED -/

/-- The split words that show the grants are not those of NEED (06 R206). -/
theorem State.reg_spW_grants (s : State) (d k : Nat) {f : Fld} (hf : f.r = .HUB_SPLIT_C) (v i j : Nat) :
    (s.spW d k f v).reg .NODE_SPLIT_A i j = s.reg .NODE_SPLIT_A i j := by
  unfold State.spW splitKey
  by_cases hd : d = hubDom
  · rw [if_pos hd]
    exact State.reg_wr_reg _ _ _ _ _ _ _ _ (by rw [hf]; decide)
  · rw [if_neg hd, hf]
    exact State.reg_wr_reg _ _ _ _ _ _ _ _ Reg.noConfusion

/-- A GRANT that is sent is shown beside NEED, in another word. -/
theorem State.reg_grantSend_need (s : State) (d child k cls rail : Nat) (a : Option Nat) (i j : Nat) :
    (s.grantSend d child k cls rail a).reg .NODE_SPLIT_A i j = s.reg .NODE_SPLIT_A i j := by
  unfold State.grantSend
  extract_lets g z y x
  have hspW {f : Fld} (hf : f.r = .HUB_SPLIT_C) (v : Nat) : (z.spW d k f v).reg .NODE_SPLIT_A i j = z.reg .NODE_SPLIT_A i j :=
    State.reg_spW_grants z d k hf v i j
  have hy : y.reg .NODE_SPLIT_A i j = z.reg .NODE_SPLIT_A i j := by
    simp only [y, State.reg_ite, hspW (f := F.HUB_SPLIT_C_GRANT_AVG) rfl, hspW (f := F.HUB_SPLIT_C_GRANT_FAST) rfl, ite_self]
  calc _ = x.reg .NODE_SPLIT_A i j := State.reg_sendDown _ _ _ (by decide)
    _ = y.reg .NODE_SPLIT_A i j := State.reg_frame _ _ _ _ _ _ (by decide)
    _ = s.reg .NODE_SPLIT_A i j := hy

theorem State.reg_grantsOut_need (s : State) (d cls rail : Nat) (l : List (Nat × Nat × Option Nat)) (i j : Nat) :
    (s.grantsOut d cls rail l).reg .NODE_SPLIT_A i j = s.reg .NODE_SPLIT_A i j :=
  State.reg_each _ _ _ _ _ _ fun _ _ _ => State.reg_grantSend_need ..

theorem State.reg_split_need (s : State) (d cls rail i j : Nat) :
    (s.split d cls rail).reg .NODE_SPLIT_A i j = s.reg .NODE_SPLIT_A i j := by
  unfold State.split
  split
  · rfl
  · split
    · exact State.reg_grantsOut_need ..
    · split
      · exact State.reg_grantsOut_need ..
      · extract_lets cs l
        split
        rw [State.reg_grantsOut_need, State.reg_when_keeps fun u => ?surplus, State.reg_when_keeps fun u => ?short]
        case surplus =>
          split
          · exact State.reg_wr_reg _ _ _ _ _ _ _ _ (by decide)
          · exact State.reg_wr_reg _ _ _ _ _ _ _ _ (by decide)
        case short =>
          rw [State.reg_evFrom _ _ _ _ _ (by decide)]
          split
          · exact State.reg_wr_reg _ _ _ _ _ _ _ _ (by decide)
          · exact State.reg_wr_reg _ _ _ _ _ _ _ _ (by decide)

theorem State.reg_splitAll_need (s : State) (d i j : Nat) : (s.splitAll d).reg .NODE_SPLIT_A i j = s.reg .NODE_SPLIT_A i j := by
  unfold State.splitAll
  rw [State.reg_each _ _ _ _ _ _ fun _ _ _ => State.reg_split_need .., State.reg_split_need, State.reg_split_need]

/-- A NEED at its node engine is shown for its child. -/
theorem State.rd_need_needAt (s : State) {n : Nat} (hn : n < 64) (k need weight : Nat) :
    (s.needAt (nodeDom n) k need weight).rd F.NODE_SPLIT_A_NEED n k = need % 2 ^ 32 := by
  have hnum : domNum (nodeDom n) = n := by
    unfold domNum nodeDom
    omega
  have hspW (u : State) (f : Fld) (hf : f.r = .HUB_SPLIT_A) (v : Nat) :
      u.spW (nodeDom n) k f v = u.wr { f with r := .NODE_SPLIT_A } v n k := by
    simp only [State.spW, splitKey, if_neg (nodeDom_ne_hubDom n), hf, hnum]
  unfold State.needAt
  rw [State.rd_congr (State.reg_splitAll_need ..), hspW _ _ rfl, State.rd_wr_apart _ _ _ _ _ _ _ _ (by decide) (by decide), hspW _ _ rfl]
  exact State.rd_wr_same _ F.NODE_SPLIT_A_NEED _ _ _ (by decide)

/-! ### The end of a LEVEL window -/

theorem State.leaves_congr {s u : State} (h : u.part .image = s.part .image) : u.leaves = s.leaves := by
  have ha : u.img.active = s.img.active := congrArg Prod.fst h
  simp only [State.leaves, State.tree, ha]

theorem State.subGates_congr {s u : State} (h : u.part .image = s.part .image) : u.subGates = s.subGates := by
  funext l
  simp only [State.subGates, State.gates_congr h]

/-- A variable that is zero, its reset value, stays so when any variable is dropped. -/
theorem State.v_dropV_zero {s : State} {y : Var} {a b : Nat} (hd : y.dflt = 0) (h : s.v y a b = 0) (x : Var) (i : Nat) (sel : Nat → Bool) :
    (s.dropV x i sel).v y a b = 0 := by
  by_cases hs : (decide (y = x) && Nat.beq a i && sel b) = true
  · exact (KMap.get_filter_gone _ _ _ _ fun _ => by simp [hs]).trans hd
  · exact (KMap.get_filter_keep _ _ _ _ fun _ => by rw [Bool.not_eq_true _ |>.mp hs]; rfl).trans h

/-- What the work for one member of a list sets up where an invariant holds, and the work for each keeps, holds after the run over
the list. -/
theorem State.each_sets_of {α : Type} {I P : State → Prop} {s : State} {l : List α} {op : State → α → State} {x : α} (hx : x ∈ l)
    (hI : I s) (hinv : ∀ u y, I u → I (op u y)) (hset : ∀ u, I u → P (op u x)) (hop : ∀ u y, I u → P u → P (op u y)) :
    P (s.each l op) := by
  obtain ⟨a, b, rfl⟩ := List.append_of_mem hx
  rw [State.each, List.foldl_append, List.foldl_cons]
  have ha : I (s.each a op) := State.each_keeps hI fun u y _ => hinv u y
  exact (State.each_keeps (P := fun u => I u ∧ P u) ⟨hinv _ _ ha, hset _ ha⟩ fun u y _ hu => ⟨hinv u y hu.1, hop u y hu.1 hu.2⟩).2

/-- Another variable reads as before. -/
theorem State.v_dropV_var (s : State) {x y : Var} (h : y ≠ x) (i : Nat) (sel : Nat → Bool) (a b : Nat) :
    (s.dropV x i sel).v y a b = s.v y a b :=
  KMap.get_filter_keep _ _ _ _ fun _ => by simp [h]

/-- Every leaf forgets the times of the windows that have ended, and the granted credits of those before the last one. -/
def State.levelDrop (s : State) : State :=
  s.each s.leaves fun s l =>
    (s.dropV .levHeld l fun x => Nat.blt (x / 64) (s.time / 10000000)).dropV .levCred l fun x => Nat.blt (x / 64 + 1) (s.time / 10000000)

/-- Whether a sub-gate was held too long in one of the windows that have ended. -/
def State.levelMissed (s : State) : Bool :=
  let ws := (List.range (s.time / 10000000)).filter fun (n : Nat) => decide (s.v .levAt ≤ (n : Int))
  s.leaves.any fun l => (s.subGates l).any fun q => ws.any fun (n : Nat) => decide (100000 < s.v .levHeld l (q + 64 * n))

/-- The end of a LEVEL window, once the cycles are accounted (06 R201). -/
def State.levelEnd (s : State) (w : Int) : State :=
  let u := (s.setV .levAt w).levelDrop
  if u.mode = 1 && s.levelMissed then (u.flag F.HUB_CAPS_LEVEL_MISS).event 0x1C 0 else u

/-- The cycles of every leaf are accounted. -/
def State.allAcct (s : State) : State := s.each s.leaves fun s l => s.leafAcct l

/-- A LEVEL window that has closed at a hub that runs. -/
theorem exec_levelWindow {s : State} {t : Nat} (hu : s.hubUp = true) (hw : s.v .levAt < (max s.time t / 10000000 : Nat)) :
    exec (.levelWindow t) s = .next ((s.start t).allAcct.levelEnd (max s.time t / 10000000 : Nat)) :=
  congrArg Host.Outcome.next (if_pos (Bool.and_eq_true_iff.mpr ⟨hu, decide_eq_true hw⟩))

theorem accounts_allAcct (s : State) : Accounts s s.allAcct := (Accounts.refl s).each accounts_leafAcct

theorem State.part_image_allAcct (s : State) : s.allAcct.part .image = s.part .image :=
  State.part_each _ _ _ _ fun _ _ _ => State.part_leafAcct _ (by decide)

/-- The forgotten times read as zero. -/
theorem State.levHeld_levelDrop {s : State} {l : Nat} (hl : l ∈ s.leaves) {j : Nat} (hj : j / 64 < s.time / 10000000) :
    s.levelDrop.v .levHeld l j = 0 := by
  refine State.each_sets_of (I := fun u => u.time = s.time) (P := fun u => u.v .levHeld l j = 0) hl rfl (fun _ _ h => h)
    (fun u hu => ?_) fun u y _ h => ?_
  · exact State.v_dropV_zero rfl (State.v_dropV_gone _ _ _ (by rw [hu]; exact Nat.blt_eq.mpr hj)) ..
  · exact State.v_dropV_zero rfl (State.v_dropV_zero rfl h ..) ..

theorem State.rd_levelDrop (s : State) (f : Fld) (i j : Nat) : s.levelDrop.rd f i j = s.rd f i j :=
  State.rd_each _ _ _ _ _ _ fun _ _ _ => rfl

theorem State.levAt_levelDrop (s : State) : s.levelDrop.v .levAt = s.v .levAt :=
  State.v_each _ _ _ _ _ _ fun _ _ _ => by rw [State.v_dropV_var _ (by decide), State.v_dropV_var _ (by decide)]

/-- The end of a window goes on to the present one, whatever it finds. -/
theorem State.v_levelEnd (s : State) (w : Int) (x : Var) (i j : Nat) (hx : Foot.event.hasV x = false) :
    (s.levelEnd w).v x i j = (s.setV .levAt w).levelDrop.v x i j := by
  unfold State.levelEnd
  extract_lets u
  rw [State.v_ite, State.v_event _ _ hx, State.v_flag, ite_self]

/-- LEVEL_MISS is set in LEVEL mode where a sub-gate was held too long. -/
theorem State.levelMiss_levelEnd {s : State} (w : Int) (hm : s.mode = 1) (h : s.levelMissed = true) :
    (s.levelEnd w).rd F.HUB_CAPS_LEVEL_MISS = 1 := by
  unfold State.levelEnd
  extract_lets u
  have hu : u.mode = 1 := (State.rd_levelDrop _ F.HUB_MODE_MODE 0 0).trans hm
  rw [if_pos (by simp [hu, h]), State.rd_event _ _ (by decide)]
  exact State.rd_flag_one _ _ _ _ rfl (by decide)

/-- A sub-gate of the image that was held too long in a window that has ended is found. -/
theorem State.levelMissed_of {s : State} {l q n : Nat} (hl : l ∈ s.leaves) (hq : q ∈ s.subGates l) (hn : n < s.time / 10000000)
    (ha : s.v .levAt ≤ (n : Nat)) (hh : 100000 < s.v .levHeld l (q + 64 * n)) : s.levelMissed = true :=
  List.any_eq_true.mpr ⟨l, hl, List.any_eq_true.mpr ⟨q, hq, List.any_eq_true.mpr
    ⟨n, List.mem_filter.mpr ⟨List.mem_range.mpr hn, decide_eq_true ha⟩, decide_eq_true hh⟩⟩⟩

/-! ### A request of a package mode (06 R200) -/

theorem b2n_lt_two (b : Bool) : b2n b < 2 := by
  cases b <;> decide

theorem State.modeReq_hold {s : State} {m : Nat} (hp : s.pkg = Pkg.hold) (hm : m < 3) :
    s.modeReq m = (.ok, (s.wr F.HUB_MODE_REQ m).wr F.HUB_MODE_PENDING (b2n (decide (m ≠ s.mode)))) := by
  have hb : (!Nat.beq m s.mode) = decide (m ≠ s.mode) := Bool.eq_iff_iff.mpr (by simp [← Bool.not_eq_true])
  rw [← hb]
  exact if_neg (by simp [hp, hm])

theorem State.modeReq_refused {s : State} {m : Nat} (h : s.pkg ≠ Pkg.hold ∨ m = 3) : s.modeReq m = (.eRange, s) :=
  if_pos (by
    obtain h | rfl := h
    · simp [h]
    · simp)

/-- Settles O30: by what a GRANT, a NEED, a request and the end of a window leave of the grants, the split words, HUB_MODE and the
times. -/
theorem grantsNeedsAndModes : Obligations.GrantsNeedsAndModes := by
  refine ⟨?grant, ?need, ?request, ?refused, ?window⟩
  case grant =>
    intro s t n tag cls rail dest loop amt hdel hdest
    refine answers_downMsg hdel rfl rfl ?_
    rw [if_pos (show dest % 65536 = endDom (.leaf n) from hdest)]
    exact State.grantAt_leaf _ (isLeaf_leafDom n) ..
  case need =>
    intro s t n tag child weight need hdel hn
    refine answers_downMsg hdel rfl rfl ?_
    rw [if_pos (show nodeDom (n % 64) = endDom (.node n 0) from congrArg nodeDom (Nat.mod_eq_of_lt hn))]
    exact (State.rd_need_needAt _ hn ..).trans (Nat.mod_eq_of_lt (by omega))
  case request =>
    intro s t m p hp hh hm
    have hlt : m % 4 < 3 := by omega
    refine answers_command hp rfl (State.modeReq_hold (s := s.start t) hh hlt) ⟨?_, ?_⟩
    · rw [State.rd_answer _ _ _ _ _ (by decide), State.rd_wr_apart _ _ _ _ _ _ _ _ (by decide) (by decide),
        State.rd_wr_same _ _ _ _ _ (by decide)]
      exact Nat.mod_eq_of_lt (Nat.mod_lt _ (by decide))
    · rw [State.rd_answer _ _ _ _ _ (by decide), State.rd_wr_same _ _ _ _ _ (by decide)]
      exact Nat.mod_eq_of_lt (b2n_lt_two _)
  case refused =>
    intro s t m p hp h
    exact answers_rejected hp rfl (State.modeReq_refused (s := s.start t) h)
  case window =>
    intro s t hu hw
    have hacct := accounts_allAcct (s.start t)
    have himg := (s.start t).part_image_allAcct
    have htime : (s.start t).allAcct.time = max s.time t := hacct.time
    have hleaves {l : Nat} (hl : l ∈ s.leaves) : l ∈ (s.start t).allAcct.leaves := State.leaves_congr himg ▸ hl
    refine ⟨_, exec_levelWindow hu hw, ?_, fun l hl q hq n hn h64 => ?_, fun l hl q hq n hn hm ha hh => ?_⟩
    · rw [State.v_levelEnd _ _ _ _ _ (by decide), State.levAt_levelDrop, State.v_setV_same]
    · rw [State.v_levelEnd _ _ _ _ _ (by decide)]
      refine State.levHeld_levelDrop (s := (s.start t).allAcct.setV _ _) (hleaves hl) ?_
      rw [State.time_setV, htime]
      omega
    · refine State.levelMiss_levelEnd _ ?_ (State.levelMissed_of (hleaves hl) (State.subGates_congr himg ▸ hq) (htime ▸ hn) ?_ ?_)
      · exact (State.rd_each _ _ _ _ _ _ fun _ _ _ => State.rd_leafAcct _ (by decide)).trans hm
      · exact (State.v_each _ _ _ _ _ _ fun _ _ _ => State.v_leafAcct _ (by decide)).trans_le ha
      · exact hh.trans_le (hacct.held ..)

end Sys2Proof.Machine

/-!
PROOFS. The operations of the synchronization unit (spec/08_sync_unit.md R228 to R239, R246, R252): what an operation that a port asks
for comes to where the unit takes it at once, and what each leaves of its object where nothing waits for the object.
-/
namespace Sys2Proof.Machine

/-! ### What an operation sends -/

/-- Replace what the present operation sends. -/
def State.setCur (s : State) (l : List SyncOut) : State := { s with sync := { s.sync with cur := l } }

theorem State.setCur_self {s : State} {l : List SyncOut} (h : s.sync.cur = l) : s.setCur l = s := by
  subst h
  rfl

theorem State.syncPut_eq (s : State) (x : SyncOut) : s.syncPut x = s.setCur (s.sync.cur ++ [x]) := rfl

theorem State.syncDrain_nil {s : State} (h : s.sync.cur = []) (n : Nat) : s.syncDrain n = s := by
  cases n with
  | zero => rfl
  | succ n => simp only [State.syncDrain, h]

theorem State.syncDrain_cons {s : State} {x : SyncOut} {r : List SyncOut} (h : s.sync.cur = x :: r) (n : Nat) :
    s.syncDrain (n + 1) = ((s.setCur r).syncSend x).syncDrain n := by
  simp only [State.syncDrain, h]
  rfl

/-- With no mirror what an operation has gathered is sent at once (08 R246). -/
theorem State.syncFlush_drain {s : State} (h : s.mirrorOn = false) : s.syncFlush = s.syncDrain 262144 := by
  unfold State.syncFlush
  split
  · next hc => exact (State.syncDrain_nil (List.isEmpty_iff.mp hc) _).symm
  · exact if_neg (by simp [h])

/-- A status that is sent last leaves nothing to send. -/
theorem State.syncDrain_ans {s : State} {p : Port} {a : Nat} {st : Status} (h : s.sync.cur = [.ans p a st]) (n : Nat) :
    s.syncDrain (n + 1) = (s.setCur []).answerD p a true st 0 := by
  rw [State.syncDrain_cons h, State.syncDrain_nil]
  · rfl
  · cases p <;> simp only [State.syncSend, State.answerD] <;> split <;> rfl

/-- Work that sends nothing and leaves the roles of the two hubs (16 R476). -/
structure Silent (s u : State) : Prop where
  cur : u.sync.cur = s.sync.cur
  roles : u.reg .MIR_STATUS = s.reg .MIR_STATUS

theorem Does.silent {g : Foot} {s u : State} (h : Does g s u) (hc : g.hasP .cur = false) (hm : g.hasR .MIR_STATUS = false) : Silent s u :=
  ⟨h.parts .cur hc, h.reg hm 0 0⟩

theorem Silent.trans {s u w : State} (h : Silent s u) (k : Silent u w) : Silent s w := ⟨k.cur.trans h.cur, k.roles.trans h.roles⟩

theorem Silent.wr {s u : State} (h : Silent s u) {f : Fld} (hf : .MIR_STATUS ≠ f.r) (v i j : Nat) : Silent s (u.wr f v i j) :=
  h.trans ⟨rfl, State.reg_wr_reg _ _ _ _ _ _ _ _ hf⟩

theorem Silent.mirrorOn {s u : State} (h : Silent s u) : u.mirrorOn = s.mirrorOn := by
  have hrd {f : Fld} (hf : f.r = .MIR_STATUS) : u.rd f = s.rd f := State.rd_congr (hf ▸ h.roles)
  unfold State.mirrorOn State.is
  rw [hrd rfl, hrd rfl, hrd rfl]

/-- An answer OK changes nothing but what the command sends. -/
theorem State.answerD_ok_out (s : State) (p : Port) (a : Nat) (w : Bool) (d : Word) : ∃ l, s.answerD p a w .ok d = { s with out := l } := by
  cases p with
  | reg init priv => exact ⟨_, rfl⟩
  | posted init priv => exact ⟨s.out, rfl⟩
  | fac => exact ⟨_, rfl⟩

/-! ### An operation that the unit takes -/

/-- The operation of a port that the unit takes: its effect, then its answer. -/
theorem State.syncRow_takes {s : State} {p : Port} {pg : Option Nat} {op obj o a0 a1 a2 : Nat} (h : SyncTakes s p pg op obj o a0 a1 a2)
    {t : Nat} {st : Status} {z : State}
    (hz : (s.start t).opEffect op o (a0 % 65536) (a1 % 65536) (a2 % 256) (portWaiter pg op (a0 % 65536) (a2 % 256)) = (st, z)) :
    (s.start t).syncRow (.port p pg) op obj a0 a1 a2 = z.syncAnswer p pg st := by
  obtain ⟨hu, hpriv, hop, hobj, hst, -, -⟩ := h
  have hst' : (s.start t).opStatus false op o (a0 % 65536) (a1 % 65536) (a2 % 256) true
      (portWaiter pg op (a0 % 65536) (a2 % 256)) = .ok := hst
  have h1 : (pg.isNone && !p.priv) = false := by
    cases pg with
    | none => simp [hpriv rfl]
    | some c => rfl
  have h2 : (pg.isSome && (decide (op = 0x10) || decide (op = 0x11))) = false := by
    cases pg with
    | none => rfl
    | some c => simpa using hop (by simp)
  simp only [State.syncRow, State.portOp, State.hubUp_start, State.portObj_start, hu, h1, h2, hobj, hst', hz]
  simp

section
variable {s z : State} {p : Port} {pg : Option Nat} {op obj o a0 a1 a2 t : Nat} {c : Instr} {Q : State → Prop}

/-- An operation that is taken, sends nothing else and is OK: its port is told, and its effect holds. -/
theorem answers_syncOp (h : SyncTakes s p pg op obj o a0 a1 a2) (he : exec c s = .next ((s.start t).syncRow (.port p pg) op obj a0 a1 a2))
    (hz : (s.start t).opEffect op o (a0 % 65536) (a1 % 65536) (a2 % 256) (portWaiter pg op (a0 % 65536) (a2 % 256)) = (.ok, z))
    (hs : Silent (s.start t) z) (hq : ∀ l, Q { z with out := l }) : Answers c s fun u => Told p .ok 0 u ∧ Q u := by
  obtain ⟨-, -, -, -, -, hcur, hm⟩ := id h
  have hc : z.sync.cur = [] := hs.cur.trans hcur
  refine ⟨_, he, ?_⟩
  have hans : z.syncAnswer p pg .ok = z.answerD p (syncAddr pg) true .ok 0 := by
    change (z.syncPut _).syncFlush = _
    rw [State.syncPut_eq, hc, State.syncFlush_drain (by exact hs.mirrorOn.trans hm), State.syncDrain_ans rfl]
    exact congrArg (State.answerD · p _ true .ok 0) (State.setCur_self hc)
  rw [State.syncRow_takes h hz, hans]
  refine ⟨told_answerD_zero .., ?_⟩
  obtain ⟨l, hl⟩ := z.answerD_ok_out p (syncAddr pg) true 0
  rw [hl]
  exact hq l

end

/-! ### Fields, and an object that nothing waits for -/

theorem State.rd_lt (s : State) (f : Fld) (i j : Nat) : s.rd f i j < 2 ^ f.w :=
  BitVec.isLt _

/-- A write of a value that fits reads as that value. -/
theorem State.rd_wr_fits (s : State) (f : Fld) (i j : Nat) {v : Nat} (h : f.lsb + f.w ≤ 64) (hv : v < 2 ^ f.w) :
    (s.wr f v i j).rd f i j = v :=
  (State.rd_wr_same _ _ _ _ _ h).trans (Nat.mod_eq_of_lt hv)

/-- Where nothing waits for an object no watch of it fires. -/
theorem State.fire_idle {s : State} {o : Nat} (h : s.objW o = []) (gen st shape : Nat) (sel : Watch → Bool) :
    s.fire o gen st shape sel = s := by
  have hw : (s.sync.watches.filter fun w => !(Nat.beq w.obj o && sel w)) = s.sync.watches := by
    refine List.filter_eq_self.mpr fun w hm => ?_
    have hn : ¬ Nat.beq w.obj o = true := List.filter_eq_nil_iff.mp h w hm
    simp [Bool.eq_false_of_not_eq_true hn]
  simp only [State.fire, h, List.filter_nil, hw]
  rfl

/-- The watches of an object are in the sync unit. -/
theorem State.objW_congr {s u : State} (h : u.part .sync = s.part .sync) (o : Nat) : u.objW o = s.objW o :=
  congrArg (List.filter fun w : Watch => Nat.beq w.obj o) (congrArg Prod.fst h)

theorem State.semRun_idle {s : State} {o : Nat} (h : s.objW o = []) : s.semRun o = s := by
  simp only [State.semRun, h, State.semServe, List.find?_nil, State.fire_idle h, ite_self]

theorem State.flagServe_idle {s : State} {o : Nat} (h : s.objW o = []) : s.flagServe o = s := by
  simp only [State.flagServe, h, List.find?_nil, ite_self]

theorem State.flagSet_idle {s : State} {o : Nat} (h : s.objW o = []) :
    s.flagSet o = if s.objCount o = 1 then s else (s.wr F.SYNC_OBJ_B_COUNT 1 o).incWrap F.SYNC_OBJ_A_GEN 1 o := by
  simp only [State.flagSet, State.fire_idle h]
  rw [State.flagServe_idle (by exact h)]

/-- Breaking an object that nothing waits for and that is not shaped leaves its trace frame, BROKEN, and no stagger. -/
theorem State.objBreak_idle {s : State} {o : Nat} (h : s.objW o = []) (hs : s.is F.SYNC_OBJ_A_SHAPE_EN o = false) :
    s.objBreak o = (((s.syncFrame 0x0A o 0 Status.eBroken.code).wr F.SYNC_OBJ_A_BROKEN 1 o).setV .spAt (-1) o) := by
  unfold State.objBreak
  extract_lets a b g gens c
  have hb : b.objW o = [] := (State.objW_congr (State.part_syncFrame _ _ _ _ (by decide)) o).trans h
  have hgens : gens = [] := by simp only [gens, hb, List.map_nil, List.eraseDups_nil]
  have hc : c = b := by simp only [c, hgens, State.each, List.foldl_nil]
  have hshape : b.is F.SYNC_OBJ_A_SHAPE_EN o = false := by
    refine (congrArg (Nat.beq · 1) ?_).trans hs
    rw [State.rd_setV, State.rd_wr_apart _ _ _ _ _ _ _ _ (by decide) (by decide), State.rd_syncFrame _ _ _ _ (by decide)]
  rw [hc, State.when, if_neg (by simp [hshape])]
  simp only [b, a, h, List.length_nil]

/-! ### What R236 lets through -/

/-- An operation that is OK so far fits its object, and a broken object allows it only where it is FREE, BREAK or RESET. -/
theorem State.opStatus_ok {s : State} {bad core : Bool} {op o a0 a1 a2 : Nat} {w : Option Waiter}
    (h : s.opStatus bad op o a0 a1 a2 core w = .ok) :
    s.opFits op o a0 a1 a2 = true ∧ (op ≠ 0x09 → op ≠ 0x0A → op ≠ 0x0B → s.is F.SYNC_OBJ_A_BROKEN o = false) := by
  unfold State.opStatus at h
  extract_lets sw at h
  split at h
  · cases h
  · split at h
    · cases h
    · next hf =>
      split at h
      · cases h
      · split at h
        · cases h
        · next hb =>
          simp only [Bool.or_eq_true, not_or, Bool.not_eq_true, Bool.not_eq_false'] at hf
          refine ⟨hf.1.1.2, fun h1 h2 h3 => ?_⟩
          simpa [h1, h2, h3] using hb

section
variable {s : State} {p : Port} {pg : Option Nat} {op obj o a0 a1 a2 : Nat}

theorem State.opFits_of_takes (h : SyncTakes s p pg op obj o a0 a1 a2) : s.opFits op o (a0 % 65536) (a1 % 65536) (a2 % 256) = true := by
  obtain ⟨-, -, -, -, hst, -⟩ := h
  exact (State.opStatus_ok hst).1

theorem State.unbroken_of_takes (h : SyncTakes s p pg op obj o a0 a1 a2) (h1 : op ≠ 0x09) (h2 : op ≠ 0x0A) (h3 : op ≠ 0x0B) :
    s.is F.SYNC_OBJ_A_BROKEN o = false := by
  obtain ⟨-, -, -, -, hst, -⟩ := h
  exact (State.opStatus_ok hst).2 h1 h2 h3

end

/-! ### The effects -/

theorem Silent.refl (s : State) : Silent s s := ⟨rfl, rfl⟩

theorem Silent.setV {s u : State} (h : Silent s u) (x : Var) (y : Int) (i j : Nat) : Silent s (u.setV x y i j) := h.trans ⟨rfl, rfl⟩

/-- The generation, the target and the count of an object that is set up. -/
def State.objFormed (s : State) (o gen target count : Nat) : State :=
  ((s.wr F.SYNC_OBJ_A_GEN gen o).wr F.SYNC_OBJ_A_TARGET target o).wr F.SYNC_OBJ_B_COUNT count o

section
variable (s : State) (o gen target count : Nat)

theorem State.objGen_objFormed : (s.objFormed o gen target count).objGen o = gen % 65536 := by
  simp (disch := decide) only [State.objFormed, State.objGen, State.rd_wr_reg, State.rd_wr_apart, State.rd_wr_same]
  rfl

theorem State.objTarget_objFormed : (s.objFormed o gen target count).objTarget o = target % 65536 := by
  simp (disch := decide) only [State.objFormed, State.objTarget, State.rd_wr_reg, State.rd_wr_same]
  rfl

theorem State.objCount_objFormed : (s.objFormed o gen target count).objCount o = count % 65536 :=
  State.rd_wr_same _ _ _ _ _ (by decide)

theorem State.objType_objFormed : (s.objFormed o gen target count).objType o = s.objType o := by
  simp (disch := decide) only [State.objFormed, State.objType, State.rd_wr_reg, State.rd_wr_apart]

/-- INIT clears the object, sets its type and its owner, and forms it. -/
theorem State.objInit_forms (a0 a1 a2 : Nat) : ∃ x, Silent s x ∧ x.objType o = a2 % 8 ∧ s.objInit o a0 a1 a2 =
    x.objFormed o a1 (if a2 % 8 = 1 ∨ a2 % 8 = 4 then a0 else 0) (if a2 % 8 = 1 ∨ a2 % 8 = 4 then 0 else a0) := by
  unfold State.objInit
  extract_lets typ bar z y x f
  have hy : Silent s y := (((Does.objZero (.refl _ s) (Foot.le_refl _) o).silent (by decide) (by decide)).wr (by decide) ..).wr (by decide) ..
  refine ⟨x, ?_, ?_, ?_⟩
  · simp only [x]
    split
    · exact hy.wr (by decide) ..
    · exact hy.wr (by decide) ..
  · simp only [State.objType, x]
    split <;> simp (disch := decide) [y, typ, State.rd_wr_apart, State.rd_wr_same]
  · simp [f, bar, typ, State.objFormed]

end

/-- An arrival of the present generation that does not complete it (08 R237): COUNT, and the stamps of the first and the last one. -/
def State.arrived (s : State) (o : Nat) : State :=
  ((s.wr F.SYNC_OBJ_B_COUNT (s.objCount o + 1) o).when (s.v .obFirst o = 0) fun u => u.setV .obFirst (s.time + 1) o).setV .obLastA
    (s.time + 1) o

theorem State.objCount_arrived {s : State} {o : Nat} (h : s.objCount o + 1 < 65536) : (s.arrived o).objCount o = s.objCount o + 1 := by
  have hw : (s.wr F.SYNC_OBJ_B_COUNT (s.objCount o + 1) o).objCount o = s.objCount o + 1 := State.rd_wr_fits _ _ _ _ (by decide) h
  rw [← hw]
  unfold State.arrived State.when
  split <;> rfl

theorem State.objTarget_arrived (s : State) (o : Nat) : (s.arrived o).objTarget o = s.objTarget o := by
  have hw : (s.wr F.SYNC_OBJ_B_COUNT (s.objCount o + 1) o).objTarget o = s.objTarget o := State.rd_wr_reg _ _ _ _ _ _ _ _ (by decide)
  rw [← hw]
  unfold State.arrived State.when
  split <;> rfl

theorem silent_arrived (s : State) (o : Nat) : Silent s (s.arrived o) := by
  unfold State.arrived State.when
  split
  · exact (((Silent.refl s).wr (by decide) ..).setV ..).setV ..
  · exact ((Silent.refl s).wr (by decide) ..).setV ..

theorem State.arrive_incomplete {s : State} {o : Nat} (hb : s.is F.SYNC_OBJ_A_BROKEN o = false) (hc : s.objCount o + 1 < s.objTarget o) :
    s.arrive o (s.objGen o) none = (.ok, (s.arrived o).formThat o) := by
  have ht : s.objTarget o < 65536 := State.rd_lt ..
  have hn : ¬ (s.arrived o).objCount o = (s.arrived o).objTarget o := by
    rw [State.objCount_arrived (by omega), State.objTarget_arrived]
    omega
  have hd : (s.objGen o + 65536 - s.objGen o) % 65536 = 0 := by
    rw [Nat.add_sub_cancel_left]
  unfold State.arrive
  rw [hd]
  simp only [hb, State.watchOpt, show ¬ s.objCount o = s.objTarget o by omega, if_true, if_false, Bool.false_eq_true, Bool.not_true]
  exact (if_neg fun h => hn (of_decide_eq_true (Bool.and_eq_true_iff.mp h).1)).trans
    (congrArg (Prod.mk _) (if_neg fun h => hn (of_decide_eq_true h)))

/-- The watch that a waiter is given (08 R239). -/
def State.newWatch (s : State) (o gen i : Nat) (one : Bool) (w : Waiter) : Watch :=
  { idx := i, obj := o, core := w.core, one := one, ctx := (s.slotOf o).getD 0, gen := gen, leaf := w.leaf, wid := w.wid, time := s.time }

theorem State.watchAdd_free {s : State} {i : Nat} {w : Waiter} (h : s.watchFree w.pool = some i) (o gen : Nat) (one : Bool) :
    s.watchAdd o gen one w = (true, s.setWatches (s.sync.watches ++ [s.newWatch o gen i one w])) := by
  unfold State.watchAdd
  rw [h]
  rfl

/-- A wait on a semaphore at 0 is registered, and no watch is served (08 R239, R240). -/
theorem State.waitOp_semZero {s : State} {o i : Nat} {w : Waiter} (hb : s.is F.SYNC_OBJ_A_BROKEN o = false) (ht : s.objType o = 2)
    (hc : s.objCount o = 0) (hi : s.watchFree w.pool = some i) (gen : Nat) (one : Bool) :
    s.waitOp o gen one w = (.ok, s.setWatches (s.sync.watches ++ [s.newWatch o 0 i one w])) := by
  have hbar : s.objBar o = false := by simp [State.objBar, ht]
  unfold State.waitOp
  rw [if_neg (by simp [hb]), if_neg (by simp [hbar]), State.watchAdd_free hi]
  refine (if_neg (by simp)).trans ((if_pos ht).trans (congrArg (Prod.mk _) ?_))
  exact if_pos hc

/-! ### A generation that nothing waits for -/

/-- A generation of an object is over: the next one begins with what has arrived for it (08 R238). -/
def State.turned (s : State) (o g : Nat) : State :=
  let s := (s.wr F.SYNC_OBJ_A_GEN (g + 1) o).wr F.SYNC_OBJ_B_COUNT (s.rd F.SYNC_OBJ_B_NEXT o) o
  let s := (s.wr F.SYNC_OBJ_B_NEXT 0 o).setV .spArr (s.v .spNxt o) o
  let s := ((s.setV .spNxt 0 o).setV .obFirst (s.v .obNFirst o) o).setV .obLastA (s.v .obNLast o) o
  (s.setV .obNFirst 0 o).setV .obNLast 0 o

theorem State.objGen_turned (s : State) (o g : Nat) : (s.turned o g).objGen o = (g + 1) % 65536 := by
  simp (disch := decide) only [State.turned, State.objGen, State.rd_setV, State.rd_wr_reg, State.rd_wr_same]
  rfl

theorem State.objTarget_turned (s : State) (o g : Nat) : (s.turned o g).objTarget o = s.objTarget o := by
  simp (disch := decide) only [State.turned, State.objTarget, State.rd_setV, State.rd_wr_reg, State.rd_wr_apart]

theorem State.objCount_turned (s : State) (o g : Nat) : (s.turned o g).objCount o = s.rd F.SYNC_OBJ_B_NEXT o := by
  simp (disch := decide) only [State.turned, State.objCount, State.rd_setV, State.rd_wr_apart, State.rd_wr_same]
  exact Nat.mod_eq_of_lt (State.rd_lt ..)

theorem silent_turned (s : State) (o g : Nat) : Silent s (s.turned o g) :=
  ⟨rfl, by
    unfold State.turned
    simp (disch := decide) only [State.reg_setV, State.reg_wr_reg]⟩

/-- Work that leaves the words of the sync objects, the watches and the roles of the two hubs, and sends nothing. -/
structure SparesObjects (s u : State) : Prop extends Silent s u where
  regs : ∀ r ∈ [Reg.SYNC_OBJ_A, .SYNC_OBJ_B], ∀ i j, u.reg r i j = s.reg r i j

/-- The completion of a generation that nothing waits for and that carries no phase tag: its trace frame, the PROOF decision and the end
of its requests, the mark that its messages have left, and the next generation (08 R238; 09 R280, R284). -/
theorem State.complete1_idle {s : State} {o : Nat} (h : s.objW o = []) (hp : s.is F.SYNC_OBJ_A_PTAG_EN o = false) (op : Nat) :
    ∃ x, SparesObjects s x ∧ s.complete1 o op = (x.syncPut (.fin o)).turned o (s.objGen o) := by
  obtain ⟨shape, span, b, hb⟩ : ∃ shape span b, (s.syncFrame op o 0 0).proofShape o [] = (shape, span, b) := ⟨_, _, _, rfl⟩
  have hx : b = ((s.syncFrame op o 0 0).proofShape o []).2.2 := (congrArg (·.2.2) hb).symm
  have hreg {r : Reg} (h1 : Foot.syncFrame.hasR r = false) (h2 : Foot.proofShape.hasR r = false) (i j : Nat) : b.reg r i j = s.reg r i j := by
    rw [hx, State.reg_proofShape _ _ h2, State.reg_syncFrame _ _ _ _ h1]
  have hpart {p : Part} (h1 : Foot.syncFrame.hasP p = false) (h2 : Foot.proofShape.hasP p = false) : b.part p = s.part p := by
    rw [hx, State.part_proofShape _ _ h2, State.part_syncFrame _ _ _ _ h1]
  refine ⟨b.riseComplete o (s.objGen o) span, ⟨⟨hpart (p := .cur) (by decide) (by decide), hreg (by decide) (by decide) 0 0⟩,
    fun r hr i j => ?_⟩, ?_⟩
  · fin_cases hr <;> exact hreg (by decide) (by decide) i j
  · have hfire : b.objW o = [] := (State.objW_congr (hpart (by decide) (by decide)) o).trans h
    have hmark : ((b.riseComplete o (s.objGen o) span).syncPut (.fin o)).is F.SYNC_OBJ_A_PTAG_EN o = false :=
      (congrArg (Nat.beq · 1) (State.rd_congr (hreg (by decide) (by decide) o 0))).trans hp
    unfold State.complete1
    simp only [h, List.filter_nil, List.length_nil, hb, State.fire_idle hfire, hmark, Bool.false_eq_true, if_false]
    rfl

section
variable {s : State} {o : Nat}

/-- A barrier that nothing waits for and whose next generation is not complete advances by one generation (08 R238). -/
theorem State.reached_idle (ht : s.objType o ≠ 4) (h : s.objW o = []) (hp : s.is F.SYNC_OBJ_A_PTAG_EN o = false)
    (hn : s.rd F.SYNC_OBJ_B_NEXT o ≠ s.objTarget o) (op : Nat) :
    ∃ x, SparesObjects s x ∧ s.reached o op = (x.syncPut (.fin o)).turned o (s.objGen o) := by
  obtain ⟨x, hx, he⟩ := State.complete1_idle h hp op
  refine ⟨x, hx, ?_⟩
  have hfull : ¬ Nat.beq (((x.syncPut (.fin o)).turned o (s.objGen o)).objCount o)
      (((x.syncPut (.fin o)).turned o (s.objGen o)).objTarget o) = true := by
    rw [State.objCount_turned, State.objTarget_turned, Nat.beq_eq]
    intro e
    exact hn ((State.rd_congr (hx.regs _ (by decide) _ _)).symm.trans (e.trans (State.rd_congr (hx.regs _ (by decide) _ _))))
  unfold State.reached
  rw [if_neg ht, he]
  exact if_neg hfull

/-- An answer that follows the messages of a completed generation writes no register. -/
theorem State.regs_syncAnswer_fin {z : State} (hc : z.sync.cur = [.fin o]) (hm : z.mirrorOn = false) (p : Port) (pg : Option Nat) :
    (z.syncAnswer p pg .ok).regs = z.regs := by
  change ((z.syncPut _).syncFlush).regs = _
  rw [State.syncPut_eq, hc, State.syncFlush_drain (by exact hm)]
  have hd : (z.setCur [.fin o, .ans p (syncAddr pg) .ok]).syncDrain 262144 =
      (((z.setCur [.ans p (syncAddr pg) .ok]).riseSent o).setCur []).answerD p (syncAddr pg) true .ok 0 :=
    (State.syncDrain_cons rfl 262143).trans (State.syncDrain_ans rfl 262142)
  obtain ⟨l, hl⟩ := (((z.setCur [.ans p (syncAddr pg) .ok]).riseSent o).setCur []).answerD_ok_out p (syncAddr pg) true 0
  exact (congrArg State.regs (hd.trans hl)).trans rfl

/-- An object that does not span leaves without a word to the peers (08 R247, R255). -/
theorem State.objLeave_own (ht : s.objType o ≠ 4) :
    s.objLeave o = s.when (s.is F.SYNC_OBJ_A_SHAPE_EN o) fun u => u.shapeCancel o := by
  have h : (s.when (s.is F.SYNC_OBJ_A_SHAPE_EN o) fun u => u.shapeCancel o).objType o = s.objType o := by
    unfold State.when
    split
    · exact State.rd_shapeCancel _ (by decide)
    · rfl
  exact if_neg (by simpa using h ▸ ht)

theorem silent_objLeave (ht : s.objType o ≠ 4) : Silent s (s.objLeave o) := by
  rw [State.objLeave_own ht]
  exact (((Does.refl _ s).when _ _ fun u hu => hu.shapeCancel (Foot.le_refl _) o)).silent (by decide) (by decide)

theorem silent_objZero : Silent s (s.objZero o) := (Does.objZero (.refl _ s) (Foot.le_refl _) o).silent (by decide) (by decide)

theorem silent_objReset (gen : Nat) : Silent s (s.objReset o gen) :=
  (Does.objReset (.refl _ s) (Foot.le_refl _) o gen).silent (by decide) (by decide)

/-- Both words of an object that is freed are 0. -/
theorem State.words_objZero {r : Reg} (h : r = .SYNC_OBJ_A ∨ r = .SYNC_OBJ_B) : (s.objZero o).reg r o = 0 := by
  unfold State.objZero
  extract_lets a b
  rw [State.reg_setV, State.reg_each _ _ _ _ _ _ fun _ _ _ => State.reg_setV .., State.reg_setV]
  obtain rfl | rfl := h
  · rw [State.reg_setReg_reg _ _ _ _ _ _ _ _ (by decide), State.reg_setReg_same]
  · exact State.reg_setReg_same ..

/-- What RESET leaves of an object's fields (08 R235). -/
theorem State.objReset_fields (s : State) (o gen : Nat) : (s.objReset o gen).objGen o = gen % 65536
    ∧ (s.objReset o gen).rd F.SYNC_OBJ_A_BROKEN o = 0 ∧ (s.objReset o gen).objCount o = 0 ∧ (s.objReset o gen).rd F.SYNC_OBJ_B_NEXT o = 0 := by
  unfold State.objReset
  extract_lets a b c
  have hc (f : Fld) : c.rd f o = b.rd f o := State.rd_each _ _ _ _ _ _ fun _ _ _ => rfl
  refine ⟨State.rd_wr_same _ _ _ _ _ (by decide), ?_, ?_, ?_⟩
  · rw [State.rd_wr_apart _ _ _ _ _ _ _ _ (by decide) (by decide), hc]
    simp (disch := decide) only [a, b, State.rd_setV, State.rd_wr_reg, State.rd_wr_apart, State.rd_wr_same, Nat.zero_mod]
  · rw [State.objCount, State.rd_wr_reg _ _ _ _ _ _ _ _ (by decide), hc]
    simp (disch := decide) only [a, b, State.rd_setV, State.rd_wr_apart, State.rd_wr_same, Nat.zero_mod]
  · rw [State.rd_wr_reg _ _ _ _ _ _ _ _ (by decide), hc]
    simp (disch := decide) only [a, b, State.rd_setV, State.rd_wr_same, Nat.zero_mod]

end

theorem State.objGen_regs {s u : State} (h : u.regs = s.regs) (o : Nat) : u.objGen o = s.objGen o := by
  simp only [State.objGen, State.rd, State.reg, h]

theorem State.objCount_regs {s u : State} (h : u.regs = s.regs) (o : Nat) : u.objCount o = s.objCount o := by
  simp only [State.objCount, State.rd, State.reg, h]

/-- The words after an operation whose effect sends the messages of one completed generation and nothing else. -/
theorem State.regs_answer_completed {s x z : State} {p : Port} {pg : Option Nat} {op obj o a0 a1 a2 t : Nat}
    (h : SyncTakes s p pg op obj o a0 a1 a2)
    (hz : (s.start t).opEffect op o (a0 % 65536) (a1 % 65536) (a2 % 256) (portWaiter pg op (a0 % 65536) (a2 % 256)) = (.ok, z))
    (hx : Silent (s.start t) x) (hxz : Silent (x.syncPut (.fin o)) z) :
    ((s.start t).syncRow (.port p pg) op obj a0 a1 a2).regs = z.regs := by
  obtain ⟨-, -, -, -, -, hcur, hm⟩ := id h
  have hput : (x.syncPut (.fin o)).sync.cur = [.fin o] := by
    rw [State.syncPut_eq, hx.cur]
    exact congrArg (· ++ [_]) hcur
  rw [State.syncRow_takes h hz]
  exact State.regs_syncAnswer_fin (hxz.cur.trans hput) (hxz.mirrorOn.trans (hx.mirrorOn.trans hm)) p pg

section
variable {s : State} {p : Port} {pg : Option Nat} {obj o a0 a1 a2 t : Nat}

theorem answers_syncInit (h : SyncTakes s p pg 0x01 obj o a0 a1 a2) :
    Answers (.syncInit t (.port p pg) obj a0 a1 a2) s fun u => Told p .ok 0 u ∧ u.objType o = a2 % 8 ∧ u.objGen o = a1 % 65536
        ∧ u.objTarget o = (if a2 % 8 = 1 ∨ a2 % 8 = 4 then a0 % 65536 else 0) ∧ u.objCount o =
          (if a2 % 8 = 1 ∨ a2 % 8 = 4 then 0 else a0 % 65536) := by
  obtain ⟨x, hx, htype, he⟩ := (s.start t).objInit_forms o (a0 % 65536) (a1 % 65536) (a2 % 256)
  rw [show a2 % 256 % 8 = a2 % 8 by omega] at htype he
  refine answers_syncOp h rfl (congrArg (Prod.mk _) he) (((hx.wr (by decide) ..).wr (by decide) ..).wr (by decide) ..) fun l =>
    ⟨(State.objType_objFormed ..).trans htype, ?_, ?_, ?_⟩
  · exact (State.objGen_objFormed ..).trans (Nat.mod_mod ..)
  · refine (State.objTarget_objFormed ..).trans ?_
    split
    · exact Nat.mod_mod ..
    · rfl
  · refine (State.objCount_objFormed ..).trans ?_
    split
    · rfl
    · exact Nat.mod_mod ..

theorem answers_syncTag (h : SyncTakes s p pg 0x02 obj o a0 a1 a2) :
    Answers (.syncTag t (.port p pg) obj a0 a1 a2) s fun u => Told p .ok 0 u ∧ u.rd F.SYNC_OBJ_A_PTAG_EN o = a0 % 2
        ∧ u.rd F.SYNC_OBJ_A_PTAG_EXIT o = a0 % 65536 / 2 % 2 ∧ u.rd F.SYNC_OBJ_A_PTAG_PHASE o = a2 % 256 := by
  refine answers_syncOp h rfl rfl ((((Silent.refl _).wr (by decide) ..).wr (by decide) ..).wr (by decide) ..) fun l => ⟨?_, ?_, ?_⟩
  · refine (State.rd_wr_apart _ _ _ _ _ _ _ _ (by decide) (by decide)).trans
      ((State.rd_wr_apart _ _ _ _ _ _ _ _ (by decide) (by decide)).trans ((State.rd_wr_same _ _ _ _ _ (by decide)).trans ?_))
    change a0 % 65536 % 2 % 2 = a0 % 2
    omega
  · exact (State.rd_wr_apart _ _ _ _ _ _ _ _ (by decide) (by decide)).trans (State.rd_wr_same _ _ _ _ _ (by decide))
  · exact (State.rd_wr_same _ _ _ _ _ (by decide)).trans (Nat.mod_mod ..)

theorem answers_syncArrive (h : SyncTakes s p pg 0x03 obj o a0 a1 0) (hgen : a1 % 65536 = s.objGen o) (hc : s.objCount o + 1 < s.objTarget o) :
    Answers (.syncArrive t (.port p pg) obj a0 a1 0) s fun u => Told p .ok 0 u ∧ u.objCount o = s.objCount o + 1 := by
  have hb := State.unbroken_of_takes h (by decide) (by decide) (by decide)
  have ht : s.objTarget o < 65536 := State.rd_lt ..
  refine answers_syncOp h rfl (hgen ▸ State.arrive_incomplete (s := s.start t) hb hc) ((silent_arrived _ o).trans
    ((Does.formThat (.refl _ _) (Foot.le_refl _) o).silent (by decide) (by decide))) fun l => ?_
  exact (State.rd_formThat _ (by decide)).trans (State.objCount_arrived (s := s.start t) (show s.objCount o + 1 < 65536 by omega))

theorem answers_syncSignal (h : SyncTakes s p pg 0x04 obj o a0 a1 a2) (hw : s.objW o = []) :
    Answers (.syncSignal t (.port p pg) obj a0 a1 a2) s fun u => Told p .ok 0 u ∧ u.objCount o = s.objCount o + a0 % 65536 := by
  obtain ⟨⟨-, -⟩, hsum⟩ : (s.objType o = 2 ∧ 1 ≤ a0 % 65536) ∧ s.objCount o + a0 % 65536 ≤ 65535 := by
    simpa [State.opFits] using State.opFits_of_takes h
  refine answers_syncOp h rfl (congrArg (Prod.mk _) (State.semRun_idle (by exact hw))) ((Silent.refl _).wr (by decide) ..) fun l => ?_
  exact State.rd_wr_fits _ _ _ _ (by decide) (Nat.lt_succ_of_le hsum)

theorem answers_syncSet (h : SyncTakes s p pg 0x05 obj o a0 a1 a2) (hw : s.objW o = []) :
    Answers (.syncSet t (.port p pg) obj a0 a1 a2) s fun u => Told p .ok 0 u ∧ u.objCount o = 1 := by
  refine answers_syncOp h rfl (congrArg (Prod.mk _) (State.flagSet_idle (by exact hw))) ?_ fun l => ?_
  · split
    · exact .refl _
    · exact ((Silent.refl _).wr (by decide) ..).wr (by decide) ..
  · change (ite _ _ _ : State).objCount o = 1
    split
    · assumption
    · exact (State.rd_wr_reg _ _ _ _ _ _ _ _ (by decide)).trans (State.rd_wr_same _ _ _ _ _ (by decide))

theorem answers_syncClear (h : SyncTakes s p pg 0x06 obj o a0 a1 a2) :
    Answers (.syncClear t (.port p pg) obj a0 a1 a2) s fun u => Told p .ok 0 u ∧ u.objCount o = 0 := by
  exact answers_syncOp h rfl rfl ((Silent.refl _).wr (by decide) ..) fun l => State.rd_wr_same _ _ _ _ _ (by decide)

theorem answers_syncWait {i : Nat} (h : SyncTakes s p pg 0x07 obj o a0 a1 a2) (ht : s.objType o = 2) (hc : s.objCount o = 0)
    (hi : s.watchFree pg = some i) :
    Answers (.syncWait t (.port p pg) obj a0 a1 a2) s fun u => Told p .ok 0 u ∧ u.sync.watches = s.sync.watches ++
        [{ idx := i, obj := o, core := true, one := bitOf (a2 % 256) 5, ctx := (s.slotOf o).getD 0, gen := 0, leaf := a0 % 65536 % 512,
           wid := a0 % 65536 / 512, time := max s.time t }] := by
  have hb := State.unbroken_of_takes h (by decide) (by decide) (by decide)
  exact answers_syncOp h rfl (State.waitOp_semZero (s := s.start t) (w := ⟨true, _, _, pg⟩) hb ht hc hi ..) ⟨rfl, rfl⟩ fun l => rfl

theorem answers_syncCancel (h : SyncTakes s p pg 0x08 obj o a0 a1 a2) :
    Answers (.syncCancel t (.port p pg) obj a0 a1 a2) s fun u => Told p .ok 0 u ∧ ∀ w, w ∈ u.sync.watches ↔
        w ∈ s.sync.watches ∧ ¬ (w.obj = o ∧ w.core = true ∧ w.leaf = a0 % 65536 % 512 ∧ w.wid = a0 % 65536 / 512) := by
  refine answers_syncOp h rfl rfl ⟨rfl, rfl⟩ fun l w => List.mem_filter.trans (and_congr_right fun _ => ?_)
  rw [Bool.not_eq_true', ← Bool.not_eq_true]
  simp only [Bool.and_eq_true, Nat.beq_eq, and_assoc]

theorem answers_syncFree (h : SyncTakes s p pg 0x09 obj o a0 a1 a2) (ht : s.objType o ≠ 4) :
    Answers (.syncFree t (.port p pg) obj a0 a1 a2) s fun u => Told p .ok 0 u ∧ u.reg .SYNC_OBJ_A o = 0 ∧ u.reg .SYNC_OBJ_B o = 0 := by
  obtain ⟨z, hz⟩ : ∃ z, z = ((s.start t).objLeave o).objZero o := ⟨_, rfl⟩
  have hs : Silent (s.start t) z := hz ▸ (silent_objLeave (s := s.start t) ht).trans silent_objZero
  have hwords {r : Reg} (hr : r = .SYNC_OBJ_A ∨ r = .SYNC_OBJ_B) : z.reg r o = 0 := hz ▸ State.words_objZero hr
  exact answers_syncOp h rfl (congrArg (Prod.mk _) hz.symm) hs fun l => ⟨hwords (.inl rfl), hwords (.inr rfl)⟩

theorem answers_syncBreak (h : SyncTakes s p pg 0x0A obj o a0 a1 a2) (hw : s.objW o = []) (ht : s.objType o ≠ 4)
    (hs : s.is F.SYNC_OBJ_A_SHAPE_EN o = false) :
    Answers (.syncBreak t (.port p pg) obj a0 a1 a2) s fun u => Told p .ok 0 u ∧ u.rd F.SYNC_OBJ_A_BROKEN o = 1 := by
  have ht' : ¬ decide ((s.start t).objType o = 4) = true := fun e => ht (of_decide_eq_true e)
  have he (f : State → State) : ((s.start t).objBreak o).when ((s.start t).objType o = 4) f =
      ((((s.start t).syncFrame 0x0A o 0 Status.eBroken.code).wr F.SYNC_OBJ_A_BROKEN 1 o).setV .spAt (-1) o) := by
    rw [State.when, if_neg ht', State.objBreak_idle (s := s.start t) hw hs]
  exact answers_syncOp h rfl (congrArg (Prod.mk _) (he _)) ((((Does.syncFrame (.refl _ _) (Foot.le_refl _) ..).silent (by decide) (by decide)).wr
    (by decide) ..).setV ..) fun l => State.rd_wr_same _ _ _ _ _ (by decide)

theorem answers_syncReset (h : SyncTakes s p pg 0x0B obj o a0 a1 a2) (ht : s.objType o ≠ 4) :
    Answers (.syncReset t (.port p pg) obj a0 a1 a2) s fun u => Told p .ok 0 u ∧ u.objGen o = a1 % 65536 ∧ u.rd F.SYNC_OBJ_A_BROKEN o = 0
        ∧ u.objCount o = 0 ∧ u.rd F.SYNC_OBJ_B_NEXT o = 0 := by
  obtain ⟨hgen, hrest⟩ := State.objReset_fields ((s.start t).objLeave o) o (a1 % 65536)
  exact answers_syncOp h rfl rfl ((silent_objLeave (s := s.start t) ht).trans (silent_objReset _)) fun l =>
    ⟨hgen.trans (Nat.mod_mod ..), hrest⟩

theorem answers_syncForce (h : SyncTakes s p none 0x10 obj o a0 a1 a2) (hw : s.objW o = []) (hp : s.is F.SYNC_OBJ_A_PTAG_EN o = false)
    (hn : s.rd F.SYNC_OBJ_B_NEXT o ≠ s.objTarget o) :
    Answers (.syncForce t (.port p none) obj a0 a1 a2) s fun u =>
      u.objGen o = (s.objGen o + 1) % 65536 ∧ u.objCount o = s.rd F.SYNC_OBJ_B_NEXT o := by
  have ht : s.objType o = 1 := by simpa [State.opFits] using State.opFits_of_takes h
  obtain ⟨x, hx, he⟩ := State.reached_idle (s := s.start t) (o := o) (by simp [ht]) hw hp hn 0x10
  have hu := State.regs_answer_completed h (congrArg (Prod.mk _) he) hx.toSilent (silent_turned ..)
  refine ⟨_, rfl, (State.objGen_regs hu o).trans (State.objGen_turned ..), ?_⟩
  exact (State.objCount_regs hu o).trans ((State.objCount_turned ..).trans (State.rd_congr (hx.regs _ (by decide) _ _)))

theorem answers_syncSetCount (h : SyncTakes s p none 0x11 obj o a0 a1 a2) (ht : s.objType o = 2) (hw : s.objW o = []) :
    Answers (.syncSetCount t (.port p none) obj a0 a1 a2) s fun u => Told p .ok 0 u ∧ u.objCount o = a0 % 65536 := by
  have he : (s.start t).setCount o (a0 % 65536) (a1 % 65536) = (s.start t).wr F.SYNC_OBJ_B_COUNT (a0 % 65536) o :=
    (if_neg (by simp [ht])).trans (State.semRun_idle (by exact hw))
  exact answers_syncOp h rfl (congrArg (Prod.mk _) he) ((Silent.refl _).wr (by decide) ..) fun l =>
    (State.rd_wr_same _ _ _ _ _ (by decide)).trans (Nat.mod_mod ..)

end

/-- Settles O32: by what each operation that is taken comes to, and what its effect leaves of the words and the watches of its object. -/
theorem syncOperations : Obligations.SyncOperations :=
  ⟨fun _ _ _ _ _ _ _ _ _ => answers_syncInit,
    fun _ _ _ _ _ _ _ _ _ => answers_syncTag,
    fun _ _ _ _ _ _ _ _ => answers_syncArrive,
    fun _ _ _ _ _ _ _ _ _ => answers_syncSignal,
    fun _ _ _ _ _ _ _ _ _ => answers_syncSet,
    fun _ _ _ _ _ _ _ _ _ => answers_syncClear,
    fun _ _ _ _ _ _ _ _ _ _ => answers_syncWait,
    fun _ _ _ _ _ _ _ _ _ => answers_syncCancel,
    fun _ _ _ _ _ _ _ _ _ => answers_syncFree,
    fun _ _ _ _ _ _ _ _ _ => answers_syncBreak,
    fun _ _ _ _ _ _ _ _ _ => answers_syncReset,
    fun _ _ _ _ _ _ _ _ => answers_syncForce,
    fun _ _ _ _ _ _ _ _ => answers_syncSetCount⟩

end Sys2Proof.Machine

/-!
PROOFS. Synchronization at the leaves (spec/08_sync_unit.md R232, R243 to R245, R250, R251, R253, R254; 20_integration.md R581): what an
operation of a sub-gate, a message and a write of a leaf's own sync object come to there.
-/
namespace Sys2Proof.Machine

/-! ### What the accounts of a sub-gate send -/

theorem State.out_when {s : State} {c : Bool} {f : State → State} (h : ∀ u, (f u).out = u.out) : (s.when c f).out = s.out := by
  unfold State.when
  split
  · exact h s
  · rfl

theorem State.out_each {α : Type} {s : State} {l : List α} {op : State → α → State} (h : ∀ u x, (op u x).out = u.out) :
    (s.each l op).out = s.out :=
  State.each_keeps (P := fun u => u.out = s.out) rfl fun u x _ hu => (h u x).trans hu

theorem State.out_cntAdd (s : State) (l cidx ctx n stamp : Nat) : (s.cntAdd l cidx ctx n stamp).out = s.out := by
  unfold State.cntAdd
  split
  · rfl
  · exact State.out_when fun _ => rfl

theorem State.out_cycCount (s : State) (x : Var) (l j n cidx ctx stamp : Nat) : (s.cycCount x l j n cidx ctx stamp).out = s.out :=
  State.out_cntAdd ..

theorem State.out_effPiece (s : State) (l q upTo : Nat) : (s.effPiece l q upTo).out = s.out := by
  unfold State.effPiece
  extract_lets a n src eff z ctx waited below chosen stalled cycles
  have hz : z.out = s.out := State.out_when fun _ => rfl
  have hwaited : waited.out = s.out := (State.out_when fun _ => State.out_cycCount ..).trans hz
  have hbelow : below.out = s.out := (State.out_each fun _ _ => State.out_when fun _ => State.out_cycCount ..).trans hwaited
  have hchosen : chosen.out = s.out := (State.out_each fun _ _ => State.out_when fun _ => State.out_cycCount ..).trans hbelow
  have hstalled : stalled.out = s.out := (State.out_cycCount ..).trans hchosen
  split
  · exact hz
  · split
    · split
      · exact hstalled
      · exact hstalled
    · exact hchosen

theorem State.out_effRun (s : State) (l q fuel : Nat) : (s.effRun l q fuel).out = s.out := by
  induction fuel generalizing s with
  | zero => exact State.out_effPiece ..
  | succ f ih =>
    unfold State.effRun
    extract_lets b
    split
    · exact (ih _).trans (State.out_effPiece ..)
    · exact State.out_effPiece ..

/-- The account of a sub-gate's engine cycles sends nothing. -/
theorem State.out_effAcct (s : State) (l q : Nat) : (s.effAcct l q).out = s.out := by
  unfold State.effAcct
  split
  · exact State.out_effRun ..
  · rfl

theorem State.out_waitSet (s : State) (l q : Nat) (value mode : Bool) (ctx lobj gen : Nat) (loc : Bool) :
    (s.waitSet l q value mode ctx lobj gen loc).out = s.out :=
  State.out_effAcct ..

/-- What an island sends comes after what the command has sent before. -/
theorem State.out_sendUp {s : State} {o : Out} (h : o ∈ s.out) (d typ payload : Nat) : o ∈ (s.sendUp d typ payload).out := by
  unfold State.sendUp State.send
  split
  · exact List.mem_append_left _ h
  · split
    · exact h
    · exact h

/-- A sub-gate is given its status (08 R245). -/
theorem State.out_gateRsp (s : State) (l q st : Nat) : (s.gateRsp l q st).out = s.out ++ [.srsp l q st] :=
  State.out_when fun _ => rfl

theorem State.srsp_mem_gateRsp (s : State) (l q st : Nat) : Out.srsp l q st ∈ (s.gateRsp l q st).out := by
  rw [State.out_gateRsp]
  exact List.mem_append_right _ (List.mem_singleton_self _)

/-! ### An operation of a sub-gate that is on its way -/

/-- The word in which a leaf holds an operation that is outstanding shows its SOP, epoch, slot and index (08 R251). -/
theorem State.outOp_of_word {s : State} {l q sop ep c obj : Nat} (hs : sop < 16) (he : ep < 16) (hc : c < 16)
    (h : s.v .sgOut l q = (1 + sop + 16 * ep + 256 * c + 4096 * obj : Nat)) : s.outOp l q = some (sop, ep, c, obj) := by
  have hv : s.vn .sgOut l q = 1 + sop + 16 * ep + 256 * c + 4096 * obj := congrArg Int.toNat h
  unfold State.outOp
  extract_lets v
  have hv' : v = 1 + sop + 16 * ep + 256 * c + 4096 * obj := hv
  rw [if_neg (by omega), hv']
  congr 4 <;> omega

theorem State.leafEpoch_lt (s : State) (l c : Nat) : s.leafEpoch l c < 16 := BitVec.isLt _

section
variable {s : State} {t l q sop obj arg : Nat} {m : Bool}

/-- A sub-gate that is ready has its operation taken (08 R232). -/
theorem State.gateReady (hq : (s.subGates l).contains q = true) (hr : s.sgReady l q = true) :
    ¬ (!((s.start t).subGates l).contains q || !(s.start t).sgReady l q) = true := by
  rw [State.subGates_start, hq, show (s.start t).sgReady l q = true from hr]
  decide

/-- The acknowledge of an operation that is taken is sent first. -/
theorem State.sack_mem_counted (c : Nat) : Out.sack l q ∈ (((s.start t).emit (.sack l q)).cntAdd l 0x19 c 1 (s.start t).time).out := by
  rw [State.out_cntAdd]
  exact List.mem_append_right _ (List.mem_singleton_self _)

/-- The wait of an operation that has one leaves what has been sent and the operation that is on its way. -/
theorem State.wait_keeps (z : State) (mode : Bool) (c gen : Nat) {w : State}
    (hw : w = if sop = 2 || sop = 3 then z.waitSet l q false false c obj gen false
      else if sop = 7 then z.waitSet l q true mode c obj 0 false else z) : w.out = z.out ∧ w.v .sgOut l q = z.v .sgOut l q := by
  subst hw
  have hwait (a b : Bool) (g : Nat) : (z.waitSet l q a b c obj g false).out = z.out
      ∧ (z.waitSet l q a b c obj g false).v .sgOut l q = z.v .sgOut l q :=
    ⟨State.out_waitSet .., State.v_waitSet _ _ _ _ _ _ _ _ (by decide)⟩
  split
  · exact hwait ..
  · split
    · exact hwait ..
    · exact ⟨rfl, rfl⟩

theorem answers_gateSyncOp_hub (hq : (s.subGates l).contains q = true) (hr : s.sgReady l q = true) :
    Answers (.gateSyncOp t l q sop false obj arg m) s fun u => Out.sack l q ∈ u.out
      ∧ u.outOp l q = some (sop % 8, s.leafEpoch l (s.sgCtx l q), s.sgCtx l q, obj % 2048) := by
  refine ⟨_, congrArg Host.Outcome.next (if_neg (State.gateReady hq hr)), ?_⟩
  extract_lets x y z w
  obtain ⟨hout, hsg⟩ := State.wait_keeps z m _ _ (show w = _ from rfl)
  have hy : y = s.leafEpoch l (s.sgCtx l q) := by
    simp only [y, x, State.leafEpoch]
    rw [State.reg_cntAdd _ _ _ _ _ (by decide)]
    rfl
  have hz : z.v .sgOut l q = (1 + sop % 8 + 16 * y + 256 * s.sgCtx l q + 4096 * (obj % 2048) : Nat) := State.v_setV_same ..
  refine ⟨State.out_sendUp (hout ▸ State.sack_mem_counted _) .., ?_⟩
  rw [← hy]
  refine State.outOp_of_word (by omega) (State.leafEpoch_lt ..) (State.rd_lt ..) ?_
  obtain ⟨lanes, out, h⟩ := w.sendUp_out (leafDom l) Mt.syncMsg (gatePayload (sop % 8) (s.sgCtx l q) y (obj % 2048) l q
    (m && decide (sop % 8 = 7)) (arg % 65536))
  exact (congrArg (fun u => u.v .sgOut l q) h).trans (hsg.trans hz)

/-- An index of the leaf that is not one of its eight registers (08 R253). -/
theorem answers_gateSyncOp_none (hq : (s.subGates l).contains q = true) (hr : s.sgReady l q = true) (ho : 8 ≤ obj % 2048) :
    Answers (.gateSyncOp t l q sop true obj arg m) s fun u => Out.sack l q ∈ u.out ∧ Out.srsp l q Status.eRange.code ∈ u.out := by
  refine ⟨_, congrArg Host.Outcome.next ((if_neg (State.gateReady hq hr)).trans ((if_pos rfl).trans (if_pos ho))), ?_,
    State.srsp_mem_gateRsp ..⟩
  rw [State.out_gateRsp]
  exact List.mem_append_left _ (State.sack_mem_counted _)

end

/-! ### Waits that end -/

/-- A field within bits that are set to 0. -/
theorem getBits_setBits_zero (x : Word) {lsb w a b : Nat} (h : lsb + w ≤ 64) (ha : lsb ≤ a) (hb : a + b ≤ lsb + w) :
    getBits (setBits x lsb w 0) a b = 0 := by
  refine Nat.eq_of_testBit_eq fun k => ?_
  simp only [getBits, BitVec.testBit_toNat, BitVec.getLsbD_extractLsb', setBits_getLsbD x lsb w 0 _ h, Nat.zero_testBit, Bool.and_eq_false_iff,
    decide_eq_false_iff_not]
  by_cases hk : k < b
  · exact .inr (if_pos (by omega))
  · exact .inl hk

/-- A sub-gate waits where the first bit of its half of the wait register is 1 (08 R245). -/
theorem State.waiting_eq (s : State) (l q : Nat) :
    s.waiting l q = decide (getBits (s.reg .LEAF_SYNC_WAIT l (q / 2)) (32 * (q % 2)) 1 = 1) := by
  have h : s.wt l q F.LEAF_SYNC_WAIT_VALID_A F.LEAF_SYNC_WAIT_VALID_B = getBits (s.reg .LEAF_SYNC_WAIT l (q / 2)) (32 * (q % 2)) 1 := by
    unfold State.wt sgF
    split
    · next he => rw [he]; rfl
    · next he => rw [show q % 2 = 1 by omega]; rfl
  rw [State.waiting, h]

/-- The wait of a sub-gate is over, and it has no operation on its way. -/
structure Released (l q : Nat) (u : State) : Prop where
  waits : u.waiting l q = false
  out : u.v .sgOut l q = 0

theorem Released.congr {l q : Nat} {u w : State} (h : Released l q u) (hw : ∀ i j, w.reg .LEAF_SYNC_WAIT i j = u.reg .LEAF_SYNC_WAIT i j)
    (ho : ∀ i j, w.v .sgOut i j = u.v .sgOut i j) : Released l q w :=
  ⟨by rw [State.waiting_eq, hw, ← State.waiting_eq, h.waits], (ho ..).trans h.out⟩

/-- The wait register after a wait has ended: the sub-gate's half is 0. -/
theorem State.word_waitEnd (s : State) (l q : Nat) (last : Option (Nat × Nat × Nat)) (i j : Nat) :
    (s.waitEnd l q last).reg .LEAF_SYNC_WAIT i j =
      if i = l ∧ j = q / 2 then setBits (s.reg .LEAF_SYNC_WAIT l (q / 2)) (32 * (q % 2)) 32 0 else s.reg .LEAF_SYNC_WAIT i j := by
  unfold State.waitEnd State.waitClear
  extract_lets x y
  have hx (i j : Nat) : x.reg .LEAF_SYNC_WAIT i j = s.reg .LEAF_SYNC_WAIT i j := by
    simp only [x]
    split
    · exact State.reg_setReg_reg _ _ _ _ _ _ _ _ (by decide)
    · rfl
  have hy (i j : Nat) : y.reg .LEAF_SYNC_WAIT i j = s.reg .LEAF_SYNC_WAIT i j :=
    (State.reg_effAcct _ _ (by decide)).trans (hx i j)
  rw [State.reg_setV]
  split
  · next h => rw [h.1, h.2, State.reg_setReg_same, hy]
  · next h =>
    rw [State.reg_setReg_ne _ _ _ _ _ _ _ _ fun e => h ⟨congrArg Key.i e, congrArg Key.j e⟩, hy]

theorem released_waitEnd (s : State) (l q : Nat) (last : Option (Nat × Nat × Nat)) : Released l q (s.waitEnd l q last) := by
  refine ⟨?_, State.v_setV_same ..⟩
  rw [State.waiting_eq, State.word_waitEnd, if_pos ⟨rfl, rfl⟩, getBits_setBits_zero _ (by omega) (by omega) (by omega)]
  rfl

/-- The end of a sub-gate's wait leaves no other one waiting that was not. -/
theorem Released.waitEnd {l q : Nat} {u : State} (h : Released l q u) (l' q' : Nat) (last : Option (Nat × Nat × Nat)) :
    Released l q (u.waitEnd l' q' last) := by
  have hw : ¬ getBits (u.reg .LEAF_SYNC_WAIT l (q / 2)) (32 * (q % 2)) 1 = 1 := by
    have := h.waits
    rwa [State.waiting_eq, decide_eq_false_iff_not] at this
  refine ⟨?_, ?_⟩
  · rw [State.waiting_eq, State.word_waitEnd, decide_eq_false_iff_not]
    split
    · next he =>
      rw [he.1, he.2] at hw
      by_cases hh : q % 2 = q' % 2
      · rw [hh, getBits_setBits_zero _ (by omega) (by omega) (by omega)]
        decide
      · rwa [getBits_setBits_ne _ _ _ _ _ _ (by omega) (by omega)]
    · exact hw
  · unfold State.waitEnd State.waitClear
    extract_lets x y
    refine State.v_setV_zero ((State.v_effAcct _ _ (by decide)).trans ?_) ..
    simp only [x]
    split <;> exact h.out

section
variable {l q : Nat} {u : State}

theorem Released.gateRsp (h : Released l q u) (l' q' st : Nat) : Released l q (u.gateRsp l' q' st) :=
  h.congr (fun _ _ => State.reg_gateRsp _ _ _ (by decide)) fun _ _ => State.v_gateRsp _ _ _ (by decide)

theorem Released.waveHold (h : Released l q u) (l' q' tE st : Nat) : Released l q (u.waveHold l' q' tE st) :=
  h.congr (fun _ _ => State.reg_waveHold _ _ _ _ (by decide)) fun _ _ => State.v_waveHold _ _ _ _ (by decide)

theorem Released.incSat (h : Released l q u) {f : Fld} (hf : .LEAF_SYNC_WAIT ≠ f.r) (n i j : Nat) : Released l q (u.incSat f n i j) :=
  h.congr (fun _ _ => State.reg_wr_reg _ _ _ _ _ _ _ _ hf) fun _ _ => rfl

end

/-- A RELEASE at a leaf ends the wait of each sub-gate that it matches (08 R245). -/
theorem State.released_leafRelease {s : State} {l q ctx lobj gen : Nat} (hq : q ∈ s.subGates l) (hm : s.relMatch l q ctx lobj gen = true)
    (st shape : Nat) (busy : List Nat) : Released l q (s.leafRelease l ctx lobj gen st shape busy) := by
  unfold State.leafRelease
  extract_lets en w gap rot qs x
  have hmem : q ∈ qs := List.mem_filter.mpr ⟨hq, hm⟩
  rw [if_neg fun e => List.ne_nil_of_mem hmem (List.isEmpty_iff.mp e)]
  have hafter {u : State} {q' : Nat} (last : Option (Nat × Nat × Nat)) (h : Released l q (u.waitEnd l q' last)) :
      Released l q (
        let s := u.waitEnd l q' last
        let k := if en then waveOf l q' rot w else 0
        if k = 0 then s.gateRsp l q' st
        else if busy.contains q' then (s.incSat F.LEAF_PROOF_BUSY_EARLY 1 l).gateRsp l q' st
        else s.waveHold l q' (s.time + k * gap) st) := by
    extract_lets y k
    split
    · exact h.gateRsp ..
    · split
      · exact (h.incSat (by decide) ..).gateRsp ..
      · exact h.waveHold ..
  exact State.each_sets hmem (fun u => hafter _ (released_waitEnd ..)) fun u y _ hu => hafter _ (hu.waitEnd ..)

/-! ### Messages and writes at a leaf -/

section
variable {s : State} {t tag l ctx lobj gen st wid : Nat}

theorem answers_release_leaf (h : s.delivers (.leaf l) tag = true) (shape : Nat) (busy : List Nat) :
    Answers (.release t (.leaf l) tag ctx lobj gen st shape busy) s fun u =>
      ∀ q ∈ s.subGates l, s.relMatch l q (ctx % 16) (lobj % 2048) (gen % 1024) = true → u.waiting l q = false ∧ u.v .sgOut l q = 0 := by
  refine answers_delivered h rfl fun q hq hm => ?_
  obtain ⟨hwaits, hout⟩ := State.released_leafRelease (s := s.start t) hq hm (st % 256) (shape % 2 ^ 27) busy
  exact ⟨hwaits, hout⟩

/-- The claims of the sync unit after a DIRECT has been delivered at its leaf (08 R241). -/
def State.claimDelivered (s : State) (l wid : Nat) (core : Bool) (ctx lobj gen : Nat) : State :=
  { s with sync := { s.sync with claims := s.sync.claims.filter fun x =>
    !(Nat.beq x.1.leaf l && Nat.beq x.1.wid wid && x.1.core == core && Nat.beq (x.2 % 1024) (gen % 1024)
      && decide (s.lobjOf x.1.obj = (ctx, lobj))) } }

theorem answers_direct_leaf {core wake : Bool} {Q : State → Prop} (h : s.delivers (.leaf l) tag = true)
    (hq : Q (let u := (s.start t).claimDelivered l wid core ctx lobj gen
      if core then u.emit (.wake l wid) else u.leafDirect l (ctx % 16) (lobj % 2048) (gen % 1024) (st % 256) (wid % 64) wake)) :
    Answers (.direct t (.leaf l) tag ctx lobj gen st l core wid wake) s Q :=
  answers_delivered h rfl ((congrArg Q (if_neg (not_not_intro rfl))).mpr hq)

theorem answers_direct_core (h : s.delivers (.leaf l) tag = true) (wake : Bool) :
    Answers (.direct t (.leaf l) tag ctx lobj gen st l true wid wake) s fun u => Out.wake l wid ∈ u.out :=
  answers_direct_leaf h (List.mem_append_right _ (List.mem_singleton_self _))

/-- An answer to the operation that a sub-gate has on its way ends it (08 R251). -/
theorem State.leafDirect_answers {u : State} {q sop : Nat} (ho : u.outOp l q = some (sop, u.leafEpoch l ctx, ctx, lobj))
    (hw : u.waiting l q = false) : u.leafDirect l ctx lobj gen st q false = (u.setV .sgOut 0 l q).gateRsp l q st := by
  unfold State.leafDirect
  simp only [ho, hw, Bool.false_eq_true, if_false, ne_eq, not_true_eq_false, decide_false, Bool.or_false]

theorem answers_direct_gate {sop : Nat} (h : s.delivers (.leaf l) tag = true)
    (ho : s.outOp l (wid % 64) = some (sop, s.leafEpoch l (ctx % 16), ctx % 16, lobj % 2048)) (hw : s.waiting l (wid % 64) = false) :
    Answers (.direct t (.leaf l) tag ctx lobj gen st l false wid false) s fun u => u.v .sgOut l (wid % 64) = 0
      ∧ Out.srsp l (wid % 64) (st % 256) ∈ u.out := by
  refine answers_direct_leaf h ?_
  extract_lets x
  rw [if_neg Bool.false_ne_true, State.leafDirect_answers (u := x) ho hw]
  exact ⟨(State.v_gateRsp _ _ _ (by decide)).trans (State.v_setV_same ..), State.srsp_mem_gateRsp ..⟩

theorem State.leafEpoch_leafClear (s : State) (l c ep : Nat) : (s.leafClear l (c % 16) ep).leafEpoch l (c % 16) = ep % 16 := by
  unfold State.leafClear State.leafEpoch
  rw [State.reg_setReg_same, Nat.mod_mod, getBits_setBits_same _ _ _ _ (by omega)]
  rfl

theorem answers_ctxClear_leaf (h : s.delivers (.leaf l) tag = true) (c ep : Nat) :
    Answers (.ctxClear t (.leaf l) tag c ep) s fun u => u.leafEpoch l (c % 16) = ep % 16 :=
  answers_delivered h rfl (((s.start t).leafEpoch_leafClear l c (ep % 16)).trans (Nat.mod_mod ..))

end

/-! ### A leaf's own sync objects -/

/-- The fields that a write of a leaf's own sync object sets (08 R254). -/
def State.lsyncPut (s : State) (l k w : Nat) : State :=
  ((s.wr F.LEAF_LSYNC_TYPE (w / 2 % 2) l k).wr F.LEAF_LSYNC_CTX (w / 4 % 16) l k).wr F.LEAF_LSYNC_TARGET (w / 64 % 128) l k

section
variable {s : State} {l k w : Nat}

theorem State.lsyncWr_disable (h : w % 2 = 0) : s.lsyncWr l k w = (.ok, (s.lDisable l k).lsyncPut l k w) := if_pos h

theorem State.lsyncWr_range (h : w % 2 = 1) (ht : w / 64 % 128 = 0 ∨ 64 < w / 64 % 128) : s.lsyncWr l k w = (.eRange, s) :=
  (if_neg (by omega)).trans (if_pos (by simpa using ht))

theorem State.lsyncWr_enable (h : w % 2 = 1) (h1 : 1 ≤ w / 64 % 128) (h64 : w / 64 % 128 ≤ 64) (he : s.is F.LEAF_LSYNC_EN l k = false) :
    s.lsyncWr l k w = (.ok, (s.lsyncPut l k w).wr F.LEAF_LSYNC_EN 1 l k) :=
  (if_neg (by omega)).trans ((if_neg (by simp; omega)).trans (if_neg (by simp [he])))

theorem State.rd_lsyncPut_en : (s.lsyncPut l k w).rd F.LEAF_LSYNC_EN l k = s.rd F.LEAF_LSYNC_EN l k := by
  simp (disch := decide) only [State.lsyncPut, State.rd_wr_apart]

theorem State.lsyncPut_fields : (s.lsyncPut l k w).rd F.LEAF_LSYNC_TARGET l k = w / 64 % 128
    ∧ (s.lsyncPut l k w).rd F.LEAF_LSYNC_CTX l k = w / 4 % 16 ∧ (s.lsyncPut l k w).rd F.LEAF_LSYNC_TYPE l k = w / 2 % 2 := by
  refine ⟨?_, ?_, ?_⟩
  · exact (State.rd_wr_same _ _ _ _ _ (by decide)).trans (Nat.mod_mod ..)
  · exact (State.rd_wr_apart _ _ _ _ _ _ _ _ (by decide) (by decide)).trans
      ((State.rd_wr_same _ _ _ _ _ (by decide)).trans (Nat.mod_mod ..))
  · exact (State.rd_wr_apart _ _ _ _ _ _ _ _ (by decide) (by decide)).trans
      ((State.rd_wr_apart _ _ _ _ _ _ _ _ (by decide) (by decide)).trans ((State.rd_wr_same _ _ _ _ _ (by decide)).trans (Nat.mod_mod ..)))

theorem State.rd_lDisable_en : (s.lDisable l k).rd F.LEAF_LSYNC_EN l k = 0 := by
  unfold State.lDisable
  simp (disch := decide) only [State.rd_wr_apart, State.rd_wr_same, Nat.zero_mod]

/-- A write of a leaf's own sync object is answered with its status (08 R254). -/
theorem answers_lsyncWr {t : Nat} {st : Status} {x : State} {Q : State → Prop} (h : (s.start t).lsyncWr l (k % 8) w = (st, x))
    (hq : Q (x.emit (.status (leafDom l) st))) : Answers (.lsyncWrite t l k w) s fun u => Out.status (leafDom l) st ∈ u.out ∧ Q u := by
  refine ⟨x.emit (.status (leafDom l) st), ?_, List.mem_append_right _ (List.mem_singleton_self _), hq⟩
  change execLsyncWrite t l k w s = _
  simp only [execLsyncWrite, h]

theorem answers_lsyncWrite_set {t : Nat} (hen : w % 2 = 1) (h1 : 1 ≤ w / 64 % 128) (h64 : w / 64 % 128 ≤ 64)
    (he : s.is F.LEAF_LSYNC_EN l (k % 8) = false) :
    Answers (.lsyncWrite t l k w) s fun u => Out.status (leafDom l) .ok ∈ u.out ∧ u.rd F.LEAF_LSYNC_EN l (k % 8) = 1
      ∧ u.rd F.LEAF_LSYNC_TARGET l (k % 8) = w / 64 % 128 ∧ u.rd F.LEAF_LSYNC_CTX l (k % 8) = w / 4 % 16
      ∧ u.rd F.LEAF_LSYNC_TYPE l (k % 8) = w / 2 % 2 := by
  refine answers_lsyncWr (State.lsyncWr_enable hen h1 h64 he) ?_
  obtain ⟨htarget, hctx, htype⟩ := State.lsyncPut_fields (s := s.start t) (l := l) (k := k % 8) (w := w)
  simp only [State.rd_emit]
  refine ⟨State.rd_wr_same _ _ _ _ _ (by decide), ?_, ?_, ?_⟩
  · rwa [State.rd_wr_apart _ _ _ _ _ _ _ _ (by decide) (by decide)]
  · rwa [State.rd_wr_apart _ _ _ _ _ _ _ _ (by decide) (by decide)]
  · rwa [State.rd_wr_apart _ _ _ _ _ _ _ _ (by decide) (by decide)]

theorem answers_lsyncWrite_range {t : Nat} (hen : w % 2 = 1) (ht : w / 64 % 128 = 0 ∨ 64 < w / 64 % 128) :
    Answers (.lsyncWrite t l k w) s fun u => Out.status (leafDom l) .eRange ∈ u.out ∧ Frame Scope.none s u :=
  answers_lsyncWr (State.lsyncWr_range hen ht) ⟨fun _ _ _ _ => rfl, fun _ _ _ _ => rfl, fun p _ => by cases p <;> rfl⟩

theorem answers_lsyncWrite_clear {t : Nat} (hen : w % 2 = 0) :
    Answers (.lsyncWrite t l k w) s fun u => Out.status (leafDom l) .ok ∈ u.out ∧ u.rd F.LEAF_LSYNC_EN l (k % 8) = 0 := by
  refine answers_lsyncWr (State.lsyncWr_disable hen) ?_
  rw [State.rd_emit, State.rd_lsyncPut_en, State.rd_lDisable_en]

end

/-- Settles O34: by what an operation of a sub-gate, a message at a leaf and a write of a leaf's own sync object come to, and by the
half of the wait register that a wait's end sets to 0. -/
theorem syncAtTheLeaves : Obligations.SyncAtTheLeaves :=
  ⟨fun _ _ _ _ _ _ _ _ => answers_gateSyncOp_hub, fun _ _ _ _ _ _ _ _ => answers_gateSyncOp_none,
    fun _ _ _ _ _ _ _ _ shape busy h => answers_release_leaf h shape busy, fun _ _ _ _ _ _ _ _ _ wake h => answers_direct_core h wake,
    fun _ _ _ _ _ _ _ _ _ _ => answers_direct_gate, fun _ _ _ _ c ep h => answers_ctxClear_leaf h c ep,
    fun _ _ _ _ _ => answers_lsyncWrite_set, fun _ _ _ _ _ => answers_lsyncWrite_range, fun _ _ _ _ _ => answers_lsyncWrite_clear⟩

end Sys2Proof.Machine

/-!
PROOFS. A context switch (spec/08_sync_unit.md R240, R241, R249, R250): what the absence of a channel that CTX_CLEAR meets lets go, and
a state in which that is so much that the answer is not given.
-/
namespace Sys2Proof.Machine

/-! ### A fire that ends many watches -/

/-- The DIRECT that ends a watch (08 R244). -/
def State.dirOf (s : State) (gen st : Nat) (w : Watch) : SyncOut :=
  .dir (s.lobjOf w.obj).1 (s.lobjOf w.obj).2 (gen % 1024) st w.leaf w.core w.wid true

theorem State.each_syncDir (s : State) (l : List Watch) (gen st : Nat) :
    (s.each l fun u w => u.syncDir w gen st) = s.setCur (s.sync.cur ++ l.map (s.dirOf gen st)) := by
  induction l generalizing s with
  | nil => exact (State.setCur_self (List.append_nil _).symm).symm
  | cons w l ih =>
    refine (ih (s.syncDir w gen st)).trans ?_
    have hcur : (s.syncDir w gen st).sync.cur = s.sync.cur ++ [s.dirOf gen st w] := rfl
    rw [hcur, List.append_assoc]
    rfl

/-- The wake-all watches of cores on an object, where there are no others, end with a DIRECT for each (08 R240). -/
theorem State.fire_cores {s : State} {o : Nat} (h : ∀ w ∈ s.sync.watches, w.obj = o ∧ w.core = true) (gen st shape : Nat) :
    s.fire o gen st shape (fun _ => true) = (s.setWatches []).setCur (s.sync.cur ++ s.sync.watches.map (s.dirOf gen st)) := by
  have hobj : s.objW o = s.sync.watches := List.filter_eq_self.mpr fun w hw => Nat.beq_eq.mpr (h w hw).1
  have hrest : (s.sync.watches.filter fun w => !(Nat.beq w.obj o && true)) = [] :=
    List.filter_eq_nil_iff.mpr fun w hw => by simp [(h w hw).1]
  have hrel : (s.sync.watches.any fun w => !w.core && !w.one) = false :=
    List.any_eq_false.mpr fun w hw => by simp [(h w hw).2]
  have hdir : (s.sync.watches.filter fun w => w.core || w.one) = s.sync.watches :=
    List.filter_eq_self.mpr fun w hw => by simp [(h w hw).2]
  unfold State.fire
  simp only [hobj, List.filter_true, hrest, hrel, hdir]
  exact State.each_syncDir ..

/-- A claim on a semaphore is restored, and then every watch of it is a core's wake-all watch (08 R240, R241). -/
theorem State.claimBack_cores {s : State} {w0 : Watch} (ht : s.objType w0.obj = 2) (hc : s.objCount w0.obj = 0)
    (h : ∀ w ∈ s.sync.watches, (w.obj = w0.obj ∧ w.core = true) ∧ w.one = false) :
    ∃ gen, s.claimBack w0 = ((s.incSat F.SYNC_OBJ_B_COUNT 1 w0.obj).setWatches []).setCur (s.sync.cur ++ s.sync.watches.map (s.dirOf gen 0)) := by
  obtain ⟨x, hx⟩ : ∃ x, x = s.incSat F.SYNC_OBJ_B_COUNT 1 w0.obj := ⟨_, rfl⟩
  have hcount : ¬ x.objCount w0.obj = 0 := by
    have h1 : x.objCount w0.obj = satAddN 16 (s.objCount w0.obj) 1 % 2 ^ 16 := hx ▸ State.rd_wr_same _ _ _ _ _ (by decide)
    rw [h1, hc]
    decide
  have hwatches : x.sync = s.sync := hx ▸ rfl
  have hone : (x.objW w0.obj).find? (·.one) = none := by
    refine List.find?_eq_none.mpr fun w hw => ?_
    rw [(h w (hwatches ▸ List.mem_of_mem_filter hw)).2]
    decide
  have hslots : x.dirOf = s.dirOf := by
    have hbase (f : Fld) (hf : f.r ≠ .SYNC_OBJ_B) (c : Nat) : x.rd f c = s.rd f c := hx ▸ State.rd_wr_reg _ _ _ _ _ _ _ _ hf
    funext g st w
    unfold State.dirOf State.lobjOf State.slotOf
    simp only [hbase F.SYNC_CTX_OBJ_BASE (by decide), hbase F.SYNC_CTX_OBJ_COUNT (by decide)]
  refine ⟨x.objGen w0.obj, ?_⟩
  have hfire : x.semRun w0.obj = x.fire w0.obj (x.objGen w0.obj) 0 0 fun _ => true := by
    unfold State.semRun State.semServe
    rw [if_neg hcount, hone]
  rw [State.claimBack, if_pos ht, ← hx, hfire, State.fire_cores fun w hw => (h w (hwatches ▸ hw)).1, hwatches, hslots]

/-- A DIRECT to a leaf that the hub has no way to (08 R244). -/
def State.NoWay (s : State) (x : SyncOut) : Prop :=
  ∃ c i g st leaf core wid wake, x = .dir c i g st leaf core wid wake ∧ s.hop hubDom (leafDom leaf) = none

/-- What the hub has no way to send takes its turn and is gone. -/
theorem State.syncDrain_noWay (s : State) {l : List SyncOut} (r : List SyncOut) (h : ∀ x ∈ l, s.NoWay x) :
    (s.setCur (l ++ r)).syncDrain l.length = s.setCur r := by
  induction l with
  | nil => rfl
  | cons x l ih =>
    obtain ⟨c, i, g, st, leaf, core, wid, wake, rfl, hhop⟩ := h x (List.mem_cons_self ..)
    have hsend : ((s.setCur (l ++ r)).syncSend (.dir c i g st leaf core wid wake)) = s.setCur (l ++ r) := by
      simp only [State.syncSend, show (s.setCur (l ++ r)).hop hubDom (leafDom leaf) = none from hhop]
    rw [List.length_cons, State.syncDrain_cons rfl]
    change State.syncDrain (State.syncSend (s.setCur (l ++ r)) _) _ = _
    rw [hsend, ih fun x hx => h x (List.mem_cons_of_mem _ hx)]

/-! ### Other watches make no difference to what writes registers and variables -/

theorem State.each_setWatches {α : Type} {op : State → α → State} {w : List Watch} (h : ∀ u x, op (u.setWatches w) x = (op u x).setWatches w)
    (s : State) (l : List α) : (s.setWatches w).each l op = (s.each l op).setWatches w := by
  induction l generalizing s with
  | nil => rfl
  | cons x l ih => exact (congrArg (State.each · l op) (h s x)).trans (ih _)

theorem State.wr_setWatches (s : State) (w : List Watch) (f : Fld) (v i j : Nat) : (s.setWatches w).wr f v i j = (s.wr f v i j).setWatches w :=
  rfl

theorem State.incWrap_setWatches (s : State) (w : List Watch) (f : Fld) (n i j : Nat) :
    (s.setWatches w).incWrap f n i j = (s.incWrap f n i j).setWatches w :=
  rfl

theorem State.ctxBankClear_setWatches (s : State) (w : List Watch) (c : Nat) :
    (s.setWatches w).ctxBankClear c = (s.ctxBankClear c).setWatches w := by
  unfold State.ctxBankClear
  extract_lets x y
  have hx : x = y.setWatches w := State.each_setWatches (fun _ _ => rfl) ..
  rw [hx]
  clear_value y
  rfl

/-- Where no slot is latched none is aborted (08 R250). -/
theorem State.latchAbort_idle {s : State} (h : s.latch.slots = []) (c : Nat) : s.latchAbort c = s := by
  unfold State.latchAbort
  rw [h]
  rfl

/-- The slot that a switch marks (08 R250, step 1), and its counters. -/
def State.switchMarked (s : State) (c : Nat) : State :=
  let s := (s.wr F.SYNC_CTX_SWITCHING 1 c).incWrap F.SYNC_CTX_CEPOCH 1 c
  let s := (s.wr F.SYNC_STATUS_SWITCH_BUSY 1).wr F.SYNC_STATUS_SWITCH_CTX c
  s.ctxBankClear c

theorem State.switchStart_marked (s : State) (c : Nat) : s.switchStart c =
    ((s.switchMarked c).latchAbort c).toHubChildren (clrPayload c (((s.switchMarked c).latchAbort c).rd F.SYNC_CTX_CEPOCH c)) := by
  unfold State.switchStart State.switchMarked
  dsimp only

/-- A switch marks its slot, then sends CTX_CLEAR to the children of the hub. -/
theorem State.switchStart_idle {s : State} {c : Nat} (h : (s.switchMarked c).latch.slots = []) :
    s.switchStart c = (s.switchMarked c).toHubChildren (clrPayload c ((s.switchMarked c).rd F.SYNC_CTX_CEPOCH c)) := by
  rw [State.switchStart_marked, State.latchAbort_idle h]

theorem State.switchMarked_setWatches (s : State) (w : List Watch) (c : Nat) :
    (s.setWatches w).switchMarked c = (s.switchMarked c).setWatches w := by
  simp only [State.switchMarked, State.wr_setWatches, State.incWrap_setWatches, State.ctxBankClear_setWatches]

/-- A message to an only child of the hub whose channel is absent is counted, and the absence is taken (03 R99; 08 R249). -/
theorem State.toHubChildren_absent {s : State} {d : Nat} (hd : s.children hubDom = [d]) (he : endIsParent (s.parentEnd d) = true)
    (hs : s.canSend (s.parentEnd d) Mt.syncMsg = false) (payload : Nat) :
    s.toHubChildren payload = (s.chInc (s.parentEnd d) F.HUB_CHAN_ABSENT_REPLIES).syncAbsent d := by
  unfold State.toHubChildren State.sendDown State.send
  rw [hd]
  simp only [State.each, List.foldl_cons, List.foldl_nil, hs, he, if_true, Bool.false_eq_true, if_false]

/-- Replace the claims in flight. -/
def State.setClaims (s : State) (l : List (Watch × Nat)) : State := { s with sync := { s.sync with claims := l } }

theorem State.syncAbsent_eq (s : State) (d : Nat) : s.syncAbsent d =
    (((s.setWatches (s.sync.watches.filter fun w => !s.beneath (leafDom w.leaf) d)).setClaims
      (s.sync.claims.filter fun x => !s.beneath (leafDom x.1.leaf) d)).incSat F.SYNC_STATUS_ABSENT
        ((s.sync.watches.filter fun w => s.beneath (leafDom w.leaf) d).length
          + (s.sync.claims.filter fun x => s.beneath (leafDom x.1.leaf) d).length)).each
      (s.sync.claims.filter fun x => s.beneath (leafDom x.1.leaf) d) fun u x => u.claimBack x.1 := by
  unfold State.syncAbsent State.setClaims
  rfl

/-- The sync unit once the absences of a domain beneath which there were only claims are counted (08 R249). -/
def State.absentCounted (s : State) (n : Nat) : State := (s.setClaims []).incSat F.SYNC_STATUS_ABSENT n

/-- The channel to a domain is absent beneath which there is one claim, on a semaphore, and no watch, and the watches are wake-all
watches of cores on that semaphore: each of them ends (08 R249). -/
theorem State.syncAbsent_cores {s : State} {d g : Nat} {w0 : Watch} (hclaims : s.sync.claims = [(w0, g)])
    (hgone : s.beneath (leafDom w0.leaf) d = true) (ht : s.objType w0.obj = 2) (hc : s.objCount w0.obj = 0)
    (h : ∀ w ∈ s.sync.watches, (w.obj = w0.obj ∧ w.core = true) ∧ w.one = false)
    (hstay : ∀ w ∈ s.sync.watches, s.beneath (leafDom w.leaf) d = false) :
    ∃ n gen, s.syncAbsent d = (((s.absentCounted n).incSat F.SYNC_OBJ_B_COUNT 1 w0.obj).setWatches []).setCur
      (s.sync.cur ++ s.sync.watches.map ((s.absentCounted n).dirOf gen 0)) := by
  have hwatches : (s.sync.watches.filter fun w => !s.beneath (leafDom w.leaf) d) = s.sync.watches :=
    List.filter_eq_self.mpr fun w hw => by simp [hstay w hw]
  have hback : (s.sync.claims.filter fun x => s.beneath (leafDom x.1.leaf) d) = [(w0, g)] := by simp [hclaims, hgone]
  have hkept : (s.sync.claims.filter fun x => !s.beneath (leafDom x.1.leaf) d) = [] := by simp [hclaims, hgone]
  obtain ⟨n, hn⟩ : ∃ n, s.syncAbsent d = (s.absentCounted n).claimBack w0 := by
    rw [State.syncAbsent_eq, hwatches, hback, hkept]
    exact ⟨_, rfl⟩
  have ht' : (s.absentCounted n).objType w0.obj = s.objType w0.obj := State.rd_wr_reg _ _ _ _ _ _ _ _ (by decide)
  have hc' : (s.absentCounted n).objCount w0.obj = s.objCount w0.obj := State.rd_wr_reg _ _ _ _ _ _ _ _ (by decide)
  obtain ⟨gen, hfire⟩ := State.claimBack_cores (ht'.trans ht) (hc'.trans hc) h
  exact ⟨n, gen, hn.trans hfire⟩

/-! ### An answer that is never sent -/

/-- A watch of a core at leaf 1, which the image of `crowdReset` does not have, on object 0. -/
def crowdWatch : Watch := { idx := 0, obj := 0, core := true, one := false, ctx := 0, gen := 0, leaf := 1, wid := 0, time := 0 }

/-- A claim of a core at leaf 0 on object 0. -/
def crowdClaim : Watch := { crowdWatch with one := true, leaf := 0 }

/-- RUN, with leaf 0 under the hub, whose channel is DOWN. Object 0 is a semaphore at 0, with a claim on its way to a core of that
leaf. -/
def crowdReset : State :=
  { (State.reset.wr F.HUB_PKG_STATE_STATE Pkg.run).wr F.SYNC_OBJ_A_TYPE 2 0 with
    sync := { State.reset.sync with claims := [(crowdClaim, 0)] }
    img := { ImgSt.empty with
      active := some {
        delta := false, minor := 0, svn := 0, paramSeq := 0, imageId := 0, digest := 0, structDigest := 0
        tree := [⟨hubDom, 0xFFFF, 0, 0, 0, 0, false⟩, ⟨leafDom 0, hubDom, 2, 1, 0, 0, false⟩]
        insts := [], rails := [], loops := [], parts := [], dxl := none, mirror := none, sources := [], items := [] } } }

/-- The same, with a number of watches on the object. -/
def crowd (n : Nat) : State := crowdReset.setWatches (List.replicate n crowdWatch)

/-- The same without its watches, once a switch has marked slot 0 and the hub has counted that it cannot send to leaf 0. -/
def crowdMarked : State := ((crowdReset.start 0).switchMarked 0).chInc (.hub 1) F.HUB_CHAN_ABSENT_REPLIES

theorem State.parentEnd_setWatches (s : State) (w : List Watch) (d : Nat) : (s.setWatches w).parentEnd d = s.parentEnd d := rfl

theorem takes_crowd (n : Nat) : Takes (crowd n) (.reg 0 true) := ⟨show crowdReset.hubUp = true by decide, rfl⟩

/-- The switch marks its slot, and sends CTX_CLEAR to the channel to leaf 0, which is absent. -/
theorem switchStart_crowd (n : Nat) :
    ((crowd n).start 0).switchStart 0 = (crowdMarked.setWatches (List.replicate n crowdWatch)).syncAbsent (leafDom 0) := by
  obtain ⟨x, hx⟩ : ∃ x, x = (crowdReset.start 0).switchMarked 0 := ⟨_, rfl⟩
  have hmarked : ((crowd n).start 0).switchMarked 0 = x.setWatches (List.replicate n crowdWatch) :=
    hx ▸ State.switchMarked_setWatches ..
  have hslots : x.latch.slots = [] := hx ▸ by decide +kernel
  have hchildren : x.children hubDom = [leafDom 0] := hx ▸ by decide +kernel
  have hend : x.parentEnd (leafDom 0) = .hub 1 := hx ▸ by decide +kernel
  have habsent : x.canSend (.hub 1) Mt.syncMsg = false := hx ▸ by decide +kernel
  rw [State.switchStart_idle (by rw [hmarked]; exact hslots), hmarked,
    State.toHubChildren_absent (s := x.setWatches (List.replicate n crowdWatch)) (d := leafDom 0) hchildren
      (by rw [State.parentEnd_setWatches, hend]; rfl) (by rw [State.parentEnd_setWatches, hend]; exact habsent),
    State.parentEnd_setWatches, hend, crowdMarked, ← hx]
  rfl

/-- A hub with a claim of leaf 0 on a semaphore at 0, and with no leaf 1, that has sent nothing and has no mirror. -/
structure AbsentLeaf (m : State) : Prop where
  claims : m.sync.claims = [(crowdClaim, 0)]
  cur : m.sync.cur = []
  out : m.out = []
  held : m.ansHeld = []
  alone : m.mirrorOn = false
  type : m.objType 0 = 2
  count : m.objCount 0 = 0
  gone : m.beneath (leafDom 0) (leafDom 0) = true
  stays : m.beneath (leafDom 1) (leafDom 0) = false
  noWay : m.hop hubDom (leafDom 1) = none

theorem absentLeaf_crowdMarked : AbsentLeaf crowdMarked where
  claims := by decide +kernel
  cur := by decide +kernel
  out := by decide +kernel
  held := by decide +kernel
  alone := by decide +kernel
  type := by decide +kernel
  count := by decide +kernel
  gone := by decide +kernel
  stays := by decide +kernel
  noWay := by decide +kernel

/-- The claim is restored, and every watch ends with a DIRECT to a leaf that the hub has no way to. -/
theorem AbsentLeaf.fires {m : State} (h : AbsentLeaf m) (n : Nat) : ∃ (y : State) (l : List SyncOut),
    (m.setWatches (List.replicate n crowdWatch)).syncAbsent (leafDom 0) = y.setCur l ∧ l.length = n ∧ y.out = [] ∧ y.ansHeld = []
      ∧ y.mirrorOn = false ∧ ∀ x ∈ l, y.NoWay x := by
  have hwatch {w : Watch} (hw : w ∈ List.replicate n crowdWatch) : w = crowdWatch := List.eq_of_mem_replicate hw
  have hcur : (m.setWatches (List.replicate n crowdWatch)).sync.cur = [] := h.cur
  obtain ⟨k, gen, habsent⟩ := State.syncAbsent_cores (s := m.setWatches (List.replicate n crowdWatch)) (d := leafDom 0) (w0 := crowdClaim)
    h.claims h.gone h.type h.count (fun w hw => hwatch hw ▸ ⟨⟨rfl, rfl⟩, rfl⟩) (fun w hw => by rw [hwatch hw]; exact h.stays)
  have hroles : Silent m
      (((m.setWatches (List.replicate n crowdWatch)).absentCounted k).incSat F.SYNC_OBJ_B_COUNT 1 crowdClaim.obj) := by
    have h : Silent m ((m.setWatches (List.replicate n crowdWatch)).setClaims []) := ⟨rfl, rfl⟩
    exact (h.wr (by decide) ..).wr (by decide) ..
  refine ⟨_, _, habsent, ?_, h.out, h.held, hroles.mirrorOn.trans h.alone, fun x hx => ?_⟩
  · rw [hcur, List.nil_append, List.length_map]
    exact List.length_replicate
  · rw [hcur, List.nil_append] at hx
    obtain ⟨w, hw, rfl⟩ := List.mem_map.mp hx
    exact ⟨_, _, _, _, _, _, _, _, rfl, by rw [hwatch hw]; exact h.noWay⟩

/-- A status that is put after as many messages as the unit sends at once, each of them to a leaf that the hub has no way to, is not
given. -/
theorem State.syncAnswer_lost {y : State} {l : List SyncOut} (hlen : l.length = 262144) (hm : y.mirrorOn = false)
    (h : ∀ x ∈ l, y.NoWay x) (p : Port) (pg : Option Nat) : (y.setCur l).syncAnswer p pg .ok = y.setCur [.ans p (syncAddr pg) .ok] := by
  change State.syncFlush ((y.setCur l).syncPut _) = _
  have hput : (y.setCur l).syncPut (.ans p (syncAddr pg) .ok) = y.setCur (l ++ [.ans p (syncAddr pg) .ok]) := rfl
  rw [hput, State.syncFlush_drain (by exact hm), ← hlen, State.syncDrain_noWay y _ h]

/-- The operation is taken. -/
theorem portSwitch_crowd (n : Nat) (p : Port) (hp : p.priv = true) :
    ((crowd n).start 0).portSwitch p none false 0 = (((crowd n).start 0).switchStart 0).syncAnswer p none .ok := by
  have hup : ((crowd n).start 0).hubUp = true := (show crowdReset.hubUp = true by decide)
  have hbusy : ((crowd n).start 0).is F.SYNC_STATUS_SWITCH_BUSY = false := (show crowdReset.is F.SYNC_STATUS_SWITCH_BUSY = false by decide)
  unfold State.portSwitch
  simp [hup, hbusy, hp]

/-- Refutes O33: its first clause does not bound how much the operation sends. CTX_CLEAR to a child channel that is absent restores a
claim of it, which lets 262144 watches of cores go; that is as much as the unit sends for one operation, and the answer comes last. -/
theorem not_syncSwitchAndMirror : ¬ Obligations.SyncSwitchAndMirror := by
  rintro ⟨hswitch, -⟩
  obtain ⟨u, hu, htold, -⟩ := hswitch (crowd 262144) 0 0 0 0 0 (.reg 0 true) (takes_crowd _) (by decide)
    (show crowdReset.is F.SYNC_STATUS_SWITCH_BUSY = false by decide) rfl (show crowdReset.mirrorOn = false by decide)
  obtain ⟨y, l, habsent, hlen, hout, hheld, hm, hlost⟩ := absentLeaf_crowdMarked.fires 262144
  obtain rfl : y.setCur [.ans (.reg 0 true) (syncAddr none) .ok] = u := by
    have he : exec (.ctxSwitch 0 (.port (.reg 0 true) none) 0 0 0 0) (crowd 262144) =
      .next (((crowd 262144).start 0).portSwitch (.reg 0 true) none false 0) := rfl
    rw [portSwitch_crowd _ _ rfl, switchStart_crowd, habsent, State.syncAnswer_lost hlen hm hlost, hu] at he
    exact (Host.Outcome.next.inj he).symm
  obtain hrsp | ⟨x, hx, -⟩ : Out.rsp (.reg 0 true) .ok 0 ∈ y.out ∨ ∃ x ∈ y.ansHeld, _ := htold
  · exact List.not_mem_nil (hout ▸ hrsp)
  · exact List.not_mem_nil (hheld ▸ hx)

end Sys2Proof.Machine

/-!
PROOFS. Droop detectors and SCORE (spec/09_droop_release.md R265 to R272): what a sample leaves of a detector's registers, and what the
calibration of a detector shows.
-/
namespace Sys2Proof.Machine

/-! ### What work that keeps the image leaves -/

theorem State.ddLeaf_congr {s u : State} (h : u.part .image = s.part .image) : u.ddLeaf = s.ddLeaf := by
  have ha : u.img.active = s.img.active := congrArg Prod.fst h
  funext d
  simp only [State.ddLeaf, State.inst?, State.insts, ha]

theorem State.par_congr {s u : State} (h : u.part .image = s.part .image) : u.par = s.par := by
  have hi : u.img.items = s.img.items := congrArg (fun x => x.2.1) h
  funext sec key idx off len dflt
  simp only [State.par, State.item?, hi]

theorem State.is_congr {s u : State} {f : Fld} {i j : Nat} (h : u.reg f.r i j = s.reg f.r i j) : u.is f i j = s.is f i j := by
  simp only [State.is, State.rd_congr h]

/-- A field that shares no bit with a flag reads as before the flag was set. -/
theorem State.rd_flag_apart (s : State) (f g : Fld) (i j m a b : Nat) (h : f.lsb + f.w ≤ 64)
    (hd : g.lsb + g.w ≤ f.lsb ∨ f.lsb + f.w ≤ g.lsb) : (s.flag f i j m).rd g a b = s.rd g a b :=
  s.rd_wr_apart f g _ i j a b h hd

theorem State.reg_flag_reg {s : State} {f : Fld} {r : Reg} (h : r ≠ f.r) (i j m a b : Nat) : (s.flag f i j m).reg r a b = s.reg r a b :=
  s.reg_wr_reg f _ i j r a b h

theorem State.part_when {s : State} {c : Bool} {f : State → State} {q : Part} (h : ∀ u, (f u).part q = u.part q) :
    (s.when c f).part q = s.part q := by
  unfold State.when
  split
  · exact h s
  · rfl

/-! ### The samples of a detector -/

/-- A detector that works is one of a leaf. -/
theorem State.exists_ddLeaf {s : State} {d : Nat} (h : s.ddPresent d = true) : ∃ l, s.ddLeaf d = some l := by
  unfold State.ddPresent at h
  split at h
  · next l hl => exact ⟨l, hl⟩
  · cases h

/-- A sample of a detector is shown and counted (09 R266, R273). -/
def State.ddCounted (s : State) (d l c : Nat) : State :=
  let s := (s.wr F.DD_THR_CODE c d).wr F.DD_STAT_CODE_MIN (min c (s.rd F.DD_STAT_CODE_MIN d)) d
  let s := s.when (Nat.beq c 0 || Nat.beq c 255) fun s => s.flag F.DD_STAT_SAT d
  s.each (s.selsOf l 4 s.time) fun s k =>
    s.when (Nat.beq (s.ddLocal d) (s.selF l k F.LEAF_CNT_SEL_DET s.time) && Nat.ble c (s.selF l k F.LEAF_CNT_SEL_THRESH s.time)) fun s =>
      s.cntAdd l (0x20 + k) 16 1 s.time

/-- A detector trips: it is seen and counted, and SCORE clamps (09 R271). -/
def State.ddTripped (s : State) (d l : Nat) : State :=
  let s := ((s.wr F.DD_STAT_TRIP 1 d).flag F.DD_STAT_TRIP_SEEN d).incSat F.DD_STAT_TRIPS 1 d
  (((s.incSat F.LEAF_SCORE_TRIPS 1 l).scoreClamp l d true).shapeFrame 3 d 0 0 0).evFrom (leafDom l) 0x30 d

/-- A sample that has been counted acts by where it lies (09 R271). -/
def State.ddActed (s : State) (d l c : Nat) : State :=
  if s.rd F.DD_THR_THR_CODE d < c then (s.setV .ddRun 0 d).wr F.DD_STAT_TRIP 0 d
  else if !s.is F.DD_CTRL_EN d then s
  else
    let s := s.addV .ddRun 1 d
    if s.is F.DD_STAT_TRIP d then s.scoreClamp l d false
    else if s.par Sec.droop 0x0005 d 0 1 2 ≤ s.vn .ddRun d then s.ddTripped d l else s

theorem State.ddSample_eq {s : State} {d l : Nat} (h : s.ddLeaf d = some l) (c : Nat) :
    s.ddSample d c = (s.ddCounted d l c).ddActed d l c := by
  unfold State.ddSample
  rw [h]
  rfl

/-- What is shown and counted of a sample lies in DD_STAT and in the code of DD_THR. -/
theorem State.reg_ddCounted (s : State) (d l c : Nat) {r : Reg} (hr : r ≠ .DD_STAT) (i j : Nat) :
    (s.ddCounted d l c).reg r i j = (s.wr F.DD_THR_CODE c d).reg r i j := by
  unfold State.ddCounted
  rw [State.reg_each _ _ _ _ _ _ fun _ _ _ => State.reg_when_keeps fun _ => State.reg_cntAdd _ _ _ _ _ (Nat.zero_testBit _),
    State.reg_when_keeps fun _ => State.reg_flag_reg hr .., State.reg_wr_reg _ _ _ _ _ _ _ _ hr]

theorem State.ddRun_ddCounted (s : State) (d l c : Nat) : (s.ddCounted d l c).v .ddRun d = s.v .ddRun d := by
  unfold State.ddCounted
  rw [State.v_each _ _ _ _ _ _ fun _ _ _ => State.v_when_keeps fun _ => State.v_cntAdd _ _ _ _ _ (by decide),
    State.v_when_keeps fun _ => State.v_flag .., State.v_wr, State.v_wr]

theorem State.image_ddCounted (s : State) (d l c : Nat) : (s.ddCounted d l c).part .image = s.part .image := by
  unfold State.ddCounted
  rw [State.part_each _ _ _ _ fun _ _ _ => State.part_when fun _ => State.part_cntAdd _ _ _ _ _ (by decide),
    State.part_when fun _ => State.part_flag .., State.part_wr, State.part_wr]

/-- A trip leaves DD_THR. -/
theorem State.thr_ddTripped (s : State) (d l i j : Nat) : (s.ddTripped d l).reg .DD_THR i j = s.reg .DD_THR i j := by
  simp (disch := decide) only [State.ddTripped, State.incSat, State.reg_evFrom, State.reg_shapeFrame, State.reg_scoreClamp,
    State.reg_wr_reg, State.reg_flag_reg]

/-- A detector that trips shows it. -/
theorem State.trip_ddTripped (s : State) (d l : Nat) : (s.ddTripped d l).rd F.DD_STAT_TRIP d = 1 := by
  simp (disch := decide) only [State.ddTripped, State.rd_evFrom, State.rd_shapeFrame, State.rd_scoreClamp, State.rd_incSat_apart,
    State.rd_flag_apart, State.rd_wr_fits]

/-- What a sample brings about leaves DD_THR. -/
theorem State.thr_ddActed (s : State) (d l c i j : Nat) : (s.ddActed d l c).reg .DD_THR i j = s.reg .DD_THR i j := by
  unfold State.ddActed
  extract_lets run
  split
  · exact State.reg_wr_reg _ _ _ _ _ _ _ _ (by decide)
  · split
    · rfl
    · split
      · exact State.reg_scoreClamp _ _ _ (by decide)
      · split
        · exact State.thr_ddTripped ..
        · rfl

/-- The last of enough samples at or under its threshold leaves an enabled detector tripped (09 R271). -/
theorem State.trip_ddActed {s : State} {d l c : Nat} (hc : c ≤ s.rd F.DD_THR_THR_CODE d) (hen : s.is F.DD_CTRL_EN d = true)
    (hrun : (s.par Sec.droop 0x0005 d 0 1 2 : Int) ≤ s.v .ddRun d + 1) : (s.ddActed d l c).rd F.DD_STAT_TRIP d = 1 := by
  unfold State.ddActed
  extract_lets run
  rw [if_neg (Nat.not_lt.mpr hc), if_neg (by simp [hen])]
  split
  · next ht => exact (State.rd_scoreClamp _ _ _ (by decide)).trans (Nat.beq_eq.mp ht)
  · split
    · exact State.trip_ddTripped ..
    · next hfew =>
      have hv : run.vn .ddRun d = (s.v .ddRun d + 1).toNat := congrArg Int.toNat (State.v_addV_same ..)
      have hpar : run.par Sec.droop 0x0005 d 0 1 2 = s.par Sec.droop 0x0005 d 0 1 2 := rfl
      omega

/-- A sample of a detector shows its code, and leaves the rest of DD_THR. -/
theorem State.thr_ddSample {s : State} {d l : Nat} (h : s.ddLeaf d = some l) (c i j : Nat) :
    (s.ddSample d c).reg .DD_THR i j = (s.wr F.DD_THR_CODE c d).reg .DD_THR i j := by
  rw [State.ddSample_eq h, State.thr_ddActed, State.reg_ddCounted _ _ _ _ (by decide)]

/-- The last of enough samples at or under its threshold leaves an enabled detector tripped (09 R271). -/
theorem State.trip_ddSample {s : State} {d l c : Nat} (h : s.ddLeaf d = some l) (hc : c ≤ s.rd F.DD_THR_THR_CODE d)
    (hen : s.is F.DD_CTRL_EN d = true) (hrun : (s.par Sec.droop 0x0005 d 0 1 2 : Int) ≤ s.v .ddRun d + 1) :
    (s.ddSample d c).rd F.DD_STAT_TRIP d = 1 := by
  rw [State.ddSample_eq h]
  refine State.trip_ddActed ?_ ?_ ?_
  · rw [State.rd_congr (State.reg_ddCounted _ _ _ _ (by decide) _ _), State.rd_wr_apart _ _ _ _ _ _ _ _ (by decide) (by decide)]
    exact hc
  · rw [State.is_congr (State.reg_ddCounted _ _ _ _ (by decide) _ _), State.is_congr (State.reg_wr_reg _ _ _ _ _ _ _ _ (by decide))]
    exact hen
  · rw [State.par_congr (State.image_ddCounted ..), State.ddRun_ddCounted]
    exact hrun

/-- What SCORE_TRIP shows before the samples: the detector's fill mode and threshold, and the fill mode of its leaf (09 R267, R268). -/
def State.fillShown (s : State) (d : Nat) (fill : Bool) : State :=
  let u := (s.wr F.DD_THR_FILL (b2n fill) d).ddThr d
  u.wr F.LEAF_SCORE_FILL (b2n ((u.leafDetectors ((s.ddLeaf d).getD 0)).any fun x => u.is F.DD_THR_FILL x)) ((s.ddLeaf d).getD 0)

/-- The threshold that is formed anew leaves the fill mode. -/
theorem State.fill_ddThr (s : State) (d : Nat) : (s.ddThr d).rd F.DD_THR_FILL d = s.rd F.DD_THR_FILL d := by
  unfold State.ddThr
  split
  · rfl
  · simp (disch := decide) only [State.rd_wr_apart]

theorem State.fill_fillShown (s : State) (d : Nat) (fill : Bool) : (s.fillShown d fill).rd F.DD_THR_FILL d = b2n fill := by
  rw [State.fillShown, State.rd_wr_reg _ _ _ _ _ _ _ _ (by decide), State.fill_ddThr,
    State.rd_wr_fits _ _ _ _ (by decide) (b2n_lt_two fill)]

theorem State.en_fillShown (s : State) (d : Nat) (fill : Bool) : (s.fillShown d fill).is F.DD_CTRL_EN d = s.is F.DD_CTRL_EN d :=
  State.is_congr <| (State.reg_wr_reg _ _ _ _ _ _ _ _ (by decide)).trans <|
    (State.reg_ddThr _ (by decide)).trans <| State.reg_wr_reg _ _ _ _ _ _ _ _ (by decide)

theorem State.ddRun_fillShown (s : State) (d : Nat) (fill : Bool) : (s.fillShown d fill).v .ddRun d = s.v .ddRun d :=
  State.v_ddThr _ (by decide)

theorem State.image_fillShown (s : State) (d : Nat) (fill : Bool) : (s.fillShown d fill).part .image = s.part .image := by
  rw [State.fillShown, State.part_wr, State.part_ddThr _ (by decide), State.part_wr]

/-- SCORE_TRIP with one sample of a detector that works. -/
theorem exec_scoreTrip_one {s : State} {d : Nat} (h : s.ddPresent d = true) (t c : Nat) (fill : Bool) :
    exec (.scoreTrip t d fill [c]) s = .next (((s.start t).fillShown d fill).ddSample d (c % 256)) :=
  congrArg Host.Outcome.next (if_pos h)

/-- Settles O35: by what a sample, a calibration and its requests leave of the registers and variables of a detector, and SCORE's hold
of the variable of its ramp. -/
theorem droopAndScore : Obligations.DroopAndScore := by
  refine ⟨?sample, ?hold, ?calibrate, ?request, ?absent, ?stale⟩
  case sample =>
    intro s t d c fill hd
    obtain ⟨l, hl⟩ := State.exists_ddLeaf hd
    have himage := (s.start t).image_fillShown d fill
    have hleaf : ((s.start t).fillShown d fill).ddLeaf d = some l := by rw [State.ddLeaf_congr himage]; exact hl
    have hthr := State.thr_ddSample hleaf (c % 256)
    refine ⟨_, exec_scoreTrip_one hd t c fill, ?_, ?_, fun hc hen hrun => ?_⟩
    · rw [State.rd_congr (hthr ..), State.rd_wr_apart _ _ _ _ _ _ _ _ (by decide) (by decide), State.fill_fillShown]
    · rw [State.rd_congr (hthr ..), State.rd_wr_same _ _ _ _ _ (by decide)]
      exact Nat.mod_mod ..
    · refine State.trip_ddSample hleaf ?_ ?_ ?_
      · rwa [State.rd_congr (hthr ..), State.rd_wr_apart _ _ _ _ _ _ _ _ (by decide) (by decide)] at hc
      · rw [State.en_fillShown]
        exact hen
      · rw [State.par_congr himage, State.ddRun_fillShown]
        exact hrun
  case hold =>
    intro s t l p hcode hramp hhold
    refine ⟨_, congrArg Host.Outcome.next (if_pos ?_), State.v_setV_same ..⟩
    simp [hcode, hramp, hhold]
  case calibrate =>
    intro s t d sum hd hpkg hidle hfuse hfuseAt hrefAt
    refine ⟨_, congrArg Host.Outcome.next (if_pos ?_), ?_, ?_, ?_⟩
    · simp only [Bool.and_eq_true, Bool.or_eq_true]
      exact ⟨⟨⟨⟨⟨hd, hpkg.imp decide_eq_true decide_eq_true⟩, hidle⟩, Nat.beq_eq.mpr hfuse⟩, Nat.ble_eq.mpr hfuseAt⟩,
        Nat.ble_eq.mpr hrefAt⟩
    · simp (disch := decide) only [State.rd_ddThr, State.rd_setV, State.rd_wr_apart, State.rd_wr_same]
    · simp (disch := decide) only [State.rd_ddThr, State.rd_setV, State.rd_wr_apart, State.rd_wr_fits]
    · rw [State.v_ddThr _ (by decide), State.v_setV_var _ _ _ _ _ _ _ _ (by decide), State.v_setV_same]
  case request =>
    intro s t d l p hp hl hpath
    refine answers_commandAt hp rfl (v := (s.start t).setV .ddReq 1 d) ?_ ?_
    · simp [State.ddCalReq, hl, hpath]
    · rw [State.v_answer _ _ _ _ _ (by decide), State.v_setV_same]
  case absent =>
    intro s t d l p hp hl hpath
    refine answers_commandAt hp rfl (v := s.start t) ?_ (frame_answer ..)
    simp [hl, hpath]
  case stale =>
    intro s t d hd ht
    refine ⟨_, congrArg Host.Outcome.next (if_pos ?_), ?_⟩
    · simp [hd, ht]
    · exact (State.rd_evFrom _ _ _ _ _ (by decide)).trans (State.rd_flag_one _ _ _ _ rfl (by decide))

end Sys2Proof.Machine

/-!
PROOFS. RISE and the release of held waves (spec/09_droop_release.md R277 to R288): what the list of requests holds after some of them
have ended, what the opening of one leaves of it, and what the end of a wave hold sends.
-/
namespace Sys2Proof.Machine

/-! ### The list of requests -/

theorem State.rise_congr {s u : State} (h : u.part .sync = s.part .sync) : u.sync.rise = s.sync.rise :=
  congrArg (fun x => x.2.2.2) h

/-- A counter that saturates. -/
theorem State.rd_incSat_same (s : State) (f : Fld) (d i j : Nat) (h : f.lsb + f.w ≤ 64) :
    (s.incSat f d i j).rd f i j = min (2 ^ f.w - 1) (s.rd f i j + d) :=
  s.rd_wr_fits f i j h (Nat.lt_of_le_of_lt (Nat.min_le_left ..) (Nat.sub_lt (Nat.two_pow_pos _) Nat.one_pos))

/-- A request as it is once the live requests that a test selects have ended. -/
def RiseReq.ended (sel : RiseReq → Bool) (q : RiseReq) : RiseReq := if q.live && sel q then { q with live := false } else q

/-- The requests that stay listed when those that a test selects end (09 R279, R280). -/
theorem State.rise_riseStop (s : State) (sel : RiseReq → Bool) :
    (s.riseStop sel).sync.rise = (s.sync.rise.map (RiseReq.ended sel)).filter fun q => q.live || q.post.isNone := by
  unfold State.riseStop
  extract_lets hit listed framed shown
  refine State.rise_congr (s := listed) ?_
  rw [State.part_each _ _ _ _ fun _ _ _ => State.part_when fun _ => State.part_setV .., State.part_each _ _ _ _ fun _ _ _ =>
    State.part_riseShow _ (by decide), State.part_each _ _ _ _ fun _ _ _ => State.part_shapeFrame _ _ _ _ _ (by decide)]

/-- A request that is still live is none of those that end. -/
theorem State.not_sel_of_live {s : State} {sel : RiseReq → Bool} {q : RiseReq} (hq : q ∈ (s.riseStop sel).sync.rise)
    (hl : q.live = true) : sel q = false := by
  rw [State.rise_riseStop] at hq
  obtain ⟨x, -, rfl⟩ := List.mem_map.mp (List.mem_of_mem_filter hq)
  unfold RiseReq.ended at hl ⊢
  split at hl
  · cases hl
  · next hx =>
    rw [if_neg hx]
    simpa [hl] using hx

/-! ### The opening of a request -/

/-- A request of a rail for an object, opened at the present stamp (09 R279, R292). -/
def State.riseReq (s : State) (o r : Nat) : RiseReq :=
  { obj := o, gen := s.objGen o, rail := r, opened := s.time, live := true, post := none, stop := none,
    amp := s.shp 0x0001 r 2 40, life := s.shp 0x0004 r 2 20000, after := s.shp 0x0005 r 2 2000 }

/-- A request that opens is listed behind the others, and counted. -/
theorem State.riseOpen_opens {s : State} {o r c di : Nat} (hen : s.is F.SHP_CTRL_RISE_EN = true) (hexh : s.is F.RAIL_RISE_EXH r = false)
    (hpkg : s.pkg = Pkg.run ∨ s.pkg = Pkg.hold)
    (hnew : (s.sync.rise.any fun q => Nat.beq q.obj o && Nat.beq q.gen (s.objGen o) && Nat.beq q.rail r && q.post.isNone) = false)
    (hslot : s.slotOf o = some c) (hstep : s.riseStep o c r = some di) (hdi : di ≠ 0) (hthr : s.shp 0x0006 r 4 0xFFFF_FFFF ≤ di) :
    (s.riseOpen o r).sync.rise = s.sync.rise ++ [s.riseReq o r]
      ∧ (s.riseOpen o r).rd F.SHP_STATUS_RISE_REQS
        = min (2 ^ F.SHP_STATUS_RISE_REQS.w - 1) (s.rd F.SHP_STATUS_RISE_REQS + 1) := by
  unfold State.riseOpen
  extract_lets g thr may
  have hmay : may = true := by
    simp only [may, Bool.and_eq_true, Bool.or_eq_true, Bool.not_eq_true']
    exact ⟨⟨⟨hen, hexh⟩, hpkg.imp decide_eq_true decide_eq_true⟩, hnew⟩
  rw [hslot]
  dsimp only
  rw [hstep]
  dsimp only
  rw [if_neg (by simp [hmay]), if_neg (by simp [thr, hdi, Nat.not_lt.mpr hthr])]
  refine ⟨?_, ?_⟩
  · refine State.rise_congr (s := ((s.predNote r di).setV .riseSlew (s.shp 0x0002 r 1 10) r).setRise _) ?_
    rw [State.part_riseShow _ (by decide), State.part_shapeFrame _ _ _ _ _ (by decide), State.part_shedAbort _ (by decide)]
    exact State.part_wr ..
  · simp (disch := decide) only [State.rd_riseShow, State.rd_shapeFrame, State.rd_shedAbort, State.rd_incSat_same, State.rd_setRise,
      State.rd_setV, State.rd_predNote]

/-! ### The release of a held wave -/

/-- The limit of a sub-gate is formed without anything being sent. -/
theorem State.out_gateEff (s : State) (l q : Nat) : (s.gateEff l q).out = s.out := by
  unfold State.gateEff
  extract_lets acct
  split
  rw [State.out_wr, State.out_wr, State.out_effAcct]

/-- The end of a wave hold gives the sub-gate its status. -/
theorem State.out_waveEnd (s : State) (l q : Nat) : (s.waveEnd l q).out = s.out ++ [.srsp l q (s.vn .wvStat l q)] := by
  rw [State.waveEnd, State.heldShow, State.out_wr, State.issueDrive, State.out_setV, State.addV, State.out_setV, State.out_gateEff,
    State.out_setV, State.out_gateRsp]

theorem State.proofHold_waveEnd (s : State) (l q : Nat) : (s.waveEnd l q).v .proofHold l q = 0 := by
  unfold State.waveEnd
  extract_lets told free
  have hfree : free.v .proofHold l q = 0 := (State.v_gateEff _ _ (by decide)).trans (State.v_setV_same ..)
  rw [State.v_heldShow _ (by decide), State.v_issueDrive _ _ (by decide), State.v_addV_var _ _ _ _ _ _ _ _ (by decide), hfree]

/-- Settles O36: by which requests a stop leaves, what an opening adds to them, and what a step, an exhaustion and the end of a wave
leave of their registers and variables. -/
theorem riseAndWaves : Obligations.RiseAndWaves := by
  refine ⟨?opens, ?ends, ?timeout, ?step, ?exhausted, ?wave⟩
  case opens =>
    intro s t o r c di harmed hlead hrail hen hexh hpkg hnew hslot hstep hdi hthr
    refine ⟨_, congrArg Host.Outcome.next (if_pos ?_), State.riseOpen_opens (s := s.start t) hen hexh hpkg hnew hslot hstep hdi hthr⟩
    simp only [Bool.and_eq_true]
    exact ⟨⟨decide_eq_true harmed, decide_eq_true hlead⟩, hrail⟩
  case ends =>
    intro s t
    refine ⟨_, rfl, fun q hq hl x hx => ?_⟩
    have hsel := State.not_sel_of_live hq hl
    rw [hx] at hsel
    exact Nat.lt_of_not_le fun h => Bool.false_ne_true (hsel.symm.trans (Nat.ble_eq.mpr h))
  case timeout =>
    intro s t o r q hq hl ho hr hp ht
    have hsel : (Nat.beq q.obj o && Nat.beq q.rail r && q.post.isNone && Nat.ble (q.opened + q.life) (max s.time t)) = true := by
      simp [ho, hr, hp, ht]
    refine ⟨_, congrArg Host.Outcome.next (if_neg ?_), fun hmem => ?_, ?_⟩
    · exact (List.length_pos_of_mem (List.mem_filter.mpr ⟨hq, Bool.and_eq_true_iff.mpr ⟨hl, hsel⟩⟩)).ne'
    · exact Bool.false_ne_true ((State.not_sel_of_live hmem hl).symm.trans hsel)
    · exact (State.rd_riseStop _ (by decide)).trans <| (State.rd_event _ _ (by decide)).trans <|
        State.rd_incSat_same _ _ _ _ _ (by decide)
  case step =>
    intro s t r hoff hdue
    refine ⟨_, congrArg Host.Outcome.next (if_neg ?_), ?_⟩
    · simp only [Bool.or_eq_true, decide_eq_true_eq, not_or, Nat.not_lt]
      exact ⟨hoff, hdue⟩
    · exact (State.v_riseShow _ (by decide)).trans <| (State.v_refForm _ (by decide)).trans <|
        (State.v_setV_var _ _ _ _ _ _ _ _ (by decide)).trans (State.v_setV_same ..)
  case exhausted =>
    intro s t r hexh hexpo
    refine ⟨_, congrArg Host.Outcome.next (if_pos ?_), ?_, ?_⟩
    · simp [hexh, hexpo]
    · exact (State.rd_event _ _ (by decide)).trans <| (State.rd_flag_apart _ _ _ _ _ _ _ _ (by decide) (by decide)).trans <|
        State.rd_wr_fits _ _ _ _ (by decide) (by decide)
    · exact (State.rd_event _ _ (by decide)).trans (State.rd_flag_one _ _ _ _ rfl (by decide))
  case wave =>
    intro s t l q hheld ht hstop
    refine ⟨_, congrArg Host.Outcome.next (if_pos ?_), State.proofHold_waveEnd .., ?_⟩
    · simp [hheld, ht, hstop]
    · rw [State.out_waveEnd]
      exact List.mem_append_right _ (List.mem_singleton_self _)

end Sys2Proof.Machine

/-!
PROOFS. The steps of a rail and of its phase channels (spec/10_rail_control.md R309 to R330): what a cycle start leaves of the cycle that
ended, what a loop sample in MEASURE and the end of MEASURE store, and what a step of the reference, the entry to ON and a phase fault show.
-/
namespace Sys2Proof.Machine

/-! ### Work after which no ramp and no ramp-down goes on -/

/-- Where no ramp and no ramp-down runs, what goes on after a command's own work is a planned reset of an island. -/
theorem answers_pkgRun {g : Foot} {s u : State} {t : Nat} {c : Instr} {Q : State → Prop} (hs : s.pkg ≠ Pkg.ramp) (hn : s.v .downFor = 0)
    (he : exec c s = .next u.pkgRun) (h : Does g (s.start t) u) (hr : g.hasR .HUB_PKG_STATE = false) (hd : g.hasV .downFor = false)
    (hq : Q u.islPlanRun) : Answers c s Q := by
  have hpkg : u.pkg = s.pkg := State.pkg_congr (h.reg hr ..)
  refine ⟨_, he, ?_⟩
  rwa [State.pkgRun, State.rampRun_of_not_ramp (hpkg ▸ hs), State.downRun_of_none ((h.v hd ..).trans hn)]

/-! ### Fields -/

/-- Work that is done only where a condition holds leaves the fields that it leaves when it is done. -/
theorem State.rd_when_keeps {s : State} {c : Bool} {op : State → State} {f : Fld} {i j : Nat} (h : ∀ u, (op u).rd f i j = u.rd f i j) :
    (s.when c op).rd f i j = s.rd f i j := by
  unfold State.when
  split
  · exact h s
  · rfl

theorem State.rd_addV (s : State) (x : Var) (d : Int) (i j : Nat) (f : Fld) (a b : Nat) : (s.addV x d i j).rd f a b = s.rd f a b := rfl

theorem State.rdI_congr {s u : State} {f : Fld} {i j : Nat} (h : u.rd f i j = s.rd f i j) : u.rdI f i j = s.rdI f i j :=
  congrArg (toSigned f.w) h

/-- A number that fits a signed width comes back from its two's complement. -/
theorem toSigned_ofSigned {w : Nat} {x : Int} (hw : 0 < w) (hlo : -((2 ^ (w - 1) : Nat) : Int) ≤ x)
    (hhi : x < ((2 ^ (w - 1) : Nat) : Int)) : toSigned w (ofSigned w x) = x := by
  obtain ⟨n, rfl⟩ : ∃ n, w = n + 1 := ⟨w - 1, by omega⟩
  rw [Nat.add_sub_cancel] at hlo hhi
  have hpow : 2 ^ (n + 1) = 2 * 2 ^ n := Nat.pow_succ'
  have hmod : (x % (2 ^ (n + 1) : Nat)).toNat % 2 ^ (n + 1) = (x % (2 ^ (n + 1) : Nat)).toNat := Nat.mod_eq_of_lt (by omega)
  rw [toSigned, ofSigned, hmod, Nat.add_sub_cancel]
  obtain hx | hx := Int.lt_or_le x 0
  · rw [← Int.add_emod_right, Int.emod_eq_of_lt (by omega) (by omega), if_neg (by omega)]
    omega
  · rw [Int.emod_eq_of_lt hx (by omega), if_pos (by omega)]
    omega

/-- A saturated number lies within its width. -/
theorem satS_mem (w : Nat) (x : Int) : -((2 ^ (w - 1) : Nat) : Int) ≤ satS w x ∧ satS w x < ((2 ^ (w - 1) : Nat) : Int) := by
  have := Nat.two_pow_pos (w - 1)
  unfold satS clampInt
  split
  · omega
  · split <;> omega

/-- A field that was set to a saturated number reads as that number. -/
theorem State.rdI_wrI_satS (s : State) (f : Fld) (x : Int) (i j : Nat) (h : f.lsb + f.w ≤ 64) (hw : 0 < f.w) :
    (s.wrI f (satS f.w x) i j).rdI f i j = satS f.w x := by
  obtain ⟨hlo, hhi⟩ := satS_mem f.w x
  rw [State.rdI, State.wrI, State.rd_wr_fits _ _ _ _ h]
  · exact toSigned_ofSigned hw hlo hhi
  · unfold ofSigned
    have := Nat.two_pow_pos f.w
    omega

/-! ### The stamp -/

theorem State.time_when {s : State} {c : Bool} {op : State → State} (h : ∀ u, (op u).time = u.time) : (s.when c op).time = s.time := by
  unfold State.when
  split
  · exact h s
  · rfl

theorem State.time_invNote (s : State) (r k j : Nat) : (s.invNote r k j).time = s.time := by
  unfold State.invNote
  split <;> rfl

/-! ### The cycles of a phase channel -/

/-- A channel that leaves service shows that in PHST, and its other fields stay. -/
theorem State.rd_phOut_apart (s : State) (p st off : Nat) {f : Fld} (hd : F.PH_STAT_PHST.lsb + F.PH_STAT_PHST.w ≤ f.lsb) (i j : Nat) :
    (s.phOut p st off).rd f i j = s.rd f i j := by
  simp only [State.phOut, State.rd_setV]
  exact State.rd_wr_apart _ _ _ _ _ _ _ _ (by decide) (.inr hd)

theorem State.phst_phOut (s : State) (p off : Nat) {st : Nat} (h : st < 4) : (s.phOut p st off).rd F.PH_STAT_PHST p = st := by
  simp only [State.phOut, State.rd_setV]
  exact State.rd_wr_fits _ _ _ _ (by decide) h

/-- Of PH_STAT the end of a shed changes only PHST. -/
theorem State.rd_shedDisable_apart (s : State) (r : Nat) {f : Fld} (hf : f.r = .PH_STAT)
    (hd : F.PH_STAT_PHST.lsb + F.PH_STAT_PHST.w ≤ f.lsb) (i j : Nat) :
    (s.shedDisable r).rd f i j = s.rd f i j := by
  have hfoot {g : Foot} (h : g.hasR .PH_STAT = false) : g.hasR f.r = false := hf ▸ h
  unfold State.shedDisable
  extract_lets n out shown
  calc ((shown.incSat F.RAIL_SHED_STAT_SHEDS 1 r).shedIdle r |>.setV .shedPendAt (-1) r).rd f i j
    _ = (shown.incSat F.RAIL_SHED_STAT_SHEDS 1 r).rd f i j := (State.rd_setV ..).trans (State.rd_shedIdle _ (hfoot (by decide)))
    _ = shown.rd f i j := State.rd_wr_reg _ _ _ _ _ _ _ _ (by rw [hf]; decide)
    _ = (out.phShow r).rd f i j := (State.rd_railFrame _ _ (hfoot (by decide))).trans (State.rd_phScale _ _ (hfoot (by decide)))
    _ = out.rd f i j := State.rd_phShow _ (hfoot (by decide))
    _ = s.rd f i j := State.rd_each _ _ _ _ _ _ fun _ _ _ => State.rd_phOut_apart _ _ _ _ hd _ _

/-- What a cycle start does to a channel whose PHST was a code when its last cycle ended: the channel stops, or its position is shed, or
it starts a cycle (10 R309, R322, R325). -/
def State.cycleTurn (s : State) (p r tick st : Nat) : State :=
  if s.v .phStop p = 1 then ((s.phOut p 0 s.time).phShow r).gridCheck r
  else if st = 2 && s.shedReady r tick then s.shedEdge r
  else s.cycleStart p r tick

/-- What a cycle start may change after the last cycle has ended. -/
def Foot.cycleTurn : Foot :=
  ⟨Nat.lor Foot.shedEdge.regs Foot.cycleStart.regs, Nat.lor Foot.shedEdge.vars Foot.cycleStart.vars,
    Nat.lor Foot.shedEdge.parts Foot.cycleStart.parts⟩

section
variable (s : State) (p r tick st : Nat)

theorem does_cycleTurn : Does Foot.cycleTurn s (s.cycleTurn p r tick st) :=
  .ite (.gridCheck (.phShow (.phOut (.refl _ s) (by decide) _ _ _) (by decide) _) (by decide) _)
    (.ite (.shedEdge (.refl _ s) (by decide) _) (.cycleStart (.refl _ s) (by decide) _ _ _))

/-- Of PH_STAT a cycle start changes at most PHST. -/
theorem State.rd_cycleTurn_apart {f : Fld} (hf : f.r = .PH_STAT)
    (hd : F.PH_STAT_PHST.lsb + F.PH_STAT_PHST.w ≤ f.lsb) (i j : Nat) :
    (s.cycleTurn p r tick st).rd f i j = s.rd f i j := by
  have hfoot {g : Foot} (h : g.hasR .PH_STAT = false) : g.hasR f.r = false := hf ▸ h
  unfold State.cycleTurn State.shedEdge
  split
  · exact (State.rd_gridCheck _ (hfoot (by decide))).trans <| (State.rd_phShow _ (hfoot (by decide))).trans <|
      State.rd_phOut_apart _ _ _ _ hd _ _
  · split
    · split
      · rfl
      · exact State.rd_shedDisable_apart _ _ hf hd _ _
    · exact State.rd_cycleStart _ _ _ (hfoot (by decide))

/-- A channel that goes on starts its cycle at the tick, with PWM high. -/
theorem State.v_cycleStart_starts : (s.cycleStart p r tick).v .phStart p = tick ∧ (s.cycleStart p r tick).v .phPwm p = 1 := by
  unfold State.cycleStart
  extract_lets u started
  have hkeep {x : Var} (h1 : x ≠ .phOnGrid) (h2 : Foot.gridCheck.hasV x = false) :
      (started.when (started.v .railRegrid r = 1) fun s => (s.setV .phOnGrid 1 p).gridCheck r).v x p = started.v x p :=
    State.v_when_keeps fun v => (State.v_gridCheck _ h2).trans (State.v_setV_var _ _ _ _ _ _ _ _ h1)
  constructor
  · rw [hkeep (by decide) (by decide)]
    exact State.v_setV_same ..
  · rw [hkeep (by decide) (by decide)]
    dsimp only [started]
    rw [State.v_setV_var _ _ _ _ _ _ _ _ (by decide), State.v_setV_var _ _ _ _ _ _ _ _ (by decide), State.v_setV_same]

end

/-- The cycle that ends at a channel, by the currents that its stage showed. -/
def State.cycleOf (s : State) (p r : Nat) (cur : List (Nat × Int)) : Cyc :=
  cycRun ⟨s.v .phU p, s.rd F.RAIL_PCM_SLOPE r, s.ipkLim r, s.negLim r, s.perTicks r, s.is F.RAIL_STATE_NOSINK r⟩ cur

section
variable (s : State) (p r : Nat) (cur : List (Nat × Int)) (mean : Int) (inv : Bool)

/-- The mean sample of the cycle that ended is stored. -/
theorem State.rdI_cycleDone_sample : (s.cycleDone p r cur mean inv).rdI F.PH_SAMPLE_I p = satS 32 mean := by
  have hrd : (s.cycleDone p r cur mean inv).rd F.PH_SAMPLE_I p = (s.wrI F.PH_SAMPLE_I (satS 32 mean) p).rd F.PH_SAMPLE_I p := by
    simp (disch := decide) only [State.cycleDone, State.when, State.rd_ite, State.rd_addV, State.rd_setV, State.rd_invNote,
      State.rd_flag_reg, State.incSat, State.rd_wr_reg, ite_self]
  exact (State.rdI_congr hrd).trans (State.rdI_wrI_satS _ F.PH_SAMPLE_I _ _ _ (by decide) (by decide))

/-- It is counted in its interval. -/
theorem State.phN_cycleDone : (s.cycleDone p r cur mean inv).v .phN p (s.time / 1000) = s.v .phN p (s.time / 1000) + 1 := by
  unfold State.cycleDone
  extract_lets y stored turned met ran neg flagged k
  have hflagged : flagged.v .phN p (s.time / 1000) = s.v .phN p (s.time / 1000) := by
    simp (disch := decide) only [flagged, neg, ran, met, turned, stored, State.when, State.v_ite, State.v_setV_var, State.v_invNote,
      State.v_flag, State.incSat, State.wrI, State.v_wr, ite_self]
  have htime : flagged.time = s.time := by
    calc flagged.time
      _ = neg.time := State.time_when fun _ => State.time_invNote ..
      _ = met.time := State.time_when fun _ => rfl
      _ = s.time := State.time_when fun _ => rfl
  rw [← htime] at hflagged ⊢
  rw [State.v_addV_same, State.v_addV_var _ _ _ _ _ _ _ _ (by decide), State.v_setV_var _ _ _ _ _ _ _ _ (by decide), hflagged]

/-- Its on-time is kept. -/
theorem State.phTon_cycleDone : (s.cycleDone p r cur mean inv).v .phTon p = (s.cycleOf p r cur).ton := by
  unfold State.cycleDone
  extract_lets y stored turned met ran neg flagged k
  simp (disch := decide) only [flagged, neg, ran, met, turned, State.addV, State.when, State.v_ite, State.v_setV_var, State.v_invNote,
    State.v_flag, State.incSat, State.v_wr, ite_self]
  exact State.v_setV_same ..

theorem State.cbc_cycleDone (h : (s.cycleOf p r cur).cbc = true) : (s.cycleDone p r cur mean inv).rd F.PH_STAT_CBC_SEEN p = 1 := by
  change (cycRun _ cur).cbc = true at h
  simp (disch := decide) only [State.cycleDone, h, State.when, State.rd_ite, State.rd_addV, State.rd_setV, State.rd_invNote,
    State.rd_flag_apart, State.rd_incSat_apart, State.rd_flag_one, ite_self, if_true]

theorem State.neg_cycleDone (h : (s.cycleOf p r cur).neg = true) : (s.cycleDone p r cur mean inv).rd F.PH_STAT_NEG_SEEN p = 1 := by
  change (cycRun _ cur).neg = true at h
  simp (disch := decide) only [State.cycleDone, h, State.when, State.rd_ite, State.rd_addV, State.rd_setV, State.rd_invNote,
    State.rd_flag_apart, State.rd_flag_one, ite_self, if_true]

end

/-! ### A cycle start -/

/-- A cycle start of a channel in service whose cycle ends there. -/
theorem State.phaseCycle_eq {s : State} {p tick : Nat} (hp : (s.inst? 0x0A p).isSome = true)
    (hst : s.rd F.PH_STAT_PHST p = 1 ∨ s.rd F.PH_STAT_PHST p = 2) (htick : s.phTick (s.phRail p) p = some tick)
    (hcyc : 0 ≤ s.v .phStart p) (cur : List (Nat × Int)) (mean : Int) (inv : Bool) :
    s.phaseCycle p cur mean inv = (s.cycleDone p (s.phRail p) cur mean inv).cycleTurn p (s.phRail p) tick (s.rd F.PH_STAT_PHST p) := by
  unfold State.phaseCycle
  extract_lets st r
  have hdone : (s.when (decide (0 ≤ s.v .phStart p)) fun s => s.cycleDone p r cur mean inv) = s.cycleDone p r cur mean inv :=
    if_pos (decide_eq_true hcyc)
  rw [if_neg, htick]
  · exact congrArg (fun u : State => u.cycleTurn p r tick st) hdone
  · obtain h | h := hst <;> simp [st, Option.isSome_iff_ne_none.mp hp, h]

/-- What a channel shows of a cycle that has ended in interval k: its mean sample, the number of samples of the interval, its on-time and
the limits that it met. -/
structure CycleShown (p k : Nat) (n mean : Int) (y : Cyc) (u : State) : Prop where
  sample : u.rdI F.PH_SAMPLE_I p = satS 32 mean
  count : u.v .phN p k = n
  ton : u.v .phTon p = y.ton
  cbc : y.cbc = true → u.rd F.PH_STAT_CBC_SEEN p = 1
  neg : y.neg = true → u.rd F.PH_STAT_NEG_SEEN p = 1

theorem cycleShown_cycleDone (s : State) (p r : Nat) (cur : List (Nat × Int)) (mean : Int) (inv : Bool) :
    CycleShown p (s.time / 1000) (s.v .phN p (s.time / 1000) + 1) mean (s.cycleOf p r cur) (s.cycleDone p r cur mean inv) :=
  ⟨s.rdI_cycleDone_sample .., s.phN_cycleDone .., s.phTon_cycleDone .., fun h => s.cbc_cycleDone _ _ _ _ _ h,
    fun h => s.neg_cycleDone _ _ _ _ _ h⟩

/-- Work that leaves what is shown. -/
theorem CycleShown.keep {p k : Nat} {n mean : Int} {y : Cyc} {s u : State} (h : CycleShown p k n mean y s) {g : Foot} (hu : Does g s u)
    (hsample : g.hasR .PH_SAMPLE = false) (hcount : g.hasV .phN = false) (hton : g.hasV .phTon = false)
    (hcbc : u.rd F.PH_STAT_CBC_SEEN p = s.rd F.PH_STAT_CBC_SEEN p) (hneg : u.rd F.PH_STAT_NEG_SEEN p = s.rd F.PH_STAT_NEG_SEEN p) :
    CycleShown p k n mean y u :=
  ⟨(State.rdI_congr (hu.rd hsample ..)).trans h.sample, (hu.v hcount ..).trans h.count, (hu.v hton ..).trans h.ton,
    fun hy => hcbc.trans (h.cbc hy), fun hy => hneg.trans (h.neg hy)⟩

/-- The channel that goes on starts its next cycle. -/
theorem State.cycleTurn_goes {s : State} {p : Nat} (h : s.v .phStop p = 0) (r tick : Nat) :
    s.cycleTurn p r tick 1 = s.cycleStart p r tick := by
  simp [State.cycleTurn, h]

/-! ### A loop sample in MEASURE -/

/-- A rail at its loop sample: the sample is noted, and the parameters of a delta that waited for it take effect (10 R332, R333). -/
def State.railLoaded (s : State) (r tick : Nat) : State :=
  (s.setV .rlTick tick r).each (s.img.railPend.filter fun x => Nat.beq x.1 r) fun s x => s.railKeyLoad r x.2

theorem does_railLoaded (s : State) (r tick : Nat) : Does Foot.railKeyLoad (s.setV .rlTick tick r) (s.railLoaded r tick) :=
  .each (.refl _ _) _ _ fun _ x _ h => .railKeyLoad h (Foot.le_refl _) r x.2

theorem State.monitored_congr {s u : State} (h : u.part .image = s.part .image) : u.monitored = s.monitored := by
  have ha : u.img.active = s.img.active := congrArg Prod.fst h
  funext r
  simp only [State.monitored, State.rail?, State.rails, ha]

/-- A sample in MEASURE that is still wanted is shown, summed and counted (10 R319). -/
theorem State.loopSample_measure {s : State} {r tick : Nat} (hr : (s.rail? r).isSome = true) (hm : s.monitored r = false)
    (hst : s.railSt r = Rs.measure) (hcount : s.v .measN r < 16) (htick : s.rlTick r = some tick) (vs : Nat) :
    s.loopSample r vs false
      = (((s.railLoaded r tick).wr F.RAIL_STATE_VSENSE (min 4095 vs) r).addV .measSum vs r).addV .measN 1 r := by
  have hload := does_railLoaded s r tick
  have hst' : (s.railLoaded r tick).railSt r = Rs.measure := (hload.rd (by decide) ..).trans hst
  have hm' : ((s.railLoaded r tick).wr F.RAIL_STATE_VSENSE (min 4095 vs) r).monitored r = false := by
    rw [State.monitored_congr ((State.part_wr ..).trans ((hload.parts _ (by decide)).trans (State.part_setV ..)))]
    exact hm
  have hcount' : ((s.railLoaded r tick).wr F.RAIL_STATE_VSENSE (min 4095 vs) r).v .measN r < 16 := by
    rwa [State.v_wr, hload.v (by decide), State.v_setV_var _ _ _ _ _ _ _ _ (by decide)]
  unfold State.loopSample
  rw [if_neg (by simp [Option.isSome_iff_ne_none.mp hr]), htick]
  have hup : ¬ ((s.railLoaded r tick).railSt r = Rs.off || (s.railLoaded r tick).railSt r = Rs.halt) = true := by
    rw [hst']
    decide
  exact (if_neg (ne_true_of_eq_false hm')).trans <| (if_neg hup).trans <| (if_neg Bool.false_ne_true).trans <|
    (if_pos hst').trans (if_pos hcount')

/-- What a loop sample of a rail in MEASURE leaves to read. -/
theorem State.measured_loopSample {s : State} {r tick : Nat} (hr : (s.rail? r).isSome = true) (hm : s.monitored r = false)
    (hst : s.railSt r = Rs.measure) (hcount : s.v .measN r < 16) (htick : s.rlTick r = some tick) (vs : Nat) :
    (s.loopSample r vs false).v .rlTick r = tick ∧ (s.loopSample r vs false).rd F.RAIL_STATE_VSENSE r = min 4095 vs
      ∧ (s.loopSample r vs false).v .measSum r = s.v .measSum r + vs ∧ (s.loopSample r vs false).v .measN r = s.v .measN r + 1 := by
  have hload := does_railLoaded s r tick
  rw [State.loopSample_measure hr hm hst hcount htick]
  refine ⟨?tick, ?vsense, ?sum, ?count⟩
  case tick =>
    rw [State.v_addV_var _ _ _ _ _ _ _ _ (by decide), State.v_addV_var _ _ _ _ _ _ _ _ (by decide), State.v_wr, hload.v (by decide),
      State.v_setV_same]
  case vsense =>
    rw [State.rd_addV, State.rd_addV, State.rd_wr_fits _ _ _ _ (by decide) (Nat.lt_succ_of_le (Nat.min_le_left ..))]
  case sum =>
    rw [State.v_addV_var _ _ _ _ _ _ _ _ (by decide), State.v_addV_same, State.v_wr, hload.v (by decide),
      State.v_setV_var _ _ _ _ _ _ _ _ (by decide)]
  case count =>
    rw [State.v_addV_same, State.v_addV_var _ _ _ _ _ _ _ _ (by decide), State.v_wr, hload.v (by decide),
      State.v_setV_var _ _ _ _ _ _ _ _ (by decide)]

/-! ### What changes of state leave of RAIL_STATE -/

/-- Power good shown leaves the rest of RAIL_STATE. -/
theorem State.reg_pgSet_state (s : State) (r : Nat) (pg : Bool) (i j : Nat) :
    (s.pgSet r pg).reg .RAIL_STATE i j = (s.wr F.RAIL_STATE_PG (b2n pg) r).reg .RAIL_STATE i j := by
  unfold State.pgSet
  extract_lets was shown
  split
  · exact (State.reg_invNote _ _ _ (by decide)).trans (State.reg_setV ..)
  · split
    · exact (State.reg_invNote _ _ _ (by decide)).trans (State.reg_setV ..)
    · rfl

/-- The entry to a state shows the state, takes power good back, and says whether the rail sinks; the islands that it holds in reset
leave RAIL_STATE. -/
theorem State.reg_railTo_state (s : State) (r st i j : Nat) : (s.railTo r st).reg .RAIL_STATE i j =
    (((s.wr F.RAIL_STATE_STATE st r).pgSet r false).wr F.RAIL_STATE_NOSINK (b2n (st = Rs.startNs)) r).reg .RAIL_STATE i j :=
  State.reg_when_keeps fun _ => State.reg_rstSync (by decide)

/-! ### The end of MEASURE -/

section
variable (s : State) (r : Nat)

theorem State.vPre_railTo (st i : Nat) : (s.railTo r st).rd F.RAIL_STATE_V_PRE i = s.rd F.RAIL_STATE_V_PRE i := by
  rw [State.rd_congr (State.reg_railTo_state ..), State.rd_wr_apart _ _ _ _ _ _ _ _ (by decide) (by decide),
    State.rd_congr (State.reg_pgSet_state ..)]
  simp (disch := decide) only [State.rd_wr_apart]

theorem State.vPre_phShow (i : Nat) : (s.phShow r).rd F.RAIL_STATE_V_PRE i = s.rd F.RAIL_STATE_V_PRE i := by
  simp (disch := decide) only [State.phShow, State.rd_wr_apart, State.rd_wr_reg]

theorem State.vPre_refPass (i : Nat) : (s.refPass r).rd F.RAIL_STATE_V_PRE i = s.rd F.RAIL_STATE_V_PRE i := by
  simp only [State.refPass, State.rd_ite, State.vPre_railTo, ite_self]

/-- A rail that loses its reference keeps what it measured. -/
theorem State.vPre_railDown (st i : Nat) : (s.railDown r st).rd F.RAIL_STATE_V_PRE i = s.rd F.RAIL_STATE_V_PRE i := by
  unfold State.railDown
  extract_lets aborted entered out unref fresh idle
  calc (((idle.refForm r).phShow r).gridCheck r).rd F.RAIL_STATE_V_PRE i
    _ = out.rd F.RAIL_STATE_V_PRE i := by
      simp (disch := decide) only [State.rd_gridCheck, State.vPre_phShow, State.rd_refForm, idle, fresh, unref, State.rd_setV,
        State.rd_wr_reg]
    _ = entered.rd F.RAIL_STATE_V_PRE i := State.rd_each _ _ _ _ _ _ fun u p _ => by
      simp (disch := decide) only [State.rd_ite, State.rd_setV, State.rd_phOut, ite_self]
    _ = s.rd F.RAIL_STATE_V_PRE i := by
      simp (disch := decide) only [entered, aborted, State.rd_shedIdle, State.vPre_railTo, State.rd_shedAbort]

theorem State.vPre_haltReq (i : Nat) : (s.haltReq r).rd F.RAIL_STATE_V_PRE i = s.rd F.RAIL_STATE_V_PRE i := by
  simp (disch := decide) only [State.haltReq, State.rd_ite, State.rd_railFrame, State.rd_event, State.rd_flag_apart,
    State.vPre_railDown, ite_self]

/-- The end of MEASURE stores the mean of its samples (10 R319). -/
theorem State.vPre_measDone {s : State} {r : Nat} (hst : s.railSt r = Rs.measure) (hcount : 16 ≤ s.v .measN r) :
    (s.measDone r).rd F.RAIL_STATE_V_PRE r = (roundDiv (s.v .measSum r) 16).toNat % 4096 := by
  unfold State.measDone
  rw [if_pos (by simp [hst, hcount])]
  extract_lets v entered on zeroed based shown
  have hshown : shown.rd F.RAIL_STATE_V_PRE r = v % 4096 := calc
    shown.rd F.RAIL_STATE_V_PRE r
    _ = on.rd F.RAIL_STATE_V_PRE r := by
      simp (disch := decide) only [shown, based, zeroed, State.vPre_phShow, State.rd_refForm, State.rd_setV, State.rd_wr_reg]
    _ = entered.rd F.RAIL_STATE_V_PRE r := State.rd_each _ _ _ _ _ _ fun _ _ _ => State.rd_phIn1 _ (by decide)
    _ = v % 4096 := (State.vPre_railTo ..).trans (State.rd_wr_same _ _ _ _ _ (by decide))
  rw [State.rd_ite, State.vPre_haltReq, State.vPre_refPass, ite_self, hshown]

end

/-! ### A step of the reference -/

theorem State.baseRef_refForm (s : State) (r i : Nat) : (s.refForm r).rd F.RAIL_VSEL_BASE_REF i = s.rd F.RAIL_VSEL_BASE_REF i := by
  simp (disch := decide) only [State.refForm, State.when, State.rd_wr_reg, State.rd_wr_apart, State.rd_ite, State.rd_setV, ite_self]

theorem State.baseRef_slewTo (s : State) (r : Nat) {x : Nat} (h : x < 4096) : (s.slewTo r x).rd F.RAIL_VSEL_BASE_REF r = x := by
  rw [State.slewTo, State.baseRef_refForm, State.rd_setV, State.rd_wr_fits _ _ _ _ (by decide) h]

/-- Of RAIL_VSEL the arrival at the target sets only DONE. -/
theorem State.rd_targetReached_apart (s : State) (r : Nat) {f : Fld} (hf : f.r = .RAIL_VSEL)
    (hd : f.lsb + f.w ≤ F.RAIL_VSEL_DONE.lsb ∨ F.RAIL_VSEL_DONE.lsb + F.RAIL_VSEL_DONE.w ≤ f.lsb) (i j : Nat) :
    (s.targetReached r).rd f i j = s.rd f i j := by
  have hfoot {g : Foot} (h : g.hasR .RAIL_VSEL = false) : g.hasR f.r = false := hf ▸ h
  unfold State.targetReached
  extract_lets told framed
  calc (framed.slotHold r _).rd f i j
    _ = told.rd f i j := (State.rd_slotHold _ _ (hfoot (by decide))).trans (State.rd_railFrame _ _ (hfoot (by decide)))
    _ = (s.wr F.RAIL_VSEL_DONE 1 r).rd f i j := State.rd_event _ _ (hfoot (by decide))
    _ = s.rd f i j := State.rd_wr_apart _ _ _ _ _ _ _ _ (by decide) hd

/-- A rail in ON whose step is due moves its base reference by one code toward the target (10 R314). -/
theorem State.baseRef_slewStep {s : State} {r k : Nat} (hst : s.railSt r = Rs.on)
    (hne : s.rd F.RAIL_VSEL_BASE_REF r ≠ s.rd F.RAIL_VSEL_BASE_TGT r)
    (hk : (if s.rd F.RAIL_VSEL_BASE_REF r < s.rd F.RAIL_VSEL_BASE_TGT r then 0 else 1) = k)
    (hdue : s.vn .slewAt r + stepNs (s.slewRate r k) ≤ s.time) :
    (s.slewStep r).rd F.RAIL_VSEL_BASE_REF r = if s.rd F.RAIL_VSEL_BASE_REF r < s.rd F.RAIL_VSEL_BASE_TGT r
      then s.rd F.RAIL_VSEL_BASE_REF r + 1 else s.rd F.RAIL_VSEL_BASE_REF r - 1 := by
  have hvb : s.rd F.RAIL_VSEL_BASE_REF r < 4096 := s.rd_lt F.RAIL_VSEL_BASE_REF r 0
  have htgt : s.rd F.RAIL_VSEL_BASE_TGT r < 4096 := s.rd_lt F.RAIL_VSEL_BASE_TGT r 0
  subst hk
  unfold State.slewStep
  extract_lets st vb due b moved
  rw [if_pos hst, if_neg hne, if_pos (Nat.ble_eq.mpr hdue), State.rd_ite, State.rd_targetReached_apart _ _ rfl (by decide),
    ite_self]
  exact State.baseRef_slewTo _ _ (by split <;> omega)

/-! ### A rail that has reached its target -/

/-- A rail that enters ON shows it, with power good (10 R321). -/
theorem State.on_railOn (s : State) (r : Nat) : (s.railOn r).railSt r = Rs.on ∧ (s.railOn r).rd F.RAIL_STATE_PG r = 1 := by
  have hreg : (s.railOn r).reg .RAIL_STATE r = ((s.railTo r Rs.on).wr F.RAIL_STATE_PG 1 r).reg .RAIL_STATE r := by
    unfold State.railOn
    extract_lets entered b targeted done
    calc (done.refForm r).reg .RAIL_STATE r
      _ = targeted.reg .RAIL_STATE r := by
        simp (disch := decide) only [State.reg_refForm, done, State.reg_ite, State.reg_targetReached, State.reg_wr_reg, ite_self]
      _ = entered.reg .RAIL_STATE r := by
        simp (disch := decide) only [targeted, State.reg_ddRail, State.reg_setV, State.reg_wr_reg]
      _ = _ := State.reg_pgSet_state ..
  constructor
  · rw [State.railSt, State.rd_congr hreg, State.rd_wr_apart _ _ _ _ _ _ _ _ (by decide) (by decide),
      State.rd_congr (State.reg_railTo_state ..), State.rd_wr_apart _ _ _ _ _ _ _ _ (by decide) (by decide),
      State.rd_congr (State.reg_pgSet_state ..), State.rd_wr_apart _ _ _ _ _ _ _ _ (by decide) (by decide)]
    exact State.rd_wr_fits _ _ _ _ (by decide) (by decide)
  · rw [State.rd_congr hreg]
    exact State.rd_wr_fits _ _ _ _ (by decide) (by decide)

/-- A rail that has been in range at its start target for its delay enters ON. -/
theorem State.targetPg_due {s : State} {r : Nat} (hst : s.railSt r = Rs.startNs ∨ s.railSt r = Rs.soft)
    (href : s.rd F.RAIL_VSEL_REF r = s.startTarget r) (h0 : 0 ≤ s.v .pgFrom r) (hdue : s.v .pgFrom r + 1000 * s.pgDly r ≤ s.time) :
    s.targetPg r = s.railOn r := by
  refine if_pos ?_
  simp [hst, href, h0, hdue]

/-! ### A phase fault -/

/-- Of PH_STAT the abort of a shed changes only PHST. -/
theorem State.rd_shedAbort_apart (s : State) (r : Nat) {f : Fld} (hf : f.r = .PH_STAT)
    (hd : F.PH_STAT_PHST.lsb + F.PH_STAT_PHST.w ≤ f.lsb) (i j : Nat) : (s.shedAbort r).rd f i j = s.rd f i j := by
  have hfoot {g : Foot} (h : g.hasR .PH_STAT = false) : g.hasR f.r = false := hf ▸ h
  unfold State.shedAbort
  split
  · extract_lets begun back counted
    calc ((counted.railFrame r 4).shedIdle r).rd f i j
      _ = counted.rd f i j := (State.rd_shedIdle _ (hfoot (by decide))).trans (State.rd_railFrame _ _ (hfoot (by decide)))
      _ = back.rd f i j := (State.rd_event _ _ (hfoot (by decide))).trans (State.rd_wr_reg _ _ _ _ _ _ _ _ (by rw [hf]; decide))
      _ = s.rd f i j := State.rd_each _ _ _ _ _ _ fun _ _ _ => State.rd_wr_apart _ _ _ _ _ _ _ _ (by decide) (.inr hd)
  · rfl

/-- The enabled channels of a rail follow the image and PHST. -/
theorem State.phOn_congr {s u : State} (hi : u.part .image = s.part .image) (hr : ∀ i, u.reg .PH_STAT i = s.reg .PH_STAT i) :
    u.phOn = s.phOn := by
  have ha : u.img.active = s.img.active := congrArg Prod.fst hi
  funext r
  simp only [State.phOn, State.railPhases, State.instsOf, State.insts, ha, State.rd, hr]

/-- Where a rail has no enabled channel none of its channels is being shed. -/
theorem State.phIn_two_of_phOn {s : State} {r : Nat} (h : s.phOn r = []) : s.phIn r 2 = [] :=
  List.filter_eq_nil_iff.mpr fun p hp h2 => List.filter_eq_nil_iff.mp h p hp (Bool.or_eq_true_iff.mpr (.inr h2))

/-- Where a rail has no enabled channel the abort of a shed changes no channel. -/
theorem State.phStat_shedAbort {s : State} {r : Nat} (h : s.phOn r = []) (i j : Nat) :
    (s.shedAbort r).reg .PH_STAT i j = s.reg .PH_STAT i j := by
  have hnone : (s.setV .shedPendAt (-1) r).phIn r 2 = [] := State.phIn_two_of_phOn h
  simp (disch := decide) only [State.shedAbort, hnone, State.each, List.foldl_nil, State.reg_ite, State.reg_shedIdle,
    State.reg_railFrame, State.reg_event, State.incSat, State.reg_wr_reg, State.reg_setV, ite_self]

/-- Where a rail has no enabled channel its halt changes no channel. -/
theorem State.phStat_haltReq {s : State} {r : Nat} (h : s.phOn r = []) (i j : Nat) :
    (s.haltReq r).reg .PH_STAT i j = s.reg .PH_STAT i j := by
  have hdown : (s.railDown r Rs.halt).reg .PH_STAT i j = s.reg .PH_STAT i j := by
    unfold State.railDown
    extract_lets aborted entered out unref fresh idle
    have hstat (i j : Nat) : entered.reg .PH_STAT i j = s.reg .PH_STAT i j := by
      simp (disch := decide) only [entered, aborted, State.reg_shedIdle, State.reg_railTo, State.phStat_shedAbort h]
    have hon : entered.phOn r = [] := by
      rw [State.phOn_congr (s := s) _ fun i => hstat i 0, h]
      simp (disch := decide) only [entered, aborted, State.part_shedIdle, State.part_railTo, State.part_shedAbort]
    have hout : out = entered := by
      simp only [out, hon, State.each, List.foldl_nil]
    rw [← hstat, ← hout]
    simp (disch := decide) only [State.reg_gridCheck, State.reg_phShow, State.reg_refForm, idle, fresh, unref, State.reg_setV,
      State.reg_wr_reg]
  simp (disch := decide) only [State.haltReq, State.reg_ite, State.reg_railFrame, State.reg_event, State.reg_flag_reg, hdown, ite_self]

/-- A channel that has faulted, before anybody is told: FAULT_N is low, a shed of its rail ends, it is out of service, and the fault is
seen and counted (10 R329). -/
def State.faulted (s : State) (p : Nat) : State :=
  let r := s.phRail p
  let low := s.wr F.PH_STAT_FAULT_N 0 p
  let aborted := (low.when ((s.phOn r).contains p) fun s => s.invNote r 1 (s.time / 1000)).shedAbort r
  ((aborted.phOut p 3 aborted.time).flag F.PH_STAT_FAULT_SEEN p).incSat F.PH_STAT_FAULTS 1 p

/-- What follows in the step leaves PH_STAT. -/
theorem State.phStat_phaseFault {s : State} {p : Nat} (hp : (s.inst? 0x0A p).isSome = true) (i j : Nat) :
    (s.phaseFault p).reg .PH_STAT i j = (s.faulted p).reg .PH_STAT i j := by
  unfold State.phaseFault
  rw [if_neg (by simp [Option.isSome_iff_ne_none.mp hp])]
  extract_lets r n on low aborted out counted shown framed scaled sent
  have hsent : sent.reg .PH_STAT i j = counted.reg .PH_STAT i j := by
    simp (disch := decide) only [sent, scaled, framed, shown, State.when, State.reg_ite, State.reg_shedSend, State.reg_setV,
      State.reg_phScale, State.reg_gridCheck, State.reg_railFrame, State.reg_phShow, State.reg_event, ite_self]
  change _ = counted.reg .PH_STAT i j
  rw [← hsent]
  split
  · next h => exact State.phStat_haltReq (List.isEmpty_iff.mp (Bool.and_eq_true_iff.mp h).2) i j
  · rfl

/-- How the channel then shows. -/
theorem State.faulted_shows (s : State) (p : Nat) : (s.faulted p).rd F.PH_STAT_PHST p = 3 ∧ (s.faulted p).rd F.PH_STAT_FAULT_SEEN p = 1
    ∧ (s.faulted p).rd F.PH_STAT_FAULTS p = min (2 ^ F.PH_STAT_FAULTS.w - 1) (s.rd F.PH_STAT_FAULTS p + 1) := by
  unfold State.faulted
  extract_lets r low aborted
  refine ⟨?phst, ?seen, ?count⟩
  case phst =>
    rw [State.rd_incSat_apart _ _ _ _ _ _ _ _ (by decide) (by decide), State.rd_flag_apart _ _ _ _ _ _ _ _ (by decide) (by decide)]
    exact State.phst_phOut _ _ _ (by decide)
  case seen =>
    rw [State.rd_incSat_apart _ _ _ _ _ _ _ _ (by decide) (by decide), State.rd_flag_one _ _ _ _ rfl (by decide)]
  case count =>
    rw [State.rd_incSat_same _ _ _ _ _ (by decide), State.rd_flag_apart _ _ _ _ _ _ _ _ (by decide) (by decide),
      State.rd_phOut_apart _ _ _ _ (by decide), State.rd_shedAbort_apart _ _ rfl (by decide),
      State.rd_when_keeps fun _ => State.rd_invNote _ _ _ (by decide), State.rd_wr_apart _ _ _ _ _ _ _ _ (by decide) (by decide)]

/-! ### The obligation -/

/-- Settles O37: by what a cycle start, a loop sample, the end of MEASURE, a step of the reference, the entry to ON and a fault leave of
the registers and variables of a rail and its channels, which a planned reset of an island does not touch. -/
theorem railStepsAndPhases : Obligations.RailStepsAndPhases := by
  refine ⟨?cycle, ?sample, ?measured, ?up, ?down, ?on, ?fault⟩
  case cycle =>
    intro s t p tick cur mean range fault y hs hn hp hst htick hcyc hy
    subst hy
    refine answers_pkgRun hs hn rfl (.phaseCycle (.refl _ _) (Foot.le_refl _) p cur mean (range || fault)) (by decide) (by decide) ?_
    rw [State.phaseCycle_eq (s := s.start t) hp hst htick hcyc]
    have hdone := cycleShown_cycleDone (s.start t) p ((s.start t).phRail p) cur mean (range || fault)
    have hstop : ((s.start t).cycleDone p ((s.start t).phRail p) cur mean (range || fault)).v .phStop p = s.v .phStop p :=
      State.v_cycleDone _ _ _ _ _ (by decide)
    generalize (s.start t).cycleDone p ((s.start t).phRail p) cur mean (range || fault) = done at hdone hstop ⊢
    have hturn := hdone.keep (does_cycleTurn done p ((s.start t).phRail p) tick ((s.start t).rd F.PH_STAT_PHST p)) (by decide) (by decide)
      (by decide) (State.rd_cycleTurn_apart _ _ _ _ _ rfl (by decide) _ _) (State.rd_cycleTurn_apart _ _ _ _ _ rfl (by decide) _ _)
    have hshown := hturn.keep (.islPlanRun (.refl _ _) (Foot.le_refl _)) (by decide) (by decide) (by decide)
      (State.rd_islPlanRun (by decide)) (State.rd_islPlanRun (by decide))
    refine ⟨hshown.sample, hshown.count, hshown.ton, hshown.cbc, hshown.neg, fun h1 h0 => ?_⟩
    rw [show (s.start t).rd F.PH_STAT_PHST p = 1 from h1, State.cycleTurn_goes (hstop.trans h0), State.v_islPlanRun (by decide),
      State.v_islPlanRun (by decide)]
    exact State.v_cycleStart_starts ..
  case sample =>
    intro s t r vs tick hs hn hr hm hst hcount htick
    refine answers_pkgRun hs hn rfl (.loopSample (.refl _ _) (Foot.le_refl _) r vs false) (by decide) (by decide) ?_
    rw [State.v_islPlanRun (by decide), State.rd_islPlanRun (by decide), State.v_islPlanRun (by decide), State.v_islPlanRun (by decide)]
    exact State.measured_loopSample (s := s.start t) hr hm hst hcount htick vs
  case measured =>
    intro s t r hs hn hst hcount
    refine answers_pkgRun hs hn rfl (.measDone (.refl _ _) (Foot.le_refl _) r) (by decide) (by decide) ?_
    rw [State.rd_islPlanRun (by decide)]
    exact State.vPre_measDone (s := s.start t) hst hcount
  case up =>
    intro s t r hs hn hst hlt hdue
    refine answers_pkgRun hs hn rfl (.slewStep (.refl _ _) (Foot.le_refl _) r) (by decide) (by decide) ?_
    rw [State.rd_islPlanRun (by decide), State.baseRef_slewStep (s := s.start t) hst hlt.ne (if_pos hlt) hdue]
    exact if_pos hlt
  case down =>
    intro s t r hs hn hst hlt hdue
    refine answers_pkgRun hs hn rfl (.slewStep (.refl _ _) (Foot.le_refl _) r) (by decide) (by decide) ?_
    rw [State.rd_islPlanRun (by decide), State.baseRef_slewStep (s := s.start t) hst hlt.ne' (if_neg hlt.not_gt) hdue]
    exact if_neg hlt.not_gt
  case on =>
    intro s t r hs hn hst href h0 hdue
    refine answers_pkgRun hs hn rfl (.targetPg (.refl _ _) (Foot.le_refl _) r) (by decide) (by decide) ?_
    rw [State.railSt, State.rd_islPlanRun (by decide), State.rd_islPlanRun (by decide),
      State.targetPg_due (s := s.start t) hst href h0 hdue]
    exact State.on_railOn (s.start t) r
  case fault =>
    intro s t p hs hn hp
    refine answers_pkgRun hs hn rfl (.phaseFault (.refl _ _) (Foot.le_refl _) p) (by decide) (by decide) ?_
    rw [State.rd_islPlanRun (by decide), State.rd_islPlanRun (by decide), State.rd_islPlanRun (by decide)]
    have hstat {f : Fld} (hf : f.r = .PH_STAT) : ((s.start t).phaseFault p).rd f p = ((s.start t).faulted p).rd f p :=
      State.rd_congr (hf ▸ State.phStat_phaseFault (s := s.start t) hp p 0)
    rw [hstat rfl, hstat rfl, hstat rfl]
    exact State.faulted_shows (s.start t) p

end Sys2Proof.Machine

/-!
PROOFS. The commands of a rail, its shedding and the references of its leaves (spec/10_rail_control.md R313 to R316, R325 to R331, R337):
what a write of a slot register and a command of a phase channel come to, what the end and the abort of a shed leave, and what a leaf keeps
of a shed hold and of its references.
-/
namespace Sys2Proof.Machine

/-! ### Slots -/

section
variable {s : State} {r : Nat}

/-- Of RAIL_VSEL a new target sets only BASE_TGT and DONE. -/
theorem State.rd_retarget_apart (s : State) (r : Nat) {f : Fld} (hf : f.r = .RAIL_VSEL)
    (hdone : f.lsb + f.w ≤ F.RAIL_VSEL_DONE.lsb ∨ F.RAIL_VSEL_DONE.lsb + F.RAIL_VSEL_DONE.w ≤ f.lsb)
    (htgt : f.lsb + f.w ≤ F.RAIL_VSEL_BASE_TGT.lsb ∨ F.RAIL_VSEL_BASE_TGT.lsb + F.RAIL_VSEL_BASE_TGT.w ≤ f.lsb) (i j : Nat) :
    (s.retarget r).rd f i j = s.rd f i j := by
  have hfoot {g : Foot} (h : g.hasR .RAIL_VSEL = false) : g.hasR f.r = false := hf ▸ h
  unfold State.retarget
  split
  · extract_lets b targeted
    have htargeted : targeted.rd f i j = s.rd f i j :=
      (State.rd_ddRail _ (hfoot (by decide))).trans <| (State.rd_setV ..).trans (State.rd_wr_apart _ _ _ _ _ _ _ _ (by decide) htgt)
    split
    · rfl
    · split
      · exact (State.rd_when_keeps fun _ => State.rd_targetReached_apart _ _ hf hdone _ _).trans htargeted
      · exact (State.rd_wr_apart _ _ _ _ _ _ _ _ (by decide) hdone).trans htargeted
  · exact (State.rd_ddRail _ (hfoot (by decide))).trans (State.rd_wr_apart _ _ _ _ _ _ _ _ (by decide) htgt)

/-- The selected slot is shown. -/
theorem State.sel_selectSlot (s : State) (r : Nat) {k : Nat} (hk : k < 8) : (s.selectSlot r k).rd F.RAIL_VSEL_SEL r = k := by
  unfold State.selectSlot
  split
  · next h => exact (State.rd_retarget_apart _ _ rfl (by decide) (by decide) _ _).trans h
  · rw [State.rd_retarget_apart _ _ rfl (by decide) (by decide), State.rd_railFrame _ _ (by decide),
      State.rd_wr_fits _ _ _ _ (by decide) hk]

/-- A selection leaves who made it. -/
theorem State.fw_selectSlot (s : State) (r k i : Nat) : (s.selectSlot r k).rd F.RAIL_VSEL_FW i = s.rd F.RAIL_VSEL_FW i := by
  unfold State.selectSlot
  split
  · exact State.rd_retarget_apart _ _ rfl (by decide) (by decide) _ _
  · rw [State.rd_retarget_apart _ _ rfl (by decide) (by decide), State.rd_railFrame _ _ (by decide),
      State.rd_wr_apart _ _ _ _ _ _ _ _ (by decide) (by decide)]

theorem State.vselWrite_hold (hr : (s.rail? r).isSome = true) (hp : s.pkg = Pkg.hold) (k : Nat) :
    s.vselWrite r k = (.ok, (s.wr F.RAIL_VSEL_FW 1 r).selectSlot r (k % 8)) := by
  rw [State.vselWrite, if_neg (by simpa using Option.isSome_iff_ne_none.mp hr), if_neg (not_not.mpr hp)]

theorem State.vselWrite_range (hr : (s.rail? r).isSome = true) (hp : s.pkg ≠ Pkg.hold) (k : Nat) : s.vselWrite r k = (.eRange, s) := by
  rw [State.vselWrite, if_neg (by simpa using Option.isSome_iff_ne_none.mp hr), if_pos hp]

theorem State.vselWrite_absent (hr : (s.rail? r).isSome = false) (k : Nat) : s.vselWrite r k = (.eAbsent, s) :=
  if_pos (by simpa using hr)

theorem State.vslotWrite_set {code : Nat} (hr : (s.rail? r).isSome = true) (hmin : s.rd F.RAIL_LIM_VMIN r ≤ code)
    (hmax : code ≤ s.rd F.RAIL_LIM_VMAX r) (k : Nat) :
    s.vslotWrite r k code = (.ok, (s.wr F.RAIL_VSLOT_CODE code r k).retarget r) := by
  rw [State.vslotWrite, if_neg (by simpa using Option.isSome_iff_ne_none.mp hr), if_neg (by simp [hmin, hmax])]

theorem State.vslotWrite_range {code : Nat} (hr : (s.rail? r).isSome = true)
    (hlim : code < s.rd F.RAIL_LIM_VMIN r ∨ s.rd F.RAIL_LIM_VMAX r < code) (k : Nat) : s.vslotWrite r k code = (.eRange, s) := by
  rw [State.vslotWrite, if_neg (by simpa using Option.isSome_iff_ne_none.mp hr), if_pos (by simpa using hlim)]

end

/-- A command of a command register with two index numbers, whose operation comes to a status and a state. -/
theorem answers_commandIn {s v : State} {t i j : Nat} {p : Port} {r : Reg} {op : State → Status × State} {c : Instr} {st : Status}
    {Q : State → Prop} (hp : Takes s p) (he : exec c s = .next ((s.start t).command p r op i j)) (ho : op (s.start t) = (st, v))
    (hq : Q (v.answer p r st i j)) : Answers c s fun u => Told p st 0 u ∧ Q u := by
  refine ⟨_, he, ?_⟩
  rw [State.command_takes hp, ho]
  exact ⟨told_answer .., hq⟩

/-! ### Commands of a phase channel -/

section
variable {s : State} {p : Nat} (hp : (s.inst? 0x0A p).isSome = true)
include hp

/-- CLR_FAULT of a channel whose FAULT_N is high: it shows that, and is not in FAULT (10 R330). -/
theorem State.clrFault_high : ∃ u, s.clrFault p true = (.ok, u) ∧ u.rd F.PH_STAT_FAULT_N p = 1 ∧ u.rd F.PH_STAT_PHST p ≠ 3 := by
  unfold State.clrFault
  rw [if_neg (by simpa using Option.isSome_iff_ne_none.mp hp), if_neg (by decide)]
  extract_lets high
  refine ⟨_, rfl, ?_⟩
  have hhigh : high.rd F.PH_STAT_FAULT_N p = 1 := State.rd_wr_fits _ _ _ _ (by decide) (by decide)
  split
  · refine ⟨?_, ?_⟩
    · rw [State.rd_phShow _ (by decide), State.rd_wr_apart _ _ _ _ _ _ _ _ (by decide) (by decide), hhigh]
    · rw [State.rd_phShow _ (by decide), State.rd_wr_fits _ _ _ _ (by decide) (by decide)]
      decide
  · next h => exact ⟨hhigh, h⟩

theorem State.clrFault_low : s.clrFault p false = (.eRange, s) := by
  rw [State.clrFault, if_neg (by simpa using Option.isSome_iff_ne_none.mp hp)]
  rfl

/-- CAL_REQ of a channel is held (10 R331). -/
theorem State.phCalReq_held : ∃ u, s.phCalReq p = (.ok, u) ∧ u.v .phCalReq p = 1 := by
  unfold State.phCalReq
  rw [if_neg (by simpa using Option.isSome_iff_ne_none.mp hp)]
  refine ⟨_, rfl, ?_⟩
  simp only [State.v_ite, State.v_wr, State.v_setV_same, ite_self]

end

/-! ### The end and the abort of a shed -/

/-- With no shed in progress SHST is 0. -/
theorem State.shst_shedIdle (s : State) (r : Nat) : (s.shedIdle r).rd F.RAIL_SHED_STAT_SHST r = 0 := by
  simp (disch := decide) only [State.shedIdle, State.rd_setV, State.rd_wr_apart, State.rd_wr_fits]

/-- The counters of RAIL_SHED_STAT stay. -/
theorem State.rd_shedIdle_apart (s : State) (r : Nat) {f : Fld} (hd : F.RAIL_SHED_STAT_SHED_POS.lsb + F.RAIL_SHED_STAT_SHED_POS.w ≤ f.lsb)
    (i j : Nat) : (s.shedIdle r).rd f i j = s.rd f i j := by
  simp only [State.shedIdle, State.rd_setV]
  have hst : F.RAIL_SHED_STAT_SHST.lsb + F.RAIL_SHED_STAT_SHST.w ≤ f.lsb := Nat.le_trans (by decide) hd
  rw [State.rd_wr_apart _ _ _ _ _ _ _ _ (by decide) (.inr hd), State.rd_wr_apart _ _ _ _ _ _ _ _ (by decide) (.inr hst)]

/-- A shed that ends is idle and counted (10 R325). -/
theorem State.shedStat_shedDisable (s : State) (r : Nat) : (s.shedDisable r).rd F.RAIL_SHED_STAT_SHST r = 0
    ∧ (s.shedDisable r).rd F.RAIL_SHED_STAT_SHEDS r = min 0xFFFF (s.rd F.RAIL_SHED_STAT_SHEDS r + 1) := by
  unfold State.shedDisable
  extract_lets n out shown
  have hshown : shown.rd F.RAIL_SHED_STAT_SHEDS r = s.rd F.RAIL_SHED_STAT_SHEDS r := calc
    shown.rd F.RAIL_SHED_STAT_SHEDS r
    _ = out.rd F.RAIL_SHED_STAT_SHEDS r := by
      simp (disch := decide) only [shown, State.rd_railFrame, State.rd_phScale, State.rd_phShow]
    _ = s.rd F.RAIL_SHED_STAT_SHEDS r := State.rd_each _ _ _ _ _ _ fun _ _ _ => State.rd_phOut _ _ _ (by decide)
  constructor
  · exact (State.rd_setV ..).trans (State.shst_shedIdle ..)
  · rw [State.rd_setV, State.rd_shedIdle_apart _ _ (by decide), State.rd_incSat_same _ _ _ _ _ (by decide), hshown]
    rfl

theorem State.phOffAt_phOut (s : State) (p st off a : Nat) :
    (s.phOut p st off).v .phOffAt a = if a = p then (off : Int) else s.v .phOffAt a := by
  simp (disch := decide) only [State.phOut, State.v_setV_var, State.v_wr, State.v_setV_if, and_true]

/-- The PEN of a channel that is being shed falls 200 ns after the end of the shed. -/
theorem State.phOffAt_shedDisable {s : State} {r p : Nat} (h : p ∈ s.phIn r 2) :
    (s.shedDisable r).v .phOffAt p = (s.time + 200 : Nat) := by
  unfold State.shedDisable
  extract_lets n out shown
  have htime : out.time = s.time := State.each_keeps (P := fun u => u.time = s.time) rfl fun _ _ _ hu => hu
  have hout : out.v .phOffAt p = (s.time + 200 : Nat) := by
    refine State.each_sets (P := fun u => u.time = s.time → u.v .phOffAt p = (s.time + 200 : Nat)) h (fun u hu => ?_)
      (fun u y _ hkeep hu => ?_) htime
    · rw [State.phOffAt_phOut, if_pos rfl, show u.time = s.time from hu]
    · rw [State.phOffAt_phOut, show u.time = s.time from hu, hkeep hu, ite_self]
  rw [← hout]
  simp (disch := decide) only [shown, State.v_setV_var, State.v_shedIdle, State.incSat, State.v_wr, State.v_railFrame, State.v_phScale,
    State.v_phShow]

/-- A shed that is aborted is idle and counted (10 R326). -/
theorem State.shedStat_shedAbort {s : State} {r : Nat} (h : 2 ≤ s.rd F.RAIL_SHED_STAT_SHST r) :
    (s.shedAbort r).rd F.RAIL_SHED_STAT_SHST r = 0
      ∧ (s.shedAbort r).rd F.RAIL_SHED_STAT_ABORTS r = min 0xFFFF (s.rd F.RAIL_SHED_STAT_ABORTS r + 1) := by
  unfold State.shedAbort
  rw [if_pos h]
  extract_lets begun back counted
  have hback : back.rd F.RAIL_SHED_STAT_ABORTS r = s.rd F.RAIL_SHED_STAT_ABORTS r :=
    State.rd_each _ _ _ _ _ _ fun _ _ _ => State.rd_wr_reg _ _ _ _ _ _ _ _ (by decide)
  constructor
  · exact State.shst_shedIdle ..
  · rw [State.rd_shedIdle_apart _ _ (by decide), State.rd_railFrame _ _ (by decide), State.rd_event _ _ (by decide),
      State.rd_incSat_same _ _ _ _ _ (by decide), hback]
    rfl

/-- The cycle start of the position being shed, its check passed. -/
theorem State.shedDisableAt_due {s : State} {r p tick : Nat} {ps : List Nat} (hin : s.phIn r 2 = p :: ps) (htick : s.phTick r p = some tick)
    (hready : s.shedReady r tick = true) : s.shedDisableAt r = s.shedEdge r := by
  simp only [State.shedDisableAt, hin, htick, hready, if_true]

/-! ### A shed hold of a leaf -/

/-- A shed command names its rail, and holds the leaf where that is its issue rail (10 R327). -/
theorem State.shedTake_shows (s : State) (l : Nat) {r : Nat} (hr : r < 32) : (s.shedTake l r).rd F.LEAF_SHED_RAIL l = r
    ∧ (s.issueRail l = some r → (s.shedTake l r).rd F.LEAF_SHED_HOLD l = 1) := by
  unfold State.shedTake
  extract_lets named held capped
  have hnamed : named.rd F.LEAF_SHED_RAIL l = r := State.rd_wr_fits _ _ _ _ (by decide) hr
  split
  · have hcapped : capped.rd F.LEAF_SHED_RAIL l = r := (State.rd_each _ _ _ _ _ _ fun _ _ _ => State.rd_setV ..).trans hnamed
    constructor
    · rw [State.rd_leafEff _ (by decide), State.rd_wr_apart _ _ _ _ _ _ _ _ (by decide) (by decide),
        State.rd_wr_apart _ _ _ _ _ _ _ _ (by decide) (by decide), hcapped]
    · intro _
      rw [State.rd_leafEff _ (by decide), State.rd_wr_apart _ _ _ _ _ _ _ _ (by decide) (by decide),
        State.rd_wr_fits _ _ _ _ (by decide) (by decide)]
  · next h => exact ⟨hnamed, fun h' => absurd h' h⟩

/-- A shed hold whose time has come is over. -/
theorem State.hold_shedExpire {s : State} {l : Nat} (hheld : s.is F.LEAF_SHED_HOLD l = true)
    (hdue : 2 ^ 31 ≤ (s.rd F.LEAF_SHED_EXPIRE l + 2 ^ 32 - s.islNow (leafDom l) % 2 ^ 32 - 1) % 2 ^ 32) :
    (s.shedExpire l).rd F.LEAF_SHED_HOLD l = 0 := by
  rw [State.shedExpire, if_pos (by rw [hheld, decide_eq_true hdue]; rfl), State.rd_leafEff _ (by decide),
    State.rd_wr_fits _ _ _ _ (by decide) (by decide)]

/-! ### The references of a leaf -/

theorem State.leafRails_congr {s u : State} (h : u.part .image = s.part .image) : u.leafRails = s.leafRails := by
  have hi : u.img.items = s.img.items := congrArg (fun x => x.2.1) h
  funext l
  simp only [State.leafRails, State.bindings, State.coeff?, State.leakTab?, State.item?, hi]

/-- The references of a leaf follow its rails and their RAIL_VSEL. -/
theorem State.vrefs_congr {s u : State} (hi : u.part .image = s.part .image) (hr : ∀ r, u.reg .RAIL_VSEL r = s.reg .RAIL_VSEL r) :
    u.vrefs = s.vrefs := by
  funext l
  simp only [State.vrefs, State.leafRails_congr hi, State.rd, hr]

/-- A leaf has one reference in each of its rail slots. -/
theorem State.vrefs_slot {s : State} {l : Nat} {x y : Nat × Nat} (hx : x ∈ s.vrefs l) (hy : y ∈ s.vrefs l) (h : y.1 = x.1) :
    y = x := by
  obtain ⟨⟨a, i⟩, ha, rfl⟩ := List.mem_map.mp hx
  obtain ⟨⟨b, j⟩, hb, rfl⟩ := List.mem_map.mp hy
  obtain rfl : j = i := h
  rw [List.mk_mem_zipIdx_iff_getElem?] at ha hb
  obtain rfl : b = a := Option.some_inj.mp (hb.symm.trans ha)
  rfl

/-- The references that a leaf was sent are noted. -/
theorem State.vrefSent_vrefNote {s : State} {l : Nat} {x : Nat × Nat} (hx : x ∈ s.vrefs l) :
    (s.vrefNote l).v .vrefSent l x.1 = (x.2 : Int) := by
  refine State.each_sets (P := fun u => u.v .vrefSent l x.1 = (x.2 : Int)) hx (fun u => State.v_setV_same ..) fun u y hy hu => ?_
  rw [State.v_setV_if]
  split
  · next h => rw [State.vrefs_slot hx hy h.2.symm]
  · exact hu

/-- A command of the hub leaves where the channel on the way takes it. -/
theorem State.hubCmd_leaves (s : State) (dest op off data : Nat) (src : CmdSrc) :
    (s.hubCmd dest op off data src).1 = (s.hop hubDom dest).any fun c => s.canSend (s.parentEnd c) Mt.cmdReq := by
  unfold State.hubCmd
  split
  · next h => rw [h, Option.any_none]
  · next c h =>
    rw [h, Option.any_some]
    dsimp only
    split
    · next hc => exact hc.symm
    · next hc => exact (Bool.eq_false_of_not_eq_true hc).symm

/-- The references that differ from those sent go out on the grid, where a command can leave, and are noted. -/
theorem State.vrefSent_vrefCheck {s : State} {l : Nat} (hgrid : s.time % 500 = 0)
    (hdiff : ∃ x ∈ s.vrefs l, s.v .vrefSent l x.1 ≠ (x.2 : Int))
    (hok : (s.hubCmd (leafDom l) 3 (islOff .LEAF_VREF 0) (vrefWord (s.vrefs l)) .own).1 = true) {x : Nat × Nat} (hx : x ∈ s.vrefs l) :
    (s.vrefCheck l).v .vrefSent l x.1 = (x.2 : Int) := by
  have hdue : (Nat.beq (s.time % 500) 0 && (s.vrefs l).any fun x => !(s.v .vrefSent l x.1 = (x.2 : Int))) = true := by
    obtain ⟨y, hy, hne⟩ := hdiff
    simp only [hgrid, Bool.and_eq_true, List.any_eq_true]
    exact ⟨rfl, y, hy, by simp [hne]⟩
  have heq : s.vrefCheck l = (s.hubCmd (leafDom l) 3 (islOff .LEAF_VREF 0) (vrefWord (s.vrefs l)) .own).2.vrefNote l :=
    (if_pos hdue).trans (if_pos hok)
  rw [heq]
  refine State.vrefSent_vrefNote ?_
  rwa [State.vrefs_congr (State.part_hubCmd _ _ _ _ _ (by decide)) fun _ => State.reg_hubCmd _ _ _ _ _ (by decide)]

/-! ### The obligation -/

/-- Settles O38: by what a write of a slot register and a command of a phase channel come to, what the end and the abort of a shed leave of
RAIL_SHED_STAT, and what a leaf keeps of a shed hold and of its references. -/
theorem railCommandsAndShedding : Obligations.RailCommandsAndShedding := by
  refine ⟨?select, ?selectRange, ?selectAbsent, ?slot, ?slotRange, ?clear, ?clearRange, ?request, ?calibrate, ?ends, ?waits, ?late, ?leaf,
    ?lapse, ?sent, ?taken⟩
  case select =>
    intro s t r k p hp hr hpkg
    refine answers_commandAt hp rfl (State.vselWrite_hold (s := s.start t) hr hpkg k) ⟨?_, ?_⟩
    · rw [State.rd_answer _ _ _ _ _ (by decide), State.sel_selectSlot _ _ (Nat.mod_lt _ (by decide))]
    · rw [State.rd_answer _ _ _ _ _ (by decide), State.fw_selectSlot, State.rd_wr_fits _ _ _ _ (by decide) (by decide)]
  case selectRange =>
    intro s t r k p hp hr hpkg
    exact answers_commandAt hp rfl (State.vselWrite_range (s := s.start t) hr hpkg k) (frame_answer ..)
  case selectAbsent =>
    intro s t r k p hp hr
    exact answers_commandAt hp rfl (State.vselWrite_absent (s := s.start t) hr k) (frame_answer ..)
  case slot =>
    intro s t r k code p hp hr hmin hmax
    refine answers_commandIn hp rfl (State.vslotWrite_set (s := s.start t) hr hmin hmax (k % 8)) ?_
    rw [State.rd_answer _ _ _ _ _ (by decide), State.rd_retarget _ (by decide)]
    exact State.rd_wr_fits _ _ _ _ (by decide) (Nat.lt_of_le_of_lt hmax (State.rd_lt ..))
  case slotRange =>
    intro s t r k code p hp hr hlim
    exact answers_commandIn hp rfl (State.vslotWrite_range (s := s.start t) hr hlim (k % 8)) (frame_answer ..)
  case clear =>
    intro s t ph p hp hch
    obtain ⟨u, hu, hn, hst⟩ := State.clrFault_high (s := s.start t) hch
    refine answers_commandAt hp rfl hu ⟨?_, ?_⟩
    · rwa [State.rd_answer _ _ _ _ _ (by decide)]
    · rwa [State.rd_answer _ _ _ _ _ (by decide)]
  case clearRange =>
    intro s t ph p hp hch
    exact answers_commandAt hp rfl (State.clrFault_low (s := s.start t) hch) (frame_answer ..)
  case request =>
    intro s t ph p hp hch
    obtain ⟨u, hu, hreq⟩ := State.phCalReq_held (s := s.start t) hch
    refine answers_commandAt hp rfl hu ?_
    rwa [State.v_answer _ _ _ _ _ (by decide)]
  case calibrate =>
    intro s t ph ofs hch hready hc
    refine ⟨_, congrArg Host.Outcome.next (if_pos ?_), ?_, ?_, ?_⟩
    · rw [Bool.and_eq_true, Bool.and_eq_true, Bool.or_eq_true]
      exact ⟨⟨hch, hready⟩, hc.imp decide_eq_true decide_eq_true⟩
    · refine (State.rdI_congr ?_).trans ((s.start t).rdI_wrI_satS F.PH_CAL_ISNS_OFS ofs ph 0 (by decide) (by decide))
      simp (disch := decide) only [State.rd_invNote, State.rd_setV, State.rd_wr_apart]
    · simp (disch := decide) only [State.rd_invNote, State.rd_setV, State.rd_wr_apart, State.rd_wr_fits]
    · rw [State.v_invNote _ _ _ (by decide), State.v_setV_same]
  case ends =>
    intro s t r p tick ps hs hn hl hin htick hready hloop
    have hdue : (s.start t).shedDisableAt r = (s.start t).shedDisable r :=
      (State.shedDisableAt_due (s := s.start t) hin htick hready).trans (if_neg (by simp [hloop]))
    have hrun := (Does.shedDisable (.refl _ (s.start t)) (Foot.le_refl _) r).pkgRun_none (by decide) (by decide) (by decide) (by decide)
      hs hn hl
    obtain ⟨hst, hsheds⟩ := (s.start t).shedStat_shedDisable r
    refine ⟨_, congrArg (fun u : State => Host.Outcome.next u.pkgRun) hdue, ?_⟩
    rw [hrun]
    exact ⟨hst, hsheds, State.phOffAt_shedDisable (s := s.start t) (hin ▸ List.mem_cons_self)⟩
  case waits =>
    intro s t r p tick ps hs hn hin htick hready hloop
    refine answers_pkgRun hs hn rfl (.shedDisableAt (.refl _ _) (Foot.le_refl _) r) (by decide) (by decide) ?_
    rw [State.v_islPlanRun (by decide), State.shedDisableAt_due (s := s.start t) hin htick hready, State.shedEdge, if_pos hloop,
      State.v_setV_same]
    rfl
  case late =>
    intro s t r hst hdue
    refine ⟨_, congrArg Host.Outcome.next (if_pos ?_), State.shedStat_shedAbort (s := s.start t) hst.ge⟩
    simp [hst, hdue]
  case leaf =>
    intro s t l r
    exact ⟨_, rfl, (s.start t).shedTake_shows l (Nat.mod_lt _ (by decide))⟩
  case lapse =>
    intro s t l hheld hdue
    exact ⟨_, rfl, State.hold_shedExpire (s := s.start t) hheld hdue⟩
  case sent =>
    intro s t l hgrid hdiff hok
    refine ⟨_, rfl, fun x hx => State.vrefSent_vrefCheck (s := s.start t) hgrid hdiff ?_ hx⟩
    rw [State.hubCmd_leaves] at hok ⊢
    exact hok
  case taken =>
    intro s t l w
    exact ⟨_, rfl, State.reg_setReg_same ..⟩

end Sys2Proof.Machine

/-!
PROOFS. The throttle cells of a leaf, LEAF_THR_REQ and the stack ports (spec/11_thermal.md R347 to R359): what a cell shows and applies, what
K reads after a request, and what an update or the staleness of a stack leaves of its port.
-/
namespace Sys2Proof.Machine

/-! ### Throttle cells -/

section
variable {s : State} {x l j : Nat}

theorem State.insts_congr {s u : State} (h : u.part .image = s.part .image) : u.insts = s.insts := by
  have ha : u.img.active = s.img.active := congrArg Prod.fst h
  simp only [State.insts, ha]

/-- The account of engine cycles leaves what stands in the image. -/
theorem State.insts_leafAcct (s : State) (l : Nat) : (s.leafAcct l).insts = s.insts :=
  State.insts_congr (State.part_leafAcct _ (by decide))

theorem State.cellAt_leafAcct (s : State) (l x : Nat) : (s.leafAcct l).cellAt x = s.cellAt x := by
  simp only [State.cellAt, State.inst?, State.insts_leafAcct]

theorem State.levelNow_leafAcct (s : State) (l d : Nat) : (s.leafAcct l).levelNow d = s.levelNow d := by
  simp (disch := decide) only [State.levelNow, State.rd_leafAcct]

/-- THROTTLE is in force at a leaf's cell from its owner's level 2 on (11 R348). -/
theorem State.isSome_throttle {r : InstRec} (hr : s.inst? 6 x = some r) (hc : s.cellAt x = some (false, l, j)) :
    (s.cellInputs x).1.isSome = decide (2 ≤ s.levelNow r.owner) := by
  simp only [State.cellInputs, hr, hc]
  split
  · next h => simp [h]
  · next h => simp [h]

/-- A leaf's cell shows whether THROTTLE is in force. -/
theorem State.thrActive_cellShow (hc : s.cellAt x = some (false, l, j)) :
    (s.cellShow x).rd F.LEAF_TCELL_THR_ACTIVE l j = b2n (s.cellInputs x).1.isSome := by
  unfold State.cellShow
  rw [hc]
  simp (disch := decide) only [cellF, State.rd_wr_apart]
  exact State.rd_wr_fits _ _ _ _ (by decide) (b2n_lt_two _)

/-- The divider and the mask that a leaf's cell takes; a mask with fewer than 4 cycles gives way to 0x1111 (11 R347, R348). -/
def State.cellSet (s : State) (l j div m : Nat) : State :=
  let low := (bitList m 16).length < 4
  ((s.wr F.LEAF_TCELL_DIV div l j).wr F.LEAF_TCELL_FLOOR (b2n low) l j).wr F.LEAF_TCELL_SKIP (if low then 0x1111 else m) l j

/-- The accounts that the setting of a leaf's cell 0 closes: its clock is the engine's. -/
def State.cellAcct (s : State) (l j : Nat) : State := s.when (Nat.beq j 0) fun s => s.leafAcct l

/-- A leaf's cell takes the greatest divider of the inputs in force, and the cycles that each of them keeps (11 R348). -/
theorem State.cellApply_leaf {ins : List (Nat × Nat)} (hc : s.cellAt x = some (false, l, j))
    (hin : (s.cellInputs x).1.toList ++ (s.cellInputs x).2.1.toList ++ (s.cellInputs x).2.2.toList = ins) :
    s.cellApply x = ((s.cellAcct l j).cellShow x).cellSet l j (ins.foldl (fun m y => max m y.1) 0)
      (ins.foldl (fun m y => Nat.land m y.2) 0xFFFF) := by
  unfold State.cellApply
  rw [hc, ← hin]
  rfl

theorem State.div_cellSet (s : State) (l j div m : Nat) :
    (s.cellSet l j div m).rd F.LEAF_TCELL_DIV l j = div % 2 ^ F.LEAF_TCELL_DIV.w := by
  simp (disch := decide) only [State.cellSet, State.rd_wr_apart, State.rd_wr_same]

theorem State.floor_cellSet (s : State) (l j div : Nat) {m : Nat} (h : 4 ≤ (bitList m 16).length) :
    (s.cellSet l j div m).rd F.LEAF_TCELL_FLOOR l j = 0 := by
  simp (disch := decide) only [State.cellSet, State.rd_wr_apart, State.rd_wr_same]
  rw [decide_eq_false (Nat.not_lt.mpr h)]
  rfl

theorem State.skip_cellSet (s : State) (l j div : Nat) {m : Nat} (h : 4 ≤ (bitList m 16).length) (hm : m < 65536) :
    (s.cellSet l j div m).rd F.LEAF_TCELL_SKIP l j = m := by
  rw [State.cellSet, if_neg (Nat.not_lt.mpr h)]
  exact State.rd_wr_fits _ _ _ _ (by decide) hm

theorem State.thrActive_cellSet (s : State) (l j div m : Nat) :
    (s.cellSet l j div m).rd F.LEAF_TCELL_THR_ACTIVE l j = s.rd F.LEAF_TCELL_THR_ACTIVE l j := by
  simp (disch := decide) only [State.cellSet, State.rd_wr_apart]

/-- Accounting leaves which cell is shown, and whether THROTTLE is in force at it. -/
theorem State.thrActive_cellAcct {r : InstRec} (hr : s.inst? 6 x = some r) (hc : s.cellAt x = some (false, l, j)) :
    ((s.cellAcct l j).cellShow x).rd F.LEAF_TCELL_THR_ACTIVE l j = b2n (s.cellInputs x).1.isSome := by
  rw [State.isSome_throttle hr hc]
  unfold State.cellAcct State.when
  split
  · have hr' : (s.leafAcct l).inst? 6 x = some r := by rwa [State.inst?, State.insts_leafAcct]
    have hc' : (s.leafAcct l).cellAt x = some (false, l, j) := by rwa [State.cellAt_leafAcct]
    rw [State.thrActive_cellShow hc', State.isSome_throttle hr' hc', State.levelNow_leafAcct]
  · rw [State.thrActive_cellShow hc, State.isSome_throttle hr hc]

/-- TCELL_APPLY at a leaf that holds its image fields (11 R349). -/
theorem exec_tcellApply_leaf {r : InstRec} (hr : s.inst? 6 x = some r) (hf : s.v .islFields r.owner = 1) (t : Nat) :
    exec (.tcellApply t x) s = .next ((s.start t).cellApply x) := by
  have hr' : (s.start t).inst? 6 x = some r := hr
  have hf' : (s.start t).v .islFields r.owner = 1 := hf
  change Host.Outcome.next _ = _
  rw [hr']
  exact congrArg Host.Outcome.next (if_pos (by simp [hf']))

end

/-! ### Stacks -/

/-- The fields of a stack port that an update alone, or its staleness, sets (11, LEAF_STACK). -/
abbrev updateFields : List Fld := [F.LEAF_STACK_TEMP, F.LEAF_STACK_VALID, F.LEAF_STACK_STALE]

theorem updateFields_reg : ∀ f ∈ updateFields, f.r = .LEAF_STACK := by decide

/-- What an update of a stack port has stored is kept: its fields, the stamps of the updates, and the image with its thresholds. -/
structure KeepsUpdate (s u : State) : Prop where
  rd : ∀ f ∈ updateFields, ∀ i j, u.rd f i j = s.rd f i j
  stamp : ∀ i j, u.v .stkAt i j = s.v .stkAt i j
  image : u.part .image = s.part .image

namespace KeepsUpdate
variable {s u w : State}

theorem refl (s : State) : KeepsUpdate s s := ⟨fun _ _ _ _ => rfl, fun _ _ => rfl, rfl⟩

theorem trans (h : KeepsUpdate s u) (k : KeepsUpdate u w) : KeepsUpdate s w :=
  ⟨fun f hf i j => (k.rd f hf i j).trans (h.rd f hf i j), fun i j => (k.stamp i j).trans (h.stamp i j), k.image.trans h.image⟩

/-- Work outside whose footprint they lie. -/
theorem of_does {g : Foot} (h : Does g s u) (hr : g.hasR .LEAF_STACK = false) (hv : g.hasV .stkAt = false) (hp : g.hasP .image = false) :
    KeepsUpdate s u := by
  refine ⟨fun f hf i j => ?_, h.v hv, h.parts _ hp⟩
  have hreg : f.r = .LEAF_STACK := updateFields_reg f hf
  exact h.rd (hreg ▸ hr) i j

/-- A write of another field of a stack port. -/
theorem wr (s : State) {g : Fld} (h : g.lsb + g.w ≤ 64)
    (hd : ∀ f ∈ updateFields, f.lsb + f.w ≤ g.lsb ∨ g.lsb + g.w ≤ f.lsb) (v i j : Nat) :
    KeepsUpdate s (s.wr g v i j) :=
  ⟨fun f hf _ _ => State.rd_wr_apart _ _ _ _ _ _ _ _ h (hd f hf), fun _ _ => rfl, State.part_wr ..⟩

/-- Hardware sets a flag of a stack port that is none of them. -/
theorem flag (s : State) {g : Fld} (h : g.lsb + g.w ≤ 64)
    (hd : ∀ f ∈ updateFields, f.lsb + f.w ≤ g.lsb ∨ g.lsb + g.w ≤ f.lsb) (i j : Nat) :
    KeepsUpdate s (s.flag g i j) :=
  ⟨(wr s h hd _ i j).rd, fun _ _ => rfl, State.part_flag ..⟩

end KeepsUpdate

theorem keepsUpdate_levelShow (s : State) (d : Nat) : KeepsUpdate s (s.levelShow d) :=
  .of_does (.levelShow (.refl _ s) (Foot.le_refl _) d) (by decide) (by decide) (by decide)

theorem keepsUpdate_evFrom (s : State) (d code inst : Nat) : KeepsUpdate s (s.evFrom d code inst) :=
  .of_does (.evFrom (.refl _ s) (Foot.le_refl _) ..) (by decide) (by decide) (by decide)

theorem keepsUpdate_flagLow (s : State) (n j : Nat) (x : Int) : KeepsUpdate s (s.flagLow n j x) :=
  .of_does (.flagLow (.refl _ s) (Foot.le_refl _) n j x) (by decide) (by decide) (by decide)

theorem keepsUpdate_setV (s : State) {x : Var} (h : Var.stkAt ≠ x) (y : Int) (i j : Nat) : KeepsUpdate s (s.setV x y i j) :=
  ⟨fun _ _ _ _ => rfl, fun _ _ => State.v_setV_var _ _ _ _ _ _ _ _ h, State.part_setV ..⟩

/-- A stack's body has the number of its stack from 0x8000 on. -/
theorem ble_stackBody (n : Nat) : Nat.ble 0x8000 (0x8000 + n) = true := Nat.ble_eq.mpr (Nat.le_add_right ..)

/-- WARN and THROTTLE of a stack are seen and told; SHUTDOWN alone trips (11 R344, R345). -/
theorem keepsUpdate_flagRise_stack (s : State) (d n : Nat) {j : Nat} (hj : j = 0 ∨ j = 1) : KeepsUpdate s (s.flagRise d (0x8000 + n) j) := by
  unfold State.flagRise
  extract_lets put
  have hput : KeepsUpdate s put := .of_does (.flagPut (.refl _ s) (Foot.le_refl _) ..) (by decide) (by decide) (by decide)
  rw [if_pos (ble_stackBody n)]
  split
  · obtain rfl | rfl := hj
    · exact (hput.trans (.flag _ (by decide) (by decide) ..)).trans (keepsUpdate_evFrom ..)
    · exact (hput.trans (.flag _ (by decide) (by decide) ..)).trans (keepsUpdate_evFrom ..)
  · exact hput

theorem keepsUpdate_bodyLevel_stack (s : State) (n : Nat) : KeepsUpdate s (s.bodyLevel (0x8000 + n)) := by
  unfold State.bodyLevel
  rw [if_pos (ble_stackBody n)]
  split
  · exact .wr _ (by decide) (by decide) ..
  · exact .refl s

/-- The thresholds of a stack stand in the image (11 R358). -/
theorem State.thrOf_stack_congr {s u : State} (h : u.part .image = s.part .image) (n j : Nat) :
    u.thrOf (0x8000 + n) j = s.thrOf (0x8000 + n) j := by
  have hi : u.img.items = s.img.items := congrArg (fun x => x.2.1) h
  simp only [State.thrOf, ble_stackBody, if_pos, State.thI, State.parI, State.item?, hi]

/-- A body meets one of its thresholds (11 R344). -/
def State.bodyMeets (s : State) (d n : Nat) (x : Int) (j : Nat) : State :=
  let hot := decide ((s.thrOf n j).1 ≤ x)
  let s := s.when (j = 2) fun s => s.setV .tsShut (if hot then s.v .tsShut n + 1 else 0) n
  let need := if j = 2 then decide ((s.par Sec.thermal 0x0013 idxAll 0 1 2 : Int) ≤ s.v .tsShut n) else true
  let s := s.flagLow n j x
  if hot && need && !s.flagOf n j then s.flagRise d n j else s

theorem State.bodyTemp_eq (s : State) (d n : Nat) (x : Int) :
    s.bodyTemp d n x = (s.each (List.range 3) fun s j => s.bodyMeets d n x j).bodyLevel n := rfl

/-- A temperature of a stack below SHUTDOWN does not trip (11 R344, R345, R358). -/
theorem keepsUpdate_bodyMeets_stack {s : State} {n j : Nat} {x : Int} (hj : j < 3) (hx : x < (s.thrOf (0x8000 + n) 2).1) (d : Nat) :
    KeepsUpdate s (s.bodyMeets d (0x8000 + n) x j) := by
  unfold State.bodyMeets
  extract_lets hot counted need low
  have hcounted : KeepsUpdate s counted := by
    unfold counted State.when
    split
    · exact keepsUpdate_setV _ (by decide) ..
    · exact .refl s
  have hlow : KeepsUpdate s low := hcounted.trans (keepsUpdate_flagLow ..)
  split
  · next h =>
    have hhot : (s.thrOf (0x8000 + n) j).1 ≤ x := by
      simp only [Bool.and_eq_true] at h
      exact of_decide_eq_true h.1.1
    have hj2 : j ≠ 2 := by
      rintro rfl
      omega
    exact hlow.trans (keepsUpdate_flagRise_stack _ _ _ (by omega))
  · exact hlow

/-- The thresholds of a stack at a temperature below SHUTDOWN keep what its update has stored. -/
theorem keepsUpdate_bodyTemp_stack {s : State} {n : Nat} {x : Int} (hx : x < (s.thrOf (0x8000 + n) 2).1) (d : Nat) :
    KeepsUpdate s (s.bodyTemp d (0x8000 + n) x) := by
  rw [State.bodyTemp_eq]
  refine (State.each_keeps (P := KeepsUpdate s) (.refl s) fun u j hj h => ?_).trans (keepsUpdate_bodyLevel_stack ..)
  refine h.trans (keepsUpdate_bodyMeets_stack (List.mem_range.mp hj) ?_ d)
  rwa [State.thrOf_stack_congr h.image]

theorem keepsUpdate_stackBand (s : State) (l k b : Nat) : KeepsUpdate s (s.stackBand l k b) :=
  (KeepsUpdate.wr _ (by decide) (by decide) ..).trans (.wr _ (by decide) (by decide) ..)

/-- An update that arrives is stored: the temperature, valid and not stale, with its stamps (11 R357). -/
def State.stackStored (s : State) (n l k : Nat) (x : Int) : State :=
  let s := ((s.wrI F.LEAF_STACK_TEMP x l k).wr F.LEAF_STACK_VALID 1 l k).wr F.LEAF_STACK_STAMP (s.islNow (leafDom l)) l k
  (s.setV .stkAt s.time n).wr F.LEAF_STACK_STALE 0 l k

/-- A stored update takes its band, its thresholds and the level of its leaf (11 R344, R358, R359). -/
def State.stackTaken (s : State) (n l k : Nat) (x : Int) : State :=
  ((s.stackBand l k (s.bandNext (s.rd F.LEAF_STACK_BAND l k) x)).bodyTemp (leafDom l) (0x8000 + n) x).levelShow (leafDom l)

theorem State.image_stackStored (s : State) (n l k : Nat) (x : Int) : (s.stackStored n l k x).part .image = s.part .image := by
  simp only [State.stackStored, State.wrI, State.part_wr, State.part_setV]

theorem State.temp_stackStored (s : State) (n l k : Nat) (x : Int) :
    (s.stackStored n l k (satS 16 x)).rdI F.LEAF_STACK_TEMP l k = satS 16 x := by
  refine (State.rdI_congr ?_).trans (State.rdI_wrI_satS s F.LEAF_STACK_TEMP x l k (by decide) (by decide))
  simp (disch := decide) only [State.stackStored, State.rd_wr_apart, State.rd_setV]

theorem State.valid_stackStored (s : State) (n l k : Nat) (x : Int) : (s.stackStored n l k x).rd F.LEAF_STACK_VALID l k = 1 := by
  simp (disch := decide) only [State.stackStored, State.rd_wr_apart, State.rd_setV, State.rd_wr_fits]

theorem State.stale_stackStored (s : State) (n l k : Nat) (x : Int) : (s.stackStored n l k x).rd F.LEAF_STACK_STALE l k = 0 :=
  State.rd_wr_fits _ _ _ _ (by decide) (by decide)

theorem State.stamp_stackStored (s : State) (n l k : Nat) (x : Int) : (s.stackStored n l k x).v .stkAt n = s.time :=
  (State.v_wr ..).trans (State.v_setV_same ..)

theorem exec_stackUpdate {s : State} {n l k : Nat} (hn : s.stackAt n = some (l, k)) (hf : s.v .islFields (leafDom l) = 1) (t : Nat)
    (x : Int) : exec (.stackUpdate t n x) s = .next (((s.start t).stackStored n l k (satS 16 x)).stackTaken n l k (satS 16 x)) := by
  have hn' : (s.start t).stackAt n = some (l, k) := hn
  change Host.Outcome.next _ = _
  rw [hn']
  exact congrArg Host.Outcome.next (if_pos hf)

theorem keepsUpdate_stackTaken {s : State} {n : Nat} {x : Int} (hx : x < (s.thrOf (0x8000 + n) 2).1) (l k : Nat) :
    KeepsUpdate s (s.stackTaken n l k x) := by
  have hband := keepsUpdate_stackBand s l k (s.bandNext (s.rd F.LEAF_STACK_BAND l k) x)
  refine (hband.trans (keepsUpdate_bodyTemp_stack ?_ _)).trans (keepsUpdate_levelShow ..)
  rwa [State.thrOf_stack_congr hband.image]

/-- A port that is found stale shows it, with level THROTTLE and band B5 (11 R357, R359). -/
def State.stackStale (s : State) (n l k : Nat) : State :=
  (((((s.wr F.LEAF_STACK_STALE 1 l k).flag F.LEAF_STACK_STALE_SEEN l k).wr F.LEAF_STACK_LEVEL 2 l k).stackBand l k 5).evFrom (leafDom l)
    0x44 n).levelShow (leafDom l)

theorem State.shown_stackStale (s : State) (n l k : Nat) : (s.stackStale n l k).rd F.LEAF_STACK_STALE l k = 1
    ∧ (s.stackStale n l k).rd F.LEAF_STACK_LEVEL l k = 2 ∧ (s.stackStale n l k).rd F.LEAF_STACK_BAND l k = 5 := by
  simp (disch := decide) only [State.stackStale, State.stackBand, State.rd_levelShow, State.rd_evFrom, State.rd_wr_apart,
    State.rd_flag_apart, State.rd_wr_fits, and_self]

theorem exec_stkStale {s : State} {t n l k : Nat} (hn : s.stackAt n = some (l, k)) (hf : s.v .islFields (leafDom l) = 1)
    (hs : s.is F.LEAF_STACK_STALE l k = false)
    (hat : max (s.v .stkAt n) (s.v .thFrom (leafDom l)) + 1000 * (s.par Sec.thermal 0x0041 idxAll 0 2 2000 : Nat) ≤ (max s.time t : Nat)) :
    exec (.stkStale t n) s = .next ((s.start t).stackStale n l k) := by
  have hn' : (s.start t).stackAt n = some (l, k) := hn
  have hs' : (s.start t).is F.LEAF_STACK_STALE l k = false := hs
  change Host.Outcome.next _ = _
  rw [hn']
  refine congrArg Host.Outcome.next (if_pos ?_)
  simp only [Bool.and_eq_true, hs']
  exact ⟨⟨decide_eq_true hf, rfl⟩, decide_eq_true hat⟩

/-- Settles O40: by what a cell takes of its inputs, and what the work after a request, an update and the staleness of a stack leaves of K
and of the port. -/
theorem cellsAndStacks : Obligations.CellsAndStacks := by
  refine ⟨?free, ?one, ?request, ?update, ?stale⟩
  case free =>
    intro s t x l j r hr _ hf hc hin
    have happly := State.cellApply_leaf (s := s.start t) (ins := []) hc (by rw [State.cellInputs_start, hin]; rfl)
    refine ⟨_, (exec_tcellApply_leaf hr hf t).trans (congrArg _ happly), ?_, ?_, ?_⟩
    · exact State.div_cellSet ..
    · exact State.skip_cellSet _ _ _ _ (by decide) (by decide)
    · exact State.floor_cellSet _ _ _ _ (by decide)
  case one =>
    intro s t x l j d m r hr _ hf hc hin hm hbits
    have hmask : Nat.land 0xFFFF m = m := (Nat.land_comm ..).trans <| (Nat.and_two_pow_sub_one_eq_mod m 16).trans (Nat.mod_eq_of_lt hm)
    have happly := State.cellApply_leaf (s := s.start t) (ins := [(d, m)]) hc (by rw [State.cellInputs_start, hin]; rfl)
    simp only [List.foldl_cons, List.foldl_nil, hmask, Nat.zero_max] at happly
    refine ⟨_, (exec_tcellApply_leaf hr hf t).trans (congrArg _ happly), State.div_cellSet .., State.skip_cellSet _ _ _ _ hbits hm, ?_⟩
    rw [State.thrActive_cellSet, State.thrActive_cellAcct (s := s.start t) hr hc, State.cellInputs_start, hin]
    rfl
  case request =>
    intro s t l k hl hheld
    refine ⟨_, congrArg Host.Outcome.next (if_pos ?_), ?_, List.mem_append_right _ (List.mem_singleton_self _)⟩
    · rw [Bool.and_eq_true]
      exact ⟨hl, decide_eq_true hheld⟩
    · rw [State.rd_emit, State.thrTake, State.rd_each _ _ _ _ _ _ fun _ _ _ => State.rd_cellShow _ (by decide)]
      exact State.rd_wr_fits _ _ _ _ (by decide) ((Nat.min_le_left ..).trans_lt (by decide))
  case update =>
    intro s t n l k x hn hf hx
    have hthr : satS 16 x < (((s.start t).stackStored n l k (satS 16 x)).thrOf (0x8000 + n) 2).1 := by
      rwa [State.thrOf_stack_congr (State.image_stackStored ..)]
    have hkept := keepsUpdate_stackTaken hthr l k
    refine ⟨_, exec_stackUpdate hn hf t x, ?_, ?_, ?_, ?_⟩
    · rw [State.rdI_congr (hkept.rd _ (by decide) _ _), State.temp_stackStored]
    · rw [hkept.rd _ (by decide), State.valid_stackStored]
    · rw [hkept.rd _ (by decide), State.stale_stackStored]
    · rw [hkept.stamp, State.stamp_stackStored, State.time_start]
  case stale =>
    intro s t n l k hn hf hstale hat
    exact ⟨_, exec_stkStale hn hf hstale hat, State.shown_stackStale ..⟩

end Sys2Proof.Machine

/-!
PROOFS. Commands while no hub runs (13 R410; 18 R542).
-/
namespace Sys2Proof.Machine

/-- While no hub runs a request of the register port is told E_ABSENT. -/
theorem out_deadAnswer_reg (s : State) (k : Nat) (q : Bool) : Out.rsp (.reg k q) .eAbsent 0 ∈ (s.deadAnswer (.reg k q)).out :=
  List.mem_append_right _ (List.mem_singleton_self _)

/-- While no hub runs the facility port does not respond. -/
theorem out_deadAnswer_fac (s : State) : Out.nack ∈ (s.deadAnswer .fac).out :=
  List.mem_append_right _ (List.mem_singleton_self _)

/-- Settles O7: a port's command path has one branch for a hub that does not run, and it changes nothing. -/
theorem commandsWhileNoHubRuns : Obligations.CommandsWhileNoHubRuns := by
  intro c w s hc hu
  obtain ⟨t, op, he⟩ := exec_of_cmdWrite (s := s) hc (by simp [Takes, hu])
  rw [State.command_dead hu] at he
  refine ⟨_, he, fun k q h => ?_, fun h => ?_, ?_⟩
  · rw [h]
    exact out_deadAnswer_reg ..
  · rw [h]
    exact out_deadAnswer_fac _
  · exact (((Does.refl _ s).start t).deadAnswer (Foot.le_refl _) w.port).within (by decide)

end Sys2Proof.Machine

/-!
PROOFS. The identity of a hub and the software alert (18 R561, R562).
-/
namespace Sys2Proof.Machine

/-! ### The key pair -/

/-- A register that the work for each number of a list writes at that number reads what was written for its own number. -/
theorem State.reg_each_setReg (s : State) {r : Reg} (g : Nat → Word) {l : List Nat} {k : Nat} (hk : k ∈ l) :
    (s.each l fun s k => s.setReg r (g k) k).reg r k = g k := by
  refine State.each_sets (P := fun u => u.reg r k = g k) hk (fun u => State.reg_setReg_same ..) fun u y _ hu => ?_
  by_cases h : k = y
  · rw [h]
    exact State.reg_setReg_same ..
  · exact (State.reg_setReg_ne _ _ _ _ _ _ _ _ fun e => h (congrArg Key.i e)).trans hu

theorem exec_keygenDone_first {s : State} (hp : s.pkg ≠ Pkg.off) (hd : s.v .keyDue ≠ 1) (t : Nat) :
    ∃ m, exec (.keygenDone t) s = .next { ((((s.start t).setV .keyDue 1).wr F.ID_STATUS_KEY_READY 1).each (List.range 12) fun u k =>
      u.setReg .ID_PUBKEY (BitVec.ofNat 64 (fieldAt (Config.idPubKey (s.rd F.MIR_STATUS_SELF)) (8 * k) 8)) k) with mir := m } :=
  ⟨_, congrArg Host.Outcome.next (if_neg (by simp [hp, hd]))⟩

theorem exec_keygenDone_again {s : State} (hd : s.v .keyDue = 1) (t : Nat) : exec (.keygenDone t) s = .next (s.start t) :=
  congrArg Host.Outcome.next (if_pos (by simp [hd]))

/-! ### The certificate store -/

section
variable {s : State}

/-- An answer leaves the certificate store. -/
theorem State.cert_answer (s : State) (p : Port) (r : Reg) (st : Status) : (s.answer p r st).fac.cert = s.fac.cert :=
  State.part_answer (pa := .cert) _ _ _ _ _ (by decide)

theorem State.filling_certEmpty (s : State) (b : Bool) : (s.certEmpty b).rd F.ID_STATUS_FILLING = b2n b := by
  unfold State.certEmpty
  simp (disch := decide) only [State.rd_wr_apart, State.rd_wr_same]
  cases b <;> rfl

theorem State.certValid_certEmpty (s : State) (b : Bool) : (s.certEmpty b).rd F.ID_STATUS_CERT_VALID = 0 := by
  unfold State.certEmpty
  simp (disch := decide) only [State.rd_wr_apart, State.rd_wr_same]
  rfl

theorem State.certLen_certEmpty (s : State) (b : Bool) : (s.certEmpty b).rd F.ID_STATUS_CERT_LEN = 0 :=
  State.rd_wr_same _ _ _ _ _ (by decide)

theorem State.cert_certEmpty (s : State) (b : Bool) : (s.certEmpty b).fac.cert = [] := rfl

theorem State.certPtr_certEmpty (s : State) (b : Bool) : (s.certEmpty b).v .certPtr = 0 :=
  State.v_setV_same (s.setCert []) .certPtr 0 0 0

/-- The key pair is there and the chain of the store ends in its public key (18 R562). -/
def State.chainIsOurs (s : State) (len : Nat) : Prop :=
  s.is F.ID_STATUS_KEY_READY = true
    ∧ Config.chainLeafKeyIs (Mem.bytes s.fac.cert 0 len) (Config.idPubKey (s.rd F.MIR_STATUS_SELF)) = true

/-- The store with its chain accepted. -/
def State.certTaken (s : State) (len : Nat) : State :=
  ((s.wr F.ID_STATUS_FILLING 0).wr F.ID_STATUS_CERT_VALID 1).wr F.ID_STATUS_CERT_LEN len

theorem State.certCmd_accepts {len : Nat} (hf : s.is F.ID_STATUS_FILLING = true) (h0 : 0 < len) (hl : len ≤ 4096)
    (hc : s.chainIsOurs len) : s.certCmd 2 len = (.ok, s.certTaken len) := by
  obtain ⟨hk, hc⟩ := hc
  simp only [State.certCmd]
  rw [if_neg (by simp [hf]; omega), if_pos (by simp [hk, hc])]
  rfl

theorem State.certCmd_refuses {len : Nat} (hf : s.is F.ID_STATUS_FILLING = true) (h0 : 0 < len) (hl : len ≤ 4096)
    (hc : ¬ s.chainIsOurs len) : s.certCmd 2 len = (.eRange, s.certEmpty false) := by
  simp only [State.certCmd]
  rw [if_neg (by simp [hf]; omega), if_neg fun h => hc (by simpa [State.chainIsOurs] using h)]

theorem State.certCmd_notFilled {len : Nat} (h : s.is F.ID_STATUS_FILLING = false ∨ len = 0 ∨ 4096 < len) :
    s.certCmd 2 len = (.eRange, s) :=
  if_pos (by simpa [or_assoc] using h)

theorem State.filling_certTaken (s : State) (len : Nat) : (s.certTaken len).rd F.ID_STATUS_FILLING = 0 := by
  unfold State.certTaken
  simp (disch := decide) only [State.rd_wr_apart, State.rd_wr_same]
  rfl

theorem State.certValid_certTaken (s : State) (len : Nat) : (s.certTaken len).rd F.ID_STATUS_CERT_VALID = 1 := by
  unfold State.certTaken
  simp (disch := decide) only [State.rd_wr_apart, State.rd_wr_same]
  rfl

theorem State.certLen_certTaken (s : State) {len : Nat} (h : len ≤ 4096) : (s.certTaken len).rd F.ID_STATUS_CERT_LEN = len :=
  (State.rd_wr_same _ _ _ _ _ (by decide)).trans (Nat.mod_eq_of_lt (h.trans_lt (by decide)))

theorem State.certData_stores (hf : s.is F.ID_STATUS_FILLING = true) (hp : s.vn .certPtr < 4096) (w : Word) :
    s.certData w = (.ok, (s.setCert (Mem.writeBytes s.fac.cert (s.vn .certPtr) (wordBytes w))).setV .certPtr ((s.vn .certPtr + 8 : Nat) : Int)) :=
  if_neg (by simpa [hf] using hp)

theorem State.certData_refused (h : s.is F.ID_STATUS_FILLING = false ∨ 4096 ≤ s.vn .certPtr) (w : Word) : s.certData w = (.eRange, s) :=
  if_pos (by simpa using h)

end

/-! ### The alert -/

theorem State.reg_facAlert_pend (s : State) (bit : Nat) :
    (s.facAlert bit).reg .FAC_ALERT = setBits (s.reg .FAC_ALERT) 0 8 (s.rd F.FAC_ALERT_PEND ||| 2 ^ bit) := by
  unfold State.facAlert
  rw [State.reg_alertRise _ (by decide)]
  exact State.reg_setReg_same ..

/-- A bit of FAC_ALERT after a bit of PEND was set. -/
theorem State.getLsbD_facAlert (s : State) {bit : Nat} (hb : bit < 8) (k : Nat) :
    ((s.facAlert bit).reg .FAC_ALERT).getLsbD k = (decide (k = bit) || (s.reg .FAC_ALERT).getLsbD k) := by
  rw [State.reg_facAlert_pend, setBits_getLsbD _ _ _ _ _ (by decide)]
  split
  · next h =>
    have hk : k < 8 := by omega
    simp only [State.rd, getBits, Nat.testBit_or, Nat.testBit_two_pow, BitVec.testBit_toNat, BitVec.getLsbD_extractLsb', Nat.sub_zero,
      Nat.zero_add, decide_eq_true hk, Bool.true_and, eq_comm (a := bit)]
    exact Bool.or_comm ..
  · next h =>
    have hk : k ≠ bit := by omega
    simp [hk]

/-! ### The obligation -/

/-- Settles O52: by what each command of the certificate store comes to, and what it leaves of the store and of ID_STATUS. -/
theorem identityAndAlert : Obligations.IdentityAndAlert := by
  refine ⟨?first, ?again, ?opens, ?stores, ?full, ?commits, ?notFilled, ?alert⟩
  case first =>
    intro s t hp hd
    obtain ⟨m, he⟩ := exec_keygenDone_first hp hd t
    refine ⟨_, he, ?_, ?_, fun k hk => ?_⟩
    · exact (State.rd_each _ _ _ _ _ _ fun u x _ => State.rd_setReg_reg _ _ _ _ _ _ _ _ (by decide)).trans
        (State.rd_wr_same _ _ _ _ _ (by decide))
    · exact (State.v_each (((s.start t).setV .keyDue 1).wr F.ID_STATUS_KEY_READY 1) _ _ .keyDue 0 0 fun _ _ _ => State.v_setReg ..).trans
        ((State.v_wr ..).trans (State.v_setV_same (s.start t) .keyDue 1 0 0))
    · exact State.reg_each_setReg _ (fun k => BitVec.ofNat 64 (fieldAt (Config.idPubKey (s.rd F.MIR_STATUS_SELF)) (8 * k) 8))
        (List.mem_range.mpr hk)
  case again =>
    intro s t hd
    exact ⟨_, exec_keygenDone_again hd t, ((Does.refl _ s).start t).within (Foot.le_refl _)⟩
  case opens =>
    intro s t p hp
    refine answers_command hp rfl (v := (s.start t).certEmpty true) rfl ⟨?_, ?_, ?_, ?_, ?_⟩
    · rw [State.rd_answer _ _ _ _ _ (by decide), State.filling_certEmpty]
      rfl
    · rw [State.rd_answer _ _ _ _ _ (by decide), State.certValid_certEmpty]
    · rw [State.rd_answer _ _ _ _ _ (by decide), State.certLen_certEmpty]
    · rw [State.cert_answer, State.cert_certEmpty]
    · rw [State.v_answer _ _ _ _ _ (by decide), State.certPtr_certEmpty]
  case stores =>
    intro s t p w hp hf hc
    refine answers_command hp rfl (State.certData_stores (s := s.start t) hf hc w) ⟨?_, fun a => ?_⟩
    · rw [State.v_answer _ _ _ _ _ (by decide), State.v_setV_same]
      rfl
    · rw [State.cert_answer]
      exact Bank.read_fill ⟨s.fac.cert, 0, false, false⟩ _ _ _
  case full =>
    intro s t p w hp h
    exact answers_rejected hp rfl (State.certData_refused (s := s.start t) h w)
  case commits =>
    intro s t len p hp hf h0 hl
    have hm : len % 8192 = len := Nat.mod_eq_of_lt (by omega)
    split
    · next hc =>
      refine answers_command (v := (s.start t).certTaken len) hp rfl ?_ ⟨?_, ?_, ?_, ?_⟩
      · rw [hm]
        exact State.certCmd_accepts (s := s.start t) hf h0 hl hc
      · rw [State.rd_answer _ _ _ _ _ (by decide), State.filling_certTaken]
      · rw [State.rd_answer _ _ _ _ _ (by decide), State.certValid_certTaken]
      · rw [State.rd_answer _ _ _ _ _ (by decide), State.certLen_certTaken _ hl]
      · rw [State.cert_answer]
        rfl
    · next hc =>
      refine answers_command (v := (s.start t).certEmpty false) hp rfl ?_ ⟨?_, ?_⟩
      · rw [hm]
        exact State.certCmd_refuses (s := s.start t) hf h0 hl hc
      · rw [State.rd_answer _ _ _ _ _ (by decide), State.certValid_certEmpty]
      · rw [State.cert_answer, State.cert_certEmpty]
  case notFilled =>
    intro s t len p hp h
    exact answers_rejected hp rfl (State.certCmd_notFilled (s := s.start t) h)
  case alert =>
    intro s t p hp
    refine answers_command (v := (s.start t).facAlert 6) hp rfl rfl ⟨?_, fun k hk => ?_⟩
    · rw [State.reg_answer _ _ _ _ _ (by decide), State.getLsbD_facAlert _ (by decide)]
      rfl
    · rw [State.reg_answer _ _ _ _ _ (by decide), State.getLsbD_facAlert _ (by decide), decide_eq_false hk]
      rfl

end Sys2Proof.Machine

/-!
PROOFS. The SPDM responder of the facility port (18 R556, R557).
-/
namespace Sys2Proof.Machine

/-! ### What a message of the facility port comes to -/

/-- A message that the port takes does its operation. -/
theorem answers_facMsg {s : State} {t : Nat} {m : FacMsg} {op : State → State} {c : Instr} {Q : State → Prop} (h : FacOk s m)
    (he : exec c s = .next ((s.start t).facMsg m op)) (hq : Q (op (s.start t))) : Answers c s Q :=
  ⟨_, he.trans (congrArg _ (State.facMsg_takes h t op)), hq⟩

/-- What is only sent is no part of a frame. -/
theorem frame_none_emit (s : State) (t : Nat) (o : Out) : Frame Scope.none s ((s.start t).emit o) :=
  (((Does.refl _ s).start t).emit o).within (Foot.le_refl _)

theorem State.mem_out_facSend (s : State) (b : List Byte) : Out.fac b ∈ (s.facSend b).out :=
  List.mem_append_right _ (List.mem_singleton_self _)

/-- A message that the port discards is counted (18 R565). -/
theorem State.errors_facErr (s : State) (k : Nat) :
    (s.facErr k).rd F.FAC_STATUS_ERRORS = satAddN F.FAC_STATUS_ERRORS.w (s.rd F.FAC_STATUS_ERRORS) 1 := by
  have hsat : satAddN F.FAC_STATUS_ERRORS.w (s.rd F.FAC_STATUS_ERRORS) 1 < 2 ^ F.FAC_STATUS_ERRORS.w :=
    (Nat.min_le_left ..).trans_lt (by decide)
  rw [State.facErr, State.rd_event _ _ (by decide)]
  exact (State.rd_wr_same _ _ _ _ _ (by decide)).trans (Nat.mod_eq_of_lt hsat)

/-! ### The connection and its sessions -/

section
variable {s : State}

/-- A request that the connection has reached the state for. -/
theorem State.spdmAt_reached {n : Nat} (h : n ≤ s.vn .spdmSt) (op : State → State) : s.spdmAt n op = op s :=
  if_pos (Nat.ble_eq_true_of_le h)

theorem State.spdmAt_early {n : Nat} (h : s.vn .spdmSt < n) (op : State → State) : s.spdmAt n op = s.spdmError "UnexpectedRequest" :=
  if_neg (by simpa using h)

/-- A request that needs the connection negotiated, where it is. -/
theorem answers_negotiated {t : Nat} {m : FacMsg} {op : State → State} {c : Instr} {Q : State → Prop} (h : FacOk s m)
    (hst : 3 ≤ s.vn .spdmSt) (he : exec c s = .next ((s.start t).facMsg m fun s => s.spdmAt 3 op)) (hq : Q (op (s.start t))) :
    Answers c s Q :=
  answers_facMsg h he (by rwa [State.spdmAt_reached (s := s.start t) hst])

theorem State.inSession_some {m : FacMsg} {k : Nat} (h : m.ses = some k) (op : Nat → State → State) : s.inSession m op = op k s := by
  rw [State.inSession, h]

theorem State.inSession_none {m : FacMsg} (h : m.ses = none) (op : Nat → State → State) :
    s.inSession m op = s.spdmError "UnexpectedRequest" := by
  rw [State.inSession, h]

/-- A request that is sent in a session, where it is. -/
theorem answers_inSession {t k : Nat} {m : FacMsg} {op : Nat → State → State} {c : Instr} {Q : State → Prop} (h : FacOk s m)
    (hs : m.ses = some k) (he : exec c s = .next ((s.start t).facMsg m fun s => s.inSession m op)) (hq : Q (op k (s.start t))) :
    Answers c s Q :=
  answers_facMsg h he (by rwa [State.inSession_some hs])

/-- An error response, with nothing else done. -/
theorem answers_spdmError {t : Nat} {m : FacMsg} {op : State → State} {c : Instr} {code : String} (h : FacOk s m)
    (he : exec c s = .next ((s.start t).facMsg m op)) (ho : op (s.start t) = (s.start t).spdmError code) :
    Answers c s fun u => u.out = [Out.fac (Config.standardBody ("ERROR " ++ code) [])] ∧ Frame Scope.none s u :=
  answers_facMsg h he (by
    rw [ho]
    exact ⟨rfl, frame_none_emit ..⟩)

/-- A request that the connection has not reached the state for. -/
theorem answers_spdmEarly {t n : Nat} {m : FacMsg} {op : State → State} {c : Instr} (h : FacOk s m)
    (he : exec c s = .next ((s.start t).facMsg m fun s => s.spdmAt n op)) (hst : s.vn .spdmSt < n) :
    Answers c s fun u => u.out = [Out.fac (Config.standardBody "ERROR UnexpectedRequest" [])] ∧ Frame Scope.none s u :=
  answers_spdmError h he (State.spdmAt_early (s := s.start t) hst op)

/-- A request of a session, outside one. -/
theorem answers_spdmOutside {t : Nat} {m : FacMsg} {op : Nat → State → State} {c : Instr} (h : FacOk s m)
    (he : exec c s = .next ((s.start t).facMsg m fun s => s.inSession m op)) (hs : m.ses = none) :
    Answers c s fun u => u.out = [Out.fac (Config.standardBody "ERROR UnexpectedRequest" [])] ∧ Frame Scope.none s u :=
  answers_spdmError h he (State.inSession_none hs op)

theorem State.sesSt_congr {s u : State} {k : Nat} (h : u.v .spdmSes k = s.v .spdmSes k) : u.sesSt k = s.sesSt k :=
  congrArg Int.toNat h

theorem State.sesSt_sesSet_same (s : State) (k n : Nat) : (s.sesSet k n).sesSt k = n := by
  simp [State.sesSt, State.sesSet, State.vn]

theorem State.sesSt_sesSet_ne (s : State) {k q : Nat} (h : q ≠ k) (n : Nat) : (s.sesSet k n).sesSt q = s.sesSt q := by
  have hv : (s.setV .spdmSes n k).v .spdmSes q = s.v .spdmSes q :=
    State.v_setV_ne _ _ _ _ _ _ _ _ fun e => h (congrArg Key.i e)
  simp [State.sesSt, State.sesSet, State.vn, hv]

theorem State.sessions_sesSet (s : State) (k n : Nat) : (s.sesSet k n).rd F.FAC_STATUS_SESSIONS =
    b2n ((s.sesSet k n).sesSt 0 ≠ 0) + b2n ((s.sesSet k n).sesSt 1 ≠ 0) := by
  have hb (b : Bool) : b2n b ≤ 1 := by cases b <;> decide
  rw [State.sesSet, State.rd_wr_same _ _ _ _ _ (by decide), Nat.mod_eq_of_lt ((Nat.add_le_add (hb _) (hb _)).trans_lt (by decide))]
  rfl

theorem State.errors_sesSet (s : State) (k n : Nat) : (s.sesSet k n).rd F.FAC_STATUS_ERRORS = s.rd F.FAC_STATUS_ERRORS :=
  State.rd_wr_apart _ _ _ _ _ _ _ _ (by decide) (by decide)

/-- Of two sessions, one that is begun counts as one. -/
theorem State.sessions_begun (s : State) {k : Nat} (hk : k = 0 ∨ k = 1) :
    (s.sesSet k 1).rd F.FAC_STATUS_SESSIONS = 1 + (if s.sesSt (1 - k) = 0 then 0 else 1) := by
  rw [State.sessions_sesSet]
  obtain rfl | rfl := hk
  · rw [State.sesSt_sesSet_same, State.sesSt_sesSet_ne s (by decide)]
    by_cases h : s.sesSt 1 = 0 <;> simp [b2n, h]
  · rw [State.sesSt_sesSet_same, State.sesSt_sesSet_ne s (by decide)]
    by_cases h : s.sesSt 0 = 0 <;> simp [b2n, h]

theorem exec_keyExchange {m : FacMsg} (h : FacOk s m) (hst : 3 ≤ s.vn .spdmSt) (hk : s.is F.ID_STATUS_KEY_READY = true) (t : Nat)
    (exch : List Byte) : exec (.keyExchange t m 0 exch) s = .next (match [0, 1].find? fun k => Nat.beq (s.sesSt k) 0 with
      | none => (s.start t).spdmError "SessionLimitExceeded"
      | some k => (((s.start t).sesSet k 1).setV .spdmUpd 0 k).spdmSigned "KEY_EXCHANGE_RSP" (BitVec.ofNat 8 k :: exch)) := by
  refine congrArg Host.Outcome.next ?_
  rw [State.facMsg_takes h, State.spdmAt_reached (s := s.start t) hst, if_neg (by decide), if_neg (by simp [hk])]
  rfl

theorem exec_keyExchange_begins {m : FacMsg} (h : FacOk s m) (hst : 3 ≤ s.vn .spdmSt) (hk : s.is F.ID_STATUS_KEY_READY = true) {k : Nat}
    (hf : ([0, 1].find? fun k => Nat.beq (s.sesSt k) 0) = some k) (t : Nat) (exch : List Byte) : exec (.keyExchange t m 0 exch) s =
      .next ((((s.start t).sesSet k 1).setV .spdmUpd 0 k).spdmSigned "KEY_EXCHANGE_RSP" (BitVec.ofNat 8 k :: exch)) := by
  rw [exec_keyExchange h hst hk, hf]

theorem exec_keyExchange_full {m : FacMsg} (h : FacOk s m) (hst : 3 ≤ s.vn .spdmSt) (hk : s.is F.ID_STATUS_KEY_READY = true)
    (hf : ([0, 1].find? fun k => Nat.beq (s.sesSt k) 0) = none) (t : Nat) (exch : List Byte) :
    exec (.keyExchange t m 0 exch) s = .next ((s.start t).spdmError "SessionLimitExceeded") := by
  rw [exec_keyExchange h hst hk, hf]

end

/-! ### The obligation -/

/-- Settles O54: by the state of the connection or of the session that each request needs, and by what it does there. -/
theorem spdmResponder : Obligations.SpdmResponder := by
  refine ⟨?version, ?capabilities, ?algorithms, ?early, ?digests, ?certificate, ?challenge, ?count, ?measure, ?exchange, ?limit,
    ?finishes, ?fails, ?heartbeat, ?keyUpdate, ?ends, ?outside⟩
  case version =>
    intro s t m hm
    exact answers_facMsg hm rfl ⟨(State.v_standard _ _ (by decide)).trans (State.v_setV_same ..), State.mem_out_facSend ..⟩
  case capabilities =>
    intro s t m hm hst
    refine answers_facMsg hm rfl ?_
    rw [State.spdmAt_reached (s := s.start t) hst]
    exact ⟨(State.v_standard _ _ (by decide)).trans (State.v_setV_same ..), State.mem_out_facSend ..⟩
  case algorithms =>
    intro s t m hm hst
    refine answers_facMsg hm rfl ?_
    rw [State.spdmAt_reached (s := s.start t) hst]
    exact ⟨(State.v_standard _ _ (by decide)).trans (State.v_setV_same ..), State.mem_out_facSend ..⟩
  case early =>
    intro s t slot idx x y m sign b hm hst c hc
    obtain rfl | rfl | rfl | rfl | rfl : c = .getDigests t m ∨ c = .getCertificate t m slot x y ∨ c = .challenge t m slot b
        ∨ c = .getMeasurements t m idx sign b ∨ c = .keyExchange t m slot b := by simpa using hc
    · exact answers_spdmEarly hm rfl hst
    · exact answers_spdmEarly hm rfl hst
    · exact answers_spdmEarly hm rfl hst
    · exact answers_spdmEarly hm rfl hst
    · exact answers_spdmEarly hm rfl hst
  case digests =>
    intro s t m hm hst
    refine answers_negotiated hm hst rfl ?_
    by_cases hv : s.is F.ID_STATUS_CERT_VALID = true
    · rw [State.is_start, if_pos hv, if_pos hv]
      exact ⟨frame_none_emit .., rfl⟩
    · rw [State.is_start, if_neg hv, if_neg hv]
      exact ⟨frame_none_emit .., rfl⟩
  case certificate =>
    intro s t off len m rest hm hst hv hrest
    refine answers_negotiated hm hst rfl ?_
    rw [if_neg (by decide), if_neg (by simp [hv]), hrest]
    exact ⟨frame_none_emit .., rfl⟩
  case challenge =>
    intro s t m nonce hm hst hk
    refine answers_negotiated hm hst rfl ?_
    rw [if_neg (by decide), if_neg (by simp [hk])]
    exact ⟨frame_none_emit .., _, rfl, List.take_left⟩
  case count =>
    intro s t m nonce hm hst
    exact answers_negotiated hm hst rfl rfl
  case measure =>
    intro s t m nonce hm hst hk
    refine answers_negotiated hm hst rfl ?_
    rw [if_neg (by decide), if_neg (by simp [hk])]
    exact ⟨_, rfl, by simp [State.measBlock]⟩
  case exchange =>
    intro s t k m exch hm hst hk hf
    have hk2 : k = 0 ∨ k = 1 := by simpa using List.mem_of_find?_eq_some hf
    refine ⟨_, exec_keyExchange_begins hm hst hk hf t exch, ?_, ?_, ?_, ?_⟩
    · exact (State.sesSt_congr ((State.v_spdmSigned _ _ (by decide)).trans (State.v_setV_var _ _ _ _ _ _ _ _ (by decide)))).trans
        (State.sesSt_sesSet_same ..)
    · exact (State.sesSt_congr ((State.v_spdmSigned _ _ (by decide)).trans (State.v_setV_var _ _ _ _ _ _ _ _ (by decide)))).trans
        (State.sesSt_sesSet_ne _ (by omega) _)
    · exact (State.v_spdmSigned _ _ (by decide)).trans (State.v_setV_same ..)
    · exact (State.rd_spdmSigned _ _ (by decide)).trans (State.sessions_begun _ hk2)
  case limit =>
    intro s t m exch hm hst hk h0 h1
    have hf : ([0, 1].find? fun k => Nat.beq (s.sesSt k) 0) = none := by simpa using And.intro h0 h1
    exact ⟨_, exec_keyExchange_full hm hst hk hf t exch, rfl, frame_none_emit ..⟩
  case finishes =>
    intro s t k m hm hk hs
    refine answers_facMsg hm rfl ?_
    rw [if_neg (by simpa [hk] using hs), if_pos rfl]
    exact ⟨(State.sesSt_congr (State.v_standard _ _ (by decide))).trans (State.sesSt_sesSet_same ..), State.mem_out_facSend ..⟩
  case fails =>
    intro s t k m hm hk hs
    refine answers_facMsg hm rfl ?_
    rw [if_neg (by simpa [hk] using hs), if_neg (by decide)]
    refine ⟨?_, State.mem_out_facSend .., ?_⟩
    · exact (State.sesSt_congr ((State.v_spdmError _ (by decide)).trans (State.v_facErr _ (by decide)))).trans (State.sesSt_sesSet_same ..)
    · exact (State.errors_facErr ..).trans (by rw [State.errors_sesSet]; rfl)
  case heartbeat =>
    intro s t k m hm hs
    exact answers_inSession hm hs rfl ⟨rfl, frame_none_emit ..⟩
  case keyUpdate =>
    intro s t k op m hm hs h1 h3
    refine answers_inSession hm hs rfl ?_
    rw [if_neg (by simp; omega)]
    by_cases h : op = 3
    · subst h
      exact ⟨rfl, (Int.add_zero _).symm⟩
    · have hlt : Nat.blt op 3 = true := Nat.blt_eq.mpr (by omega)
      rw [if_neg h, State.when, if_pos hlt]
      exact ⟨rfl, State.v_addV_same ..⟩
  case ends =>
    intro s t k m hm hs
    exact answers_inSession hm hs rfl
      ⟨(State.sesSt_congr (State.v_standard _ _ (by decide))).trans (State.sesSt_sesSet_same ..), rfl⟩
  case outside =>
    intro s t op m hm hs c hc
    obtain rfl | rfl | rfl : c = .spdmHeartbeat t m ∨ c = .spdmKeyUpdate t m op ∨ c = .endSession t m := by simpa using hc
    · exact answers_spdmOutside hm rfl hs
    · exact answers_spdmOutside hm rfl hs
    · exact answers_spdmOutside hm rfl hs

end Sys2Proof.Machine

/-!
PROOFS. The transports of the facility port, MCTP control and the PMBus subset (18 R552, R553, R558, R559).
-/
namespace Sys2Proof.Machine

/-! ### I3C and SMBus -/

/-- With nothing done the port does not acknowledge. -/
theorem out_start_nack (s : State) (t : Nat) :
    ((s.start t).emit .nack).out = [Out.nack] ∧ Frame Scope.none s ((s.start t).emit .nack) :=
  ⟨rfl, frame_none_emit ..⟩

theorem State.daValid_dynAddr (s : State) (da : Nat) (ibi : Bool) : (s.dynAddr da ibi).rd F.FAC_STATUS_DA_VALID = 1 := by
  rw [State.dynAddr, State.rd_setV, State.rd_wr_apart _ _ _ _ _ _ _ _ (by decide) (by decide), State.rd_wr_same _ _ _ _ _ (by decide)]
  rfl

theorem State.dynAddr_dynAddr (s : State) (da : Nat) (ibi : Bool) : (s.dynAddr da ibi).rd F.FAC_STATUS_DYN_ADDR = da % 128 :=
  State.rd_wr_same _ _ _ _ _ (by decide)

theorem State.ibiOn_dynAddr (s : State) (da : Nat) (ibi : Bool) : (s.dynAddr da ibi).v .ibiOn = (b2n ibi : Nat) :=
  State.v_setV_same ..

theorem State.out_dynAddr (s : State) (da : Nat) (ibi : Bool) : (s.dynAddr da ibi).out = s.out := rfl

/-! ### PMBus -/

/-- A PMBus command that the port takes does its operation. -/
theorem answers_pmbus {s : State} {t : Nat} {op : State → State} {c : Instr} {Q : State → Prop} (hu : s.hubUp = true)
    (he : exec c s = .next ((s.start t).pmbus true op)) (hq : Q (op (s.start t))) : Answers c s Q :=
  ⟨_, he.trans (congrArg _ ((if_neg (by simp [hu])).trans (if_neg (by decide)))), hq⟩

/-- A PMBus command whose PEC fails is counted and not acknowledged. -/
theorem answers_pmbus_pec {s : State} {t : Nat} {op : State → State} {c : Instr} (hu : s.hubUp = true)
    (he : exec c s = .next ((s.start t).pmbus false op)) : Answers c s fun u => Out.nack ∈ u.out
      ∧ u.rd F.FAC_STATUS_ERRORS = satAddN F.FAC_STATUS_ERRORS.w (s.rd F.FAC_STATUS_ERRORS) 1 ∧ u.facPg = s.facPg := by
  refine ⟨_, he.trans (congrArg _ ((if_neg (by simp [hu])).trans (if_pos rfl))), ?_, ?_, ?_⟩
  · exact List.mem_append_right _ (List.mem_singleton_self _)
  · exact (s.start t).errors_facErr 0
  · exact congrArg Int.toNat (State.v_facErr (s := s.start t) 0 (by decide))

/-- A read of a value that the page has, or else has not. -/
theorem out_read (s : State) (t : Nat) {c : Bool} {p : Prop} [Decidable p] (h : c = true ↔ p) (b : List Byte) :
    (if c = true then (s.start t).facSend b else (s.start t).emit .nack).out = [if p then Out.fac b else Out.nack] := by
  by_cases hc : c = true
  · rw [if_pos hc, if_pos (h.mp hc)]
    rfl
  · rw [if_neg hc, if_neg (mt h.mpr hc)]
    rfl

/-- The page selects a rail whose current is measured. -/
theorem State.onRail_measured (s : State) :
    (s.onRail && !s.monitored s.facPg) = true ↔ s.onRail = true ∧ s.monitored s.facPg = false := by
  simp

/-- A two's complement number lies below half its range. -/
theorem toSigned_lt {w : Nat} (hw : 0 < w) (v : Nat) : toSigned w v < ((2 ^ (w - 1) : Nat) : Int) := by
  obtain ⟨n, rfl⟩ : ∃ n, w = n + 1 := ⟨w - 1, by omega⟩
  have hpow : 2 ^ (n + 1) = 2 * 2 ^ n := Nat.pow_succ'
  have hmod : v % 2 ^ (n + 1) < 2 ^ (n + 1) := Nat.mod_lt _ (Nat.two_pow_pos _)
  rw [Nat.add_sub_cancel, toSigned, Nat.add_sub_cancel]
  split <;> omega

/-- A setpoint that is no greater than a signed 32-bit field of LOOP_SP_MAX fits LOOP_SP. -/
theorem State.sp_lt_of_le_max (s : State) {l : Nat} {x : Int} (h : x ≤ s.rdI F.LOOP_SP_MAX_SP_MAX l) : x < ((2 ^ 31 : Nat) : Int) :=
  h.trans_lt (toSigned_lt (by decide) _)

theorem State.sp_wrI_same (s : State) {x : Int} (h0 : 0 ≤ x) (hx : x < ((2 ^ 31 : Nat) : Int)) (l : Nat) :
    (s.wrI F.LOOP_SP_SP x l).rdI F.LOOP_SP_SP l = x := by
  rw [State.rdI, State.wrI, State.rd_wr_same _ _ _ _ _ (by decide)]
  refine (congrArg _ (Nat.mod_eq_of_lt ?_)).trans (toSigned_ofSigned (by decide) (h0.trans' (by decide)) hx)
  simp only [ofSigned]
  omega

/-- A run that writes a setpoint to loops leaves it at each of them. -/
theorem State.sp_each_wrI (s : State) {x : Int} (h0 : 0 ≤ x) (hx : x < ((2 ^ 31 : Nat) : Int)) {ls : List Nat} {l : Nat} (hl : l ∈ ls) :
    (s.each ls fun s l => s.wrI F.LOOP_SP_SP x l).rdI F.LOOP_SP_SP l = x := by
  refine State.each_sets (P := fun u => u.rdI F.LOOP_SP_SP l = x) hl (fun u => u.sp_wrI_same h0 hx l) fun u y _ hu => ?_
  by_cases h : l = y
  · rw [h]
    exact u.sp_wrI_same h0 hx y
  · exact (congrArg _ (State.rd_wr_ne _ _ _ _ _ _ _ _ fun e => h (congrArg Key.i e))).trans hu

/-- Whether the port refuses a facility cap of some raw value. -/
abbrev State.capRefused (s : State) (w : Nat) : Prop :=
  (decide (s.facPg ≠ 0xFF) || decide (w % 65536 = 0) || s.capLoops.isEmpty
    || s.capLoops.any fun l => decide (s.rdI F.LOOP_SP_MAX_SP_MAX l < ((w % 65536 * 65536 : Nat) : Int))) = true

theorem State.capRefused_iff (s : State) (w : Nat) : s.capRefused w ↔ s.facPg ≠ 0xFF ∨ w % 65536 = 0 ∨ s.capLoops = []
    ∨ ∃ l ∈ s.capLoops, s.rdI F.LOOP_SP_MAX_SP_MAX l < ((w % 65536 * 65536 : Nat) : Int) := by
  simp [State.capRefused, or_assoc]

/-- The least of a list, folded from its head. -/
theorem foldl_min_eq {x a : Int} {l : List Int} (hx : x ∈ a :: l) (hle : ∀ y ∈ a :: l, x ≤ y) : l.foldl min a = x := by
  induction l generalizing a with
  | nil => exact (List.mem_singleton.mp hx).symm
  | cons b l ih =>
    refine ih ?_ fun y hy => ?_
    · have hab : x ≤ a ∧ x ≤ b := ⟨hle a (by simp), hle b (by simp)⟩
      obtain rfl | rfl | h : x = a ∨ x = b ∨ x ∈ l := by simpa using hx
      · simp [min_eq_left hab.2]
      · simp [min_eq_right hab.1]
      · simp [h]
    · obtain rfl | h := List.mem_cons.mp hy
      · exact le_min (hle a (by simp)) (hle b (by simp))
      · exact hle y (by simp [h])

/-! ### The obligation -/

/-- Settles O53: by what each command comes to where the port takes it, and what the port answers where it does not. -/
theorem transportsAndPMBus : Obligations.TransportsAndPMBus := by
  refine ⟨?setdasa, ?entdaa, ?taken, ?alert, ?setEid, ?getEid, ?version, ?types, ?vendorTypes, ?page, ?pageSet, ?voutMode, ?vout,
    ?iout, ?pout, ?poutPkg, ?temperature, ?capSet, ?capRefused, ?capRead, ?pec⟩
  case setdasa =>
    intro s t sa da ibi hf
    by_cases ha : sa = s.rd F.FAC_STATUS_ADDR
    · refine ⟨_, congrArg Host.Outcome.next (if_pos (Bool.and_eq_true_iff.mpr ⟨hf, by rw [ha]; exact Nat.beq_refl _⟩)), ?_⟩
      dsimp only
      rw [if_pos ha]
      exact ⟨State.daValid_dynAddr .., State.dynAddr_dynAddr .., State.ibiOn_dynAddr ..⟩
    · refine ⟨_, congrArg Host.Outcome.next (if_neg fun h => ha (by simpa using (Bool.and_eq_true_iff.mp h).2)), ?_⟩
      dsimp only
      rw [if_neg ha]
      exact out_start_nack ..
  case entdaa =>
    intro s t da ibi hf
    have hf' : (s.start t).i3cFree = true := hf
    refine ⟨_, congrArg Host.Outcome.next ((if_neg (by simp [hf'])).trans (if_pos rfl)), ?_, ?_, ?_⟩
    · exact State.daValid_dynAddr ..
    · exact State.dynAddr_dynAddr ..
    · rw [State.out_dynAddr]
      exact State.mem_out_facSend ..
  case taken =>
    intro s t sa da won ibi hf c hc
    have hf' : (s.start t).i3cFree = false := hf
    obtain rfl | rfl : c = .setdasa t sa da ibi ∨ c = .entdaa t da won ibi := by simpa using hc
    · exact ⟨_, congrArg Host.Outcome.next (if_neg (by simp [hf'])), out_start_nack ..⟩
    · exact ⟨_, congrArg Host.Outcome.next (if_pos (by simp [hf'])), out_start_nack ..⟩
  case alert =>
    intro s t hu hm
    by_cases ha : s.alertLow = true
    · refine ⟨_, congrArg Host.Outcome.next (if_pos ?_), ?_⟩
      · rw [Bool.and_eq_true, Bool.and_eq_true]
        exact ⟨⟨hu, hm⟩, ha⟩
      · rw [if_pos ha]
        rfl
    · refine ⟨_, congrArg Host.Outcome.next (if_neg fun h => ha (Bool.and_eq_true_iff.mp h).2), ?_⟩
      rw [if_neg ha]
      rfl
  case setEid =>
    intro s t op eid m hm hop h0 h255
    have heid : ((s.start t).wr F.FAC_STATUS_EID eid).rd F.FAC_STATUS_EID = eid % 256 := State.rd_wr_same _ _ _ _ _ (by decide)
    refine answers_facMsg hm rfl ?_
    simp only [State.when, Nat.blt_eq.mpr hop, h0, h255, decide_false, Bool.or_self, Bool.not_false, Bool.and_self, if_true, heid]
    exact ⟨heid, State.mem_out_facSend ..⟩
  case getEid =>
    intro s t m hm
    exact answers_facMsg hm rfl ⟨State.mem_out_facSend .., frame_none_emit ..⟩
  case version =>
    intro s t typ m hm
    exact answers_facMsg hm rfl ⟨State.mem_out_facSend .., frame_none_emit ..⟩
  case types =>
    intro s t m hm
    exact answers_facMsg hm rfl ⟨State.mem_out_facSend .., frame_none_emit ..⟩
  case vendorTypes =>
    intro s t sel m hm
    exact answers_facMsg hm rfl ⟨State.mem_out_facSend .., frame_none_emit ..⟩
  case page =>
    intro s t hu
    exact answers_pmbus hu rfl rfl
  case pageSet =>
    intro s t v hu
    refine answers_pmbus hu rfl ?_
    by_cases hv : v = 0xFF ∨ (s.rail? v).isSome = true
    · rw [if_pos hv]
      dsimp only
      rw [if_pos (by simpa using hv)]
      exact ⟨(congrArg Int.toNat (State.v_setV_same ..)).trans (Int.toNat_natCast v), rfl⟩
    · rw [if_neg hv]
      dsimp only
      rw [if_neg (by simpa using hv)]
      exact ⟨rfl, rfl⟩
  case voutMode =>
    intro s t hu
    exact answers_pmbus hu rfl (out_read s t Iff.rfl _)
  case vout =>
    intro s t hu
    exact answers_pmbus hu rfl (out_read s t Iff.rfl _)
  case iout =>
    intro s t hu
    exact answers_pmbus hu rfl (out_read s t (s.onRail_measured) _)
  case pout =>
    intro s t hu hp
    refine answers_pmbus hu rfl ?_
    rw [if_neg (by exact hp)]
    exact out_read s t s.onRail_measured _
  case poutPkg =>
    intro s t hu hp
    refine answers_pmbus hu rfl ?_
    rw [if_pos (by exact hp)]
    rfl
  case temperature =>
    intro s t x hu hp hx
    have hpage : (!(decide (s.facPg = 0xFF) || s.onRail)) = false := by simpa [Classical.or_iff_not_imp_left] using hp
    refine answers_pmbus hu rfl ?_
    rw [if_neg (by exact Bool.eq_false_iff.mp hpage), hx]
    rfl
  case capSet =>
    intro s t w hu hp hw hl hmax
    refine answers_pmbus hu rfl fun l hml => ?_
    have hrun : ¬ s.capRefused w := fun h => by
      obtain h | h | h | ⟨k, hk, h⟩ := (s.capRefused_iff w).mp h
      · exact h hp
      · exact hw h
      · exact hl h
      · exact absurd (hmax k hk) (not_le.mpr h)
    rw [if_neg (by exact hrun)]
    refine (congrArg _ (State.rd_leaseCheck (by decide))).trans ?_
    exact (s.start t).sp_each_wrI (Int.natCast_nonneg _) (s.sp_lt_of_le_max (hmax l hml)) hml
  case capRefused =>
    intro s t w hu h
    refine answers_pmbus hu rfl ?_
    rw [if_pos (by exact (s.capRefused_iff w).mpr h)]
    exact out_start_nack ..
  case capRead =>
    intro s t x hu hp hx hle
    refine answers_pmbus hu rfl ?_
    have hmap : (s.start t).capLoops.map (fun l => (s.start t).rdI F.LOOP_SP_SP l) = s.capLoops.map fun l => s.rdI F.LOOP_SP_SP l := rfl
    simp only [hmap]
    cases hsps : s.capLoops.map fun l => s.rdI F.LOOP_SP_SP l with
    | nil => simp [hsps] at hx
    | cons a l =>
      have hmin : l.foldl min a = x := by
        refine foldl_min_eq (hsps ▸ hx) fun y hy => ?_
        obtain ⟨k, hk, rfl⟩ := List.mem_map.mp (hsps ▸ hy)
        exact hle k hk
      dsimp only
      rw [if_pos (by exact hp), hmin]
      rfl
  case pec =>
    intro s t w hu c hc
    obtain rfl | rfl | rfl | rfl | rfl | rfl | rfl | rfl : c = .pmbPage t false (some w) ∨ c = .voutMode t false ∨ c = .readVout t false
        ∨ c = .readIout t false ∨ c = .readPout t false ∨ c = .readTemperature1 t false ∨ c = .mfrFacilityCapWrite t false w
        ∨ c = .mfrFacilityCapRead t false := by simpa using hc
    all_goals exact answers_pmbus_pec hu rfl

end Sys2Proof.Machine

/-!
PROOFS. What an event of the hub keeps (14 R424; 17 R522, R523): a property that each of the writes of an event keeps is kept by the event.
-/
namespace Sys2Proof.Machine

/-- What holds of a state and is kept by the work that a condition guards holds after it. -/
theorem State.when_holds {P : State → Prop} {s : State} {c : Bool} {op : State → State} (h : P s) (hop : ∀ u, P u → P (op u)) :
    P (s.when c op) := by
  unfold State.when
  split
  · exact hop s h
  · exact h

/-- A property that is kept by each of the writes of an event: of the levels, of the trace store, of a variable, of a field that is none of
LATCH, PEND and ACTIVE, of the set of bits just set, of LATCH or PEND to 1, and by an in-band interrupt. -/
structure EventKeeps (P : State → Prop) : Prop where
  levels : ∀ u l, P u → P { u with evt := { u.evt with levels := l } }
  trc : ∀ u x, P u → P { u with trc := x }
  var : ∀ u x y i j, P u → P (u.setV x y i j)
  wr : ∀ u (f : Fld) v i j,
    f.r ≠ .EVC_SRC_STATE ∨ f ∈ [F.EVC_SRC_STATE_LEVEL, F.EVC_SRC_STATE_HELD, F.EVC_SRC_STATE_OCC, F.EVC_SRC_STATE_LAST_TIME] →
      P u → P (u.wr f v i j)
  now : ∀ u l, P u → P { u with setNow := l }
  latch : ∀ u k, P u → P (u.wr F.EVC_SRC_STATE_LATCH (Nat.lor (u.rd F.EVC_SRC_STATE_LATCH k) 1) k)
  pend : ∀ u k, P u → P (u.wr F.EVC_SRC_STATE_PEND 1 k)
  ibi : ∀ u n, P u → P (u.emit (.ibi n))

/-- An occurrence before its source is looked up: the level of a flag kind, the cause of an alert, the count of BROKEN. -/
def State.eventNoted (s : State) (code inst : Nat) : State :=
  let s := s.when (flagKind code) fun s => { s with evt := { s.evt with levels := s.evt.levels ++ [(code, inst)] } }
  let s := match alertBit code inst with | some b => s.facAlert b | none => s
  s.when (Nat.beq code 0x30) fun s => s.incWrap F.CNT_GLOBAL_VAL 1 0xA0

/-- An occurrence whose source is looked up: it is counted as unmapped, or occurs at its source with its trace frame; then its
triggers. -/
theorem State.eventOne_eq (s : State) (code inst detail : Nat) : s.eventOne code inst detail =
    if (flagKind code && s.evt.levels.contains (code, inst)) = true then s
    else
      let s := s.eventNoted code inst
      let s := match s.findSrc code inst with
        | none => s.incSat F.EVC_STATUS_UNMAPPED
        | some k => ((s.when (!flagKind code) fun s => s.flag F.EVC_SRC_STATE_LATCH k).occur k).frame 7 0 k
            ((s.when (!flagKind code) fun s => s.flag F.EVC_SRC_STATE_LATCH k).occur k).time
            (code % 256 + 2 ^ 8 + 2 ^ 16 * (inst % 2 ^ 16) + 2 ^ 32 * (detail % 2 ^ 32)) 0
      s.each (s.trigEntries code inst) fun s e => s.trcTrigger e := rfl

namespace EventKeeps
variable {P : State → Prop} (hP : EventKeeps P) {s : State} (h : P s)
include hP h

/-- A write of a register other than EVC_SRC_STATE. -/
theorem wrOther {f : Fld} (hf : f.r ≠ .EVC_SRC_STATE) (v i j : Nat) : P (s.wr f v i j) := hP.wr _ _ _ _ _ (.inl hf) h

/-! ### The trace unit -/

theorem trcSync : P s.trcSync :=
  hP.wrOther (hP.wrOther (hP.wrOther h (by decide) _ _ _) (by decide) _ _ _) (by decide) _ _ _

theorem trcStore (cls kind src time d0 d1 : Nat) : P (s.trcStore cls kind src time d0 d1) := by
  unfold State.trcStore
  extract_lets f u full blocked old base w
  have hu : P u := hP.var _ _ _ _ _ h
  split
  · exact hu
  · exact hP.trcSync (State.when_holds (hP.trc _ _ hu) fun _ hx => hP.var _ _ _ _ _ hx)

theorem trcRaise (code inst : Nat) : P (s.trcRaise code inst) := hP.trc _ _ h

theorem trcDropShow : P s.trcDropShow := hP.wrOther h (by decide) _ _ _

theorem trcLossFrame : P s.trcLossFrame :=
  hP.trcRaise (State.each_keeps (hP.trcDropShow (hP.trcStore h ..)) fun _ _ _ hx => hP.var _ _ _ _ _ hx) _ _

theorem trcDropUpdate : P s.trcDropUpdate := by
  have hu := hP.wrOther h (f := F.TRC_STATUS_DROPPING) (by decide) (dropMask s.trcUnsent (s.rd F.TRC_STATUS_DROPPING)) 0 0
  unfold State.trcDropUpdate
  extract_lets old new u
  split
  · exact hP.trcLossFrame hu
  · exact hu

theorem flagOther {f : Fld} (hf : f.r ≠ .EVC_SRC_STATE) (i j m : Nat) : P (s.flag f i j m) := hP.now _ _ (hP.wrOther h hf _ _ _)

theorem trcFreezeFor (cause : Nat) : P (s.trcFreezeFor cause) :=
  hP.trcRaise (hP.flagOther (hP.wrOther (hP.wrOther (hP.trcStore h ..) (by decide) _ _ _) (by decide) _ _ _) (by decide) _ _ _) _ _

theorem trcCount : P s.trcCount := by
  unfold State.trcCount
  split
  · exact hP.trcFreezeFor h _
  · exact h

theorem frame (cls kind src time d0 d1 : Nat) : P (s.frame cls kind src time d0 d1) := by
  unfold State.frame
  split
  · exact h
  · split
    · extract_lets u n w
      have hw : P w := hP.var _ _ _ _ _ (hP.wrOther h (by decide) _ _ _)
      split
      · exact hP.trcCount (hP.trcLossFrame hw)
      · exact hw
    · exact hP.trcCount (hP.trcDropUpdate (hP.trcStore h ..))

theorem trcTrigger (entry : Nat) : P (s.trcTrigger entry) := by
  have ht := hP.wrOther h (f := F.TRC_STATUS_TRIGS) (by decide) (satAddN F.TRC_STATUS_TRIGS.w (s.rd F.TRC_STATUS_TRIGS) 1) 0 0
  unfold State.trcTrigger
  split
  · exact hP.trcRaise (hP.var _ _ _ _ _ (hP.wrOther (hP.wrOther (hP.trcDropShow (hP.trcStore ht ..)) (by decide) _ _ _)
      (by decide) _ _ _)) _ _
  · exact hP.trcRaise (hP.trcCount (hP.trcDropShow (hP.trcStore ht ..))) _ _
  · exact hP.trcRaise ht _ _
  · exact h

/-! ### The source and its group -/

theorem grpFire (g : Nat) : P (s.grpFire g) := by
  unfold State.grpFire
  split
  · have hm := State.each_keeps (l := s.grpMembers g) (op := fun s k => s.wr F.EVC_SRC_STATE_HELD 0 k) h
      fun u k _ hu => hP.wr u F.EVC_SRC_STATE_HELD 0 k 0 (.inr (by decide)) hu
    exact hP.wrOther (hP.wrOther (hP.wrOther hm (by decide) _ _ _) (by decide) _ _ _) (by decide) _ _ _
  · exact h

omit h in
/-- A source that becomes pending, by what holds once its PEND is set. -/
theorem setPend_of {k : Nat} (hp : P (s.wr F.EVC_SRC_STATE_PEND 1 k))
    (h0 : s.is F.EVC_SRC_STATE_PEND k = true ∨ s.is F.EVC_SRC_STATE_ACTIVE k = true → P s) : P (s.setPend k) := by
  unfold State.setPend
  split
  · next hc => exact h0 (by simpa using hc)
  · extract_lets u g
    have hu : P u := hp
    split
    · refine hP.wr _ _ _ _ _ (.inr (by decide)) (State.when_holds (State.when_holds hu fun w hw => hP.grpFire hw g) fun w hw => ?_)
      exact hP.wrOther (hP.wrOther (hP.wrOther hw (by decide) _ _ _) (by decide) _ _ _) (by decide) _ _ _
    · exact hu

theorem setPend (k : Nat) : P (s.setPend k) := hP.setPend_of (hP.pend _ _ h) fun _ => h

theorem srcSync (k : Nat) : P (s.srcSync k) := hP.wr _ _ _ _ _ (.inr (by decide)) h

omit h in
/-- An occurrence, by what holds once its source was set pending. -/
theorem occur_of {Q : State → Prop} (hQ : EventKeeps Q) (hq : Q s) {k : Nat} (hp : ∀ u, Q u → P (u.setPend k)) : P (s.occur k) := by
  unfold State.occur
  extract_lets s1 s2 s3 g member s4 s5 s6
  have h1 : Q s1 := hQ.wr _ _ _ _ _ (.inr (by decide)) hq
  have h2 : Q s2 := hQ.wr _ _ _ _ _ (.inr (by decide)) h1
  have h5 : P s5 := hp _ (State.when_holds (hQ.srcSync h2 k) fun u hu => hQ.grpFire hu g)
  split
  · exact State.when_holds (hP.wrOther h5 (by decide) _ _ _) fun u hu => hP.grpFire hu g
  · exact h5

theorem occur (k : Nat) : P (s.occur k) := hP.occur_of hP h fun _ hu => hP.setPend hu k

/-! ### The event -/

theorem facAlert (bit : Nat) : P (s.facAlert bit) := by
  unfold State.facAlert
  extract_lets before
  exact State.when_holds (hP.flagOther h (by decide) _ _ _) fun u hu => hP.ibi _ _ hu

/-- The work of an occurrence before its source is looked up. -/
theorem noted (code inst : Nat) : P (s.eventNoted code inst) := by
  unfold State.eventNoted
  extract_lets u w
  have hu : P u := State.when_holds h fun x hx => hP.levels _ _ hx
  have hw : P w := by
    unfold w
    split
    · exact hP.facAlert hu _
    · exact hu
  exact State.when_holds hw fun x hx => hP.wrOther hx (by decide) _ _ _

theorem traced (code inst : Nat) : P (s.each (s.trigEntries code inst) fun s e => s.trcTrigger e) :=
  State.each_keeps h fun _ e _ hu => hP.trcTrigger hu e

theorem eventOne (code inst detail : Nat) : P (s.eventOne code inst detail) := by
  rw [State.eventOne_eq]
  split
  · exact h
  · have hn := hP.noted h code inst
    refine hP.traced ?_ code inst
    split
    · exact hP.wrOther hn (by decide) _ _ _
    · next k _ =>
      refine hP.frame (hP.occur (State.when_holds hn fun u hu => ?_) k) _ _ _ _ _ _
      exact hP.now _ _ (hP.latch _ _ hu)

theorem evtDrain (fuel : Nat) : P (s.evtDrain fuel) := by
  induction fuel generalizing s with
  | zero => exact h
  | succ n ih =>
    unfold State.evtDrain
    split
    · exact h
    · exact ih (hP.eventOne (hP.trc _ _ h) _ _ _)

theorem eventD (code inst detail : Nat) : P (s.eventD code inst detail) := hP.evtDrain (hP.eventOne h ..) 8

theorem event (code inst : Nat) : P (s.event code inst) := hP.eventD h ..

end EventKeeps

end Sys2Proof.Machine

/-!
PROOFS. The vendor-defined messages of the facility port (18 R554, R555).
-/
namespace Sys2Proof.Machine

/-! ### Bytes and words -/

theorem leNat_lt (l : List Byte) : leNat l < 256 ^ l.length := by
  induction l with
  | nil => decide
  | cons b r ih =>
    have hb : b.toNat < 256 := b.isLt
    rw [leNat, List.length_cons, Nat.pow_succ]
    omega

/-- Byte k of the number that some bytes spell. -/
theorem leNat_div_mod (l : List Byte) (k : Nat) : leNat l / 256 ^ k % 256 = (l.getD k 0).toNat := by
  induction l generalizing k with
  | nil => simp [leNat]
  | cons b r ih =>
    have hb : b.toNat < 256 := b.isLt
    cases k with
    | zero =>
      simp only [leNat, Nat.pow_zero, Nat.div_one, List.getD_cons_zero]
      omega
    | succ k =>
      rw [leNat, Nat.pow_succ', ← Nat.div_div_eq_div_mul, show (b.toNat + 256 * leNat r) / 256 = leNat r by omega, ih,
        List.getD_cons_succ]

/-- Eight bytes are the bytes of the word that they spell. -/
theorem wordBytes_leNat {l : List Byte} (h : l.length = 8) : wordBytes (BitVec.ofNat 64 (leNat l)) = l := by
  have hlt : leNat l < 2 ^ 64 := (leNat_lt l).trans_eq (by rw [h]; rfl)
  refine List.ext_getElem (by simp [wordBytes, h]) fun k hk1 hk2 => BitVec.eq_of_toNat_eq ?_
  have hd := leNat_div_mod l k
  rw [List.getD_eq_getElem _ _ hk2] at hd
  simp only [wordBytes, List.getElem_map, List.getElem_range, BitVec.extractLsb'_toNat, BitVec.toNat_ofNat, Nat.mod_eq_of_lt hlt,
    Nat.shiftRight_eq_div_pow]
  rw [Nat.pow_mul]
  exact hd

theorem Mem.writeBytes_append (m : Mem) (a : Nat) (x y : List Byte) :
    Mem.writeBytes m a (x ++ y) = Mem.writeBytes (Mem.writeBytes m a x) (a + x.length) y := by
  induction x generalizing m a with
  | nil => rfl
  | cons b x ih =>
    simp only [List.cons_append, Mem.writeBytes, ih, List.length_cons]
    rw [Nat.add_right_comm, Nat.add_assoc]

/-- A store of bytes holds the written bytes at their place, and elsewhere what it held. -/
theorem Mem.read_writeBytes (m : Mem) (p : Nat) (l : List Byte) (a : Nat) :
    Mem.read (Mem.writeBytes m p l) a = if p ≤ a ∧ a < p + l.length then l.getD (a - p) 0 else Mem.read m a := by
  split
  · next h =>
    obtain ⟨k, rfl⟩ := Nat.exists_eq_add_of_le h.1
    rw [Mem.read_writeBytes_in _ _ _ _ (by omega), Nat.add_sub_cancel_left]
  · next h => exact Mem.read_writeBytes_out _ _ _ _ (by omega)

/-! ### A run of words -/

/-- Writes of a word put its bytes at the pointer of a store and move the pointer, as long as they stay below a limit; I is what a write
needs and keeps. -/
def StoresWords (f : State → Word → Status × State) (I : State → Prop) (mem : State → Mem) (ptr : State → Nat) (lim : Nat) : Prop :=
  ∀ s w, I s → ptr s + 8 ≤ lim → ∃ u, f s w = (.ok, u) ∧ I u ∧ ptr u = ptr s + 8 ∧ mem u = Mem.writeBytes (mem s) (ptr s) (wordBytes w)

/-- A data message writes its bytes at the pointer. -/
theorem StoresWords.run {f : State → Word → Status × State} {I : State → Prop} {mem : State → Mem} {ptr : State → Nat} {lim : Nat}
    (hf : StoresWords f I mem ptr lim) (n : Nat) {s : State} {l : List Byte} (hi : I s) (hl : l.length = 8 * n) (hp : ptr s + 8 * n ≤ lim) :
    ∃ u, s.writeWords f (byteWords n l) = (.ok, u) ∧ I u ∧ ptr u = ptr s + 8 * n ∧ mem u = Mem.writeBytes (mem s) (ptr s) l := by
  induction n generalizing s l with
  | zero =>
    obtain rfl : l = [] := List.eq_nil_of_length_eq_zero hl
    exact ⟨s, rfl, hi, rfl, rfl⟩
  | succ n ih =>
    have h8 : (l.take 8).length = 8 := by rw [List.length_take]; omega
    obtain ⟨z, hz, hiz, hpz, hmz⟩ := hf s (BitVec.ofNat 64 (leNat (l.take 8))) hi (by omega)
    obtain ⟨u, hu, hiu, hpu, hmu⟩ := ih (s := z) (l := l.drop 8) hiz (by rw [List.length_drop]; omega) (by omega)
    refine ⟨u, ?_, hiu, by omega, ?_⟩
    · simp only [byteWords, State.writeWords, hz, if_true, hu]
    · rw [hmu, hmz, hpz, wordBytes_leNat h8]
      conv_rhs => rw [← List.take_append_drop 8 l, Mem.writeBytes_append, h8]

/-! ### The stores that are filled through data messages -/

/-- The loader fills the staging bank k, which the facility port owns. -/
def State.Fills (k : Nat) (s : State) : Prop := s.ldr = 1 ∧ s.ldrForeign .fac = false ∧ s.stageBank = k

/-- Writes of IMG_WDATA store words in the staging bank (02 R72). -/
theorem storesWords_ldrData (k : Nat) :
    StoresWords (fun s w => s.ldrData .fac true w) (State.Fills k) (fun s => (s.bank k).mem) (fun s => s.vn .imgPtr) 0x80000 := by
  rintro s w ⟨hl, hf, rfl⟩ hp
  have hd := State.ldrData_fills hf hl hp w
  have hrd {f : Fld} (hn : Foot.ldrData.hasR f.r = false) := (congrArg (fun x : Status × State => x.2.rd f) hd).symm.trans
    (State.rd_ldrData .fac true w hn)
  have howner := (congrArg (fun x : Status × State => x.2.img.owner) hd).symm.trans
    (State.part_ldrData (s := s) (pa := .owner) .fac true w (by decide))
  refine ⟨_, hd, ⟨hrd (f := F.IMG_STATUS_LOADER) (by decide) |>.trans hl, ?_, congrArg (1 - ·) (hrd (f := F.IMG_STATUS_ACTIVE_BANK) (by decide))⟩,
    ?_, ?_⟩
  · rw [State.ldrForeign, howner]
    exact hf
  · exact congrArg Int.toNat ((State.v_wr ..).trans (State.v_setV_same ..))
  · exact congrArg Bank.mem (State.bank_setBank_same ..)

/-- Writes of ID_CERT_WDATA store words in the certificate store (18 R562). -/
theorem storesWords_certData :
    StoresWords (fun s w => s.certData w) (fun s => s.is F.ID_STATUS_FILLING = true) (fun s => s.fac.cert) (fun s => s.vn .certPtr) 4096 := by
  intro s w hf hp
  exact ⟨_, State.certData_stores hf ((Nat.lt_add_of_pos_right (by decide)).trans_le hp) w, hf, congrArg Int.toNat (State.v_setV_same ..), rfl⟩

/-- The data of a data message is whole words. -/
theorem dataFits_words {b : List Byte} (h : dataFits b = true) : 8 ≤ b.length ∧ b.length = 8 * (b.length / 8) := by
  obtain ⟨⟨h8, -⟩, hm⟩ : (8 ≤ b.length ∧ b.length ≤ 240) ∧ b.length % 8 = 0 := by simpa [dataFits] using h
  exact ⟨h8, by omega⟩

/-! ### What a vendor message comes to -/

/-- A vendor message that the port takes is answered with what its operation comes to. -/
theorem answers_vendor {s u : State} {t opcode tag : Nat} {m : FacMsg} {op : State → Status × List Byte × State} {c : Instr} {st : Status}
    {b : List Byte} {Q : State → Prop} (h : FacOk s m) (he : exec c s = .next ((s.start t).vendor m opcode tag op))
    (ho : op (s.start t) = (st, b, u))
    (hq : Q (u.facSend ([BitVec.ofNat 8 opcode, BitVec.ofNat 8 tag, BitVec.ofNat 8 st.code] ++ okBytes st b))) : Answers c s Q :=
  answers_facMsg h he (by rwa [ho])

/-- A pointer that is read as a positive number is that number. -/
theorem v_of_vn {s : State} {x : Var} {n : Nat} (h : s.vn x = n) (h0 : 0 < n) : s.v x = n := by
  rw [State.vn] at h
  omega

section
variable {s : State} {ptr : Nat} {m : FacMsg} {data : List Byte}

/-- IMG_DATA stores its bytes at its pointer in the staging bank (18 R554; 02 R72). -/
theorem answers_imgData (h : FacOk s m) (hf : s.ldrForeign .fac = false) (hl : s.ldr = 1) (hd : dataFits data = true) (h8 : ptr % 8 = 0)
    (hp : ptr + data.length ≤ 0x80000) (tag t : Nat) :
    Answers (.facImgData t m tag ptr data) s fun u => Out.fac [5, BitVec.ofNat 8 tag, 0] ∈ u.out ∧ u.v .imgPtr = (ptr + data.length : Nat)
      ∧ ∀ a, Mem.read (u.bank s.stageBank).mem a =
          if ptr ≤ a ∧ a < ptr + data.length then data.getD (a - ptr) 0 else Mem.read (s.bank s.stageBank).mem a := by
  obtain ⟨hn, hw⟩ := dataFits_words hd
  have hptr : ¬ (!dataFits data || Nat.ble (2 ^ 20) ptr) = true := by simp [hd]; omega
  have ha := State.ldrAddr_sets (s := s.start t) (p := .fac) hf hl (w := ptr) (by omega) (by omega)
  rw [Nat.mod_eq_of_lt (a := ptr) (by omega)] at ha
  have hrd {f : Fld} (hr : f.r ≠ .IMG_WADDR) : (((s.start t).setV .imgPtr ptr).wr F.IMG_WADDR_PTR ptr).rd f = s.rd f :=
    State.rd_wr_reg _ _ _ _ _ _ _ _ hr
  have hv : (((s.start t).setV .imgPtr ptr).wr F.IMG_WADDR_PTR ptr).v .imgPtr = ptr := (State.v_wr ..).trans (State.v_setV_same ..)
  have hvn : (((s.start t).setV .imgPtr ptr).wr F.IMG_WADDR_PTR ptr).vn .imgPtr = ptr := congrArg Int.toNat hv
  obtain ⟨u, hu, -, hpu, hmu⟩ := (storesWords_ldrData s.stageBank).run (data.length / 8) (l := data)
    (s := ((s.start t).setV .imgPtr ptr).wr F.IMG_WADDR_PTR ptr)
    ⟨(hrd (f := F.IMG_STATUS_LOADER) (by decide)).trans hl, hf, congrArg (1 - ·) (hrd (f := F.IMG_STATUS_ACTIVE_BANK) (by decide))⟩ hw
    (by rw [hvn, ← hw]; exact hp)
  rw [hvn, ← hw] at hpu
  rw [hvn] at hmu
  refine answers_vendor h rfl (u := u) (st := .ok) (b := []) ?_ ⟨State.mem_out_facSend .., v_of_vn hpu (by omega), fun a => ?_⟩
  · rw [if_neg hptr, ha]
    exact congrArg noPayload hu
  · exact (congrArg (Mem.read · a) hmu).trans (Mem.read_writeBytes ..)

/-- CERT_DATA stores its bytes at its pointer in the certificate store (18 R554, R562). -/
theorem answers_certData (h : FacOk s m) (hf : s.is F.ID_STATUS_FILLING = true) (hd : dataFits data = true) (h8 : ptr % 8 = 0)
    (hp : ptr + data.length ≤ 4096) (tag t : Nat) :
    Answers (.facCertData t m tag ptr data) s fun u => Out.fac [14, BitVec.ofNat 8 tag, 0] ∈ u.out
      ∧ u.v .certPtr = (ptr + data.length : Nat)
      ∧ ∀ a, Mem.read u.fac.cert a = if ptr ≤ a ∧ a < ptr + data.length then data.getD (a - ptr) 0 else Mem.read s.fac.cert a := by
  obtain ⟨hn, hw⟩ := dataFits_words hd
  have hvn : ((s.start t).setV .certPtr ptr).vn .certPtr = ptr := congrArg Int.toNat (State.v_setV_same ..)
  obtain ⟨u, hu, -, hpu, hmu⟩ := storesWords_certData.run (data.length / 8) (l := data) (s := (s.start t).setV .certPtr ptr) hf hw
    (by rw [hvn, ← hw]; exact hp)
  rw [hvn, ← hw] at hpu
  rw [hvn] at hmu
  refine answers_vendor h rfl (u := u) (st := .ok) (b := []) ?_ ⟨State.mem_out_facSend .., v_of_vn hpu (by omega), fun a => ?_⟩
  · have hf' : (s.start t).is F.ID_STATUS_FILLING = true := hf
    rw [if_neg (by simp [hd, h8, hf']; omega)]
    exact congrArg noPayload hu
  · exact (congrArg (Mem.read · a) hmu).trans (Mem.read_writeBytes ..)

end

section
variable {s : State} {off : Nat}

/-- READ_REG of a register of the hub that no island holds (18 R555). -/
theorem State.regRead_view {r : Reg} {i j : Nat} (hd : decodeAddr off = some (r, i, j)) (hr : r ≠ .EVC_ACK) (hs : s.readStatus r i j = .ok) :
    s.regRead off true = (.ok, s.view r i j, s) := by
  simp only [State.regRead, hd, hs, ne_eq, not_true_eq_false, if_false, if_neg hr]
  rfl

theorem exec_facReadReg {m : FacMsg} (h : FacOk s m) (h8 : off % 8 = 0) (hoff : off < 2 ^ 26) (ha : s.accessStatus .fac off 3 = .ok)
    (hi : addrIsland off = none) (hc : s.copyNodes off = []) {r : Reg} {i j : Nat} (hd : decodeAddr off = some (r, i, j)) (hr : r ≠ .EVC_ACK)
    (hs : s.readStatus r i j = .ok) (t tag : Nat) : exec (.facReadReg t m tag off) s =
      .next ((s.start t).facSend ([3, BitVec.ofNat 8 tag, 0] ++ wordBytes ((s.start t).view r i j))) := by
  have ha' : (s.start t).accessStatus .fac off 3 = .ok :=
    (s.accessStatus_start ..).trans ha
  have hc' : (s.start t).copyNodes off = [] := hc
  show execFacReadReg t m tag off s = _
  unfold execFacReadReg
  rw [State.facMsg_takes h t]
  refine congrArg Host.Outcome.next ?_
  rw [if_neg (by simp [h8]), if_neg fun hb => Nat.not_le.mpr hoff (Nat.le_of_ble_eq_true hb)]
  simp only [ha', ne_eq, not_true_eq_false, if_false, hi, hc', List.head?_nil, Option.map_none, Option.orElse_eq_orElse,
    State.regRead_view hd hr (s := s.start t) hs]
  rfl

theorem State.trcReadable_iff (s : State) : s.trcReadable = true ↔ s.trcState = 0 ∨ s.trcState = 3 := by simp [State.trcReadable]

theorem readStatus_trcBuf (s : State) (i j : Nat) : s.readStatus .TRC_BUF i j = if s.trcReadable then .ok else .eOverrun := rfl

/-- No response on the facility port is kept by an event. -/
theorem eventKeeps_noFac : EventKeeps fun u => ∀ d, Out.fac d ∉ u.out where
  levels _ _ h := h
  trc _ _ h := h
  var _ _ _ _ _ h := h
  wr _ _ _ _ _ _ h := h
  now _ _ h := h
  latch _ _ h := h
  pend _ _ h := h
  ibi u n h d hd := by
    obtain hd | hd := List.mem_append.mp hd
    · exact h d hd
    · simp at hd

/-- A message that the port discards has no response. -/
theorem State.noFac_facErr (s : State) (t k : Nat) (d : List Byte) : Out.fac d ∉ ((s.start t).facErr k).out :=
  eventKeeps_noFac.event (fun _ => List.not_mem_nil) _ _ d

/-- A message whose PEC fails is counted and not answered. -/
theorem answers_facMsg_pec {t : Nat} {m : FacMsg} {op : State → State} {c : Instr} (hu : s.hubUp = true) (hb : s.facBusy = false)
    (hm : m.pecOk = false) (he : exec c s = .next ((s.start t).facMsg m op)) :
    Answers c s fun u => u.rd F.FAC_STATUS_ERRORS = satAddN F.FAC_STATUS_ERRORS.w (s.rd F.FAC_STATUS_ERRORS) 1 ∧ ∀ d, Out.fac d ∉ u.out := by
  refine ⟨(s.start t).facErr 0, he.trans (congrArg _ ?_), (s.start t).errors_facErr 0, s.noFac_facErr t 0⟩
  exact (if_neg (by simp [hu, hb])).trans (if_pos (by simp [hm]))

/-- A message during a READ_REG is not acknowledged. -/
theorem answers_facMsg_busy {t : Nat} {m : FacMsg} {op : State → State} {c : Instr} (hb : s.facBusy = true)
    (he : exec c s = .next ((s.start t).facMsg m op)) : Answers c s fun u => u.out = [Out.nack] ∧ Frame Scope.none s u :=
  ⟨_, he.trans (congrArg _ (if_pos (by simp [hb]))), out_start_nack s t⟩

/-- Every vendor message is a message of the facility port. -/
theorem exec_vendor_facMsg {t tag x y : Nat} {m : FacMsg} {b : List Byte} {c : Instr}
    (hc : c ∈ [Instr.facGetState t m tag, .facReadReg t m tag x, .facImgOpen t m tag, .facImgData t m tag x b, .facImgCommit t m tag,
      .facImgAbort t m tag, .facCommitSvn t m tag, .facImgStatus t m tag, .facTrcRead t m tag x y, .facAlertClr t m tag x,
      .facSignTrip t m tag b, .facCertOpen t m tag, .facCertData t m tag x b, .facCertCommit t m tag x]) (s : State) :
    ∃ op, exec c s = .next ((s.start t).facMsg m op) := by
  simp only [List.mem_cons, List.not_mem_nil, or_false] at hc
  obtain rfl | rfl | rfl | rfl | rfl | rfl | rfl | rfl | rfl | rfl | rfl | rfl | rfl | rfl := hc
  all_goals exact ⟨_, rfl⟩

end

/-! ### The obligation -/

/-- Settles O51: by what the operation of each message comes to; IMG_DATA and CERT_DATA by induction on the words of their data. -/
theorem vendorMessages : Obligations.VendorMessages := by
  refine ⟨?getState, ?imgStatus, ?readAlign, ?readReg, ?imgOpen, ?imgData, ?imgCommit, ?imgAbort, ?commitSvn, ?trcRead, ?trcBusy, ?alertClr,
    ?signTrip, ?certOpen, ?certData, ?certCommit, ?pec, ?busy⟩
  case getState =>
    intro s t tag m h
    exact answers_vendor h rfl rfl ⟨State.mem_out_facSend .., frame_none_emit ..⟩
  case imgStatus =>
    intro s t tag m h
    exact answers_vendor h rfl rfl ⟨State.mem_out_facSend .., frame_none_emit ..⟩
  case readAlign =>
    intro s t tag off m h h8
    refine answers_facMsg h rfl ?_
    rw [if_pos h8]
    exact ⟨State.mem_out_facSend .., frame_none_emit ..⟩
  case readReg =>
    intro s t tag off i j m r h h8 hoff ha hi hc hd hr hs
    exact ⟨_, exec_facReadReg h h8 hoff ha hi hc hd hr hs t tag, State.mem_out_facSend .., frame_none_emit ..⟩
  case imgOpen =>
    intro s t tag m h hf hl
    refine answers_vendor h rfl (congrArg noPayload (State.ldrOpen_opens (s := s.start t) (p := .fac) hf hl)) ⟨State.mem_out_facSend .., ?_, ?_, ?_, rfl⟩
    · exact (State.ldr_ldrOwner ..).trans (State.ldr_wr _ (by decide))
    · exact State.bank_setBank_same ..
    · rw [State.v_facSend _ (by decide), State.v_ldrOwner _ (by decide), State.v_wr, State.v_wr, State.v_setV_same]
  case imgData =>
    intro s t tag ptr m data h hf hl hd h8 hp
    exact answers_imgData h hf hl hd h8 hp tag t
  case imgCommit =>
    intro s t tag m h hf hl
    exact answers_vendor h rfl (congrArg noPayload (State.ldrCommit_filling (s := s.start t) (p := .fac) hf hl))
      ⟨State.mem_out_facSend .., State.ldr_wr _ (by decide)⟩
  case imgAbort =>
    intro s t tag m h hf hl
    by_cases h2 : s.ldr = 2
    · refine answers_vendor h rfl (congrArg noPayload (State.ldrAbort_checking (s := s.start t) (p := .fac) hf h2)) ⟨State.mem_out_facSend .., ?_, ?_⟩
      · exact (State.ldr_ldrResult ..).trans (State.ldr_ldrIdle _)
      · exact State.part_ldrResult (pa := .owner) _ _ _ _ (by decide)
    · refine answers_vendor h rfl (congrArg noPayload (State.ldrAbort_idles (s := s.start t) (p := .fac) hf (by rw [State.ldr_start]; omega)))
        ⟨State.mem_out_facSend .., State.ldr_ldrIdle _, rfl⟩
  case commitSvn =>
    intro s t tag m h hr hv
    exact answers_vendor h rfl (congrArg noPayload (State.ldrFuse_greater (s := s.start t) hr hv))
      ⟨State.mem_out_facSend .., State.rd_wr_same _ _ _ _ _ (by decide)⟩
  case trcRead =>
    intro s t tag slot count m h h0 h7 hs hr
    have hst : (s.start t).readStatus .TRC_BUF (4 * slot) 0 = .ok := if_pos ((s.start t).trcReadable_iff.mpr hr)
    refine answers_vendor h rfl (st := .ok) (u := s.start t) ?_ ⟨State.mem_out_facSend .., frame_none_emit ..⟩
    rw [if_neg (by simp; omega), hst]
    rfl
  case trcBusy =>
    intro s t tag slot count m h h0 h7 hs hn0 hn3
    have hst : (s.start t).readStatus .TRC_BUF (4 * slot) 0 = .eOverrun :=
      if_neg fun hr => ((s.start t).trcReadable_iff.mp hr).elim hn0 hn3
    refine answers_vendor h rfl (st := .eOverrun) (b := (List.range (4 * count)).flatMap fun k => (s.start t).regBytes .TRC_BUF (4 * slot + k))
      (u := s.start t) ?_ ⟨State.mem_out_facSend .., frame_none_emit ..⟩
    rw [if_neg (by simp; omega), hst]
  case alertClr =>
    intro s t tag mask m h
    refine answers_facMsg h rfl ⟨State.reg_setReg_same .., State.mem_out_facSend ..⟩
  case signTrip =>
    intro s t tag m nonce h
    by_cases hc : s.fac.trip = [] ∨ nonce.length ≠ 32
    · simp only [if_pos hc]
      exact answers_vendor h rfl (if_pos (by simpa using hc)) ⟨frame_none_emit .., State.mem_out_facSend ..⟩
    · simp only [if_neg hc]
      exact answers_vendor h rfl (if_neg (by simpa using hc)) ⟨frame_none_emit .., State.mem_out_facSend ..⟩
  case certOpen =>
    intro s t tag m h
    refine answers_vendor h rfl (u := (s.start t).certEmpty true) rfl ⟨State.mem_out_facSend .., ?_, ?_, ?_, ?_⟩
    · exact (State.rd_facSend _ (by decide)).trans (State.filling_certEmpty _ true)
    · exact (State.rd_facSend _ (by decide)).trans (State.certValid_certEmpty _ true)
    · rfl
    · exact (State.v_facSend _ (by decide)).trans (State.certPtr_certEmpty _ true)
  case certData =>
    intro s t tag ptr m data h hf hd h8 hp
    exact answers_certData h hf hd h8 hp tag t
  case certCommit =>
    intro s t tag len m h hf h0 hl
    have hlen : ¬ Nat.blt 8191 len = true := by simp; omega
    by_cases hc : s.chainIsOurs len
    · simp only [if_pos (show _ ∧ _ from hc)]
      refine answers_vendor h rfl ((if_neg hlen).trans (congrArg noPayload (State.certCmd_accepts (s := s.start t) hf h0 hl hc)))
        ⟨State.mem_out_facSend .., ?_, ?_, rfl⟩
      · exact (State.rd_facSend _ (by decide)).trans (State.certValid_certTaken ..)
      · exact (State.rd_facSend _ (by decide)).trans (State.certLen_certTaken _ hl)
    · simp only [if_neg (show ¬ (_ ∧ _) from hc)]
      refine answers_vendor h rfl ((if_neg hlen).trans (congrArg noPayload (State.certCmd_refuses (s := s.start t) hf h0 hl hc)))
        ⟨State.mem_out_facSend .., ?_, rfl⟩
      exact (State.rd_facSend _ (by decide)).trans (State.certValid_certEmpty _ false)
  case pec =>
    intro s t tag x y m b hu hb hm c hc
    obtain ⟨op, he⟩ := exec_vendor_facMsg hc s
    exact answers_facMsg_pec hu hb hm he
  case busy =>
    intro s t tag x y m b hb c hc
    obtain ⟨op, he⟩ := exec_vendor_facMsg hc s
    exact answers_facMsg_busy hb he

end Sys2Proof.Machine

/-!
PROOFS. Sources, groups and stacks of the event controller (14 R422, R425, R429, R434): what each operation leaves of a source's state.
-/
namespace Sys2Proof.Machine

/-! ### A source's state through an event -/

theorem rd_srcState_wr {f g : Fld} (hg : g.r = .EVC_SRC_STATE)
    (hd : ∀ f ∈ [F.EVC_SRC_STATE_LEVEL, F.EVC_SRC_STATE_HELD, F.EVC_SRC_STATE_OCC, F.EVC_SRC_STATE_LAST_TIME],
      g.lsb + g.w ≤ f.lsb ∨ f.lsb + f.w ≤ g.lsb)
    (hf : f.r ≠ .EVC_SRC_STATE ∨ f ∈ [F.EVC_SRC_STATE_LEVEL, F.EVC_SRC_STATE_HELD, F.EVC_SRC_STATE_OCC, F.EVC_SRC_STATE_LAST_TIME])
    (s : State) (v i j x : Nat) : (s.wr f v i j).rd g x = s.rd g x := by
  obtain hf | hf := hf
  · exact State.rd_wr_reg _ _ _ _ _ _ _ _ (by rw [hg]; exact hf.symm)
  · have hw : f.lsb + f.w ≤ 64 := (by decide : ∀ f ∈ [F.EVC_SRC_STATE_LEVEL, F.EVC_SRC_STATE_HELD, F.EVC_SRC_STATE_OCC,
      F.EVC_SRC_STATE_LAST_TIME], f.lsb + f.w ≤ 64) f hf
    exact State.rd_wr_apart _ _ _ _ _ _ _ _ hw (hd f hf)

/-- An event keeps ACTIVE of every source. -/
theorem eventKeeps_active (x v : Nat) : EventKeeps fun u => u.rd F.EVC_SRC_STATE_ACTIVE x = v where
  levels _ _ h := h
  trc _ _ h := h
  var _ _ _ _ _ h := h
  wr u f w i j hf h := (rd_srcState_wr rfl (by decide) hf u w i j x).trans h
  now _ _ h := h
  latch _ _ h := (State.rd_wr_apart _ _ _ _ _ _ _ _ (by decide) (by decide)).trans h
  pend _ _ h := (State.rd_wr_apart _ _ _ _ _ _ _ _ (by decide) (by decide)).trans h
  ibi _ _ h := h

/-- An event leaves a source pending. -/
theorem eventKeeps_pend (x : Nat) : EventKeeps fun u => u.rd F.EVC_SRC_STATE_PEND x = 1 where
  levels _ _ h := h
  trc _ _ h := h
  var _ _ _ _ _ h := h
  wr u f w i j hf h := (rd_srcState_wr rfl (by decide) hf u w i j x).trans h
  now _ _ h := h
  latch _ _ h := (State.rd_wr_apart _ _ _ _ _ _ _ _ (by decide) (by decide)).trans h
  pend u k h := by
    by_cases hx : x = k
    · rw [hx]
      exact State.rd_wr_same _ _ _ _ _ (by decide)
    · exact (State.rd_wr_ne _ _ _ _ _ _ _ _ fun e => hx (congrArg Key.i e)).trans h
  ibi _ _ h := h

/-- An event leaves a LATCH that is set. -/
theorem eventKeeps_latch (x : Nat) : EventKeeps fun u => u.rd F.EVC_SRC_STATE_LATCH x = 1 where
  levels _ _ h := h
  trc _ _ h := h
  var _ _ _ _ _ h := h
  wr u f w i j hf h := (rd_srcState_wr rfl (by decide) hf u w i j x).trans h
  now _ _ h := h
  latch u k h := by
    by_cases hx : x = k
    · rw [hx]
      exact u.rd_flag_one F.EVC_SRC_STATE_LATCH k 0 rfl (by decide)
    · exact (State.rd_wr_ne _ _ _ _ _ _ _ _ fun e => hx (congrArg Key.i e)).trans h
  pend _ _ h := (State.rd_wr_apart _ _ _ _ _ _ _ _ (by decide) (by decide)).trans h
  ibi _ _ h := h

/-- An event leaves the stacks. -/
theorem eventKeeps_stacks (l : List (List (Nat × Nat))) : EventKeeps fun u => u.evt.evStk = l where
  levels _ _ h := h
  trc _ _ h := h
  var _ _ _ _ _ h := h
  wr _ _ _ _ _ _ h := h
  now _ _ h := h
  latch _ _ h := h
  pend _ _ h := h
  ibi _ _ h := h

/-- What holds of two kept properties together is kept. -/
theorem EventKeeps.or {P Q : State → Prop} (hP : EventKeeps P) (hQ : EventKeeps Q) : EventKeeps fun u => P u ∨ Q u where
  levels u l h := h.imp (hP.levels u l) (hQ.levels u l)
  trc u x h := h.imp (hP.trc u x) (hQ.trc u x)
  var u x y i j h := h.imp (hP.var u x y i j) (hQ.var u x y i j)
  wr u f v i j hf h := h.imp (hP.wr u f v i j hf) (hQ.wr u f v i j hf)
  now u l h := h.imp (hP.now u l) (hQ.now u l)
  latch u k h := h.imp (hP.latch u k) (hQ.latch u k)
  pend u k h := h.imp (hP.pend u k) (hQ.pend u k)
  ibi u n h := h.imp (hP.ibi u n) (hQ.ibi u n)

/-! ### PEND -/

section
variable {s : State} {k : Nat}

/-- A source that is not active becomes pending (14 R425). -/
theorem State.pend_setPend (h : s.is F.EVC_SRC_STATE_ACTIVE k = false) : (s.setPend k).rd F.EVC_SRC_STATE_PEND k = 1 :=
  (eventKeeps_pend k).setPend_of (State.rd_wr_same _ _ _ _ _ (by decide)) fun hc => Nat.eq_of_beq_eq_true (hc.resolve_right (by simp [h]))

/-- A source that is set pending is pending, or is active (14 R425). -/
theorem State.pendOrActive_setPend (s : State) (k : Nat) :
    (s.setPend k).rd F.EVC_SRC_STATE_PEND k = 1 ∨ (s.setPend k).rd F.EVC_SRC_STATE_ACTIVE k = 1 :=
  ((eventKeeps_pend k).or (eventKeeps_active k 1)).setPend_of (.inl (State.rd_wr_same _ _ _ _ _ (by decide))) fun hc =>
    hc.imp Nat.eq_of_beq_eq_true Nat.eq_of_beq_eq_true

/-- The level of a source by what it is formed of. -/
theorem State.srcLevel_congr {u : State} (hc : u.reg .EVC_SRC_CFG k = s.reg .EVC_SRC_CFG k)
    (hl : u.rd F.EVC_SRC_STATE_LATCH k = s.rd F.EVC_SRC_STATE_LATCH k) (hv : u.evt.levels = s.evt.levels) (hi : u.img = s.img) :
    u.srcLevel k = s.srcLevel k := by
  have hf : u.findSrc = s.findSrc := by
    funext c i
    rw [State.findSrc, State.findSrc, hi]
  have hcode : u.rd F.EVC_SRC_CFG_CODE k = s.rd F.EVC_SRC_CFG_CODE k := State.rd_congr hc
  have hinst : u.rd F.EVC_SRC_CFG_INSTANCE k = s.rd F.EVC_SRC_CFG_INSTANCE k := State.rd_congr hc
  simp only [State.srcLevel, hcode, hinst, hv, hf, State.is, hl]

/-- PEND and ACTIVE are no part of the level. -/
theorem State.srcLevel_wr {f : Fld} (hf : f ∈ [F.EVC_SRC_STATE_PEND, F.EVC_SRC_STATE_ACTIVE]) (s : State) (v i k : Nat) :
    (s.wr f v i).srcLevel k = s.srcLevel k := by
  obtain rfl | rfl : f = F.EVC_SRC_STATE_PEND ∨ f = F.EVC_SRC_STATE_ACTIVE := by simpa using hf
  · exact State.srcLevel_congr (State.reg_wr_reg _ _ _ _ _ _ _ _ (by decide))
      (State.rd_wr_apart _ _ _ _ _ _ _ _ (by decide) (by decide)) rfl rfl
  · exact State.srcLevel_congr (State.reg_wr_reg _ _ _ _ _ _ _ _ (by decide))
      (State.rd_wr_apart _ _ _ _ _ _ _ _ (by decide) (by decide)) rfl rfl

/-! ### A popped source -/

theorem State.active_popped_same (s : State) (k : Nat) : (s.popped k).rd F.EVC_SRC_STATE_ACTIVE k = 0 :=
  State.when_holds (P := fun u => u.rd F.EVC_SRC_STATE_ACTIVE k = 0) (State.rd_wr_same _ _ _ _ _ (by decide)) fun _ hu =>
    (eventKeeps_active k 0).setPend hu k

/-- A source that is not active stays so. -/
theorem State.active_popped {x : Nat} (h : s.rd F.EVC_SRC_STATE_ACTIVE x = 0) (k : Nat) : (s.popped k).rd F.EVC_SRC_STATE_ACTIVE x = 0 := by
  by_cases hx : x = k
  · rw [hx]
    exact s.active_popped_same k
  · exact State.when_holds (P := fun u => u.rd F.EVC_SRC_STATE_ACTIVE x = 0)
      ((State.rd_wr_ne _ _ _ _ _ _ _ _ fun e => hx (congrArg Key.i e)).trans h) fun _ hu => (eventKeeps_active x 0).setPend hu k

/-- A popped source whose level is 1 is pending at once (14 R429). -/
theorem State.pend_popped (h : s.srcLevel k = true) : (s.popped k).rd F.EVC_SRC_STATE_PEND k = 1 := by
  unfold State.popped State.when
  rw [if_pos ((State.srcLevel_wr (by decide) ..).trans h)]
  exact State.pend_setPend (by rw [State.is, State.rd_wr_same _ _ _ _ _ (by decide)]; rfl)

/-- A run that pops sources leaves each of them inactive. -/
theorem State.active_each_popped {l : List (Nat × Nat)} {y : Nat × Nat} (hy : y ∈ l) (s : State) :
    (s.each l fun s y => s.popped y.1).rd F.EVC_SRC_STATE_ACTIVE y.1 = 0 :=
  State.each_sets (P := fun u => u.rd F.EVC_SRC_STATE_ACTIVE y.1 = 0) hy (fun u => u.active_popped_same y.1)
    fun _ z _ hu => State.active_popped hu z.1

/-! ### Stacks -/

theorem State.stackOf_congr {u : State} (h : u.part .evt = s.part .evt) : u.stackOf k = s.stackOf k :=
  congrArg (fun l : List (List (Nat × Nat)) => l.getD k []) (congrArg Evt.evStk h)

theorem State.stackOf_setStack (h : k < s.evt.evStk.length) (l : List (Nat × Nat)) : (s.setStack k l).stackOf k = l := by
  simp [State.stackOf, State.setStack, h]

/-- A target that has no stack has none after its stack is emptied. -/
theorem State.stackOf_setStack_nil (s : State) (k : Nat) : (s.setStack k []).stackOf k = [] := by
  by_cases h : k < s.evt.evStk.length
  · exact State.stackOf_setStack h []
  · simp [State.stackOf, State.setStack, h]

end

end Sys2Proof.Machine

/-!
PROOFS. Acknowledge, completion and recovery (14 R428 to R434).
-/
namespace Sys2Proof.Machine

/-! ### Answers of reads -/

/-- Whoever sent a read is told its data. -/
theorem told_answerReg_ok (s : State) (p : Port) (r : Reg) (a : Nat) (wrt : Bool) (w : Word) : Told p .ok w (s.answerReg p r a wrt .ok w) := by
  have h := told_answerD s p a wrt .ok w
  unfold State.answerReg
  cases p with
  | reg init priv =>
    dsimp only
    split
    · exact .inr ⟨_, List.mem_append_right _ List.mem_cons_self, rfl, rfl, rfl, rfl⟩
    · exact h
  | posted init priv => trivial
  | fac => exact h

/-- An answer OK is no part of a frame. -/
theorem frame_answerD_ok (s : State) (t : Nat) (p : Port) (a : Nat) (wrt : Bool) (w : Word) :
    Frame Scope.none s ((s.start t).answerD p a wrt .ok w) := by
  cases p with
  | reg init priv => exact frame_none_emit ..
  | posted init priv => exact ((Does.refl _ s).start t).within (Foot.le_refl _)
  | fac => exact frame_none_emit ..

theorem frame_answerReg_ok (s : State) (t : Nat) (p : Port) (r : Reg) (a : Nat) (wrt : Bool) (w : Word) :
    Frame Scope.none s ((s.start t).answerReg p r a wrt .ok w) where
  regs _ _ _ _ := State.reg_answerReg_ok ..
  vars _ _ _ _ := State.v_answerReg _ _ _ _ _ _ (by simp [Foot.answerReg, Foot.hasV])
  parts _ _ := State.part_answerReg _ _ _ _ _ _ (by simp [Foot.answerReg, Foot.hasP])

section
variable {s : State} {k x : Nat}

/-! ### What each operation comes to -/

/-- The stack and the source after an acknowledge. -/
def State.acknowledged (s : State) (k x : Nat) : State :=
  ((s.wr F.EVC_SRC_STATE_PEND 0 x).wr F.EVC_SRC_STATE_ACTIVE 1 x).setStack k (s.stackOf k ++ [(x, s.groupPri x)])

theorem State.acknowledge_some (hf : s.frozen k = false) (hs : s.stackFull k = false) (hx : s.selectSrc k = some x) :
    s.acknowledge k = (s.srcWord (some x) true, s.acknowledged k x) := by
  simp only [State.acknowledge, hf, hs, Bool.or_self, Bool.false_eq_true, if_false, hx]
  rfl

theorem State.acknowledge_none (h : s.frozen k = true ∨ s.stackFull k = true ∨ s.selectSrc k = none) : s.acknowledge k = (0, s) := by
  have hn : (if (s.frozen k || s.stackFull k) = true then none else s.selectSrc k) = none := by
    split
    · rfl
    · next hc => exact (h.resolve_left (by simp_all)).resolve_left (by simp_all)
  simp only [State.acknowledge, hn]

/-- A read of the lower half of EVC_ACK that the port may do. -/
theorem exec_evcAck {p : Port} (hp : Takes s p) (t k : Nat) {w : Word} {v : State} (ha : (s.start t).acknowledge k = (w, v)) :
    exec (.evcAck t p k false) s = .next (v.answerReg p .EVC_ACK (regAddr .EVC_ACK k + 0) false .ok w) := by
  obtain ⟨hu, hpr⟩ := hp
  have hu' : (s.start t).hubUp = true := hu
  refine congrArg Host.Outcome.next ?_
  rw [if_neg (by simp [hu']), if_neg (by simp [hpr]), if_neg (by decide), ha]
  rfl

/-- A read of the upper half of EVC_ACK acknowledges nothing. -/
theorem exec_evcAck_upper {p : Port} (hp : Takes s p) (t k : Nat) :
    exec (.evcAck t p k true) s = .next ((s.start t).answerD p (regAddr .EVC_ACK k + 4) false .ok 0) := by
  obtain ⟨hu, hpr⟩ := hp
  have hu' : (s.start t).hubUp = true := hu
  refine congrArg Host.Outcome.next ?_
  rw [if_neg (by simp [hu']), if_neg (by simp [hpr]), if_pos rfl]
  rfl

/-- A completed source popped. -/
theorem State.complete_top (hf : s.frozen k = false) {g : Nat} (ht : (s.stackOf k).getLast? = some (x, g)) :
    s.complete k x = (.ok, ((s.setStack k (s.stackOf k).dropLast).popped x).pgSettle) := by
  simp only [State.complete, hf, ht, Bool.false_eq_true, if_false, if_true]

theorem State.complete_other (hf : s.frozen k = false) (ht : (s.stackOf k).getLast?.map (·.1) ≠ some x) :
    s.complete k x = (.eNest, s.nestFault k x) := by
  unfold State.complete
  rw [if_neg (by simp [hf])]
  dsimp only
  split
  · next top hl => exact if_neg fun e => ht (by rw [hl, Option.map_some, e])
  · rfl

theorem State.complete_frozen (hf : s.frozen k = true) : s.complete k x = (.eNest, s) := if_pos hf

theorem State.recover_thawed (hf : s.frozen k = false) {cmd : Nat} (hc : cmd ≠ 0) : s.recover k cmd x = (.eRange, s) := by
  rw [State.recover, if_neg hc, if_pos (by simp [hf])]

theorem State.recover_unwind (hf : s.frozen k = true) : s.recover k 1 x = (.ok, (s.popTo k 0).wr F.EVC_TSTAT_FROZEN 0 k) := by
  rw [State.recover, if_neg (by decide), if_neg (by simp [hf])]
  rfl

theorem State.recover_popTo (hf : s.frozen k = true) {n : Nat} (hn : (s.stackOf k).findIdx? (fun y => Nat.beq y.1 x) = some n) :
    s.recover k 2 x = (.ok, (s.popTo k n).wr F.EVC_TSTAT_FROZEN 0 k) := by
  rw [State.recover, if_neg (by decide), if_neg (by simp [hf]), if_neg (by decide), if_pos rfl, hn]

theorem State.recover_absent (hf : s.frozen k = true) (hn : (s.stackOf k).findIdx? (fun y => Nat.beq y.1 x) = none) :
    s.recover k 2 x = (.eRange, s) := by
  rw [State.recover, if_neg (by decide), if_neg (by simp [hf]), if_neg (by decide), if_pos rfl, hn]

theorem State.recover_thaw (hf : s.frozen k = true) : s.recover k 3 x = (.ok, s.wr F.EVC_TSTAT_FROZEN 0 k) := by
  rw [State.recover, if_neg (by decide), if_neg (by simp [hf])]
  rfl

/-! ### What each leaves -/

/-- An answer leaves the stacks. -/
theorem State.stackOf_answer (s : State) (p : Port) (r : Reg) (st : Status) (i k : Nat) : (s.answer p r st i).stackOf k = s.stackOf k :=
  State.stackOf_congr (State.part_answer _ _ _ _ _ (by decide))

theorem State.stackOf_pgSettle (s : State) (k : Nat) : s.pgSettle.stackOf k = s.stackOf k :=
  State.stackOf_congr (State.part_pgSettle (by decide))

theorem State.stackOf_popped (s : State) (y k : Nat) : (s.popped y).stackOf k = s.stackOf k :=
  State.stackOf_congr (State.part_popped _ (by decide))

/-- A stack popped to its lowest entries keeps them. -/
theorem State.stackOf_popTo {n : Nat} (h : k < s.evt.evStk.length ∨ n = 0) : (s.popTo k n).stackOf k = (s.stackOf k).take n := by
  unfold State.popTo
  rw [State.stackOf_pgSettle, State.stackOf_congr (State.part_each _ _ _ _ fun _ _ _ => State.part_popped _ (by decide))]
  obtain h | rfl := h
  · exact State.stackOf_setStack h _
  · exact State.stackOf_setStack_nil s k

theorem State.active_popTo {n : Nat} {y : Nat × Nat} (hy : y ∈ (s.stackOf k).drop n) : (s.popTo k n).rd F.EVC_SRC_STATE_ACTIVE y.1 = 0 := by
  unfold State.popTo
  rw [State.rd_pgSettle (by decide)]
  exact State.active_each_popped (List.mem_reverse.mpr hy) _

/-- A target is FROZEN by what its register reads. -/
theorem State.frozen_iff (s : State) (k : Nat) : s.frozen k = true ↔ s.rd F.EVC_TSTAT_FROZEN k = 1 :=
  ⟨Nat.eq_of_beq_eq_true, fun h => by rw [State.frozen, State.is, h]; rfl⟩

/-- A recovery ends FROZEN. -/
theorem State.frozen_thawed (s : State) (p : Port) (k : Nat) : ((s.wr F.EVC_TSTAT_FROZEN 0 k).answer p .EVC_RECOVER .ok k).frozen k = false := by
  rw [State.frozen, State.is, State.rd_answer _ _ _ _ _ (by decide), State.rd_wr_same _ _ _ _ _ (by decide)]
  rfl

/-- A nesting fault freezes the target, records the source and counts (14 R433). -/
theorem State.tstat_nestFault (s : State) (k x : Nat) : (s.nestFault k x).rd F.EVC_TSTAT_FROZEN k = 1
    ∧ (s.nestFault k x).rd F.EVC_TSTAT_FAULT_SRC k = x % 1024
    ∧ (s.nestFault k x).rd F.EVC_TSTAT_NESTFAULTS k = satAddN 16 (s.rd F.EVC_TSTAT_NESTFAULTS k) 1 := by
  unfold State.nestFault
  extract_lets u
  have he (f : Fld) (hf : f.r = .EVC_TSTAT) : (u.event 0x58 k).rd f k = u.rd f k := State.rd_event _ _ (by rw [hf]; decide)
  rw [he _ rfl, he _ rfl, he _ rfl]
  refine ⟨?_, ?_, ?_⟩
  · refine (State.rd_incSat_apart _ _ _ _ _ _ _ _ (by decide) (by decide)).trans ?_
    simp (disch := decide) only [State.rd_wr_apart, State.rd_wr_same]
    rfl
  · refine (State.rd_incSat_apart _ _ _ _ _ _ _ _ (by decide) (by decide)).trans ?_
    simp (disch := decide) only [State.rd_wr_same]
    rfl
  · refine (State.rd_incSat_same _ _ _ _ _ (by decide)).trans ?_
    simp (disch := decide) only [State.rd_wr_apart]
    rfl

/-- A nesting fault leaves the stacks. -/
theorem State.stackOf_nestFault (s : State) (k x y : Nat) : (s.nestFault k x).stackOf y = s.stackOf y :=
  congrArg (fun l : List (List (Nat × Nat)) => l.getD y [])
    ((eventKeeps_stacks s.evt.evStk).event (s := ((s.wr F.EVC_TSTAT_FROZEN 1 k).wr F.EVC_TSTAT_FAULT_SRC x k).incSat F.EVC_TSTAT_NESTFAULTS 1 k)
      rfl 0x58 k)

end

/-! ### The obligation -/

/-- Settles O42: by what each operation of a target comes to, and what it leaves of the stack and of the sources popped. -/
theorem acknowledgeAndCompletion : Obligations.AcknowledgeAndCompletion := by
  refine ⟨?ack, ?ackNone, ?ackUpper, ?top, ?other, ?frozen, ?unwind, ?popTo, ?popAbsent, ?thaw, ?thawed⟩
  case ack =>
    intro s t k x p hp hf hs hx hk
    refine ⟨_, exec_evcAck hp t k (State.acknowledge_some (s := s.start t) hf hs hx), ?_, ?_, ?_, ?_⟩
    · exact told_answerReg_ok ..
    · rw [State.rd_answerReg _ _ _ _ _ _ (by decide), State.acknowledged, State.rd_setStack _ _ (by decide),
        State.rd_wr_apart _ _ _ _ _ _ _ _ (by decide) (by decide), State.rd_wr_same _ _ _ _ _ (by decide)]
      rfl
    · rw [State.rd_answerReg _ _ _ _ _ _ (by decide), State.acknowledged, State.rd_setStack _ _ (by decide),
        State.rd_wr_same _ _ _ _ _ (by decide)]
      rfl
    · rw [State.stackOf_congr (State.part_answerReg _ _ _ _ _ _ (by decide))]
      exact State.stackOf_setStack hk _
  case ackNone =>
    intro s t k p hp h
    refine ⟨_, exec_evcAck hp t k (State.acknowledge_none (s := s.start t) h), told_answerReg .., frame_answerReg_ok ..⟩
  case ackUpper =>
    intro s t k p hp
    exact ⟨_, exec_evcAck_upper hp t k, told_answerD_zero .., frame_answerD_ok ..⟩
  case top =>
    intro s t k x g p hp hf ht hk
    refine answers_commandAt hp rfl (State.complete_top (s := s.start t) hf ht) ⟨?_, ?_, fun hl => ?_⟩
    · rw [State.stackOf_answer, State.stackOf_pgSettle, State.stackOf_popped]
      exact State.stackOf_setStack hk _
    · rw [State.rd_answer _ _ _ _ _ (by decide), State.rd_pgSettle (by decide), State.active_popped_same]
    · rw [State.rd_answer _ _ _ _ _ (by decide), State.rd_pgSettle (by decide)]
      exact State.pend_popped hl
  case other =>
    intro s t k x p hp hf ht
    obtain ⟨h1, h2, h3⟩ := (s.start t).tstat_nestFault k (x % 1024)
    refine answers_commandAt hp rfl (State.complete_other (s := s.start t) hf ht) ⟨?_, ?_, ?_, ?_⟩
    · rw [State.frozen_iff, State.rd_answer _ _ _ _ _ (by decide), h1]
    · rw [State.rd_answer _ _ _ _ _ (by decide), h2, Nat.mod_mod]
    · rw [State.rd_answer _ _ _ _ _ (by decide), h3]
      rfl
    · rw [State.stackOf_answer, State.stackOf_nestFault]
      rfl
  case frozen =>
    intro s t k x p hp hf
    exact answers_commandAt hp rfl (State.complete_frozen (s := s.start t) hf) (frame_answer ..)
  case unwind =>
    intro s t k p hp hf
    refine answers_commandAt hp rfl (State.recover_unwind (s := s.start t) hf) ⟨State.frozen_thawed .., ?_, fun y hy => ?_⟩
    · rw [State.stackOf_answer]
      exact (State.stackOf_popTo (.inr rfl)).trans List.take_zero
    · rw [State.rd_answer _ _ _ _ _ (by decide), State.rd_wr_reg _ _ _ _ _ _ _ _ (by decide)]
      exact State.active_popTo (n := 0) hy
  case popTo =>
    intro s t k x n p hp hf hn hk
    refine answers_commandAt hp rfl (State.recover_popTo (s := s.start t) hf hn) ⟨State.frozen_thawed .., ?_, fun y hy => ?_⟩
    · rw [State.stackOf_answer]
      exact State.stackOf_popTo (s := s.start t) (.inl hk)
    · rw [State.rd_answer _ _ _ _ _ (by decide), State.rd_wr_reg _ _ _ _ _ _ _ _ (by decide)]
      exact State.active_popTo hy
  case popAbsent =>
    intro s t k x p hp hf hn
    exact answers_commandAt hp rfl (State.recover_absent (s := s.start t) hf hn) (frame_answer ..)
  case thaw =>
    intro s t k p hp hf
    refine answers_commandAt hp rfl (State.recover_thaw (s := s.start t) hf) ⟨State.frozen_thawed .., ?_⟩
    rw [State.stackOf_answer]
    rfl
  case thawed =>
    intro s t k x p hp hf c hc
    have h {cmd y : Nat} := State.recover_thawed (s := s.start t) hf (x := y) (cmd := cmd)
    obtain rfl | rfl | rfl : c = .evcUnwind t p k ∨ c = .evcPopTo t p k x ∨ c = .evcThaw t p k := by simpa using hc
    · exact answers_commandAt hp rfl (h (cmd := 1) (by decide)) (frame_answer ..)
    · exact answers_commandAt hp rfl (h (cmd := 2) (by decide)) (frame_answer ..)
    · exact answers_commandAt hp rfl (h (cmd := 3) (by decide)) (frame_answer ..)

end Sys2Proof.Machine

/-!
PROOFS. Sources and coalescing groups (14 R421 to R438).
-/
namespace Sys2Proof.Machine

/-! ### Bits of a write -/

theorem bitOf_eq_testBit (v k : Nat) : bitOf v k = v.testBit k := Nat.testBit_eq_decide_div_mod_eq.symm

/-- A bit that a W1C write clears is a bit of the write. -/
theorem bitOf_clearBits {w : Nat} (hw : w < 2 ^ 64) {k : Nat} (h : bitOf w k = false) (set : Word) : bitOf (clearBits w set) k = false := by
  rw [bitOf_eq_testBit] at h ⊢
  rw [clearBits, BitVec.toNat_and, Nat.testBit_and, BitVec.toNat_ofNat, Nat.mod_eq_of_lt hw, h, Bool.false_and]

theorem b2n_bitOf (v k : Nat) : b2n (bitOf v k) = v / 2 ^ k % 2 := by
  unfold b2n bitOf
  split
  · next h => exact (of_decide_eq_true h).symm
  · next h =>
    have hn : v / 2 ^ k % 2 ≠ 1 := of_decide_eq_false (Bool.eq_false_iff.mpr h)
    omega

section
variable {s : State} {k : Nat}

/-! ### An occurrence of a pulse kind -/

/-- The image is kept by an event. -/
theorem eventKeeps_img (x : ImgSt) : EventKeeps fun u => u.img = x where
  levels _ _ h := h
  trc _ _ h := h
  var _ _ _ _ _ h := h
  wr _ _ _ _ _ _ h := h
  now _ _ h := h
  latch _ _ h := h
  pend _ _ h := h
  ibi _ _ h := h

theorem State.findSrc_eventNoted (s : State) (a b code inst : Nat) : (s.eventNoted a b).findSrc code inst = s.findSrc code inst := by
  have hi : (s.eventNoted a b).img = s.img := (eventKeeps_img s.img).noted rfl a b
  rw [State.findSrc, State.findSrc, hi]

/-- An event of a pulse kind sets the LATCH of its source, which is pending or active after it (14 R422, R425). -/
theorem State.source_eventD {code inst : Nat} (hf : flagKind code = false) (hk : s.findSrc code inst = some k) (detail : Nat) :
    (s.eventD code inst detail).rd F.EVC_SRC_STATE_LATCH k = 1
      ∧ ((s.eventD code inst detail).rd F.EVC_SRC_STATE_PEND k = 1 ∨ (s.eventD code inst detail).rd F.EVC_SRC_STATE_ACTIVE k = 1) := by
  have hL := eventKeeps_latch k
  have hP := (eventKeeps_pend k).or (eventKeeps_active k 1)
  have hlatch : ((s.eventNoted code inst).when (!flagKind code) fun u => u.flag F.EVC_SRC_STATE_LATCH k).rd F.EVC_SRC_STATE_LATCH k = 1 := by
    rw [State.when, if_pos (by simp [hf])]
    exact State.rd_flag_one _ _ _ _ rfl (by decide)
  rw [State.eventD, State.eventOne_eq, if_neg (by simp [hf])]
  simp only [State.findSrc_eventNoted, hk]
  exact ⟨hL.evtDrain (hL.traced (hL.frame (hL.occur hlatch k) _ _ _ _ _ _) code inst) 8,
    hP.evtDrain (hP.traced (hP.frame (hP.occur_of hL hlatch fun u _ => u.pendOrActive_setPend k) _ _ _ _ _ _) code inst) 8⟩

/-- An EVENT of a pulse kind that the hub receives, other than PARENT_BACK and REST_END. -/
theorem State.eventMsg_hub {e code inst : Nat} (h9 : code ≠ 0x09) (h20 : code ≠ 0x20) (detail : Nat) :
    s.eventMsg (.hub e) code inst detail true false = s.eventD code inst detail := by
  rw [State.eventMsg, if_neg (by simp [endIsParent])]
  dsimp only
  rw [if_neg (by simp [h20]), State.when, if_neg (by simp [h9])]
  rfl

/-! ### Writes of a source -/

theorem State.srcStateWrite_setpend (hd : s.srcDefined k = true) (ha : s.is F.EVC_SRC_STATE_ACTIVE k = false) :
    s.srcStateWrite k (2 ^ 5) = (.ok, s.setPend k) := by
  have h1 := bitOf_clearBits (w := 2 ^ 5) (k := 1) (by decide) (by decide) (s.justSet .EVC_SRC_STATE k)
  rw [State.srcStateWrite, if_neg (by simp [hd]), if_neg (by simp [ha])]
  simp only [State.when, h1]
  rfl

theorem State.srcStateWrite_active (hd : s.srcDefined k = true) (ha : s.is F.EVC_SRC_STATE_ACTIVE k = true) :
    s.srcStateWrite k (2 ^ 5) = (.eOverrun, s) := by
  rw [State.srcStateWrite, if_neg (by simp [hd]), if_pos (by rw [ha]; rfl)]

theorem State.srcStateWrite_undefined (hd : s.srcDefined k = false) (w : Nat) : s.srcStateWrite k w = (.eAbsent, s) :=
  if_pos (by simp [hd])

theorem State.srcCfgWrite_undefined (hd : s.srcDefined k = false) (w : Nat) : s.srcCfgWrite k w = (.eAbsent, s) :=
  if_pos (by simp [hd])

/-- A cleared PEND, which sets again where the level is 1 (14 R425). -/
def State.pendCleared (s : State) (k : Nat) : State :=
  if s.srcLevel k then (s.wr F.EVC_SRC_STATE_PEND 0 k).setPend k else s.wr F.EVC_SRC_STATE_PEND 0 k

theorem State.srcStateWrite_clrpend (hd : s.srcDefined k = true) : s.srcStateWrite k (2 ^ 6) = (.ok, s.pendCleared k) := by
  have h1 := bitOf_clearBits (w := 2 ^ 6) (k := 1) (by decide) (by decide) (s.justSet .EVC_SRC_STATE k)
  have hl : (s.wr F.EVC_SRC_STATE_PEND 0 k).srcLevel k = s.srcLevel k := State.srcLevel_wr (by decide) ..
  rw [State.srcStateWrite, if_neg (by simp [hd]), if_neg (by rw [show bitOf (2 ^ 6) 5 = false from rfl]; exact Bool.false_ne_true)]
  simp only [State.when, h1]
  exact congrArg (Status.ok, ·) (congrArg (fun b : Bool => if b then (s.wr F.EVC_SRC_STATE_PEND 0 k).setPend k
    else s.wr F.EVC_SRC_STATE_PEND 0 k) hl)

theorem State.pend_pendCleared (ha : s.srcLevel k = true → s.is F.EVC_SRC_STATE_ACTIVE k = false) :
    (s.pendCleared k).rd F.EVC_SRC_STATE_PEND k = b2n (s.srcLevel k) := by
  unfold State.pendCleared
  split
  · next h =>
    rw [h]
    refine State.pend_setPend ?_
    rw [State.is, State.rd_wr_apart _ _ _ _ _ _ _ _ (by decide) (by decide)]
    exact ha h
  · next h =>
    rw [Bool.eq_false_iff.mpr h]
    exact State.rd_wr_same _ _ _ _ _ (by decide)

/-- A source with its configuration written. -/
def State.srcCfgSet (s : State) (k w : Nat) : State :=
  let s := ((s.wr F.EVC_SRC_CFG_EN (w % 2) k).wr F.EVC_SRC_CFG_TARGET (w / 2) k).wr F.EVC_SRC_CFG_PRI (w / 2 ^ 8) k
  let s := (s.wr F.EVC_SRC_CFG_NMI_MASK (w / 2 ^ 16 % 16) k).wr F.EVC_SRC_CFG_GROUP (w / 2 ^ 24 % 64) k
  s.wr F.EVC_SRC_CFG_GRP_EN (b2n (bitOf w 30)) k

theorem State.srcCfgWrite_sets (hd : s.srcDefined k = true) {w : Nat}
    (h0 : w / 2 ^ 16 % 16 = 0 → alwaysNmi (s.rd F.EVC_SRC_CFG_CODE k) = false) (h1 : w / 2 ^ 16 % 16 ≠ 0 → bitOf w 30 = false) :
    s.srcCfgWrite k w = (.ok, (s.grpLeave k (w / 2 ^ 24 % 64) (bitOf w 30)).srcCfgSet k w) := by
  rw [State.srcCfgWrite, if_neg (by simp [hd]), if_neg (by simpa using h0), if_neg (by simpa using h1)]
  rfl

theorem State.srcCfgWrite_rejected (hd : s.srcDefined k = true) {w : Nat}
    (h : w / 2 ^ 16 % 16 = 0 ∧ alwaysNmi (s.rd F.EVC_SRC_CFG_CODE k) = true ∨ w / 2 ^ 16 % 16 ≠ 0 ∧ bitOf w 30 = true) :
    s.srcCfgWrite k w = (.eRange, s) := by
  rw [State.srcCfgWrite, if_neg (by simp [hd])]
  obtain ⟨h0, ha⟩ | ⟨h0, hb⟩ := h
  · exact if_pos (by rw [ha, Bool.and_true]; exact decide_eq_true h0)
  · rw [if_neg (by rw [decide_eq_false h0]; simp), if_pos (by rw [decide_eq_false h0, hb]; rfl)]

/-! ### Groups -/

theorem State.open_grpFire (s : State) (g : Nat) : (s.grpFire g).rd F.EVC_GRP_A_OPEN g = 0 := by
  unfold State.grpFire
  split
  · refine (State.rd_incSat_apart _ _ _ _ _ _ _ _ (by decide) (by decide)).trans ?_
    simp (disch := decide) only [State.rd_wr_apart, State.rd_wr_same]
    rfl
  · next h =>
    have hlt : s.rd F.EVC_GRP_A_OPEN g < 2 := s.rd_lt F.EVC_GRP_A_OPEN g 0
    have h1 : s.rd F.EVC_GRP_A_OPEN g ≠ 1 := fun e => h (by rw [State.is, e]; rfl)
    omega

/-- A group that is open fires: no member is held, COUNT is 0, and it is counted (14 R437). -/
theorem State.fired_grpFire {g : Nat} (h : s.is F.EVC_GRP_A_OPEN g = true) : (s.grpFire g).rd F.EVC_GRP_A_COUNT g = 0
    ∧ (s.grpFire g).rd F.EVC_GRP_A_FIRES g = satAddN 16 (s.rd F.EVC_GRP_A_FIRES g) 1
    ∧ ∀ k ∈ s.grpMembers g, (s.grpFire g).rd F.EVC_SRC_STATE_HELD k = 0 := by
  have hm (f : Fld) (hf : f.r = .EVC_GRP_A) : (s.each (s.grpMembers g) fun s k => s.wr F.EVC_SRC_STATE_HELD 0 k).rd f g = s.rd f g :=
    State.rd_each _ _ _ _ _ _ fun _ _ _ => State.rd_wr_reg _ _ _ _ _ _ _ _ (by rw [hf]; decide)
  rw [State.grpFire, if_pos h]
  refine ⟨?_, ?_, fun k hk => ?_⟩
  · refine (State.rd_incSat_apart _ _ _ _ _ _ _ _ (by decide) (by decide)).trans (State.rd_wr_same _ _ _ _ _ (by decide))
  · refine (State.rd_incSat_same _ _ _ _ _ (by decide)).trans ?_
    simp (disch := decide) only [State.rd_wr_apart]
    rw [hm _ rfl]
    rfl
  · refine (State.rd_wr_reg _ _ _ _ _ _ _ _ (by decide)).trans ?_
    simp (disch := decide) only [State.rd_wr_reg]
    refine State.each_sets (P := fun u => u.rd F.EVC_SRC_STATE_HELD k = 0) hk (fun _ => State.rd_wr_same _ _ _ _ _ (by decide))
      fun u y _ hu => ?_
    by_cases hy : k = y
    · rw [hy]
      exact State.rd_wr_same _ _ _ _ _ (by decide)
    · exact (State.rd_wr_ne _ _ _ _ _ _ _ _ fun e => hy (congrArg Key.i e)).trans hu

theorem State.grpWrite_rejected {g cnt us : Nat} (h : cnt = 0 ∨ us = 0) : s.grpWrite g cnt us = (.eRange, s) := if_pos (by simpa using h)

theorem State.grpWrite_sets {g cnt us : Nat} (h : ¬ (cnt = 0 ∨ us = 0)) :
    s.grpWrite g cnt us = (.ok, ((s.grpFire g).wr F.EVC_GRP_A_CNT_TH cnt g).wr F.EVC_GRP_A_TIME_TH us g) := if_neg (by simpa using h)

end

/-! ### The obligation -/

/-- Settles O43: by what each write of a source or a group comes to; an event keeps the LATCH that it set and the source that it made
pending. -/
theorem sourcesAndGroups : Obligations.SourcesAndGroups := by
  refine ⟨?event, ?setpend, ?active, ?absent, ?clrpend, ?cfg, ?cfgRange, ?prigroup, ?group, ?fires⟩
  case event =>
    intro s t tag e code inst detail x hd h9 h20 hf hx
    refine answers_delivered hd rfl ?_
    rw [State.eventMsg_hub h9 h20]
    exact State.source_eventD (s := s.start t) hf hx detail
  case setpend =>
    intro s t k p hp hd ha
    refine answers_commandAt hp rfl (State.srcStateWrite_setpend (s := s.start t) hd ha) ?_
    rw [State.rd_answer _ _ _ _ _ (by decide), State.pend_setPend (s := s.start t) ha]
  case active =>
    intro s t k p hp hd ha
    exact answers_commandAt hp rfl (State.srcStateWrite_active (s := s.start t) hd ha) (frame_answer ..)
  case absent =>
    intro s t k w p hp hd c hc
    have h (w : Nat) := State.srcStateWrite_undefined (s := s.start t) hd w
    obtain rfl | rfl | rfl : c = .setpend t p k ∨ c = .clrpend t p k ∨ c = .evcSrcCfgWrite t p k w := by simpa using hc
    · exact answers_commandAt hp rfl (h _) (frame_answer ..)
    · exact answers_commandAt hp rfl (h _) (frame_answer ..)
    · exact answers_commandAt hp rfl (State.srcCfgWrite_undefined (s := s.start t) hd w) (frame_answer ..)
  case clrpend =>
    intro s t k p hp hd ha
    refine answers_commandAt hp rfl (State.srcStateWrite_clrpend (s := s.start t) hd) ?_
    rw [State.rd_answer _ _ _ _ _ (by decide)]
    exact State.pend_pendCleared ha
  case cfg =>
    intro s t k w p hp hd h0 h1
    refine answers_commandAt hp rfl (State.srcCfgWrite_sets (s := s.start t) hd h0 h1) ?_
    simp (disch := decide) only [State.rd_answer, State.srcCfgSet, State.rd_wr_apart, State.rd_wr_same, b2n_bitOf]
    exact ⟨Nat.mod_mod .., rfl, rfl, Nat.mod_mod .., Nat.mod_mod .., Nat.mod_mod ..⟩
  case cfgRange =>
    intro s t k w p hp hd h
    exact answers_commandAt hp rfl (State.srcCfgWrite_rejected (s := s.start t) hd h) (frame_answer ..)
  case prigroup =>
    intro s t g p hp
    by_cases h : s.evt.evStk.all (·.isEmpty) = true
    · simp only [if_pos h]
      refine answers_command hp rfl (if_pos h) ?_
      rw [State.rd_answer _ _ _ _ _ (by decide), State.rd_wr_same _ _ _ _ _ (by decide)]
      exact Nat.mod_mod ..
    · simp only [if_neg h]
      exact answers_rejected hp rfl (if_neg h)
  case group =>
    intro s t g cnt us p hp
    by_cases h : cnt % 256 = 0 ∨ us % 65536 = 0
    · simp only [if_pos h]
      exact answers_commandAt hp rfl (State.grpWrite_rejected h) (frame_answer ..)
    · simp only [if_neg h]
      refine answers_commandAt hp rfl (State.grpWrite_sets h) ?_
      simp (disch := decide) only [State.rd_answer, State.rd_wr_apart, State.rd_wr_same]
      exact ⟨Nat.mod_mod .., Nat.mod_mod .., State.open_grpFire ..⟩
  case fires =>
    intro s t g h
    have ho : (s.start t).is F.EVC_GRP_A_OPEN g = true := by
      rw [State.grpLapsed, Bool.and_eq_true] at h
      exact h.1
    exact ⟨_, congrArg Host.Outcome.next (if_pos h), State.open_grpFire .., State.fired_grpFire ho⟩

end Sys2Proof.Machine

/-!
PROOFS. SLEEP: quiescence, ageing reports and the wake entries (13 R396, R397; 14 R439).
-/
namespace Sys2Proof.Machine

/-- A wake entry that triggers in SLEEP, or in DEEP_SLEEP where it is not IGNORED (14 R439). -/
theorem exec_wakeTrigger {s : State} {k : Nat} (hp : s.pkg = Pkg.sleep ∨ s.pkg = Pkg.deepSleep ∧ s.is F.EVC_WAKE_IGNORED k = false)
    (hk : k ≤ 31) (hw : s.wakeOn k = true) (t : Nat) :
    exec (.wakeTrigger t k) s = .next (((s.start t).flag F.EVC_WAKE_SEEN k).wakeUp 6) := by
  have hw' : (s.start t).wakeOn k = true := hw
  refine congrArg Host.Outcome.next (if_pos ?_)
  obtain hs | ⟨hd, hi⟩ := hp
  · simp [hs, hk, hw', Pkg.sleep, Pkg.deepSleep]
  · simp [hd, hi, hk, hw']

/-- A flag of a wake entry leaves the package state. -/
theorem State.pkg_flagSeen (s : State) (k : Nat) : (s.flag F.EVC_WAKE_SEEN k).pkg = s.pkg :=
  State.pkg_congr (State.reg_wr_reg _ _ _ _ _ _ _ _ (by decide))

/-- The wake entry is SEEN. -/
theorem State.seen_flag (s : State) (k : Nat) : (s.flag F.EVC_WAKE_SEEN k).rd F.EVC_WAKE_SEEN k = 1 :=
  State.rd_flag_one _ _ _ _ rfl (by decide)

/-- Settles O11: by what each command comes to; the entries of RUN and RAMP are those of the package state. -/
theorem sleepQuiescesAndWakes : Obligations.SleepQuiescesAndWakes := by
  refine ⟨?sleep, ?deep, ?quiesce, ?qack, ?lag⟩
  case sleep =>
    intro s t k hp hk hw
    have hp' : ((s.start t).flag F.EVC_WAKE_SEEN k).pkg = Pkg.sleep := ((s.start t).pkg_flagSeen k).trans hp
    refine ⟨_, exec_wakeTrigger (.inl hp) hk hw t, ?_⟩
    rw [State.wakeUp_sleep hp']
    obtain ⟨hpkg, -, hcause⟩ := entered_sleepWake ((s.start t).flag F.EVC_WAKE_SEEN k) (cause := 6) (by decide)
    exact ⟨(State.rd_sleepWake _ (by decide)).trans (State.seen_flag ..), hpkg, hcause⟩
  case deep =>
    intro s t k hp hk hw hi hl hc
    have hr (r : Reg) (h : r ≠ .EVC_WAKE) (i j : Nat) : ((s.start t).flag F.EVC_WAKE_SEEN k).reg r i j = s.reg r i j :=
      State.reg_wr_reg _ _ _ _ _ _ _ _ h
    have hp' : ((s.start t).flag F.EVC_WAKE_SEEN k).pkg = Pkg.deepSleep := ((s.start t).pkg_flagSeen k).trans hp
    refine ⟨_, exec_wakeTrigger (.inr ⟨hp, hi⟩) hk hw t, ?_⟩
    rw [State.wakeUp_deepSleep hp']
    refine ⟨(State.rd_rampEnter _ (by decide)).trans (State.seen_flag ..), State.pkg_rampEnter ?_ ?_ (by decide)⟩
    · exact (State.stopLatched_congr (hr .CRUST_LATCH (by decide) 0 0)).trans hl
    · exact (State.is_congr (hr .CLK_STAT (by decide) 0 0)).trans hc
  case quiesce =>
    intro s t l hp hl
    have hl' : (s.start t).leaves.contains l = true := List.contains_iff_mem.mpr hl
    refine ⟨_, congrArg Host.Outcome.next (if_pos ?_), State.v_setV_same .., State.pkg_congr (State.reg_leafAcct _ (by decide))⟩
    rw [hl', Bool.and_true]
    exact Bool.or_eq_true_iff.mpr (hp.imp decide_eq_true decide_eq_true)
  case qack =>
    intro s t l p hp hq
    have hp' : ((s.start t).cores l).contains p = true := List.contains_iff_mem.mpr hp
    have hq' : (s.start t).v .ccpQreq l p = 1 := hq
    refine ⟨_, congrArg Host.Outcome.next (if_pos (by rw [hp', hq']; rfl)), ?_, State.v_setV_same ..⟩
    exact (State.v_setV_var _ _ _ _ _ _ _ _ (by decide)).trans (State.v_setV_same ..)
  case lag =>
    intro s t l p hp
    have hp' : ((s.start t).cores l).contains p = true := List.contains_iff_mem.mpr hp
    refine ⟨_, congrArg Host.Outcome.next (if_pos hp'), ?_⟩
    exact (State.rd_event _ _ (by decide)).trans (State.rd_flag_one _ _ _ _ rfl (by decide))

end Sys2Proof.Machine

/-!
PROOFS. What a stopping trip leaves (12 R364, R366, R367): its class latched, CRUST_STOP and the package state.
-/
namespace Sys2Proof.Machine

section
variable {s : State} {cls : Nat}

/-- Above VERIFY a trip latches its class (12 R364). -/
theorem State.latch_trip (hp : Pkg.verify < s.pkg) (hc : cls ≤ 64) (h0 : 0 < cls) (rs : List Nat) :
    (s.trip cls rs).rd ⟨.CRUST_LATCH, cls - 1, 1⟩ = 1 := by
  unfold State.trip
  extract_lets before mask latch pkg a same b c counted d e f g v
  have hlatch : (latch s).rd ⟨.CRUST_LATCH, cls - 1, 1⟩ = 1 := by
    have hf : (s.flag ⟨.CRUST_LATCH, cls - 1, 1⟩).rd ⟨.CRUST_LATCH, cls - 1, 1⟩ = 1 := State.rd_flag_one _ _ _ _ rfl (by dsimp only; omega)
    simp only [latch]
    have hr (g : Fld) (hg : Reg.CRUST_LATCH ≠ g.r) (m : Nat) : ((s.flag ⟨.CRUST_LATCH, cls - 1, 1⟩).flag g 0 0 m).rd ⟨.CRUST_LATCH, cls - 1, 1⟩ = 1 :=
      (State.rd_congr (State.reg_flag_reg hg ..)).trans hf
    split
    · exact hr _ (by decide) _
    · split
      · exact hr _ (by decide) _
      · split
        · exact hr _ (by decide) _
        · exact hf
  rw [if_neg (by simpa [pkg] using hp)]
  split
  next body w hw =>
  extract_lets i j k l
  have hb : b.reg .CRUST_LATCH = a.reg .CRUST_LATCH := by
    simp only [b]
    split
    · exact State.reg_each _ _ _ _ _ _ fun _ _ _ => State.reg_haltReq _ (by decide)
    · split
      · exact State.reg_each _ _ _ _ _ _ fun _ _ _ => State.reg_setV ..
      · rfl
  have hf : f.reg .CRUST_LATCH = (latch s).reg .CRUST_LATCH := by
    have he : e.reg .CRUST_LATCH = (latch s).reg .CRUST_LATCH := by
      simp only [e, d, c]
      rw [State.reg_downGiveUp (by decide), State.reg_setV, State.reg_when_keeps fun _ => State.reg_wr_reg _ _ _ _ _ _ _ _ (by decide), hb]
      exact (State.reg_stopOn (by decide)).trans (State.reg_setV ..)
    simp only [f]
    rw [State.reg_when_keeps fun u => ?_, he]
    rw [State.reg_tripShow (by decide), State.reg_setV, State.reg_setV, State.reg_loopsLeave _ (by decide), State.reg_pkgTo _ _ (by decide),
      State.reg_setV]
  have hw' : w.reg .CRUST_LATCH = v.reg .CRUST_LATCH :=
    (congrArg (fun x : List Byte × State => x.2.reg .CRUST_LATCH) hw).symm.trans (State.reg_tripBody _ _ (by decide))
  have hl : l.reg .CRUST_LATCH = f.reg .CRUST_LATCH := by
    simp only [l, k, j, i]
    rw [State.reg_when_keeps fun _ => State.reg_failEnter _ (by decide), State.reg_when_keeps fun _ => State.reg_downStart _ (by decide),
      State.reg_when_keeps fun u => ?_, State.reg_trcTrigger _ (by decide), State.reg_faultRecord _ _ (by decide), hw']
    · simp only [v, g]
      rw [State.reg_event _ _ (by decide), State.reg_riseStopAll (by decide), State.reg_wr_reg _ _ _ _ _ _ _ _ (by decide),
        State.reg_wr_reg _ _ _ _ _ _ _ _ (by decide)]
    · rw [State.reg_syncFlush (by decide), State.reg_each _ _ _ _ _ _ fun _ _ _ => State.reg_breakSend _ _ _ (by decide)]
  refine (State.rd_congr (f := ⟨.CRUST_LATCH, cls - 1, 1⟩) ((State.reg_alertRise (ra := .CRUST_LATCH) _ (by decide)).trans (hl.trans hf))).trans
    hlatch

/-- A stopping trip that counts, of a class that does not start a ramp-down: CRUST_STOP is asserted, and the package is in TRIPPED, or,
with its trips counted, in FAIL (12 R367; 01 R41). -/
theorem State.trip_counts (hp : Pkg.verify < s.pkg) (ht : s.pkg ≠ Pkg.tripped) (hf : s.pkg ≠ Pkg.fail) (h4 : cls ≠ 4) (h5 : cls ≠ 5)
    (rs : List Nat) :
    (s.trip cls rs).rd F.CRUST_STATUS_STOP = 1 ∧ ((s.trip cls rs).pkg = Pkg.tripped ∨ (s.trip cls rs).pkg = Pkg.fail) := by
  unfold State.trip
  extract_lets before mask latch pkg a same b c counted d e f g v
  have hn : counted = true := by simp [counted, pkg, ht, hf]
  have he : e.rd F.CRUST_STATUS_STOP = 1 := by
    have ha : a.rd F.CRUST_STATUS_STOP = 1 := State.stop_stopOn _
    have hb : b.rd F.CRUST_STATUS_STOP = a.rd F.CRUST_STATUS_STOP := by
      simp only [b]
      split
      · exact State.rd_each _ _ _ _ _ _ fun _ _ _ => State.rd_haltReq _ (by decide)
      · split
        · exact State.rd_each _ _ _ _ _ _ fun _ _ _ => State.rd_setV ..
        · rfl
    simp only [e, d, c]
    rw [State.rd_downGiveUp (by decide), State.rd_setV, State.when, if_neg (by simp [h4]), hb, ha]
  have hfe : f.rd F.CRUST_STATUS_STOP = 1 ∧ f.pkg = Pkg.tripped := by
    simp only [f, hn, State.when, if_true, State.pkg_tripShow]
    constructor
    · rw [State.rd_tripShow (by decide), State.rd_setV, State.rd_setV, State.rd_loopsLeave _ (by decide), State.rd_pkgTo _ _ (by decide),
        State.rd_setV, he]
    · refine (State.pkg_congr ?_).trans (entered_pkgTo (e.setV .resumeWait 0) (st := Pkg.tripped) (cause := 7) (by decide) (by decide)).pkg
      rw [State.reg_setV, State.reg_setV, State.reg_loopsLeave _ (by decide)]
  rw [if_neg (by simpa [pkg] using hp)]
  split
  next body w hw =>
  extract_lets i j k l
  have hk (r : Reg) (h1 : Foot.tripBody.hasR r = false) (h2 : Foot.faultRecord.hasR r = false) (h3 : Foot.riseStopAll.hasR r = false)
      (h6 : Foot.event.hasR r = false) (h7 : Foot.syncFlush.hasR r = false) (h8 : Foot.breakSend.hasR r = false)
      (h9 : Foot.trcTrigger.hasR r = false) (h10 : r ≠ .CRUST_LAST) : k.reg r = f.reg r := by
    have hwv : w.reg r = v.reg r := (congrArg (fun x : List Byte × State => x.2.reg r) hw).symm.trans (State.reg_tripBody _ _ h1)
    simp only [k, j, i]
    rw [State.when, if_neg (by simp [h4, h5]), State.reg_when_keeps fun u => ?_, State.reg_trcTrigger _ h9, State.reg_faultRecord _ _ h2, hwv]
    · simp only [v, g]
      rw [State.reg_event _ _ h6, State.reg_riseStopAll h3, State.reg_wr_reg _ _ _ _ _ _ _ _ h10, State.reg_wr_reg _ _ _ _ _ _ _ _ h10]
    · rw [State.reg_syncFlush h7, State.reg_each _ _ _ _ _ _ fun _ _ _ => State.reg_breakSend _ _ _ h8]
  have hl : l.rd F.CRUST_STATUS_STOP = 1 ∧ (l.pkg = Pkg.tripped ∨ l.pkg = Pkg.fail) := by
    obtain ⟨hf1, hf2⟩ := hfe
    have hks := hk .CRUST_STATUS (by decide) (by decide) (by decide) (by decide) (by decide) (by decide) (by decide) (by decide)
    have hkp := hk .HUB_PKG_STATE (by decide) (by decide) (by decide) (by decide) (by decide) (by decide) (by decide) (by decide)
    simp only [l, State.when]
    split
    · exact ⟨State.stop_failEnter .., .inr (entered_failEnter k (by decide)).pkg⟩
    · exact ⟨(State.rd_congr hks).trans hf1, .inl ((State.pkg_congr hkp).trans hf2)⟩
  rw [State.rd_alertRise _ (by decide), State.pkg_congr (State.reg_alertRise _ (by decide))]
  exact hl

end
end Sys2Proof.Machine

/-!
PROOFS. What happens in a clock unit of itself (13 R399 to R405).
-/
namespace Sys2Proof.Machine

/-! ### Hub time through the loss of the grid -/

/-- An event leaves hub time. -/
theorem eventKeeps_time (x : Nat) : EventKeeps fun u => u.time = x where
  levels _ _ h := h
  trc _ _ h := h
  var _ _ _ _ _ h := h
  wr _ _ _ _ _ _ h := h
  now _ _ h := h
  latch _ _ h := h
  pend _ _ h := h
  ibi _ _ h := h

theorem State.time_each {α : Type} (s : State) (l : List α) {op : State → α → State} (h : ∀ u y, (op u y).time = u.time) :
    (s.each l op).time = s.time :=
  State.each_keeps (P := fun u => u.time = s.time) rfl fun u y _ hu => (h u y).trans hu

theorem State.time_gridLost (s : State) : s.gridLost.time = s.time := by
  refine State.time_each _ _ fun u x => (eventKeeps_time u.time).event ?_ 0x3D x.rail
  rw [State.time_setV, State.time_flag, State.time_wr]
  refine (State.time_each _ _ ?_).trans rfl
  exact fun _ _ => rfl

theorem State.time_gridBack (s : State) : s.gridBack.time = s.time :=
  State.time_each _ _ fun u r => by
    unfold State.gridCheck
    exact State.time_when fun _ => rfl

section
variable {s : State} {n : Nat}

/-! ### The forced path -/

/-- The forced path selects the oscillator, ends a switch and starts the quiet period (13 R403). -/
theorem State.forced_clkForce (s : State) (n : Nat) : (s.clkForce n).rd F.CLK_STAT_ON_OSC n = 1
    ∧ (s.clkForce n).rd F.CLK_STAT_MUX_BUSY n = 0 ∧ (s.clkForce n).v .clkQuiet n = (s.time + 1 : Nat) := by
  have hg {P : State → Prop} {z : State} (h : P z) (hg : ∀ u l, P u → P ((u.each l fun s r => s.shedAbort r).gridLost)) :
      P (z.when (n = 0) fun s => (s.each s.railNums fun s r => s.shedAbort r).gridLost) := State.when_holds h fun u hu => hg u _ hu
  unfold State.clkForce
  extract_lets a b
  have hb (f : Fld) : b.rd f n = ((s.wr F.CLK_STAT_ON_OSC 1 n).wr F.CLK_STAT_MUX_BUSY 0 n).rd f n := rfl
  refine ⟨?_, ?_, ?_⟩
  · refine hg (P := fun u => u.rd F.CLK_STAT_ON_OSC n = 1) ?_ fun u l hu => ?_
    · rw [hb, State.rd_wr_apart _ _ _ _ _ _ _ _ (by decide) (by decide), State.rd_wr_same _ _ _ _ _ (by decide)]
      rfl
    · rw [State.rd_gridLost (by decide), State.rd_each _ _ _ _ _ _ fun _ _ _ => State.rd_shedAbort _ (by decide), hu]
  · refine hg (P := fun u => u.rd F.CLK_STAT_MUX_BUSY n = 0) ?_ fun u l hu => ?_
    · rw [hb, State.rd_wr_same _ _ _ _ _ (by decide)]
      rfl
    · rw [State.rd_gridLost (by decide), State.rd_each _ _ _ _ _ _ fun _ _ _ => State.rd_shedAbort _ (by decide), hu]
  · refine hg (P := fun u => u.v .clkQuiet n = (s.time + 1 : Nat)) ?_ fun u l hu => ?_
    · exact (State.v_setV_var _ _ _ _ _ _ _ _ (by decide)).trans (State.v_setV_same ..)
    · rw [State.v_gridLost (by decide), State.v_each _ _ _ _ _ _ fun _ _ _ => State.v_shedAbort _ (by decide), hu]

/-! ### A declared failure -/

/-- A unit that has declared failure, before the trip (13 R403). -/
def State.clkDeclared (s : State) (u cause : Nat) : State :=
  let s := (s.clkForce u).setV .clkFailed 1 u
  let s := (s.wr F.CLK_STAT_FAIL_CAUSE cause u).wr F.CLK_STAT_FAIL_TIME (s.islNow ((unitDom u).getD hubDom)) u
  let s := (s.wr F.CLK_STAT_MON_GOOD 0 u).wr F.CLK_MON_GOOD_WIN 0 u
  let s := s.when (cause = 3) fun s => s.wr F.CLK_STAT_PLL_LOCK 0 u
  let s := s.when (cause = 2) fun s =>
    let (x, s) := s.freshFree
    let y := x % (65536 - 101)
    s.wr F.CLK_MON_LAST_CNT (if y < 950 then y else y + 101) u
  ((s.flag F.CLK_STAT_FAIL_SEEN u).incSat F.CLK_STAT_FAILS 1 u).unitEvent u 0x50

/-- CLK_FAIL at a unit that may declare it (13 R402, R403). -/
theorem exec_clkFail {cause : Nat} (hu : s.unitOn n = true) (hv : s.is F.CLK_OSC_CAL_VALID n = true) (hf : s.v .clkFailed n = 0)
    (h1 : 1 ≤ cause) (h3 : cause ≤ 3) (ho : cause = 3 → s.is F.CLK_STAT_ON_OSC n = false) (t : Nat) :
    exec (.clkFail t n cause) s = .next (if ((s.start t).clkDeclared n cause).is F.CRUST_LATCH_CLOCK = true then (s.start t).clkDeclared n cause
      else ((s.start t).clkDeclared n cause).trip 6 []) := by
  have hu' : (s.start t).unitOn n = true := hu
  have ho' : (decide (cause = 3) && s.is F.CLK_STAT_ON_OSC n) = false := by
    rw [Bool.and_eq_false_imp]
    exact fun h => ho (of_decide_eq_true h)
  refine congrArg Host.Outcome.next ((if_pos ?_).trans rfl)
  simp only [hu', State.is_start, hv, State.v_start, hf, ho', Nat.ble_eq_true_of_le h1, Nat.ble_eq_true_of_le h3]
  rfl

/-- A register that a declared failure leaves. -/
theorem State.reg_clkDeclared {r : Reg} (h1 : Foot.clkForce.hasR r = false) (h2 : Foot.unitEvent.hasR r = false) (h3 : r ≠ .CLK_STAT)
    (h4 : r ≠ .CLK_MON) (s : State) (n cause i j : Nat) : (s.clkDeclared n cause).reg r i j = s.reg r i j := by
  unfold State.clkDeclared
  dsimp only
  rw [State.reg_unitEvent _ _ h2, State.incSat, State.reg_wr_reg _ _ _ _ _ _ _ _ h3, State.reg_flag_reg h3,
    State.reg_when_keeps fun u => ?_, State.reg_when_keeps fun u => State.reg_wr_reg _ _ _ _ _ _ _ _ h3,
    State.reg_wr_reg _ _ _ _ _ _ _ _ h4, State.reg_wr_reg _ _ _ _ _ _ _ _ h3, State.reg_wr_reg _ _ _ _ _ _ _ _ h3,
    State.reg_wr_reg _ _ _ _ _ _ _ _ h3, State.reg_setV, State.reg_clkForce _ h1]
  exact State.reg_wr_reg _ _ _ _ _ _ _ _ h4

/-- A field of CLK_STAT that is written before the monitor's record of a failure reads as written. -/
theorem State.rd_clkDeclared {f : Fld} (hf : f.r = .CLK_STAT)
    (hd : ∀ g ∈ [F.CLK_STAT_MON_GOOD, F.CLK_STAT_PLL_LOCK, F.CLK_STAT_FAIL_SEEN, F.CLK_STAT_FAILS],
      f.lsb + f.w ≤ g.lsb ∨ g.lsb + g.w ≤ f.lsb) (s : State) (n cause : Nat) :
    (s.clkDeclared n cause).rd f n = ((((s.clkForce n).setV .clkFailed 1 n).wr F.CLK_STAT_FAIL_CAUSE cause n).wr F.CLK_STAT_FAIL_TIME
      (((s.clkForce n).setV .clkFailed 1 n).islNow ((unitDom n).getD hubDom)) n).rd f n := by
  have hr {g : Fld} (hg : g.r = .CLK_MON) : f.r ≠ g.r := by rw [hf, hg]; decide
  unfold State.clkDeclared
  dsimp only
  rw [State.rd_unitEvent _ _ (by rw [hf]; decide), State.rd_incSat_apart _ _ _ _ _ _ _ _ (by decide) (hd _ (by simp)),
    State.rd_flag_apart _ _ _ _ _ _ _ _ (by decide) (hd _ (by simp)), State.rd_when_keeps fun u => ?_,
    State.rd_when_keeps fun u => State.rd_wr_apart _ _ _ _ _ _ _ _ (by decide) (hd _ (by simp)), State.rd_wr_reg _ _ _ _ _ _ _ _ (hr rfl),
    State.rd_wr_apart _ _ _ _ _ _ _ _ (by decide) (hd _ (by simp))]
  exact State.rd_wr_reg _ _ _ _ _ _ _ _ (hr rfl)

/-- What a declared failure shows (13 R403). -/
theorem State.shown_clkDeclared (s : State) (n : Nat) {cause : Nat} (hc : cause ≤ 3) : (s.clkDeclared n cause).rd F.CLK_STAT_ON_OSC n = 1
    ∧ (s.clkDeclared n cause).rd F.CLK_STAT_FAIL_CAUSE n = cause ∧ (s.clkDeclared n cause).rd F.CLK_STAT_FAIL_SEEN n = 1
    ∧ (s.clkDeclared n cause).v .clkQuiet n = (s.time + 1 : Nat) := by
  obtain ⟨hosc, -, hq⟩ := s.forced_clkForce n
  refine ⟨?_, ?_, ?_, ?_⟩
  · rw [State.rd_clkDeclared rfl (by decide)]
    simp (disch := decide) only [State.rd_wr_apart]
    exact hosc
  · rw [State.rd_clkDeclared rfl (by decide)]
    simp (disch := decide) only [State.rd_wr_apart, State.rd_wr_same]
    exact Nat.mod_eq_of_lt (hc.trans_lt (by decide))
  · unfold State.clkDeclared
    dsimp only
    rw [State.rd_unitEvent _ _ (by decide), State.rd_incSat_apart _ _ _ _ _ _ _ _ (by decide) (by decide)]
    exact State.rd_flag_one _ _ _ _ rfl (by decide)
  · unfold State.clkDeclared
    dsimp only
    rw [State.v_unitEvent _ _ (by decide), State.incSat, State.v_wr, State.v_flag, State.v_when_keeps fun _ => ?_,
      State.v_when_keeps fun _ => State.v_wr .., State.v_wr, State.v_wr, State.v_wr, State.v_wr, State.v_setV_var _ _ _ _ _ _ _ _ (by decide), hq]
    exact State.v_wr ..

/-! ### Calibration -/

/-- A calibration ends, with its count in range (13 R401). -/
theorem State.oscCal_inRange (s : State) (n : Nat) {cnt : Nat} (h1 : 2400 ≤ cnt) (h2 : cnt ≤ 4000) :
    (s.oscCal n cnt).rd F.CLK_OSC_OSC_KHZ n = cnt * 50 ∧ (s.oscCal n cnt).rd F.CLK_OSC_CAL_VALID n = 1 := by
  unfold State.oscCal
  extract_lets a b c d
  rw [if_pos (by simp [h1, h2])]
  refine ⟨?_, State.rd_wr_same _ _ _ _ _ (by decide)⟩
  simp (disch := decide) only [d, c, State.rd_wr_apart, State.rd_wr_reg, State.rd_wr_same]
  exact Nat.mod_eq_of_lt (by omega)

/-- A calibration ends, with its count out of range. -/
theorem State.oscCal_outOfRange (s : State) (n : Nat) {cnt : Nat} (h : cnt < 2400 ∨ 4000 < cnt) :
    (s.oscCal n cnt).rd F.CLK_OSC_CAL_VALID n = 0 := by
  unfold State.oscCal
  extract_lets a b c d
  rw [if_neg (by simp; omega), State.rd_unitEvent _ _ (by decide), State.rd_wr_same _ _ _ _ _ (by decide)]
  rfl

theorem State.clkCal_oscCal (s : State) (n cnt : Nat) : (s.oscCal n cnt).v .clkCal n = 0 := by
  unfold State.oscCal
  extract_lets a b c d
  have hb : b.v .clkCal n = 0 := by
    simp only [b, a, State.v_wr, State.v_setV_same]
  split
  · exact hb
  · rw [State.v_unitEvent _ _ (by decide)]
    exact hb

/-! ### A completed switch -/

/-- A switch that completes, before the calibration that follows RETURN (13 R399, R405). -/
def State.muxDone (s : State) (u : Nat) : State :=
  let sel := s.vn .muxSel u
  let s := (s.wr F.CLK_STAT_MUX_BUSY 0 u).wr F.CLK_STAT_ON_OSC sel u
  let s := s.when (sel = 0) fun s => s.setV .clkFailed 0 u
  s.when (u = 0) fun s => if sel = 0 then s.gridBack else s.gridLost

theorem exec_muxSwitchComplete (hb : s.is F.CLK_STAT_MUX_BUSY n = true) (t : Nat) :
    exec (.muxSwitchComplete t n) s = .next (((s.start t).muxDone n).when (((s.start t).muxDone n).v .clkRet n = 1) fun s =>
      (s.setV .clkRet 0 n).setV .clkCal (s.time + 1 : Nat) n) :=
  congrArg Host.Outcome.next ((if_pos (by simpa using hb)).trans rfl)

/-- What the grid's work on the hub's unit keeps is kept by it. -/
theorem State.muxDone_grid {P : State → Prop} (hl : ∀ u, P u → P u.gridLost) (hb : ∀ u, P u → P u.gridBack) {s : State} {n sel : Nat}
    (h : P s) : P (s.when (n = 0) fun s => if sel = 0 then s.gridBack else s.gridLost) :=
  State.when_holds h fun u hu => by
    split
    · exact hb u hu
    · exact hl u hu

theorem State.rd_muxDone (s : State) (n : Nat) {f : Fld} (hf : f.r = .CLK_STAT) :
    (s.muxDone n).rd f n = ((s.wr F.CLK_STAT_MUX_BUSY 0 n).wr F.CLK_STAT_ON_OSC (s.vn .muxSel n) n).rd f n := by
  unfold State.muxDone
  dsimp only
  refine State.muxDone_grid (P := fun u => u.rd f n = ((s.wr F.CLK_STAT_MUX_BUSY 0 n).wr F.CLK_STAT_ON_OSC (s.vn .muxSel n) n).rd f n)
    (fun u hu => (State.rd_gridLost (by rw [hf]; decide)).trans hu) (fun u hu => (State.rd_gridBack (by rw [hf]; decide)).trans hu) ?_
  exact State.rd_when_keeps fun _ => State.rd_setV ..

theorem State.v_muxDone (s : State) (n : Nat) {x : Var} (h1 : Foot.gridLost.hasV x = false) (h2 : Foot.gridBack.hasV x = false) :
    (s.muxDone n).v x n = (s.when (s.vn .muxSel n = 0) fun s => s.setV .clkFailed 0 n).v x n := by
  unfold State.muxDone
  dsimp only
  refine State.muxDone_grid (P := fun u => u.v x n = (s.when (s.vn .muxSel n = 0) fun s => s.setV .clkFailed 0 n).v x n)
    (fun u hu => (State.v_gridLost h1).trans hu) (fun u hu => (State.v_gridBack h2).trans hu) ?_
  unfold State.when
  split
  · rfl
  · rfl

theorem State.time_muxDone (s : State) (n : Nat) : (s.muxDone n).time = s.time :=
  State.muxDone_grid (P := fun u => u.time = s.time) (fun u hu => u.time_gridLost.trans hu) (fun u hu => u.time_gridBack.trans hu)
    (State.time_when fun _ => rfl)

end

/-! ### The obligation -/

/-- Settles O15: by what each event of a unit comes to, and what of the unit's registers its work leaves. -/
theorem clockUnitEvents : Obligations.ClockUnitEvents := by
  refine ⟨?fail, ?quiet, ?hung, ?cal, ?good, ?switch⟩
  case fail =>
    intro s t n cause hu hv hf h1 h3 ho
    have he := exec_clkFail hu hv hf h1 h3 ho t
    have hlatch : ((s.start t).clkDeclared n cause).is F.CRUST_LATCH_CLOCK = s.is F.CRUST_LATCH_CLOCK :=
      State.is_congr (State.reg_clkDeclared (by decide) (by decide) (by decide) (by decide) ..)
    have hpkg : ((s.start t).clkDeclared n cause).pkg = s.pkg :=
      State.pkg_congr (State.reg_clkDeclared (by decide) (by decide) (by decide) (by decide) ..)
    constructor
    · intro hl
      obtain ⟨hosc, hcause, hseen, hq⟩ := (s.start t).shown_clkDeclared n h3
      rw [if_pos (hlatch.trans hl)] at he
      exact ⟨_, he, hosc, hcause, hseen, hq, hpkg⟩
    · intro hl hp hnt hnf
      rw [if_neg (by rw [hlatch, hl]; exact Bool.false_ne_true)] at he
      obtain ⟨hstop, htf⟩ := State.trip_counts (cls := 6) (hpkg ▸ hp) (hpkg ▸ hnt) (hpkg ▸ hnf) (by decide) (by decide) []
      exact ⟨_, he, State.latch_trip (cls := 6) (hpkg ▸ hp) (by decide) (by decide) [], htf, hstop⟩
  case quiet =>
    intro s t n ht
    exact ⟨_, congrArg Host.Outcome.next (if_pos (Nat.ble_eq_true_of_le ht)), State.v_setV_same ..,
      (((Does.refl _ s).start t).setV (by decide) _ _ _).within (Foot.le_refl _)⟩
  case hung =>
    intro s t n hb ht
    obtain ⟨hosc, hbusy, -⟩ := (s.start t).forced_clkForce n
    refine ⟨_, congrArg Host.Outcome.next (if_pos (by rw [State.is_start, hb]; exact Nat.ble_eq_true_of_le ht)), ?_, ?_, ?_, ?_⟩
    · rw [State.rd_unitEvent _ _ (by decide), State.rd_flag_apart _ _ _ _ _ _ _ _ (by decide) (by decide),
        State.rd_wr_reg _ _ _ _ _ _ _ _ (by decide), hosc]
    · rw [State.rd_unitEvent _ _ (by decide), State.rd_flag_reg _ _ _ _ _ _ _ _ (by decide), State.rd_wr_same _ _ _ _ _ (by decide)]
      rfl
    · rw [State.rd_unitEvent _ _ (by decide)]
      exact State.rd_flag_one _ _ _ _ rfl (by decide)
    · rw [State.rd_unitEvent _ _ (by decide), State.rd_flag_apart _ _ _ _ _ _ _ _ (by decide) (by decide),
        State.rd_wr_reg _ _ _ _ _ _ _ _ (by decide), hbusy]
  case cal =>
    intro s t n cnt h0 ht hu
    have hu' : (s.start t).unitOn n = true := hu
    refine ⟨(s.start t).oscCal n cnt, congrArg Host.Outcome.next (if_pos ?_), State.clkCal_oscCal .., State.oscCal_inRange _ _,
      State.oscCal_outOfRange _ _⟩
    rw [hu', Bool.and_true, Bool.and_eq_true]
    exact ⟨decide_eq_true h0, Nat.ble_eq_true_of_le ht⟩
  case good =>
    intro s t n hu
    have hu' : (s.start t).unitOn n = true := hu
    refine ⟨_, congrArg Host.Outcome.next (if_pos hu'), ?_⟩
    simp (disch := decide) only [State.rd_wr_apart, State.rd_wr_reg, State.rd_wr_same]
    omega
  case switch =>
    intro s t n hb h2
    have hsel : (s.start t).vn .muxSel n = s.vn .muxSel n := rfl
    refine ⟨_, exec_muxSwitchComplete hb t, ?_, ?_, ?_, ?_⟩
    · rw [State.rd_when_keeps fun _ => ((State.rd_setV ..).trans (State.rd_setV ..)), State.rd_muxDone _ _ rfl,
        State.rd_wr_apart _ _ _ _ _ _ _ _ (by decide) (by decide), State.rd_wr_same _ _ _ _ _ (by decide)]
      rfl
    · rw [State.rd_when_keeps fun _ => ((State.rd_setV ..).trans (State.rd_setV ..)), State.rd_muxDone _ _ rfl,
        State.rd_wr_same _ _ _ _ _ (by decide), hsel]
      exact Nat.mod_eq_of_lt h2
    · intro h0
      rw [State.v_when_keeps fun _ => ((State.v_setV_var _ _ _ _ _ _ _ _ (by decide)).trans (State.v_setV_var _ _ _ _ _ _ _ _ (by decide))),
        State.v_muxDone _ _ (by decide) (by decide), State.when, if_pos (by rw [hsel]; exact decide_eq_true h0), State.v_setV_same]
    · intro hr
      have hret : ((s.start t).muxDone n).v .clkRet n = 1 := by
        rw [State.v_muxDone _ _ (by decide) (by decide), State.v_when_keeps fun _ => State.v_setV_var _ _ _ _ _ _ _ _ (by decide), State.v_start, hr]
      rw [State.when, if_pos (decide_eq_true hret), State.v_setV_same, State.time_muxDone]
      rfl

end Sys2Proof.Machine

/-!
PROOFS. The trip classes, the UV hold, the power brake and the latches (12 R364 to R377).
-/
namespace Sys2Proof.Machine

section
variable {s : State} {r : Nat}

/-! ### A class that fires -/

/-- A class of a rail that counts and is not latched for that rail fires, and is latched (12 R364). -/
theorem State.latch_railTrip {cls : Nat} {f : Fld} {c : Bool} (hp : Pkg.verify < s.pkg) (hr : (s.rail? r).isSome = true)
    (hb : bitOf (s.rd f) r = false) (hc : c = true) (h0 : 0 < cls) (h64 : cls ≤ 64) :
    (s.railTrip cls r f c).rd ⟨.CRUST_LATCH, cls - 1, 1⟩ = 1 := by
  rw [State.railTrip, if_pos (by simp [hr, hb, hc])]
  exact (State.rd_congr (f := ⟨.CRUST_LATCH, cls - 1, 1⟩) (State.reg_pkgRun (ra := .CRUST_LATCH) (by decide))).trans (State.latch_trip hp h64 h0 [r])

/-- A class of no rail fires unless it is latched; it is latched after it (12 R364). -/
theorem State.latch_unless {cls : Nat} (hp : Pkg.verify < s.pkg) (h0 : 0 < cls) (h64 : cls ≤ 64) :
    (if s.is ⟨.CRUST_LATCH, cls - 1, 1⟩ then s else s.trip cls []).rd ⟨.CRUST_LATCH, cls - 1, 1⟩ = 1 := by
  split
  · next h => exact Nat.eq_of_beq_eq_true h
  · exact State.latch_trip hp h64 h0 []

/-- A flag of a register other than HUB_PKG_STATE leaves the package state. -/
theorem State.pkg_flag {f : Fld} (hf : Reg.HUB_PKG_STATE ≠ f.r) (i : Nat) : (s.flag f i).pkg = s.pkg :=
  State.pkg_congr (State.reg_flag_reg hf ..)

/-! ### A rail that is halted -/

/-- A rail that loses its reference enters the state that is named. -/
theorem State.railSt_railDown (s : State) (r : Nat) {st : Nat} (h : st < 2 ^ F.RAIL_STATE_STATE.w) : (s.railDown r st).railSt r = st := by
  unfold State.railDown
  extract_lets aborted entered out unref fresh idle
  have hph (u : State) : (u.phShow r).rd F.RAIL_STATE_STATE r = u.rd F.RAIL_STATE_STATE r := by
    simp (disch := decide) only [State.phShow, State.rd_wr_apart, State.rd_wr_reg]
  calc (((idle.refForm r).phShow r).gridCheck r).rd F.RAIL_STATE_STATE r
    _ = out.rd F.RAIL_STATE_STATE r := by
      simp (disch := decide) only [State.rd_gridCheck, hph, State.rd_refForm, idle, fresh, unref, State.rd_setV, State.rd_wr_reg]
    _ = entered.rd F.RAIL_STATE_STATE r := State.rd_each _ _ _ _ _ _ fun u p _ => by
      simp (disch := decide) only [State.rd_ite, State.rd_setV, State.rd_phOut, ite_self]
    _ = (aborted.railTo r st).rd F.RAIL_STATE_STATE r := State.rd_shedIdle _ (by decide)
    _ = st := by
      rw [State.rd_congr (State.reg_railTo_state ..), State.rd_wr_apart _ _ _ _ _ _ _ _ (by decide) (by decide),
        State.rd_congr (State.reg_pgSet_state ..), State.rd_wr_apart _ _ _ _ _ _ _ _ (by decide) (by decide)]
      exact State.rd_wr_fits _ _ _ _ (by decide) h

/-- A controlled rail that is ON halts (10 R323). -/
theorem State.railSt_haltReq (hst : s.railSt r = Rs.on) (hm : s.monitored r = false) : (s.haltReq r).railSt r = Rs.halt := by
  unfold State.haltReq
  extract_lets st u
  rw [if_neg (by simp [st, hst, hm, Rs.on, Rs.halt, Rs.monitor])]
  calc ((u.event 0x39 r).railFrame r 6).rd F.RAIL_STATE_STATE r
    _ = u.rd F.RAIL_STATE_STATE r := by simp (disch := decide) only [State.rd_railFrame, State.rd_event]
    _ = (s.railDown r Rs.halt).rd F.RAIL_STATE_STATE r := State.rd_flag_apart _ _ _ _ _ _ _ _ (by decide) (by decide)
    _ = Rs.halt := s.railSt_railDown r (by decide)

/-- UV_HALT_EXPIRY of a rail that still counts (12 R373). -/
theorem exec_uvHaltExpiry (h0 : 0 ≤ s.v .uvEnd r) (h2 : 2 * s.v .uvEnd r ≤ s.v .rlTick r) (hc : 0 < s.vn .uvCnt r) (hst : s.railSt r = Rs.on)
    (t : Nat) : exec (.uvHaltExpiry t r) s =
      .next (((((s.start t).setV .uvEnd (-1) r).haltReq r).flag F.CRUST_STATUS_UV_HALTED).pkgRun) := by
  refine congrArg Host.Outcome.next ((if_pos ?_).trans (if_pos ?_))
  · simp only [State.v_start, h0, h2, decide_true, Bool.and_self]
  · have hc' : Nat.blt 0 ((s.start t).vn .uvCnt r) = true := Nat.ble_eq_true_of_le hc
    rw [hc', State.railSt_start, hst]
    rfl

/-! ### Clearing -/

/-- COOLANT_OK is no part of a clear condition. -/
theorem State.classClear_coolant (s : State) (pins : Pins) (v k : Nat) :
    (s.wr F.CRUST_STATUS_COOLANT_OK v).classClear pins k = s.classClear pins k := by
  have hocc (r : Nat) : (s.wr F.CRUST_STATUS_COOLANT_OK v).ocClear r = s.ocClear r := by
    simp (disch := decide) only [State.ocClear, State.is, State.rd_wr_reg]
    rfl
  have hv (x : Var) (r : Nat) : (s.wr F.CRUST_STATUS_COOLANT_OK v).vClear r x = s.vClear r x := by
    simp (disch := decide) only [State.vClear, State.railSt, State.rd_wr_reg, State.v_wr]
    rfl
  unfold State.classClear
  split
  · simp (disch := decide) only [hocc, State.rd_wr_reg]
  · simp (disch := decide) only [hv, State.rd_wr_reg]
  · simp (disch := decide) only [hv, State.rd_wr_reg]
  · simp (disch := decide) only [State.thermClear, State.is, State.rd_wr_reg, State.v_wr]
    rfl
  · rfl
  · simp (disch := decide) only [State.clockClear, State.is, State.rd_wr_reg, State.v_wr]
    rfl
  · simp (disch := decide) only [State.is, State.rd_wr_apart]

/-- A run that clears bits of CRUST_LATCH clears those of its list. -/
theorem State.latch_each_clear (s : State) (l : List Nat) (k : Nat) (hl : ∀ x ∈ l, x < 64) :
    getBits ((s.each l fun s k => s.setReg .CRUST_LATCH (setBits (s.reg .CRUST_LATCH) k 1 0)).reg .CRUST_LATCH) k 1 =
      if k ∈ l then 0 else getBits (s.reg .CRUST_LATCH) k 1 := by
  have hstep (u : State) (x : Nat) (hx : x ∈ l) : getBits ((u.setReg .CRUST_LATCH (setBits (u.reg .CRUST_LATCH) x 1 0)).reg .CRUST_LATCH) k 1 =
      if k = x then 0 else getBits (u.reg .CRUST_LATCH) k 1 := by
    rw [State.reg_setReg_same]
    have h64 := hl x hx
    split
    · next h => rw [h, getBits_setBits_same _ _ _ _ (by omega), Nat.zero_mod]
    · exact getBits_setBits_ne _ _ _ _ _ _ (by omega) (by omega)
  split
  · next h =>
    refine State.each_sets (P := fun u => getBits (u.reg .CRUST_LATCH) k 1 = 0) h (fun u => ?_) fun u y hy hu => ?_
    · rw [hstep u k h, if_pos rfl]
    · rw [hstep u y hy, hu, ite_self]
  · next h =>
    refine State.each_keeps (P := fun u => getBits (u.reg .CRUST_LATCH) k 1 = getBits (s.reg .CRUST_LATCH) k 1) rfl fun u y hy hu => ?_
    rw [hstep u y hy, if_neg (fun e : k = y => h (e ▸ hy)), hu]

/-- A write of CRUST_LATCH clears exactly the written classes whose clear condition holds (12 R377). -/
theorem State.latch_latchClear (s : State) (pins : Pins) (w : Nat) {k : Nat} (hk : k < 7) :
    getBits ((s.latchClear pins w).reg .CRUST_LATCH) k 1 =
      if bitOf (clearBits w (s.justSet .CRUST_LATCH)) k && s.classClear pins k then 0 else getBits (s.reg .CRUST_LATCH) k 1 := by
  unfold State.latchClear
  extract_lets before u m go
  have hm : m = clearBits w (s.justSet .CRUST_LATCH) := by
    simp only [m, u, State.when]
    split
    · rfl
    · rfl
  have hclear : u.classClear pins k = s.classClear pins k := by
    simp only [u, State.when]
    split
    · exact s.classClear_coolant pins 1 k
    · rfl
  have hreg : u.reg .CRUST_LATCH = s.reg .CRUST_LATCH := State.reg_when_keeps fun _ => State.reg_wr_reg _ _ _ _ _ _ _ _ (by decide)
  rw [State.reg_alertRise _ (by decide), State.latch_each_clear _ _ _ fun x hx => ?_, hreg]
  · refine if_congr ?_ rfl rfl
    rw [← hm, ← hclear]
    simp [go, hk]
  · have := List.mem_range.mp (List.mem_of_mem_filter hx)
    omega

end

/-! ### The obligation -/

/-- Settles O41: a trip latches its class, and what follows a trip leaves CRUST_LATCH. -/
theorem tripsBrakeAndLatches : Obligations.TripsBrakeAndLatches := by
  refine ⟨?abs, ?oc, ?ov, ?uv, ?coolant, ?halt, ?brake, ?release, ?leaf, ?clear⟩
  case abs =>
    intro s t n d hp hd hn hs
    have hd' : (s.start t).bodyOwner n = some d := hd
    have hc : (decide (n < 0x8000) && (decide (d = hubDom) || (s.start t).supplied d)) = true := by
      rw [Bool.and_eq_true, Bool.or_eq_true]
      exact ⟨decide_eq_true hn, hs.imp decide_eq_true id⟩
    refine ⟨((s.start t).flag F.TS_STAT_ABS_SEEN n).thermalTrip, congrArg Host.Outcome.next ?_, ?_⟩
    · simp only [hd', hc, if_true]
    · exact State.latch_unless (cls := 4) ((State.pkg_flag (f := F.TS_STAT_ABS_SEEN) (by decide) n).symm ▸ hp) (by decide) (by decide)
  case oc =>
    intro s t r hp hr hm hb hc
    refine ⟨_, rfl, State.latch_railTrip (cls := 1) (s := s.start t) hp hr hb ?_ (by decide) (by decide)⟩
    have hm' : (s.start t).monitored r = false := hm
    have hc' : Nat.ble ((s.start t).par Sec.timing 0x0011 r 2 1 4) ((s.start t).vn .ocCnt r) = true := Nat.ble_eq_true_of_le hc
    rw [hm', hc', Bool.or_true]
    rfl
  case ov =>
    intro s t r hp hr hb hc
    exact ⟨_, rfl, State.latch_railTrip (cls := 2) (s := s.start t) hp hr hb (Nat.ble_eq_true_of_le hc) (by decide) (by decide)⟩
  case uv =>
    intro s t r hp hr hb hc
    exact ⟨_, rfl, State.latch_railTrip (cls := 3) (s := s.start t) hp hr hb (Nat.ble_eq_true_of_le hc) (by decide) (by decide)⟩
  case coolant =>
    intro s t hp
    refine ⟨_, rfl, State.latch_unless (cls := 5) (s := (s.start t).wr F.CRUST_STATUS_COOLANT_OK 0) ?_ (by decide) (by decide)⟩
    exact (State.pkg_congr (State.reg_wr_reg (s.start t) F.CRUST_STATUS_COOLANT_OK 0 0 0 _ _ _ (by decide))).symm ▸ hp
  case halt =>
    intro s t r hp hd h0 h2 hc hst hm
    refine ⟨_, exec_uvHaltExpiry h0 h2 hc hst t, ?_⟩
    have hpkg : ((((s.start t).setV .uvEnd (-1) r).haltReq r).flag F.CRUST_STATUS_UV_HALTED).pkg = s.pkg :=
      State.pkg_congr ((State.reg_flag_reg (by decide) ..).trans ((State.reg_haltReq _ (by decide)).trans (State.reg_setV ..)))
    have hdown : ((((s.start t).setV .uvEnd (-1) r).haltReq r).flag F.CRUST_STATUS_UV_HALTED).v .downFor = s.v .downFor :=
      (State.v_haltReq _ (by decide)).trans (State.v_setV_var _ _ _ _ _ _ _ _ (by decide))
    rw [State.pkgRun, State.rampRun_of_not_ramp (hpkg ▸ hp), State.downRun_of_none (hdown.trans hd)]
    refine ⟨?_, ?_, ?_⟩
    · rw [State.railSt, State.rd_islPlanRun (by decide), State.rd_flag_reg _ _ _ _ _ _ _ _ (by decide)]
      exact State.railSt_haltReq (s := (s.start t).setV .uvEnd (-1) r) hst hm
    · rw [State.rd_islPlanRun (by decide)]
      exact State.rd_flag_one _ _ _ _ rfl (by decide)
    · rw [State.v_islPlanRun (by decide), State.v_flag, State.v_haltReq _ (by decide), State.v_setV_same]
  case brake =>
    intro s t hp hb
    have hp' : ((s.start t).wr F.CRUST_STATUS_PWR_BRAKE_N 0).pkg ≠ Pkg.off :=
      (State.pkg_congr (State.reg_wr_reg _ _ _ _ _ _ _ _ (by decide))).trans_ne hp
    have hb' : ((s.start t).wr F.CRUST_STATUS_PWR_BRAKE_N 0).is F.CRUST_STATUS_BRAKE_ACTIVE = false :=
      (congrArg (Nat.beq · 1) (State.rd_wr_apart _ _ _ _ _ _ _ _ (by decide) (by decide))).trans hb
    refine ⟨_, congrArg Host.Outcome.next (if_neg (by rw [hb', decide_eq_false hp']; decide)), ?_, ?_, ?_⟩
    · rw [State.rd_alertRise _ (by decide), State.rd_event _ _ (by decide), State.rd_brakeSend _ (by decide),
        State.rd_flag_reg _ _ _ _ _ _ _ _ (by decide), State.rd_wr_same _ _ _ _ _ (by decide)]
      rfl
    · rw [State.rd_alertRise _ (by decide), State.rd_event _ _ (by decide), State.rd_brakeSend _ (by decide)]
      exact State.rd_flag_one _ _ _ _ rfl (by decide)
    · rw [State.rd_alertRise _ (by decide), State.rd_event _ _ (by decide), State.rd_brakeSend _ (by decide),
        State.rd_flag_reg _ _ _ _ _ _ _ _ (by decide), State.rd_wr_apart _ _ _ _ _ _ _ _ (by decide) (by decide),
        State.rd_wr_same _ _ _ _ _ (by decide)]
      rfl
  case release =>
    intro s t hb
    have hb' : ((s.start t).wr F.CRUST_STATUS_PWR_BRAKE_N 1).is F.CRUST_STATUS_BRAKE_ACTIVE = true :=
      (congrArg (Nat.beq · 1) (State.rd_wr_apart _ _ _ _ _ _ _ _ (by decide) (by decide))).trans hb
    refine ⟨_, congrArg Host.Outcome.next (if_pos hb'), ?_, ?_⟩
    · rw [State.rd_brakeSend _ (by decide), State.rd_wr_same _ _ _ _ _ (by decide)]
      rfl
    · rw [State.rd_brakeSend _ (by decide), State.rd_wr_apart _ _ _ _ _ _ _ _ (by decide) (by decide), State.rd_wr_same _ _ _ _ _ (by decide)]
      rfl
  case leaf =>
    intro s t l w hl hh
    have hl' : (s.start t).leaves.contains l = true := hl
    refine ⟨_, congrArg Host.Outcome.next (if_pos (by rw [hl', State.v_start, hh]; rfl)), ?_⟩
    exact (State.reg_leafEff _ (by decide)).trans (State.reg_setReg_same ..)
  case clear =>
    intro s t w p pins hp
    refine answers_command hp rfl (v := (s.start t).latchClear pins w) rfl fun k hk => ?_
    rw [State.reg_answer _ _ _ _ _ (by decide)]
    exact (s.start t).latch_latchClear pins w hk

end Sys2Proof.Machine

/-!
PROOFS. The scrub and the background passes (12 R382, R383; 01 R48 to R51).
-/
namespace Sys2Proof.Machine

section
variable {s : State}

/-- The state in which a step of the scrub reads its word: a pass is open, and in AON and VERIFY the pointer is in the image store. -/
def State.scrubReady (s : State) : State :=
  let s := s.when (!s.bgOpen 0) fun s => s.bgStart 0
  s.when ((s.pkg = Pkg.aon || s.pkg = Pkg.verify) && !Nat.beq (s.rd F.ECC_STATUS_STORE) 0) fun s =>
    (s.wr F.ECC_STATUS_POS 0).wr F.ECC_STATUS_STORE 0

theorem exec_scrubStep (hu : s.hubUp = true) {t : Nat} (ho : (s.bgOpen 0 || (s.start t).bgDue 0) = true) (err : Nat) :
    exec (.scrubStep t (.scrub err)) s = .next ((s.start t).scrubReady.scrubNext.wordRead ((s.start t).scrubReady.rd F.ECC_STATUS_STORE)
      ((s.start t).scrubReady.rd F.ECC_STATUS_POS) err) := by
  have hu' : (s.start t).hubUp = true := hu
  have ho' : ((s.start t).bgOpen 0 || (s.start t).bgDue 0) = true := ho
  exact congrArg Host.Outcome.next (if_neg (by rw [hu', ho']; decide))

/-- Outside AON and VERIFY the pointer stands where it stood. -/
theorem State.reg_scrubReady (h1 : s.pkg ≠ Pkg.aon) (h2 : s.pkg ≠ Pkg.verify) (r : Reg) (i j : Nat) : s.scrubReady.reg r i j = s.reg r i j := by
  have hw : (s.when (!s.bgOpen 0) fun s => s.bgStart 0).reg r i j = s.reg r i j := State.reg_when_keeps fun u => rfl
  have hp : (s.when (!s.bgOpen 0) fun s => s.bgStart 0).pkg = s.pkg := State.pkg_congr (State.reg_when_keeps fun u => rfl)
  unfold State.scrubReady
  dsimp only
  rw [State.when, if_neg (by simp [hp, h1, h2]), hw]

/-- In AON the pointer is in the image store before a step. -/
theorem State.store_scrubReady (h : s.pkg = Pkg.aon) : s.scrubReady.pkg = Pkg.aon ∧ s.scrubReady.rd F.ECC_STATUS_STORE = 0 := by
  have hp : (s.when (!s.bgOpen 0) fun s => s.bgStart 0).pkg = s.pkg := State.pkg_congr (State.reg_when_keeps fun u => rfl)
  unfold State.scrubReady
  dsimp only
  generalize (s.when (!s.bgOpen 0) fun s => s.bgStart 0) = u at hp ⊢
  rw [h] at hp
  by_cases hs : u.rd F.ECC_STATUS_STORE = 0
  · rw [State.when, if_neg (by simp [hs])]
    exact ⟨hp, hs⟩
  · rw [State.when, if_pos (by rw [hp, Bool.eq_false_iff.mpr fun e => hs (Nat.eq_of_beq_eq_true e)]; decide)]
    refine ⟨(State.pkg_congr ?_).trans hp, State.rd_wr_same _ _ _ _ _ (by decide)⟩
    exact (State.reg_wr_reg _ _ _ _ _ _ _ _ (by decide)).trans (State.reg_wr_reg _ _ _ _ _ _ _ _ (by decide))

/-- A step inside a store. -/
theorem State.scrubNext_inside (h : s.rd F.ECC_STATUS_POS + 1 < storeWords (s.rd F.ECC_STATUS_STORE)) :
    s.scrubNext = s.wr F.ECC_STATUS_POS (s.rd F.ECC_STATUS_POS + 1) := by
  unfold State.scrubNext
  dsimp only
  rw [if_pos (by simpa using h)]

/-- A step after the last word of a store. -/
theorem State.reg_scrubNext_last (h : ¬ s.rd F.ECC_STATUS_POS + 1 < storeWords (s.rd F.ECC_STATUS_STORE)) (i j : Nat) :
    s.scrubNext.reg .ECC_STATUS i j = ((s.wr F.ECC_STATUS_POS 0).wr F.ECC_STATUS_STORE
      (if s.pkg = Pkg.aon || s.pkg = Pkg.verify then 0 else (s.rd F.ECC_STATUS_STORE + 1) % 4)).reg .ECC_STATUS i j := by
  unfold State.scrubNext
  dsimp only
  rw [if_neg (by simpa using h), State.reg_ite, State.reg_bgEnd _ (by decide), ite_self]

theorem storeWords_le (k : Nat) : storeWords k ≤ 131072 := by
  obtain h | h | h | h | h : k = 0 ∨ k = 1 ∨ k = 2 ∨ k = 3 ∨ 4 ≤ k := by omega
  · subst h; decide
  · subst h; decide
  · subst h; decide
  · subst h; decide
  · rw [storeWords, List.getD_eq_default _ _ h]
    decide

/-- A counter of corrected errors that is not at its end counts. -/
theorem State.corr_incSat {k : Nat} (h : s.rd F.ECC_COUNT_CORR k < 0xFFFFFFFF) :
    (s.incSat F.ECC_COUNT_CORR 1 k).rd F.ECC_COUNT_CORR k = s.rd F.ECC_COUNT_CORR k + 1 := by
  rw [State.rd_incSat_same _ _ _ _ _ (by decide)]
  exact Nat.min_eq_right h

end

/-! ### The obligation -/

/-- Settles O21: by where a step finds and leaves the pointer, inside a store and after its last word. -/
theorem scrubAndBackgroundPasses : Obligations.ScrubAndBackgroundPasses := by
  refine ⟨?step, ?corrected, ?fore, ?aon, ?late⟩
  case step =>
    intro s t hu ha hv ho
    have hr (f : Fld) : (s.start t).scrubReady.rd f = s.rd f := State.rd_congr (State.reg_scrubReady (s := s.start t) ha hv f.r 0 0)
    have hpkg : (s.start t).scrubReady.pkg = s.pkg := hr F.HUB_PKG_STATE_STATE
    refine ⟨_, exec_scrubStep hu ho 0, ?_⟩
    change if _ then (State.scrubNext _).rd _ = _ ∧ (State.scrubNext _).rd _ = _ else (State.scrubNext _).rd _ = _ ∧ (State.scrubNext _).rd _ = _
    split
    · next h =>
      have hlt := h.trans_le (storeWords_le _)
      rw [State.scrubNext_inside (by rw [hr, hr]; exact h), hr]
      refine ⟨State.rd_wr_fits _ _ _ _ (by decide) (by exact hlt.trans_le (by decide)), ?_⟩
      rw [State.rd_wr_apart _ _ _ _ _ _ _ _ (by decide) (by decide), hr]
    · next h =>
      have hn := State.reg_scrubNext_last (s := (s.start t).scrubReady) (by rw [hr, hr]; exact h) 0 0
      rw [if_neg (by simp [hpkg, ha, hv]), hr] at hn
      constructor
      · rw [State.rd_congr (f := F.ECC_STATUS_POS) hn, State.rd_wr_apart _ _ _ _ _ _ _ _ (by decide) (by decide),
          State.rd_wr_same _ _ _ _ _ (by decide)]
        rfl
      · rw [State.rd_congr (f := F.ECC_STATUS_STORE) hn]
        exact State.rd_wr_fits _ _ _ _ (by decide) ((Nat.mod_lt _ (by decide)).trans_le (by decide))
  case corrected =>
    intro s t hu ha hv hc ho
    have hr (f : Fld) (i : Nat) : (s.start t).scrubReady.rd f i = s.rd f i := State.rd_congr (State.reg_scrubReady (s := s.start t) ha hv f.r i 0)
    have hn (i : Nat) : (s.start t).scrubReady.scrubNext.rd F.ECC_COUNT_CORR i = s.rd F.ECC_COUNT_CORR i :=
      (State.rd_scrubNext (by decide)).trans (hr ..)
    refine ⟨_, exec_scrubStep hu ho 1, ?_⟩
    rw [hr]
    exact (State.corr_incSat (by rw [hn]; exact hc)).trans (congrArg (· + 1) (hn _))
  case fore =>
    intro s t k n hu hk hn hc
    have hu' : (s.start t).hubUp = true := hu
    refine ⟨_, congrArg Host.Outcome.next (if_pos ?_), State.corr_incSat (s := s.start t) hc, ?_⟩
    · simp [hu', hk, hn]
    · exact (((Does.refl _ s).start t).incSat (by decide) _ _ _).within (Foot.le_refl _)
  case aon =>
    intro s t hu ha ho
    obtain ⟨hp, h0⟩ := State.store_scrubReady (s := s.start t) ha
    refine ⟨_, exec_scrubStep hu ho 0, ?_⟩
    change (State.scrubNext _).rd F.ECC_STATUS_STORE = 0
    by_cases h : (s.start t).scrubReady.rd F.ECC_STATUS_POS + 1 < storeWords ((s.start t).scrubReady.rd F.ECC_STATUS_STORE)
    · rw [State.scrubNext_inside h, State.rd_wr_apart _ _ _ _ _ _ _ _ (by decide) (by decide), h0]
    · rw [State.rd_congr (f := F.ECC_STATUS_STORE) (State.reg_scrubNext_last h ..), if_pos (by simp [hp]), State.rd_wr_same _ _ _ _ _ (by decide)]
      rfl
  case late =>
    intro s t act start hu hr hs hl ht
    have hu' : (s.start t).hubUp = true := hu
    have hr' : (s.start t).bgRuns act = true := hr
    refine ⟨_, congrArg Host.Outcome.next (if_pos ?_), rfl⟩
    rw [hu', hr', decide_eq_true hs, State.v_start, hl]
    exact Nat.ble_eq_true_of_le ht

end Sys2Proof.Machine

/-!
PROOFS. What the sending of gathered messages leaves of a link port that is not UP (08 R244, R246; 15 R448, R452).
-/
namespace Sys2Proof.Machine

/-! ### What every item that is sent keeps -/

theorem State.syncDrain_keeps {P : State → Prop} (hc : ∀ u y, P u → P { u with sync := y }) (hs : ∀ u x, P u → P (u.syncSend x)) :
    ∀ (k : Nat) {s : State}, P s → P (s.syncDrain k)
  | 0, _, h => h
  | k + 1, s, h => by
    cases hl : s.sync.cur with
    | nil => rwa [State.syncDrain_nil hl]
    | cons x r =>
      rw [State.syncDrain_cons hl]
      exact State.syncDrain_keeps hc hs k (hs _ _ (hc _ _ h))

theorem State.syncFlush_keeps {P : State → Prop} (hc : ∀ u y, P u → P { u with sync := y }) (hs : ∀ u x, P u → P (u.syncSend x)) {s : State}
    (h : P s) : P s.syncFlush := by
  unfold State.syncFlush
  split
  · exact h
  · split
    · exact hc _ _ h
    · exact State.syncDrain_keeps hc hs _ h

/-- With nothing gathered nothing is sent. -/
theorem State.syncFlush_nil {s : State} (h : s.sync.cur = []) : s.syncFlush = s := by
  unfold State.syncFlush
  rw [if_pos (List.isEmpty_iff.mpr h)]

theorem State.portUp_of {s : State} {n : Nat} (h : s.portSt n = Lk.up) : s.portUp n = true := by
  simp [State.portUp, h]

/-- No frame leaves a port that is not UP. -/
theorem State.frameOut_of_not_up {s : State} {n : Nat} (h : s.portSt n ≠ Lk.up) (typ body : Nat) : s.frameOut n typ body = s := by
  unfold State.frameOut
  rw [if_pos (by rw [Bool.eq_false_iff.mpr fun e : s.portUp n = true => h (Nat.eq_of_beq_eq_true e)]; decide)]

/-- A frame of a port that is UP, whose SEQ is not used up. -/
theorem State.frameOut_of_up {s : State} {n : Nat} (h : s.portSt n = Lk.up) (hq : s.rd F.DXL_PORT_A_TX_SEQ n ≠ 0xFFFF_FFFF) (typ body : Nat) :
    s.frameOut n typ body = ((s.emit (.frame n typ body)).incWrap F.DXL_PORT_A_TX_SEQ 1 n).setV .txLast s.time n := by
  unfold State.frameOut
  rw [if_neg (by simp [State.portUp_of h]), if_neg hq]

/-- One frame that was gathered, on a port that is UP and whose SEQ is not used up, is sent and nothing else. -/
theorem State.syncDrain_frm {s : State} {n typ body : Nat} (hc : s.sync.cur = [.frm n typ body]) (h : s.portSt n = Lk.up)
    (hq : s.rd F.DXL_PORT_A_TX_SEQ n ≠ 0xFFFF_FFFF) (hx : s.v .txStop n = 0) (k : Nat) :
    s.syncDrain (k + 1) = (((s.setCur []).emit (.frame n typ body)).incWrap F.DXL_PORT_A_TX_SEQ 1 n).setV .txLast s.time n := by
  rw [State.syncDrain_cons hc]
  have hout := State.frameOut_of_up (s := s.setCur []) h hq typ body
  have hsend : (s.setCur []).syncSend (.frm n typ body)
      = (((s.setCur []).emit (.frame n typ body)).incWrap F.DXL_PORT_A_TX_SEQ 1 n).setV .txLast s.time n := by
    simp only [State.syncSend]
    rw [hout, if_neg]
    · rfl
    · rw [State.v_setV_var _ _ _ _ _ _ _ _ (by decide)]
      exact fun e => absurd (hx.symm.trans e) (by decide)
  rw [hsend, State.syncDrain_nil rfl]

/-- A port in DOWN stays as it is. -/
theorem State.portDown_of_down {s : State} {n : Nat} (h : s.portSt n = Lk.down) : s.portDown n = s := by
  unfold State.portDown
  dsimp only
  rw [if_pos h]

/-! ### A port that rests -/

/-- The state, the counts and the end of lease of a link port are as before, and whether its SEQ is used up. -/
structure PortRests (n : Nat) (s u : State) : Prop where
  link : u.reg .DXL_PORT_A n = s.reg .DXL_PORT_A n
  count : u.reg .DXL_PORT_B n = s.reg .DXL_PORT_B n
  record : u.reg .DXL_PORT_D n = s.reg .DXL_PORT_D n
  stop : u.v .txStop n = s.v .txStop n
  since : u.v .authAt n = s.v .authAt n

namespace PortRests

variable {n m : Nat} {s u w : State}

theorem refl (n : Nat) (s : State) : PortRests n s s := ⟨rfl, rfl, rfl, rfl, rfl⟩

theorem trans (h : PortRests n s u) (k : PortRests n u w) : PortRests n s w :=
  ⟨k.link.trans h.link, k.count.trans h.count, k.record.trans h.record, k.stop.trans h.stop, k.since.trans h.since⟩

theorem portSt (h : PortRests n s u) : u.portSt n = s.portSt n := State.rd_congr h.link

/-- Work whose scope holds nothing of the link's ports. -/
theorem of_does {G : Foot} (h : Does G s u) (ha : G.hasR .DXL_PORT_A = false) (hb : G.hasR .DXL_PORT_B = false)
    (hd : G.hasR .DXL_PORT_D = false) (hv : G.hasV .txStop = false) (hx : G.hasV .authAt = false) : PortRests n s u :=
  ⟨h.reg ha _ _, h.reg hb _ _, h.reg hd _ _, h.v hv _ _, h.v hx _ _⟩

theorem when {b : Bool} {f : State → State} (h : PortRests n s (f s)) : PortRests n s (s.when b f) := by
  unfold State.when
  split
  · exact h
  · exact refl n s

/-- A field of another port. -/
theorem wr (hm : n ≠ m) (f : Fld) (v : Nat) : PortRests n s (s.wr f v m) :=
  have h (r : Reg) : (s.wr f v m).reg r n = s.reg r n := s.reg_setReg_ne _ _ _ _ _ _ _ (by simp [hm])
  ⟨h _, h _, h _, rfl, rfl⟩

/-- A field of a register that is not a port's. -/
theorem wr_reg {f : Fld} (ha : Reg.DXL_PORT_A ≠ f.r) (hb : Reg.DXL_PORT_B ≠ f.r) (hd : Reg.DXL_PORT_D ≠ f.r) (v i j : Nat) :
    PortRests n s (s.wr f v i j) :=
  ⟨State.reg_wr_reg _ _ _ _ _ _ _ _ ha, State.reg_wr_reg _ _ _ _ _ _ _ _ hb, State.reg_wr_reg _ _ _ _ _ _ _ _ hd, rfl, rfl⟩

/-- A variable of another port. -/
theorem setV (hm : n ≠ m) (x : Var) (y : Int) : PortRests n s (s.setV x y m) :=
  ⟨rfl, rfl, rfl, State.v_setV_ne _ _ _ _ _ _ _ _ (by simp [hm]), State.v_setV_ne _ _ _ _ _ _ _ _ (by simp [hm])⟩

/-- A variable that is not of this scope. -/
theorem setV_var {x : Var} (hx : Var.txStop ≠ x) (ha : Var.authAt ≠ x) (y : Int) (i j : Nat) : PortRests n s (s.setV x y i j) :=
  ⟨rfl, rfl, rfl, State.v_setV_var _ _ _ _ _ _ _ _ hx, State.v_setV_var _ _ _ _ _ _ _ _ ha⟩

theorem emit (o : Out) : PortRests n s (s.emit o) := ⟨rfl, rfl, rfl, rfl, rfl⟩

theorem event (c k : Nat) : PortRests n s (s.event c k) :=
  of_does (Does.event (Does.refl _ s) (Foot.le_refl _) c k) (by decide) (by decide) (by decide) (by decide) (by decide)

/-- The state of another port is shown. -/
theorem portShow (hm : n ≠ m) (x : Nat) : PortRests n s (s.portShow m x) :=
  ((wr hm _ _).trans (wr_reg (by decide) (by decide) (by decide) _ _ _)).trans (wr_reg (by decide) (by decide) (by decide) _ _ _)

/-- A frame of another port. -/
theorem frameOut (hm : n ≠ m) (typ body : Nat) : PortRests n s (s.frameOut m typ body) := by
  unfold State.frameOut
  split
  · exact refl n s
  · split
    · exact setV hm _ _
    · exact ((emit _).trans (wr hm _ _)).trans (setV hm _ _)

/-- The lease of another port ends with its connection. -/
theorem leasePortDown (hm : n ≠ m) (failed : Bool) : PortRests n s (s.leasePortDown m failed) := by
  unfold State.leasePortDown
  split
  · exact refl n s
  · split
    · exact (setV hm _ _).trans (when (wr hm _ _))
    · exact of_does (Does.leaseEnd (Does.refl _ s) (Foot.le_refl _) _ _) (by decide) (by decide) (by decide) (by decide) (by decide)

/-- The correction of the system time ends with the connection to the parent. -/
theorem holdTime : PortRests n s ((((s.wrI F.DXL_TIME_SYS_OFS s.sysOfs).setV .tsRem 0).setV .tsFirst 1).setV .tsT1 0) :=
  (((wr_reg (by decide) (by decide) (by decide) _ _ _).trans (setV_var (by decide) (by decide) _ _ _)).trans
    (setV_var (by decide) (by decide) _ _ _)).trans (setV_var (by decide) (by decide) _ _ _)

/-- The breaks of spanning objects. -/
theorem spanBreakAll (tag : Nat → Bool) (reason : Nat) (skip : Option Nat) : PortRests n s (s.spanBreakAll tag reason skip) :=
  of_does (Does.spanBreakAll (Does.refl _ s) (Foot.le_refl _) _ _ _) (by decide) (by decide) (by decide) (by decide) (by decide)

/-- Another port leaves UP. -/
theorem portLeaves (hm : n ≠ m) (reason : Nat) (failed : Bool) : PortRests n s (s.portLeaves m reason failed) :=
  ((when (spanBreakAll _ _ _)).trans (leasePortDown hm failed)).trans
    (when (f := fun s => (((s.wrI F.DXL_TIME_SYS_OFS s.sysOfs).setV .tsRem 0).setV .tsFirst 1).setV .tsT1 0) holdTime)

/-- Another port goes to DOWN. -/
theorem portDown (hm : n ≠ m) : PortRests n s (s.portDown m) := by
  unfold State.portDown
  dsimp only
  split
  · exact refl n s
  · exact (((((portShow hm _).trans (wr hm _ _)).trans (setV hm _ _)).trans (setV hm _ _)).trans
      (when (portLeaves hm _ _))).trans (when (event _ _))

/-- A port that takes no part in what is sent: it is in DOWN, or it is not UP and its SEQ is not used up. -/
def Idle (n : Nat) (s : State) : Prop := s.portSt n = Lk.down ∨ (s.portSt n ≠ Lk.up ∧ s.v .txStop n ≠ 1)

theorem idle (h : PortRests n s u) (k : Idle n s) : Idle n u := by
  unfold Idle at k ⊢
  rwa [h.portSt, h.stop]

/-- What is sent leaves a port that takes no part in it. -/
theorem syncSend (h : Idle n s) (x : SyncOut) : PortRests n s (s.syncSend x) := by
  cases x with
  | rel c i g st sh =>
    exact of_does (Does.toHubChildren (Does.refl _ s) (Foot.le_refl _) _) (by decide) (by decide) (by decide) (by decide) (by decide)
  | dir c i g st l core wid wake =>
    simp only [State.syncSend]
    split
    · exact refl n s
    · next d _ =>
      have hd : PortRests n s (s.sendDown d Mt.syncMsg (dirPayload c i g st l core wid wake)).2 :=
        of_does (Does.sendDown (Does.refl _ s) (Foot.le_refl _) _ _ _) (by decide) (by decide) (by decide) (by decide) (by decide)
      split
      · exact hd
      · exact hd.trans (of_does (Does.syncAbsent (Does.refl _ _) (Foot.le_refl _) _) (by decide) (by decide) (by decide) (by decide) (by decide))
  | ans p addr st =>
    exact of_does (Does.answerD (Does.refl _ s) (Foot.le_refl _) _ _ _ _ _) (by decide) (by decide) (by decide) (by decide) (by decide)
  | fin o =>
    exact of_does (Does.riseSent (Does.refl _ s) (Foot.le_refl _) _) (by decide) (by decide) (by decide) (by decide) (by decide)
  | frm m typ body =>
    simp only [State.syncSend]
    by_cases hm : n = m
    · subst hm
      rcases h with h | ⟨hup, hstop⟩
      · rw [State.frameOut_of_not_up (by simp [h]), State.portDown_of_down h, ite_self]
        exact refl n s
      · rw [State.frameOut_of_not_up hup, if_neg hstop]
        exact refl n s
    · split
      · exact (frameOut hm _ _).trans (portDown hm)
      · exact frameOut hm _ _

theorem syncFlush (h : Idle n s) : PortRests n s s.syncFlush :=
  State.syncFlush_keeps (P := fun u => PortRests n s u) (fun _ _ k => k.trans ⟨rfl, rfl, rfl, rfl, rfl⟩)
    (fun _ x k => k.trans (syncSend (k.idle h) x)) (refl n s)

end PortRests

end Sys2Proof.Machine

/-!
PROOFS. The states of the link ports, their frames and their failures (15 R448 to R453, R467).
-/
namespace Sys2Proof.Machine

section
variable {s : State} {t n : Nat}

/-! ### The state of a port -/

theorem State.link_portShow (s : State) (n x i j : Nat) :
    (s.portShow n x).reg .DXL_PORT_A i j = (s.wr F.DXL_PORT_A_STATE x n).reg .DXL_PORT_A i j :=
  (State.reg_wr_reg _ _ _ _ _ _ _ _ (by decide)).trans (State.reg_wr_reg _ _ _ _ _ _ _ _ (by decide))

theorem State.portSt_portShow (s : State) (n : Nat) {x : Nat} (h : x < 2 ^ F.DXL_PORT_A_STATE.w) : (s.portShow n x).portSt n = x :=
  (State.rd_congr (State.link_portShow ..)).trans (State.rd_wr_fits _ _ _ _ (by decide) h)

/-- The other fields of the port stay. -/
theorem State.rd_portShow_apart (s : State) (n x i j : Nat) {f : Fld} (hr : f.r = .DXL_PORT_A)
    (h : f.lsb + f.w ≤ F.DXL_PORT_A_STATE.lsb ∨ F.DXL_PORT_A_STATE.lsb + F.DXL_PORT_A_STATE.w ≤ f.lsb) :
    (s.portShow n x).rd f i j = s.rd f i j :=
  (State.rd_congr (hr ▸ State.link_portShow ..)).trans (State.rd_wr_apart _ _ _ _ _ _ _ _ (by decide) h)

/-- A present port in DOWN whose LINK_UP is high and whose back-off has passed enters AUTH. -/
theorem State.tryAuth_enters {d : DxlConfig} {r : DxlPortRec} (hst : s.portSt n = Lk.down) (hd : s.dxl? = some d) (hr : d.ports[n]? = some r)
    (hp : r.present = true) (hl : s.is F.DXL_PORT_A_LINK_UP n = true) (hb : s.vn .authAt n ≤ s.time) :
    s.tryAuth n = (s.portShow n Lk.auth).wr F.DXL_PORT_A_REQUESTER (b2n (Nat.blt d.pkgId r.peerId)) n := by
  have hrec : s.portRec? n = some r := by simp [State.portRec?, hd, hr]
  have hpres : s.portPresent n = true := by simp [State.portPresent, hrec, hp]
  have hpeer : s.peerId n = r.peerId := by simp [State.peerId, hrec]
  unfold State.tryAuth
  rw [hst, hpres, hl, Nat.ble_eq_true_of_le hb, hd, hpeer, if_pos (by decide)]

theorem State.portSt_authPort (s : State) (n v : Nat) : ((s.portShow n Lk.auth).wr F.DXL_PORT_A_REQUESTER v n).portSt n = Lk.auth :=
  (State.rd_wr_apart _ _ _ _ _ _ _ _ (by decide) (by decide)).trans (State.portSt_portShow _ _ (by decide))

/-! ### A port goes to DOWN -/

/-- A port has gone to DOWN: the fall is counted once, and the back-off runs. -/
structure PortFell (n : Nat) (s u : State) : Prop where
  state : u.portSt n = Lk.down
  linkUp : u.rd F.DXL_PORT_A_LINK_UP n = s.rd F.DXL_PORT_A_LINK_UP n
  downs : u.rd F.DXL_PORT_B_DOWNS n = satAddN F.DXL_PORT_B_DOWNS.w (s.rd F.DXL_PORT_B_DOWNS n) 1
  macFail : u.rd F.DXL_PORT_B_MACFAIL n = s.rd F.DXL_PORT_B_MACFAIL n
  since : u.v .authAt n = (s.time + 1000000 * s.lnk 0x0033 2 100 : Nat)

/-- Later work that leaves the port leaves the fall. -/
theorem PortFell.rests {u w : State} (h : PortFell n s u) (k : PortRests n u w) : PortFell n s w :=
  ⟨k.portSt.trans h.state, (State.rd_congr k.link).trans h.linkUp, (State.rd_congr k.count).trans h.downs,
    (State.rd_congr k.count).trans h.macFail, k.since.trans h.since⟩

/-- The port's record as it falls. -/
def State.fallRecord (s : State) (n : Nat) : State :=
  let s := ((s.portShow n Lk.down).incSat F.DXL_PORT_B_DOWNS 1 n).setV .txStop 0 n
  s.setV .authAt (s.time + 1000000 * s.lnk 0x0033 2 100 : Nat) n

theorem portFell_fallRecord (s : State) (n : Nat) : PortFell n s (s.fallRecord n) := by
  have hcount : (s.portShow n Lk.down).reg .DXL_PORT_B n = s.reg .DXL_PORT_B n := State.reg_portShow _ _ (by decide)
  refine ⟨?_, ?_, ?_, ?_, State.v_setV_same _ _ _ _ _⟩
  · exact (State.rd_wr_reg _ _ _ _ _ _ _ _ (by decide)).trans (State.portSt_portShow _ _ (by decide))
  · exact (State.rd_wr_reg _ _ _ _ _ _ _ _ (by decide)).trans (State.rd_portShow_apart _ _ _ _ _ rfl (by decide))
  · refine (State.rd_incSat_same _ _ _ _ _ (by decide)).trans ?_
    rw [State.rd_congr (f := F.DXL_PORT_B_DOWNS) hcount]
    rfl
  · exact (State.rd_incSat_apart _ _ _ _ _ _ _ _ (by decide) (by decide)).trans (State.rd_congr hcount)

theorem portFell_portDown (h : s.portSt n ≠ Lk.down) : PortFell n s (s.portDown n) := by
  have hleave (u : State) : PortFell n s u → PortFell n s (u.portLeaves n Br.lost false) := fun k =>
    ⟨(State.rd_portLeaves _ _ _ (by decide)).trans k.state, (State.rd_portLeaves _ _ _ (by decide)).trans k.linkUp,
      (State.rd_portLeaves _ _ _ (by decide)).trans k.downs, (State.rd_portLeaves _ _ _ (by decide)).trans k.macFail,
      (State.v_portLeaves _ _ _ (by decide)).trans k.since⟩
  have hwhen {b : Bool} {f : State → State} {u : State} (hf : PortFell n s u → PortFell n s (f u)) (k : PortFell n s u) :
      PortFell n s (u.when b f) := by
    unfold State.when
    split
    · exact hf k
    · exact k
  unfold State.portDown
  dsimp only
  rw [if_neg h]
  exact hwhen (fun k => k.rests (PortRests.event _ _)) (hwhen (hleave _) (portFell_fallRecord s n))

/-- A port that goes to DOWN stays there while what is gathered is sent. -/
theorem portFell_flush (h : s.portSt n ≠ Lk.down) : PortFell n s (s.portDown n).syncFlush :=
  (portFell_portDown h).rests (PortRests.syncFlush (.inl (portFell_portDown h).state))

/-! ### A port enters UP -/

/-- A frame leaves the state of every port. -/
theorem State.portSt_frameOut (s : State) (m typ body n : Nat) : (s.frameOut m typ body).portSt n = s.portSt n := by
  unfold State.frameOut
  split
  · rfl
  · split
    · rfl
    · exact State.rd_wr_apart _ _ _ _ _ _ _ _ (by decide) (by decide)

theorem State.portSt_portToUp (s : State) (n : Nat) : (s.portToUp n).portSt n = Lk.up := by
  have hset (u : State) : ((u.setV .tsFirst 1).setV .tsT1 0).rd F.DXL_PORT_A_STATE n = u.rd F.DXL_PORT_A_STATE n := rfl
  have hsend (u : State) : (u.frameOut n Ft.failNotice (u.vn .failBody)).rd F.DXL_PORT_A_STATE n = u.rd F.DXL_PORT_A_STATE n :=
    State.portSt_frameOut u _ _ _ _
  refine (State.rd_when_keeps hset).trans ((State.rd_when_keeps hsend).trans ?_)
  exact (State.rd_event _ _ (by decide)).trans (State.portSt_portShow _ _ (by decide))

/-- Outside FAIL no notice is sent as a port enters UP, and its SEQ and key stay. -/
theorem State.link_portToUp (h : s.pkg ≠ Pkg.fail) (i j : Nat) :
    (s.portToUp n).reg .DXL_PORT_A i j = (s.wr F.DXL_PORT_A_STATE Lk.up n).reg .DXL_PORT_A i j := by
  have hp : ((s.portShow n Lk.up).event 0x60 n).pkg = s.pkg :=
    State.pkg_congr ((State.reg_event _ _ (by decide)).trans (State.reg_portShow _ _ (by decide)))
  have hset (u : State) : ((u.setV .tsFirst 1).setV .tsT1 0).reg .DXL_PORT_A i j = u.reg .DXL_PORT_A i j := rfl
  refine (State.reg_when_keeps hset).trans ?_
  rw [hp, State.when, if_neg (by simpa using h)]
  exact (State.reg_event _ _ (by decide)).trans (State.link_portShow ..)

/-! ### A frame that its port takes, and one that it refuses -/

/-- The state in which a frame that its port takes has its effect. -/
def State.frameTaken (s : State) (h : FrameHdr) : State :=
  ((s.setV .rxSeq ((h.seq + 1) % 2 ^ 32 : Nat) h.port h.keyid).setV .rxLast s.time h.port).when
    (h.keyid = s.rd F.DXL_PORT_A_KEYID h.port) fun s => s.setV .rxKeyNew 1 h.port

theorem State.frameIn_taken {h : FrameHdr} (k : LinkOk s h) (t : Nat) (f : State → State) :
    (s.start t).frameIn h f = (f ((s.start t).frameTaken h)).syncFlush := State.frameIn_takes k t f

theorem State.reg_frameTaken (s : State) (h : FrameHdr) (r : Reg) (i j : Nat) : (s.frameTaken h).reg r i j = s.reg r i j :=
  State.reg_when_keeps fun _ => rfl

theorem State.portSt_frameTaken (s : State) (h : FrameHdr) (n : Nat) : (s.frameTaken h).portSt n = s.portSt n :=
  State.rd_congr (State.reg_frameTaken ..)

theorem State.v_frameTaken (s : State) (h : FrameHdr) {x : Var} (hx : x ≠ .rxSeq) (hl : x ≠ .rxLast) (hk : x ≠ .rxKeyNew) (i j : Nat) :
    (s.frameTaken h).v x i j = s.v x i j :=
  (State.v_when_keeps fun _ => State.v_setV_var _ _ _ _ _ _ _ _ hk).trans
    ((State.v_setV_var _ _ _ _ _ _ _ _ hl).trans (State.v_setV_var _ _ _ _ _ _ _ _ hx))

theorem State.rxSeq_frameTaken (s : State) (h : FrameHdr) : (s.frameTaken h).v .rxSeq h.port h.keyid = ((h.seq + 1) % 2 ^ 32 : Nat) :=
  (State.v_when_keeps fun _ => State.v_setV_var _ _ _ _ _ _ _ _ (by decide)).trans
    ((State.v_setV_var _ _ _ _ _ _ _ _ (by decide)).trans (State.v_setV_same ..))

theorem State.rxLast_frameTaken (s : State) (h : FrameHdr) : (s.frameTaken h).v .rxLast h.port = (s.time : Nat) :=
  (State.v_when_keeps fun _ => State.v_setV_var _ _ _ _ _ _ _ _ (by decide)).trans (State.v_setV_same ..)

theorem State.sync_frameTaken (s : State) (h : FrameHdr) : (s.frameTaken h).sync = s.sync := by
  unfold State.frameTaken State.when
  split <;> rfl

/-- A frame whose effect gathers nothing: nothing more is sent. -/
theorem State.frameIn_quiet {h : FrameHdr} (k : LinkOk s h) (hc : s.sync.cur = []) (t : Nat) {f : State → State}
    (hf : (f ((s.start t).frameTaken h)).sync.cur = ((s.start t).frameTaken h).sync.cur) :
    (s.start t).frameIn h f = f ((s.start t).frameTaken h) := by
  rw [State.frameIn_taken k, State.syncFlush_nil]
  rw [hf, State.sync_frameTaken]
  exact hc

/-- A frame that its port does not take (15 R449). -/
theorem State.frameIn_refused {h : FrameHdr} (k : ¬ LinkOk s h) (t : Nat) (f : State → State) :
    (s.start t).frameIn h f =
      ((((s.start t).incSat F.DXL_PORT_B_MACFAIL 1 h.port).event 0x63 h.port).portDown h.port).syncFlush := by
  unfold State.frameIn
  dsimp only
  rw [if_neg]
  intro e
  simp only [Bool.and_eq_true, Bool.or_eq_true, decide_eq_true_eq, Nat.beq_eq] at e
  obtain ⟨⟨⟨⟨hst, hmac⟩, hkey⟩, hseq⟩, hsrc⟩ := e
  exact k ⟨hst, hmac, hkey, hseq, hsrc⟩

/-- A refused frame is counted, and its port is in DOWN. -/
theorem refused_frame {h : FrameHdr} (k : ¬ LinkOk s h) (t : Nat) (f : State → State) :
    ((s.start t).frameIn h f).portSt h.port = Lk.down ∧ ((s.start t).frameIn h f).rd F.DXL_PORT_B_MACFAIL h.port =
      satAddN F.DXL_PORT_B_MACFAIL.w (s.rd F.DXL_PORT_B_MACFAIL h.port) 1 := by
  rw [State.frameIn_refused k]
  have hcount : (((s.start t).incSat F.DXL_PORT_B_MACFAIL 1 h.port).event 0x63 h.port).rd F.DXL_PORT_B_MACFAIL h.port =
      satAddN F.DXL_PORT_B_MACFAIL.w (s.rd F.DXL_PORT_B_MACFAIL h.port) 1 :=
    (State.rd_event _ _ (by decide)).trans (State.rd_incSat_same _ _ _ _ _ (by decide))
  generalize ((s.start t).incSat F.DXL_PORT_B_MACFAIL 1 h.port).event 0x63 h.port = u at hcount ⊢
  by_cases hd : u.portSt h.port = Lk.down
  · have hr : PortRests h.port u u.syncFlush := PortRests.syncFlush (.inl hd)
    rw [State.portDown_of_down hd]
    exact ⟨hr.portSt.trans hd, (State.rd_congr hr.count).trans hcount⟩
  · have hfell := portFell_flush hd
    exact ⟨hfell.state, hfell.macFail.trans hcount⟩

/-! ### The commands of a link port -/

theorem answers_linkUp {d : DxlConfig} {r : DxlPortRec} (hst : s.portSt n = Lk.down) (hd : s.dxl? = some d) (hr : d.ports[n]? = some r)
    (hp : r.present = true) (hb : s.vn .authAt n ≤ max s.time t) :
    Answers (.linkUp t n) s fun u => u.portSt n = Lk.auth ∧ u.rd F.DXL_PORT_A_LINK_UP n = 1
      ∧ u.rd F.DXL_PORT_A_REQUESTER n = (if d.pkgId < r.peerId then 1 else 0) := by
  have h1 : ((s.start t).wr F.DXL_PORT_A_LINK_UP 1 n).rd F.DXL_PORT_A_LINK_UP n = 1 := State.rd_wr_fits _ _ _ _ (by decide) (by decide)
  have h2 : ((s.start t).wr F.DXL_PORT_A_LINK_UP 1 n).portSt n = Lk.down :=
    (State.rd_wr_apart _ _ _ _ _ _ _ _ (by decide) (by decide)).trans hst
  refine ⟨_, congrArg Host.Outcome.next (State.tryAuth_enters h2 hd hr hp (by simp [State.is, h1]) hb), State.portSt_authPort .., ?_, ?_⟩
  · exact (State.rd_wr_apart _ _ _ _ _ _ _ _ (by decide) (by decide)).trans ((State.rd_portShow_apart _ _ _ _ _ rfl (by decide)).trans h1)
  · refine (State.rd_wr_fits _ _ _ _ (by decide) ?_).trans ?_
    · unfold b2n
      split <;> decide
    · simp [b2n, Nat.blt_eq]

theorem answers_authBackoffEnd {d : DxlConfig} {r : DxlPortRec} (hst : s.portSt n = Lk.down) (hd : s.dxl? = some d)
    (hr : d.ports[n]? = some r) (hp : r.present = true) (hl : s.is F.DXL_PORT_A_LINK_UP n = true) (hb : s.vn .authAt n ≤ max s.time t) :
    Answers (.authBackoffEnd t n) s fun u => u.portSt n = Lk.auth :=
  ⟨_, congrArg Host.Outcome.next (State.tryAuth_enters (s := s.start t) hst hd hr hp hl hb), State.portSt_authPort ..⟩

theorem answers_linkDown (h : s.portSt n ≠ Lk.down) :
    Answers (.linkDown t n) s fun u => u.portSt n = Lk.down ∧ u.rd F.DXL_PORT_A_LINK_UP n = 0
      ∧ u.rd F.DXL_PORT_B_DOWNS n = satAddN F.DXL_PORT_B_DOWNS.w (s.rd F.DXL_PORT_B_DOWNS n) 1 := by
  have hst : ((s.start t).wr F.DXL_PORT_A_LINK_UP 0 n).portSt n = s.portSt n := State.rd_wr_apart _ _ _ _ _ _ _ _ (by decide) (by decide)
  have hfell := portFell_flush (hst ▸ h)
  refine ⟨_, rfl, hfell.state, hfell.linkUp.trans (State.rd_wr_fits _ _ _ _ (by decide) (by decide)), hfell.downs.trans ?_⟩
  rw [State.rd_wr_reg _ _ _ _ _ _ _ _ (by decide)]
  rfl

theorem answers_linkSilent (h : 2 ≤ s.portSt n) (hl : s.vn .rxLast n + 1000 * s.lnk 0x0031 2 50 ≤ max s.time t) :
    Answers (.linkSilent t n) s fun u => u.portSt n = Lk.down := by
  have hst : (s.start t).portSt n ≠ Lk.down := fun e => absurd (h.trans_eq e) (by decide)
  refine ⟨_, congrArg Host.Outcome.next (if_pos ?_), (portFell_flush hst).state⟩
  rw [Bool.and_eq_true]
  exact ⟨decide_eq_true h, Nat.ble_eq_true_of_le hl⟩

theorem exec_authDone (h : s.portSt n = Lk.auth) (ok : Bool) : exec (.authDone t n ok) s = .next (if ok then
    (((((((s.start t).wr F.DXL_PORT_A_TX_SEQ 0 n).wr F.DXL_PORT_A_KEYID 0 n).setV .rxSeq 0 n 0).setV .rxSeq 0 n 1).setV .rxKeyNew 1 n).setV
      .rxLast (s.start t).time n).setV .txLast (s.start t).time n |>.portToUp n
    else ((s.start t).event 0x64 n).portDown n) :=
  congrArg Host.Outcome.next (if_neg (not_not_intro h))

theorem answers_authDone (h : s.portSt n = Lk.auth) (hp : s.pkg ≠ Pkg.fail) :
    Answers (.authDone t n true) s fun u => u.portSt n = Lk.up ∧ u.rd F.DXL_PORT_A_TX_SEQ n = 0 ∧ u.rd F.DXL_PORT_A_KEYID n = 0
      ∧ u.v .rxSeq n 0 = 0 ∧ u.v .rxLast n = (max s.time t : Nat) := by
  refine ⟨_, exec_authDone h true, ?_⟩
  rw [if_pos rfl]
  refine ⟨State.portSt_portToUp .., ?_, ?_, ?_, ?_⟩
  · refine (State.rd_congr (State.link_portToUp (s := State.setV _ _ _ _) ((State.pkg_congr ?_).trans_ne hp) _ _)).trans ?_
    · exact (State.reg_wr_reg _ _ _ _ _ _ _ _ (by decide)).trans (State.reg_wr_reg _ _ _ _ _ _ _ _ (by decide))
    · refine (State.rd_wr_apart _ _ _ _ _ _ _ _ (by decide) (by decide)).trans ?_
      exact (State.rd_wr_apart _ _ _ _ _ _ _ _ (by decide) (by decide)).trans (State.rd_wr_fits _ _ _ _ (by decide) (by decide))
  · refine (State.rd_congr (State.link_portToUp (s := State.setV _ _ _ _) ((State.pkg_congr ?_).trans_ne hp) _ _)).trans ?_
    · exact (State.reg_wr_reg _ _ _ _ _ _ _ _ (by decide)).trans (State.reg_wr_reg _ _ _ _ _ _ _ _ (by decide))
    · exact (State.rd_wr_apart _ _ _ _ _ _ _ _ (by decide) (by decide)).trans (State.rd_wr_fits _ _ _ _ (by decide) (by decide))
  · refine (State.v_portToUp _ (by decide)).trans ?_
    refine (State.v_setV_var _ _ _ _ _ _ _ _ (by decide)).trans ((State.v_setV_var _ _ _ _ _ _ _ _ (by decide)).trans ?_)
    refine (State.v_setV_var _ _ _ _ _ _ _ _ (by decide)).trans ((State.v_setV_ne _ _ _ _ _ _ _ _ ?_).trans (State.v_setV_same ..))
    simp
  · refine (State.v_portToUp _ (by decide)).trans ?_
    exact (State.v_setV_var _ _ _ _ _ _ _ _ (by decide)).trans (State.v_setV_same ..)

theorem answers_authDone_failed (h : s.portSt n = Lk.auth) :
    Answers (.authDone t n false) s fun u => u.portSt n = Lk.down ∧ u.vn .authAt n = max s.time t + 1000000 * s.lnk 0x0033 2 100 := by
  have hst : ((s.start t).event 0x64 n).portSt n = s.portSt n := State.rd_event _ _ (by decide)
  have hfell := portFell_portDown (s := (s.start t).event 0x64 n) (n := n) (by rw [hst, h]; decide)
  refine ⟨_, exec_authDone h false, hfell.state, (congrArg Int.toNat hfell.since).trans ?_⟩
  have himg : ((s.start t).event 0x64 n).part .image = s.part .image := (State.part_event _ _ (by decide)).trans (State.part_start ..)
  have htime : ((s.start t).event 0x64 n).time = max s.time t := (eventKeeps_time _).event rfl _ _
  rw [Int.toNat_natCast, htime, State.lnk, State.par_congr himg]
  rfl

theorem answers_dxlHeartbeatSend (hu : s.hubUp = true) (hst : s.portSt n = Lk.up) (hb : s.vn .txLast n + 1000 * s.lnk 0x0030 2 10 ≤ max s.time t)
    (hc : s.sync.cur = []) (hq : s.rd F.DXL_PORT_A_TX_SEQ n ≠ 0xFFFF_FFFF) (hx : s.v .txStop n = 0) :
    Answers (.dxlHeartbeatSend t n) s fun u => Out.frame n Ft.heartbeat (pack [(0, 8, s.pkg),
        (32, 32, (s.vn .rxSeq n (s.rd F.DXL_PORT_A_KEYID n) + 2 ^ 32 - 1) % 2 ^ 32), (64, 64, ofSigned 64 (s.start t).sysTime)]) ∈ u.out
      ∧ u.rd F.DXL_PORT_A_TX_SEQ n = s.rd F.DXL_PORT_A_TX_SEQ n + 1 ∧ u.v .txLast n = (max s.time t : Nat) := by
  have hdue : ((s.start t).hubUp && (s.start t).portUp n
      && Nat.ble ((s.start t).vn .txLast n + 1000 * (s.start t).lnk 0x0030 2 10) (s.start t).time) = true := by
    rw [Bool.and_eq_true, Bool.and_eq_true]
    exact ⟨⟨hu, State.portUp_of hst⟩, Nat.ble_eq_true_of_le hb⟩
  refine ⟨((s.start t).syncPut (.frm n Ft.heartbeat (pack [(0, 8, s.pkg),
    (32, 32, (s.vn .rxSeq n (s.rd F.DXL_PORT_A_KEYID n) + 2 ^ 32 - 1) % 2 ^ 32), (64, 64, ofSigned 64 (s.start t).sysTime)]))).syncDrain 16,
    congrArg Host.Outcome.next (if_pos hdue), ?_⟩
  generalize pack _ = m
  rw [State.syncDrain_frm (s := (s.start t).syncPut _) (congrArg (· ++ [SyncOut.frm n Ft.heartbeat m]) hc) hst hq hx]
  refine ⟨?_, ?_, ?_⟩
  · exact List.mem_append_right _ (List.mem_singleton.mpr rfl)
  · refine (State.rd_wr_fits _ _ _ _ (by decide) ?_).trans rfl
    have hlt : s.rd F.DXL_PORT_A_TX_SEQ n < 2 ^ 32 := State.rd_lt ..
    exact show s.rd F.DXL_PORT_A_TX_SEQ n + 1 < 2 ^ 32 by omega
  · exact State.v_setV_same ..

theorem answers_dxlKeyUpdate {k : Nat} (h : 2 ≤ s.portSt n) (hk : s.rd F.DXL_PORT_A_KEYID n = k)
    (hd : 0xC000_0000 ≤ s.rd F.DXL_PORT_A_TX_SEQ n ∨ 0xC000_0000 ≤ s.vn .rxSeq n k ∨ s.is F.DXL_PORT_A_REQUESTER n = false) :
    Answers (.dxlKeyUpdate t n) s fun u => u.rd F.DXL_PORT_A_KEYID n = 1 - k ∧ u.rd F.DXL_PORT_A_TX_SEQ n = 0 ∧ u.v .rxSeq n (1 - k) = 0
      ∧ u.v .rxKeyNew n = 0 := by
  subst hk
  refine ⟨_, congrArg Host.Outcome.next (if_pos ?_), ?_, ?_, ?_, State.v_setV_same ..⟩
  · rw [Bool.and_eq_true, Bool.or_eq_true, Bool.or_eq_true]
    refine ⟨decide_eq_true h, ?_⟩
    rcases hd with hd | hd | hd
    · exact .inl (.inl (Nat.ble_eq_true_of_le hd))
    · exact .inl (.inr (Nat.ble_eq_true_of_le hd))
    · exact .inr (congrArg (!·) hd)
  · refine (State.rd_wr_apart _ _ _ _ _ _ _ _ (by decide) (by decide)).trans (State.rd_wr_fits _ _ _ _ (by decide) ?_)
    exact lt_of_le_of_lt (Nat.sub_le _ _) (by decide)
  · exact State.rd_wr_fits _ _ _ _ (by decide) (by decide)
  · exact (State.v_setV_var _ _ _ _ _ _ _ _ (by decide)).trans (State.v_setV_same ..)

theorem answers_dxlHeartbeat {h : FrameHdr} (k : LinkOk s h) (hc : s.sync.cur = []) (state rx sys : Nat) :
    Answers (.dxlHeartbeat t h state rx sys) s fun u =>
      u.portSt h.port = (if state % 16 = Pkg.fail then s.portSt h.port else Lk.up) ∧ u.v .rxSeq h.port h.keyid = ((h.seq + 1) % 2 ^ 32 : Nat)
        ∧ u.v .rxLast h.port = (max s.time t : Nat) := by
  refine ⟨_, congrArg Host.Outcome.next (State.frameIn_quiet k hc t ?_), ?_⟩
  · split
    · exact (State.part_portToUp (pa := .cur) _ (by decide))
    · rfl
  have hst : ((s.start t).frameTaken h).portSt h.port = s.portSt h.port := State.portSt_frameTaken ..
  have hseq := (s.start t).rxSeq_frameTaken h
  have hlast := (s.start t).rxLast_frameTaken h
  generalize (s.start t).frameTaken h = u at hst hseq hlast
  dsimp only
  split
  · next hc =>
    obtain ⟨-, hf⟩ : u.portSt h.port = Lk.pfail ∧ ¬ state % 16 = Pkg.fail := by simpa using hc
    rw [if_neg hf]
    exact ⟨State.portSt_portToUp .., (State.v_portToUp _ (by decide)).trans hseq, (State.v_portToUp _ (by decide)).trans hlast⟩
  · next hc =>
    refine ⟨hst.trans ?_, hseq, hlast⟩
    split
    · rfl
    · next hf =>
      exact k.1.resolve_right fun e => hc (by rw [hst, e, decide_eq_true rfl, decide_eq_true hf]; rfl)

theorem answers_failNotice {h : FrameHdr} (k : LinkOk s h) (hst : s.portSt h.port = Lk.up) {lo : Nat} (hlo : lo % 65536 = h.src)
    (hx : s.v .txStop h.port = 0) (hi : Nat) :
    Answers (.failNotice t h lo hi) s fun u => u.portSt h.port = Lk.pfail ∧ u.reg .DXL_PORT_D h.port = BitVec.ofNat 64 lo := by
  have hup : ((s.start t).frameTaken h).portSt h.port = Lk.up := (State.portSt_frameTaken ..).trans hst
  have hstop : ((s.start t).frameTaken h).v .txStop h.port = 0 := (State.v_frameTaken _ _ (by decide) (by decide) (by decide) _ _).trans hx
  refine ⟨_, congrArg Host.Outcome.next (State.frameIn_taken k t _), ?_⟩
  generalize (s.start t).frameTaken h = u at hup hstop
  dsimp only
  rw [if_neg (by simp [hup, hlo])]
  have hst' : (((((u.portShow h.port Lk.pfail).event 0x62 h.port).portLeaves h.port Br.failed true).setReg .DXL_PORT_D
      (BitVec.ofNat 64 lo) h.port).portSt h.port) = Lk.pfail :=
    (State.rd_setReg_reg _ _ _ _ _ _ _ _ (by decide)).trans ((State.rd_portLeaves _ _ _ (by decide)).trans
      ((State.rd_event _ _ (by decide)).trans (State.portSt_portShow _ _ (by decide))))
  have hstop' : (((((u.portShow h.port Lk.pfail).event 0x62 h.port).portLeaves h.port Br.failed true).setReg .DXL_PORT_D
      (BitVec.ofNat 64 lo) h.port).v .txStop h.port) = 0 :=
    (State.v_portLeaves _ _ _ (by decide)).trans ((State.v_event _ _ (by decide)).trans hstop)
  have hrest := PortRests.syncFlush (.inr ⟨by rw [hst']; decide, by rw [hstop']; decide⟩)
  exact ⟨hrest.portSt.trans hst', hrest.record.trans (State.reg_setReg_same ..)⟩

theorem answers_reservedTypeFrame {h : FrameHdr} (k : LinkOk s h) (hc : s.sync.cur = []) :
    Answers (.reservedTypeFrame t h) s fun u => u.portSt h.port = s.portSt h.port
      ∧ u.rd F.DXL_PORT_B_RSVD h.port = satAddN F.DXL_PORT_B_RSVD.w (s.rd F.DXL_PORT_B_RSVD h.port) 1 := by
  refine ⟨_, congrArg Host.Outcome.next (State.frameIn_quiet k hc t rfl), ?_, ?_⟩
  · exact (State.rd_wr_reg _ _ _ _ _ _ _ _ (by decide)).trans (State.portSt_frameTaken ..)
  · refine (State.rd_incSat_same _ _ _ _ _ (by decide)).trans ?_
    rw [State.rd_congr (f := F.DXL_PORT_B_RSVD) (State.reg_frameTaken (s.start t) h _ _ _)]
    rfl

end

/-- Settles O44: sessions, refused frames and failures each take the port to their state, and what is sent afterwards leaves it there. -/
theorem linkPortsAndFrames : Obligations.LinkPortsAndFrames := by
  unfold Obligations.LinkPortsAndFrames
  refine ⟨fun _ _ _ _ _ hst hd hr hp hb => answers_linkUp hst hd hr hp hb,
    fun _ _ _ _ _ hst hd hr hp hl hb => answers_authBackoffEnd hst hd hr hp hl hb, fun _ _ _ h => answers_linkDown h,
    fun _ _ _ h hl => answers_linkSilent h hl, fun _ _ _ h hp => answers_authDone h hp, fun _ _ _ h => answers_authDone_failed h,
    fun _ _ _ hu hst hb hc hq hx => answers_dxlHeartbeatSend hu hst hb hc hq hx, fun _ _ _ _ h hk hd => answers_dxlKeyUpdate h hk hd,
    fun _ _ _ _ _ _ k hc => answers_dxlHeartbeat k hc _ _ _, fun _ _ _ _ _ k _ hst hlo hx => answers_failNotice k hst hlo hx _,
    fun _ _ _ k hc => answers_reservedTypeFrame k hc, fun s t a b c x f h k i hi => ?_⟩
  simp only [List.mem_cons, List.not_mem_nil, or_false] at hi
  rcases hi with rfl | rfl | rfl | rfl | rfl | rfl | rfl | rfl | rfl | rfl | rfl <;> exact ⟨_, rfl, refused_frame k t _⟩

end Sys2Proof.Machine

/-!
PROOFS. The frames of spanning barriers and the alignment of system time (15 R454 to R459).
-/
namespace Sys2Proof.Machine

section
variable {s : State} {h : FrameHdr}

/-! ### The state in which a frame has its effect -/

theorem State.regs_frameTaken (s : State) (h : FrameHdr) : (s.frameTaken h).regs = s.regs := by
  unfold State.frameTaken State.when
  split <;> rfl

theorem State.img_frameTaken (s : State) (h : FrameHdr) : (s.frameTaken h).img = s.img := by
  unfold State.frameTaken State.when
  split <;> rfl

theorem State.time_frameTaken (s : State) (h : FrameHdr) : (s.frameTaken h).time = s.time := by
  unfold State.frameTaken State.when
  split <;> rfl

theorem State.slotOf_regs {s u : State} (h : u.regs = s.regs) (o : Nat) : u.slotOf o = s.slotOf o := by
  simp only [State.slotOf, State.rd, State.reg, h]

theorem State.rd_regs {s u : State} (h : u.regs = s.regs) (f : Fld) (i j : Nat) : u.rd f i j = s.rd f i j := by
  simp only [State.rd, State.reg, h]

theorem State.mirrorOn_regs {s u : State} (h : u.regs = s.regs) : u.mirrorOn = s.mirrorOn := by
  unfold State.mirrorOn State.is
  rw [State.rd_regs h F.MIR_STATUS_SELF, State.rd_regs h F.MIR_STATUS_ROLE_0, State.rd_regs h F.MIR_STATUS_ROLE_1]

theorem State.spanLive_regs {s u : State} (h : u.regs = s.regs) (o : Nat) : u.spanLive o = s.spanLive o := by
  unfold State.spanLive State.objType State.is
  rw [State.rd_regs h F.SYNC_OBJ_A_TYPE, State.rd_regs h F.SYNC_OBJ_A_BROKEN]

theorem State.spans_regs {s u : State} (h : u.regs = s.regs) : u.spans = s.spans := by
  have hty (o : Nat) : u.objType o = s.objType o := State.rd_regs h _ _ _
  simp only [State.spans, h, hty]

theorem State.dxl?_img {s u : State} (h : u.img = s.img) : u.dxl? = s.dxl? := by
  simp only [State.dxl?, h]

theorem State.treeChildren_img {s u : State} (h : u.img = s.img) : u.treeChildren = s.treeChildren := by
  simp only [State.treeChildren, State.dxl?_img h]

theorem State.treeParent_img {s u : State} (h : u.img = s.img) : u.treeParent = s.treeParent := by
  simp only [State.treeParent, State.dxl?_img h]

theorem State.treePorts_img {s u : State} (h : u.img = s.img) : u.treePorts = s.treePorts := by
  simp only [State.treePorts, State.treeParent_img h, State.treeChildren_img h]

theorem State.sysTime_frameTaken (s : State) (h : FrameHdr) : (s.frameTaken h).sysTime = s.sysTime ∧ (s.frameTaken h).sysOfs = s.sysOfs := by
  have hofs : (s.frameTaken h).sysOfs = s.sysOfs := by
    simp only [State.sysOfs, State.time_frameTaken, State.rdI, State.rd_regs (s.regs_frameTaken h), State.vn,
      State.v_frameTaken s h (x := .tsRemAt) (by decide) (by decide) (by decide), State.v_frameTaken s h (x := .tsRem) (by decide) (by decide) (by decide)]
  exact ⟨by rw [State.sysTime, State.sysTime, hofs, State.time_frameTaken], hofs⟩

/-- A frame of the object's job has its effect. -/
theorem State.jobMatch_same {obj c : Nat} (hs : s.slotOf obj = some c) (f : State → State) : s.jobMatch obj (s.rd F.DXL_JOB_JOB c) f = f s := by
  simp [State.jobMatch, hs]

/-- A frame of another job is dropped and counted. -/
theorem State.jobMatch_other {obj job c : Nat} (hs : s.slotOf obj = some c) (hj : job ≠ s.rd F.DXL_JOB_JOB c) (f : State → State) :
    s.jobMatch obj job f = s.incSat F.DXL_STATUS_JOBMISS := by
  simp [State.jobMatch, hs, hj.symm]

/-! ### ARRIVE -/

theorem bitOf_add_same {v k : Nat} (h : bitOf v k = false) : bitOf (v + 2 ^ k) k = true := by
  have hz : v / 2 ^ k % 2 = 0 := by
    have : ¬ v / 2 ^ k % 2 = 1 := of_decide_eq_false h
    omega
  refine decide_eq_true ?_
  rw [Nat.add_div_right _ (Nat.two_pow_pos k)]
  omega

theorem bitOf_add_apart {v k m : Nat} (hk : bitOf v k = false) (hne : k ≠ m) : bitOf (v + 2 ^ k) m = bitOf v m := by
  have hz : v / 2 ^ k % 2 = 0 := by
    have : ¬ v / 2 ^ k % 2 = 1 := of_decide_eq_false hk
    omega
  have hlow : v % 2 ^ (k + 1) = v % 2 ^ k := by rw [Nat.pow_succ, Nat.mod_mul, hz, Nat.mul_zero, Nat.add_zero]
  have hlt : v % 2 ^ k < 2 ^ k := Nat.mod_lt _ (Nat.two_pow_pos k)
  have hv : 2 ^ (k + 1) * (v / 2 ^ (k + 1)) + v % 2 ^ k = v := hlow ▸ Nat.div_add_mod v (2 ^ (k + 1))
  have hsum : v + 2 ^ k = 2 ^ (k + 1) * (v / 2 ^ (k + 1)) + (2 ^ k * 1 + v % 2 ^ k) := by omega
  have hpow : 2 ^ (k + 1) = 2 * 2 ^ k := Nat.pow_succ'
  rw [hsum, bitOf_eq_testBit, bitOf_eq_testBit, Nat.two_pow_add_eq_or_of_lt (i := k + 1) (by omega),
    Nat.two_pow_add_eq_or_of_lt (i := k) hlt]
  conv_rhs => rw [← hv, Nat.two_pow_add_eq_or_of_lt (i := k + 1) (by omega)]
  rw [Nat.testBit_or, Nat.testBit_or, Nat.testBit_or, Nat.mul_one, Nat.testBit_two_pow_of_ne hne, Bool.false_or]

/-- A mask with a bit set, which may have stood before. -/
def withBit (v k : Nat) : Nat := if bitOf v k then v else v + 2 ^ k

theorem bitOf_withBit (v k : Nat) : bitOf (withBit v k) k = true := by
  unfold withBit
  split
  · assumption
  · next hb => exact bitOf_add_same (Bool.eq_false_iff.mpr hb)

theorem bitOf_withBit_of {v k m : Nat} (h : bitOf v m = true) : bitOf (withBit v k) m = true := by
  unfold withBit
  split
  · exact h
  · next hb =>
    have hk : bitOf v k = false := Bool.eq_false_iff.mpr hb
    exact (bitOf_add_apart hk fun e => by rw [e, h] at hk; cases hk).trans h

/-- An ARRIVE for the present generation sets its present bit. -/
def State.spanArrived (s : State) (obj n : Nat) : State := s.setV .spArr (withBit (s.vn .spArr obj) n : Nat) obj

theorem State.spArr_spanArrived (s : State) (obj n : Nat) : (s.spanArrived obj n).vn .spArr obj = withBit (s.vn .spArr obj) n :=
  congrArg Int.toNat (State.v_setV_same ..)

/-- Where UP is not set, an arrival goes no further. -/
theorem State.spanGather_down {obj : Nat} (hu : s.is F.SYNC_OBJ_A_UP obj = false) : s.spanGather obj = (false, s) := by
  unfold State.spanGather
  dsimp only
  rw [if_neg (by rw [hu, Bool.false_and]; decide)]

/-- When UP is set and every child has arrived, a package that is not the root sends ARRIVE to its parent (15 R457). -/
theorem State.spanGather_parent {obj c n : Nat} (hu : s.is F.SYNC_OBJ_A_UP obj = true)
    (hall : ∀ k ∈ s.treeChildren, bitOf (s.vn .spArr obj) k = true) (hs : s.slotOf obj = some c) (hp : s.treeParent = some n) :
    s.spanGather obj = (false, s.syncPut (.frm n Ft.arrive (spanBody obj (s.objGen obj) (s.rd F.DXL_JOB_JOB c)))) := by
  unfold State.spanGather
  dsimp only
  rw [if_pos (by rw [hu, List.all_eq_true.mpr hall]; rfl)]
  simp only [State.jobOf, hs, hp]

/-- What an ARRIVE for the present generation does. -/
def State.arriveNow (s : State) (obj n : Nat) : State :=
  if bitOf (s.vn .spArr obj) n then s
  else if ((s.spanArrived obj n).spanGather obj).1 then ((s.spanArrived obj n).spanGather obj).2.spanComplete obj
  else ((s.spanArrived obj n).spanGather obj).2

/-- An arrival that does not complete the generation here. -/
theorem State.arriveNow_of_gather {obj n : Nat} {x : State} (hb : ¬ bitOf (s.vn .spArr obj) n = true)
    (hg : (s.spanArrived obj n).spanGather obj = (false, x)) : s.arriveNow obj n = x := by
  unfold State.arriveNow
  rw [hg, if_neg hb]
  rfl

/-- An ARRIVE that its port and its object take. -/
theorem exec_arriveFrame {obj c gen : Nat} (k : LinkOk s h) (hs : s.slotOf obj = some c) (hc : s.treeChildren.contains h.port = true)
    (hl : s.spanLive obj = true) (t : Nat) :
    exec (.arriveFrame t h obj gen (s.rd F.DXL_JOB_JOB c)) s = .next (
      let u := (s.start t).frameTaken h
      let d := (gen + 65536 - s.objGen obj) % 65536
      if d = 0 then u.arriveNow obj h.port
      else if d = 1 then u.setV .spNxt (withBit (u.vn .spNxt obj) h.port : Nat) obj
      else if d ≤ 32767 then u.spanBreak obj Br.protocol none
      else u.spanStale).syncFlush := by
  refine congrArg Host.Outcome.next ((State.frameIn_taken k t _).trans (congrArg State.syncFlush ?_))
  have hr : ((s.start t).frameTaken h).regs = s.regs := State.regs_frameTaken ..
  have himg : ((s.start t).frameTaken h).img = s.img := State.img_frameTaken ..
  generalize (s.start t).frameTaken h = u at hr himg ⊢
  have hlive : u.spanLive obj = true := by
    unfold State.spanLive State.objType State.is at hl ⊢
    rw [State.rd_regs hr, State.rd_regs hr]
    exact hl
  dsimp only
  rw [← State.rd_regs hr, State.jobMatch_same ((State.slotOf_regs hr _).trans hs), hlive, State.treeChildren_img himg, hc, State.objGen_regs hr,
    if_neg (by decide)]
  rfl

theorem answers_arrive_present {obj c gen : Nat} (k : LinkOk s h) (hcur : s.sync.cur = []) (hs : s.slotOf obj = some c)
    (hc : s.treeChildren.contains h.port = true) (hl : s.spanLive obj = true) (hu : s.is F.SYNC_OBJ_A_UP obj = false)
    (hg : gen = s.objGen obj) (t : Nat) :
    Answers (.arriveFrame t h obj gen (s.rd F.DXL_JOB_JOB c)) s fun u =>
      bitOf (u.vn .spArr obj) h.port = true ∧ u.objGen obj = s.objGen obj := by
  refine ⟨_, exec_arriveFrame k hs hc hl t, ?_⟩
  have hr : ((s.start t).frameTaken h).regs = s.regs := State.regs_frameTaken ..
  have hsync : ((s.start t).frameTaken h).sync.cur = [] := (congrArg SyncSt.cur (State.sync_frameTaken ..)).trans hcur
  generalize (s.start t).frameTaken h = u at hr hsync ⊢
  have hd : (gen + 65536 - s.objGen obj) % 65536 = 0 := by omega
  have hup (x : State) (hx : x.regs = s.regs) : x.is F.SYNC_OBJ_A_UP obj = false := by rw [State.is, State.rd_regs hx]; exact hu
  dsimp only
  rw [if_pos hd]
  by_cases hb : bitOf (u.vn .spArr obj) h.port = true
  · rw [State.arriveNow, if_pos hb, State.syncFlush_nil hsync]
    exact ⟨hb, State.objGen_regs hr obj⟩
  · rw [State.arriveNow_of_gather hb (State.spanGather_down (hup (u.spanArrived obj h.port) hr)), State.syncFlush_nil (by exact hsync),
      State.spArr_spanArrived]
    exact ⟨bitOf_withBit _ _, State.objGen_regs (s := s) hr obj⟩

theorem answers_arrive_next {obj c gen : Nat} (k : LinkOk s h) (hcur : s.sync.cur = []) (hs : s.slotOf obj = some c)
    (hc : s.treeChildren.contains h.port = true) (hl : s.spanLive obj = true) (hg : gen = (s.objGen obj + 1) % 65536) (t : Nat) :
    Answers (.arriveFrame t h obj gen (s.rd F.DXL_JOB_JOB c)) s fun u =>
      bitOf (u.vn .spNxt obj) h.port = true ∧ u.objGen obj = s.objGen obj := by
  refine ⟨_, exec_arriveFrame k hs hc hl t, ?_⟩
  have hr : ((s.start t).frameTaken h).regs = s.regs := State.regs_frameTaken ..
  have hsync : ((s.start t).frameTaken h).sync.cur = [] := (congrArg SyncSt.cur (State.sync_frameTaken ..)).trans hcur
  generalize (s.start t).frameTaken h = u at hr hsync ⊢
  have hlt : s.objGen obj < 65536 := State.rd_lt ..
  have hd : (gen + 65536 - s.objGen obj) % 65536 = 1 := by omega
  dsimp only
  rw [if_neg (by omega), if_pos hd, State.syncFlush_nil (by exact hsync)]
  refine ⟨?_, State.objGen_regs (s := s) hr obj⟩
  rw [State.vn, State.v_setV_same]
  exact bitOf_withBit _ _

theorem answers_arrive_parent {obj c n : Nat} (k : LinkOk s h) (hcur : s.sync.cur = []) (hs : s.slotOf obj = some c)
    (hc : s.treeChildren.contains h.port = true) (hl : s.spanLive obj = true) (hu : s.is F.SYNC_OBJ_A_UP obj = true)
    (hb : bitOf (s.vn .spArr obj) h.port = false) (hall : ∀ k ∈ s.treeChildren, k ≠ h.port → bitOf (s.vn .spArr obj) k = true)
    (hp : s.treeParent = some n) (hn : s.portUp n = true) (hm : s.mirrorOn = false) (hq : s.rd F.DXL_PORT_A_TX_SEQ n ≠ 0xFFFF_FFFF)
    (hx : s.v .txStop n = 0) (t : Nat) :
    Answers (.arriveFrame t h obj (s.objGen obj) (s.rd F.DXL_JOB_JOB c)) s fun u =>
      Out.frame n Ft.arrive (spanBody obj (s.objGen obj) (s.rd F.DXL_JOB_JOB c)) ∈ u.out := by
  refine ⟨_, exec_arriveFrame k hs hc hl t, ?_⟩
  have hr : ((s.start t).frameTaken h).regs = s.regs := State.regs_frameTaken ..
  have himg : ((s.start t).frameTaken h).img = s.img := State.img_frameTaken ..
  have hsync : ((s.start t).frameTaken h).sync.cur = [] := (congrArg SyncSt.cur (State.sync_frameTaken ..)).trans hcur
  have hv (x : Var) (h1 : x ≠ .rxSeq) (h2 : x ≠ .rxLast) (h3 : x ≠ .rxKeyNew) (i : Nat) : ((s.start t).frameTaken h).v x i = s.v x i :=
    State.v_frameTaken _ _ h1 h2 h3 _ _
  have harr : ((s.start t).frameTaken h).vn .spArr obj = s.vn .spArr obj := congrArg Int.toNat (hv _ (by decide) (by decide) (by decide) _)
  have hstop : ((s.start t).frameTaken h).v .txStop n = 0 := (hv _ (by decide) (by decide) (by decide) _).trans hx
  generalize (s.start t).frameTaken h = u at hr himg hsync harr hstop ⊢
  have hw : (u.spanArrived obj h.port).regs = s.regs := hr
  have hgather := State.spanGather_parent (s := u.spanArrived obj h.port) (obj := obj)
    (by rw [State.is, State.rd_regs hw]; exact hu)
    (fun j hj => by
      rw [State.spArr_spanArrived, harr]
      by_cases he : j = h.port
      · rw [he]
        exact bitOf_withBit _ _
      · exact bitOf_withBit_of (hall j ((State.treeChildren_img himg) ▸ hj) he))
    ((State.slotOf_regs hw _).trans hs) ((State.treeParent_img (s := s) himg).trans hp)
  rw [State.objGen_regs hw, State.rd_regs hw] at hgather
  dsimp only
  rw [if_pos (by omega), State.arriveNow_of_gather (by rw [harr, hb]; decide) hgather,
    State.syncFlush_drain ((State.mirrorOn_regs (s := s) (by exact hw)).trans hm),
    State.syncDrain_frm (k := 262143) (s := (u.spanArrived obj h.port).syncPut _) (congrArg (· ++ [_]) hsync)
      ((State.rd_regs hw _ _ _).trans (Nat.eq_of_beq_eq_true hn)) ((State.rd_regs hw _ _ _).trans_ne hq)
      ((State.v_setV_var _ _ _ _ _ _ _ _ (by decide)).trans hstop)]
  exact List.mem_append_right _ (List.mem_singleton.mpr rfl)

theorem answers_frame_other_job {obj job c : Nat} (k : LinkOk s h) (hcur : s.sync.cur = []) (hs : s.slotOf obj = some c)
    (hj : job ≠ s.rd F.DXL_JOB_JOB c) (t : Nat) (i : Instr) (f : State → State)
    (hi : exec i s = .next ((s.start t).frameIn h fun u => u.jobMatch obj job f)) :
    Answers i s fun u => u.rd F.DXL_STATUS_JOBMISS = satAddN F.DXL_STATUS_JOBMISS.w (s.rd F.DXL_STATUS_JOBMISS) 1
      ∧ u.reg .SYNC_OBJ_A obj = s.reg .SYNC_OBJ_A obj ∧ u.v .spArr obj = s.v .spArr obj := by
  refine ⟨_, hi.trans (congrArg Host.Outcome.next (State.frameIn_taken k t _)), ?_⟩
  have hr : ((s.start t).frameTaken h).regs = s.regs := State.regs_frameTaken ..
  have hsync : ((s.start t).frameTaken h).sync.cur = [] := (congrArg SyncSt.cur (State.sync_frameTaken ..)).trans hcur
  have hv : ((s.start t).frameTaken h).v .spArr obj = s.v .spArr obj := State.v_frameTaken _ _ (by decide) (by decide) (by decide) _ _
  have hreg : ((s.start t).frameTaken h).reg .SYNC_OBJ_A obj = s.reg .SYNC_OBJ_A obj := State.reg_frameTaken ..
  generalize (s.start t).frameTaken h = u at hr hsync hv hreg ⊢
  rw [State.jobMatch_other ((State.slotOf_regs hr _).trans hs) (by rw [State.rd_regs hr]; exact hj), State.syncFlush_nil (by exact hsync)]
  refine ⟨(State.rd_incSat_same _ _ _ _ _ (by decide)).trans ?_, (State.reg_wr_reg _ _ _ _ _ _ _ _ (by decide)).trans hreg, hv⟩
  rw [State.rd_regs hr]
  rfl

/-! ### RELEASE -/

/-- Among frames to several ports there is one for each port that is UP and whose SEQ is not used up. -/
theorem State.frame_mem_each {l : List Nat} {n typ : Nat} (hn : n ∈ l) (b : Nat → Nat) (hst : s.portSt n = Lk.up)
    (hq : s.rd F.DXL_PORT_A_TX_SEQ n ≠ 0xFFFF_FFFF) : Out.frame n typ (b n) ∈ (s.each l fun s m => s.frameOut m typ (b m)).out := by
  induction l generalizing s with
  | nil => cases hn
  | cons m l ih =>
    by_cases he : n = m
    · subst he
      have hmem : Out.frame n typ (b n) ∈ (s.frameOut n typ (b n)).out := by
        rw [State.frameOut_of_up hst hq]
        exact List.mem_append_right _ (List.mem_singleton.mpr rfl)
      rw [State.each, List.foldl_cons]
      refine State.each_keeps (P := fun u => Out.frame n typ (b n) ∈ u.out) hmem fun u x _ hu => ?_
      unfold State.frameOut
      split
      · exact hu
      · split
        · exact hu
        · exact List.mem_append_left _ hu
    · have hrest : PortRests n s (s.frameOut m typ (b m)) := PortRests.frameOut he _ _
      exact ih ((List.mem_cons.mp hn).resolve_left he) (hrest.portSt.trans hst) ((State.rd_congr hrest.link).trans_ne hq)

theorem State.time_frameOut (s : State) (n typ body : Nat) : (s.frameOut n typ body).time = s.time := by
  unfold State.frameOut
  split
  · rfl
  · split <;> rfl

/-- A RELEASE with a stagger: UP clears, and the completion is due after it (15 R458; 09 R290). -/
theorem State.spanAccept_later {obj : Nat} (h : s.stagger ≠ 0) :
    s.spanAccept obj = (false, (s.wr F.SYNC_OBJ_A_UP 0 obj).setV .spAt (1000 * s.time + s.stagger : Nat) obj) := by
  unfold State.spanAccept
  dsimp only
  have he : (s.wr F.SYNC_OBJ_A_UP 0 obj).stagger = s.stagger := rfl
  rw [if_neg (he ▸ h), he]
  rfl

theorem answers_releaseFrame {obj c : Nat} (k : LinkOk s h) (hcur : s.sync.cur = []) (hs : s.slotOf obj = some c)
    (hp : s.treeParent = some h.port) (hl : s.spanLive obj = true) (hu : s.is F.SYNC_OBJ_A_UP obj = true) (hst : s.stagger ≠ 0) (t : Nat) :
    Answers (.releaseFrame t h obj (s.objGen obj) (s.rd F.DXL_JOB_JOB c)) s fun u => u.rd F.SYNC_OBJ_A_UP obj = 0
      ∧ u.v .spAt obj = (1000 * max s.time t + s.stagger : Nat)
      ∧ ∀ n ∈ s.treeChildren, s.portUp n = true → s.rd F.DXL_PORT_A_TX_SEQ n ≠ 0xFFFF_FFFF →
          Out.frame n Ft.release (spanBody obj (s.objGen obj) (s.rd F.DXL_JOB_JOB c)) ∈ u.out := by
  refine ⟨_, congrArg Host.Outcome.next (State.frameIn_taken k t _), ?_⟩
  have hr : ((s.start t).frameTaken h).regs = s.regs := State.regs_frameTaken ..
  have himg : ((s.start t).frameTaken h).img = s.img := State.img_frameTaken ..
  have htime : ((s.start t).frameTaken h).time = max s.time t := State.time_frameTaken ..
  have hsync : ((s.start t).frameTaken h).sync.cur = [] := (congrArg SyncSt.cur (State.sync_frameTaken ..)).trans hcur
  generalize (s.start t).frameTaken h = u at hr himg htime hsync ⊢
  have hlive : u.spanLive obj = true := (State.spanLive_regs hr _).trans hl
  have hup : u.is F.SYNC_OBJ_A_UP obj = true := by rw [State.is, State.rd_regs hr]; exact hu
  have hpar : u.treeParent = some h.port := (State.treeParent_img himg).trans hp
  dsimp only
  rw [← State.rd_regs hr, State.jobMatch_same ((State.slotOf_regs hr _).trans hs), ← State.objGen_regs hr, if_neg (by simp [hlive, hpar]),
    if_neg (not_not_intro rfl), if_neg (by simp [hup])]
  generalize hm : spanBody obj (u.objGen obj) (u.rd F.DXL_JOB_JOB c) = body
  have himage : (u.each u.treeChildren fun s n => s.frameOut n Ft.release body).part .image = u.part .image :=
    State.part_each _ _ _ _ fun _ _ _ => State.part_frameOut _ _ _ (by decide)
  have hcur' : (u.each u.treeChildren fun s n => s.frameOut n Ft.release body).sync.cur = u.sync.cur :=
    State.part_each (q := .cur) _ _ _ fun _ _ _ => State.part_frameOut _ _ _ (by decide)
  have htime' : (u.each u.treeChildren fun s n => s.frameOut n Ft.release body).time = u.time :=
    State.time_each _ _ fun _ _ => State.time_frameOut ..
  have hout (n : Nat) (hn : n ∈ s.treeChildren) (h1 : s.portUp n = true) (h2 : s.rd F.DXL_PORT_A_TX_SEQ n ≠ 0xFFFF_FFFF) :
      Out.frame n Ft.release body ∈ (u.each u.treeChildren fun s n => s.frameOut n Ft.release body).out :=
    State.frame_mem_each (State.treeChildren_img himg ▸ hn) (fun _ => body)
      ((State.rd_regs hr _ _ _).trans (Nat.eq_of_beq_eq_true h1)) ((State.rd_regs hr _ _ _).trans_ne h2)
  have hstag : (u.each u.treeChildren fun s n => s.frameOut n Ft.release body).stagger = s.stagger := by
    unfold State.stagger State.shp
    rw [State.par_congr himage]
    simp only [State.par, State.item?, himg]
  generalize (u.each u.treeChildren fun s n => s.frameOut n Ft.release body) = e at hcur' htime' hout hstag ⊢
  rw [State.spanAccept_later (hstag ▸ hst)]
  dsimp only
  rw [if_neg (by decide), State.syncFlush_nil (by exact hcur'.trans hsync)]
  refine ⟨State.rd_wr_fits _ _ _ _ (by decide) (by decide), ?_, hout⟩
  rw [State.v_setV_same, htime', htime, hstag]

/-! ### BREAK -/

/-- An object is broken. -/
def IsBroken (o : Nat) (s : State) : Prop := s.rd F.SYNC_OBJ_A_BROKEN o = 1

namespace IsBroken

variable {o : Nat}

/-- Work whose scope does not hold the object's word. -/
theorem of_does {G : Foot} {u : State} (h : Does G s u) (hb : IsBroken o s) (hg : G.hasR .SYNC_OBJ_A = false) : IsBroken o u :=
  (h.rd hg _ _).trans hb

theorem when {b : Bool} {f : State → State} (hb : IsBroken o s) (hf : IsBroken o s → IsBroken o (f s)) : IsBroken o (s.when b f) := by
  unfold State.when
  split
  · exact hf hb
  · exact hb

theorem wr_reg (hb : IsBroken o s) {f : Fld} (hf : .SYNC_OBJ_A ≠ f.r) (v i j : Nat) : IsBroken o (s.wr f v i j) :=
  (State.rd_wr_reg _ _ _ _ _ _ _ _ hf).trans hb

/-- A claim changes the object's generation, and its flag or value. -/
theorem claim (hb : IsBroken o s) (w : Watch) : IsBroken o (s.claim w) := by
  have hdir (u : State) (g : Nat) (hu : IsBroken o u) : IsBroken o (u.syncDir w g 0) :=
    of_does (Does.syncDir (Does.refl _ u) (Foot.le_refl _) _ _ _) hu (by decide)
  unfold State.claim
  dsimp only
  refine (State.rd_wr_apart _ _ _ _ _ _ _ _ (by decide) (by decide)).trans ?_
  split
  · exact (State.rd_wr_reg _ _ _ _ _ _ _ _ (by decide)).trans (hdir _ _ hb)
  · exact (State.rd_wr_reg _ _ _ _ _ _ _ _ (by decide)).trans (hdir _ _ hb)

theorem fire (hb : IsBroken o s) (p gen st shape : Nat) (sel : Watch → Bool) : IsBroken o (s.fire p gen st shape sel) :=
  of_does (Does.fire (Does.refl _ s) (Foot.le_refl _) _ _ _ _ _) hb (by decide)

theorem semServe (p : Nat) : ∀ (k : Nat) {s : State}, IsBroken o s → IsBroken o (s.semServe p k)
  | 0, _, hb => hb
  | k + 1, s, hb => by
    unfold State.semServe
    split
    · exact hb
    · split
      · exact semServe p k (hb.claim _)
      · exact hb.fire _ _ _ _ _

theorem flagServe (hb : IsBroken o s) (p : Nat) : IsBroken o (s.flagServe p) := by
  unfold State.flagServe
  split
  · split
    · exact hb.claim _
    · exact hb
  · exact hb

theorem claimBack (hb : IsBroken o s) (w : Watch) : IsBroken o (s.claimBack w) := by
  unfold State.claimBack
  dsimp only
  split
  · exact semServe _ _ ((State.rd_wr_reg _ _ _ _ _ _ _ _ (by decide)).trans hb)
  · split
    · exact flagServe ((State.rd_wr_reg _ _ _ _ _ _ _ _ (by decide)).trans hb) _
    · exact hb

theorem syncAbsent (hb : IsBroken o s) (d : Nat) : IsBroken o (s.syncAbsent d) :=
  State.each_keeps (P := IsBroken o) ((State.rd_wr_reg _ _ _ _ _ _ _ _ (by decide)).trans hb) fun _ _ _ hu => hu.claimBack _

/-- A message to a child, and the absence of one that the guard drops. -/
theorem sendDown (hb : IsBroken o s) (d typ m : Nat) :
    IsBroken o (if (s.sendDown d typ m).1 then (s.sendDown d typ m).2 else (s.sendDown d typ m).2.syncAbsent d) := by
  have hd : IsBroken o (s.sendDown d typ m).2 := of_does (Does.sendDown (Does.refl _ s) (Foot.le_refl _) _ _ _) hb (by decide)
  split
  · exact hd
  · exact hd.syncAbsent d

/-- An object breaks. -/
theorem objBreak_self (s : State) (o : Nat) : IsBroken o (s.objBreak o) := by
  unfold State.objBreak
  dsimp only
  refine when ?_ fun hu => of_does (Does.shapeCancel (Does.refl _ _) (Foot.le_refl _) _) hu (by decide)
  exact State.each_keeps (P := IsBroken o) (State.rd_wr_fits _ _ _ _ (by decide) (by decide)) fun _ _ _ hu => hu.fire _ _ _ _ _

theorem objBreak (hb : IsBroken o s) (p : Nat) : IsBroken o (s.objBreak p) := by
  by_cases he : o = p
  · rw [he]
    exact objBreak_self s p
  · unfold State.objBreak
    dsimp only
    refine when ?_ fun hu => of_does (Does.shapeCancel (Does.refl _ _) (Foot.le_refl _) _) hu (by decide)
    refine State.each_keeps (P := IsBroken o) ?_ fun _ _ _ hu => hu.fire _ _ _ _ _
    refine (State.rd_wr_ne _ _ _ _ _ _ _ _ (by simp [he])).trans ?_
    exact of_does (Does.syncFrame (Does.refl _ s) (Foot.le_refl _) _ _ _ _) hb (by decide)

theorem spanBreakAll (hb : IsBroken o s) (tag : Nat → Bool) (reason : Nat) (skip : Option Nat) : IsBroken o (s.spanBreakAll tag reason skip) := by
  unfold State.spanBreakAll
  dsimp only
  refine State.each_keeps (P := IsBroken o) ?_ fun u x _ hu => ?_
  · exact State.each_keeps (P := IsBroken o) hb fun _ _ _ hu => when hu fun hv => hv.objBreak _
  · exact State.each_keeps (P := IsBroken o) hu fun _ _ _ hv => hv

theorem portDown (hb : IsBroken o s) (n : Nat) : IsBroken o (s.portDown n) := by
  have hshow : IsBroken o (s.fallRecord n) :=
    (State.rd_wr_reg _ _ _ _ _ _ _ _ (by decide)).trans ((State.rd_portShow _ _ (by decide)).trans hb)
  have hleave {u : State} (hu : IsBroken o u) : IsBroken o (u.portLeaves n Br.lost false) := by
    unfold State.portLeaves
    dsimp only
    refine when ?_ fun hv => ?_
    · refine of_does (Does.leasePortDown (Does.refl _ _) (Foot.le_refl _) _ _) ?_ (by decide)
      exact when hu fun hv => hv.spanBreakAll _ _ _
    · exact hv.wr_reg (f := F.DXL_TIME_SYS_OFS) (by decide) _ _ _
  unfold State.portDown
  dsimp only
  split
  · exact hb
  · exact when (when hshow hleave) fun hu => (State.rd_event _ _ (by decide)).trans hu

theorem syncSend (hb : IsBroken o s) (x : SyncOut) : IsBroken o (s.syncSend x) := by
  cases x with
  | rel c i g st sh =>
    simp only [State.syncSend]
    unfold State.toHubChildren
    refine State.each_keeps (P := IsBroken o) hb fun u d _ hu => ?_
    exact hu.sendDown d Mt.syncMsg _
  | dir c i g st l core wid wake =>
    simp only [State.syncSend]
    split
    · exact hb
    · exact hb.sendDown _ _ _
  | ans p addr st => exact of_does (Does.answerD (Does.refl _ s) (Foot.le_refl _) _ _ _ _ _) hb (by decide)
  | fin p => exact of_does (Does.riseSent (Does.refl _ s) (Foot.le_refl _) _) hb (by decide)
  | frm m typ body =>
    have hf : IsBroken o (s.frameOut m typ body) := of_does (Does.frameOut (Does.refl _ s) (Foot.le_refl _) _ _ _) hb (by decide)
    simp only [State.syncSend]
    split
    · exact hf.portDown _
    · exact hf

theorem syncFlush (hb : IsBroken o s) : IsBroken o s.syncFlush := State.syncFlush_keeps (P := IsBroken o) (fun _ _ hu => hu) (fun _ x hu => hu.syncSend x) hb

end IsBroken

/-- A BREAK of one object that stands breaks it. -/
theorem answers_breakFrame {obj c : Nat} (k : LinkOk s h) (hs : s.slotOf obj = some c) (hp : s.treePorts.contains h.port = true)
    (hl : s.spanLive obj = true) (t gen reason : Nat) :
    Answers (.breakFrame t h obj gen (s.rd F.DXL_JOB_JOB c) false reason) s fun u => u.rd F.SYNC_OBJ_A_BROKEN obj = 1 := by
  refine ⟨_, congrArg Host.Outcome.next (State.frameIn_taken k t _), IsBroken.syncFlush ?_⟩
  have hr : ((s.start t).frameTaken h).regs = s.regs := State.regs_frameTaken ..
  have himg : ((s.start t).frameTaken h).img = s.img := State.img_frameTaken ..
  generalize (s.start t).frameTaken h = u at hr himg ⊢
  dsimp only
  rw [State.treePorts_img himg, hp, if_neg (by decide), if_neg (by decide), ← State.rd_regs hr,
    State.jobMatch_same ((State.slotOf_regs hr _).trans hs), State.spanLive_regs hr, if_pos hl]
  exact State.each_keeps (P := IsBroken obj) (IsBroken.objBreak_self _ _) fun _ _ _ hv => hv

/-- A BREAK with ALL breaks every spanning object of its job. -/
theorem answers_breakFrame_all {job : Nat} (k : LinkOk s h) (hp : s.treePorts.contains h.port = true) (t obj gen reason : Nat) :
    Answers (.breakFrame t h obj gen job true reason) s fun u =>
      ∀ o ∈ s.spans, ∀ c, s.slotOf o = some c → s.rd F.DXL_JOB_JOB c = job → u.rd F.SYNC_OBJ_A_BROKEN o = 1 := by
  refine ⟨_, congrArg Host.Outcome.next (State.frameIn_taken k t _), fun o ho c hs hj => IsBroken.syncFlush ?_⟩
  have hr : ((s.start t).frameTaken h).regs = s.regs := State.regs_frameTaken ..
  have himg : ((s.start t).frameTaken h).img = s.img := State.img_frameTaken ..
  generalize (s.start t).frameTaken h = u at hr himg ⊢
  dsimp only
  rw [State.treePorts_img himg, hp, if_neg (by decide), if_pos rfl]
  refine State.each_keeps (P := IsBroken o) ?_ fun _ _ _ hv => hv
  refine State.each_sets (P := IsBroken o) (x := o) ?_ (fun v => ?_) fun v y _ hv => ?_
  · refine List.mem_filter.mpr ⟨State.spans_regs hr ▸ ho, ?_⟩
    simp [State.slotOf_regs hr, hs, State.rd_regs hr, hj]
  · split
    · next hb => exact Nat.eq_of_beq_eq_true hb
    · exact IsBroken.objBreak_self _ _
  · split
    · exact hv
    · exact hv.objBreak _

/-! ### System time -/

theorem answers_tsyncSend {n : Nat} (hu : s.hubUp = true) (hp : s.treeParent = some n) (hn : s.portUp n = true) {t : Nat}
    (hd : s.vn .tsAt + 1000 * s.lnk 0x0032 2 10 ≤ max s.time t) (hq : s.rd F.DXL_PORT_A_TX_SEQ n ≠ 0xFFFF_FFFF) :
    Answers (.tsyncSend t) s fun u => Out.frame n Ft.timeSync (ofSigned 64 (s.start t).sysTime) ∈ u.out ∧ u.v .tsAt = (max s.time t : Nat)
      ∧ u.v .tsT1 = (ofSigned 64 (s.start t).sysTime + 1 : Nat) := by
  have hdue : ((s.start t).hubUp && (s.start t).portUp n
      && Nat.ble ((s.start t).vn .tsAt + 1000 * (s.start t).lnk 0x0032 2 10) (s.start t).time) = true := by
    rw [Bool.and_eq_true, Bool.and_eq_true]
    exact ⟨⟨hu, hn⟩, Nat.ble_eq_true_of_le hd⟩
  have hexec : exec (.tsyncSend t) s = .next ((((s.start t).setV .tsAt (s.start t).time).setV .tsT1
      (ofSigned 64 (s.start t).sysTime + 1 : Nat)).frameOut n Ft.timeSync (ofSigned 64 (s.start t).sysTime)) := by
    have he : (s.start t).treeParent = some n := hp
    change (match (s.start t).treeParent with | none => _ | some n => _) = _
    rw [he]
    exact congrArg Host.Outcome.next (if_pos hdue)
  refine ⟨_, hexec, ?_⟩
  generalize ofSigned 64 (s.start t).sysTime = m
  rw [State.frameOut_of_up (by exact Nat.eq_of_beq_eq_true hn) (by exact hq)]
  refine ⟨List.mem_append_right _ (List.mem_singleton.mpr rfl), ?_, ?_⟩
  · refine (State.v_setV_var _ _ _ _ _ _ _ _ (by decide)).trans ?_
    rw [State.incWrap, State.v_wr, State.v_emit, State.v_setV_var _ _ _ _ _ _ _ _ (by decide), State.v_setV_same]
    rfl
  · rw [State.v_setV_var _ _ _ _ _ _ _ _ (by decide), State.incWrap, State.v_wr, State.v_emit, State.v_setV_same]

theorem answers_timeSyncRequest (k : LinkOk s h) (hc : s.sync.cur = []) (hn : s.portUp h.port = true)
    (hq : s.rd F.DXL_PORT_A_TX_SEQ h.port ≠ 0xFFFF_FFFF) (t t1 : Nat) :
    Answers (.timeSyncRequest t h t1) s fun u =>
      Out.frame h.port Ft.timeSync (pack [(0, 64, ofSigned 64 (s.start t).sysTime), (96, 32, t1), (128, 1, 1)]) ∈ u.out := by
  refine ⟨_, congrArg Host.Outcome.next (State.frameIn_quiet k hc t (State.part_frameOut (pa := .cur) _ _ _ (by decide))), ?_⟩
  have hr : ((s.start t).frameTaken h).regs = s.regs := State.regs_frameTaken ..
  dsimp only
  rw [((s.start t).sysTime_frameTaken h).1]
  generalize pack _ = m
  rw [State.frameOut_of_up ((State.rd_regs hr _ _ _).trans (Nat.eq_of_beq_eq_true hn)) ((State.rd_regs hr _ _ _).trans_ne hq)]
  exact List.mem_append_right _ (List.mem_singleton.mpr rfl)

/-- What a reply of the parent to the request under way does (15 R454, R455). -/
def State.replyTaken (s : State) (err delay : Int) : State :=
  let ofs := s.sysOfs
  let s := ((s.setV .tsT1 0).wrI F.DXL_TERR_ERR (satS 32 err)).wrSat F.DXL_TERR_DELAY delay
  if s.v .tsFirst = 1 then
    (((s.wrI F.DXL_TIME_SYS_OFS (ofs + err)).setV .tsRem 0).setV .tsFirst 0).flag F.DXL_TERR_STEPPED
  else
    let s := ((s.wrI F.DXL_TIME_SYS_OFS ofs).setV .tsRem err).setV .tsRemAt s.time
    if 50 < err.natAbs then (s.flag F.DXL_TERR_ERR_SEEN).event 0x65 0 else s

theorem State.sync_replyTaken (s : State) (err delay : Int) : (s.replyTaken err delay).sync.cur = s.sync.cur := by
  unfold State.replyTaken
  dsimp only
  split
  · rfl
  · split
    · exact State.part_event (pa := .cur) _ _ (by decide)
    · rfl

/-- The state in which a reply steps or corrects the offset shows the error. -/
theorem State.terr_shown (s : State) (err delay : Int) :
    (((s.setV .tsT1 0).wrI F.DXL_TERR_ERR (satS 32 err)).wrSat F.DXL_TERR_DELAY delay).rdI F.DXL_TERR_ERR = satS 32 err :=
  (State.rdI_congr (State.rd_wr_apart _ F.DXL_TERR_DELAY F.DXL_TERR_ERR _ _ _ _ _ (by decide) (by decide))).trans
    (State.rdI_wrI_satS _ F.DXL_TERR_ERR _ _ _ (by decide) (by decide))

/-- The first reply of a session steps the offset. -/
theorem State.replyTaken_first {err : Int} (delay : Int) (hf : s.v .tsFirst = 1) (hlo : -(2 ^ 63 : Nat) ≤ s.sysOfs + err)
    (hhi : s.sysOfs + err < (2 ^ 63 : Nat)) : (s.replyTaken err delay).rdI F.DXL_TIME_SYS_OFS = s.sysOfs + err
      ∧ (s.replyTaken err delay).v .tsRem = 0 ∧ (s.replyTaken err delay).rd F.DXL_TERR_STEPPED = 1
      ∧ (s.replyTaken err delay).rdI F.DXL_TERR_ERR = satS 32 err := by
  have hf' : (((s.setV .tsT1 0).wrI F.DXL_TERR_ERR (satS 32 err)).wrSat F.DXL_TERR_DELAY delay).v .tsFirst = 1 := by
    rw [State.wrSat, State.v_wr, State.wrI, State.v_wr, State.v_setV_var _ _ _ _ _ _ _ _ (by decide), hf]
  have hshown := s.terr_shown err delay
  unfold State.replyTaken
  dsimp only
  rw [if_pos hf']
  generalize ((s.setV .tsT1 0).wrI F.DXL_TERR_ERR (satS 32 err)).wrSat F.DXL_TERR_DELAY delay = u at hshown ⊢
  refine ⟨?_, ?_, State.rd_flag_one _ _ _ _ rfl (by decide), (State.rdI_congr ?_).trans hshown⟩
  · refine (State.rdI_congr (State.rd_flag_reg _ _ _ _ _ _ _ _ (by decide))).trans ?_
    refine (congrArg (toSigned 64) (State.rd_wr_fits u F.DXL_TIME_SYS_OFS 0 0 (by decide) ?_)).trans (toSigned_ofSigned (by decide) hlo hhi)
    exact BitVec.isLt (BitVec.ofInt 64 (s.sysOfs + err))
  · rw [State.v_flag, State.v_setV_var _ _ _ _ _ _ _ _ (by decide), State.v_setV_same]
  · exact (State.rd_flag_apart _ _ _ _ _ _ _ _ (by decide) (by decide)).trans (State.rd_wr_reg _ _ _ _ _ _ _ _ (by decide))

/-- A later reply corrects by the error, and shows one above 50 ns. -/
theorem State.replyTaken_later {err : Int} (delay : Int) (hf : s.v .tsFirst = 0) : (s.replyTaken err delay).v .tsRem = err
      ∧ (s.replyTaken err delay).rdI F.DXL_TERR_ERR = satS 32 err
      ∧ (50 < err.natAbs → (s.replyTaken err delay).rd F.DXL_TERR_ERR_SEEN = 1) := by
  have hf' : (((s.setV .tsT1 0).wrI F.DXL_TERR_ERR (satS 32 err)).wrSat F.DXL_TERR_DELAY delay).v .tsFirst = 0 := by
    rw [State.wrSat, State.v_wr, State.wrI, State.v_wr, State.v_setV_var _ _ _ _ _ _ _ _ (by decide), hf]
  have hshown := s.terr_shown err delay
  unfold State.replyTaken
  dsimp only
  rw [if_neg (by rw [hf']; decide)]
  generalize ((s.setV .tsT1 0).wrI F.DXL_TERR_ERR (satS 32 err)).wrSat F.DXL_TERR_DELAY delay = u at hshown ⊢
  have hrem : (((u.wrI F.DXL_TIME_SYS_OFS s.sysOfs).setV .tsRem err).setV .tsRemAt u.time).v .tsRem = err :=
    (State.v_setV_var _ _ _ _ _ _ _ _ (by decide)).trans (State.v_setV_same ..)
  have herr : (((u.wrI F.DXL_TIME_SYS_OFS s.sysOfs).setV .tsRem err).setV .tsRemAt u.time).rd F.DXL_TERR_ERR = u.rd F.DXL_TERR_ERR :=
    State.rd_wr_reg _ _ _ _ _ _ _ _ (by decide)
  split
  · refine ⟨?_, (State.rdI_congr ?_).trans hshown, fun _ => ?_⟩
    · exact (State.v_event _ _ (by decide)).trans hrem
    · exact (State.rd_event _ _ (by decide)).trans ((State.rd_flag_apart _ _ _ _ _ _ _ _ (by decide) (by decide)).trans herr)
    · exact (State.rd_event _ _ (by decide)).trans (State.rd_flag_one _ _ _ _ rfl (by decide))
  · next hb => exact ⟨hrem, (State.rdI_congr herr).trans hshown, fun h50 => absurd h50 hb⟩

/-- The reply of the parent to the request under way is taken. -/
theorem exec_timeSyncReply {t d32 t1lo : Nat} {t2 err : Int} (k : LinkOk s h) (hc : s.sync.cur = []) (hp : s.treeParent = some h.port)
    (hst : s.portSt h.port = Lk.up) (ht : s.v .tsT1 ≠ 0) (hlo : (s.vn .tsT1 - 1) % 2 ^ 32 = t1lo % 2 ^ 32)
    (he : err = roundDiv ((t2 - toSigned 64 (s.vn .tsT1 - 1)) + (t2 + d32 - (s.start t).sysTime)) 2) :
    ∃ delay, exec (.timeSyncReply t h t2 d32 t1lo) s = .next (((s.start t).frameTaken h).replyTaken err delay) := by
  have hv : ((s.start t).frameTaken h).v .tsT1 = s.v .tsT1 := State.v_frameTaken _ _ (by decide) (by decide) (by decide) _ _
  have hpar : ((s.start t).frameTaken h).treeParent = some h.port := (State.treeParent_img (State.img_frameTaken ..)).trans hp
  have hup : ((s.start t).frameTaken h).portSt h.port = Lk.up := (State.portSt_frameTaken ..).trans hst
  have htime := ((s.start t).sysTime_frameTaken h).1
  have hcur := State.sync_frameTaken (s.start t) h
  refine ⟨roundDiv (((s.start t).sysTime - toSigned 64 (s.vn .tsT1 - 1)) - d32) 2,
    congrArg Host.Outcome.next ((State.frameIn_taken k t _).trans ?_)⟩
  generalize (s.start t).frameTaken h = u at hv hpar hup htime hcur ⊢
  have hvn : u.vn .tsT1 = s.vn .tsT1 := congrArg Int.toNat hv
  dsimp only
  rw [hvn, htime, if_neg (by rw [hlo]; simp [hpar, hup, hv, ht]), ← he]
  refine State.syncFlush_nil ((State.sync_replyTaken u err _).trans ?_)
  rw [hcur]
  exact hc

end

/-- Settles O45: each frame of the object's job has its effect on the object, and each reply on the offset of the system time. -/
theorem spanningBarriersAndSystemTime : Obligations.SpanningBarriersAndSystemTime := by
  unfold Obligations.SpanningBarriersAndSystemTime
  refine ⟨fun _ t _ _ _ _ k hcur hs hc hl hu hg => answers_arrive_present k hcur hs hc hl hu hg t,
    fun _ t _ _ _ _ k hcur hs hc hl hg => answers_arrive_next k hcur hs hc hl hg t,
    fun _ t _ _ _ _ k hcur hs hc hl hu hb hall hp hn hm hq hx => answers_arrive_parent k hcur hs hc hl hu hb hall hp hn hm hq hx t, ?_,
    fun _ t _ _ _ k hcur hs hp hl hu hst => answers_releaseFrame k hcur hs hp hl hu hst t,
    fun _ t _ gen reason _ _ k _ hs hp hl => answers_breakFrame k hs hp hl t gen reason,
    fun _ t obj gen _ reason _ k _ hp => answers_breakFrame_all k hp t obj gen reason,
    fun _ _ _ hu hp hn hd hq => answers_tsyncSend hu hp hn hd hq, fun _ t t1 _ k hc hn hq => answers_timeSyncRequest k hc hn hq t t1, ?_, ?_⟩
  · intro s t obj gen job c h k hcur hs hj i hi
    simp only [List.mem_cons, List.not_mem_nil, or_false] at hi
    obtain rfl | rfl := hi
    · exact answers_frame_other_job k hcur hs hj t _ _ rfl
    · exact answers_frame_other_job k hcur hs hj t _ _ rfl
  · intro s t d32 t1lo t2 err h k hc hp hst ht hlo he h1 h2 hf
    obtain ⟨delay, hexec⟩ := exec_timeSyncReply k hc hp hst ht hlo he
    have hofs := ((s.start t).sysTime_frameTaken h).2
    have hfirst : ((s.start t).frameTaken h).v .tsFirst = 1 := (State.v_frameTaken _ _ (by decide) (by decide) (by decide) _ _).trans hf
    exact ⟨_, hexec, hofs ▸ State.replyTaken_first delay hfirst (hofs.symm ▸ h1) (hofs.symm ▸ h2)⟩
  · intro s t d32 t1lo t2 err h k hc hp hst ht hlo he hf
    obtain ⟨delay, hexec⟩ := exec_timeSyncReply k hc hp hst ht hlo he
    have hfirst : ((s.start t).frameTaken h).v .tsFirst = 0 := (State.v_frameTaken _ _ (by decide) (by decide) (by decide) _ _).trans hf
    exact ⟨_, hexec, State.replyTaken_later delay hfirst⟩

end Sys2Proof.Machine

/-!
PROOFS. What a command has sent stays sent: the budgets that a change of a commit sends down come after it (05 R159, R161; 06 R181).
-/
namespace Sys2Proof.Machine

/-- An item is among what the command sends. -/
def Sent (o : Out) (s : State) : Prop := o ∈ s.out

theorem eventKeeps_sent (o : Out) : EventKeeps (Sent o) where
  levels _ _ h := h
  trc _ _ h := h
  var _ _ _ _ _ h := h
  wr _ _ _ _ _ _ h := h
  now _ _ h := h
  latch _ _ h := h
  pend _ _ h := h
  ibi _ _ h := List.mem_append_left _ h

namespace Sent

variable {o : Out} {s : State}

theorem send (h : Sent o s) (e : ChEnd) (typ payload : Nat) : Sent o (s.send e typ payload) := by
  unfold State.send
  split
  · exact List.mem_append_left _ h
  · split
    · exact h
    · exact h

theorem wr (h : Sent o s) (f : Fld) (v i j : Nat) : Sent o (s.wr f v i j) := h

theorem when {b : Bool} {f : State → State} (h : Sent o s) (hf : ∀ u, Sent o u → Sent o (f u)) : Sent o (s.when b f) := State.when_holds h hf

theorem each {α : Type} {l : List α} {f : State → α → State} (h : Sent o s) (hf : ∀ u x, Sent o u → Sent o (f u x)) : Sent o (s.each l f) :=
  State.each_keeps h fun u x _ => hf u x

theorem frame (h : Sent o s) (cls kind src time d0 d1 : Nat) : Sent o (s.frame cls kind src time d0 d1) :=
  (eventKeeps_sent o).frame h ..

theorem frameOut (h : Sent o s) (n typ body : Nat) : Sent o (s.frameOut n typ body) := by
  unfold State.frameOut
  split
  · exact h
  · split
    · exact h
    · exact List.mem_append_left _ h

/-- The frame of a port that is UP and whose SEQ is not used up. -/
theorem of_frameOut {n : Nat} (hst : s.portSt n = Lk.up) (hq : s.rd F.DXL_PORT_A_TX_SEQ n ≠ 0xFFFF_FFFF) (typ body : Nat) :
    Sent (.frame n typ body) (s.frameOut n typ body) := by
  rw [State.frameOut_of_up hst hq]
  exact List.mem_append_right _ (List.mem_singleton.mpr rfl)

/-! ### Budgets -/

theorem grantSend (h : Sent o s) (d child k cls rail : Nat) (a : Option Nat) : Sent o (s.grantSend d child k cls rail a) := by
  unfold State.grantSend
  extract_lets g u w
  have hw : Sent o w := by
    unfold w
    split
    · exact h
    · split
      · exact h
      · exact h
  exact (hw.frame ..).send ..

theorem grantsOut (h : Sent o s) (d cls rail : Nat) (l : List (Nat × Nat × Option Nat)) : Sent o (s.grantsOut d cls rail l) :=
  each h fun _ _ hu => hu.grantSend ..

theorem split (h : Sent o s) (d cls rail : Nat) : Sent o (s.split d cls rail) := by
  have hshort (u : State) (hu : Sent o u) : Sent o ((if d = hubDom then u.flag F.HUB_CAPS_SHORT else
      u.flag F.NODE_SPLIT_STAT_SHORT (domNum d)).evFrom d 0x1B d) := by
    unfold State.evFrom
    split
    · rw [if_pos rfl]
      exact (eventKeeps_sent o).eventD (s := u.flag F.HUB_CAPS_SHORT) hu ..
    · exact send (s := u.flag F.NODE_SPLIT_STAT_SHORT (domNum d)) hu ..
  have hsurplus (u : State) (x : Nat) (hu : Sent o u) :
      Sent o (if d = hubDom then u.wrSat F.HUB_CAPS_SURPLUS x else u.wrSat F.NODE_SPLIT_STAT_SURPLUS x (domNum d)) := by
    split <;> exact hu
  unfold State.split
  split
  · exact h
  · split
    · exact h.grantsOut ..
    · split
      · exact h.grantsOut ..
      · dsimp only
        exact (when (when h hshort) fun u hu => hsurplus u _ hu).grantsOut ..

theorem appliedOut (h : Sent o s) (d cls rail : Nat) : Sent o (s.appliedOut d cls rail) := by
  refine each h fun u l hu => ?_
  split
  · exact hu
  · split
    · exact hu
    · exact hu.send ..

theorem budgetShow (h : Sent o s) (d : Nat) : Sent o (s.budgetShow d) := by
  unfold State.budgetShow
  dsimp only
  split
  · exact h
  · split
    · exact each (s := (s.wr F.LEAF_BUDGET_AVG _ _).wr F.LEAF_BUDGET_FAST _ _) h fun _ _ hu => hu
    · exact h

theorem coreConvert (h : Sent o s) (l : Nat) : Sent o (s.coreConvert l) := each h fun _ _ hu => hu

theorem convert (h : Sent o s) (l : Nat) : Sent o (s.convert l) := by
  unfold State.convert
  extract_lets rails u v w cls parts partOf x
  have hw : Sent o w := each (s := u) h fun _ _ hu => hu
  have hx : Sent o x := each hw fun _ _ hu => hu
  split
  · exact hw
  · split
    · exact hw.coreConvert l
    · refine each hx fun y q hy => ?_
      refine wr (each hy fun z c hz => ?_) ..
      split <;> exact hz

theorem budgetSet (h : Sent o s) (d cls rail : Nat) (loop a : Option Nat) : Sent o (s.budgetSet d cls rail loop a) := by
  unfold State.budgetSet
  extract_lets old u v new w
  have hv : Sent o v := budgetShow (s := u) h d
  have hw : Sent o w := when hv fun _ hu => hu.appliedOut ..
  split
  · exact hw.convert _
  · exact when hw fun _ hu => hu.split ..

theorem commitTo (h : Sent o s) (host dest cls rail loop : Nat) (a : Option Nat) : Sent o (s.commitTo host dest cls rail loop a).2 := by
  unfold State.commitTo
  split
  · exact h.budgetSet ..
  · split
    · exact h
    · exact h.send ..

/-! ### Leases -/

theorem leaseAdjust (h : Sent o s) : Sent o s.leaseAdjust := each h fun _ _ hu => hu.commitTo ..

theorem leaseSet (h : Sent o s) (n amt : Nat) (lender : Bool) : Sent o (s.leaseSet n amt lender) := by
  unfold State.leaseSet
  extract_lets d u v w
  have hv : Sent o v := by
    unfold v
    split <;> exact h
  exact when (s := w) hv fun _ hu => hu.leaseAdjust

end Sent

end Sys2Proof.Machine

/-!
PROOFS. Budget leases between packages (15 R462 to R466).
-/
namespace Sys2Proof.Machine

section
variable {s : State} {t n : Nat}

/-! ### A port's lease -/

/-- Of the ports' words a new lease changes the amount and the lender of its port. -/
theorem State.port_leaseSet (s : State) (n amt : Nat) (lender : Bool) (i j : Nat) : (s.leaseSet n amt lender).reg .DXL_PORT_C i j =
    ((s.wr F.DXL_PORT_C_LEASE amt n).wr F.DXL_PORT_C_LENDER (b2n lender) n).reg .DXL_PORT_C i j := by
  unfold State.leaseSet
  refine (State.reg_when_keeps fun u => State.reg_leaseAdjust (s := u) (by decide)).trans ?_
  refine (State.reg_wr_reg _ _ _ _ _ _ _ _ (by decide)).trans ((State.reg_wr_reg _ _ _ _ _ _ _ _ (by decide)).trans ?_)
  split
  · rfl
  · rfl

theorem State.leaseAmt_leaseSet (s : State) (n amt : Nat) (lender : Bool) :
    (s.leaseSet n amt lender).leaseAmt n = amt % 2 ^ F.DXL_PORT_C_LEASE.w :=
  (State.rd_congr (State.port_leaseSet ..)).trans
    ((State.rd_wr_apart _ _ _ _ _ _ _ _ (by decide) (by decide)).trans (State.rd_wr_same _ _ _ _ _ (by decide)))

theorem State.lends_leaseSet (s : State) (n amt : Nat) (lender : Bool) : (s.leaseSet n amt lender).lends n = lender := by
  have h : (s.leaseSet n amt lender).rd F.DXL_PORT_C_LENDER n = b2n lender := by
    refine (State.rd_congr (State.port_leaseSet ..)).trans (State.rd_wr_fits _ _ _ _ (by decide) ?_)
    cases lender <;> decide
  rw [State.lends, State.is, h]
  cases lender <;> rfl

/-- The other fields of the port's word stay. -/
theorem State.lseq_leaseSet (s : State) (n amt : Nat) (lender : Bool) :
    (s.leaseSet n amt lender).rd F.DXL_PORT_C_LSEQ n = s.rd F.DXL_PORT_C_LSEQ n :=
  (State.rd_congr (State.port_leaseSet ..)).trans
    ((State.rd_wr_apart _ _ _ _ _ _ _ _ (by decide) (by decide)).trans (State.rd_wr_apart _ _ _ _ _ _ _ _ (by decide) (by decide)))

/-- A lease that ends leaves nothing, and no recall. -/
theorem State.leaseEnd_ends (s : State) (n : Nat) (lost : Bool) : (s.leaseEnd n lost).leaseAmt n = 0 ∧ (s.leaseEnd n lost).v .lsRecall n = 0 := by
  unfold State.leaseEnd
  dsimp only
  refine ⟨(State.rd_when_keeps fun u => State.rd_event _ _ (by decide)).trans ?_,
    (State.v_when_keeps fun u => State.v_event _ _ (by decide)).trans ?_⟩
  rotate_left
  · rw [State.v_wr, State.v_setV_same]
  refine (State.rd_wr_apart _ _ _ _ _ _ _ _ (by decide) (by decide)).trans ((State.leaseAmt_leaseSet ..).trans ?_)
  exact Nat.zero_mod _

/-! ### Frames of a lease -/

theorem State.dxl?_frameTaken (s : State) (h : FrameHdr) : (s.frameTaken h).dxl? = s.dxl? := State.dxl?_img (State.img_frameTaken ..)

theorem State.leasePorts_frameTaken (s : State) (h : FrameHdr) : (s.frameTaken h).leasePorts = s.leasePorts := by
  rw [State.leasePorts, State.leasePorts, State.dxl?_frameTaken]

theorem State.lseqNew_frameTaken (s : State) (h : FrameHdr) (n q : Nat) : (s.frameTaken h).lseqNew n q = s.lseqNew n q := by
  unfold State.lseqNew State.vn
  rw [State.v_frameTaken _ _ (by decide) (by decide) (by decide)]

/-- A frame that its port takes and whose effect gathers nothing. -/
theorem exec_frame {h : FrameHdr} {i : Instr} {f : State → State} {u : State} (k : LinkOk s h) (hc : s.sync.cur = [])
    (hi : exec i s = .next ((s.start t).frameIn h f)) (hu : f ((s.start t).frameTaken h) = u)
    (hs : u.sync.cur = ((s.start t).frameTaken h).sync.cur) : exec i s = .next u := by
  subst hu
  exact hi.trans (congrArg Host.Outcome.next (State.frameIn_quiet k hc t hs))

theorem answers_leaseOffer {h : FrameHdr} {d : DxlConfig} {feed : Nat} (k : LinkOk s h) (hc : s.sync.cur = []) (hd : s.dxl? = some d)
    (hf : d.feed = feed % 2 ^ 16) (hl : s.leasePorts.contains h.port = true) (spare want : Nat) :
    Answers (.leaseOffer t h spare want feed) s fun u =>
      u.v .ofSpare h.port = (spare % 2 ^ 32 : Nat) ∧ u.v .ofWant h.port = (want % 2 ^ 32 : Nat) := by
  have he : ((s.start t).frameTaken h).offerTake h.port (spare % 2 ^ 32) (want % 2 ^ 32) (feed % 2 ^ 16) =
      (((s.start t).frameTaken h).setV .ofSpare (spare % 2 ^ 32 : Nat) h.port).setV .ofWant (want % 2 ^ 32 : Nat) h.port := by
    have hd' : ((s.start t).frameTaken h).dxl? = some d := (State.dxl?_frameTaken ..).trans hd
    have hl' : ((s.start t).frameTaken h).leasePorts.contains h.port = true := (State.leasePorts_frameTaken (s.start t) h).symm ▸ hl
    unfold State.offerTake
    rw [hd', hl']
    dsimp only
    rw [hf, if_pos (by simp)]
  refine ⟨_, exec_frame k hc rfl he rfl, ?_, State.v_setV_same ..⟩
  exact (State.v_setV_var _ _ _ _ _ _ _ _ (by decide)).trans (State.v_setV_same ..)

/-- A frame with an old LSEQ changes nothing of the lease. -/
theorem answers_old_lseq {h : FrameHdr} (k : LinkOk s h) (hc : s.sync.cur = []) {i : Instr} {f : State → State}
    (hi : exec i s = .next ((s.start t).frameIn h f)) (hf : f ((s.start t).frameTaken h) = (s.start t).frameTaken h) :
    Answers i s fun u => u.reg .DXL_PORT_C h.port = s.reg .DXL_PORT_C h.port ∧ u.v .lsRecall h.port = s.v .lsRecall h.port := by
  refine ⟨_, exec_frame k hc hi hf rfl, ?_, ?_⟩
  · exact State.reg_frameTaken ..
  · exact State.v_frameTaken _ _ (by decide) (by decide) (by decide) _ _

/-- The state in which a new LEASE_GRANT or LEASE_RECALL has its effect. -/
def State.lseqTaken (s : State) (h : FrameHdr) (q : Nat) : State := (s.frameTaken h).lseqTake h.port q

theorem State.port_lseqTaken (s : State) (h : FrameHdr) (q : Nat) : (s.lseqTaken h q).leaseAmt h.port = s.leaseAmt h.port
    ∧ (s.lseqTaken h q).lends h.port = s.lends h.port := by
  have hreg := s.regs_frameTaken h
  have hrd (f : Fld) (hf : f.r = F.DXL_PORT_C_LSEQ.r) (ha : f.lsb + f.w ≤ F.DXL_PORT_C_LSEQ.lsb) :
      (s.lseqTaken h q).rd f h.port = s.rd f h.port :=
    (State.rd_wr_apart _ _ _ _ _ _ _ _ (by decide) (.inl ha)).trans (State.rd_regs hreg f _ _)
  refine ⟨hrd _ rfl (by decide), ?_⟩
  rw [State.lends, State.is, hrd F.DXL_PORT_C_LENDER rfl (by decide)]
  rfl

theorem State.lseq_lseqTaken (s : State) (h : FrameHdr) (q : Nat) : (s.lseqTaken h (q % 2 ^ 16)).rd F.DXL_PORT_C_LSEQ h.port = q % 2 ^ 16 :=
  State.rd_wr_fits _ _ _ _ (by decide) (Nat.mod_lt _ (by decide))

theorem State.sysOfs_lseqTaken (s : State) (h : FrameHdr) (q : Nat) : (s.lseqTaken h q).sysOfs = s.sysOfs := by
  refine Eq.trans ?_ (s.sysTime_frameTaken h).2
  have hv (x : Var) (hx : x ≠ .lsAcc) (i : Nat) : (s.lseqTaken h q).v x i = (s.frameTaken h).v x i := State.v_setV_var _ _ _ _ _ _ _ _ hx
  have hr : (s.lseqTaken h q).rd F.DXL_TIME_SYS_OFS = (s.frameTaken h).rd F.DXL_TIME_SYS_OFS := State.rd_wr_reg _ _ _ _ _ _ _ _ (by decide)
  have htime : (s.lseqTaken h q).time = (s.frameTaken h).time := rfl
  simp only [State.sysOfs, State.vn, State.rdI, hv _ (show Var.tsRemAt ≠ .lsAcc by decide), hv _ (show Var.tsRem ≠ .lsAcc by decide), hr, htime]

theorem State.grantTake_new {h : FrameHdr} {q : Nat} (hl : s.leasePorts.contains h.port = true) (hq : s.lseqNew h.port q = true)
    (amt : Nat) (texp : Int) : (s.frameTaken h).grantTake h.port amt q texp =
      if s.lends h.port || decide (amt < s.leaseAmt h.port) then ((s.lseqTaken h q).incSat F.DXL_PORT_B_LFAULT 1 h.port).leaseEnd h.port true
      else (((s.lseqTaken h q).leaseSet h.port amt false).setV .lsEnd (texp - s.sysOfs) h.port).when
        (decide ((((s.lseqTaken h q).leaseSet h.port amt false).setV .lsEnd (texp - s.sysOfs) h.port).v .lsRecall h.port = 0))
        fun s => s.wrI F.DXL_PORT_D_T_END texp h.port := by
  obtain ⟨hamt, hlends⟩ := s.port_lseqTaken h q
  have hofs := s.sysOfs_lseqTaken h q
  unfold State.lseqTaken at hamt hlends hofs ⊢
  unfold State.grantTake
  dsimp only
  rw [State.leasePorts_frameTaken, State.lseqNew_frameTaken, hl, hq, if_neg (by decide), hamt, hlends, hofs]

theorem answers_leaseGrant {h : FrameHdr} {amt lseq : Nat} (k : LinkOk s h) (hc : s.sync.cur = []) (hl : s.leasePorts.contains h.port = true)
    (hq : s.lseqNew h.port (lseq % 2 ^ 16) = true) (hb : s.lends h.port = false) (ha : s.leaseAmt h.port ≤ amt % 2 ^ 32) (texp : Int) :
    Answers (.leaseGrant t h amt lseq texp) s fun u => u.leaseAmt h.port = amt % 2 ^ 32 ∧ u.lends h.port = false
      ∧ u.v .lsEnd h.port = texp - (s.start t).sysOfs ∧ u.rd F.DXL_PORT_C_LSEQ h.port = lseq % 2 ^ 16 := by
  have ht := State.grantTake_new (s := s.start t) hl hq (amt % 2 ^ 32) texp
  rw [if_neg (by rw [State.lends_start, State.leaseAmt_start, hb]; simpa using ha)] at ht
  refine ⟨_, exec_frame k hc rfl ht ?_, ?_, ?_, ?_, ?_⟩
  · refine (State.part_when (q := .cur) (f := fun s => s.wrI F.DXL_PORT_D_T_END texp h.port) fun _ => rfl).trans ?_
    exact State.part_leaseSet (pa := .cur) _ _ _ (by decide)
  · refine (State.rd_when_keeps fun _ => State.rd_wr_reg _ _ _ _ _ _ _ _ (by decide)).trans ((State.leaseAmt_leaseSet ..).trans ?_)
    exact Nat.mod_mod ..
  · refine (State.is_congr (State.reg_when_keeps fun _ => State.reg_wr_reg _ _ _ _ _ _ _ _ (by decide))).trans ?_
    exact State.lends_leaseSet ((s.start t).lseqTaken h (lseq % 2 ^ 16)) h.port (amt % 2 ^ 32) false
  · exact (State.v_when_keeps (f := fun s => s.wrI F.DXL_PORT_D_T_END texp h.port) fun _ => rfl).trans (State.v_setV_same ..)
  · refine (State.rd_when_keeps fun _ => State.rd_wr_reg _ _ _ _ _ _ _ _ (by decide)).trans ((State.lseq_leaseSet ..).trans ?_)
    exact State.lseq_lseqTaken ..

/-- A grant below the lease ends it, and is counted. -/
theorem answers_leaseGrant_below {h : FrameHdr} {amt lseq : Nat} (k : LinkOk s h) (hc : s.sync.cur = [])
    (hl : s.leasePorts.contains h.port = true) (hq : s.lseqNew h.port (lseq % 2 ^ 16) = true) (ha : amt % 2 ^ 32 < s.leaseAmt h.port)
    (texp : Int) : Answers (.leaseGrant t h amt lseq texp) s fun u => u.leaseAmt h.port = 0
      ∧ u.rd F.DXL_PORT_B_LFAULT h.port = satAddN F.DXL_PORT_B_LFAULT.w (s.rd F.DXL_PORT_B_LFAULT h.port) 1 := by
  have ht := State.grantTake_new (s := s.start t) hl hq (amt % 2 ^ 32) texp
  rw [if_pos (by rw [State.leaseAmt_start, decide_eq_true ha, Bool.or_true])] at ht
  refine ⟨_, exec_frame k hc rfl ht ?_, (State.leaseEnd_ends ..).1, ?_⟩
  · exact State.part_leaseEnd (pa := .cur) _ _ (by decide)
  · refine (State.rd_leaseEnd _ _ (by decide)).trans ((State.rd_incSat_same _ _ _ _ _ (by decide)).trans ?_)
    have hr : ((s.start t).lseqTaken h (lseq % 2 ^ 16)).rd F.DXL_PORT_B_LFAULT h.port = s.rd F.DXL_PORT_B_LFAULT h.port :=
      (State.rd_wr_reg _ _ _ _ _ _ _ _ (by decide)).trans (State.rd_regs (State.regs_frameTaken ..) _ _ _)
    rw [hr]
    rfl

/-- A recall of a lease that is borrowed sets the amount and the time of its effect. -/
theorem State.recallTake_new {h : FrameHdr} {q : Nat} (hl : s.leasePorts.contains h.port = true) (hq : s.lseqNew h.port q = true)
    (hb : s.lends h.port = false) (ha : s.leaseAmt h.port ≠ 0) (amt : Nat) (teff : Int) : (s.frameTaken h).recallTake h.port amt q teff =
      ((((s.lseqTaken h q).setV .lsRecall 1 h.port).setV .lsTo amt h.port).setV .lsEff (teff - s.sysOfs) h.port).wrI
        F.DXL_PORT_D_T_END teff h.port := by
  obtain ⟨hamt, hlends⟩ := s.port_lseqTaken h q
  have hofs := s.sysOfs_lseqTaken h q
  unfold State.lseqTaken at hamt hlends hofs ⊢
  unfold State.recallTake
  dsimp only
  rw [State.leasePorts_frameTaken, State.lseqNew_frameTaken, hl, hq, if_neg (by decide), hamt, hlends, hofs, hb, if_neg (by simpa using ha)]

theorem answers_leaseRecall {h : FrameHdr} {amt lseq : Nat} (k : LinkOk s h) (hc : s.sync.cur = [])
    (hl : s.leasePorts.contains h.port = true) (hq : s.lseqNew h.port (lseq % 2 ^ 16) = true) (hb : s.lends h.port = false)
    (ha : s.leaseAmt h.port ≠ 0) (teff : Int) : Answers (.leaseRecall t h amt lseq teff) s fun u =>
      u.v .lsRecall h.port = 1 ∧ u.v .lsTo h.port = (amt % 2 ^ 32 : Nat) ∧ u.v .lsEff h.port = teff - (s.start t).sysOfs
        ∧ u.leaseAmt h.port = s.leaseAmt h.port := by
  refine ⟨_, exec_frame k hc rfl (State.recallTake_new (s := s.start t) hl hq hb ha _ _) rfl, ?_, ?_, ?_, ?_⟩
  · rw [State.wrI, State.v_wr, State.v_setV_var _ _ _ _ _ _ _ _ (by decide), State.v_setV_var _ _ _ _ _ _ _ _ (by decide), State.v_setV_same]
  · rw [State.wrI, State.v_wr, State.v_setV_var _ _ _ _ _ _ _ _ (by decide), State.v_setV_same]
  · rw [State.wrI, State.v_wr, State.v_setV_same]
  · exact (State.rd_wr_reg _ _ _ _ _ _ _ _ (by decide)).trans ((s.start t).port_lseqTaken h _).1

/-! ### Ends of leases -/

theorem answers_leaseExpiry (hb : s.lends n = false) (ha : 0 < s.leaseAmt n) (he : s.v .lsEnd n ≤ (max s.time t : Nat)) :
    Answers (.leaseExpiry t n) s fun u => u.leaseAmt n = 0 := by
  refine ⟨_, congrArg Host.Outcome.next (if_pos ?_), (State.leaseEnd_ends ..).1⟩
  rw [Bool.and_eq_true, Bool.and_eq_true]
  exact ⟨⟨congrArg (!·) hb, decide_eq_true ha⟩, decide_eq_true he⟩

/-- A lease that a recall has cut, or ended where nothing is left of it. -/
def State.leaseCut (s : State) (n : Nat) (lender : Bool) : State :=
  if s.v .lsTo n = 0 then s.leaseEnd n true
  else ((s.leaseSet n (min (s.leaseAmt n) (s.vn .lsTo n)) lender).setV .lsRecall 0 n).leaseTEnd n (s.v .lsEnd n)

theorem State.leaseCut_cuts (s : State) (n : Nat) (lender : Bool) :
    (s.leaseCut n lender).leaseAmt n = min (s.leaseAmt n) (s.vn .lsTo n) ∧ (s.leaseCut n lender).v .lsRecall n = 0 := by
  unfold State.leaseCut
  split
  · next hz =>
    obtain ⟨hamt, hrec⟩ := s.leaseEnd_ends n true
    refine ⟨hamt.trans ?_, hrec⟩
    rw [State.vn, hz]
    exact (Nat.min_zero _).symm
  · refine ⟨?_, ?_⟩
    · refine (State.rd_leaseTEnd _ _ (by decide)).trans ((State.leaseAmt_leaseSet ..).trans (Nat.mod_eq_of_lt ?_))
      exact lt_of_le_of_lt (Nat.min_le_left _ _) (State.rd_lt ..)
    · exact (State.v_leaseTEnd _ _ (by decide)).trans (State.v_setV_same ..)

theorem answers_recallEffect (hb : s.lends n = false) (hr : s.v .lsRecall n = 1) (he : s.v .lsEff n ≤ (max s.time t : Nat)) :
    Answers (.recallEffect t n) s fun u => u.leaseAmt n = min (s.leaseAmt n) (s.vn .lsTo n) ∧ u.v .lsRecall n = 0 := by
  refine ⟨(s.start t).leaseCut n false, congrArg Host.Outcome.next (if_pos ?_), (s.start t).leaseCut_cuts n false⟩
  rw [Bool.and_eq_true, Bool.and_eq_true]
  exact ⟨⟨congrArg (!·) hb, decide_eq_true hr⟩, decide_eq_true he⟩

theorem exec_leaseGuardExpiry (hb : s.lends n = true) (ha : s.leaseAmt n ≠ 0) : exec (.leaseGuardExpiry t n) s = .next (
    if s.v .lsRecall n = 1 && decide (s.v .lsEff n + 1000 * s.lnk 0x0037 2 1 ≤ (max s.time t : Nat)) then (s.start t).leaseCut n true
    else if s.v .lsEnd n + 1000 * s.lnk 0x0037 2 1 ≤ (max s.time t : Nat) then (s.start t).leaseEnd n (!s.portUp n) else s.start t) := by
  refine congrArg Host.Outcome.next ((if_neg ?_).trans rfl)
  rw [State.lends_start, hb, State.leaseAmt_start, decide_eq_false ha]
  decide

theorem answers_leaseGuard_recalled (hb : s.lends n = true) (ha : s.leaseAmt n ≠ 0) (hr : s.v .lsRecall n = 1)
    (he : s.v .lsEff n + 1000 * s.lnk 0x0037 2 1 ≤ (max s.time t : Nat)) :
    Answers (.leaseGuardExpiry t n) s fun u => u.leaseAmt n = min (s.leaseAmt n) (s.vn .lsTo n) ∧ u.v .lsRecall n = 0 := by
  refine ⟨_, exec_leaseGuardExpiry hb ha, ?_⟩
  rw [if_pos (by rw [decide_eq_true hr, decide_eq_true he]; rfl)]
  exact (s.start t).leaseCut_cuts n true

theorem answers_leaseGuard_ended (hb : s.lends n = true) (ha : s.leaseAmt n ≠ 0) (hr : s.v .lsRecall n ≠ 1)
    (he : s.v .lsEnd n + 1000 * s.lnk 0x0037 2 1 ≤ (max s.time t : Nat)) :
    Answers (.leaseGuardExpiry t n) s fun u => u.leaseAmt n = 0 := by
  refine ⟨_, exec_leaseGuardExpiry hb ha, ?_⟩
  rw [if_neg (by rw [decide_eq_false hr, Bool.false_and]; decide), if_pos he]
  exact (State.leaseEnd_ends ..).1

/-! ### The grid -/

/-- The state at a new cycle of the grid: its offers are still to come. -/
def State.gridBegun (s : State) : State := (s.setV .lsGrid (s.sysTime / 100000)).each (List.range 8) fun s n => s.setV .ofWant 0 n

/-- A new cycle changes only the variables of the grid. -/
theorem State.gridBegun_only (s : State) : ∃ vs, s.gridBegun = { s with vars := vs } :=
  State.each_keeps (P := fun u => ∃ vs, u = { s with vars := vs }) ⟨_, rfl⟩ fun u n _ hu => by
    obtain ⟨vs, rfl⟩ := hu
    exact ⟨_, rfl⟩

theorem State.v_gridBegun (s : State) {x : Var} (hg : x ≠ .lsGrid) (hw : x ≠ .ofWant) (i j : Nat) : s.gridBegun.v x i j = s.v x i j :=
  (State.v_each _ _ _ _ _ _ fun _ _ _ => State.v_setV_var _ _ _ _ _ _ _ _ hw).trans (State.v_setV_var _ _ _ _ _ _ _ _ hg)

theorem State.lsGrid_gridBegun (s : State) : s.gridBegun.v .lsGrid = s.sysTime / 100000 :=
  (State.v_each _ _ _ _ _ _ fun _ _ _ => State.v_setV_var _ _ _ _ _ _ _ _ (by decide)).trans (State.v_setV_same ..)

theorem State.ofWant_gridBegun (s : State) {n : Nat} (hn : n < 8) : s.gridBegun.v .ofWant n = 0 :=
  State.each_sets (P := fun u => u.v .ofWant n = 0) (List.mem_range.mpr hn) (fun _ => State.v_setV_same ..) fun u m _ hu => by
    rw [State.v_setV_if, hu, ite_self]

/-- What a package offers in a cycle in which it lends nothing (15 R462). -/
def State.offers (s : State) (spare want : Nat) : State :=
  let s := (s.wr F.DXL_OFFER_SPARE spare).wr F.DXL_OFFER_WANT want
  let ups := s.leasePorts.filter fun n => s.portUp n
  let seller := ups.find? fun n => decide (0 < s.v .ofSpare n)
  let feed := match s.dxl? with | some d => d.feed | none => 0
  s.each ups fun s n =>
    s.frameOut n Ft.offer (pack [(0, 32, spare), (32, 32, if seller = some n then want else 0), (64, 16, feed)])

theorem State.leaseCheck_nothing (h : s.lentPorts = []) : s.leaseCheck = s := by
  unfold State.leaseCheck
  simp only [h, List.filter_nil, List.isEmpty_nil, if_true]

theorem exec_leaseGrid {spare want : Nat} (hu : s.hubUp = true) (hg : (s.start t).sysTime / 100000 ≠ s.v .lsGrid) (hl : s.lentPorts = [])
    (hw : want = (if s.leaseTrades = true then s.leaseWant else 0))
    (hs : spare = (if s.leaseTrades = false ∨ 0 < s.v .leaseBorrowed ∨ 0 < want then 0 else s.rd F.HUB_CAPS_SURPLUS - s.lnk 0x0036 4 50000)) :
    exec (.leaseGrid t) s = .next ((s.start t).gridBegun.offers spare want) := by
  have hb : (s.start t).gridBegun.v .leaseBorrowed = s.v .leaseBorrowed := (s.start t).v_gridBegun (by decide) (by decide) _ _
  have hexec : exec (.leaseGrid t) s = .next (
      if !(s.start t).gridBegun.hubUp then (s.start t).gridBegun else
      let s := (s.start t).gridBegun.leaseCheck
      let recalls := s.lentPorts.any fun n => decide (s.v .lsRecall n = 1)
      let want := if s.leaseTrades then s.leaseWant else 0
      let spare := if !s.leaseTrades || recalls || decide (0 < s.v .leaseBorrowed) || 0 < want then 0
        else s.rd F.HUB_CAPS_SURPLUS - s.lnk 0x0036 4 50000
      s.offers spare want) := congrArg Host.Outcome.next (if_neg hg)
  obtain ⟨vs, hv⟩ := (s.start t).gridBegun_only
  have hl' : (s.start t).gridBegun.lentPorts = [] := by rw [hv]; exact hl
  have hp : (s.start t).gridBegun.pkg = s.pkg := by rw [hv]; rfl
  have hu' : (s.start t).gridBegun.hubUp = true := by
    unfold State.hubUp at hu ⊢
    rw [hp, State.v_gridBegun _ (by decide) (by decide), State.v_gridBegun _ (by decide) (by decide), State.v_gridBegun _ (by decide) (by decide)]
    exact hu
  have ht' : (s.start t).gridBegun.leaseTrades = s.leaseTrades := by rw [hv]; rfl
  have hw' : (s.start t).gridBegun.leaseWant = s.leaseWant := by rw [hv]; rfl
  have hp' : (s.start t).gridBegun.rd F.HUB_CAPS_SURPLUS = s.rd F.HUB_CAPS_SURPLUS := by rw [hv]; rfl
  have hk' : (s.start t).gridBegun.lnk 0x0036 4 50000 = s.lnk 0x0036 4 50000 := by rw [hv]; rfl
  rw [hexec, State.leaseCheck_nothing hl', hu', if_neg (by decide)]
  dsimp only
  rw [hl', List.any_nil, hb, ht', hw', hp', hk', ← hw, hs]
  congr 2
  refine if_congr ?_ rfl rfl
  cases s.leaseTrades <;> simp

theorem answers_leaseGrid {spare want : Nat} (hu : s.hubUp = true) (hg : (s.start t).sysTime / 100000 ≠ s.v .lsGrid) (hl : s.lentPorts = [])
    (hw : want = (if s.leaseTrades = true then s.leaseWant else 0))
    (hs : spare = (if s.leaseTrades = false ∨ 0 < s.v .leaseBorrowed ∨ 0 < want then 0 else s.rd F.HUB_CAPS_SURPLUS - s.lnk 0x0036 4 50000)) :
    Answers (.leaseGrid t) s fun u => u.v .lsGrid = (s.start t).sysTime / 100000 ∧ u.rd F.DXL_OFFER_SPARE = spare % 2 ^ F.DXL_OFFER_SPARE.w
      ∧ u.rd F.DXL_OFFER_WANT = want % 2 ^ F.DXL_OFFER_WANT.w ∧ (∀ n < 8, u.v .ofWant n = 0)
      ∧ ∀ (d : DxlConfig), s.dxl? = some d → ∀ n ∈ s.leasePorts, s.portUp n = true → s.rd F.DXL_PORT_A_TX_SEQ n ≠ 0xFFFF_FFFF →
          Out.frame n Ft.offer (pack [(0, 32, spare), (32, 32,
            if (s.leasePorts.filter fun n => s.portUp n).find? (fun n => decide (0 < s.v .ofSpare n)) = some n then want else 0), (64, 16, d.feed)]) ∈ u.out := by
  refine ⟨_, exec_leaseGrid hu hg hl hw hs, ?_, ?_, ?_, fun n hn => ?_, fun d hd n hn hp hq => ?_⟩
  · exact (State.v_each _ _ _ _ _ _ fun _ _ _ => State.v_frameOut _ _ _ (by decide)).trans (State.lsGrid_gridBegun _)
  · refine (State.rd_each _ _ _ _ _ _ fun _ _ _ => State.rd_frameOut _ _ _ (by decide)).trans ?_
    exact (State.rd_wr_apart _ _ _ _ _ _ _ _ (by decide) (by decide)).trans (State.rd_wr_same _ _ _ _ _ (by decide))
  · refine (State.rd_each _ _ _ _ _ _ fun _ _ _ => State.rd_frameOut _ _ _ (by decide)).trans ?_
    exact State.rd_wr_same _ _ _ _ _ (by decide)
  · exact (State.v_each _ _ _ _ _ _ fun _ _ _ => State.v_frameOut _ _ _ (by decide)).trans (State.ofWant_gridBegun _ hn)
  · obtain ⟨vs, hv⟩ := (s.start t).gridBegun_only
    have hof (m : Nat) : (s.start t).gridBegun.v .ofSpare m = s.v .ofSpare m := (s.start t).v_gridBegun (by decide) (by decide) _ _
    have hdx : (s.start t).gridBegun.dxl? = s.dxl? := by rw [hv]; rfl
    have hports : (s.start t).gridBegun.leasePorts = s.leasePorts := by rw [hv]; rfl
    have hup (m : Nat) : (s.start t).gridBegun.portUp m = s.portUp m := by rw [hv]; rfl
    have hseq : (s.start t).gridBegun.rd F.DXL_PORT_A_TX_SEQ n = s.rd F.DXL_PORT_A_TX_SEQ n := by rw [hv]; rfl
    generalize (s.start t).gridBegun = g at hof hdx hports hup hseq
    have hr (f : Fld) (hf : f.r ≠ .DXL_OFFER) (i : Nat) : ((g.wr F.DXL_OFFER_SPARE spare).wr F.DXL_OFFER_WANT want).rd f i = g.rd f i :=
      (State.rd_wr_reg _ _ _ _ _ _ _ _ hf).trans (State.rd_wr_reg _ _ _ _ _ _ _ _ hf)
    have hup' (m : Nat) : ((g.wr F.DXL_OFFER_SPARE spare).wr F.DXL_OFFER_WANT want).portUp m = s.portUp m := by
      rw [← hup m, State.portUp, State.portUp, State.portSt, hr _ (by decide)]
      rfl
    have hups : (((g.wr F.DXL_OFFER_SPARE spare).wr F.DXL_OFFER_WANT want).leasePorts.filter fun n =>
        ((g.wr F.DXL_OFFER_SPARE spare).wr F.DXL_OFFER_WANT want).portUp n) = s.leasePorts.filter fun n => s.portUp n := by
      simp only [hup']
      exact congrArg _ hports
    have hsell : (fun n => decide (0 < ((g.wr F.DXL_OFFER_SPARE spare).wr F.DXL_OFFER_WANT want).v .ofSpare n)) =
        fun n => decide (0 < s.v .ofSpare n) := funext fun m => by rw [← hof m]; rfl
    have hfeed : ((g.wr F.DXL_OFFER_SPARE spare).wr F.DXL_OFFER_WANT want).dxl? = some d := hdx.trans hd
    unfold State.offers
    dsimp only
    rw [hups, hfeed, hsell]
    exact State.frame_mem_each (List.mem_filter.mpr ⟨hn, hp⟩) (fun m => pack [(0, 32, spare), (32, 32,
        if (s.leasePorts.filter fun n => s.portUp n).find? (fun n => decide (0 < s.v .ofSpare n)) = some m then want else 0), (64, 16, d.feed)])
      (Nat.eq_of_beq_eq_true ((hup' n).trans hp)) (((hr _ (by decide) _).trans hseq).trans_ne hq)

/-! ### The decision -/

/-- A lease that is given, with its end (15 R463). -/
def State.leaseUntil (s : State) (n amt : Nat) (texp : Int) : State :=
  let s := s.leaseSet n amt true
  (s.setV .lsEnd (texp - s.sysOfs) n).wrI F.DXL_PORT_D_T_END texp n

/-- A lease that is given, with the LSEQ of its grant (15 R464). -/
def State.leaseGiven (s : State) (n amt : Nat) (texp : Int) : State := ((s.leaseUntil n amt texp).leaseSeq n).2

/-- Whether the decision passes a peer over: it neither wants nor holds a lease, or this package borrows from it, or a recall runs. -/
def State.leasePassed (s : State) (n : Nat) : Bool :=
  (!s.lentPorts.contains n && (s.vn .ofWant n = 0 || !Nat.beq (s.leaseAmt n) 0)) || decide (s.v .lsRecall n = 1)

/-- The lease of a peer after the decision. -/
def State.leaseSum (s : State) (spare wants n : Nat) : Nat :=
  (if s.lentPorts.contains n then s.leaseAmt n else 0) + if wants = 0 then 0 else min (s.vn .ofWant n) (spare * s.vn .ofWant n / wants)

/-- What the lender's decision does for one peer (15 R463). -/
def State.leaseDecide (spare wants : Nat) (texp : Int) (s : State) (n : Nat) : State :=
  if s.leasePassed n then s
  else
    let u := s.leaseGiven n (s.leaseSum spare wants n) texp
    u.frameOut n Ft.grant (leaseBody (u.leaseAmt n) ((s.leaseUntil n (s.leaseSum spare wants n) texp).leaseSeq n).1 texp)

/-- A port is as before for the decision on its lease. -/
structure LeaseRests (n : Nat) (s u : State) : Prop where
  link : u.reg .DXL_PORT_A n = s.reg .DXL_PORT_A n
  lease : u.reg .DXL_PORT_C n = s.reg .DXL_PORT_C n
  want : u.v .ofWant n = s.v .ofWant n
  called : u.v .lsRecall n = s.v .lsRecall n
  seq : u.v .lsSent n = s.v .lsSent n

namespace LeaseRests

variable {u w : State} {m : Nat}

theorem trans (h : LeaseRests n s u) (k : LeaseRests n u w) : LeaseRests n s w :=
  ⟨k.link.trans h.link, k.lease.trans h.lease, k.want.trans h.want, k.called.trans h.called, k.seq.trans h.seq⟩

theorem leaseAmt (h : LeaseRests n s u) : u.leaseAmt n = s.leaseAmt n := State.rd_congr h.lease

theorem lends (h : LeaseRests n s u) : u.lends n = s.lends n := State.is_congr h.lease

theorem lentPorts (h : LeaseRests n s u) : u.lentPorts.contains n = s.lentPorts.contains n := by
  have hs (x : State) : x.lentPorts.contains n = (decide (n < 8) && (x.lends n && !Nat.beq (x.leaseAmt n) 0)) := by
    rw [Bool.eq_iff_iff]
    simp [State.lentPorts]
  rw [hs, hs, h.leaseAmt, h.lends]

theorem portSt (h : LeaseRests n s u) : u.portSt n = s.portSt n := State.rd_congr h.link

/-- A field of another port. -/
theorem wr (hm : n ≠ m) (f : Fld) (v : Nat) : LeaseRests n s (s.wr f v m) :=
  have h (r : Reg) : (s.wr f v m).reg r n = s.reg r n := s.reg_setReg_ne _ _ _ _ _ _ _ (by simp [hm])
  ⟨h _, h _, rfl, rfl, rfl⟩

/-- A variable of another port. -/
theorem setV (hm : n ≠ m) (x : Var) (y : Int) : LeaseRests n s (s.setV x y m) :=
  have h (z : Var) : (s.setV x y m).v z n = s.v z n := State.v_setV_ne _ _ _ _ _ _ _ _ (by simp [hm])
  ⟨rfl, rfl, h _, h _, h _⟩

theorem leaseSet (hm : n ≠ m) (amt : Nat) (lender : Bool) : LeaseRests n s (s.leaseSet m amt lender) := by
  refine ⟨State.reg_leaseSet _ _ _ (by decide), (State.port_leaseSet ..).trans ?_, State.v_leaseSet _ _ _ (by decide),
    State.v_leaseSet _ _ _ (by decide), State.v_leaseSet _ _ _ (by decide)⟩
  exact ((wr hm _ _).trans (wr hm _ _)).lease

theorem leaseGiven (hm : n ≠ m) (amt : Nat) (texp : Int) : LeaseRests n s (s.leaseGiven m amt texp) :=
  ((((leaseSet hm _ _).trans (setV hm _ _)).trans (wr hm _ _)).trans (setV hm _ _)).trans (wr hm _ _)

theorem frameOut (hm : n ≠ m) (typ body : Nat) : LeaseRests n s (s.frameOut m typ body) :=
  ⟨(PortRests.frameOut hm _ _).link, State.reg_frameOut _ _ _ (by decide), State.v_frameOut _ _ _ (by decide),
    State.v_frameOut _ _ _ (by decide), State.v_frameOut _ _ _ (by decide)⟩

/-- The decision for another peer leaves the port. -/
theorem leaseDecide (hm : n ≠ m) (spare wants : Nat) (texp : Int) : LeaseRests n s (s.leaseDecide spare wants texp m) := by
  unfold State.leaseDecide
  dsimp only
  split
  · exact ⟨rfl, rfl, rfl, rfl, rfl⟩
  · exact (leaseGiven hm _ _).trans (frameOut hm _ _)

end LeaseRests

theorem Sent.leaseGiven {o : Out} (h : Sent o s) (n amt : Nat) (texp : Int) : Sent o (s.leaseGiven n amt texp) := h.leaseSet n amt true

theorem Sent.leaseDecide {o : Out} (h : Sent o s) (spare wants : Nat) (texp : Int) (n : Nat) : Sent o (s.leaseDecide spare wants texp n) := by
  unfold State.leaseDecide
  dsimp only
  split
  · exact h
  · exact (h.leaseGiven ..).frameOut ..

/-! What a lease that is given shows. -/

theorem State.leaseAmt_leaseGiven (s : State) (n amt : Nat) (texp : Int) :
    (s.leaseGiven n amt texp).leaseAmt n = amt % 2 ^ F.DXL_PORT_C_LEASE.w :=
  (State.rd_wr_apart _ _ _ _ _ _ _ _ (by decide) (by decide)).trans
    ((State.rd_wr_reg _ _ _ _ _ _ _ _ (by decide)).trans (State.leaseAmt_leaseSet s n amt true))

theorem State.lends_leaseGiven (s : State) (n amt : Nat) (texp : Int) : (s.leaseGiven n amt texp).lends n = true := by
  have h : (s.leaseGiven n amt texp).rd F.DXL_PORT_C_LENDER n = (s.leaseSet n amt true).rd F.DXL_PORT_C_LENDER n :=
    (State.rd_wr_apart _ _ _ _ _ _ _ _ (by decide) (by decide)).trans (State.rd_wr_reg _ _ _ _ _ _ _ _ (by decide))
  rw [State.lends, State.is, h]
  exact State.lends_leaseSet s n amt true

theorem State.seq_leaseUntil (s : State) (n amt : Nat) (texp : Int) :
    ((s.leaseUntil n amt texp).leaseSeq n).1 = (s.vn .lsSent n + 1) % 65536 := by
  have h : (s.leaseUntil n amt texp).v .lsSent n = s.v .lsSent n := by
    unfold State.leaseUntil
    rw [State.wrI, State.v_wr, State.v_setV_var _ _ _ _ _ _ _ _ (by decide), State.v_leaseSet _ _ _ (by decide)]
  simp only [State.leaseSeq, State.vn, h]

theorem State.link_leaseGiven (s : State) (n amt : Nat) (texp : Int) (i j : Nat) :
    (s.leaseGiven n amt texp).reg .DXL_PORT_A i j = s.reg .DXL_PORT_A i j :=
  (State.reg_wr_reg _ _ _ _ _ _ _ _ (by decide)).trans ((State.reg_wr_reg _ _ _ _ _ _ _ _ (by decide)).trans (State.reg_leaseSet _ _ _ (by decide)))

/-- What the decision comes to for a peer: the lease with its share, and the grant. -/
structure Granted (s : State) (n amt : Nat) (texp : Int) (u : State) : Prop where
  lends : u.lends n = true
  amt : u.leaseAmt n = amt % 2 ^ F.DXL_PORT_C_LEASE.w
  sent : s.portSt n = Lk.up → s.rd F.DXL_PORT_A_TX_SEQ n ≠ 0xFFFF_FFFF →
    Sent (.frame n Ft.grant (leaseBody (u.leaseAmt n) ((s.vn .lsSent n + 1) % 65536) texp)) u

/-- The decision takes the port's state as it stood, and what is done for other peers leaves what it came to. -/
theorem Granted.of_rests {amt : Nat} {texp : Int} {z u : State} (h : Granted s n amt texp u) (k : LeaseRests n z s) : Granted z n amt texp u :=
  have hseq : s.vn .lsSent n = z.vn .lsSent n := congrArg Int.toNat k.seq
  ⟨h.lends, h.amt, fun hst hq => hseq ▸ h.sent (k.portSt.trans hst) ((State.rd_congr k.link).trans_ne hq)⟩

theorem Granted.rests {amt : Nat} {texp : Int} {u w : State} (h : Granted s n amt texp u) (k : LeaseRests n u w)
    (ho : ∀ o, Sent o u → Sent o w) : Granted s n amt texp w :=
  ⟨k.lends.trans h.lends, k.leaseAmt.trans h.amt, fun hst hq => k.leaseAmt.symm ▸ ho _ (h.sent hst hq)⟩

theorem granted_leaseDecide {spare wants : Nat} {texp : Int} (hp : s.leasePassed n = false) :
    Granted s n (s.leaseSum spare wants n) texp (s.leaseDecide spare wants texp n) := by
  unfold State.leaseDecide
  rw [hp, if_neg (by decide)]
  generalize s.leaseSum spare wants n = amt
  have hlink := s.link_leaseGiven n amt texp
  have hamt := s.leaseAmt_leaseGiven n amt texp
  have hlends := s.lends_leaseGiven n amt texp
  generalize s.leaseGiven n amt texp = u at hlink hamt hlends
  dsimp only
  rw [State.seq_leaseUntil]
  refine ⟨?_, ?_, fun hst hq => ?_⟩
  · exact (State.is_congr (State.reg_frameOut _ _ _ (by decide))).trans hlends
  · exact (State.rd_frameOut _ _ _ (by decide)).trans hamt
  · rw [State.leaseAmt, State.rd_frameOut _ _ _ (by decide)]
    exact Sent.of_frameOut ((State.rd_congr (hlink ..)).trans hst) ((State.rd_congr (hlink ..)).trans_ne hq) _ _

theorem LeaseRests.leasePassed {u : State} (h : LeaseRests n s u) : u.leasePassed n = s.leasePassed n := by
  unfold State.leasePassed State.vn
  rw [h.lentPorts, h.want, h.leaseAmt, h.called]

theorem LeaseRests.leaseSum {u : State} (h : LeaseRests n s u) (spare wants : Nat) : u.leaseSum spare wants n = s.leaseSum spare wants n := by
  unfold State.leaseSum State.vn
  rw [h.lentPorts, h.want, h.leaseAmt]

/-- Over peers that are all different each comes to what the decision alone makes of it. -/
theorem granted_each {l : List Nat} (hl : l.Nodup) (hn : n ∈ l) {spare wants : Nat} {texp : Int} (hp : s.leasePassed n = false) :
    Granted s n (s.leaseSum spare wants n) texp (s.each l (State.leaseDecide spare wants texp)) := by
  induction l generalizing s with
  | nil => cases hn
  | cons m l ih =>
    obtain ⟨hm, hl⟩ := List.nodup_cons.mp hl
    by_cases he : n = m
    · subst he
      rw [State.each, List.foldl_cons]
      refine State.each_keeps (P := Granted s n (s.leaseSum spare wants n) texp) (granted_leaseDecide hp) fun u x hx hu => ?_
      exact hu.rests (LeaseRests.leaseDecide (by rintro rfl; exact hm hx) _ _ _) fun o ho => ho.leaseDecide _ _ _ _
    · have hr : LeaseRests n s (s.leaseDecide spare wants texp m) := LeaseRests.leaseDecide he _ _ _
      have hu := ih hl ((List.mem_cons.mp hn).resolve_left he) (hr.leasePassed.trans hp)
      rw [hr.leaseSum] at hu
      exact hu.of_rests hr

theorem State.leasePorts_nodup (s : State) : s.leasePorts.Nodup := by
  unfold State.leasePorts
  split
  · exact List.nodup_range.filter _
  · exact List.nodup_nil

theorem exec_leaseDecision {spare wants : Nat} {texp : Int} (hu : s.hubUp = true) (hs : s.rd F.DXL_OFFER_SPARE = spare) (hp : 0 < spare)
    (hw : wants = sumNat ((s.leasePorts.filter fun n => s.portUp n).map fun n => s.vn .ofWant n))
    (he : texp = 100000 * s.v .lsGrid + 1000 * s.lnk 0x0034 4 1000) : exec (.leaseDecision t) s = .next (
      ((s.start t).each (s.leasePorts.filter fun n => s.portUp n) (State.leaseDecide spare wants texp)).each
        (s.leasePorts.filter fun n => s.portUp n) fun s n => s.setV .ofWant 0 n) := by
  subst hs hw he
  refine congrArg Host.Outcome.next ((if_neg ?_).trans rfl)
  have hp' : decide (0 < (s.start t).rd F.DXL_OFFER_SPARE) = true := decide_eq_true hp
  rw [State.hubUp_start, hu, hp']
  simp

theorem answers_leaseDecision {spare wants : Nat} {texp : Int} (hu : s.hubUp = true) (hs : s.rd F.DXL_OFFER_SPARE = spare) (hp : 0 < spare)
    (hw : wants = sumNat ((s.leasePorts.filter fun n => s.portUp n).map fun n => s.vn .ofWant n))
    (he : texp = 100000 * s.v .lsGrid + 1000 * s.lnk 0x0034 4 1000) :
    Answers (.leaseDecision t) s fun u => ∀ n ∈ s.leasePorts, s.portUp n = true → s.vn .ofWant n ≠ 0 → s.v .lsRecall n ≠ 1 → (s.lentPorts.contains n = true ∨ s.leaseAmt n = 0) →
        u.lends n = true ∧ u.v .ofWant n = 0 ∧ u.leaseAmt n = ((if s.lentPorts.contains n then s.leaseAmt n else 0)
            + min (s.vn .ofWant n) (spare * s.vn .ofWant n / wants)) % 2 ^ F.DXL_PORT_C_LEASE.w
          ∧ (s.rd F.DXL_PORT_A_TX_SEQ n ≠ 0xFFFF_FFFF →
              Out.frame n Ft.grant (leaseBody (u.leaseAmt n) ((s.vn .lsSent n + 1) % 65536) texp) ∈ u.out) := by
  refine ⟨_, exec_leaseDecision hu hs hp hw he, fun n hn hup hwant hrec hout => ?_⟩
  have hmem : n ∈ s.leasePorts.filter fun n => s.portUp n := List.mem_filter.mpr ⟨hn, hup⟩
  have hpass : (s.start t).leasePassed n = false := by
    change s.leasePassed n = false
    unfold State.leasePassed
    rw [decide_eq_false hrec, decide_eq_false hwant]
    rcases hout with hout | hout
    · rw [hout]
      rfl
    · rw [hout]
      simp
  have hsum : s.leaseSum spare wants n = (if s.lentPorts.contains n then s.leaseAmt n else 0) + min (s.vn .ofWant n) (spare * s.vn .ofWant n / wants) := by
    unfold State.leaseSum
    by_cases h0 : wants = 0
    · rw [if_pos h0, h0, Nat.div_zero, Nat.min_zero]
    · rw [if_neg h0]
  have hg := granted_each (s := s.start t) (spare := spare) (wants := wants) (texp := texp) ((State.leasePorts_nodup s).filter _) hmem hpass
  generalize (s.start t).each (s.leasePorts.filter fun n => s.portUp n) (State.leaseDecide spare wants texp) = w at hg ⊢
  have hreg (r : Reg) (i j : Nat) : (w.each (s.leasePorts.filter fun n => s.portUp n) fun s n => s.setV .ofWant 0 n).reg r i j = w.reg r i j :=
    State.reg_each _ _ _ _ _ _ fun _ _ _ => rfl
  refine ⟨(State.is_congr (hreg ..)).trans hg.lends, ?_, ?_, fun hq => ?_⟩
  · refine State.each_sets (P := fun u => u.v .ofWant n = 0) hmem (fun _ => State.v_setV_same ..) fun u m _ hu => ?_
    rw [State.v_setV_if, hu, ite_self]
  · rw [State.leaseAmt, State.rd_congr (f := F.DXL_PORT_C_LEASE) (hreg ..), ← hsum]
    exact hg.amt
  · rw [State.leaseAmt, State.rd_congr (f := F.DXL_PORT_C_LEASE) (hreg ..)]
    exact Sent.each (o := .frame n Ft.grant _) (hg.sent (Nat.eq_of_beq_eq_true hup) hq) fun _ _ hu => hu

end

/-- Settles O46: the offers of a cycle, the shares of the decision, the frames of a lease and its ends. -/
theorem leaseProtocol : Obligations.LeaseProtocol := by
  unfold Obligations.LeaseProtocol
  refine ⟨fun _ _ _ _ hu hg hl hw hs => answers_leaseGrid hu hg hl hw hs,
    fun _ _ spare want _ _ _ k hc hd hf hl => answers_leaseOffer k hc hd hf hl spare want,
    fun _ _ _ _ _ hu hs hp hw he => answers_leaseDecision hu hs hp hw he,
    fun _ _ _ _ texp _ k hc hl hq hb ha => answers_leaseGrant k hc hl hq hb ha texp,
    fun _ _ _ _ texp _ k hc hl hq _ ha => answers_leaseGrant_below k hc hl hq ha texp, ?_,
    fun _ _ _ _ teff _ k hc hl hq hb ha => answers_leaseRecall k hc hl hq hb ha teff,
    fun _ _ _ hb ha he => answers_leaseExpiry hb ha he, fun _ _ _ hb hr he => answers_recallEffect hb hr he,
    fun _ _ _ hb ha hr he => answers_leaseGuard_recalled hb ha hr he, fun _ _ _ hb ha hr he => answers_leaseGuard_ended hb ha hr he⟩
  intro s t amt lseq x h k hc hq i hi
  have hq' : ((s.start t).frameTaken h).lseqNew h.port (lseq % 2 ^ 16) = false := (State.lseqNew_frameTaken ..).trans hq
  simp only [List.mem_cons, List.not_mem_nil, or_false] at hi
  obtain rfl | rfl := hi
  · exact answers_old_lseq k hc rfl (if_pos (by rw [hq', Bool.not_false, Bool.or_true]))
  · exact answers_old_lseq k hc rfl (if_pos (by rw [hq', Bool.not_false, Bool.or_true]))

end Sys2Proof.Machine

/-!
PROOFS. What a command has sent stays sent while the held batches and answers are given (08 R246; 16 R480).
-/
namespace Sys2Proof.Machine

namespace Sent

variable {o : Out} {s : State}

/-! ### Watches and objects -/

theorem claim (h : Sent o s) (w : Watch) : Sent o (s.claim w) := by
  unfold State.claim
  dsimp only
  split <;> exact h

theorem fire (h : Sent o s) (p gen st shape : Nat) (sel : Watch → Bool) : Sent o (s.fire p gen st shape sel) := by
  unfold State.fire
  exact each (when (s := s.setWatches _) h fun _ hu => hu) fun _ _ hu => hu

theorem semServe (p : Nat) : ∀ (k : Nat) {s : State}, Sent o s → Sent o (s.semServe p k)
  | 0, _, h => h
  | k + 1, s, h => by
    unfold State.semServe
    split
    · exact h
    · split
      · exact semServe p k (h.claim _)
      · exact h.fire ..

theorem flagServe (h : Sent o s) (p : Nat) : Sent o (s.flagServe p) := by
  unfold State.flagServe
  split
  · split
    · exact h.claim _
    · exact h
  · exact h

theorem claimBack (h : Sent o s) (w : Watch) : Sent o (s.claimBack w) := by
  unfold State.claimBack
  dsimp only
  split
  · exact semServe _ _ h
  · split
    · exact flagServe (s := s.wr F.SYNC_OBJ_B_COUNT 1 w.obj) h _
    · exact h

theorem syncAbsent (h : Sent o s) (d : Nat) : Sent o (s.syncAbsent d) := each h fun _ _ hu => hu.claimBack _

theorem riseStop (h : Sent o s) (sel : RiseReq → Bool) : Sent o (s.riseStop sel) := by
  have hshow (u : State) (r : Nat) (hu : Sent o u) : Sent o (u.riseShow r) := by
    unfold State.riseShow
    dsimp only
    exact when hu fun _ hv => hv
  unfold State.riseStop
  dsimp only
  refine each (each (each h fun _ _ hu => hu.frame ..) fun u r hu => hshow u r hu) fun _ _ hu => ?_
  exact when hu fun _ hv => hv

theorem objBreak (h : Sent o s) (p : Nat) : Sent o (s.objBreak p) := by
  unfold State.objBreak
  dsimp only
  refine when (each (frame h ..) fun _ _ hu => hu.fire ..) fun u hu => ?_
  exact riseStop (s := u.incSat F.SHP_STATUS_RISE_CANCEL _) hu _

theorem spanBreakAll (h : Sent o s) (tag : Nat → Bool) (reason : Nat) (skip : Option Nat) : Sent o (s.spanBreakAll tag reason skip) := by
  unfold State.spanBreakAll
  dsimp only
  refine each (each h fun _ _ hu => when hu fun _ hv => hv.objBreak _) fun u x hu => ?_
  exact each (s := (u.freshFree).2) hu fun _ _ hv => hv

/-! ### Ports of the link -/

theorem leaseEnd (h : Sent o s) (n : Nat) (lost : Bool) : Sent o (s.leaseEnd n lost) := by
  unfold State.leaseEnd
  dsimp only
  have hset : Sent o (s.leaseSet n 0 (s.lends n)) := h.leaseSet ..
  exact when (s := ((s.leaseSet n 0 (s.lends n)).setV .lsRecall 0 n).wr F.DXL_PORT_C_LENDER 0 n) hset
    fun _ hu => (eventKeeps_sent o).event hu ..

theorem leasePortDown (h : Sent o s) (n : Nat) (failed : Bool) : Sent o (s.leasePortDown n failed) := by
  unfold State.leasePortDown
  split
  · exact h
  · split
    · exact when (s := s.setV .lsEnd _ n) h fun _ hu => hu
    · exact h.leaseEnd ..

theorem portLeaves (h : Sent o s) (n reason : Nat) (failed : Bool) : Sent o (s.portLeaves n reason failed) := by
  unfold State.portLeaves
  dsimp only
  exact when ((when h fun _ hu => hu.spanBreakAll ..).leasePortDown ..) fun _ hu => hu

theorem portDown (h : Sent o s) (n : Nat) : Sent o (s.portDown n) := by
  have hfell : Sent o (s.fallRecord n) := h
  unfold State.portDown
  dsimp only
  split
  · exact h
  · exact when (when hfell fun _ hu => hu.portLeaves ..) fun _ hu => (eventKeeps_sent o).event hu ..

/-! ### Sending -/

theorem answerD (h : Sent o s) (p : Port) (a : Nat) (w : Bool) (st : Status) (d : Word) : Sent o (s.answerD p a w st d) := by
  have hemit (d : Word) : Sent o (s.emit (.rsp p st d)) := List.mem_append_left _ h
  unfold State.answerD
  dsimp only
  split
  · split
    · exact hemit _
    · exact hemit _
  · split
    · exact h
    · exact h
  · exact hemit _

/-- A message to a child, and the absence of one that the guard drops. -/
theorem sendDown (h : Sent o s) (d typ m : Nat) :
    Sent o (if (s.sendDown d typ m).1 then (s.sendDown d typ m).2 else (s.sendDown d typ m).2.syncAbsent d) := by
  have hd : Sent o (s.sendDown d typ m).2 := h.send ..
  split
  · exact hd
  · exact hd.syncAbsent d

theorem syncSend (h : Sent o s) (x : SyncOut) : Sent o (s.syncSend x) := by
  cases x with
  | rel c i g st sh =>
    simp only [State.syncSend]
    unfold State.toHubChildren
    refine each h fun u d hu => ?_
    exact hu.sendDown d Mt.syncMsg _
  | dir c i g st l core wid wake =>
    simp only [State.syncSend]
    split
    · exact h
    · exact h.sendDown _ _ _
  | ans p addr st => exact h.answerD ..
  | fin p => exact h
  | frm m typ body =>
    simp only [State.syncSend]
    split
    · exact (h.frameOut ..).portDown _
    · exact h.frameOut ..

theorem heldSend (h : Sent o s) : Sent o s.heldSend := by
  unfold State.heldSend
  split
  · exact h
  · exact State.syncDrain_keeps (P := Sent o) (fun _ _ hu => hu) (fun _ x hu => hu.syncSend x) _ h

theorem ansGive (h : Sent o s) : Sent o s.ansGive := by
  unfold State.ansGive
  split
  · exact h
  · next x r _ => exact answerD (s := { s with ansHeld := r }) h ..

theorem heldAll (h : Sent o s) : Sent o s.heldAll := each (each h fun _ _ hu => hu.heldSend) fun _ _ hu => hu.ansGive

end Sent

end Sys2Proof.Machine

/-!
PROOFS. The mirrored pair of hubs (16 R476 to R493).
-/
namespace Sys2Proof.Machine

section
variable {s : State} {t : Nat}

/-! ### Roles -/

theorem State.mirRole_congr {s u : State} (h : u.reg .MIR_STATUS = s.reg .MIR_STATUS) (k : Nat) : u.mirRole k = s.mirRole k := by
  unfold State.mirRole
  rw [State.rd_congr (f := F.MIR_STATUS_ROLE_0) h, State.rd_congr (f := F.MIR_STATUS_ROLE_1) h]

theorem State.mirRole2_congr {s u : State} (h : u.reg .MIR_STATUS = s.reg .MIR_STATUS) : u.mirRole2 = s.mirRole2 := by
  unfold State.mirRole2 State.mirOther
  rw [State.mirRole_congr h, State.rd_congr (f := F.MIR_STATUS_SELF) h]

theorem State.mirRole_mirSet (s : State) (k : Nat) {r : Nat} (hr : r < 8) : (s.mirSet k r).mirRole k = r := by
  unfold State.mirSet State.mirRole
  split
  · exact State.rd_wr_fits _ _ _ _ (by decide) hr
  · exact State.rd_wr_fits _ _ _ _ (by decide) hr

theorem State.mirRole_mirSet_other (s : State) {k m : Nat} (h : k = 0 ↔ m ≠ 0) (r : Nat) : (s.mirSet m r).mirRole k = s.mirRole k := by
  unfold State.mirSet State.mirRole
  by_cases hm : m = 0
  · rw [if_pos hm, if_neg (by tauto), if_neg (by tauto)]
    exact State.rd_wr_apart _ _ _ _ _ _ _ _ (by decide) (by decide)
  · rw [if_neg hm, if_pos (by tauto), if_pos (by tauto)]
    exact State.rd_wr_apart _ _ _ _ _ _ _ _ (by decide) (by decide)

/-- The fields of MIR_STATUS above the roles stay. -/
theorem State.rd_mirSet_above (s : State) (k r : Nat) {f : Fld} (h : 6 ≤ f.lsb) (i j : Nat) : (s.mirSet k r).rd f i j = s.rd f i j := by
  unfold State.mirSet
  split
  · exact State.rd_wr_apart _ _ _ _ _ _ _ _ (by decide) (.inr (le_trans (by decide) h))
  · exact State.rd_wr_apart _ _ _ _ _ _ _ _ (by decide) (.inr (le_trans (by decide) h))

theorem State.mirOther_mirSet (s : State) (k r : Nat) : (s.mirSet k r).mirOther = s.mirOther := by
  unfold State.mirOther
  rw [State.rd_mirSet_above _ _ _ (by decide)]

theorem State.mirRole2_mirSet (s : State) {r : Nat} (hr : r < 8) : (s.mirSet s.mirOther r).mirRole2 = r := by
  unfold State.mirRole2
  rw [State.mirOther_mirSet]
  exact State.mirRole_mirSet _ _ hr

theorem State.time_mirSet (s : State) (k r : Nat) : (s.mirSet k r).time = s.time := by
  unfold State.mirSet
  split <;> rfl

theorem Sent.mirSet {o : Out} (h : Sent o s) (k r : Nat) : Sent o (s.mirSet k r) := by
  unfold State.mirSet
  split <;> exact h

/-! ### The end of the mirror, and a request that is refused -/

theorem State.mirRole2_mirDetached (s : State) : s.mirDetached.mirRole2 = Mr.detached := by
  refine (State.mirRole2_congr ?_).trans (s.mirRole2_mirSet (r := Mr.detached) (by decide))
  exact State.reg_heldAll (by decide)

theorem State.refused_mirDetached (s : State) : s.mirDetached.rd F.MIR_STATUS_REFUSED = s.rd F.MIR_STATUS_REFUSED :=
  (State.rd_heldAll (by decide)).trans (s.rd_mirSet_above _ _ (by decide) _ _)

theorem Sent.mirDetached {o : Out} (h : Sent o s) : Sent o s.mirDetached :=
  Sent.heldAll (s := (s.mirSet s.mirOther Mr.detached).setV .mirMiss 0) (h.mirSet ..)

theorem State.mirRefuse_refuses (s : State) : s.mirRefuse.mirRole2 = Mr.detached
    ∧ s.mirRefuse.rd F.MIR_STATUS_REFUSED = satAddN F.MIR_STATUS_REFUSED.w (s.rd F.MIR_STATUS_REFUSED) 1 := by
  have hev : s.mirRefuse.reg .MIR_STATUS = (s.mirDetached.incSat F.MIR_STATUS_REFUSED).reg .MIR_STATUS :=
    State.reg_event _ _ (by decide)
  constructor
  · refine (State.mirRole2_congr hev).trans (Eq.trans ?_ s.mirRole2_mirDetached)
    have hrd (f : Fld) (hf : f.lsb + f.w ≤ 32) : (s.mirDetached.incSat F.MIR_STATUS_REFUSED).rd f = s.mirDetached.rd f :=
      State.rd_wr_apart _ _ _ _ _ _ _ _ (by decide) (.inl hf)
    unfold State.mirRole2 State.mirRole State.mirOther
    rw [hrd _ (by decide), hrd _ (by decide), hrd _ (by decide)]
  · refine (State.rd_congr hev).trans ((State.rd_incSat_same _ _ _ _ _ (by decide)).trans ?_)
    rw [State.refused_mirDetached]
    rfl

theorem Sent.mirRefuse {o : Out} (h : Sent o s) : Sent o s.mirRefuse :=
  (eventKeeps_sent o).event (s := s.mirDetached.incSat F.MIR_STATUS_REFUSED) h.mirDetached _ _

/-- A request of the standby for the hub's place, with its cause: it stands where HUB_OK has lapsed, else it is refused. -/
def State.mirRequest (s : State) (cause : Nat) : State :=
  let s := s.emit (.mirror true)
  if s.v .okLapse = 1 then s.setV .mirMiss cause else s.mirRefuse

theorem mirRequest_requests (h : s.mirRole2 = Mr.standby) (cause : Nat) : Out.mirror true ∈ (s.mirRequest cause).out
    ∧ if s.v .okLapse = 1 then (s.mirRequest cause).v .mirMiss = cause ∧ (s.mirRequest cause).mirRole2 = Mr.standby
      else (s.mirRequest cause).mirRole2 = Mr.detached
        ∧ (s.mirRequest cause).rd F.MIR_STATUS_REFUSED = satAddN F.MIR_STATUS_REFUSED.w (s.rd F.MIR_STATUS_REFUSED) 1 := by
  have hsent : Sent (.mirror true) (s.emit (.mirror true)) := List.mem_append_right _ (List.mem_singleton.mpr rfl)
  unfold State.mirRequest
  dsimp only
  rw [State.v_emit]
  by_cases hl : s.v .okLapse = 1
  · rw [if_pos hl, if_pos hl]
    exact ⟨hsent, State.v_setV_same .., h⟩
  · rw [if_neg hl, if_neg hl]
    exact ⟨hsent.mirRefuse, (s.emit (.mirror true)).mirRefuse_refuses⟩

/-! ### Heartbeats -/

theorem answers_mirrorHeartbeat (hu : s.hubUp = true) (hm : s.mirCfg.isSome = true) (hb : s.v .hbStop = 0) (ho : s.mirrorOn = true) :
    Answers (.mirrorHeartbeat t) s fun u => Out.mirror false ∈ u.out ∧ u.v .hbLast = (max s.time t : Nat) := by
  refine ⟨_, congrArg Host.Outcome.next (if_pos ?_), List.mem_append_right _ (List.mem_singleton.mpr rfl), State.v_setV_same ..⟩
  rw [Bool.and_eq_true, Bool.and_eq_true, Bool.and_eq_true]
  exact ⟨⟨⟨hu, hm⟩, decide_eq_true hb⟩, ho⟩

theorem exec_mirrorHeartbeatMiss {m : MirrorConfig} (hm : s.mirCfg = some m) (hr : s.mirRole2 = Mr.standby) (hz : s.v .mirMiss = 0)
    (hb : s.vn .hbLast + m.hbMiss * m.hbPeriod ≤ max s.time t) : exec (.mirrorHeartbeatMiss t) s = .next ((s.start t).mirRequest 1) := by
  have hm' : (s.start t).mirCfg = some m := hm
  change (match (s.start t).mirCfg with | none => _ | some m => _) = _
  rw [hm']
  refine congrArg Host.Outcome.next (if_pos ?_)
  rw [Bool.and_eq_true, Bool.and_eq_true]
  exact ⟨⟨decide_eq_true hr, decide_eq_true hz⟩, Nat.ble_eq_true_of_le hb⟩

theorem exec_mirrorPortDown (hr : s.mirRole2 = Mr.standby) (hz : s.v .mirMiss = 0) :
    exec (.mirrorPortDown t) s = .next ((s.start t).mirRequest 2) := by
  refine congrArg Host.Outcome.next (if_pos ?_)
  rw [Bool.and_eq_true]
  exact ⟨decide_eq_true hr, decide_eq_true hz⟩

theorem answers_mirrorPortDown_syncing (hr : s.mirRole2 = Mr.syncing) (hl : s.v .okLapse = 0) :
    Answers (.mirrorPortDown t) s fun u => u.mirRole2 = Mr.detached := by
  refine ⟨_, congrArg Host.Outcome.next ((if_neg ?_).trans (if_pos ?_)), (s.start t).mirRole2_mirDetached⟩
  · have hne : (s.start t).mirRole2 ≠ Mr.standby := fun e => absurd (hr.symm.trans e) (by decide)
    rw [decide_eq_false hne, Bool.false_and]
    decide
  · rw [Bool.and_eq_true]
    exact ⟨decide_eq_true hr, decide_eq_true hl⟩

/-- No hub is in charge any more (16 R485). -/
def State.hubsLost (s : State) : State :=
  let r := s.mirRole2
  let s := s.when (r = Mr.syncing || r = Mr.detached) fun s => s.mirSet (1 - s.mirOther) Mr.down
  let s := s.each ((s.insts.filter fun x => Nat.beq x.typ 0x0A).map (·.logical)) fun s p => (s.setV .phPwm 0 p).setV .phPen 0 p
  ((s.stopOn.portsAbsent).wr F.CRUST_STATUS_THERMTRIP 1).setV .mirNoHub 1

theorem State.hubsLost_stops (s : State) :
    s.hubsLost.rd F.CRUST_STATUS_STOP = 1 ∧ s.hubsLost.rd F.CRUST_STATUS_THERMTRIP = 1 ∧ s.hubsLost.v .mirNoHub = 1 := by
  unfold State.hubsLost
  extract_lets r u w
  clear_value w
  rw [State.rd_setV, State.rd_setV, State.v_setV_same, State.rd_wr_apart _ _ _ _ _ _ _ _ (by decide) (by decide),
    State.rd_portsAbsent (by decide), State.stop_stopOn, State.rd_wr_fits _ _ _ _ (by decide) (by decide)]
  exact ⟨rfl, rfl, rfl⟩

theorem answers_hubOkLapse (hu : s.hubUp = true) :
    Answers (.hubOkLapse t) s fun u => Config.netlist.mirror = true → if s.mirRole2 = Mr.standby then u.v .okLapse = 1
      else u.rd F.CRUST_STATUS_STOP = 1 ∧ u.rd F.CRUST_STATUS_THERMTRIP = 1 ∧ u.v .mirNoHub = 1 ∧ u.hubUp = false := by
  by_cases hm : Config.netlist.mirror = true
  · have hexec : exec (.hubOkLapse t) s = .next (if s.mirRole2 = Mr.standby then (s.start t).setV .okLapse 1 else (s.start t).hubsLost) :=
      congrArg Host.Outcome.next (if_neg (by rw [hm, State.hubUp_start, hu]; decide))
    refine ⟨_, hexec, fun _ => ?_⟩
    split
    · exact State.v_setV_same ..
    · obtain ⟨hstop, htrip, hno⟩ := (s.start t).hubsLost_stops
      refine ⟨hstop, htrip, hno, ?_⟩
      unfold State.hubUp
      rw [hno]
      exact Bool.and_false _
  · exact ⟨_, rfl, fun e => absurd e hm⟩

/-! ### Copies -/

theorem State.mir_copyLazy (s : State) : s.copyLazy.mir.lazyRegs = s.regs.filter fun p => lazyClass.contains p.1.n := rfl

theorem answers_bulkCopyDone (hu : s.hubUp = true) (hr : s.mirRole2 = Mr.syncing) :
    Answers (.bulkCopyDone t) s fun u => u.mirRole2 = Mr.standby ∧ u.v .hbLast = (max s.time t : Nat) := by
  refine ⟨_, congrArg Host.Outcome.next (if_pos ?_), ?_, ?_⟩
  · rw [Bool.and_eq_true]
    exact ⟨hu, decide_eq_true hr⟩
  · refine (State.mirRole2_congr (State.reg_event _ _ (by decide))).trans ?_
    exact State.mirRole2_mirSet ((s.start t).copyTick.copyLazy) (by decide)
  · refine (State.v_event _ _ (by decide)).trans ((State.v_setV_same _ .hbLast _ _ _).trans ?_)
    exact congrArg Int.ofNat (State.time_mirSet ..)

theorem answers_lazyCopy {m : MirrorConfig} (hm : s.mirCfg = some m) (hu : s.hubUp = true) (hr : s.mirRole2 = Mr.standby)
    (hl : s.vn .lazyAt + 1000 * m.lazyPeriod ≤ max s.time t) : Answers (.lazyCopy t) s fun u =>
      u.v .lazyAt = (max s.time t : Nat) ∧ u.mir.lazyRegs = s.regs.filter fun p => lazyClass.contains p.1.n := by
  have hexec : exec (.lazyCopy t) s = .next (s.start t).copyLazy := by
    have hm' : (s.start t).mirCfg = some m := hm
    change (match (s.start t).mirCfg with | none => _ | some m => _) = _
    rw [hm']
    refine congrArg Host.Outcome.next (if_pos ?_)
    rw [Bool.and_eq_true, Bool.and_eq_true]
    exact ⟨⟨hu, decide_eq_true hr⟩, Nat.ble_eq_true_of_le hl⟩
  exact ⟨_, hexec, State.v_setV_same .., State.mir_copyLazy _⟩

theorem answers_perTickCopy (hu : s.hubUp = true) (hr : s.mirRole2 = Mr.standby) :
    Answers (.perTickCopy t) s fun u => u.mir.tickRegs = s.regs.filter fun p => tickClass.contains p.1.n := by
  refine ⟨_, congrArg Host.Outcome.next (if_pos ?_), rfl⟩
  rw [Bool.and_eq_true]
  exact ⟨hu, decide_eq_true hr⟩

/-! ### The commands of MIR_CMD -/

/-- The state after a SWITCH that is taken. -/
theorem State.mirIssue_issues (s : State) : s.mirIssue.v .mirMiss = 3 ∧ s.mirIssue.v .hbStop = 1 ∧ s.mirIssue.v .lazyAt = s.time := by
  unfold State.mirIssue State.copyLazy
  refine ⟨State.v_setV_same .., ?_, ?_⟩
  · rw [State.v_setV_var _ _ _ _ _ _ _ _ (by decide), State.v_setV_same]
  · rw [State.v_setV_var _ _ _ _ _ _ _ _ (by decide), State.v_setV_var _ _ _ _ _ _ _ _ (by decide), State.v_setV_same]
    rfl

/-- SWITCH in RUN and HOLD with a standby; else it is rejected. -/
theorem State.mirCmd_switch (s : State) : s.mirCmd 1 =
    if (s.pkg = Pkg.run ∨ s.pkg = Pkg.hold) ∧ s.mirRole2 = Mr.standby then (.ok, s.mirIssue) else (.eRange, s) := by
  unfold State.mirCmd
  simp only [Bool.and_eq_true, Bool.or_eq_true, decide_eq_true_eq]
  rfl

theorem answers_mirSwitch {p : Port} (hp : Takes s p) :
    Answers (.mirSwitch t p) s fun u => if (s.pkg = Pkg.run ∨ s.pkg = Pkg.hold) ∧ s.mirRole2 = Mr.standby then
        Told p .ok 0 u ∧ u.v .mirMiss = 3 ∧ u.v .hbStop = 1 ∧ u.v .lazyAt = (max s.time t : Nat)
      else Told p .eRange 0 u ∧ Frame Scope.refused s u := by
  have hc := (s.start t).mirCmd_switch
  by_cases h : (s.pkg = Pkg.run ∨ s.pkg = Pkg.hold) ∧ s.mirRole2 = Mr.standby
  · simp only [if_pos h]
    rw [if_pos (by exact h)] at hc
    obtain ⟨h1, h2, h3⟩ := (s.start t).mirIssue_issues
    refine answers_command hp rfl hc ⟨?_, ?_, ?_⟩
    · exact (State.v_answer _ _ _ _ _ (by decide)).trans h1
    · exact (State.v_answer _ _ _ _ _ (by decide)).trans h2
    · exact (State.v_answer _ _ _ _ _ (by decide)).trans h3
  · simp only [if_neg h]
    rw [if_neg (by exact h)] at hc
    exact answers_rejected hp rfl hc

theorem State.mirCmd_rejoin_syncing (h : s.mirRole2 = Mr.syncing) : s.mirCmd 2 = (.eOverrun, s) := by
  unfold State.mirCmd
  rw [if_neg (by decide), if_neg (by decide), if_pos rfl, if_pos h]

theorem State.mirCmd_rejoin (hm : s.mirCfg.isSome = true) (hs : s.mirRole2 ≠ Mr.syncing) : s.mirCmd 2 =
    if s.pkg ≠ Pkg.fail ∧ (s.mirRole2 = Mr.down ∨ s.mirRole2 = Mr.detached) then (.ok, s.mirSet s.mirOther Mr.syncing) else (.eRange, s) := by
  have hw : (s.when s.mirCfg.isSome fun s => s.mirSet s.mirOther Mr.syncing) = s.mirSet s.mirOther Mr.syncing := by rw [State.when, if_pos hm]
  unfold State.mirCmd
  dsimp only
  rw [if_neg (by decide), if_neg (by decide), if_pos rfl, if_neg hs, hw]
  simp only [Bool.and_eq_true, Bool.not_eq_true', decide_eq_false_iff_not, Bool.or_eq_true, decide_eq_true_eq, ne_eq]

theorem answers_mirRejoin {p : Port} (hp : Takes s p) (hm : s.mirCfg.isSome = true) :
    Answers (.mirRejoin t p) s fun u => if s.mirRole2 = Mr.syncing then Told p .eOverrun 0 u ∧ Frame Scope.refused s u
      else if s.pkg ≠ Pkg.fail ∧ (s.mirRole2 = Mr.down ∨ s.mirRole2 = Mr.detached) then Told p .ok 0 u ∧ u.mirRole2 = Mr.syncing
      else Told p .eRange 0 u ∧ Frame Scope.refused s u := by
  by_cases hs : s.mirRole2 = Mr.syncing
  · simp only [if_pos hs]
    exact answers_rejected hp rfl (State.mirCmd_rejoin_syncing (s := s.start t) hs)
  · simp only [if_neg hs]
    have hc := State.mirCmd_rejoin (s := s.start t) hm hs
    by_cases h : s.pkg ≠ Pkg.fail ∧ (s.mirRole2 = Mr.down ∨ s.mirRole2 = Mr.detached)
    · simp only [if_pos h]
      rw [if_pos (by exact h)] at hc
      refine answers_command hp rfl hc ((State.mirRole2_congr (State.reg_answer _ _ _ _ _ (by decide))).trans ?_)
      exact (s.start t).mirRole2_mirSet (by decide)
    · simp only [if_neg h]
      rw [if_neg (by exact h)] at hc
      exact answers_rejected hp rfl hc

theorem State.mirCmd_detach (s : State) : s.mirCmd 3 =
    if s.mirRole2 = Mr.syncing ∨ s.mirRole2 = Mr.standby then (.ok, s.mirDetached) else (.eRange, s) := by
  unfold State.mirCmd
  dsimp only
  rw [if_neg (by decide), if_neg (by decide), if_neg (by decide)]
  simp only [Bool.or_eq_true, decide_eq_true_eq]

theorem answers_mirDetach {p : Port} (hp : Takes s p) :
    Answers (.mirDetach t p) s fun u => if s.mirRole2 = Mr.syncing ∨ s.mirRole2 = Mr.standby then Told p .ok 0 u ∧ u.mirRole2 = Mr.detached
      else Told p .eRange 0 u ∧ Frame Scope.refused s u := by
  have hc := (s.start t).mirCmd_detach
  by_cases h : s.mirRole2 = Mr.syncing ∨ s.mirRole2 = Mr.standby
  · simp only [if_pos h]
    rw [if_pos (by exact h)] at hc
    refine answers_command hp rfl hc ((State.mirRole2_congr (State.reg_answer _ _ _ _ _ (by decide))).trans ?_)
    exact (s.start t).mirRole2_mirDetached
  · simp only [if_neg h]
    rw [if_neg (by exact h)] at hc
    exact answers_rejected hp rfl hc

theorem answers_primarySwitch (hd : s.v .priDone = 2) (hz : s.rd F.MIR_STATUS_SELF = 0) (hr : s.mirRole2 = Mr.standby)
    (hp : s.pkg = Pkg.run ∨ s.pkg = Pkg.hold) (hm : s.v .mirMiss = 0) :
    Answers (.primarySwitch t) s fun u => u.v .mirMiss = 3 ∧ u.v .hbStop = 1 ∧ u.v .priDone = 1 := by
  have hc := (s.start t).mirCmd_switch
  rw [if_pos (by exact ⟨hp, hr⟩)] at hc
  have hexec : exec (.primarySwitch t) s = .next ((s.start t).mirIssue.setV .priDone 1) := by
    refine congrArg Host.Outcome.next ((if_pos ?_).trans (congrArg (fun x : Status × State => x.2.setV .priDone 1) hc))
    have hp' : (decide ((s.start t).pkg = Pkg.run) || decide ((s.start t).pkg = Pkg.hold)) = true := by
      rw [Bool.or_eq_true, decide_eq_true_eq, decide_eq_true_eq]
      exact hp
    rw [Bool.and_eq_true, Bool.and_eq_true, Bool.and_eq_true, Bool.and_eq_true]
    exact ⟨⟨⟨⟨decide_eq_true hd, decide_eq_true hz⟩, decide_eq_true hr⟩, hp'⟩, decide_eq_true hm⟩
  obtain ⟨h1, h2, -⟩ := (s.start t).mirIssue_issues
  refine ⟨_, hexec, ?_, ?_, State.v_setV_same ..⟩
  · exact (State.v_setV_var _ _ _ _ _ _ _ _ (by decide)).trans h1
  · exact (State.v_setV_var _ _ _ _ _ _ _ _ (by decide)).trans h2

/-! ### A takeover -/

/-- The copies that a takeover puts in force, but after a SWITCH (16 R487, R488). -/
def State.takeCopies (s : State) (cause : Nat) : State :=
  if cause = 3 then s else s.tickRestore.lazyRestore.activeShow.each slots16 fun s c => (s.predShow c).slotShape c

/-- The new roles, and the end of the request. -/
def State.takeRoles (s : State) (old new : Nat) : State :=
  let s := ((s.mirSet new Mr.active).mirSet old Mr.down).wr F.MIR_STATUS_SELF new
  ((s.setV .okLapse 0).setV .mirMiss 0).setV .hbStop 0

/-- The captured operations are taken out of the copies. -/
def State.mirEmptied (s : State) : State := { s with mir := { s.mir with captured := [] } }

/-- What the new hub does at once: the captured operations, the held batches, the grants and the needs (16 R486). -/
def State.takeWork (s : State) : State :=
  let caught := s.mir.captured
  let s := s.mirEmptied
  let s := s.each caught fun s g => s.gateApply g.e g.sop g.ctx g.epoch g.leaf g.q g.lobj g.arg g.mode
  let s := s.heldAll
  let s := s.each ((s.children hubDom).filter fun c => s.childUp c) fun s c => s.grantAll c
  s.each ((s.tree.map (·.dom)).filter fun d => decide (0 ≤ s.v .needSent d)) fun s d => s.needSend d (s.vn .needSent d) (s.vn .wtSent d)

/-- The messages and frames of the held batches. -/
def State.heldCount (s : State) : Nat :=
  sumNat (s.sync.held.map fun h => (h.2.filter fun x => match x with | .rel .. => true | .dir .. => true | .frm .. => true | _ => false).length)

/-- The registers, the record and the event of a takeover. -/
def State.takeRecord (s : State) (cause old caught sent age : Nat) : State :=
  let s := s.incSat F.MIR_STATUS_FAILOVERS
  let s := ((s.wr F.MIR_LAST_CAUSE cause).wrSat F.MIR_LAST_APPLIED caught).wrSat F.MIR_LAST_RESENT sent
  let s := s.wr F.MIR_LAST_TIME s.time
  let body := leBytes 1 cause ++ leBytes 1 old ++ leBytes 2 (min 0xFFF caught) ++ leBytes 4 sent ++ leBytes 4 age
  (s.record 6 body).event 0x70 0

/-- With AUTO_REJOIN the old hub is SYNCING. -/
def State.takeRejoin (s : State) (old : Nat) : State :=
  match s.mirCfg with
  | some m => s.when m.autoRejoin fun s => s.mirSet old Mr.syncing
  | none => s

theorem State.takeover_eq (s : State) (resent : Nat) : s.takeover resent =
    let w := ((s.mirLosses.takeCopies (s.vn .mirMiss)).idSwap s.mirOther).takeRoles (s.rd F.MIR_STATUS_SELF) s.mirOther
    (w.takeWork.takeRecord (s.vn .mirMiss) (s.rd F.MIR_STATUS_SELF) w.mir.captured.length (resent + w.heldCount) s.lazyAge).takeRejoin
      (s.rd F.MIR_STATUS_SELF) := rfl

/-- What the work of a takeover keeps of the pair: its status, the request, the posted writes, the copies, and the image. -/
structure PairRests (s u : State) : Prop where
  status : u.reg .MIR_STATUS = s.reg .MIR_STATUS
  lapse : u.v .okLapse = s.v .okLapse
  miss : u.v .mirMiss = s.v .mirMiss
  posted : u.part .posted = s.part .posted
  copies : u.part .mir = s.part .mir
  image : u.part .image = s.part .image

namespace PairRests

variable {u w : State}

theorem refl (s : State) : PairRests s s := ⟨rfl, rfl, rfl, rfl, rfl, rfl⟩

theorem trans (h : PairRests s u) (k : PairRests u w) : PairRests s w :=
  ⟨k.status.trans h.status, k.lapse.trans h.lapse, k.miss.trans h.miss, k.posted.trans h.posted, k.copies.trans h.copies, k.image.trans h.image⟩

/-- Work whose scope holds nothing of the pair. -/
theorem of_does {G : Foot} (h : Does G s u) (hr : G.hasR .MIR_STATUS = false) (hl : G.hasV .okLapse = false) (hm : G.hasV .mirMiss = false)
    (hp : G.hasP .posted = false) (hc : G.hasP .mir = false) (hi : G.hasP .image = false) : PairRests s u :=
  ⟨h.reg hr _ _, h.v hl _ _, h.v hm _ _, h.parts _ hp, h.parts _ hc, h.parts _ hi⟩

theorem each {α : Type} {l : List α} {f : State → α → State} (h : PairRests s u) (hf : ∀ w x, PairRests w (f w x)) : PairRests s (u.each l f) :=
  State.each_keeps (P := PairRests s) h fun w x _ hw => hw.trans (hf w x)

theorem takeWork (s : State) : PairRests s.mirEmptied s.takeWork := by
  unfold State.takeWork
  extract_lets caught u v w x
  have hv : PairRests u v := each (refl u) fun y g =>
    of_does (Does.gateApply (Does.refl _ y) (Foot.le_refl _) _ _ _ _ _ _ _ _ _) (by decide) (by decide) (by decide) (by decide) (by decide) (by decide)
  have hw : PairRests u w := hv.trans
    (of_does (Does.heldAll (Does.refl _ v) (Foot.le_refl _)) (by decide) (by decide) (by decide) (by decide) (by decide) (by decide))
  have hx : PairRests u x := each hw fun y c =>
    of_does (Does.grantAll (Does.refl _ y) (Foot.le_refl _) _) (by decide) (by decide) (by decide) (by decide) (by decide) (by decide)
  exact each hx fun y d =>
    of_does (Does.needSend (Does.refl _ y) (Foot.le_refl _) _ _ _) (by decide) (by decide) (by decide) (by decide) (by decide) (by decide)

end PairRests

/-- The posted writes of the old hub are lost. -/
theorem State.posted_mirLosses (s : State) : s.mirLosses.part .posted = ([] : List PostedWr) := by
  unfold State.mirLosses
  extract_lets absent isHub chan closed synced counted lost depth traced cleared armed sessions kneads
  have hlost : lost.part .posted = ([] : List PostedWr) := rfl
  have hcleared : cleared.part .posted = ([] : List PostedWr) := hlost
  clear_value cleared
  have harmed : armed.part .posted = ([] : List PostedWr) := (State.part_when fun _ => State.part_trcArm (by decide)).trans hcleared
  have hkneads : kneads.part .posted = ([] : List PostedWr) :=
    (State.part_each _ _ _ _ fun _ _ _ => State.part_kneadTouch _ _ (by decide)).trans harmed
  exact (State.part_ldrAborted (by decide)).trans hkneads

/-- What stands of the pair before the roles change. -/
theorem State.takeCopies_keeps (s : State) (cause : Nat) {q : Part} (hq : q = .posted ∨ q = .image) : (s.takeCopies cause).part q = s.part q := by
  unfold State.takeCopies
  split
  · rfl
  · have hr : s.tickRestore.lazyRestore.part q = s.part q := by
      obtain rfl | rfl := hq
      · exact (State.part_lazyRestore (by decide)).trans (State.part_tickRestore (by decide))
      · exact (State.part_lazyRestore (by decide)).trans (State.part_tickRestore (by decide))
    refine (State.part_each _ _ _ _ fun u c _ => ?_).trans (Eq.trans ?_ hr)
    · obtain rfl | rfl := hq
      · exact (State.part_slotShape _ (by decide)).trans (State.part_predShow _ (by decide))
      · exact (State.part_slotShape _ (by decide)).trans (State.part_predShow _ (by decide))
    · obtain rfl | rfl := hq
      · exact State.part_activeShow (by decide)
      · exact State.part_activeShow (by decide)

/-- The pair once the new hub is in charge. -/
structure TookOver (old new : Nat) (u : State) : Prop where
  self : u.rd F.MIR_STATUS_SELF = new
  active : u.mirRole new = Mr.active
  former : u.mirRole old = Mr.down
  lapse : u.v .okLapse = 0
  miss : u.v .mirMiss = 0

theorem TookOver.rests {old new : Nat} {u w : State} (h : TookOver old new u) (k : PairRests u w) : TookOver old new w :=
  ⟨(State.rd_congr k.status).trans h.self, (State.mirRole_congr k.status _).trans h.active, (State.mirRole_congr k.status _).trans h.former,
    k.lapse.trans h.lapse, k.miss.trans h.miss⟩

/-- The numbers of the two hubs. -/
theorem State.mirOther_other (s : State) : (s.mirOther = 0 ↔ s.rd F.MIR_STATUS_SELF ≠ 0) ∧ s.mirOther < 2 ∧ s.rd F.MIR_STATUS_SELF < 2 := by
  have h : s.rd F.MIR_STATUS_SELF < 2 := State.rd_lt ..
  unfold State.mirOther
  omega

/-- The fields of MIR_STATUS but the role and SELF stay. -/
theorem State.rd_takeRoles (s : State) (old new : Nat) {f : Fld} (h : 7 ≤ f.lsb) : (s.takeRoles old new).rd f = s.rd f := by
  refine (State.rd_wr_apart _ F.MIR_STATUS_SELF f _ _ _ _ _ (by decide) (.inr h)).trans ?_
  exact (State.rd_mirSet_above _ _ _ (le_trans (by decide) h) _ _).trans (State.rd_mirSet_above _ _ _ (le_trans (by decide) h) _ _)

theorem tookOver_takeRoles (s : State) {old new : Nat} (h : new = 0 ↔ old ≠ 0) (hn : new < 2) : TookOver old new (s.takeRoles old new) := by
  have hrole (k : Nat) : (s.takeRoles old new).mirRole k = ((s.mirSet new Mr.active).mirSet old Mr.down).mirRole k := by
    have hrd (f : Fld) (hf : f.lsb + f.w ≤ 6) : (s.takeRoles old new).rd f = ((s.mirSet new Mr.active).mirSet old Mr.down).rd f :=
      State.rd_wr_apart _ _ _ _ _ _ _ _ (by decide) (.inl hf)
    unfold State.mirRole
    rw [hrd _ (by decide), hrd _ (by decide)]
  refine ⟨State.rd_wr_fits _ _ _ _ (by decide) hn, ?_, ?_, ?_, ?_⟩
  · rw [hrole, State.mirRole_mirSet_other _ h]
    exact State.mirRole_mirSet _ _ (by decide)
  · rw [hrole]
    exact State.mirRole_mirSet _ _ (by decide)
  · unfold State.takeRoles
    rw [State.v_setV_var _ _ _ _ _ _ _ _ (by decide), State.v_setV_var _ _ _ _ _ _ _ _ (by decide), State.v_setV_same]
  · unfold State.takeRoles
    rw [State.v_setV_var _ _ _ _ _ _ _ _ (by decide), State.v_setV_same]

section
variable (s : State) (cause old caught sent age : Nat)

theorem State.status_takeRecord :
    (s.takeRecord cause old caught sent age).reg .MIR_STATUS = (s.incSat F.MIR_STATUS_FAILOVERS).reg .MIR_STATUS := by
  unfold State.takeRecord
  rw [State.reg_event _ _ (by decide), State.reg_record _ _ (by decide), State.reg_wr_reg _ _ _ _ _ _ _ _ (by decide), State.wrSat,
    State.reg_wr_reg _ _ _ _ _ _ _ _ (by decide), State.wrSat, State.reg_wr_reg _ _ _ _ _ _ _ _ (by decide),
    State.reg_wr_reg _ _ _ _ _ _ _ _ (by decide)]

theorem State.cause_takeRecord : (s.takeRecord cause old caught sent age).rd F.MIR_LAST_CAUSE = cause % 2 ^ F.MIR_LAST_CAUSE.w := by
  unfold State.takeRecord
  rw [State.rd_event _ _ (by decide), State.rd_record _ _ (by decide), State.rd_wr_apart _ _ _ _ _ _ _ _ (by decide) (by decide), State.wrSat,
    State.rd_wr_apart _ _ _ _ _ _ _ _ (by decide) (by decide), State.wrSat, State.rd_wr_apart _ _ _ _ _ _ _ _ (by decide) (by decide),
    State.rd_wr_same _ _ _ _ _ (by decide)]

theorem State.v_takeRecord {x : Var} (he : Foot.event.hasV x = false) (hr : Foot.record.hasV x = false) (i j : Nat) :
    (s.takeRecord cause old caught sent age).v x i j = s.v x i j :=
  (State.v_event _ _ he).trans (State.v_record _ _ hr)

theorem State.part_takeRecord {q : Part} (he : Foot.event.hasP q = false) (hr : Foot.record.hasP q = false) :
    (s.takeRecord cause old caught sent age).part q = s.part q := by
  unfold State.takeRecord
  rw [State.part_event _ _ he, State.part_record _ _ hr, State.part_wr, State.wrSat, State.part_wr, State.wrSat, State.part_wr, State.part_wr,
    State.incSat, State.part_wr]

end

theorem State.mirRole_incSat (s : State) (k : Nat) : (s.incSat F.MIR_STATUS_FAILOVERS).mirRole k = s.mirRole k := by
  have hrd (f : Fld) (hf : f.lsb + f.w ≤ 16) : (s.incSat F.MIR_STATUS_FAILOVERS).rd f = s.rd f :=
    State.rd_wr_apart _ _ _ _ _ _ _ _ (by decide) (.inl hf)
  unfold State.mirRole
  rw [hrd _ (by decide), hrd _ (by decide)]

theorem TookOver.takeRecord {old new : Nat} {u : State} (h : TookOver old new u) (cause caught sent age : Nat) :
    TookOver old new (u.takeRecord cause old caught sent age) := by
  have hs := u.status_takeRecord cause old caught sent age
  refine ⟨(State.rd_congr hs).trans ?_, (State.mirRole_congr hs _).trans ((State.mirRole_incSat ..).trans h.active),
    (State.mirRole_congr hs _).trans ((State.mirRole_incSat ..).trans h.former),
    (State.v_takeRecord _ _ _ _ _ _ (by decide) (by decide) _ _).trans h.lapse,
    (State.v_takeRecord _ _ _ _ _ _ (by decide) (by decide) _ _).trans h.miss⟩
  exact (State.rd_wr_apart _ _ _ _ _ _ _ _ (by decide) (by decide)).trans h.self

/-- What a takeover comes to, but for the rejoin of the old hub. -/
structure TakenOver (s u : State) : Prop extends TookOver (s.rd F.MIR_STATUS_SELF) s.mirOther u where
  count : s.vn .mirMiss = 3 → u.rd F.MIR_STATUS_FAILOVERS = satAddN F.MIR_STATUS_FAILOVERS.w (s.rd F.MIR_STATUS_FAILOVERS) 1
  cause : u.rd F.MIR_LAST_CAUSE = s.vn .mirMiss % 2 ^ F.MIR_LAST_CAUSE.w
  posted : u.posted = []
  captured : u.mir.captured = []
  image : u.part .image = s.part .image

theorem State.takeover_takes (s : State) (resent : Nat) :
    ∃ u, TakenOver s u ∧ s.takeover resent = u.takeRejoin (s.rd F.MIR_STATUS_SELF) := by
  refine ⟨_, ?_, s.takeover_eq resent⟩
  obtain ⟨hother, hlt, -⟩ := s.mirOther_other
  have htook := tookOver_takeRoles ((s.mirLosses.takeCopies (s.vn .mirMiss)).idSwap s.mirOther) hother hlt
  have hcount (h3 : s.vn .mirMiss = 3) : (((s.mirLosses.takeCopies (s.vn .mirMiss)).idSwap s.mirOther).takeRoles (s.rd F.MIR_STATUS_SELF)
      s.mirOther).rd F.MIR_STATUS_FAILOVERS = s.rd F.MIR_STATUS_FAILOVERS := by
    rw [State.rd_takeRoles _ _ _ (by decide), State.rd_idSwap _ (by decide), State.takeCopies, if_pos h3, State.rd_mirLosses (by decide)]
  have hpart (q : Part) : (((s.mirLosses.takeCopies (s.vn .mirMiss)).idSwap s.mirOther).takeRoles (s.rd F.MIR_STATUS_SELF) s.mirOther).part q =
      ((s.mirLosses.takeCopies (s.vn .mirMiss)).idSwap s.mirOther).part q := by
    unfold State.takeRoles
    rw [State.part_setV, State.part_setV, State.part_setV, State.part_wr, State.part_mirSet _ _ (by cases q <;> decide),
      State.part_mirSet _ _ (by cases q <;> decide)]
  have hposted := (hpart .posted).trans ((State.part_idSwap _ (by decide)).trans
    ((State.takeCopies_keeps _ (s.vn .mirMiss) (.inl rfl)).trans s.posted_mirLosses))
  have himage := (hpart .image).trans ((State.part_idSwap _ (by decide)).trans
    ((State.takeCopies_keeps _ (s.vn .mirMiss) (.inr rfl)).trans (State.part_mirLosses (by decide))))
  generalize ((s.mirLosses.takeCopies (s.vn .mirMiss)).idSwap s.mirOther).takeRoles (s.rd F.MIR_STATUS_SELF) s.mirOther = w at *
  have hw := PairRests.takeWork w
  have hwork : TookOver (s.rd F.MIR_STATUS_SELF) s.mirOther w.takeWork :=
    TookOver.rests (u := w.mirEmptied) ⟨htook.self, htook.active, htook.former, htook.lapse, htook.miss⟩ hw
  refine ⟨hwork.takeRecord .., fun h3 => ?_, State.cause_takeRecord .., ?_, ?_, ?_⟩
  · refine (State.rd_congr (State.status_takeRecord ..)).trans ((State.rd_incSat_same _ _ _ _ _ (by decide)).trans ?_)
    rw [State.rd_congr (f := F.MIR_STATUS_FAILOVERS) hw.status]
    exact congrArg (fun x => satAddN F.MIR_STATUS_FAILOVERS.w x 1) (hcount h3)
  · exact (State.part_takeRecord (q := .posted) _ _ _ _ _ _ (by decide) (by decide)).trans (hw.posted.trans hposted)
  · exact congrArg MirSt.captured ((State.part_takeRecord (q := .mir) _ _ _ _ _ _ (by decide) (by decide)).trans hw.copies)
  · exact (State.part_takeRecord (q := .image) _ _ _ _ _ _ (by decide) (by decide)).trans (hw.image.trans himage)

/-- With AUTO_REJOIN the old hub is SYNCING, else it stays DOWN. -/
theorem TakenOver.rejoin {m : MirrorConfig} {u : State} (h : TakenOver s u) (hm : s.mirCfg = some m) :
    (u.takeRejoin (s.rd F.MIR_STATUS_SELF)).rd F.MIR_STATUS_SELF = s.mirOther
      ∧ (u.takeRejoin (s.rd F.MIR_STATUS_SELF)).mirRole s.mirOther = Mr.active
      ∧ (u.takeRejoin (s.rd F.MIR_STATUS_SELF)).mirRole (s.rd F.MIR_STATUS_SELF) = (if m.autoRejoin = true then Mr.syncing else Mr.down)
      ∧ (s.v .mirMiss = 3 → (u.takeRejoin (s.rd F.MIR_STATUS_SELF)).rd F.MIR_STATUS_FAILOVERS =
          satAddN F.MIR_STATUS_FAILOVERS.w (s.rd F.MIR_STATUS_FAILOVERS) 1)
      ∧ (u.takeRejoin (s.rd F.MIR_STATUS_SELF)).rd F.MIR_LAST_CAUSE = s.vn .mirMiss % 2 ^ F.MIR_LAST_CAUSE.w
      ∧ (u.takeRejoin (s.rd F.MIR_STATUS_SELF)).v .okLapse = 0 ∧ (u.takeRejoin (s.rd F.MIR_STATUS_SELF)).v .mirMiss = 0
      ∧ (u.takeRejoin (s.rd F.MIR_STATUS_SELF)).posted = [] ∧ (u.takeRejoin (s.rd F.MIR_STATUS_SELF)).mir.captured = [] := by
  have hcfg : u.mirCfg = some m := by
    have hactive : u.img.active = s.img.active := congrArg Prod.fst h.image
    rw [State.mirCfg, hactive]
    exact hm
  have hcount (h3 : s.v .mirMiss = 3) := h.count (congrArg Int.toNat h3)
  obtain ⟨hother, -, -⟩ := s.mirOther_other
  have hre : u.takeRejoin (s.rd F.MIR_STATUS_SELF) = if m.autoRejoin = true then u.mirSet (s.rd F.MIR_STATUS_SELF) Mr.syncing else u := by
    unfold State.takeRejoin
    rw [hcfg]
    rfl
  rw [hre]
  by_cases ha : m.autoRejoin = true
  rotate_left
  · rw [if_neg ha, if_neg ha]
    exact ⟨h.self, h.active, h.former, hcount, h.cause, h.lapse, h.miss, h.posted, h.captured⟩
  · rw [if_pos ha, if_pos ha]
    refine ⟨?_, ?_, State.mirRole_mirSet _ _ (by decide), fun h3 => ?_, ?_, ?_, ?_, ?_, ?_⟩
    · exact (State.rd_mirSet_above _ _ _ (by decide) _ _).trans h.self
    · exact (State.mirRole_mirSet_other _ hother _).trans h.active
    · exact (State.rd_mirSet_above _ _ _ (by decide) _ _).trans (hcount h3)
    · exact (State.rd_mirSet _ _ (by decide)).trans h.cause
    · exact (State.v_mirSet _ _ (by decide)).trans h.lapse
    · exact (State.v_mirSet _ _ (by decide)).trans h.miss
    · exact (State.part_mirSet (pa := .posted) _ _ (by decide)).trans h.posted
    · exact (congrArg MirSt.captured (State.part_mirSet (pa := .mir) _ _ (by decide))).trans h.captured

theorem exec_takeoverGrant (hr : s.mirRole2 = Mr.standby) (hg : s.v .mirMiss = 3 ∧ s.posted = [] ∨ s.v .mirMiss ≠ 0 ∧ s.v .okLapse = 1)
    (resent : Nat) : exec (.takeoverGrant t resent) s = .next ((s.start t).takeover resent) := by
  refine congrArg Host.Outcome.next (if_pos ?_)
  rw [Bool.and_eq_true, Bool.or_eq_true, Bool.and_eq_true, Bool.and_eq_true]
  refine ⟨decide_eq_true hr, ?_⟩
  rcases hg with ⟨h3, hp⟩ | ⟨h0, hl⟩
  · exact .inl ⟨decide_eq_true h3, List.isEmpty_iff.mpr hp⟩
  · exact .inr ⟨congrArg (!·) (decide_eq_false h0), decide_eq_true hl⟩

end

/-- Settles O47: requests that stand or are refused, the takeover in its stages, and the commands of MIR_CMD. -/
theorem mirroredPair : Obligations.MirroredPair := by
  unfold Obligations.MirroredPair
  refine ⟨fun _ _ hu hm hb ho => answers_mirrorHeartbeat hu hm hb ho,
    fun s t _ hm hr hz hb => ⟨_, exec_mirrorHeartbeatMiss hm hr hz hb, mirRequest_requests (s := s.start t) hr 1⟩,
    fun s t hr hz => ⟨_, exec_mirrorPortDown hr hz, mirRequest_requests (s := s.start t) hr 2⟩,
    fun _ _ hr hl => answers_mirrorPortDown_syncing hr hl, fun _ _ hu => answers_hubOkLapse hu, ?_,
    fun _ _ _ hp => answers_mirSwitch hp, fun _ _ _ hp hm => answers_mirRejoin hp hm, fun _ _ _ hp => answers_mirDetach hp,
    fun _ _ hu hr => answers_bulkCopyDone hu hr, fun _ _ _ hm hu hr hl => answers_lazyCopy hm hu hr hl,
    fun _ _ hu hr => answers_perTickCopy hu hr, fun _ _ hd hz hr hp hm => answers_primarySwitch hd hz hr hp hm⟩
  intro s t resent m hm hr hg
  obtain ⟨u, hu, he⟩ := (s.start t).takeover_takes resent
  exact ⟨_, exec_takeoverGrant hr hg resent, he ▸ hu.rejoin hm⟩

end Sys2Proof.Machine


/-!
PROOFS. Counters, latches and the telemetry window (17 R497 to R513): the reports of a leaf and its selectors, the banks at the hub, the
points and slots of a latch, and the record of a window of telemetry.
-/
namespace Sys2Proof.Machine

/-! ### The reports and the selectors of a leaf (17 R497, R502, R507) -/

/-- What is sent at an end that is UP goes out with the epoch of the end. -/
theorem State.msg_mem_send {s : State} {e : ChEnd} (h : s.chSt e = Ch.up) (typ payload : Nat) :
    Out.msg e typ (s.ch e F.HUB_CHAN_EPOCH % 16) payload ∈ (s.send e typ payload).out := by
  have hc : s.canSend e typ = true := by
    unfold State.canSend
    extract_lets st
    rw [if_pos (show st = Ch.up from h), ite_self]
  rw [State.send, if_pos hc]
  exact List.mem_append_right _ (List.mem_singleton_self _)

/-- The reports of a leaf change nothing but what the command sends and what the lanes have yet to send. -/
theorem State.each_sendUp_out {α : Type} (s : State) (c : List α) (d typ : Nat) (f : α → Nat) :
    ∃ l o, (s.each c fun s x => s.sendUp d typ (f x)) = { s with lanes := l, out := o } := by
  refine State.each_keeps (P := fun u => ∃ l o, u = { s with lanes := l, out := o }) ⟨s.lanes, s.out, rfl⟩ ?_
  rintro _ x - ⟨l, o, rfl⟩
  obtain ⟨l', o', h⟩ := State.sendUp_out { s with lanes := l, out := o } d typ (f x)
  exact ⟨l', o', h⟩

/-- The last message of a leaf's reports is its END (17 R497). -/
theorem State.end_mem_leafReports {s : State} {l : Nat} (h : s.chSt (childEnd (leafDom l)) = Ch.up) (lk ctx seq : Nat) (late : Bool)
    (c : List (Nat × Nat × Nat)) :
    Out.msg (childEnd (leafDom l)) Mt.counter (s.ch (childEnd (leafDom l)) F.HUB_CHAN_EPOCH % 16) (endPayload lk ctx seq c.length late)
      ∈ (s.leafReports l lk ctx seq late c).out := by
  unfold State.leafReports
  extract_lets u
  obtain ⟨la, o, hu⟩ : ∃ la o, u = { s with lanes := la, out := o } := State.each_sendUp_out ..
  rw [hu]
  exact State.msg_mem_send (s := { s with lanes := la, out := o }) h ..

/-- A selector that no later window waits for is the one that the leaf counts by (17 R502). -/
theorem State.selF_taken {s : State} {l k stamp : Nat} (h : s.v .cntFrom l k ≤ (stamp / 10000 : Nat)) {f : Fld} (hf : f.r = .LEAF_CNT_SEL) :
    s.selF l k f stamp = s.rd f l k := by
  rw [State.selF, if_pos h, State.rd, hf, getBits, BitVec.extractLsb'_toNat, Nat.shiftRight_eq_div_pow]

theorem State.ch_cntTake (s : State) (l : Nat) (reps : List Rep) (e : ChEnd) (f : Fld) : (s.cntTake l reps).ch e f = s.ch e f :=
  State.ch_congr (State.reg_cntTake _ _ (Foot.hasR_endReg (by decide) (by decide) (by decide) e)) f

section
variable {s : State} {t l : Nat}

/-- The close of a counter window at a leaf (17 R497, R498, R502). -/
theorem answers_leafCounterWindow (hl : s.leafRuns l = true) (hn : s.v .cwNum l + 1 < ((max s.time t / 10000 : Nat) : Int))
    (reps : List Rep) :
    Answers (.leafCounterWindow t l reps) s fun u => u.v .cwNum l = ((max s.time t / 10000 : Nat) : Int) - 1
      ∧ (∀ j, j / 2048 < max s.time t / 10000 → u.v .cwAcc l j = 0)
      ∧ (∀ k < 8, s.v .cntFrom l k ≤ (max s.time t / 10000 : Nat) →
          u.selF l k F.LEAF_CNT_SEL_SEL (max s.time t) = u.rd F.LEAF_CNT_SEL_SEL l k)
      ∧ (s.chSt (childEnd (leafDom l)) = Ch.up →
          ∃ n, Out.msg (childEnd (leafDom l)) Mt.counter (s.ch (childEnd (leafDom l)) F.HUB_CHAN_EPOCH % 16)
            (endPayload 0 0 ((max s.time t / 10000 - 1) % 16) n false) ∈ u.out) := by
  have hg : ((s.start t).leafRuns l && decide ((s.start t).v .cwNum l + 1 < (((s.start t).time / 10000 : Nat) : Int))) = true := by
    simp only [Bool.and_eq_true, decide_eq_true_eq]
    exact ⟨hl, hn⟩
  refine ⟨_, congrArg Host.Outcome.next (if_pos hg), State.v_setV_same .., ?_, ?_, ?_⟩
  · intro j hj
    rw [State.v_setV_var _ _ _ _ _ _ _ _ (by decide)]
    exact State.v_dropV_gone _ _ _ (Nat.blt_eq.mpr hj)
  · intro k _ hk
    refine State.selF_taken ?_ rfl
    rw [State.v_setV_var _ _ _ _ _ _ _ _ (by decide), State.v_dropV_var _ (by decide), State.v_leafReports _ _ _ _ _ _ (by decide),
      State.v_cntTake _ _ (by decide)]
    exact hk
  · intro hup
    have he : ((s.start t).cntTake l reps).chSt (childEnd (leafDom l)) = Ch.up := (State.ch_cntTake ..).trans hup
    extract_lets taken sent
    have hch : s.ch (childEnd (leafDom l)) F.HUB_CHAN_EPOCH = taken.ch (childEnd (leafDom l)) F.HUB_CHAN_EPOCH :=
      (State.ch_cntTake (s.start t) ..).symm
    refine ⟨(taken.accOf .cwAcc l fun j => Nat.blt (j / 2048) ((s.start t).time / 10000)).length, ?_⟩
    rw [State.out_setV, State.out_dropV, hch]
    exact State.end_mem_leafReports he ..

/-- The split of a leaf for a latch point (17 R507). -/
theorem answers_leafCntLatch {c num : Nat} (hl : s.leafRuns l = true) (hv : 0 < s.vn .latPend l (c % 16 + 16 * (num % 16)))
    (ht : (s.vn .latPend l (c % 16 + 16 * (num % 16)) - 1) / 2 ≤ max s.time t) (reps : List Rep) :
    Answers (.leafCntLatch t l c num reps) s fun u => u.v .latPend l (c % 16 + 16 * (num % 16)) = 0
      ∧ ∀ j, j / 2048 = num % 16 + 1 → j / 64 % 32 = c % 16 → u.v .clAcc l j = 0 := by
  have hg : ((s.start t).leafRuns l && decide (0 < (s.start t).vn .latPend l (c % 16 + 16 * (num % 16)))
      && Nat.ble (((s.start t).vn .latPend l (c % 16 + 16 * (num % 16)) - 1) / 2) (s.start t).time) = true := by
    simp only [Bool.and_eq_true, decide_eq_true_eq, Nat.ble_eq]
    exact ⟨⟨hl, hv⟩, ht⟩
  refine ⟨_, congrArg Host.Outcome.next (if_pos hg), State.v_setV_same .., fun j hnum hc => ?_⟩
  rw [State.v_setV_var _ _ _ _ _ _ _ _ (by decide)]
  refine State.v_dropV_gone _ _ _ ?_
  simp only [Bool.and_eq_true, Nat.beq_eq]
  exact ⟨hnum, hc⟩

end

/-! ### The banks and the windows at the hub (17 R499 to R504) -/

/-- The END of a window is named by its SEQ alone. -/
theorem endKey_window (ctx seq : Nat) : endKey 0 ctx seq = 2 * seq := by simp [endKey]

/-- A wrapping counter reads what it read and what was added, in its width. -/
theorem State.rd_incWrap_same (s : State) (f : Fld) (d i j : Nat) (h : f.lsb + f.w ≤ 64) :
    (s.incWrap f d i j).rd f i j = (s.rd f i j + d) % 2 ^ f.w := State.rd_wr_same _ _ _ _ _ h

theorem State.rd_incWrap_reg (s : State) {f g : Fld} (h : g.r ≠ f.r) (d i j a b : Nat) : (s.incWrap f d i j).rd g a b = s.rd g a b :=
  State.rd_wr_reg _ _ _ _ _ _ _ _ h

/-- What STARTER samples of a window is held in variables. -/
theorem State.rd_sampled (s : State) (b : Bool) (k cidx c delta : Nat) {f : Fld} (hf : Foot.smpAdd.hasR f.r = false) (i j : Nat) :
    (s.when b fun u => u.smpAdd k cidx c delta).rd f i j = s.rd f i j :=
  State.when_holds (P := fun u => u.rd f i j = s.rd f i j) rfl fun _ hu => (State.rd_smpAdd _ _ _ _ hf).trans hu

theorem State.v_sampled (s : State) (b : Bool) (k cidx c delta : Nat) (i j : Nat) :
    (s.when b fun u => u.smpAdd k cidx c delta).v .swTime i j = s.v .swTime i j :=
  State.v_when_keeps fun u => State.v_smpAdd k cidx c delta (by decide)

section
variable {s : State} {k cidx slot delta g : Nat}

/-- A window report adds to the class total of its CIDX (17 R501). -/
theorem State.rd_winReport_total (hg : classTotal cidx = some g) :
    (s.winReport k cidx slot delta).rd F.CNT_GLOBAL_VAL g = (s.rd F.CNT_GLOBAL_VAL g + delta) % 2 ^ F.CNT_GLOBAL_VAL.w := by
  have h : (s.gCount g delta).rd F.CNT_GLOBAL_VAL g = (s.rd F.CNT_GLOBAL_VAL g + delta) % 2 ^ F.CNT_GLOBAL_VAL.w :=
    State.rd_incWrap_same _ _ _ _ _ (by decide)
  rw [State.winReport, hg]
  dsimp only
  split
  · exact (State.rd_incWrap_reg _ (by decide) ..).trans h
  · split
    · exact (State.rd_sampled _ _ _ _ _ _ (by decide) ..).trans h
    · exact (State.rd_incWrap_reg _ (by decide) ..).trans ((State.rd_sampled _ _ _ _ _ _ (by decide) ..).trans h)

/-- The window report of no context adds to the unattributed bank (17 R500). -/
theorem State.rd_winReport_unattributed (hg : classTotal cidx = some g) :
    (s.winReport k cidx 16 delta).rd F.CNT_UA_VAL cidx = (s.rd F.CNT_UA_VAL cidx + delta) % 2 ^ F.CNT_UA_VAL.w := by
  rw [State.winReport, hg]
  dsimp only
  rw [if_pos rfl, State.rd_incWrap_same _ _ _ _ _ (by decide), State.rd_gCount _ _ (by decide)]

/-- The window report of a context that was not switched after the window began adds to the bank of the context (17 R500, R504). -/
theorem State.rd_winReport_context (hg : classTotal cidx = some g) (hs : slot ≠ 16) (hw : s.v .swTime slot ≤ (10000 * k : Nat)) :
    (s.winReport k cidx slot delta).rd F.CNT_CTX_VAL slot cidx = (s.rd F.CNT_CTX_VAL slot cidx + delta) % 2 ^ F.CNT_CTX_VAL.w := by
  rw [State.winReport, hg]
  dsimp only
  rw [if_neg hs, if_neg, State.rd_incWrap_same _ _ _ _ _ (by decide), State.rd_sampled _ _ _ _ _ _ (by decide), State.rd_gCount _ _ (by decide)]
  rw [decide_eq_true_eq, State.v_sampled, State.v_gCount _ _ (by decide)]
  exact not_lt.mpr hw

end

/-- A child's report of a window at the hub: one that comes after the END of the child counts as late, and all are taken (17 R500). -/
theorem State.counterHub_report {cidx : Nat} (h : cidx ≠ 0x3F) (s : State) (c slot seq delta : Nat) :
    ∃ b : Bool, s.counterHub c 0 cidx slot seq delta = (s.when b fun u => u.incSat F.CNT_STATUS_LATE_REPS).winReport
      (s.time / 10000 - 1 - (s.time / 10000 + 15 - seq) % 16) cidx slot delta := by
  refine ⟨decide (s.v .cnEnd c (endKey 0 (if slot = 16 then 0 else slot) seq) ≠ 0), ?_⟩
  unfold State.counterHub
  extract_lets ctx ek ended counted
  have ht : counted.time = s.time := State.when_holds (P := fun u => u.time = s.time) rfl fun _ hu => hu
  rw [if_neg h, if_pos rfl, ht]

/-- An END that a child sends of a window is noted with its LATE (17 R500). -/
theorem State.cnEnd_counterHub (s : State) (c slot seq delta : Nat) :
    (s.counterHub c 0 0x3F slot seq delta).v .cnEnd c (2 * seq) = if bitOf delta 37 = true then 2 else 1 := by
  unfold State.counterHub
  extract_lets ctx ek ended
  rw [if_pos rfl, if_pos rfl, ← endKey_window ctx seq]
  exact State.v_setV_same ..

section
variable {s : State} {t tag c k cidx ctx seq nleaf delta lk : Nat} {ua : Bool}

/-- A COUNTER of a window that a child sends to the hub (17 R497, R500). -/
theorem answers_counterMsg {Q : State → Prop} (hd : s.delivers (.hub k) tag = true) (hc : s.endChild (.hub k) = some c) (hlk : lk % 2 = 0)
    (hq : Q ((s.start t).counterHub c 0 (cidx % 64) (if ua then 16 else ctx % 16) (seq % 16) (delta % 2 ^ 38))) :
    Answers (.counterMsg t (.hub k) tag lk cidx ctx seq nleaf ua delta) s Q := by
  refine answers_upMsg hd hc rfl ?_
  dsimp only
  rw [hlk, if_pos (show endDom (.hub k) = hubDom from rfl)]
  exact hq

/-- A window report of a child at the hub is taken, whether it is late or not (17 R500). -/
theorem answers_counterMsg_report {Q : State → Prop} (hd : s.delivers (.hub k) tag = true) (hc : s.endChild (.hub k) = some c)
    (hlk : lk % 2 = 0) (hi : cidx ≤ 0x1A)
    (hq : ∀ b : Bool, Q (((s.start t).when b fun u => u.incSat F.CNT_STATUS_LATE_REPS).winReport
      (max s.time t / 10000 - 1 - (max s.time t / 10000 + 15 - seq % 16) % 16) cidx (if ua then 16 else ctx % 16) (delta % 2 ^ 38))) :
    Answers (.counterMsg t (.hub k) tag lk cidx ctx seq nleaf ua delta) s Q := by
  refine answers_counterMsg hd hc hlk ?_
  obtain ⟨b, hb⟩ := State.counterHub_report (cidx := cidx) (by omega) (s.start t) c (if ua then 16 else ctx % 16) (seq % 16) (delta % 2 ^ 38)
  rw [Nat.mod_eq_of_lt (by omega : cidx < 64), hb]
  exact hq b

end

/-- A count of late reports leaves every other register. -/
theorem State.rd_lateCounted (s : State) (b : Bool) {f : Fld} (hf : f.r ≠ F.CNT_STATUS_LATE_REPS.r) (i j : Nat) :
    (s.when b fun u => u.incSat F.CNT_STATUS_LATE_REPS).rd f i j = s.rd f i j :=
  State.when_holds (P := fun u => u.rd f i j = s.rd f i j) rfl fun _ hu => (State.rd_wr_reg _ _ _ _ _ _ _ _ hf).trans hu

theorem State.v_lateCounted (s : State) (b : Bool) (x : Var) (i j : Nat) :
    (s.when b fun u => u.incSat F.CNT_STATUS_LATE_REPS).v x i j = s.v x i j :=
  State.v_when_keeps fun _ => rfl

theorem classTotal_row {cidx : Nat} (h : cidx ≤ 0x1A) : classTotal cidx = some (0x60 + cidx) := if_pos h

section
variable {s : State} {t tag c k cidx ctx seq nleaf delta lk : Nat}

/-- The window report of a context adds to its bank and to the class total. -/
theorem answers_counterMsg_context (hd : s.delivers (.hub k) tag = true) (hc : s.endChild (.hub k) = some c) (hlk : lk % 2 = 0)
    (hi : cidx ≤ 0x1A)
    (hsw : s.v .swTime (ctx % 16) ≤ (10000 * (max s.time t / 10000 - 1 - (max s.time t / 10000 + 15 - seq % 16) % 16) : Nat)) :
    Answers (.counterMsg t (.hub k) tag lk cidx ctx seq nleaf false delta) s fun u =>
      u.rd F.CNT_CTX_VAL (ctx % 16) cidx = (s.rd F.CNT_CTX_VAL (ctx % 16) cidx + delta % 2 ^ 38) % 2 ^ F.CNT_CTX_VAL.w
        ∧ u.rd F.CNT_GLOBAL_VAL (0x60 + cidx) = (s.rd F.CNT_GLOBAL_VAL (0x60 + cidx) + delta % 2 ^ 38) % 2 ^ F.CNT_GLOBAL_VAL.w := by
  refine answers_counterMsg_report hd hc hlk hi fun b => ⟨?_, ?_⟩
  · rw [if_neg Bool.false_ne_true, State.rd_winReport_context (classTotal_row hi) (by omega) (by rw [State.v_lateCounted]; exact hsw),
      State.rd_lateCounted _ _ (by decide), State.rd_start]
  · rw [State.rd_winReport_total (classTotal_row hi), State.rd_lateCounted _ _ (by decide), State.rd_start]

/-- The window report of no context adds to the unattributed bank. -/
theorem answers_counterMsg_unattributed (hd : s.delivers (.hub k) tag = true) (hc : s.endChild (.hub k) = some c) (hlk : lk % 2 = 0)
    (hi : cidx ≤ 0x1A) :
    Answers (.counterMsg t (.hub k) tag lk cidx ctx seq nleaf true delta) s fun u =>
      u.rd F.CNT_UA_VAL cidx = (s.rd F.CNT_UA_VAL cidx + delta % 2 ^ 38) % 2 ^ F.CNT_UA_VAL.w := by
  refine answers_counterMsg_report hd hc hlk hi fun b => ?_
  rw [if_pos rfl, State.rd_winReport_unattributed (classTotal_row hi), State.rd_lateCounted _ _ (by decide), State.rd_start]

end

/-- A node engine that sends its sums of a SEQ marks them sent (17 R499). -/
theorem State.cnSent_counterSend (s : State) (n lk ctx seq : Nat) : (s.counterSend n lk ctx seq).v .cnSent n (endKey lk ctx seq) = 1 :=
  State.v_setV_same ..

/-- The sums of a node engine that are due are sent (17 R499). -/
theorem answers_counterSumTimeout {s : State} {t n lk ctx seq : Nat} (hd : s.hasDom (nodeDom n) = true) (hh : s.v .islHeld (nodeDom n) = 0)
    (hs : s.v .cnSent n (endKey (lk % 2) (ctx % 16) (seq % 16)) = 0)
    (ht : lk % 2 = 1 ∨ 10000 * (max s.time t / 10000 - (max s.time t / 10000 + 15 - seq % 16) % 16) + 5000 ≤ max s.time t) :
    Answers (.counterSumTimeout t n lk ctx seq) s fun u => u.v .cnSent n (endKey (lk % 2) (ctx % 16) (seq % 16)) = 1 := by
  refine ⟨_, congrArg Host.Outcome.next (if_pos ?_), State.cnSent_counterSend ..⟩
  simp only [Bool.and_eq_true, Bool.or_eq_true, decide_eq_true_eq, Nat.ble_eq]
  exact ⟨⟨⟨hd, hh⟩, hs⟩, ht⟩

/-- A counter window that every present child has ended, or whose time has passed, shows (17 R500). -/
theorem answers_counterWindowComplete {s : State} {t k : Nat} (hu : s.hubUp = true) (hk : s.v .smpDone < k)
    (ht : (k + 1) * 10000 + 10000 ≤ max s.time t
      ∨ (k + 1) * 10000 ≤ max s.time t ∧ ∀ d ∈ s.cntKids, s.v .cnEnd d (2 * (k % 16)) ≠ 0) :
    Answers (.counterWindowComplete t k) s fun u => u.rd F.CNT_STATUS_WIN = k % 2 ^ F.CNT_STATUS_WIN.w ∧ u.v .smpDone = k := by
  have hw : (k + 1) * 10000
      + (if (s.start t).cntKids.all fun d => decide ((s.start t).v .cnEnd d (endKey 0 0 (k % 16)) ≠ 0) then 0 else 10000)
        ≤ (s.start t).time := by
    rw [State.time_start]
    obtain h | ⟨h, hall⟩ := ht
    · split
      · exact (Nat.add_le_add_left (Nat.zero_le _) _).trans h
      · exact h
    · rw [if_pos, Nat.add_zero]
      · exact h
      · rw [List.all_eq_true]
        intro d hd
        rw [endKey_window, decide_eq_true_eq]
        exact hall d hd
  refine ⟨_, congrArg Host.Outcome.next (if_pos ?_), ?_, State.v_setV_same ..⟩
  · simp only [Bool.and_eq_true, decide_eq_true_eq, Nat.ble_eq]
    exact ⟨⟨hu, hk⟩, hw⟩
  · rw [State.rd_setV, State.rd_wr_same _ _ _ _ _ (by decide)]

/-! ### Latch points and latch slots (17 R506 to R509) -/

theorem State.latch_answer (s : State) (p : Port) (r : Reg) (st : Status) (i j : Nat) : (s.answer p r st i j).latch = s.latch :=
  State.part_answer (pa := .latch) _ _ _ _ _ (by decide)

/-- The command that a point sends to the leaves leaves the points and the slots. -/
theorem State.latch_hubWrite (s : State) (d : Nat) (r : Reg) (j w : Nat) : (s.hubWrite d r j w).latch = s.latch :=
  State.part_hubWrite (pa := .latch) _ _ _ _ (by decide)

/-- A new point takes the next serial number (17 R507). -/
theorem State.fst_latchPoint (s : State) (c : Nat) : (s.latchPoint c).1 = s.latch.next := rfl

theorem State.latch_latchPoint (s : State) (c : Nat) :
    (s.latchPoint c).2.latch.next = s.latch.next + 1 ∧ (s.latchPoint c).2.latch.slots = s.latch.slots := by
  unfold State.latchPoint
  extract_lets ser num tL w away zero p old added numbered
  have h : (numbered.each (numbered.leaves.filter fun l => numbered.pathUpTo (leafDom l)) fun s l =>
      s.hubWrite (leafDom l) .LEAF_CNT_LATCH 0 w).latch = numbered.latch :=
    State.each_keeps (P := fun u => u.latch = numbered.latch) rfl fun u l _ hu => (State.latch_hubWrite ..).trans hu
  rw [h]
  exact ⟨rfl, rfl⟩

/-- A new point counts up the latch number of its context. -/
theorem State.latNum_latchPoint (s : State) (c : Nat) :
    (s.latchPoint c).2.v .latNum c = ((s.vn .latNum c + 1) % 16 : Nat) := by
  unfold State.latchPoint
  extract_lets ser num tL w away zero p old added numbered
  have h : (numbered.each (numbered.leaves.filter fun l => numbered.pathUpTo (leafDom l)) fun s l =>
      s.hubWrite (leafDom l) .LEAF_CNT_LATCH 0 w).v .latNum c = numbered.v .latNum c :=
    State.each_keeps (P := fun u => u.v .latNum c = numbered.v .latNum c) rfl fun u l _ hu =>
      (State.v_hubWrite _ _ _ _ (by decide)).trans hu
  exact h.trans (State.v_setV_same ..)

/-- Put latch slots in place of those of a state. -/
def State.withSlots (s : State) (l : List LatchSlot) : State := { s with latch := { s.latch with slots := l } }

section
variable {s : State} {c k addr : Nat}

/-- START of an open latch slot, or with 4 points that wait (17 R506). -/
theorem State.latchOp_start_overrun (h : (s.latchSlot? c k).isSome = true ∨ 4 ≤ (s.latchOpenPts c).length) :
    s.latchOp c 1 k addr = (.eOverrun, s) := by
  unfold State.latchOp
  extract_lets full
  refine if_pos ?_
  simp only [full, Bool.or_eq_true, Nat.ble_eq]
  exact h

/-- START of a closed latch slot opens it at a new point (17 R506, R507). -/
theorem State.latchOp_start (h : ¬ ((s.latchSlot? c k).isSome = true ∨ 4 ≤ (s.latchOpenPts c).length)) :
    s.latchOp c 1 k addr = (.ok, (s.latchPoint c).2.withSlots ((s.latchPoint c).2.latch.slots
      ++ [⟨c, k, addr, s.latch.next, none, false, false⟩])) := by
  unfold State.latchOp
  extract_lets full
  refine if_neg ?_
  simp only [full, Bool.or_eq_true, Nat.ble_eq]
  exact h

/-- END of a closed slot, or with another address (17 R506). -/
theorem State.latchOp_end_range (h : ((s.latchSlot? c k).map (·.addr)) ≠ some addr) : s.latchOp c 2 k addr = (.eRange, s) := by
  unfold State.latchOp
  cases hx : s.latchSlot? c k with
  | none => rfl
  | some x => exact if_pos fun ha => h (by rw [hx, Option.map_some, ha])

/-- END of an open slot with its address closes it at a new point (17 R506, R507). -/
theorem State.latchOp_end {x : LatchSlot} (hx : s.latchSlot? c k = some x) (ha : x.addr = addr) (hf : (s.latchOpenPts c).length < 4) :
    s.latchOp c 2 k addr = (.ok, (s.latchPoint c).2.withSlots ((s.latchPoint c).2.latch.slots.map fun y =>
      if y = x then { y with stop := some s.latch.next } else y)) := by
  have hfull : ¬ Nat.ble 4 (s.latchOpenPts c).length = true := by
    rw [Nat.ble_eq]
    omega
  unfold State.latchOp
  rw [hx]
  exact (if_neg (not_not.mpr ha)).trans (if_neg hfull)

/-- The slots that are open after some are closed are those that were open before, without those that are closed. -/
theorem find?_slots_closed (l : List LatchSlot) (x : LatchSlot) (n : Nat) (q : LatchSlot → Bool) :
    (l.map fun y => if y = x then { y with stop := some n } else y).find? (fun y => q y && y.stop.isNone)
      = (l.filter fun y => decide (y ≠ x)).find? fun y => q y && y.stop.isNone := by
  induction l with
  | nil => rfl
  | cons y l ih =>
    by_cases hy : y = x
    · simpa [hy] using ih
    · rw [List.map_cons, if_neg hy, List.filter_cons, if_pos (decide_eq_true hy), List.find?_cons, List.find?_cons, ih]

end

section
variable {s v : State} {t c op k addr : Nat} {p : Port} {i : Instr} {st : Status} {Q : State → Prop}

/-- A write of CNT_LATCH by a port with the privileged window is told its status (17 R506). -/
theorem answers_latchWrite (hp : Takes s p) (he : exec i s = .next ((s.start t).latchWrite p none c op k addr))
    (ho : (s.start t).latchOp (c % 16) op (k % 4) (addr % 2 ^ 42) = (st, v)) (hq : Q (v.answer p .CNT_LATCH st)) :
    Answers i s fun u => Told p st 0 u ∧ Q u := by
  obtain ⟨hu, hpriv⟩ := hp
  have hu' : (s.start t).hubUp = true := hu
  refine ⟨_, he, ?_⟩
  rw [State.latchWrite, hu', if_neg (by decide)]
  dsimp only
  rw [hpriv, if_neg (by decide), ho]
  exact ⟨told_answer .., hq⟩

/-- START of a latch slot (17 R506, R507). -/
theorem answers_latchStart (hp : Takes s p) :
    Answers (.latchStart t p none c k addr) s fun u =>
      if (s.latchSlot? (c % 16) (k % 4)).isSome = true ∨ 4 ≤ (s.latchOpenPts (c % 16)).length then Told p .eOverrun 0 u ∧ Frame Scope.refused s u
      else Told p .ok 0 u ∧ u.latch.slots = s.latch.slots ++ [⟨c % 16, k % 4, addr % 2 ^ 42, s.latch.next, none, false, false⟩]
        ∧ u.latch.next = s.latch.next + 1 ∧ u.v .latNum (c % 16) = ((s.vn .latNum (c % 16) + 1) % 16 : Nat) := by
  by_cases h : (s.latchSlot? (c % 16) (k % 4)).isSome = true ∨ 4 ≤ (s.latchOpenPts (c % 16)).length
  · simp only [if_pos h]
    exact answers_latchWrite hp rfl (State.latchOp_start_overrun (s := s.start t) h) (frame_answer ..)
  · simp only [if_neg h]
    obtain ⟨hnext, hslots⟩ := State.latch_latchPoint (s.start t) (c % 16)
    refine answers_latchWrite hp rfl (State.latchOp_start (s := s.start t) h) ⟨?_, ?_, ?_⟩
    · rw [State.latch_answer, State.withSlots, hslots]
      rfl
    · rw [State.latch_answer]
      exact hnext
    · rw [State.v_answer _ _ _ _ _ (by decide)]
      exact State.latNum_latchPoint ..

/-- END of a slot that is closed or has another address. -/
theorem answers_latchEnd_range (hp : Takes s p) (h : ((s.latchSlot? (c % 16) (k % 4)).map (·.addr)) ≠ some (addr % 2 ^ 42)) :
    Answers (.latchEnd t p none c k addr) s fun u => Told p .eRange 0 u ∧ Frame Scope.refused s u :=
  answers_latchWrite hp rfl (State.latchOp_end_range (s := s.start t) h) (frame_answer ..)

/-- END of an open slot (17 R506, R507). -/
theorem answers_latchEnd {x : LatchSlot} (hp : Takes s p) (hx : s.latchSlot? (c % 16) (k % 4) = some x) (ha : x.addr = addr % 2 ^ 42)
    (hf : (s.latchOpenPts (c % 16)).length < 4) :
    Answers (.latchEnd t p none c k addr) s fun u => Told p .ok 0 u ∧ { x with stop := some s.latch.next } ∈ u.latch.slots
      ∧ u.latch.next = s.latch.next + 1 ∧ u.latchSlot? (c % 16) (k % 4) = (s.latch.slots.filter fun y => decide (y ≠ x)).find?
          fun y => Nat.beq y.ctx (c % 16) && Nat.beq y.slot (k % 4) && y.stop.isNone := by
  obtain ⟨hnext, hslots⟩ := State.latch_latchPoint (s.start t) (c % 16)
  refine answers_latchWrite hp rfl (State.latchOp_end (s := s.start t) hx ha hf) ⟨?_, ?_, ?_⟩
  · rw [State.latch_answer, State.withSlots, hslots]
    exact List.mem_map.mpr ⟨x, List.mem_of_find?_eq_some hx, if_pos rfl⟩
  · rw [State.latch_answer]
    exact hnext
  · rw [State.latchSlot?, State.latch_answer, State.withSlots, hslots]
    exact find?_slots_closed s.latch.slots x s.latch.next fun y => Nat.beq y.ctx (c % 16) && Nat.beq y.slot (k % 4)

end

/-! ### The completion of a latch point (17 R508, R509) -/

theorem State.latch_event (s : State) (code inst : Nat) : (s.event code inst).latch = s.latch :=
  State.part_event (pa := .latch) _ _ (by decide)

theorem State.latch_latchRecord (s : State) (x : LatchSlot) (e : LatchPt) : (s.latchRecord x e).latch = s.latch :=
  State.part_latchRecord (pa := .latch) _ _ (by decide)

/-- The work at the end of a point that raises PARTIAL and writes the records leaves the points and the slots. -/
theorem State.latch_recorded (s : State) (b : Bool) (c : Nat) (l : List LatchSlot) (e : LatchPt) :
    ((s.when b fun s => s.event 0x7C c).each l fun s x => s.latchRecord x e).latch = s.latch :=
  State.each_keeps (P := fun u => u.latch = s.latch)
    (State.when_holds (P := fun u => u.latch = s.latch) rfl fun _ hu => (State.latch_event ..).trans hu)
    fun _ _ _ hu => (State.latch_latchRecord ..).trans hu

/-- A point that is due is done, and the slots that it closes are gone. -/
theorem State.latchComplete_due {s : State} {n : Nat} {p : LatchPt} (hp : s.latchPt? n = some p) (hd : p.done = false)
    (ht : p.tL + 20000 ≤ s.time) :
    (∀ x ∈ (s.latchComplete n).latch.slots, x.stop ≠ some n) ∧ ∀ y ∈ (s.latchComplete n).latch.pts, y.ser = n → y.done = true := by
  unfold State.latchComplete
  rw [hp]
  dsimp -zeta only
  extract_lets all e old done alerted ends recorded rest kept
  have hg : ¬ (p.done || !((all && decide ((p.tL : Int) ≤ 1000 * (s.v .hubIv + 1))) || Nat.ble (p.tL + 20000) s.time)) = true := by
    rw [hd, Nat.ble_eq.mpr ht, Bool.or_true]
    decide
  have hrec : recorded.latch = done.latch := State.latch_recorded ..
  rw [if_neg hg]
  constructor
  · intro x hx
    obtain ⟨-, hstop⟩ := List.mem_filter.mp (show x ∈ recorded.latch.slots.filter fun x => !(x.stop == some n) from hx)
    simpa using hstop
  · intro y hy hn
    obtain ⟨hy', -⟩ := List.mem_filter.mp hy
    have hmem : y ∈ recorded.latch.pts := hy'
    rw [hrec] at hmem
    obtain ⟨z, -, hz⟩ := List.mem_map.mp hmem
    by_cases hzn : Nat.beq z.ser n = true
    · rw [← hz, if_pos hzn]
    · rw [if_neg hzn] at hz
      exact absurd (Nat.beq_eq.mpr (hz ▸ hn)) hzn

/-- A point of a context 20 µs after its stamp (17 R508). -/
theorem answers_latchPointComplete {s : State} {t c num : Nat} {p : LatchPt}
    (hf : (s.latchOpenPts (c % 16)).find? (fun y => Nat.beq y.num (num % 16)) = some p) (hp : s.latchPt? p.ser = some p)
    (ht : p.tL + 20000 ≤ max s.time t) :
    Answers (.latchPointComplete t c num) s fun u =>
      (∀ x ∈ u.latch.slots, x.stop ≠ some p.ser) ∧ ∀ y ∈ u.latch.pts, y.ser = p.ser → y.done = true := by
  obtain ⟨-, hopen⟩ := List.mem_filter.mp (List.mem_of_find?_eq_some hf)
  rw [Bool.and_eq_true, Bool.not_eq_true'] at hopen
  have hf' : ((s.start t).latchOpenPts (c % 16)).find? (fun y => Nat.beq y.num (num % 16)) = some p := hf
  have he : exec (.latchPointComplete t c num) s = .next ((s.start t).latchComplete p.ser) := by
    change execLatchPointComplete t c num s = _
    rw [execLatchPointComplete, hf']
  exact ⟨_, he, State.latchComplete_due (s := s.start t) hp hopen.2 ht⟩

/-! ### The telemetry window (17 R513) -/

/-- A record port that is busy takes nothing. -/
theorem State.recPump_busy {s : State} (h : s.recFly.isSome = true) (n : Nat) : s.recPump (n + 1) = s := by
  rw [State.recPump, if_pos (by rw [h, Bool.true_or])]

theorem State.recs_recRun_busy {s : State} (h : s.recFly.isSome = true) : s.recRun.recs = s.recs := by
  rw [State.recRun, State.recPump_busy h 255]
  rfl

/-- A record that the queue has room for waits at its end while the port is busy (17 R518). -/
theorem State.recs_recordAt {s : State} {typ : Nat} (hr : s.recRoute typ ≠ []) (hl : s.recs.length < 32) (hf : s.recFly.isSome = true)
    (ctx phase time : Nat) (body : List Byte) :
    ∃ b, (s.recordAt typ ctx phase time body).recs = s.recs ++ [⟨typ, ctx, phase, time, b, s.recRoute typ⟩] := by
  unfold State.recordAt
  extract_lets b rings r queued
  have hempty : ¬ rings.isEmpty = true := by
    rw [List.isEmpty_iff]
    exact hr
  have hq : queued = { s with recs := s.recs ++ [r] } := if_pos hl
  rw [if_neg hempty, State.recs_recRun_busy (by rw [hq]; exact hf), hq]
  exact ⟨b, rfl⟩

/-- A state with the TELEMETRY record of window k written, where telemetry runs (17 R513; 01 R51). -/
def State.telWritten (s : State) (k : Nat) : State :=
  if s.telRuns then
    let b := (s.bgStart 5).telBody
    (b.2.recordAt 1 0xFF 0xFF (1000000 * k) b.1).bgEnd 5
  else s

theorem State.telAt_telWritten (s : State) (k : Nat) : (s.telWritten k).v .telAt = s.v .telAt := by
  unfold State.telWritten
  split
  · rw [State.v_bgEnd _ (by decide), State.v_recordAt _ _ _ _ _ (by decide), State.v_telBody (by decide), State.v_bgStart _ (by decide)]
  · rfl

/-- What goes before a TELEMETRY record leaves the queue, the port and the route. -/
theorem State.recs_telBody (s : State) : (s.bgStart 5).telBody.2.recs = s.recs ∧ (s.bgStart 5).telBody.2.recFly = s.recFly
    ∧ (s.bgStart 5).telBody.2.recRoute = s.recRoute := by
  have hpart : (s.bgStart 5).telBody.2.part .recs = (s.bgStart 5).part .recs := State.part_telBody (by decide)
  refine ⟨congrArg (fun x => x.1) hpart, congrArg (fun x => x.2.1) hpart, ?_⟩
  have hreg (r : Reg) (i : Nat) : (s.bgStart 5).telBody.2.reg r i = s.reg r i := State.reg_telBody (Nat.zero_testBit _)
  funext typ
  simp only [State.recRoute, State.is, State.rd, hreg]

theorem State.recs_bgEnd (s : State) (act : Nat) : (s.bgEnd act).recs = s.recs := rfl

/-- Where telemetry runs and the queue has room, a record of the window waits at its end while the port is busy. -/
theorem State.recs_telWritten {s : State} (ht : s.telRuns = true) (hr : s.recRoute 1 ≠ []) (hl : s.recs.length < 32)
    (hf : s.recFly.isSome = true) (k : Nat) :
    ∃ b, (s.telWritten k).recs = s.recs ++ [⟨1, 0xFF, 0xFF, 1000000 * k, b, s.recRoute 1⟩] := by
  obtain ⟨hrecs, hfly, hroute⟩ := State.recs_telBody s
  rw [State.telWritten, if_pos ht]
  extract_lets b
  rw [State.recs_bgEnd, ← hrecs, ← hroute]
  exact State.recs_recordAt (s := b.2) (by rw [hroute]; exact hr) (by rw [hrecs]; exact hl) (by rw [hfly]; exact hf) ..

/-- The sums of the next telemetry window start anew, and its counts from where they stand (17 R513). -/
def State.telAnew (s : State) : State :=
  let z := ((s.setV .telM 0).setV .telE 0).setV .telN 0
  ((z.setV .telTrips (z.rd F.CNT_GLOBAL_VAL 0xA0)).setV .telShaped (z.rd F.CNT_GLOBAL_VAL 0xA1)).setV .telSlips z.slipSum

/-- What is none of the marks of the counts reads as the sums were left. -/
theorem State.v_telAnew (s : State) {x : Var} (h1 : x ≠ .telTrips) (h2 : x ≠ .telShaped) (h3 : x ≠ .telSlips) :
    s.telAnew.v x = (((s.setV .telM 0).setV .telE 0).setV .telN 0).v x := by
  rw [State.telAnew, State.v_setV_var _ _ _ _ _ _ _ _ h3, State.v_setV_var _ _ _ _ _ _ _ _ h2, State.v_setV_var _ _ _ _ _ _ _ _ h1]

/-- The close of a telemetry window that is due. -/
theorem exec_telemetryWindow {s : State} {t : Nat} (hu : s.hubUp = true) (hk : s.vn .telAt < max s.time t / 1000000)
    (hd : (s.start t).bgDue 5 = true ∨ s.telRuns = false) :
    exec (.telemetryWindow t) s = .next (((s.start t).setV .telAt (max s.time t / 1000000 : Nat)).telWritten (max s.time t / 1000000)).telAnew := by
  have hg : ((s.start t).hubUp && Nat.blt ((s.start t).vn .telAt) ((s.start t).time / 1000000)
      && ((s.start t).bgDue 5 || !(s.start t).telRuns)) = true := by
    simp only [Bool.and_eq_true, Bool.or_eq_true, Bool.not_eq_true', Nat.blt_eq]
    exact ⟨⟨hu, hk⟩, hd⟩
  exact congrArg Host.Outcome.next (if_pos hg)

/-- A telemetry window starts its sums anew, and its record is written where telemetry runs (17 R513). -/
theorem answers_telemetryWindow {s : State} {t : Nat} (hu : s.hubUp = true) (hk : s.vn .telAt < max s.time t / 1000000)
    (hd : (s.start t).bgDue 5 = true ∨ s.telRuns = false) :
    Answers (.telemetryWindow t) s fun u =>
      u.v .telAt = (max s.time t / 1000000 : Nat) ∧ u.v .telM = 0 ∧ u.v .telE = 0 ∧ u.v .telN = 0
        ∧ (s.telRuns = true → s.recRoute 1 ≠ [] → s.recs.length < 32 → s.recFly.isSome = true → ∃ b, u.recs = s.recs ++
            [⟨1, 0xFF, 0xFF, 1000000 * (max s.time t / 1000000), b, s.recRoute 1⟩]) := by
  refine ⟨_, exec_telemetryWindow hu hk hd, ?_, ?_, ?_, ?_, ?_⟩
  · rw [State.v_telAnew _ (by decide) (by decide) (by decide)]
    simp (disch := decide) only [State.v_setV_var]
    rw [State.telAt_telWritten, State.v_setV_same]
  · rw [State.v_telAnew _ (by decide) (by decide) (by decide)]
    simp (disch := decide) only [State.v_setV_var, State.v_setV_same]
  · rw [State.v_telAnew _ (by decide) (by decide) (by decide)]
    simp (disch := decide) only [State.v_setV_var, State.v_setV_same]
  · rw [State.v_telAnew _ (by decide) (by decide) (by decide), State.v_setV_same]
  · intro ht hr hl hf
    exact State.recs_telWritten (s := (s.start t).setV .telAt (max s.time t / 1000000 : Nat)) ht hr hl hf _

/-- Settles O48: by what a leaf takes and sends at a close or a split, what the hub makes of a COUNTER, what a latch write comes to in each
state of its slot, what the completion of a point leaves, and what the close of a telemetry window writes. -/
theorem countersAndLatches : Obligations.CountersAndLatches := by
  refine ⟨?window, ?context, ?unattributed, ?ended, ?sums, ?complete, ?starts, ?refused, ?ends, ?splits, ?points, ?telemetry⟩
  case window =>
    intro s t l reps hl hn
    exact answers_leafCounterWindow hl hn reps
  case context =>
    intro s t tag c k cidx ctx seq nleaf delta lk w hd hc hlk hi hw hsw
    exact answers_counterMsg_context hd hc hlk hi (hw ▸ hsw)
  case unattributed =>
    intro s t tag c k cidx ctx seq nleaf delta lk hd hc hlk hi
    exact answers_counterMsg_unattributed hd hc hlk hi
  case ended =>
    intro s t tag c k ctx seq nleaf delta lk ua hd hc hlk
    exact answers_counterMsg hd hc hlk (State.cnEnd_counterHub ..)
  case sums =>
    intro s t n lk ctx seq hd hh hs ht
    exact answers_counterSumTimeout hd hh hs ht
  case complete =>
    intro s t k hu hk ht
    exact answers_counterWindowComplete hu hk ht
  case starts =>
    intro s t c k addr p hp
    exact answers_latchStart hp
  case refused =>
    intro s t c k addr p hp h
    exact answers_latchEnd_range hp h
  case ends =>
    intro s t c k addr p x hp hx ha hf
    exact answers_latchEnd hp hx ha hf
  case splits =>
    intro s t l c num reps hl hv ht
    exact answers_leafCntLatch hl hv ht reps
  case points =>
    intro s t c num p hf hp ht
    exact answers_latchPointComplete hf hp ht
  case telemetry =>
    intro s t hu hk hd
    exact answers_telemetryWindow hu hk hd

end Sys2Proof.Machine
